-- ==== Sys2Proof/Word.lean ====
section
/-! DEFINITION. The machine word and the byte. -/

namespace Sys2Proof

/-- A word of the 32-bit buses and registers (R426). -/
abbrev Word := BitVec 32

/-- A byte of memory. -/
abbrev Byte := BitVec 8

end Sys2Proof
end

