-- ==== Sys2Proof/Machine/Bits.lean ====
section
/-! DEFINITION. Bits and bit fields of natural numbers, and two's complement values. -/

namespace Sys2Proof.Machine

/-- The two's complement value of the low `w` bits of `n`. -/
def signed (w n : Nat) : Int :=
  let m := n % 2 ^ w
  if m < 2 ^ (w - 1) then (m : Int) else (m : Int) - (2 ^ w : Nat)

/-- The `w`-bit two's complement pattern of `v`, as a natural number. -/
def pattern (w : Nat) (v : Int) : Nat := (v % ((2 ^ w : Nat) : Int)).toNat

/-- Bit `i` of `n`. -/
def bitOf (n i : Nat) : Bool := (n / 2 ^ i) % 2 == 1

/-- Bits `lo` to `lo + w - 1` of `n`. -/
def bitsOf (n lo w : Nat) : Nat := (n / 2 ^ lo) % 2 ^ w

/-- `b` as 0 or 1. -/
def bit (b : Bool) : Nat := if b then 1 else 0

end Sys2Proof.Machine
end

