-- ==== Sys2Proof/Machine/RegBase.lean ====
section
/-! DEFINITION. Register blocks, register fields and the form of a register table (R5 to R9, R33, R43). -/

namespace Sys2Proof.Machine

/-- The kinds of register block of R43. The two manifests, the three UARTs, the two SPI ports and the 256 berths
each share one layout. -/
inductive BlockKind where
  | sysctl | pwr | clk | harv | man | evr | memctl | logs | tide | tp | rtc | uart | i2ct | spi | lgt | adc | touch
  | crypto | gpio | dma | life | test | gnss | front | plan | lookout | berth | sillage | measq | bitlog
  deriving DecidableEq, Repr

/-- The register blocks of R43. -/
inductive Block where
  | sysctl | pwr | clk | harv | manApp | manSys | evr | memctl | logs | tide | tp | rtc | uart0 | uart1 | uart2 | i2ct
  | spi0 | spi1 | lgt | adc | touch | crypto | gpio | dma | life | test | gnss | front | plan | lookout
  | berth (n : Fin 256)
  | sillage | measq | bitlog
  deriving DecidableEq, Repr

/-- Who writes a block's control registers (R20): the application core and the DMA channels act on the APP side,
the system core on the CONSOLE side. -/
inductive Side where
  | console | app
  deriving DecidableEq, Repr

/-- The code of a side in OWNLVL.OWNER (R33). -/
def Side.code : Side → Nat
  | .console => 0
  | .app => 1

/-- Access codes of register fields (R7). -/
inductive Acc where
  | rw | ro | rc | rs | w1s | w1c | wo
  deriving DecidableEq, Repr

/-- Levels of register fields (R22). -/
inductive Lvl where
  | basic | expert
  deriving DecidableEq, Repr

/-- The reset value of a field: one for the register, or one for each index of the register's family. -/
inductive Rst where
  | val (n : Nat)
  | seq (l : List Nat)
  deriving DecidableEq, Repr

/-- The values a field accepts; a write of another value leaves the field unchanged (R8). -/
inductive Accept where
  | any
  | range (lo hi : Nat)
  | ne (v : Nat)
  | oneOf (l : List Nat)
  | within (n : Nat)   -- the signed value lies in -n to n
  deriving DecidableEq, Repr

/-- One field of a register table. -/
structure FldSpec where
  lo : Nat
  w : Nat
  acc : Acc
  lvl : Lvl
  rst : Rst
  accept : Accept
  deriving DecidableEq, Repr

/-- One register of a register table: its offset, the (count, stride) pairs of a family, and its fields. -/
structure RegSpec where
  ofs : Nat
  dims : List (Nat × Nat)
  fields : List FldSpec
  deriving DecidableEq, Repr

/-- A field of a register at an address. -/
structure Fld where
  addr : Nat
  lo : Nat
  w : Nat
  deriving DecidableEq, Repr

/-- The key under which a field is stored: its register's address and its lowest bit. -/
def Fld.key (f : Fld) : Nat := f.addr * 32 + f.lo

/-- Whether a field accepts the value `v` (R8). -/
def Accept.ok (w : Nat) : Accept → Nat → Bool
  | .any, _ => true
  | .range lo hi, v => lo ≤ v && v ≤ hi
  | .ne x, v => v != x
  | .oneOf l, v => l.contains v
  | .within n, v => -(n : Int) ≤ signed w v && signed w v ≤ n

/-- The reset value at index `i` of the family. -/
def Rst.at (i : Nat) : Rst → Nat
  | .val n => n
  | .seq l => l.getD i 0

/-- The index of `rel` (an offset from the family's first register) within the family, or none. -/
def familyIndex : List (Nat × Nat) → Nat → Option Nat
  | [], rel => if rel = 0 then some 0 else none
  | (c, st) :: ds, rel =>
    let i := rel / st
    if i < c then
      match ds with
      | [] => if rel % st = 0 then some i else none
      | _ => familyIndex ds (rel % st)
    else none

/-- The register of a table at an offset, with its index in its family. -/
def RegSpec.find (ofs : Nat) : List RegSpec → Option (RegSpec × Nat)
  | [] => none
  | r :: rs =>
    match (if r.ofs ≤ ofs then familyIndex r.dims (ofs - r.ofs) else none) with
    | some i => some (r, i)
    | none => RegSpec.find ofs rs

/-- The blocks other than the berths, in the order of R43. -/
def Block.fixedList : List Block :=
  [.sysctl, .pwr, .clk, .harv, .manApp, .manSys, .evr, .memctl, .logs, .tide, .tp, .rtc, .uart0, .uart1, .uart2,
   .i2ct, .spi0, .spi1, .lgt, .adc, .touch, .crypto, .gpio, .dma, .life, .test, .gnss, .front, .plan, .lookout,
   .sillage, .measq, .bitlog]

/-- The address of a block (R43). -/
def Block.base : Block → Nat
  | .sysctl => 0x40000000
  | .pwr => 0x40001000
  | .clk => 0x40002000
  | .harv => 0x40003000
  | .manApp => 0x40004000
  | .manSys => 0x40005000
  | .evr => 0x40006000
  | .memctl => 0x40007000
  | .logs => 0x40008000
  | .tide => 0x40009000
  | .tp => 0x4000A000
  | .rtc => 0x4000B000
  | .uart0 => 0x4000C000
  | .uart1 => 0x4000D000
  | .uart2 => 0x4000E000
  | .i2ct => 0x4000F000
  | .spi0 => 0x40010000
  | .spi1 => 0x40011000
  | .lgt => 0x40012000
  | .adc => 0x40013000
  | .touch => 0x40014000
  | .crypto => 0x40015000
  | .gpio => 0x40016000
  | .dma => 0x40017000
  | .life => 0x40018000
  | .test => 0x40019000
  | .gnss => 0x50000000
  | .front => 0x50001000
  | .plan => 0x50002000
  | .lookout => 0x50003000
  | .berth n => 0x50010000 + n.val * 0x100
  | .sillage => 0x50020000
  | .measq => 0x50021000
  | .bitlog => 0x50022000

/-- The size of a block's address window: 4 KB, and 256 bytes for a berth (R9, R43). -/
def Block.size : Block → Nat
  | .berth _ => 0x100
  | _ => 0x1000

/-- The code of a block (R43). -/
def Block.code : Block → Nat
  | .sysctl => 0x001
  | .pwr => 0x002
  | .clk => 0x003
  | .harv => 0x004
  | .manApp => 0x005
  | .manSys => 0x006
  | .evr => 0x007
  | .memctl => 0x008
  | .logs => 0x009
  | .tide => 0x00A
  | .tp => 0x00B
  | .rtc => 0x00C
  | .uart0 => 0x00D
  | .uart1 => 0x00E
  | .uart2 => 0x00F
  | .i2ct => 0x010
  | .spi0 => 0x011
  | .spi1 => 0x012
  | .lgt => 0x013
  | .adc => 0x014
  | .touch => 0x015
  | .crypto => 0x016
  | .gpio => 0x017
  | .dma => 0x018
  | .life => 0x019
  | .test => 0x01A
  | .gnss => 0x020
  | .front => 0x021
  | .plan => 0x022
  | .lookout => 0x023
  | .sillage => 0x024
  | .measq => 0x025
  | .bitlog => 0x026
  | .berth n => 0x100 + n.val

/-- The short name of a block, as the console writes it (R43, R81), but for the number of a berth. -/
def Block.shortName : Block → String
  | .sysctl => "SYSCTL"
  | .pwr => "PWR"
  | .clk => "CLK"
  | .harv => "HARV"
  | .manApp => "MAN_APP"
  | .manSys => "MAN_SYS"
  | .evr => "EVR"
  | .memctl => "MEMCTL"
  | .logs => "LOGS"
  | .tide => "TIDE"
  | .tp => "TP"
  | .rtc => "RTC"
  | .uart0 => "UART0"
  | .uart1 => "UART1"
  | .uart2 => "UART2"
  | .i2ct => "I2CT"
  | .spi0 => "SPI0"
  | .spi1 => "SPI1"
  | .lgt => "LGT"
  | .adc => "ADC"
  | .touch => "TOUCH"
  | .crypto => "CRYPTO"
  | .gpio => "GPIO"
  | .dma => "DMA"
  | .life => "LIFE"
  | .test => "TEST"
  | .gnss => "GNSS"
  | .front => "FRONT"
  | .plan => "PLAN"
  | .lookout => "LOOKOUT"
  | .sillage => "SILLAGE"
  | .measq => "MEASQ"
  | .bitlog => "BITLOG"
  | .berth _ => "BERTH"

/-- The kind of a block. -/
def Block.kind : Block → BlockKind
  | .sysctl => .sysctl
  | .pwr => .pwr
  | .clk => .clk
  | .harv => .harv
  | .manApp => .man
  | .manSys => .man
  | .evr => .evr
  | .memctl => .memctl
  | .logs => .logs
  | .tide => .tide
  | .tp => .tp
  | .rtc => .rtc
  | .uart0 => .uart
  | .uart1 => .uart
  | .uart2 => .uart
  | .i2ct => .i2ct
  | .spi0 => .spi
  | .spi1 => .spi
  | .lgt => .lgt
  | .adc => .adc
  | .touch => .touch
  | .crypto => .crypto
  | .gpio => .gpio
  | .dma => .dma
  | .life => .life
  | .test => .test
  | .gnss => .gnss
  | .front => .front
  | .plan => .plan
  | .lookout => .lookout
  | .sillage => .sillage
  | .measq => .measq
  | .bitlog => .bitlog
  | .berth _ => .berth

/-- Whether a block's owner cannot change (R32, R34, R43). -/
def Block.fixed : Block → Bool
  | .sysctl | .manApp | .manSys | .uart0 | .crypto | .life | .test => true
  | _ => false

/-- The owner of a block after reset (R43). SYSCTL reads OWNER = 0 (R34). -/
def Block.resetOwner : Block → Side
  | .manApp | .evr | .uart1 | .uart2 | .i2ct | .spi0 | .spi1 | .lgt | .adc | .touch | .gpio | .dma => .app
  | _ => .console

/-- The block whose window holds an address, with the offset in it (R43). -/
def blockAt (a : Nat) : Option (Block × Nat) :=
  if h : 0x50010000 ≤ a ∧ a < 0x50020000 then
    some (.berth ⟨(a - 0x50010000) / 0x100, by omega⟩, a % 0x100)
  else
    (Block.fixedList.find? fun b => b.base ≤ a && a < b.base + 0x1000).map fun b => (b, a - b.base)

/-- The block of a code (R43). -/
def blockOfCode (c : Nat) : Option Block :=
  if h : 0x100 ≤ c ∧ c < 0x200 then some (.berth ⟨c - 0x100, by omega⟩)
  else Block.fixedList.find? fun b => b.code == c

/-- The registers every block holds (R33). -/
def regsCommon : List RegSpec :=
  [⟨0x000, [], [⟨0, 10, .ro, .basic, .val 0, .any⟩, ⟨16, 8, .ro, .basic, .val 0, .any⟩]⟩,
   ⟨0x004, [], [⟨0, 1, .ro, .basic, .val 0, .any⟩, ⟨1, 1, .rw, .basic, .val 0, .any⟩,
     ⟨2, 1, .ro, .basic, .val 0, .any⟩, ⟨8, 1, .ro, .basic, .val 0, .any⟩, ⟨9, 1, .ro, .basic, .val 0, .any⟩,
     ⟨10, 1, .ro, .expert, .val 0, .any⟩]⟩,
   ⟨0x008, [], [⟨0, 16, .rc, .basic, .val 0, .any⟩, ⟨16, 12, .ro, .basic, .val 0, .any⟩,
     ⟨28, 2, .ro, .basic, .val 0, .any⟩, ⟨30, 1, .ro, .basic, .val 0, .any⟩]⟩]

namespace F

/-- The common register fields of R33. -/
def ID_CODE (b : Block) : Fld := ⟨b.base, 0, 10⟩
def ID_REV (b : Block) : Fld := ⟨b.base, 16, 8⟩
def OWNLVL_OWNER (b : Block) : Fld := ⟨b.base + 4, 0, 1⟩
def OWNLVL_LEVEL (b : Block) : Fld := ⟨b.base + 4, 1, 1⟩
def OWNLVL_FIXED (b : Block) : Fld := ⟨b.base + 4, 2, 1⟩
def OWNLVL_OWN_PEND (b : Block) : Fld := ⟨b.base + 4, 8, 1⟩
def OWNLVL_LVL_PEND (b : Block) : Fld := ⟨b.base + 4, 9, 1⟩
def OWNLVL_QUIET (b : Block) : Fld := ⟨b.base + 4, 10, 1⟩
def DENIED_COUNT (b : Block) : Fld := ⟨b.base + 8, 0, 16⟩
def DENIED_LAST_OFS (b : Block) : Fld := ⟨b.base + 8, 16, 12⟩
def DENIED_LAST_WHY (b : Block) : Fld := ⟨b.base + 8, 28, 2⟩
def DENIED_LAST_SIDE (b : Block) : Fld := ⟨b.base + 8, 30, 1⟩

end F

end Sys2Proof.Machine
end

