-- ==== Sys2Proof/Syntax.lean ====
section
/-! DEFINITION. The commands of the block: one constructor of `Instr` for each row of spec/opcode_table.json, with
the row's operands, and the types of the operands. What an event brings from outside (a received byte, a measured
voltage, an accumulator, the time of an edge) is an operand of its row. -/

namespace Sys2Proof.Machine

/-- A general register of a core, g0 to g31 (R426). -/
abbrev Reg := Fin 32

/-- A register that a short operation reaches, g0 to g15 (R432). -/
abbrev SReg := Fin 16

/-- The two cores (R15). -/
inductive CoreId where
  | app | sys
  deriving DecidableEq, Repr

/-- The two manifests (R507). -/
inductive Man where
  | app | sys
  deriving DecidableEq, Repr

/-- The slots of a paired word (R428). -/
inductive Slot where
  | a | b
  deriving DecidableEq, Repr

/-- Bus masters (R476), with the debug port of R636. -/
inductive Master where
  | appFetch | appData | sys | dma (k : Fin 8) | berth | lookout | lighters | dredger | debug
  deriving DecidableEq, Repr

/-- Console sessions (R47). -/
inductive Sess where
  | uart0 | i2c | quay
  deriving DecidableEq, Repr

/-- Register operations of op 0x00 (R431). -/
inductive AluFn where
  | add | sub | and | or | xor | nor | shl | shr | sra | cmplt | cmpltu | cmpeq | min | max | minu | maxu | clz
  | mul | mulh | mulhu | div | divu | rem | remu
  deriving DecidableEq, Repr

/-- The direction of SHI (R430). -/
inductive ShiftDir where
  | shl | shr | sra
  deriving DecidableEq, Repr

/-- The address modes of long loads and stores (R436): the factors of the base update are x1, x2, x4; the scales of
the index are x1, x2, x4, x8. -/
inductive AddrMode where
  | imm (i : BitVec 13)
  | postInc (k : Fin 3)
  | preDec (k : Fin 3)
  | index (rb : Reg) (scale : Fin 4)
  deriving DecidableEq, Repr

/-- The settings whose query form SETTING_QUERY answers (R675, R83). -/
inductive Setting where
  | sysMode | sysCheck | sysBaud | sysNotice | level | levelBlock (b : Block)
  | pwrPoint | pwrPath | pwrReg | pwrDomain (d : Fin 14) | pwrBias (d : Fin 14) | noteSleep | noteRetain
  | clkSrc (i : Fin 16) | clkGate (i : Fin 16) | clkMon (s : Fin 3)
  | harvMppt | harvXmit | harvOvp
  | gnssMode | gnssBurst | planSys | planElev | berthSpacing (n : Fin 256) | berthLoop (n : Fin 256)
  | nmea | nmeaSet | nmeaRate
  | tideSrc | tideScale | tideLeap | tideRate | tideLoop | tp | tpSet | tpDelay | tpPolicy
  | rtcMode | rtcSet | rtcAlarm (k : Fin 2) | rtcTrickle | logProtect
  | adcMode | adcRef | touchMode | touchOntime | lgtDiv (n : Fin 8) | signFix
  deriving DecidableEq, Repr

/-- A satellite (R93): its system, its number, and for GLONASS its channel k + 7. -/
structure Sv where
  sys : Fin 7
  svn : BitVec 8
  k : BitVec 4
  deriving DecidableEq, Repr

/-- A satellite predicted in view (R104): elevation and azimuth in degrees, and the signals it broadcasts, as bits of
their codes (R91, R93). -/
structure InView where
  sv : Sv
  el : Int
  az : Nat
  sigs : BitVec 16
  deriving DecidableEq, Repr

/-- An aid (R136): position in 10^-7 degree and mm, Tide time in 2^-32 s, accuracy in mm. -/
structure Aid where
  pos : Option (Int × Int × Int)
  time : Option Nat
  acc : Option Nat
  deriving DecidableEq, Repr

/-- The restarts of R119. -/
inductive Restart where
  | cold | warm | hot
  deriving DecidableEq, Repr

/-- A loop argument of `BERTH n LOOP` (R187): a bandwidth in the field's steps, or OPEN. -/
inductive LoopArg where
  | bw (n : Nat)
  | open_
  deriving DecidableEq, Repr

/-- The ports of `NMEA` (R242). -/
inductive NmeaPort where
  | uart0 | uart1 | i2c
  deriving DecidableEq, Repr

/-- The strongest cell of a search (R138): code phase in 1/16 cell, GAL-E1 segment, Doppler in Hz, peak over mean in
0.25 dB, and the Tide time of the first block in 2^-56 s. -/
structure Peak where
  phase : BitVec 16
  seg : Fin 4
  dop : Int
  ratio : BitVec 8
  at_ : Nat
  deriving DecidableEq, Repr

/-- What a dump brings from the correlators and the loop unit (R168, R172, R178): the I and Q sums of the five code arms,
VE to VL; the samples clocked since the last boundary before and after the loop unit's last write of the increments; the code
and carrier discriminators; the C/N0 estimate; the FLL discriminator in mHz; the increments the loop filters give; and, once the
berth knows its boundaries, the position in the secondary code or symbol. -/
structure DumpData where
  accs : List Word
  before : Nat
  after : Nat
  code : BitVec 16
  carr : BitVec 16
  cn0 : BitVec 10
  freq : Int
  codeInc : Word
  carrInc : Word
  sync : Option Nat
  deriving DecidableEq, Repr

/-- What a navigation unit holds of ephemeris and almanac (R119, R204). -/
inductive NavKind where
  | ephemeris | almanac | time | other
  deriving DecidableEq, Repr

/-- A completed navigation unit (R229, R230): its kind, its check result as coded in CHK, whether it was received
inverted, the time of its first symbol, its bits as a number (first bit most significant), the epoch whose basis holds
its first symbol, the predicted symbols it held, which word of the message it is, the issue of data of an ephemeris (R115), and
the week number it carries (R240). -/
structure NavUnit where
  unit : Fin 15
  kind : NavKind
  chk : Fin 4
  inv : Bool
  sec : Word
  frac : Word
  data : Nat
  first : BitVec 16
  symbols : Nat
  word : Nat
  iod : Nat
  week : Option Nat
  deriving DecidableEq, Repr

/-- What the berth's code phase does not show of an entry (R222, R226): the ms of the satellite system's time, whole seconds of
R112 removed, at which the primary code period of the last dump boundary was sent; the samples from that boundary to tE; and the
pseudorange deviation in cm. -/
structure Meas where
  berth : Fin 256
  ms : Nat
  since : Nat
  sd : BitVec 16
  deriving DecidableEq, Repr

/-- What the clearing monitor of a berth measures in one ms (R197): C/N0 in 0.1 dB-Hz, the code discriminator in 0.01 chip and
the carrier discriminator in 0.01 cycle. -/
structure ClearMs where
  cn0 : Nat
  code : Int
  carr : Int
  deriving DecidableEq, Repr

/-- A prediction for the next start (R194): the Tide time of the start in 2^-56 s; code phase (chip and 2^-32 chip), position in
the secondary code or symbol, carrier fraction in 2^-32 cycle, Doppler in 2^-10 Hz and its rate in 2^-10 Hz/s; uncertainties in
0.01 chip and 0.1 Hz; and the symbols from the start on, none where a symbol is masked as unpredicted. -/
structure Pred where
  berth : Fin 256
  at_ : Nat
  chip : Nat
  frac : Word
  sec : Nat
  carr : Word
  dop : Int
  rate : Int
  codeU : Nat
  dopU : Nat
  syms : List (Option Bool)
  deriving DecidableEq, Repr

/-- The residuals of an entry against the provisional branch (R259): pseudorange in mm and Doppler in mHz. -/
structure Residual where
  berth : Fin 256
  pr : Nat
  dop : Nat
  deriving DecidableEq, Repr

/-- The result of a satellite's OSNMA data set (R115): NONE, PENDING, AUTH, FAILED. -/
inductive AuthState where
  | none | pending | auth | failed
  deriving DecidableEq, Repr

/-- What the filter solves from the cleared entries that remain (R112, R233 to R240): which offsets the satellites broadcast
and which are estimated, in quarter-ns, by system (Galileo, BeiDou, GLONASS, QZSS, NavIC); whether an SBAS correction was
applied; GPS less UTC from a broadcast, and an announced value with the Tide seconds at which it applies; clock bias in
quarter-ns and drift in 10^-12; accuracies in cm; position, height and geoid height; the dilutions in 0.01; velocity in cm/s
with speed and time accuracy; the course in 0.01 degree; the figures of GST; and the distance from an aided position in mm. -/
structure Solution where
  res : List Residual
  bcastOfs : List (Option Int)
  estOfs : List Int
  sbas : Bool
  leap : Option Int
  leapNext : Option (Int × Nat)
  clkb : Int
  drift : Int
  hacc : Nat
  vacc : Nat
  lat : Int
  lon : Int
  hgt : Int
  geoid : Int
  pdop : Nat
  hdop : Nat
  vdop : Nat
  vn : Int
  ve : Int
  vu : Int
  sacc : Nat
  tacc : Nat
  course : Nat
  gst : List Nat
  aidMm : Nat
  deriving DecidableEq, Repr

/-- The result of a subframe's tag (R113, R115): the Galileo satellite, the kind of data that the tag covers (ADKD), the issue
of data of the data set, and the state that the tag gives it. -/
structure TagResult where
  svn : BitVec 8
  adkd : Nat
  iod : Nat
  state : AuthState
  deriving DecidableEq, Repr
/-- An alarm's compare values and mask (R311, R323): the words C0 and C1 of the calendar form, or the 40-bit value and
mask of the binary form. -/
inductive AlarmSet where
  | calendar (c0 c1 : BitVec 32)
  | binary (cmp mask : BitVec 40)
  deriving DecidableEq, Repr

/-- A calendar date and time, as the console writes it (R308). -/
structure DateTime where
  year : Nat
  month : Nat
  day : Nat
  hour : Nat
  minute : Nat
  second : Nat
  deriving DecidableEq, Repr

/-- The sleep depths that `NOTE SLEEP` sets (R352). -/
inductive SleepDepth where
  | top | heart | base
  deriving DecidableEq, Repr

/-- The two cases of R333. -/
inductive BorCause where
  | noSource | vsysLow
  deriving DecidableEq, Repr

/-- The gate enables of an island (R390). -/
inductive Gate where
  | run | slp | dslp
  deriving DecidableEq, Repr

/-- The clock sources that start and fail (R382). -/
inductive ClockSource where
  | xtalL | xtalG | hfo | syspll | rfsyn | fll
  deriving DecidableEq, Repr

/-- The lifecycle states (R420). -/
inductive LifeState where
  | blank | test | provisioned | deployed | returned | scrapped
  deriving DecidableEq, Repr

/-- The instructions of the test access port (R632). -/
inductive TapInstr where
  | extest | samplePreload | idcode | clamp | highz | debug | bypass
  deriving DecidableEq, Repr

/-- Which chain `TEST RF` reads, and where in it (R83). -/
inductive RfStage where
  | lna | mix | full
  deriving DecidableEq, Repr

/-- What `TEST PIN` drives (R83). -/
inductive PinLevel where
  | low | high | z
  deriving DecidableEq, Repr

end Sys2Proof.Machine

namespace Sys2Proof

open Sys2Proof.Machine

/-- The commands: one constructor per row of the table of operations and events. -/
inductive Instr where
  /-- REGISTER_WRITE (R21). A write to a register that has no row of its own lands only from the owner's side and only in the fields its level allows. -/
  | registerWrite (m : Master) (addr : Word) (lanes : BitVec 4) (value : Word)
  /-- READ_CLEAR (R7). A read of an RC field returns its value and clears it, but only when the read comes from the owner's side. -/
  | readClear (m : Master) (addr : Word)
  /-- SYSCTL_OWN_WRITE (R25). An application-core write to SYSCTL_OWN requests an ownership change for a block, or cancels or replaces a pending one. -/
  | sysctlOwnWrite (value : Word)
  /-- OWNERSHIP_CHANGE (R26). At the block's quiet point a pending owner change takes effect, and the block is left in BASIC with its expert fields derived afresh. -/
  | ownershipChange (b : Block)
  /-- LEVEL_WRITE (R30). The owner writes OWNLVL.LEVEL to request a level change for its block. -/
  | levelWrite (side : Side) (b : Block) (expert : Bool)
  /-- LEVEL_CHANGE (R31). At the quiet point a pending level change takes effect, and a change to BASIC re-derives every expert field. -/
  | levelChange (b : Block)
  /-- CONSOLE_CHARACTER (R62). A character received by a console session is counted, kept and echoed, or makes the line invalid. -/
  | consoleCharacter (x : Sess) (c : Byte) (flagged : Bool)
  /-- BACKSPACE (R62). BS or DEL removes the last character of the partial line, with its echo. -/
  | backspace (x : Sess)
  /-- CTRL_C (R62). Ctrl-C discards the partial line, prints the prompt and withdraws the session's long commands that have not yet started. -/
  | ctrlC (x : Sess)
  /-- LINE_TERMINATOR (R55). A CR ends a host line, which is queued for execution in its session. -/
  | lineTerminator (x : Sess)
  /-- COMMAND_EXECUTE (R68). At its turn, a line is checked in order and then executed, or answered with the error of the first check that fails. -/
  | commandExecute
  /-- OUTPUT_ROOM (R75). Transmission makes room in a session's output queue, and a waiting reply line or notice is queued. -/
  | outputRoom (x : Sess)
  /-- AUTOBAUD_CHARACTER (R77). While autobaud is armed, a received character is measured, and two agreeing CRs set the rate. -/
  | autobaudCharacter (c : Byte) (rate : Nat)
  /-- BAUD_CHANGE (R78). A new UART0 rate takes effect once the final byte of the SYS BAUD reply has left. -/
  | baudChange
  /-- MODE_CHANGE (R673). A new session mode takes effect once the final byte of the SYS MODE reply has left. -/
  | modeChange (x : Sess)
  /-- QUAY_GO (R672). The application core sets GO to submit QUAY_LINE as one complete line. -/
  | quayGo
  /-- QUAY_BREAK (R52). Setting BREAK in the mailbox has the effect of Ctrl-C in the inner quay session. -/
  | quayBreak
  /-- QUAY_LINE_COPY (R672). The system firmware copies a submitted mailbox line within 50 us, clears GO, and counts the copy as the line's terminator. -/
  | quayLineCopy
  /-- QUAY_RTAIL_WRITE (R52). The application core advances the reply-ring tail, and a value of 3584 or more is ignored. -/
  | quayRtailWrite (value : BitVec 12)
  /-- SETTING_QUERY (R675). The query form of a setting command reports the stored values. -/
  | settingQuery (x : Sess) (q : Setting)
  /-- SYS_VER_QUERY (R83). SYS VER? reports the part, silicon revision, firmware version and lineage. -/
  | sysVerQuery (x : Sess)
  /-- SYS_ID_QUERY (R612). SYS ID? reports DEVID. -/
  | sysIdQuery (x : Sess)
  /-- SYS_MODE (R673). SYS MODE selects TYPED or GENERATED mode for the session. -/
  | sysMode (x : Sess) (typed : Bool)
  /-- SYS_CHECK (R67). SYS CHECK sets the session's check-suffix setting from the next line on. -/
  | sysCheck (x : Sess) (on : Bool)
  /-- SYS_BAUD (R78). SYS BAUD sets the UART0 rate, or re-arms autobaud. -/
  | sysBaud (x : Sess) (rate : Option Nat)
  /-- SYS_NOTICE (R73). SYS NOTICE sets the highest notice class the session shows. -/
  | sysNotice (x : Sess) (cls : Fin 4)
  /-- SYS_STAT_QUERY (R425). SYS STAT? reports uptime, reset cause and system state. -/
  | sysStatQuery (x : Sess)
  /-- SYS_RESET (R401). SYS RESET replies OK and then resets APP or all switched domains. -/
  | sysReset (x : Sess) (all : Bool)
  /-- OWN (R79). OWN requests an owner change for a block and replies APPLIED or PENDING. -/
  | own (x : Sess) (b : Block) (owner : Side)
  /-- OWN_QUERY (R81). OWN? reports the owner and level of one block or of every block. -/
  | ownQuery (x : Sess) (b : Option Block)
  /-- LEVEL_SESSION (R80). LEVEL BASIC or EXPERT sets the session level. -/
  | levelSession (x : Sess) (expert : Bool)
  /-- LEVEL_BLOCK (R80). LEVEL with a block name requests a level change for a console-owned block. -/
  | levelBlock (x : Sess) (b : Block) (expert : Bool)
  /-- PWR_POINT (R343). PWR POINT requests a change of operating point. -/
  | pwrPoint (x : Sess) (p : Fin 3)
  /-- PWR_PATH (R328). PWR PATH selects the power-path policy. -/
  | pwrPath (x : Sess) (harvest : Bool)
  /-- PWR_REG (R340). PWR REG switches VCORE between the buck converter and the LDO, with preparation and a ledger check. -/
  | pwrReg (x : Sess) (ldo : Bool)
  /-- PWR_LEDGER_QUERY (R674). PWR LEDGER? reports the ledger sum and limit. -/
  | pwrLedgerQuery (x : Sess)
  /-- PWR_DOMAIN (R349). PWR DOMAIN holds a domain on, or removes the hold and switches the domain off. -/
  | pwrDomain (x : Sess) (d : Fin 14) (on : Bool)
  /-- PWR_BIAS (R344). PWR BIAS sets a domain's body bias in EXPERT. -/
  | pwrBias (x : Sess) (d : Fin 14) (bias : Fin 3)
  /-- NOTE_SLEEP (R352). NOTE SLEEP sets the requested sleep depth. -/
  | noteSleep (x : Sess) (depth : SleepDepth)
  /-- NOTE_RETAIN (R361). NOTE RETAIN replaces the Heart-note retention list. -/
  | noteRetain (x : Sess) (banks : BitVec 24) (itcm dtcm : Bool)
  /-- NOTE_WAKE_QUERY (R357). NOTE WAKE? reports the last wake record. -/
  | noteWakeQuery (x : Sess)
  /-- NOTE_HIST_QUERY (R358). NOTE HIST? reports the eight records of the wake ring. -/
  | noteHistQuery (x : Sess)
  /-- CLK_QUERY (R400). CLK? reports the state of each clock source, or the source of one island. -/
  | clkQuery (x : Sess) (island : Option (Fin 16))
  /-- CLK_SRC (R400). CLK SRC requests a new clock source for an island. -/
  | clkSrc (x : Sess) (island : Fin 16) (src : Fin 8)
  /-- CLK_GATE (R390). CLK GATE sets an island's RUN, SLP or DSLP gate enable. -/
  | clkGate (x : Sess) (island : Fin 16) (gate : Gate) (on : Bool)
  /-- CLK_MON (R391). CLK MON sets a monitor's window. -/
  | clkMon (x : Sess) (k : Fin 3) (window : BitVec 16)
  /-- HARV_QUERY (R381). HARV? reports the store voltage, band and input power. -/
  | harvQuery (x : Sess)
  /-- HARV_MPPT (R364). HARV MPPT selects the FRAC or FIXED operating point together with its value. -/
  | harvMppt (x : Sess) (fixed : Bool) (value : Nat)
  /-- HARV_XMIT (R368). HARV XMIT sets the XMIT_OK threshold. -/
  | harvXmit (x : Sess) (level : Fin 71)
  /-- HARV_OVP (R366). HARV OVP selects the overvoltage level. -/
  | harvOvp (x : Sess) (high : Bool)
  /-- HARV_PERMIT_QUERY (R381). HARV PERMIT? reports the permit state without clearing the counters. -/
  | harvPermitQuery (x : Sess)
  /-- GNSS_MODE (R99). GNSS MODE requests a receiver mode, which takes effect at the quiet point. -/
  | gnssMode (x : Sess) (m : Fin 7)
  /-- GNSS_MODE_REGISTER_WRITE (R100). A write to GNSS_MODE.MODE requests a mode change, which stays pending until the quiet point. -/
  | gnssModeRegisterWrite (side : Side) (m : Fin 8)
  /-- GNSS_MODE_DONE (R100). At the receiver's quiet point the pending mode takes effect, and berths and domains follow. -/
  | gnssModeDone
  /-- GNSS_BURST (R96). GNSS BURST sets the burst period and window. -/
  | gnssBurst (x : Sess) (period window : Option Nat)
  /-- GNSS_SNAP (R145). GNSS SNAP starts a SNAPSHOT capture of n ms. -/
  | gnssSnap (x : Sess) (ms : Nat)
  /-- GNSS_AID (R137). GNSS AID supplies an aiding position and time, which are discarded while a cleared fix is held. -/
  | gnssAid (x : Sess) (a : Aid)
  /-- GNSS_RESTART (R119). GNSS RESTART requests a cold, warm or hot restart at the next quiet point. -/
  | gnssRestart (x : Sess) (kind : Restart)
  /-- RESTART_APPLY (R119). At the quiet point the restart clears its data and releases the berths. -/
  | restartApply
  /-- GNSS_FIX_QUERY (R246). GNSS FIX? reports the last cleared fix, or ER 401. -/
  | gnssFixQuery (x : Sess)
  /-- GNSS_STAT_QUERY (R83). GNSS STAT? reports the mode, satellite counts and jamming indicators. -/
  | gnssStatQuery (x : Sess)
  /-- PLAN_SYS (R121). PLAN SYS enables or disables a system from the next replan. -/
  | planSys (x : Sess) (sys : Fin 7) (on : Bool)
  /-- PLAN_ELEV (R121). PLAN ELEV sets the elevation mask. -/
  | planElev (x : Sess) (deg : Nat)
  /-- PLAN_QUERY (R120). PLAN? reports the occupied slots and their bindings. -/
  | planQuery (x : Sess) (slot : Option (Fin 128))
  /-- PLAN_ASSIGN (R111). PLAN ASSIGN binds a signal of a slot to a berth in EXPERT. -/
  | planAssign (x : Sess) (slot : Fin 128) (sig : Fin 14) (berth : Fin 256)
  /-- BERTH_QUERY (R186). BERTH n? reports the berth's signal, state, C/N0, bond and lock. -/
  | berthQuery (x : Sess) (n : Fin 256)
  /-- BERTH_SPACING (R187). BERTH n SPACING sets the arm spacings, staged under R169. -/
  | berthSpacing (x : Sess) (n : Fin 256) (el vevl : Option Nat)
  /-- BERTH_LOOP (R187). BERTH n LOOP sets the loop bandwidths, or opens the loops. -/
  | berthLoop (x : Sess) (n : Fin 256) (pll fll dll : Option LoopArg)
  /-- MEAS_QUERY (R246). MEAS? reports the cleared entries of the last closed epoch. -/
  | measQuery (x : Sess)
  /-- MEAS_BOND_QUERY (R246). MEAS? BOND=1 reports every entry of the epoch and marks those still in bond. -/
  | measBondQuery (x : Sess)
  /-- BITS_QUERY (R246). BITS? reports the last five decoded units of a signal. -/
  | bitsQuery (x : Sess) (v : Sv) (sig : Fin 14)
  /-- NMEA_ON_OFF (R242). NMEA turns NMEA output on or off on a port. -/
  | nmeaOnOff (x : Sess) (on : Bool) (port : Option NmeaPort)
  /-- NMEA_SET (R242). NMEA SET chooses which sentences are sent. -/
  | nmeaSet (x : Sess) (set : BitVec 9)
  /-- NMEA_RATE (R242). NMEA RATE sets the number of epochs per sentence set. -/
  | nmeaRate (x : Sess) (n : Nat)
  /-- TIDE_QUERY (R280). TIDE? reports the Tide time, scale, source, state, age and error. -/
  | tideQuery (x : Sess)
  /-- TIDE_SRC (R277). TIDE SRC selects the discipline source. -/
  | tideSrc (x : Sess) (src : Fin 4)
  /-- TIDE_SCALE (R273). TIDE SCALE selects the time scale, applied as a step. -/
  | tideScale (x : Sess) (scale : Fin 6)
  /-- TIDE_LEAP (R274). TIDE LEAP sets the current leap-second count. -/
  | tideLeap (x : Sess) (leap : Int)
  /-- TIDE_RATE (R295). TIDE RATE writes the rate adjustment while the loop is open. -/
  | tideRate (x : Sess) (adj : Int)
  /-- TIDE_LOOP (R278). TIDE LOOP sets the loop gains and opens or closes the loop. -/
  | tideLoop (x : Sess) (kp ki : Option (BitVec 16)) (isOpen : Option Bool)
  /-- TT_ON_OFF (R282). TT enables or disables serial time transfer on a port, rejecting any open exchange. -/
  | ttOnOff (x : Sess) (on : Bool) (uart1 : Option Bool)
  /-- TT_SYNC (R283). The host line TT SYNC opens an exchange and is stamped t2 on receipt. -/
  | ttSync (x : Option Sess) (n : BitVec 16) (t2 : Nat)
  /-- TT_FOLLOW (R283). The host line TT FOLLOW supplies t1, and the device answers with TT DREQ. -/
  | ttFollow (x : Option Sess) (n : BitVec 16) (t1 t3 : Nat)
  /-- TT_DRESP (R283). The host line TT DRESP supplies t4, and the device forms OFFSET and DELAY and accepts or rejects the exchange. -/
  | ttDresp (x : Option Sess) (n : BitVec 16) (t4 : Nat)
  /-- TT_EXCHANGE_TIMEOUT (R284). An open exchange that receives no FOLLOW or DRESP within 2 s is rejected. -/
  | ttExchangeTimeout
  /-- TT_QUERY (R283). TT? reports the last offset, delay and exchange number. -/
  | ttQuery (x : Sess)
  /-- TP_ON_OFF (R293). TP turns the time pulse on or off, subject to the ledger. -/
  | tpOnOff (x : Sess) (on : Bool)
  /-- TP_SET (R289). TP SET stages the period, width, polarity and scale. -/
  | tpSet (x : Sess) (period width : Option Nat) (neg : Option Bool) (scale : Option (Fin 8))
  /-- TP_DELAY (R294). TP DELAY stages the cable delay. -/
  | tpDelay (x : Sess) (quarters : Int)
  /-- TP_POLICY (R291). TP POLICY stages the loss-of-discipline policy. -/
  | tpPolicy (x : Sess) (flag : Bool)
  /-- RTC_MODE (R299). RTC MODE selects the CALENDAR or BINARY representation. -/
  | rtcMode (x : Sess) (calendar : Bool)
  /-- RTC_SET (R308). RTC SET stages a time and applies it at once or at the next second. -/
  | rtcSet (x : Sess) (d : DateTime) (frac : Option (BitVec 15)) (atSecond : Bool)
  /-- RTC_SHIFT (R310). RTC SHIFT starts a sub-second shift. -/
  | rtcShift (x : Sess) (count : Int)
  /-- RTC_ALARM (R311). RTC ALARM sets an alarm time and mask. -/
  | rtcAlarm (x : Sess) (k : Fin 2) (a : AlarmSet)
  /-- RTC_TRICKLE (R322). RTC TRICKLE sets the trickle charger's resistor and diode. -/
  | rtcTrickle (x : Sess) (res : Fin 4) (diode : Bool)
  /-- RTC_OSF_QUERY (R83). RTC OSF? reports the oscillator-stopped flag. -/
  | rtcOsfQuery (x : Sess)
  /-- RTC_OSF_CLEAR (R317). RTC OSF CLEAR clears OSF only if the time has been set since OSF was set. -/
  | rtcOsfClear (x : Sess)
  /-- LOG_QUERY (R506). LOG? reports the used bytes, the protection and the wear. -/
  | logQuery (x : Sess)
  /-- LOG_READ (R506). LOG READ reports bytes of the log store in hex. -/
  | logRead (x : Sess) (addr length : Nat)
  /-- LOG_WRITE (R506). LOG WRITE writes bytes within one user page as a journaled write. -/
  | logWrite (x : Sess) (addr : Nat) (data : List Byte)
  /-- LOG_PROTECT (R493). LOG PROTECT sets BP and replies when its write ends. -/
  | logProtect (x : Sess) (bp : Fin 4)
  /-- LOG_TALLY_QUERY (R506). LOG TALLY? reports a live tally cell. -/
  | logTallyQuery (x : Sess) (cell : Fin 64)
  /-- ADC_MODE (R592). ADC MODE sets the converter mode. -/
  | adcMode (x : Sess) (mode : Fin 4)
  /-- ADC_REF (R592). ADC REF selects and enables the reference. -/
  | adcRef (x : Sess) (ext on : Bool)
  /-- ADC_READ_QUERY (R592). ADC READ? runs one ECONOMY conversion of a channel and reports it. -/
  | adcReadQuery (x : Sess) (ch : Fin 28)
  /-- TOUCH_MODE (R607). TOUCH MODE sets the touch mode. -/
  | touchMode (x : Sess) (mode : Fin 4)
  /-- TOUCH_ONTIME (R607). TOUCH ONTIME sets the stuck-key time. -/
  | touchOntime (x : Sess) (sec : Nat)
  /-- TOUCH_TEST (R607). TOUCH TEST starts the self-test and replies OK once it has started. -/
  | touchTest (x : Sess)
  /-- LGT_QUERY (R555). LGT n? reports an engine's state, PC, FIFO levels and library. -/
  | lgtQuery (x : Sess) (n : Fin 8)
  /-- LGT_LOAD (R555). LGT n LOAD writes instruction words under R548. -/
  | lgtLoad (x : Sess) (n : Fin 8) (start : Fin 32) (words : List Word)
  /-- LGT_RUN (R547). LGT n RUN starts an engine. -/
  | lgtRun (x : Sess) (n : Fin 8)
  /-- LGT_STOP (R547). LGT n STOP halts an engine. -/
  | lgtStop (x : Sess) (n : Fin 8)
  /-- LGT_CLRSHIFT (R550). LGT n CLRSHIFT clears an engine's shift state. -/
  | lgtClrshift (x : Sess) (n : Fin 8)
  /-- LGT_DIV (R538). LGT n DIV sets an engine's clock divider. -/
  | lgtDiv (x : Sess) (n : Fin 8) (ratio : Nat)
  /-- SIGN_ATTEST (R620). SIGN ATTEST queues and signs an attestation statement and reports it. -/
  | signAttest (x : Sess) (nonce : List Byte)
  /-- SIGN_FIX (R616). SIGN FIX ON or OFF sets automatic fix signing. -/
  | signFix (x : Sess) (on : Bool)
  /-- SIGN_FIX_NOW (R616). SIGN FIX NOW queues the mirrored fix for signing and replies once it has been signed. -/
  | signFixNow (x : Sess)
  /-- SIGN_KEY_QUERY (R623). SIGN KEY? reports the public key. -/
  | signKeyQuery (x : Sess)
  /-- LIFE_QUERY (R84). LIFE? reports the lifecycle state, the fuse counts and the confirmation code. -/
  | lifeQuery (x : Sess)
  /-- LIFE_GO (R422). LIFE GO makes an accepted lifecycle transition: intent record, wipe, fuses and reset. -/
  | lifeGo (x : Sess) (target : LifeState) (confirm : Option (BitVec 16)) (herit : BitVec 3)
  /-- LIFE_IMAGE_LOAD (R413). LIFE IMAGE LOAD begins, or resumes, a binary load into the inactive slot. -/
  | lifeImageLoad (x : Sess) (i2c : Bool) (length : Nat)
  /-- IMAGE_DATA_BYTE (R413). A binary byte of an image load is written into the slot, and progress is recorded per sector. -/
  | imageDataByte (b : Byte)
  /-- IMAGE_GAP_TIMEOUT (R413). A gap of more than 5 s between image bytes ends the load, leaving the slot INCOMPLETE. -/
  | imageGapTimeout
  /-- LIFE_IMAGE_COMMIT (R416). LIFE IMAGE COMMIT verifies the inactive slot and marks it NEXT. -/
  | lifeImageCommit (x : Sess)
  /-- LIFE_IMAGE_QUERY (R425). LIFE IMAGE? reports the state and version of each slot. -/
  | lifeImageQuery (x : Sess)
  /-- TEST_MEM (R83). TEST MEM starts a test of one SRAM bank. -/
  | testMem (x : Sess) (bank : Fin 24)
  /-- TEST_MEM_DONE (R83). The end of a memory test sends its notice. -/
  | testMemDone
  /-- TEST_RF (R83). TEST RF reports level readings of an RF chain. -/
  | testRf (x : Sess) (l5 : Bool) (stage : RfStage)
  /-- TEST_PIN (R83). TEST PIN drives a pin to 0, 1 or Z. -/
  | testPin (x : Sess) (pin : Fin 48) (level : PinLevel)
  /-- ANTENNA_SHORT (R88). After 10 ms at the current limit the antenna bias switches off and FRONT_ANT_SHORT is raised. -/
  | antennaShort
  /-- REPLAN (R104). At a quiet point the firmware replans slots, ranks signals and binds them to berths. -/
  | replan (view : List InView)
  /-- LANE_ASSIGN (R133). A free lane takes the next queued signal and starts its search. -/
  | laneAssign (lane : Fin 16) (dop : Int) (unc : Nat)
  /-- BUFFER_RECORDING (R132). When no BUFFER search runs, a new recording of the needed streams starts. -/
  | bufferRecording (ms : Nat) (data : List (List (BitVec 4 × BitVec 4)))
  /-- LANE_START (R150). A START write begins a lane search, or sets ERR when the search breaks R128. -/
  | laneStart (side : Side) (lane : Fin 16)
  /-- LANE_ABORT (R150). An ABORT write stops a lane at the end of its current block without handoff. -/
  | laneAbort (side : Side) (lane : Fin 16)
  /-- LANE_SEARCH_END (R138). A lane finishes its search, reports found or not found, and hands off a detection. -/
  | laneSearchEnd (lane : Fin 16) (peak : Option Peak)
  /-- LANE_CODE_READ (R151). A read of LANEn_CODE returns a found or not-found lane to idle. -/
  | laneCodeRead (side : Side) (lane : Fin 16)
  /-- BERTH_HANDOFF (R177). At its next dump boundary a berth in WAIT or LOST takes a pending handoff and enters PULL. -/
  | berthHandoff (n : Fin 256) (fresh : Option Pred)
  /-- LOOKOUT_SNAP_GO (R145). A GO write starts a SNAPSHOT capture. -/
  | lookoutSnapGo (side : Side)
  /-- SNAPSHOT_CAPTURE_END (R146). At the end of a capture the header is written, VALID is set and GNSS_SNAP_DONE is sent. -/
  | snapshotCaptureEnd (samples : List (BitVec 4 × BitVec 4)) (err : Word)
  /-- LOOKOUT_SNAP_RELEASE (R147). A RELEASE write discards the capture and clears VALID. -/
  | lookoutSnapRelease (side : Side)
  /-- BERTH_ENABLE (R157). Setting EN starts a berth in WAIT. -/
  | berthEnable (side : Side) (n : Fin 256)
  /-- BERTH_DISABLE (R157). Clearing EN stops a berth at once, discarding the partial interval. -/
  | berthDisable (side : Side) (n : Fin 256)
  /-- BERTH_SIGNAL_CHANGE (R157). At the quiet point a changed signal or satellite takes effect and the berth restarts in WAIT. -/
  | berthSignalChange (n : Fin 256)
  /-- BERTH_DUMP (R168). At the end of an interval a berth's code arms dump, and the loop unit updates the discriminators, lock and increments. -/
  | berthDump (n : Fin 256) (d : DumpData)
  /-- PD_DUMP (R166). The prompt-data arm dumps at a symbol boundary and passes its symbol to the decoder. -/
  | pdDump (n : Fin 256) (ip qp : Word) (sym : Option (Bool × Nat × Nat)) (unit : Option NavUnit) (preamble : Option (Bool × Bool))
  /-- BERTH_INC_WRITE (R169). An owner write to CODE_INC or CARR_INC is staged for the next eligible boundary. -/
  | berthIncWrite (side : Side) (n : Fin 256) (carrier : Bool) (value : Word)
  /-- BERTH_LOAD_CODE (R169). LOAD.CODE stages a code phase load. -/
  | berthLoadCode (side : Side) (n : Fin 256)
  /-- BERTH_LOAD_CARR (R171). LOAD.CARR stages a carrier phase load, which breaks carrier continuity. -/
  | berthLoadCarr (side : Side) (n : Fin 256)
  /-- BERTH_DUMP_READ (R156). A read of BERTHn_DUMP captures the dump group into a snapshot. -/
  | berthDumpRead (n : Fin 256)
  /-- SIDE_PEAK_CHECK (R164). Every 20 ms of dumps a BOC berth forms its side-peak ratios, and then sets BOC_OK, moves the prompt or refuses the start. -/
  | sidePeakCheck (n : Fin 256)
  /-- PARTNER_START (R176). Once its partner is cleared and synchronised, a partner start begins its code sweep. -/
  | partnerStart (n : Fin 256) (sec : Nat)
  /-- PARTNER_DWELL_END (R176). A 10 ms dwell ends, and the berth enters PULL or continues or refuses the sweep. -/
  | partnerDwellEnd (n : Fin 256) (arms : List Nat)
  /-- LOCK_LOSS (R180). A berth below LOCK_THR for LOSS_MS enters LOST, refuses its in-bond results and is queued for recovery. -/
  | lockLoss (n : Fin 256)
  /-- BURST_WAKE (R191). The burst timer fires, the device leaves Heart-note and RF settling begins. -/
  | burstWake
  /-- BURST_WINDOW_START (R192). Once XTAL-G and RFSYN are ready, the window starts and seeded berths load their seeds. -/
  | burstWindowStart (tenths : Option (Fin 21))
  /-- EPOCH_INSTANT (R215). At the epoch instant the epoch header and entries are written, and burst berths enter HOLD. -/
  | epochInstant (meas : List Meas) (flat : List Nat)
  /-- EPOCH_CLOSE (R220). At tE + 2 ms in-bond results are cleared or refused, settlement, hold and close records are written, and GNSS_EPOCH is raised. -/
  | epochClose
  /-- START_CLEARED (R197). When the clearing conditions have held for CLEAR_MS, and BOC_OK is set where needed, a start is cleared. -/
  | startCleared (n : Fin 256) (trail : List ClearMs)
  /-- START_DEADLINE (R198). A continuous-mode start not cleared within START_DL has its in-bond results refused. -/
  | startDeadline (n : Fin 256)
  /-- FIX_RECORD_WRITE (R238). After the close the cleared branch is updated and the fix record and its sentences are written. -/
  | fixRecordWrite (f : Solution) (preds : List Pred)
  /-- MEASQ_TAIL_WRITE (R247). Either side advances MEASQ_TAIL, freeing records. -/
  | measqTailWrite (value : BitVec 12)
  /-- BITLOG_TAIL_WRITE (R247). Either side advances BITLOG_TAIL, freeing blocks. -/
  | bitlogTailWrite (value : BitVec 12)
  /-- RING_RECONFIGURE (R247). At the quiet point a changed BASE or SIZE takes effect and discards the ring's content. -/
  | ringReconfigure (bitlog : Bool)
  /-- MEASQ_FIX_READ (R239). A read of MEASQ_FIX0 captures the latest fix into a snapshot. -/
  | measqFixRead
  /-- SILLAGE_PSEL_WRITE (R213). A write selects the berth whose prediction the registers show. -/
  | sillagePselWrite (side : Side) (n : BitVec 8)
  /-- OSNMA_TAG_CHECK (R609). The firmware processes an OSNMA subframe's tags and raises CRYPTO_OSNMA. -/
  | osnmaTagCheck (tags : List TagResult) (verified failed : BitVec 8) (key : Option Bool) (chain : Bool)
  /-- OSNMA_TAG_EXPIRY (R114). Tags held more than 300 s awaiting time are discarded. -/
  | osnmaTagExpiry
  /-- FRONT_OVERLOAD (R251). An input at gain 0 with OCC above 50 % for 10 ms sets OVLD and raises this source. -/
  | frontOverload (band5 : Bool)
  /-- OVERLOAD_CLEAR (R251). OVLD clears after OCC has stayed below 25 % for 100 ms. -/
  | overloadClear (band5 : Bool)
  /-- NOTCH_SPECTRUM (R254). Every millisecond the band spectrum is formed, and notches are assigned, settled or written. -/
  | notchSpectrum (band5 : Bool) (gain occ : BitVec 8) (bins post : List Nat) (settled : List (Fin 4 × Nat))
  /-- NOTCH_RELEASE (R254). A LOCKED notch whose tone stays below DET for 1 s returns to OFF. -/
  | notchRelease (band5 : Bool) (k : Fin 4)
  /-- TIDE_NOWL_READ (R269). A read of TIDE_NOWL captures the Tide time into a snapshot. -/
  | tideNowlRead
  /-- TIDE_CTRL_STEP (R270). A STEP write requests a step by ADDS and ADDF. -/
  | tideCtrlStep (side : Side)
  /-- TIDE_STEP_APPLY (R270). At the receiver's quiet point a pending step is added in one tick and raises TIDE_STEP. -/
  | tideStepApply
  /-- SOURCE_TIMEOUT (R279). When no source stays valid, the Tide counter enters holdover and raises TIDE_HOLD. -/
  | sourceTimeout (src : Fin 3)
  /-- LEAP_APPLY (R274). At LEAPAT the announced leap value takes effect, and the RTC is stepped. -/
  | leapApply
  /-- TPIN_PULSE (R281). A TPIN edge is stamped and accepted as a PPS measurement, or counted and ignored. -/
  | tpinPulse (stamp : Nat)
  /-- TP_LEADING_EDGE (R288). A leading edge leaves the TP pin, and QNEXT, QERR and TP_PULSE report the next one. -/
  | tpLeadingEdge
  /-- TP_TRAILING_EDGE (R289). A trailing edge ends a pulse, and staged settings apply. -/
  | tpTrailingEdge
  /-- TP_CTRL_APPLY (R289). An APPLY write releases the staged time-pulse settings. -/
  | tpCtrlApply (side : Side)
  /-- WAKE_ALIGNMENT (R275). At the first XTAL-L edge after a wake the fast section is aligned to the carried time and TIDE_ALIGN is raised. -/
  | wakeAlignment (ns : Int)
  /-- RTC_SECOND_BOUNDARY (R311). At a prescaler overflow the counts advance, staged sets and shifts start, and the alarms are compared. -/
  | rtcSecondBoundary
  /-- RTC_APPLY_NOW (R305). APPLY.NOW loads the staged time at once and clears the prescaler. -/
  | rtcApplyNow (side : Side)
  /-- RTC_APPLY_SECOND (R305). APPLY.SECOND stages the set for the next second boundary. -/
  | rtcApplySecond (side : Side)
  /-- RTC_APPLY_CANCEL (R305). APPLY.CANCEL withdraws a pending set. -/
  | rtcApplyCancel (side : Side)
  /-- RTC_SHIFT_START (R309). A START write begins a shift at the next second boundary. -/
  | rtcShiftStart (side : Side)
  /-- RTC_SHIFT_END (R309). After 32 768 XTAL-L edges the shift ends and PEND clears. -/
  | rtcShiftEnd
  /-- RTC_BSEC_READ (R304). A read of RTC_BSEC captures the time group into a per-side snapshot. -/
  | rtcBsecRead (side : Side)
  /-- RTC_SNAPSHOT_EXPIRY (R304). A snapshot held for 1 ms ends. -/
  | rtcSnapshotExpiry (side : Side)
  /-- RTC_OSF_WRITE (R317). A write of 1 to OSF clears it only while TSET is 1. -/
  | rtcOsfWrite (side : Side)
  /-- RTC_INTERFACE_LOCK (R314). VAON falling through 2.05 V locks the RTC interface, cancels a pending set and frees the backup switch. -/
  | rtcInterfaceLock (vbkp : Bool)
  /-- RTC_INTERFACE_UNLOCK (R315). VAON above 2.25 V for 2 ms returns the switch to VAON and unlocks the interface. -/
  | rtcInterfaceUnlock
  /-- BACKUP_DOMAIN_RESET (R316). The domain supply below 1.45 V resets the backup domain and sets OSF. -/
  | backupDomainReset
  /-- RTC_DISCIPLINE (R320). Every 64 s while locked the firmware compares the RTC with Tide UTC and sets or shifts it. -/
  | rtcDiscipline
  /-- VBAT_QUALIFY (R327). VBAT at or above 1.80 V for 1 ms qualifies for the path. -/
  | vbatQualify
  /-- VBAT_DISQUALIFY (R327). VBAT below 1.75 V for 10 us disqualifies, and the path switches. -/
  | vbatDisqualify
  /-- VSTORE_QUALIFY (R327). VSTORE at or above 3.10 V for 1 ms, while connected, qualifies for the path. -/
  | vstoreQualify
  /-- VSTORE_DISQUALIFY (R327). VSTORE below 3.05 V for 10 us, or disconnected, disqualifies. -/
  | vstoreDisqualify
  /-- PATH_RETURN (R328). Under HARVEST-FIRST the path returns to the store after 1 s above XMIT_OK + 50 mV. -/
  | pathReturn
  /-- PWR_HOLD_LOW (R332). VHOLD falling below 4.20 V while a source qualifies raises this source. -/
  | pwrHoldLow
  /-- PWR_BOR_WARN (R333). Loss of every source or VSYS low connects VHOLD, clamps the domains and starts the power-down sequence. -/
  | pwrBorWarn (cause : BorCause)
  /-- GRACE_EXPIRY (R334). At the end of GRACE the application core stops and the tally save begins. -/
  | graceExpiry
  /-- TALLY_SAVE (R496). The tally save completes its three programs and the VBAT brown-out reset is asserted. -/
  | tallySave
  /-- VBAT_BOR_ASSERT (R336). VHOLD below 2.15 V asserts the VBAT brown-out reset, interrupting any save. -/
  | vbatBorAssert
  /-- VBAT_BOR_RELEASE (R337). A source qualified for 2 ms releases the VBAT brown-out reset, and boot follows the cold path. -/
  | vbatBorRelease (herit : BitVec 3)
  /-- CORE_BROWN_OUT (R341). VCORE 80 mV low for 1 us resets the switched domains and boots by the warm path. -/
  | coreBrownOut (herit : BitVec 3)
  /-- PWR_POINT_WRITE (R343). A write of PWR_POINT starts a change of operating point. -/
  | pwrPointWrite (side : Side) (value : Word)
  /-- PWR_POINT_DONE (R343). A change of operating point completes, PEND clears and this source is raised. -/
  | pwrPointDone
  /-- PWR_REG_WRITE (R340). A write of PWR_REG.MODE changes the regulator mode under the ledger. -/
  | pwrRegWrite (side : Side) (ldo : Bool)
  /-- DOMAIN_SWITCH_ON (R347). A domain is powered, reset and released, and held accesses complete. -/
  | domainSwitchOn (d : Fin 14)
  /-- DOMAIN_SWITCH_OFF (R346). A domain idle for 100 us, or released by a hold, is brought idle, clamped and switched off. -/
  | domainSwitchOff (d : Fin 14)
  /-- PWR_DOMF_WRITE (R349). A write of PWR_DOMF holds domains on or releases them. -/
  | pwrDomfWrite (side : Side) (value : BitVec 14)
  /-- IO_BANK_LOSS (R326). A VDDIO bank falling below 1.50 V raises PWR_IO_LOST. -/
  | ioBankLoss (second : Bool)
  /-- SLEEP_ENTRY (R352). With both cores in WAIT and every condition met, the power manager enters the requested depth. -/
  | sleepEntry
  /-- SLEEP_EXIT (R357). A wake source ends the sleep depth and writes the wake record. -/
  | sleepExit (elapsed : Nat) (herit : BitVec 3)
  /-- VOC_REFRESH (R364). Every PERIOD s the charger pauses 20 ms and takes V_OC. -/
  | vocRefresh (voc : BitVec 16)
  /-- OVP_TRIP (R366). VSTORE reaching OVP stops charging. -/
  | ovpTrip
  /-- OVP_RECOVER (R366). VSTORE below OVP - 100 mV resumes charging. -/
  | ovpRecover
  /-- UVP_TRIP (R366). VSTORE below 3.00 V for 20 us disconnects the store. -/
  | uvpTrip
  /-- STORE_RECONNECT (R366). VSTORE at or above 3.10 V for 1 ms reconnects the store after an undervoltage. -/
  | storeReconnect
  /-- OCP_TRIP (R366). Discharge above 60 mA for 1 ms disconnects the store. -/
  | ocpTrip (rested : Bool)
  /-- SHORT_CIRCUIT_TRIP (R366). Discharge above 250 mA for 10 us disconnects the store. -/
  | shortCircuitTrip (rested : Bool)
  /-- RECONNECT_RETRY (R367). One second after an overcurrent trip the store is reconnected, or latched off after three trips. -/
  | reconnectRetry
  /-- HARV_PROT_CLR (R367). A CLR write releases a latched disconnect. -/
  | harvProtClr (side : Side)
  /-- TEMPERATURE_SAMPLE (R366). Every 16 s the temperature is sampled and charging is blocked or released. -/
  | temperatureSample (tenths : Int) (pin : BitVec 16)
  /-- BAND_CHANGE (R369). A threshold crossing changes the band, raises HARV_BAND and may wake the device. -/
  | bandChange (band : Fin 6)
  /-- STORE_MEASURE (R371). Every 250 ms while a request waits, VSTORE is measured and the grant test is repeated. -/
  | storeMeasure (vst : BitVec 10)
  /-- BPREQ_CLASS_PULSE (R373). A BPREQ pulse is decoded as a class, or counted as a bad request. -/
  | bpreqClassPulse (us : Nat)
  /-- PERMIT_CLASS_WRITE (R373). A byte written to the permit I2C address states the class. -/
  | permitClassWrite (b : Byte)
  /-- BPREQ_GAP_TIMEOUT (R373). A low gap longer than 1 ms after the class pulse is not a request. -/
  | bpreqGapTimeout
  /-- BPREQ_REQUEST (R374). The request phase measures the store and grants, waits or refuses at once. -/
  | bpreqRequest (vst : BitVec 10)
  /-- BPREQ_DROP (R376). BPREQ falling ends a grant or a waiting request. -/
  | bpreqDrop
  /-- GRANT_TIMEOUT (R376). A grant longer than MAXT is cut. -/
  | grantTimeout
  /-- COLD_START (R378). HVREC at 1.1 V with enough power starts the cold-start oscillator and the charger. -/
  | coldStart
  /-- COLD_START_BOOT (R378). VSTORE reaching BOOT_OK releases the power-on reset with COLD set. -/
  | coldStartBoot (herit : BitVec 3)
  /-- CLOCK_READY (R383). A started or retried source becomes ready, and a restored source raises CLK_RESTORED. -/
  | clockReady (c : ClockSource)
  /-- MONITOR_WINDOW (R391). A monitor window ends and its count is compared, which may declare a failure. -/
  | monitorWindow (k : Fin 3) (count : BitVec 24)
  /-- EDGE_DETECTOR_FAIL (R392). Missing edges on XTAL-G or XTAL-L declare the source failed. -/
  | edgeDetectorFail (xtalG : Bool)
  /-- CLOCK_RETRY (R395). Once per second in BASIC the firmware retries failed sources. -/
  | clockRetry
  /-- CLK_CFG_RETRY (R395). A RETRY write retries every source in FAIL. -/
  | clkCfgRetry (side : Side)
  /-- ISLAND_SOURCE_REQUEST (R398). A write of CLK_ISLi.SEL requests a source switch, replacing a pending one or being refused. -/
  | islandSourceRequest (side : Side) (island : Fin 16) (src : Fin 8)
  /-- ISLAND_CLOCK_SWITCH (R396). Once handshakes are idle and the source is ready, the island's clock switches with 2 old and 3 new cycles lost. -/
  | islandClockSwitch (island : Fin 16)
  /-- FLL_COUNT (R386). At the end of each count the FLL steps the HFO trim. -/
  | fllCount (count : BitVec 24)
  /-- SYSPLL_REFERENCE_MOVE (R385). SYSPLL changes reference without stopping its outputs. -/
  | syspllReferenceMove (hfo : Bool)
  /-- CLK_RFSYN_UNLOCK (R387). RFSYN losing lock raises this source. -/
  | clkRfsynUnlock (band5 : Bool)
  /-- POWER_ON_RESET (R401). A power-on reset resets everything and runs the cold path. -/
  | powerOnReset (herit : BitVec 3) (backup : Bool)
  /-- NRST_RESET (R401). NRST held low for 1 us resets the switched domains. -/
  | nrstReset (herit : BitVec 3)
  /-- SYS_WATCHDOG_RESET (R401). System-core watchdog expiry resets the switched domains. -/
  | sysWatchdogReset (herit : BitVec 3)
  /-- APP_WATCHDOG_EXPIRY (R404). The application watchdog count reaching TIMEOUT restarts the application core. -/
  | appWatchdogExpiry
  /-- SWRST_APP (R402). A write of SYSCTL_SWRST.APP restarts the application core with cause 7. -/
  | swrstApp (m : Master)
  /-- SWRST_ALL (R402). A write of SYSCTL_SWRST.ALL resets the switched domains with cause 6. -/
  | swrstAll (m : Master) (app : Bool) (herit : BitVec 3)
  /-- DEBUG_RESET (R636). A reset requested through an open debug port resets the switched domains. -/
  | debugReset (herit : BitVec 3)
  /-- WDTA_SERVE (R404). A write of 0x5A to SERVE restarts the application watchdog count. -/
  | wdtaServe (value : Byte)
  /-- WDTA_ENABLE (R404). Setting EN starts the application watchdog until the next reset. -/
  | wdtaEnable
  /-- ALU (R431). Op 0x00 performs the register operation selected by fn. -/
  | alu (c : CoreId) (fn : AluFn) (rd ra rb : Reg)
  /-- ADD (R431). rd takes ra + rb. -/
  | add (c : CoreId) (rd ra rb : Reg)
  /-- SUB (R431). rd takes ra - rb. -/
  | sub (c : CoreId) (rd ra rb : Reg)
  /-- AND (R431). rd takes the bitwise AND of ra and rb. -/
  | and (c : CoreId) (rd ra rb : Reg)
  /-- OR (R431). rd takes the bitwise OR of ra and rb. -/
  | or (c : CoreId) (rd ra rb : Reg)
  /-- XOR (R431). rd takes the bitwise XOR of ra and rb. -/
  | xor (c : CoreId) (rd ra rb : Reg)
  /-- NOR (R431). rd takes the bitwise NOR of ra and rb. -/
  | nor (c : CoreId) (rd ra rb : Reg)
  /-- SHL (R431). rd takes ra shifted left by rb[4:0]. -/
  | shl (c : CoreId) (rd ra rb : Reg)
  /-- SHR (R431). rd takes ra shifted right logically by rb[4:0]. -/
  | shr (c : CoreId) (rd ra rb : Reg)
  /-- SRA (R431). rd takes ra shifted right arithmetically by rb[4:0]. -/
  | sra (c : CoreId) (rd ra rb : Reg)
  /-- CMPLT (R431). rd takes 1 if ra is less than rb, signed. -/
  | cmplt (c : CoreId) (rd ra rb : Reg)
  /-- CMPLTU (R431). rd takes 1 if ra is less than rb, unsigned. -/
  | cmpltu (c : CoreId) (rd ra rb : Reg)
  /-- CMPEQ (R431). rd takes 1 if ra equals rb. -/
  | cmpeq (c : CoreId) (rd ra rb : Reg)
  /-- MIN (R431). rd takes the signed minimum. -/
  | min (c : CoreId) (rd ra rb : Reg)
  /-- MAX (R431). rd takes the signed maximum. -/
  | max (c : CoreId) (rd ra rb : Reg)
  /-- MINU (R431). rd takes the unsigned minimum. -/
  | minu (c : CoreId) (rd ra rb : Reg)
  /-- MAXU (R431). rd takes the unsigned maximum. -/
  | maxu (c : CoreId) (rd ra rb : Reg)
  /-- CLZ (R431). rd takes the leading zeros of ra. -/
  | clz (c : CoreId) (rd ra : Reg)
  /-- MUL (R431). rd takes the low 32 bits of the product, at distance 3. -/
  | mul (c : CoreId) (rd ra rb : Reg)
  /-- MULH (R431). rd takes the high 32 bits of the signed product. -/
  | mulh (c : CoreId) (rd ra rb : Reg)
  /-- MULHU (R431). rd takes the high 32 bits of the unsigned product. -/
  | mulhu (c : CoreId) (rd ra rb : Reg)
  /-- DIV (R431). rd takes the signed quotient at distance 18, without trapping. -/
  | div (c : CoreId) (rd ra rb : Reg)
  /-- DIVU (R431). rd takes the unsigned quotient. -/
  | divu (c : CoreId) (rd ra rb : Reg)
  /-- REM (R431). rd takes the signed remainder. -/
  | rem (c : CoreId) (rd ra rb : Reg)
  /-- REMU (R431). rd takes the unsigned remainder. -/
  | remu (c : CoreId) (rd ra rb : Reg)
  /-- ADDI (R430). rd takes ra plus the sign-extended immediate. -/
  | addi (c : CoreId) (rd ra : Reg) (imm : BitVec 15)
  /-- ANDI (R430). rd takes ra AND the zero-extended immediate. -/
  | andi (c : CoreId) (rd ra : Reg) (imm : BitVec 15)
  /-- ORI (R430). rd takes ra OR the zero-extended immediate. -/
  | ori (c : CoreId) (rd ra : Reg) (imm : BitVec 15)
  /-- XORI (R430). rd takes ra XOR the zero-extended immediate. -/
  | xori (c : CoreId) (rd ra : Reg) (imm : BitVec 15)
  /-- CMPLTI (R430). rd takes 1 if ra is less than the immediate, signed. -/
  | cmplti (c : CoreId) (rd ra : Reg) (imm : BitVec 15)
  /-- CMPLTUI (R430). rd takes 1 if ra is less than the immediate, unsigned. -/
  | cmpltui (c : CoreId) (rd ra : Reg) (imm : BitVec 15)
  /-- SHI (R430). rd takes ra shifted by an immediate amount in the selected direction. -/
  | shi (c : CoreId) (rd ra : Reg) (dir : ShiftDir) (amt : Fin 32)
  /-- LUI (R430). rd takes imm20 x 2^12. -/
  | lui (c : CoreId) (rd : Reg) (imm : BitVec 20)
  /-- AUIPC (R430). rd takes the word's address plus imm20 x 2^12. -/
  | auipc (c : CoreId) (rd : Reg) (imm : BitVec 20)
  /-- LDB (R430). A sign-extended byte is loaded at distance 3. -/
  | ldb (c : CoreId) (rt ra : Reg) (am : AddrMode)
  /-- LDBU (R430). A zero-extended byte is loaded. -/
  | ldbu (c : CoreId) (rt ra : Reg) (am : AddrMode)
  /-- LDH (R430). A sign-extended halfword is loaded. -/
  | ldh (c : CoreId) (rt ra : Reg) (am : AddrMode)
  /-- LDHU (R430). A zero-extended halfword is loaded. -/
  | ldhu (c : CoreId) (rt ra : Reg) (am : AddrMode)
  /-- LDW (R430). A word is loaded, with the address formed by the mode in am. -/
  | ldw (c : CoreId) (rt ra : Reg) (am : AddrMode)
  /-- STB (R430). A byte is stored from rt. -/
  | stb (c : CoreId) (rt ra : Reg) (am : AddrMode)
  /-- STH (R430). A halfword is stored from rt. -/
  | sth (c : CoreId) (rt ra : Reg) (am : AddrMode)
  /-- STW (R430). A word is stored from rt. -/
  | stw (c : CoreId) (rt ra : Reg) (am : AddrMode)
  /-- CHECK_WRITE_BACK (R464). A corrected block is written back in the bank's next free cycle, unless overwritten first. -/
  | checkWriteBack (block : Nat)
  /-- BEQ (R430). A branch is taken if ra equals rb, with one delay slot. -/
  | beq (c : CoreId) (ra rb : Reg) (disp : BitVec 15)
  /-- BNE (R430). A branch is taken if ra differs from rb. -/
  | bne (c : CoreId) (ra rb : Reg) (disp : BitVec 15)
  /-- BLT (R430). A branch is taken if ra is less than rb, signed. -/
  | blt (c : CoreId) (ra rb : Reg) (disp : BitVec 15)
  /-- BGE (R430). A branch is taken if ra is greater than or equal to rb, signed. -/
  | bge (c : CoreId) (ra rb : Reg) (disp : BitVec 15)
  /-- BLTU (R430). A branch is taken if ra is less than rb, unsigned. -/
  | bltu (c : CoreId) (ra rb : Reg) (disp : BitVec 15)
  /-- BGEU (R430). A branch is taken if ra is greater than or equal to rb, unsigned. -/
  | bgeu (c : CoreId) (ra rb : Reg) (disp : BitVec 15)
  /-- JMP (R438). A jump by disp25 words, with one delay slot. -/
  | jmp (c : CoreId) (disp : BitVec 25)
  /-- CALL (R438). A jump that writes the link past the delay slot into g31. -/
  | call (c : CoreId) (disp : BitVec 25)
  /-- JRL (R438). A jump to ra + imm15 that writes the link into rd. -/
  | jrl (c : CoreId) (rd ra : Reg) (imm : BitVec 15)
  /-- FENCE (R454). FENCE waits until every earlier load and store of the core has completed. -/
  | fence (c : CoreId)
  /-- WAIT (R452). WAIT lets in-flight results complete and puts the core into Doze until MNE or NMI. -/
  | wait (c : CoreId)
  /-- ERET (R451). ERET restores STATUS from ESTAT and continues at EPC. -/
  | eret (c : CoreId)
  /-- TRAP (R430). TRAP raises exception 5 with the immediate in EADDR. -/
  | trap (c : CoreId) (imm : BitVec 15)
  /-- MFS (R445). rd takes a special register. -/
  | mfs (c : CoreId) (rd : Reg) (sr : Fin 32)
  /-- MTS (R446). A special register takes ra, effective at position 3. -/
  | mts (c : CoreId) (sr : Fin 32) (ra : Reg)
  /-- SHORT_NOP (R432). A short operation that does nothing. -/
  | shortNop (c : CoreId) (sl : Slot)
  /-- SHORT_MOV (R432). rd takes rs. -/
  | shortMov (c : CoreId) (sl : Slot) (rd rs : SReg)
  /-- SHORT_ADD (R432). rd takes rd + rs. -/
  | shortAdd (c : CoreId) (sl : Slot) (rd rs : SReg)
  /-- SHORT_SUB (R432). rd takes rd - rs. -/
  | shortSub (c : CoreId) (sl : Slot) (rd rs : SReg)
  /-- SHORT_AND (R432). rd takes rd AND rs. -/
  | shortAnd (c : CoreId) (sl : Slot) (rd rs : SReg)
  /-- SHORT_OR (R432). rd takes rd OR rs. -/
  | shortOr (c : CoreId) (sl : Slot) (rd rs : SReg)
  /-- SHORT_XOR (R432). rd takes rd XOR rs. -/
  | shortXor (c : CoreId) (sl : Slot) (rd rs : SReg)
  /-- SHORT_SHL (R432). rd is shifted left by rs[4:0]. -/
  | shortShl (c : CoreId) (sl : Slot) (rd rs : SReg)
  /-- SHORT_SHR (R432). rd is shifted right logically by rs[4:0]. -/
  | shortShr (c : CoreId) (sl : Slot) (rd rs : SReg)
  /-- SHORT_SRA (R432). rd is shifted right arithmetically by rs[4:0]. -/
  | shortSra (c : CoreId) (sl : Slot) (rd rs : SReg)
  /-- SHORT_MUL (R432). rd takes the low 32 bits of rd x rs, at distance 3. -/
  | shortMul (c : CoreId) (sl : Slot) (rd rs : SReg)
  /-- SHORT_CMPLT (R432). rd takes 1 if rd is less than rs, signed. -/
  | shortCmplt (c : CoreId) (sl : Slot) (rd rs : SReg)
  /-- SHORT_CMPLTU (R432). rd takes 1 if rd is less than rs, unsigned. -/
  | shortCmpltu (c : CoreId) (sl : Slot) (rd rs : SReg)
  /-- SHORT_CMPEQ (R432). rd takes 1 if rd equals rs. -/
  | shortCmpeq (c : CoreId) (sl : Slot) (rd rs : SReg)
  /-- SHORT_MOVI (R432). rd takes imm6. -/
  | shortMovi (c : CoreId) (sl : Slot) (rd : SReg) (imm : BitVec 6)
  /-- SHORT_ADDI (R432). rd takes rd + imm6. -/
  | shortAddi (c : CoreId) (sl : Slot) (rd : SReg) (imm : BitVec 6)
  /-- SHORT_SHLI (R432). rd is shifted left by an immediate. -/
  | shortShli (c : CoreId) (sl : Slot) (rd : SReg) (amt : Fin 32)
  /-- SHORT_SHRI (R432). rd is shifted right logically by an immediate. -/
  | shortShri (c : CoreId) (sl : Slot) (rd : SReg) (amt : Fin 32)
  /-- SHORT_SRAI (R432). rd is shifted right arithmetically by an immediate. -/
  | shortSrai (c : CoreId) (sl : Slot) (rd : SReg) (amt : Fin 32)
  /-- SHORT_ANDI (R432). rd takes rd AND imm6. -/
  | shortAndi (c : CoreId) (sl : Slot) (rd : SReg) (imm : BitVec 6)
  /-- SHORT_LDW (R432). rt takes the word at ra + 4 x off. -/
  | shortLdw (c : CoreId) (sl : Slot) (rt ra : SReg) (off : Fin 4)
  /-- SHORT_STW (R432). The word at ra + 4 x off takes rt. -/
  | shortStw (c : CoreId) (sl : Slot) (rt ra : SReg) (off : Fin 4)
  /-- LDWP (R432). rt is loaded from ra, then ra is incremented by 4. -/
  | ldwp (c : CoreId) (sl : Slot) (rt ra : SReg)
  /-- STWM (R432). ra is decremented by 4, then rt is stored at ra. -/
  | stwm (c : CoreId) (sl : Slot) (rt ra : SReg)
  /-- SHORT_LDBU (R432). rt takes the zero-extended byte at ra + off. -/
  | shortLdbu (c : CoreId) (sl : Slot) (rt ra : SReg) (off : Fin 4)
  /-- SHORT_STB (R432). The byte at ra + off takes rt. -/
  | shortStb (c : CoreId) (sl : Slot) (rt ra : SReg) (off : Fin 4)
  /-- BR (R432). A branch by disp10 words, slot B only. -/
  | br (c : CoreId) (disp : BitVec 10)
  /-- BZ (R432). A branch if rs is 0. -/
  | bz (c : CoreId) (rs : SReg) (disp : BitVec 6)
  /-- BNZ (R432). A branch if rs is not 0. -/
  | bnz (c : CoreId) (rs : SReg) (disp : BitVec 6)
  /-- JR (R432). A jump to rs. -/
  | jr (c : CoreId) (rs : SReg)
  /-- RET (R432). A jump to g31. -/
  | ret (c : CoreId)
  /-- SHORT_FENCE (R432). A short FENCE, acting as the long FENCE. -/
  | shortFence (c : CoreId) (sl : Slot)
  /-- ILLEGAL_WORD (R428). An illegal instruction word raises exception 2 with nothing executed. -/
  | illegalWord (c : CoreId)
  /-- FETCH_UNCORRECTABLE (R448). An uncorrectable error on instruction fetch raises exception 4. -/
  | fetchUncorrectable (c : CoreId)
  /-- MNE_ENTRY (R449). An asserted MNE with IE = 1 is taken at a word boundary and vectors to VBASE. -/
  | mneEntry (c : CoreId)
  /-- NMI_ENTRY (R449). A non-maskable interrupt from CLKFAIL is taken while NMIACT = 0. -/
  | nmiEntry (c : CoreId)
  /-- DREDGER_BLOCK (R474). Every 2^SHIFT always-on cycles the Dredger reads, corrects and counts one block. -/
  | dredgerBlock
  /-- TAMPER_WIPE (R483). TAMPN low for 100 us starts, or restarts, the secure-bank wipe. -/
  | tamperWipe
  /-- WIPE_DONE (R484). The secure-bank wipe completes and MEMCTL_WIPE_DONE is raised. -/
  | wipeDone
  /-- LOGS_PROG (R490). A PROG command writes the masked bytes of a page as a journaled write, or is held or refused. -/
  | logsProg (side : Side)
  /-- LOGS_TWIN_WR (R502). A TWIN_WR command writes one copy of a twin record. -/
  | logsTwinWr (side : Side)
  /-- LOGS_TWIN_RD (R503). A TWIN_RD command resolves a twin into LOGS_BUF. -/
  | logsTwinRd (side : Side)
  /-- LOGS_COMMAND_START (R492). A held owner command starts when the operation in progress ends. -/
  | logsCommandStart
  /-- LOGS_WRITE_DONE (R491). A journaled write completes and raises LOGS_DONE. -/
  | logsWriteDone
  /-- TALLY_ERASE_DONE (R497). The background erase of the next tally slot and commit entry completes. -/
  | tallyEraseDone
  /-- MANIFEST_SOURCE_EVENT (R518). A source event sets PEND and, if unmasked, forms a record in the reserve or the ring. -/
  | manifestSourceEvent (src : Fin 192) (w2 w3 : Word)
  /-- MAN_POP0_READ (R515). A read of MAN_POP0 removes the head record and captures its words. -/
  | manPop0Read (m : Man) (side : Side)
  /-- MAN_MASK_WRITE (R518). A write of MAN_MASK unmasks or masks sources, forming a LATE record for a pending source. -/
  | manMaskWrite (m : Man) (side : Side) (w : Fin 6) (value : Word)
  /-- MAN_PEND_WRITE (R523). A write of MAN_PEND replaces its pending bits. -/
  | manPendWrite (m : Man) (side : Side) (w : Fin 6) (value : Word)
  /-- MAN_MASKSET (R524). An alias write sets mask bits atomically outside SERVICE. -/
  | manMaskset (m : Man) (side : Side) (w : Fin 6) (value : Word)
  /-- MAN_MASKCLR (R524). An alias write clears mask bits atomically outside SERVICE. -/
  | manMaskclr (m : Man) (side : Side) (w : Fin 6) (value : Word)
  /-- MAN_PENDSET (R524). An alias write sets pending bits atomically outside SERVICE. -/
  | manPendset (m : Man) (side : Side) (w : Fin 6) (value : Word)
  /-- MAN_PENDCLR (R524). An alias write clears pending bits atomically outside SERVICE. -/
  | manPendclr (m : Man) (side : Side) (w : Fin 6) (value : Word)
  /-- MAN_RAISE_WRITE (R532). A write of MAN_RAISE raises a software source with its payload. -/
  | manRaiseWrite (m : Man) (side : Side) (value : Word)
  /-- MAN_CFG_WRITE (R513). A write of MAN_CFG enables or disables the ring, or changes its size. -/
  | manCfgWrite (m : Man) (side : Side) (value : Word)
  /-- MNE_MODERATION_TIMEOUT (R520). The oldest held record reaching MOD.TIME asserts MNE. -/
  | mneModerationTimeout (m : Man)
  /-- PRODUCER_EVENT (R525). A producer edge forks to every enabled consumer within 50 ns. -/
  | producerEvent (p : Fin 64)
  /-- EVR_SWTRIG_WRITE (R533). A write of EVR_SWTRIG fires software producers. -/
  | evrSwtrigWrite (value : BitVec 4)
  /-- EVR_CAPF_READ (R533). A read of EVR_CAPkF clears FULL. -/
  | evrCapfRead (k : Fin 4)
  /-- AON_TICK (R526). Every 2^SHIFT always-on cycles producer 63 fires. -/
  | aonTick
  /-- LGT_NOP (R540). An engine NOP does nothing for one cycle. -/
  | lgtNop (n : Fin 8)
  /-- LGT_XFER (R541). XFER shifts bits between SH and the pins over STEPS steps, with an optional clock. -/
  | lgtXfer (n : Fin 8) (samples : List Byte)
  /-- LGT_FILL (R540). FILL loads SH from the TX FIFO. -/
  | lgtFill (n : Fin 8)
  /-- LGT_DRAIN (R540). DRAIN pushes SH into the RX FIFO. -/
  | lgtDrain (n : Fin 8)
  /-- LGT_DRIVE (R540). DRIVE sets, directs or toggles OUT pins from an immediate. -/
  | lgtDrive (n : Fin 8)
  /-- LGT_AWAIT (R540). AWAIT waits for a pin level, an edge or the trigger latch. -/
  | lgtAwait (n : Fin 8)
  /-- LGT_AWAIT_END (R540). The awaited condition arrives and the engine continues, consuming the trigger latch. -/
  | lgtAwaitEnd (n : Fin 8)
  /-- LGT_AWAIT_TIMEOUT (R540). An AWAIT with TMO ends after TM cycles and sets TO. -/
  | lgtAwaitTimeout (n : Fin 8)
  /-- LGT_PAUSE (R540). PAUSE waits N + 1 cycles. -/
  | lgtPause (n : Fin 8)
  /-- LGT_SET (R540). SET loads LC, TM or a half of MR from an immediate. -/
  | lgtSet (n : Fin 8)
  /-- LGT_LOOP (R540). LOOP decrements LC and branches while it is not 0. -/
  | lgtLoop (n : Fin 8)
  /-- LGT_JUMP (R540). JUMP branches when its condition holds. -/
  | lgtJump (n : Fin 8)
  /-- LGT_MOVE (R540). MOVE copies between pins, SH, LC and MR, with an optional transform. -/
  | lgtMove (n : Fin 8)
  /-- LGT_NOTE (R540). NOTE raises LGTn_IRQ and pulses the engine's event producer. -/
  | lgtNote (n : Fin 8)
  /-- LGT_ILLEGAL (R544). An illegal word stops the engine, sets ILL and raises LGTn_IRQ. -/
  | lgtIllegal (n : Fin 8)
  /-- LGT_STALL_END (R549). A stall ends when its FIFO condition clears, and the instruction at PC is refetched. -/
  | lgtStallEnd (n : Fin 8)
  /-- LGT_CMD_RUN (R547). A RUN write starts a stopped engine under the ledger. -/
  | lgtCmdRun (side : Side) (n : Fin 8)
  /-- LGT_CMD_STOP (R547). A STOP write halts the engine at the next boundary. -/
  | lgtCmdStop (side : Side) (n : Fin 8)
  /-- LGT_CMD_CLRSHIFT (R550). A CLRSHIFT write clears SH and RC and marks SH spent. -/
  | lgtCmdClrshift (side : Side) (n : Fin 8)
  /-- LGT_CMD_CLRFIFO (R550). A CLRFIFO write empties both FIFOs. -/
  | lgtCmdClrfifo (side : Side) (n : Fin 8)
  /-- LGT_CMD_SETPC (R547). A SETPC write loads PC while the engine is stopped or stalled. -/
  | lgtCmdSetpc (side : Side) (n : Fin 8)
  /-- LGT_TXF_WRITE (R545). A write of LGTn_TXF pushes the TX FIFO, or sets TXOVF when it is full. -/
  | lgtTxfWrite (n : Fin 8) (value : Word)
  /-- LGT_RXF_READ (R545). A read of LGTn_RXF pops the RX FIFO, or sets RXUNF when it is empty. -/
  | lgtRxfRead (n : Fin 8)
  /-- LGT_IMEM_WRITE (R548). A write to instruction memory or configuration lands only while the engine is stopped or stalled. -/
  | lgtImemWrite (side : Side) (ofs : BitVec 12) (value : Word)
  /-- UART_CHARACTER_RECEIVED (R559). A received frame enters the RX FIFO with its flags, and raises UARTu_RX or UARTu_ERR. -/
  | uartCharacterReceived (u : Fin 3) (ticks : List Bool) (start : Nat)
  /-- UART_BREAK (R561). An all-low frame sets BRK and raises UARTu_BRK. -/
  | uartBreak (u : Fin 3)
  /-- UART_LINE_FAULT (R562). A line low for STUCK bit times sets LINE_FAULT and disables the start-edge wake. -/
  | uartLineFault (u : Fin 3)
  /-- UART_LINE_FAULT_CLEAR (R562). A line high for 16 bit times clears LINE_FAULT and BRK. -/
  | uartLineFaultClear (u : Fin 3)
  /-- UART_START_EDGE_WAKE (R563). A start edge in sleep wakes the device and counts the lost characters. -/
  | uartStartEdgeWake (u : Fin 3) (start : Nat)
  /-- UART_RX_TIMEOUT (R565). An idle line of RXTO bit times flushes the receive path to DMA. -/
  | uartRxTimeout (u : Fin 3)
  /-- UART_CHARACTER_SENT (R564). A character leaves the TX shifter, stamped if it starts a line. -/
  | uartCharacterSent (u : Fin 3) (start : Nat) (c : Byte)
  /-- UART_DATA_READ (R567). A read of DATA pops one received character. -/
  | uartDataRead (side : Side) (u : Fin 3)
  /-- UART_DATA_WRITE (R567). A write of DATA pushes one character, or sets TXOVF. -/
  | uartDataWrite (side : Side) (u : Fin 3) (value : Byte)
  /-- UART_RXSTS_READ (R564). A read of RXSTS or TXSTS captures the stamp fraction. -/
  | uartRxstsRead (u : Fin 3) (tx : Bool)
  /-- UART_CONFIG_APPLY (R567). At the quiet point frame and rate changes apply. -/
  | uartConfigApply (u : Fin 3)
  /-- I2CT_ADDRESS_MATCH (R570). A matching address is acknowledged, or stretched until wake, and raises I2CT_ADDR. -/
  | i2ctAddressMatch (addr : BitVec 7) (read : Bool)
  /-- I2CT_BYTE_RECEIVED (R571). A byte written by the host enters the RX FIFO or the console stream. -/
  | i2ctByteReceived (b : Byte)
  /-- I2CT_BYTE_SENT (R571). A byte read by the host is taken from the TX FIFO or the console stream. -/
  | i2ctByteSent
  /-- I2CT_STRETCH_TIMEOUT (R571). A stretch of STRETCH x 10 us NACKs or sends 0xFF, and raises I2CT_ERR. -/
  | i2ctStretchTimeout
  /-- I2CT_STOP (R571). A STOP condition raises I2CT_STOP. -/
  | i2ctStop
  /-- I2CT_DATA_READ (R572). A read of I2CT_DATA pops the RX FIFO. -/
  | i2ctDataRead (side : Side)
  /-- I2CT_DATA_WRITE (R572). A write of I2CT_DATA pushes the TX FIFO. -/
  | i2ctDataWrite (side : Side) (value : Byte)
  /-- SPI_START (R574). START or a router event begins a host transfer of COUNT frames. -/
  | spiStart (side : Side) (k : Fin 2)
  /-- SPI_ABORT (R574). ABORT ends a host transfer after the frame in progress. -/
  | spiAbort (side : Side) (k : Fin 2)
  /-- SPI_FRAME (R574). A frame is exchanged, with underrun or overrun handling in target mode. -/
  | spiFrame (k : Fin 2) (value : Word)
  /-- SPI_CS_RAISE (R574). The host raising chip select ends a target transfer, discarding a partial frame. -/
  | spiCsRaise (k : Fin 2) (partial_ : Bool)
  /-- SPI_DATA_READ (R574). A read of SPIk_DATA pops the RX FIFO. -/
  | spiDataRead (side : Side) (k : Fin 2)
  /-- SPI_DATA_WRITE (R574). A write of SPIk_DATA pushes the TX FIFO. -/
  | spiDataWrite (side : Side) (k : Fin 2) (value : Word)
  /-- DMA_START (R575). A START write enables a DMA channel. -/
  | dmaStart (side : Side) (k : Fin 8)
  /-- DMA_REQUEST_UNIT (R575). On its request a channel moves one unit, with bus errors and uncorrectable reads flagged. -/
  | dmaRequestUnit (k : Fin 8)
  /-- ADC_START (R586). START, a router event or a console read starts a sequence. -/
  | adcStart (side : Side)
  /-- ADC_STOP (R586). STOP ends the sequence after the frame in progress. -/
  | adcStop (side : Side)
  /-- ADC_FLUSH (R586). FLUSH empties the FIFO. -/
  | adcFlush (side : Side)
  /-- ADC_RESULT (R585). A corrected conversion enters the FIFO with its flags, or is discarded on overflow. -/
  | adcResult (code : Int)
  /-- ADC_FIFO_READ (R584). A read of ADC_FIFO pops one word, or sets UNF when the FIFO is empty. -/
  | adcFifoRead (side : Side)
  /-- ADC_REF_READY (R590). 150 us after the reference is enabled, READY is set. -/
  | adcRefReady
  /-- ADC_CAL_OK (R579). The background correction converges and CAL_OK is set. -/
  | adcCalOk
  /-- TOUCH_SCAN_START (R595). Every PERIOD ms, or on a router event, a scan starts. -/
  | touchScanStart
  /-- TOUCH_SEGMENT (R596). A scan segment runs when the quiet-interval condition permits. -/
  | touchSegment (counts : List (BitVec 16))
  /-- TOUCH_SEGMENT_DISCARD (R596). A segment running when the quiet interval ends is discarded and counted. -/
  | touchSegmentDiscard
  /-- TOUCH_DQI_TIMEOUT (R597). After DQITO ms the remaining segments run at once and LATE is set. -/
  | touchDqiTimeout
  /-- TOUCH_SCAN_END (R598). At the end of a scan the key states and baselines are updated and TOUCH_SCAN is raised. -/
  | touchScanEnd
  /-- TOUCH_CTRL_START (R595). A START write begins a scan. -/
  | touchCtrlStart (side : Side)
  /-- TOUCH_CTRL_TEST (R604). A TEST write starts the self-test at the quiet point. -/
  | touchCtrlTest (side : Side)
  /-- TOUCH_CTRL_REBASE (R600). A REBASE write re-baselines every key at the next scan and releases stuck keys. -/
  | touchCtrlRebase (side : Side)
  /-- TOUCH_CTRL_SAVEREF (R602). A SAVEREF write stores the present raw counts as references, where the lifecycle state allows. -/
  | touchCtrlSaveref (side : Side)
  /-- TOUCH_TEST_END (R604). The self-test ends, its results are written and TOUCH_TEST_DONE is raised. -/
  | touchTestEnd (counts : List (BitVec 16)) (rises : List (BitVec 16 × BitVec 16))
  /-- PROXIMITY_SAMPLE (R603). A proximity sample updates the baseline and may set DET and wake the device. -/
  | proximitySample (raw : BitVec 16)
  /-- SIGNING_START (R617). The engine takes the head request of the queue, checks ring room and assigns SSEQ. -/
  | signingStart
  /-- SIGNING_DONE (R618). A signature completes and the record is written to the ring, raising SIGN_FIX or SIGN_DONE. -/
  | signingDone
  /-- KEY_DERIVATION_DONE (R611). The identity key derivation completes, READY is set and SIGN_KEY_READY is raised. -/
  | keyDerivationDone
  /-- TAP_EXTEST (R635). EXTEST drives the chained pins from the boundary register. -/
  | tapExtest (value : BitVec 157)
  /-- TAP_SAMPLE_PRELOAD (R632). SAMPLE/PRELOAD selects the boundary register and restores functional control. -/
  | tapSamplePreload (value : BitVec 157) (inputs : BitVec 7)
  /-- TAP_IDCODE (R633). IDCODE selects the identification register. -/
  | tapIdcode
  /-- TAP_CLAMP (R635). CLAMP holds the pins from the boundary register with bypass selected. -/
  | tapClamp
  /-- TAP_HIGHZ (R635). HIGHZ leaves the chained pins undriven. -/
  | tapHighz
  /-- TAP_DEBUG (R636). DEBUG opens the debug port in TEST or RETURNED and raises LIFE_DEBUG. -/
  | tapDebug
  /-- TAP_BYPASS (R632). BYPASS, or any unlisted opcode, selects the bypass register. -/
  | tapBypass
  /-- TRSTN_RESET (R631). TRSTN low resets the test access port alone. -/
  | trstnReset
  /-- GPIO_WAKE_EDGE (R645). A pin edge enabled for wake wakes the device and sets WAKESTAT. -/
  | gpioWakeEdge (pin : Fin 48) (rising : Bool)
  /-- GPIO_EVENT_EDGE (R645). A pin edge selected by an event channel fires its producer. -/
  | gpioEventEdge (pin : Fin 48) (rising : Bool)
  /-- GPIO_OUTSET (R646). A write of GPIO_OUTSET sets OUT bits atomically. -/
  | gpioOutset (side : Side) (second : Bool) (value : Word)
  /-- GPIO_OUTCLR (R646). A write of GPIO_OUTCLR clears OUT bits atomically. -/
  | gpioOutclr (side : Side) (second : Bool) (value : Word)
  /-- HOLD_OK (R332). VHOLD charging up to 4.20 V sets PWR_STAT.HOLD_OK and, with SAVE_EN, arms the power-down save. -/
  | holdOk
  /-- IO_BANK_RETURN (R326). A VDDIO bank rising back above 1.50 V sets IO1_OK or IO2_OK, and its pins and pin wake sources work again. -/
  | ioBankReturn (second : Bool)
  /-- LOG_RECOVERY_DONE (R629). Background log-store recovery after a core brown-out ends, RECOV clears and LOGS_RECOVER is raised. -/
  | logRecoveryDone
  /-- TIDE_ERR_LIMIT (R291). In holdover, TIDE_ERR growing past TP_ERRLIM counts as loss of discipline for the time pulse, and past 15 s clears GNSS_OSNMA.TIME_OK. -/
  | tideErrLimit
  deriving DecidableEq, Repr

end Sys2Proof
end

