-- ==== Sys2Proof/Machine/Hash.lean ====
section
/-! DEFINITION. SHAKE256 as published in FIPS 202: the device uses it for image digests, key derivation and DEVID (R411,
R608, R610, R612), and Ed448 (RFC 8032) uses it. -/

namespace Sys2Proof.Machine.Hash

/-- A lane of the state of the sponge; the 25 of them stand row by row. -/
abbrev Lane := BitVec 64

/-- The feedback register that the round constants come from, as a number of eight bits: x^8 + x^6 + x^5 + x^4 + 1. -/
def feedback (r : Nat) : Nat := if r < 128 then 2 * r else 2 * r ^^^ 0x171

/-- Seven steps of the register, whose outputs are the bits 2^j - 1 of a round's constant. -/
def drawConstant (r : Nat) : Nat × Lane :=
  (List.range 7).foldl
    (fun p j => (feedback p.1, if p.1 % 2 = 1 then p.2 ||| BitVec.twoPow 64 (2 ^ j - 1) else p.2)) (r, 0)

/-- The constants of so many rounds, from a value of the register on. -/
def roundKeys : Nat → Nat → List Lane
  | 0, _ => []
  | k + 1, r => let d := drawConstant r; d.2 :: roundKeys k d.1

/-- The walk over the lanes but the first: from (x, y) to (y, 2x + 3y), `k` steps before its end. Each step moves a lane to the
place after it, turned by a triangular number: the place left, the place reached, and the turn. -/
def walk : Nat → Nat → Nat → List (Nat × Nat × Nat)
  | 0, _, _ => []
  | k + 1, x, y =>
    let z := (2 * x + 3 * y) % 5
    (5 * y + x, 5 * z + y, (24 - k) * (25 - k) / 2 % 64) :: walk k y z

/-- The parity of a column. -/
def parity (a : List Lane) (x : Nat) : Lane := (List.range 5).foldl (fun v y => v ^^^ a.getD (5 * y + x % 5) 0) 0

/-- Every lane takes the parities of two neighbouring columns. -/
def mixColumns (a : List Lane) : List Lane :=
  let d := (List.range 5).map fun x => parity a (x + 4) ^^^ (parity a (x + 1)).rotateLeft 1
  a.zipIdx.map fun p => p.1 ^^^ d.getD (p.2 % 5) 0

/-- The lanes move along the walk. -/
def moveLanes (a : List Lane) : List Lane :=
  (walk 24 1 0).foldl (fun b m => b.set m.2.1 ((a.getD m.1 0).rotateLeft m.2.2)) a

/-- The nonlinear step within each row. -/
def mixRow (a : List Lane) : List Lane :=
  a.zipIdx.map fun p =>
    let at_ := fun k => a.getD (p.2 / 5 * 5 + (p.2 + k) % 5) 0
    p.1 ^^^ (at_ 2 &&& ~~~(at_ 1))

/-- The permutation of the state: 24 rounds. -/
def permute (a : List Lane) : List Lane :=
  (roundKeys 24 1).foldl (fun s k => (mixRow (moveLanes (mixColumns s))).modify 0 (· ^^^ k)) a

/-- Eight bytes as a lane, least significant first. -/
def laneOf (l : List Byte) : Lane := l.foldr (fun b v => v <<< 8 ||| b.setWidth 64) 0

/-- A lane as eight bytes. -/
def laneBytes (v : Lane) : List Byte := (List.range 8).map fun i => (v >>> (8 * i)).setWidth 8

/-- A block of 136 bytes mixed into the state. -/
def absorb (a : List Lane) (block : List Byte) : List Lane :=
  permute <| (List.range 25).zipWith (fun i v => if i < 17 then v ^^^ laneOf ((block.drop (8 * i)).take 8) else v) a

/-- The message with its padding. -/
def padded (m : List Byte) : List Byte :=
  let n := 136 - m.length % 136
  m ++ (if n = 1 then [0x9F] else 0x1F :: (List.replicate (n - 2) 0 ++ [0x80]))

/-- Every block absorbed; the number of blocks bounds the recursion. -/
def absorbAll : Nat → List Byte → List Lane → List Lane
  | 0, _, a => a
  | k + 1, m, a => absorbAll k (m.drop 136) (absorb a (m.take 136))

/-- Blocks squeezed out. -/
def squeeze : Nat → List Lane → List Byte
  | 0, _ => []
  | k + 1, a => (a.take 17).flatMap laneBytes ++ squeeze k (permute a)

/-- The first `n` bytes of SHAKE256 of a message. -/
def shake256 (m : List Byte) (n : Nat) : List Byte :=
  let p := padded m
  (squeeze ((n + 135) / 136) (absorbAll (p.length / 136) p (List.replicate 25 0))).take n

end Sys2Proof.Machine.Hash
end

