-- ==== Sys2Proof/Machine/Ed448.lean ====
section
/-! DEFINITION. Ed448 as RFC 8032 defines it: public keys, signatures under a context, verification (R412, R608, R610,
R613). -/

namespace Sys2Proof.Machine.Ed448

/-- The field's prime. -/
def p : Nat := 2 ^ 448 - 2 ^ 224 - 1

/-- The order of the base point. -/
def order : Nat := 2 ^ 446 - 13818066809895115352007386748515426880336692474882178609894547503885

/-- The curve constant d, -39081. -/
def d : Nat := p - 39081

/-- A point in projective coordinates. -/
structure Point where
  x : Nat
  y : Nat
  z : Nat
  deriving DecidableEq, Repr

/-- The base point. -/
def base : Point :=
  ⟨224580040295924300187604334099896036246789641632564134246125461686950415467406032909029192869357953282578032075146446173674602635247710,
    298819210078481492676017930443930673437544040154080242095928241372331506189835876003536878655418784733982303233503462500531545062832660,
    1⟩

/-- The sum of two points. -/
def Point.add (u v : Point) : Point :=
  let a := u.z * v.z % p
  let b := a * a % p
  let c := u.x * v.x % p
  let e := u.y * v.y % p
  let t := d * c % p * e % p
  let f := (b + p - t) % p
  let g := (b + t) % p
  let h := (u.x + u.y) * (v.x + v.y) % p
  ⟨a * f % p * ((h + 2 * p - c - e) % p) % p, a * g % p * ((e + p - c) % p) % p, f * g % p⟩

/-- The multiple of a point by the low `n` bits of `k`. -/
def Point.mul : Nat → Nat → Point → Point
  | 0, _, _ => ⟨0, 1, 1⟩
  | n + 1, k, u => if k % 2 = 1 then (Point.mul n (k / 2) (u.add u)).add u else Point.mul n (k / 2) (u.add u)

/-- `b ^ e` modulo the prime, over the low `n` bits of `e`. -/
def power : Nat → Nat → Nat → Nat
  | 0, _, _ => 1
  | n + 1, b, e => if e % 2 = 1 then power n (b * b % p) (e / 2) * b % p else power n (b * b % p) (e / 2)

/-- `n` bytes of a number, least significant first. -/
def toBytes : Nat → Nat → List Byte
  | 0, _ => []
  | n + 1, v => BitVec.ofNat 8 v :: toBytes n (v / 256)

/-- The number of bytes, least significant first. -/
def ofBytes : List Byte → Nat
  | [] => 0
  | b :: r => b.toNat + 256 * ofBytes r

/-- A point in 57 bytes. -/
def Point.encode (u : Point) : List Byte :=
  let i := power 448 u.z (p - 2)
  let x := u.x * i % p
  toBytes 57 (u.y * i % p + x % 2 * 2 ^ 455)

/-- The point of 57 bytes, where they encode one. -/
def decode (l : List Byte) : Option Point :=
  let v := ofBytes l
  let y := v % 2 ^ 455
  let sign := v / 2 ^ 455 % 2
  if p ≤ y then none
  else
    let n := (y * y + p - 1) % p
    let m := (d * (y * y % p) + p - 1) % p
    let x := n * n % p * n % p * m % p * power 448 (n * n % p * n % p * n % p * n % p * (m * m % p * m % p) % p) ((p - 3) / 4) % p
    if m * (x * x % p) % p ≠ n then none
    else if x = 0 ∧ sign = 1 then none
    else some ⟨if x % 2 = sign then x else p - x, y, 1⟩

/-- The scalar and the prefix of a private key. -/
def expand (sk : List Byte) : Nat × List Byte :=
  let h := Hash.shake256 sk 114
  let s := ofBytes (h.take 56)
  (s % 2 ^ 447 / 4 * 4 + 2 ^ 447, h.drop 57)

/-- The public key of a private key. -/
def publicKey (sk : List Byte) : List Byte := (Point.mul 448 (expand sk).1 base).encode

/-- ASCII text as bytes. -/
def ascii (t : String) : List Byte := t.toList.map fun c => BitVec.ofNat 8 c.toNat

/-- The prefix of every hash: the scheme's name, no pre-hash, and the context. -/
def dom (ctx : List Byte) : List Byte := ascii "SigEd448" ++ [0, BitVec.ofNat 8 ctx.length] ++ ctx

/-- The signature of a message under a context: 114 bytes. -/
def sign (sk ctx m : List Byte) : List Byte :=
  let (s, pre) := expand sk
  let pub := publicKey sk
  let r := ofBytes (Hash.shake256 (dom ctx ++ pre ++ m) 114) % order
  let big := (Point.mul 448 r base).encode
  let k := ofBytes (Hash.shake256 (dom ctx ++ big ++ pub ++ m) 114) % order
  big ++ toBytes 57 ((r + k * s) % order)

/-- Whether a signature of a message under a context verifies with a public key. -/
def verify (pub ctx m sig : List Byte) : Bool :=
  let s := ofBytes (sig.drop 57)
  match decode pub, decode (sig.take 57) with
  | some a, some r =>
    let k := ofBytes (Hash.shake256 (dom ctx ++ sig.take 57 ++ pub ++ m) 114) % order
    decide (s < order) && decide (sig.length = 114) &&
      (Point.mul 448 (4 * s) base).encode ==
        ((Point.mul 450 4 r).add (Point.mul 448 (4 * k) a)).encode
  | _, _ => false

end Sys2Proof.Machine.Ed448
end

