-- ==== Sys2Proof/Machine/Text.lean ====
section
/-! DEFINITION. Text of the console: numbers written and read, tokens, and the check suffix (R57 to R61, R65, R66). -/

namespace Sys2Proof.Machine.Text

/-- A natural number in decimal. -/
def dec (n : Nat) : String := toString n

/-- An integer in decimal. -/
def int (n : Int) : String := toString n

/-- One upper-case hexadecimal digit. -/
def hexDigit (n : Nat) : Char := "0123456789ABCDEF".toList.getD (n % 16) '0'

/-- The low `d` hexadecimal digits of `n`. -/
def hexChars : Nat → Nat → List Char
  | 0, _ => []
  | d + 1, n => hexChars d (n / 16) ++ [hexDigit n]

/-- `n` in `d` upper-case hexadecimal digits. -/
def hex (d n : Nat) : String := String.ofList (hexChars d n)

/-- The lowest `d` decimal digits of `n`, most significant first. -/
def decChars : Nat → Nat → List Char
  | 0, _ => []
  | d + 1, n => decChars d (n / 10) ++ [hexDigit (n % 10)]

/-- `n` in exactly `d` decimal digits. -/
def pad (d n : Nat) : String := String.ofList (decChars d n)

/-- `v / 10^d` with exactly `d` decimals. -/
def fixed (d : Nat) (v : Int) : String :=
  let a := v.natAbs
  (if v < 0 then "-" else "") ++ dec (a / 10 ^ d) ++ (if d = 0 then "" else "." ++ pad d (a % 10 ^ d))

/-- Drop trailing zeros. -/
def dropZeros (l : List Char) : List Char := (l.reverse.dropWhile (· == '0')).reverse

/-- `v / 10^d` as an exact decimal without trailing zeros (R674). -/
def exact (d : Nat) (v : Int) : String :=
  let a := v.natAbs
  let f := dropZeros (decChars d (a % 10 ^ d))
  (if v < 0 then "-" else "") ++ dec (a / 10 ^ d) ++ (if f.isEmpty then "" else "." ++ String.ofList f)

/-- `v / 2^k` as an exact decimal without trailing zeros (R674). -/
def dyadic (k : Nat) (v : Int) : String := exact k (v * 5 ^ k)

/-- A list of texts with a separator. -/
def sep (by_ : String) : List String → String
  | [] => ""
  | [x] => x
  | x :: xs => x ++ by_ ++ sep by_ xs

/-- ` KEY=value` for each pair. -/
def keys : List (String × String) → String
  | [] => ""
  | (k, v) :: r => " " ++ k ++ "=" ++ v ++ keys r

def onOff (b : Bool) : String := if b then "ON" else "OFF"

/-- Bytes in hexadecimal, in groups of `n` bytes separated by spaces. -/
def hexBytes (n : Nat) (l : List Nat) : String :=
  go l 0
where
  go : List Nat → Nat → String
    | [], _ => ""
    | b :: r, i => (if i ≠ 0 ∧ i % n = 0 then " " else "") ++ hex 2 b ++ go r (i + 1)

/-- The value of a decimal digit. -/
def digit? (c : Char) : Option Nat :=
  if '0'.toNat ≤ c.toNat ∧ c.toNat ≤ '9'.toNat then some (c.toNat - '0'.toNat) else none

/-- The value of a hexadecimal digit. -/
def hexVal? (c : Char) : Option Nat :=
  match digit? c with
  | some d => some d
  | none =>
    let u := c.toUpper.toNat
    if 'A'.toNat ≤ u ∧ u ≤ 'F'.toNat then some (u - 'A'.toNat + 10) else none

/-- Upper case (R58). -/
def upper (l : List Char) : List Char := l.map Char.toUpper

/-- A decimal natural number, all of `l`. -/
def nat? (l : List Char) : Option Nat :=
  if l.isEmpty then none
  else l.foldl (fun a c => a.bind fun n => (digit? c).map fun d => n * 10 + d) (some 0)

/-- A hexadecimal natural number, all of `l`. -/
def hexNat? (l : List Char) : Option Nat :=
  if l.isEmpty then none
  else l.foldl (fun a c => a.bind fun n => (hexVal? c).map fun d => n * 16 + d) (some 0)

/-- Bytes written as pairs of hexadecimal digits. -/
def hexByteList? : List Char → Option (List Nat)
  | [] => some []
  | a :: b :: r =>
    match hexVal? a, hexVal? b, hexByteList? r with
    | some x, some y, some l => some ((x * 16 + y) :: l)
    | _, _, _ => none
  | _ => none

/-- Split on a character; empty parts are kept. -/
def splitOn (c : Char) : List Char → List (List Char)
  | [] => [[]]
  | x :: xs =>
    match splitOn c xs with
    | [] => [[x]]
    | h :: t => if x = c then [] :: h :: t else (x :: h) :: t

/-- Tokens separated by one or more spaces; a tab counts as a space (R57, R58). -/
def tokens (l : List Char) : List (List Char) :=
  (splitOn ' ' (l.map fun c => if c = '\t' then ' ' else c)).filter fun t => !t.isEmpty

/-- One byte of the CRC-8 with polynomial 0x07 (R66). -/
def crcByte (crc b : Nat) : Nat :=
  (List.range 8).foldl (fun c _ => if c ≥ 128 then ((c * 2) ^^^ 7) % 256 else c * 2) ((crc ^^^ b) % 256)

/-- The CRC-8 of a text (R66). -/
def crc8 (l : List Char) : Nat := l.foldl (fun c x => crcByte c x.toNat) 0

/-- An exact number: `num / den`. -/
structure Ratio where
  num : Int
  den : Nat
  deriving DecidableEq, Repr

/-- `a ≤ b`. -/
def Ratio.le (a b : Ratio) : Bool := a.num * b.den ≤ b.num * a.den

/-- The product of two ratios. -/
def Ratio.mul (a b : Ratio) : Ratio := ⟨a.num * b.num, a.den * b.den⟩

/-- The nearest integer, ties away from zero (R61). -/
def Ratio.round (a : Ratio) : Int :=
  let m := (2 * a.num.natAbs + a.den) / (2 * a.den)
  if a.num < 0 then -(m : Int) else m

/-- The greatest integer not above the ratio. -/
def Ratio.floor (a : Ratio) : Int := a.num / (a.den : Int)

/-- The least integer not below the ratio. -/
def Ratio.ceil (a : Ratio) : Int := -((-a.num) / (a.den : Int))

/-- Quantities of R60. -/
inductive Qty where
  | plain | time | freq | volt | curr | power | dist
  deriving DecidableEq, Repr

/-- The factor of a unit suffix, in upper case, with its quantity (R60). -/
def unitOf (l : List Char) : Option (Qty × Ratio) :=
  match String.ofList l with
  | "NS" => some (.time, ⟨1, 1000000000⟩)
  | "US" => some (.time, ⟨1, 1000000⟩)
  | "MS" => some (.time, ⟨1, 1000⟩)
  | "S" => some (.time, ⟨1, 1⟩)
  | "HZ" => some (.freq, ⟨1, 1⟩)
  | "KHZ" => some (.freq, ⟨1000, 1⟩)
  | "MHZ" => some (.freq, ⟨1000000, 1⟩)
  | "MV" => some (.volt, ⟨1, 1000⟩)
  | "V" => some (.volt, ⟨1, 1⟩)
  | "UA" => some (.curr, ⟨1, 1000000⟩)
  | "MA" => some (.curr, ⟨1, 1000⟩)
  | "DBM" => some (.power, ⟨1, 1⟩)
  | "M" => some (.dist, ⟨1, 1⟩)
  | _ => none

/-- Why a number is not taken: its form or its unit (R59, R60). -/
inductive NumErr where
  | badNumber | badUnit
  deriving DecidableEq, Repr

/-- The digits of a decimal number, with its fraction digits, and what follows. -/
def decimalPart (l : List Char) : Option (Ratio × List Char) :=
  let isD := fun (c : Char) => (digit? c).isSome
  let a := l.takeWhile isD
  let r := l.dropWhile isD
  match nat? a, r with
  | none, _ => none
  | some n, '.' :: r' =>
    let f := r'.takeWhile isD
    match nat? f with
    | none => none
    | some m => some (⟨(n * 10 ^ f.length + m : Nat), 10 ^ f.length⟩, r'.dropWhile isD)
  | some n, _ => some (⟨(n : Nat), 1⟩, r)

/-- A number of R59 in upper case, at most 20 characters, with the text that follows it. -/
def number? (l : List Char) : Option (Ratio × List Char) :=
  let res :=
    (match l with
    | '0' :: 'X' :: r =>
      let h := r.takeWhile fun c => (hexVal? c).isSome || c == '_'
      let d := h.filter (· != '_')
      if d.length ≤ 16 then
        (hexNat? d).map fun n => (Ratio.mk (n : Nat) 1, r.drop h.length)
      else none
    | '-' :: r => (decimalPart r).map fun p => (Ratio.mk (-p.1.num) p.1.den, p.2)
    | '+' :: r => decimalPart r
    | _ => decimalPart l : Option (Ratio × List Char))
  match res with
  | some (v, t) => if l.length - t.length ≤ 20 then some (v, t) else none
  | none => none

/-- A number with an optional unit suffix of the quantity `q`, in the quantity's SI unit; without a suffix it is in
`dflt` SI units (R60). -/
def quantity (q : Qty) (dflt : Ratio) (l : List Char) : Except NumErr Ratio :=
  match number? l with
  | none => .error .badNumber
  | some (v, []) => .ok (v.mul dflt)
  | some (v, t) =>
    match unitOf t with
    | some (q', f) => if q' = q then .ok (v.mul f) else .error .badUnit
    | none => .error .badNumber

/-- A text without its spaces at the end. -/
def trimEnd (l : List Char) : List Char := (l.reverse.dropWhile (· == ' ')).reverse

end Sys2Proof.Machine.Text
end

