-- ==== Sys2Proof/Machine/Names.lean ====
section
/-! DEFINITION. Names used in device lines: blocks, domains, clock sources, bands, states. -/

namespace Sys2Proof.Machine.Name

/-- A block's short name (R43, R81). -/
def block : Block → String
  | .berth n => "BERTH" ++ Text.dec n.val
  | b => b.shortName

/-- The short name of a block code. -/
def blockOf (c : Nat) : String :=
  match blockOfCode c with
  | some b => block b
  | none => Text.dec c

/-- The n-th entry of a list of names. -/
def pick (l : List String) (n : Nat) : String := l.getD n "?"

def owner (o : Side) : String := match o with | .console => "CONSOLE" | .app => "APP"
def level (e : Bool) : String := if e then "EXPERT" else "BASIC"
def point : Nat → String := pick ["LOW", "NOMINAL", "HIGH"]
def path : Nat → String := pick ["NONE", "VBAT", "VSTORE"]
def depth : Nat → String := pick ["DOZE", "TOP", "HEART", "BASE"]
def domain : Nat → String :=
  pick ["APP", "SYS", "SRA", "SRB", "SRC", "GRF", "GBB", "LKO", "PER", "LGT", "ANA", "CRY", "NVM", "TFS"]
def wake : Nat → String :=
  pick ["RTC_ALARM1", "RTC_ALARM2", "EVR", "GPIO", "UART0", "UART1", "UART2", "I2CT", "TOUCH_PROX", "HARV", "TAMP",
    "BURST", "CLKFAIL", "SYSFW", "?", "NONE"]
def band : Nat → String := pick ["CUT", "RESERVE", "FLOOR", "BOOT", "MEAS", "XMIT"]
def source : Nat → String := pick ["HFO", "LFO", "XTALL", "XTALG", "PSYS", "P160", "P320", "SAMP"]
def clockState : Nat → String := pick ["STOP", "STOP", "RUN", "FAIL"]
def cause : Nat → String :=
  pick ["POR", "VBOR", "CBOR", "NRST", "WDT_SYS", "WDT_APP", "SW_ALL", "SW_APP", "LIFE", "JTAG"]
def system : Nat → String := pick ["BOOT", "SERVICE", "TEST", "RECOVERY"]
def life : Nat → String := pick ["BLANK", "TEST", "PROVISIONED", "DEPLOYED", "RETURNED", "SCRAPPED"]
def slotState : Nat → String := pick ["EMPTY", "INCOMPLETE", "INVALID", "VALID", "NEXT", "ACTIVE"]

/-- The positions of a name in a list. -/
def index (l : List String) (t : String) : Option Nat := l.findIdx? (· == t)

end Sys2Proof.Machine.Name
end

