-- ==== Sys2Proof/Config.lean ====
section
/-! DEFINITION. The values the spec leaves open: constants without a body, applied to the state's counter of free
values, so that no proof can see what they are. -/

namespace Sys2Proof.Config

/-- Whether a read inside a result's window returns the new value (R441). -/
opaque windowNew : Nat → Bool

/-- Which of two values a register written inside a window holds afterwards (R442): true for the later one. -/
opaque windowLater : Nat → Bool

/-- The value a divide's destination holds when another divide was issued in its window (R443). -/
opaque divWord : Nat → Word

/-- The cycles a word stalls (R444). -/
opaque stall : Nat → Nat

/-- A number whose value the spec does not state. -/
opaque number : Nat → Nat

/-- The level of the HERIT strap at a reset that a command or a register write brings (R408), as its three samples. -/
opaque strap : Nat → Nat

/-- The bytes of the identity fuse seed (R610), which only the derivation unit reads. -/
opaque fuseSeed : Nat → Byte

/-- The part's LINEAGE (R411, R610). -/
opaque lineage : Nat

/-- The system firmware's version, as a number and as `SYS VER?` shows it (R83, R620). -/
opaque firmware : Nat
opaque firmwareName : String

/-- The revision of a block, by its code (R33). -/
opaque blockRev : Nat → Nat

/-- The silicon revision, as a number and as `SYS VER?` shows it (R83, R620). -/
opaque silicon : Nat
opaque siliconName : String

/-- Whether a BeiDou satellite's B1I carries D2, with symbols of 2 ms (R153). -/
opaque broadcastsD2 : Nat → Bool

/-- What a pin reads that nothing drives and no pull holds. -/
opaque floating : Nat → Bool

/-- A word of a library program, and the field values firmware derives for it (R553): CFG, PINS, THRS and the FIFO thresholds.
-/
opaque libraryWord : Nat → Nat → Nat
opaque libraryField : Nat → Nat → Nat

/-- Factory values of the ADC (R579, R581): TCAL, and the OFS, GAIN and SKEW of a slice. -/
opaque adcTcal : Nat
opaque adcCoef : Nat → Nat → Nat

/-- The self-test reference of an electrode under a MUTUAL record (R604). -/
opaque electrodeRef : Nat → Nat

/-- The Olxon factory public key, and the product public key whose hash is blown (R420): 57 bytes each. -/
opaque factoryKey : Nat → Byte
opaque productKey : List Nat → Nat → Byte

end Sys2Proof.Config
end

