-- ==== Sys2Proof/Machine/Fields.lean ====
section
/-! DEFINITION. A name for every register field: its address and bits, as the register tables of the spec give them.
Families of registers take their indices as arguments, in the order block instance, outer index, inner index; an index
beyond a family counts round (no meaning uses one). -/

namespace Sys2Proof.Machine.F

def SYSCTL_OWN_BLOCK : Fld := ⟨0x40000020, 0, 10⟩
def SYSCTL_OWN_OWNER : Fld := ⟨0x40000020, 16, 1⟩
def SYSCTL_OWN_STAT_BLOCK : Fld := ⟨0x40000024, 0, 10⟩
def SYSCTL_OWN_STAT_RESULT : Fld := ⟨0x40000024, 16, 2⟩
def SYSCTL_LEDGER_SUM_SUM : Fld := ⟨0x40000030, 0, 16⟩
def SYSCTL_LEDGER_LIMIT_LIMIT : Fld := ⟨0x40000034, 0, 16⟩
def SYSCTL_RCAUSE_LAST : Fld := ⟨0x40000040, 0, 4⟩
def SYSCTL_RCAUSE_STATE : Fld := ⟨0x40000040, 4, 2⟩
def SYSCTL_RCAUSE_SEEN : Fld := ⟨0x40000040, 16, 10⟩
def SYSCTL_SWRST_APP : Fld := ⟨0x40000044, 0, 1⟩
def SYSCTL_SWRST_ALL : Fld := ⟨0x40000044, 1, 1⟩
def SYSCTL_WDTA_TIMEOUT : Fld := ⟨0x40000048, 0, 16⟩
def SYSCTL_WDTA_EN : Fld := ⟨0x40000048, 16, 1⟩
def SYSCTL_WDTA_SERVE : Fld := ⟨0x40000048, 24, 8⟩
def GNSS_MODE_MODE : Fld := ⟨0x50000010, 0, 3⟩
def GNSS_MODE_MODE_PEND : Fld := ⟨0x50000010, 3, 1⟩
def GNSS_MODE_ACT_MODE : Fld := ⟨0x50000010, 4, 3⟩
def GNSS_MODE_STRAP : Fld := ⟨0x50000010, 7, 1⟩
def GNSS_BURST_PERIOD : Fld := ⟨0x50000014, 0, 6⟩
def GNSS_BURST_WINDOW : Fld := ⟨0x50000014, 8, 8⟩
def GNSS_BURST_SETTLE : Fld := ⟨0x50000014, 16, 8⟩
def GNSS_STAT_TRACKED : Fld := ⟨0x50000018, 0, 9⟩
def GNSS_STAT_USED : Fld := ⟨0x50000018, 16, 8⟩
def GNSS_STAT_FIX : Fld := ⟨0x50000018, 24, 1⟩
def GNSS_TOFS_OFS (i : Nat) : Fld := ⟨0x50000020 + i % 5 * 4, 0, 24⟩
def GNSS_TOFS_SRC (i : Nat) : Fld := ⟨0x50000020 + i % 5 * 4, 24, 2⟩
def GNSS_TOFS_NSAT (i : Nat) : Fld := ⟨0x50000020 + i % 5 * 4, 26, 6⟩
def GNSS_OSNMA_EN : Fld := ⟨0x50000040, 0, 1⟩
def GNSS_OSNMA_KEY_OK : Fld := ⟨0x50000040, 1, 1⟩
def GNSS_OSNMA_CHAIN_OK : Fld := ⟨0x50000040, 2, 1⟩
def GNSS_OSNMA_TIME_OK : Fld := ⟨0x50000040, 3, 1⟩
def GNSS_OSNMA_KEY_P521 : Fld := ⟨0x50000040, 4, 1⟩
def GNSS_OSNMA_NAUTH : Fld := ⟨0x50000040, 8, 8⟩
def GNSS_EPOCHCFG_RATE : Fld := ⟨0x50000050, 0, 4⟩
def GNSS_CONS_EN : Fld := ⟨0x50000060, 0, 1⟩
def GNSS_CONS_HOLD : Fld := ⟨0x50000060, 4, 4⟩
def GNSS_CONS_NEXCL : Fld := ⟨0x50000060, 8, 8⟩
def GNSS_CONSLIM_PR_LIM : Fld := ⟨0x50000064, 0, 8⟩
def GNSS_CONSLIM_DOP_LIM : Fld := ⟨0x50000064, 8, 8⟩
def GNSS_CONSLIM_CN0_MAX : Fld := ⟨0x50000064, 16, 8⟩
def GNSS_CONSLIM_CN0_DIFF : Fld := ⟨0x50000064, 24, 8⟩
def GNSS_EXCL_BERTH (i : Nat) : Fld := ⟨0x50000070 + i % 8 * 4, 0, 32⟩
def FRONT_CFG_L1_EN : Fld := ⟨0x50001010, 0, 1⟩
def FRONT_CFG_L5_EN : Fld := ⟨0x50001010, 1, 1⟩
def FRONT_CFG_BIAS_EN : Fld := ⟨0x50001010, 2, 1⟩
def FRONT_CFG_BIAS_SHORT : Fld := ⟨0x50001010, 3, 1⟩
def FRONT_CFG_SUB_EN : Fld := ⟨0x50001010, 8, 5⟩
def FRONT_AGC_GAIN (i : Nat) : Fld := ⟨0x50001020 + i % 2 * 32, 0, 8⟩
def FRONT_AGC_REF (i : Nat) : Fld := ⟨0x50001020 + i % 2 * 32, 8, 8⟩
def FRONT_AGC_OCC (i : Nat) : Fld := ⟨0x50001020 + i % 2 * 32, 16, 8⟩
def FRONT_AGC_OVLD (i : Nat) : Fld := ⟨0x50001020 + i % 2 * 32, 24, 1⟩
def FRONT_JAM_J (i : Nat) : Fld := ⟨0x50001024 + i % 2 * 32, 0, 8⟩
def FRONT_JAM_DEP (i : Nat) : Fld := ⟨0x50001024 + i % 2 * 32, 8, 8⟩
def FRONT_JAM_NACT (i : Nat) : Fld := ⟨0x50001024 + i % 2 * 32, 16, 3⟩
def FRONT_JAM_FLAT (i : Nat) : Fld := ⟨0x50001024 + i % 2 * 32, 24, 6⟩
def FRONT_JAM_ABOVE (i : Nat) : Fld := ⟨0x50001024 + i % 2 * 32, 30, 1⟩
def FRONT_JCFG_THR (i : Nat) : Fld := ⟨0x50001028 + i % 2 * 32, 0, 8⟩
def FRONT_JCFG_HYST (i : Nat) : Fld := ⟨0x50001028 + i % 2 * 32, 8, 8⟩
def FRONT_JCFG_EV (i : Nat) : Fld := ⟨0x50001028 + i % 2 * 32, 16, 1⟩
def FRONT_NCFG_AUTO (i : Nat) : Fld := ⟨0x5000102c + i % 2 * 32, 0, 1⟩
def FRONT_NCFG_DET (i : Nat) : Fld := ⟨0x5000102c + i % 2 * 32, 8, 8⟩
def FRONT_NOTCH_CENTRE (i j : Nat) : Fld := ⟨0x50001030 + i % 2 * 32 + j % 4 * 4, 0, 16⟩
def FRONT_NOTCH_WIDTH (i j : Nat) : Fld := ⟨0x50001030 + i % 2 * 32 + j % 4 * 4, 16, 8⟩
def FRONT_NOTCH_STATE (i j : Nat) : Fld := ⟨0x50001030 + i % 2 * 32 + j % 4 * 4, 24, 2⟩
def FRONT_NOTCH_FIX (i j : Nat) : Fld := ⟨0x50001030 + i % 2 * 32 + j % 4 * 4, 26, 1⟩
def PLAN_CFG_SYS_EN : Fld := ⟨0x50002010, 0, 7⟩
def PLAN_CFG_ELEV : Fld := ⟨0x50002010, 8, 6⟩
def PLAN_STAT_OCCUPIED : Fld := ⟨0x50002014, 0, 8⟩
def PLAN_STAT_BERTHS : Fld := ⟨0x50002014, 8, 9⟩
def PLAN_STAT_DROPPED : Fld := ⟨0x50002014, 24, 8⟩
def PLAN_SLOT_SV_SYS (i : Nat) : Fld := ⟨0x50002100 + i % 128 * 16, 0, 3⟩
def PLAN_SLOT_SV_SVN (i : Nat) : Fld := ⟨0x50002100 + i % 128 * 16, 4, 8⟩
def PLAN_SLOT_SV_GLO_K (i : Nat) : Fld := ⟨0x50002100 + i % 128 * 16, 12, 4⟩
def PLAN_SLOT_SV_EL (i : Nat) : Fld := ⟨0x50002100 + i % 128 * 16, 16, 8⟩
def PLAN_SLOT_SV_AZ (i : Nat) : Fld := ⟨0x50002100 + i % 128 * 16, 24, 8⟩
def PLAN_SLOT_A_SIG (i j : Nat) : Fld := ⟨0x50002104 + i % 128 * 16 + j % 3 * 4, 0, 4⟩
def PLAN_SLOT_A_BERTH (i j : Nat) : Fld := ⟨0x50002104 + i % 128 * 16 + j % 3 * 4, 8, 9⟩
def PLAN_SLOT_A_STATE (i j : Nat) : Fld := ⟨0x50002104 + i % 128 * 16 + j % 3 * 4, 18, 2⟩
def LOOKOUT_CFG_LANES : Fld := ⟨0x50003010, 0, 5⟩
def LOOKOUT_CFG_DEEP : Fld := ⟨0x50003010, 5, 1⟩
def LOOKOUT_CFG_BURST_SEARCH : Fld := ⟨0x50003010, 6, 1⟩
def LOOKOUT_CFG_BUDGET : Fld := ⟨0x50003010, 8, 6⟩
def LOOKOUT_CFG_THRESH : Fld := ⟨0x50003010, 16, 8⟩
def LOOKOUT_STAT_BUSY : Fld := ⟨0x50003014, 0, 5⟩
def LOOKOUT_STAT_QUEUED : Fld := ⟨0x50003014, 8, 8⟩
def LOOKOUT_CNT_HANDOFF : Fld := ⟨0x50003018, 0, 12⟩
def LOOKOUT_CNT_REFUSED : Fld := ⟨0x50003018, 12, 12⟩
def LOOKOUT_CNT_DROPPED : Fld := ⟨0x50003018, 24, 8⟩
def LOOKOUT_SNAP_MS : Fld := ⟨0x50003020, 0, 7⟩
def LOOKOUT_SNAP_GO : Fld := ⟨0x50003020, 8, 1⟩
def LOOKOUT_SNAP_BUSY : Fld := ⟨0x50003020, 9, 1⟩
def LOOKOUT_SNAP_VALID : Fld := ⟨0x50003020, 10, 1⟩
def LOOKOUT_SNAP_RELEASE : Fld := ⟨0x50003020, 11, 1⟩
def LOOKOUT_LANE_SIG_SIG (i : Nat) : Fld := ⟨0x50003100 + i % 16 * 32, 0, 4⟩
def LOOKOUT_LANE_SIG_SVN (i : Nat) : Fld := ⟨0x50003100 + i % 16 * 32, 4, 8⟩
def LOOKOUT_LANE_SIG_GLO_K (i : Nat) : Fld := ⟨0x50003100 + i % 16 * 32, 12, 4⟩
def LOOKOUT_LANE_SIG_COH (i : Nat) : Fld := ⟨0x50003100 + i % 16 * 32, 16, 4⟩
def LOOKOUT_LANE_SIG_NONCOH (i : Nat) : Fld := ⟨0x50003100 + i % 16 * 32, 20, 11⟩
def LOOKOUT_LANE_DOP_CENTRE (i : Nat) : Fld := ⟨0x50003104 + i % 16 * 32, 0, 16⟩
def LOOKOUT_LANE_DOP_STEP (i : Nat) : Fld := ⟨0x50003104 + i % 16 * 32, 16, 10⟩
def LOOKOUT_LANE_DOP_BINS (i : Nat) : Fld := ⟨0x50003104 + i % 16 * 32, 26, 6⟩
def LOOKOUT_LANE_CODE_PHASE (i : Nat) : Fld := ⟨0x50003108 + i % 16 * 32, 0, 16⟩
def LOOKOUT_LANE_CODE_SEG (i : Nat) : Fld := ⟨0x50003108 + i % 16 * 32, 16, 2⟩
def LOOKOUT_LANE_PEAK_DOPPLER (i : Nat) : Fld := ⟨0x5000310c + i % 16 * 32, 0, 16⟩
def LOOKOUT_LANE_PEAK_RATIO (i : Nat) : Fld := ⟨0x5000310c + i % 16 * 32, 16, 8⟩
def LOOKOUT_LANE_PEAK_LTHRESH (i : Nat) : Fld := ⟨0x5000310c + i % 16 * 32, 24, 8⟩
def LOOKOUT_LANE_CMD_START (i : Nat) : Fld := ⟨0x50003110 + i % 16 * 32, 0, 1⟩
def LOOKOUT_LANE_CMD_ABORT (i : Nat) : Fld := ⟨0x50003110 + i % 16 * 32, 1, 1⟩
def LOOKOUT_LANE_CMD_SRC (i : Nat) : Fld := ⟨0x50003110 + i % 16 * 32, 2, 1⟩
def LOOKOUT_LANE_CMD_HANDOFF (i : Nat) : Fld := ⟨0x50003110 + i % 16 * 32, 3, 1⟩
def LOOKOUT_LANE_CMD_BERTH (i : Nat) : Fld := ⟨0x50003110 + i % 16 * 32, 4, 9⟩
def LOOKOUT_LANE_CMD_STATE (i : Nat) : Fld := ⟨0x50003110 + i % 16 * 32, 13, 2⟩
def LOOKOUT_LANE_CMD_ERR (i : Nat) : Fld := ⟨0x50003110 + i % 16 * 32, 15, 1⟩
def BERTH_CFG_SIG (n : Nat) : Fld := ⟨0x50010010 + n % 256 * 0x100, 0, 4⟩
def BERTH_CFG_SVN (n : Nat) : Fld := ⟨0x50010010 + n % 256 * 0x100, 4, 8⟩
def BERTH_CFG_GLO_K (n : Nat) : Fld := ⟨0x50010010 + n % 256 * 0x100, 12, 4⟩
def BERTH_CFG_EN (n : Nat) : Fld := ⟨0x50010010 + n % 256 * 0x100, 16, 1⟩
def BERTH_CFG_PAIR (n : Nat) : Fld := ⟨0x50010010 + n % 256 * 0x100, 17, 1⟩
def BERTH_CFG_BOC (n : Nat) : Fld := ⟨0x50010010 + n % 256 * 0x100, 18, 1⟩
def BERTH_CFG_DUMP_EV (n : Nat) : Fld := ⟨0x50010010 + n % 256 * 0x100, 19, 1⟩
def BERTH_CFG_LOSS_EV (n : Nat) : Fld := ⟨0x50010010 + n % 256 * 0x100, 20, 1⟩
def BERTH_ARMS_EL (n : Nat) : Fld := ⟨0x50010014 + n % 256 * 0x100, 0, 7⟩
def BERTH_ARMS_VEVL (n : Nat) : Fld := ⟨0x50010014 + n % 256 * 0x100, 8, 7⟩
def BERTH_INTEG_COH (n : Nat) : Fld := ⟨0x50010018 + n % 256 * 0x100, 0, 8⟩
def BERTH_INTEG_WIPE (n : Nat) : Fld := ⟨0x50010018 + n % 256 * 0x100, 8, 2⟩
def BERTH_INTEG_NWIN (n : Nat) : Fld := ⟨0x50010018 + n % 256 * 0x100, 16, 8⟩
def BERTH_LOOP_PLL_BW (n : Nat) : Fld := ⟨0x5001001c + n % 256 * 0x100, 0, 7⟩
def BERTH_LOOP_PLL_OPEN (n : Nat) : Fld := ⟨0x5001001c + n % 256 * 0x100, 7, 1⟩
def BERTH_LOOP_FLL_BW (n : Nat) : Fld := ⟨0x5001001c + n % 256 * 0x100, 8, 7⟩
def BERTH_LOOP_FLL_OPEN (n : Nat) : Fld := ⟨0x5001001c + n % 256 * 0x100, 15, 1⟩
def BERTH_LOOP_DLL_BW (n : Nat) : Fld := ⟨0x5001001c + n % 256 * 0x100, 16, 8⟩
def BERTH_LOOP_DLL_OPEN (n : Nat) : Fld := ⟨0x5001001c + n % 256 * 0x100, 24, 1⟩
def BERTH_LOOP_CAID (n : Nat) : Fld := ⟨0x5001001c + n % 256 * 0x100, 25, 1⟩
def BERTH_LOOP_PLL_ORD (n : Nat) : Fld := ⟨0x5001001c + n % 256 * 0x100, 26, 1⟩
def BERTH_LOCK_LOCK_THR (n : Nat) : Fld := ⟨0x50010020 + n % 256 * 0x100, 0, 8⟩
def BERTH_LOCK_PLOCK_THR (n : Nat) : Fld := ⟨0x50010020 + n % 256 * 0x100, 8, 8⟩
def BERTH_LOCK_LOSS_MS (n : Nat) : Fld := ⟨0x50010020 + n % 256 * 0x100, 16, 12⟩
def BERTH_CODE_INC_INC (n : Nat) : Fld := ⟨0x50010024 + n % 256 * 0x100, 0, 32⟩
def BERTH_CARR_INC_INC (n : Nat) : Fld := ⟨0x50010028 + n % 256 * 0x100, 0, 32⟩
def BERTH_LOAD_CODE (n : Nat) : Fld := ⟨0x5001002c + n % 256 * 0x100, 0, 1⟩
def BERTH_LOAD_CARR (n : Nat) : Fld := ⟨0x5001002c + n % 256 * 0x100, 1, 1⟩
def BERTH_LOAD_CODE_PEND (n : Nat) : Fld := ⟨0x5001002c + n % 256 * 0x100, 8, 1⟩
def BERTH_LOAD_CARR_PEND (n : Nat) : Fld := ⟨0x5001002c + n % 256 * 0x100, 9, 1⟩
def BERTH_LOAD_INC_PEND (n : Nat) : Fld := ⟨0x5001002c + n % 256 * 0x100, 10, 1⟩
def BERTH_LOAD_LATE (n : Nat) : Fld := ⟨0x5001002c + n % 256 * 0x100, 12, 1⟩
def BERTH_CODE_SETF_VALUE (n : Nat) : Fld := ⟨0x50010030 + n % 256 * 0x100, 0, 32⟩
def BERTH_CODE_SETI_CHIP (n : Nat) : Fld := ⟨0x50010034 + n % 256 * 0x100, 0, 14⟩
def BERTH_CODE_SETI_SEC (n : Nat) : Fld := ⟨0x50010034 + n % 256 * 0x100, 16, 11⟩
def BERTH_CARR_SET_VALUE (n : Nat) : Fld := ⟨0x50010038 + n % 256 * 0x100, 0, 32⟩
def BERTH_STAT_STATE (n : Nat) : Fld := ⟨0x50010040 + n % 256 * 0x100, 0, 3⟩
def BERTH_STAT_BOND (n : Nat) : Fld := ⟨0x50010040 + n % 256 * 0x100, 3, 1⟩
def BERTH_STAT_PLOCK (n : Nat) : Fld := ⟨0x50010040 + n % 256 * 0x100, 4, 1⟩
def BERTH_STAT_FLOCK (n : Nat) : Fld := ⟨0x50010040 + n % 256 * 0x100, 5, 1⟩
def BERTH_STAT_CLOCK (n : Nat) : Fld := ⟨0x50010040 + n % 256 * 0x100, 6, 1⟩
def BERTH_STAT_HALF (n : Nat) : Fld := ⟨0x50010040 + n % 256 * 0x100, 7, 1⟩
def BERTH_STAT_SEC_SYNC (n : Nat) : Fld := ⟨0x50010040 + n % 256 * 0x100, 8, 1⟩
def BERTH_STAT_BOC_OK (n : Nat) : Fld := ⟨0x50010040 + n % 256 * 0x100, 9, 1⟩
def BERTH_STAT_COH_LIM (n : Nat) : Fld := ⟨0x50010040 + n % 256 * 0x100, 10, 1⟩
def BERTH_STAT_SIDEJ (n : Nat) : Fld := ⟨0x50010040 + n % 256 * 0x100, 16, 8⟩
def BERTH_CN0_CN0 (n : Nat) : Fld := ⟨0x50010044 + n % 256 * 0x100, 0, 10⟩
def BERTH_CN0_LOCKT (n : Nat) : Fld := ⟨0x50010044 + n % 256 * 0x100, 16, 16⟩
def BERTH_DISC_CODE (n : Nat) : Fld := ⟨0x50010048 + n % 256 * 0x100, 0, 16⟩
def BERTH_DISC_CARR (n : Nat) : Fld := ⟨0x50010048 + n % 256 * 0x100, 16, 16⟩
def BERTH_DUMP_SEQ (n : Nat) : Fld := ⟨0x5001004c + n % 256 * 0x100, 0, 16⟩
def BERTH_DUMP_EPOCH (n : Nat) : Fld := ⟨0x5001004c + n % 256 * 0x100, 16, 16⟩
def BERTH_CODE_PHF_VALUE (n : Nat) : Fld := ⟨0x50010050 + n % 256 * 0x100, 0, 32⟩
def BERTH_CODE_PHI_CHIP (n : Nat) : Fld := ⟨0x50010054 + n % 256 * 0x100, 0, 14⟩
def BERTH_CODE_PHI_SEC (n : Nat) : Fld := ⟨0x50010054 + n % 256 * 0x100, 16, 11⟩
def BERTH_CARR_PHF_VALUE (n : Nat) : Fld := ⟨0x50010058 + n % 256 * 0x100, 0, 32⟩
def BERTH_CARR_CYC_VALUE (n : Nat) : Fld := ⟨0x5001005c + n % 256 * 0x100, 0, 32⟩
def BERTH_ACC_I_ACC (n i : Nat) : Fld := ⟨0x50010060 + n % 256 * 0x100 + i % 6 * 8, 0, 32⟩
def BERTH_ACC_Q_ACC (n i : Nat) : Fld := ⟨0x50010064 + n % 256 * 0x100 + i % 6 * 8, 0, 32⟩
def BERTH_SIDE_VE_RATIO (n : Nat) : Fld := ⟨0x50010090 + n % 256 * 0x100, 0, 16⟩
def BERTH_SIDE_VL_RATIO (n : Nat) : Fld := ⟨0x50010090 + n % 256 * 0x100, 16, 16⟩
def SILLAGE_CFG_CLEAR_MS : Fld := ⟨0x50020010, 0, 6⟩
def SILLAGE_CFG_BITS_EN : Fld := ⟨0x50020010, 8, 1⟩
def SILLAGE_CFG_SEED_EN : Fld := ⟨0x50020010, 9, 1⟩
def SILLAGE_CFG_START_DL : Fld := ⟨0x50020010, 16, 7⟩
def SILLAGE_CFG_MAX_AGE : Fld := ⟨0x50020010, 24, 8⟩
def SILLAGE_LIM_CODE_LIM : Fld := ⟨0x50020014, 0, 8⟩
def SILLAGE_LIM_DOP_LIM : Fld := ⟨0x50020014, 8, 8⟩
def SILLAGE_LIM_CODE_TOL : Fld := ⟨0x50020014, 16, 8⟩
def SILLAGE_LIM_CARR_TOL : Fld := ⟨0x50020014, 24, 8⟩
def SILLAGE_STAT_AGE : Fld := ⟨0x50020018, 0, 16⟩
def SILLAGE_STAT_SEEDED : Fld := ⟨0x50020018, 16, 9⟩
def SILLAGE_STAT_VALID : Fld := ⟨0x50020018, 25, 1⟩
def SILLAGE_NEXTS_SEC : Fld := ⟨0x5002001c, 0, 32⟩
def SILLAGE_NEXTF_FRAC : Fld := ⟨0x50020020, 0, 32⟩
def SILLAGE_CNT_CLEARED : Fld := ⟨0x50020024, 0, 12⟩
def SILLAGE_CNT_REFUSED : Fld := ⟨0x50020024, 12, 12⟩
def SILLAGE_CNT_BITFAIL : Fld := ⟨0x50020024, 24, 8⟩
def SILLAGE_EPOCH_OLDEST : Fld := ⟨0x50020028, 0, 16⟩
def SILLAGE_EPOCH_DEPTH : Fld := ⟨0x50020028, 16, 5⟩
def SILLAGE_PSEL_BERTH : Fld := ⟨0x50020030, 0, 8⟩
def SILLAGE_PCODE_PHASE : Fld := ⟨0x50020034, 0, 32⟩
def SILLAGE_PCARR_PHASE : Fld := ⟨0x50020038, 0, 32⟩
def SILLAGE_PDOP_DOP : Fld := ⟨0x5002003c, 0, 32⟩
def SILLAGE_PUNC_CODE_U : Fld := ⟨0x50020040, 0, 16⟩
def SILLAGE_PUNC_DOP_U : Fld := ⟨0x50020040, 16, 16⟩
def SILLAGE_PBITS_BITS : Fld := ⟨0x50020044, 0, 16⟩
def SILLAGE_PBITS_MASK : Fld := ⟨0x50020044, 16, 16⟩
def MEASQ_CFG_EN : Fld := ⟨0x50021010, 0, 1⟩
def MEASQ_CFG_SIZE : Fld := ⟨0x50021010, 4, 4⟩
def MEASQ_BASE_ADDR : Fld := ⟨0x50021014, 4, 28⟩
def MEASQ_HEAD_IDX : Fld := ⟨0x50021018, 0, 12⟩
def MEASQ_TAIL_IDX : Fld := ⟨0x5002101c, 0, 12⟩
def MEASQ_STAT_DROPPED : Fld := ⟨0x50021020, 0, 16⟩
def MEASQ_STAT_LAST : Fld := ⟨0x50021020, 16, 16⟩
def MEASQ_FIX0_WORD : Fld := ⟨0x50021040, 0, 32⟩
def MEASQ_FIX_WORD (i : Nat) : Fld := ⟨0x50021044 + i % 15 * 4, 0, 32⟩
def BITLOG_CFG_EN : Fld := ⟨0x50022010, 0, 1⟩
def BITLOG_CFG_SIZE : Fld := ⟨0x50022010, 4, 4⟩
def BITLOG_BASE_ADDR : Fld := ⟨0x50022014, 4, 28⟩
def BITLOG_HEAD_IDX : Fld := ⟨0x50022018, 0, 12⟩
def BITLOG_TAIL_IDX : Fld := ⟨0x5002201c, 0, 12⟩
def BITLOG_STAT_DROPPED : Fld := ⟨0x50022020, 0, 16⟩
def TIDE_NOWL_SEC : Fld := ⟨0x40009010, 0, 32⟩
def TIDE_NOWH_SECH : Fld := ⟨0x40009014, 0, 16⟩
def TIDE_NOWF_FRAC : Fld := ⟨0x40009018, 0, 32⟩
def TIDE_CFG_SCALE : Fld := ⟨0x40009020, 0, 3⟩
def TIDE_CFG_SRC : Fld := ⟨0x40009020, 4, 2⟩
def TIDE_CFG_LOOP_OPEN : Fld := ⟨0x40009020, 8, 1⟩
def TIDE_CFG_PPS_POL : Fld := ⟨0x40009020, 9, 1⟩
def TIDE_CFG_HTO : Fld := ⟨0x40009020, 16, 8⟩
def TIDE_STAT_STATE : Fld := ⟨0x40009024, 0, 2⟩
def TIDE_STAT_ACT_SRC : Fld := ⟨0x40009024, 2, 2⟩
def TIDE_STAT_SCALE_OK : Fld := ⟨0x40009024, 4, 1⟩
def TIDE_STAT_AGE : Fld := ⟨0x40009024, 16, 16⟩
def TIDE_ERR_ERR : Fld := ⟨0x40009028, 0, 32⟩
def TIDE_INC_INC : Fld := ⟨0x4000902c, 0, 32⟩
def TIDE_RATE_ADJ : Fld := ⟨0x40009030, 0, 32⟩
def TIDE_GAIN_KP : Fld := ⟨0x40009034, 0, 16⟩
def TIDE_GAIN_KI : Fld := ⟨0x40009034, 16, 16⟩
def TIDE_STEPTH_TH : Fld := ⟨0x40009038, 0, 10⟩
def TIDE_LEAP_CUR : Fld := ⟨0x4000903c, 0, 8⟩
def TIDE_LEAP_SRC : Fld := ⟨0x4000903c, 8, 1⟩
def TIDE_LEAP_NEXT : Fld := ⟨0x4000903c, 16, 8⟩
def TIDE_LEAP_PEND : Fld := ⟨0x4000903c, 24, 1⟩
def TIDE_LEAPAT_AT : Fld := ⟨0x40009040, 0, 32⟩
def TIDE_LASTE_E : Fld := ⟨0x40009044, 0, 32⟩
def TIDE_ALIGN_ALIGN : Fld := ⟨0x40009048, 0, 16⟩
def TIDE_ADDS_SEC : Fld := ⟨0x4000904c, 0, 32⟩
def TIDE_ADDF_FRAC : Fld := ⟨0x40009050, 0, 32⟩
def TIDE_CTRL_STEP : Fld := ⟨0x40009054, 0, 1⟩
def TIDE_CTRL_STEP_PEND : Fld := ⟨0x40009054, 1, 1⟩
def TIDE_HOLD_GROW : Fld := ⟨0x40009058, 0, 16⟩
def TIDE_HOLD_SLPGROW : Fld := ⟨0x40009058, 16, 16⟩
def TIDE_PPSDLY_DLY : Fld := ⟨0x4000905c, 0, 32⟩
def TIDE_ARATE_ADJ : Fld := ⟨0x40009060, 0, 32⟩
def TIDE_PPSCNT_REJ : Fld := ⟨0x40009064, 0, 16⟩
def TIDE_TTCFG_EN : Fld := ⟨0x40009070, 0, 1⟩
def TIDE_TTCFG_PORT : Fld := ⟨0x40009070, 1, 1⟩
def TIDE_TTCFG_MAXDLY : Fld := ⟨0x40009070, 16, 16⟩
def TIDE_TTOFS_OFFSET : Fld := ⟨0x40009074, 0, 32⟩
def TIDE_TTDLY_DELAY : Fld := ⟨0x40009078, 0, 32⟩
def TIDE_TTSTAT_LAST : Fld := ⟨0x4000907c, 0, 16⟩
def TIDE_TTCNT_ACC : Fld := ⟨0x40009080, 0, 16⟩
def TIDE_TTCNT_REJ : Fld := ⟨0x40009080, 16, 16⟩
def TP_CTRL_EN : Fld := ⟨0x4000a010, 0, 1⟩
def TP_CTRL_APPLY : Fld := ⟨0x4000a010, 1, 1⟩
def TP_CTRL_POL : Fld := ⟨0x4000a010, 2, 1⟩
def TP_CTRL_POLICY : Fld := ⟨0x4000a010, 3, 1⟩
def TP_CTRL_SCALE : Fld := ⟨0x4000a010, 4, 3⟩
def TP_PERS_SEC : Fld := ⟨0x4000a014, 0, 32⟩
def TP_PERF_FRAC : Fld := ⟨0x4000a018, 0, 32⟩
def TP_WIDTH_TICKS : Fld := ⟨0x4000a01c, 0, 32⟩
def TP_DELAY_DELAY : Fld := ⟨0x4000a020, 0, 32⟩
def TP_STAT_ON : Fld := ⟨0x4000a024, 0, 1⟩
def TP_STAT_FLAG : Fld := ⟨0x4000a024, 1, 1⟩
def TP_STAT_STOPPED : Fld := ⟨0x4000a024, 2, 1⟩
def TP_STAT_SKIP : Fld := ⟨0x4000a024, 3, 1⟩
def TP_STAT_APPLY_PEND : Fld := ⟨0x4000a024, 4, 1⟩
def TP_QNEXT_SEC : Fld := ⟨0x4000a028, 0, 32⟩
def TP_QERR_QERR : Fld := ⟨0x4000a02c, 0, 16⟩
def TP_QERR_VALID : Fld := ⟨0x4000a02c, 16, 1⟩
def TP_ERRLIM_LIM : Fld := ⟨0x4000a030, 0, 16⟩
def RTC_BSEC_SEC : Fld := ⟨0x4000b010, 0, 32⟩
def RTC_BHI_SECH : Fld := ⟨0x4000b014, 0, 8⟩
def RTC_BHI_FRAC : Fld := ⟨0x4000b014, 16, 16⟩
def RTC_CAL0_SEC : Fld := ⟨0x4000b018, 0, 7⟩
def RTC_CAL0_MIN : Fld := ⟨0x4000b018, 8, 7⟩
def RTC_CAL0_HOUR : Fld := ⟨0x4000b018, 16, 6⟩
def RTC_CAL0_WDAY : Fld := ⟨0x4000b018, 24, 3⟩
def RTC_CAL1_DAY : Fld := ⟨0x4000b01c, 0, 6⟩
def RTC_CAL1_MONTH : Fld := ⟨0x4000b01c, 8, 5⟩
def RTC_CAL1_YEAR : Fld := ⟨0x4000b01c, 16, 8⟩
def RTC_CAL1_CENT : Fld := ⟨0x4000b01c, 24, 2⟩
def RTC_SBSEC_SEC : Fld := ⟨0x4000b020, 0, 32⟩
def RTC_SBHI_SECH : Fld := ⟨0x4000b024, 0, 8⟩
def RTC_SBHI_FRAC : Fld := ⟨0x4000b024, 16, 16⟩
def RTC_SCAL0_SEC : Fld := ⟨0x4000b028, 0, 7⟩
def RTC_SCAL0_MIN : Fld := ⟨0x4000b028, 8, 7⟩
def RTC_SCAL0_HOUR : Fld := ⟨0x4000b028, 16, 6⟩
def RTC_SCAL0_WDAY : Fld := ⟨0x4000b028, 24, 3⟩
def RTC_SCAL1_DAY : Fld := ⟨0x4000b02c, 0, 6⟩
def RTC_SCAL1_MONTH : Fld := ⟨0x4000b02c, 8, 5⟩
def RTC_SCAL1_YEAR : Fld := ⟨0x4000b02c, 16, 8⟩
def RTC_SCAL1_CENT : Fld := ⟨0x4000b02c, 24, 2⟩
def RTC_APPLY_NOW : Fld := ⟨0x4000b030, 0, 1⟩
def RTC_APPLY_SECOND : Fld := ⟨0x4000b030, 1, 1⟩
def RTC_APPLY_CANCEL : Fld := ⟨0x4000b030, 2, 1⟩
def RTC_APPLY_PEND : Fld := ⟨0x4000b030, 8, 1⟩
def RTC_CTRL_MODE : Fld := ⟨0x4000b034, 0, 1⟩
def RTC_CTRL_DISC_EN : Fld := ⟨0x4000b034, 1, 1⟩
def RTC_CTRL_TRK_RES : Fld := ⟨0x4000b034, 4, 2⟩
def RTC_CTRL_TRK_DIODE : Fld := ⟨0x4000b034, 6, 1⟩
def RTC_SHIFT_COUNT : Fld := ⟨0x4000b038, 0, 16⟩
def RTC_SHIFT_START : Fld := ⟨0x4000b038, 16, 1⟩
def RTC_SHIFT_PEND : Fld := ⟨0x4000b038, 17, 1⟩
def RTC_STAT_OSF : Fld := ⟨0x4000b03c, 0, 1⟩
def RTC_STAT_TSET : Fld := ⟨0x4000b03c, 1, 1⟩
def RTC_STAT_LOCKED : Fld := ⟨0x4000b03c, 2, 1⟩
def RTC_STAT_ALM1 : Fld := ⟨0x4000b03c, 3, 1⟩
def RTC_STAT_ALM2 : Fld := ⟨0x4000b03c, 4, 1⟩
def RTC_STAT_BADSET : Fld := ⟨0x4000b03c, 5, 1⟩
def RTC_STAT_STAGE_LOST : Fld := ⟨0x4000b03c, 6, 1⟩
def RTC_STAT_SHIFT_CUT : Fld := ⟨0x4000b03c, 7, 1⟩
def RTC_STAT_SRC : Fld := ⟨0x4000b03c, 8, 1⟩
def RTC_STAT_CLKSRC : Fld := ⟨0x4000b03c, 9, 1⟩
def RTC_ALMCTL_EN1 : Fld := ⟨0x4000b040, 0, 1⟩
def RTC_ALMCTL_EN2 : Fld := ⟨0x4000b040, 1, 1⟩
def RTC_ALM_C0_SEC (i : Nat) : Fld := ⟨0x4000b050 + i % 2 * 32, 0, 7⟩
def RTC_ALM_C0_MSEC (i : Nat) : Fld := ⟨0x4000b050 + i % 2 * 32, 7, 1⟩
def RTC_ALM_C0_MIN (i : Nat) : Fld := ⟨0x4000b050 + i % 2 * 32, 8, 7⟩
def RTC_ALM_C0_MMIN (i : Nat) : Fld := ⟨0x4000b050 + i % 2 * 32, 15, 1⟩
def RTC_ALM_C0_HOUR (i : Nat) : Fld := ⟨0x4000b050 + i % 2 * 32, 16, 6⟩
def RTC_ALM_C0_MHOUR (i : Nat) : Fld := ⟨0x4000b050 + i % 2 * 32, 23, 1⟩
def RTC_ALM_C0_WDAY (i : Nat) : Fld := ⟨0x4000b050 + i % 2 * 32, 24, 3⟩
def RTC_ALM_C0_MWDAY (i : Nat) : Fld := ⟨0x4000b050 + i % 2 * 32, 27, 1⟩
def RTC_ALM_C1_DAY (i : Nat) : Fld := ⟨0x4000b054 + i % 2 * 32, 0, 6⟩
def RTC_ALM_C1_MDAY (i : Nat) : Fld := ⟨0x4000b054 + i % 2 * 32, 7, 1⟩
def RTC_ALM_C1_MONTH (i : Nat) : Fld := ⟨0x4000b054 + i % 2 * 32, 8, 5⟩
def RTC_ALM_C1_MMONTH (i : Nat) : Fld := ⟨0x4000b054 + i % 2 * 32, 15, 1⟩
def RTC_ALM_C1_YEAR (i : Nat) : Fld := ⟨0x4000b054 + i % 2 * 32, 16, 8⟩
def RTC_ALM_C1_CENT (i : Nat) : Fld := ⟨0x4000b054 + i % 2 * 32, 24, 2⟩
def RTC_ALM_C1_MYEAR (i : Nat) : Fld := ⟨0x4000b054 + i % 2 * 32, 26, 1⟩
def RTC_ALM_C1_MCENT (i : Nat) : Fld := ⟨0x4000b054 + i % 2 * 32, 27, 1⟩
def RTC_ALM_BCMPL_CMP (i : Nat) : Fld := ⟨0x4000b058 + i % 2 * 32, 0, 32⟩
def RTC_ALM_BCMPH_CMP (i : Nat) : Fld := ⟨0x4000b05c + i % 2 * 32, 0, 8⟩
def RTC_ALM_BCMPH_MSK (i : Nat) : Fld := ⟨0x4000b05c + i % 2 * 32, 8, 8⟩
def RTC_ALM_BMSKL_MSK (i : Nat) : Fld := ⟨0x4000b060 + i % 2 * 32, 0, 32⟩
def RTC_DISCT_SEC : Fld := ⟨0x4000b090, 0, 32⟩
def PWR_POINT_POINT : Fld := ⟨0x40001010, 0, 2⟩
def PWR_POINT_ACT : Fld := ⟨0x40001010, 2, 2⟩
def PWR_POINT_PEND : Fld := ⟨0x40001010, 4, 1⟩
def PWR_POINT_VSET : Fld := ⟨0x40001010, 8, 8⟩
def PWR_PATH_POLICY : Fld := ⟨0x40001014, 0, 1⟩
def PWR_PATH_ACT : Fld := ⟨0x40001014, 1, 2⟩
def PWR_PATH_VBAT_OK : Fld := ⟨0x40001014, 3, 1⟩
def PWR_PATH_STORE_OK : Fld := ⟨0x40001014, 4, 1⟩
def PWR_REG_MODE : Fld := ⟨0x40001018, 0, 1⟩
def PWR_REG_ACT : Fld := ⟨0x40001018, 1, 1⟩
def PWR_REG_SLP_LDO : Fld := ⟨0x40001018, 2, 1⟩
def PWR_STAT_HOLD_OK : Fld := ⟨0x4000101c, 0, 1⟩
def PWR_STAT_ARMED : Fld := ⟨0x4000101c, 1, 1⟩
def PWR_STAT_IO1_OK : Fld := ⟨0x4000101c, 2, 1⟩
def PWR_STAT_IO2_OK : Fld := ⟨0x4000101c, 3, 1⟩
def PWR_STAT_CBOR_CNT : Fld := ⟨0x4000101c, 8, 8⟩
def PWR_DOMF_FORCE : Fld := ⟨0x40001020, 0, 14⟩
def PWR_DOMS_PG : Fld := ⟨0x40001024, 0, 14⟩
def PWR_BIAS_BIAS : Fld := ⟨0x40001028, 0, 28⟩
def PWR_SLEEP_DEPTH : Fld := ⟨0x40001030, 0, 2⟩
def PWR_SLEEP_MAXD : Fld := ⟨0x40001030, 2, 2⟩
def PWR_SLEEP_LINGER : Fld := ⟨0x40001030, 8, 8⟩
def PWR_RETAIN_BANKS : Fld := ⟨0x40001034, 0, 24⟩
def PWR_RETAIN_ITCM : Fld := ⟨0x40001034, 24, 1⟩
def PWR_RETAIN_DTCM : Fld := ⟨0x40001034, 25, 1⟩
def PWR_WAKEEN_EN : Fld := ⟨0x40001038, 0, 10⟩
def PWR_WAKEEN_FIXED : Fld := ⟨0x40001038, 10, 4⟩
def PWR_WAKE_SRC_SRC : Fld := ⟨0x40001040, 0, 4⟩
def PWR_WAKE_SRC_FROM : Fld := ⟨0x40001040, 4, 3⟩
def PWR_WAKE_SRC_IDX : Fld := ⟨0x40001040, 8, 3⟩
def PWR_WAKE_SRC_MASK : Fld := ⟨0x40001040, 16, 14⟩
def PWR_WAKE_SEC_SEC : Fld := ⟨0x40001044, 0, 32⟩
def PWR_WAKE_FRAC_FRAC : Fld := ⟨0x40001048, 0, 32⟩
def PWR_WBOOT_VECTOR : Fld := ⟨0x4000104c, 2, 30⟩
def PWR_BOR_GRACE : Fld := ⟨0x40001050, 0, 8⟩
def PWR_BOR_SAVE_EN : Fld := ⟨0x40001050, 8, 1⟩
def HARV_MPPT_MODE : Fld := ⟨0x40003010, 0, 1⟩
def HARV_MPPT_KIND : Fld := ⟨0x40003010, 1, 1⟩
def HARV_MPPT_FRAC : Fld := ⟨0x40003010, 2, 7⟩
def HARV_MPPT_FIXV : Fld := ⟨0x40003010, 16, 9⟩
def HARV_MPPT_PERIOD : Fld := ⟨0x40003010, 25, 7⟩
def HARV_PROT_OVP : Fld := ⟨0x40003014, 0, 1⟩
def HARV_PROT_CHG_EN : Fld := ⟨0x40003014, 1, 1⟩
def HARV_PROT_CLR : Fld := ⟨0x40003014, 2, 1⟩
def HARV_XMIT_LEVEL : Fld := ⟨0x40003018, 0, 7⟩
def HARV_STAT_VST : Fld := ⟨0x4000301c, 0, 10⟩
def HARV_STAT_BAND : Fld := ⟨0x4000301c, 10, 3⟩
def HARV_STAT_CONN : Fld := ⟨0x4000301c, 13, 1⟩
def HARV_STAT_CHG : Fld := ⟨0x4000301c, 14, 1⟩
def HARV_STAT_OVPT : Fld := ⟨0x4000301c, 15, 1⟩
def HARV_STAT_TBLK : Fld := ⟨0x4000301c, 16, 1⟩
def HARV_STAT_UVP : Fld := ⟨0x4000301c, 17, 1⟩
def HARV_STAT_OCP : Fld := ⟨0x4000301c, 18, 1⟩
def HARV_STAT_LATCH : Fld := ⟨0x4000301c, 19, 1⟩
def HARV_STAT_COLD : Fld := ⟨0x4000301c, 20, 1⟩
def HARV_IN_PIN : Fld := ⟨0x40003020, 0, 16⟩
def HARV_IN_VOC : Fld := ⟨0x40003020, 16, 16⟩
def HARV_CELL_K : Fld := ⟨0x40003024, 0, 16⟩
def HARV_EST_E : Fld := ⟨0x40003028, 0, 24⟩
def HARV_WAKE_EN : Fld := ⟨0x4000302c, 0, 3⟩
def HARV_PCFG_EN : Fld := ⟨0x40003030, 0, 1⟩
def HARV_PCFG_SRC : Fld := ⟨0x40003030, 1, 1⟩
def HARV_PCFG_MAXT : Fld := ⟨0x40003030, 8, 8⟩
def HARV_PSTAT_CLS : Fld := ⟨0x40003034, 0, 3⟩
def HARV_PSTAT_REQ : Fld := ⟨0x40003034, 3, 1⟩
def HARV_PSTAT_GNT : Fld := ⟨0x40003034, 4, 1⟩
def HARV_PSTAT_WAIT : Fld := ⟨0x40003034, 5, 1⟩
def HARV_PSTAT_NEVER : Fld := ⟨0x40003034, 6, 1⟩
def HARV_PSTAT_CUT : Fld := ⟨0x40003034, 7, 1⟩
def HARV_PCNT_DENIED : Fld := ⟨0x40003038, 0, 10⟩
def HARV_PCNT_CUTS : Fld := ⟨0x40003038, 10, 10⟩
def HARV_PCNT_BADREQ : Fld := ⟨0x40003038, 20, 10⟩
def HARV_CLS_E (i : Nat) : Fld := ⟨0x40003040 + i % 8 * 4, 0, 16⟩
def CLK_CFG_XG_TYPE : Fld := ⟨0x40002010, 0, 1⟩
def CLK_CFG_XL_EXT : Fld := ⟨0x40002010, 1, 1⟩
def CLK_CFG_FLL_EN : Fld := ⟨0x40002010, 2, 1⟩
def CLK_CFG_PLL_REF : Fld := ⟨0x40002010, 3, 1⟩
def CLK_CFG_RETRY : Fld := ⟨0x40002010, 4, 1⟩
def CLK_STAT_HFO : Fld := ⟨0x40002014, 0, 2⟩
def CLK_STAT_LFO : Fld := ⟨0x40002014, 2, 2⟩
def CLK_STAT_XTALL : Fld := ⟨0x40002014, 4, 2⟩
def CLK_STAT_XTALG : Fld := ⟨0x40002014, 6, 2⟩
def CLK_STAT_SYSPLL : Fld := ⟨0x40002014, 8, 2⟩
def CLK_STAT_RFSYN : Fld := ⟨0x40002014, 10, 2⟩
def CLK_STAT_FLL_LOCK : Fld := ⟨0x40002014, 12, 1⟩
def CLK_STAT_REF_ACT : Fld := ⟨0x40002014, 13, 1⟩
def CLK_MON_WINDOW (i : Nat) : Fld := ⟨0x40002020 + i % 3 * 4, 0, 16⟩
def CLK_MON_TOL (i : Nat) : Fld := ⟨0x40002020 + i % 3 * 4, 16, 8⟩
def CLK_MON_EN (i : Nat) : Fld := ⟨0x40002020 + i % 3 * 4, 24, 1⟩
def CLK_MON_DEV (i : Nat) : Fld := ⟨0x40002020 + i % 3 * 4, 25, 1⟩
def CLK_MONCNT_COUNT (i : Nat) : Fld := ⟨0x40002030 + i % 3 * 4, 0, 24⟩
def CLK_HFO_TRIM : Fld := ⟨0x40002040, 0, 10⟩
def CLK_HFO_FTRIM : Fld := ⟨0x40002040, 16, 10⟩
def CLK_FAILREC_SRC : Fld := ⟨0x40002044, 0, 3⟩
def CLK_FAILREC_KIND : Fld := ⟨0x40002044, 3, 1⟩
def CLK_FAILREC_NFAIL : Fld := ⟨0x40002044, 16, 16⟩
def CLK_ISL_SEL (i : Nat) : Fld := ⟨0x40002100 + i % 16 * 4, 0, 3⟩
def CLK_ISL_ACT (i : Nat) : Fld := ⟨0x40002100 + i % 16 * 4, 4, 3⟩
def CLK_ISL_PEND (i : Nat) : Fld := ⟨0x40002100 + i % 16 * 4, 7, 1⟩
def CLK_ISL_RUN_EN (i : Nat) : Fld := ⟨0x40002100 + i % 16 * 4, 8, 1⟩
def CLK_ISL_SLP_EN (i : Nat) : Fld := ⟨0x40002100 + i % 16 * 4, 9, 1⟩
def CLK_ISL_DSLP_EN (i : Nat) : Fld := ⟨0x40002100 + i % 16 * 4, 10, 1⟩
def CLK_ISL_RUNNING (i : Nat) : Fld := ⟨0x40002100 + i % 16 * 4, 11, 1⟩
def CLK_ISL_FAILOVER (i : Nat) : Fld := ⟨0x40002100 + i % 16 * 4, 12, 1⟩
def LIFE_STATE_STATE : Fld := ⟨0x40018010, 0, 3⟩
def LIFE_STATE_DEBUG : Fld := ⟨0x40018010, 3, 1⟩
def LIFE_STATE_ROLLBACK : Fld := ⟨0x40018010, 4, 7⟩
def LIFE_STATE_REDEPLOY : Fld := ⟨0x40018010, 11, 3⟩
def LIFE_STATE_INTENT : Fld := ⟨0x40018010, 14, 1⟩
def LIFE_SLOT_ACTIVE : Fld := ⟨0x40018014, 0, 1⟩
def LIFE_SLOT_STA : Fld := ⟨0x40018014, 1, 3⟩
def LIFE_SLOT_STB : Fld := ⟨0x40018014, 4, 3⟩
def LIFE_VERA_VERSION : Fld := ⟨0x40018018, 0, 32⟩
def LIFE_VERB_VERSION : Fld := ⟨0x4001801c, 0, 32⟩
def MEMCTL_DCFG_EN : Fld := ⟨0x40007010, 0, 1⟩
def MEMCTL_DCFG_SHIFT : Fld := ⟨0x40007010, 4, 4⟩
def MEMCTL_DREG_BANKS : Fld := ⟨0x40007014, 0, 24⟩
def MEMCTL_DREG_AON : Fld := ⟨0x40007014, 24, 1⟩
def MEMCTL_DREG_ITCM : Fld := ⟨0x40007014, 25, 1⟩
def MEMCTL_DREG_DTCM : Fld := ⟨0x40007014, 26, 1⟩
def MEMCTL_DPOS_ADDR : Fld := ⟨0x40007018, 4, 28⟩
def MEMCTL_DPASS_COUNT : Fld := ⟨0x4000701c, 0, 32⟩
def MEMCTL_LOST_BANK : Fld := ⟨0x40007020, 0, 24⟩
def MEMCTL_CEADDR_ADDR : Fld := ⟨0x40007024, 4, 28⟩
def MEMCTL_UEADDR_ADDR : Fld := ⟨0x40007028, 4, 28⟩
def MEMCTL_UESRC_REGION : Fld := ⟨0x4000702c, 0, 5⟩
def MEMCTL_UESRC_MASTER : Fld := ⟨0x4000702c, 8, 4⟩
def MEMCTL_UESRC_PARTIAL : Fld := ⟨0x4000702c, 12, 1⟩
def MEMCTL_SPARE_USED (i : Nat) : Fld := ⟨0x40007040 + i % 3 * 4, 0, 32⟩
def MEMCTL_REMAP_AON : Fld := ⟨0x40007050, 0, 4⟩
def MEMCTL_REMAP_SEC : Fld := ⟨0x40007050, 4, 4⟩
def MEMCTL_WIPE_BUSY : Fld := ⟨0x40007060, 0, 1⟩
def MEMCTL_WIPE_CAUSE : Fld := ⟨0x40007060, 1, 1⟩
def MEMCTL_ERR_CE (i : Nat) : Fld := ⟨0x40007100 + i % 30 * 4, 0, 16⟩
def MEMCTL_ERR_UE (i : Nat) : Fld := ⟨0x40007100 + i % 30 * 4, 16, 16⟩
def MEMCTL_CONF_COUNT (i : Nat) : Fld := ⟨0x40007200 + i % 14 * 4, 0, 16⟩
def LOGS_ADDR_PAGE : Fld := ⟨0x40008010, 0, 10⟩
def LOGS_CMD_PROG : Fld := ⟨0x40008014, 0, 1⟩
def LOGS_CMD_TWIN_WR : Fld := ⟨0x40008014, 1, 1⟩
def LOGS_CMD_TWIN_RD : Fld := ⟨0x40008014, 2, 1⟩
def LOGS_STAT_BUSY : Fld := ⟨0x40008018, 0, 1⟩
def LOGS_STAT_QUEUED : Fld := ⟨0x40008018, 1, 1⟩
def LOGS_STAT_RECOV : Fld := ⟨0x40008018, 2, 1⟩
def LOGS_STAT_RESULT : Fld := ⟨0x40008018, 4, 4⟩
def LOGS_STAT_OVR : Fld := ⟨0x40008018, 8, 1⟩
def LOGS_PROT_BP : Fld := ⟨0x4000801c, 0, 2⟩
def LOGS_MASK_MASK (i : Nat) : Fld := ⟨0x40008020 + i % 4 * 4, 0, 32⟩
def LOGS_JSEQ_SEQ : Fld := ⟨0x40008030, 0, 32⟩
def LOGS_WEAR_UPCT : Fld := ⟨0x40008034, 0, 8⟩
def LOGS_WEAR_UPAGE : Fld := ⟨0x40008034, 8, 10⟩
def LOGS_WEAR_JPCT : Fld := ⟨0x40008034, 24, 8⟩
def LOGS_PCNT_COUNT : Fld := ⟨0x40008038, 0, 24⟩
def LOGS_REC_JRNL : Fld := ⟨0x4000803c, 0, 2⟩
def LOGS_REC_TALLY : Fld := ⟨0x4000803c, 2, 2⟩
def LOGS_BUF_DATA (i : Nat) : Fld := ⟨0x40008100 + i % 32 * 4, 0, 32⟩
def MAN_CFG_EN (m : Nat) : Fld := ⟨0x40004010 + m % 2 * 0x1000, 0, 1⟩
def MAN_CFG_SIZE (m : Nat) : Fld := ⟨0x40004010 + m % 2 * 0x1000, 4, 4⟩
def MAN_BASE_ADDR (m : Nat) : Fld := ⟨0x40004014 + m % 2 * 0x1000, 4, 28⟩
def MAN_MOD_COUNT (m : Nat) : Fld := ⟨0x40004018 + m % 2 * 0x1000, 0, 5⟩
def MAN_MOD_TIME (m : Nat) : Fld := ⟨0x40004018 + m % 2 * 0x1000, 16, 10⟩
def MAN_MOD_FROM (m : Nat) : Fld := ⟨0x40004018 + m % 2 * 0x1000, 28, 2⟩
def MAN_POP0_WORD (m : Nat) : Fld := ⟨0x40004020 + m % 2 * 0x1000, 0, 32⟩
def MAN_POP_WORD (m i : Nat) : Fld := ⟨0x40004024 + m % 2 * 0x1000 + i % 3 * 4, 0, 32⟩
def MAN_STAT_HELD (m : Nat) : Fld := ⟨0x40004030 + m % 2 * 0x1000, 0, 13⟩
def MAN_STAT_RSV (m : Nat) : Fld := ⟨0x40004030 + m % 2 * 0x1000, 16, 4⟩
def MAN_STAT_MNE (m : Nat) : Fld := ⟨0x40004030 + m % 2 * 0x1000, 20, 1⟩
def MAN_LOST_LOST13 (m : Nat) : Fld := ⟨0x40004034 + m % 2 * 0x1000, 0, 16⟩
def MAN_LOST_LOST0 (m : Nat) : Fld := ⟨0x40004034 + m % 2 * 0x1000, 16, 8⟩
def MAN_SEQ_NEXT (m : Nat) : Fld := ⟨0x40004038 + m % 2 * 0x1000, 0, 16⟩
def MAN_RAISE_SRC (m : Nat) : Fld := ⟨0x4000403c + m % 2 * 0x1000, 0, 8⟩
def MAN_RAISE_VALUE (m : Nat) : Fld := ⟨0x4000403c + m % 2 * 0x1000, 8, 24⟩
def MAN_ALIASCNT_COUNT (m : Nat) : Fld := ⟨0x40004040 + m % 2 * 0x1000, 0, 16⟩
def MAN_MASK_MASK (m i : Nat) : Fld := ⟨0x40004100 + m % 2 * 0x1000 + i % 6 * 4, 0, 32⟩
def MAN_PEND_PEND (m i : Nat) : Fld := ⟨0x40004120 + m % 2 * 0x1000 + i % 6 * 4, 0, 32⟩
def MAN_MASKSET_SET (m i : Nat) : Fld := ⟨0x40004140 + m % 2 * 0x1000 + i % 6 * 4, 0, 32⟩
def MAN_MASKCLR_CLR (m i : Nat) : Fld := ⟨0x40004160 + m % 2 * 0x1000 + i % 6 * 4, 0, 32⟩
def MAN_PENDSET_SET (m i : Nat) : Fld := ⟨0x40004180 + m % 2 * 0x1000 + i % 6 * 4, 0, 32⟩
def MAN_PENDCLR_CLR (m i : Nat) : Fld := ⟨0x400041a0 + m % 2 * 0x1000 + i % 6 * 4, 0, 32⟩
def MAN_CLASS_CLASS (m i : Nat) : Fld := ⟨0x40004200 + m % 2 * 0x1000 + i % 12 * 4, 0, 32⟩
def EVR_SWTRIG_TRIG : Fld := ⟨0x40006010, 0, 4⟩
def EVR_OVR_OVR : Fld := ⟨0x40006014, 0, 32⟩
def EVR_OVRH_OVR : Fld := ⟨0x40006018, 0, 16⟩
def EVR_WFLAG_FLAG : Fld := ⟨0x40006020, 0, 32⟩
def EVR_WMAN_MAN : Fld := ⟨0x40006024, 0, 32⟩
def EVR_TICK_SHIFT : Fld := ⟨0x40006028, 0, 5⟩
def EVR_TICK_EN : Fld := ⟨0x40006028, 8, 1⟩
def EVR_WATCH_SEL (i : Nat) : Fld := ⟨0x40006040 + i % 32 * 4, 0, 6⟩
def EVR_WATCH_EN (i : Nat) : Fld := ⟨0x40006040 + i % 32 * 4, 8, 1⟩
def EVR_CNT_COUNT (i : Nat) : Fld := ⟨0x400060c0 + i % 4 * 4, 0, 16⟩
def EVR_CAPSTAT_FULL : Fld := ⟨0x400060d0, 0, 4⟩
def EVR_CAPS_SEC (i : Nat) : Fld := ⟨0x400060e0 + i % 4 * 8, 0, 32⟩
def EVR_CAPF_FRAC (i : Nat) : Fld := ⟨0x400060e4 + i % 4 * 8, 0, 32⟩
def EVR_EN_L_EN (i : Nat) : Fld := ⟨0x40006100 + i % 48 * 8, 0, 32⟩
def EVR_EN_H_EN (i : Nat) : Fld := ⟨0x40006104 + i % 48 * 8, 0, 32⟩
def LGT_SUM_RUN : Fld := ⟨0x40012010, 0, 8⟩
def LGT_SUM_STALLED : Fld := ⟨0x40012010, 8, 8⟩
def LGT_SUM_IMERR : Fld := ⟨0x40012010, 16, 8⟩
def LGT_CFG_WRAP_BOT (i : Nat) : Fld := ⟨0x40012100 + i % 8 * 64, 0, 5⟩
def LGT_CFG_WRAP_TOP (i : Nat) : Fld := ⟨0x40012100 + i % 8 * 64, 8, 5⟩
def LGT_CFG_ORDER (i : Nat) : Fld := ⟨0x40012100 + i % 8 * 64, 16, 1⟩
def LGT_CFG_AUTOFILL (i : Nat) : Fld := ⟨0x40012100 + i % 8 * 64, 17, 1⟩
def LGT_CFG_AUTODRAIN (i : Nat) : Fld := ⟨0x40012100 + i % 8 * 64, 18, 1⟩
def LGT_CFG_STEPW (i : Nat) : Fld := ⟨0x40012100 + i % 8 * 64, 20, 2⟩
def LGT_CFG_LIB (i : Nat) : Fld := ⟨0x40012100 + i % 8 * 64, 24, 4⟩
def LGT_PINS_OBASE (i : Nat) : Fld := ⟨0x40012104 + i % 8 * 64, 0, 6⟩
def LGT_PINS_OCNT (i : Nat) : Fld := ⟨0x40012104 + i % 8 * 64, 8, 6⟩
def LGT_PINS_IBASE (i : Nat) : Fld := ⟨0x40012104 + i % 8 * 64, 16, 6⟩
def LGT_PINS_CKPIN (i : Nat) : Fld := ⟨0x40012104 + i % 8 * 64, 24, 6⟩
def LGT_DIV_FRAC (i : Nat) : Fld := ⟨0x40012108 + i % 8 * 64, 0, 8⟩
def LGT_DIV_INT (i : Nat) : Fld := ⟨0x40012108 + i % 8 * 64, 8, 16⟩
def LGT_CMD_RUN (i : Nat) : Fld := ⟨0x4001210c + i % 8 * 64, 0, 1⟩
def LGT_CMD_STOP (i : Nat) : Fld := ⟨0x4001210c + i % 8 * 64, 1, 1⟩
def LGT_CMD_CLRSHIFT (i : Nat) : Fld := ⟨0x4001210c + i % 8 * 64, 2, 1⟩
def LGT_CMD_CLRFIFO (i : Nat) : Fld := ⟨0x4001210c + i % 8 * 64, 3, 1⟩
def LGT_CMD_SETPC (i : Nat) : Fld := ⟨0x4001210c + i % 8 * 64, 4, 1⟩
def LGT_CMD_PC (i : Nat) : Fld := ⟨0x4001210c + i % 8 * 64, 8, 5⟩
def LGT_STAT_STATE (i : Nat) : Fld := ⟨0x40012110 + i % 8 * 64, 0, 2⟩
def LGT_STAT_WHY (i : Nat) : Fld := ⟨0x40012110 + i % 8 * 64, 2, 1⟩
def LGT_STAT_ILL (i : Nat) : Fld := ⟨0x40012110 + i % 8 * 64, 3, 1⟩
def LGT_STAT_PC (i : Nat) : Fld := ⟨0x40012110 + i % 8 * 64, 4, 5⟩
def LGT_STAT_TO (i : Nat) : Fld := ⟨0x40012110 + i % 8 * 64, 9, 1⟩
def LGT_STAT_SC (i : Nat) : Fld := ⟨0x40012110 + i % 8 * 64, 16, 6⟩
def LGT_STAT_RC (i : Nat) : Fld := ⟨0x40012110 + i % 8 * 64, 24, 6⟩
def LGT_FIFO_TXLVL (i : Nat) : Fld := ⟨0x40012114 + i % 8 * 64, 0, 4⟩
def LGT_FIFO_RXLVL (i : Nat) : Fld := ⟨0x40012114 + i % 8 * 64, 4, 4⟩
def LGT_FIFO_TXTH (i : Nat) : Fld := ⟨0x40012114 + i % 8 * 64, 8, 4⟩
def LGT_FIFO_RXTH (i : Nat) : Fld := ⟨0x40012114 + i % 8 * 64, 12, 4⟩
def LGT_FIFO_TXOVF (i : Nat) : Fld := ⟨0x40012114 + i % 8 * 64, 16, 1⟩
def LGT_FIFO_RXUNF (i : Nat) : Fld := ⟨0x40012114 + i % 8 * 64, 17, 1⟩
def LGT_FIFO_IMWR (i : Nat) : Fld := ⟨0x40012114 + i % 8 * 64, 18, 1⟩
def LGT_TXF_DATA (i : Nat) : Fld := ⟨0x40012118 + i % 8 * 64, 0, 32⟩
def LGT_RXF_DATA (i : Nat) : Fld := ⟨0x4001211c + i % 8 * 64, 0, 32⟩
def LGT_SH_SH (i : Nat) : Fld := ⟨0x40012120 + i % 8 * 64, 0, 32⟩
def LGT_LC_LC (i : Nat) : Fld := ⟨0x40012124 + i % 8 * 64, 0, 16⟩
def LGT_LC_TM (i : Nat) : Fld := ⟨0x40012124 + i % 8 * 64, 16, 16⟩
def LGT_MR_MR (i : Nat) : Fld := ⟨0x40012128 + i % 8 * 64, 0, 32⟩
def LGT_THRS_FILLAT (i : Nat) : Fld := ⟨0x4001212c + i % 8 * 64, 0, 6⟩
def LGT_THRS_DRAINAT (i : Nat) : Fld := ⟨0x4001212c + i % 8 * 64, 8, 6⟩
def LGT_THRS_ICNT (i : Nat) : Fld := ⟨0x4001212c + i % 8 * 64, 16, 6⟩
def LGT_IMEM_WORD (i j : Nat) : Fld := ⟨0x40012800 + i % 8 * 128 + j % 32 * 4, 0, 32⟩
def UART_CFG_EN (u : Nat) : Fld := ⟨0x4000c010 + u % 3 * 0x1000, 0, 1⟩
def UART_CFG_DBITS (u : Nat) : Fld := ⟨0x4000c010 + u % 3 * 0x1000, 1, 1⟩
def UART_CFG_PAR (u : Nat) : Fld := ⟨0x4000c010 + u % 3 * 0x1000, 2, 2⟩
def UART_CFG_STOP2 (u : Nat) : Fld := ⟨0x4000c010 + u % 3 * 0x1000, 4, 1⟩
def UART_CFG_SYNC (u : Nat) : Fld := ⟨0x4000c010 + u % 3 * 0x1000, 5, 1⟩
def UART_CFG_CKPOL (u : Nat) : Fld := ⟨0x4000c010 + u % 3 * 0x1000, 6, 1⟩
def UART_CFG_RXDMA (u : Nat) : Fld := ⟨0x4000c010 + u % 3 * 0x1000, 7, 1⟩
def UART_CFG_TXDMA (u : Nat) : Fld := ⟨0x4000c010 + u % 3 * 0x1000, 8, 1⟩
def UART_CFG_RXTH (u : Nat) : Fld := ⟨0x4000c010 + u % 3 * 0x1000, 9, 4⟩
def UART_BAUD_FRAC (u : Nat) : Fld := ⟨0x4000c014 + u % 3 * 0x1000, 0, 4⟩
def UART_BAUD_INT (u : Nat) : Fld := ⟨0x4000c014 + u % 3 * 0x1000, 4, 16⟩
def UART_DATA_BYTE (u : Nat) : Fld := ⟨0x4000c018 + u % 3 * 0x1000, 0, 8⟩
def UART_DATA_PE (u : Nat) : Fld := ⟨0x4000c018 + u % 3 * 0x1000, 8, 1⟩
def UART_DATA_FE (u : Nat) : Fld := ⟨0x4000c018 + u % 3 * 0x1000, 9, 1⟩
def UART_DATA_NOISE (u : Nat) : Fld := ⟨0x4000c018 + u % 3 * 0x1000, 10, 1⟩
def UART_DATA_EMPTY (u : Nat) : Fld := ⟨0x4000c018 + u % 3 * 0x1000, 15, 1⟩
def UART_STAT_RXLVL (u : Nat) : Fld := ⟨0x4000c01c + u % 3 * 0x1000, 0, 5⟩
def UART_STAT_TXLVL (u : Nat) : Fld := ⟨0x4000c01c + u % 3 * 0x1000, 5, 5⟩
def UART_STAT_OVR (u : Nat) : Fld := ⟨0x4000c01c + u % 3 * 0x1000, 10, 1⟩
def UART_STAT_TXOVF (u : Nat) : Fld := ⟨0x4000c01c + u % 3 * 0x1000, 11, 1⟩
def UART_STAT_BRK (u : Nat) : Fld := ⟨0x4000c01c + u % 3 * 0x1000, 12, 1⟩
def UART_STAT_LINE_FAULT (u : Nat) : Fld := ⟨0x4000c01c + u % 3 * 0x1000, 13, 1⟩
def UART_STAT_WAKE_LOST (u : Nat) : Fld := ⟨0x4000c01c + u % 3 * 0x1000, 14, 1⟩
def UART_STAT_LOSTN (u : Nat) : Fld := ⟨0x4000c01c + u % 3 * 0x1000, 16, 8⟩
def UART_TIMING_RXTO (u : Nat) : Fld := ⟨0x4000c020 + u % 3 * 0x1000, 0, 8⟩
def UART_TIMING_STUCK (u : Nat) : Fld := ⟨0x4000c020 + u % 3 * 0x1000, 16, 16⟩
def UART_RXSTS_SEC (u : Nat) : Fld := ⟨0x4000c030 + u % 3 * 0x1000, 0, 32⟩
def UART_RXSTF_FRAC (u : Nat) : Fld := ⟨0x4000c034 + u % 3 * 0x1000, 0, 32⟩
def UART_TXSTS_SEC (u : Nat) : Fld := ⟨0x4000c038 + u % 3 * 0x1000, 0, 32⟩
def UART_TXSTF_FRAC (u : Nat) : Fld := ⟨0x4000c03c + u % 3 * 0x1000, 0, 32⟩
def UART_STCNT_RX (u : Nat) : Fld := ⟨0x4000c040 + u % 3 * 0x1000, 0, 15⟩
def UART_STCNT_RXCOARSE (u : Nat) : Fld := ⟨0x4000c040 + u % 3 * 0x1000, 15, 1⟩
def UART_STCNT_TX (u : Nat) : Fld := ⟨0x4000c040 + u % 3 * 0x1000, 16, 15⟩
def UART_STCNT_TXCOARSE (u : Nat) : Fld := ⟨0x4000c040 + u % 3 * 0x1000, 31, 1⟩
def I2CT_ADDR_A1 : Fld := ⟨0x4000f010, 0, 7⟩
def I2CT_ADDR_A1_EN : Fld := ⟨0x4000f010, 7, 1⟩
def I2CT_ADDR_A2 : Fld := ⟨0x4000f010, 8, 7⟩
def I2CT_ADDR_A2_EN : Fld := ⟨0x4000f010, 15, 1⟩
def I2CT_CFG_SPEED : Fld := ⟨0x4000f014, 0, 2⟩
def I2CT_CFG_STRETCH : Fld := ⟨0x4000f014, 8, 8⟩
def I2CT_DATA_BYTE : Fld := ⟨0x4000f018, 0, 8⟩
def I2CT_DATA_FIRST : Fld := ⟨0x4000f018, 8, 1⟩
def I2CT_DATA_AIDX : Fld := ⟨0x4000f018, 9, 1⟩
def I2CT_DATA_EMPTY : Fld := ⟨0x4000f018, 15, 1⟩
def I2CT_STAT_RXLVL : Fld := ⟨0x4000f01c, 0, 4⟩
def I2CT_STAT_TXLVL : Fld := ⟨0x4000f01c, 4, 4⟩
def I2CT_STAT_BUSY : Fld := ⟨0x4000f01c, 8, 1⟩
def I2CT_STAT_RW : Fld := ⟨0x4000f01c, 9, 1⟩
def I2CT_STAT_TMO : Fld := ⟨0x4000f01c, 10, 1⟩
def SPI_CFG_EN (k : Nat) : Fld := ⟨0x40010010 + k % 2 * 0x1000, 0, 1⟩
def SPI_CFG_HOST (k : Nat) : Fld := ⟨0x40010010 + k % 2 * 0x1000, 1, 1⟩
def SPI_CFG_MODE (k : Nat) : Fld := ⟨0x40010010 + k % 2 * 0x1000, 2, 2⟩
def SPI_CFG_LSBF (k : Nat) : Fld := ⟨0x40010010 + k % 2 * 0x1000, 4, 1⟩
def SPI_CFG_SIZE (k : Nat) : Fld := ⟨0x40010010 + k % 2 * 0x1000, 5, 2⟩
def SPI_CFG_DIV (k : Nat) : Fld := ⟨0x40010010 + k % 2 * 0x1000, 8, 8⟩
def SPI_CTRL_COUNT (k : Nat) : Fld := ⟨0x40010014 + k % 2 * 0x1000, 0, 16⟩
def SPI_CTRL_START (k : Nat) : Fld := ⟨0x40010014 + k % 2 * 0x1000, 16, 1⟩
def SPI_CTRL_ABORT (k : Nat) : Fld := ⟨0x40010014 + k % 2 * 0x1000, 17, 1⟩
def SPI_DATA_FRAME (k : Nat) : Fld := ⟨0x40010018 + k % 2 * 0x1000, 0, 32⟩
def SPI_STAT_RXLVL (k : Nat) : Fld := ⟨0x4001001c + k % 2 * 0x1000, 0, 4⟩
def SPI_STAT_TXLVL (k : Nat) : Fld := ⟨0x4001001c + k % 2 * 0x1000, 4, 4⟩
def SPI_STAT_BUSY (k : Nat) : Fld := ⟨0x4001001c + k % 2 * 0x1000, 8, 1⟩
def SPI_STAT_UDR (k : Nat) : Fld := ⟨0x4001001c + k % 2 * 0x1000, 9, 1⟩
def SPI_STAT_OVR (k : Nat) : Fld := ⟨0x4001001c + k % 2 * 0x1000, 10, 1⟩
def SPI_STAT_CSABORT (k : Nat) : Fld := ⟨0x4001001c + k % 2 * 0x1000, 11, 1⟩
def DMA_SRC_ADDR (i : Nat) : Fld := ⟨0x40017100 + i % 8 * 32, 0, 32⟩
def DMA_DST_ADDR (i : Nat) : Fld := ⟨0x40017104 + i % 8 * 32, 0, 32⟩
def DMA_CNT_CNT (i : Nat) : Fld := ⟨0x40017108 + i % 8 * 32, 0, 16⟩
def DMA_CFG_SIZE (i : Nat) : Fld := ⟨0x4001710c + i % 8 * 32, 0, 2⟩
def DMA_CFG_SINC (i : Nat) : Fld := ⟨0x4001710c + i % 8 * 32, 2, 1⟩
def DMA_CFG_DINC (i : Nat) : Fld := ⟨0x4001710c + i % 8 * 32, 3, 1⟩
def DMA_CFG_REQ (i : Nat) : Fld := ⟨0x4001710c + i % 8 * 32, 4, 4⟩
def DMA_CFG_RING (i : Nat) : Fld := ⟨0x4001710c + i % 8 * 32, 8, 1⟩
def DMA_CFG_EN (i : Nat) : Fld := ⟨0x4001710c + i % 8 * 32, 9, 1⟩
def DMA_CFG_START (i : Nat) : Fld := ⟨0x4001710c + i % 8 * 32, 10, 1⟩
def DMA_STAT_UE (i : Nat) : Fld := ⟨0x40017110 + i % 8 * 32, 0, 1⟩
def DMA_STAT_BUSERR (i : Nat) : Fld := ⟨0x40017110 + i % 8 * 32, 1, 1⟩
def DMA_STAT_FLUSHED (i : Nat) : Fld := ⟨0x40017110 + i % 8 * 32, 2, 1⟩
def DMA_STAT_LEFT (i : Nat) : Fld := ⟨0x40017110 + i % 8 * 32, 16, 16⟩
def ADC_CFG_MODE : Fld := ⟨0x40013010, 0, 2⟩
def ADC_CFG_ALIGN : Fld := ⟨0x40013010, 2, 1⟩
def ADC_CFG_PACK : Fld := ⟨0x40013010, 3, 1⟩
def ADC_CFG_SIMUL : Fld := ⟨0x40013010, 4, 1⟩
def ADC_CFG_LEN : Fld := ⟨0x40013010, 8, 5⟩
def ADC_CFG_COUNT : Fld := ⟨0x40013010, 16, 16⟩
def ADC_CTRL_START : Fld := ⟨0x40013014, 0, 1⟩
def ADC_CTRL_STOP : Fld := ⟨0x40013014, 1, 1⟩
def ADC_CTRL_FLUSH : Fld := ⟨0x40013014, 2, 1⟩
def ADC_STAT_BUSY : Fld := ⟨0x40013018, 0, 1⟩
def ADC_STAT_READY : Fld := ⟨0x40013018, 1, 1⟩
def ADC_STAT_CAL_OK : Fld := ⟨0x40013018, 2, 1⟩
def ADC_STAT_OVR : Fld := ⟨0x40013018, 3, 1⟩
def ADC_STAT_WIN : Fld := ⟨0x40013018, 4, 1⟩
def ADC_STAT_CFGERR : Fld := ⟨0x40013018, 5, 1⟩
def ADC_STAT_UNF : Fld := ⟨0x40013018, 6, 1⟩
def ADC_STAT_LVL : Fld := ⟨0x40013018, 8, 5⟩
def ADC_REF_EN : Fld := ⟨0x4001301c, 0, 1⟩
def ADC_REF_SEL : Fld := ⟨0x4001301c, 1, 1⟩
def ADC_FIFO_WORD : Fld := ⟨0x40013020, 0, 32⟩
def ADC_FIFOTH_TH : Fld := ⟨0x40013024, 0, 5⟩
def ADC_WIN_LO : Fld := ⟨0x40013028, 0, 16⟩
def ADC_WIN_HI : Fld := ⟨0x40013028, 16, 16⟩
def ADC_WINCFG_EN : Fld := ⟨0x4001302c, 0, 1⟩
def ADC_WINCFG_INSIDE : Fld := ⟨0x4001302c, 1, 1⟩
def ADC_TCAL_TCAL : Fld := ⟨0x40013030, 0, 14⟩
def ADC_CORR_EN : Fld := ⟨0x40013034, 0, 1⟩
def ADC_CORR_FREEZE : Fld := ⟨0x40013034, 1, 1⟩
def ADC_ECON_SAMPLE : Fld := ⟨0x40013038, 0, 6⟩
def ADC_SEQ_CH (i : Nat) : Fld := ⟨0x40013040 + i % 16 * 4, 0, 5⟩
def ADC_COEF_OFS (i : Nat) : Fld := ⟨0x40013080 + i % 4 * 4, 0, 16⟩
def ADC_COEF_GAIN (i : Nat) : Fld := ⟨0x40013080 + i % 4 * 4, 16, 8⟩
def ADC_COEF_SKEW (i : Nat) : Fld := ⟨0x40013080 + i % 4 * 4, 24, 8⟩
def TOUCH_CFG_MODE : Fld := ⟨0x40014010, 0, 2⟩
def TOUCH_CFG_PROXEN : Fld := ⟨0x40014010, 2, 1⟩
def TOUCH_CFG_SYNC : Fld := ⟨0x40014010, 4, 2⟩
def TOUCH_CFG_DQIPOL : Fld := ⟨0x40014010, 6, 1⟩
def TOUCH_CFG_PERIOD : Fld := ⟨0x40014010, 8, 8⟩
def TOUCH_CFG_PULSES : Fld := ⟨0x40014010, 16, 8⟩
def TOUCH_CTRL_START : Fld := ⟨0x40014014, 0, 1⟩
def TOUCH_CTRL_TEST : Fld := ⟨0x40014014, 1, 1⟩
def TOUCH_CTRL_REBASE : Fld := ⟨0x40014014, 2, 1⟩
def TOUCH_CTRL_SAVEREF : Fld := ⟨0x40014014, 3, 1⟩
def TOUCH_STAT_BUSY : Fld := ⟨0x40014018, 0, 1⟩
def TOUCH_STAT_TESTING : Fld := ⟨0x40014018, 1, 1⟩
def TOUCH_STAT_LATE : Fld := ⟨0x40014018, 2, 1⟩
def TOUCH_STAT_NOREF : Fld := ⟨0x40014018, 3, 1⟩
def TOUCH_STAT_REFERR : Fld := ⟨0x40014018, 4, 1⟩
def TOUCH_STAT_DISCARD : Fld := ⟨0x40014018, 8, 8⟩
def TOUCH_THR_THR : Fld := ⟨0x4001401c, 0, 16⟩
def TOUCH_THR_HYST : Fld := ⟨0x4001401c, 16, 16⟩
def TOUCH_BL_BLRATE : Fld := ⟨0x40014020, 0, 8⟩
def TOUCH_BL_ONDEB : Fld := ⟨0x40014020, 8, 4⟩
def TOUCH_BL_NEGTH : Fld := ⟨0x40014020, 16, 16⟩
def TOUCH_ONTIME_S : Fld := ⟨0x40014024, 0, 9⟩
def TOUCH_DQI_TO : Fld := ⟨0x40014028, 0, 8⟩
def TOUCH_DQI_DQIWIN : Fld := ⟨0x40014028, 16, 16⟩
def TOUCH_PROX_RATE : Fld := ⟨0x40014030, 0, 2⟩
def TOUCH_PROX_DET : Fld := ⟨0x40014030, 2, 1⟩
def TOUCH_PROX_THR : Fld := ⟨0x40014030, 16, 16⟩
def TOUCH_PROXRAW_RAW : Fld := ⟨0x40014034, 0, 16⟩
def TOUCH_PROXRAW_BASE : Fld := ⟨0x40014034, 16, 16⟩
def TOUCH_TEST_XTH : Fld := ⟨0x40014038, 0, 8⟩
def TOUCH_OPEN_MASK : Fld := ⟨0x40014040, 0, 32⟩
def TOUCH_SHORT_MASK : Fld := ⟨0x40014044, 0, 32⟩
def TOUCH_GRP_L_KEYS (i : Nat) : Fld := ⟨0x40014050 + i % 8 * 8, 0, 32⟩
def TOUCH_GRP_H_KEYS (i : Nat) : Fld := ⟨0x40014054 + i % 8 * 8, 0, 32⟩
def TOUCH_ELEC_PIN (i : Nat) : Fld := ⟨0x40014080 + i % 32 * 4, 0, 6⟩
def TOUCH_ELEC_EN (i : Nat) : Fld := ⟨0x40014080 + i % 32 * 4, 7, 1⟩
def TOUCH_KEY_ON (i : Nat) : Fld := ⟨0x40014100 + i % 6 * 4, 0, 32⟩
def TOUCH_RAW_RAW (i : Nat) : Fld := ⟨0x40014400 + i % 192 * 4, 0, 16⟩
def TOUCH_RAW_BASE (i : Nat) : Fld := ⟨0x40014400 + i % 192 * 4, 16, 16⟩
def TOUCH_KST_STATE (i : Nat) : Fld := ⟨0x40014800 + i % 192 * 4, 0, 2⟩
def TOUCH_KST_START (i : Nat) : Fld := ⟨0x40014800 + i % 192 * 4, 2, 1⟩
def TOUCH_KST_DELTA (i : Nat) : Fld := ⟨0x40014800 + i % 192 * 4, 16, 16⟩
def CRYPTO_SFCFG_AUTO : Fld := ⟨0x40015010, 0, 1⟩
def CRYPTO_SFCFG_EN : Fld := ⟨0x40015010, 1, 1⟩
def CRYPTO_SFCFG_KEEP : Fld := ⟨0x40015010, 2, 1⟩
def CRYPTO_SFCFG_SIZE : Fld := ⟨0x40015010, 4, 4⟩
def CRYPTO_SFCFG_DIV : Fld := ⟨0x40015010, 8, 8⟩
def CRYPTO_SFBASE_ADDR : Fld := ⟨0x40015014, 8, 24⟩
def CRYPTO_SFHEAD_IDX : Fld := ⟨0x40015018, 0, 8⟩
def CRYPTO_SFTAIL_IDX : Fld := ⟨0x4001501c, 0, 8⟩
def CRYPTO_SFSTAT_DROPPED : Fld := ⟨0x40015020, 0, 16⟩
def CRYPTO_SFSTAT_LAST : Fld := ⟨0x40015020, 16, 16⟩
def CRYPTO_SSEQ_NEXT : Fld := ⟨0x40015024, 0, 32⟩
def CRYPTO_BOOTN_BOOTN : Fld := ⟨0x40015028, 0, 32⟩
def CRYPTO_DEVID0_LO : Fld := ⟨0x40015030, 0, 32⟩
def CRYPTO_DEVID1_HI : Fld := ⟨0x40015034, 0, 32⟩
def CRYPTO_KEY_READY : Fld := ⟨0x40015038, 0, 1⟩
def CRYPTO_KEY_BUSY : Fld := ⟨0x40015038, 1, 1⟩
def CRYPTO_KEY_QLVL : Fld := ⟨0x40015038, 2, 3⟩
def CRYPTO_KEY_TAMPER : Fld := ⟨0x40015038, 16, 16⟩
def CRYPTO_PUB_BYTES (i : Nat) : Fld := ⟨0x40015040 + i % 15 * 4, 0, 32⟩
def GPIO_OUT0_OUT : Fld := ⟨0x40016010, 0, 32⟩
def GPIO_OUT1_OUT : Fld := ⟨0x40016014, 0, 16⟩
def GPIO_OE0_OE : Fld := ⟨0x40016018, 0, 32⟩
def GPIO_OE1_OE : Fld := ⟨0x4001601c, 0, 16⟩
def GPIO_IN0_IN : Fld := ⟨0x40016020, 0, 32⟩
def GPIO_IN1_IN : Fld := ⟨0x40016024, 0, 16⟩
def GPIO_OUTSET0_SET : Fld := ⟨0x40016028, 0, 32⟩
def GPIO_OUTSET1_SET : Fld := ⟨0x4001602c, 0, 16⟩
def GPIO_OUTCLR0_CLR : Fld := ⟨0x40016030, 0, 32⟩
def GPIO_OUTCLR1_CLR : Fld := ⟨0x40016034, 0, 16⟩
def GPIO_WAKESTAT0_WAKE : Fld := ⟨0x40016038, 0, 32⟩
def GPIO_WAKESTAT1_WAKE : Fld := ⟨0x4001603c, 0, 16⟩
def GPIO_PIN_FUNC (i : Nat) : Fld := ⟨0x40016100 + i % 48 * 4, 0, 3⟩
def GPIO_PIN_IEN (i : Nat) : Fld := ⟨0x40016100 + i % 48 * 4, 3, 1⟩
def GPIO_PIN_ENG (i : Nat) : Fld := ⟨0x40016100 + i % 48 * 4, 4, 3⟩
def GPIO_PIN_PULL (i : Nat) : Fld := ⟨0x40016100 + i % 48 * 4, 8, 2⟩
def GPIO_PIN_DRV (i : Nat) : Fld := ⟨0x40016100 + i % 48 * 4, 10, 1⟩
def GPIO_PIN_OD (i : Nat) : Fld := ⟨0x40016100 + i % 48 * 4, 11, 1⟩
def GPIO_PIN_WAKE (i : Nat) : Fld := ⟨0x40016100 + i % 48 * 4, 12, 2⟩
def GPIO_ECH_PIN (i : Nat) : Fld := ⟨0x40016200 + i % 16 * 4, 0, 6⟩
def GPIO_ECH_EDGE (i : Nat) : Fld := ⟨0x40016200 + i % 16 * 4, 8, 2⟩
def GPIO_OCH_PIN (i : Nat) : Fld := ⟨0x40016240 + i % 16 * 4, 0, 6⟩
def GPIO_OCH_ACT (i : Nat) : Fld := ⟨0x40016240 + i % 16 * 4, 8, 2⟩

end Sys2Proof.Machine.F
end

