-- ==== Sys2Proof/Machine/RegMap.lean ====
section
/-! DEFINITION. The register map: the fields of every register of the spec's register tables, block by block, with
their bits, access code, level, reset value and accepted values (R5 to R8, R33, R43), and a name for each field. -/

namespace Sys2Proof.Machine

/-- Registers of the SYSCTL block (R34, R40, R402, R404). -/
def regsSysctl : List RegSpec :=
  [
   -- SYSCTL_OWN: BLOCK, OWNER
   ⟨0x020, [],
    [⟨0, 10, .wo, .basic, (.val 0), .any⟩,
     ⟨16, 1, .wo, .basic, (.val 0), .any⟩]⟩,
   -- SYSCTL_OWN_STAT: BLOCK, RESULT
   ⟨0x024, [],
    [⟨0, 10, .ro, .basic, (.val 0), .any⟩,
     ⟨16, 2, .ro, .basic, (.val 0), .any⟩]⟩,
   -- SYSCTL_LEDGER_SUM: SUM
   ⟨0x030, [],
    [⟨0, 16, .ro, .basic, (.val 0), .any⟩]⟩,
   -- SYSCTL_LEDGER_LIMIT: LIMIT
   ⟨0x034, [],
    [⟨0, 16, .ro, .basic, (.val 0x1f40), .any⟩]⟩,
   -- SYSCTL_RCAUSE: LAST, STATE, SEEN
   ⟨0x040, [],
    [⟨0, 4, .ro, .basic, (.val 0), .any⟩,
     ⟨4, 2, .ro, .basic, (.val 0), .any⟩,
     ⟨16, 10, .rc, .basic, (.val 1), .any⟩]⟩,
   -- SYSCTL_SWRST: APP, ALL
   ⟨0x044, [],
    [⟨0, 1, .w1s, .basic, (.val 0), .any⟩,
     ⟨1, 1, .w1s, .basic, (.val 0), .any⟩]⟩,
   -- SYSCTL_WDTA: TIMEOUT, EN, SERVE
   ⟨0x048, [],
    [⟨0, 16, .rw, .basic, (.val 0x3e8), (.range 1 0xFFFFFFFF)⟩,
     ⟨16, 1, .w1s, .basic, (.val 0), .any⟩,
     ⟨24, 8, .wo, .basic, (.val 0), .any⟩]⟩]

/-- Registers of the PWR block (R359). -/
def regsPwr0 : List RegSpec :=
  [
   -- PWR_POINT: POINT, ACT, PEND, VSET
   ⟨0x010, [],
    [⟨0, 2, .rw, .basic, (.val 1), (.range 0 2)⟩,
     ⟨2, 2, .ro, .basic, (.val 1), .any⟩,
     ⟨4, 1, .ro, .basic, (.val 0), .any⟩,
     ⟨8, 8, .rw, .expert, (.val 20), (.range 0 90)⟩]⟩,
   -- PWR_PATH: POLICY, ACT, VBAT_OK, STORE_OK
   ⟨0x014, [],
    [⟨0, 1, .rw, .basic, (.val 0), .any⟩,
     ⟨1, 2, .ro, .basic, (.val 1), .any⟩,
     ⟨3, 1, .ro, .basic, (.val 1), .any⟩,
     ⟨4, 1, .ro, .basic, (.val 0), .any⟩]⟩,
   -- PWR_REG: MODE, ACT, SLP_LDO
   ⟨0x018, [],
    [⟨0, 1, .rw, .basic, (.val 0), .any⟩,
     ⟨1, 1, .ro, .basic, (.val 0), .any⟩,
     ⟨2, 1, .ro, .basic, (.val 0), .any⟩]⟩,
   -- PWR_STAT: HOLD_OK, ARMED, IO1_OK, IO2_OK, CBOR_CNT
   ⟨0x01C, [],
    [⟨0, 1, .ro, .basic, (.val 0), .any⟩,
     ⟨1, 1, .ro, .basic, (.val 0), .any⟩,
     ⟨2, 1, .ro, .basic, (.val 1), .any⟩,
     ⟨3, 1, .ro, .basic, (.val 1), .any⟩,
     ⟨8, 8, .rc, .basic, (.val 0), .any⟩]⟩,
   -- PWR_DOMF: FORCE
   ⟨0x020, [],
    [⟨0, 14, .rw, .expert, (.val 0), .any⟩]⟩,
   -- PWR_DOMS: PG
   ⟨0x024, [],
    [⟨0, 14, .ro, .basic, (.val 0x3113), .any⟩]⟩,
   -- PWR_BIAS: BIAS
   ⟨0x028, [],
    [⟨0, 28, .rw, .expert, (.val 0), .any⟩]⟩,
   -- PWR_SLEEP: DEPTH, MAXD, LINGER
   ⟨0x030, [],
    [⟨0, 2, .rw, .basic, (.val 1), .any⟩,
     ⟨2, 2, .ro, .basic, (.val 3), .any⟩,
     ⟨8, 8, .rw, .expert, (.val 20), .any⟩]⟩,
   -- PWR_RETAIN: BANKS, ITCM, DTCM
   ⟨0x034, [],
    [⟨0, 24, .rw, .basic, (.val 0), .any⟩,
     ⟨24, 1, .rw, .basic, (.val 1), .any⟩,
     ⟨25, 1, .rw, .basic, (.val 1), .any⟩]⟩,
   -- PWR_WAKEEN: EN, FIXED
   ⟨0x038, [],
    [⟨0, 10, .rw, .basic, (.val 0x3ff), .any⟩,
     ⟨10, 4, .ro, .basic, (.val 15), .any⟩]⟩]

/-- Registers of the PWR block (R359). -/
def regsPwr1 : List RegSpec :=
  [
   -- PWR_WAKE_SRC: SRC, FROM, IDX, MASK
   ⟨0x040, [],
    [⟨0, 4, .ro, .basic, (.val 15), .any⟩,
     ⟨4, 3, .ro, .basic, (.val 0), .any⟩,
     ⟨8, 3, .ro, .basic, (.val 0), .any⟩,
     ⟨16, 14, .ro, .basic, (.val 0), .any⟩]⟩,
   -- PWR_WAKE_SEC: SEC
   ⟨0x044, [],
    [⟨0, 32, .ro, .basic, (.val 0), .any⟩]⟩,
   -- PWR_WAKE_FRAC: FRAC
   ⟨0x048, [],
    [⟨0, 32, .ro, .basic, (.val 0), .any⟩]⟩,
   -- PWR_WBOOT: VECTOR
   ⟨0x04C, [],
    [⟨2, 30, .rw, .basic, (.val 0x2000000), .any⟩]⟩,
   -- PWR_BOR: GRACE, SAVE_EN
   ⟨0x050, [],
    [⟨0, 8, .rw, .basic, (.val 50), (.range 0 200)⟩,
     ⟨8, 1, .rw, .expert, (.val 1), .any⟩]⟩]

@[inherit_doc regsPwr0]
def regsPwr : List RegSpec :=
  regsPwr0 ++ regsPwr1

/-- Registers of the CLK block (R400). -/
def regsClk : List RegSpec :=
  [
   -- CLK_CFG: XG_TYPE, XL_EXT, FLL_EN, PLL_REF, RETRY
   ⟨0x010, [],
    [⟨0, 1, .rw, .basic, (.val 0), .any⟩,
     ⟨1, 1, .rw, .basic, (.val 0), .any⟩,
     ⟨2, 1, .rw, .expert, (.val 1), .any⟩,
     ⟨3, 1, .rw, .expert, (.val 0), .any⟩,
     ⟨4, 1, .w1s, .expert, (.val 0), .any⟩]⟩,
   -- CLK_STAT: HFO, LFO, XTALL, XTALG, SYSPLL, RFSYN, FLL_LOCK, REF_ACT
   ⟨0x014, [],
    [⟨0, 2, .ro, .basic, (.val 2), .any⟩,
     ⟨2, 2, .ro, .basic, (.val 2), .any⟩,
     ⟨4, 2, .ro, .basic, (.val 1), .any⟩,
     ⟨6, 2, .ro, .basic, (.val 0), .any⟩,
     ⟨8, 2, .ro, .basic, (.val 2), .any⟩,
     ⟨10, 2, .ro, .basic, (.val 0), .any⟩,
     ⟨12, 1, .ro, .basic, (.val 0), .any⟩,
     ⟨13, 1, .ro, .basic, (.val 1), .any⟩]⟩,
   -- CLK_MON: WINDOW, TOL, EN, DEV
   ⟨0x020, [(3, 4)],
    [⟨0, 16, .rw, .expert, (.seq [0x1900, 32, 32]), (.range 1 0xFFFFFFFF)⟩,
     ⟨16, 8, .rw, .expert, (.seq [30, 60, 50]), (.range 1 0xFFFFFFFF)⟩,
     ⟨24, 1, .rw, .expert, (.val 1), .any⟩,
     ⟨25, 1, .ro, .basic, (.val 0), .any⟩]⟩,
   -- CLK_MONCNT: COUNT
   ⟨0x030, [(3, 4)],
    [⟨0, 24, .ro, .expert, (.val 0), .any⟩]⟩,
   -- CLK_HFO: TRIM, FTRIM
   ⟨0x040, [],
    [⟨0, 10, .rw, .expert, (.val 0x200), .any⟩,
     ⟨16, 10, .ro, .expert, (.val 0x200), .any⟩]⟩,
   -- CLK_FAILREC: SRC, KIND, NFAIL
   ⟨0x044, [],
    [⟨0, 3, .ro, .basic, (.val 0), .any⟩,
     ⟨3, 1, .ro, .basic, (.val 0), .any⟩,
     ⟨16, 16, .rc, .basic, (.val 0), .any⟩]⟩,
   -- CLK_ISL: SEL, ACT, PEND, RUN_EN, SLP_EN, DSLP_EN, RUNNING, FAILOVER
   ⟨0x100, [(16, 4)],
    [⟨0, 3, .rw, .expert, (.seq [4, 4, 4, 7, 7, 4, 0, 0, 0, 4, 0, 5, 6, 1, 1, 2]), .any⟩,
     ⟨4, 3, .ro, .basic, (.seq [4, 4, 4, 7, 7, 4, 0, 0, 0, 4, 0, 5, 6, 1, 1, 1]), .any⟩,
     ⟨7, 1, .ro, .basic, (.val 0), .any⟩,
     ⟨8, 1, .rw, .expert, (.val 0), .any⟩,
     ⟨9, 1, .rw, .expert, (.seq [0, 0, 0, 0, 0, 0, 0, 0, 0, 0, 0, 0, 0, 1, 1, 1]), .any⟩,
     ⟨10, 1, .rw, .expert, (.seq [0, 0, 0, 0, 0, 0, 0, 0, 0, 0, 0, 0, 0, 1, 1, 1]), .any⟩,
     ⟨11, 1, .ro, .basic, (.seq [1, 1, 1, 0, 0, 1, 1, 1, 1, 1, 1, 1, 1, 1, 1, 1]), .any⟩,
     ⟨12, 1, .ro, .basic, (.val 0), .any⟩]⟩]

/-- Registers of the HARV block (R380). -/
def regsHarv0 : List RegSpec :=
  [
   -- HARV_MPPT: MODE, KIND, FRAC, FIXV, PERIOD
   ⟨0x010, [],
    [⟨0, 1, .rw, .basic, (.val 0), .any⟩,
     ⟨1, 1, .rw, .basic, (.val 0), .any⟩,
     ⟨2, 7, .rw, .basic, (.val 50), (.range 10 90)⟩,
     ⟨16, 9, .rw, .basic, (.val 40), (.range 4 360)⟩,
     ⟨25, 7, .rw, .expert, (.val 16), (.range 1 0xFFFFFFFF)⟩]⟩,
   -- HARV_PROT: OVP, CHG_EN, CLR
   ⟨0x014, [],
    [⟨0, 1, .rw, .basic, (.val 0), .any⟩,
     ⟨1, 1, .rw, .expert, (.val 1), .any⟩,
     ⟨2, 1, .w1s, .basic, (.val 0), .any⟩]⟩,
   -- HARV_XMIT: LEVEL
   ⟨0x018, [],
    [⟨0, 7, .rw, .basic, (.val 45), (.range 0 70)⟩]⟩,
   -- HARV_STAT: VST, BAND, CONN, CHG, OVPT, TBLK, UVP, OCP, LATCH, COLD
   ⟨0x01C, [],
    [⟨0, 10, .ro, .basic, (.val 0), .any⟩,
     ⟨10, 3, .ro, .basic, (.val 0), .any⟩,
     ⟨13, 1, .ro, .basic, (.val 0), .any⟩,
     ⟨14, 1, .ro, .basic, (.val 0), .any⟩,
     ⟨15, 1, .ro, .basic, (.val 0), .any⟩,
     ⟨16, 1, .ro, .basic, (.val 0), .any⟩,
     ⟨17, 1, .w1c, .basic, (.val 0), .any⟩,
     ⟨18, 1, .w1c, .basic, (.val 0), .any⟩,
     ⟨19, 1, .ro, .basic, (.val 0), .any⟩,
     ⟨20, 1, .w1c, .basic, (.val 0), .any⟩]⟩,
   -- HARV_IN: PIN, VOC
   ⟨0x020, [],
    [⟨0, 16, .ro, .basic, (.val 0), .any⟩,
     ⟨16, 16, .ro, .basic, (.val 0), .any⟩]⟩,
   -- HARV_CELL: K
   ⟨0x024, [],
    [⟨0, 16, .rw, .basic, (.val 250), (.range 1 0xFFFFFFFF)⟩]⟩,
   -- HARV_EST: E
   ⟨0x028, [],
    [⟨0, 24, .ro, .basic, (.val 0), .any⟩]⟩,
   -- HARV_WAKE: EN
   ⟨0x02C, [],
    [⟨0, 3, .rw, .basic, (.val 0), .any⟩]⟩,
   -- HARV_PCFG: EN, SRC, MAXT
   ⟨0x030, [],
    [⟨0, 1, .rw, .basic, (.val 1), .any⟩,
     ⟨1, 1, .rw, .basic, (.val 0), .any⟩,
     ⟨8, 8, .rw, .basic, (.val 200), (.range 1 0xFFFFFFFF)⟩]⟩,
   -- HARV_PSTAT: CLS, REQ, GNT, WAIT, NEVER, CUT
   ⟨0x034, [],
    [⟨0, 3, .ro, .basic, (.val 0), .any⟩,
     ⟨3, 1, .ro, .basic, (.val 0), .any⟩,
     ⟨4, 1, .ro, .basic, (.val 0), .any⟩,
     ⟨5, 1, .ro, .basic, (.val 0), .any⟩,
     ⟨6, 1, .ro, .basic, (.val 0), .any⟩,
     ⟨7, 1, .ro, .basic, (.val 0), .any⟩]⟩]

/-- Registers of the HARV block (R380). -/
def regsHarv1 : List RegSpec :=
  [
   -- HARV_PCNT: DENIED, CUTS, BADREQ
   ⟨0x038, [],
    [⟨0, 10, .rc, .basic, (.val 0), .any⟩,
     ⟨10, 10, .rc, .basic, (.val 0), .any⟩,
     ⟨20, 10, .rc, .basic, (.val 0), .any⟩]⟩,
   -- HARV_CLS: E
   ⟨0x040, [(8, 4)],
    [⟨0, 16, .rw, .basic, (.seq [10, 20, 50, 100, 200, 0x1f4, 0x3e8, 0x7d0]), (.range 1 0xFFFFFFFF)⟩]⟩]

@[inherit_doc regsHarv0]
def regsHarv : List RegSpec :=
  regsHarv0 ++ regsHarv1

/-- Registers of the MAN block (R532). -/
def regsMan0 : List RegSpec :=
  [
   -- MAN_CFG: EN, SIZE
   ⟨0x010, [],
    [⟨0, 1, .rw, .basic, (.val 0), .any⟩,
     ⟨4, 4, .rw, .basic, (.val 6), (.range 4 12)⟩]⟩,
   -- MAN_BASE: ADDR
   ⟨0x014, [],
    [⟨4, 28, .rw, .basic, (.val 0), .any⟩]⟩,
   -- MAN_MOD: COUNT, TIME, FROM
   ⟨0x018, [],
    [⟨0, 5, .rw, .expert, (.val 1), (.range 1 0xFFFFFFFF)⟩,
     ⟨16, 10, .rw, .expert, (.val 0), .any⟩,
     ⟨28, 2, .rw, .expert, (.val 1), (.range 1 0xFFFFFFFF)⟩]⟩,
   -- MAN_POP0: WORD
   ⟨0x020, [],
    [⟨0, 32, .rs, .basic, (.val 0xffffffff), .any⟩]⟩,
   -- MAN_POP: WORD
   ⟨0x024, [(3, 4)],
    [⟨0, 32, .ro, .basic, (.val 0), .any⟩]⟩,
   -- MAN_STAT: HELD, RSV, MNE
   ⟨0x030, [],
    [⟨0, 13, .ro, .basic, (.val 0), .any⟩,
     ⟨16, 4, .ro, .basic, (.val 0), .any⟩,
     ⟨20, 1, .ro, .basic, (.val 0), .any⟩]⟩,
   -- MAN_LOST: LOST13, LOST0
   ⟨0x034, [],
    [⟨0, 16, .rc, .basic, (.val 0), .any⟩,
     ⟨16, 8, .rc, .basic, (.val 0), .any⟩]⟩,
   -- MAN_SEQ: NEXT
   ⟨0x038, [],
    [⟨0, 16, .ro, .basic, (.val 0), .any⟩]⟩,
   -- MAN_RAISE: SRC, VALUE
   ⟨0x03C, [],
    [⟨0, 8, .wo, .basic, (.val 0), .any⟩,
     ⟨8, 24, .wo, .basic, (.val 0), .any⟩]⟩,
   -- MAN_ALIASCNT: COUNT
   ⟨0x040, [],
    [⟨0, 16, .rc, .basic, (.val 0), .any⟩]⟩]

/-- Registers of the MAN block (R532). -/
def regsMan1 : List RegSpec :=
  [
   -- MAN_MASK: MASK
   ⟨0x100, [(6, 4)],
    [⟨0, 32, .rw, .basic, (.seq [0xfffcfffe, 0xffffffff, 0xffffffff, 0xffffffff, 0xffffffff, 0xfffffffe]), .any⟩]⟩,
   -- MAN_PEND: PEND
   ⟨0x120, [(6, 4)],
    [⟨0, 32, .rw, .basic, (.val 0), .any⟩]⟩,
   -- MAN_MASKSET: SET
   ⟨0x140, [(6, 4)],
    [⟨0, 32, .w1s, .basic, (.val 0), .any⟩]⟩,
   -- MAN_MASKCLR: CLR
   ⟨0x160, [(6, 4)],
    [⟨0, 32, .w1c, .basic, (.val 0), .any⟩]⟩,
   -- MAN_PENDSET: SET
   ⟨0x180, [(6, 4)],
    [⟨0, 32, .w1s, .basic, (.val 0), .any⟩]⟩,
   -- MAN_PENDCLR: CLR
   ⟨0x1A0, [(6, 4)],
    [⟨0, 32, .w1c, .basic, (.val 0), .any⟩]⟩,
   -- MAN_CLASS: CLASS
   ⟨0x200, [(12, 4)],
    [⟨0, 32, .rw, .expert, (.seq [0xf57f8, 0x9bd5a0, 0xd5ea7aba, 0xeb7f, 0xffbda5e6, 0xedabb6ae, 0xeaaeb6a, 0xffffaaaa, 0xffaf6a, 0xffffab67, 0xbf6d6fec, 0xaaaaaaaa]), .any⟩]⟩]

@[inherit_doc regsMan0]
def regsMan : List RegSpec :=
  regsMan0 ++ regsMan1

/-- Registers of the EVR block (R533). -/
def regsEvr0 : List RegSpec :=
  [
   -- EVR_SWTRIG: TRIG
   ⟨0x010, [],
    [⟨0, 4, .w1s, .basic, (.val 0), .any⟩]⟩,
   -- EVR_OVR: OVR
   ⟨0x014, [],
    [⟨0, 32, .w1c, .basic, (.val 0), .any⟩]⟩,
   -- EVR_OVRH: OVR
   ⟨0x018, [],
    [⟨0, 16, .w1c, .basic, (.val 0), .any⟩]⟩,
   -- EVR_WFLAG: FLAG
   ⟨0x020, [],
    [⟨0, 32, .w1c, .basic, (.val 0), .any⟩]⟩,
   -- EVR_WMAN: MAN
   ⟨0x024, [],
    [⟨0, 32, .rw, .basic, (.val 0), .any⟩]⟩,
   -- EVR_TICK: SHIFT, EN
   ⟨0x028, [],
    [⟨0, 5, .rw, .basic, (.val 15), (.range 5 20)⟩,
     ⟨8, 1, .rw, .basic, (.val 0), .any⟩]⟩,
   -- EVR_WATCH: SEL, EN
   ⟨0x040, [(32, 4)],
    [⟨0, 6, .rw, .basic, (.val 0), .any⟩,
     ⟨8, 1, .rw, .basic, (.val 0), .any⟩]⟩,
   -- EVR_CNT: COUNT
   ⟨0x0C0, [(4, 4)],
    [⟨0, 16, .rc, .basic, (.val 0), .any⟩]⟩,
   -- EVR_CAPSTAT: FULL
   ⟨0x0D0, [],
    [⟨0, 4, .ro, .basic, (.val 0), .any⟩]⟩,
   -- EVR_CAPS: SEC
   ⟨0x0E0, [(4, 8)],
    [⟨0, 32, .ro, .basic, (.val 0), .any⟩]⟩]

/-- Registers of the EVR block (R533). -/
def regsEvr1 : List RegSpec :=
  [
   -- EVR_CAPF: FRAC
   ⟨0x0E4, [(4, 8)],
    [⟨0, 32, .ro, .basic, (.val 0), .any⟩]⟩,
   -- EVR_EN_L: EN
   ⟨0x100, [(48, 8)],
    [⟨0, 32, .rw, .basic, (.val 0), .any⟩]⟩,
   -- EVR_EN_H: EN
   ⟨0x104, [(48, 8)],
    [⟨0, 32, .rw, .basic, (.val 0), .any⟩]⟩]

@[inherit_doc regsEvr0]
def regsEvr : List RegSpec :=
  regsEvr0 ++ regsEvr1

/-- Registers of the MEMCTL block (R486). -/
def regsMemctl0 : List RegSpec :=
  [
   -- MEMCTL_DCFG: EN, SHIFT
   ⟨0x010, [],
    [⟨0, 1, .rw, .basic, (.val 1), .any⟩,
     ⟨4, 4, .rw, .basic, (.val 6), .any⟩]⟩,
   -- MEMCTL_DREG: BANKS, AON, ITCM, DTCM
   ⟨0x014, [],
    [⟨0, 24, .rw, .basic, (.val 0), .any⟩,
     ⟨24, 1, .rw, .basic, (.val 1), .any⟩,
     ⟨25, 1, .rw, .basic, (.val 1), .any⟩,
     ⟨26, 1, .rw, .basic, (.val 1), .any⟩]⟩,
   -- MEMCTL_DPOS: ADDR
   ⟨0x018, [],
    [⟨4, 28, .ro, .expert, (.val 0), .any⟩]⟩,
   -- MEMCTL_DPASS: COUNT
   ⟨0x01C, [],
    [⟨0, 32, .ro, .basic, (.val 0), .any⟩]⟩,
   -- MEMCTL_LOST: BANK
   ⟨0x020, [],
    [⟨0, 24, .w1c, .basic, (.val 0xffffff), .any⟩]⟩,
   -- MEMCTL_CEADDR: ADDR
   ⟨0x024, [],
    [⟨4, 28, .ro, .basic, (.val 0), .any⟩]⟩,
   -- MEMCTL_UEADDR: ADDR
   ⟨0x028, [],
    [⟨4, 28, .ro, .basic, (.val 0), .any⟩]⟩,
   -- MEMCTL_UESRC: REGION, MASTER, PARTIAL
   ⟨0x02C, [],
    [⟨0, 5, .ro, .basic, (.val 0), .any⟩,
     ⟨8, 4, .ro, .basic, (.val 0), .any⟩,
     ⟨12, 1, .ro, .basic, (.val 0), .any⟩]⟩,
   -- MEMCTL_SPARE: USED
   ⟨0x040, [(3, 4)],
    [⟨0, 32, .ro, .basic, (.val 0), .any⟩]⟩,
   -- MEMCTL_REMAP: AON, SEC
   ⟨0x050, [],
    [⟨0, 4, .ro, .basic, (.val 0), .any⟩,
     ⟨4, 4, .ro, .basic, (.val 0), .any⟩]⟩]

/-- Registers of the MEMCTL block (R486). -/
def regsMemctl1 : List RegSpec :=
  [
   -- MEMCTL_WIPE: BUSY, CAUSE
   ⟨0x060, [],
    [⟨0, 1, .ro, .basic, (.val 0), .any⟩,
     ⟨1, 1, .ro, .basic, (.val 0), .any⟩]⟩,
   -- MEMCTL_ERR: CE, UE
   ⟨0x100, [(30, 4)],
    [⟨0, 16, .rc, .basic, (.val 0), .any⟩,
     ⟨16, 16, .rc, .basic, (.val 0), .any⟩]⟩,
   -- MEMCTL_CONF: COUNT
   ⟨0x200, [(14, 4)],
    [⟨0, 16, .rc, .expert, (.val 0), .any⟩]⟩]

@[inherit_doc regsMemctl0]
def regsMemctl : List RegSpec :=
  regsMemctl0 ++ regsMemctl1

/-- Registers of the LOGS block (R505). -/
def regsLogs : List RegSpec :=
  [
   -- LOGS_ADDR: PAGE
   ⟨0x010, [],
    [⟨0, 10, .rw, .basic, (.val 0), .any⟩]⟩,
   -- LOGS_CMD: PROG, TWIN_WR, TWIN_RD
   ⟨0x014, [],
    [⟨0, 1, .w1s, .basic, (.val 0), .any⟩,
     ⟨1, 1, .w1s, .basic, (.val 0), .any⟩,
     ⟨2, 1, .w1s, .basic, (.val 0), .any⟩]⟩,
   -- LOGS_STAT: BUSY, QUEUED, RECOV, RESULT, OVR
   ⟨0x018, [],
    [⟨0, 1, .ro, .basic, (.val 0), .any⟩,
     ⟨1, 1, .ro, .basic, (.val 0), .any⟩,
     ⟨2, 1, .ro, .basic, (.val 0), .any⟩,
     ⟨4, 4, .ro, .basic, (.val 0), .any⟩,
     ⟨8, 1, .w1c, .basic, (.val 0), .any⟩]⟩,
   -- LOGS_PROT: BP
   ⟨0x01C, [],
    [⟨0, 2, .rw, .basic, (.val 0), .any⟩]⟩,
   -- LOGS_MASK: MASK
   ⟨0x020, [(4, 4)],
    [⟨0, 32, .rw, .basic, (.val 0xffffffff), .any⟩]⟩,
   -- LOGS_JSEQ: SEQ
   ⟨0x030, [],
    [⟨0, 32, .ro, .basic, (.val 0), .any⟩]⟩,
   -- LOGS_WEAR: UPCT, UPAGE, JPCT
   ⟨0x034, [],
    [⟨0, 8, .ro, .basic, (.val 0), .any⟩,
     ⟨8, 10, .ro, .basic, (.val 0), .any⟩,
     ⟨24, 8, .ro, .basic, (.val 0), .any⟩]⟩,
   -- LOGS_PCNT: COUNT
   ⟨0x038, [],
    [⟨0, 24, .ro, .expert, (.val 0), .any⟩]⟩,
   -- LOGS_REC: JRNL, TALLY
   ⟨0x03C, [],
    [⟨0, 2, .ro, .basic, (.val 0), .any⟩,
     ⟨2, 2, .ro, .basic, (.val 2), .any⟩]⟩,
   -- LOGS_BUF: DATA
   ⟨0x100, [(32, 4)],
    [⟨0, 32, .rw, .basic, (.val 0xffffffff), .any⟩]⟩]

/-- Registers of the TIDE block (R296). -/
def regsTide0 : List RegSpec :=
  [
   -- TIDE_NOWL: SEC
   ⟨0x010, [],
    [⟨0, 32, .rs, .basic, (.val 0), .any⟩]⟩,
   -- TIDE_NOWH: SECH
   ⟨0x014, [],
    [⟨0, 16, .ro, .basic, (.val 0), .any⟩]⟩,
   -- TIDE_NOWF: FRAC
   ⟨0x018, [],
    [⟨0, 32, .ro, .basic, (.val 0), .any⟩]⟩,
   -- TIDE_CFG: SCALE, SRC, LOOP_OPEN, PPS_POL, HTO
   ⟨0x020, [],
    [⟨0, 3, .rw, .basic, (.val 0), (.range 0 5)⟩,
     ⟨4, 2, .rw, .basic, (.val 3), .any⟩,
     ⟨8, 1, .rw, .expert, (.val 0), .any⟩,
     ⟨9, 1, .rw, .basic, (.val 0), .any⟩,
     ⟨16, 8, .rw, .expert, (.val 3), (.range 1 0xFFFFFFFF)⟩]⟩,
   -- TIDE_STAT: STATE, ACT_SRC, SCALE_OK, AGE
   ⟨0x024, [],
    [⟨0, 2, .ro, .basic, (.val 0), .any⟩,
     ⟨2, 2, .ro, .basic, (.val 0), .any⟩,
     ⟨4, 1, .ro, .basic, (.val 0), .any⟩,
     ⟨16, 16, .ro, .basic, (.val 0), .any⟩]⟩,
   -- TIDE_ERR: ERR
   ⟨0x028, [],
    [⟨0, 32, .ro, .basic, (.val 0xffffffff), .any⟩]⟩,
   -- TIDE_INC: INC
   ⟨0x02C, [],
    [⟨0, 32, .rw, .expert, (.val 0x1ad7f29b), .any⟩]⟩,
   -- TIDE_RATE: ADJ
   ⟨0x030, [],
    [⟨0, 32, .rw, .expert, (.val 0), (.within 549755814)⟩]⟩,
   -- TIDE_GAIN: KP, KI
   ⟨0x034, [],
    [⟨0, 16, .rw, .expert, (.val 0x4000), .any⟩,
     ⟨16, 16, .rw, .expert, (.val 0x400), .any⟩]⟩,
   -- TIDE_STEPTH: TH
   ⟨0x038, [],
    [⟨0, 10, .rw, .expert, (.val 10), (.range 1 1000)⟩]⟩]

/-- Registers of the TIDE block (R296). -/
def regsTide1 : List RegSpec :=
  [
   -- TIDE_LEAP: CUR, SRC, NEXT, PEND
   ⟨0x03C, [],
    [⟨0, 8, .rw, .basic, (.val 18), (.within 64)⟩,
     ⟨8, 1, .ro, .basic, (.val 0), .any⟩,
     ⟨16, 8, .ro, .basic, (.val 0), .any⟩,
     ⟨24, 1, .ro, .basic, (.val 0), .any⟩]⟩,
   -- TIDE_LEAPAT: AT
   ⟨0x040, [],
    [⟨0, 32, .ro, .basic, (.val 0), .any⟩]⟩,
   -- TIDE_LASTE: E
   ⟨0x044, [],
    [⟨0, 32, .ro, .expert, (.val 0), .any⟩]⟩,
   -- TIDE_ALIGN: ALIGN
   ⟨0x048, [],
    [⟨0, 16, .ro, .basic, (.val 0), .any⟩]⟩,
   -- TIDE_ADDS: SEC
   ⟨0x04C, [],
    [⟨0, 32, .rw, .expert, (.val 0), .any⟩]⟩,
   -- TIDE_ADDF: FRAC
   ⟨0x050, [],
    [⟨0, 32, .rw, .expert, (.val 0), .any⟩]⟩,
   -- TIDE_CTRL: STEP, STEP_PEND
   ⟨0x054, [],
    [⟨0, 1, .w1s, .expert, (.val 0), .any⟩,
     ⟨1, 1, .ro, .basic, (.val 0), .any⟩]⟩,
   -- TIDE_HOLD: GROW, SLPGROW
   ⟨0x058, [],
    [⟨0, 16, .rw, .expert, (.val 50), .any⟩,
     ⟨16, 16, .rw, .expert, (.val 0x1f4), .any⟩]⟩,
   -- TIDE_PPSDLY: DLY
   ⟨0x05C, [],
    [⟨0, 32, .rw, .basic, (.val 0), .any⟩]⟩,
   -- TIDE_ARATE: ADJ
   ⟨0x060, [],
    [⟨0, 32, .rw, .expert, (.val 0), .any⟩]⟩]

/-- Registers of the TIDE block (R296). -/
def regsTide2 : List RegSpec :=
  [
   -- TIDE_PPSCNT: REJ
   ⟨0x064, [],
    [⟨0, 16, .rc, .basic, (.val 0), .any⟩]⟩,
   -- TIDE_TTCFG: EN, PORT, MAXDLY
   ⟨0x070, [],
    [⟨0, 1, .rw, .basic, (.val 0), .any⟩,
     ⟨1, 1, .rw, .basic, (.val 0), .any⟩,
     ⟨16, 16, .rw, .expert, (.val 0x2710), (.range 1 0xFFFFFFFF)⟩]⟩,
   -- TIDE_TTOFS: OFFSET
   ⟨0x074, [],
    [⟨0, 32, .ro, .basic, (.val 0), .any⟩]⟩,
   -- TIDE_TTDLY: DELAY
   ⟨0x078, [],
    [⟨0, 32, .ro, .basic, (.val 0), .any⟩]⟩,
   -- TIDE_TTSTAT: LAST
   ⟨0x07C, [],
    [⟨0, 16, .ro, .basic, (.val 0), .any⟩]⟩,
   -- TIDE_TTCNT: ACC, REJ
   ⟨0x080, [],
    [⟨0, 16, .rc, .basic, (.val 0), .any⟩,
     ⟨16, 16, .rc, .basic, (.val 0), .any⟩]⟩]

@[inherit_doc regsTide0]
def regsTide : List RegSpec :=
  regsTide0 ++ regsTide1 ++ regsTide2

/-- Registers of the TP block (R297). -/
def regsTp : List RegSpec :=
  [
   -- TP_CTRL: EN, APPLY, POL, POLICY, SCALE
   ⟨0x010, [],
    [⟨0, 1, .rw, .basic, (.val 0), .any⟩,
     ⟨1, 1, .w1s, .basic, (.val 0), .any⟩,
     ⟨2, 1, .rw, .basic, (.val 0), .any⟩,
     ⟨3, 1, .rw, .basic, (.val 0), .any⟩,
     ⟨4, 3, .rw, .basic, (.val 0), .any⟩]⟩,
   -- TP_PERS: SEC
   ⟨0x014, [],
    [⟨0, 32, .rw, .basic, (.val 1), .any⟩]⟩,
   -- TP_PERF: FRAC
   ⟨0x018, [],
    [⟨0, 32, .rw, .basic, (.val 0), .any⟩]⟩,
   -- TP_WIDTH: TICKS
   ⟨0x01C, [],
    [⟨0, 32, .rw, .basic, (.val 0x1e84800), (.range 1 0xFFFFFFFF)⟩]⟩,
   -- TP_DELAY: DELAY
   ⟨0x020, [],
    [⟨0, 32, .rw, .basic, (.val 0), .any⟩]⟩,
   -- TP_STAT: ON, FLAG, STOPPED, SKIP, APPLY_PEND
   ⟨0x024, [],
    [⟨0, 1, .ro, .basic, (.val 0), .any⟩,
     ⟨1, 1, .ro, .basic, (.val 0), .any⟩,
     ⟨2, 1, .ro, .basic, (.val 0), .any⟩,
     ⟨3, 1, .w1c, .basic, (.val 0), .any⟩,
     ⟨4, 1, .ro, .basic, (.val 0), .any⟩]⟩,
   -- TP_QNEXT: SEC
   ⟨0x028, [],
    [⟨0, 32, .ro, .basic, (.val 0), .any⟩]⟩,
   -- TP_QERR: QERR, VALID
   ⟨0x02C, [],
    [⟨0, 16, .ro, .basic, (.val 0), .any⟩,
     ⟨16, 1, .ro, .basic, (.val 0), .any⟩]⟩,
   -- TP_ERRLIM: LIM
   ⟨0x030, [],
    [⟨0, 16, .rw, .basic, (.val 0x3e8), .any⟩]⟩]

/-- Registers of the RTC block (R323). -/
def regsRtc0 : List RegSpec :=
  [
   -- RTC_BSEC: SEC
   ⟨0x010, [],
    [⟨0, 32, .rs, .basic, (.val 0), .any⟩]⟩,
   -- RTC_BHI: SECH, FRAC
   ⟨0x014, [],
    [⟨0, 8, .ro, .basic, (.val 0), .any⟩,
     ⟨16, 16, .ro, .basic, (.val 0), .any⟩]⟩,
   -- RTC_CAL0: SEC, MIN, HOUR, WDAY
   ⟨0x018, [],
    [⟨0, 7, .ro, .basic, (.val 0), .any⟩,
     ⟨8, 7, .ro, .basic, (.val 0), .any⟩,
     ⟨16, 6, .ro, .basic, (.val 0), .any⟩,
     ⟨24, 3, .ro, .basic, (.val 3), .any⟩]⟩,
   -- RTC_CAL1: DAY, MONTH, YEAR, CENT
   ⟨0x01C, [],
    [⟨0, 6, .ro, .basic, (.val 1), .any⟩,
     ⟨8, 5, .ro, .basic, (.val 1), .any⟩,
     ⟨16, 8, .ro, .basic, (.val 32), .any⟩,
     ⟨24, 2, .ro, .basic, (.val 0), .any⟩]⟩,
   -- RTC_SBSEC: SEC
   ⟨0x020, [],
    [⟨0, 32, .rw, .basic, (.val 0), .any⟩]⟩,
   -- RTC_SBHI: SECH, FRAC
   ⟨0x024, [],
    [⟨0, 8, .rw, .basic, (.val 0), .any⟩,
     ⟨16, 16, .ro, .basic, (.val 0), .any⟩]⟩,
   -- RTC_SCAL0: SEC, MIN, HOUR, WDAY
   ⟨0x028, [],
    [⟨0, 7, .rw, .basic, (.val 0), .any⟩,
     ⟨8, 7, .rw, .basic, (.val 0), .any⟩,
     ⟨16, 6, .rw, .basic, (.val 0), .any⟩,
     ⟨24, 3, .ro, .basic, (.val 3), .any⟩]⟩,
   -- RTC_SCAL1: DAY, MONTH, YEAR, CENT
   ⟨0x02C, [],
    [⟨0, 6, .rw, .basic, (.val 1), .any⟩,
     ⟨8, 5, .rw, .basic, (.val 1), .any⟩,
     ⟨16, 8, .rw, .basic, (.val 32), .any⟩,
     ⟨24, 2, .rw, .basic, (.val 0), .any⟩]⟩,
   -- RTC_APPLY: NOW, SECOND, CANCEL, PEND
   ⟨0x030, [],
    [⟨0, 1, .w1s, .basic, (.val 0), .any⟩,
     ⟨1, 1, .w1s, .basic, (.val 0), .any⟩,
     ⟨2, 1, .w1s, .basic, (.val 0), .any⟩,
     ⟨8, 1, .ro, .basic, (.val 0), .any⟩]⟩,
   -- RTC_CTRL: MODE, DISC_EN, TRK_RES, TRK_DIODE
   ⟨0x034, [],
    [⟨0, 1, .rw, .basic, (.val 0), .any⟩,
     ⟨1, 1, .rw, .basic, (.val 1), .any⟩,
     ⟨4, 2, .rw, .basic, (.val 0), .any⟩,
     ⟨6, 1, .rw, .basic, (.val 0), .any⟩]⟩]

/-- Registers of the RTC block (R323). -/
def regsRtc1 : List RegSpec :=
  [
   -- RTC_SHIFT: COUNT, START, PEND
   ⟨0x038, [],
    [⟨0, 16, .rw, .basic, (.val 0), (.ne 32768)⟩,
     ⟨16, 1, .w1s, .basic, (.val 0), .any⟩,
     ⟨17, 1, .ro, .basic, (.val 0), .any⟩]⟩,
   -- RTC_STAT: OSF, TSET, LOCKED, ALM1, ALM2, BADSET, STAGE_LOST, SHIFT_CUT, SRC, CLKSRC
   ⟨0x03C, [],
    [⟨0, 1, .w1c, .basic, (.val 1), .any⟩,
     ⟨1, 1, .ro, .basic, (.val 0), .any⟩,
     ⟨2, 1, .ro, .basic, (.val 0), .any⟩,
     ⟨3, 1, .w1c, .basic, (.val 0), .any⟩,
     ⟨4, 1, .w1c, .basic, (.val 0), .any⟩,
     ⟨5, 1, .w1c, .basic, (.val 0), .any⟩,
     ⟨6, 1, .w1c, .basic, (.val 0), .any⟩,
     ⟨7, 1, .w1c, .basic, (.val 0), .any⟩,
     ⟨8, 1, .ro, .basic, (.val 0), .any⟩,
     ⟨9, 1, .ro, .basic, (.val 0), .any⟩]⟩,
   -- RTC_ALMCTL: EN1, EN2
   ⟨0x040, [],
    [⟨0, 1, .rw, .basic, (.val 0), .any⟩,
     ⟨1, 1, .rw, .basic, (.val 0), .any⟩]⟩,
   -- RTC_ALM_C0: SEC, MSEC, MIN, MMIN, HOUR, MHOUR, WDAY, MWDAY
   ⟨0x050, [(2, 32)],
    [⟨0, 7, .rw, .basic, (.val 0), .any⟩,
     ⟨7, 1, .rw, .basic, (.val 0), .any⟩,
     ⟨8, 7, .rw, .basic, (.val 0), .any⟩,
     ⟨15, 1, .rw, .basic, (.val 0), .any⟩,
     ⟨16, 6, .rw, .basic, (.val 0), .any⟩,
     ⟨23, 1, .rw, .basic, (.val 0), .any⟩,
     ⟨24, 3, .rw, .basic, (.val 0), .any⟩,
     ⟨27, 1, .rw, .basic, (.val 0), .any⟩]⟩,
   -- RTC_ALM_C1: DAY, MDAY, MONTH, MMONTH, YEAR, CENT, MYEAR, MCENT
   ⟨0x054, [(2, 32)],
    [⟨0, 6, .rw, .basic, (.val 0), .any⟩,
     ⟨7, 1, .rw, .basic, (.val 0), .any⟩,
     ⟨8, 5, .rw, .basic, (.val 0), .any⟩,
     ⟨15, 1, .rw, .basic, (.val 0), .any⟩,
     ⟨16, 8, .rw, .basic, (.val 0), .any⟩,
     ⟨24, 2, .rw, .basic, (.val 0), .any⟩,
     ⟨26, 1, .rw, .basic, (.val 0), .any⟩,
     ⟨27, 1, .rw, .basic, (.val 0), .any⟩]⟩,
   -- RTC_ALM_BCMPL: CMP
   ⟨0x058, [(2, 32)],
    [⟨0, 32, .rw, .basic, (.val 0), .any⟩]⟩,
   -- RTC_ALM_BCMPH: CMP, MSK
   ⟨0x05C, [(2, 32)],
    [⟨0, 8, .rw, .basic, (.val 0), .any⟩,
     ⟨8, 8, .rw, .basic, (.val 0), .any⟩]⟩,
   -- RTC_ALM_BMSKL: MSK
   ⟨0x060, [(2, 32)],
    [⟨0, 32, .rw, .basic, (.val 0), .any⟩]⟩,
   -- RTC_DISCT: SEC
   ⟨0x090, [],
    [⟨0, 32, .ro, .basic, (.val 0), .any⟩]⟩]

@[inherit_doc regsRtc0]
def regsRtc : List RegSpec :=
  regsRtc0 ++ regsRtc1

/-- Registers of the UART block (R567). -/
def regsUart : List RegSpec :=
  [
   -- UART_CFG: EN, DBITS, PAR, STOP2, SYNC, CKPOL, RXDMA, TXDMA, RXTH
   ⟨0x010, [],
    [⟨0, 1, .rw, .basic, (.val 0), .any⟩,
     ⟨1, 1, .rw, .basic, (.val 0), .any⟩,
     ⟨2, 2, .rw, .basic, (.val 0), (.range 0 2)⟩,
     ⟨4, 1, .rw, .basic, (.val 0), .any⟩,
     ⟨5, 1, .rw, .expert, (.val 0), .any⟩,
     ⟨6, 1, .rw, .expert, (.val 0), .any⟩,
     ⟨7, 1, .rw, .basic, (.val 0), .any⟩,
     ⟨8, 1, .rw, .basic, (.val 0), .any⟩,
     ⟨9, 4, .rw, .basic, (.val 1), (.range 1 0xFFFFFFFF)⟩]⟩,
   -- UART_BAUD: FRAC, INT
   ⟨0x014, [],
    [⟨0, 4, .rw, .basic, (.val 12), .any⟩,
     ⟨4, 16, .rw, .basic, (.val 34), (.range 1 0xFFFFFFFF)⟩]⟩,
   -- UART_DATA: BYTE, PE, FE, NOISE, EMPTY
   ⟨0x018, [],
    [⟨0, 8, .rw, .basic, (.val 0), .any⟩,
     ⟨8, 1, .ro, .basic, (.val 0), .any⟩,
     ⟨9, 1, .ro, .basic, (.val 0), .any⟩,
     ⟨10, 1, .ro, .basic, (.val 0), .any⟩,
     ⟨15, 1, .ro, .basic, (.val 1), .any⟩]⟩,
   -- UART_STAT: RXLVL, TXLVL, OVR, TXOVF, BRK, LINE_FAULT, WAKE_LOST, LOSTN
   ⟨0x01C, [],
    [⟨0, 5, .ro, .basic, (.val 0), .any⟩,
     ⟨5, 5, .ro, .basic, (.val 0), .any⟩,
     ⟨10, 1, .w1c, .basic, (.val 0), .any⟩,
     ⟨11, 1, .w1c, .basic, (.val 0), .any⟩,
     ⟨12, 1, .w1c, .basic, (.val 0), .any⟩,
     ⟨13, 1, .ro, .basic, (.val 0), .any⟩,
     ⟨14, 1, .w1c, .basic, (.val 0), .any⟩,
     ⟨16, 8, .rc, .basic, (.val 0), .any⟩]⟩,
   -- UART_TIMING: RXTO, STUCK
   ⟨0x020, [],
    [⟨0, 8, .rw, .basic, (.val 0), .any⟩,
     ⟨16, 16, .rw, .expert, (.val 64), (.range 12 65535)⟩]⟩,
   -- UART_RXSTS: SEC
   ⟨0x030, [],
    [⟨0, 32, .rs, .basic, (.val 0), .any⟩]⟩,
   -- UART_RXSTF: FRAC
   ⟨0x034, [],
    [⟨0, 32, .ro, .basic, (.val 0), .any⟩]⟩,
   -- UART_TXSTS: SEC
   ⟨0x038, [],
    [⟨0, 32, .rs, .basic, (.val 0), .any⟩]⟩,
   -- UART_TXSTF: FRAC
   ⟨0x03C, [],
    [⟨0, 32, .ro, .basic, (.val 0), .any⟩]⟩,
   -- UART_STCNT: RX, RXCOARSE, TX, TXCOARSE
   ⟨0x040, [],
    [⟨0, 15, .ro, .basic, (.val 0), .any⟩,
     ⟨15, 1, .ro, .basic, (.val 0), .any⟩,
     ⟨16, 15, .ro, .basic, (.val 0), .any⟩,
     ⟨31, 1, .ro, .basic, (.val 0), .any⟩]⟩]

/-- Registers of the I2CT block (R572). -/
def regsI2ct : List RegSpec :=
  [
   -- I2CT_ADDR: A1, A1_EN, A2, A2_EN
   ⟨0x010, [],
    [⟨0, 7, .rw, .basic, (.val 58), .any⟩,
     ⟨7, 1, .rw, .basic, (.val 1), .any⟩,
     ⟨8, 7, .rw, .basic, (.val 59), .any⟩,
     ⟨15, 1, .rw, .basic, (.val 0), .any⟩]⟩,
   -- I2CT_CFG: SPEED, STRETCH
   ⟨0x014, [],
    [⟨0, 2, .rw, .basic, (.val 1), (.range 0 2)⟩,
     ⟨8, 8, .rw, .expert, (.val 100), (.range 1 0xFFFFFFFF)⟩]⟩,
   -- I2CT_DATA: BYTE, FIRST, AIDX, EMPTY
   ⟨0x018, [],
    [⟨0, 8, .rw, .basic, (.val 0), .any⟩,
     ⟨8, 1, .ro, .basic, (.val 0), .any⟩,
     ⟨9, 1, .ro, .basic, (.val 0), .any⟩,
     ⟨15, 1, .ro, .basic, (.val 1), .any⟩]⟩,
   -- I2CT_STAT: RXLVL, TXLVL, BUSY, RW, TMO
   ⟨0x01C, [],
    [⟨0, 4, .ro, .basic, (.val 0), .any⟩,
     ⟨4, 4, .ro, .basic, (.val 0), .any⟩,
     ⟨8, 1, .ro, .basic, (.val 0), .any⟩,
     ⟨9, 1, .ro, .basic, (.val 0), .any⟩,
     ⟨10, 1, .w1c, .basic, (.val 0), .any⟩]⟩]

/-- Registers of the SPI block (R574). -/
def regsSpi : List RegSpec :=
  [
   -- SPI_CFG: EN, HOST, MODE, LSBF, SIZE, DIV
   ⟨0x010, [],
    [⟨0, 1, .rw, .basic, (.val 0), .any⟩,
     ⟨1, 1, .rw, .basic, (.val 1), .any⟩,
     ⟨2, 2, .rw, .basic, (.val 0), .any⟩,
     ⟨4, 1, .rw, .basic, (.val 0), .any⟩,
     ⟨5, 2, .rw, .basic, (.val 0), (.range 0 2)⟩,
     ⟨8, 8, .rw, .basic, (.val 7), .any⟩]⟩,
   -- SPI_CTRL: COUNT, START, ABORT
   ⟨0x014, [],
    [⟨0, 16, .rw, .basic, (.val 1), (.range 1 0xFFFFFFFF)⟩,
     ⟨16, 1, .w1s, .basic, (.val 0), .any⟩,
     ⟨17, 1, .w1s, .basic, (.val 0), .any⟩]⟩,
   -- SPI_DATA: FRAME
   ⟨0x018, [],
    [⟨0, 32, .rw, .basic, (.val 0), .any⟩]⟩,
   -- SPI_STAT: RXLVL, TXLVL, BUSY, UDR, OVR, CSABORT
   ⟨0x01C, [],
    [⟨0, 4, .ro, .basic, (.val 0), .any⟩,
     ⟨4, 4, .ro, .basic, (.val 0), .any⟩,
     ⟨8, 1, .ro, .basic, (.val 0), .any⟩,
     ⟨9, 1, .w1c, .basic, (.val 0), .any⟩,
     ⟨10, 1, .w1c, .basic, (.val 0), .any⟩,
     ⟨11, 1, .w1c, .basic, (.val 0), .any⟩]⟩]

/-- Registers of the LGT block (R554). -/
def regsLgt0 : List RegSpec :=
  [
   -- LGT_SUM: RUN, STALLED, IMERR
   ⟨0x010, [],
    [⟨0, 8, .ro, .basic, (.val 0), .any⟩,
     ⟨8, 8, .ro, .basic, (.val 0), .any⟩,
     ⟨16, 8, .w1c, .basic, (.val 0), .any⟩]⟩,
   -- LGT_CFG: WRAP_BOT, WRAP_TOP, ORDER, AUTOFILL, AUTODRAIN, STEPW, LIB
   ⟨0x100, [(8, 64)],
    [⟨0, 5, .rw, .expert, (.val 0), .any⟩,
     ⟨8, 5, .rw, .expert, (.val 31), .any⟩,
     ⟨16, 1, .rw, .expert, (.val 0), .any⟩,
     ⟨17, 1, .rw, .expert, (.val 0), .any⟩,
     ⟨18, 1, .rw, .expert, (.val 0), .any⟩,
     ⟨20, 2, .rw, .expert, (.val 0), .any⟩,
     ⟨24, 4, .rw, .basic, (.val 0), (.range 0 3)⟩]⟩,
   -- LGT_PINS: OBASE, OCNT, IBASE, CKPIN
   ⟨0x104, [(8, 64)],
    [⟨0, 6, .rw, .basic, (.val 0), (.range 0 47)⟩,
     ⟨8, 6, .rw, .basic, (.val 1), (.range 0 32)⟩,
     ⟨16, 6, .rw, .basic, (.val 0), (.range 0 47)⟩,
     ⟨24, 6, .rw, .basic, (.val 0), (.range 0 47)⟩]⟩,
   -- LGT_DIV: FRAC, INT
   ⟨0x108, [(8, 64)],
    [⟨0, 8, .rw, .basic, (.val 0), .any⟩,
     ⟨8, 16, .rw, .basic, (.val 1), (.range 1 0xFFFFFFFF)⟩]⟩,
   -- LGT_CMD: RUN, STOP, CLRSHIFT, CLRFIFO, SETPC, PC
   ⟨0x10C, [(8, 64)],
    [⟨0, 1, .w1s, .basic, (.val 0), .any⟩,
     ⟨1, 1, .w1s, .basic, (.val 0), .any⟩,
     ⟨2, 1, .w1s, .expert, (.val 0), .any⟩,
     ⟨3, 1, .w1s, .basic, (.val 0), .any⟩,
     ⟨4, 1, .w1s, .expert, (.val 0), .any⟩,
     ⟨8, 5, .rw, .expert, (.val 0), .any⟩]⟩,
   -- LGT_STAT: STATE, WHY, ILL, PC, TO, SC, RC
   ⟨0x110, [(8, 64)],
    [⟨0, 2, .ro, .basic, (.val 0), .any⟩,
     ⟨2, 1, .ro, .basic, (.val 0), .any⟩,
     ⟨3, 1, .w1c, .basic, (.val 0), .any⟩,
     ⟨4, 5, .ro, .basic, (.val 0), .any⟩,
     ⟨9, 1, .ro, .expert, (.val 0), .any⟩,
     ⟨16, 6, .ro, .expert, (.val 32), .any⟩,
     ⟨24, 6, .ro, .expert, (.val 0), .any⟩]⟩,
   -- LGT_FIFO: TXLVL, RXLVL, TXTH, RXTH, TXOVF, RXUNF, IMWR
   ⟨0x114, [(8, 64)],
    [⟨0, 4, .ro, .basic, (.val 0), .any⟩,
     ⟨4, 4, .ro, .basic, (.val 0), .any⟩,
     ⟨8, 4, .rw, .basic, (.val 2), (.range 0 8)⟩,
     ⟨12, 4, .rw, .basic, (.val 6), (.range 1 8)⟩,
     ⟨16, 1, .w1c, .basic, (.val 0), .any⟩,
     ⟨17, 1, .w1c, .basic, (.val 0), .any⟩,
     ⟨18, 1, .w1c, .basic, (.val 0), .any⟩]⟩,
   -- LGT_TXF: DATA
   ⟨0x118, [(8, 64)],
    [⟨0, 32, .wo, .basic, (.val 0), .any⟩]⟩,
   -- LGT_RXF: DATA
   ⟨0x11C, [(8, 64)],
    [⟨0, 32, .ro, .basic, (.val 0), .any⟩]⟩,
   -- LGT_SH: SH
   ⟨0x120, [(8, 64)],
    [⟨0, 32, .ro, .expert, (.val 0), .any⟩]⟩]

/-- Registers of the LGT block (R554). -/
def regsLgt1 : List RegSpec :=
  [
   -- LGT_LC: LC, TM
   ⟨0x124, [(8, 64)],
    [⟨0, 16, .ro, .expert, (.val 0), .any⟩,
     ⟨16, 16, .ro, .expert, (.val 0), .any⟩]⟩,
   -- LGT_MR: MR
   ⟨0x128, [(8, 64)],
    [⟨0, 32, .ro, .expert, (.val 0), .any⟩]⟩,
   -- LGT_THRS: FILLAT, DRAINAT, ICNT
   ⟨0x12C, [(8, 64)],
    [⟨0, 6, .rw, .expert, (.val 32), (.range 1 32)⟩,
     ⟨8, 6, .rw, .expert, (.val 32), (.range 1 32)⟩,
     ⟨16, 6, .rw, .basic, (.val 1), (.range 0 32)⟩]⟩,
   -- LGT_IMEM: WORD
   ⟨0x800, [(8, 128), (32, 4)],
    [⟨0, 32, .rw, .expert, (.val 0), .any⟩]⟩]

@[inherit_doc regsLgt0]
def regsLgt : List RegSpec :=
  regsLgt0 ++ regsLgt1

/-- Registers of the ADC block (R591). -/
def regsAdc0 : List RegSpec :=
  [
   -- ADC_CFG: MODE, ALIGN, PACK, SIMUL, LEN, COUNT
   ⟨0x010, [],
    [⟨0, 2, .rw, .basic, (.val 0), .any⟩,
     ⟨2, 1, .rw, .basic, (.val 0), .any⟩,
     ⟨3, 1, .rw, .basic, (.val 0), .any⟩,
     ⟨4, 1, .rw, .basic, (.val 0), .any⟩,
     ⟨8, 5, .rw, .basic, (.val 1), (.range 1 16)⟩,
     ⟨16, 16, .rw, .basic, (.val 1), .any⟩]⟩,
   -- ADC_CTRL: START, STOP, FLUSH
   ⟨0x014, [],
    [⟨0, 1, .w1s, .basic, (.val 0), .any⟩,
     ⟨1, 1, .w1s, .basic, (.val 0), .any⟩,
     ⟨2, 1, .w1s, .basic, (.val 0), .any⟩]⟩,
   -- ADC_STAT: BUSY, READY, CAL_OK, OVR, WIN, CFGERR, UNF, LVL
   ⟨0x018, [],
    [⟨0, 1, .ro, .basic, (.val 0), .any⟩,
     ⟨1, 1, .ro, .basic, (.val 0), .any⟩,
     ⟨2, 1, .ro, .basic, (.val 0), .any⟩,
     ⟨3, 1, .w1c, .basic, (.val 0), .any⟩,
     ⟨4, 1, .w1c, .basic, (.val 0), .any⟩,
     ⟨5, 1, .w1c, .basic, (.val 0), .any⟩,
     ⟨6, 1, .w1c, .basic, (.val 0), .any⟩,
     ⟨8, 5, .ro, .basic, (.val 0), .any⟩]⟩,
   -- ADC_REF: EN, SEL
   ⟨0x01C, [],
    [⟨0, 1, .rw, .basic, (.val 0), .any⟩,
     ⟨1, 1, .rw, .basic, (.val 0), .any⟩]⟩,
   -- ADC_FIFO: WORD
   ⟨0x020, [],
    [⟨0, 32, .ro, .basic, (.val 0), .any⟩]⟩,
   -- ADC_FIFOTH: TH
   ⟨0x024, [],
    [⟨0, 5, .rw, .basic, (.val 8), (.range 1 16)⟩]⟩,
   -- ADC_WIN: LO, HI
   ⟨0x028, [],
    [⟨0, 16, .rw, .basic, (.val 0), .any⟩,
     ⟨16, 16, .rw, .basic, (.val 0xffff), .any⟩]⟩,
   -- ADC_WINCFG: EN, INSIDE
   ⟨0x02C, [],
    [⟨0, 1, .rw, .basic, (.val 0), .any⟩,
     ⟨1, 1, .rw, .basic, (.val 0), .any⟩]⟩,
   -- ADC_TCAL: TCAL
   ⟨0x030, [],
    [⟨0, 14, .ro, .basic, (.val 0x12c0), .any⟩]⟩,
   -- ADC_CORR: EN, FREEZE
   ⟨0x034, [],
    [⟨0, 1, .rw, .expert, (.val 1), .any⟩,
     ⟨1, 1, .rw, .expert, (.val 0), .any⟩]⟩]

/-- Registers of the ADC block (R591). -/
def regsAdc1 : List RegSpec :=
  [
   -- ADC_ECON: SAMPLE
   ⟨0x038, [],
    [⟨0, 6, .rw, .expert, (.val 16), (.range 4 63)⟩]⟩,
   -- ADC_SEQ: CH
   ⟨0x040, [(16, 4)],
    [⟨0, 5, .rw, .basic, (.seq [0, 1, 2, 3, 4, 5, 6, 7, 8, 9, 10, 11, 12, 13, 14, 15]), (.range 0 27)⟩]⟩,
   -- ADC_COEF: OFS, GAIN, SKEW
   ⟨0x080, [(4, 4)],
    [⟨0, 16, .ro, .expert, (.val 0), .any⟩,
     ⟨16, 8, .ro, .expert, (.val 0), .any⟩,
     ⟨24, 8, .ro, .expert, (.val 0), .any⟩]⟩]

@[inherit_doc regsAdc0]
def regsAdc : List RegSpec :=
  regsAdc0 ++ regsAdc1

/-- Registers of the TOUCH block (R605). -/
def regsTouch0 : List RegSpec :=
  [
   -- TOUCH_CFG: MODE, PROXEN, SYNC, DQIPOL, PERIOD, PULSES
   ⟨0x010, [],
    [⟨0, 2, .rw, .basic, (.val 0), .any⟩,
     ⟨2, 1, .rw, .basic, (.val 0), .any⟩,
     ⟨4, 2, .rw, .basic, (.val 0), (.range 0 2)⟩,
     ⟨6, 1, .rw, .basic, (.val 1), .any⟩,
     ⟨8, 8, .rw, .basic, (.val 10), .any⟩,
     ⟨16, 8, .rw, .expert, (.val 125), (.range 16 255)⟩]⟩,
   -- TOUCH_CTRL: START, TEST, REBASE, SAVEREF
   ⟨0x014, [],
    [⟨0, 1, .w1s, .basic, (.val 0), .any⟩,
     ⟨1, 1, .w1s, .basic, (.val 0), .any⟩,
     ⟨2, 1, .w1s, .basic, (.val 0), .any⟩,
     ⟨3, 1, .w1s, .basic, (.val 0), .any⟩]⟩,
   -- TOUCH_STAT: BUSY, TESTING, LATE, NOREF, REFERR, DISCARD
   ⟨0x018, [],
    [⟨0, 1, .ro, .basic, (.val 0), .any⟩,
     ⟨1, 1, .ro, .basic, (.val 0), .any⟩,
     ⟨2, 1, .w1c, .basic, (.val 0), .any⟩,
     ⟨3, 1, .ro, .basic, (.val 0), .any⟩,
     ⟨4, 1, .w1c, .basic, (.val 0), .any⟩,
     ⟨8, 8, .rc, .basic, (.val 0), .any⟩]⟩,
   -- TOUCH_THR: THR, HYST
   ⟨0x01C, [],
    [⟨0, 16, .rw, .basic, (.val 0x258), (.range 1 0xFFFFFFFF)⟩,
     ⟨16, 16, .rw, .expert, (.val 150), .any⟩]⟩,
   -- TOUCH_BL: BLRATE, ONDEB, NEGTH
   ⟨0x020, [],
    [⟨0, 8, .rw, .expert, (.val 16), (.range 1 0xFFFFFFFF)⟩,
     ⟨8, 4, .rw, .expert, (.val 2), (.range 1 0xFFFFFFFF)⟩,
     ⟨16, 16, .rw, .expert, (.val 0x12c), (.range 1 0xFFFFFFFF)⟩]⟩,
   -- TOUCH_ONTIME: S
   ⟨0x024, [],
    [⟨0, 9, .rw, .basic, (.val 30), (.range 1 300)⟩]⟩,
   -- TOUCH_DQI: TO, DQIWIN
   ⟨0x028, [],
    [⟨0, 8, .rw, .basic, (.val 20), (.range 1 0xFFFFFFFF)⟩,
     ⟨16, 16, .rw, .expert, (.val 0x3e8), (.range 1 0xFFFFFFFF)⟩]⟩,
   -- TOUCH_PROX: RATE, DET, THR
   ⟨0x030, [],
    [⟨0, 2, .rw, .basic, (.val 1), .any⟩,
     ⟨2, 1, .ro, .basic, (.val 0), .any⟩,
     ⟨16, 16, .rw, .basic, (.val 200), (.range 1 0xFFFFFFFF)⟩]⟩,
   -- TOUCH_PROXRAW: RAW, BASE
   ⟨0x034, [],
    [⟨0, 16, .ro, .expert, (.val 0), .any⟩,
     ⟨16, 16, .ro, .expert, (.val 0), .any⟩]⟩,
   -- TOUCH_TEST: XTH
   ⟨0x038, [],
    [⟨0, 8, .rw, .expert, (.val 10), (.range 1 100)⟩]⟩]

/-- Registers of the TOUCH block (R605). -/
def regsTouch1 : List RegSpec :=
  [
   -- TOUCH_OPEN: MASK
   ⟨0x040, [],
    [⟨0, 32, .ro, .basic, (.val 0), .any⟩]⟩,
   -- TOUCH_SHORT: MASK
   ⟨0x044, [],
    [⟨0, 32, .ro, .basic, (.val 0), .any⟩]⟩,
   -- TOUCH_GRP_L: KEYS
   ⟨0x050, [(8, 8)],
    [⟨0, 32, .rw, .basic, (.val 0xffffffff), .any⟩]⟩,
   -- TOUCH_GRP_H: KEYS
   ⟨0x054, [(8, 8)],
    [⟨0, 32, .rw, .basic, (.val 0xffffffff), .any⟩]⟩,
   -- TOUCH_ELEC: PIN, EN
   ⟨0x080, [(32, 4)],
    [⟨0, 6, .rw, .basic, (.seq [0, 1, 2, 3, 4, 5, 6, 7, 8, 9, 10, 11, 12, 13, 14, 15, 16, 17, 18, 19, 20, 21, 22, 23, 24, 25, 26, 27, 28, 29, 30, 31]), (.range 0 47)⟩,
     ⟨7, 1, .rw, .basic, (.val 0), .any⟩]⟩,
   -- TOUCH_KEY: ON
   ⟨0x100, [(6, 4)],
    [⟨0, 32, .ro, .basic, (.val 0), .any⟩]⟩,
   -- TOUCH_RAW: RAW, BASE
   ⟨0x400, [(192, 4)],
    [⟨0, 16, .ro, .basic, (.val 0), .any⟩,
     ⟨16, 16, .ro, .expert, (.val 0), .any⟩]⟩,
   -- TOUCH_KST: STATE, START, DELTA
   ⟨0x800, [(192, 4)],
    [⟨0, 2, .ro, .basic, (.val 0), .any⟩,
     ⟨2, 1, .ro, .basic, (.val 0), .any⟩,
     ⟨16, 16, .ro, .basic, (.val 0), .any⟩]⟩]

@[inherit_doc regsTouch0]
def regsTouch : List RegSpec :=
  regsTouch0 ++ regsTouch1

/-- Registers of the CRYPTO block (R622). -/
def regsCrypto0 : List RegSpec :=
  [
   -- CRYPTO_SFCFG: AUTO, EN, KEEP, SIZE, DIV
   ⟨0x010, [],
    [⟨0, 1, .rw, .basic, (.val 0), .any⟩,
     ⟨1, 1, .rw, .basic, (.val 0), .any⟩,
     ⟨2, 1, .rw, .expert, (.val 0), .any⟩,
     ⟨4, 4, .rw, .basic, (.val 4), (.range 2 8)⟩,
     ⟨8, 8, .rw, .basic, (.val 1), (.range 1 0xFFFFFFFF)⟩]⟩,
   -- CRYPTO_SFBASE: ADDR
   ⟨0x014, [],
    [⟨8, 24, .rw, .basic, (.val 0), .any⟩]⟩,
   -- CRYPTO_SFHEAD: IDX
   ⟨0x018, [],
    [⟨0, 8, .ro, .basic, (.val 0), .any⟩]⟩,
   -- CRYPTO_SFTAIL: IDX
   ⟨0x01C, [],
    [⟨0, 8, .rw, .basic, (.val 0), .any⟩]⟩,
   -- CRYPTO_SFSTAT: DROPPED, LAST
   ⟨0x020, [],
    [⟨0, 16, .rc, .basic, (.val 0), .any⟩,
     ⟨16, 16, .ro, .basic, (.val 0), .any⟩]⟩,
   -- CRYPTO_SSEQ: NEXT
   ⟨0x024, [],
    [⟨0, 32, .ro, .basic, (.val 0), .any⟩]⟩,
   -- CRYPTO_BOOTN: BOOTN
   ⟨0x028, [],
    [⟨0, 32, .ro, .basic, (.val 0), .any⟩]⟩,
   -- CRYPTO_DEVID0: LO
   ⟨0x030, [],
    [⟨0, 32, .ro, .basic, (.val 0), .any⟩]⟩,
   -- CRYPTO_DEVID1: HI
   ⟨0x034, [],
    [⟨0, 32, .ro, .basic, (.val 0), .any⟩]⟩,
   -- CRYPTO_KEY: READY, BUSY, QLVL, TAMPER
   ⟨0x038, [],
    [⟨0, 1, .ro, .basic, (.val 0), .any⟩,
     ⟨1, 1, .ro, .basic, (.val 0), .any⟩,
     ⟨2, 3, .ro, .basic, (.val 0), .any⟩,
     ⟨16, 16, .ro, .basic, (.val 0), .any⟩]⟩]

/-- Registers of the CRYPTO block (R622). -/
def regsCrypto1 : List RegSpec :=
  [
   -- CRYPTO_PUB: BYTES
   ⟨0x040, [(15, 4)],
    [⟨0, 32, .ro, .basic, (.val 0), .any⟩]⟩]

@[inherit_doc regsCrypto0]
def regsCrypto : List RegSpec :=
  regsCrypto0 ++ regsCrypto1

/-- Registers of the GPIO block (R644). -/
def regsGpio0 : List RegSpec :=
  [
   -- GPIO_OUT0: OUT
   ⟨0x010, [],
    [⟨0, 32, .rw, .basic, (.val 0), .any⟩]⟩,
   -- GPIO_OUT1: OUT
   ⟨0x014, [],
    [⟨0, 16, .rw, .basic, (.val 0), .any⟩]⟩,
   -- GPIO_OE0: OE
   ⟨0x018, [],
    [⟨0, 32, .rw, .basic, (.val 0), .any⟩]⟩,
   -- GPIO_OE1: OE
   ⟨0x01C, [],
    [⟨0, 16, .rw, .basic, (.val 0), .any⟩]⟩,
   -- GPIO_IN0: IN
   ⟨0x020, [],
    [⟨0, 32, .ro, .basic, (.val 0), .any⟩]⟩,
   -- GPIO_IN1: IN
   ⟨0x024, [],
    [⟨0, 16, .ro, .basic, (.val 0), .any⟩]⟩,
   -- GPIO_OUTSET0: SET
   ⟨0x028, [],
    [⟨0, 32, .w1s, .basic, (.val 0), .any⟩]⟩,
   -- GPIO_OUTSET1: SET
   ⟨0x02C, [],
    [⟨0, 16, .w1s, .basic, (.val 0), .any⟩]⟩,
   -- GPIO_OUTCLR0: CLR
   ⟨0x030, [],
    [⟨0, 32, .w1c, .basic, (.val 0), .any⟩]⟩,
   -- GPIO_OUTCLR1: CLR
   ⟨0x034, [],
    [⟨0, 16, .w1c, .basic, (.val 0), .any⟩]⟩]

/-- Registers of the GPIO block (R644). -/
def regsGpio1 : List RegSpec :=
  [
   -- GPIO_WAKESTAT0: WAKE
   ⟨0x038, [],
    [⟨0, 32, .w1c, .basic, (.val 0), .any⟩]⟩,
   -- GPIO_WAKESTAT1: WAKE
   ⟨0x03C, [],
    [⟨0, 16, .w1c, .basic, (.val 0), .any⟩]⟩,
   -- GPIO_PIN: FUNC, IEN, ENG, PULL, DRV, OD, WAKE
   ⟨0x100, [(48, 4)],
    [⟨0, 3, .rw, .basic, (.val 0), (.range 0 4)⟩,
     ⟨3, 1, .rw, .basic, (.val 0), .any⟩,
     ⟨4, 3, .rw, .basic, (.val 0), .any⟩,
     ⟨8, 2, .rw, .basic, (.val 0), .any⟩,
     ⟨10, 1, .rw, .basic, (.val 0), .any⟩,
     ⟨11, 1, .rw, .basic, (.val 0), .any⟩,
     ⟨12, 2, .rw, .basic, (.val 0), .any⟩]⟩,
   -- GPIO_ECH: PIN, EDGE
   ⟨0x200, [(16, 4)],
    [⟨0, 6, .rw, .basic, (.val 0), (.range 0 47)⟩,
     ⟨8, 2, .rw, .basic, (.val 0), .any⟩]⟩,
   -- GPIO_OCH: PIN, ACT
   ⟨0x240, [(16, 4)],
    [⟨0, 6, .rw, .basic, (.val 0), (.range 0 47)⟩,
     ⟨8, 2, .rw, .basic, (.val 0), (.range 0 2)⟩]⟩]

@[inherit_doc regsGpio0]
def regsGpio : List RegSpec :=
  regsGpio0 ++ regsGpio1

/-- Registers of the DMA block (R576). -/
def regsDma : List RegSpec :=
  [
   -- DMA_SRC: ADDR
   ⟨0x100, [(8, 32)],
    [⟨0, 32, .rw, .basic, (.val 0), .any⟩]⟩,
   -- DMA_DST: ADDR
   ⟨0x104, [(8, 32)],
    [⟨0, 32, .rw, .basic, (.val 0), .any⟩]⟩,
   -- DMA_CNT: CNT
   ⟨0x108, [(8, 32)],
    [⟨0, 16, .rw, .basic, (.val 0), (.range 1 0xFFFFFFFF)⟩]⟩,
   -- DMA_CFG: SIZE, SINC, DINC, REQ, RING, EN, START
   ⟨0x10C, [(8, 32)],
    [⟨0, 2, .rw, .basic, (.val 0), .any⟩,
     ⟨2, 1, .rw, .basic, (.val 1), .any⟩,
     ⟨3, 1, .rw, .basic, (.val 1), .any⟩,
     ⟨4, 4, .rw, .basic, (.val 0), (.range 0 12)⟩,
     ⟨8, 1, .rw, .basic, (.val 0), .any⟩,
     ⟨9, 1, .rw, .basic, (.val 0), .any⟩,
     ⟨10, 1, .w1s, .basic, (.val 0), .any⟩]⟩,
   -- DMA_STAT: UE, BUSERR, FLUSHED, LEFT
   ⟨0x110, [(8, 32)],
    [⟨0, 1, .w1c, .basic, (.val 0), .any⟩,
     ⟨1, 1, .w1c, .basic, (.val 0), .any⟩,
     ⟨2, 1, .w1c, .basic, (.val 0), .any⟩,
     ⟨16, 16, .ro, .basic, (.val 0), .any⟩]⟩]

/-- Registers of the LIFE block (R425). -/
def regsLife : List RegSpec :=
  [
   -- LIFE_STATE: STATE, DEBUG, ROLLBACK, REDEPLOY, INTENT
   ⟨0x010, [],
    [⟨0, 3, .ro, .basic, (.val 3), .any⟩,
     ⟨3, 1, .ro, .basic, (.val 0), .any⟩,
     ⟨4, 7, .ro, .basic, (.val 0), .any⟩,
     ⟨11, 3, .ro, .basic, (.val 0), .any⟩,
     ⟨14, 1, .ro, .expert, (.val 0), .any⟩]⟩,
   -- LIFE_SLOT: ACTIVE, STA, STB
   ⟨0x014, [],
    [⟨0, 1, .ro, .basic, (.val 0), .any⟩,
     ⟨1, 3, .ro, .basic, (.val 5), .any⟩,
     ⟨4, 3, .ro, .basic, (.val 0), .any⟩]⟩,
   -- LIFE_VERA: VERSION
   ⟨0x018, [],
    [⟨0, 32, .ro, .basic, (.val 0), .any⟩]⟩,
   -- LIFE_VERB: VERSION
   ⟨0x01C, [],
    [⟨0, 32, .ro, .basic, (.val 0), .any⟩]⟩]

/-- Registers of the TEST block (R33 alone). -/
def regsTest : List RegSpec :=
  [
]

/-- Registers of the GNSS block (R116, R217, R265). -/
def regsGnss : List RegSpec :=
  [
   -- GNSS_MODE: MODE, MODE_PEND, ACT_MODE, STRAP
   ⟨0x010, [],
    [⟨0, 3, .rw, .basic, (.val 0), (.range 0 6)⟩,
     ⟨3, 1, .ro, .basic, (.val 0), .any⟩,
     ⟨4, 3, .ro, .basic, (.val 0), .any⟩,
     ⟨7, 1, .ro, .basic, (.val 0), .any⟩]⟩,
   -- GNSS_BURST: PERIOD, WINDOW, SETTLE
   ⟨0x014, [],
    [⟨0, 6, .rw, .basic, (.val 1), (.range 1 60)⟩,
     ⟨8, 8, .rw, .basic, (.val 25), (.range 8 250)⟩,
     ⟨16, 8, .rw, .expert, (.val 10), (.range 5 50)⟩]⟩,
   -- GNSS_STAT: TRACKED, USED, FIX
   ⟨0x018, [],
    [⟨0, 9, .ro, .basic, (.val 0), .any⟩,
     ⟨16, 8, .ro, .basic, (.val 0), .any⟩,
     ⟨24, 1, .ro, .basic, (.val 0), .any⟩]⟩,
   -- GNSS_TOFS: OFS, SRC, NSAT
   ⟨0x020, [(5, 4)],
    [⟨0, 24, .ro, .basic, (.val 0), .any⟩,
     ⟨24, 2, .ro, .basic, (.val 0), .any⟩,
     ⟨26, 6, .ro, .basic, (.val 0), .any⟩]⟩,
   -- GNSS_OSNMA: EN, KEY_OK, CHAIN_OK, TIME_OK, KEY_P521, NAUTH
   ⟨0x040, [],
    [⟨0, 1, .rw, .basic, (.val 1), .any⟩,
     ⟨1, 1, .ro, .basic, (.val 0), .any⟩,
     ⟨2, 1, .ro, .basic, (.val 0), .any⟩,
     ⟨3, 1, .ro, .basic, (.val 0), .any⟩,
     ⟨4, 1, .ro, .basic, (.val 0), .any⟩,
     ⟨8, 8, .ro, .basic, (.val 0), .any⟩]⟩,
   -- GNSS_EPOCHCFG: RATE
   ⟨0x050, [],
    [⟨0, 4, .rw, .basic, (.val 1), (.oneOf [1, 2, 5, 10])⟩]⟩,
   -- GNSS_CONS: EN, HOLD, NEXCL
   ⟨0x060, [],
    [⟨0, 1, .rw, .basic, (.val 1), .any⟩,
     ⟨4, 4, .rw, .expert, (.val 3), (.range 1 0xFFFFFFFF)⟩,
     ⟨8, 8, .ro, .basic, (.val 0), .any⟩]⟩,
   -- GNSS_CONSLIM: PR_LIM, DOP_LIM, CN0_MAX, CN0_DIFF
   ⟨0x064, [],
    [⟨0, 8, .rw, .expert, (.val 30), (.range 1 0xFFFFFFFF)⟩,
     ⟨8, 8, .rw, .expert, (.val 50), (.range 1 0xFFFFFFFF)⟩,
     ⟨16, 8, .rw, .expert, (.val 110), (.range 1 0xFFFFFFFF)⟩,
     ⟨24, 8, .rw, .expert, (.val 24), (.range 1 0xFFFFFFFF)⟩]⟩,
   -- GNSS_EXCL: BERTH
   ⟨0x070, [(8, 4)],
    [⟨0, 32, .ro, .basic, (.val 0), .any⟩]⟩]

/-- Registers of the FRONT block (R117, R264). -/
def regsFront : List RegSpec :=
  [
   -- FRONT_CFG: L1_EN, L5_EN, BIAS_EN, BIAS_SHORT, SUB_EN
   ⟨0x010, [],
    [⟨0, 1, .rw, .expert, (.val 0), .any⟩,
     ⟨1, 1, .rw, .expert, (.val 0), .any⟩,
     ⟨2, 1, .rw, .basic, (.val 0), .any⟩,
     ⟨3, 1, .ro, .basic, (.val 0), .any⟩,
     ⟨8, 5, .rw, .expert, (.val 0), .any⟩]⟩,
   -- FRONT_AGC: GAIN, REF, OCC, OVLD
   ⟨0x020, [(2, 32)],
    [⟨0, 8, .ro, .basic, (.val 0), .any⟩,
     ⟨8, 8, .rw, .expert, (.val 96), .any⟩,
     ⟨16, 8, .ro, .basic, (.val 0), .any⟩,
     ⟨24, 1, .ro, .basic, (.val 0), .any⟩]⟩,
   -- FRONT_JAM: J, DEP, NACT, FLAT, ABOVE
   ⟨0x024, [(2, 32)],
    [⟨0, 8, .ro, .basic, (.val 0), .any⟩,
     ⟨8, 8, .ro, .basic, (.val 0), .any⟩,
     ⟨16, 3, .ro, .basic, (.val 0), .any⟩,
     ⟨24, 6, .ro, .expert, (.val 0), .any⟩,
     ⟨30, 1, .ro, .basic, (.val 0), .any⟩]⟩,
   -- FRONT_JCFG: THR, HYST, EV
   ⟨0x028, [(2, 32)],
    [⟨0, 8, .rw, .basic, (.val 128), (.range 1 0xFFFFFFFF)⟩,
     ⟨8, 8, .rw, .expert, (.val 16), .any⟩,
     ⟨16, 1, .rw, .basic, (.val 1), .any⟩]⟩,
   -- FRONT_NCFG: AUTO, DET
   ⟨0x02C, [(2, 32)],
    [⟨0, 1, .rw, .basic, (.val 1), .any⟩,
     ⟨8, 8, .rw, .expert, (.val 48), (.range 16 160)⟩]⟩,
   -- FRONT_NOTCH: CENTRE, WIDTH, STATE, FIX
   ⟨0x030, [(2, 32), (4, 4)],
    [⟨0, 16, .rw, .expert, (.val 0), .any⟩,
     ⟨16, 8, .rw, .expert, (.val 2), (.range 2 200)⟩,
     ⟨24, 2, .ro, .basic, (.val 0), .any⟩,
     ⟨26, 1, .rw, .expert, (.val 0), .any⟩]⟩]

/-- Registers of the PLAN block (R118). -/
def regsPlan : List RegSpec :=
  [
   -- PLAN_CFG: SYS_EN, ELEV
   ⟨0x010, [],
    [⟨0, 7, .rw, .basic, (.val 127), .any⟩,
     ⟨8, 6, .rw, .basic, (.val 5), (.range 0 45)⟩]⟩,
   -- PLAN_STAT: OCCUPIED, BERTHS, DROPPED
   ⟨0x014, [],
    [⟨0, 8, .ro, .basic, (.val 0), .any⟩,
     ⟨8, 9, .ro, .basic, (.val 0), .any⟩,
     ⟨24, 8, .ro, .basic, (.val 0), .any⟩]⟩,
   -- PLAN_SLOT_SV: SYS, SVN, GLO_K, EL, AZ
   ⟨0x100, [(128, 16)],
    [⟨0, 3, .rw, .expert, (.val 7), .any⟩,
     ⟨4, 8, .rw, .expert, (.val 0), .any⟩,
     ⟨12, 4, .rw, .expert, (.val 0), .any⟩,
     ⟨16, 8, .ro, .expert, (.val 0), .any⟩,
     ⟨24, 8, .ro, .expert, (.val 0), .any⟩]⟩,
   -- PLAN_SLOT_A: SIG, BERTH, STATE
   ⟨0x104, [(128, 16), (3, 4)],
    [⟨0, 4, .rw, .expert, (.val 15), .any⟩,
     ⟨8, 9, .rw, .expert, (.val 0x100), .any⟩,
     ⟨18, 2, .ro, .expert, (.val 0), .any⟩]⟩]

/-- Registers of the LOOKOUT block (R150). -/
def regsLookout : List RegSpec :=
  [
   -- LOOKOUT_CFG: LANES, DEEP, BURST_SEARCH, BUDGET, THRESH
   ⟨0x010, [],
    [⟨0, 5, .rw, .basic, (.val 16), (.range 1 16)⟩,
     ⟨5, 1, .rw, .basic, (.val 1), .any⟩,
     ⟨6, 1, .rw, .basic, (.val 1), .any⟩,
     ⟨8, 6, .rw, .expert, (.val 8), (.range 0 40)⟩,
     ⟨16, 8, .rw, .expert, (.val 60), .any⟩]⟩,
   -- LOOKOUT_STAT: BUSY, QUEUED
   ⟨0x014, [],
    [⟨0, 5, .ro, .basic, (.val 0), .any⟩,
     ⟨8, 8, .ro, .basic, (.val 0), .any⟩]⟩,
   -- LOOKOUT_CNT: HANDOFF, REFUSED, DROPPED
   ⟨0x018, [],
    [⟨0, 12, .rc, .basic, (.val 0), .any⟩,
     ⟨12, 12, .rc, .basic, (.val 0), .any⟩,
     ⟨24, 8, .rc, .basic, (.val 0), .any⟩]⟩,
   -- LOOKOUT_SNAP: MS, GO, BUSY, VALID, RELEASE
   ⟨0x020, [],
    [⟨0, 7, .rw, .basic, (.val 20), (.range 2 125)⟩,
     ⟨8, 1, .w1s, .basic, (.val 0), .any⟩,
     ⟨9, 1, .ro, .basic, (.val 0), .any⟩,
     ⟨10, 1, .ro, .basic, (.val 0), .any⟩,
     ⟨11, 1, .w1s, .basic, (.val 0), .any⟩]⟩,
   -- LOOKOUT_LANE_SIG: SIG, SVN, GLO_K, COH, NONCOH
   ⟨0x100, [(16, 32)],
    [⟨0, 4, .rw, .expert, (.val 15), (.oneOf [0, 3, 5, 8, 9, 12, 13, 15])⟩,
     ⟨4, 8, .rw, .expert, (.val 0), .any⟩,
     ⟨12, 4, .rw, .expert, (.val 0), .any⟩,
     ⟨16, 4, .rw, .expert, (.val 1), (.range 1 10)⟩,
     ⟨20, 11, .rw, .expert, (.val 20), (.range 1 2000)⟩]⟩,
   -- LOOKOUT_LANE_DOP: CENTRE, STEP, BINS
   ⟨0x104, [(16, 32)],
    [⟨0, 16, .rw, .expert, (.val 0), .any⟩,
     ⟨16, 10, .rw, .expert, (.val 0x1f4), (.range 1 1000)⟩,
     ⟨26, 6, .rw, .expert, (.val 25), (.range 1 63)⟩]⟩,
   -- LOOKOUT_LANE_CODE: PHASE, SEG
   ⟨0x108, [(16, 32)],
    [⟨0, 16, .ro, .expert, (.val 0), .any⟩,
     ⟨16, 2, .ro, .expert, (.val 0), .any⟩]⟩,
   -- LOOKOUT_LANE_PEAK: DOPPLER, RATIO, LTHRESH
   ⟨0x10C, [(16, 32)],
    [⟨0, 16, .ro, .expert, (.val 0), .any⟩,
     ⟨16, 8, .ro, .expert, (.val 0), .any⟩,
     ⟨24, 8, .rw, .expert, (.val 60), .any⟩]⟩,
   -- LOOKOUT_LANE_CMD: START, ABORT, SRC, HANDOFF, BERTH, STATE, ERR
   ⟨0x110, [(16, 32)],
    [⟨0, 1, .w1s, .expert, (.val 0), .any⟩,
     ⟨1, 1, .w1s, .expert, (.val 0), .any⟩,
     ⟨2, 1, .rw, .expert, (.val 0), .any⟩,
     ⟨3, 1, .rw, .expert, (.val 1), .any⟩,
     ⟨4, 9, .rw, .expert, (.val 0x100), .any⟩,
     ⟨13, 2, .ro, .expert, (.val 0), .any⟩,
     ⟨15, 1, .ro, .expert, (.val 0), .any⟩]⟩]

/-- Registers of the BERTH block (R156, R161, R164, R171, R174, R181). -/
def regsBerth0 : List RegSpec :=
  [
   -- BERTH_CFG: SIG, SVN, GLO_K, EN, PAIR, BOC, DUMP_EV, LOSS_EV
   ⟨0x010, [],
    [⟨0, 4, .rw, .basic, (.val 15), (.ne 14)⟩,
     ⟨4, 8, .rw, .basic, (.val 0), .any⟩,
     ⟨12, 4, .rw, .basic, (.val 0), .any⟩,
     ⟨16, 1, .rw, .basic, (.val 0), .any⟩,
     ⟨17, 1, .ro, .basic, (.val 0), .any⟩,
     ⟨18, 1, .ro, .basic, (.val 0), .any⟩,
     ⟨19, 1, .rw, .expert, (.val 0), .any⟩,
     ⟨20, 1, .rw, .basic, (.val 1), .any⟩]⟩,
   -- BERTH_ARMS: EL, VEVL
   ⟨0x014, [],
    [⟨0, 7, .rw, .expert, (.val 16), (.range 1 64)⟩,
     ⟨8, 7, .rw, .expert, (.val 32), (.range 1 64)⟩]⟩,
   -- BERTH_INTEG: COH, WIPE, NWIN
   ⟨0x018, [],
    [⟨0, 8, .rw, .expert, (.val 1), (.range 1 200)⟩,
     ⟨8, 2, .rw, .expert, (.val 0), (.range 0 2)⟩,
     ⟨16, 8, .rw, .expert, (.val 20), (.range 1 0xFFFFFFFF)⟩]⟩,
   -- BERTH_LOOP: PLL_BW, PLL_OPEN, FLL_BW, FLL_OPEN, DLL_BW, DLL_OPEN, CAID, PLL_ORD
   ⟨0x01C, [],
    [⟨0, 7, .rw, .expert, (.val 60), (.range 1 120)⟩,
     ⟨7, 1, .rw, .expert, (.val 0), .any⟩,
     ⟨8, 7, .rw, .expert, (.val 40), (.range 1 80)⟩,
     ⟨15, 1, .rw, .expert, (.val 0), .any⟩,
     ⟨16, 8, .rw, .expert, (.val 50), (.range 1 0xFFFFFFFF)⟩,
     ⟨24, 1, .rw, .expert, (.val 0), .any⟩,
     ⟨25, 1, .rw, .expert, (.val 1), .any⟩,
     ⟨26, 1, .rw, .expert, (.val 1), .any⟩]⟩,
   -- BERTH_LOCK: LOCK_THR, PLOCK_THR, LOSS_MS
   ⟨0x020, [],
    [⟨0, 8, .rw, .expert, (.val 80), .any⟩,
     ⟨8, 8, .rw, .expert, (.val 204), .any⟩,
     ⟨16, 12, .rw, .expert, (.val 0x1f4), (.range 10 4000)⟩]⟩,
   -- BERTH_CODE_INC: INC
   ⟨0x024, [],
    [⟨0, 32, .rw, .expert, (.val 0x80000000), .any⟩]⟩,
   -- BERTH_CARR_INC: INC
   ⟨0x028, [],
    [⟨0, 32, .rw, .expert, (.val 0), .any⟩]⟩,
   -- BERTH_LOAD: CODE, CARR, CODE_PEND, CARR_PEND, INC_PEND, LATE
   ⟨0x02C, [],
    [⟨0, 1, .w1s, .expert, (.val 0), .any⟩,
     ⟨1, 1, .w1s, .expert, (.val 0), .any⟩,
     ⟨8, 1, .ro, .expert, (.val 0), .any⟩,
     ⟨9, 1, .ro, .expert, (.val 0), .any⟩,
     ⟨10, 1, .ro, .expert, (.val 0), .any⟩,
     ⟨12, 1, .w1c, .expert, (.val 0), .any⟩]⟩,
   -- BERTH_CODE_SETF: VALUE
   ⟨0x030, [],
    [⟨0, 32, .rw, .expert, (.val 0), .any⟩]⟩,
   -- BERTH_CODE_SETI: CHIP, SEC
   ⟨0x034, [],
    [⟨0, 14, .rw, .expert, (.val 0), .any⟩,
     ⟨16, 11, .rw, .expert, (.val 0), .any⟩]⟩]

/-- Registers of the BERTH block (R161, R171, R174, R181). -/
def regsBerth1 : List RegSpec :=
  [
   -- BERTH_CARR_SET: VALUE
   ⟨0x038, [],
    [⟨0, 32, .rw, .expert, (.val 0), .any⟩]⟩,
   -- BERTH_STAT: STATE, BOND, PLOCK, FLOCK, CLOCK, HALF, SEC_SYNC, BOC_OK, COH_LIM, SIDEJ
   ⟨0x040, [],
    [⟨0, 3, .ro, .basic, (.val 0), .any⟩,
     ⟨3, 1, .ro, .basic, (.val 0), .any⟩,
     ⟨4, 1, .ro, .basic, (.val 0), .any⟩,
     ⟨5, 1, .ro, .basic, (.val 0), .any⟩,
     ⟨6, 1, .ro, .basic, (.val 0), .any⟩,
     ⟨7, 1, .ro, .basic, (.val 0), .any⟩,
     ⟨8, 1, .ro, .basic, (.val 0), .any⟩,
     ⟨9, 1, .ro, .basic, (.val 0), .any⟩,
     ⟨10, 1, .ro, .expert, (.val 0), .any⟩,
     ⟨16, 8, .ro, .expert, (.val 0), .any⟩]⟩,
   -- BERTH_CN0: CN0, LOCKT
   ⟨0x044, [],
    [⟨0, 10, .ro, .basic, (.val 0), .any⟩,
     ⟨16, 16, .ro, .basic, (.val 0), .any⟩]⟩,
   -- BERTH_DISC: CODE, CARR
   ⟨0x048, [],
    [⟨0, 16, .ro, .expert, (.val 0), .any⟩,
     ⟨16, 16, .ro, .expert, (.val 0), .any⟩]⟩,
   -- BERTH_DUMP: SEQ, EPOCH
   ⟨0x04C, [],
    [⟨0, 16, .rs, .basic, (.val 0), .any⟩,
     ⟨16, 16, .rs, .basic, (.val 0), .any⟩]⟩,
   -- BERTH_CODE_PHF: VALUE
   ⟨0x050, [],
    [⟨0, 32, .ro, .expert, (.val 0), .any⟩]⟩,
   -- BERTH_CODE_PHI: CHIP, SEC
   ⟨0x054, [],
    [⟨0, 14, .ro, .expert, (.val 0), .any⟩,
     ⟨16, 11, .ro, .expert, (.val 0), .any⟩]⟩,
   -- BERTH_CARR_PHF: VALUE
   ⟨0x058, [],
    [⟨0, 32, .ro, .expert, (.val 0), .any⟩]⟩,
   -- BERTH_CARR_CYC: VALUE
   ⟨0x05C, [],
    [⟨0, 32, .ro, .expert, (.val 0), .any⟩]⟩,
   -- BERTH_ACC_I: ACC
   ⟨0x060, [(6, 8)],
    [⟨0, 32, .ro, .expert, (.val 0), .any⟩]⟩]

/-- Registers of the BERTH block (R164, R171). -/
def regsBerth2 : List RegSpec :=
  [
   -- BERTH_ACC_Q: ACC
   ⟨0x064, [(6, 8)],
    [⟨0, 32, .ro, .expert, (.val 0), .any⟩]⟩,
   -- BERTH_SIDE: VE_RATIO, VL_RATIO
   ⟨0x090, [],
    [⟨0, 16, .ro, .expert, (.val 0), .any⟩,
     ⟨16, 16, .ro, .expert, (.val 0), .any⟩]⟩]

@[inherit_doc regsBerth0]
def regsBerth : List RegSpec :=
  regsBerth0 ++ regsBerth1 ++ regsBerth2

/-- Registers of the SILLAGE block (R212, R213). -/
def regsSillage0 : List RegSpec :=
  [
   -- SILLAGE_CFG: CLEAR_MS, BITS_EN, SEED_EN, START_DL, MAX_AGE
   ⟨0x010, [],
    [⟨0, 6, .rw, .basic, (.val 6), (.range 2 40)⟩,
     ⟨8, 1, .rw, .basic, (.val 1), .any⟩,
     ⟨9, 1, .rw, .expert, (.val 1), .any⟩,
     ⟨16, 7, .rw, .expert, (.val 20), (.range 1 100)⟩,
     ⟨24, 8, .rw, .expert, (.val 120), (.range 1 0xFFFFFFFF)⟩]⟩,
   -- SILLAGE_LIM: CODE_LIM, DOP_LIM, CODE_TOL, CARR_TOL
   ⟨0x014, [],
    [⟨0, 8, .rw, .expert, (.val 25), (.range 1 0xFFFFFFFF)⟩,
     ⟨8, 8, .rw, .expert, (.val 25), (.range 1 0xFFFFFFFF)⟩,
     ⟨16, 8, .rw, .expert, (.val 25), (.range 1 100)⟩,
     ⟨24, 8, .rw, .expert, (.val 20), (.range 1 50)⟩]⟩,
   -- SILLAGE_STAT: AGE, SEEDED, VALID
   ⟨0x018, [],
    [⟨0, 16, .ro, .basic, (.val 0xffff), .any⟩,
     ⟨16, 9, .ro, .basic, (.val 0), .any⟩,
     ⟨25, 1, .ro, .basic, (.val 0), .any⟩]⟩,
   -- SILLAGE_NEXTS: SEC
   ⟨0x01C, [],
    [⟨0, 32, .ro, .basic, (.val 0), .any⟩]⟩,
   -- SILLAGE_NEXTF: FRAC
   ⟨0x020, [],
    [⟨0, 32, .ro, .basic, (.val 0), .any⟩]⟩,
   -- SILLAGE_CNT: CLEARED, REFUSED, BITFAIL
   ⟨0x024, [],
    [⟨0, 12, .rc, .basic, (.val 0), .any⟩,
     ⟨12, 12, .rc, .basic, (.val 0), .any⟩,
     ⟨24, 8, .rc, .basic, (.val 0), .any⟩]⟩,
   -- SILLAGE_EPOCH: OLDEST, DEPTH
   ⟨0x028, [],
    [⟨0, 16, .ro, .basic, (.val 0), .any⟩,
     ⟨16, 5, .ro, .basic, (.val 0), .any⟩]⟩,
   -- SILLAGE_PSEL: BERTH
   ⟨0x030, [],
    [⟨0, 8, .rw, .expert, (.val 0), .any⟩]⟩,
   -- SILLAGE_PCODE: PHASE
   ⟨0x034, [],
    [⟨0, 32, .ro, .expert, (.val 0), .any⟩]⟩,
   -- SILLAGE_PCARR: PHASE
   ⟨0x038, [],
    [⟨0, 32, .ro, .expert, (.val 0), .any⟩]⟩]

/-- Registers of the SILLAGE block (R213). -/
def regsSillage1 : List RegSpec :=
  [
   -- SILLAGE_PDOP: DOP
   ⟨0x03C, [],
    [⟨0, 32, .ro, .expert, (.val 0), .any⟩]⟩,
   -- SILLAGE_PUNC: CODE_U, DOP_U
   ⟨0x040, [],
    [⟨0, 16, .ro, .expert, (.val 0), .any⟩,
     ⟨16, 16, .ro, .expert, (.val 0), .any⟩]⟩,
   -- SILLAGE_PBITS: BITS, MASK
   ⟨0x044, [],
    [⟨0, 16, .ro, .expert, (.val 0), .any⟩,
     ⟨16, 16, .ro, .expert, (.val 0), .any⟩]⟩]

@[inherit_doc regsSillage0]
def regsSillage : List RegSpec :=
  regsSillage0 ++ regsSillage1

/-- Registers of the MEASQ block (R247). -/
def regsMeasq : List RegSpec :=
  [
   -- MEASQ_CFG: EN, SIZE
   ⟨0x010, [],
    [⟨0, 1, .rw, .basic, (.val 1), .any⟩,
     ⟨4, 4, .rw, .basic, (.val 11), (.range 6 12)⟩]⟩,
   -- MEASQ_BASE: ADDR
   ⟨0x014, [],
    [⟨4, 28, .rw, .basic, (.val 0x2017000), .any⟩]⟩,
   -- MEASQ_HEAD: IDX
   ⟨0x018, [],
    [⟨0, 12, .ro, .basic, (.val 0), .any⟩]⟩,
   -- MEASQ_TAIL: IDX
   ⟨0x01C, [],
    [⟨0, 12, .rw, .basic, (.val 0), .any⟩]⟩,
   -- MEASQ_STAT: DROPPED, LAST
   ⟨0x020, [],
    [⟨0, 16, .rc, .basic, (.val 0), .any⟩,
     ⟨16, 16, .ro, .basic, (.val 0), .any⟩]⟩,
   -- MEASQ_FIX0: WORD
   ⟨0x040, [],
    [⟨0, 32, .rs, .basic, (.val 0), .any⟩]⟩,
   -- MEASQ_FIX: WORD
   ⟨0x044, [(15, 4)],
    [⟨0, 32, .ro, .basic, (.val 0), .any⟩]⟩]

/-- Registers of the BITLOG block (R248). -/
def regsBitlog : List RegSpec :=
  [
   -- BITLOG_CFG: EN, SIZE
   ⟨0x010, [],
    [⟨0, 1, .rw, .basic, (.val 1), .any⟩,
     ⟨4, 4, .rw, .basic, (.val 11), (.range 6 12)⟩]⟩,
   -- BITLOG_BASE: ADDR
   ⟨0x014, [],
    [⟨4, 28, .rw, .basic, (.val 0x2017800), .any⟩]⟩,
   -- BITLOG_HEAD: IDX
   ⟨0x018, [],
    [⟨0, 12, .ro, .basic, (.val 0), .any⟩]⟩,
   -- BITLOG_TAIL: IDX
   ⟨0x01C, [],
    [⟨0, 12, .rw, .basic, (.val 0), .any⟩]⟩,
   -- BITLOG_STAT: DROPPED
   ⟨0x020, [],
    [⟨0, 16, .rc, .basic, (.val 0), .any⟩]⟩]

/-- The register table of a block kind. -/
def BlockKind.regs : BlockKind → List RegSpec
  | .sysctl => regsSysctl
  | .pwr => regsPwr
  | .clk => regsClk
  | .harv => regsHarv
  | .man => regsMan
  | .evr => regsEvr
  | .memctl => regsMemctl
  | .logs => regsLogs
  | .tide => regsTide
  | .tp => regsTp
  | .rtc => regsRtc
  | .uart => regsUart
  | .i2ct => regsI2ct
  | .spi => regsSpi
  | .lgt => regsLgt
  | .adc => regsAdc
  | .touch => regsTouch
  | .crypto => regsCrypto
  | .gpio => regsGpio
  | .dma => regsDma
  | .life => regsLife
  | .test => regsTest
  | .gnss => regsGnss
  | .front => regsFront
  | .plan => regsPlan
  | .lookout => regsLookout
  | .berth => regsBerth
  | .sillage => regsSillage
  | .measq => regsMeasq
  | .bitlog => regsBitlog

end Sys2Proof.Machine
end

