-- ==== Sys2Proof/Machine/State.lean ====
section
/-! DEFINITION. The state of the device as plain data, the reasons a step can stop, and the state after reset. -/

namespace Sys2Proof.Machine

/-- A sparse store: pairs of a key and a value, keys strictly rising, no pair equal to what an unlisted key reads. -/
abbrev Store (α : Type) := List (Nat × α)

/-- What happens once the final byte of a device line has left (R78, R86, R673). -/
inductive AfterSent where
  | nothing
  | baud (rate : Option Nat)
  | mode (typed : Bool)
  | dialect (heritage : Bool)
  deriving DecidableEq, Repr

/-- A device line in an output queue: its stream's priority (R74), the class of a notice, the epoch of an NMEA
sentence, its text with the terminator, and what its leaving brings. -/
structure OutLine where
  prio : Nat
  cls : Nat
  epoch : Nat
  text : String
  after : AfterSent
  deriving DecidableEq, Repr

/-- A complete host line that waits for execution (R50): its kept characters, its count (R56), whether a byte made
it invalid (R57), and whether its first character was lost at a wake (R76). -/
structure HostLine where
  text : List Char
  count : Nat
  bad : Bool
  lost : Bool
  deriving DecidableEq, Repr

/-- A console session (R48): mode, session level, CHECK, notice class, the partial line (each kept
character with whether it was echoed), the output queue and what
waits to enter it, what was dropped from it (R75), and the text last put on the transport. -/
structure Session where
  typed : Bool
  expert : Bool
  check : Bool
  notice : Nat
  line : List (Char × Bool)
  count : Nat
  bad : Bool
  lost : Bool
  out : List OutLine
  stalled : List OutLine
  echo : String
  atPrompt : Bool
  lostNmea : Nat
  lostNotice : Nat
  dropEpoch : Option Nat
  pendMode : Option Bool
  wire : String
  deriving DecidableEq, Repr

/-- What the console keeps beside its sessions: the waiting lines in the order in which their terminators arrived
(R49), the tag of the line in execution (R65), the dialect (R86), autobaud and the rate of UART0 (R77, R78), the
sessions that were answered PENDING (R79), and the characters that wait to leave on UART1 (R242, R282). -/
structure Console where
  uart0 : Session
  i2c : Session
  quay : Session
  waiting : List (Sess × HostLine)
  tag : String
  heritage : Bool
  autobaud : Bool
  lastCr : Option Nat
  rate : Nat
  pendRate : Option (Option Nat)
  awaitOwn : List (Block × Sess)
  port1 : List Char
  deriving DecidableEq, Repr

/-- A manifest record (R507), with the order of its formation. -/
structure Rec where
  src : Nat
  cls : Nat
  lostb : Bool
  late : Bool
  seq : Nat
  sec : Nat
  frac : Nat
  w2 : Nat
  w3 : Nat
  ord : Nat
  deriving DecidableEq, Repr

/-- A ring slot in use: its record, and whether the record is still held (R516). -/
structure RingSlot where
  entry : Rec
  held : Bool
  deriving DecidableEq, Repr

/-- A manifest's queues (R513, R514): the slots in use, oldest first, the index of the next slot, the reserve, the
pending LOSTB (R517), the moderation time-out (R520), and the count of records formed. -/
structure ManQueue where
  ring : List RingSlot
  next : Nat
  reserve : List Rec
  lostb : Bool
  timedOut : Bool
  formed : Nat
  deriving DecidableEq, Repr

/-- A result in flight: its destination (general register r as r, special register s as 32 + s), its value, the
positions of its window that remain (R440), and whether the divider makes it (R443). -/
structure InFlight where
  dest : Nat
  value : Word
  left : Nat
  div : Bool
  deriving DecidableEq, Repr

/-- A core (R426, R445): general registers, the address of the next word, the address that follows the delay slot,
results in flight, special registers, the cycle count with the captured high half, Doze (R452), NMI pending (R450),
and the registers as they were before a paired word whose slot A has run (R435). -/
structure Core where
  g : Store Word
  pc : Word
  delay : Option Word
  flight : List InFlight
  s : Store Word
  cycle : Nat
  cycleHi : Word
  doze : Bool
  nmi : Bool
  pair : Option (Store Word × List InFlight)
  deriving DecidableEq, Repr

/-- A run of word stores by one master through a block (R468): the bank, the block, the next word expected, and the
report its internal read would make if the run ends early (0 none, 1 corrected, 2 uncorrectable). -/
structure StoreRun where
  master : Nat
  bank : Nat
  block : Nat
  next : Nat
  report : Nat
  deriving DecidableEq, Repr

/-- The Tide counter (R267 to R281): the time in units of 2^-56 s, the time counted since reset without steps, whether
the always-on section carries it (R275) and a wake alignment is due, a pending step in 2^-56 s and the scale change it
applies as new and old code (R270, R273), the integrator in 2^-40 as an exact fraction (R278), the sources in their
validity time as bits (R277), the count at each source's last measurement, whether GNSS or STT, or any source, has
disciplined it since boot, whether the RTC set it, the error estimate in ns before saturation (R280), the count at
the last accepted TPIN pulse (R281), and the last broadcast leap value (R274). -/
structure TideState where
  now : Nat
  up : Nat
  carried : Bool
  alignDue : Bool
  step : Option Int
  scaleStep : Option (Nat × Nat)
  intNum : Int
  intDen : Nat
  valid : Nat
  lastAt : List (Option Nat)
  abs : Bool
  disc : Bool
  fromRtc : Bool
  err : Nat
  lastPps : Option Nat
  bcast : Option Int
  deriving DecidableEq, Repr

/-- The time pulse (R286 to R291): the settings in effect (period in 2^-32 s, width in ticks, delay in quarter-ns,
polarity, policy, scale), the index of the next pulse, and the width in ticks of the pulse in progress. -/
structure TpState where
  period : Nat
  width : Nat
  delay : Int
  pol : Bool
  policy : Bool
  scale : Nat
  next : Nat
  pulse : Option Nat
  deriving DecidableEq, Repr

/-- An open exchange of the serial time transfer (R283): its number, t2, and t1 and t3 once `TT DREQ` has been sent,
in 2^-32 s. -/
structure Exchange where
  n : Nat
  t2 : Int
  sent : Option (Int × Int)
  deriving DecidableEq, Repr

/-- Serial time transfer (R282 to R284): the open exchange, the delays of the last eight accepted exchanges in quarter-ns,
newest first. -/
structure TtState where
  open_ : Option Exchange
  delays : List Nat
  deriving DecidableEq, Repr

/-- The backup domain beside its registers (R298 to R322): BINARY (40 bits), CALENDAR as the count of seconds since
2000-01-01 (R302 lets the two part), the prescaler, the set that waits for the next boundary, the shift that waits, the
counts of a running shift with the edges it has run over, what the discipline still does after its set (clear OSF, a
shift in 1/32768 s, R320), and the snapshots of the APP and the CONSOLE side. -/
structure RtcState where
  bin : Nat
  cal : Nat
  pre : Nat
  setPend : Bool
  shiftPend : Bool
  shift : Option Int
  edges : Nat
  clearOsf : Bool
  after : Option Int
  snapApp : Option (List Nat)
  snapCon : Option (List Nat)
  deriving DecidableEq, Repr

/-- A request to the log store (R490 to R506): the owner's three commands, a console write of bytes from an offset of a
page, a new BP, a system record, and the erase of the next save's targets. Console requests carry the session and tag
of their reply; a BP that the owner wrote to LOGS_PROT has none. -/
inductive LogReq where
  | prog | twinWr | twinRd
  | bytes (page ofs : Nat) (l : List Nat) (x : Sess) (tag : String)
  | protect (bp : Nat) (who : Option (Sess × String))
  | entry
  | erase
  deriving DecidableEq, Repr

/-- The operation in progress (R491): its request, the target page, the resulting page, the result code it will give,
whether step 3 has begun, and the count at which it started. -/
structure LogRun where
  req : LogReq
  page : Nat
  bytes : List Byte
  result : Nat
  third : Bool
  at_ : Nat
  deriving DecidableEq, Repr

/-- The hidden header of a journal page (R491): the page's place in the ring, the target page, the sequence, and whether
its CRC passes. -/
structure JournalHead where
  pos : Nat
  target : Nat
  seq : Nat
  valid : Bool
  deriving DecidableEq, Repr

/-- The log store beside its array and registers (R487 to R504): the operation in progress, the requests that wait, in
order, the journal headers, the program counts of the pages, the stored BP, and the lineage epoch anchor, a twin record of
the system area (R240). -/
structure LogStore where
  op : Option LogRun
  queue : List LogReq
  heads : List JournalHead
  counts : Store Nat
  bp : Nat
  anchor : Option Nat
  deriving DecidableEq, Repr

/-- Who asked for a signature (R616, R620): the automatic signing of fixes, a session's `SIGN FIX NOW`, or a session's
`SIGN ATTEST` with its nonce. Sessions carry the tag of their reply. -/
inductive SignFor where
  | auto
  | now (x : Sess) (tag : String)
  | attest (x : Sess) (tag : String) (nonce : List Byte)
  deriving DecidableEq, Repr

/-- A signing request (R615 to R621): who asked, the epoch and the 96-byte body of a fix (its counters not yet filled
in), and the SSEQ once one is assigned. -/
structure SignReq where
  who : SignFor
  epoch : Nat
  body : List Byte
  sseq : Option Nat
  deriving DecidableEq, Repr

/-- The crypto island beside its registers (R608 to R622): the queue, the request in signing with its final body, a
derivation that is needed or runs, the mirrored fix, the fix records counted for DIV, the last signed fix with its
signature and epoch, BOOTN and the tamper count of the log store, and SSEQ of the AON bank. -/
structure CryptoState where
  queue : List SignReq
  run : Option SignReq
  deriving_ : Bool
  mirror : Option (Nat × List Byte)
  count : Nat
  last : Option (Nat × List Byte × List Byte)
  bootn : Nat
  tamper : Nat
  sseq : Nat
  deriving DecidableEq, Repr

/-- The power manager (R333 to R358): the sleep depth (0 awake, 1 Top-note, 2 Heart-note, 3 Base-note), the wake
sources pending, the next wake sequence number, the manifest sources and watch flags latched in sleep (R519), the step
of the power-down sequence (0 none, 1 grace, 2 save), whether the VBAT brown-out reset is asserted and whether it let
VHOLD fall below 2.15 V, whether the application core is held or stopped, the domains to be switched off at their next
quiet point (R349), and the time at which the application core's watchdog count was last restarted (R404). -/
structure Power where
  depth : Nat
  latched : Nat
  wakeSeq : Nat
  heldSrc : List Nat
  bor : Nat
  borArmed : Bool
  vbor : Bool
  vholdLost : Bool
  appHeld : Bool
  offPend : Nat
  served : Nat
  deriving DecidableEq, Repr

/-- The harvester (R364 to R378): the class of the next request, whether a request may begin (after a cut BPREQ must go
low first), the class energy of the grant in progress, the overcurrent trips without conduction between them, cold start in
progress, and what keeps the store disconnected: undervoltage (bit 0), overcurrent (bit 1). -/
structure Harvester where
  cls : Option Nat
  ready : Bool
  grantE : Nat
  trips : Nat
  cold : Bool
  off : Nat
  deriving DecidableEq, Repr

/-- The clock sources that are being retried (R395), as bits of their source codes (R388); and the monitors that have
completed a window since they last started (R394), as bits. -/
structure Clocks where
  retried : Nat
  counted : Nat
  deriving DecidableEq, Repr

/-- The fuses (R419), as the number of blown cells of each logical fuse's pair. -/
structure Fuses where
  test : Nat
  provisioned : Nat
  deployed : Nat
  scrapped : Nat
  ret : List Nat
  redeploy : List Nat
  rollback : Nat
  keyHash : List Nat
  deriving DecidableEq, Repr

/-- An image load in progress (R413): its session, its length, the offset of the next byte. -/
structure ImageLoad where
  sess : Sess
  length : Nat
  at_ : Nat
  deriving DecidableEq, Repr

/-- Lifecycle and images: fuses, the intent record (R422), the progress records of the slots (R414: length recorded and
bytes written of an INCOMPLETE slot), the slot select and the slot marked NEXT, the load in progress, the confirmation
code (R84), and the boot record (R407). -/
structure Life where
  fuses : Fuses
  intent : Option Nat
  progress : List (Nat × Nat × Nat)
  active : Nat
  next : Bool
  load : Option ImageLoad
  code : Nat
  record : Option (Nat × List Nat × Nat)
  deriving DecidableEq, Repr

/-- A handoff of the Lookout (R138, R139): code phase in 1/16 cell, GAL-E1 segment, Doppler in Hz, ratio in 0.25 dB, and
the Tide time of the first block; its uncertainty box, in 1/16 cell and 1/4 Hz either side; and of its search the order, rank,
time of queueing, and whether it must be cold. -/
structure Handoff where
  phase : Nat
  seg : Nat
  dop : Int
  ratio : Nat
  at_ : Nat
  codeBox : Nat
  dopBox : Nat
  order : Nat
  rank : Nat
  since : Nat
  cold : Bool
  deriving DecidableEq, Repr

/-- An increment staged by the owner (R169): its value, and whether it missed its first boundary. -/
structure Staged where
  value : Nat
  late : Bool
  deriving DecidableEq, Repr

/-- The ways a berth starts (R175). -/
inductive StartKind where
  | seed | handoff | partner
  deriving DecidableEq, Repr

/-- A berth beside its registers (R157 to R200): the signal, satellite and channel that wait for its quiet point; its current
start with its number, its Tide time and whether it is cleared; whether the basis used a prediction and the cause of a failed
symbol in it; whether the start's symbols were all equal to, or all inverse of, their predictions (R199); HADJ, the polarity of
the last preamble and whether every unit since passed (R228); the word whose failure masks its predictions (R200); refused
starts in a row, and whether one was refused in this burst window (R203); a pending handoff, the one the start took, and the
pull-in range it gave the FLL in 1/4 Hz (R139); the dwell of a partner sweep; the plan entries it leaves at its quiet point
(R110, R184); the Tide times of the last dump boundary and of the next; staged increments, loads, ARMS and LOOP words (true:
late); a side-peak move that awaits the boundary, towards VL or not (R164); the phases at the last dump boundary (chip
fraction, chip, position, carrier in 2^-32 cycle); the accumulators and side-peak ratios, DUMP.SEQ and EPOCH, all as they stand
outside the snapshot of R156; the increments before the loop unit's last write; the powers of the five arms over the basis and
over the side-peak check; the discriminators of the last NWIN dumps, newest first (FLL in mHz, cos 2φ of the prompt in 2^-16,
code in 1/4096 chip); the lock time and the time below LOCK_THR in ms. -/
structure BerthState where
  next : Option (Nat × Nat × Nat)
  kind : Option StartKind
  serial : Nat
  startAt : Nat
  cleared : Bool
  predicted : Bool
  fail : Nat
  direct : Bool
  inverse : Bool
  hadj : Bool
  preamble : Option Bool
  passed : Bool
  masked : Option Nat
  refused : Nat
  barred : Bool
  hand : Option Handoff
  took : Option Handoff
  pullIn : Nat
  dwell : Option Nat
  leaving : List (Nat × Nat)
  lastAt : Nat
  due : Option Nat
  arms : Option Staged
  loop : Option Staged
  move : Option Bool
  codeInc : Option Staged
  carrInc : Option Staged
  loadCode : Option Bool
  loadCarr : Option Bool
  codeF : Nat
  chip : Nat
  sec : Nat
  carr : Int
  accs : List Nat
  side : Nat × Nat
  prevCode : Nat
  prevCarr : Int
  seq : Nat
  epoch : Nat
  sums : List Nat
  sideSums : List Nat
  hist : List (Int × Int × Int)
  lockMs : Nat
  lowMs : Nat
  deriving DecidableEq, Repr

/-- A signal that needs a search (R133): signal, satellite, channel and berth, its order and rank, the code cell and
Doppler it must exclude (R141), whether an aid started it (R137), whether it must be cold, and the next section of a deep
search (R129) with the bins that all sections cover; the uptime of a loss of lock, for order 1; and the lane time it still needs
in 1/25 ms (R124). -/
structure Search where
  sig : Nat
  sys : Nat
  svn : Nat
  k : Nat
  berth : Nat
  order : Nat
  rank : Nat
  excl : Option (Nat × Int)
  aided : Bool
  cold : Bool
  deep : Option (Nat × Nat)
  since : Nat
  left : Nat
  deriving DecidableEq, Repr

/-- An entry of a measurement epoch (R188, R222): its epoch, berth and start, its words' values, and its fate: in bond,
refused, and the cause of a failed symbol in its basis. -/
structure Entry where
  epoch : Nat
  berth : Nat
  serial : Nat
  sig : Nat
  sys : Nat
  svn : Nat
  k : Nat
  pr : Nat
  cp : Int
  dop : Int
  cn0 : Nat
  lockt : Nat
  mp : Nat
  half : Bool
  bond : Bool
  refused : Bool
  fail : Nat
  deriving DecidableEq, Repr

/-- A navigation unit as logged (R230, R231): its berth, start, signal and satellite, its epoch, its place in the bit log
(none if it was dropped), its ST, and the unit. -/
structure LoggedUnit where
  berth : Nat
  serial : Nat
  sig : Nat
  sys : Nat
  svn : Nat
  k : Nat
  epoch : Nat
  index : Option Nat
  st : Nat
  u : NavUnit
  deriving DecidableEq, Repr

/-- What the front keeps of a band beside its registers (R251 to R258): the GAIN of the reports of the present basis with their
number; the fraction of REF in 2^-16 of its step; whether a notch was locked in the epoch; whether the input was powered at tE;
for each notch the spectra (in the burst modes, windows) for which its tone stayed below DET, and whether it rose above DET in
this window; and the reports for which OCC stayed above 50 % with GAIN at 0, and below 25 %. -/
structure FrontBand where
  gainSum : Nat
  gainN : Nat
  frac : Nat
  locked : Bool
  on : Bool
  calm : List Nat
  seen : List Bool
  hot : Nat
  cool : Nat
  deriving DecidableEq, Repr

/-- NMEA output (R242): on, its port, the sentences as bits in the order of `NMEA SET`, the rate, and the epochs since the
last set. -/
structure NmeaState where
  on : Bool
  port : NmeaPort
  set : Nat
  rate : Nat
  count : Nat
  deriving DecidableEq, Repr

/-- The receiver beside its registers (R87 to R265): the berths; the search queue, the searches of the lanes and the recording
(streams and ms); the capture in progress (ms, Tide time, Tide state); a pending restart; the aid with its uptime; the entries
of open and unsettled epochs; whether the RF settles for a burst window, whether one is open, and its tW; RATE in effect
(R217); the uptime of the last replan and whether a change calls for one (R104); the last epoch identifier, its tE, whether it
is open, whether its solution is still to come, and the last closed epoch with its tE; the epochs of whose provisional branch a
checkpoint is held, oldest first (R206); LOST of the next header; the rings in effect (block and size exponent); logged units,
and those held in the ephemeris and almanac store; OSNMA data-set states and the tags that wait for time; NMEA; the last fix
with FTYPE 1 or more with its time; the time of the last 3D fix with its squared speed in cm/s and its position; the
predictions held; the excluded berths with their clean epochs; notch writes that wait (band, notch, centre, width, fixed); the
tones reported, each with its uptime; and the two bands of the front. -/
structure GnssState where
  berths : Store BerthState
  queue : List Search
  lanes : List (Nat × Search)
  recording : Option (List Nat × Nat)
  capture : Option (Nat × Nat × Nat)
  restart : Option Restart
  aid : Option (Aid × Nat)
  entries : List Entry
  settling : Bool
  window : Bool
  tw : Nat
  rate : Nat
  planAt : Option Nat
  replanDue : Bool
  epoch : Option Nat
  te : Nat
  opened : Bool
  solving : Bool
  checks : List Nat
  closed : Option (Nat × Nat)
  lost : Bool
  measq : Nat × Nat
  bitlog : Nat × Nat
  units : List LoggedUnit
  store : List LoggedUnit
  osnma : List TagResult
  tags : List TagResult
  nmea : NmeaState
  fix : Option (List Nat)
  fixAt : Nat
  fix3 : Option (Nat × Nat × Int × Int × Int)
  preds : List Pred
  excl : List (Nat × Nat)
  notches : List (Nat × Nat × Int × Nat × Bool)
  full : List (Nat × Int × Nat)
  front1 : FrontBand
  front5 : FrontBand
  deriving DecidableEq, Repr

/-- The pads beside their registers (R635, R640 to R648): the levels driven from outside and the pins on which one has been
seen, the levels and directions that lighters gave FUNC 2 pins, the levels `TEST PIN` forces (0, 1, 2 for Z), the TAP
instruction, the boundary register's outputs, what the selected data register captured, and the levels the logic sees while
EXTEST, CLAMP or HIGHZ is selected. -/
structure Pads where
  ext : Nat
  known : Nat
  level : Nat
  dir : Nat
  forced : Store Nat
  tap : TapInstr
  boundary : Nat
  captured : Nat
  seen : Option Nat
  deriving DecidableEq, Repr

/-- A lighter beside its registers (R534): its FIFOs, oldest word first, and its trigger latch. -/
structure Engine where
  tx : List Nat
  rx : List Nat
  latch : Bool
  deriving DecidableEq, Repr

/-- Where a UART stands in a line (R564): before the first character since it was enabled, after CR or LF, or elsewhere. -/
inductive LinePlace where
  | first | afterEol | inside
  deriving DecidableEq, Repr

/-- A UART beside its registers (R556 to R567): RX characters with their flags as DATA shows them, TX characters, where each
direction stands in a line, whether the receiver's last tick read high (R557, R560), the fractions of the live stamps, the CFG,
BAUD and TIMING words that wait for the quiet point, whether a loss was reported since STAT was read, and the Tide time of the
last waking edge (R76). -/
structure Uart where
  rx : List Nat
  tx : List Nat
  rxPlace : LinePlace
  txPlace : LinePlace
  high : Bool
  rxFrac : Nat
  txFrac : Nat
  pend : List (Nat × Nat)
  lossSeen : Bool
  wakeAt : Option Nat
  deriving DecidableEq, Repr

/-- Whom an I²C transfer serves (R568, R569). -/
inductive I2cServe where
  | console | permit | fifo
  deriving DecidableEq, Repr

/-- The I²C target beside its registers (R568 to R572): RX bytes with FIRST and AIDX, TX bytes, whom the present transfer
serves, its address index, whether its next byte is the first, and the console characters that wait to be read. -/
structure I2ct where
  rx : List Nat
  tx : List Nat
  serve : Option I2cServe
  aidx : Nat
  first : Bool
  stream : List Char
  deriving DecidableEq, Repr

/-- An SPI port beside its registers (R573, R574): its FIFOs, the frames a host transfer still moves, and whether an ABORT
waits for the frame in progress. -/
structure Spi where
  rx : List Nat
  tx : List Nat
  left : Nat
  abort : Bool
  deriving DecidableEq, Repr

/-- A DMA channel beside its registers (R575, R576): SRC, DST and CNT as the block began, units moved, and a triggered unit
that is unfinished (R527). -/
structure Dma where
  src : Nat
  dst : Nat
  cnt : Nat
  moved : Nat
  trig : Bool
  deriving DecidableEq, Repr

/-- The settings a running sequence keeps (R587). -/
structure AdcRun where
  mode : Nat
  align : Bool
  pack : Bool
  len : Nat
  seq : List Nat
  deriving DecidableEq, Repr

/-- The ADC beside its registers (R577 to R592): the FIFO, the running sequence with the frames that remain (none: without
end) and the results of the present frame, a stop that waits, the first half of a packed word, whether this sequence
reported an unsettled reference, and the `ADC READ?` in progress with its session, tag, channel and the mode to restore. -/
structure AdcState where
  fifo : List Nat
  run : Option AdcRun
  frames : Option Nat
  pos : Nat
  stop : Bool
  half : Option Nat
  refSeen : Bool
  read : Option (Sess × String × Nat × Nat)
  deriving DecidableEq, Repr

/-- A key beside its registers (R598): consecutive scans at or below -NEGTH, consecutive scans at or above THR, scans since
the last drift step, and the uptime at which the key became ON. -/
structure KeyCount where
  neg : Nat
  deb : Nat
  drift : Nat
  since : Option Nat
  deriving DecidableEq, Repr

/-- The settings a scan keeps (R595): MODE, PULSES, THR, HYST, BLRATE, ONDEB, NEGTH, the electrode words and the group words. -/
structure ScanSet where
  mode : Nat
  pulses : Nat
  thr : Nat
  hyst : Nat
  blrate : Nat
  ondeb : Nat
  negth : Nat
  elec : List Nat
  groups : List Nat
  deriving DecidableEq, Repr

/-- The reference record of the log store (R602): MODE, PULSES, the electrode map and the raw counts. -/
structure TouchRef where
  mode : Nat
  pulses : Nat
  elec : List Nat
  raw : List Nat
  deriving DecidableEq, Repr

/-- The touch controller beside its registers (R593 to R607): counts of the keys, the scan in progress with the segments that
remain and the counts taken, whether it runs late, whether the next scan is the first since ANA powered on, a REBASE and a
self-test that wait (the test with the session and tag it answers), the reference record, and the proximity front end's
consecutive hits, drift count and whether it has a baseline. -/
structure TouchState where
  keys : Store KeyCount
  scan : Option ScanSet
  segs : List Nat
  raws : Store Nat
  late : Bool
  first : Bool
  rebase : Bool
  test : Option (Option (Sess × String))
  ref : Option TouchRef
  proxHits : Nat
  proxDrift : Nat
  proxBase : Bool
  deriving DecidableEq, Repr

/-- The memories beside their contents and registers (R470, R474, R481, R483): by word of the AON and the secure bank, the
consecutive Dredger passes with a correctable data error and the last such pass; the words remapped; whether the wipe in
progress reports its end; the block the Dredger reads next; and, as bits of the regions of R465, the memories that lost their
contents and are not initialised since, whose unlisted blocks read as uncorrectable. -/
structure MemState where
  streak : Store (Nat × Nat)
  remapAon : List Nat
  remapSec : List Nat
  wipeReport : Bool
  dpos : Nat
  bad : Nat
  deriving DecidableEq, Repr

/-- The state of the device. -/
structure State where
  /-- Commands that wait, first in, first out: the model's own queue. -/
  pending : List Instr
  /-- The index of the next free value: the model's own. -/
  free : Nat
  /-- The register fields, by key, at their reset values where unlisted. -/
  regs : Store Nat
  /-- The bytes of the memories of R42 and R456. -/
  mem : List Host.Cell
  /-- The check bits of protected blocks (R461), by block number; 2^24 and above always read as uncorrectable. Unlisted
  blocks of a memory marked in `mems.bad` read so, others as blocks of zeros. -/
  chk : Store Nat
  /-- Word-store runs in progress (R468). -/
  runs : List StoreRun
  /-- Blocks whose correction waits for a free cycle (R464). -/
  wbacks : List Nat
  /-- The data the last register or bus read returned: the model's own. -/
  busData : Word
  app : Core
  sys : Core
  console : Console
  manApp : ManQueue
  manSys : ManQueue
  tide : TideState
  tp : TpState
  tt : TtState
  rtc : RtcState
  logs : LogStore
  crypto : CryptoState
  power : Power
  harv : Harvester
  clk : Clocks
  life : Life
  gnss : GnssState
  pads : Pads
  lgt : Store Engine
  uarts : Store Uart
  i2ct : I2ct
  spis : Store Spi
  dma : Store Dma
  adc : AdcState
  touch : TouchState
  /-- The bank that `TEST MEM` is testing (R83). -/
  memTest : Option Nat
  mems : MemState
  deriving DecidableEq, Repr

/-- The reasons of a fault. None is raised: the device ends a bad access with a bus error and goes on (R13). -/
inductive Fault where
  /-- Raised by no meaning; safe. -/
  | never
  deriving DecidableEq, Repr

/-- The reasons of a refusal. -/
inductive Refusal where
  /-- Raised by an arm of the dispatch for a command that has no meaning yet; safe. -/
  | notModelled (mnemonic : String)
  deriving DecidableEq, Repr

/-- A session after reset (R47, R48, R67, R73, R80). -/
def Session.reset (typed : Bool) : Session :=
  { typed := typed, expert := false, check := false, notice := 1, line := [], count := 0, bad := false,
    lost := false, out := [], stalled := [], echo := "", atPrompt := false, lostNmea := 0, lostNotice := 0,
    dropEpoch := none, pendMode := none, wire := "" }

/-- The console after reset (R47, R77). -/
def Console.reset : Console :=
  { uart0 := Session.reset true, i2c := Session.reset false, quay := Session.reset false, waiting := [], tag := "",
    heritage := false, autobaud := true, lastCr := none, rate := 115200, pendRate := none, awaitOwn := [], port1 := [] }

/-- A manifest's queues after reset (R678). -/
def ManQueue.reset : ManQueue :=
  { ring := [], next := 0, reserve := [], lostb := false, timedOut := false, formed := 0 }

/-- A core after reset, at its entry point (R445). -/
def Core.reset (entry : Word) : Core :=
  { g := [], pc := entry, delay := none, flight := [], s := [], cycle := 0, cycleHi := 0, doze := false, nmi := false,
    pair := none }

/-- The Tide counter after reset (R271 with OSF set, R296). -/
def TideState.reset : TideState :=
  { now := 0, up := 0, carried := false, alignDue := false, step := none, scaleStep := none, intNum := 0, intDen := 1,
    valid := 0, lastAt := [none, none, none], abs := false, disc := false, fromRtc := false, err := 0xFFFFFFFF,
    lastPps := none, bcast := none }

/-- The time pulse after reset (R297). -/
def TpState.reset : TpState :=
  { period := 0x100000000, width := 32000000, delay := 0, pol := false, policy := false, scale := 0, next := 0,
    pulse := none }

/-- Serial time transfer after reset. -/
def TtState.reset : TtState := { open_ := none, delays := [] }

/-- The backup domain after its own reset (R303). -/
def RtcState.reset : RtcState :=
  { bin := 0, cal := 631152000, pre := 0, setPend := false, shiftPend := false, shift := none, edges := 0,
    clearOsf := false, after := none, snapApp := none, snapCon := none }

/-- The log store of a blank part (R505). -/
def LogStore.reset : LogStore := { op := none, queue := [], heads := [], counts := [], bp := 0, anchor := some 2300 }

/-- The crypto island after reset. -/
def CryptoState.reset : CryptoState :=
  { queue := [], run := none, deriving_ := false, mirror := none, count := 0, last := none, bootn := 0, tamper := 0,
    sseq := 0 }

/-- The power manager after a power-on reset. -/
def Power.reset : Power :=
  { depth := 0, latched := 0, wakeSeq := 0, heldSrc := [], bor := 0, borArmed := false, vbor := false,
    vholdLost := false, appHeld := true, offPend := 0, served := 0 }

/-- The harvester after a power-on reset. -/
def Harvester.reset : Harvester := { cls := none, ready := true, grantE := 0, trips := 0, cold := false, off := 0 }

/-- The fuses of a DEPLOYED part (DESIGN CHOICE: the fuses are the part's own). -/
def Fuses.reset : Fuses :=
  { test := 2, provisioned := 2, deployed := 2, scrapped := 0, ret := [], redeploy := [], rollback := 0, keyHash := [] }

/-- Lifecycle and images before the first boot. -/
def Life.reset : Life :=
  { fuses := Fuses.reset, intent := none, progress := [], active := 0, next := false, load := none, code := 0,
    record := none }

/-- The berth after reset. -/
def BerthState.reset : BerthState :=
  { next := none, kind := none, serial := 0, startAt := 0, cleared := false, predicted := false, fail := 0, direct := true,
    inverse := true, hadj := false, preamble := none, passed := true, masked := none, refused := 0, barred := false,
    hand := none, took := none, pullIn := 0, dwell := none, leaving := [], lastAt := 0, due := none, arms := none, loop := none,
    move := none, codeInc := none, carrInc := none, loadCode := none, loadCarr := none, codeF := 0, chip := 0, sec := 0,
    carr := 0, accs := [], side := (0, 0), prevCode := 0, prevCarr := 0, seq := 0, epoch := 0, sums := [], sideSums := [],
    hist := [], lockMs := 0, lowMs := 0 }

/-- A band of the front after reset. -/
def FrontBand.reset : FrontBand :=
  { gainSum := 0, gainN := 0, frac := 0, locked := false, on := false, calm := [0, 0, 0, 0],
    seen := [false, false, false, false], hot := 0, cool := 0 }

/-- The receiver after reset: no epoch, the rings of R218 and R248, NMEA off (DESIGN CHOICE). -/
def GnssState.reset : GnssState :=
  { berths := [], queue := [], lanes := [], recording := none, capture := none, restart := none, aid := none,
    entries := [], settling := false, window := false, tw := 0, rate := 1, planAt := none, replanDue := false, epoch := none,
    te := 0, opened := false, solving := false, checks := [], closed := none, lost := false,
    measq := (0x2017000, 11), bitlog := (0x2017800, 11), units := [], store := [], osnma := [], tags := [],
    nmea := ⟨false, .uart0, 511, 1, 0⟩, fix := none, fixAt := 0, fix3 := none, preds := [], excl := [], notches := [],
    full := [], front1 := FrontBand.reset, front5 := FrontBand.reset }

/-- The pads after reset: nothing seen from outside (DESIGN CHOICE), the TAP in Test-Logic-Reset (R631). -/
def Pads.reset : Pads :=
  { ext := 0, known := 0, level := 0, dir := 0, forced := [], tap := .idcode, boundary := 0, captured := 0x06240B6F,
    seen := none }

/-- A lighter after reset (R542). -/
def Engine.reset : Engine := { tx := [], rx := [], latch := false }

/-- A UART after reset (R564). -/
def Uart.reset : Uart :=
  { rx := [], tx := [], rxPlace := .first, txPlace := .first, high := true, rxFrac := 0, txFrac := 0, pend := [], lossSeen := false,
    wakeAt := none }

/-- The I²C target after reset. -/
def I2ct.reset : I2ct := { rx := [], tx := [], serve := none, aidx := 0, first := false, stream := [] }

/-- An SPI port after reset. -/
def Spi.reset : Spi := { rx := [], tx := [], left := 0, abort := false }

/-- A DMA channel after reset. -/
def Dma.reset : Dma := { src := 0, dst := 0, cnt := 0, moved := 0, trig := false }

/-- The ADC after reset. -/
def AdcState.reset : AdcState :=
  { fifo := [], run := none, frames := none, pos := 0, stop := false, half := none, refSeen := false, read := none }

/-- A key after reset. -/
def KeyCount.reset : KeyCount := { neg := 0, deb := 0, drift := 0, since := none }

/-- The touch controller after reset: no reference record, as on a blank part. -/
def TouchState.reset : TouchState :=
  { keys := [], scan := none, segs := [], raws := [], late := false, first := true, rebase := false, test := none,
    ref := none, proxHits := 0, proxDrift := 0, proxBase := false }

/-- The memories after reset. -/
def MemState.reset : MemState := { streak := [], remapAon := [], remapSec := [], wipeReport := false, dpos := 0, bad := 0x2FFFFFFF }

/-- The machine right after a power-on reset. -/
def State.reset : State :=
  { pending := [], free := 0, regs := [], mem := [], chk := [], runs := [], wbacks := [], busData := 0,
    app := Core.reset 0x08000000, sys := Core.reset 0x08000000, console := Console.reset,
    manApp := ManQueue.reset, manSys := ManQueue.reset, tide := TideState.reset, tp := TpState.reset,
    tt := TtState.reset, rtc := RtcState.reset, logs := LogStore.reset, crypto := CryptoState.reset,
    power := Power.reset, harv := Harvester.reset, clk := ⟨0, 0⟩, life := Life.reset, gnss := GnssState.reset,
    pads := Pads.reset, lgt := [], uarts := [], i2ct := I2ct.reset, spis := [], dma := [], adc := AdcState.reset,
    touch := TouchState.reset, memTest := none, mems := MemState.reset }

end Sys2Proof.Machine
end

