-- ==== Sys2Proof/Machine/Ops.lean ====
section
/-! DEFINITION. The named operations over the state: register fields, memory bytes, check bits, free values, console
sessions and cores. -/

namespace Sys2Proof.Machine

namespace F

/-- The control words of the inner quay mailbox (R52). -/
def QUAY_GO : Fld := ⟨0x70000000, 0, 1⟩
def QUAY_OVERRUN : Fld := ⟨0x70000000, 9, 1⟩
def QUAY_LEN : Fld := ⟨0x70000004, 0, 8⟩
def QUAY_RHEAD : Fld := ⟨0x70000008, 0, 12⟩
def QUAY_RTAIL : Fld := ⟨0x7000000C, 0, 12⟩

end F

/-- The value at key `k`: the listed one, or what an unlisted key reads as. -/
def Store.get {α : Type} (d : Nat → α) : Store α → Nat → α
  | [], k => d k
  | (j, v) :: r, k => if j = k then v else Store.get d r k

/-- The store without key `k`. -/
def Store.erase {α : Type} (k : Nat) : Store α → Store α
  | [] => []
  | (j, v) :: r => if j = k then Store.erase k r else (j, v) :: Store.erase k r

/-- The store with key `k` listed at its place. -/
def Store.insert {α : Type} (k : Nat) (v : α) : Store α → Store α
  | [] => [(k, v)]
  | (j, w) :: r => if k < j then (k, v) :: (j, w) :: r else (j, w) :: Store.insert k v r

/-- The store with the value `v` at key `k`, in canonical form. -/
def Store.set {α : Type} [DecidableEq α] (d : Nat → α) (m : Store α) (k : Nat) (v : α) : Store α :=
  if v = d k then Store.erase k m else Store.insert k v (Store.erase k m)

/-- The store without the keys from `lo` up to, not including, `hi`. -/
def Store.clear {α : Type} (lo hi : Nat) (m : Store α) : Store α := m.filter fun c => c.1 < lo || hi ≤ c.1

/-- Keys strictly rise. -/
def Store.rising {α : Type} : Store α → Bool
  | [] => true
  | [_] => true
  | a :: b :: r => a.1 < b.1 && Store.rising (b :: r)

/-- The canonical form of a store: keys strictly rising, no pair equal to what an unlisted key reads as. -/
def Store.wf {α : Type} [DecidableEq α] (d : Nat → α) (m : Store α) : Bool :=
  Store.rising m && m.all fun c => decide (c.2 ≠ d c.1)

/-- The reset value of the field at `key` (its register's address and lowest bit): R33 and R43 for the common
registers, the block's table for the others, with the three departures of UART0's table (R567). -/
def resetOf (key : Nat) : Nat :=
  let a := key / 32
  let lo := key % 32
  match blockAt a with
  | none => 0
  | some (b, ofs) =>
    if ofs = 0 then if lo = 0 then b.code else 0
    else if ofs = 4 then
      if lo = 0 then b.resetOwner.code else if lo = 2 then bit b.fixed else 0
    else if b = .uart0 ∧ ofs = 0x10 ∧ lo = 0 then 1
    else
      match RegSpec.find ofs b.kind.regs with
      | none => 0
      | some (r, i) =>
        match r.fields.find? fun f => f.lo == lo with
        | none => 0
        | some f => f.rst.at i

/-- The value of a register field. -/
def State.get (s : State) (f : Fld) : Nat := Store.get resetOf s.regs f.key

/-- Whether a one-bit field is set. -/
def State.on (s : State) (f : Fld) : Bool := s.get f != 0

/-- The state with `v`, cut to the field's width, in a register field. -/
def State.put (s : State) (f : Fld) (v : Nat) : State :=
  { s with regs := Store.set resetOf s.regs f.key (v % 2 ^ f.w) }

/-- The state with a one-bit field at `b`. -/
def State.flag (s : State) (f : Fld) (b : Bool) : State := s.put f (bit b)

/-- The state with a counter field one higher, saturating. -/
def State.count (s : State) (f : Fld) : State := s.put f (min (s.get f + 1) (2 ^ f.w - 1))

/-- The state with a counter field higher by `n`, saturating. -/
def State.countBy (s : State) (f : Fld) (n : Nat) : State := s.put f (min (s.get f + n) (2 ^ f.w - 1))

/-- The value of a field as a two's complement number. -/
def State.getS (s : State) (f : Fld) : Int := signed f.w (s.get f)

/-- The state with a two's complement number in a field. -/
def State.putS (s : State) (f : Fld) (v : Int) : State := s.put f (pattern f.w v)

/-- Several fields put in order. -/
def State.puts (s : State) : List (Fld × Nat) → State
  | [] => s
  | (f, v) :: r => (s.put f v).puts r

/-- `v` held between `lo` and `hi`. -/
def clamp (lo hi v : Int) : Int := if v < lo then lo else if hi < v then hi else v

/-- Bit `i` of `n` set or cleared. -/
def withBit (n i : Nat) (b : Bool) : Nat :=
  if bitOf n i then (if b then n else n - 2 ^ i) else (if b then n + 2 ^ i else n)

/-- `v` without the bits of `m`. -/
def without (v m : Nat) : Nat := v - (v &&& m)

/-- The state after one free value has been taken. -/
def State.spend (s : State) : State := { s with free := s.free + 1 }

/-- The state after `n` free values have been taken. -/
def State.spendN (s : State) (n : Nat) : State := { s with free := s.free + n }

/-- What a byte of memory that nothing has written reads as: 0xFF in the log store, whose erased bytes read so
(R488), and 0 elsewhere (DESIGN CHOICE). -/
def memDefault (a : Nat) : Byte := if 0x60000000 ≤ a ∧ a < 0x60020000 then 0xFF else 0

/-- The region of an address (R465); none for a memory without check bits. The private SRAM of the system core has no bus
address in the spec; the model keeps it at 0x1_0000_0000. -/
def regionOf (a : Nat) : Option Nat :=
  if a < 0x10000 then some 25
  else if 0x08000000 ≤ a ∧ a < 0x08400000 then some 28
  else if 0x10000000 ≤ a ∧ a < 0x10010000 then some 26
  else if 0x20000000 ≤ a ∧ a < 0x20180000 then some ((a - 0x20000000) / 0x10000)
  else if 0x28000000 ≤ a ∧ a < 0x28004000 then some 24
  else if 0x29000000 ≤ a ∧ a < 0x29008000 then some 27
  else if 0x100000000 ≤ a ∧ a < 0x100020000 then some 29
  else none

/-- The addresses of a region, from the first up to, not including, the second (R456, R465). -/
def regionRange (r : Nat) : Nat × Nat :=
  if r < 24 then (0x20000000 + r * 0x10000, 0x20010000 + r * 0x10000)
  else if r = 24 then (0x28000000, 0x28004000)
  else if r = 25 then (0, 0x10000)
  else if r = 26 then (0x10000000, 0x10010000)
  else if r = 27 then (0x29000000, 0x29008000)
  else if r = 28 then (0x08000000, 0x08400000)
  else (0x100000000, 0x100020000)

/-- The check bits of a block that nothing has written: in a memory that lost its contents (a bit of `bad`) they always read
as uncorrectable (R470); elsewhere they are those of a block of zeros. -/
def chkDefault (bad b : Nat) : Nat :=
  match regionOf (b * 16) with
  | some r => if bitOf bad r then 0x1000000 else 0
  | none => 0

/-- The canonical form of a memory: addresses strictly rising, no entry equal to what an unlisted address reads as. -/
def Memory.wf (m : Store Byte) : Bool := Store.wf memDefault m

/-- The canonical form of the registers, the memory and the stored check bits. -/
def State.Wf (s : State) : Prop :=
  Store.wf resetOf s.regs = true ∧ Memory.wf s.mem = true ∧ Store.wf (chkDefault s.mems.bad) s.chk = true

/-- The byte of memory at an address. -/
def State.byte (s : State) (a : Nat) : Byte := Store.get memDefault s.mem a

/-- The state with a byte of memory written. -/
def State.setByte (s : State) (a : Nat) (v : Byte) : State := { s with mem := Store.set memDefault s.mem a v }

/-- The state with bytes written from an address on. -/
def State.setBytes (s : State) (a : Nat) : List Byte → State
  | [] => s
  | b :: r => (s.setByte a b).setBytes (a + 1) r

/-- The `n` bytes from an address on. -/
def State.bytes (s : State) (a n : Nat) : List Byte := (List.range n).map fun i => s.byte (a + i)

/-- `n` bytes of a number, least significant first (R427). -/
def leBytes : Nat → Nat → List Byte
  | 0, _ => []
  | n + 1, v => BitVec.ofNat 8 v :: leBytes n (v / 256)

/-- The number of bytes, least significant first. -/
def leNat : List Byte → Nat
  | [] => 0
  | b :: r => b.toNat + 256 * leNat r

/-- The check bits of a block. -/
def State.check (s : State) (b : Nat) : Nat := Store.get (chkDefault s.mems.bad) s.chk b

/-- The state with the check bits of a block written. -/
def State.setCheck (s : State) (b v : Nat) : State := { s with chk := Store.set (chkDefault s.mems.bad) s.chk b v }

/-- The parity of a byte. -/
def parity (b : Byte) : Nat := (List.range 8).foldl (fun a i => a ^^^ (b.toNat / 2 ^ i % 2)) 0

/-- The check bits of a block's bytes (R461): ROW in bits 15..0, COL in bits 23..16. -/
def blockCheck (l : List Byte) : Nat :=
  (l.foldr (fun b a => parity b + 2 * a) 0) + (l.foldl (fun a b => a ^^^ b.toNat) 0) * 0x10000

/-- The state with fresh check bits on block `b` (R468). -/
def State.freshCheck (s : State) (b : Nat) : State := s.setCheck b (blockCheck (s.bytes (b * 16) 16))

/-- The state with a whole aligned block written, with fresh check bits (R468). -/
def State.writeBlock (s : State) (b : Nat) (l : List Byte) : State := (s.setBytes (b * 16) l).freshCheck b

/-- The bytes of a list of words, least significant byte first. -/
def wordBytes (l : List Nat) : List Byte := l.flatMap fun w => leBytes 4 w

/-- A session of the console. -/
def State.sess (s : State) : Sess → Session
  | .uart0 => s.console.uart0
  | .i2c => s.console.i2c
  | .quay => s.console.quay

/-- The console with a session replaced. -/
def Console.setSess (c : Console) (x : Sess) (n : Session) : Console :=
  match x with
  | .uart0 => { c with uart0 := n }
  | .i2c => { c with i2c := n }
  | .quay => { c with quay := n }

/-- The state with a session replaced. -/
def State.setSess (s : State) (x : Sess) (n : Session) : State := { s with console := s.console.setSess x n }

/-- A core. -/
def State.core (s : State) : CoreId → Core
  | .app => s.app
  | .sys => s.sys

/-- The state with a core replaced. -/
def State.setCore (s : State) (c : CoreId) (k : Core) : State :=
  match c with
  | .app => { s with app := k }
  | .sys => { s with sys := k }

/-- A manifest's queues. -/
def State.man (s : State) : Man → ManQueue
  | .app => s.manApp
  | .sys => s.manSys

/-- The state with a manifest's queues replaced. -/
def State.setMan (s : State) (m : Man) (q : ManQueue) : State :=
  match m with
  | .app => { s with manApp := q }
  | .sys => { s with manSys := q }

/-- The index of a manifest in the register names. -/
def Man.ix : Man → Nat
  | .app => 0
  | .sys => 1

/-- The block of a manifest. -/
def Man.block : Man → Block
  | .app => .manApp
  | .sys => .manSys

/-- The owner of a block (R33). -/
def State.owner (s : State) (b : Block) : Side := if s.on (F.OWNLVL_OWNER b) then .app else .console

/-- Whether a block is in EXPERT (R33). -/
def State.expert (s : State) (b : Block) : Bool := s.on (F.OWNLVL_LEVEL b)

/-- The number of a master (R476). The debug port has none there; it takes 15. -/
def Master.code : Master → Nat
  | .appFetch => 0
  | .appData => 1
  | .sys => 2
  | .dma k => 3 + k.val
  | .berth => 11
  | .lookout => 12
  | .lighters => 13
  | .dredger => 14
  | .debug => 15

/-- The side on which a master acts (R20). -/
def Master.side : Master → Side
  | .sys => .console
  | _ => .app

/-- The data-port master of a core. -/
def CoreId.master : CoreId → Master
  | .app => .appData
  | .sys => .sys

/-- Count a denied write: one of R671's reasons, at an offset of a block. -/
def State.deny (s : State) (b : Block) (why ofs : Nat) (side : Side) : State :=
  ((((s.count (F.DENIED_COUNT b)).put (F.DENIED_LAST_OFS b) ofs).put (F.DENIED_LAST_WHY b) why).put
    (F.DENIED_LAST_SIDE b) (match side with | .app => 0 | .console => 1))

/-- The Tide time's whole seconds (R267). -/
def State.tideSec (s : State) : Nat := s.tide.now / 2 ^ 56

/-- The Tide time's fraction in units of 2^-32 s (R267). -/
def State.tideFrac (s : State) : Nat := s.tide.now % 2 ^ 56 / 2 ^ 24

end Sys2Proof.Machine
end

