-- ==== Sys2Proof/Machine/Banks.lean ====
section
/-! DEFINITION. Memory banks across power: which keep their contents, and what a power-on leaves (R218, R346, R351, R470 to
R472). -/

namespace Sys2Proof.Machine

/-- The state without the contents and check bits of the memory from `lo` up to, not including, `hi`. -/
def State.clearMem (s : State) (lo hi : Nat) : State :=
  { s with mem := Store.clear lo hi s.mem, chk := Store.clear (lo / 16) (hi / 16) s.chk }

/-- The SRAM banks that a ring of `2^size` records at block `b` lies in. -/
def ringBanks (b size : Nat) : List Nat :=
  let lo := (b * 16 - 0x20000000) / 0x10000
  let hi := (b * 16 + 16 * 2 ^ size - 1 - 0x20000000) / 0x10000
  (List.range 24).filter fun n => lo ≤ n && n ≤ hi

/-- Whether a main SRAM bank is retained (R218, R351). -/
def State.bankRetained (s : State) (n : Nat) : Bool :=
  bitOf (s.get F.PWR_RETAIN_BANKS) n ||
    (s.get F.GNSS_MODE_ACT_MODE != 0 &&
      (ringBanks s.gnss.measq.1 s.gnss.measq.2 ++ ringBanks s.gnss.bitlog.1 s.gnss.bitlog.2).contains n)

/-- The first bank of an SRAM domain (R345). -/
def domainBanks (d : Nat) : List Nat := (List.range 8).map (8 * (d - 2) + ·)

/-- A memory loses its contents: every block reads as uncorrectable until it is initialised (R470). -/
def State.loseMem (s : State) (r : Nat) : State :=
  let s1 := s.clearMem (regionRange r).1 (regionRange r).2
  { s1 with mems := { s1.mems with bad := withBit s1.mems.bad r true } }

/-- A memory set to 0 with valid check bits (R471, R483). -/
def State.zeroMem (s : State) (r : Nat) : State :=
  let s1 := s.clearMem (regionRange r).1 (regionRange r).2
  { s1 with mems := { s1.mems with bad := withBit s1.mems.bad r false } }

/-- An SRAM domain is switched off: banks that are not retained lose their contents. -/
def State.sramOff (s : State) (d : Nat) : State :=
  (domainBanks d).foldl (fun t n => if t.bankRetained n then t else t.loseMem n) s

/-- An SRAM domain is switched on: MEMCTL_LOST marks the banks that were not retained (R472). -/
def State.sramOn (s : State) (d : Nat) : State :=
  if bitOf (s.get F.PWR_DOMS_PG) d then s
  else
    (domainBanks d).foldl
      (fun t n => if t.bankRetained n then t else t.put F.MEMCTL_LOST_BANK (withBit (t.get F.MEMCTL_LOST_BANK) n true))
      (s.put F.PWR_DOMS_PG (withBit (s.get F.PWR_DOMS_PG) d true))

/-- The SRAM domain of an address in main SRAM, powered for an access (R346). -/
def State.sramFor (s : State) (a : Nat) : State :=
  if 0x20000000 ≤ a ∧ a < 0x20180000 then s.sramOn (2 + (a - 0x20000000) / 0x80000) else s

/-- The system firmware initialises the banks of a ring and clears their LOST bits (R471, R472). -/
def State.initRing (s : State) (base size : Nat) : State :=
  (ringBanks base size).foldl
    (fun t n =>
      let u := (t.sramOn (2 + n / 8)).zeroMem n
      u.put F.MEMCTL_LOST_BANK (withBit (u.get F.MEMCTL_LOST_BANK) n false)) s

end Sys2Proof.Machine
end

