-- ==== Sys2Proof/Machine/Sources.lean ====
section
/-! DEFINITION. The sources of the manifests: their numbers and names (R510), and the four that cannot be masked. -/

namespace Sys2Proof.Machine.Src

def CLK_FAIL : Nat := 0
def SYSCTL_ISO_ACCESS : Nat := 1
def SYSCTL_QUAY_REPLY : Nat := 2
def SYSCTL_OWN_DONE : Nat := 3
def SYSCTL_OUT_LOST : Nat := 4
def CLK_RFSYN_UNLOCK : Nat := 5
def CLK_RESTORED : Nat := 6
def SYSCTL_FW_FAULT : Nat := 7
def SYSCTL_ALIAS_DENIED : Nat := 8
def SYSCTL_QUAY_TAKEN : Nat := 9
def PWR_BOR_WARN : Nat := 16
def HARV_FLOOR : Nat := 17
def PWR_LEDGER_REFUSED : Nat := 18
def PWR_PATH_CHANGE : Nat := 19
def PWR_HOLD_LOW : Nat := 20
def PWR_IO_LOST : Nat := 21
def PWR_CORE_BOR : Nat := 22
def PWR_POINT_DONE : Nat := 23
def PWR_WAKE : Nat := 24
def HARV_BAND : Nat := 25
def HARV_PROT : Nat := 26
def HARV_PERMIT : Nat := 27
def GNSS_EPOCH : Nat := 32
def GNSS_FIX : Nat := 33
def GNSS_MODE_DONE : Nat := 34
def GNSS_RETRACT : Nat := 35
def GNSS_LATE_CLEAR : Nat := 36
def GNSS_BURST_SKIP : Nat := 37
def SILLAGE_BIT_FAIL : Nat := 38
def GNSS_BERTH_DUMP : Nat := 39
def GNSS_BERTH_LOSS : Nat := 40
def GNSS_CONS_EXCL : Nat := 41
def GNSS_CONS_LIMIT : Nat := 42
def GNSS_SNAP_DONE : Nat := 43
def FRONT_ANT_SHORT : Nat := 44
def FRONT_OVERLOAD : Nat := 45
def FRONT_JAM : Nat := 46
def FRONT_NOTCH_FULL : Nat := 47
def PLAN_SHORT : Nat := 48
def LOOKOUT_AID_REJECT : Nat := 49
def LOOKOUT_HANDOFF : Nat := 50
def GNSS_OSNMA_FAIL : Nat := 51
def GNSS_OSNMA_KEY : Nat := 52
def MEASQ_DROP : Nat := 53
def BITLOG_DROP : Nat := 54
def GNSS_ANCHOR : Nat := 55
def TIDE_STEP : Nat := 64
def TIDE_HOLD : Nat := 65
def TIDE_LOCK : Nat := 66
def TIDE_TT_REJECT : Nat := 67
def TP_PULSE : Nat := 68
def TP_FLAG : Nat := 69
def RTC_ALARM1 : Nat := 70
def RTC_ALARM2 : Nat := 71
def RTC_OSF : Nat := 72
def TIDE_LEAP : Nat := 73
def TIDE_PPS : Nat := 74
def RTC_LOCK : Nat := 75
def TIDE_TT_DONE : Nat := 76
def RTC_DISC : Nat := 77
def TIDE_ALIGN : Nat := 78
def TIDE_SCALE : Nat := 79
def UART0_RX : Nat := 80
def UART0_TX : Nat := 81
def UART0_RXTO : Nat := 82
def UART0_BRK : Nat := 83
def UART0_ERR : Nat := 84
def UART0_LINE_FAULT : Nat := 85
def UART0_WAKE_CHAR_LOST : Nat := 86
def I2CT_ADDR : Nat := 101
def I2CT_RX : Nat := 102
def I2CT_TX : Nat := 103
def I2CT_ERR : Nat := 104
def SPI0_DONE : Nat := 105
def SPI0_ERR : Nat := 106
def SPI1_DONE : Nat := 107
def SPI1_ERR : Nat := 108
def I2CT_STOP : Nat := 109
def LGT0_IRQ : Nat := 112
def LGT0_FIFO : Nat := 120
def ADC_DONE : Nat := 128
def ADC_FIFO : Nat := 129
def ADC_OVR : Nat := 130
def ADC_WIN : Nat := 131
def ADC_REF_UNSETTLED : Nat := 132
def TOUCH_SCAN : Nat := 133
def TOUCH_KEY : Nat := 134
def TOUCH_PROX : Nat := 135
def TOUCH_STUCK : Nat := 136
def TOUCH_START : Nat := 137
def TOUCH_TEST_DONE : Nat := 138
def TOUCH_DQI_LATE : Nat := 139
def MEMCTL_CE : Nat := 144
def MEMCTL_UE : Nat := 145
def MEMCTL_REMAP_FULL : Nat := 146
def MEMCTL_WIPE_DONE : Nat := 147
def LOGS_DONE : Nat := 148
def LOGS_RECOVER : Nat := 149
def LOGS_TWIN_TIE : Nat := 150
def LOGS_WORN : Nat := 151
def DMA_CH0 : Nat := 152
def LIFE_TAMP : Nat := 160
def CRYPTO_DONE : Nat := 161
def CRYPTO_ERR : Nat := 162
def SIGN_DONE : Nat := 163
def SIGN_FIX : Nat := 164
def SIGN_KEY_READY : Nat := 165
def SIGN_ERR : Nat := 166
def LIFE_FALLBACK : Nat := 167
def LIFE_REPEAT : Nat := 168
def LIFE_IMAGE_DONE : Nat := 169
def LIFE_ROLLBACK : Nat := 170
def LIFE_DEBUG : Nat := 171
def TEST_MEM_DONE : Nat := 172
def TEST_DONE : Nat := 173
def CRYPTO_OSNMA : Nat := 174
def SIGN_QUEUE_FULL : Nat := 175
def EVR_WATCH : Nat := 176
def EVR_OVERRUN : Nat := 177
def SYSCTL_SW0 : Nat := 178

/-- Source `k` of UARTu, k counted from UARTu_RX (R510). -/
def uart (u k : Nat) : Nat := 80 + 7 * u + k

/-- The sources whose class is fixed at 0 and whose mask bit reads 0 (R510, R512). -/
def isFixed (n : Nat) : Bool := n == 0 || n == 16 || n == 17 || n == 160

/-- Whether a source number is reserved (R510). -/
def reserved (n : Nat) : Bool :=
  192 ≤ n || (10 ≤ n && n ≤ 15) || (28 ≤ n && n ≤ 31) || (56 ≤ n && n ≤ 63) || n == 110 || n == 111 ||
    (140 ≤ n && n ≤ 143)

/-- The name of a source (R510). -/
def name (n : Nat) : String :=
  match n with
  | 0 => "CLK_FAIL"
  | 1 => "SYSCTL_ISO_ACCESS"
  | 2 => "SYSCTL_QUAY_REPLY"
  | 3 => "SYSCTL_OWN_DONE"
  | 4 => "SYSCTL_OUT_LOST"
  | 5 => "CLK_RFSYN_UNLOCK"
  | 6 => "CLK_RESTORED"
  | 7 => "SYSCTL_FW_FAULT"
  | 8 => "SYSCTL_ALIAS_DENIED"
  | 9 => "SYSCTL_QUAY_TAKEN"
  | 16 => "PWR_BOR_WARN"
  | 17 => "HARV_FLOOR"
  | 18 => "PWR_LEDGER_REFUSED"
  | 19 => "PWR_PATH_CHANGE"
  | 20 => "PWR_HOLD_LOW"
  | 21 => "PWR_IO_LOST"
  | 22 => "PWR_CORE_BOR"
  | 23 => "PWR_POINT_DONE"
  | 24 => "PWR_WAKE"
  | 25 => "HARV_BAND"
  | 26 => "HARV_PROT"
  | 27 => "HARV_PERMIT"
  | 32 => "GNSS_EPOCH"
  | 33 => "GNSS_FIX"
  | 34 => "GNSS_MODE_DONE"
  | 35 => "GNSS_RETRACT"
  | 36 => "GNSS_LATE_CLEAR"
  | 37 => "GNSS_BURST_SKIP"
  | 38 => "SILLAGE_BIT_FAIL"
  | 39 => "GNSS_BERTH_DUMP"
  | 40 => "GNSS_BERTH_LOSS"
  | 41 => "GNSS_CONS_EXCL"
  | 42 => "GNSS_CONS_LIMIT"
  | 43 => "GNSS_SNAP_DONE"
  | 44 => "FRONT_ANT_SHORT"
  | 45 => "FRONT_OVERLOAD"
  | 46 => "FRONT_JAM"
  | 47 => "FRONT_NOTCH_FULL"
  | 48 => "PLAN_SHORT"
  | 49 => "LOOKOUT_AID_REJECT"
  | 50 => "LOOKOUT_HANDOFF"
  | 51 => "GNSS_OSNMA_FAIL"
  | 52 => "GNSS_OSNMA_KEY"
  | 53 => "MEASQ_DROP"
  | 54 => "BITLOG_DROP"
  | 55 => "GNSS_ANCHOR"
  | 64 => "TIDE_STEP"
  | 65 => "TIDE_HOLD"
  | 66 => "TIDE_LOCK"
  | 67 => "TIDE_TT_REJECT"
  | 68 => "TP_PULSE"
  | 69 => "TP_FLAG"
  | 70 => "RTC_ALARM1"
  | 71 => "RTC_ALARM2"
  | 72 => "RTC_OSF"
  | 73 => "TIDE_LEAP"
  | 74 => "TIDE_PPS"
  | 75 => "RTC_LOCK"
  | 76 => "TIDE_TT_DONE"
  | 77 => "RTC_DISC"
  | 78 => "TIDE_ALIGN"
  | 79 => "TIDE_SCALE"
  | 80 => "UART0_RX"
  | 81 => "UART0_TX"
  | 82 => "UART0_RXTO"
  | 83 => "UART0_BRK"
  | 84 => "UART0_ERR"
  | 85 => "UART0_LINE_FAULT"
  | 86 => "UART0_WAKE_CHAR_LOST"
  | 87 => "UART1_RX"
  | 88 => "UART1_TX"
  | 89 => "UART1_RXTO"
  | 90 => "UART1_BRK"
  | 91 => "UART1_ERR"
  | 92 => "UART1_LINE_FAULT"
  | 93 => "UART1_WAKE_CHAR_LOST"
  | 94 => "UART2_RX"
  | 95 => "UART2_TX"
  | 96 => "UART2_RXTO"
  | 97 => "UART2_BRK"
  | 98 => "UART2_ERR"
  | 99 => "UART2_LINE_FAULT"
  | 100 => "UART2_WAKE_CHAR_LOST"
  | 101 => "I2CT_ADDR"
  | 102 => "I2CT_RX"
  | 103 => "I2CT_TX"
  | 104 => "I2CT_ERR"
  | 105 => "SPI0_DONE"
  | 106 => "SPI0_ERR"
  | 107 => "SPI1_DONE"
  | 108 => "SPI1_ERR"
  | 109 => "I2CT_STOP"
  | 112 => "LGT0_IRQ"
  | 113 => "LGT1_IRQ"
  | 114 => "LGT2_IRQ"
  | 115 => "LGT3_IRQ"
  | 116 => "LGT4_IRQ"
  | 117 => "LGT5_IRQ"
  | 118 => "LGT6_IRQ"
  | 119 => "LGT7_IRQ"
  | 120 => "LGT0_FIFO"
  | 121 => "LGT1_FIFO"
  | 122 => "LGT2_FIFO"
  | 123 => "LGT3_FIFO"
  | 124 => "LGT4_FIFO"
  | 125 => "LGT5_FIFO"
  | 126 => "LGT6_FIFO"
  | 127 => "LGT7_FIFO"
  | 128 => "ADC_DONE"
  | 129 => "ADC_FIFO"
  | 130 => "ADC_OVR"
  | 131 => "ADC_WIN"
  | 132 => "ADC_REF_UNSETTLED"
  | 133 => "TOUCH_SCAN"
  | 134 => "TOUCH_KEY"
  | 135 => "TOUCH_PROX"
  | 136 => "TOUCH_STUCK"
  | 137 => "TOUCH_START"
  | 138 => "TOUCH_TEST_DONE"
  | 139 => "TOUCH_DQI_LATE"
  | 144 => "MEMCTL_CE"
  | 145 => "MEMCTL_UE"
  | 146 => "MEMCTL_REMAP_FULL"
  | 147 => "MEMCTL_WIPE_DONE"
  | 148 => "LOGS_DONE"
  | 149 => "LOGS_RECOVER"
  | 150 => "LOGS_TWIN_TIE"
  | 151 => "LOGS_WORN"
  | 152 => "DMA_CH0"
  | 153 => "DMA_CH1"
  | 154 => "DMA_CH2"
  | 155 => "DMA_CH3"
  | 156 => "DMA_CH4"
  | 157 => "DMA_CH5"
  | 158 => "DMA_CH6"
  | 159 => "DMA_CH7"
  | 160 => "LIFE_TAMP"
  | 161 => "CRYPTO_DONE"
  | 162 => "CRYPTO_ERR"
  | 163 => "SIGN_DONE"
  | 164 => "SIGN_FIX"
  | 165 => "SIGN_KEY_READY"
  | 166 => "SIGN_ERR"
  | 167 => "LIFE_FALLBACK"
  | 168 => "LIFE_REPEAT"
  | 169 => "LIFE_IMAGE_DONE"
  | 170 => "LIFE_ROLLBACK"
  | 171 => "LIFE_DEBUG"
  | 172 => "TEST_MEM_DONE"
  | 173 => "TEST_DONE"
  | 174 => "CRYPTO_OSNMA"
  | 175 => "SIGN_QUEUE_FULL"
  | 176 => "EVR_WATCH"
  | 177 => "EVR_OVERRUN"
  | 178 => "SYSCTL_SW0"
  | 179 => "SYSCTL_SW1"
  | 180 => "SYSCTL_SW2"
  | 181 => "SYSCTL_SW3"
  | 182 => "SYSCTL_SW4"
  | 183 => "SYSCTL_SW5"
  | 184 => "SYSCTL_SW6"
  | 185 => "SYSCTL_SW7"
  | 186 => "SYSCTL_SW8"
  | 187 => "SYSCTL_SW9"
  | 188 => "SYSCTL_SW10"
  | 189 => "SYSCTL_SW11"
  | 190 => "SYSCTL_SW12"
  | 191 => "SYSCTL_SW13"
  | _ => "RESERVED"

end Sys2Proof.Machine.Src
end

