-- ==== Sys2Proof/Machine/Manifest.lean ====
section
/-! DEFINITION. The manifests: records, the ring and the reserve, delivery, masks (R507 to R524, R532, R678). -/

namespace Sys2Proof.Machine

/-- The class of a source in a manifest (R511). -/
def State.classOf (s : State) (m : Man) (src : Nat) : Nat :=
  if Src.isFixed src then 0 else bitsOf (s.get (F.MAN_CLASS_CLASS m.ix (src / 16))) (2 * (src % 16)) 2

/-- Whether a source is masked in a manifest (R512). -/
def State.masked (s : State) (m : Man) (src : Nat) : Bool :=
  !Src.isFixed src && bitOf (s.get (F.MAN_MASK_MASK m.ix (src / 32))) (src % 32)

/-- Whether a source's PEND bit is set. -/
def State.pendBit (s : State) (m : Man) (src : Nat) : Bool := bitOf (s.get (F.MAN_PEND_PEND m.ix (src / 32))) (src % 32)

/-- The state with a source's PEND bit written. -/
def State.setPend (s : State) (m : Man) (src : Nat) (b : Bool) : State :=
  s.put (F.MAN_PEND_PEND m.ix (src / 32)) (withBit (s.get (F.MAN_PEND_PEND m.ix (src / 32))) (src % 32) b)

/-- Whether a ring of `2^size` records of 16 bytes at `base` lies in main SRAM. -/
def ringInSram (base size : Nat) : Bool := 0x20000000 ≤ base && base + 16 * 2 ^ size ≤ 0x20180000

/-- The records a manifest holds, those of the reserve first. -/
def ManQueue.held (q : ManQueue) : List Rec := q.reserve ++ (q.ring.filter (·.held)).map (·.entry)

/-- Whether the ring takes a record: enabled, and the next slot free (R513, R516). -/
def State.ringRoom (s : State) (m : Man) : Bool :=
  s.on (F.MAN_CFG_EN m.ix) && (s.man m).ring.length < 2 ^ s.get (F.MAN_CFG_SIZE m.ix)

/-- The four words of a record (R507). -/
def Rec.words (r : Rec) : List Nat :=
  [r.src * 2 ^ 24 + r.cls * 2 ^ 22 + bit r.lostb * 2 ^ 21 + bit r.late * 2 ^ 20 + r.seq, r.sec * 2 ^ 24 + r.frac,
    r.w2, r.w3]

/-- A record formed now (R508, R509), before its queue is known. -/
def State.newRec (s : State) (m : Man) (late : Bool) (src w2 w3 : Nat) : Rec :=
  { src := src, cls := s.classOf m src, lostb := (s.man m).lostb, late := late, seq := s.get (F.MAN_SEQ_NEXT m.ix),
    sec := s.tideSec % 256, frac := s.tideFrac / 256, w2 := w2 % 2 ^ 32, w3 := w3 % 2 ^ 32, ord := (s.man m).formed }

/-- Form a record (R508, R514, R516, R517): a class-0 record enters the reserve while it has room; any other, or a
class-0 record that meets a full reserve, enters the ring; one that finds no room is dropped and counted. -/
def State.formRecord (s : State) (m : Man) (late : Bool) (src w2 w3 : Nat) : State :=
  let r := s.newRec m late src w2 w3
  let q := s.man m
  let q' := { q with formed := q.formed + 1 }
  let s1 := s.put (F.MAN_SEQ_NEXT m.ix) (r.seq + 1)
  if r.cls = 0 ∧ q.reserve.length < 8 then
    s1.setMan m { q' with reserve := q.reserve ++ [r], lostb := false }
  else if s.ringRoom m then
    let slot := q.next % 2 ^ s.get (F.MAN_CFG_SIZE m.ix)
    ((s1.sramFor (16 * (s.get (F.MAN_BASE_ADDR m.ix) + slot))).writeBlock (s.get (F.MAN_BASE_ADDR m.ix) + slot)
      (wordBytes r.words)).setMan m
      { q' with ring := q.ring ++ [⟨r, true⟩], next := (slot + 1) % 2 ^ s.get (F.MAN_CFG_SIZE m.ix), lostb := false }
  else
    (s1.count (if r.cls = 0 then F.MAN_LOST_LOST0 m.ix else F.MAN_LOST_LOST13 m.ix)).setMan m { q' with lostb := true }

/-- A source event reaches one manifest (R518): PEND is set, and an unmasked source forms a record. -/
def State.sourceIn (s : State) (m : Man) (src w2 w3 : Nat) : State :=
  let s1 := s.setPend m src true
  if s.masked m src then s1 else s1.formRecord m false src w2 w3

/-- A source event reaches both manifests (R512). In Heart-note and Base-note it is latched for the wake (R519). -/
def State.source (s : State) (src w2 w3 : Nat) : State :=
  if 2 ≤ s.power.depth then { s with power := { s.power with heldSrc := s.power.heldSrc ++ [src] } }
  else (s.sourceIn .app src w2 w3).sourceIn .sys src w2 w3

/-- At wake, one LATE record for each latched source, in source-number order (R519): payload 0, but EVR_WATCH's holds
the watch flags that are set. -/
def State.wakeRecords (s : State) : State :=
  let l := s.power.heldSrc
  let s1 := { s with power := { s.power with heldSrc := [] } }
  (List.range 192).foldl
    (fun t n =>
      if l.contains n then
        let w2 := if n = Src.EVR_WATCH then s.get F.EVR_WFLAG_FLAG else 0
        [Man.app, .sys].foldl
          (fun u m => let v := u.setPend m n true; if u.masked m n then v else v.formRecord m true n w2 0) t
      else t) s1

/-- The head of a list of records by order of formation. -/
def oldest : List Rec → Option Rec
  | [] => none
  | r :: rs =>
    match oldest rs with
    | none => some r
    | some b => if r.ord ≤ b.ord then some r else some b

/-- The head record (R515): the oldest of class 0, else of class 1, then 2, then 3. -/
def ManQueue.head (q : ManQueue) : Option Rec :=
  let h := q.held
  (oldest (h.filter (·.cls == 0))).or <| (oldest (h.filter (·.cls == 1))).or <|
    (oldest (h.filter (·.cls == 2))).or (oldest (h.filter (·.cls == 3)))

/-- The queues without the record of order `o`: its slot is free once every older record of the ring is removed
(R516). -/
def ManQueue.remove (q : ManQueue) (o : Nat) : ManQueue :=
  { q with
    reserve := q.reserve.filter fun r => r.ord != o
    ring := (q.ring.map fun t => if t.entry.ord = o then { t with held := false } else t).dropWhile fun t => !t.held
    timedOut := q.timedOut && (oldest q.held).map (·.ord) != some o }

/-- Remove a record; its source's PEND bit clears unless another of its records is held (R518). -/
def State.removeRecord (s : State) (m : Man) (r : Rec) : State :=
  let q := (s.man m).remove r.ord
  let s1 := s.setMan m q
  if q.held.any fun t => t.src == r.src then s1 else s1.setPend m r.src false

/-- The four POP registers written. -/
def State.putPop (s : State) (m : Man) (w : List Nat) : State :=
  s.puts [(F.MAN_POP0_WORD m.ix, w.getD 0 0), (F.MAN_POP_WORD m.ix 0, w.getD 1 0), (F.MAN_POP_WORD m.ix 1, w.getD 2 0),
    (F.MAN_POP_WORD m.ix 2, w.getD 3 0)]

/-- A read of MAN_POP0 (R515): from the owner's side it removes the head record and captures its words; with nothing
held, and from the other side, POP0 reads 0xFFFF_FFFF. -/
def State.popRead (s : State) (m : Man) (side : Side) : State :=
  if side ≠ s.owner m.block then { s with busData := 0xFFFFFFFF }
  else
    match (s.man m).head with
    | none => { s.putPop m [0xFFFFFFFF, 0, 0, 0] with busData := 0xFFFFFFFF }
    | some r => { (s.removeRecord m r).putPop m r.words with busData := BitVec.ofNat 32 (r.words.getD 0 0) }

/-- The level of a manifest's MNE line (R520, R521): moderation is bypassed while its core is in WAIT or Doze. -/
def State.mne (s : State) (m : Man) : Bool :=
  let q := s.man m
  let h := q.held
  let c := match m with | .app => s.app | .sys => s.sys
  !h.isEmpty &&
    (c.doze || h.any (fun r => r.cls == 0 || r.cls < s.get (F.MAN_MOD_FROM m.ix)) ||
      s.get (F.MAN_MOD_COUNT m.ix) ≤ h.length || s.get (F.MAN_MOD_TIME m.ix) == 0 || q.timedOut)

/-- The bits of a mask word that always read 0 (R512). -/
def fixedMask (w : Nat) : Nat := if w = 0 then 0x00030001 else if w = 5 then 1 else 0

/-- Write a mask word; each source it unmasks while PEND is set and no record of it is held forms one LATE record,
in source order (R518). -/
def State.writeMask (s : State) (m : Man) (w v : Nat) : State :=
  let old := s.get (F.MAN_MASK_MASK m.ix w)
  let new := without (v % 2 ^ 32) (fixedMask w)
  (List.range 32).foldl
    (fun t i =>
      if bitOf old i && !bitOf new i && t.pendBit m (32 * w + i) && !((t.man m).held.any fun r => r.src == 32 * w + i)
      then t.formRecord m true (32 * w + i) 0 0 else t)
    (s.put (F.MAN_MASK_MASK m.ix w) new)

/-- Discard the records of a manifest's ring, counted by class (R513, R678). -/
def State.discardRing (s : State) (m : Man) : State :=
  let q := s.man m
  let l := (q.ring.filter (·.held)).map (·.entry)
  let n0 := (l.filter (·.cls == 0)).length
  ((s.countBy (F.MAN_LOST_LOST13 m.ix) (l.length - n0)).countBy (F.MAN_LOST_LOST0 m.ix) n0).setMan m
    { q with ring := [], next := 0, lostb := q.lostb || !l.isEmpty, timedOut := q.timedOut && l.isEmpty }

/-- A write of MAN_CFG by the owner's side (R513). -/
def State.writeManCfg (s : State) (m : Man) (side : Side) (v : Nat) : State :=
  let en := s.on (F.MAN_CFG_EN m.ix)
  let en' := bitOf v 0
  let size := s.get (F.MAN_CFG_SIZE m.ix)
  let size' := if 4 ≤ bitsOf v 4 4 ∧ bitsOf v 4 4 ≤ 12 then bitsOf v 4 4 else size
  if side ≠ s.owner m.block then s.deny m.block 0 0x10 side
  else if en && en' && size' != size then s.deny m.block 3 0x10 side
  else if !en && en' && !ringInSram (s.get (F.MAN_BASE_ADDR m.ix) * 16) size' then s.deny m.block 3 0x10 side
  else
    let s1 := if en && !en' then s.discardRing m else s
    (s1.flag (F.MAN_CFG_EN m.ix) en').put (F.MAN_CFG_SIZE m.ix) size'

/-- A reset of APP reach disables MAN_APP's ring and discards its records (R678). -/
def State.manAppReset (s : State) : State := (s.discardRing .app).put (F.MAN_CFG_EN 0) 0

end Sys2Proof.Machine
end

