-- ==== Sys2Proof/Machine/Quay.lean ====
section
/-! DEFINITION. The console's lines: characters received, output queues, replies, prompts, the inner quay mailbox,
autobaud (R47 to R57, R62 to R67, R72 to R78, R672, R673). -/

namespace Sys2Proof.Machine

/-- The line terminator of device lines. -/
def crlf : String := "\r\n"

/-- The dialect that a line queued now will leave in (R86): the last one that a line before it in the session's output brings,
else the one that holds. -/
def State.dialectDue (s : State) (x : Sess) : Bool :=
  ((s.sess x).out ++ (s.sess x).stalled).foldl (fun d o => match o.after with | .dialect h => h | _ => d) s.console.heritage

/-- The prompt (R62, R86). -/
def promptText (heritage : Bool) : String := if heritage then ">" else "axn>"

/-- Whether a session carries the console: the I2C one only while I2CT is owned by CONSOLE (R45, R47), and in RECOVERY that of
UART0 alone (R410). -/
def State.serves (s : State) : Sess → Bool
  | .uart0 => true
  | .i2c => s.owner .i2ct == .console && s.get F.SYSCTL_RCAUSE_STATE != 3
  | .quay => s.get F.SYSCTL_RCAUSE_STATE != 3

/-- The bytes an output queue holds. -/
def outBytes (l : List OutLine) : Nat := (l.map fun o => o.text.length).sum

/-- A line at its place among the streams: after the lines of its own and of higher priority (R74). -/
def placeLine (l : OutLine) : List OutLine → List OutLine
  | [] => [l]
  | x :: r => if l.prio < x.prio then l :: x :: r else x :: placeLine l r

/-- Make room for `need` bytes (R75): the oldest NMEA epochs first, then the oldest notices of class 1 to 3. -/
def makeRoom : Nat → Nat → Session → Session
  | 0, _, c => c
  | f + 1, need, c =>
    if outBytes c.out + need ≤ 4096 then c
    else
      match c.out.find? fun o => o.prio == 3 with
      | some e =>
        makeRoom f need { c with
          out := c.out.filter fun o => !(o.prio == 3 && o.epoch == e.epoch), lostNmea := c.lostNmea + 1 }
      | none =>
        if c.out.any fun o => o.prio == 5 && o.cls != 0 then
          makeRoom f need { c with
            out := c.out.eraseP fun o => o.prio == 5 && o.cls != 0, lostNotice := c.lostNotice + 1 }
        else c

/-- Whether a queue holds a sentence of a sentence's epoch. -/
def OutLine.ofEpoch (l : OutLine) (q : List OutLine) : Bool := q.any fun o => o.prio == 3 && o.epoch == l.epoch

/-- Queue a line in a session (R74, R75). Reply lines and class-0 notices that do not fit wait, and later lines of their
stream wait behind them; an NMEA sentence that does not fit, or whose epoch was dropped to make room, is dropped with the rest
of its epoch; another notice that does not fit is dropped. -/
def Session.queue (c : Session) (l : OutLine) : Session :=
  if l.prio == 3 && c.dropEpoch == some l.epoch then c
  else if c.stalled.any fun o => o.prio == l.prio then { c with stalled := c.stalled ++ [l] }
  else
    let c1 := makeRoom (c.out.length + 1) l.text.length c
    if l.prio == 3 && l.ofEpoch c.out && !l.ofEpoch c1.out then { c1 with dropEpoch := some l.epoch }
    else if outBytes c1.out + l.text.length ≤ 4096 then { c1 with out := placeLine l c1.out }
    else if l.prio == 3 then { c1 with dropEpoch := some l.epoch, lostNmea := c1.lostNmea + 1 }
    else if l.prio == 5 && l.cls != 0 then { c1 with lostNotice := c1.lostNotice + 1 }
    else { c1 with stalled := c1.stalled ++ [l] }

/-- A device line's text with its check suffix (R67, R86), which no NMEA sentence carries, and its terminator. -/
def State.deviceLine (s : State) (x : Sess) (t : String) : String :=
  if (s.sess x).check && !s.dialectDue x && t.toList.head? != some '$' then
    t ++ "*" ++ Text.hex 2 (Text.crc8 t.toList) ++ crlf else t ++ crlf

/-- Queue `!SYSCTL_OUT_LOST` once room allows, after lines have been dropped (R75), raising its source (R677). DESIGN CHOICE:
the session that lost lines alone shows it, whatever the classes that other sessions show. -/
def State.reportLost (s : State) (x : Sess) : State :=
  let c := s.sess x
  if c.lostNmea + c.lostNotice = 0 then s
  else
    let t := s.deviceLine x
      ("!SYSCTL_OUT_LOST NMEA=" ++ Text.dec c.lostNmea ++ " NOTICE=" ++ Text.dec c.lostNotice)
    if outBytes c.out + t.length ≤ 4096 then
      (s.setSess x { c with out := placeLine ⟨5, 0, 0, t, .nothing⟩ c.out, lostNmea := 0, lostNotice := 0 }).source
        Src.SYSCTL_OUT_LOST (c.lostNmea % 65536) (c.lostNotice % 65536)
    else s

/-- The free bytes of the reply ring (R53). -/
def State.ringFree (s : State) : Nat := 3583 - (s.get F.QUAY_RHEAD + 3584 - s.get F.QUAY_RTAIL) % 3584

/-- The characters of a text in the reply ring from index `i` on, wrapping (R53). -/
def State.ringWrite (s : State) (i : Nat) : List Char → State
  | [] => s
  | c :: r => (s.setByte (0x70000200 + i % 3584) (BitVec.ofNat 8 c.toNat)).ringWrite (i + 1) r

/-- A device line of the inner quay session (R53): written whole into the ring, raising SYSCTL_QUAY_REPLY on MAN_APP,
or dropped with OVERRUN set. -/
def State.quayLine (s : State) (t : String) : State :=
  if t.length ≤ s.ringFree then
    ((s.ringWrite (s.get F.QUAY_RHEAD) t.toList).put F.QUAY_RHEAD ((s.get F.QUAY_RHEAD + t.length) % 3584)).sourceIn
      .app Src.SYSCTL_QUAY_REPLY 0 0
  else s.put F.QUAY_OVERRUN 1

/-- What the leaving of a line's final byte brings (R78, R86, R673). -/
def State.afterSent (s : State) (x : Sess) : AfterSent → State
  | .nothing => s
  | .baud r => { s with console := { s.console with pendRate := some r } }
  | .mode m => s.setSess x { s.sess x with pendMode := some m }
  | .dialect h => { s with console := { s.console with heritage := h && s.get F.GNSS_MODE_ACT_MODE == 6 } }

/-- Send a device line to a session. The inner quay's ring takes it at once; the I2C session takes it only while it
exists (R51). -/
def State.emit (s : State) (x : Sess) (prio cls epoch : Nat) (after : AfterSent) (t : String) : State :=
  match x with
  | .quay => (s.quayLine (s.deviceLine .quay t)).afterSent .quay after
  | _ =>
    if s.serves x then
      (s.setSess x ((s.sess x).queue ⟨prio, cls, epoch, s.deviceLine x t, after⟩)).reportLost x
    else s

/-- A data line of a reply, with the tag of the line in execution (R65). -/
def State.reply (s : State) (x : Sess) (t : String) : State := s.emit x 4 0 0 .nothing (s.console.tag ++ t)

/-- Several data lines. -/
def State.replies (s : State) (x : Sess) : List String → State
  | [] => s
  | t :: r => (s.reply x t).replies x r

/-- Queue the prompt of a TYPED session (R62). -/
def State.sendPrompt (s : State) (x : Sess) : State :=
  match x with
  | .quay => s
  | _ => s.setSess x ((s.sess x).queue ⟨4, 0, 0, promptText (s.dialectDue x), .nothing⟩)

/-- The final line of a reply (R71), followed in TYPED mode by the prompt (R62). -/
def State.finish (s : State) (x : Sess) (after : AfterSent) (t : String) : State :=
  let s1 := s.emit x 4 0 0 after (s.console.tag ++ t)
  if (s.sess x).typed then s1.sendPrompt x else s1

/-- `OK`. -/
def State.ok (s : State) (x : Sess) : State := s.finish x .nothing "OK"

/-- The error texts of R72. -/
def errText (n : Nat) : String :=
  match n with
  | 101 => "UNKNOWN VERB"
  | 102 => "LINE TOO LONG"
  | 103 => "BAD SYNTAX"
  | 104 => "CHECK FAILED"
  | 105 => "BUSY"
  | 106 => "WAKE CHARACTER LOST"
  | 107 => "BAD TAG"
  | 110 => "UNKNOWN OBJECT"
  | 111 => "MISSING ARGUMENT"
  | 112 => "UNKNOWN KEY"
  | 120 => "OUT OF RANGE"
  | 121 => "BAD UNIT"
  | 122 => "BAD NUMBER"
  | 130 => "CANCELLED"
  | 140 => "NOT ON THIS TRANSPORT"
  | 201 => "EXPERT LEVEL REQUIRED"
  | 202 => "BLOCK NOT IN EXPERT"
  | 210 => "NOT OWNER"
  | 211 => "FIXED BLOCK"
  | 221 => "LIFECYCLE STATE"
  | 222 => "CONFIRMATION REQUIRED"
  | 230 => "MODE CONFLICT"
  | 240 => "BLOCK POWERED OFF"
  | 312 => "LOAD LIMIT"
  | 313 => "STORE BELOW FLOOR"
  | 320 => "RESOURCE EXHAUSTED"
  | 330 => "FUSES EXHAUSTED"
  | 401 => "NO FIX"
  | 402 => "NOT DISCIPLINED"
  | 403 => "TIME UNTRUSTED"
  | 410 => "LOG PROTECTED"
  | 411 => "LOG BUSY"
  | 420 => "IMAGE INVALID"
  | 421 => "IMAGE INCOMPLETE"
  | _ => "INTERNAL FAULT"

/-- `ER nnn text` (R72). -/
def State.er (s : State) (x : Sess) (n : Nat) : State :=
  s.finish x .nothing ("ER " ++ Text.dec n ++ " " ++ errText n)

/-- The tag at the start of a line: `@`, four decimal digits and a space (R65), for which a tab counts (R57). -/
def tagOf : List Char → Option String
  | '@' :: a :: b :: c :: d :: sp :: _ =>
    if (sp == ' ' || sp == '\t') && [a, b, c, d].all fun x => (Text.digit? x).isSome then
      some (String.ofList ['@', a, b, c, d, ' ']) else none
  | _ => none

/-- The state with a tag in force for the replies that follow. -/
def State.withTag (s : State) (t : String) : State := { s with console := { s.console with tag := t } }

/-- The lines of a session that wait. -/
def State.waitingOf (s : State) (x : Sess) : Nat := (s.console.waiting.filter fun w => w.1 == x).length

/-- A complete line arrives (R49, R50): it waits, or with three lines waiting it is answered BUSY. -/
def State.lineArrives (s : State) (x : Sess) (l : HostLine) : State :=
  if 3 ≤ s.waitingOf x then
    (((s.withTag ((tagOf l.text).getD "")).er x 105).withTag "")
  else { s with console := { s.console with waiting := s.console.waiting ++ [(x, l)] } }

/-- The line without its tag and its check suffix, in tokens of upper case. -/
def lineTokens (l : List Char) : List String :=
  let body := if (tagOf l).isSome then l.drop 6 else l
  (Text.tokens (Text.upper (body.takeWhile (· != '*')))).map String.ofList

/-- Whether a line holds a command marked long (R69). -/
def isLong (l : List Char) : Bool :=
  match lineTokens l with
  | "GNSS" :: "SNAP" :: _ => true
  | "TOUCH" :: "TEST" :: _ => true
  | "LIFE" :: "IMAGE" :: "LOAD" :: _ => true
  | "TEST" :: "MEM" :: _ => true
  | _ => false

/-- A `TOUCH TEST` whose start waits for the end of a scan has not sent its `OK`: it is withdrawn (R85, R604). -/
def State.withdrawTest (s : State) (x : Sess) : State :=
  match s.touch.test with
  | some (some (y, tag)) =>
    if y = x then (({ s with touch := { s.touch with test := none } }.withTag tag).er x 130).withTag "" else s
  | _ => s

/-- Withdraw the long commands of a session that have not sent their `OK` (R62, R85), each answered ER 130 with its tag. -/
def State.withdrawLong (s : State) (x : Sess) : State :=
  let s0 := s.withdrawTest x
  let gone := s0.console.waiting.filter fun w => w.1 == x && isLong w.2.text
  let stay := s0.console.waiting.filter fun w => !(w.1 == x && isLong w.2.text)
  let s1 := { s0 with console := { s0.console with waiting := stay } }
  (gone.foldl (fun t w => (t.withTag ((tagOf w.2.text).getD "")).er x 130) s1).withTag ""

/-- Whether a byte makes a line invalid (R57). -/
def badByte (c : Byte) : Bool := 0x7E < c.toNat || (c.toNat < 0x20 && c.toNat != 9)

/-- A character of a host line (R55 to R57, R62, R64). -/
def Session.char (c : Session) (b : Byte) (flagged : Bool) : Session :=
  let bad := flagged || badByte b
  let keep := c.count < 160
  let shown := c.typed && !bad && keep
  let ch := Char.ofNat b.toNat
  { c with
    count := c.count + 1
    bad := c.bad || bad
    line := if keep then c.line ++ [(ch, shown)] else c.line
    echo := if shown then c.echo ++ String.ofList [ch] else c.echo }

/-- BS or DEL (R56, R62). -/
def Session.back (c : Session) : Session :=
  if c.count = 0 then c
  else if 160 < c.count then { c with count := c.count - 1 }
  else
    { c with
      count := c.count - 1
      line := c.line.dropLast
      echo := if (c.line.getLast?.map (·.2)).getD false && c.typed then c.echo ++ "\x08 \x08" else c.echo }

/-- The session with an empty partial line. -/
def Session.clearLine (c : Session) : Session := { c with line := [], count := 0, bad := false, lost := false }

/-- Whether UART0 discards what it receives, since autobaud is armed (R77). -/
def State.armed (s : State) (x : Sess) : Bool := x == .uart0 && s.console.autobaud

/-- A character other than CR restarts autobaud's pair (R77). -/
def State.newPair (s : State) : State := { s with console := { s.console with lastCr := none } }

/-- BS or DEL in a session (R56, R62). -/
def State.backspace (s : State) (x : Sess) : State :=
  if x = .quay ∨ !s.serves x then s
  else if s.armed x then s.newPair
  else s.setSess x (s.sess x).back

/-- BACKSPACE. -/
def execBackspace (x : Sess) (s : State) : Host.Outcome State Fault Refusal := .next (s.backspace x)

/-- Ctrl-C in a session (R62, R64). -/
def State.ctrlC (s : State) (x : Sess) : State :=
  let c := (s.sess x).clearLine
  if c.typed then
    ((s.setSess x { c with echo := c.echo ++ "^C" ++ crlf }).sendPrompt x).withdrawLong x
  else (s.setSess x c).withdrawLong x

/-- CTRL_C. -/
def execCtrlC (x : Sess) (s : State) : Host.Outcome State Fault Refusal :=
  .next (if !s.serves x then s else if s.armed x then s.newPair else s.ctrlC x)

/-- The end of a host line (R50, R55). A CR that UART0 receives while autobaud is armed is its pair's alone (R77). -/
def State.lineEnd (s : State) (x : Sess) : State :=
  if x = .quay ∨ !s.serves x ∨ s.armed x then s
  else
    let c := s.sess x
    let c1 := { c.clearLine with echo := if c.typed then c.echo ++ crlf else c.echo, atPrompt := false }
    (s.setSess x c1).lineArrives x ⟨c.line.map (·.1), c.count, c.bad, c.lost⟩

/-- LINE_TERMINATOR. -/
def execLineTerminator (x : Sess) (s : State) : Host.Outcome State Fault Refusal := .next (s.lineEnd x)

/-- A byte that a session of a serial line receives (R45, R55, R57, R62, R77, R568); a flagged one makes its line invalid,
whatever it spells, and has no other effect (DESIGN CHOICE for a flagged control character). -/
def State.hostByte (s : State) (x : Sess) (b : Byte) (flagged : Bool) : State :=
  if x = .quay ∨ !s.serves x then s
  else if s.armed x then if b = 13 then s else s.newPair
  else if flagged then s.setSess x ((s.sess x).char b true)
  else if b = 10 then s
  else if b = 13 then s.lineEnd x
  else if b = 3 then s.ctrlC x
  else if b = 8 ∨ b = 0x7F then s.backspace x
  else s.setSess x ((s.sess x).char b false)

/-- CONSOLE_CHARACTER. -/
def execConsoleCharacter (x : Sess) (c : Byte) (flagged : Bool) (s : State) : Host.Outcome State Fault Refusal :=
  .next (s.hostByte x c flagged)

/-- Lines that waited enter the queue while they fit (R75). -/
def Session.retry : Nat → Session → Session
  | 0, c => c
  | f + 1, c =>
    match c.stalled with
    | [] => c
    | l :: r =>
      if outBytes c.out + l.text.length ≤ 4096 then
        Session.retry f { c with out := placeLine l c.out, stalled := r }
      else c

/-- What goes out next: the echo first, else the line at the head of the queue; in TYPED mode lines of other streams
than the reply stream are set off from a partial line and the prompt (R63). -/
def State.transmit (s : State) (x : Sess) : State :=
  let c := s.sess x
  if c.echo != "" then s.setSess x { c with wire := c.echo, echo := "" }
  else
    match c.out with
    | [] => s
    | o :: r =>
      if c.typed && o.prio != 4 && (c.atPrompt || c.count != 0) then
        let now := c.out.takeWhile fun l => l.prio != 4
        let t := now.foldl (fun a l => a ++ l.text) crlf
        s.setSess x { c with
          out := c.out.drop now.length
          wire := t ++ promptText s.console.heritage ++ String.ofList ((c.line.filter (·.2)).map (·.1)) }
      else
        let prompt := o.text == promptText true || o.text == promptText false
        (s.setSess x { c with out := r, wire := o.text, atPrompt := prompt }).afterSent x o.after

/-- OUTPUT_ROOM (R63, R74, R75): the line at the head goes out whole, and what waited for room is queued. -/
def execOutputRoom (x : Sess) (s : State) : Host.Outcome State Fault Refusal :=
  .next <|
    if x = .quay then s
    else
      let s1 := s.transmit x
      (s1.setSess x (Session.retry ((s1.sess x).stalled.length + 1) (s1.sess x))).reportLost x

/-- AUTOBAUD_CHARACTER (R77): `rate` is the rate measured from the start bit, in baud. DESIGN CHOICE: the 3 % is taken of the
first measurement, and the mean drops its fraction. -/
def execAutobaudCharacter (c : Byte) (rate : Nat) (s : State) : Host.Outcome State Fault Refusal :=
  .next <|
    if !s.console.autobaud then s
    else if c ≠ 13 then s.newPair
    else
      match s.console.lastCr with
      | none => { s with console := { s.console with lastCr := some rate } }
      | some r =>
        if (max r rate - min r rate) * 100 ≤ 3 * r then
          let s1 := { s with console :=
            { s.console with autobaud := false, lastCr := none, rate := (r + rate) / 2 } }
          if s.console.uart0.typed then s1.sendPrompt .uart0 else s1
        else { s with console := { s.console with lastCr := some rate } }

/-- BAUD_CHANGE (R77, R78). -/
def execBaudChange (s : State) : Host.Outcome State Fault Refusal :=
  .next <|
    match s.console.pendRate with
    | none => s
    | some none =>
      { s with console := { s.console with autobaud := true, lastCr := none, pendRate := none } }
    | some (some r) => { s with console := { s.console with autobaud := false, rate := r, pendRate := none } }

/-- MODE_CHANGE (R673). -/
def execModeChange (x : Sess) (s : State) : Host.Outcome State Fault Refusal :=
  .next <|
    match (s.sess x).pendMode with
    | none => s
    | some m => s.setSess x { s.sess x with typed := m, pendMode := none }

/-- QUAY_GO (R52, R54). -/
def execQuayGo (s : State) : Host.Outcome State Fault Refusal := .next (s.put F.QUAY_GO 1)

/-- QUAY_BREAK (R52): Ctrl-C in the inner quay session. -/
def execQuayBreak (s : State) : Host.Outcome State Fault Refusal := .next (s.ctrlC .quay)

/-- A byte of a mailbox line (R57, R64): BS, DEL and Ctrl-C keep their meanings; CR and LF add nothing, since the submission
ends the line (DESIGN CHOICE for CR). -/
def Session.mailboxByte (c : Session) (b : Byte) : Session :=
  if b = 8 ∨ b = 0x7F then c.back
  else if b = 3 then c.clearLine
  else if b = 10 ∨ b = 13 then c
  else c.char b false

/-- QUAY_LINE_COPY (R672): the submitted line arrives, and GO reads 0. A Ctrl-C in it withdraws long commands too (R64). -/
def execQuayLineCopy (s : State) : Host.Outcome State Fault Refusal :=
  .next <|
    if s.on F.QUAY_GO then
      let n := s.get F.QUAY_LEN
      let l := s.bytes 0x70000100 (min n 160)
      let c := l.foldl Session.mailboxByte (Session.reset false)
      let s1 := s.put F.QUAY_GO 0
      (if l.contains 3 then s1.withdrawLong .quay else s1).lineArrives .quay
        ⟨c.line.map (·.1), if 160 < n then n else c.count, c.bad, false⟩
    else s

/-- The session that a log store request answers. -/
def LogReq.replyTo : LogReq → Option Sess
  | .bytes _ _ _ x _ => some x
  | .protect _ (some w) => some w.1
  | _ => none

/-- The session that a signing request answers. -/
def SignFor.replyTo : SignFor → Option Sess
  | .now x _ | .attest x _ _ => some x
  | .auto => none

/-- The sessions a command of which is still in execution: its final line comes with a later event. -/
def State.executing (s : State) : List Sess :=
  s.adc.read.toList.map (·.1) ++
  (s.touch.test.bind fun w => w.map (·.1)).toList ++
  (s.logs.op.toList.map (·.req) ++ s.logs.queue).filterMap LogReq.replyTo ++
  (s.crypto.run.toList ++ s.crypto.queue).filterMap fun r => r.who.replyTo

/-- Whether a command of a session waits, with reply lines that did not fit, for transmission to make room (R75). -/
def State.replyStalls (s : State) : Bool :=
  [Sess.uart0, .i2c, .quay].any fun x => (s.sess x).stalled.any fun o => o.prio == 4

/-- QUAY_RTAIL_WRITE (R52): a value of 3584 or more leaves the field unchanged. -/
def execQuayRtailWrite (value : BitVec 12) (s : State) : Host.Outcome State Fault Refusal :=
  .next (if value.toNat < 3584 then s.put F.QUAY_RTAIL value.toNat else s)

end Sys2Proof.Machine
end

