-- ==== Sys2Proof/Machine/Notice.lean ====
section
/-! DEFINITION. Raising a manifest source: its records, and its notice in each session that shows it (R73, R512, R518,
R677). -/

namespace Sys2Proof.Machine

/-- The keys of a source's notice, from its payload (R677): the names of the table of R677, else the names its chapter gives
the payload's fields (DEDUCED), in decimal. A source without a payload has none. -/
def noticeKeys (src w2 w3 : Nat) : List (String × String) :=
  let d := Text.dec
  let n := fun lo w => d (bitsOf w2 lo w)
  let m := fun lo w => d (bitsOf w3 lo w)
  let int := fun v => Text.int (signed 32 v)
  if Src.DMA_CH0 ≤ src ∧ src < Src.DMA_CH0 + 8 then
    [("COUNT", n 0 16), ("UE", n 16 1), ("BUSERR", n 17 1), ("FLUSHED", n 18 1), ("DST", d w3)]
  else if Src.SYSCTL_SW0 ≤ src ∧ src < 192 then [("VALUE", d w2), ("CORE", d w3)]
  else
    match src with
    | 0 => [("SOURCE", n 0 3), ("KIND", n 3 1), ("COUNT", n 8 24)]
    | 3 => [("BLOCK", Name.blockOf (bitsOf w2 0 10)), ("OWNER", Name.owner (if bitOf w2 16 then .app else .console))]
    | 18 => [("BLOCK", Name.blockOf (bitsOf w2 0 10)), ("SUM", m 0 16)]
    | 19 => [("OLD", n 0 2), ("NEW", n 2 2)]
    | 25 => [("OLD", n 0 3), ("NEW", n 3 3)]
    | 27 => [("CLASS", d w2)]
    | 64 => [("SEC", int w2), ("FRAC", int w3)]
    | 67 => [("REASON", d w2), ("N", m 0 16)]
    | 68 => [("QNEXT", d w2), ("QERR", Text.int (signed 16 w3))]
    | 74 => [("SEC", d w2), ("FRAC", d w3)]
    | 76 => [("N", n 0 16), ("OFFSET", int w3)]
    | 78 => [("ALIGN", int w2)]
    | 79 => [("SCALE", n 0 3), ("OLD", n 4 3)]
    | 144 => [("ADDR", d w2), ("REGION", m 0 5), ("MASTER", m 8 4)]
    | 145 => [("ADDR", d w2), ("REGION", m 0 5), ("MASTER", m 8 4)]
    | 147 => [("CAUSE", n 0 1)]
    | 148 => [("PAGE", d w2), ("RESULT", d w3)]
    | 163 => [("SSEQ", d w3)]
    | 164 => [("EPOCH", n 0 16), ("SSEQ", d w3)]
    | 166 => [("CAUSE", d w2)]
    | 168 => [("TARGET", Name.life w2), ("STATE", Name.life w3)]
    | 174 => [("VERIFIED", n 0 8), ("FAILED", n 8 8)]
    | 175 => [("EPOCH", n 0 16), ("REASON", n 16 2)]
    | _ => []

/-- A notice line's text: `!`, the source's name and its keys. -/
def noticeText (src : Nat) (keys : List (String × String)) : String := "!" ++ Src.name src ++ Text.keys keys

/-- A notice in one session (R73, R74): class 0 has priority 2, the others 5. -/
def State.notice (s : State) (x : Sess) (cls : Nat) (t : String) : State :=
  s.emit x (if cls = 0 then 2 else 5) cls 0 .nothing t

/-- A notice in each session that shows its class, and in the sessions of `force` whatever their class. -/
def State.notices (s : State) (force : List Sess) (cls : Nat) (t : String) : State :=
  [Sess.uart0, .i2c, .quay].foldl
    (fun a x => if cls ≤ (a.sess x).notice || force.contains x then a.notice x cls t else a) s

/-- Raise a source with its payload and the keys of its notice. DESIGN CHOICE: the class that decides which sessions show the
notice (R73) is the source's class in MAN_SYS, since MAN_APP may class it otherwise. -/
def State.raiseK (s : State) (src w2 w3 : Nat) (keys : List (String × String)) : State :=
  (s.source src w2 w3).notices [] (s.classOf .sys src) (noticeText src keys)

/-- Raise a source with its payload. -/
def State.raise (s : State) (src w2 w3 : Nat) : State := s.raiseK src w2 w3 (noticeKeys src w2 w3)

/-- Raise a source that carries no payload. -/
def State.raise0 (s : State) (src : Nat) : State := s.raise src 0 0

end Sys2Proof.Machine
end

