-- ==== Sys2Proof/Machine/Checks.lean ====
section
/-! DEFINITION. The load ledger (R36 to R41) and the checks every console command passes before its arguments
(R24, R68 steps 6 to 10, R82, R86, R410, R676). -/

namespace Sys2Proof.Machine

/-- The weight of a core or of the memory fabric, by its island's source code and the operating point (R41). -/
def islandWeight (high nominal low : Nat) (act point : Nat) : Nat :=
  if act = 1 then 1 else if act = 0 then nominal else if point = 2 then high else if point = 1 then nominal else low

/-- Whether a domain of R345 is powered and released. -/
def State.powered (s : State) (d : Nat) : Bool := bitOf (s.get F.PWR_DOMS_PG) d

/-- The weight of a receiver mode (R94). -/
def gnssWeight (mode : Nat) : Nat :=
  match mode with
  | 1 => 1100
  | 2 => 500
  | 3 => 1100
  | 4 => 500
  | 5 => 300
  | 6 => 500
  | _ => 0

/-- The operating points that are booked (R39): the one in effect and one that is requested. -/
def State.bookedPoints (s : State) : List Nat :=
  s.get F.PWR_POINT_ACT :: (if s.on F.PWR_POINT_PEND then [s.get F.PWR_POINT_POINT] else [])

/-- The sources of an island that are booked (R39): the one in use and one that is requested. -/
def State.bookedSources (s : State) (i : Nat) : List Nat :=
  s.get (F.CLK_ISL_ACT i) :: (if s.on (F.CLK_ISL_PEND i) then [s.get (F.CLK_ISL_SEL i)] else [])

/-- The greatest weight of a core or of the memory fabric over what is booked for its island. -/
def State.coreWeight (s : State) (high nominal low i : Nat) : Nat :=
  (s.bookedSources i).foldl (fun a c => s.bookedPoints.foldl (fun b p => max b (islandWeight high nominal low c p)) a) 0

/-- The weight of the receiver (R41, R94): of the mode in effect while one of its domains is powered, and of one that is
requested. -/
def State.receiverWeight (s : State) : Nat :=
  if s.on F.GNSS_MODE_MODE_PEND then max (gnssWeight (s.get F.GNSS_MODE_MODE)) (gnssWeight (s.get F.GNSS_MODE_ACT_MODE))
  else if s.powered 5 || s.powered 6 || s.powered 7 then gnssWeight (s.get F.GNSS_MODE_ACT_MODE)
  else 0

/-- The ledger sum in units of 10 µA (R39 to R41), with the weights of R94, R293, R344, R547, R577, R590, R593 and R608. A
change that is accepted and not yet in effect is booked already; a domain that is off books nothing, but for a time pulse that
is on, which keeps TFS powered (R293). -/
def State.ledgerSum (s : State) : Nat :=
  let fwd := ((List.range 14).filter fun d => s.powered d && bitsOf (s.get F.PWR_BIAS_BIAS) (2 * d) 2 == 1).length
  let lgt := ((List.range 8).filter fun n => s.get (F.LGT_STAT_STATE n) != 0).length
  let adc := s.get F.ADC_CFG_MODE
  let touch := s.get F.TOUCH_CFG_MODE
  let pll := s.get F.CLK_STAT_SYSPLL
  (if s.power.appHeld || !s.powered 0 then 0 else s.coreWeight 1400 420 90 0) +
  (if s.powered 1 then s.coreWeight 700 210 45 1 + s.coreWeight 225 80 20 2 else 0) +
  (if pll = 1 ∨ pll = 2 then 45 else 0) +
  (if s.powered 8 then 10 else 0) +
  (if s.on F.LOGS_STAT_BUSY then 12 else 0) +
  (if s.expert .pwr then 50 * fwd else 0) +
  s.receiverWeight +
  (if s.powered 10 then
    (if adc = 0 then 0 else if adc = 3 then 40 else 250) + (if s.on F.ADC_REF_EN then 15 else 0) +
      (if touch = 1 then 80 else if touch = 2 then 150 else 0)
  else 0) +
  (if s.powered 9 then 40 * lgt else 0) +
  (if s.powered 11 && s.on F.CRYPTO_KEY_BUSY then 400 else 0) +
  (if s.on F.TP_CTRL_EN then 40 else 0)

/-- The ledger limit in units of 10 µA (R36). -/
def State.ledgerLimit (s : State) : Nat := if s.on F.PWR_REG_ACT then 25 else 8000

/-- Whether the ledger grants a change of state from `s` to `t` (R37): it does not raise the sum above the limit. -/
def ledgerGrants (s t : State) : Bool := t.ledgerSum ≤ s.ledgerSum || t.ledgerSum ≤ t.ledgerLimit

/-- A change the ledger refuses (R37): counted in DENIED under reason 2, with PWR_LEDGER_REFUSED raised. -/
def State.ledgerRefuse (s : State) (b : Block) (ofs : Nat) (side : Side) : State :=
  (s.deny b 2 ofs side).raise Src.PWR_LEDGER_REFUSED b.code (s.ledgerSum % 65536)

/-- Apply a change under the ledger. -/
def State.underLedger (s : State) (b : Block) (ofs : Nat) (side : Side) (t : State) : State :=
  if ledgerGrants s t then t else s.ledgerRefuse b ofs side

/-- The lifecycle gates of R82. -/
inductive LifeGate where
  | any | test | key
  deriving DecidableEq, Repr

/-- What the checks need to know of a command: the block it acts on (none if none), whether it is expert, whether it
is a query, its gate, the sessions that may give it, whether it is of the SYS or LIFE group, whether SCRAPPED accepts
it, and whether its queries need ownership too. -/
structure CmdInfo where
  block : Option Block := none
  expert : Bool := false
  query : Bool := false
  gate : LifeGate := .any
  uart0Only : Bool := false
  notQuay : Bool := false
  sysGroup : Bool := false
  scrapOk : Bool := false
  ownQuery : Bool := false
  heritage : Bool := false
  deriving DecidableEq, Repr

/-- Whether the lifecycle state accepts a gate (R82, R420). -/
def gateOk (life : Nat) (c : CmdInfo) : Bool :=
  if life = 5 then c.scrapOk
  else
    match c.gate with
    | .any => true
    | .test => life = 1 || life = 4
    | .key => life = 2 || life = 3 || life = 4

/-- Steps 5 (in the AXN4120 dialect, R86) to 10 of R68: the error of the first check that fails. -/
def State.precheck (s : State) (x : Sess) (c : CmdInfo) : Option Nat :=
  if s.console.heritage && !c.heritage then some 101
  else if (c.uart0Only && x != .uart0) || (c.notQuay && x == .quay) then some 140
  else if !gateOk (s.get F.LIFE_STATE_STATE) c then some 221
  else if s.get F.SYSCTL_RCAUSE_STATE = 3 ∧ !c.sysGroup then some 230
  else if c.expert && (s.console.heritage || !(s.sess x).expert) then some 201
  else
    match c.block with
    | none => none
    | some b =>
      if (!c.query || c.ownQuery) && s.owner b != .console then some 210
      else if c.expert && !c.query && !s.expert b then some 202
      else none

/-- The switched domain of a block (R345); none for a block that is always reachable. -/
def blockDomain : Block → Option Nat
  | .uart0 | .uart1 | .uart2 | .spi0 | .spi1 | .i2ct | .gpio | .dma => some 8
  | .lgt => some 9
  | .adc | .touch => some 10
  | .crypto => some 11
  | .logs => some 12
  | .front | .berth _ => some 6
  | .lookout => some 7
  | .tide | .tp => some 13
  | _ => none

/-- Whether a block's domain is off and no access powers it (R346). A TIDE or TP command is taken while TFS is off (R296). -/
def State.blockOff (s : State) (b : Block) : Bool :=
  s.expert .pwr && (match blockDomain b with | some d => d != 13 && !s.powered d | none => false)

/-- Run a command's body after its checks; a block whose domain is off is a conflict (R68 step 12, R72). -/
def State.run (s : State) (x : Sess) (c : CmdInfo) (body : State → State) : State :=
  match s.precheck x c with
  | some e => s.er x e
  | none => if (match c.block with | some b => s.blockOff b | none => false) then s.er x 240 else body s

/-- Whether the reserve band refuses a command that would raise the ledger sum (R370). -/
def State.reserveRefuses (s t : State) : Bool :=
  s.get F.PWR_PATH_ACT == 2 && s.get F.HARV_STAT_BAND == 1 && s.ledgerSum < t.ledgerSum

/-- Apply a command's changes as one change under the ledger (R37, R70, R370), and reply. -/
def State.settle (s : State) (x : Sess) (b : Block) (ofs : Nat) (t : State) : State :=
  if !ledgerGrants s t then (s.ledgerRefuse b ofs .console).er x 312
  else if s.reserveRefuses t then s.er x 313
  else t.ok x

/-- The frequency of a source code in Hz, PSYS at an operating point (R382, R384, R388). -/
def sourceHz (code point : Nat) : Nat :=
  match code with
  | 0 => 64000000
  | 1 | 2 => 32768
  | 3 => 26000000
  | 4 => if point = 2 then 160000000 else if point = 1 then 64000000 else 16000000
  | 5 => 160000000
  | 6 => 320000000
  | _ => 49104000

/-- The clock of an island, by its index (island number less one). -/
def State.islandHz (s : State) (i : Nat) : Nat := sourceHz (s.get (F.CLK_ISL_ACT i)) (s.get F.PWR_POINT_ACT)

/-- An action of a register bit by a side: it is denied on the side that does not own the block (R21), and, for an
expert bit, in BASIC (R22). -/
def State.guard (s : State) (b : Block) (ofs : Nat) (side : Side) (expert : Bool) (act : State → State) : State :=
  if side ≠ s.owner b then s.deny b 0 ofs side
  else if expert && !s.expert b then s.deny b 1 ofs side
  else act s

/-- As `guard`, for an action that the block's present state may refuse (R671). -/
def State.guardBusy (s : State) (b : Block) (ofs : Nat) (side : Side) (expert busy : Bool) (act : State → State) :
    State :=
  if side ≠ s.owner b then s.deny b 0 ofs side
  else if busy then s.deny b 3 ofs side
  else s.guard b ofs side expert act

end Sys2Proof.Machine
end

