-- ==== Sys2Proof/Machine/Tide.lean ====
section
/-! DEFINITION. The Tide counter: ticks, steps, scales, discipline, holdover and the error estimate, with the part of the
time pulse that follows them (R266 to R281, R286 to R291, R296). Times are in units of 2^-56 s where nothing else is
said. -/

namespace Sys2Proof.Machine

/-- One second. -/
def tideOne : Nat := 2 ^ 56

/-- The nearest integer to `n / d`, ties away from zero. -/
def roundDiv (n : Int) (d : Nat) : Int :=
  let m := ((2 * n.natAbs + d) / (2 * d) : Nat)
  if n < 0 then -(m : Int) else m

/-- Quarter-nanoseconds to units of 2^-56 s. -/
def ofQuarters (q : Int) : Int := roundDiv (q * (2 ^ 56 : Nat)) 4000000000

/-- Nanoseconds to units of 2^-56 s. -/
def ofNanos (n : Int) : Int := roundDiv (n * (2 ^ 56 : Nat)) 1000000000

/-- The state with the Tide counter's own state replaced. -/
def State.withTide (s : State) (f : TideState → TideState) : State := { s with tide := f s.tide }

/-- The state with the time pulse's own state replaced. -/
def State.withTp (s : State) (f : TpState → TpState) : State := { s with tp := f s.tp }

/-- Whether the fast section runs: domain TFS is powered and the section holds the time. -/
def State.fastRuns (s : State) : Bool := s.powered 13 && !s.tide.carried

/-- A signed amount added to a time modulo 2^48 s. -/
def addTime (t : Nat) (d : Int) : Nat := (((t : Int) + d) % ((2 ^ 104 : Nat) : Int)).toNat

/-- The error estimate set, with its register (R280). -/
def State.setErr (s : State) (ns : Nat) : State :=
  (s.withTide fun t => { t with err := ns }).put F.TIDE_ERR_ERR (min ns 0xFFFFFFFF)

/-- Whole seconds pass since reset: AGE and ERR grow (R279, R280). -/
def State.secondsPass (s : State) (n grow : Nat) : State :=
  if n = 0 then s
  else (s.countBy F.TIDE_STAT_AGE n).setErr (s.tide.err + n * grow)

/-- The prescaler advances over edges of XTAL-L (R298); on the edges of a running shift, spread evenly, it advances by 2
or not at all (R309). It stands at its last count until the boundary is taken. -/
def RtcState.run (r : RtcState) (n : Nat) : RtcState :=
  match r.shift with
  | none => { r with pre := min 32767 (r.pre + n) }
  | some c =>
    let e := min 32768 (r.edges + n)
    let k := e * c.natAbs / 32768 - r.edges * c.natAbs / 32768
    { r with pre := min 32767 (if c < 0 then r.pre + n - k else r.pre + n + k), edges := e }

/-- Counted time added to the counter; the RTC's prescaler runs with it. -/
def State.tideCount (s : State) (d grow : Nat) : State :=
  let t := s.tide
  let n := (t.up + d) / 2 ^ 41 - t.up / 2 ^ 41
  let s1 := { s.withTide (fun t => { t with now := addTime t.now d, up := t.up + d }) with
    rtc := if n = 0 then s.rtc else s.rtc.run n }
  s1.secondsPass ((t.up + d) / tideOne - t.up / tideOne) grow

/-- The advance of one tick of the fast section (R267). -/
def State.fastStep (s : State) : Nat :=
  ((s.get F.TIDE_INC_INC : Int) * ((2 ^ 40 : Nat) + s.getS F.TIDE_RATE_ADJ) / ((2 ^ 40 : Nat) : Int)).toNat

/-- The advance of one XTAL-L edge of the always-on section (R275 step 2). -/
def State.slowStep (s : State) : Nat :=
  (((2 ^ 41 : Nat) : Int) * ((2 ^ 40 : Nat) + s.getS F.TIDE_ARATE_ADJ) / ((2 ^ 40 : Nat) : Int)).toNat

/-- One tick of the section that holds the time: what a step does on an empty queue. -/
def State.tideTick (s : State) : State :=
  if s.fastRuns then s.tideCount s.fastStep (s.get F.TIDE_HOLD_GROW)
  else s.tideCount s.slowStep (s.get F.TIDE_HOLD_SLPGROW)

/-- Time that a stopped clock lost, added at its restart (R268). -/
def State.tideAdd (s : State) (d : Nat) : State := s.tideCount d (s.get F.TIDE_HOLD_GROW)

/-- Time that passed asleep, in XTAL-L edges (R275). While the time pulse is on the fast section runs on (R293). -/
def State.tideSlept (s : State) (edges : Nat) : State :=
  if s.on F.TP_CTRL_EN then s.tideCount (edges * 2 ^ 41) (s.get F.TIDE_HOLD_GROW)
  else s.tideCount (edges * s.slowStep) (s.get F.TIDE_HOLD_SLPGROW)

/-- The offset of a scale code from GPS time: that of GNSS_TOFS, or none (R272). -/
def State.scaleOffset (s : State) (code : Nat) : Int :=
  if code = 0 ∨ 5 < code then 0
  else if s.get (F.GNSS_TOFS_SRC (code - 1)) = 0 then 0
  else ofQuarters (s.getS (F.GNSS_TOFS_OFS (code - 1)))

/-- TIDE_STAT.SCALE_OK (R272). -/
def State.scaleOk (s : State) : Bool :=
  s.get F.TIDE_CFG_SCALE == 0 || s.get (F.GNSS_TOFS_SRC (s.get F.TIDE_CFG_SCALE - 1)) != 0

/-- The time in a scale of TP_CTRL less the Tide time (R286, R274). -/
def State.pulseOffset (s : State) (code : Nat) : Int :=
  if code = 7 then 0
  else if code = 6 then -(s.getS F.TIDE_LEAP_CUR) * (tideOne : Int)
  else s.scaleOffset code - s.scaleOffset (s.get F.TIDE_CFG_SCALE)

/-- The period in units of 2^-56 s (R286). -/
def TpState.per56 (p : TpState) : Nat := (if p.period = 0 then 2 ^ 64 else p.period) * 2 ^ 24

/-- The Tide time of the leading edge of pulse `k` (R286): T_k less DELAY. -/
def State.edgeTime (s : State) (k : Nat) : Int :=
  ((k * s.tp.per56 : Nat) : Int) - s.pulseOffset s.tp.scale - ofQuarters s.tp.delay

/-- The first pulse whose leading edge lies after a time. -/
def State.firstPulse (s : State) (t : Int) : Nat :=
  ((t + s.pulseOffset s.tp.scale + ofQuarters s.tp.delay) / (s.tp.per56 : Int) + 1).toNat

/-- Whether TP_QNEXT and TP_QERR are reported: the period is 1 ms or more (R288). -/
def TpState.reports (p : TpState) : Bool := p.period == 0 || 2 ^ 32 ≤ p.period * 1000

/-- The QERR of an edge (R287): the 320 MHz tick nearest to its ideal time, a tie to the earlier, in 2^-40 s. Half a
tick of the fast section is INC x (2^40 + ADJ) in units of 2^-97 s. -/
def State.qerr (s : State) (ideal : Int) : Int :=
  let hfo := s.get (F.CLK_ISL_ACT 12) == 0
  let inc := if hfo then 1125899907 else s.get F.TIDE_INC_INC
  let h := (inc : Int) * ((2 ^ 40 : Nat) + s.getS F.TIDE_RATE_ADJ)
  let scale := if hfo then 40 else 41
  let d := (ideal - (s.tide.now : Int)) * ((2 ^ scale : Nat) : Int)
  if h ≤ 0 then 0
  else
    let r := d % h
    roundDiv (if 2 * r ≤ h then -r else h - r) (2 ^ (scale + 16))

/-- TP_QNEXT and TP_QERR report the next edge (R288). -/
def State.reportPulse (s : State) : State :=
  if s.tp.reports then
    let e := s.edgeTime s.tp.next
    ((s.put F.TP_QNEXT_SEC (pattern 32 (e / (tideOne : Int)))).putS F.TP_QERR_QERR (s.qerr e)).flag F.TP_QERR_VALID
      (s.get (F.CLK_ISL_ACT 12) != 0)
  else s.put F.TP_QERR_VALID 0

/-- Whether discipline counts as lost (R291). -/
def State.lost (s : State) : Bool :=
  s.get F.TIDE_STAT_STATE == 0 || (s.get F.TIDE_STAT_STATE == 2 && decide (s.get F.TP_ERRLIM_LIM < s.tide.err))

/-- TP_STAT.ON: pulses are being emitted. -/
def State.pulseOn (s : State) : State :=
  s.flag F.TP_STAT_ON (s.on F.TP_CTRL_EN && s.fastRuns && !s.on F.TP_STAT_STOPPED)

/-- The policy of R291 at a change of discipline, of policy, or of TP_CTRL.EN. A regain lets the pulses resume from the
first T_k at least 1 ms later. -/
def State.pulsePolicy (s : State) : State :=
  let lost := s.lost && s.on F.TP_CTRL_EN
  let stop := lost && !s.tp.policy
  let flag := lost && s.tp.policy
  let was := s.on F.TP_STAT_STOPPED
  let changed := stop != was || flag != s.on F.TP_STAT_FLAG
  let s1 := (s.flag F.TP_STAT_STOPPED stop).flag F.TP_STAT_FLAG flag
  let s2 :=
    if was && !stop then
      s1.withTp fun p => { p with next := max p.next (s1.firstPulse ((s1.tide.now : Int) + ofNanos 1000000)) }
    else s1
  let s3 := s2.pulseOn
  if changed then s3.raise0 Src.TP_FLAG else s3

/-- The time pulse meets a step that was just applied (R288, R290): a forward step omits the pulses it passes and sets
SKIP; a backward step leaves the next pulse as it is. -/
def State.pulseStep (s : State) : State :=
  if s.on F.TP_CTRL_EN then
    let k := s.firstPulse s.tide.now
    let s1 := if s.tp.next < k then (s.withTp fun p => { p with next := k }).put F.TP_STAT_SKIP 1 else s
    s1.reportPulse
  else s

/-- The pulses are aligned afresh after the present time: TP is turned on, or UTC moves by a leap second (R286). -/
def State.pulseAlign (s : State) : State :=
  if s.on F.TP_CTRL_EN then (s.withTp fun p => { p with next := s.firstPulse s.tide.now }).reportPulse else s

/-- A leap count takes effect (R274): pulses aligned to UTC move (R286). -/
def State.setLeap (s : State) (n : Int) (broadcast : Bool) : State :=
  let s1 := (s.putS F.TIDE_LEAP_CUR n).flag F.TIDE_LEAP_SRC broadcast
  if s.tp.scale = 6 ∧ n ≠ s.getS F.TIDE_LEAP_CUR then s1.pulseAlign else s1

/-- Apply a step of the Tide counter in one tick (R270, R273): TIDE_STEP carries it as signed seconds and signed
fraction, and a change of scale raises TIDE_SCALE with it. -/
def State.applyStep (s : State) (d : Int) : State :=
  let f := d.tdiv (2 ^ 24 : Nat)
  let sec := f.tdiv (2 ^ 32 : Nat)
  let frac := f - sec * (2 ^ 32 : Nat)
  let sc := s.tide.scaleStep
  let s1 := s.withTide fun t => { t with now := addTime t.now d, step := none, scaleStep := none }
  let s2 := (s1.put F.TIDE_CTRL_STEP_PEND 0).raise Src.TIDE_STEP (pattern 32 sec) (pattern 32 frac)
  let s3 := match sc with
    | some (new, old) => s2.raise Src.TIDE_SCALE (new + 16 * old) 0
    | none => s2
  s3.pulseStep

/-- Request a step (R270): at once while the receiver is OFF, else at its quiet point; a second request adds to a
pending one. -/
def State.requestStep (s : State) (d : Int) : State :=
  let e := s.tide.step.getD 0 + d
  if s.get F.GNSS_MODE_ACT_MODE = 0 then s.applyStep e
  else (s.withTide fun t => { t with step := some e }).put F.TIDE_CTRL_STEP_PEND 1

/-- Change the time scale (R273): its step is the difference of the offsets. -/
def State.changeScale (s : State) (new : Nat) : State :=
  let old := s.get F.TIDE_CFG_SCALE
  if new = old then s
  else
    let from_ := (s.tide.scaleStep.map (·.2)).getD old
    ((s.put F.TIDE_CFG_SCALE new).withTide fun t => { t with scaleStep := some (new, from_) }).requestStep
      (s.scaleOffset new - s.scaleOffset old)

/-- The validity time of a source in BASIC (R278). -/
def State.htoOf (s : State) (src : Nat) : Nat :=
  if src = 2 then 10
  else if src = 1 then 3
  else if s.get F.GNSS_MODE_ACT_MODE = 3 ∨ s.get F.GNSS_MODE_ACT_MODE = 4 then
    max 3 (min 180 (3 * s.get F.GNSS_BURST_PERIOD))
  else 3

/-- The expert fields of TIDE that the firmware sets in BASIC (R268, R276, R278). -/
def State.deriveLoop (s : State) : State :=
  if s.expert .tide then s
  else
    let src := s.get F.TIDE_STAT_ACT_SRC
    s.puts [(F.TIDE_INC_INC, if s.get (F.CLK_ISL_ACT 11) = 0 then 1125899907 else 450359963),
      (F.TIDE_HOLD_SLPGROW, if s.get F.CLK_STAT_XTALL = 2 then 500 else 20000),
      (F.TIDE_GAIN_KP, if src = 2 then 4096 else 16384), (F.TIDE_GAIN_KI, if src = 2 then 256 else 1024),
      (F.TIDE_STEPTH_TH, if src = 2 then 100 else 10), (F.TIDE_CFG_HTO, s.htoOf src)]

/-- The rate of R278 in 2^-40, limited to 500 ppm. -/
def limitRate (v : Int) : Int := clamp (-549755814) 549755814 v

/-- The integrator and rate of one measurement `e` taken `tau` after the previous one (R278). -/
def State.runLoop (s : State) (e : Int) (tau : Nat) : State :=
  let t := s.tide
  let num := t.intNum * (tau : Int) + (s.get F.TIDE_GAIN_KI : Int) * e * ((2 ^ 24 : Nat) : Int) * (t.intDen : Int)
  let den := t.intDen * tau
  let g := max 1 (Nat.gcd num.natAbs den)
  let n := num / (g : Int)
  let d := den / g
  let adj := roundDiv (n * (tau : Int) + (s.get F.TIDE_GAIN_KP : Int) * e * ((2 ^ 24 : Nat) : Int) * (d : Int)) (d * tau)
  (s.withTide fun t => { t with intNum := n, intDen := d }).putS F.TIDE_RATE_ADJ (limitRate adj)

/-- The source that drives the loop (R277): the one chosen, or under AUTO the valid one of the highest rank. -/
def State.drivingSource (s : State) : Nat :=
  let c := s.get F.TIDE_CFG_SRC
  if c = 3 then ((List.range 3).find? fun i => bitOf s.tide.valid i).getD 3 else c

/-- Whether a source is valid among those that may drive the loop. -/
def State.anyValid (s : State) : Bool :=
  let c := s.get F.TIDE_CFG_SRC
  if c = 3 then s.tide.valid != 0 else bitOf s.tide.valid c

/-- An accepted measurement `e` of a source (0 GNSS, 1 PPS, 2 STT), taken at count `at_`, with its error estimate in ns
(R277 to R280). -/
def State.measure (s : State) (src : Nat) (e : Int) (at_ err : Nat) : State :=
  if src = 1 ∧ !s.tide.abs then s
  else
    let prev := (s.tide.lastAt.getD src none)
    let s1 := s.withTide fun t =>
      { t with valid := withBit t.valid src true, lastAt := t.lastAt.set src (some at_) }
    if s1.drivingSource ≠ src then s1
    else
      let same := s.get F.TIDE_STAT_ACT_SRC = src ∧ s.tide.disc
      let tau := match prev with
        | some p => if same ∧ p < at_ then at_ - p else tideOne
        | none => tideOne
      let s2 := (s1.put F.TIDE_STAT_ACT_SRC src).deriveLoop
      let s3 := s2.putS F.TIDE_LASTE_E (clamp (-2147483648) 2147483647 (roundDiv (e * 4000000000) tideOne))
      let far := ofNanos (s3.get F.TIDE_STEPTH_TH * 1000 : Nat) ≤ e.natAbs
      let s4 :=
        if s3.on F.TIDE_CFG_LOOP_OPEN then s3
        else if s3.get F.TIDE_STAT_STATE = 0 ∨ far then s3.requestStep e
        else s3.runLoop e tau
      let s5 := ((s4.setErr err).put F.TIDE_STAT_AGE 0).withTide fun t =>
        { t with disc := true, abs := t.abs || src != 1 }
      let s6 := s5.put F.TIDE_STAT_STATE 1
      (if s.get F.TIDE_STAT_STATE = 1 then s6 else s6.raise0 Src.TIDE_LOCK).pulsePolicy

/-- Enter holdover (R279): ADJ keeps the integrator while the loop is closed. -/
def State.holdover (s : State) : State :=
  if s.get F.TIDE_STAT_STATE = 1 then
    let s1 := s.put F.TIDE_STAT_STATE 2
    let s2 :=
      if s.on F.TIDE_CFG_LOOP_OPEN then s1
      else s1.putS F.TIDE_RATE_ADJ (limitRate (roundDiv s.tide.intNum s.tide.intDen))
    (s2.raise0 Src.TIDE_HOLD).pulsePolicy
  else s

/-- Holdover once no valid source remains. -/
def State.checkSources (s : State) : State := if s.anyValid then s else s.holdover

/-- Tide goes to holdover at once with no source valid (R279, R393). -/
def State.tideHoldover (s : State) : State := ((s.withTide fun t => { t with valid := 0 }).holdover).deriveLoop

/-- XTAL-G starts for what needs it and stops once nothing does, SYSPLL having moved to HFO: RFSYN (R191, R382), the time
pulse (R293), SYSPLL where an expert asks for it, an island that has or asks for it. In FAIL it waits for its retry (R395). -/
def State.xtalFollow (s : State) : State :=
  let need := s.get F.CLK_STAT_RFSYN != 0 || s.on F.TP_CTRL_EN ||
    (s.expert .clk && !s.on F.CLK_CFG_PLL_REF && s.get F.CLK_STAT_SYSPLL != 0) ||
    (List.range 16).any fun i => s.get (F.CLK_ISL_SEL i) == 3 || s.get (F.CLK_ISL_ACT i) == 3
  let st := s.get F.CLK_STAT_XTALG
  if need && st == 0 then s.put F.CLK_STAT_XTALG 1
  else if !need && (st == 1 || st == 2) then s.puts [(F.CLK_STAT_XTALG, 0), (F.CLK_STAT_REF_ACT, 1)]
  else s

/-- The receiver's RF starts or powers down (R191, R387): RFSYN, whose sample clocks run islands 4 and 5, and XTAL-G. -/
def State.rfClocks (s : State) (on : Bool) : State :=
  if on then
    (if s.get F.CLK_STAT_RFSYN = 0 ∧ s.get F.CLK_STAT_XTALG ≠ 3 then s.put F.CLK_STAT_RFSYN 1 else s).xtalFollow
  else (s.puts [(F.CLK_STAT_RFSYN, 0), (F.CLK_ISL_RUNNING 3, 0), (F.CLK_ISL_RUNNING 4, 0)]).xtalFollow

/-- GNSS mode OFF while the source is GNSS (R103, R279). -/
def State.gnssOffTide (s : State) : State :=
  if s.get F.TIDE_STAT_ACT_SRC = 0 then
    (s.withTide fun t => { t with valid := withBit t.valid 0 false }).holdover
  else s.withTide fun t => { t with valid := withBit t.valid 0 false }

/-- The always-on section takes the time, and TFS powers down (R275 step 1); the pulses stop with it. -/
def State.tideToAon (s : State) : State :=
  ((s.withTide fun t => { t with carried := true, alignDue := false }).put F.PWR_DOMS_PG
    (withBit (s.get F.PWR_DOMS_PG) 13 false)).pulseOn

/-- The fast section takes the time back (R275 steps 4 and 5), and an alignment is due. -/
def State.tideToFast (s : State) : State :=
  let due := s.tide.carried
  ((s.withTide fun t => { t with carried := false, alignDue := t.alignDue || due }).put F.PWR_DOMS_PG
    (withBit (s.get F.PWR_DOMS_PG) 13 true)).pulseOn

/-- The time passes to one that lies ahead. A command that comes at a time the state holds brings that time with it (DESIGN
CHOICE: the sender need not wait for it tick by tick). -/
def State.passTo (s : State) (t : Nat) : State :=
  if s.tide.now < t then
    s.tideCount (t - s.tide.now) (if s.fastRuns then s.get F.TIDE_HOLD_GROW else s.get F.TIDE_HOLD_SLPGROW)
  else s

/-- SOURCE_TIMEOUT (R277, R279): a source has given no accepted measurement for HTO seconds; they pass where they have not
yet. -/
def execSourceTimeout (src : Fin 3) (s : State) : Host.Outcome State Fault Refusal :=
  .next <|
    let s1 := match s.tide.lastAt.getD src none with
      | some p =>
        if bitOf s.tide.valid src then s.passTo (s.tide.now + (p + s.get F.TIDE_CFG_HTO * tideOne - s.tide.up)) else s
      | none => s
    (s1.withTide fun t => { t with valid := withBit t.valid src false }).checkSources

/-- Whether the receiver rests (R99): no measurement epoch or burst is open or still to be solved, and no capture runs. -/
def State.receiverRests (s : State) : Bool :=
  !s.gnss.opened && !s.gnss.solving && !s.gnss.window && !s.gnss.settling && s.gnss.capture.isNone

/-- TIDE_STEP_APPLY (R270): at the receiver's quiet point. -/
def execTideStepApply (s : State) : Host.Outcome State Fault Refusal :=
  .next (match s.tide.step with | some d => if s.receiverRests then s.applyStep d else s | none => s)

/-- A step by ADDS and ADDF (R270). -/
def State.softStep (s : State) : State :=
  s.requestStep ((s.getS F.TIDE_ADDS_SEC * (2 ^ 32 : Nat) + s.get F.TIDE_ADDF_FRAC) * (2 ^ 24 : Nat))

/-- TIDE_CTRL_STEP. -/
def execTideCtrlStep (side : Side) (s : State) : Host.Outcome State Fault Refusal :=
  .next (s.guard .tide 0x54 side true State.softStep)

/-- Capture the Tide time into the snapshot of TIDE_NOWL, NOWH and NOWF (R269). -/
def State.captureNow (s : State) : State :=
  let sec := s.tideSec
  { s.puts [(F.TIDE_NOWL_SEC, sec), (F.TIDE_NOWH_SECH, sec / 2 ^ 32), (F.TIDE_NOWF_FRAC, s.tideFrac)] with
    busData := BitVec.ofNat 32 sec }

/-- TIDE_NOWL_READ. -/
def execTideNowlRead (s : State) : Host.Outcome State Fault Refusal := .next s.captureNow

/-- WAKE_ALIGNMENT (R275 step 6): `ns` is the fast section's stamp of the edge less the carried time. -/
def execWakeAlignment (ns : Int) (s : State) : Host.Outcome State Fault Refusal :=
  .next <|
    if s.tide.alignDue then
      let s1 := s.withTide fun t => { t with now := addTime t.now (-ofNanos ns), alignDue := false }
      (s1.putS F.TIDE_ALIGN_ALIGN ns).raise Src.TIDE_ALIGN (pattern 32 ns) 0
    else s

/-- TIDE_ERR_LIMIT (R291): an estimate past TP_ERRLIM in holdover counts as a loss of discipline. GNSS_OSNMA.TIME_OK is
shown from the estimate itself (R114). -/
def execTideErrLimit (s : State) : Host.Outcome State Fault Refusal := .next s.pulsePolicy

/-- Facts of the commands of the TIDE group. -/
def tideCmd : CmdInfo := { block := some .tide, heritage := true }

def tideSource : Nat → String := Name.pick ["GNSS", "PPS", "STT", "AUTO"]
def tideScale : Nat → String := Name.pick ["GPS", "GAL", "BDS", "GLO", "QZS", "NAV", "UTC", "TIDE"]

/-- A Tide time in seconds with nine decimals, truncated. -/
def tideText (sec frac : Nat) : String := Text.dec sec ++ "." ++ Text.pad 9 (frac * 1000000000 / 2 ^ 32)

/-- TIDE_QUERY (R280, R295). -/
def execTideQuery (x : Sess) (s : State) : Host.Outcome State Fault Refusal :=
  .next <| s.run x { tideCmd with query := true } fun t =>
    (t.reply x ("TIDE TIME=" ++ tideText t.tideSec t.tideFrac ++ " SCALE=" ++ tideScale (t.get F.TIDE_CFG_SCALE) ++
      " SRC=" ++ tideSource (t.get F.TIDE_CFG_SRC) ++ " STATE=" ++
      (if t.get F.TIDE_STAT_STATE = 1 then "LOCKED" else "HOLD") ++ " AGE=" ++ Text.dec (t.get F.TIDE_STAT_AGE) ++
      " ERR=" ++ Text.dec (t.get F.TIDE_ERR_ERR))).ok x

/-- The source chosen (R277). -/
def State.chooseSource (s : State) (src : Nat) : State := (s.put F.TIDE_CFG_SRC src).deriveLoop.checkSources

/-- TIDE_SRC. -/
def execTideSrc (x : Sess) (src : Fin 4) (s : State) : Host.Outcome State Fault Refusal :=
  .next (s.run x tideCmd fun t => (t.chooseSource src).ok x)

/-- TIDE_SCALE. -/
def execTideScale (x : Sess) (scale : Fin 6) (s : State) : Host.Outcome State Fault Refusal :=
  .next (s.run x tideCmd fun t => (t.changeScale scale).ok x)

/-- TIDE_LEAP. -/
def execTideLeap (x : Sess) (leap : Int) (s : State) : Host.Outcome State Fault Refusal :=
  .next <| s.run x tideCmd fun t => if leap.natAbs ≤ 64 then (t.setLeap leap false).ok x else t.er x 120

/-- TIDE_RATE (R295): `adj` is the rate in 2^-40. -/
def execTideRate (x : Sess) (adj : Int) (s : State) : Host.Outcome State Fault Refusal :=
  .next <| s.run x { tideCmd with expert := true } fun t =>
    if 549755814 < adj.natAbs then t.er x 120
    else if t.on F.TIDE_CFG_LOOP_OPEN then (t.putS F.TIDE_RATE_ADJ adj).ok x
    else t.er x 230

/-- TIDE_LOOP (R278): the gains in 2^-16, and the loop open or closed. -/
def execTideLoop (x : Sess) (kp ki : Option (BitVec 16)) (isOpen : Option Bool) (s : State) :
    Host.Outcome State Fault Refusal :=
  .next <| s.run x { tideCmd with expert := true } fun t =>
    let t1 := match kp with | some v => t.put F.TIDE_GAIN_KP v.toNat | none => t
    let t2 := match ki with | some v => t1.put F.TIDE_GAIN_KI v.toNat | none => t1
    (match isOpen with | some o => t2.flag F.TIDE_CFG_LOOP_OPEN o | none => t2).ok x

end Sys2Proof.Machine
end

