-- ==== Sys2Proof/Machine/Signals.lean ====
section
/-! DEFINITION. The signals, satellites and modes of the receiver as tables (R89 to R94, R105, R125, R153, R159), and the
accessors of the receiver's state. -/

namespace Sys2Proof.Machine

namespace Sig

/-- The console name of a signal (R91). -/
def name : Nat → String :=
  Name.pick ["GPS-L1CA", "GPS-L1C", "GPS-L5", "GAL-E1", "GAL-E5A", "BDS-B1I", "BDS-B1C", "BDS-B2A", "GLO-L1OF",
    "QZS-L1CA", "QZS-L1C", "QZS-L5", "NAV-L5", "SBAS-L1"]

/-- The sub-band of a signal (R89). -/
def band (g : Nat) : Nat := [0, 1, 4, 1, 4, 2, 1, 4, 3, 0, 1, 4, 4, 0].getD g 0

/-- The rate of a signal's sub-band in samples per second (R89). -/
def rate (g : Nat) : Nat := [2046000, 4092000, 4092000, 10230000, 20460000].getD (band g) 1

/-- The nominal CODE_INC (R153). -/
def nominal (g : Nat) : Nat :=
  [0x80000000, 0x40000000, 0x80000000, 0x40000000, 0x80000000, 0x80000000, 0x40000000, 0x80000000, 0x0CC998CD,
    0x80000000, 0x40000000, 0x80000000, 0x0CCCCCCD, 0x80000000].getD g 0

/-- The carrier in Hz (R91); `k` is the GLONASS channel plus 7. -/
def carrier (g k : Nat) : Nat :=
  if g = 8 then 1602000000 + 562500 * k - 3937500
  else if g = 5 then 1561098000
  else if band g = 4 then 1176450000
  else 1575420000

/-- The offset f_off of R159 in Hz. -/
def offset (g k : Nat) : Int := if g = 8 then 281250 + 562500 * ((k : Int) - 7) else 0

/-- The chips of the primary code: the chip rate of R91 over the period of R153. -/
def chips (g : Nat) : Nat :=
  [1023, 10230, 10230, 4092, 10230, 2046, 10230, 10230, 511, 1023, 10230, 10230, 1023, 1023].getD g 1

/-- The primary code period in ms (R153). -/
def period (g : Nat) : Nat := [1, 10, 1, 4, 1, 1, 10, 1, 1, 1, 10, 1, 1, 1].getD g 1

/-- The data symbol in ms (R153); B1I has 2 ms where the satellite carries D2. -/
def symbol (g svn : Nat) : Nat :=
  if g = 5 then if Config.broadcastsD2 svn then 2 else 20
  else [20, 10, 10, 4, 20, 20, 10, 5, 10, 20, 10, 10, 20, 2].getD g 1

/-- The chips of the pilot's secondary code (R153); 0 where there is none. -/
def secondary (g : Nat) : Nat := [0, 1800, 20, 25, 100, 0, 1800, 100, 0, 0, 1800, 20, 0, 0].getD g 0

/-- Whether the signal is a data/pilot pair (R91, R92). -/
def pair (g : Nat) : Bool := secondary g != 0

/-- Whether the replica is BOC(1,1) (R153). -/
def boc (g : Nat) : Bool := [1, 3, 6, 10].contains g

/-- Whether the Lookout searches the signal directly (R125). -/
def direct (g : Nat) : Bool := [0, 3, 5, 8, 9, 12, 13].contains g

/-- The signal from whose tracking a signal is started (R153). -/
def partner (g : Nat) : Option Nat :=
  match g with
  | 1 | 2 => some 0
  | 4 => some 3
  | 6 | 7 => some 5
  | 10 | 11 => some 9
  | _ => none

/-- The system of a signal (R91, R93). -/
def sys (g : Nat) : Nat := [0, 0, 0, 1, 1, 2, 2, 2, 3, 4, 4, 4, 5, 6].getD g 7

/-- The pass of a signal (R105). -/
def pass (g : Nat) : Nat := if [0, 3, 5, 8, 9, 12, 13].contains g then 1 else if [2, 4, 7, 11].contains g then 2 else 3

/-- Whether a mode serves a signal (R94, R97, R105). -/
def inMode (mode g : Nat) : Bool :=
  if mode = 1 ∨ mode = 3 then g < 14
  else if mode = 2 ∨ mode = 4 then g < 14 && band g != 4
  else if mode = 6 then [0, 3, 9].contains g
  else false

/-- The positions that CODE_PHI.SEC counts (R161): secondary chips of a pilot, else primary periods of a symbol. -/
def positions (g svn : Nat) : Nat := if pair g then secondary g else symbol g svn / period g

end Sig

/-- A satellite in its console form (R93). -/
def satName (sys svn : Nat) : String :=
  Name.pick ["GP", "GA", "BD", "GL", "QZ", "NV", "SB"] sys ++ (if svn < 10 then "0" else "") ++ Text.dec svn

/-- The systems of `PLAN SYS` (R83). -/
def sysName : Nat → String := Name.pick ["GPS", "GAL", "BDS", "GLO", "QZS", "NAV", "SBAS"]

/-- The receiver modes (R94). -/
def modeName : Nat → String :=
  Name.pick ["OFF", "TRACK-DUAL", "TRACK-L1", "BURST-DUAL", "BURST-L1", "SNAPSHOT", "HERITAGE"]

/-- A berth's states (R155). -/
def berthState : Nat → String := Name.pick ["IDLE", "WAIT", "PULL", "PARTNER", "TRACK", "LOST", "HOLD"]

/-- CODE_INC for a Doppler of `d` Hz over `q` (R159). -/
def codeInc (g k : Nat) (d : Int) (q : Nat) : Nat :=
  let f := (Sig.carrier g k * q : Nat)
  (roundDiv ((Sig.nominal g : Int) * ((f : Int) + d)) f).toNat

/-- CARR_INC for a Doppler of `d` Hz over `q` (R159). -/
def carrInc (g k : Nat) (d : Int) (q : Nat) : Int :=
  roundDiv ((d + Sig.offset g k * (q : Int)) * ((2 ^ 32 : Nat) : Int)) (Sig.rate g * q)

/-- The state with the receiver's own state replaced. -/
def State.withGnss (s : State) (f : GnssState → GnssState) : State := { s with gnss := f s.gnss }

/-- A berth's own state. -/
def State.berth (s : State) (n : Nat) : BerthState := Store.get (fun _ => BerthState.reset) s.gnss.berths n

/-- The state with a berth's own state replaced. -/
def State.setBerth (s : State) (n : Nat) (b : BerthState) : State :=
  s.withGnss fun g => { g with berths := Store.set (fun _ => BerthState.reset) g.berths n b }

/-- The state with a berth's own state changed. -/
def State.modBerth (s : State) (n : Nat) (f : BerthState → BerthState) : State := s.setBerth n (f (s.berth n))

/-- The mode in effect. -/
def State.mode (s : State) : Nat := s.get F.GNSS_MODE_ACT_MODE

/-- Whether a mode is continuous (R215). -/
def State.continuous (s : State) : Bool := s.mode == 1 || s.mode == 2 || s.mode == 6

/-- Whether a burst mode is in effect. -/
def State.bursts (s : State) : Bool := s.get F.GNSS_MODE_ACT_MODE == 3 || s.get F.GNSS_MODE_ACT_MODE == 4

/-- The identifier of the next epoch (R216). -/
def State.nextEpoch (s : State) : Nat := match s.gnss.epoch with | some e => (e + 1) % 65536 | none => 0

/-- The berths of the array. -/
def allBerths : List Nat := List.range 256

/-- Whether a berth runs and belongs to the console (R183). -/
def State.consoleBerth (s : State) (n : Fin 256) : Bool := s.on (F.BERTH_CFG_EN n) && s.owner (.berth n) == .console

/-- The block of a berth number. -/
def berthBlock (n : Nat) : Block := .berth ⟨n % 256, Nat.mod_lt _ (by decide)⟩

/-- The places of the plan (R118). -/
def planPlaces : List (Nat × Nat) := (List.range 128).flatMap fun i => [(i, 0), (i, 1), (i, 2)]

/-- Whether a slot is occupied (R118). -/
def State.slotUsed (s : State) (i : Nat) : Bool := s.get (F.PLAN_SLOT_SV_SYS i) != 7

/-- The plan entry that binds a berth. -/
def State.placeOf (s : State) (n : Nat) : Option (Nat × Nat) :=
  planPlaces.find? fun p =>
    s.slotUsed p.1 && s.get (F.PLAN_SLOT_A_SIG p.1 p.2) != 15 && s.get (F.PLAN_SLOT_A_BERTH p.1 p.2) == n &&
      s.get (F.PLAN_SLOT_A_STATE p.1 p.2) != 0

/-- The berth to which a slot's signal is bound. -/
def State.berthOf (s : State) (slot sig : Nat) : Option Nat :=
  ([0, 1, 2].find? fun j => s.get (F.PLAN_SLOT_A_SIG slot j) == sig && s.get (F.PLAN_SLOT_A_BERTH slot j) < 256 &&
    s.get (F.PLAN_SLOT_A_STATE slot j) != 0).map fun j => s.get (F.PLAN_SLOT_A_BERTH slot j)

/-- The system of a berth's satellite, by its signal. -/
def State.berthSys (s : State) (n : Nat) : Nat := Sig.sys (s.get (F.BERTH_CFG_SIG n))

/-- Whether a signal's input is powered (R87, R97): HERITAGE has RFL5 off. -/
def State.rfOn (s : State) (five : Bool) : Bool :=
  if five then s.on F.FRONT_CFG_L5_EN && s.mode != 6 else s.on F.FRONT_CFG_L1_EN

/-- Whether a sub-band's input is powered and the mode has it: HERITAGE runs L1N and L1W alone (R89, R97). -/
def State.bandFed (s : State) (b : Nat) : Bool := s.rfOn (b == 4) && (s.mode != 6 || decide (b < 2))

/-- Whether a lane or a berth uses a sub-band. -/
def State.bandUsed (s : State) (b : Nat) : Bool :=
  (s.gnss.lanes.any fun l => Sig.band l.2.sig == b) ||
    allBerths.any fun n => s.on (F.BERTH_CFG_EN n) && Sig.band (s.get (F.BERTH_CFG_SIG n)) == b

/-- Whether a sub-band runs (R90): it is fed, and used or forced on by SUB_EN, which BASIC leaves at 0. -/
def State.bandRuns (s : State) (b : Nat) : Bool :=
  s.bandFed b && (bitOf (s.get F.FRONT_CFG_SUB_EN) b || s.bandUsed b)

/-- The band of the front that a band number names. -/
def State.band (s : State) (b : Nat) : FrontBand := if b = 0 then s.gnss.front1 else s.gnss.front5

/-- The state with a band of the front changed. -/
def State.modBand (s : State) (b : Nat) (f : FrontBand → FrontBand) : State :=
  s.withGnss fun g => if b = 0 then { g with front1 := f g.front1 } else { g with front5 := f g.front5 }

/-- The signal, satellite and channel of a berth: what waits for its quiet point, else what it follows. -/
def State.signalOf (s : State) (n : Nat) : Nat × Nat × Nat :=
  (s.berth n).next.getD (s.get (F.BERTH_CFG_SIG n), s.get (F.BERTH_CFG_SVN n), s.get (F.BERTH_CFG_GLO_K n))

/-- HERITAGE has the L5 input and the sub-bands beside L1N and L1W off, whoever sets them (R97). -/
def State.frontHeritage (s : State) : State :=
  if s.mode = 6 then s.puts [(F.FRONT_CFG_L5_EN, 0), (F.FRONT_CFG_SUB_EN, s.get F.FRONT_CFG_SUB_EN % 4)] else s

/-- The fields that the firmware derives from the mode in BASIC (R90, R94, R117, R191, R263): the inputs that it powers, no
sub-band beside those in use, and PR_LIM, which OFF and SNAPSHOT keep. -/
def State.deriveMode (s : State) : State :=
  let m := s.mode
  let near := s.bursts && (s.gnss.window || s.gnss.settling)
  let s1 := if s.expert .front then s
    else s.puts [(F.FRONT_CFG_L1_EN, bit (s.continuous || near || (m == 5 && s.gnss.capture.isSome))),
      (F.FRONT_CFG_L5_EN, bit (m == 1 || (m == 3 && near))), (F.FRONT_CFG_SUB_EN, 0)]
  let s2 := s1.frontHeritage
  let s3 := if s2.expert .gnss || m = 0 || m = 5 then s2
    else s2.put F.GNSS_CONSLIM_PR_LIM (if s.bursts && decide (10 < s.get F.GNSS_BURST_PERIOD) then 60 else 30)
  s3.deriveLoop

/-- Whether a berth belongs to the console: the others report through their registers and events alone (R183). -/
def State.consoleOwns (s : State) (n : Nat) : Bool := s.owner (berthBlock n) == .console

/-- Whether a berth has dump boundaries to wait for: in IDLE and HOLD it has none (R182). -/
def State.berthActive (s : State) (n : Nat) : Bool :=
  let st := s.get (F.BERTH_STAT_STATE n)
  1 ≤ st && st ≤ 5

/-- The plan entry that binds a berth shows a state (R118): 1 searching, 2 tracking. -/
def State.planState (s : State) (n v : Nat) : State :=
  match s.placeOf n with
  | some (i, j) => s.put (F.PLAN_SLOT_A_STATE i j) v
  | none => s

/-- Whether an ephemeris of a satellite is held, decoded from cleared words (R193). -/
def State.ephemerisHeld (s : State) (sys svn : Nat) : Bool :=
  s.gnss.store.any fun r => r.u.kind == .ephemeris && r.sys == sys && r.svn == svn

/-- Whether a Doppler can be predicted for a search (R129): from the almanac or the ephemeris, at a fix or an aided position. -/
def State.mayPredict (s : State) (q : Search) : Bool :=
  (s.gnss.fix.isSome || s.gnss.aid.any fun a => a.1.pos.isSome) &&
    (s.ephemerisHeld q.sys q.svn || s.gnss.store.any fun r => r.u.kind == .almanac && r.sys == q.sys)

/-- The prediction held for a berth. -/
def State.predOf (s : State) (n : Nat) : Option Pred := s.gnss.preds.find? fun p => p.berth.val == n

/-- An unsigned value in a field; where it does not fit, the spec states no value. -/
def State.fitU (s : State) (w v : Nat) : Nat := if v < 2 ^ w then v else Config.number s.free % 2 ^ w

/-- GNSS_STAT.TRACKED (R116): berths bound and in lock. -/
def State.tracked (s : State) : Nat :=
  (allBerths.filter fun n => s.get (F.BERTH_STAT_STATE n) == 4 && (s.on (F.BERTH_STAT_PLOCK n) ||
    s.on (F.BERTH_STAT_FLOCK n)) && (s.placeOf n).isSome).length

end Sys2Proof.Machine
end

