-- ==== Sys2Proof/Machine/Crypto.lean ====
section
/-! DEFINITION. The identity key, signed objects and the engine's state (R608 to R622). -/

namespace Sys2Proof.Machine

/-- The state with the crypto island's own state replaced. -/
def State.withCrypto (s : State) (f : CryptoState → CryptoState) : State := { s with crypto := f s.crypto }

namespace Identity

/-- The identity private key (R610). -/
def privateKey : List Byte :=
  Hash.shake256 (Ed448.ascii "AXN-IDENTITY" ++ (List.range 32).map Config.fuseSeed ++ leBytes 4 Config.lineage) 57

/-- The public key. -/
def publicKey : List Byte := Ed448.publicKey privateKey

/-- DEVID (R612). -/
def devid : List Byte := (Hash.shake256 publicKey 32).take 8

end Identity

/-- The first 24 bytes of a signed object (R615), with its counters. -/
def signHead (kind bootn sseq : Nat) : List Byte :=
  leBytes 2 1 ++ leBytes 2 kind ++ leBytes 4 Config.lineage ++ Identity.devid ++ leBytes 4 bootn ++ leBytes 4 sseq

/-- A fix's body (R615) from the sixteen words of its record (R236); the counters are filled in when the signing
starts. -/
def fixBody (w : List Nat) (sech scale tst : Nat) : List Byte :=
  let g := fun i => w.getD i 0
  let half := fun (v : Nat) => leBytes 2 v
  List.replicate 24 0 ++ half (g 0) ++ leBytes 1 (bitsOf (g 0) 24 4) ++ leBytes 1 (bitsOf (g 1) 0 5) ++
    leBytes 1 (bitsOf (g 0) 16 8) ++ leBytes 1 (bitsOf (g 1) 16 8) ++ leBytes 1 (bitsOf (g 1) 8 8) ++
    leBytes 1 (bitsOf (g 4) 16 8) ++ leBytes 4 (g 2) ++ half sech ++ half (g 4) ++ leBytes 4 (g 3) ++
    leBytes 4 (bitsOf (g 5) 0 30) ++ leBytes 4 (g 9) ++ leBytes 4 (g 10) ++ leBytes 4 (g 11) ++
    half (bitsOf (g 13) 16 16) ++ half (g 13) ++ half (bitsOf (g 14) 16 16) ++ half (g 15) ++
    half (bitsOf (g 8) 14 14) ++ half (bitsOf (g 8) 0 14) ++ half (bitsOf (g 15) 16 16) ++ half (g 12) ++
    leBytes 4 (g 6) ++ leBytes 1 scale ++ leBytes 1 tst ++ List.replicate 14 0

/-- An attestation statement (R620), formed as its signing starts. -/
def State.statement (s : State) (sseq : Nat) (nonce : List Byte) : List Byte :=
  let img := s.get (if s.on F.LIFE_SLOT_ACTIVE then F.LIFE_VERB_VERSION else F.LIFE_VERA_VERSION)
  signHead 2 s.crypto.bootn sseq ++ leBytes 4 Config.firmware ++ leBytes 4 img ++ leBytes 1 Config.silicon ++
    leBytes 1 (s.get F.LIFE_STATE_STATE) ++ leBytes 1 (s.get F.LIFE_STATE_REDEPLOY) ++
    leBytes 1 (s.get F.LIFE_STATE_ROLLBACK) ++ leBytes 2 (min 0xFFFF s.crypto.tamper) ++
    leBytes 1 (s.get F.TIDE_STAT_STATE) ++ leBytes 1 nonce.length ++ leBytes 4 s.tideSec ++
    leBytes 2 (s.tideSec / 2 ^ 32) ++ leBytes 2 0 ++ leBytes 4 s.tideFrac ++ List.replicate 12 0 ++ nonce ++
    List.replicate (32 - nonce.length) 0

/-- The object to sign of a request with its SSEQ: kind and body. -/
def State.signBody (s : State) (r : SignReq) (q : Nat) : List Byte :=
  match r.who with
  | .attest _ _ nonce => s.statement q nonce
  | _ => signHead 1 s.crypto.bootn q ++ r.body.drop 24

/-- The signature of a request's object (R613). -/
def signature (r : SignReq) : List Byte :=
  Ed448.sign Identity.privateKey
    (Ed448.ascii (match r.who with | .attest _ _ _ => "OLXON-ATTS" | _ => "OLXON-SFIX")) r.body

/-- CRYPTO_KEY.QLVL follows the queue. -/
def State.setQueue (s : State) (l : List SignReq) : State :=
  (s.withCrypto fun c => { c with queue := l }).put F.CRYPTO_KEY_QLVL l.length

/-- A derivation of the key begins (R611), unless the key is held or it runs already. -/
def State.deriveKey (s : State) : State :=
  if s.on F.CRYPTO_KEY_READY || s.crypto.deriving_ || s.on F.MEMCTL_WIPE_BUSY || !s.powered 11 then s
  else (s.withCrypto fun c => { c with deriving_ := true }).put F.CRYPTO_KEY_BUSY 1

/-- A wipe begins (R483, R621): the key is gone; a signing or a derivation stops with SIGN_ERR, and its request runs again
from its start with the same SSEQ. -/
def State.signWiped (s : State) : State :=
  let busy := s.crypto.run.isSome || s.crypto.deriving_
  let s1 := (s.withCrypto fun c => { c with run := none, deriving_ := false }).setQueue
    (match s.crypto.run with | some r => r :: s.crypto.queue | none => s.crypto.queue)
  let s2 := (s1.put F.CRYPTO_KEY_READY 0).put F.CRYPTO_KEY_BUSY 0
  if busy then s2.raise Src.SIGN_ERR 1 0 else s2

/-- CRY goes off or is reset (R621): requests queued or running are lost unreported, the key with the bank. -/
def State.signLost (s : State) : State :=
  (((s.withCrypto fun c => { c with run := none, deriving_ := false }).setQueue []).put F.CRYPTO_KEY_READY 0).put
    F.CRYPTO_KEY_BUSY 0

/-- CRYPTO_SFCFG.KEEP as the firmware sets it in BASIC (R619). -/
def State.deriveKeep (s : State) : State :=
  if s.expert .crypto then s
  else s.flag F.CRYPTO_SFCFG_KEEP (s.on F.CRYPTO_SFCFG_AUTO && s.bursts && decide (s.get F.GNSS_BURST_PERIOD ≤ 10))

/-- Whether the signed-fix ring has room for a record (R618). -/
def State.signRoom (s : State) : Bool :=
  !s.on F.CRYPTO_SFCFG_EN ||
    (s.get F.CRYPTO_SFHEAD_IDX + 1) % 2 ^ s.get F.CRYPTO_SFCFG_SIZE != s.get F.CRYPTO_SFTAIL_IDX

/-- A signed fix written into the ring (R618): sixteen full blocks. -/
def State.signRecord (s : State) (l : List Byte) : State :=
  if s.on F.CRYPTO_SFCFG_EN then
    let i := s.get F.CRYPTO_SFHEAD_IDX
    let b := s.get F.CRYPTO_SFBASE_ADDR * 16 + i * 16
    ((List.range 16).foldl (fun t k => t.writeBlock (b + k) ((l.drop (16 * k)).take 16)) s).put F.CRYPTO_SFHEAD_IDX
      ((i + 1) % 2 ^ s.get F.CRYPTO_SFCFG_SIZE)
  else s

/-- Hexadecimal lines of some bytes, split at these lengths. -/
def hexLines (pre : String) : List Nat → List Byte → List String
  | [], _ => []
  | n :: r, l => (pre ++ Text.hexBytes 1000 ((l.take n).map (·.toNat))) :: hexLines pre r (l.drop n)

/-- DEVID in four groups of four hexadecimal digits (R612). -/
def devidText : String :=
  let h := fun i => Text.hexBytes 1000 (((Identity.devid.drop (2 * i)).take 2).map (·.toNat))
  h 0 ++ "-" ++ h 1 ++ "-" ++ h 2 ++ "-" ++ h 3

end Sys2Proof.Machine
end

