-- ==== Sys2Proof/Machine/Pads.lean ====
section
/-! DEFINITION. The pads: what the device drives on a GPIO pin, the level a pad has, and what an input reads (R326, R635,
R640 to R648). -/

namespace Sys2Proof.Machine

/-- The pads with a change. -/
def State.withPads (s : State) (f : Pads → Pads) : State := { s with pads := f s.pads }

/-- Whether the bank of a GPIO pin is powered (R326, R638). -/
def State.bankOn (s : State) (p : Nat) : Bool := if p < 24 then s.on F.PWR_STAT_IO1_OK else s.on F.PWR_STAT_IO2_OK

/-- Whether the touch proximity front end runs (R603). -/
def State.proxRuns (s : State) : Bool :=
  let m := s.get F.TOUCH_CFG_MODE
  m == 3 || ((m == 1 || m == 2) && s.on F.TOUCH_CFG_PROXEN)

/-- The function of a pin (R640, R642). -/
def State.pinFunc (s : State) (p : Nat) : Nat := if 44 ≤ p && s.proxRuns then 3 else s.get (F.GPIO_PIN_FUNC p)

/-- The pins of R641. -/
def altPins : List Nat := [16, 17, 18, 19, 20, 21, 22, 24, 25, 26, 27, 32, 33, 34, 36, 37, 38, 39]

/-- Bit `p` of a register pair of GPIO. -/
def pairBit (w0 w1 p : Nat) : Bool := if p < 32 then bitOf w0 p else bitOf w1 (p - 32)

/-- What a peripheral drives on its alternate pin between characters and frames (R641, R647): MEASOK and XMITOK by the
store's band, undriven in Heart-note and Base-note, UART TX idle high, the SPI host's chip select and clock. -/
def State.altDrive (s : State) (p : Nat) : Option Bool :=
  let spi := fun k sel =>
    if s.on (F.SPI_CFG_EN k) && s.on (F.SPI_CFG_HOST k) then
      if sel then some (2 ≤ s.power.depth || !s.on (F.SPI_STAT_BUSY k))
      else if 2 ≤ s.power.depth then none else some (bitOf (s.get (F.SPI_CFG_MODE k)) 1)
    else none
  match p with
  | 16 => if s.on (F.UART_CFG_EN 1) then some true else none
  | 32 => if s.on (F.UART_CFG_EN 2) then some true else none
  | 21 => if 2 ≤ s.power.depth then none else some (4 ≤ s.get F.HARV_STAT_BAND)
  | 22 => if 2 ≤ s.power.depth then none else some (s.get F.HARV_STAT_BAND == 5)
  | 24 => spi 0 false
  | 27 => spi 0 true
  | 36 => spi 1 false
  | 39 => spi 1 true
  | _ => none

/-- Open drain: a high level is left to the pull. -/
def openDrain (od level : Bool) : Option Bool := if od && level then none else some level

/-- What the boundary register drives on a GPIO pin (R634): three cells per pin, input, output and output enable, in pin
order (DESIGN CHOICE: the BSDL file is not in the spec). -/
def Pads.cell (d : Pads) (p : Nat) : Option Bool := if bitOf d.boundary (3 * p + 2) then some (bitOf d.boundary (3 * p + 1)) else none

/-- What the device drives on a pad: none if the pad is undriven. -/
def State.padDrive (s : State) (p : Nat) : Option Bool :=
  if !s.bankOn p then none
  else if s.pads.seen.isSome then (if s.pads.tap = .highz then none else s.pads.cell p)
  else
    match s.pads.forced.find? fun c => c.1 == p with
    | some (_, v) => if v = 2 then none else some (v == 1)
    | none =>
      match s.pinFunc p with
      | 0 =>
        if pairBit (s.get F.GPIO_OE0_OE) (s.get F.GPIO_OE1_OE) p then
          openDrain (s.on (F.GPIO_PIN_OD p)) (pairBit (s.get F.GPIO_OUT0_OUT) (s.get F.GPIO_OUT1_OUT) p)
        else none
      | 1 => s.altDrive p
      | 2 => if bitOf s.pads.dir p then openDrain (s.on (F.GPIO_PIN_OD p)) (bitOf s.pads.level p) else none
      | _ => none

/-- The level of a pad: what the device drives, else the level last seen from outside, else the pull's. -/
def State.padLevel (s : State) (p : Nat) : Bool :=
  if !s.bankOn p then false
  else
    match s.padDrive p with
    | some b => b
    | none =>
      if bitOf s.pads.known p then bitOf s.pads.ext p
      else
        match s.get (F.GPIO_PIN_PULL p) with
        | 1 => true
        | 2 => false
        | _ => Config.floating p

/-- Whether a pin's input buffer is on (R643). -/
def State.inputOn (s : State) (p : Nat) : Bool :=
  let f := s.pinFunc p
  (f == 0 && s.on (F.GPIO_PIN_IEN p)) || f == 1 || f == 2 || s.get (F.GPIO_PIN_WAKE p) != 0 ||
    (List.range 16).any fun k => s.get (F.GPIO_ECH_EDGE k) != 0 && s.get (F.GPIO_ECH_PIN k) == p

/-- What the device's logic reads of a pin (R635, R643): 0 with its buffer off. -/
def State.padIn (s : State) (p : Nat) : Bool :=
  s.inputOn p && (match s.pads.seen with | some v => bitOf v p | none => s.padLevel p)

/-- A number from its bits. -/
def ofBits (n : Nat) (f : Nat → Bool) : Nat := (List.range n).foldr (fun i a => bit (f i) + 2 * a) 0

/-- GPIO_IN (R644). -/
def State.gpioIn (s : State) (second : Bool) : Nat :=
  if second then ofBits 16 fun i => s.padIn (32 + i) else ofBits 32 s.padIn

/-- The state with an OUT bit written (R644, R645). -/
def State.setOut (s : State) (p : Nat) (b : Bool) : State :=
  if p < 32 then s.put F.GPIO_OUT0_OUT (withBit (s.get F.GPIO_OUT0_OUT) p b)
  else s.put F.GPIO_OUT1_OUT (withBit (s.get F.GPIO_OUT1_OUT) (p - 32) b)

/-- An event at output channel `k` (R645). -/
def State.outEvent (s : State) (k : Nat) : State :=
  let p := s.get (F.GPIO_OCH_PIN k)
  match s.get (F.GPIO_OCH_ACT k) with
  | 0 => s.setOut p true
  | 1 => s.setOut p false
  | _ => s.setOut p !pairBit (s.get F.GPIO_OUT0_OUT) (s.get F.GPIO_OUT1_OUT) p

/-- An outside level on a pin. -/
def State.outside (s : State) (p : Nat) (level : Bool) : State :=
  s.withPads fun d => { d with ext := withBit d.ext p level, known := withBit d.known p true }

end Sys2Proof.Machine
end

