-- ==== Sys2Proof/Machine/RtcTime.lean ====
section
/-! DEFINITION. The RTC's representations: BINARY and CALENDAR, their conversion, the registers they are read from and
staged in, and the oscillator-stopped flag (R298 to R308, R316, R317). -/

namespace Sys2Proof.Machine

namespace Cal

/-- Seconds from 2000-01-01T00:00:00 to 2020-01-01T00:00:00 (R300). -/
def base : Nat := 631152000

/-- Seconds of the calendar's 400 years. -/
def span : Nat := 12622780800

/-- Days before year 2000 + `y`. -/
def daysBefore (y : Nat) : Nat := 365 * y + (y + 3) / 4 - (y + 99) / 100 + (y + 399) / 400

/-- Whether year 2000 + `y` is a leap year. -/
def leap (y : Nat) : Bool := y % 4 == 0 && (y % 100 != 0 || y % 400 == 0)

/-- The days of month `m` of year 2000 + `y`. -/
def monthDays (y m : Nat) : Nat :=
  if m = 2 then (if leap y then 29 else 28)
  else if m = 4 ∨ m = 6 ∨ m = 9 ∨ m = 11 then 30 else 31

/-- The days of the first `m` months of year 2000 + `y`. -/
def monthsBefore (y : Nat) : Nat → Nat
  | 0 => 0
  | m + 1 => monthsBefore y m + monthDays y (m + 1)

/-- The year, less 2000, of a day counted from 2000-01-01. -/
def yearOf (days : Nat) : Nat :=
  let y := days / 366
  let y1 := if daysBefore (y + 1) ≤ days then y + 1 else y
  if daysBefore (y1 + 1) ≤ days then y1 + 1 else y1

/-- The month of day `d` (from 0) of year 2000 + `y`. -/
def monthOf (y d : Nat) : Nat := ((List.range 12).filter fun m => monthsBefore y m ≤ d).length

/-- Two BCD digits. -/
def bcd (n : Nat) : Nat := n / 10 * 16 + n % 10

/-- The value of two BCD digits, if both are digits. -/
def ofBcd (n : Nat) : Option Nat := if n % 16 ≤ 9 ∧ n / 16 ≤ 9 then some (n / 16 * 10 + n % 16) else none

/-- The date and time of a count of seconds since 2000-01-01. -/
def dateOf (t : Nat) : DateTime :=
  let days := t / 86400
  let y := yearOf days
  let d := days - daysBefore y
  let m := monthOf y d
  ⟨2000 + y, m, d - monthsBefore y (m - 1) + 1, t % 86400 / 3600, t % 3600 / 60, t % 60⟩

/-- Whether a date and time is valid (R298, R306). -/
def valid (d : DateTime) : Bool :=
  2000 ≤ d.year && d.year < 2400 && 1 ≤ d.month && d.month ≤ 12 && 1 ≤ d.day &&
    decide (d.day ≤ monthDays (d.year - 2000) d.month) && d.hour < 24 && d.minute < 60 && d.second < 60

/-- The count of seconds since 2000-01-01 of a date and time. -/
def count (d : DateTime) : Nat :=
  let y := d.year - 2000
  (daysBefore y + monthsBefore y (d.month - 1) + d.day - 1) * 86400 + d.hour * 3600 + d.minute * 60 + d.second

/-- The weekday of a count: 1 Monday to 7 Sunday; 2000-01-01 was a Saturday. -/
def weekday (t : Nat) : Nat := (t / 86400 + 5) % 7 + 1

/-- The word of RTC_CAL0 (R323). -/
def word0 (t : Nat) : Nat :=
  let d := dateOf t
  bcd d.second + bcd d.minute * 2 ^ 8 + bcd d.hour * 2 ^ 16 + weekday t * 2 ^ 24

/-- The word of RTC_CAL1. -/
def word1 (t : Nat) : Nat :=
  let d := dateOf t
  bcd d.day + bcd d.month * 2 ^ 8 + bcd (d.year % 100) * 2 ^ 16 + (d.year / 100 - 20) * 2 ^ 24

/-- The BINARY count of a calendar count (R300): before 2020 it lies in the band below 2^40. -/
def toBinary (c : Nat) : Nat := if base ≤ c then c - base else 2 ^ 40 + c - base

/-- The calendar count of a BINARY count, where it falls in the calendar's range. -/
def ofBinary (b : Nat) : Option Nat :=
  if 2 ^ 40 - base ≤ b then some (b - (2 ^ 40 - base)) else if b + base < span then some (b + base) else none

end Cal

/-- The state with the backup domain's own state replaced. -/
def State.withRtc (s : State) (f : RtcState → RtcState) : State := { s with rtc := f s.rtc }

/-- The live words of the time group: RTC_BSEC, BHI, CAL0, CAL1 (R298, R304, R323). -/
def State.rtcGroup (s : State) : List Nat :=
  [s.rtc.bin % 2 ^ 32, s.rtc.bin / 2 ^ 32 + s.rtc.pre * 2 * 2 ^ 16, Cal.word0 s.rtc.cal, Cal.word1 s.rtc.cal]

/-- OSF is set (R316): TSET clears (R317), and RTC_OSF is raised. -/
def State.rtcOsf (s : State) : State := ((s.put F.RTC_STAT_OSF 1).put F.RTC_STAT_TSET 0).raise0 Src.RTC_OSF

/-- The staged calendar value, where it is a valid date and time (R306). -/
def State.stagedDate (s : State) : Option DateTime :=
  match Cal.ofBcd (s.get F.RTC_SCAL0_SEC), Cal.ofBcd (s.get F.RTC_SCAL0_MIN), Cal.ofBcd (s.get F.RTC_SCAL0_HOUR),
    Cal.ofBcd (s.get F.RTC_SCAL1_DAY), Cal.ofBcd (s.get F.RTC_SCAL1_MONTH), Cal.ofBcd (s.get F.RTC_SCAL1_YEAR) with
  | some sec, some min, some hour, some day, some month, some year =>
    let d : DateTime := ⟨2000 + 100 * s.get F.RTC_SCAL1_CENT + year, month, day, hour, min, sec⟩
    if Cal.valid d then some d else none
  | _, _, _, _, _, _ => none

/-- A count pair loaded, with what every applied set does (R305, R307). -/
def State.loadTime (s : State) (bin cal : Nat) : State :=
  let cut := s.rtc.shift.isSome
  let s1 := s.withRtc fun r => { r with bin := bin, cal := cal, pre := 0, setPend := false, shift := none, edges := 0 }
  let s2 := s1.puts [(F.RTC_STAT_TSET, 1), (F.RTC_DISCT_SEC, bin), (F.RTC_APPLY_PEND, 0)]
  if cut then (s2.put F.RTC_STAT_SHIFT_CUT 1).flag F.RTC_SHIFT_PEND s.rtc.shiftPend else s2

/-- The staged set applies (R299, R305, R306). A binary count past the calendar's last year has no calendar value that
the spec states: it is a free one. -/
def State.applySet (s : State) : State :=
  let s1 := (s.withRtc fun r => { r with setPend := false }).put F.RTC_APPLY_PEND 0
  if s.on F.RTC_CTRL_MODE then
    match s.stagedDate with
    | some d => s1.loadTime (Cal.toBinary (Cal.count d)) (Cal.count d)
    | none => s1.put F.RTC_STAT_BADSET 1
  else
    let b := s.get F.RTC_SBSEC_SEC + s.get F.RTC_SBHI_SECH * 2 ^ 32
    match Cal.ofBinary b with
    | some c => s1.loadTime b c
    | none => s1.spend.loadTime b (Config.number s.free % Cal.span)

/-- Write the staging registers of the selected representation with a calendar count; a pending set keeps them
(R306). -/
def State.stage (s : State) (c : Nat) : State :=
  if s.rtc.setPend then s
  else if s.on F.RTC_CTRL_MODE then
    let d := Cal.dateOf c
    s.puts [(F.RTC_SCAL0_SEC, Cal.bcd d.second), (F.RTC_SCAL0_MIN, Cal.bcd d.minute), (F.RTC_SCAL0_HOUR, Cal.bcd d.hour),
      (F.RTC_SCAL1_DAY, Cal.bcd d.day), (F.RTC_SCAL1_MONTH, Cal.bcd d.month),
      (F.RTC_SCAL1_YEAR, Cal.bcd (d.year % 100)), (F.RTC_SCAL1_CENT, d.year / 100 - 20)]
  else
    let b := Cal.toBinary c
    (s.put F.RTC_SBSEC_SEC b).put F.RTC_SBHI_SECH (b / 2 ^ 32)

/-- A set waits for the next second boundary. -/
def State.setAtSecond (s : State) : State := (s.withRtc fun r => { r with setPend := true }).put F.RTC_APPLY_PEND 1

/-- A shift waits for the next second boundary (R309). -/
def State.startShift (s : State) (count : Int) : State :=
  ((s.putS F.RTC_SHIFT_COUNT count).withRtc fun r => { r with shiftPend := true }).put F.RTC_SHIFT_PEND 1

/-- Whether a shift or a set is pending (R310). -/
def State.rtcBusy (s : State) : Bool := s.rtc.setPend || s.rtc.shiftPend || s.rtc.shift.isSome

/-- A leap second as a 1 s step of the RTC (R301): a staged write at the next second boundary, which takes the count it
would have taken less the leap. While APP owns the RTC the firmware does not set it (R321). -/
def State.leapRtc (s : State) (delta : Int) : State :=
  if s.owner .rtc = .console ∧ !s.on F.RTC_STAT_LOCKED then
    (s.stage ((s.rtc.cal : Int) + 1 - delta).toNat).setAtSecond
  else s

/-- LEAP_APPLY (R274, R301). -/
def execLeapApply (s : State) : Host.Outcome State Fault Refusal :=
  .next <|
    if s.on F.TIDE_LEAP_PEND then
      let new := s.getS F.TIDE_LEAP_NEXT
      let delta := new - s.getS F.TIDE_LEAP_CUR
      ((s.setLeap new true).put F.TIDE_LEAP_PEND 0).leapRtc delta
    else s

/-- HERITAGE is entered (R303). -/
def State.rtcHeritage (s : State) : State :=
  s.puts [(F.RTC_CTRL_MODE, 1), (F.RTC_CTRL_TRK_RES, 2), (F.RTC_CTRL_TRK_DIODE, 1)]

end Sys2Proof.Machine
end

