-- ==== Sys2Proof/Machine/Triggers.lean ====
section
/-! DEFINITION. What an event of the router, a register bit or a command starts: a conversion sequence, a touch scan, an SPI
transfer, a DMA unit, a capture, a snapshot, the end of a grant (R586, R595, R574, R575, R145, R304, R376). -/

namespace Sys2Proof.Machine

/-- A grant is cut (R376): BPGNT falls, CUT is set, and BPREQ must go low before a new request. -/
def State.cutGrant (s : State) : State :=
  if s.on F.HARV_PSTAT_GNT then
    let s1 := ((s.put F.HARV_PSTAT_GNT 0).put F.HARV_PSTAT_CUT 1).count F.HARV_PCNT_CUTS
    { s1 with harv := { s1.harv with ready := false } }
  else s

/-- The snapshot of a side. -/
def RtcState.snap (r : RtcState) : Side → Option (List Nat)
  | .app => r.snapApp
  | .console => r.snapCon

/-- The snapshot of a side replaced. -/
def RtcState.setSnap (r : RtcState) (x : Side) (v : Option (List Nat)) : RtcState :=
  match x with
  | .app => { r with snapApp := v }
  | .console => { r with snapCon := v }

/-- A read of RTC_BSEC captures the time group for its side (R304). -/
def State.captureRtc (s : State) (side : Side) : State :=
  { s.withRtc (fun r => r.setSnap side (some s.rtcGroup)) with busData := BitVec.ofNat 32 s.rtc.bin }

/-- Start a capture (R145), for which RFL1 is powered (R94); a new capture discards the one held (R147). -/
def State.startCapture (s : State) : State :=
  ((s.withGnss fun g => { g with capture := some (s.get F.LOOKOUT_SNAP_MS, s.tide.now, s.get F.TIDE_STAT_STATE) }).puts
    [(F.LOOKOUT_SNAP_BUSY, 1), (F.LOOKOUT_SNAP_VALID, 0)]).deriveMode

/-- The ADC with a change. -/
def State.withAdc (s : State) (f : AdcState → AdcState) : State := { s with adc := f s.adc }

/-- The channels a sequence uses (R577). -/
def State.adcChannels (s : State) : List Nat :=
  let n := match s.get F.ADC_CFG_MODE with | 1 => 1 | 2 => 4 | 3 => s.get F.ADC_CFG_LEN | _ => 0
  (List.range n).map fun i => s.get (F.ADC_SEQ_CH i)

/-- Start a sequence (R582, R586, R587): none runs in OFF, and one that names an internal channel in FAST or SCAN is
refused. -/
def State.adcStart (s : State) : State :=
  let mode := s.get F.ADC_CFG_MODE
  if s.on F.ADC_STAT_BUSY || mode == 0 then s
  else if mode ≠ 3 ∧ s.adcChannels.any (24 ≤ ·) then s.put F.ADC_STAT_CFGERR 1
  else
    let n := s.get F.ADC_CFG_COUNT
    (s.withAdc fun a => { a with
      run := some { mode := mode, align := s.on F.ADC_CFG_ALIGN, pack := s.on F.ADC_CFG_PACK && mode == 1,
                    len := s.adcChannels.length, seq := s.adcChannels }
      frames := if n = 0 then none else some n
      pos := 0, stop := false, half := none, refSeen := false }).put F.ADC_STAT_BUSY 1

/-- The touch controller with a change. -/
def State.withTouch (s : State) (f : TouchState → TouchState) : State := { s with touch := f s.touch }

/-- The word of electrode `k` (R605). -/
def State.elecWord (s : State) (k : Nat) : Nat := s.get (F.TOUCH_ELEC_PIN k) + 128 * s.get (F.TOUCH_ELEC_EN k)

/-- Whether an electrode word enables its electrode. -/
def elecOn (w : Nat) : Bool := bitOf w 7

/-- The present settings of a scan (R595). -/
def State.scanSet (s : State) : ScanSet :=
  { mode := s.get F.TOUCH_CFG_MODE, pulses := s.get F.TOUCH_CFG_PULSES, thr := s.get F.TOUCH_THR_THR,
    hyst := s.get F.TOUCH_THR_HYST, blrate := s.get F.TOUCH_BL_BLRATE, ondeb := s.get F.TOUCH_BL_ONDEB,
    negth := s.get F.TOUCH_BL_NEGTH, elec := (List.range 32).map s.elecWord,
    groups := (List.range 8).flatMap fun g => [s.get (F.TOUCH_GRP_L_KEYS g), s.get (F.TOUCH_GRP_H_KEYS g)] }

/-- Whether a scan's map enables electrode `k`. -/
def ScanSet.on (c : ScanSet) (k : Nat) : Bool := elecOn (c.elec.getD k 0)

/-- The keys of each segment (R593), in order: SELF takes its enabled electrodes eight at a time. -/
def ScanSet.segments (c : ScanSet) : List (List Nat) :=
  match c.mode with
  | 1 =>
    let l := (List.range 32).filter c.on
    (List.range ((l.length + 7) / 8)).map fun i => (l.drop (8 * i)).take 8
  | 2 =>
    ((List.range 12).filter c.on).map fun t => ((List.range 16).filter fun r => c.on (16 + r)).map fun r => 16 * t + r
  | _ => []

/-- Start a scan (R593, R595): none in OFF and PROX. -/
def State.touchStart (s : State) : State :=
  let c := s.scanSet
  if s.on F.TOUCH_STAT_BUSY || s.on F.TOUCH_STAT_TESTING || !(c.mode == 1 || c.mode == 2) then s
  else
    (s.withTouch fun t => { t with scan := some c, segs := List.range c.segments.length, raws := [], late := false }).put
      F.TOUCH_STAT_BUSY 1

/-- An SPI port. -/
def State.spi (s : State) (k : Nat) : Spi := Store.get (fun _ => Spi.reset) s.spis k

/-- The state with an SPI port replaced. -/
def State.setSpi (s : State) (k : Nat) (p : Spi) : State := { s with spis := Store.set (fun _ => Spi.reset) s.spis k p }

/-- Start a host transfer (R574). -/
def State.spiStart (s : State) (k : Nat) : State :=
  if s.on (F.SPI_CFG_EN k) && s.on (F.SPI_CFG_HOST k) && !s.on (F.SPI_STAT_BUSY k) then
    (s.setSpi k { s.spi k with left := s.get (F.SPI_CTRL_COUNT k), abort := false }).put (F.SPI_STAT_BUSY k) 1
  else s

/-- A DMA channel. -/
def State.dmaCh (s : State) (k : Nat) : Dma := Store.get (fun _ => Dma.reset) s.dma k

/-- The state with a DMA channel replaced. -/
def State.setDma (s : State) (k : Nat) (d : Dma) : State := { s with dma := Store.set (fun _ => Dma.reset) s.dma k d }

/-- A router event at a DMA channel (R575): a unit to move, if the channel runs on such requests. -/
def State.dmaTrigger (s : State) (k : Nat) : State :=
  if s.on (F.DMA_CFG_EN k) && s.get (F.DMA_CFG_REQ k) == 12 then s.setDma k { s.dmaCh k with trig := true } else s

/-- A lighter. -/
def State.engine (s : State) (n : Nat) : Engine := Store.get (fun _ => Engine.reset) s.lgt n

/-- The state with a lighter replaced. -/
def State.setEngine (s : State) (n : Nat) (e : Engine) : State :=
  { s with lgt := Store.set (fun _ => Engine.reset) s.lgt n e }

/-- Capture the Tide time into EVR_CAPk (R527, R533). -/
def State.evrCapture (s : State) (k : Nat) : State :=
  s.puts [(F.EVR_CAPS_SEC k, s.tideSec % 2 ^ 32), (F.EVR_CAPF_FRAC k, s.tideFrac),
    (F.EVR_CAPSTAT_FULL, withBit (s.get F.EVR_CAPSTAT_FULL) k true)]

end Sys2Proof.Machine
end

