-- ==== Sys2Proof/Machine/Router.lean ====
section
/-! DEFINITION. The event router: producers, the wired pairs, consumers, overruns and watch channels (R525 to R531), and the
wake sources (R356). -/

namespace Sys2Proof.Machine

/-- A wake source (R356) while the device sleeps: pending if its bit of PWR_WAKEEN is set, or if it has none. -/
def State.wake (s : State) (code : Nat) : State :=
  if s.power.depth ≠ 0 ∧ (10 ≤ code ∨ bitOf (s.get F.PWR_WAKEEN_EN) code) then
    { s with power := { s.power with latched := withBit s.power.latched code true } }
  else s

/-- The producers wired to a consumer (R528). -/
def wired (c : Nat) : List Nat :=
  if c < 8 then [c, c + 8, 34 + c, 32]
  else if c < 16 then [c - 8, c, 19, 56 + (c - 8) % 4]
  else if c = 16 then [0, 1, 2, 3, 18, 19, 21, 63, 34, 35, 36, 37, 38, 39, 40, 41, 56]
  else if c = 17 then [18, 57, 62, 63]
  else if c = 18 then [0, 1, 34, 58]
  else if c = 19 then [2, 3, 35, 59]
  else if c < 22 then List.range 64
  else if c < 24 then [16, 17, 18, 19, 20, 21, 22, 23]
  else if c = 24 then
    [24, 25, 26, 27, 29, 30, 33, 34, 35, 36, 37, 38, 39, 40, 41, 42, 43, 44, 45, 63]
  else if c = 25 then [0, 1, 19, 20, 21, 56]
  else if c < 42 then [c - 26, 34 + (c - 26) % 8]
  else if c = 42 then [15, 24, 28]
  else if c = 43 then [0, 19, 20, 56]
  else if c = 44 then [0, 34, 18]
  else if c = 45 then [1, 35, 20]
  else if c = 46 then [2, 36]
  else if c = 47 then [3, 37]
  else []

/-- Whether the pair of a producer and a consumer is enabled (R529). -/
def State.pairOn (s : State) (p c : Nat) : Bool :=
  if p < 32 then bitOf (s.get (F.EVR_EN_L_EN c)) p else bitOf (s.get (F.EVR_EN_H_EN c)) (p - 32)

/-- The domain a consumer lies in, none for the always-on ones (R345, R527). -/
def consumerDomain (c : Nat) : Option Nat :=
  if c < 8 then some 8
  else if c < 16 then some 9
  else if c < 18 then some 10
  else if c < 20 then some 8
  else if c = 25 then some 7
  else if 26 ≤ c ∧ c < 42 then some 8
  else none

/-- Whether a consumer is busy (R527). -/
def State.consumerBusy (s : State) (c : Nat) : Bool :=
  if c < 8 then (s.dmaCh c).trig
  else if c < 16 then (s.engine (c - 8)).latch
  else if c = 16 then s.on F.ADC_STAT_BUSY
  else if c = 17 then s.on F.TOUCH_STAT_BUSY || s.on F.TOUCH_STAT_TESTING
  else if c < 20 then s.on (F.SPI_STAT_BUSY (c - 18))
  else if c < 24 then bitOf (s.get F.EVR_CAPSTAT_FULL) (c - 20)
  else if c = 25 then s.on F.LOOKOUT_SNAP_BUSY || s.mode != 5
  else if c = 43 then s.rtc.snapApp.isSome
  else false

/-- An overrun at a consumer (R530). -/
def State.overrun (s : State) (c : Nat) : State :=
  let f := if c < 32 then F.EVR_OVR_OVR else F.EVR_OVRH_OVR
  if bitOf (s.get f) (c % 32) then s
  else (s.put f (withBit (s.get f) (c % 32) true)).raiseK Src.EVR_OVERRUN c 0 [("CONSUMER", Text.dec c)]

/-- What an event does at a consumer (R527). -/
def State.consume (s : State) (c : Nat) : State :=
  if c < 8 then s.dmaTrigger c
  else if c < 16 then s.setEngine (c - 8) { s.engine (c - 8) with latch := true }
  else if c = 16 then s.adcStart
  else if c = 17 then s.touchStart
  else if c < 20 then s.spiStart (c - 18)
  else if c < 24 then s.evrCapture (c - 20)
  else if c = 24 then s.wake 2
  else if c = 25 then s.startCapture
  else if c < 42 then s.outEvent (c - 26)
  else if c = 42 then s.cutGrant
  else if c = 43 then s.captureRtc .app
  else s.count (F.EVR_CNT_COUNT (c - 44))

/-- An event reaches a consumer (R530). -/
def State.reach (s : State) (c : Nat) : State :=
  if (match consumerDomain c with | some d => !s.powered d | none => false) || s.consumerBusy c then s.overrun c
  else s.consume c

/-- The watch flags of a producer's channels (R531). -/
def State.watchMask (s : State) (p : Nat) : Nat :=
  ofBits 32 fun n => s.on (F.EVR_WATCH_EN n) && s.get (F.EVR_WATCH_SEL n) == p

/-- Set the watch flags of an event, raising EVR_WATCH for a flag that goes from 0 to 1 under its WMAN bit (R531). -/
def State.watch (s : State) (p : Nat) : State :=
  let old := s.get F.EVR_WFLAG_FLAG
  let new := without (s.watchMask p) old
  if new = 0 then s
  else
    let s1 := s.put F.EVR_WFLAG_FLAG (old ||| new)
    if new &&& s.get F.EVR_WMAN_MAN = 0 then s1
    else s1.raiseK Src.EVR_WATCH new p [("FLAGS", Text.dec new), ("PRODUCER", Text.dec p)]

/-- An event of a producer: it forks to every consumer whose wired pair is enabled (R525, R529), and to the watch
channels. -/
def State.fire (s : State) (p : Nat) : State :=
  ((List.range 48).filter fun c => (wired c).contains p && s.pairOn p c).foldl State.reach (s.watch p)

end Sys2Proof.Machine
end

