-- ==== Sys2Proof/Machine/Domains.lean ====
section
/-! DEFINITION. Switched domains: what switching one off loses and what switching one on does (R345 to R351, R483, R589, R606). -/

namespace Sys2Proof.Machine

/-- The register fields of a block from an offset on return to reset. -/
def State.clearRegs (s : State) (b : Block) (lo hi : Nat) : State :=
  { s with regs := Store.clear ((b.base + lo) * 32) ((b.base + hi) * 32) s.regs }

/-- A block's own registers return to reset; ID, OWNLVL and DENIED stay. -/
def State.clearBlock (s : State) (b : Block) : State := s.clearRegs b 0x10 b.size

/-- What ANA loses (R589, R606): the ADC returns from reset; of the touch block, the scan, key states, baselines and raw
counts. -/
def State.anaOff (s : State) : State :=
  let s1 := s.clearBlock .adc
  let s2 := ((s1.clearRegs .touch 0x100 0x1000).put F.TOUCH_STAT_BUSY 0).put F.TOUCH_STAT_TESTING 0
  { s2 with
    adc := AdcState.reset
    touch := { s2.touch with
      keys := [], scan := none, segs := [], raws := [], late := false, first := true, rebase := false, test := none } }

/-- What PER loses; GPIO_OUT and GPIO_OE are held by the clamps (R348, R648), and GPIO_PIN, GPIO_ECH and GPIO_WAKESTAT are
always-on (R644). -/
def State.perOff (s : State) : State :=
  let s1 := [Block.uart0, .uart1, .uart2, .i2ct, .spi0, .spi1, .dma].foldl State.clearBlock s
  { s1.clearRegs .gpio 0x240 0x280 with uarts := [], i2ct := I2ct.reset, spis := [], dma := [] }

/-- What the digital front and the berths lose: the normal levels of the AGC are kept (R256). -/
def State.gbbOff (s : State) : State :=
  let keep := [s.get (F.FRONT_AGC_REF 0), s.get (F.FRONT_AGC_REF 1)]
  let s1 := s.clearBlock .front
  let s2 := (s1.put (F.FRONT_AGC_REF 0) (keep.getD 0 0)).put (F.FRONT_AGC_REF 1) (keep.getD 1 0)
  { s2 with
    regs := s2.regs.filter fun c =>
      !(0x50010000 * 32 ≤ c.1 && c.1 < 0x50020000 * 32 && 0x10 ≤ c.1 / 32 % 0x100)
    gnss := { s2.gnss with berths := [] } }

/-- A domain loses what it does not keep (R345, R349, R351). -/
def State.domainLoss (s : State) (d : Nat) : State :=
  match d with
  | 0 =>
    let s1 := if s.on F.PWR_RETAIN_ITCM then s else s.loseMem 25
    if s1.on F.PWR_RETAIN_DTCM then s1 else s1.loseMem 26
  | 2 | 3 | 4 => s.sramOff d
  | 6 => s.gbbOff
  | 7 =>
    let s1 := (s.clearBlock .lookout).clearMem 0x30000000 0x30080000
    { s1 with gnss := { s1.gnss with lanes := [], recording := none, capture := none } }
  | 8 => s.perOff
  | 9 => { s.clearBlock .lgt with lgt := [] }
  | 10 => s.anaOff
  | 11 => (s.signLost.loseMem 27).put F.MEMCTL_WIPE_BUSY 0
  | _ => s

/-- A domain is switched off (R347). The application core is held, and starts again at its entry point. -/
def State.domainOff (s : State) (d : Nat) : State :=
  if s.powered d then
    let s1 := (s.domainLoss d).put F.PWR_DOMS_PG (withBit (s.get F.PWR_DOMS_PG) d false)
    if d = 0 then { s1 with app := Core.reset 0x08000000 } else s1
  else s

/-- The wipe of the secure bank begins (R483, R484): no access returns what it held. `report` says that its end is reported. -/
def State.beginWipe (s : State) (cause : Nat) (report : Bool) : State :=
  let s1 := (s.signWiped.zeroMem 27).puts [(F.MEMCTL_WIPE_BUSY, 1), (F.MEMCTL_WIPE_CAUSE, cause)]
  { s1 with mems := { s1.mems with wipeReport := report } }

/-- A domain is switched on (R347, R472, R483). -/
def State.domainOn (s : State) (d : Nat) : State :=
  if s.powered d then s
  else if 2 ≤ d ∧ d ≤ 4 then s.sramOn d
  else
    let s1 := s.put F.PWR_DOMS_PG (withBit (s.get F.PWR_DOMS_PG) d true)
    if d = 11 then s1.beginWipe 0 false else s1

/-- A domain is needed: switched on if it is off. -/
def State.needDomain (s : State) (d : Nat) : State := s.domainOn d

/-- A bus error (R13, R46): SYSCTL_ISO_ACCESS with the address, the master's number and the direction. -/
def State.busError (s : State) (addr m : Nat) (write : Bool) : State :=
  s.raiseK Src.SYSCTL_ISO_ACCESS addr (m + 256 * bit write)
    [("ADDR", Text.dec addr), ("MASTER", Text.dec m), ("WRITE", Text.dec (bit write))]

/-- The master that stands for a side where a command names the side alone (R476). -/
def Side.master : Side → Nat
  | .app => 1
  | .console => 2

/-- An access to a register of a block: its domain is switched on for it, or with PWR in EXPERT the access ends with a bus
error (R13, R346). -/
def State.access (s : State) (b : Block) (ofs m : Nat) (write : Bool) (act : State → State) : State :=
  match blockDomain b with
  | none => act s
  | some d =>
    if s.powered d then act s
    else if s.expert .pwr then { s.busError (b.base + ofs) m write with busData := if write then s.busData else 0 }
    else act (s.domainOn d)

/-- What entry into Heart-note (2) or Base-note (3) switches off (R350 to R353): every domain that no function holds; the
register state of the cores and the private SRAM stay in Heart-note, and the berths in the burst modes. -/
def State.sleepLosses (s : State) (depth : Nat) : State :=
  let tp := s.on F.TP_CTRL_EN
  let lgt := (List.range 8).any fun n => s.get (F.LGT_STAT_STATE n) == 1 || s.get (F.LGT_STAT_STATE n) == 2
  let ana := s.on F.ADC_STAT_BUSY || s.get F.TOUCH_CFG_MODE == 1 || s.get F.TOUCH_CFG_MODE == 2
  let held := fun d =>
    bitOf (s.get F.PWR_DOMF_FORCE) d || (d == 13 && tp) || ((d == 8 || d == 9) && lgt) || (d == 10 && ana)
  (List.range 14).foldl
    (fun t d =>
      if !t.powered d || held d then t
      else
        let off := fun (u : State) => u.put F.PWR_DOMS_PG (withBit (u.get F.PWR_DOMS_PG) d false)
        if d = 6 ∧ t.bursts then off t
        else if depth = 3 ∧ d = 0 then off ((t.loseMem 25).loseMem 26)
        else if depth = 3 ∧ d = 1 then off (t.loseMem 29)
        else if depth = 3 ∧ 2 ≤ d ∧ d ≤ 4 then
          off ((domainBanks d).foldl (fun u n => (u.loseMem n).put F.MEMCTL_LOST_BANK
            (withBit (u.get F.MEMCTL_LOST_BANK) n true)) t)
        else off (t.domainLoss d)) s

end Sys2Proof.Machine
end

