-- ==== Sys2Proof/Machine/RegWrite.lean ====
section
/-! DEFINITION. A write of a register by fields (R7, R8, R21, R22, R671), and the read of a register as it is stored. -/

namespace Sys2Proof.Machine

/-- The table of a register, with its index in its family. -/
def regAt (b : Block) (ofs : Nat) : Option (RegSpec × Nat) := (RegSpec.find ofs regsCommon).or (RegSpec.find ofs b.kind.regs)

/-- The fields of a register. -/
def regFields (b : Block) (ofs : Nat) : List FldSpec :=
  match regAt b ofs with
  | some (r, _) => r.fields
  | none => []

/-- A field of a register of a block. -/
def FldSpec.at (f : FldSpec) (b : Block) (ofs : Nat) : Fld := ⟨b.base + ofs, f.lo, f.w⟩

/-- The stored word of a register. -/
def State.storedWord (s : State) (b : Block) (ofs : Nat) : Nat :=
  (regFields b ofs).foldl (fun a f => a + s.get (f.at b ofs) * 2 ^ f.lo) 0

/-- Write one RW field: an expert field lands only in EXPERT, and no field takes a value that it does not accept. OWNLVL
(offset 4) is written by `writeLevel` alone. -/
def State.writeField (s : State) (b : Block) (ofs v : Nat) (f : FldSpec) : State :=
  let x := bitsOf v f.lo f.w
  if ofs != 4 && f.acc == .rw && (f.lvl == .basic || s.expert b) && f.accept.ok f.w x then s.put (f.at b ofs) x else s

/-- Whether a write carries expert bits that differ from their present values (R22): of a field with a write action, bits
written as 1. -/
def State.expertDiffers (s : State) (b : Block) (ofs v : Nat) : Bool :=
  (regFields b ofs).any fun f => f.lvl == .expert &&
    ((f.acc == .rw && bitsOf v f.lo f.w != s.get (f.at b ofs)) || ((f.acc == .w1s || f.acc == .w1c) && bitsOf v f.lo f.w != 0))

/-- Clear the W1C fields' bits written as 1. -/
def State.writeClears (s : State) (b : Block) (ofs v : Nat) : State :=
  (regFields b ofs).foldl
    (fun t f =>
      if f.acc == .w1c && (f.lvl == .basic || s.expert b) then
        t.put (f.at b ofs) (without (t.get (f.at b ofs)) (bitsOf v f.lo f.w))
      else t) s

/-- The owner's write of a register's RW and W1C fields, counted where BASIC refuses expert bits (R22). -/
def State.writeFields (s : State) (b : Block) (ofs : Nat) (side : Side) (v : Nat) : State :=
  let s1 := (regFields b ofs).foldl (fun t f => t.writeField b ofs v f) s
  let s2 := s1.writeClears b ofs v
  if s.expertDiffers b ofs v && !s.expert b then s2.deny b 1 ofs side else s2

/-- A write of a register from a side: whole refusals first (R671). -/
def State.writeReg (s : State) (b : Block) (ofs : Nat) (side : Side) (v : Nat) : State :=
  if side ≠ s.owner b then s.deny b 0 ofs side else s.writeFields b ofs side v

end Sys2Proof.Machine
end

