-- ==== Sys2Proof/Machine/Adc.lean ====
section
/-! DEFINITION. The ADC: sequences, results, the FIFO, the window, the reference and the console commands (R577 to R592). -/

namespace Sys2Proof.Machine

/-- Whether a channel is differential (R581). -/
def isDiff (ch : Nat) : Bool := 16 ≤ ch && ch < 24

/-- A result's code held within its range (R581). -/
def holdCode (ch : Nat) (code : Int) : Int := if isDiff ch then clamp (-8192) 8191 code else clamp 0 16383 code

/-- A result as 16 bits (R583). -/
def resultBits (align : Bool) (code : Int) : Nat := pattern 16 (if align then code * 4 else code)

/-- Whether a result meets the window's condition (R588). -/
def State.inWindow (s : State) (ch bits : Nat) : Bool :=
  let val := fun v : Nat => if isDiff ch then signed 16 v else (v : Int)
  let lo := val (s.get F.ADC_WIN_LO)
  let hi := val (s.get F.ADC_WIN_HI)
  let v := val bits
  if s.on F.ADC_WINCFG_INSIDE then lo ≤ v && v ≤ hi else v < lo || hi < v

/-- A word enters the FIFO, or is discarded (R585). -/
def State.adcPush (s : State) (w : Nat) : State :=
  let n := s.adc.fifo.length
  if 16 ≤ n then if s.on F.ADC_STAT_OVR then s else (s.put F.ADC_STAT_OVR 1).raise0 Src.ADC_OVR
  else
    let t := (s.withAdc fun a => { a with fifo := a.fifo ++ [w] }).put F.ADC_STAT_LVL (n + 1)
    let th := s.get F.ADC_FIFOTH_TH
    if n < th ∧ th ≤ n + 1 then t.raise0 Src.ADC_FIFO else t

/-- The end of a sequence (R586). -/
def State.adcEnd (s : State) : State :=
  (((s.withAdc fun a => { a with run := none, frames := none, pos := 0, stop := false }).put F.ADC_STAT_BUSY 0).raise0
    Src.ADC_DONE).fire 32

/-- The console name of a channel (R581). -/
def chName (ch : Nat) : String :=
  if ch < 16 then "AIN" ++ Text.dec ch
  else if ch < 24 then "DIFF" ++ Text.dec (ch - 16)
  else Name.pick ["TEMP", "VBAT", "VSTORE", "VCORE"] (ch - 24)

/-- The reply of `ADC READ?` (R592), its FLAGS and the mode restored. -/
def State.adcReply (s : State) (code : Int) : State :=
  match s.adc.read with
  | none => s
  | some (x, tag, ch, mode) =>
    let flags := (if s.on F.ADC_STAT_READY then [] else ["REF"]) ++ (if s.on F.ADC_STAT_CAL_OK then [] else ["CAL"])
    let t := ((s.withAdc fun a => { a with read := none }).put F.ADC_CFG_MODE mode).withTag tag
    ((t.reply x ("ADC READ " ++ chName ch ++ " " ++ Text.int code ++ " FLAGS=" ++
      (if flags.isEmpty then "NONE" else Text.sep "," flags))).ok x).withTag ""

/-- A result as a word of the FIFO, whole or the half of a packed one (R584). -/
def State.adcStore (s : State) (r : AdcRun) (ch slice bits : Nat) (win : Bool) : State :=
  if s.adc.read.isSome then s
  else if r.pack then
    match s.adc.half with
    | none => s.withAdc fun a => { a with half := some bits }
    | some h => (s.withAdc fun a => { a with half := none }).adcPush (h + 65536 * bits)
  else
    s.adcPush (bits + 2 ^ 16 * ch + 2 ^ 21 * slice + 2 ^ 23 * bit (!s.on F.ADC_STAT_READY) +
      2 ^ 24 * bit (!s.on F.ADC_STAT_CAL_OK) + 2 ^ 25 * bit win)

/-- After a result: the next place in the frame, or the next frame, or the end (R577, R586). In FAST `pos` counts the slices. -/
def State.adcNext (s : State) (r : AdcRun) : State :=
  let whole := r.mode == 1 || s.adc.pos + 1 == r.len
  let pos := if r.mode = 1 then (s.adc.pos + 1) % 4 else if whole then 0 else s.adc.pos + 1
  let left := if whole then s.adc.frames.map (· - 1) else s.adc.frames
  let t := s.withAdc fun a => { a with pos := pos, frames := left }
  if whole && (left == some 0 || s.adc.stop) then t.adcEnd else t

/-- ADC_RESULT (R583 to R590): `code` is the corrected conversion. -/
def execAdcResult (code : Int) (s : State) : Host.Outcome State Fault Refusal :=
  .next <|
    match s.adc.run with
    | none => s
    | some r =>
      let ch := r.seq.getD (if r.mode = 1 then 0 else s.adc.pos) 0
      let slice := if r.mode = 3 then 0 else s.adc.pos
      let c := holdCode ch code
      let bits := resultBits r.align c
      let win := s.on F.ADC_WINCFG_EN && s.inWindow ch bits
      let s1 :=
        if s.on F.ADC_STAT_READY || s.adc.refSeen then s
        else (s.withAdc fun a => { a with refSeen := true }).raise0 Src.ADC_REF_UNSETTLED
      let s2 := s1.adcStore r ch slice bits win
      let s3 := if win && !s.on F.ADC_STAT_WIN then ((s2.put F.ADC_STAT_WIN 1).raise0 Src.ADC_WIN).fire 33 else s2
      (s3.adcReply c).adcNext r

/-- ADC_START (R586). -/
def execAdcStart (side : Side) (s : State) : Host.Outcome State Fault Refusal :=
  .next (s.access .adc 0x14 side.master true fun t =>
    t.guardBusy .adc 0x14 side false (t.on F.ADC_STAT_BUSY) State.adcStart)

/-- ADC_STOP (R586). -/
def execAdcStop (side : Side) (s : State) : Host.Outcome State Fault Refusal :=
  .next <| s.access .adc 0x14 side.master true fun t => t.guard .adc 0x14 side false fun u =>
    if u.on F.ADC_STAT_BUSY then u.withAdc fun a => { a with stop := true } else u

/-- FLUSH (R586). -/
def State.adcFlush (s : State) : State := (s.withAdc fun a => { a with fifo := [], half := none }).put F.ADC_STAT_LVL 0

/-- ADC_FLUSH. -/
def execAdcFlush (side : Side) (s : State) : Host.Outcome State Fault Refusal :=
  .next <| s.access .adc 0x14 side.master true fun t => t.guard .adc 0x14 side false State.adcFlush

/-- A read of ADC_FIFO (R584, R591). -/
def State.adcPop (s : State) (side : Side) : State :=
  if side ≠ s.owner .adc then { s with busData := 0x80000000 }
  else
    match s.adc.fifo with
    | [] =>
      if s.on F.ADC_CFG_PACK && s.get F.ADC_CFG_MODE == 1 then { s.put F.ADC_STAT_UNF 1 with busData := 0 }
      else { s with busData := 0x80000000 }
    | h :: r =>
      { (s.withAdc fun a => { a with fifo := r }).put F.ADC_STAT_LVL r.length with busData := BitVec.ofNat 32 h }

/-- ADC_FIFO_READ. -/
def execAdcFifoRead (side : Side) (s : State) : Host.Outcome State Fault Refusal :=
  .next (s.access .adc 0x20 side.master false fun t => t.adcPop side)

/-- ADC_REF_READY (R590). -/
def execAdcRefReady (s : State) : Host.Outcome State Fault Refusal :=
  .next (if s.on F.ADC_REF_EN && s.powered 10 then s.put F.ADC_STAT_READY 1 else s)

/-- ADC_CAL_OK (R579): the estimates, whose values are not stated, take the coefficients' place unless FREEZE holds them. -/
def execAdcCalOk (s : State) : Host.Outcome State Fault Refusal :=
  .next <|
    let fast := match s.adc.run with | some r => r.mode != 3 | none => false
    if s.on F.ADC_CORR_EN && fast then
      let t := s.put F.ADC_STAT_CAL_OK 1
      if s.on F.ADC_CORR_FREEZE then
        if s.on F.ADC_STAT_CAL_OK then t
        else
          (List.range 4).foldl
            (fun u j => u.puts [(F.ADC_COEF_OFS j, Config.adcCoef j 0), (F.ADC_COEF_GAIN j, Config.adcCoef j 1),
              (F.ADC_COEF_SKEW j, Config.adcCoef j 2)]) t
      else
        (List.range 4).foldl
          (fun u j => [F.ADC_COEF_OFS j, F.ADC_COEF_GAIN j, F.ADC_COEF_SKEW j].foldl
            (fun v f => v.spend.put f (Config.number v.free)) u) t
    else s

/-- The coefficients as read (R579): factory values until the estimates have converged. -/
def State.adcCoefWord (s : State) (j : Nat) : Nat :=
  if s.on F.ADC_STAT_CAL_OK then
    s.get (F.ADC_COEF_OFS j) + 65536 * s.get (F.ADC_COEF_GAIN j) + 2 ^ 24 * s.get (F.ADC_COEF_SKEW j)
  else Config.adcCoef j 0 % 65536 + 65536 * (Config.adcCoef j 1 % 256) + 2 ^ 24 * (Config.adcCoef j 2 % 256)

/-- A write of ADC_CFG (R37, R577, R587). -/
def State.adcCfgWrite (s : State) (side : Side) (v : Nat) : State :=
  if side ≠ s.owner .adc then s.deny .adc 0 0x10 side
  else s.underLedger .adc 0x10 side (s.writeFields .adc 0x10 side v)

/-- READY after the reference's settings changed from `s` to `t` (R590). -/
def refSettled (s t : State) : State :=
  if !t.on F.ADC_REF_EN || t.on F.ADC_REF_SEL != s.on F.ADC_REF_SEL then t.put F.ADC_STAT_READY 0 else t

/-- A write of ADC_REF (R590). -/
def State.adcRefWrite (s : State) (side : Side) (v : Nat) : State :=
  if side ≠ s.owner .adc then s.deny .adc 0 0x1C side
  else s.underLedger .adc 0x1C side (refSettled s (s.writeFields .adc 0x1C side v))

/-- A write of ADC_CORR (R591): EN 0 clears CAL_OK. -/
def State.adcCorrWrite (s : State) (side : Side) (v : Nat) : State :=
  let t := s.writeReg .adc 0x34 side v
  if t.on F.ADC_CORR_EN then t else t.put F.ADC_STAT_CAL_OK 0

/-- Facts of the commands of the ADC group (R592, R676). -/
def adcCmd : CmdInfo := { block := some .adc, ownQuery := true }

/-- ADC_MODE. -/
def execAdcMode (x : Sess) (mode : Fin 4) (s : State) : Host.Outcome State Fault Refusal :=
  .next <| s.run x adcCmd fun t =>
    let u := t.needDomain 10
    u.settle x .adc 0x10 (u.put F.ADC_CFG_MODE mode)

/-- ADC_REF. -/
def execAdcRef (x : Sess) (ext on : Bool) (s : State) : Host.Outcome State Fault Refusal :=
  .next <| s.run x adcCmd fun t =>
    let u := t.needDomain 10
    u.settle x .adc 0x1C (refSettled u ((u.flag F.ADC_REF_SEL ext).flag F.ADC_REF_EN on))

/-- ADC_READ_QUERY (R592): one ECONOMY conversion; the reply follows its result. -/
def execAdcReadQuery (x : Sess) (ch : Fin 28) (s : State) : Host.Outcome State Fault Refusal :=
  .next <| s.run x { adcCmd with query := true } fun t =>
    let u := t.needDomain 10
    if u.on F.ADC_STAT_BUSY then u.er x 230
    else
      let v := (u.put F.ADC_CFG_MODE 3).withAdc fun a => { a with
        run := some { mode := 3, align := false, pack := false, len := 1, seq := [ch.val] }
        frames := some 1, pos := 0, stop := false, half := none, refSeen := false
        read := some (x, u.console.tag, ch.val, u.get F.ADC_CFG_MODE) }
      if !ledgerGrants u v then (u.ledgerRefuse .adc 0x10 .console).er x 312
      else if u.reserveRefuses v then u.er x 313
      else v.put F.ADC_STAT_BUSY 1

end Sys2Proof.Machine
end

