-- ==== Sys2Proof/Machine/Gpio.lean ====
section
/-! DEFINITION. GPIO edges and the OUT aliases, the test access port, and the TEST commands (R83, R631 to R646). -/

namespace Sys2Proof.Machine

/-- Whether an edge selection takes an edge (R644). -/
def edgeTaken (sel : Nat) (rising : Bool) : Bool := bitOf sel (if rising then 0 else 1)

/-- GPIO_EVENT_EDGE (R526, R645): the pin's new level, and an event of each event channel that names the pin. While the TAP
holds the inputs, and in a bank without power, the logic sees nothing. -/
def execGpioEventEdge (pin : Fin 48) (rising : Bool) (s : State) : Host.Outcome State Fault Refusal :=
  .next <|
    let s1 := s.outside pin rising
    if s.pads.seen.isSome || !s.bankOn pin then s1
    else
      ((List.range 16).filter fun k =>
        s.get (F.GPIO_ECH_PIN k) == pin.val && edgeTaken (s.get (F.GPIO_ECH_EDGE k)) rising).foldl State.fire s1

/-- GPIO_WAKE_EDGE (R356, R644, R645). -/
def execGpioWakeEdge (pin : Fin 48) (rising : Bool) (s : State) : Host.Outcome State Fault Refusal :=
  .next <|
    let s1 := s.outside pin rising
    if s.pads.seen.isSome || !s.bankOn pin || !edgeTaken (s.get (F.GPIO_PIN_WAKE pin)) rising || s.power.depth == 0 then s1
    else
      let s2 :=
        if pin.val < 32 then s1.put F.GPIO_WAKESTAT0_WAKE (withBit (s.get F.GPIO_WAKESTAT0_WAKE) pin true)
        else s1.put F.GPIO_WAKESTAT1_WAKE (withBit (s.get F.GPIO_WAKESTAT1_WAKE) (pin - 32) true)
      s2.wake 3

/-- The SET and CLR aliases (R646). -/
def State.outAlias (s : State) (side : Side) (second set : Bool) (v : Nat) : State :=
  let f := if second then F.GPIO_OUT1_OUT else F.GPIO_OUT0_OUT
  s.guard .gpio ((if set then 0x28 else 0x30) + 4 * bit second) side false fun t =>
    t.put f (if set then t.get f ||| v else without (t.get f) v)

/-- GPIO_OUTSET. -/
def execGpioOutset (side : Side) (second : Bool) (value : Word) (s : State) : Host.Outcome State Fault Refusal :=
  .next (s.outAlias side second true value.toNat)

/-- GPIO_OUTCLR. -/
def execGpioOutclr (side : Side) (second : Bool) (value : Word) (s : State) : Host.Outcome State Fault Refusal :=
  .next (s.outAlias side second false value.toNat)

/-- The inputs as the logic sees them, for R635. -/
def State.padInputs (s : State) : Nat := ofBits 48 fun p => s.padLevel p

/-- What the boundary register captures (R634): of each GPIO pin its level, and the output and enable the logic gives it; of
the inputs, `inputs` in the order of R634; of TP, CTX and BPGNT, their level and enable. -/
def State.boundaryCapture (s : State) (inputs : Nat) : Nat :=
  let gpio := (List.range 48).foldr (fun p a =>
    bit (s.padLevel p) + 2 * bit ((s.padDrive p).getD false) + 4 * bit (s.padDrive p).isSome + 8 * a) 0
  let outs := bit s.tp.pulse.isSome + 2 + 4 * 1 + 8 + 16 * s.get F.HARV_PSTAT_GNT + 32
  gpio + inputs % 128 * 2 ^ 144 + outs * 2 ^ 151

/-- Select an instruction (R635): EXTEST, CLAMP and HIGHZ hold what the logic sees at their selection, and wake the device;
any other gives control back. -/
def State.tapSelect (s : State) (i : TapInstr) (captured : Nat) : State :=
  let holds := i = .extest ∨ i = .clamp ∨ i = .highz
  let s1 := s.withPads fun d => { d with
    tap := i, captured := captured,
    seen := if holds then some (match d.seen with | some v => v | none => s.padInputs) else none }
  if holds then s1.wake 13 else s1

/-- TAP_EXTEST (R635): `value` is what has been shifted into the boundary register and updated. -/
def execTapExtest (value : BitVec 157) (s : State) : Host.Outcome State Fault Refusal :=
  .next <|
    let c := s.boundaryCapture 0
    (s.tapSelect .extest c).withPads fun d => { d with boundary := value.toNat }

/-- TAP_SAMPLE_PRELOAD (R632, R634): what the chain captures, and the value preloaded into it. -/
def execTapSamplePreload (value : BitVec 157) (inputs : BitVec 7) (s : State) : Host.Outcome State Fault Refusal :=
  .next <|
    let c := s.boundaryCapture inputs.toNat
    (s.tapSelect .samplePreload c).withPads fun d => { d with boundary := value.toNat }

/-- IDCODE (R633). -/
def idcode : Nat := 0x06240B6F

/-- TAP_IDCODE. -/
def execTapIdcode (s : State) : Host.Outcome State Fault Refusal := .next (s.tapSelect .idcode idcode)

/-- TAP_CLAMP. -/
def execTapClamp (s : State) : Host.Outcome State Fault Refusal := .next (s.tapSelect .clamp 0)

/-- TAP_HIGHZ. -/
def execTapHighz (s : State) : Host.Outcome State Fault Refusal := .next (s.tapSelect .highz 0)

/-- Whether the debug port opens (R420, R636). -/
def State.debugOpen (s : State) : Bool := s.get F.LIFE_STATE_STATE == 1 || s.get F.LIFE_STATE_STATE == 4

/-- TAP_DEBUG (R636): elsewhere than in TEST and RETURNED it acts as BYPASS; each selection raises LIFE_DEBUG. -/
def execTapDebug (s : State) : Host.Outcome State Fault Refusal :=
  .next <|
    (s.tapSelect (if s.debugOpen then .debug else .bypass) 0).raiseK Src.LIFE_DEBUG (bit s.debugOpen) 0
      [("OPEN", Text.dec (bit s.debugOpen))]

/-- TAP_BYPASS. -/
def execTapBypass (s : State) : Host.Outcome State Fault Refusal := .next (s.tapSelect .bypass 0)

/-- TRSTN_RESET (R631): Test-Logic-Reset, which selects IDCODE. -/
def execTrstnReset (s : State) : Host.Outcome State Fault Refusal := .next (s.tapSelect .idcode idcode)

/-- Facts of the TEST commands (R83). -/
def testCmd : CmdInfo := { block := some .test, expert := true, gate := .test }

/-- TEST_MEM. -/
def execTestMem (x : Sess) (bank : Fin 24) (s : State) : Host.Outcome State Fault Refusal :=
  .next <| s.run x testCmd fun t => { t.needDomain (2 + bank / 8) with memTest := some bank }.ok x

/-- TEST_MEM_DONE. -/
def execTestMemDone (s : State) : Host.Outcome State Fault Refusal :=
  .next <|
    if s.memTest.isSome then
      { s with memTest := none }.raise0 Src.TEST_MEM_DONE
    else s

/-- The name of a stage (R83). -/
def RfStage.name : RfStage → String
  | .lna => "LNA"
  | .mix => "MIX"
  | .full => "FULL"

/-- TEST_RF: the readings are not stated, nor their form; the reply shows one free number. -/
def execTestRf (x : Sess) (l5 : Bool) (stage : RfStage) (s : State) : Host.Outcome State Fault Refusal :=
  .next <| s.run x testCmd fun t =>
    let t1 := t.needDomain 5
    (t1.spend.reply x ("TEST RF " ++ (if l5 then "RFL5" else "RFL1") ++ " " ++ stage.name ++ " LEVEL=" ++
      Text.dec (Config.number t1.free))).ok x

/-- TEST_PIN. -/
def execTestPin (x : Sess) (pin : Fin 48) (level : PinLevel) (s : State) : Host.Outcome State Fault Refusal :=
  .next <| s.run x testCmd fun t =>
    (t.withPads fun d => { d with
      forced := Store.set (fun _ => 3) d.forced pin (match level with | .low => 0 | .high => 1 | .z => 2) }).ok x

end Sys2Proof.Machine
end

