-- ==== Sys2Proof/Machine/LogStore.lean ====
section
/-! DEFINITION. The log store: journaled writes, twins, the tally save and its recovery, wear, and the LOG commands (R487
to R506, R629). -/

namespace Sys2Proof.Machine

/-- The state with the log store's own state replaced. -/
def State.withLogs (s : State) (f : LogStore → LogStore) : State := { s with logs := f s.logs }

/-- The address of a byte of the array in its read window (R489). -/
def logAddr (a : Nat) : Nat := 0x60000000 + a

/-- The bytes of a page. -/
def State.page (s : State) (p : Nat) : List Byte := s.bytes (logAddr (128 * p)) 128

/-- One byte of the reflected CRC-32 of R501. -/
def crc32Byte (c : Nat) (b : Byte) : Nat :=
  (List.range 8).foldl (fun v _ => if v % 2 = 1 then (v / 2) ^^^ 0xEDB88320 else v / 2) (c ^^^ b.toNat)

/-- CRC-32 of bytes (R501). -/
def crc32 (l : List Byte) : Nat := (l.foldl crc32Byte 0xFFFFFFFF) ^^^ 0xFFFFFFFF

/-- A number of free bytes. -/
def State.freeBytes (s : State) (n : Nat) : List Byte :=
  (List.range n).map fun i => BitVec.ofNat 8 (Config.number (s.free + i))

/-- Program a page (R504): its bytes, its count, and LOGS_WORN as the count passes 900 000. -/
def State.program (s : State) (p : Nat) (l : List Byte) : State :=
  let c := min (Store.get (fun _ => 0) s.logs.counts p + 1) 0xFFFFFF
  let s1 := (s.setBytes (logAddr (128 * p)) l).withLogs fun g => { g with counts := Store.set (fun _ => 0) g.counts p c }
  if c = 900001 then s1.raise0 Src.LOGS_WORN else s1

/-- The newest valid journal entry (R494). -/
def newest : List JournalHead → Option JournalHead
  | [] => none
  | h :: r =>
    match newest r with
    | none => if h.valid then some h else none
    | some b => if h.valid && decide (b.seq < h.seq) then some h else some b

/-- The journal sequence of the newest entry, as LOGS_JSEQ shows it. -/
def State.journalSeq (s : State) : Nat := match newest s.logs.heads with | some h => h.seq | none => 0

/-- A journal header at its place in the ring. -/
def State.setHead (s : State) (h : JournalHead) : State :=
  s.withLogs fun g => { g with heads := h :: g.heads.filter fun k => k.pos != h.pos }

/-- Step 2 of R491 completes: the journal page holds the whole resulting page. -/
def State.journal (s : State) (r : LogRun) : State :=
  let q := s.journalSeq + 1
  (s.program (960 + q % 32) r.bytes).setHead ⟨q % 32, r.page, q, true⟩

/-- The sequence of commit entry `i`, if its CRC passes over its slot (R496). -/
def State.commitSeq (s : State) (i : Nat) : Option Nat :=
  let e := s.bytes (logAddr (0x1F200 + 8 * i)) 8
  let q := leNat (e.take 4)
  if leNat (e.drop 4) = crc32 (s.bytes (logAddr (0x1F000 + 256 * (q % 2))) 256 ++ e.take 4) then some q else none

/-- The newest committed tally sequence (R494, R496): the highest whose entry's CRC passes. -/
def State.tallySeq (s : State) : Option Nat :=
  (List.range 16).foldl
    (fun a i =>
      match s.commitSeq i with
      | some q => if a.all (fun b => decide (b < q)) then some q else a
      | none => a) none

/-- Whether tally slot `k` is written without a valid commit entry (R494). -/
def State.slotTorn (s : State) (k : Nat) : Bool :=
  s.bytes (logAddr (0x1F000 + 256 * k)) 256 != List.replicate 256 0xFF &&
    !(List.range 16).any fun i => (s.commitSeq i).any fun q => q % 2 == k

/-- The sequence that the next save writes. -/
def State.nextTally (s : State) : Nat := match s.tallySeq with | some t => t + 1 | none => 1

/-- Erase the slot and the commit entry of the next save (R497). -/
def State.eraseTally (s : State) : State :=
  let n := s.nextTally
  (s.setBytes (logAddr (0x1F000 + 256 * (n % 2))) (List.replicate 256 0xFF)).setBytes (logAddr (0x1F200 + 8 * (n % 16)))
    (List.replicate 8 0xFF)

/-- The power-down save (R496): both slot pages, then the commit entry. -/
def State.tallySave (s : State) : State :=
  let n := s.nextTally
  let cells := s.bytes 0x28003E00 256
  let q := leBytes 4 n
  let s1 := (s.program (992 + 2 * (n % 2)) (cells.take 128)).program (993 + 2 * (n % 2)) (cells.drop 128)
  let entry := q ++ leBytes 4 (crc32 (cells ++ q))
  let i := n % 16
  s1.program 996 ((s1.page 996).take (8 * i) ++ entry ++ (s1.page 996).drop (8 * i + 8))

/-- An operation starts (R491): BUSY. -/
def State.startRun (s : State) (r : LogRun) : State :=
  (s.withLogs fun g => { g with op := some r }).put F.LOGS_STAT_BUSY 1

/-- The pages and bytes that BP protects start at this page (R493). -/
def protectFrom (bp : Nat) : Nat := if bp = 3 then 0 else if bp = 2 then 512 else if bp = 1 then 768 else 1024

/-- Whether a page is protected (R493). -/
def State.protects (s : State) (p : Nat) : Bool := protectFrom s.logs.bp ≤ p

/-- The page with the masked bytes of LOGS_BUF merged in (R490). -/
def State.merged (s : State) (p : Nat) : List Byte :=
  (List.range 128).zipWith
    (fun i b =>
      if bitOf (s.get (F.LOGS_MASK_MASK (i / 32))) (i % 32) then
        BitVec.ofNat 8 (s.get (F.LOGS_BUF_DATA (i / 4)) / 256 ^ (i % 4))
      else b) (s.page p)

/-- The bytes of LOGS_BUF. -/
def State.buffer (s : State) : List Byte := (List.range 32).flatMap fun k => leBytes 4 (s.get (F.LOGS_BUF_DATA k))

/-- LOGS_BUF loaded. -/
def State.setBuffer (s : State) (l : List Byte) : State :=
  s.puts ((List.range 32).map fun k => (F.LOGS_BUF_DATA k, leNat ((l.drop (4 * k)).take 4)))

/-- A twin copy (R501): its sequence if its CRC matches. -/
def twinSeq (l : List Byte) : Option Nat := if leNat (l.drop 124) = crc32 (l.take 124) then some (leNat (l.take 4)) else none

/-- A twin copy written from its sequence, length, tag and data. -/
def twinBytes (seq : Nat) (body : List Byte) : List Byte :=
  let len := leNat (body.take 2)
  let data := (List.range 116).zipWith (fun i b => if i < len then b else 0xFF) (body.drop 4)
  let l := leBytes 4 (seq % 2 ^ 32) ++ body.take 4 ++ data
  l ++ leBytes 4 (crc32 l)

/-- The result of an owner's command that ends at once. -/
def State.logResult (s : State) (n : Nat) : State := s.put F.LOGS_STAT_RESULT n

/-- Whether twin commands refuse a page: A odd or outside the user area. -/
def badTwin (a : Nat) : Bool := a % 2 == 1 || decide (960 ≤ a)

/-- TWIN_WR starts (R502). -/
def State.startTwinWrite (s : State) : State :=
  let a := s.get F.LOGS_ADDR_PAGE
  let body := (s.buffer.drop 4).take 120
  if badTwin a then s.logResult 2
  else if 116 < leNat (body.take 2) then s.logResult 5
  else
    let x := twinSeq (s.page a)
    let y := twinSeq (s.page (a + 1))
    let (p, q) := match x, y with
      | none, none => (a, 1)
      | none, some v => (a, v + 1)
      | some u, none => (a + 1, u + 1)
      | some u, some v => (if u < v then a else a + 1, max u v + 1)
    if s.protects p then s.logResult 1
    else s.startRun ⟨.twinWr, p, twinBytes q body, 0, false, s.tide.up⟩

/-- TWIN_RD starts (R503); a tie is repaired by a page write before the command ends. -/
def State.startTwinRead (s : State) : State :=
  let a := s.get F.LOGS_ADDR_PAGE
  if badTwin a then s.logResult 2
  else
    let la := s.page a
    let lb := s.page (a + 1)
    match twinSeq la, twinSeq lb with
    | none, none => (s.setBuffer (List.replicate 128 0xFF)).logResult 3
    | none, some _ => (s.setBuffer lb).logResult 0
    | some _, none => (s.setBuffer la).logResult 0
    | some u, some v =>
      if u < v then (s.setBuffer lb).logResult 0
      else if v < u ∨ la = lb then (s.setBuffer la).logResult 0
      else
        ((s.setBuffer la).raise0 Src.LOGS_TWIN_TIE).startRun
          ⟨.twinRd, a + 1, twinBytes (u + 1) ((la.drop 4).take 120), 4, false, s.tide.up⟩

/-- PROG starts (R490, R493). -/
def State.startProg (s : State) : State :=
  let p := s.get F.LOGS_ADDR_PAGE
  if s.protects p then s.logResult 1
  else if 960 ≤ p then s.logResult 2
  else s.startRun ⟨.prog, p, s.merged p, 0, false, s.tide.up⟩

/-- A request starts. The contents of the firmware's system records, and the page each takes, are free values. -/
def State.startReq (s : State) : LogReq → State
  | .prog => s.startProg
  | .twinWr => s.startTwinWrite
  | .twinRd => s.startTwinRead
  | .bytes p o l x tag =>
    let b := s.page p
    s.startRun ⟨.bytes p o l x tag, p, b.take o ++ l.map (BitVec.ofNat 8) ++ b.drop (o + l.length), 0, false, s.tide.up⟩
  | .protect bp who =>
    (s.spendN 129).startRun
      ⟨.protect bp who, 997 + Config.number (s.free + 128) % 27, s.freeBytes 128, 0, false, s.tide.up⟩
  | .entry =>
    (s.spendN 129).startRun ⟨.entry, 997 + Config.number (s.free + 128) % 27, s.freeBytes 128, 0, false, s.tide.up⟩
  | .erase => s.startRun ⟨.erase, 0, [], 0, false, s.tide.up⟩

/-- Whether a request is one of the owner's commands. -/
def LogReq.owners : LogReq → Bool
  | .prog | .twinWr | .twinRd => true
  | _ => false

/-- A request is taken: at once while the log store is idle, else it waits in order (R492). -/
def State.logRequest (s : State) (r : LogReq) : State :=
  if s.on F.LOGS_STAT_BUSY || s.on F.LOGS_STAT_RECOV || !s.logs.queue.isEmpty then
    let s1 := s.withLogs fun g => { g with queue := g.queue ++ [r] }
    if r.owners then s1.put F.LOGS_STAT_QUEUED 1 else s1
  else s.startReq r

/-- A record of the system firmware in pages 997 to 1023 (R488). -/
def State.systemRecord (s : State) : State := s.logRequest .entry

/-- An owner command (R492): one may be held while an operation runs; a further one is ignored, sets OVR, and counts in
DENIED. The firmware's own writes are refused in the reserve band (R370). -/
def State.logCommand (s : State) (side : Side) (r : LogReq) : State :=
  if side ≠ s.owner .logs then s.deny .logs 0 0x14 side
  else if s.on F.LOGS_STAT_QUEUED then (s.put F.LOGS_STAT_OVR 1).deny .logs 3 0x14 side
  else if side = .console ∧ s.get F.PWR_PATH_ACT = 2 ∧ s.get F.HARV_STAT_BAND = 1 ∧ r ≠ .twinRd then
    s.deny .logs 3 0x14 side
  else s.logRequest r

/-- LOGS_PROG. -/
def execLogsProg (side : Side) (s : State) : Host.Outcome State Fault Refusal := .next (s.logCommand side .prog)

/-- LOGS_TWIN_WR. -/
def execLogsTwinWr (side : Side) (s : State) : Host.Outcome State Fault Refusal := .next (s.logCommand side .twinWr)

/-- LOGS_TWIN_RD. -/
def execLogsTwinRd (side : Side) (s : State) : Host.Outcome State Fault Refusal := .next (s.logCommand side .twinRd)

/-- The next waiting request starts (R492). -/
def State.startNext (s : State) : State :=
  if s.on F.LOGS_STAT_BUSY || s.on F.LOGS_STAT_RECOV then s
  else
    match s.logs.queue with
    | [] => s
    | r :: rest =>
      let s1 := s.withLogs fun g => { g with queue := rest }
      (s1.flag F.LOGS_STAT_QUEUED (rest.any LogReq.owners)).startReq r

/-- LOGS_COMMAND_START. -/
def execLogsCommandStart (s : State) : Host.Outcome State Fault Refusal := .next s.startNext

/-- The typical end of step 2 of R491 in the counter's units: 2.8 ms. -/
def journalTime : Nat := 2 ^ 56 * 28 / 10000

/-- Step 2 gives way to step 3 once its typical time has been counted (R491). -/
def State.logTick (s : State) : State :=
  match s.logs.op with
  | some r =>
    if !r.third && r.req != .erase && decide (r.at_ + journalTime ≤ s.tide.up) then
      (s.journal r).withLogs fun g => { g with op := some { r with third := true } }
    else s
  | none => s

/-- The programs of an operation that are not done yet, as far as `both` allows: the one in progress, or both. -/
def State.finishRun (s : State) (r : LogRun) (both : Bool) : State :=
  if r.req = .erase then s.eraseTally
  else if r.third then s.program r.page r.bytes
  else if both then (s.journal r).program r.page r.bytes
  else s.journal r

/-- The operation in progress ends. -/
def State.endRun (s : State) : State := (s.withLogs fun g => { g with op := none }).put F.LOGS_STAT_BUSY 0

/-- The program in progress completes at power-down; no further one starts (R334 step 4). -/
def State.finishProgram (s : State) : State :=
  match s.logs.op with
  | some r => (s.finishRun r false).endRun
  | none => s

/-- Power is lost in a program: the page it programs is left torn (R494). -/
def State.tear (s : State) (r : LogRun) : State :=
  let l := s.freeBytes 128
  let s1 := s.spendN 128
  if r.req = .erase then s1
  else if r.third then s1.setBytes (logAddr (128 * r.page)) l
  else
    let q := s.journalSeq + 1
    (s1.setBytes (logAddr (128 * (960 + q % 32))) l).setHead ⟨q % 32, r.page, q, false⟩

/-- VHOLD fails during an operation or during the save (R336). -/
def State.interruptSave (s : State) : State :=
  let s1 := match s.logs.op with | some r => (s.tear r).endRun | none => s
  if s.power.bor = 2 then
    (s1.setBytes (logAddr (0x1F000 + 256 * (s1.nextTally % 2))) (s1.freeBytes 128)).spendN 128
  else s1

/-- What the end of an operation brings (R491 step 4, R506). -/
def State.logEnds (s : State) (r : LogRun) : State :=
  match r.req with
  | .bytes _ _ _ x tag => ((s.withTag tag).ok x).withTag ""
  | .protect bp who =>
    let t := (s.withLogs fun g => { g with bp := bp }).put F.LOGS_PROT_BP bp
    match who with
    | some (x, tag) => ((t.withTag tag).ok x).withTag ""
    | none => t
  | .entry | .erase => s
  | _ => (s.logResult r.result).raise Src.LOGS_DONE r.page r.result

/-- LOGS_WRITE_DONE (R491). -/
def execLogsWriteDone (s : State) : Host.Outcome State Fault Refusal :=
  .next <|
    match s.logs.op with
    | some r => if r.req = .erase then s else ((s.finishRun r true).endRun).logEnds r
    | none => s

/-- TALLY_ERASE_DONE (R497). -/
def execTallyEraseDone (s : State) : Host.Outcome State Fault Refusal :=
  .next <|
    match s.logs.op with
    | some r => if r.req = .erase then s.eraseTally.endRun else s
    | none => s

/-- The journal at recovery (R494): the newest entry is applied if its target differs from it; and what LOGS_REC.JRNL says. -/
def State.recoverJournal (s : State) : State × Nat :=
  match newest s.logs.heads with
  | some h =>
    if s.page h.target ≠ s.page (960 + h.pos) then (s.program h.target (s.page (960 + h.pos)), 1)
    else if s.logs.heads.any fun k => k.pos == (h.pos + 1) % 32 && !k.valid then (s, 2)
    else (s, 0)
  | none => if s.logs.heads.any fun k => !k.valid then (s, 2) else (s, 0)

/-- Power-up recovery (R494). -/
def State.recover (s : State) : State :=
  let r := s.recoverJournal
  let t := if r.1.slotTorn 0 || r.1.slotTorn 1 then 1 else if r.1.tallySeq.isSome then 0 else 2
  let s2 := (r.1.put F.LOGS_REC_JRNL r.2).put F.LOGS_REC_TALLY t
  if r.2 ≠ 0 ∨ t = 1 then s2.raise0 Src.LOGS_RECOVER else s2

/-- The log store's registers that outlast a reset. -/
def State.logRegs (s : State) : State := s.put F.LOGS_PROT_BP s.logs.bp

/-- Recovery at step 3 of R406, then the erase of R497. -/
def State.logRecover (s : State) : State := (s.logRegs.recover).logRequest .erase

/-- Recovery on the warm path: it runs on with RECOV set (R629). -/
def State.logRecoverWarm (s : State) : State := s.logRegs.put F.LOGS_STAT_RECOV 1

/-- LOG_RECOVERY_DONE (R629): held commands start. -/
def execLogRecoveryDone (s : State) : Host.Outcome State Fault Refusal :=
  .next <|
    if s.on F.LOGS_STAT_RECOV then
      let s1 := s.recover.put F.LOGS_STAT_RECOV 0
      (s1.withLogs fun g => { g with queue := .erase :: g.queue }).startNext
    else s

/-- The tally cells loaded from the newest committed slot (R498). -/
def State.loadTally (s : State) : State :=
  let l := match s.tallySeq with
    | some q => s.bytes (logAddr (0x1F000 + 256 * (q % 2))) 256
    | none => List.replicate 256 0
  (List.range 16).foldl (fun t i => t.freshCheck (0x28003E0 + i)) (s.setBytes 0x28003E00 l)

/-- The page with the highest program count among some pages, with its count. -/
def State.mostWorn (s : State) (lo hi : Nat) : Nat × Nat :=
  s.logs.counts.foldl (fun a c => if lo ≤ c.1 ∧ c.1 < hi ∧ a.2 < c.2 then c else a) (lo, 0)

/-- A program count in percent of 1 000 000 (R505). -/
def wearOf (n : Nat) : Nat := min 255 (n * 100 / 1000000)

/-- The word of LOGS_WEAR. -/
def State.wearWord (s : State) : Nat :=
  let u := s.mostWorn 0 960
  wearOf u.2 + u.1 * 2 ^ 8 + wearOf (s.mostWorn 960 992).2 * 2 ^ 24

/-- The user pages that hold a byte other than 0xFF. -/
def State.usedPages (s : State) : Nat :=
  (s.mem.foldl
    (fun (a : Nat × Nat) c =>
      let p := (c.1 - 0x60000000) / 128 + 1
      if 0x60000000 ≤ c.1 ∧ p ≤ 960 ∧ a.2 ≠ p then (a.1 + 1, p) else a) (0, 0)).1

/-- Facts of the LOG commands. -/
def logCmd : CmdInfo := { block := some .logs, heritage := true }

/-- LOG_QUERY (R506). -/
def execLogQuery (x : Sess) (s : State) : Host.Outcome State Fault Refusal :=
  .next <| s.run x { logCmd with query := true } fun t =>
    (t.reply x ("LOG USED=" ++ Text.dec (128 * t.usedPages) ++ " BP=" ++ Text.dec (t.get F.LOGS_PROT_BP) ++ " WEAR=" ++
      Text.dec (max (t.wearWord % 256) (t.wearWord / 2 ^ 24)))).ok x

/-- LOG_READ (R506): answered whatever the owner. -/
def execLogRead (x : Sess) (addr length : Nat) (s : State) : Host.Outcome State Fault Refusal :=
  .next <| s.run x { logCmd with query := true } fun t =>
    if length = 0 ∨ 64 < length ∨ 131072 < addr + length then t.er x 120
    else
      (t.replies x ((List.range ((length + 15) / 16)).map fun i =>
        "LOG READ " ++ Text.dec (addr + 16 * i) ++ " " ++
          Text.hexBytes 4 ((t.bytes (logAddr (addr + 16 * i)) (min 16 (length - 16 * i))).map (·.toNat)))).ok x

/-- LOG_WRITE (R506): `OK` follows when the write ends. -/
def execLogWrite (x : Sess) (addr : Nat) (data : List Byte) (s : State) : Host.Outcome State Fault Refusal :=
  .next <| s.run x { logCmd with expert := true } fun t =>
    if data.isEmpty ∨ 32 < data.length ∨ 131072 ≤ addr ∨ 128 < addr % 128 + data.length then t.er x 120
    else if 960 ≤ addr / 128 ∨ t.protects (addr / 128) then t.er x 410
    else if t.on F.LOGS_STAT_BUSY || t.on F.LOGS_STAT_RECOV then t.er x 411
    else if t.get F.PWR_PATH_ACT = 2 ∧ t.get F.HARV_STAT_BAND = 1 then t.er x 313
    else t.logRequest (.bytes (addr / 128) (addr % 128) (data.map (·.toNat)) x t.console.tag)

/-- LOG_PROTECT (R493, R506): `OK` follows when its write ends. -/
def execLogProtect (x : Sess) (bp : Fin 4) (s : State) : Host.Outcome State Fault Refusal :=
  .next <| s.run x logCmd fun t =>
    if t.get F.PWR_PATH_ACT = 2 ∧ t.get F.HARV_STAT_BAND = 1 then t.er x 313
    else t.logRequest (.protect bp (some (x, t.console.tag)))

/-- LOG_TALLY_QUERY (R495, R506). -/
def execLogTallyQuery (x : Sess) (cell : Fin 64) (s : State) : Host.Outcome State Fault Refusal :=
  .next <| s.run x { logCmd with query := true } fun t =>
    (t.reply x ("LOG TALLY " ++ Text.dec cell ++ " " ++ Text.dec (leNat (t.bytes (0x28003E00 + 4 * cell) 4)))).ok x

end Sys2Proof.Machine
end

