-- ==== Sys2Proof/Machine/Memory.lean ====
section
/-! DEFINITION. Memories with word protection: verdicts, reads, full-block and partial writes, write-backs, the Dredger, the
remap tables and the wipe of the secure bank (R456 to R485). -/

namespace Sys2Proof.Machine

/-- The domain of an address in memory (R456); none for an always-on memory or an address outside the memories. -/
def memDomain (a : Nat) : Option Nat :=
  if a < 0x10000 ∨ (0x10000000 ≤ a ∧ a < 0x10010000) then some 0
  else if (0x08000000 ≤ a ∧ a < 0x08400000) ∨ (0x60000000 ≤ a ∧ a < 0x60020000) then some 12
  else if 0x20000000 ≤ a ∧ a < 0x20180000 then some (2 + (a - 0x20000000) / 0x80000)
  else if 0x29000000 ≤ a ∧ a < 0x29008000 then some 11
  else if 0x30000000 ≤ a ∧ a < 0x30080000 then some 7
  else if 0x100000000 ≤ a ∧ a < 0x100020000 then some 1
  else none

/-- The verdicts of R462: `data r c` is a failing bit `c` of byte `r`. -/
inductive Verdict where
  | clean
  | data (r c : Nat)
  | check
  | bad
  deriving DecidableEq, Repr

/-- The verdict on a syndrome: failing rows in bits 15..0, failing columns in bits 23..16 (R462). -/
def verdictOf (x : Nat) : Verdict :=
  match (List.range 16).filter (bitOf x), (List.range 8).filter fun i => bitOf x (16 + i) with
  | [], [] => .clean
  | [r], [c] => .data r c
  | [_], [] => .check
  | [], [_] => .check
  | _, _ => .bad

/-- The verdict on a block as it is stored (R462, R469, R470). -/
def State.verdict (s : State) (b : Nat) : Verdict :=
  let k := s.check b
  if 2 ^ 24 ≤ k then .bad else verdictOf (k ^^^ blockCheck (s.bytes (b * 16) 16))

/-- A corrected error (R466). -/
def State.corrected (s : State) (r b m : Nat) : State :=
  let s1 := (s.count (F.MEMCTL_ERR_CE r)).put F.MEMCTL_CEADDR_ADDR b
  if s.get (F.MEMCTL_ERR_CE r) = 0 then s1.raise Src.MEMCTL_CE (b * 16) (r + 256 * m) else s1

/-- An uncorrectable error (R467, R469). -/
def State.uncorrectable (s : State) (r b m : Nat) (partial_ : Bool) : State :=
  ((s.count (F.MEMCTL_ERR_UE r)).puts [(F.MEMCTL_UEADDR_ADDR, b), (F.MEMCTL_UESRC_REGION, r), (F.MEMCTL_UESRC_MASTER, m),
    (F.MEMCTL_UESRC_PARTIAL, bit partial_)]).raise Src.MEMCTL_UE (b * 16) (r + 256 * m)

/-- The report of an internal read: 0 none, 1 a correction, 2 an uncorrectable error. -/
def State.mergeReport (s : State) (rep r b m : Nat) : State :=
  if rep = 1 then s.corrected r b m else if rep = 2 then s.uncorrectable r b m true else s

/-- An access by a master to a bank ends the run of word stores it had there, which was then a partial write (R468). -/
def State.endStores (s : State) (m r : Nat) : State :=
  let mine := fun (x : StoreRun) => x.master == m && x.bank == r
  (s.runs.filter mine).foldl (fun t x => t.mergeReport x.report r x.block m)
    { s with runs := s.runs.filter fun x => !mine x }

/-- A byte with bit `c` inverted. -/
def flipBit (v : Byte) (c : Nat) : Byte := v ^^^ BitVec.ofNat 8 (2 ^ c)

/-- A block with the repair its verdict calls for, in data and check bits. -/
def State.mend (s : State) (b : Nat) : State :=
  match s.verdict b with
  | .data r c => (s.setByte (b * 16 + r) (flipBit (s.byte (b * 16 + r)) c)).freshCheck b
  | .check => s.freshCheck b
  | _ => s

/-- Read `n` bytes of memory within one block (R462, R466, R467): the state, the bytes, and whether they are uncorrectable. A
correction waits for a free cycle of its bank to be written back, but in the code store (R464, R466). -/
def State.readMem (s : State) (a n m : Nat) : State × List Byte × Bool :=
  match regionOf a with
  | none => (s, s.bytes a n, false)
  | some r =>
    let b := a / 16
    let s1 := s.endStores m r
    let later := fun (t : State) => if r = 28 ∨ t.wbacks.contains b then t else { t with wbacks := t.wbacks ++ [b] }
    match s1.verdict b with
    | .clean => (s1, s1.bytes a n, false)
    | .data i c =>
      ((later s1).corrected r b m, (s1.setByte (b * 16 + i) (flipBit (s1.byte (b * 16 + i)) c)).bytes a n, false)
    | .check => ((later s1).corrected r b m, s1.bytes a n, false)
    | .bad => (s1.uncorrectable r b m false, s1.bytes a n, true)

/-- A partial write (R468, R469): the block is read and mended, the bytes are merged, and fresh check bits are written; a block
that is uncorrectable stays so. The number is the report of the internal read. -/
def State.merge (s : State) (a : Nat) (l : List Byte) : State × Nat :=
  let b := a / 16
  match s.verdict b with
  | .clean => ((s.setBytes a l).freshCheck b, 0)
  | .bad => ((s.setBytes a l).setCheck b (2 ^ 24), 2)
  | _ => (((s.mend b).setBytes a l).freshCheck b, 1)

/-- Whether a master's run of word stores goes on with the word at `a` (R468). -/
def State.runAt (s : State) (a m r : Nat) : Option StoreRun :=
  s.runs.find? fun x => x.master == m && x.bank == r && x.block == a / 16 && x.next == a % 16 / 4

/-- Write bytes within one block of the bank `r` (R468, R469): 16 are a full-block write. The four words of a block, stored in
ascending order with no other access of the master to the bank between them, are one too: the report of their first internal
read is held until the run ends otherwise. -/
def State.writeIn (s : State) (r a : Nat) (l : List Byte) (m : Nat) : State :=
  let b := a / 16
  if l.length = 16 then (s.endStores m r).writeBlock b l
  else if l.length ≠ 4 then
    let t := (s.endStores m r).merge a l
    t.1.mergeReport t.2 r b m
  else
    match s.runAt a m r with
    | some x =>
      let rest := s.runs.filter fun y => y != x
      if x.next = 3 then ({ s with runs := rest }.setBytes a l).freshCheck b
      else { (s.merge a l).1 with runs := rest ++ [{ x with next := x.next + 1 }] }
    | none =>
      let t := (s.endStores m r).merge a l
      if a % 16 = 0 then
        { t.1 with runs := t.1.runs ++ [{ master := m, bank := r, block := b, next := 1, report := t.2 }] }
      else t.1.mergeReport t.2 r b m

/-- Write bytes of memory within one block; a correction of it that waits is dropped (R464). -/
def State.writeMem (s : State) (a : Nat) (l : List Byte) (m : Nat) : State :=
  match regionOf a with
  | none => s.setBytes a l
  | some r => { s with wbacks := s.wbacks.filter fun x => x != a / 16 }.writeIn r a l m

/-- CHECK_WRITE_BACK (R464): a correction that still waits is written back. -/
def execCheckWriteBack (block : Nat) (s : State) : Host.Outcome State Fault Refusal :=
  .next <|
    if s.wbacks.contains block then { s.mend block with wbacks := s.wbacks.filter fun x => x != block } else s

/-- The regions the Dredger walks (R474, R475), as first block and number of blocks, in ascending address order. -/
def State.dredged (s : State) : List (Nat × Nat) :=
  let ofRegion := fun r => ((regionRange r).1 / 16, ((regionRange r).2 - (regionRange r).1) / 16)
  (if s.on F.MEMCTL_DREG_ITCM && s.powered 0 then [ofRegion 25] else []) ++
  (if s.on F.MEMCTL_DREG_DTCM && s.powered 0 then [ofRegion 26] else []) ++
  (((List.range 24).filter fun n =>
    bitOf (s.get F.MEMCTL_DREG_BANKS) n && s.powered (2 + n / 8) && !bitOf (s.get F.MEMCTL_LOST_BANK) n).map ofRegion) ++
  (if s.on F.MEMCTL_DREG_AON then [ofRegion 24] else []) ++
  (if s.powered 11 then [ofRegion 27] else []) ++ (if s.powered 1 then [ofRegion 29] else [])

/-- The first block of a walk at or after block `p`. -/
def nextBlock (z : List (Nat × Nat)) (p : Nat) : Option Nat := (z.find? fun r => p < r.1 + r.2).map fun r => max p r.1

/-- A run-time entry of a remap table (R480, R481): a word of the AON or the secure bank that showed a correctable data error
on three consecutive passes. -/
def State.remapWord (s : State) (r w : Nat) : State :=
  let f := if r = 24 then F.MEMCTL_REMAP_AON else F.MEMCTL_REMAP_SEC
  if s.get f < 8 then
    let s1 := (s.mend (w / 4)).put f (s.get f + 1)
    { s1 with mems := if r = 24 then { s1.mems with remapAon := s1.mems.remapAon ++ [w] }
                      else { s1.mems with remapSec := s1.mems.remapSec ++ [w] } }.systemRecord
  else s.raise0 Src.MEMCTL_REMAP_FULL

/-- What the system firmware does with a data error the Dredger found in word `w` (R481). -/
def State.dredgerFault (s : State) (r w : Nat) : State :=
  let pass := s.get F.MEMCTL_DPASS_COUNT
  let old := Store.get (fun _ => ((0, 0) : Nat × Nat)) s.mems.streak w
  let n := if old.2 + 1 = pass ∧ 0 < old.1 then old.1 + 1 else 1
  let s1 := { s with mems := { s.mems with
    streak := Store.set (fun _ => (0, 0)) s.mems.streak w (if 3 ≤ n then (0, 0) else (n, pass)) } }
  if 3 ≤ n then s1.remapWord r w else s1

/-- The Dredger reads block `b` (R474): it corrects and counts. -/
def State.dredge (s : State) (b : Nat) : State :=
  let v := s.verdict b
  let s1 := (s.readMem (b * 16) 16 Master.dredger.code).1
  match v, regionOf (b * 16) with
  | .data i _, some r => if r = 24 ∨ r = 27 then s1.dredgerFault r (b * 4 + i / 4) else s1
  | _, _ => s1

/-- DREDGER_BLOCK (R474): the next block of the walk, while the device is above Heart-note; the end of a walk is counted and
the next one begins. -/
def execDredgerBlock (s : State) : Host.Outcome State Fault Refusal :=
  .next <|
    if !s.on F.MEMCTL_DCFG_EN || 2 ≤ s.power.depth then s
    else
      let z := s.dredged
      match (nextBlock z s.mems.dpos).or (nextBlock z 0) with
      | none => s
      | some b =>
        let s1 := s.dredge b
        let last := (nextBlock z (b + 1)).isNone
        let pos := ((nextBlock z (b + 1)).or (nextBlock z 0)).getD 0
        let s2 := if last then s1.put F.MEMCTL_DPASS_COUNT (s1.get F.MEMCTL_DPASS_COUNT + 1) else s1
        { s2.put F.MEMCTL_DPOS_ADDR pos with mems := { s2.mems with dpos := pos } }

/-- TAMPER_WIPE (R483, R485, R356, R526, R620): TAMPN held low wakes the device and starts the wipe, from its first block. It
fires producer 61 and raises LIFE_TAMP (DEDUCED: the spec names no occasion), and TAMPER counts it. -/
def execTamperWipe (s : State) : Host.Outcome State Fault Refusal :=
  .next <|
    let s1 := (((s.wake 10).fire 61).raise0 Src.LIFE_TAMP).withCrypto fun c => { c with tamper := min 0xFFFF (c.tamper + 1) }
    (s1.systemRecord.needDomain 11).beginWipe 0 true

/-- WIPE_DONE (R484): the wipe ends, reported if TAMPN or a lifecycle transition caused it, and the derived key is made anew. -/
def execWipeDone (s : State) : Host.Outcome State Fault Refusal :=
  .next <|
    if s.on F.MEMCTL_WIPE_BUSY then
      let s1 := s.put F.MEMCTL_WIPE_BUSY 0
      (if s.mems.wipeReport then s1.raise Src.MEMCTL_WIPE_DONE (s.get F.MEMCTL_WIPE_CAUSE) 0 else s1).deriveKey
    else s

end Sys2Proof.Machine
end

