-- ==== Sys2Proof/Machine/Life.lean ====
section
/-! DEFINITION. Images, slots and fuses (R409 to R421). -/

namespace Sys2Proof.Machine

/-- The lifecycle and images with a change. -/
def State.withLife (s : State) (f : Life → Life) : State := { s with life := f s.life }

/-- The physical address of a slot (R409). -/
def slotBase (slot : Nat) : Nat := 0x08000000 + slot * 0x200000

/-- The other slot. -/
def otherSlot (slot : Nat) : Nat := 1 - slot

/-- Bytes of a slot's header sector (R411). -/
def State.header (s : State) (slot ofs n : Nat) : List Byte := s.bytes (slotBase slot + 0x1FF000 + ofs) n

/-- A word of a slot's header sector. -/
def State.headerWord (s : State) (slot ofs : Nat) : Nat := leNat (s.header slot ofs 4)

/-- The magic of a header (R411). -/
def magic : List Byte := [0x50, 0x59, 0x52, 0x50]

/-- The factory's public key. -/
def factoryKey : List Byte := (List.range 57).map Config.factoryKey

/-- The product's public key: that of the hash blown at the transition to PROVISIONED (R420). -/
def State.productKey (s : State) : List Byte := (List.range 57).map (Config.productKey s.life.fuses.keyHash)

/-- The number of logical fuses of a list of pairs that count as blown: either cell of the pair (R419). -/
def blownOf (l : List Nat) : Nat := (l.filter (0 < ·)).length

/-- The lifecycle state of the fuses, by the first row of R419 that applies. -/
def Fuses.state (f : Fuses) : Nat :=
  if 0 < f.scrapped then 5
  else if 0 < f.deployed then (if blownOf f.ret = blownOf f.redeploy then 3 else 4)
  else if 0 < f.provisioned then 2
  else if 0 < f.test then 1
  else 0

/-- A pair of which a cell is blown, completed (R419). -/
def completePair (n : Nat) : Nat := if 0 < n then 2 else 0

/-- Step 2 of R406 blows a second cell wherever it finds one blown alone. -/
def Fuses.complete (f : Fuses) : Fuses :=
  { f with
    test := completePair f.test, provisioned := completePair f.provisioned, deployed := completePair f.deployed
    scrapped := completePair f.scrapped, ret := f.ret.map completePair, redeploy := f.redeploy.map completePair }

/-- The keys whose signatures a lifecycle state accepts (R420). -/
def State.acceptedKeys (s : State) : List (List Byte) :=
  match s.life.fuses.state with
  | 0 | 1 => [factoryKey]
  | 2 => [factoryKey, s.productKey]
  | 3 | 4 => [s.productKey]
  | _ => []

/-- Whether a slot's header signature verifies under a key; no context string is stated for images, so it is empty
(DEDUCED). -/
def State.signedBy (s : State) (slot : Nat) (key : List Byte) : Bool :=
  Ed448.verify key [] (s.header slot 0 0xA0) (s.header slot 0xA0 114)

/-- Whether a slot holds a valid image (R412). -/
def State.imageValid (s : State) (slot : Nat) : Bool :=
  s.header slot 0 4 == magic && s.headerWord slot 4 == 1 && s.headerWord slot 0x18 == Config.lineage &&
    s.life.fuses.rollback ≤ s.headerWord slot 0x0C && s.headerWord slot 0x0C ≤ 64 &&
    s.header slot 0x1C 4 == List.replicate 4 0 && s.header slot 0x112 (0x1000 - 0x112) == List.replicate (0x1000 - 0x112) 0 &&
    4 ≤ s.headerWord slot 0x10 && s.headerWord slot 0x10 ≤ 2093056 &&
    s.header slot 0x60 64 == Hash.shake256 (s.bytes (slotBase slot) (s.headerWord slot 0x10)) 64 &&
    s.acceptedKeys.any fun k => s.signedBy slot k

/-- Whether nothing has been written into a slot. -/
def State.slotEmpty (s : State) (slot : Nat) : Bool :=
  !s.mem.any fun c => slotBase slot ≤ c.1 && c.1 < slotBase slot + 0x200000

/-- The progress record of a slot whose load did not end (R414): its length and the bytes written. -/
def State.incomplete (s : State) (slot : Nat) : Option (Nat × Nat) :=
  (s.life.progress.find? fun p => p.1 == slot).map fun p => (p.2.1, p.2.2)

/-- The state of a slot, coded as in LIFE_SLOT. -/
def State.slotState (s : State) (slot : Nat) : Nat :=
  if (s.incomplete slot).isSome then 1
  else if s.slotEmpty slot then 0
  else if !s.imageValid slot then 2
  else if slot = s.life.active then 5
  else if s.life.next then 4
  else 3

/-- LIFE_SLOT, LIFE_VERA and LIFE_VERB as the slots stand. -/
def State.slotRegs (s : State) : State :=
  let a := s.slotState 0
  let b := s.slotState 1
  s.puts [(F.LIFE_SLOT_ACTIVE, s.life.active), (F.LIFE_SLOT_STA, a), (F.LIFE_SLOT_STB, b),
    (F.LIFE_VERA_VERSION, if 3 ≤ a then s.headerWord 0 8 else 0), (F.LIFE_VERB_VERSION, if 3 ≤ b then s.headerWord 1 8 else 0)]

/-- LIFE_STATE as the fuses stand. -/
def State.lifeRegs (s : State) : State :=
  let st := s.life.fuses.state
  s.puts [(F.LIFE_STATE_STATE, st), (F.LIFE_STATE_DEBUG, bit (st == 1 || st == 4)),
    (F.LIFE_STATE_ROLLBACK, s.life.fuses.rollback), (F.LIFE_STATE_REDEPLOY, blownOf s.life.fuses.redeploy),
    (F.LIFE_STATE_INTENT, bit s.life.intent.isSome)]

/-- A new confirmation code, which differs from the one in force (R84). -/
def State.newCode (s : State) : State :=
  let n := Config.number s.free % 65536
  s.spend.withLife fun l => { l with code := if n = l.code then (n + 1) % 65536 else n }

/-- The slot a load writes: the one that is not active (R413). -/
def State.inactive (s : State) : Nat := otherSlot s.life.active

/-- Where byte `i` of an image of `length` bytes lies (R413): the body first, then the header sector. -/
def imageAddr (slot length i : Nat) : Nat :=
  if i < length - 4096 then slotBase slot + i else slotBase slot + 0x1FF000 + (i - (length - 4096))

/-- The result of a load as its notice names it (R413). -/
def loadResult (state : Nat) : String := if state = 1 then "INCOMPLETE" else if 3 ≤ state then "VALID" else "INVALID"

/-- A load ends (R413, R414): the slot is verified and the notice is sent. -/
def State.endLoad (s : State) (l : ImageLoad) : State :=
  let slot := s.inactive
  let done := l.at_ = l.length
  let rest := s.life.progress.filter fun p => p.1 != slot
  let s1 := (s.withLife fun f => { f with
    load := none
    progress := if done then rest else rest ++ [(slot, l.length, l.at_ / 4096 * 4096)] }).slotRegs
  s1.systemRecord.raiseK Src.LIFE_IMAGE_DONE 0 0
    [("RESULT", loadResult (s1.slotState slot)), ("BYTES", Text.dec l.at_)]

/-- IMAGE_DATA_BYTE (R413, R414): a byte of the load lands in its slot; progress is recorded at each whole sector. -/
def execImageDataByte (b : Byte) (s : State) : Host.Outcome State Fault Refusal :=
  .next <|
    match s.life.load with
    | none => s
    | some l =>
      let slot := s.inactive
      let a := imageAddr slot l.length l.at_
      let s1 := (s.setByte a b).freshCheck (a / 16)
      let l' := { l with at_ := l.at_ + 1 }
      if l'.at_ = l.length then s1.endLoad l'
      else
        let s2 := s1.withLife fun f => { f with load := some l' }
        if l'.at_ % 4096 = 0 then
          (s2.withLife fun f => { f with
            progress := (f.progress.filter fun p => p.1 != slot) ++ [(slot, l.length, l'.at_)] }).systemRecord
        else s2

/-- IMAGE_GAP_TIMEOUT (R413): a gap of more than 5 s ends the load. -/
def execImageGapTimeout (s : State) : Host.Outcome State Fault Refusal :=
  .next <|
    match s.life.load with
    | none => s
    | some l => s.endLoad l

/-- Facts of the commands of the LIFE group. -/
def lifeCmd : CmdInfo := { block := some .life, sysGroup := true, heritage := true }

/-- LIFE_IMAGE_LOAD (R413, R415, R417). The port named is that of the session that carries the data; another is a conflict
(DEDUCED: the session takes the bytes). -/
def execLifeImageLoad (x : Sess) (i2c : Bool) (length : Nat) (s : State) : Host.Outcome State Fault Refusal :=
  .next <| s.run x lifeCmd fun t =>
    let slot := t.inactive
    if length < 4100 ∨ 2097152 < length then t.er x 120
    else if t.life.next ∨ t.life.load.isSome ∨ x ≠ (if i2c then .i2c else .uart0) then t.er x 230
    else
      let at_ := match t.incomplete slot with
        | some p => if p.1 = length then p.2 else 0
        | none => 0
      let resumed := match t.incomplete slot with | some p => p.1 == length | none => false
      let t1 := if resumed then t.reply x ("LIFE IMAGE RESUME AT=" ++ Text.dec at_) else t
      ((t1.withLife fun f => { f with
        load := some { sess := x, length := length, at_ := at_ }
        progress := (f.progress.filter fun p => p.1 != slot) ++ [(slot, length, at_)] }).slotRegs.systemRecord).ok x

/-- LIFE_IMAGE_COMMIT (R416, R417). -/
def execLifeImageCommit (x : Sess) (s : State) : Host.Outcome State Fault Refusal :=
  .next <| s.run x lifeCmd fun t =>
    let slot := t.inactive
    if t.life.load.isSome then t.er x 230
    else if (t.incomplete slot).isSome then t.er x 421
    else if !t.imageValid slot then t.er x 420
    else ((t.withLife fun f => { f with next := true }).slotRegs.systemRecord).ok x

/-- A `LIFE IMAGE` line (R425). -/
def State.imageLine (s : State) (slot : Nat) : String :=
  let st := if slot = 0 then s.get F.LIFE_SLOT_STA else s.get F.LIFE_SLOT_STB
  let ver := if slot = 0 then s.get F.LIFE_VERA_VERSION else s.get F.LIFE_VERB_VERSION
  "LIFE IMAGE SLOT=" ++ (if slot = 0 then "A" else "B") ++ " STATE=" ++ Name.slotState st ++ " VER=" ++ Text.dec ver ++
    " STEP=" ++ Text.dec (if 3 ≤ st then s.headerWord slot 0x0C else 0)

/-- LIFE_IMAGE_QUERY (R417, R425). -/
def execLifeImageQuery (x : Sess) (s : State) : Host.Outcome State Fault Refusal :=
  .next <| s.run x { lifeCmd with query := true } fun t => (t.replies x [t.imageLine 0, t.imageLine 1]).ok x

/-- LIFE_QUERY (R83, R84). -/
def execLifeQuery (x : Sess) (s : State) : Host.Outcome State Fault Refusal :=
  .next <| s.run x { lifeCmd with query := true, scrapOk := true } fun t =>
    (t.reply x ("LIFE STATE=" ++ Name.life (t.get F.LIFE_STATE_STATE) ++ " REDEPLOY=" ++
      Text.dec (t.get F.LIFE_STATE_REDEPLOY) ++ " ROLLBACK=" ++ Text.dec (t.get F.LIFE_STATE_ROLLBACK) ++ " CODE=" ++
      Text.hex 4 t.life.code)).ok x

end Sys2Proof.Machine
end

