-- ==== Sys2Proof/Machine/Bond.lean ====
section
/-! DEFINITION. The measurement queue and the bit log as rings (R218 to R225, R230 to R232, R247), and the settlement of
results: refusals, late clearings, and what becomes of the berth (R141, R176, R197 to R209, R231). -/

namespace Sys2Proof.Machine

/-- The bits of the signal and satellite of a payload or record, from bit 8 on, below the satellite's number (R262). -/
def svBits (sig sys svn : Nat) : Nat := sig * 2 ^ 8 + sys * 2 ^ 12 + svn * 2 ^ 16

/-- The free records of the measurement queue (R225): the next record may not reach MEASQ_TAIL. -/
def State.measFree (s : State) : Nat :=
  let n := 2 ^ s.gnss.measq.2
  (s.get F.MEASQ_TAIL_IDX + n - s.get F.MEASQ_HEAD_IDX % n - 1) % n

/-- Write records of four words each into the measurement queue. -/
def State.measWrite (s : State) : List (List Nat) → State
  | [] => s
  | w :: r =>
    let h := s.get F.MEASQ_HEAD_IDX
    ((s.writeBlock (s.gnss.measq.1 + h) (wordBytes w)).put F.MEASQ_HEAD_IDX ((h + 1) % 2 ^ s.gnss.measq.2)).measWrite r

/-- Records of an epoch's measurement queue (R225): written whole if they fit and leave `spare` records free, else dropped
whole, counted and raised, and the next header carries LOST. Nothing is written while EN is 0. -/
def State.measPut (s : State) (epoch spare : Nat) (l : List (List Nat)) : State :=
  if !s.on F.MEASQ_CFG_EN then s
  else if l.length + spare ≤ s.measFree then s.measWrite l
  else
    ((s.countBy F.MEASQ_STAT_DROPPED l.length).withGnss fun g => { g with lost := true }).raiseK Src.MEASQ_DROP
      (l.length % 65536) epoch [("COUNT", Text.dec l.length), ("EPOCH", Text.dec epoch)]

/-- A record in the layout of R208. -/
def settleWords (typ sig berth first sys svn last cause count sec frac : Nat) : List Nat :=
  [typ * 2 ^ 28 + sig * 2 ^ 24 + berth * 2 ^ 16 + first, sys * 2 ^ 24 + svn * 2 ^ 16 + last, sec % 2 ^ 32,
    cause * 2 ^ 27 + count * 2 ^ 22 + frac / 2 ^ 10]

/-- The keys of a settlement notice (R214). -/
def settleKeys (sig berth first sys svn last count : Nat) : List (String × String) :=
  [("BERTH", Text.dec berth), ("SIG", Sig.name sig), ("SAT", satName sys svn), ("FIRST", Text.dec first),
    ("LAST", Text.dec last), ("COUNT", Text.dec count)]

/-- Write a settlement record and raise its source (R208), of a console-owned berth alone (R183). -/
def State.settleRecord (s : State) (late : Bool) (n : Nat) (es : List Entry) (cause : Nat) : State :=
  if !s.consoleOwns n then s
  else
    let (sig, sys, svn, first, last) := match es.head?, es.getLast? with
      | some a, some b => (a.sig, a.sys, a.svn, a.epoch, b.epoch)
      | _, _ => (s.get (F.BERTH_CFG_SIG n), s.berthSys n, s.get (F.BERTH_CFG_SVN n), s.nextEpoch, s.nextEpoch)
    let w := settleWords (if late then 0xC else 0xD) sig n first sys svn last cause es.length s.tideSec s.tideFrac
    let k := settleKeys sig n first sys svn last es.length
    (s.measPut last 0 [w]).raiseK (if late then Src.GNSS_LATE_CLEAR else Src.GNSS_RETRACT) (w.getD 0 0) (w.getD 1 0)
      (if late then k else k ++ [("CAUSE", Text.dec cause)])

/-- The distinct epochs of the entries in bond, oldest first. -/
def bondEpochs : List Entry → List Nat
  | [] => []
  | e :: r => let l := bondEpochs r; if e.bond && !l.contains e.epoch then e.epoch :: l else l

/-- Whether epoch `a` is not before epoch `b` (R216). -/
def epochFrom (a b : Nat) : Bool := decide ((a + 65536 - b % 65536) % 65536 < 32768)

/-- The checkpoints are held back to the oldest unsettled epoch; SILLAGE_EPOCH reports their number and that epoch (R206,
R212). -/
def State.reportDepth (s : State) : State :=
  let l := bondEpochs s.gnss.entries
  let held := s.gnss.checks.dropWhile fun e => !l.contains e
  ((s.withGnss fun g => { g with checks := held }).put F.SILLAGE_EPOCH_DEPTH (min 16 held.length)).put
    F.SILLAGE_EPOCH_OLDEST (l.headD 0)

/-- Change the entries that satisfy a test. -/
def State.modEntries (s : State) (p : Entry → Bool) (f : Entry → Entry) : State :=
  (s.withGnss fun g => { g with entries := g.entries.map fun e => if p e then f e else e }).reportDepth

/-- Whether an entry is one of a start and in bond. -/
def Entry.openOf (e : Entry) (n serial : Nat) : Bool := e.bond && e.berth == n && e.serial == serial

/-- The entries of a berth's current start that are in bond, oldest first. -/
def State.bonded (s : State) (n : Nat) : List Entry :=
  s.gnss.entries.filter fun e => e.openOf n (s.berth n).serial

/-- The checkpoints after a retraction (R206): the branch returns to the one before the first epoch retracted and is propagated
again, which keeps those of the later epochs that still hold an in-bond result. -/
def GnssState.rollBack (g : GnssState) (es : List Entry) : List Nat :=
  let rest := bondEpochs (g.entries.filter fun e => !es.contains e)
  match es.head? with
  | some a => g.checks.filter fun e => !epochFrom e a.epoch || rest.contains e
  | none => g.checks

/-- Refuse entries: they are withdrawn by one retraction record (R206, R208). -/
def State.retract (s : State) (n : Nat) (es : List Entry) (cause : Nat) : State :=
  ((s.settleRecord false n es cause).withGnss fun g => { g with checks := g.rollBack es }).modEntries
    (fun e => es.contains e) fun e => { e with bond := false, refused := true }

/-- The words of a navigation unit's record (R230). -/
def LoggedUnit.bits : Nat → Nat := fun u => [30, 85, 30, 300, 9, 600, 274, 228, 238, 14, 600, 264, 288, 292, 250].getD u 0

/-- The blocks of a record of `b` bits. -/
def unitBlocks (b : Nat) : Nat := 1 + (b + 127) / 128

/-- Word 1 of a unit's record (R230). -/
def LoggedUnit.word1 (r : LoggedUnit) : Nat :=
  r.st * 2 ^ 30 + r.u.chk.val * 2 ^ 28 + bit r.u.inv * 2 ^ 27 + r.sys * 2 ^ 24 + r.svn * 2 ^ 16 + r.k * 2 ^ 12 +
    r.u.unit.val * 2 ^ 8 + unitBlocks (LoggedUnit.bits r.u.unit)

/-- Whether a unit may enter the ephemeris and almanac store (R204, R231). -/
def LoggedUnit.enters (r : LoggedUnit) : Bool := r.st == 0 && (r.u.chk == 0 || r.u.chk == 3)

/-- Settle the logged units of a start: ST is rewritten in place, in one word (R231), and cleared words enter the store
(R204). -/
def State.settleUnits (s : State) (n serial st : Nat) : State :=
  let hit := fun (r : LoggedUnit) => r.berth == n && r.serial == serial && r.st == 1
  let mine := s.gnss.units.filter hit
  let s1 := mine.foldl (fun t r =>
    match r.index with
    | some i => t.setBytes ((t.gnss.bitlog.1 + i) * 16 + 4) (leBytes 4 { r with st := st }.word1) |>.freshCheck
        (t.gnss.bitlog.1 + i)
    | none => t) s
  s1.withGnss fun g =>
    { g with
      units := g.units.map fun r => if hit r then { r with st := st } else r
      store := g.store ++ (mine.map fun r => { r with st := st }).filter (·.enters) }

/-- Whether the Lookout's queue takes a signal: it has room, and no lane searches it and it does not wait already. -/
def GnssState.maySearch (g : GnssState) (q : Search) : Bool :=
  decide (g.queue.length < 255) && !(g.queue.any fun x => x.sig == q.sig && x.svn == q.svn) &&
    !(g.lanes.any fun x => x.2.sig == q.sig && x.2.svn == q.svn)

/-- The queue in the order of R133. -/
def placeSearch (q : Search) : List Search → List Search
  | [] => [q]
  | x :: r => if q.order < x.order ∨ (q.order = x.order ∧ q.rank < x.rank) then q :: x :: r else x :: placeSearch q r

/-- LOOKOUT_STAT reports the lanes running and the signals waiting (R150). -/
def State.reportSearch (s : State) : State :=
  (s.put F.LOOKOUT_STAT_QUEUED s.gnss.queue.length).put F.LOOKOUT_STAT_BUSY
    ((List.range 16).filter fun i => s.get (F.LOOKOUT_LANE_CMD_STATE i) == 1).length

/-- Queue a signal for search. -/
def State.queueSearch (s : State) (q : Search) : State :=
  if s.gnss.maySearch q then
    (s.withGnss fun g => { g with queue := placeSearch q g.queue }).reportSearch
  else s

/-- A berth's signal as a search of an order and rank. -/
def State.searchFor (s : State) (n order rank : Nat) : Search :=
  let (g, svn, k) := s.signalOf n
  { sig := g, sys := Sig.sys g, svn := svn, k := k, berth := n, order := order, rank := rank, excl := none, aided := false,
    cold := false, deep := none, since := s.tide.up, left := 0 }

/-- The state of a berth whose start was refused (R203). -/
def State.afterRefusal (s : State) : Nat := if s.bursts then 6 else 5

/-- STAT.BOND (R155, R189, R204): the berth's present results are in bond. -/
def State.showBond (s : State) (n : Nat) : State :=
  let b := s.berth n
  s.flag (F.BERTH_STAT_BOND n) (b.kind.isSome && (!b.cleared || b.predicted))

/-- A berth without a start: its results are no longer in bond, it is not synchronised (R154), and unless it goes to IDLE its
plan entry is searching again (R118). -/
def State.endStart (s : State) (n state : Nat) : State :=
  let t := (s.modBerth n fun b =>
    { b with kind := none, cleared := false, dwell := none, fail := 0, predicted := false, move := none }).puts
    [(F.BERTH_STAT_STATE n, state), (F.BERTH_STAT_BOND n, 0), (F.BERTH_STAT_SEC_SYNC n, 0),
      (F.BERTH_STAT_PLOCK n, 0), (F.BERTH_STAT_FLOCK n, 0), (F.BERTH_STAT_CLOCK n, 0)]
  if state = 0 then t else t.planState n 1

/-- What follows a refused start: a handoff's refusal is counted, and its signal returns to the queue at its order without the
cell it reported, up to three times in a row (R141); three refused partner starts queue the partner's signal (R133, R176). A
signal that is released does not return. -/
def State.afterRefused (s : State) (n : Nat) (b : BerthState) (again : Bool) : State :=
  let r := b.refused + 1
  let s1 := s.modBerth n fun b => { b with refused := r }
  match b.kind with
  | some .handoff =>
    let s2 := s1.count F.LOOKOUT_CNT_REFUSED
    if again && decide (r < 3) then
      match b.took with
      | some h =>
        s2.queueSearch { s2.searchFor n h.order h.rank with excl := some (h.phase / 16, h.dop), since := h.since, cold := h.cold }
      | none => s2
    else s2
  | some .partner =>
    if !again || decide (r < 3) then s1
    else
      match s1.placeOf n, Sig.partner (s1.get (F.BERTH_CFG_SIG n)) with
      | some (i, _), some g =>
        match s1.berthOf i g with
        | some m => s1.queueSearch (s1.searchFor m 3 m)
        | none => s1
      | _, _ => s1
  | _ => s1

/-- GNSS_BERTH_LOSS is raised where the berth has it on (R158, R180). -/
def State.raiseLoss (s : State) (n : Nat) : State :=
  if s.on (F.BERTH_CFG_LOSS_EV n) then
    s.raiseK Src.GNSS_BERTH_LOSS n s.tideFrac [("BERTH", Text.dec n), ("FRAC", Text.dec s.tideFrac)]
  else s

/-- Refuse a berth's start (R198, R200, R203): its entries in bond are withdrawn by one record; the berth goes to `state`: LOST,
with what R180 says of a loss, or HOLD, where it stays for the rest of the window. -/
def State.refuseStart (s : State) (n cause state : Nat) : State :=
  let b := s.berth n
  if b.kind.isNone then s
  else
    let s1 := ((s.retract n (s.bonded n) cause).settleUnits n b.serial 2).count F.SILLAGE_CNT_REFUSED
    let s2 := (s1.endStart n state).afterRefused n b true
    if state = 5 then s2.raiseLoss n else s2.modBerth n fun b => { b with barred := true }

/-- The results of a berth that are in bond are refused at an event (R198, last row): loss of lock (7) or release (8).
A start that was cleared ends; its own units stay. One that was not is a refused start (R141, R203). -/
def State.refuseBonded (s : State) (n cause state : Nat) : State :=
  let b := s.berth n
  let es := s.bonded n
  if b.kind.isSome && !b.cleared then
    let s1 := (s.retract n es cause).settleUnits n b.serial 2
    ((s1.count F.SILLAGE_CNT_REFUSED).endStart n state).afterRefused n b (cause == 7)
  else (if es.isEmpty then s else s.retract n es cause).endStart n state

/-- The registers that show the chosen prediction (R213): the phase, the carrier, the Doppler, the uncertainties, and the first
16 symbols with their mask; a berth with no prediction reads 0. -/
def State.showPrediction (s : State) : State :=
  let n := s.get F.SILLAGE_PSEL_BERTH
  let l := match s.predOf n with
    | some p =>
      let syms := p.syms.take 16
      (p.chip % 2 ^ 14 + p.frac.toNat / 2 ^ 14 * 2 ^ 14, p.carr.toNat, pattern 32 p.dop, min 0xFFFF p.codeU, min 0xFFFF p.dopU,
        ofBits 16 fun i => syms.getD i none == some true, ofBits 16 fun i => (syms.getD i none).isSome)
    | none => (0, 0, 0, 0, 0, 0, 0)
  s.puts [(F.SILLAGE_PCODE_PHASE, l.1), (F.SILLAGE_PCARR_PHASE, l.2.1), (F.SILLAGE_PDOP_DOP, l.2.2.1),
    (F.SILLAGE_PUNC_CODE_U, l.2.2.2.1), (F.SILLAGE_PUNC_DOP_U, l.2.2.2.2.1), (F.SILLAGE_PBITS_BITS, l.2.2.2.2.2.1),
    (F.SILLAGE_PBITS_MASK, l.2.2.2.2.2.2)]

/-- The predictions held are replaced: SILLAGE_STAT.VALID says whether seeds are held for the next window, which the burst modes
alone have (R212), and the chosen one is shown (R213). -/
def State.keepPreds (s : State) (l : List Pred) : State :=
  ((s.withGnss fun g => { g with preds := l }).flag F.SILLAGE_STAT_VALID (s.bursts && !l.isEmpty)).showPrediction

/-- A signal that leaves its berth is removed from the queue, and a lane that searches it returns to idle (R135); nothing is
predicted for the berth any more. -/
def State.stopLanes (s : State) (n : Nat) : State :=
  let s1 := (s.gnss.lanes.filter fun l => l.2.berth == n).foldl (fun t l => t.put (F.LOOKOUT_LANE_CMD_STATE l.1) 0) s
  let s2 := s1.withGnss fun g =>
    { g with
      queue := g.queue.filter fun q => q.berth != n, lanes := g.lanes.filter fun l => l.2.berth != n
      excl := g.excl.filter fun p => p.1 != n }
  (s2.keepPreds (s2.gnss.preds.filter fun p => p.berth.val != n)).reportSearch

/-- The plan entries that a berth was leaving are unbound (R118). -/
def State.leavePlaces (s : State) (n : Nat) : State :=
  let s1 := (s.berth n).leaving.foldl
    (fun t p => if t.get (F.PLAN_SLOT_A_STATE p.1 p.2) = 3 then t.put (F.PLAN_SLOT_A_STATE p.1 p.2) 0 else t) s
  s1.modBerth n fun b => { b with leaving := [] }

/-- A berth that the plan has given up stops (R184): its results in bond are refused, and nothing waits on it. -/
def State.stopBerth (s : State) (n : Nat) : State :=
  let s1 := ((s.refuseBonded n 8 0).leavePlaces n).modBerth n fun b =>
    { b with hand := none, took := none, refused := 0, next := none }
  (s1.put (F.BERTH_CFG_EN n) 0).stopLanes n

/-- Release a berth's binding at once (R102, R184): its plan entry is unbound, and it stops. -/
def State.releaseBerth (s : State) (n : Nat) : State :=
  let s1 := match s.placeOf n with
    | some (i, j) => (s.put (F.PLAN_SLOT_A_BERTH i j) 0x100).put (F.PLAN_SLOT_A_STATE i j) 0
    | none => s
  s1.stopBerth n

/-- A berth loses lock (R180): its results in bond are refused, GNSS_BERTH_LOSS is raised, and a console-owned berth that had
been cleared is queued for recovery. -/
def State.loseLock (s : State) (n : Nat) : State :=
  let b := s.berth n
  let s2 := (s.refuseBonded n 7 5).raiseLoss n
  if s.consoleOwns n && b.cleared && Sig.direct (s.get (F.BERTH_CFG_SIG n)) then
    s2.queueSearch (s2.searchFor n 1 n)
  else s2

/-- Every berth in TRACK or PULL loses lock (R393). -/
def State.berthsLost (s : State) : State :=
  allBerths.foldl
    (fun t n => if t.get (F.BERTH_STAT_STATE n) == 4 || t.get (F.BERTH_STAT_STATE n) == 2 then t.loseLock n else t) s

/-- Every berth on one input loses lock when its synthesiser loses lock (R387). -/
def State.berthsUnlock (s : State) (band5 : Bool) : State :=
  allBerths.foldl
    (fun t n =>
      if (t.get (F.BERTH_STAT_STATE n) == 4 || t.get (F.BERTH_STAT_STATE n) == 2) &&
        (Sig.band (t.get (F.BERTH_CFG_SIG n)) == 4) == band5 then t.loseLock n else t) s

end Sys2Proof.Machine
end

