-- ==== Sys2Proof/Machine/Power.lean ====
section
/-! DEFINITION. The power path, the hold-up capacitor and the power-down sequence, core regulation, operating points,
domain commands, the sleep depths and the wake record, with their console commands (R324 to R361). -/

namespace Sys2Proof.Machine

/-- The source the policy chooses (R328): 0 none, 1 VBAT, 2 VSTORE. -/
def State.pathChoice (s : State) : Nat :=
  let vbat := s.on F.PWR_PATH_VBAT_OK
  let store := s.on F.PWR_PATH_STORE_OK
  if s.on F.PWR_PATH_POLICY && store && s.get F.HARV_STAT_BAND == 5 then 2
  else if vbat then 1 else if store then 2 else 0

/-- Switch the path to a source (R329). -/
def State.setPath (s : State) (n : Nat) : State :=
  let old := s.get F.PWR_PATH_ACT
  if n = old then s else (s.put F.PWR_PATH_ACT n).raise Src.PWR_PATH_CHANGE (old + 4 * n) 0

/-- Switch the path as the policy asks. Under HARVEST-FIRST a path on VBAT returns to the store only by PATH_RETURN
(R328). -/
def State.updatePath (s : State) : State :=
  let n := s.pathChoice
  if s.get F.PWR_PATH_ACT = 1 ∧ n = 2 ∧ s.on F.PWR_PATH_VBAT_OK then s else s.setPath n

/-- VBAT_QUALIFY (R327). -/
def execVbatQualify (s : State) : Host.Outcome State Fault Refusal := .next (s.put F.PWR_PATH_VBAT_OK 1).updatePath

/-- VBAT_DISQUALIFY (R327, R329). -/
def execVbatDisqualify (s : State) : Host.Outcome State Fault Refusal := .next (s.put F.PWR_PATH_VBAT_OK 0).updatePath

/-- VSTORE_QUALIFY (R327): only while the store's protection has not disconnected it. -/
def execVstoreQualify (s : State) : Host.Outcome State Fault Refusal :=
  .next (if s.on F.HARV_STAT_CONN then (s.put F.PWR_PATH_STORE_OK 1).updatePath else s)

/-- VSTORE_DISQUALIFY (R327, R329). -/
def execVstoreDisqualify (s : State) : Host.Outcome State Fault Refusal :=
  .next (s.put F.PWR_PATH_STORE_OK 0).updatePath

/-- PATH_RETURN (R328). -/
def execPathReturn (s : State) : Host.Outcome State Fault Refusal :=
  .next <|
    if s.on F.PWR_PATH_POLICY && s.on F.PWR_PATH_STORE_OK && s.get F.HARV_STAT_BAND == 5 then s.setPath 2 else s

/-- PWR_STAT.ARMED follows HOLD_OK and SAVE_EN (R332). -/
def State.rearm (s : State) : State := s.flag F.PWR_STAT_ARMED (s.on F.PWR_STAT_HOLD_OK && s.on F.PWR_BOR_SAVE_EN)

/-- HOLD_OK (R332). -/
def execHoldOk (s : State) : Host.Outcome State Fault Refusal := .next (s.put F.PWR_STAT_HOLD_OK 1).rearm

/-- PWR_HOLD_LOW (R332): raised while a source qualifies. -/
def execPwrHoldLow (s : State) : Host.Outcome State Fault Refusal :=
  .next <|
    let s1 := (s.put F.PWR_STAT_HOLD_OK 0).rearm
    if s.on F.PWR_PATH_VBAT_OK || s.on F.PWR_PATH_STORE_OK then s1.raise0 Src.PWR_HOLD_LOW else s1

/-- PWR_BOR_WARN (R333, R334 step 1): the source is raised, seven domains are switched off, the Tide counter passes to
the always-on section and the time pulse stops. A loss of every source counts only while the path has none; a sequence
under way is not begun again (R335). -/
def execPwrBorWarn (cause : BorCause) (s : State) : Host.Outcome State Fault Refusal :=
  .next <|
    if s.power.bor ≠ 0 ∨ (cause = .noSource ∧ s.get F.PWR_PATH_ACT ≠ 0) then s
    else
      let s1 := (s.raise0 Src.PWR_BOR_WARN).fire 28
      let s2 := s1.signLost
      let s3 := [5, 6, 7, 9, 10, 11, 8].foldl (fun t d => t.domainOff d) s2
      let s4 := (s3.tideToAon).put F.TP_STAT_ON 0
      { s4 with power := { s4.power with bor := 1, borArmed := s.on F.PWR_STAT_ARMED } }

/-- Assert the VBAT brown-out reset (R336). -/
def State.assertVbor (s : State) : State :=
  { s with power := { s.power with vbor := true, bor := 0, appHeld := true } }

/-- GRACE_EXPIRY (R334 steps 3 and 4, R335): the application core stops; without an armed save the reset follows. -/
def execGraceExpiry (s : State) : Host.Outcome State Fault Refusal :=
  .next <|
    if s.power.bor = 1 then
      let s1 := { s with power := { s.power with bor := 2, appHeld := true } }
      if s.power.borArmed then s1.finishProgram else s1.assertVbor
    else s

/-- TALLY_SAVE (R334 steps 5 and 6, R496). -/
def execTallySave (s : State) : Host.Outcome State Fault Refusal :=
  .next (if s.power.bor = 2 then s.tallySave.assertVbor else s)

/-- VBAT_BOR_ASSERT (R336): VHOLD below 2.15 V; the AON bank loses its contents (R358, R401). -/
def execVbatBorAssert (s : State) : Host.Outcome State Fault Refusal :=
  .next <|
    let s1 := s.interruptSave.assertVbor
    { s1 with power := { s1.power with vholdLost := true } }

/-- IO_BANK_LOSS (R326). -/
def execIoBankLoss (second : Bool) (s : State) : Host.Outcome State Fault Refusal :=
  .next <|
    let f := if second then F.PWR_STAT_IO2_OK else F.PWR_STAT_IO1_OK
    if s.on f then (s.put f 0).raise0 Src.PWR_IO_LOST else s

/-- IO_BANK_RETURN (R326). -/
def execIoBankReturn (second : Bool) (s : State) : Host.Outcome State Fault Refusal :=
  .next (s.put (if second then F.PWR_STAT_IO2_OK else F.PWR_STAT_IO1_OK) 1)

/-- PWR PATH (R328, R330). -/
def State.setPolicy (s : State) (p : Nat) : State :=
  let s1 := s.put F.PWR_PATH_POLICY p
  s1.setPath s1.pathChoice

/-- Facts of the commands of the PWR and NOTE groups. -/
def pwrCmd : CmdInfo := { block := some .pwr }

/-- PWR_PATH. -/
def execPwrPath (x : Sess) (harvest : Bool) (s : State) : Host.Outcome State Fault Refusal :=
  .next (s.run x pwrCmd fun t => (t.setPolicy (bit harvest)).ok x)

/-- The set-point VSET of an operating point (R342, R359). -/
def vsetOf (p : Nat) : Nat := if p = 2 then 60 else if p = 1 then 20 else 0

/-- The bias of every domain at an operating point (R342): forward at Run-high, zero elsewhere. -/
def biasOf (p : Nat) : Nat := if p = 2 then 0x5555555 else 0

/-- Request an operating point (R343). -/
def State.requestPoint (s : State) (p : Nat) : State :=
  if p = s.get F.PWR_POINT_ACT ∧ !s.on F.PWR_POINT_PEND then s.put F.PWR_POINT_POINT p
  else (s.put F.PWR_POINT_POINT p).put F.PWR_POINT_PEND 1

/-- Whether the ledger grants an operating point: its weights are booked from the request on (R39, R343). -/
def State.pointGranted (s : State) (p : Nat) : Bool := ledgerGrants s (s.requestPoint p)

/-- PWR_POINT (R340, R343). -/
def execPwrPoint (x : Sess) (p : Fin 3) (s : State) : Host.Outcome State Fault Refusal :=
  .next <| s.run x pwrCmd fun t =>
    if t.on F.PWR_REG_MODE ∧ p ≠ 0 then t.er x 230
    else if !t.pointGranted p then (t.ledgerRefuse .pwr 0x10 .console).er x 312
    else if t.reserveRefuses (t.requestPoint p) then t.er x 313
    else (t.requestPoint p).ok x

/-- The expert bits of a write that differ from their present values, counted where BASIC refuses them (R22). -/
def State.refuseExpert (s : State) (b : Block) (ofs : Nat) (side : Side) (differs : Bool) : State :=
  if differs && !s.expert b then s.deny b 1 ofs side else s

/-- A write of PWR_POINT (R340, R343, R359). -/
def State.writePwrPoint (s : State) (side : Side) (v : Nat) : State :=
  let p := bitsOf v 0 2
  let vset := bitsOf v 8 8
  if side ≠ s.owner .pwr then s.deny .pwr 0 0x10 side
  else
    let want := p ≠ 3 ∧ !(s.on F.PWR_REG_MODE && p != 0) ∧ p ≠ s.get F.PWR_POINT_POINT
    if want ∧ !s.pointGranted p then s.ledgerRefuse .pwr 0x10 side
    else
      let s1 := s.refuseExpert .pwr 0x10 side (vset != s.get F.PWR_POINT_VSET)
      let s2 := if s.expert .pwr ∧ vset ≤ 90 then s1.put F.PWR_POINT_VSET vset else s1
      if want then s2.requestPoint p else s2

/-- PWR_POINT_WRITE. -/
def execPwrPointWrite (side : Side) (value : Word) (s : State) : Host.Outcome State Fault Refusal :=
  .next (s.writePwrPoint side value.toNat)

/-- In BASIC the set-point and the biases follow the point (R342, R359). -/
def State.derivePoint (s : State) : State :=
  if s.expert .pwr then s
  else (s.put F.PWR_POINT_VSET (vsetOf (s.get F.PWR_POINT_ACT))).put F.PWR_BIAS_BIAS (biasOf (s.get F.PWR_POINT_ACT))

/-- Islands 1 to 3 from one source code to another. -/
def State.moveCores (s : State) (old new : Nat) : State :=
  [0, 1, 2].foldl (fun t i =>
    if t.get (F.CLK_ISL_ACT i) = old then (t.put (F.CLK_ISL_SEL i) new).put (F.CLK_ISL_ACT i) new else t) s

/-- PWR_POINT_DONE (R343): the requested point takes effect. Raised from Run-low, cores on LFO return to PSYS (R389);
lowered to it, cores on HFO, which that point does not take, move to PSYS. -/
def execPwrPointDone (s : State) : Host.Outcome State Fault Refusal :=
  .next <|
    if s.on F.PWR_POINT_PEND then
      let p := s.get F.PWR_POINT_POINT
      let s1 := ((s.put F.PWR_POINT_ACT p).put F.PWR_POINT_PEND 0).derivePoint
      let s2 := if p = 0 then s1.moveCores 0 4 else s1.moveCores 1 4
      s2.raise0 Src.PWR_POINT_DONE
    else s

/-- Whether a powered island beside the cores and TFS uses SYSPLL, or asks for it: islands 6, 7, 8 and 10 with their domains. -/
def State.usesPll (s : State) : Bool :=
  [(5, 7), (6, 8), (7, 9), (9, 11)].any fun p => s.powered p.2 && (s.bookedSources p.1).contains 4

/-- The moves that precede the LDO in BASIC (R340 steps 1 to 3). -/
def State.prepareLdo (s : State) : State :=
  let s1 := [0, 1, 2].foldl (fun t i => t.puts [(F.CLK_ISL_SEL i, 1), (F.CLK_ISL_ACT i, 1), (F.CLK_ISL_PEND i, 0)]) s
  let s2 := (s1.tideToAon).put F.PWR_DOMS_PG (withBit (s1.get F.PWR_DOMS_PG) 13 false)
  if s2.usesPll then s2 else s2.put F.CLK_STAT_SYSPLL 0

/-- Select the LDO: none if the point is not Run-low, else the state after it and whether the ledger grants it. -/
def State.toLdo (s : State) : State :=
  let s1 := if s.expert .pwr then s else s.prepareLdo
  (s1.put F.PWR_REG_MODE 1).put F.PWR_REG_ACT 1

/-- Select the buck converter (R340). -/
def State.toBuck (s : State) : State :=
  let s1 := (s.put F.PWR_REG_MODE 0).put F.PWR_REG_ACT 0
  let s2 := (s1.put F.CLK_STAT_SYSPLL 2).put F.PWR_DOMS_PG (withBit (s1.get F.PWR_DOMS_PG) 13 true)
  let s3 := s2.tideToFast
  if s.expert .pwr then s3 else s3.moveCores 1 4

/-- Whether the ledger grants the LDO (R38): the sum after the preparation is within 0.25 mA. -/
def State.ldoGranted (s : State) : Bool := s.toLdo.ledgerSum ≤ 25

/-- PWR_REG (R38, R340, R370). -/
def execPwrReg (x : Sess) (ldo : Bool) (s : State) : Host.Outcome State Fault Refusal :=
  .next <| s.run x pwrCmd fun t =>
    if ldo then
      if t.on F.PWR_REG_ACT then t.ok x
      else if t.get F.PWR_POINT_ACT ≠ 0 ∨ t.on F.PWR_POINT_PEND then t.er x 230
      else if t.ldoGranted then t.toLdo.ok x
      else (t.ledgerRefuse .pwr 0x18 .console).er x 312
    else if t.on F.PWR_REG_ACT then (if t.reserveRefuses t.toBuck then t.er x 313 else t.toBuck.ok x)
    else t.ok x

/-- A write of PWR_REG.MODE (R38, R340): at another point than Run-low the LDO is refused by the block's state. -/
def State.writePwrReg (s : State) (side : Side) (ldo : Bool) : State :=
  if side ≠ s.owner .pwr then s.deny .pwr 0 0x18 side
  else if ldo = s.on F.PWR_REG_MODE then s
  else if ldo then
    if s.get F.PWR_POINT_ACT ≠ 0 ∨ s.on F.PWR_POINT_PEND then s.deny .pwr 3 0x18 side
    else if s.ldoGranted then s.toLdo else s.ledgerRefuse .pwr 0x18 side
  else s.toBuck

/-- PWR_REG_WRITE. -/
def execPwrRegWrite (side : Side) (ldo : Bool) (s : State) : Host.Outcome State Fault Refusal :=
  .next (s.writePwrReg side ldo)

/-- PWR_LEDGER_QUERY (R674). -/
def execPwrLedgerQuery (x : Sess) (s : State) : Host.Outcome State Fault Refusal :=
  .next <| s.run x { pwrCmd with query := true } fun t =>
    (t.reply x ("PWR LEDGER SUM=" ++ Text.fixed 2 t.ledgerSum ++ " LIMIT=" ++ Text.fixed 2 t.ledgerLimit)).ok x

/-- PWR_DOMAIN (R349). -/
def execPwrDomain (x : Sess) (d : Fin 14) (on : Bool) (s : State) : Host.Outcome State Fault Refusal :=
  .next <| s.run x { pwrCmd with expert := true } fun t =>
    let f := t.get F.PWR_DOMF_FORCE
    if on then
      let t1 := t.put F.PWR_DOMF_FORCE (withBit f d true)
      t.settle x .pwr 0x20 ({ t1 with power := { t1.power with offPend := withBit t1.power.offPend d false } }.needDomain d)
    else if d = 1 ∨ d = 12 then t.er x 230
    else
      let t1 := t.put F.PWR_DOMF_FORCE (withBit f d false)
      ({ t1 with power := { t1.power with offPend := withBit t1.power.offPend d true } }).ok x

/-- The domains of `new` held on, and switched on; one whose hold is removed is switched off at its next quiet point (R349). -/
def State.forceDomains (s : State) (new : Nat) : State :=
  let fall := without (s.get F.PWR_DOMF_FORCE) new
  let s1 := s.put F.PWR_DOMF_FORCE new
  (List.range 14).foldl (fun t d => if bitOf new d then t.needDomain d else t)
    { s1 with power := { s1.power with offPend := without (s1.power.offPend ||| fall) new } }

/-- A write of PWR_DOMF (R37, R349): an expert register under the ledger; zeros to the SYS and NVM bits are ignored. -/
def State.writeDomf (s : State) (side : Side) (v : Nat) : State :=
  if side ≠ s.owner .pwr then s.deny .pwr 0 0x20 side
  else
    let old := s.get F.PWR_DOMF_FORCE
    let new := v % 2 ^ 14 ||| (old &&& 0x1002)
    if s.expert .pwr then
      s.underLedger .pwr 0x20 side (s.forceDomains new)
    else s.refuseExpert .pwr 0x20 side (new != old)

/-- PWR_DOMF_WRITE. -/
def execPwrDomfWrite (side : Side) (value : BitVec 14) (s : State) : Host.Outcome State Fault Refusal :=
  .next (s.writeDomf side value.toNat)

/-- PWR_BIAS (R344). -/
def execPwrBias (x : Sess) (d : Fin 14) (bias : Fin 3) (s : State) : Host.Outcome State Fault Refusal :=
  .next <| s.run x { pwrCmd with expert := true } fun t =>
    let v := t.get F.PWR_BIAS_BIAS
    t.settle x .pwr 0x28
      (t.put F.PWR_BIAS_BIAS (v - bitsOf v (2 * d) 2 * 2 ^ (2 * d.val) + bias.val * 2 ^ (2 * d.val)))

/-- DOMAIN_SWITCH_ON (R347). -/
def execDomainSwitchOn (d : Fin 14) (s : State) : Host.Outcome State Fault Refusal := .next (s.needDomain d)

/-- Whether a manifest's ring holds records in a bank of an SRAM domain (R513). -/
def State.ringHolds (s : State) (m : Man) (d : Nat) : Bool :=
  s.on (F.MAN_CFG_EN m.ix) && (s.man m).ring.any (·.held) &&
    2 ≤ d && d ≤ 4 && (s.get (F.MAN_BASE_ADDR m.ix) * 16 - 0x20000000) / 0x80000 == d - 2

/-- Whether a function in a domain is enabled or its islands are not idle (R346). An SRAM domain without a manifest ring that
holds records is idle between accesses. -/
def State.domainBusy (s : State) (d : Nat) : Bool :=
  match d with
  | 0 => !s.power.appHeld
  | 2 | 3 | 4 => s.ringHolds .app d || s.ringHolds .sys d
  | 5 => s.continuous || s.mode == 5 || s.gnss.window || s.gnss.settling
  | 6 => s.mode != 0
  | 7 => s.get F.LOOKOUT_STAT_BUSY != 0 || s.gnss.recording.isSome || s.gnss.capture.isSome || s.on F.LOOKOUT_SNAP_VALID
  | 8 => (List.range 3).any (fun u => s.on (F.UART_CFG_EN u)) || (List.range 2).any (fun k => s.on (F.SPI_CFG_EN k)) ||
      (List.range 8).any (fun c => s.on (F.DMA_CFG_EN c)) || s.on F.I2CT_ADDR_A1_EN || s.on F.I2CT_ADDR_A2_EN
  | 9 => (List.range 8).any fun n => s.get (F.LGT_STAT_STATE n) != 0
  | 10 => s.get F.ADC_CFG_MODE != 0 || s.on F.ADC_REF_EN || s.get F.TOUCH_CFG_MODE != 0
  | 11 => s.on F.CRYPTO_KEY_BUSY || s.on F.MEMCTL_WIPE_BUSY
  | 13 => s.fastRuns || s.on F.TP_CTRL_EN
  | _ => true

/-- DOMAIN_SWITCH_OFF (R346, R347, R349): not while the domain is held on, nor while a manifest ring in it holds records, nor,
unless it was asked for, while a function in it is enabled. -/
def execDomainSwitchOff (d : Fin 14) (s : State) : Host.Outcome State Fault Refusal :=
  .next <|
    if bitOf (s.get F.PWR_DOMF_FORCE) d || s.ringHolds .app d || s.ringHolds .sys d || d = 1 || d = 12 ||
        (!bitOf s.power.offPend d && s.domainBusy d) then s
    else
      let s1 := s.domainOff d
      { s1 with power := { s1.power with offPend := withBit s1.power.offPend d false } }

/-- The code of a depth (R352). -/
def SleepDepth.code : SleepDepth → Nat
  | .top => 1
  | .heart => 2
  | .base => 3

/-- NOTE_SLEEP (R352). -/
def execNoteSleep (x : Sess) (depth : SleepDepth) (s : State) : Host.Outcome State Fault Refusal :=
  .next (s.run x pwrCmd fun t => (t.put F.PWR_SLEEP_DEPTH depth.code).ok x)

/-- NOTE_RETAIN (R361). -/
def execNoteRetain (x : Sess) (banks : BitVec 24) (itcm dtcm : Bool) (s : State) :
    Host.Outcome State Fault Refusal :=
  .next <| s.run x pwrCmd fun t =>
    (((t.put F.PWR_RETAIN_BANKS banks.toNat).flag F.PWR_RETAIN_ITCM itcm).flag F.PWR_RETAIN_DTCM dtcm).ok x

/-- A `NOTE WAKE` line (R357, R361). -/
def wakeLine (src from_ sec frac : Nat) : String :=
  "NOTE WAKE SRC=" ++ Name.wake src ++ " FROM=" ++ (if from_ = 0 then "NONE" else Name.depth from_) ++ " TIDE=" ++
    tideText sec frac

/-- NOTE_WAKE_QUERY. -/
def execNoteWakeQuery (x : Sess) (s : State) : Host.Outcome State Fault Refusal :=
  .next <| s.run x { pwrCmd with query := true } fun t =>
    (t.reply x (wakeLine (t.get F.PWR_WAKE_SRC_SRC) (t.get F.PWR_WAKE_SRC_FROM) (t.get F.PWR_WAKE_SEC_SEC)
      (t.get F.PWR_WAKE_FRAC_FRAC))).ok x

/-- The ring record in slot `i` as a line (R358). -/
def State.ringWakeLine (s : State) (i : Nat) : String :=
  let w := fun k => leNat (s.bytes (0x28003F80 + 16 * i + 4 * k) 4)
  wakeLine (bitsOf (w 0) 0 4) (bitsOf (w 0) 4 3) (w 1) (w 2)

/-- NOTE_HIST_QUERY (R358): newest first. -/
def execNoteHistQuery (x : Sess) (s : State) : Host.Outcome State Fault Refusal :=
  .next <| s.run x { pwrCmd with query := true } fun t =>
    (t.replies x ((List.range 8).map fun k => t.ringWakeLine ((t.get F.PWR_WAKE_SRC_IDX + 7 - k) % 8))).ok x

/-- The deepest depth allowed now (R353). -/
def State.maxDepth (s : State) : Nat :=
  match s.get F.GNSS_MODE_ACT_MODE with
  | 1 | 2 | 6 => 0
  | 3 | 4 => 2
  | 5 => if s.on F.LOOKOUT_SNAP_BUSY then 0 else 3
  | _ => 3

/-- The ledger weights of the functions held through sleep (R353). -/
def State.heldWeights (s : State) : Nat :=
  (if s.on F.TP_CTRL_EN then 85 else 0) +
  (if s.get F.ADC_CFG_MODE = 0 then 0 else if s.get F.ADC_CFG_MODE = 3 then 40 else 250) +
  (if s.on F.ADC_REF_EN then 15 else 0) +
  (if s.get F.TOUCH_CFG_MODE = 1 then 80 else if s.get F.TOUCH_CFG_MODE = 2 then 150 else 0) +
  40 * ((List.range 8).filter fun n => s.get (F.LGT_STAT_STATE n) == 1 || s.get (F.LGT_STAT_STATE n) == 2).length

/-- What the firmware derives of CLK in BASIC: SYSPLL's reference, XTAL-G while it runs (R275 step 7), and the gates of the
islands in sleep, which follow from the holds (R353, R390): those of the time pulse, of ANA, and of a lighter. Every read and
write of CLK sees them so. -/
def State.deriveGates (s : State) : State :=
  if s.expert .clk then s
  else
    let tp := s.on F.TP_CTRL_EN
    let ana := s.on F.ADC_STAT_BUSY || s.get F.TOUCH_CFG_MODE == 1 || s.get F.TOUCH_CFG_MODE == 2
    let lgt := (List.range 8).any fun n => s.get (F.LGT_STAT_STATE n) == 1 || s.get (F.LGT_STAT_STATE n) == 2
    let held := fun i => ((i == 11 || i == 12) && tp) || (i == 8 && ana) || ((i == 6 || i == 7) && lgt)
    [3, 4, 5, 6, 7, 8, 9, 10, 11, 12].foldl
      (fun t i => (t.flag (F.CLK_ISL_SLP_EN i) (held i)).flag (F.CLK_ISL_DSLP_EN i) (held i))
      (s.flag F.CLK_CFG_PLL_REF (s.get F.CLK_STAT_XTALG != 2))

/-- Whether the power manager may enter a sleep depth (R352, R398): the linger time is the sender's to keep. -/
def State.maySleep (s : State) : Bool :=
  s.app.doze && s.sys.doze && s.manApp.held.isEmpty && s.manSys.held.isEmpty &&
    (List.range 8).all (fun k => !s.on (F.DMA_CFG_EN k)) && !s.on F.LOGS_STAT_BUSY &&
    [Sess.uart0, .i2c, .quay].all (fun x => (s.sess x).count == 0 && (s.sess x).out.isEmpty &&
      (s.sess x).stalled.isEmpty && (s.sess x).echo == "") &&
    s.console.waiting.isEmpty && (List.range 16).all (fun i => !s.on (F.CLK_ISL_PEND i)) &&
    s.power.depth == 0 && s.power.bor == 0

/-- SLEEP_ENTRY (R352 to R354): the requested depth, limited by R353, is entered. The Tide counter passes to the
always-on section unless the time pulse is on (R293). -/
def execSleepEntry (s : State) : Host.Outcome State Fault Refusal :=
  .next <|
    let d := min (s.get F.PWR_SLEEP_DEPTH) s.maxDepth
    if s.maySleep ∧ d ≠ 0 then
      let s0 := s.deriveGates
      let s1 := if s.on F.TP_CTRL_EN then s0 else s0.tideToAon
      let s2 := s1.flag F.PWR_REG_SLP_LDO (s.heldWeights ≤ 25)
      let s3 := if 2 ≤ d then s2.sleepLosses d else s2
      { s3 with power := { s3.power with depth := d, latched := 0 } }
    else s

/-- Write the previous wake record into the ring, and the new one into the registers (R357, R358): `mask` holds the
sources pending; the time is the Tide time carried to the wake edge. -/
def State.wakeRecord (s : State) (from_ mask : Nat) : State :=
  let src := ((List.range 14).find? fun i => bitOf mask i).getD 15
  let i := s.get F.PWR_WAKE_SRC_IDX
  let old := wordBytes [s.get F.PWR_WAKE_SRC_SRC + 16 * s.get F.PWR_WAKE_SRC_FROM +
    65536 * s.get F.PWR_WAKE_SRC_MASK, s.get F.PWR_WAKE_SEC_SEC, s.get F.PWR_WAKE_FRAC_FRAC, s.power.wakeSeq]
  let s1 := s.writeBlock ((0x28003F80 + 16 * i) / 16) old
  let s2 := { s1 with power := { s1.power with wakeSeq := (s1.power.wakeSeq + 1) % 65536, latched := 0 } }
  s2.puts [(F.PWR_WAKE_SRC_SRC, src), (F.PWR_WAKE_SRC_FROM, from_), (F.PWR_WAKE_SRC_MASK, mask),
    (F.PWR_WAKE_SRC_IDX, i + 1), (F.PWR_WAKE_SEC_SEC, s.tideSec), (F.PWR_WAKE_FRAC_FRAC, s.tideFrac)]

end Sys2Proof.Machine
end

