-- ==== Sys2Proof/Machine/Clocks.lean ====
section
/-! DEFINITION. Clock sources, their monitors and failures, island switching, and the CLK commands (R382 to R400). -/

namespace Sys2Proof.Machine

/-- The state field of the source behind a source code (R388). -/
def stateOfCode (code : Nat) : Fld :=
  match code with
  | 0 => F.CLK_STAT_HFO
  | 1 => F.CLK_STAT_LFO
  | 2 => F.CLK_STAT_XTALL
  | 3 => F.CLK_STAT_XTALG
  | 7 => F.CLK_STAT_RFSYN
  | _ => F.CLK_STAT_SYSPLL

/-- The source codes an island selects (R389), by its index (island number less one) and the point in effect. -/
def selectable (island point : Nat) : List Nat :=
  match island with
  | 0 | 1 | 2 => if point = 0 then [4, 1] else [4, 0]
  | 3 | 4 => [7]
  | 5 | 9 => [4, 0]
  | 6 => [0, 4, 3]
  | 7 => [0, 4]
  | 8 => [0, 3]
  | 10 => [0]
  | 11 => [5, 0]
  | 12 => [6, 0]
  | 13 => [1]
  | 14 => [2, 1]
  | _ => [2]

/-- The source an island is given in BASIC (R389). -/
def derivedSource (island : Nat) : Nat := [4, 4, 4, 7, 7, 4, 0, 0, 0, 4, 0, 5, 6, 1, 2, 2].getD island 0

/-- Why a source request is not taken: none, or the error the console gives it (R389, R398). -/
def State.sourceError (s : State) (island src : Nat) : Option Nat :=
  if !(selectable island (s.get F.PWR_POINT_ACT)).contains src then some 120
  else if s.get (stateOfCode src) = 3 then some 230
  else none

/-- Take a source request (R396, R398): it replaces a pending one; a stopped source is started. The ledger weighs the island on
the requested source, and a started SYSPLL (R37). -/
def State.requestSource (s : State) (island src : Nat) : State :=
  let s1 := (s.put (F.CLK_ISL_SEL island) src).flag (F.CLK_ISL_PEND island) (src != s.get (F.CLK_ISL_ACT island))
  if s.get (stateOfCode src) = 0 then s1.put (stateOfCode src) 1 else s1

/-- A monitor that is disabled stops (R391, R394). -/
def State.monitorGate (s : State) (k : Nat) : State :=
  if s.on (F.CLK_MON_EN k) then s else { s with clk := { s.clk with counted := withBit s.clk.counted k false } }

/-- The FLL opens where it is not allowed (R386). -/
def State.fllGate (s : State) : State := if s.on F.CLK_CFG_FLL_EN then s else s.put F.CLK_STAT_FLL_LOCK 0

/-- A write of CLK_ISLi.SEL by a side (R389, R398); of the value that stands, it asks again only for an island that has
failed over. -/
def State.writeIsland (s : State) (side : Side) (island src : Nat) : State :=
  let ofs := 0x100 + 4 * island
  if side ≠ s.owner .clk then s.deny .clk 0 ofs side
  else if src = s.get (F.CLK_ISL_SEL island) ∧
      !(s.expert .clk && s.on (F.CLK_ISL_FAILOVER island) && !s.on (F.CLK_ISL_PEND island)) then s
  else if !s.expert .clk then s.deny .clk 1 ofs side
  else if (s.sourceError island src).isSome then s
  else s.underLedger .clk ofs side (s.requestSource island src)

/-- ISLAND_SOURCE_REQUEST. -/
def execIslandSourceRequest (side : Side) (island : Fin 16) (src : Fin 8) (s : State) :
    Host.Outcome State Fault Refusal := .next (s.writeIsland side island src)

/-- The nominal period of a clock of the fast section in the counter's units (R268). -/
def fastPeriod (code : Nat) : Nat := if code = 0 then 1125899907 else 450359963

/-- What follows a switch of an island (R268, R318, R393, R396): island 12's lost cycles, two old and three new, are added to
the Tide counter, and TIDE_INC follows; island 13's edges are reported by its source; the RTC's source is told; XTAL-G may
stop. -/
def State.afterSwitch (s : State) (i old new : Nat) : State :=
  let s1 :=
    if i = 11 then
      (if s.fastRuns then s.tideAdd (2 * fastPeriod old + 3 * fastPeriod new) else s).deriveLoop
    else if i = 12 then (if s.on F.TP_CTRL_EN then s.reportPulse else s)
    else if i = 15 then s.flag F.RTC_STAT_CLKSRC (new != 2)
    else s
  s1.xtalFollow

/-- ISLAND_CLOCK_SWITCH (R396 step 5): once the source is ready, the island runs from it. -/
def execIslandClockSwitch (island : Fin 16) (s : State) : Host.Outcome State Fault Refusal :=
  .next <|
    let i := island.val
    if s.on (F.CLK_ISL_PEND i) && s.get (stateOfCode (s.get (F.CLK_ISL_SEL i))) == 2 then
      let s1 := (((s.put (F.CLK_ISL_ACT i) (s.get (F.CLK_ISL_SEL i))).put (F.CLK_ISL_PEND i) 0).put (F.CLK_ISL_FAILOVER i) 0).put
        (F.CLK_ISL_RUNNING i) 1
      s1.afterSwitch i (s.get (F.CLK_ISL_ACT i)) (s.get (F.CLK_ISL_SEL i))
    else s

/-- An island stops and restarts on its fail-over source (R397); a pending request for the failed source is dropped
(R398). -/
def State.failover (s : State) (i new : Nat) : State :=
  ((s.put (F.CLK_ISL_ACT i) new).put (F.CLK_ISL_FAILOVER i) 1)

/-- Pending requests for a source code are dropped, SEL returning to ACT (R398). -/
def State.dropRequests (s : State) (codes : List Nat) : State :=
  (List.range 16).foldl (fun t i =>
    if t.on (F.CLK_ISL_PEND i) && codes.contains (t.get (F.CLK_ISL_SEL i)) then
      (t.put (F.CLK_ISL_SEL i) (t.get (F.CLK_ISL_ACT i))).put (F.CLK_ISL_PEND i) 0
    else t) s

/-- Islands on one of some codes fail over to a source. -/
def State.failIslands (s : State) (codes : List Nat) (new : Nat) : State :=
  (List.range 16).foldl (fun t i => if codes.contains (t.get (F.CLK_ISL_ACT i)) then t.failover i new else t) s

/-- XTAL-G failed (R393): SYSPLL and the islands on XTAL-G, P160 and P320 go to HFO; where HFO has failed too, those on
XTAL-G go to LFO, and so do those on PSYS, which has no reference then (R389). -/
def State.xtalGIslands (s : State) : State :=
  let s0 := s.dropRequests [3]
  let s1 :=
    if s.get F.CLK_STAT_HFO ≠ 3 then (s0.failIslands [3] 0).put F.CLK_STAT_REF_ACT 1
    else (s0.failIslands [3] 1).failIslands [4] 1
  (s1.failIslands [5, 6] 0).puts
    [(F.CLK_STAT_RFSYN, 0), (F.CLK_ISL_RUNNING 3, 0), (F.CLK_ISL_RUNNING 4, 0)]

/-- XTAL-L failed (R318, R393). -/
def State.xtalLFails (s : State) : State :=
  let s1 := ((s.dropRequests [2]).failover 14 1).failover 15 1
  (((s1.put F.CLK_STAT_FLL_LOCK 0).put F.RTC_STAT_CLKSRC 1).rtcOsf).deriveLoop

/-- HFO failed (R393). -/
def State.hfoFails (s : State) : State :=
  let s1 := ((s.dropRequests [0]).put F.CLK_STAT_FLL_LOCK 0).put F.CLK_HFO_TRIM (s.get F.CLK_HFO_FTRIM)
  let xg := s.get F.CLK_STAT_XTALG == 2
  let s2 := if xg then s1.put F.CLK_STAT_REF_ACT 0 else s1
  let s3 := s2.failIslands [0] 1
  if xg then s3 else s3.failIslands [4] 1

/-- The hardware's action on a failed source (R393). `lost` is the time the Tide counter's island stood still, in the
counter's units. -/
def State.failAction (s : State) (code lost : Nat) : State :=
  match code with
  | 3 => (((s.xtalGIslands.put F.TP_QERR_VALID 0).berthsLost).tideAdd lost).tideHoldover
  | 2 => s.xtalLFails
  | _ => s.hfoFails

/-- Both cores' NMI input is asserted (R394, R447). -/
def State.raiseNmi (s : State) : State :=
  { s with app := { s.app with nmi := true }, sys := { s.sys with nmi := true } }

/-- A source fails (R393, R394): `kind` 0 edge detector, 1 window. -/
def State.clockFails (s : State) (code kind count lost : Nat) : State :=
  if s.get (stateOfCode code) = 3 then s
  else
    let s1 := ((s.put (stateOfCode code) 3).put F.CLK_FAILREC_SRC code).put F.CLK_FAILREC_KIND kind
    let s2 := (s1.count F.CLK_FAILREC_NFAIL).failAction code lost
    let s3 := (s2.raise Src.CLK_FAIL (code + 8 * kind + 256 * count) 0).raiseNmi
    (s3.fire 60).wake 12

/-- The monitored source of monitor `k`, its reference, and their frequencies (R391). -/
def monitorOf (k : Nat) : Nat × Nat × Nat × Nat :=
  match k with
  | 0 => (3, 0, 26000000, 64000000)
  | 1 => (2, 1, 32768, 32768)
  | _ => (0, 2, 64000000, 32768)

/-- MONITOR_WINDOW (R391): a count of 0 fails at once; any other count outside tolerance fails when it repeats. -/
def execMonitorWindow (k : Fin 3) (count : BitVec 24) (s : State) : Host.Outcome State Fault Refusal :=
  .next <|
    let i := k.val
    let (code, ref, fs, fr) := monitorOf i
    -- The counter's island stands still for three cycles of HFO (R397).
    let lost := 3 * fastPeriod 0
    if s.on (F.CLK_MON_EN i) && s.get (stateOfCode code) == 2 && s.get (stateOfCode ref) == 2 then
      let n := count.toNat
      let nominal := s.get (F.CLK_MON_WINDOW i) * fs / fr
      let out := s.get (F.CLK_MON_TOL i) * nominal < (max n nominal - min n nominal) * 1000
      let s1 := { (s.put (F.CLK_MONCNT_COUNT i) n) with clk := { s.clk with counted := withBit s.clk.counted i true } }
      if n = 0 then (s1.put (F.CLK_MON_DEV i) 1).clockFails code 1 n lost
      else if out then
        let s2 := s1.put (F.CLK_MON_DEV i) 1
        if s.on (F.CLK_MON_DEV i) && bitOf s.clk.counted i then s2.clockFails code 1 n lost else s2
      else s1.put (F.CLK_MON_DEV i) 0
    else s

/-- The count of the last window that a monitor completed since it last started (R394): 0 when there is none. -/
def State.lastCount (s : State) (k : Nat) : Nat := if bitOf s.clk.counted k then s.get (F.CLK_MONCNT_COUNT k) else 0

/-- EDGE_DETECTOR_FAIL (R392): of XTAL-G, while it is enabled, or of XTAL-L. The record carries the last window's count of its
monitor. The Tide counter's island stood still for the 1 µs without an edge, 64 cycles of HFO, and for three more (R397). -/
def execEdgeDetectorFail (xtalG : Bool) (s : State) : Host.Outcome State Fault Refusal :=
  .next (if xtalG then (if s.get F.CLK_STAT_XTALG = 0 then s else s.clockFails 3 0 (s.lastCount 0) (67 * fastPeriod 0))
    else s.clockFails 2 0 (s.lastCount 1) 0)

/-- Retry every source in FAIL (R395). -/
def State.retryClocks (s : State) : State :=
  let r := [0, 2, 3].foldl (fun a c => if s.get (stateOfCode c) = 3 then withBit a c true else a) s.clk.retried
  { s with clk := { s.clk with retried := r } }

/-- CLOCK_RETRY (R395): in BASIC, while the device is awake. -/
def execClockRetry (s : State) : Host.Outcome State Fault Refusal :=
  .next (if s.expert .clk || s.power.depth != 0 then s else s.retryClocks)

/-- A write of 1 to CLK_CFG.RETRY (R395), an expert field. -/
def State.writeRetry (s : State) (side : Side) : State :=
  if side ≠ s.owner .clk then s.deny .clk 0 0x10 side
  else if !s.expert .clk then s.deny .clk 1 0x10 side
  else s.retryClocks

/-- CLK_CFG_RETRY. -/
def execClkCfgRetry (side : Side) (s : State) : Host.Outcome State Fault Refusal := .next (s.writeRetry side)

/-- In BASIC, islands on their fail-over sources return to their derived sources once those run (R395). -/
def State.returnIslands (s : State) : State :=
  if s.expert .clk then s
  else
    (List.range 16).foldl (fun t i =>
      if t.on (F.CLK_ISL_FAILOVER i) && t.get (stateOfCode (derivedSource i)) == 2 then
        if t.get (F.CLK_ISL_ACT i) = derivedSource i then (t.put (F.CLK_ISL_SEL i) (derivedSource i)).put (F.CLK_ISL_FAILOVER i) 0
        else t.requestSource i (derivedSource i)
      else t) s

/-- The source code of a source that starts. -/
def ClockSource.code : ClockSource → Nat
  | .xtalL => 2
  | .xtalG => 3
  | .hfo => 0
  | .syspll => 4
  | .rfsyn => 7
  | .fll => 8

/-- The monitors that start when a source does (R391), as a mask. -/
def ClockSource.monitors : ClockSource → Nat
  | .xtalL => 6
  | .xtalG => 1
  | .hfo => 5
  | _ => 0

/-- Whether the FLL may run (R386): HFO and XTAL-L run, and it is allowed. -/
def State.fllMay (s : State) : Bool :=
  s.on F.CLK_CFG_FLL_EN && s.get F.CLK_STAT_HFO == 2 && s.get F.CLK_STAT_XTALL == 2

/-- Whether the receiver's mode wants its RF now (R191). -/
def State.wantsRf (s : State) : Bool := s.continuous || s.mode == 5 || s.gnss.window || s.gnss.settling

/-- What a source that now runs brings (R383, R387, R395): XTAL-L takes over islands 15 and 16, but where they had failed
over, they return as islands do; with XTAL-G, RFSYN starts where the receiver wants it; RFSYN clocks islands 4 and 5. -/
def State.sourceRuns (s : State) (c : ClockSource) : State :=
  match c with
  | .xtalL =>
    if s.on (F.CLK_ISL_FAILOVER 14) || s.on (F.CLK_ISL_FAILOVER 15) then s
    else
      let t := if s.expert .clk && s.get (F.CLK_ISL_SEL 14) != 2 then s
        else (s.put (F.CLK_ISL_SEL 14) 2).put (F.CLK_ISL_ACT 14) 2
      ((t.put (F.CLK_ISL_ACT 15) 2).put F.RTC_STAT_CLKSRC 0).deriveLoop
  | .xtalG => if s.wantsRf then s.rfClocks true else s
  | .rfsyn => (s.put (F.CLK_ISL_RUNNING 3) 1).put (F.CLK_ISL_RUNNING 4) 1
  | _ => s

/-- CLOCK_READY (R383, R395): a started source runs; a retried one leaves FAIL and raises CLK_RESTORED, with the islands
returned in BASIC; the FLL locks. -/
def execClockReady (c : ClockSource) (s : State) : Host.Outcome State Fault Refusal :=
  .next <|
    if c = .fll then (if s.fllMay then s.put F.CLK_STAT_FLL_LOCK 1 else s)
    else
      let f := stateOfCode c.code
      let back := s.get f = 3 ∧ bitOf s.clk.retried c.code
      if s.get f = 1 ∨ back then
        let s1 := { (s.put f 2) with
          clk := ⟨withBit s.clk.retried c.code false, without s.clk.counted c.monitors⟩ }
        let s2 := s1.sourceRuns c
        if back then (s2.returnIslands).raise0 Src.CLK_RESTORED else s2
      else s

/-- FLL_COUNT (R386): HFO cycles over 32 XTAL-L cycles against 62 500; TRIM moves by one LSB of 0.02 % against an error
of more than one LSB. -/
def execFllCount (count : BitVec 24) (s : State) : Host.Outcome State Fault Refusal :=
  .next <|
    if s.fllMay then
      let n := count.toNat
      let t := s.get F.CLK_HFO_TRIM
      if 125000 + 25 < 2 * n then (s.put F.CLK_HFO_TRIM (t - 1)).put F.CLK_STAT_FLL_LOCK 0
      else if 2 * n + 25 < 125000 then (s.put F.CLK_HFO_TRIM (min (t + 1) 1023)).put F.CLK_STAT_FLL_LOCK 0
      else s.put F.CLK_STAT_FLL_LOCK 1
    else s

/-- SYSPLL_REFERENCE_MOVE (R385): to a reference that runs, the one CLK_CFG.PLL_REF asks for; TIDE_INC follows its exact
frequency (R268). -/
def execSyspllReferenceMove (hfo : Bool) (s : State) : Host.Outcome State Fault Refusal :=
  .next <|
    if s.get (if hfo then F.CLK_STAT_HFO else F.CLK_STAT_XTALG) = 2 ∧ s.deriveGates.on F.CLK_CFG_PLL_REF = hfo then
      (s.flag F.CLK_STAT_REF_ACT hfo).deriveLoop
    else s

/-- CLK_RFSYN_UNLOCK (R387): the berths on the affected band follow R180. -/
def execClkRfsynUnlock (band5 : Bool) (s : State) : Host.Outcome State Fault Refusal :=
  .next ((s.berthsUnlock band5).raise0 Src.CLK_RFSYN_UNLOCK)

/-- Facts of the commands of the CLK group. -/
def clkCmd : CmdInfo := { block := some .clk }

/-- CLK_QUERY (R400). -/
def execClkQuery (x : Sess) (island : Option (Fin 16)) (s : State) : Host.Outcome State Fault Refusal :=
  .next <| s.run x { clkCmd with query := true } fun u =>
    let t := u.deriveGates
    match island with
    | some i =>
      (t.reply x ("CLK " ++ Text.dec (i.val + 1) ++ " SRC=" ++ Name.source (t.get (F.CLK_ISL_ACT i)) ++ " PEND=" ++
        Text.dec (t.get (F.CLK_ISL_PEND i)) ++ " RUN=" ++ Text.dec (t.get (F.CLK_ISL_RUN_EN i)) ++ " SLP=" ++
        Text.dec (t.get (F.CLK_ISL_SLP_EN i)) ++ " DSLP=" ++ Text.dec (t.get (F.CLK_ISL_DSLP_EN i)))).ok x
    | none =>
      let line := fun n f => "CLK " ++ n ++ " " ++ Name.clockState (t.get f)
      (t.replies x [line "HFO" F.CLK_STAT_HFO, line "LFO" F.CLK_STAT_LFO, line "XTALL" F.CLK_STAT_XTALL,
        line "XTALG" F.CLK_STAT_XTALG, line "SYSPLL" F.CLK_STAT_SYSPLL, line "RFSYN" F.CLK_STAT_RFSYN,
        "CLK FLL " ++ (if t.on F.CLK_STAT_FLL_LOCK then "RUN" else "STOP")]).ok x

/-- CLK_SRC (R400). -/
def execClkSrc (x : Sess) (island : Fin 16) (src : Fin 8) (s : State) : Host.Outcome State Fault Refusal :=
  .next <| s.run x { clkCmd with expert := true } fun t =>
    match t.sourceError island src with
    | some e => t.er x e
    | none =>
      if !ledgerGrants t (t.requestSource island src) then
        (t.ledgerRefuse .clk (0x100 + 4 * island.val) .console).er x 312
      else if t.reserveRefuses (t.requestSource island src) then t.er x 313
      else (t.requestSource island src).ok x

/-- Whether a gate of an island is fixed (R390). -/
def gateFixed (island : Nat) (g : Gate) : Bool := g != .run && (island < 3 || 13 ≤ island)

/-- The field of a gate. -/
def gateField (island : Nat) : Gate → Fld
  | .run => F.CLK_ISL_RUN_EN island
  | .slp => F.CLK_ISL_SLP_EN island
  | .dslp => F.CLK_ISL_DSLP_EN island

/-- CLK_GATE (R390): a fixed gate keeps its value. -/
def execClkGate (x : Sess) (island : Fin 16) (gate : Gate) (on : Bool) (s : State) :
    Host.Outcome State Fault Refusal :=
  .next <| s.run x { clkCmd with expert := true } fun t =>
    (if gateFixed island gate then t else t.flag (gateField island gate) on).ok x

/-- CLK_MON (R391, R400): a window of 0 is out of range. -/
def execClkMon (x : Sess) (k : Fin 3) (window : BitVec 16) (s : State) : Host.Outcome State Fault Refusal :=
  .next <| s.run x { clkCmd with expert := true } fun t =>
    if window = 0 then t.er x 120 else (t.put (F.CLK_MON_WINDOW k) window.toNat).ok x

end Sys2Proof.Machine
end

