-- ==== Sys2Proof/Machine/Berth.lean ====
section
/-! DEFINITION. Berths: spacing and loops in BASIC, starts, dumps, staged loads, the side-peak check, partner sweeps, loss
of lock, and the BERTH commands (R152 to R187). -/

namespace Sys2Proof.Machine

/-- The spacings of a signal (R163): EL and VEVL in 1/32 chip. -/
def spacingOf (g : Nat) : Nat × Nat :=
  if [0, 9, 13, 5].contains g then (16, 48)
  else if Sig.boc g then (8, 32)
  else if [2, 11, 4, 7].contains g then (32, 64)
  else (8, 48)

/-- The row of R173 for a C/N0 estimate in 0.1 dB-Hz, from the row in force (none: PULL or PARTNER). A change of row
requires the estimate to pass the boundary by 2 dB. -/
def loopRow (now : Option Nat) (cn0 : Nat) : Nat :=
  let plain := if 350 ≤ cn0 then 1 else if 250 ≤ cn0 then 2 else if 150 ≤ cn0 then 3 else 4
  match now with
  | none => plain
  | some r =>
    let up := (List.range 4).filter fun i => i + 1 < r && [370, 270, 170].getD i 1000 ≤ cn0
    let down := (List.range 5).filter fun i => r < i && cn0 < [0, 0, 330, 230, 130].getD i 0
    match up.head?, down.getLast? with
    | some i, _ => i + 1
    | none, some i => i
    | none, none => r

/-- The row in force, by its LOCK_THR (R173). -/
def rowOf (thr : Nat) : Option Nat := if thr = 104 then some 1 else if thr = 80 then some 2 else if thr = 48 then some 3
  else if thr = 20 then some 4 else none

/-- The ms of a span of Tide time, to the nearest. -/
def spanMs (d : Nat) : Nat := (d * 1000 + tideOne / 2) / tideOne

/-- The ms from the data symbol boundary before a prediction's start to a Tide time. -/
def State.predPast (s : State) (p : Pred) (at_ : Nat) : Nat :=
  let n := p.berth.val
  let g := s.get (F.BERTH_CFG_SIG n)
  p.sec * Sig.period g % Sig.symbol g (s.get (F.BERTH_CFG_SVN n)) + spanMs (at_ - p.at_)

/-- The ms from a Tide time on for which every symbol is predicted (R165, R194): none while the signal's symbols are masked
(R200). -/
def State.predMs (s : State) (n at_ : Nat) : Nat :=
  match s.predOf n with
  | some p =>
    let sym := Sig.symbol (s.get (F.BERTH_CFG_SIG n)) (s.get (F.BERTH_CFG_SVN n))
    let past := s.predPast p at_
    let run := ((p.syms.drop (past / sym)).takeWhile (·.isSome)).length
    if (s.berth n).masked.isSome then 0 else run * sym - past % sym
  | none => 0

/-- The symbol predicted for a Tide time. -/
def State.predSym (s : State) (n at_ : Nat) : Option Bool :=
  match s.predOf n with
  | some p =>
    let i := s.predPast p at_ / Sig.symbol (s.get (F.BERTH_CFG_SIG n)) (s.get (F.BERTH_CFG_SVN n))
    if (s.berth n).masked.isSome || at_ < p.at_ then none else p.syms.getD i none
  | none => none

/-- The expert fields of a berth that the firmware derives in BASIC (R163, R173, R196). -/
def State.deriveBerth (s : State) (n : Nat) : State :=
  let g := s.get (F.BERTH_CFG_SIG n)
  if s.expert (berthBlock n) || 14 ≤ g then s
  else
    let track := s.get (F.BERTH_STAT_STATE n) == 4
    let row := if track then loopRow (rowOf (s.get (F.BERTH_LOCK_LOCK_THR n))) (s.get (F.BERTH_CN0_CN0 n)) else 0
    let bits := !Sig.pair g && s.on F.SILLAGE_CFG_BITS_EN && s.predMs n s.tide.now != 0
    let sym := Sig.symbol g (s.get (F.BERTH_CFG_SVN n))
    let coh := if row = 0 then Sig.period g
      else if !Sig.pair g && !bits then sym else [1, 20, 20, 100, 200].getD row 1
    let pll := if row = 0 then (60, !s.on (F.BERTH_STAT_FLOCK n))
      else [(60, false), (60, false), (40, false), (20, false), (20, true)].getD row (60, false)
    let fll := [(40, false), (40, true), (40, true), (8, false), (4, false)].getD row (40, false)
    s.puts [(F.BERTH_ARMS_EL n, (spacingOf g).1), (F.BERTH_ARMS_VEVL n, (spacingOf g).2),
      (F.BERTH_INTEG_COH n, coh), (F.BERTH_INTEG_WIPE n, if Sig.pair g then 1 else if bits then 2 else 0),
      (F.BERTH_INTEG_NWIN n, min 255 (1000 / coh)), (F.BERTH_LOOP_PLL_BW n, pll.1),
      (F.BERTH_LOOP_PLL_OPEN n, bit pll.2), (F.BERTH_LOOP_FLL_BW n, fll.1), (F.BERTH_LOOP_FLL_OPEN n, bit fll.2),
      (F.BERTH_LOOP_DLL_BW n, [100, 50, 20, 10, 5].getD row 50), (F.BERTH_LOOP_DLL_OPEN n, 0),
      (F.BERTH_LOOP_CAID n, 1), (F.BERTH_LOOP_PLL_ORD n, bit (row = 3)),
      (F.BERTH_LOCK_LOCK_THR n, [100, 104, 80, 48, 20].getD row 100), (F.BERTH_LOCK_PLOCK_THR n, 204),
      (F.BERTH_LOCK_LOSS_MS n, 500)]

/-- CFG.PAIR and CFG.BOC follow SIG (R157). -/
def State.markSignal (s : State) (n : Nat) : State :=
  let g := s.get (F.BERTH_CFG_SIG n)
  ((s.flag (F.BERTH_CFG_PAIR n) (Sig.pair g)).flag (F.BERTH_CFG_BOC n) (Sig.boc g)).deriveBerth n

/-- A start (R175): its state, its synchronisation (R154), and everything that begins anew. -/
def State.startBerth (s : State) (n : Nat) (kind : StartKind) (state : Nat) (sync : Bool) : State :=
  let half := !(Sig.pair (s.get (F.BERTH_CFG_SIG n)) && sync)
  let s1 := s.modBerth n fun b =>
    { b with
      kind := some kind, serial := b.serial + 1, startAt := s.tide.now, cleared := false, predicted := kind == .seed, fail := 0,
      direct := true, inverse := true, hadj := false, preamble := none, passed := true
      took := if kind == .handoff then b.hand else none, hand := if kind == .handoff then none else b.hand, pullIn := 0
      dwell := if kind == .partner then some 0 else none, lastAt := s.tide.now, due := none, move := none, side := (0, 0)
      sums := [], sideSums := [], hist := [], lockMs := 0, lowMs := 0 }
  (s1.puts [(F.BERTH_STAT_STATE n, state), (F.BERTH_STAT_BOND n, 1), (F.BERTH_STAT_SEC_SYNC n, bit sync),
    (F.BERTH_STAT_BOC_OK n, 0), (F.BERTH_STAT_SIDEJ n, 0), (F.BERTH_STAT_HALF n, bit half),
    (F.BERTH_STAT_PLOCK n, 0), (F.BERTH_STAT_FLOCK n, 0), (F.BERTH_STAT_CLOCK n, 0), (F.BERTH_CN0_LOCKT n, 0)]).deriveBerth n

/-- The rates of a start, with the phases it loads: code in 2^-32 chip, position, carrier in 2^-32 cycle. -/
def State.loadStart (s : State) (n code sec : Nat) (carr : Int) (incCode : Nat) (incCarr : Int) : State :=
  let len := Sig.chips (s.get (F.BERTH_CFG_SIG n)) * 2 ^ 32
  let s1 := s.modBerth n fun b =>
    { b with codeF := code % len % 2 ^ 32, chip := code % len / 2 ^ 32, sec := sec, carr := carr,
             prevCode := incCode, prevCarr := incCarr }
  (s1.put (F.BERTH_CODE_INC_INC n) incCode).putS (F.BERTH_CARR_INC_INC n) incCarr

/-- A Doppler and a rate, in 2^-10 Hz and 2^-10 Hz/s, after a span of Tide time. -/
def dopAfter (dop rate : Int) (d : Nat) : Int := dop + rate * (d : Int) / (tideOne : Int)

/-- The code phase of a handoff carried to the present (R139), in 2^-32 chip: `inc` is its CODE_INC. -/
def State.carryHandoff (s : State) (g : Nat) (h : Handoff) (inc : Nat) : Nat :=
  let ms := h.phase + 65536 * h.seg
  ms * (Sig.chips g / Sig.period g) * 2 ^ 16 + (s.tide.now - h.at_) * inc * Sig.rate g / 2 ^ 56

/-- A berth takes a pending handoff (R139, R175, R177), with an FLL pull-in range that covers the Doppler box. In a burst mode
the Sillage predictor carries its Doppler forward too (R144), by the rate of the prediction held. -/
def State.takeHandoff (s : State) (n : Nat) (h : Handoff) : State :=
  let g := s.get (F.BERTH_CFG_SIG n)
  let k := s.get (F.BERTH_CFG_GLO_K n)
  let rate := if s.bursts then match s.predOf n with | some p => p.rate | none => 0 else 0
  let gone := s.tide.now - h.at_
  let dop := dopAfter (h.dop * 1024) rate gone
  let mean := codeInc g k (dopAfter (h.dop * 1024) rate (gone / 2)) 1024
  let s1 := (s.startBerth n .handoff 2 false).loadStart n (s.carryHandoff g h mean) 0 0 (codeInc g k dop 1024)
    (carrInc g k dop 1024)
  let s2 := (s1.modBerth n fun b => { b with pullIn := h.dopBox }).planState n 2
  let svn := s.get (F.BERTH_CFG_SVN n)
  (s2.count F.LOOKOUT_CNT_HANDOFF).raiseK Src.LOOKOUT_HANDOFF (n + svBits g (Sig.sys g) svn)
    (pattern 16 h.dop + h.ratio * 2 ^ 16)
    [("BERTH", Text.dec n), ("SIG", Sig.name g), ("SAT", satName (Sig.sys g) svn), ("DOP", Text.int h.dop),
      ("RATIO", Text.dec h.ratio)]

/-- Whether a prediction may seed its berth (R195). -/
def State.maySeed (s : State) (p : Pred) : Bool :=
  s.on F.SILLAGE_CFG_SEED_EN && (s.gnss.fix.isSome && decide (s.tide.now ≤ s.gnss.fixAt + s.get F.SILLAGE_CFG_MAX_AGE * tideOne)) &&
    decide (p.codeU ≤ s.get F.SILLAGE_LIM_CODE_LIM) && decide (p.dopU ≤ 10 * s.get F.SILLAGE_LIM_DOP_LIM)

/-- Whether a berth may be predicted (R183, R193): from a cleared solution and its satellite's ephemeris, for a planned berth of
the console, and for one of the application in BASIC. -/
def State.predictable (s : State) (n : Nat) : Bool :=
  s.gnss.fix.isSome && s.on (F.BERTH_CFG_EN n) && s.ephemerisHeld (s.berthSys n) (s.get (F.BERTH_CFG_SVN n)) &&
    (if s.consoleOwns n then (s.placeOf n).isSome else !s.expert (berthBlock n))

/-- The predictor's new predictions (R193, R194, R196), of the berths it may predict. -/
def State.setPreds (s : State) (l : List Pred) : State :=
  let mine := l.filter fun p => s.predictable p.berth
  mine.foldl (fun t p => t.deriveBerth p.berth) (s.keepPreds mine)

/-- A prediction made on demand, beside those held. -/
def State.addPred (s : State) (p : Pred) : State := s.setPreds (s.gnss.preds.filter (·.berth != p.berth) ++ [p])

/-- A prediction evaluated at a later start (R192). -/
def State.predAt (s : State) (p : Pred) (t : Nat) : Pred :=
  let n := p.berth.val
  let g := s.get (F.BERTH_CFG_SIG n)
  let k := s.get (F.BERTH_CFG_GLO_K n)
  let svn := s.get (F.BERTH_CFG_SVN n)
  let d := t - p.at_
  let mean := dopAfter p.dop p.rate (d / 2)
  let len := Sig.chips g * 2 ^ 32
  let code := p.chip * 2 ^ 32 + p.frac.toNat + d * codeInc g k mean 1024 * Sig.rate g / 2 ^ 56
  { p with
    at_ := t, chip := code % len / 2 ^ 32, frac := BitVec.ofNat 32 code, sec := (p.sec + code / len) % max 1 (Sig.positions g svn)
    carr := BitVec.ofInt 32
      ((p.carr.toNat : Int) + (d : Int) * carrInc g k mean 1024 * Sig.rate g / ((2 ^ 56 : Nat) : Int))
    dop := dopAfter p.dop p.rate d, syms := p.syms.drop (s.predPast p t / Sig.symbol g svn) }

/-- A berth starts from its Sillage seed (R175, R191 step 5). -/
def State.takeSeed (s : State) (n : Nat) (p : Pred) : State :=
  let g := s.get (F.BERTH_CFG_SIG n)
  let k := s.get (F.BERTH_CFG_GLO_K n)
  let s1 := s.startBerth n .seed 4 true
  (s1.loadStart n (p.chip * 2 ^ 32 + p.frac.toNat) p.sec (p.carr.toNat : Int) (codeInc g k p.dop 1024)
    (carrInc g k p.dop 1024)).planState n 2

/-- A handoff to a berth that cannot take it is dropped (R177). -/
def State.dropHandoff (s : State) (n : Nat) : State :=
  (s.modBerth n fun b => { b with hand := none }).count F.LOOKOUT_CNT_DROPPED

/-- BERTH_ENABLE (R157). -/
def State.enableBerth (s : State) (n : Nat) : State :=
  if s.on (F.BERTH_CFG_EN n) then s
  else
    let s1 := (s.modBerth n fun b =>
      { b with
        kind := none, seq := 0, refused := 0, hand := none, took := none, barred := false, lastAt := s.tide.now
        due := none }).needDomain 6
    ((s1.put (F.BERTH_CFG_EN n) 1).put (F.BERTH_STAT_STATE n) 1).markSignal n

/-- What waited for the berth's quiet point is what it follows, and nothing waits any more. -/
def State.landSignal (s : State) (n : Nat) : State :=
  let (g, svn, k) := s.signalOf n
  ((s.modBerth n fun b => { b with next := none }).puts
    [(F.BERTH_CFG_SIG n, g), (F.BERTH_CFG_SVN n, svn), (F.BERTH_CFG_GLO_K n, k)]).markSignal n

/-- BERTH_DISABLE (R157): the berth stops at once; its phases freeze. Results in bond are refused as released, and a change that
waited has nothing left to wait for. -/
def State.disableBerth (s : State) (n : Nat) : State :=
  if s.on (F.BERTH_CFG_EN n) then (((s.refuseBonded n 8 0).leavePlaces n).landSignal n).put (F.BERTH_CFG_EN n) 0 else s

/-- BERTH_ENABLE. -/
def execBerthEnable (side : Side) (n : Fin 256) (s : State) : Host.Outcome State Fault Refusal :=
  .next (s.guard (.berth n) 0x10 side false fun t => t.enableBerth n)

/-- BERTH_DISABLE. -/
def execBerthDisable (side : Side) (n : Fin 256) (s : State) : Host.Outcome State Fault Refusal :=
  .next (s.guard (.berth n) 0x10 side false fun t => t.disableBerth n)

/-- The berth's quiet point (R182): it leaves the plan entries it was to leave, and restarts in WAIT on the signal that waits
(R157, R184) or, with none, stops. What a new signal's predictions were masked for ends with the old signal. -/
def State.atQuiet (s : State) (n : Nat) : State :=
  let b := s.berth n
  if b.next.isSome then
    let s1 := ((s.refuseBonded n 8 1).leavePlaces n).modBerth n fun b => { b with refused := 0, masked := none }
    s1.landSignal n
  else if b.leaving.isEmpty then s
  else s.stopBerth n

/-- Set a berth's signal, satellite and channel: at its quiet point while it runs (R157), which in IDLE and HOLD is at
once (R182). Writing the present values cancels a change that waits. -/
def State.setSignal (s : State) (n g svn k : Nat) : State :=
  let new := (g, svn, k)
  let b := s.berth n
  if new = (s.get (F.BERTH_CFG_SIG n), s.get (F.BERTH_CFG_SVN n), s.get (F.BERTH_CFG_GLO_K n)) ∧ b.leaving.isEmpty then
    s.modBerth n fun b => { b with next := none }
  else
    let t := s.modBerth n fun b => { b with next := some new, hand := none }
    if !s.on (F.BERTH_CFG_EN n) then (t.landSignal n).modBerth n fun b => { b with masked := none }
    else if s.berthActive n then t
    else t.atQuiet n

/-- BERTH_SIGNAL_CHANGE. -/
def execBerthSignalChange (n : Fin 256) (s : State) : Host.Outcome State Fault Refusal := .next (s.atQuiet n)

/-- BERTH_HANDOFF (R177, R175): at its next dump boundary a berth in WAIT or LOST takes its handoff, which comes before a
seed; a handoff to a berth in another state is dropped. In a continuous mode it takes a seed, if need be one that the predictor
makes on demand (`fresh`). In the burst modes starts are taken at the start of the window (R144, R191). -/
def execBerthHandoff (n : Fin 256) (fresh : Option Pred) (s : State) : Host.Outcome State Fault Refusal :=
  .next <|
    let t := s.atQuiet n
    let st := t.get (F.BERTH_STAT_STATE n)
    if t.bursts then t
    else
      match (t.berth n).hand with
      | some h => if t.on (F.BERTH_CFG_EN n) && (st == 1 || st == 5) then t.takeHandoff n h else t.dropHandoff n
      | none =>
        let u := match fresh with | some p => if p.berth = n then t.addPred p else t | none => t
        match u.predOf n with
        | some p =>
          if u.continuous && (st == 1 || st == 5 || st == 6) && u.predictable n && u.maySeed p then
            u.takeSeed n (u.predAt p u.tide.now)
          else u
        | none => u

/-- The interval actually used from a Tide time on, in ms (R165), and whether a limit applies. -/
def State.interval (s : State) (n at_ : Nat) : Nat × Bool :=
  let g := s.get (F.BERTH_CFG_SIG n)
  let coh := s.get (F.BERTH_INTEG_COH n)
  let wipe := s.get (F.BERTH_INTEG_WIPE n)
  let sym := Sig.symbol g (s.get (F.BERTH_CFG_SVN n))
  let lim := if !s.on (F.BERTH_STAT_SEC_SYNC n) then Sig.period g
    else if wipe = 2 then (let p := s.predMs n at_; if p = 0 then sym else min 200 p)
    else if Sig.pair g then if wipe = 1 then 200 else coh
    else sym
  (min coh lim, decide (lim < coh))

/-- The phases after an interval (R159, R161): `a` samples at the increments before the loop unit's last write, `b` at the
present ones. -/
def State.advance (s : State) (n a b : Nat) : State :=
  let g := s.get (F.BERTH_CFG_SIG n)
  let len := Sig.chips g * 2 ^ 32
  let inc := s.get (F.BERTH_CODE_INC_INC n)
  let cin := s.getS (F.BERTH_CARR_INC_INC n)
  s.modBerth n fun t =>
    let code := t.chip * 2 ^ 32 + t.codeF + a * t.prevCode + b * inc
    { t with
      chip := code % len / 2 ^ 32, codeF := code % 2 ^ 32
      sec := (t.sec + code / len) % max 1 (Sig.positions g (s.get (F.BERTH_CFG_SVN n)))
      carr := t.carr + (a : Int) * t.prevCarr + (b : Int) * cin }

/-- The pending flags of LOAD (R169). -/
def State.reportLoads (s : State) (n : Nat) : State :=
  let b := s.berth n
  ((s.flag (F.BERTH_LOAD_CODE_PEND n) b.loadCode.isSome).flag (F.BERTH_LOAD_CARR_PEND n) b.loadCarr.isSome).flag
    (F.BERTH_LOAD_INC_PEND n) (b.codeInc.isSome || b.carrInc.isSome)

/-- A word of BERTHn_ARMS in its fields. -/
def State.putArms (s : State) (n v : Nat) : State :=
  s.puts [(F.BERTH_ARMS_EL n, bitsOf v 0 7), (F.BERTH_ARMS_VEVL n, bitsOf v 8 7)]

/-- A word of BERTHn_LOOP in the fields of its bandwidths and open bits. -/
def State.putLoop (s : State) (n v : Nat) : State :=
  s.puts [(F.BERTH_LOOP_PLL_BW n, bitsOf v 0 7), (F.BERTH_LOOP_PLL_OPEN n, bitsOf v 7 1), (F.BERTH_LOOP_FLL_BW n, bitsOf v 8 7),
    (F.BERTH_LOOP_FLL_OPEN n, bitsOf v 15 1), (F.BERTH_LOOP_DLL_BW n, bitsOf v 16 8), (F.BERTH_LOOP_DLL_OPEN n, bitsOf v 24 1)]

/-- What a staged value becomes at a boundary: applied, or no longer late. -/
def Staged.pass : Option Staged → Option Staged
  | some ⟨v, true⟩ => some ⟨v, false⟩
  | _ => none

/-- The staged writes apply at a boundary (R169 to R171, R187); one that missed its first boundary waits for the next. A code
load beyond the signal's chips or positions is taken as it is until the next interval wraps it (DESIGN CHOICE). A carrier load
sets HALF again, but on a synchronised pair, whose half cycle is settled (R171, R179). -/
def State.applyLoads (s : State) (n : Nat) : State :=
  let b := s.berth n
  let s1 := if b.loadCode = some false then
      s.modBerth n fun t => { t with codeF := s.get (F.BERTH_CODE_SETF_VALUE n), chip := s.get (F.BERTH_CODE_SETI_CHIP n),
                                     sec := s.get (F.BERTH_CODE_SETI_SEC n) }
    else s
  let s2 := if b.loadCarr = some false then
      ((s1.modBerth n fun t => { t with carr := (s.get (F.BERTH_CARR_SET_VALUE n) : Int), lockMs := 0, hadj := false }).put
        (F.BERTH_CN0_LOCKT n) 0).flag (F.BERTH_STAT_HALF n)
        (!(Sig.pair (s.get (F.BERTH_CFG_SIG n)) && s.on (F.BERTH_STAT_SEC_SYNC n)))
    else s1
  let s3 := match b.codeInc with | some ⟨v, false⟩ => s2.put (F.BERTH_CODE_INC_INC n) v | _ => s2
  let s4 := match b.carrInc with | some ⟨v, false⟩ => s3.put (F.BERTH_CARR_INC_INC n) v | _ => s3
  let s5 := match b.arms with | some ⟨v, false⟩ => s4.putArms n v | _ => s4
  let s6 := match b.loop with | some ⟨v, false⟩ => s5.putLoop n v | _ => s5
  let keep := fun (x : Option Bool) => if x = some true then some false else none
  (s6.modBerth n fun t =>
    { t with loadCode := keep b.loadCode, loadCarr := keep b.loadCarr, codeInc := Staged.pass b.codeInc
             carrInc := Staged.pass b.carrInc, arms := Staged.pass b.arms, loop := Staged.pass b.loop }).reportLoads n

/-- Staged writes are discarded (R182). -/
def State.dropLoads (s : State) (n : Nat) : State :=
  (s.modBerth n fun b =>
    { b with loadCode := none, loadCarr := none, codeInc := none, carrInc := none, arms := none, loop := none }).reportLoads n

/-- A berth passes to another owner (R107, R182, R184): loads that are due at this boundary apply, later ones are discarded; its
plan binding is released, its results in bond are refused, and it stops. -/
def State.passBerth (s : State) (n : Nat) : State :=
  let t := if s.berthActive n then s.applyLoads n else s
  (((t.releaseBerth n).modBerth n fun b => { b with next := (s.berth n).next }).landSignal n).dropLoads n

/-- A side-peak move takes effect at a dump boundary (R164): half a chip towards VL or VE, and the check restarts. -/
def State.applyMove (s : State) (n : Nat) : State :=
  match (s.berth n).move with
  | some late =>
    let len := Sig.chips (s.get (F.BERTH_CFG_SIG n)) * 2 ^ 32
    (s.modBerth n fun b =>
      let c := b.chip * 2 ^ 32 + b.codeF + (if late then 2 ^ 31 else len - 2 ^ 31)
      { b with chip := c % len / 2 ^ 32, codeF := c % 2 ^ 32, move := none, sideSums := [] }).count (F.BERTH_STAT_SIDEJ n)
  | none => s

/-- The power of an arm in a dump. -/
def armPower (l : List Word) (i : Nat) : Nat := (l.getD (2 * i) 0).toInt.natAbs ^ 2 + (l.getD (2 * i + 1) 0).toInt.natAbs ^ 2

/-- Sums of powers, arm by arm. -/
def addPowers (a : List Nat) (b : List Nat) : List Nat := b.zipIdx.map fun (v, i) => a.getD i 0 + v

/-- cos 2φ of the prompt in 2^-16 (R178) from its I and Q sums; `u` stands where the prompt has no power. -/
def cosTwice (l : List Word) (u : Nat) : Int :=
  let i := (l.getD 4 0).toInt
  let q := (l.getD 5 0).toInt
  let p := i.natAbs ^ 2 + q.natAbs ^ 2
  if p = 0 then ((u % 131073 : Nat) : Int) - 65536 else roundDiv ((i * i - q * q) * 65536) p

/-- The sum of one discriminator over the dumps kept. -/
def histSum (f : Int × Int × Int → Int) (l : List (Int × Int × Int)) : Int := l.foldl (fun a x => a + f x) 0

/-- What the arms leave at a dump (R156, R161, R168 step 2, R227): the accumulators, the number of the dump and its epoch, and
the powers of the basis and of the side-peak check. An interval that used predicted bits puts the basis in bond (R189). -/
def State.latchDump (s : State) (n : Nat) (d : DumpData) : State :=
  let g := s.get (F.BERTH_CFG_SIG n)
  let bits := s.get (F.BERTH_INTEG_WIPE n) == 2 && s.on (F.BERTH_STAT_SEC_SYNC n) && s.predMs n (s.berth n).lastAt != 0
  let powers := (List.range 5).map (armPower d.accs)
  (s.advance n d.before d.after).modBerth n fun b =>
    { b with
      accs := (d.accs.map (·.toNat)).take 10 ++ b.accs.drop 10, seq := (b.seq + 1) % 65536, epoch := s.nextEpoch
      lastAt := s.tide.now, predicted := b.predicted || bits
      sums := if !Sig.boc g || s.on (F.BERTH_STAT_BOC_OK n) then addPowers b.sums powers else b.sums
      sideSums := addPowers b.sideSums [powers.getD 0 0, powers.getD 2 0, powers.getD 4 0] }

/-- What the loop unit finds at a dump (R168 step 3): synchronisation (R154) with the half cycle of a synchronised pair (R179),
the discriminators and the C/N0 estimate, and the lock indicators over the last NWIN dumps (R178). -/
def State.judgeDump (s : State) (n : Nat) (d : DumpData) : State :=
  let s1 := match d.sync with
    | some pos =>
      if s.on (F.BERTH_STAT_SEC_SYNC n) then s
      else (s.put (F.BERTH_STAT_SEC_SYNC n) 1).modBerth n fun b => { b with sec := pos }
    | none => s
  let s2 := if Sig.pair (s.get (F.BERTH_CFG_SIG n)) && s1.on (F.BERTH_STAT_SEC_SYNC n) then s1.put (F.BERTH_STAT_HALF n) 0 else s1
  let hist := ((d.freq, cosTwice d.accs (Config.number s.free), d.code.toInt) :: (s.berth n).hist).take (s.get (F.BERTH_INTEG_NWIN n))
  let k : Int := hist.length
  ((s2.modBerth n fun b => { b with hist := hist }).puts
    [(F.BERTH_DISC_CODE n, d.code.toNat), (F.BERTH_DISC_CARR n, d.carr.toNat), (F.BERTH_CN0_CN0 n, d.cn0.toNat),
      (F.BERTH_STAT_FLOCK n, bit ((histSum (·.1) hist).natAbs ≤ 2000 * hist.length)),
      (F.BERTH_STAT_PLOCK n, bit ((s.get (F.BERTH_LOCK_PLOCK_THR n) : Int) * 256 * k ≤ histSum (·.2.1) hist)),
      (F.BERTH_STAT_CLOCK n, bit ((histSum (·.2.2) hist).natAbs ≤ 1024 * hist.length))]).spend

/-- Whether the C/N0 estimate is below LOCK_THR (R180). -/
def State.weak (s : State) (n : Nat) : Bool := decide (2 * s.get (F.BERTH_CN0_CN0 n) < 5 * s.get (F.BERTH_LOCK_LOCK_THR n))

/-- The times that a dump of `ms` adds to (R178, R180, R190): the lock time in TRACK, and the time below LOCK_THR; PULL gives
way to TRACK once FLOCK and CLOCK are set. -/
def State.timeDump (s : State) (n ms : Nat) : State :=
  let s1 := s.modBerth n fun b => { b with lowMs := if s.weak n then b.lowMs + ms else 0 }
  if s1.get (F.BERTH_STAT_STATE n) = 4 then
    if s1.on (F.BERTH_STAT_FLOCK n) || s1.on (F.BERTH_STAT_PLOCK n) then
      let t := s1.modBerth n fun b => { b with lockMs := b.lockMs + ms }
      t.put (F.BERTH_CN0_LOCKT n) (min 0xFFFF ((t.berth n).lockMs / 10))
    else s1
  else if s1.on (F.BERTH_STAT_FLOCK n) && s1.on (F.BERTH_STAT_CLOCK n) then
    (s1.put (F.BERTH_STAT_STATE n) 4).modBerth n fun b => { b with lockMs := 0 }
  else s1

/-- The increments that the loop unit writes, of its closed loops (R168 step 4, R170, R174). -/
def State.closeLoops (s : State) (n : Nat) (d : DumpData) : State :=
  let s1 := if s.on (F.BERTH_LOOP_DLL_OPEN n) then s else s.put (F.BERTH_CODE_INC_INC n) d.codeInc.toNat
  if s1.on (F.BERTH_LOOP_PLL_OPEN n) && (s1.on (F.BERTH_LOOP_FLL_OPEN n) || s1.expert (berthBlock n)) then s1
  else s1.put (F.BERTH_CARR_INC_INC n) d.carrInc.toNat

/-- BERTH_DUMP (R168): in every state in which the berth runs the accumulators and phases are latched and what is staged
applies; in PULL and TRACK the loop unit writes the discriminators, the lock indicators and the increments of its closed loops;
GNSS_BERTH_DUMP is raised where enabled. The boundary is the berth's quiet point (R182). -/
def State.dump (s : State) (n : Nat) (d : DumpData) : State :=
  if !s.on (F.BERTH_CFG_EN n) || !s.berthActive n || !s.bandRuns (Sig.band (s.get (F.BERTH_CFG_SIG n))) then s
  else
    let st := s.get (F.BERTH_STAT_STATE n)
    let live := st == 2 || st == 4
    let (ms, lim) := s.interval n (s.berth n).lastAt
    let s1 := (s.latchDump n d).put (F.BERTH_STAT_COH_LIM n) (bit lim)
    let s2 := if live then (s1.judgeDump n d).timeDump n ms else s1
    let s3 := (s2.applyLoads n).applyMove n
    let s4 := s3.modBerth n fun b =>
      { b with prevCode := s3.get (F.BERTH_CODE_INC_INC n), prevCarr := s3.getS (F.BERTH_CARR_INC_INC n) }
    let s5 := if live then (s4.closeLoops n d).deriveBerth n else s4
    let s6 := (s5.modBerth n fun b =>
      { b with due := some (s.tide.now + (s5.interval n s.tide.now).1 * tideOne / 1000) }).showBond n
    let s7 := if s6.on (F.BERTH_CFG_DUMP_EV n) then
        s6.raiseK Src.GNSS_BERTH_DUMP n (s6.berth n).seq [("BERTH", Text.dec n), ("SEQ", Text.dec (s6.berth n).seq)]
      else s6
    s7.atQuiet n

/-- BERTH_DUMP. -/
def execBerthDump (n : Fin 256) (d : DumpData) (s : State) : Host.Outcome State Fault Refusal := .next (s.dump n d)

/-- Whether a write falls less than 10 µs before the next dump boundary (R169). -/
def State.tooLate (s : State) (n : Nat) : Bool :=
  match (s.berth n).due with
  | some d => decide (100000 * d < 100000 * s.tide.now + tideOne)
  | none => false

/-- A write that was staged shows its pending flag, and LATE if it missed its first boundary (R169). -/
def State.markStaged (s : State) (n : Nat) (late : Bool) : State :=
  (if late then s.put (F.BERTH_LOAD_LATE n) 1 else s).reportLoads n

/-- Stage an increment (R169): a second write before it applies replaces the first. -/
def State.stageInc (s : State) (n : Nat) (carrier : Bool) (v : Nat) : State :=
  let x : Staged := ⟨v, s.tooLate n⟩
  (s.modBerth n fun b => if carrier then { b with carrInc := some x } else { b with codeInc := some x }).markStaged n x.late

/-- Stage a phase load (R169). -/
def State.stageLoad (s : State) (n : Nat) (carrier : Bool) : State :=
  let late := s.tooLate n
  (s.modBerth n fun b => if carrier then { b with loadCarr := some late } else { b with loadCode := some late }).markStaged n late

/-- BERTH_INC_WRITE. -/
def execBerthIncWrite (side : Side) (n : Fin 256) (carrier : Bool) (value : Word) (s : State) :
    Host.Outcome State Fault Refusal :=
  .next (s.guard (.berth n) (if carrier then 0x28 else 0x24) side true fun t => t.stageInc n carrier value.toNat)

/-- BERTH_LOAD_CODE. -/
def execBerthLoadCode (side : Side) (n : Fin 256) (s : State) : Host.Outcome State Fault Refusal :=
  .next (s.guard (.berth n) 0x2C side true fun t => t.stageLoad n false)

/-- BERTH_LOAD_CARR. -/
def execBerthLoadCarr (side : Side) (n : Fin 256) (s : State) : Host.Outcome State Fault Refusal :=
  .next (s.guard (.berth n) 0x2C side true fun t => t.stageLoad n true)

/-- BERTH_DUMP_READ (R156): the group from +0x04C to +0x090 is captured into its registers. -/
def State.captureDump (s : State) (n : Nat) : State :=
  let b := s.berth n
  let s1 := s.puts
    ([(F.BERTH_DUMP_SEQ n, b.seq), (F.BERTH_DUMP_EPOCH n, b.epoch), (F.BERTH_CODE_PHF_VALUE n, b.codeF),
      (F.BERTH_CODE_PHI_CHIP n, b.chip), (F.BERTH_CODE_PHI_SEC n, b.sec),
      (F.BERTH_CARR_PHF_VALUE n, pattern 32 b.carr), (F.BERTH_CARR_CYC_VALUE n, pattern 32 (b.carr / ((2 ^ 32 : Nat) : Int))),
      (F.BERTH_SIDE_VE_RATIO n, b.side.1), (F.BERTH_SIDE_VL_RATIO n, b.side.2)] ++
    (List.range 6).flatMap fun k => [(F.BERTH_ACC_I_ACC n k, b.accs.getD (2 * k) 0), (F.BERTH_ACC_Q_ACC n k, b.accs.getD (2 * k + 1) 0)])
  { s1 with busData := BitVec.ofNat 32 (b.seq + 65536 * b.epoch) }

/-- BERTH_DUMP_READ. -/
def execBerthDumpRead (n : Fin 256) (s : State) : Host.Outcome State Fault Refusal := .next (s.captureDump n)

/-- SIDE_PEAK_CHECK (R164): over 20 ms of dumps. A move waits for the next dump boundary. After four moves, a check that would
need another refuses the start. With both ratios at 1.5 or more the prompt moves towards the larger, towards VL where they are
equal; a ratio beyond 16 bits, or to a prompt without power, is written as 0xFFFF, and the latter passes no limit (DESIGN
CHOICE). -/
def execSidePeakCheck (n : Fin 256) (s : State) : Host.Outcome State Fault Refusal :=
  .next <|
    let b := s.berth n
    let st := s.get (F.BERTH_STAT_STATE n)
    if b.kind.isNone || !s.on (F.BERTH_CFG_BOC n) || s.on (F.BERTH_STAT_BOC_OK n) || b.move.isSome ||
        s.get (F.BERTH_ARMS_VEVL n) != 32 || (st != 2 && st != 4) then s
    else
      let ve := b.sideSums.getD 0 0
      let p := b.sideSums.getD 1 0
      let vl := b.sideSums.getD 2 0
      let ratio := fun x => if p = 0 then 0xFFFF else min 0xFFFF (x * 256 / p)
      let s1 := s.modBerth n fun t => { t with side := (ratio ve, ratio vl), sideSums := [] }
      if p ≠ 0 ∧ ve * 10 ≤ 6 * p ∧ vl * 10 ≤ 6 * p then s1.put (F.BERTH_STAT_BOC_OK n) 1
      else if 4 ≤ s.get (F.BERTH_STAT_SIDEJ n) then s1.refuseStart n 6 s.afterRefusal
      else if 3 * p ≤ 2 * max ve vl then s1.modBerth n fun t => { t with move := some (decide (ve ≤ vl)) }
      else s1

/-- PARTNER_START (R175, R176): once the partner is cleared and synchronised, the berth begins its sweep from the partner's
code timing and scaled Doppler; `sec` is the position in the secondary code that the timing gives. A sweep that a
burst window cut short goes on with its next dwell (R195); one that was refused waits for the next window (R203). -/
def execPartnerStart (n : Fin 256) (sec : Nat) (s : State) : Host.Outcome State Fault Refusal :=
  .next <|
    let g := s.get (F.BERTH_CFG_SIG n)
    let st := s.get (F.BERTH_STAT_STATE n)
    match s.placeOf n, Sig.partner g with
    | some (i, _), some pg =>
      match s.berthOf i pg with
      | some m =>
        let pb := s.berth m
        if s.consoleBerth n && (st == 1 || st == 5 || st == 6) && !(s.berth n).barred && pb.cleared &&
            s.on (F.BERTH_STAT_SEC_SYNC m) then
          let t := (pb.sec * Sig.chips pg * 2 ^ 32 + pb.chip * 2 ^ 32 + pb.codeF) * Sig.period pg * (Sig.chips g)
          let code := t / (Sig.chips pg * Sig.period g)
          let f := s.getS (F.BERTH_CARR_INC_INC m) * (Sig.rate pg : Int)
          let dop := f * (Sig.carrier g 0 : Int)
          let u : Nat := 2 ^ 32 * Sig.carrier pg 0
          let s1 := if st == 6 && (s.berth n).kind == some .partner && (s.berth n).dwell.isSome then
              s.put (F.BERTH_STAT_STATE n) 3
            else s.startBerth n .partner 3 true
          s1.loadStart n code sec 0
            (roundDiv ((Sig.nominal g : Int) * ((u : Nat) + f)) u).toNat (roundDiv dop (Sig.rate g * Sig.carrier pg 0))
        else s
      | none => s
    | _, _ => s

/-- The trial position of a dwell in half chips from the predicted phase (R176): one dwell on the same band, three on the
other. -/
def trialOf (g dwell : Nat) : Int := if Sig.pass g = 3 then 0 else 4 * (dwell : Int) - 4

/-- The offsets of the five code arms from the prompt in 1/64 chip, VE to VL (R162); in a partner sweep's dwell they stand at
-1, -0.5, 0, 0.5 and 1 chip (R176). -/
def State.armOffset (s : State) (n arm : Nat) : Int :=
  let el : Int := s.get (F.BERTH_ARMS_EL n)
  let vevl : Int := s.get (F.BERTH_ARMS_VEVL n)
  let l : List Int := if s.get (F.BERTH_STAT_STATE n) = 3 then [-64, -32, 0, 32, 64] else [-vevl, -el, 0, el, vevl]
  l.getD arm 0

/-- PARTNER_DWELL_END (R176): `arms` holds the C/N0, in 0.1 dB-Hz, to which the dwell powers of the five arms correspond. The
first with at least 25 dB-Hz becomes the prompt position; if none passes in the last dwell, the start is refused. -/
def execPartnerDwellEnd (n : Fin 256) (arms : List Nat) (s : State) : Host.Outcome State Fault Refusal :=
  .next <|
    let b := s.berth n
    let g := s.get (F.BERTH_CFG_SIG n)
    match b.dwell with
    | some k =>
      if s.get (F.BERTH_STAT_STATE n) ≠ 3 then s
      else
        match (List.range 5).find? fun a => decide (250 ≤ arms.getD a 0) with
        | some a =>
          let len : Nat := Sig.chips g * 2 ^ 32
          let c : Int := ((b.chip * 2 ^ 32 + b.codeF : Nat) : Int) +
            (32 * trialOf g k + s.armOffset n a) * ((2 ^ 26 : Nat) : Int)
          let c : Nat := (c % (len : Int)).toNat
          ((s.modBerth n fun t => { t with chip := c / 2 ^ 32, codeF := c % 2 ^ 32, dwell := none }).put
            (F.BERTH_STAT_STATE n) 2).planState n 2
        | none =>
          if k + 1 < (if Sig.pass g = 3 then 1 else 3) then s.modBerth n fun t => { t with dwell := some (k + 1) }
          else s.refuseStart n 1 s.afterRefusal
    | none => s

/-- LOCK_LOSS (R180): a berth in TRACK or PULL whose C/N0 estimate stayed below LOCK_THR for LOSS_MS. -/
def execLockLoss (n : Fin 256) (s : State) : Host.Outcome State Fault Refusal :=
  .next <|
    let st := s.get (F.BERTH_STAT_STATE n)
    if (st == 2 || st == 4) && s.weak n && decide (s.get (F.BERTH_LOCK_LOSS_MS n) ≤ (s.berth n).lowMs) then s.loseLock n else s

/-- Facts of the commands of a berth. -/
def berthCmd (n : Fin 256) : CmdInfo := { block := some (.berth n), expert := true }

/-- The lock letters of R186. -/
def State.lockLetters (s : State) (n : Nat) : String :=
  let t := (if s.on (F.BERTH_STAT_PLOCK n) then "P" else "") ++ (if s.on (F.BERTH_STAT_FLOCK n) then "F" else "") ++
    (if s.on (F.BERTH_STAT_CLOCK n) then "C" else "")
  if t = "" then "-" else t

/-- BERTH_QUERY (R186). -/
def execBerthQuery (x : Sess) (n : Fin 256) (s : State) : Host.Outcome State Fault Refusal :=
  .next <| s.run x { query := true } fun t =>
    let i := n.val
    let line := if t.on (F.BERTH_CFG_EN i) then
        "BERTH " ++ Text.dec i ++ " " ++ Sig.name (t.get (F.BERTH_CFG_SIG i)) ++ " " ++
          satName (t.berthSys i) (t.get (F.BERTH_CFG_SVN i)) ++ " STATE=" ++ berthState (t.get (F.BERTH_STAT_STATE i)) ++
          " CN0=" ++ Text.fixed 1 (t.get (F.BERTH_CN0_CN0 i)) ++ (if t.on (F.BERTH_STAT_BOND i) then " BOND" else " CLEARED") ++
          " LOCK=" ++ t.lockLetters i ++ " LOCKT=" ++ Text.fixed 2 (t.get (F.BERTH_CN0_LOCKT i))
      else "BERTH " ++ Text.dec i ++ " IDLE"
    (t.reply x line).ok x

/-- The word that BERTHn_ARMS is to hold: what is staged, else what it holds. -/
def State.armsWord (s : State) (n : Nat) : Nat :=
  match (s.berth n).arms with
  | some x => x.value
  | none => s.get (F.BERTH_ARMS_EL n) + s.get (F.BERTH_ARMS_VEVL n) * 2 ^ 8

/-- BERTH_SPACING (R187): in 1/32 chip, staged under R169. -/
def execBerthSpacing (x : Sess) (n : Fin 256) (el vevl : Option Nat) (s : State) : Host.Outcome State Fault Refusal :=
  .next <| s.run x (berthCmd n) fun t =>
    if el.isNone && vevl.isNone then t.er x 111
    else if [el, vevl].all fun v => match v with | some k => 1 ≤ k && k ≤ 64 | none => true then
      let w := t.armsWord n
      let v : Staged := ⟨el.getD (bitsOf w 0 7) + vevl.getD (bitsOf w 8 7) * 2 ^ 8, t.tooLate n⟩
      ((t.modBerth n fun b => { b with arms := some v }).markStaged n v.late).ok x
    else t.er x 120

/-- The word that BERTHn_LOOP is to hold, of bandwidths and open bits. -/
def State.loopWord (s : State) (n : Nat) : Nat :=
  match (s.berth n).loop with
  | some x => x.value
  | none =>
    s.get (F.BERTH_LOOP_PLL_BW n) + s.get (F.BERTH_LOOP_PLL_OPEN n) * 2 ^ 7 + s.get (F.BERTH_LOOP_FLL_BW n) * 2 ^ 8 +
      s.get (F.BERTH_LOOP_FLL_OPEN n) * 2 ^ 15 + s.get (F.BERTH_LOOP_DLL_BW n) * 2 ^ 16 + s.get (F.BERTH_LOOP_DLL_OPEN n) * 2 ^ 24

/-- One loop of a word of BERTHn_LOOP set by `BERTH n LOOP`: its bandwidth in `w` bits from `lo`, and its open bit above them.
-/
def setLoop (v lo w : Nat) : Option LoopArg → Nat
  | none => v
  | some .open_ => withBit v (lo + w) true
  | some (.bw k) => withBit (v - bitsOf v lo w * 2 ^ lo + k * 2 ^ lo) (lo + w) false

/-- Whether a loop argument lies in its range (R187). -/
def loopOk (hi : Nat) : Option LoopArg → Bool
  | some (.bw v) => 1 ≤ v && v ≤ hi
  | _ => true

/-- BERTH_LOOP (R187): in the steps of BERTHn_LOOP, staged under R169. -/
def execBerthLoop (x : Sess) (n : Fin 256) (pll fll dll : Option LoopArg) (s : State) :
    Host.Outcome State Fault Refusal :=
  .next <| s.run x (berthCmd n) fun t =>
    if pll.isNone && fll.isNone && dll.isNone then t.er x 111
    else if loopOk 120 pll && loopOk 80 fll && loopOk 255 dll then
      let v : Staged := ⟨setLoop (setLoop (setLoop (t.loopWord n) 0 7 pll) 8 7 fll) 16 8 dll, t.tooLate n⟩
      ((t.modBerth n fun b => { b with loop := some v }).markStaged n v.late).ok x
    else t.er x 120

end Sys2Proof.Machine
end

