-- ==== Sys2Proof/Machine/Plan.lean ====
section
/-! DEFINITION. The signal plan: replanning, binding, expert assignment, and the PLAN commands (R97, R102 to R111, R118,
R120, R121). -/

namespace Sys2Proof.Machine

/-- Insert into a list ordered by `le`. -/
def insertBy {α : Type} (le : α → α → Bool) (x : α) : List α → List α
  | [] => [x]
  | y :: r => if le x y then x :: y :: r else y :: insertBy le x r

/-- A list put in order. -/
def sortBy {α : Type} (le : α → α → Bool) : List α → List α
  | [] => []
  | x :: r => insertBy le x (sortBy le r)

/-- The order of satellites (R104 step 2): elevation, highest first, then SYS and number, lower first. -/
def InView.before (a b : InView) : Bool :=
  decide (b.el < a.el) || (a.el == b.el && (decide (a.sv.sys < b.sv.sys) ||
    (a.sv.sys == b.sv.sys && decide (a.sv.svn.toNat ≤ b.sv.svn.toNat))))

/-- The slot that holds a satellite. -/
def State.slotOf (s : State) (v : Sv) : Option Nat :=
  (List.range 128).find? fun i =>
    s.get (F.PLAN_SLOT_SV_SYS i) == v.sys.val && s.get (F.PLAN_SLOT_SV_SVN i) == v.svn.toNat

/-- Whether a system is enabled; in HERITAGE only GPS, Galileo and QZSS are (R86, R97). -/
def State.sysOn (s : State) (sys : Nat) : Bool :=
  bitOf (s.get F.PLAN_CFG_SYS_EN) sys && (s.mode != 6 || [0, 1, 4].contains sys)

/-- The satellites of the plan (R104 steps 1 and 2, R97). -/
def State.qualify (s : State) (view : List InView) : List InView :=
  let m := (s.get F.PLAN_CFG_ELEV : Int)
  let ok := view.filter fun v =>
    s.sysOn v.sv.sys && decide ((if (s.slotOf v.sv).isSome then m - 2 else m) ≤ v.el)
  (sortBy InView.before ok).take (if s.mode = 6 then 32 else 128)

/-- Whether a plan entry is bound. -/
def State.bound (s : State) (p : Nat × Nat) : Bool :=
  s.get (F.PLAN_SLOT_A_BERTH p.1 p.2) < 256 && s.get (F.PLAN_SLOT_A_STATE p.1 p.2) != 0

/-- A plan entry is unbound, but for one that its berth is still to leave (R118). -/
def State.unbind (s : State) (i j : Nat) : State :=
  if s.get (F.PLAN_SLOT_A_STATE i j) = 3 then s else s.put (F.PLAN_SLOT_A_STATE i j) 0

/-- A plan entry gives up its berth, which stops at its quiet point (R110, R184); until then the entry is releasing. Its search
ends at once (R135). -/
def State.giveUp (s : State) (n i j : Nat) : State :=
  if s.berthActive n then
    ((s.put (F.PLAN_SLOT_A_STATE i j) 3).modBerth n fun b =>
      { b with leaving := b.leaving ++ [(i, j)], next := none, hand := none }).stopLanes n
  else (s.put (F.PLAN_SLOT_A_STATE i j) 0).stopBerth n

/-- Release a plan entry's berth (R102, R110). -/
def State.releaseEntry (s : State) (i j : Nat) : State :=
  (if s.bound (i, j) then s.giveUp (s.get (F.PLAN_SLOT_A_BERTH i j)) i j else s.unbind i j).put (F.PLAN_SLOT_A_BERTH i j) 0x100

/-- Empty a slot, its berths released. -/
def State.emptySlot (s : State) (i : Nat) : State :=
  let s1 := [0, 1, 2].foldl (fun t j => (t.releaseEntry i j).put (F.PLAN_SLOT_A_SIG i j) 15) s
  s1.puts [(F.PLAN_SLOT_SV_SYS i, 7), (F.PLAN_SLOT_SV_SVN i, 0), (F.PLAN_SLOT_SV_GLO_K i, 0), (F.PLAN_SLOT_SV_EL i, 0),
    (F.PLAN_SLOT_SV_AZ i, 0)]

/-- The signals of a satellite in a mode, in the order of the passes. -/
def planSignals (mode : Nat) (v : InView) : List Nat :=
  let ok := (List.range 14).filter fun g => Sig.sys g == v.sv.sys.val && Sig.inMode mode g && bitOf v.sigs.toNat g
  (ok.filter fun g => Sig.pass g == 1) ++ (ok.filter fun g => Sig.pass g == 2) ++ ok.filter fun g => Sig.pass g == 3

/-- Put a satellite and its signals into a slot; a signal already there keeps its berth (R104 step 3). -/
def State.fillSlot (s : State) (v : InView) (i : Nat) : State :=
  let want := planSignals s.mode v
  let s1 := [0, 1, 2].foldl
    (fun t j => if want.contains (t.get (F.PLAN_SLOT_A_SIG i j)) then t else t.releaseEntry i j) s
  let keep := fun g => ([0, 1, 2].find? fun j => s1.get (F.PLAN_SLOT_A_SIG i j) == g).map fun j =>
    (s1.get (F.PLAN_SLOT_A_BERTH i j), s1.get (F.PLAN_SLOT_A_STATE i j))
  let rows := (List.range 3).map fun j =>
    match want[j]? with
    | some g => (g, (keep g).getD (0x100, 0))
    | none => (15, (0x100, if s1.get (F.PLAN_SLOT_A_STATE i j) = 3 then 3 else 0))
  let s2 := rows.zipIdx.foldl (fun t r => t.puts
    [(F.PLAN_SLOT_A_SIG i r.2, r.1.1), (F.PLAN_SLOT_A_BERTH i r.2, r.1.2.1), (F.PLAN_SLOT_A_STATE i r.2, r.1.2.2)]) s1
  (s2.puts [(F.PLAN_SLOT_SV_SYS i, v.sv.sys), (F.PLAN_SLOT_SV_SVN i, v.sv.svn.toNat),
    (F.PLAN_SLOT_SV_GLO_K i, v.sv.k.toNat), (F.PLAN_SLOT_SV_AZ i, v.az % 360 / 2)]).putS (F.PLAN_SLOT_SV_EL i) v.el

/-- The ranked signals (R105): by pass, then elevation, highest first, then slot. -/
def State.ranked (s : State) : List (Nat × Nat) :=
  let used := (List.range 128).filter fun i => s.slotUsed i
  let byEl := sortBy (fun a b => decide (s.getS (F.PLAN_SLOT_SV_EL b) < s.getS (F.PLAN_SLOT_SV_EL a)) ||
    (s.getS (F.PLAN_SLOT_SV_EL a) == s.getS (F.PLAN_SLOT_SV_EL b) && decide (a ≤ b))) used
  [1, 2, 3].flatMap fun p => byEl.flatMap fun i =>
    ([0, 1, 2].filter fun j => s.get (F.PLAN_SLOT_A_SIG i j) < 14 && Sig.pass (s.get (F.PLAN_SLOT_A_SIG i j)) == p).map
      fun j => (i, j)

/-- The rank of a berth's signal, as its place among the ranked signals; after them all for a berth that no entry binds (R105).
-/
def State.rankOf (s : State) (n : Nat) : Nat :=
  (s.ranked.zipIdx.find? fun p => s.bound p.1 && s.get (F.PLAN_SLOT_A_BERTH p.1.1 p.1.2) == n).elim 384 (·.2)

/-- Bind an entry's signal to a berth (R106, R157): the firmware writes its signal and enables it, and queues a primary
signal for search (R133). -/
def State.bindEntry (s : State) (i j n rank : Nat) : State :=
  let g := s.get (F.PLAN_SLOT_A_SIG i j)
  let s1 := (s.put (F.PLAN_SLOT_A_BERTH i j) n).put (F.PLAN_SLOT_A_STATE i j) 1
  let s2 := (s1.setSignal n g (s.get (F.PLAN_SLOT_SV_SVN i)) (s.get (F.PLAN_SLOT_SV_GLO_K i))).enableBerth n
  if Sig.pass g = 1 ∧ Sig.direct g then s2.queueSearch (s2.searchFor n 2 rank) else s2

/-- The pool (R106): berths owned by CONSOLE that no entry names. -/
def State.pool (s : State) : List Nat :=
  let taken := (planPlaces.filter fun p => s.slotUsed p.1).map fun p => s.get (F.PLAN_SLOT_A_BERTH p.1 p.2)
  allBerths.filter fun n => s.owner (berthBlock n) == .console && !taken.contains n

/-- Bind the ranked signals that have no berth (R106). -/
def State.bindAll (s : State) : List ((Nat × Nat) × Nat) → State
  | [] => s
  | ((i, j), rank) :: r =>
    if s.bound (i, j) then s.bindAll r
    else
      match s.pool with
      | n :: _ => (s.bindEntry i j n rank).bindAll r
      | [] =>
        let g := s.get (F.PLAN_SLOT_A_SIG i j)
        if Sig.pass g = 1 then
          let rk := s.ranked.reverse
          let of := fun k => rk.find? fun p => s.bound p && Sig.pass (s.get (F.PLAN_SLOT_A_SIG p.1 p.2)) == k
          match (of 3).or (of 2) with
          | some v =>
            let n := s.get (F.PLAN_SLOT_A_BERTH v.1 v.2)
            ((s.releaseEntry v.1 v.2).bindEntry i j n rank).bindAll r
          | none => s.bindAll r
        else s.bindAll r

/-- PLAN_STAT as it reads (R118): the slots in use and the berths bound, with the DROPPED of the last replan. -/
def State.planStat (s : State) : Nat :=
  ((List.range 128).filter fun i => s.slotUsed i).length +
    (planPlaces.filter fun p => s.slotUsed p.1 && s.bound p).length * 2 ^ 8 + s.get F.PLAN_STAT_DROPPED * 2 ^ 24

/-- The signals that wait in the order of the plan take the ranks that a replan gave them (R133). -/
def State.rerank (s : State) : State :=
  let mine := s.gnss.queue.filter (·.order == 2)
  s.withGnss fun g =>
    { g with queue := mine.foldl (fun l q => placeSearch { q with rank := s.rankOf q.berth } l) (g.queue.filter (·.order != 2)) }

/-- Signals whose berth waits are searched again (R141, R142). -/
def State.requeue (s : State) : State :=
  s.ranked.zipIdx.foldl
    (fun t p =>
      let n := t.get (F.PLAN_SLOT_A_BERTH p.1.1 p.1.2)
      let g := t.get (F.PLAN_SLOT_A_SIG p.1.1 p.1.2)
      let st := t.get (F.BERTH_STAT_STATE n)
      if t.bound p.1 && Sig.direct g && (st == 1 || st == 5) && (t.berth n).hand.isNone then
        let t1 := t.modBerth n fun b => { b with refused := 0 }
        t1.queueSearch (t1.searchFor n 2 p.2)
      else t) s

/-- Whether a replan is due (R104): at a quiet point, a second after the last one, or once the mode, SYS_EN or ELEV changed. -/
def State.planDue (s : State) : Bool :=
  s.receiverRests && (s.gnss.replanDue || s.gnss.planAt.all fun t => decide (t + tideOne ≤ s.tide.up))

/-- REPLAN (R104 to R108): in BASIC. -/
def State.replan (s0 : State) (view : List InView) : State :=
  if s0.expert .plan || !s0.planDue then s0
  else
    let s := s0.withGnss fun g => { g with replanDue := false, planAt := some s0.tide.up }
    let q := s.qualify view
    let gone := (List.range 128).filter fun i => s.slotUsed i &&
      !(q.any fun v => v.sv.sys.val == s.get (F.PLAN_SLOT_SV_SYS i) && v.sv.svn.toNat == s.get (F.PLAN_SLOT_SV_SVN i))
    let s1 := gone.foldl State.emptySlot s
    let s2 := q.foldl (fun t v =>
      match (t.slotOf v.sv).or ((List.range 128).find? fun i => !t.slotUsed i) with
      | some i => t.fillSlot v i
      | none => t) s1
    let s3 := (s2.bindAll s2.ranked.zipIdx).rerank.requeue
    let lost := (s3.ranked.filter fun p => !s3.bound p).length
    let s4 := s3.put F.PLAN_STAT_DROPPED (min 255 lost)
    if lost = 0 then s4 else s4.raise0 Src.PLAN_SHORT

/-- REPLAN. -/
def execReplan (view : List InView) (s : State) : Host.Outcome State Fault Refusal := .next (s.replan view)

/-- Whether HERITAGE has room for an entry (R97): one signal in each of at most 32 slots, and of its three signals. -/
def State.heritageRoom (s : State) (i j g : Nat) : Bool :=
  s.mode != 6 || (Sig.inMode 6 g && !([0, 1, 2].any fun k => k != j && s.bound (i, k)) &&
    decide (((List.range 128).filter fun l => l != i && [0, 1, 2].any fun k => s.bound (l, k)).length < 32))

/-- Whether an entry of a slot may bind a signal to a berth: the slot's system broadcasts it (R110), and the console owns the
berth (R106). -/
def State.mayBind (s : State) (i j g n : Nat) : Bool :=
  decide (n < 256) && decide (g < 14) && Sig.sys g == s.get (F.PLAN_SLOT_SV_SYS i) && s.consoleOwns n && s.heritageRoom i j g

/-- A plan entry is set in EXPERT (R109, R110): the berth it bound is released unless it keeps it, and it takes the berth it
names from any other entry; a signal that it may not bind stays unbound. -/
def State.setEntry (s : State) (i j g n : Nat) : State :=
  let old := s.get (F.PLAN_SLOT_A_BERTH i j)
  let was := s.bound (i, j)
  let may := s.mayBind i j g n
  let same := was && may && old == n && (s.berth n).leaving.isEmpty &&
    s.signalOf n == (g, s.get (F.PLAN_SLOT_SV_SVN i), s.get (F.PLAN_SLOT_SV_GLO_K i))
  let s1 := if was && !(may && old == n) then s.giveUp old i j else s
  let s2 := s1.puts [(F.PLAN_SLOT_A_SIG i j, g), (F.PLAN_SLOT_A_BERTH i j, n)]
  let s3 := if n < 256 then
      (planPlaces.filter fun p => p != (i, j) && s.get (F.PLAN_SLOT_A_BERTH p.1 p.2) == n).foldl
        (fun t p => t.releaseEntry p.1 p.2) s2
    else s2
  if same then s else if may then s3.bindEntry i j n (s3.rankOf n) else s3.unbind i j

/-- A slot's satellite is set in EXPERT (R109): its entries follow it, and those of an emptied slot are released. -/
def State.setSlot (s : State) (i : Nat) : State :=
  [0, 1, 2].foldl
    (fun t j =>
      if t.slotUsed i then t.setEntry i j (t.get (F.PLAN_SLOT_A_SIG i j)) (t.get (F.PLAN_SLOT_A_BERTH i j))
      else t.releaseEntry i j) s

/-- The next replan need not wait (R104, R121). -/
def State.callReplan (s : State) : State := s.withGnss fun g => { g with replanDue := true }

/-- Facts of the PLAN commands. -/
def planCmd : CmdInfo := { block := some .plan, heritage := true }

/-- PLAN_SYS (R86, R121). -/
def execPlanSys (x : Sess) (sys : Fin 7) (on : Bool) (s : State) : Host.Outcome State Fault Refusal :=
  .next <| s.run x planCmd fun t =>
    if t.console.heritage && !([0, 1, 4].contains sys.val) then t.er x 230
    else ((t.put F.PLAN_CFG_SYS_EN (withBit (t.get F.PLAN_CFG_SYS_EN) sys on)).callReplan).ok x

/-- PLAN_ELEV (R121). -/
def execPlanElev (x : Sess) (deg : Nat) (s : State) : Host.Outcome State Fault Refusal :=
  .next <| s.run x planCmd fun t => if deg ≤ 45 then ((t.put F.PLAN_CFG_ELEV deg).callReplan).ok x else t.er x 120

/-- The line of a slot (R120). -/
def State.planLine (s : State) (i : Nat) : String :=
  if s.slotUsed i then
    let sig := fun j =>
      let g := s.get (F.PLAN_SLOT_A_SIG i j)
      let n := s.get (F.PLAN_SLOT_A_BERTH i j)
      if g < 14 then " " ++ Sig.name g ++ ":" ++ (if n < 256 then Text.dec n else "-") else ""
    "PLAN " ++ Text.dec i ++ " " ++ satName (s.get (F.PLAN_SLOT_SV_SYS i)) (s.get (F.PLAN_SLOT_SV_SVN i)) ++
      " EL=" ++ Text.int (s.getS (F.PLAN_SLOT_SV_EL i)) ++ " AZ=" ++ Text.dec (2 * s.get (F.PLAN_SLOT_SV_AZ i)) ++
      sig 0 ++ sig 1 ++ sig 2
  else "PLAN " ++ Text.dec i ++ " EMPTY"

/-- PLAN_QUERY (R120). -/
def execPlanQuery (x : Sess) (slot : Option (Fin 128)) (s : State) : Host.Outcome State Fault Refusal :=
  .next <| s.run x { planCmd with query := true } fun t =>
    match slot with
    | some i => (t.reply x (t.planLine i)).ok x
    | none => (t.replies x (((List.range 128).filter fun i => t.slotUsed i).map fun i => t.planLine i)).ok x

/-- PLAN_ASSIGN (R109 to R111). -/
def execPlanAssign (x : Sess) (slot : Fin 128) (sig : Fin 14) (berth : Fin 256) (s : State) :
    Host.Outcome State Fault Refusal :=
  .next <| s.run x { planCmd with expert := true } fun t =>
    let i := slot.val
    let free := [0, 1, 2].find? fun j => t.get (F.PLAN_SLOT_A_SIG i j) == 15
    let here := [0, 1, 2].find? fun j => t.get (F.PLAN_SLOT_A_SIG i j) == sig.val
    if !t.slotUsed i then t.er x 230
    else if Sig.sys sig ≠ t.get (F.PLAN_SLOT_SV_SYS i) then t.er x 120
    else if t.owner (.berth berth) == .app then t.er x 210
    else
      match here.or free with
      | none => t.er x 320
      | some j => (t.setEntry i j sig berth).ok x

end Sys2Proof.Machine
end

