-- ==== Sys2Proof/Machine/Lookout.lean ====
section
/-! DEFINITION. The Lookout: lanes, the acquisition buffer, detections and handoffs, and snapshot captures (R122 to R151). -/

namespace Sys2Proof.Machine

/-- The base of the acquisition buffer (R42). -/
def acqBase : Nat := 0x30000000

/-- Whether a lane runs. -/
def State.laneRuns (s : State) (l : Nat) : Bool := s.get (F.LOOKOUT_LANE_CMD_STATE l) == 1

/-- Whether a BUFFER search runs (R132). -/
def State.bufferSearch (s : State) : Bool :=
  (List.range 16).any fun l => s.laneRuns l && s.on (F.LOOKOUT_LANE_CMD_SRC l)

/-- Whether a lane's parameters break R127 or R128. -/
def State.laneBroken (s : State) (l : Nat) : Bool :=
  let g := s.get (F.LOOKOUT_LANE_SIG_SIG l)
  let ms := s.get (F.LOOKOUT_LANE_SIG_COH l) * s.get (F.LOOKOUT_LANE_SIG_NONCOH l)
  let bins := s.get (F.LOOKOUT_LANE_DOP_BINS l)
  let held := match s.gnss.recording with
    | some (bands, n) => bands.contains (Sig.band g) && decide (ms ≤ n)
    | none => false
  !Sig.direct g || decide (2000 < ms) || (if s.on (F.LOOKOUT_LANE_CMD_SRC l) then decide (63 < bins) || !held else decide (25 < bins))

/-- The lane time that a lane's search needs, in 1/25 ms (R124, R126). -/
def State.laneTime (s : State) (l : Nat) : Nat :=
  s.get (F.LOOKOUT_LANE_SIG_COH l) * s.get (F.LOOKOUT_LANE_SIG_NONCOH l) * max 25 (s.get (F.LOOKOUT_LANE_DOP_BINS l)) *
    (if s.get (F.LOOKOUT_LANE_SIG_SIG l) = 3 then 4 else 1)

/-- A search that breaks R128 is not started: the lane is idle, with ERR set. -/
def State.failLane (s : State) (l : Nat) : State :=
  s.puts [(F.LOOKOUT_LANE_CMD_STATE l, 0), (F.LOOKOUT_LANE_CMD_ERR l, 1)]

/-- Start a search on a lane, or set ERR (R128). -/
def State.runLane (s : State) (l : Nat) (q : Search) : State :=
  if s.laneBroken l then s.failLane l
  else
    ((s.puts [(F.LOOKOUT_LANE_CMD_STATE l, 1), (F.LOOKOUT_LANE_CMD_ERR l, 0)]).withGnss fun g =>
      { g with lanes := (g.lanes.filter fun x => x.1 != l) ++ [(l, { q with left := s.laneTime l })] }).reportSearch

/-- Bins of `step` Hz that cover the cold Doppler range (R129): the satellite's 4.2 kHz and the uncertainty in Hz of XTAL-G. -/
def coldBins (unc step : Nat) : Nat := (2 * (4200 + unc) + step - 1) / step

/-- The parameters of a search (R129): COH, NONCOH, STEP, BINS, CENTRE, BUFFER, and LTHRESH. -/
structure LaneSetup where
  coh : Nat
  noncoh : Nat
  step : Nat
  bins : Nat
  centre : Int
  buffer : Bool
  thresh : Nat
  deriving DecidableEq, Repr

/-- The section `c` of a deep search of `n` bins (R129): 25 bins, the last section those that remain. -/
def deepSection (c n : Nat) : LaneSetup :=
  let cnt := min 25 (n - 25 * c)
  ⟨10, 100, 50, cnt, 25 * (2 * (25 * c : Nat) + (cnt : Int) - (n : Int)), false, 52⟩

/-- The row of R129 for a search; `dop` is the Doppler predicted from the almanac or the aid. In a burst mode the recording is
searched (R143), but by the hot row, whose 2000 ms exceed any recording. LOOKOUT_CFG.THRESH, which BASIC holds at its reset
value, acts on no search: every row states its threshold (DESIGN CHOICE). -/
def State.laneSetup (s : State) (q : Search) (dop : Int) (unc : Nat) : LaneSetup :=
  match q.deep with
  | some (c, n) => deepSection c (if c = 0 then coldBins unc 50 else n)
  | none =>
    let cold : LaneSetup := ⟨1, 20, 500, min 63 (coldBins unc 500), 0, true, 60⟩
    if q.cold then cold
    else
      match s.predOf q.berth with
      | some p => ⟨10, 200, 50, 10, p.dop / 1024, false, 48⟩
      | none => if s.mayPredict q then ⟨1, 20, 500, 6, dop, s.bursts, 60⟩ else cold

/-- Write a lane's fields. -/
def State.writeLane (s : State) (l : Nat) (q : Search) (p : LaneSetup) : State :=
  (s.puts [(F.LOOKOUT_LANE_SIG_SIG l, q.sig), (F.LOOKOUT_LANE_SIG_SVN l, q.svn), (F.LOOKOUT_LANE_SIG_GLO_K l, q.k),
    (F.LOOKOUT_LANE_SIG_COH l, p.coh), (F.LOOKOUT_LANE_SIG_NONCOH l, p.noncoh), (F.LOOKOUT_LANE_DOP_STEP l, p.step),
    (F.LOOKOUT_LANE_DOP_BINS l, p.bins), (F.LOOKOUT_LANE_PEAK_LTHRESH l, p.thresh), (F.LOOKOUT_LANE_CMD_SRC l, bit p.buffer),
    (F.LOOKOUT_LANE_CMD_HANDOFF l, 1), (F.LOOKOUT_LANE_CMD_BERTH l, q.berth)]).putS (F.LOOKOUT_LANE_DOP_CENTRE l) p.centre

/-- A recovery that waited 30 s waits on as a primary signal (R133). -/
def State.ageQueue (s : State) : State :=
  let old := fun (q : Search) => q.order == 1 && decide (q.since + 30 * tideOne < s.tide.up)
  s.withGnss fun g =>
    { g with queue := (g.queue.filter old).foldl (fun l q => placeSearch { q with order := 2, rank := s.rankOf q.berth } l)
               (g.queue.filter fun q => !old q) }

/-- Whether the Lookout works: a mode that tracks, with BURST_SEARCH in the burst modes (R143). -/
def State.searching (s : State) : Bool := s.continuous || (s.bursts && s.on F.LOOKOUT_CFG_BURST_SEARCH)

/-- LANE_ASSIGN (R129, R133, R134): in BASIC a free lane takes the first signal of the queue. `dop` is the Doppler that the
almanac or the aid gives, if it gives one, `unc` the uncertainty of XTAL-G in Hz. A signal whose search breaks R128 stays
queued. In the burst modes searches run after the window closes (R143). -/
def execLaneAssign (lane : Fin 16) (dop : Int) (unc : Nat) (s : State) : Host.Outcome State Fault Refusal :=
  .next <|
    let l := lane.val
    if s.expert .lookout || s.laneRuns l || s.get F.LOOKOUT_CFG_LANES ≤ l || !s.searching || s.gnss.window then s
    else
      let s0 := s.ageQueue
      match s0.gnss.queue with
      | [] => s0
      | q :: rest =>
        let p := s0.laneSetup q dop unc
        let aided := s0.mayPredict q && s0.gnss.fix.isNone && !q.cold && q.deep.isNone && (s0.predOf q.berth).isNone
        let q' := { q with aided := aided, deep := q.deep.map fun d => (d.1, if d.1 = 0 then coldBins unc 50 else d.2) }
        let s1 := s0.writeLane l q' p
        if s1.laneBroken l then s1.failLane l
        else (s1.withGnss fun g => { g with queue := rest }).runLane l q'

/-- Whether a queued search of BASIC runs from the recording (R129, R143): a deep or a hot search is LIVE, and so is a warm one
outside the burst modes. -/
def State.needsBuffer (s : State) (q : Search) : Bool :=
  q.deep.isNone && (q.cold || ((s.predOf q.berth).isNone && (s.bursts || !s.mayPredict q)))

/-- The sub-bands that waiting BUFFER searches need, in ascending order (R132): those that the front feeds. -/
def State.neededBands (s : State) : List Nat :=
  let sigs := if s.expert .lookout then
      ((List.range 16).filter fun l => s.on (F.LOOKOUT_LANE_CMD_SRC l)).map fun l => s.get (F.LOOKOUT_LANE_SIG_SIG l)
    else (s.gnss.queue.filter s.needsBuffer).map (·.sig)
  (List.range 5).filter fun b => s.bandFed b && sigs.any fun g => Sig.direct g && Sig.band g == b

/-- The length of a recording of `n` streams (R132, R143). -/
def State.recordMs (s : State) (n ms : Nat) : Nat :=
  min (min ms (128 / n)) (if s.bursts then s.get F.GNSS_BURST_WINDOW else 128)

/-- A sample's byte (R131): I in [7:4], Q in [3:0]. -/
def packSample (p : BitVec 4 × BitVec 4) : Byte := p.1 ++ p.2

/-- The levels that a sample's byte represents (R131): 2c + 1 for the two's complement code of each nibble. -/
def sampleLevels (b : Byte) : Int × Int := (2 * (b.extractLsb' 4 4).toInt + 1, 2 * (b.extractLsb' 0 4).toInt + 1)

/-- BUFFER_RECORDING (R131, R132, R143): a new recording replaces every stream together, and starts only when no BUFFER search
runs; in the burst modes, within the window. `data` holds the streams' samples (I, Q) in ascending sub-band number. -/
def execBufferRecording (ms : Nat) (data : List (List (BitVec 4 × BitVec 4))) (s : State) : Host.Outcome State Fault Refusal :=
  .next <|
    let bands := s.neededBands
    if bands.isEmpty || s.bufferSearch || !s.searching || (s.bursts && !s.gnss.window) then s
    else
      let n := bands.length
      let len := s.recordMs n ms
      (data.take n).zipIdx.foldl
        (fun t d => t.setBytes (acqBase + d.2 * (128 / n) * 4096) ((d.1.take (len * 4096)).map packSample))
        (s.withGnss fun g => { g with recording := some (bands, len) })

/-- The search that a lane's registers spell. -/
def State.laneSearch (s : State) (l : Nat) : Search :=
  let g := s.get (F.LOOKOUT_LANE_SIG_SIG l)
  { sig := g, sys := Sig.sys g, svn := s.get (F.LOOKOUT_LANE_SIG_SVN l), k := s.get (F.LOOKOUT_LANE_SIG_GLO_K l),
    berth := s.get (F.LOOKOUT_LANE_CMD_BERTH l), order := 2, rank := 0, excl := none, aided := false, cold := false,
    deep := none, since := s.tide.up, left := 0 }

/-- START on a lane that does not run (R128, R134, R151): found or not found, it returns to idle first. A signal that another
lane searches is not searched: the lane stays idle, with no ERR and nothing counted (DESIGN CHOICE). -/
def State.startLane (s : State) (l : Nat) : State :=
  let q := s.laneSearch l
  if s.gnss.lanes.any fun x => x.2.sig == q.sig && x.2.svn == q.svn then s.put (F.LOOKOUT_LANE_CMD_STATE l) 0 else s.runLane l q

/-- LANE_START (R150, R671): a lane that runs refuses it. -/
def execLaneStart (side : Side) (lane : Fin 16) (s : State) : Host.Outcome State Fault Refusal :=
  .next <| s.guardBusy .lookout (0x110 + 0x20 * lane.val) side true (s.laneRuns lane.val) fun t =>
    t.startLane lane.val

/-- A lane is left. -/
def State.leaveLane (s : State) (l state : Nat) : State :=
  ((s.put (F.LOOKOUT_LANE_CMD_STATE l) state).withGnss fun g => { g with lanes := g.lanes.filter fun x => x.1 != l }).reportSearch

/-- LANE_ABORT (R150): the lane stops without handoff. -/
def execLaneAbort (side : Side) (lane : Fin 16) (s : State) : Host.Outcome State Fault Refusal :=
  .next <| s.guard .lookout (0x110 + 0x20 * lane.val) side true fun t =>
    if t.laneRuns lane.val then t.leaveLane lane.val 0 else t

/-- Whether a peak falls on the cell and bin that the search excludes (R141). -/
def Search.excludes (q : Search) (p : Peak) (step : Nat) : Bool :=
  match q.excl with
  | some (c, d) =>
    let k := p.phase.toNat / 16
    let gap := (k + 4096 - c % 4096) % 4096
    (gap ≤ 1 || gap == 4095) && decide ((p.dop - d).natAbs ≤ step)
  | none => false

/-- Hand a detection to the lane's berth, or drop it (R139, R142): the box is a quarter of a cell and of STEP either side. -/
def State.handOff (s : State) (l : Nat) (q : Search) (p : Peak) : State :=
  let n := s.get (F.LOOKOUT_LANE_CMD_BERTH l)
  let g := s.get (F.LOOKOUT_LANE_SIG_SIG l)
  let sig := s.signalOf n
  if n < 256 ∧ s.on (F.BERTH_CFG_EN n) ∧ (s.berth n).leaving.isEmpty ∧ sig.1 = g ∧
      sig.2.1 = s.get (F.LOOKOUT_LANE_SIG_SVN l) ∧ s.owner (berthBlock n) = s.owner .lookout then
    s.modBerth n fun b =>
      { b with
        hand := some
          { phase := p.phase.toNat, seg := if g = 3 then p.seg.val else 0, dop := p.dop, ratio := p.ratio.toNat, at_ := p.at_
            codeBox := 4, dopBox := s.get (F.LOOKOUT_LANE_DOP_STEP l), order := q.order, rank := q.rank, since := q.since
            cold := q.cold } }
  else s.count F.LOOKOUT_CNT_DROPPED

/-- What follows a search that found nothing (R129): a cold search gives way to a deep one, a section of a deep search to the
next on the same lane. A warm, hot or deep search that found nothing leaves its signal unsearched until something queues it
again, such as the next replan (DESIGN CHOICE). -/
def State.searchOn (s : State) (l : Nat) (q : Search) : State :=
  match q.deep with
  | some (c, n) =>
    if 25 * (c + 1) < n then
      let q' := { q with deep := some (c + 1, n) }
      (s.writeLane l q' (deepSection (c + 1) n)).runLane l q'
    else s
  | none =>
    if s.on F.LOOKOUT_CFG_DEEP && s.on (F.LOOKOUT_LANE_CMD_SRC l) && s.continuous then
      s.queueSearch { q with deep := some (0, 0) }
    else s

/-- The lane time that a burst allows, in 1/25 ms (R143). -/
def State.budget (s : State) : Nat := 25 * s.get F.LOOKOUT_CFG_BUDGET

/-- The searches that a burst's budget did not finish go on after the next burst (R143). -/
def State.spendBudget (s : State) : State :=
  s.withGnss fun g => { g with lanes := g.lanes.map fun x => (x.1, { x.2 with left := x.2.left - s.budget }) }

/-- LANE_SEARCH_END (R126, R138, R142): found when the strongest cell exceeds the lane's threshold. In the burst modes a search
ends after the window, once what it still needs is within the budget (R143). -/
def execLaneSearchEnd (lane : Fin 16) (peak : Option Peak) (s : State) : Host.Outcome State Fault Refusal :=
  .next <|
    let l := lane.val
    let q := ((s.gnss.lanes.find? fun x => x.1 == l).map (·.2)).getD (s.laneSearch l)
    if !s.laneRuns l || (s.bursts && (s.gnss.window || decide (s.budget < q.left))) then s
    else
      let ok := peak.filter fun p =>
        decide (s.get (F.LOOKOUT_LANE_PEAK_LTHRESH l) < p.ratio.toNat) && !q.excludes p (s.get (F.LOOKOUT_LANE_DOP_STEP l))
      match ok with
      | some p =>
        let s1 := ((s.leaveLane l 2).puts [(F.LOOKOUT_LANE_CODE_PHASE l, p.phase.toNat),
          (F.LOOKOUT_LANE_CODE_SEG l, if q.sig = 3 then p.seg.val else 0), (F.LOOKOUT_LANE_PEAK_RATIO l, p.ratio.toNat)]).putS
          (F.LOOKOUT_LANE_PEAK_DOPPLER l) p.dop
        if s1.on (F.LOOKOUT_LANE_CMD_HANDOFF l) then s1.handOff l q p else s1
      | none =>
        let s1 := s.leaveLane l 3
        if s.expert .lookout then s1 else s1.searchOn l q

/-- LANE_CODE_READ (R151): a read of CODE returns a lane that found, or found nothing, to idle. A read by the other side than
the owner's has no effect but to return the word (DEDUCED from R21). -/
def State.readLaneCode (s : State) (side : Side) (l : Nat) : State :=
  let t := { s with busData := BitVec.ofNat 32 (s.get (F.LOOKOUT_LANE_CODE_PHASE l) + s.get (F.LOOKOUT_LANE_CODE_SEG l) * 65536) }
  if side = s.owner .lookout ∧ 2 ≤ s.get (F.LOOKOUT_LANE_CMD_STATE l) then t.put (F.LOOKOUT_LANE_CMD_STATE l) 0 else t

/-- LANE_CODE_READ. -/
def execLaneCodeRead (side : Side) (lane : Fin 16) (s : State) : Host.Outcome State Fault Refusal :=
  .next (s.readLaneCode side lane.val)

/-- Whether GO is refused (R150, R671): outside SNAPSHOT, or while a capture runs. -/
def State.snapBusy (s : State) : Bool := s.mode != 5 || s.on F.LOOKOUT_SNAP_BUSY

/-- LOOKOUT_SNAP_GO (R145, R150, R671). -/
def execLookoutSnapGo (side : Side) (s : State) : Host.Outcome State Fault Refusal :=
  .next (s.guardBusy .lookout 0x20 side false s.snapBusy State.startCapture)

/-- SNAPSHOT_CAPTURE_END (R131, R145, R146): the samples (I, Q) and the header are in the acquisition buffer. `err` is the
frequency error estimate of XTAL-G. -/
def execSnapshotCaptureEnd (samples : List (BitVec 4 × BitVec 4)) (err : Word) (s : State) : Host.Outcome State Fault Refusal :=
  .next <|
    match s.gnss.capture with
    | some (ms, at_, tst) =>
      let sec := at_ / tideOne % 2 ^ 32
      let head := leBytes 4 sec ++ leBytes 4 (at_ % tideOne / 2 ^ 24) ++ leBytes 2 ms ++ leBytes 1 (s.get (F.FRONT_AGC_GAIN 0)) ++ leBytes 1 tst ++
        leBytes 4 err.toNat ++ leBytes 4 4096000
      let s1 := (s.setBytes acqBase ((samples.take (ms * 4096)).map packSample)).setBytes (acqBase + 0x7D000) head
      let s2 := ((s1.withGnss fun g => { g with capture := none }).puts
        [(F.LOOKOUT_SNAP_BUSY, 0), (F.LOOKOUT_SNAP_VALID, 1)]).deriveMode
      s2.raiseK Src.GNSS_SNAP_DONE ms sec [("MS", Text.dec ms), ("TIDE", Text.dec sec)]
    | none => s

/-- LOOKOUT_SNAP_RELEASE (R147). -/
def execLookoutSnapRelease (side : Side) (s : State) : Host.Outcome State Fault Refusal :=
  .next (s.guard .lookout 0x20 side false fun t => t.put F.LOOKOUT_SNAP_VALID 0)

end Sys2Proof.Machine
end

