-- ==== Sys2Proof/Machine/Gnss.lean ====
section
/-! DEFINITION. The receiver's modes, restarts, aids, bursts and the GNSS commands (R94 to R103, R119, R136, R145, R191,
R192). -/

namespace Sys2Proof.Machine

/-- Request a mode (R100): a later request replaces a pending one, and the mode in effect cancels it. -/
def State.requestMode (s : State) (m : Nat) : State :=
  s.puts [(F.GNSS_MODE_MODE, m), (F.GNSS_MODE_MODE_PEND, bit (m ≠ s.mode))]

/-- What the final `OK` of `GNSS MODE` brings (R86). -/
def State.dialectAfter (s : State) (m : Nat) : AfterSent :=
  if s.mode = 6 then .dialect (m == 6) else .nothing

/-- GNSS_MODE (R86, R94, R99 to R101). -/
def execGnssMode (x : Sess) (m : Fin 7) (s : State) : Host.Outcome State Fault Refusal :=
  .next <| s.run x { block := some .gnss, heritage := true } fun t =>
    if t.on F.GNSS_MODE_STRAP && m.val != 6 then t.er x 230
    else
      let u := t.requestMode m.val
      if !ledgerGrants t u then (t.ledgerRefuse .gnss 0x10 .console).er x 312
      else if t.reserveRefuses u then t.er x 313
      else u.finish x (t.dialectAfter m.val) "OK"

/-- A write of GNSS_MODE.MODE (R116): 0b111 leaves the field unchanged, and so does any but HERITAGE under the strap. -/
def State.writeMode (s : State) (side : Side) (m : Nat) : State :=
  if m = 7 ∨ (s.on F.GNSS_MODE_STRAP ∧ m ≠ 6) then s else s.underLedger .gnss 0x10 side (s.requestMode m)

/-- GNSS_MODE_REGISTER_WRITE. -/
def execGnssModeRegisterWrite (side : Side) (m : Fin 8) (s : State) : Host.Outcome State Fault Refusal :=
  .next (s.guard .gnss 0x10 side false fun t => t.writeMode side m.val)

/-- Whether a change for GNSS, FRONT or PLAN takes effect at once (R99): the receiver rests, and no continuous mode makes it
wait for the end of the measurement epoch. -/
def State.receiverQuiet (s : State) : Bool := !s.continuous && s.receiverRests

/-- RATE takes effect at the receiver's quiet point (R217). -/
def State.applyRate (s : State) : State := s.withGnss fun g => { g with rate := s.get F.GNSS_EPOCHCFG_RATE }

/-- The Tide seconds of the first whole multiple of PERIOD after a second (R191). -/
def State.windowAfter (s : State) (sec : Nat) : Nat :=
  (sec / s.get F.GNSS_BURST_PERIOD + 1) * s.get F.GNSS_BURST_PERIOD

/-- SILLAGE_NEXTS and NEXTF hold the next planned window start in the burst modes, and 0 outside them (R191, R212). -/
def State.planNext (s : State) : State :=
  s.puts [(F.SILLAGE_NEXTS_SEC, if s.bursts then s.windowAfter (s.tide.now / tideOne) else 0), (F.SILLAGE_NEXTF_FRAC, 0)]

/-- The berths that keep state of their own change. -/
def State.modBerths (s : State) (f : BerthState → BerthState) : State :=
  (s.gnss.berths.map (·.1)).foldl (fun t n => t.modBerth n f) s

/-- Berths, domains and the front follow the mode in effect (R97, R102, R103, R104, R147). The berths that the change releases
stop with it. -/
def State.enterMode (s : State) : State :=
  let m := s.mode
  let gone := planPlaces.filter fun p => s.slotUsed p.1 && s.bound p && !Sig.inMode m (s.get (F.PLAN_SLOT_A_SIG p.1 p.2))
  let s1 := gone.foldl (fun t p => t.releaseBerth (s.get (F.PLAN_SLOT_A_BERTH p.1 p.2))) s
  let s2 := ((s1.withGnss fun g => { g with recording := none }).put F.LOOKOUT_SNAP_VALID 0).planNext
  let s3 := (s2.modBerths fun b => { b with barred := false }).applyRate.callReplan
  let s4 :=
    if m = 0 then
      let t := allBerths.foldl State.disableBerth s3
      ((t.domainOff 5).domainOff 6 |>.domainOff 7).gnssOffTide
    else
      let t := (s3.needDomain 5).needDomain 6
      if m = 5 then t.needDomain 7 else t.needDomain 13
  let s5 := if m = 6 then s4.rtcHeritage else s4
  (s5.deriveMode).rfClocks (s5.continuous || m == 5)

/-- GNSS_MODE_DONE (R86, R97, R100): the pending mode takes effect at the quiet point. -/
def execGnssModeDone (s : State) : Host.Outcome State Fault Refusal :=
  .next <|
    if !s.on F.GNSS_MODE_MODE_PEND || !s.receiverRests then s
    else
      let m := s.get F.GNSS_MODE_MODE
      let s1 := (s.puts [(F.GNSS_MODE_ACT_MODE, m), (F.GNSS_MODE_MODE_PEND, 0)]).enterMode
      let s2 := s1.raiseK Src.GNSS_MODE_DONE 0 0 [("MODE", modeName m)]
      { s2 with console := { s2.console with heritage := m == 6 } }

/-- Facts of the GNSS commands. -/
def gnssCmd : CmdInfo := { block := some .gnss, heritage := true }

/-- GNSS_BURST (R96): PERIOD in s and WINDOW in ms. -/
def execGnssBurst (x : Sess) (period window : Option Nat) (s : State) : Host.Outcome State Fault Refusal :=
  .next <| s.run x gnssCmd fun t =>
    let p := period.getD (t.get F.GNSS_BURST_PERIOD)
    let w := window.getD (t.get F.GNSS_BURST_WINDOW)
    if period.isNone && window.isNone then t.er x 111
    else if 1 ≤ p ∧ p ≤ 60 ∧ 8 ≤ w ∧ w ≤ 250 then
      ((t.puts [(F.GNSS_BURST_PERIOD, p), (F.GNSS_BURST_WINDOW, w)]).deriveMode.planNext).ok x
    else t.er x 120

/-- GNSS_SNAP (R98, R145): only in SNAPSHOT; a capture that runs is a mode conflict too. -/
def execGnssSnap (x : Sess) (ms : Nat) (s : State) : Host.Outcome State Fault Refusal :=
  .next <| s.run x { block := some .lookout, heritage := true } fun t =>
    if ms < 2 ∨ 125 < ms then t.er x 120
    else if t.mode ≠ 5 ∨ t.on F.LOOKOUT_SNAP_BUSY then t.er x 230
    else ((t.put F.LOOKOUT_SNAP_MS ms).startCapture).ok x

/-- GNSS_AID (R136, R137): discarded while a cleared fix is held. -/
def execGnssAid (x : Sess) (a : Aid) (s : State) : Host.Outcome State Fault Refusal :=
  .next <| s.run x gnssCmd fun t =>
    if a.pos.isNone && a.time.isNone && a.acc.isNone then t.er x 111
    else if t.gnss.fix.isSome then t.ok x
    else (t.withGnss fun g => { g with aid := some (a, t.tide.up) }).ok x

/-- GNSS_RESTART (R119): it acts at the next quiet point. -/
def execGnssRestart (x : Sess) (kind : Restart) (s : State) : Host.Outcome State Fault Refusal :=
  .next <| s.run x gnssCmd fun t => (t.withGnss fun g => { g with restart := some kind }).ok x

/-- Release every bound berth and acquire its signal anew (R119). -/
def State.reacquire (s : State) : State :=
  let s1 := (planPlaces.filter fun p => s.slotUsed p.1 && s.bound p).foldl
    (fun t p =>
      let n := t.get (F.PLAN_SLOT_A_BERTH p.1 p.2)
      (t.refuseBonded n 8 1).modBerth n fun b => { b with hand := none, took := none, refused := 0 }) s
  let s2 := s1.gnss.lanes.foldl (fun t l => t.put (F.LOOKOUT_LANE_CMD_STATE l.1) 0) s1
  (s2.withGnss fun g => { g with queue := [], lanes := [] }).requeue.reportSearch

/-- What a restart forgets (R119, R252): nothing, the ephemerides, or all it knew. What rests on data forgotten goes with it:
the predictions, and what OSNMA said of the data sets. -/
def State.forget (s : State) : Restart → State
  | .hot => s
  | .warm =>
    ((s.withGnss fun g =>
      { g with store := g.store.filter fun u => u.u.kind != NavKind.ephemeris, osnma := [] }).setPreds [])
  | .cold =>
    (((s.withGnss fun g => { g with store := [], osnma := [], tags := [], fix := none, fix3 := none, aid := none }).withTide fun t =>
      { t with abs := false, disc := false, fromRtc := false }).setPreds []).puts [(F.FRONT_AGC_REF 0, 96), (F.FRONT_AGC_REF 1, 96)]

/-- The time offsets of all constellations become unknown. -/
def State.clearOffsets (s : State) : State :=
  s.puts ((List.range 5).flatMap fun k => [(F.GNSS_TOFS_OFS k, 0), (F.GNSS_TOFS_SRC k, 0), (F.GNSS_TOFS_NSAT k, 0)])

/-- RESTART_APPLY (R119, R252): what each restart clears. Every restart releases the berths and acquires them anew. -/
def execRestartApply (s : State) : Host.Outcome State Fault Refusal :=
  .next <|
    if !s.receiverRests then s
    else
      match s.gnss.restart with
      | none => s
      | some kind =>
        let s1 := (s.withGnss fun g => { g with restart := none }).forget kind
        (if kind = .hot then s1 else s1.clearOffsets).reacquire

/-- GNSS_STAT_QUERY. -/
def execGnssStatQuery (x : Sess) (s : State) : Host.Outcome State Fault Refusal :=
  .next <| s.run x { gnssCmd with query := true } fun t =>
    (t.reply x ("GNSS STAT MODE=" ++ modeName t.mode ++ " USED=" ++ Text.dec (t.get F.GNSS_STAT_USED) ++ " TRACKED=" ++
      Text.dec t.tracked ++ " JAM1=" ++ Text.dec (t.get (F.FRONT_JAM_J 0)) ++ " JAM5=" ++ Text.dec (t.get (F.FRONT_JAM_J 1)))).ok x

/-- The planned start of the burst under way, in Tide seconds: NEXTS with the high part of the time. -/
def State.plannedStart (s : State) : Nat :=
  let sec := s.tide.now / tideOne
  let d := (s.get F.SILLAGE_NEXTS_SEC + 2 ^ 32 - sec % 2 ^ 32) % 2 ^ 32
  if d < 2 ^ 31 then sec + d else sec + d - 2 ^ 32

/-- A skipped burst (R192): berths stay in HOLD, no epoch identifier is used, and the next wake follows the schedule. -/
def State.skipBurst (s : State) : State :=
  (((s.withGnss fun g => { g with window := false, settling := false }).put F.SILLAGE_NEXTS_SEC
    (s.windowAfter s.plannedStart)).deriveMode.rfClocks false).raise0 Src.GNSS_BURST_SKIP

/-- BURST_WAKE (R191 steps 1 to 4, R370): the burst timer fires; in the lower bands of the store the burst is skipped.
Otherwise the island powers up and RF settling begins. -/
def execBurstWake (s : State) : Host.Outcome State Fault Refusal :=
  .next <|
    if !s.bursts then s
    else if s.get F.PWR_PATH_ACT = 2 ∧ s.get F.HARV_STAT_BAND < 4 then s.skipBurst
    else
      let s1 := ((((s.wake 11).needDomain 1).needDomain 5).needDomain 6).needDomain 13
      (s1.withGnss fun g => { g with settling := true }).deriveMode.rfClocks true

/-- Whether a berth may start with a window (R177, R181, R191): it waits, has lost lock or holds, and no handoff is before it.
-/
def State.startable (s : State) (n : Nat) : Bool :=
  let st := s.get (F.BERTH_STAT_STATE n)
  s.on (F.BERTH_CFG_EN n) && (st == 1 || st == 5 || st == 6) && (s.berth n).hand.isNone

/-- The seed of a berth at a window start `t`, if it is seeded (R183, R192, R195): its prediction is evaluated at that start. -/
def State.seedAt (s : State) (t : Nat) (p : Pred) : Option Pred :=
  if s.startable p.berth && s.predictable p.berth && s.maySeed p then some (s.predAt p t) else none

/-- The seeds of a window start are taken (R183, R195); and how many. -/
def State.seedAll (s : State) (t : Nat) (l : List Pred) : State × Nat :=
  l.foldl (fun a p => match a.1.seedAt t p with | some q => (a.1.takeSeed p.berth q, a.2 + 1) | none => a) (s, 0)

/-- A primary signal that is not seeded is queued for recovery (R195), but after three refused handoffs in a row (R141). -/
def State.recoverUnseeded (s : State) (n : Nat) : State :=
  if s.startable n && s.consoleOwns n && Sig.direct (s.get (F.BERTH_CFG_SIG n)) && decide ((s.berth n).refused < 3) then
    s.queueSearch (s.searchFor n 1 n)
  else s

/-- The berths that the plan binds. -/
def State.planBerths (s : State) : List Nat :=
  (planPlaces.filter fun p => s.slotUsed p.1 && s.bound p).map fun p => s.get (F.PLAN_SLOT_A_BERTH p.1 p.2)

/-- At a window start a berth takes the handoff that waits for it (R144, R177). -/
def State.windowHandoff (s : State) (n : Nat) : State :=
  match (s.berth n).hand with
  | some h =>
    let st := s.get (F.BERTH_STAT_STATE n)
    if s.on (F.BERTH_CFG_EN n) && (st == 1 || st == 5 || st == 6) then s.takeHandoff n h else s.dropHandoff n
  | none => s

/-- A burst's window opens at tW (R143, R191 step 5, R203): what the last burst left is done with, and the next start is
planned. -/
def State.openWindow (s : State) (tw : Nat) : State :=
  let fresh := fun (f : FrontBand) => { f with gainSum := 0, gainN := 0 }
  let s1 := (s.put F.SILLAGE_NEXTS_SEC (s.windowAfter s.plannedStart)).withGnss fun g =>
    { g with window := true, settling := false, tw := tw, front1 := fresh g.front1, front5 := fresh g.front5 }
  (s1.modBerths fun b => { b with barred := false }).spendBudget.deriveMode.fire 21

/-- BURST_WINDOW_START (R144, R191 step 5, R192, R195): once XTAL-G and RFSYN run, the window starts `tenths` late, in 0.1 ms;
without them after 2 ms (none), the burst is skipped. The berths take handoffs first, then seeds. -/
def execBurstWindowStart (tenths : Option (Fin 21)) (s : State) : Host.Outcome State Fault Refusal :=
  .next <|
    let ready := s.get F.CLK_STAT_XTALG = 2 ∧ s.get F.CLK_STAT_RFSYN = 2
    if !s.bursts || !s.gnss.settling then s
    else
      match tenths with
      | none => if ready then s else s.skipBurst
      | some d =>
        if ¬ ready then s
        else
          let tw := s.plannedStart * tideOne + d.val * tideOne / 10000
          let s1 := s.openWindow tw
          let s2 := (s1.gnss.berths.map (·.1)).foldl State.windowHandoff s1
          let r := s2.seedAll tw s2.gnss.preds
          (s2.planBerths.foldl State.recoverUnseeded r.1).put F.SILLAGE_STAT_SEEDED r.2

end Sys2Proof.Machine
end

