-- ==== Sys2Proof/Machine/Epoch.lean ====
section
/-! DEFINITION. Measurement epochs: entries, jamming indicators, the close, and the clearing of starts (R188 to R209, R215 to
R227, R252, R256 to R258). -/

namespace Sys2Proof.Machine

/-- The multipath indicator of R227 from the sums of the powers of VE, E, P, L and VL; `u` stands where the prompt power is 0.
-/
def multipath (boc : Bool) (sums : List Nat) (u : Nat) : Nat :=
  let at_ := fun i => sums.getD i 0
  let d : Nat := if boc then ((at_ 1 : Int) - at_ 3).natAbs else ((at_ 0 : Int) - at_ 4).natAbs
  let p := at_ 2
  if p = 0 then u % 4 else if 20 * d < p then 0 else if 20 * d < 3 * p then 1 else if 10 * d < 3 * p then 2 else 3

/-- The carrier phase of an entry in 2^-16 cycle (R226, R228), of accumulated cycles in 2^-32. -/
def carrierPhase (carr : Int) (hadj : Bool) : Int := -(carr / 65536) + (if hadj then 32768 else 0)

/-- The transmit time of a berth in 2^-56 s (R226): of the ms at which the primary code period of its last dump boundary was
sent, and the code phase from there on. -/
def State.sentAt (s : State) (m : Meas) : Nat :=
  let n := m.berth.val
  let g := s.get (F.BERTH_CFG_SIG n)
  let b := s.berth n
  let phase := b.chip * 2 ^ 32 + b.codeF + m.since * s.get (F.BERTH_CODE_INC_INC n)
  m.ms * tideOne / 1000 + phase * Sig.period g * tideOne / (Sig.chips g * 1000 * 2 ^ 32)

/-- tE in GPS time in 2^-56 s (R226): less the offset of the Tide counter's scale. -/
def State.gpsOf (s : State) (te : Nat) : Int := (te : Int) - s.scaleOffset (s.get F.TIDE_CFG_SCALE)

/-- The pseudorange of a berth at `te` in 2^-10 m (R226): the speed of light in the travel time. The spec states no value for
one that the 36 bits do not hold: `u` stands there. -/
def State.pseudorange (s : State) (te : Nat) (m : Meas) (u : Nat) : Nat :=
  let r := (s.gpsOf te - s.sentAt m) * ((299792458 * 1024 : Nat) : Int) / (tideOne : Int)
  if 0 ≤ r ∧ r < ((2 ^ 36 : Nat) : Int) then r.toNat else u % 2 ^ 36

/-- The Doppler of a berth in 2^-10 Hz (R159, R226): its carrier NCO's frequency less the offset of its signal. -/
def State.dopplerOf (s : State) (n : Nat) : Int :=
  let g := s.get (F.BERTH_CFG_SIG n)
  roundDiv (s.getS (F.BERTH_CARR_INC_INC n) * (Sig.rate g * 1024 : Nat)) (2 ^ 32) -
    Sig.offset g (s.get (F.BERTH_CFG_GLO_K n)) * 1024

/-- The entry of a berth in epoch `e` at `te` (R222, R226). -/
def State.makeEntry (s : State) (e te : Nat) (m : Meas) : Entry :=
  let n := m.berth.val
  let b := s.berth n
  { epoch := e, berth := n, serial := b.serial, sig := s.get (F.BERTH_CFG_SIG n), sys := s.berthSys n,
    svn := s.get (F.BERTH_CFG_SVN n), k := s.get (F.BERTH_CFG_GLO_K n)
    pr := s.pseudorange te m (Config.number (s.free + 2 * n))
    cp := carrierPhase (b.carr + m.since * s.getS (F.BERTH_CARR_INC_INC n)) b.hadj, dop := s.dopplerOf n
    cn0 := s.get (F.BERTH_CN0_CN0 n), lockt := s.get (F.BERTH_CN0_LOCKT n)
    mp := multipath (s.on (F.BERTH_CFG_BOC n)) b.sums (Config.number (s.free + 2 * n + 1))
    half := s.on (F.BERTH_STAT_HALF n), bond := !b.cleared || b.predicted, refused := false, fail := b.fail }

/-- The two records of an entry (R222). -/
def Entry.records (e : Entry) (hadj : Bool) (sd : Nat) : List (List Nat) :=
  let cp := pattern 48 e.cp
  let w := fun t => t * 2 ^ 28 + e.sig * 2 ^ 24 + e.berth * 2 ^ 16
  [[w 1 + e.epoch, bit hadj * 2 ^ 27 + e.sys * 2 ^ 24 + e.svn * 2 ^ 16 + e.k * 2 ^ 12 + e.mp * 2 ^ 10 + bit e.half * 2 ^ 9 +
      bit e.bond * 2 ^ 8, e.pr % 2 ^ 32, e.pr / 2 ^ 32 + e.cn0 * 16 + e.lockt * 65536],
    [w 2 + cp / 2 ^ 32, cp % 2 ^ 32, pattern 32 e.dop, sd]]

/-- Whether a berth contributes an entry (R183, R190). -/
def State.contributes (s : State) (n : Fin 256) : Bool :=
  s.consoleBerth n && s.get (F.BERTH_STAT_STATE n) == 4 && (s.berth n).kind.isSome

/-- Whether an entry of a berth would be the seventeenth in bond of its start (R198). -/
def State.atDepth (s : State) (n : Nat) : Bool :=
  let b := s.berth n
  (!b.cleared || b.predicted) && decide (16 ≤ (s.bonded n).length)

/-- The entries of an epoch in berth order, each with HADJ and its deviation; a seventeenth in bond of a start is not made
(R198). -/
def State.gather (s : State) (e te : Nat) (meas : List Meas) : List (Entry × Bool × Nat) :=
  (List.finRange 256).filterMap fun n =>
    if s.contributes n && !s.atDepth n then
      (meas.find? fun m => m.berth == n).map fun m => (s.makeEntry e te m, (s.berth n).hadj, m.sd.toNat)
    else none

/-- The basis of every berth ends (R188, R227), and its results are no longer those that predicted symbols made (R189); a start
at its limit of entries is marked. -/
def State.endBases (s : State) (meas : List Meas) : State :=
  (s.gnss.berths.map (·.1)).foldl
    (fun t n =>
      let full := (meas.any fun m => m.berth.val == n && t.contributes m.berth) && t.atDepth n
      (t.modBerth n fun b => { b with sums := [], predicted := false, fail := if full then 5 else 0 }).showBond n) s

/-- Notches that count as active at tE (R256). -/
def State.activeNotches (s : State) (b : Nat) : Nat :=
  ((List.range 4).filter fun k => s.get (F.FRONT_NOTCH_STATE b k) != 0).length

/-- Whether a notch of a band is LOCKED. -/
def State.notchLocked (s : State) (b : Nat) : Bool := (List.range 4).any fun k => s.get (F.FRONT_NOTCH_STATE b k) == 2

/-- The mean GAIN of a band over the epoch's basis (R256), rounded down; the present GAIN where no report fell into the basis
(DESIGN CHOICE). -/
def State.meanGain (s : State) (b : Nat) : Nat :=
  let f := s.band b
  if f.gainN = 0 then s.get (F.FRONT_AGC_GAIN b) else f.gainSum / f.gainN

/-- REF follows the mean GAIN (R252): a first-order average whose time constant is 600 s, of a step of `num`/`den` s; it keeps a
fraction of 2^-16. -/
def State.learnRef (s : State) (b num den : Nat) : State :=
  let was : Int := (s.get (F.FRONT_AGC_REF b) * 65536 + (s.band b).frac : Nat)
  let next := (was + ((s.meanGain b * 65536 : Nat) - was) * (num : Int) / ((600 * den : Nat) : Int)).toNat
  (s.put (F.FRONT_AGC_REF b) (min 255 (next / 65536))).modBand b fun f => { f with frac := next % 65536 }

/-- The jamming indicator of one powered band, with the learning of REF (R252, R256, R257); `flat` is the spectral term. -/
def State.jamBand (s : State) (b flat : Nat) : State :=
  let dep := min 255 (s.get (F.FRONT_AGC_REF b) - s.meanGain b)
  let n := s.activeNotches b
  let f := min 63 flat
  let j := min 255 (4 * dep + 24 * n + f)
  let thr := s.get (F.FRONT_JCFG_THR b)
  let was := s.on (F.FRONT_JAM_ABOVE b)
  let now := if was then decide (thr ≤ j + s.get (F.FRONT_JCFG_HYST b)) else decide (thr ≤ j)
  let s1 := s.puts [(F.FRONT_JAM_J b, j), (F.FRONT_JAM_DEP b, dep), (F.FRONT_JAM_NACT b, n), (F.FRONT_JAM_FLAT b, f),
    (F.FRONT_JAM_ABOVE b, bit now)]
  let still := !s.expert .front && decide (2 * j < thr) && !s.notchLocked b && !(s.band b).locked
  let s2 := if !still then s1
    else if s.bursts then s1.learnRef b (s.get F.GNSS_BURST_PERIOD) 1 else s1.learnRef b 1 (max 1 s.gnss.rate)
  if was != now && s.on (F.FRONT_JCFG_EV b) then
    s2.raiseK Src.FRONT_JAM (b + bit now * 2 + j * 256) 0
      [("BAND", if b = 0 then "L1" else "L5"), ("J", Text.dec j), ("STATE", if now then "ABOVE" else "BELOW")]
  else s2

/-- A band's basis ends (R256, R258): in the burst modes each notch counts a window in which its tone stayed below DET. -/
def FrontBand.endBasis (f : FrontBand) (powered locked bursts : Bool) : FrontBand :=
  { f with
    gainSum := 0, gainN := 0, locked := locked, on := powered
    calm := if bursts then (List.range 4).map fun k => if f.seen.getD k false then 0 else f.calm.getD k 0 + 1 else f.calm
    seen := [false, false, false, false] }

/-- The jamming indicators of an epoch; a band that is off reads J = 0 (R256). -/
def State.jamming (s : State) (flat : List Nat) : State :=
  [0, 1].foldl
    (fun t b =>
      let fed := t.rfOn (b == 1)
      let t1 := if fed then t.jamBand b (flat.getD b 0)
        else t.puts [(F.FRONT_JAM_J b, 0), (F.FRONT_JAM_DEP b, 0), (F.FRONT_JAM_NACT b, 0), (F.FRONT_JAM_FLAT b, 0),
          (F.FRONT_JAM_ABOVE b, 0)]
      t1.modBand b fun f => f.endBasis fed (t1.notchLocked b) t1.bursts) s

/-- The berths stop at the end of a burst window (R181, R191 step 7): the arms stop, and RF powers down. HOLD is a quiet point
(R182). -/
def State.holdBerths (s : State) : State :=
  let t := allBerths.foldl
    (fun t n =>
      let st := t.get (F.BERTH_STAT_STATE n)
      if t.on (F.BERTH_CFG_EN n) && (st == 2 || st == 3 || st == 4) then t.put (F.BERTH_STAT_STATE n) 6 else t) s
  let u := (t.gnss.berths.map (·.1)).foldl (fun u n => if u.get (F.BERTH_STAT_STATE n) == 6 then u.atQuiet n else u) t
  ((u.withGnss fun g => { g with window := false }).deriveMode).rfClocks false

/-- The epoch instant (R191, R215): the end of the burst window, or the last whole multiple of the epoch period, the next
one where that has had its epoch. -/
def State.instant (s : State) : Nat :=
  if s.bursts then s.gnss.tw + s.get F.GNSS_BURST_WINDOW * tideOne / 1000
  else
    let r := max 1 s.gnss.rate
    let k := s.tide.now * r / tideOne
    if s.gnss.epoch.isSome ∧ s.gnss.te = k * tideOne / r then (k + 1) * tideOne / r else k * tideOne / r

/-- Whether an epoch instant may come: a mode that makes epochs, no epoch open, XTAL-G not failed (R393). -/
def State.mayInstant (s : State) : Bool :=
  (if s.bursts then s.gnss.window else s.continuous) && !s.gnss.opened && s.get F.CLK_STAT_XTALG != 3

/-- EPOCH_INSTANT (R215, R216, R220 step 1, R256), to which the time passes: the header, then every
entry in berth order. An epoch with an entry in bond
takes a checkpoint of the provisional branch (R206). -/
def State.epochInstant (s : State) (meas : List Meas) (flat : List Nat) : State :=
  if !s.mayInstant then s
  else
    let e := s.nextEpoch
    let te := s.instant
    let s := s.passTo te
    let list := s.gather e te meas
    let head := [10 * 2 ^ 28 + bit s.gnss.lost * 2 ^ 27 + s.mode * 2 ^ 24 + s.get F.TIDE_STAT_STATE * 2 ^ 16 + e,
      te / tideOne % 2 ^ 32, te % tideOne / 2 ^ 24, list.length + (if s.bursts then s.get F.TIDE_ALIGN_ALIGN * 65536 else 0)]
    let keep := fun (x : Entry) => x.bond || some x.epoch == s.gnss.closed.map (·.1)
    let s1 := (s.spendN 512).withGnss fun g =>
      { g with epoch := some e, te := te, opened := true,
               entries := g.entries.filter keep ++ list.map (·.1)
               checks := if list.any fun x => x.1.bond then g.checks ++ [e] else g.checks }
    let s2 := (s1.endBases meas).reportDepth
    let records := head :: list.flatMap fun x => x.1.records x.2.1 x.2.2
    let s3 := s2.measPut e 32 records
    let s4 := if s2.on F.MEASQ_CFG_EN && decide (records.length + 32 ≤ s2.measFree) then
        s3.withGnss fun g => { g with lost := false } else s3
    let s5 := s4.jamming flat
    if s5.bursts then s5.holdBerths else s5

/-- EPOCH_INSTANT. -/
def execEpochInstant (meas : List Meas) (flat : List Nat) (s : State) : Host.Outcome State Fault Refusal :=
  .next (s.epochInstant meas flat)

/-- The fate of a berth at a close (R198): at a burst's close a start that is not cleared is refused, whether or not it made
an entry, but a partner's sweep runs on; a start at its limit of entries that is not cleared is refused; so are entries that
hold a failed symbol. -/
def State.closeBerth (s : State) (e n : Nat) : State :=
  let b := s.berth n
  let s1 := if b.kind.isNone then s
    else if s.bursts && !b.cleared && b.dwell.isNone then s.refuseStart n 1 6
    else if b.fail = 5 && !b.cleared then s.refuseStart n 5 s.afterRefusal
    else s
  let bad := s1.gnss.entries.filter fun x => x.bond && x.berth == n && x.epoch == e && x.fail != 0
  if bad.isEmpty then s1
  else s1.retract n bad ((bad.map (·.fail)).headD 0)

/-- The entries of an epoch whose start is cleared leave bond (R198). -/
def State.clearEntries (s : State) (e : Nat) : State :=
  s.modEntries (fun x => x.bond && x.epoch == e && (s.berth x.berth).cleared && (s.berth x.berth).serial == x.serial)
    fun x => { x with bond := false }

/-- The hold records of a close (R220 step 3, R223). -/
def State.holdRecords (s : State) (e : Nat) : State :=
  (List.range 256).foldl
    (fun t n =>
      let es := t.bonded n
      match es.head? with
      | some a => t.measPut e 0 [settleWords 3 a.sig n a.epoch a.sys a.svn e 0 es.length t.tideSec t.tideFrac]
      | none => t) s

/-- EPOCH_CLOSE (R198, R203, R220, R223): refusals, hold records, the close record, GNSS_EPOCH; the
solution is then to come. -/
def State.epochClose (s : State) : State :=
  match s.gnss.opened, s.gnss.epoch with
  | true, some e =>
    let s1 := (List.range 256).foldl (fun t n => t.closeBerth e n) s
    let s2 := (s1.clearEntries e).holdRecords e
    let mine := s2.gnss.entries.filter fun x => x.epoch == e
    let pend := (mine.filter (·.bond)).length
    let ref := (mine.filter (·.refused)).length
    let clear := mine.length - pend - ref
    let s3 := s2.measPut e 0 [[11 * 2 ^ 28 + e, clear + ref * 2 ^ 16, pend, 0]]
    let s4 := (s3.put F.MEASQ_STAT_LAST e).withGnss fun g =>
      let kept := g.entries.filter fun x => x.bond || x.epoch == e
      { g with opened := false, solving := true, closed := some (e, g.te), entries := kept }
    (s4.raiseK Src.GNSS_EPOCH e (clear + ref * 2 ^ 16)
      [("EPOCH", Text.dec e), ("NCLEAR", Text.dec clear), ("NREF", Text.dec ref)]).fire 22
  | _, _ => s

/-- EPOCH_CLOSE. -/
def execEpochClose (s : State) : Host.Outcome State Fault Refusal := .next s.epochClose

/-- Whether one ms of a clearing monitor meets the counted conditions (R197), with the ms before it, if it counts one: the
power of the trailing 2 ms, and the means of the discriminators over 2 ms. -/
def State.clearMs (s : State) (n : Nat) (x : ClearMs) (was : Option ClearMs) : Bool :=
  let p := was.getD x
  decide (5 * s.get (F.BERTH_LOCK_LOCK_THR n) ≤ 2 * x.cn0) &&
    decide ((x.code + p.code).natAbs ≤ 2 * s.get F.SILLAGE_LIM_CODE_TOL) &&
    decide ((x.carr + p.carr).natAbs ≤ 2 * s.get F.SILLAGE_LIM_CARR_TOL)

/-- Whether the counted conditions have held for the last CLEAR_MS of `trail`, the ms of a start since it entered TRACK, oldest
first (R197). The symbols and words need no count: one that fails refuses a start that is not cleared (R200). -/
def State.clearHeld (s : State) (n : Nat) (trail : List ClearMs) : Bool :=
  let pairs := trail.zip (none :: trail.map some)
  let k := s.get F.SILLAGE_CFG_CLEAR_MS
  decide (k ≤ trail.length) && (pairs.drop (pairs.length - k)).all fun p => s.clearMs n p.1 p.2

/-- START_CLEARED (R197, R202): a start in TRACK whose conditions have held; BOC_OK gates a BOC berth; entries of closed epochs
clear late, in one record. -/
def State.clearStart (s : State) (n : Nat) (trail : List ClearMs) : State :=
  let b := s.berth n
  if b.kind.isNone || b.cleared || s.get (F.BERTH_STAT_STATE n) != 4 || !s.clearHeld n trail ||
      (s.on (F.BERTH_CFG_BOC n) && !s.on (F.BERTH_STAT_BOC_OK n)) then s
  else
    let isOpen := fun (e : Entry) => s.gnss.opened && some e.epoch == s.gnss.epoch
    let late := (s.bonded n).filter fun e => !isOpen e && e.fail == 0
    let s1 := (s.modBerth n fun b => { b with cleared := true, refused := 0 }).count F.SILLAGE_CNT_CLEARED
    let s2 := (s1.showBond n).settleUnits n b.serial 0
    if late.isEmpty then s2
    else (s2.settleRecord true n late 0).modEntries (fun e => late.contains e) fun e => { e with bond := false }

/-- START_CLEARED. -/
def execStartCleared (n : Fin 256) (trail : List ClearMs) (s : State) : Host.Outcome State Fault Refusal :=
  .next (s.clearStart n trail)

/-- START_DEADLINE (R198, R203): a continuous-mode start is not cleared within START_DL, to whose end the time passes. -/
def execStartDeadline (n : Fin 256) (s : State) : Host.Outcome State Fault Refusal :=
  .next <|
    let b := s.berth n
    if s.continuous && !b.cleared then
      (s.passTo (b.startAt + s.get F.SILLAGE_CFG_START_DL * tideOne / 10)).refuseStart n 4 5
    else s

/-- SILLAGE_PSEL_WRITE (R213). -/
def execSillagePselWrite (side : Side) (n : BitVec 8) (s : State) : Host.Outcome State Fault Refusal :=
  .next (s.guard .sillage 0x30 side true fun t => (t.put F.SILLAGE_PSEL_BERTH n.toNat).showPrediction)

end Sys2Proof.Machine
end

