-- ==== Sys2Proof/Machine/Nav.lean ====
section
/-! DEFINITION. Navigation symbols and units, the bit log, the rings' indices, and OSNMA (R113 to R115, R199 to R201, R210,
R228 to R232, R247, R248). -/

namespace Sys2Proof.Machine

/-- The words of a unit's data (R230): bits in transmission order from bit 31 of word 4 on, unused bits 0. -/
def unitWords (bits data : Nat) : List Nat :=
  let n := 4 * (unitBlocks bits - 1)
  let v := data % 2 ^ bits * 2 ^ (32 * n - bits)
  (List.range n).map fun j => v / 2 ^ (32 * (n - 1 - j)) % 2 ^ 32

/-- A unit's record as words (R230). -/
def LoggedUnit.words (r : LoggedUnit) : List Nat :=
  [r.sig * 2 ^ 24 + r.berth * 2 ^ 16 + r.epoch, r.word1, r.u.sec.toNat, r.u.frac.toNat] ++
    unitWords (LoggedUnit.bits r.u.unit) r.u.data

/-- The free blocks of the bit log: the next may not reach BITLOG_TAIL. -/
def State.bitFree (s : State) : Nat :=
  let n := 2 ^ s.gnss.bitlog.2
  (s.get F.BITLOG_TAIL_IDX + n - s.get F.BITLOG_HEAD_IDX % n - 1) % n

/-- Write blocks into the bit log at its head. -/
def State.bitBlocks (s : State) : List Nat → Nat → State
  | _, 0 => s
  | w, k + 1 =>
    let h := s.get F.BITLOG_HEAD_IDX
    ((s.writeBlock (s.gnss.bitlog.1 + h) (wordBytes (w.take 4))).put F.BITLOG_HEAD_IDX ((h + 1) % 2 ^ s.gnss.bitlog.2)).bitBlocks
      (w.drop 4) k

/-- Pad blocks up to the end of the ring (R232). -/
def State.bitPad (s : State) : Nat → State
  | 0 => s
  | k + 1 => (s.bitBlocks [0, 15 * 256 + 1, 0, 0] 1).bitPad k

/-- The units whose record begins in the `k` blocks from `h` on are no longer in the bit log. -/
def State.dropUnits (s : State) (h k : Nat) : State :=
  let n := 2 ^ s.gnss.bitlog.2
  s.withGnss fun g => { g with units := g.units.map fun u =>
    { u with index := u.index.filter fun i => decide (k ≤ (i + n - h % n) % n) } }

/-- Write a unit to the bit log, or drop it (R232); the place of its record. -/
def State.logUnit (s : State) (r : LoggedUnit) : State × Option Nat :=
  if !s.on F.BITLOG_CFG_EN then (s, none)
  else
    let n := 2 ^ s.gnss.bitlog.2
    let h := s.get F.BITLOG_HEAD_IDX
    let k := unitBlocks (LoggedUnit.bits r.u.unit)
    let pad := if h + k ≤ n then 0 else n - h
    if pad + k ≤ s.bitFree then
      let s1 := (s.dropUnits h (pad + k)).bitPad pad
      (s1.bitBlocks r.words k, some (s1.get F.BITLOG_HEAD_IDX))
    else
      ((s.count F.BITLOG_STAT_DROPPED).raiseK Src.BITLOG_DROP (r.berth + r.sig * 256 + r.u.unit * 4096) 0
        [("BERTH", Text.dec r.berth), ("SIG", Sig.name r.sig), ("UNIT", Text.dec r.u.unit)], none)

/-- The units kept: those whose fate is open, and the last five of each satellite's signal (R246). -/
def keepUnits : List LoggedUnit → List LoggedUnit
  | [] => []
  | r :: l =>
    let rest := keepUnits l
    if r.st == 1 || decide ((rest.filter fun x => x.sig == r.sig && x.svn == r.svn).length < 5) then r :: rest else rest

/-- Put a cleared unit into the ephemeris and almanac store, in the place of an equal one. -/
def storeUnit (l : List LoggedUnit) (r : LoggedUnit) : List LoggedUnit :=
  (l.filter fun x => !(x.sys == r.sys && x.svn == r.svn && x.u.unit == r.u.unit && x.u.data == r.u.data)) ++ [r]

/-- The units that a signal carries (R229). -/
def unitsOf : Nat → List Nat := fun g =>
  [[0], [4, 5, 6], [3], [7], [8], [2], [9, 10, 11], [12], [1], [0], [4, 5, 6], [3], [13], [14]].getD g []

/-- Whether the decoder of a signal makes a unit (R229): one of its message, corrected only where its check corrects. -/
def NavUnit.ofSignal (u : NavUnit) (g : Nat) : Bool :=
  (unitsOf g).contains u.unit.val && (u.chk != 3 || [1, 2, 4, 9].contains u.unit.val)

/-- Failed symbols, `k` of a word (R200, R201): they refuse a start that is not cleared, and otherwise the unsettled results
whose basis holds them, which are those from epoch `first` on; the signal's symbols are masked until the word is decoded
afresh. -/
def State.symbolFails (s : State) (n cause first word k : Nat) : State :=
  let b := s.berth n
  let s1 := ((s.countBy F.SILLAGE_CNT_BITFAIL k).modBerth n fun b => { b with masked := some word }).raise0 Src.SILLAGE_BIT_FAIL
  if !b.cleared then s1.refuseStart n cause s1.afterRefusal
  else
    let isOpen := fun (e : Entry) => s1.gnss.opened && some e.epoch == s1.gnss.epoch
    let hit := (s1.bonded n).filter fun e => epochFrom e.epoch first
    let now := hit.filter fun e => !isOpen e
    let later := hit.filter isOpen
    let s2 := s1.modEntries (fun e => later.contains e) fun e => { e with fail := cause }
    let s3 := if now.isEmpty then s2 else s2.retract n now cause
    s3.modBerth n fun b => { b with fail := cause }

/-- A demodulated symbol against its prediction (R199): `at_` is the Tide time of its middle, before which a start has not
correlated half of it. A symbol that straddles tE lies in the basis in which it is demodulated (DESIGN CHOICE). -/
def State.checkSymbol (s : State) (n : Nat) (d : Bool) (at_ word : Nat) : State :=
  let b := s.berth n
  match s.predSym n at_ with
  | some p =>
    if b.kind.isNone || at_ < b.startAt then s
    else
      let b1 := { b with direct := b.direct && d == p, inverse := b.inverse && d != p }
      let s1 := s.setBerth n b1
      let ok := if s.on (F.BERTH_STAT_HALF n) then b1.direct || b1.inverse else d == p
      if ok then s1 else s1.symbolFails n 2 s.nextEpoch word 1
  | none => s

/-- A completed unit (R200, R204, R229 to R231). -/
def State.decodeUnit (s : State) (n : Fin 256) (u : NavUnit) : State :=
  let b := s.berth n
  let r : LoggedUnit :=
    { berth := n, serial := b.serial, sig := s.get (F.BERTH_CFG_SIG n), sys := s.berthSys n, svn := s.get (F.BERTH_CFG_SVN n),
      k := s.get (F.BERTH_CFG_GLO_K n), epoch := s.nextEpoch, index := none, st := if b.cleared then 0 else 1, u := u }
  if !u.ofSignal r.sig then s
  else
    let lu := s.logUnit r
    let r1 := { r with index := lu.2 }
    let good := u.chk == 0 || u.chk == 3
    let s2 := (lu.1.withGnss fun g =>
      { g with units := keepUnits (g.units ++ [r1]), store := if r1.enters then storeUnit g.store r1 else g.store }).modBerth n
        fun b => { b with passed := b.passed && good, masked := if r1.enters && b.masked == some u.word then none else b.masked }
    if u.chk = 1 ∧ u.symbols ≠ 0 then s2.symbolFails n 3 u.first.toNat u.word u.symbols else s2

/-- The polarity of a data-only signal is settled (R228): `inverted` adds half a cycle from now on. -/
def State.settlePolarity (s : State) (n : Nat) (inverted : Bool) : State :=
  if Sig.pair (s.get (F.BERTH_CFG_SIG n)) || !s.on (F.BERTH_STAT_HALF n) then s
  else (s.put (F.BERTH_STAT_HALF n) 0).modBerth n fun b => { b with hadj := inverted }

/-- A preamble or synchronisation word is found (R228): with the one before it, one frame earlier (`framed`) and of the same
polarity, and every word between them passing, it settles the polarity. -/
def State.findPreamble (s : State) (n : Nat) (inverted framed : Bool) : State :=
  let b := s.berth n
  let t := if framed && b.preamble == some inverted && b.passed then s.settlePolarity n inverted else s
  t.modBerth n fun b => { b with preamble := some inverted, passed := true }

/-- PD_DUMP (R92, R166, R199, R228, R229): the sums of a pair's PD arm, which a data-only signal leaves idle; the symbol
demodulated, with the Tide time of its middle and its word; a unit that is complete; a preamble found, inverted or not, one
frame after the last or not. Only console-owned berths feed the decoder (R183). -/
def State.pdDump (s : State) (n : Fin 256) (i q : Word) (sym : Option (Bool × Nat × Nat)) (unit : Option NavUnit)
    (preamble : Option (Bool × Bool)) : State :=
  let st := s.get (F.BERTH_STAT_STATE n)
  let g := s.get (F.BERTH_CFG_SIG n)
  if !s.on (F.BERTH_CFG_EN n) || (st != 2 && st != 4) || !s.bandRuns (Sig.band g) then s
  else
    let s1 := if Sig.pair g then
        s.modBerth n fun b => { b with accs := (b.accs ++ List.replicate 10 0).take 10 ++ [i.toNat, q.toNat] }
      else s
    if !s1.consoleBerth n then s1
    else
      let s2 := match sym with | some (d, at_, w) => s1.checkSymbol n d at_ w | none => s1
      let s3 := match unit with
        | some u => if (s2.berth n).kind.isSome then s2.decodeUnit n u else s2
        | none => s2
      match preamble with
      | some (p, framed) => if (s3.berth n).kind.isSome then s3.findPreamble n p framed else s3
      | none => s3

/-- PD_DUMP. -/
def execPdDump (n : Fin 256) (i q : Word) (sym : Option (Bool × Nat × Nat)) (unit : Option NavUnit)
    (preamble : Option (Bool × Bool)) (s : State) : Host.Outcome State Fault Refusal := .next (s.pdDump n i q sym unit preamble)

/-- A tail is written, by either side, never counted (R247): a value beyond the ring leaves it unchanged. -/
def State.writeTail (s : State) (bitlog : Bool) (v : Nat) : State :=
  if bitlog then if v < 2 ^ s.gnss.bitlog.2 then s.put F.BITLOG_TAIL_IDX v else s
  else if v < 2 ^ s.gnss.measq.2 then s.put F.MEASQ_TAIL_IDX v else s

/-- MEASQ_TAIL_WRITE. -/
def execMeasqTailWrite (value : BitVec 12) (s : State) : Host.Outcome State Fault Refusal :=
  .next (s.writeTail false value.toNat)

/-- BITLOG_TAIL_WRITE. -/
def execBitlogTailWrite (value : BitVec 12) (s : State) : Host.Outcome State Fault Refusal :=
  .next (s.writeTail true value.toNat)

/-- RING_RECONFIGURE (R247): at the block's quiet point a change of BASE or SIZE takes effect and empties the ring. -/
def execRingReconfigure (bitlog : Bool) (s : State) : Host.Outcome State Fault Refusal :=
  .next <|
    if s.gnss.opened || s.gnss.solving then s
    else if bitlog then
      let new := (s.get F.BITLOG_BASE_ADDR, s.get F.BITLOG_CFG_SIZE)
      if new = s.gnss.bitlog then s
      else ((s.initRing new.1 new.2).withGnss fun g => { g with bitlog := new, units := g.units.map fun u => { u with index := none } }).puts
        [(F.BITLOG_HEAD_IDX, 0), (F.BITLOG_TAIL_IDX, 0)]
    else
      let new := (s.get F.MEASQ_BASE_ADDR, s.get F.MEASQ_CFG_SIZE)
      if new = s.gnss.measq then s
      else ((s.initRing new.1 new.2).withGnss fun g => { g with measq := new }).puts [(F.MEASQ_HEAD_IDX, 0), (F.MEASQ_TAIL_IDX, 0)]

/-- Whether the condition of R114 holds. -/
def State.timeKnown (s : State) : Bool := decide (s.tide.err < 15000000000) && (s.tide.disc || s.tide.fromRtc)

/-- OSNMA is processed: enabled, and not in HERITAGE (R97, R116). -/
def State.osnmaOn (s : State) : Bool := s.on F.GNSS_OSNMA_EN && s.mode != 6

/-- The Galileo ephemeris of an issue of data is held, from cleared words (R210). -/
def State.dataSetHeld (s : State) (svn iod : Nat) : Bool :=
  s.gnss.store.any fun r => r.u.kind == .ephemeris && r.sys == 1 && r.svn == svn && r.u.iod == iod

/-- The state that a tag gives its data set (R113, R210): a verdict needs a verified P-256 key and chain key, and for ADKD 0
and 12 the data set itself; until then it is pending. -/
def State.tagState (s : State) (t : TagResult) : AuthState :=
  if s.on F.GNSS_OSNMA_KEY_OK && s.on F.GNSS_OSNMA_CHAIN_OK && (t.adkd == 4 || s.dataSetHeld t.svn.toNat t.iod) then t.state
  else if t.state = .none then .none else .pending

/-- A data set's state is recorded (R113, R115), of the kinds of data that are supported. -/
def State.authenticate (s : State) (t : TagResult) : State :=
  if [0, 4, 12].contains t.adkd then
    s.withGnss fun g =>
      { g with osnma := (g.osnma.filter fun p => !(p.svn == t.svn && p.adkd == t.adkd && p.iod == t.iod)) ++
          [{ t with state := s.tagState t }] }
  else s

/-- OSNMA_TAG_CHECK (R113 to R115, R609): the results of a subframe's tags, the counts verified and failed, what was learned
of the public key (true: a P-256 key verified; false: it is P-521), and whether the chain key is verified. Without a known
time the tags are held; once it is known, those held are taken first. Under a P-521 key nothing is authenticated. -/
def State.checkTags (s : State) (tags : List TagResult) (verified failed : Nat) (key : Option Bool) (chain : Bool) : State :=
  if !s.osnmaOn then s
  else
    let s1 := match key with
      | some true =>
        let t := s.puts [(F.GNSS_OSNMA_KEY_OK, 1), (F.GNSS_OSNMA_KEY_P521, 0)]
        if s.on F.GNSS_OSNMA_KEY_OK then t else t.raise0 Src.GNSS_OSNMA_KEY
      | some false => s.puts [(F.GNSS_OSNMA_KEY_OK, 0), (F.GNSS_OSNMA_KEY_P521, 1)]
      | none => s
    if !s1.timeKnown then s1.withGnss fun g => { g with tags := g.tags ++ tags }
    else if s1.on F.GNSS_OSNMA_KEY_P521 then s1
    else
      let s2 := (s1.withGnss fun g => { g with tags := [] }).flag F.GNSS_OSNMA_CHAIN_OK chain
      let s3 := (s1.gnss.tags ++ tags).foldl State.authenticate s2
      let s4 := s3.raise Src.CRYPTO_OSNMA (verified % 256 + failed % 256 * 256) 0
      if failed = 0 then s4 else s4.raise0 Src.GNSS_OSNMA_FAIL

/-- OSNMA_TAG_CHECK. -/
def execOsnmaTagCheck (tags : List TagResult) (verified failed : BitVec 8) (key : Option Bool) (chain : Bool) (s : State) :
    Host.Outcome State Fault Refusal := .next (s.checkTags tags verified.toNat failed.toNat key chain)

/-- OSNMA_TAG_EXPIRY (R114): tags held for 300 s are dropped. -/
def execOsnmaTagExpiry (s : State) : Host.Outcome State Fault Refusal := .next (s.withGnss fun g => { g with tags := [] })

/-- The line of a unit (R246). -/
def LoggedUnit.line (r : LoggedUnit) : String :=
  let chk := Name.pick ["PASS", "FAIL", "INC", "CORR"] r.u.chk
  let hex := String.ofList ((unitWords (LoggedUnit.bits r.u.unit) r.u.data).flatMap fun w => Text.hexChars 8 w)
  "BITS " ++ satName r.sys r.svn ++ " " ++ Sig.name r.sig ++ " T=" ++ tideText r.u.sec.toNat r.u.frac.toNat ++ " UNIT=" ++
    Text.dec r.u.unit ++ " CHK=" ++ chk ++ " ST=" ++ Name.pick ["C", "B", "R"] r.st ++ " " ++
    String.ofList (hex.toList.take ((LoggedUnit.bits r.u.unit + 3) / 4))

/-- BITS_QUERY (R246): up to five units of a satellite's signal, newest last; in HERITAGE no signal of RFL5 (R86). -/
def execBitsQuery (x : Sess) (v : Sv) (sig : Fin 14) (s : State) : Host.Outcome State Fault Refusal :=
  .next <| s.run x { query := true, heritage := true } fun t =>
    if t.console.heritage && Sig.band sig == 4 then t.er x 230
    else
      let l := t.gnss.units.filter fun r => r.sig == sig.val && r.sys == v.sys.val && r.svn == v.svn.toNat
      (t.replies x ((l.drop (l.length - 5)).map (·.line))).ok x

end Sys2Proof.Machine
end

