-- ==== Sys2Proof/Machine/Nmea.lean ====
section
/-! DEFINITION. NMEA 0183 and `$POLX` sentences (R242 to R245). -/

namespace Sys2Proof.Machine

namespace Nmea

/-- The integer square root, by `f` binary digits from the top. -/
def root : Nat → Nat → Nat → Nat
  | 0, _, r => r
  | f + 1, n, r => let t := r + 2 ^ f; root f n (if t * t ≤ n then t else r)

/-- The square root rounded down, below 2^40. -/
def sqrt (n : Nat) : Nat := root 40 n 0

/-- A sentence with its checksum. -/
def sentence (body : String) : String :=
  "$" ++ body ++ "*" ++ Text.hex 2 (body.toList.foldl (fun a c => a ^^^ c.toNat % 256) 0)

/-- The fields of a sentence, with commas. -/
def join (l : List String) : String := sentence (Text.sep "," l)

/-- The talker of a system; SBAS counts as GPS (R242, R244). -/
def talker : Nat → String := Name.pick ["GP", "GA", "GB", "GL", "GQ", "GI", "GP"]

/-- The system ID of GSA (R244). -/
def systemId (sys : Nat) : Nat := [1, 3, 4, 2, 5, 6, 1].getD sys 0

/-- A satellite's ID (R244). -/
def satId (sys svn : Nat) : Nat :=
  if sys = 3 then svn + 64 else if sys = 4 then svn - 192 else if sys = 6 ∧ svn ≤ 151 then svn - 87 else svn

/-- The signal ID of GSV, if the signal is reported (R244). -/
def signalId (g : Nat) : Option Nat :=
  [some 1, none, some 8, some 7, some 1, some 1, some 3, some 5, some 1, some 1, none, some 8, some 1, some 1].getD g none

/-- hhmmss.ss from hundredths of a second since 2000-01-01. -/
def time (c : Nat) : String :=
  let d := Cal.dateOf (c / 100)
  Text.pad 2 d.hour ++ Text.pad 2 d.minute ++ Text.pad 2 d.second ++ "." ++ Text.pad 2 (c % 100)

/-- An angle in 10^-7 degree as degrees of `w` digits and minutes, with its letter. -/
def angle (w : Nat) (v : Int) (pos neg : String) : List String :=
  let m := (v.natAbs * 60 + 50) / 100
  [Text.pad w (m / 6000000) ++ Text.pad 2 (m % 6000000 / 100000) ++ "." ++ Text.pad 5 (m % 100000), if v < 0 then neg else pos]

end Nmea

/-- What the sentences of an epoch show: the epoch, its type, whether SBAS was applied, the satellites used by system and
number, UTC in hundredths of a second since 2000-01-01 if known, the solution and the figures of `$POLX`. -/
structure Shown where
  epoch : Nat
  ftype : Nat
  sbas : Bool
  used : List (Nat × Nat)
  utc : Option Nat
  f : Solution
  ngal : Nat
  nauth : Nat
  excl : Nat
  week : Nat
  tow : Nat
  te : Nat
  latency : Nat

/-- The number of satellites used. -/
def Shown.nsv (v : Shown) : Nat := v.used.length

/-- The systems, SBAS as GPS, in the order of their codes. -/
def mergeSystems (l : List Nat) : List Nat := (List.range 6).filter fun k => l.contains k || (k == 0 && l.contains 6)

/-- The talker of the common sentences (R242). -/
def State.fixTalker (s : State) (v : Shown) : String :=
  let l := if v.ftype = 0 then mergeSystems ((List.range 7).filter s.sysOn) else mergeSystems (v.used.map (·.1))
  match l with
  | [k] => Nmea.talker k
  | [] => "GP"
  | _ => "GN"

def Shown.time (v : Shown) : String := match v.utc with | some c => Nmea.time c | none => ""

/-- The position fields, empty without a fix. -/
def Shown.place (v : Shown) : List String :=
  if v.ftype = 0 then ["", "", "", ""] else Nmea.angle 2 v.f.lat "N" "S" ++ Nmea.angle 3 v.f.lon "E" "W"

/-- The mode letter of RMC and VTG. -/
def Shown.mode (v : Shown) : String := if v.ftype < 2 then "N" else if v.sbas then "D" else "A"

/-- The squared horizontal speed in (cm/s)^2. -/
def Shown.speed2 (v : Shown) : Nat := v.f.vn.natAbs ^ 2 + v.f.ve.natAbs ^ 2

/-- Speed in units of which one cm/s makes `num / den`, rounded to 0.01. -/
def Shown.speed (v : Shown) (num den : Nat) : String :=
  if v.ftype = 0 then "" else Text.fixed 2 ((Nmea.sqrt (4 * v.speed2 * num ^ 2) / den + 1) / 2 : Nat)

def Shown.knots (v : Shown) : String := v.speed 3600 1852
def Shown.kmh (v : Shown) : String := v.speed 36 10

/-- The course, empty below 0.1 m/s. -/
def Shown.course (v : Shown) : String := if v.ftype = 0 ∨ v.speed2 < 100 then "" else Text.fixed 2 v.f.course

def Shown.hdop (v : Shown) : String := if v.ftype = 0 then "" else Text.fixed 1 ((v.f.hdop + 5) / 10 : Nat)

/-- Altitude above the geoid and geoid height, to 0.1 m. -/
def Shown.heights (v : Shown) : String × String :=
  if v.ftype = 0 then ("", "") else (Text.fixed 1 (roundDiv (v.f.hgt - 100 * v.f.geoid) 100), Text.fixed 1 v.f.geoid)

def Shown.gga (v : Shown) (tk : String) : String :=
  Nmea.join ([tk ++ "GGA", v.time] ++ v.place ++
    [if v.ftype < 2 then "0" else if v.sbas then "2" else "1", Text.pad 2 (min 99 v.nsv), v.hdop, v.heights.1, "M", v.heights.2, "M",
      "", ""])

def Shown.rmc (v : Shown) (tk : String) : String :=
  let date := match v.utc with
    | some c => let d := Cal.dateOf (c / 100); Text.pad 2 d.day ++ Text.pad 2 d.month ++ Text.pad 2 (d.year % 100)
    | none => ""
  Nmea.join ([tk ++ "RMC", v.time, if v.ftype < 2 then "V" else "A"] ++ v.place ++ [v.knots, v.course, date, "", "", v.mode, "V"])

def Shown.gns (v : Shown) (tk : String) : String :=
  let one := fun k =>
    if v.ftype < 2 || !(mergeSystems (v.used.map (·.1))).contains k then "N" else if v.sbas then "D" else "A"
  Nmea.join ([tk ++ "GNS", v.time] ++ v.place ++
    [one 0 ++ one 3 ++ one 1 ++ one 2 ++ one 4 ++ one 5, Text.pad 2 (min 99 v.nsv), v.hdop, v.heights.1, v.heights.2, "", "", "V"])

/-- A list in pieces of `n`, at most `f` of them. -/
def pieces {α : Type} (n : Nat) : Nat → List α → List (List α)
  | 0, _ => []
  | f + 1, l => if l.isEmpty then [] else l.take n :: pieces n f (l.drop n)

def Shown.gsa (v : Shown) : List String :=
  let dop := fun (n : Nat) => Text.fixed 2 n
  (mergeSystems (v.used.map (·.1))).flatMap fun k =>
    let sats := (v.used.filter fun p => p.1 == k || (k == 0 && p.1 == 6)).map fun p => Text.pad 2 (Nmea.satId p.1 p.2)
    (pieces 12 11 sats).map fun l =>
      Nmea.join ([Nmea.talker k ++ "GSA", "A", if v.ftype < 2 then "1" else Text.dec v.ftype] ++ l ++
        List.replicate (12 - l.length) "" ++ [dop v.f.pdop, dop v.f.hdop, dop v.f.vdop, Text.dec (Nmea.systemId k)])

/-- The satellites of the plan with a signal: ID, elevation, azimuth and SNR, empty unless a result is cleared (R204). -/
def State.gsvOf (s : State) (e g : Nat) : List String :=
  ((List.range 128).filter fun i =>
    s.slotUsed i && [0, 1, 2].any fun j => s.get (F.PLAN_SLOT_A_SIG i j) == g).map fun i =>
      let sys := s.get (F.PLAN_SLOT_SV_SYS i)
      let svn := s.get (F.PLAN_SLOT_SV_SVN i)
      let snr := match s.gnss.entries.find? fun x =>
          x.epoch == e && x.sig == g && x.sys == sys && x.svn == svn && !x.bond && !x.refused with
        | some x => Text.pad 2 ((x.cn0 + 5) / 10)
        | none => ""
      Text.sep "," [Text.pad 2 (Nmea.satId sys svn), Text.int (s.getS (F.PLAN_SLOT_SV_EL i)),
        Text.pad 3 (2 * s.get (F.PLAN_SLOT_SV_AZ i)), snr]

/-- The GSV sentences: one group for each talker and signal ID, GPS with SBAS in one (R244). -/
def State.gsv (s : State) (e : Nat) : List String :=
  let groups : List (List Nat) := [[0, 13], [2], [8], [3], [4], [5], [6], [7], [9], [11], [12]]
  groups.flatMap fun gs =>
    let sats := gs.flatMap fun g => s.gsvOf e g
    let g := gs.headD 0
    let ps := pieces 4 64 sats
    ps.zipIdx.map fun (l, i) =>
      Nmea.join ([Nmea.talker (Sig.sys g) ++ "GSV", Text.dec ps.length, Text.dec (i + 1), Text.pad 2 sats.length] ++ l ++
        [Text.dec ((Nmea.signalId g).getD 0)])

def Shown.vtg (v : Shown) (tk : String) : String :=
  Nmea.join [tk ++ "VTG", v.course, "T", "", "M", v.knots, "N", v.kmh, "K", v.mode]

def Shown.zda (v : Shown) (tk : String) : List String :=
  match v.utc with
  | some c =>
    let d := Cal.dateOf (c / 100)
    if v.ftype = 0 then []
    else [Nmea.join [tk ++ "ZDA", v.time, Text.pad 2 d.day, Text.pad 2 d.month, Text.pad 4 d.year, "00", "00"]]
  | none => []

def Shown.gst (v : Shown) (tk : String) : String :=
  let at_ := fun (d i : Nat) => if v.ftype = 0 then "" else Text.fixed d (v.f.gst.getD i 0 : Nat)
  Nmea.join [tk ++ "GST", v.time, at_ 2 0, at_ 2 1, at_ 2 2, at_ 1 3, at_ 2 4, at_ 2 5, at_ 2 6]

/-- `$POLX,00` (R245). -/
def Shown.polx0 (v : Shown) : String :=
  let all := 1 ≤ v.nsv ∧ v.nauth = v.ngal ∧ v.ngal = v.nsv
  Nmea.join ["POLX", "00", Text.dec v.epoch, Text.dec v.ftype, Text.dec v.nsv, Text.dec v.ngal, Text.dec v.nauth,
    if all then "A" else if 1 ≤ v.nauth then "P" else "N", Text.fixed 2 (if v.ftype = 0 then 0 else v.f.hacc : Nat),
    Text.fixed 2 (if v.ftype = 0 then 0 else v.f.vacc : Nat), Text.fixed 1 (v.latency : Nat), Text.dec v.excl]

/-- `$POLX,01` (R245). -/
def State.polx1 (s : State) (v : Shown) : String :=
  Nmea.join ["POLX", "01", tideText (v.te / tideOne) (v.te % tideOne / 2 ^ 24), tideScale (s.get F.TIDE_CFG_SCALE),
    Name.pick ["N", "L", "H"] (s.get F.TIDE_STAT_STATE), Text.dec (if s.get F.TIDE_STAT_STATE = 2 then s.get F.TIDE_STAT_AGE else 0),
    Text.dec (s.get F.TIDE_ERR_ERR), Text.int (s.getS F.TIDE_LEAP_CUR), Text.dec v.week, Text.fixed 3 v.tow]

/-- `$POLX,02` (R245, R256): of each band as it was at tE; the fields of a band that was off are empty. -/
def State.polx2 (s : State) : String :=
  let of := fun b t => if (s.band b).on then t else ""
  let one := fun (f : Nat → String) => [of 0 (f 0), of 1 (f 1)]
  Nmea.join (["POLX", "02"] ++ one (fun b => Text.dec (s.get (F.FRONT_JAM_J b))) ++
    one (fun b => Text.dec (s.get (F.FRONT_JAM_NACT b))) ++ one fun b => Text.fixed 1 (5 * s.get (F.FRONT_AGC_GAIN b) : Nat))

/-- The sentences of an epoch in their order, limited to the set (R242). -/
def State.sentences (s : State) (v : Shown) : List String :=
  let tk := s.fixTalker v
  let on := fun i l => if bitOf s.gnss.nmea.set i then l else []
  on 0 [v.gga tk] ++ on 1 [v.rmc tk] ++ on 2 [v.gns tk] ++ on 3 v.gsa ++ on 4 (s.gsv v.epoch) ++ on 5 [v.vtg tk] ++
    on 6 (v.zda tk) ++ on 7 [v.gst tk] ++ on 8 [v.polx0, s.polx1 v, s.polx2]

/-- Send sentences on the port of `NMEA`; UART1 takes them while the console owns it. -/
def State.sendSentences (s : State) (epoch : Nat) (l : List String) : State :=
  match s.gnss.nmea.port with
  | .uart0 => l.foldl (fun t m => t.emit .uart0 3 0 epoch .nothing m) s
  | .i2c => l.foldl (fun t m => t.emit .i2c 3 0 epoch .nothing m) s
  | .uart1 =>
    if s.owner .uart1 = .console then
      { s with console := { s.console with port1 := s.console.port1 ++ l.flatMap fun m => (m ++ crlf).toList } }
    else s

/-- The sentences of every RATE-th epoch (R242). -/
def State.nmeaOut (s : State) (v : Shown) : State :=
  if !s.gnss.nmea.on then s
  else if s.gnss.nmea.count + 1 < s.gnss.nmea.rate then
    s.withGnss fun g => { g with nmea := { g.nmea with count := g.nmea.count + 1 } }
  else (s.withGnss fun g => { g with nmea := { g.nmea with count := 0 } }).sendSentences v.epoch (s.sentences v)

/-- Facts of the NMEA commands. -/
def nmeaCmd : CmdInfo := { heritage := true }

/-- NMEA_ON_OFF (R242). -/
def execNmeaOnOff (x : Sess) (on : Bool) (port : Option NmeaPort) (s : State) : Host.Outcome State Fault Refusal :=
  .next <| s.run x nmeaCmd fun t =>
    (t.withGnss fun g => { g with nmea := { g.nmea with on := on, port := port.getD g.nmea.port, count := 0 } }).ok x

/-- NMEA_SET (R242). -/
def execNmeaSet (x : Sess) (set : BitVec 9) (s : State) : Host.Outcome State Fault Refusal :=
  .next <| s.run x nmeaCmd fun t => (t.withGnss fun g => { g with nmea := { g.nmea with set := set.toNat } }).ok x

/-- NMEA_RATE (R242). -/
def execNmeaRate (x : Sess) (n : Nat) (s : State) : Host.Outcome State Fault Refusal :=
  .next <| s.run x nmeaCmd fun t =>
    if 1 ≤ n ∧ n ≤ 60 then (t.withGnss fun g => { g with nmea := { g.nmea with rate := n, count := 0 } }).ok x else t.er x 120

end Sys2Proof.Machine
end

