-- ==== Sys2Proof/Machine/Sign.lean ====
section
/-! DEFINITION. Signing requests and the engine's operations, with the SIGN commands (R611, R612, R614 to R623). -/

namespace Sys2Proof.Machine

/-- The firmware keeps CRY powered while a request is queued or running, and derives the key before its use (R611,
R617). -/
def State.wantEngine (s : State) : State := (s.needDomain 11).deriveKey

/-- A fix request (R617): one that finds four waiting is dropped. -/
def State.queueFix (s : State) (who : SignFor) (epoch : Nat) (body : List Byte) : State :=
  if 4 ≤ s.crypto.queue.length then
    (s.count F.CRYPTO_SFSTAT_DROPPED).raise Src.SIGN_QUEUE_FULL (epoch + 1 * 2 ^ 16) 0
  else (s.setQueue (s.crypto.queue ++ [⟨who, epoch, body, none⟩])).wantEngine

/-- A fix record with FTYPE 1 or more was written (R616): one in DIV of them is queued under AUTO, unless the store's band
gates it (R370). -/
def State.autoSign (s : State) (epoch : Nat) (body : List Byte) : State :=
  let s1 := s.withCrypto fun c => { c with mirror := some (epoch, body) }
  if s.on F.CRYPTO_SFCFG_AUTO then
    let n := s.crypto.count + 1
    if n < s.get F.CRYPTO_SFCFG_DIV then s1.withCrypto fun c => { c with count := n }
    else
      let s2 := s1.withCrypto fun c => { c with count := 0 }
      if s.get F.PWR_PATH_ACT = 2 ∧ s.get F.HARV_STAT_BAND < 4 then s2 else s2.queueFix .auto epoch body
  else s1

/-- The reply of a request that ends without a signature. -/
def State.signFails (s : State) (who : SignFor) (n : Nat) : State :=
  match who with
  | .auto => s
  | .now x tag | .attest x tag _ => ((s.withTag tag).er x n).withTag ""

/-- SIGNING_START (R614, R617, R618): the request at the head of the queue. -/
def execSigningStart (s : State) : Host.Outcome State Fault Refusal :=
  .next <|
    match s.crypto.queue with
    | [] => s
    | r :: rest =>
      if s.crypto.run.isSome || s.crypto.deriving_ || s.on F.MEMCTL_WIPE_BUSY || !s.powered 11 then s
      else if !s.on F.CRYPTO_KEY_READY then s.deriveKey
      else
        let fix := match r.who with | .attest _ _ _ => false | _ => true
        if fix && !s.signRoom then
          (((s.setQueue rest).count F.CRYPTO_SFSTAT_DROPPED).raise Src.SIGN_QUEUE_FULL r.epoch 0).signFails r.who 320
        else if !ledgerGrants s (s.put F.CRYPTO_KEY_BUSY 1) then
          if fix then s.ledgerRefuse .crypto 0x38 .console
          else ((s.ledgerRefuse .crypto 0x38 .console).setQueue rest).signFails r.who 312
        else
          let q := r.sseq.getD s.crypto.sseq
          let next := if r.sseq.isSome then s.crypto.sseq else (s.crypto.sseq + 1) % 2 ^ 32
          ((s.setQueue rest).withCrypto fun c =>
            { c with run := some { r with sseq := some q, body := s.signBody r q }, sseq := next }).put F.CRYPTO_KEY_BUSY 1

/-- SIGNING_DONE (R618, R620, R622, R623). -/
def execSigningDone (s : State) : Host.Outcome State Fault Refusal :=
  .next <|
    match s.crypto.run with
    | none => s
    | some r =>
      let sig := signature r
      let q := r.sseq.getD 0
      let s1 := (s.withCrypto fun c => { c with run := none }).put F.CRYPTO_KEY_BUSY 0
      match r.who with
      | .attest x tag _ =>
        let s2 := (s1.withTag tag).replies x
          (hexLines "SIGN ATTEST S " [32, 32, 32] r.body ++ hexLines "SIGN ATTEST G " [32, 32, 32, 18] sig)
        ((s2.ok x).withTag "").raise Src.SIGN_DONE 0 q
      | who =>
        let s2 := (s1.signRecord (r.body ++ sig ++ List.replicate 46 0)).put F.CRYPTO_SFSTAT_LAST r.epoch
        let s3 := (s2.withCrypto fun c => { c with last := some (r.epoch, r.body, sig) }).raise Src.SIGN_FIX r.epoch q
        match who with
        | .now x tag => ((s3.withTag tag).ok x).withTag ""
        | _ => s3

/-- KEY_DERIVATION_DONE (R611). -/
def execKeyDerivationDone (s : State) : Host.Outcome State Fault Refusal :=
  .next <|
    if s.crypto.deriving_ then
      (((s.withCrypto fun c => { c with deriving_ := false }).put F.CRYPTO_KEY_BUSY 0).put F.CRYPTO_KEY_READY 1).raise0
        Src.SIGN_KEY_READY
    else s

/-- Facts of the SIGN commands. -/
def signCmd : CmdInfo := { block := some .crypto, gate := .key }

/-- SIGN_ATTEST (R617, R620, R623). -/
def execSignAttest (x : Sess) (nonce : List Byte) (s : State) : Host.Outcome State Fault Refusal :=
  .next <| s.run x signCmd fun t =>
    if nonce.isEmpty ∨ 32 < nonce.length then t.er x 120
    else if !ledgerGrants t (t.put F.CRYPTO_KEY_BUSY 1) then (t.ledgerRefuse .crypto 0x38 .console).er x 312
    else if t.reserveRefuses (t.put F.CRYPTO_KEY_BUSY 1) then t.er x 313
    else if 4 ≤ t.crypto.queue.length then t.er x 320
    else (t.setQueue (t.crypto.queue ++ [⟨.attest x t.console.tag nonce, 0, [], none⟩])).wantEngine

/-- SIGN_FIX (R616, R619). -/
def execSignFix (x : Sess) (on : Bool) (s : State) : Host.Outcome State Fault Refusal :=
  .next (s.run x signCmd fun t => ((t.flag F.CRYPTO_SFCFG_AUTO on).deriveKeep).ok x)

/-- SIGN_FIX_NOW (R370, R616, R623): `OK` follows once the record has been signed. -/
def execSignFixNow (x : Sess) (s : State) : Host.Outcome State Fault Refusal :=
  .next <| s.run x signCmd fun t =>
    match t.crypto.mirror with
    | none => t.er x 401
    | some (epoch, body) =>
      if t.get F.PWR_PATH_ACT = 2 ∧ t.get F.HARV_STAT_BAND < 4 then t.er x 313
      else if 4 ≤ t.crypto.queue.length then (t.queueFix (.now x t.console.tag) epoch body).er x 320
      else t.queueFix (.now x t.console.tag) epoch body

/-- SIGN_KEY_QUERY (R623). -/
def execSignKeyQuery (x : Sess) (s : State) : Host.Outcome State Fault Refusal :=
  .next <| s.run x { signCmd with query := true } fun t =>
    (t.replies x (hexLines "SIGN KEY " [32, 25] Identity.publicKey)).ok x

/-- SYS_ID_QUERY (R612). -/
def execSysIdQuery (x : Sess) (s : State) : Host.Outcome State Fault Refusal :=
  .next <| s.run x { query := true, sysGroup := true, scrapOk := true, heritage := true } fun t =>
    (t.reply x ("SYS ID " ++ devidText)).ok x

end Sys2Proof.Machine
end

