-- ==== Sys2Proof/Machine/Fix.lean ====
section
/-! DEFINITION. The consistency monitor, the solution and its fix record, the fix's consequences, and the queries of
measurements and fixes (R112, R137, R207, R233 to R241, R246, R259 to R262). -/

namespace Sys2Proof.Machine

/-- The residual of a test over its limit, as a fraction. -/
structure Excess where
  num : Nat
  den : Nat
  deriving DecidableEq, Repr

/-- The greater of two fractions. -/
def Excess.max (a b : Excess) : Excess := if a.num * b.den < b.num * a.den then b else a

/-- The outcome of the tests of an entry (R259): the failed tests (bits PR, DOP, CN0) and the largest excess of a failed
test. -/
def State.testEntry (s : State) (f : Solution) (es : List Entry) (e : Entry) : Nat × Excess :=
  let r := f.res.find? fun r => r.berth.val == e.berth
  let full := s.gnss.fix3.isSome
  let lim := fun (x : Fld) k => s.get x * k
  let one := fun (v l b : Nat) (a : Nat × Excess) => if l < v then (a.1 + b, a.2.max ⟨v, l⟩) else a
  let a0 : Nat × Excess := (0, ⟨0, 1⟩)
  let a1 := match r with
    | some r => if full then one r.dop (lim F.GNSS_CONSLIM_DOP_LIM 100) 2 (one r.pr (lim F.GNSS_CONSLIM_PR_LIM 1000) 1 a0) else a0
    | none => a0
  let c := lim F.GNSS_CONSLIM_CN0_MAX 5
  let d := lim F.GNSS_CONSLIM_CN0_DIFF 5
  let diffs := (es.filter fun x => x.sys == e.sys && x.svn == e.svn && (Sig.band x.sig == 4) != (Sig.band e.sig == 4)).map
    fun x => ((x.cn0 : Int) - e.cn0).natAbs
  let a2 := one e.cn0 c 4 a1
  if diffs.any fun v => d < v then
    let v := diffs.foldl Nat.max 0
    if bitOf a2.1 2 then (a2.1, a2.2.max ⟨v, d⟩) else one v d 4 a2
  else a2

/-- The distinct satellites of entries. -/
def satellites : List Entry → List (Nat × Nat)
  | [] => []
  | e :: r => let l := satellites r; if l.contains (e.sys, e.svn) then l else (e.sys, e.svn) :: l

/-- The treatment of each system's offset (R112), in the order of GNSS_TOFS: SRC, with the satellites counted. -/
def offsetSource (f : Solution) (sats : List (Nat × Nat)) (k : Nat) : Nat × Nat :=
  let n := (sats.filter fun p => p.1 == k + 1).length
  let known := (f.bcastOfs.getD k none).isSome && k != 2
  if 4 ≤ n then (1, n) else if n = 0 then (0, 0) else if known then (2, n) else if 2 ≤ n then (1, n) else (0, 0)

/-- The entries that stay in the solution once satellites without an offset are left out (R112). -/
def solvable (f : Solution) (es : List Entry) : List Entry :=
  let sats := satellites es
  es.filter fun e => e.sys == 0 || e.sys == 6 || (offsetSource f sats (e.sys - 1)).1 != 0

/-- The number of offsets estimated. -/
def estimated (f : Solution) (es : List Entry) : Nat :=
  ((List.range 5).filter fun k => (offsetSource f (satellites es) k).1 == 1).length

/-- Exclude failing entries, in their order, as long as the satellites used stay at 4 + k or more (R260). -/
def exclude (f : Solution) : List Entry → List Entry → List Entry × List Entry
  | used, [] => (used, [])
  | used, x :: r =>
    let less := used.filter fun e => e != x
    let l := solvable f less
    if 4 + estimated f l ≤ (satellites l).length then
      let (u, out) := exclude f less r
      (u, x :: out)
    else (used, [])

/-- The outcome of the monitor: the entries used, whether an exclusion or its limit met the fix, and the berths excluded. -/
structure Monitored where
  used : List Entry
  flag : Bool
  berths : List (Nat × Nat)

/-- A berth newly excluded (R262). -/
def State.raiseExcluded (s : State) (e : Entry) (tests : Nat) : State :=
  s.raiseK Src.GNSS_CONS_EXCL (e.berth + svBits e.sig e.sys e.svn + tests * 2 ^ 24) e.epoch
    [("BERTH", Text.dec e.berth), ("SIG", Sig.name e.sig), ("SAT", satName e.sys e.svn), ("PR", Text.dec (bitsOf tests 0 1)),
      ("DOP", Text.dec (bitsOf tests 1 1)), ("CN0", Text.dec (bitsOf tests 2 1)), ("EPOCH", Text.dec e.epoch)]

/-- GNSS_EXCL and NEXCL show the berths excluded. -/
def State.showExcluded (s : State) (l : List (Nat × Nat)) : State :=
  let s1 := (List.range 8).foldl
    (fun t k => t.put (F.GNSS_EXCL_BERTH k)
      ((List.range 32).foldl (fun v j => if l.any fun p => p.1 == 32 * k + j then v + 2 ^ j else v) 0)) s
  (s1.withGnss fun g => { g with excl := l }).put F.GNSS_CONS_NEXCL (min 255 l.length)

/-- The consistency monitor over an epoch (R259 to R262). -/
def State.monitor (s : State) (f : Solution) (e : Nat) : State × Monitored :=
  let es := s.gnss.entries.filter fun x => x.epoch == e && !x.refused
  let cleared := es.filter fun x => !x.bond
  if !s.on F.GNSS_CONS_EN then (s.showExcluded [], ⟨cleared, false, []⟩)
  else
    let tests := fun x => s.testEntry f es x
    let held := fun (x : Entry) => s.gnss.excl.any fun p => p.1 == x.berth
    -- R261: the count of clean epochs of signals already excluded.
    let stay := s.gnss.excl.filterMap fun (n, c) =>
      match es.find? fun x => x.berth == n with
      | some x => if (tests x).1 ≠ 0 then some (n, 0) else if c + 1 < s.get F.GNSS_CONS_HOLD then some (n, c + 1) else none
      | none => some (n, 0)
    let kept := fun (x : Entry) => stay.any fun p => p.1 == x.berth
    let base := cleared.filter fun x => !kept x
    let fails := sortBy (fun a b => (tests b).2.num * (tests a).2.den ≤ (tests a).2.num * (tests b).2.den)
      (base.filter fun x => (tests x).1 != 0)
    let (used, out) := exclude f base fails
    let limit := decide (out.length < fails.length)
    let bonded := es.filter fun x => x.bond && (tests x).1 != 0 && !held x
    let new := out ++ bonded
    let all := stay ++ new.map fun x => (x.berth, 0)
    let s1 := s.showExcluded all
    let s2 := new.foldl (fun t x => t.raiseExcluded x (tests x).1) s1
    let s3 := if limit then s2.raise0 Src.GNSS_CONS_LIMIT else s2
    (s3, ⟨used, limit || (cleared.any kept) || !out.isEmpty, all⟩)

/-- The type of a fix at `te` (R235). -/
def State.fixType (s : State) (te nsv k : Nat) : Nat :=
  let recent := s.gnss.fix3.filter fun p => decide (te ≤ p.1 + 300 * tideOne)
  if 4 + k ≤ nsv then 3
  else
    match recent with
    | some (_, v2, _) => if 3 + k ≤ nsv then 2 else if 1 ≤ nsv ∧ v2 < 2500 then 1 else 0
    | none => 0

/-- A signed value in a field; where it does not fit, the spec states no value. -/
def State.fitS (s : State) (w : Nat) (v : Int) : Nat :=
  if -((2 ^ (w - 1) : Nat) : Int) ≤ v ∧ v < ((2 ^ (w - 1) : Nat) : Int) then pattern w v else Config.number s.free % 2 ^ w

/-- The week number that the last cleared unit of one of these kinds carries (R240). -/
def State.storedWeek (s : State) (units : List Nat) : Option Nat :=
  (s.gnss.store.filterMap fun r => if units.contains r.u.unit.val then r.u.week else none).getLast?

/-- The full GPS week and whether it may move the anchor (R240, R241); without a source the spec states none. -/
def State.fullWeek (s : State) : Nat × Bool :=
  let anchor := s.logs.anchor.getD 2300
  match s.storedWeek [3, 5], s.storedWeek [2, 10, 12], s.storedWeek [7, 8], s.storedWeek [0] with
  | some w, _, _, _ => (w, true)
  | none, some w, _, _ => (w + 1356, true)
  | none, none, some w, _ => (w + 1024, true)
  | none, none, none, some w => (anchor + (w % 1024 + 1024 - anchor % 1024) % 1024, false)
  | none, none, none, none => (Config.number s.free % 65536, false)

/-- The sixteen words of the fix record of epoch `e` at `te` (R236). -/
def State.fixWords (s : State) (e te : Nat) (f : Solution) (ft nsv ngal nauth latency week tow : Nat) (flags : Nat)
    (pos : Int × Int × Int) : List Nat :=
  let at_ := [te / tideOne % 2 ^ 32, te % tideOne / 2 ^ 24]
  let lat := latency * 2 ^ 24
  let t9 := 9 * 2 ^ 28
  if ft = 0 then [8 * 2 ^ 28 + e, lat] ++ at_ ++ [t9, 0, 0, 0, t9, 0, 0, 0, t9, 0, 0, 0]
  else
    [8 * 2 ^ 28 + ft * 2 ^ 24 + min 255 nsv * 2 ^ 16 + e, flags + nauth % 256 * 2 ^ 8 + ngal % 256 * 2 ^ 16 + lat] ++ at_ ++
    [t9 + s.get F.TIDE_LEAP_CUR * 2 ^ 16 + week % 65536, tow % 2 ^ 30, s.fitS 32 f.clkb, s.fitS 32 f.drift,
      t9 + min 16383 f.hacc * 2 ^ 14 + min 16383 f.vacc, s.fitS 32 pos.1, s.fitS 32 pos.2.1, s.fitS 32 pos.2.2,
      t9 + s.fitS 12 f.geoid * 2 ^ 16 + s.fitU 16 f.pdop, s.fitS 16 f.vn * 2 ^ 16 + s.fitS 16 f.ve,
      s.fitS 16 f.vu * 2 ^ 16 + min 255 ((f.hdop + 5) / 10) * 2 ^ 8 + min 255 ((f.vdop + 5) / 10),
      s.fitU 16 f.sacc + min 65535 f.tacc * 2 ^ 16]

/-- The broadcast leap value (R274): in BASIC it sets CUR where it differs from the last one decoded, and an announced change
waits. -/
def State.broadcastLeap (s : State) (f : Solution) : State :=
  if s.expert .tide then s
  else
    let s1 := match f.leap with
      | some n => if s.tide.bcast = some n then s else (s.setLeap n true).withTide fun t => { t with bcast := some n }
      | none => s
    match f.leapNext with
    | some (n, at_) =>
      if n = s1.getS F.TIDE_LEAP_CUR then s1
      else ((s1.putS F.TIDE_LEAP_NEXT n).put F.TIDE_LEAP_PEND 1).put F.TIDE_LEAPAT_AT at_
    | none => s1

/-- The inter-system offsets of a solution (R112). -/
def State.writeOffsets (s : State) (f : Solution) (es : List Entry) : State :=
  (List.range 5).foldl
    (fun t k =>
      let (src, n) := offsetSource f (satellites es) k
      let v := if src = 1 then f.estOfs.getD k 0 else if src = 2 then (f.bcastOfs.getD k none).getD 0 else 0
      t.puts [(F.GNSS_TOFS_OFS k, t.fitS 24 v), (F.GNSS_TOFS_SRC k, src), (F.GNSS_TOFS_NSAT k, min 63 n)]) s

/-- Searches started from an aid start again as cold searches (R137). -/
def State.rejectAid (s : State) : State :=
  let aided := s.gnss.lanes.filter fun l => l.2.aided
  let s1 := aided.foldl (fun t l => t.leaveLane l.1 0) (s.raise0 Src.LOOKOUT_AID_REJECT)
  aided.foldl (fun t l => t.queueSearch { l.2 with aided := false, cold := true, deep := none }) s1

/-- The first cleared fix after an aid is held against it (R137); no aid is used from then on. -/
def State.checkAid (s : State) (te : Nat) (f : Solution) : State :=
  match s.gnss.aid with
  | some (a, up) =>
    let far := match a.pos, a.acc with | some _, some acc => decide (3 * acc < f.aidMm) | _, _ => false
    let gps : Int := (te : Int) - ofQuarters f.clkb
    let late := match a.time with
      | some t => decide (2 * tideOne < (gps - (t * 2 ^ 24 + (s.tide.up - up) : Nat)).natAbs)
      | none => false
    let s1 := s.withGnss fun g => { g with aid := none }
    if far || late then s1.rejectAid else s1
  | none => s

/-- A new anchor (R241). -/
def State.moveAnchor (s : State) (week : Nat) : State :=
  if s.logs.anchor.getD 2300 + 256 ≤ week then
    ((s.withLogs fun l => { l with anchor := some (week - 128) }).systemRecord).raiseK Src.GNSS_ANCHOR (week - 128) 0
      [("WEEK", Text.dec (week - 128))]
  else s

/-- The issue of data of the data set that a satellite's part of a fix uses: the newest ephemeris stored (R115). -/
def State.dataSet (s : State) (svn : Nat) : Option Nat :=
  ((s.gnss.store.filter fun r => r.u.kind == .ephemeris && r.sys == 1 && r.svn == svn).getLast?).map (·.u.iod)

/-- Whether a Galileo satellite counts as authenticated (R115, R210): the data set used for it is AUTH. -/
def State.svAuth (s : State) (svn : Nat) : Bool :=
  s.osnmaOn && (match s.dataSet svn with
    | some iod => s.gnss.osnma.any fun p => p.svn.toNat == svn && p.iod == iod && p.adkd != 4 && p.state == AuthState.auth
    | none => false)

/-- Whether a solution forms an ionosphere-free combination (R234): some satellite has cleared signals on both bands. -/
def State.freeOfIono (s : State) (es : List Entry) : Bool :=
  s.mode != 2 && s.mode != 4 && s.mode != 6 &&
    es.any fun a => es.any fun b => a.sys == b.sys && a.svn == b.svn && Sig.band a.sig == 4 && Sig.band b.sig != 4

/-- SBAS corrections need a cleared message of SBAS, and are off in HERITAGE (R97, R204, R234). -/
def State.sbasHeld (s : State) : Bool := s.mode != 6 && s.gnss.store.any fun r => r.u.unit.val == 14

/-- The time from `te` to now in 0.1 ms (R236), saturating. -/
def State.latency (s : State) (te : Nat) : Nat := min 255 ((s.tide.now - te) * 10000 / tideOne)

/-- The Sillage predictor runs after a solution (R191 step 10, R193, R212): AGE is that of the cleared solution it uses. -/
def State.predict (s : State) (preds : List Pred) : State :=
  (s.put F.SILLAGE_STAT_AGE
    (if s.gnss.fix.isSome then min 0xFFFE ((s.tide.now - s.gnss.fixAt) / tideOne) else 0xFFFF)).setPreds preds

/-- FIX_RECORD_WRITE (R207, R217, R233 to R242): after the close, the monitor, the solution, the record and what follows it,
down to the predictions of the next start. The epoch ends with it, and RATE takes effect. -/
def State.writeFix (s : State) (f : Solution) (preds : List Pred) : State :=
  match s.gnss.solving, s.gnss.closed with
  | true, some (e, te) =>
    let s0 := ((s.withGnss fun g => { g with solving := false }).applyRate.broadcastLeap f).spend
    let mn := s0.monitor f e
    let s1 := mn.1
    let m := mn.2
    let es := solvable f m.used
    let sats := satellites es
    let nsv := sats.length
    let ft := s1.fixType te nsv (estimated f es)
    let gal := sats.filter fun p => p.1 == 1
    let auth := gal.filter fun p => s1.svAuth p.2
    let full := 1 ≤ nsv ∧ auth.length = gal.length ∧ gal.length = nsv
    let sbas := f.sbas && s1.sbasHeld
    let flags := bit full + 2 * bit sbas + 4 * bit (s1.freeOfIono es) + 8 * bit m.flag + 16 * bit (ft = 1 ∨ ft = 2)
    let wk := s1.fullWeek
    let week := wk.1
    let fromFull := wk.2
    let late := s1.latency te
    let gps : Int := (te : Int) - ofQuarters f.clkb
    let tow := ((roundDiv (gps * 1000) tideOne) % 604800000).toNat
    let pos := match s1.gnss.fix3 with
      | some (_, _, la, lo, h) => if ft = 1 then (la, lo, h) else if ft = 2 then (f.lat, f.lon, h) else (f.lat, f.lon, f.hgt)
      | none => (f.lat, f.lon, f.hgt)
    let w := s1.fixWords e te f ft nsv gal.length auth.length late week tow flags pos
    let s2 := s1.measPut e 0 [w.take 4, (w.drop 4).take 4, (w.drop 8).take 4, w.drop 12]
    let s3 := s2.flag F.GNSS_STAT_FIX (1 ≤ ft)
    let first := s3.gnss.fix.isNone
    let s4 := if ft = 0 then s3
      else
        let t := ((s3.put F.GNSS_STAT_USED (min 255 nsv)).put F.GNSS_OSNMA_NAUTH (min 255 auth.length)).writeOffsets f es
        let v2 := f.vn.natAbs ^ 2 + f.ve.natAbs ^ 2 + f.vu.natAbs ^ 2
        let t1 := t.withGnss fun g =>
          { g with fix := some w, fixAt := te, fix3 := if ft = 3 then some (te, v2, pos) else g.fix3 }
        let t2 := if first then t1.checkAid te f else t1
        let t3 := if fromFull then t2.moveAnchor week else t2
        let sc := t3.get F.TIDE_CFG_SCALE
        let t4 := t3.autoSign e (fixBody w (te / tideOne / 2 ^ 32 % 65536) sc (t3.get F.TIDE_STAT_STATE))
        let taken := ((t4.tide.up : Int) - ((t4.tide.now : Int) - te)).toNat
        t4.measure 0 (-ofQuarters f.clkb + t4.scaleOffset sc) taken (min 65535 f.tacc)
    let utc : Option Nat :=
      if ft ≠ 0 then some (roundDiv ((gps - s4.getS F.TIDE_LEAP_CUR * (tideOne : Int) - 630720000 * (tideOne : Int)) * 100) tideOne).toNat
      else if s4.tide.disc then
        some (roundDiv (((te : Int) - s4.getS F.TIDE_LEAP_CUR * (tideOne : Int) - 630720000 * (tideOne : Int)) * 100) tideOne).toNat
      else none
    let v : Shown :=
      { epoch := e, ftype := ft, sbas := sbas, used := if ft = 0 then [] else sats, utc := utc,
        f := { f with lat := pos.1, lon := pos.2.1, hgt := pos.2.2 }, ngal := if ft = 0 then 0 else gal.length,
        nauth := if ft = 0 then 0 else auth.length, excl := m.berths.length, week := if ft = 0 then 0 else week,
        tow := if ft = 0 then 0 else tow, te := te, latency := late }
    let s5 := (s4.raiseK Src.GNSS_FIX (e + ft * 2 ^ 16 + (if ft = 0 then 0 else min 255 nsv) * 2 ^ 24) 0
      [("EPOCH", Text.dec e), ("FTYPE", Text.dec ft), ("NSV", Text.dec (if ft = 0 then 0 else nsv))]).fire 23
    (s5.nmeaOut v).predict preds
  | _, _ => s

/-- FIX_RECORD_WRITE. -/
def execFixRecordWrite (f : Solution) (preds : List Pred) (s : State) : Host.Outcome State Fault Refusal :=
  .next (s.writeFix f preds)

/-- MEASQ_FIX_READ (R239): a read of MEASQ_FIX0 captures the sixteen words of the last fix record with FTYPE 1 or more. -/
def State.captureFix (s : State) : State :=
  let w := s.gnss.fix.getD []
  let s1 := (s.put F.MEASQ_FIX0_WORD (w.getD 0 0)).puts ((List.range 15).map fun k => (F.MEASQ_FIX_WORD k, w.getD (k + 1) 0))
  { s1 with busData := BitVec.ofNat 32 (w.getD 0 0) }

/-- MEASQ_FIX_READ. -/
def execMeasqFixRead (s : State) : Host.Outcome State Fault Refusal := .next s.captureFix

/-- The line of `GNSS FIX?` from a record's words (R246). -/
def fixLine (w : List Nat) : String :=
  let g := fun i => w.getD i 0
  let leap := signed 8 (bitsOf (g 4) 16 8)
  let ms : Int := (bitsOf (g 4) 0 16 * 604800000 + bitsOf (g 5) 0 30 : Nat) - leap * 1000 - 630720000000
  let d := Cal.dateOf (ms.toNat / 1000)
  let utc := Text.pad 4 d.year ++ "-" ++ Text.pad 2 d.month ++ "-" ++ Text.pad 2 d.day ++ "T" ++ Text.pad 2 d.hour ++ ":" ++
    Text.pad 2 d.minute ++ ":" ++ Text.pad 2 d.second ++ "." ++ Text.pad 3 (ms.toNat % 1000)
  let vel := Text.sep "," [Text.fixed 2 (signed 16 (bitsOf (g 13) 16 16)), Text.fixed 2 (signed 16 (bitsOf (g 13) 0 16)),
    Text.fixed 2 (signed 16 (bitsOf (g 14) 16 16))]
  "GNSS FIX EPOCH=" ++ Text.dec (bitsOf (g 0) 0 16) ++ " TYPE=" ++ Name.pick ["NONE", "TIME", "2D", "3D"] (bitsOf (g 0) 24 4) ++
    " UTC=" ++ utc ++ " LAT=" ++ Text.fixed 7 (signed 32 (g 9)) ++ " LON=" ++ Text.fixed 7 (signed 32 (g 10)) ++
    " HGT=" ++ Text.fixed 3 (signed 32 (g 11)) ++ " VEL=" ++ vel ++ " NSV=" ++ Text.dec (bitsOf (g 0) 16 8) ++
    " HACC=" ++ Text.fixed 2 (bitsOf (g 8) 14 14 : Nat) ++ " VACC=" ++ Text.fixed 2 (bitsOf (g 8) 0 14 : Nat) ++
    " AUTH=" ++ (if bitOf (g 1) 0 then "ALL" else if 1 ≤ bitsOf (g 1) 8 8 then "PART" else "NONE") ++
    " SBAS=" ++ Text.dec (bitsOf (g 1) 1 1)

/-- GNSS_FIX_QUERY (R246). -/
def execGnssFixQuery (x : Sess) (s : State) : Host.Outcome State Fault Refusal :=
  .next <| s.run x { query := true, heritage := true } fun t =>
    match t.gnss.fix with
    | some w => (t.reply x (fixLine w)).ok x
    | none => t.er x 401

/-- The line of an entry (R246). -/
def Entry.line (e : Entry) : String :=
  "MEAS " ++ satName e.sys e.svn ++ " " ++ Sig.name e.sig ++ " PR=" ++ Text.fixed 3 (roundDiv (e.pr * 1000) 1024) ++
    " CP=" ++ Text.fixed 4 (roundDiv (e.cp * 10000) 65536) ++ " DOP=" ++ Text.fixed 3 (roundDiv (e.dop * 1000) 1024) ++
    " CN0=" ++ Text.fixed 1 e.cn0 ++ " LOCKT=" ++ Text.fixed 2 e.lockt ++ " MP=" ++ Text.dec e.mp ++ " HALF=" ++
    Text.dec (bit e.half) ++ (if e.bond || e.refused then " B" else "")

/-- The lines of `MEAS?` over the last closed epoch; those of `MEAS? BOND=1` hold every entry of it, also one refused since
(R246). -/
def State.measLines (s : State) (all : Bool) : List String :=
  match s.gnss.closed with
  | none => ["MEAS EPOCH=0 TIDE=0.000000000 N=0"]
  | some (e, te) =>
    let es := s.gnss.entries.filter fun x => x.epoch == e && (all || (!x.bond && !x.refused))
    ("MEAS EPOCH=" ++ Text.dec e ++ " TIDE=" ++ tideText (te / tideOne) (te % tideOne / 2 ^ 24) ++ " N=" ++ Text.dec es.length) ::
      es.map Entry.line

/-- MEAS_QUERY (R246). -/
def execMeasQuery (x : Sess) (s : State) : Host.Outcome State Fault Refusal :=
  .next <| s.run x { query := true, heritage := true } fun t => (t.replies x (t.measLines false)).ok x

/-- MEAS_BOND_QUERY (R246). -/
def execMeasBondQuery (x : Sess) (s : State) : Host.Outcome State Fault Refusal :=
  .next <| s.run x { query := true, expert := true, heritage := true } fun t => (t.replies x (t.measLines true)).ok x

end Sys2Proof.Machine
end

