-- ==== Sys2Proof/Machine/Front.lean ====
section
/-! DEFINITION. The front: antenna bias, overload, and the notches (R88, R251, R253 to R255, R258). -/

namespace Sys2Proof.Machine

/-- ANTENNA_SHORT (R88): the bias switches off. -/
def execAntennaShort (s : State) : Host.Outcome State Fault Refusal :=
  .next <|
    if s.on F.FRONT_CFG_BIAS_EN && !s.on F.FRONT_CFG_BIAS_SHORT then
      (s.put F.FRONT_CFG_BIAS_SHORT 1).raise0 Src.FRONT_ANT_SHORT
    else s

/-- What an input's AGC reports with a spectrum (R250, R251, R256): GAIN and OCC, the sums of the basis (in the burst modes from
tW + 1 ms on), and for how long the input has been in overload, or clear of it. -/
def State.agcReport (s : State) (b gain occ : Nat) : State :=
  let counts := s.continuous || (s.bursts && s.gnss.window && decide (s.gnss.tw + tideOne / 1000 ≤ s.tide.now))
  (s.puts [(F.FRONT_AGC_GAIN b, min 140 gain), (F.FRONT_AGC_OCC b, min 200 occ)]).modBand b fun f =>
    { f with
      gainSum := if counts then f.gainSum + min 140 gain else f.gainSum, gainN := if counts then f.gainN + 1 else f.gainN
      hot := if gain = 0 ∧ 100 < occ then f.hot + 1 else 0, cool := if occ < 50 then f.cool + 1 else 0 }

/-- FRONT_OVERLOAD (R251): GAIN at 0 and OCC above 50 % for 10 ms of reports. -/
def execFrontOverload (band5 : Bool) (s : State) : Host.Outcome State Fault Refusal :=
  .next <|
    let b := bit band5
    if s.on (F.FRONT_AGC_OVLD b) || (s.band b).hot < 10 then s
    else (s.put (F.FRONT_AGC_OVLD b) 1).raiseK Src.FRONT_OVERLOAD b 0 [("BAND", Text.dec b)]

/-- OVERLOAD_CLEAR (R251): OCC below 25 % for 100 ms of reports. -/
def execOverloadClear (band5 : Bool) (s : State) : Host.Outcome State Fault Refusal :=
  .next <|
    let b := bit band5
    if (s.band b).cool < 100 then s else s.put (F.FRONT_AGC_OVLD b) 0

/-- Whether a tone at an offset in kHz lies within a notch: its distance from the centre is at most half the width. -/
def State.inNotch (s : State) (b k : Nat) (tone : Int) : Bool :=
  decide (2 * (tone - s.getS (F.FRONT_NOTCH_CENTRE b k)).natAbs ≤ 10 * s.get (F.FRONT_NOTCH_WIDTH b k))

/-- Whether two notches of a band overlap. -/
def State.notchesMeet (s : State) (b j k : Nat) : Bool :=
  decide (2 * (s.getS (F.FRONT_NOTCH_CENTRE b j) - s.getS (F.FRONT_NOTCH_CENTRE b k)).natAbs ≤
    10 * (s.get (F.FRONT_NOTCH_WIDTH b j) + s.get (F.FRONT_NOTCH_WIDTH b k)))

/-- The notch writes that waited for the spectrum boundary take effect (R255): a notch set FIXED holds its centre and width,
one no longer FIXED returns to OFF. -/
def State.applyNotches (s : State) (b : Nat) : State :=
  let mine := s.gnss.notches.filter fun n => n.1 == b
  let s1 := mine.foldl
    (fun t n =>
      let (_, k, c, w, fix) := n
      let st := t.get (F.FRONT_NOTCH_STATE b k)
      let st' := if fix then 3 else if st = 3 then 0 else st
      ((t.putS (F.FRONT_NOTCH_CENTRE b k) c).put (F.FRONT_NOTCH_WIDTH b k) w).puts
        [(F.FRONT_NOTCH_FIX b k, bit fix), (F.FRONT_NOTCH_STATE b k, st')]) s
  s1.withGnss fun g => { g with notches := g.notches.filter fun n => n.1 != b }

/-- An adaptive notch that a FIXED one overlaps returns to OFF (R255). -/
def State.yieldNotches (s : State) (b : Nat) : State :=
  (List.range 4).foldl
    (fun t k =>
      let st := t.get (F.FRONT_NOTCH_STATE b k)
      if (st == 1 || st == 2) && (List.range 4).any fun j => t.get (F.FRONT_NOTCH_STATE b j) == 3 && t.notchesMeet b j k then
        t.put (F.FRONT_NOTCH_STATE b k) 0 else t) s

/-- One tone (R254): within an active notch it needs nothing; the lowest OFF notch goes to ADAPTING on it; with none,
FRONT_NOTCH_FULL is raised once per tone per second. -/
def State.seeTone (s : State) (b : Nat) (tone : Int) : State :=
  if (List.range 4).any fun k => s.get (F.FRONT_NOTCH_STATE b k) != 0 && s.inNotch b k tone then s
  else
    match (List.range 4).find? fun k => s.get (F.FRONT_NOTCH_STATE b k) == 0 with
    | some k => (s.putS (F.FRONT_NOTCH_CENTRE b k) tone).puts [(F.FRONT_NOTCH_STATE b k, 1), (F.FRONT_NOTCH_WIDTH b k, 2)]
    | none =>
      let t := s.withGnss fun g => { g with full := g.full.filter fun p => decide (s.tide.up < p.2.2 + tideOne) }
      if t.gnss.full.any fun p => p.1 == b && p.2.1 == tone then t
      else (t.withGnss fun g => { g with full := g.full ++ [(b, tone, s.tide.up)] }).raise0 Src.FRONT_NOTCH_FULL

/-- The centre of a bin of the 64 in kHz from the centre of the band (R87, R253, R254): bin 32 lies there (DESIGN CHOICE). -/
def binCentre (b i : Nat) : Int := roundDiv (((i : Int) - 32) * (if b = 0 then 49104 else 32736)) 64

/-- Twice the median of a spectrum: the sum of its two middle values. -/
def medianTwice (l : List Nat) : Nat :=
  let o := sortBy (fun a b => decide (a ≤ b)) l
  o.getD ((o.length - 1) / 2) 0 + o.getD (o.length / 2) 0

/-- The tones of a spectrum in 0.25 dB (R254): the bins that stand above its median by DET or more. -/
def State.tonesOf (s : State) (b : Nat) (bins : List Nat) : List Int :=
  let m := medianTwice bins + 2 * s.get (F.FRONT_NCFG_DET b)
  (bins.zipIdx.filter fun x => decide (m ≤ 2 * x.1)).map fun x => binCentre b x.2

/-- Whether a notch has brought its tone's bin within 3 dB of the median (R254), in the spectrum after the notches. -/
def State.notchSettled (s : State) (b k : Nat) (post : List Nat) : Bool :=
  post.zipIdx.any fun x => binCentre b x.2 == s.getS (F.FRONT_NOTCH_CENTRE b k) && decide (2 * x.1 ≤ medianTwice post + 24)

/-- An ADAPTING notch locks on the narrowest width, in 10 kHz, that brings its tone down (R253, R254). -/
def State.lockNotch (s : State) (b k w : Nat) (post : List Nat) : State :=
  if s.get (F.FRONT_NOTCH_STATE b k) = 1 ∧ 2 ≤ w ∧ w ≤ 200 ∧ s.notchSettled b k post then
    (s.puts [(F.FRONT_NOTCH_WIDTH b k, w), (F.FRONT_NOTCH_STATE b k, 2)]).modBand b fun f => { f with calm := f.calm.set k 0 }
  else s

/-- What a spectrum says of the LOCKED notches (R252, R254, R258): that there is one, and for each whether its tone is still
there; the burst modes count windows instead. -/
def State.watchNotches (s : State) (b : Nat) (tones : List Int) : State :=
  let there := (List.range 4).map fun k => tones.any fun x => s.inNotch b k x
  let bursts := s.bursts
  let locked := s.notchLocked b
  s.modBand b fun f =>
    { f with
      locked := f.locked || locked
      calm := if bursts then f.calm
        else (List.range 4).map fun k => if there.getD k false then 0 else f.calm.getD k 0 + 1
      seen := (List.range 4).map fun k => f.seen.getD k false || there.getD k false }

/-- NOTCH_SPECTRUM (R250, R254, R255): at a 1 ms spectrum boundary of a powered input the AGC reports and waiting writes apply;
with AUTO, the notches that have settled lock, and the tones found are met. `bins` and `post` are the powers of the 64 bins
before and after the notches, in 0.25 dB. -/
def execNotchSpectrum (band5 : Bool) (gain occ : BitVec 8) (bins post : List Nat) (settled : List (Fin 4 × Nat)) (s : State) :
    Host.Outcome State Fault Refusal :=
  .next <|
    let b := bit band5
    if !s.rfOn band5 then s
    else
      let s1 := ((s.agcReport b gain.toNat occ.toNat).applyNotches b).yieldNotches b
      let tones := s1.tonesOf b bins
      let s2 := s1.watchNotches b tones
      if s2.on (F.FRONT_NCFG_AUTO b) then
        let s3 := settled.foldl (fun t n => t.lockNotch b n.1.val n.2 post) s2
        (tones.foldl (fun t x => t.seeTone b x) s3).yieldNotches b
      else
        (List.range 4).foldl
          (fun t k => if t.get (F.FRONT_NOTCH_STATE b k) = 3 then t else t.put (F.FRONT_NOTCH_STATE b k) 0) s2

/-- NOTCH_RELEASE (R254, R258): a LOCKED notch whose tone stayed below DET for 1 s, or for three windows of the burst modes,
returns to OFF. -/
def execNotchRelease (band5 : Bool) (k : Fin 4) (s : State) : Host.Outcome State Fault Refusal :=
  .next <|
    let b := bit band5
    let x := F.FRONT_NOTCH_STATE b k.val
    if s.get x = 2 ∧ (if s.bursts then 3 else 1000) ≤ (s.band b).calm.getD k.val 0 then s.put x 0 else s

end Sys2Proof.Machine
end

