-- ==== Sys2Proof/Machine/Lighters.lean ====
section
/-! DEFINITION. The lighters: their instructions, FIFOs, commands and library programs (R534 to R555). -/

namespace Sys2Proof.Machine

/-- The address of a pin of a group (R543). -/
def pinOf (base i : Nat) : Nat := (base + i) % 48

/-- The state of an engine: 0 STOPPED, 1 RUNNING, 2 WAITING, 3 STALLED (R535). -/
def State.lgtState (s : State) (n : Nat) : Nat := s.get (F.LGT_STAT_STATE n)

/-- Put an engine into a state, with its bits of LGT_SUM. -/
def State.lgtTo (s : State) (n st : Nat) : State :=
  s.puts [(F.LGT_STAT_STATE n, st), (F.LGT_SUM_RUN, withBit (s.get F.LGT_SUM_RUN) n (st == 1 || st == 2)),
    (F.LGT_SUM_STALLED, withBit (s.get F.LGT_SUM_STALLED) n (st == 3))]

/-- Stall an engine: `full` says that the RX FIFO is full, else the TX FIFO is empty. -/
def State.lgtStall (s : State) (n : Nat) (full : Bool) : State := (s.lgtTo n 3).flag (F.LGT_STAT_WHY n) full

/-- The word at an engine's PC. -/
def State.lgtWord (s : State) (n : Nat) : Nat := s.get (F.LGT_IMEM_WORD n (s.get (F.LGT_STAT_PC n)))

/-- The opcode of a word: bits [31:27], as R540's fields and the worked case of R552 have it. -/
def lgtOp (w : Nat) : Nat := bitsOf w 27 5

/-- Whether a word is illegal (R540, R544). -/
def lgtIllegal (w : Nat) : Bool :=
  match lgtOp w with
  | 0x01 | 0x04 | 0x05 => bitsOf w 25 2 == 3
  | 0x0A => 5 ≤ bitsOf w 24 3 || 5 ≤ bitsOf w 21 3 || bitsOf w 19 2 == 3
  | op => 0x0C ≤ op

/-- PC after an instruction that does not branch (R536). -/
def State.lgtNext (s : State) (n : Nat) : State :=
  let pc := s.get (F.LGT_STAT_PC n)
  s.put (F.LGT_STAT_PC n) (if pc = s.get (F.LGT_CFG_WRAP_TOP n) then s.get (F.LGT_CFG_WRAP_BOT n) else (pc + 1) % 32)

/-- Run an instruction if the engine runs, its domain is on, and the word at PC is that instruction. -/
def State.lgtRunOp (s : State) (n op : Nat) (body : Nat → State → State) : State :=
  let w := s.lgtWord n
  if s.powered 9 && s.lgtState n == 1 && lgtOp w == op && !lgtIllegal w then body w s else s

/-- An engine's FIFOs replaced, with their levels and crossings (R546). -/
def State.lgtFifos (s : State) (n : Nat) (tx rx : List Nat) : State :=
  let e := s.engine n
  let s1 := (s.setEngine n { e with tx := tx, rx := rx }).puts
    [(F.LGT_FIFO_TXLVL n, tx.length), (F.LGT_FIFO_RXLVL n, rx.length)]
  let tth := s.get (F.LGT_FIFO_TXTH n)
  let rth := s.get (F.LGT_FIFO_RXTH n)
  let s2 := if tth < e.tx.length ∧ tx.length ≤ tth then s1.raise0 (120 + n) else s1
  if e.rx.length < rth ∧ rth ≤ rx.length then s2.raise0 (120 + n) else s2

/-- A fill: SH takes the head of the TX FIFO (R540). None: the FIFO is empty. -/
def State.lgtFill (s : State) (n : Nat) : Option State :=
  match (s.engine n).tx with
  | [] => none
  | w :: r => some ((s.lgtFifos n r (s.engine n).rx).puts [(F.LGT_SH_SH n, w), (F.LGT_STAT_SC n, 0)])

/-- A drain: the RX FIFO takes SH (R540). None: the FIFO is full. -/
def State.lgtDrain (s : State) (n : Nat) (keep : Bool) : Option State :=
  let e := s.engine n
  if 8 ≤ e.rx.length then none
  else
    let s1 := (s.lgtFifos n e.tx (e.rx ++ [s.get (F.LGT_SH_SH n)])).put (F.LGT_STAT_RC n) 0
    some (if keep then s1 else s1.puts [(F.LGT_SH_SH n, 0), (F.LGT_STAT_SC n, 32)])

/-- Whether engine `n` drives pin `p` (R543). -/
def State.lgtDrives (s : State) (n p : Nat) : Bool := s.pinFunc p == 2 && s.get (F.GPIO_PIN_ENG p) == n

/-- The level of a pin as engine `n` writes it. -/
def State.lgtLevel (s : State) (n p : Nat) (b : Bool) : State :=
  if s.lgtDrives n p then s.withPads fun d => { d with level := withBit d.level p b } else s

/-- The direction of a pin as engine `n` writes it. -/
def State.lgtDir (s : State) (n p : Nat) (out : Bool) : State :=
  if s.lgtDrives n p then s.withPads fun d => { d with dir := withBit d.dir p out } else s

/-- OUT pins 0 to `k` - 1 with their indices. -/
def State.lgtOut (s : State) (n k : Nat) : List (Nat × Nat) :=
  (List.range (min k (s.get (F.LGT_PINS_OCNT n)))).map fun i => (i, pinOf (s.get (F.LGT_PINS_OBASE n)) i)

/-- IN pin `i` of an engine. -/
def State.lgtIn (s : State) (n i : Nat) : Bool := s.padIn (pinOf (s.get (F.LGT_PINS_IBASE n)) i)

/-- IN pin `i` as an XFER step samples it: what the device drives, else the sample. -/
def State.lgtSample (s : State) (n i : Nat) (smp : Option Byte) : Bool :=
  let p := pinOf (s.get (F.LGT_PINS_IBASE n)) i
  match smp with
  | none => s.padIn p
  | some b => s.inputOn p && ((s.padDrive p).getD (bitOf b.toNat i))

/-- One step of an XFER (R541, R542): `way` as in R540. What enters SH when no bits come in is free. -/
def State.lgtStep (s : State) (n way : Nat) (smp : Option Byte) : State :=
  let w := 2 ^ s.get (F.LGT_CFG_STEPW n)
  let sh := s.get (F.LGT_SH_SH n)
  let right := s.on (F.LGT_CFG_ORDER n)
  let out := if right then sh % 2 ^ w else sh / 2 ^ (32 - w)
  let s1 :=
    if way = 1 then s
    else (s.lgtOut n w).foldl (fun t p => (t.lgtDir n p.2 true).lgtLevel n p.2 (bitOf out p.1)) s
  let enter := if way = 0 then Config.number s.free % 2 ^ w else ofBits w fun i => s1.lgtSample n i smp
  let s2 := if way = 0 then s1.spend else s1
  let sh' := if right then sh / 2 ^ w + enter * 2 ^ (32 - w) else sh * 2 ^ w % 2 ^ 32 + enter
  let s3 := s2.put (F.LGT_SH_SH n) sh'
  let s4 := if way = 1 then s3 else s3.put (F.LGT_STAT_SC n) (min 32 (s.get (F.LGT_STAT_SC n) + w))
  if way = 0 then s4 else s4.put (F.LGT_STAT_RC n) (min 32 (s.get (F.LGT_STAT_RC n) + w))

/-- The steps of an XFER, with the samples of its IN pins. -/
def State.lgtSteps (s : State) (n way : Nat) : Nat → List Byte → State
  | 0, _ => s
  | k + 1, [] => (s.lgtStep n way none).lgtSteps n way k []
  | k + 1, b :: r => (s.lgtStep n way (some b)).lgtSteps n way k r

/-- The automatic transfers an XFER checks as it begins (R542): none stands for a stall, already entered. -/
def State.lgtAuto (s : State) (n : Nat) : State × Bool :=
  let drained :=
    if s.on (F.LGT_CFG_AUTODRAIN n) && s.get (F.LGT_THRS_DRAINAT n) ≤ s.get (F.LGT_STAT_RC n) then s.lgtDrain n true
    else some s
  match drained with
  | none => (s.lgtStall n true, false)
  | some t =>
    if t.on (F.LGT_CFG_AUTOFILL n) && t.get (F.LGT_THRS_FILLAT n) ≤ t.get (F.LGT_STAT_SC n) then
      match t.lgtFill n with
      | none => (t.lgtStall n false, false)
      | some u => (u, true)
    else (t, true)

/-- A count field in which 0 stands for the greatest value. -/
def orMax (v m : Nat) : Nat := if v = 0 then m else v

/-- LGT_XFER (R537, R541, R542): `samples` holds the levels of the IN pins at each step's sampling cycle. The OUT pins and the
clock pin are outputs from then on, and the clock pin holds CKIDLE. -/
def execLgtXfer (n : Fin 8) (samples : List Byte) (s : State) : Host.Outcome State Fault Refusal :=
  .next <| s.lgtRunOp n 1 fun w t =>
    let r := t.lgtAuto n
    if r.2 then
      let u := r.1.lgtSteps n (bitsOf w 25 2) (orMax (bitsOf w 20 5) 32) samples
      let p := s.get (F.LGT_PINS_CKPIN n)
      (if bitOf w 13 then (u.lgtDir n p true).lgtLevel n p (bitOf w 11) else u).lgtNext n
    else r.1

/-- LGT_NOP. -/
def execLgtNop (n : Fin 8) (s : State) : Host.Outcome State Fault Refusal := .next (s.lgtRunOp n 0 fun _ t => t.lgtNext n)

/-- LGT_FILL (R540): a fill from an empty FIFO stalls. -/
def execLgtFill (n : Fin 8) (s : State) : Host.Outcome State Fault Refusal :=
  .next <| s.lgtRunOp n 2 fun w t =>
    if bitOf w 0 && t.get (F.LGT_STAT_SC n) < t.get (F.LGT_THRS_FILLAT n) then t.lgtNext n
    else
      match t.lgtFill n with
      | some u => u.lgtNext n
      | none => t.lgtStall n false

/-- LGT_DRAIN (R540): a drain into a full FIFO stalls. -/
def execLgtDrain (n : Fin 8) (s : State) : Host.Outcome State Fault Refusal :=
  .next <| s.lgtRunOp n 3 fun w t =>
    if bitOf w 0 && t.get (F.LGT_STAT_RC n) < t.get (F.LGT_THRS_DRAINAT n) then t.lgtNext n
    else
      match t.lgtDrain n (bitOf w 1) with
      | some u => u.lgtNext n
      | none => t.lgtStall n true

/-- LGT_DRIVE (R540). -/
def execLgtDrive (n : Fin 8) (s : State) : Host.Outcome State Fault Refusal :=
  .next <| s.lgtRunOp n 4 fun w t =>
    ((t.lgtOut n 8).foldl
      (fun (u : State) (p : Nat × Nat) =>
        let b := bitOf w p.1
        match bitsOf w 25 2 with
        | 0 => u.lgtLevel n p.2 b
        | 1 => u.lgtDir n p.2 b
        | _ => if b then u.lgtLevel n p.2 (!bitOf u.pads.level p.2) else u) t).lgtNext n

/-- The end of an AWAIT whose condition holds: a trigger latch that ended it is consumed (R540). -/
def State.lgtAwaitDone (s : State) (n w : Nat) : State :=
  let s1 := if bitsOf w 25 2 = 2 then s.setEngine n { s.engine n with latch := false } else s
  (s1.lgtTo n 1).lgtNext n

/-- Whether the condition of an AWAIT holds now; an edge holds only when it comes. -/
def State.lgtAwaited (s : State) (n w : Nat) : Bool :=
  match bitsOf w 25 2 with
  | 0 => s.lgtIn n (bitsOf w 0 6) == bitOf w 24
  | 2 => (s.engine n).latch
  | _ => false

/-- LGT_AWAIT (R535, R540). -/
def execLgtAwait (n : Fin 8) (s : State) : Host.Outcome State Fault Refusal :=
  .next <| s.lgtRunOp n 5 fun w t => if t.lgtAwaited n w then t.lgtAwaitDone n w else t.lgtTo n 2

/-- Whether an engine waits at an AWAIT. -/
def State.lgtWaits (s : State) (n : Nat) : Bool := s.powered 9 && s.lgtState n == 2 && lgtOp (s.lgtWord n) == 5

/-- LGT_AWAIT_END: the awaited level stands, the trigger latch is set, or the awaited edge has come. -/
def execLgtAwaitEnd (n : Fin 8) (s : State) : Host.Outcome State Fault Refusal :=
  .next <|
    let w := s.lgtWord n
    if s.lgtWaits n && (bitsOf w 25 2 == 1 || s.lgtAwaited n w) then s.lgtAwaitDone n w else s

/-- LGT_AWAIT_TIMEOUT. -/
def execLgtAwaitTimeout (n : Fin 8) (s : State) : Host.Outcome State Fault Refusal :=
  .next <|
    if s.lgtWaits n && bitOf (s.lgtWord n) 23 then ((s.put (F.LGT_STAT_TO n) 1).lgtTo n 1).lgtNext n else s

/-- LGT_PAUSE: the whole wait of N + 1 cycles. -/
def execLgtPause (n : Fin 8) (s : State) : Host.Outcome State Fault Refusal := .next (s.lgtRunOp n 6 fun _ t => t.lgtNext n)

/-- LGT_SET (R540). -/
def execLgtSet (n : Fin 8) (s : State) : Host.Outcome State Fault Refusal :=
  .next <| s.lgtRunOp n 7 fun w t =>
    let imm := bitsOf w 0 16
    let mr := t.get (F.LGT_MR_MR n)
    (match bitsOf w 25 2 with
      | 0 => t.put (F.LGT_LC_LC n) imm
      | 1 => t.put (F.LGT_LC_TM n) imm
      | 2 => t.put (F.LGT_MR_MR n) (mr / 65536 * 65536 + imm)
      | _ => t.put (F.LGT_MR_MR n) (imm * 65536 + mr % 65536)).lgtNext n

/-- LGT_LOOP (R536, R540). -/
def execLgtLoop (n : Fin 8) (s : State) : Host.Outcome State Fault Refusal :=
  .next <| s.lgtRunOp n 8 fun w t =>
    let lc := t.get (F.LGT_LC_LC n)
    if lc ≠ 0 then (t.put (F.LGT_LC_LC n) (lc - 1)).put (F.LGT_STAT_PC n) (bitsOf w 0 5) else t.lgtNext n

/-- Whether a JUMP's condition holds (R540). -/
def State.lgtCond (s : State) (n w : Nat) : Bool :=
  match bitsOf w 24 3 with
  | 0 => true
  | 1 => s.lgtIn n (bitsOf w 8 6)
  | 2 => !s.lgtIn n (bitsOf w 8 6)
  | 3 => s.on (F.LGT_STAT_TO n)
  | 4 => (s.engine n).tx.isEmpty
  | 5 => (s.engine n).rx.length == 8
  | 6 => s.get (F.LGT_SH_SH n) == s.get (F.LGT_MR_MR n)
  | _ => s.get (F.LGT_THRS_DRAINAT n) ≤ s.get (F.LGT_STAT_RC n)

/-- LGT_JUMP (R536, R540). -/
def execLgtJump (n : Fin 8) (s : State) : Host.Outcome State Fault Refusal :=
  .next <| s.lgtRunOp n 9 fun w t =>
    if t.lgtCond n w then
      (if bitsOf w 24 3 = 3 then t.put (F.LGT_STAT_TO n) 0 else t).put (F.LGT_STAT_PC n) (bitsOf w 0 5)
    else t.lgtNext n

/-- The bytes of a word in reverse. -/
def byteReverse (v : Nat) : Nat :=
  bitsOf v 0 8 * 2 ^ 24 + bitsOf v 8 8 * 2 ^ 16 + bitsOf v 16 8 * 2 ^ 8 + bitsOf v 24 8

/-- LGT_MOVE (R540, R542). -/
def execLgtMove (n : Fin 8) (s : State) : Host.Outcome State Fault Refusal :=
  .next <| s.lgtRunOp n 10 fun w t =>
    let src :=
      match bitsOf w 21 3 with
      | 0 => ofBits (t.get (F.LGT_THRS_ICNT n)) fun i => t.lgtIn n i
      | 1 => t.get (F.LGT_SH_SH n)
      | 2 => t.get (F.LGT_LC_LC n)
      | 3 => t.get (F.LGT_MR_MR n)
      | _ => 0
    let v :=
      match bitsOf w 19 2 with
      | 0 => src
      | 1 => byteReverse src
      | _ => 2 ^ 32 - 1 - src
    (match bitsOf w 24 3 with
      | 0 => t.puts [(F.LGT_SH_SH n, v), (F.LGT_STAT_SC n, 0)]
      | 1 => t.put (F.LGT_LC_LC n) v
      | 2 => t.put (F.LGT_MR_MR n) v
      | 3 => (t.lgtOut n 32).foldl (fun (u : State) (p : Nat × Nat) => u.lgtLevel n p.2 (bitOf v p.1)) t
      | _ => (t.lgtOut n 32).foldl (fun (u : State) (p : Nat × Nat) => u.lgtDir n p.2 (bitOf v p.1)) t).lgtNext n

/-- Raise LGTn_IRQ (R540, R544). -/
def State.lgtIrq (s : State) (n code pc : Nat) : State :=
  s.raiseK (112 + n) code pc [("CODE", Text.dec code), ("PC", Text.dec pc)]

/-- LGT_NOTE (R540). -/
def execLgtNote (n : Fin 8) (s : State) : Host.Outcome State Fault Refusal :=
  .next <| s.lgtRunOp n 11 fun w t =>
    let t1 := if bitOf w 17 then t.lgtIrq n (bitsOf w 0 16) (t.get (F.LGT_STAT_PC n)) else t
    (if bitOf w 16 then t1.fire (34 + n) else t1).lgtNext n

/-- LGT_ILLEGAL (R544). -/
def execLgtIllegal (n : Fin 8) (s : State) : Host.Outcome State Fault Refusal :=
  .next <|
    if s.powered 9 && s.lgtState n == 1 && lgtIllegal (s.lgtWord n) then
      ((s.lgtTo n 0).put (F.LGT_STAT_ILL n) 1).lgtIrq n 0x80000000 (s.get (F.LGT_STAT_PC n))
    else s

/-- LGT_STALL_END (R545, R549): the engine executes the instruction at PC from its start. -/
def execLgtStallEnd (n : Fin 8) (s : State) : Host.Outcome State Fault Refusal :=
  .next <|
    let clear := if s.on (F.LGT_STAT_WHY n) then (s.engine n).rx.length < 8 else !(s.engine n).tx.isEmpty
    if s.lgtState n == 3 && clear then s.lgtTo n 1 else s

/-- The offset of engine `n`'s command register. -/
def lgtCmdOfs (n : Nat) : Nat := 0x10C + n * 0x40

/-- Whether RUN has nothing to start: the engine is not stopped, or in BASIC it has no library program (R547, R553). -/
def State.lgtHeld (s : State) (n : Nat) : Bool := s.lgtState n != 0 || (!s.expert .lgt && s.get (F.LGT_CFG_LIB n) == 0)

/-- Whether the ledger refuses RUN (R37). -/
def State.lgtRefuses (s : State) (n : Nat) : Bool := !s.lgtHeld n && !ledgerGrants s (s.lgtTo n 1)

/-- RUN (R547, R553): a stopped engine runs under the ledger; in BASIC with LIB 0 it stays stopped. -/
def State.lgtRun (s : State) (n : Nat) (side : Side) : State :=
  if s.lgtHeld n then s else s.underLedger .lgt (lgtCmdOfs n) side (s.lgtTo n 1)

/-- STOP (R547). -/
def State.lgtStop (s : State) (n : Nat) : State := s.lgtTo n 0

/-- Whether an engine runs or waits (R548). -/
def State.lgtRuns (s : State) (n : Nat) : Bool := s.lgtState n == 1 || s.lgtState n == 2

/-- CLRSHIFT (R550). -/
def State.lgtClear (s : State) (n : Nat) : State :=
  s.puts [(F.LGT_SH_SH n, 0), (F.LGT_STAT_RC n, 0), (F.LGT_STAT_SC n, 32)]

/-- LGT_CMD_RUN. -/
def execLgtCmdRun (side : Side) (n : Fin 8) (s : State) : Host.Outcome State Fault Refusal :=
  .next (s.access .lgt (lgtCmdOfs n) side.master true fun u => u.guard .lgt (lgtCmdOfs n) side false fun t => t.lgtRun n side)

/-- LGT_CMD_STOP. -/
def execLgtCmdStop (side : Side) (n : Fin 8) (s : State) : Host.Outcome State Fault Refusal :=
  .next (s.access .lgt (lgtCmdOfs n) side.master true fun u => u.guard .lgt (lgtCmdOfs n) side false fun t => t.lgtStop n)

/-- LGT_CMD_CLRSHIFT. -/
def execLgtCmdClrshift (side : Side) (n : Fin 8) (s : State) : Host.Outcome State Fault Refusal :=
  .next <| s.access .lgt (lgtCmdOfs n) side.master true fun u =>
    u.guardBusy .lgt (lgtCmdOfs n) side true (u.lgtRuns n) fun t => t.lgtClear n

/-- LGT_CMD_CLRFIFO. -/
def execLgtCmdClrfifo (side : Side) (n : Fin 8) (s : State) : Host.Outcome State Fault Refusal :=
  .next <| s.access .lgt (lgtCmdOfs n) side.master true fun u =>
    u.guard .lgt (lgtCmdOfs n) side false fun t => t.lgtFifos n [] []

/-- LGT_CMD_SETPC. -/
def execLgtCmdSetpc (side : Side) (n : Fin 8) (s : State) : Host.Outcome State Fault Refusal :=
  .next <| s.access .lgt (lgtCmdOfs n) side.master true fun u => u.guardBusy .lgt (lgtCmdOfs n) side true (u.lgtRuns n) fun t =>
    t.put (F.LGT_STAT_PC n) (t.get (F.LGT_CMD_PC n))

/-- A push into a TX FIFO (R545). -/
def State.lgtPush (s : State) (n v : Nat) : State :=
  let e := s.engine n
  if 8 ≤ e.tx.length then s.put (F.LGT_FIFO_TXOVF n) 1 else s.lgtFifos n (e.tx ++ [v]) e.rx

/-- LGT_TXF_WRITE (R545, R554): either side, never counted. -/
def execLgtTxfWrite (n : Fin 8) (value : Word) (s : State) : Host.Outcome State Fault Refusal :=
  .next (s.access .lgt (0x118 + n * 0x40) 1 true fun t => t.lgtPush n value.toNat)

/-- A pop of an RX FIFO (R545). -/
def State.lgtPop (s : State) (n : Nat) : State :=
  let e := s.engine n
  match e.rx with
  | [] => { s.put (F.LGT_FIFO_RXUNF n) 1 with busData := 0 }
  | v :: r => { s.lgtFifos n e.tx r with busData := BitVec.ofNat 32 v }

/-- LGT_RXF_READ. -/
def execLgtRxfRead (n : Fin 8) (s : State) : Host.Outcome State Fault Refusal :=
  .next (s.access .lgt (0x11C + n * 0x40) 1 false fun t => t.lgtPop n)

/-- The words and fields that firmware derives for a library program in BASIC (R553). -/
def State.deriveLib (s : State) (n : Nat) : State :=
  let k := s.get (F.LGT_CFG_LIB n)
  if s.expert .lgt || k == 0 then s
  else
    let s1 := (List.range 32).foldl (fun t j => t.put (F.LGT_IMEM_WORD n j) (Config.libraryWord k j)) s
    let fields := [F.LGT_CFG_WRAP_BOT n, F.LGT_CFG_WRAP_TOP n, F.LGT_CFG_ORDER n, F.LGT_CFG_AUTOFILL n,
      F.LGT_CFG_AUTODRAIN n, F.LGT_CFG_STEPW n, F.LGT_THRS_FILLAT n, F.LGT_THRS_DRAINAT n, F.LGT_THRS_ICNT n,
      F.LGT_FIFO_TXTH n, F.LGT_FIFO_RXTH n]
    s1.puts (fields.zipIdx.map fun f => (f.1, Config.libraryField k f.2))

/-- The engine of a program or configuration offset of the block (R554). -/
def lgtOf (ofs : Nat) : Nat := if 0x800 ≤ ofs then (ofs - 0x800) / 0x80 % 8 else (ofs - 0x100) / 0x40 % 8

/-- A write of an instruction word, CFG, PINS or THRS (R548): ignored while the engine runs or waits. A change of LIB applies
only while it is stopped (R553). -/
def State.lgtConfig (s : State) (side : Side) (ofs v : Nat) : State :=
  let n := lgtOf ofs
  if side ≠ s.owner .lgt then s.deny .lgt 0 ofs side
  else if s.lgtRuns n then
    ((s.put (F.LGT_FIFO_IMWR n) 1).put F.LGT_SUM_IMERR (withBit (s.get F.LGT_SUM_IMERR) n true)).deny .lgt 3 ofs side
  else
    let lib := s.get (F.LGT_CFG_LIB n)
    let s1 := s.writeFields .lgt ofs side v
    let s2 := if s.lgtState n ≠ 0 then s1.put (F.LGT_CFG_LIB n) lib else s1
    if s2.get (F.LGT_CFG_LIB n) = lib then s2 else s2.deriveLib n

/-- LGT_IMEM_WRITE: `ofs` is that of an instruction word, or of CFG, PINS or THRS of an engine. -/
def execLgtImemWrite (side : Side) (ofs : BitVec 12) (value : Word) (s : State) : Host.Outcome State Fault Refusal :=
  .next <|
    let o := ofs.toNat / 4 * 4
    if 0x800 ≤ o ∨ (0x100 ≤ o ∧ o < 0x300 ∧ [0, 4, 0x2C].contains (o % 0x40)) then
      s.access .lgt o side.master true fun t => t.lgtConfig side o value.toNat
    else s

/-- A write of LGTn_DIV (R538): INT 0 leaves both fields unchanged. -/
def State.lgtSetDiv (s : State) (n v : Nat) : State :=
  if bitsOf v 8 16 = 0 then s else s.puts [(F.LGT_DIV_FRAC n, bitsOf v 0 8), (F.LGT_DIV_INT n, bitsOf v 8 16)]

/-- Facts of the commands of the LGT group. -/
def lgtCmd : CmdInfo := { block := some .lgt, expert := true }

/-- LGT_QUERY (R555). -/
def execLgtQuery (x : Sess) (n : Fin 8) (s : State) : Host.Outcome State Fault Refusal :=
  .next <| s.run x { block := some .lgt, query := true } fun t =>
    (t.reply x ("LGT " ++ Text.dec n ++ " STATE=" ++
      Name.pick ["STOPPED", "RUNNING", "WAITING", "STALLED"] (t.lgtState n) ++ " PC=" ++
      Text.dec (t.get (F.LGT_STAT_PC n)) ++ " TX=" ++ Text.dec (t.engine n).tx.length ++ " RX=" ++
      Text.dec (t.engine n).rx.length ++ " LIB=" ++ Text.dec (t.get (F.LGT_CFG_LIB n)))).ok x

/-- LGT_LOAD (R548, R555). -/
def execLgtLoad (x : Sess) (n : Fin 8) (start : Fin 32) (words : List Word) (s : State) :
    Host.Outcome State Fault Refusal :=
  .next <| s.run x lgtCmd fun t =>
    let t1 := t.needDomain 9
    let t2 := (words.zipIdx.take (32 - start)).foldl
      (fun u w => u.lgtConfig .console (0x800 + n * 0x80 + 4 * (start + w.2)) w.1.toNat) t1
    if t1.lgtRuns n then t2.er x 230 else t2.ok x

/-- LGT_RUN (R547). -/
def execLgtRun (x : Sess) (n : Fin 8) (s : State) : Host.Outcome State Fault Refusal :=
  .next <| s.run x lgtCmd fun t =>
    let t1 := t.needDomain 9
    if t1.lgtState n ≠ 0 then t1.ok x else t1.settle x .lgt (lgtCmdOfs n) (t1.lgtTo n 1)

/-- LGT_STOP (R547). -/
def execLgtStop (x : Sess) (n : Fin 8) (s : State) : Host.Outcome State Fault Refusal :=
  .next (s.run x lgtCmd fun t => ((t.needDomain 9).lgtStop n).ok x)

/-- LGT_CLRSHIFT (R550). -/
def execLgtClrshift (x : Sess) (n : Fin 8) (s : State) : Host.Outcome State Fault Refusal :=
  .next <| s.run x lgtCmd fun t =>
    let t1 := t.needDomain 9
    if t1.lgtRuns n then t1.er x 230 else (t1.lgtClear n).ok x

/-- LGT_DIV (R538): `div` is INT x 256 + FRAC. -/
def execLgtDiv (x : Sess) (n : Fin 8) (div : Nat) (s : State) : Host.Outcome State Fault Refusal :=
  .next (s.run x lgtCmd fun t => ((t.needDomain 9).lgtSetDiv n div).ok x)

end Sys2Proof.Machine
end

