-- ==== Sys2Proof/Machine/Rtc.lean ====
section
/-! DEFINITION. The RTC's events and commands: second boundaries, alarms, sets, shifts, the interface lock, discipline
(R304 to R323). -/

namespace Sys2Proof.Machine

/-- A masked compare of a calendar field. -/
def fieldMatch (want : Nat) (masked : Bool) (have_ : Nat) : Bool := masked || want == have_

/-- Whether alarm `k` (0 or 1) matches the present second (R311). -/
def State.alarmMatch (s : State) (k : Nat) : Bool :=
  if s.on F.RTC_CTRL_MODE then
    let d := Cal.dateOf s.rtc.cal
    let f := fun (v m : Nat → Fld) (x : Nat) => fieldMatch (s.get (v k)) (s.on (m k)) x
    f F.RTC_ALM_C0_SEC F.RTC_ALM_C0_MSEC (Cal.bcd d.second) && f F.RTC_ALM_C0_MIN F.RTC_ALM_C0_MMIN (Cal.bcd d.minute) &&
      f F.RTC_ALM_C0_HOUR F.RTC_ALM_C0_MHOUR (Cal.bcd d.hour) &&
      f F.RTC_ALM_C0_WDAY F.RTC_ALM_C0_MWDAY (Cal.weekday s.rtc.cal) &&
      f F.RTC_ALM_C1_DAY F.RTC_ALM_C1_MDAY (Cal.bcd d.day) &&
      f F.RTC_ALM_C1_MONTH F.RTC_ALM_C1_MMONTH (Cal.bcd d.month) &&
      f F.RTC_ALM_C1_YEAR F.RTC_ALM_C1_MYEAR (Cal.bcd (d.year % 100)) &&
      f F.RTC_ALM_C1_CENT F.RTC_ALM_C1_MCENT (d.year / 100 - 20)
  else
    let cmp := s.get (F.RTC_ALM_BCMPL_CMP k) + s.get (F.RTC_ALM_BCMPH_CMP k) * 2 ^ 32
    let msk := s.get (F.RTC_ALM_BMSKL_MSK k) + s.get (F.RTC_ALM_BCMPH_MSK k) * 2 ^ 32
    without (s.rtc.bin ^^^ cmp) msk == 0

/-- The enable and the flag of an alarm. -/
def alarmEnable (k : Nat) : Fld := if k = 0 then F.RTC_ALMCTL_EN1 else F.RTC_ALMCTL_EN2
def alarmFlag (k : Nat) : Fld := if k = 0 then F.RTC_STAT_ALM1 else F.RTC_STAT_ALM2

/-- The alarms compared at a boundary (R311): a match raises RTC_ALARMk, fires its producer, and wakes. -/
def State.alarms (s : State) : State :=
  [0, 1].foldl
    (fun t k =>
      if t.on (alarmEnable k) && t.alarmMatch k then
        (((t.put (alarmFlag k) 1).raise0 (Src.RTC_ALARM1 + k)).fire (16 + k)).wake k
      else t) s

/-- The counts of a boundary that takes no set: BINARY modulo 2^40, CALENDAR with its roll-over; both set OSF where
R300 and R302 say. -/
def State.countSecond (s : State) : State :=
  let b := (s.rtc.bin + 1) % 2 ^ 40
  let c := s.rtc.cal + 1
  let rolls := c = Cal.span
  let s1 := s.withRtc fun r => { r with bin := b, cal := if rolls then 0 else c, pre := 0 }
  if rolls ∨ b = 2 ^ 40 - Cal.base then s1.rtcOsf else s1

/-- What follows a set of the discipline (R320): the write of 1 to OSF, and the shift for the remaining fraction. -/
def State.afterSet (s : State) : State :=
  let s1 := if s.rtc.clearOsf && s.on F.RTC_STAT_TSET then s.put F.RTC_STAT_OSF 0 else s
  let s2 := s1.withRtc fun r => { r with clearOsf := false, after := none }
  match s.rtc.after with
  | some c => if c = 0 then s2 else s2.startShift c
  | none => s2

/-- A waiting shift begins at the boundary (R309). -/
def State.beginShift (s : State) : State :=
  if s.rtc.shiftPend then
    s.withRtc fun r => { r with shiftPend := false, shift := some (s.getS F.RTC_SHIFT_COUNT), edges := 0 }
  else s

/-- RTC_SECOND_BOUNDARY (R298, R305, R309, R311). -/
def execRtcSecondBoundary (s : State) : Host.Outcome State Fault Refusal :=
  .next <|
    let waiting := s.rtc.setPend
    let refused := s.on F.RTC_CTRL_MODE && s.stagedDate.isNone
    let s1 := if waiting && refused then s.applySet.countSecond else if waiting then s.applySet else s.countSecond
    let s2 := s1.beginShift
    let s3 := if waiting then s2.afterSet else s2
    (s3.fire 18).alarms

/-- A write to the RTC from a side: discarded without count while the interface is locked (R314), denied on the side that
does not own the block. -/
def State.rtcWrite (s : State) (side : Side) (ofs : Nat) (act : State → State) : State :=
  if s.on F.RTC_STAT_LOCKED then s else s.guard .rtc ofs side false act

/-- RTC_APPLY_NOW. -/
def execRtcApplyNow (side : Side) (s : State) : Host.Outcome State Fault Refusal :=
  .next (s.rtcWrite side 0x30 State.applySet)

/-- RTC_APPLY_SECOND. -/
def execRtcApplySecond (side : Side) (s : State) : Host.Outcome State Fault Refusal :=
  .next (s.rtcWrite side 0x30 State.setAtSecond)

/-- A pending set is withdrawn. -/
def State.cancelSet (s : State) : State :=
  (s.withRtc fun r => { r with setPend := false, clearOsf := false, after := none }).put F.RTC_APPLY_PEND 0

/-- RTC_APPLY_CANCEL. -/
def execRtcApplyCancel (side : Side) (s : State) : Host.Outcome State Fault Refusal :=
  .next (s.rtcWrite side 0x30 State.cancelSet)

/-- A START write: ignored while a shift or a set is pending (R310), which counts in DENIED (R671). -/
def State.shiftStart (s : State) (side : Side) : State :=
  if s.on F.RTC_STAT_LOCKED then s
  else s.guardBusy .rtc 0x38 side false s.rtcBusy fun t => t.startShift (t.getS F.RTC_SHIFT_COUNT)

/-- RTC_SHIFT_START. -/
def execRtcShiftStart (side : Side) (s : State) : Host.Outcome State Fault Refusal := .next (s.shiftStart side)

/-- RTC_SHIFT_END (R309). -/
def execRtcShiftEnd (s : State) : Host.Outcome State Fault Refusal :=
  .next <|
    if s.rtc.shift.isSome then
      (s.withRtc fun r => { r with shift := none, edges := 0 }).flag F.RTC_SHIFT_PEND s.rtc.shiftPend
    else s

/-- RTC_BSEC_READ. -/
def execRtcBsecRead (side : Side) (s : State) : Host.Outcome State Fault Refusal := .next (s.captureRtc side)

/-- RTC_SNAPSHOT_EXPIRY. -/
def execRtcSnapshotExpiry (side : Side) (s : State) : Host.Outcome State Fault Refusal :=
  .next (s.withRtc fun r => r.setSnap side none)

/-- A read of word `i` (1 to 3) of the time group by a side: the snapshot's, or the live one; RTC_CAL1 ends the
snapshot. -/
def State.rtcWord (s : State) (side : Side) (i : Nat) : Nat × State :=
  let v := ((s.rtc.snap side).getD s.rtcGroup).getD i 0
  (v, if i = 3 then s.withRtc fun r => r.setSnap side none else s)

/-- RTC_OSF_WRITE (R317): without a set time the write is ignored, which counts in DENIED (R671). -/
def execRtcOsfWrite (side : Side) (s : State) : Host.Outcome State Fault Refusal :=
  .next <|
    if s.on F.RTC_STAT_LOCKED then s
    else s.guardBusy .rtc 0x3C side false (!s.on F.RTC_STAT_TSET) fun t => t.put F.RTC_STAT_OSF 0

/-- RTC_INTERFACE_LOCK (R313, R314): `vbkp` says that VBKP is then the higher supply. -/
def execRtcInterfaceLock (vbkp : Bool) (s : State) : Host.Outcome State Fault Refusal :=
  .next <|
    let s1 := (s.put F.RTC_STAT_LOCKED 1).flag F.RTC_STAT_SRC vbkp
    if s.rtc.setPend then s1.cancelSet.put F.RTC_STAT_STAGE_LOST 1 else s1

/-- RTC_INTERFACE_UNLOCK (R315). -/
def execRtcInterfaceUnlock (s : State) : Host.Outcome State Fault Refusal :=
  .next ((s.put F.RTC_STAT_SRC 0).put F.RTC_STAT_LOCKED 0)

/-- The backup domain's reset (R316): every RTC register at its reset value, OSF set among them. -/
def State.backupReset (s : State) : State :=
  { s with regs := Store.clear (0x4000B010 * 32) (0x4000C000 * 32) s.regs, rtc := RtcState.reset }

/-- BACKUP_DOMAIN_RESET (R316, R319): RTC_OSF is raised, and the event recorded. -/
def execBackupDomainReset (s : State) : Host.Outcome State Fault Refusal :=
  .next (s.backupReset.raise0 Src.RTC_OSF).systemRecord

/-- UTC from the Tide counter in 1/32768 s since 2000-01-01 (R274): GPS time began 7300 days and 5 less before it. -/
def State.utcTicks (s : State) : Int :=
  ((s.tide.now : Int) - s.getS F.TIDE_LEAP_CUR * (tideOne : Int)) / ((2 ^ 41 : Nat) : Int) - 630720000 * 32768

/-- The RTC's own time in the same units. -/
def State.rtcTicks (s : State) : Int := (s.rtc.cal : Int) * 32768 + (s.rtc.pre : Int)

/-- RTC_DISCIPLINE (R320, R321). -/
def execRtcDiscipline (s : State) : Host.Outcome State Fault Refusal :=
  .next <|
    if s.owner .rtc = .console ∧ s.on F.RTC_CTRL_DISC_EN ∧ s.get F.TIDE_STAT_STATE = 1 ∧ !s.on F.RTC_STAT_LOCKED ∧
        !s.rtcBusy then
      let d := s.utcTicks - s.rtcTicks
      let next := s.utcTicks + (32768 - (s.rtc.pre : Int))
      let note := fun (t : State) => t.put F.RTC_DISCT_SEC t.rtc.bin
      if s.on F.RTC_STAT_OSF then
        note (((s.stage (next / 32768).toNat).setAtSecond).withRtc fun r => { r with clearOsf := true })
      else if d = 0 then s
      else if d.natAbs < 32768 then note (s.startShift d)
      else note (((s.stage (next / 32768).toNat).setAtSecond).withRtc fun r => { r with after := some (next % 32768) })
    else s

/-- Facts of the commands of the RTC group. -/
def rtcCmd : CmdInfo := { block := some .rtc, heritage := true }

/-- RTC_MODE (R299, R303). -/
def execRtcMode (x : Sess) (calendar : Bool) (s : State) : Host.Outcome State Fault Refusal :=
  .next <| s.run x rtcCmd fun t =>
    if !calendar && t.get F.GNSS_MODE_ACT_MODE == 6 then t.er x 230
    else (if t.on F.RTC_STAT_LOCKED then t else t.flag F.RTC_CTRL_MODE calendar).ok x

/-- RTC_SET (R308). -/
def execRtcSet (x : Sess) (d : DateTime) (frac : Option (BitVec 15)) (atSecond : Bool) (s : State) :
    Host.Outcome State Fault Refusal :=
  .next <| s.run x rtcCmd fun t =>
    if !Cal.valid d || (atSecond && frac.isSome) then t.er x 120
    else if t.on F.RTC_STAT_LOCKED then t.ok x
    else
      let t1 := t.stage (Cal.count d)
      if atSecond then t1.setAtSecond.ok x
      else
        let t2 := t1.applySet
        (match frac with
          | some f => if f = 0 ∨ t2.rtcBusy then t2 else t2.startShift f.toNat
          | none => t2).ok x

/-- RTC_SHIFT (R309, R310): the count in 1/32768 s. -/
def execRtcShift (x : Sess) (count : Int) (s : State) : Host.Outcome State Fault Refusal :=
  .next <| s.run x rtcCmd fun t =>
    if 32767 < count.natAbs then t.er x 120
    else if t.rtcBusy then t.er x 230
    else (if t.on F.RTC_STAT_LOCKED then t else t.startShift count).ok x

/-- The fields of an alarm's calendar words. -/
def alarmFields (k c0 c1 : Nat) : List (Fld × Nat) :=
  [(F.RTC_ALM_C0_SEC k, c0), (F.RTC_ALM_C0_MSEC k, bitsOf c0 7 1), (F.RTC_ALM_C0_MIN k, bitsOf c0 8 7),
    (F.RTC_ALM_C0_MMIN k, bitsOf c0 15 1), (F.RTC_ALM_C0_HOUR k, bitsOf c0 16 6), (F.RTC_ALM_C0_MHOUR k, bitsOf c0 23 1),
    (F.RTC_ALM_C0_WDAY k, bitsOf c0 24 3), (F.RTC_ALM_C0_MWDAY k, bitsOf c0 27 1), (F.RTC_ALM_C1_DAY k, c1),
    (F.RTC_ALM_C1_MDAY k, bitsOf c1 7 1), (F.RTC_ALM_C1_MONTH k, bitsOf c1 8 5), (F.RTC_ALM_C1_MMONTH k, bitsOf c1 15 1),
    (F.RTC_ALM_C1_YEAR k, bitsOf c1 16 8), (F.RTC_ALM_C1_CENT k, bitsOf c1 24 2), (F.RTC_ALM_C1_MYEAR k, bitsOf c1 26 1),
    (F.RTC_ALM_C1_MCENT k, bitsOf c1 27 1)]

/-- The fields of an alarm's binary words. -/
def alarmBinary (k cmp msk : Nat) : List (Fld × Nat) :=
  [(F.RTC_ALM_BCMPL_CMP k, cmp), (F.RTC_ALM_BCMPH_CMP k, cmp / 2 ^ 32), (F.RTC_ALM_BCMPH_MSK k, msk / 2 ^ 32),
    (F.RTC_ALM_BMSKL_MSK k, msk)]

/-- RTC_ALARM (R311): sets the alarm's time and mask and enables it. -/
def execRtcAlarm (x : Sess) (k : Fin 2) (a : AlarmSet) (s : State) : Host.Outcome State Fault Refusal :=
  .next <| s.run x rtcCmd fun t =>
    if t.on F.RTC_STAT_LOCKED then t.ok x
    else
      let t1 := match a with
        | .calendar c0 c1 => t.puts (alarmFields k c0.toNat c1.toNat)
        | .binary c m => t.puts (alarmBinary k c.toNat m.toNat)
      (t1.put (alarmEnable k) 1).ok x

/-- RTC_TRICKLE (R322). -/
def execRtcTrickle (x : Sess) (res : Fin 4) (diode : Bool) (s : State) : Host.Outcome State Fault Refusal :=
  .next <| s.run x rtcCmd fun t =>
    (if t.on F.RTC_STAT_LOCKED then t
      else (t.put F.RTC_CTRL_TRK_RES res).flag F.RTC_CTRL_TRK_DIODE diode).ok x

/-- RTC_OSF_QUERY. -/
def execRtcOsfQuery (x : Sess) (s : State) : Host.Outcome State Fault Refusal :=
  .next <| s.run x { rtcCmd with query := true } fun t => (t.reply x ("RTC OSF " ++ Text.dec (t.get F.RTC_STAT_OSF))).ok x

/-- RTC_OSF_CLEAR (R317). -/
def execRtcOsfClear (x : Sess) (s : State) : Host.Outcome State Fault Refusal :=
  .next <| s.run x rtcCmd fun t =>
    if t.on F.RTC_STAT_OSF && !t.on F.RTC_STAT_TSET then t.er x 403
    else (if t.on F.RTC_STAT_LOCKED then t else t.put F.RTC_STAT_OSF 0).ok x

end Sys2Proof.Machine
end

