-- ==== Sys2Proof/Machine/Touch.lean ====
section
/-! DEFINITION. Touch sensing: scans, key states and baselines, neighbour groups, references, proximity, the self-test and
the console commands (R593 to R607). -/

namespace Sys2Proof.Machine

/-- The counts of a key. -/
def State.keyCount (s : State) (n : Nat) : KeyCount := Store.get (fun _ => KeyCount.reset) s.touch.keys n

/-- The state with the counts of a key replaced. -/
def State.setKeyCount (s : State) (n : Nat) (k : KeyCount) : State :=
  s.withTouch fun t => { t with keys := Store.set (fun _ => KeyCount.reset) t.keys n k }

/-- TOUCH_SCAN_START (R595). -/
def execTouchScanStart (s : State) : Host.Outcome State Fault Refusal :=
  .next (if s.powered 10 then s.touchStart else s)

/-- TOUCH_SEGMENT (R593, R596): the counts of the segment's keys, in order. -/
def execTouchSegment (counts : List (BitVec 16)) (s : State) : Host.Outcome State Fault Refusal :=
  .next <|
    match s.touch.scan, s.touch.segs with
    | some c, i :: r =>
      let keys := c.segments.getD i []
      let raws := (keys.zip counts).foldl (fun m p => Store.set (fun _ => 0) m p.1 p.2.toNat) s.touch.raws
      s.withTouch fun t => { t with segs := r, raws := raws }
    | _, _ => s

/-- TOUCH_SEGMENT_DISCARD (R596). -/
def execTouchSegmentDiscard (s : State) : Host.Outcome State Fault Refusal :=
  .next (if s.touch.scan.isSome && !s.touch.segs.isEmpty then s.count F.TOUCH_STAT_DISCARD else s)

/-- TOUCH_DQI_TIMEOUT (R597). -/
def execTouchDqiTimeout (s : State) : Host.Outcome State Fault Refusal :=
  .next <|
    if s.touch.scan.isSome && !s.touch.segs.isEmpty then
      ((s.withTouch fun t => { t with late := true }).put F.TOUCH_STAT_LATE 1).raise0 Src.TOUCH_DQI_LATE
    else s

/-- The reference record, if it was taken under these settings (R602). -/
def State.refFor (s : State) (mode pulses : Nat) (elec : List Nat) : Option TouchRef :=
  s.touch.ref.filter fun r => r.mode == mode && r.pulses == pulses && r.elec == elec

/-- A key after a scan: its detection (0 OFF, 1 detected, 3 STUCK), baseline, delta, START and counts, and whether it has
just become STUCK. -/
structure KeyNext where
  det : Nat
  base : Nat
  d : Int
  start : Bool
  cnt : KeyCount
  stuck : Bool
  deriving DecidableEq, Repr

/-- The first scan (R601): with a reference `r`, or with none. -/
def firstScan (c : ScanSet) (now raw : Nat) (r : Option Nat) : KeyNext :=
  match r with
  | some b =>
    if c.thr + b < raw then
      ⟨1, b, (raw : Int) - b, true, { KeyCount.reset with since := some now }, false⟩
    else ⟨0, raw, 0, false, KeyCount.reset, false⟩
  | none => ⟨0, raw, 0, false, KeyCount.reset, false⟩

/-- One count toward the raw count (R598 row 5). -/
def toward (base raw : Nat) : Nat := if base < raw then base + 1 else if raw < base then base - 1 else base

/-- The rows of R598 in order: `det` is the key's detection, `base` its baseline, `k` its counts. -/
def keyScan (c : ScanSet) (now on raw det base : Nat) (start : Bool) (k : KeyCount) : KeyNext :=
  let d0 := (raw : Int) - base
  let neg := if d0 ≤ -(c.negth : Int) then k.neg + 1 else 0
  let row1 := 3 ≤ neg
  let base1 := if row1 then raw else base
  let d := (raw : Int) - base1
  let det1 := if row1 ∧ det = 3 then 0 else det
  let deb := if det1 = 0 ∧ (c.thr : Int) ≤ d then k.deb + 1 else 0
  let det2 := if det1 = 0 ∧ c.ondeb ≤ deb ∧ (c.thr : Int) ≤ d then 1 else det1
  let det3 := if det2 = 1 ∧ d < (c.thr : Int) - c.hyst then 0 else det2
  let since := if det3 = 1 then (if det1 = 1 then k.since else some now) else none
  let full := match since with | some t => t + on * 2 ^ 56 ≤ now | none => false
  let stuck := det3 == 1 && full
  let det4 := if stuck then 3 else det3
  let base2 := if stuck then raw else base1
  let drifts := det4 = 0 ∧ !row1 ∧ 2 * d.natAbs < c.thr
  let drift := if drifts then k.drift + 1 else k.drift
  let moves := drifts ∧ c.blrate ≤ drift
  ⟨det4, if moves then toward base2 raw else base2, if stuck then 0 else d, start && det4 == 1,
    { neg := if row1 then 0 else neg, deb := if det4 = 0 then deb else 0, drift := if moves then 0 else drift,
      since := if det4 = 1 then since else none }, stuck⟩

/-- The members of each neighbour group (R599). -/
def ScanSet.members (c : ScanSet) : List (List Nat) :=
  (List.range 8).map fun g =>
    ((List.range 8).map fun i => bitsOf (c.groups.getD (2 * g + i / 4) 0) (8 * (i % 4)) 8).filter (· != 255)

/-- Whether a detected key is the strongest in each of its groups (R599). -/
def strongest (groups : List (List Nat)) (det : List (Nat × Int)) (n : Nat) (d : Int) : Bool :=
  groups.all fun g =>
    !g.contains n || det.all fun p => !g.contains p.1 || p.2 < d || (p.2 == d && n ≤ p.1)

/-- What a scan makes of a key before its groups are looked at. -/
def State.keyNext (s : State) (c : ScanSet) (ref : Option TouchRef) (n : Nat) : KeyNext :=
  let raw := Store.get (fun _ => 0) s.touch.raws n
  let st := s.get (F.TOUCH_KST_STATE n)
  if s.touch.first then firstScan c s.tide.up raw (ref.map fun r => r.raw.getD n 0)
  else
    let det := if s.touch.rebase && st == 3 then 0 else if st = 3 then 3 else if st = 0 then 0 else 1
    let base := if s.touch.rebase then raw else s.get (F.TOUCH_RAW_BASE n)
    keyScan c s.tide.up (s.get F.TOUCH_ONTIME_S) raw det base (s.on (F.TOUCH_KST_START n)) (s.keyCount n)

/-- Write a key's result, with the events of a change of its state (R598 to R600). -/
def State.putKey (s : State) (n raw : Nat) (k : KeyNext) (on : Bool) : State :=
  let old := s.get (F.TOUCH_KST_STATE n)
  let st := if k.det = 1 then (if on then 1 else 2) else k.det
  let s1 := (s.setKeyCount n k.cnt).puts
    [(F.TOUCH_RAW_RAW n, raw), (F.TOUCH_RAW_BASE n, k.base), (F.TOUCH_KST_STATE n, st),
      (F.TOUCH_KST_START n, bit k.start), (F.TOUCH_KST_DELTA n, pattern 16 k.d),
      (F.TOUCH_KEY_ON (n / 32), withBit (s.get (F.TOUCH_KEY_ON (n / 32))) (n % 32) (st == 1))]
  let s2 := if k.stuck then s1.raiseK Src.TOUCH_STUCK n 0 [("KEY", Text.dec n)] else s1
  if st = old then s2
  else
    (s2.raiseK Src.TOUCH_KEY (n + 256 * st + 65536 * pattern 16 k.d) 0
      [("KEY", Text.dec n), ("STATE", Text.dec st), ("D", Text.int k.d)]).fire 30

/-- A self-test begins (R604); the command that asked for it is answered. -/
def State.testBegin (s : State) (who : Option (Sess × String)) : State :=
  let t := (s.withTouch fun u => { u with test := none }).put F.TOUCH_STAT_TESTING 1
  match who with
  | some (x, tag) => ((t.withTag tag).ok x).withTag ""
  | none => t

/-- TOUCH_SCAN_END (R595, R598 to R602). -/
def execTouchScanEnd (s : State) : Host.Outcome State Fault Refusal :=
  .next <|
    match s.touch.scan with
    | none => s
    | some c =>
      if !s.touch.segs.isEmpty then s
      else
        let ref := s.refFor c.mode c.pulses c.elec
        let keys := c.segments.flatten
        let next := keys.map fun n => (n, s.keyNext c ref n)
        let det := (next.filter fun p => p.2.det == 1).map fun p => (p.1, p.2.d)
        let s1 := next.foldl
          (fun t p => t.putKey p.1 (Store.get (fun _ => 0) s.touch.raws p.1) p.2 (strongest c.members det p.1 p.2.d)) s
        let s2 := if s.touch.first then s1.flag F.TOUCH_STAT_NOREF ref.isNone else s1
        let starts := (next.filter fun p => p.2.start).length
        let s3 := if s.touch.first ∧ starts ≠ 0 then s2.raiseK Src.TOUCH_START starts 0 [("KEYS", Text.dec starts)] else s2
        let late := bit s.touch.late
        let s4 := (s3.withTouch fun t => { t with scan := none, first := false, rebase := false, late := false }).put
          F.TOUCH_STAT_BUSY 0
        let s5 := (s4.raiseK Src.TOUCH_SCAN late 0 [("LATE", Text.dec late)]).fire 31
        match s.touch.test with
        | some who => s5.testBegin who
        | none => s5

/-- TOUCH_CTRL_START (R595): a start while a scan or a test runs is not queued. -/
def execTouchCtrlStart (side : Side) (s : State) : Host.Outcome State Fault Refusal :=
  .next <| s.access .touch 0x14 side.master true fun t =>
    t.guardBusy .touch 0x14 side false (t.on F.TOUCH_STAT_BUSY || t.on F.TOUCH_STAT_TESTING) State.touchStart

/-- A self-test is asked for (R604): at the quiet point, that is the end of the scan in progress. -/
def State.touchTest (s : State) (who : Option (Sess × String)) : State :=
  if s.on F.TOUCH_STAT_BUSY then s.withTouch fun t => { t with test := some who } else s.testBegin who

/-- TOUCH_CTRL_TEST. -/
def execTouchCtrlTest (side : Side) (s : State) : Host.Outcome State Fault Refusal :=
  .next <| s.access .touch 0x14 side.master true fun t =>
    t.guardBusy .touch 0x14 side false (t.on F.TOUCH_STAT_TESTING || t.touch.test.isSome) fun u => u.touchTest none

/-- REBASE (R600). -/
def State.touchRebase (s : State) : State := s.withTouch fun t => { t with rebase := true }

/-- TOUCH_CTRL_REBASE. -/
def execTouchCtrlRebase (side : Side) (s : State) : Host.Outcome State Fault Refusal :=
  .next <| s.access .touch 0x14 side.master true fun t => t.guard .touch 0x14 side false State.touchRebase

/-- SAVEREF (R602). -/
def State.touchSaveRef (s : State) : State :=
  if s.get F.LIFE_STATE_STATE ≤ 2 then
    let c := s.scanSet
    s.withTouch fun t => { t with
      ref := some ⟨c.mode, c.pulses, c.elec, (List.range 192).map fun n => s.get (F.TOUCH_RAW_RAW n)⟩ }
  else s.put F.TOUCH_STAT_REFERR 1

/-- TOUCH_CTRL_SAVEREF. -/
def execTouchCtrlSaveref (side : Side) (s : State) : Host.Outcome State Fault Refusal :=
  .next <| s.access .touch 0x14 side.master true fun t => t.guard .touch 0x14 side false State.touchSaveRef

/-- Whether the GPIO block gives an electrode's pin to the touch function; an electrode it does not give measures as open
(R593). -/
def State.electrodeGiven (s : State) (k : Nat) : Bool := s.pinFunc (s.get (F.TOUCH_ELEC_PIN k)) == 3

/-- TOUCH_TEST_END (R604): `counts` holds each electrode's count measured alone, `rises` the rises of electrodes k - 1 and
k + 1 while k is driven. -/
def execTouchTestEnd (counts : List (BitVec 16)) (rises : List (BitVec 16 × BitVec 16)) (s : State) :
    Host.Outcome State Fault Refusal :=
  .next <|
    if !s.on F.TOUCH_STAT_TESTING then s
    else
      let c := s.scanSet
      let ref := if s.on F.TOUCH_STAT_NOREF then none else s.refFor c.mode c.pulses c.elec
      let base := fun k => match ref with
        | some r => if r.mode = 1 then r.raw.getD k 0 else Config.electrodeRef k
        | none => 0
      let count := fun k => if s.electrodeGiven k then (counts.getD k 0).toNat else 0
      let rise := fun k (up : Bool) => (if up then (rises.getD k (0, 0)).2 else (rises.getD k (0, 0)).1).toNat
      let hit := fun k (up : Bool) =>
        let j := if up then k + 1 else k - 1
        (up || k != 0) && j < 32 && c.on k && c.on j && s.electrodeGiven k && s.electrodeGiven j &&
          s.get F.TOUCH_TEST_XTH * base j < rise k up * 100
      let opens := if ref.isNone then 0 else ofBits 32 fun k => c.on k && count k * 100 < 30 * base k
      let shorts := if ref.isNone then 0 else ofBits 32 fun k =>
        c.on k && (170 * base k < count k * 100 || hit k true || hit k false || (k != 0 && hit (k - 1) true) ||
          (k != 31 && hit (k + 1) false))
      let n := fun m => ((List.range 32).filter fun i => bitOf m i).length
      ((s.puts [(F.TOUCH_OPEN_MASK, opens), (F.TOUCH_SHORT_MASK, shorts), (F.TOUCH_STAT_TESTING, 0)])).raiseK
        Src.TOUCH_TEST_DONE (n opens) (n shorts)
        ([("OPEN", Text.hex 8 opens), ("SHORT", Text.hex 8 shorts)] ++ if ref.isNone then [("REF", "NONE")] else [])

/-- PROXIMITY_SAMPLE (R603). -/
def execProximitySample (raw : BitVec 16) (s : State) : Host.Outcome State Fault Refusal :=
  .next <|
    if !s.proxRuns then s
    else
      let r := raw.toNat
      let base := if s.touch.proxBase then s.get F.TOUCH_PROXRAW_BASE else r
      let d := (r : Int) - base
      let thr := s.get F.TOUCH_PROX_THR
      let det := s.on F.TOUCH_PROX_DET
      let hits := if (thr : Int) ≤ d then s.touch.proxHits + 1 else 0
      let near := decide (2 * d.natAbs < thr) && !det
      let drift := if near then s.touch.proxDrift + 1 else s.touch.proxDrift
      let moves := near && 16 ≤ drift
      let s1 := (s.withTouch fun t => { t with
        proxBase := true, proxHits := hits, proxDrift := if moves then 0 else drift }).puts
        [(F.TOUCH_PROXRAW_RAW, r), (F.TOUCH_PROXRAW_BASE, if moves then toward base r else base)]
      if det then (if 2 * d < (thr : Int) then s1.put F.TOUCH_PROX_DET 0 else s1)
      else if 2 ≤ hits then (((s1.put F.TOUCH_PROX_DET 1).raise0 Src.TOUCH_PROX).fire 29).wake 8
      else s1

/-- The expert fields that firmware derives in BASIC (R605). -/
def State.deriveTouch (s : State) : State :=
  if s.expert .touch then s
  else
    let thr := s.get F.TOUCH_THR_THR
    s.puts [(F.TOUCH_CFG_PULSES, 125), (F.TOUCH_THR_HYST, thr / 4), (F.TOUCH_BL_ONDEB, 2), (F.TOUCH_BL_BLRATE, 16),
      (F.TOUCH_BL_NEGTH, thr / 2), (F.TOUCH_TEST_XTH, 10), (F.TOUCH_DQI_DQIWIN, 1000)]

/-- A write of TOUCH_CFG (R37, R593). -/
def State.touchCfgWrite (s : State) (side : Side) (v : Nat) : State :=
  if side ≠ s.owner .touch then s.deny .touch 0 0x10 side
  else s.underLedger .touch 0x10 side (s.writeFields .touch 0x10 side v)

/-- A write of TOUCH_ELECk (R603): one that names PC12 to PC15 while proximity runs leaves the register unchanged. -/
def State.touchElecWrite (s : State) (side : Side) (ofs v : Nat) : State :=
  if side ≠ s.owner .touch then s.deny .touch 0 ofs side
  else if s.proxRuns && 44 ≤ v % 64 && v % 64 ≤ 47 then s
  else s.writeFields .touch ofs side v

/-- Facts of the commands of the TOUCH group (R607, R676). -/
def touchCmd : CmdInfo := { block := some .touch, ownQuery := true }

/-- TOUCH_MODE. -/
def execTouchMode (x : Sess) (mode : Fin 4) (s : State) : Host.Outcome State Fault Refusal :=
  .next <| s.run x touchCmd fun t =>
    let u := t.needDomain 10
    u.settle x .touch 0x10 (u.put F.TOUCH_CFG_MODE mode)

/-- TOUCH_ONTIME. -/
def execTouchOntime (x : Sess) (sec : Nat) (s : State) : Host.Outcome State Fault Refusal :=
  .next (s.run x touchCmd fun t => ((t.needDomain 10).put F.TOUCH_ONTIME_S sec).ok x)

/-- TOUCH_TEST (R604, R607): `OK` once the test has started. -/
def execTouchTest (x : Sess) (s : State) : Host.Outcome State Fault Refusal :=
  .next <| s.run x touchCmd fun t =>
    let u := t.needDomain 10
    if u.on F.TOUCH_STAT_TESTING || u.touch.test.isSome then u.er x 230 else u.touchTest (some (x, u.console.tag))

end Sys2Proof.Machine
end

