-- ==== Sys2Proof/Machine/Uart.lean ====
section
/-! DEFINITION. The UARTs: characters, flags, breaks, stuck lines, the start-edge wake, line stamps and configuration
(R76, R556 to R567). -/

namespace Sys2Proof.Machine

/-- A UART. -/
def State.uart (s : State) (u : Nat) : Uart := Store.get (fun _ => Uart.reset) s.uarts u

/-- The state with a UART changed, its levels following. -/
def State.modUart (s : State) (u : Nat) (f : Uart → Uart) : State :=
  let p := f (s.uart u)
  { s with uarts := Store.set (fun _ => Uart.reset) s.uarts u p }.puts
    [(F.UART_STAT_RXLVL u, p.rx.length), (F.UART_STAT_TXLVL u, p.tx.length)]

/-- The block of a UART. -/
def uartBlock (u : Nat) : Block := if u = 0 then .uart0 else if u = 1 then .uart1 else .uart2

/-- Whether a character is CR or LF. -/
def isEol (c : Byte) : Bool := c == 13 || c == 10

/-- Whether a character starts a line (R564). -/
def LinePlace.starts (p : LinePlace) (c : Byte) : Bool :=
  match p with
  | .first => true
  | .afterEol => !isEol c
  | .inside => false

/-- Where a line stands after a character. -/
def placeAfter (c : Byte) : LinePlace := if isEol c then .afterEol else .inside

/-- One thirty-second of a bit in units of 2^-56 s (R556, R564). -/
def State.bitPart (s : State) (u : Nat) : Nat :=
  let ticks := if u = 0 then s.islandHz 6 / s.console.rate else 16 * s.get (F.UART_BAUD_INT u) + s.get (F.UART_BAUD_FRAC u)
  ticks * 2 ^ 56 / (32 * s.islandHz 6)

/-- A stamp of a direction (R564): `at_` in 2^-56 s. -/
def State.stampLine (s : State) (u at_ : Nat) (tx : Bool) : State :=
  let sec := at_ / 2 ^ 56 % 2 ^ 32
  let frac := at_ % 2 ^ 56 / 2 ^ 24
  if tx then
    (s.modUart u fun p => { p with txFrac := frac }).puts
      [(F.UART_TXSTS_SEC u, sec), (F.UART_STCNT_TX u, s.get (F.UART_STCNT_TX u) + 1),
        (F.UART_STCNT_TXCOARSE u, bit s.tide.carried)]
  else
    (s.modUart u fun p => { p with rxFrac := frac }).puts
      [(F.UART_RXSTS_SEC u, sec), (F.UART_STCNT_RX u, s.get (F.UART_STCNT_RX u) + 1),
        (F.UART_STCNT_RXCOARSE u, bit s.tide.carried)]

/-- Whether the console takes a port's characters: UART0 always, UART1 while the console owns it (R242, R282). -/
def State.consolePort (s : State) (u : Nat) : Bool := u == 0 || (u == 1 && s.owner .uart1 == .console)

/-- A console line that begins within three character times of the waking edge lost its first character (R76). -/
def State.markLost (s : State) (start : Nat) : State :=
  match (s.uart 0).wakeAt with
  | some w =>
    if start ≤ w + 30 * 2 ^ 56 / s.console.rate then s.setSess .uart0 { s.sess .uart0 with lost := true } else s
  | none => s

/-- The form of a frame (R559): the bits of data and parity, even or odd (1, 2; 0 none), and the stop bits. -/
structure FrameForm where
  data : Nat
  par : Nat
  stops : Nat
  deriving DecidableEq, Repr

/-- The form that CFG sets. -/
def State.frameForm (s : State) (u : Nat) : FrameForm :=
  ⟨8 - s.get (F.UART_CFG_DBITS u), s.get (F.UART_CFG_PAR u), 1 + s.get (F.UART_CFG_STOP2 u)⟩

/-- The number of the first stop bit; the start bit is bit 0. -/
def FrameForm.stop (c : FrameForm) : Nat := 1 + c.data + (if c.par = 0 then 0 else 1)

/-- A receiver between two ticks (R557): what the last tick read, the bit it is in and the phase of the next tick, the ticks at
phases 7 and 8, the bits decided, start first, and whether NOISE is set. -/
structure Receiver where
  high : Bool
  at_ : Option Nat
  phase : Nat
  p7 : Bool
  p8 : Bool
  bits : List Bool
  noise : Bool

/-- A frame received: the bits decided, NOISE, whether a falling edge cut the stop bit short (R560), and what the last tick read
as far as the next start is concerned. -/
structure Got where
  bits : List Bool
  noise : Bool
  cut : Bool
  high : Bool
  deriving DecidableEq, Repr

/-- The majority of three ticks. -/
def majority (a b c : Bool) : Bool := (a && b) || (a && c) || (b && c)

/-- The bit and phase of a tick, and NOISE, after the resynchronisation of R558: at a falling edge within the data and parity
bits. -/
def Receiver.resync (r : Receiver) (c : FrameForm) (k : Nat) (fall : Bool) : Nat × Nat × Bool :=
  if fall && decide (1 ≤ k) && decide (k < c.stop) then
    if 12 ≤ r.phase then (k + 1, 0, r.noise) else if r.phase ≤ 4 then (k, 0, r.noise) else (k, r.phase, true)
  else (k, r.phase, r.noise)

/-- One tick of a receiver (R557, R558, R560). A start is the first low tick after a high one; each bit is decided at phase 9
by the ticks at phases 7 to 9; a start bit that decides high is dropped. A falling edge in the last stop bit is a framing error
up to phase 5, and from phase 6 to 8 ends a valid stop bit, its tick being the first of the next start. -/
def Receiver.tick (r : Receiver) (c : FrameForm) (t : Bool) : Receiver ⊕ Got :=
  let fall := r.high && !t
  match r.at_ with
  | none => .inl { r with high := t, at_ := if fall then some 0 else none, phase := 1, bits := [], noise := false }
  | some k0 =>
    let (k, p, noise) := r.resync c k0 fall
    let last := k + 1 == c.stop + c.stops
    let on := { r with high := t, at_ := some (if p = 15 then k + 1 else k), phase := (p + 1) % 16, noise := noise }
    if last && fall && decide (p ≤ 5) then .inr ⟨r.bits ++ [true], noise, true, false⟩
    else if last && fall && decide (p ≤ 8) then .inr ⟨r.bits ++ [true], noise, false, true⟩
    else if p = 7 then .inl { on with p7 := t }
    else if p = 8 then .inl { on with p8 := t }
    else if p = 9 then
      let v := majority r.p7 r.p8 t
      let noise' := noise || !(r.p7 == r.p8 && r.p8 == t)
      if k = 0 && v then .inl { on with at_ := none }
      else if last then .inr ⟨r.bits ++ [v], noise', false, t⟩
      else .inl { on with bits := r.bits ++ [v], noise := noise' }
    else .inl on

/-- The first frame of a run of ticks, if one is decided in it; and what the last tick read otherwise. -/
def Receiver.run (c : FrameForm) : Receiver → List Bool → Bool ⊕ Got
  | r, [] => .inl r.high
  | r, t :: l =>
    match r.tick c t with
    | .inl r' => r'.run c l
    | .inr g => .inr g

/-- Reception in synchronous mode (R566): one sample a bit, from the first low one on; R557 to R560 do not apply. -/
def syncFrame (c : FrameForm) (l : List Bool) : Bool ⊕ Got :=
  let b := (l.dropWhile id).take (c.stop + c.stops)
  if b.length = c.stop + c.stops then .inr ⟨b, false, false, true⟩ else .inl true

/-- The character of a frame: its data bits, least significant first. -/
def Got.char (g : Got) (c : FrameForm) : Byte := BitVec.ofNat 8 (ofBits c.data fun i => (g.bits.drop 1).getD i false)

/-- A parity error: the data and parity bits have an odd number of ones under even parity, or an even one under odd. -/
def Got.parityError (g : Got) (c : FrameForm) : Bool :=
  c.par != 0 && (((g.bits.take c.stop).drop 1).foldl (· ^^ ·) false) != (c.par == 2)

/-- A framing error: a stop bit that is low, or was cut short. -/
def Got.framingError (g : Got) (c : FrameForm) : Bool := g.cut || !(g.bits.drop c.stop).all id

/-- A break (R561): every bit of the frame decided low. -/
def Got.isBreak (g : Got) : Bool := g.bits.all (!·)

/-- A break is seen (R561): no character is stored. -/
def State.seeBreak (s : State) (u : Nat) : State := (s.put (F.UART_STAT_BRK u) 1).raise0 (Src.uart u 3)

/-- A character with its flags comes in (R559, R564). What the console takes is not kept: UART0's characters reach it as
CONSOLE_CHARACTER and its kin. -/
def State.takeChar (s : State) (u : Nat) (c : Byte) (pe fe noise : Bool) (start : Nat) : State :=
  let p := s.uart u
  let s1 := if p.rxPlace.starts c then s.stampLine u (start - s.bitPart u) false else s
  let s2 := s1.modUart u fun q => { q with rxPlace := placeAfter c }
  let bad := pe || fe || noise
  if s.consolePort u then
    let s3 := if u = 0 then s2.markLost start else s2
    let s4 := if bad then s3.raise0 (Src.uart u 4) else s3
    if s.get (F.UART_CFG_RXTH u) = 1 then s4.raise0 (Src.uart u 0) else s4
  else if 16 ≤ p.rx.length then (s2.put (F.UART_STAT_OVR u) 1).raise0 (Src.uart u 4)
  else
    let word := c.toNat + 256 * bit pe + 512 * bit fe + 1024 * bit noise
    let s3 := s2.modUart u fun q => { q with rx := q.rx ++ [word] }
    let s4 := if bad then s3.raise0 (Src.uart u 4) else s3
    if p.rx.length + 1 = s.get (F.UART_CFG_RXTH u) then s4.raise0 (Src.uart u 0) else s4

/-- What a receiver makes of the ticks since its last frame: a frame, or what the last tick read where none is decided. -/
def State.uartHears (s : State) (u : Nat) (ticks : List Bool) : Bool ⊕ Got :=
  if s.on (F.UART_CFG_SYNC u) then syncFrame (s.frameForm u) ticks
  else Receiver.run (s.frameForm u) ⟨(s.uart u).high, none, 0, true, true, [], false⟩ ticks

/-- UART_CHARACTER_RECEIVED (R557 to R561, R566): `ticks` is what the receive pin read at the sample ticks since the last
frame, or in synchronous mode at the sampling edges; `start` is the Tide time in 2^-56 s of the phase-0 tick of the frame's
start. The tick that cuts a valid stop bit short is given again as the first of the next frame. -/
def execUartCharacterReceived (u : Fin 3) (ticks : List Bool) (start : Nat) (s : State) : Host.Outcome State Fault Refusal :=
  .next <|
    if !s.on (F.UART_CFG_EN u) || !s.powered 8 then s
    else
      match s.uartHears u ticks with
      | .inl h => s.modUart u fun q => { q with high := h }
      | .inr g =>
        let c := s.frameForm u
        let t := s.modUart u fun q => { q with high := g.high }
        if g.isBreak then t.seeBreak u else t.takeChar u (g.char c) (g.parityError c) (g.framingError c) g.noise start

/-- UART_BREAK (R561). -/
def execUartBreak (u : Fin 3) (s : State) : Host.Outcome State Fault Refusal :=
  .next <| if s.on (F.UART_CFG_EN u) && s.powered 8 then s.seeBreak u else s

/-- UART_LINE_FAULT (R562). -/
def execUartLineFault (u : Fin 3) (s : State) : Host.Outcome State Fault Refusal :=
  .next <|
    if s.on (F.UART_CFG_EN u) && s.powered 8 then (s.put (F.UART_STAT_LINE_FAULT u) 1).raise0 (Src.uart u 5) else s

/-- UART_LINE_FAULT_CLEAR (R562). -/
def execUartLineFaultClear (u : Fin 3) (s : State) : Host.Outcome State Fault Refusal :=
  .next <|
    if s.on (F.UART_STAT_LINE_FAULT u) then
      (s.modUart u fun q => { q with high := true }).puts [(F.UART_STAT_LINE_FAULT u, 0), (F.UART_STAT_BRK u, 0)]
    else s

/-- UART_START_EDGE_WAKE (R563): `start` is the edge's Tide time in 2^-56 s. The character is lost; without the wake it is not
a character lost at a wake. -/
def execUartStartEdgeWake (u : Fin 3) (start : Nat) (s : State) : Host.Outcome State Fault Refusal :=
  .next <|
    if s.power.depth = 0 ∨ s.on (F.UART_STAT_LINE_FAULT u) then s
    else
      let s1 := (s.fire (42 + u)).wake (4 + u)
      if s1.power.latched = 0 then s1
      else
        let p := s1.uart u
        let s2 := if u.val = 0 then s1.markLost start else s1
        let s3 := (s2.count (F.UART_STAT_LOSTN u)).modUart u fun q =>
          { q with wakeAt := if s.power.latched = 0 then some start else q.wakeAt, lossSeen := true }
        if p.lossSeen then s3 else (s3.put (F.UART_STAT_WAKE_LOST u) 1).raise0 (Src.uart u 6)

/-- A character leaves the TX shifter of a port: the one at the head of what waits there; UART0's is the console's. -/
def State.uartNext (s : State) (u : Nat) (c : Byte) : Option (Byte × State) :=
  if u = 0 then some (c, s)
  else if s.consolePort u then
    match s.console.port1 with
    | [] => none
    | h :: r => some (BitVec.ofNat 8 h.toNat, { s with console := { s.console with port1 := r } })
  else
    match (s.uart u).tx with
    | [] => none
    | h :: r =>
      let t := s.modUart u fun p => { p with tx := r }
      some (BitVec.ofNat 8 h, if r.isEmpty then t.raise0 (Src.uart u 1) else t)

/-- UART_CHARACTER_SENT (R564): `start` is the Tide time of the start bit in 2^-56 s; `c` is UART0's character. UARTu_TX is
raised when the TX FIFO becomes empty (DESIGN CHOICE: its occasion is not stated). -/
def execUartCharacterSent (u : Fin 3) (start : Nat) (c : Byte) (s : State) : Host.Outcome State Fault Refusal :=
  .next <|
    if !s.on (F.UART_CFG_EN u) || !s.powered 8 then s
    else
      match s.uartNext u c with
      | none => s
      | some (b, t) =>
        let t1 := if (t.uart u).txPlace.starts b then t.stampLine u start true else t
        t1.modUart u fun p => { p with txPlace := placeAfter b }

/-- A read of DATA (R567); from the side that does not own the port it removes nothing (R21). -/
def State.uartRead (s : State) (side : Side) (u : Nat) : State :=
  match (s.uart u).rx with
  | [] => { s with busData := 0x8000 }
  | h :: r =>
    let t := if side = s.owner (uartBlock u) then s.modUart u fun p => { p with rx := r } else s
    { t with busData := BitVec.ofNat 32 h }

/-- UART_DATA_READ. -/
def execUartDataRead (side : Side) (u : Fin 3) (s : State) : Host.Outcome State Fault Refusal :=
  .next (s.access (uartBlock u) 0x18 side.master false fun t => t.uartRead side u)

/-- A write of DATA (R567). -/
def State.uartWrite (s : State) (side : Side) (u v : Nat) : State :=
  s.guard (uartBlock u) 0x18 side false fun t =>
    if 16 ≤ (t.uart u).tx.length then t.put (F.UART_STAT_TXOVF u) 1
    else t.modUart u fun p => { p with tx := p.tx ++ [v % 256] }

/-- UART_DATA_WRITE. -/
def execUartDataWrite (side : Side) (u : Fin 3) (value : Byte) (s : State) : Host.Outcome State Fault Refusal :=
  .next (s.access (uartBlock u) 0x18 side.master true fun t => t.uartWrite side u value.toNat)

/-- A read of RXSTS or TXSTS captures the fraction (R567). -/
def State.stampRead (s : State) (u : Nat) (tx : Bool) : State :=
  if tx then
    { s.put (F.UART_TXSTF_FRAC u) (s.uart u).txFrac with busData := BitVec.ofNat 32 (s.get (F.UART_TXSTS_SEC u)) }
  else
    { s.put (F.UART_RXSTF_FRAC u) (s.uart u).rxFrac with busData := BitVec.ofNat 32 (s.get (F.UART_RXSTS_SEC u)) }

/-- UART_RXSTS_READ. -/
def execUartRxstsRead (u : Fin 3) (tx : Bool) (s : State) : Host.Outcome State Fault Refusal :=
  .next (s.access (uartBlock u) (if tx then 0x38 else 0x30) 1 false fun t => t.stampRead u tx)

/-- The bits of CFG that change the frame (R567). -/
def frameMask : Nat := 0x7E

/-- Write CFG, BAUD or TIMING at once: BAUD takes no INT of 0, and UART0 has no SYNC, RXDMA and TXDMA (R566, R567). Enabling
the port makes its next characters the first. -/
def State.uartSet (s : State) (side : Side) (u ofs v : Nat) : State :=
  let b := uartBlock u
  if ofs = 0x14 ∧ bitsOf v 4 16 = 0 then s
  else
    let v' := if u = 0 ∧ ofs = 0x10 then without v 0x1A0 else v
    let t := s.writeFields b ofs side v'
    if ofs = 0x10 ∧ !s.on (F.UART_CFG_EN u) ∧ t.on (F.UART_CFG_EN u) then
      t.modUart u fun p => { p with rxPlace := .first, txPlace := .first }
    else t

/-- A write of CFG, BAUD or TIMING (R567): while the port is enabled, what changes the frame or the rate waits for the quiet
point. -/
def State.uartConfig (s : State) (side : Side) (u ofs v : Nat) : State :=
  let b := uartBlock u
  if side ≠ s.owner b then s.deny b 0 ofs side
  else if s.on (F.UART_CFG_EN u) then
    let old := s.storedWord b ofs
    if ofs = 0x14 then s.modUart u fun p => { p with pend := p.pend ++ [(ofs, v)] }
    else if ofs = 0x10 ∧ (v &&& frameMask) ≠ (old &&& frameMask) then
      let now := without v frameMask + (old &&& frameMask)
      (s.uartSet side u ofs now).modUart u fun p => { p with pend := p.pend ++ [(ofs, v)] }
    else s.uartSet side u ofs v
  else s.uartSet side u ofs v

/-- Whether neither shifter of a UART holds a character (R567), as far as the state shows it (DEDUCED): nothing waits to leave.
A character that is coming in is one event, between two states. -/
def State.uartQuiet (s : State) (u : Nat) : Bool :=
  !s.on (F.UART_CFG_EN u) ||
    (if u = 0 then (s.sess .uart0).out.isEmpty else if s.consolePort u then s.console.port1.isEmpty else (s.uart u).tx.isEmpty)

/-- UART_CONFIG_APPLY (R567): at the quiet point; of a CFG word, the frame bits apply. -/
def execUartConfigApply (u : Fin 3) (s : State) : Host.Outcome State Fault Refusal :=
  .next <|
    if !s.uartQuiet u then s
    else (s.uart u).pend.foldl
      (fun t w =>
        let side := t.owner (uartBlock u)
        let old := t.storedWord (uartBlock u) w.1
        t.uartSet side u w.1 (if w.1 = 0x10 then without old frameMask + (w.2 &&& frameMask) else w.2))
      (s.modUart u fun p => { p with pend := [] })

end Sys2Proof.Machine
end

