-- ==== Sys2Proof/Machine/Ownership.lean ====
section
/-! DEFINITION. Owners and control levels of the blocks (R20 to R34, R79 to R81): quiet points, the derivation of expert fields,
requests and the changes they bring. -/

namespace Sys2Proof.Machine

/-- Whether a block is at its quiet point as far as the state shows (R26 and the blocks' chapters). The quiet point of a running
berth is reported by the event itself. -/
def State.quiet (s : State) : Block → Bool
  | .lookout =>
    ((List.range 16).all fun n => s.get (F.LOOKOUT_LANE_CMD_STATE n) == 0) && s.gnss.berths.all fun b => b.2.hand.isNone
  | .berth n => s.get (F.BERTH_STAT_STATE n) == 0 || s.get (F.BERTH_STAT_STATE n) == 6
  | .gnss | .front | .plan => s.receiverQuiet
  | .measq | .bitlog => !s.gnss.opened && !s.gnss.solving
  | .tide => !s.on F.TIDE_CTRL_STEP_PEND
  | .tp => s.tp.pulse.isNone
  | .rtc => !s.rtcBusy
  | .pwr => !s.on F.PWR_POINT_PEND
  | .clk => (List.range 16).all fun i => !s.on (F.CLK_ISL_PEND i)
  | .logs => s.logs.op.isNone
  | .lgt => (List.range 8).all fun n => s.get (F.LGT_STAT_STATE n) != 1 && s.get (F.LGT_STAT_STATE n) != 2
  | .uart0 => s.uartQuiet 0
  | .uart1 => s.uartQuiet 1
  | .uart2 => s.uartQuiet 2
  | .i2ct => !s.on F.I2CT_STAT_BUSY
  | .spi0 => !s.on (F.SPI_STAT_BUSY 0)
  | .spi1 => !s.on (F.SPI_STAT_BUSY 1)
  | .dma => (List.range 8).all fun k => !s.on (F.DMA_CFG_EN k)
  | .adc => !s.on F.ADC_STAT_BUSY
  | .touch => !s.on F.TOUCH_STAT_BUSY && !s.on F.TOUCH_STAT_TESTING
  | .crypto => !s.on F.CRYPTO_KEY_BUSY
  | _ => true

/-- Whether an event may bring a block's quiet point: those that the state does not show, such as a berth's dump boundary
(R182), and those it allows; in the continuous modes the receiver's comes with the end of an epoch (R99). -/
def State.mayBeQuiet (s : State) (b : Block) : Bool :=
  match b with
  | .berth _ => true
  | .gnss | .front | .plan => s.receiverRests
  | b => s.quiet b

/-- Registers whose expert fields hold what the firmware works with: it keeps them as they stand in BASIC. -/
def workingExpert (b : Block) (ofs : Nat) : Bool :=
  match b with
  | .plan | .lgt => true
  | .lookout => 0x100 ≤ ofs
  | .berth _ => 0x24 ≤ ofs
  | .front => ofs == 0x20 || ofs == 0x40 || (0x30 ≤ ofs && ofs < 0x40) || 0x50 ≤ ofs
  | .tide => ofs == 0x30 || ofs == 0x60 || ofs == 0x4C || ofs == 0x50
  | .clk => 0x40 ≤ ofs
  | _ => false

/-- Whether a stored field is an expert field that derivation sets from the block's table. -/
def tabledExpert (b : Block) (ofs lo : Nat) : Bool :=
  !workingExpert b ofs && (regFields b ofs).any fun f => f.lo == lo && f.acc == .rw && f.lvl == .expert

/-- The expert fields of the chosen blocks at their table values. -/
def State.dropExpert (s : State) (p : Block → Bool) : State :=
  { s with regs := s.regs.filter fun c =>
      match blockAt (c.1 / 32) with
      | some (b, ofs) => !(p b && tabledExpert b ofs (c.1 % 32))
      | none => true }

/-- In BASIC each island runs from the source its table names (R398, R400), islands 1 to 3 from LFO under the LDO (R340), where
that source may be selected and has not failed. -/
def State.deriveIslands (s : State) : State :=
  (List.range 16).foldl
    (fun t i =>
      let src := if i < 3 ∧ t.on F.PWR_REG_ACT then 1 else derivedSource i
      if t.get (F.CLK_ISL_ACT i) = src ∨ (t.sourceError i src).isSome ∨ !ledgerGrants t (t.requestSource i src) then t
      else t.requestSource i src) s

/-- CLK in BASIC: the islands' sources and gates; no rule derives RUN_EN, which takes its reset value (R390, DESIGN CHOICE). -/
def State.deriveClk (s : State) : State :=
  ((List.range 16).foldl (fun t i => t.put (F.CLK_ISL_RUN_EN i) 0) s).deriveIslands.deriveGates

/-- The fields of a block that the firmware keeps consistent in BASIC with what stands elsewhere, as they are now (R22, R276,
R390). -/
def State.freshen (s : State) (b : Block) : State :=
  match b with
  | .clk => s.deriveGates
  | .tide => s.deriveLoop
  | _ => s

/-- What a block derives from its basic fields beside its table values. -/
def State.deriveOwn (s : State) : Block → State
  | .pwr => s.derivePoint
  | .clk => s.deriveClk
  | .tide => s.deriveLoop
  | .gnss | .front => s.deriveMode
  | .lgt => (List.range 8).foldl State.deriveLib s
  | .touch => s.deriveTouch
  | .crypto => s.deriveKeep
  | .berth n => s.deriveBerth n
  | .sillage => s.showPrediction
  | _ => s

/-- The system firmware derives a block's expert fields afresh (R22, R29, R31). A field for which the spec gives no rule takes
its reset value (DESIGN CHOICE). -/
def State.deriveExpert (s : State) (b : Block) : State := (s.dropExpert (· == b)).deriveOwn b

/-- Every block is left in BASIC, with its expert fields derived (R44, R403). -/
def State.allBasic (s : State) : State :=
  let s1 := { s with regs := s.regs.filter fun c =>
    !((blockAt (c.1 / 32)).any fun (b : Block × Nat) => b.2 == 4 && (c.1 % 32 == 1 || c.1 % 32 == 9)) }
  let s2 := s1.dropExpert fun _ => true
  let s3 := [Block.pwr, .clk, .tide, .gnss, .front, .lgt, .touch, .crypto, .sillage].foldl State.deriveOwn s2
  (s3.gnss.berths.map (·.1)).foldl State.deriveBerth s3

/-- Raise SYSCTL_OWN_DONE (R79, R677); sessions that were answered PENDING see its notice whatever their class. -/
def State.raiseOwn (s : State) (b : Block) (o : Side) : State :=
  let w2 := b.code + 65536 * o.code
  let due := (s.console.awaitOwn.filter fun w => w.1 == b).map (·.2)
  let s1 := (s.source Src.SYSCTL_OWN_DONE w2 0).notices due (s.classOf .sys Src.SYSCTL_OWN_DONE)
    (noticeText Src.SYSCTL_OWN_DONE (noticeKeys Src.SYSCTL_OWN_DONE w2 0))
  { s1 with console := { s1.console with awaitOwn := s1.console.awaitOwn.filter fun w => w.1 != b } }

/-- The result of the last ownership request (R34). -/
def State.ownResult (s : State) (code result : Nat) : State :=
  s.puts [(F.SYSCTL_OWN_STAT_BLOCK, code), (F.SYSCTL_OWN_STAT_RESULT, result)]

/-- What a block's passing to another owner ends: I2CT's console session, with its waiting lines and queued output (R51), and a
held command of the log store's old owner (R505). -/
def State.passOn (s : State) (b : Block) (o : Side) : State :=
  match b, o with
  | .i2ct, .app =>
    let c := s.console
    { s with
      console := { c with waiting := c.waiting.filter fun w => w.1 != .i2c, i2c := Session.reset false }
      i2ct := { s.i2ct with stream := [] } }
  | .logs, _ =>
    (s.withLogs fun g => { g with queue := g.queue.filter fun r => !r.owners }).put F.LOGS_STAT_QUEUED 0
  | _, _ => s

/-- A change of owner takes effect (R29); a berth that passes to another owner stops first (R107, R182, R184). -/
def State.changeOwner (s : State) (b : Block) (o : Side) : State :=
  let s0 := match b with | .berth n => s.passBerth n | _ => s
  let s1 := s0.puts [(F.OWNLVL_OWNER b, o.code), (F.OWNLVL_OWN_PEND b, 0), (F.OWNLVL_LEVEL b, 0), (F.OWNLVL_LVL_PEND b, 0)]
  let s2 := if s.get F.SYSCTL_OWN_STAT_BLOCK = b.code ∧ s.get F.SYSCTL_OWN_STAT_RESULT = 1 then s1.ownResult b.code 0 else s1
  ((s2.passOn b o).deriveExpert b).raiseOwn b o

/-- A request for a change of owner (R25 to R28): naming the present owner cancels a pending one. -/
def State.requestOwner (s : State) (b : Block) (o : Side) : State :=
  if o = s.owner b then
    let s1 := (s.put (F.OWNLVL_OWN_PEND b) 0).ownResult b.code (if s.on (F.OWNLVL_OWN_PEND b) then 3 else 0)
    { s1 with console := { s1.console with awaitOwn := s1.console.awaitOwn.filter fun w => w.1 != b } }
  else if s.quiet b then (s.changeOwner b o).ownResult b.code 0
  else (s.put (F.OWNLVL_OWN_PEND b) 1).ownResult b.code 1

/-- A write of SYSCTL_OWN by the application core (R25, R32, R34): a fixed or unknown block is refused. -/
def State.writeOwn (s : State) (v : Nat) : State :=
  let code := bitsOf v 0 10
  match blockOfCode code with
  | none => s.ownResult code 2
  | some b => if b.fixed then s.ownResult code 2 else s.requestOwner b (if bitOf v 16 then .app else .console)

/-- SYSCTL_OWN_WRITE. -/
def execSysctlOwnWrite (value : Word) (s : State) : Host.Outcome State Fault Refusal := .next (s.writeOwn value.toNat)

/-- The other side. -/
def Side.other : Side → Side
  | .app => .console
  | .console => .app

/-- OWNERSHIP_CHANGE (R26, R29). -/
def execOwnershipChange (b : Block) (s : State) : Host.Outcome State Fault Refusal :=
  .next <| if s.on (F.OWNLVL_OWN_PEND b) && s.mayBeQuiet b then s.changeOwner b (s.owner b).other else s

/-- A change of level takes effect (R31). -/
def State.changeLevel (s : State) (b : Block) (expert : Bool) : State :=
  let s1 := (s.freshen b).puts [(F.OWNLVL_LEVEL b, bit expert), (F.OWNLVL_LVL_PEND b, 0)]
  if expert then s1 else s1.deriveExpert b

/-- A request for a change of level (R26, R28): naming the present level cancels a pending one. -/
def State.requestLevel (s : State) (b : Block) (expert : Bool) : State :=
  if expert = s.expert b then s.put (F.OWNLVL_LVL_PEND b) 0
  else if s.quiet b then s.changeLevel b expert
  else s.put (F.OWNLVL_LVL_PEND b) 1

/-- A write of OWNLVL.LEVEL (R30). SYSCTL has no level (R34). -/
def State.writeLevel (s : State) (side : Side) (b : Block) (expert : Bool) : State :=
  if b = .sysctl then s
  else if side ≠ s.owner b then s.deny b 0 4 side
  else s.requestLevel b expert

/-- LEVEL_WRITE. -/
def execLevelWrite (side : Side) (b : Block) (expert : Bool) (s : State) : Host.Outcome State Fault Refusal :=
  .next (s.writeLevel side b expert)

/-- LEVEL_CHANGE (R26, R31). -/
def execLevelChange (b : Block) (s : State) : Host.Outcome State Fault Refusal :=
  .next <| if s.on (F.OWNLVL_LVL_PEND b) && s.mayBeQuiet b then s.changeLevel b (!s.expert b) else s

/-- OWN (R28, R79). -/
def execOwn (x : Sess) (b : Block) (owner : Side) (s : State) : Host.Outcome State Fault Refusal :=
  .next <| s.run x {} fun t =>
    let text := "OWN " ++ Name.block b ++ " " ++ Name.owner owner
    if b.fixed then t.er x 211
    else
      let u := t.requestOwner b owner
      if u.on (F.OWNLVL_OWN_PEND b) then
        let v := { u with console := { u.console with awaitOwn := u.console.awaitOwn ++ [(b, x)] } }
        (v.reply x (text ++ " PENDING")).ok x
      else (u.reply x (text ++ " APPLIED")).ok x

/-- An `OWN` line (R81, R83). -/
def State.ownLine (s : State) (b : Block) : String :=
  if b = .sysctl then "OWN SYSCTL SHARED BASIC"
  else "OWN " ++ Name.block b ++ " " ++ Name.owner (s.owner b) ++ " " ++ Name.level (s.expert b)

/-- The blocks in address order (R81). -/
def blocksByAddress : List Block :=
  let l := Block.fixedList
  (l.take 30) ++ (List.finRange 256).map Block.berth ++ l.drop 30

/-- OWN_QUERY (R81). -/
def execOwnQuery (x : Sess) (b : Option Block) (s : State) : Host.Outcome State Fault Refusal :=
  .next <| s.run x { query := true } fun t =>
    match b with
    | some b => (t.reply x (t.ownLine b)).ok x
    | none => (t.replies x (blocksByAddress.map t.ownLine)).ok x

/-- LEVEL_SESSION (R80). -/
def execLevelSession (x : Sess) (expert : Bool) (s : State) : Host.Outcome State Fault Refusal :=
  .next <| s.run x {} fun t => (t.setSess x { t.sess x with expert := expert }).ok x

/-- LEVEL_BLOCK (R30, R80). -/
def execLevelBlock (x : Sess) (b : Block) (expert : Bool) (s : State) : Host.Outcome State Fault Refusal :=
  .next <| s.run x { block := some b } fun t =>
    if b = .sysctl then t.er x 211 else (t.requestLevel b expert).ok x

end Sys2Proof.Machine
end

