-- ==== Sys2Proof/Machine/Boot.lean ====
section
/-! DEFINITION. Resets, boot paths, the watchdog, lifecycle transitions and the exit from sleep (R401 to R410, R418 to R424, R341,
R337, R355 to R357, R378). -/

namespace Sys2Proof.Machine

/-- A reset cause is recorded, with the causes that arose as bits (R402). -/
def State.recordCause (s : State) (cause arose : Nat) : State :=
  s.puts [(F.SYSCTL_RCAUSE_LAST, cause), (F.SYSCTL_RCAUSE_SEEN, s.get F.SYSCTL_RCAUSE_SEEN ||| arose)]

/-- Whether a register field outlasts a reset of the switched domains: those of the always-on island and of the backup domain,
but for owner and level (R359, R380, R401, R403, R529), and with `tide` those of TIDE, whose time a core brown-out keeps
(R341). -/
def keptField (tide : Bool) (key : Nat) : Bool :=
  match blockAt (key / 32) with
  | some (b, ofs) => (b == .pwr || b == .harv || b == .evr || b == .rtc || (tide && b == .tide)) && ofs != 4
  | none => false

/-- The console after a reset; what each transport carried last is past. -/
def Console.restart (c : Console) : Console :=
  let r := Console.reset
  { r with
    uart0 := { r.uart0 with wire := c.uart0.wire }
    i2c := { r.i2c with wire := c.i2c.wire }
    quay := { r.quay with wire := c.quay.wire } }

/-- The memories of the switched domains lose their contents (R470 to R472). -/
def State.loseSwitched (s : State) : State :=
  (List.range 24 ++ [25, 26, 27, 29]).foldl State.loseMem (s.clearMem 0x30000000 0x30080000)

/-- The power manager and the clocks after a reset of the switched domains: Run-nominal on the buck converter (R342). -/
def State.nominal (s : State) : State :=
  (s.puts [(F.PWR_POINT_POINT, 1), (F.PWR_POINT_ACT, 1), (F.PWR_POINT_PEND, 0), (F.PWR_REG_MODE, 0), (F.PWR_REG_ACT, 0),
    (F.PWR_DOMS_PG, 0x3113)]).derivePoint

/-- What the switched domains hold, lost: the register fields a reset keeps stay, the other state is as at reset. -/
def State.wipeSwitched (s : State) (tide : Bool) : State :=
  { s.loseSwitched with
    regs := s.regs.filter fun c => keptField tide c.1
    runs := [], wbacks := []
    app := Core.reset 0x08000000, sys := Core.reset 0x08000000
    console := s.console.restart
    manApp := ManQueue.reset, manSys := ManQueue.reset
    tide := if tide then s.tide else TideState.reset
    tp := TpState.reset, tt := TtState.reset
    rtc := { s.rtc with snapApp := none, snapCon := none }
    logs := { s.logs with op := none, queue := [] }
    crypto := { CryptoState.reset with bootn := s.crypto.bootn, tamper := s.crypto.tamper, sseq := s.crypto.sseq }
    power := { Power.reset with wakeSeq := s.power.wakeSeq, vbor := s.power.vbor }
    clk := ⟨0, 0⟩
    life := { s.life with load := none }
    gnss := { GnssState.reset with epoch := s.gnss.epoch }
    pads := { s.pads with level := 0, dir := 0, forced := [] }
    lgt := [], uarts := [], i2ct := I2ct.reset, spis := [], dma := [], adc := AdcState.reset
    touch := { TouchState.reset with ref := s.touch.ref }
    memTest := none
    mems := { s.loseSwitched.mems with streak := [], wipeReport := false, dpos := 0 } }

/-- A reset that reaches the switched domains (R401, R403): what a write in the log store had begun is left torn (R494); the
fuses, the code store, the log store, the AON bank and the backup domain keep what they hold. XTAL-L, which serves the backup
domain, runs on. -/
def State.resetSwitched (s0 : State) (tide : Bool) : State :=
  let s := match s0.logs.op with | some r => s0.tear r | none => s0
  (s.wipeSwitched tide).puts
    [(F.CLK_STAT_XTALL, s.get F.CLK_STAT_XTALL), (F.CLK_ISL_SEL 14, if s.get F.CLK_STAT_XTALL = 2 then 2 else 1),
      (F.CLK_ISL_ACT 14, if s.get F.CLK_STAT_XTALL = 2 then 2 else 1),
      (F.CLK_ISL_ACT 15, if s.get F.CLK_STAT_XTALL = 2 then 2 else 1), (F.SYSCTL_RCAUSE_SEEN, s.get F.SYSCTL_RCAUSE_SEEN),
      (F.MEMCTL_REMAP_AON, s.mems.remapAon.length), (F.MEMCTL_REMAP_SEC, s.mems.remapSec.length)]
  |>.nominal |>.newCode

/-- The measurements of the supplies, which no reset changes. -/
def supplyFields : List Fld :=
  [F.PWR_PATH_ACT, F.PWR_PATH_VBAT_OK, F.PWR_PATH_STORE_OK, F.PWR_STAT_HOLD_OK, F.PWR_STAT_IO1_OK, F.PWR_STAT_IO2_OK,
    F.HARV_STAT_VST, F.HARV_STAT_BAND, F.HARV_STAT_CONN]

/-- The always-on island's registers return to reset too (R401, causes 0 and 1). -/
def State.resetAlwaysOn (s : State) : State :=
  let now := supplyFields.map fun f => (f, s.get f)
  let s1 := ((s.clearRegs .pwr 4 0x1000).clearRegs .harv 4 0x1000).clearRegs .evr 4 0x1000
  ({ s1.puts now with harv := Harvester.reset }).rearm.nominal

/-- An intent record found at boot is resolved (R423): the state comes from the fuses alone. The secure bank is wiped at the
power-on of CRY that follows. -/
def State.resolveIntent (s : State) : State :=
  match s.life.intent with
  | none => s
  | some target =>
    ((s.withLife fun l => { l with intent := none }).systemRecord).raise Src.LIFE_REPEAT target s.life.fuses.state

/-- The AON bank set to 0 where it lost its contents, and the tally cells loaded (R471, R498). -/
def State.initAon (s : State) : State := if bitOf s.mems.bad 24 then (s.zeroMem 24).loadTally else s

/-- The slot marked NEXT becomes the active one at a cold path (R416). -/
def State.takeNext (s : State) : State :=
  if s.life.next then s.withLife fun l => { l with active := otherSlot l.active, next := false } else s

/-- The image to run is chosen (R409): the active slot, else the other with LIFE_FALLBACK, else none; and whether there is one.
-/
def State.chooseImage (s : State) : State × Bool :=
  let good := fun n => (s.incomplete n).isNone && s.imageValid n
  if good s.life.active then (s, true)
  else if good (otherSlot s.life.active) then
    (((s.withLife fun l => { l with active := otherSlot l.active }).systemRecord).raise0 Src.LIFE_FALLBACK, true)
  else (s, false)

/-- Rollback fuses are blown up to the image's STEP (R418); LIFE_ROLLBACK is raised (DEDUCED: the spec names no occasion). -/
def State.advanceRollback (s : State) : State :=
  let step := s.headerWord s.life.active 0x0C
  if s.life.fuses.rollback < step then
    (s.withLife fun l => { l with fuses := { l.fuses with rollback := step } }).raise0 Src.LIFE_ROLLBACK
  else s

/-- The identity key is derived into the freshly wiped secure bank (R483, R611). -/
def State.bootKey (s : State) : State :=
  let s1 := ((s.needDomain 11).put F.MEMCTL_WIPE_BUSY 0).withCrypto fun c => { c with bootn := c.bootn + 1, sseq := 0 }
  (s1.put F.CRYPTO_KEY_READY 1).raise0 Src.SIGN_KEY_READY

/-- The Tide counter is set from the RTC, unless OSF is set (R271): ERR is 1 ms and 20 ppm of the time since the RTC was last
disciplined. -/
def State.tideBoot (s : State) : State :=
  if s.on F.RTC_STAT_OSF then s
  else
    let utc := s.rtcTicks + 630720000 * 32768
    let now := utc * ((2 ^ 41 : Nat) : Int) + s.getS F.TIDE_LEAP_CUR * (tideOne : Int)
    let age := (s.rtc.bin + 2 ^ 32 - s.get F.RTC_DISCT_SEC) % 2 ^ 32
    (s.withTide fun t => { t with now := addTime 0 now, fromRtc := true }).setErr (1000000 + 20000 * age)

/-- What the boot record holds (R407). -/
def State.bootFacts (s : State) : Nat × List Nat × Nat :=
  (s.life.active, (s.header s.life.active 0x60 16).map (·.toNat), s.life.fuses.rollback)

/-- The application core is released at an address, unless it is held in reset, and the system state is set (R410, R420). -/
def State.release (s : State) (image : Bool) (entry : Word) : State :=
  let st := s.life.fuses.state
  let s1 := s.put F.SYSCTL_RCAUSE_STATE (if !image then 3 else if st ≤ 1 then 2 else 1)
  { s1 with app := Core.reset entry, power := { s1.power with appHeld := !image || st == 5 } }

/-- The receiver's mode after a reset: HERITAGE under the strap, else OFF (R86, R95). -/
def State.bootMode (s : State) (strap : Bool) : State :=
  let s1 := s.flag F.GNSS_MODE_STRAP strap
  if strap then
    let s2 := (s1.puts [(F.GNSS_MODE_MODE, 6), (F.GNSS_MODE_ACT_MODE, 6)]).enterMode
    { s2 with console := { s2.console with heritage := true } }
  else s1

/-- Whether the strap is present: two of the three samples (R408). -/
def strapped (herit : BitVec 3) : Bool := 2 ≤ ((List.range 3).filter (bitOf herit.toNat)).length

/-- The banks of both rings are initialised (R471). -/
def State.initRings (s : State) : State :=
  (s.initRing s.gnss.measq.1 s.gnss.measq.2).initRing s.gnss.bitlog.1 s.gnss.bitlog.2

/-- The cold path (R406). The epoch identifiers, which the AON bank keeps across the warm path, begin anew (R216). -/
def State.coldPath (s : State) (herit : BitVec 3) : State :=
  let s1 := ((s.withGnss fun g => { g with epoch := none }).withLife fun l => { l with fuses := l.fuses.complete }).resolveIntent.lifeRegs
  let s2 := (s1.initAon.logRecover).takeNext
  let c := s2.chooseImage
  let s3 := (if c.2 then c.1.advanceRollback else c.1).lifeRegs.slotRegs
  let s4 := (s3.bootKey.zeroMem 29).initRings
  let s5 := ((s4.zeroMem 25).zeroMem 26).tideBoot
  let s6 := (s5.withLife fun l => { l with record := some s5.bootFacts }).bootMode (strapped herit)
  let s7 := s6.allBasic
  let s8 := { s7 with power := { s7.power with vbor := false } }
  s8.release c.2 (BitVec.ofNat 32 (0x08000000 + s8.headerWord s8.life.active 0x14))

/-- The warm path (R407, R471): when the boot record agrees with the code store and the fuses, the image checks are skipped and
the application core starts at its warm-boot vector; otherwise the cold path runs in full. -/
def State.warmPath (s : State) (herit : BitVec 3) : State :=
  if s.life.record = some s.bootFacts then
    let s1 := (s.lifeRegs.slotRegs).zeroMem 29
    let s2 := if bitOf s1.mems.bad 25 then s1.zeroMem 25 else s1
    let s3 := if bitOf s2.mems.bad 26 then s2.zeroMem 26 else s2
    { s3 with sys := Core.reset 0x08000000 }.release true (BitVec.ofNat 32 (s3.get F.PWR_WBOOT_VECTOR * 4))
  else s.coldPath herit

/-- A reset that reaches the switched domains and takes the cold path. -/
def State.resetCold (s : State) (cause arose : Nat) (herit : BitVec 3) : State :=
  ((s.resetSwitched false).recordCause cause arose).coldPath herit

/-- A reset of APP reach (R17, R403, R405, R678): the application core starts again at the image's entry point. -/
def State.appRestart (s : State) (cause arose : Nat) : State :=
  let s1 := ((s.manAppReset.put F.SYSCTL_WDTA_EN 0).recordCause cause arose).newCode
  let s2 := (s1.domainOn 0).allBasic
  { s2 with app := Core.reset (BitVec.ofNat 32 (0x08000000 + s2.headerWord s2.life.active 0x14)) }

/-- A power-on reset (R401): everything is reset but what is non-volatile; the backup domain only if its own power-on reset
tripped (R316, R319). -/
def State.powerOn (s : State) (herit : BitVec 3) (backup cold : Bool) : State :=
  let s1 := ((s.resetSwitched false).resetAlwaysOn).loseMem 24
  let s2 := { s1 with
    power := { s1.power with wakeSeq := 0, vbor := false }
    life := { s1.life with record := none }
    pads := { Pads.reset with ext := s.pads.ext, known := s.pads.known } }
  let s3 := ((s2.put F.SYSCTL_RCAUSE_SEEN 0).recordCause 0 1).flag F.HARV_STAT_COLD cold
  if backup then ((s3.backupReset.raise0 Src.RTC_OSF).coldPath herit).systemRecord else s3.coldPath herit

/-- POWER_ON_RESET. -/
def execPowerOnReset (herit : BitVec 3) (backup : Bool) (s : State) : Host.Outcome State Fault Refusal :=
  .next (s.powerOn herit backup false)

/-- COLD_START_BOOT (R378): VSTORE reached BOOT_OK. -/
def execColdStartBoot (herit : BitVec 3) (s : State) : Host.Outcome State Fault Refusal :=
  .next (if s.harv.cold then s.powerOn herit false true else s)

/-- VBAT_BOR_RELEASE (R337, R358, R401): the AON bank keeps its contents unless VHOLD fell below 2.15 V. -/
def execVbatBorRelease (herit : BitVec 3) (s : State) : Host.Outcome State Fault Refusal :=
  .next <|
    if s.power.vbor then
      let s1 := (s.resetSwitched false).resetAlwaysOn
      let s2 := if s.power.vholdLost then
        { s1.loseMem 24 with life := { s1.life with record := none } } else s1
      (s2.recordCause 1 2).coldPath herit
    else s

/-- CORE_BROWN_OUT (R341, R629): the always-on section carries the Tide time, the switched domains are reset, and the warm path
runs, keeping the strap's sample; log-store recovery goes on behind it. -/
def execCoreBrownOut (herit : BitVec 3) (s : State) : Host.Outcome State Fault Refusal :=
  .next <|
    let strap := s.on F.GNSS_MODE_STRAP
    let s1 := ((s.tideToAon).resetSwitched true).recordCause 2 4
    let s2 := (s1.count F.PWR_STAT_CBOR_CNT).initRings
    let s3 := (s2.warmPath herit).tideToFast
    (if s2.life.record = some s2.bootFacts then
      let s4 := (s3.bootMode strap).allBasic
      if s.logs.op.isSome then s4.logRecoverWarm else s4.logRegs
    else s3).raise0 Src.PWR_CORE_BOR

/-- NRST_RESET (R401). -/
def execNrstReset (herit : BitVec 3) (s : State) : Host.Outcome State Fault Refusal := .next (s.resetCold 3 8 herit)

/-- SYS_WATCHDOG_RESET (R401). -/
def execSysWatchdogReset (herit : BitVec 3) (s : State) : Host.Outcome State Fault Refusal := .next (s.resetCold 4 16 herit)

/-- APP_WATCHDOG_EXPIRY (R17, R404): the count, which stands still in the sleep depths, reaches TIMEOUT, the time that it lacks
passing first. -/
def execAppWatchdogExpiry (s : State) : Host.Outcome State Fault Refusal :=
  .next <|
    if s.on F.SYSCTL_WDTA_EN && s.power.depth == 0 then
      (s.passTo (s.tide.now + (s.power.served + s.get F.SYSCTL_WDTA_TIMEOUT * tideOne / 1000 - s.tide.up))).appRestart 5 32
    else s

/-- Whether a master is a core's data port, which may write SYSCTL_SWRST (R34). -/
def Master.core : Master → Bool
  | .appData | .sys => true
  | _ => false

/-- SWRST_APP (R401). -/
def execSwrstApp (m : Master) (s : State) : Host.Outcome State Fault Refusal :=
  .next (if m.core then s.appRestart 7 128 else s)

/-- SWRST_ALL (R402): with APP in the same write, both causes arose. -/
def execSwrstAll (m : Master) (app : Bool) (herit : BitVec 3) (s : State) : Host.Outcome State Fault Refusal :=
  .next (if m.core then s.resetCold 6 (if app then 192 else 64) herit else s)

/-- DEBUG_RESET (R636): a reset requested through an open debug port. -/
def execDebugReset (herit : BitVec 3) (s : State) : Host.Outcome State Fault Refusal :=
  .next (if s.debugOpen then s.resetCold 9 512 herit else s)

/-- WDTA_SERVE (R404): 0x5A restarts the count. -/
def State.serveWdt (s : State) (v : Nat) : State :=
  if v = 0x5A then { s with power := { s.power with served := s.tide.up } } else s

/-- WDTA_SERVE. -/
def execWdtaServe (value : Byte) (s : State) : Host.Outcome State Fault Refusal := .next (s.serveWdt value.toNat)

/-- The watchdog is enabled, from a count of 0 (R404). -/
def State.enableWdt (s : State) : State :=
  if s.on F.SYSCTL_WDTA_EN then s
  else { s.put F.SYSCTL_WDTA_EN 1 with power := { s.power with served := s.tide.up } }

/-- WDTA_ENABLE. -/
def execWdtaEnable (s : State) : Host.Outcome State Fault Refusal := .next s.enableWdt

/-- The HERIT strap's level where a command brings none: free. -/
def State.freeStrap (s : State) : BitVec 3 := BitVec.ofNat 3 (Config.strap s.free)

/-- The lines a session still has to send leave before a reset that follows its `OK`. -/
def State.sendAll : Nat → State → Sess → State
  | 0, s, _ => s
  | n + 1, s, x => if (s.sess x).echo == "" && (s.sess x).out.isEmpty then s else (s.transmit x).sendAll n x

/-- `OK` is sent and leaves. -/
def State.okSent (s : State) (x : Sess) : State :=
  let t := s.ok x
  t.sendAll ((t.sess x).out.length + 2) x

/-- SYS_RESET (R83, R401): OK, then the reset. -/
def execSysReset (x : Sess) (all : Bool) (s : State) : Host.Outcome State Fault Refusal :=
  .next <| s.run x { sysGroup := true, heritage := true } fun t =>
    let u := t.okSent x
    if all then u.spend.resetCold 6 64 u.freeStrap else u.appRestart 7 128

/-- Whether R421 lists a transition. -/
def transition (old target : Nat) : Bool :=
  (old == 0 && target == 1) || (old == 1 && target == 2) || (old == 2 && target == 3) || (old == 3 && target == 4) ||
    (old == 4 && target == 3) || (old != 5 && target == 5)

/-- The code of a lifecycle state (R420). -/
def LifeState.code : LifeState → Nat
  | .blank => 0
  | .test => 1
  | .provisioned => 2
  | .deployed => 3
  | .returned => 4
  | .scrapped => 5

/-- Why a transition is refused (R421): none, or its error. -/
def State.transitionError (s : State) (old target : Nat) : Option Nat :=
  let a := s.life.active
  if old = 1 ∧ target = 2 ∧ (s.header a 0x40 32 == List.replicate 32 0) then some 230
  else if old = 2 ∧ target = 3 ∧ !s.signedBy a s.productKey then some 230
  else if old = 4 ∧ target = 3 ∧ 7 ≤ blownOf s.life.fuses.redeploy then some 330
  else none

/-- The fuses a transition blows, both cells of each (R421, R422). -/
def State.blow (s : State) (target : Nat) : Fuses :=
  let f := s.life.fuses
  match target with
  | 1 => { f with test := 2 }
  | 2 => { f with provisioned := 2, keyHash := (s.header s.life.active 0x40 32).map (·.toNat) }
  | 3 => if f.state = 4 then { f with redeploy := f.redeploy ++ [2] } else { f with deployed := 2 }
  | 4 => { f with ret := f.ret ++ [2] }
  | _ => { f with scrapped := 2 }

/-- An accepted transition (R422): OK, the intent record, the wipe, the fuses, the record cleared, the reset. -/
def State.transit (s : State) (x : Sess) (target : Nat) (herit : BitVec 3) : State :=
  let s1 := ((s.okSent x).withLife fun l => { l with intent := some target }).put F.LIFE_STATE_INTENT 1
  let s2 := ((s1.needDomain 11).beginWipe 1 true).put F.MEMCTL_WIPE_BUSY 0
  let s3 := s2.withLife fun l => { l with fuses := s2.blow target, intent := none }
  s3.resetCold 8 256 herit

/-- LIFE_GO (R84, R417, R421, R422): past step 10 of R68 the confirmation code changes, whatever the outcome. -/
def execLifeGo (x : Sess) (target : LifeState) (confirm : Option (BitVec 16)) (herit : BitVec 3) (s : State) :
    Host.Outcome State Fault Refusal :=
  .next <| s.run x lifeCmd fun t =>
    let old := t.life.fuses.state
    let u := t.newCode
    if !transition old target.code then u.er x 120
    else if confirm.map (·.toNat) ≠ some t.life.code then u.er x 222
    else if t.life.load.isSome then u.er x 230
    else
      match t.transitionError old target.code with
      | some e => u.er x e
      | none => u.transit x target.code herit

/-- SLEEP_EXIT (R275, R355 to R357, R519): after `elapsed` edges of XTAL-L asleep, a wake source that is pending ends the sleep.
The wake record is written; the domains of the cores, the peripherals and the Tide counter come back; records are formed for
the latched sources; and both cores go on after their WAIT, or start again by the warm path. -/
def execSleepExit (elapsed : Nat) (herit : BitVec 3) (s : State) : Host.Outcome State Fault Refusal :=
  .next <|
    let d := s.power.depth
    if d = 0 ∨ s.power.latched = 0 then s
    else
      let s1 := (s.tideSlept elapsed).wakeRecord d s.power.latched
      let s2 := { s1 with power := { s1.power with depth := 0, served := s1.power.served + (s1.tide.up - s.tide.up) } }
      let s3 := [0, 1, 8, 12].foldl State.domainOn s2
      let s4 := if s3.on F.TP_CTRL_EN then s3 else s3.tideToFast
      let warm := d = 3 ∨ (d = 2 ∧ !(s.on F.PWR_RETAIN_ITCM && s.on F.PWR_RETAIN_DTCM))
      let w := s4.warmPath herit
      let s5 := if warm then { w with power := { w.power with served := w.tide.up } }
        else { s4 with app := { s4.app with doze := false }, sys := { s4.sys with doze := false } }
      (s5.wakeRecords).raise0 Src.PWR_WAKE

end Sys2Proof.Machine
end

