-- ==== Sys2Proof/Machine/Events.lean ====
section
/-! DEFINITION. The commands of the manifests and of the event router (R513 to R533). -/

namespace Sys2Proof.Machine

/-- The switched domain whose hardware drives a source's line (R345, R510); none for the always-on and backup sources and for
those the system firmware raises. -/
def Src.domain (n : Nat) : Option Nat :=
  if 44 ≤ n ∧ n < 48 then some 6
  else if (80 ≤ n ∧ n < 110) ∨ (152 ≤ n ∧ n < 160) then some 8
  else if 112 ≤ n ∧ n < 128 then some 9
  else if 128 ≤ n ∧ n < 140 then some 10
  else if 148 ≤ n ∧ n < 152 then some 12
  else none

/-- MANIFEST_SOURCE_EVENT (R348, R512, R518, R519): an event of a source reaches both manifests; reserved numbers name no
source, and the line of a domain that is off is clamped. -/
def execManifestSourceEvent (src : Fin 192) (w2 w3 : Word) (s : State) : Host.Outcome State Fault Refusal :=
  .next <|
    if Src.reserved src || (match Src.domain src with | some d => !s.powered d | none => false) then s
    else s.raise src w2.toNat w3.toNat

/-- MAN_POP0_READ (R515). -/
def execManPop0Read (m : Man) (side : Side) (s : State) : Host.Outcome State Fault Refusal := .next (s.popRead m side)

/-- A write of a manifest's register by a side: denied to the side that does not own it (R21). -/
def State.manOwner (s : State) (m : Man) (side : Side) (ofs : Nat) (act : State → State) : State :=
  if side ≠ s.owner m.block then s.deny m.block 0 ofs side else act s

/-- The PEND word of a manifest written: records are unaffected (R518). -/
def State.writePend (s : State) (m : Man) (w v : Nat) : State := s.put (F.MAN_PEND_PEND m.ix w) v

/-- MAN_MASK_WRITE (R512, R518). -/
def execManMaskWrite (m : Man) (side : Side) (w : Fin 6) (value : Word) (s : State) : Host.Outcome State Fault Refusal :=
  .next <| s.manOwner m side (0x100 + 4 * w) fun t => t.writeMask m w value.toNat

/-- MAN_PEND_WRITE (R518). -/
def execManPendWrite (m : Man) (side : Side) (w : Fin 6) (value : Word) (s : State) : Host.Outcome State Fault Refusal :=
  .next <| s.manOwner m side (0x120 + 4 * w) fun t => t.writePend m w value.toNat

/-- A write of an alias (R524): it acts only in the system states BOOT, TEST and RECOVERY; in SERVICE it is ignored and counted
in MAN_ALIASCNT (DEDUCED: there alone), and SYSCTL_ALIAS_DENIED is raised. -/
def State.alias_ (s : State) (m : Man) (side : Side) (ofs : Nat) (act : State → State) : State :=
  s.manOwner m side ofs fun t =>
    if t.get F.SYSCTL_RCAUSE_STATE = 1 then (t.count (F.MAN_ALIASCNT_COUNT m.ix)).raise0 Src.SYSCTL_ALIAS_DENIED else act t

/-- MAN_MASKSET (R524). -/
def execManMaskset (m : Man) (side : Side) (w : Fin 6) (value : Word) (s : State) : Host.Outcome State Fault Refusal :=
  .next <| s.alias_ m side (0x140 + 4 * w) fun t => t.writeMask m w (t.get (F.MAN_MASK_MASK m.ix w) ||| value.toNat)

/-- MAN_MASKCLR (R524). -/
def execManMaskclr (m : Man) (side : Side) (w : Fin 6) (value : Word) (s : State) : Host.Outcome State Fault Refusal :=
  .next <| s.alias_ m side (0x160 + 4 * w) fun t => t.writeMask m w (without (t.get (F.MAN_MASK_MASK m.ix w)) value.toNat)

/-- MAN_PENDSET (R524). -/
def execManPendset (m : Man) (side : Side) (w : Fin 6) (value : Word) (s : State) : Host.Outcome State Fault Refusal :=
  .next <| s.alias_ m side (0x180 + 4 * w) fun t => t.writePend m w (t.get (F.MAN_PEND_PEND m.ix w) ||| value.toNat)

/-- MAN_PENDCLR (R524). -/
def execManPendclr (m : Man) (side : Side) (w : Fin 6) (value : Word) (s : State) : Host.Outcome State Fault Refusal :=
  .next <| s.alias_ m side (0x1A0 + 4 * w) fun t => t.writePend m w (without (t.get (F.MAN_PEND_PEND m.ix w)) value.toNat)

/-- A write of MAN_RAISE from either side (R532): a software source in this manifest alone; one raised in MAN_SYS is also a
notice. -/
def State.manRaise (s : State) (m : Man) (side : Side) (v : Nat) : State :=
  let src := v % 256
  let w2 := v / 256 % 2 ^ 24
  let w3 := match side with | .app => 0 | .console => 1
  if Src.SYSCTL_SW0 ≤ src ∧ src < 192 then
    let s1 := s.sourceIn m src w2 w3
    match m with
    | .app => s1
    | .sys => s1.notices [] (s.classOf .sys src) (noticeText src (noticeKeys src w2 w3))
  else s

/-- MAN_RAISE_WRITE. -/
def execManRaiseWrite (m : Man) (side : Side) (value : Word) (s : State) : Host.Outcome State Fault Refusal :=
  .next (s.manRaise m side value.toNat)

/-- MAN_CFG_WRITE (R513). -/
def execManCfgWrite (m : Man) (side : Side) (value : Word) (s : State) : Host.Outcome State Fault Refusal :=
  .next (s.writeManCfg m side value.toNat)

/-- MNE_MODERATION_TIMEOUT (R520): the oldest record held has waited MOD.TIME. -/
def execMneModerationTimeout (m : Man) (s : State) : Host.Outcome State Fault Refusal :=
  .next <| let q := s.man m
    if q.held.isEmpty then s else s.setMan m { q with timedOut := true }

/-- PRODUCER_EVENT (R525, R529, R531). -/
def execProducerEvent (p : Fin 64) (s : State) : Host.Outcome State Fault Refusal := .next (s.fire p)

/-- A write of EVR_SWTRIG: bit n fires producer 56 + n, in order (R533). -/
def State.swTrig (s : State) (v : Nat) : State :=
  (List.range 4).foldl (fun t n => if bitOf v n then t.fire (56 + n) else t) s

/-- EVR_SWTRIG_WRITE. -/
def execEvrSwtrigWrite (value : BitVec 4) (s : State) : Host.Outcome State Fault Refusal := .next (s.swTrig value.toNat)

/-- A read of EVR_CAPkF: its fraction, and FULL clears (R533). -/
def State.capRead (s : State) (k : Nat) : State :=
  { s.put F.EVR_CAPSTAT_FULL (withBit (s.get F.EVR_CAPSTAT_FULL) k false) with
    busData := BitVec.ofNat 32 (s.get (F.EVR_CAPF_FRAC k)) }

/-- EVR_CAPF_READ. -/
def execEvrCapfRead (k : Fin 4) (s : State) : Host.Outcome State Fault Refusal := .next (s.capRead k)

/-- AON_TICK (R526): producer 63 fires while EVR_TICK.EN is 1. -/
def execAonTick (s : State) : Host.Outcome State Fault Refusal := .next (if s.on F.EVR_TICK_EN then s.fire 63 else s)

end Sys2Proof.Machine
end

