-- ==== Sys2Proof/Machine/Harv.lean ====
section
/-! DEFINITION. The harvester: charging and protection, bands, the store estimate, the burst permit, and the HARV
commands (R362 to R381). -/

namespace Sys2Proof.Machine

/-- The charger's target in mV (R364). -/
def State.chargeTarget (s : State) : Nat :=
  if s.on F.HARV_MPPT_MODE then s.get F.HARV_MPPT_FIXV * 50 else s.get F.HARV_IN_VOC * s.get F.HARV_MPPT_FRAC / 100

/-- HARV_STAT.CHG: charging is enabled, neither protection stops it, and the target is 0.2 V or more (R364, R366). -/
def State.updateCharge (s : State) : State :=
  s.flag F.HARV_STAT_CHG
    (s.on F.HARV_PROT_CHG_EN && !s.on F.HARV_STAT_OVPT && !s.on F.HARV_STAT_TBLK && 200 ≤ s.chargeTarget)

/-- VOC_REFRESH (R364), of MODE FRAC. -/
def execVocRefresh (voc : BitVec 16) (s : State) : Host.Outcome State Fault Refusal :=
  .next (if s.on F.HARV_MPPT_MODE then s else (s.put F.HARV_IN_VOC voc.toNat).updateCharge)

/-- OVP_TRIP (R366). -/
def execOvpTrip (s : State) : Host.Outcome State Fault Refusal :=
  .next ((s.put F.HARV_STAT_OVPT 1).updateCharge.raise0 Src.HARV_PROT)

/-- OVP_RECOVER (R366). -/
def execOvpRecover (s : State) : Host.Outcome State Fault Refusal := .next (s.put F.HARV_STAT_OVPT 0).updateCharge

/-- Each crossing of BOOT_OK, MEAS_OK or XMIT_OK wakes the device while its bit is set (R369). -/
def State.bandWake (s : State) (old new : Nat) : State :=
  if (List.range 3).any fun i => bitOf (s.get F.HARV_WAKE_EN) i && (decide (old < i + 3) != decide (new < i + 3)) then
    s.wake 9
  else s

/-- The store's band changes (R369): a fall through FLOOR raises HARV_FLOOR and cuts a grant (R376); a rise through
MEAS_OK or XMIT_OK fires its producer; the path follows (R328). -/
def State.setBand (s : State) (new : Nat) : State :=
  let old := s.get F.HARV_STAT_BAND
  if new = old then s
  else
    let s1 := ((s.put F.HARV_STAT_BAND new).raise Src.HARV_BAND (old + 8 * new) 0).bandWake old new
    let s2 := if 2 ≤ old ∧ new < 2 then ((s1.cutGrant).raise0 Src.HARV_FLOOR).fire 24 else s1
    let s3 := if old < 4 ∧ 4 ≤ new then s2.fire 25 else s2
    let s4 := if old < 5 ∧ new = 5 then s3.fire 26 else s3
    s4.updatePath

/-- BAND_CHANGE: the band is CUT while the store is disconnected, and only then (R368). -/
def execBandChange (band : Fin 6) (s : State) : Host.Outcome State Fault Refusal :=
  .next (if s.on F.HARV_STAT_CONN = (band.val != 0) then s.setBand band else s)

/-- The protection disconnects the store for a cause (R366, R367): it no longer qualifies, a grant is cut, and the band is CUT.
-/
def State.disconnect (s : State) (cause : Nat) : State :=
  let s1 := { s.put F.HARV_STAT_CONN 0 with harv := { s.harv with off := withBit s.harv.off cause true } }
  ((s1.cutGrant.put F.PWR_PATH_STORE_OK 0).setBand 0).updatePath

/-- A cause of the disconnection ends: without another, and not latched, the store is connected (R366, R367). -/
def State.reconnect (s : State) (cause : Nat) : State :=
  let o := withBit s.harv.off cause false
  let s1 := { s with harv := { s.harv with off := o } }
  if o = 0 ∧ !s.on F.HARV_STAT_LATCH then s1.put F.HARV_STAT_CONN 1 else s1

/-- UVP_TRIP (R366). -/
def execUvpTrip (s : State) : Host.Outcome State Fault Refusal :=
  .next (((s.put F.HARV_STAT_UVP 1).disconnect 0).raise0 Src.HARV_PROT)

/-- STORE_RECONNECT (R366): VSTORE at or above 3.10 V for 1 ms. -/
def execStoreReconnect (s : State) : Host.Outcome State Fault Refusal := .next (s.reconnect 0)

/-- An overcurrent or short-circuit trip (R366, R367): `rested` says that the store conducted for more than 1 s since
the trip before; the third trip without that latches the disconnect. -/
def State.overcurrent (s : State) (rested : Bool) : State :=
  let n := if rested then 1 else s.harv.trips + 1
  let s1 := { s with harv := { s.harv with trips := n } }
  let s2 := ((s1.put F.HARV_STAT_OCP 1).disconnect 1).raise0 Src.HARV_PROT
  if 3 ≤ n then s2.put F.HARV_STAT_LATCH 1 else s2

/-- OCP_TRIP. -/
def execOcpTrip (rested : Bool) (s : State) : Host.Outcome State Fault Refusal := .next (s.overcurrent rested)

/-- SHORT_CIRCUIT_TRIP. -/
def execShortCircuitTrip (rested : Bool) (s : State) : Host.Outcome State Fault Refusal := .next (s.overcurrent rested)

/-- RECONNECT_RETRY (R367): 1 s after an overcurrent or short-circuit trip that did not latch. -/
def execReconnectRetry (s : State) : Host.Outcome State Fault Refusal :=
  .next (if bitOf s.harv.off 1 && !s.on F.HARV_STAT_LATCH then s.reconnect 1 else s)

/-- A write of 1 to HARV_PROT.CLR (R367). -/
def State.clearLatch (s : State) : State :=
  if s.on F.HARV_STAT_LATCH then
    let s1 := s.put F.HARV_STAT_LATCH 0
    { s1 with harv := { s1.harv with trips := 0 } }.reconnect 1
  else s

/-- HARV_PROT_CLR. -/
def execHarvProtClr (side : Side) (s : State) : Host.Outcome State Fault Refusal :=
  .next (if side ≠ s.owner .harv then s.deny .harv 0 0x14 side else s.clearLatch)

/-- TEMPERATURE_SAMPLE (R366), in tenths of a degree: blocked below 0 and above 45, released between 3 and 42. It comes every
16 s, and `pin` is the input power in µW averaged over them (R380). -/
def execTemperatureSample (tenths : Int) (pin : BitVec 16) (s : State) : Host.Outcome State Fault Refusal :=
  .next <|
    let s := s.put F.HARV_IN_PIN pin.toNat
    if s.on F.HARV_STAT_TBLK then
      if 30 < tenths ∧ tenths < 420 then (s.put F.HARV_STAT_TBLK 0).updateCharge else s
    else if tenths < 0 ∨ 450 < tenths then
      (s.put F.HARV_STAT_TBLK 1).updateCharge.raise0 Src.HARV_PROT
    else s

/-- The store's measure (R371): VSTORE in units of 5 mV, and the energy above CUTOFF in µJ, saturating. -/
def State.measureStore (s : State) (vst : Nat) : State :=
  (s.put F.HARV_STAT_VST vst).put F.HARV_EST_E
    (min (s.get F.HARV_CELL_K * 4 * (vst * 5 - 3000)) (2 ^ 24 - 1))

/-- Whether a request of class energy `e` µJ is granted now (R374). -/
def State.grantable (s : State) (e vst : Nat) : Bool :=
  2 ≤ s.get F.HARV_STAT_BAND && e + s.get F.HARV_CELL_K * 800 ≤ s.get F.HARV_CELL_K * 4 * (vst * 5 - 3000)

/-- Grant the request in progress (R374). -/
def State.grant (s : State) : State := ((s.put F.HARV_PSTAT_WAIT 0).put F.HARV_PSTAT_GNT 1).fire 27

/-- STORE_MEASURE (R371, R374); a change of HARV_PCFG waits for the next request phase (R380). -/
def execStoreMeasure (vst : BitVec 10) (s : State) : Host.Outcome State Fault Refusal :=
  .next <|
    if s.on F.HARV_PSTAT_WAIT then
      let s1 := s.measureStore vst.toNat
      if s1.grantable s.harv.grantE vst.toNat then s1.grant else s1
    else s

/-- The class of a BPREQ pulse (R373): (k + 1) x 100 µs, 30 µs either way. -/
def pulseClass (us : Nat) : Option Nat :=
  (List.range 8).find? fun k => (k + 1) * 100 ≤ us + 30 && us ≤ (k + 1) * 100 + 30

/-- BPREQ_CLASS_PULSE. -/
def execBpreqClassPulse (us : Nat) (s : State) : Host.Outcome State Fault Refusal :=
  .next <|
    if !s.on F.HARV_PCFG_EN || s.on F.HARV_PCFG_SRC || s.on F.HARV_PSTAT_REQ then s
    else
      match pulseClass us with
      | some k => { s with harv := { s.harv with cls := some k, ready := true } }
      | none =>
        let s1 := s.count F.HARV_PCNT_BADREQ
        { s1 with harv := { s1.harv with cls := none, ready := true } }

/-- PERMIT_CLASS_WRITE (R373). -/
def execPermitClassWrite (b : Byte) (s : State) : Host.Outcome State Fault Refusal :=
  .next <|
    if !s.on F.HARV_PCFG_EN || !s.on F.HARV_PCFG_SRC then s
    else if b.toNat < 8 then { s with harv := { s.harv with cls := some b.toNat } }
    else s.count F.HARV_PCNT_BADREQ

/-- BPREQ_GAP_TIMEOUT (R373). -/
def execBpreqGapTimeout (s : State) : Host.Outcome State Fault Refusal :=
  .next <|
    if !s.on F.HARV_PCFG_SRC && s.harv.cls.isSome then
      let s1 := s.count F.HARV_PCNT_BADREQ
      { s1 with harv := { s1.harv with cls := none } }
    else s

/-- BPREQ_REQUEST (R374, R375). -/
def execBpreqRequest (vst : BitVec 10) (s : State) : Host.Outcome State Fault Refusal :=
  .next <|
    match s.harv.cls with
    | none => s
    | some k =>
      if !s.on F.HARV_PCFG_EN || !s.harv.ready || s.on F.HARV_PSTAT_REQ then s
      else
        let e := s.get (F.HARV_CLS_E k) * 10
        let s1 := (((s.measureStore vst.toNat).put F.HARV_PSTAT_CLS k).put F.HARV_PSTAT_NEVER 0).put F.HARV_PSTAT_CUT 0
        let s2 := { s1 with harv := { s1.harv with grantE := e, ready := false } }
        let top := if s.on F.HARV_PROT_OVP then 1000 else 900
        if s.get F.HARV_CELL_K * 4 * top < e then
          ((s2.put F.HARV_PSTAT_NEVER 1).count F.HARV_PCNT_DENIED).raise Src.HARV_PERMIT k 0
        else
          let s3 := s2.put F.HARV_PSTAT_REQ 1
          if s2.grantable e vst.toNat then s3.grant else s3.put F.HARV_PSTAT_WAIT 1

/-- BPREQ_DROP (R376): a request that waited is counted as denied. -/
def execBpreqDrop (s : State) : Host.Outcome State Fault Refusal :=
  .next <|
    let s1 := if s.on F.HARV_PSTAT_WAIT then s.count F.HARV_PCNT_DENIED else s
    let s2 := ((s1.put F.HARV_PSTAT_WAIT 0).put F.HARV_PSTAT_GNT 0).put F.HARV_PSTAT_REQ 0
    { s2 with harv := { s2.harv with ready := true, cls := if s.on F.HARV_PCFG_SRC then s.harv.cls else none } }

/-- GRANT_TIMEOUT (R376). -/
def execGrantTimeout (s : State) : Host.Outcome State Fault Refusal := .next s.cutGrant

/-- COLD_START (R378): the charger runs from the cold-start oscillator. -/
def execColdStart (s : State) : Host.Outcome State Fault Refusal :=
  .next { (s.put F.HARV_STAT_CHG 1) with harv := { s.harv with cold := true } }

/-- Facts of the commands of the HARV group. -/
def harvCmd : CmdInfo := { block := some .harv }

/-- HARV_QUERY (R381). -/
def execHarvQuery (x : Sess) (s : State) : Host.Outcome State Fault Refusal :=
  .next <| s.run x { harvCmd with query := true } fun t =>
    (t.reply x ("HARV STORE=" ++ Text.fixed 3 (t.get F.HARV_STAT_VST * 5) ++ " STATE=" ++
      Name.band (t.get F.HARV_STAT_BAND) ++ " IN=" ++ Text.dec (t.get F.HARV_IN_PIN))).ok x

/-- HARV_MPPT (R364): the mode with its value, in % or in units of 50 mV. -/
def execHarvMppt (x : Sess) (fixed : Bool) (value : Nat) (s : State) : Host.Outcome State Fault Refusal :=
  .next <| s.run x harvCmd fun t =>
    ((t.flag F.HARV_MPPT_MODE fixed).put (if fixed then F.HARV_MPPT_FIXV else F.HARV_MPPT_FRAC) value).updateCharge.ok x

/-- HARV_XMIT (R368). -/
def execHarvXmit (x : Sess) (level : Fin 71) (s : State) : Host.Outcome State Fault Refusal :=
  .next (s.run x harvCmd fun t => (t.put F.HARV_XMIT_LEVEL level).ok x)

/-- HARV_OVP (R366). -/
def execHarvOvp (x : Sess) (high : Bool) (s : State) : Host.Outcome State Fault Refusal :=
  .next (s.run x harvCmd fun t => (t.flag F.HARV_PROT_OVP high).ok x)

/-- HARV_PERMIT_QUERY (R381). -/
def execHarvPermitQuery (x : Sess) (s : State) : Host.Outcome State Fault Refusal :=
  .next <| s.run x { harvCmd with query := true } fun t =>
    (t.reply x ("HARV PERMIT REQ=" ++
      (if t.on F.HARV_PSTAT_REQ then Text.dec (t.get F.HARV_PSTAT_CLS) else "NONE") ++ " GNT=" ++
      Text.dec (t.get F.HARV_PSTAT_GNT) ++ " DENIED=" ++ Text.dec (t.get F.HARV_PCNT_DENIED))).ok x

end Sys2Proof.Machine
end

