-- ==== Sys2Proof/Machine/I2ct.lean ====
section
/-! DEFINITION. The I²C target: address matches, bytes, stretches and its FIFOs (R568 to R572). -/

namespace Sys2Proof.Machine

/-- The target changed, its levels following. -/
def State.modI2ct (s : State) (f : I2ct → I2ct) : State :=
  let p := f s.i2ct
  { s with i2ct := p }.puts [(F.I2CT_STAT_RXLVL, p.rx.length), (F.I2CT_STAT_TXLVL, p.tx.length)]

/-- Whom an address serves, with its index (R568, R569). -/
def State.i2cServes (s : State) (addr : Nat) : Option (I2cServe × Nat) :=
  let a2 := addr == s.get F.I2CT_ADDR_A2
  if a2 && s.on F.HARV_PCFG_SRC then some (.permit, 1)
  else if addr == s.get F.I2CT_ADDR_A1 && s.on F.I2CT_ADDR_A1_EN then
    some (if s.owner .i2ct = .console then .console else .fifo, 0)
  else if a2 && s.on F.I2CT_ADDR_A2_EN then some (.fifo, 1)
  else none

/-- I2CT_ADDRESS_MATCH (R570): asleep, the matcher wakes the device if the wake is enabled. -/
def execI2ctAddressMatch (addr : BitVec 7) (read : Bool) (s : State) : Host.Outcome State Fault Refusal :=
  .next <|
    match s.i2cServes addr.toNat with
    | none => s
    | some (v, i) =>
      let s1 := (s.fire 45).wake 7
      if s.power.depth ≠ 0 ∧ s1.power.latched = 0 then s1
      else
        ((s1.modI2ct fun p => { p with serve := some v, aidx := i, first := true }).puts
          [(F.I2CT_STAT_BUSY, 1), (F.I2CT_STAT_RW, bit read)]).raiseK Src.I2CT_ADDR (i + 2 * bit read) 0
          [("INDEX", Text.dec i), ("RW", Text.dec (bit read))]

/-- I2CT_BYTE_RECEIVED (R571): a byte into a full FIFO is stretched. A permit's byte is PERMIT_CLASS_WRITE's. -/
def execI2ctByteReceived (b : Byte) (s : State) : Host.Outcome State Fault Refusal :=
  .next <|
    if s.on F.I2CT_STAT_RW then s
    else
      match s.i2ct.serve with
      | some .console => s.hostByte .i2c b false
      | some .fifo =>
        if 8 ≤ s.i2ct.rx.length then s
        else
          let w := b.toNat + 256 * bit s.i2ct.first + 512 * s.i2ct.aidx
          (s.modI2ct fun p => { p with rx := p.rx ++ [w], first := false }).raise0 Src.I2CT_RX
      | _ => s

/-- The next character of the console stream (R571): with none queued, 0x00. -/
def State.i2cStream (s : State) : State :=
  let s1 :=
    if s.i2ct.stream.isEmpty && !((s.sess .i2c).out.isEmpty && (s.sess .i2c).echo == "") then
      let t := s.transmit .i2c
      t.modI2ct fun p => { p with stream := (t.sess .i2c).wire.toList }
    else s
  match s1.i2ct.stream with
  | [] => { s1 with busData := 0 }
  | c :: r => { s1.modI2ct fun p => { p with stream := r } with busData := BitVec.ofNat 32 c.toNat }

/-- I2CT_BYTE_SENT (R571, R373): the byte the host reads is in `busData`. -/
def execI2ctByteSent (s : State) : Host.Outcome State Fault Refusal :=
  .next <|
    if !s.on F.I2CT_STAT_RW then s
    else
      match s.i2ct.serve with
      | some .console => s.i2cStream
      | some .permit => { s with busData := BitVec.ofNat 32 (s.storedWord .harv 0x34 % 256) }
      | some .fifo =>
        match s.i2ct.tx with
        | [] => s
        | h :: r =>
          let t := { s.modI2ct fun p => { p with tx := r } with busData := BitVec.ofNat 32 h }
          if r.isEmpty then t.raise0 Src.I2CT_TX else t
      | none => s

/-- I2CT_STRETCH_TIMEOUT (R571): only a stretch of the owner's FIFOs ends so. -/
def execI2ctStretchTimeout (s : State) : Host.Outcome State Fault Refusal :=
  .next <|
    let read := s.on F.I2CT_STAT_RW
    if s.i2ct.serve = some .fifo ∧ (if read then s.i2ct.tx.isEmpty else 8 ≤ s.i2ct.rx.length) then
      { (s.put F.I2CT_STAT_TMO 1).raise0 Src.I2CT_ERR with busData := if read then 0xFF else s.busData }
    else s

/-- I2CT_STOP (R571). -/
def execI2ctStop (s : State) : Host.Outcome State Fault Refusal :=
  .next <|
    if s.i2ct.serve.isSome then
      ((s.modI2ct fun p => { p with serve := none }).puts [(F.I2CT_STAT_BUSY, 0), (F.I2CT_STAT_RW, 0)]).raise0 Src.I2CT_STOP
    else s

/-- A read of I2CT_DATA (R572). -/
def State.i2cRead (s : State) (side : Side) : State :=
  match s.i2ct.rx with
  | [] => { s with busData := 0x8000 }
  | h :: r =>
    let t := if side = s.owner .i2ct then s.modI2ct fun p => { p with rx := r } else s
    { t with busData := BitVec.ofNat 32 h }

/-- I2CT_DATA_READ. -/
def execI2ctDataRead (side : Side) (s : State) : Host.Outcome State Fault Refusal :=
  .next (s.access .i2ct 0x18 side.master false fun t => t.i2cRead side)

/-- A write of I2CT_DATA (R572): into a full FIFO it is discarded (DESIGN CHOICE). -/
def State.i2cWrite (s : State) (side : Side) (v : Nat) : State :=
  s.guard .i2ct 0x18 side false fun t =>
    if 8 ≤ t.i2ct.tx.length then t else t.modI2ct fun p => { p with tx := p.tx ++ [v % 256] }

/-- I2CT_DATA_WRITE. -/
def execI2ctDataWrite (side : Side) (value : Byte) (s : State) : Host.Outcome State Fault Refusal :=
  .next (s.access .i2ct 0x18 side.master true fun t => t.i2cWrite side value.toNat)

end Sys2Proof.Machine
end

