-- ==== Sys2Proof/Machine/Spi.lean ====
section
/-! DEFINITION. The SPI ports: transfers, frames, chip select and FIFOs (R573, R574). -/

namespace Sys2Proof.Machine

/-- The block of an SPI port. -/
def spiBlock (k : Nat) : Block := if k = 0 then .spi0 else .spi1

/-- An SPI port changed, its levels following. -/
def State.modSpi (s : State) (k : Nat) (f : Spi → Spi) : State :=
  let p := f (s.spi k)
  (s.setSpi k p).puts [(F.SPI_STAT_RXLVL k, p.rx.length), (F.SPI_STAT_TXLVL k, p.tx.length)]

/-- The greatest frame of a port. -/
def State.frameMax (s : State) (k : Nat) : Nat := 2 ^ (8 * 2 ^ s.get (F.SPI_CFG_SIZE k)) - 1

/-- A frame between its value and its bits in the order of the line, the first the most significant: with LSBF the least
significant bit of the value comes first (R573). -/
def State.lineOrder (s : State) (k v : Nat) : Nat :=
  let w := 8 * 2 ^ s.get (F.SPI_CFG_SIZE k)
  if s.on (F.SPI_CFG_LSBF k) then ofBits w fun i => bitOf v (w - 1 - i) else v &&& s.frameMax k

/-- SPIk_DONE and SPIk_ERR (R510). -/
def spiDone (k : Nat) : Nat := 105 + 2 * k
def spiErr (k : Nat) : Nat := 106 + 2 * k

/-- The end of a transfer (R574). -/
def State.spiEnd (s : State) (k : Nat) : State :=
  (((s.modSpi k fun p => { p with left := 0, abort := false }).put (F.SPI_STAT_BUSY k) 0).raise0 (spiDone k)).fire (46 + k)

/-- SPI_START (R574). -/
def execSpiStart (side : Side) (k : Fin 2) (s : State) : Host.Outcome State Fault Refusal :=
  .next <| s.access (spiBlock k) 0x14 side.master true fun t =>
    t.guard (spiBlock k) 0x14 side false fun u => u.spiStart k

/-- Whether SCK of a host transfer stalls between frames (R574). -/
def State.spiStalls (s : State) (k : Nat) : Bool := (s.spi k).tx.isEmpty || 8 ≤ (s.spi k).rx.length

/-- ABORT (R574): ends a host transfer after the frame in progress, at once where SCK stalls; a target ignores it. -/
def State.spiAbort (s : State) (k : Nat) : State :=
  if !s.on (F.SPI_CFG_HOST k) || !s.on (F.SPI_STAT_BUSY k) then s
  else if s.spiStalls k then s.spiEnd k
  else s.modSpi k fun p => { p with abort := true }

/-- SPI_ABORT. -/
def execSpiAbort (side : Side) (k : Fin 2) (s : State) : Host.Outcome State Fault Refusal :=
  .next <| s.access (spiBlock k) 0x14 side.master true fun t =>
    t.guard (spiBlock k) 0x14 side false fun u => u.spiAbort k

/-- A frame of a host transfer: `v` comes in, the head of the TX FIFO goes out. -/
def State.hostFrame (s : State) (k v : Nat) : State :=
  if !s.on (F.SPI_STAT_BUSY k) || s.spiStalls k then s
  else
    let p := s.spi k
    let t := { s.modSpi k fun q => { q with
        tx := q.tx.drop 1, rx := q.rx ++ [s.lineOrder k v], left := q.left - 1 } with
      busData := BitVec.ofNat 32 (s.lineOrder k (p.tx.headD 0)) }
    if p.left ≤ 1 ∨ p.abort then t.spiEnd k else t

/-- A frame of a target transfer (R574): an empty TX FIFO sends ones, a full RX FIFO discards. -/
def State.targetFrame (s : State) (k v : Nat) : State :=
  let p := s.spi k
  let s1 := s.put (F.SPI_STAT_BUSY k) 1
  let s2 :=
    match p.tx with
    | [] => { (s1.put (F.SPI_STAT_UDR k) 1).raise0 (spiErr k) with busData := BitVec.ofNat 32 (s.frameMax k) }
    | h :: r => { s1.modSpi k fun q => { q with tx := r } with busData := BitVec.ofNat 32 (s.lineOrder k h) }
  if 8 ≤ p.rx.length then (s2.put (F.SPI_STAT_OVR k) 1).raise0 (spiErr k)
  else s2.modSpi k fun q => { q with rx := q.rx ++ [s.lineOrder k v] }

/-- SPI_FRAME: `value` holds the frame's bits as they come in, the first in the most significant place; `busData` shows those
that go out in the same order. -/
def execSpiFrame (k : Fin 2) (value : Word) (s : State) : Host.Outcome State Fault Refusal :=
  .next <|
    if !s.on (F.SPI_CFG_EN k) || !s.powered 8 then s
    else if s.on (F.SPI_CFG_HOST k) then s.hostFrame k value.toNat
    else s.targetFrame k value.toNat

/-- SPI_CS_RAISE (R574): in target mode; a partial frame is discarded. -/
def execSpiCsRaise (k : Fin 2) (partial_ : Bool) (s : State) : Host.Outcome State Fault Refusal :=
  .next <|
    if s.on (F.SPI_CFG_EN k) && s.powered 8 && !s.on (F.SPI_CFG_HOST k) && (partial_ || s.on (F.SPI_STAT_BUSY k)) then
      (if partial_ then (s.put (F.SPI_STAT_CSABORT k) 1).raise0 (spiErr k) else s).spiEnd k
    else s

/-- A read of SPIk_DATA (R574). An empty FIFO reads a value that is not stated. -/
def State.spiRead (s : State) (side : Side) (k : Nat) : State :=
  match (s.spi k).rx with
  | [] => { s.spend with busData := BitVec.ofNat 32 (Config.number s.free) }
  | h :: r =>
    let t := if side = s.owner (spiBlock k) then s.modSpi k fun p => { p with rx := r } else s
    { t with busData := BitVec.ofNat 32 h }

/-- SPI_DATA_READ. -/
def execSpiDataRead (side : Side) (k : Fin 2) (s : State) : Host.Outcome State Fault Refusal :=
  .next (s.access (spiBlock k) 0x18 side.master false fun t => t.spiRead side k)

/-- A write of SPIk_DATA (R574): into a full FIFO it is discarded (DESIGN CHOICE). -/
def State.spiWrite (s : State) (side : Side) (k v : Nat) : State :=
  s.guard (spiBlock k) 0x18 side false fun t =>
    if 8 ≤ (t.spi k).tx.length then t else t.modSpi k fun p => { p with tx := p.tx ++ [v &&& t.frameMax k] }

/-- SPI_DATA_WRITE. -/
def execSpiDataWrite (side : Side) (k : Fin 2) (value : Word) (s : State) : Host.Outcome State Fault Refusal :=
  .next (s.access (spiBlock k) 0x18 side.master true fun t => t.spiWrite side k value.toNat)

end Sys2Proof.Machine
end

