-- ==== Sys2Proof/Machine/Tp.lean ====
section
/-! DEFINITION. The time pulse: its edges, its staged settings, the TPIN input, and the TP commands (R281, R286 to R297). -/

namespace Sys2Proof.Machine

/-- The width in ticks of a pulse that starts now: one of a period or more is held at a tick less than the period
(R289), and it is halved under FLAG (R291). -/
def State.pulseWidth (s : State) : Nat :=
  let per := (if s.tp.period = 0 then 2 ^ 64 else s.tp.period)
  let top := (per * 320000000 + 2 ^ 32 - 1) / 2 ^ 32 - 1
  let w := min s.tp.width top
  if s.on F.TP_STAT_FLAG then w / 2 else w

/-- TP_LEADING_EDGE (R286, R288): the edge of the next pulse leaves the pin. -/
def execTpLeadingEdge (s : State) : Host.Outcome State Fault Refusal :=
  .next <|
    if s.on F.TP_STAT_ON && s.tp.pulse.isNone then
      let s1 := (s.withTp fun p => { p with next := p.next + 1, pulse := some s.pulseWidth }).reportPulse
      let s2 :=
        if s1.tp.reports then s1.raise Src.TP_PULSE (s1.get F.TP_QNEXT_SEC) (s1.get F.TP_QERR_QERR) else s1
      s2.fire 19
    else s

/-- The staged settings take effect (R289, R297): a period below 1 us leaves both of its fields at their previous values;
an edge due within 1 us is skipped. -/
def State.applyPulse (s : State) : State :=
  let per := s.get F.TP_PERS_SEC * 2 ^ 32 + s.get F.TP_PERF_FRAC
  let keep := per ≠ 0 ∧ per * 1000000 < 2 ^ 32
  let s1 :=
    if keep then s.puts [(F.TP_PERS_SEC, s.tp.period / 2 ^ 32), (F.TP_PERF_FRAC, s.tp.period % 2 ^ 32)] else s
  let s2 := s1.withTp fun p =>
    { p with
      period := if keep then p.period else per
      width := s1.get F.TP_WIDTH_TICKS
      delay := s1.getS F.TP_DELAY_DELAY
      pol := s1.on F.TP_CTRL_POL
      policy := s1.on F.TP_CTRL_POLICY
      scale := s1.get F.TP_CTRL_SCALE }
  let s3 := s2.put F.TP_STAT_APPLY_PEND 0
  if s3.on F.TP_CTRL_EN then
    let k := s3.firstPulse s3.tide.now
    let near := s3.edgeTime k - (s3.tide.now : Int) ≤ ofNanos 1000
    let s4 := s3.withTp fun p => { p with next := if near then k + 1 else k }
    (if near then s4.put F.TP_STAT_SKIP 1 else s4).reportPulse.pulsePolicy
  else s3

/-- Release the staged settings: after the trailing edge of the pulse in progress, or at once (R289). -/
def State.releasePulse (s : State) : State :=
  if s.tp.pulse.isSome then s.put F.TP_STAT_APPLY_PEND 1 else s.applyPulse

/-- TP_TRAILING_EDGE (R289). -/
def execTpTrailingEdge (s : State) : Host.Outcome State Fault Refusal :=
  .next <|
    let s1 := s.withTp fun p => { p with pulse := none }
    if s1.on F.TP_STAT_APPLY_PEND then s1.applyPulse else s1

/-- TP_CTRL_APPLY. -/
def execTpCtrlApply (side : Side) (s : State) : Host.Outcome State Fault Refusal :=
  .next (s.guard .tp 0x10 side false State.releasePulse)

/-- The time pulse turned on or off (R293), with XTAL-G following: turned on, the pulses are aligned
afresh; turned off, none is in progress. -/
def State.enablePulse (s : State) (on : Bool) : State :=
  let s1 := s.flag F.TP_CTRL_EN on
  if on && !s.on F.TP_CTRL_EN then s1.pulseAlign.pulsePolicy.pulseOn.xtalFollow
  else if on then s1
  else ((s1.withTp fun p => { p with pulse := none }).put F.TP_QERR_VALID 0).pulsePolicy.pulseOn.xtalFollow

/-- Facts of the commands of the TP group. -/
def tpCmd : CmdInfo := { block := some .tp, heritage := true }

/-- TP_ON_OFF (R293, R295). -/
def execTpOnOff (x : Sess) (on : Bool) (s : State) : Host.Outcome State Fault Refusal :=
  .next (s.run x tpCmd fun t => t.settle x .tp 0x10 (t.enablePulse on))

/-- TP_SET (R289): the period in 2^-32 s, from 1 us to 2^32 s, and the width in ticks. -/
def execTpSet (x : Sess) (period width : Option Nat) (neg : Option Bool) (scale : Option (Fin 8)) (s : State) :
    Host.Outcome State Fault Refusal :=
  .next <| s.run x tpCmd fun t =>
    let badP := period.any fun p => p * 1000000 < 2 ^ 32 || 2 ^ 64 < p
    let badW := width.any fun w => w == 0 || 2 ^ 32 ≤ w
    if badP || badW then t.er x 120
    else
      let t1 := match period with
        | some p => (t.put F.TP_PERS_SEC (p / 2 ^ 32)).put F.TP_PERF_FRAC p
        | none => t
      let t2 := match width with | some w => t1.put F.TP_WIDTH_TICKS w | none => t1
      let t3 := match neg with | some n => t2.flag F.TP_CTRL_POL n | none => t2
      let t4 := match scale with | some c => t3.put F.TP_CTRL_SCALE c | none => t3
      t4.releasePulse.ok x

/-- TP_DELAY (R294): the delay in quarter-nanoseconds. -/
def execTpDelay (x : Sess) (quarters : Int) (s : State) : Host.Outcome State Fault Refusal :=
  .next <| s.run x tpCmd fun t =>
    if -536870912 ≤ quarters ∧ quarters ≤ 536870911 then ((t.putS F.TP_DELAY_DELAY quarters).releasePulse).ok x
    else t.er x 120

/-- TP_POLICY (R291). -/
def execTpPolicy (x : Sess) (flag : Bool) (s : State) : Host.Outcome State Fault Refusal :=
  .next (s.run x tpCmd fun t => ((t.flag F.TP_CTRL_POLICY flag).releasePulse).ok x)

/-- TPIN_PULSE (R281): `stamp` is the Tide time of the active edge in 2^-32 s, taken on the sampler, which needs TFS. A
pulse is accepted 1 s ± 100 us after the previous accepted one, or when it is the first after 2 s without one. -/
def execTpinPulse (stamp : Nat) (s : State) : Host.Outcome State Fault Refusal :=
  .next <|
    if !s.fastRuns then s
    else
      let t := stamp * 2 ^ 24
      let count := addTime t ((s.tide.up : Int) - (s.tide.now : Int))
      let ok := match s.tide.lastPps with
        | none => true
        | some p =>
          let gap := (count : Int) - (p : Int)
          decide (2 * (tideOne : Int) < gap) || decide ((gap - (tideOne : Int)).natAbs ≤ ofNanos 100000)
      if !ok then s.count F.TIDE_PPSCNT_REJ
      else
        let edge := (t : Int) - ofQuarters (s.getS F.TIDE_PPSDLY_DLY)
        let e := roundDiv edge tideOne * (tideOne : Int) - edge
        let s1 := s.withTide fun u => { u with lastPps := some count }
        let s2 := (s1.raise Src.TIDE_PPS (stamp / 2 ^ 32 % 2 ^ 32) (stamp % 2 ^ 32)).fire 20
        s2.measure 1 e count 20

end Sys2Proof.Machine
end

