-- ==== Sys2Proof/Machine/Tt.lean ====
section
/-! DEFINITION. Serial time transfer (R282 to R285). Times of an exchange are in 2^-32 s. -/

namespace Sys2Proof.Machine

/-- The state with the serial time transfer's own state replaced. -/
def State.withTt (s : State) (f : TtState → TtState) : State := { s with tt := f s.tt }

/-- A rejection (R284): counted, with its reason and number; an open exchange ends. -/
def State.ttReject (s : State) (reason n : Nat) : State :=
  ((s.withTt fun t => { t with open_ := none }).count F.TIDE_TTCNT_REJ).raise Src.TIDE_TT_REJECT reason n

/-- A line that no exchange awaits (R284 reason 9): an open exchange is rejected with it. -/
def State.ttStray (s : State) (n : Nat) : State :=
  (match s.tt.open_ with | some e => s.ttReject 9 e.n | none => s).ttReject 9 n

/-- Facts of the TT commands. -/
def ttCmd : CmdInfo := { block := some .tide }

/-- TT_ON_OFF (R282, R284 reason 8): `uart1` is the port named, if any. -/
def execTtOnOff (x : Sess) (on : Bool) (uart1 : Option Bool) (s : State) : Host.Outcome State Fault Refusal :=
  .next <| s.run x ttCmd fun t =>
    let port := uart1.getD (t.on F.TIDE_TTCFG_PORT)
    if on && port && t.owner .uart1 != .console then t.er x 210
    else
      let ends := !on || port != t.on F.TIDE_TTCFG_PORT
      let t1 := match t.tt.open_ with
        | some e => if ends then t.ttReject 8 e.n else t
        | none => t
      let t2 := (t1.flag F.TIDE_TTCFG_EN on).flag F.TIDE_TTCFG_PORT port
      t2.ok x

/-- Run a TT host line from a session, or from UART1 where `x` is none, after its checks (R282). A TT line produces no
reply but an error. -/
def State.ttLine (s : State) (x : Option Sess) (body : State → State) : State :=
  match x with
  | none => if s.on F.TIDE_TTCFG_EN && s.on F.TIDE_TTCFG_PORT && s.owner .uart1 == .console then body s else s
  | some x =>
    s.run x ttCmd fun t =>
      if !t.on F.TIDE_TTCFG_EN then t.er x 230
      else if t.on F.TIDE_TTCFG_PORT || x != .uart0 then t.er x 140
      else body t

/-- TT_SYNC (R283, R284 reason 7). -/
def execTtSync (x : Option Sess) (n : BitVec 16) (t2 : Nat) (s : State) : Host.Outcome State Fault Refusal :=
  .next <| s.ttLine x fun t =>
    let t1 := match t.tt.open_ with | some e => t.ttReject 7 e.n | none => t
    t1.withTt fun u => { u with open_ := some ⟨n.toNat, t2, none⟩ }

/-- The line `TT DREQ n` leaves on the port of the exchange, at priority 1 (R74, R283). -/
def State.sendDreq (s : State) (x : Option Sess) (n : Nat) : State :=
  let t := "TT DREQ " ++ Text.dec n
  match x with
  | some x => s.emit x 1 0 0 .nothing t
  | none => { s with console := { s.console with port1 := s.console.port1 ++ (t ++ crlf).toList } }

/-- Whether more than 2 s passed since a line of the exchange (R284). -/
def State.ttLate (s : State) (stamp : Int) : Bool :=
  decide (stamp + 2 * (2 ^ 32 : Nat) < ((s.tide.now / 2 ^ 24 : Nat) : Int))

/-- TT_FOLLOW (R283, R284 reasons 1, 3 and 9): `t3` stamps the start bit of the answer. -/
def execTtFollow (x : Option Sess) (n : BitVec 16) (t1 t3 : Nat) (s : State) : Host.Outcome State Fault Refusal :=
  .next <| s.ttLine x fun t =>
    match t.tt.open_ with
    | none => t.ttStray n.toNat
    | some e =>
      if e.sent.isSome then t.ttStray n.toNat
      else if t.ttLate e.t2 then t.ttReject 1 e.n
      else if e.n ≠ n.toNat then t.ttReject 3 e.n
      else (t.withTt fun u => { u with open_ := some { e with sent := some (t1, t3) } }).sendDreq x n.toNat

/-- The least of a list of numbers. -/
def least : List Nat → Option Nat
  | [] => none
  | a :: r => match least r with | some b => some (min a b) | none => some a

/-- The bound of a stamp in 1/16 ns, at a baud rate (R285): 87.5 ns + 1/(16 x baud). -/
def stampBound (baud : Nat) : Nat := 1400 + 1000000000 / max 1 baud

/-- The baud rate of the port in use: UART0's, or the one UART1's divider makes of island 7's
clock (R556). -/
def State.ttBaud (s : State) : Nat :=
  if s.on F.TIDE_TTCFG_PORT then
    s.islandHz 6 / max 1 (16 * s.get (F.UART_BAUD_INT 1) + s.get (F.UART_BAUD_FRAC 1))
  else s.console.rate

/-- An exchange that passed its checks, with OFFSET and DELAY in quarter-ns and OFFSET in 2^-56 s (R280, R283). -/
def State.ttAccept (s : State) (n : Nat) (ofs dly : Int) (e : Int) : State :=
  let d := dly.toNat
  let l := (d :: s.tt.delays).take 8
  let excess := d - (least l).getD d
  let err := (stampBound s.ttBaud + 15) / 16 + excess / 8
  let s1 := s.withTt fun u => { u with open_ := none, delays := l }
  let s2 := ((s1.putS F.TIDE_TTOFS_OFFSET (clamp (-2147483648) 2147483647 ofs)).put F.TIDE_TTDLY_DELAY d).put
    F.TIDE_TTSTAT_LAST n
  let s3 := (s2.count F.TIDE_TTCNT_ACC).raise Src.TIDE_TT_DONE n
    (pattern 32 (clamp (-2147483648) 2147483647 ofs))
  s3.measure 2 e s3.tide.up err

/-- TT_DRESP (R283, R284 reasons 2 to 5 and 9). -/
def execTtDresp (x : Option Sess) (n : BitVec 16) (t4 : Nat) (s : State) : Host.Outcome State Fault Refusal :=
  .next <| s.ttLine x fun t =>
    match t.tt.open_ with
    | some ⟨m, t2, some (t1, t3)⟩ =>
      if t.ttLate t3 then t.ttReject 2 m
      else if m ≠ n.toNat then t.ttReject 3 m
      else
        let a := t2 - t1
        let b := (t4 : Int) - t3
        let q := fun (v : Int) => roundDiv (v * 4000000000) (2 ^ 33)
        let ofs := q (a - b)
        let dly := q (a + b)
        if a + b < 0 ∨ (t.get F.TIDE_TTCFG_MAXDLY * 4 : Nat) < dly then t.ttReject 4 m
        else if (least t.tt.delays).any (fun l => (l : Int) + 4000 < dly) then t.ttReject 5 m
        else t.ttAccept m ofs dly ((b - a) * (2 ^ 23 : Nat))
    | _ => t.ttStray n.toNat

/-- TT_EXCHANGE_TIMEOUT (R284 reasons 1 and 2). -/
def execTtExchangeTimeout (s : State) : Host.Outcome State Fault Refusal :=
  .next (match s.tt.open_ with | some e => s.ttReject (if e.sent.isSome then 2 else 1) e.n | none => s)

/-- A quarter-ns value in ns (R674). -/
def nsText (q : Int) : String := Text.dyadic 2 q

/-- TT_QUERY (R283, R674). -/
def execTtQuery (x : Sess) (s : State) : Host.Outcome State Fault Refusal :=
  .next <| s.run x { ttCmd with query := true } fun t =>
    (t.reply x ("TT OFFSET=" ++ nsText (t.getS F.TIDE_TTOFS_OFFSET) ++ " DELAY=" ++ nsText (t.get F.TIDE_TTDLY_DELAY) ++
      " LAST=" ++ Text.dec (t.get F.TIDE_TTSTAT_LAST))).ok x

end Sys2Proof.Machine
end

