-- ==== Sys2Proof/Machine/BusWrite.lean ====
section
/-! DEFINITION. A write of any register by a side: which registers do more than hold what is written (R7, R8, R21, R22, R37,
R670, R671, and the register tables of the chapters). -/

namespace Sys2Proof.Machine

/-- The bits of the byte lanes of an access. -/
def laneBits (lanes : Nat) : Nat :=
  (List.range 4).foldl (fun a i => if bitOf lanes i then a + 0xFF * 2 ^ (8 * i) else a) 0

/-- A word with the addressed lanes of `v`, the others of `old`. -/
def mergeLanes (old v lanes : Nat) : Nat := without old (laneBits lanes) + (v &&& laneBits lanes)

/-- The word that a write of some lanes spells (R670): stored fields keep their unaddressed part, and the unaddressed lanes of
write actions read as 0. -/
def State.laneWord (s : State) (b : Block) (ofs v lanes : Nat) : Nat :=
  (regFields b ofs).foldl
    (fun a f =>
      let w := if f.acc == .rw then mergeLanes (s.storedWord b ofs) v lanes else v &&& laneBits lanes
      a + bitsOf w f.lo f.w * 2 ^ f.lo) 0

/-- The lanes that hold what a write of a register sets off: the fields it has, and of OWNLVL, TIDE_LEAP and CLK_ISL, whose
writes ask for what they name, the field that asks. -/
def askedLanes (b : Block) (ofs : Nat) : Nat :=
  if ofs = 4 then 0x2
  else
    match b with
    | .tide => if ofs = 0x3C then 0xFF else 0xFFFFFFFF
    | _ => 0xFFFFFFFF

/-- Whether a write addresses no lane of what the register takes: it changes nothing (R670). -/
def laneMiss (b : Block) (ofs lanes : Nat) : Bool := laneBits lanes &&& askedLanes b ofs == 0

/-- Only the owner's side acts (R21). -/
def State.byOwner (s : State) (b : Block) (ofs : Nat) (side : Side) (act : State → State) : State :=
  if side ≠ s.owner b then s.deny b 0 ofs side else act s

/-- The owner's plain write of a register, under the ledger (R22, R37, R671). -/
def State.plainWrite (s : State) (b : Block) (ofs : Nat) (side : Side) (v : Nat) : State :=
  s.byOwner b ofs side fun t => t.underLedger b ofs side (t.writeFields b ofs side v)

/-- The owner's plain write of a register, refused as a whole while `busy` (R671). -/
def State.heldWrite (s : State) (b : Block) (ofs : Nat) (side : Side) (busy : Bool) (v : Nat) : State :=
  s.byOwner b ofs side fun t => if busy then t.deny b 3 ofs side else t.writeFields b ofs side v

/-- SYSCTL: each register states who writes it (R34, R402, R404). The strap at a reset is not the write's to say. -/
def State.writeSysctl (s : State) (m : Master) (ofs v : Nat) : State :=
  match ofs with
  | 0x20 => if m.side = .app then s.writeOwn v else s.deny .sysctl 0 ofs .console
  | 0x44 =>
    if !m.core then s.deny .sysctl 0 ofs m.side
    else if bitOf v 1 then s.spend.resetCold 6 (if bitOf v 0 then 192 else 64) s.freeStrap
    else if bitOf v 0 then s.appRestart 7 128
    else s
  | 0x48 =>
    if m ≠ .appData then s.deny .sysctl 0 ofs m.side
    else
      let n := bitsOf v 0 16
      let s1 :=
        if n = 0 ∨ n = s.get F.SYSCTL_WDTA_TIMEOUT then s
        else if s.on F.SYSCTL_WDTA_EN then s.deny .sysctl 3 ofs .app
        else s.put F.SYSCTL_WDTA_TIMEOUT n
      (if bitOf v 16 then s1.enableWdt else s1).serveWdt (bitsOf v 24 8)
  | _ => s

/-- PWR (R359). -/
def State.writePwr (s : State) (side : Side) (ofs v : Nat) : State :=
  match ofs with
  | 0x10 => s.writePwrPoint side v
  | 0x14 => s.byOwner .pwr ofs side fun t => if bitsOf v 0 1 = t.get F.PWR_PATH_POLICY then t else t.setPolicy (bitsOf v 0 1)
  | 0x18 => s.writePwrReg side (bitOf v 0)
  | 0x20 => s.writeDomf side v
  | 0x28 =>
    -- A pair written as 0b11 keeps its value.
    let old := s.get F.PWR_BIAS_BIAS
    let new := (List.range 14).foldl
      (fun a d => a + (if bitsOf v (2 * d) 2 = 3 then bitsOf old (2 * d) 2 else bitsOf v (2 * d) 2) * 2 ^ (2 * d)) 0
    s.plainWrite .pwr ofs side new
  | 0x50 => s.byOwner .pwr ofs side fun t => (t.writeFields .pwr ofs side v).rearm
  | _ => s.plainWrite .pwr ofs side v

/-- CLK (R390, R395, R398): an island's source and gates, and RETRY. -/
def State.writeClk (s : State) (side : Side) (ofs v lanes : Nat) : State :=
  if ofs = 0x10 then
    let t := (s.plainWrite .clk ofs side v).fllGate.xtalFollow
    if bitOf v 4 && side = s.owner .clk && s.expert .clk then t.retryClocks else t
  else if 0x100 ≤ ofs ∧ ofs < 0x140 then
    let i := (ofs - 0x100) / 4
    -- A source is asked for only where its lane is addressed (R670).
    let asked := bitOf lanes 0
    let sel := bitsOf v 0 3
    let v1 := if i < 3 ∨ 13 ≤ i then without v 0x600 + (s.storedWord .clk ofs &&& 0x600) else v
    s.byOwner .clk ofs side fun t =>
      if !t.expert .clk then (if t.expertDiffers .clk ofs v1 then t.deny .clk 1 ofs side else t)
      else if sel ≠ t.get (F.CLK_ISL_SEL i) ∧ (t.sourceError i sel).isNone ∧ !ledgerGrants t (t.requestSource i sel) then
        t.ledgerRefuse .clk ofs side
      else
        let u := if asked then t.writeIsland side i sel else t
        u.writeFields .clk ofs side (v1 - bitsOf v1 0 3 + u.get (F.CLK_ISL_SEL i))
  else if 0x20 ≤ ofs ∧ ofs < 0x2C then (s.plainWrite .clk ofs side v).monitorGate ((ofs - 0x20) / 4)
  else s.plainWrite .clk ofs side v

/-- HARV (R364, R367, R380): charging follows the settings. -/
def State.writeHarv (s : State) (side : Side) (ofs v : Nat) : State :=
  match ofs with
  | 0x10 => s.byOwner .harv ofs side fun t => (t.writeFields .harv ofs side v).updateCharge
  | 0x14 => s.byOwner .harv ofs side fun t =>
    let u := (t.writeFields .harv ofs side v).updateCharge
    if bitOf v 2 then u.clearLatch else u
  | _ => s.plainWrite .harv ofs side v

/-- The bits of the sources of MAN_CLASSj that are fixed or reserved: they read 0 (R532). -/
def classMask (j : Nat) : Nat :=
  (List.range 16).foldl (fun a i => if Src.isFixed (16 * j + i) || Src.reserved (16 * j + i) then a + 3 * 4 ^ i else a) 0

/-- A manifest's registers (R513, R518, R524, R532). -/
def State.writeMan (s : State) (m : Man) (side : Side) (ofs v : Nat) : State :=
  let b := m.block
  let w := ofs % 0x20 / 4
  if ofs = 0x10 then s.writeManCfg m side v
  else if ofs = 0x14 then
    s.byOwner b ofs side fun t =>
      if bitsOf v 4 28 = t.get (F.MAN_BASE_ADDR m.ix) ∨
          !ringInSram (bitsOf v 4 28 * 16) (t.get (F.MAN_CFG_SIZE m.ix)) then t
      else if t.on (F.MAN_CFG_EN m.ix) then t.deny b 3 ofs side
      else t.put (F.MAN_BASE_ADDR m.ix) (bitsOf v 4 28)
  else if ofs = 0x3C then s.manRaise m side v
  else if 0x100 ≤ ofs ∧ ofs < 0x118 then s.manOwner m side ofs fun t => t.writeMask m w v
  else if 0x120 ≤ ofs ∧ ofs < 0x138 then s.manOwner m side ofs fun t => t.writePend m w v
  else if 0x140 ≤ ofs ∧ ofs < 0x158 then
    s.alias_ m side ofs fun t => t.writeMask m w (t.get (F.MAN_MASK_MASK m.ix w) ||| v)
  else if 0x160 ≤ ofs ∧ ofs < 0x178 then
    s.alias_ m side ofs fun t => t.writeMask m w (without (t.get (F.MAN_MASK_MASK m.ix w)) v)
  else if 0x180 ≤ ofs ∧ ofs < 0x198 then
    s.alias_ m side ofs fun t => t.writePend m w (t.get (F.MAN_PEND_PEND m.ix w) ||| v)
  else if 0x1A0 ≤ ofs ∧ ofs < 0x1B8 then
    s.alias_ m side ofs fun t => t.writePend m w (without (t.get (F.MAN_PEND_PEND m.ix w)) v)
  else if 0x200 ≤ ofs ∧ ofs < 0x230 then s.plainWrite b ofs side (without v (classMask ((ofs - 0x200) / 4)))
  else s.plainWrite b ofs side v

/-- The pairs wired to a consumer, as bits of the producers (R528). -/
def wiredMask (c : Nat) : Nat := ofBits 64 fun p => (wired c).contains p

/-- EVR (R528, R533): SWTRIG from either side; only wired pairs hold an enable. -/
def State.writeEvr (s : State) (side : Side) (ofs v : Nat) : State :=
  if ofs = 0x10 then s.swTrig v
  else if 0x100 ≤ ofs ∧ ofs < 0x280 then
    let k := wiredMask ((ofs - 0x100) / 8)
    s.plainWrite .evr ofs side (v &&& (if ofs % 8 = 0 then k % 2 ^ 32 else k / 2 ^ 32))
  else s.plainWrite .evr ofs side v

/-- Whether the owner's buffer, address and masks are held (R492). -/
def State.logsHeld (s : State) : Bool :=
  s.on F.LOGS_STAT_QUEUED || (match s.logs.op with | some r => r.req.owners && !r.third | none => false)

/-- LOGS (R492, R493, R505): more than one command bit in a write is ignored, as a command beyond the one that is held. -/
def State.writeLogs (s : State) (side : Side) (ofs v : Nat) : State :=
  if ofs = 0x14 then
    s.byOwner .logs ofs side fun t =>
      match v % 8 with
      | 0 => t
      | 1 => t.logCommand side .prog
      | 2 => t.logCommand side .twinWr
      | 4 => t.logCommand side .twinRd
      | _ => (t.put F.LOGS_STAT_OVR 1).deny .logs 3 ofs side
  else if ofs = 0x1C then
    s.byOwner .logs ofs side fun t =>
      if bitsOf v 0 2 = t.get F.LOGS_PROT_BP then t else t.logRequest (.protect (bitsOf v 0 2) none)
  else if ofs = 0x18 then s.plainWrite .logs ofs side v
  else s.heldWrite .logs ofs side s.logsHeld v

/-- TIDE (R270 to R274, R278, R282, R296). -/
def State.writeTide (s : State) (side : Side) (ofs v : Nat) : State :=
  s.byOwner .tide ofs side fun t =>
    let plain := t.writeFields .tide ofs side v
    match ofs with
    | 0x20 =>
      let u := (plain.put F.TIDE_CFG_SCALE (t.get F.TIDE_CFG_SCALE)).put F.TIDE_CFG_SRC (t.get F.TIDE_CFG_SRC)
      let u1 := if bitsOf v 0 3 ≤ 5 then u.changeScale (bitsOf v 0 3) else u
      if bitsOf v 4 2 = t.get F.TIDE_CFG_SRC then u1 else u1.chooseSource (bitsOf v 4 2)
    | 0x3C =>
      let n := signed 8 (bitsOf v 0 8)
      if -64 ≤ n ∧ n ≤ 64 then t.setLeap n false else t
    | 0x54 => if bitOf v 0 && t.expert .tide then t.softStep else plain
    | 0x70 =>
      let on := plain.on F.TIDE_TTCFG_EN
      match t.tt.open_ with
      | some e => if !on || plain.on F.TIDE_TTCFG_PORT != t.on F.TIDE_TTCFG_PORT then plain.ttReject 8 e.n else plain
      | none => plain
    | _ => plain

/-- TP (R289, R293, R297): staged settings, EN under the ledger, APPLY. -/
def State.writeTp (s : State) (side : Side) (ofs v : Nat) : State :=
  s.byOwner .tp ofs side fun t =>
    let plain := t.writeFields .tp ofs side v
    if ofs = 0x10 then
      let u := plain.flag F.TP_CTRL_EN (t.on F.TP_CTRL_EN)
      let u1 := if bitOf v 0 == t.on F.TP_CTRL_EN then u else u.enablePulse (bitOf v 0)
      t.underLedger .tp ofs side (if bitOf v 1 then u1.releasePulse else u1)
    else plain

/-- RTC (R305 to R317, R323): nothing lands while the interface is locked; the staging registers are held while a set is
pending (R306). -/
def State.writeRtc (s : State) (side : Side) (ofs v : Nat) : State :=
  if s.on F.RTC_STAT_LOCKED then s
  else if 0x20 ≤ ofs ∧ ofs < 0x30 then s.heldWrite .rtc ofs side s.rtc.setPend v
  else
    s.byOwner .rtc ofs side fun t =>
      match ofs with
      | 0x30 =>
        let t1 := if bitOf v 2 then t.cancelSet else t
        let t2 := if bitOf v 1 then t1.setAtSecond else t1
        if bitOf v 0 then t2.applySet else t2
      | 0x38 =>
        if bitOf v 16 && t.rtcBusy then t.deny .rtc 3 ofs side
        else
          let u := t.writeFields .rtc ofs side v
          if bitOf v 16 then u.startShift (u.getS F.RTC_SHIFT_COUNT) else u
      | 0x3C =>
        if bitOf v 0 && !t.on F.RTC_STAT_TSET then t.deny .rtc 3 ofs side
        else
          let u := t.writeFields .rtc ofs side (without v 1)
          if bitOf v 0 then u.put F.RTC_STAT_OSF 0 else u
      | _ => t.writeFields .rtc ofs side v

/-- A UART (R566, R567). -/
def State.writeUart (s : State) (u : Nat) (side : Side) (ofs v : Nat) : State :=
  match ofs with
  | 0x10 | 0x14 | 0x20 => s.uartConfig side u ofs v
  | 0x18 => s.uartWrite side u v
  | _ => s.plainWrite (uartBlock u) ofs side v

/-- The I²C target (R572). -/
def State.writeI2ct (s : State) (side : Side) (ofs v : Nat) : State :=
  if ofs = 0x18 then s.i2cWrite side v else s.plainWrite .i2ct ofs side v

/-- An SPI port (R574): of one write, COUNT lands before START, and START before ABORT. -/
def State.writeSpi (s : State) (k : Nat) (side : Side) (ofs v : Nat) : State :=
  let b := spiBlock k
  match ofs with
  | 0x14 => s.byOwner b ofs side fun t =>
    let t1 := t.writeFields b ofs side v
    let t2 := if bitOf v 16 then t1.spiStart k else t1
    if bitOf v 17 then t2.spiAbort k else t2
  | 0x18 => s.spiWrite side k v
  | _ => s.plainWrite b ofs side v

/-- LGTn_CMD (R547 to R553): CLRSHIFT and SETPC are refused while the engine runs or waits. -/
def State.writeLgtCmd (s : State) (n : Nat) (side : Side) (v : Nat) : State :=
  let ofs := lgtCmdOfs n
  s.byOwner .lgt ofs side fun t =>
    let e := t.expert .lgt
    if e && (bitOf v 2 || bitOf v 4) && t.lgtRuns n then t.deny .lgt 3 ofs side
    else if bitOf v 0 && t.lgtRefuses n then t.ledgerRefuse .lgt ofs side
    else
      let t1 := t.writeFields .lgt ofs side v
      let t2 := if bitOf v 1 then t1.lgtStop n else t1
      let t3 := if bitOf v 3 then t2.lgtFifos n [] [] else t2
      let t4 := if e && bitOf v 2 then t3.lgtClear n else t3
      let t5 := if e && bitOf v 4 then t4.put (F.LGT_STAT_PC n) (bitsOf v 8 5) else t4
      if bitOf v 0 then t5.lgtRun n side else t5

/-- The lighters (R538, R545, R548, R554): either side pushes a word into a TX FIFO. -/
def State.writeLgt (s : State) (side : Side) (ofs v : Nat) : State :=
  let n := lgtOf ofs
  if 0x800 ≤ ofs then s.lgtConfig side ofs v
  else if 0x100 ≤ ofs ∧ ofs < 0x300 then
    match ofs % 0x40 with
    | 0x00 | 0x04 | 0x2C => s.lgtConfig side ofs v
    | 0x08 => s.byOwner .lgt ofs side fun t => t.lgtSetDiv n v
    | 0x0C => s.writeLgtCmd n side v
    | 0x18 => s.lgtPush n v
    | _ => s.plainWrite .lgt ofs side v
  else s.plainWrite .lgt ofs side v

/-- The ADC (R577 to R591): of one CTRL write, FLUSH comes first and STOP last. -/
def State.writeAdc (s : State) (side : Side) (ofs v : Nat) : State :=
  match ofs with
  | 0x10 => s.adcCfgWrite side v
  | 0x14 => s.byOwner .adc ofs side fun t =>
    if bitOf v 0 && t.on F.ADC_STAT_BUSY then t.deny .adc 3 ofs side
    else
      let t1 := if bitOf v 2 then t.adcFlush else t
      let t2 := if bitOf v 0 then t1.adcStart else t1
      if bitOf v 1 && t2.on F.ADC_STAT_BUSY then t2.withAdc fun a => { a with stop := true } else t2
  | 0x1C => s.adcRefWrite side v
  | 0x34 => s.adcCorrWrite side v
  | _ => s.plainWrite .adc ofs side v

/-- The touch controller (R593 to R605). -/
def State.writeTouch (s : State) (side : Side) (ofs v : Nat) : State :=
  match ofs with
  | 0x10 => s.touchCfgWrite side v
  | 0x14 => s.byOwner .touch ofs side fun t =>
    if bitOf v 0 && (t.on F.TOUCH_STAT_BUSY || t.on F.TOUCH_STAT_TESTING) then t.deny .touch 3 ofs side
    else
      let t1 := if bitOf v 0 then t.touchStart else t
      let t2 := if bitOf v 1 then t1.touchTest none else t1
      let t3 := if bitOf v 2 then t2.touchRebase else t2
      if bitOf v 3 then t3.touchSaveRef else t3
  | 0x1C => s.byOwner .touch ofs side fun t => (t.writeFields .touch ofs side v).deriveTouch
  | _ =>
    if 0x80 ≤ ofs ∧ ofs < 0x100 then s.touchElecWrite side ofs v else s.plainWrite .touch ofs side v

/-- Whether a ring of `2^size` records of 256 bytes at a base lies in main SRAM (R622). -/
def signRingOk (base size : Nat) : Bool := 0x20000000 ≤ base && base + 256 * 2 ^ size ≤ 0x20180000

/-- CRYPTO (R622): either side writes SFCFG, SFBASE and SFTAIL, but for AUTO and KEEP, which are CONSOLE's. -/
def State.writeCrypto (s : State) (side : Side) (ofs v : Nat) : State :=
  match ofs with
  | 0x10 =>
    let own := s.get F.CRYPTO_SFCFG_AUTO + 4 * s.get F.CRYPTO_SFCFG_KEEP
    let mine := side = .console
    let size := if 2 ≤ bitsOf v 4 4 ∧ bitsOf v 4 4 ≤ 8 then bitsOf v 4 4 else s.get F.CRYPTO_SFCFG_SIZE
    let div := if bitsOf v 8 8 = 0 then s.get F.CRYPTO_SFCFG_DIV else bitsOf v 8 8
    let t := s.puts [(F.CRYPTO_SFCFG_EN, bitsOf v 1 1), (F.CRYPTO_SFCFG_SIZE, size), (F.CRYPTO_SFCFG_DIV, div)]
    if mine then
      let t1 := (t.put F.CRYPTO_SFCFG_AUTO (bitsOf v 0 1)).deriveKeep
      if t.expert .crypto then t1.put F.CRYPTO_SFCFG_KEEP (bitsOf v 2 1)
      else t1.refuseExpert .crypto ofs side (bitsOf v 2 1 != s.get F.CRYPTO_SFCFG_KEEP)
    else if v &&& 5 = own then t
    else t.deny .crypto 0 ofs side
  | 0x14 => if signRingOk (bitsOf v 8 24 * 256) (s.get F.CRYPTO_SFCFG_SIZE) then s.put F.CRYPTO_SFBASE_ADDR (bitsOf v 8 24) else s
  | 0x1C => if bitsOf v 0 8 < 2 ^ s.get F.CRYPTO_SFCFG_SIZE then s.put F.CRYPTO_SFTAIL_IDX (bitsOf v 0 8) else s
  | _ => s.plainWrite .crypto ofs side v

/-- The function a pin takes (R641 to R644): 1 only where the pin has one, 4 only on the analogue pins, and none while the
proximity front end holds PC12 to PC15. -/
def State.funcOk (s : State) (p f : Nat) : Bool :=
  (f == 0 || f == 2 || f == 3 || (f == 1 && altPins.contains p) || (f == 4 && decide (p < 16))) && !(decide (44 ≤ p) && s.proxRuns)

/-- GPIO (R644, R646). -/
def State.writeGpio (s : State) (side : Side) (ofs v : Nat) : State :=
  match ofs with
  | 0x28 => s.outAlias side false true v
  | 0x2C => s.outAlias side true true v
  | 0x30 => s.outAlias side false false v
  | 0x34 => s.outAlias side true false v
  | _ =>
    if 0x100 ≤ ofs ∧ ofs < 0x1C0 then
      let p := (ofs - 0x100) / 4
      s.plainWrite .gpio ofs side (if s.funcOk p (v % 8) then v else v - v % 8 + s.get (F.GPIO_PIN_FUNC p))
    else s.plainWrite .gpio ofs side v

/-- A channel starts its block (R575). -/
def State.startDma (s : State) (k : Nat) : State :=
  (s.setDma k ⟨s.get (F.DMA_SRC_ADDR k), s.get (F.DMA_DST_ADDR k), s.get (F.DMA_CNT_CNT k), 0, false⟩).puts
    [(F.DMA_CFG_EN k, 1), (F.DMA_STAT_LEFT k, s.get (F.DMA_CNT_CNT k))]

/-- DMA (R576): SRC, DST, CNT and the settings are held while the channel runs. Clearing EN stops it (DEDUCED). -/
def State.writeDma (s : State) (side : Side) (ofs v : Nat) : State :=
  let k := (ofs - 0x100) / 0x20
  if ofs < 0x100 ∨ 0x200 ≤ ofs then s.plainWrite .dma ofs side v
  else
    s.byOwner .dma ofs side fun t =>
      let en := t.on (F.DMA_CFG_EN k)
      match ofs % 0x20 with
      | 0x00 | 0x04 | 0x08 => if en then t.deny .dma 3 ofs side else t.writeFields .dma ofs side v
      | 0x0C =>
        if en then
          let t1 := if bitsOf v 0 9 = bitsOf (t.storedWord .dma ofs) 0 9 then t else t.deny .dma 3 ofs side
          if bitOf v 9 || bitOf v 10 then t1 else t1.put (F.DMA_CFG_EN k) 0
        else
          let t1 := (t.writeFields .dma ofs side v).put (F.DMA_CFG_EN k) 0
          if bitOf v 9 || bitOf v 10 then t1.startDma k else t1
      | _ => t.writeFields .dma ofs side v

/-- GNSS (R94, R116, R217): the mode is requested under the ledger; what firmware derives follows the burst settings; RATE takes
effect at the receiver's quiet point. -/
def State.writeGnss (s : State) (side : Side) (ofs v : Nat) : State :=
  match ofs with
  | 0x10 => s.byOwner .gnss ofs side fun t => if v % 8 = t.get F.GNSS_MODE_MODE ∧ !t.on F.GNSS_MODE_MODE_PEND then t
    else t.writeMode side (v % 8)
  | 0x14 => s.byOwner .gnss ofs side fun t => (t.writeFields .gnss ofs side v).deriveMode.planNext
  | 0x50 => s.byOwner .gnss ofs side fun t =>
    let u := t.writeFields .gnss ofs side v
    if u.receiverQuiet then u.applyRate else u
  | _ => s.plainWrite .gnss ofs side v

/-- Whether a notch is the owner's: its FIX, as the last write left it (R255). -/
def State.notchFixed (s : State) (b k : Nat) : Bool :=
  match s.gnss.notches.find? fun n => n.1 == b && n.2.1 == k with
  | some (_, _, _, _, fix) => fix
  | none => s.on (F.FRONT_NOTCH_FIX b k)

/-- A notch write (R253, R255, R264): it waits for the spectrum boundary. With AUTO, adaptation owns a notch that is not
FIXED. -/
def State.writeNotch (s : State) (side : Side) (ofs v : Nat) : State :=
  let b := (ofs - 0x20) / 0x20
  let k := ofs % 0x20 / 4 - 4
  s.byOwner .front ofs side fun t =>
    if t.on (F.FRONT_NCFG_AUTO b) && !bitOf v 26 && !t.notchFixed b k then t.deny .front 3 ofs side
    else if !t.expert .front then (if t.expertDiffers .front ofs v then t.deny .front 1 ofs side else t)
    else
      let c := signed 16 (bitsOf v 0 16)
      let top := if b = 0 then 24552 else 16368
      let c' := if c.natAbs ≤ top then c else t.getS (F.FRONT_NOTCH_CENTRE b k)
      let w := bitsOf v 16 8
      let w' := if 2 ≤ w ∧ w ≤ 200 then w else t.get (F.FRONT_NOTCH_WIDTH b k)
      t.withGnss fun g =>
        { g with notches := (g.notches.filter fun n => !(n.1 == b && n.2.1 == k)) ++ [(b, k, c', w', bitOf v 26)] }

/-- FRONT (R88, R97, R264): turning the bias on clears a short that was seen; clearing AUTO returns notches that are not FIXED
to OFF. -/
def State.writeFront (s : State) (side : Side) (ofs v : Nat) : State :=
  if ofs = 0x10 then
    s.byOwner .front ofs side fun t =>
      let u := (t.writeFields .front ofs side v).frontHeritage
      if bitOf v 2 then u.put F.FRONT_CFG_BIAS_SHORT 0 else u
  else if 0x20 ≤ ofs ∧ ofs < 0x60 then
    let b := (ofs - 0x20) / 0x20
    if 0x10 ≤ ofs % 0x20 then s.writeNotch side ofs v
    else if ofs % 0x20 = 0x0C then
      s.byOwner .front ofs side fun t =>
        let u := t.writeFields .front ofs side v
        if bitOf v 0 then u
        else (List.range 4).foldl
          (fun x k => if x.get (F.FRONT_NOTCH_STATE b k) = 3 then x else x.put (F.FRONT_NOTCH_STATE b k) 0) u
    else s.plainWrite .front ofs side v
  else s.plainWrite .front ofs side v

/-- PLAN (R104, R109, R110): an entry or a satellite written in EXPERT is bound as it says; a change of SYS_EN or ELEV calls
for a replan. -/
def State.writePlan (s : State) (side : Side) (ofs v : Nat) : State :=
  s.byOwner .plan ofs side fun t =>
    let u := t.writeFields .plan ofs side v
    let i := (ofs - 0x100) / 0x10
    if 0x100 ≤ ofs ∧ ofs < 0x900 ∧ t.expert .plan then
      if ofs % 0x10 = 0 then u.setSlot i
      else
        let j := ofs % 0x10 / 4 - 1
        t.setEntry i j (u.get (F.PLAN_SLOT_A_SIG i j)) (u.get (F.PLAN_SLOT_A_BERTH i j))
    else if ofs = 0x10 ∧ u.storedWord .plan 0x10 ≠ t.storedWord .plan 0x10 then u.callReplan
    else u

/-- LOOKOUT (R145, R147, R150, R151): a lane that runs takes no field but its commands. -/
def State.writeLookout (s : State) (side : Side) (ofs v : Nat) : State :=
  let l := (ofs - 0x100) / 0x20
  if ofs = 0x20 then
    s.byOwner .lookout ofs side fun t =>
      if bitOf v 8 && t.snapBusy then t.deny .lookout 3 ofs side
      else
        let t1 := t.writeFields .lookout ofs side v
        let t2 := if bitOf v 11 then t1.put F.LOOKOUT_SNAP_VALID 0 else t1
        if bitOf v 8 then t2.startCapture else t2
  else if 0x100 ≤ ofs ∧ ofs < 0x300 then
    s.byOwner .lookout ofs side fun t =>
      if ofs % 0x20 = 0x10 then
        let old := t.storedWord .lookout ofs
        if t.laneRuns l then
          let t1 := if bitsOf v 2 11 = bitsOf old 2 11 && !bitOf v 0 then t else t.deny .lookout 3 ofs side
          if bitOf v 1 && t.expert .lookout then t1.leaveLane l 0 else t1
        else
          let t1 := t.writeFields .lookout ofs side v
          if !bitOf v 0 || !t.expert .lookout then t1 else t1.startLane l
      else if t.laneRuns l then t.deny .lookout 3 ofs side
      else t.writeFields .lookout ofs side v
  else s.plainWrite .lookout ofs side v

/-- BERTH_CFG (R157): the signal's fields change together, and writing the present values cancels a change that waits; EN
starts and stops the berth. -/
def State.writeBerthCfg (s : State) (n : Nat) (side : Side) (v : Nat) : State :=
  let sig := if bitsOf v 0 4 = 14 then s.get (F.BERTH_CFG_SIG n) else bitsOf v 0 4
  let new := (sig, bitsOf v 4 8, bitsOf v 12 4)
  let same := new = (s.get (F.BERTH_CFG_SIG n), s.get (F.BERTH_CFG_SVN n), s.get (F.BERTH_CFG_GLO_K n))
  let evs := ((s.refuseExpert (berthBlock n) 0x10 side (bitsOf v 19 1 != s.get (F.BERTH_CFG_DUMP_EV n))).put
    (F.BERTH_CFG_LOSS_EV n) (bitsOf v 20 1))
  let s1 := if s.expert (berthBlock n) then evs.put (F.BERTH_CFG_DUMP_EV n) (bitsOf v 19 1) else evs
  let s2 := if bitOf v 16 then s1 else s1.disableBerth n
  let s3 := if same then s2.modBerth n fun b => { b with next := none } else s2.setSignal n new.1 new.2.1 new.2.2
  if bitOf v 16 then s3.enableBerth n else s3

/-- A berth (R157, R165, R169 to R171): staged increments and loads; COH takes only multiples of the primary code period. -/
def State.writeBerth (s : State) (n : Nat) (side : Side) (ofs v : Nat) : State :=
  let b := berthBlock n
  s.byOwner b ofs side fun t =>
    match ofs with
    | 0x10 => t.writeBerthCfg n side v
    | 0x24 | 0x28 =>
      if t.expert b then t.stageInc n (ofs == 0x28) v
      else t.refuseExpert b ofs side (v != t.storedWord b ofs)
    | 0x2C =>
      if t.expert b then
        let t0 := t.writeClears b ofs v
        let t1 := if bitOf v 0 then t0.stageLoad n false else t0
        if bitOf v 1 then t1.stageLoad n true else t1
      else t.refuseExpert b ofs side (v &&& 0x1003 != 0)
    | 0x18 =>
      let u := t.writeFields b ofs side v
      if u.get (F.BERTH_INTEG_COH n) % Sig.period (u.get (F.BERTH_CFG_SIG n)) = 0 then u
      else u.put (F.BERTH_INTEG_COH n) (t.get (F.BERTH_INTEG_COH n))
    | _ => t.writeFields b ofs side v

/-- SILLAGE (R213). -/
def State.writeSillage (s : State) (side : Side) (ofs v : Nat) : State :=
  if ofs = 0x30 then s.byOwner .sillage ofs side fun t => (t.writeFields .sillage ofs side v).showPrediction
  else s.plainWrite .sillage ofs side v

/-- MEASQ and BITLOG (R247): the tails are either side's; a base keeps the whole ring in main SRAM. -/
def State.writeRing (s : State) (bitlog : Bool) (side : Side) (ofs v : Nat) : State :=
  let b := if bitlog then Block.bitlog else .measq
  match ofs with
  | 0x1C => s.writeTail bitlog (v % 4096)
  | 0x14 =>
    let size := s.get (if bitlog then F.BITLOG_CFG_SIZE else F.MEASQ_CFG_SIZE)
    s.byOwner b ofs side fun t =>
      if ringInSram (bitsOf v 4 28 * 16) size then t.writeFields b ofs side v else t
  | _ => s.plainWrite b ofs side v

/-- A write of a register of a block (R7, R8, R21, R30). -/
def State.regWrite (s : State) (m : Master) (b : Block) (ofs v lanes : Nat) : State :=
  let side := m.side
  if laneMiss b ofs lanes then (if b = .sysctl then s else s.byOwner b ofs side fun t => t)
  else if ofs = 4 then s.writeLevel side b (bitOf v 1)
  else
    match b with
    | .sysctl => s.writeSysctl m ofs v
    | .pwr => s.writePwr side ofs v
    | .clk => s.writeClk side ofs v lanes
    | .harv => s.writeHarv side ofs v
    | .manApp => s.writeMan .app side ofs v
    | .manSys => s.writeMan .sys side ofs v
    | .evr => s.writeEvr side ofs v
    | .logs => s.writeLogs side ofs v
    | .tide => s.writeTide side ofs v
    | .tp => s.writeTp side ofs v
    | .rtc => s.writeRtc side ofs v
    | .uart0 => s.writeUart 0 side ofs v
    | .uart1 => s.writeUart 1 side ofs v
    | .uart2 => s.writeUart 2 side ofs v
    | .i2ct => s.writeI2ct side ofs v
    | .spi0 => s.writeSpi 0 side ofs v
    | .spi1 => s.writeSpi 1 side ofs v
    | .lgt => s.writeLgt side ofs v
    | .adc => s.writeAdc side ofs v
    | .touch => s.writeTouch side ofs v
    | .crypto => s.writeCrypto side ofs v
    | .gpio => s.writeGpio side ofs v
    | .dma => s.writeDma side ofs v
    | .gnss => s.writeGnss side ofs v
    | .front => s.writeFront side ofs v
    | .plan => s.writePlan side ofs v
    | .lookout => s.writeLookout side ofs v
    | .berth n => s.writeBerth n side ofs v
    | .sillage => s.writeSillage side ofs v
    | .measq => s.writeRing false side ofs v
    | .bitlog => s.writeRing true side ofs v
    | .memctl | .life | .test => s.plainWrite b ofs side v

end Sys2Proof.Machine
end

