-- ==== Sys2Proof/Machine/Bus.lean ====
section
/-! DEFINITION. The bus: reads of registers with their side effects, the address map, and accesses by any master (R7, R13, R16,
R21, R42, R46, R52 to R54, R346, R458, R489, R670, R672). -/

namespace Sys2Proof.Machine

/-- The level word of a manifest (R532). -/
def State.manStat (s : State) (m : Man) : Nat :=
  let q := s.man m
  min 0x1FFF q.held.length + 0x10000 * q.reserve.length + 0x100000 * bit (s.mne m)

/-- The word of a register as it reads: what is stored, but for what is computed as it is read. -/
def State.shownWord (s : State) (b : Block) (ofs : Nat) : Nat :=
  let w := s.storedWord b ofs
  if ofs = 0 then w + Config.blockRev b.code % 256 * 0x10000
  -- SYSCTL has no owner or level to change, and its QUIET reads its reset value (DESIGN CHOICE).
  else if ofs = 4 then if b = .sysctl then w else w + 0x400 * bit (s.quiet b)
  else
    match b with
    | .sysctl => if ofs = 0x30 then s.ledgerSum % 65536 else if ofs = 0x34 then s.ledgerLimit else w
    | .pwr => if ofs = 0x30 then without w 12 + 4 * s.maxDepth else w
    | .manApp => if ofs = 0x30 then s.manStat .app else w
    | .manSys => if ofs = 0x30 then s.manStat .sys else w
    | .logs =>
      if ofs = 0x30 then s.journalSeq % 2 ^ 32
      else if ofs = 0x34 then s.wearWord
      else if ofs = 0x38 then Store.get (fun _ => 0) s.logs.counts (s.get F.LOGS_ADDR_PAGE) % 2 ^ 24
      else w
    | .tide => if ofs = 0x24 then (w &&& 0xFFFF000F) + 16 * bit s.scaleOk else w
    | .adc =>
      if ofs = 0x30 then Config.adcTcal % 2 ^ 14
      else if 0x80 ≤ ofs ∧ ofs < 0x90 then s.adcCoefWord ((ofs - 0x80) / 4)
      else w
    | .crypto =>
      if ofs = 0x24 then s.crypto.sseq % 2 ^ 32
      else if ofs = 0x28 then s.crypto.bootn % 2 ^ 32
      else if ofs = 0x30 then leNat (Identity.devid.take 4)
      else if ofs = 0x34 then leNat (Identity.devid.drop 4)
      else if ofs = 0x38 then (w &&& 0x1F) + min 0xFFFF s.crypto.tamper * 0x10000
      else if 0x40 ≤ ofs ∧ ofs < 0x7C then leNat ((Identity.publicKey.drop (ofs - 0x40)).take 4)
      else w
    | .gpio => if ofs = 0x20 then s.gpioIn false else if ofs = 0x24 then s.gpioIn true else w
    | .gnss =>
      if ofs = 0x18 then (w - w % 512) + s.tracked % 512
      else if ofs = 0x40 then without w (if s.mode = 6 then 9 else 8) + 8 * bit s.timeKnown
      else w
    | .plan => if ofs = 0x14 then s.planStat else w
    | _ => w

/-- A read from the owner's side, or of SYSCTL from either, clears the RC fields (R7, R21, R34); one of a UART's STAT ends the
run of losses that are reported once (R563). -/
def State.clearRead (s : State) (b : Block) (ofs : Nat) (side : Side) : State :=
  if b = .sysctl ∨ side = s.owner b then
    let t := (regFields b ofs).foldl (fun t f => if f.acc == .rc then t.put (f.at b ofs) 0 else t) s
    match b, ofs with
    | .uart0, 0x1C => t.modUart 0 fun p => { p with lossSeen := false }
    | .uart1, 0x1C => t.modUart 1 fun p => { p with lossSeen := false }
    | .uart2, 0x1C => t.modUart 2 fun p => { p with lossSeen := false }
    | _, _ => t
  else s

/-- The registers whose read does more than return them: captures, pops and reports. -/
def State.readAction (s : State) (side : Side) (b : Block) (ofs : Nat) : Option State :=
  match b with
  | .manApp => if ofs = 0x20 then some (s.popRead .app side) else none
  | .manSys => if ofs = 0x20 then some (s.popRead .sys side) else none
  | .evr => if 0xE0 ≤ ofs ∧ ofs < 0x100 ∧ ofs % 8 = 4 then some (s.capRead ((ofs - 0xE0) / 8)) else none
  | .tide => if ofs = 0x10 then some s.captureNow else none
  | .rtc =>
    if ofs = 0x10 then some (s.captureRtc side)
    else if 0x14 ≤ ofs ∧ ofs < 0x20 then
      let r := s.rtcWord side ((ofs - 0x10) / 4)
      some { r.2 with busData := BitVec.ofNat 32 r.1 }
    else none
  | .uart0 =>
    if ofs = 0x18 then some (s.uartRead side 0) else if ofs = 0x30 ∨ ofs = 0x38 then some (s.stampRead 0 (ofs == 0x38)) else none
  | .uart1 =>
    if ofs = 0x18 then some (s.uartRead side 1) else if ofs = 0x30 ∨ ofs = 0x38 then some (s.stampRead 1 (ofs == 0x38)) else none
  | .uart2 =>
    if ofs = 0x18 then some (s.uartRead side 2) else if ofs = 0x30 ∨ ofs = 0x38 then some (s.stampRead 2 (ofs == 0x38)) else none
  | .i2ct => if ofs = 0x18 then some (s.i2cRead side) else none
  | .spi0 => if ofs = 0x18 then some (s.spiRead side 0) else none
  | .spi1 => if ofs = 0x18 then some (s.spiRead side 1) else none
  | .lgt => if 0x100 ≤ ofs ∧ ofs < 0x300 ∧ ofs % 0x40 = 0x1C then some (s.lgtPop (lgtOf ofs)) else none
  | .adc => if ofs = 0x20 then some (s.adcPop side) else none
  | .lookout => if 0x100 ≤ ofs ∧ ofs < 0x300 ∧ ofs % 0x20 = 8 then some (s.readLaneCode side ((ofs - 0x100) / 0x20)) else none
  | .berth n => if ofs = 0x4C then some (s.captureDump n) else none
  | .measq => if ofs = 0x40 then some s.captureFix else none
  | _ => none

/-- A read of a register of a block: its word is shown in `busData`. -/
def State.regRead (s : State) (m : Master) (b : Block) (ofs : Nat) : State :=
  match s.readAction m.side b ofs with
  | some t => t
  | none =>
    let t := s.freshen b
    { t.clearRead b ofs m.side with busData := BitVec.ofNat 32 (t.shownWord b ofs) }

/-- What an access returned: the state, the bytes read, whether it ended with a bus error, and whether the data is
uncorrectable. -/
structure Access where
  st : State
  bytes : List Byte
  err : Bool
  ue : Bool
  deriving DecidableEq, Repr

/-- An access that ends with a bus error (R13). -/
def State.badAccess (s : State) (m : Master) (a n : Nat) (write : Bool) : Access :=
  ⟨s.busError a m.code write, List.replicate n 0, true, false⟩

/-- An access that is refused without a bus error (R16, R458, R489): a read returns zeros, and a write is discarded. -/
def State.isolated (s : State) (m : Master) (a n : Nat) (write : Bool) : Access :=
  ⟨s.busError a m.code write, List.replicate n 0, false, false⟩

/-- The memories of R42 that any master reaches by their addresses, and the secure bank. -/
def memoryAt (a : Nat) : Bool :=
  (a < 0x10000) || (0x08000000 ≤ a && a < 0x08400000) || (0x10000000 ≤ a && a < 0x10010000) ||
    (0x20000000 ≤ a && a < 0x20180000) || (0x28000000 ≤ a && a < 0x28004000) || (0x29000000 ≤ a && a < 0x29008000) ||
    (0x30000000 ≤ a && a < 0x30080000) || (0x60000000 ≤ a && a < 0x60020000)

/-- Where the bytes of a bus address lie: the active slot is read at the start of the code store (R409). -/
def State.placeOfAddr (s : State) (a : Nat) : Nat :=
  if 0x08000000 ≤ a ∧ a < 0x08400000 ∧ s.on F.LIFE_SLOT_ACTIVE then a ^^^ 0x200000 else a

/-- The master is the application core itself, which alone the inner quay mailbox answers (R672). -/
def Master.appCore : Master → Bool
  | .appFetch | .appData => true
  | _ => false

/-- A read of the inner quay mailbox (R52, R670): its control words, the line and the ring. -/
def State.quayByte (s : State) (a : Nat) : Byte :=
  let ofs := a - 0x70000000
  if ofs < 0x10 then
    let w :=
      if ofs < 4 then s.get F.QUAY_GO + 0x100 * bit (s.on F.QUAY_GO || (s.executing ++ s.console.waiting.map (·.1)).contains .quay) +
        0x200 * s.get F.QUAY_OVERRUN
      else if ofs < 8 then s.get F.QUAY_LEN
      else if ofs < 12 then s.get F.QUAY_RHEAD
      else s.get F.QUAY_RTAIL
    BitVec.ofNat 8 (w / 256 ^ (ofs % 4))
  else if (0x100 ≤ ofs ∧ ofs < 0x1A0) ∨ 0x200 ≤ ofs then s.byte a
  else 0

/-- A write to the inner quay mailbox within one word (R52 to R54): LINE and LEN are held while GO reads 1. -/
def State.quayWrite (s : State) (a : Nat) (l : List Byte) : State :=
  let ofs := a - 0x70000000
  let lanes := (2 ^ l.length - 1) * 2 ^ (ofs % 4)
  let v := leNat l * 256 ^ (ofs % 4)
  if ofs / 4 = 0 then
    let s1 := if bitOf v 9 then s.put F.QUAY_OVERRUN 0 else s
    let s2 := if bitOf v 0 then s1.put F.QUAY_GO 1 else s1
    if bitOf v 1 then s2.ctrlC .quay else s2
  else if ofs / 4 = 1 then if s.on F.QUAY_GO then s else s.put F.QUAY_LEN (mergeLanes (s.get F.QUAY_LEN) v lanes % 256)
  else if ofs / 4 = 3 then
    let n := mergeLanes (s.get F.QUAY_RTAIL) v lanes % 4096
    if n < 3584 then s.put F.QUAY_RTAIL n else s
  else if 0x100 ≤ ofs ∧ ofs < 0x1A0 ∧ !s.on F.QUAY_GO then s.setBytes a l
  else s

/-- The access to memory once its domain is powered (R13, R346). -/
def State.inMemory (s : State) (m : Master) (a n : Nat) (write : Bool) (act : State → Access) : Access :=
  match memDomain a with
  | none => act s
  | some d => if s.powered d then act s else if s.expert .pwr then s.badAccess m a n write else act (s.domainOn d)

/-- A read of up to 4 aligned bytes, or of an aligned block of 16, by a master. -/
def State.busRead (s : State) (m : Master) (a n : Nat) : Access :=
  if 0x70000000 ≤ a ∧ a < 0x70001000 then
    if m.appCore then ⟨s, (List.range n).map fun i => s.quayByte (a + i), false, false⟩ else s.badAccess m a n false
  else
    match blockAt a with
    | some (b, ofs) =>
      -- A block of 16 bytes is read as four words (DESIGN CHOICE).
      (List.range ((n + 3) / 4)).foldl
        (fun acc i =>
          let o := ofs / 4 * 4 + 4 * i
          let dead := acc.st.expert .pwr && (match blockDomain b with | some d => !acc.st.powered d | none => false)
          let t := acc.st.access b o m.code false fun u => u.regRead m b o
          ⟨t, acc.bytes ++ ((leBytes 4 t.busData.toNat).drop (if n < 4 then ofs % 4 else 0)).take (min n 4), acc.err || dead, acc.ue⟩)
        ⟨s, [], false, false⟩
    | none =>
      if !memoryAt a then s.badAccess m a n false
      else if 0x29000000 ≤ a ∧ a < 0x29008000 ∧ m ≠ .sys then s.isolated m a n false
      else s.inMemory m a n false fun t =>
        let r := t.readMem (t.placeOfAddr a) n m.code
        ⟨r.1, r.2.1, false, r.2.2⟩

/-- A write of up to 4 aligned bytes, or of an aligned block of 16, by a master. -/
def State.busWrite (s : State) (m : Master) (a : Nat) (l : List Byte) : Access :=
  let n := l.length
  if 0x70000000 ≤ a ∧ a < 0x70001000 then
    if m.appCore then ⟨s.quayWrite a l, [], false, false⟩ else s.badAccess m a n true
  else
    match blockAt a with
    | some (b, ofs) =>
      (List.range ((n + 3) / 4)).foldl
        (fun acc i =>
          let o := ofs / 4 * 4 + 4 * i
          let lo := if n < 4 then ofs % 4 else 0
          let v := leNat ((l.drop (4 * i)).take 4) * 256 ^ lo
          let lanes := (2 ^ min n 4 - 1) * 2 ^ lo
          let dead := acc.st.expert .pwr && (match blockDomain b with | some d => !acc.st.powered d | none => false)
          let act := fun (u : State) =>
            let w := u.freshen b
            w.regWrite m b o (w.laneWord b o v lanes) lanes
          ⟨acc.st.access b o m.code true act, [], acc.err || dead, false⟩)
        ⟨s, [], false, false⟩
    | none =>
      if !memoryAt a then s.badAccess m a n true
      else if (0x29000000 ≤ a ∧ a < 0x29008000 ∧ m ≠ .sys) ∨ (0x08000000 ≤ a ∧ a < 0x08400000) ∨ 0x60000000 ≤ a then
        s.isolated m a n true
      else s.inMemory m a n true fun t => ⟨t.writeMem a l m.code, [], false, false⟩

/-- The bytes of a word in the addressed lanes, from the lowest lane on, with the offset of that lane. Lanes that are not
adjacent are no access of R670: the lanes from the lowest to the highest act. -/
def laneSpan (lanes : Nat) : Nat × Nat :=
  let l := (List.range 4).filter (bitOf lanes)
  (l.headD 0, l.getLast?.getD 0 + 1 - l.headD 0)

/-- REGISTER_WRITE (R8, R21, R22, R27, R37, R670, R671): a write by a master to an address, of the byte lanes it addresses. -/
def execRegisterWrite (m : Master) (addr : Word) (lanes : BitVec 4) (value : Word) (s : State) :
    Host.Outcome State Fault Refusal :=
  .next <|
    let p := laneSpan lanes.toNat
    let a := addr.toNat / 4 * 4
    if lanes = 0 then s
    else (s.busWrite m (a + p.1) (((leBytes 4 value.toNat).drop p.1).take p.2)).st

/-- READ_CLEAR (R7, R21, R670): a read by a master of the word at an address, shown in `busData`. -/
def execReadClear (m : Master) (addr : Word) (s : State) : Host.Outcome State Fault Refusal :=
  .next <|
    let r := s.busRead m (addr.toNat / 4 * 4) 4
    { r.st with busData := BitVec.ofNat 32 (leNat r.bytes) }

end Sys2Proof.Machine
end

