-- ==== Sys2Proof/Machine/Words.lean ====
section
/-! DEFINITION. What every instruction word of a core shares (R426 to R449): positions and results in flight, reading and writing
registers, the start and the end of a word, paired words, delay slots, and taking an exception or an interrupt. -/

namespace Sys2Proof.Machine

/-- The reset value of a special register (R445). -/
def specialReset (r : Nat) : Word := if r = 5 then 0x08000000 else 0

/-- What a special register holds of a written value (R445): the read-only and the reserved ones keep theirs. -/
def specialKeeps (r : Nat) (old v : Word) : Word :=
  match r with
  | 0 => v &&& 7
  | 1 | 2 | 9 | 10 => v
  | 5 => v &&& 0xFFFFFF00
  | _ => old

/-- A special register as it is stored. -/
def Core.special (k : Core) (r : Nat) : Word := Store.get specialReset k.s r

/-- A special register replaced by the hardware. -/
def Core.putSpecial (k : Core) (r : Nat) (v : Word) : Core := { k with s := Store.set specialReset k.s r v }

/-- A general register (R426): g0 reads as 0. -/
def Core.gen (k : Core) (r : Nat) : Word := if r = 0 then 0 else Store.get (fun _ => 0) k.g r

/-- A general register replaced: writes to g0 are discarded. -/
def Core.putGen (k : Core) (r : Nat) (v : Word) : Core := if r = 0 then k else { k with g := Store.set (fun _ => 0) k.g r v }

/-- A result in flight takes its destination. -/
def Core.commit (k : Core) (e : InFlight) : Core :=
  if e.dest < 32 then k.putGen e.dest e.value
  else k.putSpecial (e.dest - 32) (specialKeeps (e.dest - 32) (k.special (e.dest - 32)) e.value)

/-- The results whose window has passed take their destinations (R440). -/
def Core.settle (k : Core) : Core :=
  (k.flight.filter (·.left == 0)).foldl Core.commit { k with flight := k.flight.filter (·.left != 0) }

/-- Every result in flight completes (R449, R451, R452). -/
def Core.complete (k : Core) : Core := k.flight.foldl Core.commit { k with flight := [] }

/-- The position after a word: each window is one word shorter. -/
def Core.advance (k : Core) : Core := { k with flight := k.flight.map fun e => { e with left := e.left - 1 } }

/-- Cycles pass: one, and what a word stalls, which is free (R444). -/
def Core.cycles (k : Core) (n : Nat) : Core := { k with cycle := k.cycle + 1 + Config.stall n }

/-- Go on at an address, past any delay slot. -/
def Core.at (k : Core) (pc : Word) : Core := { k with pc := pc, delay := none, pair := none }

/-- The address of the word that follows: a delay slot is followed by the target (R439). -/
def Core.follow (k : Core) : Word := k.delay.getD (k.pc + 4)

/-- The end of a word. -/
def State.endWord (s : State) (c : CoreId) : State :=
  let k := s.core c
  (s.setCore c (((k.advance).cycles s.free).at k.follow)).spend

/-- The end of a word that transfers control to `target` once its delay slot is over (R438, R439). -/
def State.endTransfer (s : State) (c : CoreId) (target : Word) : State :=
  let k := s.core c
  (s.setCore c { ((k.advance).cycles s.free).at (k.pc + 4) with delay := some target }).spend

/-- Entry (R448, R449): in-flight results complete; ESTAT takes STATUS; EPC and CAUSE are written, and EADDR where the entry has
one; IE clears, and NMIACT or EXACT is set as the cause requires; the core goes on at the vector. -/
def State.enter (s : State) (c : CoreId) (cause : Nat) (epc : Word) (eaddr : Option Word) : State :=
  let k := (s.core c).complete
  let old := k.special 0
  let new := (old &&& 0xFFFFFFFE) ||| (if cause = 0 then 0 else if cause = 1 then 2 else 4)
  let k1 := (((k.putSpecial 2 old).putSpecial 1 epc).putSpecial 3 (BitVec.ofNat 32 cause)).putSpecial 0 new
  let k2 := match eaddr with | some a => k1.putSpecial 4 a | none => k1
  let k3 := ((k2.cycles s.free).at (k.special 5 + BitVec.ofNat 32 (0x20 * cause)))
  (s.setCore c { k3 with doze := false, nmi := k3.nmi && cause != 1 }).spend

/-- The faulting word of an exception has no effect (R448): of a paired word whose slot A has run, the registers return. -/
def State.fault (s : State) (c : CoreId) (cause : Nat) (eaddr : Option Word) : State :=
  let k := s.core c
  let k1 := match k.pair with | some p => { k with g := p.1, flight := p.2 } | none => k
  (s.setCore c k1).enter c cause k.pc eaddr

/-- An illegal word (R428): exception 2. -/
def State.illegal (s : State) (c : CoreId) : State := s.fault c 2 none

/-- A misaligned access or target (R427, R438): exception 3, with the address in EADDR. -/
def State.misaligned (s : State) (c : CoreId) (a : Word) : State := s.fault c 3 (some a)

/-- Whether a core runs: powered, not held in reset, and the device awake. -/
def State.coreRuns (s : State) (c : CoreId) : Bool :=
  s.power.depth == 0 && match c with | .app => !s.power.appHeld && s.powered 0 | .sys => s.powered 1

/-- The manifest of a core (R447). -/
def CoreId.man : CoreId → Man
  | .app => .app
  | .sys => .sys

/-- A word begins: one left unfinished by a lone slot A ends first, a core in Doze goes on only if MNE or NMI has ended its WAIT
(R452), results whose window has passed take their destinations, and a word that does not lie at a multiple of 4 is misaligned
(R427). -/
def State.word (s : State) (c : CoreId) (body : State → State) : State :=
  if !s.coreRuns c then s
  else
    let s1 := if (s.core c).pair.isSome then s.endWord c else s
    let k := s1.core c
    if k.doze && !k.nmi && !s1.mne c.man then s1
    else
      let t := s1.setCore c { k.settle with doze := false }
      if k.pc.toNat % 4 ≠ 0 then t.misaligned c k.pc else body t

/-- A slot of a paired word (R434, R435): slot A opens the word, and both read what stood before it. -/
def State.slot (s : State) (c : CoreId) (sl : Slot) (body : State → State) : State :=
  match sl with
  | .a => s.word c fun t => body (t.setCore c { t.core c with pair := some ((t.core c).g, (t.core c).flight) })
  | .b =>
    if s.coreRuns c && (s.core c).pair.isSome then body s
    else s.word c fun t => body (t.setCore c { t.core c with pair := some ((t.core c).g, (t.core c).flight) })

/-- The end of a slot: slot B ends the word. -/
def State.endSlot (s : State) (c : CoreId) : Slot → State
  | .a => { s with free := s.free + 4 }
  | .b => ({ s with free := s.free + 4 } : State).endWord c

/-- The results in flight as a word began. -/
def Core.window (k : Core) : List InFlight := match k.pair with | some p => p.2 | none => k.flight

/-- The general registers as a word began. -/
def Core.before (k : Core) : Core := match k.pair with | some p => { k with g := p.1, flight := p.2 } | none => k

/-- Which value a read in a window returns is free (R441): `n` numbers the choice. -/
def windowRead (l : List InFlight) (dest n : Nat) (old : Word) : Word :=
  match (l.filter (·.dest == dest)).getLast? with
  | some e => if Config.windowNew n then e.value else old
  | none => old

/-- A word reads a general register, as its `i`-th operand. -/
def State.reg (s : State) (c : CoreId) (r i : Nat) : Word :=
  let k := (s.core c).before
  if r = 0 then 0 else windowRead k.flight r (s.free + i) (k.gen r)

/-- What a register written in the window of an earlier result holds afterwards is free (R442). -/
def windowWrite (l : List InFlight) (dest n : Nat) (v : Word) : Word :=
  match (l.filter (·.dest == dest)).getLast? with
  | some e => if Config.windowLater n then v else e.value
  | none => v

/-- A word writes a destination (a general register, or 32 above a special one) as its `i`-th result, at distance `d`. -/
def State.result (s : State) (c : CoreId) (dest i d : Nat) (div : Bool) (v : Word) : State :=
  if dest = 0 then s
  else
    let k := s.core c
    let w := windowWrite k.window dest (s.free + i) v
    let rest := k.flight.filter (·.dest != dest)
    let k1 := { k with flight := if d = 0 then rest else rest ++ [⟨dest, w, d + 1, div⟩] }
    s.setCore c (if d = 0 then k1.putGen dest w else k1)

/-- A divide inside the window of an earlier one: the earlier one's destination then holds an unpredictable value (R443). -/
def State.spoilDivide (s : State) (c : CoreId) : State :=
  let k := s.core c
  s.setCore c { k with flight := k.flight.map fun e => if e.div then { e with value := Config.divWord s.free } else e }

/-- The rest of a word after an access, unless the access reset the core that made it. -/
def State.afterAccess (s : State) (c : CoreId) (t : State) (rest : State → State) : State :=
  if { t.core c with nmi := false } = { s.core c with nmi := false } then rest t else t

/-- FETCH_UNCORRECTABLE (R448, R467): the word that the core would fetch is uncorrectable. -/
def execFetchUncorrectable (c : CoreId) (s : State) : Host.Outcome State Fault Refusal :=
  .next <| s.word c fun t =>
    let a := (t.core c).pc
    let m := match c with | .app => Master.appFetch | .sys => Master.sys
    ((t.busRead m a.toNat 4).st).fault c 4 (some a)

/-- ILLEGAL_WORD (R428). -/
def execIllegalWord (c : CoreId) (s : State) : Host.Outcome State Fault Refusal := .next (s.word c fun t => t.illegal c)

/-- Whether a core stands at a boundary that permits entry (R449): not within a paired word, and not before a delay slot. -/
def State.boundary (s : State) (c : CoreId) : Bool :=
  s.coreRuns c && (s.core c).pair.isNone && (s.core c).delay.isNone

/-- Whether an NMI would be taken (R448, R450). -/
def Core.nmiDue (k : Core) : Bool := k.nmi && k.special 0 &&& 2 == 0

/-- MNE_ENTRY (R449, R450, R452): NMI goes first; with IE = 0 an asserted MNE only ends a WAIT. -/
def execMneEntry (c : CoreId) (s : State) : Host.Outcome State Fault Refusal :=
  .next <|
    let k := s.core c
    if !s.boundary c || !s.mne c.man || k.nmiDue then s
    else if k.special 0 &&& 1 == 1 then s.enter c 0 k.pc none
    else s.setCore c { k with doze := false }

/-- NMI_ENTRY (R449, R450, R452): while NMIACT is 1 the NMI stays pending, and only ends a WAIT. -/
def execNmiEntry (c : CoreId) (s : State) : Host.Outcome State Fault Refusal :=
  .next <|
    let k := s.core c
    if !s.boundary c || !k.nmi then s
    else if k.nmiDue then s.enter c 1 k.pc none
    else s.setCore c { k with doze := false }

end Sys2Proof.Machine
end

