-- ==== Sys2Proof/Machine/Alu.lean ====
section
/-! DEFINITION. The register operations of the instruction set, long and short (R430 to R432, R440 to R443). -/

namespace Sys2Proof.Machine

/-- A comparison as a value. -/
def truth (b : Bool) : Word := if b then 1 else 0

/-- The leading zeros of a word (R431). -/
def leadingZeros (a : Word) : Nat := ((List.range 32).reverse.takeWhile fun i => !a.getLsbD i).length

/-- The value of a register operation (R431). -/
def AluFn.value (f : AluFn) (a b : Word) : Word :=
  match f with
  | .add => a + b
  | .sub => a - b
  | .and => a &&& b
  | .or => a ||| b
  | .xor => a ^^^ b
  | .nor => ~~~(a ||| b)
  | .shl => a <<< (b.toNat % 32)
  | .shr => a >>> (b.toNat % 32)
  | .sra => a.sshiftRight (b.toNat % 32)
  | .cmplt => truth (a.slt b)
  | .cmpltu => truth (a.ult b)
  | .cmpeq => truth (a == b)
  | .min => if a.slt b then a else b
  | .max => if a.slt b then b else a
  | .minu => if a.ult b then a else b
  | .maxu => if a.ult b then b else a
  | .clz => BitVec.ofNat 32 (leadingZeros a)
  | .mul => a * b
  | .mulh => BitVec.ofInt 32 (a.toInt * b.toInt / ((2 ^ 32 : Nat) : Int))
  | .mulhu => BitVec.ofNat 32 (a.toNat * b.toNat / 2 ^ 32)
  | .div => if b = 0 then 0xFFFFFFFF else a.sdiv b
  | .divu => if b = 0 then 0xFFFFFFFF else a.udiv b
  | .rem => if b = 0 then a else a.srem b
  | .remu => if b = 0 then a else a.umod b

/-- Whether the divider makes the result. -/
def AluFn.divides : AluFn → Bool
  | .div | .divu | .rem | .remu => true
  | _ => false

/-- The distance of a register operation (R431). -/
def AluFn.distance (f : AluFn) : Nat :=
  match f with
  | .mul | .mulh | .mulhu => 3
  | .div | .divu | .rem | .remu => 18
  | _ => 0

/-- A long register operation on two registers. -/
def State.alu (s : State) (c : CoreId) (f : AluFn) (rd ra rb : Reg) : State :=
  s.word c fun t =>
    let v := f.value (t.reg c ra 0) (t.reg c rb 1)
    let u := if f.divides then t.spoilDivide c else t
    (u.result c rd 0 f.distance f.divides v).endSlot c .b

/-- A long operation whose second operand is an immediate. -/
def State.aluImm (s : State) (c : CoreId) (f : AluFn) (rd ra : Reg) (imm : Word) : State :=
  s.word c fun t => (t.result c rd 0 0 false (f.value (t.reg c ra 0) imm)).endSlot c .b

/-- A short operation on two registers, the first of them the destination. -/
def State.shortAlu (s : State) (c : CoreId) (sl : Slot) (f : AluFn) (rd rs : SReg) : State :=
  s.slot c sl fun t =>
    let i := match sl with | .a => 0 | .b => 2
    (t.result c rd 0 f.distance false (f.value (t.reg c rd i) (t.reg c rs (i + 1)))).endSlot c sl

/-- A short operation with an immediate. -/
def State.shortImm (s : State) (c : CoreId) (sl : Slot) (f : AluFn) (rd : SReg) (imm : Word) : State :=
  s.slot c sl fun t =>
    let i := match sl with | .a => 0 | .b => 2
    (t.result c rd 0 0 false (f.value (t.reg c rd i) imm)).endSlot c sl

/-- ALU: op 0x00 with its fn; CLZ with a second operand other than g0 is illegal (R431). -/
def execAlu (c : CoreId) (fn : AluFn) (rd ra rb : Reg) (s : State) : Host.Outcome State Fault Refusal :=
  .next (if fn = .clz ∧ rb ≠ 0 then s.word c fun t => t.illegal c else s.alu c fn rd ra rb)

/-- ADD. -/
def execAdd (c : CoreId) (rd ra rb : Reg) (s : State) : Host.Outcome State Fault Refusal := .next (s.alu c .add rd ra rb)

/-- SUB. -/
def execSub (c : CoreId) (rd ra rb : Reg) (s : State) : Host.Outcome State Fault Refusal := .next (s.alu c .sub rd ra rb)

/-- AND. -/
def execAnd (c : CoreId) (rd ra rb : Reg) (s : State) : Host.Outcome State Fault Refusal := .next (s.alu c .and rd ra rb)

/-- OR. -/
def execOr (c : CoreId) (rd ra rb : Reg) (s : State) : Host.Outcome State Fault Refusal := .next (s.alu c .or rd ra rb)

/-- XOR. -/
def execXor (c : CoreId) (rd ra rb : Reg) (s : State) : Host.Outcome State Fault Refusal := .next (s.alu c .xor rd ra rb)

/-- NOR. -/
def execNor (c : CoreId) (rd ra rb : Reg) (s : State) : Host.Outcome State Fault Refusal := .next (s.alu c .nor rd ra rb)

/-- SHL. -/
def execShl (c : CoreId) (rd ra rb : Reg) (s : State) : Host.Outcome State Fault Refusal := .next (s.alu c .shl rd ra rb)

/-- SHR. -/
def execShr (c : CoreId) (rd ra rb : Reg) (s : State) : Host.Outcome State Fault Refusal := .next (s.alu c .shr rd ra rb)

/-- SRA. -/
def execSra (c : CoreId) (rd ra rb : Reg) (s : State) : Host.Outcome State Fault Refusal := .next (s.alu c .sra rd ra rb)

/-- CMPLT. -/
def execCmplt (c : CoreId) (rd ra rb : Reg) (s : State) : Host.Outcome State Fault Refusal := .next (s.alu c .cmplt rd ra rb)

/-- CMPLTU. -/
def execCmpltu (c : CoreId) (rd ra rb : Reg) (s : State) : Host.Outcome State Fault Refusal := .next (s.alu c .cmpltu rd ra rb)

/-- CMPEQ. -/
def execCmpeq (c : CoreId) (rd ra rb : Reg) (s : State) : Host.Outcome State Fault Refusal := .next (s.alu c .cmpeq rd ra rb)

/-- MIN. -/
def execMin (c : CoreId) (rd ra rb : Reg) (s : State) : Host.Outcome State Fault Refusal := .next (s.alu c .min rd ra rb)

/-- MAX. -/
def execMax (c : CoreId) (rd ra rb : Reg) (s : State) : Host.Outcome State Fault Refusal := .next (s.alu c .max rd ra rb)

/-- MINU. -/
def execMinu (c : CoreId) (rd ra rb : Reg) (s : State) : Host.Outcome State Fault Refusal := .next (s.alu c .minu rd ra rb)

/-- MAXU. -/
def execMaxu (c : CoreId) (rd ra rb : Reg) (s : State) : Host.Outcome State Fault Refusal := .next (s.alu c .maxu rd ra rb)

/-- CLZ. -/
def execClz (c : CoreId) (rd ra : Reg) (s : State) : Host.Outcome State Fault Refusal := .next (s.alu c .clz rd ra 0)

/-- MUL. -/
def execMul (c : CoreId) (rd ra rb : Reg) (s : State) : Host.Outcome State Fault Refusal := .next (s.alu c .mul rd ra rb)

/-- MULH. -/
def execMulh (c : CoreId) (rd ra rb : Reg) (s : State) : Host.Outcome State Fault Refusal := .next (s.alu c .mulh rd ra rb)

/-- MULHU. -/
def execMulhu (c : CoreId) (rd ra rb : Reg) (s : State) : Host.Outcome State Fault Refusal := .next (s.alu c .mulhu rd ra rb)

/-- DIV. -/
def execDiv (c : CoreId) (rd ra rb : Reg) (s : State) : Host.Outcome State Fault Refusal := .next (s.alu c .div rd ra rb)

/-- DIVU. -/
def execDivu (c : CoreId) (rd ra rb : Reg) (s : State) : Host.Outcome State Fault Refusal := .next (s.alu c .divu rd ra rb)

/-- REM. -/
def execRem (c : CoreId) (rd ra rb : Reg) (s : State) : Host.Outcome State Fault Refusal := .next (s.alu c .rem rd ra rb)

/-- REMU. -/
def execRemu (c : CoreId) (rd ra rb : Reg) (s : State) : Host.Outcome State Fault Refusal := .next (s.alu c .remu rd ra rb)

/-- ADDI (R429: the immediate is sign-extended). -/
def execAddi (c : CoreId) (rd ra : Reg) (imm : BitVec 15) (s : State) : Host.Outcome State Fault Refusal :=
  .next (s.aluImm c .add rd ra (imm.signExtend 32))

/-- ANDI (R429: the immediate is zero-extended). -/
def execAndi (c : CoreId) (rd ra : Reg) (imm : BitVec 15) (s : State) : Host.Outcome State Fault Refusal :=
  .next (s.aluImm c .and rd ra (imm.setWidth 32))

/-- ORI. -/
def execOri (c : CoreId) (rd ra : Reg) (imm : BitVec 15) (s : State) : Host.Outcome State Fault Refusal :=
  .next (s.aluImm c .or rd ra (imm.setWidth 32))

/-- XORI. -/
def execXori (c : CoreId) (rd ra : Reg) (imm : BitVec 15) (s : State) : Host.Outcome State Fault Refusal :=
  .next (s.aluImm c .xor rd ra (imm.setWidth 32))

/-- CMPLTI. -/
def execCmplti (c : CoreId) (rd ra : Reg) (imm : BitVec 15) (s : State) : Host.Outcome State Fault Refusal :=
  .next (s.aluImm c .cmplt rd ra (imm.signExtend 32))

/-- CMPLTUI. -/
def execCmpltui (c : CoreId) (rd ra : Reg) (imm : BitVec 15) (s : State) : Host.Outcome State Fault Refusal :=
  .next (s.aluImm c .cmpltu rd ra (imm.signExtend 32))

/-- The operation of a shift by an immediate. -/
def ShiftDir.fn : ShiftDir → AluFn
  | .shl => .shl
  | .shr => .shr
  | .sra => .sra

/-- SHI. -/
def execShi (c : CoreId) (rd ra : Reg) (dir : ShiftDir) (amt : Fin 32) (s : State) : Host.Outcome State Fault Refusal :=
  .next (s.aluImm c dir.fn rd ra (BitVec.ofNat 32 amt))

/-- LUI. -/
def execLui (c : CoreId) (rd : Reg) (imm : BitVec 20) (s : State) : Host.Outcome State Fault Refusal :=
  .next <| s.word c fun t => (t.result c rd 0 0 false (imm.setWidth 32 <<< 12)).endSlot c .b

/-- AUIPC. -/
def execAuipc (c : CoreId) (rd : Reg) (imm : BitVec 20) (s : State) : Host.Outcome State Fault Refusal :=
  .next <| s.word c fun t => (t.result c rd 0 0 false ((t.core c).pc + (imm.setWidth 32 <<< 12))).endSlot c .b

/-- SHORT_NOP. -/
def execShortNop (c : CoreId) (sl : Slot) (s : State) : Host.Outcome State Fault Refusal :=
  .next (s.slot c sl fun t => t.endSlot c sl)

/-- SHORT_MOV. -/
def execShortMov (c : CoreId) (sl : Slot) (rd rs : SReg) (s : State) : Host.Outcome State Fault Refusal :=
  .next <| s.slot c sl fun t => (t.result c rd 0 0 false (t.reg c rs (match sl with | .a => 0 | .b => 2))).endSlot c sl

/-- SHORT_ADD. -/
def execShortAdd (c : CoreId) (sl : Slot) (rd rs : SReg) (s : State) : Host.Outcome State Fault Refusal :=
  .next (s.shortAlu c sl .add rd rs)

/-- SHORT_SUB. -/
def execShortSub (c : CoreId) (sl : Slot) (rd rs : SReg) (s : State) : Host.Outcome State Fault Refusal :=
  .next (s.shortAlu c sl .sub rd rs)

/-- SHORT_AND. -/
def execShortAnd (c : CoreId) (sl : Slot) (rd rs : SReg) (s : State) : Host.Outcome State Fault Refusal :=
  .next (s.shortAlu c sl .and rd rs)

/-- SHORT_OR. -/
def execShortOr (c : CoreId) (sl : Slot) (rd rs : SReg) (s : State) : Host.Outcome State Fault Refusal :=
  .next (s.shortAlu c sl .or rd rs)

/-- SHORT_XOR. -/
def execShortXor (c : CoreId) (sl : Slot) (rd rs : SReg) (s : State) : Host.Outcome State Fault Refusal :=
  .next (s.shortAlu c sl .xor rd rs)

/-- SHORT_SHL. -/
def execShortShl (c : CoreId) (sl : Slot) (rd rs : SReg) (s : State) : Host.Outcome State Fault Refusal :=
  .next (s.shortAlu c sl .shl rd rs)

/-- SHORT_SHR. -/
def execShortShr (c : CoreId) (sl : Slot) (rd rs : SReg) (s : State) : Host.Outcome State Fault Refusal :=
  .next (s.shortAlu c sl .shr rd rs)

/-- SHORT_SRA. -/
def execShortSra (c : CoreId) (sl : Slot) (rd rs : SReg) (s : State) : Host.Outcome State Fault Refusal :=
  .next (s.shortAlu c sl .sra rd rs)

/-- SHORT_MUL. -/
def execShortMul (c : CoreId) (sl : Slot) (rd rs : SReg) (s : State) : Host.Outcome State Fault Refusal :=
  .next (s.shortAlu c sl .mul rd rs)

/-- SHORT_CMPLT. -/
def execShortCmplt (c : CoreId) (sl : Slot) (rd rs : SReg) (s : State) : Host.Outcome State Fault Refusal :=
  .next (s.shortAlu c sl .cmplt rd rs)

/-- SHORT_CMPLTU. -/
def execShortCmpltu (c : CoreId) (sl : Slot) (rd rs : SReg) (s : State) : Host.Outcome State Fault Refusal :=
  .next (s.shortAlu c sl .cmpltu rd rs)

/-- SHORT_CMPEQ. -/
def execShortCmpeq (c : CoreId) (sl : Slot) (rd rs : SReg) (s : State) : Host.Outcome State Fault Refusal :=
  .next (s.shortAlu c sl .cmpeq rd rs)

/-- SHORT_MOVI. -/
def execShortMovi (c : CoreId) (sl : Slot) (rd : SReg) (imm : BitVec 6) (s : State) : Host.Outcome State Fault Refusal :=
  .next <| s.slot c sl fun t => (t.result c rd 0 0 false (imm.signExtend 32)).endSlot c sl

/-- SHORT_ADDI. -/
def execShortAddi (c : CoreId) (sl : Slot) (rd : SReg) (imm : BitVec 6) (s : State) : Host.Outcome State Fault Refusal :=
  .next (s.shortImm c sl .add rd (imm.signExtend 32))

/-- SHORT_SHLI. -/
def execShortShli (c : CoreId) (sl : Slot) (rd : SReg) (amt : Fin 32) (s : State) : Host.Outcome State Fault Refusal :=
  .next (s.shortImm c sl .shl rd (BitVec.ofNat 32 amt))

/-- SHORT_SHRI. -/
def execShortShri (c : CoreId) (sl : Slot) (rd : SReg) (amt : Fin 32) (s : State) : Host.Outcome State Fault Refusal :=
  .next (s.shortImm c sl .shr rd (BitVec.ofNat 32 amt))

/-- SHORT_SRAI. -/
def execShortSrai (c : CoreId) (sl : Slot) (rd : SReg) (amt : Fin 32) (s : State) : Host.Outcome State Fault Refusal :=
  .next (s.shortImm c sl .sra rd (BitVec.ofNat 32 amt))

/-- SHORT_ANDI: the immediate is signed (R432). -/
def execShortAndi (c : CoreId) (sl : Slot) (rd : SReg) (imm : BitVec 6) (s : State) : Host.Outcome State Fault Refusal :=
  .next (s.shortImm c sl .and rd (imm.signExtend 32))

end Sys2Proof.Machine
end

