-- ==== Sys2Proof/Machine/Settings.lean ====
section
/-! DEFINITION. The SYS settings (R67, R78, R83, R425, R673) and the query form of every setting (R61, R83, R187, R295, R308,
R360, R607, R623, R674, R675). -/

namespace Sys2Proof.Machine

/-- Facts of the SYS commands. -/
def sysCmd : CmdInfo := { sysGroup := true, heritage := true }

/-- SYS_VER_QUERY (R83): the revision, the version and the lineage are the part's. -/
def execSysVerQuery (x : Sess) (s : State) : Host.Outcome State Fault Refusal :=
  .next <| s.run x { sysCmd with query := true, scrapOk := true } fun t =>
    (t.reply x ("SYS VER PART=AXN6240 SI=" ++ Config.siliconName ++ " FW=" ++ Config.firmwareName ++ " LINEAGE=" ++
      Text.dec Config.lineage)).ok x

/-- SYS_MODE (R673): the mode changes once the final byte of the OK has left; TYPED brings the prompt. -/
def execSysMode (x : Sess) (typed : Bool) (s : State) : Host.Outcome State Fault Refusal :=
  .next <| s.run x { sysCmd with notQuay := true } fun t =>
    let u := t.emit x 4 0 0 (.mode typed) (t.console.tag ++ "OK")
    if typed then u.sendPrompt x else u

/-- SYS_CHECK (R67): the reply is made under the setting that the command replaces. -/
def execSysCheck (x : Sess) (on : Bool) (s : State) : Host.Outcome State Fault Refusal :=
  .next <| s.run x sysCmd fun t =>
    let u := t.ok x
    u.setSess x { u.sess x with check := on }

/-- SYS_BAUD (R78): a rate, or AUTO where none; it takes effect once the final byte of the OK has left. -/
def execSysBaud (x : Sess) (rate : Option Nat) (s : State) : Host.Outcome State Fault Refusal :=
  .next <| s.run x { sysCmd with uart0Only := true } fun t =>
    if rate.any fun r => r < 9600 || 4000000 < r then t.er x 120 else t.finish x (.baud rate) "OK"

/-- SYS_NOTICE (R73). -/
def execSysNotice (x : Sess) (cls : Fin 4) (s : State) : Host.Outcome State Fault Refusal :=
  .next <| s.run x sysCmd fun t => (t.setSess x { t.sess x with notice := cls }).ok x

/-- SYS_STAT_QUERY (R425, R674). -/
def execSysStatQuery (x : Sess) (s : State) : Host.Outcome State Fault Refusal :=
  .next <| s.run x { sysCmd with query := true } fun t =>
    (t.reply x ("SYS STAT UPTIME=" ++ Text.dec (t.tide.up / 2 ^ 56) ++ " CAUSE=" ++ Name.cause (t.get F.SYSCTL_RCAUSE_LAST) ++
      " STATE=" ++ Name.system (t.get F.SYSCTL_RCAUSE_STATE))).ok x

/-- What the checks need to know of a setting's query (R676). -/
def Setting.info (q : Setting) : CmdInfo :=
  match q with
  | .sysMode => { sysCmd with query := true, notQuay := true }
  | .sysCheck | .sysNotice => { sysCmd with query := true }
  | .sysBaud => { sysCmd with query := true, uart0Only := true }
  | .level | .levelBlock _ => { query := true }
  | .pwrPoint | .pwrPath | .pwrReg | .noteSleep | .noteRetain => { pwrCmd with query := true }
  | .pwrDomain _ | .pwrBias _ => { pwrCmd with query := true, expert := true }
  | .clkSrc _ | .clkGate _ | .clkMon _ => { clkCmd with query := true, expert := true }
  | .harvMppt | .harvXmit | .harvOvp => { harvCmd with query := true }
  | .gnssMode | .gnssBurst => { gnssCmd with query := true }
  | .planSys | .planElev => { planCmd with query := true }
  | .berthSpacing n | .berthLoop n => { berthCmd n with query := true }
  | .nmea | .nmeaSet | .nmeaRate => { nmeaCmd with query := true }
  | .tideSrc | .tideScale | .tideLeap => { tideCmd with query := true }
  | .tideRate | .tideLoop => { tideCmd with query := true, expert := true }
  | .tp | .tpSet | .tpDelay | .tpPolicy => { tpCmd with query := true }
  | .rtcMode | .rtcSet | .rtcAlarm _ | .rtcTrickle => { rtcCmd with query := true }
  | .logProtect => { logCmd with query := true }
  | .adcMode | .adcRef => { adcCmd with query := true }
  | .touchMode | .touchOntime => { touchCmd with query := true }
  | .lgtDiv _ => { lgtCmd with query := true }
  | .signFix => { signCmd with query := true }

/-- A list of bank numbers as numbers and ranges (R360), over banks `i` to 23. -/
def bankRanges (v : Nat) : Nat → Nat → Option Nat → List String
  | 0, i, some a => [if a + 1 = i then Text.dec a else Text.dec a ++ "-" ++ Text.dec (i - 1)]
  | 0, _, none => []
  | f + 1, i, open_ =>
    match bitOf v i, open_ with
    | true, none => bankRanges v f (i + 1) (some i)
    | true, some a => bankRanges v f (i + 1) (some a)
    | false, none => bankRanges v f (i + 1) none
    | false, some a => (if a + 1 = i then Text.dec a else Text.dec a ++ "-" ++ Text.dec (i - 1)) :: bankRanges v f (i + 1) none

/-- The list of `NOTE RETAIN?` (R360). -/
def State.retainText (s : State) : String :=
  let l := bankRanges (s.get F.PWR_RETAIN_BANKS) 24 0 none ++ (if s.on F.PWR_RETAIN_ITCM then ["ITCM"] else []) ++
    (if s.on F.PWR_RETAIN_DTCM then ["DTCM"] else [])
  if l.isEmpty then "NONE" else Text.sep "," l

/-- A loop argument as a query shows it, with `d` decimals in a step of `k` (R187). -/
def State.loopText (s : State) (bw opened : Fld) (d k : Nat) : String :=
  if s.on opened then "OPEN" else Text.exact d (s.get bw * k) ++ "Hz"

/-- The period of the time pulse (R286), in 2^-32 s. -/
def State.periodUnits (s : State) : Nat :=
  let p := s.get F.TP_PERS_SEC * 2 ^ 32 + s.get F.TP_PERF_FRAC
  if p = 0 then 2 ^ 64 else p

/-- The keys of `TP SET`. -/
def State.pulseKeys (s : State) : String :=
  " PERIOD=" ++ Text.dyadic 32 s.periodUnits ++ "s WIDTH=" ++ Text.exact 9 (s.get F.TP_WIDTH_TICKS * 3125) ++ "ms POL=" ++
    (if s.on F.TP_CTRL_POL then "NEG" else "POS") ++ " SCALE=" ++ tideScale (s.get F.TP_CTRL_SCALE)

/-- The delay of the time pulse. -/
def State.delayText (s : State) : String := Text.exact 2 (s.getS F.TP_DELAY_DELAY * 25) ++ "ns"

/-- The policy of the time pulse. -/
def State.policyText (s : State) : String := if s.on F.TP_CTRL_POLICY then "FLAG" else "STOP"

/-- A calendar date and time as the console writes it (R308). -/
def dateText (t : Nat) : String :=
  let d := Cal.dateOf t
  Text.pad 4 d.year ++ "-" ++ Text.pad 2 d.month ++ "-" ++ Text.pad 2 d.day ++ "T" ++ Text.pad 2 d.hour ++ ":" ++
    Text.pad 2 d.minute ++ ":" ++ Text.pad 2 d.second

/-- Two BCD digits as text. -/
def bcdText (n : Nat) : String := Text.hex 2 n

/-- The names of the mask bits of an alarm in the order of its words (R323). -/
def alarmMaskNames : List String := ["SEC", "MIN", "HOUR", "WDAY", "DAY", "MONTH", "YEAR", "CENT"]

/-- The mask fields of an alarm. -/
def alarmMasks (k : Nat) : List Fld :=
  [F.RTC_ALM_C0_MSEC k, F.RTC_ALM_C0_MMIN k, F.RTC_ALM_C0_MHOUR k, F.RTC_ALM_C0_MWDAY k, F.RTC_ALM_C1_MDAY k,
    F.RTC_ALM_C1_MMONTH k, F.RTC_ALM_C1_MYEAR k, F.RTC_ALM_C1_MCENT k]

/-- An alarm's time and mask in the representation that MODE selects (R311). -/
def State.alarmText (s : State) (k : Nat) : String :=
  if s.on F.RTC_CTRL_MODE then
    let l := ((alarmMaskNames.zip (alarmMasks k)).filter fun p => s.on p.2).map (·.1)
    Text.dec (20 + s.get (F.RTC_ALM_C1_CENT k)) ++ bcdText (s.get (F.RTC_ALM_C1_YEAR k)) ++ "-" ++
      bcdText (s.get (F.RTC_ALM_C1_MONTH k)) ++ "-" ++ bcdText (s.get (F.RTC_ALM_C1_DAY k)) ++ "T" ++
      bcdText (s.get (F.RTC_ALM_C0_HOUR k)) ++ ":" ++ bcdText (s.get (F.RTC_ALM_C0_MIN k)) ++ ":" ++
      bcdText (s.get (F.RTC_ALM_C0_SEC k)) ++ " MASK=" ++ (if l.isEmpty then "NONE" else Text.sep "," l)
  else
    Text.dec (s.get (F.RTC_ALM_BCMPL_CMP k) + s.get (F.RTC_ALM_BCMPH_CMP k) * 2 ^ 32) ++ " MASK=0x" ++
      Text.hex 10 (s.get (F.RTC_ALM_BMSKL_MSK k) + s.get (F.RTC_ALM_BCMPH_MSK k) * 2 ^ 32)

/-- The sentences of `NMEA SET` (R83). -/
def nmeaNames : List String := ["GGA", "RMC", "GNS", "GSA", "GSV", "VTG", "ZDA", "GST", "POLX"]

/-- The ports of `NMEA`. -/
def NmeaPort.text : NmeaPort → String
  | .uart0 => "UART0"
  | .uart1 => "UART1"
  | .i2c => "I2C"

/-- Names of modes. -/
def adcModes : List String := ["OFF", "FAST", "SCAN", "ECONOMY"]
def touchModes : List String := ["OFF", "SELF", "MUTUAL", "PROX"]
def protectNames : List String := ["NONE", "QUARTER", "HALF", "ALL"]
def trickleNames : List String := ["OFF", "1K5", "4K7", "10K"]
def biasNames : List String := ["ZERO", "FWD", "REV"]
def monitorNames : List String := ["XTALG", "XTALL", "HFO"]

/-- Whether a flag is 0 or 1, as text. -/
def State.bitText (s : State) (f : Fld) : String := Text.dec (s.get f)

/-- The reply lines of a setting's query. -/
def State.settingLines (s : State) (x : Sess) (q : Setting) : List String :=
  match q with
  | .sysMode => ["SYS MODE " ++ (if (s.sess x).typed then "TYPED" else "GENERATED")]
  | .sysCheck => ["SYS CHECK " ++ Text.onOff (s.sess x).check]
  | .sysBaud => ["SYS BAUD " ++ (if s.console.autobaud then "AUTO" else Text.dec s.console.rate)]
  | .sysNotice => ["SYS NOTICE " ++ Text.dec (s.sess x).notice]
  | .level => ["LEVEL " ++ Name.level (s.sess x).expert]
  | .levelBlock b => ["LEVEL " ++ Name.block b ++ " " ++ Name.level (s.expert b)]
  | .pwrPoint => ["PWR POINT " ++ Name.point (s.get F.PWR_POINT_ACT)]
  | .pwrPath =>
    ["PWR PATH POLICY=" ++ (if s.on F.PWR_PATH_POLICY then "HARVEST" else "BATTERY") ++ " ACT=" ++ Name.path (s.get F.PWR_PATH_ACT)]
  | .pwrReg =>
    let n := fun (f : Fld) => if s.on f then "LDO" else "BUCK"
    ["PWR REG MODE=" ++ n F.PWR_REG_MODE ++ " ACT=" ++ n F.PWR_REG_ACT]
  | .pwrDomain d =>
    ["PWR DOMAIN " ++ Name.domain d ++ " " ++ Text.onOff (s.powered d) ++ " FORCE=" ++ Text.dec (bitsOf (s.get F.PWR_DOMF_FORCE) d 1)]
  | .pwrBias d => ["PWR BIAS " ++ Name.domain d ++ " " ++ Name.pick biasNames (bitsOf (s.get F.PWR_BIAS_BIAS) (2 * d) 2)]
  | .noteSleep => ["NOTE SLEEP " ++ Name.depth (s.get F.PWR_SLEEP_DEPTH) ++ " MAX=" ++ Name.depth s.maxDepth]
  | .noteRetain => ["NOTE RETAIN " ++ s.retainText]
  | .clkSrc i => ["CLK SRC " ++ Text.dec (i.val + 1) ++ " " ++ Name.source (s.get (F.CLK_ISL_SEL i))]
  | .clkGate i =>
    ["CLK GATE " ++ Text.dec (i.val + 1) ++ " RUN=" ++ Text.onOff (s.on (gateField i .run)) ++ " SLP=" ++
      Text.onOff (s.on (gateField i .slp)) ++ " DSLP=" ++ Text.onOff (s.on (gateField i .dslp))]
  | .clkMon k => ["CLK MON " ++ Name.pick monitorNames k ++ " WINDOW=" ++ Text.dec (s.get (F.CLK_MON_WINDOW k))]
  | .harvMppt =>
    ["HARV MPPT " ++ (if s.on F.HARV_MPPT_MODE then "FIXED=" ++ Text.exact 2 (s.get F.HARV_MPPT_FIXV * 5) ++ "V"
      else "FRAC=" ++ Text.dec (s.get F.HARV_MPPT_FRAC))]
  | .harvXmit => ["HARV XMIT " ++ Text.exact 2 (340 + s.get F.HARV_XMIT_LEVEL) ++ "V"]
  | .harvOvp => ["HARV OVP " ++ (if s.on F.HARV_PROT_OVP then "4.2V" else "4.1V")]
  | .gnssMode => ["GNSS MODE " ++ modeName (s.get F.GNSS_MODE_MODE)]
  | .gnssBurst =>
    ["GNSS BURST PERIOD=" ++ Text.dec (s.get F.GNSS_BURST_PERIOD) ++ "s WINDOW=" ++ Text.dec (s.get F.GNSS_BURST_WINDOW) ++ "ms"]
  | .planSys =>
    ["PLAN SYS" ++ Text.keys ((List.range 7).map fun i => (sysName i, Text.onOff (bitOf (s.get F.PLAN_CFG_SYS_EN) i)))]
  | .planElev => ["PLAN ELEV " ++ Text.dec (s.get F.PLAN_CFG_ELEV)]
  | .berthSpacing n =>
    ["BERTH " ++ Text.dec n ++ " SPACING EL=" ++ Text.dyadic 5 (s.get (F.BERTH_ARMS_EL n)) ++ " VEVL=" ++
      Text.dyadic 5 (s.get (F.BERTH_ARMS_VEVL n))]
  | .berthLoop n =>
    ["BERTH " ++ Text.dec n ++ " LOOP PLL=" ++ s.loopText (F.BERTH_LOOP_PLL_BW n) (F.BERTH_LOOP_PLL_OPEN n) 2 25 ++ " FLL=" ++
      s.loopText (F.BERTH_LOOP_FLL_BW n) (F.BERTH_LOOP_FLL_OPEN n) 2 25 ++ " DLL=" ++
      s.loopText (F.BERTH_LOOP_DLL_BW n) (F.BERTH_LOOP_DLL_OPEN n) 2 1]
  | .nmea => ["NMEA " ++ Text.onOff s.gnss.nmea.on ++ " PORT=" ++ s.gnss.nmea.port.text]
  | .nmeaSet =>
    ["NMEA SET " ++ Text.sep "," ((nmeaNames.zipIdx.filter fun p => bitOf s.gnss.nmea.set p.2).map (·.1))]
  | .nmeaRate => ["NMEA RATE " ++ Text.dec s.gnss.nmea.rate]
  | .tideSrc => ["TIDE SRC " ++ tideSource (s.get F.TIDE_CFG_SRC)]
  | .tideScale => ["TIDE SCALE " ++ tideScale (s.get F.TIDE_CFG_SCALE)]
  | .tideLeap => ["TIDE LEAP " ++ Text.int (s.getS F.TIDE_LEAP_CUR) ++ "s"]
  | .tideRate => ["TIDE RATE " ++ Text.fixed 6 (roundDiv (s.getS F.TIDE_RATE_ADJ * 1000000000000) (2 ^ 40))]
  | .tideLoop =>
    ["TIDE LOOP KP=" ++ Text.dyadic 16 (s.get F.TIDE_GAIN_KP) ++ " KI=" ++ Text.dyadic 16 (s.get F.TIDE_GAIN_KI) ++ " STATE=" ++
      (if s.on F.TIDE_CFG_LOOP_OPEN then "OPEN" else "CLOSED")]
  | .tp =>
    [if s.on F.TP_CTRL_EN then "TP ON" ++ s.pulseKeys ++ " DELAY=" ++ s.delayText ++ " POLICY=" ++ s.policyText else "TP OFF"]
  | .tpSet => ["TP SET" ++ s.pulseKeys]
  | .tpDelay => ["TP DELAY " ++ s.delayText]
  | .tpPolicy => ["TP POLICY " ++ s.policyText]
  | .rtcMode => ["RTC MODE " ++ (if s.on F.RTC_CTRL_MODE then "CALENDAR" else "BINARY")]
  | .rtcSet =>
    ["RTC SET " ++ dateText s.rtc.cal ++ "." ++ Text.pad 5 (s.rtc.pre * 100000 / 32768) ++ " OSF=" ++ s.bitText F.RTC_STAT_OSF]
  | .rtcAlarm k => ["RTC ALARM " ++ Text.dec (k.val + 1) ++ " " ++ s.alarmText k]
  | .rtcTrickle =>
    ["RTC TRICKLE " ++ Name.pick trickleNames (s.get F.RTC_CTRL_TRK_RES) ++ " DIODE=" ++ s.bitText F.RTC_CTRL_TRK_DIODE]
  | .logProtect => ["LOG PROTECT " ++ Name.pick protectNames (s.get F.LOGS_PROT_BP)]
  | .adcMode => ["ADC MODE " ++ Name.pick adcModes (s.get F.ADC_CFG_MODE)]
  | .adcRef => ["ADC REF " ++ (if s.on F.ADC_REF_SEL then "EXT " else "INT ") ++ Text.onOff (s.on F.ADC_REF_EN)]
  | .touchMode =>
    ["TOUCH MODE " ++ Name.pick touchModes (s.get F.TOUCH_CFG_MODE) ++ " PROX=" ++ s.bitText F.TOUCH_PROX_DET ++ " LATE=" ++
      s.bitText F.TOUCH_STAT_LATE]
  | .touchOntime => ["TOUCH ONTIME " ++ Text.dec (s.get F.TOUCH_ONTIME_S) ++ "s"]
  | .lgtDiv n =>
    ["LGT " ++ Text.dec n ++ " DIV " ++ Text.dyadic 8 (s.get (F.LGT_DIV_INT n) * 256 + s.get (F.LGT_DIV_FRAC n))]
  | .signFix =>
    let head := "SIGN FIX " ++ Text.onOff (s.on F.CRYPTO_SFCFG_AUTO) ++ " LAST=" ++
      (match s.crypto.last with | some l => Text.dec l.1 | none => "NONE") ++ " BOOTN=" ++ Text.dec s.crypto.bootn ++ " SSEQ=" ++
      Text.dec s.crypto.sseq
    match s.crypto.last with
    | some l => head :: (hexLines "SIGN FIX B " [32, 32, 32] l.2.1 ++ hexLines "SIGN FIX G " [32, 32, 32, 18] l.2.2)
    | none => [head]

/-- SETTING_QUERY (R675). -/
def execSettingQuery (x : Sess) (q : Setting) (s : State) : Host.Outcome State Fault Refusal :=
  .next <| s.run x q.info fun t => (t.replies x (t.settingLines x q)).ok x

end Sys2Proof.Machine
end

