-- ==== Sys2Proof/Machine/Args.lean ====
section
/-! DEFINITION. Host lines taken apart: suffix, tokens, the `?`, positional and keyed arguments, and the values of arguments
(R58 to R61, R66, R81). -/

namespace Sys2Proof.Machine

/-- The text of a line before its check suffix, and the value of the suffix if it carries one (R66). -/
def splitCheck (l : List Char) : List Char × Option Nat :=
  let n := l.length
  match l.drop (n - 3) with
  | ['*', a, b] =>
    match Text.hexNat? [a, b] with
    | some v => (l.take (n - 3), some v)
    | none => (l, none)
  | _ => (l, none)

/-- A line's arguments: its tokens in upper case, positional ones first, then the keyed ones, and whether it is a query. -/
structure Args where
  pos : List String
  keyed : List (String × String)
  query : Bool
  deriving DecidableEq, Repr

/-- A token of the form KEY=value. -/
def keyedToken (t : List Char) : Option (String × String) :=
  if t.contains '=' then some (String.ofList (t.takeWhile (· != '=')), String.ofList ((t.dropWhile (· != '=')).drop 1)) else none

/-- The positions of a line's verb and object, in tokens (R58): a berth's or an engine's number comes before its object, and
`BITS` and `MEAS` have no object. -/
def headPositions (toks : List (List Char)) : List Nat :=
  match toks.head?.map String.ofList with
  | some "BERTH" | some "LGT" => [0, 2]
  | some "BITS" | some "MEAS" => [0]
  | some _ => [0, 1]
  | none => []

/-- The tokens of a line with its `?` taken away, and whether there was one (R58); none where the `?` is misplaced. -/
def takeQuery (toks : List (List Char)) : Option (List (List Char) × Bool) :=
  match (toks.flatMap id).count '?' with
  | 0 => some (toks, false)
  | 1 =>
    let i := toks.findIdx fun t => t.contains '?'
    let t := toks.getD i []
    if t == ['?'] then (if i + 1 = toks.length ∧ 1 < toks.length then some (toks.take i, true) else none)
    else if t.getLast? == some '?' then
      let bare := toks.set i t.dropLast
      if (headPositions bare).contains i || i + 1 == toks.length then some (bare, true) else none
    else none
  | _ => none

/-- Whether every value follows a key, and no positional argument follows a keyed one (R58). -/
def ordered : List (List Char) → Bool
  | [] => true
  | t :: r => if t.contains '=' then r.all (fun u => u.contains '=') else ordered r

/-- The token syntax of a line (R58): none for `ER 103`. -/
def parseArgs (l : List Char) : Option Args :=
  match takeQuery (Text.tokens (Text.upper l)) with
  | none => none
  | some (toks, q) =>
    let keyed := toks.filterMap keyedToken
    if toks.isEmpty || l.contains '*' || !ordered toks then none
    else if keyed.any (fun p => p.1 == "" || p.2 == "" || p.2.toList.contains '=') then none
    else if (keyed.map (·.1)).eraseDups.length != keyed.length then none
    else some ⟨(toks.filter fun t => !t.contains '=').map String.ofList, keyed, q⟩

/-- The value of arguments, or the errors they earn (R68 step 11). -/
abbrev Arg (α : Type) := Except (List Nat) α

/-- Both of two arguments: their errors come together. -/
def Arg.both {α β : Type} (a : Arg α) (b : Arg β) : Arg (α × β) :=
  match a, b with
  | .ok x, .ok y => .ok (x, y)
  | .error e, .error f => .error (e ++ f)
  | .error e, .ok _ => .error e
  | .ok _, .error f => .error f

/-- An argument's value, changed. -/
def Arg.mapTo {α β : Type} (f : α → β) (a : Arg α) : Arg β :=
  match a with
  | .ok x => .ok (f x)
  | .error e => .error e

/-- The first of the errors in the order of step 11 of R68. -/
def firstError (l : List Nat) : Nat := ([111, 112, 122, 121, 120].find? fun e => l.contains e).getD 120

/-- A number in a range, rounded to the nearest step and held within the range (R60, R61). -/
def ranged (q : Text.Qty) (dflt lo hi step : Text.Ratio) (t : String) : Arg Int :=
  match Text.quantity q dflt t.toList with
  | .error .badNumber => .error [122]
  | .error .badUnit => .error [121]
  | .ok v =>
    if lo.le v && v.le hi then
      let n := fun (r : Text.Ratio) => Text.Ratio.mk (r.num * step.den) (r.den * step.num.toNat)
      .ok (max (n lo).ceil (min (n hi).floor (n v).round))
    else .error [120]

/-- A ratio of natural numbers. -/
def rat (a : Int) (b : Nat) : Text.Ratio := ⟨a, b⟩

/-- A plain number from `lo` to `hi` in whole steps. -/
def whole (lo hi : Int) (t : String) : Arg Int := ranged .plain (rat 1 1) (rat lo 1) (rat hi 1) (rat 1 1) t

/-- A plain natural number below `n`. -/
def below (n : Nat) [NeZero n] (t : String) : Arg (Fin n) := (whole 0 (n - 1) t).mapTo fun v => Fin.ofNat n v.toNat

/-- A name of a list, by its position: the list's length is at most `n`. -/
def named (n : Nat) [NeZero n] (l : List String) (t : String) : Arg (Fin n) :=
  match Name.index l t with
  | some i => .ok (Fin.ofNat n i)
  | none => .error [120]

/-- A choice between two names: the second is true. -/
def either (a b t : String) : Arg Bool := if t == a then .ok false else if t == b then .ok true else .error [120]

/-- A value absent or present. -/
def optional {α : Type} (f : String → Arg α) : Option String → Arg (Option α)
  | none => .ok none
  | some t => (f t).mapTo some

/-- A value that must be present. -/
def required {α : Type} (f : String → Arg α) : Option String → Arg α
  | none => .error [111]
  | some t => f t

/-- The value of a key. -/
def Args.key (a : Args) (k : String) : Option String := (a.keyed.find? fun p => p.1 == k).map (·.2)

/-- Every value of a list. -/
def each {α : Type} (f : String → Arg α) : List String → Arg (List α)
  | [] => .ok []
  | t :: r => ((f t).both (each f r)).mapTo fun p => p.1 :: p.2

/-- A list written with commas. -/
def commas (t : String) : List String := (Text.splitOn ',' t.toList).map String.ofList

/-- A block by its short name, a berth as BERTH with its number (R81). -/
def blockArg (t : String) : Arg Block :=
  match Block.fixedList.find? fun b => b.shortName == t with
  | some b => .ok b
  | none =>
    let l := t.toList
    if l.take 5 == "BERTH".toList then
      match Text.nat? (l.drop 5) with
      | some n => if n < 256 then .ok (.berth (Fin.ofNat 256 n)) else .error [120]
      | none => .error [120]
    else .error [120]

/-- A satellite in console form (R93). -/
def satArg (t : String) : Arg Sv :=
  let l := t.toList
  match Name.index ["GP", "GA", "BD", "GL", "QZ", "NV", "SB"] (String.ofList (l.take 2)), Text.nat? (l.drop 2) with
  | some g, some n =>
    let lo := [1, 1, 1, 1, 193, 1, 120].getD g 1
    let hi := [32, 36, 63, 24, 202, 14, 158].getD g 0
    if lo ≤ n ∧ n ≤ hi then .ok ⟨Fin.ofNat 7 g, BitVec.ofNat 8 n, 0⟩ else .error [120]
  | _, _ => .error [120]

/-- A signal by its console name (R91). -/
def sigArg (t : String) : Arg (Fin 14) := named 14 ((List.range 14).map fun g => Sig.name g) t

/-- A hexadecimal number of at most `d` digits, with 0x or without. -/
def hexArg (d : Nat) (t : String) : Arg Nat :=
  let l := match t.toList with | '0' :: 'X' :: r => r | r => r
  match Text.hexNat? l with
  | some v => if l.length ≤ d then .ok v else .error [120]
  | none => .error [122]

/-- A token of bytes, from 1 to 32, as hexadecimal digits without 0x (R506, R623). -/
def bytesArg (t : String) : Arg (List Byte) :=
  match Text.hexByteList? t.toList with
  | some l => if l.isEmpty || 32 < l.length then .error [120] else .ok (l.map fun b => BitVec.ofNat 8 b)
  | none => .error [120]

/-- A calendar date and time, with the fraction's digits if it has any (R308). -/
def dateArg (t : String) : Arg (DateTime × Option (List Char)) :=
  let l := t.toList
  let body := l.take 19
  let num := fun i n => Text.nat? ((body.drop i).take n)
  let at_ := fun i (c : Char) => body[i]? == some c
  let frac : Option (Option (List Char)) := match l.drop 19 with
    | [] => some none
    | '.' :: d => if (Text.nat? d).isSome then some (some d) else none
    | _ => none
  match num 0 4, num 5 2, num 8 2, num 11 2, num 14 2, num 17 2, frac with
  | some y, some mo, some d, some h, some mi, some se, some f =>
    if at_ 4 '-' && at_ 7 '-' && at_ 10 'T' && at_ 13 ':' && at_ 16 ':' then .ok (⟨y, mo, d, h, mi, se⟩, f) else .error [120]
  | _, _, _, _, _, _, _ => .error [120]

/-- A fraction of a second in counts of 1/32768 s, held below a second (R61, R310). -/
def fracCount (d : List Char) : BitVec 15 :=
  BitVec.ofNat 15 (min 32767 (rat ((Text.nat? d).getD 0 * 32768 : Nat) (10 ^ d.length)).round.toNat)

/-- An item of `NOTE RETAIN` (R361): banks as bits 0 to 23, ITCM as bit 24 and DTCM as bit 25. -/
def retainItem (t : String) : Arg Nat :=
  if t == "ITCM" then .ok (2 ^ 24)
  else if t == "DTCM" then .ok (2 ^ 25)
  else
    match (Text.splitOn '-' t.toList).map Text.nat? with
    | [some a] => if a < 24 then .ok (2 ^ a) else .error [120]
    | [some a, some b] => if a ≤ b ∧ b < 24 then .ok (2 ^ (b + 1) - 2 ^ a) else .error [120]
    | _ => .error [120]

/-- The list of `NOTE RETAIN` (R361). -/
def retainArg (t : String) : Arg Nat :=
  if t == "NONE" then .ok 0 else (each retainItem (commas t)).mapTo fun l => l.foldl (· ||| ·) 0

/-- The list of `NMEA SET`, as bits in the order of the catalogue. -/
def nmeaArg (t : String) : Arg (BitVec 9) :=
  (each (named 9 nmeaNames) (commas t)).mapTo fun l => BitVec.ofNat 9 (l.foldl (fun a i => a ||| 2 ^ i.val) 0)

/-- The position of `GNSS AID`: degrees and metres, in 10^-7 degree and mm. -/
def posArg (t : String) : Arg (Int × Int × Int) :=
  let deg := fun (m : Int) => ranged .plain (rat 1 1) (rat (-m) 1) (rat m 1) (rat 1 10000000)
  match commas t with
  | [a, b, c] =>
    ((deg 90 a).both ((deg 180 b).both (ranged .dist (rat 1 1) (rat (-10 ^ 20) 1) (rat (10 ^ 20) 1) (rat 1 1000) c)))
  | _ => .error [122]

/-- A time in seconds, in 2^-32 s, that fits the Tide counter (R266). -/
def timeArg (t : String) : Arg Nat :=
  (ranged .time (rat 1 1) (rat 0 1) (rat (2 ^ 48) 1) (rat 1 (2 ^ 32)) t).mapTo Int.toNat

/-- A loop argument of `BERTH n LOOP` (R187) in a field's steps: a bandwidth in Hz, or OPEN. -/
def loopArg (hi den : Nat) (t : String) : Arg LoopArg :=
  if t == "OPEN" then .ok .open_
  else (ranged .freq (rat 1 1) (rat 1 den) (rat hi den) (rat 1 den) t).mapTo fun v => .bw v.toNat

/-- The mask of `RTC ALARM`: a list of fields, or a 40-bit number. -/
def maskArg (t : String) : Arg (Nat ⊕ Nat) :=
  if t == "NONE" then .ok (.inl 0)
  else if (commas t).all fun n => alarmMaskNames.contains n then
    .ok (.inl ((commas t).foldl (fun a n => a ||| 2 ^ (alarmMaskNames.idxOf n)) 0))
  else (whole 0 (2 ^ 40 - 1) t).mapTo fun v => .inr v.toNat

/-- The calendar words of an alarm (R323), with the mask bits of `maskArg`. -/
def alarmWords (t mask : Nat) : BitVec 32 × BitVec 32 :=
  let m := fun i b => if bitOf mask i then 2 ^ b else 0
  (BitVec.ofNat 32 (Cal.word0 t + m 0 7 + m 1 15 + m 2 23 + m 3 27),
    BitVec.ofNat 32 (Cal.word1 t + m 4 7 + m 5 15 + m 6 26 + m 7 27))

/-- The time and mask of `RTC ALARM`: a field list makes a calendar alarm and a number a binary one; without a mask, the
representation is the one that MODE selects. A time is a date and time, or BINARY seconds. -/
def alarmArg (calendar : Bool) (time : String) (mask : Option String) : Arg AlarmSet :=
  ((match dateArg time with
    | .ok (d, none) => if Cal.valid d then .ok (.inl (Cal.count d)) else .error [120]
    | .ok (_, some _) => .error [120]
    | .error e => if time.toList.contains 'T' then .error e else (whole 0 (2 ^ 40 - 1) time).mapTo fun v => .inr v.toNat :
      Arg (Nat ⊕ Nat)).both (optional maskArg mask)).mapTo fun p =>
    let binary := match p.2 with | some (.inr _) => true | some (.inl _) => false | none => !calendar
    if binary then
      .binary (BitVec.ofNat 40 (match p.1 with | .inl c => Cal.toBinary c | .inr b => b))
        (BitVec.ofNat 40 (match p.2 with | some (.inr m) => m | _ => 0))
    else
      let w := alarmWords (match p.1 with | .inl c => c | .inr b => (Cal.ofBinary b).getD 0)
        (match p.2 with | some (.inl m) => m | _ => 0)
      .calendar w.1 w.2

/-- A GPIO pin by its name (R638). -/
def pinArg (t : String) : Arg (Fin 48) :=
  match t.toList with
  | 'P' :: p :: r =>
    match Name.index ["A", "B", "C"] (String.ofList [p]), Text.nat? r with
    | some g, some n => if n < 16 then .ok (Fin.ofNat 48 (16 * g + n)) else .error [120]
    | _, _ => .error [120]
  | _ => .error [120]

/-- An ADC channel by its name (R581). -/
def channelArg (t : String) : Arg (Fin 28) :=
  named 28 ((List.range 16).map (fun i => "AIN" ++ Text.dec i) ++ (List.range 8).map (fun i => "DIFF" ++ Text.dec i) ++
    ["TEMP", "VBAT", "VSTORE", "VCORE"]) t

end Sys2Proof.Machine
end

