-- ==== Sys2Proof/Machine/Console.lean ====
section
/-! DEFINITION. The command catalogue (R83) and the execution of a host line: the checks of R68 in their order, then the command's
meaning. -/

namespace Sys2Proof.Machine

/-- A meaning that waits for its state. -/
abbrev Act := State → Host.Outcome State Fault Refusal

/-- A command as a line names it: the facts the checks need, whether it has surplus or lacks positional arguments, its keys,
whether it needs one, whether its transport is allowed beside what `info` says (R282), whether it is `LIFE GO` (R84), and its
meaning. -/
structure Command where
  info : CmdInfo
  surplus : Bool
  missing : Bool
  keys : List String
  needKey : Bool
  transport : Bool
  lifeGo : Bool
  act : Arg Act

/-- What a verb and its object name (R68 step 5): nothing, or a command with its setting or action form and its query form. -/
inductive Found where
  | noObject
  | forms (setting query : Option Command)

/-- A command with from `min` to `max` positional arguments `r`, and keys. -/
def command (info : CmdInfo) (r : List String) (min max : Nat) (keys : List String) (act : Arg Act) : Command :=
  ⟨info, max < r.length, r.length < min, keys, false, true, false, act⟩

/-- As `command`, for a setting whose arguments are all keys (R58). -/
def keyCommand (info : CmdInfo) (r : List String) (keys : List String) (act : Arg Act) : Command :=
  { command info r 0 0 keys act with needKey := true }

/-- The query of a setting, with from `min` to `max` arguments that select it. -/
def askFor (x : Sess) (q : Setting) (r : List String) (min max : Nat) : Command :=
  command q.info r min max [] (.ok (execSettingQuery x q))

/-- A setting with the query of its value. -/
def setting (c q : Command) : Found := .forms (some c) (some q)

/-- An action, which has no query form (R83). -/
def action (c : Command) : Found := .forms (some c) none

/-- A query-only command. -/
def queryOnly (c : Command) : Found := .forms none (some c)

/-- Whether the first argument is a number, which names no object. -/
def numeric (r : List String) : Bool := (r.head?.bind fun t => t.toList.head?).any fun c => (Text.digit? c).isSome

/-- A query-only command without arguments. -/
def simpleQuery (info : CmdInfo) (r : List String) (act : Act) : Found :=
  queryOnly (command { info with query := true } r 0 0 [] (.ok act))

/-- One positional argument. -/
def one {α : Type} (f : String → Arg α) (r : List String) : Arg α := required f r[0]?

/-- Two positional arguments. -/
def two {α β : Type} (f : String → Arg α) (g : String → Arg β) (r : List String) : Arg (α × β) :=
  (required f r[0]?).both (required g r[1]?)

/-- The SYS group. -/
def sysGroup (x : Sess) (p : List String) : Found :=
  match p with
  | "VER" :: r => simpleQuery { sysCmd with scrapOk := true } r (execSysVerQuery x)
  | "ID" :: r => simpleQuery { sysCmd with scrapOk := true } r (execSysIdQuery x)
  | "MODE" :: r =>
    setting (command { sysCmd with notQuay := true } r 1 1 [] ((one (either "GENERATED" "TYPED") r).mapTo (execSysMode x)))
      (askFor x .sysMode r 0 0)
  | "CHECK" :: r =>
    setting (command sysCmd r 1 1 [] ((one (either "OFF" "ON") r).mapTo (execSysCheck x))) (askFor x .sysCheck r 0 0)
  | "BAUD" :: r =>
    setting (command { sysCmd with uart0Only := true } r 1 1 []
        ((one (fun t => if t == "AUTO" then .ok none else (whole 9600 4000000 t).mapTo fun v => some v.toNat) r).mapTo (execSysBaud x)))
      (askFor x .sysBaud r 0 0)
  | "NOTICE" :: r => setting (command sysCmd r 1 1 [] ((one (below 4) r).mapTo (execSysNotice x))) (askFor x .sysNotice r 0 0)
  | "STAT" :: r => simpleQuery sysCmd r (execSysStatQuery x)
  | "RESET" :: r => action (command sysCmd r 1 1 [] ((one (either "APP" "ALL") r).mapTo (execSysReset x)))
  | _ => .noObject

/-- `OWN` (R79, R81). -/
def ownGroup (x : Sess) (r : List String) : Found :=
  .forms
    (some (command {} r 2 2 [] ((two blockArg (fun t => (either "CONSOLE" "APP" t).mapTo fun b => if b then Side.app else Side.console) r).mapTo
      fun p => execOwn x p.1 p.2)))
    (some (command { query := true } r 0 1 [] ((optional blockArg r[0]?).mapTo (execOwnQuery x))))

/-- `LEVEL` (R80, R675). -/
def levelGroup (x : Sess) (r : List String) : Found :=
  let lvl := either "BASIC" "EXPERT"
  let set := match r with
    | [t] =>
      command {} r 1 2 [] (match blockArg t with | .ok _ => .error [111] | .error _ => (lvl t).mapTo (execLevelSession x))
    | _ =>
      let b := (one blockArg r).toOption
      command { block := b } r 1 2 [] ((two blockArg lvl r).mapTo fun p => execLevelBlock x p.1 p.2)
  setting set (command { query := true } r 0 1 [] ((optional blockArg r[0]?).mapTo fun b =>
    execSettingQuery x (match b with | some b => .levelBlock b | none => .level)))

/-- The domains by name. -/
def domainArg (t : String) : Arg (Fin 14) := named 14 ((List.range 14).map Name.domain) t

/-- The PWR group. -/
def pwrGroup (x : Sess) (p : List String) : Found :=
  let ex := { pwrCmd with expert := true }
  let ask := fun (q : Fin 14 → Setting) (r : List String) =>
    command { ex with query := true } r 1 1 [] ((one domainArg r).mapTo fun d => execSettingQuery x (q d))
  match p with
  | "POINT" :: r =>
    setting (command pwrCmd r 1 1 [] ((one (named 3 ["LOW", "NOMINAL", "HIGH"]) r).mapTo (execPwrPoint x))) (askFor x .pwrPoint r 0 0)
  | "PATH" :: r =>
    setting (command pwrCmd r 1 1 [] ((one (either "BATTERY" "HARVEST") r).mapTo (execPwrPath x))) (askFor x .pwrPath r 0 0)
  | "REG" :: r => setting (command pwrCmd r 1 1 [] ((one (either "BUCK" "LDO") r).mapTo (execPwrReg x))) (askFor x .pwrReg r 0 0)
  | "LEDGER" :: r => simpleQuery pwrCmd r (execPwrLedgerQuery x)
  | "DOMAIN" :: r =>
    setting (command ex r 2 2 [] ((two domainArg (either "OFF" "ON") r).mapTo fun v => execPwrDomain x v.1 v.2)) (ask .pwrDomain r)
  | "BIAS" :: r =>
    setting (command ex r 2 2 [] ((two domainArg (named 3 biasNames) r).mapTo fun v => execPwrBias x v.1 v.2)) (ask .pwrBias r)
  | _ => .noObject

/-- The NOTE group. -/
def noteGroup (x : Sess) (p : List String) : Found :=
  match p with
  | "SLEEP" :: r =>
    setting (command pwrCmd r 1 1 [] ((one (named 3 ["TOP", "HEART", "BASE"]) r).mapTo fun i =>
      execNoteSleep x ([SleepDepth.top, .heart, .base].getD i .top))) (askFor x .noteSleep r 0 0)
  | "RETAIN" :: r =>
    setting (command pwrCmd r 1 1 [] ((one retainArg r).mapTo fun v =>
      execNoteRetain x (BitVec.ofNat 24 v) (bitOf v 24) (bitOf v 25))) (askFor x .noteRetain r 0 0)
  | "WAKE" :: r => simpleQuery pwrCmd r (execNoteWakeQuery x)
  | "HIST" :: r => simpleQuery pwrCmd r (execNoteHistQuery x)
  | _ => .noObject

/-- An island by its number, 1 to 16. -/
def islandArg (t : String) : Arg (Fin 16) := (whole 1 16 t).mapTo fun v => Fin.ofNat 16 (v.toNat - 1)

/-- The CLK group (R400). -/
def clkGroup (x : Sess) (p : List String) (a : Args) : Found :=
  let ex := { clkCmd with expert := true }
  let ask := fun (q : Fin 16 → Setting) (r : List String) =>
    command { ex with query := true } r 1 1 [] ((one islandArg r).mapTo fun i => execSettingQuery x (q i))
  match p with
  | "SRC" :: r =>
    setting (command ex r 2 2 [] ((two islandArg (named 8 ((List.range 8).map Name.source)) r).mapTo fun v => execClkSrc x v.1 v.2))
      (ask .clkSrc r)
  | "GATE" :: r =>
    setting (command ex r 3 3 [] ((islandArg (r.getD 0 "")).both ((named 3 ["RUN", "SLP", "DSLP"] (r.getD 1 "")).both
      (either "OFF" "ON" (r.getD 2 ""))) |>.mapTo fun v => execClkGate x v.1 ([Gate.run, .slp, .dslp].getD v.2.1 .run) v.2.2))
      (ask .clkGate r)
  | "MON" :: r =>
    let src := one (named 3 monitorNames) r
    setting
      (command ex r 1 1 ["WINDOW"] ((src.both (required (whole 1 65535) (a.key "WINDOW"))).mapTo fun v =>
        execClkMon x v.1 (BitVec.ofInt 16 v.2)))
      (command { ex with query := true } r 1 1 [] (src.mapTo fun k => execSettingQuery x (.clkMon k)))
  | r =>
    if !a.query && !r.isEmpty && !numeric r then .noObject
    else queryOnly (command { clkCmd with query := true } r 0 1 [] ((optional islandArg r[0]?).mapTo (execClkQuery x)))

/-- The HARV group (R364, R366, R368). -/
def harvGroup (x : Sess) (p : List String) (a : Args) : Found :=
  match p with
  | "MPPT" :: r =>
    setting
      (keyCommand harvCmd r ["FRAC", "FIXED"]
        (match a.key "FRAC", a.key "FIXED" with
        | some t, none => (whole 10 90 t).mapTo fun v => execHarvMppt x false v.toNat
        | none, some t => (ranged .volt (rat 1 1) (rat 1 5) (rat 18 1) (rat 1 20) t).mapTo fun v => execHarvMppt x true v.toNat
        | none, none => .error [111]
        | some _, some _ => .error [112]))
      (askFor x .harvMppt r 0 0)
  | "XMIT" :: r =>
    setting (command harvCmd r 1 1 [] ((one (ranged .volt (rat 1 1) (rat 34 10) (rat 41 10) (rat 1 100)) r).mapTo fun v =>
      execHarvXmit x (Fin.ofNat 71 (v.toNat - 340)))) (askFor x .harvXmit r 0 0)
  | "OVP" :: r =>
    setting (command harvCmd r 1 1 [] ((one (fun t =>
        match Text.quantity .volt (rat 1 1) t.toList with
        | .error .badNumber => .error [122]
        | .error .badUnit => .error [121]
        | .ok v =>
          if v.num * 10 = 41 * v.den then .ok false else if v.num * 10 = 42 * v.den then .ok true else .error [120]) r).mapTo
      (execHarvOvp x))) (askFor x .harvOvp r 0 0)
  | "PERMIT" :: r => simpleQuery harvCmd r (execHarvPermitQuery x)
  | [] => simpleQuery harvCmd [] (execHarvQuery x)
  | _ => .noObject

/-- The GNSS group (R94, R96, R98, R119, R136). -/
def gnssGroup (x : Sess) (p : List String) (a : Args) : Found :=
  match p with
  | "MODE" :: r =>
    setting (command gnssCmd r 1 1 [] ((one (named 7 ((List.range 7).map modeName)) r).mapTo (execGnssMode x)))
      (askFor x .gnssMode r 0 0)
  | "BURST" :: r =>
    setting (keyCommand gnssCmd r ["PERIOD", "WINDOW"]
        (((optional (ranged .time (rat 1 1) (rat 1 1) (rat 60 1) (rat 1 1)) (a.key "PERIOD")).both
          (optional (ranged .time (rat 1 1000) (rat 8 1000) (rat 250 1000) (rat 1 1000)) (a.key "WINDOW"))).mapTo fun v =>
            execGnssBurst x (v.1.map Int.toNat) (v.2.map Int.toNat)))
      (askFor x .gnssBurst r 0 0)
  | "SNAP" :: r =>
    action (command { block := some .lookout, heritage := true } r 1 1 []
      ((one (ranged .time (rat 1 1000) (rat 2 1000) (rat 125 1000) (rat 1 1000)) r).mapTo fun v => execGnssSnap x v.toNat))
  | "AID" :: r =>
    action (keyCommand gnssCmd r ["POS", "TIME", "ACC"]
      (((optional posArg (a.key "POS")).both ((optional timeArg (a.key "TIME")).both
        (optional (ranged .dist (rat 1 1) (rat 0 1) (rat (10 ^ 20) 1) (rat 1 1000)) (a.key "ACC")))).mapTo fun v =>
          execGnssAid x ⟨v.1, v.2.1, v.2.2.map Int.toNat⟩))
  | "RESTART" :: r =>
    action (command gnssCmd r 1 1 [] ((one (named 3 ["COLD", "WARM", "HOT"]) r).mapTo fun i =>
      execGnssRestart x ([Restart.cold, .warm, .hot].getD i .cold)))
  | "FIX" :: r => simpleQuery { heritage := true } r (execGnssFixQuery x)
  | "STAT" :: r => simpleQuery gnssCmd r (execGnssStatQuery x)
  | _ => .noObject

/-- The PLAN group (R109, R120, R121). -/
def planGroup (x : Sess) (p : List String) (a : Args) : Found :=
  match p with
  | "SYS" :: r =>
    setting (command planCmd r 2 2 [] ((two (named 7 ((List.range 7).map sysName)) (either "OFF" "ON") r).mapTo fun v =>
      execPlanSys x v.1 v.2)) (askFor x .planSys r 0 0)
  | "ELEV" :: r =>
    setting (command planCmd r 1 1 [] ((one (whole 0 45) r).mapTo fun v => execPlanElev x v.toNat)) (askFor x .planElev r 0 0)
  | "ASSIGN" :: r =>
    action (command { planCmd with expert := true } r 3 3 []
      (((below 128 (r.getD 0 "")).both ((sigArg (r.getD 1 "")).both (below 256 (r.getD 2 "")))).mapTo fun v =>
        execPlanAssign x v.1 v.2.1 v.2.2))
  | r =>
    if !a.query && !r.isEmpty && !numeric r then .noObject
    else queryOnly (command { planCmd with query := true } r 0 1 [] ((optional (below 128) r[0]?).mapTo (execPlanQuery x)))

/-- The BERTH group (R186, R187): the berth's number comes before the object. -/
def berthGroup (x : Sess) (p : List String) (a : Args) : Found :=
  let n := one (below 256) p
  let info := match n with | .ok n => berthCmd n | .error _ => { expert := true }
  let ask := fun (q : Fin 256 → Setting) (r : List String) =>
    command { info with query := true } r 0 0 [] (n.mapTo fun n => execSettingQuery x (q n))
  match p.drop 1 with
  | [] => queryOnly (command { query := true } p 1 1 [] (n.mapTo (execBerthQuery x)))
  | "SPACING" :: r =>
    let v := fun k => optional (ranged .plain (rat 1 1) (rat 1 32) (rat 2 1) (rat 1 32)) (a.key k)
    setting (keyCommand info r ["EL", "VEVL"] ((n.both ((v "EL").both (v "VEVL"))).mapTo fun v =>
      execBerthSpacing x v.1 (v.2.1.map Int.toNat) (v.2.2.map Int.toNat))) (ask .berthSpacing r)
  | "LOOP" :: r =>
    let v := fun k hi den => optional (loopArg hi den) (a.key k)
    let keys := (n.both ((v "PLL" 120 4).both ((v "FLL" 80 4).both (v "DLL" 255 100)))).mapTo fun v =>
      execBerthLoop x v.1 v.2.1 v.2.2.1 v.2.2.2
    let set := match r with
      | [] => keyCommand info r ["PLL", "FLL", "DLL"] keys
      | t :: _ =>
        command info r 0 1 [] (if t == "OPEN" then n.mapTo fun n => execBerthLoop x n (some .open_) (some .open_) (some .open_)
          else .error [120])
    setting set (ask .berthLoop r)
  | _ => .noObject

/-- `MEAS?` (R246). -/
def measGroup (x : Sess) (r : List String) (a : Args) : Found :=
  let info : CmdInfo := { query := true, heritage := true }
  queryOnly (match a.key "BOND" with
    | some t => command { info with expert := true } r 0 0 ["BOND"] ((whole 1 1 t).mapTo fun _ => execMeasBondQuery x)
    | none => command info r 0 0 ["BOND"] (.ok (execMeasQuery x)))

/-- `BITS?` (R246). -/
def bitsGroup (x : Sess) (r : List String) : Found :=
  queryOnly (command { query := true, heritage := true } r 2 2 [] ((two satArg sigArg r).mapTo fun v => execBitsQuery x v.1 v.2))

/-- The NMEA group (R242). -/
def nmeaGroup (x : Sess) (p : List String) (a : Args) : Found :=
  match p with
  | "SET" :: r => setting (command nmeaCmd r 1 1 [] ((one nmeaArg r).mapTo (execNmeaSet x))) (askFor x .nmeaSet r 0 0)
  | "RATE" :: r =>
    setting (command nmeaCmd r 1 1 [] ((one (whole 1 60) r).mapTo fun v => execNmeaRate x v.toNat)) (askFor x .nmeaRate r 0 0)
  | r =>
    setting (command nmeaCmd r 1 1 ["PORT"] (((one (either "OFF" "ON") r).both
      (optional (named 3 ["UART0", "UART1", "I2C"]) (a.key "PORT"))).mapTo fun v =>
        execNmeaOnOff x v.1 (v.2.map fun i => [NmeaPort.uart0, .uart1, .i2c].getD i .uart0))) (askFor x .nmea r 0 0)

/-- The TIDE group (R295). -/
def tideGroup (x : Sess) (p : List String) (a : Args) : Found :=
  let ex := { tideCmd with expert := true }
  let gain := fun k => optional (ranged .plain (rat 1 1) (rat 0 1) (rat 65535 65536) (rat 1 65536)) (a.key k)
  match p with
  | [] => simpleQuery tideCmd [] (execTideQuery x)
  | "SRC" :: r =>
    setting (command tideCmd r 1 1 [] ((one (named 4 ((List.range 4).map tideSource)) r).mapTo (execTideSrc x))) (askFor x .tideSrc r 0 0)
  | "SCALE" :: r =>
    setting (command tideCmd r 1 1 [] ((one (named 6 ((List.range 6).map tideScale)) r).mapTo (execTideScale x)))
      (askFor x .tideScale r 0 0)
  | "LEAP" :: r =>
    setting (command tideCmd r 1 1 [] ((one (ranged .time (rat 1 1) (rat (-64) 1) (rat 64 1) (rat 1 1)) r).mapTo (execTideLeap x)))
      (askFor x .tideLeap r 0 0)
  | "RATE" :: r =>
    setting (command ex r 1 1 [] ((one (ranged .plain (rat 1 1000000) (rat (-5) 10000) (rat 5 10000) (rat 1 (2 ^ 40))) r).mapTo
      (execTideRate x))) (askFor x .tideRate r 0 0)
  | "LOOP" :: r =>
    setting
      (command ex r 0 1 ["KP", "KI"]
        (if r.isEmpty && a.keyed.isEmpty then .error [111]
        else ((gain "KP").both ((gain "KI").both (optional (either "CLOSED" "OPEN") r[0]?))).mapTo fun v =>
          execTideLoop x (v.1.map (BitVec.ofInt 16)) (v.2.1.map (BitVec.ofInt 16)) v.2.2))
      (askFor x .tideLoop r 0 0)
  | _ => .noObject

/-- The stamp that UART0 took of a line's start (R564), as a Tide time in 2^-32 s near the present. -/
def State.lineStamp (s : State) : Nat :=
  s.tide.now / 2 ^ 88 * 2 ^ 64 + s.get (F.UART_RXSTS_SEC 0) * 2 ^ 32 + (s.uart 0).rxFrac

/-- The TT group (R282, R283): while TT is on, its lines come from the session of the port. -/
def ttGroup (s : State) (x : Sess) (p : List String) (a : Args) : Found :=
  let right := !s.on F.TIDE_TTCFG_EN || (x == .uart0 && !s.on F.TIDE_TTCFG_PORT)
  let line := fun (r : List String) (n : Nat) (act : Arg Act) => action { command ttCmd r n n [] act with transport := right }
  let num := fun (r : List String) => (one (whole 0 65535) r).mapTo (BitVec.ofInt 16)
  match p with
  | "SYNC" :: r => line r 1 ((num r).mapTo fun n => execTtSync (some x) n s.lineStamp)
  | "FOLLOW" :: r =>
    line r 2 (((num r).both (timeArg (r.getD 1 ""))).mapTo fun v => execTtFollow (some x) v.1 v.2 (s.tide.now / 2 ^ 24))
  | "DRESP" :: r => line r 2 (((num r).both (timeArg (r.getD 1 ""))).mapTo fun v => execTtDresp (some x) v.1 v.2)
  | r =>
    setting (command ttCmd r 1 1 ["PORT"] (((one (either "OFF" "ON") r).both
      (optional (either "UART0" "UART1") (a.key "PORT"))).mapTo fun v => execTtOnOff x v.1 v.2))
      (command { ttCmd with query := true } r 0 0 [] (.ok (execTtQuery x)))

/-- The delay of `TP DELAY` in quarter-nanoseconds: a plain number of them, or a time (R294). -/
def delayArg (t : String) : Arg Int :=
  ranged .time (rat 1 4000000000) (rat (-536870912) 4000000000) (rat 536870911 4000000000) (rat 1 4000000000) t

/-- The TP group (R286 to R291). -/
def tpGroup (x : Sess) (p : List String) (a : Args) : Found :=
  match p with
  | "SET" :: r =>
    let period := optional (ranged .time (rat 1 1) (rat 1 1000000) (rat (2 ^ 32) 1) (rat 1 (2 ^ 32))) (a.key "PERIOD")
    let width := optional (ranged .time (rat 1 1) (rat 1 320000000) (rat (2 ^ 32 - 1) 320000000) (rat 1 320000000)) (a.key "WIDTH")
    setting
      (keyCommand tpCmd r ["PERIOD", "WIDTH", "POL", "SCALE"]
        ((period.both (width.both ((optional (either "POS" "NEG") (a.key "POL")).both
          (optional (named 8 ((List.range 8).map tideScale)) (a.key "SCALE"))))).mapTo fun v =>
            execTpSet x (v.1.map Int.toNat) (v.2.1.map Int.toNat) v.2.2.1 v.2.2.2))
      (askFor x .tpSet r 0 0)
  | "DELAY" :: r => setting (command tpCmd r 1 1 [] ((one delayArg r).mapTo (execTpDelay x))) (askFor x .tpDelay r 0 0)
  | "POLICY" :: r =>
    setting (command tpCmd r 1 1 [] ((one (either "STOP" "FLAG") r).mapTo (execTpPolicy x))) (askFor x .tpPolicy r 0 0)
  | r => setting (command tpCmd r 1 1 [] ((one (either "OFF" "ON") r).mapTo (execTpOnOff x))) (askFor x .tp r 0 0)

/-- The RTC group (R303, R308, R310, R311, R317, R322). -/
def rtcForms (s : State) (x : Sess) (p : List String) (a : Args) : Found :=
  match p with
  | "MODE" :: r =>
    setting (command rtcCmd r 1 1 [] ((one (either "BINARY" "CALENDAR") r).mapTo (execRtcMode x))) (askFor x .rtcMode r 0 0)
  | "SET" :: r =>
    setting
      (command rtcCmd r 1 1 ["AT"] (((one dateArg r).both (required (either "NOW" "SECOND") (a.key "AT"))).mapTo fun v =>
        execRtcSet x v.1.1 (v.1.2.map fracCount) v.2))
      (askFor x .rtcSet r 0 0)
  | "SHIFT" :: r =>
    action (command rtcCmd r 1 1 []
      ((one (ranged .time (rat 1 1) (rat (-999985) 1000000) (rat 999985 1000000) (rat 1 32768)) r).mapTo (execRtcShift x)))
  | "ALARM" :: r =>
    let k := (one (whole 1 2) r).mapTo fun v => Fin.ofNat 2 (v.toNat - 1)
    setting
      (command rtcCmd r 2 2 ["MASK"] ((k.both (alarmArg (s.on F.RTC_CTRL_MODE) (r.getD 1 "") (a.key "MASK"))).mapTo fun v =>
        execRtcAlarm x v.1 v.2))
      (command { rtcCmd with query := true } r 1 1 [] (k.mapTo fun k => execSettingQuery x (.rtcAlarm k)))
  | "TRICKLE" :: r =>
    setting
      (command rtcCmd r 1 1 ["DIODE"] (((one (named 4 trickleNames) r).both (optional (whole 0 1) (a.key "DIODE"))).mapTo fun v =>
        execRtcTrickle x v.1 (match v.2 with | some d => d == 1 | none => s.on F.RTC_CTRL_TRK_DIODE)))
      (askFor x .rtcTrickle r 0 0)
  | "OSF" :: "CLEAR" :: r => action (command rtcCmd r 0 0 [] (.ok (execRtcOsfClear x)))
  | "OSF" :: r => simpleQuery rtcCmd r (execRtcOsfQuery x)
  | _ => .noObject

/-- The LOG group (R506). -/
def logGroup (x : Sess) (p : List String) : Found :=
  match p with
  | [] => simpleQuery logCmd [] (execLogQuery x)
  | "READ" :: r =>
    action (command { logCmd with query := true } r 2 2 [] ((two (whole 0 131071) (whole 1 64) r).mapTo fun v =>
      execLogRead x v.1.toNat v.2.toNat))
  | "WRITE" :: r =>
    action (command { logCmd with expert := true } r 2 2 [] ((two (whole 0 131071) bytesArg r).mapTo fun v =>
      execLogWrite x v.1.toNat v.2))
  | "PROTECT" :: r =>
    setting (command logCmd r 1 1 [] ((one (named 4 protectNames) r).mapTo (execLogProtect x))) (askFor x .logProtect r 0 0)
  | "TALLY" :: r => queryOnly (command { logCmd with query := true } r 1 1 [] ((one (below 64) r).mapTo (execLogTallyQuery x)))
  | _ => .noObject

/-- The ADC group (R592). -/
def adcGroup (x : Sess) (p : List String) : Found :=
  match p with
  | "MODE" :: r => setting (command adcCmd r 1 1 [] ((one (named 4 adcModes) r).mapTo (execAdcMode x))) (askFor x .adcMode r 0 0)
  | "REF" :: r =>
    setting (command adcCmd r 2 2 [] ((two (either "INT" "EXT") (either "OFF" "ON") r).mapTo fun v => execAdcRef x v.1 v.2))
      (askFor x .adcRef r 0 0)
  | "READ" :: r => queryOnly (command { adcCmd with query := true } r 1 1 [] ((one channelArg r).mapTo (execAdcReadQuery x)))
  | _ => .noObject

/-- The TOUCH group (R607). -/
def touchGroup (x : Sess) (p : List String) : Found :=
  match p with
  | "MODE" :: r =>
    setting (command touchCmd r 1 1 [] ((one (named 4 touchModes) r).mapTo (execTouchMode x))) (askFor x .touchMode r 0 0)
  | "ONTIME" :: r =>
    setting (command touchCmd r 1 1 [] ((one (ranged .time (rat 1 1) (rat 1 1) (rat 300 1) (rat 1 1)) r).mapTo fun v =>
      execTouchOntime x v.toNat)) (askFor x .touchOntime r 0 0)
  | "TEST" :: r => action (command touchCmd r 0 0 [] (.ok (execTouchTest x)))
  | _ => .noObject

/-- The LGT group (R538, R548, R555): the engine's number comes before the object. -/
def lgtGroup (x : Sess) (p : List String) : Found :=
  let n := one (below 8) p
  let plain := fun (r : List String) (f : Fin 8 → Act) => action (command lgtCmd r 0 0 [] (n.mapTo f))
  match p.drop 1 with
  | [] => queryOnly (command { block := some .lgt, query := true } p 1 1 [] (n.mapTo (execLgtQuery x)))
  | "LOAD" :: r =>
    action (command lgtCmd r 2 9 [] ((n.both ((one (below 32) r).both (each (hexArg 8) (r.drop 1)))).mapTo fun v =>
      execLgtLoad x v.1 v.2.1 (v.2.2.map (BitVec.ofNat 32))))
  | "RUN" :: r => plain r (execLgtRun x)
  | "STOP" :: r => plain r (execLgtStop x)
  | "CLRSHIFT" :: r => plain r (execLgtClrshift x)
  | "DIV" :: r =>
    setting (command lgtCmd r 1 1 [] ((n.both (one (ranged .plain (rat 1 1) (rat 1 1) (rat 16777215 256) (rat 1 256)) r)).mapTo fun v =>
      execLgtDiv x v.1 v.2.toNat))
      (command { lgtCmd with query := true } r 0 0 [] (n.mapTo fun n => execSettingQuery x (.lgtDiv n)))
  | _ => .noObject

/-- The SIGN group (R623). -/
def signGroup (x : Sess) (p : List String) (a : Args) : Found :=
  match p with
  | "ATTEST" :: r => action (keyCommand signCmd r ["NONCE"] ((required bytesArg (a.key "NONCE")).mapTo (execSignAttest x)))
  | "FIX" :: r =>
    setting (command signCmd r 1 1 [] ((one (named 3 ["OFF", "ON", "NOW"]) r).mapTo fun i =>
      if i.val = 2 then execSignFixNow x else execSignFix x (i.val == 1))) (askFor x .signFix r 0 0)
  | "KEY" :: r => simpleQuery signCmd r (execSignKeyQuery x)
  | _ => .noObject

/-- The LIFE group (R84, R413, R416, R425). A code that is no four hexadecimal digits differs from the one in force. -/
def lifeGroup (s : State) (x : Sess) (p : List String) (a : Args) : Found :=
  match p with
  | [] => simpleQuery { lifeCmd with scrapOk := true } [] (execLifeQuery x)
  | "GO" :: r =>
    let code := (a.key "CONFIRM").bind fun t => if t.length = 4 then (Text.hexNat? t.toList).map (BitVec.ofNat 16) else none
    action { command lifeCmd r 1 1 ["CONFIRM"] ((one (named 6 ((List.range 6).map Name.life)) r).mapTo fun i =>
      execLifeGo x ([LifeState.blank, .test, .provisioned, .deployed, .returned, .scrapped].getD i .blank) code s.freeStrap) with
        lifeGo := true }
  | "IMAGE" :: "LOAD" :: r =>
    action (command lifeCmd r 2 2 [] ((two (either "UART0" "I2C") (whole 4100 2097152) r).mapTo fun v =>
      execLifeImageLoad x v.1 v.2.toNat))
  | "IMAGE" :: "COMMIT" :: r => action (command lifeCmd r 0 0 [] (.ok (execLifeImageCommit x)))
  | "IMAGE" :: [] => simpleQuery lifeCmd [] (execLifeImageQuery x)
  | _ => .noObject

/-- The TEST group. -/
def testGroup (x : Sess) (p : List String) : Found :=
  match p with
  | "MEM" :: r => action (command testCmd r 1 1 [] ((one (below 24) r).mapTo (execTestMem x)))
  | "RF" :: r =>
    action (command testCmd r 2 2 [] ((two (either "RFL1" "RFL5") (named 3 ["LNA", "MIX", "FULL"]) r).mapTo fun v =>
      execTestRf x v.1 ([RfStage.lna, .mix, .full].getD v.2 .lna)))
  | "PIN" :: r =>
    action (command testCmd r 2 2 [] ((two pinArg (named 3 ["0", "1", "Z"]) r).mapTo fun v =>
      execTestPin x v.1 ([PinLevel.low, .high, .z].getD v.2 .low)))
  | _ => .noObject

/-- The groups of the AXN4120 dialect (R86). -/
def dialectGroups : List String := ["SYS", "GNSS", "PLAN", "MEAS", "BITS", "NMEA", "TIDE", "TP", "RTC", "LOG", "LIFE"]

/-- What a verb names (R83): none for a verb that is no command group. -/
def State.catalogue (s : State) (x : Sess) (verb : String) (p : List String) (a : Args) : Option Found :=
  if s.console.heritage && !dialectGroups.contains verb then none
  else
    match verb with
    | "SYS" => some (sysGroup x p)
    | "OWN" => some (ownGroup x p)
    | "LEVEL" => some (levelGroup x p)
    | "PWR" => some (pwrGroup x p)
    | "NOTE" => some (noteGroup x p)
    | "CLK" => some (clkGroup x p a)
    | "HARV" => some (harvGroup x p a)
    | "GNSS" => some (gnssGroup x p a)
    | "PLAN" => some (planGroup x p a)
    | "BERTH" => some (berthGroup x p a)
    | "MEAS" => some (measGroup x p a)
    | "BITS" => some (bitsGroup x p)
    | "NMEA" => some (nmeaGroup x p a)
    | "TIDE" => some (tideGroup x p a)
    | "TT" => some (ttGroup s x p a)
    | "TP" => some (tpGroup x p a)
    | "RTC" => some (rtcForms s x p a)
    | "LOG" => some (logGroup x p)
    | "ADC" => some (adcGroup x p)
    | "TOUCH" => some (touchGroup x p)
    | "LGT" => some (lgtGroup x p)
    | "SIGN" => some (signGroup x p a)
    | "LIFE" => some (lifeGroup s x p a)
    | "TEST" => some (testGroup x p)
    | _ => none

/-- Steps 6 to 13 of R68 for a command. -/
def State.runCommand (s : State) (x : Sess) (c : Command) (a : Args) : Host.Outcome State Fault Refusal :=
  let late := fun (e : Nat) => .next ((if c.lifeGo then s.newCode else s).er x e)
  if c.surplus then .next (s.er x 103)
  else if !c.transport then .next (s.er x 140)
  else
    match s.precheck x c.info with
    | some e => .next (s.er x e)
    | none =>
      let unknown := if a.keyed.any (fun p => !c.keys.contains p.1) then [112] else []
      if c.missing || (c.needKey && a.keyed.isEmpty) then late 111
      else
        match c.act, unknown with
        | .error l, u => late (firstError (u ++ l))
        | .ok _, e :: _ => late e
        | .ok f, [] => f s

/-- A line after steps 1 to 4 of R68. -/
def State.runLine (s : State) (x : Sess) (a : Args) : Host.Outcome State Fault Refusal :=
  match a.pos with
  | [] => .next (s.er x 103)
  | verb :: p =>
    match s.catalogue x verb p a with
    | none => .next (s.er x 101)
    | some .noObject => .next (s.er x 110)
    | some (.forms set query) =>
      match (if a.query then query else set) with
      | none => .next (s.er x 103)
      | some c => s.runCommand x c a

/-- A line that lost its first character (R76): a `TT SYNC` line counts as a rejected exchange (R284 reason 6). -/
def State.lostLine (s : State) (x : Sess) (l : List Char) : State :=
  let s1 := s.er x 106
  match (Text.tokens (Text.upper l)).reverse with
  | n :: v :: _ =>
    if v == "SYNC".toList && s.on F.TIDE_TTCFG_EN && !s.on F.TIDE_TTCFG_PORT && x == .uart0 then
      s1.ttReject 6 ((Text.nat? n).getD 0 % 65536)
    else s1
  | _ => s1

/-- Whether a line is a no-op: empty, or of spaces alone (R62, R672). -/
def HostLine.blank (l : HostLine) : Bool := !l.bad && l.count ≤ 160 && (Text.tokens l.text).isEmpty

/-- A line at its turn, with its tag in force (R56, R62, R65 to R68, R76, R86). -/
def State.line (s : State) (x : Sess) (l : HostLine) : Host.Outcome State Fault Refusal :=
  let tag := tagOf l.text
  let split := splitCheck l.text
  let body := if tag.isSome then split.1.drop 6 else split.1
  if l.lost then .next (s.lostLine x l.text)
  else if l.blank then .next (if (s.sess x).typed then s.sendPrompt x else s)
  else if 160 < l.count then .next (s.er x 102)
  else if l.text.head? == some '@' && tag.isNone then .next (s.er x 107)
  else if !s.console.heritage && (match split.2 with | some v => v != Text.crc8 split.1 | none => (s.sess x).check) then
    .next (s.er x 104)
  else if l.bad || (s.console.heritage && split.2.isSome) then .next (s.er x 103)
  else
    match parseArgs body with
    | none => .next (s.er x 103)
    | some a => s.runLine x a

/-- The first line that may be taken: none while a command is still in execution or waits with its reply (R49, R75); a session
that takes image data takes no line (R413). -/
def State.nextLine (s : State) : Option (Sess × HostLine) :=
  if !s.executing.isEmpty || s.replyStalls then none
  else s.console.waiting.find? fun w => match s.life.load with | some d => d.sess != w.1 | none => true

/-- A line leaves the queue of waiting lines and becomes the one under way, with its tag. -/
def State.takeLine (s : State) (x : Sess) (l : HostLine) : State :=
  { s with console := { s.console with waiting := s.console.waiting.erase (x, l) } }.withTag ((tagOf l.text).getD "")

/-- COMMAND_EXECUTE (R49, R68): the line whose turn it is. -/
def execCommandExecute (s : State) : Host.Outcome State Fault Refusal :=
  match s.nextLine with
  | none => .next s
  | some (x, l) =>
    match (s.takeLine x l).line x l with
    | .next t => .next (t.withTag "")
    | o => o

end Sys2Proof.Machine
end

