-- ==== Sys2Proof/Machine/LoadStore.lean ====
section
/-! DEFINITION. Loads and stores, long and short (R427, R430, R432, R436, R437). -/

namespace Sys2Proof.Machine

/-- The address of a long access of `size` bytes, from the values of ra and rb (R436). -/
def AddrMode.address (am : AddrMode) (size : Nat) (ra rb : Word) : Word :=
  match am with
  | .imm i => ra + i.signExtend 32
  | .postInc _ => ra
  | .preDec k => ra - BitVec.ofNat 32 (size * 2 ^ k.val)
  | .index _ scale => ra + (rb <<< scale.val)

/-- What the base holds afterwards, where the mode updates it (R436). -/
def AddrMode.base (am : AddrMode) (size : Nat) (ra : Word) : Option Word :=
  match am with
  | .postInc k => some (ra + BitVec.ofNat 32 (size * 2 ^ k.val))
  | .preDec k => some (ra - BitVec.ofNat 32 (size * 2 ^ k.val))
  | _ => none

/-- The index register of a mode; g0 where it has none. -/
def AddrMode.indexReg : AddrMode → Reg
  | .index rb _ => rb
  | _ => 0

/-- Whether a mode updates its base. -/
def AddrMode.updates : AddrMode → Bool
  | .postInc _ | .preDec _ => true
  | _ => false

/-- The value that a load makes of the bytes it read. -/
def loaded (sign : Bool) (l : List Byte) : Word :=
  let v := leNat l
  if sign then BitVec.ofInt 32 (signed (8 * l.length) v) else BitVec.ofNat 32 v

/-- The base update, if any. -/
def State.updateBase (s : State) (c : CoreId) (ra : Nat) (b : Option Word) : State :=
  match b with
  | some v => s.result c ra 1 0 false v
  | none => s

/-- One load at an address by a word or a slot of it: a misaligned one raises exception 3 (R427); the result comes at
distance 3. A paired word goes on to its slot B. -/
def State.loadAt (s : State) (c : CoreId) (size : Nat) (sign : Bool) (rt ra : Nat) (a : Word) (base : Option Word) (sl : Slot) :
    State :=
  if a.toNat % size ≠ 0 then s.misaligned c a
  else
    let r := s.busRead c.master a.toNat size
    s.afterAccess c r.st fun t => ((t.updateBase c ra base).result c rt 0 3 false (loaded sign r.bytes)).endSlot c sl

/-- One store at an address. -/
def State.storeAt (s : State) (c : CoreId) (size : Nat) (v : Word) (ra : Nat) (a : Word) (base : Option Word) (sl : Slot) : State :=
  if a.toNat % size ≠ 0 then s.misaligned c a
  else
    let r := s.busWrite c.master a.toNat (leBytes size v.toNat)
    s.afterAccess c r.st fun t => (t.updateBase c ra base).endSlot c sl

/-- A long load (R430). -/
def State.load (s : State) (c : CoreId) (size : Nat) (sign : Bool) (rt ra : Reg) (am : AddrMode) : State :=
  s.word c fun t =>
    if am.updates && rt == ra then t.illegal c
    else
      let x := t.reg c ra 0
      t.loadAt c size sign rt ra (am.address size x (t.reg c am.indexReg 1)) (am.base size x) .b

/-- A long store (R430). -/
def State.store (s : State) (c : CoreId) (size : Nat) (rt ra : Reg) (am : AddrMode) : State :=
  s.word c fun t =>
    if am.updates && rt == ra then t.illegal c
    else
      let x := t.reg c ra 0
      t.storeAt c size (t.reg c rt 2) ra (am.address size x (t.reg c am.indexReg 1)) (am.base size x) .b

/-- LDB. -/
def execLdb (c : CoreId) (rt ra : Reg) (am : AddrMode) (s : State) : Host.Outcome State Fault Refusal :=
  .next (s.load c 1 true rt ra am)

/-- LDBU. -/
def execLdbu (c : CoreId) (rt ra : Reg) (am : AddrMode) (s : State) : Host.Outcome State Fault Refusal :=
  .next (s.load c 1 false rt ra am)

/-- LDH. -/
def execLdh (c : CoreId) (rt ra : Reg) (am : AddrMode) (s : State) : Host.Outcome State Fault Refusal :=
  .next (s.load c 2 true rt ra am)

/-- LDHU. -/
def execLdhu (c : CoreId) (rt ra : Reg) (am : AddrMode) (s : State) : Host.Outcome State Fault Refusal :=
  .next (s.load c 2 false rt ra am)

/-- LDW. -/
def execLdw (c : CoreId) (rt ra : Reg) (am : AddrMode) (s : State) : Host.Outcome State Fault Refusal :=
  .next (s.load c 4 false rt ra am)

/-- STB. -/
def execStb (c : CoreId) (rt ra : Reg) (am : AddrMode) (s : State) : Host.Outcome State Fault Refusal :=
  .next (s.store c 1 rt ra am)

/-- STH. -/
def execSth (c : CoreId) (rt ra : Reg) (am : AddrMode) (s : State) : Host.Outcome State Fault Refusal :=
  .next (s.store c 2 rt ra am)

/-- STW. -/
def execStw (c : CoreId) (rt ra : Reg) (am : AddrMode) (s : State) : Host.Outcome State Fault Refusal :=
  .next (s.store c 4 rt ra am)

/-- The first operand of a slot. -/
def Slot.first : Slot → Nat
  | .a => 0
  | .b => 2

/-- A short load of `size` bytes at ra + size * off (R432). -/
def State.shortLoad (s : State) (c : CoreId) (sl : Slot) (size : Nat) (rt ra : SReg) (off : Fin 4) : State :=
  s.slot c sl fun t => t.loadAt c size false rt ra (t.reg c ra sl.first + BitVec.ofNat 32 (size * off.val)) none sl

/-- A short store. -/
def State.shortStore (s : State) (c : CoreId) (sl : Slot) (size : Nat) (rt ra : SReg) (off : Fin 4) : State :=
  s.slot c sl fun t =>
    t.storeAt c size (t.reg c rt (sl.first + 1)) ra (t.reg c ra sl.first + BitVec.ofNat 32 (size * off.val)) none sl

/-- SHORT_LDW. -/
def execShortLdw (c : CoreId) (sl : Slot) (rt ra : SReg) (off : Fin 4) (s : State) : Host.Outcome State Fault Refusal :=
  .next (s.shortLoad c sl 4 rt ra off)

/-- SHORT_LDBU. -/
def execShortLdbu (c : CoreId) (sl : Slot) (rt ra : SReg) (off : Fin 4) (s : State) : Host.Outcome State Fault Refusal :=
  .next (s.shortLoad c sl 1 rt ra off)

/-- SHORT_STW. -/
def execShortStw (c : CoreId) (sl : Slot) (rt ra : SReg) (off : Fin 4) (s : State) : Host.Outcome State Fault Refusal :=
  .next (s.shortStore c sl 4 rt ra off)

/-- SHORT_STB. -/
def execShortStb (c : CoreId) (sl : Slot) (rt ra : SReg) (off : Fin 4) (s : State) : Host.Outcome State Fault Refusal :=
  .next (s.shortStore c sl 1 rt ra off)

/-- LDWP: the word at ra is loaded, and ra grows by 4; rt = ra is illegal (R437). -/
def execLdwp (c : CoreId) (sl : Slot) (rt ra : SReg) (s : State) : Host.Outcome State Fault Refusal :=
  .next <| s.slot c sl fun t =>
    if rt == ra then t.illegal c
    else
      let x := t.reg c ra sl.first
      t.loadAt c 4 false rt ra x (some (x + 4)) sl

/-- STWM: ra shrinks by 4, and the word is stored there. -/
def execStwm (c : CoreId) (sl : Slot) (rt ra : SReg) (s : State) : Host.Outcome State Fault Refusal :=
  .next <| s.slot c sl fun t =>
    if rt == ra then t.illegal c
    else
      let x := t.reg c ra sl.first
      t.storeAt c 4 (t.reg c rt (sl.first + 1)) ra (x - 4) (some (x - 4)) sl

end Sys2Proof.Machine
end

