-- ==== Sys2Proof/Machine/Control.lean ====
section
/-! DEFINITION. Control transfer, special registers, FENCE, WAIT, ERET and TRAP (R430, R432, R433, R438, R439, R445, R451, R452,
R454). -/

namespace Sys2Proof.Machine

/-- Where a transfer by `disp` words goes (R438). -/
def State.target (s : State) (c : CoreId) (w : Nat) (disp : BitVec w) : Word := (s.core c).pc + (disp.signExtend 32 <<< 2)

/-- A transfer of control in a delay slot is illegal (R439). -/
def State.transfer (s : State) (c : CoreId) (body : State → State) : State :=
  if (s.core c).delay.isSome then s.illegal c else body s

/-- The word that follows the delay slot of a branch that is not taken. -/
def State.past (s : State) (c : CoreId) : Word := (s.core c).pc + 8

/-- Reads pass, then the word ends with its transfer. -/
def State.go (s : State) (c : CoreId) (target : Word) : State := ({ s with free := s.free + 4 } : State).endTransfer c target

/-- A long branch on a comparison of ra with rb (R430). -/
def State.branch (s : State) (c : CoreId) (cond : Word → Word → Bool) (ra rb : Reg) (disp : BitVec 15) : State :=
  s.word c fun t => t.transfer c fun u =>
    u.go c (if cond (u.reg c ra 0) (u.reg c rb 1) then u.target c 15 disp else u.past c)

/-- BEQ. -/
def execBeq (c : CoreId) (ra rb : Reg) (disp : BitVec 15) (s : State) : Host.Outcome State Fault Refusal :=
  .next (s.branch c (· == ·) ra rb disp)

/-- BNE. -/
def execBne (c : CoreId) (ra rb : Reg) (disp : BitVec 15) (s : State) : Host.Outcome State Fault Refusal :=
  .next (s.branch c (· != ·) ra rb disp)

/-- BLT. -/
def execBlt (c : CoreId) (ra rb : Reg) (disp : BitVec 15) (s : State) : Host.Outcome State Fault Refusal :=
  .next (s.branch c BitVec.slt ra rb disp)

/-- BGE. -/
def execBge (c : CoreId) (ra rb : Reg) (disp : BitVec 15) (s : State) : Host.Outcome State Fault Refusal :=
  .next (s.branch c (fun x y => !x.slt y) ra rb disp)

/-- BLTU. -/
def execBltu (c : CoreId) (ra rb : Reg) (disp : BitVec 15) (s : State) : Host.Outcome State Fault Refusal :=
  .next (s.branch c BitVec.ult ra rb disp)

/-- BGEU. -/
def execBgeu (c : CoreId) (ra rb : Reg) (disp : BitVec 15) (s : State) : Host.Outcome State Fault Refusal :=
  .next (s.branch c (fun x y => !x.ult y) ra rb disp)

/-- JMP. -/
def execJmp (c : CoreId) (disp : BitVec 25) (s : State) : Host.Outcome State Fault Refusal :=
  .next <| s.word c fun t => t.transfer c fun u => u.go c (u.target c 25 disp)

/-- CALL: g31 takes the address past the delay slot. -/
def execCall (c : CoreId) (disp : BitVec 25) (s : State) : Host.Outcome State Fault Refusal :=
  .next <| s.word c fun t => t.transfer c fun u => (u.result c 31 0 0 false (u.past c)).go c (u.target c 25 disp)

/-- JRL: a target that is not at a multiple of 4 raises exception 3, and the link is not written (R438). -/
def execJrl (c : CoreId) (rd ra : Reg) (imm : BitVec 15) (s : State) : Host.Outcome State Fault Refusal :=
  .next <| s.word c fun t => t.transfer c fun u =>
    let a := u.reg c ra 0 + imm.signExtend 32
    if a.toNat % 4 ≠ 0 then u.misaligned c a else (u.result c rd 0 0 false (u.past c)).go c a

/-- A short transfer, in slot B (R433). -/
def State.shortTransfer (s : State) (c : CoreId) (body : State → State) : State := s.slot c .b fun t => t.transfer c body

/-- BR. -/
def execBr (c : CoreId) (disp : BitVec 10) (s : State) : Host.Outcome State Fault Refusal :=
  .next (s.shortTransfer c fun u => u.go c (u.target c 10 disp))

/-- BZ. -/
def execBz (c : CoreId) (rs : SReg) (disp : BitVec 6) (s : State) : Host.Outcome State Fault Refusal :=
  .next (s.shortTransfer c fun u => u.go c (if u.reg c rs 2 = 0 then u.target c 6 disp else u.past c))

/-- BNZ. -/
def execBnz (c : CoreId) (rs : SReg) (disp : BitVec 6) (s : State) : Host.Outcome State Fault Refusal :=
  .next (s.shortTransfer c fun u => u.go c (if u.reg c rs 2 = 0 then u.past c else u.target c 6 disp))

/-- JR. -/
def execJr (c : CoreId) (rs : SReg) (s : State) : Host.Outcome State Fault Refusal :=
  .next <| s.shortTransfer c fun u =>
    let a := u.reg c rs 2
    if a.toNat % 4 ≠ 0 then u.misaligned c a else u.go c a

/-- RET. -/
def execRet (c : CoreId) (s : State) : Host.Outcome State Fault Refusal :=
  .next <| s.shortTransfer c fun u =>
    let a := u.reg c 31 2
    if a.toNat % 4 ≠ 0 then u.misaligned c a else u.go c a

/-- FENCE (R454): every earlier access of the core has completed, so the word only takes its place. -/
def execFence (c : CoreId) (s : State) : Host.Outcome State Fault Refusal := .next (s.word c fun t => t.endWord c)

/-- SHORT_FENCE. -/
def execShortFence (c : CoreId) (sl : Slot) (s : State) : Host.Outcome State Fault Refusal :=
  .next (s.slot c sl fun t => t.endSlot c sl)

/-- WAIT (R452): results in flight complete, and the core enters Doze. -/
def execWait (c : CoreId) (s : State) : Host.Outcome State Fault Refusal :=
  .next <| s.word c fun t =>
    let u := (t.setCore c (t.core c).complete).endWord c
    u.setCore c { u.core c with doze := true }

/-- ERET (R451). -/
def execEret (c : CoreId) (s : State) : Host.Outcome State Fault Refusal :=
  .next <| s.word c fun t => t.transfer c fun u =>
    let k := (u.core c).complete
    (u.setCore c (((k.putSpecial 0 (k.special 2)).cycles u.free).at (k.special 1))).spend

/-- TRAP (R430, R448): exception 5, with EPC past the word and EADDR the sign-extended code. -/
def execTrap (c : CoreId) (imm : BitVec 15) (s : State) : Host.Outcome State Fault Refusal :=
  .next <| s.word c fun t => t.enter c 5 (t.core c).follow (some (imm.signExtend 32))

/-- A special register as MFS reads it (R445). -/
def Core.readSpecial (k : Core) (c : CoreId) (r : Nat) : Word :=
  match r with
  | 6 => BitVec.ofNat 32 k.cycle
  | 7 => k.cycleHi
  | 8 => match c with | .app => 0 | .sys => 1
  | _ => if r < 11 then k.special r else 0

/-- MFS: a read in the window of an MTS returns either value (R441); reading CYCLE_LO captures CYCLE_HI. -/
def execMfs (c : CoreId) (rd : Reg) (sr : Fin 32) (s : State) : Host.Outcome State Fault Refusal :=
  .next <| s.word c fun t =>
    let k := t.core c
    let old := k.readSpecial c sr
    let v := match (k.flight.filter (·.dest == 32 + sr.val)).getLast? with
      | some e => if Config.windowNew t.free then specialKeeps sr old e.value else old
      | none => old
    let u := if sr.val = 6 then t.setCore c { k with cycleHi := BitVec.ofNat 32 (k.cycle / 2 ^ 32) } else t
    (u.result c rd 0 0 false v).endSlot c .b

/-- MTS: the value is read, and acts, from position 3 (R440). -/
def execMts (c : CoreId) (sr : Fin 32) (ra : Reg) (s : State) : Host.Outcome State Fault Refusal :=
  .next <| s.word c fun t => (t.result c (32 + sr.val) 1 2 false (t.reg c ra 0)).endSlot c .b

end Sys2Proof.Machine
end

