-- ==== Sys2Proof/Machine/Dma.lean ====
section
/-! DEFINITION. The DMA channels: requests, units, the ends of a block, and the receive timeout of a UART (R565, R575, R576). -/

namespace Sys2Proof.Machine

/-- The bytes of a unit (R575). -/
def State.unitBytes (s : State) (k : Nat) : Nat :=
  match s.get (F.DMA_CFG_SIZE k) with | 0 => 1 | 1 => 2 | 2 => 4 | _ => 16

/-- Whether the request of a channel is asserted (R567, R575, R585). -/
def State.requested (s : State) (k : Nat) : Bool :=
  let rx := fun u => s.on (F.UART_CFG_RXDMA u) && !(s.uart u).rx.isEmpty
  let tx := fun u => s.on (F.UART_CFG_TXDMA u) && (s.uart u).tx.length < 16
  match s.get (F.DMA_CFG_REQ k) with
  | 0 => true
  | 1 => rx 1
  | 2 => tx 1
  | 3 => rx 2
  | 4 => tx 2
  | 5 => !s.i2ct.rx.isEmpty
  | 6 => s.i2ct.tx.length < 8
  | 7 => !(s.spi 0).rx.isEmpty
  | 8 => (s.spi 0).tx.length < 8
  | 9 => !(s.spi 1).rx.isEmpty
  | 10 => (s.spi 1).tx.length < 8
  | 11 => s.powered 10 && s.get F.ADC_FIFOTH_TH ≤ s.adc.fifo.length
  | 12 => (s.dmaCh k).trig
  | _ => false

/-- The end of a block (R478, R576): the completion record, its producer, and the reload of a ring. -/
def State.endBlock (s : State) (k : Nat) : State :=
  let c := s.dmaCh k
  let w2 := c.moved % 65536 + 0x10000 * s.get (F.DMA_STAT_UE k) + 0x20000 * s.get (F.DMA_STAT_BUSERR k) +
    0x40000 * s.get (F.DMA_STAT_FLUSHED k)
  let s1 := if s.on (F.DMA_CFG_RING k) && !s.on (F.DMA_STAT_BUSERR k) then s.startDma k else s.put (F.DMA_CFG_EN k) 0
  (s1.raise (Src.DMA_CH0 + k) w2 (c.dst % 2 ^ 32)).fire (48 + k)

/-- The next address of a channel. -/
def nextAddr (a n : Nat) (inc : Bool) : Nat := if inc then (a + n) % 2 ^ 32 else a

/-- A channel moves one unit (R575, R576); a block of no units ends at once. -/
def State.moveUnit (s : State) (k : Fin 8) : State :=
  let c := s.dmaCh k
  let n := s.unitBytes k
  let r := s.busRead (.dma k) (c.src / n * n) n
  let s1 := if r.ue then r.st.put (F.DMA_STAT_UE k) 1 else r.st
  if c.cnt ≤ c.moved then s.endBlock k
  else if r.err then (s1.put (F.DMA_STAT_BUSERR k) 1).endBlock k
  else
    let w := s1.busWrite (.dma k) (c.dst / n * n) r.bytes
    if w.err then (w.st.put (F.DMA_STAT_BUSERR k) 1).endBlock k
    else if !w.st.on (F.DMA_CFG_EN k) then w.st
    else
      let d := { c with
        src := nextAddr c.src n (s.on (F.DMA_CFG_SINC k))
        dst := nextAddr c.dst n (s.on (F.DMA_CFG_DINC k))
        moved := c.moved + 1
        trig := false }
      let t := (w.st.setDma k d).put (F.DMA_STAT_LEFT k) (c.cnt - d.moved)
      if c.cnt ≤ d.moved then t.endBlock k else t

/-- DMA_START (R575, R576): a write of START by a side; one to a channel that runs starts nothing. -/
def execDmaStart (side : Side) (k : Fin 8) (s : State) : Host.Outcome State Fault Refusal :=
  .next <| s.access .dma (0x10C + 0x20 * k.val) side.master true fun t =>
    t.byOwner .dma (0x10C + 0x20 * k.val) side fun u => if u.on (F.DMA_CFG_EN k) then u else u.startDma k

/-- DMA_REQUEST_UNIT (R575): while its request is asserted, the channel moves one unit. -/
def execDmaRequestUnit (k : Fin 8) (s : State) : Host.Outcome State Fault Refusal :=
  .next (if s.powered 8 && s.on (F.DMA_CFG_EN k) && s.requested k then s.moveUnit k else s)

/-- The RX FIFO is emptied to a channel. -/
def State.emptyTo (u : Nat) (k : Fin 8) : Nat → State → State
  | 0, s => s
  | n + 1, s =>
    if s.on (F.DMA_CFG_EN k) && !(s.uart u).rx.isEmpty then State.emptyTo u k n (s.moveUnit k) else s

/-- UART_RX_TIMEOUT (R565): an idle line of RXTO bit times. With no channel on the port's request, nothing takes the FIFO and
the timeout is reported alone (DESIGN CHOICE). -/
def execUartRxTimeout (u : Fin 3) (s : State) : Host.Outcome State Fault Refusal :=
  .next <|
    if u == 0 || !s.powered 8 || !s.on (F.UART_CFG_RXDMA u) || s.get (F.UART_TIMING_RXTO u) == 0 then s
    else
      let mine := (List.finRange 8).find? fun (k : Fin 8) => s.on (F.DMA_CFG_EN k) && s.get (F.DMA_CFG_REQ k) == 2 * u.val - 1
      match mine with
      | none => if (s.uart u).rx.isEmpty then s else s.raise0 (Src.uart u 2)
      | some k =>
        if (s.uart u).rx.isEmpty && (s.dmaCh k).moved == 0 then s
        else
          let t := State.emptyTo u k 16 s
          let t1 := if t.on (F.DMA_CFG_EN k) && (t.dmaCh k).moved != 0 then (t.put (F.DMA_STAT_FLUSHED k) 1).endBlock k else t
          t1.raise0 (Src.uart u 2)

end Sys2Proof.Machine
end

