-- ==== Sys2Proof/Machine/Dispatch.lean ====
section
/-! DEFINITION. The dispatch of the commands: one arm per row of the table, each a direct call of its meaning. -/

namespace Sys2Proof.Machine

def exec (i : Instr) (s : State) : Host.Outcome State Fault Refusal :=
  match i with
  | .registerWrite m addr lanes value => Sys2Proof.Machine.execRegisterWrite m addr lanes value s
  | .readClear m addr => Sys2Proof.Machine.execReadClear m addr s
  | .sysctlOwnWrite value => Sys2Proof.Machine.execSysctlOwnWrite value s
  | .ownershipChange b => Sys2Proof.Machine.execOwnershipChange b s
  | .levelWrite side b expert => Sys2Proof.Machine.execLevelWrite side b expert s
  | .levelChange b => Sys2Proof.Machine.execLevelChange b s
  | .consoleCharacter x c flagged => Sys2Proof.Machine.execConsoleCharacter x c flagged s
  | .backspace x => Sys2Proof.Machine.execBackspace x s
  | .ctrlC x => Sys2Proof.Machine.execCtrlC x s
  | .lineTerminator x => Sys2Proof.Machine.execLineTerminator x s
  | .commandExecute => Sys2Proof.Machine.execCommandExecute s
  | .outputRoom x => Sys2Proof.Machine.execOutputRoom x s
  | .autobaudCharacter c rate => Sys2Proof.Machine.execAutobaudCharacter c rate s
  | .baudChange => Sys2Proof.Machine.execBaudChange s
  | .modeChange x => Sys2Proof.Machine.execModeChange x s
  | .quayGo => Sys2Proof.Machine.execQuayGo s
  | .quayBreak => Sys2Proof.Machine.execQuayBreak s
  | .quayLineCopy => Sys2Proof.Machine.execQuayLineCopy s
  | .quayRtailWrite value => Sys2Proof.Machine.execQuayRtailWrite value s
  | .settingQuery x q => Sys2Proof.Machine.execSettingQuery x q s
  | .sysVerQuery x => Sys2Proof.Machine.execSysVerQuery x s
  | .sysIdQuery x => Sys2Proof.Machine.execSysIdQuery x s
  | .sysMode x typed => Sys2Proof.Machine.execSysMode x typed s
  | .sysCheck x on => Sys2Proof.Machine.execSysCheck x on s
  | .sysBaud x rate => Sys2Proof.Machine.execSysBaud x rate s
  | .sysNotice x cls => Sys2Proof.Machine.execSysNotice x cls s
  | .sysStatQuery x => Sys2Proof.Machine.execSysStatQuery x s
  | .sysReset x all => Sys2Proof.Machine.execSysReset x all s
  | .own x b owner => Sys2Proof.Machine.execOwn x b owner s
  | .ownQuery x b => Sys2Proof.Machine.execOwnQuery x b s
  | .levelSession x expert => Sys2Proof.Machine.execLevelSession x expert s
  | .levelBlock x b expert => Sys2Proof.Machine.execLevelBlock x b expert s
  | .pwrPoint x p => Sys2Proof.Machine.execPwrPoint x p s
  | .pwrPath x harvest => Sys2Proof.Machine.execPwrPath x harvest s
  | .pwrReg x ldo => Sys2Proof.Machine.execPwrReg x ldo s
  | .pwrLedgerQuery x => Sys2Proof.Machine.execPwrLedgerQuery x s
  | .pwrDomain x d on => Sys2Proof.Machine.execPwrDomain x d on s
  | .pwrBias x d bias => Sys2Proof.Machine.execPwrBias x d bias s
  | .noteSleep x depth => Sys2Proof.Machine.execNoteSleep x depth s
  | .noteRetain x banks itcm dtcm => Sys2Proof.Machine.execNoteRetain x banks itcm dtcm s
  | .noteWakeQuery x => Sys2Proof.Machine.execNoteWakeQuery x s
  | .noteHistQuery x => Sys2Proof.Machine.execNoteHistQuery x s
  | .clkQuery x island => Sys2Proof.Machine.execClkQuery x island s
  | .clkSrc x island src => Sys2Proof.Machine.execClkSrc x island src s
  | .clkGate x island gate on => Sys2Proof.Machine.execClkGate x island gate on s
  | .clkMon x k window => Sys2Proof.Machine.execClkMon x k window s
  | .harvQuery x => Sys2Proof.Machine.execHarvQuery x s
  | .harvMppt x fixed value => Sys2Proof.Machine.execHarvMppt x fixed value s
  | .harvXmit x level => Sys2Proof.Machine.execHarvXmit x level s
  | .harvOvp x high => Sys2Proof.Machine.execHarvOvp x high s
  | .harvPermitQuery x => Sys2Proof.Machine.execHarvPermitQuery x s
  | .gnssMode x m => Sys2Proof.Machine.execGnssMode x m s
  | .gnssModeRegisterWrite side m => Sys2Proof.Machine.execGnssModeRegisterWrite side m s
  | .gnssModeDone => Sys2Proof.Machine.execGnssModeDone s
  | .gnssBurst x period window => Sys2Proof.Machine.execGnssBurst x period window s
  | .gnssSnap x ms => Sys2Proof.Machine.execGnssSnap x ms s
  | .gnssAid x a => Sys2Proof.Machine.execGnssAid x a s
  | .gnssRestart x kind => Sys2Proof.Machine.execGnssRestart x kind s
  | .restartApply => Sys2Proof.Machine.execRestartApply s
  | .gnssFixQuery x => Sys2Proof.Machine.execGnssFixQuery x s
  | .gnssStatQuery x => Sys2Proof.Machine.execGnssStatQuery x s
  | .planSys x sys on => Sys2Proof.Machine.execPlanSys x sys on s
  | .planElev x deg => Sys2Proof.Machine.execPlanElev x deg s
  | .planQuery x slot => Sys2Proof.Machine.execPlanQuery x slot s
  | .planAssign x slot sig berth => Sys2Proof.Machine.execPlanAssign x slot sig berth s
  | .berthQuery x n => Sys2Proof.Machine.execBerthQuery x n s
  | .berthSpacing x n el vevl => Sys2Proof.Machine.execBerthSpacing x n el vevl s
  | .berthLoop x n pll fll dll => Sys2Proof.Machine.execBerthLoop x n pll fll dll s
  | .measQuery x => Sys2Proof.Machine.execMeasQuery x s
  | .measBondQuery x => Sys2Proof.Machine.execMeasBondQuery x s
  | .bitsQuery x v sig => Sys2Proof.Machine.execBitsQuery x v sig s
  | .nmeaOnOff x on port => Sys2Proof.Machine.execNmeaOnOff x on port s
  | .nmeaSet x set => Sys2Proof.Machine.execNmeaSet x set s
  | .nmeaRate x n => Sys2Proof.Machine.execNmeaRate x n s
  | .tideQuery x => Sys2Proof.Machine.execTideQuery x s
  | .tideSrc x src => Sys2Proof.Machine.execTideSrc x src s
  | .tideScale x scale => Sys2Proof.Machine.execTideScale x scale s
  | .tideLeap x leap => Sys2Proof.Machine.execTideLeap x leap s
  | .tideRate x adj => Sys2Proof.Machine.execTideRate x adj s
  | .tideLoop x kp ki isOpen => Sys2Proof.Machine.execTideLoop x kp ki isOpen s
  | .ttOnOff x on uart1 => Sys2Proof.Machine.execTtOnOff x on uart1 s
  | .ttSync x n t2 => Sys2Proof.Machine.execTtSync x n t2 s
  | .ttFollow x n t1 t3 => Sys2Proof.Machine.execTtFollow x n t1 t3 s
  | .ttDresp x n t4 => Sys2Proof.Machine.execTtDresp x n t4 s
  | .ttExchangeTimeout => Sys2Proof.Machine.execTtExchangeTimeout s
  | .ttQuery x => Sys2Proof.Machine.execTtQuery x s
  | .tpOnOff x on => Sys2Proof.Machine.execTpOnOff x on s
  | .tpSet x period width neg scale => Sys2Proof.Machine.execTpSet x period width neg scale s
  | .tpDelay x quarters => Sys2Proof.Machine.execTpDelay x quarters s
  | .tpPolicy x flag => Sys2Proof.Machine.execTpPolicy x flag s
  | .rtcMode x calendar => Sys2Proof.Machine.execRtcMode x calendar s
  | .rtcSet x d frac atSecond => Sys2Proof.Machine.execRtcSet x d frac atSecond s
  | .rtcShift x count => Sys2Proof.Machine.execRtcShift x count s
  | .rtcAlarm x k a => Sys2Proof.Machine.execRtcAlarm x k a s
  | .rtcTrickle x res diode => Sys2Proof.Machine.execRtcTrickle x res diode s
  | .rtcOsfQuery x => Sys2Proof.Machine.execRtcOsfQuery x s
  | .rtcOsfClear x => Sys2Proof.Machine.execRtcOsfClear x s
  | .logQuery x => Sys2Proof.Machine.execLogQuery x s
  | .logRead x addr length => Sys2Proof.Machine.execLogRead x addr length s
  | .logWrite x addr data => Sys2Proof.Machine.execLogWrite x addr data s
  | .logProtect x bp => Sys2Proof.Machine.execLogProtect x bp s
  | .logTallyQuery x cell => Sys2Proof.Machine.execLogTallyQuery x cell s
  | .adcMode x mode => Sys2Proof.Machine.execAdcMode x mode s
  | .adcRef x ext on => Sys2Proof.Machine.execAdcRef x ext on s
  | .adcReadQuery x ch => Sys2Proof.Machine.execAdcReadQuery x ch s
  | .touchMode x mode => Sys2Proof.Machine.execTouchMode x mode s
  | .touchOntime x sec => Sys2Proof.Machine.execTouchOntime x sec s
  | .touchTest x => Sys2Proof.Machine.execTouchTest x s
  | .lgtQuery x n => Sys2Proof.Machine.execLgtQuery x n s
  | .lgtLoad x n start words => Sys2Proof.Machine.execLgtLoad x n start words s
  | .lgtRun x n => Sys2Proof.Machine.execLgtRun x n s
  | .lgtStop x n => Sys2Proof.Machine.execLgtStop x n s
  | .lgtClrshift x n => Sys2Proof.Machine.execLgtClrshift x n s
  | .lgtDiv x n ratio => Sys2Proof.Machine.execLgtDiv x n ratio s
  | .signAttest x nonce => Sys2Proof.Machine.execSignAttest x nonce s
  | .signFix x on => Sys2Proof.Machine.execSignFix x on s
  | .signFixNow x => Sys2Proof.Machine.execSignFixNow x s
  | .signKeyQuery x => Sys2Proof.Machine.execSignKeyQuery x s
  | .lifeQuery x => Sys2Proof.Machine.execLifeQuery x s
  | .lifeGo x target confirm herit => Sys2Proof.Machine.execLifeGo x target confirm herit s
  | .lifeImageLoad x i2c length => Sys2Proof.Machine.execLifeImageLoad x i2c length s
  | .imageDataByte b => Sys2Proof.Machine.execImageDataByte b s
  | .imageGapTimeout => Sys2Proof.Machine.execImageGapTimeout s
  | .lifeImageCommit x => Sys2Proof.Machine.execLifeImageCommit x s
  | .lifeImageQuery x => Sys2Proof.Machine.execLifeImageQuery x s
  | .testMem x bank => Sys2Proof.Machine.execTestMem x bank s
  | .testMemDone => Sys2Proof.Machine.execTestMemDone s
  | .testRf x l5 stage => Sys2Proof.Machine.execTestRf x l5 stage s
  | .testPin x pin level => Sys2Proof.Machine.execTestPin x pin level s
  | .antennaShort => Sys2Proof.Machine.execAntennaShort s
  | .replan view => Sys2Proof.Machine.execReplan view s
  | .laneAssign lane dop unc => Sys2Proof.Machine.execLaneAssign lane dop unc s
  | .bufferRecording ms data => Sys2Proof.Machine.execBufferRecording ms data s
  | .laneStart side lane => Sys2Proof.Machine.execLaneStart side lane s
  | .laneAbort side lane => Sys2Proof.Machine.execLaneAbort side lane s
  | .laneSearchEnd lane peak => Sys2Proof.Machine.execLaneSearchEnd lane peak s
  | .laneCodeRead side lane => Sys2Proof.Machine.execLaneCodeRead side lane s
  | .berthHandoff n fresh => Sys2Proof.Machine.execBerthHandoff n fresh s
  | .lookoutSnapGo side => Sys2Proof.Machine.execLookoutSnapGo side s
  | .snapshotCaptureEnd samples err => Sys2Proof.Machine.execSnapshotCaptureEnd samples err s
  | .lookoutSnapRelease side => Sys2Proof.Machine.execLookoutSnapRelease side s
  | .berthEnable side n => Sys2Proof.Machine.execBerthEnable side n s
  | .berthDisable side n => Sys2Proof.Machine.execBerthDisable side n s
  | .berthSignalChange n => Sys2Proof.Machine.execBerthSignalChange n s
  | .berthDump n d => Sys2Proof.Machine.execBerthDump n d s
  | .pdDump n ip qp sym unit preamble => Sys2Proof.Machine.execPdDump n ip qp sym unit preamble s
  | .berthIncWrite side n carrier value => Sys2Proof.Machine.execBerthIncWrite side n carrier value s
  | .berthLoadCode side n => Sys2Proof.Machine.execBerthLoadCode side n s
  | .berthLoadCarr side n => Sys2Proof.Machine.execBerthLoadCarr side n s
  | .berthDumpRead n => Sys2Proof.Machine.execBerthDumpRead n s
  | .sidePeakCheck n => Sys2Proof.Machine.execSidePeakCheck n s
  | .partnerStart n sec => Sys2Proof.Machine.execPartnerStart n sec s
  | .partnerDwellEnd n arms => Sys2Proof.Machine.execPartnerDwellEnd n arms s
  | .lockLoss n => Sys2Proof.Machine.execLockLoss n s
  | .burstWake => Sys2Proof.Machine.execBurstWake s
  | .burstWindowStart tenths => Sys2Proof.Machine.execBurstWindowStart tenths s
  | .epochInstant meas flat => Sys2Proof.Machine.execEpochInstant meas flat s
  | .epochClose => Sys2Proof.Machine.execEpochClose s
  | .startCleared n trail => Sys2Proof.Machine.execStartCleared n trail s
  | .startDeadline n => Sys2Proof.Machine.execStartDeadline n s
  | .fixRecordWrite f preds => Sys2Proof.Machine.execFixRecordWrite f preds s
  | .measqTailWrite value => Sys2Proof.Machine.execMeasqTailWrite value s
  | .bitlogTailWrite value => Sys2Proof.Machine.execBitlogTailWrite value s
  | .ringReconfigure bitlog => Sys2Proof.Machine.execRingReconfigure bitlog s
  | .measqFixRead => Sys2Proof.Machine.execMeasqFixRead s
  | .sillagePselWrite side n => Sys2Proof.Machine.execSillagePselWrite side n s
  | .osnmaTagCheck tags verified failed key chain => Sys2Proof.Machine.execOsnmaTagCheck tags verified failed key chain s
  | .osnmaTagExpiry => Sys2Proof.Machine.execOsnmaTagExpiry s
  | .frontOverload band5 => Sys2Proof.Machine.execFrontOverload band5 s
  | .overloadClear band5 => Sys2Proof.Machine.execOverloadClear band5 s
  | .notchSpectrum band5 gain occ bins post settled => Sys2Proof.Machine.execNotchSpectrum band5 gain occ bins post settled s
  | .notchRelease band5 k => Sys2Proof.Machine.execNotchRelease band5 k s
  | .tideNowlRead => Sys2Proof.Machine.execTideNowlRead s
  | .tideCtrlStep side => Sys2Proof.Machine.execTideCtrlStep side s
  | .tideStepApply => Sys2Proof.Machine.execTideStepApply s
  | .sourceTimeout src => Sys2Proof.Machine.execSourceTimeout src s
  | .leapApply => Sys2Proof.Machine.execLeapApply s
  | .tpinPulse stamp => Sys2Proof.Machine.execTpinPulse stamp s
  | .tpLeadingEdge => Sys2Proof.Machine.execTpLeadingEdge s
  | .tpTrailingEdge => Sys2Proof.Machine.execTpTrailingEdge s
  | .tpCtrlApply side => Sys2Proof.Machine.execTpCtrlApply side s
  | .wakeAlignment ns => Sys2Proof.Machine.execWakeAlignment ns s
  | .rtcSecondBoundary => Sys2Proof.Machine.execRtcSecondBoundary s
  | .rtcApplyNow side => Sys2Proof.Machine.execRtcApplyNow side s
  | .rtcApplySecond side => Sys2Proof.Machine.execRtcApplySecond side s
  | .rtcApplyCancel side => Sys2Proof.Machine.execRtcApplyCancel side s
  | .rtcShiftStart side => Sys2Proof.Machine.execRtcShiftStart side s
  | .rtcShiftEnd => Sys2Proof.Machine.execRtcShiftEnd s
  | .rtcBsecRead side => Sys2Proof.Machine.execRtcBsecRead side s
  | .rtcSnapshotExpiry side => Sys2Proof.Machine.execRtcSnapshotExpiry side s
  | .rtcOsfWrite side => Sys2Proof.Machine.execRtcOsfWrite side s
  | .rtcInterfaceLock vbkp => Sys2Proof.Machine.execRtcInterfaceLock vbkp s
  | .rtcInterfaceUnlock => Sys2Proof.Machine.execRtcInterfaceUnlock s
  | .backupDomainReset => Sys2Proof.Machine.execBackupDomainReset s
  | .rtcDiscipline => Sys2Proof.Machine.execRtcDiscipline s
  | .vbatQualify => Sys2Proof.Machine.execVbatQualify s
  | .vbatDisqualify => Sys2Proof.Machine.execVbatDisqualify s
  | .vstoreQualify => Sys2Proof.Machine.execVstoreQualify s
  | .vstoreDisqualify => Sys2Proof.Machine.execVstoreDisqualify s
  | .pathReturn => Sys2Proof.Machine.execPathReturn s
  | .pwrHoldLow => Sys2Proof.Machine.execPwrHoldLow s
  | .pwrBorWarn cause => Sys2Proof.Machine.execPwrBorWarn cause s
  | .graceExpiry => Sys2Proof.Machine.execGraceExpiry s
  | .tallySave => Sys2Proof.Machine.execTallySave s
  | .vbatBorAssert => Sys2Proof.Machine.execVbatBorAssert s
  | .vbatBorRelease herit => Sys2Proof.Machine.execVbatBorRelease herit s
  | .coreBrownOut herit => Sys2Proof.Machine.execCoreBrownOut herit s
  | .pwrPointWrite side value => Sys2Proof.Machine.execPwrPointWrite side value s
  | .pwrPointDone => Sys2Proof.Machine.execPwrPointDone s
  | .pwrRegWrite side ldo => Sys2Proof.Machine.execPwrRegWrite side ldo s
  | .domainSwitchOn d => Sys2Proof.Machine.execDomainSwitchOn d s
  | .domainSwitchOff d => Sys2Proof.Machine.execDomainSwitchOff d s
  | .pwrDomfWrite side value => Sys2Proof.Machine.execPwrDomfWrite side value s
  | .ioBankLoss second => Sys2Proof.Machine.execIoBankLoss second s
  | .sleepEntry => Sys2Proof.Machine.execSleepEntry s
  | .sleepExit elapsed herit => Sys2Proof.Machine.execSleepExit elapsed herit s
  | .vocRefresh voc => Sys2Proof.Machine.execVocRefresh voc s
  | .ovpTrip => Sys2Proof.Machine.execOvpTrip s
  | .ovpRecover => Sys2Proof.Machine.execOvpRecover s
  | .uvpTrip => Sys2Proof.Machine.execUvpTrip s
  | .storeReconnect => Sys2Proof.Machine.execStoreReconnect s
  | .ocpTrip rested => Sys2Proof.Machine.execOcpTrip rested s
  | .shortCircuitTrip rested => Sys2Proof.Machine.execShortCircuitTrip rested s
  | .reconnectRetry => Sys2Proof.Machine.execReconnectRetry s
  | .harvProtClr side => Sys2Proof.Machine.execHarvProtClr side s
  | .temperatureSample tenths pin => Sys2Proof.Machine.execTemperatureSample tenths pin s
  | .bandChange band => Sys2Proof.Machine.execBandChange band s
  | .storeMeasure vst => Sys2Proof.Machine.execStoreMeasure vst s
  | .bpreqClassPulse us => Sys2Proof.Machine.execBpreqClassPulse us s
  | .permitClassWrite b => Sys2Proof.Machine.execPermitClassWrite b s
  | .bpreqGapTimeout => Sys2Proof.Machine.execBpreqGapTimeout s
  | .bpreqRequest vst => Sys2Proof.Machine.execBpreqRequest vst s
  | .bpreqDrop => Sys2Proof.Machine.execBpreqDrop s
  | .grantTimeout => Sys2Proof.Machine.execGrantTimeout s
  | .coldStart => Sys2Proof.Machine.execColdStart s
  | .coldStartBoot herit => Sys2Proof.Machine.execColdStartBoot herit s
  | .clockReady c => Sys2Proof.Machine.execClockReady c s
  | .monitorWindow k count => Sys2Proof.Machine.execMonitorWindow k count s
  | .edgeDetectorFail xtalG => Sys2Proof.Machine.execEdgeDetectorFail xtalG s
  | .clockRetry => Sys2Proof.Machine.execClockRetry s
  | .clkCfgRetry side => Sys2Proof.Machine.execClkCfgRetry side s
  | .islandSourceRequest side island src => Sys2Proof.Machine.execIslandSourceRequest side island src s
  | .islandClockSwitch island => Sys2Proof.Machine.execIslandClockSwitch island s
  | .fllCount count => Sys2Proof.Machine.execFllCount count s
  | .syspllReferenceMove hfo => Sys2Proof.Machine.execSyspllReferenceMove hfo s
  | .clkRfsynUnlock band5 => Sys2Proof.Machine.execClkRfsynUnlock band5 s
  | .powerOnReset herit backup => Sys2Proof.Machine.execPowerOnReset herit backup s
  | .nrstReset herit => Sys2Proof.Machine.execNrstReset herit s
  | .sysWatchdogReset herit => Sys2Proof.Machine.execSysWatchdogReset herit s
  | .appWatchdogExpiry => Sys2Proof.Machine.execAppWatchdogExpiry s
  | .swrstApp m => Sys2Proof.Machine.execSwrstApp m s
  | .swrstAll m app herit => Sys2Proof.Machine.execSwrstAll m app herit s
  | .debugReset herit => Sys2Proof.Machine.execDebugReset herit s
  | .wdtaServe value => Sys2Proof.Machine.execWdtaServe value s
  | .wdtaEnable => Sys2Proof.Machine.execWdtaEnable s
  | .alu c fn rd ra rb => Sys2Proof.Machine.execAlu c fn rd ra rb s
  | .add c rd ra rb => Sys2Proof.Machine.execAdd c rd ra rb s
  | .sub c rd ra rb => Sys2Proof.Machine.execSub c rd ra rb s
  | .and c rd ra rb => Sys2Proof.Machine.execAnd c rd ra rb s
  | .or c rd ra rb => Sys2Proof.Machine.execOr c rd ra rb s
  | .xor c rd ra rb => Sys2Proof.Machine.execXor c rd ra rb s
  | .nor c rd ra rb => Sys2Proof.Machine.execNor c rd ra rb s
  | .shl c rd ra rb => Sys2Proof.Machine.execShl c rd ra rb s
  | .shr c rd ra rb => Sys2Proof.Machine.execShr c rd ra rb s
  | .sra c rd ra rb => Sys2Proof.Machine.execSra c rd ra rb s
  | .cmplt c rd ra rb => Sys2Proof.Machine.execCmplt c rd ra rb s
  | .cmpltu c rd ra rb => Sys2Proof.Machine.execCmpltu c rd ra rb s
  | .cmpeq c rd ra rb => Sys2Proof.Machine.execCmpeq c rd ra rb s
  | .min c rd ra rb => Sys2Proof.Machine.execMin c rd ra rb s
  | .max c rd ra rb => Sys2Proof.Machine.execMax c rd ra rb s
  | .minu c rd ra rb => Sys2Proof.Machine.execMinu c rd ra rb s
  | .maxu c rd ra rb => Sys2Proof.Machine.execMaxu c rd ra rb s
  | .clz c rd ra => Sys2Proof.Machine.execClz c rd ra s
  | .mul c rd ra rb => Sys2Proof.Machine.execMul c rd ra rb s
  | .mulh c rd ra rb => Sys2Proof.Machine.execMulh c rd ra rb s
  | .mulhu c rd ra rb => Sys2Proof.Machine.execMulhu c rd ra rb s
  | .div c rd ra rb => Sys2Proof.Machine.execDiv c rd ra rb s
  | .divu c rd ra rb => Sys2Proof.Machine.execDivu c rd ra rb s
  | .rem c rd ra rb => Sys2Proof.Machine.execRem c rd ra rb s
  | .remu c rd ra rb => Sys2Proof.Machine.execRemu c rd ra rb s
  | .addi c rd ra imm => Sys2Proof.Machine.execAddi c rd ra imm s
  | .andi c rd ra imm => Sys2Proof.Machine.execAndi c rd ra imm s
  | .ori c rd ra imm => Sys2Proof.Machine.execOri c rd ra imm s
  | .xori c rd ra imm => Sys2Proof.Machine.execXori c rd ra imm s
  | .cmplti c rd ra imm => Sys2Proof.Machine.execCmplti c rd ra imm s
  | .cmpltui c rd ra imm => Sys2Proof.Machine.execCmpltui c rd ra imm s
  | .shi c rd ra dir amt => Sys2Proof.Machine.execShi c rd ra dir amt s
  | .lui c rd imm => Sys2Proof.Machine.execLui c rd imm s
  | .auipc c rd imm => Sys2Proof.Machine.execAuipc c rd imm s
  | .ldb c rt ra am => Sys2Proof.Machine.execLdb c rt ra am s
  | .ldbu c rt ra am => Sys2Proof.Machine.execLdbu c rt ra am s
  | .ldh c rt ra am => Sys2Proof.Machine.execLdh c rt ra am s
  | .ldhu c rt ra am => Sys2Proof.Machine.execLdhu c rt ra am s
  | .ldw c rt ra am => Sys2Proof.Machine.execLdw c rt ra am s
  | .stb c rt ra am => Sys2Proof.Machine.execStb c rt ra am s
  | .sth c rt ra am => Sys2Proof.Machine.execSth c rt ra am s
  | .stw c rt ra am => Sys2Proof.Machine.execStw c rt ra am s
  | .checkWriteBack block => Sys2Proof.Machine.execCheckWriteBack block s
  | .beq c ra rb disp => Sys2Proof.Machine.execBeq c ra rb disp s
  | .bne c ra rb disp => Sys2Proof.Machine.execBne c ra rb disp s
  | .blt c ra rb disp => Sys2Proof.Machine.execBlt c ra rb disp s
  | .bge c ra rb disp => Sys2Proof.Machine.execBge c ra rb disp s
  | .bltu c ra rb disp => Sys2Proof.Machine.execBltu c ra rb disp s
  | .bgeu c ra rb disp => Sys2Proof.Machine.execBgeu c ra rb disp s
  | .jmp c disp => Sys2Proof.Machine.execJmp c disp s
  | .call c disp => Sys2Proof.Machine.execCall c disp s
  | .jrl c rd ra imm => Sys2Proof.Machine.execJrl c rd ra imm s
  | .fence c => Sys2Proof.Machine.execFence c s
  | .wait c => Sys2Proof.Machine.execWait c s
  | .eret c => Sys2Proof.Machine.execEret c s
  | .trap c imm => Sys2Proof.Machine.execTrap c imm s
  | .mfs c rd sr => Sys2Proof.Machine.execMfs c rd sr s
  | .mts c sr ra => Sys2Proof.Machine.execMts c sr ra s
  | .shortNop c sl => Sys2Proof.Machine.execShortNop c sl s
  | .shortMov c sl rd rs => Sys2Proof.Machine.execShortMov c sl rd rs s
  | .shortAdd c sl rd rs => Sys2Proof.Machine.execShortAdd c sl rd rs s
  | .shortSub c sl rd rs => Sys2Proof.Machine.execShortSub c sl rd rs s
  | .shortAnd c sl rd rs => Sys2Proof.Machine.execShortAnd c sl rd rs s
  | .shortOr c sl rd rs => Sys2Proof.Machine.execShortOr c sl rd rs s
  | .shortXor c sl rd rs => Sys2Proof.Machine.execShortXor c sl rd rs s
  | .shortShl c sl rd rs => Sys2Proof.Machine.execShortShl c sl rd rs s
  | .shortShr c sl rd rs => Sys2Proof.Machine.execShortShr c sl rd rs s
  | .shortSra c sl rd rs => Sys2Proof.Machine.execShortSra c sl rd rs s
  | .shortMul c sl rd rs => Sys2Proof.Machine.execShortMul c sl rd rs s
  | .shortCmplt c sl rd rs => Sys2Proof.Machine.execShortCmplt c sl rd rs s
  | .shortCmpltu c sl rd rs => Sys2Proof.Machine.execShortCmpltu c sl rd rs s
  | .shortCmpeq c sl rd rs => Sys2Proof.Machine.execShortCmpeq c sl rd rs s
  | .shortMovi c sl rd imm => Sys2Proof.Machine.execShortMovi c sl rd imm s
  | .shortAddi c sl rd imm => Sys2Proof.Machine.execShortAddi c sl rd imm s
  | .shortShli c sl rd amt => Sys2Proof.Machine.execShortShli c sl rd amt s
  | .shortShri c sl rd amt => Sys2Proof.Machine.execShortShri c sl rd amt s
  | .shortSrai c sl rd amt => Sys2Proof.Machine.execShortSrai c sl rd amt s
  | .shortAndi c sl rd imm => Sys2Proof.Machine.execShortAndi c sl rd imm s
  | .shortLdw c sl rt ra off => Sys2Proof.Machine.execShortLdw c sl rt ra off s
  | .shortStw c sl rt ra off => Sys2Proof.Machine.execShortStw c sl rt ra off s
  | .ldwp c sl rt ra => Sys2Proof.Machine.execLdwp c sl rt ra s
  | .stwm c sl rt ra => Sys2Proof.Machine.execStwm c sl rt ra s
  | .shortLdbu c sl rt ra off => Sys2Proof.Machine.execShortLdbu c sl rt ra off s
  | .shortStb c sl rt ra off => Sys2Proof.Machine.execShortStb c sl rt ra off s
  | .br c disp => Sys2Proof.Machine.execBr c disp s
  | .bz c rs disp => Sys2Proof.Machine.execBz c rs disp s
  | .bnz c rs disp => Sys2Proof.Machine.execBnz c rs disp s
  | .jr c rs => Sys2Proof.Machine.execJr c rs s
  | .ret c => Sys2Proof.Machine.execRet c s
  | .shortFence c sl => Sys2Proof.Machine.execShortFence c sl s
  | .illegalWord c => Sys2Proof.Machine.execIllegalWord c s
  | .fetchUncorrectable c => Sys2Proof.Machine.execFetchUncorrectable c s
  | .mneEntry c => Sys2Proof.Machine.execMneEntry c s
  | .nmiEntry c => Sys2Proof.Machine.execNmiEntry c s
  | .dredgerBlock => Sys2Proof.Machine.execDredgerBlock s
  | .tamperWipe => Sys2Proof.Machine.execTamperWipe s
  | .wipeDone => Sys2Proof.Machine.execWipeDone s
  | .logsProg side => Sys2Proof.Machine.execLogsProg side s
  | .logsTwinWr side => Sys2Proof.Machine.execLogsTwinWr side s
  | .logsTwinRd side => Sys2Proof.Machine.execLogsTwinRd side s
  | .logsCommandStart => Sys2Proof.Machine.execLogsCommandStart s
  | .logsWriteDone => Sys2Proof.Machine.execLogsWriteDone s
  | .tallyEraseDone => Sys2Proof.Machine.execTallyEraseDone s
  | .manifestSourceEvent src w2 w3 => Sys2Proof.Machine.execManifestSourceEvent src w2 w3 s
  | .manPop0Read m side => Sys2Proof.Machine.execManPop0Read m side s
  | .manMaskWrite m side w value => Sys2Proof.Machine.execManMaskWrite m side w value s
  | .manPendWrite m side w value => Sys2Proof.Machine.execManPendWrite m side w value s
  | .manMaskset m side w value => Sys2Proof.Machine.execManMaskset m side w value s
  | .manMaskclr m side w value => Sys2Proof.Machine.execManMaskclr m side w value s
  | .manPendset m side w value => Sys2Proof.Machine.execManPendset m side w value s
  | .manPendclr m side w value => Sys2Proof.Machine.execManPendclr m side w value s
  | .manRaiseWrite m side value => Sys2Proof.Machine.execManRaiseWrite m side value s
  | .manCfgWrite m side value => Sys2Proof.Machine.execManCfgWrite m side value s
  | .mneModerationTimeout m => Sys2Proof.Machine.execMneModerationTimeout m s
  | .producerEvent p => Sys2Proof.Machine.execProducerEvent p s
  | .evrSwtrigWrite value => Sys2Proof.Machine.execEvrSwtrigWrite value s
  | .evrCapfRead k => Sys2Proof.Machine.execEvrCapfRead k s
  | .aonTick => Sys2Proof.Machine.execAonTick s
  | .lgtNop n => Sys2Proof.Machine.execLgtNop n s
  | .lgtXfer n samples => Sys2Proof.Machine.execLgtXfer n samples s
  | .lgtFill n => Sys2Proof.Machine.execLgtFill n s
  | .lgtDrain n => Sys2Proof.Machine.execLgtDrain n s
  | .lgtDrive n => Sys2Proof.Machine.execLgtDrive n s
  | .lgtAwait n => Sys2Proof.Machine.execLgtAwait n s
  | .lgtAwaitEnd n => Sys2Proof.Machine.execLgtAwaitEnd n s
  | .lgtAwaitTimeout n => Sys2Proof.Machine.execLgtAwaitTimeout n s
  | .lgtPause n => Sys2Proof.Machine.execLgtPause n s
  | .lgtSet n => Sys2Proof.Machine.execLgtSet n s
  | .lgtLoop n => Sys2Proof.Machine.execLgtLoop n s
  | .lgtJump n => Sys2Proof.Machine.execLgtJump n s
  | .lgtMove n => Sys2Proof.Machine.execLgtMove n s
  | .lgtNote n => Sys2Proof.Machine.execLgtNote n s
  | .lgtIllegal n => Sys2Proof.Machine.execLgtIllegal n s
  | .lgtStallEnd n => Sys2Proof.Machine.execLgtStallEnd n s
  | .lgtCmdRun side n => Sys2Proof.Machine.execLgtCmdRun side n s
  | .lgtCmdStop side n => Sys2Proof.Machine.execLgtCmdStop side n s
  | .lgtCmdClrshift side n => Sys2Proof.Machine.execLgtCmdClrshift side n s
  | .lgtCmdClrfifo side n => Sys2Proof.Machine.execLgtCmdClrfifo side n s
  | .lgtCmdSetpc side n => Sys2Proof.Machine.execLgtCmdSetpc side n s
  | .lgtTxfWrite n value => Sys2Proof.Machine.execLgtTxfWrite n value s
  | .lgtRxfRead n => Sys2Proof.Machine.execLgtRxfRead n s
  | .lgtImemWrite side ofs value => Sys2Proof.Machine.execLgtImemWrite side ofs value s
  | .uartCharacterReceived u ticks start => Sys2Proof.Machine.execUartCharacterReceived u ticks start s
  | .uartBreak u => Sys2Proof.Machine.execUartBreak u s
  | .uartLineFault u => Sys2Proof.Machine.execUartLineFault u s
  | .uartLineFaultClear u => Sys2Proof.Machine.execUartLineFaultClear u s
  | .uartStartEdgeWake u start => Sys2Proof.Machine.execUartStartEdgeWake u start s
  | .uartRxTimeout u => Sys2Proof.Machine.execUartRxTimeout u s
  | .uartCharacterSent u start c => Sys2Proof.Machine.execUartCharacterSent u start c s
  | .uartDataRead side u => Sys2Proof.Machine.execUartDataRead side u s
  | .uartDataWrite side u value => Sys2Proof.Machine.execUartDataWrite side u value s
  | .uartRxstsRead u tx => Sys2Proof.Machine.execUartRxstsRead u tx s
  | .uartConfigApply u => Sys2Proof.Machine.execUartConfigApply u s
  | .i2ctAddressMatch addr read => Sys2Proof.Machine.execI2ctAddressMatch addr read s
  | .i2ctByteReceived b => Sys2Proof.Machine.execI2ctByteReceived b s
  | .i2ctByteSent => Sys2Proof.Machine.execI2ctByteSent s
  | .i2ctStretchTimeout => Sys2Proof.Machine.execI2ctStretchTimeout s
  | .i2ctStop => Sys2Proof.Machine.execI2ctStop s
  | .i2ctDataRead side => Sys2Proof.Machine.execI2ctDataRead side s
  | .i2ctDataWrite side value => Sys2Proof.Machine.execI2ctDataWrite side value s
  | .spiStart side k => Sys2Proof.Machine.execSpiStart side k s
  | .spiAbort side k => Sys2Proof.Machine.execSpiAbort side k s
  | .spiFrame k value => Sys2Proof.Machine.execSpiFrame k value s
  | .spiCsRaise k partial_ => Sys2Proof.Machine.execSpiCsRaise k partial_ s
  | .spiDataRead side k => Sys2Proof.Machine.execSpiDataRead side k s
  | .spiDataWrite side k value => Sys2Proof.Machine.execSpiDataWrite side k value s
  | .dmaStart side k => Sys2Proof.Machine.execDmaStart side k s
  | .dmaRequestUnit k => Sys2Proof.Machine.execDmaRequestUnit k s
  | .adcStart side => Sys2Proof.Machine.execAdcStart side s
  | .adcStop side => Sys2Proof.Machine.execAdcStop side s
  | .adcFlush side => Sys2Proof.Machine.execAdcFlush side s
  | .adcResult code => Sys2Proof.Machine.execAdcResult code s
  | .adcFifoRead side => Sys2Proof.Machine.execAdcFifoRead side s
  | .adcRefReady => Sys2Proof.Machine.execAdcRefReady s
  | .adcCalOk => Sys2Proof.Machine.execAdcCalOk s
  | .touchScanStart => Sys2Proof.Machine.execTouchScanStart s
  | .touchSegment counts => Sys2Proof.Machine.execTouchSegment counts s
  | .touchSegmentDiscard => Sys2Proof.Machine.execTouchSegmentDiscard s
  | .touchDqiTimeout => Sys2Proof.Machine.execTouchDqiTimeout s
  | .touchScanEnd => Sys2Proof.Machine.execTouchScanEnd s
  | .touchCtrlStart side => Sys2Proof.Machine.execTouchCtrlStart side s
  | .touchCtrlTest side => Sys2Proof.Machine.execTouchCtrlTest side s
  | .touchCtrlRebase side => Sys2Proof.Machine.execTouchCtrlRebase side s
  | .touchCtrlSaveref side => Sys2Proof.Machine.execTouchCtrlSaveref side s
  | .touchTestEnd counts rises => Sys2Proof.Machine.execTouchTestEnd counts rises s
  | .proximitySample raw => Sys2Proof.Machine.execProximitySample raw s
  | .signingStart => Sys2Proof.Machine.execSigningStart s
  | .signingDone => Sys2Proof.Machine.execSigningDone s
  | .keyDerivationDone => Sys2Proof.Machine.execKeyDerivationDone s
  | .tapExtest value => Sys2Proof.Machine.execTapExtest value s
  | .tapSamplePreload value inputs => Sys2Proof.Machine.execTapSamplePreload value inputs s
  | .tapIdcode => Sys2Proof.Machine.execTapIdcode s
  | .tapClamp => Sys2Proof.Machine.execTapClamp s
  | .tapHighz => Sys2Proof.Machine.execTapHighz s
  | .tapDebug => Sys2Proof.Machine.execTapDebug s
  | .tapBypass => Sys2Proof.Machine.execTapBypass s
  | .trstnReset => Sys2Proof.Machine.execTrstnReset s
  | .gpioWakeEdge pin rising => Sys2Proof.Machine.execGpioWakeEdge pin rising s
  | .gpioEventEdge pin rising => Sys2Proof.Machine.execGpioEventEdge pin rising s
  | .gpioOutset side second value => Sys2Proof.Machine.execGpioOutset side second value s
  | .gpioOutclr side second value => Sys2Proof.Machine.execGpioOutclr side second value s
  | .holdOk => Sys2Proof.Machine.execHoldOk s
  | .ioBankReturn second => Sys2Proof.Machine.execIoBankReturn second s
  | .logRecoveryDone => Sys2Proof.Machine.execLogRecoveryDone s
  | .tideErrLimit => Sys2Proof.Machine.execTideErrLimit s

end Sys2Proof.Machine
end

