-- ==== Sys2Proof/Machine/Step.lean ====
section
/-! DEFINITION. One step of the block: the command at the front of the queue, or a tick of the Tide counter. -/

namespace Sys2Proof.Machine

/-- A step: the command at the front of the queue is taken and run; with an empty queue, one tick of the Tide counter's fast
section passes (R267), and the log store's operation goes on (DESIGN CHOICE). -/
def step (s : State) : Host.Outcome State Fault Refusal :=
  match s.pending with
  | [] => .next s.tideTick.logTick
  | i :: r => exec i { s with pending := r }

/-- The state with the command that a word spells put at the front of the queue: the table gives no row any bits, so no word
spells one. -/
def State.withFetchWord (s : State) (nbits w : Nat) : State :=
  match Sys2Proof.decodeTableWord nbits w with
  | some i => { s with pending := i :: s.pending }
  | none => s

end Sys2Proof.Machine
end

