-- ==== Sys2Proof/Safety.lean ====
section
/-! DEFINITION. What counts as a safe run: one that never stops. The device itself never stops on a command: a bad access ends with a
bus error and a bad line with an `ER` reply (R13, R72). And the conditions on a state under which the statements say that a command
completes. -/

namespace Sys2Proof

open Sys2Proof.Machine

/-- A step that goes on. -/
def GoesOn (s : State) : Prop := ∃ t, step s = .next t

/-- A run of any length that goes on at every step. -/
def SafeRun (s : State) : Prop := ∀ n, ∃ t, core.run n s = .next t

/-- A console command passes the checks that come before its own: dialect, session, lifecycle, system state, level and owner
(R24, R68, R82), and its block is on or may be switched on (R346). -/
def accepts (s : State) (x : Sess) (i : CmdInfo) : Bool :=
  (s.precheck x i).isNone && !(match i.block with | some b => s.blockOff b | none => false)

/-- The block's domain is on, so an access to it is not held (R346). -/
def reaches (s : State) (b : Block) : Bool :=
  match blockDomain b with
  | some d => s.powered d
  | none => true

/-- An access from the owner's side to a block that is on (R21, R346); `expert` where the register asks for the level EXPERT
(R20). -/
def opens (s : State) (side : Side) (b : Block) (expert : Bool) : Bool :=
  reaches s b && side == s.owner b && (!expert || s.expert b)

/-- The energy ledger and the reserve of the store both allow the change from `s` to `t` (R37, R370). -/
def affords (s t : State) : Bool := ledgerGrants s t && !s.reserveRefuses t

/-- A core that is at the start of an aligned word, runs, and has no result under way (R427, R452). -/
def atWord (s : State) (c : CoreId) : Bool :=
  let k := s.core c
  s.coreRuns c && k.pair.isNone && k.delay.isNone && k.flight.isEmpty && !k.doze && k.pc.toNat % 4 == 0

/-- The commands that can change an owner or a level: bus writes and what makes them, the requests and quiet points of
ownership and level (R25, R26, R30, R31), a console line in execution, and the resets (R401). -/
def changesOwnership (c : Instr) : Bool :=
  match c with
  | .registerWrite .. | .stb .. | .sth .. | .stw .. | .shortStb .. | .shortStw .. | .stwm .. | .dmaRequestUnit ..
  | .uartRxTimeout .. => true
  | .sysctlOwnWrite .. | .ownershipChange .. | .levelWrite .. | .levelChange .. | .own .. | .levelBlock .. | .commandExecute => true
  | .sysReset .. | .lifeGo .. | .powerOnReset .. | .coldStartBoot .. | .vbatBorRelease .. | .coreBrownOut .. | .nrstReset ..
  | .sysWatchdogReset .. | .appWatchdogExpiry | .swrstApp .. | .swrstAll .. | .debugReset .. | .sleepExit .. => true
  | _ => false

/-- One register operation of R431: its code, its own mnemonic's command, its value, and the words until the result lands. -/
structure RegisterOp where
  fn : AluFn
  command : CoreId → Reg → Reg → Reg → Instr
  value : Word → Word → Word
  distance : Nat

/-- The register operations of R431 whose second operand is a register, and CLZ, which has none. -/
def IsRegisterOp (op : RegisterOp) : Prop :=
  op ∈ ([⟨.add, .add, fun a b => a + b, 0⟩, ⟨.sub, .sub, fun a b => a - b, 0⟩, ⟨.and, .and, fun a b => a &&& b, 0⟩,
   ⟨.or, .or, fun a b => a ||| b, 0⟩, ⟨.xor, .xor, fun a b => a ^^^ b, 0⟩, ⟨.nor, .nor, fun a b => ~~~(a ||| b), 0⟩,
   ⟨.shl, .shl, fun a b => a <<< (b.toNat % 32), 0⟩, ⟨.shr, .shr, fun a b => a >>> (b.toNat % 32), 0⟩,
   ⟨.sra, .sra, fun a b => a.sshiftRight (b.toNat % 32), 0⟩,
   ⟨.cmplt, .cmplt, fun a b => if a.slt b then 1 else 0, 0⟩,
   ⟨.cmpltu, .cmpltu, fun a b => if a.ult b then 1 else 0, 0⟩,
   ⟨.cmpeq, .cmpeq, fun a b => if a = b then 1 else 0, 0⟩,
   ⟨.min, .min, fun a b => if a.slt b then a else b, 0⟩, ⟨.max, .max, fun a b => if a.slt b then b else a, 0⟩,
   ⟨.minu, .minu, fun a b => if a.ult b then a else b, 0⟩,
   ⟨.maxu, .maxu, fun a b => if a.ult b then b else a, 0⟩,
   ⟨.clz, fun c rd ra _ => .clz c rd ra, fun a _ => BitVec.ofNat 32 (leadingZeros a), 0⟩,
   ⟨.mul, .mul, fun a b => a * b, 3⟩, ⟨.mulh, .mulh, fun a b => BitVec.ofInt 32 (a.toInt * b.toInt / 4294967296), 3⟩,
   ⟨.mulhu, .mulhu, fun a b => BitVec.ofNat 32 (a.toNat * b.toNat / 4294967296), 3⟩,
   ⟨.div, .div, fun a b => if b = 0 then 0xFFFFFFFF else a.sdiv b, 18⟩,
   ⟨.divu, .divu, fun a b => if b = 0 then 0xFFFFFFFF else a / b, 18⟩,
   ⟨.rem, .rem, fun a b => if b = 0 then a else a.srem b, 18⟩,
   ⟨.remu, .remu, fun a b => if b = 0 then a else a % b, 18⟩] : List RegisterOp)

/-- The operations with an immediate of R430, on core `c`, from `ra` into `rd`, with their values. -/
def IsImmediateOp (c : CoreId) (rd ra : Reg) (imm : BitVec 15) (amt : Fin 32)
    (p : Instr × (Word → Word)) : Prop :=
  let x : Word := imm.signExtend 32
  let z : Word := imm.setWidth 32
  p ∈ ([(.addi c rd ra imm, fun a => a + x), (.andi c rd ra imm, fun a => a &&& z), (.ori c rd ra imm, fun a => a ||| z),
   (.xori c rd ra imm, fun a => a ^^^ z), (.cmplti c rd ra imm, fun a => if a.slt x then 1 else 0),
   (.cmpltui c rd ra imm, fun a => if a.ult x then 1 else 0), (.shi c rd ra .shl amt, fun a => a <<< amt.val),
   (.shi c rd ra .shr amt, fun a => a >>> amt.val), (.shi c rd ra .sra amt, fun a => a.sshiftRight amt.val)] : List (Instr × (Word → Word)))

/-- The short operations of R432 on the destination and a second register or an immediate, with their values from the two
registers and the words until the result lands. -/
def IsShortOp (c : CoreId) (sl : Slot) (rd rs : SReg) (imm : BitVec 6) (amt : Fin 32)
    (p : Instr × (Word → Word → Word) × Nat) : Prop :=
  let x : Word := imm.signExtend 32
  p ∈ ([(.shortMov c sl rd rs, fun _ b => b, 0), (.shortAdd c sl rd rs, fun a b => a + b, 0), (.shortSub c sl rd rs, fun a b => a - b, 0),
   (.shortAnd c sl rd rs, fun a b => a &&& b, 0), (.shortOr c sl rd rs, fun a b => a ||| b, 0),
   (.shortXor c sl rd rs, fun a b => a ^^^ b, 0), (.shortShl c sl rd rs, fun a b => a <<< (b.toNat % 32), 0),
   (.shortShr c sl rd rs, fun a b => a >>> (b.toNat % 32), 0), (.shortSra c sl rd rs, fun a b => a.sshiftRight (b.toNat % 32), 0),
   (.shortMul c sl rd rs, fun a b => a * b, 3), (.shortCmplt c sl rd rs, fun a b => if a.slt b then 1 else 0, 0),
   (.shortCmpltu c sl rd rs, fun a b => if a.ult b then 1 else 0, 0),
   (.shortCmpeq c sl rd rs, fun a b => if a = b then 1 else 0, 0), (.shortMovi c sl rd imm, fun _ _ => x, 0),
   (.shortAddi c sl rd imm, fun a _ => a + x, 0), (.shortShli c sl rd amt, fun a _ => a <<< amt.val, 0),
   (.shortShri c sl rd amt, fun a _ => a >>> amt.val, 0), (.shortSrai c sl rd amt, fun a _ => a.sshiftRight amt.val, 0),
   (.shortAndi c sl rd imm, fun a _ => a &&& x, 0)] : List (Instr × (Word → Word → Word) × Nat))

/-- The long branches of R430 with the condition on which each is taken. -/
def IsBranchOp (c : CoreId) (ra rb : Reg) (disp : BitVec 15)
    (p : Instr × (Word → Word → Bool)) : Prop :=
  p ∈ ([(.beq c ra rb disp, fun a b => a == b), (.bne c ra rb disp, fun a b => a != b),
   (.blt c ra rb disp, fun a b => a.slt b), (.bge c ra rb disp, fun a b => !a.slt b),
   (.bltu c ra rb disp, fun a b => a.ult b), (.bgeu c ra rb disp, fun a b => !a.ult b)] : List (Instr × (Word → Word → Bool)))

/-- The long loads of R430: their size in bytes and whether they extend the sign. -/
def IsLoadOp (c : CoreId) (rt ra : Reg) (am : AddrMode)
    (p : Instr × Nat × Bool) : Prop :=
  p ∈ ([(.ldb c rt ra am, 1, true), (.ldbu c rt ra am, 1, false), (.ldh c rt ra am, 2, true), (.ldhu c rt ra am, 2, false),
   (.ldw c rt ra am, 4, false)] : List (Instr × Nat × Bool))

/-- The long stores of R430: their size in bytes. -/
def IsStoreOp (c : CoreId) (rt ra : Reg) (am : AddrMode)
    (p : Instr × Nat) : Prop :=
  p ∈ ([(.stb c rt ra am, 1), (.sth c rt ra am, 2), (.stw c rt ra am, 4)] : List (Instr × Nat))

/-- `t` is `s` but for core `c` and the counter of free values. -/
def OnlyCore (c : CoreId) (s t : State) : Prop := ∃ k n, t = { s.setCore c k with free := n }

/-- From `s` to `t` core `c` has gone on to the next word, with the general registers as `g` says and `flight` under way, and
nothing else has changed but its count of cycles. -/
def WordDone (c : CoreId) (s t : State) (g : Nat → Word) (flight : List (Nat × Word × Nat)) : Prop :=
  OnlyCore c s t ∧ (t.core c).pc = (s.core c).pc + 4 ∧ (t.core c).delay = none ∧ (t.core c).pair = none ∧
    (∀ r, (t.core c).gen r = g r) ∧ (t.core c).flight.map (fun e => (e.dest, e.value, e.left)) = flight ∧
    (t.core c).s = (s.core c).s ∧ (s.core c).cycle < (t.core c).cycle

/-- From `s` to `t` core `c` has run slot A of a word, whose slot B is then due: the registers that stood before the word,
`before`, are remembered, `g` gives the general registers and `flight` what is under way (R435). -/
def SlotOpen (c : CoreId) (s t : State) (before : Store Word) (g : Nat → Word) (flight : List (Nat × Word × Nat)) : Prop :=
  OnlyCore c s t ∧ (t.core c).pc = (s.core c).pc ∧ (t.core c).delay = none ∧ (t.core c).pair = some (before, []) ∧
    (∀ r, (t.core c).gen r = g r) ∧ (t.core c).flight.map (fun e => (e.dest, e.value, e.left)) = flight ∧
    (t.core c).s = (s.core c).s ∧ (t.core c).cycle = (s.core c).cycle

/-- The bus master through which a core fetches (R476). -/
def fetcher : CoreId → Master
  | .app => .appFetch
  | .sys => .sys

/-- The state within a paired word, whose slots read the registers that stood before it (R435). -/
def opened (c : CoreId) (s : State) : State := s.setCore c { s.core c with pair := some ((s.core c).g, (s.core c).flight) }

/-- General registers with one written: g0 keeps reading 0 (R426). -/
def withReg (g : Nat → Word) (rd : Nat) (v : Word) : Nat → Word := fun r => if r = rd ∧ rd ≠ 0 then v else g r

/-- General registers with a base register updated, where the mode updates it. -/
def withBase (g : Nat → Word) (ra : Nat) (b : Option Word) : Nat → Word :=
  match b with
  | some v => withReg g ra v
  | none => g

/-- An access has not reset or otherwise changed the core that makes it. -/
def Undisturbed (c : CoreId) (s t : State) : Prop := { t.core c with nmi := false } = { s.core c with nmi := false }

/-- Lighter `n` is powered, runs, and stands at a legal word of operation `op` (R540, R547). -/
def AtLighterOp (n op : Nat) (s : State) : Prop :=
  s.powered 9 = true ∧ s.lgtState n = 1 ∧ lgtOp (s.lgtWord n) = op ∧ lgtIllegal (s.lgtWord n) = false

/-- Where lighter `n` goes after its word: on by one, or from the top of its wrap to the bottom (R536). -/
def lighterNext (n : Nat) (s : State) : Nat :=
  if s.get (F.LGT_STAT_PC n) = s.get (F.LGT_CFG_WRAP_TOP n) then s.get (F.LGT_CFG_WRAP_BOT n) else (s.get (F.LGT_STAT_PC n) + 1) % 32

/-- Console commands that set something or start something, of every group of the catalogue, with what the checks before their
own look at: `p` is one of them, given in session `x`. -/
def IsSettingCommand (x : Sess) (p : Instr × CmdInfo) : Prop :=
  (∃ on, p = (.sysCheck x on, sysCmd)) ∨ (∃ c, p = (.sysNotice x c, sysCmd)) ∨
  (∃ m, p = (.sysMode x m, { sysCmd with notQuay := true })) ∨ (∃ r, p = (.sysBaud x r, { sysCmd with uart0Only := true })) ∨
  (∃ b o, p = (.own x b o, {})) ∨ (∃ e, p = (.levelSession x e, {})) ∨ (∃ b e, p = (.levelBlock x b e, { block := some b })) ∨
  (∃ m, p = (.adcMode x m, adcCmd)) ∨ (∃ m, p = (.gnssMode x m, gnssCmd)) ∨ (∃ v, p = (.planElev x v, planCmd)) ∨
  (∃ f, p = (.tideSrc x f, tideCmd)) ∨ (∃ m, p = (.rtcMode x m, rtcCmd)) ∨ (∃ d, p = (.noteSleep x d, pwrCmd)) ∨
  (∃ pt, p = (.pwrPoint x pt, pwrCmd)) ∨ (∃ v, p = (.harvOvp x v, harvCmd)) ∨ (∃ m, p = (.touchMode x m, touchCmd)) ∨
  (∃ n, p = (.lgtRun x n, lgtCmd)) ∨ (∃ b l v, p = (.testPin x b l, v) ∧ v = testCmd)

end Sys2Proof
end

