-- ==== Sys2Proof/Certificates/Slice0/Obligations.lean ====
section
/-! DEFINITION. The statements about the model, for the provers. -/

open Sys2Proof Sys2Proof.Machine

/-- A step with a command at the front of the queue is `exec` of it with the queue's rest. The queue of waiting commands is the
model's form of a block (log entry 1). -/
def Obligations.StepRunsFrontCommand : Prop :=
  ∀ (s : State) (c : Instr) (r : List Instr), s.pending = r → step { s with pending := c :: r } = exec c s

/-- On an empty queue a step is a tick of the Tide counter and of the log store's operation (DESIGN CHOICE, log entry 2). -/
def Obligations.IdleStepIsATick : Prop :=
  ∀ s : State, s.pending = [] → step s = .next s.tideTick.logTick

/-- The state after reset satisfies the invariant that every step keeps, and nothing waits in its queue. -/
def Obligations.ResetIsCanonical : Prop :=
  State.reset.Wf ∧ State.reset.pending = []

/-- The canonical form of the registers, the memory and the check bits is an invariant of every step, of every command. -/
def Obligations.EveryStepKeepsCanonicalForm : Prop :=
  ∀ s t : State, s.Wf → step s = .next t → t.Wf

/-- No command stops the block, in any state, with any operands; and only the step itself takes commands from the queue. -/
def Obligations.EveryCommandAnswers : Prop :=
  (∀ (c : Instr) (s : State), ∃ t : State, exec c s = .next t ∧ t.pending = s.pending) ∧ ∀ s : State, GoesOn s

/-- The owners and the levels change by the commands listed here alone. -/
def Obligations.OwnersChangeOnlyByRequest : Prop :=
  ∀ (c : Instr) (s t : State), changesOwnership c = false → exec c s = .next t →
    ∀ b : Block, t.owner b = s.owner b ∧ t.expert b = s.expert b

/-- The commands that a session's characters, its port and the mailbox give. What the 3 % is taken of and the fraction of the
mean are the model's choice (log entry 136). -/
def Obligations.SessionInput : Prop :=
  let receives := fun (s : State) (x : Sess) => x ≠ .quay ∧ s.serves x = true ∧ ¬(x = .uart0 ∧ s.console.autobaud = true)
  let controls : List Byte := [3, 8, 10, 13, 0x7F]
  (∀ x c flagged s, receives s x → (flagged = true ∨ c ∉ controls) →
    ∃ t : State, exec (.consoleCharacter x c flagged) s = .next t ∧ (t.sess x).count = (s.sess x).count + 1 ∧
      (t.sess x).bad = ((s.sess x).bad || flagged || badByte c) ∧
      ((s.sess x).count < 160 → (t.sess x).line.map (·.1) = (s.sess x).line.map (·.1) ++ [Char.ofNat c.toNat]) ∧
      (160 ≤ (s.sess x).count → (t.sess x).line = (s.sess x).line)) ∧
  (∀ x s, receives s x → exec (.consoleCharacter x 13 false) s = exec (.lineTerminator x) s ∧
    exec (.consoleCharacter x 3 false) s = exec (.ctrlC x) s ∧ exec (.consoleCharacter x 8 false) s = exec (.backspace x) s ∧
    exec (.consoleCharacter x 0x7F false) s = exec (.backspace x) s ∧ exec (.consoleCharacter x 10 false) s = .next s) ∧
  (∀ c flagged s, s.console.autobaud = true → c ≠ 13 →
    ∃ t : State, exec (.consoleCharacter .uart0 c flagged) s = .next t ∧ t.console.lastCr = none ∧ t.sess .uart0 = s.sess .uart0) ∧
  (∀ x s, receives s x → ((s.sess x).count = 0 → exec (.backspace x) s = .next (s.setSess x (s.sess x))) ∧
    ((s.sess x).count ≠ 0 → ∃ t : State, exec (.backspace x) s = .next t ∧ (t.sess x).count = (s.sess x).count - 1 ∧
      (t.sess x).line = if (s.sess x).count ≤ 160 then (s.sess x).line.dropLast else (s.sess x).line)) ∧
  (∀ x s, s.serves x = true → ¬(x = .uart0 ∧ s.console.autobaud = true) →
    ∃ t : State, exec (.ctrlC x) s = .next t ∧ (t.sess x).line = [] ∧ (t.sess x).count = 0 ∧ (t.sess x).bad = false) ∧
  (∀ s, ∃ t : State, exec .quayBreak s = .next t ∧ (t.sess .quay).line = [] ∧ (t.sess .quay).count = 0) ∧
  (∀ x s, receives s x → s.waitingOf x < 3 →
    ∃ t : State, exec (.lineTerminator x) s = .next t ∧ (t.sess x).line = [] ∧ (t.sess x).count = 0 ∧
      t.console.waiting = s.console.waiting ++
        [(x, ⟨(s.sess x).line.map (·.1), (s.sess x).count, (s.sess x).bad, (s.sess x).lost⟩)]) ∧
  (∀ s, exec .quayGo s = .next (s.put F.QUAY_GO 1)) ∧
  (∀ s, s.on F.QUAY_GO = false → exec .quayLineCopy s = .next s) ∧
  (∀ s, s.on F.QUAY_GO = true → ∃ t : State, exec .quayLineCopy s = .next t ∧ t.on F.QUAY_GO = false) ∧
  (∀ s, s.on F.QUAY_GO = true → s.waitingOf .quay < 3 →
    (∀ c ∈ controls, c ∉ s.bytes 0x70000100 (min (s.get F.QUAY_LEN) 160)) →
    ∃ (t : State) (l : HostLine), exec .quayLineCopy s = .next t ∧ t.console.waiting = s.console.waiting ++ [(.quay, l)] ∧
      l.count = s.get F.QUAY_LEN ∧
      l.text = (s.bytes 0x70000100 (min (s.get F.QUAY_LEN) 160)).map fun b => Char.ofNat b.toNat) ∧
  (∀ v s, exec (.quayRtailWrite v) s = .next (if v.toNat < 3584 then s.put F.QUAY_RTAIL v.toNat else s)) ∧
  (∀ c rate s, s.console.autobaud = true →
    (c ≠ 13 → ∃ t : State, exec (.autobaudCharacter c rate) s = .next t ∧ t.console.autobaud = true ∧ t.console.lastCr = none) ∧
    (s.console.lastCr = none → ∃ t : State, exec (.autobaudCharacter 13 rate) s = .next t ∧ t.console.autobaud = true ∧
      t.console.lastCr = some rate)) ∧
  (∀ r rate s, s.console.autobaud = true → s.console.lastCr = some r →
    ((max r rate - min r rate) * 100 ≤ 3 * r →
      ∃ t : State, exec (.autobaudCharacter 13 rate) s = .next t ∧ t.console.autobaud = false ∧ t.console.rate = (r + rate) / 2 ∧
        t.console.lastCr = none) ∧
    (3 * r < (max r rate - min r rate) * 100 →
      ∃ t : State, exec (.autobaudCharacter 13 rate) s = .next t ∧ t.console.autobaud = true ∧ t.console.lastCr = some rate)) ∧
  (∀ r s, s.console.pendRate = some (some r) →
    ∃ t : State, exec .baudChange s = .next t ∧ t.console.rate = r ∧ t.console.autobaud = false ∧ t.console.pendRate = none) ∧
  (∀ s, s.console.pendRate = some none →
    ∃ t : State, exec .baudChange s = .next t ∧ t.console.autobaud = true ∧ t.console.pendRate = none) ∧
  (∀ x m s, (s.sess x).pendMode = some m →
    ∃ t : State, exec (.modeChange x) s = .next t ∧ (t.sess x).typed = m ∧ (t.sess x).pendMode = none) ∧
  (∀ x s, x ≠ .quay → (s.sess x).stalled = [] → (s.sess x).lostNmea = 0 → (s.sess x).lostNotice = 0 →
    ((s.sess x).echo ≠ "" → ∃ t : State, exec (.outputRoom x) s = .next t ∧ (t.sess x).wire = (s.sess x).echo ∧ (t.sess x).echo = "") ∧
    (∀ o r, (s.sess x).echo = "" → (s.sess x).typed = false → (s.sess x).out = o :: r → o.after = .nothing →
      ∃ t : State, exec (.outputRoom x) s = .next t ∧ (t.sess x).wire = o.text ∧ (t.sess x).out = r))

/-- A console line runs the command of the catalogue that it names. -/
def Obligations.LineRunsItsCommand : Prop :=
  (∀ (s t : State) (x : Sess) (l : HostLine) (a : Args) (verb : String) (p : List String) (c : Command) (q r : Option Command)
    (f : Act), s.nextLine = some (x, l) → l.lost = false → l.bad = false → l.blank = false → l.count ≤ 160 →
    (l.text.head? = some '@' → (tagOf l.text).isSome = true) →
    (s.console.heritage = true → (splitCheck l.text).2 = none) →
    (s.console.heritage = false → (splitCheck l.text).2 = none → (s.sess x).check = false) →
    (∀ v, (splitCheck l.text).2 = some v → v = Text.crc8 (splitCheck l.text).1) →
    parseArgs (if (tagOf l.text).isSome then (splitCheck l.text).1.drop 6 else (splitCheck l.text).1) = some a → a.pos = verb :: p →
    (s.takeLine x l).catalogue x verb p a = some (.forms q r) → (if a.query then r else q) = some c → c.surplus = false →
    c.missing = false → c.transport = true → (c.needKey && a.keyed.isEmpty) = false →
    (a.keyed.any fun k => !c.keys.contains k.1) = false → (s.takeLine x l).precheck x c.info = none → c.act = .ok f →
    f (s.takeLine x l) = .next t → exec .commandExecute s = .next (t.withTag "")) ∧
  (∀ s : State, s.nextLine = none → exec .commandExecute s = .next s) ∧
  (∀ (s : State) (x : Sess) (l : HostLine), s.nextLine = some (x, l) → l.lost = false →
    (l.blank = true → (s.sess x).typed = false → exec .commandExecute s = .next ((s.takeLine x l).withTag "")) ∧
    (160 < l.count → exec .commandExecute s = .next (((s.takeLine x l).er x 102).withTag "")))

/-- What a command that the checks turn away leaves alone. -/
def Obligations.ConsoleErrorLeavesDevice : Prop :=
  ∀ (x : Sess) (n : Nat) (s : State) (p : Instr × CmdInfo), IsSettingCommand x p → s.precheck x p.2 = some n →
    exec p.1 s = .next (s.er x n) ∧
      (∀ (a lo w ofs : Nat) (b : Block), blockAt a = some (b, ofs) → b ≠ .pwr → b ≠ .manApp → b ≠ .manSys → b ≠ .memctl → lo < 32 →
        (s.er x n).get ⟨a, lo, w⟩ = s.get ⟨a, lo, w⟩) ∧
      (s.er x n).tide = s.tide ∧ (s.er x n).gnss = s.gnss ∧ (s.er x n).life = s.life ∧ (s.er x n).crypto = s.crypto ∧
      (s.er x n).logs = s.logs ∧ (s.er x n).app = s.app ∧ (s.er x n).sys = s.sys ∧ (s.er x n).rtc = s.rtc

/-- A plain write and a plain read-and-clear, by the owner's side and by the other (R21), of the memory controller's registers. -/
def Obligations.RegisterReadsAndWrites : Prop :=
  (∀ (m : Master) (v : Word) (s : State), m.side = s.owner .memctl →
    ∃ t : State, exec (.registerWrite m 0x40007010 15 v) s = .next t ∧ t.get F.MEMCTL_DCFG_EN = v.toNat % 2 ∧
      t.get F.MEMCTL_DCFG_SHIFT = v.toNat / 16 % 16 ∧
      ∀ f : Fld, f.key ≠ F.MEMCTL_DCFG_EN.key → f.key ≠ F.MEMCTL_DCFG_SHIFT.key → t.get f = s.get f) ∧
  (∀ (m : Master) (v : Word) (k : Fin 255) (s : State), m.side ≠ s.owner .memctl → 2 ≤ k.val →
    exec (.registerWrite m (BitVec.ofNat 32 (0x40007000 + 4 * k.val)) 15 v) s = .next (s.deny .memctl 0 (4 * k.val) m.side)) ∧
  (∀ (m : Master) (i : Fin 30) (s : State), m.side = s.owner .memctl →
    ∃ t : State, exec (.readClear m (BitVec.ofNat 32 (0x40007100 + 4 * i.val))) s = .next t ∧
      t.busData = BitVec.ofNat 32 (s.get (F.MEMCTL_ERR_CE i) + s.get (F.MEMCTL_ERR_UE i) * 65536) ∧
      t.get (F.MEMCTL_ERR_CE i) = 0 ∧ t.get (F.MEMCTL_ERR_UE i) = 0) ∧
  (∀ (m : Master) (i : Fin 30) (s : State), m.side ≠ s.owner .memctl →
    exec (.readClear m (BitVec.ofNat 32 (0x40007100 + 4 * i.val))) s =
      .next { s with busData := BitVec.ofNat 32 (s.get (F.MEMCTL_ERR_CE i) + s.get (F.MEMCTL_ERR_UE i) * 65536) })

/-- Requests of owner and level, and their quiet points. That a request at a quiet point is granted at once is the model's
reading (log entry 35). -/
def Obligations.OwnersAndLevels : Prop :=
  let code := fun (b : Block) (o : Side) => BitVec.ofNat 32 (b.code + (if o = .app then 65536 else 0))
  (∀ (b : Block) (o : Side) (s : State), b.fixed = false → s.quiet b = true → o ≠ s.owner b →
    (∃ t : State, exec (.sysctlOwnWrite (code b o)) s = .next t ∧ t.owner b = o ∧
      t.expert b = false ∧ t.get F.SYSCTL_OWN_STAT_BLOCK = b.code ∧ t.get F.SYSCTL_OWN_STAT_RESULT = 0) ∧
    (∀ x, accepts s x {} = true → ∃ t : State, exec (.own x b o) s = .next ((t.reply x ("OWN " ++ Name.block b ++ " " ++ Name.owner o ++
      " APPLIED")).ok x) ∧ t.owner b = o ∧ t.expert b = false)) ∧
  (∀ (b : Block) (o : Side) (s : State), b.fixed = false → s.quiet b = false → o ≠ s.owner b →
    (∃ t : State, exec (.sysctlOwnWrite (code b o)) s = .next t ∧ t.owner b = s.owner b ∧
      t.on (F.OWNLVL_OWN_PEND b) = true ∧ t.get F.SYSCTL_OWN_STAT_RESULT = 1) ∧
    (∀ x, accepts s x {} = true → ∃ t : State, exec (.own x b o) s = .next ((t.reply x ("OWN " ++ Name.block b ++ " " ++ Name.owner o ++
      " PENDING")).ok x) ∧ t.owner b = s.owner b ∧ t.on (F.OWNLVL_OWN_PEND b) = true)) ∧
  (∀ (b : Block) (s : State), b.fixed = false →
    (∃ t : State, exec (.sysctlOwnWrite (code b (s.owner b))) s = .next t ∧
      t.owner b = s.owner b ∧ t.on (F.OWNLVL_OWN_PEND b) = false) ∧
    (∀ x, accepts s x {} = true → ∃ t : State, exec (.own x b (s.owner b)) s = .next ((t.reply x ("OWN " ++ Name.block b ++ " " ++
      Name.owner (s.owner b) ++ " APPLIED")).ok x) ∧ t.owner b = s.owner b ∧ t.on (F.OWNLVL_OWN_PEND b) = false)) ∧
  (∀ (b : Block) (o : Side) (s : State), b.fixed = true →
    (∃ t : State, exec (.sysctlOwnWrite (code b o)) s = .next t ∧ t.owner b = s.owner b ∧ t.get F.SYSCTL_OWN_STAT_RESULT = 2) ∧
    (∀ x, accepts s x {} = true → exec (.own x b o) s = .next (s.er x 211))) ∧
  (∀ (b : Block) (s : State), (s.on (F.OWNLVL_OWN_PEND b) = true → s.mayBeQuiet b = true →
      ∃ t : State, exec (.ownershipChange b) s = .next t ∧ t.owner b = (s.owner b).other ∧ t.expert b = false ∧
        t.on (F.OWNLVL_OWN_PEND b) = false) ∧
    (s.on (F.OWNLVL_OWN_PEND b) = false → exec (.ownershipChange b) s = .next s)) ∧
  (∀ (b : Block) (e : Bool) (s : State), b ≠ .sysctl →
    (s.expert b ≠ e → s.quiet b = true →
      (∃ t : State, exec (.levelWrite (s.owner b) b e) s = .next t ∧ t.expert b = e ∧ t.owner b = s.owner b) ∧
      (∀ x, accepts s x { block := some b } = true → ∃ t : State, exec (.levelBlock x b e) s = .next (t.ok x) ∧ t.expert b = e)) ∧
    (s.expert b ≠ e → s.quiet b = false →
      exec (.levelWrite (s.owner b) b e) s = .next (s.put (F.OWNLVL_LVL_PEND b) 1) ∧
      (∀ x, accepts s x { block := some b } = true → exec (.levelBlock x b e) s = .next ((s.put (F.OWNLVL_LVL_PEND b) 1).ok x))) ∧
    (s.expert b = e → exec (.levelWrite (s.owner b) b e) s = .next (s.put (F.OWNLVL_LVL_PEND b) 0) ∧
      (∀ x, accepts s x { block := some b } = true → exec (.levelBlock x b e) s = .next ((s.put (F.OWNLVL_LVL_PEND b) 0).ok x))) ∧
    exec (.levelWrite (s.owner b).other b e) s = .next (s.deny b 0 4 (s.owner b).other)) ∧
  (∀ (side : Side) (e : Bool) (s : State), exec (.levelWrite side .sysctl e) s = .next s) ∧
  (∀ (b : Block) (s : State), (s.on (F.OWNLVL_LVL_PEND b) = true → s.mayBeQuiet b = true →
      ∃ t : State, exec (.levelChange b) s = .next t ∧ t.expert b = !s.expert b ∧ t.on (F.OWNLVL_LVL_PEND b) = false) ∧
    (s.on (F.OWNLVL_LVL_PEND b) = false → exec (.levelChange b) s = .next s)) ∧
  (∀ (x : Sess) (e : Bool) (s : State), accepts s x {} = true → exec (.levelSession x e) s =
    .next ((s.setSess x { s.sess x with expert := e }).ok x)) ∧
  (∀ (x : Sess) (s : State), accepts s x { query := true } = true →
    (∀ b, b ≠ .sysctl → exec (.ownQuery x (some b)) s =
      .next ((s.reply x ("OWN " ++ Name.block b ++ " " ++ Name.owner (s.owner b) ++ " " ++ Name.level (s.expert b))).ok x)) ∧
    exec (.ownQuery x (some .sysctl)) s = .next ((s.reply x "OWN SYSCTL SHARED BASIC").ok x) ∧
    exec (.ownQuery x none) s = .next ((s.replies x (blocksByAddress.map s.ownLine)).ok x))

/-- Settings, queries and tests. The reading of TEST RF and the end of TEST PIN are the model's (log entries 119 and 118). -/
def Obligations.SettingsAndTests : Prop :=
  (∀ (x : Sess) (on : Bool) (s : State), accepts s x sysCmd = true →
    ∃ t : State, exec (.sysCheck x on) s = .next t ∧ (t.sess x).check = on) ∧
  (∀ (x : Sess) (c : Fin 4) (s : State), accepts s x sysCmd = true →
    exec (.sysNotice x c) s = .next ((s.setSess x { s.sess x with notice := c }).ok x)) ∧
  (∀ (x : Sess) (typed : Bool) (s : State), accepts s x { sysCmd with notQuay := true } = true →
    ∃ t : State, t = s.emit x 4 0 0 (.mode typed) (s.console.tag ++ "OK") ∧
      exec (.sysMode x typed) s = .next (if typed then t.sendPrompt x else t)) ∧
  (∀ (x : Sess) (rate : Option Nat) (s : State), accepts s x { sysCmd with uart0Only := true } = true →
    (∀ r, rate = some r → 9600 ≤ r ∧ r ≤ 4000000) → exec (.sysBaud x rate) s = .next (s.finish x (.baud rate) "OK")) ∧
  (∀ (x : Sess) (r : Nat) (s : State), accepts s x { sysCmd with uart0Only := true } = true → (r < 9600 ∨ 4000000 < r) →
    exec (.sysBaud x (some r)) s = .next (s.er x 120)) ∧
  (∀ (x : Sess) (s : State), accepts s x { sysCmd with query := true, scrapOk := true } = true →
    exec (.sysVerQuery x) s = .next ((s.reply x ("SYS VER PART=AXN6240 SI=" ++ Config.siliconName ++ " FW=" ++ Config.firmwareName ++
      " LINEAGE=" ++ Text.dec Config.lineage)).ok x)) ∧
  (∀ (x : Sess) (s : State), accepts s x { query := true, sysGroup := true, scrapOk := true, heritage := true } = true →
    exec (.sysIdQuery x) s = .next ((s.reply x ("SYS ID " ++ devidText)).ok x)) ∧
  (∀ (x : Sess) (s : State), accepts s x { sysCmd with query := true } = true →
    exec (.sysStatQuery x) s = .next ((s.reply x ("SYS STAT UPTIME=" ++ Text.dec (s.tide.up / 2 ^ 56) ++ " CAUSE=" ++
      Name.cause (s.get F.SYSCTL_RCAUSE_LAST) ++ " STATE=" ++ Name.system (s.get F.SYSCTL_RCAUSE_STATE))).ok x)) ∧
  (∀ (x : Sess) (s : State), accepts s x { gnssCmd with query := true } = true →
    exec (.gnssStatQuery x) s = .next ((s.reply x ("GNSS STAT MODE=" ++ modeName s.mode ++ " USED=" ++
      Text.dec (s.get F.GNSS_STAT_USED) ++ " TRACKED=" ++ Text.dec s.tracked ++ " JAM1=" ++ Text.dec (s.get (F.FRONT_JAM_J 0)) ++
      " JAM5=" ++ Text.dec (s.get (F.FRONT_JAM_J 1)))).ok x)) ∧
  (∀ (x : Sess) (s : State), accepts s x { rtcCmd with query := true } = true →
    exec (.rtcOsfQuery x) s = .next ((s.reply x ("RTC OSF " ++ Text.dec (s.get F.RTC_STAT_OSF))).ok x)) ∧
  (∀ (x : Sess) (s : State), accepts s x { lifeCmd with query := true, scrapOk := true } = true →
    exec (.lifeQuery x) s = .next ((s.reply x ("LIFE STATE=" ++ Name.life (s.get F.LIFE_STATE_STATE) ++ " REDEPLOY=" ++
      Text.dec (s.get F.LIFE_STATE_REDEPLOY) ++ " ROLLBACK=" ++ Text.dec (s.get F.LIFE_STATE_ROLLBACK) ++ " CODE=" ++
      Text.hex 4 s.life.code)).ok x)) ∧
  (∀ (x : Sess) (q : Setting) (s : State), accepts s x q.info = true →
    exec (.settingQuery x q) s = .next ((s.replies x (s.settingLines x q)).ok x)) ∧
  (∀ (x : Sess) (s : State), s.settingLines x .level = ["LEVEL " ++ (if (s.sess x).expert then "EXPERT" else "BASIC")] ∧
    s.settingLines x .sysCheck = ["SYS CHECK " ++ (if (s.sess x).check then "ON" else "OFF")] ∧
    s.settingLines x .planElev = ["PLAN ELEV " ++ Text.dec (s.get F.PLAN_CFG_ELEV)]) ∧
  (∀ (x : Sess) (bank : Fin 24) (s : State), accepts s x testCmd = true →
    ∃ t : State, exec (.testMem x bank) s = .next (t.ok x) ∧ t.memTest = some bank ∧ t.powered (2 + bank.val / 8) = true) ∧
  (∀ (s : State), s.memTest.isSome = true →
    ∃ t : State, exec .testMemDone s = .next t ∧ t.memTest = none) ∧
  (∀ (x : Sess) (l5 : Bool) (stage : RfStage) (s : State), accepts s x testCmd = true →
    ∃ (t : State) (n : Nat), t.powered 5 = true ∧ exec (.testRf x l5 stage) s =
      .next ((t.reply x ("TEST RF " ++ (if l5 then "RFL5" else "RFL1") ++ " " ++ stage.name ++ " LEVEL=" ++ Text.dec n)).ok x)) ∧
  (∀ (x : Sess) (pin : Fin 48) (l : PinLevel) (s : State), accepts s x testCmd = true →
    ∃ t : State, exec (.testPin x pin l) s = .next (t.ok x) ∧
      Store.get (fun _ => 3) t.pads.forced pin = (match l with | .low => 0 | .high => 1 | .z => 2))

/-- The receiver's modes and restarts. -/
def Obligations.ReceiverModes : Prop :=
  (∀ (x : Sess) (m : Fin 7) (s : State), accepts s x gnssCmd = true →
    (s.on F.GNSS_MODE_STRAP = true → m.val ≠ 6 → exec (.gnssMode x m) s = .next (s.er x 230)) ∧
    ((s.on F.GNSS_MODE_STRAP = true → m.val = 6) →
      (affords s (s.requestMode m) = true → ∃ (t : State) (a : AfterSent), exec (.gnssMode x m) s = .next (t.finish x a "OK") ∧
        t.get F.GNSS_MODE_MODE = m ∧ t.on F.GNSS_MODE_MODE_PEND = (m.val != s.mode) ∧ t.mode = s.mode) ∧
      (ledgerGrants s (s.requestMode m) = false →
        exec (.gnssMode x m) s = .next ((s.ledgerRefuse .gnss 0x10 .console).er x 312)))) ∧
  (∀ (side : Side) (m : Fin 8) (s : State), opens s side .gnss false = true →
    (m.val ≠ 7 → (s.on F.GNSS_MODE_STRAP = true → m.val = 6) → ledgerGrants s (s.requestMode m) = true →
      ∃ t : State, exec (.gnssModeRegisterWrite side m) s = .next t ∧ t.get F.GNSS_MODE_MODE = m ∧ t.mode = s.mode) ∧
    (m.val = 7 ∨ (s.on F.GNSS_MODE_STRAP = true ∧ m.val ≠ 6) → exec (.gnssModeRegisterWrite side m) s = .next s)) ∧
  (∀ s : State, (s.on F.GNSS_MODE_MODE_PEND = true → s.receiverRests = true →
      ∃ t : State, exec .gnssModeDone s = .next t ∧ t.mode = s.get F.GNSS_MODE_MODE % 8 ∧ t.on F.GNSS_MODE_MODE_PEND = false ∧
        t.console.heritage = (s.get F.GNSS_MODE_MODE == 6)) ∧
    (s.on F.GNSS_MODE_MODE_PEND = false → exec .gnssModeDone s = .next s)) ∧
  (∀ (x : Sess) (p w : Option Nat) (s : State), accepts s x gnssCmd = true →
    let n := p.getD (s.get F.GNSS_BURST_PERIOD)
    let k := w.getD (s.get F.GNSS_BURST_WINDOW)
    (p = none → w = none → exec (.gnssBurst x p w) s = .next (s.er x 111)) ∧
    ((p ≠ none ∨ w ≠ none) →
      (1 ≤ n → n ≤ 60 → 8 ≤ k → k ≤ 250 → ∃ t : State, exec (.gnssBurst x p w) s = .next (t.ok x) ∧ t.get F.GNSS_BURST_PERIOD = n ∧
        t.get F.GNSS_BURST_WINDOW = k) ∧
      (¬(1 ≤ n ∧ n ≤ 60 ∧ 8 ≤ k ∧ k ≤ 250) → exec (.gnssBurst x p w) s = .next (s.er x 120)))) ∧
  (∀ (x : Sess) (k : Restart) (s : State), accepts s x gnssCmd = true →
    ∃ t : State, exec (.gnssRestart x k) s = .next (t.ok x) ∧ t.gnss.restart = some k) ∧
  (∀ s : State, (s.receiverRests = false ∨ s.gnss.restart = none → exec .restartApply s = .next s) ∧
    (∀ k, s.receiverRests = true → s.gnss.restart = some k → k ≠ .hot →
      ∃ t : State, exec .restartApply s = .next t ∧ ∀ i : Fin 5, t.get (F.GNSS_TOFS_OFS i) = 0 ∧ t.get (F.GNSS_TOFS_NSAT i) = 0) ∧
    (s.receiverRests = true → s.gnss.restart = some .hot →
      exec .restartApply s = .next (s.withGnss fun g => { g with restart := none }).reacquire)) ∧
  (∀ s : State, (s.on F.FRONT_CFG_BIAS_EN = true → s.on F.FRONT_CFG_BIAS_SHORT = false →
      ∃ t : State, exec .antennaShort s = .next t ∧ t.get F.FRONT_CFG_BIAS_SHORT = 1) ∧
    (s.on F.FRONT_CFG_BIAS_EN = false ∨ s.on F.FRONT_CFG_BIAS_SHORT = true → exec .antennaShort s = .next s)) ∧
  (∀ s : State, ∃ t : State, exec .osnmaTagExpiry s = .next t ∧ t.gnss.tags = [])

/-- The signal plan. -/
def Obligations.SignalPlan : Prop :=
  (∀ (x : Sess) (sys : Fin 7) (on : Bool) (s : State), accepts s x planCmd = true →
    ((s.console.heritage = true → sys.val ∈ [0, 1, 4]) → ∃ t : State, exec (.planSys x sys on) s = .next (t.ok x) ∧
      t.get F.PLAN_CFG_SYS_EN = withBit (s.get F.PLAN_CFG_SYS_EN) sys on % 128) ∧
    (s.console.heritage = true → sys.val ∉ [0, 1, 4] → exec (.planSys x sys on) s = .next (s.er x 230))) ∧
  (∀ (x : Sess) (deg : Nat) (s : State), accepts s x planCmd = true →
    (deg ≤ 45 → ∃ t : State, exec (.planElev x deg) s = .next (t.ok x) ∧ t.get F.PLAN_CFG_ELEV = deg) ∧
    (45 < deg → exec (.planElev x deg) s = .next (s.er x 120))) ∧
  (∀ (x : Sess) (s : State), accepts s x { planCmd with query := true } = true →
    (∀ i : Fin 128, exec (.planQuery x (some i)) s = .next ((s.reply x (s.planLine i)).ok x) ∧
      (s.slotUsed i = false → s.planLine i = "PLAN " ++ Text.dec i ++ " EMPTY")) ∧
    exec (.planQuery x none) s =
      .next ((s.replies x (((List.range 128).filter fun i => s.slotUsed i).map fun i => s.planLine i)).ok x)) ∧
  (∀ (x : Sess) (i : Fin 128) (sig : Fin 14) (n : Fin 256) (s : State), accepts s x { planCmd with expert := true } = true →
    (s.slotUsed i = false → exec (.planAssign x i sig n) s = .next (s.er x 230)) ∧
    (s.slotUsed i = true → Sig.sys sig ≠ s.get (F.PLAN_SLOT_SV_SYS i) → exec (.planAssign x i sig n) s = .next (s.er x 120)) ∧
    (s.slotUsed i = true → Sig.sys sig = s.get (F.PLAN_SLOT_SV_SYS i) →
      (s.owner (.berth n) = .app → exec (.planAssign x i sig n) s = .next (s.er x 210)) ∧
      (s.owner (.berth n) = .console →
        ((∀ j : Fin 3, s.get (F.PLAN_SLOT_A_SIG i j) ≠ 15 ∧ s.get (F.PLAN_SLOT_A_SIG i j) ≠ sig) →
          exec (.planAssign x i sig n) s = .next (s.er x 320)) ∧
        (∀ j : Fin 3, s.get (F.PLAN_SLOT_A_SIG i j) = sig → (∀ k : Fin 3, k < j → s.get (F.PLAN_SLOT_A_SIG i k) ≠ sig) →
          exec (.planAssign x i sig n) s = .next ((s.setEntry i j sig n).ok x)) ∧
        (∀ j : Fin 3, (∀ k : Fin 3, s.get (F.PLAN_SLOT_A_SIG i k) ≠ sig) → s.get (F.PLAN_SLOT_A_SIG i j) = 15 →
          (∀ k : Fin 3, k < j → s.get (F.PLAN_SLOT_A_SIG i k) ≠ 15) →
          exec (.planAssign x i sig n) s = .next ((s.setEntry i j sig n).ok x)) ∧
        (s.mode ≠ 6 → (∀ j : Fin 3, s.get (F.PLAN_SLOT_A_SIG i j) = 15) → s.on (F.BERTH_CFG_EN n) = false →
          (∀ (l : Fin 128) (j : Fin 3), s.get (F.PLAN_SLOT_A_BERTH l j) ≠ n) → 256 ≤ s.get (F.PLAN_SLOT_A_BERTH i 0) →
          ∃ t : State, exec (.planAssign x i sig n) s = .next (t.ok x) ∧ t.get (F.PLAN_SLOT_A_SIG i 0) = sig ∧
            t.get (F.PLAN_SLOT_A_BERTH i 0) = n ∧ t.on (F.BERTH_CFG_EN n) = true ∧ t.get (F.BERTH_CFG_SIG n) = sig)))) ∧
  (∀ s : State, s.expert .plan = false → s.planDue = true →
    ∃ t : State, exec (.replan []) s = .next t ∧ ∀ i : Fin 128, t.slotUsed i = false) ∧
  (∀ (v : List InView) (s : State), s.expert .plan = true ∨ s.planDue = false → exec (.replan v) s = .next s)

/-- The lookout. That GNSS SNAP acts on LOOKOUT is the model's reading (log entry 69). -/
def Obligations.LookoutSearchesAndSnapshots : Prop :=
  (∀ (lane : Fin 16) (dop : Int) (unc : Nat) (s : State),
    (s.expert .lookout = false → s.laneRuns lane = false → lane.val < s.get F.LOOKOUT_CFG_LANES → s.searching = true →
      s.gnss.window = false →
      (∀ q r, s.ageQueue.gnss.queue = q :: r → ∃ t : State, exec (.laneAssign lane dop unc) s = .next t ∧
        ((t.laneRuns lane = true ∧ t.gnss.queue = r) ∨
          (t.on (F.LOOKOUT_LANE_CMD_ERR lane) = true ∧ t.laneRuns lane = false ∧ t.gnss.queue = q :: r))) ∧
      (s.ageQueue.gnss.queue = [] → exec (.laneAssign lane dop unc) s = .next s.ageQueue)) ∧
    (s.expert .lookout = true ∨ s.laneRuns lane = true ∨ s.get F.LOOKOUT_CFG_LANES ≤ lane.val ∨ s.searching = false ∨
      s.gnss.window = true → exec (.laneAssign lane dop unc) s = .next s)) ∧
  (∀ (side : Side) (lane : Fin 16) (s : State), opens s side .lookout true = true → s.laneRuns lane = false →
    let same := s.gnss.lanes.any fun y => y.2.sig == (s.laneSearch lane).sig && y.2.svn == (s.laneSearch lane).svn
    (s.laneBroken lane = false → same = false →
      ∃ t : State, exec (.laneStart side lane) s = .next t ∧ t.laneRuns lane = true ∧ t.on (F.LOOKOUT_LANE_CMD_ERR lane) = false) ∧
    (s.laneBroken lane = true → same = false →
      ∃ t : State, exec (.laneStart side lane) s = .next t ∧ t.laneRuns lane = false ∧ t.on (F.LOOKOUT_LANE_CMD_ERR lane) = true) ∧
    (same = true → exec (.laneStart side lane) s = .next (s.put (F.LOOKOUT_LANE_CMD_STATE lane) 0))) ∧
  (∀ (side : Side) (lane : Fin 16) (s : State), opens s side .lookout true = true →
    (s.laneRuns lane = true → ∃ t : State, exec (.laneAbort side lane) s = .next t ∧ t.get (F.LOOKOUT_LANE_CMD_STATE lane) = 0 ∧
      t.gnss.lanes = s.gnss.lanes.filter fun y => y.1 != lane.val) ∧
    (s.laneRuns lane = false → exec (.laneAbort side lane) s = .next s)) ∧
  (∀ (lane : Fin 16) (s : State), s.laneRuns lane = true → s.bursts = false →
    (∀ p : Peak, (∀ y ∈ s.gnss.lanes, y.1 = lane.val → y.2.excl = none) → s.get (F.LOOKOUT_LANE_PEAK_LTHRESH lane) < p.ratio.toNat →
      ∃ t : State, exec (.laneSearchEnd lane (some p)) s = .next t ∧ t.get (F.LOOKOUT_LANE_CMD_STATE lane) = 2 ∧
        t.get (F.LOOKOUT_LANE_CODE_PHASE lane) = p.phase.toNat ∧ t.get (F.LOOKOUT_LANE_PEAK_RATIO lane) = p.ratio.toNat) ∧
    (s.expert .lookout = true ∨ (∀ y ∈ s.gnss.lanes, y.1 = lane.val → y.2.deep = none) →
      ∃ t : State, exec (.laneSearchEnd lane none) s = .next t ∧ t.get (F.LOOKOUT_LANE_CMD_STATE lane) = 3)) ∧
  (∀ (lane : Fin 16) (p : Option Peak) (s : State), s.laneRuns lane = false → exec (.laneSearchEnd lane p) s = .next s) ∧
  (∀ (side : Side) (lane : Fin 16) (s : State),
    ∃ t : State, exec (.laneCodeRead side lane) s = .next t ∧ t.busData = BitVec.ofNat 32 (s.get (F.LOOKOUT_LANE_CODE_PHASE lane) +
      s.get (F.LOOKOUT_LANE_CODE_SEG lane) * 65536) ∧
      (side = s.owner .lookout → 2 ≤ s.get (F.LOOKOUT_LANE_CMD_STATE lane) → t.get (F.LOOKOUT_LANE_CMD_STATE lane) = 0) ∧
      (side ≠ s.owner .lookout ∨ s.get (F.LOOKOUT_LANE_CMD_STATE lane) < 2 →
        t.get (F.LOOKOUT_LANE_CMD_STATE lane) = s.get (F.LOOKOUT_LANE_CMD_STATE lane))) ∧
  (∀ (ms : Nat) (data : List (List (BitVec 4 × BitVec 4))) (s : State),
    (s.neededBands ≠ [] → s.bufferSearch = false → s.searching = true → (s.bursts = true → s.gnss.window = true) →
      ∃ t : State, exec (.bufferRecording ms data) s = .next t ∧
        t.gnss.recording = some (s.neededBands, s.recordMs s.neededBands.length ms)) ∧
    (s.neededBands = [] ∨ s.bufferSearch = true ∨ s.searching = false ∨ (s.bursts = true ∧ s.gnss.window = false) →
      exec (.bufferRecording ms data) s = .next s)) ∧
  (∀ (x : Sess) (ms : Nat) (s : State), accepts s x { block := some .lookout, heritage := true } = true →
    ((ms < 2 ∨ 125 < ms) → exec (.gnssSnap x ms) s = .next (s.er x 120)) ∧
    (2 ≤ ms → ms ≤ 125 → (s.mode ≠ 5 ∨ s.on F.LOOKOUT_SNAP_BUSY = true) → exec (.gnssSnap x ms) s = .next (s.er x 230)) ∧
    (2 ≤ ms → ms ≤ 125 → s.mode = 5 → s.on F.LOOKOUT_SNAP_BUSY = false →
      ∃ t : State, exec (.gnssSnap x ms) s = .next (t.ok x) ∧ t.get F.LOOKOUT_SNAP_MS = ms ∧ t.on F.LOOKOUT_SNAP_BUSY = true ∧
        t.gnss.capture = some (ms, s.tide.now, s.get F.TIDE_STAT_STATE))) ∧
  (∀ (side : Side) (s : State), opens s side .lookout false = true → s.mode = 5 → s.on F.LOOKOUT_SNAP_BUSY = false →
    ∃ t : State, exec (.lookoutSnapGo side) s = .next t ∧ t.on F.LOOKOUT_SNAP_BUSY = true ∧ t.get F.LOOKOUT_SNAP_VALID = 0) ∧
  (∀ (samples : List (BitVec 4 × BitVec 4)) (err : Word) (s : State),
    (∀ c : Nat × Nat × Nat, s.gnss.capture = some c →
      ∃ t : State, exec (.snapshotCaptureEnd samples err) s = .next t ∧ t.gnss.capture = none ∧ t.get F.LOOKOUT_SNAP_BUSY = 0 ∧
        t.get F.LOOKOUT_SNAP_VALID = 1) ∧
    (s.gnss.capture = none → exec (.snapshotCaptureEnd samples err) s = .next s)) ∧
  (∀ (side : Side) (s : State), opens s side .lookout false = true →
    exec (.lookoutSnapRelease side) s = .next (s.put F.LOOKOUT_SNAP_VALID 0)) ∧
  (∀ (x : Sess) (a : Aid) (s : State), accepts s x gnssCmd = true →
    ((a.pos.isNone && a.time.isNone && a.acc.isNone) = true → exec (.gnssAid x a) s = .next (s.er x 111)) ∧
    ((a.pos.isNone && a.time.isNone && a.acc.isNone) = false →
      (s.gnss.fix.isSome = true → exec (.gnssAid x a) s = .next (s.ok x)) ∧
      (s.gnss.fix.isSome = false → ∃ t : State, exec (.gnssAid x a) s = .next (t.ok x) ∧ t.gnss.aid = some (a, s.tide.up))))

/-- Control of a berth. -/
def Obligations.BerthControl : Prop :=
  let still := fun (s : State) (n : Fin 256) => (s.berth n).next = none ∧ (s.berth n).leaving = []
  (∀ (side : Side) (n : Fin 256) (s : State), opens s side (.berth n) false = true →
    (s.on (F.BERTH_CFG_EN n) = false →
      (∃ t : State, exec (.berthEnable side n) s = .next t ∧ t.on (F.BERTH_CFG_EN n) = true ∧ t.get (F.BERTH_STAT_STATE n) = 1 ∧
        (t.berth n).kind = none ∧ (t.berth n).hand = none) ∧
      exec (.berthDisable side n) s = .next s) ∧
    (s.on (F.BERTH_CFG_EN n) = true →
      (∃ t : State, exec (.berthDisable side n) s = .next t ∧ t.on (F.BERTH_CFG_EN n) = false ∧
        t.get (F.BERTH_STAT_STATE n) = 0 ∧ (t.berth n).kind = none ∧ (t.berth n).next = none) ∧
      exec (.berthEnable side n) s = .next s)) ∧
  (∀ (n : Fin 256) (s : State),
    (∀ g svn k : Nat, (s.berth n).next = some (g, svn, k) → g < 14 → svn < 256 →
      ∃ t : State, exec (.berthSignalChange n) s = .next t ∧ t.get (F.BERTH_CFG_SIG n) = g ∧ t.get (F.BERTH_CFG_SVN n) = svn ∧
        (t.berth n).next = none ∧ t.get (F.BERTH_STAT_STATE n) = 1 ∧ t.on (F.BERTH_CFG_EN n) = s.on (F.BERTH_CFG_EN n)) ∧
    (still s n → exec (.berthSignalChange n) s = .next s)) ∧
  (∀ (n : Fin 256) (fresh : Option Pred) (s : State), still s n →
    let st := s.get (F.BERTH_STAT_STATE n)
    (s.bursts = true → exec (.berthHandoff n fresh) s = .next s) ∧
    (∀ h : Handoff, s.bursts = false → (s.berth n).hand = some h →
      (s.on (F.BERTH_CFG_EN n) = true ∧ (st = 1 ∨ st = 5) →
        ∃ t : State, exec (.berthHandoff n fresh) s = .next t ∧ t.get (F.BERTH_STAT_STATE n) = 2 ∧
          (t.berth n).kind = some .handoff ∧ (t.berth n).hand = none) ∧
      (¬(s.on (F.BERTH_CFG_EN n) = true ∧ (st = 1 ∨ st = 5)) →
        ∃ t : State, exec (.berthHandoff n fresh) s = .next t ∧ (t.berth n).hand = none ∧
          t.get F.LOOKOUT_CNT_DROPPED = min (s.get F.LOOKOUT_CNT_DROPPED + 1) 255)) ∧
    (∀ p : Pred, (fresh = some p ∧ p.berth = n) ∨ (fresh = none ∧ s.predOf n = some p) → (s.berth n).hand = none →
      s.continuous = true → st = 1 ∨ st = 5 ∨ st = 6 → s.predictable n = true → s.maySeed p = true →
      ∃ t : State, exec (.berthHandoff n fresh) s = .next t ∧ t.get (F.BERTH_STAT_STATE n) = 4 ∧ (t.berth n).kind = some .seed) ∧
    (fresh = none → s.predOf n = none → (s.berth n).hand = none → exec (.berthHandoff n fresh) s = .next s)) ∧
  (∀ (n : Fin 256) (sec : Nat) (s : State),
    (∀ i j pg m : Nat, s.placeOf n = some (i, j) → Sig.partner (s.get (F.BERTH_CFG_SIG n)) = some pg → s.berthOf i pg = some m →
      (s.consoleBerth n = true → (s.berth n).barred = false → (s.berth m).cleared = true → s.on (F.BERTH_STAT_SEC_SYNC m) = true →
        (s.get (F.BERTH_STAT_STATE n) = 1 ∨ s.get (F.BERTH_STAT_STATE n) = 5 →
          ∃ t : State, exec (.partnerStart n sec) s = .next t ∧ t.get (F.BERTH_STAT_STATE n) = 3 ∧
            (t.berth n).kind = some .partner ∧ (t.berth n).dwell = some 0) ∧
        (∀ k, s.get (F.BERTH_STAT_STATE n) = 6 → (s.berth n).kind = some .partner → (s.berth n).dwell = some k →
          ∃ t : State, exec (.partnerStart n sec) s = .next t ∧ t.get (F.BERTH_STAT_STATE n) = 3 ∧ (t.berth n).dwell = some k)) ∧
      (s.consoleBerth n = false ∨ (s.berth n).barred = true ∨ (s.berth m).cleared = false ∨
        s.on (F.BERTH_STAT_SEC_SYNC m) = false → exec (.partnerStart n sec) s = .next s)) ∧
    (∀ i j pg : Nat, s.placeOf n = some (i, j) → Sig.partner (s.get (F.BERTH_CFG_SIG n)) = some pg → s.berthOf i pg = none →
      exec (.partnerStart n sec) s = .next s) ∧
    (s.placeOf n = none ∨ Sig.partner (s.get (F.BERTH_CFG_SIG n)) = none → exec (.partnerStart n sec) s = .next s)) ∧
  (∀ (n : Fin 256) (arms : List Nat) (k : Nat) (s : State), (s.berth n).dwell = some k → s.get (F.BERTH_STAT_STATE n) = 3 →
    let passes := if Sig.pass (s.get (F.BERTH_CFG_SIG n)) = 3 then 1 else 3
    (∀ a, a < 5 → 250 ≤ arms.getD a 0 →
      ∃ t : State, exec (.partnerDwellEnd n arms) s = .next t ∧ t.get (F.BERTH_STAT_STATE n) = 2 ∧ (t.berth n).dwell = none) ∧
    ((∀ a, a < 5 → arms.getD a 0 < 250) →
      (k + 1 < passes → ∃ t : State, exec (.partnerDwellEnd n arms) s = .next t ∧ (t.berth n).dwell = some (k + 1)) ∧
      (passes ≤ k + 1 → (s.berth n).kind.isSome = true → ∃ t : State, exec (.partnerDwellEnd n arms) s = .next t ∧
        t.get (F.BERTH_STAT_STATE n) = (if s.bursts then 6 else 5) ∧ (t.berth n).kind = none))) ∧
  (∀ (n : Fin 256) (arms : List Nat) (s : State), (s.berth n).dwell = none ∨ s.get (F.BERTH_STAT_STATE n) ≠ 3 →
    exec (.partnerDwellEnd n arms) s = .next s) ∧
  (∀ (side : Side) (n : Fin 256) (v : Word) (s : State), opens s side (.berth n) true = true →
    (∃ t : State, exec (.berthIncWrite side n false v) s = .next t ∧ (t.berth n).codeInc = some ⟨v.toNat, s.tooLate n⟩ ∧
      t.get (F.BERTH_LOAD_INC_PEND n) = 1) ∧
    (∃ t : State, exec (.berthIncWrite side n true v) s = .next t ∧ (t.berth n).carrInc = some ⟨v.toNat, s.tooLate n⟩ ∧
      t.get (F.BERTH_LOAD_INC_PEND n) = 1) ∧
    (∃ t : State, exec (.berthLoadCode side n) s = .next t ∧ (t.berth n).loadCode = some (s.tooLate n) ∧
      t.get (F.BERTH_LOAD_CODE_PEND n) = 1) ∧
    (∃ t : State, exec (.berthLoadCarr side n) s = .next t ∧ (t.berth n).loadCarr = some (s.tooLate n) ∧
      t.get (F.BERTH_LOAD_CARR_PEND n) = 1)) ∧
  (∀ (n : Fin 256) (s : State), ∃ t : State, exec (.berthDumpRead n) s = .next t ∧
    t.busData = BitVec.ofNat 32 ((s.berth n).seq + 65536 * (s.berth n).epoch)) ∧
  (∀ (n : Fin 256) (s : State),
    let lost := (s.get (F.BERTH_STAT_STATE n) = 2 ∨ s.get (F.BERTH_STAT_STATE n) = 4) ∧
      2 * s.get (F.BERTH_CN0_CN0 n) < 5 * s.get (F.BERTH_LOCK_LOCK_THR n) ∧ s.get (F.BERTH_LOCK_LOSS_MS n) ≤ (s.berth n).lowMs
    (lost → ∃ t : State, exec (.lockLoss n) s = .next t ∧ t.get (F.BERTH_STAT_STATE n) = 5 ∧ (t.berth n).kind = none) ∧
    (¬lost → exec (.lockLoss n) s = .next s)) ∧
  (∀ (x : Sess) (n : Fin 256) (s : State), accepts s x { query := true } = true →
    (s.on (F.BERTH_CFG_EN n) = false → exec (.berthQuery x n) s = .next ((s.reply x ("BERTH " ++ Text.dec n ++ " IDLE")).ok x)) ∧
    (s.on (F.BERTH_CFG_EN n) = true → exec (.berthQuery x n) s = .next ((s.reply x
      ("BERTH " ++ Text.dec n ++ " " ++ Sig.name (s.get (F.BERTH_CFG_SIG n)) ++ " " ++
        satName (s.berthSys n) (s.get (F.BERTH_CFG_SVN n)) ++ " STATE=" ++ berthState (s.get (F.BERTH_STAT_STATE n)) ++
        " CN0=" ++ Text.fixed 1 (s.get (F.BERTH_CN0_CN0 n)) ++ (if s.on (F.BERTH_STAT_BOND n) then " BOND" else " CLEARED") ++
        " LOCK=" ++ s.lockLetters n ++ " LOCKT=" ++ Text.fixed 2 (s.get (F.BERTH_CN0_LOCKT n)))).ok x))) ∧
  (∀ (x : Sess) (n : Fin 256) (el vevl : Option Nat) (s : State), accepts s x (berthCmd n) = true →
    let inRange := ∀ v ∈ [el, vevl], ∀ k, v = some k → 1 ≤ k ∧ k ≤ 64
    (el = none ∧ vevl = none → exec (.berthSpacing x n el vevl) s = .next (s.er x 111)) ∧
    (¬(el = none ∧ vevl = none) → ¬inRange → exec (.berthSpacing x n el vevl) s = .next (s.er x 120)) ∧
    (¬(el = none ∧ vevl = none) → inRange → ∃ t : State, exec (.berthSpacing x n el vevl) s = .next (t.ok x) ∧
      (t.berth n).arms = some ⟨el.getD (bitsOf (s.armsWord n) 0 7) + vevl.getD (bitsOf (s.armsWord n) 8 7) * 2 ^ 8, s.tooLate n⟩)) ∧
  (∀ (x : Sess) (n : Fin 256) (pll fll dll : Option LoopArg) (s : State), accepts s x (berthCmd n) = true →
    let inRange := loopOk 120 pll && loopOk 80 fll && loopOk 255 dll
    let none3 := pll.isNone && fll.isNone && dll.isNone
    (none3 = true → exec (.berthLoop x n pll fll dll) s = .next (s.er x 111)) ∧
    (none3 = false → inRange = false → exec (.berthLoop x n pll fll dll) s = .next (s.er x 120)) ∧
    (none3 = false → inRange = true → ∃ t : State, exec (.berthLoop x n pll fll dll) s = .next (t.ok x) ∧
      (t.berth n).loop = some ⟨setLoop (setLoop (setLoop (s.loopWord n) 0 7 pll) 8 7 fll) 16 8 dll, s.tooLate n⟩))

/-- What the dumps of a berth leave. SIDE_PEAK_CHECK of a BOC berth with a start, whose check is not done, with the side arms
half a chip away and in pull-in or track, by the sums of the powers: sets BOC_OK when both side sums are at most six tenths of a
prompt that has power; else after four moves refuses the start; else, with a side sum of half again the prompt or more, notes
the move towards the larger one (VL where they are equal, the model's choice, log entry 137); otherwise it leaves the berth's
check to go on. -/
def Obligations.BerthDumps : Prop :=
  let tracks := fun (s : State) (n : Fin 256) => s.get (F.BERTH_STAT_STATE n) = 2 ∨ s.get (F.BERTH_STAT_STATE n) = 4
  (∀ (n : Fin 256) (d : DumpData) (s : State),
    let runs := s.on (F.BERTH_CFG_EN n) = true ∧ 1 ≤ s.get (F.BERTH_STAT_STATE n) ∧ s.get (F.BERTH_STAT_STATE n) ≤ 5 ∧
      s.bandRuns (Sig.band (s.get (F.BERTH_CFG_SIG n))) = true
    (runs → (s.berth n).next = none → (s.berth n).leaving = [] →
      ∃ t : State, exec (.berthDump n d) s = .next t ∧ (t.berth n).seq = ((s.berth n).seq + 1) % 65536 ∧
        (t.berth n).accs = (d.accs.map (·.toNat)).take 10 ++ (s.berth n).accs.drop 10 ∧
        (tracks s n → t.get (F.BERTH_CN0_CN0 n) = d.cn0.toNat ∧ t.get (F.BERTH_DISC_CODE n) = d.code.toNat ∧
          t.get (F.BERTH_DISC_CARR n) = d.carr.toNat)) ∧
    (¬runs → exec (.berthDump n d) s = .next s)) ∧
  (∀ (n : Fin 256) (i q : Word) (sym : Option (Bool × Nat × Nat)) (unit : Option NavUnit) (pre : Option (Bool × Bool)) (s : State),
    let runs := s.on (F.BERTH_CFG_EN n) = true ∧ tracks s n ∧ s.bandRuns (Sig.band (s.get (F.BERTH_CFG_SIG n))) = true
    (runs → (s.berth n).accs.length = 12 → ∃ t : State, exec (.pdDump n i q sym unit pre) s = .next t ∧
      (t.berth n).accs = if Sig.pair (s.get (F.BERTH_CFG_SIG n)) then (s.berth n).accs.take 10 ++ [i.toNat, q.toNat]
        else (s.berth n).accs) ∧
    (¬runs → exec (.pdDump n i q sym unit pre) s = .next s)) ∧
  (∀ (n : Fin 256) (ve p vl : Nat) (s : State),
    let goes := (s.berth n).kind.isSome = true ∧ s.on (F.BERTH_CFG_BOC n) = true ∧ s.on (F.BERTH_STAT_BOC_OK n) = false ∧
      (s.berth n).move = none ∧ s.get (F.BERTH_ARMS_VEVL n) = 32 ∧ tracks s n
    (goes → (s.berth n).sideSums = [ve, p, vl] →
      (p ≠ 0 ∧ ve * 10 ≤ 6 * p ∧ vl * 10 ≤ 6 * p → ∃ t : State, exec (.sidePeakCheck n) s = .next t ∧
        t.on (F.BERTH_STAT_BOC_OK n) = true ∧ (t.berth n).sideSums = []) ∧
      (¬(p ≠ 0 ∧ ve * 10 ≤ 6 * p ∧ vl * 10 ≤ 6 * p) →
        (4 ≤ s.get (F.BERTH_STAT_SIDEJ n) → ∃ t : State, exec (.sidePeakCheck n) s = .next t ∧ (t.berth n).kind = none ∧
          t.get (F.BERTH_STAT_STATE n) = if s.bursts then 6 else 5) ∧
        (s.get (F.BERTH_STAT_SIDEJ n) < 4 → 3 * p ≤ 2 * max ve vl → ∃ t : State, exec (.sidePeakCheck n) s = .next t ∧
          (t.berth n).move = some (decide (ve ≤ vl)) ∧ (t.berth n).sideSums = []) ∧
        (s.get (F.BERTH_STAT_SIDEJ n) < 4 → 2 * max ve vl < 3 * p → ∃ t : State, exec (.sidePeakCheck n) s = .next t ∧
          (t.berth n).move = none ∧ (t.berth n).sideSums = [] ∧ t.on (F.BERTH_STAT_BOC_OK n) = false))) ∧
    (¬goes → exec (.sidePeakCheck n) s = .next s))

/-- Bursts, starts and the front end. -/
def Obligations.BurstsAndSillage : Prop :=
  let low := fun (s : State) => s.get F.PWR_PATH_ACT = 2 ∧ s.get F.HARV_STAT_BAND < 4
  let ready := fun (s : State) => s.get F.CLK_STAT_XTALG = 2 ∧ s.get F.CLK_STAT_RFSYN = 2
  (∀ s : State,
    (s.bursts = true → ¬low s → ∃ t : State, exec .burstWake s = .next t ∧ t.gnss.settling = true ∧
      (s.expert .front = false → t.get F.FRONT_CFG_L1_EN = 1)) ∧
    (s.bursts = true → low s → ∃ t : State, exec .burstWake s = .next t ∧ t.gnss.window = false ∧ t.gnss.settling = false) ∧
    (s.bursts = false → exec .burstWake s = .next s)) ∧
  (∀ (d : Fin 21) (s : State),
    (s.bursts = true → s.gnss.settling = true → ready s →
      let tw := s.plannedStart * tideOne + d.val * tideOne / 10000
      let s1 := s.openWindow tw
      let s2 := (s1.gnss.berths.map (·.1)).foldl State.windowHandoff s1
      let r := s2.seedAll tw s2.gnss.preds
      s1.gnss.window = true ∧ s1.gnss.settling = false ∧ s1.gnss.tw = tw ∧
        exec (.burstWindowStart (some d)) s = .next ((s2.planBerths.foldl State.recoverUnseeded r.1).put F.SILLAGE_STAT_SEEDED r.2) ∧
        exec (.burstWindowStart none) s = .next s) ∧
    (s.bursts = true → s.gnss.settling = true → ¬ready s →
      exec (.burstWindowStart (some d)) s = .next s ∧
      ∃ t : State, exec (.burstWindowStart none) s = .next t ∧ t.gnss.window = false ∧ t.gnss.settling = false)) ∧
  (∀ (d : Option (Fin 21)) (s : State), s.bursts = false ∨ s.gnss.settling = false → exec (.burstWindowStart d) s = .next s) ∧
  (∀ (n : Fin 256) (trail : List ClearMs) (s : State),
    let clears := (s.berth n).kind.isSome = true ∧ (s.berth n).cleared = false ∧ s.get (F.BERTH_STAT_STATE n) = 4 ∧
      s.clearHeld n trail = true ∧ (s.on (F.BERTH_CFG_BOC n) = true → s.on (F.BERTH_STAT_BOC_OK n) = true)
    (clears → ∃ t : State, exec (.startCleared n trail) s = .next t ∧ (t.berth n).cleared = true ∧ (t.berth n).refused = 0) ∧
    (¬clears → exec (.startCleared n trail) s = .next s)) ∧
  (∀ (n : Fin 256) (s : State),
    (s.continuous = true → (s.berth n).cleared = false → (s.berth n).kind.isSome = true →
      ∃ t : State, exec (.startDeadline n) s = .next t ∧ t.get (F.BERTH_STAT_STATE n) = 5 ∧ (t.berth n).kind = none) ∧
    (s.continuous = false ∨ (s.berth n).cleared = true → exec (.startDeadline n) s = .next s)) ∧
  (∀ (side : Side) (n : BitVec 8) (s : State), opens s side .sillage true = true →
    ∃ t : State, exec (.sillagePselWrite side n) s = .next t ∧ t.get F.SILLAGE_PSEL_BERTH = n.toNat ∧
      (s.predOf n.toNat = none → t.get F.SILLAGE_PCODE_PHASE = 0 ∧ t.get F.SILLAGE_PDOP_DOP = 0 ∧ t.get F.SILLAGE_PBITS_MASK = 0) ∧
      (∀ p, s.predOf n.toNat = some p → t.get F.SILLAGE_PCARR_PHASE = p.carr.toNat ∧ t.get F.SILLAGE_PDOP_DOP = pattern 32 p.dop)) ∧
  (∀ (b : Bool) (s : State),
    (s.on (F.FRONT_AGC_OVLD (bit b)) = false → 10 ≤ (s.band (bit b)).hot →
      ∃ t : State, exec (.frontOverload b) s = .next t ∧ t.on (F.FRONT_AGC_OVLD (bit b)) = true) ∧
    (s.on (F.FRONT_AGC_OVLD (bit b)) = true ∨ (s.band (bit b)).hot < 10 → exec (.frontOverload b) s = .next s) ∧
    (100 ≤ (s.band (bit b)).cool → exec (.overloadClear b) s = .next (s.put (F.FRONT_AGC_OVLD (bit b)) 0)) ∧
    ((s.band (bit b)).cool < 100 → exec (.overloadClear b) s = .next s)) ∧
  (∀ (b : Bool) (gain occ : BitVec 8) (bins post : List Nat) (l : List (Fin 4 × Nat)) (s : State),
    (s.rfOn b = false → exec (.notchSpectrum b gain occ bins post l) s = .next s) ∧
    (s.rfOn b = true → ∃ t : State, exec (.notchSpectrum b gain occ bins post l) s = .next t ∧
      t.get (F.FRONT_AGC_GAIN (bit b)) = min 140 gain.toNat ∧ t.get (F.FRONT_AGC_OCC (bit b)) = min 200 occ.toNat ∧
      (s.gnss.notches = [] → s.on (F.FRONT_NCFG_AUTO (bit b)) = false → ∀ k : Fin 4, t.get (F.FRONT_NOTCH_STATE (bit b) k) =
        if s.get (F.FRONT_NOTCH_STATE (bit b) k) = 3 then 3 else 0) ∧
      (s.gnss.notches = [] → s.on (F.FRONT_NCFG_AUTO (bit b)) = true → (∀ j : Fin 4, s.get (F.FRONT_NOTCH_STATE (bit b) j) ≠ 3) →
        (∀ (k : Fin 4) (w : Nat), l = [(k, w)] → s.tonesOf (bit b) bins = [] → s.get (F.FRONT_NOTCH_STATE (bit b) k) = 1 →
          2 ≤ w → w ≤ 200 → s.notchSettled (bit b) k post = true →
          t.get (F.FRONT_NOTCH_STATE (bit b) k) = 2 ∧ t.get (F.FRONT_NOTCH_WIDTH (bit b) k) = w) ∧
        (∀ f : Int, l = [] → s.tonesOf (bit b) bins = [f] → (∀ j : Fin 4, s.get (F.FRONT_NOTCH_STATE (bit b) j) = 0) →
          t.get (F.FRONT_NOTCH_STATE (bit b) 0) = 1 ∧ t.get (F.FRONT_NOTCH_WIDTH (bit b) 0) = 2)))) ∧
  (∀ (b : Bool) (k : Fin 4) (s : State),
    let frees := s.get (F.FRONT_NOTCH_STATE (bit b) k) = 2 ∧ (if s.bursts then 3 else 1000) ≤ (s.band (bit b)).calm.getD k 0
    (frees → exec (.notchRelease b k) s = .next (s.put (F.FRONT_NOTCH_STATE (bit b) k) 0)) ∧
    (¬frees → exec (.notchRelease b k) s = .next s))

/-- Epochs, fixes, rings and NMEA. -/
def Obligations.EpochsFixesAndOutputs : Prop :=
  (∀ (m : List Meas) (fl : List Nat) (s : State),
    let may := (if s.bursts then s.gnss.window = true else s.continuous = true) ∧ s.gnss.opened = false ∧ s.get F.CLK_STAT_XTALG ≠ 3
    (may → ∃ t : State, exec (.epochInstant m fl) s = .next t ∧ t.gnss.opened = true ∧ t.gnss.epoch = some s.nextEpoch ∧
      t.gnss.te = s.instant) ∧
    (¬may → exec (.epochInstant m fl) s = .next s)) ∧
  (∀ s : State,
    (∀ e : Nat, s.gnss.opened = true → s.gnss.epoch = some e → ∃ t : State, exec .epochClose s = .next t ∧ t.gnss.opened = false ∧
      t.gnss.solving = true ∧ t.gnss.closed = some (e, s.gnss.te)) ∧
    (s.gnss.opened = false ∨ s.gnss.epoch = none → exec .epochClose s = .next s)) ∧
  (∀ (f : Solution) (l : List Pred) (s : State),
    (∀ c : Nat × Nat, s.gnss.solving = true → s.gnss.closed = some c →
      ∃ t : State, exec (.fixRecordWrite f l) s = .next t ∧ t.gnss.solving = false ∧ t.gnss.rate = s.get F.GNSS_EPOCHCFG_RATE ∧
        (t.get F.GNSS_STAT_FIX = 0 ∨ t.gnss.fix.isSome = true)) ∧
    (s.gnss.solving = false ∨ s.gnss.closed = none → exec (.fixRecordWrite f l) s = .next s)) ∧
  (∀ (x : Sess) (s : State), accepts s x { query := true, heritage := true } = true →
    (∀ w : List Nat, s.gnss.fix = some w → exec (.gnssFixQuery x) s = .next ((s.reply x (fixLine w)).ok x)) ∧
    (s.gnss.fix = none → exec (.gnssFixQuery x) s = .next (s.er x 401)) ∧
    exec (.measQuery x) s = .next ((s.replies x (s.measLines false)).ok x)) ∧
  (∀ (x : Sess) (s : State), accepts s x { query := true, expert := true, heritage := true } = true →
    exec (.measBondQuery x) s = .next ((s.replies x (s.measLines true)).ok x)) ∧
  (∀ (s : State) (all : Bool), s.gnss.closed = none → s.measLines all = ["MEAS EPOCH=0 TIDE=0.000000000 N=0"]) ∧
  (∀ (x : Sess) (v : Sv) (sig : Fin 14) (s : State), accepts s x { query := true, heritage := true } = true →
    let l := s.gnss.units.filter fun r => r.sig == sig.val && r.sys == v.sys.val && r.svn == v.svn.toNat
    (s.console.heritage = true → Sig.band sig = 4 → exec (.bitsQuery x v sig) s = .next (s.er x 230)) ∧
    (s.console.heritage = false ∨ Sig.band sig ≠ 4 →
      exec (.bitsQuery x v sig) s = .next ((s.replies x ((l.drop (l.length - 5)).map (·.line))).ok x))) ∧
  (∀ s : State, ∃ t : State, exec .measqFixRead s = .next t ∧
    t.busData = BitVec.ofNat 32 ((s.gnss.fix.getD []).getD 0 0) ∧
    ∀ k : Fin 15, t.get (F.MEASQ_FIX_WORD k) = (s.gnss.fix.getD []).getD (k + 1) 0 % 2 ^ 32) ∧
  (∀ (v : BitVec 12) (s : State),
    (v.toNat < 2 ^ s.gnss.measq.2 → ∃ t : State, exec (.measqTailWrite v) s = .next t ∧ t.get F.MEASQ_TAIL_IDX = v.toNat) ∧
    (v.toNat < 2 ^ s.gnss.bitlog.2 → ∃ t : State, exec (.bitlogTailWrite v) s = .next t ∧ t.get F.BITLOG_TAIL_IDX = v.toNat) ∧
    (2 ^ s.gnss.measq.2 ≤ v.toNat → exec (.measqTailWrite v) s = .next s) ∧
    (2 ^ s.gnss.bitlog.2 ≤ v.toNat → exec (.bitlogTailWrite v) s = .next s)) ∧
  (∀ s : State, s.gnss.opened = false → s.gnss.solving = false →
    ((s.get F.MEASQ_BASE_ADDR, s.get F.MEASQ_CFG_SIZE) ≠ s.gnss.measq →
      ∃ t : State, exec (.ringReconfigure false) s = .next t ∧ t.gnss.measq = (s.get F.MEASQ_BASE_ADDR, s.get F.MEASQ_CFG_SIZE) ∧
        t.get F.MEASQ_HEAD_IDX = 0 ∧ t.get F.MEASQ_TAIL_IDX = 0) ∧
    ((s.get F.BITLOG_BASE_ADDR, s.get F.BITLOG_CFG_SIZE) ≠ s.gnss.bitlog →
      ∃ t : State, exec (.ringReconfigure true) s = .next t ∧ t.gnss.bitlog = (s.get F.BITLOG_BASE_ADDR, s.get F.BITLOG_CFG_SIZE) ∧
        t.get F.BITLOG_HEAD_IDX = 0 ∧ t.get F.BITLOG_TAIL_IDX = 0) ∧
    ((s.get F.MEASQ_BASE_ADDR, s.get F.MEASQ_CFG_SIZE) = s.gnss.measq → exec (.ringReconfigure false) s = .next s) ∧
    ((s.get F.BITLOG_BASE_ADDR, s.get F.BITLOG_CFG_SIZE) = s.gnss.bitlog → exec (.ringReconfigure true) s = .next s)) ∧
  (∀ (bitlog : Bool) (s : State), s.gnss.opened = true ∨ s.gnss.solving = true → exec (.ringReconfigure bitlog) s = .next s) ∧
  (∀ (x : Sess) (on : Bool) (p : Option NmeaPort) (s : State), accepts s x nmeaCmd = true →
    ∃ t : State, exec (.nmeaOnOff x on p) s = .next (t.ok x) ∧ t.gnss.nmea.on = on ∧ t.gnss.nmea.port = p.getD s.gnss.nmea.port) ∧
  (∀ (x : Sess) (set : BitVec 9) (s : State), accepts s x nmeaCmd = true →
    ∃ t : State, exec (.nmeaSet x set) s = .next (t.ok x) ∧ t.gnss.nmea.set = set.toNat) ∧
  (∀ (x : Sess) (n : Nat) (s : State), accepts s x nmeaCmd = true →
    (1 ≤ n → n ≤ 60 → ∃ t : State, exec (.nmeaRate x n) s = .next (t.ok x) ∧ t.gnss.nmea.rate = n) ∧
    ((n < 1 ∨ 60 < n) → exec (.nmeaRate x n) s = .next (s.er x 120)))

/-- Register operations of op 0x00 (R431), in both namings the table gives them. -/
def Obligations.RegisterOperations : Prop :=
  ∀ (c : CoreId) (rd ra rb : Reg) (s : State) (op : RegisterOp), atWord s c = true → IsRegisterOp op →
    let v := op.value ((s.core c).gen ra) ((s.core c).gen rb)
    let done := fun t => WordDone c s t (if op.distance = 0 then withReg (s.core c).gen rd v else (s.core c).gen)
      (if op.distance = 0 ∨ rd.val = 0 then [] else [(rd.val, v, op.distance)])
    (∃ t : State, exec (op.command c rd ra rb) s = .next t ∧ done t) ∧
      ((op.fn = .clz → rb = 0) → ∃ t : State, exec (.alu c op.fn rd ra rb) s = .next t ∧ done t)

/-- Operations with an immediate (R430). -/
def Obligations.ImmediateOperations : Prop :=
  ∀ (c : CoreId) (rd ra : Reg) (imm : BitVec 15) (amt : Fin 32) (upper : BitVec 20) (s : State), atWord s c = true →
    (∀ p, IsImmediateOp c rd ra imm amt p → ∃ t : State, exec p.1 s = .next t ∧
      WordDone c s t (withReg (s.core c).gen rd (p.2 ((s.core c).gen ra))) []) ∧
    (∃ t : State, exec (.lui c rd upper) s = .next t ∧ WordDone c s t (withReg (s.core c).gen rd (upper.setWidth 32 <<< 12)) []) ∧
    (∃ t : State, exec (.auipc c rd upper) s = .next t ∧
      WordDone c s t (withReg (s.core c).gen rd ((s.core c).pc + (upper.setWidth 32 <<< 12))) [])

/-- Short operations (R432), alone in either slot. -/
def Obligations.ShortOperations : Prop :=
  ∀ (c : CoreId) (rd rs : SReg) (imm : BitVec 6) (amt : Fin 32) (s : State), atWord s c = true →
    (∀ p, IsShortOp c .b rd rs imm amt p → ∃ t : State, exec p.1 s = .next t ∧
      let v := p.2.1 ((s.core c).gen rd) ((s.core c).gen rs)
      WordDone c s t (if p.2.2 = 0 then withReg (s.core c).gen rd v else (s.core c).gen)
        (if p.2.2 = 0 ∨ rd.val = 0 then [] else [(rd.val, v, p.2.2)])) ∧
    (∀ p, IsShortOp c .a rd rs imm amt p → ∃ t : State, exec p.1 s = .next t ∧
      let v := p.2.1 ((s.core c).gen rd) ((s.core c).gen rs)
      SlotOpen c s t (s.core c).g (if p.2.2 = 0 then withReg (s.core c).gen rd v else (s.core c).gen)
        (if p.2.2 = 0 ∨ rd.val = 0 then [] else [(rd.val, v, p.2.2 + 1)])) ∧
    (∀ i ∈ [Instr.shortNop c .b, .shortFence c .b, .fence c], ∃ t : State, exec i s = .next t ∧ WordDone c s t (s.core c).gen []) ∧
    (∀ i ∈ [Instr.shortNop c .a, .shortFence c .a], ∃ t : State, exec i s = .next t ∧
      SlotOpen c s t (s.core c).g (s.core c).gen [])

/-- Both slots of a paired word read what stood before it (R435). How a lone slot A ends is the model's reading (log entry 93).
-/
def Obligations.PairedSlotsReadTheSameState : Prop :=
  ∀ (c : CoreId) (x rd rs : SReg) (imm : BitVec 6) (s t : State), atWord s c = true → exec (.shortMovi c .a x imm) s = .next t →
    ∃ u : State, exec (.shortAdd c .b rd rs) t = .next u ∧
      WordDone c s u (withReg (withReg (s.core c).gen x (imm.signExtend 32)) rd ((s.core c).gen rd + (s.core c).gen rs)) []

/-- Transfers of control, each with its delay slot (R438, R439). -/
def Obligations.BranchesAndJumps : Prop :=
  ∀ (c : CoreId) (s : State), atWord s c = true →
    let k := s.core c
    let gone := fun (t : State) (a : Word) (g : Nat → Word) => OnlyCore c s t ∧ (t.core c).pc = k.pc + 4 ∧ (t.core c).delay = some a ∧
      (t.core c).flight = [] ∧ (t.core c).pair = none ∧ ∀ r, (t.core c).gen r = g r
    (∀ ra rb disp, ∀ p, IsBranchOp c ra rb disp p → ∃ t : State, exec p.1 s = .next t ∧
      gone t (if p.2 (k.gen ra) (k.gen rb) then k.pc + (disp.signExtend 32 <<< 2) else k.pc + 8) k.gen) ∧
    (∀ disp, ∃ t : State, exec (.jmp c disp) s = .next t ∧ gone t (k.pc + (disp.signExtend 32 <<< 2)) k.gen) ∧
    (∀ disp, ∃ t : State, exec (.call c disp) s = .next t ∧ gone t (k.pc + (disp.signExtend 32 <<< 2)) (withReg k.gen 31 (k.pc + 8))) ∧
    (∀ (rd ra : Reg) (imm : BitVec 15), (k.gen ra + imm.signExtend 32).toNat % 4 = 0 →
      ∃ t : State, exec (.jrl c rd ra imm) s = .next t ∧ gone t (k.gen ra + imm.signExtend 32) (withReg k.gen rd (k.pc + 8))) ∧
    (∀ (rd ra : Reg) (imm : BitVec 15), (k.gen ra + imm.signExtend 32).toNat % 4 ≠ 0 →
      exec (.jrl c rd ra imm) s = .next (s.enter c 3 k.pc (some (k.gen ra + imm.signExtend 32)))) ∧
    (∀ rs : SReg, (k.gen rs).toNat % 4 ≠ 0 → exec (.jr c rs) s = .next (s.enter c 3 k.pc (some (k.gen rs)))) ∧
    ((k.gen 31).toNat % 4 ≠ 0 → exec (.ret c) s = .next (s.enter c 3 k.pc (some (k.gen 31)))) ∧
    (∀ disp, ∃ t : State, exec (.br c disp) s = .next t ∧ gone t (k.pc + (disp.signExtend 32 <<< 2)) k.gen) ∧
    (∀ rs disp, ∃ t : State, exec (.bz c rs disp) s = .next t ∧
      gone t (if k.gen rs = 0 then k.pc + (disp.signExtend 32 <<< 2) else k.pc + 8) k.gen) ∧
    (∀ rs disp, ∃ t : State, exec (.bnz c rs disp) s = .next t ∧
      gone t (if k.gen rs = 0 then k.pc + 8 else k.pc + (disp.signExtend 32 <<< 2)) k.gen) ∧
    (∀ rs : SReg, (k.gen rs).toNat % 4 = 0 → ∃ t : State, exec (.jr c rs) s = .next t ∧ gone t (k.gen rs) k.gen) ∧
    ((k.gen 31).toNat % 4 = 0 → ∃ t : State, exec (.ret c) s = .next t ∧ gone t (k.gen 31) k.gen)

/-- What a delay slot does (R439). -/
def Obligations.DelaySlotLeadsToTarget : Prop :=
  ∀ (c : CoreId) (a : Word) (s : State), s.coreRuns c = true → (s.core c).pair = none → (s.core c).flight = [] →
    (s.core c).doze = false → (s.core c).pc.toNat % 4 = 0 → (s.core c).delay = some a →
    (∀ rd ra rb, ∃ t : State, exec (.add c rd ra rb) s = .next t ∧ (t.core c).pc = a ∧ (t.core c).delay = none ∧
      ∀ r, (t.core c).gen r = withReg (s.core c).gen rd ((s.core c).gen ra + (s.core c).gen rb) r) ∧
    (∀ ra rb d, ∀ p, IsBranchOp c ra rb d p → exec p.1 s = .next (s.enter c 2 (s.core c).pc none)) ∧
    (∀ d rd ra imm short near rs,
      ∀ i ∈ [Instr.jmp c d, .call c d, .jrl c rd ra imm, .br c short, .bz c rs near, .bnz c rs near, .jr c rs, .ret c, .eret c],
      exec i s = .next (s.enter c 2 (s.core c).pc none))

/-- Long loads and stores (R430, R436). -/
def Obligations.LoadsAndStores : Prop :=
  ∀ (c : CoreId) (rt ra : Reg) (am : AddrMode) (s : State), atWord s c = true → (am.updates = true → rt ≠ ra) →
    let k := s.core c
    (∀ p, IsLoadOp c rt ra am p →
      let a := am.address p.2.1 (k.gen ra) (k.gen am.indexReg)
      let r := s.busRead c.master a.toNat p.2.1
      a.toNat % p.2.1 = 0 → Undisturbed c s r.st →
      ∃ t : State, exec p.1 s = .next t ∧
        WordDone c r.st t (withBase k.gen ra (am.base p.2.1 (k.gen ra)))
          (if rt.val = 0 then [] else [(rt.val, loaded p.2.2 r.bytes, 3)])) ∧
    (∀ p, IsStoreOp c rt ra am p →
      let a := am.address p.2 (k.gen ra) (k.gen am.indexReg)
      let r := s.busWrite c.master a.toNat (leBytes p.2 (k.gen rt).toNat)
      a.toNat % p.2 = 0 → Undisturbed c s r.st →
      ∃ t : State, exec p.1 s = .next t ∧
        WordDone c r.st t (withBase k.gen ra (am.base p.2 (k.gen ra))) []) ∧
    (∀ (size : Nat) (x y : Word), (∀ i, (AddrMode.imm i).address size x y = x + i.signExtend 32 ∧ (AddrMode.imm i).base size x = none) ∧
      (∀ rb sc, (AddrMode.index rb sc).address size x y = x + (y <<< sc.val) ∧ (AddrMode.index rb sc).base size x = none) ∧
      (∀ f, (AddrMode.postInc f).address size x y = x ∧
        (AddrMode.postInc f).base size x = some (x + BitVec.ofNat 32 (size * 2 ^ f.val))) ∧
      ∀ f, (AddrMode.preDec f).address size x y = x - BitVec.ofNat 32 (size * 2 ^ f.val) ∧
        (AddrMode.preDec f).base size x = some (x - BitVec.ofNat 32 (size * 2 ^ f.val)))

/-- Short loads and stores (R432, R437), alone in either slot. -/
def Obligations.ShortLoadsAndStores : Prop :=
  ∀ (c : CoreId) (rt ra : SReg) (off : Fin 4) (sl : Slot) (s : State), atWord s c = true →
    let k := s.core c
    let done := fun (u t : State) (g : Nat → Word) (fl : Nat → List (Nat × Word × Nat)) =>
      match sl with
      | .a => SlotOpen c u t k.g g (fl 4)
      | .b => WordDone c u t g (fl 3)
    let load := fun (i : Instr) (a : Word) (size : Nat) (g : Nat → Word) =>
      let r := (opened c s).busRead c.master a.toNat size
      a.toNat % size = 0 → Undisturbed c (opened c s) r.st →
      ∃ t : State, exec i s = .next t ∧ done r.st t g fun d => if rt.val = 0 then [] else [(rt.val, loaded false r.bytes, d)]
    let store := fun (i : Instr) (a : Word) (size : Nat) (g : Nat → Word) =>
      let r := (opened c s).busWrite c.master a.toNat (leBytes size (k.gen rt).toNat)
      a.toNat % size = 0 → Undisturbed c (opened c s) r.st → ∃ t : State, exec i s = .next t ∧ done r.st t g fun _ => []
    load (.shortLdw c sl rt ra off) (k.gen ra + BitVec.ofNat 32 (4 * off.val)) 4 k.gen ∧
    load (.shortLdbu c sl rt ra off) (k.gen ra + BitVec.ofNat 32 off.val) 1 k.gen ∧
    store (.shortStw c sl rt ra off) (k.gen ra + BitVec.ofNat 32 (4 * off.val)) 4 k.gen ∧
    store (.shortStb c sl rt ra off) (k.gen ra + BitVec.ofNat 32 off.val) 1 k.gen ∧
    (rt ≠ ra → load (.ldwp c sl rt ra) (k.gen ra) 4 (withReg k.gen ra (k.gen ra + 4))) ∧
    (rt ≠ ra → store (.stwm c sl rt ra) (k.gen ra - 4) 4 (withReg k.gen ra (k.gen ra - 4)))

/-- Entries, returns and special registers (R445 to R452). What an entry completes and what EPC holds in a delay slot are the
model's readings (log entries 94 and 95). -/
def Obligations.EntriesAndReturns : Prop :=
  ∀ (c : CoreId) (s : State), atWord s c = true →
    let k := s.core c
    let entered := fun (u t : State) (cause : Nat) (epc : Word) (eaddr : Option Word) => OnlyCore c u t ∧
      (t.core c).special 2 = k.special 0 ∧ (t.core c).special 1 = epc ∧ (t.core c).special 3 = BitVec.ofNat 32 cause ∧
      (t.core c).special 4 = eaddr.getD (k.special 4) ∧
      (t.core c).special 0 = (k.special 0 &&& 0xFFFFFFFE) ||| (if cause = 0 then 0 else if cause = 1 then 2 else 4) ∧
      (t.core c).pc = k.special 5 + BitVec.ofNat 32 (0x20 * cause) ∧ (∀ r, (t.core c).gen r = k.gen r) ∧ (t.core c).doze = false
    (∀ code, ∃ t : State, exec (.trap c code) s = .next t ∧ entered s t 5 (k.pc + 4) (some (code.signExtend 32))) ∧
    (∃ t : State, exec (.illegalWord c) s = .next t ∧ entered s t 2 k.pc none) ∧
    (∀ rd ra rb, rb ≠ 0 → ∃ t : State, exec (.alu c .clz rd ra rb) s = .next t ∧ entered s t 2 k.pc none) ∧
    (∀ (rt ra : Reg) (i : BitVec 13), (k.gen ra + i.signExtend 32).toNat % 4 ≠ 0 →
      ∃ t : State, exec (.ldw c rt ra (.imm i)) s = .next t ∧ entered s t 3 k.pc (some (k.gen ra + i.signExtend 32))) ∧
    (let r := s.busRead (fetcher c) k.pc.toNat 4
     Undisturbed c s r.st → ∃ t : State, exec (.fetchUncorrectable c) s = .next t ∧ entered r.st t 4 k.pc (some k.pc)) ∧
    (s.mne c.man = true → k.nmiDue = false → k.special 0 &&& 1 = 1 →
      ∃ t : State, exec (.mneEntry c) s = .next t ∧ entered s t 0 k.pc none) ∧
    (k.nmi = true → k.special 0 &&& 2 = 0 → ∃ t : State, exec (.nmiEntry c) s = .next t ∧ entered s t 1 k.pc none ∧ (t.core c).nmi = false) ∧
    (∃ t : State, exec (.eret c) s = .next t ∧ OnlyCore c s t ∧ (t.core c).special 0 = k.special 2 ∧ (t.core c).pc = k.special 1 ∧
      ∀ r, (t.core c).gen r = k.gen r) ∧
    (∃ t : State, exec (.wait c) s = .next t ∧ WordDone c s t k.gen [] ∧ (t.core c).doze = true) ∧
    (∀ rd sr, sr.val ≠ 6 → ∃ t : State, exec (.mfs c rd sr) s = .next t ∧ WordDone c s t (withReg k.gen rd (k.readSpecial c sr)) []) ∧
    (∀ rd, ∃ t : State, exec (.mfs c rd 6) s = .next t ∧ (t.core c).cycleHi = BitVec.ofNat 32 (k.cycle / 2 ^ 32) ∧
      WordDone c s t (withReg k.gen rd (BitVec.ofNat 32 k.cycle)) []) ∧
    (∀ sr ra, ∃ t : State, exec (.mts c sr ra) s = .next t ∧ WordDone c s t k.gen [(32 + sr.val, k.gen ra, 2)])

/-- Results in flight (R440). -/
def Obligations.ResultsLandAfterTheirWindow : Prop :=
  ∀ (c : CoreId) (s : State) (e : InFlight) (q : List InFlight), s.coreRuns c = true → (s.core c).pair = none →
    (s.core c).doze = false → (s.core c).pc.toNat % 4 = 0 → (s.core c).flight = [e] →
    (0 < e.left → ∃ t : State, exec (.fence c) s = .next t ∧ (t.core c).flight = [{ e with left := e.left - 1 }] ∧
      (t.core c).g = (s.core c).g ∧ (t.core c).s = (s.core c).s) ∧
    (e.left = 0 → e.dest < 32 → ∃ t : State, exec (.fence c) s = .next t ∧ (t.core c).flight = [] ∧
      (∀ r, (t.core c).gen r = withReg (s.core c).gen e.dest e.value r) ∧ (t.core c).s = (s.core c).s) ∧
    (e.left = 0 → 32 ≤ e.dest → ∃ t : State, exec (.fence c) s = .next t ∧ (t.core c).flight = [] ∧
      (∀ r, (t.core c).special r =
        if r = e.dest - 32 then
          (if r = 0 then e.value &&& 7 else if r = 1 ∨ r = 2 ∨ r = 9 ∨ r = 10 then e.value
           else if r = 5 then e.value &&& 0xFFFFFF00 else (s.core c).special r)
        else (s.core c).special r) ∧ (t.core c).g = (s.core c).g)

/-- The Tide: its console commands, its register actions and what its sources do. -/
def Obligations.TideTimeAndItsSources : Prop :=
  (∀ (x : Sess) (s : State), accepts s x { tideCmd with query := true } = true →
    exec (.tideQuery x) s = .next ((s.reply x ("TIDE TIME=" ++ tideText s.tideSec s.tideFrac ++ " SCALE=" ++
      tideScale (s.get F.TIDE_CFG_SCALE) ++ " SRC=" ++ tideSource (s.get F.TIDE_CFG_SRC) ++ " STATE=" ++
      (if s.get F.TIDE_STAT_STATE = 1 then "LOCKED" else "HOLD") ++ " AGE=" ++ Text.dec (s.get F.TIDE_STAT_AGE) ++
      " ERR=" ++ Text.dec (s.get F.TIDE_ERR_ERR))).ok x)) ∧
  (∀ (x : Sess) (f : Fin 4) (c : Fin 6) (s : State), accepts s x tideCmd = true →
    (∃ t : State, exec (.tideSrc x f) s = .next (t.ok x) ∧ t.get F.TIDE_CFG_SRC = f) ∧
    (∃ t : State, exec (.tideScale x c) s = .next (t.ok x) ∧ t.get F.TIDE_CFG_SCALE = c)) ∧
  (∀ (x : Sess) (n : Int) (s : State), accepts s x tideCmd = true →
    (n.natAbs ≤ 64 → ∃ t : State, exec (.tideLeap x n) s = .next (t.ok x) ∧ t.getS F.TIDE_LEAP_CUR = n ∧ t.get F.TIDE_LEAP_SRC = 0) ∧
    (64 < n.natAbs → exec (.tideLeap x n) s = .next (s.er x 120))) ∧
  (∀ (x : Sess) (n : Int) (s : State), accepts s x { tideCmd with expert := true } = true →
    (n.natAbs ≤ 549755814 → s.on F.TIDE_CFG_LOOP_OPEN = true →
      ∃ t : State, exec (.tideRate x n) s = .next (t.ok x) ∧ t.getS F.TIDE_RATE_ADJ = n) ∧
    (n.natAbs ≤ 549755814 → s.on F.TIDE_CFG_LOOP_OPEN = false → exec (.tideRate x n) s = .next (s.er x 230)) ∧
    (549755814 < n.natAbs → exec (.tideRate x n) s = .next (s.er x 120))) ∧
  (∀ (x : Sess) (p q : Option (BitVec 16)) (o : Option Bool) (s : State), accepts s x { tideCmd with expert := true } = true →
    ∃ t : State, exec (.tideLoop x p q o) s = .next (t.ok x) ∧
      t.get F.TIDE_GAIN_KP = (p.map (·.toNat)).getD (s.get F.TIDE_GAIN_KP) ∧
      t.get F.TIDE_GAIN_KI = (q.map (·.toNat)).getD (s.get F.TIDE_GAIN_KI) ∧
      t.on F.TIDE_CFG_LOOP_OPEN = o.getD (s.on F.TIDE_CFG_LOOP_OPEN)) ∧
  (∀ s : State, ∃ t : State, exec .tideNowlRead s = .next t ∧ t.busData = BitVec.ofNat 32 s.tideSec ∧
    t.get F.TIDE_NOWL_SEC = s.tideSec % 2 ^ 32 ∧ t.get F.TIDE_NOWF_FRAC = s.tideFrac % 2 ^ 32 ∧ t.tide = s.tide) ∧
  (∀ (side : Side) (s : State), opens s side .tide true = true → exec (.tideCtrlStep side) s = .next s.softStep) ∧
  (∀ s : State,
    (∀ d : Int, s.tide.step = some d → s.receiverRests = true → ∃ t : State, exec .tideStepApply s = .next t ∧
      t.tide.now = addTime s.tide.now d ∧ t.tide.step = none ∧ t.get F.TIDE_CTRL_STEP_PEND = 0) ∧
    (s.tide.step = none ∨ s.receiverRests = false → exec .tideStepApply s = .next s)) ∧
  (∀ (src : Fin 3) (s : State), ∃ t : State, exec (.sourceTimeout src) s = .next t ∧ t.tide.valid = withBit s.tide.valid src false ∧
    ((s.withTide fun u => { u with valid := withBit u.valid src false }).anyValid = false → s.get F.TIDE_STAT_STATE = 1 →
      t.get F.TIDE_STAT_STATE = 2)) ∧
  (∀ s : State, (s.on F.TIDE_LEAP_PEND = true → ∃ t : State, exec .leapApply s = .next t ∧
      t.getS F.TIDE_LEAP_CUR = s.getS F.TIDE_LEAP_NEXT ∧ t.get F.TIDE_LEAP_SRC = 1 ∧ t.get F.TIDE_LEAP_PEND = 0) ∧
    (s.on F.TIDE_LEAP_PEND = false → exec .leapApply s = .next s)) ∧
  (∀ (n : Nat) (s : State),
    let c := addTime (n * 2 ^ 24) ((s.tide.up : Int) - (s.tide.now : Int))
    let taken := s.tide.lastPps = none ∨ ∃ p : Nat, s.tide.lastPps = some p ∧
      (2 * (tideOne : Int) < (c : Int) - p ∨ ((c : Int) - p - (tideOne : Int)).natAbs ≤ ofNanos 100000)
    (s.fastRuns = true → taken → ∃ t : State, exec (.tpinPulse n) s = .next t ∧ t.tide.lastPps = some c) ∧
    (s.fastRuns = true → ¬taken → exec (.tpinPulse n) s = .next (s.count F.TIDE_PPSCNT_REJ)) ∧
    (s.fastRuns = false → exec (.tpinPulse n) s = .next s)) ∧
  (∀ (n : Int) (s : State), (s.tide.alignDue = true → ∃ t : State, exec (.wakeAlignment n) s = .next t ∧
      t.tide.now = addTime s.tide.now (-ofNanos n) ∧ t.tide.alignDue = false) ∧
    (s.tide.alignDue = false → exec (.wakeAlignment n) s = .next s)) ∧
  (∀ s : State, ∃ t : State, exec .tideErrLimit s = .next t ∧
    t.on F.TP_STAT_STOPPED = (s.lost && s.on F.TP_CTRL_EN && !s.tp.policy) ∧
    t.on F.TP_STAT_FLAG = (s.lost && s.on F.TP_CTRL_EN && s.tp.policy))

/-- TT exchanges and the time pulse. -/
def Obligations.ExchangesAndPulses : Prop :=
  (∀ (x : Sess) (on : Bool) (p : Option Bool) (s : State), accepts s x ttCmd = true →
    let port := p.getD (s.on F.TIDE_TTCFG_PORT)
    (¬(on = true ∧ port = true ∧ s.owner .uart1 ≠ .console) → ∃ t : State, exec (.ttOnOff x on p) s = .next (t.ok x) ∧
      t.on F.TIDE_TTCFG_EN = on ∧ t.on F.TIDE_TTCFG_PORT = port ∧ (on = false → t.tt.open_ = none)) ∧
    (on = true → port = true → s.owner .uart1 ≠ .console → exec (.ttOnOff x on p) s = .next (s.er x 210))) ∧
  (∀ (x : Option Sess) (n : BitVec 16) (a b d : Nat) (s : State),
    let inUse := match x with
      | none => (s.on F.TIDE_TTCFG_EN && s.on F.TIDE_TTCFG_PORT && s.owner .uart1 == .console) = true
      | some x => accepts s x ttCmd = true ∧ s.on F.TIDE_TTCFG_EN = true ∧ s.on F.TIDE_TTCFG_PORT = false ∧ x = .uart0
    let q := fun (v : Int) => roundDiv (v * 4000000000) (2 ^ 33)
    (inUse → ∃ t : State, exec (.ttSync x n a) s = .next t ∧ t.tt.open_ = some ⟨n.toNat, a, none⟩) ∧
    (inUse → s.tt.open_ = none → exec (.ttFollow x n a b) s = .next (s.ttReject 9 n.toNat) ∧
      exec (.ttDresp x n d) s = .next (s.ttReject 9 n.toNat)) ∧
    (∀ (m : Nat) (e : Int), inUse → s.tt.open_ = some ⟨m, e, none⟩ →
      (s.ttLate e = true → exec (.ttFollow x n a b) s = .next (s.ttReject 1 m)) ∧
      (s.ttLate e = false → m ≠ n.toNat → exec (.ttFollow x n a b) s = .next (s.ttReject 3 m)) ∧
      (s.ttLate e = false → m = n.toNat →
        ∃ t : State, exec (.ttFollow x n a b) s = .next t ∧ t.tt.open_ = some ⟨n.toNat, e, some (a, b)⟩)) ∧
    (∀ (m : Nat) (e u v : Int), inUse → s.tt.open_ = some ⟨m, e, some (u, v)⟩ →
      let sum := e - u + ((d : Int) - v)
      (s.ttLate v = true → exec (.ttDresp x n d) s = .next (s.ttReject 2 m)) ∧
      (s.ttLate v = false → m ≠ n.toNat → exec (.ttDresp x n d) s = .next (s.ttReject 3 m)) ∧
      (s.ttLate v = false → m = n.toNat → (sum < 0 ∨ (s.get F.TIDE_TTCFG_MAXDLY * 4 : Nat) < q sum) →
        exec (.ttDresp x n d) s = .next (s.ttReject 4 m)) ∧
      (s.ttLate v = false → m = n.toNat → 0 ≤ sum → q sum ≤ (s.get F.TIDE_TTCFG_MAXDLY * 4 : Nat) →
        (∀ l ∈ s.tt.delays, q sum ≤ (l : Int) + 4000) →
        ∃ t : State, exec (.ttDresp x n d) s = .next t ∧ t.tt.open_ = none ∧ t.get F.TIDE_TTSTAT_LAST = n.toNat ∧
          t.tt.delays = ((q sum).toNat :: s.tt.delays).take 8))) ∧
  (∀ (n : BitVec 16) (a b : Nat) (s : State), s.on F.TIDE_TTCFG_EN = false ∨ s.on F.TIDE_TTCFG_PORT = false ∨ s.owner .uart1 ≠ .console →
    exec (.ttSync none n a) s = .next s ∧ exec (.ttFollow none n a b) s = .next s ∧ exec (.ttDresp none n a) s = .next s) ∧
  (∀ (x : Sess) (n : BitVec 16) (a b : Nat) (s : State), accepts s x ttCmd = true →
    (s.on F.TIDE_TTCFG_EN = false → exec (.ttSync (some x) n a) s = .next (s.er x 230) ∧
      exec (.ttFollow (some x) n a b) s = .next (s.er x 230) ∧ exec (.ttDresp (some x) n a) s = .next (s.er x 230)) ∧
    (s.on F.TIDE_TTCFG_EN = true → s.on F.TIDE_TTCFG_PORT = true ∨ x ≠ .uart0 → exec (.ttSync (some x) n a) s = .next (s.er x 140) ∧
      exec (.ttFollow (some x) n a b) s = .next (s.er x 140) ∧ exec (.ttDresp (some x) n a) s = .next (s.er x 140))) ∧
  (∀ s : State, (s.tt.open_ = none → exec .ttExchangeTimeout s = .next s) ∧ (s.tt.open_ ≠ none →
    ∃ t : State, exec .ttExchangeTimeout s = .next t ∧ t.tt.open_ = none ∧ t.tt.delays = s.tt.delays)) ∧
  (∀ (x : Sess) (s : State), accepts s x { ttCmd with query := true } = true →
    exec (.ttQuery x) s = .next ((s.reply x ("TT OFFSET=" ++ nsText (s.getS F.TIDE_TTOFS_OFFSET) ++ " DELAY=" ++
      nsText (s.get F.TIDE_TTDLY_DELAY) ++ " LAST=" ++ Text.dec (s.get F.TIDE_TTSTAT_LAST))).ok x)) ∧
  (∀ (x : Sess) (on : Bool) (s : State), accepts s x tpCmd = true →
    (affords s (s.enablePulse on) = true →
      ∃ t : State, exec (.tpOnOff x on) s = .next (t.ok x) ∧ t.on F.TP_CTRL_EN = on ∧ (on = false → t.tp.pulse = none)) ∧
    (ledgerGrants s (s.enablePulse on) = false → exec (.tpOnOff x on) s = .next ((s.ledgerRefuse .tp 0x10 .console).er x 312)) ∧
    (ledgerGrants s (s.enablePulse on) = true → s.reserveRefuses (s.enablePulse on) = true →
      exec (.tpOnOff x on) s = .next (s.er x 313))) ∧
  (∀ (x : Sess) (p w : Option Nat) (n : Option Bool) (c : Option (Fin 8)) (s : State), accepts s x tpCmd = true →
    let bad := (∃ v, p = some v ∧ (v * 1000000 < 4294967296 ∨ 2 ^ 64 < v)) ∨ (∃ v, w = some v ∧ (v = 0 ∨ 2 ^ 32 ≤ v))
    (bad → exec (.tpSet x p w n c) s = .next (s.er x 120)) ∧
    (¬bad → ∃ t : State, exec (.tpSet x p w n c) s = .next (t.ok x) ∧
      (s.tp.pulse.isSome = true → t.get F.TP_STAT_APPLY_PEND = 1) ∧
      (s.tp.pulse = none → t.get F.TP_STAT_APPLY_PEND = 0 ∧ (∀ v, p = some v → t.tp.period = v % 2 ^ 64) ∧
        (∀ v, w = some v → t.tp.width = v) ∧ (∀ v, n = some v → t.tp.pol = v) ∧ (∀ v, c = some v → t.tp.scale = v.val)))) ∧
  (∀ (x : Sess) (q : Int) (s : State), accepts s x tpCmd = true →
    (-536870912 ≤ q → q ≤ 536870911 → ∃ t : State, exec (.tpDelay x q) s = .next (t.ok x) ∧ t.getS F.TP_DELAY_DELAY = q ∧
      (s.tp.pulse = none → t.tp.delay = q)) ∧
    (536870911 < q ∨ q < -536870912 → exec (.tpDelay x q) s = .next (s.er x 120))) ∧
  (∀ (x : Sess) (f : Bool) (s : State), accepts s x tpCmd = true →
    ∃ t : State, exec (.tpPolicy x f) s = .next (t.ok x) ∧ t.on F.TP_CTRL_POLICY = f ∧ (s.tp.pulse = none → t.tp.policy = f)) ∧
  (∀ (side : Side) (s : State), opens s side .tp false = true →
    (∀ n, s.tp.pulse = some n → exec (.tpCtrlApply side) s = .next (s.put F.TP_STAT_APPLY_PEND 1)) ∧
    (s.tp.pulse = none → ∃ t : State, exec (.tpCtrlApply side) s = .next t ∧ t.tp.width = s.get F.TP_WIDTH_TICKS ∧
      t.get F.TP_STAT_APPLY_PEND = 0 ∧
      (s.get F.TP_PERS_SEC = 0 → 0 < s.get F.TP_PERF_FRAC → s.get F.TP_PERF_FRAC < 4295 → s.tp.period < 2 ^ 64 →
        t.tp.period = s.tp.period ∧ t.get F.TP_PERF_FRAC = s.tp.period % 2 ^ 32 ∧ t.get F.TP_PERS_SEC = s.tp.period / 2 ^ 32))) ∧
  (∀ s : State, (s.on F.TP_STAT_ON = true → s.tp.pulse = none →
      ∃ t : State, exec .tpLeadingEdge s = .next t ∧ t.tp.next = s.tp.next + 1 ∧ t.tp.pulse = some s.pulseWidth) ∧
    (s.on F.TP_STAT_ON = false ∨ s.tp.pulse.isSome = true → exec .tpLeadingEdge s = .next s)) ∧
  (∀ s : State, ∃ t : State, exec .tpTrailingEdge s = .next t ∧ t.tp.pulse = none ∧ t.get F.TP_STAT_APPLY_PEND = 0 ∧
    (s.on F.TP_STAT_APPLY_PEND = false → t.tp = { s.tp with pulse := none }))

/-- The real-time clock. What happens to a set while the interface is locked is the model's reading (log entry 76). -/
def Obligations.ClockAndItsBackup : Prop :=
  (∀ s : State, s.rtc.setPend = false →
    (s.rtc.cal + 1 < Cal.span → ∃ t : State, exec .rtcSecondBoundary s = .next t ∧
      t.rtc.bin = (s.rtc.bin + 1) % 2 ^ 40 ∧ t.rtc.cal = s.rtc.cal + 1 ∧ t.rtc.pre = 0 ∧
      (s.rtc.shiftPend = true → t.rtc.shift = some (s.getS F.RTC_SHIFT_COUNT) ∧ t.rtc.shiftPend = false)) ∧
    (s.rtc.cal + 1 = Cal.span → ∃ t : State, exec .rtcSecondBoundary s = .next t ∧
      t.rtc.bin = (s.rtc.bin + 1) % 2 ^ 40 ∧ t.rtc.cal = 0 ∧ t.get F.RTC_STAT_OSF = 1)) ∧
  (∀ s : State, s.rtc.setPend = true →
    (∀ d, s.on F.RTC_CTRL_MODE = true → s.stagedDate = some d → ∃ t : State, exec .rtcSecondBoundary s = .next t ∧
      t.rtc.cal = Cal.count d ∧ t.rtc.bin = Cal.toBinary (Cal.count d) ∧ t.rtc.setPend = false) ∧
    (s.on F.RTC_CTRL_MODE = true → s.stagedDate = none → ∃ t : State, exec .rtcSecondBoundary s = .next t ∧
      t.rtc.bin = (s.rtc.bin + 1) % 2 ^ 40 ∧ t.rtc.setPend = false ∧ t.get F.RTC_STAT_BADSET = 1) ∧
    (s.on F.RTC_CTRL_MODE = false → ∃ t : State, exec .rtcSecondBoundary s = .next t ∧
      t.rtc.bin = s.get F.RTC_SBSEC_SEC + s.get F.RTC_SBHI_SECH * 2 ^ 32 ∧ t.rtc.setPend = false ∧
      ∀ c, Cal.ofBinary t.rtc.bin = some c → t.rtc.cal = c)) ∧
  (∀ (x : Sess) (d : DateTime) (f : Option (BitVec 15)) (b : Bool) (s : State), accepts s x rtcCmd = true →
    ((Cal.valid d = false ∨ (b = true ∧ f.isSome = true)) → exec (.rtcSet x d f b) s = .next (s.er x 120)) ∧
    (Cal.valid d = true → (b = false ∨ f = none) →
      (s.on F.RTC_STAT_LOCKED = true → exec (.rtcSet x d f b) s = .next (s.ok x)) ∧
      (s.on F.RTC_STAT_LOCKED = false →
        (b = true → ∃ t : State, exec (.rtcSet x d f b) s = .next (t.ok x) ∧ t.rtc.setPend = true ∧ t.get F.RTC_APPLY_PEND = 1) ∧
        (b = false → ∃ t : State, exec (.rtcSet x d f b) s = .next (t.ok x) ∧ t.rtc.setPend = false ∧ t.get F.RTC_APPLY_PEND = 0 ∧
          (s.rtc.setPend = false → t.rtc.cal = Cal.count d ∧ t.rtc.bin = Cal.toBinary (Cal.count d) ∧ t.rtc.pre = 0 ∧
            ∀ v, f = some v → v ≠ 0 → s.rtc.shiftPend = false →
              t.rtc.shiftPend = true ∧ t.getS F.RTC_SHIFT_COUNT = (v.toNat : Int)))))) ∧
  (∀ (x : Sess) (n : Int) (s : State), accepts s x rtcCmd = true →
    (32767 < n.natAbs → exec (.rtcShift x n) s = .next (s.er x 120)) ∧
    (n.natAbs ≤ 32767 → s.rtcBusy = true → exec (.rtcShift x n) s = .next (s.er x 230)) ∧
    (n.natAbs ≤ 32767 → s.rtcBusy = false → s.on F.RTC_STAT_LOCKED = true → exec (.rtcShift x n) s = .next (s.ok x)) ∧
    (n.natAbs ≤ 32767 → s.rtcBusy = false → s.on F.RTC_STAT_LOCKED = false → ∃ t : State, exec (.rtcShift x n) s = .next (t.ok x) ∧
      t.getS F.RTC_SHIFT_COUNT = n ∧ t.rtc.shiftPend = true ∧ t.get F.RTC_SHIFT_PEND = 1)) ∧
  (∀ (x : Sess) (b : Bool) (s : State), accepts s x rtcCmd = true →
    (b = true ∨ s.get F.GNSS_MODE_ACT_MODE ≠ 6 → ∃ t : State, exec (.rtcMode x b) s = .next (t.ok x) ∧
      t.on F.RTC_CTRL_MODE = if s.on F.RTC_STAT_LOCKED = true then s.on F.RTC_CTRL_MODE else b) ∧
    (b = false → s.get F.GNSS_MODE_ACT_MODE = 6 → exec (.rtcMode x b) s = .next (s.er x 230))) ∧
  (∀ (x : Sess) (k : Fin 2) (s : State), accepts s x rtcCmd = true →
    (s.on F.RTC_STAT_LOCKED = true → ∀ a, exec (.rtcAlarm x k a) s = .next (s.ok x)) ∧
    (s.on F.RTC_STAT_LOCKED = false →
      (∀ c m : BitVec 40, ∃ t : State, exec (.rtcAlarm x k (.binary c m)) s = .next (t.ok x) ∧ t.on (alarmEnable k) = true ∧
        t.get (F.RTC_ALM_BCMPL_CMP k) = c.toNat % 2 ^ 32 ∧ t.get (F.RTC_ALM_BCMPH_CMP k) = c.toNat / 2 ^ 32 ∧
        t.get (F.RTC_ALM_BMSKL_MSK k) = m.toNat % 2 ^ 32 ∧ t.get (F.RTC_ALM_BCMPH_MSK k) = m.toNat / 2 ^ 32) ∧
      (∀ c0 c1 : Word, ∃ t : State, exec (.rtcAlarm x k (.calendar c0 c1)) s = .next (t.ok x) ∧ t.on (alarmEnable k) = true ∧
        t.get (F.RTC_ALM_C0_SEC k) = bitsOf c0.toNat 0 7 ∧ t.get (F.RTC_ALM_C0_MIN k) = bitsOf c0.toNat 8 7 ∧
        t.get (F.RTC_ALM_C0_HOUR k) = bitsOf c0.toNat 16 6 ∧ t.get (F.RTC_ALM_C1_YEAR k) = bitsOf c1.toNat 16 8))) ∧
  (∀ (x : Sess) (r : Fin 4) (b : Bool) (s : State), accepts s x rtcCmd = true →
    (s.on F.RTC_STAT_LOCKED = true → exec (.rtcTrickle x r b) s = .next (s.ok x)) ∧
    (s.on F.RTC_STAT_LOCKED = false →
      ∃ t : State, exec (.rtcTrickle x r b) s = .next (t.ok x) ∧ t.get F.RTC_CTRL_TRK_RES = r ∧ t.on F.RTC_CTRL_TRK_DIODE = b)) ∧
  (∀ (x : Sess) (s : State), accepts s x rtcCmd = true →
    (s.on F.RTC_STAT_OSF = true → s.on F.RTC_STAT_TSET = false → exec (.rtcOsfClear x) s = .next (s.er x 403)) ∧
    (s.on F.RTC_STAT_OSF = false ∨ s.on F.RTC_STAT_TSET = true → exec (.rtcOsfClear x) s =
      .next ((if s.on F.RTC_STAT_LOCKED then s else s.put F.RTC_STAT_OSF 0).ok x))) ∧
  (∀ (x : Sess) (s : State), accepts s x { rtcCmd with query := true } = true →
    exec (.rtcOsfQuery x) s = .next ((s.reply x ("RTC OSF " ++ Text.dec (s.get F.RTC_STAT_OSF))).ok x)) ∧
  (∀ (side : Side) (s : State), s.on F.RTC_STAT_LOCKED = false → opens s side .rtc false = true →
    exec (.rtcApplyNow side) s = .next s.applySet ∧ exec (.rtcApplySecond side) s = .next s.setAtSecond ∧
    (∃ t : State, exec (.rtcApplyCancel side) s = .next t ∧ t.rtc.setPend = false ∧ t.get F.RTC_APPLY_PEND = 0) ∧
    (s.on F.RTC_STAT_TSET = true → exec (.rtcOsfWrite side) s = .next (s.put F.RTC_STAT_OSF 0)) ∧
    (s.on F.RTC_STAT_TSET = false → exec (.rtcOsfWrite side) s = .next (s.deny .rtc 3 0x3C side)) ∧
    (s.rtcBusy = false → exec (.rtcShiftStart side) s = .next (s.startShift (s.getS F.RTC_SHIFT_COUNT))) ∧
    (s.rtcBusy = true → exec (.rtcShiftStart side) s = .next (s.deny .rtc 3 0x38 side))) ∧
  (∀ (side : Side) (s : State), s.on F.RTC_STAT_LOCKED = true →
    exec (.rtcApplyNow side) s = .next s ∧ exec (.rtcApplySecond side) s = .next s ∧ exec (.rtcApplyCancel side) s = .next s ∧
    exec (.rtcOsfWrite side) s = .next s ∧ exec (.rtcShiftStart side) s = .next s) ∧
  (∀ (side : Side) (s : State), exec (.rtcBsecRead side) s = .next (s.captureRtc side) ∧
    (s.captureRtc side).busData = BitVec.ofNat 32 s.rtc.bin ∧ (s.captureRtc .app).rtc.snapApp = some s.rtcGroup ∧
    ∃ t : State, exec (.rtcSnapshotExpiry side) s = .next t ∧ t.rtc = s.rtc.setSnap side none) ∧
  (∀ s : State, ∃ t : State, exec .rtcShiftEnd s = .next t ∧ t.rtc.shift = none ∧ t.rtc.bin = s.rtc.bin ∧
    (s.rtc.shift = none → t = s)) ∧
  (∀ (b : Bool) (s : State), ∃ t : State, exec (.rtcInterfaceLock b) s = .next t ∧ t.get F.RTC_STAT_LOCKED = 1 ∧ t.on F.RTC_STAT_SRC = b ∧
    t.rtc.setPend = false ∧ t.rtc.bin = s.rtc.bin) ∧
  (∀ s : State, ∃ t : State, exec .rtcInterfaceUnlock s = .next t ∧ t.get F.RTC_STAT_LOCKED = 0 ∧ t.rtc = s.rtc) ∧
  (∀ s : State, ∃ t : State, exec .backupDomainReset s = .next t ∧ t.rtc = RtcState.reset ∧ t.get F.RTC_ALMCTL_EN1 = 0 ∧
    t.tide = s.tide ∧ t.app = s.app ∧ t.sys = s.sys) ∧
  (∀ s : State,
    let may := s.owner .rtc = .console ∧ s.on F.RTC_CTRL_DISC_EN = true ∧ s.get F.TIDE_STAT_STATE = 1 ∧
      s.on F.RTC_STAT_LOCKED = false ∧ s.rtcBusy = false
    let d := s.utcTicks - s.rtcTicks
    (may → s.on F.RTC_STAT_OSF = true →
      ∃ t : State, exec .rtcDiscipline s = .next t ∧ t.rtc.setPend = true ∧ t.rtc.clearOsf = true) ∧
    (may → s.on F.RTC_STAT_OSF = false →
      (d = 0 → exec .rtcDiscipline s = .next s) ∧
      (d ≠ 0 → d.natAbs < 32768 →
        ∃ t : State, exec .rtcDiscipline s = .next t ∧ t.rtc.shiftPend = true ∧ t.getS F.RTC_SHIFT_COUNT = d) ∧
      (32768 ≤ d.natAbs → ∃ t : State, exec .rtcDiscipline s = .next t ∧ t.rtc.setPend = true ∧ t.rtc.after.isSome = true)) ∧
    (¬may → exec .rtcDiscipline s = .next s))

/-- Power points, paths and domains. -/
def Obligations.OperatingPointPathAndDomains : Prop :=
  (∀ (x : Sess) (p : Fin 3) (s : State), accepts s x pwrCmd = true →
    (s.on F.PWR_REG_MODE = true → p ≠ 0 → exec (.pwrPoint x p) s = .next (s.er x 230)) ∧
    (s.on F.PWR_REG_MODE = false ∨ p = 0 →
      (affords s (s.requestPoint p) = true → ∃ t : State, exec (.pwrPoint x p) s = .next (t.ok x) ∧ t.get F.PWR_POINT_POINT = p ∧
        t.on F.PWR_POINT_PEND = (p.val != s.get F.PWR_POINT_ACT || s.on F.PWR_POINT_PEND)) ∧
      (s.pointGranted p = false → exec (.pwrPoint x p) s = .next ((s.ledgerRefuse .pwr 0x10 .console).er x 312)) ∧
      (s.pointGranted p = true → s.reserveRefuses (s.requestPoint p) = true → exec (.pwrPoint x p) s = .next (s.er x 313)))) ∧
  (∀ s : State, (s.on F.PWR_POINT_PEND = false → exec .pwrPointDone s = .next s) ∧ (s.on F.PWR_POINT_PEND = true →
    ∃ t : State, exec .pwrPointDone s = .next t ∧ t.get F.PWR_POINT_ACT = s.get F.PWR_POINT_POINT ∧ t.get F.PWR_POINT_PEND = 0)) ∧
  (∀ (side : Side) (v : Word) (s : State), side = s.owner .pwr →
    let p := v.toNat % 4
    let want := p ≠ 3 ∧ ¬(s.on F.PWR_REG_MODE = true ∧ p ≠ 0) ∧ p ≠ s.get F.PWR_POINT_POINT
    (want → s.pointGranted p = false → exec (.pwrPointWrite side v) s = .next (s.ledgerRefuse .pwr 0x10 side)) ∧
    (¬want ∨ s.pointGranted p = true → ∃ t : State, exec (.pwrPointWrite side v) s = .next t ∧
      (want → t.get F.PWR_POINT_POINT = p) ∧ (¬want → t.get F.PWR_POINT_POINT = s.get F.PWR_POINT_POINT) ∧
      t.get F.PWR_POINT_VSET = if s.expert .pwr = true ∧ bitsOf v.toNat 8 8 ≤ 90 then bitsOf v.toNat 8 8
        else s.get F.PWR_POINT_VSET)) ∧
  (∀ (x : Sess) (b : Bool) (s : State), accepts s x pwrCmd = true → ∃ t : State, exec (.pwrPath x b) s = .next (t.ok x) ∧
    t.on F.PWR_PATH_POLICY = b ∧ t.get F.PWR_PATH_ACT = (s.put F.PWR_PATH_POLICY (bit b)).pathChoice) ∧
  (∀ (x : Sess) (s : State), accepts s x pwrCmd = true →
    (s.on F.PWR_REG_ACT = true → exec (.pwrReg x true) s = .next (s.ok x) ∧
      (s.reserveRefuses s.toBuck = true → exec (.pwrReg x false) s = .next (s.er x 313)) ∧
      (s.reserveRefuses s.toBuck = false → ∃ t : State, exec (.pwrReg x false) s = .next (t.ok x) ∧ t.get F.PWR_REG_ACT = 0 ∧
        t.get F.PWR_REG_MODE = 0)) ∧
    (s.on F.PWR_REG_ACT = false → exec (.pwrReg x false) s = .next (s.ok x) ∧
      (s.get F.PWR_POINT_ACT ≠ 0 ∨ s.on F.PWR_POINT_PEND = true → exec (.pwrReg x true) s = .next (s.er x 230)) ∧
      (s.get F.PWR_POINT_ACT = 0 → s.on F.PWR_POINT_PEND = false →
        (s.ldoGranted = true → ∃ t : State, exec (.pwrReg x true) s = .next (t.ok x) ∧ t.get F.PWR_REG_ACT = 1 ∧
          t.get F.PWR_REG_MODE = 1) ∧
        (s.ldoGranted = false → exec (.pwrReg x true) s = .next ((s.ledgerRefuse .pwr 0x18 .console).er x 312))))) ∧
  (∀ (side : Side) (s : State), side = s.owner .pwr →
    (s.on F.PWR_REG_MODE = true → exec (.pwrRegWrite side true) s = .next s ∧
      ∃ t : State, exec (.pwrRegWrite side false) s = .next t ∧ t.get F.PWR_REG_ACT = 0 ∧ t.get F.PWR_REG_MODE = 0) ∧
    (s.on F.PWR_REG_MODE = false → exec (.pwrRegWrite side false) s = .next s ∧
      (s.get F.PWR_POINT_ACT ≠ 0 ∨ s.on F.PWR_POINT_PEND = true → exec (.pwrRegWrite side true) s = .next (s.deny .pwr 3 0x18 side)) ∧
      (s.get F.PWR_POINT_ACT = 0 → s.on F.PWR_POINT_PEND = false →
        (s.ldoGranted = true → ∃ t : State, exec (.pwrRegWrite side true) s = .next t ∧ t.get F.PWR_REG_ACT = 1 ∧
          t.get F.PWR_REG_MODE = 1) ∧
        (s.ldoGranted = false → exec (.pwrRegWrite side true) s = .next (s.ledgerRefuse .pwr 0x18 side))))) ∧
  (∀ (x : Sess) (s : State), accepts s x { pwrCmd with query := true } = true → exec (.pwrLedgerQuery x) s =
    .next ((s.reply x ("PWR LEDGER SUM=" ++ Text.fixed 2 s.ledgerSum ++ " LIMIT=" ++ Text.fixed 2 s.ledgerLimit)).ok x)) ∧
  (∀ (x : Sess) (d : Fin 14) (s : State), accepts s x { pwrCmd with expert := true } = true →
    let t1 := s.put F.PWR_DOMF_FORCE (withBit (s.get F.PWR_DOMF_FORCE) d true)
    let u := { t1 with power := { t1.power with offPend := withBit t1.power.offPend d false } }.needDomain d
    (affords s u = true → exec (.pwrDomain x d true) s = .next (u.ok x) ∧ u.powered d = true ∧
      u.get F.PWR_DOMF_FORCE = withBit (s.get F.PWR_DOMF_FORCE) d true % 2 ^ 14) ∧
    (ledgerGrants s u = false → exec (.pwrDomain x d true) s = .next ((s.ledgerRefuse .pwr 0x20 .console).er x 312)) ∧
    (ledgerGrants s u = true → s.reserveRefuses u = true → exec (.pwrDomain x d true) s = .next (s.er x 313)) ∧
    ((d = 1 ∨ d = 12) → exec (.pwrDomain x d false) s = .next (s.er x 230)) ∧
    (d ≠ 1 → d ≠ 12 → ∃ t : State, exec (.pwrDomain x d false) s = .next (t.ok x) ∧
      t.get F.PWR_DOMF_FORCE = withBit (s.get F.PWR_DOMF_FORCE) d false % 2 ^ 14 ∧ t.power.offPend = withBit s.power.offPend d true)) ∧
  (∀ (x : Sess) (d : Fin 14) (b : Fin 3) (s : State), accepts s x { pwrCmd with expert := true } = true →
    let t := s.put F.PWR_BIAS_BIAS (s.get F.PWR_BIAS_BIAS - bitsOf (s.get F.PWR_BIAS_BIAS) (2 * d) 2 * 2 ^ (2 * d.val) + b.val * 2 ^ (2 * d.val))
    (affords s t = true → exec (.pwrBias x d b) s = .next (t.ok x)) ∧
    (ledgerGrants s t = false → exec (.pwrBias x d b) s = .next ((s.ledgerRefuse .pwr 0x28 .console).er x 312)) ∧
    (ledgerGrants s t = true → s.reserveRefuses t = true → exec (.pwrBias x d b) s = .next (s.er x 313))) ∧
  (∀ (side : Side) (v : BitVec 14) (s : State), side = s.owner .pwr →
    let new := v.toNat ||| (s.get F.PWR_DOMF_FORCE &&& 0x1002)
    let t := s.forceDomains new
    (s.expert .pwr = true → ledgerGrants s t = true → exec (.pwrDomfWrite side v) s = .next t ∧ t.get F.PWR_DOMF_FORCE = new) ∧
    (s.expert .pwr = true → ledgerGrants s t = false → exec (.pwrDomfWrite side v) s = .next (s.ledgerRefuse .pwr 0x20 side)) ∧
    (s.expert .pwr = false → new ≠ s.get F.PWR_DOMF_FORCE → exec (.pwrDomfWrite side v) s = .next (s.deny .pwr 1 0x20 side)) ∧
    (s.expert .pwr = false → new = s.get F.PWR_DOMF_FORCE → exec (.pwrDomfWrite side v) s = .next s)) ∧
  (∀ (d : Fin 14) (s : State),
    let stays := bitOf (s.get F.PWR_DOMF_FORCE) d = true ∨ s.ringHolds .app d = true ∨ s.ringHolds .sys d = true ∨ d = 1 ∨ d = 12 ∨
      (bitOf s.power.offPend d = false ∧ s.domainBusy d = true)
    (∃ t : State, exec (.domainSwitchOn d) s = .next t ∧ t.powered d = true) ∧
    (¬stays → ∃ t : State, exec (.domainSwitchOff d) s = .next t ∧ t.powered d = false) ∧
    (stays → exec (.domainSwitchOff d) s = .next s)) ∧
  (∀ s : State, (∃ t : State, exec .vbatQualify s = .next t ∧ t.get F.PWR_PATH_VBAT_OK = 1) ∧
    (∃ t : State, exec .vbatDisqualify s = .next t ∧ t.get F.PWR_PATH_VBAT_OK = 0) ∧
    (∃ t : State, exec .vstoreDisqualify s = .next t ∧ t.get F.PWR_PATH_STORE_OK = 0) ∧
    (s.on F.HARV_STAT_CONN = true → ∃ t : State, exec .vstoreQualify s = .next t ∧ t.get F.PWR_PATH_STORE_OK = 1) ∧
    (s.on F.HARV_STAT_CONN = false → exec .vstoreQualify s = .next s)) ∧
  (∀ s : State,
    let may := s.on F.PWR_PATH_POLICY = true ∧ s.on F.PWR_PATH_STORE_OK = true ∧ s.get F.HARV_STAT_BAND = 5
    (may → ∃ t : State, exec .pathReturn s = .next t ∧ t.get F.PWR_PATH_ACT = 2) ∧ (¬may → exec .pathReturn s = .next s)) ∧
  (∀ (b : Bool) (s : State), exec (.ioBankReturn b) s = .next (s.put (if b then F.PWR_STAT_IO2_OK else F.PWR_STAT_IO1_OK) 1) ∧
    ∃ t : State, exec (.ioBankLoss b) s = .next t ∧ t.get (if b then F.PWR_STAT_IO2_OK else F.PWR_STAT_IO1_OK) = 0)

/-- Sleep, wakes and brown-outs. What a core brown-out keeps and the order of the power-down are the model's readings (log
entries 80 and 81). -/
def Obligations.SleepWakeAndBrownOut : Prop :=
  (∀ (x : Sess) (d : SleepDepth) (w : BitVec 24) (a b : Bool) (s : State), accepts s x pwrCmd = true →
    exec (.noteSleep x d) s = .next ((s.put F.PWR_SLEEP_DEPTH d.code).ok x) ∧
    ∃ t : State, exec (.noteRetain x w a b) s = .next (t.ok x) ∧ t.get F.PWR_RETAIN_BANKS = w.toNat ∧
      t.on F.PWR_RETAIN_ITCM = a ∧ t.on F.PWR_RETAIN_DTCM = b) ∧
  (∀ (x : Sess) (s : State), accepts s x { pwrCmd with query := true } = true →
    exec (.noteWakeQuery x) s = .next ((s.reply x (wakeLine (s.get F.PWR_WAKE_SRC_SRC) (s.get F.PWR_WAKE_SRC_FROM)
      (s.get F.PWR_WAKE_SEC_SEC) (s.get F.PWR_WAKE_FRAC_FRAC))).ok x) ∧
    exec (.noteHistQuery x) s = .next ((s.replies x ((List.range 8).map fun k =>
      s.ringWakeLine ((s.get F.PWR_WAKE_SRC_IDX + 7 - k) % 8))).ok x)) ∧
  (∀ s : State, let d := min (s.get F.PWR_SLEEP_DEPTH) s.maxDepth
    (s.maySleep = false ∨ d = 0 → exec .sleepEntry s = .next s) ∧
    (s.maySleep = true → d ≠ 0 → ∃ t : State, exec .sleepEntry s = .next t ∧ t.power.depth = d ∧ t.power.latched = 0 ∧
      (d = 1 → t.mem = s.mem ∧ t.app = s.app ∧ t.sys = s.sys))) ∧
  (∀ (n : Nat) (h : BitVec 3) (s : State), (s.power.depth = 0 ∨ s.power.latched = 0 → exec (.sleepExit n h) s = .next s) ∧
    (s.power.depth ≠ 0 → s.power.latched ≠ 0 → ∃ t : State, exec (.sleepExit n h) s = .next t ∧ t.power.depth = 0) ∧
    (s.power.depth = 1 ∨ (s.power.depth = 2 ∧ s.on F.PWR_RETAIN_ITCM = true ∧ s.on F.PWR_RETAIN_DTCM = true) → s.power.latched ≠ 0 →
      ∃ t : State, exec (.sleepExit n h) s = .next t ∧ t.power.depth = 0 ∧
      t.app.doze = false ∧ t.sys.doze = false ∧ t.get F.PWR_WAKE_SRC_FROM = s.power.depth ∧
      t.get F.PWR_WAKE_SEC_SEC = (s.tideSlept n).tideSec % 2 ^ 32)) ∧
  (∀ s : State, (∃ t : State, exec .holdOk s = .next t ∧ t.get F.PWR_STAT_HOLD_OK = 1 ∧ t.on F.PWR_STAT_ARMED = s.on F.PWR_BOR_SAVE_EN) ∧
    ∃ t : State, exec .pwrHoldLow s = .next t ∧ t.get F.PWR_STAT_HOLD_OK = 0 ∧ t.get F.PWR_STAT_ARMED = 0) ∧
  (∀ (c : BorCause) (s : State),
    (s.power.bor = 0 → (c ≠ .noSource ∨ s.get F.PWR_PATH_ACT = 0) →
      ∃ t : State, exec (.pwrBorWarn c) s = .next t ∧ t.power.bor = 1 ∧ t.power.borArmed = s.on F.PWR_STAT_ARMED ∧
        t.get F.CRYPTO_KEY_READY = 0 ∧ t.powered 6 = false) ∧
    (s.power.bor ≠ 0 ∨ (c = .noSource ∧ s.get F.PWR_PATH_ACT ≠ 0) → exec (.pwrBorWarn c) s = .next s)) ∧
  (∀ s : State, (s.power.bor ≠ 2 → exec .tallySave s = .next s) ∧
    (s.power.bor = 2 → ∃ t : State, exec .tallySave s = .next t ∧ t.power.vbor = true ∧ t.power.bor = 0)) ∧
  (∀ s : State, (s.power.bor ≠ 1 → exec .graceExpiry s = .next s) ∧ (s.power.bor = 1 →
    ∃ t : State, exec .graceExpiry s = .next t ∧ t.power.appHeld = true ∧ (s.power.borArmed = false → t.power.vbor = true) ∧
      (s.power.borArmed = true → t.power.bor = 2))) ∧
  (∀ s : State, ∃ t : State, exec .vbatBorAssert s = .next t ∧ t.power.vbor = true ∧ t.power.vholdLost = true) ∧
  (∀ (h : BitVec 3) (s : State), (s.power.vbor = false → exec (.vbatBorRelease h) s = .next s) ∧
    (s.power.vbor = true → ∃ t : State, exec (.vbatBorRelease h) s = .next t ∧ t.power.vbor = false ∧ t.get F.SYSCTL_RCAUSE_LAST = 1)) ∧
  (∀ (h : BitVec 3) (s : State), ∃ t : State, exec (.coreBrownOut h) s = .next t ∧ t.get F.SYSCTL_RCAUSE_LAST = 2 ∧
    t.rtc.bin = s.rtc.bin ∧ t.app.doze = false)

/-- The harvester's settings and guards. -/
def Obligations.HarvesterGuardsTheStore : Prop :=
  (∀ (x : Sess) (s : State), accepts s x { harvCmd with query := true } = true →
    exec (.harvQuery x) s = .next ((s.reply x ("HARV STORE=" ++ Text.fixed 3 (s.get F.HARV_STAT_VST * 5) ++ " STATE=" ++
      Name.band (s.get F.HARV_STAT_BAND) ++ " IN=" ++ Text.dec (s.get F.HARV_IN_PIN))).ok x) ∧
    exec (.harvPermitQuery x) s = .next ((s.reply x ("HARV PERMIT REQ=" ++
      (if s.on F.HARV_PSTAT_REQ then Text.dec (s.get F.HARV_PSTAT_CLS) else "NONE") ++ " GNT=" ++
      Text.dec (s.get F.HARV_PSTAT_GNT) ++ " DENIED=" ++ Text.dec (s.get F.HARV_PCNT_DENIED))).ok x)) ∧
  (∀ (x : Sess) (v : Fin 71) (b : Bool) (n : Nat) (s : State), accepts s x harvCmd = true →
    exec (.harvXmit x v) s = .next ((s.put F.HARV_XMIT_LEVEL v).ok x) ∧
    exec (.harvOvp x b) s = .next ((s.flag F.HARV_PROT_OVP b).ok x) ∧
    ∃ t : State, exec (.harvMppt x b n) s = .next (t.ok x) ∧ t.on F.HARV_MPPT_MODE = b ∧
      (n < 128 → t.get (if b then F.HARV_MPPT_FIXV else F.HARV_MPPT_FRAC) = n)) ∧
  (∀ (v : BitVec 16) (s : State),
    (s.on F.HARV_MPPT_MODE = false → ∃ t : State, exec (.vocRefresh v) s = .next t ∧ t.get F.HARV_IN_VOC = v.toNat ∧
      t.on F.HARV_STAT_CHG = (s.on F.HARV_PROT_CHG_EN && !s.on F.HARV_STAT_OVPT && !s.on F.HARV_STAT_TBLK &&
        200 ≤ v.toNat * s.get F.HARV_MPPT_FRAC / 100)) ∧
    (s.on F.HARV_MPPT_MODE = true → exec (.vocRefresh v) s = .next s)) ∧
  (∀ (b : Fin 6) (s : State),
    (s.on F.HARV_STAT_CONN = (b.val != 0) → ∃ t : State, exec (.bandChange b) s = .next t ∧ t.get F.HARV_STAT_BAND = b ∧
      ((b : Nat) = s.get F.HARV_STAT_BAND → t = s)) ∧
    (s.on F.HARV_STAT_CONN ≠ (b.val != 0) → exec (.bandChange b) s = .next s)) ∧
  (∀ s : State, (∃ t : State, exec .ovpTrip s = .next t ∧ t.get F.HARV_STAT_OVPT = 1 ∧ t.get F.HARV_STAT_CHG = 0) ∧
    (∃ t : State, exec .ovpRecover s = .next t ∧ t.get F.HARV_STAT_OVPT = 0) ∧
    (∃ t : State, exec .uvpTrip s = .next t ∧ t.get F.HARV_STAT_UVP = 1 ∧ t.get F.HARV_STAT_CONN = 0 ∧ t.get F.PWR_PATH_STORE_OK = 0 ∧
      t.get F.HARV_STAT_BAND = 0 ∧ t.harv.off = withBit s.harv.off 0 true)) ∧
  (∀ s : State, ∃ t : State, exec .storeReconnect s = .next t ∧ t.harv.off = withBit s.harv.off 0 false ∧
    t.on F.HARV_STAT_CONN = if t.harv.off = 0 ∧ s.on F.HARV_STAT_LATCH = false then true else s.on F.HARV_STAT_CONN) ∧
  (∀ s : State,
    (bitOf s.harv.off 1 = true → s.on F.HARV_STAT_LATCH = false → ∃ t : State, exec .reconnectRetry s = .next t ∧
      t.harv.off = withBit s.harv.off 1 false ∧ t.on F.HARV_STAT_CONN = if t.harv.off = 0 then true else s.on F.HARV_STAT_CONN) ∧
    (bitOf s.harv.off 1 = false ∨ s.on F.HARV_STAT_LATCH = true → exec .reconnectRetry s = .next s)) ∧
  (∀ (r : Bool) (s : State), exec (.ocpTrip r) s = exec (.shortCircuitTrip r) s ∧
    ∃ t : State, exec (.ocpTrip r) s = .next t ∧ t.harv.trips = (if r then 1 else s.harv.trips + 1) ∧ t.get F.HARV_STAT_OCP = 1 ∧
      t.get F.HARV_STAT_CONN = 0 ∧ t.harv.off = withBit s.harv.off 1 true ∧ (3 ≤ t.harv.trips → t.get F.HARV_STAT_LATCH = 1)) ∧
  (∀ (side : Side) (s : State), side = s.owner .harv →
    (s.on F.HARV_STAT_LATCH = true → ∃ t : State, exec (.harvProtClr side) s = .next t ∧ t.get F.HARV_STAT_LATCH = 0 ∧
      t.harv.trips = 0 ∧ t.harv.off = withBit s.harv.off 1 false ∧ (t.harv.off = 0 → t.get F.HARV_STAT_CONN = 1)) ∧
    (s.on F.HARV_STAT_LATCH = false → exec (.harvProtClr side) s = .next s)) ∧
  (∀ (n : Int) (pin : BitVec 16) (s : State),
    let u := s.put F.HARV_IN_PIN pin.toNat
    (s.on F.HARV_STAT_TBLK = false → 0 ≤ n → n ≤ 450 → exec (.temperatureSample n pin) s = .next u) ∧
    (s.on F.HARV_STAT_TBLK = false → n < 0 ∨ 450 < n → ∃ t : State, exec (.temperatureSample n pin) s = .next t ∧
      t.get F.HARV_STAT_TBLK = 1 ∧ t.get F.HARV_STAT_CHG = 0 ∧ t.get F.HARV_IN_PIN = pin.toNat) ∧
    (s.on F.HARV_STAT_TBLK = true → 30 < n → n < 420 → ∃ t : State, exec (.temperatureSample n pin) s = .next t ∧
      t.get F.HARV_STAT_TBLK = 0 ∧ t.get F.HARV_IN_PIN = pin.toNat) ∧
    (s.on F.HARV_STAT_TBLK = true → n ≤ 30 ∨ 420 ≤ n → exec (.temperatureSample n pin) s = .next u)) ∧
  (∀ (h : BitVec 3) (s : State), (∃ t : State, exec .coldStart s = .next t ∧ t.get F.HARV_STAT_CHG = 1 ∧ t.harv.cold = true) ∧
    (s.harv.cold = false → exec (.coldStartBoot h) s = .next s) ∧
    (s.harv.cold = true → ∃ t : State, exec (.coldStartBoot h) s = .next t ∧ t.get F.HARV_STAT_COLD = 1 ∧ t.harv.cold = false))

/-- Permits of the harvester. -/
def Obligations.PermitsAreAskedAndGranted : Prop :=
  (∀ (us : Nat) (s : State),
    let takes := s.on F.HARV_PCFG_EN = true ∧ s.on F.HARV_PCFG_SRC = false ∧ s.on F.HARV_PSTAT_REQ = false
    (∀ k : Fin 8, takes → (k.val + 1) * 100 ≤ us + 30 → us ≤ (k.val + 1) * 100 + 30 →
      ∃ t : State, exec (.bpreqClassPulse us) s = .next t ∧ t.harv.cls = some k.val ∧ t.harv.ready = true) ∧
    (takes → (∀ k : Fin 8, us + 30 < (k.val + 1) * 100 ∨ (k.val + 1) * 100 + 30 < us) →
      ∃ t : State, exec (.bpreqClassPulse us) s = .next t ∧ t.harv.cls = none ∧
        t.get F.HARV_PCNT_BADREQ = (s.count F.HARV_PCNT_BADREQ).get F.HARV_PCNT_BADREQ) ∧
    (¬takes → exec (.bpreqClassPulse us) s = .next s)) ∧
  (∀ (b : Byte) (s : State),
    (s.on F.HARV_PCFG_EN = true → s.on F.HARV_PCFG_SRC = true →
      (b.toNat < 8 → ∃ t : State, exec (.permitClassWrite b) s = .next t ∧ t.harv.cls = some b.toNat) ∧
      (8 ≤ b.toNat → exec (.permitClassWrite b) s = .next (s.count F.HARV_PCNT_BADREQ))) ∧
    (s.on F.HARV_PCFG_EN = false ∨ s.on F.HARV_PCFG_SRC = false → exec (.permitClassWrite b) s = .next s)) ∧
  (∀ s : State, ∃ t : State, exec .bpreqGapTimeout s = .next t ∧ (s.on F.HARV_PCFG_SRC = false → t.harv.cls = none) ∧
    (s.on F.HARV_PCFG_SRC = true → t = s)) ∧
  (∀ (k : Nat) (v : BitVec 10) (s : State), k < 8 → s.harv.cls = some k → s.on F.HARV_PCFG_EN = true → s.harv.ready = true →
    s.on F.HARV_PSTAT_REQ = false →
    let e := s.get (F.HARV_CLS_E k) * 10
    let top := s.get F.HARV_CELL_K * 4 * (if s.on F.HARV_PROT_OVP then 1000 else 900)
    ∃ t : State, exec (.bpreqRequest v) s = .next t ∧ t.get F.HARV_STAT_VST = v.toNat ∧ t.get F.HARV_PSTAT_CLS = k ∧
      (top < e → t.get F.HARV_PSTAT_NEVER = 1) ∧
      (e ≤ top → s.grantable e v.toNat = false → t.get F.HARV_PSTAT_REQ = 1 ∧ t.get F.HARV_PSTAT_WAIT = 1) ∧
      (e ≤ top → s.grantable e v.toNat = true → t.get F.HARV_PSTAT_REQ = 1 ∧ (t.get F.HARV_PSTAT_GNT = 1 ∨ t.get F.HARV_PSTAT_CUT = 1))) ∧
  (∀ (v : BitVec 10) (s : State), s.harv.cls = none ∨ s.on F.HARV_PCFG_EN = false ∨ s.harv.ready = false ∨
    s.on F.HARV_PSTAT_REQ = true → exec (.bpreqRequest v) s = .next s) ∧
  (∀ s : State, ∃ t : State, exec .bpreqDrop s = .next t ∧ t.get F.HARV_PSTAT_REQ = 0 ∧ t.get F.HARV_PSTAT_GNT = 0 ∧
    t.get F.HARV_PSTAT_WAIT = 0 ∧ t.harv.ready = true) ∧
  (∀ s : State, ∃ t : State, exec .grantTimeout s = .next t ∧ t.get F.HARV_PSTAT_GNT = 0 ∧
    (s.on F.HARV_PSTAT_GNT = true → t.get F.HARV_PSTAT_CUT = 1 ∧ t.harv.ready = false)) ∧
  (∀ (v : BitVec 10) (s : State), (s.on F.HARV_PSTAT_WAIT = false → exec (.storeMeasure v) s = .next s) ∧
    (s.on F.HARV_PSTAT_WAIT = true → ∃ t : State, exec (.storeMeasure v) s = .next t ∧ t.get F.HARV_STAT_VST = v.toNat ∧
      t.on F.HARV_PSTAT_WAIT = !s.grantable s.harv.grantE v.toNat))

/-- Clock sources, islands and monitors. -/
def Obligations.ClocksStartSwitchFailAndReturn : Prop :=
  (∀ (x : Sess) (s : State), accepts s x { clkCmd with query := true } = true →
    let t := s.deriveGates
    (∀ k : Fin 16, exec (.clkQuery x (some k)) s = .next ((t.reply x ("CLK " ++ Text.dec (k.val + 1) ++ " SRC=" ++
      Name.source (t.get (F.CLK_ISL_ACT k)) ++ " PEND=" ++ Text.dec (t.get (F.CLK_ISL_PEND k)) ++ " RUN=" ++
      Text.dec (t.get (F.CLK_ISL_RUN_EN k)) ++ " SLP=" ++ Text.dec (t.get (F.CLK_ISL_SLP_EN k)) ++ " DSLP=" ++
      Text.dec (t.get (F.CLK_ISL_DSLP_EN k)))).ok x)) ∧
    let line := fun n f => "CLK " ++ n ++ " " ++ Name.clockState (t.get f)
    exec (.clkQuery x none) s = .next ((t.replies x [line "HFO" F.CLK_STAT_HFO, line "LFO" F.CLK_STAT_LFO,
      line "XTALL" F.CLK_STAT_XTALL, line "XTALG" F.CLK_STAT_XTALG, line "SYSPLL" F.CLK_STAT_SYSPLL, line "RFSYN" F.CLK_STAT_RFSYN,
      "CLK FLL " ++ (if t.on F.CLK_STAT_FLL_LOCK then "RUN" else "STOP")]).ok x)) ∧
  (∀ (k : Fin 16) (f : Fin 8) (s : State), (s.requestSource k f).get (F.CLK_ISL_SEL k) = f ∧
    (s.requestSource k f).on (F.CLK_ISL_PEND k) = (f.val != s.get (F.CLK_ISL_ACT k))) ∧
  (∀ (x : Sess) (k : Fin 16) (f : Fin 8) (s : State), accepts s x { clkCmd with expert := true } = true →
    (∀ e, s.sourceError k f = some e → exec (.clkSrc x k f) s = .next (s.er x e)) ∧
    (s.sourceError k f = none →
      (affords s (s.requestSource k f) = true → exec (.clkSrc x k f) s = .next ((s.requestSource k f).ok x)) ∧
      (ledgerGrants s (s.requestSource k f) = false →
        exec (.clkSrc x k f) s = .next ((s.ledgerRefuse .clk (0x100 + 4 * k.val) .console).er x 312)) ∧
      (ledgerGrants s (s.requestSource k f) = true → s.reserveRefuses (s.requestSource k f) = true →
        exec (.clkSrc x k f) s = .next (s.er x 313)))) ∧
  (∀ (side : Side) (k : Fin 16) (f : Fin 8) (s : State), side = s.owner .clk → (f : Nat) ≠ s.get (F.CLK_ISL_SEL k) →
    (s.expert .clk = false → exec (.islandSourceRequest side k f) s = .next (s.deny .clk 1 (0x100 + 4 * k.val) side)) ∧
    (s.expert .clk = true →
      (s.sourceError k f ≠ none → exec (.islandSourceRequest side k f) s = .next s) ∧
      (s.sourceError k f = none → ledgerGrants s (s.requestSource k f) = true →
        exec (.islandSourceRequest side k f) s = .next (s.requestSource k f)) ∧
      (s.sourceError k f = none → ledgerGrants s (s.requestSource k f) = false →
        exec (.islandSourceRequest side k f) s = .next (s.ledgerRefuse .clk (0x100 + 4 * k.val) side)))) ∧
  (∀ (k : Fin 16) (s : State),
    let runs := s.on (F.CLK_ISL_PEND k) = true ∧ s.get (stateOfCode (s.get (F.CLK_ISL_SEL k))) = 2
    (runs → ∃ t : State, exec (.islandClockSwitch k) s = .next t ∧ t.get (F.CLK_ISL_ACT k) = s.get (F.CLK_ISL_SEL k) ∧
      t.get (F.CLK_ISL_PEND k) = 0 ∧ t.get (F.CLK_ISL_RUNNING k) = 1) ∧
    (¬runs → exec (.islandClockSwitch k) s = .next s)) ∧
  (∀ (x : Sess) (k : Fin 16) (g : Gate) (b : Bool) (s : State), accepts s x { clkCmd with expert := true } = true →
    (gateFixed k g = true → exec (.clkGate x k g b) s = .next (s.ok x)) ∧
    (gateFixed k g = false → exec (.clkGate x k g b) s = .next ((s.flag (gateField k g) b).ok x))) ∧
  (∀ (x : Sess) (k : Fin 3) (w : BitVec 16) (s : State), accepts s x { clkCmd with expert := true } = true →
    (w = 0 → exec (.clkMon x k w) s = .next (s.er x 120)) ∧
    (w ≠ 0 → exec (.clkMon x k w) s = .next ((s.put (F.CLK_MON_WINDOW k) w.toNat).ok x))) ∧
  (∀ (c : ClockSource) (s : State), c ≠ .fll →
    let starts := s.get (stateOfCode c.code) = 1 ∨ (s.get (stateOfCode c.code) = 3 ∧ bitOf s.clk.retried c.code = true)
    (starts → ∃ t : State, exec (.clockReady c) s = .next t ∧ t.get (stateOfCode c.code) = 2) ∧
    (¬starts → exec (.clockReady c) s = .next s)) ∧
  (∀ s : State, (s.fllMay = true → exec (.clockReady .fll) s = .next (s.put F.CLK_STAT_FLL_LOCK 1)) ∧
    (s.fllMay = false → exec (.clockReady .fll) s = .next s)) ∧
  (∀ (k : Fin 3) (n : BitVec 24) (s : State),
    let m := monitorOf k
    let want := s.get (F.CLK_MON_WINDOW k) * m.2.2.1 / m.2.2.2
    let counts := s.on (F.CLK_MON_EN k) = true ∧ s.get (stateOfCode m.1) = 2 ∧ s.get (stateOfCode m.2.1) = 2
    let within := (max n.toNat want - min n.toNat want) * 1000 ≤ s.get (F.CLK_MON_TOL k) * want
    let again := s.on (F.CLK_MON_DEV k) = true ∧ bitOf s.clk.counted k = true
    (counts → n ≠ 0 → within → ∃ t : State, exec (.monitorWindow k n) s = .next t ∧ t.get (F.CLK_MONCNT_COUNT k) = n.toNat ∧
      t.get (F.CLK_MON_DEV k) = 0 ∧ t.mem = s.mem) ∧
    (counts → n ≠ 0 → ¬within → ¬again → ∃ t : State, exec (.monitorWindow k n) s = .next t ∧
      t.get (F.CLK_MONCNT_COUNT k) = n.toNat ∧ t.get (F.CLK_MON_DEV k) = 1 ∧ t.get (stateOfCode m.1) = 2) ∧
    (counts → n = 0 ∨ (¬within ∧ again) → ∃ t : State, exec (.monitorWindow k n) s = .next t ∧
      t.get F.CLK_FAILREC_SRC = m.1 ∧ t.get F.CLK_FAILREC_KIND = 1) ∧
    (¬counts → exec (.monitorWindow k n) s = .next s)) ∧
  (∀ (g : Bool) (s : State),
    let f := if g then F.CLK_STAT_XTALG else F.CLK_STAT_XTALL
    (s.get f ≠ 3 → (g = true → s.get f ≠ 0) → ∃ t : State, exec (.edgeDetectorFail g) s = .next t ∧
      t.get F.CLK_FAILREC_SRC = (if g then 3 else 2) ∧ t.get F.CLK_FAILREC_KIND = 0) ∧
    (s.get f = 3 ∨ (g = true ∧ s.get f = 0) → exec (.edgeDetectorFail g) s = .next s)) ∧
  (∀ s : State, (s.expert .clk = false → s.power.depth = 0 → exec .clockRetry s = .next s.retryClocks) ∧
    (s.expert .clk = true ∨ s.power.depth ≠ 0 → exec .clockRetry s = .next s)) ∧
  (∀ (side : Side) (s : State), side = s.owner .clk → s.expert .clk = true → exec (.clkCfgRetry side) s = .next s.retryClocks ∧
    (s.get F.CLK_STAT_XTALL = 3 → bitOf s.retryClocks.clk.retried 2 = true)) ∧
  (∀ (n : BitVec 24) (s : State),
    (s.fllMay = true → ∃ t : State, exec (.fllCount n) s = .next t ∧
      t.get F.CLK_STAT_FLL_LOCK = (if 2 * n.toNat ≤ 125025 ∧ 125000 ≤ 2 * n.toNat + 25 then 1 else 0) ∧
      (125025 < 2 * n.toNat → t.get F.CLK_HFO_TRIM = s.get F.CLK_HFO_TRIM - 1) ∧
      (2 * n.toNat + 25 < 125000 → t.get F.CLK_HFO_TRIM = min (s.get F.CLK_HFO_TRIM + 1) 1023)) ∧
    (s.fllMay = false → exec (.fllCount n) s = .next s)) ∧
  (∀ (b : Bool) (s : State),
    let may := s.get (if b then F.CLK_STAT_HFO else F.CLK_STAT_XTALG) = 2 ∧ s.deriveGates.on F.CLK_CFG_PLL_REF = b
    (may → ∃ t : State, exec (.syspllReferenceMove b) s = .next t ∧ t.on F.CLK_STAT_REF_ACT = b) ∧
    (¬may → exec (.syspllReferenceMove b) s = .next s)) ∧
  (∀ (b : Bool) (s : State), exec (.clkRfsynUnlock b) s = .next ((s.berthsUnlock b).raise0 Src.CLK_RFSYN_UNLOCK))

/-- Resets and the watchdog. -/
def Obligations.ResetsRestartWhatTheyName : Prop :=
  (∀ (h : BitVec 3) (b : Bool) (s : State),
    (∃ t : State, exec (.powerOnReset h b) s = .next t ∧ t.get F.SYSCTL_RCAUSE_LAST = 0 ∧ t.app.doze = false ∧ t.uarts = []) ∧
    (∃ t : State, exec (.nrstReset h) s = .next t ∧ t.get F.SYSCTL_RCAUSE_LAST = 3 ∧ t.rtc.bin = s.rtc.bin) ∧
    (∃ t : State, exec (.sysWatchdogReset h) s = .next t ∧ t.get F.SYSCTL_RCAUSE_LAST = 4 ∧ t.rtc.bin = s.rtc.bin)) ∧
  (∀ (m : Master) (b : Bool) (h : BitVec 3) (s : State),
    (m.core = false → exec (.swrstApp m) s = .next s ∧ exec (.swrstAll m b h) s = .next s) ∧
    (m.core = true → (∃ t : State, exec (.swrstAll m b h) s = .next t ∧ t.get F.SYSCTL_RCAUSE_LAST = 6) ∧
      ∃ t : State, exec (.swrstApp m) s = .next t ∧ t.get F.SYSCTL_RCAUSE_LAST = 7 ∧ t.get F.SYSCTL_WDTA_EN = 0 ∧ t.app.doze = false ∧
        t.sys = s.sys)) ∧
  (∀ s : State, (s.on F.SYSCTL_WDTA_EN = false ∨ s.power.depth ≠ 0 → exec .appWatchdogExpiry s = .next s) ∧
    (s.on F.SYSCTL_WDTA_EN = true → s.power.depth = 0 → ∃ t : State, exec .appWatchdogExpiry s = .next t ∧
      t.get F.SYSCTL_RCAUSE_LAST = 5 ∧ t.get F.SYSCTL_WDTA_EN = 0 ∧ t.sys = s.sys)) ∧
  (∀ (v : Byte) (s : State), (v = 0x5A → ∃ t : State, exec (.wdtaServe v) s = .next t ∧ t.power.served = s.tide.up ∧ t.regs = s.regs) ∧
    (v ≠ 0x5A → exec (.wdtaServe v) s = .next s)) ∧
  (∀ s : State, ∃ t : State, exec .wdtaEnable s = .next t ∧ t.get F.SYSCTL_WDTA_EN = 1 ∧
    t.power.served = if s.on F.SYSCTL_WDTA_EN = true then s.power.served else s.tide.up) ∧
  (∀ (x : Sess) (s : State), accepts s x { sysCmd with query := true } = true → exec (.sysStatQuery x) s =
    .next ((s.reply x ("SYS STAT UPTIME=" ++ Text.dec (s.tide.up / 2 ^ 56) ++ " CAUSE=" ++ Name.cause (s.get F.SYSCTL_RCAUSE_LAST) ++
      " STATE=" ++ Name.system (s.get F.SYSCTL_RCAUSE_STATE))).ok x)) ∧
  (∀ (x : Sess) (s : State), accepts s x { sysGroup := true, heritage := true } = true →
    (∃ t : State, exec (.sysReset x false) s = .next t ∧ t.get F.SYSCTL_RCAUSE_LAST = 7) ∧
    ∃ t : State, exec (.sysReset x true) s = .next t ∧ t.get F.SYSCTL_RCAUSE_LAST = 6)

/-- Lifecycle and images. That a failed LIFE GO changes the code (log entry 48) and which port loads (log entry 90) are the
model's readings. -/
def Obligations.LifecycleMovesAndImagesLoad : Prop :=
  (∀ (x : Sess) (g : LifeState) (c : Option (BitVec 16)) (h : BitVec 3) (s : State), accepts s x lifeCmd = true →
    (transition s.life.fuses.state g.code = false → exec (.lifeGo x g c h) s = .next (s.newCode.er x 120)) ∧
    (transition s.life.fuses.state g.code = true → c.map (·.toNat) ≠ some s.life.code →
      exec (.lifeGo x g c h) s = .next (s.newCode.er x 222)) ∧
    (transition s.life.fuses.state g.code = true → c.map (·.toNat) = some s.life.code → s.life.load.isSome = true →
      exec (.lifeGo x g c h) s = .next (s.newCode.er x 230)) ∧
    (∀ e, transition s.life.fuses.state g.code = true → c.map (·.toNat) = some s.life.code → s.life.load = none →
      s.transitionError s.life.fuses.state g.code = some e → exec (.lifeGo x g c h) s = .next (s.newCode.er x e)) ∧
    (transition s.life.fuses.state g.code = true → c.map (·.toNat) = some s.life.code → s.life.load = none →
      s.transitionError s.life.fuses.state g.code = none →
      ∃ t : State, exec (.lifeGo x g c h) s = .next t ∧ t.get F.SYSCTL_RCAUSE_LAST = 8)) ∧
  (∀ a b : Fin 6, transition a b = decide ((a.val, b.val) ∈ [(0, 1), (1, 2), (2, 3), (3, 4), (4, 3), (0, 5), (1, 5), (2, 5), (3, 5), (4, 5)])) ∧
  (∀ (x : Sess) (p : Bool) (n : Nat) (s : State), accepts s x lifeCmd = true →
    (n < 4100 ∨ 2097152 < n → exec (.lifeImageLoad x p n) s = .next (s.er x 120)) ∧
    (4100 ≤ n → n ≤ 2097152 → (s.life.next = true ∨ s.life.load.isSome = true ∨ x ≠ (if p then .i2c else .uart0)) →
      exec (.lifeImageLoad x p n) s = .next (s.er x 230)) ∧
    (4100 ≤ n → n ≤ 2097152 → s.life.next = false → s.life.load = none → x = (if p then .i2c else .uart0) →
      ∃ t : State, exec (.lifeImageLoad x p n) s = .next (t.ok x) ∧ t.life.load = some ⟨x, n,
        match s.incomplete s.inactive with | some q => if q.1 = n then q.2 else 0 | none => 0⟩)) ∧
  (∀ (b : Byte) (s : State), (s.life.load = none → exec (.imageDataByte b) s = .next s) ∧
    (∀ l, s.life.load = some l → l.at_ + 1 ≠ l.length →
      ∃ t : State, exec (.imageDataByte b) s = .next t ∧ t.life.load = some { l with at_ := l.at_ + 1 } ∧
        ((l.at_ + 1) % 4096 ≠ 0 → t.mem = (s.setByte (imageAddr s.inactive l.length l.at_) b).mem)) ∧
    (∀ l, s.life.load = some l → l.at_ + 1 = l.length → ∃ t : State, exec (.imageDataByte b) s = .next t ∧ t.life.load = none)) ∧
  (∀ s : State, (s.life.load = none → exec .imageGapTimeout s = .next s) ∧
    ∃ t : State, exec .imageGapTimeout s = .next t ∧ t.life.load = none) ∧
  (∀ (x : Sess) (s : State), accepts s x lifeCmd = true →
    (s.life.load.isSome = true → exec (.lifeImageCommit x) s = .next (s.er x 230)) ∧
    (s.life.load = none → (s.incomplete s.inactive).isSome = true → exec (.lifeImageCommit x) s = .next (s.er x 421)) ∧
    (s.life.load = none → s.incomplete s.inactive = none → s.imageValid s.inactive = false →
      exec (.lifeImageCommit x) s = .next (s.er x 420)) ∧
    (s.life.load = none → s.incomplete s.inactive = none → s.imageValid s.inactive = true →
      ∃ t : State, exec (.lifeImageCommit x) s = .next (t.ok x) ∧ t.life.next = true)) ∧
  (∀ (x : Sess) (s : State), accepts s x { lifeCmd with query := true } = true →
    exec (.lifeImageQuery x) s = .next ((s.replies x [s.imageLine 0, s.imageLine 1]).ok x))

/-- The frame of the long stores to the main SRAM. -/
def Obligations.StoresChangeOnlyTheirBytes : Prop :=
  ∀ (c : CoreId) (rt ra : Reg) (am : AddrMode) (p : Instr × Nat) (s : State), atWord s c = true → IsStoreOp c rt ra am p →
    (am.updates = true → rt ≠ ra) →
    let k := s.core c
    let a := (am.address p.2 (k.gen ra) (k.gen am.indexReg)).toNat
    a % p.2 = 0 → 0x20000000 ≤ a → a < 0x20180000 → s.powered (2 + (a - 0x20000000) / 0x80000) = true →
    s.runs = [] → s.verdict (a / 16) = .clean →
    ∃ t : State, exec p.1 s = .next t ∧ t.bytes a p.2 = leBytes p.2 (k.gen rt).toNat ∧
      (∀ b, b < a ∨ a + p.2 ≤ b → t.byte b = s.byte b) ∧ t.regs = s.regs ∧ (t.core c).s = k.s ∧
      (∀ r, (t.core c).gen r = withBase k.gen ra (am.base p.2 (k.gen ra)) r)

/-- Isolation of the secure bank and the code store. That such an access to the code store is discarded is the model's reading
(log entry 31). -/
def Obligations.SecureBankIsTheSystemsAlone : Prop :=
  (∀ (m : Master) (a : Nat) (l : List Byte) (s : State), s.on (F.MAN_CFG_EN 0) = false → s.on (F.MAN_CFG_EN 1) = false →
    ((0x29000000 ≤ a ∧ a < 0x29008000 ∧ m ≠ .sys) ∨ (0x08000000 ≤ a ∧ a < 0x08400000)) →
    (∀ b, b < 0x70000000 → (s.busWrite m a l).st.byte b = s.byte b) ∧ (s.busWrite m a l).st.chk = s.chk ∧ (s.busWrite m a l).err = false) ∧
  (∀ (m : Master) (a n : Nat) (s u : State), 0x29000000 ≤ a → a < 0x29008000 → m ≠ .sys →
    (s.busRead m a n).bytes = List.replicate n 0 ∧ (s.busRead m a n).bytes = (u.busRead m a n).bytes) ∧
  (∀ (rt ra : Reg) (i : BitVec 13) (s : State), atWord s .app = true → rt ≠ 0 →
    let a := ((s.core .app).gen ra + i.signExtend 32).toNat
    a % 4 = 0 → 0x29000000 ≤ a → a < 0x29008000 →
    ∃ t : State, exec (.ldw .app rt ra (.imm i)) s = .next t ∧ (t.core .app).flight.map (fun e => (e.dest, e.value)) = [(rt.val, 0)] ∧
      (t.core .app).pc = (s.core .app).pc + 4)

/-- Memory upkeep. That the bytes are zero at once is the model's reading (log entry 99). -/
def Obligations.ChecksWipesAndTheDredger : Prop :=
  (∀ (b : Nat) (s : State), (s.wbacks.contains b = false → exec (.checkWriteBack b) s = .next s) ∧
    (s.wbacks.contains b = true → ∃ t : State, exec (.checkWriteBack b) s = .next t ∧ t.wbacks.contains b = false ∧
      (∀ a, a / 16 ≠ b → t.byte a = s.byte a) ∧ (s.verdict b = .clean → t.mem = s.mem) ∧ t.regs = s.regs)) ∧
  (∀ s : State, (s.on F.MEMCTL_DCFG_EN = false ∨ 2 ≤ s.power.depth ∨ s.dredged = [] → exec .dredgerBlock s = .next s) ∧
    (∀ b, s.on F.MEMCTL_DCFG_EN = true → s.power.depth < 2 → (nextBlock s.dredged s.mems.dpos).or (nextBlock s.dredged 0) = some b →
      ∃ t : State, exec .dredgerBlock s = .next t ∧
        t.mems.dpos = ((nextBlock s.dredged (b + 1)).or (nextBlock s.dredged 0)).getD 0)) ∧
  (∀ s : State, ∃ t : State, exec .tamperWipe s = .next t ∧ (∀ a, 0x29000000 ≤ a → a < 0x29008000 → t.byte a = 0) ∧
    t.get F.MEMCTL_WIPE_BUSY = 1 ∧ t.get F.CRYPTO_KEY_READY = 0 ∧ t.crypto.tamper = min 0xFFFF (s.crypto.tamper + 1)) ∧
  (∀ s : State, (s.on F.MEMCTL_WIPE_BUSY = false → exec .wipeDone s = .next s) ∧ (s.on F.MEMCTL_WIPE_BUSY = true →
    ∃ t : State, exec .wipeDone s = .next t ∧ t.get F.MEMCTL_WIPE_BUSY = 0))

/-- The log store. -/
def Obligations.LogsReadProtectAndProgram : Prop :=
  (∀ (x : Sess) (cell : Fin 64) (s : State), accepts s x { logCmd with query := true } = true →
    exec (.logQuery x) s = .next ((s.reply x ("LOG USED=" ++ Text.dec (128 * s.usedPages) ++ " BP=" ++ Text.dec (s.get F.LOGS_PROT_BP) ++
      " WEAR=" ++ Text.dec (max (s.wearWord % 256) (s.wearWord / 2 ^ 24)))).ok x) ∧
    exec (.logTallyQuery x cell) s = .next ((s.reply x ("LOG TALLY " ++ Text.dec cell ++ " " ++
      Text.dec (leNat (s.bytes (0x28003E00 + 4 * cell) 4)))).ok x)) ∧
  (∀ (x : Sess) (a n : Nat) (s : State), accepts s x { logCmd with query := true } = true →
    (n = 0 ∨ 64 < n ∨ 131072 < a + n → exec (.logRead x a n) s = .next (s.er x 120)) ∧
    (1 ≤ n → n ≤ 16 → a + n ≤ 131072 → exec (.logRead x a n) s = .next ((s.replies x ["LOG READ " ++ Text.dec a ++ " " ++
      Text.hexBytes 4 ((s.bytes (logAddr a) n).map (·.toNat))]).ok x))) ∧
  (∀ (x : Sess) (a : Nat) (d : List Byte) (s : State), accepts s x { logCmd with expert := true } = true →
    ((d = [] ∨ 32 < d.length ∨ 131072 ≤ a ∨ 128 < a % 128 + d.length) → exec (.logWrite x a d) s = .next (s.er x 120)) ∧
    (d ≠ [] → d.length ≤ 32 → a < 131072 → a % 128 + d.length ≤ 128 →
      (960 ≤ a / 128 ∨ s.protects (a / 128) = true → exec (.logWrite x a d) s = .next (s.er x 410)) ∧
      (a / 128 < 960 → s.protects (a / 128) = false →
        (s.on F.LOGS_STAT_BUSY = true → exec (.logWrite x a d) s = .next (s.er x 411)) ∧
        (s.on F.LOGS_STAT_BUSY = false → s.on F.LOGS_STAT_RECOV = false → s.get F.PWR_PATH_ACT ≠ 2 → s.logs.queue = [] →
          ∃ t : State, exec (.logWrite x a d) s = .next t ∧ t.get F.LOGS_STAT_BUSY = 1 ∧
            t.logs.op.map (fun r => (r.page, r.bytes)) = some (a / 128, (s.page (a / 128)).take (a % 128) ++
              (d.map (·.toNat)).map (BitVec.ofNat 8) ++ (s.page (a / 128)).drop (a % 128 + (d.map (·.toNat)).length)))))) ∧
  (∀ (x : Sess) (b : Fin 4) (s : State), accepts s x logCmd = true → s.get F.PWR_PATH_ACT ≠ 2 → s.on F.LOGS_STAT_BUSY = false →
    s.on F.LOGS_STAT_RECOV = false → s.logs.queue = [] → ∃ t : State, exec (.logProtect x b) s = .next t ∧
      t.logs.op.map (·.req) = some (.protect b (some (x, s.console.tag)))) ∧
  (∀ (side : Side) (s : State), side = s.owner .logs → s.on F.LOGS_STAT_QUEUED = true →
    ∃ t : State, exec (.logsProg side) s = .next t ∧ t.get F.LOGS_STAT_OVR = 1 ∧ t.logs = s.logs) ∧
  (∀ (side : Side) (s : State), side = s.owner .logs → s.on F.LOGS_STAT_QUEUED = false → s.get F.PWR_PATH_ACT ≠ 2 →
    exec (.logsProg side) s = .next (s.logRequest .prog) ∧ exec (.logsTwinWr side) s = .next (s.logRequest .twinWr) ∧
    exec (.logsTwinRd side) s = .next (s.logRequest .twinRd)) ∧
  (∀ s : State, s.on F.LOGS_STAT_BUSY = true → (s.logRequest .prog).logs.queue = s.logs.queue ++ [.prog] ∧
    (s.logRequest .prog).get F.LOGS_STAT_QUEUED = 1) ∧
  (∀ s : State, s.on F.LOGS_STAT_BUSY = false → s.on F.LOGS_STAT_RECOV = false → s.logs.queue = [] → s.get F.LOGS_ADDR_PAGE < 960 →
    s.protects (s.get F.LOGS_ADDR_PAGE) = false →
    (s.logRequest .prog).logs.op = some ⟨.prog, s.get F.LOGS_ADDR_PAGE, s.merged (s.get F.LOGS_ADDR_PAGE), 0, false, s.tide.up⟩) ∧
  (∀ s : State, (s.on F.LOGS_STAT_BUSY = true → exec .logsCommandStart s = .next s) ∧
    (∀ l, s.on F.LOGS_STAT_BUSY = false → s.on F.LOGS_STAT_RECOV = false → s.logs.queue = .erase :: l →
      ∃ t : State, exec .logsCommandStart s = .next t ∧ t.logs.queue = l ∧ t.logs.op.map (·.req) = some .erase)) ∧
  (∀ s : State, s.logs.op = none → exec .logsWriteDone s = .next s ∧ exec .tallyEraseDone s = .next s) ∧
  (∀ (r : LogRun) (s : State), s.logs.op = some r → r.req ≠ .erase →
    ∃ t : State, exec .logsWriteDone s = .next t ∧ t.logs.op = none ∧ t.get F.LOGS_STAT_BUSY = 0 ∧
      (s.on (F.MAN_CFG_EN 0) = false → s.on (F.MAN_CFG_EN 1) = false → r.bytes.length = 128 → r.page < 960 → t.page r.page = r.bytes)) ∧
  (∀ (r : LogRun) (s : State), s.logs.op = some r → r.req = .erase →
    ∃ t : State, exec .tallyEraseDone s = .next t ∧ t.logs.op = none ∧ t.get F.LOGS_STAT_BUSY = 0) ∧
  (∀ s : State, (s.power.bor ≠ 2 → exec .tallySave s = .next s) ∧
    (s.power.bor = 2 → exec .tallySave s = .next s.tallySave.assertVbor))

/-- The manifests. Which sources MAN_RAISE takes (log entry 103) and where a denied alias counts (log entry 101) are the model's
readings. -/
def Obligations.ManifestsQueueMaskAndHand : Prop :=
  (∀ (n : Fin 192) (a b : Word) (s : State), (Src.reserved n = true → exec (.manifestSourceEvent n a b) s = .next s) ∧
    (Src.reserved n = false → ∃ t : State, exec (.manifestSourceEvent n a b) s = .next t ∧
      (s.power.depth < 2 → t.pendBit .app n = true ∧ t.pendBit .sys n = true) ∧
      (s.power.depth < 2 → s.masked .app n = true → s.masked .sys n = true →
        (∀ a, a < 0x70000000 → t.byte a = s.byte a) ∧ t.manApp = s.manApp ∧ t.manSys = s.manSys) ∧
      (2 ≤ s.power.depth → t.power.heldSrc = s.power.heldSrc ++ [n.val] ∧ t.manApp = s.manApp))) ∧
  (∀ (m : Man) (side : Side) (s : State), (side ≠ s.owner m.block → exec (.manPop0Read m side) s =
      .next { s with busData := 0xFFFFFFFF }) ∧
    (side = s.owner m.block → (s.man m).head = none → ∃ t : State, exec (.manPop0Read m side) s = .next t ∧ t.busData = 0xFFFFFFFF ∧
      t.man m = s.man m) ∧
    (∀ r, side = s.owner m.block → (s.man m).head = some r → ∃ t : State, exec (.manPop0Read m side) s = .next t ∧
      t.busData = BitVec.ofNat 32 (r.words.getD 0 0) ∧ t.get (F.MAN_POP_WORD m.ix 0) = r.words.getD 1 0 % 2 ^ 32 ∧
      t.man m = (s.man m).remove r.ord)) ∧
  (∀ (m : Man) (side : Side) (w : Fin 6) (v : Word) (s : State), side = s.owner m.block →
    (∃ t : State, exec (.manMaskWrite m side w v) s = .next t ∧ t.get (F.MAN_MASK_MASK m.ix w) = without v.toNat (fixedMask w)) ∧
    exec (.manPendWrite m side w v) s = .next (s.put (F.MAN_PEND_PEND m.ix w) v.toNat) ∧
    (s.get F.SYSCTL_RCAUSE_STATE ≠ 1 →
      (∃ t : State, exec (.manMaskset m side w v) s = .next t ∧
        t.get (F.MAN_MASK_MASK m.ix w) = without (s.get (F.MAN_MASK_MASK m.ix w) ||| v.toNat) (fixedMask w)) ∧
      (∃ t : State, exec (.manMaskclr m side w v) s = .next t ∧
        t.get (F.MAN_MASK_MASK m.ix w) = without (without (s.get (F.MAN_MASK_MASK m.ix w)) v.toNat) (fixedMask w)) ∧
      exec (.manPendset m side w v) s = .next (s.put (F.MAN_PEND_PEND m.ix w) (s.get (F.MAN_PEND_PEND m.ix w) ||| v.toNat)) ∧
      exec (.manPendclr m side w v) s = .next (s.put (F.MAN_PEND_PEND m.ix w) (without (s.get (F.MAN_PEND_PEND m.ix w)) v.toNat))) ∧
    (s.get F.SYSCTL_RCAUSE_STATE = 1 →
      ∀ i ∈ [Instr.manMaskset m side w v, .manMaskclr m side w v, .manPendset m side w v, .manPendclr m side w v],
      exec i s = .next ((s.count (F.MAN_ALIASCNT_COUNT m.ix)).raise0 Src.SYSCTL_ALIAS_DENIED))) ∧
  (∀ (m : Man) (side : Side) (v : Word) (s : State), (v.toNat % 256 < Src.SYSCTL_SW0 ∨ 192 ≤ v.toNat % 256 →
      exec (.manRaiseWrite m side v) s = .next s) ∧
    (Src.SYSCTL_SW0 ≤ v.toNat % 256 → v.toNat % 256 < 192 → ∃ t : State, exec (.manRaiseWrite m side v) s = .next t ∧
      t.pendBit m (v.toNat % 256) = true)) ∧
  (∀ (m : Man) (side : Side) (v : Word) (s : State), side = s.owner m.block →
    (s.on (F.MAN_CFG_EN m.ix) = true → v.toNat % 2 = 0 → ∃ t : State, exec (.manCfgWrite m side v) s = .next t ∧
      t.get (F.MAN_CFG_EN m.ix) = 0 ∧ (t.man m).ring = []) ∧
    (s.on (F.MAN_CFG_EN m.ix) = true → v.toNat % 2 = 1 → bitsOf v.toNat 4 4 ≠ s.get (F.MAN_CFG_SIZE m.ix) → 4 ≤ bitsOf v.toNat 4 4 →
      bitsOf v.toNat 4 4 ≤ 12 → exec (.manCfgWrite m side v) s = .next (s.deny m.block 3 0x10 side)) ∧
    (s.on (F.MAN_CFG_EN m.ix) = false → v.toNat % 2 = 1 → 4 ≤ bitsOf v.toNat 4 4 → bitsOf v.toNat 4 4 ≤ 12 →
      ringInSram (s.get (F.MAN_BASE_ADDR m.ix) * 16) (bitsOf v.toNat 4 4) = true →
      ∃ t : State, exec (.manCfgWrite m side v) s = .next t ∧ t.get (F.MAN_CFG_EN m.ix) = 1 ∧
        t.get (F.MAN_CFG_SIZE m.ix) = bitsOf v.toNat 4 4)) ∧
  (∀ (m : Man) (s : State), ((s.man m).held = [] → exec (.mneModerationTimeout m) s = .next s) ∧
    ((s.man m).held ≠ [] → exec (.mneModerationTimeout m) s = .next (s.setMan m { s.man m with timedOut := true })))

/-- The event router. That either side's read of a capture frees it is the model's reading (log entry 102). -/
def Obligations.EventsReachTheirConsumers : Prop :=
  (∀ (p : Fin 64) (s : State), exec (.producerEvent p) s = .next (s.fire p) ∧
    ((∀ c, c < 48 → s.pairOn p c = false) → exec (.producerEvent p) s = .next (s.watch p))) ∧
  (∀ s : State, exec (.evrSwtrigWrite 0) s = .next s) ∧
  (∀ (n : Fin 4) (s : State), exec (.evrSwtrigWrite (BitVec.ofNat 4 (2 ^ n.val))) s = .next (s.fire (56 + n))) ∧
  (∀ (k : Fin 4) (s : State), ∃ t : State, exec (.evrCapfRead k) s = .next t ∧ t.busData = BitVec.ofNat 32 (s.get (F.EVR_CAPF_FRAC k)) ∧
    bitOf (t.get F.EVR_CAPSTAT_FULL) k = false ∧ t.get (F.EVR_CAPF_FRAC k) = s.get (F.EVR_CAPF_FRAC k)) ∧
  (∀ s : State, (s.on F.EVR_TICK_EN = true → exec .aonTick s = .next (s.fire 63)) ∧
    (s.on F.EVR_TICK_EN = false → exec .aonTick s = .next s))

/-- The operations of the lighters. The place of the operation in a word is the model's reading (log entry 104), as is what XFER
drives (log entry 105). -/
def Obligations.LighterOperations : Prop :=
  (∀ (n : Fin 8) (s : State), AtLighterOp n 0 s → ∃ t : State, exec (.lgtNop n) s = .next t ∧ t.get (F.LGT_STAT_PC n) = lighterNext n s ∧
    t.pads = s.pads ∧ t.lgt = s.lgt) ∧
  (∀ (n : Fin 8) (l : List Byte) (s : State), AtLighterOp n 1 s → s.on (F.LGT_CFG_AUTODRAIN n) = false → s.on (F.LGT_CFG_AUTOFILL n) = false →
    let w := s.lgtWord n
    let k := orMax (bitsOf w 20 5) 32 * 2 ^ s.get (F.LGT_CFG_STEPW n)
    ∃ t : State, exec (.lgtXfer n l) s = .next t ∧ t.get (F.LGT_STAT_PC n) = lighterNext n s ∧ t.lgt = s.lgt ∧
      t.get (F.LGT_STAT_SC n) = (if bitsOf w 25 2 = 1 then s.get (F.LGT_STAT_SC n) else min 32 (s.get (F.LGT_STAT_SC n) + k)) ∧
      t.get (F.LGT_STAT_RC n) = (if bitsOf w 25 2 = 0 then s.get (F.LGT_STAT_RC n) else min 32 (s.get (F.LGT_STAT_RC n) + k)) ∧
      ∀ p, s.lgtDrives n p = false → bitOf t.pads.level p = bitOf s.pads.level p ∧ bitOf t.pads.dir p = bitOf s.pads.dir p) ∧
  (∀ (n : Fin 8) (s : State), AtLighterOp n 2 s → bitOf (s.lgtWord n) 0 = false →
    (∀ v r, (s.engine n).tx = v :: r → ∃ t : State, exec (.lgtFill n) s = .next t ∧ t.get (F.LGT_SH_SH n) = v % 2 ^ 32 ∧
      t.get (F.LGT_STAT_SC n) = 0 ∧ (t.engine n).tx = r ∧ t.get (F.LGT_STAT_PC n) = lighterNext n s) ∧
    ((s.engine n).tx = [] → ∃ t : State, exec (.lgtFill n) s = .next t ∧ t.lgtState n = 3 ∧ t.get (F.LGT_STAT_WHY n) = 0 ∧
      t.get (F.LGT_STAT_PC n) = s.get (F.LGT_STAT_PC n))) ∧
  (∀ (n : Fin 8) (s : State), AtLighterOp n 3 s → bitOf (s.lgtWord n) 0 = false →
    ((s.engine n).rx.length < 8 → ∃ t : State, exec (.lgtDrain n) s = .next t ∧ (t.engine n).rx = (s.engine n).rx ++ [s.get (F.LGT_SH_SH n)] ∧
      t.get (F.LGT_STAT_RC n) = 0 ∧ t.get (F.LGT_SH_SH n) = (if bitOf (s.lgtWord n) 1 then s.get (F.LGT_SH_SH n) else 0) ∧
      t.get (F.LGT_STAT_PC n) = lighterNext n s) ∧
    (8 ≤ (s.engine n).rx.length → ∃ t : State, exec (.lgtDrain n) s = .next t ∧ t.lgtState n = 3 ∧ t.get (F.LGT_STAT_WHY n) = 1)) ∧
  (∀ (n : Fin 8) (s : State), AtLighterOp n 4 s → ∃ t : State, exec (.lgtDrive n) s = .next t ∧ t.get (F.LGT_STAT_PC n) = lighterNext n s ∧
    ∀ p, s.lgtDrives n p = false → bitOf t.pads.level p = bitOf s.pads.level p ∧ bitOf t.pads.dir p = bitOf s.pads.dir p) ∧
  (∀ (n : Fin 8) (s : State), AtLighterOp n 5 s →
    (s.lgtAwaited n (s.lgtWord n) = true → ∃ t : State, exec (.lgtAwait n) s = .next t ∧ t.lgtState n = 1 ∧
      t.get (F.LGT_STAT_PC n) = lighterNext n s) ∧
    (s.lgtAwaited n (s.lgtWord n) = false → ∃ t : State, exec (.lgtAwait n) s = .next t ∧ t.lgtState n = 2 ∧
      t.get (F.LGT_STAT_PC n) = s.get (F.LGT_STAT_PC n))) ∧
  (∀ (n : Fin 8) (s : State), s.lgtWaits n = true →
    (s.lgtAwaited n (s.lgtWord n) = true → ∃ t : State, exec (.lgtAwaitEnd n) s = .next t ∧ t.lgtState n = 1 ∧
      t.get (F.LGT_STAT_PC n) = lighterNext n s) ∧
    (bitOf (s.lgtWord n) 23 = true → ∃ t : State, exec (.lgtAwaitTimeout n) s = .next t ∧ t.lgtState n = 1 ∧ t.get (F.LGT_STAT_TO n) = 1 ∧
      t.get (F.LGT_STAT_PC n) = lighterNext n s)) ∧
  (∀ (n : Fin 8) (s : State), AtLighterOp n 6 s → ∃ t : State, exec (.lgtPause n) s = .next t ∧ t.get (F.LGT_STAT_PC n) = lighterNext n s) ∧
  (∀ (n : Fin 8) (s : State), AtLighterOp n 7 s → let w := s.lgtWord n
    ∃ t : State, exec (.lgtSet n) s = .next t ∧ t.get (F.LGT_STAT_PC n) = lighterNext n s ∧
      t.get (F.LGT_LC_LC n) = (if bitsOf w 25 2 = 0 then bitsOf w 0 16 else s.get (F.LGT_LC_LC n)) ∧
      t.get (F.LGT_LC_TM n) = (if bitsOf w 25 2 = 1 then bitsOf w 0 16 else s.get (F.LGT_LC_TM n)) ∧
      t.get (F.LGT_MR_MR n) % 65536 = (if bitsOf w 25 2 = 2 then bitsOf w 0 16 else s.get (F.LGT_MR_MR n) % 65536) ∧
      t.get (F.LGT_MR_MR n) / 65536 = (if bitsOf w 25 2 = 3 then bitsOf w 0 16 else s.get (F.LGT_MR_MR n) / 65536)) ∧
  (∀ (n : Fin 8) (s : State), AtLighterOp n 8 s → ∃ t : State, exec (.lgtLoop n) s = .next t ∧
    t.get (F.LGT_LC_LC n) = s.get (F.LGT_LC_LC n) - 1 ∧
    t.get (F.LGT_STAT_PC n) = if s.get (F.LGT_LC_LC n) = 0 then lighterNext n s else bitsOf (s.lgtWord n) 0 5) ∧
  (∀ (n : Fin 8) (s : State), AtLighterOp n 9 s → ∃ t : State, exec (.lgtJump n) s = .next t ∧
    t.get (F.LGT_STAT_PC n) = if s.lgtCond n (s.lgtWord n) then bitsOf (s.lgtWord n) 0 5 else lighterNext n s) ∧
  (∀ (n : Fin 8) (s : State), AtLighterOp n 10 s → let w := s.lgtWord n
    let x := if bitsOf w 21 3 = 1 then s.get (F.LGT_SH_SH n) else if bitsOf w 21 3 = 2 then s.get (F.LGT_LC_LC n)
      else if bitsOf w 21 3 = 3 then s.get (F.LGT_MR_MR n) else 0
    let v := if bitsOf w 19 2 = 0 then x else if bitsOf w 19 2 = 1 then byteReverse x else 2 ^ 32 - 1 - x
    bitsOf w 21 3 ≠ 0 → ∃ t : State, exec (.lgtMove n) s = .next t ∧ t.get (F.LGT_STAT_PC n) = lighterNext n s ∧
      (bitsOf w 24 3 = 0 → t.get (F.LGT_SH_SH n) = v ∧ t.get (F.LGT_STAT_SC n) = 0) ∧
      (bitsOf w 24 3 = 1 → t.get (F.LGT_LC_LC n) = v % 65536) ∧ (bitsOf w 24 3 = 2 → t.get (F.LGT_MR_MR n) = v)) ∧
  (∀ (n : Fin 8) (s : State), AtLighterOp n 11 s → ∃ t : State, exec (.lgtNote n) s = .next t ∧ t.get (F.LGT_STAT_PC n) = lighterNext n s ∧
    t.pads = s.pads ∧ (bitOf (s.lgtWord n) 16 = false → bitOf (s.lgtWord n) 17 = false → t.man .app = s.man .app)) ∧
  (∀ (n : Fin 8) (s : State), s.powered 9 = true → s.lgtState n = 1 → lgtIllegal (s.lgtWord n) = true →
    ∃ t : State, exec (.lgtIllegal n) s = .next t ∧ t.lgtState n = 0 ∧ t.get (F.LGT_STAT_ILL n) = 1) ∧
  (∀ (n : Fin 8) (s : State), s.lgtState n = 3 → s.on (F.LGT_STAT_WHY n) = true →
    ((s.engine n).rx.length < 8 → exec (.lgtStallEnd n) s = .next (s.lgtTo n 1)) ∧
    (8 ≤ (s.engine n).rx.length → exec (.lgtStallEnd n) s = .next s)) ∧
  (∀ (n : Fin 8) (s : State), s.lgtState n = 3 → s.on (F.LGT_STAT_WHY n) = false →
    ((s.engine n).tx ≠ [] → exec (.lgtStallEnd n) s = .next (s.lgtTo n 1)) ∧
    ((s.engine n).tx = [] → exec (.lgtStallEnd n) s = .next s))

/-- Control of the lighters. -/
def Obligations.LightersAreLoadedRunAndFed : Prop :=
  (∀ (x : Sess) (n : Fin 8) (s : State), accepts s x { block := some .lgt, query := true } = true → exec (.lgtQuery x n) s =
    .next ((s.reply x ("LGT " ++ Text.dec n ++ " STATE=" ++ Name.pick ["STOPPED", "RUNNING", "WAITING", "STALLED"] (s.lgtState n) ++ " PC=" ++
      Text.dec (s.get (F.LGT_STAT_PC n)) ++ " TX=" ++ Text.dec (s.engine n).tx.length ++ " RX=" ++ Text.dec (s.engine n).rx.length ++
      " LIB=" ++ Text.dec (s.get (F.LGT_CFG_LIB n)))).ok x)) ∧
  (∀ (x : Sess) (n : Fin 8) (a : Fin 32) (l : List Word) (s : State), accepts s x lgtCmd = true → s.powered 9 = true →
    (s.lgtRuns n = false → ∃ t : State, exec (.lgtLoad x n a l) s = .next (t.ok x) ∧
      ∀ k v, l[k]? = some v → a.val + k < 32 → t.get (F.LGT_IMEM_WORD n (a + k)) = v.toNat) ∧
    (s.lgtRuns n = true → ∃ t : State, exec (.lgtLoad x n a l) s = .next (t.er x 230))) ∧
  (∀ (x : Sess) (n : Fin 8) (s : State), accepts s x lgtCmd = true → s.powered 9 = true →
    (s.lgtState n = 0 → affords s (s.lgtTo n 1) = true →
      ∃ t : State, exec (.lgtRun x n) s = .next (t.ok x) ∧ t.lgtState n = 1 ∧ bitOf (t.get F.LGT_SUM_RUN) n = true) ∧
    (s.lgtState n ≠ 0 → exec (.lgtRun x n) s = .next (s.ok x)) ∧
    (∃ t : State, exec (.lgtStop x n) s = .next (t.ok x) ∧ t.lgtState n = 0 ∧ bitOf (t.get F.LGT_SUM_RUN) n = false) ∧
    (s.lgtRuns n = true → exec (.lgtClrshift x n) s = .next (s.er x 230)) ∧
    (s.lgtRuns n = false → ∃ t : State, exec (.lgtClrshift x n) s = .next (t.ok x) ∧ t.get (F.LGT_SH_SH n) = 0 ∧
      t.get (F.LGT_STAT_SC n) = 32 ∧ t.get (F.LGT_STAT_RC n) = 0)) ∧
  (∀ (x : Sess) (n : Fin 8) (d : Nat) (s : State), accepts s x lgtCmd = true → s.powered 9 = true → 256 ≤ d → d < 2 ^ 24 →
    ∃ t : State, exec (.lgtDiv x n d) s = .next (t.ok x) ∧ t.get (F.LGT_DIV_INT n) * 256 + t.get (F.LGT_DIV_FRAC n) = d) ∧
  (∀ (side : Side) (n : Fin 8) (s : State), opens s side .lgt false = true →
    (s.lgtState n = 0 → (s.expert .lgt = true ∨ s.get (F.LGT_CFG_LIB n) ≠ 0) → ledgerGrants s (s.lgtTo n 1) = true →
      exec (.lgtCmdRun side n) s = .next (s.lgtTo n 1)) ∧
    exec (.lgtCmdStop side n) s = .next (s.lgtTo n 0) ∧
    (∃ t : State, exec (.lgtCmdClrfifo side n) s = .next t ∧ (t.engine n).tx = [] ∧ (t.engine n).rx = [])) ∧
  (∀ (side : Side) (n : Fin 8) (s : State), opens s side .lgt true = true → s.lgtRuns n = false →
    exec (.lgtCmdClrshift side n) s = .next (s.lgtClear n) ∧
    exec (.lgtCmdSetpc side n) s = .next (s.put (F.LGT_STAT_PC n) (s.get (F.LGT_CMD_PC n))) ∧
    ∀ (k : Fin 32) (v : Word), ∃ t : State, exec (.lgtImemWrite side (BitVec.ofNat 12 (0x800 + 0x80 * n + 4 * k)) v) s = .next t ∧
      t.get (F.LGT_IMEM_WORD n k) = v.toNat) ∧
  (∀ (side : Side) (n : Fin 8) (k : Fin 32) (v : Word) (s : State), opens s side .lgt true = true → s.lgtRuns n = true →
    ∃ t : State, exec (.lgtImemWrite side (BitVec.ofNat 12 (0x800 + 0x80 * n + 4 * k)) v) s = .next t ∧
      t.get (F.LGT_IMEM_WORD n k) = s.get (F.LGT_IMEM_WORD n k) ∧ t.get (F.LGT_FIFO_IMWR n) = 1) ∧
  (∀ (n : Fin 8) (v : Word) (s : State), s.powered 9 = true →
    ((s.engine n).tx.length < 8 → ∃ t : State, exec (.lgtTxfWrite n v) s = .next t ∧ (t.engine n).tx = (s.engine n).tx ++ [v.toNat]) ∧
    (8 ≤ (s.engine n).tx.length → exec (.lgtTxfWrite n v) s = .next (s.put (F.LGT_FIFO_TXOVF n) 1)) ∧
    ((s.engine n).rx = [] → ∃ t : State, exec (.lgtRxfRead n) s = .next t ∧ t.busData = 0 ∧ t.get (F.LGT_FIFO_RXUNF n) = 1) ∧
    (∀ a r, (s.engine n).rx = a :: r → ∃ t : State, exec (.lgtRxfRead n) s = .next t ∧ t.busData = BitVec.ofNat 32 a ∧ (t.engine n).rx = r))

/-- The UARTs. That the other side's read removes nothing (log entry 33) and what a timeout without a channel does (log entry
109) are the model's. -/
def Obligations.UartsReceiveSendAndStamp : Prop :=
  (∀ (u : Fin 3) (l : List Bool) (n : Nat) (s : State),
    (s.on (F.UART_CFG_EN u) = false → exec (.uartCharacterReceived u l n) s = .next s) ∧
    (s.on (F.UART_CFG_EN u) = true → s.powered 8 = true →
      (∀ h, s.uartHears u l = .inl h →
        ∃ t : State, exec (.uartCharacterReceived u l n) s = .next t ∧ t.uart u = { s.uart u with high := h }) ∧
      (∀ g, s.uartHears u l = .inr g → g.isBreak = true → ∃ t : State, exec (.uartCharacterReceived u l n) s = .next t ∧
        (t.uart u).rx = (s.uart u).rx ∧ t.get (F.UART_STAT_BRK u) = 1) ∧
      (∀ g, s.uartHears u l = .inr g → g.isBreak = false → s.consolePort u = false → let c := s.frameForm u
        ((s.uart u).rx.length < 16 → ∃ t : State, exec (.uartCharacterReceived u l n) s = .next t ∧
          (t.uart u).rx = (s.uart u).rx ++
            [(g.char c).toNat + 256 * bit (g.parityError c) + 512 * bit (g.framingError c) + 1024 * bit g.noise] ∧
          t.get (F.UART_STAT_RXLVL u) = (s.uart u).rx.length + 1) ∧
        (16 ≤ (s.uart u).rx.length → ∃ t : State, exec (.uartCharacterReceived u l n) s = .next t ∧
          (t.uart u).rx = (s.uart u).rx ∧ t.get (F.UART_STAT_OVR u) = 1)))) ∧
  (∀ (b0 b1 b2 b3 b4 b5 b6 b7 : Bool) (u : Fin 3) (s : State), s.on (F.UART_CFG_SYNC u) = false → s.frameForm u = ⟨8, 0, 1⟩ →
    (s.uart u).high = true →
    s.uartHears u (([false, b0, b1, b2, b3, b4, b5, b6, b7].map (List.replicate 16)).flatten ++ List.replicate 10 true) =
      .inr ⟨[false, b0, b1, b2, b3, b4, b5, b6, b7, true], false, false, true⟩) ∧
  (∀ (b0 b1 b2 b3 b4 b5 b6 b7 : Bool) (u : Fin 3) (s : State), s.on (F.UART_CFG_SYNC u) = true → s.frameForm u = ⟨8, 0, 1⟩ →
    s.uartHears u [true, false, b0, b1, b2, b3, b4, b5, b6, b7, true] =
      .inr ⟨[false, b0, b1, b2, b3, b4, b5, b6, b7, true], false, false, true⟩) ∧
  (∀ (u : Fin 3) (s : State), s.on (F.UART_CFG_EN u) = true → s.powered 8 = true →
    (∃ t : State, exec (.uartBreak u) s = .next t ∧ t.get (F.UART_STAT_BRK u) = 1) ∧
    (∃ t : State, exec (.uartLineFault u) s = .next t ∧ t.get (F.UART_STAT_LINE_FAULT u) = 1)) ∧
  (∀ (u : Fin 3) (s : State), ∃ t : State, exec (.uartLineFaultClear u) s = .next t ∧ t.get (F.UART_STAT_LINE_FAULT u) = 0 ∧
    (s.on (F.UART_STAT_LINE_FAULT u) = true → t.get (F.UART_STAT_BRK u) = 0)) ∧
  (∀ (u : Fin 3) (n : Nat) (s : State), (s.power.depth = 0 → exec (.uartStartEdgeWake u n) s = .next s) ∧
    (s.power.depth ≠ 0 → s.on (F.UART_STAT_LINE_FAULT u) = false → bitOf (s.get F.PWR_WAKEEN_EN) (4 + u) = true →
      ∃ t : State, exec (.uartStartEdgeWake u n) s = .next t ∧ bitOf t.power.latched (4 + u) = true)) ∧
  (∀ (u : Fin 3) (s : State), u ≠ 0 → s.powered 8 = true → s.on (F.UART_CFG_RXDMA u) = true → s.get (F.UART_TIMING_RXTO u) ≠ 0 →
    (∀ k : Fin 8, s.on (F.DMA_CFG_EN k) = false) →
    ((s.uart u).rx = [] → exec (.uartRxTimeout u) s = .next s) ∧
    ((s.uart u).rx ≠ [] → exec (.uartRxTimeout u) s = .next (s.raise0 (Src.uart u 2)))) ∧
  (∀ (u : Fin 3) (n : Nat) (c : Byte) (s : State), u ≠ 0 → s.on (F.UART_CFG_EN u) = true → s.powered 8 = true → s.consolePort u = false →
    ((s.uart u).tx = [] → exec (.uartCharacterSent u n c) s = .next s) ∧
    (∀ h r, (s.uart u).tx = h :: r → ∃ t : State, exec (.uartCharacterSent u n c) s = .next t ∧ (t.uart u).tx = r ∧
      (t.uart u).rx = (s.uart u).rx)) ∧
  (∀ (n : Nat) (c : Byte) (s : State), s.on (F.UART_CFG_EN 0) = true → s.powered 8 = true →
    ∃ t : State, exec (.uartCharacterSent 0 n c) s = .next t ∧ (t.uart 0).txPlace = placeAfter c ∧ (t.uart 0).tx = (s.uart 0).tx ∧
      ((s.uart 0).txPlace.starts c = true → t.get (F.UART_TXSTS_SEC 0) = n / 2 ^ 56 % 2 ^ 32)) ∧
  (∀ (side : Side) (u : Fin 3) (s : State), s.powered 8 = true →
    ((s.uart u).rx = [] → exec (.uartDataRead side u) s = .next { s with busData := 0x8000 }) ∧
    (∀ h r, (s.uart u).rx = h :: r → ∃ t : State, exec (.uartDataRead side u) s = .next t ∧ t.busData = BitVec.ofNat 32 h ∧
      (t.uart u).rx = if side = s.owner (uartBlock u) then r else h :: r)) ∧
  (∀ (side : Side) (u : Fin 3) (b : Byte) (s : State), opens s side (uartBlock u) false = true →
    ((s.uart u).tx.length < 16 → ∃ t : State, exec (.uartDataWrite side u b) s = .next t ∧ (t.uart u).tx = (s.uart u).tx ++ [b.toNat]) ∧
    (16 ≤ (s.uart u).tx.length → exec (.uartDataWrite side u b) s = .next (s.put (F.UART_STAT_TXOVF u) 1))) ∧
  (∀ (u : Fin 3) (s : State), s.powered 8 = true →
    (∃ t : State, exec (.uartRxstsRead u false) s = .next t ∧ t.busData = BitVec.ofNat 32 (s.get (F.UART_RXSTS_SEC u)) ∧
      t.get (F.UART_RXSTF_FRAC u) = (s.uart u).rxFrac % 2 ^ 32) ∧
    (∃ t : State, exec (.uartRxstsRead u true) s = .next t ∧ t.busData = BitVec.ofNat 32 (s.get (F.UART_TXSTS_SEC u)) ∧
      t.get (F.UART_TXSTF_FRAC u) = (s.uart u).txFrac % 2 ^ 32)) ∧
  (∀ (u : Fin 3) (s : State), (s.uartQuiet u = false → exec (.uartConfigApply u) s = .next s) ∧
    (s.uartQuiet u = true → ∃ t : State, exec (.uartConfigApply u) s = .next t ∧ (t.uart u).pend = []))

/-- The I2C target and the SPI ports. What a read of an empty SPI FIFO leaves is the model's (log entry 108). -/
def Obligations.TargetServesAndSpiExchanges : Prop :=
  (∀ (a : BitVec 7) (rd : Bool) (s : State), (s.i2cServes a.toNat = none → exec (.i2ctAddressMatch a rd) s = .next s) ∧
    (∀ v n, s.i2cServes a.toNat = some (v, n) → s.power.depth = 0 → ∃ t : State, exec (.i2ctAddressMatch a rd) s = .next t ∧
      t.i2ct.serve = some v ∧ t.get F.I2CT_STAT_BUSY = 1 ∧ t.on F.I2CT_STAT_RW = rd)) ∧
  (∀ (b : Byte) (s : State), s.on F.I2CT_STAT_RW = false → s.i2ct.serve = some .fifo →
    (s.i2ct.rx.length < 8 → ∃ t : State, exec (.i2ctByteReceived b) s = .next t ∧
      t.i2ct.rx = s.i2ct.rx ++ [b.toNat + 256 * bit s.i2ct.first + 512 * s.i2ct.aidx] ∧ t.i2ct.first = false) ∧
    (8 ≤ s.i2ct.rx.length → exec (.i2ctByteReceived b) s = .next s ∧
      ∃ t : State, exec .i2ctStretchTimeout s = .next t ∧ t.get F.I2CT_STAT_TMO = 1)) ∧
  (∀ (h : Nat) (r : List Nat) (s : State), s.on F.I2CT_STAT_RW = true → s.i2ct.serve = some .fifo → s.i2ct.tx = h :: r →
    (∃ t : State, exec .i2ctByteSent s = .next t ∧ t.busData = BitVec.ofNat 32 h ∧ t.i2ct.tx = r) ∧
    exec .i2ctStretchTimeout s = .next s) ∧
  (∀ s : State, s.i2ct.serve.isSome = true → ∃ t : State, exec .i2ctStop s = .next t ∧ t.i2ct.serve = none ∧ t.get F.I2CT_STAT_BUSY = 0 ∧
    t.get F.I2CT_STAT_RW = 0) ∧
  (∀ (side : Side) (b : Byte) (s : State), opens s side .i2ct false = true →
    (s.i2ct.rx = [] → exec (.i2ctDataRead side) s = .next { s with busData := 0x8000 }) ∧
    (∀ h r, s.i2ct.rx = h :: r → ∃ t : State, exec (.i2ctDataRead side) s = .next t ∧ t.busData = BitVec.ofNat 32 h ∧ t.i2ct.rx = r) ∧
    (s.i2ct.tx.length < 8 → ∃ t : State, exec (.i2ctDataWrite side b) s = .next t ∧ t.i2ct.tx = s.i2ct.tx ++ [b.toNat])) ∧
  (∀ (side : Side) (k : Fin 2) (s : State), opens s side (spiBlock k) false = true → s.on (F.SPI_CFG_HOST k) = true →
    (s.on (F.SPI_CFG_EN k) = true → s.on (F.SPI_STAT_BUSY k) = false → ∃ t : State, exec (.spiStart side k) s = .next t ∧
      t.get (F.SPI_STAT_BUSY k) = 1 ∧ (t.spi k).left = s.get (F.SPI_CTRL_COUNT k)) ∧
    (s.on (F.SPI_STAT_BUSY k) = true → s.spiStalls k = true → exec (.spiAbort side k) s = .next (s.spiEnd k)) ∧
    (s.on (F.SPI_STAT_BUSY k) = true → s.spiStalls k = false → ∃ t : State, exec (.spiAbort side k) s = .next t ∧
      (t.spi k).abort = true ∧ (t.spi k).left = (s.spi k).left)) ∧
  (∀ (k : Fin 2) (v : Word) (h : Nat) (r : List Nat) (s : State), s.on (F.SPI_CFG_EN k) = true → s.powered 8 = true →
    s.on (F.SPI_CFG_HOST k) = true → s.on (F.SPI_STAT_BUSY k) = true → (s.spi k).tx = h :: r → (s.spi k).rx.length < 8 →
    1 < (s.spi k).left → (s.spi k).abort = false → ∃ t : State, exec (.spiFrame k v) s = .next t ∧ t.busData = BitVec.ofNat 32 (s.lineOrder k h) ∧
      (t.spi k).tx = r ∧ (t.spi k).rx = (s.spi k).rx ++ [s.lineOrder k v.toNat] ∧ (t.spi k).left = (s.spi k).left - 1) ∧
  (∀ (k : Fin 2) (v : Word) (s : State), s.on (F.SPI_CFG_EN k) = true → s.powered 8 = true → s.on (F.SPI_CFG_HOST k) = false →
    ∃ t : State, exec (.spiFrame k v) s = .next t ∧ t.get (F.SPI_STAT_BUSY k) = 1 ∧
      (8 ≤ (s.spi k).rx.length → t.get (F.SPI_STAT_OVR k) = 1) ∧ ((s.spi k).tx = [] → t.get (F.SPI_STAT_UDR k) = 1) ∧
      ((s.spi k).rx.length < 8 → (t.spi k).rx = (s.spi k).rx ++ [s.lineOrder k v.toNat])) ∧
  (∀ (k : Fin 2) (s : State), s.on (F.SPI_CFG_EN k) = true → s.powered 8 = true → s.on (F.SPI_CFG_HOST k) = false →
    (∃ t : State, exec (.spiCsRaise k true) s = .next t ∧ t.get (F.SPI_STAT_CSABORT k) = 1) ∧
    (s.on (F.SPI_STAT_BUSY k) = false → exec (.spiCsRaise k false) s = .next s)) ∧
  (∀ (side : Side) (k : Fin 2) (v : Word) (s : State), opens s side (spiBlock k) false = true →
    (∀ h r, (s.spi k).rx = h :: r → ∃ t : State, exec (.spiDataRead side k) s = .next t ∧ t.busData = BitVec.ofNat 32 h ∧ (t.spi k).rx = r) ∧
    ((s.spi k).rx = [] → ∃ t : State, exec (.spiDataRead side k) s = .next t ∧ t.spis = s.spis ∧ t.regs = s.regs) ∧
    ((s.spi k).tx.length < 8 → ∃ t : State, exec (.spiDataWrite side k v) s = .next t ∧
      (t.spi k).tx = (s.spi k).tx ++ [v.toNat &&& s.frameMax k]))

/-- The DMA channels. -/
def Obligations.DmaMovesUnitByUnit : Prop :=
  (∀ (side : Side) (k : Fin 8) (s : State), opens s side .dma false = true →
    (s.on (F.DMA_CFG_EN k) = true → exec (.dmaStart side k) s = .next s) ∧
    (s.on (F.DMA_CFG_EN k) = false → ∃ t : State, exec (.dmaStart side k) s = .next t ∧ t.get (F.DMA_CFG_EN k) = 1 ∧
      t.get (F.DMA_STAT_LEFT k) = s.get (F.DMA_CNT_CNT k) ∧
      t.dmaCh k = ⟨s.get (F.DMA_SRC_ADDR k), s.get (F.DMA_DST_ADDR k), s.get (F.DMA_CNT_CNT k), 0, false⟩)) ∧
  (∀ (k : Fin 8) (s : State), (s.powered 8 = false ∨ s.on (F.DMA_CFG_EN k) = false ∨ s.requested k = false) →
    exec (.dmaRequestUnit k) s = .next s) ∧
  (∀ (k : Fin 8) (s : State), s.powered 8 = true → s.on (F.DMA_CFG_EN k) = true → s.requested k = true →
    let c := s.dmaCh k
    let n := s.unitBytes k
    let r := s.busRead (.dma k) (c.src / n * n) n
    let w := r.st.busWrite (.dma k) (c.dst / n * n) r.bytes
    r.err = false → r.ue = false → w.err = false → w.st.on (F.DMA_CFG_EN k) = true → c.moved + 1 < c.cnt →
    ∃ t : State, exec (.dmaRequestUnit k) s = .next t ∧ t.mem = w.st.mem ∧
      t.dmaCh k = ⟨nextAddr c.src n (s.on (F.DMA_CFG_SINC k)), nextAddr c.dst n (s.on (F.DMA_CFG_DINC k)), c.cnt, c.moved + 1, false⟩ ∧
      t.get (F.DMA_STAT_LEFT k) = (c.cnt - (c.moved + 1)) % 65536)

/-- The analogue converter. That the other side's read takes nothing is the model's reading (log entry 33). -/
def Obligations.ConverterRunsAndFillsItsFifo : Prop :=
  (∀ (x : Sess) (m : Fin 4) (s : State), accepts s x adcCmd = true → s.powered 10 = true →
    affords s (s.put F.ADC_CFG_MODE m) = true → exec (.adcMode x m) s = .next ((s.put F.ADC_CFG_MODE m).ok x)) ∧
  (∀ (x : Sess) (e on : Bool) (s : State), accepts s x adcCmd = true → s.powered 10 = true →
    affords s (refSettled s ((s.flag F.ADC_REF_SEL e).flag F.ADC_REF_EN on)) = true →
    ∃ t : State, exec (.adcRef x e on) s = .next (t.ok x) ∧ t.on F.ADC_REF_SEL = e ∧ t.on F.ADC_REF_EN = on ∧
      (on = false → t.get F.ADC_STAT_READY = 0)) ∧
  (∀ (x : Sess) (ch : Fin 28) (s : State), accepts s x { adcCmd with query := true } = true → s.powered 10 = true →
    (s.on F.ADC_STAT_BUSY = true → exec (.adcReadQuery x ch) s = .next (s.er x 230)) ∧
    (s.on F.ADC_STAT_BUSY = false → s.get F.ADC_CFG_MODE ≠ 0 → ∃ t : State, exec (.adcReadQuery x ch) s = .next t ∧
      t.get F.ADC_STAT_BUSY = 1 ∧ t.adc.run.map (·.seq) = some [ch.val])) ∧
  (∀ (side : Side) (s : State), opens s side .adc false = true →
    (s.on F.ADC_STAT_BUSY = false → s.get F.ADC_CFG_MODE ≠ 0 → (s.get F.ADC_CFG_MODE = 3 ∨ s.adcChannels.any (24 ≤ ·) = false) →
      ∃ t : State, exec (.adcStart side) s = .next t ∧ t.get F.ADC_STAT_BUSY = 1 ∧
        t.adc.run.map (fun r => (r.mode, r.seq)) = some (s.get F.ADC_CFG_MODE, s.adcChannels)) ∧
    (s.on F.ADC_STAT_BUSY = true → exec (.adcStart side) s = .next (s.deny .adc 3 0x14 side)) ∧
    (s.on F.ADC_STAT_BUSY = true → ∃ t : State, exec (.adcStop side) s = .next t ∧ t.adc.stop = true ∧ t.adc.fifo = s.adc.fifo) ∧
    (s.on F.ADC_STAT_BUSY = false → exec (.adcStop side) s = .next s) ∧
    (∃ t : State, exec (.adcFlush side) s = .next t ∧ t.adc.fifo = [] ∧ t.get F.ADC_STAT_LVL = 0 ∧ t.adc.run = s.adc.run)) ∧
  (∀ (v : Int) (s : State), s.adc.run = none → exec (.adcResult v) s = .next s) ∧
  (∀ (v : Int) (r : AdcRun) (s : State), s.adc.run = some r → s.adc.read = none → r.pack = false → s.on F.ADC_STAT_READY = true →
    s.on F.ADC_WINCFG_EN = false → s.adc.fifo.length < 16 →
    let ch := r.seq.getD (if r.mode = 1 then 0 else s.adc.pos) 0
    ∃ t : State, exec (.adcResult v) s = .next t ∧ t.adc.fifo = s.adc.fifo ++ [resultBits r.align (holdCode ch v) + 2 ^ 16 * ch +
      2 ^ 21 * (if r.mode = 3 then 0 else s.adc.pos) + 2 ^ 23 * 0 + 2 ^ 24 * bit (!s.on F.ADC_STAT_CAL_OK) + 2 ^ 25 * 0]) ∧
  (∀ (side : Side) (s : State), s.powered 10 = true →
    (side ≠ s.owner .adc → exec (.adcFifoRead side) s = .next { s with busData := 0x80000000 }) ∧
    (∀ h r, side = s.owner .adc → s.adc.fifo = h :: r → ∃ t : State, exec (.adcFifoRead side) s = .next t ∧
      t.busData = BitVec.ofNat 32 h ∧ t.adc.fifo = r)) ∧
  (∀ s : State, (s.on F.ADC_REF_EN = true → s.powered 10 = true → exec .adcRefReady s = .next (s.put F.ADC_STAT_READY 1)) ∧
    (s.on F.ADC_REF_EN = false → exec .adcRefReady s = .next s) ∧ (s.on F.ADC_CORR_EN = false → exec .adcCalOk s = .next s)) ∧
  (∀ (r : AdcRun) (s : State), s.on F.ADC_CORR_EN = true → s.adc.run = some r → r.mode ≠ 3 →
    ∃ t : State, exec .adcCalOk s = .next t ∧ t.get F.ADC_STAT_CAL_OK = 1)

/-- The touch block. -/
def Obligations.TouchScansTestsAndSenses : Prop :=
  (∀ (x : Sess) (m : Fin 4) (n : Nat) (s : State), accepts s x touchCmd = true → s.powered 10 = true →
    (affords s (s.put F.TOUCH_CFG_MODE m) = true → exec (.touchMode x m) s = .next ((s.put F.TOUCH_CFG_MODE m).ok x)) ∧
    exec (.touchOntime x n) s = .next ((s.put F.TOUCH_ONTIME_S n).ok x)) ∧
  (∀ (x : Sess) (s : State), accepts s x touchCmd = true → s.powered 10 = true →
    (s.on F.TOUCH_STAT_TESTING = true ∨ s.touch.test.isSome = true → exec (.touchTest x) s = .next (s.er x 230)) ∧
    (s.on F.TOUCH_STAT_TESTING = false → s.touch.test = none → s.on F.TOUCH_STAT_BUSY = true →
      ∃ t : State, exec (.touchTest x) s = .next t ∧ t.touch.test = some (some (x, s.console.tag)) ∧ t.regs = s.regs) ∧
    (s.on F.TOUCH_STAT_TESTING = false → s.touch.test = none → s.on F.TOUCH_STAT_BUSY = false →
      ∃ t : State, exec (.touchTest x) s = .next t ∧ t.get F.TOUCH_STAT_TESTING = 1)) ∧
  (∀ s : State, s.powered 10 = true → s.on F.TOUCH_STAT_BUSY = false → s.on F.TOUCH_STAT_TESTING = false →
    (s.get F.TOUCH_CFG_MODE = 1 ∨ s.get F.TOUCH_CFG_MODE = 2 → ∃ t : State, exec .touchScanStart s = .next t ∧
      t.get F.TOUCH_STAT_BUSY = 1 ∧ t.touch.scan = some s.scanSet ∧ t.touch.segs = List.range s.scanSet.segments.length) ∧
    (s.get F.TOUCH_CFG_MODE = 0 ∨ s.get F.TOUCH_CFG_MODE = 3 → exec .touchScanStart s = .next s)) ∧
  (∀ (l : List (BitVec 16)) (c : ScanSet) (n : Nat) (r : List Nat) (s : State), s.touch.scan = some c → s.touch.segs = n :: r →
    (∃ t : State, exec (.touchSegment l) s = .next t ∧ t.touch.segs = r ∧ t.regs = s.regs ∧
      (∀ k, k ∉ c.segments.getD n [] → Store.get (fun _ => 0) t.touch.raws k = Store.get (fun _ => 0) s.touch.raws k)) ∧
    exec .touchSegmentDiscard s = .next (s.count F.TOUCH_STAT_DISCARD) ∧
    (∃ t : State, exec .touchDqiTimeout s = .next t ∧ t.touch.late = true ∧ t.get F.TOUCH_STAT_LATE = 1 ∧ t.touch.segs = n :: r) ∧
    exec .touchScanEnd s = .next s) ∧
  (∀ s : State, (s.touch.scan = none → exec .touchScanEnd s = .next s) ∧
    (∀ c, s.touch.scan = some c → s.touch.segs = [] → ∃ t : State, exec .touchScanEnd s = .next t ∧ t.touch.first = false)) ∧
  (∀ (side : Side) (s : State), opens s side .touch false = true →
    (s.on F.TOUCH_STAT_BUSY = false → s.on F.TOUCH_STAT_TESTING = false → exec (.touchCtrlStart side) s = .next s.touchStart) ∧
    (s.on F.TOUCH_STAT_BUSY = true → exec (.touchCtrlStart side) s = .next (s.deny .touch 3 0x14 side)) ∧
    (s.on F.TOUCH_STAT_TESTING = false → s.touch.test = none → exec (.touchCtrlTest side) s = .next (s.touchTest none)) ∧
    (s.on F.TOUCH_STAT_TESTING = true ∨ s.touch.test.isSome = true →
      exec (.touchCtrlTest side) s = .next (s.deny .touch 3 0x14 side)) ∧
    (s.on F.TOUCH_STAT_BUSY = true → s.touchTest none = s.withTouch fun k => { k with test := some none }) ∧
    (s.on F.TOUCH_STAT_BUSY = false → (s.touchTest none).get F.TOUCH_STAT_TESTING = 1) ∧
    (∃ t : State, exec (.touchCtrlRebase side) s = .next t ∧ t.touch.rebase = true) ∧
    (s.get F.LIFE_STATE_STATE ≤ 2 → ∃ t : State, exec (.touchCtrlSaveref side) s = .next t ∧ t.touch.ref.isSome = true ∧ t.regs = s.regs) ∧
    (2 < s.get F.LIFE_STATE_STATE → exec (.touchCtrlSaveref side) s = .next (s.put F.TOUCH_STAT_REFERR 1))) ∧
  (∀ (l : List (BitVec 16)) (r : List (BitVec 16 × BitVec 16)) (s : State),
    (s.on F.TOUCH_STAT_TESTING = false → exec (.touchTestEnd l r) s = .next s) ∧
    (s.on F.TOUCH_STAT_TESTING = true → ∃ t : State, exec (.touchTestEnd l r) s = .next t ∧ t.get F.TOUCH_STAT_TESTING = 0 ∧
      (s.on F.TOUCH_STAT_NOREF = true → t.get F.TOUCH_OPEN_MASK = 0 ∧ t.get F.TOUCH_SHORT_MASK = 0))) ∧
  (∀ (v : BitVec 16) (s : State), (s.proxRuns = false → exec (.proximitySample v) s = .next s) ∧
    (s.proxRuns = true → s.touch.proxBase = false → ∃ t : State, exec (.proximitySample v) s = .next t ∧
      t.get F.TOUCH_PROXRAW_RAW = v.toNat ∧ t.get F.TOUCH_PROXRAW_BASE = v.toNat ∧ t.touch.proxBase = true) ∧
    (s.proxRuns = true → s.touch.proxBase = true → s.on F.TOUCH_PROX_DET = false → 1 ≤ s.touch.proxHits →
      s.get F.TOUCH_PROXRAW_BASE + s.get F.TOUCH_PROX_THR ≤ v.toNat →
      ∃ t : State, exec (.proximitySample v) s = .next t ∧ t.get F.TOUCH_PROX_DET = 1))

/-- Signatures, identity and OSNMA. -/
def Obligations.SignaturesAreQueuedMadeAndReported : Prop :=
  (∀ (x : Sess) (s : State), accepts s x { query := true, sysGroup := true, scrapOk := true, heritage := true } = true →
    exec (.sysIdQuery x) s = .next ((s.reply x ("SYS ID " ++ devidText)).ok x)) ∧
  (∀ (x : Sess) (s : State), accepts s x { signCmd with query := true } = true →
    exec (.signKeyQuery x) s = .next ((s.replies x (hexLines "SIGN KEY " [32, 25] Identity.publicKey)).ok x)) ∧
  (∀ (x : Sess) (l : List Byte) (s : State), accepts s x signCmd = true →
    (l = [] ∨ 32 < l.length → exec (.signAttest x l) s = .next (s.er x 120)) ∧
    (l ≠ [] → l.length ≤ 32 → 4 ≤ s.crypto.queue.length → affords s (s.put F.CRYPTO_KEY_BUSY 1) = true →
      exec (.signAttest x l) s = .next (s.er x 320)) ∧
    (l ≠ [] → l.length ≤ 32 → s.crypto.queue.length < 4 → affords s (s.put F.CRYPTO_KEY_BUSY 1) = true → s.powered 11 = true →
      ∃ t : State, exec (.signAttest x l) s = .next t ∧
        t.crypto.queue = s.crypto.queue ++ [⟨.attest x s.console.tag l, 0, [], none⟩] ∧ t.crypto.sseq = s.crypto.sseq)) ∧
  (∀ (x : Sess) (b : Bool) (s : State), accepts s x signCmd = true →
    (∃ t : State, exec (.signFix x b) s = .next (t.ok x) ∧ t.on F.CRYPTO_SFCFG_AUTO = b) ∧
    (s.crypto.mirror = none → exec (.signFixNow x) s = .next (s.er x 401)) ∧
    (∀ m, s.crypto.mirror = some m → s.get F.PWR_PATH_ACT ≠ 2 → s.crypto.queue.length < 4 →
      exec (.signFixNow x) s = .next (s.queueFix (.now x s.console.tag) m.1 m.2))) ∧
  (∀ s : State, (s.crypto.queue = [] ∨ (s.crypto.run.isSome = true) ∨ s.on F.MEMCTL_WIPE_BUSY = true →
      exec .signingStart s = .next s) ∧
    (∀ x tag nonce e b l, s.crypto.queue = ⟨.attest x tag nonce, e, b, none⟩ :: l → s.crypto.run = none → s.crypto.deriving_ = false →
      s.on F.MEMCTL_WIPE_BUSY = false → s.powered 11 = true → s.on F.CRYPTO_KEY_READY = true →
      ledgerGrants s (s.put F.CRYPTO_KEY_BUSY 1) = true →
      ∃ t : State, exec .signingStart s = .next t ∧ t.crypto.queue = l ∧ t.get F.CRYPTO_KEY_BUSY = 1 ∧
        t.crypto.sseq = (s.crypto.sseq + 1) % 2 ^ 32 ∧
        t.crypto.run = some ⟨.attest x tag nonce, e, s.statement s.crypto.sseq nonce, some s.crypto.sseq⟩)) ∧
  (∀ s : State, (s.crypto.run = none → exec .signingDone s = .next s) ∧ (∀ r, s.crypto.run = some r →
    ∃ t : State, exec .signingDone s = .next t ∧ t.crypto.run = none ∧ t.get F.CRYPTO_KEY_BUSY = 0 ∧ t.crypto.queue = s.crypto.queue)) ∧
  (∀ s : State, (s.crypto.deriving_ = false → exec .keyDerivationDone s = .next s) ∧ (s.crypto.deriving_ = true →
    ∃ t : State, exec .keyDerivationDone s = .next t ∧ t.get F.CRYPTO_KEY_READY = 1 ∧ t.get F.CRYPTO_KEY_BUSY = 0 ∧
      t.crypto.deriving_ = false)) ∧
  (∀ (l : List TagResult) (v f : BitVec 8) (k : Option Bool) (c : Bool) (s : State),
    (s.osnmaOn = false → exec (.osnmaTagCheck l v f k c) s = .next s) ∧
    (s.osnmaOn = true → s.timeKnown = false → ∃ t : State, exec (.osnmaTagCheck l v f k c) s = .next t ∧
      t.gnss.tags = s.gnss.tags ++ l ∧ t.gnss.osnma = s.gnss.osnma) ∧
    (s.osnmaOn = true → k = some false → ∃ t : State, exec (.osnmaTagCheck l v f k c) s = .next t ∧
      t.gnss.osnma = s.gnss.osnma ∧ t.get F.GNSS_OSNMA_KEY_P521 = 1 ∧ t.get F.GNSS_OSNMA_KEY_OK = 0) ∧
    (s.osnmaOn = true → s.timeKnown = true → (k = some true ∨ (k = none ∧ s.on F.GNSS_OSNMA_KEY_P521 = false)) →
      ∃ t : State, exec (.osnmaTagCheck l v f k c) s = .next t ∧ t.gnss.tags = [] ∧ t.on F.GNSS_OSNMA_CHAIN_OK = c ∧
        ∀ p ∈ t.gnss.osnma, p ∈ s.gnss.osnma ∨ ∃ q ∈ s.gnss.tags ++ l, q.svn = p.svn ∧ q.adkd = p.adkd ∧ q.iod = p.iod))

/-- The test access port and recovery. -/
def Obligations.TestAccessAndRecovery : Prop :=
  (∀ (v : BitVec 157) (n : BitVec 7) (s : State),
    (∃ t : State, exec (.tapExtest v) s = .next t ∧ t.pads.tap = .extest ∧ t.pads.boundary = v.toNat ∧
      t.pads.captured = s.boundaryCapture 0 ∧ t.pads.seen.isSome = true) ∧
    (∃ t : State, exec (.tapSamplePreload v n) s = .next t ∧ t.pads.tap = .samplePreload ∧ t.pads.boundary = v.toNat ∧
      t.pads.captured = s.boundaryCapture n.toNat ∧ t.pads.seen = none ∧ t.pads.level = s.pads.level)) ∧
  (∀ s : State,
    (∃ t : State, exec .tapIdcode s = .next t ∧ t.pads.tap = .idcode ∧ t.pads.captured = 0x06240B6F ∧ t.regs = s.regs) ∧
    exec .trstnReset s = exec .tapIdcode s ∧
    (∃ t : State, exec .tapClamp s = .next t ∧ t.pads.tap = .clamp ∧ t.pads.boundary = s.pads.boundary ∧
      (∀ v, s.pads.seen = some v → t.pads.seen = some v)) ∧
    (∃ t : State, exec .tapHighz s = .next t ∧ t.pads.tap = .highz ∧ (s.pads.seen = none → t.pads.seen = some s.padInputs)) ∧
    (∃ t : State, exec .tapBypass s = .next t ∧ t.pads.tap = .bypass ∧ t.pads.seen = none) ∧
    (∃ t : State, exec .tapDebug s = .next t ∧ t.pads.tap = if s.debugOpen then .debug else .bypass)) ∧
  (∀ s : State, s.debugOpen = (s.get F.LIFE_STATE_STATE == 1 || s.get F.LIFE_STATE_STATE == 4)) ∧
  (∀ (h : BitVec 3) (s : State), (s.debugOpen = false → exec (.debugReset h) s = .next s) ∧
    (s.debugOpen = true → ∃ t : State, exec (.debugReset h) s = .next t ∧ t.get F.SYSCTL_RCAUSE_LAST = 9)) ∧
  (∀ s : State, (s.on F.LOGS_STAT_RECOV = false → exec .logRecoveryDone s = .next s) ∧
    (s.on F.LOGS_STAT_RECOV = true → s.on F.LOGS_STAT_BUSY = false → ∃ t : State, exec .logRecoveryDone s = .next t ∧
      t.get F.LOGS_STAT_RECOV = 0 ∧ t.get F.LOGS_STAT_BUSY = 1 ∧ t.logs.op.map (·.req) = some .erase))

/-- The pads. -/
def Obligations.PadsChangeAndWake : Prop :=
  (∀ (p : Fin 48) (r : Bool) (s : State),
    (∃ t : State, exec (.gpioWakeEdge p r) s = .next t ∧ t.pads = (s.outside p r).pads) ∧
    (s.power.depth = 0 ∨ s.bankOn p = false → exec (.gpioWakeEdge p r) s = .next (s.outside p r)) ∧
    (s.power.depth ≠ 0 → s.pads.seen = none → s.bankOn p = true → edgeTaken (s.get (F.GPIO_PIN_WAKE p)) r = true →
      ∃ t : State, exec (.gpioWakeEdge p r) s = .next t ∧
        (if p.val < 32 then bitOf (t.get F.GPIO_WAKESTAT0_WAKE) p else bitOf (t.get F.GPIO_WAKESTAT1_WAKE) (p - 32)) = true ∧
        (bitOf (s.get F.PWR_WAKEEN_EN) 3 = true → bitOf t.power.latched 3 = true))) ∧
  (∀ (p : Fin 48) (r : Bool) (s : State), ((∀ k : Fin 16, s.get (F.GPIO_ECH_PIN k) ≠ p.val ∨ edgeTaken (s.get (F.GPIO_ECH_EDGE k)) r = false) →
      exec (.gpioEventEdge p r) s = .next (s.outside p r)) ∧
    (∀ k : Fin 16, s.pads.seen = none → s.bankOn p = true →
      (∀ j : Fin 16, (s.get (F.GPIO_ECH_PIN j) = p.val ∧ edgeTaken (s.get (F.GPIO_ECH_EDGE j)) r = true) ↔ j = k) →
      exec (.gpioEventEdge p r) s = .next ((s.outside p r).fire k))) ∧
  (∀ (side : Side) (b : Bool) (v : Word) (s : State), side = s.owner .gpio →
    let f := if b then F.GPIO_OUT1_OUT else F.GPIO_OUT0_OUT
    exec (.gpioOutset side b v) s = .next (s.put f (s.get f ||| v.toNat)) ∧
    exec (.gpioOutclr side b v) s = .next (s.put f (without (s.get f) v.toNat)))

/-- R44. -/
def Obligations.EveryBlockIsBasicAfterEveryReset : Prop :=
  (∀ b : Block, State.reset.expert b = false) ∧
  ∀ (h : BitVec 3) (b : Block) (s : State),
    let basic := fun (i : Instr) => ∃ t : State, exec i s = .next t ∧ t.expert b = false
    (∀ k, basic (.powerOnReset h k)) ∧ (s.harv.cold = true → basic (.coldStartBoot h)) ∧ (s.power.vbor = true → basic (.vbatBorRelease h)) ∧
    basic (.coreBrownOut h) ∧ basic (.nrstReset h) ∧ basic (.sysWatchdogReset h) ∧
    (s.on F.SYSCTL_WDTA_EN = true → s.power.depth = 0 → basic .appWatchdogExpiry) ∧
    (∀ (m : Master) (a : Bool), m.core = true → basic (.swrstApp m) ∧ basic (.swrstAll m a h)) ∧
    (∀ (x : Sess) (a : Bool), accepts s x { sysGroup := true, heritage := true } = true → basic (.sysReset x a)) ∧
    (∀ (x : Sess) (g : LifeState) (c : BitVec 16), accepts s x lifeCmd = true → transition s.life.fuses.state g.code = true →
      s.life.code = c.toNat → s.life.load = none → s.transitionError s.life.fuses.state g.code = none → basic (.lifeGo x g (some c) h)) ∧
    (s.debugOpen = true → basic (.debugReset h))

/-- R437. -/
def Obligations.BaseUpdatesAreNeverTheTarget : Prop :=
  ∀ (c : CoreId) (rt ra : Reg) (am : AddrMode) (s : State), atWord s c = true →
    let k := s.core c
    let raises := fun (i : Instr) (cause : Nat) => ∃ t : State, exec i s = .next t ∧ (t.core c).special 3 = BitVec.ofNat 32 cause ∧
      (t.core c).special 1 = k.pc ∧ (∀ r, (t.core c).gen r = k.gen r) ∧ t.mem = s.mem
    (am.updates = true → rt = ra → (∀ p, IsLoadOp c rt ra am p → raises p.1 2) ∧ (∀ p, IsStoreOp c rt ra am p → raises p.1 2)) ∧
    (∀ (sl : Slot) (q : SReg), raises (.ldwp c sl q q) 2 ∧ raises (.stwm c sl q q) 2) ∧
    ((am.updates = true → rt ≠ ra) →
      (∀ p, IsLoadOp c rt ra am p → (am.address p.2.1 (k.gen ra) (k.gen am.indexReg)).toNat % p.2.1 ≠ 0 → raises p.1 3) ∧
      (∀ p, IsStoreOp c rt ra am p → (am.address p.2 (k.gen ra) (k.gen am.indexReg)).toNat % p.2 ≠ 0 → raises p.1 3))

/-- R549. -/
def Obligations.StalledLightersKeepTheirPlace : Prop :=
  ∀ (n : Fin 8) (s : State), s.lgtState n = 3 →
    let kept := fun (t : State) => t.get (F.LGT_SH_SH n) = s.get (F.LGT_SH_SH n) ∧ t.get (F.LGT_STAT_SC n) = s.get (F.LGT_STAT_SC n) ∧
      t.get (F.LGT_STAT_RC n) = s.get (F.LGT_STAT_RC n) ∧ t.get (F.LGT_STAT_PC n) = s.get (F.LGT_STAT_PC n)
    (∀ i ∈ [Instr.lgtNop n, .lgtXfer n [], .lgtFill n, .lgtDrain n, .lgtDrive n, .lgtAwait n, .lgtAwaitEnd n, .lgtAwaitTimeout n, .lgtPause n,
      .lgtSet n, .lgtLoop n, .lgtJump n, .lgtMove n, .lgtNote n, .lgtIllegal n], exec i s = .next s) ∧
    (∀ l, exec (.lgtXfer n l) s = .next s) ∧
    (s.powered 9 = true → (∀ v, ∃ t : State, exec (.lgtTxfWrite n v) s = .next t ∧ kept t) ∧
      ∃ t : State, exec (.lgtRxfRead n) s = .next t ∧ kept t) ∧
    (∀ v : Word, (s.on (F.LGT_STAT_WHY n) = true → (s.engine n).rx.length < 8) → (s.on (F.LGT_STAT_WHY n) = false → (s.engine n).tx ≠ []) →
      ∃ t : State, exec (.lgtStallEnd n) (s.put (F.LGT_IMEM_WORD n (s.get (F.LGT_STAT_PC n))) v.toNat) = .next t ∧ kept t ∧
        t.lgtState n = 1 ∧ t.lgtWord n = v.toNat)

/-- R582. -/
def Obligations.InternalChannelsOnlyInEconomy : Prop :=
  (∀ (side : Side) (s : State), opens s side .adc false = true → s.on F.ADC_STAT_BUSY = false →
    (s.get F.ADC_CFG_MODE = 1 ∨ s.get F.ADC_CFG_MODE = 2) → (∃ ch ∈ s.adcChannels, 24 ≤ ch) →
    exec (.adcStart side) s = .next (s.put F.ADC_STAT_CFGERR 1) ∧ s.consume 16 = s.put F.ADC_STAT_CFGERR 1 ∧
      (s.put F.ADC_STAT_CFGERR 1).get F.ADC_STAT_BUSY = 0) ∧
  (∀ (side : Side) (r : AdcRun) (s t : State), opens s side .adc false = true → s.adc.run = none → exec (.adcStart side) s = .next t →
    t.adc.run = some r → (∃ ch ∈ r.seq, 24 ≤ ch) → r.mode = 3)

/-- R36. -/
def Obligations.LedgerLimitByRegulator : Prop :=
  ∀ (x : Sess) (s : State), accepts s x { pwrCmd with query := true } = true →
    (s.on F.PWR_REG_ACT = false → exec (.pwrLedgerQuery x) s =
      .next ((s.reply x ("PWR LEDGER SUM=" ++ Text.fixed 2 s.ledgerSum ++ " LIMIT=80.00")).ok x)) ∧
    (s.on F.PWR_REG_ACT = true → exec (.pwrLedgerQuery x) s =
      .next ((s.reply x ("PWR LEDGER SUM=" ++ Text.fixed 2 s.ledgerSum ++ " LIMIT=0.25")).ok x)) ∧
    (∀ t : State, s.ledgerSum < t.ledgerSum → (ledgerGrants s t = true ↔ t.ledgerSum ≤ if t.on F.PWR_REG_ACT = true then 25 else 8000))
end

