-- ==== Sys2Proof/Laws/Store.lean ====
section
/-! SUPPORT. The laws of sparse stores: a read after a write, and the canonical form that every update keeps. -/

namespace Sys2Proof.Machine

variable {α : Type}

/-- Every key of a store lies above `k`. -/
def Store.above (k : Nat) (m : Store α) : Prop := ∀ c ∈ m, k < c.1

theorem Store.rising_cons {c : Nat × α} {m : Store α} :
    Store.rising (c :: m) = true ↔ Store.above c.1 m ∧ Store.rising m = true := by
  induction m generalizing c with
  | nil => simp [Store.rising, Store.above]
  | cons d r ih =>
    rw [Store.rising, Bool.and_eq_true, decide_eq_true_eq, ih]
    constructor
    · rintro ⟨h, ha, hr⟩
      refine ⟨?_, ha, hr⟩
      intro x hx
      rcases List.mem_cons.mp hx with rfl | hx
      · exact h
      · exact Nat.lt_trans h (ha x hx)
    · rintro ⟨h, ha, hr⟩
      exact ⟨h d (by simp), ha, hr⟩

theorem Store.rising_filter {m : Store α} (p : Nat × α → Bool) (h : Store.rising m = true) :
    Store.rising (m.filter p) = true := by
  induction m with
  | nil => rfl
  | cons c r ih =>
    rw [Store.rising_cons] at h
    rw [List.filter_cons]
    split
    · rw [Store.rising_cons]
      exact ⟨fun x hx => h.1 x ((List.mem_filter.mp hx).1), ih h.2⟩
    · exact ih h.2

theorem Store.erase_eq_filter (k : Nat) (m : Store α) : Store.erase k m = m.filter fun c => c.1 != k := by
  induction m with
  | nil => rfl
  | cons c r ih =>
    obtain ⟨j, v⟩ := c
    rw [Store.erase]
    by_cases h : j = k <;> simp [h, ih, List.filter_cons]

theorem Store.mem_insert {k : Nat} {v : α} {m : Store α} {c : Nat × α} :
    c ∈ Store.insert k v m ↔ c = (k, v) ∨ c ∈ m := by
  induction m with
  | nil => simp [Store.insert]
  | cons d r ih =>
    obtain ⟨j, w⟩ := d
    rw [Store.insert]
    split
    · simp
    · simp only [List.mem_cons, ih]
      exact or_left_comm

theorem Store.rising_insert {k : Nat} {v : α} {m : Store α} (h : Store.rising m = true) (hk : ∀ c ∈ m, c.1 ≠ k) :
    Store.rising (Store.insert k v m) = true := by
  induction m with
  | nil => rfl
  | cons d r ih =>
    obtain ⟨j, w⟩ := d
    have h' := Store.rising_cons.mp h
    rw [Store.insert]
    split
    · rename_i hlt
      rw [Store.rising_cons]
      refine ⟨?_, h⟩
      intro x hx
      rcases List.mem_cons.mp hx with rfl | hx
      · exact hlt
      · exact Nat.lt_trans hlt (h'.1 x hx)
    · rename_i hlt
      rw [Store.rising_cons]
      refine ⟨?_, ih h'.2 fun c hc => hk c (List.mem_cons_of_mem _ hc)⟩
      intro x hx
      rcases Store.mem_insert.mp hx with rfl | hx
      · have := hk (j, w) (by simp)
        simp only at this ⊢
        omega
      · exact h'.1 x hx

variable [DecidableEq α]

theorem Store.wf_iff {d : Nat → α} {m : Store α} :
    Store.wf d m = true ↔ Store.rising m = true ∧ ∀ c ∈ m, c.2 ≠ d c.1 := by
  simp [Store.wf]

/-- A write keeps the canonical form. -/
theorem Store.wf_set {d : Nat → α} {m : Store α} (k : Nat) (v : α) (h : Store.wf d m = true) :
    Store.wf d (Store.set d m k v) = true := by
  rw [Store.wf_iff] at h ⊢
  have he : Store.rising (Store.erase k m) = true := by
    rw [Store.erase_eq_filter]; exact Store.rising_filter _ h.1
  have hm : ∀ c ∈ Store.erase k m, c ∈ m ∧ c.1 ≠ k := by
    intro c hc
    rw [Store.erase_eq_filter, List.mem_filter] at hc
    simpa using hc
  unfold Store.set
  split
  · exact ⟨he, fun c hc => h.2 c (hm c hc).1⟩
  · rename_i hv
    refine ⟨Store.rising_insert he fun c hc => (hm c hc).2, ?_⟩
    intro c hc
    rcases Store.mem_insert.mp hc with rfl | hc
    · exact hv
    · exact h.2 c (hm c hc).1

/-- Removing entries keeps the canonical form. -/
theorem Store.wf_filter {d : Nat → α} {m : Store α} (p : Nat × α → Bool) (h : Store.wf d m = true) :
    Store.wf d (m.filter p) = true := by
  rw [Store.wf_iff] at h ⊢
  exact ⟨Store.rising_filter p h.1, fun c hc => h.2 c ((List.mem_filter.mp hc).1)⟩

theorem Store.wf_clear {d : Nat → α} {m : Store α} (lo hi : Nat) (h : Store.wf d m = true) :
    Store.wf d (Store.clear lo hi m) = true := Store.wf_filter _ h

@[simp] theorem Store.wf_nil {d : Nat → α} : Store.wf d ([] : Store α) = true := rfl

omit [DecidableEq α] in
theorem Store.get_erase_same (d : Nat → α) (m : Store α) (k : Nat) : Store.get d (Store.erase k m) k = d k := by
  induction m with
  | nil => rfl
  | cons c r ih =>
    obtain ⟨j, v⟩ := c
    rw [Store.erase]
    split
    · exact ih
    · rename_i h; rw [Store.get, if_neg h]; exact ih

omit [DecidableEq α] in
theorem Store.get_erase_other (d : Nat → α) (m : Store α) {k j : Nat} (h : j ≠ k) :
    Store.get d (Store.erase k m) j = Store.get d m j := by
  induction m with
  | nil => rfl
  | cons c r ih =>
    obtain ⟨i, v⟩ := c
    rw [Store.erase]
    split
    · rename_i hi; subst hi; rw [ih, Store.get, if_neg (Ne.symm h)]
    · rw [Store.get, Store.get, ih]

omit [DecidableEq α] in
theorem Store.get_insert_same (d : Nat → α) (m : Store α) (k : Nat) (v : α) (hk : ∀ c ∈ m, c.1 ≠ k) :
    Store.get d (Store.insert k v m) k = v := by
  induction m with
  | nil => simp [Store.insert, Store.get]
  | cons c r ih =>
    obtain ⟨j, w⟩ := c
    rw [Store.insert]
    split
    · simp [Store.get]
    · rw [Store.get, if_neg (hk (j, w) (by simp))]
      exact ih fun c hc => hk c (List.mem_cons_of_mem _ hc)

omit [DecidableEq α] in
theorem Store.get_insert_other (d : Nat → α) (m : Store α) {k j : Nat} (v : α) (h : j ≠ k) :
    Store.get d (Store.insert k v m) j = Store.get d m j := by
  induction m with
  | nil => simp [Store.insert, Store.get, Ne.symm h]
  | cons c r ih =>
    obtain ⟨i, w⟩ := c
    rw [Store.insert]
    split
    · rw [Store.get, if_neg (Ne.symm h)]
    · rw [Store.get, Store.get, ih]

omit [DecidableEq α] in
theorem Store.erase_keys (m : Store α) (k : Nat) : ∀ c ∈ Store.erase k m, c.1 ≠ k := by
  intro c hc
  rw [Store.erase_eq_filter, List.mem_filter] at hc
  simpa using hc.2

/-- A read after a write to the same key gives the value written. -/
@[simp] theorem Store.get_set_same (d : Nat → α) (m : Store α) (k : Nat) (v : α) :
    Store.get d (Store.set d m k v) k = v := by
  unfold Store.set
  split
  · rename_i h; rw [Store.get_erase_same, h]
  · exact Store.get_insert_same _ _ _ _ (Store.erase_keys m k)

/-- A write leaves every other key alone. -/
theorem Store.get_set_other (d : Nat → α) (m : Store α) {k j : Nat} (v : α) (h : j ≠ k) :
    Store.get d (Store.set d m k v) j = Store.get d m j := by
  unfold Store.set
  split
  · exact Store.get_erase_other _ _ h
  · rw [Store.get_insert_other _ _ _ h, Store.get_erase_other _ _ h]

omit [DecidableEq α] in
/-- A filter that looks at the key alone leaves a kept key's value, and gives a removed key its default. -/
theorem Store.get_filter (d : Nat → α) (m : Store α) (p : Nat → Bool) (k : Nat) :
    Store.get d (m.filter fun c => p c.1) k = if p k then Store.get d m k else d k := by
  induction m with
  | nil => simp [Store.get]
  | cons c r ih =>
    obtain ⟨j, v⟩ := c
    by_cases hj : p j = true
    · rw [List.filter_cons_of_pos (by simpa using hj), Store.get, Store.get, ih]
      by_cases hk : j = k
      · subst hk; simp [hj]
      · simp [hk]
    · rw [List.filter_cons_of_neg (by simpa using hj), ih, Store.get]
      by_cases hk : j = k
      · subst hk; simp [hj]
      · simp [hk]

omit [DecidableEq α] in
theorem Store.get_clear (d : Nat → α) (m : Store α) (lo hi k : Nat) :
    Store.get d (Store.clear lo hi m) k = if lo ≤ k ∧ k < hi then d k else Store.get d m k := by
  unfold Store.clear
  rw [Store.get_filter d m (fun k => decide (k < lo) || decide (hi ≤ k)) k]
  by_cases h : lo ≤ k ∧ k < hi
  · rw [if_pos h, if_neg]; simp; omega
  · rw [if_neg h, if_pos]; simp; omega

end Sys2Proof.Machine
end

