-- ==== Sys2Proof/Laws/State.lean ====
section
/-! SUPPORT. The laws of the state: a read after a write of a register field, of a byte, of a session, of a core and of a
manifest; and what each update of one part leaves alone. -/

namespace Sys2Proof.Machine

/-- A field reads what was put into it, cut to its width. -/
@[simp] theorem State.get_put_same (s : State) (f : Fld) (v : Nat) : (s.put f v).get f = v % 2 ^ f.w :=
  Store.get_set_same _ _ _ _

/-- A put leaves every field with another key alone. -/
theorem State.get_put_other (s : State) {f g : Fld} (v : Nat) (h : g.key ≠ f.key) : (s.put f v).get g = s.get g :=
  Store.get_set_other _ _ _ h

/-- Every field reads as before when the registers are the same. -/
theorem State.get_congr {s t : State} (f : Fld) (h : t.regs = s.regs) : t.get f = s.get f := by
  unfold State.get; rw [h]

/-- A byte reads what was written to it. -/
@[simp] theorem State.byte_setByte_same (s : State) (a : Nat) (v : Byte) : (s.setByte a v).byte a = v :=
  Store.get_set_same _ _ _ _

/-- A write of a byte leaves every other byte alone. -/
theorem State.byte_setByte_other (s : State) {a b : Nat} (v : Byte) (h : b ≠ a) : (s.setByte a v).byte b = s.byte b :=
  Store.get_set_other _ _ _ h

/-- Bytes written from an address on leave every other byte alone. -/
theorem State.byte_setBytes_other (l : List Byte) (s : State) (a b : Nat) (h : b < a ∨ a + l.length ≤ b) :
    (s.setBytes a l).byte b = s.byte b := by
  induction l generalizing s a with
  | nil => rfl
  | cons c r ih =>
    simp only [List.length_cons] at h
    rw [State.setBytes, ih _ _ (by omega), State.byte_setByte_other _ _ (by omega)]

/-- Bytes written from an address on read as they were written. -/
theorem State.byte_setBytes (l : List Byte) (s : State) (a i : Nat) (h : i < l.length) :
    (s.setBytes a l).byte (a + i) = l[i] := by
  induction l generalizing s a i with
  | nil => simp at h
  | cons c r ih =>
    rw [State.setBytes]
    cases i with
    | zero => rw [State.byte_setBytes_other _ _ _ _ (by omega)]; simp
    | succ n =>
      have := ih (s.setByte a c) (a + 1) n (by simpa using h)
      rw [show a + (n + 1) = a + 1 + n by omega]
      simpa using this

@[simp] theorem State.sess_setSess_same (s : State) (x : Sess) (n : Session) : (s.setSess x n).sess x = n := by
  cases x <;> rfl

theorem State.sess_setSess_other (s : State) {x y : Sess} (n : Session) (h : y ≠ x) : (s.setSess x n).sess y = s.sess y := by
  cases x <;> cases y <;> first | rfl | exact absurd rfl h

@[simp] theorem State.core_setCore_same (s : State) (c : CoreId) (k : Core) : (s.setCore c k).core c = k := by
  cases c <;> rfl

theorem State.core_setCore_other (s : State) {c d : CoreId} (k : Core) (h : d ≠ c) : (s.setCore c k).core d = s.core d := by
  cases c <;> cases d <;> first | rfl | exact absurd rfl h

@[simp] theorem State.man_setMan_same (s : State) (m : Man) (q : ManQueue) : (s.setMan m q).man m = q := by
  cases m <;> rfl

theorem State.man_setMan_other (s : State) {m n : Man} (q : ManQueue) (h : n ≠ m) : (s.setMan m q).man n = s.man n := by
  cases m <;> cases n <;> first | rfl | exact absurd rfl h

@[simp] theorem State.berth_setBerth_same (s : State) (n : Nat) (b : BerthState) : (s.setBerth n b).berth n = b :=
  Store.get_set_same _ _ _ _

theorem State.berth_setBerth_other (s : State) {n m : Nat} (b : BerthState) (h : m ≠ n) : (s.setBerth n b).berth m = s.berth m :=
  Store.get_set_other _ _ _ h

@[simp] theorem State.engine_setEngine_same (s : State) (n : Nat) (e : Engine) : (s.setEngine n e).engine n = e :=
  Store.get_set_same _ _ _ _

theorem State.engine_setEngine_other (s : State) {n m : Nat} (e : Engine) (h : m ≠ n) :
    (s.setEngine n e).engine m = s.engine m := Store.get_set_other _ _ _ h

@[simp] theorem State.spi_setSpi_same (s : State) (k : Nat) (p : Spi) : (s.setSpi k p).spi k = p := Store.get_set_same _ _ _ _

theorem State.spi_setSpi_other (s : State) {k j : Nat} (p : Spi) (h : j ≠ k) : (s.setSpi k p).spi j = s.spi j :=
  Store.get_set_other _ _ _ h

@[simp] theorem State.dmaCh_setDma_same (s : State) (k : Nat) (d : Dma) : (s.setDma k d).dmaCh k = d :=
  Store.get_set_same _ _ _ _

theorem State.dmaCh_setDma_other (s : State) {k j : Nat} (d : Dma) (h : j ≠ k) : (s.setDma k d).dmaCh j = s.dmaCh j :=
  Store.get_set_other _ _ _ h

@[simp] theorem State.put_pending (s : State) (f : Fld) (v : Nat) : (s.put f v).pending = s.pending := rfl
@[simp] theorem State.put_free (s : State) (f : Fld) (v : Nat) : (s.put f v).free = s.free := rfl
@[simp] theorem State.put_mem (s : State) (f : Fld) (v : Nat) : (s.put f v).mem = s.mem := rfl
@[simp] theorem State.put_chk (s : State) (f : Fld) (v : Nat) : (s.put f v).chk = s.chk := rfl
@[simp] theorem State.put_runs (s : State) (f : Fld) (v : Nat) : (s.put f v).runs = s.runs := rfl
@[simp] theorem State.put_wbacks (s : State) (f : Fld) (v : Nat) : (s.put f v).wbacks = s.wbacks := rfl
@[simp] theorem State.put_busData (s : State) (f : Fld) (v : Nat) : (s.put f v).busData = s.busData := rfl
@[simp] theorem State.put_app (s : State) (f : Fld) (v : Nat) : (s.put f v).app = s.app := rfl
@[simp] theorem State.put_sys (s : State) (f : Fld) (v : Nat) : (s.put f v).sys = s.sys := rfl
@[simp] theorem State.put_console (s : State) (f : Fld) (v : Nat) : (s.put f v).console = s.console := rfl
@[simp] theorem State.put_manApp (s : State) (f : Fld) (v : Nat) : (s.put f v).manApp = s.manApp := rfl
@[simp] theorem State.put_manSys (s : State) (f : Fld) (v : Nat) : (s.put f v).manSys = s.manSys := rfl
@[simp] theorem State.put_tide (s : State) (f : Fld) (v : Nat) : (s.put f v).tide = s.tide := rfl
@[simp] theorem State.put_tp (s : State) (f : Fld) (v : Nat) : (s.put f v).tp = s.tp := rfl
@[simp] theorem State.put_tt (s : State) (f : Fld) (v : Nat) : (s.put f v).tt = s.tt := rfl
@[simp] theorem State.put_rtc (s : State) (f : Fld) (v : Nat) : (s.put f v).rtc = s.rtc := rfl
@[simp] theorem State.put_logs (s : State) (f : Fld) (v : Nat) : (s.put f v).logs = s.logs := rfl
@[simp] theorem State.put_crypto (s : State) (f : Fld) (v : Nat) : (s.put f v).crypto = s.crypto := rfl
@[simp] theorem State.put_power (s : State) (f : Fld) (v : Nat) : (s.put f v).power = s.power := rfl
@[simp] theorem State.put_harv (s : State) (f : Fld) (v : Nat) : (s.put f v).harv = s.harv := rfl
@[simp] theorem State.put_clk (s : State) (f : Fld) (v : Nat) : (s.put f v).clk = s.clk := rfl
@[simp] theorem State.put_life (s : State) (f : Fld) (v : Nat) : (s.put f v).life = s.life := rfl
@[simp] theorem State.put_gnss (s : State) (f : Fld) (v : Nat) : (s.put f v).gnss = s.gnss := rfl
@[simp] theorem State.put_pads (s : State) (f : Fld) (v : Nat) : (s.put f v).pads = s.pads := rfl
@[simp] theorem State.put_lgt (s : State) (f : Fld) (v : Nat) : (s.put f v).lgt = s.lgt := rfl
@[simp] theorem State.put_uarts (s : State) (f : Fld) (v : Nat) : (s.put f v).uarts = s.uarts := rfl
@[simp] theorem State.put_i2ct (s : State) (f : Fld) (v : Nat) : (s.put f v).i2ct = s.i2ct := rfl
@[simp] theorem State.put_spis (s : State) (f : Fld) (v : Nat) : (s.put f v).spis = s.spis := rfl
@[simp] theorem State.put_dma (s : State) (f : Fld) (v : Nat) : (s.put f v).dma = s.dma := rfl
@[simp] theorem State.put_adc (s : State) (f : Fld) (v : Nat) : (s.put f v).adc = s.adc := rfl
@[simp] theorem State.put_touch (s : State) (f : Fld) (v : Nat) : (s.put f v).touch = s.touch := rfl
@[simp] theorem State.put_memTest (s : State) (f : Fld) (v : Nat) : (s.put f v).memTest = s.memTest := rfl
@[simp] theorem State.put_mems (s : State) (f : Fld) (v : Nat) : (s.put f v).mems = s.mems := rfl

@[simp] theorem State.setByte_pending (s : State) (a : Nat) (v : Byte) : (s.setByte a v).pending = s.pending := rfl
@[simp] theorem State.setByte_free (s : State) (a : Nat) (v : Byte) : (s.setByte a v).free = s.free := rfl
@[simp] theorem State.setByte_regs (s : State) (a : Nat) (v : Byte) : (s.setByte a v).regs = s.regs := rfl
@[simp] theorem State.setByte_chk (s : State) (a : Nat) (v : Byte) : (s.setByte a v).chk = s.chk := rfl
@[simp] theorem State.setByte_runs (s : State) (a : Nat) (v : Byte) : (s.setByte a v).runs = s.runs := rfl
@[simp] theorem State.setByte_wbacks (s : State) (a : Nat) (v : Byte) : (s.setByte a v).wbacks = s.wbacks := rfl
@[simp] theorem State.setByte_busData (s : State) (a : Nat) (v : Byte) : (s.setByte a v).busData = s.busData := rfl
@[simp] theorem State.setByte_app (s : State) (a : Nat) (v : Byte) : (s.setByte a v).app = s.app := rfl
@[simp] theorem State.setByte_sys (s : State) (a : Nat) (v : Byte) : (s.setByte a v).sys = s.sys := rfl
@[simp] theorem State.setByte_console (s : State) (a : Nat) (v : Byte) : (s.setByte a v).console = s.console := rfl
@[simp] theorem State.setByte_manApp (s : State) (a : Nat) (v : Byte) : (s.setByte a v).manApp = s.manApp := rfl
@[simp] theorem State.setByte_manSys (s : State) (a : Nat) (v : Byte) : (s.setByte a v).manSys = s.manSys := rfl
@[simp] theorem State.setByte_tide (s : State) (a : Nat) (v : Byte) : (s.setByte a v).tide = s.tide := rfl
@[simp] theorem State.setByte_tp (s : State) (a : Nat) (v : Byte) : (s.setByte a v).tp = s.tp := rfl
@[simp] theorem State.setByte_tt (s : State) (a : Nat) (v : Byte) : (s.setByte a v).tt = s.tt := rfl
@[simp] theorem State.setByte_rtc (s : State) (a : Nat) (v : Byte) : (s.setByte a v).rtc = s.rtc := rfl
@[simp] theorem State.setByte_logs (s : State) (a : Nat) (v : Byte) : (s.setByte a v).logs = s.logs := rfl
@[simp] theorem State.setByte_crypto (s : State) (a : Nat) (v : Byte) : (s.setByte a v).crypto = s.crypto := rfl
@[simp] theorem State.setByte_power (s : State) (a : Nat) (v : Byte) : (s.setByte a v).power = s.power := rfl
@[simp] theorem State.setByte_harv (s : State) (a : Nat) (v : Byte) : (s.setByte a v).harv = s.harv := rfl
@[simp] theorem State.setByte_clk (s : State) (a : Nat) (v : Byte) : (s.setByte a v).clk = s.clk := rfl
@[simp] theorem State.setByte_life (s : State) (a : Nat) (v : Byte) : (s.setByte a v).life = s.life := rfl
@[simp] theorem State.setByte_gnss (s : State) (a : Nat) (v : Byte) : (s.setByte a v).gnss = s.gnss := rfl
@[simp] theorem State.setByte_pads (s : State) (a : Nat) (v : Byte) : (s.setByte a v).pads = s.pads := rfl
@[simp] theorem State.setByte_lgt (s : State) (a : Nat) (v : Byte) : (s.setByte a v).lgt = s.lgt := rfl
@[simp] theorem State.setByte_uarts (s : State) (a : Nat) (v : Byte) : (s.setByte a v).uarts = s.uarts := rfl
@[simp] theorem State.setByte_i2ct (s : State) (a : Nat) (v : Byte) : (s.setByte a v).i2ct = s.i2ct := rfl
@[simp] theorem State.setByte_spis (s : State) (a : Nat) (v : Byte) : (s.setByte a v).spis = s.spis := rfl
@[simp] theorem State.setByte_dma (s : State) (a : Nat) (v : Byte) : (s.setByte a v).dma = s.dma := rfl
@[simp] theorem State.setByte_adc (s : State) (a : Nat) (v : Byte) : (s.setByte a v).adc = s.adc := rfl
@[simp] theorem State.setByte_touch (s : State) (a : Nat) (v : Byte) : (s.setByte a v).touch = s.touch := rfl
@[simp] theorem State.setByte_memTest (s : State) (a : Nat) (v : Byte) : (s.setByte a v).memTest = s.memTest := rfl
@[simp] theorem State.setByte_mems (s : State) (a : Nat) (v : Byte) : (s.setByte a v).mems = s.mems := rfl
@[simp] theorem State.get_setByte (s : State) (a : Nat) (v : Byte) (g : Fld) : (s.setByte a v).get g = s.get g := rfl

@[simp] theorem State.setCheck_pending (s : State) (b v : Nat) : (s.setCheck b v).pending = s.pending := rfl
@[simp] theorem State.setCheck_free (s : State) (b v : Nat) : (s.setCheck b v).free = s.free := rfl
@[simp] theorem State.setCheck_regs (s : State) (b v : Nat) : (s.setCheck b v).regs = s.regs := rfl
@[simp] theorem State.setCheck_mem (s : State) (b v : Nat) : (s.setCheck b v).mem = s.mem := rfl
@[simp] theorem State.setCheck_runs (s : State) (b v : Nat) : (s.setCheck b v).runs = s.runs := rfl
@[simp] theorem State.setCheck_wbacks (s : State) (b v : Nat) : (s.setCheck b v).wbacks = s.wbacks := rfl
@[simp] theorem State.setCheck_busData (s : State) (b v : Nat) : (s.setCheck b v).busData = s.busData := rfl
@[simp] theorem State.setCheck_app (s : State) (b v : Nat) : (s.setCheck b v).app = s.app := rfl
@[simp] theorem State.setCheck_sys (s : State) (b v : Nat) : (s.setCheck b v).sys = s.sys := rfl
@[simp] theorem State.setCheck_console (s : State) (b v : Nat) : (s.setCheck b v).console = s.console := rfl
@[simp] theorem State.setCheck_manApp (s : State) (b v : Nat) : (s.setCheck b v).manApp = s.manApp := rfl
@[simp] theorem State.setCheck_manSys (s : State) (b v : Nat) : (s.setCheck b v).manSys = s.manSys := rfl
@[simp] theorem State.setCheck_tide (s : State) (b v : Nat) : (s.setCheck b v).tide = s.tide := rfl
@[simp] theorem State.setCheck_tp (s : State) (b v : Nat) : (s.setCheck b v).tp = s.tp := rfl
@[simp] theorem State.setCheck_tt (s : State) (b v : Nat) : (s.setCheck b v).tt = s.tt := rfl
@[simp] theorem State.setCheck_rtc (s : State) (b v : Nat) : (s.setCheck b v).rtc = s.rtc := rfl
@[simp] theorem State.setCheck_logs (s : State) (b v : Nat) : (s.setCheck b v).logs = s.logs := rfl
@[simp] theorem State.setCheck_crypto (s : State) (b v : Nat) : (s.setCheck b v).crypto = s.crypto := rfl
@[simp] theorem State.setCheck_power (s : State) (b v : Nat) : (s.setCheck b v).power = s.power := rfl
@[simp] theorem State.setCheck_harv (s : State) (b v : Nat) : (s.setCheck b v).harv = s.harv := rfl
@[simp] theorem State.setCheck_clk (s : State) (b v : Nat) : (s.setCheck b v).clk = s.clk := rfl
@[simp] theorem State.setCheck_life (s : State) (b v : Nat) : (s.setCheck b v).life = s.life := rfl
@[simp] theorem State.setCheck_gnss (s : State) (b v : Nat) : (s.setCheck b v).gnss = s.gnss := rfl
@[simp] theorem State.setCheck_pads (s : State) (b v : Nat) : (s.setCheck b v).pads = s.pads := rfl
@[simp] theorem State.setCheck_lgt (s : State) (b v : Nat) : (s.setCheck b v).lgt = s.lgt := rfl
@[simp] theorem State.setCheck_uarts (s : State) (b v : Nat) : (s.setCheck b v).uarts = s.uarts := rfl
@[simp] theorem State.setCheck_i2ct (s : State) (b v : Nat) : (s.setCheck b v).i2ct = s.i2ct := rfl
@[simp] theorem State.setCheck_spis (s : State) (b v : Nat) : (s.setCheck b v).spis = s.spis := rfl
@[simp] theorem State.setCheck_dma (s : State) (b v : Nat) : (s.setCheck b v).dma = s.dma := rfl
@[simp] theorem State.setCheck_adc (s : State) (b v : Nat) : (s.setCheck b v).adc = s.adc := rfl
@[simp] theorem State.setCheck_touch (s : State) (b v : Nat) : (s.setCheck b v).touch = s.touch := rfl
@[simp] theorem State.setCheck_memTest (s : State) (b v : Nat) : (s.setCheck b v).memTest = s.memTest := rfl
@[simp] theorem State.setCheck_mems (s : State) (b v : Nat) : (s.setCheck b v).mems = s.mems := rfl
@[simp] theorem State.get_setCheck (s : State) (b v : Nat) (g : Fld) : (s.setCheck b v).get g = s.get g := rfl

@[simp] theorem State.setSess_pending (s : State) (x : Sess) (n : Session) : (s.setSess x n).pending = s.pending := rfl
@[simp] theorem State.setSess_free (s : State) (x : Sess) (n : Session) : (s.setSess x n).free = s.free := rfl
@[simp] theorem State.setSess_regs (s : State) (x : Sess) (n : Session) : (s.setSess x n).regs = s.regs := rfl
@[simp] theorem State.setSess_mem (s : State) (x : Sess) (n : Session) : (s.setSess x n).mem = s.mem := rfl
@[simp] theorem State.setSess_chk (s : State) (x : Sess) (n : Session) : (s.setSess x n).chk = s.chk := rfl
@[simp] theorem State.setSess_runs (s : State) (x : Sess) (n : Session) : (s.setSess x n).runs = s.runs := rfl
@[simp] theorem State.setSess_wbacks (s : State) (x : Sess) (n : Session) : (s.setSess x n).wbacks = s.wbacks := rfl
@[simp] theorem State.setSess_busData (s : State) (x : Sess) (n : Session) : (s.setSess x n).busData = s.busData := rfl
@[simp] theorem State.setSess_app (s : State) (x : Sess) (n : Session) : (s.setSess x n).app = s.app := rfl
@[simp] theorem State.setSess_sys (s : State) (x : Sess) (n : Session) : (s.setSess x n).sys = s.sys := rfl
@[simp] theorem State.setSess_manApp (s : State) (x : Sess) (n : Session) : (s.setSess x n).manApp = s.manApp := rfl
@[simp] theorem State.setSess_manSys (s : State) (x : Sess) (n : Session) : (s.setSess x n).manSys = s.manSys := rfl
@[simp] theorem State.setSess_tide (s : State) (x : Sess) (n : Session) : (s.setSess x n).tide = s.tide := rfl
@[simp] theorem State.setSess_tp (s : State) (x : Sess) (n : Session) : (s.setSess x n).tp = s.tp := rfl
@[simp] theorem State.setSess_tt (s : State) (x : Sess) (n : Session) : (s.setSess x n).tt = s.tt := rfl
@[simp] theorem State.setSess_rtc (s : State) (x : Sess) (n : Session) : (s.setSess x n).rtc = s.rtc := rfl
@[simp] theorem State.setSess_logs (s : State) (x : Sess) (n : Session) : (s.setSess x n).logs = s.logs := rfl
@[simp] theorem State.setSess_crypto (s : State) (x : Sess) (n : Session) : (s.setSess x n).crypto = s.crypto := rfl
@[simp] theorem State.setSess_power (s : State) (x : Sess) (n : Session) : (s.setSess x n).power = s.power := rfl
@[simp] theorem State.setSess_harv (s : State) (x : Sess) (n : Session) : (s.setSess x n).harv = s.harv := rfl
@[simp] theorem State.setSess_clk (s : State) (x : Sess) (n : Session) : (s.setSess x n).clk = s.clk := rfl
@[simp] theorem State.setSess_life (s : State) (x : Sess) (n : Session) : (s.setSess x n).life = s.life := rfl
@[simp] theorem State.setSess_gnss (s : State) (x : Sess) (n : Session) : (s.setSess x n).gnss = s.gnss := rfl
@[simp] theorem State.setSess_pads (s : State) (x : Sess) (n : Session) : (s.setSess x n).pads = s.pads := rfl
@[simp] theorem State.setSess_lgt (s : State) (x : Sess) (n : Session) : (s.setSess x n).lgt = s.lgt := rfl
@[simp] theorem State.setSess_uarts (s : State) (x : Sess) (n : Session) : (s.setSess x n).uarts = s.uarts := rfl
@[simp] theorem State.setSess_i2ct (s : State) (x : Sess) (n : Session) : (s.setSess x n).i2ct = s.i2ct := rfl
@[simp] theorem State.setSess_spis (s : State) (x : Sess) (n : Session) : (s.setSess x n).spis = s.spis := rfl
@[simp] theorem State.setSess_dma (s : State) (x : Sess) (n : Session) : (s.setSess x n).dma = s.dma := rfl
@[simp] theorem State.setSess_adc (s : State) (x : Sess) (n : Session) : (s.setSess x n).adc = s.adc := rfl
@[simp] theorem State.setSess_touch (s : State) (x : Sess) (n : Session) : (s.setSess x n).touch = s.touch := rfl
@[simp] theorem State.setSess_memTest (s : State) (x : Sess) (n : Session) : (s.setSess x n).memTest = s.memTest := rfl
@[simp] theorem State.setSess_mems (s : State) (x : Sess) (n : Session) : (s.setSess x n).mems = s.mems := rfl
@[simp] theorem State.get_setSess (s : State) (x : Sess) (n : Session) (g : Fld) : (s.setSess x n).get g = s.get g := rfl

@[simp] theorem State.spend_pending (s : State) : (s.spend).pending = s.pending := rfl
@[simp] theorem State.spend_regs (s : State) : (s.spend).regs = s.regs := rfl
@[simp] theorem State.spend_mem (s : State) : (s.spend).mem = s.mem := rfl
@[simp] theorem State.spend_chk (s : State) : (s.spend).chk = s.chk := rfl
@[simp] theorem State.spend_runs (s : State) : (s.spend).runs = s.runs := rfl
@[simp] theorem State.spend_wbacks (s : State) : (s.spend).wbacks = s.wbacks := rfl
@[simp] theorem State.spend_busData (s : State) : (s.spend).busData = s.busData := rfl
@[simp] theorem State.spend_app (s : State) : (s.spend).app = s.app := rfl
@[simp] theorem State.spend_sys (s : State) : (s.spend).sys = s.sys := rfl
@[simp] theorem State.spend_console (s : State) : (s.spend).console = s.console := rfl
@[simp] theorem State.spend_manApp (s : State) : (s.spend).manApp = s.manApp := rfl
@[simp] theorem State.spend_manSys (s : State) : (s.spend).manSys = s.manSys := rfl
@[simp] theorem State.spend_tide (s : State) : (s.spend).tide = s.tide := rfl
@[simp] theorem State.spend_tp (s : State) : (s.spend).tp = s.tp := rfl
@[simp] theorem State.spend_tt (s : State) : (s.spend).tt = s.tt := rfl
@[simp] theorem State.spend_rtc (s : State) : (s.spend).rtc = s.rtc := rfl
@[simp] theorem State.spend_logs (s : State) : (s.spend).logs = s.logs := rfl
@[simp] theorem State.spend_crypto (s : State) : (s.spend).crypto = s.crypto := rfl
@[simp] theorem State.spend_power (s : State) : (s.spend).power = s.power := rfl
@[simp] theorem State.spend_harv (s : State) : (s.spend).harv = s.harv := rfl
@[simp] theorem State.spend_clk (s : State) : (s.spend).clk = s.clk := rfl
@[simp] theorem State.spend_life (s : State) : (s.spend).life = s.life := rfl
@[simp] theorem State.spend_gnss (s : State) : (s.spend).gnss = s.gnss := rfl
@[simp] theorem State.spend_pads (s : State) : (s.spend).pads = s.pads := rfl
@[simp] theorem State.spend_lgt (s : State) : (s.spend).lgt = s.lgt := rfl
@[simp] theorem State.spend_uarts (s : State) : (s.spend).uarts = s.uarts := rfl
@[simp] theorem State.spend_i2ct (s : State) : (s.spend).i2ct = s.i2ct := rfl
@[simp] theorem State.spend_spis (s : State) : (s.spend).spis = s.spis := rfl
@[simp] theorem State.spend_dma (s : State) : (s.spend).dma = s.dma := rfl
@[simp] theorem State.spend_adc (s : State) : (s.spend).adc = s.adc := rfl
@[simp] theorem State.spend_touch (s : State) : (s.spend).touch = s.touch := rfl
@[simp] theorem State.spend_memTest (s : State) : (s.spend).memTest = s.memTest := rfl
@[simp] theorem State.spend_mems (s : State) : (s.spend).mems = s.mems := rfl
@[simp] theorem State.get_spend (s : State) (g : Fld) : (s.spend).get g = s.get g := rfl

@[simp] theorem State.withTag_pending (s : State) (t : String) : (s.withTag t).pending = s.pending := rfl
@[simp] theorem State.withTag_free (s : State) (t : String) : (s.withTag t).free = s.free := rfl
@[simp] theorem State.withTag_regs (s : State) (t : String) : (s.withTag t).regs = s.regs := rfl
@[simp] theorem State.withTag_mem (s : State) (t : String) : (s.withTag t).mem = s.mem := rfl
@[simp] theorem State.withTag_chk (s : State) (t : String) : (s.withTag t).chk = s.chk := rfl
@[simp] theorem State.withTag_runs (s : State) (t : String) : (s.withTag t).runs = s.runs := rfl
@[simp] theorem State.withTag_wbacks (s : State) (t : String) : (s.withTag t).wbacks = s.wbacks := rfl
@[simp] theorem State.withTag_busData (s : State) (t : String) : (s.withTag t).busData = s.busData := rfl
@[simp] theorem State.withTag_app (s : State) (t : String) : (s.withTag t).app = s.app := rfl
@[simp] theorem State.withTag_sys (s : State) (t : String) : (s.withTag t).sys = s.sys := rfl
@[simp] theorem State.withTag_manApp (s : State) (t : String) : (s.withTag t).manApp = s.manApp := rfl
@[simp] theorem State.withTag_manSys (s : State) (t : String) : (s.withTag t).manSys = s.manSys := rfl
@[simp] theorem State.withTag_tide (s : State) (t : String) : (s.withTag t).tide = s.tide := rfl
@[simp] theorem State.withTag_tp (s : State) (t : String) : (s.withTag t).tp = s.tp := rfl
@[simp] theorem State.withTag_tt (s : State) (t : String) : (s.withTag t).tt = s.tt := rfl
@[simp] theorem State.withTag_rtc (s : State) (t : String) : (s.withTag t).rtc = s.rtc := rfl
@[simp] theorem State.withTag_logs (s : State) (t : String) : (s.withTag t).logs = s.logs := rfl
@[simp] theorem State.withTag_crypto (s : State) (t : String) : (s.withTag t).crypto = s.crypto := rfl
@[simp] theorem State.withTag_power (s : State) (t : String) : (s.withTag t).power = s.power := rfl
@[simp] theorem State.withTag_harv (s : State) (t : String) : (s.withTag t).harv = s.harv := rfl
@[simp] theorem State.withTag_clk (s : State) (t : String) : (s.withTag t).clk = s.clk := rfl
@[simp] theorem State.withTag_life (s : State) (t : String) : (s.withTag t).life = s.life := rfl
@[simp] theorem State.withTag_gnss (s : State) (t : String) : (s.withTag t).gnss = s.gnss := rfl
@[simp] theorem State.withTag_pads (s : State) (t : String) : (s.withTag t).pads = s.pads := rfl
@[simp] theorem State.withTag_lgt (s : State) (t : String) : (s.withTag t).lgt = s.lgt := rfl
@[simp] theorem State.withTag_uarts (s : State) (t : String) : (s.withTag t).uarts = s.uarts := rfl
@[simp] theorem State.withTag_i2ct (s : State) (t : String) : (s.withTag t).i2ct = s.i2ct := rfl
@[simp] theorem State.withTag_spis (s : State) (t : String) : (s.withTag t).spis = s.spis := rfl
@[simp] theorem State.withTag_dma (s : State) (t : String) : (s.withTag t).dma = s.dma := rfl
@[simp] theorem State.withTag_adc (s : State) (t : String) : (s.withTag t).adc = s.adc := rfl
@[simp] theorem State.withTag_touch (s : State) (t : String) : (s.withTag t).touch = s.touch := rfl
@[simp] theorem State.withTag_memTest (s : State) (t : String) : (s.withTag t).memTest = s.memTest := rfl
@[simp] theorem State.withTag_mems (s : State) (t : String) : (s.withTag t).mems = s.mems := rfl
@[simp] theorem State.get_withTag (s : State) (t : String) (g : Fld) : (s.withTag t).get g = s.get g := rfl

@[simp] theorem State.withTide_pending (s : State) (f : TideState → TideState) : (s.withTide f).pending = s.pending := rfl
@[simp] theorem State.withTide_free (s : State) (f : TideState → TideState) : (s.withTide f).free = s.free := rfl
@[simp] theorem State.withTide_regs (s : State) (f : TideState → TideState) : (s.withTide f).regs = s.regs := rfl
@[simp] theorem State.withTide_mem (s : State) (f : TideState → TideState) : (s.withTide f).mem = s.mem := rfl
@[simp] theorem State.withTide_chk (s : State) (f : TideState → TideState) : (s.withTide f).chk = s.chk := rfl
@[simp] theorem State.withTide_runs (s : State) (f : TideState → TideState) : (s.withTide f).runs = s.runs := rfl
@[simp] theorem State.withTide_wbacks (s : State) (f : TideState → TideState) : (s.withTide f).wbacks = s.wbacks := rfl
@[simp] theorem State.withTide_busData (s : State) (f : TideState → TideState) : (s.withTide f).busData = s.busData := rfl
@[simp] theorem State.withTide_app (s : State) (f : TideState → TideState) : (s.withTide f).app = s.app := rfl
@[simp] theorem State.withTide_sys (s : State) (f : TideState → TideState) : (s.withTide f).sys = s.sys := rfl
@[simp] theorem State.withTide_console (s : State) (f : TideState → TideState) : (s.withTide f).console = s.console := rfl
@[simp] theorem State.withTide_manApp (s : State) (f : TideState → TideState) : (s.withTide f).manApp = s.manApp := rfl
@[simp] theorem State.withTide_manSys (s : State) (f : TideState → TideState) : (s.withTide f).manSys = s.manSys := rfl
@[simp] theorem State.withTide_tp (s : State) (f : TideState → TideState) : (s.withTide f).tp = s.tp := rfl
@[simp] theorem State.withTide_tt (s : State) (f : TideState → TideState) : (s.withTide f).tt = s.tt := rfl
@[simp] theorem State.withTide_rtc (s : State) (f : TideState → TideState) : (s.withTide f).rtc = s.rtc := rfl
@[simp] theorem State.withTide_logs (s : State) (f : TideState → TideState) : (s.withTide f).logs = s.logs := rfl
@[simp] theorem State.withTide_crypto (s : State) (f : TideState → TideState) : (s.withTide f).crypto = s.crypto := rfl
@[simp] theorem State.withTide_power (s : State) (f : TideState → TideState) : (s.withTide f).power = s.power := rfl
@[simp] theorem State.withTide_harv (s : State) (f : TideState → TideState) : (s.withTide f).harv = s.harv := rfl
@[simp] theorem State.withTide_clk (s : State) (f : TideState → TideState) : (s.withTide f).clk = s.clk := rfl
@[simp] theorem State.withTide_life (s : State) (f : TideState → TideState) : (s.withTide f).life = s.life := rfl
@[simp] theorem State.withTide_gnss (s : State) (f : TideState → TideState) : (s.withTide f).gnss = s.gnss := rfl
@[simp] theorem State.withTide_pads (s : State) (f : TideState → TideState) : (s.withTide f).pads = s.pads := rfl
@[simp] theorem State.withTide_lgt (s : State) (f : TideState → TideState) : (s.withTide f).lgt = s.lgt := rfl
@[simp] theorem State.withTide_uarts (s : State) (f : TideState → TideState) : (s.withTide f).uarts = s.uarts := rfl
@[simp] theorem State.withTide_i2ct (s : State) (f : TideState → TideState) : (s.withTide f).i2ct = s.i2ct := rfl
@[simp] theorem State.withTide_spis (s : State) (f : TideState → TideState) : (s.withTide f).spis = s.spis := rfl
@[simp] theorem State.withTide_dma (s : State) (f : TideState → TideState) : (s.withTide f).dma = s.dma := rfl
@[simp] theorem State.withTide_adc (s : State) (f : TideState → TideState) : (s.withTide f).adc = s.adc := rfl
@[simp] theorem State.withTide_touch (s : State) (f : TideState → TideState) : (s.withTide f).touch = s.touch := rfl
@[simp] theorem State.withTide_memTest (s : State) (f : TideState → TideState) : (s.withTide f).memTest = s.memTest := rfl
@[simp] theorem State.withTide_mems (s : State) (f : TideState → TideState) : (s.withTide f).mems = s.mems := rfl
@[simp] theorem State.get_withTide (s : State) (f : TideState → TideState) (g : Fld) : (s.withTide f).get g = s.get g := rfl

@[simp] theorem State.withTp_pending (s : State) (f : TpState → TpState) : (s.withTp f).pending = s.pending := rfl
@[simp] theorem State.withTp_free (s : State) (f : TpState → TpState) : (s.withTp f).free = s.free := rfl
@[simp] theorem State.withTp_regs (s : State) (f : TpState → TpState) : (s.withTp f).regs = s.regs := rfl
@[simp] theorem State.withTp_mem (s : State) (f : TpState → TpState) : (s.withTp f).mem = s.mem := rfl
@[simp] theorem State.withTp_chk (s : State) (f : TpState → TpState) : (s.withTp f).chk = s.chk := rfl
@[simp] theorem State.withTp_runs (s : State) (f : TpState → TpState) : (s.withTp f).runs = s.runs := rfl
@[simp] theorem State.withTp_wbacks (s : State) (f : TpState → TpState) : (s.withTp f).wbacks = s.wbacks := rfl
@[simp] theorem State.withTp_busData (s : State) (f : TpState → TpState) : (s.withTp f).busData = s.busData := rfl
@[simp] theorem State.withTp_app (s : State) (f : TpState → TpState) : (s.withTp f).app = s.app := rfl
@[simp] theorem State.withTp_sys (s : State) (f : TpState → TpState) : (s.withTp f).sys = s.sys := rfl
@[simp] theorem State.withTp_console (s : State) (f : TpState → TpState) : (s.withTp f).console = s.console := rfl
@[simp] theorem State.withTp_manApp (s : State) (f : TpState → TpState) : (s.withTp f).manApp = s.manApp := rfl
@[simp] theorem State.withTp_manSys (s : State) (f : TpState → TpState) : (s.withTp f).manSys = s.manSys := rfl
@[simp] theorem State.withTp_tide (s : State) (f : TpState → TpState) : (s.withTp f).tide = s.tide := rfl
@[simp] theorem State.withTp_tt (s : State) (f : TpState → TpState) : (s.withTp f).tt = s.tt := rfl
@[simp] theorem State.withTp_rtc (s : State) (f : TpState → TpState) : (s.withTp f).rtc = s.rtc := rfl
@[simp] theorem State.withTp_logs (s : State) (f : TpState → TpState) : (s.withTp f).logs = s.logs := rfl
@[simp] theorem State.withTp_crypto (s : State) (f : TpState → TpState) : (s.withTp f).crypto = s.crypto := rfl
@[simp] theorem State.withTp_power (s : State) (f : TpState → TpState) : (s.withTp f).power = s.power := rfl
@[simp] theorem State.withTp_harv (s : State) (f : TpState → TpState) : (s.withTp f).harv = s.harv := rfl
@[simp] theorem State.withTp_clk (s : State) (f : TpState → TpState) : (s.withTp f).clk = s.clk := rfl
@[simp] theorem State.withTp_life (s : State) (f : TpState → TpState) : (s.withTp f).life = s.life := rfl
@[simp] theorem State.withTp_gnss (s : State) (f : TpState → TpState) : (s.withTp f).gnss = s.gnss := rfl
@[simp] theorem State.withTp_pads (s : State) (f : TpState → TpState) : (s.withTp f).pads = s.pads := rfl
@[simp] theorem State.withTp_lgt (s : State) (f : TpState → TpState) : (s.withTp f).lgt = s.lgt := rfl
@[simp] theorem State.withTp_uarts (s : State) (f : TpState → TpState) : (s.withTp f).uarts = s.uarts := rfl
@[simp] theorem State.withTp_i2ct (s : State) (f : TpState → TpState) : (s.withTp f).i2ct = s.i2ct := rfl
@[simp] theorem State.withTp_spis (s : State) (f : TpState → TpState) : (s.withTp f).spis = s.spis := rfl
@[simp] theorem State.withTp_dma (s : State) (f : TpState → TpState) : (s.withTp f).dma = s.dma := rfl
@[simp] theorem State.withTp_adc (s : State) (f : TpState → TpState) : (s.withTp f).adc = s.adc := rfl
@[simp] theorem State.withTp_touch (s : State) (f : TpState → TpState) : (s.withTp f).touch = s.touch := rfl
@[simp] theorem State.withTp_memTest (s : State) (f : TpState → TpState) : (s.withTp f).memTest = s.memTest := rfl
@[simp] theorem State.withTp_mems (s : State) (f : TpState → TpState) : (s.withTp f).mems = s.mems := rfl
@[simp] theorem State.get_withTp (s : State) (f : TpState → TpState) (g : Fld) : (s.withTp f).get g = s.get g := rfl

@[simp] theorem State.withRtc_pending (s : State) (f : RtcState → RtcState) : (s.withRtc f).pending = s.pending := rfl
@[simp] theorem State.withRtc_free (s : State) (f : RtcState → RtcState) : (s.withRtc f).free = s.free := rfl
@[simp] theorem State.withRtc_regs (s : State) (f : RtcState → RtcState) : (s.withRtc f).regs = s.regs := rfl
@[simp] theorem State.withRtc_mem (s : State) (f : RtcState → RtcState) : (s.withRtc f).mem = s.mem := rfl
@[simp] theorem State.withRtc_chk (s : State) (f : RtcState → RtcState) : (s.withRtc f).chk = s.chk := rfl
@[simp] theorem State.withRtc_runs (s : State) (f : RtcState → RtcState) : (s.withRtc f).runs = s.runs := rfl
@[simp] theorem State.withRtc_wbacks (s : State) (f : RtcState → RtcState) : (s.withRtc f).wbacks = s.wbacks := rfl
@[simp] theorem State.withRtc_busData (s : State) (f : RtcState → RtcState) : (s.withRtc f).busData = s.busData := rfl
@[simp] theorem State.withRtc_app (s : State) (f : RtcState → RtcState) : (s.withRtc f).app = s.app := rfl
@[simp] theorem State.withRtc_sys (s : State) (f : RtcState → RtcState) : (s.withRtc f).sys = s.sys := rfl
@[simp] theorem State.withRtc_console (s : State) (f : RtcState → RtcState) : (s.withRtc f).console = s.console := rfl
@[simp] theorem State.withRtc_manApp (s : State) (f : RtcState → RtcState) : (s.withRtc f).manApp = s.manApp := rfl
@[simp] theorem State.withRtc_manSys (s : State) (f : RtcState → RtcState) : (s.withRtc f).manSys = s.manSys := rfl
@[simp] theorem State.withRtc_tide (s : State) (f : RtcState → RtcState) : (s.withRtc f).tide = s.tide := rfl
@[simp] theorem State.withRtc_tp (s : State) (f : RtcState → RtcState) : (s.withRtc f).tp = s.tp := rfl
@[simp] theorem State.withRtc_tt (s : State) (f : RtcState → RtcState) : (s.withRtc f).tt = s.tt := rfl
@[simp] theorem State.withRtc_logs (s : State) (f : RtcState → RtcState) : (s.withRtc f).logs = s.logs := rfl
@[simp] theorem State.withRtc_crypto (s : State) (f : RtcState → RtcState) : (s.withRtc f).crypto = s.crypto := rfl
@[simp] theorem State.withRtc_power (s : State) (f : RtcState → RtcState) : (s.withRtc f).power = s.power := rfl
@[simp] theorem State.withRtc_harv (s : State) (f : RtcState → RtcState) : (s.withRtc f).harv = s.harv := rfl
@[simp] theorem State.withRtc_clk (s : State) (f : RtcState → RtcState) : (s.withRtc f).clk = s.clk := rfl
@[simp] theorem State.withRtc_life (s : State) (f : RtcState → RtcState) : (s.withRtc f).life = s.life := rfl
@[simp] theorem State.withRtc_gnss (s : State) (f : RtcState → RtcState) : (s.withRtc f).gnss = s.gnss := rfl
@[simp] theorem State.withRtc_pads (s : State) (f : RtcState → RtcState) : (s.withRtc f).pads = s.pads := rfl
@[simp] theorem State.withRtc_lgt (s : State) (f : RtcState → RtcState) : (s.withRtc f).lgt = s.lgt := rfl
@[simp] theorem State.withRtc_uarts (s : State) (f : RtcState → RtcState) : (s.withRtc f).uarts = s.uarts := rfl
@[simp] theorem State.withRtc_i2ct (s : State) (f : RtcState → RtcState) : (s.withRtc f).i2ct = s.i2ct := rfl
@[simp] theorem State.withRtc_spis (s : State) (f : RtcState → RtcState) : (s.withRtc f).spis = s.spis := rfl
@[simp] theorem State.withRtc_dma (s : State) (f : RtcState → RtcState) : (s.withRtc f).dma = s.dma := rfl
@[simp] theorem State.withRtc_adc (s : State) (f : RtcState → RtcState) : (s.withRtc f).adc = s.adc := rfl
@[simp] theorem State.withRtc_touch (s : State) (f : RtcState → RtcState) : (s.withRtc f).touch = s.touch := rfl
@[simp] theorem State.withRtc_memTest (s : State) (f : RtcState → RtcState) : (s.withRtc f).memTest = s.memTest := rfl
@[simp] theorem State.withRtc_mems (s : State) (f : RtcState → RtcState) : (s.withRtc f).mems = s.mems := rfl
@[simp] theorem State.get_withRtc (s : State) (f : RtcState → RtcState) (g : Fld) : (s.withRtc f).get g = s.get g := rfl

@[simp] theorem State.withLogs_pending (s : State) (f : LogStore → LogStore) : (s.withLogs f).pending = s.pending := rfl
@[simp] theorem State.withLogs_free (s : State) (f : LogStore → LogStore) : (s.withLogs f).free = s.free := rfl
@[simp] theorem State.withLogs_regs (s : State) (f : LogStore → LogStore) : (s.withLogs f).regs = s.regs := rfl
@[simp] theorem State.withLogs_mem (s : State) (f : LogStore → LogStore) : (s.withLogs f).mem = s.mem := rfl
@[simp] theorem State.withLogs_chk (s : State) (f : LogStore → LogStore) : (s.withLogs f).chk = s.chk := rfl
@[simp] theorem State.withLogs_runs (s : State) (f : LogStore → LogStore) : (s.withLogs f).runs = s.runs := rfl
@[simp] theorem State.withLogs_wbacks (s : State) (f : LogStore → LogStore) : (s.withLogs f).wbacks = s.wbacks := rfl
@[simp] theorem State.withLogs_busData (s : State) (f : LogStore → LogStore) : (s.withLogs f).busData = s.busData := rfl
@[simp] theorem State.withLogs_app (s : State) (f : LogStore → LogStore) : (s.withLogs f).app = s.app := rfl
@[simp] theorem State.withLogs_sys (s : State) (f : LogStore → LogStore) : (s.withLogs f).sys = s.sys := rfl
@[simp] theorem State.withLogs_console (s : State) (f : LogStore → LogStore) : (s.withLogs f).console = s.console := rfl
@[simp] theorem State.withLogs_manApp (s : State) (f : LogStore → LogStore) : (s.withLogs f).manApp = s.manApp := rfl
@[simp] theorem State.withLogs_manSys (s : State) (f : LogStore → LogStore) : (s.withLogs f).manSys = s.manSys := rfl
@[simp] theorem State.withLogs_tide (s : State) (f : LogStore → LogStore) : (s.withLogs f).tide = s.tide := rfl
@[simp] theorem State.withLogs_tp (s : State) (f : LogStore → LogStore) : (s.withLogs f).tp = s.tp := rfl
@[simp] theorem State.withLogs_tt (s : State) (f : LogStore → LogStore) : (s.withLogs f).tt = s.tt := rfl
@[simp] theorem State.withLogs_rtc (s : State) (f : LogStore → LogStore) : (s.withLogs f).rtc = s.rtc := rfl
@[simp] theorem State.withLogs_crypto (s : State) (f : LogStore → LogStore) : (s.withLogs f).crypto = s.crypto := rfl
@[simp] theorem State.withLogs_power (s : State) (f : LogStore → LogStore) : (s.withLogs f).power = s.power := rfl
@[simp] theorem State.withLogs_harv (s : State) (f : LogStore → LogStore) : (s.withLogs f).harv = s.harv := rfl
@[simp] theorem State.withLogs_clk (s : State) (f : LogStore → LogStore) : (s.withLogs f).clk = s.clk := rfl
@[simp] theorem State.withLogs_life (s : State) (f : LogStore → LogStore) : (s.withLogs f).life = s.life := rfl
@[simp] theorem State.withLogs_gnss (s : State) (f : LogStore → LogStore) : (s.withLogs f).gnss = s.gnss := rfl
@[simp] theorem State.withLogs_pads (s : State) (f : LogStore → LogStore) : (s.withLogs f).pads = s.pads := rfl
@[simp] theorem State.withLogs_lgt (s : State) (f : LogStore → LogStore) : (s.withLogs f).lgt = s.lgt := rfl
@[simp] theorem State.withLogs_uarts (s : State) (f : LogStore → LogStore) : (s.withLogs f).uarts = s.uarts := rfl
@[simp] theorem State.withLogs_i2ct (s : State) (f : LogStore → LogStore) : (s.withLogs f).i2ct = s.i2ct := rfl
@[simp] theorem State.withLogs_spis (s : State) (f : LogStore → LogStore) : (s.withLogs f).spis = s.spis := rfl
@[simp] theorem State.withLogs_dma (s : State) (f : LogStore → LogStore) : (s.withLogs f).dma = s.dma := rfl
@[simp] theorem State.withLogs_adc (s : State) (f : LogStore → LogStore) : (s.withLogs f).adc = s.adc := rfl
@[simp] theorem State.withLogs_touch (s : State) (f : LogStore → LogStore) : (s.withLogs f).touch = s.touch := rfl
@[simp] theorem State.withLogs_memTest (s : State) (f : LogStore → LogStore) : (s.withLogs f).memTest = s.memTest := rfl
@[simp] theorem State.withLogs_mems (s : State) (f : LogStore → LogStore) : (s.withLogs f).mems = s.mems := rfl
@[simp] theorem State.get_withLogs (s : State) (f : LogStore → LogStore) (g : Fld) : (s.withLogs f).get g = s.get g := rfl

@[simp] theorem State.withCrypto_pending (s : State) (f : CryptoState → CryptoState) : (s.withCrypto f).pending = s.pending := rfl
@[simp] theorem State.withCrypto_free (s : State) (f : CryptoState → CryptoState) : (s.withCrypto f).free = s.free := rfl
@[simp] theorem State.withCrypto_regs (s : State) (f : CryptoState → CryptoState) : (s.withCrypto f).regs = s.regs := rfl
@[simp] theorem State.withCrypto_mem (s : State) (f : CryptoState → CryptoState) : (s.withCrypto f).mem = s.mem := rfl
@[simp] theorem State.withCrypto_chk (s : State) (f : CryptoState → CryptoState) : (s.withCrypto f).chk = s.chk := rfl
@[simp] theorem State.withCrypto_runs (s : State) (f : CryptoState → CryptoState) : (s.withCrypto f).runs = s.runs := rfl
@[simp] theorem State.withCrypto_wbacks (s : State) (f : CryptoState → CryptoState) : (s.withCrypto f).wbacks = s.wbacks := rfl
@[simp] theorem State.withCrypto_busData (s : State) (f : CryptoState → CryptoState) : (s.withCrypto f).busData = s.busData := rfl
@[simp] theorem State.withCrypto_app (s : State) (f : CryptoState → CryptoState) : (s.withCrypto f).app = s.app := rfl
@[simp] theorem State.withCrypto_sys (s : State) (f : CryptoState → CryptoState) : (s.withCrypto f).sys = s.sys := rfl
@[simp] theorem State.withCrypto_console (s : State) (f : CryptoState → CryptoState) : (s.withCrypto f).console = s.console := rfl
@[simp] theorem State.withCrypto_manApp (s : State) (f : CryptoState → CryptoState) : (s.withCrypto f).manApp = s.manApp := rfl
@[simp] theorem State.withCrypto_manSys (s : State) (f : CryptoState → CryptoState) : (s.withCrypto f).manSys = s.manSys := rfl
@[simp] theorem State.withCrypto_tide (s : State) (f : CryptoState → CryptoState) : (s.withCrypto f).tide = s.tide := rfl
@[simp] theorem State.withCrypto_tp (s : State) (f : CryptoState → CryptoState) : (s.withCrypto f).tp = s.tp := rfl
@[simp] theorem State.withCrypto_tt (s : State) (f : CryptoState → CryptoState) : (s.withCrypto f).tt = s.tt := rfl
@[simp] theorem State.withCrypto_rtc (s : State) (f : CryptoState → CryptoState) : (s.withCrypto f).rtc = s.rtc := rfl
@[simp] theorem State.withCrypto_logs (s : State) (f : CryptoState → CryptoState) : (s.withCrypto f).logs = s.logs := rfl
@[simp] theorem State.withCrypto_power (s : State) (f : CryptoState → CryptoState) : (s.withCrypto f).power = s.power := rfl
@[simp] theorem State.withCrypto_harv (s : State) (f : CryptoState → CryptoState) : (s.withCrypto f).harv = s.harv := rfl
@[simp] theorem State.withCrypto_clk (s : State) (f : CryptoState → CryptoState) : (s.withCrypto f).clk = s.clk := rfl
@[simp] theorem State.withCrypto_life (s : State) (f : CryptoState → CryptoState) : (s.withCrypto f).life = s.life := rfl
@[simp] theorem State.withCrypto_gnss (s : State) (f : CryptoState → CryptoState) : (s.withCrypto f).gnss = s.gnss := rfl
@[simp] theorem State.withCrypto_pads (s : State) (f : CryptoState → CryptoState) : (s.withCrypto f).pads = s.pads := rfl
@[simp] theorem State.withCrypto_lgt (s : State) (f : CryptoState → CryptoState) : (s.withCrypto f).lgt = s.lgt := rfl
@[simp] theorem State.withCrypto_uarts (s : State) (f : CryptoState → CryptoState) : (s.withCrypto f).uarts = s.uarts := rfl
@[simp] theorem State.withCrypto_i2ct (s : State) (f : CryptoState → CryptoState) : (s.withCrypto f).i2ct = s.i2ct := rfl
@[simp] theorem State.withCrypto_spis (s : State) (f : CryptoState → CryptoState) : (s.withCrypto f).spis = s.spis := rfl
@[simp] theorem State.withCrypto_dma (s : State) (f : CryptoState → CryptoState) : (s.withCrypto f).dma = s.dma := rfl
@[simp] theorem State.withCrypto_adc (s : State) (f : CryptoState → CryptoState) : (s.withCrypto f).adc = s.adc := rfl
@[simp] theorem State.withCrypto_touch (s : State) (f : CryptoState → CryptoState) : (s.withCrypto f).touch = s.touch := rfl
@[simp] theorem State.withCrypto_memTest (s : State) (f : CryptoState → CryptoState) : (s.withCrypto f).memTest = s.memTest := rfl
@[simp] theorem State.withCrypto_mems (s : State) (f : CryptoState → CryptoState) : (s.withCrypto f).mems = s.mems := rfl
@[simp] theorem State.get_withCrypto (s : State) (f : CryptoState → CryptoState) (g : Fld) : (s.withCrypto f).get g = s.get g := rfl

@[simp] theorem State.withGnss_pending (s : State) (f : GnssState → GnssState) : (s.withGnss f).pending = s.pending := rfl
@[simp] theorem State.withGnss_free (s : State) (f : GnssState → GnssState) : (s.withGnss f).free = s.free := rfl
@[simp] theorem State.withGnss_regs (s : State) (f : GnssState → GnssState) : (s.withGnss f).regs = s.regs := rfl
@[simp] theorem State.withGnss_mem (s : State) (f : GnssState → GnssState) : (s.withGnss f).mem = s.mem := rfl
@[simp] theorem State.withGnss_chk (s : State) (f : GnssState → GnssState) : (s.withGnss f).chk = s.chk := rfl
@[simp] theorem State.withGnss_runs (s : State) (f : GnssState → GnssState) : (s.withGnss f).runs = s.runs := rfl
@[simp] theorem State.withGnss_wbacks (s : State) (f : GnssState → GnssState) : (s.withGnss f).wbacks = s.wbacks := rfl
@[simp] theorem State.withGnss_busData (s : State) (f : GnssState → GnssState) : (s.withGnss f).busData = s.busData := rfl
@[simp] theorem State.withGnss_app (s : State) (f : GnssState → GnssState) : (s.withGnss f).app = s.app := rfl
@[simp] theorem State.withGnss_sys (s : State) (f : GnssState → GnssState) : (s.withGnss f).sys = s.sys := rfl
@[simp] theorem State.withGnss_console (s : State) (f : GnssState → GnssState) : (s.withGnss f).console = s.console := rfl
@[simp] theorem State.withGnss_manApp (s : State) (f : GnssState → GnssState) : (s.withGnss f).manApp = s.manApp := rfl
@[simp] theorem State.withGnss_manSys (s : State) (f : GnssState → GnssState) : (s.withGnss f).manSys = s.manSys := rfl
@[simp] theorem State.withGnss_tide (s : State) (f : GnssState → GnssState) : (s.withGnss f).tide = s.tide := rfl
@[simp] theorem State.withGnss_tp (s : State) (f : GnssState → GnssState) : (s.withGnss f).tp = s.tp := rfl
@[simp] theorem State.withGnss_tt (s : State) (f : GnssState → GnssState) : (s.withGnss f).tt = s.tt := rfl
@[simp] theorem State.withGnss_rtc (s : State) (f : GnssState → GnssState) : (s.withGnss f).rtc = s.rtc := rfl
@[simp] theorem State.withGnss_logs (s : State) (f : GnssState → GnssState) : (s.withGnss f).logs = s.logs := rfl
@[simp] theorem State.withGnss_crypto (s : State) (f : GnssState → GnssState) : (s.withGnss f).crypto = s.crypto := rfl
@[simp] theorem State.withGnss_power (s : State) (f : GnssState → GnssState) : (s.withGnss f).power = s.power := rfl
@[simp] theorem State.withGnss_harv (s : State) (f : GnssState → GnssState) : (s.withGnss f).harv = s.harv := rfl
@[simp] theorem State.withGnss_clk (s : State) (f : GnssState → GnssState) : (s.withGnss f).clk = s.clk := rfl
@[simp] theorem State.withGnss_life (s : State) (f : GnssState → GnssState) : (s.withGnss f).life = s.life := rfl
@[simp] theorem State.withGnss_pads (s : State) (f : GnssState → GnssState) : (s.withGnss f).pads = s.pads := rfl
@[simp] theorem State.withGnss_lgt (s : State) (f : GnssState → GnssState) : (s.withGnss f).lgt = s.lgt := rfl
@[simp] theorem State.withGnss_uarts (s : State) (f : GnssState → GnssState) : (s.withGnss f).uarts = s.uarts := rfl
@[simp] theorem State.withGnss_i2ct (s : State) (f : GnssState → GnssState) : (s.withGnss f).i2ct = s.i2ct := rfl
@[simp] theorem State.withGnss_spis (s : State) (f : GnssState → GnssState) : (s.withGnss f).spis = s.spis := rfl
@[simp] theorem State.withGnss_dma (s : State) (f : GnssState → GnssState) : (s.withGnss f).dma = s.dma := rfl
@[simp] theorem State.withGnss_adc (s : State) (f : GnssState → GnssState) : (s.withGnss f).adc = s.adc := rfl
@[simp] theorem State.withGnss_touch (s : State) (f : GnssState → GnssState) : (s.withGnss f).touch = s.touch := rfl
@[simp] theorem State.withGnss_memTest (s : State) (f : GnssState → GnssState) : (s.withGnss f).memTest = s.memTest := rfl
@[simp] theorem State.withGnss_mems (s : State) (f : GnssState → GnssState) : (s.withGnss f).mems = s.mems := rfl
@[simp] theorem State.get_withGnss (s : State) (f : GnssState → GnssState) (g : Fld) : (s.withGnss f).get g = s.get g := rfl

@[simp] theorem State.withAdc_pending (s : State) (f : AdcState → AdcState) : (s.withAdc f).pending = s.pending := rfl
@[simp] theorem State.withAdc_free (s : State) (f : AdcState → AdcState) : (s.withAdc f).free = s.free := rfl
@[simp] theorem State.withAdc_regs (s : State) (f : AdcState → AdcState) : (s.withAdc f).regs = s.regs := rfl
@[simp] theorem State.withAdc_mem (s : State) (f : AdcState → AdcState) : (s.withAdc f).mem = s.mem := rfl
@[simp] theorem State.withAdc_chk (s : State) (f : AdcState → AdcState) : (s.withAdc f).chk = s.chk := rfl
@[simp] theorem State.withAdc_runs (s : State) (f : AdcState → AdcState) : (s.withAdc f).runs = s.runs := rfl
@[simp] theorem State.withAdc_wbacks (s : State) (f : AdcState → AdcState) : (s.withAdc f).wbacks = s.wbacks := rfl
@[simp] theorem State.withAdc_busData (s : State) (f : AdcState → AdcState) : (s.withAdc f).busData = s.busData := rfl
@[simp] theorem State.withAdc_app (s : State) (f : AdcState → AdcState) : (s.withAdc f).app = s.app := rfl
@[simp] theorem State.withAdc_sys (s : State) (f : AdcState → AdcState) : (s.withAdc f).sys = s.sys := rfl
@[simp] theorem State.withAdc_console (s : State) (f : AdcState → AdcState) : (s.withAdc f).console = s.console := rfl
@[simp] theorem State.withAdc_manApp (s : State) (f : AdcState → AdcState) : (s.withAdc f).manApp = s.manApp := rfl
@[simp] theorem State.withAdc_manSys (s : State) (f : AdcState → AdcState) : (s.withAdc f).manSys = s.manSys := rfl
@[simp] theorem State.withAdc_tide (s : State) (f : AdcState → AdcState) : (s.withAdc f).tide = s.tide := rfl
@[simp] theorem State.withAdc_tp (s : State) (f : AdcState → AdcState) : (s.withAdc f).tp = s.tp := rfl
@[simp] theorem State.withAdc_tt (s : State) (f : AdcState → AdcState) : (s.withAdc f).tt = s.tt := rfl
@[simp] theorem State.withAdc_rtc (s : State) (f : AdcState → AdcState) : (s.withAdc f).rtc = s.rtc := rfl
@[simp] theorem State.withAdc_logs (s : State) (f : AdcState → AdcState) : (s.withAdc f).logs = s.logs := rfl
@[simp] theorem State.withAdc_crypto (s : State) (f : AdcState → AdcState) : (s.withAdc f).crypto = s.crypto := rfl
@[simp] theorem State.withAdc_power (s : State) (f : AdcState → AdcState) : (s.withAdc f).power = s.power := rfl
@[simp] theorem State.withAdc_harv (s : State) (f : AdcState → AdcState) : (s.withAdc f).harv = s.harv := rfl
@[simp] theorem State.withAdc_clk (s : State) (f : AdcState → AdcState) : (s.withAdc f).clk = s.clk := rfl
@[simp] theorem State.withAdc_life (s : State) (f : AdcState → AdcState) : (s.withAdc f).life = s.life := rfl
@[simp] theorem State.withAdc_gnss (s : State) (f : AdcState → AdcState) : (s.withAdc f).gnss = s.gnss := rfl
@[simp] theorem State.withAdc_pads (s : State) (f : AdcState → AdcState) : (s.withAdc f).pads = s.pads := rfl
@[simp] theorem State.withAdc_lgt (s : State) (f : AdcState → AdcState) : (s.withAdc f).lgt = s.lgt := rfl
@[simp] theorem State.withAdc_uarts (s : State) (f : AdcState → AdcState) : (s.withAdc f).uarts = s.uarts := rfl
@[simp] theorem State.withAdc_i2ct (s : State) (f : AdcState → AdcState) : (s.withAdc f).i2ct = s.i2ct := rfl
@[simp] theorem State.withAdc_spis (s : State) (f : AdcState → AdcState) : (s.withAdc f).spis = s.spis := rfl
@[simp] theorem State.withAdc_dma (s : State) (f : AdcState → AdcState) : (s.withAdc f).dma = s.dma := rfl
@[simp] theorem State.withAdc_touch (s : State) (f : AdcState → AdcState) : (s.withAdc f).touch = s.touch := rfl
@[simp] theorem State.withAdc_memTest (s : State) (f : AdcState → AdcState) : (s.withAdc f).memTest = s.memTest := rfl
@[simp] theorem State.withAdc_mems (s : State) (f : AdcState → AdcState) : (s.withAdc f).mems = s.mems := rfl
@[simp] theorem State.get_withAdc (s : State) (f : AdcState → AdcState) (g : Fld) : (s.withAdc f).get g = s.get g := rfl

@[simp] theorem State.withTouch_pending (s : State) (f : TouchState → TouchState) : (s.withTouch f).pending = s.pending := rfl
@[simp] theorem State.withTouch_free (s : State) (f : TouchState → TouchState) : (s.withTouch f).free = s.free := rfl
@[simp] theorem State.withTouch_regs (s : State) (f : TouchState → TouchState) : (s.withTouch f).regs = s.regs := rfl
@[simp] theorem State.withTouch_mem (s : State) (f : TouchState → TouchState) : (s.withTouch f).mem = s.mem := rfl
@[simp] theorem State.withTouch_chk (s : State) (f : TouchState → TouchState) : (s.withTouch f).chk = s.chk := rfl
@[simp] theorem State.withTouch_runs (s : State) (f : TouchState → TouchState) : (s.withTouch f).runs = s.runs := rfl
@[simp] theorem State.withTouch_wbacks (s : State) (f : TouchState → TouchState) : (s.withTouch f).wbacks = s.wbacks := rfl
@[simp] theorem State.withTouch_busData (s : State) (f : TouchState → TouchState) : (s.withTouch f).busData = s.busData := rfl
@[simp] theorem State.withTouch_app (s : State) (f : TouchState → TouchState) : (s.withTouch f).app = s.app := rfl
@[simp] theorem State.withTouch_sys (s : State) (f : TouchState → TouchState) : (s.withTouch f).sys = s.sys := rfl
@[simp] theorem State.withTouch_console (s : State) (f : TouchState → TouchState) : (s.withTouch f).console = s.console := rfl
@[simp] theorem State.withTouch_manApp (s : State) (f : TouchState → TouchState) : (s.withTouch f).manApp = s.manApp := rfl
@[simp] theorem State.withTouch_manSys (s : State) (f : TouchState → TouchState) : (s.withTouch f).manSys = s.manSys := rfl
@[simp] theorem State.withTouch_tide (s : State) (f : TouchState → TouchState) : (s.withTouch f).tide = s.tide := rfl
@[simp] theorem State.withTouch_tp (s : State) (f : TouchState → TouchState) : (s.withTouch f).tp = s.tp := rfl
@[simp] theorem State.withTouch_tt (s : State) (f : TouchState → TouchState) : (s.withTouch f).tt = s.tt := rfl
@[simp] theorem State.withTouch_rtc (s : State) (f : TouchState → TouchState) : (s.withTouch f).rtc = s.rtc := rfl
@[simp] theorem State.withTouch_logs (s : State) (f : TouchState → TouchState) : (s.withTouch f).logs = s.logs := rfl
@[simp] theorem State.withTouch_crypto (s : State) (f : TouchState → TouchState) : (s.withTouch f).crypto = s.crypto := rfl
@[simp] theorem State.withTouch_power (s : State) (f : TouchState → TouchState) : (s.withTouch f).power = s.power := rfl
@[simp] theorem State.withTouch_harv (s : State) (f : TouchState → TouchState) : (s.withTouch f).harv = s.harv := rfl
@[simp] theorem State.withTouch_clk (s : State) (f : TouchState → TouchState) : (s.withTouch f).clk = s.clk := rfl
@[simp] theorem State.withTouch_life (s : State) (f : TouchState → TouchState) : (s.withTouch f).life = s.life := rfl
@[simp] theorem State.withTouch_gnss (s : State) (f : TouchState → TouchState) : (s.withTouch f).gnss = s.gnss := rfl
@[simp] theorem State.withTouch_pads (s : State) (f : TouchState → TouchState) : (s.withTouch f).pads = s.pads := rfl
@[simp] theorem State.withTouch_lgt (s : State) (f : TouchState → TouchState) : (s.withTouch f).lgt = s.lgt := rfl
@[simp] theorem State.withTouch_uarts (s : State) (f : TouchState → TouchState) : (s.withTouch f).uarts = s.uarts := rfl
@[simp] theorem State.withTouch_i2ct (s : State) (f : TouchState → TouchState) : (s.withTouch f).i2ct = s.i2ct := rfl
@[simp] theorem State.withTouch_spis (s : State) (f : TouchState → TouchState) : (s.withTouch f).spis = s.spis := rfl
@[simp] theorem State.withTouch_dma (s : State) (f : TouchState → TouchState) : (s.withTouch f).dma = s.dma := rfl
@[simp] theorem State.withTouch_adc (s : State) (f : TouchState → TouchState) : (s.withTouch f).adc = s.adc := rfl
@[simp] theorem State.withTouch_memTest (s : State) (f : TouchState → TouchState) : (s.withTouch f).memTest = s.memTest := rfl
@[simp] theorem State.withTouch_mems (s : State) (f : TouchState → TouchState) : (s.withTouch f).mems = s.mems := rfl
@[simp] theorem State.get_withTouch (s : State) (f : TouchState → TouchState) (g : Fld) : (s.withTouch f).get g = s.get g := rfl

@[simp] theorem State.setBerth_pending (s : State) (n : Nat) (b : BerthState) : (s.setBerth n b).pending = s.pending := rfl
@[simp] theorem State.setBerth_free (s : State) (n : Nat) (b : BerthState) : (s.setBerth n b).free = s.free := rfl
@[simp] theorem State.setBerth_regs (s : State) (n : Nat) (b : BerthState) : (s.setBerth n b).regs = s.regs := rfl
@[simp] theorem State.setBerth_mem (s : State) (n : Nat) (b : BerthState) : (s.setBerth n b).mem = s.mem := rfl
@[simp] theorem State.setBerth_chk (s : State) (n : Nat) (b : BerthState) : (s.setBerth n b).chk = s.chk := rfl
@[simp] theorem State.setBerth_runs (s : State) (n : Nat) (b : BerthState) : (s.setBerth n b).runs = s.runs := rfl
@[simp] theorem State.setBerth_wbacks (s : State) (n : Nat) (b : BerthState) : (s.setBerth n b).wbacks = s.wbacks := rfl
@[simp] theorem State.setBerth_busData (s : State) (n : Nat) (b : BerthState) : (s.setBerth n b).busData = s.busData := rfl
@[simp] theorem State.setBerth_app (s : State) (n : Nat) (b : BerthState) : (s.setBerth n b).app = s.app := rfl
@[simp] theorem State.setBerth_sys (s : State) (n : Nat) (b : BerthState) : (s.setBerth n b).sys = s.sys := rfl
@[simp] theorem State.setBerth_console (s : State) (n : Nat) (b : BerthState) : (s.setBerth n b).console = s.console := rfl
@[simp] theorem State.setBerth_manApp (s : State) (n : Nat) (b : BerthState) : (s.setBerth n b).manApp = s.manApp := rfl
@[simp] theorem State.setBerth_manSys (s : State) (n : Nat) (b : BerthState) : (s.setBerth n b).manSys = s.manSys := rfl
@[simp] theorem State.setBerth_tide (s : State) (n : Nat) (b : BerthState) : (s.setBerth n b).tide = s.tide := rfl
@[simp] theorem State.setBerth_tp (s : State) (n : Nat) (b : BerthState) : (s.setBerth n b).tp = s.tp := rfl
@[simp] theorem State.setBerth_tt (s : State) (n : Nat) (b : BerthState) : (s.setBerth n b).tt = s.tt := rfl
@[simp] theorem State.setBerth_rtc (s : State) (n : Nat) (b : BerthState) : (s.setBerth n b).rtc = s.rtc := rfl
@[simp] theorem State.setBerth_logs (s : State) (n : Nat) (b : BerthState) : (s.setBerth n b).logs = s.logs := rfl
@[simp] theorem State.setBerth_crypto (s : State) (n : Nat) (b : BerthState) : (s.setBerth n b).crypto = s.crypto := rfl
@[simp] theorem State.setBerth_power (s : State) (n : Nat) (b : BerthState) : (s.setBerth n b).power = s.power := rfl
@[simp] theorem State.setBerth_harv (s : State) (n : Nat) (b : BerthState) : (s.setBerth n b).harv = s.harv := rfl
@[simp] theorem State.setBerth_clk (s : State) (n : Nat) (b : BerthState) : (s.setBerth n b).clk = s.clk := rfl
@[simp] theorem State.setBerth_life (s : State) (n : Nat) (b : BerthState) : (s.setBerth n b).life = s.life := rfl
@[simp] theorem State.setBerth_pads (s : State) (n : Nat) (b : BerthState) : (s.setBerth n b).pads = s.pads := rfl
@[simp] theorem State.setBerth_lgt (s : State) (n : Nat) (b : BerthState) : (s.setBerth n b).lgt = s.lgt := rfl
@[simp] theorem State.setBerth_uarts (s : State) (n : Nat) (b : BerthState) : (s.setBerth n b).uarts = s.uarts := rfl
@[simp] theorem State.setBerth_i2ct (s : State) (n : Nat) (b : BerthState) : (s.setBerth n b).i2ct = s.i2ct := rfl
@[simp] theorem State.setBerth_spis (s : State) (n : Nat) (b : BerthState) : (s.setBerth n b).spis = s.spis := rfl
@[simp] theorem State.setBerth_dma (s : State) (n : Nat) (b : BerthState) : (s.setBerth n b).dma = s.dma := rfl
@[simp] theorem State.setBerth_adc (s : State) (n : Nat) (b : BerthState) : (s.setBerth n b).adc = s.adc := rfl
@[simp] theorem State.setBerth_touch (s : State) (n : Nat) (b : BerthState) : (s.setBerth n b).touch = s.touch := rfl
@[simp] theorem State.setBerth_memTest (s : State) (n : Nat) (b : BerthState) : (s.setBerth n b).memTest = s.memTest := rfl
@[simp] theorem State.setBerth_mems (s : State) (n : Nat) (b : BerthState) : (s.setBerth n b).mems = s.mems := rfl
@[simp] theorem State.get_setBerth (s : State) (n : Nat) (b : BerthState) (g : Fld) : (s.setBerth n b).get g = s.get g := rfl

@[simp] theorem State.setEngine_pending (s : State) (n : Nat) (e : Engine) : (s.setEngine n e).pending = s.pending := rfl
@[simp] theorem State.setEngine_free (s : State) (n : Nat) (e : Engine) : (s.setEngine n e).free = s.free := rfl
@[simp] theorem State.setEngine_regs (s : State) (n : Nat) (e : Engine) : (s.setEngine n e).regs = s.regs := rfl
@[simp] theorem State.setEngine_mem (s : State) (n : Nat) (e : Engine) : (s.setEngine n e).mem = s.mem := rfl
@[simp] theorem State.setEngine_chk (s : State) (n : Nat) (e : Engine) : (s.setEngine n e).chk = s.chk := rfl
@[simp] theorem State.setEngine_runs (s : State) (n : Nat) (e : Engine) : (s.setEngine n e).runs = s.runs := rfl
@[simp] theorem State.setEngine_wbacks (s : State) (n : Nat) (e : Engine) : (s.setEngine n e).wbacks = s.wbacks := rfl
@[simp] theorem State.setEngine_busData (s : State) (n : Nat) (e : Engine) : (s.setEngine n e).busData = s.busData := rfl
@[simp] theorem State.setEngine_app (s : State) (n : Nat) (e : Engine) : (s.setEngine n e).app = s.app := rfl
@[simp] theorem State.setEngine_sys (s : State) (n : Nat) (e : Engine) : (s.setEngine n e).sys = s.sys := rfl
@[simp] theorem State.setEngine_console (s : State) (n : Nat) (e : Engine) : (s.setEngine n e).console = s.console := rfl
@[simp] theorem State.setEngine_manApp (s : State) (n : Nat) (e : Engine) : (s.setEngine n e).manApp = s.manApp := rfl
@[simp] theorem State.setEngine_manSys (s : State) (n : Nat) (e : Engine) : (s.setEngine n e).manSys = s.manSys := rfl
@[simp] theorem State.setEngine_tide (s : State) (n : Nat) (e : Engine) : (s.setEngine n e).tide = s.tide := rfl
@[simp] theorem State.setEngine_tp (s : State) (n : Nat) (e : Engine) : (s.setEngine n e).tp = s.tp := rfl
@[simp] theorem State.setEngine_tt (s : State) (n : Nat) (e : Engine) : (s.setEngine n e).tt = s.tt := rfl
@[simp] theorem State.setEngine_rtc (s : State) (n : Nat) (e : Engine) : (s.setEngine n e).rtc = s.rtc := rfl
@[simp] theorem State.setEngine_logs (s : State) (n : Nat) (e : Engine) : (s.setEngine n e).logs = s.logs := rfl
@[simp] theorem State.setEngine_crypto (s : State) (n : Nat) (e : Engine) : (s.setEngine n e).crypto = s.crypto := rfl
@[simp] theorem State.setEngine_power (s : State) (n : Nat) (e : Engine) : (s.setEngine n e).power = s.power := rfl
@[simp] theorem State.setEngine_harv (s : State) (n : Nat) (e : Engine) : (s.setEngine n e).harv = s.harv := rfl
@[simp] theorem State.setEngine_clk (s : State) (n : Nat) (e : Engine) : (s.setEngine n e).clk = s.clk := rfl
@[simp] theorem State.setEngine_life (s : State) (n : Nat) (e : Engine) : (s.setEngine n e).life = s.life := rfl
@[simp] theorem State.setEngine_gnss (s : State) (n : Nat) (e : Engine) : (s.setEngine n e).gnss = s.gnss := rfl
@[simp] theorem State.setEngine_pads (s : State) (n : Nat) (e : Engine) : (s.setEngine n e).pads = s.pads := rfl
@[simp] theorem State.setEngine_uarts (s : State) (n : Nat) (e : Engine) : (s.setEngine n e).uarts = s.uarts := rfl
@[simp] theorem State.setEngine_i2ct (s : State) (n : Nat) (e : Engine) : (s.setEngine n e).i2ct = s.i2ct := rfl
@[simp] theorem State.setEngine_spis (s : State) (n : Nat) (e : Engine) : (s.setEngine n e).spis = s.spis := rfl
@[simp] theorem State.setEngine_dma (s : State) (n : Nat) (e : Engine) : (s.setEngine n e).dma = s.dma := rfl
@[simp] theorem State.setEngine_adc (s : State) (n : Nat) (e : Engine) : (s.setEngine n e).adc = s.adc := rfl
@[simp] theorem State.setEngine_touch (s : State) (n : Nat) (e : Engine) : (s.setEngine n e).touch = s.touch := rfl
@[simp] theorem State.setEngine_memTest (s : State) (n : Nat) (e : Engine) : (s.setEngine n e).memTest = s.memTest := rfl
@[simp] theorem State.setEngine_mems (s : State) (n : Nat) (e : Engine) : (s.setEngine n e).mems = s.mems := rfl
@[simp] theorem State.get_setEngine (s : State) (n : Nat) (e : Engine) (g : Fld) : (s.setEngine n e).get g = s.get g := rfl

@[simp] theorem State.setSpi_pending (s : State) (k : Nat) (p : Spi) : (s.setSpi k p).pending = s.pending := rfl
@[simp] theorem State.setSpi_free (s : State) (k : Nat) (p : Spi) : (s.setSpi k p).free = s.free := rfl
@[simp] theorem State.setSpi_regs (s : State) (k : Nat) (p : Spi) : (s.setSpi k p).regs = s.regs := rfl
@[simp] theorem State.setSpi_mem (s : State) (k : Nat) (p : Spi) : (s.setSpi k p).mem = s.mem := rfl
@[simp] theorem State.setSpi_chk (s : State) (k : Nat) (p : Spi) : (s.setSpi k p).chk = s.chk := rfl
@[simp] theorem State.setSpi_runs (s : State) (k : Nat) (p : Spi) : (s.setSpi k p).runs = s.runs := rfl
@[simp] theorem State.setSpi_wbacks (s : State) (k : Nat) (p : Spi) : (s.setSpi k p).wbacks = s.wbacks := rfl
@[simp] theorem State.setSpi_busData (s : State) (k : Nat) (p : Spi) : (s.setSpi k p).busData = s.busData := rfl
@[simp] theorem State.setSpi_app (s : State) (k : Nat) (p : Spi) : (s.setSpi k p).app = s.app := rfl
@[simp] theorem State.setSpi_sys (s : State) (k : Nat) (p : Spi) : (s.setSpi k p).sys = s.sys := rfl
@[simp] theorem State.setSpi_console (s : State) (k : Nat) (p : Spi) : (s.setSpi k p).console = s.console := rfl
@[simp] theorem State.setSpi_manApp (s : State) (k : Nat) (p : Spi) : (s.setSpi k p).manApp = s.manApp := rfl
@[simp] theorem State.setSpi_manSys (s : State) (k : Nat) (p : Spi) : (s.setSpi k p).manSys = s.manSys := rfl
@[simp] theorem State.setSpi_tide (s : State) (k : Nat) (p : Spi) : (s.setSpi k p).tide = s.tide := rfl
@[simp] theorem State.setSpi_tp (s : State) (k : Nat) (p : Spi) : (s.setSpi k p).tp = s.tp := rfl
@[simp] theorem State.setSpi_tt (s : State) (k : Nat) (p : Spi) : (s.setSpi k p).tt = s.tt := rfl
@[simp] theorem State.setSpi_rtc (s : State) (k : Nat) (p : Spi) : (s.setSpi k p).rtc = s.rtc := rfl
@[simp] theorem State.setSpi_logs (s : State) (k : Nat) (p : Spi) : (s.setSpi k p).logs = s.logs := rfl
@[simp] theorem State.setSpi_crypto (s : State) (k : Nat) (p : Spi) : (s.setSpi k p).crypto = s.crypto := rfl
@[simp] theorem State.setSpi_power (s : State) (k : Nat) (p : Spi) : (s.setSpi k p).power = s.power := rfl
@[simp] theorem State.setSpi_harv (s : State) (k : Nat) (p : Spi) : (s.setSpi k p).harv = s.harv := rfl
@[simp] theorem State.setSpi_clk (s : State) (k : Nat) (p : Spi) : (s.setSpi k p).clk = s.clk := rfl
@[simp] theorem State.setSpi_life (s : State) (k : Nat) (p : Spi) : (s.setSpi k p).life = s.life := rfl
@[simp] theorem State.setSpi_gnss (s : State) (k : Nat) (p : Spi) : (s.setSpi k p).gnss = s.gnss := rfl
@[simp] theorem State.setSpi_pads (s : State) (k : Nat) (p : Spi) : (s.setSpi k p).pads = s.pads := rfl
@[simp] theorem State.setSpi_lgt (s : State) (k : Nat) (p : Spi) : (s.setSpi k p).lgt = s.lgt := rfl
@[simp] theorem State.setSpi_uarts (s : State) (k : Nat) (p : Spi) : (s.setSpi k p).uarts = s.uarts := rfl
@[simp] theorem State.setSpi_i2ct (s : State) (k : Nat) (p : Spi) : (s.setSpi k p).i2ct = s.i2ct := rfl
@[simp] theorem State.setSpi_dma (s : State) (k : Nat) (p : Spi) : (s.setSpi k p).dma = s.dma := rfl
@[simp] theorem State.setSpi_adc (s : State) (k : Nat) (p : Spi) : (s.setSpi k p).adc = s.adc := rfl
@[simp] theorem State.setSpi_touch (s : State) (k : Nat) (p : Spi) : (s.setSpi k p).touch = s.touch := rfl
@[simp] theorem State.setSpi_memTest (s : State) (k : Nat) (p : Spi) : (s.setSpi k p).memTest = s.memTest := rfl
@[simp] theorem State.setSpi_mems (s : State) (k : Nat) (p : Spi) : (s.setSpi k p).mems = s.mems := rfl
@[simp] theorem State.get_setSpi (s : State) (k : Nat) (p : Spi) (g : Fld) : (s.setSpi k p).get g = s.get g := rfl

@[simp] theorem State.setDma_pending (s : State) (k : Nat) (d : Dma) : (s.setDma k d).pending = s.pending := rfl
@[simp] theorem State.setDma_free (s : State) (k : Nat) (d : Dma) : (s.setDma k d).free = s.free := rfl
@[simp] theorem State.setDma_regs (s : State) (k : Nat) (d : Dma) : (s.setDma k d).regs = s.regs := rfl
@[simp] theorem State.setDma_mem (s : State) (k : Nat) (d : Dma) : (s.setDma k d).mem = s.mem := rfl
@[simp] theorem State.setDma_chk (s : State) (k : Nat) (d : Dma) : (s.setDma k d).chk = s.chk := rfl
@[simp] theorem State.setDma_runs (s : State) (k : Nat) (d : Dma) : (s.setDma k d).runs = s.runs := rfl
@[simp] theorem State.setDma_wbacks (s : State) (k : Nat) (d : Dma) : (s.setDma k d).wbacks = s.wbacks := rfl
@[simp] theorem State.setDma_busData (s : State) (k : Nat) (d : Dma) : (s.setDma k d).busData = s.busData := rfl
@[simp] theorem State.setDma_app (s : State) (k : Nat) (d : Dma) : (s.setDma k d).app = s.app := rfl
@[simp] theorem State.setDma_sys (s : State) (k : Nat) (d : Dma) : (s.setDma k d).sys = s.sys := rfl
@[simp] theorem State.setDma_console (s : State) (k : Nat) (d : Dma) : (s.setDma k d).console = s.console := rfl
@[simp] theorem State.setDma_manApp (s : State) (k : Nat) (d : Dma) : (s.setDma k d).manApp = s.manApp := rfl
@[simp] theorem State.setDma_manSys (s : State) (k : Nat) (d : Dma) : (s.setDma k d).manSys = s.manSys := rfl
@[simp] theorem State.setDma_tide (s : State) (k : Nat) (d : Dma) : (s.setDma k d).tide = s.tide := rfl
@[simp] theorem State.setDma_tp (s : State) (k : Nat) (d : Dma) : (s.setDma k d).tp = s.tp := rfl
@[simp] theorem State.setDma_tt (s : State) (k : Nat) (d : Dma) : (s.setDma k d).tt = s.tt := rfl
@[simp] theorem State.setDma_rtc (s : State) (k : Nat) (d : Dma) : (s.setDma k d).rtc = s.rtc := rfl
@[simp] theorem State.setDma_logs (s : State) (k : Nat) (d : Dma) : (s.setDma k d).logs = s.logs := rfl
@[simp] theorem State.setDma_crypto (s : State) (k : Nat) (d : Dma) : (s.setDma k d).crypto = s.crypto := rfl
@[simp] theorem State.setDma_power (s : State) (k : Nat) (d : Dma) : (s.setDma k d).power = s.power := rfl
@[simp] theorem State.setDma_harv (s : State) (k : Nat) (d : Dma) : (s.setDma k d).harv = s.harv := rfl
@[simp] theorem State.setDma_clk (s : State) (k : Nat) (d : Dma) : (s.setDma k d).clk = s.clk := rfl
@[simp] theorem State.setDma_life (s : State) (k : Nat) (d : Dma) : (s.setDma k d).life = s.life := rfl
@[simp] theorem State.setDma_gnss (s : State) (k : Nat) (d : Dma) : (s.setDma k d).gnss = s.gnss := rfl
@[simp] theorem State.setDma_pads (s : State) (k : Nat) (d : Dma) : (s.setDma k d).pads = s.pads := rfl
@[simp] theorem State.setDma_lgt (s : State) (k : Nat) (d : Dma) : (s.setDma k d).lgt = s.lgt := rfl
@[simp] theorem State.setDma_uarts (s : State) (k : Nat) (d : Dma) : (s.setDma k d).uarts = s.uarts := rfl
@[simp] theorem State.setDma_i2ct (s : State) (k : Nat) (d : Dma) : (s.setDma k d).i2ct = s.i2ct := rfl
@[simp] theorem State.setDma_spis (s : State) (k : Nat) (d : Dma) : (s.setDma k d).spis = s.spis := rfl
@[simp] theorem State.setDma_adc (s : State) (k : Nat) (d : Dma) : (s.setDma k d).adc = s.adc := rfl
@[simp] theorem State.setDma_touch (s : State) (k : Nat) (d : Dma) : (s.setDma k d).touch = s.touch := rfl
@[simp] theorem State.setDma_memTest (s : State) (k : Nat) (d : Dma) : (s.setDma k d).memTest = s.memTest := rfl
@[simp] theorem State.setDma_mems (s : State) (k : Nat) (d : Dma) : (s.setDma k d).mems = s.mems := rfl
@[simp] theorem State.get_setDma (s : State) (k : Nat) (d : Dma) (g : Fld) : (s.setDma k d).get g = s.get g := rfl

@[simp] theorem State.setCore_pending (s : State) (c : CoreId) (k : Core) : (s.setCore c k).pending = s.pending := by cases c <;> rfl
@[simp] theorem State.setCore_free (s : State) (c : CoreId) (k : Core) : (s.setCore c k).free = s.free := by cases c <;> rfl
@[simp] theorem State.setCore_regs (s : State) (c : CoreId) (k : Core) : (s.setCore c k).regs = s.regs := by cases c <;> rfl
@[simp] theorem State.setCore_mem (s : State) (c : CoreId) (k : Core) : (s.setCore c k).mem = s.mem := by cases c <;> rfl
@[simp] theorem State.setCore_chk (s : State) (c : CoreId) (k : Core) : (s.setCore c k).chk = s.chk := by cases c <;> rfl
@[simp] theorem State.setCore_runs (s : State) (c : CoreId) (k : Core) : (s.setCore c k).runs = s.runs := by cases c <;> rfl
@[simp] theorem State.setCore_wbacks (s : State) (c : CoreId) (k : Core) : (s.setCore c k).wbacks = s.wbacks := by cases c <;> rfl
@[simp] theorem State.setCore_busData (s : State) (c : CoreId) (k : Core) : (s.setCore c k).busData = s.busData := by cases c <;> rfl
@[simp] theorem State.setCore_console (s : State) (c : CoreId) (k : Core) : (s.setCore c k).console = s.console := by cases c <;> rfl
@[simp] theorem State.setCore_manApp (s : State) (c : CoreId) (k : Core) : (s.setCore c k).manApp = s.manApp := by cases c <;> rfl
@[simp] theorem State.setCore_manSys (s : State) (c : CoreId) (k : Core) : (s.setCore c k).manSys = s.manSys := by cases c <;> rfl
@[simp] theorem State.setCore_tide (s : State) (c : CoreId) (k : Core) : (s.setCore c k).tide = s.tide := by cases c <;> rfl
@[simp] theorem State.setCore_tp (s : State) (c : CoreId) (k : Core) : (s.setCore c k).tp = s.tp := by cases c <;> rfl
@[simp] theorem State.setCore_tt (s : State) (c : CoreId) (k : Core) : (s.setCore c k).tt = s.tt := by cases c <;> rfl
@[simp] theorem State.setCore_rtc (s : State) (c : CoreId) (k : Core) : (s.setCore c k).rtc = s.rtc := by cases c <;> rfl
@[simp] theorem State.setCore_logs (s : State) (c : CoreId) (k : Core) : (s.setCore c k).logs = s.logs := by cases c <;> rfl
@[simp] theorem State.setCore_crypto (s : State) (c : CoreId) (k : Core) : (s.setCore c k).crypto = s.crypto := by cases c <;> rfl
@[simp] theorem State.setCore_power (s : State) (c : CoreId) (k : Core) : (s.setCore c k).power = s.power := by cases c <;> rfl
@[simp] theorem State.setCore_harv (s : State) (c : CoreId) (k : Core) : (s.setCore c k).harv = s.harv := by cases c <;> rfl
@[simp] theorem State.setCore_clk (s : State) (c : CoreId) (k : Core) : (s.setCore c k).clk = s.clk := by cases c <;> rfl
@[simp] theorem State.setCore_life (s : State) (c : CoreId) (k : Core) : (s.setCore c k).life = s.life := by cases c <;> rfl
@[simp] theorem State.setCore_gnss (s : State) (c : CoreId) (k : Core) : (s.setCore c k).gnss = s.gnss := by cases c <;> rfl
@[simp] theorem State.setCore_pads (s : State) (c : CoreId) (k : Core) : (s.setCore c k).pads = s.pads := by cases c <;> rfl
@[simp] theorem State.setCore_lgt (s : State) (c : CoreId) (k : Core) : (s.setCore c k).lgt = s.lgt := by cases c <;> rfl
@[simp] theorem State.setCore_uarts (s : State) (c : CoreId) (k : Core) : (s.setCore c k).uarts = s.uarts := by cases c <;> rfl
@[simp] theorem State.setCore_i2ct (s : State) (c : CoreId) (k : Core) : (s.setCore c k).i2ct = s.i2ct := by cases c <;> rfl
@[simp] theorem State.setCore_spis (s : State) (c : CoreId) (k : Core) : (s.setCore c k).spis = s.spis := by cases c <;> rfl
@[simp] theorem State.setCore_dma (s : State) (c : CoreId) (k : Core) : (s.setCore c k).dma = s.dma := by cases c <;> rfl
@[simp] theorem State.setCore_adc (s : State) (c : CoreId) (k : Core) : (s.setCore c k).adc = s.adc := by cases c <;> rfl
@[simp] theorem State.setCore_touch (s : State) (c : CoreId) (k : Core) : (s.setCore c k).touch = s.touch := by cases c <;> rfl
@[simp] theorem State.setCore_memTest (s : State) (c : CoreId) (k : Core) : (s.setCore c k).memTest = s.memTest := by cases c <;> rfl
@[simp] theorem State.setCore_mems (s : State) (c : CoreId) (k : Core) : (s.setCore c k).mems = s.mems := by cases c <;> rfl
@[simp] theorem State.get_setCore (s : State) (c : CoreId) (k : Core) (g : Fld) : (s.setCore c k).get g = s.get g := by cases c <;> rfl

@[simp] theorem State.setMan_pending (s : State) (m : Man) (q : ManQueue) : (s.setMan m q).pending = s.pending := by cases m <;> rfl
@[simp] theorem State.setMan_free (s : State) (m : Man) (q : ManQueue) : (s.setMan m q).free = s.free := by cases m <;> rfl
@[simp] theorem State.setMan_regs (s : State) (m : Man) (q : ManQueue) : (s.setMan m q).regs = s.regs := by cases m <;> rfl
@[simp] theorem State.setMan_mem (s : State) (m : Man) (q : ManQueue) : (s.setMan m q).mem = s.mem := by cases m <;> rfl
@[simp] theorem State.setMan_chk (s : State) (m : Man) (q : ManQueue) : (s.setMan m q).chk = s.chk := by cases m <;> rfl
@[simp] theorem State.setMan_runs (s : State) (m : Man) (q : ManQueue) : (s.setMan m q).runs = s.runs := by cases m <;> rfl
@[simp] theorem State.setMan_wbacks (s : State) (m : Man) (q : ManQueue) : (s.setMan m q).wbacks = s.wbacks := by cases m <;> rfl
@[simp] theorem State.setMan_busData (s : State) (m : Man) (q : ManQueue) : (s.setMan m q).busData = s.busData := by cases m <;> rfl
@[simp] theorem State.setMan_app (s : State) (m : Man) (q : ManQueue) : (s.setMan m q).app = s.app := by cases m <;> rfl
@[simp] theorem State.setMan_sys (s : State) (m : Man) (q : ManQueue) : (s.setMan m q).sys = s.sys := by cases m <;> rfl
@[simp] theorem State.setMan_console (s : State) (m : Man) (q : ManQueue) : (s.setMan m q).console = s.console := by cases m <;> rfl
@[simp] theorem State.setMan_tide (s : State) (m : Man) (q : ManQueue) : (s.setMan m q).tide = s.tide := by cases m <;> rfl
@[simp] theorem State.setMan_tp (s : State) (m : Man) (q : ManQueue) : (s.setMan m q).tp = s.tp := by cases m <;> rfl
@[simp] theorem State.setMan_tt (s : State) (m : Man) (q : ManQueue) : (s.setMan m q).tt = s.tt := by cases m <;> rfl
@[simp] theorem State.setMan_rtc (s : State) (m : Man) (q : ManQueue) : (s.setMan m q).rtc = s.rtc := by cases m <;> rfl
@[simp] theorem State.setMan_logs (s : State) (m : Man) (q : ManQueue) : (s.setMan m q).logs = s.logs := by cases m <;> rfl
@[simp] theorem State.setMan_crypto (s : State) (m : Man) (q : ManQueue) : (s.setMan m q).crypto = s.crypto := by cases m <;> rfl
@[simp] theorem State.setMan_power (s : State) (m : Man) (q : ManQueue) : (s.setMan m q).power = s.power := by cases m <;> rfl
@[simp] theorem State.setMan_harv (s : State) (m : Man) (q : ManQueue) : (s.setMan m q).harv = s.harv := by cases m <;> rfl
@[simp] theorem State.setMan_clk (s : State) (m : Man) (q : ManQueue) : (s.setMan m q).clk = s.clk := by cases m <;> rfl
@[simp] theorem State.setMan_life (s : State) (m : Man) (q : ManQueue) : (s.setMan m q).life = s.life := by cases m <;> rfl
@[simp] theorem State.setMan_gnss (s : State) (m : Man) (q : ManQueue) : (s.setMan m q).gnss = s.gnss := by cases m <;> rfl
@[simp] theorem State.setMan_pads (s : State) (m : Man) (q : ManQueue) : (s.setMan m q).pads = s.pads := by cases m <;> rfl
@[simp] theorem State.setMan_lgt (s : State) (m : Man) (q : ManQueue) : (s.setMan m q).lgt = s.lgt := by cases m <;> rfl
@[simp] theorem State.setMan_uarts (s : State) (m : Man) (q : ManQueue) : (s.setMan m q).uarts = s.uarts := by cases m <;> rfl
@[simp] theorem State.setMan_i2ct (s : State) (m : Man) (q : ManQueue) : (s.setMan m q).i2ct = s.i2ct := by cases m <;> rfl
@[simp] theorem State.setMan_spis (s : State) (m : Man) (q : ManQueue) : (s.setMan m q).spis = s.spis := by cases m <;> rfl
@[simp] theorem State.setMan_dma (s : State) (m : Man) (q : ManQueue) : (s.setMan m q).dma = s.dma := by cases m <;> rfl
@[simp] theorem State.setMan_adc (s : State) (m : Man) (q : ManQueue) : (s.setMan m q).adc = s.adc := by cases m <;> rfl
@[simp] theorem State.setMan_touch (s : State) (m : Man) (q : ManQueue) : (s.setMan m q).touch = s.touch := by cases m <;> rfl
@[simp] theorem State.setMan_memTest (s : State) (m : Man) (q : ManQueue) : (s.setMan m q).memTest = s.memTest := by cases m <;> rfl
@[simp] theorem State.setMan_mems (s : State) (m : Man) (q : ManQueue) : (s.setMan m q).mems = s.mems := by cases m <;> rfl
@[simp] theorem State.get_setMan (s : State) (m : Man) (q : ManQueue) (g : Fld) : (s.setMan m q).get g = s.get g := by cases m <;> rfl

end Sys2Proof.Machine
end

