-- ==== Sys2Proof/Laws/Frame.lean ====
section
/-! SUPPORT. Frames: the parts of the state, and the relation "`t` differs from `s` in these parts at most, and is in canonical
form where `s` is". Each operation of the machine has one lemma of this form, which says all it can change. -/

namespace Sys2Proof.Machine

/-- The parts of the state: the registers of each kind of block but for OWNLVL (`rOwn`, of all blocks), the control words of the
quay mailbox, the other fields of the state. -/
inductive Part where
  | rSysctl | rPwr | rClk | rHarv | rMan | rEvr | rMemctl | rLogs | rTide | rTp | rRtc | rUart | rI2ct | rSpi | rLgt
  | rAdc | rTouch | rCrypto | rGpio | rDma | rLife | rTest | rGnss | rFront | rPlan | rLookout | rBerth | rSillage | rMeasq | rBitlog
  | rOwn | rQuay | rOther
  | pending | free | mem | chk | runs | wbacks | busData | app | sys | console | manApp | manSys | tide | tp | tt | rtc | logs | crypto
  | power | harv | clk | life | gnss | pads | lgt | uarts | i2ct | spis | dma | adc | touch | memTest | mems
  deriving DecidableEq, Repr

/-- The part of a register address. -/
def partOfAddr (a : Nat) : Part :=
  let p := a / 0x1000
  if 0x70000 ≤ p then .rQuay
  else if 0x50010 ≤ p ∧ p < 0x50020 then if a % 0x100 = 4 then .rOwn else .rBerth
  else if a % 0x1000 = 4 then .rOwn
  else if 0x50020 ≤ p then [Part.rSillage, .rMeasq, .rBitlog].getD (p - 0x50020) .rOther
  else if 0x50000 ≤ p then [Part.rGnss, .rFront, .rPlan, .rLookout].getD (p - 0x50000) .rOther
  else if 0x40000 ≤ p then
    [Part.rSysctl, .rPwr, .rClk, .rHarv, .rMan, .rMan, .rEvr, .rMemctl, .rLogs, .rTide, .rTp, .rRtc, .rUart, .rUart, .rUart, .rI2ct, .rSpi, .rSpi, .rLgt, .rAdc, .rTouch, .rCrypto, .rGpio, .rDma, .rLife, .rTest].getD (p - 0x40000) .rOther
  else .rOther

/-- The part of a register field's key. -/
def partOfKey (k : Nat) : Part := partOfAddr (k / 32)

/-- The part of a register field. -/
def Fld.part (f : Fld) : Part := partOfKey f.key

/-- The part of the registers of a block. -/
def Block.part : Block → Part
  | .sysctl => .rSysctl
  | .pwr => .rPwr
  | .clk => .rClk
  | .harv => .rHarv
  | .manApp => .rMan
  | .manSys => .rMan
  | .evr => .rEvr
  | .memctl => .rMemctl
  | .logs => .rLogs
  | .tide => .rTide
  | .tp => .rTp
  | .rtc => .rRtc
  | .uart0 => .rUart
  | .uart1 => .rUart
  | .uart2 => .rUart
  | .i2ct => .rI2ct
  | .spi0 => .rSpi
  | .spi1 => .rSpi
  | .lgt => .rLgt
  | .adc => .rAdc
  | .touch => .rTouch
  | .crypto => .rCrypto
  | .gpio => .rGpio
  | .dma => .rDma
  | .life => .rLife
  | .test => .rTest
  | .gnss => .rGnss
  | .front => .rFront
  | .plan => .rPlan
  | .lookout => .rLookout
  | .sillage => .rSillage
  | .measq => .rMeasq
  | .bitlog => .rBitlog
  | .berth _ => .rBerth

/-- That a field of the state is the same in two states; of the registers this says nothing. -/
def Keeps (p : Part) (s t : State) : Prop :=
  match p with
  | .pending => t.pending = s.pending
  | .free => t.free = s.free
  | .mem => t.mem = s.mem
  | .chk => t.chk = s.chk
  | .runs => t.runs = s.runs
  | .wbacks => t.wbacks = s.wbacks
  | .busData => t.busData = s.busData
  | .app => t.app = s.app
  | .sys => t.sys = s.sys
  | .console => t.console = s.console
  | .manApp => t.manApp = s.manApp
  | .manSys => t.manSys = s.manSys
  | .tide => t.tide = s.tide
  | .tp => t.tp = s.tp
  | .tt => t.tt = s.tt
  | .rtc => t.rtc = s.rtc
  | .logs => t.logs = s.logs
  | .crypto => t.crypto = s.crypto
  | .power => t.power = s.power
  | .harv => t.harv = s.harv
  | .clk => t.clk = s.clk
  | .life => t.life = s.life
  | .gnss => t.gnss = s.gnss
  | .pads => t.pads = s.pads
  | .lgt => t.lgt = s.lgt
  | .uarts => t.uarts = s.uarts
  | .i2ct => t.i2ct = s.i2ct
  | .spis => t.spis = s.spis
  | .dma => t.dma = s.dma
  | .adc => t.adc = s.adc
  | .touch => t.touch = s.touch
  | .memTest => t.memTest = s.memTest
  | .mems => t.mems = s.mems
  | _ => True

/-- A list of parts as bits. -/
def Part.mask (l : List Part) : Nat := l.foldr (fun p m => 2 ^ p.ctorIdx ||| m) 0

/-- Whether the parts of `a` are among those of `b`. -/
def Part.sub (a b : List Part) : Bool := Part.mask a &&& Part.mask b == Part.mask a

theorem Part.testBit_mask (l : List Part) (i : Nat) : (Part.mask l).testBit i = l.any fun p => p.ctorIdx == i := by
  induction l with
  | nil => simp [Part.mask]
  | cons p r ih =>
    have h : Part.mask (p :: r) = 2 ^ p.ctorIdx ||| Part.mask r := rfl
    rw [h, Nat.testBit_or, ih, List.any_cons, Nat.testBit_two_pow]
    rfl

theorem Part.ctorIdx_inj {p q : Part} (h : p.ctorIdx = q.ctorIdx) : p = q := by
  have hp : p = Part.ofNat p.ctorIdx := by cases p <;> rfl
  have hq : q = Part.ofNat q.ctorIdx := by cases q <;> rfl
  exact hp.trans ((congrArg Part.ofNat h).trans hq.symm)

theorem Part.mem_of_sub {a b : List Part} (h : Part.sub a b = true) {p : Part} (hp : p ∈ a) : p ∈ b := by
  have h1 : Part.mask a &&& Part.mask b = Part.mask a := by simpa [Part.sub] using h
  have h2 : (Part.mask a).testBit p.ctorIdx = true := by
    rw [Part.testBit_mask, List.any_eq_true]; exact ⟨p, hp, by simp⟩
  rw [← h1, Nat.testBit_and, Bool.and_eq_true, Part.testBit_mask b, List.any_eq_true] at h2
  obtain ⟨q, hq, he⟩ := h2.2
  have hqp : q = p := Part.ctorIdx_inj (by simpa using he)
  exact hqp ▸ hq

theorem Part.sub_of_mem {a b : List Part} (h : ∀ p ∈ a, p ∈ b) : Part.sub a b = true := by
  have : Part.mask a &&& Part.mask b = Part.mask a := by
    apply Nat.eq_of_testBit_eq
    intro i
    rw [Nat.testBit_and, Part.testBit_mask, Part.testBit_mask]
    cases ha : a.any fun p => p.ctorIdx == i with
    | false => rfl
    | true =>
      obtain ⟨p, hp, he⟩ := List.any_eq_true.mp ha
      rw [Bool.true_and, List.any_eq_true]
      exact ⟨p, h p hp, he⟩
  simp [Part.sub, this]

theorem Part.sub_trans {a b c : List Part} (h : Part.sub a b = true) (k : Part.sub b c = true) : Part.sub a c = true :=
  Part.sub_of_mem fun _ hp => Part.mem_of_sub k (Part.mem_of_sub h hp)

/-- `t` differs from `s` in the parts `e` at most, and is in canonical form where `s` is. -/
structure Frame (e : List Part) (s t : State) : Prop where
  wf : s.Wf → t.Wf
  regs : ∀ k, partOfKey k ∉ e → Store.get resetOf t.regs k = Store.get resetOf s.regs k
  keeps : ∀ p, p ∉ e → Keeps p s t

namespace Frame

variable {e : List Part} {s t u : State}

theorem refl : Frame e s s := by
  refine ⟨id, fun _ _ => rfl, fun p _ => ?_⟩
  cases p <;> first | rfl | exact trivial

theorem trans (h : Frame e s t) (k : Frame e t u) : Frame e s u := by
  refine ⟨fun w => k.wf (h.wf w), fun x hx => (k.regs x hx).trans (h.regs x hx), fun p hp => ?_⟩
  have h1 := h.keeps p hp
  have h2 := k.keeps p hp
  cases p <;> first | exact Eq.trans h2 h1 | exact trivial

theorem mono {e' : List Part} (h : Frame e s t) (hs : Part.sub e e' = true) : Frame e' s t :=
  ⟨h.wf, fun x hx => h.regs x fun hm => hx (Part.mem_of_sub hs hm), fun p hp => h.keeps p fun hm => hp (Part.mem_of_sub hs hm)⟩

/-- Composition with the later step first, so that the state between is known when the earlier one is looked at. -/
theorem after (k : Frame e t u) (h : Frame e s t) : Frame e s u := h.trans k

theorem ite {c : Prop} [Decidable c] {a b : State} (ha : Frame e s a) (hb : Frame e s b) : Frame e s (if c then a else b) := by
  split
  · exact ha
  · exact hb

theorem dite {c : Prop} [Decidable c] {a : c → State} {b : ¬c → State} (ha : ∀ h, Frame e s (a h)) (hb : ∀ h, Frame e s (b h)) :
    Frame e s (if h : c then a h else b h) := by
  split
  · exact ha _
  · exact hb _

theorem foldl {β : Type} {f : State → β → State} (h : ∀ t x, Frame e t (f t x)) (l : List β) (t : State) :
    Frame e t (l.foldl f t) := by
  induction l generalizing t with
  | nil => exact refl
  | cons x r ih => exact (h t x).trans (ih _)

/-- The frame of a step over an accumulator that holds a state. -/
theorem foldlBy {α β : Type} (g : α → State) {f : α → β → α} (h : ∀ a x, Frame e (g a) (g (f a x))) (l : List β) (a : α) :
    Frame e (g a) (g (l.foldl f a)) := by
  induction l generalizing a with
  | nil => exact refl
  | cons x r ih => exact (h a x).trans (ih _)

theorem not_mem {p : Part} (h : Part.sub [p] e = false) : p ∉ e := fun hm => by
  rw [Part.sub_of_mem fun q hq => (List.mem_singleton.mp hq).symm ▸ hm] at h
  exact absurd h (by decide)

/-- The registers of a part outside the frame read as before. -/
theorem get {f : Fld} {p : Part} (h : Frame e s t) (hp : f.part = p) (hn : Part.sub [p] e = false) : t.get f = s.get f :=
  h.regs f.key (by rw [show partOfKey f.key = p from hp]; exact not_mem hn)

/-- A field of the state outside the frame is as before. -/
theorem same (h : Frame e s t) (p : Part) (hn : Part.sub [p] e = false) : Keeps p s t := h.keeps p (not_mem hn)

end Frame

end Sys2Proof.Machine
end

