-- ==== Sys2Proof/Laws/FrameBase.lean ====
section
/-! SUPPORT. The frames of the primitive updates: of a register field, of a field of the state, of memory and check bits. -/

namespace Sys2Proof.Machine

theorem part_rSysctl {f : Fld} (h1 : 0x40000000 ≤ f.addr) (h2 : f.addr < 0x40001000) (h3 : f.addr % 0x1000 ≠ 4) (h4 : f.lo < 32) :
    f.part = .rSysctl := by
  have ha : f.key / 32 = f.addr := by unfold Fld.key; omega
  have hp : f.addr / 0x1000 = 0x40000 := by omega
  unfold Fld.part partOfKey partOfAddr
  rw [ha, hp, if_neg (by decide), if_neg (by decide), if_neg h3]
  rfl

theorem part_rPwr {f : Fld} (h1 : 0x40001000 ≤ f.addr) (h2 : f.addr < 0x40002000) (h3 : f.addr % 0x1000 ≠ 4) (h4 : f.lo < 32) :
    f.part = .rPwr := by
  have ha : f.key / 32 = f.addr := by unfold Fld.key; omega
  have hp : f.addr / 0x1000 = 0x40001 := by omega
  unfold Fld.part partOfKey partOfAddr
  rw [ha, hp, if_neg (by decide), if_neg (by decide), if_neg h3]
  rfl

theorem part_rClk {f : Fld} (h1 : 0x40002000 ≤ f.addr) (h2 : f.addr < 0x40003000) (h3 : f.addr % 0x1000 ≠ 4) (h4 : f.lo < 32) :
    f.part = .rClk := by
  have ha : f.key / 32 = f.addr := by unfold Fld.key; omega
  have hp : f.addr / 0x1000 = 0x40002 := by omega
  unfold Fld.part partOfKey partOfAddr
  rw [ha, hp, if_neg (by decide), if_neg (by decide), if_neg h3]
  rfl

theorem part_rHarv {f : Fld} (h1 : 0x40003000 ≤ f.addr) (h2 : f.addr < 0x40004000) (h3 : f.addr % 0x1000 ≠ 4) (h4 : f.lo < 32) :
    f.part = .rHarv := by
  have ha : f.key / 32 = f.addr := by unfold Fld.key; omega
  have hp : f.addr / 0x1000 = 0x40003 := by omega
  unfold Fld.part partOfKey partOfAddr
  rw [ha, hp, if_neg (by decide), if_neg (by decide), if_neg h3]
  rfl

theorem part_rMan {f : Fld} (h1 : 0x40004000 ≤ f.addr) (h2 : f.addr < 0x40006000) (h3 : f.addr % 0x1000 ≠ 4) (h4 : f.lo < 32) :
    f.part = .rMan := by
  have ha : f.key / 32 = f.addr := by unfold Fld.key; omega
  have hp : f.addr / 0x1000 = 0x40004 ∨ f.addr / 0x1000 = 0x40005 := by omega
  unfold Fld.part partOfKey partOfAddr
  rcases hp with hp | hp <;> rw [ha, hp, if_neg (by decide), if_neg (by decide), if_neg h3] <;> rfl

theorem part_rEvr {f : Fld} (h1 : 0x40006000 ≤ f.addr) (h2 : f.addr < 0x40007000) (h3 : f.addr % 0x1000 ≠ 4) (h4 : f.lo < 32) :
    f.part = .rEvr := by
  have ha : f.key / 32 = f.addr := by unfold Fld.key; omega
  have hp : f.addr / 0x1000 = 0x40006 := by omega
  unfold Fld.part partOfKey partOfAddr
  rw [ha, hp, if_neg (by decide), if_neg (by decide), if_neg h3]
  rfl

theorem part_rMemctl {f : Fld} (h1 : 0x40007000 ≤ f.addr) (h2 : f.addr < 0x40008000) (h3 : f.addr % 0x1000 ≠ 4) (h4 : f.lo < 32) :
    f.part = .rMemctl := by
  have ha : f.key / 32 = f.addr := by unfold Fld.key; omega
  have hp : f.addr / 0x1000 = 0x40007 := by omega
  unfold Fld.part partOfKey partOfAddr
  rw [ha, hp, if_neg (by decide), if_neg (by decide), if_neg h3]
  rfl

theorem part_rLogs {f : Fld} (h1 : 0x40008000 ≤ f.addr) (h2 : f.addr < 0x40009000) (h3 : f.addr % 0x1000 ≠ 4) (h4 : f.lo < 32) :
    f.part = .rLogs := by
  have ha : f.key / 32 = f.addr := by unfold Fld.key; omega
  have hp : f.addr / 0x1000 = 0x40008 := by omega
  unfold Fld.part partOfKey partOfAddr
  rw [ha, hp, if_neg (by decide), if_neg (by decide), if_neg h3]
  rfl

theorem part_rTide {f : Fld} (h1 : 0x40009000 ≤ f.addr) (h2 : f.addr < 0x4000a000) (h3 : f.addr % 0x1000 ≠ 4) (h4 : f.lo < 32) :
    f.part = .rTide := by
  have ha : f.key / 32 = f.addr := by unfold Fld.key; omega
  have hp : f.addr / 0x1000 = 0x40009 := by omega
  unfold Fld.part partOfKey partOfAddr
  rw [ha, hp, if_neg (by decide), if_neg (by decide), if_neg h3]
  rfl

theorem part_rTp {f : Fld} (h1 : 0x4000a000 ≤ f.addr) (h2 : f.addr < 0x4000b000) (h3 : f.addr % 0x1000 ≠ 4) (h4 : f.lo < 32) :
    f.part = .rTp := by
  have ha : f.key / 32 = f.addr := by unfold Fld.key; omega
  have hp : f.addr / 0x1000 = 0x4000a := by omega
  unfold Fld.part partOfKey partOfAddr
  rw [ha, hp, if_neg (by decide), if_neg (by decide), if_neg h3]
  rfl

theorem part_rRtc {f : Fld} (h1 : 0x4000b000 ≤ f.addr) (h2 : f.addr < 0x4000c000) (h3 : f.addr % 0x1000 ≠ 4) (h4 : f.lo < 32) :
    f.part = .rRtc := by
  have ha : f.key / 32 = f.addr := by unfold Fld.key; omega
  have hp : f.addr / 0x1000 = 0x4000b := by omega
  unfold Fld.part partOfKey partOfAddr
  rw [ha, hp, if_neg (by decide), if_neg (by decide), if_neg h3]
  rfl

theorem part_rUart {f : Fld} (h1 : 0x4000c000 ≤ f.addr) (h2 : f.addr < 0x4000f000) (h3 : f.addr % 0x1000 ≠ 4) (h4 : f.lo < 32) :
    f.part = .rUart := by
  have ha : f.key / 32 = f.addr := by unfold Fld.key; omega
  have hp : f.addr / 0x1000 = 0x4000c ∨ f.addr / 0x1000 = 0x4000d ∨ f.addr / 0x1000 = 0x4000e := by omega
  unfold Fld.part partOfKey partOfAddr
  rcases hp with hp | hp | hp <;> rw [ha, hp, if_neg (by decide), if_neg (by decide), if_neg h3] <;> rfl

theorem part_rI2ct {f : Fld} (h1 : 0x4000f000 ≤ f.addr) (h2 : f.addr < 0x40010000) (h3 : f.addr % 0x1000 ≠ 4) (h4 : f.lo < 32) :
    f.part = .rI2ct := by
  have ha : f.key / 32 = f.addr := by unfold Fld.key; omega
  have hp : f.addr / 0x1000 = 0x4000f := by omega
  unfold Fld.part partOfKey partOfAddr
  rw [ha, hp, if_neg (by decide), if_neg (by decide), if_neg h3]
  rfl

theorem part_rSpi {f : Fld} (h1 : 0x40010000 ≤ f.addr) (h2 : f.addr < 0x40012000) (h3 : f.addr % 0x1000 ≠ 4) (h4 : f.lo < 32) :
    f.part = .rSpi := by
  have ha : f.key / 32 = f.addr := by unfold Fld.key; omega
  have hp : f.addr / 0x1000 = 0x40010 ∨ f.addr / 0x1000 = 0x40011 := by omega
  unfold Fld.part partOfKey partOfAddr
  rcases hp with hp | hp <;> rw [ha, hp, if_neg (by decide), if_neg (by decide), if_neg h3] <;> rfl

theorem part_rLgt {f : Fld} (h1 : 0x40012000 ≤ f.addr) (h2 : f.addr < 0x40013000) (h3 : f.addr % 0x1000 ≠ 4) (h4 : f.lo < 32) :
    f.part = .rLgt := by
  have ha : f.key / 32 = f.addr := by unfold Fld.key; omega
  have hp : f.addr / 0x1000 = 0x40012 := by omega
  unfold Fld.part partOfKey partOfAddr
  rw [ha, hp, if_neg (by decide), if_neg (by decide), if_neg h3]
  rfl

theorem part_rAdc {f : Fld} (h1 : 0x40013000 ≤ f.addr) (h2 : f.addr < 0x40014000) (h3 : f.addr % 0x1000 ≠ 4) (h4 : f.lo < 32) :
    f.part = .rAdc := by
  have ha : f.key / 32 = f.addr := by unfold Fld.key; omega
  have hp : f.addr / 0x1000 = 0x40013 := by omega
  unfold Fld.part partOfKey partOfAddr
  rw [ha, hp, if_neg (by decide), if_neg (by decide), if_neg h3]
  rfl

theorem part_rTouch {f : Fld} (h1 : 0x40014000 ≤ f.addr) (h2 : f.addr < 0x40015000) (h3 : f.addr % 0x1000 ≠ 4) (h4 : f.lo < 32) :
    f.part = .rTouch := by
  have ha : f.key / 32 = f.addr := by unfold Fld.key; omega
  have hp : f.addr / 0x1000 = 0x40014 := by omega
  unfold Fld.part partOfKey partOfAddr
  rw [ha, hp, if_neg (by decide), if_neg (by decide), if_neg h3]
  rfl

theorem part_rCrypto {f : Fld} (h1 : 0x40015000 ≤ f.addr) (h2 : f.addr < 0x40016000) (h3 : f.addr % 0x1000 ≠ 4) (h4 : f.lo < 32) :
    f.part = .rCrypto := by
  have ha : f.key / 32 = f.addr := by unfold Fld.key; omega
  have hp : f.addr / 0x1000 = 0x40015 := by omega
  unfold Fld.part partOfKey partOfAddr
  rw [ha, hp, if_neg (by decide), if_neg (by decide), if_neg h3]
  rfl

theorem part_rGpio {f : Fld} (h1 : 0x40016000 ≤ f.addr) (h2 : f.addr < 0x40017000) (h3 : f.addr % 0x1000 ≠ 4) (h4 : f.lo < 32) :
    f.part = .rGpio := by
  have ha : f.key / 32 = f.addr := by unfold Fld.key; omega
  have hp : f.addr / 0x1000 = 0x40016 := by omega
  unfold Fld.part partOfKey partOfAddr
  rw [ha, hp, if_neg (by decide), if_neg (by decide), if_neg h3]
  rfl

theorem part_rDma {f : Fld} (h1 : 0x40017000 ≤ f.addr) (h2 : f.addr < 0x40018000) (h3 : f.addr % 0x1000 ≠ 4) (h4 : f.lo < 32) :
    f.part = .rDma := by
  have ha : f.key / 32 = f.addr := by unfold Fld.key; omega
  have hp : f.addr / 0x1000 = 0x40017 := by omega
  unfold Fld.part partOfKey partOfAddr
  rw [ha, hp, if_neg (by decide), if_neg (by decide), if_neg h3]
  rfl

theorem part_rLife {f : Fld} (h1 : 0x40018000 ≤ f.addr) (h2 : f.addr < 0x40019000) (h3 : f.addr % 0x1000 ≠ 4) (h4 : f.lo < 32) :
    f.part = .rLife := by
  have ha : f.key / 32 = f.addr := by unfold Fld.key; omega
  have hp : f.addr / 0x1000 = 0x40018 := by omega
  unfold Fld.part partOfKey partOfAddr
  rw [ha, hp, if_neg (by decide), if_neg (by decide), if_neg h3]
  rfl

theorem part_rTest {f : Fld} (h1 : 0x40019000 ≤ f.addr) (h2 : f.addr < 0x4001a000) (h3 : f.addr % 0x1000 ≠ 4) (h4 : f.lo < 32) :
    f.part = .rTest := by
  have ha : f.key / 32 = f.addr := by unfold Fld.key; omega
  have hp : f.addr / 0x1000 = 0x40019 := by omega
  unfold Fld.part partOfKey partOfAddr
  rw [ha, hp, if_neg (by decide), if_neg (by decide), if_neg h3]
  rfl

theorem part_rGnss {f : Fld} (h1 : 0x50000000 ≤ f.addr) (h2 : f.addr < 0x50001000) (h3 : f.addr % 0x1000 ≠ 4) (h4 : f.lo < 32) :
    f.part = .rGnss := by
  have ha : f.key / 32 = f.addr := by unfold Fld.key; omega
  have hp : f.addr / 0x1000 = 0x50000 := by omega
  unfold Fld.part partOfKey partOfAddr
  rw [ha, hp, if_neg (by decide), if_neg (by decide), if_neg h3]
  rfl

theorem part_rFront {f : Fld} (h1 : 0x50001000 ≤ f.addr) (h2 : f.addr < 0x50002000) (h3 : f.addr % 0x1000 ≠ 4) (h4 : f.lo < 32) :
    f.part = .rFront := by
  have ha : f.key / 32 = f.addr := by unfold Fld.key; omega
  have hp : f.addr / 0x1000 = 0x50001 := by omega
  unfold Fld.part partOfKey partOfAddr
  rw [ha, hp, if_neg (by decide), if_neg (by decide), if_neg h3]
  rfl

theorem part_rPlan {f : Fld} (h1 : 0x50002000 ≤ f.addr) (h2 : f.addr < 0x50003000) (h3 : f.addr % 0x1000 ≠ 4) (h4 : f.lo < 32) :
    f.part = .rPlan := by
  have ha : f.key / 32 = f.addr := by unfold Fld.key; omega
  have hp : f.addr / 0x1000 = 0x50002 := by omega
  unfold Fld.part partOfKey partOfAddr
  rw [ha, hp, if_neg (by decide), if_neg (by decide), if_neg h3]
  rfl

theorem part_rLookout {f : Fld} (h1 : 0x50003000 ≤ f.addr) (h2 : f.addr < 0x50004000) (h3 : f.addr % 0x1000 ≠ 4) (h4 : f.lo < 32) :
    f.part = .rLookout := by
  have ha : f.key / 32 = f.addr := by unfold Fld.key; omega
  have hp : f.addr / 0x1000 = 0x50003 := by omega
  unfold Fld.part partOfKey partOfAddr
  rw [ha, hp, if_neg (by decide), if_neg (by decide), if_neg h3]
  rfl

theorem part_rSillage {f : Fld} (h1 : 0x50020000 ≤ f.addr) (h2 : f.addr < 0x50021000) (h3 : f.addr % 0x1000 ≠ 4) (h4 : f.lo < 32) :
    f.part = .rSillage := by
  have ha : f.key / 32 = f.addr := by unfold Fld.key; omega
  have hp : f.addr / 0x1000 = 0x50020 := by omega
  unfold Fld.part partOfKey partOfAddr
  rw [ha, hp, if_neg (by decide), if_neg (by decide), if_neg h3]
  rfl

theorem part_rMeasq {f : Fld} (h1 : 0x50021000 ≤ f.addr) (h2 : f.addr < 0x50022000) (h3 : f.addr % 0x1000 ≠ 4) (h4 : f.lo < 32) :
    f.part = .rMeasq := by
  have ha : f.key / 32 = f.addr := by unfold Fld.key; omega
  have hp : f.addr / 0x1000 = 0x50021 := by omega
  unfold Fld.part partOfKey partOfAddr
  rw [ha, hp, if_neg (by decide), if_neg (by decide), if_neg h3]
  rfl

theorem part_rBitlog {f : Fld} (h1 : 0x50022000 ≤ f.addr) (h2 : f.addr < 0x50023000) (h3 : f.addr % 0x1000 ≠ 4) (h4 : f.lo < 32) :
    f.part = .rBitlog := by
  have ha : f.key / 32 = f.addr := by unfold Fld.key; omega
  have hp : f.addr / 0x1000 = 0x50022 := by omega
  unfold Fld.part partOfKey partOfAddr
  rw [ha, hp, if_neg (by decide), if_neg (by decide), if_neg h3]
  rfl

theorem part_rBerth {f : Fld} (h1 : 0x50010000 ≤ f.addr) (h2 : f.addr < 0x50020000) (h3 : f.addr % 0x100 ≠ 4)
    (h4 : f.lo < 32) : f.part = .rBerth := by
  have ha : f.key / 32 = f.addr := by unfold Fld.key; omega
  unfold Fld.part partOfKey partOfAddr
  rw [ha, if_neg (by omega), if_pos (by omega), if_neg h3]

theorem part_rOwn_berth {f : Fld} (h1 : 0x50010000 ≤ f.addr) (h2 : f.addr < 0x50020000) (h3 : f.addr % 0x100 = 4)
    (h4 : f.lo < 32) : f.part = .rOwn := by
  have ha : f.key / 32 = f.addr := by unfold Fld.key; omega
  unfold Fld.part partOfKey partOfAddr
  rw [ha, if_neg (by omega), if_pos (by omega), if_pos h3]

theorem F.OWNLVL_OWNER_part {b : Block} : (F.OWNLVL_OWNER b).part = .rOwn := by
  cases b with
  | berth n =>
    exact part_rOwn_berth (by simp [F.OWNLVL_OWNER, Block.base]; omega) (by simp [F.OWNLVL_OWNER, Block.base]; omega)
      (by simp [F.OWNLVL_OWNER, Block.base]; omega) (by simp [F.OWNLVL_OWNER])
  | _ => exact of_decide_eq_true rfl

theorem F.OWNLVL_LEVEL_part {b : Block} : (F.OWNLVL_LEVEL b).part = .rOwn := by
  cases b with
  | berth n =>
    exact part_rOwn_berth (by simp [F.OWNLVL_LEVEL, Block.base]; omega) (by simp [F.OWNLVL_LEVEL, Block.base]; omega)
      (by simp [F.OWNLVL_LEVEL, Block.base]; omega) (by simp [F.OWNLVL_LEVEL])
  | _ => exact of_decide_eq_true rfl

theorem F.OWNLVL_FIXED_part {b : Block} : (F.OWNLVL_FIXED b).part = .rOwn := by
  cases b with
  | berth n =>
    exact part_rOwn_berth (by simp [F.OWNLVL_FIXED, Block.base]; omega) (by simp [F.OWNLVL_FIXED, Block.base]; omega)
      (by simp [F.OWNLVL_FIXED, Block.base]; omega) (by simp [F.OWNLVL_FIXED])
  | _ => exact of_decide_eq_true rfl

theorem F.OWNLVL_OWN_PEND_part {b : Block} : (F.OWNLVL_OWN_PEND b).part = .rOwn := by
  cases b with
  | berth n =>
    exact part_rOwn_berth (by simp [F.OWNLVL_OWN_PEND, Block.base]; omega) (by simp [F.OWNLVL_OWN_PEND, Block.base]; omega)
      (by simp [F.OWNLVL_OWN_PEND, Block.base]; omega) (by simp [F.OWNLVL_OWN_PEND])
  | _ => exact of_decide_eq_true rfl

theorem F.OWNLVL_LVL_PEND_part {b : Block} : (F.OWNLVL_LVL_PEND b).part = .rOwn := by
  cases b with
  | berth n =>
    exact part_rOwn_berth (by simp [F.OWNLVL_LVL_PEND, Block.base]; omega) (by simp [F.OWNLVL_LVL_PEND, Block.base]; omega)
      (by simp [F.OWNLVL_LVL_PEND, Block.base]; omega) (by simp [F.OWNLVL_LVL_PEND])
  | _ => exact of_decide_eq_true rfl

theorem F.OWNLVL_QUIET_part {b : Block} : (F.OWNLVL_QUIET b).part = .rOwn := by
  cases b with
  | berth n =>
    exact part_rOwn_berth (by simp [F.OWNLVL_QUIET, Block.base]; omega) (by simp [F.OWNLVL_QUIET, Block.base]; omega)
      (by simp [F.OWNLVL_QUIET, Block.base]; omega) (by simp [F.OWNLVL_QUIET])
  | _ => exact of_decide_eq_true rfl

theorem F.DENIED_COUNT_part {b : Block} : (F.DENIED_COUNT b).part = b.part := by
  cases b with
  | berth n =>
    exact part_rBerth (by simp [F.DENIED_COUNT, Block.base]; omega) (by simp [F.DENIED_COUNT, Block.base]; omega)
      (by simp [F.DENIED_COUNT, Block.base]; omega) (by simp [F.DENIED_COUNT])
  | _ => exact of_decide_eq_true rfl

theorem F.DENIED_LAST_OFS_part {b : Block} : (F.DENIED_LAST_OFS b).part = b.part := by
  cases b with
  | berth n =>
    exact part_rBerth (by simp [F.DENIED_LAST_OFS, Block.base]; omega) (by simp [F.DENIED_LAST_OFS, Block.base]; omega)
      (by simp [F.DENIED_LAST_OFS, Block.base]; omega) (by simp [F.DENIED_LAST_OFS])
  | _ => exact of_decide_eq_true rfl

theorem F.DENIED_LAST_WHY_part {b : Block} : (F.DENIED_LAST_WHY b).part = b.part := by
  cases b with
  | berth n =>
    exact part_rBerth (by simp [F.DENIED_LAST_WHY, Block.base]; omega) (by simp [F.DENIED_LAST_WHY, Block.base]; omega)
      (by simp [F.DENIED_LAST_WHY, Block.base]; omega) (by simp [F.DENIED_LAST_WHY])
  | _ => exact of_decide_eq_true rfl

theorem F.DENIED_LAST_SIDE_part {b : Block} : (F.DENIED_LAST_SIDE b).part = b.part := by
  cases b with
  | berth n =>
    exact part_rBerth (by simp [F.DENIED_LAST_SIDE, Block.base]; omega) (by simp [F.DENIED_LAST_SIDE, Block.base]; omega)
      (by simp [F.DENIED_LAST_SIDE, Block.base]; omega) (by simp [F.DENIED_LAST_SIDE])
  | _ => exact of_decide_eq_true rfl

/-- The parts of all blocks. -/
def Block.allParts : List Part :=
  [.rSysctl, .rPwr, .rClk, .rHarv, .rMan, .rEvr, .rMemctl, .rLogs, .rTide, .rTp, .rRtc, .rUart, .rI2ct, .rSpi, .rLgt,
   .rAdc, .rTouch, .rCrypto, .rGpio, .rDma, .rLife, .rTest, .rGnss, .rFront, .rPlan, .rLookout, .rBerth, .rSillage, .rMeasq, .rBitlog]

/-- The part of any block is among those of all. -/
theorem Block.sub_all {b : Block} {e : List Part} (h : Part.sub Block.allParts e = true) : Part.sub [b.part] e = true := by
  refine Part.sub_trans ?_ h
  cases b with
  | berth n =>
    show Part.sub [.rBerth] Block.allParts = true
    rfl
  | _ => rfl

theorem div_add_pow {n r i : Nat} (h : i ≠ r) (hb : n / 2 ^ r % 2 = 0) : (n + 2 ^ r) / 2 ^ i % 2 = n / 2 ^ i % 2 := by
  rcases Nat.lt_or_gt_of_ne h with hlt | hgt
  · obtain ⟨d, rfl⟩ : ∃ d, r = i + (d + 1) := ⟨r - i - 1, by omega⟩
    rw [Nat.pow_add, Nat.add_mul_div_left _ _ (Nat.two_pow_pos i), Nat.pow_succ]
    omega
  · obtain ⟨d, rfl⟩ : ∃ d, i = r + 1 + d := ⟨i - r - 1, by omega⟩
    have hq : (n + 2 ^ r) / 2 ^ (r + 1) = n / 2 ^ (r + 1) := by
      rw [Nat.pow_succ, ← Nat.div_div_eq_div_mul, ← Nat.div_div_eq_div_mul, Nat.add_div_right _ (Nat.two_pow_pos r)]
      omega
    rw [Nat.pow_add, ← Nat.div_div_eq_div_mul, hq, Nat.div_div_eq_div_mul]

theorem bitOf_withBit {n r i : Nat} {b : Bool} (h : i ≠ r) : bitOf (withBit n r b) i = bitOf n i := by
  unfold withBit bitOf
  by_cases h1 : n / 2 ^ r % 2 = 1
  · rw [if_pos (by simp [h1])]
    cases b with
    | true => rfl
    | false =>
      have hle : 2 ^ r ≤ n := by
        by_cases hl : 2 ^ r ≤ n
        · exact hl
        · rw [Nat.div_eq_of_lt (by omega)] at h1; omega
      have hz : (n - 2 ^ r) / 2 ^ r % 2 = 0 := by
        have : n / 2 ^ r = (n - 2 ^ r) / 2 ^ r + 1 := by
          have hd := Nat.add_div_right (n - 2 ^ r) (Nat.two_pow_pos r)
          rwa [Nat.sub_add_cancel hle] at hd
        omega
      have := div_add_pow h hz
      rw [Nat.sub_add_cancel hle] at this
      simp [this]
  · rw [if_neg (by simp [h1])]
    cases b with
    | true => have := div_add_pow h (show n / 2 ^ r % 2 = 0 by omega); simp [this]
    | false => rfl

/-- Where the region of an address is `r`, the address lies in the range of `r`. -/
theorem regionOf_range {a r : Nat} (h : regionOf a = some r) : (regionRange r).1 ≤ a ∧ a < (regionRange r).2 := by
  unfold regionOf at h
  repeat' split at h
  all_goals first | cases h | skip
  all_goals try (simp [regionRange]; omega)
  rename_i hc
  have : (a - 0x20000000) / 0x10000 < 24 := by omega
  unfold regionRange
  rw [if_pos this]
  simp only
  omega


theorem Block.berth_sub {n : Fin 256} {e : List Part} (h : Part.sub [.rBerth] e = true) :
    Part.sub [(Block.berth n).part] e = true := h

theorem F.QUAY_GO_part : F.QUAY_GO.part = .rQuay := rfl
theorem F.QUAY_OVERRUN_part : F.QUAY_OVERRUN.part = .rQuay := rfl
theorem F.QUAY_LEN_part : F.QUAY_LEN.part = .rQuay := rfl
theorem F.QUAY_RHEAD_part : F.QUAY_RHEAD.part = .rQuay := rfl
theorem F.QUAY_RTAIL_part : F.QUAY_RTAIL.part = .rQuay := rfl

variable {e : List Part} {s : State}

/-- A state with other registers: what removes entries or sets them keeps the frame of their parts. -/
theorem frame_regs {r : Store Nat} (hw : Store.wf resetOf s.regs = true → Store.wf resetOf r = true)
    (h : ∀ k, partOfKey k ∉ e → Store.get resetOf r k = Store.get resetOf s.regs k) : Frame e s { s with regs := r } := by
  refine ⟨fun w => ⟨hw w.1, w.2⟩, h, fun p _ => ?_⟩
  cases p <;> first | exact trivial | rfl

/-- A put changes the part of its field. -/
theorem State.put_frame {f : Fld} {v : Nat} {p : Part} (hp : f.part = p) (h : Part.sub [p] e = true) :
    Frame e s (s.put f v) := by
  refine frame_regs (fun w => Store.wf_set _ _ w) fun k hk => ?_
  refine Store.get_set_other _ _ _ fun he => hk ?_
  subst he
  exact Part.mem_of_sub h (by rw [show partOfKey f.key = p from hp]; exact List.mem_singleton.mpr rfl)

theorem State.flag_frame {f : Fld} {b : Bool} {p : Part} (hp : f.part = p) (h : Part.sub [p] e = true) :
    Frame e s (s.flag f b) := State.put_frame hp h

theorem State.count_frame {f : Fld} {p : Part} (hp : f.part = p) (h : Part.sub [p] e = true) :
    Frame e s (s.count f) := State.put_frame hp h

theorem State.countBy_frame {f : Fld} {n : Nat} {p : Part} (hp : f.part = p) (h : Part.sub [p] e = true) :
    Frame e s (s.countBy f n) := State.put_frame hp h

theorem State.putS_frame {f : Fld} {v : Int} {p : Part} (hp : f.part = p) (h : Part.sub [p] e = true) :
    Frame e s (s.putS f v) := State.put_frame hp h

theorem State.puts_nil_frame : Frame e s (s.puts []) := Frame.refl

theorem State.puts_cons_frame {f : Fld} {v : Nat} {p : Part} {r : List (Fld × Nat)} (hp : f.part = p)
    (h : Part.sub [p] e = true) (hr : Frame e (s.put f v) ((s.put f v).puts r)) : Frame e s (s.puts ((f, v) :: r)) :=
  (State.put_frame hp h).trans hr

theorem State.puts_frame {l : List (Fld × Nat)} (h : ∀ c ∈ l, Part.sub [c.1.part] e = true) : Frame e s (s.puts l) := by
  induction l generalizing s with
  | nil => exact Frame.refl
  | cons c r ih =>
    exact (State.put_frame rfl (h c List.mem_cons_self)).trans (ih fun d hd => h d (List.mem_cons_of_mem _ hd))

/-- A denied write is counted in its block. -/
theorem State.deny_frame {b : Block} {why ofs : Nat} {side : Side} (h : Part.sub [b.part] e = true) :
    Frame e s (s.deny b why ofs side) :=
  (((State.count_frame F.DENIED_COUNT_part h).trans (State.put_frame F.DENIED_LAST_OFS_part h)).trans
    (State.put_frame F.DENIED_LAST_WHY_part h)).trans (State.put_frame F.DENIED_LAST_SIDE_part h)

theorem State.set_pending_frame {v : _} : Frame [.pending] s { s with pending := v } := by
  refine ⟨id, fun _ _ => rfl, fun p hp => ?_⟩
  cases p <;> first | exact trivial | rfl | exact absurd (List.mem_singleton.mpr rfl) hp

theorem State.set_free_frame {v : _} : Frame [.free] s { s with free := v } := by
  refine ⟨id, fun _ _ => rfl, fun p hp => ?_⟩
  cases p <;> first | exact trivial | rfl | exact absurd (List.mem_singleton.mpr rfl) hp

theorem State.set_runs_frame {v : _} : Frame [.runs] s { s with runs := v } := by
  refine ⟨id, fun _ _ => rfl, fun p hp => ?_⟩
  cases p <;> first | exact trivial | rfl | exact absurd (List.mem_singleton.mpr rfl) hp

theorem State.set_wbacks_frame {v : _} : Frame [.wbacks] s { s with wbacks := v } := by
  refine ⟨id, fun _ _ => rfl, fun p hp => ?_⟩
  cases p <;> first | exact trivial | rfl | exact absurd (List.mem_singleton.mpr rfl) hp

theorem State.set_busData_frame {v : _} : Frame [.busData] s { s with busData := v } := by
  refine ⟨id, fun _ _ => rfl, fun p hp => ?_⟩
  cases p <;> first | exact trivial | rfl | exact absurd (List.mem_singleton.mpr rfl) hp

theorem State.set_app_frame {v : _} : Frame [.app] s { s with app := v } := by
  refine ⟨id, fun _ _ => rfl, fun p hp => ?_⟩
  cases p <;> first | exact trivial | rfl | exact absurd (List.mem_singleton.mpr rfl) hp

theorem State.set_sys_frame {v : _} : Frame [.sys] s { s with sys := v } := by
  refine ⟨id, fun _ _ => rfl, fun p hp => ?_⟩
  cases p <;> first | exact trivial | rfl | exact absurd (List.mem_singleton.mpr rfl) hp

theorem State.set_console_frame {v : _} : Frame [.console] s { s with console := v } := by
  refine ⟨id, fun _ _ => rfl, fun p hp => ?_⟩
  cases p <;> first | exact trivial | rfl | exact absurd (List.mem_singleton.mpr rfl) hp

theorem State.set_manApp_frame {v : _} : Frame [.manApp] s { s with manApp := v } := by
  refine ⟨id, fun _ _ => rfl, fun p hp => ?_⟩
  cases p <;> first | exact trivial | rfl | exact absurd (List.mem_singleton.mpr rfl) hp

theorem State.set_manSys_frame {v : _} : Frame [.manSys] s { s with manSys := v } := by
  refine ⟨id, fun _ _ => rfl, fun p hp => ?_⟩
  cases p <;> first | exact trivial | rfl | exact absurd (List.mem_singleton.mpr rfl) hp

theorem State.set_tide_frame {v : _} : Frame [.tide] s { s with tide := v } := by
  refine ⟨id, fun _ _ => rfl, fun p hp => ?_⟩
  cases p <;> first | exact trivial | rfl | exact absurd (List.mem_singleton.mpr rfl) hp

theorem State.set_tp_frame {v : _} : Frame [.tp] s { s with tp := v } := by
  refine ⟨id, fun _ _ => rfl, fun p hp => ?_⟩
  cases p <;> first | exact trivial | rfl | exact absurd (List.mem_singleton.mpr rfl) hp

theorem State.set_tt_frame {v : _} : Frame [.tt] s { s with tt := v } := by
  refine ⟨id, fun _ _ => rfl, fun p hp => ?_⟩
  cases p <;> first | exact trivial | rfl | exact absurd (List.mem_singleton.mpr rfl) hp

theorem State.set_rtc_frame {v : _} : Frame [.rtc] s { s with rtc := v } := by
  refine ⟨id, fun _ _ => rfl, fun p hp => ?_⟩
  cases p <;> first | exact trivial | rfl | exact absurd (List.mem_singleton.mpr rfl) hp

theorem State.set_logs_frame {v : _} : Frame [.logs] s { s with logs := v } := by
  refine ⟨id, fun _ _ => rfl, fun p hp => ?_⟩
  cases p <;> first | exact trivial | rfl | exact absurd (List.mem_singleton.mpr rfl) hp

theorem State.set_crypto_frame {v : _} : Frame [.crypto] s { s with crypto := v } := by
  refine ⟨id, fun _ _ => rfl, fun p hp => ?_⟩
  cases p <;> first | exact trivial | rfl | exact absurd (List.mem_singleton.mpr rfl) hp

theorem State.set_power_frame {v : _} : Frame [.power] s { s with power := v } := by
  refine ⟨id, fun _ _ => rfl, fun p hp => ?_⟩
  cases p <;> first | exact trivial | rfl | exact absurd (List.mem_singleton.mpr rfl) hp

theorem State.set_harv_frame {v : _} : Frame [.harv] s { s with harv := v } := by
  refine ⟨id, fun _ _ => rfl, fun p hp => ?_⟩
  cases p <;> first | exact trivial | rfl | exact absurd (List.mem_singleton.mpr rfl) hp

theorem State.set_clk_frame {v : _} : Frame [.clk] s { s with clk := v } := by
  refine ⟨id, fun _ _ => rfl, fun p hp => ?_⟩
  cases p <;> first | exact trivial | rfl | exact absurd (List.mem_singleton.mpr rfl) hp

theorem State.set_life_frame {v : _} : Frame [.life] s { s with life := v } := by
  refine ⟨id, fun _ _ => rfl, fun p hp => ?_⟩
  cases p <;> first | exact trivial | rfl | exact absurd (List.mem_singleton.mpr rfl) hp

theorem State.set_gnss_frame {v : _} : Frame [.gnss] s { s with gnss := v } := by
  refine ⟨id, fun _ _ => rfl, fun p hp => ?_⟩
  cases p <;> first | exact trivial | rfl | exact absurd (List.mem_singleton.mpr rfl) hp

theorem State.set_pads_frame {v : _} : Frame [.pads] s { s with pads := v } := by
  refine ⟨id, fun _ _ => rfl, fun p hp => ?_⟩
  cases p <;> first | exact trivial | rfl | exact absurd (List.mem_singleton.mpr rfl) hp

theorem State.set_lgt_frame {v : _} : Frame [.lgt] s { s with lgt := v } := by
  refine ⟨id, fun _ _ => rfl, fun p hp => ?_⟩
  cases p <;> first | exact trivial | rfl | exact absurd (List.mem_singleton.mpr rfl) hp

theorem State.set_uarts_frame {v : _} : Frame [.uarts] s { s with uarts := v } := by
  refine ⟨id, fun _ _ => rfl, fun p hp => ?_⟩
  cases p <;> first | exact trivial | rfl | exact absurd (List.mem_singleton.mpr rfl) hp

theorem State.set_i2ct_frame {v : _} : Frame [.i2ct] s { s with i2ct := v } := by
  refine ⟨id, fun _ _ => rfl, fun p hp => ?_⟩
  cases p <;> first | exact trivial | rfl | exact absurd (List.mem_singleton.mpr rfl) hp

theorem State.set_spis_frame {v : _} : Frame [.spis] s { s with spis := v } := by
  refine ⟨id, fun _ _ => rfl, fun p hp => ?_⟩
  cases p <;> first | exact trivial | rfl | exact absurd (List.mem_singleton.mpr rfl) hp

theorem State.set_dma_frame {v : _} : Frame [.dma] s { s with dma := v } := by
  refine ⟨id, fun _ _ => rfl, fun p hp => ?_⟩
  cases p <;> first | exact trivial | rfl | exact absurd (List.mem_singleton.mpr rfl) hp

theorem State.set_adc_frame {v : _} : Frame [.adc] s { s with adc := v } := by
  refine ⟨id, fun _ _ => rfl, fun p hp => ?_⟩
  cases p <;> first | exact trivial | rfl | exact absurd (List.mem_singleton.mpr rfl) hp

theorem State.set_touch_frame {v : _} : Frame [.touch] s { s with touch := v } := by
  refine ⟨id, fun _ _ => rfl, fun p hp => ?_⟩
  cases p <;> first | exact trivial | rfl | exact absurd (List.mem_singleton.mpr rfl) hp

theorem State.set_memTest_frame {v : _} : Frame [.memTest] s { s with memTest := v } := by
  refine ⟨id, fun _ _ => rfl, fun p hp => ?_⟩
  cases p <;> first | exact trivial | rfl | exact absurd (List.mem_singleton.mpr rfl) hp

theorem State.set_mems_frame {v : MemState} (h : v.bad = s.mems.bad) : Frame [.mems] s { s with mems := v } := by
  refine ⟨fun w => ⟨w.1, w.2.1, by rw [show ({ s with mems := v } : State).mems.bad = s.mems.bad from h]; exact w.2.2⟩,
    fun _ _ => rfl, fun p hp => ?_⟩
  cases p <;> first | exact trivial | rfl | exact absurd (List.mem_singleton.mpr rfl) hp

theorem State.setByte_frame {a : Nat} {v : Byte} : Frame [.mem] s (s.setByte a v) := by
  refine ⟨fun w => ⟨w.1, Store.wf_set _ _ w.2.1, w.2.2⟩, fun _ _ => rfl, fun p hp => ?_⟩
  cases p <;> first | exact trivial | rfl | exact absurd (List.mem_singleton.mpr rfl) hp

theorem State.setBytes_frame {a : Nat} {l : List Byte} : Frame [.mem] s (s.setBytes a l) := by
  induction l generalizing s a with
  | nil => exact Frame.refl
  | cons b r ih => exact State.setByte_frame.trans ih

theorem State.setCheck_frame {b v : Nat} : Frame [.chk] s (s.setCheck b v) := by
  refine ⟨fun w => ⟨w.1, w.2.1, Store.wf_set _ _ w.2.2⟩, fun _ _ => rfl, fun p hp => ?_⟩
  cases p <;> first | exact trivial | rfl | exact absurd (List.mem_singleton.mpr rfl) hp

theorem State.clearMem_frame {lo hi : Nat} : Frame [.mem, .chk] s (s.clearMem lo hi) := by
  refine ⟨fun w => ⟨w.1, Store.wf_clear _ _ w.2.1, Store.wf_clear _ _ w.2.2⟩, fun _ _ => rfl, fun p hp => ?_⟩
  cases p <;> first | exact trivial | rfl | exact absurd (by decide) hp

theorem partOfAddr_page {a c : Nat} (h : a / 0x1000 = c / 0x1000) (hb : ¬(0x50010 ≤ c / 0x1000 ∧ c / 0x1000 < 0x50020))
    (h1 : a % 0x1000 ≠ 4) (h2 : c % 0x1000 ≠ 4) : partOfAddr a = partOfAddr c := by
  unfold partOfAddr
  simp only [h, if_neg hb, if_neg h1, if_neg h2]

theorem Block.lies (b : Block) : (∃ n, b = .berth n) ∨ (b.base % 0x1000 = 0 ∧ b.size = 0x1000 ∧
    ¬(0x50010 ≤ b.base / 0x1000 ∧ b.base / 0x1000 < 0x50020) ∧ partOfAddr b.base = b.part ∧ partOfAddr (b.base + 4) = .rOwn) := by
  cases b with
  | berth n => exact Or.inl ⟨n, rfl⟩
  | _ => exact Or.inr ⟨rfl, rfl, by decide, rfl, rfl⟩

/-- The part of an address of a block. -/
theorem Block.part_at {b : Block} {a : Nat} (h1 : b.base ≤ a) (h2 : a < b.base + b.size) (h3 : a ≠ b.base + 4) :
    partOfAddr a = b.part := by
  rcases b.lies with ⟨n, rfl⟩ | ⟨hm, hs, hb, hp, -⟩
  · simp only [Block.base, Block.size] at h1 h2 h3
    unfold partOfAddr
    simp only
    rw [if_neg (by omega), if_pos (by omega), if_neg (by omega)]
    rfl
  · rw [← hp]
    exact partOfAddr_page (by omega) hb (by omega) (by omega)

theorem Block.own_at {b : Block} {a : Nat} (h : a = b.base + 4) : partOfAddr a = .rOwn := by
  rcases b.lies with ⟨n, rfl⟩ | ⟨-, -, -, -, hp⟩
  · simp only [Block.base] at h
    unfold partOfAddr
    simp only
    rw [if_neg (by omega), if_pos (by omega), if_pos (by omega)]
  · rw [h]; exact hp

/-- What `blockAt` finds lies in its block's window. -/
theorem blockAt_some {a ofs : Nat} {b : Block} (h : blockAt a = some (b, ofs)) : a = b.base + ofs ∧ ofs < b.size := by
  unfold blockAt at h
  split at h
  · cases h
    simp only [Block.base, Block.size]
    omega
  · obtain ⟨c, hc, he⟩ := Option.map_eq_some_iff.mp h
    cases he
    have hp := List.find?_some hc
    simp only [Bool.and_eq_true, decide_eq_true_eq] at hp
    have hm := List.mem_of_find?_eq_some hc
    rcases b.lies with ⟨n, rfl⟩ | ⟨-, hs, -, -, -⟩
    · exact absurd hm (by simp [Block.fixedList])
    · omega

/-- An address of a block lies in the block's part, or is its OWNLVL. -/
theorem blockAt_part {a ofs : Nat} {b : Block} (h : blockAt a = some (b, ofs)) :
    partOfAddr a = if ofs = 4 then .rOwn else b.part := by
  have h' := blockAt_some h
  split
  · exact Block.own_at (b := b) (by omega)
  · exact Block.part_at (b := b) (by omega) (by omega) (by omega)

/-- Registers of a block but OWNLVL, back to their reset values. -/
theorem frame_clear {b : Block} {lo hi : Nat} (hb : Part.sub [b.part] e = true) (hl : 5 ≤ lo) (hh : hi ≤ b.size) :
    Frame e s { s with regs := Store.clear ((b.base + lo) * 32) ((b.base + hi) * 32) s.regs } := by
  refine frame_regs (fun w => Store.wf_clear _ _ w) fun k hk => ?_
  rw [Store.get_clear, if_neg]
  rintro ⟨h1, h2⟩
  apply hk
  rw [show partOfKey k = b.part from Block.part_at (by omega) (by omega) (by omega)]
  exact Part.mem_of_sub hb (List.mem_singleton.mpr rfl)

/-- As `frame_clear`, with OWNLVL. -/
theorem frame_clearOwn {b : Block} {lo hi : Nat} (hb : Part.sub [.rOwn, b.part] e = true) (hh : hi ≤ b.size) :
    Frame e s { s with regs := Store.clear ((b.base + lo) * 32) ((b.base + hi) * 32) s.regs } := by
  refine frame_regs (fun w => Store.wf_clear _ _ w) fun k hk => ?_
  rw [Store.get_clear, if_neg]
  rintro ⟨h1, h2⟩
  apply hk
  by_cases h4 : k / 32 = b.base + 4
  · rw [show partOfKey k = .rOwn from Block.own_at h4]
    exact Part.mem_of_sub hb (by simp)
  · rw [show partOfKey k = b.part from Block.part_at (by omega) (by omega) h4]
    exact Part.mem_of_sub hb (by simp)

/-- Every part but the queue of commands. -/
def Part.most : List Part := [.rSysctl, .rPwr, .rClk, .rHarv, .rMan, .rEvr, .rMemctl, .rLogs, .rTide, .rTp, .rRtc, .rUart, .rI2ct, .rSpi, .rLgt,
  .rAdc, .rTouch, .rCrypto, .rGpio, .rDma, .rLife, .rTest, .rGnss, .rFront, .rPlan, .rLookout, .rBerth, .rSillage, .rMeasq, .rBitlog,
  .rOwn, .rQuay, .rOther,
  .free, .mem, .chk, .runs, .wbacks, .busData, .app, .sys, .console, .manApp, .manSys, .tide, .tp, .tt, .rtc, .logs, .crypto,
  .power, .harv, .clk, .life, .gnss, .pads, .lgt, .uarts, .i2ct, .spis, .dma, .adc, .touch, .memTest, .mems]

theorem Part.mem_most {p : Part} (h : p ≠ .pending) : p ∈ Part.most := by
  cases p <;> first | exact absurd rfl h | decide

theorem partOfKey_ne_pending (k : Nat) : partOfKey k ≠ .pending := by
  unfold partOfKey partOfAddr
  have hl : ∀ (l : List Part) i, l.all (· != .pending) = true → l.getD i .rOther ≠ .pending := by
    intro l i hl
    rw [List.getD_eq_getElem?_getD]
    cases hi : l[i]? with
    | none => decide
    | some p =>
      have := List.all_eq_true.mp hl p (List.mem_of_getElem? hi)
      simpa using this
  simp only
  repeat' split
  all_goals first | decide | exact hl _ _ rfl

/-- What keeps the canonical form and the queue has the frame of all other parts. -/
theorem Frame.of_most {s t : State} (hw : s.Wf → t.Wf) (hp : t.pending = s.pending) : Frame Part.most s t := by
  refine ⟨hw, fun k hk => absurd (Part.mem_most (partOfKey_ne_pending k)) hk, fun p hn => ?_⟩
  by_cases h : p = .pending
  · subst h; exact hp
  · exact absurd (Part.mem_most h) hn

theorem Block.sub_blocks {b : Block} : Part.sub [b.part] (Part.most.take 30) = true := by
  cases b with
  | berth n => exact (rfl : Part.sub [.rBerth] (Part.most.take 30) = true)
  | _ => rfl

theorem Frame.iteFst {α : Type} {c : Prop} [Decidable c] {a b : State × α} (ha : Frame e s a.1) (hb : Frame e s b.1) :
    Frame e s (if c then a else b).1 := by
  split
  · exact ha
  · exact hb


end Sys2Proof.Machine
end

