-- ==== Sys2Proof/Laws/FrameSets.lean ====
section
/-! SUPPORT. The frames of updates of several fields of the state at once. -/

namespace Sys2Proof.Machine

variable {s : State}

theorem State.set_adc_touch_frame {v0 v1 : _} :
    Frame [.adc, .touch] s { s with adc := v0, touch := v1 } := by
  refine ⟨id, fun _ _ => rfl, fun p hp => ?_⟩
  cases p <;> first | exact trivial | rfl | exact absurd (by decide) hp

theorem State.set_uarts_i2ct_spis_dma_frame {v0 v1 v2 v3 : _} :
    Frame [.uarts, .i2ct, .spis, .dma] s { s with uarts := v0, i2ct := v1, spis := v2, dma := v3 } := by
  refine ⟨id, fun _ _ => rfl, fun p hp => ?_⟩
  cases p <;> first | exact trivial | rfl | exact absurd (by decide) hp

theorem State.set_app_sys_frame {v0 v1 : _} :
    Frame [.app, .sys] s { s with app := v0, sys := v1 } := by
  refine ⟨id, fun _ _ => rfl, fun p hp => ?_⟩
  cases p <;> first | exact trivial | rfl | exact absurd (by decide) hp

theorem State.set_console_i2ct_frame {v0 v1 : _} :
    Frame [.console, .i2ct] s { s with console := v0, i2ct := v1 } := by
  refine ⟨id, fun _ _ => rfl, fun p hp => ?_⟩
  cases p <;> first | exact trivial | rfl | exact absurd (by decide) hp

theorem State.set_app_power_frame {v0 v1 : _} :
    Frame [.app, .power] s { s with app := v0, power := v1 } := by
  refine ⟨id, fun _ _ => rfl, fun p hp => ?_⟩
  cases p <;> first | exact trivial | rfl | exact absurd (by decide) hp

theorem State.set_power_life_pads_frame {v0 v1 v2 : _} :
    Frame [.power, .life, .pads] s { s with power := v0, life := v1, pads := v2 } := by
  refine ⟨id, fun _ _ => rfl, fun p hp => ?_⟩
  cases p <;> first | exact trivial | rfl | exact absurd (by decide) hp

end Sys2Proof.Machine
end

