-- ==== Sys2Proof/Laws/Parts.lean ====
section
/-! SUPPORT. The part of the state in which each written register field lies. -/

namespace Sys2Proof.Machine

theorem F.SYSCTL_OWN_STAT_BLOCK_part : F.SYSCTL_OWN_STAT_BLOCK.part = .rSysctl := of_decide_eq_true rfl
theorem F.SYSCTL_OWN_STAT_RESULT_part : F.SYSCTL_OWN_STAT_RESULT.part = .rSysctl := of_decide_eq_true rfl
theorem F.SYSCTL_RCAUSE_LAST_part : F.SYSCTL_RCAUSE_LAST.part = .rSysctl := of_decide_eq_true rfl
theorem F.SYSCTL_RCAUSE_STATE_part : F.SYSCTL_RCAUSE_STATE.part = .rSysctl := of_decide_eq_true rfl
theorem F.SYSCTL_RCAUSE_SEEN_part : F.SYSCTL_RCAUSE_SEEN.part = .rSysctl := of_decide_eq_true rfl
theorem F.SYSCTL_WDTA_TIMEOUT_part : F.SYSCTL_WDTA_TIMEOUT.part = .rSysctl := of_decide_eq_true rfl
theorem F.SYSCTL_WDTA_EN_part : F.SYSCTL_WDTA_EN.part = .rSysctl := of_decide_eq_true rfl
theorem F.GNSS_MODE_MODE_part : F.GNSS_MODE_MODE.part = .rGnss := of_decide_eq_true rfl
theorem F.GNSS_MODE_MODE_PEND_part : F.GNSS_MODE_MODE_PEND.part = .rGnss := of_decide_eq_true rfl
theorem F.GNSS_MODE_ACT_MODE_part : F.GNSS_MODE_ACT_MODE.part = .rGnss := of_decide_eq_true rfl
theorem F.GNSS_MODE_STRAP_part : F.GNSS_MODE_STRAP.part = .rGnss := of_decide_eq_true rfl
theorem F.GNSS_BURST_PERIOD_part : F.GNSS_BURST_PERIOD.part = .rGnss := of_decide_eq_true rfl
theorem F.GNSS_BURST_WINDOW_part : F.GNSS_BURST_WINDOW.part = .rGnss := of_decide_eq_true rfl
theorem F.GNSS_STAT_USED_part : F.GNSS_STAT_USED.part = .rGnss := of_decide_eq_true rfl
theorem F.GNSS_STAT_FIX_part : F.GNSS_STAT_FIX.part = .rGnss := of_decide_eq_true rfl
theorem F.GNSS_TOFS_OFS_part {i : Nat} : (F.GNSS_TOFS_OFS i).part = .rGnss :=
  part_rGnss (by simp only [F.GNSS_TOFS_OFS]; omega) (by simp only [F.GNSS_TOFS_OFS]; omega) (by simp only [F.GNSS_TOFS_OFS]; omega) (of_decide_eq_true rfl)
theorem F.GNSS_TOFS_SRC_part {i : Nat} : (F.GNSS_TOFS_SRC i).part = .rGnss :=
  part_rGnss (by simp only [F.GNSS_TOFS_SRC]; omega) (by simp only [F.GNSS_TOFS_SRC]; omega) (by simp only [F.GNSS_TOFS_SRC]; omega) (of_decide_eq_true rfl)
theorem F.GNSS_TOFS_NSAT_part {i : Nat} : (F.GNSS_TOFS_NSAT i).part = .rGnss :=
  part_rGnss (by simp only [F.GNSS_TOFS_NSAT]; omega) (by simp only [F.GNSS_TOFS_NSAT]; omega) (by simp only [F.GNSS_TOFS_NSAT]; omega) (of_decide_eq_true rfl)
theorem F.GNSS_OSNMA_KEY_OK_part : F.GNSS_OSNMA_KEY_OK.part = .rGnss := of_decide_eq_true rfl
theorem F.GNSS_OSNMA_CHAIN_OK_part : F.GNSS_OSNMA_CHAIN_OK.part = .rGnss := of_decide_eq_true rfl
theorem F.GNSS_OSNMA_TIME_OK_part : F.GNSS_OSNMA_TIME_OK.part = .rGnss := of_decide_eq_true rfl
theorem F.GNSS_OSNMA_KEY_P521_part : F.GNSS_OSNMA_KEY_P521.part = .rGnss := of_decide_eq_true rfl
theorem F.GNSS_OSNMA_NAUTH_part : F.GNSS_OSNMA_NAUTH.part = .rGnss := of_decide_eq_true rfl
theorem F.GNSS_CONS_NEXCL_part : F.GNSS_CONS_NEXCL.part = .rGnss := of_decide_eq_true rfl
theorem F.GNSS_CONSLIM_PR_LIM_part : F.GNSS_CONSLIM_PR_LIM.part = .rGnss := of_decide_eq_true rfl
theorem F.GNSS_EXCL_BERTH_part {i : Nat} : (F.GNSS_EXCL_BERTH i).part = .rGnss :=
  part_rGnss (by simp only [F.GNSS_EXCL_BERTH]; omega) (by simp only [F.GNSS_EXCL_BERTH]; omega) (by simp only [F.GNSS_EXCL_BERTH]; omega) (of_decide_eq_true rfl)
theorem F.FRONT_CFG_L1_EN_part : F.FRONT_CFG_L1_EN.part = .rFront := of_decide_eq_true rfl
theorem F.FRONT_CFG_L5_EN_part : F.FRONT_CFG_L5_EN.part = .rFront := of_decide_eq_true rfl
theorem F.FRONT_CFG_BIAS_SHORT_part : F.FRONT_CFG_BIAS_SHORT.part = .rFront := of_decide_eq_true rfl
theorem F.FRONT_CFG_SUB_EN_part : F.FRONT_CFG_SUB_EN.part = .rFront := of_decide_eq_true rfl
theorem F.FRONT_AGC_GAIN_part {i : Nat} : (F.FRONT_AGC_GAIN i).part = .rFront :=
  part_rFront (by simp only [F.FRONT_AGC_GAIN]; omega) (by simp only [F.FRONT_AGC_GAIN]; omega) (by simp only [F.FRONT_AGC_GAIN]; omega) (of_decide_eq_true rfl)
theorem F.FRONT_AGC_REF_part {i : Nat} : (F.FRONT_AGC_REF i).part = .rFront :=
  part_rFront (by simp only [F.FRONT_AGC_REF]; omega) (by simp only [F.FRONT_AGC_REF]; omega) (by simp only [F.FRONT_AGC_REF]; omega) (of_decide_eq_true rfl)
theorem F.FRONT_AGC_OCC_part {i : Nat} : (F.FRONT_AGC_OCC i).part = .rFront :=
  part_rFront (by simp only [F.FRONT_AGC_OCC]; omega) (by simp only [F.FRONT_AGC_OCC]; omega) (by simp only [F.FRONT_AGC_OCC]; omega) (of_decide_eq_true rfl)
theorem F.FRONT_AGC_OVLD_part {i : Nat} : (F.FRONT_AGC_OVLD i).part = .rFront :=
  part_rFront (by simp only [F.FRONT_AGC_OVLD]; omega) (by simp only [F.FRONT_AGC_OVLD]; omega) (by simp only [F.FRONT_AGC_OVLD]; omega) (of_decide_eq_true rfl)
theorem F.FRONT_JAM_J_part {i : Nat} : (F.FRONT_JAM_J i).part = .rFront :=
  part_rFront (by simp only [F.FRONT_JAM_J]; omega) (by simp only [F.FRONT_JAM_J]; omega) (by simp only [F.FRONT_JAM_J]; omega) (of_decide_eq_true rfl)
theorem F.FRONT_JAM_DEP_part {i : Nat} : (F.FRONT_JAM_DEP i).part = .rFront :=
  part_rFront (by simp only [F.FRONT_JAM_DEP]; omega) (by simp only [F.FRONT_JAM_DEP]; omega) (by simp only [F.FRONT_JAM_DEP]; omega) (of_decide_eq_true rfl)
theorem F.FRONT_JAM_NACT_part {i : Nat} : (F.FRONT_JAM_NACT i).part = .rFront :=
  part_rFront (by simp only [F.FRONT_JAM_NACT]; omega) (by simp only [F.FRONT_JAM_NACT]; omega) (by simp only [F.FRONT_JAM_NACT]; omega) (of_decide_eq_true rfl)
theorem F.FRONT_JAM_FLAT_part {i : Nat} : (F.FRONT_JAM_FLAT i).part = .rFront :=
  part_rFront (by simp only [F.FRONT_JAM_FLAT]; omega) (by simp only [F.FRONT_JAM_FLAT]; omega) (by simp only [F.FRONT_JAM_FLAT]; omega) (of_decide_eq_true rfl)
theorem F.FRONT_JAM_ABOVE_part {i : Nat} : (F.FRONT_JAM_ABOVE i).part = .rFront :=
  part_rFront (by simp only [F.FRONT_JAM_ABOVE]; omega) (by simp only [F.FRONT_JAM_ABOVE]; omega) (by simp only [F.FRONT_JAM_ABOVE]; omega) (of_decide_eq_true rfl)
theorem F.FRONT_NOTCH_CENTRE_part {i j : Nat} : (F.FRONT_NOTCH_CENTRE i j).part = .rFront :=
  part_rFront (by simp only [F.FRONT_NOTCH_CENTRE]; omega) (by simp only [F.FRONT_NOTCH_CENTRE]; omega) (by simp only [F.FRONT_NOTCH_CENTRE]; omega) (of_decide_eq_true rfl)
theorem F.FRONT_NOTCH_WIDTH_part {i j : Nat} : (F.FRONT_NOTCH_WIDTH i j).part = .rFront :=
  part_rFront (by simp only [F.FRONT_NOTCH_WIDTH]; omega) (by simp only [F.FRONT_NOTCH_WIDTH]; omega) (by simp only [F.FRONT_NOTCH_WIDTH]; omega) (of_decide_eq_true rfl)
theorem F.FRONT_NOTCH_STATE_part {i j : Nat} : (F.FRONT_NOTCH_STATE i j).part = .rFront :=
  part_rFront (by simp only [F.FRONT_NOTCH_STATE]; omega) (by simp only [F.FRONT_NOTCH_STATE]; omega) (by simp only [F.FRONT_NOTCH_STATE]; omega) (of_decide_eq_true rfl)
theorem F.FRONT_NOTCH_FIX_part {i j : Nat} : (F.FRONT_NOTCH_FIX i j).part = .rFront :=
  part_rFront (by simp only [F.FRONT_NOTCH_FIX]; omega) (by simp only [F.FRONT_NOTCH_FIX]; omega) (by simp only [F.FRONT_NOTCH_FIX]; omega) (of_decide_eq_true rfl)
theorem F.PLAN_CFG_SYS_EN_part : F.PLAN_CFG_SYS_EN.part = .rPlan := of_decide_eq_true rfl
theorem F.PLAN_CFG_ELEV_part : F.PLAN_CFG_ELEV.part = .rPlan := of_decide_eq_true rfl
theorem F.PLAN_STAT_DROPPED_part : F.PLAN_STAT_DROPPED.part = .rPlan := of_decide_eq_true rfl
theorem F.PLAN_SLOT_SV_SYS_part {i : Nat} : (F.PLAN_SLOT_SV_SYS i).part = .rPlan :=
  part_rPlan (by simp only [F.PLAN_SLOT_SV_SYS]; omega) (by simp only [F.PLAN_SLOT_SV_SYS]; omega) (by simp only [F.PLAN_SLOT_SV_SYS]; omega) (of_decide_eq_true rfl)
theorem F.PLAN_SLOT_SV_SVN_part {i : Nat} : (F.PLAN_SLOT_SV_SVN i).part = .rPlan :=
  part_rPlan (by simp only [F.PLAN_SLOT_SV_SVN]; omega) (by simp only [F.PLAN_SLOT_SV_SVN]; omega) (by simp only [F.PLAN_SLOT_SV_SVN]; omega) (of_decide_eq_true rfl)
theorem F.PLAN_SLOT_SV_GLO_K_part {i : Nat} : (F.PLAN_SLOT_SV_GLO_K i).part = .rPlan :=
  part_rPlan (by simp only [F.PLAN_SLOT_SV_GLO_K]; omega) (by simp only [F.PLAN_SLOT_SV_GLO_K]; omega) (by simp only [F.PLAN_SLOT_SV_GLO_K]; omega) (of_decide_eq_true rfl)
theorem F.PLAN_SLOT_SV_EL_part {i : Nat} : (F.PLAN_SLOT_SV_EL i).part = .rPlan :=
  part_rPlan (by simp only [F.PLAN_SLOT_SV_EL]; omega) (by simp only [F.PLAN_SLOT_SV_EL]; omega) (by simp only [F.PLAN_SLOT_SV_EL]; omega) (of_decide_eq_true rfl)
theorem F.PLAN_SLOT_SV_AZ_part {i : Nat} : (F.PLAN_SLOT_SV_AZ i).part = .rPlan :=
  part_rPlan (by simp only [F.PLAN_SLOT_SV_AZ]; omega) (by simp only [F.PLAN_SLOT_SV_AZ]; omega) (by simp only [F.PLAN_SLOT_SV_AZ]; omega) (of_decide_eq_true rfl)
theorem F.PLAN_SLOT_A_SIG_part {i j : Nat} : (F.PLAN_SLOT_A_SIG i j).part = .rPlan :=
  part_rPlan (by simp only [F.PLAN_SLOT_A_SIG]; omega) (by simp only [F.PLAN_SLOT_A_SIG]; omega) (by simp only [F.PLAN_SLOT_A_SIG]; omega) (of_decide_eq_true rfl)
theorem F.PLAN_SLOT_A_BERTH_part {i j : Nat} : (F.PLAN_SLOT_A_BERTH i j).part = .rPlan :=
  part_rPlan (by simp only [F.PLAN_SLOT_A_BERTH]; omega) (by simp only [F.PLAN_SLOT_A_BERTH]; omega) (by simp only [F.PLAN_SLOT_A_BERTH]; omega) (of_decide_eq_true rfl)
theorem F.PLAN_SLOT_A_STATE_part {i j : Nat} : (F.PLAN_SLOT_A_STATE i j).part = .rPlan :=
  part_rPlan (by simp only [F.PLAN_SLOT_A_STATE]; omega) (by simp only [F.PLAN_SLOT_A_STATE]; omega) (by simp only [F.PLAN_SLOT_A_STATE]; omega) (of_decide_eq_true rfl)
theorem F.LOOKOUT_STAT_BUSY_part : F.LOOKOUT_STAT_BUSY.part = .rLookout := of_decide_eq_true rfl
theorem F.LOOKOUT_STAT_QUEUED_part : F.LOOKOUT_STAT_QUEUED.part = .rLookout := of_decide_eq_true rfl
theorem F.LOOKOUT_CNT_HANDOFF_part : F.LOOKOUT_CNT_HANDOFF.part = .rLookout := of_decide_eq_true rfl
theorem F.LOOKOUT_CNT_REFUSED_part : F.LOOKOUT_CNT_REFUSED.part = .rLookout := of_decide_eq_true rfl
theorem F.LOOKOUT_CNT_DROPPED_part : F.LOOKOUT_CNT_DROPPED.part = .rLookout := of_decide_eq_true rfl
theorem F.LOOKOUT_SNAP_MS_part : F.LOOKOUT_SNAP_MS.part = .rLookout := of_decide_eq_true rfl
theorem F.LOOKOUT_SNAP_BUSY_part : F.LOOKOUT_SNAP_BUSY.part = .rLookout := of_decide_eq_true rfl
theorem F.LOOKOUT_SNAP_VALID_part : F.LOOKOUT_SNAP_VALID.part = .rLookout := of_decide_eq_true rfl
theorem F.LOOKOUT_LANE_SIG_SIG_part {i : Nat} : (F.LOOKOUT_LANE_SIG_SIG i).part = .rLookout :=
  part_rLookout (by simp only [F.LOOKOUT_LANE_SIG_SIG]; omega) (by simp only [F.LOOKOUT_LANE_SIG_SIG]; omega) (by simp only [F.LOOKOUT_LANE_SIG_SIG]; omega) (of_decide_eq_true rfl)
theorem F.LOOKOUT_LANE_SIG_SVN_part {i : Nat} : (F.LOOKOUT_LANE_SIG_SVN i).part = .rLookout :=
  part_rLookout (by simp only [F.LOOKOUT_LANE_SIG_SVN]; omega) (by simp only [F.LOOKOUT_LANE_SIG_SVN]; omega) (by simp only [F.LOOKOUT_LANE_SIG_SVN]; omega) (of_decide_eq_true rfl)
theorem F.LOOKOUT_LANE_SIG_GLO_K_part {i : Nat} : (F.LOOKOUT_LANE_SIG_GLO_K i).part = .rLookout :=
  part_rLookout (by simp only [F.LOOKOUT_LANE_SIG_GLO_K]; omega) (by simp only [F.LOOKOUT_LANE_SIG_GLO_K]; omega) (by simp only [F.LOOKOUT_LANE_SIG_GLO_K]; omega) (of_decide_eq_true rfl)
theorem F.LOOKOUT_LANE_SIG_COH_part {i : Nat} : (F.LOOKOUT_LANE_SIG_COH i).part = .rLookout :=
  part_rLookout (by simp only [F.LOOKOUT_LANE_SIG_COH]; omega) (by simp only [F.LOOKOUT_LANE_SIG_COH]; omega) (by simp only [F.LOOKOUT_LANE_SIG_COH]; omega) (of_decide_eq_true rfl)
theorem F.LOOKOUT_LANE_SIG_NONCOH_part {i : Nat} : (F.LOOKOUT_LANE_SIG_NONCOH i).part = .rLookout :=
  part_rLookout (by simp only [F.LOOKOUT_LANE_SIG_NONCOH]; omega) (by simp only [F.LOOKOUT_LANE_SIG_NONCOH]; omega) (by simp only [F.LOOKOUT_LANE_SIG_NONCOH]; omega) (of_decide_eq_true rfl)
theorem F.LOOKOUT_LANE_DOP_CENTRE_part {i : Nat} : (F.LOOKOUT_LANE_DOP_CENTRE i).part = .rLookout :=
  part_rLookout (by simp only [F.LOOKOUT_LANE_DOP_CENTRE]; omega) (by simp only [F.LOOKOUT_LANE_DOP_CENTRE]; omega) (by simp only [F.LOOKOUT_LANE_DOP_CENTRE]; omega) (of_decide_eq_true rfl)
theorem F.LOOKOUT_LANE_DOP_STEP_part {i : Nat} : (F.LOOKOUT_LANE_DOP_STEP i).part = .rLookout :=
  part_rLookout (by simp only [F.LOOKOUT_LANE_DOP_STEP]; omega) (by simp only [F.LOOKOUT_LANE_DOP_STEP]; omega) (by simp only [F.LOOKOUT_LANE_DOP_STEP]; omega) (of_decide_eq_true rfl)
theorem F.LOOKOUT_LANE_DOP_BINS_part {i : Nat} : (F.LOOKOUT_LANE_DOP_BINS i).part = .rLookout :=
  part_rLookout (by simp only [F.LOOKOUT_LANE_DOP_BINS]; omega) (by simp only [F.LOOKOUT_LANE_DOP_BINS]; omega) (by simp only [F.LOOKOUT_LANE_DOP_BINS]; omega) (of_decide_eq_true rfl)
theorem F.LOOKOUT_LANE_CODE_PHASE_part {i : Nat} : (F.LOOKOUT_LANE_CODE_PHASE i).part = .rLookout :=
  part_rLookout (by simp only [F.LOOKOUT_LANE_CODE_PHASE]; omega) (by simp only [F.LOOKOUT_LANE_CODE_PHASE]; omega) (by simp only [F.LOOKOUT_LANE_CODE_PHASE]; omega) (of_decide_eq_true rfl)
theorem F.LOOKOUT_LANE_CODE_SEG_part {i : Nat} : (F.LOOKOUT_LANE_CODE_SEG i).part = .rLookout :=
  part_rLookout (by simp only [F.LOOKOUT_LANE_CODE_SEG]; omega) (by simp only [F.LOOKOUT_LANE_CODE_SEG]; omega) (by simp only [F.LOOKOUT_LANE_CODE_SEG]; omega) (of_decide_eq_true rfl)
theorem F.LOOKOUT_LANE_PEAK_DOPPLER_part {i : Nat} : (F.LOOKOUT_LANE_PEAK_DOPPLER i).part = .rLookout :=
  part_rLookout (by simp only [F.LOOKOUT_LANE_PEAK_DOPPLER]; omega) (by simp only [F.LOOKOUT_LANE_PEAK_DOPPLER]; omega) (by simp only [F.LOOKOUT_LANE_PEAK_DOPPLER]; omega) (of_decide_eq_true rfl)
theorem F.LOOKOUT_LANE_PEAK_RATIO_part {i : Nat} : (F.LOOKOUT_LANE_PEAK_RATIO i).part = .rLookout :=
  part_rLookout (by simp only [F.LOOKOUT_LANE_PEAK_RATIO]; omega) (by simp only [F.LOOKOUT_LANE_PEAK_RATIO]; omega) (by simp only [F.LOOKOUT_LANE_PEAK_RATIO]; omega) (of_decide_eq_true rfl)
theorem F.LOOKOUT_LANE_PEAK_LTHRESH_part {i : Nat} : (F.LOOKOUT_LANE_PEAK_LTHRESH i).part = .rLookout :=
  part_rLookout (by simp only [F.LOOKOUT_LANE_PEAK_LTHRESH]; omega) (by simp only [F.LOOKOUT_LANE_PEAK_LTHRESH]; omega) (by simp only [F.LOOKOUT_LANE_PEAK_LTHRESH]; omega) (of_decide_eq_true rfl)
theorem F.LOOKOUT_LANE_CMD_SRC_part {i : Nat} : (F.LOOKOUT_LANE_CMD_SRC i).part = .rLookout :=
  part_rLookout (by simp only [F.LOOKOUT_LANE_CMD_SRC]; omega) (by simp only [F.LOOKOUT_LANE_CMD_SRC]; omega) (by simp only [F.LOOKOUT_LANE_CMD_SRC]; omega) (of_decide_eq_true rfl)
theorem F.LOOKOUT_LANE_CMD_HANDOFF_part {i : Nat} : (F.LOOKOUT_LANE_CMD_HANDOFF i).part = .rLookout :=
  part_rLookout (by simp only [F.LOOKOUT_LANE_CMD_HANDOFF]; omega) (by simp only [F.LOOKOUT_LANE_CMD_HANDOFF]; omega) (by simp only [F.LOOKOUT_LANE_CMD_HANDOFF]; omega) (of_decide_eq_true rfl)
theorem F.LOOKOUT_LANE_CMD_BERTH_part {i : Nat} : (F.LOOKOUT_LANE_CMD_BERTH i).part = .rLookout :=
  part_rLookout (by simp only [F.LOOKOUT_LANE_CMD_BERTH]; omega) (by simp only [F.LOOKOUT_LANE_CMD_BERTH]; omega) (by simp only [F.LOOKOUT_LANE_CMD_BERTH]; omega) (of_decide_eq_true rfl)
theorem F.LOOKOUT_LANE_CMD_STATE_part {i : Nat} : (F.LOOKOUT_LANE_CMD_STATE i).part = .rLookout :=
  part_rLookout (by simp only [F.LOOKOUT_LANE_CMD_STATE]; omega) (by simp only [F.LOOKOUT_LANE_CMD_STATE]; omega) (by simp only [F.LOOKOUT_LANE_CMD_STATE]; omega) (of_decide_eq_true rfl)
theorem F.LOOKOUT_LANE_CMD_ERR_part {i : Nat} : (F.LOOKOUT_LANE_CMD_ERR i).part = .rLookout :=
  part_rLookout (by simp only [F.LOOKOUT_LANE_CMD_ERR]; omega) (by simp only [F.LOOKOUT_LANE_CMD_ERR]; omega) (by simp only [F.LOOKOUT_LANE_CMD_ERR]; omega) (of_decide_eq_true rfl)
theorem F.BERTH_CFG_SIG_part {n : Nat} : (F.BERTH_CFG_SIG n).part = .rBerth :=
  part_rBerth (by simp only [F.BERTH_CFG_SIG]; omega) (by simp only [F.BERTH_CFG_SIG]; omega) (by simp only [F.BERTH_CFG_SIG]; omega) (of_decide_eq_true rfl)
theorem F.BERTH_CFG_SVN_part {n : Nat} : (F.BERTH_CFG_SVN n).part = .rBerth :=
  part_rBerth (by simp only [F.BERTH_CFG_SVN]; omega) (by simp only [F.BERTH_CFG_SVN]; omega) (by simp only [F.BERTH_CFG_SVN]; omega) (of_decide_eq_true rfl)
theorem F.BERTH_CFG_GLO_K_part {n : Nat} : (F.BERTH_CFG_GLO_K n).part = .rBerth :=
  part_rBerth (by simp only [F.BERTH_CFG_GLO_K]; omega) (by simp only [F.BERTH_CFG_GLO_K]; omega) (by simp only [F.BERTH_CFG_GLO_K]; omega) (of_decide_eq_true rfl)
theorem F.BERTH_CFG_EN_part {n : Nat} : (F.BERTH_CFG_EN n).part = .rBerth :=
  part_rBerth (by simp only [F.BERTH_CFG_EN]; omega) (by simp only [F.BERTH_CFG_EN]; omega) (by simp only [F.BERTH_CFG_EN]; omega) (of_decide_eq_true rfl)
theorem F.BERTH_CFG_PAIR_part {n : Nat} : (F.BERTH_CFG_PAIR n).part = .rBerth :=
  part_rBerth (by simp only [F.BERTH_CFG_PAIR]; omega) (by simp only [F.BERTH_CFG_PAIR]; omega) (by simp only [F.BERTH_CFG_PAIR]; omega) (of_decide_eq_true rfl)
theorem F.BERTH_CFG_BOC_part {n : Nat} : (F.BERTH_CFG_BOC n).part = .rBerth :=
  part_rBerth (by simp only [F.BERTH_CFG_BOC]; omega) (by simp only [F.BERTH_CFG_BOC]; omega) (by simp only [F.BERTH_CFG_BOC]; omega) (of_decide_eq_true rfl)
theorem F.BERTH_CFG_DUMP_EV_part {n : Nat} : (F.BERTH_CFG_DUMP_EV n).part = .rBerth :=
  part_rBerth (by simp only [F.BERTH_CFG_DUMP_EV]; omega) (by simp only [F.BERTH_CFG_DUMP_EV]; omega) (by simp only [F.BERTH_CFG_DUMP_EV]; omega) (of_decide_eq_true rfl)
theorem F.BERTH_CFG_LOSS_EV_part {n : Nat} : (F.BERTH_CFG_LOSS_EV n).part = .rBerth :=
  part_rBerth (by simp only [F.BERTH_CFG_LOSS_EV]; omega) (by simp only [F.BERTH_CFG_LOSS_EV]; omega) (by simp only [F.BERTH_CFG_LOSS_EV]; omega) (of_decide_eq_true rfl)
theorem F.BERTH_ARMS_EL_part {n : Nat} : (F.BERTH_ARMS_EL n).part = .rBerth :=
  part_rBerth (by simp only [F.BERTH_ARMS_EL]; omega) (by simp only [F.BERTH_ARMS_EL]; omega) (by simp only [F.BERTH_ARMS_EL]; omega) (of_decide_eq_true rfl)
theorem F.BERTH_ARMS_VEVL_part {n : Nat} : (F.BERTH_ARMS_VEVL n).part = .rBerth :=
  part_rBerth (by simp only [F.BERTH_ARMS_VEVL]; omega) (by simp only [F.BERTH_ARMS_VEVL]; omega) (by simp only [F.BERTH_ARMS_VEVL]; omega) (of_decide_eq_true rfl)
theorem F.BERTH_INTEG_COH_part {n : Nat} : (F.BERTH_INTEG_COH n).part = .rBerth :=
  part_rBerth (by simp only [F.BERTH_INTEG_COH]; omega) (by simp only [F.BERTH_INTEG_COH]; omega) (by simp only [F.BERTH_INTEG_COH]; omega) (of_decide_eq_true rfl)
theorem F.BERTH_INTEG_WIPE_part {n : Nat} : (F.BERTH_INTEG_WIPE n).part = .rBerth :=
  part_rBerth (by simp only [F.BERTH_INTEG_WIPE]; omega) (by simp only [F.BERTH_INTEG_WIPE]; omega) (by simp only [F.BERTH_INTEG_WIPE]; omega) (of_decide_eq_true rfl)
theorem F.BERTH_INTEG_NWIN_part {n : Nat} : (F.BERTH_INTEG_NWIN n).part = .rBerth :=
  part_rBerth (by simp only [F.BERTH_INTEG_NWIN]; omega) (by simp only [F.BERTH_INTEG_NWIN]; omega) (by simp only [F.BERTH_INTEG_NWIN]; omega) (of_decide_eq_true rfl)
theorem F.BERTH_LOOP_PLL_BW_part {n : Nat} : (F.BERTH_LOOP_PLL_BW n).part = .rBerth :=
  part_rBerth (by simp only [F.BERTH_LOOP_PLL_BW]; omega) (by simp only [F.BERTH_LOOP_PLL_BW]; omega) (by simp only [F.BERTH_LOOP_PLL_BW]; omega) (of_decide_eq_true rfl)
theorem F.BERTH_LOOP_PLL_OPEN_part {n : Nat} : (F.BERTH_LOOP_PLL_OPEN n).part = .rBerth :=
  part_rBerth (by simp only [F.BERTH_LOOP_PLL_OPEN]; omega) (by simp only [F.BERTH_LOOP_PLL_OPEN]; omega) (by simp only [F.BERTH_LOOP_PLL_OPEN]; omega) (of_decide_eq_true rfl)
theorem F.BERTH_LOOP_FLL_BW_part {n : Nat} : (F.BERTH_LOOP_FLL_BW n).part = .rBerth :=
  part_rBerth (by simp only [F.BERTH_LOOP_FLL_BW]; omega) (by simp only [F.BERTH_LOOP_FLL_BW]; omega) (by simp only [F.BERTH_LOOP_FLL_BW]; omega) (of_decide_eq_true rfl)
theorem F.BERTH_LOOP_FLL_OPEN_part {n : Nat} : (F.BERTH_LOOP_FLL_OPEN n).part = .rBerth :=
  part_rBerth (by simp only [F.BERTH_LOOP_FLL_OPEN]; omega) (by simp only [F.BERTH_LOOP_FLL_OPEN]; omega) (by simp only [F.BERTH_LOOP_FLL_OPEN]; omega) (of_decide_eq_true rfl)
theorem F.BERTH_LOOP_DLL_BW_part {n : Nat} : (F.BERTH_LOOP_DLL_BW n).part = .rBerth :=
  part_rBerth (by simp only [F.BERTH_LOOP_DLL_BW]; omega) (by simp only [F.BERTH_LOOP_DLL_BW]; omega) (by simp only [F.BERTH_LOOP_DLL_BW]; omega) (of_decide_eq_true rfl)
theorem F.BERTH_LOOP_DLL_OPEN_part {n : Nat} : (F.BERTH_LOOP_DLL_OPEN n).part = .rBerth :=
  part_rBerth (by simp only [F.BERTH_LOOP_DLL_OPEN]; omega) (by simp only [F.BERTH_LOOP_DLL_OPEN]; omega) (by simp only [F.BERTH_LOOP_DLL_OPEN]; omega) (of_decide_eq_true rfl)
theorem F.BERTH_LOOP_CAID_part {n : Nat} : (F.BERTH_LOOP_CAID n).part = .rBerth :=
  part_rBerth (by simp only [F.BERTH_LOOP_CAID]; omega) (by simp only [F.BERTH_LOOP_CAID]; omega) (by simp only [F.BERTH_LOOP_CAID]; omega) (of_decide_eq_true rfl)
theorem F.BERTH_LOOP_PLL_ORD_part {n : Nat} : (F.BERTH_LOOP_PLL_ORD n).part = .rBerth :=
  part_rBerth (by simp only [F.BERTH_LOOP_PLL_ORD]; omega) (by simp only [F.BERTH_LOOP_PLL_ORD]; omega) (by simp only [F.BERTH_LOOP_PLL_ORD]; omega) (of_decide_eq_true rfl)
theorem F.BERTH_LOCK_LOCK_THR_part {n : Nat} : (F.BERTH_LOCK_LOCK_THR n).part = .rBerth :=
  part_rBerth (by simp only [F.BERTH_LOCK_LOCK_THR]; omega) (by simp only [F.BERTH_LOCK_LOCK_THR]; omega) (by simp only [F.BERTH_LOCK_LOCK_THR]; omega) (of_decide_eq_true rfl)
theorem F.BERTH_LOCK_PLOCK_THR_part {n : Nat} : (F.BERTH_LOCK_PLOCK_THR n).part = .rBerth :=
  part_rBerth (by simp only [F.BERTH_LOCK_PLOCK_THR]; omega) (by simp only [F.BERTH_LOCK_PLOCK_THR]; omega) (by simp only [F.BERTH_LOCK_PLOCK_THR]; omega) (of_decide_eq_true rfl)
theorem F.BERTH_LOCK_LOSS_MS_part {n : Nat} : (F.BERTH_LOCK_LOSS_MS n).part = .rBerth :=
  part_rBerth (by simp only [F.BERTH_LOCK_LOSS_MS]; omega) (by simp only [F.BERTH_LOCK_LOSS_MS]; omega) (by simp only [F.BERTH_LOCK_LOSS_MS]; omega) (of_decide_eq_true rfl)
theorem F.BERTH_CODE_INC_INC_part {n : Nat} : (F.BERTH_CODE_INC_INC n).part = .rBerth :=
  part_rBerth (by simp only [F.BERTH_CODE_INC_INC]; omega) (by simp only [F.BERTH_CODE_INC_INC]; omega) (by simp only [F.BERTH_CODE_INC_INC]; omega) (of_decide_eq_true rfl)
theorem F.BERTH_CARR_INC_INC_part {n : Nat} : (F.BERTH_CARR_INC_INC n).part = .rBerth :=
  part_rBerth (by simp only [F.BERTH_CARR_INC_INC]; omega) (by simp only [F.BERTH_CARR_INC_INC]; omega) (by simp only [F.BERTH_CARR_INC_INC]; omega) (of_decide_eq_true rfl)
theorem F.BERTH_LOAD_CODE_PEND_part {n : Nat} : (F.BERTH_LOAD_CODE_PEND n).part = .rBerth :=
  part_rBerth (by simp only [F.BERTH_LOAD_CODE_PEND]; omega) (by simp only [F.BERTH_LOAD_CODE_PEND]; omega) (by simp only [F.BERTH_LOAD_CODE_PEND]; omega) (of_decide_eq_true rfl)
theorem F.BERTH_LOAD_CARR_PEND_part {n : Nat} : (F.BERTH_LOAD_CARR_PEND n).part = .rBerth :=
  part_rBerth (by simp only [F.BERTH_LOAD_CARR_PEND]; omega) (by simp only [F.BERTH_LOAD_CARR_PEND]; omega) (by simp only [F.BERTH_LOAD_CARR_PEND]; omega) (of_decide_eq_true rfl)
theorem F.BERTH_LOAD_INC_PEND_part {n : Nat} : (F.BERTH_LOAD_INC_PEND n).part = .rBerth :=
  part_rBerth (by simp only [F.BERTH_LOAD_INC_PEND]; omega) (by simp only [F.BERTH_LOAD_INC_PEND]; omega) (by simp only [F.BERTH_LOAD_INC_PEND]; omega) (of_decide_eq_true rfl)
theorem F.BERTH_LOAD_LATE_part {n : Nat} : (F.BERTH_LOAD_LATE n).part = .rBerth :=
  part_rBerth (by simp only [F.BERTH_LOAD_LATE]; omega) (by simp only [F.BERTH_LOAD_LATE]; omega) (by simp only [F.BERTH_LOAD_LATE]; omega) (of_decide_eq_true rfl)
theorem F.BERTH_STAT_STATE_part {n : Nat} : (F.BERTH_STAT_STATE n).part = .rBerth :=
  part_rBerth (by simp only [F.BERTH_STAT_STATE]; omega) (by simp only [F.BERTH_STAT_STATE]; omega) (by simp only [F.BERTH_STAT_STATE]; omega) (of_decide_eq_true rfl)
theorem F.BERTH_STAT_BOND_part {n : Nat} : (F.BERTH_STAT_BOND n).part = .rBerth :=
  part_rBerth (by simp only [F.BERTH_STAT_BOND]; omega) (by simp only [F.BERTH_STAT_BOND]; omega) (by simp only [F.BERTH_STAT_BOND]; omega) (of_decide_eq_true rfl)
theorem F.BERTH_STAT_PLOCK_part {n : Nat} : (F.BERTH_STAT_PLOCK n).part = .rBerth :=
  part_rBerth (by simp only [F.BERTH_STAT_PLOCK]; omega) (by simp only [F.BERTH_STAT_PLOCK]; omega) (by simp only [F.BERTH_STAT_PLOCK]; omega) (of_decide_eq_true rfl)
theorem F.BERTH_STAT_FLOCK_part {n : Nat} : (F.BERTH_STAT_FLOCK n).part = .rBerth :=
  part_rBerth (by simp only [F.BERTH_STAT_FLOCK]; omega) (by simp only [F.BERTH_STAT_FLOCK]; omega) (by simp only [F.BERTH_STAT_FLOCK]; omega) (of_decide_eq_true rfl)
theorem F.BERTH_STAT_CLOCK_part {n : Nat} : (F.BERTH_STAT_CLOCK n).part = .rBerth :=
  part_rBerth (by simp only [F.BERTH_STAT_CLOCK]; omega) (by simp only [F.BERTH_STAT_CLOCK]; omega) (by simp only [F.BERTH_STAT_CLOCK]; omega) (of_decide_eq_true rfl)
theorem F.BERTH_STAT_HALF_part {n : Nat} : (F.BERTH_STAT_HALF n).part = .rBerth :=
  part_rBerth (by simp only [F.BERTH_STAT_HALF]; omega) (by simp only [F.BERTH_STAT_HALF]; omega) (by simp only [F.BERTH_STAT_HALF]; omega) (of_decide_eq_true rfl)
theorem F.BERTH_STAT_SEC_SYNC_part {n : Nat} : (F.BERTH_STAT_SEC_SYNC n).part = .rBerth :=
  part_rBerth (by simp only [F.BERTH_STAT_SEC_SYNC]; omega) (by simp only [F.BERTH_STAT_SEC_SYNC]; omega) (by simp only [F.BERTH_STAT_SEC_SYNC]; omega) (of_decide_eq_true rfl)
theorem F.BERTH_STAT_BOC_OK_part {n : Nat} : (F.BERTH_STAT_BOC_OK n).part = .rBerth :=
  part_rBerth (by simp only [F.BERTH_STAT_BOC_OK]; omega) (by simp only [F.BERTH_STAT_BOC_OK]; omega) (by simp only [F.BERTH_STAT_BOC_OK]; omega) (of_decide_eq_true rfl)
theorem F.BERTH_STAT_COH_LIM_part {n : Nat} : (F.BERTH_STAT_COH_LIM n).part = .rBerth :=
  part_rBerth (by simp only [F.BERTH_STAT_COH_LIM]; omega) (by simp only [F.BERTH_STAT_COH_LIM]; omega) (by simp only [F.BERTH_STAT_COH_LIM]; omega) (of_decide_eq_true rfl)
theorem F.BERTH_STAT_SIDEJ_part {n : Nat} : (F.BERTH_STAT_SIDEJ n).part = .rBerth :=
  part_rBerth (by simp only [F.BERTH_STAT_SIDEJ]; omega) (by simp only [F.BERTH_STAT_SIDEJ]; omega) (by simp only [F.BERTH_STAT_SIDEJ]; omega) (of_decide_eq_true rfl)
theorem F.BERTH_CN0_CN0_part {n : Nat} : (F.BERTH_CN0_CN0 n).part = .rBerth :=
  part_rBerth (by simp only [F.BERTH_CN0_CN0]; omega) (by simp only [F.BERTH_CN0_CN0]; omega) (by simp only [F.BERTH_CN0_CN0]; omega) (of_decide_eq_true rfl)
theorem F.BERTH_CN0_LOCKT_part {n : Nat} : (F.BERTH_CN0_LOCKT n).part = .rBerth :=
  part_rBerth (by simp only [F.BERTH_CN0_LOCKT]; omega) (by simp only [F.BERTH_CN0_LOCKT]; omega) (by simp only [F.BERTH_CN0_LOCKT]; omega) (of_decide_eq_true rfl)
theorem F.BERTH_DISC_CODE_part {n : Nat} : (F.BERTH_DISC_CODE n).part = .rBerth :=
  part_rBerth (by simp only [F.BERTH_DISC_CODE]; omega) (by simp only [F.BERTH_DISC_CODE]; omega) (by simp only [F.BERTH_DISC_CODE]; omega) (of_decide_eq_true rfl)
theorem F.BERTH_DISC_CARR_part {n : Nat} : (F.BERTH_DISC_CARR n).part = .rBerth :=
  part_rBerth (by simp only [F.BERTH_DISC_CARR]; omega) (by simp only [F.BERTH_DISC_CARR]; omega) (by simp only [F.BERTH_DISC_CARR]; omega) (of_decide_eq_true rfl)
theorem F.BERTH_DUMP_SEQ_part {n : Nat} : (F.BERTH_DUMP_SEQ n).part = .rBerth :=
  part_rBerth (by simp only [F.BERTH_DUMP_SEQ]; omega) (by simp only [F.BERTH_DUMP_SEQ]; omega) (by simp only [F.BERTH_DUMP_SEQ]; omega) (of_decide_eq_true rfl)
theorem F.BERTH_DUMP_EPOCH_part {n : Nat} : (F.BERTH_DUMP_EPOCH n).part = .rBerth :=
  part_rBerth (by simp only [F.BERTH_DUMP_EPOCH]; omega) (by simp only [F.BERTH_DUMP_EPOCH]; omega) (by simp only [F.BERTH_DUMP_EPOCH]; omega) (of_decide_eq_true rfl)
theorem F.BERTH_CODE_PHF_VALUE_part {n : Nat} : (F.BERTH_CODE_PHF_VALUE n).part = .rBerth :=
  part_rBerth (by simp only [F.BERTH_CODE_PHF_VALUE]; omega) (by simp only [F.BERTH_CODE_PHF_VALUE]; omega) (by simp only [F.BERTH_CODE_PHF_VALUE]; omega) (of_decide_eq_true rfl)
theorem F.BERTH_CODE_PHI_CHIP_part {n : Nat} : (F.BERTH_CODE_PHI_CHIP n).part = .rBerth :=
  part_rBerth (by simp only [F.BERTH_CODE_PHI_CHIP]; omega) (by simp only [F.BERTH_CODE_PHI_CHIP]; omega) (by simp only [F.BERTH_CODE_PHI_CHIP]; omega) (of_decide_eq_true rfl)
theorem F.BERTH_CODE_PHI_SEC_part {n : Nat} : (F.BERTH_CODE_PHI_SEC n).part = .rBerth :=
  part_rBerth (by simp only [F.BERTH_CODE_PHI_SEC]; omega) (by simp only [F.BERTH_CODE_PHI_SEC]; omega) (by simp only [F.BERTH_CODE_PHI_SEC]; omega) (of_decide_eq_true rfl)
theorem F.BERTH_CARR_PHF_VALUE_part {n : Nat} : (F.BERTH_CARR_PHF_VALUE n).part = .rBerth :=
  part_rBerth (by simp only [F.BERTH_CARR_PHF_VALUE]; omega) (by simp only [F.BERTH_CARR_PHF_VALUE]; omega) (by simp only [F.BERTH_CARR_PHF_VALUE]; omega) (of_decide_eq_true rfl)
theorem F.BERTH_CARR_CYC_VALUE_part {n : Nat} : (F.BERTH_CARR_CYC_VALUE n).part = .rBerth :=
  part_rBerth (by simp only [F.BERTH_CARR_CYC_VALUE]; omega) (by simp only [F.BERTH_CARR_CYC_VALUE]; omega) (by simp only [F.BERTH_CARR_CYC_VALUE]; omega) (of_decide_eq_true rfl)
theorem F.BERTH_ACC_I_ACC_part {n i : Nat} : (F.BERTH_ACC_I_ACC n i).part = .rBerth :=
  part_rBerth (by simp only [F.BERTH_ACC_I_ACC]; omega) (by simp only [F.BERTH_ACC_I_ACC]; omega) (by simp only [F.BERTH_ACC_I_ACC]; omega) (of_decide_eq_true rfl)
theorem F.BERTH_ACC_Q_ACC_part {n i : Nat} : (F.BERTH_ACC_Q_ACC n i).part = .rBerth :=
  part_rBerth (by simp only [F.BERTH_ACC_Q_ACC]; omega) (by simp only [F.BERTH_ACC_Q_ACC]; omega) (by simp only [F.BERTH_ACC_Q_ACC]; omega) (of_decide_eq_true rfl)
theorem F.BERTH_SIDE_VE_RATIO_part {n : Nat} : (F.BERTH_SIDE_VE_RATIO n).part = .rBerth :=
  part_rBerth (by simp only [F.BERTH_SIDE_VE_RATIO]; omega) (by simp only [F.BERTH_SIDE_VE_RATIO]; omega) (by simp only [F.BERTH_SIDE_VE_RATIO]; omega) (of_decide_eq_true rfl)
theorem F.BERTH_SIDE_VL_RATIO_part {n : Nat} : (F.BERTH_SIDE_VL_RATIO n).part = .rBerth :=
  part_rBerth (by simp only [F.BERTH_SIDE_VL_RATIO]; omega) (by simp only [F.BERTH_SIDE_VL_RATIO]; omega) (by simp only [F.BERTH_SIDE_VL_RATIO]; omega) (of_decide_eq_true rfl)
theorem F.SILLAGE_STAT_AGE_part : F.SILLAGE_STAT_AGE.part = .rSillage := of_decide_eq_true rfl
theorem F.SILLAGE_STAT_SEEDED_part : F.SILLAGE_STAT_SEEDED.part = .rSillage := of_decide_eq_true rfl
theorem F.SILLAGE_STAT_VALID_part : F.SILLAGE_STAT_VALID.part = .rSillage := of_decide_eq_true rfl
theorem F.SILLAGE_NEXTS_SEC_part : F.SILLAGE_NEXTS_SEC.part = .rSillage := of_decide_eq_true rfl
theorem F.SILLAGE_NEXTF_FRAC_part : F.SILLAGE_NEXTF_FRAC.part = .rSillage := of_decide_eq_true rfl
theorem F.SILLAGE_CNT_CLEARED_part : F.SILLAGE_CNT_CLEARED.part = .rSillage := of_decide_eq_true rfl
theorem F.SILLAGE_CNT_REFUSED_part : F.SILLAGE_CNT_REFUSED.part = .rSillage := of_decide_eq_true rfl
theorem F.SILLAGE_CNT_BITFAIL_part : F.SILLAGE_CNT_BITFAIL.part = .rSillage := of_decide_eq_true rfl
theorem F.SILLAGE_EPOCH_OLDEST_part : F.SILLAGE_EPOCH_OLDEST.part = .rSillage := of_decide_eq_true rfl
theorem F.SILLAGE_EPOCH_DEPTH_part : F.SILLAGE_EPOCH_DEPTH.part = .rSillage := of_decide_eq_true rfl
theorem F.SILLAGE_PSEL_BERTH_part : F.SILLAGE_PSEL_BERTH.part = .rSillage := of_decide_eq_true rfl
theorem F.SILLAGE_PCODE_PHASE_part : F.SILLAGE_PCODE_PHASE.part = .rSillage := of_decide_eq_true rfl
theorem F.SILLAGE_PCARR_PHASE_part : F.SILLAGE_PCARR_PHASE.part = .rSillage := of_decide_eq_true rfl
theorem F.SILLAGE_PDOP_DOP_part : F.SILLAGE_PDOP_DOP.part = .rSillage := of_decide_eq_true rfl
theorem F.SILLAGE_PUNC_CODE_U_part : F.SILLAGE_PUNC_CODE_U.part = .rSillage := of_decide_eq_true rfl
theorem F.SILLAGE_PUNC_DOP_U_part : F.SILLAGE_PUNC_DOP_U.part = .rSillage := of_decide_eq_true rfl
theorem F.SILLAGE_PBITS_BITS_part : F.SILLAGE_PBITS_BITS.part = .rSillage := of_decide_eq_true rfl
theorem F.SILLAGE_PBITS_MASK_part : F.SILLAGE_PBITS_MASK.part = .rSillage := of_decide_eq_true rfl
theorem F.MEASQ_HEAD_IDX_part : F.MEASQ_HEAD_IDX.part = .rMeasq := of_decide_eq_true rfl
theorem F.MEASQ_TAIL_IDX_part : F.MEASQ_TAIL_IDX.part = .rMeasq := of_decide_eq_true rfl
theorem F.MEASQ_STAT_DROPPED_part : F.MEASQ_STAT_DROPPED.part = .rMeasq := of_decide_eq_true rfl
theorem F.MEASQ_STAT_LAST_part : F.MEASQ_STAT_LAST.part = .rMeasq := of_decide_eq_true rfl
theorem F.MEASQ_FIX0_WORD_part : F.MEASQ_FIX0_WORD.part = .rMeasq := of_decide_eq_true rfl
theorem F.MEASQ_FIX_WORD_part {i : Nat} : (F.MEASQ_FIX_WORD i).part = .rMeasq :=
  part_rMeasq (by simp only [F.MEASQ_FIX_WORD]; omega) (by simp only [F.MEASQ_FIX_WORD]; omega) (by simp only [F.MEASQ_FIX_WORD]; omega) (of_decide_eq_true rfl)
theorem F.BITLOG_HEAD_IDX_part : F.BITLOG_HEAD_IDX.part = .rBitlog := of_decide_eq_true rfl
theorem F.BITLOG_TAIL_IDX_part : F.BITLOG_TAIL_IDX.part = .rBitlog := of_decide_eq_true rfl
theorem F.BITLOG_STAT_DROPPED_part : F.BITLOG_STAT_DROPPED.part = .rBitlog := of_decide_eq_true rfl
theorem F.TIDE_NOWL_SEC_part : F.TIDE_NOWL_SEC.part = .rTide := of_decide_eq_true rfl
theorem F.TIDE_NOWH_SECH_part : F.TIDE_NOWH_SECH.part = .rTide := of_decide_eq_true rfl
theorem F.TIDE_NOWF_FRAC_part : F.TIDE_NOWF_FRAC.part = .rTide := of_decide_eq_true rfl
theorem F.TIDE_CFG_SCALE_part : F.TIDE_CFG_SCALE.part = .rTide := of_decide_eq_true rfl
theorem F.TIDE_CFG_SRC_part : F.TIDE_CFG_SRC.part = .rTide := of_decide_eq_true rfl
theorem F.TIDE_CFG_LOOP_OPEN_part : F.TIDE_CFG_LOOP_OPEN.part = .rTide := of_decide_eq_true rfl
theorem F.TIDE_CFG_HTO_part : F.TIDE_CFG_HTO.part = .rTide := of_decide_eq_true rfl
theorem F.TIDE_STAT_STATE_part : F.TIDE_STAT_STATE.part = .rTide := of_decide_eq_true rfl
theorem F.TIDE_STAT_ACT_SRC_part : F.TIDE_STAT_ACT_SRC.part = .rTide := of_decide_eq_true rfl
theorem F.TIDE_STAT_AGE_part : F.TIDE_STAT_AGE.part = .rTide := of_decide_eq_true rfl
theorem F.TIDE_ERR_ERR_part : F.TIDE_ERR_ERR.part = .rTide := of_decide_eq_true rfl
theorem F.TIDE_INC_INC_part : F.TIDE_INC_INC.part = .rTide := of_decide_eq_true rfl
theorem F.TIDE_RATE_ADJ_part : F.TIDE_RATE_ADJ.part = .rTide := of_decide_eq_true rfl
theorem F.TIDE_GAIN_KP_part : F.TIDE_GAIN_KP.part = .rTide := of_decide_eq_true rfl
theorem F.TIDE_GAIN_KI_part : F.TIDE_GAIN_KI.part = .rTide := of_decide_eq_true rfl
theorem F.TIDE_STEPTH_TH_part : F.TIDE_STEPTH_TH.part = .rTide := of_decide_eq_true rfl
theorem F.TIDE_LEAP_CUR_part : F.TIDE_LEAP_CUR.part = .rTide := of_decide_eq_true rfl
theorem F.TIDE_LEAP_SRC_part : F.TIDE_LEAP_SRC.part = .rTide := of_decide_eq_true rfl
theorem F.TIDE_LEAP_NEXT_part : F.TIDE_LEAP_NEXT.part = .rTide := of_decide_eq_true rfl
theorem F.TIDE_LEAP_PEND_part : F.TIDE_LEAP_PEND.part = .rTide := of_decide_eq_true rfl
theorem F.TIDE_LEAPAT_AT_part : F.TIDE_LEAPAT_AT.part = .rTide := of_decide_eq_true rfl
theorem F.TIDE_LASTE_E_part : F.TIDE_LASTE_E.part = .rTide := of_decide_eq_true rfl
theorem F.TIDE_ALIGN_ALIGN_part : F.TIDE_ALIGN_ALIGN.part = .rTide := of_decide_eq_true rfl
theorem F.TIDE_CTRL_STEP_PEND_part : F.TIDE_CTRL_STEP_PEND.part = .rTide := of_decide_eq_true rfl
theorem F.TIDE_HOLD_SLPGROW_part : F.TIDE_HOLD_SLPGROW.part = .rTide := of_decide_eq_true rfl
theorem F.TIDE_PPSCNT_REJ_part : F.TIDE_PPSCNT_REJ.part = .rTide := of_decide_eq_true rfl
theorem F.TIDE_TTCFG_EN_part : F.TIDE_TTCFG_EN.part = .rTide := of_decide_eq_true rfl
theorem F.TIDE_TTCFG_PORT_part : F.TIDE_TTCFG_PORT.part = .rTide := of_decide_eq_true rfl
theorem F.TIDE_TTOFS_OFFSET_part : F.TIDE_TTOFS_OFFSET.part = .rTide := of_decide_eq_true rfl
theorem F.TIDE_TTDLY_DELAY_part : F.TIDE_TTDLY_DELAY.part = .rTide := of_decide_eq_true rfl
theorem F.TIDE_TTSTAT_LAST_part : F.TIDE_TTSTAT_LAST.part = .rTide := of_decide_eq_true rfl
theorem F.TIDE_TTCNT_ACC_part : F.TIDE_TTCNT_ACC.part = .rTide := of_decide_eq_true rfl
theorem F.TIDE_TTCNT_REJ_part : F.TIDE_TTCNT_REJ.part = .rTide := of_decide_eq_true rfl
theorem F.TP_CTRL_EN_part : F.TP_CTRL_EN.part = .rTp := of_decide_eq_true rfl
theorem F.TP_CTRL_POL_part : F.TP_CTRL_POL.part = .rTp := of_decide_eq_true rfl
theorem F.TP_CTRL_POLICY_part : F.TP_CTRL_POLICY.part = .rTp := of_decide_eq_true rfl
theorem F.TP_CTRL_SCALE_part : F.TP_CTRL_SCALE.part = .rTp := of_decide_eq_true rfl
theorem F.TP_PERS_SEC_part : F.TP_PERS_SEC.part = .rTp := of_decide_eq_true rfl
theorem F.TP_PERF_FRAC_part : F.TP_PERF_FRAC.part = .rTp := of_decide_eq_true rfl
theorem F.TP_WIDTH_TICKS_part : F.TP_WIDTH_TICKS.part = .rTp := of_decide_eq_true rfl
theorem F.TP_DELAY_DELAY_part : F.TP_DELAY_DELAY.part = .rTp := of_decide_eq_true rfl
theorem F.TP_STAT_ON_part : F.TP_STAT_ON.part = .rTp := of_decide_eq_true rfl
theorem F.TP_STAT_FLAG_part : F.TP_STAT_FLAG.part = .rTp := of_decide_eq_true rfl
theorem F.TP_STAT_STOPPED_part : F.TP_STAT_STOPPED.part = .rTp := of_decide_eq_true rfl
theorem F.TP_STAT_SKIP_part : F.TP_STAT_SKIP.part = .rTp := of_decide_eq_true rfl
theorem F.TP_STAT_APPLY_PEND_part : F.TP_STAT_APPLY_PEND.part = .rTp := of_decide_eq_true rfl
theorem F.TP_QNEXT_SEC_part : F.TP_QNEXT_SEC.part = .rTp := of_decide_eq_true rfl
theorem F.TP_QERR_QERR_part : F.TP_QERR_QERR.part = .rTp := of_decide_eq_true rfl
theorem F.TP_QERR_VALID_part : F.TP_QERR_VALID.part = .rTp := of_decide_eq_true rfl
theorem F.RTC_SBSEC_SEC_part : F.RTC_SBSEC_SEC.part = .rRtc := of_decide_eq_true rfl
theorem F.RTC_SBHI_SECH_part : F.RTC_SBHI_SECH.part = .rRtc := of_decide_eq_true rfl
theorem F.RTC_SCAL0_SEC_part : F.RTC_SCAL0_SEC.part = .rRtc := of_decide_eq_true rfl
theorem F.RTC_SCAL0_MIN_part : F.RTC_SCAL0_MIN.part = .rRtc := of_decide_eq_true rfl
theorem F.RTC_SCAL0_HOUR_part : F.RTC_SCAL0_HOUR.part = .rRtc := of_decide_eq_true rfl
theorem F.RTC_SCAL1_DAY_part : F.RTC_SCAL1_DAY.part = .rRtc := of_decide_eq_true rfl
theorem F.RTC_SCAL1_MONTH_part : F.RTC_SCAL1_MONTH.part = .rRtc := of_decide_eq_true rfl
theorem F.RTC_SCAL1_YEAR_part : F.RTC_SCAL1_YEAR.part = .rRtc := of_decide_eq_true rfl
theorem F.RTC_SCAL1_CENT_part : F.RTC_SCAL1_CENT.part = .rRtc := of_decide_eq_true rfl
theorem F.RTC_APPLY_PEND_part : F.RTC_APPLY_PEND.part = .rRtc := of_decide_eq_true rfl
theorem F.RTC_CTRL_MODE_part : F.RTC_CTRL_MODE.part = .rRtc := of_decide_eq_true rfl
theorem F.RTC_CTRL_TRK_RES_part : F.RTC_CTRL_TRK_RES.part = .rRtc := of_decide_eq_true rfl
theorem F.RTC_CTRL_TRK_DIODE_part : F.RTC_CTRL_TRK_DIODE.part = .rRtc := of_decide_eq_true rfl
theorem F.RTC_SHIFT_COUNT_part : F.RTC_SHIFT_COUNT.part = .rRtc := of_decide_eq_true rfl
theorem F.RTC_SHIFT_PEND_part : F.RTC_SHIFT_PEND.part = .rRtc := of_decide_eq_true rfl
theorem F.RTC_STAT_OSF_part : F.RTC_STAT_OSF.part = .rRtc := of_decide_eq_true rfl
theorem F.RTC_STAT_TSET_part : F.RTC_STAT_TSET.part = .rRtc := of_decide_eq_true rfl
theorem F.RTC_STAT_LOCKED_part : F.RTC_STAT_LOCKED.part = .rRtc := of_decide_eq_true rfl
theorem F.RTC_STAT_ALM1_part : F.RTC_STAT_ALM1.part = .rRtc := of_decide_eq_true rfl
theorem F.RTC_STAT_ALM2_part : F.RTC_STAT_ALM2.part = .rRtc := of_decide_eq_true rfl
theorem F.RTC_STAT_BADSET_part : F.RTC_STAT_BADSET.part = .rRtc := of_decide_eq_true rfl
theorem F.RTC_STAT_STAGE_LOST_part : F.RTC_STAT_STAGE_LOST.part = .rRtc := of_decide_eq_true rfl
theorem F.RTC_STAT_SHIFT_CUT_part : F.RTC_STAT_SHIFT_CUT.part = .rRtc := of_decide_eq_true rfl
theorem F.RTC_STAT_SRC_part : F.RTC_STAT_SRC.part = .rRtc := of_decide_eq_true rfl
theorem F.RTC_STAT_CLKSRC_part : F.RTC_STAT_CLKSRC.part = .rRtc := of_decide_eq_true rfl
theorem F.RTC_ALMCTL_EN1_part : F.RTC_ALMCTL_EN1.part = .rRtc := of_decide_eq_true rfl
theorem F.RTC_ALMCTL_EN2_part : F.RTC_ALMCTL_EN2.part = .rRtc := of_decide_eq_true rfl
theorem F.RTC_ALM_C0_SEC_part {i : Nat} : (F.RTC_ALM_C0_SEC i).part = .rRtc :=
  part_rRtc (by simp only [F.RTC_ALM_C0_SEC]; omega) (by simp only [F.RTC_ALM_C0_SEC]; omega) (by simp only [F.RTC_ALM_C0_SEC]; omega) (of_decide_eq_true rfl)
theorem F.RTC_ALM_C0_MSEC_part {i : Nat} : (F.RTC_ALM_C0_MSEC i).part = .rRtc :=
  part_rRtc (by simp only [F.RTC_ALM_C0_MSEC]; omega) (by simp only [F.RTC_ALM_C0_MSEC]; omega) (by simp only [F.RTC_ALM_C0_MSEC]; omega) (of_decide_eq_true rfl)
theorem F.RTC_ALM_C0_MIN_part {i : Nat} : (F.RTC_ALM_C0_MIN i).part = .rRtc :=
  part_rRtc (by simp only [F.RTC_ALM_C0_MIN]; omega) (by simp only [F.RTC_ALM_C0_MIN]; omega) (by simp only [F.RTC_ALM_C0_MIN]; omega) (of_decide_eq_true rfl)
theorem F.RTC_ALM_C0_MMIN_part {i : Nat} : (F.RTC_ALM_C0_MMIN i).part = .rRtc :=
  part_rRtc (by simp only [F.RTC_ALM_C0_MMIN]; omega) (by simp only [F.RTC_ALM_C0_MMIN]; omega) (by simp only [F.RTC_ALM_C0_MMIN]; omega) (of_decide_eq_true rfl)
theorem F.RTC_ALM_C0_HOUR_part {i : Nat} : (F.RTC_ALM_C0_HOUR i).part = .rRtc :=
  part_rRtc (by simp only [F.RTC_ALM_C0_HOUR]; omega) (by simp only [F.RTC_ALM_C0_HOUR]; omega) (by simp only [F.RTC_ALM_C0_HOUR]; omega) (of_decide_eq_true rfl)
theorem F.RTC_ALM_C0_MHOUR_part {i : Nat} : (F.RTC_ALM_C0_MHOUR i).part = .rRtc :=
  part_rRtc (by simp only [F.RTC_ALM_C0_MHOUR]; omega) (by simp only [F.RTC_ALM_C0_MHOUR]; omega) (by simp only [F.RTC_ALM_C0_MHOUR]; omega) (of_decide_eq_true rfl)
theorem F.RTC_ALM_C0_WDAY_part {i : Nat} : (F.RTC_ALM_C0_WDAY i).part = .rRtc :=
  part_rRtc (by simp only [F.RTC_ALM_C0_WDAY]; omega) (by simp only [F.RTC_ALM_C0_WDAY]; omega) (by simp only [F.RTC_ALM_C0_WDAY]; omega) (of_decide_eq_true rfl)
theorem F.RTC_ALM_C0_MWDAY_part {i : Nat} : (F.RTC_ALM_C0_MWDAY i).part = .rRtc :=
  part_rRtc (by simp only [F.RTC_ALM_C0_MWDAY]; omega) (by simp only [F.RTC_ALM_C0_MWDAY]; omega) (by simp only [F.RTC_ALM_C0_MWDAY]; omega) (of_decide_eq_true rfl)
theorem F.RTC_ALM_C1_DAY_part {i : Nat} : (F.RTC_ALM_C1_DAY i).part = .rRtc :=
  part_rRtc (by simp only [F.RTC_ALM_C1_DAY]; omega) (by simp only [F.RTC_ALM_C1_DAY]; omega) (by simp only [F.RTC_ALM_C1_DAY]; omega) (of_decide_eq_true rfl)
theorem F.RTC_ALM_C1_MDAY_part {i : Nat} : (F.RTC_ALM_C1_MDAY i).part = .rRtc :=
  part_rRtc (by simp only [F.RTC_ALM_C1_MDAY]; omega) (by simp only [F.RTC_ALM_C1_MDAY]; omega) (by simp only [F.RTC_ALM_C1_MDAY]; omega) (of_decide_eq_true rfl)
theorem F.RTC_ALM_C1_MONTH_part {i : Nat} : (F.RTC_ALM_C1_MONTH i).part = .rRtc :=
  part_rRtc (by simp only [F.RTC_ALM_C1_MONTH]; omega) (by simp only [F.RTC_ALM_C1_MONTH]; omega) (by simp only [F.RTC_ALM_C1_MONTH]; omega) (of_decide_eq_true rfl)
theorem F.RTC_ALM_C1_MMONTH_part {i : Nat} : (F.RTC_ALM_C1_MMONTH i).part = .rRtc :=
  part_rRtc (by simp only [F.RTC_ALM_C1_MMONTH]; omega) (by simp only [F.RTC_ALM_C1_MMONTH]; omega) (by simp only [F.RTC_ALM_C1_MMONTH]; omega) (of_decide_eq_true rfl)
theorem F.RTC_ALM_C1_YEAR_part {i : Nat} : (F.RTC_ALM_C1_YEAR i).part = .rRtc :=
  part_rRtc (by simp only [F.RTC_ALM_C1_YEAR]; omega) (by simp only [F.RTC_ALM_C1_YEAR]; omega) (by simp only [F.RTC_ALM_C1_YEAR]; omega) (of_decide_eq_true rfl)
theorem F.RTC_ALM_C1_CENT_part {i : Nat} : (F.RTC_ALM_C1_CENT i).part = .rRtc :=
  part_rRtc (by simp only [F.RTC_ALM_C1_CENT]; omega) (by simp only [F.RTC_ALM_C1_CENT]; omega) (by simp only [F.RTC_ALM_C1_CENT]; omega) (of_decide_eq_true rfl)
theorem F.RTC_ALM_C1_MYEAR_part {i : Nat} : (F.RTC_ALM_C1_MYEAR i).part = .rRtc :=
  part_rRtc (by simp only [F.RTC_ALM_C1_MYEAR]; omega) (by simp only [F.RTC_ALM_C1_MYEAR]; omega) (by simp only [F.RTC_ALM_C1_MYEAR]; omega) (of_decide_eq_true rfl)
theorem F.RTC_ALM_C1_MCENT_part {i : Nat} : (F.RTC_ALM_C1_MCENT i).part = .rRtc :=
  part_rRtc (by simp only [F.RTC_ALM_C1_MCENT]; omega) (by simp only [F.RTC_ALM_C1_MCENT]; omega) (by simp only [F.RTC_ALM_C1_MCENT]; omega) (of_decide_eq_true rfl)
theorem F.RTC_ALM_BCMPL_CMP_part {i : Nat} : (F.RTC_ALM_BCMPL_CMP i).part = .rRtc :=
  part_rRtc (by simp only [F.RTC_ALM_BCMPL_CMP]; omega) (by simp only [F.RTC_ALM_BCMPL_CMP]; omega) (by simp only [F.RTC_ALM_BCMPL_CMP]; omega) (of_decide_eq_true rfl)
theorem F.RTC_ALM_BCMPH_CMP_part {i : Nat} : (F.RTC_ALM_BCMPH_CMP i).part = .rRtc :=
  part_rRtc (by simp only [F.RTC_ALM_BCMPH_CMP]; omega) (by simp only [F.RTC_ALM_BCMPH_CMP]; omega) (by simp only [F.RTC_ALM_BCMPH_CMP]; omega) (of_decide_eq_true rfl)
theorem F.RTC_ALM_BCMPH_MSK_part {i : Nat} : (F.RTC_ALM_BCMPH_MSK i).part = .rRtc :=
  part_rRtc (by simp only [F.RTC_ALM_BCMPH_MSK]; omega) (by simp only [F.RTC_ALM_BCMPH_MSK]; omega) (by simp only [F.RTC_ALM_BCMPH_MSK]; omega) (of_decide_eq_true rfl)
theorem F.RTC_ALM_BMSKL_MSK_part {i : Nat} : (F.RTC_ALM_BMSKL_MSK i).part = .rRtc :=
  part_rRtc (by simp only [F.RTC_ALM_BMSKL_MSK]; omega) (by simp only [F.RTC_ALM_BMSKL_MSK]; omega) (by simp only [F.RTC_ALM_BMSKL_MSK]; omega) (of_decide_eq_true rfl)
theorem F.RTC_DISCT_SEC_part : F.RTC_DISCT_SEC.part = .rRtc := of_decide_eq_true rfl
theorem F.PWR_POINT_POINT_part : F.PWR_POINT_POINT.part = .rPwr := of_decide_eq_true rfl
theorem F.PWR_POINT_ACT_part : F.PWR_POINT_ACT.part = .rPwr := of_decide_eq_true rfl
theorem F.PWR_POINT_PEND_part : F.PWR_POINT_PEND.part = .rPwr := of_decide_eq_true rfl
theorem F.PWR_POINT_VSET_part : F.PWR_POINT_VSET.part = .rPwr := of_decide_eq_true rfl
theorem F.PWR_PATH_POLICY_part : F.PWR_PATH_POLICY.part = .rPwr := of_decide_eq_true rfl
theorem F.PWR_PATH_ACT_part : F.PWR_PATH_ACT.part = .rPwr := of_decide_eq_true rfl
theorem F.PWR_PATH_VBAT_OK_part : F.PWR_PATH_VBAT_OK.part = .rPwr := of_decide_eq_true rfl
theorem F.PWR_PATH_STORE_OK_part : F.PWR_PATH_STORE_OK.part = .rPwr := of_decide_eq_true rfl
theorem F.PWR_REG_MODE_part : F.PWR_REG_MODE.part = .rPwr := of_decide_eq_true rfl
theorem F.PWR_REG_ACT_part : F.PWR_REG_ACT.part = .rPwr := of_decide_eq_true rfl
theorem F.PWR_REG_SLP_LDO_part : F.PWR_REG_SLP_LDO.part = .rPwr := of_decide_eq_true rfl
theorem F.PWR_STAT_HOLD_OK_part : F.PWR_STAT_HOLD_OK.part = .rPwr := of_decide_eq_true rfl
theorem F.PWR_STAT_ARMED_part : F.PWR_STAT_ARMED.part = .rPwr := of_decide_eq_true rfl
theorem F.PWR_STAT_IO1_OK_part : F.PWR_STAT_IO1_OK.part = .rPwr := of_decide_eq_true rfl
theorem F.PWR_STAT_IO2_OK_part : F.PWR_STAT_IO2_OK.part = .rPwr := of_decide_eq_true rfl
theorem F.PWR_STAT_CBOR_CNT_part : F.PWR_STAT_CBOR_CNT.part = .rPwr := of_decide_eq_true rfl
theorem F.PWR_DOMF_FORCE_part : F.PWR_DOMF_FORCE.part = .rPwr := of_decide_eq_true rfl
theorem F.PWR_DOMS_PG_part : F.PWR_DOMS_PG.part = .rPwr := of_decide_eq_true rfl
theorem F.PWR_BIAS_BIAS_part : F.PWR_BIAS_BIAS.part = .rPwr := of_decide_eq_true rfl
theorem F.PWR_SLEEP_DEPTH_part : F.PWR_SLEEP_DEPTH.part = .rPwr := of_decide_eq_true rfl
theorem F.PWR_RETAIN_BANKS_part : F.PWR_RETAIN_BANKS.part = .rPwr := of_decide_eq_true rfl
theorem F.PWR_RETAIN_ITCM_part : F.PWR_RETAIN_ITCM.part = .rPwr := of_decide_eq_true rfl
theorem F.PWR_RETAIN_DTCM_part : F.PWR_RETAIN_DTCM.part = .rPwr := of_decide_eq_true rfl
theorem F.PWR_WAKE_SRC_SRC_part : F.PWR_WAKE_SRC_SRC.part = .rPwr := of_decide_eq_true rfl
theorem F.PWR_WAKE_SRC_FROM_part : F.PWR_WAKE_SRC_FROM.part = .rPwr := of_decide_eq_true rfl
theorem F.PWR_WAKE_SRC_IDX_part : F.PWR_WAKE_SRC_IDX.part = .rPwr := of_decide_eq_true rfl
theorem F.PWR_WAKE_SRC_MASK_part : F.PWR_WAKE_SRC_MASK.part = .rPwr := of_decide_eq_true rfl
theorem F.PWR_WAKE_SEC_SEC_part : F.PWR_WAKE_SEC_SEC.part = .rPwr := of_decide_eq_true rfl
theorem F.PWR_WAKE_FRAC_FRAC_part : F.PWR_WAKE_FRAC_FRAC.part = .rPwr := of_decide_eq_true rfl
theorem F.HARV_MPPT_MODE_part : F.HARV_MPPT_MODE.part = .rHarv := of_decide_eq_true rfl
theorem F.HARV_MPPT_FRAC_part : F.HARV_MPPT_FRAC.part = .rHarv := of_decide_eq_true rfl
theorem F.HARV_MPPT_FIXV_part : F.HARV_MPPT_FIXV.part = .rHarv := of_decide_eq_true rfl
theorem F.HARV_PROT_OVP_part : F.HARV_PROT_OVP.part = .rHarv := of_decide_eq_true rfl
theorem F.HARV_XMIT_LEVEL_part : F.HARV_XMIT_LEVEL.part = .rHarv := of_decide_eq_true rfl
theorem F.HARV_STAT_VST_part : F.HARV_STAT_VST.part = .rHarv := of_decide_eq_true rfl
theorem F.HARV_STAT_BAND_part : F.HARV_STAT_BAND.part = .rHarv := of_decide_eq_true rfl
theorem F.HARV_STAT_CONN_part : F.HARV_STAT_CONN.part = .rHarv := of_decide_eq_true rfl
theorem F.HARV_STAT_CHG_part : F.HARV_STAT_CHG.part = .rHarv := of_decide_eq_true rfl
theorem F.HARV_STAT_OVPT_part : F.HARV_STAT_OVPT.part = .rHarv := of_decide_eq_true rfl
theorem F.HARV_STAT_TBLK_part : F.HARV_STAT_TBLK.part = .rHarv := of_decide_eq_true rfl
theorem F.HARV_STAT_UVP_part : F.HARV_STAT_UVP.part = .rHarv := of_decide_eq_true rfl
theorem F.HARV_STAT_OCP_part : F.HARV_STAT_OCP.part = .rHarv := of_decide_eq_true rfl
theorem F.HARV_STAT_LATCH_part : F.HARV_STAT_LATCH.part = .rHarv := of_decide_eq_true rfl
theorem F.HARV_STAT_COLD_part : F.HARV_STAT_COLD.part = .rHarv := of_decide_eq_true rfl
theorem F.HARV_IN_PIN_part : F.HARV_IN_PIN.part = .rHarv := of_decide_eq_true rfl
theorem F.HARV_IN_VOC_part : F.HARV_IN_VOC.part = .rHarv := of_decide_eq_true rfl
theorem F.HARV_EST_E_part : F.HARV_EST_E.part = .rHarv := of_decide_eq_true rfl
theorem F.HARV_PSTAT_CLS_part : F.HARV_PSTAT_CLS.part = .rHarv := of_decide_eq_true rfl
theorem F.HARV_PSTAT_REQ_part : F.HARV_PSTAT_REQ.part = .rHarv := of_decide_eq_true rfl
theorem F.HARV_PSTAT_GNT_part : F.HARV_PSTAT_GNT.part = .rHarv := of_decide_eq_true rfl
theorem F.HARV_PSTAT_WAIT_part : F.HARV_PSTAT_WAIT.part = .rHarv := of_decide_eq_true rfl
theorem F.HARV_PSTAT_NEVER_part : F.HARV_PSTAT_NEVER.part = .rHarv := of_decide_eq_true rfl
theorem F.HARV_PSTAT_CUT_part : F.HARV_PSTAT_CUT.part = .rHarv := of_decide_eq_true rfl
theorem F.HARV_PCNT_DENIED_part : F.HARV_PCNT_DENIED.part = .rHarv := of_decide_eq_true rfl
theorem F.HARV_PCNT_CUTS_part : F.HARV_PCNT_CUTS.part = .rHarv := of_decide_eq_true rfl
theorem F.HARV_PCNT_BADREQ_part : F.HARV_PCNT_BADREQ.part = .rHarv := of_decide_eq_true rfl
theorem F.CLK_CFG_PLL_REF_part : F.CLK_CFG_PLL_REF.part = .rClk := of_decide_eq_true rfl
theorem F.CLK_STAT_HFO_part : F.CLK_STAT_HFO.part = .rClk := of_decide_eq_true rfl
theorem F.CLK_STAT_LFO_part : F.CLK_STAT_LFO.part = .rClk := of_decide_eq_true rfl
theorem F.CLK_STAT_XTALL_part : F.CLK_STAT_XTALL.part = .rClk := of_decide_eq_true rfl
theorem F.CLK_STAT_XTALG_part : F.CLK_STAT_XTALG.part = .rClk := of_decide_eq_true rfl
theorem F.CLK_STAT_SYSPLL_part : F.CLK_STAT_SYSPLL.part = .rClk := of_decide_eq_true rfl
theorem F.CLK_STAT_RFSYN_part : F.CLK_STAT_RFSYN.part = .rClk := of_decide_eq_true rfl
theorem F.CLK_STAT_FLL_LOCK_part : F.CLK_STAT_FLL_LOCK.part = .rClk := of_decide_eq_true rfl
theorem F.CLK_STAT_REF_ACT_part : F.CLK_STAT_REF_ACT.part = .rClk := of_decide_eq_true rfl
theorem F.CLK_MON_WINDOW_part {i : Nat} : (F.CLK_MON_WINDOW i).part = .rClk :=
  part_rClk (by simp only [F.CLK_MON_WINDOW]; omega) (by simp only [F.CLK_MON_WINDOW]; omega) (by simp only [F.CLK_MON_WINDOW]; omega) (of_decide_eq_true rfl)
theorem F.CLK_MON_DEV_part {i : Nat} : (F.CLK_MON_DEV i).part = .rClk :=
  part_rClk (by simp only [F.CLK_MON_DEV]; omega) (by simp only [F.CLK_MON_DEV]; omega) (by simp only [F.CLK_MON_DEV]; omega) (of_decide_eq_true rfl)
theorem F.CLK_MONCNT_COUNT_part {i : Nat} : (F.CLK_MONCNT_COUNT i).part = .rClk :=
  part_rClk (by simp only [F.CLK_MONCNT_COUNT]; omega) (by simp only [F.CLK_MONCNT_COUNT]; omega) (by simp only [F.CLK_MONCNT_COUNT]; omega) (of_decide_eq_true rfl)
theorem F.CLK_HFO_TRIM_part : F.CLK_HFO_TRIM.part = .rClk := of_decide_eq_true rfl
theorem F.CLK_FAILREC_SRC_part : F.CLK_FAILREC_SRC.part = .rClk := of_decide_eq_true rfl
theorem F.CLK_FAILREC_KIND_part : F.CLK_FAILREC_KIND.part = .rClk := of_decide_eq_true rfl
theorem F.CLK_FAILREC_NFAIL_part : F.CLK_FAILREC_NFAIL.part = .rClk := of_decide_eq_true rfl
theorem F.CLK_ISL_SEL_part {i : Nat} : (F.CLK_ISL_SEL i).part = .rClk :=
  part_rClk (by simp only [F.CLK_ISL_SEL]; omega) (by simp only [F.CLK_ISL_SEL]; omega) (by simp only [F.CLK_ISL_SEL]; omega) (of_decide_eq_true rfl)
theorem F.CLK_ISL_ACT_part {i : Nat} : (F.CLK_ISL_ACT i).part = .rClk :=
  part_rClk (by simp only [F.CLK_ISL_ACT]; omega) (by simp only [F.CLK_ISL_ACT]; omega) (by simp only [F.CLK_ISL_ACT]; omega) (of_decide_eq_true rfl)
theorem F.CLK_ISL_PEND_part {i : Nat} : (F.CLK_ISL_PEND i).part = .rClk :=
  part_rClk (by simp only [F.CLK_ISL_PEND]; omega) (by simp only [F.CLK_ISL_PEND]; omega) (by simp only [F.CLK_ISL_PEND]; omega) (of_decide_eq_true rfl)
theorem F.CLK_ISL_RUN_EN_part {i : Nat} : (F.CLK_ISL_RUN_EN i).part = .rClk :=
  part_rClk (by simp only [F.CLK_ISL_RUN_EN]; omega) (by simp only [F.CLK_ISL_RUN_EN]; omega) (by simp only [F.CLK_ISL_RUN_EN]; omega) (of_decide_eq_true rfl)
theorem F.CLK_ISL_SLP_EN_part {i : Nat} : (F.CLK_ISL_SLP_EN i).part = .rClk :=
  part_rClk (by simp only [F.CLK_ISL_SLP_EN]; omega) (by simp only [F.CLK_ISL_SLP_EN]; omega) (by simp only [F.CLK_ISL_SLP_EN]; omega) (of_decide_eq_true rfl)
theorem F.CLK_ISL_DSLP_EN_part {i : Nat} : (F.CLK_ISL_DSLP_EN i).part = .rClk :=
  part_rClk (by simp only [F.CLK_ISL_DSLP_EN]; omega) (by simp only [F.CLK_ISL_DSLP_EN]; omega) (by simp only [F.CLK_ISL_DSLP_EN]; omega) (of_decide_eq_true rfl)
theorem F.CLK_ISL_RUNNING_part {i : Nat} : (F.CLK_ISL_RUNNING i).part = .rClk :=
  part_rClk (by simp only [F.CLK_ISL_RUNNING]; omega) (by simp only [F.CLK_ISL_RUNNING]; omega) (by simp only [F.CLK_ISL_RUNNING]; omega) (of_decide_eq_true rfl)
theorem F.CLK_ISL_FAILOVER_part {i : Nat} : (F.CLK_ISL_FAILOVER i).part = .rClk :=
  part_rClk (by simp only [F.CLK_ISL_FAILOVER]; omega) (by simp only [F.CLK_ISL_FAILOVER]; omega) (by simp only [F.CLK_ISL_FAILOVER]; omega) (of_decide_eq_true rfl)
theorem F.LIFE_STATE_STATE_part : F.LIFE_STATE_STATE.part = .rLife := of_decide_eq_true rfl
theorem F.LIFE_STATE_DEBUG_part : F.LIFE_STATE_DEBUG.part = .rLife := of_decide_eq_true rfl
theorem F.LIFE_STATE_ROLLBACK_part : F.LIFE_STATE_ROLLBACK.part = .rLife := of_decide_eq_true rfl
theorem F.LIFE_STATE_REDEPLOY_part : F.LIFE_STATE_REDEPLOY.part = .rLife := of_decide_eq_true rfl
theorem F.LIFE_STATE_INTENT_part : F.LIFE_STATE_INTENT.part = .rLife := of_decide_eq_true rfl
theorem F.LIFE_SLOT_ACTIVE_part : F.LIFE_SLOT_ACTIVE.part = .rLife := of_decide_eq_true rfl
theorem F.LIFE_SLOT_STA_part : F.LIFE_SLOT_STA.part = .rLife := of_decide_eq_true rfl
theorem F.LIFE_SLOT_STB_part : F.LIFE_SLOT_STB.part = .rLife := of_decide_eq_true rfl
theorem F.LIFE_VERA_VERSION_part : F.LIFE_VERA_VERSION.part = .rLife := of_decide_eq_true rfl
theorem F.LIFE_VERB_VERSION_part : F.LIFE_VERB_VERSION.part = .rLife := of_decide_eq_true rfl
theorem F.MEMCTL_DPOS_ADDR_part : F.MEMCTL_DPOS_ADDR.part = .rMemctl := of_decide_eq_true rfl
theorem F.MEMCTL_DPASS_COUNT_part : F.MEMCTL_DPASS_COUNT.part = .rMemctl := of_decide_eq_true rfl
theorem F.MEMCTL_LOST_BANK_part : F.MEMCTL_LOST_BANK.part = .rMemctl := of_decide_eq_true rfl
theorem F.MEMCTL_CEADDR_ADDR_part : F.MEMCTL_CEADDR_ADDR.part = .rMemctl := of_decide_eq_true rfl
theorem F.MEMCTL_UEADDR_ADDR_part : F.MEMCTL_UEADDR_ADDR.part = .rMemctl := of_decide_eq_true rfl
theorem F.MEMCTL_UESRC_REGION_part : F.MEMCTL_UESRC_REGION.part = .rMemctl := of_decide_eq_true rfl
theorem F.MEMCTL_UESRC_MASTER_part : F.MEMCTL_UESRC_MASTER.part = .rMemctl := of_decide_eq_true rfl
theorem F.MEMCTL_UESRC_PARTIAL_part : F.MEMCTL_UESRC_PARTIAL.part = .rMemctl := of_decide_eq_true rfl
theorem F.MEMCTL_REMAP_AON_part : F.MEMCTL_REMAP_AON.part = .rMemctl := of_decide_eq_true rfl
theorem F.MEMCTL_REMAP_SEC_part : F.MEMCTL_REMAP_SEC.part = .rMemctl := of_decide_eq_true rfl
theorem F.MEMCTL_WIPE_BUSY_part : F.MEMCTL_WIPE_BUSY.part = .rMemctl := of_decide_eq_true rfl
theorem F.MEMCTL_WIPE_CAUSE_part : F.MEMCTL_WIPE_CAUSE.part = .rMemctl := of_decide_eq_true rfl
theorem F.MEMCTL_ERR_CE_part {i : Nat} : (F.MEMCTL_ERR_CE i).part = .rMemctl :=
  part_rMemctl (by simp only [F.MEMCTL_ERR_CE]; omega) (by simp only [F.MEMCTL_ERR_CE]; omega) (by simp only [F.MEMCTL_ERR_CE]; omega) (of_decide_eq_true rfl)
theorem F.MEMCTL_ERR_UE_part {i : Nat} : (F.MEMCTL_ERR_UE i).part = .rMemctl :=
  part_rMemctl (by simp only [F.MEMCTL_ERR_UE]; omega) (by simp only [F.MEMCTL_ERR_UE]; omega) (by simp only [F.MEMCTL_ERR_UE]; omega) (of_decide_eq_true rfl)
theorem F.LOGS_STAT_BUSY_part : F.LOGS_STAT_BUSY.part = .rLogs := of_decide_eq_true rfl
theorem F.LOGS_STAT_QUEUED_part : F.LOGS_STAT_QUEUED.part = .rLogs := of_decide_eq_true rfl
theorem F.LOGS_STAT_RECOV_part : F.LOGS_STAT_RECOV.part = .rLogs := of_decide_eq_true rfl
theorem F.LOGS_STAT_RESULT_part : F.LOGS_STAT_RESULT.part = .rLogs := of_decide_eq_true rfl
theorem F.LOGS_STAT_OVR_part : F.LOGS_STAT_OVR.part = .rLogs := of_decide_eq_true rfl
theorem F.LOGS_PROT_BP_part : F.LOGS_PROT_BP.part = .rLogs := of_decide_eq_true rfl
theorem F.LOGS_REC_JRNL_part : F.LOGS_REC_JRNL.part = .rLogs := of_decide_eq_true rfl
theorem F.LOGS_REC_TALLY_part : F.LOGS_REC_TALLY.part = .rLogs := of_decide_eq_true rfl
theorem F.LOGS_BUF_DATA_part {i : Nat} : (F.LOGS_BUF_DATA i).part = .rLogs :=
  part_rLogs (by simp only [F.LOGS_BUF_DATA]; omega) (by simp only [F.LOGS_BUF_DATA]; omega) (by simp only [F.LOGS_BUF_DATA]; omega) (of_decide_eq_true rfl)
theorem F.MAN_CFG_EN_part {m : Nat} : (F.MAN_CFG_EN m).part = .rMan :=
  part_rMan (by simp only [F.MAN_CFG_EN]; omega) (by simp only [F.MAN_CFG_EN]; omega) (by simp only [F.MAN_CFG_EN]; omega) (of_decide_eq_true rfl)
theorem F.MAN_CFG_SIZE_part {m : Nat} : (F.MAN_CFG_SIZE m).part = .rMan :=
  part_rMan (by simp only [F.MAN_CFG_SIZE]; omega) (by simp only [F.MAN_CFG_SIZE]; omega) (by simp only [F.MAN_CFG_SIZE]; omega) (of_decide_eq_true rfl)
theorem F.MAN_BASE_ADDR_part {m : Nat} : (F.MAN_BASE_ADDR m).part = .rMan :=
  part_rMan (by simp only [F.MAN_BASE_ADDR]; omega) (by simp only [F.MAN_BASE_ADDR]; omega) (by simp only [F.MAN_BASE_ADDR]; omega) (of_decide_eq_true rfl)
theorem F.MAN_POP0_WORD_part {m : Nat} : (F.MAN_POP0_WORD m).part = .rMan :=
  part_rMan (by simp only [F.MAN_POP0_WORD]; omega) (by simp only [F.MAN_POP0_WORD]; omega) (by simp only [F.MAN_POP0_WORD]; omega) (of_decide_eq_true rfl)
theorem F.MAN_POP_WORD_part {m i : Nat} : (F.MAN_POP_WORD m i).part = .rMan :=
  part_rMan (by simp only [F.MAN_POP_WORD]; omega) (by simp only [F.MAN_POP_WORD]; omega) (by simp only [F.MAN_POP_WORD]; omega) (of_decide_eq_true rfl)
theorem F.MAN_LOST_LOST13_part {m : Nat} : (F.MAN_LOST_LOST13 m).part = .rMan :=
  part_rMan (by simp only [F.MAN_LOST_LOST13]; omega) (by simp only [F.MAN_LOST_LOST13]; omega) (by simp only [F.MAN_LOST_LOST13]; omega) (of_decide_eq_true rfl)
theorem F.MAN_LOST_LOST0_part {m : Nat} : (F.MAN_LOST_LOST0 m).part = .rMan :=
  part_rMan (by simp only [F.MAN_LOST_LOST0]; omega) (by simp only [F.MAN_LOST_LOST0]; omega) (by simp only [F.MAN_LOST_LOST0]; omega) (of_decide_eq_true rfl)
theorem F.MAN_SEQ_NEXT_part {m : Nat} : (F.MAN_SEQ_NEXT m).part = .rMan :=
  part_rMan (by simp only [F.MAN_SEQ_NEXT]; omega) (by simp only [F.MAN_SEQ_NEXT]; omega) (by simp only [F.MAN_SEQ_NEXT]; omega) (of_decide_eq_true rfl)
theorem F.MAN_ALIASCNT_COUNT_part {m : Nat} : (F.MAN_ALIASCNT_COUNT m).part = .rMan :=
  part_rMan (by simp only [F.MAN_ALIASCNT_COUNT]; omega) (by simp only [F.MAN_ALIASCNT_COUNT]; omega) (by simp only [F.MAN_ALIASCNT_COUNT]; omega) (of_decide_eq_true rfl)
theorem F.MAN_MASK_MASK_part {m i : Nat} : (F.MAN_MASK_MASK m i).part = .rMan :=
  part_rMan (by simp only [F.MAN_MASK_MASK]; omega) (by simp only [F.MAN_MASK_MASK]; omega) (by simp only [F.MAN_MASK_MASK]; omega) (of_decide_eq_true rfl)
theorem F.MAN_PEND_PEND_part {m i : Nat} : (F.MAN_PEND_PEND m i).part = .rMan :=
  part_rMan (by simp only [F.MAN_PEND_PEND]; omega) (by simp only [F.MAN_PEND_PEND]; omega) (by simp only [F.MAN_PEND_PEND]; omega) (of_decide_eq_true rfl)
theorem F.EVR_OVR_OVR_part : F.EVR_OVR_OVR.part = .rEvr := of_decide_eq_true rfl
theorem F.EVR_OVRH_OVR_part : F.EVR_OVRH_OVR.part = .rEvr := of_decide_eq_true rfl
theorem F.EVR_WFLAG_FLAG_part : F.EVR_WFLAG_FLAG.part = .rEvr := of_decide_eq_true rfl
theorem F.EVR_CNT_COUNT_part {i : Nat} : (F.EVR_CNT_COUNT i).part = .rEvr :=
  part_rEvr (by simp only [F.EVR_CNT_COUNT]; omega) (by simp only [F.EVR_CNT_COUNT]; omega) (by simp only [F.EVR_CNT_COUNT]; omega) (of_decide_eq_true rfl)
theorem F.EVR_CAPSTAT_FULL_part : F.EVR_CAPSTAT_FULL.part = .rEvr := of_decide_eq_true rfl
theorem F.EVR_CAPS_SEC_part {i : Nat} : (F.EVR_CAPS_SEC i).part = .rEvr :=
  part_rEvr (by simp only [F.EVR_CAPS_SEC]; omega) (by simp only [F.EVR_CAPS_SEC]; omega) (by simp only [F.EVR_CAPS_SEC]; omega) (of_decide_eq_true rfl)
theorem F.EVR_CAPF_FRAC_part {i : Nat} : (F.EVR_CAPF_FRAC i).part = .rEvr :=
  part_rEvr (by simp only [F.EVR_CAPF_FRAC]; omega) (by simp only [F.EVR_CAPF_FRAC]; omega) (by simp only [F.EVR_CAPF_FRAC]; omega) (of_decide_eq_true rfl)
theorem F.LGT_SUM_RUN_part : F.LGT_SUM_RUN.part = .rLgt := of_decide_eq_true rfl
theorem F.LGT_SUM_STALLED_part : F.LGT_SUM_STALLED.part = .rLgt := of_decide_eq_true rfl
theorem F.LGT_SUM_IMERR_part : F.LGT_SUM_IMERR.part = .rLgt := of_decide_eq_true rfl
theorem F.LGT_CFG_WRAP_BOT_part {i : Nat} : (F.LGT_CFG_WRAP_BOT i).part = .rLgt :=
  part_rLgt (by simp only [F.LGT_CFG_WRAP_BOT]; omega) (by simp only [F.LGT_CFG_WRAP_BOT]; omega) (by simp only [F.LGT_CFG_WRAP_BOT]; omega) (of_decide_eq_true rfl)
theorem F.LGT_CFG_WRAP_TOP_part {i : Nat} : (F.LGT_CFG_WRAP_TOP i).part = .rLgt :=
  part_rLgt (by simp only [F.LGT_CFG_WRAP_TOP]; omega) (by simp only [F.LGT_CFG_WRAP_TOP]; omega) (by simp only [F.LGT_CFG_WRAP_TOP]; omega) (of_decide_eq_true rfl)
theorem F.LGT_CFG_ORDER_part {i : Nat} : (F.LGT_CFG_ORDER i).part = .rLgt :=
  part_rLgt (by simp only [F.LGT_CFG_ORDER]; omega) (by simp only [F.LGT_CFG_ORDER]; omega) (by simp only [F.LGT_CFG_ORDER]; omega) (of_decide_eq_true rfl)
theorem F.LGT_CFG_AUTOFILL_part {i : Nat} : (F.LGT_CFG_AUTOFILL i).part = .rLgt :=
  part_rLgt (by simp only [F.LGT_CFG_AUTOFILL]; omega) (by simp only [F.LGT_CFG_AUTOFILL]; omega) (by simp only [F.LGT_CFG_AUTOFILL]; omega) (of_decide_eq_true rfl)
theorem F.LGT_CFG_AUTODRAIN_part {i : Nat} : (F.LGT_CFG_AUTODRAIN i).part = .rLgt :=
  part_rLgt (by simp only [F.LGT_CFG_AUTODRAIN]; omega) (by simp only [F.LGT_CFG_AUTODRAIN]; omega) (by simp only [F.LGT_CFG_AUTODRAIN]; omega) (of_decide_eq_true rfl)
theorem F.LGT_CFG_STEPW_part {i : Nat} : (F.LGT_CFG_STEPW i).part = .rLgt :=
  part_rLgt (by simp only [F.LGT_CFG_STEPW]; omega) (by simp only [F.LGT_CFG_STEPW]; omega) (by simp only [F.LGT_CFG_STEPW]; omega) (of_decide_eq_true rfl)
theorem F.LGT_CFG_LIB_part {i : Nat} : (F.LGT_CFG_LIB i).part = .rLgt :=
  part_rLgt (by simp only [F.LGT_CFG_LIB]; omega) (by simp only [F.LGT_CFG_LIB]; omega) (by simp only [F.LGT_CFG_LIB]; omega) (of_decide_eq_true rfl)
theorem F.LGT_DIV_FRAC_part {i : Nat} : (F.LGT_DIV_FRAC i).part = .rLgt :=
  part_rLgt (by simp only [F.LGT_DIV_FRAC]; omega) (by simp only [F.LGT_DIV_FRAC]; omega) (by simp only [F.LGT_DIV_FRAC]; omega) (of_decide_eq_true rfl)
theorem F.LGT_DIV_INT_part {i : Nat} : (F.LGT_DIV_INT i).part = .rLgt :=
  part_rLgt (by simp only [F.LGT_DIV_INT]; omega) (by simp only [F.LGT_DIV_INT]; omega) (by simp only [F.LGT_DIV_INT]; omega) (of_decide_eq_true rfl)
theorem F.LGT_STAT_STATE_part {i : Nat} : (F.LGT_STAT_STATE i).part = .rLgt :=
  part_rLgt (by simp only [F.LGT_STAT_STATE]; omega) (by simp only [F.LGT_STAT_STATE]; omega) (by simp only [F.LGT_STAT_STATE]; omega) (of_decide_eq_true rfl)
theorem F.LGT_STAT_WHY_part {i : Nat} : (F.LGT_STAT_WHY i).part = .rLgt :=
  part_rLgt (by simp only [F.LGT_STAT_WHY]; omega) (by simp only [F.LGT_STAT_WHY]; omega) (by simp only [F.LGT_STAT_WHY]; omega) (of_decide_eq_true rfl)
theorem F.LGT_STAT_ILL_part {i : Nat} : (F.LGT_STAT_ILL i).part = .rLgt :=
  part_rLgt (by simp only [F.LGT_STAT_ILL]; omega) (by simp only [F.LGT_STAT_ILL]; omega) (by simp only [F.LGT_STAT_ILL]; omega) (of_decide_eq_true rfl)
theorem F.LGT_STAT_PC_part {i : Nat} : (F.LGT_STAT_PC i).part = .rLgt :=
  part_rLgt (by simp only [F.LGT_STAT_PC]; omega) (by simp only [F.LGT_STAT_PC]; omega) (by simp only [F.LGT_STAT_PC]; omega) (of_decide_eq_true rfl)
theorem F.LGT_STAT_TO_part {i : Nat} : (F.LGT_STAT_TO i).part = .rLgt :=
  part_rLgt (by simp only [F.LGT_STAT_TO]; omega) (by simp only [F.LGT_STAT_TO]; omega) (by simp only [F.LGT_STAT_TO]; omega) (of_decide_eq_true rfl)
theorem F.LGT_STAT_SC_part {i : Nat} : (F.LGT_STAT_SC i).part = .rLgt :=
  part_rLgt (by simp only [F.LGT_STAT_SC]; omega) (by simp only [F.LGT_STAT_SC]; omega) (by simp only [F.LGT_STAT_SC]; omega) (of_decide_eq_true rfl)
theorem F.LGT_STAT_RC_part {i : Nat} : (F.LGT_STAT_RC i).part = .rLgt :=
  part_rLgt (by simp only [F.LGT_STAT_RC]; omega) (by simp only [F.LGT_STAT_RC]; omega) (by simp only [F.LGT_STAT_RC]; omega) (of_decide_eq_true rfl)
theorem F.LGT_FIFO_TXLVL_part {i : Nat} : (F.LGT_FIFO_TXLVL i).part = .rLgt :=
  part_rLgt (by simp only [F.LGT_FIFO_TXLVL]; omega) (by simp only [F.LGT_FIFO_TXLVL]; omega) (by simp only [F.LGT_FIFO_TXLVL]; omega) (of_decide_eq_true rfl)
theorem F.LGT_FIFO_RXLVL_part {i : Nat} : (F.LGT_FIFO_RXLVL i).part = .rLgt :=
  part_rLgt (by simp only [F.LGT_FIFO_RXLVL]; omega) (by simp only [F.LGT_FIFO_RXLVL]; omega) (by simp only [F.LGT_FIFO_RXLVL]; omega) (of_decide_eq_true rfl)
theorem F.LGT_FIFO_TXTH_part {i : Nat} : (F.LGT_FIFO_TXTH i).part = .rLgt :=
  part_rLgt (by simp only [F.LGT_FIFO_TXTH]; omega) (by simp only [F.LGT_FIFO_TXTH]; omega) (by simp only [F.LGT_FIFO_TXTH]; omega) (of_decide_eq_true rfl)
theorem F.LGT_FIFO_RXTH_part {i : Nat} : (F.LGT_FIFO_RXTH i).part = .rLgt :=
  part_rLgt (by simp only [F.LGT_FIFO_RXTH]; omega) (by simp only [F.LGT_FIFO_RXTH]; omega) (by simp only [F.LGT_FIFO_RXTH]; omega) (of_decide_eq_true rfl)
theorem F.LGT_FIFO_TXOVF_part {i : Nat} : (F.LGT_FIFO_TXOVF i).part = .rLgt :=
  part_rLgt (by simp only [F.LGT_FIFO_TXOVF]; omega) (by simp only [F.LGT_FIFO_TXOVF]; omega) (by simp only [F.LGT_FIFO_TXOVF]; omega) (of_decide_eq_true rfl)
theorem F.LGT_FIFO_RXUNF_part {i : Nat} : (F.LGT_FIFO_RXUNF i).part = .rLgt :=
  part_rLgt (by simp only [F.LGT_FIFO_RXUNF]; omega) (by simp only [F.LGT_FIFO_RXUNF]; omega) (by simp only [F.LGT_FIFO_RXUNF]; omega) (of_decide_eq_true rfl)
theorem F.LGT_FIFO_IMWR_part {i : Nat} : (F.LGT_FIFO_IMWR i).part = .rLgt :=
  part_rLgt (by simp only [F.LGT_FIFO_IMWR]; omega) (by simp only [F.LGT_FIFO_IMWR]; omega) (by simp only [F.LGT_FIFO_IMWR]; omega) (of_decide_eq_true rfl)
theorem F.LGT_SH_SH_part {i : Nat} : (F.LGT_SH_SH i).part = .rLgt :=
  part_rLgt (by simp only [F.LGT_SH_SH]; omega) (by simp only [F.LGT_SH_SH]; omega) (by simp only [F.LGT_SH_SH]; omega) (of_decide_eq_true rfl)
theorem F.LGT_LC_LC_part {i : Nat} : (F.LGT_LC_LC i).part = .rLgt :=
  part_rLgt (by simp only [F.LGT_LC_LC]; omega) (by simp only [F.LGT_LC_LC]; omega) (by simp only [F.LGT_LC_LC]; omega) (of_decide_eq_true rfl)
theorem F.LGT_LC_TM_part {i : Nat} : (F.LGT_LC_TM i).part = .rLgt :=
  part_rLgt (by simp only [F.LGT_LC_TM]; omega) (by simp only [F.LGT_LC_TM]; omega) (by simp only [F.LGT_LC_TM]; omega) (of_decide_eq_true rfl)
theorem F.LGT_MR_MR_part {i : Nat} : (F.LGT_MR_MR i).part = .rLgt :=
  part_rLgt (by simp only [F.LGT_MR_MR]; omega) (by simp only [F.LGT_MR_MR]; omega) (by simp only [F.LGT_MR_MR]; omega) (of_decide_eq_true rfl)
theorem F.LGT_THRS_FILLAT_part {i : Nat} : (F.LGT_THRS_FILLAT i).part = .rLgt :=
  part_rLgt (by simp only [F.LGT_THRS_FILLAT]; omega) (by simp only [F.LGT_THRS_FILLAT]; omega) (by simp only [F.LGT_THRS_FILLAT]; omega) (of_decide_eq_true rfl)
theorem F.LGT_THRS_DRAINAT_part {i : Nat} : (F.LGT_THRS_DRAINAT i).part = .rLgt :=
  part_rLgt (by simp only [F.LGT_THRS_DRAINAT]; omega) (by simp only [F.LGT_THRS_DRAINAT]; omega) (by simp only [F.LGT_THRS_DRAINAT]; omega) (of_decide_eq_true rfl)
theorem F.LGT_THRS_ICNT_part {i : Nat} : (F.LGT_THRS_ICNT i).part = .rLgt :=
  part_rLgt (by simp only [F.LGT_THRS_ICNT]; omega) (by simp only [F.LGT_THRS_ICNT]; omega) (by simp only [F.LGT_THRS_ICNT]; omega) (of_decide_eq_true rfl)
theorem F.LGT_IMEM_WORD_part {i j : Nat} : (F.LGT_IMEM_WORD i j).part = .rLgt :=
  part_rLgt (by simp only [F.LGT_IMEM_WORD]; omega) (by simp only [F.LGT_IMEM_WORD]; omega) (by simp only [F.LGT_IMEM_WORD]; omega) (of_decide_eq_true rfl)
theorem F.UART_STAT_RXLVL_part {u : Nat} : (F.UART_STAT_RXLVL u).part = .rUart :=
  part_rUart (by simp only [F.UART_STAT_RXLVL]; omega) (by simp only [F.UART_STAT_RXLVL]; omega) (by simp only [F.UART_STAT_RXLVL]; omega) (of_decide_eq_true rfl)
theorem F.UART_STAT_TXLVL_part {u : Nat} : (F.UART_STAT_TXLVL u).part = .rUart :=
  part_rUart (by simp only [F.UART_STAT_TXLVL]; omega) (by simp only [F.UART_STAT_TXLVL]; omega) (by simp only [F.UART_STAT_TXLVL]; omega) (of_decide_eq_true rfl)
theorem F.UART_STAT_OVR_part {u : Nat} : (F.UART_STAT_OVR u).part = .rUart :=
  part_rUart (by simp only [F.UART_STAT_OVR]; omega) (by simp only [F.UART_STAT_OVR]; omega) (by simp only [F.UART_STAT_OVR]; omega) (of_decide_eq_true rfl)
theorem F.UART_STAT_TXOVF_part {u : Nat} : (F.UART_STAT_TXOVF u).part = .rUart :=
  part_rUart (by simp only [F.UART_STAT_TXOVF]; omega) (by simp only [F.UART_STAT_TXOVF]; omega) (by simp only [F.UART_STAT_TXOVF]; omega) (of_decide_eq_true rfl)
theorem F.UART_STAT_BRK_part {u : Nat} : (F.UART_STAT_BRK u).part = .rUart :=
  part_rUart (by simp only [F.UART_STAT_BRK]; omega) (by simp only [F.UART_STAT_BRK]; omega) (by simp only [F.UART_STAT_BRK]; omega) (of_decide_eq_true rfl)
theorem F.UART_STAT_LINE_FAULT_part {u : Nat} : (F.UART_STAT_LINE_FAULT u).part = .rUart :=
  part_rUart (by simp only [F.UART_STAT_LINE_FAULT]; omega) (by simp only [F.UART_STAT_LINE_FAULT]; omega) (by simp only [F.UART_STAT_LINE_FAULT]; omega) (of_decide_eq_true rfl)
theorem F.UART_STAT_WAKE_LOST_part {u : Nat} : (F.UART_STAT_WAKE_LOST u).part = .rUart :=
  part_rUart (by simp only [F.UART_STAT_WAKE_LOST]; omega) (by simp only [F.UART_STAT_WAKE_LOST]; omega) (by simp only [F.UART_STAT_WAKE_LOST]; omega) (of_decide_eq_true rfl)
theorem F.UART_STAT_LOSTN_part {u : Nat} : (F.UART_STAT_LOSTN u).part = .rUart :=
  part_rUart (by simp only [F.UART_STAT_LOSTN]; omega) (by simp only [F.UART_STAT_LOSTN]; omega) (by simp only [F.UART_STAT_LOSTN]; omega) (of_decide_eq_true rfl)
theorem F.UART_RXSTS_SEC_part {u : Nat} : (F.UART_RXSTS_SEC u).part = .rUart :=
  part_rUart (by simp only [F.UART_RXSTS_SEC]; omega) (by simp only [F.UART_RXSTS_SEC]; omega) (by simp only [F.UART_RXSTS_SEC]; omega) (of_decide_eq_true rfl)
theorem F.UART_RXSTF_FRAC_part {u : Nat} : (F.UART_RXSTF_FRAC u).part = .rUart :=
  part_rUart (by simp only [F.UART_RXSTF_FRAC]; omega) (by simp only [F.UART_RXSTF_FRAC]; omega) (by simp only [F.UART_RXSTF_FRAC]; omega) (of_decide_eq_true rfl)
theorem F.UART_TXSTS_SEC_part {u : Nat} : (F.UART_TXSTS_SEC u).part = .rUart :=
  part_rUart (by simp only [F.UART_TXSTS_SEC]; omega) (by simp only [F.UART_TXSTS_SEC]; omega) (by simp only [F.UART_TXSTS_SEC]; omega) (of_decide_eq_true rfl)
theorem F.UART_TXSTF_FRAC_part {u : Nat} : (F.UART_TXSTF_FRAC u).part = .rUart :=
  part_rUart (by simp only [F.UART_TXSTF_FRAC]; omega) (by simp only [F.UART_TXSTF_FRAC]; omega) (by simp only [F.UART_TXSTF_FRAC]; omega) (of_decide_eq_true rfl)
theorem F.UART_STCNT_RX_part {u : Nat} : (F.UART_STCNT_RX u).part = .rUart :=
  part_rUart (by simp only [F.UART_STCNT_RX]; omega) (by simp only [F.UART_STCNT_RX]; omega) (by simp only [F.UART_STCNT_RX]; omega) (of_decide_eq_true rfl)
theorem F.UART_STCNT_RXCOARSE_part {u : Nat} : (F.UART_STCNT_RXCOARSE u).part = .rUart :=
  part_rUart (by simp only [F.UART_STCNT_RXCOARSE]; omega) (by simp only [F.UART_STCNT_RXCOARSE]; omega) (by simp only [F.UART_STCNT_RXCOARSE]; omega) (of_decide_eq_true rfl)
theorem F.UART_STCNT_TX_part {u : Nat} : (F.UART_STCNT_TX u).part = .rUart :=
  part_rUart (by simp only [F.UART_STCNT_TX]; omega) (by simp only [F.UART_STCNT_TX]; omega) (by simp only [F.UART_STCNT_TX]; omega) (of_decide_eq_true rfl)
theorem F.UART_STCNT_TXCOARSE_part {u : Nat} : (F.UART_STCNT_TXCOARSE u).part = .rUart :=
  part_rUart (by simp only [F.UART_STCNT_TXCOARSE]; omega) (by simp only [F.UART_STCNT_TXCOARSE]; omega) (by simp only [F.UART_STCNT_TXCOARSE]; omega) (of_decide_eq_true rfl)
theorem F.I2CT_STAT_RXLVL_part : F.I2CT_STAT_RXLVL.part = .rI2ct := of_decide_eq_true rfl
theorem F.I2CT_STAT_TXLVL_part : F.I2CT_STAT_TXLVL.part = .rI2ct := of_decide_eq_true rfl
theorem F.I2CT_STAT_BUSY_part : F.I2CT_STAT_BUSY.part = .rI2ct := of_decide_eq_true rfl
theorem F.I2CT_STAT_RW_part : F.I2CT_STAT_RW.part = .rI2ct := of_decide_eq_true rfl
theorem F.I2CT_STAT_TMO_part : F.I2CT_STAT_TMO.part = .rI2ct := of_decide_eq_true rfl
theorem F.SPI_STAT_RXLVL_part {k : Nat} : (F.SPI_STAT_RXLVL k).part = .rSpi :=
  part_rSpi (by simp only [F.SPI_STAT_RXLVL]; omega) (by simp only [F.SPI_STAT_RXLVL]; omega) (by simp only [F.SPI_STAT_RXLVL]; omega) (of_decide_eq_true rfl)
theorem F.SPI_STAT_TXLVL_part {k : Nat} : (F.SPI_STAT_TXLVL k).part = .rSpi :=
  part_rSpi (by simp only [F.SPI_STAT_TXLVL]; omega) (by simp only [F.SPI_STAT_TXLVL]; omega) (by simp only [F.SPI_STAT_TXLVL]; omega) (of_decide_eq_true rfl)
theorem F.SPI_STAT_BUSY_part {k : Nat} : (F.SPI_STAT_BUSY k).part = .rSpi :=
  part_rSpi (by simp only [F.SPI_STAT_BUSY]; omega) (by simp only [F.SPI_STAT_BUSY]; omega) (by simp only [F.SPI_STAT_BUSY]; omega) (of_decide_eq_true rfl)
theorem F.SPI_STAT_UDR_part {k : Nat} : (F.SPI_STAT_UDR k).part = .rSpi :=
  part_rSpi (by simp only [F.SPI_STAT_UDR]; omega) (by simp only [F.SPI_STAT_UDR]; omega) (by simp only [F.SPI_STAT_UDR]; omega) (of_decide_eq_true rfl)
theorem F.SPI_STAT_OVR_part {k : Nat} : (F.SPI_STAT_OVR k).part = .rSpi :=
  part_rSpi (by simp only [F.SPI_STAT_OVR]; omega) (by simp only [F.SPI_STAT_OVR]; omega) (by simp only [F.SPI_STAT_OVR]; omega) (of_decide_eq_true rfl)
theorem F.SPI_STAT_CSABORT_part {k : Nat} : (F.SPI_STAT_CSABORT k).part = .rSpi :=
  part_rSpi (by simp only [F.SPI_STAT_CSABORT]; omega) (by simp only [F.SPI_STAT_CSABORT]; omega) (by simp only [F.SPI_STAT_CSABORT]; omega) (of_decide_eq_true rfl)
theorem F.DMA_CFG_EN_part {i : Nat} : (F.DMA_CFG_EN i).part = .rDma :=
  part_rDma (by simp only [F.DMA_CFG_EN]; omega) (by simp only [F.DMA_CFG_EN]; omega) (by simp only [F.DMA_CFG_EN]; omega) (of_decide_eq_true rfl)
theorem F.DMA_STAT_UE_part {i : Nat} : (F.DMA_STAT_UE i).part = .rDma :=
  part_rDma (by simp only [F.DMA_STAT_UE]; omega) (by simp only [F.DMA_STAT_UE]; omega) (by simp only [F.DMA_STAT_UE]; omega) (of_decide_eq_true rfl)
theorem F.DMA_STAT_BUSERR_part {i : Nat} : (F.DMA_STAT_BUSERR i).part = .rDma :=
  part_rDma (by simp only [F.DMA_STAT_BUSERR]; omega) (by simp only [F.DMA_STAT_BUSERR]; omega) (by simp only [F.DMA_STAT_BUSERR]; omega) (of_decide_eq_true rfl)
theorem F.DMA_STAT_FLUSHED_part {i : Nat} : (F.DMA_STAT_FLUSHED i).part = .rDma :=
  part_rDma (by simp only [F.DMA_STAT_FLUSHED]; omega) (by simp only [F.DMA_STAT_FLUSHED]; omega) (by simp only [F.DMA_STAT_FLUSHED]; omega) (of_decide_eq_true rfl)
theorem F.DMA_STAT_LEFT_part {i : Nat} : (F.DMA_STAT_LEFT i).part = .rDma :=
  part_rDma (by simp only [F.DMA_STAT_LEFT]; omega) (by simp only [F.DMA_STAT_LEFT]; omega) (by simp only [F.DMA_STAT_LEFT]; omega) (of_decide_eq_true rfl)
theorem F.ADC_CFG_MODE_part : F.ADC_CFG_MODE.part = .rAdc := of_decide_eq_true rfl
theorem F.ADC_STAT_BUSY_part : F.ADC_STAT_BUSY.part = .rAdc := of_decide_eq_true rfl
theorem F.ADC_STAT_READY_part : F.ADC_STAT_READY.part = .rAdc := of_decide_eq_true rfl
theorem F.ADC_STAT_CAL_OK_part : F.ADC_STAT_CAL_OK.part = .rAdc := of_decide_eq_true rfl
theorem F.ADC_STAT_OVR_part : F.ADC_STAT_OVR.part = .rAdc := of_decide_eq_true rfl
theorem F.ADC_STAT_WIN_part : F.ADC_STAT_WIN.part = .rAdc := of_decide_eq_true rfl
theorem F.ADC_STAT_CFGERR_part : F.ADC_STAT_CFGERR.part = .rAdc := of_decide_eq_true rfl
theorem F.ADC_STAT_UNF_part : F.ADC_STAT_UNF.part = .rAdc := of_decide_eq_true rfl
theorem F.ADC_STAT_LVL_part : F.ADC_STAT_LVL.part = .rAdc := of_decide_eq_true rfl
theorem F.ADC_REF_EN_part : F.ADC_REF_EN.part = .rAdc := of_decide_eq_true rfl
theorem F.ADC_REF_SEL_part : F.ADC_REF_SEL.part = .rAdc := of_decide_eq_true rfl
theorem F.ADC_COEF_OFS_part {i : Nat} : (F.ADC_COEF_OFS i).part = .rAdc :=
  part_rAdc (by simp only [F.ADC_COEF_OFS]; omega) (by simp only [F.ADC_COEF_OFS]; omega) (by simp only [F.ADC_COEF_OFS]; omega) (of_decide_eq_true rfl)
theorem F.ADC_COEF_GAIN_part {i : Nat} : (F.ADC_COEF_GAIN i).part = .rAdc :=
  part_rAdc (by simp only [F.ADC_COEF_GAIN]; omega) (by simp only [F.ADC_COEF_GAIN]; omega) (by simp only [F.ADC_COEF_GAIN]; omega) (of_decide_eq_true rfl)
theorem F.ADC_COEF_SKEW_part {i : Nat} : (F.ADC_COEF_SKEW i).part = .rAdc :=
  part_rAdc (by simp only [F.ADC_COEF_SKEW]; omega) (by simp only [F.ADC_COEF_SKEW]; omega) (by simp only [F.ADC_COEF_SKEW]; omega) (of_decide_eq_true rfl)
theorem F.TOUCH_CFG_MODE_part : F.TOUCH_CFG_MODE.part = .rTouch := of_decide_eq_true rfl
theorem F.TOUCH_CFG_PULSES_part : F.TOUCH_CFG_PULSES.part = .rTouch := of_decide_eq_true rfl
theorem F.TOUCH_STAT_BUSY_part : F.TOUCH_STAT_BUSY.part = .rTouch := of_decide_eq_true rfl
theorem F.TOUCH_STAT_TESTING_part : F.TOUCH_STAT_TESTING.part = .rTouch := of_decide_eq_true rfl
theorem F.TOUCH_STAT_LATE_part : F.TOUCH_STAT_LATE.part = .rTouch := of_decide_eq_true rfl
theorem F.TOUCH_STAT_NOREF_part : F.TOUCH_STAT_NOREF.part = .rTouch := of_decide_eq_true rfl
theorem F.TOUCH_STAT_REFERR_part : F.TOUCH_STAT_REFERR.part = .rTouch := of_decide_eq_true rfl
theorem F.TOUCH_STAT_DISCARD_part : F.TOUCH_STAT_DISCARD.part = .rTouch := of_decide_eq_true rfl
theorem F.TOUCH_THR_HYST_part : F.TOUCH_THR_HYST.part = .rTouch := of_decide_eq_true rfl
theorem F.TOUCH_BL_BLRATE_part : F.TOUCH_BL_BLRATE.part = .rTouch := of_decide_eq_true rfl
theorem F.TOUCH_BL_ONDEB_part : F.TOUCH_BL_ONDEB.part = .rTouch := of_decide_eq_true rfl
theorem F.TOUCH_BL_NEGTH_part : F.TOUCH_BL_NEGTH.part = .rTouch := of_decide_eq_true rfl
theorem F.TOUCH_ONTIME_S_part : F.TOUCH_ONTIME_S.part = .rTouch := of_decide_eq_true rfl
theorem F.TOUCH_DQI_DQIWIN_part : F.TOUCH_DQI_DQIWIN.part = .rTouch := of_decide_eq_true rfl
theorem F.TOUCH_PROX_DET_part : F.TOUCH_PROX_DET.part = .rTouch := of_decide_eq_true rfl
theorem F.TOUCH_PROXRAW_RAW_part : F.TOUCH_PROXRAW_RAW.part = .rTouch := of_decide_eq_true rfl
theorem F.TOUCH_PROXRAW_BASE_part : F.TOUCH_PROXRAW_BASE.part = .rTouch := of_decide_eq_true rfl
theorem F.TOUCH_TEST_XTH_part : F.TOUCH_TEST_XTH.part = .rTouch := of_decide_eq_true rfl
theorem F.TOUCH_OPEN_MASK_part : F.TOUCH_OPEN_MASK.part = .rTouch := of_decide_eq_true rfl
theorem F.TOUCH_SHORT_MASK_part : F.TOUCH_SHORT_MASK.part = .rTouch := of_decide_eq_true rfl
theorem F.TOUCH_KEY_ON_part {i : Nat} : (F.TOUCH_KEY_ON i).part = .rTouch :=
  part_rTouch (by simp only [F.TOUCH_KEY_ON]; omega) (by simp only [F.TOUCH_KEY_ON]; omega) (by simp only [F.TOUCH_KEY_ON]; omega) (of_decide_eq_true rfl)
theorem F.TOUCH_RAW_RAW_part {i : Nat} : (F.TOUCH_RAW_RAW i).part = .rTouch :=
  part_rTouch (by simp only [F.TOUCH_RAW_RAW]; omega) (by simp only [F.TOUCH_RAW_RAW]; omega) (by simp only [F.TOUCH_RAW_RAW]; omega) (of_decide_eq_true rfl)
theorem F.TOUCH_RAW_BASE_part {i : Nat} : (F.TOUCH_RAW_BASE i).part = .rTouch :=
  part_rTouch (by simp only [F.TOUCH_RAW_BASE]; omega) (by simp only [F.TOUCH_RAW_BASE]; omega) (by simp only [F.TOUCH_RAW_BASE]; omega) (of_decide_eq_true rfl)
theorem F.TOUCH_KST_STATE_part {i : Nat} : (F.TOUCH_KST_STATE i).part = .rTouch :=
  part_rTouch (by simp only [F.TOUCH_KST_STATE]; omega) (by simp only [F.TOUCH_KST_STATE]; omega) (by simp only [F.TOUCH_KST_STATE]; omega) (of_decide_eq_true rfl)
theorem F.TOUCH_KST_START_part {i : Nat} : (F.TOUCH_KST_START i).part = .rTouch :=
  part_rTouch (by simp only [F.TOUCH_KST_START]; omega) (by simp only [F.TOUCH_KST_START]; omega) (by simp only [F.TOUCH_KST_START]; omega) (of_decide_eq_true rfl)
theorem F.TOUCH_KST_DELTA_part {i : Nat} : (F.TOUCH_KST_DELTA i).part = .rTouch :=
  part_rTouch (by simp only [F.TOUCH_KST_DELTA]; omega) (by simp only [F.TOUCH_KST_DELTA]; omega) (by simp only [F.TOUCH_KST_DELTA]; omega) (of_decide_eq_true rfl)
theorem F.CRYPTO_SFCFG_AUTO_part : F.CRYPTO_SFCFG_AUTO.part = .rCrypto := of_decide_eq_true rfl
theorem F.CRYPTO_SFCFG_EN_part : F.CRYPTO_SFCFG_EN.part = .rCrypto := of_decide_eq_true rfl
theorem F.CRYPTO_SFCFG_KEEP_part : F.CRYPTO_SFCFG_KEEP.part = .rCrypto := of_decide_eq_true rfl
theorem F.CRYPTO_SFCFG_SIZE_part : F.CRYPTO_SFCFG_SIZE.part = .rCrypto := of_decide_eq_true rfl
theorem F.CRYPTO_SFCFG_DIV_part : F.CRYPTO_SFCFG_DIV.part = .rCrypto := of_decide_eq_true rfl
theorem F.CRYPTO_SFBASE_ADDR_part : F.CRYPTO_SFBASE_ADDR.part = .rCrypto := of_decide_eq_true rfl
theorem F.CRYPTO_SFHEAD_IDX_part : F.CRYPTO_SFHEAD_IDX.part = .rCrypto := of_decide_eq_true rfl
theorem F.CRYPTO_SFTAIL_IDX_part : F.CRYPTO_SFTAIL_IDX.part = .rCrypto := of_decide_eq_true rfl
theorem F.CRYPTO_SFSTAT_DROPPED_part : F.CRYPTO_SFSTAT_DROPPED.part = .rCrypto := of_decide_eq_true rfl
theorem F.CRYPTO_SFSTAT_LAST_part : F.CRYPTO_SFSTAT_LAST.part = .rCrypto := of_decide_eq_true rfl
theorem F.CRYPTO_KEY_READY_part : F.CRYPTO_KEY_READY.part = .rCrypto := of_decide_eq_true rfl
theorem F.CRYPTO_KEY_BUSY_part : F.CRYPTO_KEY_BUSY.part = .rCrypto := of_decide_eq_true rfl
theorem F.CRYPTO_KEY_QLVL_part : F.CRYPTO_KEY_QLVL.part = .rCrypto := of_decide_eq_true rfl
theorem F.GPIO_OUT0_OUT_part : F.GPIO_OUT0_OUT.part = .rGpio := of_decide_eq_true rfl
theorem F.GPIO_OUT1_OUT_part : F.GPIO_OUT1_OUT.part = .rGpio := of_decide_eq_true rfl
theorem F.GPIO_WAKESTAT0_WAKE_part : F.GPIO_WAKESTAT0_WAKE.part = .rGpio := of_decide_eq_true rfl
theorem F.GPIO_WAKESTAT1_WAKE_part : F.GPIO_WAKESTAT1_WAKE.part = .rGpio := of_decide_eq_true rfl

end Sys2Proof.Machine
end

