-- ==== Sys2Proof/Laws/FrameOps.lean ====
section
/-! SUPPORT. The frames of the operations and commands of Machine/Ops.lean: what each can change. -/

namespace Sys2Proof.Machine

theorem Man.block_part {m : Man} : m.block.part = .rMan := by cases m <;> rfl

theorem State.spend_frame {s} : Frame [.free] s (State.spend s) := by
  unfold State.spend
  exact (Frame.mono State.set_free_frame rfl)

theorem State.spendN_frame {s a1} : Frame [.free] s (State.spendN s a1) := by
  unfold State.spendN
  exact (Frame.mono State.set_free_frame rfl)

theorem State.freshCheck_frame {s a1} : Frame [.chk] s (State.freshCheck s a1) := by
  unfold State.freshCheck
  exact (Frame.mono State.setCheck_frame rfl)

theorem State.writeBlock_frame {s a1 a2} : Frame [.mem, .chk] s (State.writeBlock s a1 a2) := by
  unfold State.writeBlock
  exact (Frame.after (Frame.mono State.freshCheck_frame rfl) (Frame.mono State.setBytes_frame rfl))

theorem State.setSess_frame {s a1 a2} : Frame [.console] s (State.setSess s a1 a2) := by
  unfold State.setSess
  exact (Frame.mono State.set_console_frame rfl)

theorem State.setCore_frame {s a1 a2} : Frame [.app, .sys] s (State.setCore s a1 a2) := by
  unfold State.setCore
  exact (by (first | (dsimp only; split) | split); exact (Frame.mono State.set_app_frame rfl); exact (Frame.mono State.set_sys_frame rfl))

theorem State.setMan_frame {s a1 a2} : Frame [.manApp, .manSys] s (State.setMan s a1 a2) := by
  unfold State.setMan
  exact (by (first | (dsimp only; split) | split); exact (Frame.mono State.set_manApp_frame rfl); exact (Frame.mono State.set_manSys_frame rfl))

end Sys2Proof.Machine
end

