-- ==== Sys2Proof/Laws/FrameBanks.lean ====
section
/-! SUPPORT. The frames of the operations and commands of Machine/Banks.lean: what each can change. -/

namespace Sys2Proof.Machine

theorem State.setBad_frame {s : State} {r : Nat} {b : Bool} :
    Frame [.mem, .chk, .mems] s
      { s.clearMem (regionRange r).1 (regionRange r).2 with
        mems := { (s.clearMem (regionRange r).1 (regionRange r).2).mems with bad := withBit s.mems.bad r b } } := by
  refine ⟨fun w => ⟨w.1, Store.wf_clear _ _ w.2.1, ?_⟩, fun _ _ => rfl, fun p hp => ?_⟩
  · have hc := Store.wf_clear ((regionRange r).1 / 16) ((regionRange r).2 / 16) w.2.2
    rw [Store.wf_iff] at hc ⊢
    refine ⟨hc.1, fun c hm => ?_⟩
    have h1 := hc.2 c hm
    have h2 : chkDefault (withBit s.mems.bad r b) c.1 = chkDefault s.mems.bad c.1 := by
      have hout : ¬((regionRange r).1 / 16 ≤ c.1 ∧ c.1 < (regionRange r).2 / 16) := by
        have := (List.mem_filter.mp hm).2
        simp at this
        omega
      unfold chkDefault
      cases hr : regionOf (c.1 * 16) with
      | none => rfl
      | some j =>
        by_cases hj : j = r
        · subst hj
          have := regionOf_range hr
          exfalso
          apply hout
          have hm : (regionRange j).2 % 16 = 0 := by
            unfold regionRange; repeat' split
            all_goals simp <;> omega
          omega
        · simp only [bitOf_withBit hj]
    show c.2 ≠ chkDefault (withBit s.mems.bad r b) c.1
    rw [h2]; exact h1
  · cases p <;> first | exact trivial | rfl | exact absurd (by decide) hp
theorem State.loseMem_frame {s r} : Frame [.mem, .chk, .mems] s (State.loseMem s r) := State.setBad_frame

theorem State.zeroMem_frame {s r} : Frame [.mem, .chk, .mems] s (State.zeroMem s r) := State.setBad_frame

theorem State.sramOff_frame {s a1} : Frame [.mem, .chk, .mems] s (State.sramOff s a1) := by
  unfold State.sramOff
  exact (Frame.foldl (fun _ _ => (Frame.ite Frame.refl (Frame.mono State.loseMem_frame rfl))) _ _)

theorem State.sramOn_frame {s a1} : Frame [.rPwr, .rMemctl] s (State.sramOn s a1) := by
  unfold State.sramOn
  exact (Frame.ite Frame.refl (Frame.after (Frame.foldl (fun _ _ => (Frame.ite Frame.refl (State.put_frame
      F.MEMCTL_LOST_BANK_part rfl))) _ _) (State.put_frame F.PWR_DOMS_PG_part rfl)))

theorem State.sramFor_frame {s a1} : Frame [.rPwr, .rMemctl] s (State.sramFor s a1) := by
  unfold State.sramFor
  exact (Frame.ite (Frame.mono State.sramOn_frame rfl) Frame.refl)

theorem State.initRing_frame {s a1 a2} : Frame [.rPwr, .rMemctl, .mem, .chk, .mems] s (State.initRing s a1 a2) := by
  unfold State.initRing
  exact (Frame.foldl (fun _ _ => (Frame.after (State.put_frame F.MEMCTL_LOST_BANK_part rfl) (Frame.after
      (Frame.mono State.zeroMem_frame rfl) (Frame.mono State.sramOn_frame rfl)))) _ _)

end Sys2Proof.Machine
end

