-- ==== Sys2Proof/Laws/FrameManifest.lean ====
section
/-! SUPPORT. The frames of the operations and commands of Machine/Manifest.lean: what each can change. -/

namespace Sys2Proof.Machine

theorem State.setPend_frame {s a1 a2 a3} : Frame [.rMan] s (State.setPend s a1 a2 a3) := by
  unfold State.setPend
  exact (State.put_frame F.MAN_PEND_PEND_part rfl)

theorem State.formRecord_frame {s a1 a2 a3 a4 a5} : Frame [.rPwr, .rMan, .rMemctl, .mem, .chk, .manApp, .manSys] s
    (State.formRecord s a1 a2 a3 a4 a5) := by
  unfold State.formRecord
  exact (Frame.ite (Frame.after (Frame.mono State.setMan_frame rfl) (State.put_frame F.MAN_SEQ_NEXT_part rfl)) (Frame.ite (Frame.after (Frame.mono State.setMan_frame rfl) (Frame.after (Frame.mono State.writeBlock_frame rfl) (Frame.after (Frame.mono State.sramFor_frame rfl) (State.put_frame F.MAN_SEQ_NEXT_part rfl)))) (Frame.after (Frame.mono State.setMan_frame rfl) (Frame.after (State.count_frame (by split; exact F.MAN_LOST_LOST0_part; exact F.MAN_LOST_LOST13_part) rfl) (State.put_frame F.MAN_SEQ_NEXT_part rfl)))))

theorem State.sourceIn_frame {s a1 a2 a3 a4} : Frame [.rPwr, .rMan, .rMemctl, .mem, .chk, .manApp, .manSys] s
    (State.sourceIn s a1 a2 a3 a4) := by
  unfold State.sourceIn
  exact (Frame.ite (Frame.mono State.setPend_frame rfl) (Frame.after (Frame.mono State.formRecord_frame rfl)
      (Frame.mono State.setPend_frame rfl)))

theorem State.source_frame {s a1 a2 a3} : Frame [.rPwr, .rMan, .rMemctl, .mem, .chk, .manApp, .manSys, .power] s
    (State.source s a1 a2 a3) := by
  unfold State.source
  exact (Frame.ite (Frame.mono State.set_power_frame rfl) (Frame.after (Frame.mono State.sourceIn_frame rfl)
      (Frame.mono State.sourceIn_frame rfl)))

theorem State.wakeRecords_frame {s} : Frame [.rPwr, .rMan, .rMemctl, .mem, .chk, .manApp, .manSys, .power] s
    (State.wakeRecords s) := by
  unfold State.wakeRecords
  exact (Frame.after (Frame.foldl (fun _ _ => (Frame.ite (Frame.foldl (fun _ _ => (Frame.ite (Frame.mono
      State.setPend_frame rfl) (Frame.after (Frame.mono State.formRecord_frame rfl) (Frame.mono State.setPend_frame
      rfl)))) _ _) Frame.refl)) _ _) (Frame.mono State.set_power_frame rfl))

theorem State.removeRecord_frame {s a1 a2} : Frame [.rMan, .manApp, .manSys] s (State.removeRecord s a1 a2) := by
  unfold State.removeRecord
  exact (Frame.ite (Frame.mono State.setMan_frame rfl) (Frame.after (Frame.mono State.setPend_frame rfl)
      (Frame.mono State.setMan_frame rfl)))

theorem State.putPop_frame {s a1 a2} : Frame [.rMan] s (State.putPop s a1 a2) := by
  unfold State.putPop
  exact (State.puts_cons_frame F.MAN_POP0_WORD_part rfl (State.puts_cons_frame F.MAN_POP_WORD_part rfl
      (State.puts_cons_frame F.MAN_POP_WORD_part rfl (State.puts_cons_frame F.MAN_POP_WORD_part rfl
      State.puts_nil_frame))))

theorem State.popRead_frame {s a1 a2} : Frame [.rMan, .busData, .manApp, .manSys] s (State.popRead s a1 a2) := by
  unfold State.popRead
  exact (Frame.ite (Frame.mono State.set_busData_frame rfl) (by (first | (dsimp only; split) | split); exact (Frame.after (Frame.mono State.set_busData_frame rfl) (Frame.mono State.putPop_frame rfl)); exact (Frame.after (Frame.mono State.set_busData_frame rfl) (Frame.after (Frame.mono State.putPop_frame rfl) (Frame.mono State.removeRecord_frame rfl)))))

theorem State.writeMask_frame {s a1 a2 a3} : Frame [.rPwr, .rMan, .rMemctl, .mem, .chk, .manApp, .manSys] s
    (State.writeMask s a1 a2 a3) := by
  unfold State.writeMask
  exact (Frame.after (Frame.foldl (fun _ _ => (Frame.ite (Frame.mono State.formRecord_frame rfl) Frame.refl)) _ _)
      (State.put_frame F.MAN_MASK_MASK_part rfl))

theorem State.discardRing_frame {s a1} : Frame [.rMan, .manApp, .manSys] s (State.discardRing s a1) := by
  unfold State.discardRing
  exact (Frame.after (Frame.mono State.setMan_frame rfl) (Frame.after (State.countBy_frame F.MAN_LOST_LOST0_part
      rfl) (State.countBy_frame F.MAN_LOST_LOST13_part rfl)))

theorem State.writeManCfg_frame {s a1 a2 a3} : Frame [.rMan, .manApp, .manSys] s (State.writeManCfg s a1 a2 a3) := by
  unfold State.writeManCfg
  exact (Frame.ite (State.deny_frame (by rw [Man.block_part]; rfl)) (Frame.ite (State.deny_frame (by rw [Man.block_part]; rfl)) (Frame.ite (State.deny_frame (by rw [Man.block_part]; rfl)) (Frame.after (State.put_frame F.MAN_CFG_SIZE_part rfl) (Frame.after (State.flag_frame F.MAN_CFG_EN_part rfl) (Frame.ite (Frame.mono State.discardRing_frame rfl) Frame.refl))))))

theorem State.manAppReset_frame {s} : Frame [.rMan, .manApp, .manSys] s (State.manAppReset s) := by
  unfold State.manAppReset
  exact (Frame.after (State.put_frame F.MAN_CFG_EN_part rfl) (Frame.mono State.discardRing_frame rfl))

end Sys2Proof.Machine
end

