-- ==== Sys2Proof/Laws/FrameQuay.lean ====
section
/-! SUPPORT. The frames of the operations and commands of Machine/Quay.lean: what each can change. -/

namespace Sys2Proof.Machine

theorem State.reportLost_frame {s a1} : Frame [.rPwr, .rMan, .rMemctl, .mem, .chk, .console, .manApp, .manSys,
    .power] s (State.reportLost s a1) := by
  unfold State.reportLost
  exact (Frame.ite Frame.refl (Frame.ite (Frame.after (Frame.mono State.source_frame rfl) (Frame.mono
      State.setSess_frame rfl)) Frame.refl))

theorem State.ringWrite_frame {s i l} : Frame [.mem] s (State.ringWrite s i l) := by
  induction l generalizing s i with
  | nil => exact Frame.refl
  | cons c r ih => exact State.setByte_frame.trans ih

theorem State.quayLine_frame {s a1} : Frame [.rPwr, .rMan, .rMemctl, .rQuay, .mem, .chk, .manApp, .manSys] s
    (State.quayLine s a1) := by
  unfold State.quayLine
  exact (Frame.ite (Frame.after (Frame.mono State.sourceIn_frame rfl) (Frame.after (State.put_frame
      F.QUAY_RHEAD_part rfl) (Frame.mono State.ringWrite_frame rfl))) (State.put_frame F.QUAY_OVERRUN_part rfl))

theorem State.afterSent_frame {s a1 a2} : Frame [.console] s (State.afterSent s a1 a2) := by
  unfold State.afterSent
  exact (by (first | (dsimp only; split) | split); exact Frame.refl; exact (Frame.mono State.set_console_frame rfl); exact (Frame.mono State.setSess_frame rfl); exact (Frame.mono State.set_console_frame rfl))

theorem State.emit_frame {s a1 a2 a3 a4 a5 a6} : Frame [.rPwr, .rMan, .rMemctl, .rQuay, .mem, .chk, .console,
    .manApp, .manSys, .power] s (State.emit s a1 a2 a3 a4 a5 a6) := by
  unfold State.emit
  exact (by (first | (dsimp only; split) | split); exact (Frame.after (Frame.mono State.afterSent_frame rfl) (Frame.mono State.quayLine_frame rfl)); exact (Frame.ite (Frame.after (Frame.mono State.reportLost_frame rfl) (Frame.mono State.setSess_frame rfl)) Frame.refl))

theorem State.reply_frame {s a1 a2} : Frame [.rPwr, .rMan, .rMemctl, .rQuay, .mem, .chk, .console, .manApp,
    .manSys, .power] s (State.reply s a1 a2) := by
  unfold State.reply
  exact (Frame.mono State.emit_frame rfl)

theorem State.replies_frame {s x l} :
    Frame [.rPwr, .rMan, .rMemctl, .rQuay, .mem, .chk, .console, .manApp, .manSys, .power] s (State.replies s x l)
        := by
  induction l generalizing s with
  | nil => exact Frame.refl
  | cons c r ih => exact (State.reply_frame.mono rfl).trans ih

theorem State.sendPrompt_frame {s a1} : Frame [.console] s (State.sendPrompt s a1) := by
  unfold State.sendPrompt
  exact (by (first | (dsimp only; split) | split); exact Frame.refl; exact (Frame.mono State.setSess_frame rfl))

theorem State.finish_frame {s a1 a2 a3} : Frame [.rPwr, .rMan, .rMemctl, .rQuay, .mem, .chk, .console, .manApp,
    .manSys, .power] s (State.finish s a1 a2 a3) := by
  unfold State.finish
  exact (Frame.ite (Frame.after (Frame.mono State.sendPrompt_frame rfl) (Frame.mono State.emit_frame rfl))
      (Frame.mono State.emit_frame rfl))

theorem State.ok_frame {s a1} : Frame [.rPwr, .rMan, .rMemctl, .rQuay, .mem, .chk, .console, .manApp, .manSys,
    .power] s (State.ok s a1) := by
  unfold State.ok
  exact (Frame.mono State.finish_frame rfl)

theorem State.er_frame {s a1 a2} : Frame [.rPwr, .rMan, .rMemctl, .rQuay, .mem, .chk, .console, .manApp, .manSys,
    .power] s (State.er s a1 a2) := by
  unfold State.er
  exact (Frame.mono State.finish_frame rfl)

theorem State.withTag_frame {s a1} : Frame [.console] s (State.withTag s a1) := by
  unfold State.withTag
  exact (Frame.mono State.set_console_frame rfl)

theorem State.lineArrives_frame {s a1 a2} : Frame [.rPwr, .rMan, .rMemctl, .rQuay, .mem, .chk, .console, .manApp,
    .manSys, .power] s (State.lineArrives s a1 a2) := by
  unfold State.lineArrives
  exact (Frame.ite (Frame.after (Frame.mono State.withTag_frame rfl) (Frame.after (Frame.mono State.er_frame rfl)
      (Frame.mono State.withTag_frame rfl))) (Frame.mono State.set_console_frame rfl))

theorem State.withdrawTest_frame {s a1} : Frame [.rPwr, .rMan, .rMemctl, .rQuay, .mem, .chk, .console, .manApp,
    .manSys, .power, .touch] s (State.withdrawTest s a1) := by
  unfold State.withdrawTest
  exact (by (first | (dsimp only; split) | split); exact (Frame.ite (Frame.after (Frame.mono State.withTag_frame rfl) (Frame.after (Frame.mono State.er_frame rfl) (Frame.after (Frame.mono State.withTag_frame rfl) (Frame.mono State.set_touch_frame rfl)))) Frame.refl); exact Frame.refl)

theorem State.withdrawLong_frame {s a1} : Frame [.rPwr, .rMan, .rMemctl, .rQuay, .mem, .chk, .console, .manApp,
    .manSys, .power, .touch] s (State.withdrawLong s a1) := by
  unfold State.withdrawLong
  exact (Frame.after (Frame.mono State.withTag_frame rfl) (Frame.after (Frame.foldl (fun _ _ => (Frame.after
      (Frame.mono State.er_frame rfl) (Frame.mono State.withTag_frame rfl))) _ _) (Frame.after (Frame.mono
      State.set_console_frame rfl) (Frame.mono State.withdrawTest_frame rfl))))

theorem State.newPair_frame {s} : Frame [.console] s (State.newPair s) := by
  unfold State.newPair
  exact (Frame.mono State.set_console_frame rfl)

theorem State.backspace_frame {s a1} : Frame [.console] s (State.backspace s a1) := by
  unfold State.backspace
  exact (Frame.ite Frame.refl (Frame.ite (Frame.mono State.newPair_frame rfl) (Frame.mono State.setSess_frame rfl)))

theorem execBackspace_frame {a0 s t} (h : execBackspace a0 s = .next t) :
    Frame [.console] s t := by
  obtain rfl := Host.Outcome.next.inj h
  exact (Frame.mono State.backspace_frame rfl)

theorem State.ctrlC_frame {s a1} : Frame [.rPwr, .rMan, .rMemctl, .rQuay, .mem, .chk, .console, .manApp, .manSys,
    .power, .touch] s (State.ctrlC s a1) := by
  unfold State.ctrlC
  exact (Frame.ite (Frame.after (Frame.mono State.withdrawLong_frame rfl) (Frame.after (Frame.mono
      State.sendPrompt_frame rfl) (Frame.mono State.setSess_frame rfl))) (Frame.after (Frame.mono
      State.withdrawLong_frame rfl) (Frame.mono State.setSess_frame rfl)))

theorem execCtrlC_frame {a0 s t} (h : execCtrlC a0 s = .next t) :
    Frame [.rPwr, .rMan, .rMemctl, .rQuay, .mem, .chk, .console, .manApp, .manSys, .power, .touch] s t := by
  obtain rfl := Host.Outcome.next.inj h
  exact (Frame.ite Frame.refl (Frame.ite (Frame.mono State.newPair_frame rfl) (Frame.mono State.ctrlC_frame rfl)))

theorem State.lineEnd_frame {s a1} : Frame [.rPwr, .rMan, .rMemctl, .rQuay, .mem, .chk, .console, .manApp, .manSys,
    .power] s (State.lineEnd s a1) := by
  unfold State.lineEnd
  exact (Frame.ite Frame.refl (Frame.after (Frame.mono State.lineArrives_frame rfl) (Frame.mono State.setSess_frame
      rfl)))

theorem execLineTerminator_frame {a0 s t} (h : execLineTerminator a0 s = .next t) :
    Frame [.rPwr, .rMan, .rMemctl, .rQuay, .mem, .chk, .console, .manApp, .manSys, .power] s t := by
  obtain rfl := Host.Outcome.next.inj h
  exact (Frame.mono State.lineEnd_frame rfl)

theorem State.hostByte_frame {s a1 a2 a3} : Frame [.rPwr, .rMan, .rMemctl, .rQuay, .mem, .chk, .console, .manApp,
    .manSys, .power, .touch] s (State.hostByte s a1 a2 a3) := by
  unfold State.hostByte
  exact (Frame.ite Frame.refl (Frame.ite (Frame.ite Frame.refl (Frame.mono State.newPair_frame rfl)) (Frame.ite
      (Frame.mono State.setSess_frame rfl) (Frame.ite Frame.refl (Frame.ite (Frame.mono State.lineEnd_frame rfl)
      (Frame.ite (Frame.mono State.ctrlC_frame rfl) (Frame.ite (Frame.mono State.backspace_frame rfl) (Frame.mono
      State.setSess_frame rfl))))))))

theorem execConsoleCharacter_frame {a0 a1 a2 s t} (h : execConsoleCharacter a0 a1 a2 s = .next t) :
    Frame [.rPwr, .rMan, .rMemctl, .rQuay, .mem, .chk, .console, .manApp, .manSys, .power, .touch] s t := by
  obtain rfl := Host.Outcome.next.inj h
  exact (Frame.mono State.hostByte_frame rfl)

theorem State.transmit_frame {s a1} : Frame [.console] s (State.transmit s a1) := by
  unfold State.transmit
  exact (Frame.ite (Frame.mono State.setSess_frame rfl) (by (first | (dsimp only; split) | split); exact Frame.refl; exact (Frame.ite (Frame.mono State.setSess_frame rfl) (Frame.after (Frame.mono State.afterSent_frame rfl) (Frame.mono State.setSess_frame rfl)))))

theorem execOutputRoom_frame {a0 s t} (h : execOutputRoom a0 s = .next t) :
    Frame [.rPwr, .rMan, .rMemctl, .mem, .chk, .console, .manApp, .manSys, .power] s t := by
  obtain rfl := Host.Outcome.next.inj h
  exact (Frame.ite Frame.refl (Frame.after (Frame.mono State.reportLost_frame rfl) (Frame.after (Frame.mono
      State.setSess_frame rfl) (Frame.mono State.transmit_frame rfl))))

theorem execAutobaudCharacter_frame {a0 a1 s t} (h : execAutobaudCharacter a0 a1 s = .next t) :
    Frame [.console] s t := by
  obtain rfl := Host.Outcome.next.inj h
  exact (Frame.ite Frame.refl (Frame.ite (Frame.mono State.newPair_frame rfl) (by (first | (dsimp only; split) | split); exact (Frame.mono State.set_console_frame rfl); exact (Frame.ite (Frame.ite (Frame.after (Frame.mono State.sendPrompt_frame rfl) (Frame.mono State.set_console_frame rfl)) (Frame.mono State.set_console_frame rfl)) (Frame.mono State.set_console_frame rfl)))))

theorem execBaudChange_frame {s t} (h : execBaudChange s = .next t) :
    Frame [.console] s t := by
  obtain rfl := Host.Outcome.next.inj h
  exact (by (first | (dsimp only; split) | split); exact Frame.refl; exact (Frame.mono State.set_console_frame rfl); exact (Frame.mono State.set_console_frame rfl))

theorem execModeChange_frame {a0 s t} (h : execModeChange a0 s = .next t) :
    Frame [.console] s t := by
  obtain rfl := Host.Outcome.next.inj h
  exact (by (first | (dsimp only; split) | split); exact Frame.refl; exact (Frame.mono State.setSess_frame rfl))

theorem execQuayGo_frame {s t} (h : execQuayGo s = .next t) :
    Frame [.rQuay] s t := by
  obtain rfl := Host.Outcome.next.inj h
  exact (State.put_frame F.QUAY_GO_part rfl)

theorem execQuayBreak_frame {s t} (h : execQuayBreak s = .next t) :
    Frame [.rPwr, .rMan, .rMemctl, .rQuay, .mem, .chk, .console, .manApp, .manSys, .power, .touch] s t := by
  obtain rfl := Host.Outcome.next.inj h
  exact (Frame.mono State.ctrlC_frame rfl)

theorem execQuayLineCopy_frame {s t} (h : execQuayLineCopy s = .next t) :
    Frame [.rPwr, .rMan, .rMemctl, .rQuay, .mem, .chk, .console, .manApp, .manSys, .power, .touch] s t := by
  obtain rfl := Host.Outcome.next.inj h
  exact (Frame.ite (Frame.after (Frame.mono State.lineArrives_frame rfl) (Frame.ite (Frame.after (Frame.mono
      State.withdrawLong_frame rfl) (State.put_frame F.QUAY_GO_part rfl)) (State.put_frame F.QUAY_GO_part rfl)))
      Frame.refl)

theorem execQuayRtailWrite_frame {a0 s t} (h : execQuayRtailWrite a0 s = .next t) :
    Frame [.rQuay] s t := by
  obtain rfl := Host.Outcome.next.inj h
  exact (Frame.ite (State.put_frame F.QUAY_RTAIL_part rfl) Frame.refl)

end Sys2Proof.Machine
end

