-- ==== Sys2Proof/Laws/FrameNotice.lean ====
section
/-! SUPPORT. The frames of the operations and commands of Machine/Notice.lean: what each can change. -/

namespace Sys2Proof.Machine

theorem State.notice_frame {s a1 a2 a3} : Frame [.rPwr, .rMan, .rMemctl, .rQuay, .mem, .chk, .console, .manApp,
    .manSys, .power] s (State.notice s a1 a2 a3) := by
  unfold State.notice
  exact (Frame.mono State.emit_frame rfl)

theorem State.notices_frame {s a1 a2 a3} : Frame [.rPwr, .rMan, .rMemctl, .rQuay, .mem, .chk, .console, .manApp,
    .manSys, .power] s (State.notices s a1 a2 a3) := by
  unfold State.notices
  exact (Frame.foldl (fun _ _ => (Frame.ite (Frame.mono State.notice_frame rfl) Frame.refl)) _ _)

theorem State.raiseK_frame {s a1 a2 a3 a4} : Frame [.rPwr, .rMan, .rMemctl, .rQuay, .mem, .chk, .console, .manApp,
    .manSys, .power] s (State.raiseK s a1 a2 a3 a4) := by
  unfold State.raiseK
  exact (Frame.after (Frame.mono State.notices_frame rfl) (Frame.mono State.source_frame rfl))

theorem State.raise_frame {s a1 a2 a3} : Frame [.rPwr, .rMan, .rMemctl, .rQuay, .mem, .chk, .console, .manApp,
    .manSys, .power] s (State.raise s a1 a2 a3) := by
  unfold State.raise
  exact (Frame.mono State.raiseK_frame rfl)

theorem State.raise0_frame {s a1} : Frame [.rPwr, .rMan, .rMemctl, .rQuay, .mem, .chk, .console, .manApp, .manSys,
    .power] s (State.raise0 s a1) := by
  unfold State.raise0
  exact (Frame.mono State.raise_frame rfl)

end Sys2Proof.Machine
end

