-- ==== Sys2Proof/Laws/FrameChecks.lean ====
section
/-! SUPPORT. The frames of the operations and commands of Machine/Checks.lean: what each can change. -/

namespace Sys2Proof.Machine

theorem State.ledgerRefuse_frame {e s b ofs side} (hb : Part.sub [b.part] e = true)
    (h0 : Part.sub [.rPwr, .rMan, .rMemctl, .rQuay, .mem, .chk, .console, .manApp, .manSys, .power] e = true) :
    Frame e s (State.ledgerRefuse s b ofs side) :=
  (State.deny_frame hb).trans (State.raise_frame.mono (Part.sub_trans rfl h0))

theorem State.underLedger_frame {e s b ofs side t} (ht : Frame e s t) (hb : Part.sub [b.part] e = true)
    (h0 : Part.sub [.rPwr, .rMan, .rMemctl, .rQuay, .mem, .chk, .console, .manApp, .manSys, .power] e = true) :
    Frame e s (State.underLedger s b ofs side t) :=
  Frame.ite ht ((State.deny_frame hb).trans (State.raise_frame.mono (Part.sub_trans rfl h0)))

theorem State.run_frame {e s x c body}
    (h0 : Part.sub [.rPwr, .rMan, .rMemctl, .rQuay, .mem, .chk, .console, .manApp, .manSys, .power] e = true)
    (h : ∀ t, Frame e t (body t)) : Frame e s (State.run s x c body) := by
  have he : ∀ n, Frame e s (s.er x n) := fun n => State.er_frame.mono (Part.sub_trans rfl h0)
  unfold State.run
  split
  · exact he _
  · exact Frame.ite (he _) (h s)

theorem State.settle_frame {e s x b ofs t} (ht : Frame e s t) (hb : Part.sub [b.part] e = true)
    (h0 : Part.sub [.rPwr, .rMan, .rMemctl, .rQuay, .mem, .chk, .console, .manApp, .manSys, .power] e = true) :
    Frame e s (State.settle s x b ofs t) :=
  Frame.ite ((State.ledgerRefuse_frame hb h0).trans (State.er_frame.mono (Part.sub_trans rfl h0)))
    (Frame.ite (State.er_frame.mono (Part.sub_trans rfl h0)) (ht.trans (State.ok_frame.mono (Part.sub_trans rfl h0))))

theorem State.guard_frame {e s b ofs side ex act} (hb : Part.sub [b.part] e = true) (h : ∀ t, Frame e t (act t)) :
    Frame e s (State.guard s b ofs side ex act) :=
  Frame.ite (State.deny_frame hb) (Frame.ite (State.deny_frame hb) (h s))

theorem State.guardBusy_frame {e s b ofs side ex busy act} (hb : Part.sub [b.part] e = true) (h : ∀ t, Frame e t
    (act t)) :
    Frame e s (State.guardBusy s b ofs side ex busy act) :=
  Frame.ite (State.deny_frame hb) (Frame.ite (State.deny_frame hb) (State.guard_frame hb h))

end Sys2Proof.Machine
end

