-- ==== Sys2Proof/Laws/FrameTide.lean ====
section
/-! SUPPORT. The frames of the operations and commands of Machine/Tide.lean: what each can change. -/

namespace Sys2Proof.Machine

theorem State.withTide_frame {s a1} : Frame [.tide] s (State.withTide s a1) := by
  unfold State.withTide
  exact (Frame.mono State.set_tide_frame rfl)

theorem State.withTp_frame {s a1} : Frame [.tp] s (State.withTp s a1) := by
  unfold State.withTp
  exact (Frame.mono State.set_tp_frame rfl)

theorem State.setErr_frame {s a1} : Frame [.rTide, .tide] s (State.setErr s a1) := by
  unfold State.setErr
  exact (Frame.after (State.put_frame F.TIDE_ERR_ERR_part rfl) (Frame.mono State.withTide_frame rfl))

theorem State.secondsPass_frame {s a1 a2} : Frame [.rTide, .tide] s (State.secondsPass s a1 a2) := by
  unfold State.secondsPass
  exact (Frame.ite Frame.refl (Frame.after (Frame.mono State.setErr_frame rfl) (State.countBy_frame
      F.TIDE_STAT_AGE_part rfl)))

theorem State.tideCount_frame {s a1 a2} : Frame [.rTide, .tide, .rtc] s (State.tideCount s a1 a2) := by
  unfold State.tideCount
  exact (Frame.after (Frame.mono State.secondsPass_frame rfl) (Frame.after (Frame.mono State.set_rtc_frame rfl)
      (Frame.mono State.withTide_frame rfl)))

theorem State.tideTick_frame {s} : Frame [.rTide, .tide, .rtc] s (State.tideTick s) := by
  unfold State.tideTick
  exact (Frame.ite (Frame.mono State.tideCount_frame rfl) (Frame.mono State.tideCount_frame rfl))

theorem State.tideAdd_frame {s a1} : Frame [.rTide, .tide, .rtc] s (State.tideAdd s a1) := by
  unfold State.tideAdd
  exact (Frame.mono State.tideCount_frame rfl)

theorem State.tideSlept_frame {s a1} : Frame [.rTide, .tide, .rtc] s (State.tideSlept s a1) := by
  unfold State.tideSlept
  exact (Frame.ite (Frame.mono State.tideCount_frame rfl) (Frame.mono State.tideCount_frame rfl))

theorem State.reportPulse_frame {s} : Frame [.rTp] s (State.reportPulse s) := by
  unfold State.reportPulse
  exact (Frame.ite (Frame.after (State.flag_frame F.TP_QERR_VALID_part rfl) (Frame.after (State.putS_frame
      F.TP_QERR_QERR_part rfl) (State.put_frame F.TP_QNEXT_SEC_part rfl))) (State.put_frame F.TP_QERR_VALID_part rfl))

theorem State.pulseOn_frame {s} : Frame [.rTp] s (State.pulseOn s) := by
  unfold State.pulseOn
  exact (State.flag_frame F.TP_STAT_ON_part rfl)

theorem State.pulsePolicy_frame {s} : Frame [.rPwr, .rMan, .rMemctl, .rTp, .rQuay, .mem, .chk, .console, .manApp,
    .manSys, .tp, .power] s (State.pulsePolicy s) := by
  unfold State.pulsePolicy
  exact (Frame.ite (Frame.after (Frame.mono State.raise0_frame rfl) (Frame.after (Frame.mono State.pulseOn_frame
      rfl) (Frame.ite (Frame.after (Frame.mono State.withTp_frame rfl) (Frame.after (State.flag_frame
      F.TP_STAT_FLAG_part rfl) (State.flag_frame F.TP_STAT_STOPPED_part rfl))) (Frame.after (State.flag_frame
      F.TP_STAT_FLAG_part rfl) (State.flag_frame F.TP_STAT_STOPPED_part rfl))))) (Frame.after (Frame.mono
      State.pulseOn_frame rfl) (Frame.ite (Frame.after (Frame.mono State.withTp_frame rfl) (Frame.after
      (State.flag_frame F.TP_STAT_FLAG_part rfl) (State.flag_frame F.TP_STAT_STOPPED_part rfl))) (Frame.after
      (State.flag_frame F.TP_STAT_FLAG_part rfl) (State.flag_frame F.TP_STAT_STOPPED_part rfl)))))

theorem State.pulseStep_frame {s} : Frame [.rTp, .tp] s (State.pulseStep s) := by
  unfold State.pulseStep
  exact (Frame.ite (Frame.after (Frame.mono State.reportPulse_frame rfl) (Frame.ite (Frame.after (State.put_frame
      F.TP_STAT_SKIP_part rfl) (Frame.mono State.withTp_frame rfl)) Frame.refl)) Frame.refl)

theorem State.pulseAlign_frame {s} : Frame [.rTp, .tp] s (State.pulseAlign s) := by
  unfold State.pulseAlign
  exact (Frame.ite (Frame.after (Frame.mono State.reportPulse_frame rfl) (Frame.mono State.withTp_frame rfl))
      Frame.refl)

theorem State.setLeap_frame {s a1 a2} : Frame [.rTide, .rTp, .tp] s (State.setLeap s a1 a2) := by
  unfold State.setLeap
  exact (Frame.ite (Frame.after (Frame.mono State.pulseAlign_frame rfl) (Frame.after (State.flag_frame
      F.TIDE_LEAP_SRC_part rfl) (State.putS_frame F.TIDE_LEAP_CUR_part rfl))) (Frame.after (State.flag_frame
      F.TIDE_LEAP_SRC_part rfl) (State.putS_frame F.TIDE_LEAP_CUR_part rfl)))

theorem State.applyStep_frame {s a1} : Frame [.rPwr, .rMan, .rMemctl, .rTide, .rTp, .rQuay, .mem, .chk, .console,
    .manApp, .manSys, .tide, .tp, .power] s (State.applyStep s a1) := by
  unfold State.applyStep
  exact (Frame.after (Frame.mono State.pulseStep_frame rfl) (by (first | (dsimp only; split) | split); exact (Frame.after (Frame.mono State.raise_frame rfl) (Frame.after (Frame.mono State.raise_frame rfl) (Frame.after (State.put_frame F.TIDE_CTRL_STEP_PEND_part rfl) (Frame.mono State.withTide_frame rfl)))); exact (Frame.after (Frame.mono State.raise_frame rfl) (Frame.after (State.put_frame F.TIDE_CTRL_STEP_PEND_part rfl) (Frame.mono State.withTide_frame rfl)))))

theorem State.requestStep_frame {s a1} : Frame [.rPwr, .rMan, .rMemctl, .rTide, .rTp, .rQuay, .mem, .chk, .console,
    .manApp, .manSys, .tide, .tp, .power] s (State.requestStep s a1) := by
  unfold State.requestStep
  exact (Frame.ite (Frame.mono State.applyStep_frame rfl) (Frame.after (State.put_frame F.TIDE_CTRL_STEP_PEND_part
      rfl) (Frame.mono State.withTide_frame rfl)))

theorem State.changeScale_frame {s a1} : Frame [.rPwr, .rMan, .rMemctl, .rTide, .rTp, .rQuay, .mem, .chk, .console,
    .manApp, .manSys, .tide, .tp, .power] s (State.changeScale s a1) := by
  unfold State.changeScale
  exact (Frame.ite Frame.refl (Frame.after (Frame.mono State.requestStep_frame rfl) (Frame.after (Frame.mono
      State.withTide_frame rfl) (State.put_frame F.TIDE_CFG_SCALE_part rfl))))

theorem State.deriveLoop_frame {s} : Frame [.rTide] s (State.deriveLoop s) := by
  unfold State.deriveLoop
  exact (Frame.ite Frame.refl (State.puts_cons_frame F.TIDE_INC_INC_part rfl (State.puts_cons_frame
      F.TIDE_HOLD_SLPGROW_part rfl (State.puts_cons_frame F.TIDE_GAIN_KP_part rfl (State.puts_cons_frame
      F.TIDE_GAIN_KI_part rfl (State.puts_cons_frame F.TIDE_STEPTH_TH_part rfl (State.puts_cons_frame
      F.TIDE_CFG_HTO_part rfl State.puts_nil_frame)))))))

theorem State.runLoop_frame {s a1 a2} : Frame [.rTide, .tide] s (State.runLoop s a1 a2) := by
  unfold State.runLoop
  exact (Frame.after (State.putS_frame F.TIDE_RATE_ADJ_part rfl) (Frame.mono State.withTide_frame rfl))

theorem State.measure_frame {s a1 a2 a3 a4} : Frame [.rPwr, .rMan, .rMemctl, .rTide, .rTp, .rQuay, .mem, .chk,
    .console, .manApp, .manSys, .tide, .tp, .power] s (State.measure s a1 a2 a3 a4) := by
  unfold State.measure
  exact (Frame.ite Frame.refl (Frame.ite (Frame.mono State.withTide_frame rfl) (Frame.after (Frame.mono
      State.pulsePolicy_frame rfl) (Frame.ite (Frame.after (State.put_frame F.TIDE_STAT_STATE_part rfl)
      (Frame.after (Frame.mono State.withTide_frame rfl) (Frame.after (State.put_frame F.TIDE_STAT_AGE_part rfl)
      (Frame.after (Frame.mono State.setErr_frame rfl) (Frame.ite (Frame.after (State.putS_frame
      F.TIDE_LASTE_E_part rfl) (Frame.after (Frame.mono State.deriveLoop_frame rfl) (Frame.after (State.put_frame
      F.TIDE_STAT_ACT_SRC_part rfl) (Frame.mono State.withTide_frame rfl)))) (Frame.ite (Frame.after (Frame.mono
      State.requestStep_frame rfl) (Frame.after (State.putS_frame F.TIDE_LASTE_E_part rfl) (Frame.after (Frame.mono
      State.deriveLoop_frame rfl) (Frame.after (State.put_frame F.TIDE_STAT_ACT_SRC_part rfl) (Frame.mono
      State.withTide_frame rfl))))) (Frame.after (Frame.mono State.runLoop_frame rfl) (Frame.after
      (State.putS_frame F.TIDE_LASTE_E_part rfl) (Frame.after (Frame.mono State.deriveLoop_frame rfl) (Frame.after
      (State.put_frame F.TIDE_STAT_ACT_SRC_part rfl) (Frame.mono State.withTide_frame rfl))))))))))) (Frame.after
      (Frame.mono State.raise0_frame rfl) (Frame.after (State.put_frame F.TIDE_STAT_STATE_part rfl) (Frame.after
      (Frame.mono State.withTide_frame rfl) (Frame.after (State.put_frame F.TIDE_STAT_AGE_part rfl) (Frame.after
      (Frame.mono State.setErr_frame rfl) (Frame.ite (Frame.after (State.putS_frame F.TIDE_LASTE_E_part rfl)
      (Frame.after (Frame.mono State.deriveLoop_frame rfl) (Frame.after (State.put_frame F.TIDE_STAT_ACT_SRC_part
      rfl) (Frame.mono State.withTide_frame rfl)))) (Frame.ite (Frame.after (Frame.mono State.requestStep_frame
      rfl) (Frame.after (State.putS_frame F.TIDE_LASTE_E_part rfl) (Frame.after (Frame.mono State.deriveLoop_frame
      rfl) (Frame.after (State.put_frame F.TIDE_STAT_ACT_SRC_part rfl) (Frame.mono State.withTide_frame rfl)))))
      (Frame.after (Frame.mono State.runLoop_frame rfl) (Frame.after (State.putS_frame F.TIDE_LASTE_E_part rfl)
      (Frame.after (Frame.mono State.deriveLoop_frame rfl) (Frame.after (State.put_frame F.TIDE_STAT_ACT_SRC_part
      rfl) (Frame.mono State.withTide_frame rfl))))))))))))))))

theorem State.holdover_frame {s} : Frame [.rPwr, .rMan, .rMemctl, .rTide, .rTp, .rQuay, .mem, .chk, .console,
    .manApp, .manSys, .tp, .power] s (State.holdover s) := by
  unfold State.holdover
  exact (Frame.ite (Frame.after (Frame.mono State.pulsePolicy_frame rfl) (Frame.after (Frame.mono
      State.raise0_frame rfl) (Frame.ite (State.put_frame F.TIDE_STAT_STATE_part rfl) (Frame.after
      (State.putS_frame F.TIDE_RATE_ADJ_part rfl) (State.put_frame F.TIDE_STAT_STATE_part rfl))))) Frame.refl)

theorem State.checkSources_frame {s} : Frame [.rPwr, .rMan, .rMemctl, .rTide, .rTp, .rQuay, .mem, .chk, .console,
    .manApp, .manSys, .tp, .power] s (State.checkSources s) := by
  unfold State.checkSources
  exact (Frame.ite Frame.refl (Frame.mono State.holdover_frame rfl))

theorem State.tideHoldover_frame {s} : Frame [.rPwr, .rMan, .rMemctl, .rTide, .rTp, .rQuay, .mem, .chk, .console,
    .manApp, .manSys, .tide, .tp, .power] s (State.tideHoldover s) := by
  unfold State.tideHoldover
  exact (Frame.after (Frame.mono State.deriveLoop_frame rfl) (Frame.after (Frame.mono State.holdover_frame rfl)
      (Frame.mono State.withTide_frame rfl)))

theorem State.xtalFollow_frame {s} : Frame [.rClk] s (State.xtalFollow s) := by
  unfold State.xtalFollow
  exact (Frame.ite (State.put_frame F.CLK_STAT_XTALG_part rfl) (Frame.ite (State.puts_cons_frame
      F.CLK_STAT_XTALG_part rfl (State.puts_cons_frame F.CLK_STAT_REF_ACT_part rfl State.puts_nil_frame)) Frame.refl))

theorem State.rfClocks_frame {s a1} : Frame [.rClk] s (State.rfClocks s a1) := by
  unfold State.rfClocks
  exact (Frame.ite (Frame.after (Frame.mono State.xtalFollow_frame rfl) (Frame.ite (State.put_frame
      F.CLK_STAT_RFSYN_part rfl) Frame.refl)) (Frame.after (Frame.mono State.xtalFollow_frame rfl)
      (State.puts_cons_frame F.CLK_STAT_RFSYN_part rfl (State.puts_cons_frame F.CLK_ISL_RUNNING_part rfl
      (State.puts_cons_frame F.CLK_ISL_RUNNING_part rfl State.puts_nil_frame)))))

theorem State.gnssOffTide_frame {s} : Frame [.rPwr, .rMan, .rMemctl, .rTide, .rTp, .rQuay, .mem, .chk, .console,
    .manApp, .manSys, .tide, .tp, .power] s (State.gnssOffTide s) := by
  unfold State.gnssOffTide
  exact (Frame.ite (Frame.after (Frame.mono State.holdover_frame rfl) (Frame.mono State.withTide_frame rfl))
      (Frame.mono State.withTide_frame rfl))

theorem State.tideToAon_frame {s} : Frame [.rPwr, .rTp, .tide] s (State.tideToAon s) := by
  unfold State.tideToAon
  exact (Frame.after (Frame.mono State.pulseOn_frame rfl) (Frame.after (State.put_frame F.PWR_DOMS_PG_part rfl)
      (Frame.mono State.withTide_frame rfl)))

theorem State.tideToFast_frame {s} : Frame [.rPwr, .rTp, .tide] s (State.tideToFast s) := by
  unfold State.tideToFast
  exact (Frame.after (Frame.mono State.pulseOn_frame rfl) (Frame.after (State.put_frame F.PWR_DOMS_PG_part rfl)
      (Frame.mono State.withTide_frame rfl)))

theorem State.passTo_frame {s a1} : Frame [.rTide, .tide, .rtc] s (State.passTo s a1) := by
  unfold State.passTo
  exact (Frame.ite (Frame.mono State.tideCount_frame rfl) Frame.refl)

theorem execSourceTimeout_frame {a0 s t} (h : execSourceTimeout a0 s = .next t) :
    Frame [.rPwr, .rMan, .rMemctl, .rTide, .rTp, .rQuay, .mem, .chk, .console, .manApp, .manSys, .tide, .tp, .rtc,
        .power] s t := by
  obtain rfl := Host.Outcome.next.inj h
  exact (Frame.after (Frame.mono State.checkSources_frame rfl) (Frame.after (Frame.mono State.withTide_frame rfl) (by (first | (dsimp only; split) | split); exact (Frame.ite (Frame.mono State.passTo_frame rfl) Frame.refl); exact Frame.refl)))

theorem execTideStepApply_frame {s t} (h : execTideStepApply s = .next t) :
    Frame [.rPwr, .rMan, .rMemctl, .rTide, .rTp, .rQuay, .mem, .chk, .console, .manApp, .manSys, .tide, .tp,
        .power] s t := by
  obtain rfl := Host.Outcome.next.inj h
  exact (by (first | (dsimp only; split) | split); exact (Frame.ite (Frame.mono State.applyStep_frame rfl) Frame.refl); exact Frame.refl)

theorem State.softStep_frame {s} : Frame [.rPwr, .rMan, .rMemctl, .rTide, .rTp, .rQuay, .mem, .chk, .console,
    .manApp, .manSys, .tide, .tp, .power] s (State.softStep s) := by
  unfold State.softStep
  exact (Frame.mono State.requestStep_frame rfl)

theorem execTideCtrlStep_frame {a0 s t} (h : execTideCtrlStep a0 s = .next t) :
    Frame [.rPwr, .rMan, .rMemctl, .rTide, .rTp, .rQuay, .mem, .chk, .console, .manApp, .manSys, .tide, .tp,
        .power] s t := by
  obtain rfl := Host.Outcome.next.inj h
  exact (State.guard_frame rfl (fun _ => (Frame.mono State.softStep_frame rfl)))

theorem State.captureNow_frame {s} : Frame [.rTide, .busData] s (State.captureNow s) := by
  unfold State.captureNow
  exact (Frame.after (Frame.mono State.set_busData_frame rfl) (State.puts_cons_frame F.TIDE_NOWL_SEC_part rfl
      (State.puts_cons_frame F.TIDE_NOWH_SECH_part rfl (State.puts_cons_frame F.TIDE_NOWF_FRAC_part rfl
      State.puts_nil_frame))))

theorem execTideNowlRead_frame {s t} (h : execTideNowlRead s = .next t) :
    Frame [.rTide, .busData] s t := by
  obtain rfl := Host.Outcome.next.inj h
  exact (Frame.mono State.captureNow_frame rfl)

theorem execWakeAlignment_frame {a0 s t} (h : execWakeAlignment a0 s = .next t) :
    Frame [.rPwr, .rMan, .rMemctl, .rTide, .rQuay, .mem, .chk, .console, .manApp, .manSys, .tide, .power] s t := by
  obtain rfl := Host.Outcome.next.inj h
  exact (Frame.ite (Frame.after (Frame.mono State.raise_frame rfl) (Frame.after (State.putS_frame
      F.TIDE_ALIGN_ALIGN_part rfl) (Frame.mono State.withTide_frame rfl))) Frame.refl)

theorem execTideErrLimit_frame {s t} (h : execTideErrLimit s = .next t) :
    Frame [.rPwr, .rMan, .rMemctl, .rTp, .rQuay, .mem, .chk, .console, .manApp, .manSys, .tp, .power] s t := by
  obtain rfl := Host.Outcome.next.inj h
  exact (Frame.mono State.pulsePolicy_frame rfl)

theorem execTideQuery_frame {a0 s t} (h : execTideQuery a0 s = .next t) :
    Frame [.rPwr, .rMan, .rMemctl, .rQuay, .mem, .chk, .console, .manApp, .manSys, .power] s t := by
  obtain rfl := Host.Outcome.next.inj h
  exact (State.run_frame rfl (fun _ => (Frame.after (Frame.mono State.ok_frame rfl) (Frame.mono State.reply_frame
      rfl))))

theorem State.chooseSource_frame {s a1} : Frame [.rPwr, .rMan, .rMemctl, .rTide, .rTp, .rQuay, .mem, .chk,
    .console, .manApp, .manSys, .tp, .power] s (State.chooseSource s a1) := by
  unfold State.chooseSource
  exact (Frame.after (Frame.mono State.checkSources_frame rfl) (Frame.after (Frame.mono State.deriveLoop_frame rfl)
      (State.put_frame F.TIDE_CFG_SRC_part rfl)))

theorem execTideSrc_frame {a0 a1 s t} (h : execTideSrc a0 a1 s = .next t) :
    Frame [.rPwr, .rMan, .rMemctl, .rTide, .rTp, .rQuay, .mem, .chk, .console, .manApp, .manSys, .tp, .power] s t
        := by
  obtain rfl := Host.Outcome.next.inj h
  exact (State.run_frame rfl (fun _ => (Frame.after (Frame.mono State.ok_frame rfl) (Frame.mono
      State.chooseSource_frame rfl))))

theorem execTideScale_frame {a0 a1 s t} (h : execTideScale a0 a1 s = .next t) :
    Frame [.rPwr, .rMan, .rMemctl, .rTide, .rTp, .rQuay, .mem, .chk, .console, .manApp, .manSys, .tide, .tp,
        .power] s t := by
  obtain rfl := Host.Outcome.next.inj h
  exact (State.run_frame rfl (fun _ => (Frame.after (Frame.mono State.ok_frame rfl) (Frame.mono
      State.changeScale_frame rfl))))

theorem execTideLeap_frame {a0 a1 s t} (h : execTideLeap a0 a1 s = .next t) :
    Frame [.rPwr, .rMan, .rMemctl, .rTide, .rTp, .rQuay, .mem, .chk, .console, .manApp, .manSys, .tp, .power] s t
        := by
  obtain rfl := Host.Outcome.next.inj h
  exact (State.run_frame rfl (fun _ => (Frame.ite (Frame.after (Frame.mono State.ok_frame rfl) (Frame.mono
      State.setLeap_frame rfl)) (Frame.mono State.er_frame rfl))))

theorem execTideRate_frame {a0 a1 s t} (h : execTideRate a0 a1 s = .next t) :
    Frame [.rPwr, .rMan, .rMemctl, .rTide, .rQuay, .mem, .chk, .console, .manApp, .manSys, .power] s t := by
  obtain rfl := Host.Outcome.next.inj h
  exact (State.run_frame rfl (fun _ => (Frame.ite (Frame.mono State.er_frame rfl) (Frame.ite (Frame.after
      (Frame.mono State.ok_frame rfl) (State.putS_frame F.TIDE_RATE_ADJ_part rfl)) (Frame.mono State.er_frame rfl)))))

theorem execTideLoop_frame {a0 a1 a2 a3 s t} (h : execTideLoop a0 a1 a2 a3 s = .next t) :
    Frame [.rPwr, .rMan, .rMemctl, .rTide, .rQuay, .mem, .chk, .console, .manApp, .manSys, .power] s t := by
  obtain rfl := Host.Outcome.next.inj h
  exact (State.run_frame rfl (fun _ => (Frame.after (Frame.mono State.ok_frame rfl) (by (first | (dsimp only; split) | split); exact (Frame.after (State.flag_frame F.TIDE_CFG_LOOP_OPEN_part rfl) (by (first | (dsimp only; split) | split); exact (Frame.after (State.put_frame F.TIDE_GAIN_KI_part rfl) (by (first | (dsimp only; split) | split); exact (State.put_frame F.TIDE_GAIN_KP_part rfl); exact Frame.refl)); exact (by (first | (dsimp only; split) | split); exact (State.put_frame F.TIDE_GAIN_KP_part rfl); exact Frame.refl))); exact (by (first | (dsimp only; split) | split); exact (Frame.after (State.put_frame F.TIDE_GAIN_KI_part rfl) (by (first | (dsimp only; split) | split); exact (State.put_frame F.TIDE_GAIN_KP_part rfl); exact Frame.refl)); exact (by (first | (dsimp only; split) | split); exact (State.put_frame F.TIDE_GAIN_KP_part rfl); exact Frame.refl))))))

end Sys2Proof.Machine
end

