-- ==== Sys2Proof/Laws/FrameSignals.lean ====
section
/-! SUPPORT. The frames of the operations and commands of Machine/Signals.lean: what each can change. -/

namespace Sys2Proof.Machine

theorem State.withGnss_frame {s a1} : Frame [.gnss] s (State.withGnss s a1) := by
  unfold State.withGnss
  exact (Frame.mono State.set_gnss_frame rfl)

theorem State.setBerth_frame {s a1 a2} : Frame [.gnss] s (State.setBerth s a1 a2) := by
  unfold State.setBerth
  exact (Frame.mono State.withGnss_frame rfl)

theorem State.modBerth_frame {s a1 a2} : Frame [.gnss] s (State.modBerth s a1 a2) := by
  unfold State.modBerth
  exact (Frame.mono State.setBerth_frame rfl)

theorem State.modBand_frame {s a1 a2} : Frame [.gnss] s (State.modBand s a1 a2) := by
  unfold State.modBand
  exact (Frame.mono State.withGnss_frame rfl)

theorem State.frontHeritage_frame {s} : Frame [.rFront] s (State.frontHeritage s) := by
  unfold State.frontHeritage
  exact (Frame.ite (State.puts_cons_frame F.FRONT_CFG_L5_EN_part rfl (State.puts_cons_frame F.FRONT_CFG_SUB_EN_part
      rfl State.puts_nil_frame)) Frame.refl)

theorem State.deriveMode_frame {s} : Frame [.rTide, .rGnss, .rFront] s (State.deriveMode s) := by
  unfold State.deriveMode
  exact (Frame.after (Frame.mono State.deriveLoop_frame rfl) (Frame.ite (Frame.after (Frame.mono
      State.frontHeritage_frame rfl) (Frame.ite Frame.refl (State.puts_cons_frame F.FRONT_CFG_L1_EN_part rfl
      (State.puts_cons_frame F.FRONT_CFG_L5_EN_part rfl (State.puts_cons_frame F.FRONT_CFG_SUB_EN_part rfl
      State.puts_nil_frame))))) (Frame.after (State.put_frame F.GNSS_CONSLIM_PR_LIM_part rfl) (Frame.after
      (Frame.mono State.frontHeritage_frame rfl) (Frame.ite Frame.refl (State.puts_cons_frame
      F.FRONT_CFG_L1_EN_part rfl (State.puts_cons_frame F.FRONT_CFG_L5_EN_part rfl (State.puts_cons_frame
      F.FRONT_CFG_SUB_EN_part rfl State.puts_nil_frame))))))))

theorem State.planState_frame {s a1 a2} : Frame [.rPlan] s (State.planState s a1 a2) := by
  unfold State.planState
  exact (by (first | (dsimp only; split) | split); exact (State.put_frame F.PLAN_SLOT_A_STATE_part rfl); exact Frame.refl)

end Sys2Proof.Machine
end

