-- ==== Sys2Proof/Laws/FrameCrypto.lean ====
section
/-! SUPPORT. The frames of the operations and commands of Machine/Crypto.lean: what each can change. -/

namespace Sys2Proof.Machine

theorem State.withCrypto_frame {s a1} : Frame [.crypto] s (State.withCrypto s a1) := by
  unfold State.withCrypto
  exact (Frame.mono State.set_crypto_frame rfl)

theorem State.setQueue_frame {s a1} : Frame [.rCrypto, .crypto] s (State.setQueue s a1) := by
  unfold State.setQueue
  exact (Frame.after (State.put_frame F.CRYPTO_KEY_QLVL_part rfl) (Frame.mono State.withCrypto_frame rfl))

theorem State.deriveKey_frame {s} : Frame [.rCrypto, .crypto] s (State.deriveKey s) := by
  unfold State.deriveKey
  exact (Frame.ite Frame.refl (Frame.after (State.put_frame F.CRYPTO_KEY_BUSY_part rfl) (Frame.mono
      State.withCrypto_frame rfl)))

theorem State.signWiped_frame {s} : Frame [.rPwr, .rMan, .rMemctl, .rCrypto, .rQuay, .mem, .chk, .console, .manApp,
    .manSys, .crypto, .power] s (State.signWiped s) := by
  unfold State.signWiped
  exact (Frame.ite (Frame.after (Frame.mono State.raise_frame rfl) (Frame.after (State.put_frame
      F.CRYPTO_KEY_BUSY_part rfl) (Frame.after (State.put_frame F.CRYPTO_KEY_READY_part rfl) (Frame.after
      (Frame.mono State.setQueue_frame rfl) (Frame.mono State.withCrypto_frame rfl))))) (Frame.after
      (State.put_frame F.CRYPTO_KEY_BUSY_part rfl) (Frame.after (State.put_frame F.CRYPTO_KEY_READY_part rfl)
      (Frame.after (Frame.mono State.setQueue_frame rfl) (Frame.mono State.withCrypto_frame rfl)))))

theorem State.signLost_frame {s} : Frame [.rCrypto, .crypto] s (State.signLost s) := by
  unfold State.signLost
  exact (Frame.after (State.put_frame F.CRYPTO_KEY_BUSY_part rfl) (Frame.after (State.put_frame
      F.CRYPTO_KEY_READY_part rfl) (Frame.after (Frame.mono State.setQueue_frame rfl) (Frame.mono
      State.withCrypto_frame rfl))))

theorem State.deriveKeep_frame {s} : Frame [.rCrypto] s (State.deriveKeep s) := by
  unfold State.deriveKeep
  exact (Frame.ite Frame.refl (State.flag_frame F.CRYPTO_SFCFG_KEEP_part rfl))

theorem State.signRecord_frame {s a1} : Frame [.rCrypto, .mem, .chk] s (State.signRecord s a1) := by
  unfold State.signRecord
  exact (Frame.ite (Frame.after (State.put_frame F.CRYPTO_SFHEAD_IDX_part rfl) (Frame.foldl (fun _ _ => (Frame.mono
      State.writeBlock_frame rfl)) _ _)) Frame.refl)

end Sys2Proof.Machine
end

