-- ==== Sys2Proof/Laws/FramePads.lean ====
section
/-! SUPPORT. The frames of the operations and commands of Machine/Pads.lean: what each can change. -/

namespace Sys2Proof.Machine

theorem State.withPads_frame {s a1} : Frame [.pads] s (State.withPads s a1) := by
  unfold State.withPads
  exact (Frame.mono State.set_pads_frame rfl)

theorem State.setOut_frame {s a1 a2} : Frame [.rGpio] s (State.setOut s a1 a2) := by
  unfold State.setOut
  exact (Frame.ite (State.put_frame F.GPIO_OUT0_OUT_part rfl) (State.put_frame F.GPIO_OUT1_OUT_part rfl))

theorem State.outEvent_frame {s a1} : Frame [.rGpio] s (State.outEvent s a1) := by
  unfold State.outEvent
  exact (by (first | (dsimp only; split) | split); exact (Frame.mono State.setOut_frame rfl); exact (Frame.mono State.setOut_frame rfl); exact (Frame.mono State.setOut_frame rfl))

theorem State.outside_frame {s a1 a2} : Frame [.pads] s (State.outside s a1 a2) := by
  unfold State.outside
  exact (Frame.mono State.withPads_frame rfl)

end Sys2Proof.Machine
end

