-- ==== Sys2Proof/Laws/FrameRtcTime.lean ====
section
/-! SUPPORT. The frames of the operations and commands of Machine/RtcTime.lean: what each can change. -/

namespace Sys2Proof.Machine

theorem State.withRtc_frame {s a1} : Frame [.rtc] s (State.withRtc s a1) := by
  unfold State.withRtc
  exact (Frame.mono State.set_rtc_frame rfl)

theorem State.rtcOsf_frame {s} : Frame [.rPwr, .rMan, .rMemctl, .rRtc, .rQuay, .mem, .chk, .console, .manApp,
    .manSys, .power] s (State.rtcOsf s) := by
  unfold State.rtcOsf
  exact (Frame.after (Frame.mono State.raise0_frame rfl) (Frame.after (State.put_frame F.RTC_STAT_TSET_part rfl)
      (State.put_frame F.RTC_STAT_OSF_part rfl)))

theorem State.loadTime_frame {s a1 a2} : Frame [.rRtc, .rtc] s (State.loadTime s a1 a2) := by
  unfold State.loadTime
  exact (Frame.ite (Frame.after (State.flag_frame F.RTC_SHIFT_PEND_part rfl) (Frame.after (State.put_frame
      F.RTC_STAT_SHIFT_CUT_part rfl) (Frame.after (State.puts_cons_frame F.RTC_STAT_TSET_part rfl
      (State.puts_cons_frame F.RTC_DISCT_SEC_part rfl (State.puts_cons_frame F.RTC_APPLY_PEND_part rfl
      State.puts_nil_frame))) (Frame.mono State.withRtc_frame rfl)))) (Frame.after (State.puts_cons_frame
      F.RTC_STAT_TSET_part rfl (State.puts_cons_frame F.RTC_DISCT_SEC_part rfl (State.puts_cons_frame
      F.RTC_APPLY_PEND_part rfl State.puts_nil_frame))) (Frame.mono State.withRtc_frame rfl)))

theorem State.applySet_frame {s} : Frame [.rRtc, .free, .rtc] s (State.applySet s) := by
  unfold State.applySet
  exact (Frame.ite (by (first | (dsimp only; split) | split); exact (Frame.after (Frame.mono State.loadTime_frame rfl) (Frame.after (State.put_frame F.RTC_APPLY_PEND_part rfl) (Frame.mono State.withRtc_frame rfl))); exact (Frame.after (State.put_frame F.RTC_STAT_BADSET_part rfl) (Frame.after (State.put_frame F.RTC_APPLY_PEND_part rfl) (Frame.mono State.withRtc_frame rfl)))) (by (first | (dsimp only; split) | split); exact (Frame.after (Frame.mono State.loadTime_frame rfl) (Frame.after (State.put_frame F.RTC_APPLY_PEND_part rfl) (Frame.mono State.withRtc_frame rfl))); exact (Frame.after (Frame.mono State.loadTime_frame rfl) (Frame.after (Frame.mono State.spend_frame rfl) (Frame.after (State.put_frame F.RTC_APPLY_PEND_part rfl) (Frame.mono State.withRtc_frame rfl))))))

theorem State.stage_frame {s a1} : Frame [.rRtc] s (State.stage s a1) := by
  unfold State.stage
  exact (Frame.ite Frame.refl (Frame.ite (State.puts_cons_frame F.RTC_SCAL0_SEC_part rfl (State.puts_cons_frame
      F.RTC_SCAL0_MIN_part rfl (State.puts_cons_frame F.RTC_SCAL0_HOUR_part rfl (State.puts_cons_frame
      F.RTC_SCAL1_DAY_part rfl (State.puts_cons_frame F.RTC_SCAL1_MONTH_part rfl (State.puts_cons_frame
      F.RTC_SCAL1_YEAR_part rfl (State.puts_cons_frame F.RTC_SCAL1_CENT_part rfl State.puts_nil_frame)))))))
      (Frame.after (State.put_frame F.RTC_SBHI_SECH_part rfl) (State.put_frame F.RTC_SBSEC_SEC_part rfl))))

theorem State.setAtSecond_frame {s} : Frame [.rRtc, .rtc] s (State.setAtSecond s) := by
  unfold State.setAtSecond
  exact (Frame.after (State.put_frame F.RTC_APPLY_PEND_part rfl) (Frame.mono State.withRtc_frame rfl))

theorem State.startShift_frame {s a1} : Frame [.rRtc, .rtc] s (State.startShift s a1) := by
  unfold State.startShift
  exact (Frame.after (State.put_frame F.RTC_SHIFT_PEND_part rfl) (Frame.after (Frame.mono State.withRtc_frame rfl)
      (State.putS_frame F.RTC_SHIFT_COUNT_part rfl)))

theorem State.leapRtc_frame {s a1} : Frame [.rRtc, .rtc] s (State.leapRtc s a1) := by
  unfold State.leapRtc
  exact (Frame.ite (Frame.after (Frame.mono State.setAtSecond_frame rfl) (Frame.mono State.stage_frame rfl))
      Frame.refl)

theorem execLeapApply_frame {s t} (h : execLeapApply s = .next t) :
    Frame [.rTide, .rTp, .rRtc, .tp, .rtc] s t := by
  obtain rfl := Host.Outcome.next.inj h
  exact (Frame.ite (Frame.after (Frame.mono State.leapRtc_frame rfl) (Frame.after (State.put_frame
      F.TIDE_LEAP_PEND_part rfl) (Frame.mono State.setLeap_frame rfl))) Frame.refl)

theorem State.rtcHeritage_frame {s} : Frame [.rRtc] s (State.rtcHeritage s) := by
  unfold State.rtcHeritage
  exact (State.puts_cons_frame F.RTC_CTRL_MODE_part rfl (State.puts_cons_frame F.RTC_CTRL_TRK_RES_part rfl
      (State.puts_cons_frame F.RTC_CTRL_TRK_DIODE_part rfl State.puts_nil_frame)))

end Sys2Proof.Machine
end

