-- ==== Sys2Proof/Laws/FrameTriggers.lean ====
section
/-! SUPPORT. The frames of the operations and commands of Machine/Triggers.lean: what each can change. -/

namespace Sys2Proof.Machine

theorem State.cutGrant_frame {s} : Frame [.rHarv, .harv] s (State.cutGrant s) := by
  unfold State.cutGrant
  exact (Frame.ite (Frame.after (Frame.mono State.set_harv_frame rfl) (Frame.after (State.count_frame
      F.HARV_PCNT_CUTS_part rfl) (Frame.after (State.put_frame F.HARV_PSTAT_CUT_part rfl) (State.put_frame
      F.HARV_PSTAT_GNT_part rfl)))) Frame.refl)

theorem State.captureRtc_frame {s a1} : Frame [.busData, .rtc] s (State.captureRtc s a1) := by
  unfold State.captureRtc
  exact (Frame.after (Frame.mono State.set_busData_frame rfl) (Frame.mono State.withRtc_frame rfl))

theorem State.startCapture_frame {s} : Frame [.rTide, .rGnss, .rFront, .rLookout, .gnss] s (State.startCapture s)
    := by
  unfold State.startCapture
  exact (Frame.after (Frame.mono State.deriveMode_frame rfl) (Frame.after (State.puts_cons_frame
      F.LOOKOUT_SNAP_BUSY_part rfl (State.puts_cons_frame F.LOOKOUT_SNAP_VALID_part rfl State.puts_nil_frame))
      (Frame.mono State.withGnss_frame rfl)))

theorem State.withAdc_frame {s a1} : Frame [.adc] s (State.withAdc s a1) := by
  unfold State.withAdc
  exact (Frame.mono State.set_adc_frame rfl)

theorem State.adcStart_frame {s} : Frame [.rAdc, .adc] s (State.adcStart s) := by
  unfold State.adcStart
  exact (Frame.ite Frame.refl (Frame.ite (State.put_frame F.ADC_STAT_CFGERR_part rfl) (Frame.after (State.put_frame
      F.ADC_STAT_BUSY_part rfl) (Frame.mono State.withAdc_frame rfl))))

theorem State.withTouch_frame {s a1} : Frame [.touch] s (State.withTouch s a1) := by
  unfold State.withTouch
  exact (Frame.mono State.set_touch_frame rfl)

theorem State.touchStart_frame {s} : Frame [.rTouch, .touch] s (State.touchStart s) := by
  unfold State.touchStart
  exact (Frame.ite Frame.refl (Frame.after (State.put_frame F.TOUCH_STAT_BUSY_part rfl) (Frame.mono
      State.withTouch_frame rfl)))

theorem State.setSpi_frame {s a1 a2} : Frame [.spis] s (State.setSpi s a1 a2) := by
  unfold State.setSpi
  exact (Frame.mono State.set_spis_frame rfl)

theorem State.spiStart_frame {s a1} : Frame [.rSpi, .spis] s (State.spiStart s a1) := by
  unfold State.spiStart
  exact (Frame.ite (Frame.after (State.put_frame F.SPI_STAT_BUSY_part rfl) (Frame.mono State.setSpi_frame rfl))
      Frame.refl)

theorem State.setDma_frame {s a1 a2} : Frame [.dma] s (State.setDma s a1 a2) := by
  unfold State.setDma
  exact (Frame.mono State.set_dma_frame rfl)

theorem State.dmaTrigger_frame {s a1} : Frame [.dma] s (State.dmaTrigger s a1) := by
  unfold State.dmaTrigger
  exact (Frame.ite (Frame.mono State.setDma_frame rfl) Frame.refl)

theorem State.setEngine_frame {s a1 a2} : Frame [.lgt] s (State.setEngine s a1 a2) := by
  unfold State.setEngine
  exact (Frame.mono State.set_lgt_frame rfl)

theorem State.evrCapture_frame {s a1} : Frame [.rEvr] s (State.evrCapture s a1) := by
  unfold State.evrCapture
  exact (State.puts_cons_frame F.EVR_CAPS_SEC_part rfl (State.puts_cons_frame F.EVR_CAPF_FRAC_part rfl
      (State.puts_cons_frame F.EVR_CAPSTAT_FULL_part rfl State.puts_nil_frame)))

end Sys2Proof.Machine
end

