-- ==== Sys2Proof/Laws/FrameRouter.lean ====
section
/-! SUPPORT. The frames of the operations and commands of Machine/Router.lean: what each can change. -/

namespace Sys2Proof.Machine

theorem State.wake_frame {s a1} : Frame [.power] s (State.wake s a1) := by
  unfold State.wake
  exact (Frame.ite (Frame.mono State.set_power_frame rfl) Frame.refl)

theorem State.overrun_frame {s a1} : Frame [.rPwr, .rMan, .rEvr, .rMemctl, .rQuay, .mem, .chk, .console, .manApp,
    .manSys, .power] s (State.overrun s a1) := by
  unfold State.overrun
  exact (Frame.ite Frame.refl (Frame.after (Frame.mono State.raiseK_frame rfl) (State.put_frame (by split; exact F.EVR_OVR_OVR_part; exact F.EVR_OVRH_OVR_part) rfl)))

theorem State.consume_frame {s a1} : Frame [.rHarv, .rEvr, .rTide, .rSpi, .rAdc, .rTouch, .rGpio, .rGnss, .rFront,
    .rLookout, .busData, .rtc, .power, .harv, .gnss, .lgt, .spis, .dma, .adc, .touch] s (State.consume s a1) := by
  unfold State.consume
  exact (Frame.ite (Frame.mono State.dmaTrigger_frame rfl) (Frame.ite (Frame.mono State.setEngine_frame rfl)
      (Frame.ite (Frame.mono State.adcStart_frame rfl) (Frame.ite (Frame.mono State.touchStart_frame rfl)
      (Frame.ite (Frame.mono State.spiStart_frame rfl) (Frame.ite (Frame.mono State.evrCapture_frame rfl)
      (Frame.ite (Frame.mono State.wake_frame rfl) (Frame.ite (Frame.mono State.startCapture_frame rfl) (Frame.ite
      (Frame.mono State.outEvent_frame rfl) (Frame.ite (Frame.mono State.cutGrant_frame rfl) (Frame.ite (Frame.mono
      State.captureRtc_frame rfl) (State.count_frame F.EVR_CNT_COUNT_part rfl))))))))))))

theorem State.reach_frame {s a1} : Frame [.rPwr, .rHarv, .rMan, .rEvr, .rMemctl, .rTide, .rSpi, .rAdc, .rTouch,
    .rGpio, .rGnss, .rFront, .rLookout, .rQuay, .mem, .chk, .busData, .console, .manApp, .manSys, .rtc, .power,
    .harv, .gnss, .lgt, .spis, .dma, .adc, .touch] s (State.reach s a1) := by
  unfold State.reach
  exact (Frame.ite (Frame.mono State.overrun_frame rfl) (Frame.mono State.consume_frame rfl))

theorem State.watch_frame {s a1} : Frame [.rPwr, .rMan, .rEvr, .rMemctl, .rQuay, .mem, .chk, .console, .manApp,
    .manSys, .power] s (State.watch s a1) := by
  unfold State.watch
  exact (Frame.ite Frame.refl (Frame.ite (State.put_frame F.EVR_WFLAG_FLAG_part rfl) (Frame.after (Frame.mono
      State.raiseK_frame rfl) (State.put_frame F.EVR_WFLAG_FLAG_part rfl))))

theorem State.fire_frame {s a1} : Frame [.rPwr, .rHarv, .rMan, .rEvr, .rMemctl, .rTide, .rSpi, .rAdc, .rTouch,
    .rGpio, .rGnss, .rFront, .rLookout, .rQuay, .mem, .chk, .busData, .console, .manApp, .manSys, .rtc, .power,
    .harv, .gnss, .lgt, .spis, .dma, .adc, .touch] s (State.fire s a1) := by
  unfold State.fire
  exact (Frame.after (Frame.foldl (fun _ _ => (Frame.mono State.reach_frame rfl)) _ _) (Frame.mono
      State.watch_frame rfl))

end Sys2Proof.Machine
end

