-- ==== Sys2Proof/Laws/FrameDomains.lean ====
section
/-! SUPPORT. The frames of the operations and commands of Machine/Domains.lean: what each can change. -/

namespace Sys2Proof.Machine

theorem State.clearRegs_frame {e s b lo hi} (hb : Part.sub [b.part] e = true) (hl : 5 ≤ lo) (hh : hi ≤ b.size) :
    Frame e s (State.clearRegs s b lo hi) := frame_clear hb hl hh
theorem State.clearRegsOwn_frame {e s b lo hi} (hb : Part.sub [.rOwn, b.part] e = true) (hh : hi ≤ b.size) :
    Frame e s (State.clearRegs s b lo hi) := frame_clearOwn hb hh

theorem State.clearBlock_frame {e s b} (hb : Part.sub [b.part] e = true) : Frame e s (State.clearBlock s b) :=
  State.clearRegs_frame hb (by decide) (Nat.le_refl _)

theorem State.anaOff_frame {s} : Frame [.rAdc, .rTouch, .adc, .touch] s (State.anaOff s) := by
  unfold State.anaOff
  exact (Frame.after (Frame.mono State.set_adc_touch_frame rfl) (Frame.after (State.put_frame F.TOUCH_STAT_TESTING_part rfl) (Frame.after (State.put_frame F.TOUCH_STAT_BUSY_part rfl) (Frame.after (State.clearRegs_frame rfl (by decide) (by decide)) (State.clearBlock_frame rfl)))))

theorem State.perOff_frame {s} : Frame [.rUart, .rI2ct, .rSpi, .rGpio, .rDma, .uarts, .i2ct, .spis, .dma] s
    (State.perOff s) := by
  unfold State.perOff
  exact (Frame.after (Frame.mono State.set_uarts_i2ct_spis_dma_frame rfl) (Frame.after (State.clearRegs_frame rfl (by decide) (by decide)) (Frame.after (State.clearBlock_frame rfl) (Frame.after (State.clearBlock_frame rfl) (Frame.after (State.clearBlock_frame rfl) (Frame.after (State.clearBlock_frame rfl) (Frame.after (State.clearBlock_frame rfl) (Frame.after (State.clearBlock_frame rfl) (State.clearBlock_frame rfl)))))))))

theorem State.berthsReset_frame {s : State} {v : GnssState} :
    Frame [.rBerth, .gnss] s { s with
      regs := s.regs.filter fun c =>
        !(0x50010000 * 32 ≤ c.1 && c.1 < 0x50020000 * 32 && 0x10 ≤ c.1 / 32 % 0x100)
      gnss := v } := by
  refine Frame.trans (t := { s with regs := s.regs.filter fun c =>
    !(0x50010000 * 32 ≤ c.1 && c.1 < 0x50020000 * 32 && 0x10 ≤ c.1 / 32 % 0x100) })
    (frame_regs (fun w => Store.wf_filter _ w) fun k hk => ?_) (Frame.mono State.set_gnss_frame rfl)
  rw [Store.get_filter _ _ (fun c => !(decide (0x50010000 * 32 ≤ c) && decide (c < 0x50020000 * 32) && decide (0x10
      ≤ c / 32 % 0x100)))]
  rw [if_pos]
  by_cases h : 0x50010000 * 32 ≤ k ∧ k < 0x50020000 * 32 ∧ 0x10 ≤ k / 32 % 0x100
  · exfalso
    apply hk
    have hf : (⟨k / 32, k % 32, 1⟩ : Fld).key = k := by unfold Fld.key; simp only; omega
    have hp : partOfKey k = .rBerth := by
      rw [← hf]
      exact part_rBerth (by simp only; omega) (by simp only; omega) (by simp only; omega) (Nat.mod_lt _ (by decide))
    rw [hp]; decide
  · simp only [Bool.not_eq_true', Bool.and_eq_false_iff, decide_eq_false_iff_not]
    omega

theorem State.gbbOff_frame {s} : Frame [.rFront, .rBerth, .gnss] s (State.gbbOff s) :=
  Frame.trans (Frame.trans (Frame.trans (State.clearBlock_frame (b := .front) rfl)
    (State.put_frame (f := F.FRONT_AGC_REF 0) (v := s.get (F.FRONT_AGC_REF 0)) F.FRONT_AGC_REF_part rfl))
    (State.put_frame (f := F.FRONT_AGC_REF 1) (v := s.get (F.FRONT_AGC_REF 1)) F.FRONT_AGC_REF_part rfl))
    (Frame.mono State.berthsReset_frame rfl)

theorem State.domainLoss_frame {s a1} : Frame [.rMemctl, .rUart, .rI2ct, .rSpi, .rLgt, .rAdc, .rTouch, .rCrypto,
    .rGpio, .rDma, .rFront, .rLookout, .rBerth, .mem, .chk, .crypto, .gnss, .lgt, .uarts, .i2ct, .spis, .dma, .adc,
    .touch, .mems] s (State.domainLoss s a1) := by
  unfold State.domainLoss
  exact (by (first | (dsimp only; split) | split); exact (Frame.ite (Frame.ite Frame.refl (Frame.mono State.loseMem_frame rfl)) (Frame.after (Frame.mono State.loseMem_frame rfl) (Frame.ite Frame.refl (Frame.mono State.loseMem_frame rfl)))); exact (Frame.mono State.sramOff_frame rfl); exact (Frame.mono State.sramOff_frame rfl); exact (Frame.mono State.sramOff_frame rfl); exact (Frame.mono State.gbbOff_frame rfl); exact (Frame.after (Frame.mono State.set_gnss_frame rfl) (Frame.after (Frame.mono State.clearMem_frame rfl) (State.clearBlock_frame rfl))); exact (Frame.mono State.perOff_frame rfl); exact (Frame.after (Frame.mono State.set_lgt_frame rfl) (State.clearBlock_frame rfl)); exact (Frame.mono State.anaOff_frame rfl); exact (Frame.after (State.put_frame F.MEMCTL_WIPE_BUSY_part rfl) (Frame.after (Frame.mono State.loseMem_frame rfl) (Frame.mono State.signLost_frame rfl))); exact Frame.refl)

theorem State.domainOff_frame {s a1} : Frame [.rPwr, .rMemctl, .rUart, .rI2ct, .rSpi, .rLgt, .rAdc, .rTouch,
    .rCrypto, .rGpio, .rDma, .rFront, .rLookout, .rBerth, .mem, .chk, .app, .crypto, .gnss, .lgt, .uarts, .i2ct,
    .spis, .dma, .adc, .touch, .mems] s (State.domainOff s a1) := by
  unfold State.domainOff
  exact (Frame.ite (Frame.ite (Frame.after (Frame.mono State.set_app_frame rfl) (Frame.after (State.put_frame
      F.PWR_DOMS_PG_part rfl) (Frame.mono State.domainLoss_frame rfl))) (Frame.after (State.put_frame
      F.PWR_DOMS_PG_part rfl) (Frame.mono State.domainLoss_frame rfl))) Frame.refl)

theorem State.beginWipe_frame {s a1 a2} : Frame [.rPwr, .rMan, .rMemctl, .rCrypto, .rQuay, .mem, .chk, .console,
    .manApp, .manSys, .crypto, .power, .mems] s (State.beginWipe s a1 a2) := by
  unfold State.beginWipe
  exact (Frame.after (Frame.mono (State.set_mems_frame rfl) rfl) (Frame.after (State.puts_cons_frame
      F.MEMCTL_WIPE_BUSY_part rfl (State.puts_cons_frame F.MEMCTL_WIPE_CAUSE_part rfl State.puts_nil_frame))
      (Frame.after (Frame.mono State.zeroMem_frame rfl) (Frame.mono State.signWiped_frame rfl))))

theorem State.domainOn_frame {s a1} : Frame [.rPwr, .rMan, .rMemctl, .rCrypto, .rQuay, .mem, .chk, .console,
    .manApp, .manSys, .crypto, .power, .mems] s (State.domainOn s a1) := by
  unfold State.domainOn
  exact (Frame.ite Frame.refl (Frame.ite (Frame.mono State.sramOn_frame rfl) (Frame.ite (Frame.after (Frame.mono
      State.beginWipe_frame rfl) (State.put_frame F.PWR_DOMS_PG_part rfl)) (State.put_frame F.PWR_DOMS_PG_part rfl))))

theorem State.needDomain_frame {s a1} : Frame [.rPwr, .rMan, .rMemctl, .rCrypto, .rQuay, .mem, .chk, .console,
    .manApp, .manSys, .crypto, .power, .mems] s (State.needDomain s a1) := by
  unfold State.needDomain
  exact (Frame.mono State.domainOn_frame rfl)

theorem State.busError_frame {s a1 a2 a3} : Frame [.rPwr, .rMan, .rMemctl, .rQuay, .mem, .chk, .console, .manApp,
    .manSys, .power] s (State.busError s a1 a2 a3) := by
  unfold State.busError
  exact (Frame.mono State.raiseK_frame rfl)

theorem State.access_frame {e s b ofs m w act}
    (h0 : Part.sub [.rPwr, .rMan, .rMemctl, .rCrypto, .rQuay, .rLogs, .mem, .chk, .busData, .console, .manApp,
        .manSys, .logs, .crypto, .power, .mems] e = true)
    (h : ∀ t, Frame e t (act t)) : Frame e s (State.access s b ofs m w act) := by
  unfold State.access
  split
  · exact h s
  · refine Frame.ite (h s) (Frame.ite ?_ (Frame.trans (Frame.mono State.domainOn_frame (Part.sub_trans rfl h0)) (h
      _)))
    exact Frame.trans (Frame.mono State.busError_frame (Part.sub_trans rfl h0)) (Frame.mono State.set_busData_frame
        (Part.sub_trans rfl h0))

theorem State.sleepLosses_frame {s a1} : Frame [.rPwr, .rMemctl, .rUart, .rI2ct, .rSpi, .rLgt, .rAdc, .rTouch,
    .rCrypto, .rGpio, .rDma, .rFront, .rLookout, .rBerth, .mem, .chk, .crypto, .gnss, .lgt, .uarts, .i2ct, .spis,
    .dma, .adc, .touch, .mems] s (State.sleepLosses s a1) := by
  unfold State.sleepLosses
  exact (Frame.foldl (fun _ _ => (Frame.ite Frame.refl (Frame.ite (State.put_frame F.PWR_DOMS_PG_part rfl)
      (Frame.ite (Frame.after (State.put_frame F.PWR_DOMS_PG_part rfl) (Frame.after (Frame.mono State.loseMem_frame
      rfl) (Frame.mono State.loseMem_frame rfl))) (Frame.ite (Frame.after (State.put_frame F.PWR_DOMS_PG_part rfl)
      (Frame.mono State.loseMem_frame rfl)) (Frame.ite (Frame.after (State.put_frame F.PWR_DOMS_PG_part rfl)
      (Frame.foldl (fun _ _ => (Frame.after (State.put_frame F.MEMCTL_LOST_BANK_part rfl) (Frame.mono
      State.loseMem_frame rfl))) _ _)) (Frame.after (State.put_frame F.PWR_DOMS_PG_part rfl) (Frame.mono
      State.domainLoss_frame rfl)))))))) _ _)

end Sys2Proof.Machine
end

