-- ==== Sys2Proof/Laws/FrameGpio.lean ====
section
/-! SUPPORT. The frames of the operations and commands of Machine/Gpio.lean: what each can change. -/

namespace Sys2Proof.Machine

theorem execGpioEventEdge_frame {a0 a1 s t} (h : execGpioEventEdge a0 a1 s = .next t) :
    Frame [.rPwr, .rHarv, .rMan, .rEvr, .rMemctl, .rTide, .rSpi, .rAdc, .rTouch, .rGpio, .rGnss, .rFront,
        .rLookout, .rQuay, .mem, .chk, .busData, .console, .manApp, .manSys, .rtc, .power, .harv, .gnss, .pads,
        .lgt, .spis, .dma, .adc, .touch] s t := by
  obtain rfl := Host.Outcome.next.inj h
  exact (Frame.ite (Frame.mono State.outside_frame rfl) (Frame.after (Frame.foldl (fun _ _ => (Frame.mono
      State.fire_frame rfl)) _ _) (Frame.mono State.outside_frame rfl)))

theorem execGpioWakeEdge_frame {a0 a1 s t} (h : execGpioWakeEdge a0 a1 s = .next t) :
    Frame [.rGpio, .power, .pads] s t := by
  obtain rfl := Host.Outcome.next.inj h
  exact (Frame.ite (Frame.mono State.outside_frame rfl) (Frame.after (Frame.mono State.wake_frame rfl) (Frame.ite
      (Frame.after (State.put_frame F.GPIO_WAKESTAT0_WAKE_part rfl) (Frame.mono State.outside_frame rfl))
      (Frame.after (State.put_frame F.GPIO_WAKESTAT1_WAKE_part rfl) (Frame.mono State.outside_frame rfl)))))

theorem State.outAlias_frame {s a1 a2 a3 a4} : Frame [.rGpio] s (State.outAlias s a1 a2 a3 a4) := by
  unfold State.outAlias
  exact (State.guard_frame rfl (fun _ => (State.put_frame (by split; exact F.GPIO_OUT1_OUT_part; exact F.GPIO_OUT0_OUT_part) rfl)))

theorem execGpioOutset_frame {a0 a1 a2 s t} (h : execGpioOutset a0 a1 a2 s = .next t) :
    Frame [.rGpio] s t := by
  obtain rfl := Host.Outcome.next.inj h
  exact (Frame.mono State.outAlias_frame rfl)

theorem execGpioOutclr_frame {a0 a1 a2 s t} (h : execGpioOutclr a0 a1 a2 s = .next t) :
    Frame [.rGpio] s t := by
  obtain rfl := Host.Outcome.next.inj h
  exact (Frame.mono State.outAlias_frame rfl)

theorem State.tapSelect_frame {s a1 a2} : Frame [.power, .pads] s (State.tapSelect s a1 a2) := by
  unfold State.tapSelect
  exact (Frame.ite (Frame.after (Frame.mono State.wake_frame rfl) (Frame.mono State.withPads_frame rfl))
      (Frame.mono State.withPads_frame rfl))

theorem execTapExtest_frame {a0 s t} (h : execTapExtest a0 s = .next t) :
    Frame [.power, .pads] s t := by
  obtain rfl := Host.Outcome.next.inj h
  exact (Frame.after (Frame.mono State.withPads_frame rfl) (Frame.mono State.tapSelect_frame rfl))

theorem execTapSamplePreload_frame {a0 a1 s t} (h : execTapSamplePreload a0 a1 s = .next t) :
    Frame [.power, .pads] s t := by
  obtain rfl := Host.Outcome.next.inj h
  exact (Frame.after (Frame.mono State.withPads_frame rfl) (Frame.mono State.tapSelect_frame rfl))

theorem execTapIdcode_frame {s t} (h : execTapIdcode s = .next t) :
    Frame [.power, .pads] s t := by
  obtain rfl := Host.Outcome.next.inj h
  exact (Frame.mono State.tapSelect_frame rfl)

theorem execTapClamp_frame {s t} (h : execTapClamp s = .next t) :
    Frame [.power, .pads] s t := by
  obtain rfl := Host.Outcome.next.inj h
  exact (Frame.mono State.tapSelect_frame rfl)

theorem execTapHighz_frame {s t} (h : execTapHighz s = .next t) :
    Frame [.power, .pads] s t := by
  obtain rfl := Host.Outcome.next.inj h
  exact (Frame.mono State.tapSelect_frame rfl)

theorem execTapDebug_frame {s t} (h : execTapDebug s = .next t) :
    Frame [.rPwr, .rMan, .rMemctl, .rQuay, .mem, .chk, .console, .manApp, .manSys, .power, .pads] s t := by
  obtain rfl := Host.Outcome.next.inj h
  exact (Frame.after (Frame.mono State.raiseK_frame rfl) (Frame.mono State.tapSelect_frame rfl))

theorem execTapBypass_frame {s t} (h : execTapBypass s = .next t) :
    Frame [.power, .pads] s t := by
  obtain rfl := Host.Outcome.next.inj h
  exact (Frame.mono State.tapSelect_frame rfl)

theorem execTrstnReset_frame {s t} (h : execTrstnReset s = .next t) :
    Frame [.power, .pads] s t := by
  obtain rfl := Host.Outcome.next.inj h
  exact (Frame.mono State.tapSelect_frame rfl)

theorem execTestMem_frame {a0 a1 s t} (h : execTestMem a0 a1 s = .next t) :
    Frame [.rPwr, .rMan, .rMemctl, .rCrypto, .rQuay, .mem, .chk, .console, .manApp, .manSys, .crypto, .power,
        .memTest, .mems] s t := by
  obtain rfl := Host.Outcome.next.inj h
  exact (State.run_frame rfl (fun _ => (Frame.after (Frame.mono State.ok_frame rfl) (Frame.after (Frame.mono
      State.set_memTest_frame rfl) (Frame.mono State.needDomain_frame rfl)))))

theorem execTestMemDone_frame {s t} (h : execTestMemDone s = .next t) :
    Frame [.rPwr, .rMan, .rMemctl, .rQuay, .mem, .chk, .console, .manApp, .manSys, .power, .memTest] s t := by
  obtain rfl := Host.Outcome.next.inj h
  exact (Frame.ite (Frame.after (Frame.mono State.raise0_frame rfl) (Frame.mono State.set_memTest_frame rfl))
      Frame.refl)

theorem execTestRf_frame {a0 a1 a2 s t} (h : execTestRf a0 a1 a2 s = .next t) :
    Frame [.rPwr, .rMan, .rMemctl, .rCrypto, .rQuay, .free, .mem, .chk, .console, .manApp, .manSys, .crypto,
        .power, .mems] s t := by
  obtain rfl := Host.Outcome.next.inj h
  exact (State.run_frame rfl (fun _ => (Frame.after (Frame.mono State.ok_frame rfl) (Frame.after (Frame.mono
      State.reply_frame rfl) (Frame.after (Frame.mono State.spend_frame rfl) (Frame.mono State.needDomain_frame
      rfl))))))

theorem execTestPin_frame {a0 a1 a2 s t} (h : execTestPin a0 a1 a2 s = .next t) :
    Frame [.rPwr, .rMan, .rMemctl, .rQuay, .mem, .chk, .console, .manApp, .manSys, .power, .pads] s t := by
  obtain rfl := Host.Outcome.next.inj h
  exact (State.run_frame rfl (fun _ => (Frame.after (Frame.mono State.ok_frame rfl) (Frame.mono
      State.withPads_frame rfl))))

end Sys2Proof.Machine
end

