-- ==== Sys2Proof/Laws/FrameLogStore.lean ====
section
/-! SUPPORT. The frames of the operations and commands of Machine/LogStore.lean: what each can change. -/

namespace Sys2Proof.Machine

theorem State.withLogs_frame {s a1} : Frame [.logs] s (State.withLogs s a1) := by
  unfold State.withLogs
  exact (Frame.mono State.set_logs_frame rfl)

theorem State.program_frame {s a1 a2} : Frame [.rPwr, .rMan, .rMemctl, .rQuay, .mem, .chk, .console, .manApp,
    .manSys, .logs, .power] s (State.program s a1 a2) := by
  unfold State.program
  exact (Frame.ite (Frame.after (Frame.mono State.raise0_frame rfl) (Frame.after (Frame.mono State.withLogs_frame
      rfl) (Frame.mono State.setBytes_frame rfl))) (Frame.after (Frame.mono State.withLogs_frame rfl) (Frame.mono
      State.setBytes_frame rfl)))

theorem State.setHead_frame {s a1} : Frame [.logs] s (State.setHead s a1) := by
  unfold State.setHead
  exact (Frame.mono State.withLogs_frame rfl)

theorem State.journal_frame {s a1} : Frame [.rPwr, .rMan, .rMemctl, .rQuay, .mem, .chk, .console, .manApp, .manSys,
    .logs, .power] s (State.journal s a1) := by
  unfold State.journal
  exact (Frame.after (Frame.mono State.setHead_frame rfl) (Frame.mono State.program_frame rfl))

theorem State.eraseTally_frame {s} : Frame [.mem] s (State.eraseTally s) := by
  unfold State.eraseTally
  exact (Frame.after (Frame.mono State.setBytes_frame rfl) (Frame.mono State.setBytes_frame rfl))

theorem State.tallySave_frame {s} : Frame [.rPwr, .rMan, .rMemctl, .rQuay, .mem, .chk, .console, .manApp, .manSys,
    .logs, .power] s (State.tallySave s) := by
  unfold State.tallySave
  exact (Frame.after (Frame.mono State.program_frame rfl) (Frame.after (Frame.mono State.program_frame rfl)
      (Frame.mono State.program_frame rfl)))

theorem State.startRun_frame {s a1} : Frame [.rLogs, .logs] s (State.startRun s a1) := by
  unfold State.startRun
  exact (Frame.after (State.put_frame F.LOGS_STAT_BUSY_part rfl) (Frame.mono State.withLogs_frame rfl))

theorem State.setBuffer_frame {s l} : Frame [.rLogs] s (State.setBuffer s l) :=
  State.puts_frame fun c hc => by
    obtain ⟨k, _, rfl⟩ := List.mem_map.mp hc
    rw [F.LOGS_BUF_DATA_part]; rfl

theorem State.logResult_frame {s a1} : Frame [.rLogs] s (State.logResult s a1) := by
  unfold State.logResult
  exact (State.put_frame F.LOGS_STAT_RESULT_part rfl)

theorem State.startTwinWrite_frame {s} : Frame [.rLogs, .logs] s (State.startTwinWrite s) := by
  unfold State.startTwinWrite
  exact (Frame.ite (Frame.mono State.logResult_frame rfl) (Frame.ite (Frame.mono State.logResult_frame rfl) (by first | (dsimp only; exact (Frame.ite (Frame.mono State.logResult_frame rfl) (Frame.mono State.startRun_frame rfl))) | (split; exact (Frame.ite (Frame.mono State.logResult_frame rfl) (Frame.mono State.startRun_frame rfl))))))

theorem State.startTwinRead_frame {s} : Frame [.rPwr, .rMan, .rMemctl, .rLogs, .rQuay, .mem, .chk, .console,
    .manApp, .manSys, .logs, .power] s (State.startTwinRead s) := by
  unfold State.startTwinRead
  exact (Frame.ite (Frame.mono State.logResult_frame rfl) (by (first | (dsimp only; split) | split); exact (Frame.after (Frame.mono State.logResult_frame rfl) (Frame.mono State.setBuffer_frame rfl)); exact (Frame.after (Frame.mono State.logResult_frame rfl) (Frame.mono State.setBuffer_frame rfl)); exact (Frame.after (Frame.mono State.logResult_frame rfl) (Frame.mono State.setBuffer_frame rfl)); exact (Frame.ite (Frame.after (Frame.mono State.logResult_frame rfl) (Frame.mono State.setBuffer_frame rfl)) (Frame.ite (Frame.after (Frame.mono State.logResult_frame rfl) (Frame.mono State.setBuffer_frame rfl)) (Frame.after (Frame.mono State.startRun_frame rfl) (Frame.after (Frame.mono State.raise0_frame rfl) (Frame.mono State.setBuffer_frame rfl)))))))

theorem State.startProg_frame {s} : Frame [.rLogs, .logs] s (State.startProg s) := by
  unfold State.startProg
  exact (Frame.ite (Frame.mono State.logResult_frame rfl) (Frame.ite (Frame.mono State.logResult_frame rfl)
      (Frame.mono State.startRun_frame rfl)))

theorem State.startReq_frame {s a1} : Frame [.rPwr, .rMan, .rMemctl, .rLogs, .rQuay, .free, .mem, .chk, .console,
    .manApp, .manSys, .logs, .power] s (State.startReq s a1) := by
  unfold State.startReq
  exact (by (first | (dsimp only; split) | split); exact (Frame.mono State.startProg_frame rfl); exact (Frame.mono State.startTwinWrite_frame rfl); exact (Frame.mono State.startTwinRead_frame rfl); exact (Frame.mono State.startRun_frame rfl); exact (Frame.after (Frame.mono State.startRun_frame rfl) (Frame.mono State.spendN_frame rfl)); exact (Frame.after (Frame.mono State.startRun_frame rfl) (Frame.mono State.spendN_frame rfl)); exact (Frame.mono State.startRun_frame rfl))

theorem State.logRequest_frame {s a1} : Frame [.rPwr, .rMan, .rMemctl, .rLogs, .rQuay, .free, .mem, .chk, .console,
    .manApp, .manSys, .logs, .power] s (State.logRequest s a1) := by
  unfold State.logRequest
  exact (Frame.ite (Frame.ite (Frame.after (State.put_frame F.LOGS_STAT_QUEUED_part rfl) (Frame.mono
      State.withLogs_frame rfl)) (Frame.mono State.withLogs_frame rfl)) (Frame.mono State.startReq_frame rfl))

theorem State.systemRecord_frame {s} : Frame [.rPwr, .rMan, .rMemctl, .rLogs, .rQuay, .free, .mem, .chk, .console,
    .manApp, .manSys, .logs, .power] s (State.systemRecord s) := by
  unfold State.systemRecord
  exact (Frame.mono State.logRequest_frame rfl)

theorem State.logCommand_frame {s a1 a2} : Frame [.rPwr, .rMan, .rMemctl, .rLogs, .rQuay, .free, .mem, .chk,
    .console, .manApp, .manSys, .logs, .power] s (State.logCommand s a1 a2) := by
  unfold State.logCommand
  exact (Frame.ite (State.deny_frame rfl) (Frame.ite (Frame.after (State.deny_frame rfl) (State.put_frame
      F.LOGS_STAT_OVR_part rfl)) (Frame.ite (State.deny_frame rfl) (Frame.mono State.logRequest_frame rfl))))

theorem execLogsProg_frame {a0 s t} (h : execLogsProg a0 s = .next t) :
    Frame [.rPwr, .rMan, .rMemctl, .rLogs, .rQuay, .free, .mem, .chk, .console, .manApp, .manSys, .logs, .power] s
        t := by
  obtain rfl := Host.Outcome.next.inj h
  exact (Frame.mono State.logCommand_frame rfl)

theorem execLogsTwinWr_frame {a0 s t} (h : execLogsTwinWr a0 s = .next t) :
    Frame [.rPwr, .rMan, .rMemctl, .rLogs, .rQuay, .free, .mem, .chk, .console, .manApp, .manSys, .logs, .power] s
        t := by
  obtain rfl := Host.Outcome.next.inj h
  exact (Frame.mono State.logCommand_frame rfl)

theorem execLogsTwinRd_frame {a0 s t} (h : execLogsTwinRd a0 s = .next t) :
    Frame [.rPwr, .rMan, .rMemctl, .rLogs, .rQuay, .free, .mem, .chk, .console, .manApp, .manSys, .logs, .power] s
        t := by
  obtain rfl := Host.Outcome.next.inj h
  exact (Frame.mono State.logCommand_frame rfl)

theorem State.startNext_frame {s} : Frame [.rPwr, .rMan, .rMemctl, .rLogs, .rQuay, .free, .mem, .chk, .console,
    .manApp, .manSys, .logs, .power] s (State.startNext s) := by
  unfold State.startNext
  exact (Frame.ite Frame.refl (by (first | (dsimp only; split) | split); exact Frame.refl; exact (Frame.after (Frame.mono State.startReq_frame rfl) (Frame.after (State.flag_frame F.LOGS_STAT_QUEUED_part rfl) (Frame.mono State.withLogs_frame rfl)))))

theorem execLogsCommandStart_frame {s t} (h : execLogsCommandStart s = .next t) :
    Frame [.rPwr, .rMan, .rMemctl, .rLogs, .rQuay, .free, .mem, .chk, .console, .manApp, .manSys, .logs, .power] s
        t := by
  obtain rfl := Host.Outcome.next.inj h
  exact (Frame.mono State.startNext_frame rfl)

theorem State.logTick_frame {s} : Frame [.rPwr, .rMan, .rMemctl, .rQuay, .mem, .chk, .console, .manApp, .manSys,
    .logs, .power] s (State.logTick s) := by
  unfold State.logTick
  exact (by (first | (dsimp only; split) | split); exact (Frame.ite (Frame.after (Frame.mono State.withLogs_frame rfl) (Frame.mono State.journal_frame rfl)) Frame.refl); exact Frame.refl)

theorem State.finishRun_frame {s a1 a2} : Frame [.rPwr, .rMan, .rMemctl, .rQuay, .mem, .chk, .console, .manApp,
    .manSys, .logs, .power] s (State.finishRun s a1 a2) := by
  unfold State.finishRun
  exact (Frame.ite (Frame.mono State.eraseTally_frame rfl) (Frame.ite (Frame.mono State.program_frame rfl)
      (Frame.ite (Frame.after (Frame.mono State.program_frame rfl) (Frame.mono State.journal_frame rfl))
      (Frame.mono State.journal_frame rfl))))

theorem State.endRun_frame {s} : Frame [.rLogs, .logs] s (State.endRun s) := by
  unfold State.endRun
  exact (Frame.after (State.put_frame F.LOGS_STAT_BUSY_part rfl) (Frame.mono State.withLogs_frame rfl))

theorem State.finishProgram_frame {s} : Frame [.rPwr, .rMan, .rMemctl, .rLogs, .rQuay, .mem, .chk, .console,
    .manApp, .manSys, .logs, .power] s (State.finishProgram s) := by
  unfold State.finishProgram
  exact (by (first | (dsimp only; split) | split); exact (Frame.after (Frame.mono State.endRun_frame rfl) (Frame.mono State.finishRun_frame rfl)); exact Frame.refl)

theorem State.tear_frame {s a1} : Frame [.free, .mem, .logs] s (State.tear s a1) := by
  unfold State.tear
  exact (Frame.ite (Frame.mono State.spendN_frame rfl) (Frame.ite (Frame.after (Frame.mono State.setBytes_frame
      rfl) (Frame.mono State.spendN_frame rfl)) (Frame.after (Frame.mono State.setHead_frame rfl) (Frame.after
      (Frame.mono State.setBytes_frame rfl) (Frame.mono State.spendN_frame rfl)))))

theorem State.interruptSave_frame {s} : Frame [.rLogs, .free, .mem, .logs] s (State.interruptSave s) := by
  unfold State.interruptSave
  exact (Frame.ite (Frame.after (Frame.mono State.spendN_frame rfl) (Frame.after (Frame.mono State.setBytes_frame rfl) (by (first | (dsimp only; split) | split); exact (Frame.after (Frame.mono State.endRun_frame rfl) (Frame.mono State.tear_frame rfl)); exact Frame.refl))) (by (first | (dsimp only; split) | split); exact (Frame.after (Frame.mono State.endRun_frame rfl) (Frame.mono State.tear_frame rfl)); exact Frame.refl))

theorem State.logEnds_frame {s a1} : Frame [.rPwr, .rMan, .rMemctl, .rLogs, .rQuay, .mem, .chk, .console, .manApp,
    .manSys, .logs, .power] s (State.logEnds s a1) := by
  unfold State.logEnds
  exact (by (first | (dsimp only; split) | split); exact (Frame.after (Frame.mono State.withTag_frame rfl) (Frame.after (Frame.mono State.ok_frame rfl) (Frame.mono State.withTag_frame rfl))); exact (by (first | (dsimp only; split) | split); exact (Frame.after (Frame.mono State.withTag_frame rfl) (Frame.after (Frame.mono State.ok_frame rfl) (Frame.after (Frame.mono State.withTag_frame rfl) (Frame.after (State.put_frame F.LOGS_PROT_BP_part rfl) (Frame.mono State.withLogs_frame rfl))))); exact (Frame.after (State.put_frame F.LOGS_PROT_BP_part rfl) (Frame.mono State.withLogs_frame rfl))); exact Frame.refl; exact Frame.refl; exact (Frame.after (Frame.mono State.raise_frame rfl) (Frame.mono State.logResult_frame rfl)))

theorem execLogsWriteDone_frame {s t} (h : execLogsWriteDone s = .next t) :
    Frame [.rPwr, .rMan, .rMemctl, .rLogs, .rQuay, .mem, .chk, .console, .manApp, .manSys, .logs, .power] s t := by
  obtain rfl := Host.Outcome.next.inj h
  exact (by (first | (dsimp only; split) | split); exact (Frame.ite Frame.refl (Frame.after (Frame.mono State.logEnds_frame rfl) (Frame.after (Frame.mono State.endRun_frame rfl) (Frame.mono State.finishRun_frame rfl)))); exact Frame.refl)

theorem execTallyEraseDone_frame {s t} (h : execTallyEraseDone s = .next t) :
    Frame [.rLogs, .mem, .logs] s t := by
  obtain rfl := Host.Outcome.next.inj h
  exact (by (first | (dsimp only; split) | split); exact (Frame.ite (Frame.after (Frame.mono State.endRun_frame rfl) (Frame.mono State.eraseTally_frame rfl)) Frame.refl); exact Frame.refl)

theorem State.recoverJournal_frame {s} : Frame [.rPwr, .rMan, .rMemctl, .rQuay, .mem, .chk, .console, .manApp,
    .manSys, .logs, .power] s (State.recoverJournal s).1 := by
  unfold State.recoverJournal
  exact (by (first | (dsimp only; split) | split); exact (by (first | (dsimp only; split) | split); exact (Frame.mono State.program_frame rfl); exact (by (first | (dsimp only; split) | split); exact Frame.refl; exact Frame.refl)); exact (by (first | (dsimp only; split) | split); exact Frame.refl; exact Frame.refl))

theorem State.recover_frame {s} : Frame [.rPwr, .rMan, .rMemctl, .rLogs, .rQuay, .mem, .chk, .console, .manApp,
    .manSys, .logs, .power] s (State.recover s) := by
  unfold State.recover
  exact (Frame.ite (Frame.after (Frame.mono State.raise0_frame rfl) (Frame.after (State.put_frame
      F.LOGS_REC_TALLY_part rfl) (Frame.after (State.put_frame F.LOGS_REC_JRNL_part rfl) (Frame.mono
      State.recoverJournal_frame rfl)))) (Frame.after (State.put_frame F.LOGS_REC_TALLY_part rfl) (Frame.after
      (State.put_frame F.LOGS_REC_JRNL_part rfl) (Frame.mono State.recoverJournal_frame rfl))))

theorem State.logRegs_frame {s} : Frame [.rLogs] s (State.logRegs s) := by
  unfold State.logRegs
  exact (State.put_frame F.LOGS_PROT_BP_part rfl)

theorem State.logRecover_frame {s} : Frame [.rPwr, .rMan, .rMemctl, .rLogs, .rQuay, .free, .mem, .chk, .console,
    .manApp, .manSys, .logs, .power] s (State.logRecover s) := by
  unfold State.logRecover
  exact (Frame.after (Frame.mono State.logRequest_frame rfl) (Frame.after (Frame.mono State.recover_frame rfl)
      (Frame.mono State.logRegs_frame rfl)))

theorem State.logRecoverWarm_frame {s} : Frame [.rLogs] s (State.logRecoverWarm s) := by
  unfold State.logRecoverWarm
  exact (Frame.after (State.put_frame F.LOGS_STAT_RECOV_part rfl) (Frame.mono State.logRegs_frame rfl))

theorem execLogRecoveryDone_frame {s t} (h : execLogRecoveryDone s = .next t) :
    Frame [.rPwr, .rMan, .rMemctl, .rLogs, .rQuay, .free, .mem, .chk, .console, .manApp, .manSys, .logs, .power] s
        t := by
  obtain rfl := Host.Outcome.next.inj h
  exact (Frame.ite (Frame.after (Frame.mono State.startNext_frame rfl) (Frame.after (Frame.mono
      State.withLogs_frame rfl) (Frame.after (State.put_frame F.LOGS_STAT_RECOV_part rfl) (Frame.mono
      State.recover_frame rfl)))) Frame.refl)

theorem State.loadTally_frame {s} : Frame [.mem, .chk] s (State.loadTally s) := by
  unfold State.loadTally
  exact (Frame.after (Frame.foldl (fun _ _ => (Frame.mono State.freshCheck_frame rfl)) _ _) (Frame.mono
      State.setBytes_frame rfl))

theorem execLogQuery_frame {a0 s t} (h : execLogQuery a0 s = .next t) :
    Frame [.rPwr, .rMan, .rMemctl, .rQuay, .mem, .chk, .console, .manApp, .manSys, .power] s t := by
  obtain rfl := Host.Outcome.next.inj h
  exact (State.run_frame rfl (fun _ => (Frame.after (Frame.mono State.ok_frame rfl) (Frame.mono State.reply_frame
      rfl))))

theorem execLogRead_frame {a0 a1 a2 s t} (h : execLogRead a0 a1 a2 s = .next t) :
    Frame [.rPwr, .rMan, .rMemctl, .rQuay, .mem, .chk, .console, .manApp, .manSys, .power] s t := by
  obtain rfl := Host.Outcome.next.inj h
  exact (State.run_frame rfl (fun _ => (Frame.ite (Frame.mono State.er_frame rfl) (Frame.after (Frame.mono
      State.ok_frame rfl) (Frame.mono State.replies_frame rfl)))))

theorem execLogWrite_frame {a0 a1 a2 s t} (h : execLogWrite a0 a1 a2 s = .next t) :
    Frame [.rPwr, .rMan, .rMemctl, .rLogs, .rQuay, .free, .mem, .chk, .console, .manApp, .manSys, .logs, .power] s
        t := by
  obtain rfl := Host.Outcome.next.inj h
  exact (State.run_frame rfl (fun _ => (Frame.ite (Frame.mono State.er_frame rfl) (Frame.ite (Frame.mono
      State.er_frame rfl) (Frame.ite (Frame.mono State.er_frame rfl) (Frame.ite (Frame.mono State.er_frame rfl)
      (Frame.mono State.logRequest_frame rfl)))))))

theorem execLogProtect_frame {a0 a1 s t} (h : execLogProtect a0 a1 s = .next t) :
    Frame [.rPwr, .rMan, .rMemctl, .rLogs, .rQuay, .free, .mem, .chk, .console, .manApp, .manSys, .logs, .power] s
        t := by
  obtain rfl := Host.Outcome.next.inj h
  exact (State.run_frame rfl (fun _ => (Frame.ite (Frame.mono State.er_frame rfl) (Frame.mono
      State.logRequest_frame rfl))))

theorem execLogTallyQuery_frame {a0 a1 s t} (h : execLogTallyQuery a0 a1 s = .next t) :
    Frame [.rPwr, .rMan, .rMemctl, .rQuay, .mem, .chk, .console, .manApp, .manSys, .power] s t := by
  obtain rfl := Host.Outcome.next.inj h
  exact (State.run_frame rfl (fun _ => (Frame.after (Frame.mono State.ok_frame rfl) (Frame.mono State.reply_frame
      rfl))))

end Sys2Proof.Machine
end

