-- ==== Sys2Proof/Laws/FrameMemory.lean ====
section
/-! SUPPORT. The frames of the operations and commands of Machine/Memory.lean: what each can change. -/

namespace Sys2Proof.Machine

theorem State.corrected_frame {s a1 a2 a3} : Frame [.rPwr, .rMan, .rMemctl, .rQuay, .mem, .chk, .console, .manApp,
    .manSys, .power] s (State.corrected s a1 a2 a3) := by
  unfold State.corrected
  exact (Frame.ite (Frame.after (Frame.mono State.raise_frame rfl) (Frame.after (State.put_frame
      F.MEMCTL_CEADDR_ADDR_part rfl) (State.count_frame F.MEMCTL_ERR_CE_part rfl))) (Frame.after (State.put_frame
      F.MEMCTL_CEADDR_ADDR_part rfl) (State.count_frame F.MEMCTL_ERR_CE_part rfl)))

theorem State.uncorrectable_frame {s a1 a2 a3 a4} : Frame [.rPwr, .rMan, .rMemctl, .rQuay, .mem, .chk, .console,
    .manApp, .manSys, .power] s (State.uncorrectable s a1 a2 a3 a4) := by
  unfold State.uncorrectable
  exact (Frame.after (Frame.mono State.raise_frame rfl) (Frame.after (State.puts_cons_frame
      F.MEMCTL_UEADDR_ADDR_part rfl (State.puts_cons_frame F.MEMCTL_UESRC_REGION_part rfl (State.puts_cons_frame
      F.MEMCTL_UESRC_MASTER_part rfl (State.puts_cons_frame F.MEMCTL_UESRC_PARTIAL_part rfl
      State.puts_nil_frame)))) (State.count_frame F.MEMCTL_ERR_UE_part rfl)))

theorem State.mergeReport_frame {s a1 a2 a3 a4} : Frame [.rPwr, .rMan, .rMemctl, .rQuay, .mem, .chk, .console,
    .manApp, .manSys, .power] s (State.mergeReport s a1 a2 a3 a4) := by
  unfold State.mergeReport
  exact (Frame.ite (Frame.mono State.corrected_frame rfl) (Frame.ite (Frame.mono State.uncorrectable_frame rfl)
      Frame.refl))

theorem State.endStores_frame {s a1 a2} : Frame [.rPwr, .rMan, .rMemctl, .rQuay, .mem, .chk, .runs, .console,
    .manApp, .manSys, .power] s (State.endStores s a1 a2) := by
  unfold State.endStores
  exact (Frame.after (Frame.foldl (fun _ _ => (Frame.mono State.mergeReport_frame rfl)) _ _) (Frame.mono
      State.set_runs_frame rfl))

theorem State.mend_frame {s a1} : Frame [.mem, .chk] s (State.mend s a1) := by
  unfold State.mend
  exact (by (first | (dsimp only; split) | split); exact (Frame.after (Frame.mono State.freshCheck_frame rfl) (Frame.mono State.setByte_frame rfl)); exact (Frame.mono State.freshCheck_frame rfl); exact Frame.refl)

theorem State.readMem_frame {s a1 a2 a3} : Frame [.rPwr, .rMan, .rMemctl, .rQuay, .mem, .chk, .runs, .wbacks,
    .console, .manApp, .manSys, .power] s (State.readMem s a1 a2 a3).1 := by
  unfold State.readMem
  exact (by (first | (dsimp only; split) | split); exact Frame.refl; exact (by (first | (dsimp only; split) | split); exact (Frame.mono State.endStores_frame rfl); exact (Frame.after (Frame.mono State.corrected_frame rfl) (Frame.ite (Frame.mono State.endStores_frame rfl) (Frame.after (Frame.mono State.set_wbacks_frame rfl) (Frame.mono State.endStores_frame rfl)))); exact (Frame.after (Frame.mono State.corrected_frame rfl) (Frame.ite (Frame.mono State.endStores_frame rfl) (Frame.after (Frame.mono State.set_wbacks_frame rfl) (Frame.mono State.endStores_frame rfl)))); exact (Frame.after (Frame.mono State.uncorrectable_frame rfl) (Frame.mono State.endStores_frame rfl))))

theorem State.merge_frame {s a1 a2} : Frame [.mem, .chk] s (State.merge s a1 a2).1 := by
  unfold State.merge
  exact (by (first | (dsimp only; split) | split); exact (Frame.after (Frame.mono State.freshCheck_frame rfl) (Frame.mono State.setBytes_frame rfl)); exact (Frame.after (Frame.mono State.setCheck_frame rfl) (Frame.mono State.setBytes_frame rfl)); exact (Frame.after (Frame.mono State.freshCheck_frame rfl) (Frame.after (Frame.mono State.setBytes_frame rfl) (Frame.mono State.mend_frame rfl))))

theorem State.writeIn_frame {s a1 a2 a3 a4} : Frame [.rPwr, .rMan, .rMemctl, .rQuay, .mem, .chk, .runs, .console,
    .manApp, .manSys, .power] s (State.writeIn s a1 a2 a3 a4) := by
  unfold State.writeIn
  exact (Frame.ite (Frame.after (Frame.mono State.writeBlock_frame rfl) (Frame.mono State.endStores_frame rfl)) (Frame.ite (Frame.after (Frame.mono State.mergeReport_frame rfl) (Frame.after (Frame.mono State.merge_frame rfl) (Frame.mono State.endStores_frame rfl))) (by (first | (dsimp only; split) | split); exact (Frame.ite (Frame.after (Frame.mono State.freshCheck_frame rfl) (Frame.after (Frame.mono State.setBytes_frame rfl) (Frame.mono State.set_runs_frame rfl))) (Frame.after (Frame.mono State.set_runs_frame rfl) (Frame.mono State.merge_frame rfl))); exact (Frame.ite (Frame.after (Frame.mono State.set_runs_frame rfl) (Frame.after (Frame.mono State.merge_frame rfl) (Frame.mono State.endStores_frame rfl))) (Frame.after (Frame.mono State.mergeReport_frame rfl) (Frame.after (Frame.mono State.merge_frame rfl) (Frame.mono State.endStores_frame rfl)))))))

theorem State.writeMem_frame {s a1 a2 a3} : Frame [.rPwr, .rMan, .rMemctl, .rQuay, .mem, .chk, .runs, .wbacks,
    .console, .manApp, .manSys, .power] s (State.writeMem s a1 a2 a3) := by
  unfold State.writeMem
  exact (by (first | (dsimp only; split) | split); exact (Frame.mono State.setBytes_frame rfl); exact (Frame.after (Frame.mono State.writeIn_frame rfl) (Frame.mono State.set_wbacks_frame rfl)))

theorem execCheckWriteBack_frame {a0 s t} (h : execCheckWriteBack a0 s = .next t) :
    Frame [.mem, .chk, .wbacks] s t := by
  obtain rfl := Host.Outcome.next.inj h
  exact (Frame.ite (Frame.after (Frame.mono State.set_wbacks_frame rfl) (Frame.mono State.mend_frame rfl)) Frame.refl)

theorem State.remapWord_frame {s r w} : Frame [.rPwr, .rMan, .rMemctl, .rLogs, .rQuay, .free, .mem, .chk,
    .console, .manApp, .manSys, .logs, .power, .mems] s (State.remapWord s r w) :=
  Frame.ite (Frame.after (Frame.mono State.systemRecord_frame rfl) (Frame.after
    (Frame.mono (State.set_mems_frame (by split <;> rfl)) rfl) (Frame.after (State.put_frame
      (by split; exact F.MEMCTL_REMAP_AON_part; exact F.MEMCTL_REMAP_SEC_part) rfl) (Frame.mono State.mend_frame rfl))))
    (Frame.mono State.raise0_frame rfl)

theorem State.dredgerFault_frame {s a1 a2} : Frame [.rPwr, .rMan, .rMemctl, .rLogs, .rQuay, .free, .mem, .chk,
    .console, .manApp, .manSys, .logs, .power, .mems] s (State.dredgerFault s a1 a2) := by
  unfold State.dredgerFault
  exact (Frame.ite (Frame.after (Frame.mono State.remapWord_frame rfl) (Frame.mono (State.set_mems_frame rfl) rfl))
      (Frame.mono (State.set_mems_frame rfl) rfl))

theorem State.dredge_frame {s a1} : Frame [.rPwr, .rMan, .rMemctl, .rLogs, .rQuay, .free, .mem, .chk, .runs,
    .wbacks, .console, .manApp, .manSys, .logs, .power, .mems] s (State.dredge s a1) := by
  unfold State.dredge
  exact (by (first | (dsimp only; split) | split); exact (Frame.ite (Frame.after (Frame.mono State.dredgerFault_frame rfl) (Frame.mono State.readMem_frame rfl)) (Frame.mono State.readMem_frame rfl)); exact (Frame.mono State.readMem_frame rfl))

theorem execDredgerBlock_frame {s t} (h : execDredgerBlock s = .next t) :
    Frame [.rPwr, .rMan, .rMemctl, .rLogs, .rQuay, .free, .mem, .chk, .runs, .wbacks, .console, .manApp, .manSys,
        .logs, .power, .mems] s t := by
  obtain rfl := Host.Outcome.next.inj h
  exact (Frame.ite Frame.refl (by (first | (dsimp only; split) | split); exact Frame.refl; exact (Frame.after (Frame.mono (State.set_mems_frame rfl) rfl) (Frame.after (State.put_frame F.MEMCTL_DPOS_ADDR_part rfl) (Frame.ite (Frame.after (State.put_frame F.MEMCTL_DPASS_COUNT_part rfl) (Frame.mono State.dredge_frame rfl)) (Frame.mono State.dredge_frame rfl))))))

theorem execTamperWipe_frame {s t} (h : execTamperWipe s = .next t) :
    Frame [.rPwr, .rHarv, .rMan, .rEvr, .rMemctl, .rLogs, .rTide, .rSpi, .rAdc, .rTouch, .rCrypto, .rGpio, .rGnss,
        .rFront, .rLookout, .rQuay, .free, .mem, .chk, .busData, .console, .manApp, .manSys, .rtc, .logs, .crypto,
        .power, .harv, .gnss, .lgt, .spis, .dma, .adc, .touch, .mems] s t := by
  obtain rfl := Host.Outcome.next.inj h
  exact (Frame.after (Frame.mono State.beginWipe_frame rfl) (Frame.after (Frame.mono State.needDomain_frame rfl)
      (Frame.after (Frame.mono State.systemRecord_frame rfl) (Frame.after (Frame.mono State.withCrypto_frame rfl)
      (Frame.after (Frame.mono State.raise0_frame rfl) (Frame.after (Frame.mono State.fire_frame rfl) (Frame.mono
      State.wake_frame rfl)))))))

theorem execWipeDone_frame {s t} (h : execWipeDone s = .next t) :
    Frame [.rPwr, .rMan, .rMemctl, .rCrypto, .rQuay, .mem, .chk, .console, .manApp, .manSys, .crypto, .power] s t
        := by
  obtain rfl := Host.Outcome.next.inj h
  exact (Frame.ite (Frame.after (Frame.mono State.deriveKey_frame rfl) (Frame.ite (Frame.after (Frame.mono
      State.raise_frame rfl) (State.put_frame F.MEMCTL_WIPE_BUSY_part rfl)) (State.put_frame
      F.MEMCTL_WIPE_BUSY_part rfl))) Frame.refl)

end Sys2Proof.Machine
end

