-- ==== Sys2Proof/Laws/FrameLife.lean ====
section
/-! SUPPORT. The frames of the operations and commands of Machine/Life.lean: what each can change. -/

namespace Sys2Proof.Machine

theorem State.withLife_frame {s a1} : Frame [.life] s (State.withLife s a1) := by
  unfold State.withLife
  exact (Frame.mono State.set_life_frame rfl)

theorem State.slotRegs_frame {s} : Frame [.rLife] s (State.slotRegs s) := by
  unfold State.slotRegs
  exact (State.puts_cons_frame F.LIFE_SLOT_ACTIVE_part rfl (State.puts_cons_frame F.LIFE_SLOT_STA_part rfl
      (State.puts_cons_frame F.LIFE_SLOT_STB_part rfl (State.puts_cons_frame F.LIFE_VERA_VERSION_part rfl
      (State.puts_cons_frame F.LIFE_VERB_VERSION_part rfl State.puts_nil_frame)))))

theorem State.lifeRegs_frame {s} : Frame [.rLife] s (State.lifeRegs s) := by
  unfold State.lifeRegs
  exact (State.puts_cons_frame F.LIFE_STATE_STATE_part rfl (State.puts_cons_frame F.LIFE_STATE_DEBUG_part rfl
      (State.puts_cons_frame F.LIFE_STATE_ROLLBACK_part rfl (State.puts_cons_frame F.LIFE_STATE_REDEPLOY_part rfl
      (State.puts_cons_frame F.LIFE_STATE_INTENT_part rfl State.puts_nil_frame)))))

theorem State.newCode_frame {s} : Frame [.free, .life] s (State.newCode s) := by
  unfold State.newCode
  exact (Frame.after (Frame.mono State.withLife_frame rfl) (Frame.mono State.spend_frame rfl))

theorem State.endLoad_frame {s a1} : Frame [.rPwr, .rMan, .rMemctl, .rLogs, .rLife, .rQuay, .free, .mem, .chk,
    .console, .manApp, .manSys, .logs, .power, .life] s (State.endLoad s a1) := by
  unfold State.endLoad
  exact (Frame.after (Frame.mono State.raiseK_frame rfl) (Frame.after (Frame.mono State.systemRecord_frame rfl)
      (Frame.after (Frame.mono State.slotRegs_frame rfl) (Frame.mono State.withLife_frame rfl))))

theorem execImageDataByte_frame {a0 s t} (h : execImageDataByte a0 s = .next t) :
    Frame [.rPwr, .rMan, .rMemctl, .rLogs, .rLife, .rQuay, .free, .mem, .chk, .console, .manApp, .manSys, .logs,
        .power, .life] s t := by
  obtain rfl := Host.Outcome.next.inj h
  exact (by (first | (dsimp only; split) | split); exact Frame.refl; exact (Frame.ite (Frame.after (Frame.mono State.endLoad_frame rfl) (Frame.after (Frame.mono State.freshCheck_frame rfl) (Frame.mono State.setByte_frame rfl))) (Frame.ite (Frame.after (Frame.mono State.systemRecord_frame rfl) (Frame.after (Frame.mono State.withLife_frame rfl) (Frame.after (Frame.mono State.withLife_frame rfl) (Frame.after (Frame.mono State.freshCheck_frame rfl) (Frame.mono State.setByte_frame rfl))))) (Frame.after (Frame.mono State.withLife_frame rfl) (Frame.after (Frame.mono State.freshCheck_frame rfl) (Frame.mono State.setByte_frame rfl))))))

theorem execImageGapTimeout_frame {s t} (h : execImageGapTimeout s = .next t) :
    Frame [.rPwr, .rMan, .rMemctl, .rLogs, .rLife, .rQuay, .free, .mem, .chk, .console, .manApp, .manSys, .logs,
        .power, .life] s t := by
  obtain rfl := Host.Outcome.next.inj h
  exact (by (first | (dsimp only; split) | split); exact Frame.refl; exact (Frame.mono State.endLoad_frame rfl))

theorem execLifeImageLoad_frame {a0 a1 a2 s t} (h : execLifeImageLoad a0 a1 a2 s = .next t) :
    Frame [.rPwr, .rMan, .rMemctl, .rLogs, .rLife, .rQuay, .free, .mem, .chk, .console, .manApp, .manSys, .logs,
        .power, .life] s t := by
  obtain rfl := Host.Outcome.next.inj h
  exact (State.run_frame rfl (fun _ => (Frame.ite (Frame.mono State.er_frame rfl) (Frame.ite (Frame.mono
      State.er_frame rfl) (Frame.after (Frame.mono State.ok_frame rfl) (Frame.after (Frame.mono
      State.systemRecord_frame rfl) (Frame.after (Frame.mono State.slotRegs_frame rfl) (Frame.after (Frame.mono
      State.withLife_frame rfl) (Frame.ite (Frame.mono State.reply_frame rfl) Frame.refl)))))))))

theorem execLifeImageCommit_frame {a0 s t} (h : execLifeImageCommit a0 s = .next t) :
    Frame [.rPwr, .rMan, .rMemctl, .rLogs, .rLife, .rQuay, .free, .mem, .chk, .console, .manApp, .manSys, .logs,
        .power, .life] s t := by
  obtain rfl := Host.Outcome.next.inj h
  exact (State.run_frame rfl (fun _ => (Frame.ite (Frame.mono State.er_frame rfl) (Frame.ite (Frame.mono
      State.er_frame rfl) (Frame.ite (Frame.mono State.er_frame rfl) (Frame.after (Frame.mono State.ok_frame rfl)
      (Frame.after (Frame.mono State.systemRecord_frame rfl) (Frame.after (Frame.mono State.slotRegs_frame rfl)
      (Frame.mono State.withLife_frame rfl)))))))))

theorem execLifeImageQuery_frame {a0 s t} (h : execLifeImageQuery a0 s = .next t) :
    Frame [.rPwr, .rMan, .rMemctl, .rQuay, .mem, .chk, .console, .manApp, .manSys, .power] s t := by
  obtain rfl := Host.Outcome.next.inj h
  exact (State.run_frame rfl (fun _ => (Frame.after (Frame.mono State.ok_frame rfl) (Frame.mono State.replies_frame
      rfl))))

theorem execLifeQuery_frame {a0 s t} (h : execLifeQuery a0 s = .next t) :
    Frame [.rPwr, .rMan, .rMemctl, .rQuay, .mem, .chk, .console, .manApp, .manSys, .power] s t := by
  obtain rfl := Host.Outcome.next.inj h
  exact (State.run_frame rfl (fun _ => (Frame.after (Frame.mono State.ok_frame rfl) (Frame.mono State.reply_frame
      rfl))))

end Sys2Proof.Machine
end

