-- ==== Sys2Proof/Laws/FrameBond.lean ====
section
/-! SUPPORT. The frames of the operations and commands of Machine/Bond.lean: what each can change. -/

namespace Sys2Proof.Machine

theorem State.measWrite_frame {s l} : Frame [.rMeasq, .mem, .chk] s (State.measWrite s l) := by
  induction l generalizing s with
  | nil => exact Frame.refl
  | cons w r ih =>
    exact Frame.trans (Frame.trans (Frame.mono State.writeBlock_frame rfl) (State.put_frame F.MEASQ_HEAD_IDX_part
        rfl)) ih

theorem State.measPut_frame {s a1 a2 a3} : Frame [.rPwr, .rMan, .rMemctl, .rMeasq, .rQuay, .mem, .chk, .console,
    .manApp, .manSys, .power, .gnss] s (State.measPut s a1 a2 a3) := by
  unfold State.measPut
  exact (Frame.ite Frame.refl (Frame.ite (Frame.mono State.measWrite_frame rfl) (Frame.after (Frame.mono
      State.raiseK_frame rfl) (Frame.after (Frame.mono State.withGnss_frame rfl) (State.countBy_frame
      F.MEASQ_STAT_DROPPED_part rfl)))))

theorem State.settleRecord_frame {s a1 a2 a3 a4} : Frame [.rPwr, .rMan, .rMemctl, .rMeasq, .rQuay, .mem, .chk,
    .console, .manApp, .manSys, .power, .gnss] s (State.settleRecord s a1 a2 a3 a4) := by
  unfold State.settleRecord
  exact (Frame.ite Frame.refl (by first | (dsimp only; exact (Frame.after (Frame.mono State.raiseK_frame rfl) (Frame.mono State.measPut_frame rfl))) | (split; exact (Frame.after (Frame.mono State.raiseK_frame rfl) (Frame.mono State.measPut_frame rfl)))))

theorem State.reportDepth_frame {s} : Frame [.rSillage, .gnss] s (State.reportDepth s) := by
  unfold State.reportDepth
  exact (Frame.after (State.put_frame F.SILLAGE_EPOCH_OLDEST_part rfl) (Frame.after (State.put_frame
      F.SILLAGE_EPOCH_DEPTH_part rfl) (Frame.mono State.withGnss_frame rfl)))

theorem State.modEntries_frame {s a1 a2} : Frame [.rSillage, .gnss] s (State.modEntries s a1 a2) := by
  unfold State.modEntries
  exact (Frame.after (Frame.mono State.reportDepth_frame rfl) (Frame.mono State.withGnss_frame rfl))

theorem State.retract_frame {s a1 a2 a3} : Frame [.rPwr, .rMan, .rMemctl, .rSillage, .rMeasq, .rQuay, .mem, .chk,
    .console, .manApp, .manSys, .power, .gnss] s (State.retract s a1 a2 a3) := by
  unfold State.retract
  exact (Frame.after (Frame.mono State.modEntries_frame rfl) (Frame.after (Frame.mono State.withGnss_frame rfl)
      (Frame.mono State.settleRecord_frame rfl)))

theorem State.settleUnits_frame {s a1 a2 a3} : Frame [.mem, .chk, .gnss] s (State.settleUnits s a1 a2 a3) := by
  unfold State.settleUnits
  exact (Frame.after (Frame.mono State.withGnss_frame rfl) (Frame.foldl (fun _ _ => (by (first | (dsimp only; split) | split); exact (Frame.after (Frame.mono State.freshCheck_frame rfl) (Frame.mono State.setBytes_frame rfl)); exact Frame.refl)) _ _))

theorem State.reportSearch_frame {s} : Frame [.rLookout] s (State.reportSearch s) := by
  unfold State.reportSearch
  exact (Frame.after (State.put_frame F.LOOKOUT_STAT_BUSY_part rfl) (State.put_frame F.LOOKOUT_STAT_QUEUED_part rfl))

theorem State.queueSearch_frame {s a1} : Frame [.rLookout, .gnss] s (State.queueSearch s a1) := by
  unfold State.queueSearch
  exact (Frame.ite (Frame.after (Frame.mono State.reportSearch_frame rfl) (Frame.mono State.withGnss_frame rfl))
      Frame.refl)

theorem State.showBond_frame {s a1} : Frame [.rBerth] s (State.showBond s a1) := by
  unfold State.showBond
  exact (State.flag_frame F.BERTH_STAT_BOND_part rfl)

theorem State.endStart_frame {s a1 a2} : Frame [.rPlan, .rBerth, .gnss] s (State.endStart s a1 a2) := by
  unfold State.endStart
  exact (Frame.ite (Frame.after (State.puts_cons_frame F.BERTH_STAT_STATE_part rfl (State.puts_cons_frame
      F.BERTH_STAT_BOND_part rfl (State.puts_cons_frame F.BERTH_STAT_SEC_SYNC_part rfl (State.puts_cons_frame
      F.BERTH_STAT_PLOCK_part rfl (State.puts_cons_frame F.BERTH_STAT_FLOCK_part rfl (State.puts_cons_frame
      F.BERTH_STAT_CLOCK_part rfl State.puts_nil_frame)))))) (Frame.mono State.modBerth_frame rfl)) (Frame.after
      (Frame.mono State.planState_frame rfl) (Frame.after (State.puts_cons_frame F.BERTH_STAT_STATE_part rfl
      (State.puts_cons_frame F.BERTH_STAT_BOND_part rfl (State.puts_cons_frame F.BERTH_STAT_SEC_SYNC_part rfl
      (State.puts_cons_frame F.BERTH_STAT_PLOCK_part rfl (State.puts_cons_frame F.BERTH_STAT_FLOCK_part rfl
      (State.puts_cons_frame F.BERTH_STAT_CLOCK_part rfl State.puts_nil_frame)))))) (Frame.mono
      State.modBerth_frame rfl))))

theorem State.afterRefused_frame {s a1 a2 a3} : Frame [.rLookout, .gnss] s (State.afterRefused s a1 a2 a3) := by
  unfold State.afterRefused
  exact (by (first | (dsimp only; split) | split); exact (Frame.ite (by (first | (dsimp only; split) | split); exact (Frame.after (Frame.mono State.queueSearch_frame rfl) (Frame.after (State.count_frame F.LOOKOUT_CNT_REFUSED_part rfl) (Frame.mono State.modBerth_frame rfl))); exact (Frame.after (State.count_frame F.LOOKOUT_CNT_REFUSED_part rfl) (Frame.mono State.modBerth_frame rfl))) (Frame.after (State.count_frame F.LOOKOUT_CNT_REFUSED_part rfl) (Frame.mono State.modBerth_frame rfl))); exact (Frame.ite (Frame.mono State.modBerth_frame rfl) (by (first | (dsimp only; split) | split); exact (by (first | (dsimp only; split) | split); exact (Frame.after (Frame.mono State.queueSearch_frame rfl) (Frame.mono State.modBerth_frame rfl)); exact (Frame.mono State.modBerth_frame rfl)); exact (Frame.mono State.modBerth_frame rfl))); exact (Frame.mono State.modBerth_frame rfl))

theorem State.raiseLoss_frame {s a1} : Frame [.rPwr, .rMan, .rMemctl, .rQuay, .mem, .chk, .console, .manApp,
    .manSys, .power] s (State.raiseLoss s a1) := by
  unfold State.raiseLoss
  exact (Frame.ite (Frame.mono State.raiseK_frame rfl) Frame.refl)

theorem State.refuseStart_frame {s a1 a2 a3} : Frame [.rPwr, .rMan, .rMemctl, .rPlan, .rLookout, .rBerth,
    .rSillage, .rMeasq, .rQuay, .mem, .chk, .console, .manApp, .manSys, .power, .gnss] s (State.refuseStart s a1 a2
    a3) := by
  unfold State.refuseStart
  exact (Frame.ite Frame.refl (Frame.ite (Frame.after (Frame.mono State.raiseLoss_frame rfl) (Frame.after
      (Frame.mono State.afterRefused_frame rfl) (Frame.after (Frame.mono State.endStart_frame rfl) (Frame.after
      (State.count_frame F.SILLAGE_CNT_REFUSED_part rfl) (Frame.after (Frame.mono State.settleUnits_frame rfl)
      (Frame.mono State.retract_frame rfl)))))) (Frame.after (Frame.mono State.modBerth_frame rfl) (Frame.after
      (Frame.mono State.afterRefused_frame rfl) (Frame.after (Frame.mono State.endStart_frame rfl) (Frame.after
      (State.count_frame F.SILLAGE_CNT_REFUSED_part rfl) (Frame.after (Frame.mono State.settleUnits_frame rfl)
      (Frame.mono State.retract_frame rfl))))))))

theorem State.refuseBonded_frame {s a1 a2 a3} : Frame [.rPwr, .rMan, .rMemctl, .rPlan, .rLookout, .rBerth,
    .rSillage, .rMeasq, .rQuay, .mem, .chk, .console, .manApp, .manSys, .power, .gnss] s (State.refuseBonded s a1
    a2 a3) := by
  unfold State.refuseBonded
  exact (Frame.ite (Frame.after (Frame.mono State.afterRefused_frame rfl) (Frame.after (Frame.mono
      State.endStart_frame rfl) (Frame.after (State.count_frame F.SILLAGE_CNT_REFUSED_part rfl) (Frame.after
      (Frame.mono State.settleUnits_frame rfl) (Frame.mono State.retract_frame rfl))))) (Frame.after (Frame.mono
      State.endStart_frame rfl) (Frame.ite Frame.refl (Frame.mono State.retract_frame rfl))))

theorem State.showPrediction_frame {s} : Frame [.rSillage] s (State.showPrediction s) := by
  unfold State.showPrediction
  exact (State.puts_cons_frame F.SILLAGE_PCODE_PHASE_part rfl (State.puts_cons_frame F.SILLAGE_PCARR_PHASE_part rfl
      (State.puts_cons_frame F.SILLAGE_PDOP_DOP_part rfl (State.puts_cons_frame F.SILLAGE_PUNC_CODE_U_part rfl
      (State.puts_cons_frame F.SILLAGE_PUNC_DOP_U_part rfl (State.puts_cons_frame F.SILLAGE_PBITS_BITS_part rfl
      (State.puts_cons_frame F.SILLAGE_PBITS_MASK_part rfl State.puts_nil_frame)))))))

theorem State.keepPreds_frame {s a1} : Frame [.rSillage, .gnss] s (State.keepPreds s a1) := by
  unfold State.keepPreds
  exact (Frame.after (Frame.mono State.showPrediction_frame rfl) (Frame.after (State.flag_frame
      F.SILLAGE_STAT_VALID_part rfl) (Frame.mono State.withGnss_frame rfl)))

theorem State.stopLanes_frame {s a1} : Frame [.rLookout, .rSillage, .gnss] s (State.stopLanes s a1) := by
  unfold State.stopLanes
  exact (Frame.after (Frame.mono State.reportSearch_frame rfl) (Frame.after (Frame.mono State.keepPreds_frame rfl)
      (Frame.after (Frame.mono State.withGnss_frame rfl) (Frame.foldl (fun _ _ => (State.put_frame
      F.LOOKOUT_LANE_CMD_STATE_part rfl)) _ _))))

theorem State.leavePlaces_frame {s a1} : Frame [.rPlan, .gnss] s (State.leavePlaces s a1) := by
  unfold State.leavePlaces
  exact (Frame.after (Frame.mono State.modBerth_frame rfl) (Frame.foldl (fun _ _ => (Frame.ite (State.put_frame
      F.PLAN_SLOT_A_STATE_part rfl) Frame.refl)) _ _))

theorem State.stopBerth_frame {s a1} : Frame [.rPwr, .rMan, .rMemctl, .rPlan, .rLookout, .rBerth, .rSillage,
    .rMeasq, .rQuay, .mem, .chk, .console, .manApp, .manSys, .power, .gnss] s (State.stopBerth s a1) := by
  unfold State.stopBerth
  exact (Frame.after (Frame.mono State.stopLanes_frame rfl) (Frame.after (State.put_frame F.BERTH_CFG_EN_part rfl)
      (Frame.after (Frame.mono State.modBerth_frame rfl) (Frame.after (Frame.mono State.leavePlaces_frame rfl)
      (Frame.mono State.refuseBonded_frame rfl)))))

theorem State.releaseBerth_frame {s a1} : Frame [.rPwr, .rMan, .rMemctl, .rPlan, .rLookout, .rBerth, .rSillage,
    .rMeasq, .rQuay, .mem, .chk, .console, .manApp, .manSys, .power, .gnss] s (State.releaseBerth s a1) := by
  unfold State.releaseBerth
  exact (Frame.after (Frame.mono State.stopBerth_frame rfl) (by (first | (dsimp only; split) | split); exact (Frame.after (State.put_frame F.PLAN_SLOT_A_STATE_part rfl) (State.put_frame F.PLAN_SLOT_A_BERTH_part rfl)); exact Frame.refl))

theorem State.loseLock_frame {s a1} : Frame [.rPwr, .rMan, .rMemctl, .rPlan, .rLookout, .rBerth, .rSillage,
    .rMeasq, .rQuay, .mem, .chk, .console, .manApp, .manSys, .power, .gnss] s (State.loseLock s a1) := by
  unfold State.loseLock
  exact (Frame.ite (Frame.after (Frame.mono State.queueSearch_frame rfl) (Frame.after (Frame.mono
      State.raiseLoss_frame rfl) (Frame.mono State.refuseBonded_frame rfl))) (Frame.after (Frame.mono
      State.raiseLoss_frame rfl) (Frame.mono State.refuseBonded_frame rfl)))

theorem State.berthsLost_frame {s} : Frame [.rPwr, .rMan, .rMemctl, .rPlan, .rLookout, .rBerth, .rSillage, .rMeasq,
    .rQuay, .mem, .chk, .console, .manApp, .manSys, .power, .gnss] s (State.berthsLost s) := by
  unfold State.berthsLost
  exact (Frame.foldl (fun _ _ => (Frame.ite (Frame.mono State.loseLock_frame rfl) Frame.refl)) _ _)

theorem State.berthsUnlock_frame {s a1} : Frame [.rPwr, .rMan, .rMemctl, .rPlan, .rLookout, .rBerth, .rSillage,
    .rMeasq, .rQuay, .mem, .chk, .console, .manApp, .manSys, .power, .gnss] s (State.berthsUnlock s a1) := by
  unfold State.berthsUnlock
  exact (Frame.foldl (fun _ _ => (Frame.ite (Frame.mono State.loseLock_frame rfl) Frame.refl)) _ _)

end Sys2Proof.Machine
end

