-- ==== Sys2Proof/Laws/FramePower.lean ====
section
/-! SUPPORT. The frames of the operations and commands of Machine/Power.lean: what each can change. -/

namespace Sys2Proof.Machine

theorem State.setPath_frame {s a1} : Frame [.rPwr, .rMan, .rMemctl, .rQuay, .mem, .chk, .console, .manApp, .manSys,
    .power] s (State.setPath s a1) := by
  unfold State.setPath
  exact (Frame.ite Frame.refl (Frame.after (Frame.mono State.raise_frame rfl) (State.put_frame F.PWR_PATH_ACT_part
      rfl)))

theorem State.updatePath_frame {s} : Frame [.rPwr, .rMan, .rMemctl, .rQuay, .mem, .chk, .console, .manApp, .manSys,
    .power] s (State.updatePath s) := by
  unfold State.updatePath
  exact (Frame.ite Frame.refl (Frame.mono State.setPath_frame rfl))

theorem execVbatQualify_frame {s t} (h : execVbatQualify s = .next t) :
    Frame [.rPwr, .rMan, .rMemctl, .rQuay, .mem, .chk, .console, .manApp, .manSys, .power] s t := by
  obtain rfl := Host.Outcome.next.inj h
  exact (Frame.after (Frame.mono State.updatePath_frame rfl) (State.put_frame F.PWR_PATH_VBAT_OK_part rfl))

theorem execVbatDisqualify_frame {s t} (h : execVbatDisqualify s = .next t) :
    Frame [.rPwr, .rMan, .rMemctl, .rQuay, .mem, .chk, .console, .manApp, .manSys, .power] s t := by
  obtain rfl := Host.Outcome.next.inj h
  exact (Frame.after (Frame.mono State.updatePath_frame rfl) (State.put_frame F.PWR_PATH_VBAT_OK_part rfl))

theorem execVstoreQualify_frame {s t} (h : execVstoreQualify s = .next t) :
    Frame [.rPwr, .rMan, .rMemctl, .rQuay, .mem, .chk, .console, .manApp, .manSys, .power] s t := by
  obtain rfl := Host.Outcome.next.inj h
  exact (Frame.ite (Frame.after (Frame.mono State.updatePath_frame rfl) (State.put_frame F.PWR_PATH_STORE_OK_part
      rfl)) Frame.refl)

theorem execVstoreDisqualify_frame {s t} (h : execVstoreDisqualify s = .next t) :
    Frame [.rPwr, .rMan, .rMemctl, .rQuay, .mem, .chk, .console, .manApp, .manSys, .power] s t := by
  obtain rfl := Host.Outcome.next.inj h
  exact (Frame.after (Frame.mono State.updatePath_frame rfl) (State.put_frame F.PWR_PATH_STORE_OK_part rfl))

theorem execPathReturn_frame {s t} (h : execPathReturn s = .next t) :
    Frame [.rPwr, .rMan, .rMemctl, .rQuay, .mem, .chk, .console, .manApp, .manSys, .power] s t := by
  obtain rfl := Host.Outcome.next.inj h
  exact (Frame.ite (Frame.mono State.setPath_frame rfl) Frame.refl)

theorem State.rearm_frame {s} : Frame [.rPwr] s (State.rearm s) := by
  unfold State.rearm
  exact (State.flag_frame F.PWR_STAT_ARMED_part rfl)

theorem execHoldOk_frame {s t} (h : execHoldOk s = .next t) :
    Frame [.rPwr] s t := by
  obtain rfl := Host.Outcome.next.inj h
  exact (Frame.after (Frame.mono State.rearm_frame rfl) (State.put_frame F.PWR_STAT_HOLD_OK_part rfl))

theorem execPwrHoldLow_frame {s t} (h : execPwrHoldLow s = .next t) :
    Frame [.rPwr, .rMan, .rMemctl, .rQuay, .mem, .chk, .console, .manApp, .manSys, .power] s t := by
  obtain rfl := Host.Outcome.next.inj h
  exact (Frame.ite (Frame.after (Frame.mono State.raise0_frame rfl) (Frame.after (Frame.mono State.rearm_frame rfl)
      (State.put_frame F.PWR_STAT_HOLD_OK_part rfl))) (Frame.after (Frame.mono State.rearm_frame rfl)
      (State.put_frame F.PWR_STAT_HOLD_OK_part rfl)))

theorem execPwrBorWarn_frame {a0 s t} (h : execPwrBorWarn a0 s = .next t) :
    Frame [.rPwr, .rHarv, .rMan, .rEvr, .rMemctl, .rTide, .rTp, .rUart, .rI2ct, .rSpi, .rLgt, .rAdc, .rTouch,
        .rCrypto, .rGpio, .rDma, .rGnss, .rFront, .rLookout, .rBerth, .rQuay, .mem, .chk, .busData, .app, .console,
        .manApp, .manSys, .tide, .rtc, .crypto, .power, .harv, .gnss, .lgt, .uarts, .i2ct, .spis, .dma, .adc,
        .touch, .mems] s t := by
  obtain rfl := Host.Outcome.next.inj h
  exact (Frame.ite Frame.refl (Frame.after (Frame.mono State.set_power_frame rfl) (Frame.after (State.put_frame
      F.TP_STAT_ON_part rfl) (Frame.after (Frame.mono State.tideToAon_frame rfl) (Frame.after (Frame.foldl (fun _ _
      => (Frame.mono State.domainOff_frame rfl)) _ _) (Frame.after (Frame.mono State.signLost_frame rfl)
      (Frame.after (Frame.mono State.fire_frame rfl) (Frame.mono State.raise0_frame rfl))))))))

theorem State.assertVbor_frame {s} : Frame [.power] s (State.assertVbor s) := by
  unfold State.assertVbor
  exact (Frame.mono State.set_power_frame rfl)

theorem execGraceExpiry_frame {s t} (h : execGraceExpiry s = .next t) :
    Frame [.rPwr, .rMan, .rMemctl, .rLogs, .rQuay, .mem, .chk, .console, .manApp, .manSys, .logs, .power] s t := by
  obtain rfl := Host.Outcome.next.inj h
  exact (Frame.ite (Frame.ite (Frame.after (Frame.mono State.finishProgram_frame rfl) (Frame.mono
      State.set_power_frame rfl)) (Frame.after (Frame.mono State.assertVbor_frame rfl) (Frame.mono
      State.set_power_frame rfl))) Frame.refl)

theorem execTallySave_frame {s t} (h : execTallySave s = .next t) :
    Frame [.rPwr, .rMan, .rMemctl, .rQuay, .mem, .chk, .console, .manApp, .manSys, .logs, .power] s t := by
  obtain rfl := Host.Outcome.next.inj h
  exact (Frame.ite (Frame.after (Frame.mono State.assertVbor_frame rfl) (Frame.mono State.tallySave_frame rfl))
      Frame.refl)

theorem execVbatBorAssert_frame {s t} (h : execVbatBorAssert s = .next t) :
    Frame [.rLogs, .free, .mem, .logs, .power] s t := by
  obtain rfl := Host.Outcome.next.inj h
  exact (Frame.after (Frame.mono State.set_power_frame rfl) (Frame.after (Frame.mono State.assertVbor_frame rfl)
      (Frame.mono State.interruptSave_frame rfl)))

theorem execIoBankLoss_frame {a0 s t} (h : execIoBankLoss a0 s = .next t) :
    Frame [.rPwr, .rMan, .rMemctl, .rQuay, .mem, .chk, .console, .manApp, .manSys, .power] s t := by
  obtain rfl := Host.Outcome.next.inj h
  exact (Frame.ite (Frame.after (Frame.mono State.raise0_frame rfl) (State.put_frame (by split; exact F.PWR_STAT_IO2_OK_part; exact F.PWR_STAT_IO1_OK_part) rfl)) Frame.refl)

theorem execIoBankReturn_frame {a0 s t} (h : execIoBankReturn a0 s = .next t) :
    Frame [.rPwr] s t := by
  obtain rfl := Host.Outcome.next.inj h
  exact (State.put_frame (by split; exact F.PWR_STAT_IO2_OK_part; exact F.PWR_STAT_IO1_OK_part) rfl)

theorem State.setPolicy_frame {s a1} : Frame [.rPwr, .rMan, .rMemctl, .rQuay, .mem, .chk, .console, .manApp,
    .manSys, .power] s (State.setPolicy s a1) := by
  unfold State.setPolicy
  exact (Frame.after (Frame.mono State.setPath_frame rfl) (State.put_frame F.PWR_PATH_POLICY_part rfl))

theorem execPwrPath_frame {a0 a1 s t} (h : execPwrPath a0 a1 s = .next t) :
    Frame [.rPwr, .rMan, .rMemctl, .rQuay, .mem, .chk, .console, .manApp, .manSys, .power] s t := by
  obtain rfl := Host.Outcome.next.inj h
  exact (State.run_frame rfl (fun _ => (Frame.after (Frame.mono State.ok_frame rfl) (Frame.mono
      State.setPolicy_frame rfl))))

theorem State.requestPoint_frame {s a1} : Frame [.rPwr] s (State.requestPoint s a1) := by
  unfold State.requestPoint
  exact (Frame.ite (State.put_frame F.PWR_POINT_POINT_part rfl) (Frame.after (State.put_frame F.PWR_POINT_PEND_part
      rfl) (State.put_frame F.PWR_POINT_POINT_part rfl)))

theorem execPwrPoint_frame {a0 a1 s t} (h : execPwrPoint a0 a1 s = .next t) :
    Frame [.rPwr, .rMan, .rMemctl, .rQuay, .mem, .chk, .console, .manApp, .manSys, .power] s t := by
  obtain rfl := Host.Outcome.next.inj h
  exact (State.run_frame rfl (fun _ => (Frame.ite (Frame.mono State.er_frame rfl) (Frame.ite (Frame.after
      (Frame.mono State.er_frame rfl) (State.ledgerRefuse_frame rfl rfl)) (Frame.ite (Frame.mono State.er_frame
      rfl) (Frame.after (Frame.mono State.ok_frame rfl) (Frame.mono State.requestPoint_frame rfl)))))))

theorem State.refuseExpert_frame {s a1 a2 a3 a4} : Frame [.rSysctl, .rPwr, .rClk, .rHarv, .rMan, .rEvr, .rMemctl,
    .rLogs, .rTide, .rTp, .rRtc, .rUart, .rI2ct, .rSpi, .rLgt, .rAdc, .rTouch, .rCrypto, .rGpio, .rDma, .rLife,
    .rTest, .rGnss, .rFront, .rPlan, .rLookout, .rBerth, .rSillage, .rMeasq, .rBitlog] s (State.refuseExpert s a1
    a2 a3 a4) := by
  unfold State.refuseExpert
  exact (Frame.ite (State.deny_frame (Block.sub_all rfl)) Frame.refl)

theorem State.writePwrPoint_frame {s a1 a2} : Frame [.rSysctl, .rPwr, .rClk, .rHarv, .rMan, .rEvr, .rMemctl,
    .rLogs, .rTide, .rTp, .rRtc, .rUart, .rI2ct, .rSpi, .rLgt, .rAdc, .rTouch, .rCrypto, .rGpio, .rDma, .rLife,
    .rTest, .rGnss, .rFront, .rPlan, .rLookout, .rBerth, .rSillage, .rMeasq, .rBitlog, .rQuay, .mem, .chk,
    .console, .manApp, .manSys, .power] s (State.writePwrPoint s a1 a2) := by
  unfold State.writePwrPoint
  exact (Frame.ite (State.deny_frame rfl) (Frame.ite (State.ledgerRefuse_frame rfl rfl) (Frame.ite (Frame.after
      (Frame.mono State.requestPoint_frame rfl) (Frame.ite (Frame.after (State.put_frame F.PWR_POINT_VSET_part rfl)
      (Frame.mono State.refuseExpert_frame rfl)) (Frame.mono State.refuseExpert_frame rfl))) (Frame.ite
      (Frame.after (State.put_frame F.PWR_POINT_VSET_part rfl) (Frame.mono State.refuseExpert_frame rfl))
      (Frame.mono State.refuseExpert_frame rfl)))))

theorem execPwrPointWrite_frame {a0 a1 s t} (h : execPwrPointWrite a0 a1 s = .next t) :
    Frame [.rSysctl, .rPwr, .rClk, .rHarv, .rMan, .rEvr, .rMemctl, .rLogs, .rTide, .rTp, .rRtc, .rUart, .rI2ct,
        .rSpi, .rLgt, .rAdc, .rTouch, .rCrypto, .rGpio, .rDma, .rLife, .rTest, .rGnss, .rFront, .rPlan, .rLookout,
        .rBerth, .rSillage, .rMeasq, .rBitlog, .rQuay, .mem, .chk, .console, .manApp, .manSys, .power] s t := by
  obtain rfl := Host.Outcome.next.inj h
  exact (Frame.mono State.writePwrPoint_frame rfl)

theorem State.derivePoint_frame {s} : Frame [.rPwr] s (State.derivePoint s) := by
  unfold State.derivePoint
  exact (Frame.ite Frame.refl (Frame.after (State.put_frame F.PWR_BIAS_BIAS_part rfl) (State.put_frame
      F.PWR_POINT_VSET_part rfl)))

theorem State.moveCores_frame {s a1 a2} : Frame [.rClk] s (State.moveCores s a1 a2) := by
  unfold State.moveCores
  exact (Frame.foldl (fun _ _ => (Frame.ite (Frame.after (State.put_frame F.CLK_ISL_ACT_part rfl) (State.put_frame
      F.CLK_ISL_SEL_part rfl)) Frame.refl)) _ _)

theorem execPwrPointDone_frame {s t} (h : execPwrPointDone s = .next t) :
    Frame [.rPwr, .rClk, .rMan, .rMemctl, .rQuay, .mem, .chk, .console, .manApp, .manSys, .power] s t := by
  obtain rfl := Host.Outcome.next.inj h
  exact (Frame.ite (Frame.after (Frame.mono State.raise0_frame rfl) (Frame.ite (Frame.after (Frame.mono
      State.moveCores_frame rfl) (Frame.after (Frame.mono State.derivePoint_frame rfl) (Frame.after
      (State.put_frame F.PWR_POINT_PEND_part rfl) (State.put_frame F.PWR_POINT_ACT_part rfl)))) (Frame.after
      (Frame.mono State.moveCores_frame rfl) (Frame.after (Frame.mono State.derivePoint_frame rfl) (Frame.after
      (State.put_frame F.PWR_POINT_PEND_part rfl) (State.put_frame F.PWR_POINT_ACT_part rfl)))))) Frame.refl)

theorem State.prepareLdo_frame {s} : Frame [.rPwr, .rClk, .rTp, .tide] s (State.prepareLdo s) := by
  unfold State.prepareLdo
  exact (Frame.ite (Frame.after (State.put_frame F.PWR_DOMS_PG_part rfl) (Frame.after (Frame.mono
      State.tideToAon_frame rfl) (Frame.foldl (fun _ _ => (State.puts_cons_frame F.CLK_ISL_SEL_part rfl
      (State.puts_cons_frame F.CLK_ISL_ACT_part rfl (State.puts_cons_frame F.CLK_ISL_PEND_part rfl
      State.puts_nil_frame)))) _ _))) (Frame.after (State.put_frame F.CLK_STAT_SYSPLL_part rfl) (Frame.after
      (State.put_frame F.PWR_DOMS_PG_part rfl) (Frame.after (Frame.mono State.tideToAon_frame rfl) (Frame.foldl
      (fun _ _ => (State.puts_cons_frame F.CLK_ISL_SEL_part rfl (State.puts_cons_frame F.CLK_ISL_ACT_part rfl
      (State.puts_cons_frame F.CLK_ISL_PEND_part rfl State.puts_nil_frame)))) _ _)))))

theorem State.toLdo_frame {s} : Frame [.rPwr, .rClk, .rTp, .tide] s (State.toLdo s) := by
  unfold State.toLdo
  exact (Frame.after (State.put_frame F.PWR_REG_ACT_part rfl) (Frame.after (State.put_frame F.PWR_REG_MODE_part
      rfl) (Frame.ite Frame.refl (Frame.mono State.prepareLdo_frame rfl))))

theorem State.toBuck_frame {s} : Frame [.rPwr, .rClk, .rTp, .tide] s (State.toBuck s) := by
  unfold State.toBuck
  exact (Frame.ite (Frame.after (Frame.mono State.tideToFast_frame rfl) (Frame.after (State.put_frame
      F.PWR_DOMS_PG_part rfl) (Frame.after (State.put_frame F.CLK_STAT_SYSPLL_part rfl) (Frame.after
      (State.put_frame F.PWR_REG_ACT_part rfl) (State.put_frame F.PWR_REG_MODE_part rfl))))) (Frame.after
      (Frame.mono State.moveCores_frame rfl) (Frame.after (Frame.mono State.tideToFast_frame rfl) (Frame.after
      (State.put_frame F.PWR_DOMS_PG_part rfl) (Frame.after (State.put_frame F.CLK_STAT_SYSPLL_part rfl)
      (Frame.after (State.put_frame F.PWR_REG_ACT_part rfl) (State.put_frame F.PWR_REG_MODE_part rfl)))))))

theorem execPwrReg_frame {a0 a1 s t} (h : execPwrReg a0 a1 s = .next t) :
    Frame [.rPwr, .rClk, .rMan, .rMemctl, .rTp, .rQuay, .mem, .chk, .console, .manApp, .manSys, .tide, .power] s t
        := by
  obtain rfl := Host.Outcome.next.inj h
  exact (State.run_frame rfl (fun _ => (Frame.ite (Frame.ite (Frame.mono State.ok_frame rfl) (Frame.ite (Frame.mono
      State.er_frame rfl) (Frame.ite (Frame.after (Frame.mono State.ok_frame rfl) (Frame.mono State.toLdo_frame
      rfl)) (Frame.after (Frame.mono State.er_frame rfl) (State.ledgerRefuse_frame rfl rfl))))) (Frame.ite
      (Frame.ite (Frame.mono State.er_frame rfl) (Frame.after (Frame.mono State.ok_frame rfl) (Frame.mono
      State.toBuck_frame rfl))) (Frame.mono State.ok_frame rfl)))))

theorem State.writePwrReg_frame {s a1 a2} : Frame [.rPwr, .rClk, .rMan, .rMemctl, .rTp, .rQuay, .mem, .chk,
    .console, .manApp, .manSys, .tide, .power] s (State.writePwrReg s a1 a2) := by
  unfold State.writePwrReg
  exact (Frame.ite (State.deny_frame rfl) (Frame.ite Frame.refl (Frame.ite (Frame.ite (State.deny_frame rfl)
      (Frame.ite (Frame.mono State.toLdo_frame rfl) (State.ledgerRefuse_frame rfl rfl))) (Frame.mono
      State.toBuck_frame rfl))))

theorem execPwrRegWrite_frame {a0 a1 s t} (h : execPwrRegWrite a0 a1 s = .next t) :
    Frame [.rPwr, .rClk, .rMan, .rMemctl, .rTp, .rQuay, .mem, .chk, .console, .manApp, .manSys, .tide, .power] s t
        := by
  obtain rfl := Host.Outcome.next.inj h
  exact (Frame.mono State.writePwrReg_frame rfl)

theorem execPwrLedgerQuery_frame {a0 s t} (h : execPwrLedgerQuery a0 s = .next t) :
    Frame [.rPwr, .rMan, .rMemctl, .rQuay, .mem, .chk, .console, .manApp, .manSys, .power] s t := by
  obtain rfl := Host.Outcome.next.inj h
  exact (State.run_frame rfl (fun _ => (Frame.after (Frame.mono State.ok_frame rfl) (Frame.mono State.reply_frame
      rfl))))

theorem execPwrDomain_frame {a0 a1 a2 s t} (h : execPwrDomain a0 a1 a2 s = .next t) :
    Frame [.rPwr, .rMan, .rMemctl, .rCrypto, .rQuay, .mem, .chk, .console, .manApp, .manSys, .crypto, .power,
        .mems] s t := by
  obtain rfl := Host.Outcome.next.inj h
  exact (State.run_frame rfl (fun _ => (Frame.ite (State.settle_frame (Frame.after (Frame.mono
      State.needDomain_frame rfl) (Frame.after (Frame.mono State.set_power_frame rfl) (State.put_frame
      F.PWR_DOMF_FORCE_part rfl))) rfl rfl) (Frame.ite (Frame.mono State.er_frame rfl) (Frame.after (Frame.mono
      State.ok_frame rfl) (Frame.after (Frame.mono State.set_power_frame rfl) (State.put_frame
      F.PWR_DOMF_FORCE_part rfl)))))))

theorem State.forceDomains_frame {s a1} : Frame [.rPwr, .rMan, .rMemctl, .rCrypto, .rQuay, .mem, .chk, .console,
    .manApp, .manSys, .crypto, .power, .mems] s (State.forceDomains s a1) := by
  unfold State.forceDomains
  exact (Frame.after (Frame.foldl (fun _ _ => (Frame.ite (Frame.mono State.needDomain_frame rfl) Frame.refl)) _ _)
      (Frame.after (Frame.mono State.set_power_frame rfl) (State.put_frame F.PWR_DOMF_FORCE_part rfl)))

theorem State.writeDomf_frame {s a1 a2} : Frame [.rSysctl, .rPwr, .rClk, .rHarv, .rMan, .rEvr, .rMemctl, .rLogs,
    .rTide, .rTp, .rRtc, .rUart, .rI2ct, .rSpi, .rLgt, .rAdc, .rTouch, .rCrypto, .rGpio, .rDma, .rLife, .rTest,
    .rGnss, .rFront, .rPlan, .rLookout, .rBerth, .rSillage, .rMeasq, .rBitlog, .rQuay, .mem, .chk, .console,
    .manApp, .manSys, .crypto, .power, .mems] s (State.writeDomf s a1 a2) := by
  unfold State.writeDomf
  exact (Frame.ite (State.deny_frame rfl) (Frame.ite (State.underLedger_frame (Frame.mono State.forceDomains_frame
      rfl) rfl rfl) (Frame.mono State.refuseExpert_frame rfl)))

theorem execPwrDomfWrite_frame {a0 a1 s t} (h : execPwrDomfWrite a0 a1 s = .next t) :
    Frame [.rSysctl, .rPwr, .rClk, .rHarv, .rMan, .rEvr, .rMemctl, .rLogs, .rTide, .rTp, .rRtc, .rUart, .rI2ct,
        .rSpi, .rLgt, .rAdc, .rTouch, .rCrypto, .rGpio, .rDma, .rLife, .rTest, .rGnss, .rFront, .rPlan, .rLookout,
        .rBerth, .rSillage, .rMeasq, .rBitlog, .rQuay, .mem, .chk, .console, .manApp, .manSys, .crypto, .power,
        .mems] s t := by
  obtain rfl := Host.Outcome.next.inj h
  exact (Frame.mono State.writeDomf_frame rfl)

theorem execPwrBias_frame {a0 a1 a2 s t} (h : execPwrBias a0 a1 a2 s = .next t) :
    Frame [.rPwr, .rMan, .rMemctl, .rQuay, .mem, .chk, .console, .manApp, .manSys, .power] s t := by
  obtain rfl := Host.Outcome.next.inj h
  exact (State.run_frame rfl (fun _ => (State.settle_frame (State.put_frame F.PWR_BIAS_BIAS_part rfl) rfl rfl)))

theorem execDomainSwitchOn_frame {a0 s t} (h : execDomainSwitchOn a0 s = .next t) :
    Frame [.rPwr, .rMan, .rMemctl, .rCrypto, .rQuay, .mem, .chk, .console, .manApp, .manSys, .crypto, .power,
        .mems] s t := by
  obtain rfl := Host.Outcome.next.inj h
  exact (Frame.mono State.needDomain_frame rfl)

theorem execDomainSwitchOff_frame {a0 s t} (h : execDomainSwitchOff a0 s = .next t) :
    Frame [.rPwr, .rMemctl, .rUart, .rI2ct, .rSpi, .rLgt, .rAdc, .rTouch, .rCrypto, .rGpio, .rDma, .rFront,
        .rLookout, .rBerth, .mem, .chk, .app, .crypto, .power, .gnss, .lgt, .uarts, .i2ct, .spis, .dma, .adc,
        .touch, .mems] s t := by
  obtain rfl := Host.Outcome.next.inj h
  exact (Frame.ite Frame.refl (Frame.after (Frame.mono State.set_power_frame rfl) (Frame.mono State.domainOff_frame
      rfl)))

theorem execNoteSleep_frame {a0 a1 s t} (h : execNoteSleep a0 a1 s = .next t) :
    Frame [.rPwr, .rMan, .rMemctl, .rQuay, .mem, .chk, .console, .manApp, .manSys, .power] s t := by
  obtain rfl := Host.Outcome.next.inj h
  exact (State.run_frame rfl (fun _ => (Frame.after (Frame.mono State.ok_frame rfl) (State.put_frame
      F.PWR_SLEEP_DEPTH_part rfl))))

theorem execNoteRetain_frame {a0 a1 a2 a3 s t} (h : execNoteRetain a0 a1 a2 a3 s = .next t) :
    Frame [.rPwr, .rMan, .rMemctl, .rQuay, .mem, .chk, .console, .manApp, .manSys, .power] s t := by
  obtain rfl := Host.Outcome.next.inj h
  exact (State.run_frame rfl (fun _ => (Frame.after (Frame.mono State.ok_frame rfl) (Frame.after (State.flag_frame
      F.PWR_RETAIN_DTCM_part rfl) (Frame.after (State.flag_frame F.PWR_RETAIN_ITCM_part rfl) (State.put_frame
      F.PWR_RETAIN_BANKS_part rfl))))))

theorem execNoteWakeQuery_frame {a0 s t} (h : execNoteWakeQuery a0 s = .next t) :
    Frame [.rPwr, .rMan, .rMemctl, .rQuay, .mem, .chk, .console, .manApp, .manSys, .power] s t := by
  obtain rfl := Host.Outcome.next.inj h
  exact (State.run_frame rfl (fun _ => (Frame.after (Frame.mono State.ok_frame rfl) (Frame.mono State.reply_frame
      rfl))))

theorem execNoteHistQuery_frame {a0 s t} (h : execNoteHistQuery a0 s = .next t) :
    Frame [.rPwr, .rMan, .rMemctl, .rQuay, .mem, .chk, .console, .manApp, .manSys, .power] s t := by
  obtain rfl := Host.Outcome.next.inj h
  exact (State.run_frame rfl (fun _ => (Frame.after (Frame.mono State.ok_frame rfl) (Frame.mono State.replies_frame
      rfl))))

theorem State.deriveGates_frame {s} : Frame [.rClk] s (State.deriveGates s) := by
  unfold State.deriveGates
  exact (Frame.ite Frame.refl (Frame.after (Frame.foldl (fun _ _ => (Frame.after (State.flag_frame
      F.CLK_ISL_DSLP_EN_part rfl) (State.flag_frame F.CLK_ISL_SLP_EN_part rfl))) _ _) (State.flag_frame
      F.CLK_CFG_PLL_REF_part rfl)))

theorem execSleepEntry_frame {s t} (h : execSleepEntry s = .next t) :
    Frame [.rPwr, .rClk, .rMemctl, .rTp, .rUart, .rI2ct, .rSpi, .rLgt, .rAdc, .rTouch, .rCrypto, .rGpio, .rDma,
        .rFront, .rLookout, .rBerth, .mem, .chk, .tide, .crypto, .power, .gnss, .lgt, .uarts, .i2ct, .spis, .dma,
        .adc, .touch, .mems] s t := by
  obtain rfl := Host.Outcome.next.inj h
  exact (Frame.ite (Frame.after (Frame.mono State.set_power_frame rfl) (Frame.ite (Frame.after (Frame.mono
      State.sleepLosses_frame rfl) (Frame.after (State.flag_frame F.PWR_REG_SLP_LDO_part rfl) (Frame.ite
      (Frame.mono State.deriveGates_frame rfl) (Frame.after (Frame.mono State.tideToAon_frame rfl) (Frame.mono
      State.deriveGates_frame rfl))))) (Frame.after (State.flag_frame F.PWR_REG_SLP_LDO_part rfl) (Frame.ite
      (Frame.mono State.deriveGates_frame rfl) (Frame.after (Frame.mono State.tideToAon_frame rfl) (Frame.mono
      State.deriveGates_frame rfl)))))) Frame.refl)

theorem State.wakeRecord_frame {s a1 a2} : Frame [.rPwr, .mem, .chk, .power] s (State.wakeRecord s a1 a2) := by
  unfold State.wakeRecord
  exact (Frame.after (State.puts_cons_frame F.PWR_WAKE_SRC_SRC_part rfl (State.puts_cons_frame
      F.PWR_WAKE_SRC_FROM_part rfl (State.puts_cons_frame F.PWR_WAKE_SRC_MASK_part rfl (State.puts_cons_frame
      F.PWR_WAKE_SRC_IDX_part rfl (State.puts_cons_frame F.PWR_WAKE_SEC_SEC_part rfl (State.puts_cons_frame
      F.PWR_WAKE_FRAC_FRAC_part rfl State.puts_nil_frame)))))) (Frame.after (Frame.mono State.set_power_frame rfl)
      (Frame.mono State.writeBlock_frame rfl)))

end Sys2Proof.Machine
end

