-- ==== Sys2Proof/Laws/FrameClocks.lean ====
section
/-! SUPPORT. The frames of the operations and commands of Machine/Clocks.lean: what each can change. -/

namespace Sys2Proof.Machine

theorem stateOfCode_part {c : Nat} : (stateOfCode c).part = .rClk := by
  unfold stateOfCode
  split
  · exact F.CLK_STAT_HFO_part
  · exact F.CLK_STAT_LFO_part
  · exact F.CLK_STAT_XTALL_part
  · exact F.CLK_STAT_XTALG_part
  · exact F.CLK_STAT_RFSYN_part
  · exact F.CLK_STAT_SYSPLL_part

theorem gateField_part {i : Nat} {g : Gate} : (gateField i g).part = .rClk := by
  cases g
  · exact F.CLK_ISL_RUN_EN_part
  · exact F.CLK_ISL_SLP_EN_part
  · exact F.CLK_ISL_DSLP_EN_part

theorem State.requestSource_frame {s a1 a2} : Frame [.rClk] s (State.requestSource s a1 a2) := by
  unfold State.requestSource
  exact (Frame.ite (Frame.after (State.put_frame stateOfCode_part rfl) (Frame.after (State.flag_frame
      F.CLK_ISL_PEND_part rfl) (State.put_frame F.CLK_ISL_SEL_part rfl))) (Frame.after (State.flag_frame
      F.CLK_ISL_PEND_part rfl) (State.put_frame F.CLK_ISL_SEL_part rfl)))

theorem State.monitorGate_frame {s a1} : Frame [.clk] s (State.monitorGate s a1) := by
  unfold State.monitorGate
  exact (Frame.ite Frame.refl (Frame.mono State.set_clk_frame rfl))

theorem State.fllGate_frame {s} : Frame [.rClk] s (State.fllGate s) := by
  unfold State.fllGate
  exact (Frame.ite Frame.refl (State.put_frame F.CLK_STAT_FLL_LOCK_part rfl))

theorem State.writeIsland_frame {s a1 a2 a3} : Frame [.rPwr, .rClk, .rMan, .rMemctl, .rQuay, .mem, .chk, .console,
    .manApp, .manSys, .power] s (State.writeIsland s a1 a2 a3) := by
  unfold State.writeIsland
  exact (Frame.ite (State.deny_frame rfl) (Frame.ite Frame.refl (Frame.ite (State.deny_frame rfl) (Frame.ite
      Frame.refl (State.underLedger_frame (Frame.mono State.requestSource_frame rfl) rfl rfl)))))

theorem execIslandSourceRequest_frame {a0 a1 a2 s t} (h : execIslandSourceRequest a0 a1 a2 s = .next t) :
    Frame [.rPwr, .rClk, .rMan, .rMemctl, .rQuay, .mem, .chk, .console, .manApp, .manSys, .power] s t := by
  obtain rfl := Host.Outcome.next.inj h
  exact (Frame.mono State.writeIsland_frame rfl)

theorem State.afterSwitch_frame {s a1 a2 a3} : Frame [.rClk, .rTide, .rTp, .rRtc, .tide, .rtc] s (State.afterSwitch
    s a1 a2 a3) := by
  unfold State.afterSwitch
  exact (Frame.after (Frame.mono State.xtalFollow_frame rfl) (Frame.ite (Frame.after (Frame.mono
      State.deriveLoop_frame rfl) (Frame.ite (Frame.mono State.tideAdd_frame rfl) Frame.refl)) (Frame.ite
      (Frame.ite (Frame.mono State.reportPulse_frame rfl) Frame.refl) (Frame.ite (State.flag_frame
      F.RTC_STAT_CLKSRC_part rfl) Frame.refl))))

theorem execIslandClockSwitch_frame {a0 s t} (h : execIslandClockSwitch a0 s = .next t) :
    Frame [.rClk, .rTide, .rTp, .rRtc, .tide, .rtc] s t := by
  obtain rfl := Host.Outcome.next.inj h
  exact (Frame.ite (Frame.after (Frame.mono State.afterSwitch_frame rfl) (Frame.after (State.put_frame
      F.CLK_ISL_RUNNING_part rfl) (Frame.after (State.put_frame F.CLK_ISL_FAILOVER_part rfl) (Frame.after
      (State.put_frame F.CLK_ISL_PEND_part rfl) (State.put_frame F.CLK_ISL_ACT_part rfl))))) Frame.refl)

theorem State.failover_frame {s a1 a2} : Frame [.rClk] s (State.failover s a1 a2) := by
  unfold State.failover
  exact (Frame.after (State.put_frame F.CLK_ISL_FAILOVER_part rfl) (State.put_frame F.CLK_ISL_ACT_part rfl))

theorem State.dropRequests_frame {s a1} : Frame [.rClk] s (State.dropRequests s a1) := by
  unfold State.dropRequests
  exact (Frame.foldl (fun _ _ => (Frame.ite (Frame.after (State.put_frame F.CLK_ISL_PEND_part rfl) (State.put_frame
      F.CLK_ISL_SEL_part rfl)) Frame.refl)) _ _)

theorem State.failIslands_frame {s a1 a2} : Frame [.rClk] s (State.failIslands s a1 a2) := by
  unfold State.failIslands
  exact (Frame.foldl (fun _ _ => (Frame.ite (Frame.mono State.failover_frame rfl) Frame.refl)) _ _)

theorem State.xtalGIslands_frame {s} : Frame [.rClk] s (State.xtalGIslands s) := by
  unfold State.xtalGIslands
  exact (Frame.after (State.puts_cons_frame F.CLK_STAT_RFSYN_part rfl (State.puts_cons_frame F.CLK_ISL_RUNNING_part
      rfl (State.puts_cons_frame F.CLK_ISL_RUNNING_part rfl State.puts_nil_frame))) (Frame.after (Frame.mono
      State.failIslands_frame rfl) (Frame.ite (Frame.after (State.put_frame F.CLK_STAT_REF_ACT_part rfl)
      (Frame.after (Frame.mono State.failIslands_frame rfl) (Frame.mono State.dropRequests_frame rfl)))
      (Frame.after (Frame.mono State.failIslands_frame rfl) (Frame.after (Frame.mono State.failIslands_frame rfl)
      (Frame.mono State.dropRequests_frame rfl))))))

theorem State.xtalLFails_frame {s} : Frame [.rPwr, .rClk, .rMan, .rMemctl, .rTide, .rRtc, .rQuay, .mem, .chk,
    .console, .manApp, .manSys, .power] s (State.xtalLFails s) := by
  unfold State.xtalLFails
  exact (Frame.after (Frame.mono State.deriveLoop_frame rfl) (Frame.after (Frame.mono State.rtcOsf_frame rfl)
      (Frame.after (State.put_frame F.RTC_STAT_CLKSRC_part rfl) (Frame.after (State.put_frame
      F.CLK_STAT_FLL_LOCK_part rfl) (Frame.after (Frame.mono State.failover_frame rfl) (Frame.after (Frame.mono
      State.failover_frame rfl) (Frame.mono State.dropRequests_frame rfl)))))))

theorem State.hfoFails_frame {s} : Frame [.rClk] s (State.hfoFails s) := by
  unfold State.hfoFails
  exact (Frame.ite (Frame.after (Frame.mono State.failIslands_frame rfl) (Frame.ite (Frame.after (State.put_frame
      F.CLK_STAT_REF_ACT_part rfl) (Frame.after (State.put_frame F.CLK_HFO_TRIM_part rfl) (Frame.after
      (State.put_frame F.CLK_STAT_FLL_LOCK_part rfl) (Frame.mono State.dropRequests_frame rfl)))) (Frame.after
      (State.put_frame F.CLK_HFO_TRIM_part rfl) (Frame.after (State.put_frame F.CLK_STAT_FLL_LOCK_part rfl)
      (Frame.mono State.dropRequests_frame rfl))))) (Frame.after (Frame.mono State.failIslands_frame rfl)
      (Frame.after (Frame.mono State.failIslands_frame rfl) (Frame.ite (Frame.after (State.put_frame
      F.CLK_STAT_REF_ACT_part rfl) (Frame.after (State.put_frame F.CLK_HFO_TRIM_part rfl) (Frame.after
      (State.put_frame F.CLK_STAT_FLL_LOCK_part rfl) (Frame.mono State.dropRequests_frame rfl)))) (Frame.after
      (State.put_frame F.CLK_HFO_TRIM_part rfl) (Frame.after (State.put_frame F.CLK_STAT_FLL_LOCK_part rfl)
      (Frame.mono State.dropRequests_frame rfl)))))))

theorem State.failAction_frame {s a1 a2} : Frame [.rPwr, .rClk, .rMan, .rMemctl, .rTide, .rTp, .rRtc, .rPlan,
    .rLookout, .rBerth, .rSillage, .rMeasq, .rQuay, .mem, .chk, .console, .manApp, .manSys, .tide, .tp, .rtc,
    .power, .gnss] s (State.failAction s a1 a2) := by
  unfold State.failAction
  exact (by (first | (dsimp only; split) | split); exact (Frame.after (Frame.mono State.tideHoldover_frame rfl) (Frame.after (Frame.mono State.tideAdd_frame rfl) (Frame.after (Frame.mono State.berthsLost_frame rfl) (Frame.after (State.put_frame F.TP_QERR_VALID_part rfl) (Frame.mono State.xtalGIslands_frame rfl))))); exact (Frame.mono State.xtalLFails_frame rfl); exact (Frame.mono State.hfoFails_frame rfl))

theorem State.raiseNmi_frame {s} : Frame [.app, .sys] s (State.raiseNmi s) := by
  unfold State.raiseNmi
  exact (Frame.mono State.set_app_sys_frame rfl)

theorem State.clockFails_frame {s a1 a2 a3 a4} : Frame [.rPwr, .rClk, .rHarv, .rMan, .rEvr, .rMemctl, .rTide, .rTp,
    .rRtc, .rSpi, .rAdc, .rTouch, .rGpio, .rGnss, .rFront, .rPlan, .rLookout, .rBerth, .rSillage, .rMeasq, .rQuay,
    .mem, .chk, .busData, .app, .sys, .console, .manApp, .manSys, .tide, .tp, .rtc, .power, .harv, .gnss, .lgt,
    .spis, .dma, .adc, .touch] s (State.clockFails s a1 a2 a3 a4) := by
  unfold State.clockFails
  exact (Frame.ite Frame.refl (Frame.after (Frame.mono State.wake_frame rfl) (Frame.after (Frame.mono
      State.fire_frame rfl) (Frame.after (Frame.mono State.raiseNmi_frame rfl) (Frame.after (Frame.mono
      State.raise_frame rfl) (Frame.after (Frame.mono State.failAction_frame rfl) (Frame.after (State.count_frame
      F.CLK_FAILREC_NFAIL_part rfl) (Frame.after (State.put_frame F.CLK_FAILREC_KIND_part rfl) (Frame.after
      (State.put_frame F.CLK_FAILREC_SRC_part rfl) (State.put_frame stateOfCode_part rfl))))))))))

theorem execMonitorWindow_frame {a0 a1 s t} (h : execMonitorWindow a0 a1 s = .next t) :
    Frame [.rPwr, .rClk, .rHarv, .rMan, .rEvr, .rMemctl, .rTide, .rTp, .rRtc, .rSpi, .rAdc, .rTouch, .rGpio,
        .rGnss, .rFront, .rPlan, .rLookout, .rBerth, .rSillage, .rMeasq, .rQuay, .mem, .chk, .busData, .app, .sys,
        .console, .manApp, .manSys, .tide, .tp, .rtc, .power, .harv, .clk, .gnss, .lgt, .spis, .dma, .adc, .touch]
        s t := by
  obtain rfl := Host.Outcome.next.inj h
  exact (by first | (dsimp only; exact (Frame.ite (Frame.ite (Frame.after (Frame.mono State.clockFails_frame rfl) (Frame.after (State.put_frame F.CLK_MON_DEV_part rfl) (Frame.after (Frame.mono State.set_clk_frame rfl) (State.put_frame F.CLK_MONCNT_COUNT_part rfl)))) (Frame.ite (Frame.ite (Frame.after (Frame.mono State.clockFails_frame rfl) (Frame.after (State.put_frame F.CLK_MON_DEV_part rfl) (Frame.after (Frame.mono State.set_clk_frame rfl) (State.put_frame F.CLK_MONCNT_COUNT_part rfl)))) (Frame.after (State.put_frame F.CLK_MON_DEV_part rfl) (Frame.after (Frame.mono State.set_clk_frame rfl) (State.put_frame F.CLK_MONCNT_COUNT_part rfl)))) (Frame.after (State.put_frame F.CLK_MON_DEV_part rfl) (Frame.after (Frame.mono State.set_clk_frame rfl) (State.put_frame F.CLK_MONCNT_COUNT_part rfl))))) Frame.refl)) | (split; exact (Frame.ite (Frame.ite (Frame.after (Frame.mono State.clockFails_frame rfl) (Frame.after (State.put_frame F.CLK_MON_DEV_part rfl) (Frame.after (Frame.mono State.set_clk_frame rfl) (State.put_frame F.CLK_MONCNT_COUNT_part rfl)))) (Frame.ite (Frame.ite (Frame.after (Frame.mono State.clockFails_frame rfl) (Frame.after (State.put_frame F.CLK_MON_DEV_part rfl) (Frame.after (Frame.mono State.set_clk_frame rfl) (State.put_frame F.CLK_MONCNT_COUNT_part rfl)))) (Frame.after (State.put_frame F.CLK_MON_DEV_part rfl) (Frame.after (Frame.mono State.set_clk_frame rfl) (State.put_frame F.CLK_MONCNT_COUNT_part rfl)))) (Frame.after (State.put_frame F.CLK_MON_DEV_part rfl) (Frame.after (Frame.mono State.set_clk_frame rfl) (State.put_frame F.CLK_MONCNT_COUNT_part rfl))))) Frame.refl)))

theorem execEdgeDetectorFail_frame {a0 s t} (h : execEdgeDetectorFail a0 s = .next t) :
    Frame [.rPwr, .rClk, .rHarv, .rMan, .rEvr, .rMemctl, .rTide, .rTp, .rRtc, .rSpi, .rAdc, .rTouch, .rGpio,
        .rGnss, .rFront, .rPlan, .rLookout, .rBerth, .rSillage, .rMeasq, .rQuay, .mem, .chk, .busData, .app, .sys,
        .console, .manApp, .manSys, .tide, .tp, .rtc, .power, .harv, .gnss, .lgt, .spis, .dma, .adc, .touch] s t := by
  obtain rfl := Host.Outcome.next.inj h
  exact (Frame.ite (Frame.ite Frame.refl (Frame.mono State.clockFails_frame rfl)) (Frame.mono
      State.clockFails_frame rfl))

theorem State.retryClocks_frame {s} : Frame [.clk] s (State.retryClocks s) := by
  unfold State.retryClocks
  exact (Frame.mono State.set_clk_frame rfl)

theorem execClockRetry_frame {s t} (h : execClockRetry s = .next t) :
    Frame [.clk] s t := by
  obtain rfl := Host.Outcome.next.inj h
  exact (Frame.ite Frame.refl (Frame.mono State.retryClocks_frame rfl))

theorem State.writeRetry_frame {s a1} : Frame [.rClk, .clk] s (State.writeRetry s a1) := by
  unfold State.writeRetry
  exact (Frame.ite (State.deny_frame rfl) (Frame.ite (State.deny_frame rfl) (Frame.mono State.retryClocks_frame rfl)))

theorem execClkCfgRetry_frame {a0 s t} (h : execClkCfgRetry a0 s = .next t) :
    Frame [.rClk, .clk] s t := by
  obtain rfl := Host.Outcome.next.inj h
  exact (Frame.mono State.writeRetry_frame rfl)

theorem State.returnIslands_frame {s} : Frame [.rClk] s (State.returnIslands s) := by
  unfold State.returnIslands
  exact (Frame.ite Frame.refl (Frame.foldl (fun _ _ => (Frame.ite (Frame.ite (Frame.after (State.put_frame
      F.CLK_ISL_FAILOVER_part rfl) (State.put_frame F.CLK_ISL_SEL_part rfl)) (Frame.mono State.requestSource_frame
      rfl)) Frame.refl)) _ _))

theorem State.sourceRuns_frame {s a1} : Frame [.rClk, .rTide, .rRtc] s (State.sourceRuns s a1) := by
  unfold State.sourceRuns
  exact (by (first | (dsimp only; split) | split); exact (Frame.ite Frame.refl (Frame.after (Frame.mono State.deriveLoop_frame rfl) (Frame.after (State.put_frame F.RTC_STAT_CLKSRC_part rfl) (Frame.after (State.put_frame F.CLK_ISL_ACT_part rfl) (Frame.ite Frame.refl (Frame.after (State.put_frame F.CLK_ISL_ACT_part rfl) (State.put_frame F.CLK_ISL_SEL_part rfl))))))); exact (Frame.ite (Frame.mono State.rfClocks_frame rfl) Frame.refl); exact (Frame.after (State.put_frame F.CLK_ISL_RUNNING_part rfl) (State.put_frame F.CLK_ISL_RUNNING_part rfl)); exact Frame.refl)

theorem execClockReady_frame {a0 s t} (h : execClockReady a0 s = .next t) :
    Frame [.rPwr, .rClk, .rMan, .rMemctl, .rTide, .rRtc, .rQuay, .mem, .chk, .console, .manApp, .manSys, .power,
        .clk] s t := by
  obtain rfl := Host.Outcome.next.inj h
  exact (Frame.ite (Frame.ite (State.put_frame F.CLK_STAT_FLL_LOCK_part rfl) Frame.refl) (Frame.ite (Frame.ite
      (Frame.after (Frame.mono State.raise0_frame rfl) (Frame.after (Frame.mono State.returnIslands_frame rfl)
      (Frame.after (Frame.mono State.sourceRuns_frame rfl) (Frame.after (Frame.mono State.set_clk_frame rfl)
      (State.put_frame stateOfCode_part rfl))))) (Frame.after (Frame.mono State.sourceRuns_frame rfl) (Frame.after
      (Frame.mono State.set_clk_frame rfl) (State.put_frame stateOfCode_part rfl)))) Frame.refl))

theorem execFllCount_frame {a0 s t} (h : execFllCount a0 s = .next t) :
    Frame [.rClk] s t := by
  obtain rfl := Host.Outcome.next.inj h
  exact (Frame.ite (Frame.ite (Frame.after (State.put_frame F.CLK_STAT_FLL_LOCK_part rfl) (State.put_frame
      F.CLK_HFO_TRIM_part rfl)) (Frame.ite (Frame.after (State.put_frame F.CLK_STAT_FLL_LOCK_part rfl)
      (State.put_frame F.CLK_HFO_TRIM_part rfl)) (State.put_frame F.CLK_STAT_FLL_LOCK_part rfl))) Frame.refl)

theorem execSyspllReferenceMove_frame {a0 s t} (h : execSyspllReferenceMove a0 s = .next t) :
    Frame [.rClk, .rTide] s t := by
  obtain rfl := Host.Outcome.next.inj h
  exact (Frame.ite (Frame.after (Frame.mono State.deriveLoop_frame rfl) (State.flag_frame F.CLK_STAT_REF_ACT_part
      rfl)) Frame.refl)

theorem execClkRfsynUnlock_frame {a0 s t} (h : execClkRfsynUnlock a0 s = .next t) :
    Frame [.rPwr, .rMan, .rMemctl, .rPlan, .rLookout, .rBerth, .rSillage, .rMeasq, .rQuay, .mem, .chk, .console,
        .manApp, .manSys, .power, .gnss] s t := by
  obtain rfl := Host.Outcome.next.inj h
  exact (Frame.after (Frame.mono State.raise0_frame rfl) (Frame.mono State.berthsUnlock_frame rfl))

theorem execClkQuery_frame {a0 a1 s t} (h : execClkQuery a0 a1 s = .next t) :
    Frame [.rPwr, .rClk, .rMan, .rMemctl, .rQuay, .mem, .chk, .console, .manApp, .manSys, .power] s t := by
  obtain rfl := Host.Outcome.next.inj h
  exact (State.run_frame rfl (fun _ => (by (first | (dsimp only; split) | split); exact (Frame.after (Frame.mono State.ok_frame rfl) (Frame.after (Frame.mono State.reply_frame rfl) (Frame.mono State.deriveGates_frame rfl))); exact (Frame.after (Frame.mono State.ok_frame rfl) (Frame.after (Frame.mono State.replies_frame rfl) (Frame.mono State.deriveGates_frame rfl))))))

theorem execClkSrc_frame {a0 a1 a2 s t} (h : execClkSrc a0 a1 a2 s = .next t) :
    Frame [.rPwr, .rClk, .rMan, .rMemctl, .rQuay, .mem, .chk, .console, .manApp, .manSys, .power] s t := by
  obtain rfl := Host.Outcome.next.inj h
  exact (State.run_frame rfl (fun _ => (by (first | (dsimp only; split) | split); exact (Frame.mono State.er_frame rfl); exact (Frame.ite (Frame.after (Frame.mono State.er_frame rfl) (State.ledgerRefuse_frame rfl rfl)) (Frame.ite (Frame.mono State.er_frame rfl) (Frame.after (Frame.mono State.ok_frame rfl) (Frame.mono State.requestSource_frame rfl)))))))

theorem execClkGate_frame {a0 a1 a2 a3 s t} (h : execClkGate a0 a1 a2 a3 s = .next t) :
    Frame [.rPwr, .rClk, .rMan, .rMemctl, .rQuay, .mem, .chk, .console, .manApp, .manSys, .power] s t := by
  obtain rfl := Host.Outcome.next.inj h
  exact (State.run_frame rfl (fun _ => (Frame.after (Frame.mono State.ok_frame rfl) (Frame.ite Frame.refl
      (State.flag_frame gateField_part rfl)))))

theorem execClkMon_frame {a0 a1 a2 s t} (h : execClkMon a0 a1 a2 s = .next t) :
    Frame [.rPwr, .rClk, .rMan, .rMemctl, .rQuay, .mem, .chk, .console, .manApp, .manSys, .power] s t := by
  obtain rfl := Host.Outcome.next.inj h
  exact (State.run_frame rfl (fun _ => (Frame.ite (Frame.mono State.er_frame rfl) (Frame.after (Frame.mono
      State.ok_frame rfl) (State.put_frame F.CLK_MON_WINDOW_part rfl)))))

end Sys2Proof.Machine
end

