-- ==== Sys2Proof/Laws/FrameBerth.lean ====
section
/-! SUPPORT. The frames of the operations and commands of Machine/Berth.lean: what each can change. -/

namespace Sys2Proof.Machine

theorem State.deriveBerth_frame {s a1} : Frame [.rBerth] s (State.deriveBerth s a1) := by
  unfold State.deriveBerth
  exact (Frame.ite Frame.refl (State.puts_cons_frame F.BERTH_ARMS_EL_part rfl (State.puts_cons_frame
      F.BERTH_ARMS_VEVL_part rfl (State.puts_cons_frame F.BERTH_INTEG_COH_part rfl (State.puts_cons_frame
      F.BERTH_INTEG_WIPE_part rfl (State.puts_cons_frame F.BERTH_INTEG_NWIN_part rfl (State.puts_cons_frame
      F.BERTH_LOOP_PLL_BW_part rfl (State.puts_cons_frame F.BERTH_LOOP_PLL_OPEN_part rfl (State.puts_cons_frame
      F.BERTH_LOOP_FLL_BW_part rfl (State.puts_cons_frame F.BERTH_LOOP_FLL_OPEN_part rfl (State.puts_cons_frame
      F.BERTH_LOOP_DLL_BW_part rfl (State.puts_cons_frame F.BERTH_LOOP_DLL_OPEN_part rfl (State.puts_cons_frame
      F.BERTH_LOOP_CAID_part rfl (State.puts_cons_frame F.BERTH_LOOP_PLL_ORD_part rfl (State.puts_cons_frame
      F.BERTH_LOCK_LOCK_THR_part rfl (State.puts_cons_frame F.BERTH_LOCK_PLOCK_THR_part rfl (State.puts_cons_frame
      F.BERTH_LOCK_LOSS_MS_part rfl State.puts_nil_frame)))))))))))))))))

theorem State.markSignal_frame {s a1} : Frame [.rBerth] s (State.markSignal s a1) := by
  unfold State.markSignal
  exact (Frame.after (Frame.mono State.deriveBerth_frame rfl) (Frame.after (State.flag_frame F.BERTH_CFG_BOC_part
      rfl) (State.flag_frame F.BERTH_CFG_PAIR_part rfl)))

theorem State.startBerth_frame {s a1 a2 a3 a4} : Frame [.rBerth, .gnss] s (State.startBerth s a1 a2 a3 a4) := by
  unfold State.startBerth
  exact (Frame.after (Frame.mono State.deriveBerth_frame rfl) (Frame.after (State.puts_cons_frame
      F.BERTH_STAT_STATE_part rfl (State.puts_cons_frame F.BERTH_STAT_BOND_part rfl (State.puts_cons_frame
      F.BERTH_STAT_SEC_SYNC_part rfl (State.puts_cons_frame F.BERTH_STAT_BOC_OK_part rfl (State.puts_cons_frame
      F.BERTH_STAT_SIDEJ_part rfl (State.puts_cons_frame F.BERTH_STAT_HALF_part rfl (State.puts_cons_frame
      F.BERTH_STAT_PLOCK_part rfl (State.puts_cons_frame F.BERTH_STAT_FLOCK_part rfl (State.puts_cons_frame
      F.BERTH_STAT_CLOCK_part rfl (State.puts_cons_frame F.BERTH_CN0_LOCKT_part rfl State.puts_nil_frame))))))))))
      (Frame.mono State.modBerth_frame rfl)))

theorem State.loadStart_frame {s a1 a2 a3 a4 a5 a6} : Frame [.rBerth, .gnss] s (State.loadStart s a1 a2 a3 a4 a5
    a6) := by
  unfold State.loadStart
  exact (Frame.after (State.putS_frame F.BERTH_CARR_INC_INC_part rfl) (Frame.after (State.put_frame
      F.BERTH_CODE_INC_INC_part rfl) (Frame.mono State.modBerth_frame rfl)))

theorem State.takeHandoff_frame {s a1 a2} : Frame [.rPwr, .rMan, .rMemctl, .rPlan, .rLookout, .rBerth, .rQuay,
    .mem, .chk, .console, .manApp, .manSys, .power, .gnss] s (State.takeHandoff s a1 a2) := by
  unfold State.takeHandoff
  exact (Frame.after (Frame.mono State.raiseK_frame rfl) (Frame.after (State.count_frame F.LOOKOUT_CNT_HANDOFF_part
      rfl) (Frame.after (Frame.mono State.planState_frame rfl) (Frame.after (Frame.mono State.modBerth_frame rfl)
      (Frame.after (Frame.mono State.loadStart_frame rfl) (Frame.mono State.startBerth_frame rfl))))))

theorem State.setPreds_frame {s a1} : Frame [.rBerth, .rSillage, .gnss] s (State.setPreds s a1) := by
  unfold State.setPreds
  exact (Frame.after (Frame.foldl (fun _ _ => (Frame.mono State.deriveBerth_frame rfl)) _ _) (Frame.mono
      State.keepPreds_frame rfl))

theorem State.addPred_frame {s a1} : Frame [.rBerth, .rSillage, .gnss] s (State.addPred s a1) := by
  unfold State.addPred
  exact (Frame.mono State.setPreds_frame rfl)

theorem State.takeSeed_frame {s a1 a2} : Frame [.rPlan, .rBerth, .gnss] s (State.takeSeed s a1 a2) := by
  unfold State.takeSeed
  exact (Frame.after (Frame.mono State.planState_frame rfl) (Frame.after (Frame.mono State.loadStart_frame rfl)
      (Frame.mono State.startBerth_frame rfl)))

theorem State.dropHandoff_frame {s a1} : Frame [.rLookout, .gnss] s (State.dropHandoff s a1) := by
  unfold State.dropHandoff
  exact (Frame.after (State.count_frame F.LOOKOUT_CNT_DROPPED_part rfl) (Frame.mono State.modBerth_frame rfl))

theorem State.enableBerth_frame {s a1} : Frame [.rPwr, .rMan, .rMemctl, .rCrypto, .rBerth, .rQuay, .mem, .chk,
    .console, .manApp, .manSys, .crypto, .power, .gnss, .mems] s (State.enableBerth s a1) := by
  unfold State.enableBerth
  exact (Frame.ite Frame.refl (Frame.after (Frame.mono State.markSignal_frame rfl) (Frame.after (State.put_frame
      F.BERTH_STAT_STATE_part rfl) (Frame.after (State.put_frame F.BERTH_CFG_EN_part rfl) (Frame.after (Frame.mono
      State.needDomain_frame rfl) (Frame.mono State.modBerth_frame rfl))))))

theorem State.landSignal_frame {s a1} : Frame [.rBerth, .gnss] s (State.landSignal s a1) := by
  unfold State.landSignal
  exact (by first | (dsimp only; exact (Frame.after (Frame.mono State.markSignal_frame rfl) (Frame.after (State.puts_cons_frame F.BERTH_CFG_SIG_part rfl (State.puts_cons_frame F.BERTH_CFG_SVN_part rfl (State.puts_cons_frame F.BERTH_CFG_GLO_K_part rfl State.puts_nil_frame))) (Frame.mono State.modBerth_frame rfl)))) | (split; exact (Frame.after (Frame.mono State.markSignal_frame rfl) (Frame.after (State.puts_cons_frame F.BERTH_CFG_SIG_part rfl (State.puts_cons_frame F.BERTH_CFG_SVN_part rfl (State.puts_cons_frame F.BERTH_CFG_GLO_K_part rfl State.puts_nil_frame))) (Frame.mono State.modBerth_frame rfl)))))

theorem State.disableBerth_frame {s a1} : Frame [.rPwr, .rMan, .rMemctl, .rPlan, .rLookout, .rBerth, .rSillage,
    .rMeasq, .rQuay, .mem, .chk, .console, .manApp, .manSys, .power, .gnss] s (State.disableBerth s a1) := by
  unfold State.disableBerth
  exact (Frame.ite (Frame.after (State.put_frame F.BERTH_CFG_EN_part rfl) (Frame.after (Frame.mono
      State.landSignal_frame rfl) (Frame.after (Frame.mono State.leavePlaces_frame rfl) (Frame.mono
      State.refuseBonded_frame rfl)))) Frame.refl)

theorem execBerthEnable_frame {a0 a1 s t} (h : execBerthEnable a0 a1 s = .next t) :
    Frame [.rPwr, .rMan, .rMemctl, .rCrypto, .rBerth, .rQuay, .mem, .chk, .console, .manApp, .manSys, .crypto,
        .power, .gnss, .mems] s t := by
  obtain rfl := Host.Outcome.next.inj h
  exact (State.guard_frame (Block.berth_sub rfl) (fun _ => (Frame.mono State.enableBerth_frame rfl)))

theorem execBerthDisable_frame {a0 a1 s t} (h : execBerthDisable a0 a1 s = .next t) :
    Frame [.rPwr, .rMan, .rMemctl, .rPlan, .rLookout, .rBerth, .rSillage, .rMeasq, .rQuay, .mem, .chk, .console,
        .manApp, .manSys, .power, .gnss] s t := by
  obtain rfl := Host.Outcome.next.inj h
  exact (State.guard_frame (Block.berth_sub rfl) (fun _ => (Frame.mono State.disableBerth_frame rfl)))

theorem State.atQuiet_frame {s a1} : Frame [.rPwr, .rMan, .rMemctl, .rPlan, .rLookout, .rBerth, .rSillage, .rMeasq,
    .rQuay, .mem, .chk, .console, .manApp, .manSys, .power, .gnss] s (State.atQuiet s a1) := by
  unfold State.atQuiet
  exact (Frame.ite (Frame.after (Frame.mono State.landSignal_frame rfl) (Frame.after (Frame.mono
      State.modBerth_frame rfl) (Frame.after (Frame.mono State.leavePlaces_frame rfl) (Frame.mono
      State.refuseBonded_frame rfl)))) (Frame.ite Frame.refl (Frame.mono State.stopBerth_frame rfl)))

theorem State.setSignal_frame {s a1 a2 a3 a4} : Frame [.rPwr, .rMan, .rMemctl, .rPlan, .rLookout, .rBerth,
    .rSillage, .rMeasq, .rQuay, .mem, .chk, .console, .manApp, .manSys, .power, .gnss] s (State.setSignal s a1 a2
    a3 a4) := by
  unfold State.setSignal
  exact (Frame.ite (Frame.mono State.modBerth_frame rfl) (Frame.ite (Frame.after (Frame.mono State.modBerth_frame
      rfl) (Frame.after (Frame.mono State.landSignal_frame rfl) (Frame.mono State.modBerth_frame rfl))) (Frame.ite
      (Frame.mono State.modBerth_frame rfl) (Frame.after (Frame.mono State.atQuiet_frame rfl) (Frame.mono
      State.modBerth_frame rfl)))))

theorem execBerthSignalChange_frame {a0 s t} (h : execBerthSignalChange a0 s = .next t) :
    Frame [.rPwr, .rMan, .rMemctl, .rPlan, .rLookout, .rBerth, .rSillage, .rMeasq, .rQuay, .mem, .chk, .console,
        .manApp, .manSys, .power, .gnss] s t := by
  obtain rfl := Host.Outcome.next.inj h
  exact (Frame.mono State.atQuiet_frame rfl)

theorem execBerthHandoff_frame {a0 a1 s t} (h : execBerthHandoff a0 a1 s = .next t) :
    Frame [.rPwr, .rMan, .rMemctl, .rPlan, .rLookout, .rBerth, .rSillage, .rMeasq, .rQuay, .mem, .chk, .console,
        .manApp, .manSys, .power, .gnss] s t := by
  obtain rfl := Host.Outcome.next.inj h
  exact (Frame.ite (Frame.mono State.atQuiet_frame rfl) (by (first | (dsimp only; split) | split); exact (Frame.ite (Frame.after (Frame.mono State.takeHandoff_frame rfl) (Frame.mono State.atQuiet_frame rfl)) (Frame.after (Frame.mono State.dropHandoff_frame rfl) (Frame.mono State.atQuiet_frame rfl))); exact (by (first | (dsimp only; split) | split); exact (Frame.ite (Frame.after (Frame.mono State.takeSeed_frame rfl) (by (first | (dsimp only; split) | split); exact (Frame.ite (Frame.after (Frame.mono State.addPred_frame rfl) (Frame.mono State.atQuiet_frame rfl)) (Frame.mono State.atQuiet_frame rfl)); exact (Frame.mono State.atQuiet_frame rfl))) (by (first | (dsimp only; split) | split); exact (Frame.ite (Frame.after (Frame.mono State.addPred_frame rfl) (Frame.mono State.atQuiet_frame rfl)) (Frame.mono State.atQuiet_frame rfl)); exact (Frame.mono State.atQuiet_frame rfl))); exact (by (first | (dsimp only; split) | split); exact (Frame.ite (Frame.after (Frame.mono State.addPred_frame rfl) (Frame.mono State.atQuiet_frame rfl)) (Frame.mono State.atQuiet_frame rfl)); exact (Frame.mono State.atQuiet_frame rfl)))))

theorem State.advance_frame {s a1 a2 a3} : Frame [.gnss] s (State.advance s a1 a2 a3) := by
  unfold State.advance
  exact (Frame.mono State.modBerth_frame rfl)

theorem State.reportLoads_frame {s a1} : Frame [.rBerth] s (State.reportLoads s a1) := by
  unfold State.reportLoads
  exact (Frame.after (State.flag_frame F.BERTH_LOAD_INC_PEND_part rfl) (Frame.after (State.flag_frame
      F.BERTH_LOAD_CARR_PEND_part rfl) (State.flag_frame F.BERTH_LOAD_CODE_PEND_part rfl)))

theorem State.putArms_frame {s a1 a2} : Frame [.rBerth] s (State.putArms s a1 a2) := by
  unfold State.putArms
  exact (State.puts_cons_frame F.BERTH_ARMS_EL_part rfl (State.puts_cons_frame F.BERTH_ARMS_VEVL_part rfl
      State.puts_nil_frame))

theorem State.putLoop_frame {s a1 a2} : Frame [.rBerth] s (State.putLoop s a1 a2) := by
  unfold State.putLoop
  exact (State.puts_cons_frame F.BERTH_LOOP_PLL_BW_part rfl (State.puts_cons_frame F.BERTH_LOOP_PLL_OPEN_part rfl
      (State.puts_cons_frame F.BERTH_LOOP_FLL_BW_part rfl (State.puts_cons_frame F.BERTH_LOOP_FLL_OPEN_part rfl
      (State.puts_cons_frame F.BERTH_LOOP_DLL_BW_part rfl (State.puts_cons_frame F.BERTH_LOOP_DLL_OPEN_part rfl
      State.puts_nil_frame))))))

theorem State.applyLoads_frame {s a1} : Frame [.rBerth, .gnss] s (State.applyLoads s a1) := by
  unfold State.applyLoads
  exact (Frame.after (Frame.mono State.reportLoads_frame rfl) (Frame.after (Frame.mono State.modBerth_frame rfl) (by (first | (dsimp only; split) | split); exact (Frame.after (Frame.mono State.putLoop_frame rfl) (by (first | (dsimp only; split) | split); exact (Frame.after (Frame.mono State.putArms_frame rfl) (by (first | (dsimp only; split) | split); exact (Frame.after (State.put_frame F.BERTH_CARR_INC_INC_part rfl) (by (first | (dsimp only; split) | split); exact (Frame.after (State.put_frame F.BERTH_CODE_INC_INC_part rfl) (Frame.ite (Frame.after (State.flag_frame F.BERTH_STAT_HALF_part rfl) (Frame.after (State.put_frame F.BERTH_CN0_LOCKT_part rfl) (Frame.after (Frame.mono State.modBerth_frame rfl) (Frame.ite (Frame.mono State.modBerth_frame rfl) Frame.refl)))) (Frame.ite (Frame.mono State.modBerth_frame rfl) Frame.refl))); exact (Frame.ite (Frame.after (State.flag_frame F.BERTH_STAT_HALF_part rfl) (Frame.after (State.put_frame F.BERTH_CN0_LOCKT_part rfl) (Frame.after (Frame.mono State.modBerth_frame rfl) (Frame.ite (Frame.mono State.modBerth_frame rfl) Frame.refl)))) (Frame.ite (Frame.mono State.modBerth_frame rfl) Frame.refl)))); exact (by (first | (dsimp only; split) | split); exact (Frame.after (State.put_frame F.BERTH_CODE_INC_INC_part rfl) (Frame.ite (Frame.after (State.flag_frame F.BERTH_STAT_HALF_part rfl) (Frame.after (State.put_frame F.BERTH_CN0_LOCKT_part rfl) (Frame.after (Frame.mono State.modBerth_frame rfl) (Frame.ite (Frame.mono State.modBerth_frame rfl) Frame.refl)))) (Frame.ite (Frame.mono State.modBerth_frame rfl) Frame.refl))); exact (Frame.ite (Frame.after (State.flag_frame F.BERTH_STAT_HALF_part rfl) (Frame.after (State.put_frame F.BERTH_CN0_LOCKT_part rfl) (Frame.after (Frame.mono State.modBerth_frame rfl) (Frame.ite (Frame.mono State.modBerth_frame rfl) Frame.refl)))) (Frame.ite (Frame.mono State.modBerth_frame rfl) Frame.refl))))); exact (by (first | (dsimp only; split) | split); exact (Frame.after (State.put_frame F.BERTH_CARR_INC_INC_part rfl) (by (first | (dsimp only; split) | split); exact (Frame.after (State.put_frame F.BERTH_CODE_INC_INC_part rfl) (Frame.ite (Frame.after (State.flag_frame F.BERTH_STAT_HALF_part rfl) (Frame.after (State.put_frame F.BERTH_CN0_LOCKT_part rfl) (Frame.after (Frame.mono State.modBerth_frame rfl) (Frame.ite (Frame.mono State.modBerth_frame rfl) Frame.refl)))) (Frame.ite (Frame.mono State.modBerth_frame rfl) Frame.refl))); exact (Frame.ite (Frame.after (State.flag_frame F.BERTH_STAT_HALF_part rfl) (Frame.after (State.put_frame F.BERTH_CN0_LOCKT_part rfl) (Frame.after (Frame.mono State.modBerth_frame rfl) (Frame.ite (Frame.mono State.modBerth_frame rfl) Frame.refl)))) (Frame.ite (Frame.mono State.modBerth_frame rfl) Frame.refl)))); exact (by (first | (dsimp only; split) | split); exact (Frame.after (State.put_frame F.BERTH_CODE_INC_INC_part rfl) (Frame.ite (Frame.after (State.flag_frame F.BERTH_STAT_HALF_part rfl) (Frame.after (State.put_frame F.BERTH_CN0_LOCKT_part rfl) (Frame.after (Frame.mono State.modBerth_frame rfl) (Frame.ite (Frame.mono State.modBerth_frame rfl) Frame.refl)))) (Frame.ite (Frame.mono State.modBerth_frame rfl) Frame.refl))); exact (Frame.ite (Frame.after (State.flag_frame F.BERTH_STAT_HALF_part rfl) (Frame.after (State.put_frame F.BERTH_CN0_LOCKT_part rfl) (Frame.after (Frame.mono State.modBerth_frame rfl) (Frame.ite (Frame.mono State.modBerth_frame rfl) Frame.refl)))) (Frame.ite (Frame.mono State.modBerth_frame rfl) Frame.refl)))))); exact (by (first | (dsimp only; split) | split); exact (Frame.after (Frame.mono State.putArms_frame rfl) (by (first | (dsimp only; split) | split); exact (Frame.after (State.put_frame F.BERTH_CARR_INC_INC_part rfl) (by (first | (dsimp only; split) | split); exact (Frame.after (State.put_frame F.BERTH_CODE_INC_INC_part rfl) (Frame.ite (Frame.after (State.flag_frame F.BERTH_STAT_HALF_part rfl) (Frame.after (State.put_frame F.BERTH_CN0_LOCKT_part rfl) (Frame.after (Frame.mono State.modBerth_frame rfl) (Frame.ite (Frame.mono State.modBerth_frame rfl) Frame.refl)))) (Frame.ite (Frame.mono State.modBerth_frame rfl) Frame.refl))); exact (Frame.ite (Frame.after (State.flag_frame F.BERTH_STAT_HALF_part rfl) (Frame.after (State.put_frame F.BERTH_CN0_LOCKT_part rfl) (Frame.after (Frame.mono State.modBerth_frame rfl) (Frame.ite (Frame.mono State.modBerth_frame rfl) Frame.refl)))) (Frame.ite (Frame.mono State.modBerth_frame rfl) Frame.refl)))); exact (by (first | (dsimp only; split) | split); exact (Frame.after (State.put_frame F.BERTH_CODE_INC_INC_part rfl) (Frame.ite (Frame.after (State.flag_frame F.BERTH_STAT_HALF_part rfl) (Frame.after (State.put_frame F.BERTH_CN0_LOCKT_part rfl) (Frame.after (Frame.mono State.modBerth_frame rfl) (Frame.ite (Frame.mono State.modBerth_frame rfl) Frame.refl)))) (Frame.ite (Frame.mono State.modBerth_frame rfl) Frame.refl))); exact (Frame.ite (Frame.after (State.flag_frame F.BERTH_STAT_HALF_part rfl) (Frame.after (State.put_frame F.BERTH_CN0_LOCKT_part rfl) (Frame.after (Frame.mono State.modBerth_frame rfl) (Frame.ite (Frame.mono State.modBerth_frame rfl) Frame.refl)))) (Frame.ite (Frame.mono State.modBerth_frame rfl) Frame.refl))))); exact (by (first | (dsimp only; split) | split); exact (Frame.after (State.put_frame F.BERTH_CARR_INC_INC_part rfl) (by (first | (dsimp only; split) | split); exact (Frame.after (State.put_frame F.BERTH_CODE_INC_INC_part rfl) (Frame.ite (Frame.after (State.flag_frame F.BERTH_STAT_HALF_part rfl) (Frame.after (State.put_frame F.BERTH_CN0_LOCKT_part rfl) (Frame.after (Frame.mono State.modBerth_frame rfl) (Frame.ite (Frame.mono State.modBerth_frame rfl) Frame.refl)))) (Frame.ite (Frame.mono State.modBerth_frame rfl) Frame.refl))); exact (Frame.ite (Frame.after (State.flag_frame F.BERTH_STAT_HALF_part rfl) (Frame.after (State.put_frame F.BERTH_CN0_LOCKT_part rfl) (Frame.after (Frame.mono State.modBerth_frame rfl) (Frame.ite (Frame.mono State.modBerth_frame rfl) Frame.refl)))) (Frame.ite (Frame.mono State.modBerth_frame rfl) Frame.refl)))); exact (by (first | (dsimp only; split) | split); exact (Frame.after (State.put_frame F.BERTH_CODE_INC_INC_part rfl) (Frame.ite (Frame.after (State.flag_frame F.BERTH_STAT_HALF_part rfl) (Frame.after (State.put_frame F.BERTH_CN0_LOCKT_part rfl) (Frame.after (Frame.mono State.modBerth_frame rfl) (Frame.ite (Frame.mono State.modBerth_frame rfl) Frame.refl)))) (Frame.ite (Frame.mono State.modBerth_frame rfl) Frame.refl))); exact (Frame.ite (Frame.after (State.flag_frame F.BERTH_STAT_HALF_part rfl) (Frame.after (State.put_frame F.BERTH_CN0_LOCKT_part rfl) (Frame.after (Frame.mono State.modBerth_frame rfl) (Frame.ite (Frame.mono State.modBerth_frame rfl) Frame.refl)))) (Frame.ite (Frame.mono State.modBerth_frame rfl) Frame.refl))))))))

theorem State.dropLoads_frame {s a1} : Frame [.rBerth, .gnss] s (State.dropLoads s a1) := by
  unfold State.dropLoads
  exact (Frame.after (Frame.mono State.reportLoads_frame rfl) (Frame.mono State.modBerth_frame rfl))

theorem State.passBerth_frame {s a1} : Frame [.rPwr, .rMan, .rMemctl, .rPlan, .rLookout, .rBerth, .rSillage,
    .rMeasq, .rQuay, .mem, .chk, .console, .manApp, .manSys, .power, .gnss] s (State.passBerth s a1) := by
  unfold State.passBerth
  exact (Frame.after (Frame.mono State.dropLoads_frame rfl) (Frame.after (Frame.mono State.landSignal_frame rfl)
      (Frame.after (Frame.mono State.modBerth_frame rfl) (Frame.after (Frame.mono State.releaseBerth_frame rfl)
      (Frame.ite (Frame.mono State.applyLoads_frame rfl) Frame.refl)))))

theorem State.applyMove_frame {s a1} : Frame [.rBerth, .gnss] s (State.applyMove s a1) := by
  unfold State.applyMove
  exact (by (first | (dsimp only; split) | split); exact (Frame.after (State.count_frame F.BERTH_STAT_SIDEJ_part rfl) (Frame.mono State.modBerth_frame rfl)); exact Frame.refl)

theorem State.latchDump_frame {s a1 a2} : Frame [.gnss] s (State.latchDump s a1 a2) := by
  unfold State.latchDump
  exact (Frame.after (Frame.mono State.modBerth_frame rfl) (Frame.mono State.advance_frame rfl))

theorem State.judgeDump_frame {s a1 a2} : Frame [.rBerth, .free, .gnss] s (State.judgeDump s a1 a2) := by
  unfold State.judgeDump
  exact (Frame.after (Frame.mono State.spend_frame rfl) (Frame.after (State.puts_cons_frame F.BERTH_DISC_CODE_part rfl (State.puts_cons_frame F.BERTH_DISC_CARR_part rfl (State.puts_cons_frame F.BERTH_CN0_CN0_part rfl (State.puts_cons_frame F.BERTH_STAT_FLOCK_part rfl (State.puts_cons_frame F.BERTH_STAT_PLOCK_part rfl (State.puts_cons_frame F.BERTH_STAT_CLOCK_part rfl State.puts_nil_frame)))))) (Frame.after (Frame.mono State.modBerth_frame rfl) (Frame.ite (Frame.after (State.put_frame F.BERTH_STAT_HALF_part rfl) (by (first | (dsimp only; split) | split); exact (Frame.ite Frame.refl (Frame.after (Frame.mono State.modBerth_frame rfl) (State.put_frame F.BERTH_STAT_SEC_SYNC_part rfl))); exact Frame.refl)) (by (first | (dsimp only; split) | split); exact (Frame.ite Frame.refl (Frame.after (Frame.mono State.modBerth_frame rfl) (State.put_frame F.BERTH_STAT_SEC_SYNC_part rfl))); exact Frame.refl)))))

theorem State.timeDump_frame {s a1 a2} : Frame [.rBerth, .gnss] s (State.timeDump s a1 a2) := by
  unfold State.timeDump
  exact (Frame.ite (Frame.ite (Frame.after (State.put_frame F.BERTH_CN0_LOCKT_part rfl) (Frame.after (Frame.mono
      State.modBerth_frame rfl) (Frame.mono State.modBerth_frame rfl))) (Frame.mono State.modBerth_frame rfl))
      (Frame.ite (Frame.after (Frame.mono State.modBerth_frame rfl) (Frame.after (State.put_frame
      F.BERTH_STAT_STATE_part rfl) (Frame.mono State.modBerth_frame rfl))) (Frame.mono State.modBerth_frame rfl)))

theorem State.closeLoops_frame {s a1 a2} : Frame [.rBerth] s (State.closeLoops s a1 a2) := by
  unfold State.closeLoops
  exact (Frame.ite (Frame.ite Frame.refl (State.put_frame F.BERTH_CODE_INC_INC_part rfl)) (Frame.after
      (State.put_frame F.BERTH_CARR_INC_INC_part rfl) (Frame.ite Frame.refl (State.put_frame
      F.BERTH_CODE_INC_INC_part rfl))))

theorem State.dump_frame {s a1 a2} : Frame [.rPwr, .rMan, .rMemctl, .rPlan, .rLookout, .rBerth, .rSillage, .rMeasq,
    .rQuay, .free, .mem, .chk, .console, .manApp, .manSys, .power, .gnss] s (State.dump s a1 a2) := by
  unfold State.dump
  exact (Frame.ite Frame.refl (by first | (dsimp only; exact (Frame.after (Frame.mono State.atQuiet_frame rfl) (Frame.ite (Frame.after (Frame.mono State.raiseK_frame rfl) (Frame.after (Frame.mono State.showBond_frame rfl) (Frame.after (Frame.mono State.modBerth_frame rfl) (Frame.ite (Frame.after (Frame.mono State.deriveBerth_frame rfl) (Frame.after (Frame.mono State.closeLoops_frame rfl) (Frame.after (Frame.mono State.modBerth_frame rfl) (Frame.after (Frame.mono State.applyMove_frame rfl) (Frame.after (Frame.mono State.applyLoads_frame rfl) (Frame.ite (Frame.after (Frame.mono State.timeDump_frame rfl) (Frame.after (Frame.mono State.judgeDump_frame rfl) (Frame.after (State.put_frame F.BERTH_STAT_COH_LIM_part rfl) (Frame.mono State.latchDump_frame rfl)))) (Frame.after (State.put_frame F.BERTH_STAT_COH_LIM_part rfl) (Frame.mono State.latchDump_frame rfl)))))))) (Frame.after (Frame.mono State.modBerth_frame rfl) (Frame.after (Frame.mono State.applyMove_frame rfl) (Frame.after (Frame.mono State.applyLoads_frame rfl) (Frame.ite (Frame.after (Frame.mono State.timeDump_frame rfl) (Frame.after (Frame.mono State.judgeDump_frame rfl) (Frame.after (State.put_frame F.BERTH_STAT_COH_LIM_part rfl) (Frame.mono State.latchDump_frame rfl)))) (Frame.after (State.put_frame F.BERTH_STAT_COH_LIM_part rfl) (Frame.mono State.latchDump_frame rfl)))))))))) (Frame.after (Frame.mono State.showBond_frame rfl) (Frame.after (Frame.mono State.modBerth_frame rfl) (Frame.ite (Frame.after (Frame.mono State.deriveBerth_frame rfl) (Frame.after (Frame.mono State.closeLoops_frame rfl) (Frame.after (Frame.mono State.modBerth_frame rfl) (Frame.after (Frame.mono State.applyMove_frame rfl) (Frame.after (Frame.mono State.applyLoads_frame rfl) (Frame.ite (Frame.after (Frame.mono State.timeDump_frame rfl) (Frame.after (Frame.mono State.judgeDump_frame rfl) (Frame.after (State.put_frame F.BERTH_STAT_COH_LIM_part rfl) (Frame.mono State.latchDump_frame rfl)))) (Frame.after (State.put_frame F.BERTH_STAT_COH_LIM_part rfl) (Frame.mono State.latchDump_frame rfl)))))))) (Frame.after (Frame.mono State.modBerth_frame rfl) (Frame.after (Frame.mono State.applyMove_frame rfl) (Frame.after (Frame.mono State.applyLoads_frame rfl) (Frame.ite (Frame.after (Frame.mono State.timeDump_frame rfl) (Frame.after (Frame.mono State.judgeDump_frame rfl) (Frame.after (State.put_frame F.BERTH_STAT_COH_LIM_part rfl) (Frame.mono State.latchDump_frame rfl)))) (Frame.after (State.put_frame F.BERTH_STAT_COH_LIM_part rfl) (Frame.mono State.latchDump_frame rfl)))))))))))) | (split; exact (Frame.after (Frame.mono State.atQuiet_frame rfl) (Frame.ite (Frame.after (Frame.mono State.raiseK_frame rfl) (Frame.after (Frame.mono State.showBond_frame rfl) (Frame.after (Frame.mono State.modBerth_frame rfl) (Frame.ite (Frame.after (Frame.mono State.deriveBerth_frame rfl) (Frame.after (Frame.mono State.closeLoops_frame rfl) (Frame.after (Frame.mono State.modBerth_frame rfl) (Frame.after (Frame.mono State.applyMove_frame rfl) (Frame.after (Frame.mono State.applyLoads_frame rfl) (Frame.ite (Frame.after (Frame.mono State.timeDump_frame rfl) (Frame.after (Frame.mono State.judgeDump_frame rfl) (Frame.after (State.put_frame F.BERTH_STAT_COH_LIM_part rfl) (Frame.mono State.latchDump_frame rfl)))) (Frame.after (State.put_frame F.BERTH_STAT_COH_LIM_part rfl) (Frame.mono State.latchDump_frame rfl)))))))) (Frame.after (Frame.mono State.modBerth_frame rfl) (Frame.after (Frame.mono State.applyMove_frame rfl) (Frame.after (Frame.mono State.applyLoads_frame rfl) (Frame.ite (Frame.after (Frame.mono State.timeDump_frame rfl) (Frame.after (Frame.mono State.judgeDump_frame rfl) (Frame.after (State.put_frame F.BERTH_STAT_COH_LIM_part rfl) (Frame.mono State.latchDump_frame rfl)))) (Frame.after (State.put_frame F.BERTH_STAT_COH_LIM_part rfl) (Frame.mono State.latchDump_frame rfl)))))))))) (Frame.after (Frame.mono State.showBond_frame rfl) (Frame.after (Frame.mono State.modBerth_frame rfl) (Frame.ite (Frame.after (Frame.mono State.deriveBerth_frame rfl) (Frame.after (Frame.mono State.closeLoops_frame rfl) (Frame.after (Frame.mono State.modBerth_frame rfl) (Frame.after (Frame.mono State.applyMove_frame rfl) (Frame.after (Frame.mono State.applyLoads_frame rfl) (Frame.ite (Frame.after (Frame.mono State.timeDump_frame rfl) (Frame.after (Frame.mono State.judgeDump_frame rfl) (Frame.after (State.put_frame F.BERTH_STAT_COH_LIM_part rfl) (Frame.mono State.latchDump_frame rfl)))) (Frame.after (State.put_frame F.BERTH_STAT_COH_LIM_part rfl) (Frame.mono State.latchDump_frame rfl)))))))) (Frame.after (Frame.mono State.modBerth_frame rfl) (Frame.after (Frame.mono State.applyMove_frame rfl) (Frame.after (Frame.mono State.applyLoads_frame rfl) (Frame.ite (Frame.after (Frame.mono State.timeDump_frame rfl) (Frame.after (Frame.mono State.judgeDump_frame rfl) (Frame.after (State.put_frame F.BERTH_STAT_COH_LIM_part rfl) (Frame.mono State.latchDump_frame rfl)))) (Frame.after (State.put_frame F.BERTH_STAT_COH_LIM_part rfl) (Frame.mono State.latchDump_frame rfl))))))))))))))

theorem execBerthDump_frame {a0 a1 s t} (h : execBerthDump a0 a1 s = .next t) :
    Frame [.rPwr, .rMan, .rMemctl, .rPlan, .rLookout, .rBerth, .rSillage, .rMeasq, .rQuay, .free, .mem, .chk,
        .console, .manApp, .manSys, .power, .gnss] s t := by
  obtain rfl := Host.Outcome.next.inj h
  exact (Frame.mono State.dump_frame rfl)

theorem State.markStaged_frame {s a1 a2} : Frame [.rBerth] s (State.markStaged s a1 a2) := by
  unfold State.markStaged
  exact (Frame.after (Frame.mono State.reportLoads_frame rfl) (Frame.ite (State.put_frame F.BERTH_LOAD_LATE_part
      rfl) Frame.refl))

theorem State.stageInc_frame {s a1 a2 a3} : Frame [.rBerth, .gnss] s (State.stageInc s a1 a2 a3) := by
  unfold State.stageInc
  exact (Frame.after (Frame.mono State.markStaged_frame rfl) (Frame.mono State.modBerth_frame rfl))

theorem State.stageLoad_frame {s a1 a2} : Frame [.rBerth, .gnss] s (State.stageLoad s a1 a2) := by
  unfold State.stageLoad
  exact (Frame.after (Frame.mono State.markStaged_frame rfl) (Frame.mono State.modBerth_frame rfl))

theorem execBerthIncWrite_frame {a0 a1 a2 a3 s t} (h : execBerthIncWrite a0 a1 a2 a3 s = .next t) :
    Frame [.rBerth, .gnss] s t := by
  obtain rfl := Host.Outcome.next.inj h
  exact (State.guard_frame (Block.berth_sub rfl) (fun _ => (Frame.mono State.stageInc_frame rfl)))

theorem execBerthLoadCode_frame {a0 a1 s t} (h : execBerthLoadCode a0 a1 s = .next t) :
    Frame [.rBerth, .gnss] s t := by
  obtain rfl := Host.Outcome.next.inj h
  exact (State.guard_frame (Block.berth_sub rfl) (fun _ => (Frame.mono State.stageLoad_frame rfl)))

theorem execBerthLoadCarr_frame {a0 a1 s t} (h : execBerthLoadCarr a0 a1 s = .next t) :
    Frame [.rBerth, .gnss] s t := by
  obtain rfl := Host.Outcome.next.inj h
  exact (State.guard_frame (Block.berth_sub rfl) (fun _ => (Frame.mono State.stageLoad_frame rfl)))

theorem State.captureDump_frame {s n} : Frame [.rBerth, .busData] s (State.captureDump s n) := by
  unfold State.captureDump
  refine Frame.after (Frame.mono State.set_busData_frame rfl) (State.puts_frame fun c hc => ?_)
  rcases List.mem_append.mp hc with hc | hc
  · simp only [List.mem_cons, List.not_mem_nil, or_false] at hc
    rcases hc with rfl | rfl | rfl | rfl | rfl | rfl | rfl | rfl | rfl
    · rw [F.BERTH_DUMP_SEQ_part]; rfl
    · rw [F.BERTH_DUMP_EPOCH_part]; rfl
    · rw [F.BERTH_CODE_PHF_VALUE_part]; rfl
    · rw [F.BERTH_CODE_PHI_CHIP_part]; rfl
    · rw [F.BERTH_CODE_PHI_SEC_part]; rfl
    · rw [F.BERTH_CARR_PHF_VALUE_part]; rfl
    · rw [F.BERTH_CARR_CYC_VALUE_part]; rfl
    · rw [F.BERTH_SIDE_VE_RATIO_part]; rfl
    · rw [F.BERTH_SIDE_VL_RATIO_part]; rfl
  · obtain ⟨k, _, hk⟩ := List.mem_flatMap.mp hc
    simp only [List.mem_cons, List.not_mem_nil, or_false] at hk
    rcases hk with rfl | rfl
    · rw [F.BERTH_ACC_I_ACC_part]; rfl
    · rw [F.BERTH_ACC_Q_ACC_part]; rfl

theorem execBerthDumpRead_frame {a0 s t} (h : execBerthDumpRead a0 s = .next t) :
    Frame [.rBerth, .busData] s t := by
  obtain rfl := Host.Outcome.next.inj h
  exact (Frame.mono State.captureDump_frame rfl)

theorem execSidePeakCheck_frame {a0 s t} (h : execSidePeakCheck a0 s = .next t) :
    Frame [.rPwr, .rMan, .rMemctl, .rPlan, .rLookout, .rBerth, .rSillage, .rMeasq, .rQuay, .mem, .chk, .console,
        .manApp, .manSys, .power, .gnss] s t := by
  obtain rfl := Host.Outcome.next.inj h
  exact (Frame.ite Frame.refl (Frame.ite (Frame.after (State.put_frame F.BERTH_STAT_BOC_OK_part rfl) (Frame.mono
      State.modBerth_frame rfl)) (Frame.ite (Frame.after (Frame.mono State.refuseStart_frame rfl) (Frame.mono
      State.modBerth_frame rfl)) (Frame.ite (Frame.after (Frame.mono State.modBerth_frame rfl) (Frame.mono
      State.modBerth_frame rfl)) (Frame.mono State.modBerth_frame rfl)))))

theorem execPartnerStart_frame {a0 a1 s t} (h : execPartnerStart a0 a1 s = .next t) :
    Frame [.rBerth, .gnss] s t := by
  obtain rfl := Host.Outcome.next.inj h
  exact (by (first | (dsimp only; split) | split); exact (by (first | (dsimp only; split) | split); exact (Frame.ite (Frame.after (Frame.mono State.loadStart_frame rfl) (Frame.ite (State.put_frame F.BERTH_STAT_STATE_part rfl) (Frame.mono State.startBerth_frame rfl))) Frame.refl); exact Frame.refl); exact Frame.refl)

theorem execPartnerDwellEnd_frame {a0 a1 s t} (h : execPartnerDwellEnd a0 a1 s = .next t) :
    Frame [.rPwr, .rMan, .rMemctl, .rPlan, .rLookout, .rBerth, .rSillage, .rMeasq, .rQuay, .mem, .chk, .console,
        .manApp, .manSys, .power, .gnss] s t := by
  obtain rfl := Host.Outcome.next.inj h
  exact (by (first | (dsimp only; split) | split); exact (Frame.ite Frame.refl (by (first | (dsimp only; split) | split); exact (Frame.after (Frame.mono State.planState_frame rfl) (Frame.after (State.put_frame F.BERTH_STAT_STATE_part rfl) (Frame.mono State.modBerth_frame rfl))); exact (Frame.ite (Frame.mono State.modBerth_frame rfl) (Frame.mono State.refuseStart_frame rfl)))); exact Frame.refl)

theorem execLockLoss_frame {a0 s t} (h : execLockLoss a0 s = .next t) :
    Frame [.rPwr, .rMan, .rMemctl, .rPlan, .rLookout, .rBerth, .rSillage, .rMeasq, .rQuay, .mem, .chk, .console,
        .manApp, .manSys, .power, .gnss] s t := by
  obtain rfl := Host.Outcome.next.inj h
  exact (Frame.ite (Frame.mono State.loseLock_frame rfl) Frame.refl)

theorem execBerthQuery_frame {a0 a1 s t} (h : execBerthQuery a0 a1 s = .next t) :
    Frame [.rPwr, .rMan, .rMemctl, .rQuay, .mem, .chk, .console, .manApp, .manSys, .power] s t := by
  obtain rfl := Host.Outcome.next.inj h
  exact (State.run_frame rfl (fun _ => (Frame.after (Frame.mono State.ok_frame rfl) (Frame.mono State.reply_frame
      rfl))))

theorem execBerthSpacing_frame {a0 a1 a2 a3 s t} (h : execBerthSpacing a0 a1 a2 a3 s = .next t) :
    Frame [.rPwr, .rMan, .rMemctl, .rBerth, .rQuay, .mem, .chk, .console, .manApp, .manSys, .power, .gnss] s t := by
  obtain rfl := Host.Outcome.next.inj h
  exact (State.run_frame rfl (fun _ => (Frame.ite (Frame.mono State.er_frame rfl) (Frame.ite (Frame.after
      (Frame.mono State.ok_frame rfl) (Frame.after (Frame.mono State.markStaged_frame rfl) (Frame.mono
      State.modBerth_frame rfl))) (Frame.mono State.er_frame rfl)))))

theorem execBerthLoop_frame {a0 a1 a2 a3 a4 s t} (h : execBerthLoop a0 a1 a2 a3 a4 s = .next t) :
    Frame [.rPwr, .rMan, .rMemctl, .rBerth, .rQuay, .mem, .chk, .console, .manApp, .manSys, .power, .gnss] s t := by
  obtain rfl := Host.Outcome.next.inj h
  exact (State.run_frame rfl (fun _ => (Frame.ite (Frame.mono State.er_frame rfl) (Frame.ite (Frame.after
      (Frame.mono State.ok_frame rfl) (Frame.after (Frame.mono State.markStaged_frame rfl) (Frame.mono
      State.modBerth_frame rfl))) (Frame.mono State.er_frame rfl)))))

end Sys2Proof.Machine
end

