-- ==== Sys2Proof/Laws/FramePlan.lean ====
section
/-! SUPPORT. The frames of the operations and commands of Machine/Plan.lean: what each can change. -/

namespace Sys2Proof.Machine

theorem State.unbind_frame {s a1 a2} : Frame [.rPlan] s (State.unbind s a1 a2) := by
  unfold State.unbind
  exact (Frame.ite Frame.refl (State.put_frame F.PLAN_SLOT_A_STATE_part rfl))

theorem State.giveUp_frame {s a1 a2 a3} : Frame [.rPwr, .rMan, .rMemctl, .rPlan, .rLookout, .rBerth, .rSillage,
    .rMeasq, .rQuay, .mem, .chk, .console, .manApp, .manSys, .power, .gnss] s (State.giveUp s a1 a2 a3) := by
  unfold State.giveUp
  exact (Frame.ite (Frame.after (Frame.mono State.stopLanes_frame rfl) (Frame.after (Frame.mono
      State.modBerth_frame rfl) (State.put_frame F.PLAN_SLOT_A_STATE_part rfl))) (Frame.after (Frame.mono
      State.stopBerth_frame rfl) (State.put_frame F.PLAN_SLOT_A_STATE_part rfl)))

theorem State.releaseEntry_frame {s a1 a2} : Frame [.rPwr, .rMan, .rMemctl, .rPlan, .rLookout, .rBerth, .rSillage,
    .rMeasq, .rQuay, .mem, .chk, .console, .manApp, .manSys, .power, .gnss] s (State.releaseEntry s a1 a2) := by
  unfold State.releaseEntry
  exact (Frame.after (State.put_frame F.PLAN_SLOT_A_BERTH_part rfl) (Frame.ite (Frame.mono State.giveUp_frame rfl)
      (Frame.mono State.unbind_frame rfl)))

theorem State.emptySlot_frame {s a1} : Frame [.rPwr, .rMan, .rMemctl, .rPlan, .rLookout, .rBerth, .rSillage,
    .rMeasq, .rQuay, .mem, .chk, .console, .manApp, .manSys, .power, .gnss] s (State.emptySlot s a1) := by
  unfold State.emptySlot
  exact (Frame.after (State.puts_cons_frame F.PLAN_SLOT_SV_SYS_part rfl (State.puts_cons_frame
      F.PLAN_SLOT_SV_SVN_part rfl (State.puts_cons_frame F.PLAN_SLOT_SV_GLO_K_part rfl (State.puts_cons_frame
      F.PLAN_SLOT_SV_EL_part rfl (State.puts_cons_frame F.PLAN_SLOT_SV_AZ_part rfl State.puts_nil_frame)))))
      (Frame.foldl (fun _ _ => (Frame.after (State.put_frame F.PLAN_SLOT_A_SIG_part rfl) (Frame.mono
      State.releaseEntry_frame rfl))) _ _))

theorem State.fillSlot_frame {s a1 a2} : Frame [.rPwr, .rMan, .rMemctl, .rPlan, .rLookout, .rBerth, .rSillage,
    .rMeasq, .rQuay, .mem, .chk, .console, .manApp, .manSys, .power, .gnss] s (State.fillSlot s a1 a2) := by
  unfold State.fillSlot
  exact (Frame.after (State.putS_frame F.PLAN_SLOT_SV_EL_part rfl) (Frame.after (State.puts_cons_frame
      F.PLAN_SLOT_SV_SYS_part rfl (State.puts_cons_frame F.PLAN_SLOT_SV_SVN_part rfl (State.puts_cons_frame
      F.PLAN_SLOT_SV_GLO_K_part rfl (State.puts_cons_frame F.PLAN_SLOT_SV_AZ_part rfl State.puts_nil_frame))))
      (Frame.after (Frame.foldl (fun _ _ => (State.puts_cons_frame F.PLAN_SLOT_A_SIG_part rfl
      (State.puts_cons_frame F.PLAN_SLOT_A_BERTH_part rfl (State.puts_cons_frame F.PLAN_SLOT_A_STATE_part rfl
      State.puts_nil_frame)))) _ _) (Frame.foldl (fun _ _ => (Frame.ite Frame.refl (Frame.mono
      State.releaseEntry_frame rfl))) _ _))))

theorem State.bindEntry_frame {s a1 a2 a3 a4} : Frame [.rPwr, .rMan, .rMemctl, .rCrypto, .rPlan, .rLookout,
    .rBerth, .rSillage, .rMeasq, .rQuay, .mem, .chk, .console, .manApp, .manSys, .crypto, .power, .gnss, .mems] s
    (State.bindEntry s a1 a2 a3 a4) := by
  unfold State.bindEntry
  exact (Frame.ite (Frame.after (Frame.mono State.queueSearch_frame rfl) (Frame.after (Frame.mono
      State.enableBerth_frame rfl) (Frame.after (Frame.mono State.setSignal_frame rfl) (Frame.after
      (State.put_frame F.PLAN_SLOT_A_STATE_part rfl) (State.put_frame F.PLAN_SLOT_A_BERTH_part rfl)))))
      (Frame.after (Frame.mono State.enableBerth_frame rfl) (Frame.after (Frame.mono State.setSignal_frame rfl)
      (Frame.after (State.put_frame F.PLAN_SLOT_A_STATE_part rfl) (State.put_frame F.PLAN_SLOT_A_BERTH_part rfl)))))

theorem State.bindAll_frame {s l} : Frame [.rPwr, .rMan, .rMemctl, .rCrypto, .rPlan, .rLookout, .rBerth, .rSillage,
    .rMeasq, .rQuay, .mem, .chk, .console, .manApp, .manSys, .crypto, .power, .gnss, .mems] s (State.bindAll s l)
    := by
  induction l generalizing s with
  | nil => exact Frame.refl
  | cons c r ih =>
    obtain ⟨⟨i, j⟩, rank⟩ := c
    unfold State.bindAll
    refine Frame.ite ih ?_
    split
    · exact Frame.trans State.bindEntry_frame ih
    · refine Frame.ite ?_ ih
      dsimp only
      split
      · exact Frame.trans (Frame.trans (Frame.mono State.releaseEntry_frame rfl) State.bindEntry_frame) ih
      · exact ih

theorem State.rerank_frame {s} : Frame [.gnss] s (State.rerank s) := by
  unfold State.rerank
  exact (Frame.mono State.withGnss_frame rfl)

theorem State.requeue_frame {s} : Frame [.rLookout, .gnss] s (State.requeue s) := by
  unfold State.requeue
  exact (Frame.foldl (fun _ _ => (Frame.ite (Frame.after (Frame.mono State.queueSearch_frame rfl) (Frame.mono
      State.modBerth_frame rfl)) Frame.refl)) _ _)

theorem State.replan_frame {s a1} : Frame [.rPwr, .rMan, .rMemctl, .rCrypto, .rPlan, .rLookout, .rBerth, .rSillage,
    .rMeasq, .rQuay, .mem, .chk, .console, .manApp, .manSys, .crypto, .power, .gnss, .mems] s (State.replan s a1)
    := by
  unfold State.replan
  exact (Frame.ite Frame.refl (Frame.ite (Frame.after (State.put_frame F.PLAN_STAT_DROPPED_part rfl) (Frame.after (Frame.mono State.requeue_frame rfl) (Frame.after (Frame.mono State.rerank_frame rfl) (Frame.after (Frame.mono State.bindAll_frame rfl) (Frame.after (Frame.foldl (fun _ _ => (by (first | (dsimp only; split) | split); exact (Frame.mono State.fillSlot_frame rfl); exact Frame.refl)) _ _) (Frame.after (Frame.foldl (fun _ _ => (Frame.mono State.emptySlot_frame rfl)) _ _) (Frame.mono State.withGnss_frame rfl))))))) (Frame.after (Frame.mono State.raise0_frame rfl) (Frame.after (State.put_frame F.PLAN_STAT_DROPPED_part rfl) (Frame.after (Frame.mono State.requeue_frame rfl) (Frame.after (Frame.mono State.rerank_frame rfl) (Frame.after (Frame.mono State.bindAll_frame rfl) (Frame.after (Frame.foldl (fun _ _ => (by (first | (dsimp only; split) | split); exact (Frame.mono State.fillSlot_frame rfl); exact Frame.refl)) _ _) (Frame.after (Frame.foldl (fun _ _ => (Frame.mono State.emptySlot_frame rfl)) _ _) (Frame.mono State.withGnss_frame rfl))))))))))

theorem execReplan_frame {a0 s t} (h : execReplan a0 s = .next t) :
    Frame [.rPwr, .rMan, .rMemctl, .rCrypto, .rPlan, .rLookout, .rBerth, .rSillage, .rMeasq, .rQuay, .mem, .chk,
        .console, .manApp, .manSys, .crypto, .power, .gnss, .mems] s t := by
  obtain rfl := Host.Outcome.next.inj h
  exact (Frame.mono State.replan_frame rfl)

theorem State.setEntry_frame {s a1 a2 a3 a4} : Frame [.rPwr, .rMan, .rMemctl, .rCrypto, .rPlan, .rLookout, .rBerth,
    .rSillage, .rMeasq, .rQuay, .mem, .chk, .console, .manApp, .manSys, .crypto, .power, .gnss, .mems] s
    (State.setEntry s a1 a2 a3 a4) := by
  unfold State.setEntry
  exact (Frame.ite Frame.refl (Frame.ite (Frame.after (Frame.mono State.bindEntry_frame rfl) (Frame.ite
      (Frame.after (Frame.foldl (fun _ _ => (Frame.mono State.releaseEntry_frame rfl)) _ _) (Frame.after
      (State.puts_cons_frame F.PLAN_SLOT_A_SIG_part rfl (State.puts_cons_frame F.PLAN_SLOT_A_BERTH_part rfl
      State.puts_nil_frame)) (Frame.ite (Frame.mono State.giveUp_frame rfl) Frame.refl))) (Frame.after
      (State.puts_cons_frame F.PLAN_SLOT_A_SIG_part rfl (State.puts_cons_frame F.PLAN_SLOT_A_BERTH_part rfl
      State.puts_nil_frame)) (Frame.ite (Frame.mono State.giveUp_frame rfl) Frame.refl)))) (Frame.after (Frame.mono
      State.unbind_frame rfl) (Frame.ite (Frame.after (Frame.foldl (fun _ _ => (Frame.mono State.releaseEntry_frame
      rfl)) _ _) (Frame.after (State.puts_cons_frame F.PLAN_SLOT_A_SIG_part rfl (State.puts_cons_frame
      F.PLAN_SLOT_A_BERTH_part rfl State.puts_nil_frame)) (Frame.ite (Frame.mono State.giveUp_frame rfl)
      Frame.refl))) (Frame.after (State.puts_cons_frame F.PLAN_SLOT_A_SIG_part rfl (State.puts_cons_frame
      F.PLAN_SLOT_A_BERTH_part rfl State.puts_nil_frame)) (Frame.ite (Frame.mono State.giveUp_frame rfl)
      Frame.refl))))))

theorem State.setSlot_frame {s a1} : Frame [.rPwr, .rMan, .rMemctl, .rCrypto, .rPlan, .rLookout, .rBerth,
    .rSillage, .rMeasq, .rQuay, .mem, .chk, .console, .manApp, .manSys, .crypto, .power, .gnss, .mems] s
    (State.setSlot s a1) := by
  unfold State.setSlot
  exact (Frame.foldl (fun _ _ => (Frame.ite (Frame.mono State.setEntry_frame rfl) (Frame.mono
      State.releaseEntry_frame rfl))) _ _)

theorem State.callReplan_frame {s} : Frame [.gnss] s (State.callReplan s) := by
  unfold State.callReplan
  exact (Frame.mono State.withGnss_frame rfl)

theorem execPlanSys_frame {a0 a1 a2 s t} (h : execPlanSys a0 a1 a2 s = .next t) :
    Frame [.rPwr, .rMan, .rMemctl, .rPlan, .rQuay, .mem, .chk, .console, .manApp, .manSys, .power, .gnss] s t := by
  obtain rfl := Host.Outcome.next.inj h
  exact (State.run_frame rfl (fun _ => (Frame.ite (Frame.mono State.er_frame rfl) (Frame.after (Frame.mono
      State.ok_frame rfl) (Frame.after (Frame.mono State.callReplan_frame rfl) (State.put_frame
      F.PLAN_CFG_SYS_EN_part rfl))))))

theorem execPlanElev_frame {a0 a1 s t} (h : execPlanElev a0 a1 s = .next t) :
    Frame [.rPwr, .rMan, .rMemctl, .rPlan, .rQuay, .mem, .chk, .console, .manApp, .manSys, .power, .gnss] s t := by
  obtain rfl := Host.Outcome.next.inj h
  exact (State.run_frame rfl (fun _ => (Frame.ite (Frame.after (Frame.mono State.ok_frame rfl) (Frame.after
      (Frame.mono State.callReplan_frame rfl) (State.put_frame F.PLAN_CFG_ELEV_part rfl))) (Frame.mono
      State.er_frame rfl))))

theorem execPlanQuery_frame {a0 a1 s t} (h : execPlanQuery a0 a1 s = .next t) :
    Frame [.rPwr, .rMan, .rMemctl, .rQuay, .mem, .chk, .console, .manApp, .manSys, .power] s t := by
  obtain rfl := Host.Outcome.next.inj h
  exact (State.run_frame rfl (fun _ => (by (first | (dsimp only; split) | split); exact (Frame.after (Frame.mono State.ok_frame rfl) (Frame.mono State.reply_frame rfl)); exact (Frame.after (Frame.mono State.ok_frame rfl) (Frame.mono State.replies_frame rfl)))))

theorem execPlanAssign_frame {a0 a1 a2 a3 s t} (h : execPlanAssign a0 a1 a2 a3 s = .next t) :
    Frame [.rPwr, .rMan, .rMemctl, .rCrypto, .rPlan, .rLookout, .rBerth, .rSillage, .rMeasq, .rQuay, .mem, .chk,
        .console, .manApp, .manSys, .crypto, .power, .gnss, .mems] s t := by
  obtain rfl := Host.Outcome.next.inj h
  exact (State.run_frame rfl (fun _ => (Frame.ite (Frame.mono State.er_frame rfl) (Frame.ite (Frame.mono State.er_frame rfl) (Frame.ite (Frame.mono State.er_frame rfl) (by (first | (dsimp only; split) | split); exact (Frame.mono State.er_frame rfl); exact (Frame.after (Frame.mono State.ok_frame rfl) (Frame.mono State.setEntry_frame rfl))))))))

end Sys2Proof.Machine
end

