-- ==== Sys2Proof/Laws/FrameLookout.lean ====
section
/-! SUPPORT. The frames of the operations and commands of Machine/Lookout.lean: what each can change. -/

namespace Sys2Proof.Machine

theorem State.failLane_frame {s a1} : Frame [.rLookout] s (State.failLane s a1) := by
  unfold State.failLane
  exact (State.puts_cons_frame F.LOOKOUT_LANE_CMD_STATE_part rfl (State.puts_cons_frame F.LOOKOUT_LANE_CMD_ERR_part
      rfl State.puts_nil_frame))

theorem State.runLane_frame {s a1 a2} : Frame [.rLookout, .gnss] s (State.runLane s a1 a2) := by
  unfold State.runLane
  exact (Frame.ite (Frame.mono State.failLane_frame rfl) (Frame.after (Frame.mono State.reportSearch_frame rfl)
      (Frame.after (Frame.mono State.withGnss_frame rfl) (State.puts_cons_frame F.LOOKOUT_LANE_CMD_STATE_part rfl
      (State.puts_cons_frame F.LOOKOUT_LANE_CMD_ERR_part rfl State.puts_nil_frame)))))

theorem State.writeLane_frame {s a1 a2 a3} : Frame [.rLookout] s (State.writeLane s a1 a2 a3) := by
  unfold State.writeLane
  exact (Frame.after (State.putS_frame F.LOOKOUT_LANE_DOP_CENTRE_part rfl) (State.puts_cons_frame
      F.LOOKOUT_LANE_SIG_SIG_part rfl (State.puts_cons_frame F.LOOKOUT_LANE_SIG_SVN_part rfl (State.puts_cons_frame
      F.LOOKOUT_LANE_SIG_GLO_K_part rfl (State.puts_cons_frame F.LOOKOUT_LANE_SIG_COH_part rfl
      (State.puts_cons_frame F.LOOKOUT_LANE_SIG_NONCOH_part rfl (State.puts_cons_frame F.LOOKOUT_LANE_DOP_STEP_part
      rfl (State.puts_cons_frame F.LOOKOUT_LANE_DOP_BINS_part rfl (State.puts_cons_frame
      F.LOOKOUT_LANE_PEAK_LTHRESH_part rfl (State.puts_cons_frame F.LOOKOUT_LANE_CMD_SRC_part rfl
      (State.puts_cons_frame F.LOOKOUT_LANE_CMD_HANDOFF_part rfl (State.puts_cons_frame
      F.LOOKOUT_LANE_CMD_BERTH_part rfl State.puts_nil_frame))))))))))))

theorem State.ageQueue_frame {s} : Frame [.gnss] s (State.ageQueue s) := by
  unfold State.ageQueue
  exact (Frame.mono State.withGnss_frame rfl)

theorem execLaneAssign_frame {a0 a1 a2 s t} (h : execLaneAssign a0 a1 a2 s = .next t) :
    Frame [.rLookout, .gnss] s t := by
  obtain rfl := Host.Outcome.next.inj h
  exact (Frame.ite Frame.refl (by (first | (dsimp only; split) | split); exact (Frame.mono State.ageQueue_frame rfl); exact (Frame.ite (Frame.after (Frame.mono State.failLane_frame rfl) (Frame.after (Frame.mono State.writeLane_frame rfl) (Frame.mono State.ageQueue_frame rfl))) (Frame.after (Frame.mono State.runLane_frame rfl) (Frame.after (Frame.mono State.withGnss_frame rfl) (Frame.after (Frame.mono State.writeLane_frame rfl) (Frame.mono State.ageQueue_frame rfl)))))))

theorem execBufferRecording_frame {a0 a1 s t} (h : execBufferRecording a0 a1 s = .next t) :
    Frame [.mem, .gnss] s t := by
  obtain rfl := Host.Outcome.next.inj h
  exact (Frame.ite Frame.refl (Frame.after (Frame.foldl (fun _ _ => (Frame.mono State.setBytes_frame rfl)) _ _)
      (Frame.mono State.withGnss_frame rfl)))

theorem State.startLane_frame {s a1} : Frame [.rLookout, .gnss] s (State.startLane s a1) := by
  unfold State.startLane
  exact (Frame.ite (State.put_frame F.LOOKOUT_LANE_CMD_STATE_part rfl) (Frame.mono State.runLane_frame rfl))

theorem execLaneStart_frame {a0 a1 s t} (h : execLaneStart a0 a1 s = .next t) :
    Frame [.rLookout, .gnss] s t := by
  obtain rfl := Host.Outcome.next.inj h
  exact (State.guardBusy_frame rfl (fun _ => (Frame.mono State.startLane_frame rfl)))

theorem State.leaveLane_frame {s a1 a2} : Frame [.rLookout, .gnss] s (State.leaveLane s a1 a2) := by
  unfold State.leaveLane
  exact (Frame.after (Frame.mono State.reportSearch_frame rfl) (Frame.after (Frame.mono State.withGnss_frame rfl)
      (State.put_frame F.LOOKOUT_LANE_CMD_STATE_part rfl)))

theorem execLaneAbort_frame {a0 a1 s t} (h : execLaneAbort a0 a1 s = .next t) :
    Frame [.rLookout, .gnss] s t := by
  obtain rfl := Host.Outcome.next.inj h
  exact (State.guard_frame rfl (fun _ => (Frame.ite (Frame.mono State.leaveLane_frame rfl) Frame.refl)))

theorem State.handOff_frame {s a1 a2 a3} : Frame [.rLookout, .gnss] s (State.handOff s a1 a2 a3) := by
  unfold State.handOff
  exact (Frame.ite (Frame.mono State.modBerth_frame rfl) (State.count_frame F.LOOKOUT_CNT_DROPPED_part rfl))

theorem State.searchOn_frame {s a1 a2} : Frame [.rLookout, .gnss] s (State.searchOn s a1 a2) := by
  unfold State.searchOn
  exact (by (first | (dsimp only; split) | split); exact (Frame.ite (Frame.after (Frame.mono State.runLane_frame rfl) (Frame.mono State.writeLane_frame rfl)) Frame.refl); exact (Frame.ite (Frame.mono State.queueSearch_frame rfl) Frame.refl))

theorem State.spendBudget_frame {s} : Frame [.gnss] s (State.spendBudget s) := by
  unfold State.spendBudget
  exact (Frame.mono State.withGnss_frame rfl)

theorem execLaneSearchEnd_frame {a0 a1 s t} (h : execLaneSearchEnd a0 a1 s = .next t) :
    Frame [.rLookout, .gnss] s t := by
  obtain rfl := Host.Outcome.next.inj h
  exact (Frame.ite Frame.refl (by (first | (dsimp only; split) | split); exact (Frame.ite (Frame.after (Frame.mono State.handOff_frame rfl) (Frame.after (State.putS_frame F.LOOKOUT_LANE_PEAK_DOPPLER_part rfl) (Frame.after (State.puts_cons_frame F.LOOKOUT_LANE_CODE_PHASE_part rfl (State.puts_cons_frame F.LOOKOUT_LANE_CODE_SEG_part rfl (State.puts_cons_frame F.LOOKOUT_LANE_PEAK_RATIO_part rfl State.puts_nil_frame))) (Frame.mono State.leaveLane_frame rfl)))) (Frame.after (State.putS_frame F.LOOKOUT_LANE_PEAK_DOPPLER_part rfl) (Frame.after (State.puts_cons_frame F.LOOKOUT_LANE_CODE_PHASE_part rfl (State.puts_cons_frame F.LOOKOUT_LANE_CODE_SEG_part rfl (State.puts_cons_frame F.LOOKOUT_LANE_PEAK_RATIO_part rfl State.puts_nil_frame))) (Frame.mono State.leaveLane_frame rfl)))); exact (Frame.ite (Frame.mono State.leaveLane_frame rfl) (Frame.after (Frame.mono State.searchOn_frame rfl) (Frame.mono State.leaveLane_frame rfl)))))

theorem State.readLaneCode_frame {s a1 a2} : Frame [.rLookout, .busData] s (State.readLaneCode s a1 a2) := by
  unfold State.readLaneCode
  exact (Frame.ite (Frame.after (State.put_frame F.LOOKOUT_LANE_CMD_STATE_part rfl) (Frame.mono
      State.set_busData_frame rfl)) (Frame.mono State.set_busData_frame rfl))

theorem execLaneCodeRead_frame {a0 a1 s t} (h : execLaneCodeRead a0 a1 s = .next t) :
    Frame [.rLookout, .busData] s t := by
  obtain rfl := Host.Outcome.next.inj h
  exact (Frame.mono State.readLaneCode_frame rfl)

theorem execLookoutSnapGo_frame {a0 s t} (h : execLookoutSnapGo a0 s = .next t) :
    Frame [.rTide, .rGnss, .rFront, .rLookout, .gnss] s t := by
  obtain rfl := Host.Outcome.next.inj h
  exact (State.guardBusy_frame rfl (fun _ => (Frame.mono State.startCapture_frame rfl)))

theorem execSnapshotCaptureEnd_frame {a0 a1 s t} (h : execSnapshotCaptureEnd a0 a1 s = .next t) :
    Frame [.rPwr, .rMan, .rMemctl, .rTide, .rGnss, .rFront, .rLookout, .rQuay, .mem, .chk, .console, .manApp,
        .manSys, .power, .gnss] s t := by
  obtain rfl := Host.Outcome.next.inj h
  exact (by (first | (dsimp only; split) | split); exact (Frame.after (Frame.mono State.raiseK_frame rfl) (Frame.after (Frame.mono State.deriveMode_frame rfl) (Frame.after (State.puts_cons_frame F.LOOKOUT_SNAP_BUSY_part rfl (State.puts_cons_frame F.LOOKOUT_SNAP_VALID_part rfl State.puts_nil_frame)) (Frame.after (Frame.mono State.withGnss_frame rfl) (Frame.after (Frame.mono State.setBytes_frame rfl) (Frame.mono State.setBytes_frame rfl)))))); exact Frame.refl)

theorem execLookoutSnapRelease_frame {a0 s t} (h : execLookoutSnapRelease a0 s = .next t) :
    Frame [.rLookout] s t := by
  obtain rfl := Host.Outcome.next.inj h
  exact (State.guard_frame rfl (fun _ => (State.put_frame F.LOOKOUT_SNAP_VALID_part rfl)))

end Sys2Proof.Machine
end

