-- ==== Sys2Proof/Laws/FrameGnss.lean ====
section
/-! SUPPORT. The frames of the operations and commands of Machine/Gnss.lean: what each can change. -/

namespace Sys2Proof.Machine

theorem State.requestMode_frame {s a1} : Frame [.rGnss] s (State.requestMode s a1) := by
  unfold State.requestMode
  exact (State.puts_cons_frame F.GNSS_MODE_MODE_part rfl (State.puts_cons_frame F.GNSS_MODE_MODE_PEND_part rfl
      State.puts_nil_frame))

theorem execGnssMode_frame {a0 a1 s t} (h : execGnssMode a0 a1 s = .next t) :
    Frame [.rPwr, .rMan, .rMemctl, .rGnss, .rQuay, .mem, .chk, .console, .manApp, .manSys, .power] s t := by
  obtain rfl := Host.Outcome.next.inj h
  exact (State.run_frame rfl (fun _ => (Frame.ite (Frame.mono State.er_frame rfl) (Frame.ite (Frame.after
      (Frame.mono State.er_frame rfl) (State.ledgerRefuse_frame rfl rfl)) (Frame.ite (Frame.mono State.er_frame
      rfl) (Frame.after (Frame.mono State.finish_frame rfl) (Frame.mono State.requestMode_frame rfl)))))))

theorem State.writeMode_frame {s a1 a2} : Frame [.rPwr, .rMan, .rMemctl, .rGnss, .rQuay, .mem, .chk, .console,
    .manApp, .manSys, .power] s (State.writeMode s a1 a2) := by
  unfold State.writeMode
  exact (Frame.ite Frame.refl (State.underLedger_frame (Frame.mono State.requestMode_frame rfl) rfl rfl))

theorem execGnssModeRegisterWrite_frame {a0 a1 s t} (h : execGnssModeRegisterWrite a0 a1 s = .next t) :
    Frame [.rPwr, .rMan, .rMemctl, .rGnss, .rQuay, .mem, .chk, .console, .manApp, .manSys, .power] s t := by
  obtain rfl := Host.Outcome.next.inj h
  exact (State.guard_frame rfl (fun _ => (Frame.mono State.writeMode_frame rfl)))

theorem State.applyRate_frame {s} : Frame [.gnss] s (State.applyRate s) := by
  unfold State.applyRate
  exact (Frame.mono State.withGnss_frame rfl)

theorem State.planNext_frame {s} : Frame [.rSillage] s (State.planNext s) := by
  unfold State.planNext
  exact (State.puts_cons_frame F.SILLAGE_NEXTS_SEC_part rfl (State.puts_cons_frame F.SILLAGE_NEXTF_FRAC_part rfl
      State.puts_nil_frame))

theorem State.modBerths_frame {s a1} : Frame [.gnss] s (State.modBerths s a1) := by
  unfold State.modBerths
  exact (Frame.foldl (fun _ _ => (Frame.mono State.modBerth_frame rfl)) _ _)

theorem State.enterMode_frame {s} : Frame [.rPwr, .rClk, .rMan, .rMemctl, .rTide, .rTp, .rRtc, .rUart, .rI2ct,
    .rSpi, .rLgt, .rAdc, .rTouch, .rCrypto, .rGpio, .rDma, .rGnss, .rFront, .rPlan, .rLookout, .rBerth, .rSillage,
    .rMeasq, .rQuay, .mem, .chk, .app, .console, .manApp, .manSys, .tide, .tp, .crypto, .power, .gnss, .lgt,
    .uarts, .i2ct, .spis, .dma, .adc, .touch, .mems] s (State.enterMode s) := by
  unfold State.enterMode
  exact (Frame.after (Frame.mono State.rfClocks_frame rfl) (Frame.after (Frame.mono State.deriveMode_frame rfl)
      (Frame.ite (Frame.after (Frame.mono State.rtcHeritage_frame rfl) (Frame.ite (Frame.after (Frame.mono
      State.gnssOffTide_frame rfl) (Frame.after (Frame.mono State.domainOff_frame rfl) (Frame.after (Frame.mono
      State.domainOff_frame rfl) (Frame.after (Frame.mono State.domainOff_frame rfl) (Frame.after (Frame.foldl (fun
      _ _ => (Frame.mono State.disableBerth_frame rfl)) _ _) (Frame.after (Frame.mono State.callReplan_frame rfl)
      (Frame.after (Frame.mono State.applyRate_frame rfl) (Frame.after (Frame.mono State.modBerths_frame rfl)
      (Frame.after (Frame.mono State.planNext_frame rfl) (Frame.after (State.put_frame F.LOOKOUT_SNAP_VALID_part
      rfl) (Frame.after (Frame.mono State.withGnss_frame rfl) (Frame.foldl (fun _ _ => (Frame.mono
      State.releaseBerth_frame rfl)) _ _)))))))))))) (Frame.ite (Frame.after (Frame.mono State.needDomain_frame
      rfl) (Frame.after (Frame.mono State.needDomain_frame rfl) (Frame.after (Frame.mono State.needDomain_frame
      rfl) (Frame.after (Frame.mono State.callReplan_frame rfl) (Frame.after (Frame.mono State.applyRate_frame rfl)
      (Frame.after (Frame.mono State.modBerths_frame rfl) (Frame.after (Frame.mono State.planNext_frame rfl)
      (Frame.after (State.put_frame F.LOOKOUT_SNAP_VALID_part rfl) (Frame.after (Frame.mono State.withGnss_frame
      rfl) (Frame.foldl (fun _ _ => (Frame.mono State.releaseBerth_frame rfl)) _ _)))))))))) (Frame.after
      (Frame.mono State.needDomain_frame rfl) (Frame.after (Frame.mono State.needDomain_frame rfl) (Frame.after
      (Frame.mono State.needDomain_frame rfl) (Frame.after (Frame.mono State.callReplan_frame rfl) (Frame.after
      (Frame.mono State.applyRate_frame rfl) (Frame.after (Frame.mono State.modBerths_frame rfl) (Frame.after
      (Frame.mono State.planNext_frame rfl) (Frame.after (State.put_frame F.LOOKOUT_SNAP_VALID_part rfl)
      (Frame.after (Frame.mono State.withGnss_frame rfl) (Frame.foldl (fun _ _ => (Frame.mono
      State.releaseBerth_frame rfl)) _ _))))))))))))) (Frame.ite (Frame.after (Frame.mono State.gnssOffTide_frame
      rfl) (Frame.after (Frame.mono State.domainOff_frame rfl) (Frame.after (Frame.mono State.domainOff_frame rfl)
      (Frame.after (Frame.mono State.domainOff_frame rfl) (Frame.after (Frame.foldl (fun _ _ => (Frame.mono
      State.disableBerth_frame rfl)) _ _) (Frame.after (Frame.mono State.callReplan_frame rfl) (Frame.after
      (Frame.mono State.applyRate_frame rfl) (Frame.after (Frame.mono State.modBerths_frame rfl) (Frame.after
      (Frame.mono State.planNext_frame rfl) (Frame.after (State.put_frame F.LOOKOUT_SNAP_VALID_part rfl)
      (Frame.after (Frame.mono State.withGnss_frame rfl) (Frame.foldl (fun _ _ => (Frame.mono
      State.releaseBerth_frame rfl)) _ _)))))))))))) (Frame.ite (Frame.after (Frame.mono State.needDomain_frame
      rfl) (Frame.after (Frame.mono State.needDomain_frame rfl) (Frame.after (Frame.mono State.needDomain_frame
      rfl) (Frame.after (Frame.mono State.callReplan_frame rfl) (Frame.after (Frame.mono State.applyRate_frame rfl)
      (Frame.after (Frame.mono State.modBerths_frame rfl) (Frame.after (Frame.mono State.planNext_frame rfl)
      (Frame.after (State.put_frame F.LOOKOUT_SNAP_VALID_part rfl) (Frame.after (Frame.mono State.withGnss_frame
      rfl) (Frame.foldl (fun _ _ => (Frame.mono State.releaseBerth_frame rfl)) _ _)))))))))) (Frame.after
      (Frame.mono State.needDomain_frame rfl) (Frame.after (Frame.mono State.needDomain_frame rfl) (Frame.after
      (Frame.mono State.needDomain_frame rfl) (Frame.after (Frame.mono State.callReplan_frame rfl) (Frame.after
      (Frame.mono State.applyRate_frame rfl) (Frame.after (Frame.mono State.modBerths_frame rfl) (Frame.after
      (Frame.mono State.planNext_frame rfl) (Frame.after (State.put_frame F.LOOKOUT_SNAP_VALID_part rfl)
      (Frame.after (Frame.mono State.withGnss_frame rfl) (Frame.foldl (fun _ _ => (Frame.mono
      State.releaseBerth_frame rfl)) _ _)))))))))))))))

theorem execGnssModeDone_frame {s t} (h : execGnssModeDone s = .next t) :
    Frame [.rPwr, .rClk, .rMan, .rMemctl, .rTide, .rTp, .rRtc, .rUart, .rI2ct, .rSpi, .rLgt, .rAdc, .rTouch,
        .rCrypto, .rGpio, .rDma, .rGnss, .rFront, .rPlan, .rLookout, .rBerth, .rSillage, .rMeasq, .rQuay, .mem,
        .chk, .app, .console, .manApp, .manSys, .tide, .tp, .crypto, .power, .gnss, .lgt, .uarts, .i2ct, .spis,
        .dma, .adc, .touch, .mems] s t := by
  obtain rfl := Host.Outcome.next.inj h
  exact (Frame.ite Frame.refl (Frame.after (Frame.mono State.set_console_frame rfl) (Frame.after (Frame.mono
      State.raiseK_frame rfl) (Frame.after (Frame.mono State.enterMode_frame rfl) (State.puts_cons_frame
      F.GNSS_MODE_ACT_MODE_part rfl (State.puts_cons_frame F.GNSS_MODE_MODE_PEND_part rfl State.puts_nil_frame))))))

theorem execGnssBurst_frame {a0 a1 a2 s t} (h : execGnssBurst a0 a1 a2 s = .next t) :
    Frame [.rPwr, .rMan, .rMemctl, .rTide, .rGnss, .rFront, .rSillage, .rQuay, .mem, .chk, .console, .manApp,
        .manSys, .power] s t := by
  obtain rfl := Host.Outcome.next.inj h
  exact (State.run_frame rfl (fun _ => (Frame.ite (Frame.mono State.er_frame rfl) (Frame.ite (Frame.after
      (Frame.mono State.ok_frame rfl) (Frame.after (Frame.mono State.planNext_frame rfl) (Frame.after (Frame.mono
      State.deriveMode_frame rfl) (State.puts_cons_frame F.GNSS_BURST_PERIOD_part rfl (State.puts_cons_frame
      F.GNSS_BURST_WINDOW_part rfl State.puts_nil_frame))))) (Frame.mono State.er_frame rfl)))))

theorem execGnssSnap_frame {a0 a1 s t} (h : execGnssSnap a0 a1 s = .next t) :
    Frame [.rPwr, .rMan, .rMemctl, .rTide, .rGnss, .rFront, .rLookout, .rQuay, .mem, .chk, .console, .manApp,
        .manSys, .power, .gnss] s t := by
  obtain rfl := Host.Outcome.next.inj h
  exact (State.run_frame rfl (fun _ => (Frame.ite (Frame.mono State.er_frame rfl) (Frame.ite (Frame.mono
      State.er_frame rfl) (Frame.after (Frame.mono State.ok_frame rfl) (Frame.after (Frame.mono
      State.startCapture_frame rfl) (State.put_frame F.LOOKOUT_SNAP_MS_part rfl)))))))

theorem execGnssAid_frame {a0 a1 s t} (h : execGnssAid a0 a1 s = .next t) :
    Frame [.rPwr, .rMan, .rMemctl, .rQuay, .mem, .chk, .console, .manApp, .manSys, .power, .gnss] s t := by
  obtain rfl := Host.Outcome.next.inj h
  exact (State.run_frame rfl (fun _ => (Frame.ite (Frame.mono State.er_frame rfl) (Frame.ite (Frame.mono
      State.ok_frame rfl) (Frame.after (Frame.mono State.ok_frame rfl) (Frame.mono State.withGnss_frame rfl))))))

theorem execGnssRestart_frame {a0 a1 s t} (h : execGnssRestart a0 a1 s = .next t) :
    Frame [.rPwr, .rMan, .rMemctl, .rQuay, .mem, .chk, .console, .manApp, .manSys, .power, .gnss] s t := by
  obtain rfl := Host.Outcome.next.inj h
  exact (State.run_frame rfl (fun _ => (Frame.after (Frame.mono State.ok_frame rfl) (Frame.mono
      State.withGnss_frame rfl))))

theorem State.reacquire_frame {s} : Frame [.rPwr, .rMan, .rMemctl, .rPlan, .rLookout, .rBerth, .rSillage, .rMeasq,
    .rQuay, .mem, .chk, .console, .manApp, .manSys, .power, .gnss] s (State.reacquire s) := by
  unfold State.reacquire
  exact (Frame.after (Frame.mono State.reportSearch_frame rfl) (Frame.after (Frame.mono State.requeue_frame rfl)
      (Frame.after (Frame.mono State.withGnss_frame rfl) (Frame.after (Frame.foldl (fun _ _ => (State.put_frame
      F.LOOKOUT_LANE_CMD_STATE_part rfl)) _ _) (Frame.foldl (fun _ _ => (Frame.after (Frame.mono
      State.modBerth_frame rfl) (Frame.mono State.refuseBonded_frame rfl))) _ _)))))

theorem State.forget_frame {s a1} : Frame [.rFront, .rBerth, .rSillage, .tide, .gnss] s (State.forget s a1) := by
  unfold State.forget
  exact (by (first | (dsimp only; split) | split); exact Frame.refl; exact (Frame.after (Frame.mono State.setPreds_frame rfl) (Frame.mono State.withGnss_frame rfl)); exact (Frame.after (State.puts_cons_frame F.FRONT_AGC_REF_part rfl (State.puts_cons_frame F.FRONT_AGC_REF_part rfl State.puts_nil_frame)) (Frame.after (Frame.mono State.setPreds_frame rfl) (Frame.after (Frame.mono State.withTide_frame rfl) (Frame.mono State.withGnss_frame rfl)))))

theorem State.clearOffsets_frame {s} : Frame [.rGnss] s (State.clearOffsets s) := State.puts_frame fun c hc => by
  obtain ⟨k, _, hk⟩ := List.mem_flatMap.mp hc
  simp only [List.mem_cons, List.not_mem_nil, or_false] at hk
  rcases hk with rfl | rfl | rfl
  · rw [F.GNSS_TOFS_OFS_part]; rfl
  · rw [F.GNSS_TOFS_SRC_part]; rfl
  · rw [F.GNSS_TOFS_NSAT_part]; rfl

theorem execRestartApply_frame {s t} (h : execRestartApply s = .next t) :
    Frame [.rPwr, .rMan, .rMemctl, .rGnss, .rFront, .rPlan, .rLookout, .rBerth, .rSillage, .rMeasq, .rQuay, .mem,
        .chk, .console, .manApp, .manSys, .tide, .power, .gnss] s t := by
  obtain rfl := Host.Outcome.next.inj h
  exact (Frame.ite Frame.refl (by (first | (dsimp only; split) | split); exact Frame.refl; exact (Frame.after (Frame.mono State.reacquire_frame rfl) (Frame.ite (Frame.after (Frame.mono State.forget_frame rfl) (Frame.mono State.withGnss_frame rfl)) (Frame.after (Frame.mono State.clearOffsets_frame rfl) (Frame.after (Frame.mono State.forget_frame rfl) (Frame.mono State.withGnss_frame rfl)))))))

theorem execGnssStatQuery_frame {a0 s t} (h : execGnssStatQuery a0 s = .next t) :
    Frame [.rPwr, .rMan, .rMemctl, .rQuay, .mem, .chk, .console, .manApp, .manSys, .power] s t := by
  obtain rfl := Host.Outcome.next.inj h
  exact (State.run_frame rfl (fun _ => (Frame.after (Frame.mono State.ok_frame rfl) (Frame.mono State.reply_frame
      rfl))))

theorem State.skipBurst_frame {s} : Frame [.rPwr, .rClk, .rMan, .rMemctl, .rTide, .rGnss, .rFront, .rSillage,
    .rQuay, .mem, .chk, .console, .manApp, .manSys, .power, .gnss] s (State.skipBurst s) := by
  unfold State.skipBurst
  exact (Frame.after (Frame.mono State.raise0_frame rfl) (Frame.after (Frame.mono State.rfClocks_frame rfl)
      (Frame.after (Frame.mono State.deriveMode_frame rfl) (Frame.after (State.put_frame F.SILLAGE_NEXTS_SEC_part
      rfl) (Frame.mono State.withGnss_frame rfl)))))

theorem execBurstWake_frame {s t} (h : execBurstWake s = .next t) :
    Frame [.rPwr, .rClk, .rMan, .rMemctl, .rTide, .rCrypto, .rGnss, .rFront, .rSillage, .rQuay, .mem, .chk,
        .console, .manApp, .manSys, .crypto, .power, .gnss, .mems] s t := by
  obtain rfl := Host.Outcome.next.inj h
  exact (Frame.ite Frame.refl (Frame.ite (Frame.mono State.skipBurst_frame rfl) (Frame.after (Frame.mono
      State.rfClocks_frame rfl) (Frame.after (Frame.mono State.deriveMode_frame rfl) (Frame.after (Frame.mono
      State.withGnss_frame rfl) (Frame.after (Frame.mono State.needDomain_frame rfl) (Frame.after (Frame.mono
      State.needDomain_frame rfl) (Frame.after (Frame.mono State.needDomain_frame rfl) (Frame.after (Frame.mono
      State.needDomain_frame rfl) (Frame.mono State.wake_frame rfl))))))))))

theorem State.seedAll_frame {s tw l} : Frame [.rPlan, .rBerth, .gnss] s (State.seedAll s tw l).1 := by
  unfold State.seedAll
  refine Frame.foldlBy Prod.fst (fun a n => ?_) l (s, 0)
  split
  · exact State.takeSeed_frame
  · exact Frame.refl

theorem State.recoverUnseeded_frame {s a1} : Frame [.rLookout, .gnss] s (State.recoverUnseeded s a1) := by
  unfold State.recoverUnseeded
  exact (Frame.ite (Frame.mono State.queueSearch_frame rfl) Frame.refl)

theorem State.windowHandoff_frame {s a1} : Frame [.rPwr, .rMan, .rMemctl, .rPlan, .rLookout, .rBerth, .rQuay, .mem,
    .chk, .console, .manApp, .manSys, .power, .gnss] s (State.windowHandoff s a1) := by
  unfold State.windowHandoff
  exact (by (first | (dsimp only; split) | split); exact (Frame.ite (Frame.mono State.takeHandoff_frame rfl) (Frame.mono State.dropHandoff_frame rfl)); exact Frame.refl)

theorem State.openWindow_frame {s a1} : Frame [.rPwr, .rHarv, .rMan, .rEvr, .rMemctl, .rTide, .rSpi, .rAdc,
    .rTouch, .rGpio, .rGnss, .rFront, .rLookout, .rSillage, .rQuay, .mem, .chk, .busData, .console, .manApp,
    .manSys, .rtc, .power, .harv, .gnss, .lgt, .spis, .dma, .adc, .touch] s (State.openWindow s a1) := by
  unfold State.openWindow
  exact (Frame.after (Frame.mono State.fire_frame rfl) (Frame.after (Frame.mono State.deriveMode_frame rfl)
      (Frame.after (Frame.mono State.spendBudget_frame rfl) (Frame.after (Frame.mono State.modBerths_frame rfl)
      (Frame.after (Frame.mono State.withGnss_frame rfl) (State.put_frame F.SILLAGE_NEXTS_SEC_part rfl))))))

theorem execBurstWindowStart_frame {a0 s t} (h : execBurstWindowStart a0 s = .next t) :
    Frame [.rPwr, .rClk, .rHarv, .rMan, .rEvr, .rMemctl, .rTide, .rSpi, .rAdc, .rTouch, .rGpio, .rGnss, .rFront,
        .rPlan, .rLookout, .rBerth, .rSillage, .rQuay, .mem, .chk, .busData, .console, .manApp, .manSys, .rtc,
        .power, .harv, .gnss, .lgt, .spis, .dma, .adc, .touch] s t := by
  obtain rfl := Host.Outcome.next.inj h
  exact (Frame.ite Frame.refl (by (first | (dsimp only; split) | split); exact (Frame.ite Frame.refl (Frame.mono State.skipBurst_frame rfl)); exact (Frame.ite Frame.refl (Frame.after (State.put_frame F.SILLAGE_STAT_SEEDED_part rfl) (Frame.after (Frame.foldl (fun _ _ => (Frame.mono State.recoverUnseeded_frame rfl)) _ _) (Frame.after (Frame.mono State.seedAll_frame rfl) (Frame.after (Frame.foldl (fun _ _ => (Frame.mono State.windowHandoff_frame rfl)) _ _) (Frame.mono State.openWindow_frame rfl))))))))

end Sys2Proof.Machine
end

