-- ==== Sys2Proof/Laws/FrameEpoch.lean ====
section
/-! SUPPORT. The frames of the operations and commands of Machine/Epoch.lean: what each can change. -/

namespace Sys2Proof.Machine

theorem State.endBases_frame {s a1} : Frame [.rBerth, .gnss] s (State.endBases s a1) := by
  unfold State.endBases
  exact (Frame.foldl (fun _ _ => (Frame.after (Frame.mono State.showBond_frame rfl) (Frame.mono
      State.modBerth_frame rfl))) _ _)

theorem State.learnRef_frame {s a1 a2 a3} : Frame [.rFront, .gnss] s (State.learnRef s a1 a2 a3) := by
  unfold State.learnRef
  exact (Frame.after (Frame.mono State.modBand_frame rfl) (State.put_frame F.FRONT_AGC_REF_part rfl))

theorem State.jamBand_frame {s a1 a2} : Frame [.rPwr, .rMan, .rMemctl, .rFront, .rQuay, .mem, .chk, .console,
    .manApp, .manSys, .power, .gnss] s (State.jamBand s a1 a2) := by
  unfold State.jamBand
  exact (Frame.ite (Frame.after (Frame.mono State.raiseK_frame rfl) (Frame.ite (State.puts_cons_frame
      F.FRONT_JAM_J_part rfl (State.puts_cons_frame F.FRONT_JAM_DEP_part rfl (State.puts_cons_frame
      F.FRONT_JAM_NACT_part rfl (State.puts_cons_frame F.FRONT_JAM_FLAT_part rfl (State.puts_cons_frame
      F.FRONT_JAM_ABOVE_part rfl State.puts_nil_frame))))) (Frame.ite (Frame.after (Frame.mono State.learnRef_frame
      rfl) (State.puts_cons_frame F.FRONT_JAM_J_part rfl (State.puts_cons_frame F.FRONT_JAM_DEP_part rfl
      (State.puts_cons_frame F.FRONT_JAM_NACT_part rfl (State.puts_cons_frame F.FRONT_JAM_FLAT_part rfl
      (State.puts_cons_frame F.FRONT_JAM_ABOVE_part rfl State.puts_nil_frame)))))) (Frame.after (Frame.mono
      State.learnRef_frame rfl) (State.puts_cons_frame F.FRONT_JAM_J_part rfl (State.puts_cons_frame
      F.FRONT_JAM_DEP_part rfl (State.puts_cons_frame F.FRONT_JAM_NACT_part rfl (State.puts_cons_frame
      F.FRONT_JAM_FLAT_part rfl (State.puts_cons_frame F.FRONT_JAM_ABOVE_part rfl State.puts_nil_frame)))))))))
      (Frame.ite (State.puts_cons_frame F.FRONT_JAM_J_part rfl (State.puts_cons_frame F.FRONT_JAM_DEP_part rfl
      (State.puts_cons_frame F.FRONT_JAM_NACT_part rfl (State.puts_cons_frame F.FRONT_JAM_FLAT_part rfl
      (State.puts_cons_frame F.FRONT_JAM_ABOVE_part rfl State.puts_nil_frame))))) (Frame.ite (Frame.after
      (Frame.mono State.learnRef_frame rfl) (State.puts_cons_frame F.FRONT_JAM_J_part rfl (State.puts_cons_frame
      F.FRONT_JAM_DEP_part rfl (State.puts_cons_frame F.FRONT_JAM_NACT_part rfl (State.puts_cons_frame
      F.FRONT_JAM_FLAT_part rfl (State.puts_cons_frame F.FRONT_JAM_ABOVE_part rfl State.puts_nil_frame))))))
      (Frame.after (Frame.mono State.learnRef_frame rfl) (State.puts_cons_frame F.FRONT_JAM_J_part rfl
      (State.puts_cons_frame F.FRONT_JAM_DEP_part rfl (State.puts_cons_frame F.FRONT_JAM_NACT_part rfl
      (State.puts_cons_frame F.FRONT_JAM_FLAT_part rfl (State.puts_cons_frame F.FRONT_JAM_ABOVE_part rfl
      State.puts_nil_frame)))))))))

theorem State.jamming_frame {s a1} : Frame [.rPwr, .rMan, .rMemctl, .rFront, .rQuay, .mem, .chk, .console, .manApp,
    .manSys, .power, .gnss] s (State.jamming s a1) := by
  unfold State.jamming
  exact (Frame.foldl (fun _ _ => (Frame.after (Frame.mono State.modBand_frame rfl) (Frame.ite (Frame.mono
      State.jamBand_frame rfl) (State.puts_cons_frame F.FRONT_JAM_J_part rfl (State.puts_cons_frame
      F.FRONT_JAM_DEP_part rfl (State.puts_cons_frame F.FRONT_JAM_NACT_part rfl (State.puts_cons_frame
      F.FRONT_JAM_FLAT_part rfl (State.puts_cons_frame F.FRONT_JAM_ABOVE_part rfl State.puts_nil_frame)))))))) _ _)

theorem State.holdBerths_frame {s} : Frame [.rPwr, .rClk, .rMan, .rMemctl, .rTide, .rGnss, .rFront, .rPlan,
    .rLookout, .rBerth, .rSillage, .rMeasq, .rQuay, .mem, .chk, .console, .manApp, .manSys, .power, .gnss] s
    (State.holdBerths s) := by
  unfold State.holdBerths
  exact (Frame.after (Frame.mono State.rfClocks_frame rfl) (Frame.after (Frame.mono State.deriveMode_frame rfl)
      (Frame.after (Frame.mono State.withGnss_frame rfl) (Frame.after (Frame.foldl (fun _ _ => (Frame.ite
      (Frame.mono State.atQuiet_frame rfl) Frame.refl)) _ _) (Frame.foldl (fun _ _ => (Frame.ite (State.put_frame
      F.BERTH_STAT_STATE_part rfl) Frame.refl)) _ _)))))

theorem State.epochInstant_frame {s a1 a2} : Frame [.rPwr, .rClk, .rMan, .rMemctl, .rTide, .rGnss, .rFront, .rPlan,
    .rLookout, .rBerth, .rSillage, .rMeasq, .rQuay, .free, .mem, .chk, .console, .manApp, .manSys, .tide, .rtc,
    .power, .gnss] s (State.epochInstant s a1 a2) := by
  unfold State.epochInstant
  exact (Frame.ite Frame.refl (Frame.ite (Frame.after (Frame.mono State.holdBerths_frame rfl) (Frame.after
      (Frame.mono State.jamming_frame rfl) (Frame.ite (Frame.after (Frame.mono State.withGnss_frame rfl)
      (Frame.after (Frame.mono State.measPut_frame rfl) (Frame.after (Frame.mono State.reportDepth_frame rfl)
      (Frame.after (Frame.mono State.endBases_frame rfl) (Frame.after (Frame.mono State.withGnss_frame rfl)
      (Frame.after (Frame.mono State.spendN_frame rfl) (Frame.mono State.passTo_frame rfl))))))) (Frame.after
      (Frame.mono State.measPut_frame rfl) (Frame.after (Frame.mono State.reportDepth_frame rfl) (Frame.after
      (Frame.mono State.endBases_frame rfl) (Frame.after (Frame.mono State.withGnss_frame rfl) (Frame.after
      (Frame.mono State.spendN_frame rfl) (Frame.mono State.passTo_frame rfl))))))))) (Frame.after (Frame.mono
      State.jamming_frame rfl) (Frame.ite (Frame.after (Frame.mono State.withGnss_frame rfl) (Frame.after
      (Frame.mono State.measPut_frame rfl) (Frame.after (Frame.mono State.reportDepth_frame rfl) (Frame.after
      (Frame.mono State.endBases_frame rfl) (Frame.after (Frame.mono State.withGnss_frame rfl) (Frame.after
      (Frame.mono State.spendN_frame rfl) (Frame.mono State.passTo_frame rfl))))))) (Frame.after (Frame.mono
      State.measPut_frame rfl) (Frame.after (Frame.mono State.reportDepth_frame rfl) (Frame.after (Frame.mono
      State.endBases_frame rfl) (Frame.after (Frame.mono State.withGnss_frame rfl) (Frame.after (Frame.mono
      State.spendN_frame rfl) (Frame.mono State.passTo_frame rfl))))))))))

theorem execEpochInstant_frame {a0 a1 s t} (h : execEpochInstant a0 a1 s = .next t) :
    Frame [.rPwr, .rClk, .rMan, .rMemctl, .rTide, .rGnss, .rFront, .rPlan, .rLookout, .rBerth, .rSillage, .rMeasq,
        .rQuay, .free, .mem, .chk, .console, .manApp, .manSys, .tide, .rtc, .power, .gnss] s t := by
  obtain rfl := Host.Outcome.next.inj h
  exact (Frame.mono State.epochInstant_frame rfl)

theorem State.closeBerth_frame {s a1 a2} : Frame [.rPwr, .rMan, .rMemctl, .rPlan, .rLookout, .rBerth, .rSillage,
    .rMeasq, .rQuay, .mem, .chk, .console, .manApp, .manSys, .power, .gnss] s (State.closeBerth s a1 a2) := by
  unfold State.closeBerth
  exact (Frame.ite (Frame.ite Frame.refl (Frame.ite (Frame.mono State.refuseStart_frame rfl) (Frame.ite (Frame.mono
      State.refuseStart_frame rfl) Frame.refl))) (Frame.after (Frame.mono State.retract_frame rfl) (Frame.ite
      Frame.refl (Frame.ite (Frame.mono State.refuseStart_frame rfl) (Frame.ite (Frame.mono State.refuseStart_frame
      rfl) Frame.refl)))))

theorem State.clearEntries_frame {s a1} : Frame [.rSillage, .gnss] s (State.clearEntries s a1) := by
  unfold State.clearEntries
  exact (Frame.mono State.modEntries_frame rfl)

theorem State.holdRecords_frame {s a1} : Frame [.rPwr, .rMan, .rMemctl, .rMeasq, .rQuay, .mem, .chk, .console,
    .manApp, .manSys, .power, .gnss] s (State.holdRecords s a1) := by
  unfold State.holdRecords
  exact (Frame.foldl (fun _ _ => (by (first | (dsimp only; split) | split); exact (Frame.mono State.measPut_frame rfl); exact Frame.refl)) _ _)

theorem State.epochClose_frame {s} : Frame [.rPwr, .rHarv, .rMan, .rEvr, .rMemctl, .rTide, .rSpi, .rAdc, .rTouch,
    .rGpio, .rGnss, .rFront, .rPlan, .rLookout, .rBerth, .rSillage, .rMeasq, .rQuay, .mem, .chk, .busData,
    .console, .manApp, .manSys, .rtc, .power, .harv, .gnss, .lgt, .spis, .dma, .adc, .touch] s (State.epochClose s)
    := by
  unfold State.epochClose
  exact (by (first | (dsimp only; split) | split); exact (Frame.after (Frame.mono State.fire_frame rfl) (Frame.after (Frame.mono State.raiseK_frame rfl) (Frame.after (Frame.mono State.withGnss_frame rfl) (Frame.after (State.put_frame F.MEASQ_STAT_LAST_part rfl) (Frame.after (Frame.mono State.measPut_frame rfl) (Frame.after (Frame.mono State.holdRecords_frame rfl) (Frame.after (Frame.mono State.clearEntries_frame rfl) (Frame.foldl (fun _ _ => (Frame.mono State.closeBerth_frame rfl)) _ _)))))))); exact Frame.refl)

theorem execEpochClose_frame {s t} (h : execEpochClose s = .next t) :
    Frame [.rPwr, .rHarv, .rMan, .rEvr, .rMemctl, .rTide, .rSpi, .rAdc, .rTouch, .rGpio, .rGnss, .rFront, .rPlan,
        .rLookout, .rBerth, .rSillage, .rMeasq, .rQuay, .mem, .chk, .busData, .console, .manApp, .manSys, .rtc,
        .power, .harv, .gnss, .lgt, .spis, .dma, .adc, .touch] s t := by
  obtain rfl := Host.Outcome.next.inj h
  exact (Frame.mono State.epochClose_frame rfl)

theorem State.clearStart_frame {s a1 a2} : Frame [.rPwr, .rMan, .rMemctl, .rBerth, .rSillage, .rMeasq, .rQuay,
    .mem, .chk, .console, .manApp, .manSys, .power, .gnss] s (State.clearStart s a1 a2) := by
  unfold State.clearStart
  exact (Frame.ite Frame.refl (Frame.ite (Frame.after (Frame.mono State.settleUnits_frame rfl) (Frame.after
      (Frame.mono State.showBond_frame rfl) (Frame.after (State.count_frame F.SILLAGE_CNT_CLEARED_part rfl)
      (Frame.mono State.modBerth_frame rfl)))) (Frame.after (Frame.mono State.modEntries_frame rfl) (Frame.after
      (Frame.mono State.settleRecord_frame rfl) (Frame.after (Frame.mono State.settleUnits_frame rfl) (Frame.after
      (Frame.mono State.showBond_frame rfl) (Frame.after (State.count_frame F.SILLAGE_CNT_CLEARED_part rfl)
      (Frame.mono State.modBerth_frame rfl))))))))

theorem execStartCleared_frame {a0 a1 s t} (h : execStartCleared a0 a1 s = .next t) :
    Frame [.rPwr, .rMan, .rMemctl, .rBerth, .rSillage, .rMeasq, .rQuay, .mem, .chk, .console, .manApp, .manSys,
        .power, .gnss] s t := by
  obtain rfl := Host.Outcome.next.inj h
  exact (Frame.mono State.clearStart_frame rfl)

theorem execStartDeadline_frame {a0 s t} (h : execStartDeadline a0 s = .next t) :
    Frame [.rPwr, .rMan, .rMemctl, .rTide, .rPlan, .rLookout, .rBerth, .rSillage, .rMeasq, .rQuay, .mem, .chk,
        .console, .manApp, .manSys, .tide, .rtc, .power, .gnss] s t := by
  obtain rfl := Host.Outcome.next.inj h
  exact (Frame.ite (Frame.after (Frame.mono State.refuseStart_frame rfl) (Frame.mono State.passTo_frame rfl))
      Frame.refl)

theorem execSillagePselWrite_frame {a0 a1 s t} (h : execSillagePselWrite a0 a1 s = .next t) :
    Frame [.rSillage] s t := by
  obtain rfl := Host.Outcome.next.inj h
  exact (State.guard_frame rfl (fun _ => (Frame.after (Frame.mono State.showPrediction_frame rfl) (State.put_frame
      F.SILLAGE_PSEL_BERTH_part rfl))))

end Sys2Proof.Machine
end

