-- ==== Sys2Proof/Laws/FrameNav.lean ====
section
/-! SUPPORT. The frames of the operations and commands of Machine/Nav.lean: what each can change. -/

namespace Sys2Proof.Machine

theorem State.bitBlocks_frame {s l k} : Frame [.rBitlog, .mem, .chk] s (State.bitBlocks s l k) := by
  induction k generalizing s l with
  | zero => exact Frame.refl
  | succ k ih =>
    exact Frame.trans (Frame.trans (Frame.mono State.writeBlock_frame rfl) (State.put_frame F.BITLOG_HEAD_IDX_part
        rfl)) ih

theorem State.bitPad_frame {s k} : Frame [.rBitlog, .mem, .chk] s (State.bitPad s k) := by
  induction k generalizing s with
  | zero => exact Frame.refl
  | succ k ih =>
    unfold State.bitPad
    generalize [0, 15 * 256 + 1, 0, 0] = l
    exact Frame.trans State.bitBlocks_frame ih

theorem State.dropUnits_frame {s a1 a2} : Frame [.gnss] s (State.dropUnits s a1 a2) := by
  unfold State.dropUnits
  exact (Frame.mono State.withGnss_frame rfl)

theorem State.logUnit_frame {s r} : Frame [.rPwr, .rMan, .rMemctl, .rBitlog, .rQuay, .mem, .chk, .console, .manApp,
    .manSys, .power, .gnss] s (State.logUnit s r).1 :=
  Frame.iteFst Frame.refl (Frame.iteFst (Frame.trans (Frame.trans (Frame.mono State.dropUnits_frame rfl)
      (Frame.mono State.bitPad_frame rfl)) (Frame.mono State.bitBlocks_frame rfl))
    (Frame.after (Frame.mono State.raiseK_frame rfl) (State.count_frame F.BITLOG_STAT_DROPPED_part rfl)))

theorem State.symbolFails_frame {s a1 a2 a3 a4 a5} : Frame [.rPwr, .rMan, .rMemctl, .rPlan, .rLookout, .rBerth,
    .rSillage, .rMeasq, .rQuay, .mem, .chk, .console, .manApp, .manSys, .power, .gnss] s (State.symbolFails s a1 a2
    a3 a4 a5) := by
  unfold State.symbolFails
  exact (Frame.ite (Frame.after (Frame.mono State.refuseStart_frame rfl) (Frame.after (Frame.mono
      State.raise0_frame rfl) (Frame.after (Frame.mono State.modBerth_frame rfl) (State.countBy_frame
      F.SILLAGE_CNT_BITFAIL_part rfl)))) (Frame.after (Frame.mono State.modBerth_frame rfl) (Frame.ite (Frame.after
      (Frame.mono State.modEntries_frame rfl) (Frame.after (Frame.mono State.raise0_frame rfl) (Frame.after
      (Frame.mono State.modBerth_frame rfl) (State.countBy_frame F.SILLAGE_CNT_BITFAIL_part rfl)))) (Frame.after
      (Frame.mono State.retract_frame rfl) (Frame.after (Frame.mono State.modEntries_frame rfl) (Frame.after
      (Frame.mono State.raise0_frame rfl) (Frame.after (Frame.mono State.modBerth_frame rfl) (State.countBy_frame
      F.SILLAGE_CNT_BITFAIL_part rfl))))))))

theorem State.checkSymbol_frame {s a1 a2 a3 a4} : Frame [.rPwr, .rMan, .rMemctl, .rPlan, .rLookout, .rBerth,
    .rSillage, .rMeasq, .rQuay, .mem, .chk, .console, .manApp, .manSys, .power, .gnss] s (State.checkSymbol s a1 a2
    a3 a4) := by
  unfold State.checkSymbol
  exact (by (first | (dsimp only; split) | split); exact (Frame.ite Frame.refl (Frame.ite (Frame.mono State.setBerth_frame rfl) (Frame.after (Frame.mono State.symbolFails_frame rfl) (Frame.mono State.setBerth_frame rfl)))); exact Frame.refl)

theorem State.decodeUnit_frame {s a1 a2} : Frame [.rPwr, .rMan, .rMemctl, .rPlan, .rLookout, .rBerth, .rSillage,
    .rMeasq, .rBitlog, .rQuay, .mem, .chk, .console, .manApp, .manSys, .power, .gnss] s (State.decodeUnit s a1 a2)
    := by
  unfold State.decodeUnit
  exact (Frame.ite Frame.refl (Frame.ite (Frame.after (Frame.mono State.symbolFails_frame rfl) (Frame.after
      (Frame.mono State.modBerth_frame rfl) (Frame.after (Frame.mono State.withGnss_frame rfl) (Frame.mono
      State.logUnit_frame rfl)))) (Frame.after (Frame.mono State.modBerth_frame rfl) (Frame.after (Frame.mono
      State.withGnss_frame rfl) (Frame.mono State.logUnit_frame rfl)))))

theorem State.settlePolarity_frame {s a1 a2} : Frame [.rBerth, .gnss] s (State.settlePolarity s a1 a2) := by
  unfold State.settlePolarity
  exact (Frame.ite Frame.refl (Frame.after (Frame.mono State.modBerth_frame rfl) (State.put_frame
      F.BERTH_STAT_HALF_part rfl)))

theorem State.findPreamble_frame {s a1 a2 a3} : Frame [.rBerth, .gnss] s (State.findPreamble s a1 a2 a3) := by
  unfold State.findPreamble
  exact (Frame.after (Frame.mono State.modBerth_frame rfl) (Frame.ite (Frame.mono State.settlePolarity_frame rfl)
      Frame.refl))

theorem State.pdDump_frame {s a1 a2 a3 a4 a5 a6} : Frame [.rPwr, .rMan, .rMemctl, .rPlan, .rLookout, .rBerth,
    .rSillage, .rMeasq, .rBitlog, .rQuay, .mem, .chk, .console, .manApp, .manSys, .power, .gnss] s (State.pdDump s
    a1 a2 a3 a4 a5 a6) := by
  unfold State.pdDump
  exact (Frame.ite Frame.refl (Frame.ite (Frame.ite (Frame.mono State.modBerth_frame rfl) Frame.refl) (by (first | (dsimp only; split) | split); exact (Frame.ite (Frame.after (Frame.mono State.findPreamble_frame rfl) (by (first | (dsimp only; split) | split); exact (Frame.ite (Frame.after (Frame.mono State.decodeUnit_frame rfl) (by (first | (dsimp only; split) | split); exact (Frame.after (Frame.mono State.checkSymbol_frame rfl) (Frame.ite (Frame.mono State.modBerth_frame rfl) Frame.refl)); exact (Frame.ite (Frame.mono State.modBerth_frame rfl) Frame.refl))) (by (first | (dsimp only; split) | split); exact (Frame.after (Frame.mono State.checkSymbol_frame rfl) (Frame.ite (Frame.mono State.modBerth_frame rfl) Frame.refl)); exact (Frame.ite (Frame.mono State.modBerth_frame rfl) Frame.refl))); exact (by (first | (dsimp only; split) | split); exact (Frame.after (Frame.mono State.checkSymbol_frame rfl) (Frame.ite (Frame.mono State.modBerth_frame rfl) Frame.refl)); exact (Frame.ite (Frame.mono State.modBerth_frame rfl) Frame.refl)))) (by (first | (dsimp only; split) | split); exact (Frame.ite (Frame.after (Frame.mono State.decodeUnit_frame rfl) (by (first | (dsimp only; split) | split); exact (Frame.after (Frame.mono State.checkSymbol_frame rfl) (Frame.ite (Frame.mono State.modBerth_frame rfl) Frame.refl)); exact (Frame.ite (Frame.mono State.modBerth_frame rfl) Frame.refl))) (by (first | (dsimp only; split) | split); exact (Frame.after (Frame.mono State.checkSymbol_frame rfl) (Frame.ite (Frame.mono State.modBerth_frame rfl) Frame.refl)); exact (Frame.ite (Frame.mono State.modBerth_frame rfl) Frame.refl))); exact (by (first | (dsimp only; split) | split); exact (Frame.after (Frame.mono State.checkSymbol_frame rfl) (Frame.ite (Frame.mono State.modBerth_frame rfl) Frame.refl)); exact (Frame.ite (Frame.mono State.modBerth_frame rfl) Frame.refl)))); exact (by (first | (dsimp only; split) | split); exact (Frame.ite (Frame.after (Frame.mono State.decodeUnit_frame rfl) (by (first | (dsimp only; split) | split); exact (Frame.after (Frame.mono State.checkSymbol_frame rfl) (Frame.ite (Frame.mono State.modBerth_frame rfl) Frame.refl)); exact (Frame.ite (Frame.mono State.modBerth_frame rfl) Frame.refl))) (by (first | (dsimp only; split) | split); exact (Frame.after (Frame.mono State.checkSymbol_frame rfl) (Frame.ite (Frame.mono State.modBerth_frame rfl) Frame.refl)); exact (Frame.ite (Frame.mono State.modBerth_frame rfl) Frame.refl))); exact (by (first | (dsimp only; split) | split); exact (Frame.after (Frame.mono State.checkSymbol_frame rfl) (Frame.ite (Frame.mono State.modBerth_frame rfl) Frame.refl)); exact (Frame.ite (Frame.mono State.modBerth_frame rfl) Frame.refl))))))

theorem execPdDump_frame {a0 a1 a2 a3 a4 a5 s t} (h : execPdDump a0 a1 a2 a3 a4 a5 s = .next t) :
    Frame [.rPwr, .rMan, .rMemctl, .rPlan, .rLookout, .rBerth, .rSillage, .rMeasq, .rBitlog, .rQuay, .mem, .chk,
        .console, .manApp, .manSys, .power, .gnss] s t := by
  obtain rfl := Host.Outcome.next.inj h
  exact (Frame.mono State.pdDump_frame rfl)

theorem State.writeTail_frame {s a1 a2} : Frame [.rMeasq, .rBitlog] s (State.writeTail s a1 a2) := by
  unfold State.writeTail
  exact (Frame.ite (Frame.ite (State.put_frame F.BITLOG_TAIL_IDX_part rfl) Frame.refl) (Frame.ite (State.put_frame
      F.MEASQ_TAIL_IDX_part rfl) Frame.refl))

theorem execMeasqTailWrite_frame {a0 s t} (h : execMeasqTailWrite a0 s = .next t) :
    Frame [.rMeasq, .rBitlog] s t := by
  obtain rfl := Host.Outcome.next.inj h
  exact (Frame.mono State.writeTail_frame rfl)

theorem execBitlogTailWrite_frame {a0 s t} (h : execBitlogTailWrite a0 s = .next t) :
    Frame [.rMeasq, .rBitlog] s t := by
  obtain rfl := Host.Outcome.next.inj h
  exact (Frame.mono State.writeTail_frame rfl)

theorem execRingReconfigure_frame {a0 s t} (h : execRingReconfigure a0 s = .next t) :
    Frame [.rPwr, .rMemctl, .rMeasq, .rBitlog, .mem, .chk, .gnss, .mems] s t := by
  obtain rfl := Host.Outcome.next.inj h
  exact (Frame.ite Frame.refl (Frame.ite (Frame.ite Frame.refl (Frame.after (State.puts_cons_frame
      F.BITLOG_HEAD_IDX_part rfl (State.puts_cons_frame F.BITLOG_TAIL_IDX_part rfl State.puts_nil_frame))
      (Frame.after (Frame.mono State.withGnss_frame rfl) (Frame.mono State.initRing_frame rfl)))) (Frame.ite
      Frame.refl (Frame.after (State.puts_cons_frame F.MEASQ_HEAD_IDX_part rfl (State.puts_cons_frame
      F.MEASQ_TAIL_IDX_part rfl State.puts_nil_frame)) (Frame.after (Frame.mono State.withGnss_frame rfl)
      (Frame.mono State.initRing_frame rfl))))))

theorem State.authenticate_frame {s a1} : Frame [.gnss] s (State.authenticate s a1) := by
  unfold State.authenticate
  exact (Frame.ite (Frame.mono State.withGnss_frame rfl) Frame.refl)

theorem State.checkTags_frame {s a1 a2 a3 a4 a5} : Frame [.rPwr, .rMan, .rMemctl, .rGnss, .rQuay, .mem, .chk,
    .console, .manApp, .manSys, .power, .gnss] s (State.checkTags s a1 a2 a3 a4 a5) := by
  unfold State.checkTags
  exact (Frame.ite Frame.refl (Frame.ite (Frame.after (Frame.mono State.withGnss_frame rfl) (by (first | (dsimp only; split) | split); exact (Frame.ite (State.puts_cons_frame F.GNSS_OSNMA_KEY_OK_part rfl (State.puts_cons_frame F.GNSS_OSNMA_KEY_P521_part rfl State.puts_nil_frame)) (Frame.after (Frame.mono State.raise0_frame rfl) (State.puts_cons_frame F.GNSS_OSNMA_KEY_OK_part rfl (State.puts_cons_frame F.GNSS_OSNMA_KEY_P521_part rfl State.puts_nil_frame)))); exact (State.puts_cons_frame F.GNSS_OSNMA_KEY_OK_part rfl (State.puts_cons_frame F.GNSS_OSNMA_KEY_P521_part rfl State.puts_nil_frame)); exact Frame.refl)) (Frame.ite (by (first | (dsimp only; split) | split); exact (Frame.ite (State.puts_cons_frame F.GNSS_OSNMA_KEY_OK_part rfl (State.puts_cons_frame F.GNSS_OSNMA_KEY_P521_part rfl State.puts_nil_frame)) (Frame.after (Frame.mono State.raise0_frame rfl) (State.puts_cons_frame F.GNSS_OSNMA_KEY_OK_part rfl (State.puts_cons_frame F.GNSS_OSNMA_KEY_P521_part rfl State.puts_nil_frame)))); exact (State.puts_cons_frame F.GNSS_OSNMA_KEY_OK_part rfl (State.puts_cons_frame F.GNSS_OSNMA_KEY_P521_part rfl State.puts_nil_frame)); exact Frame.refl) (Frame.ite (Frame.after (Frame.mono State.raise_frame rfl) (Frame.after (Frame.foldl (fun _ _ => (Frame.mono State.authenticate_frame rfl)) _ _) (Frame.after (State.flag_frame F.GNSS_OSNMA_CHAIN_OK_part rfl) (Frame.after (Frame.mono State.withGnss_frame rfl) (by (first | (dsimp only; split) | split); exact (Frame.ite (State.puts_cons_frame F.GNSS_OSNMA_KEY_OK_part rfl (State.puts_cons_frame F.GNSS_OSNMA_KEY_P521_part rfl State.puts_nil_frame)) (Frame.after (Frame.mono State.raise0_frame rfl) (State.puts_cons_frame F.GNSS_OSNMA_KEY_OK_part rfl (State.puts_cons_frame F.GNSS_OSNMA_KEY_P521_part rfl State.puts_nil_frame)))); exact (State.puts_cons_frame F.GNSS_OSNMA_KEY_OK_part rfl (State.puts_cons_frame F.GNSS_OSNMA_KEY_P521_part rfl State.puts_nil_frame)); exact Frame.refl))))) (Frame.after (Frame.mono State.raise0_frame rfl) (Frame.after (Frame.mono State.raise_frame rfl) (Frame.after (Frame.foldl (fun _ _ => (Frame.mono State.authenticate_frame rfl)) _ _) (Frame.after (State.flag_frame F.GNSS_OSNMA_CHAIN_OK_part rfl) (Frame.after (Frame.mono State.withGnss_frame rfl) (by (first | (dsimp only; split) | split); exact (Frame.ite (State.puts_cons_frame F.GNSS_OSNMA_KEY_OK_part rfl (State.puts_cons_frame F.GNSS_OSNMA_KEY_P521_part rfl State.puts_nil_frame)) (Frame.after (Frame.mono State.raise0_frame rfl) (State.puts_cons_frame F.GNSS_OSNMA_KEY_OK_part rfl (State.puts_cons_frame F.GNSS_OSNMA_KEY_P521_part rfl State.puts_nil_frame)))); exact (State.puts_cons_frame F.GNSS_OSNMA_KEY_OK_part rfl (State.puts_cons_frame F.GNSS_OSNMA_KEY_P521_part rfl State.puts_nil_frame)); exact Frame.refl))))))))))

theorem execOsnmaTagCheck_frame {a0 a1 a2 a3 a4 s t} (h : execOsnmaTagCheck a0 a1 a2 a3 a4 s = .next t) :
    Frame [.rPwr, .rMan, .rMemctl, .rGnss, .rQuay, .mem, .chk, .console, .manApp, .manSys, .power, .gnss] s t := by
  obtain rfl := Host.Outcome.next.inj h
  exact (Frame.mono State.checkTags_frame rfl)

theorem execOsnmaTagExpiry_frame {s t} (h : execOsnmaTagExpiry s = .next t) :
    Frame [.gnss] s t := by
  obtain rfl := Host.Outcome.next.inj h
  exact (Frame.mono State.withGnss_frame rfl)

theorem execBitsQuery_frame {a0 a1 a2 s t} (h : execBitsQuery a0 a1 a2 s = .next t) :
    Frame [.rPwr, .rMan, .rMemctl, .rQuay, .mem, .chk, .console, .manApp, .manSys, .power] s t := by
  obtain rfl := Host.Outcome.next.inj h
  exact (State.run_frame rfl (fun _ => (Frame.ite (Frame.mono State.er_frame rfl) (Frame.after (Frame.mono
      State.ok_frame rfl) (Frame.mono State.replies_frame rfl)))))

end Sys2Proof.Machine
end

