-- ==== Sys2Proof/Laws/FrameNmea.lean ====
section
/-! SUPPORT. The frames of the operations and commands of Machine/Nmea.lean: what each can change. -/

namespace Sys2Proof.Machine

theorem State.sendSentences_frame {s a1 a2} : Frame [.rPwr, .rMan, .rMemctl, .rQuay, .mem, .chk, .console, .manApp,
    .manSys, .power] s (State.sendSentences s a1 a2) := by
  unfold State.sendSentences
  exact (by (first | (dsimp only; split) | split); exact (Frame.foldl (fun _ _ => (Frame.mono State.emit_frame rfl)) _ _); exact (Frame.foldl (fun _ _ => (Frame.mono State.emit_frame rfl)) _ _); exact (Frame.ite (Frame.mono State.set_console_frame rfl) Frame.refl))

theorem State.nmeaOut_frame {s a1} : Frame [.rPwr, .rMan, .rMemctl, .rQuay, .mem, .chk, .console, .manApp, .manSys,
    .power, .gnss] s (State.nmeaOut s a1) := by
  unfold State.nmeaOut
  exact (Frame.ite Frame.refl (Frame.ite (Frame.mono State.withGnss_frame rfl) (Frame.after (Frame.mono
      State.sendSentences_frame rfl) (Frame.mono State.withGnss_frame rfl))))

theorem execNmeaOnOff_frame {a0 a1 a2 s t} (h : execNmeaOnOff a0 a1 a2 s = .next t) :
    Frame [.rPwr, .rMan, .rMemctl, .rQuay, .mem, .chk, .console, .manApp, .manSys, .power, .gnss] s t := by
  obtain rfl := Host.Outcome.next.inj h
  exact (State.run_frame rfl (fun _ => (Frame.after (Frame.mono State.ok_frame rfl) (Frame.mono
      State.withGnss_frame rfl))))

theorem execNmeaSet_frame {a0 a1 s t} (h : execNmeaSet a0 a1 s = .next t) :
    Frame [.rPwr, .rMan, .rMemctl, .rQuay, .mem, .chk, .console, .manApp, .manSys, .power, .gnss] s t := by
  obtain rfl := Host.Outcome.next.inj h
  exact (State.run_frame rfl (fun _ => (Frame.after (Frame.mono State.ok_frame rfl) (Frame.mono
      State.withGnss_frame rfl))))

theorem execNmeaRate_frame {a0 a1 s t} (h : execNmeaRate a0 a1 s = .next t) :
    Frame [.rPwr, .rMan, .rMemctl, .rQuay, .mem, .chk, .console, .manApp, .manSys, .power, .gnss] s t := by
  obtain rfl := Host.Outcome.next.inj h
  exact (State.run_frame rfl (fun _ => (Frame.ite (Frame.after (Frame.mono State.ok_frame rfl) (Frame.mono
      State.withGnss_frame rfl)) (Frame.mono State.er_frame rfl))))

end Sys2Proof.Machine
end

