-- ==== Sys2Proof/Laws/FrameSign.lean ====
section
/-! SUPPORT. The frames of the operations and commands of Machine/Sign.lean: what each can change. -/

namespace Sys2Proof.Machine

theorem State.wantEngine_frame {s} : Frame [.rPwr, .rMan, .rMemctl, .rCrypto, .rQuay, .mem, .chk, .console,
    .manApp, .manSys, .crypto, .power, .mems] s (State.wantEngine s) := by
  unfold State.wantEngine
  exact (Frame.after (Frame.mono State.deriveKey_frame rfl) (Frame.mono State.needDomain_frame rfl))

theorem State.queueFix_frame {s a1 a2 a3} : Frame [.rPwr, .rMan, .rMemctl, .rCrypto, .rQuay, .mem, .chk, .console,
    .manApp, .manSys, .crypto, .power, .mems] s (State.queueFix s a1 a2 a3) := by
  unfold State.queueFix
  exact (Frame.ite (Frame.after (Frame.mono State.raise_frame rfl) (State.count_frame F.CRYPTO_SFSTAT_DROPPED_part
      rfl)) (Frame.after (Frame.mono State.wantEngine_frame rfl) (Frame.mono State.setQueue_frame rfl)))

theorem State.autoSign_frame {s a1 a2} : Frame [.rPwr, .rMan, .rMemctl, .rCrypto, .rQuay, .mem, .chk, .console,
    .manApp, .manSys, .crypto, .power, .mems] s (State.autoSign s a1 a2) := by
  unfold State.autoSign
  exact (Frame.ite (Frame.ite (Frame.after (Frame.mono State.withCrypto_frame rfl) (Frame.mono
      State.withCrypto_frame rfl)) (Frame.ite (Frame.after (Frame.mono State.withCrypto_frame rfl) (Frame.mono
      State.withCrypto_frame rfl)) (Frame.after (Frame.mono State.queueFix_frame rfl) (Frame.after (Frame.mono
      State.withCrypto_frame rfl) (Frame.mono State.withCrypto_frame rfl))))) (Frame.mono State.withCrypto_frame rfl))

theorem State.signFails_frame {s a1 a2} : Frame [.rPwr, .rMan, .rMemctl, .rQuay, .mem, .chk, .console, .manApp,
    .manSys, .power] s (State.signFails s a1 a2) := by
  unfold State.signFails
  exact (by (first | (dsimp only; split) | split); exact Frame.refl; exact (Frame.after (Frame.mono State.withTag_frame rfl) (Frame.after (Frame.mono State.er_frame rfl) (Frame.mono State.withTag_frame rfl))); exact (Frame.after (Frame.mono State.withTag_frame rfl) (Frame.after (Frame.mono State.er_frame rfl) (Frame.mono State.withTag_frame rfl))))

theorem execSigningStart_frame {s t} (h : execSigningStart s = .next t) :
    Frame [.rPwr, .rMan, .rMemctl, .rCrypto, .rQuay, .mem, .chk, .console, .manApp, .manSys, .crypto, .power] s t
        := by
  obtain rfl := Host.Outcome.next.inj h
  exact (by (first | (dsimp only; split) | split); exact Frame.refl; exact (Frame.ite Frame.refl (Frame.ite (Frame.mono State.deriveKey_frame rfl) (Frame.ite (Frame.after (Frame.mono State.signFails_frame rfl) (Frame.after (Frame.mono State.raise_frame rfl) (Frame.after (State.count_frame F.CRYPTO_SFSTAT_DROPPED_part rfl) (Frame.mono State.setQueue_frame rfl)))) (Frame.ite (Frame.ite (State.ledgerRefuse_frame rfl rfl) (Frame.after (Frame.mono State.signFails_frame rfl) (Frame.after (Frame.mono State.setQueue_frame rfl) (State.ledgerRefuse_frame rfl rfl)))) (Frame.after (State.put_frame F.CRYPTO_KEY_BUSY_part rfl) (Frame.after (Frame.mono State.withCrypto_frame rfl) (Frame.mono State.setQueue_frame rfl))))))))

theorem execSigningDone_frame {s t} (h : execSigningDone s = .next t) :
    Frame [.rPwr, .rMan, .rMemctl, .rCrypto, .rQuay, .mem, .chk, .console, .manApp, .manSys, .crypto, .power] s t
        := by
  obtain rfl := Host.Outcome.next.inj h
  exact (by (first | (dsimp only; split) | split); exact Frame.refl; exact (by (first | (dsimp only; split) | split); exact (Frame.after (Frame.mono State.raise_frame rfl) (Frame.after (Frame.mono State.withTag_frame rfl) (Frame.after (Frame.mono State.ok_frame rfl) (Frame.after (Frame.mono State.replies_frame rfl) (Frame.after (Frame.mono State.withTag_frame rfl) (Frame.after (State.put_frame F.CRYPTO_KEY_BUSY_part rfl) (Frame.mono State.withCrypto_frame rfl))))))); exact (by (first | (dsimp only; split) | split); exact (Frame.after (Frame.mono State.withTag_frame rfl) (Frame.after (Frame.mono State.ok_frame rfl) (Frame.after (Frame.mono State.withTag_frame rfl) (Frame.after (Frame.mono State.raise_frame rfl) (Frame.after (Frame.mono State.withCrypto_frame rfl) (Frame.after (State.put_frame F.CRYPTO_SFSTAT_LAST_part rfl) (Frame.after (Frame.mono State.signRecord_frame rfl) (Frame.after (State.put_frame F.CRYPTO_KEY_BUSY_part rfl) (Frame.mono State.withCrypto_frame rfl))))))))); exact (Frame.after (Frame.mono State.raise_frame rfl) (Frame.after (Frame.mono State.withCrypto_frame rfl) (Frame.after (State.put_frame F.CRYPTO_SFSTAT_LAST_part rfl) (Frame.after (Frame.mono State.signRecord_frame rfl) (Frame.after (State.put_frame F.CRYPTO_KEY_BUSY_part rfl) (Frame.mono State.withCrypto_frame rfl)))))))))

theorem execKeyDerivationDone_frame {s t} (h : execKeyDerivationDone s = .next t) :
    Frame [.rPwr, .rMan, .rMemctl, .rCrypto, .rQuay, .mem, .chk, .console, .manApp, .manSys, .crypto, .power] s t
        := by
  obtain rfl := Host.Outcome.next.inj h
  exact (Frame.ite (Frame.after (Frame.mono State.raise0_frame rfl) (Frame.after (State.put_frame
      F.CRYPTO_KEY_READY_part rfl) (Frame.after (State.put_frame F.CRYPTO_KEY_BUSY_part rfl) (Frame.mono
      State.withCrypto_frame rfl)))) Frame.refl)

theorem execSignAttest_frame {a0 a1 s t} (h : execSignAttest a0 a1 s = .next t) :
    Frame [.rPwr, .rMan, .rMemctl, .rCrypto, .rQuay, .mem, .chk, .console, .manApp, .manSys, .crypto, .power,
        .mems] s t := by
  obtain rfl := Host.Outcome.next.inj h
  exact (State.run_frame rfl (fun _ => (Frame.ite (Frame.mono State.er_frame rfl) (Frame.ite (Frame.after
      (Frame.mono State.er_frame rfl) (State.ledgerRefuse_frame rfl rfl)) (Frame.ite (Frame.mono State.er_frame
      rfl) (Frame.ite (Frame.mono State.er_frame rfl) (Frame.after (Frame.mono State.wantEngine_frame rfl)
      (Frame.mono State.setQueue_frame rfl))))))))

theorem execSignFix_frame {a0 a1 s t} (h : execSignFix a0 a1 s = .next t) :
    Frame [.rPwr, .rMan, .rMemctl, .rCrypto, .rQuay, .mem, .chk, .console, .manApp, .manSys, .power] s t := by
  obtain rfl := Host.Outcome.next.inj h
  exact (State.run_frame rfl (fun _ => (Frame.after (Frame.mono State.ok_frame rfl) (Frame.after (Frame.mono
      State.deriveKeep_frame rfl) (State.flag_frame F.CRYPTO_SFCFG_AUTO_part rfl)))))

theorem execSignFixNow_frame {a0 s t} (h : execSignFixNow a0 s = .next t) :
    Frame [.rPwr, .rMan, .rMemctl, .rCrypto, .rQuay, .mem, .chk, .console, .manApp, .manSys, .crypto, .power,
        .mems] s t := by
  obtain rfl := Host.Outcome.next.inj h
  exact (State.run_frame rfl (fun _ => (by (first | (dsimp only; split) | split); exact (Frame.mono State.er_frame rfl); exact (Frame.ite (Frame.mono State.er_frame rfl) (Frame.ite (Frame.after (Frame.mono State.er_frame rfl) (Frame.mono State.queueFix_frame rfl)) (Frame.mono State.queueFix_frame rfl))))))

theorem execSignKeyQuery_frame {a0 s t} (h : execSignKeyQuery a0 s = .next t) :
    Frame [.rPwr, .rMan, .rMemctl, .rQuay, .mem, .chk, .console, .manApp, .manSys, .power] s t := by
  obtain rfl := Host.Outcome.next.inj h
  exact (State.run_frame rfl (fun _ => (Frame.after (Frame.mono State.ok_frame rfl) (Frame.mono State.replies_frame
      rfl))))

theorem execSysIdQuery_frame {a0 s t} (h : execSysIdQuery a0 s = .next t) :
    Frame [.rPwr, .rMan, .rMemctl, .rQuay, .mem, .chk, .console, .manApp, .manSys, .power] s t := by
  obtain rfl := Host.Outcome.next.inj h
  exact (State.run_frame rfl (fun _ => (Frame.after (Frame.mono State.ok_frame rfl) (Frame.mono State.reply_frame
      rfl))))

end Sys2Proof.Machine
end

