-- ==== Sys2Proof/Laws/FrameFix.lean ====
section
/-! SUPPORT. The frames of the operations and commands of Machine/Fix.lean: what each can change. -/

namespace Sys2Proof.Machine

theorem State.raiseExcluded_frame {s a1 a2} : Frame [.rPwr, .rMan, .rMemctl, .rQuay, .mem, .chk, .console, .manApp,
    .manSys, .power] s (State.raiseExcluded s a1 a2) := by
  unfold State.raiseExcluded
  exact (Frame.mono State.raiseK_frame rfl)

theorem State.showExcluded_frame {s a1} : Frame [.rGnss, .gnss] s (State.showExcluded s a1) := by
  unfold State.showExcluded
  exact (Frame.after (State.put_frame F.GNSS_CONS_NEXCL_part rfl) (Frame.after (Frame.mono State.withGnss_frame
      rfl) (Frame.foldl (fun _ _ => (State.put_frame F.GNSS_EXCL_BERTH_part rfl)) _ _)))

theorem State.monitor_frame {s a1 a2} : Frame [.rPwr, .rMan, .rMemctl, .rGnss, .rQuay, .mem, .chk, .console,
    .manApp, .manSys, .power, .gnss] s (State.monitor s a1 a2).1 := by
  unfold State.monitor
  exact (by (first | (dsimp only; split) | split); exact (Frame.mono State.showExcluded_frame rfl); exact (by first | (dsimp only; exact (Frame.ite (Frame.after (Frame.mono State.raise0_frame rfl) (Frame.after (Frame.foldl (fun _ _ => (Frame.mono State.raiseExcluded_frame rfl)) _ _) (Frame.mono State.showExcluded_frame rfl))) (Frame.after (Frame.foldl (fun _ _ => (Frame.mono State.raiseExcluded_frame rfl)) _ _) (Frame.mono State.showExcluded_frame rfl)))) | (split; exact (Frame.ite (Frame.after (Frame.mono State.raise0_frame rfl) (Frame.after (Frame.foldl (fun _ _ => (Frame.mono State.raiseExcluded_frame rfl)) _ _) (Frame.mono State.showExcluded_frame rfl))) (Frame.after (Frame.foldl (fun _ _ => (Frame.mono State.raiseExcluded_frame rfl)) _ _) (Frame.mono State.showExcluded_frame rfl))))))

theorem State.broadcastLeap_frame {s a1} : Frame [.rTide, .rTp, .tide, .tp] s (State.broadcastLeap s a1) := by
  unfold State.broadcastLeap
  exact (Frame.ite Frame.refl (by (first | (dsimp only; split) | split); exact (Frame.ite (by (first | (dsimp only; split) | split); exact (Frame.ite Frame.refl (Frame.after (Frame.mono State.withTide_frame rfl) (Frame.mono State.setLeap_frame rfl))); exact Frame.refl) (Frame.after (State.put_frame F.TIDE_LEAPAT_AT_part rfl) (Frame.after (State.put_frame F.TIDE_LEAP_PEND_part rfl) (Frame.after (State.putS_frame F.TIDE_LEAP_NEXT_part rfl) (by (first | (dsimp only; split) | split); exact (Frame.ite Frame.refl (Frame.after (Frame.mono State.withTide_frame rfl) (Frame.mono State.setLeap_frame rfl))); exact Frame.refl))))); exact (by (first | (dsimp only; split) | split); exact (Frame.ite Frame.refl (Frame.after (Frame.mono State.withTide_frame rfl) (Frame.mono State.setLeap_frame rfl))); exact Frame.refl)))

theorem State.writeOffsets_frame {s a1 a2} : Frame [.rGnss] s (State.writeOffsets s a1 a2) := by
  unfold State.writeOffsets
  exact (Frame.foldl (fun _ _ => (by first | (dsimp only; exact (State.puts_cons_frame F.GNSS_TOFS_OFS_part rfl (State.puts_cons_frame F.GNSS_TOFS_SRC_part rfl (State.puts_cons_frame F.GNSS_TOFS_NSAT_part rfl State.puts_nil_frame)))) | (split; exact (State.puts_cons_frame F.GNSS_TOFS_OFS_part rfl (State.puts_cons_frame F.GNSS_TOFS_SRC_part rfl (State.puts_cons_frame F.GNSS_TOFS_NSAT_part rfl State.puts_nil_frame)))))) _ _)

theorem State.rejectAid_frame {s} : Frame [.rPwr, .rMan, .rMemctl, .rLookout, .rQuay, .mem, .chk, .console,
    .manApp, .manSys, .power, .gnss] s (State.rejectAid s) := by
  unfold State.rejectAid
  exact (Frame.after (Frame.foldl (fun _ _ => (Frame.mono State.queueSearch_frame rfl)) _ _) (Frame.after
      (Frame.foldl (fun _ _ => (Frame.mono State.leaveLane_frame rfl)) _ _) (Frame.mono State.raise0_frame rfl)))

theorem State.checkAid_frame {s a1 a2} : Frame [.rPwr, .rMan, .rMemctl, .rLookout, .rQuay, .mem, .chk, .console,
    .manApp, .manSys, .power, .gnss] s (State.checkAid s a1 a2) := by
  unfold State.checkAid
  exact (by (first | (dsimp only; split) | split); exact (Frame.ite (Frame.after (Frame.mono State.rejectAid_frame rfl) (Frame.mono State.withGnss_frame rfl)) (Frame.mono State.withGnss_frame rfl)); exact Frame.refl)

theorem State.moveAnchor_frame {s a1} : Frame [.rPwr, .rMan, .rMemctl, .rLogs, .rQuay, .free, .mem, .chk, .console,
    .manApp, .manSys, .logs, .power] s (State.moveAnchor s a1) := by
  unfold State.moveAnchor
  exact (Frame.ite (Frame.after (Frame.mono State.raiseK_frame rfl) (Frame.after (Frame.mono
      State.systemRecord_frame rfl) (Frame.mono State.withLogs_frame rfl))) Frame.refl)

theorem State.predict_frame {s a1} : Frame [.rBerth, .rSillage, .gnss] s (State.predict s a1) := by
  unfold State.predict
  exact (Frame.after (Frame.mono State.setPreds_frame rfl) (State.put_frame F.SILLAGE_STAT_AGE_part rfl))

theorem State.writeFix_frame {s a1 a2} : Frame [.rPwr, .rHarv, .rMan, .rEvr, .rMemctl, .rLogs, .rTide, .rTp, .rSpi,
    .rAdc, .rTouch, .rCrypto, .rGpio, .rGnss, .rFront, .rLookout, .rBerth, .rSillage, .rMeasq, .rQuay, .free, .mem,
    .chk, .busData, .console, .manApp, .manSys, .tide, .tp, .rtc, .logs, .crypto, .power, .harv, .gnss, .lgt,
    .spis, .dma, .adc, .touch, .mems] s (State.writeFix s a1 a2) := by
  unfold State.writeFix
  exact (by (first | (dsimp only; split) | split); exact (Frame.after (Frame.mono State.predict_frame rfl) (Frame.after (Frame.mono State.nmeaOut_frame rfl) (Frame.after (Frame.mono State.fire_frame rfl) (Frame.after (Frame.mono State.raiseK_frame rfl) (Frame.ite (Frame.after (State.flag_frame F.GNSS_STAT_FIX_part rfl) (Frame.after (Frame.mono State.measPut_frame rfl) (Frame.after (Frame.mono State.monitor_frame rfl) (Frame.after (Frame.mono State.spend_frame rfl) (Frame.after (Frame.mono State.broadcastLeap_frame rfl) (Frame.after (Frame.mono State.applyRate_frame rfl) (Frame.mono State.withGnss_frame rfl))))))) (Frame.after (Frame.mono State.measure_frame rfl) (Frame.after (Frame.mono State.autoSign_frame rfl) (Frame.ite (Frame.after (Frame.mono State.moveAnchor_frame rfl) (Frame.ite (Frame.after (Frame.mono State.checkAid_frame rfl) (Frame.after (Frame.mono State.withGnss_frame rfl) (Frame.after (Frame.mono State.writeOffsets_frame rfl) (Frame.after (State.put_frame F.GNSS_OSNMA_NAUTH_part rfl) (Frame.after (State.put_frame F.GNSS_STAT_USED_part rfl) (Frame.after (State.flag_frame F.GNSS_STAT_FIX_part rfl) (Frame.after (Frame.mono State.measPut_frame rfl) (Frame.after (Frame.mono State.monitor_frame rfl) (Frame.after (Frame.mono State.spend_frame rfl) (Frame.after (Frame.mono State.broadcastLeap_frame rfl) (Frame.after (Frame.mono State.applyRate_frame rfl) (Frame.mono State.withGnss_frame rfl)))))))))))) (Frame.after (Frame.mono State.withGnss_frame rfl) (Frame.after (Frame.mono State.writeOffsets_frame rfl) (Frame.after (State.put_frame F.GNSS_OSNMA_NAUTH_part rfl) (Frame.after (State.put_frame F.GNSS_STAT_USED_part rfl) (Frame.after (State.flag_frame F.GNSS_STAT_FIX_part rfl) (Frame.after (Frame.mono State.measPut_frame rfl) (Frame.after (Frame.mono State.monitor_frame rfl) (Frame.after (Frame.mono State.spend_frame rfl) (Frame.after (Frame.mono State.broadcastLeap_frame rfl) (Frame.after (Frame.mono State.applyRate_frame rfl) (Frame.mono State.withGnss_frame rfl))))))))))))) (Frame.ite (Frame.after (Frame.mono State.checkAid_frame rfl) (Frame.after (Frame.mono State.withGnss_frame rfl) (Frame.after (Frame.mono State.writeOffsets_frame rfl) (Frame.after (State.put_frame F.GNSS_OSNMA_NAUTH_part rfl) (Frame.after (State.put_frame F.GNSS_STAT_USED_part rfl) (Frame.after (State.flag_frame F.GNSS_STAT_FIX_part rfl) (Frame.after (Frame.mono State.measPut_frame rfl) (Frame.after (Frame.mono State.monitor_frame rfl) (Frame.after (Frame.mono State.spend_frame rfl) (Frame.after (Frame.mono State.broadcastLeap_frame rfl) (Frame.after (Frame.mono State.applyRate_frame rfl) (Frame.mono State.withGnss_frame rfl)))))))))))) (Frame.after (Frame.mono State.withGnss_frame rfl) (Frame.after (Frame.mono State.writeOffsets_frame rfl) (Frame.after (State.put_frame F.GNSS_OSNMA_NAUTH_part rfl) (Frame.after (State.put_frame F.GNSS_STAT_USED_part rfl) (Frame.after (State.flag_frame F.GNSS_STAT_FIX_part rfl) (Frame.after (Frame.mono State.measPut_frame rfl) (Frame.after (Frame.mono State.monitor_frame rfl) (Frame.after (Frame.mono State.spend_frame rfl) (Frame.after (Frame.mono State.broadcastLeap_frame rfl) (Frame.after (Frame.mono State.applyRate_frame rfl) (Frame.mono State.withGnss_frame rfl)))))))))))))))))))); exact Frame.refl)

theorem execFixRecordWrite_frame {a0 a1 s t} (h : execFixRecordWrite a0 a1 s = .next t) :
    Frame [.rPwr, .rHarv, .rMan, .rEvr, .rMemctl, .rLogs, .rTide, .rTp, .rSpi, .rAdc, .rTouch, .rCrypto, .rGpio,
        .rGnss, .rFront, .rLookout, .rBerth, .rSillage, .rMeasq, .rQuay, .free, .mem, .chk, .busData, .console,
        .manApp, .manSys, .tide, .tp, .rtc, .logs, .crypto, .power, .harv, .gnss, .lgt, .spis, .dma, .adc, .touch,
        .mems] s t := by
  obtain rfl := Host.Outcome.next.inj h
  exact (Frame.mono State.writeFix_frame rfl)

theorem State.captureFix_frame {s} : Frame [.rMeasq, .busData] s (State.captureFix s) := by
  unfold State.captureFix
  refine Frame.after (Frame.mono State.set_busData_frame rfl) (Frame.after (State.puts_frame fun c hc => ?_)
    (State.put_frame F.MEASQ_FIX0_WORD_part rfl))
  obtain ⟨k, _, rfl⟩ := List.mem_map.mp hc
  rw [F.MEASQ_FIX_WORD_part]; rfl

theorem execMeasqFixRead_frame {s t} (h : execMeasqFixRead s = .next t) :
    Frame [.rMeasq, .busData] s t := by
  obtain rfl := Host.Outcome.next.inj h
  exact (Frame.mono State.captureFix_frame rfl)

theorem execGnssFixQuery_frame {a0 s t} (h : execGnssFixQuery a0 s = .next t) :
    Frame [.rPwr, .rMan, .rMemctl, .rQuay, .mem, .chk, .console, .manApp, .manSys, .power] s t := by
  obtain rfl := Host.Outcome.next.inj h
  exact (State.run_frame rfl (fun _ => (by (first | (dsimp only; split) | split); exact (Frame.after (Frame.mono State.ok_frame rfl) (Frame.mono State.reply_frame rfl)); exact (Frame.mono State.er_frame rfl))))

theorem execMeasQuery_frame {a0 s t} (h : execMeasQuery a0 s = .next t) :
    Frame [.rPwr, .rMan, .rMemctl, .rQuay, .mem, .chk, .console, .manApp, .manSys, .power] s t := by
  obtain rfl := Host.Outcome.next.inj h
  exact (State.run_frame rfl (fun _ => (Frame.after (Frame.mono State.ok_frame rfl) (Frame.mono State.replies_frame
      rfl))))

theorem execMeasBondQuery_frame {a0 s t} (h : execMeasBondQuery a0 s = .next t) :
    Frame [.rPwr, .rMan, .rMemctl, .rQuay, .mem, .chk, .console, .manApp, .manSys, .power] s t := by
  obtain rfl := Host.Outcome.next.inj h
  exact (State.run_frame rfl (fun _ => (Frame.after (Frame.mono State.ok_frame rfl) (Frame.mono State.replies_frame
      rfl))))

end Sys2Proof.Machine
end

