-- ==== Sys2Proof/Laws/FrameFront.lean ====
section
/-! SUPPORT. The frames of the operations and commands of Machine/Front.lean: what each can change. -/

namespace Sys2Proof.Machine

theorem execAntennaShort_frame {s t} (h : execAntennaShort s = .next t) :
    Frame [.rPwr, .rMan, .rMemctl, .rFront, .rQuay, .mem, .chk, .console, .manApp, .manSys, .power] s t := by
  obtain rfl := Host.Outcome.next.inj h
  exact (Frame.ite (Frame.after (Frame.mono State.raise0_frame rfl) (State.put_frame F.FRONT_CFG_BIAS_SHORT_part
      rfl)) Frame.refl)

theorem State.agcReport_frame {s a1 a2 a3} : Frame [.rFront, .gnss] s (State.agcReport s a1 a2 a3) := by
  unfold State.agcReport
  exact (Frame.after (Frame.mono State.modBand_frame rfl) (State.puts_cons_frame F.FRONT_AGC_GAIN_part rfl
      (State.puts_cons_frame F.FRONT_AGC_OCC_part rfl State.puts_nil_frame)))

theorem execFrontOverload_frame {a0 s t} (h : execFrontOverload a0 s = .next t) :
    Frame [.rPwr, .rMan, .rMemctl, .rFront, .rQuay, .mem, .chk, .console, .manApp, .manSys, .power] s t := by
  obtain rfl := Host.Outcome.next.inj h
  exact (Frame.ite Frame.refl (Frame.after (Frame.mono State.raiseK_frame rfl) (State.put_frame
      F.FRONT_AGC_OVLD_part rfl)))

theorem execOverloadClear_frame {a0 s t} (h : execOverloadClear a0 s = .next t) :
    Frame [.rFront] s t := by
  obtain rfl := Host.Outcome.next.inj h
  exact (Frame.ite Frame.refl (State.put_frame F.FRONT_AGC_OVLD_part rfl))

theorem State.applyNotches_frame {s a1} : Frame [.rFront, .gnss] s (State.applyNotches s a1) := by
  unfold State.applyNotches
  exact (Frame.after (Frame.mono State.withGnss_frame rfl) (Frame.foldl (fun _ _ => (by first | (dsimp only; exact (Frame.after (State.puts_cons_frame F.FRONT_NOTCH_FIX_part rfl (State.puts_cons_frame F.FRONT_NOTCH_STATE_part rfl State.puts_nil_frame)) (Frame.after (State.put_frame F.FRONT_NOTCH_WIDTH_part rfl) (State.putS_frame F.FRONT_NOTCH_CENTRE_part rfl)))) | (split; exact (Frame.after (State.puts_cons_frame F.FRONT_NOTCH_FIX_part rfl (State.puts_cons_frame F.FRONT_NOTCH_STATE_part rfl State.puts_nil_frame)) (Frame.after (State.put_frame F.FRONT_NOTCH_WIDTH_part rfl) (State.putS_frame F.FRONT_NOTCH_CENTRE_part rfl)))))) _ _))

theorem State.yieldNotches_frame {s a1} : Frame [.rFront] s (State.yieldNotches s a1) := by
  unfold State.yieldNotches
  exact (Frame.foldl (fun _ _ => (Frame.ite (State.put_frame F.FRONT_NOTCH_STATE_part rfl) Frame.refl)) _ _)

theorem State.seeTone_frame {s a1 a2} : Frame [.rPwr, .rMan, .rMemctl, .rFront, .rQuay, .mem, .chk, .console,
    .manApp, .manSys, .power, .gnss] s (State.seeTone s a1 a2) := by
  unfold State.seeTone
  exact (Frame.ite Frame.refl (by (first | (dsimp only; split) | split); exact (Frame.after (State.puts_cons_frame F.FRONT_NOTCH_STATE_part rfl (State.puts_cons_frame F.FRONT_NOTCH_WIDTH_part rfl State.puts_nil_frame)) (State.putS_frame F.FRONT_NOTCH_CENTRE_part rfl)); exact (Frame.ite (Frame.mono State.withGnss_frame rfl) (Frame.after (Frame.mono State.raise0_frame rfl) (Frame.after (Frame.mono State.withGnss_frame rfl) (Frame.mono State.withGnss_frame rfl))))))

theorem State.lockNotch_frame {s a1 a2 a3 a4} : Frame [.rFront, .gnss] s (State.lockNotch s a1 a2 a3 a4) := by
  unfold State.lockNotch
  exact (Frame.ite (Frame.after (Frame.mono State.modBand_frame rfl) (State.puts_cons_frame
      F.FRONT_NOTCH_WIDTH_part rfl (State.puts_cons_frame F.FRONT_NOTCH_STATE_part rfl State.puts_nil_frame)))
      Frame.refl)

theorem State.watchNotches_frame {s a1 a2} : Frame [.gnss] s (State.watchNotches s a1 a2) := by
  unfold State.watchNotches
  exact (Frame.mono State.modBand_frame rfl)

theorem execNotchSpectrum_frame {a0 a1 a2 a3 a4 a5 s t} (h : execNotchSpectrum a0 a1 a2 a3 a4 a5 s = .next t) :
    Frame [.rPwr, .rMan, .rMemctl, .rFront, .rQuay, .mem, .chk, .console, .manApp, .manSys, .power, .gnss] s t := by
  obtain rfl := Host.Outcome.next.inj h
  exact (Frame.ite Frame.refl (Frame.ite (Frame.after (Frame.mono State.yieldNotches_frame rfl) (Frame.after
      (Frame.foldl (fun _ _ => (Frame.mono State.seeTone_frame rfl)) _ _) (Frame.after (Frame.foldl (fun _ _ =>
      (Frame.mono State.lockNotch_frame rfl)) _ _) (Frame.after (Frame.mono State.watchNotches_frame rfl)
      (Frame.after (Frame.mono State.yieldNotches_frame rfl) (Frame.after (Frame.mono State.applyNotches_frame rfl)
      (Frame.mono State.agcReport_frame rfl))))))) (Frame.after (Frame.foldl (fun _ _ => (Frame.ite Frame.refl
      (State.put_frame F.FRONT_NOTCH_STATE_part rfl))) _ _) (Frame.after (Frame.mono State.watchNotches_frame rfl)
      (Frame.after (Frame.mono State.yieldNotches_frame rfl) (Frame.after (Frame.mono State.applyNotches_frame rfl)
      (Frame.mono State.agcReport_frame rfl)))))))

theorem execNotchRelease_frame {a0 a1 s t} (h : execNotchRelease a0 a1 s = .next t) :
    Frame [.rFront] s t := by
  obtain rfl := Host.Outcome.next.inj h
  exact (Frame.ite (State.put_frame F.FRONT_NOTCH_STATE_part rfl) Frame.refl)

end Sys2Proof.Machine
end

