-- ==== Sys2Proof/Laws/FrameRegWrite.lean ====
section
/-! SUPPORT. The frames of the operations and commands of Machine/RegWrite.lean: what each can change. -/

namespace Sys2Proof.Machine

/-- The sum of the strides that a family spans. -/
def familySpan (l : List (Nat × Nat)) : Nat := (l.map fun d => (d.1 - 1) * d.2).sum

theorem familyIndex_le {l : List (Nat × Nat)} {rel i : Nat} (h : familyIndex l rel = some i) : rel ≤ familySpan l
    := by
  induction l generalizing rel i with
  | nil =>
    unfold familyIndex at h
    split at h
    · omega
    · cases h
  | cons d r ih =>
    obtain ⟨c, st⟩ := d
    have hd := Nat.div_add_mod rel st
    have hs : familySpan ((c, st) :: r) = (c - 1) * st + familySpan r := by simp [familySpan]
    rw [hs]
    unfold familyIndex at h
    simp only at h
    split at h
    · rename_i hc
      have hm : st * (rel / st) ≤ (c - 1) * st := by
        rw [Nat.mul_comm]; exact Nat.mul_le_mul_right _ (by omega)
      cases r with
      | nil =>
        simp only at h
        split at h
        · omega
        · cases h
      | cons e r' =>
        have := ih h
        omega
    · cases h

theorem RegSpec.find_mem {ofs : Nat} {l : List RegSpec} {r : RegSpec} {i : Nat} (h : RegSpec.find ofs l = some (r,
    i)) :
    r ∈ l ∧ r.ofs ≤ ofs ∧ ofs ≤ r.ofs + familySpan r.dims := by
  induction l with
  | nil => cases h
  | cons x xs ih =>
    unfold RegSpec.find at h
    split at h
    · rename_i j hj
      cases h
      split at hj
      · rename_i hle
        have := familyIndex_le hj
        exact ⟨List.mem_cons_self, hle, by omega⟩
      · cases hj
    · have := ih h
      exact ⟨List.mem_cons_of_mem _ this.1, this.2⟩

/-- Every register of a table lies behind the common ones and within its block's window, and its fields within its
    word. -/
theorem BlockKind.regs_lie (b : Block) :
    b.kind.regs.all (fun r => decide (0x10 ≤ r.ofs) && decide (r.ofs + familySpan r.dims < b.size) &&
      r.fields.all fun f => decide (f.lo < 32)) = true := by
  cases b with
  | berth n =>
    exact (by decide +kernel : (BlockKind.regs .berth).all (fun r => decide (0x10 ≤ r.ofs) &&
      decide (r.ofs + familySpan r.dims < 0x100) && r.fields.all fun f => decide (f.lo < 32)) = true)
  | _ => decide +kernel

theorem regsCommon_lie :
    regsCommon.all (fun r => r.dims.isEmpty && (r.ofs == 0 || r.ofs == 4 || r.ofs == 8) && r.fields.all fun f =>
        decide (f.lo < 32)) =
      true := by decide +kernel

theorem regFields_lie {b : Block} {ofs : Nat} {f : FldSpec} (h : f ∈ regFields b ofs) : ofs < b.size ∧ f.lo < 32 := by
  unfold regFields regAt at h
  split at h
  · rename_i r i hr
    have hcase : RegSpec.find ofs regsCommon = some (r, i) ∨ RegSpec.find ofs b.kind.regs = some (r, i) := by
      cases hc : RegSpec.find ofs regsCommon with
      | none => rw [hc] at hr; exact Or.inr hr
      | some x => rw [hc] at hr; exact Or.inl hr
    rcases hcase with hc | hc
    · have hm := RegSpec.find_mem hc
      have := List.all_eq_true.mp regsCommon_lie r hm.1
      simp only [Bool.and_eq_true, Bool.or_eq_true, beq_iff_eq, List.all_eq_true, decide_eq_true_eq,
          List.isEmpty_iff] at this
      have hd : familySpan r.dims = 0 := by rw [this.1.1]; rfl
      have hs : 0x100 ≤ b.size := by unfold Block.size; split <;> decide
      exact ⟨by omega, this.2 f h⟩
    · have hm := RegSpec.find_mem hc
      have := List.all_eq_true.mp (BlockKind.regs_lie b) r hm.1
      simp only [Bool.and_eq_true, List.all_eq_true, decide_eq_true_eq] at this
      exact ⟨by omega, this.2 f h⟩
  · cases h

theorem FldSpec.part_at {b : Block} {ofs : Nat} {f : FldSpec} (h : f ∈ regFields b ofs) (h4 : ofs ≠ 4) :
    (f.at b ofs).part = b.part := by
  have hl := regFields_lie h
  have ha : (f.at b ofs).key / 32 = b.base + ofs := by show ((b.base + ofs) * 32 + f.lo) / 32 = _; omega
  show partOfAddr ((f.at b ofs).key / 32) = b.part
  rw [ha]
  exact Block.part_at (by omega) (by omega) (by omega)

theorem regFields_four (b : Block) :
    regFields b 4 = [⟨0, 1, .ro, .basic, .val 0, .any⟩, ⟨1, 1, .rw, .basic, .val 0, .any⟩,
     ⟨2, 1, .ro, .basic, .val 0, .any⟩, ⟨8, 1, .ro, .basic, .val 0, .any⟩, ⟨9, 1, .ro, .basic, .val 0, .any⟩,
     ⟨10, 1, .ro, .expert, .val 0, .any⟩] := rfl

/-- A fold over the fields of a register that puts fields of it alone. -/
theorem frame_fields {e : List Part} {b : Block} {ofs : Nat} {g : State → FldSpec → State} (s : State)
    (h : ∀ t f, f ∈ regFields b ofs → Frame e t (g t f)) : Frame e s ((regFields b ofs).foldl g s) := by
  revert h
  generalize regFields b ofs = l
  intro h
  induction l generalizing s with
  | nil => exact Frame.refl
  | cons x r ih => exact (h s x List.mem_cons_self).trans (ih _ fun t f hf => h t f (List.mem_cons_of_mem _ hf))

theorem State.writeField_frame {e s b ofs v f} (hb : Part.sub [b.part] e = true) (hf : f ∈ regFields b ofs) :
    Frame e s (State.writeField s b ofs v f) := by
  by_cases h4 : ofs = 4
  · subst h4
    unfold State.writeField
    simp only [bne_self_eq_false, Bool.false_and]
    exact Frame.refl
  · exact Frame.ite (State.put_frame (FldSpec.part_at hf h4) hb) Frame.refl

theorem State.writeClears_frame {e s b ofs v} (hb : Part.sub [b.part] e = true) : Frame e s (State.writeClears s b
    ofs v) := by
  unfold State.writeClears
  refine frame_fields s fun t f hf => ?_
  by_cases h4 : ofs = 4
  · subst h4
    rw [regFields_four] at hf
    have hn : (f.acc == Acc.w1c) = false := by
      simp only [List.mem_cons, List.not_mem_nil, or_false] at hf
      rcases hf with rfl | rfl | rfl | rfl | rfl | rfl <;> rfl
    rw [hn]
    exact Frame.refl
  · exact Frame.ite (State.put_frame (FldSpec.part_at hf h4) hb) Frame.refl

theorem State.writeFields_frame {e s b ofs side v} (hb : Part.sub [b.part] e = true) :
    Frame e s (State.writeFields s b ofs side v) :=
  have h1 : Frame e s ((regFields b ofs).foldl (fun t f => t.writeField b ofs v f) s) :=
    frame_fields s fun _ _ hf => State.writeField_frame hb hf
  have h2 := h1.trans (State.writeClears_frame (ofs := ofs) (v := v) hb)
  Frame.ite (h2.trans (State.deny_frame hb)) h2

theorem State.writeReg_frame {e s b ofs side v} (hb : Part.sub [b.part] e = true) : Frame e s (State.writeReg s b
    ofs side v) :=
  Frame.ite (State.deny_frame hb) (State.writeFields_frame hb)

end Sys2Proof.Machine
end

