-- ==== Sys2Proof/Laws/FrameLighters.lean ====
section
/-! SUPPORT. The frames of the operations and commands of Machine/Lighters.lean: what each can change. -/

namespace Sys2Proof.Machine

theorem State.lgtTo_frame {s a1 a2} : Frame [.rLgt] s (State.lgtTo s a1 a2) := by
  unfold State.lgtTo
  exact (State.puts_cons_frame F.LGT_STAT_STATE_part rfl (State.puts_cons_frame F.LGT_SUM_RUN_part rfl
      (State.puts_cons_frame F.LGT_SUM_STALLED_part rfl State.puts_nil_frame)))

theorem State.lgtStall_frame {s a1 a2} : Frame [.rLgt] s (State.lgtStall s a1 a2) := by
  unfold State.lgtStall
  exact (Frame.after (State.flag_frame F.LGT_STAT_WHY_part rfl) (Frame.mono State.lgtTo_frame rfl))

theorem State.lgtNext_frame {s a1} : Frame [.rLgt] s (State.lgtNext s a1) := by
  unfold State.lgtNext
  exact (State.put_frame F.LGT_STAT_PC_part rfl)

theorem State.lgtRunOp_frame {e s n op body} (h : ∀ w t, Frame e t (body w t)) : Frame e s (State.lgtRunOp s n op
    body) :=
  Frame.ite (h _ s) Frame.refl

theorem State.lgtFifos_frame {s a1 a2 a3} : Frame [.rPwr, .rMan, .rMemctl, .rLgt, .rQuay, .mem, .chk, .console,
    .manApp, .manSys, .power, .lgt] s (State.lgtFifos s a1 a2 a3) := by
  unfold State.lgtFifos
  exact (Frame.ite (Frame.after (Frame.mono State.raise0_frame rfl) (Frame.ite (Frame.after (Frame.mono
      State.raise0_frame rfl) (Frame.after (State.puts_cons_frame F.LGT_FIFO_TXLVL_part rfl (State.puts_cons_frame
      F.LGT_FIFO_RXLVL_part rfl State.puts_nil_frame)) (Frame.mono State.setEngine_frame rfl))) (Frame.after
      (State.puts_cons_frame F.LGT_FIFO_TXLVL_part rfl (State.puts_cons_frame F.LGT_FIFO_RXLVL_part rfl
      State.puts_nil_frame)) (Frame.mono State.setEngine_frame rfl)))) (Frame.ite (Frame.after (Frame.mono
      State.raise0_frame rfl) (Frame.after (State.puts_cons_frame F.LGT_FIFO_TXLVL_part rfl (State.puts_cons_frame
      F.LGT_FIFO_RXLVL_part rfl State.puts_nil_frame)) (Frame.mono State.setEngine_frame rfl))) (Frame.after
      (State.puts_cons_frame F.LGT_FIFO_TXLVL_part rfl (State.puts_cons_frame F.LGT_FIFO_RXLVL_part rfl
      State.puts_nil_frame)) (Frame.mono State.setEngine_frame rfl))))

theorem State.lgtLevel_frame {s a1 a2 a3} : Frame [.pads] s (State.lgtLevel s a1 a2 a3) := by
  unfold State.lgtLevel
  exact (Frame.ite (Frame.mono State.withPads_frame rfl) Frame.refl)

theorem State.lgtDir_frame {s a1 a2 a3} : Frame [.pads] s (State.lgtDir s a1 a2 a3) := by
  unfold State.lgtDir
  exact (Frame.ite (Frame.mono State.withPads_frame rfl) Frame.refl)

theorem State.lgtStep_frame {s a1 a2 a3} : Frame [.rLgt, .free, .pads] s (State.lgtStep s a1 a2 a3) := by
  unfold State.lgtStep
  exact (Frame.ite (Frame.ite (Frame.after (State.put_frame F.LGT_SH_SH_part rfl) (Frame.ite (Frame.after
      (Frame.mono State.spend_frame rfl) (Frame.ite Frame.refl (Frame.foldl (fun _ _ => (Frame.after (Frame.mono
      State.lgtLevel_frame rfl) (Frame.mono State.lgtDir_frame rfl))) _ _))) (Frame.ite Frame.refl (Frame.foldl
      (fun _ _ => (Frame.after (Frame.mono State.lgtLevel_frame rfl) (Frame.mono State.lgtDir_frame rfl))) _ _))))
      (Frame.after (State.put_frame F.LGT_STAT_SC_part rfl) (Frame.after (State.put_frame F.LGT_SH_SH_part rfl)
      (Frame.ite (Frame.after (Frame.mono State.spend_frame rfl) (Frame.ite Frame.refl (Frame.foldl (fun _ _ =>
      (Frame.after (Frame.mono State.lgtLevel_frame rfl) (Frame.mono State.lgtDir_frame rfl))) _ _))) (Frame.ite
      Frame.refl (Frame.foldl (fun _ _ => (Frame.after (Frame.mono State.lgtLevel_frame rfl) (Frame.mono
      State.lgtDir_frame rfl))) _ _)))))) (Frame.after (State.put_frame F.LGT_STAT_RC_part rfl) (Frame.ite
      (Frame.after (State.put_frame F.LGT_SH_SH_part rfl) (Frame.ite (Frame.after (Frame.mono State.spend_frame
      rfl) (Frame.ite Frame.refl (Frame.foldl (fun _ _ => (Frame.after (Frame.mono State.lgtLevel_frame rfl)
      (Frame.mono State.lgtDir_frame rfl))) _ _))) (Frame.ite Frame.refl (Frame.foldl (fun _ _ => (Frame.after
      (Frame.mono State.lgtLevel_frame rfl) (Frame.mono State.lgtDir_frame rfl))) _ _)))) (Frame.after
      (State.put_frame F.LGT_STAT_SC_part rfl) (Frame.after (State.put_frame F.LGT_SH_SH_part rfl) (Frame.ite
      (Frame.after (Frame.mono State.spend_frame rfl) (Frame.ite Frame.refl (Frame.foldl (fun _ _ => (Frame.after
      (Frame.mono State.lgtLevel_frame rfl) (Frame.mono State.lgtDir_frame rfl))) _ _))) (Frame.ite Frame.refl
      (Frame.foldl (fun _ _ => (Frame.after (Frame.mono State.lgtLevel_frame rfl) (Frame.mono State.lgtDir_frame
      rfl))) _ _))))))))

theorem State.lgtSteps_frame {s n way k l} : Frame [.rLgt, .free, .pads] s (State.lgtSteps s n way k l) := by
  induction k generalizing s l with
  | zero => exact Frame.refl
  | succ k ih =>
    cases l with
    | nil => exact Frame.trans State.lgtStep_frame ih
    | cons b r => exact Frame.trans State.lgtStep_frame ih

theorem State.lgtFill_frame {s n u} (h : State.lgtFill s n = some u) : Frame [.rPwr, .rMan, .rMemctl, .rLgt,
    .rQuay, .mem, .chk, .console, .manApp, .manSys, .power, .lgt] s u := by
  unfold State.lgtFill at h
  split at h
  · cases h
  · cases h
    exact Frame.after (State.puts_cons_frame F.LGT_SH_SH_part rfl (State.puts_cons_frame F.LGT_STAT_SC_part rfl
      State.puts_nil_frame)) State.lgtFifos_frame
theorem State.lgtDrain_frame {s n keep u} (h : State.lgtDrain s n keep = some u) : Frame [.rPwr, .rMan, .rMemctl,
    .rLgt, .rQuay, .mem, .chk, .console, .manApp, .manSys, .power, .lgt] s u := by
  unfold State.lgtDrain at h
  simp only at h
  split at h
  · cases h
  · cases h
    have h1 : Frame [.rPwr, .rMan, .rMemctl, .rLgt, .rQuay, .mem, .chk, .console, .manApp, .manSys, .power, .lgt] s
        _ :=
      Frame.after (State.put_frame (f := F.LGT_STAT_RC n) (v := 0) F.LGT_STAT_RC_part rfl)
        (State.lgtFifos_frame (a1 := n) (a2 := (s.engine n).tx) (a3 := (s.engine n).rx ++ [s.get (F.LGT_SH_SH n)]))
    exact Frame.ite h1 (Frame.after (State.puts_cons_frame F.LGT_SH_SH_part rfl (State.puts_cons_frame
        F.LGT_STAT_SC_part rfl
      State.puts_nil_frame)) h1)
theorem State.lgtAuto_frame {s n} : Frame [.rPwr, .rMan, .rMemctl, .rLgt, .rQuay, .mem, .chk, .console, .manApp,
    .manSys, .power, .lgt] s (State.lgtAuto s n).1 := by
  unfold State.lgtAuto
  have hd : ∀ (c : Prop) [Decidable c] t, (if c then State.lgtDrain s n true else some s) = some t →
      Frame [.rPwr, .rMan, .rMemctl, .rLgt, .rQuay, .mem, .chk, .console, .manApp, .manSys, .power, .lgt] s t := by
    intro c _ t h
    split at h
    · exact State.lgtDrain_frame h
    · cases h; exact Frame.refl
  dsimp only
  split
  · exact Frame.mono State.lgtStall_frame rfl
  · rename_i t h
    refine Frame.trans (hd _ t h) ?_
    split
    · split
      · exact Frame.mono State.lgtStall_frame rfl
      · rename_i u hu; exact State.lgtFill_frame hu
    · exact Frame.refl

theorem execLgtXfer_frame {a0 a1 s t} (h : execLgtXfer a0 a1 s = .next t) :
    Frame [.rPwr, .rMan, .rMemctl, .rLgt, .rQuay, .free, .mem, .chk, .console, .manApp, .manSys, .power, .pads,
        .lgt] s t := by
  obtain rfl := Host.Outcome.next.inj h
  exact (State.lgtRunOp_frame (fun _ _ => (Frame.ite (Frame.after (Frame.mono State.lgtNext_frame rfl) (Frame.ite
      (Frame.after (Frame.mono State.lgtLevel_frame rfl) (Frame.after (Frame.mono State.lgtDir_frame rfl)
      (Frame.after (Frame.mono State.lgtSteps_frame rfl) (Frame.mono State.lgtAuto_frame rfl)))) (Frame.after
      (Frame.mono State.lgtSteps_frame rfl) (Frame.mono State.lgtAuto_frame rfl)))) (Frame.mono State.lgtAuto_frame
      rfl))))

theorem execLgtNop_frame {a0 s t} (h : execLgtNop a0 s = .next t) :
    Frame [.rLgt] s t := by
  obtain rfl := Host.Outcome.next.inj h
  exact (State.lgtRunOp_frame (fun _ _ => (Frame.mono State.lgtNext_frame rfl)))

theorem execLgtFill_frame {n s t} (h : execLgtFill n s = .next t) : Frame [.rPwr, .rMan, .rMemctl, .rLgt, .rQuay,
    .mem, .chk, .console, .manApp, .manSys, .power, .lgt] s t := by
  cases h
  refine State.lgtRunOp_frame fun w t => Frame.ite (Frame.mono State.lgtNext_frame rfl) ?_
  split
  · rename_i u hu; exact Frame.after (Frame.mono State.lgtNext_frame rfl) (State.lgtFill_frame hu)
  · exact Frame.mono State.lgtStall_frame rfl

theorem execLgtDrain_frame {n s t} (h : execLgtDrain n s = .next t) : Frame [.rPwr, .rMan, .rMemctl, .rLgt, .rQuay,
    .mem, .chk, .console, .manApp, .manSys, .power, .lgt] s t := by
  cases h
  refine State.lgtRunOp_frame fun w t => Frame.ite (Frame.mono State.lgtNext_frame rfl) ?_
  split
  · rename_i u hu; exact Frame.after (Frame.mono State.lgtNext_frame rfl) (State.lgtDrain_frame hu)
  · exact Frame.mono State.lgtStall_frame rfl

theorem execLgtDrive_frame {a0 s t} (h : execLgtDrive a0 s = .next t) :
    Frame [.rLgt, .pads] s t := by
  obtain rfl := Host.Outcome.next.inj h
  exact (State.lgtRunOp_frame (fun _ _ => (Frame.after (Frame.mono State.lgtNext_frame rfl) (Frame.foldl (fun _ _ => (by (first | (dsimp only; split) | split); exact (Frame.mono State.lgtLevel_frame rfl); exact (Frame.mono State.lgtDir_frame rfl); exact (Frame.ite (Frame.mono State.lgtLevel_frame rfl) Frame.refl))) _ _))))

theorem State.lgtAwaitDone_frame {s a1 a2} : Frame [.rLgt, .lgt] s (State.lgtAwaitDone s a1 a2) := by
  unfold State.lgtAwaitDone
  exact (Frame.after (Frame.mono State.lgtNext_frame rfl) (Frame.after (Frame.mono State.lgtTo_frame rfl)
      (Frame.ite (Frame.mono State.setEngine_frame rfl) Frame.refl)))

theorem execLgtAwait_frame {a0 s t} (h : execLgtAwait a0 s = .next t) :
    Frame [.rLgt, .lgt] s t := by
  obtain rfl := Host.Outcome.next.inj h
  exact (State.lgtRunOp_frame (fun _ _ => (Frame.ite (Frame.mono State.lgtAwaitDone_frame rfl) (Frame.mono
      State.lgtTo_frame rfl))))

theorem execLgtAwaitEnd_frame {a0 s t} (h : execLgtAwaitEnd a0 s = .next t) :
    Frame [.rLgt, .lgt] s t := by
  obtain rfl := Host.Outcome.next.inj h
  exact (Frame.ite (Frame.mono State.lgtAwaitDone_frame rfl) Frame.refl)

theorem execLgtAwaitTimeout_frame {a0 s t} (h : execLgtAwaitTimeout a0 s = .next t) :
    Frame [.rLgt] s t := by
  obtain rfl := Host.Outcome.next.inj h
  exact (Frame.ite (Frame.after (Frame.mono State.lgtNext_frame rfl) (Frame.after (Frame.mono State.lgtTo_frame
      rfl) (State.put_frame F.LGT_STAT_TO_part rfl))) Frame.refl)

theorem execLgtPause_frame {a0 s t} (h : execLgtPause a0 s = .next t) :
    Frame [.rLgt] s t := by
  obtain rfl := Host.Outcome.next.inj h
  exact (State.lgtRunOp_frame (fun _ _ => (Frame.mono State.lgtNext_frame rfl)))

theorem execLgtSet_frame {a0 s t} (h : execLgtSet a0 s = .next t) :
    Frame [.rLgt] s t := by
  obtain rfl := Host.Outcome.next.inj h
  exact (State.lgtRunOp_frame (fun _ _ => (Frame.after (Frame.mono State.lgtNext_frame rfl) (by (first | (dsimp only; split) | split); exact (State.put_frame F.LGT_LC_LC_part rfl); exact (State.put_frame F.LGT_LC_TM_part rfl); exact (State.put_frame F.LGT_MR_MR_part rfl); exact (State.put_frame F.LGT_MR_MR_part rfl)))))

theorem execLgtLoop_frame {a0 s t} (h : execLgtLoop a0 s = .next t) :
    Frame [.rLgt] s t := by
  obtain rfl := Host.Outcome.next.inj h
  exact (State.lgtRunOp_frame (fun _ _ => (Frame.ite (Frame.after (State.put_frame F.LGT_STAT_PC_part rfl)
      (State.put_frame F.LGT_LC_LC_part rfl)) (Frame.mono State.lgtNext_frame rfl))))

theorem execLgtJump_frame {a0 s t} (h : execLgtJump a0 s = .next t) :
    Frame [.rLgt] s t := by
  obtain rfl := Host.Outcome.next.inj h
  exact (State.lgtRunOp_frame (fun _ _ => (Frame.ite (Frame.after (State.put_frame F.LGT_STAT_PC_part rfl)
      (Frame.ite (State.put_frame F.LGT_STAT_TO_part rfl) Frame.refl)) (Frame.mono State.lgtNext_frame rfl))))

theorem execLgtMove_frame {a0 s t} (h : execLgtMove a0 s = .next t) :
    Frame [.rLgt, .pads] s t := by
  obtain rfl := Host.Outcome.next.inj h
  exact (State.lgtRunOp_frame (fun _ _ => (Frame.after (Frame.mono State.lgtNext_frame rfl) (by (first | (dsimp only; split) | split); exact (State.puts_cons_frame F.LGT_SH_SH_part rfl (State.puts_cons_frame F.LGT_STAT_SC_part rfl State.puts_nil_frame)); exact (State.put_frame F.LGT_LC_LC_part rfl); exact (State.put_frame F.LGT_MR_MR_part rfl); exact (Frame.foldl (fun _ _ => (Frame.mono State.lgtLevel_frame rfl)) _ _); exact (Frame.foldl (fun _ _ => (Frame.mono State.lgtDir_frame rfl)) _ _)))))

theorem State.lgtIrq_frame {s a1 a2 a3} : Frame [.rPwr, .rMan, .rMemctl, .rQuay, .mem, .chk, .console, .manApp,
    .manSys, .power] s (State.lgtIrq s a1 a2 a3) := by
  unfold State.lgtIrq
  exact (Frame.mono State.raiseK_frame rfl)

theorem execLgtNote_frame {a0 s t} (h : execLgtNote a0 s = .next t) :
    Frame [.rPwr, .rHarv, .rMan, .rEvr, .rMemctl, .rTide, .rSpi, .rLgt, .rAdc, .rTouch, .rGpio, .rGnss, .rFront,
        .rLookout, .rQuay, .mem, .chk, .busData, .console, .manApp, .manSys, .rtc, .power, .harv, .gnss, .lgt,
        .spis, .dma, .adc, .touch] s t := by
  obtain rfl := Host.Outcome.next.inj h
  exact (State.lgtRunOp_frame (fun _ _ => (Frame.after (Frame.mono State.lgtNext_frame rfl) (Frame.ite (Frame.after
      (Frame.mono State.fire_frame rfl) (Frame.ite (Frame.mono State.lgtIrq_frame rfl) Frame.refl)) (Frame.ite
      (Frame.mono State.lgtIrq_frame rfl) Frame.refl)))))

theorem execLgtIllegal_frame {a0 s t} (h : execLgtIllegal a0 s = .next t) :
    Frame [.rPwr, .rMan, .rMemctl, .rLgt, .rQuay, .mem, .chk, .console, .manApp, .manSys, .power] s t := by
  obtain rfl := Host.Outcome.next.inj h
  exact (Frame.ite (Frame.after (Frame.mono State.lgtIrq_frame rfl) (Frame.after (State.put_frame
      F.LGT_STAT_ILL_part rfl) (Frame.mono State.lgtTo_frame rfl))) Frame.refl)

theorem execLgtStallEnd_frame {a0 s t} (h : execLgtStallEnd a0 s = .next t) :
    Frame [.rLgt] s t := by
  obtain rfl := Host.Outcome.next.inj h
  exact (Frame.ite (Frame.mono State.lgtTo_frame rfl) Frame.refl)

theorem State.lgtRun_frame {s a1 a2} : Frame [.rPwr, .rMan, .rMemctl, .rLgt, .rQuay, .mem, .chk, .console, .manApp,
    .manSys, .power] s (State.lgtRun s a1 a2) := by
  unfold State.lgtRun
  exact (Frame.ite Frame.refl (State.underLedger_frame (Frame.mono State.lgtTo_frame rfl) rfl rfl))

theorem State.lgtStop_frame {s a1} : Frame [.rLgt] s (State.lgtStop s a1) := by
  unfold State.lgtStop
  exact (Frame.mono State.lgtTo_frame rfl)

theorem State.lgtClear_frame {s a1} : Frame [.rLgt] s (State.lgtClear s a1) := by
  unfold State.lgtClear
  exact (State.puts_cons_frame F.LGT_SH_SH_part rfl (State.puts_cons_frame F.LGT_STAT_RC_part rfl
      (State.puts_cons_frame F.LGT_STAT_SC_part rfl State.puts_nil_frame)))

theorem execLgtCmdRun_frame {a0 a1 s t} (h : execLgtCmdRun a0 a1 s = .next t) :
    Frame [.rPwr, .rMan, .rMemctl, .rLogs, .rLgt, .rCrypto, .rQuay, .mem, .chk, .busData, .console, .manApp,
        .manSys, .logs, .crypto, .power, .mems] s t := by
  obtain rfl := Host.Outcome.next.inj h
  exact (State.access_frame rfl (fun _ => (State.guard_frame rfl (fun _ => (Frame.mono State.lgtRun_frame rfl)))))

theorem execLgtCmdStop_frame {a0 a1 s t} (h : execLgtCmdStop a0 a1 s = .next t) :
    Frame [.rPwr, .rMan, .rMemctl, .rLogs, .rLgt, .rCrypto, .rQuay, .mem, .chk, .busData, .console, .manApp,
        .manSys, .logs, .crypto, .power, .mems] s t := by
  obtain rfl := Host.Outcome.next.inj h
  exact (State.access_frame rfl (fun _ => (State.guard_frame rfl (fun _ => (Frame.mono State.lgtStop_frame rfl)))))

theorem execLgtCmdClrshift_frame {a0 a1 s t} (h : execLgtCmdClrshift a0 a1 s = .next t) :
    Frame [.rPwr, .rMan, .rMemctl, .rLogs, .rLgt, .rCrypto, .rQuay, .mem, .chk, .busData, .console, .manApp,
        .manSys, .logs, .crypto, .power, .mems] s t := by
  obtain rfl := Host.Outcome.next.inj h
  exact (State.access_frame rfl (fun _ => (State.guardBusy_frame rfl (fun _ => (Frame.mono State.lgtClear_frame
      rfl)))))

theorem execLgtCmdClrfifo_frame {a0 a1 s t} (h : execLgtCmdClrfifo a0 a1 s = .next t) :
    Frame [.rPwr, .rMan, .rMemctl, .rLogs, .rLgt, .rCrypto, .rQuay, .mem, .chk, .busData, .console, .manApp,
        .manSys, .logs, .crypto, .power, .lgt, .mems] s t := by
  obtain rfl := Host.Outcome.next.inj h
  exact (State.access_frame rfl (fun _ => (State.guard_frame rfl (fun _ => (Frame.mono State.lgtFifos_frame rfl)))))

theorem execLgtCmdSetpc_frame {a0 a1 s t} (h : execLgtCmdSetpc a0 a1 s = .next t) :
    Frame [.rPwr, .rMan, .rMemctl, .rLogs, .rLgt, .rCrypto, .rQuay, .mem, .chk, .busData, .console, .manApp,
        .manSys, .logs, .crypto, .power, .mems] s t := by
  obtain rfl := Host.Outcome.next.inj h
  exact (State.access_frame rfl (fun _ => (State.guardBusy_frame rfl (fun _ => (State.put_frame F.LGT_STAT_PC_part
      rfl)))))

theorem State.lgtPush_frame {s a1 a2} : Frame [.rPwr, .rMan, .rMemctl, .rLgt, .rQuay, .mem, .chk, .console,
    .manApp, .manSys, .power, .lgt] s (State.lgtPush s a1 a2) := by
  unfold State.lgtPush
  exact (Frame.ite (State.put_frame F.LGT_FIFO_TXOVF_part rfl) (Frame.mono State.lgtFifos_frame rfl))

theorem execLgtTxfWrite_frame {a0 a1 s t} (h : execLgtTxfWrite a0 a1 s = .next t) :
    Frame [.rPwr, .rMan, .rMemctl, .rLogs, .rLgt, .rCrypto, .rQuay, .mem, .chk, .busData, .console, .manApp,
        .manSys, .logs, .crypto, .power, .lgt, .mems] s t := by
  obtain rfl := Host.Outcome.next.inj h
  exact (State.access_frame rfl (fun _ => (Frame.mono State.lgtPush_frame rfl)))

theorem State.lgtPop_frame {s a1} : Frame [.rPwr, .rMan, .rMemctl, .rLgt, .rQuay, .mem, .chk, .busData, .console,
    .manApp, .manSys, .power, .lgt] s (State.lgtPop s a1) := by
  unfold State.lgtPop
  exact (by (first | (dsimp only; split) | split); exact (Frame.after (Frame.mono State.set_busData_frame rfl) (State.put_frame F.LGT_FIFO_RXUNF_part rfl)); exact (Frame.after (Frame.mono State.set_busData_frame rfl) (Frame.mono State.lgtFifos_frame rfl)))

theorem execLgtRxfRead_frame {a0 s t} (h : execLgtRxfRead a0 s = .next t) :
    Frame [.rPwr, .rMan, .rMemctl, .rLogs, .rLgt, .rCrypto, .rQuay, .mem, .chk, .busData, .console, .manApp,
        .manSys, .logs, .crypto, .power, .lgt, .mems] s t := by
  obtain rfl := Host.Outcome.next.inj h
  exact (State.access_frame rfl (fun _ => (Frame.mono State.lgtPop_frame rfl)))

theorem State.deriveLib_frame {s n} : Frame [.rLgt] s (State.deriveLib s n) := by
  unfold State.deriveLib
  refine Frame.ite Frame.refl ?_
  refine Frame.after (State.puts_frame fun c hc => ?_) (Frame.foldl (fun _ _ => State.put_frame
      F.LGT_IMEM_WORD_part rfl) _ _)
  obtain ⟨p, hp, rfl⟩ := List.mem_map.mp hc
  have hm := List.fst_mem_of_mem_zipIdx hp
  simp only [List.mem_cons, List.not_mem_nil, or_false] at hm
  rcases hm with h | h | h | h | h | h | h | h | h | h | h <;> rw [h]
  · rw [F.LGT_CFG_WRAP_BOT_part]; rfl
  · rw [F.LGT_CFG_WRAP_TOP_part]; rfl
  · rw [F.LGT_CFG_ORDER_part]; rfl
  · rw [F.LGT_CFG_AUTOFILL_part]; rfl
  · rw [F.LGT_CFG_AUTODRAIN_part]; rfl
  · rw [F.LGT_CFG_STEPW_part]; rfl
  · rw [F.LGT_THRS_FILLAT_part]; rfl
  · rw [F.LGT_THRS_DRAINAT_part]; rfl
  · rw [F.LGT_THRS_ICNT_part]; rfl
  · rw [F.LGT_FIFO_TXTH_part]; rfl
  · rw [F.LGT_FIFO_RXTH_part]; rfl

theorem State.lgtConfig_frame {s a1 a2 a3} : Frame [.rLgt] s (State.lgtConfig s a1 a2 a3) := by
  unfold State.lgtConfig
  exact (Frame.ite (State.deny_frame rfl) (Frame.ite (Frame.after (State.deny_frame rfl) (Frame.after
      (State.put_frame F.LGT_SUM_IMERR_part rfl) (State.put_frame F.LGT_FIFO_IMWR_part rfl))) (Frame.ite (Frame.ite
      (Frame.after (State.put_frame F.LGT_CFG_LIB_part rfl) (State.writeFields_frame rfl)) (State.writeFields_frame
      rfl)) (Frame.after (Frame.mono State.deriveLib_frame rfl) (Frame.ite (Frame.after (State.put_frame
      F.LGT_CFG_LIB_part rfl) (State.writeFields_frame rfl)) (State.writeFields_frame rfl))))))

theorem execLgtImemWrite_frame {a0 a1 a2 s t} (h : execLgtImemWrite a0 a1 a2 s = .next t) :
    Frame [.rPwr, .rMan, .rMemctl, .rLogs, .rLgt, .rCrypto, .rQuay, .mem, .chk, .busData, .console, .manApp,
        .manSys, .logs, .crypto, .power, .mems] s t := by
  obtain rfl := Host.Outcome.next.inj h
  exact (Frame.ite (State.access_frame rfl (fun _ => (Frame.mono State.lgtConfig_frame rfl))) Frame.refl)

theorem State.lgtSetDiv_frame {s a1 a2} : Frame [.rLgt] s (State.lgtSetDiv s a1 a2) := by
  unfold State.lgtSetDiv
  exact (Frame.ite Frame.refl (State.puts_cons_frame F.LGT_DIV_FRAC_part rfl (State.puts_cons_frame
      F.LGT_DIV_INT_part rfl State.puts_nil_frame)))

theorem execLgtQuery_frame {a0 a1 s t} (h : execLgtQuery a0 a1 s = .next t) :
    Frame [.rPwr, .rMan, .rMemctl, .rQuay, .mem, .chk, .console, .manApp, .manSys, .power] s t := by
  obtain rfl := Host.Outcome.next.inj h
  exact (State.run_frame rfl (fun _ => (Frame.after (Frame.mono State.ok_frame rfl) (Frame.mono State.reply_frame
      rfl))))

theorem execLgtLoad_frame {a0 a1 a2 a3 s t} (h : execLgtLoad a0 a1 a2 a3 s = .next t) :
    Frame [.rPwr, .rMan, .rMemctl, .rLgt, .rCrypto, .rQuay, .mem, .chk, .console, .manApp, .manSys, .crypto,
        .power, .mems] s t := by
  obtain rfl := Host.Outcome.next.inj h
  exact (State.run_frame rfl (fun _ => (Frame.ite (Frame.after (Frame.mono State.er_frame rfl) (Frame.after
      (Frame.foldl (fun _ _ => (Frame.mono State.lgtConfig_frame rfl)) _ _) (Frame.mono State.needDomain_frame
      rfl))) (Frame.after (Frame.mono State.ok_frame rfl) (Frame.after (Frame.foldl (fun _ _ => (Frame.mono
      State.lgtConfig_frame rfl)) _ _) (Frame.mono State.needDomain_frame rfl))))))

theorem execLgtRun_frame {a0 a1 s t} (h : execLgtRun a0 a1 s = .next t) :
    Frame [.rPwr, .rMan, .rMemctl, .rLgt, .rCrypto, .rQuay, .mem, .chk, .console, .manApp, .manSys, .crypto,
        .power, .mems] s t := by
  obtain rfl := Host.Outcome.next.inj h
  exact (State.run_frame rfl (fun _ => (Frame.ite (Frame.after (Frame.mono State.ok_frame rfl) (Frame.mono
      State.needDomain_frame rfl)) (Frame.after (State.settle_frame (Frame.mono State.lgtTo_frame rfl) rfl rfl)
      (Frame.mono State.needDomain_frame rfl)))))

theorem execLgtStop_frame {a0 a1 s t} (h : execLgtStop a0 a1 s = .next t) :
    Frame [.rPwr, .rMan, .rMemctl, .rLgt, .rCrypto, .rQuay, .mem, .chk, .console, .manApp, .manSys, .crypto,
        .power, .mems] s t := by
  obtain rfl := Host.Outcome.next.inj h
  exact (State.run_frame rfl (fun _ => (Frame.after (Frame.mono State.ok_frame rfl) (Frame.after (Frame.mono
      State.lgtStop_frame rfl) (Frame.mono State.needDomain_frame rfl)))))

theorem execLgtClrshift_frame {a0 a1 s t} (h : execLgtClrshift a0 a1 s = .next t) :
    Frame [.rPwr, .rMan, .rMemctl, .rLgt, .rCrypto, .rQuay, .mem, .chk, .console, .manApp, .manSys, .crypto,
        .power, .mems] s t := by
  obtain rfl := Host.Outcome.next.inj h
  exact (State.run_frame rfl (fun _ => (Frame.ite (Frame.after (Frame.mono State.er_frame rfl) (Frame.mono
      State.needDomain_frame rfl)) (Frame.after (Frame.mono State.ok_frame rfl) (Frame.after (Frame.mono
      State.lgtClear_frame rfl) (Frame.mono State.needDomain_frame rfl))))))

theorem execLgtDiv_frame {a0 a1 a2 s t} (h : execLgtDiv a0 a1 a2 s = .next t) :
    Frame [.rPwr, .rMan, .rMemctl, .rLgt, .rCrypto, .rQuay, .mem, .chk, .console, .manApp, .manSys, .crypto,
        .power, .mems] s t := by
  obtain rfl := Host.Outcome.next.inj h
  exact (State.run_frame rfl (fun _ => (Frame.after (Frame.mono State.ok_frame rfl) (Frame.after (Frame.mono
      State.lgtSetDiv_frame rfl) (Frame.mono State.needDomain_frame rfl)))))

end Sys2Proof.Machine
end

