-- ==== Sys2Proof/Laws/FrameRtc.lean ====
section
/-! SUPPORT. The frames of the operations and commands of Machine/Rtc.lean: what each can change. -/

namespace Sys2Proof.Machine

theorem alarmFlag_part {k : Nat} : (alarmFlag k).part = .rRtc := by
  unfold alarmFlag; split; exact F.RTC_STAT_ALM1_part; exact F.RTC_STAT_ALM2_part

theorem alarmEnable_part {k : Nat} : (alarmEnable k).part = .rRtc := by
  unfold alarmEnable; split; exact F.RTC_ALMCTL_EN1_part; exact F.RTC_ALMCTL_EN2_part

theorem State.alarms_frame {s} : Frame [.rPwr, .rHarv, .rMan, .rEvr, .rMemctl, .rTide, .rRtc, .rSpi, .rAdc,
    .rTouch, .rGpio, .rGnss, .rFront, .rLookout, .rQuay, .mem, .chk, .busData, .console, .manApp, .manSys, .rtc,
    .power, .harv, .gnss, .lgt, .spis, .dma, .adc, .touch] s (State.alarms s) := by
  unfold State.alarms
  exact (Frame.foldl (fun _ _ => (Frame.ite (Frame.after (Frame.mono State.wake_frame rfl) (Frame.after (Frame.mono
      State.fire_frame rfl) (Frame.after (Frame.mono State.raise0_frame rfl) (State.put_frame alarmFlag_part
      rfl)))) Frame.refl)) _ _)

theorem State.countSecond_frame {s} : Frame [.rPwr, .rMan, .rMemctl, .rRtc, .rQuay, .mem, .chk, .console, .manApp,
    .manSys, .rtc, .power] s (State.countSecond s) := by
  unfold State.countSecond
  exact (Frame.ite (Frame.after (Frame.mono State.rtcOsf_frame rfl) (Frame.mono State.withRtc_frame rfl))
      (Frame.mono State.withRtc_frame rfl))

theorem State.afterSet_frame {s} : Frame [.rRtc, .rtc] s (State.afterSet s) := by
  unfold State.afterSet
  exact (by (first | (dsimp only; split) | split); exact (Frame.ite (Frame.after (Frame.mono State.withRtc_frame rfl) (Frame.ite (State.put_frame F.RTC_STAT_OSF_part rfl) Frame.refl)) (Frame.after (Frame.mono State.startShift_frame rfl) (Frame.after (Frame.mono State.withRtc_frame rfl) (Frame.ite (State.put_frame F.RTC_STAT_OSF_part rfl) Frame.refl)))); exact (Frame.after (Frame.mono State.withRtc_frame rfl) (Frame.ite (State.put_frame F.RTC_STAT_OSF_part rfl) Frame.refl)))

theorem State.beginShift_frame {s} : Frame [.rtc] s (State.beginShift s) := by
  unfold State.beginShift
  exact (Frame.ite (Frame.mono State.withRtc_frame rfl) Frame.refl)

theorem execRtcSecondBoundary_frame {s t} (h : execRtcSecondBoundary s = .next t) :
    Frame [.rPwr, .rHarv, .rMan, .rEvr, .rMemctl, .rTide, .rRtc, .rSpi, .rAdc, .rTouch, .rGpio, .rGnss, .rFront,
        .rLookout, .rQuay, .free, .mem, .chk, .busData, .console, .manApp, .manSys, .rtc, .power, .harv, .gnss,
        .lgt, .spis, .dma, .adc, .touch] s t := by
  obtain rfl := Host.Outcome.next.inj h
  exact (Frame.after (Frame.mono State.alarms_frame rfl) (Frame.after (Frame.mono State.fire_frame rfl) (Frame.ite
      (Frame.after (Frame.mono State.afterSet_frame rfl) (Frame.after (Frame.mono State.beginShift_frame rfl)
      (Frame.ite (Frame.after (Frame.mono State.countSecond_frame rfl) (Frame.mono State.applySet_frame rfl))
      (Frame.ite (Frame.mono State.applySet_frame rfl) (Frame.mono State.countSecond_frame rfl))))) (Frame.after
      (Frame.mono State.beginShift_frame rfl) (Frame.ite (Frame.after (Frame.mono State.countSecond_frame rfl)
      (Frame.mono State.applySet_frame rfl)) (Frame.ite (Frame.mono State.applySet_frame rfl) (Frame.mono
      State.countSecond_frame rfl)))))))

theorem State.rtcWrite_frame {e s side ofs act} (h : ∀ t, Frame e t (act t)) (h0 : Part.sub [.rRtc] e = true := by
    rfl) :
    Frame e s (State.rtcWrite s side ofs act) := Frame.ite Frame.refl (State.guard_frame h0 h)

theorem execRtcApplyNow_frame {a0 s t} (h : execRtcApplyNow a0 s = .next t) :
    Frame [.rRtc, .free, .rtc] s t := by
  obtain rfl := Host.Outcome.next.inj h
  exact (State.rtcWrite_frame (fun _ => (Frame.mono State.applySet_frame rfl)))

theorem execRtcApplySecond_frame {a0 s t} (h : execRtcApplySecond a0 s = .next t) :
    Frame [.rRtc, .rtc] s t := by
  obtain rfl := Host.Outcome.next.inj h
  exact (State.rtcWrite_frame (fun _ => (Frame.mono State.setAtSecond_frame rfl)))

theorem State.cancelSet_frame {s} : Frame [.rRtc, .rtc] s (State.cancelSet s) := by
  unfold State.cancelSet
  exact (Frame.after (State.put_frame F.RTC_APPLY_PEND_part rfl) (Frame.mono State.withRtc_frame rfl))

theorem execRtcApplyCancel_frame {a0 s t} (h : execRtcApplyCancel a0 s = .next t) :
    Frame [.rRtc, .rtc] s t := by
  obtain rfl := Host.Outcome.next.inj h
  exact (State.rtcWrite_frame (fun _ => (Frame.mono State.cancelSet_frame rfl)))

theorem State.shiftStart_frame {s a1} : Frame [.rRtc, .rtc] s (State.shiftStart s a1) := by
  unfold State.shiftStart
  exact (Frame.ite Frame.refl (State.guardBusy_frame rfl (fun _ => (Frame.mono State.startShift_frame rfl))))

theorem execRtcShiftStart_frame {a0 s t} (h : execRtcShiftStart a0 s = .next t) :
    Frame [.rRtc, .rtc] s t := by
  obtain rfl := Host.Outcome.next.inj h
  exact (Frame.mono State.shiftStart_frame rfl)

theorem execRtcShiftEnd_frame {s t} (h : execRtcShiftEnd s = .next t) :
    Frame [.rRtc, .rtc] s t := by
  obtain rfl := Host.Outcome.next.inj h
  exact (Frame.ite (Frame.after (State.flag_frame F.RTC_SHIFT_PEND_part rfl) (Frame.mono State.withRtc_frame rfl))
      Frame.refl)

theorem execRtcBsecRead_frame {a0 s t} (h : execRtcBsecRead a0 s = .next t) :
    Frame [.busData, .rtc] s t := by
  obtain rfl := Host.Outcome.next.inj h
  exact (Frame.mono State.captureRtc_frame rfl)

theorem execRtcSnapshotExpiry_frame {a0 s t} (h : execRtcSnapshotExpiry a0 s = .next t) :
    Frame [.rtc] s t := by
  obtain rfl := Host.Outcome.next.inj h
  exact (Frame.mono State.withRtc_frame rfl)

theorem execRtcOsfWrite_frame {a0 s t} (h : execRtcOsfWrite a0 s = .next t) :
    Frame [.rRtc] s t := by
  obtain rfl := Host.Outcome.next.inj h
  exact (Frame.ite Frame.refl (State.guardBusy_frame rfl (fun _ => (State.put_frame F.RTC_STAT_OSF_part rfl))))

theorem execRtcInterfaceLock_frame {a0 s t} (h : execRtcInterfaceLock a0 s = .next t) :
    Frame [.rRtc, .rtc] s t := by
  obtain rfl := Host.Outcome.next.inj h
  exact (Frame.ite (Frame.after (State.put_frame F.RTC_STAT_STAGE_LOST_part rfl) (Frame.after (Frame.mono
      State.cancelSet_frame rfl) (Frame.after (State.flag_frame F.RTC_STAT_SRC_part rfl) (State.put_frame
      F.RTC_STAT_LOCKED_part rfl)))) (Frame.after (State.flag_frame F.RTC_STAT_SRC_part rfl) (State.put_frame
      F.RTC_STAT_LOCKED_part rfl)))

theorem execRtcInterfaceUnlock_frame {s t} (h : execRtcInterfaceUnlock s = .next t) :
    Frame [.rRtc] s t := by
  obtain rfl := Host.Outcome.next.inj h
  exact (Frame.after (State.put_frame F.RTC_STAT_LOCKED_part rfl) (State.put_frame F.RTC_STAT_SRC_part rfl))

theorem State.backupReset_frame {s} : Frame [.rRtc, .rtc] s (State.backupReset s) :=
  Frame.after (Frame.mono State.set_rtc_frame rfl) (frame_clear (b := .rtc) (lo := 0x10) (hi := 0x1000) rfl (by decide) (by decide))

theorem execBackupDomainReset_frame {s t} (h : execBackupDomainReset s = .next t) :
    Frame [.rPwr, .rMan, .rMemctl, .rLogs, .rRtc, .rQuay, .free, .mem, .chk, .console, .manApp, .manSys, .rtc,
        .logs, .power] s t := by
  obtain rfl := Host.Outcome.next.inj h
  exact (Frame.after (Frame.mono State.systemRecord_frame rfl) (Frame.after (Frame.mono State.raise0_frame rfl)
      (Frame.mono State.backupReset_frame rfl)))

theorem execRtcDiscipline_frame {s t} (h : execRtcDiscipline s = .next t) :
    Frame [.rRtc, .rtc] s t := by
  obtain rfl := Host.Outcome.next.inj h
  exact (Frame.ite (Frame.ite (Frame.after (State.put_frame F.RTC_DISCT_SEC_part rfl) (Frame.after (Frame.mono
      State.withRtc_frame rfl) (Frame.after (Frame.mono State.setAtSecond_frame rfl) (Frame.mono State.stage_frame
      rfl)))) (Frame.ite Frame.refl (Frame.ite (Frame.after (State.put_frame F.RTC_DISCT_SEC_part rfl) (Frame.mono
      State.startShift_frame rfl)) (Frame.after (State.put_frame F.RTC_DISCT_SEC_part rfl) (Frame.after (Frame.mono
      State.withRtc_frame rfl) (Frame.after (Frame.mono State.setAtSecond_frame rfl) (Frame.mono State.stage_frame
      rfl))))))) Frame.refl)

theorem execRtcMode_frame {a0 a1 s t} (h : execRtcMode a0 a1 s = .next t) :
    Frame [.rPwr, .rMan, .rMemctl, .rRtc, .rQuay, .mem, .chk, .console, .manApp, .manSys, .power] s t := by
  obtain rfl := Host.Outcome.next.inj h
  exact (State.run_frame rfl (fun _ => (Frame.ite (Frame.mono State.er_frame rfl) (Frame.after (Frame.mono
      State.ok_frame rfl) (Frame.ite Frame.refl (State.flag_frame F.RTC_CTRL_MODE_part rfl))))))

theorem execRtcSet_frame {a0 a1 a2 a3 s t} (h : execRtcSet a0 a1 a2 a3 s = .next t) :
    Frame [.rPwr, .rMan, .rMemctl, .rRtc, .rQuay, .free, .mem, .chk, .console, .manApp, .manSys, .rtc, .power] s t
        := by
  obtain rfl := Host.Outcome.next.inj h
  exact (State.run_frame rfl (fun _ => (Frame.ite (Frame.mono State.er_frame rfl) (Frame.ite (Frame.mono State.ok_frame rfl) (Frame.ite (Frame.after (Frame.mono State.ok_frame rfl) (Frame.after (Frame.mono State.setAtSecond_frame rfl) (Frame.mono State.stage_frame rfl))) (Frame.after (Frame.mono State.ok_frame rfl) (by (first | (dsimp only; split) | split); exact (Frame.ite (Frame.after (Frame.mono State.applySet_frame rfl) (Frame.mono State.stage_frame rfl)) (Frame.after (Frame.mono State.startShift_frame rfl) (Frame.after (Frame.mono State.applySet_frame rfl) (Frame.mono State.stage_frame rfl)))); exact (Frame.after (Frame.mono State.applySet_frame rfl) (Frame.mono State.stage_frame rfl)))))))))

theorem execRtcShift_frame {a0 a1 s t} (h : execRtcShift a0 a1 s = .next t) :
    Frame [.rPwr, .rMan, .rMemctl, .rRtc, .rQuay, .mem, .chk, .console, .manApp, .manSys, .rtc, .power] s t := by
  obtain rfl := Host.Outcome.next.inj h
  exact (State.run_frame rfl (fun _ => (Frame.ite (Frame.mono State.er_frame rfl) (Frame.ite (Frame.mono
      State.er_frame rfl) (Frame.after (Frame.mono State.ok_frame rfl) (Frame.ite Frame.refl (Frame.mono
      State.startShift_frame rfl)))))))

theorem execRtcAlarm_frame {x k a s t} (h : execRtcAlarm x k a s = .next t) : Frame [.rPwr, .rMan, .rMemctl, .rRtc,
    .rQuay, .mem, .chk, .console, .manApp, .manSys, .power] s t := by
  cases h
  refine State.run_frame rfl fun t => Frame.ite (Frame.mono State.ok_frame rfl) ?_
  refine Frame.after (Frame.mono State.ok_frame rfl) (Frame.after (State.put_frame alarmEnable_part rfl) ?_)
  cases a
  · exact (State.puts_cons_frame F.RTC_ALM_C0_SEC_part rfl (State.puts_cons_frame F.RTC_ALM_C0_MSEC_part rfl
      (State.puts_cons_frame F.RTC_ALM_C0_MIN_part rfl (State.puts_cons_frame F.RTC_ALM_C0_MMIN_part rfl
      (State.puts_cons_frame F.RTC_ALM_C0_HOUR_part rfl (State.puts_cons_frame F.RTC_ALM_C0_MHOUR_part rfl
      (State.puts_cons_frame F.RTC_ALM_C0_WDAY_part rfl (State.puts_cons_frame F.RTC_ALM_C0_MWDAY_part rfl
      (State.puts_cons_frame F.RTC_ALM_C1_DAY_part rfl (State.puts_cons_frame F.RTC_ALM_C1_MDAY_part rfl
      (State.puts_cons_frame F.RTC_ALM_C1_MONTH_part rfl (State.puts_cons_frame F.RTC_ALM_C1_MMONTH_part rfl
      (State.puts_cons_frame F.RTC_ALM_C1_YEAR_part rfl (State.puts_cons_frame F.RTC_ALM_C1_CENT_part rfl
      (State.puts_cons_frame F.RTC_ALM_C1_MYEAR_part rfl (State.puts_cons_frame F.RTC_ALM_C1_MCENT_part rfl
      State.puts_nil_frame))))))))))))))))
  · exact (State.puts_cons_frame F.RTC_ALM_BCMPL_CMP_part rfl (State.puts_cons_frame F.RTC_ALM_BCMPH_CMP_part rfl
      (State.puts_cons_frame F.RTC_ALM_BCMPH_MSK_part rfl (State.puts_cons_frame F.RTC_ALM_BMSKL_MSK_part rfl
      State.puts_nil_frame))))

theorem execRtcTrickle_frame {a0 a1 a2 s t} (h : execRtcTrickle a0 a1 a2 s = .next t) :
    Frame [.rPwr, .rMan, .rMemctl, .rRtc, .rQuay, .mem, .chk, .console, .manApp, .manSys, .power] s t := by
  obtain rfl := Host.Outcome.next.inj h
  exact (State.run_frame rfl (fun _ => (Frame.after (Frame.mono State.ok_frame rfl) (Frame.ite Frame.refl
      (Frame.after (State.flag_frame F.RTC_CTRL_TRK_DIODE_part rfl) (State.put_frame F.RTC_CTRL_TRK_RES_part rfl))))))

theorem execRtcOsfQuery_frame {a0 s t} (h : execRtcOsfQuery a0 s = .next t) :
    Frame [.rPwr, .rMan, .rMemctl, .rQuay, .mem, .chk, .console, .manApp, .manSys, .power] s t := by
  obtain rfl := Host.Outcome.next.inj h
  exact (State.run_frame rfl (fun _ => (Frame.after (Frame.mono State.ok_frame rfl) (Frame.mono State.reply_frame
      rfl))))

theorem execRtcOsfClear_frame {a0 s t} (h : execRtcOsfClear a0 s = .next t) :
    Frame [.rPwr, .rMan, .rMemctl, .rRtc, .rQuay, .mem, .chk, .console, .manApp, .manSys, .power] s t := by
  obtain rfl := Host.Outcome.next.inj h
  exact (State.run_frame rfl (fun _ => (Frame.ite (Frame.mono State.er_frame rfl) (Frame.after (Frame.mono
      State.ok_frame rfl) (Frame.ite Frame.refl (State.put_frame F.RTC_STAT_OSF_part rfl))))))

end Sys2Proof.Machine
end

