-- ==== Sys2Proof/Laws/FrameTouch.lean ====
section
/-! SUPPORT. The frames of the operations and commands of Machine/Touch.lean: what each can change. -/

namespace Sys2Proof.Machine

theorem State.setKeyCount_frame {s a1 a2} : Frame [.touch] s (State.setKeyCount s a1 a2) := by
  unfold State.setKeyCount
  exact (Frame.mono State.withTouch_frame rfl)

theorem execTouchScanStart_frame {s t} (h : execTouchScanStart s = .next t) :
    Frame [.rTouch, .touch] s t := by
  obtain rfl := Host.Outcome.next.inj h
  exact (Frame.ite (Frame.mono State.touchStart_frame rfl) Frame.refl)

theorem execTouchSegment_frame {a0 s t} (h : execTouchSegment a0 s = .next t) :
    Frame [.touch] s t := by
  obtain rfl := Host.Outcome.next.inj h
  exact (by (first | (dsimp only; split) | split); exact (Frame.mono State.withTouch_frame rfl); exact Frame.refl)

theorem execTouchSegmentDiscard_frame {s t} (h : execTouchSegmentDiscard s = .next t) :
    Frame [.rTouch] s t := by
  obtain rfl := Host.Outcome.next.inj h
  exact (Frame.ite (State.count_frame F.TOUCH_STAT_DISCARD_part rfl) Frame.refl)

theorem execTouchDqiTimeout_frame {s t} (h : execTouchDqiTimeout s = .next t) :
    Frame [.rPwr, .rMan, .rMemctl, .rTouch, .rQuay, .mem, .chk, .console, .manApp, .manSys, .power, .touch] s t := by
  obtain rfl := Host.Outcome.next.inj h
  exact (Frame.ite (Frame.after (Frame.mono State.raise0_frame rfl) (Frame.after (State.put_frame
      F.TOUCH_STAT_LATE_part rfl) (Frame.mono State.withTouch_frame rfl))) Frame.refl)

theorem State.putKey_frame {s a1 a2 a3 a4} : Frame [.rPwr, .rHarv, .rMan, .rEvr, .rMemctl, .rTide, .rSpi, .rAdc,
    .rTouch, .rGpio, .rGnss, .rFront, .rLookout, .rQuay, .mem, .chk, .busData, .console, .manApp, .manSys, .rtc,
    .power, .harv, .gnss, .lgt, .spis, .dma, .adc, .touch] s (State.putKey s a1 a2 a3 a4) := by
  unfold State.putKey
  exact (Frame.ite (Frame.ite (Frame.after (Frame.mono State.raiseK_frame rfl) (Frame.after (State.puts_cons_frame
      F.TOUCH_RAW_RAW_part rfl (State.puts_cons_frame F.TOUCH_RAW_BASE_part rfl (State.puts_cons_frame
      F.TOUCH_KST_STATE_part rfl (State.puts_cons_frame F.TOUCH_KST_START_part rfl (State.puts_cons_frame
      F.TOUCH_KST_DELTA_part rfl (State.puts_cons_frame F.TOUCH_KEY_ON_part rfl State.puts_nil_frame))))))
      (Frame.mono State.setKeyCount_frame rfl))) (Frame.after (State.puts_cons_frame F.TOUCH_RAW_RAW_part rfl
      (State.puts_cons_frame F.TOUCH_RAW_BASE_part rfl (State.puts_cons_frame F.TOUCH_KST_STATE_part rfl
      (State.puts_cons_frame F.TOUCH_KST_START_part rfl (State.puts_cons_frame F.TOUCH_KST_DELTA_part rfl
      (State.puts_cons_frame F.TOUCH_KEY_ON_part rfl State.puts_nil_frame)))))) (Frame.mono State.setKeyCount_frame
      rfl))) (Frame.after (Frame.mono State.fire_frame rfl) (Frame.after (Frame.mono State.raiseK_frame rfl)
      (Frame.ite (Frame.after (Frame.mono State.raiseK_frame rfl) (Frame.after (State.puts_cons_frame
      F.TOUCH_RAW_RAW_part rfl (State.puts_cons_frame F.TOUCH_RAW_BASE_part rfl (State.puts_cons_frame
      F.TOUCH_KST_STATE_part rfl (State.puts_cons_frame F.TOUCH_KST_START_part rfl (State.puts_cons_frame
      F.TOUCH_KST_DELTA_part rfl (State.puts_cons_frame F.TOUCH_KEY_ON_part rfl State.puts_nil_frame))))))
      (Frame.mono State.setKeyCount_frame rfl))) (Frame.after (State.puts_cons_frame F.TOUCH_RAW_RAW_part rfl
      (State.puts_cons_frame F.TOUCH_RAW_BASE_part rfl (State.puts_cons_frame F.TOUCH_KST_STATE_part rfl
      (State.puts_cons_frame F.TOUCH_KST_START_part rfl (State.puts_cons_frame F.TOUCH_KST_DELTA_part rfl
      (State.puts_cons_frame F.TOUCH_KEY_ON_part rfl State.puts_nil_frame)))))) (Frame.mono State.setKeyCount_frame
      rfl))))))

theorem State.testBegin_frame {s a1} : Frame [.rPwr, .rMan, .rMemctl, .rTouch, .rQuay, .mem, .chk, .console,
    .manApp, .manSys, .power, .touch] s (State.testBegin s a1) := by
  unfold State.testBegin
  exact (by (first | (dsimp only; split) | split); exact (Frame.after (Frame.mono State.withTag_frame rfl) (Frame.after (Frame.mono State.ok_frame rfl) (Frame.after (Frame.mono State.withTag_frame rfl) (Frame.after (State.put_frame F.TOUCH_STAT_TESTING_part rfl) (Frame.mono State.withTouch_frame rfl))))); exact (Frame.after (State.put_frame F.TOUCH_STAT_TESTING_part rfl) (Frame.mono State.withTouch_frame rfl)))

theorem execTouchScanEnd_frame {s t} (h : execTouchScanEnd s = .next t) :
    Frame [.rPwr, .rHarv, .rMan, .rEvr, .rMemctl, .rTide, .rSpi, .rAdc, .rTouch, .rGpio, .rGnss, .rFront,
        .rLookout, .rQuay, .mem, .chk, .busData, .console, .manApp, .manSys, .rtc, .power, .harv, .gnss, .lgt,
        .spis, .dma, .adc, .touch] s t := by
  obtain rfl := Host.Outcome.next.inj h
  exact (by (first | (dsimp only; split) | split); exact Frame.refl; exact (Frame.ite Frame.refl (by (first | (dsimp only; split) | split); exact (Frame.after (Frame.mono State.testBegin_frame rfl) (Frame.after (Frame.mono State.fire_frame rfl) (Frame.after (Frame.mono State.raiseK_frame rfl) (Frame.after (State.put_frame F.TOUCH_STAT_BUSY_part rfl) (Frame.after (Frame.mono State.withTouch_frame rfl) (Frame.ite (Frame.after (Frame.mono State.raiseK_frame rfl) (Frame.ite (Frame.after (State.flag_frame F.TOUCH_STAT_NOREF_part rfl) (Frame.foldl (fun _ _ => (Frame.mono State.putKey_frame rfl)) _ _)) (Frame.foldl (fun _ _ => (Frame.mono State.putKey_frame rfl)) _ _))) (Frame.ite (Frame.after (State.flag_frame F.TOUCH_STAT_NOREF_part rfl) (Frame.foldl (fun _ _ => (Frame.mono State.putKey_frame rfl)) _ _)) (Frame.foldl (fun _ _ => (Frame.mono State.putKey_frame rfl)) _ _)))))))); exact (Frame.after (Frame.mono State.fire_frame rfl) (Frame.after (Frame.mono State.raiseK_frame rfl) (Frame.after (State.put_frame F.TOUCH_STAT_BUSY_part rfl) (Frame.after (Frame.mono State.withTouch_frame rfl) (Frame.ite (Frame.after (Frame.mono State.raiseK_frame rfl) (Frame.ite (Frame.after (State.flag_frame F.TOUCH_STAT_NOREF_part rfl) (Frame.foldl (fun _ _ => (Frame.mono State.putKey_frame rfl)) _ _)) (Frame.foldl (fun _ _ => (Frame.mono State.putKey_frame rfl)) _ _))) (Frame.ite (Frame.after (State.flag_frame F.TOUCH_STAT_NOREF_part rfl) (Frame.foldl (fun _ _ => (Frame.mono State.putKey_frame rfl)) _ _)) (Frame.foldl (fun _ _ => (Frame.mono State.putKey_frame rfl)) _ _))))))))))

theorem execTouchCtrlStart_frame {a0 s t} (h : execTouchCtrlStart a0 s = .next t) :
    Frame [.rPwr, .rMan, .rMemctl, .rLogs, .rTouch, .rCrypto, .rQuay, .mem, .chk, .busData, .console, .manApp,
        .manSys, .logs, .crypto, .power, .touch, .mems] s t := by
  obtain rfl := Host.Outcome.next.inj h
  exact (State.access_frame rfl (fun _ => (State.guardBusy_frame rfl (fun _ => (Frame.mono State.touchStart_frame
      rfl)))))

theorem State.touchTest_frame {s a1} : Frame [.rPwr, .rMan, .rMemctl, .rTouch, .rQuay, .mem, .chk, .console,
    .manApp, .manSys, .power, .touch] s (State.touchTest s a1) := by
  unfold State.touchTest
  exact (Frame.ite (Frame.mono State.withTouch_frame rfl) (Frame.mono State.testBegin_frame rfl))

theorem execTouchCtrlTest_frame {a0 s t} (h : execTouchCtrlTest a0 s = .next t) :
    Frame [.rPwr, .rMan, .rMemctl, .rLogs, .rTouch, .rCrypto, .rQuay, .mem, .chk, .busData, .console, .manApp,
        .manSys, .logs, .crypto, .power, .touch, .mems] s t := by
  obtain rfl := Host.Outcome.next.inj h
  exact (State.access_frame rfl (fun _ => (State.guardBusy_frame rfl (fun _ => (Frame.mono State.touchTest_frame
      rfl)))))

theorem State.touchRebase_frame {s} : Frame [.touch] s (State.touchRebase s) := by
  unfold State.touchRebase
  exact (Frame.mono State.withTouch_frame rfl)

theorem execTouchCtrlRebase_frame {a0 s t} (h : execTouchCtrlRebase a0 s = .next t) :
    Frame [.rPwr, .rMan, .rMemctl, .rLogs, .rTouch, .rCrypto, .rQuay, .mem, .chk, .busData, .console, .manApp,
        .manSys, .logs, .crypto, .power, .touch, .mems] s t := by
  obtain rfl := Host.Outcome.next.inj h
  exact (State.access_frame rfl (fun _ => (State.guard_frame rfl (fun _ => (Frame.mono State.touchRebase_frame
      rfl)))))

theorem State.touchSaveRef_frame {s} : Frame [.rTouch, .touch] s (State.touchSaveRef s) := by
  unfold State.touchSaveRef
  exact (Frame.ite (Frame.mono State.withTouch_frame rfl) (State.put_frame F.TOUCH_STAT_REFERR_part rfl))

theorem execTouchCtrlSaveref_frame {a0 s t} (h : execTouchCtrlSaveref a0 s = .next t) :
    Frame [.rPwr, .rMan, .rMemctl, .rLogs, .rTouch, .rCrypto, .rQuay, .mem, .chk, .busData, .console, .manApp,
        .manSys, .logs, .crypto, .power, .touch, .mems] s t := by
  obtain rfl := Host.Outcome.next.inj h
  exact (State.access_frame rfl (fun _ => (State.guard_frame rfl (fun _ => (Frame.mono State.touchSaveRef_frame
      rfl)))))

theorem execTouchTestEnd_frame {a0 a1 s t} (h : execTouchTestEnd a0 a1 s = .next t) :
    Frame [.rPwr, .rMan, .rMemctl, .rTouch, .rQuay, .mem, .chk, .console, .manApp, .manSys, .power] s t := by
  obtain rfl := Host.Outcome.next.inj h
  exact (Frame.ite Frame.refl (Frame.after (Frame.mono State.raiseK_frame rfl) (State.puts_cons_frame
      F.TOUCH_OPEN_MASK_part rfl (State.puts_cons_frame F.TOUCH_SHORT_MASK_part rfl (State.puts_cons_frame
      F.TOUCH_STAT_TESTING_part rfl State.puts_nil_frame)))))

theorem execProximitySample_frame {a0 s t} (h : execProximitySample a0 s = .next t) :
    Frame [.rPwr, .rHarv, .rMan, .rEvr, .rMemctl, .rTide, .rSpi, .rAdc, .rTouch, .rGpio, .rGnss, .rFront,
        .rLookout, .rQuay, .mem, .chk, .busData, .console, .manApp, .manSys, .rtc, .power, .harv, .gnss, .lgt,
        .spis, .dma, .adc, .touch] s t := by
  obtain rfl := Host.Outcome.next.inj h
  exact (Frame.ite Frame.refl (Frame.ite (Frame.ite (Frame.after (State.put_frame F.TOUCH_PROX_DET_part rfl)
      (Frame.after (State.puts_cons_frame F.TOUCH_PROXRAW_RAW_part rfl (State.puts_cons_frame
      F.TOUCH_PROXRAW_BASE_part rfl State.puts_nil_frame)) (Frame.mono State.withTouch_frame rfl))) (Frame.after
      (State.puts_cons_frame F.TOUCH_PROXRAW_RAW_part rfl (State.puts_cons_frame F.TOUCH_PROXRAW_BASE_part rfl
      State.puts_nil_frame)) (Frame.mono State.withTouch_frame rfl))) (Frame.ite (Frame.after (Frame.mono
      State.wake_frame rfl) (Frame.after (Frame.mono State.fire_frame rfl) (Frame.after (Frame.mono
      State.raise0_frame rfl) (Frame.after (State.put_frame F.TOUCH_PROX_DET_part rfl) (Frame.after
      (State.puts_cons_frame F.TOUCH_PROXRAW_RAW_part rfl (State.puts_cons_frame F.TOUCH_PROXRAW_BASE_part rfl
      State.puts_nil_frame)) (Frame.mono State.withTouch_frame rfl)))))) (Frame.after (State.puts_cons_frame
      F.TOUCH_PROXRAW_RAW_part rfl (State.puts_cons_frame F.TOUCH_PROXRAW_BASE_part rfl State.puts_nil_frame))
      (Frame.mono State.withTouch_frame rfl)))))

theorem State.deriveTouch_frame {s} : Frame [.rTouch] s (State.deriveTouch s) := by
  unfold State.deriveTouch
  exact (Frame.ite Frame.refl (State.puts_cons_frame F.TOUCH_CFG_PULSES_part rfl (State.puts_cons_frame
      F.TOUCH_THR_HYST_part rfl (State.puts_cons_frame F.TOUCH_BL_ONDEB_part rfl (State.puts_cons_frame
      F.TOUCH_BL_BLRATE_part rfl (State.puts_cons_frame F.TOUCH_BL_NEGTH_part rfl (State.puts_cons_frame
      F.TOUCH_TEST_XTH_part rfl (State.puts_cons_frame F.TOUCH_DQI_DQIWIN_part rfl State.puts_nil_frame))))))))

theorem State.touchCfgWrite_frame {s a1 a2} : Frame [.rPwr, .rMan, .rMemctl, .rTouch, .rQuay, .mem, .chk, .console,
    .manApp, .manSys, .power] s (State.touchCfgWrite s a1 a2) := by
  unfold State.touchCfgWrite
  exact (Frame.ite (State.deny_frame rfl) (State.underLedger_frame (State.writeFields_frame rfl) rfl rfl))

theorem State.touchElecWrite_frame {s a1 a2 a3} : Frame [.rTouch] s (State.touchElecWrite s a1 a2 a3) := by
  unfold State.touchElecWrite
  exact (Frame.ite (State.deny_frame rfl) (Frame.ite Frame.refl (State.writeFields_frame rfl)))

theorem execTouchMode_frame {a0 a1 s t} (h : execTouchMode a0 a1 s = .next t) :
    Frame [.rPwr, .rMan, .rMemctl, .rTouch, .rCrypto, .rQuay, .mem, .chk, .console, .manApp, .manSys, .crypto,
        .power, .mems] s t := by
  obtain rfl := Host.Outcome.next.inj h
  exact (State.run_frame rfl (fun _ => (Frame.after (State.settle_frame (State.put_frame F.TOUCH_CFG_MODE_part rfl)
      rfl rfl) (Frame.mono State.needDomain_frame rfl))))

theorem execTouchOntime_frame {a0 a1 s t} (h : execTouchOntime a0 a1 s = .next t) :
    Frame [.rPwr, .rMan, .rMemctl, .rTouch, .rCrypto, .rQuay, .mem, .chk, .console, .manApp, .manSys, .crypto,
        .power, .mems] s t := by
  obtain rfl := Host.Outcome.next.inj h
  exact (State.run_frame rfl (fun _ => (Frame.after (Frame.mono State.ok_frame rfl) (Frame.after (State.put_frame
      F.TOUCH_ONTIME_S_part rfl) (Frame.mono State.needDomain_frame rfl)))))

theorem execTouchTest_frame {a0 s t} (h : execTouchTest a0 s = .next t) :
    Frame [.rPwr, .rMan, .rMemctl, .rTouch, .rCrypto, .rQuay, .mem, .chk, .console, .manApp, .manSys, .crypto,
        .power, .touch, .mems] s t := by
  obtain rfl := Host.Outcome.next.inj h
  exact (State.run_frame rfl (fun _ => (Frame.ite (Frame.after (Frame.mono State.er_frame rfl) (Frame.mono
      State.needDomain_frame rfl)) (Frame.after (Frame.mono State.touchTest_frame rfl) (Frame.mono
      State.needDomain_frame rfl)))))

end Sys2Proof.Machine
end

