-- ==== Sys2Proof/Laws/FrameUart.lean ====
section
/-! SUPPORT. The frames of the operations and commands of Machine/Uart.lean: what each can change. -/

namespace Sys2Proof.Machine

theorem uartBlock_part {u : Nat} : (uartBlock u).part = .rUart := by unfold uartBlock; split; rfl; split <;> rfl

theorem State.modUart_frame {s a1 a2} : Frame [.rUart, .uarts] s (State.modUart s a1 a2) := by
  unfold State.modUart
  exact (Frame.after (State.puts_cons_frame F.UART_STAT_RXLVL_part rfl (State.puts_cons_frame
      F.UART_STAT_TXLVL_part rfl State.puts_nil_frame)) (Frame.mono State.set_uarts_frame rfl))

theorem State.stampLine_frame {s a1 a2 a3} : Frame [.rUart, .uarts] s (State.stampLine s a1 a2 a3) := by
  unfold State.stampLine
  exact (Frame.ite (Frame.after (State.puts_cons_frame F.UART_TXSTS_SEC_part rfl (State.puts_cons_frame
      F.UART_STCNT_TX_part rfl (State.puts_cons_frame F.UART_STCNT_TXCOARSE_part rfl State.puts_nil_frame)))
      (Frame.mono State.modUart_frame rfl)) (Frame.after (State.puts_cons_frame F.UART_RXSTS_SEC_part rfl
      (State.puts_cons_frame F.UART_STCNT_RX_part rfl (State.puts_cons_frame F.UART_STCNT_RXCOARSE_part rfl
      State.puts_nil_frame))) (Frame.mono State.modUart_frame rfl)))

theorem State.markLost_frame {s a1} : Frame [.console] s (State.markLost s a1) := by
  unfold State.markLost
  exact (by (first | (dsimp only; split) | split); exact (Frame.ite (Frame.mono State.setSess_frame rfl) Frame.refl); exact Frame.refl)

theorem State.seeBreak_frame {s a1} : Frame [.rPwr, .rMan, .rMemctl, .rUart, .rQuay, .mem, .chk, .console, .manApp,
    .manSys, .power] s (State.seeBreak s a1) := by
  unfold State.seeBreak
  exact (Frame.after (Frame.mono State.raise0_frame rfl) (State.put_frame F.UART_STAT_BRK_part rfl))

theorem State.takeChar_frame {s a1 a2 a3 a4 a5 a6} : Frame [.rPwr, .rMan, .rMemctl, .rUart, .rQuay, .mem, .chk,
    .console, .manApp, .manSys, .power, .uarts] s (State.takeChar s a1 a2 a3 a4 a5 a6) := by
  unfold State.takeChar
  exact (Frame.ite (Frame.ite (Frame.after (Frame.mono State.raise0_frame rfl) (Frame.ite (Frame.after (Frame.mono
      State.raise0_frame rfl) (Frame.ite (Frame.after (Frame.mono State.markLost_frame rfl) (Frame.after
      (Frame.mono State.modUart_frame rfl) (Frame.ite (Frame.mono State.stampLine_frame rfl) Frame.refl)))
      (Frame.after (Frame.mono State.modUart_frame rfl) (Frame.ite (Frame.mono State.stampLine_frame rfl)
      Frame.refl)))) (Frame.ite (Frame.after (Frame.mono State.markLost_frame rfl) (Frame.after (Frame.mono
      State.modUart_frame rfl) (Frame.ite (Frame.mono State.stampLine_frame rfl) Frame.refl))) (Frame.after
      (Frame.mono State.modUart_frame rfl) (Frame.ite (Frame.mono State.stampLine_frame rfl) Frame.refl)))))
      (Frame.ite (Frame.after (Frame.mono State.raise0_frame rfl) (Frame.ite (Frame.after (Frame.mono
      State.markLost_frame rfl) (Frame.after (Frame.mono State.modUart_frame rfl) (Frame.ite (Frame.mono
      State.stampLine_frame rfl) Frame.refl))) (Frame.after (Frame.mono State.modUart_frame rfl) (Frame.ite
      (Frame.mono State.stampLine_frame rfl) Frame.refl)))) (Frame.ite (Frame.after (Frame.mono
      State.markLost_frame rfl) (Frame.after (Frame.mono State.modUart_frame rfl) (Frame.ite (Frame.mono
      State.stampLine_frame rfl) Frame.refl))) (Frame.after (Frame.mono State.modUart_frame rfl) (Frame.ite
      (Frame.mono State.stampLine_frame rfl) Frame.refl))))) (Frame.ite (Frame.after (Frame.mono State.raise0_frame
      rfl) (Frame.after (State.put_frame F.UART_STAT_OVR_part rfl) (Frame.after (Frame.mono State.modUart_frame
      rfl) (Frame.ite (Frame.mono State.stampLine_frame rfl) Frame.refl)))) (Frame.ite (Frame.after (Frame.mono
      State.raise0_frame rfl) (Frame.ite (Frame.after (Frame.mono State.raise0_frame rfl) (Frame.after (Frame.mono
      State.modUart_frame rfl) (Frame.after (Frame.mono State.modUart_frame rfl) (Frame.ite (Frame.mono
      State.stampLine_frame rfl) Frame.refl)))) (Frame.after (Frame.mono State.modUart_frame rfl) (Frame.after
      (Frame.mono State.modUart_frame rfl) (Frame.ite (Frame.mono State.stampLine_frame rfl) Frame.refl)))))
      (Frame.ite (Frame.after (Frame.mono State.raise0_frame rfl) (Frame.after (Frame.mono State.modUart_frame rfl)
      (Frame.after (Frame.mono State.modUart_frame rfl) (Frame.ite (Frame.mono State.stampLine_frame rfl)
      Frame.refl)))) (Frame.after (Frame.mono State.modUart_frame rfl) (Frame.after (Frame.mono State.modUart_frame
      rfl) (Frame.ite (Frame.mono State.stampLine_frame rfl) Frame.refl)))))))

theorem execUartCharacterReceived_frame {a0 a1 a2 s t} (h : execUartCharacterReceived a0 a1 a2 s = .next t) :
    Frame [.rPwr, .rMan, .rMemctl, .rUart, .rQuay, .mem, .chk, .console, .manApp, .manSys, .power, .uarts] s t := by
  obtain rfl := Host.Outcome.next.inj h
  exact (Frame.ite Frame.refl (by (first | (dsimp only; split) | split); exact (Frame.mono State.modUart_frame rfl); exact (Frame.ite (Frame.after (Frame.mono State.seeBreak_frame rfl) (Frame.mono State.modUart_frame rfl)) (Frame.after (Frame.mono State.takeChar_frame rfl) (Frame.mono State.modUart_frame rfl)))))

theorem execUartBreak_frame {a0 s t} (h : execUartBreak a0 s = .next t) :
    Frame [.rPwr, .rMan, .rMemctl, .rUart, .rQuay, .mem, .chk, .console, .manApp, .manSys, .power] s t := by
  obtain rfl := Host.Outcome.next.inj h
  exact (Frame.ite (Frame.mono State.seeBreak_frame rfl) Frame.refl)

theorem execUartLineFault_frame {a0 s t} (h : execUartLineFault a0 s = .next t) :
    Frame [.rPwr, .rMan, .rMemctl, .rUart, .rQuay, .mem, .chk, .console, .manApp, .manSys, .power] s t := by
  obtain rfl := Host.Outcome.next.inj h
  exact (Frame.ite (Frame.after (Frame.mono State.raise0_frame rfl) (State.put_frame F.UART_STAT_LINE_FAULT_part
      rfl)) Frame.refl)

theorem execUartLineFaultClear_frame {a0 s t} (h : execUartLineFaultClear a0 s = .next t) :
    Frame [.rUart, .uarts] s t := by
  obtain rfl := Host.Outcome.next.inj h
  exact (Frame.ite (Frame.after (State.puts_cons_frame F.UART_STAT_LINE_FAULT_part rfl (State.puts_cons_frame
      F.UART_STAT_BRK_part rfl State.puts_nil_frame)) (Frame.mono State.modUart_frame rfl)) Frame.refl)

theorem execUartStartEdgeWake_frame {a0 a1 s t} (h : execUartStartEdgeWake a0 a1 s = .next t) :
    Frame [.rPwr, .rHarv, .rMan, .rEvr, .rMemctl, .rTide, .rUart, .rSpi, .rAdc, .rTouch, .rGpio, .rGnss, .rFront,
        .rLookout, .rQuay, .mem, .chk, .busData, .console, .manApp, .manSys, .rtc, .power, .harv, .gnss, .lgt,
        .uarts, .spis, .dma, .adc, .touch] s t := by
  obtain rfl := Host.Outcome.next.inj h
  exact (Frame.ite Frame.refl (Frame.ite (Frame.after (Frame.mono State.wake_frame rfl) (Frame.mono
      State.fire_frame rfl)) (Frame.ite (Frame.after (Frame.mono State.modUart_frame rfl) (Frame.after
      (State.count_frame F.UART_STAT_LOSTN_part rfl) (Frame.ite (Frame.after (Frame.mono State.markLost_frame rfl)
      (Frame.after (Frame.mono State.wake_frame rfl) (Frame.mono State.fire_frame rfl))) (Frame.after (Frame.mono
      State.wake_frame rfl) (Frame.mono State.fire_frame rfl))))) (Frame.after (Frame.mono State.raise0_frame rfl)
      (Frame.after (State.put_frame F.UART_STAT_WAKE_LOST_part rfl) (Frame.after (Frame.mono State.modUart_frame
      rfl) (Frame.after (State.count_frame F.UART_STAT_LOSTN_part rfl) (Frame.ite (Frame.after (Frame.mono
      State.markLost_frame rfl) (Frame.after (Frame.mono State.wake_frame rfl) (Frame.mono State.fire_frame rfl)))
      (Frame.after (Frame.mono State.wake_frame rfl) (Frame.mono State.fire_frame rfl))))))))))

theorem State.uartNext_frame {s u c b t} (h : State.uartNext s u c = some (b, t)) : Frame [.rPwr, .rMan, .rMemctl,
    .rUart, .rQuay, .mem, .chk, .console, .manApp, .manSys, .power, .uarts] s t := by
  unfold State.uartNext at h
  split at h
  · cases h; exact Frame.refl
  · split at h
    · split at h
      · cases h
      · cases h; exact Frame.mono State.set_console_frame rfl
    · split at h
      · cases h
      · cases h
        exact Frame.ite (Frame.after (Frame.mono State.raise0_frame rfl) (Frame.mono State.modUart_frame rfl))
          (Frame.mono State.modUart_frame rfl)
theorem execUartCharacterSent_frame {u start c s t} (h : execUartCharacterSent u start c s = .next t) :
    Frame [.rPwr, .rMan, .rMemctl, .rUart, .rQuay, .mem, .chk, .console, .manApp, .manSys, .power, .uarts] s t := by
  cases h
  refine Frame.ite Frame.refl ?_
  split
  · exact Frame.refl
  · rename_i b t ht
    exact Frame.after (Frame.mono State.modUart_frame rfl) (Frame.after (Frame.ite (Frame.mono
        State.stampLine_frame rfl) Frame.refl)
      (State.uartNext_frame ht))

theorem State.uartRead_frame {s a1 a2} : Frame [.rUart, .busData, .uarts] s (State.uartRead s a1 a2) := by
  unfold State.uartRead
  exact (by (first | (dsimp only; split) | split); exact (Frame.mono State.set_busData_frame rfl); exact (Frame.after (Frame.mono State.set_busData_frame rfl) (Frame.ite (Frame.mono State.modUart_frame rfl) Frame.refl)))

theorem execUartDataRead_frame {a0 a1 s t} (h : execUartDataRead a0 a1 s = .next t) :
    Frame [.rPwr, .rMan, .rMemctl, .rLogs, .rUart, .rCrypto, .rQuay, .mem, .chk, .busData, .console, .manApp,
        .manSys, .logs, .crypto, .power, .uarts, .mems] s t := by
  obtain rfl := Host.Outcome.next.inj h
  exact (State.access_frame rfl (fun _ => (Frame.mono State.uartRead_frame rfl)))

theorem State.uartWrite_frame {s a1 a2 a3} : Frame [.rUart, .uarts] s (State.uartWrite s a1 a2 a3) := by
  unfold State.uartWrite
  exact (State.guard_frame (by rw [uartBlock_part]; rfl) (fun _ => (Frame.ite (State.put_frame F.UART_STAT_TXOVF_part rfl) (Frame.mono State.modUart_frame rfl))))

theorem execUartDataWrite_frame {a0 a1 a2 s t} (h : execUartDataWrite a0 a1 a2 s = .next t) :
    Frame [.rPwr, .rMan, .rMemctl, .rLogs, .rUart, .rCrypto, .rQuay, .mem, .chk, .busData, .console, .manApp,
        .manSys, .logs, .crypto, .power, .uarts, .mems] s t := by
  obtain rfl := Host.Outcome.next.inj h
  exact (State.access_frame rfl (fun _ => (Frame.mono State.uartWrite_frame rfl)))

theorem State.stampRead_frame {s a1 a2} : Frame [.rUart, .busData] s (State.stampRead s a1 a2) := by
  unfold State.stampRead
  exact (Frame.ite (Frame.after (Frame.mono State.set_busData_frame rfl) (State.put_frame F.UART_TXSTF_FRAC_part
      rfl)) (Frame.after (Frame.mono State.set_busData_frame rfl) (State.put_frame F.UART_RXSTF_FRAC_part rfl)))

theorem execUartRxstsRead_frame {a0 a1 s t} (h : execUartRxstsRead a0 a1 s = .next t) :
    Frame [.rPwr, .rMan, .rMemctl, .rLogs, .rUart, .rCrypto, .rQuay, .mem, .chk, .busData, .console, .manApp,
        .manSys, .logs, .crypto, .power, .mems] s t := by
  obtain rfl := Host.Outcome.next.inj h
  exact (State.access_frame rfl (fun _ => (Frame.mono State.stampRead_frame rfl)))

theorem State.uartSet_frame {s a1 a2 a3 a4} : Frame [.rUart, .uarts] s (State.uartSet s a1 a2 a3 a4) := by
  unfold State.uartSet
  exact (Frame.ite Frame.refl (Frame.ite (Frame.after (Frame.mono State.modUart_frame rfl) (State.writeFields_frame (by rw [uartBlock_part]; rfl))) (State.writeFields_frame (by rw [uartBlock_part]; rfl))))

theorem State.uartConfig_frame {s a1 a2 a3 a4} : Frame [.rUart, .uarts] s (State.uartConfig s a1 a2 a3 a4) := by
  unfold State.uartConfig
  exact (Frame.ite (State.deny_frame (by rw [uartBlock_part]; rfl)) (Frame.ite (Frame.ite (Frame.mono State.modUart_frame rfl) (Frame.ite (Frame.after (Frame.mono State.modUart_frame rfl) (Frame.mono State.uartSet_frame rfl)) (Frame.mono State.uartSet_frame rfl))) (Frame.mono State.uartSet_frame rfl)))

theorem execUartConfigApply_frame {a0 s t} (h : execUartConfigApply a0 s = .next t) :
    Frame [.rUart, .uarts] s t := by
  obtain rfl := Host.Outcome.next.inj h
  exact (Frame.ite Frame.refl (Frame.after (Frame.foldl (fun _ _ => (Frame.mono State.uartSet_frame rfl)) _ _)
      (Frame.mono State.modUart_frame rfl)))

end Sys2Proof.Machine
end

