-- ==== Sys2Proof/Laws/FrameOwnership.lean ====
section
/-! SUPPORT. The frames of the operations and commands of Machine/Ownership.lean: what each can change. -/

namespace Sys2Proof.Machine

theorem State.filter_frame {s : State} {p : Nat → Bool} (h : ∀ k, p k = false → (blockAt (k / 32)).isSome = true) :
    Frame (.rOwn :: Part.most.take 30) s { s with regs := s.regs.filter fun c => p c.1 } := by
  refine frame_regs (fun w => Store.wf_filter _ w) fun k hk => ?_
  rw [Store.get_filter _ _ p]
  split
  · rfl
  · rename_i hp
    exfalso
    obtain ⟨⟨b, ofs⟩, hb⟩ := Option.isSome_iff_exists.mp (h k (by simpa using hp))
    apply hk
    rw [show partOfKey k = _ from blockAt_part hb]
    split
    · exact List.mem_cons_self
    · exact List.mem_cons_of_mem _ (Part.mem_of_sub Block.sub_blocks (List.mem_singleton.mpr rfl))

theorem State.dropExpert_frame {s p} : Frame (.rOwn :: Part.most.take 30) s (State.dropExpert s p) := by
  refine State.filter_frame (p := fun k => match blockAt (k / 32) with
    | some (b, ofs) => !(p b && tabledExpert b ofs (k % 32))
    | none => true) fun k hk => ?_
  split at hk
  · rename_i h; rw [h]; rfl
  · cases hk

theorem State.deriveIslands_frame {s} : Frame [.rClk] s (State.deriveIslands s) := by
  unfold State.deriveIslands
  exact (Frame.foldl (fun _ _ => (Frame.ite Frame.refl (Frame.mono State.requestSource_frame rfl))) _ _)

theorem State.deriveClk_frame {s} : Frame [.rClk] s (State.deriveClk s) := by
  unfold State.deriveClk
  exact (Frame.after (Frame.mono State.deriveGates_frame rfl) (Frame.after (Frame.mono State.deriveIslands_frame
      rfl) (Frame.foldl (fun _ _ => (State.put_frame F.CLK_ISL_RUN_EN_part rfl)) _ _)))

theorem State.freshen_frame {s a1} : Frame [.rClk, .rTide] s (State.freshen s a1) := by
  unfold State.freshen
  exact (by (first | (dsimp only; split) | split); exact (Frame.mono State.deriveGates_frame rfl); exact (Frame.mono State.deriveLoop_frame rfl); exact Frame.refl)

theorem State.deriveOwn_frame {s b} : Frame [.rPwr, .rClk, .rTide, .rLgt, .rTouch, .rCrypto, .rGnss, .rFront,
    .rBerth, .rSillage] s (State.deriveOwn s b) := by
  cases b with
  | pwr => exact Frame.mono State.derivePoint_frame rfl
  | clk => exact Frame.mono State.deriveClk_frame rfl
  | tide => exact Frame.mono State.deriveLoop_frame rfl
  | gnss => exact Frame.mono State.deriveMode_frame rfl
  | front => exact Frame.mono State.deriveMode_frame rfl
  | lgt => exact Frame.foldl (fun _ _ => Frame.mono State.deriveLib_frame rfl) _ _
  | touch => exact Frame.mono State.deriveTouch_frame rfl
  | crypto => exact Frame.mono State.deriveKeep_frame rfl
  | berth n => exact Frame.mono State.deriveBerth_frame rfl
  | sillage => exact Frame.mono State.showPrediction_frame rfl
  | _ => exact Frame.refl

theorem State.deriveExpert_frame {s a1} : Frame [.rSysctl, .rPwr, .rClk, .rHarv, .rMan, .rEvr, .rMemctl, .rLogs,
    .rTide, .rTp, .rRtc, .rUart, .rI2ct, .rSpi, .rLgt, .rAdc, .rTouch, .rCrypto, .rGpio, .rDma, .rLife, .rTest,
    .rGnss, .rFront, .rPlan, .rLookout, .rBerth, .rSillage, .rMeasq, .rBitlog, .rOwn] s (State.deriveExpert s a1)
    := by
  unfold State.deriveExpert
  exact (Frame.after (Frame.mono State.deriveOwn_frame rfl) (Frame.mono State.dropExpert_frame rfl))

theorem State.allBasic_frame {s} : Frame (.rOwn :: Part.most.take 30) s (State.allBasic s) := by
  refine Frame.after (Frame.foldl (fun _ _ => Frame.mono State.deriveBerth_frame rfl) _ _)
    (Frame.after (Frame.foldl (fun _ _ => Frame.mono State.deriveOwn_frame rfl) _ _)
    (Frame.after State.dropExpert_frame ?_))
  refine State.filter_frame (p := fun k =>
    !((blockAt (k / 32)).any fun (b : Block × Nat) => b.2 == 4 && (k % 32 == 1 || k % 32 == 9))) fun k hk => ?_
  cases h : blockAt (k / 32) with
  | none => rw [h] at hk; cases hk
  | some _ => rfl

theorem State.raiseOwn_frame {s a1 a2} : Frame [.rPwr, .rMan, .rMemctl, .rQuay, .mem, .chk, .console, .manApp,
    .manSys, .power] s (State.raiseOwn s a1 a2) := by
  unfold State.raiseOwn
  exact (Frame.after (Frame.mono State.set_console_frame rfl) (Frame.after (Frame.mono State.notices_frame rfl)
      (Frame.mono State.source_frame rfl)))

theorem State.ownResult_frame {s a1 a2} : Frame [.rSysctl] s (State.ownResult s a1 a2) := by
  unfold State.ownResult
  exact (State.puts_cons_frame F.SYSCTL_OWN_STAT_BLOCK_part rfl (State.puts_cons_frame
      F.SYSCTL_OWN_STAT_RESULT_part rfl State.puts_nil_frame))

theorem State.passOn_frame {s a1 a2} : Frame [.rLogs, .console, .logs, .i2ct] s (State.passOn s a1 a2) := by
  unfold State.passOn
  exact (by (first | (dsimp only; split) | split); exact (Frame.mono State.set_console_i2ct_frame rfl); exact (Frame.after (State.put_frame F.LOGS_STAT_QUEUED_part rfl) (Frame.mono State.withLogs_frame rfl)); exact Frame.refl)

theorem State.changeOwner_frame {s a1 a2} : Frame [.rSysctl, .rPwr, .rClk, .rHarv, .rMan, .rEvr, .rMemctl, .rLogs,
    .rTide, .rTp, .rRtc, .rUart, .rI2ct, .rSpi, .rLgt, .rAdc, .rTouch, .rCrypto, .rGpio, .rDma, .rLife, .rTest,
    .rGnss, .rFront, .rPlan, .rLookout, .rBerth, .rSillage, .rMeasq, .rBitlog, .rOwn, .rQuay, .mem, .chk, .console,
    .manApp, .manSys, .logs, .power, .gnss, .i2ct] s (State.changeOwner s a1 a2) := by
  unfold State.changeOwner
  exact (Frame.after (Frame.mono State.raiseOwn_frame rfl) (Frame.after (Frame.mono State.deriveExpert_frame rfl) (Frame.after (Frame.mono State.passOn_frame rfl) (Frame.ite (Frame.after (Frame.mono State.ownResult_frame rfl) (Frame.after (State.puts_cons_frame F.OWNLVL_OWNER_part rfl (State.puts_cons_frame F.OWNLVL_OWN_PEND_part rfl (State.puts_cons_frame F.OWNLVL_LEVEL_part rfl (State.puts_cons_frame F.OWNLVL_LVL_PEND_part rfl State.puts_nil_frame)))) (by (first | (dsimp only; split) | split); exact (Frame.mono State.passBerth_frame rfl); exact Frame.refl))) (Frame.after (State.puts_cons_frame F.OWNLVL_OWNER_part rfl (State.puts_cons_frame F.OWNLVL_OWN_PEND_part rfl (State.puts_cons_frame F.OWNLVL_LEVEL_part rfl (State.puts_cons_frame F.OWNLVL_LVL_PEND_part rfl State.puts_nil_frame)))) (by (first | (dsimp only; split) | split); exact (Frame.mono State.passBerth_frame rfl); exact Frame.refl))))))

theorem State.requestOwner_frame {s a1 a2} : Frame [.rSysctl, .rPwr, .rClk, .rHarv, .rMan, .rEvr, .rMemctl, .rLogs,
    .rTide, .rTp, .rRtc, .rUart, .rI2ct, .rSpi, .rLgt, .rAdc, .rTouch, .rCrypto, .rGpio, .rDma, .rLife, .rTest,
    .rGnss, .rFront, .rPlan, .rLookout, .rBerth, .rSillage, .rMeasq, .rBitlog, .rOwn, .rQuay, .mem, .chk, .console,
    .manApp, .manSys, .logs, .power, .gnss, .i2ct] s (State.requestOwner s a1 a2) := by
  unfold State.requestOwner
  exact (Frame.ite (Frame.after (Frame.mono State.set_console_frame rfl) (Frame.after (Frame.mono
      State.ownResult_frame rfl) (State.put_frame F.OWNLVL_OWN_PEND_part rfl))) (Frame.ite (Frame.after (Frame.mono
      State.ownResult_frame rfl) (Frame.mono State.changeOwner_frame rfl)) (Frame.after (Frame.mono
      State.ownResult_frame rfl) (State.put_frame F.OWNLVL_OWN_PEND_part rfl))))

theorem State.writeOwn_frame {s a1} : Frame [.rSysctl, .rPwr, .rClk, .rHarv, .rMan, .rEvr, .rMemctl, .rLogs,
    .rTide, .rTp, .rRtc, .rUart, .rI2ct, .rSpi, .rLgt, .rAdc, .rTouch, .rCrypto, .rGpio, .rDma, .rLife, .rTest,
    .rGnss, .rFront, .rPlan, .rLookout, .rBerth, .rSillage, .rMeasq, .rBitlog, .rOwn, .rQuay, .mem, .chk, .console,
    .manApp, .manSys, .logs, .power, .gnss, .i2ct] s (State.writeOwn s a1) := by
  unfold State.writeOwn
  exact (by (first | (dsimp only; split) | split); exact (Frame.mono State.ownResult_frame rfl); exact (Frame.ite (Frame.mono State.ownResult_frame rfl) (Frame.mono State.requestOwner_frame rfl)))

theorem execSysctlOwnWrite_frame {a0 s t} (h : execSysctlOwnWrite a0 s = .next t) :
    Frame [.rSysctl, .rPwr, .rClk, .rHarv, .rMan, .rEvr, .rMemctl, .rLogs, .rTide, .rTp, .rRtc, .rUart, .rI2ct,
        .rSpi, .rLgt, .rAdc, .rTouch, .rCrypto, .rGpio, .rDma, .rLife, .rTest, .rGnss, .rFront, .rPlan, .rLookout,
        .rBerth, .rSillage, .rMeasq, .rBitlog, .rOwn, .rQuay, .mem, .chk, .console, .manApp, .manSys, .logs,
        .power, .gnss, .i2ct] s t := by
  obtain rfl := Host.Outcome.next.inj h
  exact (Frame.mono State.writeOwn_frame rfl)

theorem execOwnershipChange_frame {a0 s t} (h : execOwnershipChange a0 s = .next t) :
    Frame [.rSysctl, .rPwr, .rClk, .rHarv, .rMan, .rEvr, .rMemctl, .rLogs, .rTide, .rTp, .rRtc, .rUart, .rI2ct,
        .rSpi, .rLgt, .rAdc, .rTouch, .rCrypto, .rGpio, .rDma, .rLife, .rTest, .rGnss, .rFront, .rPlan, .rLookout,
        .rBerth, .rSillage, .rMeasq, .rBitlog, .rOwn, .rQuay, .mem, .chk, .console, .manApp, .manSys, .logs,
        .power, .gnss, .i2ct] s t := by
  obtain rfl := Host.Outcome.next.inj h
  exact (Frame.ite (Frame.mono State.changeOwner_frame rfl) Frame.refl)

theorem State.changeLevel_frame {s a1 a2} : Frame [.rSysctl, .rPwr, .rClk, .rHarv, .rMan, .rEvr, .rMemctl, .rLogs,
    .rTide, .rTp, .rRtc, .rUart, .rI2ct, .rSpi, .rLgt, .rAdc, .rTouch, .rCrypto, .rGpio, .rDma, .rLife, .rTest,
    .rGnss, .rFront, .rPlan, .rLookout, .rBerth, .rSillage, .rMeasq, .rBitlog, .rOwn] s (State.changeLevel s a1 a2)
    := by
  unfold State.changeLevel
  exact (Frame.ite (Frame.after (State.puts_cons_frame F.OWNLVL_LEVEL_part rfl (State.puts_cons_frame
      F.OWNLVL_LVL_PEND_part rfl State.puts_nil_frame)) (Frame.mono State.freshen_frame rfl)) (Frame.after
      (Frame.mono State.deriveExpert_frame rfl) (Frame.after (State.puts_cons_frame F.OWNLVL_LEVEL_part rfl
      (State.puts_cons_frame F.OWNLVL_LVL_PEND_part rfl State.puts_nil_frame)) (Frame.mono State.freshen_frame rfl))))

theorem State.requestLevel_frame {s a1 a2} : Frame [.rSysctl, .rPwr, .rClk, .rHarv, .rMan, .rEvr, .rMemctl, .rLogs,
    .rTide, .rTp, .rRtc, .rUart, .rI2ct, .rSpi, .rLgt, .rAdc, .rTouch, .rCrypto, .rGpio, .rDma, .rLife, .rTest,
    .rGnss, .rFront, .rPlan, .rLookout, .rBerth, .rSillage, .rMeasq, .rBitlog, .rOwn] s (State.requestLevel s a1
    a2) := by
  unfold State.requestLevel
  exact (Frame.ite (State.put_frame F.OWNLVL_LVL_PEND_part rfl) (Frame.ite (Frame.mono State.changeLevel_frame rfl)
      (State.put_frame F.OWNLVL_LVL_PEND_part rfl)))

theorem State.writeLevel_frame {s a1 a2 a3} : Frame [.rSysctl, .rPwr, .rClk, .rHarv, .rMan, .rEvr, .rMemctl,
    .rLogs, .rTide, .rTp, .rRtc, .rUart, .rI2ct, .rSpi, .rLgt, .rAdc, .rTouch, .rCrypto, .rGpio, .rDma, .rLife,
    .rTest, .rGnss, .rFront, .rPlan, .rLookout, .rBerth, .rSillage, .rMeasq, .rBitlog, .rOwn] s (State.writeLevel s
    a1 a2 a3) := by
  unfold State.writeLevel
  exact (Frame.ite Frame.refl (Frame.ite (State.deny_frame (Block.sub_all rfl)) (Frame.mono
      State.requestLevel_frame rfl)))

theorem execLevelWrite_frame {a0 a1 a2 s t} (h : execLevelWrite a0 a1 a2 s = .next t) :
    Frame [.rSysctl, .rPwr, .rClk, .rHarv, .rMan, .rEvr, .rMemctl, .rLogs, .rTide, .rTp, .rRtc, .rUart, .rI2ct,
        .rSpi, .rLgt, .rAdc, .rTouch, .rCrypto, .rGpio, .rDma, .rLife, .rTest, .rGnss, .rFront, .rPlan, .rLookout,
        .rBerth, .rSillage, .rMeasq, .rBitlog, .rOwn] s t := by
  obtain rfl := Host.Outcome.next.inj h
  exact (Frame.mono State.writeLevel_frame rfl)

theorem execLevelChange_frame {a0 s t} (h : execLevelChange a0 s = .next t) :
    Frame [.rSysctl, .rPwr, .rClk, .rHarv, .rMan, .rEvr, .rMemctl, .rLogs, .rTide, .rTp, .rRtc, .rUart, .rI2ct,
        .rSpi, .rLgt, .rAdc, .rTouch, .rCrypto, .rGpio, .rDma, .rLife, .rTest, .rGnss, .rFront, .rPlan, .rLookout,
        .rBerth, .rSillage, .rMeasq, .rBitlog, .rOwn] s t := by
  obtain rfl := Host.Outcome.next.inj h
  exact (Frame.ite (Frame.mono State.changeLevel_frame rfl) Frame.refl)

theorem execOwn_frame {a0 a1 a2 s t} (h : execOwn a0 a1 a2 s = .next t) :
    Frame [.rSysctl, .rPwr, .rClk, .rHarv, .rMan, .rEvr, .rMemctl, .rLogs, .rTide, .rTp, .rRtc, .rUart, .rI2ct,
        .rSpi, .rLgt, .rAdc, .rTouch, .rCrypto, .rGpio, .rDma, .rLife, .rTest, .rGnss, .rFront, .rPlan, .rLookout,
        .rBerth, .rSillage, .rMeasq, .rBitlog, .rOwn, .rQuay, .mem, .chk, .console, .manApp, .manSys, .logs,
        .power, .gnss, .i2ct] s t := by
  obtain rfl := Host.Outcome.next.inj h
  exact (State.run_frame rfl (fun _ => (Frame.ite (Frame.mono State.er_frame rfl) (Frame.ite (Frame.after
      (Frame.mono State.ok_frame rfl) (Frame.after (Frame.mono State.reply_frame rfl) (Frame.after (Frame.mono
      State.set_console_frame rfl) (Frame.mono State.requestOwner_frame rfl)))) (Frame.after (Frame.mono
      State.ok_frame rfl) (Frame.after (Frame.mono State.reply_frame rfl) (Frame.mono State.requestOwner_frame
      rfl)))))))

theorem execOwnQuery_frame {a0 a1 s t} (h : execOwnQuery a0 a1 s = .next t) :
    Frame [.rPwr, .rMan, .rMemctl, .rQuay, .mem, .chk, .console, .manApp, .manSys, .power] s t := by
  obtain rfl := Host.Outcome.next.inj h
  exact (State.run_frame rfl (fun _ => (by (first | (dsimp only; split) | split); exact (Frame.after (Frame.mono State.ok_frame rfl) (Frame.mono State.reply_frame rfl)); exact (Frame.after (Frame.mono State.ok_frame rfl) (Frame.mono State.replies_frame rfl)))))

theorem execLevelSession_frame {a0 a1 s t} (h : execLevelSession a0 a1 s = .next t) :
    Frame [.rPwr, .rMan, .rMemctl, .rQuay, .mem, .chk, .console, .manApp, .manSys, .power] s t := by
  obtain rfl := Host.Outcome.next.inj h
  exact (State.run_frame rfl (fun _ => (Frame.after (Frame.mono State.ok_frame rfl) (Frame.mono State.setSess_frame
      rfl))))

theorem execLevelBlock_frame {a0 a1 a2 s t} (h : execLevelBlock a0 a1 a2 s = .next t) :
    Frame [.rSysctl, .rPwr, .rClk, .rHarv, .rMan, .rEvr, .rMemctl, .rLogs, .rTide, .rTp, .rRtc, .rUart, .rI2ct,
        .rSpi, .rLgt, .rAdc, .rTouch, .rCrypto, .rGpio, .rDma, .rLife, .rTest, .rGnss, .rFront, .rPlan, .rLookout,
        .rBerth, .rSillage, .rMeasq, .rBitlog, .rOwn, .rQuay, .mem, .chk, .console, .manApp, .manSys, .power] s t
        := by
  obtain rfl := Host.Outcome.next.inj h
  exact (State.run_frame rfl (fun _ => (Frame.ite (Frame.mono State.er_frame rfl) (Frame.after (Frame.mono
      State.ok_frame rfl) (Frame.mono State.requestLevel_frame rfl)))))

end Sys2Proof.Machine
end

