-- ==== Sys2Proof/Laws/FrameBoot.lean ====
section
/-! SUPPORT. The frames of the operations and commands of Machine/Boot.lean: what each can change. -/

namespace Sys2Proof.Machine

theorem State.recordCause_frame {s a1 a2} : Frame [.rSysctl] s (State.recordCause s a1 a2) := by
  unfold State.recordCause
  exact (State.puts_cons_frame F.SYSCTL_RCAUSE_LAST_part rfl (State.puts_cons_frame F.SYSCTL_RCAUSE_SEEN_part rfl
      State.puts_nil_frame))

theorem State.loseSwitched_frame {s} : Frame [.mem, .chk, .mems] s (State.loseSwitched s) := by
  unfold State.loseSwitched
  exact (Frame.after (Frame.foldl (fun _ _ => (Frame.mono State.loseMem_frame rfl)) _ _) (Frame.mono
      State.clearMem_frame rfl))

theorem State.nominal_frame {s} : Frame [.rPwr] s (State.nominal s) := by
  unfold State.nominal
  exact (Frame.after (Frame.mono State.derivePoint_frame rfl) (State.puts_cons_frame F.PWR_POINT_POINT_part rfl
      (State.puts_cons_frame F.PWR_POINT_ACT_part rfl (State.puts_cons_frame F.PWR_POINT_PEND_part rfl
      (State.puts_cons_frame F.PWR_REG_MODE_part rfl (State.puts_cons_frame F.PWR_REG_ACT_part rfl
      (State.puts_cons_frame F.PWR_DOMS_PG_part rfl State.puts_nil_frame)))))))

theorem State.wipeSwitched_frame {s tide} : Frame Part.most s (State.wipeSwitched s tide) := by
  have hl : Frame [.mem, .chk, .mems] s s.loseSwitched := State.loseSwitched_frame
  unfold State.wipeSwitched
  generalize s.loseSwitched = u at hl ⊢
  exact Frame.of_most (fun w => ⟨Store.wf_filter _ w.1, (hl.wf w).2.1, (hl.wf w).2.2⟩) (hl.same .pending rfl)

theorem State.resetSwitched_frame {s tide} : Frame Part.most s (State.resetSwitched s tide) := by
  unfold State.resetSwitched
  refine Frame.after (Frame.mono State.newCode_frame rfl) (Frame.after (Frame.mono State.nominal_frame rfl)
    (Frame.after (State.puts_cons_frame F.CLK_STAT_XTALL_part rfl (State.puts_cons_frame F.CLK_ISL_SEL_part rfl
      (State.puts_cons_frame F.CLK_ISL_ACT_part rfl (State.puts_cons_frame F.CLK_ISL_ACT_part rfl
          (State.puts_cons_frame F.SYSCTL_RCAUSE_SEEN_part rfl
      (State.puts_cons_frame F.MEMCTL_REMAP_AON_part rfl (State.puts_cons_frame F.MEMCTL_REMAP_SEC_part rfl
        State.puts_nil_frame))))))) (Frame.after State.wipeSwitched_frame ?_)))
  split
  · exact Frame.mono State.tear_frame rfl
  · exact Frame.refl

theorem supplyFields_part {f : Fld} (h : f ∈ supplyFields) : Part.sub [f.part] [.rOwn, .rPwr, .rHarv, .rEvr, .harv]
    = true := by
  have : supplyFields.all (fun f => Part.sub [f.part] [.rOwn, .rPwr, .rHarv, .rEvr, .harv]) = true :=
      of_decide_eq_true rfl
  exact List.all_eq_true.mp this f h
theorem State.resetAlwaysOn_frame {s} : Frame [.rOwn, .rPwr, .rHarv, .rEvr, .harv] s (State.resetAlwaysOn s) := by
  unfold State.resetAlwaysOn
  refine Frame.after (Frame.mono State.nominal_frame rfl) (Frame.after (Frame.mono State.rearm_frame rfl)
    (Frame.after (Frame.mono State.set_harv_frame rfl) (Frame.after (State.puts_frame fun c hc => ?_)
      (Frame.after (State.clearRegsOwn_frame (b := .evr) rfl (by decide)) (Frame.after
        (State.clearRegsOwn_frame (b := .harv) rfl (by decide)) (State.clearRegsOwn_frame (b := .pwr) rfl (by decide)))))))
  obtain ⟨f, hf, rfl⟩ := List.mem_map.mp hc
  exact supplyFields_part hf

theorem State.resolveIntent_frame {s} : Frame [.rPwr, .rMan, .rMemctl, .rLogs, .rQuay, .free, .mem, .chk, .console,
    .manApp, .manSys, .logs, .power, .life] s (State.resolveIntent s) := by
  unfold State.resolveIntent
  exact (by (first | (dsimp only; split) | split); exact Frame.refl; exact (Frame.after (Frame.mono State.raise_frame rfl) (Frame.after (Frame.mono State.systemRecord_frame rfl) (Frame.mono State.withLife_frame rfl))))

theorem State.initAon_frame {s} : Frame [.mem, .chk, .mems] s (State.initAon s) := by
  unfold State.initAon
  exact (Frame.ite (Frame.after (Frame.mono State.loadTally_frame rfl) (Frame.mono State.zeroMem_frame rfl))
      Frame.refl)

theorem State.takeNext_frame {s} : Frame [.life] s (State.takeNext s) := by
  unfold State.takeNext
  exact (Frame.ite (Frame.mono State.withLife_frame rfl) Frame.refl)

theorem State.chooseImage_frame {s} : Frame [.rPwr, .rMan, .rMemctl, .rLogs, .rQuay, .free, .mem, .chk, .console,
    .manApp, .manSys, .logs, .power, .life] s (State.chooseImage s).1 := by
  unfold State.chooseImage
  exact (by (first | (dsimp only; split) | split); exact Frame.refl; exact (by (first | (dsimp only; split) | split); exact (Frame.after (Frame.mono State.raise0_frame rfl) (Frame.after (Frame.mono State.systemRecord_frame rfl) (Frame.mono State.withLife_frame rfl))); exact Frame.refl))

theorem State.advanceRollback_frame {s} : Frame [.rPwr, .rMan, .rMemctl, .rQuay, .mem, .chk, .console, .manApp,
    .manSys, .power, .life] s (State.advanceRollback s) := by
  unfold State.advanceRollback
  exact (Frame.ite (Frame.after (Frame.mono State.raise0_frame rfl) (Frame.mono State.withLife_frame rfl)) Frame.refl)

theorem State.bootKey_frame {s} : Frame [.rPwr, .rMan, .rMemctl, .rCrypto, .rQuay, .mem, .chk, .console, .manApp,
    .manSys, .crypto, .power, .mems] s (State.bootKey s) := by
  unfold State.bootKey
  exact (Frame.after (Frame.mono State.raise0_frame rfl) (Frame.after (State.put_frame F.CRYPTO_KEY_READY_part rfl)
      (Frame.after (Frame.mono State.withCrypto_frame rfl) (Frame.after (State.put_frame F.MEMCTL_WIPE_BUSY_part
      rfl) (Frame.mono State.needDomain_frame rfl)))))

theorem State.tideBoot_frame {s} : Frame [.rTide, .tide] s (State.tideBoot s) := by
  unfold State.tideBoot
  exact (Frame.ite Frame.refl (Frame.after (Frame.mono State.setErr_frame rfl) (Frame.mono State.withTide_frame rfl)))

theorem State.release_frame {s a1 a2} : Frame [.rSysctl, .app, .power] s (State.release s a1 a2) := by
  unfold State.release
  exact (Frame.after (Frame.mono State.set_app_power_frame rfl) (State.put_frame F.SYSCTL_RCAUSE_STATE_part rfl))

theorem State.bootMode_frame {s a1} : Frame [.rPwr, .rClk, .rMan, .rMemctl, .rTide, .rTp, .rRtc, .rUart, .rI2ct,
    .rSpi, .rLgt, .rAdc, .rTouch, .rCrypto, .rGpio, .rDma, .rGnss, .rFront, .rPlan, .rLookout, .rBerth, .rSillage,
    .rMeasq, .rQuay, .mem, .chk, .app, .console, .manApp, .manSys, .tide, .tp, .crypto, .power, .gnss, .lgt,
    .uarts, .i2ct, .spis, .dma, .adc, .touch, .mems] s (State.bootMode s a1) := by
  unfold State.bootMode
  exact (Frame.ite (Frame.after (Frame.mono State.set_console_frame rfl) (Frame.after (Frame.mono
      State.enterMode_frame rfl) (Frame.after (State.puts_cons_frame F.GNSS_MODE_MODE_part rfl
      (State.puts_cons_frame F.GNSS_MODE_ACT_MODE_part rfl State.puts_nil_frame)) (State.flag_frame
      F.GNSS_MODE_STRAP_part rfl)))) (State.flag_frame F.GNSS_MODE_STRAP_part rfl))

theorem State.initRings_frame {s} : Frame [.rPwr, .rMemctl, .mem, .chk, .mems] s (State.initRings s) := by
  unfold State.initRings
  exact (Frame.after (Frame.mono State.initRing_frame rfl) (Frame.mono State.initRing_frame rfl))

theorem State.coldPath_frame {s a1} : Frame [.rSysctl, .rPwr, .rClk, .rHarv, .rMan, .rEvr, .rMemctl, .rLogs,
    .rTide, .rTp, .rRtc, .rUart, .rI2ct, .rSpi, .rLgt, .rAdc, .rTouch, .rCrypto, .rGpio, .rDma, .rLife, .rTest,
    .rGnss, .rFront, .rPlan, .rLookout, .rBerth, .rSillage, .rMeasq, .rBitlog, .rOwn, .rQuay, .free, .mem, .chk,
    .app, .console, .manApp, .manSys, .tide, .tp, .logs, .crypto, .power, .life, .gnss, .lgt, .uarts, .i2ct, .spis,
    .dma, .adc, .touch, .mems] s (State.coldPath s a1) := by
  unfold State.coldPath
  exact (Frame.after (Frame.mono State.release_frame rfl) (Frame.after (Frame.mono State.set_power_frame rfl)
      (Frame.after (Frame.mono State.allBasic_frame rfl) (Frame.after (Frame.mono State.bootMode_frame rfl)
      (Frame.after (Frame.mono State.withLife_frame rfl) (Frame.after (Frame.mono State.tideBoot_frame rfl)
      (Frame.after (Frame.mono State.zeroMem_frame rfl) (Frame.after (Frame.mono State.zeroMem_frame rfl)
      (Frame.after (Frame.mono State.initRings_frame rfl) (Frame.after (Frame.mono State.zeroMem_frame rfl)
      (Frame.after (Frame.mono State.bootKey_frame rfl) (Frame.after (Frame.mono State.slotRegs_frame rfl)
      (Frame.after (Frame.mono State.lifeRegs_frame rfl) (Frame.ite (Frame.after (Frame.mono
      State.advanceRollback_frame rfl) (Frame.after (Frame.mono State.chooseImage_frame rfl) (Frame.after
      (Frame.mono State.takeNext_frame rfl) (Frame.after (Frame.mono State.logRecover_frame rfl) (Frame.after
      (Frame.mono State.initAon_frame rfl) (Frame.after (Frame.mono State.lifeRegs_frame rfl) (Frame.after
      (Frame.mono State.resolveIntent_frame rfl) (Frame.after (Frame.mono State.withLife_frame rfl) (Frame.mono
      State.withGnss_frame rfl))))))))) (Frame.after (Frame.mono State.chooseImage_frame rfl) (Frame.after
      (Frame.mono State.takeNext_frame rfl) (Frame.after (Frame.mono State.logRecover_frame rfl) (Frame.after
      (Frame.mono State.initAon_frame rfl) (Frame.after (Frame.mono State.lifeRegs_frame rfl) (Frame.after
      (Frame.mono State.resolveIntent_frame rfl) (Frame.after (Frame.mono State.withLife_frame rfl) (Frame.mono
      State.withGnss_frame rfl))))))))))))))))))))))

theorem State.warmPath_frame {s a1} : Frame [.rSysctl, .rPwr, .rClk, .rHarv, .rMan, .rEvr, .rMemctl, .rLogs,
    .rTide, .rTp, .rRtc, .rUart, .rI2ct, .rSpi, .rLgt, .rAdc, .rTouch, .rCrypto, .rGpio, .rDma, .rLife, .rTest,
    .rGnss, .rFront, .rPlan, .rLookout, .rBerth, .rSillage, .rMeasq, .rBitlog, .rOwn, .rQuay, .free, .mem, .chk,
    .app, .sys, .console, .manApp, .manSys, .tide, .tp, .logs, .crypto, .power, .life, .gnss, .lgt, .uarts, .i2ct,
    .spis, .dma, .adc, .touch, .mems] s (State.warmPath s a1) := by
  unfold State.warmPath
  exact (Frame.ite (Frame.after (Frame.mono State.release_frame rfl) (Frame.after (Frame.mono State.set_sys_frame
      rfl) (Frame.ite (Frame.after (Frame.mono State.zeroMem_frame rfl) (Frame.ite (Frame.after (Frame.mono
      State.zeroMem_frame rfl) (Frame.after (Frame.mono State.zeroMem_frame rfl) (Frame.after (Frame.mono
      State.slotRegs_frame rfl) (Frame.mono State.lifeRegs_frame rfl)))) (Frame.after (Frame.mono
      State.zeroMem_frame rfl) (Frame.after (Frame.mono State.slotRegs_frame rfl) (Frame.mono State.lifeRegs_frame
      rfl))))) (Frame.ite (Frame.after (Frame.mono State.zeroMem_frame rfl) (Frame.after (Frame.mono
      State.zeroMem_frame rfl) (Frame.after (Frame.mono State.slotRegs_frame rfl) (Frame.mono State.lifeRegs_frame
      rfl)))) (Frame.after (Frame.mono State.zeroMem_frame rfl) (Frame.after (Frame.mono State.slotRegs_frame rfl)
      (Frame.mono State.lifeRegs_frame rfl))))))) (Frame.mono State.coldPath_frame rfl))

theorem State.resetCold_frame {s a1 a2 a3} : Frame Part.most s (State.resetCold s a1 a2 a3) := by
  unfold State.resetCold
  exact (Frame.after (Frame.mono State.coldPath_frame rfl) (Frame.after (Frame.mono State.recordCause_frame rfl)
      (Frame.mono State.resetSwitched_frame rfl)))

theorem State.appRestart_frame {s a1 a2} : Frame [.rSysctl, .rPwr, .rClk, .rHarv, .rMan, .rEvr, .rMemctl, .rLogs,
    .rTide, .rTp, .rRtc, .rUart, .rI2ct, .rSpi, .rLgt, .rAdc, .rTouch, .rCrypto, .rGpio, .rDma, .rLife, .rTest,
    .rGnss, .rFront, .rPlan, .rLookout, .rBerth, .rSillage, .rMeasq, .rBitlog, .rOwn, .rQuay, .free, .mem, .chk,
    .app, .console, .manApp, .manSys, .crypto, .power, .life, .mems] s (State.appRestart s a1 a2) := by
  unfold State.appRestart
  exact (Frame.after (Frame.mono State.set_app_frame rfl) (Frame.after (Frame.mono State.allBasic_frame rfl)
      (Frame.after (Frame.mono State.domainOn_frame rfl) (Frame.after (Frame.mono State.newCode_frame rfl)
      (Frame.after (Frame.mono State.recordCause_frame rfl) (Frame.after (State.put_frame F.SYSCTL_WDTA_EN_part
      rfl) (Frame.mono State.manAppReset_frame rfl)))))))

theorem State.powerOn_frame {s a1 a2 a3} : Frame Part.most s (State.powerOn s a1 a2 a3) := by
  unfold State.powerOn
  exact (Frame.ite (Frame.after (Frame.mono State.systemRecord_frame rfl) (Frame.after (Frame.mono
      State.coldPath_frame rfl) (Frame.after (Frame.mono State.raise0_frame rfl) (Frame.after (Frame.mono
      State.backupReset_frame rfl) (Frame.after (State.flag_frame F.HARV_STAT_COLD_part rfl) (Frame.after
      (Frame.mono State.recordCause_frame rfl) (Frame.after (State.put_frame F.SYSCTL_RCAUSE_SEEN_part rfl)
      (Frame.after (Frame.mono State.set_power_life_pads_frame rfl) (Frame.after (Frame.mono State.loseMem_frame
      rfl) (Frame.after (Frame.mono State.resetAlwaysOn_frame rfl) (Frame.mono State.resetSwitched_frame
      rfl))))))))))) (Frame.after (Frame.mono State.coldPath_frame rfl) (Frame.after (State.flag_frame
      F.HARV_STAT_COLD_part rfl) (Frame.after (Frame.mono State.recordCause_frame rfl) (Frame.after
      (State.put_frame F.SYSCTL_RCAUSE_SEEN_part rfl) (Frame.after (Frame.mono State.set_power_life_pads_frame rfl)
      (Frame.after (Frame.mono State.loseMem_frame rfl) (Frame.after (Frame.mono State.resetAlwaysOn_frame rfl)
      (Frame.mono State.resetSwitched_frame rfl)))))))))

theorem execPowerOnReset_frame {a0 a1 s t} (h : execPowerOnReset a0 a1 s = .next t) :
    Frame Part.most s t := by
  obtain rfl := Host.Outcome.next.inj h
  exact (Frame.mono State.powerOn_frame rfl)

theorem execColdStartBoot_frame {a0 s t} (h : execColdStartBoot a0 s = .next t) :
    Frame Part.most s t := by
  obtain rfl := Host.Outcome.next.inj h
  exact (Frame.ite (Frame.mono State.powerOn_frame rfl) Frame.refl)

theorem execVbatBorRelease_frame {a0 s t} (h : execVbatBorRelease a0 s = .next t) :
    Frame Part.most s t := by
  obtain rfl := Host.Outcome.next.inj h
  exact (Frame.ite (Frame.after (Frame.mono State.coldPath_frame rfl) (Frame.after (Frame.mono
      State.recordCause_frame rfl) (Frame.ite (Frame.after (Frame.mono State.set_life_frame rfl) (Frame.after
      (Frame.mono State.loseMem_frame rfl) (Frame.after (Frame.mono State.resetAlwaysOn_frame rfl) (Frame.mono
      State.resetSwitched_frame rfl)))) (Frame.after (Frame.mono State.resetAlwaysOn_frame rfl) (Frame.mono
      State.resetSwitched_frame rfl))))) Frame.refl)

theorem execCoreBrownOut_frame {a0 s t} (h : execCoreBrownOut a0 s = .next t) :
    Frame Part.most s t := by
  obtain rfl := Host.Outcome.next.inj h
  exact (Frame.after (Frame.mono State.raise0_frame rfl) (Frame.ite (Frame.ite (Frame.after (Frame.mono
      State.logRecoverWarm_frame rfl) (Frame.after (Frame.mono State.allBasic_frame rfl) (Frame.after (Frame.mono
      State.bootMode_frame rfl) (Frame.after (Frame.mono State.tideToFast_frame rfl) (Frame.after (Frame.mono
      State.warmPath_frame rfl) (Frame.after (Frame.mono State.initRings_frame rfl) (Frame.after (State.count_frame
      F.PWR_STAT_CBOR_CNT_part rfl) (Frame.after (Frame.mono State.recordCause_frame rfl) (Frame.after (Frame.mono
      State.resetSwitched_frame rfl) (Frame.mono State.tideToAon_frame rfl)))))))))) (Frame.after (Frame.mono
      State.logRegs_frame rfl) (Frame.after (Frame.mono State.allBasic_frame rfl) (Frame.after (Frame.mono
      State.bootMode_frame rfl) (Frame.after (Frame.mono State.tideToFast_frame rfl) (Frame.after (Frame.mono
      State.warmPath_frame rfl) (Frame.after (Frame.mono State.initRings_frame rfl) (Frame.after (State.count_frame
      F.PWR_STAT_CBOR_CNT_part rfl) (Frame.after (Frame.mono State.recordCause_frame rfl) (Frame.after (Frame.mono
      State.resetSwitched_frame rfl) (Frame.mono State.tideToAon_frame rfl))))))))))) (Frame.after (Frame.mono
      State.tideToFast_frame rfl) (Frame.after (Frame.mono State.warmPath_frame rfl) (Frame.after (Frame.mono
      State.initRings_frame rfl) (Frame.after (State.count_frame F.PWR_STAT_CBOR_CNT_part rfl) (Frame.after
      (Frame.mono State.recordCause_frame rfl) (Frame.after (Frame.mono State.resetSwitched_frame rfl) (Frame.mono
      State.tideToAon_frame rfl)))))))))

theorem execNrstReset_frame {a0 s t} (h : execNrstReset a0 s = .next t) :
    Frame Part.most s t := by
  obtain rfl := Host.Outcome.next.inj h
  exact (Frame.mono State.resetCold_frame rfl)

theorem execSysWatchdogReset_frame {a0 s t} (h : execSysWatchdogReset a0 s = .next t) :
    Frame Part.most s t := by
  obtain rfl := Host.Outcome.next.inj h
  exact (Frame.mono State.resetCold_frame rfl)

theorem execAppWatchdogExpiry_frame {s t} (h : execAppWatchdogExpiry s = .next t) :
    Frame [.rSysctl, .rPwr, .rClk, .rHarv, .rMan, .rEvr, .rMemctl, .rLogs, .rTide, .rTp, .rRtc, .rUart, .rI2ct,
        .rSpi, .rLgt, .rAdc, .rTouch, .rCrypto, .rGpio, .rDma, .rLife, .rTest, .rGnss, .rFront, .rPlan, .rLookout,
        .rBerth, .rSillage, .rMeasq, .rBitlog, .rOwn, .rQuay, .free, .mem, .chk, .app, .console, .manApp, .manSys,
        .tide, .rtc, .crypto, .power, .life, .mems] s t := by
  obtain rfl := Host.Outcome.next.inj h
  exact (Frame.ite (Frame.after (Frame.mono State.appRestart_frame rfl) (Frame.mono State.passTo_frame rfl))
      Frame.refl)

theorem execSwrstApp_frame {a0 s t} (h : execSwrstApp a0 s = .next t) :
    Frame [.rSysctl, .rPwr, .rClk, .rHarv, .rMan, .rEvr, .rMemctl, .rLogs, .rTide, .rTp, .rRtc, .rUart, .rI2ct,
        .rSpi, .rLgt, .rAdc, .rTouch, .rCrypto, .rGpio, .rDma, .rLife, .rTest, .rGnss, .rFront, .rPlan, .rLookout,
        .rBerth, .rSillage, .rMeasq, .rBitlog, .rOwn, .rQuay, .free, .mem, .chk, .app, .console, .manApp, .manSys,
        .crypto, .power, .life, .mems] s t := by
  obtain rfl := Host.Outcome.next.inj h
  exact (Frame.ite (Frame.mono State.appRestart_frame rfl) Frame.refl)

theorem execSwrstAll_frame {a0 a1 a2 s t} (h : execSwrstAll a0 a1 a2 s = .next t) :
    Frame Part.most s t := by
  obtain rfl := Host.Outcome.next.inj h
  exact (Frame.ite (Frame.mono State.resetCold_frame rfl) Frame.refl)

theorem execDebugReset_frame {a0 s t} (h : execDebugReset a0 s = .next t) :
    Frame Part.most s t := by
  obtain rfl := Host.Outcome.next.inj h
  exact (Frame.ite (Frame.mono State.resetCold_frame rfl) Frame.refl)

theorem State.serveWdt_frame {s a1} : Frame [.power] s (State.serveWdt s a1) := by
  unfold State.serveWdt
  exact (Frame.ite (Frame.mono State.set_power_frame rfl) Frame.refl)

theorem execWdtaServe_frame {a0 s t} (h : execWdtaServe a0 s = .next t) :
    Frame [.power] s t := by
  obtain rfl := Host.Outcome.next.inj h
  exact (Frame.mono State.serveWdt_frame rfl)

theorem State.enableWdt_frame {s} : Frame [.rSysctl, .power] s (State.enableWdt s) := by
  unfold State.enableWdt
  exact (Frame.ite Frame.refl (Frame.after (Frame.mono State.set_power_frame rfl) (State.put_frame
      F.SYSCTL_WDTA_EN_part rfl)))

theorem execWdtaEnable_frame {s t} (h : execWdtaEnable s = .next t) :
    Frame [.rSysctl, .power] s t := by
  obtain rfl := Host.Outcome.next.inj h
  exact (Frame.mono State.enableWdt_frame rfl)

theorem State.sendAll_frame {n s x} : Frame [.console] s (State.sendAll n s x) := by
  induction n generalizing s with
  | zero => exact Frame.refl
  | succ n ih => exact Frame.ite Frame.refl (Frame.trans State.transmit_frame ih)

theorem State.okSent_frame {s a1} : Frame [.rPwr, .rMan, .rMemctl, .rQuay, .mem, .chk, .console, .manApp, .manSys,
    .power] s (State.okSent s a1) := by
  unfold State.okSent
  exact (Frame.after (Frame.mono State.sendAll_frame rfl) (Frame.mono State.ok_frame rfl))

theorem execSysReset_frame {a0 a1 s t} (h : execSysReset a0 a1 s = .next t) :
    Frame Part.most s t := by
  obtain rfl := Host.Outcome.next.inj h
  exact (State.run_frame rfl (fun _ => (Frame.ite (Frame.after (Frame.mono State.resetCold_frame rfl) (Frame.after
      (Frame.mono State.spend_frame rfl) (Frame.mono State.okSent_frame rfl))) (Frame.after (Frame.mono
      State.appRestart_frame rfl) (Frame.mono State.okSent_frame rfl)))))

theorem State.transit_frame {s a1 a2 a3} : Frame Part.most s (State.transit s a1 a2 a3) := by
  unfold State.transit
  exact (Frame.after (Frame.mono State.resetCold_frame rfl) (Frame.after (Frame.mono State.withLife_frame rfl)
      (Frame.after (State.put_frame F.MEMCTL_WIPE_BUSY_part rfl) (Frame.after (Frame.mono State.beginWipe_frame
      rfl) (Frame.after (Frame.mono State.needDomain_frame rfl) (Frame.after (State.put_frame
      F.LIFE_STATE_INTENT_part rfl) (Frame.after (Frame.mono State.withLife_frame rfl) (Frame.mono
      State.okSent_frame rfl))))))))

theorem execLifeGo_frame {a0 a1 a2 a3 s t} (h : execLifeGo a0 a1 a2 a3 s = .next t) :
    Frame Part.most s t := by
  obtain rfl := Host.Outcome.next.inj h
  exact (State.run_frame rfl (fun _ => (Frame.ite (Frame.after (Frame.mono State.er_frame rfl) (Frame.mono State.newCode_frame rfl)) (Frame.ite (Frame.after (Frame.mono State.er_frame rfl) (Frame.mono State.newCode_frame rfl)) (Frame.ite (Frame.after (Frame.mono State.er_frame rfl) (Frame.mono State.newCode_frame rfl)) (by (first | (dsimp only; split) | split); exact (Frame.after (Frame.mono State.er_frame rfl) (Frame.mono State.newCode_frame rfl)); exact (Frame.after (Frame.mono State.transit_frame rfl) (Frame.mono State.newCode_frame rfl))))))))

theorem execSleepExit_frame {a0 a1 s t} (h : execSleepExit a0 a1 s = .next t) :
    Frame [.rSysctl, .rPwr, .rClk, .rHarv, .rMan, .rEvr, .rMemctl, .rLogs, .rTide, .rTp, .rRtc, .rUart, .rI2ct,
        .rSpi, .rLgt, .rAdc, .rTouch, .rCrypto, .rGpio, .rDma, .rLife, .rTest, .rGnss, .rFront, .rPlan, .rLookout,
        .rBerth, .rSillage, .rMeasq, .rBitlog, .rOwn, .rQuay, .free, .mem, .chk, .app, .sys, .console, .manApp,
        .manSys, .tide, .tp, .rtc, .logs, .crypto, .power, .life, .gnss, .lgt, .uarts, .i2ct, .spis, .dma, .adc,
        .touch, .mems] s t := by
  obtain rfl := Host.Outcome.next.inj h
  exact (Frame.ite Frame.refl (Frame.after (Frame.mono State.raise0_frame rfl) (Frame.after (Frame.mono
      State.wakeRecords_frame rfl) (Frame.ite (Frame.after (Frame.mono State.set_power_frame rfl) (Frame.after
      (Frame.mono State.warmPath_frame rfl) (Frame.ite (Frame.after (Frame.foldl (fun _ _ => (Frame.mono
      State.domainOn_frame rfl)) _ _) (Frame.after (Frame.mono State.set_power_frame rfl) (Frame.after (Frame.mono
      State.wakeRecord_frame rfl) (Frame.mono State.tideSlept_frame rfl)))) (Frame.after (Frame.mono
      State.tideToFast_frame rfl) (Frame.after (Frame.foldl (fun _ _ => (Frame.mono State.domainOn_frame rfl)) _ _)
      (Frame.after (Frame.mono State.set_power_frame rfl) (Frame.after (Frame.mono State.wakeRecord_frame rfl)
      (Frame.mono State.tideSlept_frame rfl)))))))) (Frame.after (Frame.mono State.set_app_sys_frame rfl)
      (Frame.ite (Frame.after (Frame.foldl (fun _ _ => (Frame.mono State.domainOn_frame rfl)) _ _) (Frame.after
      (Frame.mono State.set_power_frame rfl) (Frame.after (Frame.mono State.wakeRecord_frame rfl) (Frame.mono
      State.tideSlept_frame rfl)))) (Frame.after (Frame.mono State.tideToFast_frame rfl) (Frame.after (Frame.foldl
      (fun _ _ => (Frame.mono State.domainOn_frame rfl)) _ _) (Frame.after (Frame.mono State.set_power_frame rfl)
      (Frame.after (Frame.mono State.wakeRecord_frame rfl) (Frame.mono State.tideSlept_frame rfl)))))))))))

end Sys2Proof.Machine
end

