-- ==== Sys2Proof/Laws/FrameAdc.lean ====
section
/-! SUPPORT. The frames of the operations and commands of Machine/Adc.lean: what each can change. -/

namespace Sys2Proof.Machine

theorem State.adcPush_frame {s a1} : Frame [.rPwr, .rMan, .rMemctl, .rAdc, .rQuay, .mem, .chk, .console, .manApp,
    .manSys, .power, .adc] s (State.adcPush s a1) := by
  unfold State.adcPush
  exact (Frame.ite (Frame.ite Frame.refl (Frame.after (Frame.mono State.raise0_frame rfl) (State.put_frame
      F.ADC_STAT_OVR_part rfl))) (Frame.ite (Frame.after (Frame.mono State.raise0_frame rfl) (Frame.after
      (State.put_frame F.ADC_STAT_LVL_part rfl) (Frame.mono State.withAdc_frame rfl))) (Frame.after
      (State.put_frame F.ADC_STAT_LVL_part rfl) (Frame.mono State.withAdc_frame rfl))))

theorem State.adcEnd_frame {s} : Frame [.rPwr, .rHarv, .rMan, .rEvr, .rMemctl, .rTide, .rSpi, .rAdc, .rTouch,
    .rGpio, .rGnss, .rFront, .rLookout, .rQuay, .mem, .chk, .busData, .console, .manApp, .manSys, .rtc, .power,
    .harv, .gnss, .lgt, .spis, .dma, .adc, .touch] s (State.adcEnd s) := by
  unfold State.adcEnd
  exact (Frame.after (Frame.mono State.fire_frame rfl) (Frame.after (Frame.mono State.raise0_frame rfl)
      (Frame.after (State.put_frame F.ADC_STAT_BUSY_part rfl) (Frame.mono State.withAdc_frame rfl))))

theorem State.adcReply_frame {s a1} : Frame [.rPwr, .rMan, .rMemctl, .rAdc, .rQuay, .mem, .chk, .console, .manApp,
    .manSys, .power, .adc] s (State.adcReply s a1) := by
  unfold State.adcReply
  exact (by (first | (dsimp only; split) | split); exact Frame.refl; exact (Frame.after (Frame.mono State.withTag_frame rfl) (Frame.after (Frame.mono State.ok_frame rfl) (Frame.after (Frame.mono State.reply_frame rfl) (Frame.after (Frame.mono State.withTag_frame rfl) (Frame.after (State.put_frame F.ADC_CFG_MODE_part rfl) (Frame.mono State.withAdc_frame rfl)))))))

theorem State.adcStore_frame {s a1 a2 a3 a4 a5} : Frame [.rPwr, .rMan, .rMemctl, .rAdc, .rQuay, .mem, .chk,
    .console, .manApp, .manSys, .power, .adc] s (State.adcStore s a1 a2 a3 a4 a5) := by
  unfold State.adcStore
  exact (Frame.ite Frame.refl (Frame.ite (by (first | (dsimp only; split) | split); exact (Frame.mono State.withAdc_frame rfl); exact (Frame.after (Frame.mono State.adcPush_frame rfl) (Frame.mono State.withAdc_frame rfl))) (Frame.mono State.adcPush_frame rfl)))

theorem State.adcNext_frame {s a1} : Frame [.rPwr, .rHarv, .rMan, .rEvr, .rMemctl, .rTide, .rSpi, .rAdc, .rTouch,
    .rGpio, .rGnss, .rFront, .rLookout, .rQuay, .mem, .chk, .busData, .console, .manApp, .manSys, .rtc, .power,
    .harv, .gnss, .lgt, .spis, .dma, .adc, .touch] s (State.adcNext s a1) := by
  unfold State.adcNext
  exact (Frame.ite (Frame.after (Frame.mono State.adcEnd_frame rfl) (Frame.mono State.withAdc_frame rfl))
      (Frame.mono State.withAdc_frame rfl))

theorem execAdcResult_frame {a0 s t} (h : execAdcResult a0 s = .next t) :
    Frame [.rPwr, .rHarv, .rMan, .rEvr, .rMemctl, .rTide, .rSpi, .rAdc, .rTouch, .rGpio, .rGnss, .rFront,
        .rLookout, .rQuay, .mem, .chk, .busData, .console, .manApp, .manSys, .rtc, .power, .harv, .gnss, .lgt,
        .spis, .dma, .adc, .touch] s t := by
  obtain rfl := Host.Outcome.next.inj h
  exact (by (first | (dsimp only; split) | split); exact Frame.refl; exact (Frame.after (Frame.mono State.adcNext_frame rfl) (Frame.after (Frame.mono State.adcReply_frame rfl) (Frame.ite (Frame.after (Frame.mono State.fire_frame rfl) (Frame.after (Frame.mono State.raise0_frame rfl) (Frame.after (State.put_frame F.ADC_STAT_WIN_part rfl) (Frame.after (Frame.mono State.adcStore_frame rfl) (Frame.ite Frame.refl (Frame.after (Frame.mono State.raise0_frame rfl) (Frame.mono State.withAdc_frame rfl))))))) (Frame.after (Frame.mono State.adcStore_frame rfl) (Frame.ite Frame.refl (Frame.after (Frame.mono State.raise0_frame rfl) (Frame.mono State.withAdc_frame rfl))))))))

theorem execAdcStart_frame {a0 s t} (h : execAdcStart a0 s = .next t) :
    Frame [.rPwr, .rMan, .rMemctl, .rLogs, .rAdc, .rCrypto, .rQuay, .mem, .chk, .busData, .console, .manApp,
        .manSys, .logs, .crypto, .power, .adc, .mems] s t := by
  obtain rfl := Host.Outcome.next.inj h
  exact (State.access_frame rfl (fun _ => (State.guardBusy_frame rfl (fun _ => (Frame.mono State.adcStart_frame
      rfl)))))

theorem execAdcStop_frame {a0 s t} (h : execAdcStop a0 s = .next t) :
    Frame [.rPwr, .rMan, .rMemctl, .rLogs, .rAdc, .rCrypto, .rQuay, .mem, .chk, .busData, .console, .manApp,
        .manSys, .logs, .crypto, .power, .adc, .mems] s t := by
  obtain rfl := Host.Outcome.next.inj h
  exact (State.access_frame rfl (fun _ => (State.guard_frame rfl (fun _ => (Frame.ite (Frame.mono
      State.withAdc_frame rfl) Frame.refl)))))

theorem State.adcFlush_frame {s} : Frame [.rAdc, .adc] s (State.adcFlush s) := by
  unfold State.adcFlush
  exact (Frame.after (State.put_frame F.ADC_STAT_LVL_part rfl) (Frame.mono State.withAdc_frame rfl))

theorem execAdcFlush_frame {a0 s t} (h : execAdcFlush a0 s = .next t) :
    Frame [.rPwr, .rMan, .rMemctl, .rLogs, .rAdc, .rCrypto, .rQuay, .mem, .chk, .busData, .console, .manApp,
        .manSys, .logs, .crypto, .power, .adc, .mems] s t := by
  obtain rfl := Host.Outcome.next.inj h
  exact (State.access_frame rfl (fun _ => (State.guard_frame rfl (fun _ => (Frame.mono State.adcFlush_frame rfl)))))

theorem State.adcPop_frame {s a1} : Frame [.rAdc, .busData, .adc] s (State.adcPop s a1) := by
  unfold State.adcPop
  exact (Frame.ite (Frame.mono State.set_busData_frame rfl) (by (first | (dsimp only; split) | split); exact (Frame.ite (Frame.after (Frame.mono State.set_busData_frame rfl) (State.put_frame F.ADC_STAT_UNF_part rfl)) (Frame.mono State.set_busData_frame rfl)); exact (Frame.after (Frame.mono State.set_busData_frame rfl) (Frame.after (State.put_frame F.ADC_STAT_LVL_part rfl) (Frame.mono State.withAdc_frame rfl)))))

theorem execAdcFifoRead_frame {a0 s t} (h : execAdcFifoRead a0 s = .next t) :
    Frame [.rPwr, .rMan, .rMemctl, .rLogs, .rAdc, .rCrypto, .rQuay, .mem, .chk, .busData, .console, .manApp,
        .manSys, .logs, .crypto, .power, .adc, .mems] s t := by
  obtain rfl := Host.Outcome.next.inj h
  exact (State.access_frame rfl (fun _ => (Frame.mono State.adcPop_frame rfl)))

theorem execAdcRefReady_frame {s t} (h : execAdcRefReady s = .next t) :
    Frame [.rAdc] s t := by
  obtain rfl := Host.Outcome.next.inj h
  exact (Frame.ite (State.put_frame F.ADC_STAT_READY_part rfl) Frame.refl)

theorem execAdcCalOk_frame {s t} (h : execAdcCalOk s = .next t) : Frame [.rAdc, .free] s t := by
  cases h
  refine Frame.ite (Frame.trans (State.put_frame F.ADC_STAT_CAL_OK_part rfl) (Frame.ite (Frame.ite Frame.refl
    (Frame.foldl (fun u j => State.puts_frame fun c hc => ?_) _ _)) (Frame.foldl (fun u j =>
    Frame.trans (Frame.trans (Frame.trans (Frame.mono State.spend_frame rfl) (State.put_frame F.ADC_COEF_OFS_part
        rfl))
      (Frame.trans (Frame.mono State.spend_frame rfl) (State.put_frame F.ADC_COEF_GAIN_part rfl)))
      (Frame.trans (Frame.mono State.spend_frame rfl) (State.put_frame F.ADC_COEF_SKEW_part rfl))) _ _))) Frame.refl
  simp only [List.mem_cons, List.not_mem_nil, or_false] at hc
  rcases hc with rfl | rfl | rfl
  · rw [F.ADC_COEF_OFS_part]; rfl
  · rw [F.ADC_COEF_GAIN_part]; rfl
  · rw [F.ADC_COEF_SKEW_part]; rfl

theorem State.adcCfgWrite_frame {s a1 a2} : Frame [.rPwr, .rMan, .rMemctl, .rAdc, .rQuay, .mem, .chk, .console,
    .manApp, .manSys, .power] s (State.adcCfgWrite s a1 a2) := by
  unfold State.adcCfgWrite
  exact (Frame.ite (State.deny_frame rfl) (State.underLedger_frame (State.writeFields_frame rfl) rfl rfl))

theorem refSettled_frame {e s t} (h : Frame e s t) (h0 : Part.sub [.rAdc] e = true := by rfl) : Frame e s
    (refSettled s t) :=
  h.trans (Frame.ite (State.put_frame F.ADC_STAT_READY_part h0) Frame.refl)

theorem State.adcRefWrite_frame {s a1 a2} : Frame [.rPwr, .rMan, .rMemctl, .rAdc, .rQuay, .mem, .chk, .console,
    .manApp, .manSys, .power] s (State.adcRefWrite s a1 a2) := by
  unfold State.adcRefWrite
  exact (Frame.ite (State.deny_frame rfl) (State.underLedger_frame (refSettled_frame (State.writeFields_frame rfl))
      rfl rfl))

theorem State.adcCorrWrite_frame {s a1 a2} : Frame [.rAdc] s (State.adcCorrWrite s a1 a2) := by
  unfold State.adcCorrWrite
  exact (Frame.ite (State.writeReg_frame rfl) (Frame.after (State.put_frame F.ADC_STAT_CAL_OK_part rfl)
      (State.writeReg_frame rfl)))

theorem execAdcMode_frame {a0 a1 s t} (h : execAdcMode a0 a1 s = .next t) :
    Frame [.rPwr, .rMan, .rMemctl, .rAdc, .rCrypto, .rQuay, .mem, .chk, .console, .manApp, .manSys, .crypto,
        .power, .mems] s t := by
  obtain rfl := Host.Outcome.next.inj h
  exact (State.run_frame rfl (fun _ => (Frame.after (State.settle_frame (State.put_frame F.ADC_CFG_MODE_part rfl)
      rfl rfl) (Frame.mono State.needDomain_frame rfl))))

theorem execAdcRef_frame {a0 a1 a2 s t} (h : execAdcRef a0 a1 a2 s = .next t) :
    Frame [.rPwr, .rMan, .rMemctl, .rAdc, .rCrypto, .rQuay, .mem, .chk, .console, .manApp, .manSys, .crypto,
        .power, .mems] s t := by
  obtain rfl := Host.Outcome.next.inj h
  exact (State.run_frame rfl (fun _ => (Frame.after (State.settle_frame (refSettled_frame (Frame.after
      (State.flag_frame F.ADC_REF_EN_part rfl) (State.flag_frame F.ADC_REF_SEL_part rfl))) rfl rfl) (Frame.mono
      State.needDomain_frame rfl))))

theorem execAdcReadQuery_frame {a0 a1 s t} (h : execAdcReadQuery a0 a1 s = .next t) :
    Frame [.rPwr, .rMan, .rMemctl, .rAdc, .rCrypto, .rQuay, .mem, .chk, .console, .manApp, .manSys, .crypto,
        .power, .adc, .mems] s t := by
  obtain rfl := Host.Outcome.next.inj h
  exact (State.run_frame rfl (fun _ => (Frame.ite (Frame.after (Frame.mono State.er_frame rfl) (Frame.mono
      State.needDomain_frame rfl)) (Frame.ite (Frame.after (Frame.mono State.er_frame rfl) (Frame.after
      (State.ledgerRefuse_frame rfl rfl) (Frame.mono State.needDomain_frame rfl))) (Frame.ite (Frame.after
      (Frame.mono State.er_frame rfl) (Frame.mono State.needDomain_frame rfl)) (Frame.after (State.put_frame
      F.ADC_STAT_BUSY_part rfl) (Frame.after (Frame.mono State.withAdc_frame rfl) (Frame.after (State.put_frame
      F.ADC_CFG_MODE_part rfl) (Frame.mono State.needDomain_frame rfl)))))))))

end Sys2Proof.Machine
end

