-- ==== Sys2Proof/Laws/FrameEvents.lean ====
section
/-! SUPPORT. The frames of the operations and commands of Machine/Events.lean: what each can change. -/

namespace Sys2Proof.Machine

theorem execManifestSourceEvent_frame {a0 a1 a2 s t} (h : execManifestSourceEvent a0 a1 a2 s = .next t) :
    Frame [.rPwr, .rMan, .rMemctl, .rQuay, .mem, .chk, .console, .manApp, .manSys, .power] s t := by
  obtain rfl := Host.Outcome.next.inj h
  exact (Frame.ite Frame.refl (Frame.mono State.raise_frame rfl))

theorem execManPop0Read_frame {a0 a1 s t} (h : execManPop0Read a0 a1 s = .next t) :
    Frame [.rMan, .busData, .manApp, .manSys] s t := by
  obtain rfl := Host.Outcome.next.inj h
  exact (Frame.mono State.popRead_frame rfl)

theorem State.manOwner_frame {e s m side ofs act} (h : ∀ t, Frame e t (act t)) (h0 : Part.sub [.rMan] e = true :=
    by rfl) :
    Frame e s (State.manOwner s m side ofs act) :=
  Frame.ite (State.deny_frame (by rw [Man.block_part]; exact h0)) (h s)

theorem State.writePend_frame {s a1 a2 a3} : Frame [.rMan] s (State.writePend s a1 a2 a3) := by
  unfold State.writePend
  exact (State.put_frame F.MAN_PEND_PEND_part rfl)

theorem execManMaskWrite_frame {a0 a1 a2 a3 s t} (h : execManMaskWrite a0 a1 a2 a3 s = .next t) :
    Frame [.rPwr, .rMan, .rMemctl, .mem, .chk, .manApp, .manSys] s t := by
  obtain rfl := Host.Outcome.next.inj h
  exact (State.manOwner_frame (fun _ => (Frame.mono State.writeMask_frame rfl)))

theorem execManPendWrite_frame {a0 a1 a2 a3 s t} (h : execManPendWrite a0 a1 a2 a3 s = .next t) :
    Frame [.rMan] s t := by
  obtain rfl := Host.Outcome.next.inj h
  exact (State.manOwner_frame (fun _ => (Frame.mono State.writePend_frame rfl)))

theorem State.alias__frame {e s m side ofs act}
    (h0 : Part.sub [.rPwr, .rMan, .rMemctl, .rQuay, .mem, .chk, .console, .manApp, .manSys, .power] e = true)
    (h : ∀ t, Frame e t (act t)) : Frame e s (State.alias_ s m side ofs act) :=
  State.manOwner_frame (fun t => Frame.ite (Frame.after (Frame.mono State.raise0_frame (Part.sub_trans rfl h0))
    (State.count_frame F.MAN_ALIASCNT_COUNT_part (Part.sub_trans rfl h0))) (h t)) (Part.sub_trans rfl h0)

theorem execManMaskset_frame {a0 a1 a2 a3 s t} (h : execManMaskset a0 a1 a2 a3 s = .next t) :
    Frame [.rPwr, .rMan, .rMemctl, .rQuay, .mem, .chk, .console, .manApp, .manSys, .power] s t := by
  obtain rfl := Host.Outcome.next.inj h
  exact (State.alias__frame rfl (fun _ => (Frame.mono State.writeMask_frame rfl)))

theorem execManMaskclr_frame {a0 a1 a2 a3 s t} (h : execManMaskclr a0 a1 a2 a3 s = .next t) :
    Frame [.rPwr, .rMan, .rMemctl, .rQuay, .mem, .chk, .console, .manApp, .manSys, .power] s t := by
  obtain rfl := Host.Outcome.next.inj h
  exact (State.alias__frame rfl (fun _ => (Frame.mono State.writeMask_frame rfl)))

theorem execManPendset_frame {a0 a1 a2 a3 s t} (h : execManPendset a0 a1 a2 a3 s = .next t) :
    Frame [.rPwr, .rMan, .rMemctl, .rQuay, .mem, .chk, .console, .manApp, .manSys, .power] s t := by
  obtain rfl := Host.Outcome.next.inj h
  exact (State.alias__frame rfl (fun _ => (Frame.mono State.writePend_frame rfl)))

theorem execManPendclr_frame {a0 a1 a2 a3 s t} (h : execManPendclr a0 a1 a2 a3 s = .next t) :
    Frame [.rPwr, .rMan, .rMemctl, .rQuay, .mem, .chk, .console, .manApp, .manSys, .power] s t := by
  obtain rfl := Host.Outcome.next.inj h
  exact (State.alias__frame rfl (fun _ => (Frame.mono State.writePend_frame rfl)))

theorem State.manRaise_frame {s a1 a2 a3} : Frame [.rPwr, .rMan, .rMemctl, .rQuay, .mem, .chk, .console, .manApp,
    .manSys, .power] s (State.manRaise s a1 a2 a3) := by
  unfold State.manRaise
  exact (Frame.ite (by (first | (dsimp only; split) | split); exact (Frame.mono State.sourceIn_frame rfl); exact (Frame.after (Frame.mono State.notices_frame rfl) (Frame.mono State.sourceIn_frame rfl))) Frame.refl)

theorem execManRaiseWrite_frame {a0 a1 a2 s t} (h : execManRaiseWrite a0 a1 a2 s = .next t) :
    Frame [.rPwr, .rMan, .rMemctl, .rQuay, .mem, .chk, .console, .manApp, .manSys, .power] s t := by
  obtain rfl := Host.Outcome.next.inj h
  exact (Frame.mono State.manRaise_frame rfl)

theorem execManCfgWrite_frame {a0 a1 a2 s t} (h : execManCfgWrite a0 a1 a2 s = .next t) :
    Frame [.rMan, .manApp, .manSys] s t := by
  obtain rfl := Host.Outcome.next.inj h
  exact (Frame.mono State.writeManCfg_frame rfl)

theorem execMneModerationTimeout_frame {a0 s t} (h : execMneModerationTimeout a0 s = .next t) :
    Frame [.manApp, .manSys] s t := by
  obtain rfl := Host.Outcome.next.inj h
  exact (Frame.ite Frame.refl (Frame.mono State.setMan_frame rfl))

theorem execProducerEvent_frame {a0 s t} (h : execProducerEvent a0 s = .next t) :
    Frame [.rPwr, .rHarv, .rMan, .rEvr, .rMemctl, .rTide, .rSpi, .rAdc, .rTouch, .rGpio, .rGnss, .rFront,
        .rLookout, .rQuay, .mem, .chk, .busData, .console, .manApp, .manSys, .rtc, .power, .harv, .gnss, .lgt,
        .spis, .dma, .adc, .touch] s t := by
  obtain rfl := Host.Outcome.next.inj h
  exact (Frame.mono State.fire_frame rfl)

theorem State.swTrig_frame {s a1} : Frame [.rPwr, .rHarv, .rMan, .rEvr, .rMemctl, .rTide, .rSpi, .rAdc, .rTouch,
    .rGpio, .rGnss, .rFront, .rLookout, .rQuay, .mem, .chk, .busData, .console, .manApp, .manSys, .rtc, .power,
    .harv, .gnss, .lgt, .spis, .dma, .adc, .touch] s (State.swTrig s a1) := by
  unfold State.swTrig
  exact (Frame.foldl (fun _ _ => (Frame.ite (Frame.mono State.fire_frame rfl) Frame.refl)) _ _)

theorem execEvrSwtrigWrite_frame {a0 s t} (h : execEvrSwtrigWrite a0 s = .next t) :
    Frame [.rPwr, .rHarv, .rMan, .rEvr, .rMemctl, .rTide, .rSpi, .rAdc, .rTouch, .rGpio, .rGnss, .rFront,
        .rLookout, .rQuay, .mem, .chk, .busData, .console, .manApp, .manSys, .rtc, .power, .harv, .gnss, .lgt,
        .spis, .dma, .adc, .touch] s t := by
  obtain rfl := Host.Outcome.next.inj h
  exact (Frame.mono State.swTrig_frame rfl)

theorem State.capRead_frame {s a1} : Frame [.rEvr, .busData] s (State.capRead s a1) := by
  unfold State.capRead
  exact (Frame.after (Frame.mono State.set_busData_frame rfl) (State.put_frame F.EVR_CAPSTAT_FULL_part rfl))

theorem execEvrCapfRead_frame {a0 s t} (h : execEvrCapfRead a0 s = .next t) :
    Frame [.rEvr, .busData] s t := by
  obtain rfl := Host.Outcome.next.inj h
  exact (Frame.mono State.capRead_frame rfl)

theorem execAonTick_frame {s t} (h : execAonTick s = .next t) :
    Frame [.rPwr, .rHarv, .rMan, .rEvr, .rMemctl, .rTide, .rSpi, .rAdc, .rTouch, .rGpio, .rGnss, .rFront,
        .rLookout, .rQuay, .mem, .chk, .busData, .console, .manApp, .manSys, .rtc, .power, .harv, .gnss, .lgt,
        .spis, .dma, .adc, .touch] s t := by
  obtain rfl := Host.Outcome.next.inj h
  exact (Frame.ite (Frame.mono State.fire_frame rfl) Frame.refl)

end Sys2Proof.Machine
end

