-- ==== Sys2Proof/Laws/FrameHarv.lean ====
section
/-! SUPPORT. The frames of the operations and commands of Machine/Harv.lean: what each can change. -/

namespace Sys2Proof.Machine

theorem State.updateCharge_frame {s} : Frame [.rHarv] s (State.updateCharge s) := by
  unfold State.updateCharge
  exact (State.flag_frame F.HARV_STAT_CHG_part rfl)

theorem execVocRefresh_frame {a0 s t} (h : execVocRefresh a0 s = .next t) :
    Frame [.rHarv] s t := by
  obtain rfl := Host.Outcome.next.inj h
  exact (Frame.ite Frame.refl (Frame.after (Frame.mono State.updateCharge_frame rfl) (State.put_frame
      F.HARV_IN_VOC_part rfl)))

theorem execOvpTrip_frame {s t} (h : execOvpTrip s = .next t) :
    Frame [.rPwr, .rHarv, .rMan, .rMemctl, .rQuay, .mem, .chk, .console, .manApp, .manSys, .power] s t := by
  obtain rfl := Host.Outcome.next.inj h
  exact (Frame.after (Frame.mono State.raise0_frame rfl) (Frame.after (Frame.mono State.updateCharge_frame rfl)
      (State.put_frame F.HARV_STAT_OVPT_part rfl)))

theorem execOvpRecover_frame {s t} (h : execOvpRecover s = .next t) :
    Frame [.rHarv] s t := by
  obtain rfl := Host.Outcome.next.inj h
  exact (Frame.after (Frame.mono State.updateCharge_frame rfl) (State.put_frame F.HARV_STAT_OVPT_part rfl))

theorem State.bandWake_frame {s a1 a2} : Frame [.power] s (State.bandWake s a1 a2) := by
  unfold State.bandWake
  exact (Frame.ite (Frame.mono State.wake_frame rfl) Frame.refl)

theorem State.setBand_frame {s a1} : Frame [.rPwr, .rHarv, .rMan, .rEvr, .rMemctl, .rTide, .rSpi, .rAdc, .rTouch,
    .rGpio, .rGnss, .rFront, .rLookout, .rQuay, .mem, .chk, .busData, .console, .manApp, .manSys, .rtc, .power,
    .harv, .gnss, .lgt, .spis, .dma, .adc, .touch] s (State.setBand s a1) := by
  unfold State.setBand
  exact (Frame.ite Frame.refl (Frame.after (Frame.mono State.updatePath_frame rfl) (Frame.ite (Frame.after
      (Frame.mono State.fire_frame rfl) (Frame.ite (Frame.after (Frame.mono State.fire_frame rfl) (Frame.ite
      (Frame.after (Frame.mono State.fire_frame rfl) (Frame.after (Frame.mono State.raise0_frame rfl) (Frame.after
      (Frame.mono State.cutGrant_frame rfl) (Frame.after (Frame.mono State.bandWake_frame rfl) (Frame.after
      (Frame.mono State.raise_frame rfl) (State.put_frame F.HARV_STAT_BAND_part rfl)))))) (Frame.after (Frame.mono
      State.bandWake_frame rfl) (Frame.after (Frame.mono State.raise_frame rfl) (State.put_frame
      F.HARV_STAT_BAND_part rfl))))) (Frame.ite (Frame.after (Frame.mono State.fire_frame rfl) (Frame.after
      (Frame.mono State.raise0_frame rfl) (Frame.after (Frame.mono State.cutGrant_frame rfl) (Frame.after
      (Frame.mono State.bandWake_frame rfl) (Frame.after (Frame.mono State.raise_frame rfl) (State.put_frame
      F.HARV_STAT_BAND_part rfl)))))) (Frame.after (Frame.mono State.bandWake_frame rfl) (Frame.after (Frame.mono
      State.raise_frame rfl) (State.put_frame F.HARV_STAT_BAND_part rfl)))))) (Frame.ite (Frame.after (Frame.mono
      State.fire_frame rfl) (Frame.ite (Frame.after (Frame.mono State.fire_frame rfl) (Frame.after (Frame.mono
      State.raise0_frame rfl) (Frame.after (Frame.mono State.cutGrant_frame rfl) (Frame.after (Frame.mono
      State.bandWake_frame rfl) (Frame.after (Frame.mono State.raise_frame rfl) (State.put_frame
      F.HARV_STAT_BAND_part rfl)))))) (Frame.after (Frame.mono State.bandWake_frame rfl) (Frame.after (Frame.mono
      State.raise_frame rfl) (State.put_frame F.HARV_STAT_BAND_part rfl))))) (Frame.ite (Frame.after (Frame.mono
      State.fire_frame rfl) (Frame.after (Frame.mono State.raise0_frame rfl) (Frame.after (Frame.mono
      State.cutGrant_frame rfl) (Frame.after (Frame.mono State.bandWake_frame rfl) (Frame.after (Frame.mono
      State.raise_frame rfl) (State.put_frame F.HARV_STAT_BAND_part rfl)))))) (Frame.after (Frame.mono
      State.bandWake_frame rfl) (Frame.after (Frame.mono State.raise_frame rfl) (State.put_frame
      F.HARV_STAT_BAND_part rfl))))))))

theorem execBandChange_frame {a0 s t} (h : execBandChange a0 s = .next t) :
    Frame [.rPwr, .rHarv, .rMan, .rEvr, .rMemctl, .rTide, .rSpi, .rAdc, .rTouch, .rGpio, .rGnss, .rFront,
        .rLookout, .rQuay, .mem, .chk, .busData, .console, .manApp, .manSys, .rtc, .power, .harv, .gnss, .lgt,
        .spis, .dma, .adc, .touch] s t := by
  obtain rfl := Host.Outcome.next.inj h
  exact (Frame.ite (Frame.mono State.setBand_frame rfl) Frame.refl)

theorem State.disconnect_frame {s a1} : Frame [.rPwr, .rHarv, .rMan, .rEvr, .rMemctl, .rTide, .rSpi, .rAdc,
    .rTouch, .rGpio, .rGnss, .rFront, .rLookout, .rQuay, .mem, .chk, .busData, .console, .manApp, .manSys, .rtc,
    .power, .harv, .gnss, .lgt, .spis, .dma, .adc, .touch] s (State.disconnect s a1) := by
  unfold State.disconnect
  exact (Frame.after (Frame.mono State.updatePath_frame rfl) (Frame.after (Frame.mono State.setBand_frame rfl)
      (Frame.after (State.put_frame F.PWR_PATH_STORE_OK_part rfl) (Frame.after (Frame.mono State.cutGrant_frame
      rfl) (Frame.after (Frame.mono State.set_harv_frame rfl) (State.put_frame F.HARV_STAT_CONN_part rfl))))))

theorem State.reconnect_frame {s a1} : Frame [.rHarv, .harv] s (State.reconnect s a1) := by
  unfold State.reconnect
  exact (Frame.ite (Frame.after (State.put_frame F.HARV_STAT_CONN_part rfl) (Frame.mono State.set_harv_frame rfl))
      (Frame.mono State.set_harv_frame rfl))

theorem execUvpTrip_frame {s t} (h : execUvpTrip s = .next t) :
    Frame [.rPwr, .rHarv, .rMan, .rEvr, .rMemctl, .rTide, .rSpi, .rAdc, .rTouch, .rGpio, .rGnss, .rFront,
        .rLookout, .rQuay, .mem, .chk, .busData, .console, .manApp, .manSys, .rtc, .power, .harv, .gnss, .lgt,
        .spis, .dma, .adc, .touch] s t := by
  obtain rfl := Host.Outcome.next.inj h
  exact (Frame.after (Frame.mono State.raise0_frame rfl) (Frame.after (Frame.mono State.disconnect_frame rfl)
      (State.put_frame F.HARV_STAT_UVP_part rfl)))

theorem execStoreReconnect_frame {s t} (h : execStoreReconnect s = .next t) :
    Frame [.rHarv, .harv] s t := by
  obtain rfl := Host.Outcome.next.inj h
  exact (Frame.mono State.reconnect_frame rfl)

theorem State.overcurrent_frame {s a1} : Frame [.rPwr, .rHarv, .rMan, .rEvr, .rMemctl, .rTide, .rSpi, .rAdc,
    .rTouch, .rGpio, .rGnss, .rFront, .rLookout, .rQuay, .mem, .chk, .busData, .console, .manApp, .manSys, .rtc,
    .power, .harv, .gnss, .lgt, .spis, .dma, .adc, .touch] s (State.overcurrent s a1) := by
  unfold State.overcurrent
  exact (Frame.ite (Frame.after (State.put_frame F.HARV_STAT_LATCH_part rfl) (Frame.after (Frame.mono
      State.raise0_frame rfl) (Frame.after (Frame.mono State.disconnect_frame rfl) (Frame.after (State.put_frame
      F.HARV_STAT_OCP_part rfl) (Frame.mono State.set_harv_frame rfl))))) (Frame.after (Frame.mono
      State.raise0_frame rfl) (Frame.after (Frame.mono State.disconnect_frame rfl) (Frame.after (State.put_frame
      F.HARV_STAT_OCP_part rfl) (Frame.mono State.set_harv_frame rfl)))))

theorem execOcpTrip_frame {a0 s t} (h : execOcpTrip a0 s = .next t) :
    Frame [.rPwr, .rHarv, .rMan, .rEvr, .rMemctl, .rTide, .rSpi, .rAdc, .rTouch, .rGpio, .rGnss, .rFront,
        .rLookout, .rQuay, .mem, .chk, .busData, .console, .manApp, .manSys, .rtc, .power, .harv, .gnss, .lgt,
        .spis, .dma, .adc, .touch] s t := by
  obtain rfl := Host.Outcome.next.inj h
  exact (Frame.mono State.overcurrent_frame rfl)

theorem execShortCircuitTrip_frame {a0 s t} (h : execShortCircuitTrip a0 s = .next t) :
    Frame [.rPwr, .rHarv, .rMan, .rEvr, .rMemctl, .rTide, .rSpi, .rAdc, .rTouch, .rGpio, .rGnss, .rFront,
        .rLookout, .rQuay, .mem, .chk, .busData, .console, .manApp, .manSys, .rtc, .power, .harv, .gnss, .lgt,
        .spis, .dma, .adc, .touch] s t := by
  obtain rfl := Host.Outcome.next.inj h
  exact (Frame.mono State.overcurrent_frame rfl)

theorem execReconnectRetry_frame {s t} (h : execReconnectRetry s = .next t) :
    Frame [.rHarv, .harv] s t := by
  obtain rfl := Host.Outcome.next.inj h
  exact (Frame.ite (Frame.mono State.reconnect_frame rfl) Frame.refl)

theorem State.clearLatch_frame {s} : Frame [.rHarv, .harv] s (State.clearLatch s) := by
  unfold State.clearLatch
  exact (Frame.ite (Frame.after (Frame.mono State.reconnect_frame rfl) (Frame.after (Frame.mono
      State.set_harv_frame rfl) (State.put_frame F.HARV_STAT_LATCH_part rfl))) Frame.refl)

theorem execHarvProtClr_frame {a0 s t} (h : execHarvProtClr a0 s = .next t) :
    Frame [.rHarv, .harv] s t := by
  obtain rfl := Host.Outcome.next.inj h
  exact (Frame.ite (State.deny_frame rfl) (Frame.mono State.clearLatch_frame rfl))

theorem execTemperatureSample_frame {a0 a1 s t} (h : execTemperatureSample a0 a1 s = .next t) :
    Frame [.rPwr, .rHarv, .rMan, .rMemctl, .rQuay, .mem, .chk, .console, .manApp, .manSys, .power] s t := by
  obtain rfl := Host.Outcome.next.inj h
  exact (Frame.ite (Frame.ite (Frame.after (Frame.mono State.updateCharge_frame rfl) (Frame.after (State.put_frame
      F.HARV_STAT_TBLK_part rfl) (State.put_frame F.HARV_IN_PIN_part rfl))) (State.put_frame F.HARV_IN_PIN_part
      rfl)) (Frame.ite (Frame.after (Frame.mono State.raise0_frame rfl) (Frame.after (Frame.mono
      State.updateCharge_frame rfl) (Frame.after (State.put_frame F.HARV_STAT_TBLK_part rfl) (State.put_frame
      F.HARV_IN_PIN_part rfl)))) (State.put_frame F.HARV_IN_PIN_part rfl)))

theorem State.measureStore_frame {s a1} : Frame [.rHarv] s (State.measureStore s a1) := by
  unfold State.measureStore
  exact (Frame.after (State.put_frame F.HARV_EST_E_part rfl) (State.put_frame F.HARV_STAT_VST_part rfl))

theorem State.grant_frame {s} : Frame [.rPwr, .rHarv, .rMan, .rEvr, .rMemctl, .rTide, .rSpi, .rAdc, .rTouch,
    .rGpio, .rGnss, .rFront, .rLookout, .rQuay, .mem, .chk, .busData, .console, .manApp, .manSys, .rtc, .power,
    .harv, .gnss, .lgt, .spis, .dma, .adc, .touch] s (State.grant s) := by
  unfold State.grant
  exact (Frame.after (Frame.mono State.fire_frame rfl) (Frame.after (State.put_frame F.HARV_PSTAT_GNT_part rfl)
      (State.put_frame F.HARV_PSTAT_WAIT_part rfl)))

theorem execStoreMeasure_frame {a0 s t} (h : execStoreMeasure a0 s = .next t) :
    Frame [.rPwr, .rHarv, .rMan, .rEvr, .rMemctl, .rTide, .rSpi, .rAdc, .rTouch, .rGpio, .rGnss, .rFront,
        .rLookout, .rQuay, .mem, .chk, .busData, .console, .manApp, .manSys, .rtc, .power, .harv, .gnss, .lgt,
        .spis, .dma, .adc, .touch] s t := by
  obtain rfl := Host.Outcome.next.inj h
  exact (Frame.ite (Frame.ite (Frame.after (Frame.mono State.grant_frame rfl) (Frame.mono State.measureStore_frame
      rfl)) (Frame.mono State.measureStore_frame rfl)) Frame.refl)

theorem execBpreqClassPulse_frame {a0 s t} (h : execBpreqClassPulse a0 s = .next t) :
    Frame [.rHarv, .harv] s t := by
  obtain rfl := Host.Outcome.next.inj h
  exact (Frame.ite Frame.refl (by (first | (dsimp only; split) | split); exact (Frame.mono State.set_harv_frame rfl); exact (Frame.after (Frame.mono State.set_harv_frame rfl) (State.count_frame F.HARV_PCNT_BADREQ_part rfl))))

theorem execPermitClassWrite_frame {a0 s t} (h : execPermitClassWrite a0 s = .next t) :
    Frame [.rHarv, .harv] s t := by
  obtain rfl := Host.Outcome.next.inj h
  exact (Frame.ite Frame.refl (Frame.ite (Frame.mono State.set_harv_frame rfl) (State.count_frame
      F.HARV_PCNT_BADREQ_part rfl)))

theorem execBpreqGapTimeout_frame {s t} (h : execBpreqGapTimeout s = .next t) :
    Frame [.rHarv, .harv] s t := by
  obtain rfl := Host.Outcome.next.inj h
  exact (Frame.ite (Frame.after (Frame.mono State.set_harv_frame rfl) (State.count_frame F.HARV_PCNT_BADREQ_part
      rfl)) Frame.refl)

theorem execBpreqRequest_frame {a0 s t} (h : execBpreqRequest a0 s = .next t) :
    Frame [.rPwr, .rHarv, .rMan, .rEvr, .rMemctl, .rTide, .rSpi, .rAdc, .rTouch, .rGpio, .rGnss, .rFront,
        .rLookout, .rQuay, .mem, .chk, .busData, .console, .manApp, .manSys, .rtc, .power, .harv, .gnss, .lgt,
        .spis, .dma, .adc, .touch] s t := by
  obtain rfl := Host.Outcome.next.inj h
  exact (by (first | (dsimp only; split) | split); exact Frame.refl; exact (Frame.ite Frame.refl (Frame.ite (Frame.after (Frame.mono State.raise_frame rfl) (Frame.after (State.count_frame F.HARV_PCNT_DENIED_part rfl) (Frame.after (State.put_frame F.HARV_PSTAT_NEVER_part rfl) (Frame.after (Frame.mono State.set_harv_frame rfl) (Frame.after (State.put_frame F.HARV_PSTAT_CUT_part rfl) (Frame.after (State.put_frame F.HARV_PSTAT_NEVER_part rfl) (Frame.after (State.put_frame F.HARV_PSTAT_CLS_part rfl) (Frame.mono State.measureStore_frame rfl)))))))) (Frame.ite (Frame.after (Frame.mono State.grant_frame rfl) (Frame.after (State.put_frame F.HARV_PSTAT_REQ_part rfl) (Frame.after (Frame.mono State.set_harv_frame rfl) (Frame.after (State.put_frame F.HARV_PSTAT_CUT_part rfl) (Frame.after (State.put_frame F.HARV_PSTAT_NEVER_part rfl) (Frame.after (State.put_frame F.HARV_PSTAT_CLS_part rfl) (Frame.mono State.measureStore_frame rfl))))))) (Frame.after (State.put_frame F.HARV_PSTAT_WAIT_part rfl) (Frame.after (State.put_frame F.HARV_PSTAT_REQ_part rfl) (Frame.after (Frame.mono State.set_harv_frame rfl) (Frame.after (State.put_frame F.HARV_PSTAT_CUT_part rfl) (Frame.after (State.put_frame F.HARV_PSTAT_NEVER_part rfl) (Frame.after (State.put_frame F.HARV_PSTAT_CLS_part rfl) (Frame.mono State.measureStore_frame rfl)))))))))))

theorem execBpreqDrop_frame {s t} (h : execBpreqDrop s = .next t) :
    Frame [.rHarv, .harv] s t := by
  obtain rfl := Host.Outcome.next.inj h
  exact (Frame.after (Frame.mono State.set_harv_frame rfl) (Frame.after (State.put_frame F.HARV_PSTAT_REQ_part rfl)
      (Frame.after (State.put_frame F.HARV_PSTAT_GNT_part rfl) (Frame.after (State.put_frame F.HARV_PSTAT_WAIT_part
      rfl) (Frame.ite (State.count_frame F.HARV_PCNT_DENIED_part rfl) Frame.refl)))))

theorem execGrantTimeout_frame {s t} (h : execGrantTimeout s = .next t) :
    Frame [.rHarv, .harv] s t := by
  obtain rfl := Host.Outcome.next.inj h
  exact (Frame.mono State.cutGrant_frame rfl)

theorem execColdStart_frame {s t} (h : execColdStart s = .next t) :
    Frame [.rHarv, .harv] s t := by
  obtain rfl := Host.Outcome.next.inj h
  exact (Frame.after (Frame.mono State.set_harv_frame rfl) (State.put_frame F.HARV_STAT_CHG_part rfl))

theorem execHarvQuery_frame {a0 s t} (h : execHarvQuery a0 s = .next t) :
    Frame [.rPwr, .rMan, .rMemctl, .rQuay, .mem, .chk, .console, .manApp, .manSys, .power] s t := by
  obtain rfl := Host.Outcome.next.inj h
  exact (State.run_frame rfl (fun _ => (Frame.after (Frame.mono State.ok_frame rfl) (Frame.mono State.reply_frame
      rfl))))

theorem execHarvMppt_frame {a0 a1 a2 s t} (h : execHarvMppt a0 a1 a2 s = .next t) :
    Frame [.rPwr, .rHarv, .rMan, .rMemctl, .rQuay, .mem, .chk, .console, .manApp, .manSys, .power] s t := by
  obtain rfl := Host.Outcome.next.inj h
  exact (State.run_frame rfl (fun _ => (Frame.after (Frame.mono State.ok_frame rfl) (Frame.after (Frame.mono State.updateCharge_frame rfl) (Frame.after (State.put_frame (by split; exact F.HARV_MPPT_FIXV_part; exact F.HARV_MPPT_FRAC_part) rfl) (State.flag_frame F.HARV_MPPT_MODE_part rfl))))))

theorem execHarvXmit_frame {a0 a1 s t} (h : execHarvXmit a0 a1 s = .next t) :
    Frame [.rPwr, .rHarv, .rMan, .rMemctl, .rQuay, .mem, .chk, .console, .manApp, .manSys, .power] s t := by
  obtain rfl := Host.Outcome.next.inj h
  exact (State.run_frame rfl (fun _ => (Frame.after (Frame.mono State.ok_frame rfl) (State.put_frame
      F.HARV_XMIT_LEVEL_part rfl))))

theorem execHarvOvp_frame {a0 a1 s t} (h : execHarvOvp a0 a1 s = .next t) :
    Frame [.rPwr, .rHarv, .rMan, .rMemctl, .rQuay, .mem, .chk, .console, .manApp, .manSys, .power] s t := by
  obtain rfl := Host.Outcome.next.inj h
  exact (State.run_frame rfl (fun _ => (Frame.after (Frame.mono State.ok_frame rfl) (State.flag_frame
      F.HARV_PROT_OVP_part rfl))))

theorem execHarvPermitQuery_frame {a0 s t} (h : execHarvPermitQuery a0 s = .next t) :
    Frame [.rPwr, .rMan, .rMemctl, .rQuay, .mem, .chk, .console, .manApp, .manSys, .power] s t := by
  obtain rfl := Host.Outcome.next.inj h
  exact (State.run_frame rfl (fun _ => (Frame.after (Frame.mono State.ok_frame rfl) (Frame.mono State.reply_frame
      rfl))))

end Sys2Proof.Machine
end

