-- ==== Sys2Proof/Laws/FrameI2ct.lean ====
section
/-! SUPPORT. The frames of the operations and commands of Machine/I2ct.lean: what each can change. -/

namespace Sys2Proof.Machine

theorem State.modI2ct_frame {s a1} : Frame [.rI2ct, .i2ct] s (State.modI2ct s a1) := by
  unfold State.modI2ct
  exact (Frame.after (State.puts_cons_frame F.I2CT_STAT_RXLVL_part rfl (State.puts_cons_frame
      F.I2CT_STAT_TXLVL_part rfl State.puts_nil_frame)) (Frame.mono State.set_i2ct_frame rfl))

theorem execI2ctAddressMatch_frame {a0 a1 s t} (h : execI2ctAddressMatch a0 a1 s = .next t) :
    Frame [.rPwr, .rHarv, .rMan, .rEvr, .rMemctl, .rTide, .rI2ct, .rSpi, .rAdc, .rTouch, .rGpio, .rGnss, .rFront,
        .rLookout, .rQuay, .mem, .chk, .busData, .console, .manApp, .manSys, .rtc, .power, .harv, .gnss, .lgt,
        .i2ct, .spis, .dma, .adc, .touch] s t := by
  obtain rfl := Host.Outcome.next.inj h
  exact (by (first | (dsimp only; split) | split); exact Frame.refl; exact (Frame.ite (Frame.after (Frame.mono State.wake_frame rfl) (Frame.mono State.fire_frame rfl)) (Frame.after (Frame.mono State.raiseK_frame rfl) (Frame.after (State.puts_cons_frame F.I2CT_STAT_BUSY_part rfl (State.puts_cons_frame F.I2CT_STAT_RW_part rfl State.puts_nil_frame)) (Frame.after (Frame.mono State.modI2ct_frame rfl) (Frame.after (Frame.mono State.wake_frame rfl) (Frame.mono State.fire_frame rfl)))))))

theorem execI2ctByteReceived_frame {a0 s t} (h : execI2ctByteReceived a0 s = .next t) :
    Frame [.rPwr, .rMan, .rMemctl, .rI2ct, .rQuay, .mem, .chk, .console, .manApp, .manSys, .power, .i2ct, .touch] s
        t := by
  obtain rfl := Host.Outcome.next.inj h
  exact (Frame.ite Frame.refl (by (first | (dsimp only; split) | split); exact (Frame.mono State.hostByte_frame rfl); exact (Frame.ite Frame.refl (Frame.after (Frame.mono State.raise0_frame rfl) (Frame.mono State.modI2ct_frame rfl))); exact Frame.refl))

theorem State.i2cStream_frame {s} : Frame [.rI2ct, .busData, .console, .i2ct] s (State.i2cStream s) := by
  unfold State.i2cStream
  exact (by (first | (dsimp only; split) | split); exact (Frame.after (Frame.mono State.set_busData_frame rfl) (Frame.ite (Frame.after (Frame.mono State.modI2ct_frame rfl) (Frame.mono State.transmit_frame rfl)) Frame.refl)); exact (Frame.after (Frame.mono State.set_busData_frame rfl) (Frame.after (Frame.mono State.modI2ct_frame rfl) (Frame.ite (Frame.after (Frame.mono State.modI2ct_frame rfl) (Frame.mono State.transmit_frame rfl)) Frame.refl))))

theorem execI2ctByteSent_frame {s t} (h : execI2ctByteSent s = .next t) :
    Frame [.rPwr, .rMan, .rMemctl, .rI2ct, .rQuay, .mem, .chk, .busData, .console, .manApp, .manSys, .power, .i2ct]
        s t := by
  obtain rfl := Host.Outcome.next.inj h
  exact (Frame.ite Frame.refl (by (first | (dsimp only; split) | split); exact (Frame.mono State.i2cStream_frame rfl); exact (Frame.mono State.set_busData_frame rfl); exact (by (first | (dsimp only; split) | split); exact Frame.refl; exact (Frame.ite (Frame.after (Frame.mono State.raise0_frame rfl) (Frame.after (Frame.mono State.set_busData_frame rfl) (Frame.mono State.modI2ct_frame rfl))) (Frame.after (Frame.mono State.set_busData_frame rfl) (Frame.mono State.modI2ct_frame rfl)))); exact Frame.refl))

theorem execI2ctStretchTimeout_frame {s t} (h : execI2ctStretchTimeout s = .next t) :
    Frame [.rPwr, .rMan, .rMemctl, .rI2ct, .rQuay, .mem, .chk, .busData, .console, .manApp, .manSys, .power] s t := by
  obtain rfl := Host.Outcome.next.inj h
  exact (Frame.ite (Frame.after (Frame.mono State.set_busData_frame rfl) (Frame.after (Frame.mono
      State.raise0_frame rfl) (State.put_frame F.I2CT_STAT_TMO_part rfl))) Frame.refl)

theorem execI2ctStop_frame {s t} (h : execI2ctStop s = .next t) :
    Frame [.rPwr, .rMan, .rMemctl, .rI2ct, .rQuay, .mem, .chk, .console, .manApp, .manSys, .power, .i2ct] s t := by
  obtain rfl := Host.Outcome.next.inj h
  exact (Frame.ite (Frame.after (Frame.mono State.raise0_frame rfl) (Frame.after (State.puts_cons_frame
      F.I2CT_STAT_BUSY_part rfl (State.puts_cons_frame F.I2CT_STAT_RW_part rfl State.puts_nil_frame)) (Frame.mono
      State.modI2ct_frame rfl))) Frame.refl)

theorem State.i2cRead_frame {s a1} : Frame [.rI2ct, .busData, .i2ct] s (State.i2cRead s a1) := by
  unfold State.i2cRead
  exact (by (first | (dsimp only; split) | split); exact (Frame.mono State.set_busData_frame rfl); exact (Frame.after (Frame.mono State.set_busData_frame rfl) (Frame.ite (Frame.mono State.modI2ct_frame rfl) Frame.refl)))

theorem execI2ctDataRead_frame {a0 s t} (h : execI2ctDataRead a0 s = .next t) :
    Frame [.rPwr, .rMan, .rMemctl, .rLogs, .rI2ct, .rCrypto, .rQuay, .mem, .chk, .busData, .console, .manApp,
        .manSys, .logs, .crypto, .power, .i2ct, .mems] s t := by
  obtain rfl := Host.Outcome.next.inj h
  exact (State.access_frame rfl (fun _ => (Frame.mono State.i2cRead_frame rfl)))

theorem State.i2cWrite_frame {s a1 a2} : Frame [.rI2ct, .i2ct] s (State.i2cWrite s a1 a2) := by
  unfold State.i2cWrite
  exact (State.guard_frame rfl (fun _ => (Frame.ite Frame.refl (Frame.mono State.modI2ct_frame rfl))))

theorem execI2ctDataWrite_frame {a0 a1 s t} (h : execI2ctDataWrite a0 a1 s = .next t) :
    Frame [.rPwr, .rMan, .rMemctl, .rLogs, .rI2ct, .rCrypto, .rQuay, .mem, .chk, .busData, .console, .manApp,
        .manSys, .logs, .crypto, .power, .i2ct, .mems] s t := by
  obtain rfl := Host.Outcome.next.inj h
  exact (State.access_frame rfl (fun _ => (Frame.mono State.i2cWrite_frame rfl)))

end Sys2Proof.Machine
end

