-- ==== Sys2Proof/Laws/FrameSpi.lean ====
section
/-! SUPPORT. The frames of the operations and commands of Machine/Spi.lean: what each can change. -/

namespace Sys2Proof.Machine

theorem spiBlock_part {k : Nat} : (spiBlock k).part = .rSpi := by unfold spiBlock; split <;> rfl

theorem State.modSpi_frame {s a1 a2} : Frame [.rSpi, .spis] s (State.modSpi s a1 a2) := by
  unfold State.modSpi
  exact (Frame.after (State.puts_cons_frame F.SPI_STAT_RXLVL_part rfl (State.puts_cons_frame F.SPI_STAT_TXLVL_part
      rfl State.puts_nil_frame)) (Frame.mono State.setSpi_frame rfl))

theorem State.spiEnd_frame {s a1} : Frame [.rPwr, .rHarv, .rMan, .rEvr, .rMemctl, .rTide, .rSpi, .rAdc, .rTouch,
    .rGpio, .rGnss, .rFront, .rLookout, .rQuay, .mem, .chk, .busData, .console, .manApp, .manSys, .rtc, .power,
    .harv, .gnss, .lgt, .spis, .dma, .adc, .touch] s (State.spiEnd s a1) := by
  unfold State.spiEnd
  exact (Frame.after (Frame.mono State.fire_frame rfl) (Frame.after (Frame.mono State.raise0_frame rfl)
      (Frame.after (State.put_frame F.SPI_STAT_BUSY_part rfl) (Frame.mono State.modSpi_frame rfl))))

theorem execSpiStart_frame {a0 a1 s t} (h : execSpiStart a0 a1 s = .next t) :
    Frame [.rPwr, .rMan, .rMemctl, .rLogs, .rSpi, .rCrypto, .rQuay, .mem, .chk, .busData, .console, .manApp,
        .manSys, .logs, .crypto, .power, .spis, .mems] s t := by
  obtain rfl := Host.Outcome.next.inj h
  exact (State.access_frame rfl (fun _ => (State.guard_frame (by rw [spiBlock_part]; rfl) (fun _ => (Frame.mono State.spiStart_frame rfl)))))

theorem State.spiAbort_frame {s a1} : Frame [.rPwr, .rHarv, .rMan, .rEvr, .rMemctl, .rTide, .rSpi, .rAdc, .rTouch,
    .rGpio, .rGnss, .rFront, .rLookout, .rQuay, .mem, .chk, .busData, .console, .manApp, .manSys, .rtc, .power,
    .harv, .gnss, .lgt, .spis, .dma, .adc, .touch] s (State.spiAbort s a1) := by
  unfold State.spiAbort
  exact (Frame.ite Frame.refl (Frame.ite (Frame.mono State.spiEnd_frame rfl) (Frame.mono State.modSpi_frame rfl)))

theorem execSpiAbort_frame {a0 a1 s t} (h : execSpiAbort a0 a1 s = .next t) :
    Frame [.rPwr, .rHarv, .rMan, .rEvr, .rMemctl, .rLogs, .rTide, .rSpi, .rAdc, .rTouch, .rCrypto, .rGpio, .rGnss,
        .rFront, .rLookout, .rQuay, .mem, .chk, .busData, .console, .manApp, .manSys, .rtc, .logs, .crypto, .power,
        .harv, .gnss, .lgt, .spis, .dma, .adc, .touch, .mems] s t := by
  obtain rfl := Host.Outcome.next.inj h
  exact (State.access_frame rfl (fun _ => (State.guard_frame (by rw [spiBlock_part]; rfl) (fun _ => (Frame.mono State.spiAbort_frame rfl)))))

theorem State.hostFrame_frame {s a1 a2} : Frame [.rPwr, .rHarv, .rMan, .rEvr, .rMemctl, .rTide, .rSpi, .rAdc,
    .rTouch, .rGpio, .rGnss, .rFront, .rLookout, .rQuay, .mem, .chk, .busData, .console, .manApp, .manSys, .rtc,
    .power, .harv, .gnss, .lgt, .spis, .dma, .adc, .touch] s (State.hostFrame s a1 a2) := by
  unfold State.hostFrame
  exact (Frame.ite Frame.refl (Frame.ite (Frame.after (Frame.mono State.spiEnd_frame rfl) (Frame.after (Frame.mono
      State.set_busData_frame rfl) (Frame.mono State.modSpi_frame rfl))) (Frame.after (Frame.mono
      State.set_busData_frame rfl) (Frame.mono State.modSpi_frame rfl))))

theorem State.targetFrame_frame {s a1 a2} : Frame [.rPwr, .rMan, .rMemctl, .rSpi, .rQuay, .mem, .chk, .busData,
    .console, .manApp, .manSys, .power, .spis] s (State.targetFrame s a1 a2) := by
  unfold State.targetFrame
  exact (Frame.ite (Frame.after (Frame.mono State.raise0_frame rfl) (Frame.after (State.put_frame F.SPI_STAT_OVR_part rfl) (by (first | (dsimp only; split) | split); exact (Frame.after (Frame.mono State.set_busData_frame rfl) (Frame.after (Frame.mono State.raise0_frame rfl) (Frame.after (State.put_frame F.SPI_STAT_UDR_part rfl) (State.put_frame F.SPI_STAT_BUSY_part rfl)))); exact (Frame.after (Frame.mono State.set_busData_frame rfl) (Frame.after (Frame.mono State.modSpi_frame rfl) (State.put_frame F.SPI_STAT_BUSY_part rfl)))))) (Frame.after (Frame.mono State.modSpi_frame rfl) (by (first | (dsimp only; split) | split); exact (Frame.after (Frame.mono State.set_busData_frame rfl) (Frame.after (Frame.mono State.raise0_frame rfl) (Frame.after (State.put_frame F.SPI_STAT_UDR_part rfl) (State.put_frame F.SPI_STAT_BUSY_part rfl)))); exact (Frame.after (Frame.mono State.set_busData_frame rfl) (Frame.after (Frame.mono State.modSpi_frame rfl) (State.put_frame F.SPI_STAT_BUSY_part rfl))))))

theorem execSpiFrame_frame {a0 a1 s t} (h : execSpiFrame a0 a1 s = .next t) :
    Frame [.rPwr, .rHarv, .rMan, .rEvr, .rMemctl, .rTide, .rSpi, .rAdc, .rTouch, .rGpio, .rGnss, .rFront,
        .rLookout, .rQuay, .mem, .chk, .busData, .console, .manApp, .manSys, .rtc, .power, .harv, .gnss, .lgt,
        .spis, .dma, .adc, .touch] s t := by
  obtain rfl := Host.Outcome.next.inj h
  exact (Frame.ite Frame.refl (Frame.ite (Frame.mono State.hostFrame_frame rfl) (Frame.mono State.targetFrame_frame
      rfl)))

theorem execSpiCsRaise_frame {a0 a1 s t} (h : execSpiCsRaise a0 a1 s = .next t) :
    Frame [.rPwr, .rHarv, .rMan, .rEvr, .rMemctl, .rTide, .rSpi, .rAdc, .rTouch, .rGpio, .rGnss, .rFront,
        .rLookout, .rQuay, .mem, .chk, .busData, .console, .manApp, .manSys, .rtc, .power, .harv, .gnss, .lgt,
        .spis, .dma, .adc, .touch] s t := by
  obtain rfl := Host.Outcome.next.inj h
  exact (Frame.ite (Frame.after (Frame.mono State.spiEnd_frame rfl) (Frame.ite (Frame.after (Frame.mono
      State.raise0_frame rfl) (State.put_frame F.SPI_STAT_CSABORT_part rfl)) Frame.refl)) Frame.refl)

theorem State.spiRead_frame {s a1 a2} : Frame [.rSpi, .free, .busData, .spis] s (State.spiRead s a1 a2) := by
  unfold State.spiRead
  exact (by (first | (dsimp only; split) | split); exact (Frame.after (Frame.mono State.set_busData_frame rfl) (Frame.mono State.spend_frame rfl)); exact (Frame.after (Frame.mono State.set_busData_frame rfl) (Frame.ite (Frame.mono State.modSpi_frame rfl) Frame.refl)))

theorem execSpiDataRead_frame {a0 a1 s t} (h : execSpiDataRead a0 a1 s = .next t) :
    Frame [.rPwr, .rMan, .rMemctl, .rLogs, .rSpi, .rCrypto, .rQuay, .free, .mem, .chk, .busData, .console, .manApp,
        .manSys, .logs, .crypto, .power, .spis, .mems] s t := by
  obtain rfl := Host.Outcome.next.inj h
  exact (State.access_frame rfl (fun _ => (Frame.mono State.spiRead_frame rfl)))

theorem State.spiWrite_frame {s a1 a2 a3} : Frame [.rSpi, .spis] s (State.spiWrite s a1 a2 a3) := by
  unfold State.spiWrite
  exact (State.guard_frame (by rw [spiBlock_part]; rfl) (fun _ => (Frame.ite Frame.refl (Frame.mono State.modSpi_frame rfl))))

theorem execSpiDataWrite_frame {a0 a1 a2 s t} (h : execSpiDataWrite a0 a1 a2 s = .next t) :
    Frame [.rPwr, .rMan, .rMemctl, .rLogs, .rSpi, .rCrypto, .rQuay, .mem, .chk, .busData, .console, .manApp,
        .manSys, .logs, .crypto, .power, .spis, .mems] s t := by
  obtain rfl := Host.Outcome.next.inj h
  exact (State.access_frame rfl (fun _ => (Frame.mono State.spiWrite_frame rfl)))

end Sys2Proof.Machine
end

