-- ==== Sys2Proof/Laws/FrameTp.lean ====
section
/-! SUPPORT. The frames of the operations and commands of Machine/Tp.lean: what each can change. -/

namespace Sys2Proof.Machine

theorem execTpLeadingEdge_frame {s t} (h : execTpLeadingEdge s = .next t) :
    Frame [.rPwr, .rHarv, .rMan, .rEvr, .rMemctl, .rTide, .rTp, .rSpi, .rAdc, .rTouch, .rGpio, .rGnss, .rFront,
        .rLookout, .rQuay, .mem, .chk, .busData, .console, .manApp, .manSys, .tp, .rtc, .power, .harv, .gnss, .lgt,
        .spis, .dma, .adc, .touch] s t := by
  obtain rfl := Host.Outcome.next.inj h
  exact (Frame.ite (Frame.after (Frame.mono State.fire_frame rfl) (Frame.ite (Frame.after (Frame.mono
      State.raise_frame rfl) (Frame.after (Frame.mono State.reportPulse_frame rfl) (Frame.mono State.withTp_frame
      rfl))) (Frame.after (Frame.mono State.reportPulse_frame rfl) (Frame.mono State.withTp_frame rfl)))) Frame.refl)

theorem State.applyPulse_frame {s} : Frame [.rPwr, .rMan, .rMemctl, .rTp, .rQuay, .mem, .chk, .console, .manApp,
    .manSys, .tp, .power] s (State.applyPulse s) := by
  unfold State.applyPulse
  exact (Frame.ite (Frame.after (Frame.mono State.pulsePolicy_frame rfl) (Frame.after (Frame.mono
      State.reportPulse_frame rfl) (Frame.ite (Frame.after (State.put_frame F.TP_STAT_SKIP_part rfl) (Frame.after
      (Frame.mono State.withTp_frame rfl) (Frame.after (State.put_frame F.TP_STAT_APPLY_PEND_part rfl) (Frame.after
      (Frame.mono State.withTp_frame rfl) (Frame.ite (State.puts_cons_frame F.TP_PERS_SEC_part rfl
      (State.puts_cons_frame F.TP_PERF_FRAC_part rfl State.puts_nil_frame)) Frame.refl))))) (Frame.after
      (Frame.mono State.withTp_frame rfl) (Frame.after (State.put_frame F.TP_STAT_APPLY_PEND_part rfl) (Frame.after
      (Frame.mono State.withTp_frame rfl) (Frame.ite (State.puts_cons_frame F.TP_PERS_SEC_part rfl
      (State.puts_cons_frame F.TP_PERF_FRAC_part rfl State.puts_nil_frame)) Frame.refl))))))) (Frame.after
      (State.put_frame F.TP_STAT_APPLY_PEND_part rfl) (Frame.after (Frame.mono State.withTp_frame rfl) (Frame.ite
      (State.puts_cons_frame F.TP_PERS_SEC_part rfl (State.puts_cons_frame F.TP_PERF_FRAC_part rfl
      State.puts_nil_frame)) Frame.refl))))

theorem State.releasePulse_frame {s} : Frame [.rPwr, .rMan, .rMemctl, .rTp, .rQuay, .mem, .chk, .console, .manApp,
    .manSys, .tp, .power] s (State.releasePulse s) := by
  unfold State.releasePulse
  exact (Frame.ite (State.put_frame F.TP_STAT_APPLY_PEND_part rfl) (Frame.mono State.applyPulse_frame rfl))

theorem execTpTrailingEdge_frame {s t} (h : execTpTrailingEdge s = .next t) :
    Frame [.rPwr, .rMan, .rMemctl, .rTp, .rQuay, .mem, .chk, .console, .manApp, .manSys, .tp, .power] s t := by
  obtain rfl := Host.Outcome.next.inj h
  exact (Frame.ite (Frame.after (Frame.mono State.applyPulse_frame rfl) (Frame.mono State.withTp_frame rfl))
      (Frame.mono State.withTp_frame rfl))

theorem execTpCtrlApply_frame {a0 s t} (h : execTpCtrlApply a0 s = .next t) :
    Frame [.rPwr, .rMan, .rMemctl, .rTp, .rQuay, .mem, .chk, .console, .manApp, .manSys, .tp, .power] s t := by
  obtain rfl := Host.Outcome.next.inj h
  exact (State.guard_frame rfl (fun _ => (Frame.mono State.releasePulse_frame rfl)))

theorem State.enablePulse_frame {s a1} : Frame [.rPwr, .rClk, .rMan, .rMemctl, .rTp, .rQuay, .mem, .chk, .console,
    .manApp, .manSys, .tp, .power] s (State.enablePulse s a1) := by
  unfold State.enablePulse
  exact (Frame.ite (Frame.after (Frame.mono State.xtalFollow_frame rfl) (Frame.after (Frame.mono
      State.pulseOn_frame rfl) (Frame.after (Frame.mono State.pulsePolicy_frame rfl) (Frame.after (Frame.mono
      State.pulseAlign_frame rfl) (State.flag_frame F.TP_CTRL_EN_part rfl))))) (Frame.ite (State.flag_frame
      F.TP_CTRL_EN_part rfl) (Frame.after (Frame.mono State.xtalFollow_frame rfl) (Frame.after (Frame.mono
      State.pulseOn_frame rfl) (Frame.after (Frame.mono State.pulsePolicy_frame rfl) (Frame.after (State.put_frame
      F.TP_QERR_VALID_part rfl) (Frame.after (Frame.mono State.withTp_frame rfl) (State.flag_frame
      F.TP_CTRL_EN_part rfl))))))))

theorem execTpOnOff_frame {a0 a1 s t} (h : execTpOnOff a0 a1 s = .next t) :
    Frame [.rPwr, .rClk, .rMan, .rMemctl, .rTp, .rQuay, .mem, .chk, .console, .manApp, .manSys, .tp, .power] s t := by
  obtain rfl := Host.Outcome.next.inj h
  exact (State.run_frame rfl (fun _ => (State.settle_frame (Frame.mono State.enablePulse_frame rfl) rfl rfl)))

theorem execTpSet_frame {a0 a1 a2 a3 a4 s t} (h : execTpSet a0 a1 a2 a3 a4 s = .next t) :
    Frame [.rPwr, .rMan, .rMemctl, .rTp, .rQuay, .mem, .chk, .console, .manApp, .manSys, .tp, .power] s t := by
  obtain rfl := Host.Outcome.next.inj h
  exact (State.run_frame rfl (fun _ => (Frame.ite (Frame.mono State.er_frame rfl) (Frame.after (Frame.mono State.ok_frame rfl) (Frame.after (Frame.mono State.releasePulse_frame rfl) (by (first | (dsimp only; split) | split); exact (Frame.after (State.put_frame F.TP_CTRL_SCALE_part rfl) (by (first | (dsimp only; split) | split); exact (Frame.after (State.flag_frame F.TP_CTRL_POL_part rfl) (by (first | (dsimp only; split) | split); exact (Frame.after (State.put_frame F.TP_WIDTH_TICKS_part rfl) (by (first | (dsimp only; split) | split); exact (Frame.after (State.put_frame F.TP_PERF_FRAC_part rfl) (State.put_frame F.TP_PERS_SEC_part rfl)); exact Frame.refl)); exact (by (first | (dsimp only; split) | split); exact (Frame.after (State.put_frame F.TP_PERF_FRAC_part rfl) (State.put_frame F.TP_PERS_SEC_part rfl)); exact Frame.refl))); exact (by (first | (dsimp only; split) | split); exact (Frame.after (State.put_frame F.TP_WIDTH_TICKS_part rfl) (by (first | (dsimp only; split) | split); exact (Frame.after (State.put_frame F.TP_PERF_FRAC_part rfl) (State.put_frame F.TP_PERS_SEC_part rfl)); exact Frame.refl)); exact (by (first | (dsimp only; split) | split); exact (Frame.after (State.put_frame F.TP_PERF_FRAC_part rfl) (State.put_frame F.TP_PERS_SEC_part rfl)); exact Frame.refl)))); exact (by (first | (dsimp only; split) | split); exact (Frame.after (State.flag_frame F.TP_CTRL_POL_part rfl) (by (first | (dsimp only; split) | split); exact (Frame.after (State.put_frame F.TP_WIDTH_TICKS_part rfl) (by (first | (dsimp only; split) | split); exact (Frame.after (State.put_frame F.TP_PERF_FRAC_part rfl) (State.put_frame F.TP_PERS_SEC_part rfl)); exact Frame.refl)); exact (by (first | (dsimp only; split) | split); exact (Frame.after (State.put_frame F.TP_PERF_FRAC_part rfl) (State.put_frame F.TP_PERS_SEC_part rfl)); exact Frame.refl))); exact (by (first | (dsimp only; split) | split); exact (Frame.after (State.put_frame F.TP_WIDTH_TICKS_part rfl) (by (first | (dsimp only; split) | split); exact (Frame.after (State.put_frame F.TP_PERF_FRAC_part rfl) (State.put_frame F.TP_PERS_SEC_part rfl)); exact Frame.refl)); exact (by (first | (dsimp only; split) | split); exact (Frame.after (State.put_frame F.TP_PERF_FRAC_part rfl) (State.put_frame F.TP_PERS_SEC_part rfl)); exact Frame.refl)))))))))

theorem execTpDelay_frame {a0 a1 s t} (h : execTpDelay a0 a1 s = .next t) :
    Frame [.rPwr, .rMan, .rMemctl, .rTp, .rQuay, .mem, .chk, .console, .manApp, .manSys, .tp, .power] s t := by
  obtain rfl := Host.Outcome.next.inj h
  exact (State.run_frame rfl (fun _ => (Frame.ite (Frame.after (Frame.mono State.ok_frame rfl) (Frame.after
      (Frame.mono State.releasePulse_frame rfl) (State.putS_frame F.TP_DELAY_DELAY_part rfl))) (Frame.mono
      State.er_frame rfl))))

theorem execTpPolicy_frame {a0 a1 s t} (h : execTpPolicy a0 a1 s = .next t) :
    Frame [.rPwr, .rMan, .rMemctl, .rTp, .rQuay, .mem, .chk, .console, .manApp, .manSys, .tp, .power] s t := by
  obtain rfl := Host.Outcome.next.inj h
  exact (State.run_frame rfl (fun _ => (Frame.after (Frame.mono State.ok_frame rfl) (Frame.after (Frame.mono
      State.releasePulse_frame rfl) (State.flag_frame F.TP_CTRL_POLICY_part rfl)))))

theorem execTpinPulse_frame {a0 s t} (h : execTpinPulse a0 s = .next t) :
    Frame [.rPwr, .rHarv, .rMan, .rEvr, .rMemctl, .rTide, .rTp, .rSpi, .rAdc, .rTouch, .rGpio, .rGnss, .rFront,
        .rLookout, .rQuay, .mem, .chk, .busData, .console, .manApp, .manSys, .tide, .tp, .rtc, .power, .harv,
        .gnss, .lgt, .spis, .dma, .adc, .touch] s t := by
  obtain rfl := Host.Outcome.next.inj h
  exact (Frame.ite Frame.refl (Frame.ite (State.count_frame F.TIDE_PPSCNT_REJ_part rfl) (Frame.after (Frame.mono
      State.measure_frame rfl) (Frame.after (Frame.mono State.fire_frame rfl) (Frame.after (Frame.mono
      State.raise_frame rfl) (Frame.mono State.withTide_frame rfl))))))

end Sys2Proof.Machine
end

