-- ==== Sys2Proof/Laws/FrameTt.lean ====
section
/-! SUPPORT. The frames of the operations and commands of Machine/Tt.lean: what each can change. -/

namespace Sys2Proof.Machine

theorem State.withTt_frame {s a1} : Frame [.tt] s (State.withTt s a1) := by
  unfold State.withTt
  exact (Frame.mono State.set_tt_frame rfl)

theorem State.ttReject_frame {s a1 a2} : Frame [.rPwr, .rMan, .rMemctl, .rTide, .rQuay, .mem, .chk, .console,
    .manApp, .manSys, .tt, .power] s (State.ttReject s a1 a2) := by
  unfold State.ttReject
  exact (Frame.after (Frame.mono State.raise_frame rfl) (Frame.after (State.count_frame F.TIDE_TTCNT_REJ_part rfl)
      (Frame.mono State.withTt_frame rfl)))

theorem State.ttStray_frame {s a1} : Frame [.rPwr, .rMan, .rMemctl, .rTide, .rQuay, .mem, .chk, .console, .manApp,
    .manSys, .tt, .power] s (State.ttStray s a1) := by
  unfold State.ttStray
  exact (Frame.after (Frame.mono State.ttReject_frame rfl) (by (first | (dsimp only; split) | split); exact (Frame.mono State.ttReject_frame rfl); exact Frame.refl))

theorem execTtOnOff_frame {a0 a1 a2 s t} (h : execTtOnOff a0 a1 a2 s = .next t) :
    Frame [.rPwr, .rMan, .rMemctl, .rTide, .rQuay, .mem, .chk, .console, .manApp, .manSys, .tt, .power] s t := by
  obtain rfl := Host.Outcome.next.inj h
  exact (State.run_frame rfl (fun _ => (Frame.ite (Frame.mono State.er_frame rfl) (Frame.after (Frame.mono State.ok_frame rfl) (Frame.after (State.flag_frame F.TIDE_TTCFG_PORT_part rfl) (Frame.after (State.flag_frame F.TIDE_TTCFG_EN_part rfl) (by (first | (dsimp only; split) | split); exact (Frame.ite (Frame.mono State.ttReject_frame rfl) Frame.refl); exact Frame.refl)))))))

theorem State.ttLine_frame {e s x body}
    (h0 : Part.sub [.rPwr, .rMan, .rMemctl, .rQuay, .mem, .chk, .console, .manApp, .manSys, .power] e = true)
    (h : ∀ t, Frame e t (body t)) : Frame e s (State.ttLine s x body) := by
  unfold State.ttLine
  split
  · exact Frame.ite (h s) Frame.refl
  · exact State.run_frame h0 fun t => Frame.ite (Frame.mono State.er_frame (Part.sub_trans rfl h0))
      (Frame.ite (Frame.mono State.er_frame (Part.sub_trans rfl h0)) (h t))

theorem execTtSync_frame {a0 a1 a2 s t} (h : execTtSync a0 a1 a2 s = .next t) :
    Frame [.rPwr, .rMan, .rMemctl, .rTide, .rQuay, .mem, .chk, .console, .manApp, .manSys, .tt, .power] s t := by
  obtain rfl := Host.Outcome.next.inj h
  exact (State.ttLine_frame rfl (fun _ => (Frame.after (Frame.mono State.withTt_frame rfl) (by (first | (dsimp only; split) | split); exact (Frame.mono State.ttReject_frame rfl); exact Frame.refl))))

theorem State.sendDreq_frame {s a1 a2} : Frame [.rPwr, .rMan, .rMemctl, .rQuay, .mem, .chk, .console, .manApp,
    .manSys, .power] s (State.sendDreq s a1 a2) := by
  unfold State.sendDreq
  exact (by (first | (dsimp only; split) | split); exact (Frame.mono State.emit_frame rfl); exact (Frame.mono State.set_console_frame rfl))

theorem execTtFollow_frame {a0 a1 a2 a3 s t} (h : execTtFollow a0 a1 a2 a3 s = .next t) :
    Frame [.rPwr, .rMan, .rMemctl, .rTide, .rQuay, .mem, .chk, .console, .manApp, .manSys, .tt, .power] s t := by
  obtain rfl := Host.Outcome.next.inj h
  exact (State.ttLine_frame rfl (fun _ => (by (first | (dsimp only; split) | split); exact (Frame.mono State.ttStray_frame rfl); exact (Frame.ite (Frame.mono State.ttStray_frame rfl) (Frame.ite (Frame.mono State.ttReject_frame rfl) (Frame.ite (Frame.mono State.ttReject_frame rfl) (Frame.after (Frame.mono State.sendDreq_frame rfl) (Frame.mono State.withTt_frame rfl))))))))

theorem State.ttAccept_frame {s a1 a2 a3 a4} : Frame [.rPwr, .rMan, .rMemctl, .rTide, .rTp, .rQuay, .mem, .chk,
    .console, .manApp, .manSys, .tide, .tp, .tt, .power] s (State.ttAccept s a1 a2 a3 a4) := by
  unfold State.ttAccept
  exact (Frame.after (Frame.mono State.measure_frame rfl) (Frame.after (Frame.mono State.raise_frame rfl)
      (Frame.after (State.count_frame F.TIDE_TTCNT_ACC_part rfl) (Frame.after (State.put_frame
      F.TIDE_TTSTAT_LAST_part rfl) (Frame.after (State.put_frame F.TIDE_TTDLY_DELAY_part rfl) (Frame.after
      (State.putS_frame F.TIDE_TTOFS_OFFSET_part rfl) (Frame.mono State.withTt_frame rfl)))))))

theorem execTtDresp_frame {a0 a1 a2 s t} (h : execTtDresp a0 a1 a2 s = .next t) :
    Frame [.rPwr, .rMan, .rMemctl, .rTide, .rTp, .rQuay, .mem, .chk, .console, .manApp, .manSys, .tide, .tp, .tt,
        .power] s t := by
  obtain rfl := Host.Outcome.next.inj h
  exact (State.ttLine_frame rfl (fun _ => (by (first | (dsimp only; split) | split); exact (Frame.ite (Frame.mono State.ttReject_frame rfl) (Frame.ite (Frame.mono State.ttReject_frame rfl) (Frame.ite (Frame.mono State.ttReject_frame rfl) (Frame.ite (Frame.mono State.ttReject_frame rfl) (Frame.mono State.ttAccept_frame rfl))))); exact (Frame.mono State.ttStray_frame rfl))))

theorem execTtExchangeTimeout_frame {s t} (h : execTtExchangeTimeout s = .next t) :
    Frame [.rPwr, .rMan, .rMemctl, .rTide, .rQuay, .mem, .chk, .console, .manApp, .manSys, .tt, .power] s t := by
  obtain rfl := Host.Outcome.next.inj h
  exact (by (first | (dsimp only; split) | split); exact (Frame.mono State.ttReject_frame rfl); exact Frame.refl)

theorem execTtQuery_frame {a0 s t} (h : execTtQuery a0 s = .next t) :
    Frame [.rPwr, .rMan, .rMemctl, .rQuay, .mem, .chk, .console, .manApp, .manSys, .power] s t := by
  obtain rfl := Host.Outcome.next.inj h
  exact (State.run_frame rfl (fun _ => (Frame.after (Frame.mono State.ok_frame rfl) (Frame.mono State.reply_frame
      rfl))))

end Sys2Proof.Machine
end

