-- ==== Sys2Proof/Laws/FrameBusWrite.lean ====
section
/-! SUPPORT. The frames of the operations and commands of Machine/BusWrite.lean: what each can change. -/

namespace Sys2Proof.Machine

theorem State.byOwner_frame {e s b ofs side act} (hb : Part.sub [b.part] e = true) (h : ∀ t, Frame e t (act t)) :
    Frame e s (State.byOwner s b ofs side act) := Frame.ite (State.deny_frame hb) (h s)

theorem State.plainWrite_frame {s a1 a2 a3 a4} : Frame [.rSysctl, .rPwr, .rClk, .rHarv, .rMan, .rEvr, .rMemctl,
    .rLogs, .rTide, .rTp, .rRtc, .rUart, .rI2ct, .rSpi, .rLgt, .rAdc, .rTouch, .rCrypto, .rGpio, .rDma, .rLife,
    .rTest, .rGnss, .rFront, .rPlan, .rLookout, .rBerth, .rSillage, .rMeasq, .rBitlog, .rQuay, .mem, .chk,
    .console, .manApp, .manSys, .power] s (State.plainWrite s a1 a2 a3 a4) := by
  unfold State.plainWrite
  exact (State.byOwner_frame (Block.sub_all rfl) (fun _ => (State.underLedger_frame (State.writeFields_frame
      (Block.sub_all rfl)) (Block.sub_all rfl) rfl)))

theorem State.heldWrite_frame {s a1 a2 a3 a4 a5} : Frame [.rSysctl, .rPwr, .rClk, .rHarv, .rMan, .rEvr, .rMemctl,
    .rLogs, .rTide, .rTp, .rRtc, .rUart, .rI2ct, .rSpi, .rLgt, .rAdc, .rTouch, .rCrypto, .rGpio, .rDma, .rLife,
    .rTest, .rGnss, .rFront, .rPlan, .rLookout, .rBerth, .rSillage, .rMeasq, .rBitlog] s (State.heldWrite s a1 a2
    a3 a4 a5) := by
  unfold State.heldWrite
  exact (State.byOwner_frame (Block.sub_all rfl) (fun _ => (Frame.ite (State.deny_frame (Block.sub_all rfl))
      (State.writeFields_frame (Block.sub_all rfl)))))

theorem State.writeSysctl_frame {s a1 a2 a3} : Frame Part.most s (State.writeSysctl s a1 a2 a3) := by
  unfold State.writeSysctl
  exact (by (first | (dsimp only; split) | split); exact (Frame.ite (Frame.mono State.writeOwn_frame rfl) (State.deny_frame rfl)); exact (Frame.ite (State.deny_frame rfl) (Frame.ite (Frame.after (Frame.mono State.resetCold_frame rfl) (Frame.mono State.spend_frame rfl)) (Frame.ite (Frame.mono State.appRestart_frame rfl) Frame.refl))); exact (Frame.ite (State.deny_frame rfl) (Frame.after (Frame.mono State.serveWdt_frame rfl) (Frame.ite (Frame.after (Frame.mono State.enableWdt_frame rfl) (Frame.ite Frame.refl (Frame.ite (State.deny_frame rfl) (State.put_frame F.SYSCTL_WDTA_TIMEOUT_part rfl)))) (Frame.ite Frame.refl (Frame.ite (State.deny_frame rfl) (State.put_frame F.SYSCTL_WDTA_TIMEOUT_part rfl)))))); exact Frame.refl)

theorem State.writePwr_frame {s a1 a2 a3} : Frame [.rSysctl, .rPwr, .rClk, .rHarv, .rMan, .rEvr, .rMemctl, .rLogs,
    .rTide, .rTp, .rRtc, .rUart, .rI2ct, .rSpi, .rLgt, .rAdc, .rTouch, .rCrypto, .rGpio, .rDma, .rLife, .rTest,
    .rGnss, .rFront, .rPlan, .rLookout, .rBerth, .rSillage, .rMeasq, .rBitlog, .rQuay, .mem, .chk, .console,
    .manApp, .manSys, .tide, .crypto, .power, .mems] s (State.writePwr s a1 a2 a3) := by
  unfold State.writePwr
  exact (by (first | (dsimp only; split) | split); exact (Frame.mono State.writePwrPoint_frame rfl); exact (State.byOwner_frame rfl (fun _ => (Frame.ite Frame.refl (Frame.mono State.setPolicy_frame rfl)))); exact (Frame.mono State.writePwrReg_frame rfl); exact (Frame.mono State.writeDomf_frame rfl); exact (Frame.mono State.plainWrite_frame rfl); exact (State.byOwner_frame rfl (fun _ => (Frame.after (Frame.mono State.rearm_frame rfl) (State.writeFields_frame rfl)))); exact (Frame.mono State.plainWrite_frame rfl))

theorem State.writeClk_frame {s a1 a2 a3 a4} : Frame [.rSysctl, .rPwr, .rClk, .rHarv, .rMan, .rEvr, .rMemctl,
    .rLogs, .rTide, .rTp, .rRtc, .rUart, .rI2ct, .rSpi, .rLgt, .rAdc, .rTouch, .rCrypto, .rGpio, .rDma, .rLife,
    .rTest, .rGnss, .rFront, .rPlan, .rLookout, .rBerth, .rSillage, .rMeasq, .rBitlog, .rQuay, .mem, .chk,
    .console, .manApp, .manSys, .power, .clk] s (State.writeClk s a1 a2 a3 a4) := by
  unfold State.writeClk
  exact (Frame.ite (Frame.ite (Frame.after (Frame.mono State.retryClocks_frame rfl) (Frame.after (Frame.mono
      State.xtalFollow_frame rfl) (Frame.after (Frame.mono State.fllGate_frame rfl) (Frame.mono
      State.plainWrite_frame rfl)))) (Frame.after (Frame.mono State.xtalFollow_frame rfl) (Frame.after (Frame.mono
      State.fllGate_frame rfl) (Frame.mono State.plainWrite_frame rfl)))) (Frame.ite (State.byOwner_frame rfl (fun
      _ => (Frame.ite (Frame.ite (State.deny_frame rfl) Frame.refl) (Frame.ite (State.ledgerRefuse_frame rfl rfl)
      (Frame.after (State.writeFields_frame rfl) (Frame.ite (Frame.mono State.writeIsland_frame rfl)
      Frame.refl)))))) (Frame.ite (Frame.after (Frame.mono State.monitorGate_frame rfl) (Frame.mono
      State.plainWrite_frame rfl)) (Frame.mono State.plainWrite_frame rfl))))

theorem State.writeHarv_frame {s a1 a2 a3} : Frame [.rSysctl, .rPwr, .rClk, .rHarv, .rMan, .rEvr, .rMemctl, .rLogs,
    .rTide, .rTp, .rRtc, .rUart, .rI2ct, .rSpi, .rLgt, .rAdc, .rTouch, .rCrypto, .rGpio, .rDma, .rLife, .rTest,
    .rGnss, .rFront, .rPlan, .rLookout, .rBerth, .rSillage, .rMeasq, .rBitlog, .rQuay, .mem, .chk, .console,
    .manApp, .manSys, .power, .harv] s (State.writeHarv s a1 a2 a3) := by
  unfold State.writeHarv
  exact (by (first | (dsimp only; split) | split); exact (State.byOwner_frame rfl (fun _ => (Frame.after (Frame.mono State.updateCharge_frame rfl) (State.writeFields_frame rfl)))); exact (State.byOwner_frame rfl (fun _ => (Frame.ite (Frame.after (Frame.mono State.clearLatch_frame rfl) (Frame.after (Frame.mono State.updateCharge_frame rfl) (State.writeFields_frame rfl))) (Frame.after (Frame.mono State.updateCharge_frame rfl) (State.writeFields_frame rfl))))); exact (Frame.mono State.plainWrite_frame rfl))

theorem State.writeMan_frame {s a1 a2 a3 a4} : Frame [.rSysctl, .rPwr, .rClk, .rHarv, .rMan, .rEvr, .rMemctl,
    .rLogs, .rTide, .rTp, .rRtc, .rUart, .rI2ct, .rSpi, .rLgt, .rAdc, .rTouch, .rCrypto, .rGpio, .rDma, .rLife,
    .rTest, .rGnss, .rFront, .rPlan, .rLookout, .rBerth, .rSillage, .rMeasq, .rBitlog, .rQuay, .mem, .chk,
    .console, .manApp, .manSys, .power] s (State.writeMan s a1 a2 a3 a4) := by
  unfold State.writeMan
  exact (Frame.ite (Frame.mono State.writeManCfg_frame rfl) (Frame.ite (State.byOwner_frame (by rw [Man.block_part]; rfl) (fun _ => (Frame.ite Frame.refl (Frame.ite (State.deny_frame (by rw [Man.block_part]; rfl)) (State.put_frame F.MAN_BASE_ADDR_part rfl))))) (Frame.ite (Frame.mono State.manRaise_frame rfl) (Frame.ite (State.manOwner_frame (fun _ => (Frame.mono State.writeMask_frame rfl))) (Frame.ite (State.manOwner_frame (fun _ => (Frame.mono State.writePend_frame rfl))) (Frame.ite (State.alias__frame rfl (fun _ => (Frame.mono State.writeMask_frame rfl))) (Frame.ite (State.alias__frame rfl (fun _ => (Frame.mono State.writeMask_frame rfl))) (Frame.ite (State.alias__frame rfl (fun _ => (Frame.mono State.writePend_frame rfl))) (Frame.ite (State.alias__frame rfl (fun _ => (Frame.mono State.writePend_frame rfl))) (Frame.ite (Frame.mono State.plainWrite_frame rfl) (Frame.mono State.plainWrite_frame rfl)))))))))))

theorem State.writeEvr_frame {s a1 a2 a3} : Frame [.rSysctl, .rPwr, .rClk, .rHarv, .rMan, .rEvr, .rMemctl, .rLogs,
    .rTide, .rTp, .rRtc, .rUart, .rI2ct, .rSpi, .rLgt, .rAdc, .rTouch, .rCrypto, .rGpio, .rDma, .rLife, .rTest,
    .rGnss, .rFront, .rPlan, .rLookout, .rBerth, .rSillage, .rMeasq, .rBitlog, .rQuay, .mem, .chk, .busData,
    .console, .manApp, .manSys, .rtc, .power, .harv, .gnss, .lgt, .spis, .dma, .adc, .touch] s (State.writeEvr s a1
    a2 a3) := by
  unfold State.writeEvr
  exact (Frame.ite (Frame.mono State.swTrig_frame rfl) (Frame.ite (Frame.mono State.plainWrite_frame rfl)
      (Frame.mono State.plainWrite_frame rfl)))

theorem State.writeLogs_frame {s a1 a2 a3} : Frame [.rSysctl, .rPwr, .rClk, .rHarv, .rMan, .rEvr, .rMemctl, .rLogs,
    .rTide, .rTp, .rRtc, .rUart, .rI2ct, .rSpi, .rLgt, .rAdc, .rTouch, .rCrypto, .rGpio, .rDma, .rLife, .rTest,
    .rGnss, .rFront, .rPlan, .rLookout, .rBerth, .rSillage, .rMeasq, .rBitlog, .rQuay, .free, .mem, .chk, .console,
    .manApp, .manSys, .logs, .power] s (State.writeLogs s a1 a2 a3) := by
  unfold State.writeLogs
  exact (Frame.ite (State.byOwner_frame rfl (fun _ => (by (first | (dsimp only; split) | split); exact Frame.refl; exact (Frame.mono State.logCommand_frame rfl); exact (Frame.mono State.logCommand_frame rfl); exact (Frame.mono State.logCommand_frame rfl); exact (Frame.after (State.deny_frame rfl) (State.put_frame F.LOGS_STAT_OVR_part rfl))))) (Frame.ite (State.byOwner_frame rfl (fun _ => (Frame.ite Frame.refl (Frame.mono State.logRequest_frame rfl)))) (Frame.ite (Frame.mono State.plainWrite_frame rfl) (Frame.mono State.heldWrite_frame rfl))))

theorem State.writeTide_frame {s a1 a2 a3} : Frame [.rPwr, .rMan, .rMemctl, .rTide, .rTp, .rQuay, .mem, .chk,
    .console, .manApp, .manSys, .tide, .tp, .tt, .power] s (State.writeTide s a1 a2 a3) := by
  unfold State.writeTide
  exact (State.byOwner_frame rfl (fun _ => (by (first | (dsimp only; split) | split); exact (Frame.ite (Frame.ite (Frame.after (Frame.mono State.changeScale_frame rfl) (Frame.after (State.put_frame F.TIDE_CFG_SRC_part rfl) (Frame.after (State.put_frame F.TIDE_CFG_SCALE_part rfl) (State.writeFields_frame rfl)))) (Frame.after (State.put_frame F.TIDE_CFG_SRC_part rfl) (Frame.after (State.put_frame F.TIDE_CFG_SCALE_part rfl) (State.writeFields_frame rfl)))) (Frame.after (Frame.mono State.chooseSource_frame rfl) (Frame.ite (Frame.after (Frame.mono State.changeScale_frame rfl) (Frame.after (State.put_frame F.TIDE_CFG_SRC_part rfl) (Frame.after (State.put_frame F.TIDE_CFG_SCALE_part rfl) (State.writeFields_frame rfl)))) (Frame.after (State.put_frame F.TIDE_CFG_SRC_part rfl) (Frame.after (State.put_frame F.TIDE_CFG_SCALE_part rfl) (State.writeFields_frame rfl)))))); exact (Frame.ite (Frame.mono State.setLeap_frame rfl) Frame.refl); exact (Frame.ite (Frame.mono State.softStep_frame rfl) (State.writeFields_frame rfl)); exact (by (first | (dsimp only; split) | split); exact (Frame.ite (Frame.after (Frame.mono State.ttReject_frame rfl) (State.writeFields_frame rfl)) (State.writeFields_frame rfl)); exact (State.writeFields_frame rfl)); exact (State.writeFields_frame rfl))))

theorem State.writeTp_frame {s a1 a2 a3} : Frame [.rPwr, .rClk, .rMan, .rMemctl, .rTp, .rQuay, .mem, .chk,
    .console, .manApp, .manSys, .tp, .power] s (State.writeTp s a1 a2 a3) := by
  unfold State.writeTp
  exact (State.byOwner_frame rfl (fun _ => (Frame.ite (State.underLedger_frame (Frame.ite (Frame.after (Frame.mono
      State.releasePulse_frame rfl) (Frame.ite (Frame.after (State.flag_frame F.TP_CTRL_EN_part rfl)
      (State.writeFields_frame rfl)) (Frame.after (Frame.mono State.enablePulse_frame rfl) (Frame.after
      (State.flag_frame F.TP_CTRL_EN_part rfl) (State.writeFields_frame rfl))))) (Frame.ite (Frame.after
      (State.flag_frame F.TP_CTRL_EN_part rfl) (State.writeFields_frame rfl)) (Frame.after (Frame.mono
      State.enablePulse_frame rfl) (Frame.after (State.flag_frame F.TP_CTRL_EN_part rfl) (State.writeFields_frame
      rfl))))) rfl rfl) (State.writeFields_frame rfl))))

theorem State.writeRtc_frame {s a1 a2 a3} : Frame [.rSysctl, .rPwr, .rClk, .rHarv, .rMan, .rEvr, .rMemctl, .rLogs,
    .rTide, .rTp, .rRtc, .rUart, .rI2ct, .rSpi, .rLgt, .rAdc, .rTouch, .rCrypto, .rGpio, .rDma, .rLife, .rTest,
    .rGnss, .rFront, .rPlan, .rLookout, .rBerth, .rSillage, .rMeasq, .rBitlog, .free, .rtc] s (State.writeRtc s a1
    a2 a3) := by
  unfold State.writeRtc
  exact (Frame.ite Frame.refl (Frame.ite (Frame.mono State.heldWrite_frame rfl) (State.byOwner_frame rfl (fun _ => (by (first | (dsimp only; split) | split); exact (Frame.ite (Frame.after (Frame.mono State.applySet_frame rfl) (Frame.ite (Frame.after (Frame.mono State.setAtSecond_frame rfl) (Frame.ite (Frame.mono State.cancelSet_frame rfl) Frame.refl)) (Frame.ite (Frame.mono State.cancelSet_frame rfl) Frame.refl))) (Frame.ite (Frame.after (Frame.mono State.setAtSecond_frame rfl) (Frame.ite (Frame.mono State.cancelSet_frame rfl) Frame.refl)) (Frame.ite (Frame.mono State.cancelSet_frame rfl) Frame.refl))); exact (Frame.ite (State.deny_frame rfl) (Frame.ite (Frame.after (Frame.mono State.startShift_frame rfl) (State.writeFields_frame rfl)) (State.writeFields_frame rfl))); exact (Frame.ite (State.deny_frame rfl) (Frame.ite (Frame.after (State.put_frame F.RTC_STAT_OSF_part rfl) (State.writeFields_frame rfl)) (State.writeFields_frame rfl))); exact (State.writeFields_frame rfl))))))

theorem State.writeUart_frame {s a1 a2 a3 a4} : Frame [.rSysctl, .rPwr, .rClk, .rHarv, .rMan, .rEvr, .rMemctl,
    .rLogs, .rTide, .rTp, .rRtc, .rUart, .rI2ct, .rSpi, .rLgt, .rAdc, .rTouch, .rCrypto, .rGpio, .rDma, .rLife,
    .rTest, .rGnss, .rFront, .rPlan, .rLookout, .rBerth, .rSillage, .rMeasq, .rBitlog, .rQuay, .mem, .chk,
    .console, .manApp, .manSys, .power, .uarts] s (State.writeUart s a1 a2 a3 a4) := by
  unfold State.writeUart
  exact (by (first | (dsimp only; split) | split); exact (Frame.mono State.uartConfig_frame rfl); exact (Frame.mono State.uartConfig_frame rfl); exact (Frame.mono State.uartConfig_frame rfl); exact (Frame.mono State.uartWrite_frame rfl); exact (Frame.mono State.plainWrite_frame rfl))

theorem State.writeI2ct_frame {s a1 a2 a3} : Frame [.rSysctl, .rPwr, .rClk, .rHarv, .rMan, .rEvr, .rMemctl, .rLogs,
    .rTide, .rTp, .rRtc, .rUart, .rI2ct, .rSpi, .rLgt, .rAdc, .rTouch, .rCrypto, .rGpio, .rDma, .rLife, .rTest,
    .rGnss, .rFront, .rPlan, .rLookout, .rBerth, .rSillage, .rMeasq, .rBitlog, .rQuay, .mem, .chk, .console,
    .manApp, .manSys, .power, .i2ct] s (State.writeI2ct s a1 a2 a3) := by
  unfold State.writeI2ct
  exact (Frame.ite (Frame.mono State.i2cWrite_frame rfl) (Frame.mono State.plainWrite_frame rfl))

theorem State.writeSpi_frame {s a1 a2 a3 a4} : Frame [.rSysctl, .rPwr, .rClk, .rHarv, .rMan, .rEvr, .rMemctl,
    .rLogs, .rTide, .rTp, .rRtc, .rUart, .rI2ct, .rSpi, .rLgt, .rAdc, .rTouch, .rCrypto, .rGpio, .rDma, .rLife,
    .rTest, .rGnss, .rFront, .rPlan, .rLookout, .rBerth, .rSillage, .rMeasq, .rBitlog, .rQuay, .mem, .chk,
    .busData, .console, .manApp, .manSys, .rtc, .power, .harv, .gnss, .lgt, .spis, .dma, .adc, .touch] s
    (State.writeSpi s a1 a2 a3 a4) := by
  unfold State.writeSpi
  exact (by (first | (dsimp only; split) | split); exact (State.byOwner_frame (by rw [spiBlock_part]; rfl) (fun _ => (Frame.ite (Frame.after (Frame.mono State.spiAbort_frame rfl) (Frame.ite (Frame.after (Frame.mono State.spiStart_frame rfl) (State.writeFields_frame (by rw [spiBlock_part]; rfl))) (State.writeFields_frame (by rw [spiBlock_part]; rfl)))) (Frame.ite (Frame.after (Frame.mono State.spiStart_frame rfl) (State.writeFields_frame (by rw [spiBlock_part]; rfl))) (State.writeFields_frame (by rw [spiBlock_part]; rfl)))))); exact (Frame.mono State.spiWrite_frame rfl); exact (Frame.mono State.plainWrite_frame rfl))

theorem State.writeLgtCmd_frame {s a1 a2 a3} : Frame [.rPwr, .rMan, .rMemctl, .rLgt, .rQuay, .mem, .chk, .console,
    .manApp, .manSys, .power, .lgt] s (State.writeLgtCmd s a1 a2 a3) := by
  unfold State.writeLgtCmd
  exact (State.byOwner_frame rfl (fun _ => (Frame.ite (State.deny_frame rfl) (Frame.ite (State.ledgerRefuse_frame
      rfl rfl) (Frame.ite (Frame.after (Frame.mono State.lgtRun_frame rfl) (Frame.ite (Frame.after (State.put_frame
      F.LGT_STAT_PC_part rfl) (Frame.ite (Frame.after (Frame.mono State.lgtClear_frame rfl) (Frame.ite (Frame.after
      (Frame.mono State.lgtFifos_frame rfl) (Frame.ite (Frame.after (Frame.mono State.lgtStop_frame rfl)
      (State.writeFields_frame rfl)) (State.writeFields_frame rfl))) (Frame.ite (Frame.after (Frame.mono
      State.lgtStop_frame rfl) (State.writeFields_frame rfl)) (State.writeFields_frame rfl)))) (Frame.ite
      (Frame.after (Frame.mono State.lgtFifos_frame rfl) (Frame.ite (Frame.after (Frame.mono State.lgtStop_frame
      rfl) (State.writeFields_frame rfl)) (State.writeFields_frame rfl))) (Frame.ite (Frame.after (Frame.mono
      State.lgtStop_frame rfl) (State.writeFields_frame rfl)) (State.writeFields_frame rfl))))) (Frame.ite
      (Frame.after (Frame.mono State.lgtClear_frame rfl) (Frame.ite (Frame.after (Frame.mono State.lgtFifos_frame
      rfl) (Frame.ite (Frame.after (Frame.mono State.lgtStop_frame rfl) (State.writeFields_frame rfl))
      (State.writeFields_frame rfl))) (Frame.ite (Frame.after (Frame.mono State.lgtStop_frame rfl)
      (State.writeFields_frame rfl)) (State.writeFields_frame rfl)))) (Frame.ite (Frame.after (Frame.mono
      State.lgtFifos_frame rfl) (Frame.ite (Frame.after (Frame.mono State.lgtStop_frame rfl)
      (State.writeFields_frame rfl)) (State.writeFields_frame rfl))) (Frame.ite (Frame.after (Frame.mono
      State.lgtStop_frame rfl) (State.writeFields_frame rfl)) (State.writeFields_frame rfl)))))) (Frame.ite
      (Frame.after (State.put_frame F.LGT_STAT_PC_part rfl) (Frame.ite (Frame.after (Frame.mono
      State.lgtClear_frame rfl) (Frame.ite (Frame.after (Frame.mono State.lgtFifos_frame rfl) (Frame.ite
      (Frame.after (Frame.mono State.lgtStop_frame rfl) (State.writeFields_frame rfl)) (State.writeFields_frame
      rfl))) (Frame.ite (Frame.after (Frame.mono State.lgtStop_frame rfl) (State.writeFields_frame rfl))
      (State.writeFields_frame rfl)))) (Frame.ite (Frame.after (Frame.mono State.lgtFifos_frame rfl) (Frame.ite
      (Frame.after (Frame.mono State.lgtStop_frame rfl) (State.writeFields_frame rfl)) (State.writeFields_frame
      rfl))) (Frame.ite (Frame.after (Frame.mono State.lgtStop_frame rfl) (State.writeFields_frame rfl))
      (State.writeFields_frame rfl))))) (Frame.ite (Frame.after (Frame.mono State.lgtClear_frame rfl) (Frame.ite
      (Frame.after (Frame.mono State.lgtFifos_frame rfl) (Frame.ite (Frame.after (Frame.mono State.lgtStop_frame
      rfl) (State.writeFields_frame rfl)) (State.writeFields_frame rfl))) (Frame.ite (Frame.after (Frame.mono
      State.lgtStop_frame rfl) (State.writeFields_frame rfl)) (State.writeFields_frame rfl)))) (Frame.ite
      (Frame.after (Frame.mono State.lgtFifos_frame rfl) (Frame.ite (Frame.after (Frame.mono State.lgtStop_frame
      rfl) (State.writeFields_frame rfl)) (State.writeFields_frame rfl))) (Frame.ite (Frame.after (Frame.mono
      State.lgtStop_frame rfl) (State.writeFields_frame rfl)) (State.writeFields_frame rfl))))))))))

theorem State.writeLgt_frame {s a1 a2 a3} : Frame [.rSysctl, .rPwr, .rClk, .rHarv, .rMan, .rEvr, .rMemctl, .rLogs,
    .rTide, .rTp, .rRtc, .rUart, .rI2ct, .rSpi, .rLgt, .rAdc, .rTouch, .rCrypto, .rGpio, .rDma, .rLife, .rTest,
    .rGnss, .rFront, .rPlan, .rLookout, .rBerth, .rSillage, .rMeasq, .rBitlog, .rQuay, .mem, .chk, .console,
    .manApp, .manSys, .power, .lgt] s (State.writeLgt s a1 a2 a3) := by
  unfold State.writeLgt
  exact (Frame.ite (Frame.mono State.lgtConfig_frame rfl) (Frame.ite (by (first | (dsimp only; split) | split); exact (Frame.mono State.lgtConfig_frame rfl); exact (Frame.mono State.lgtConfig_frame rfl); exact (Frame.mono State.lgtConfig_frame rfl); exact (State.byOwner_frame rfl (fun _ => (Frame.mono State.lgtSetDiv_frame rfl))); exact (Frame.mono State.writeLgtCmd_frame rfl); exact (Frame.mono State.lgtPush_frame rfl); exact (Frame.mono State.plainWrite_frame rfl)) (Frame.mono State.plainWrite_frame rfl)))

theorem State.writeAdc_frame {s a1 a2 a3} : Frame [.rSysctl, .rPwr, .rClk, .rHarv, .rMan, .rEvr, .rMemctl, .rLogs,
    .rTide, .rTp, .rRtc, .rUart, .rI2ct, .rSpi, .rLgt, .rAdc, .rTouch, .rCrypto, .rGpio, .rDma, .rLife, .rTest,
    .rGnss, .rFront, .rPlan, .rLookout, .rBerth, .rSillage, .rMeasq, .rBitlog, .rQuay, .mem, .chk, .console,
    .manApp, .manSys, .power, .adc] s (State.writeAdc s a1 a2 a3) := by
  unfold State.writeAdc
  exact (by (first | (dsimp only; split) | split); exact (Frame.mono State.adcCfgWrite_frame rfl); exact (State.byOwner_frame rfl (fun _ => (Frame.ite (State.deny_frame rfl) (Frame.ite (Frame.after (Frame.mono State.withAdc_frame rfl) (Frame.ite (Frame.after (Frame.mono State.adcStart_frame rfl) (Frame.ite (Frame.mono State.adcFlush_frame rfl) Frame.refl)) (Frame.ite (Frame.mono State.adcFlush_frame rfl) Frame.refl))) (Frame.ite (Frame.after (Frame.mono State.adcStart_frame rfl) (Frame.ite (Frame.mono State.adcFlush_frame rfl) Frame.refl)) (Frame.ite (Frame.mono State.adcFlush_frame rfl) Frame.refl)))))); exact (Frame.mono State.adcRefWrite_frame rfl); exact (Frame.mono State.adcCorrWrite_frame rfl); exact (Frame.mono State.plainWrite_frame rfl))

theorem State.writeTouch_frame {s a1 a2 a3} : Frame [.rSysctl, .rPwr, .rClk, .rHarv, .rMan, .rEvr, .rMemctl,
    .rLogs, .rTide, .rTp, .rRtc, .rUart, .rI2ct, .rSpi, .rLgt, .rAdc, .rTouch, .rCrypto, .rGpio, .rDma, .rLife,
    .rTest, .rGnss, .rFront, .rPlan, .rLookout, .rBerth, .rSillage, .rMeasq, .rBitlog, .rQuay, .mem, .chk,
    .console, .manApp, .manSys, .power, .touch] s (State.writeTouch s a1 a2 a3) := by
  unfold State.writeTouch
  exact (by (first | (dsimp only; split) | split); exact (Frame.mono State.touchCfgWrite_frame rfl); exact (State.byOwner_frame rfl (fun _ => (Frame.ite (State.deny_frame rfl) (Frame.ite (Frame.after (Frame.mono State.touchSaveRef_frame rfl) (Frame.ite (Frame.after (Frame.mono State.touchRebase_frame rfl) (Frame.ite (Frame.after (Frame.mono State.touchTest_frame rfl) (Frame.ite (Frame.mono State.touchStart_frame rfl) Frame.refl)) (Frame.ite (Frame.mono State.touchStart_frame rfl) Frame.refl))) (Frame.ite (Frame.after (Frame.mono State.touchTest_frame rfl) (Frame.ite (Frame.mono State.touchStart_frame rfl) Frame.refl)) (Frame.ite (Frame.mono State.touchStart_frame rfl) Frame.refl)))) (Frame.ite (Frame.after (Frame.mono State.touchRebase_frame rfl) (Frame.ite (Frame.after (Frame.mono State.touchTest_frame rfl) (Frame.ite (Frame.mono State.touchStart_frame rfl) Frame.refl)) (Frame.ite (Frame.mono State.touchStart_frame rfl) Frame.refl))) (Frame.ite (Frame.after (Frame.mono State.touchTest_frame rfl) (Frame.ite (Frame.mono State.touchStart_frame rfl) Frame.refl)) (Frame.ite (Frame.mono State.touchStart_frame rfl) Frame.refl))))))); exact (State.byOwner_frame rfl (fun _ => (Frame.after (Frame.mono State.deriveTouch_frame rfl) (State.writeFields_frame rfl)))); exact (Frame.ite (Frame.mono State.touchElecWrite_frame rfl) (Frame.mono State.plainWrite_frame rfl)))

theorem State.writeCrypto_frame {s a1 a2 a3} : Frame [.rSysctl, .rPwr, .rClk, .rHarv, .rMan, .rEvr, .rMemctl,
    .rLogs, .rTide, .rTp, .rRtc, .rUart, .rI2ct, .rSpi, .rLgt, .rAdc, .rTouch, .rCrypto, .rGpio, .rDma, .rLife,
    .rTest, .rGnss, .rFront, .rPlan, .rLookout, .rBerth, .rSillage, .rMeasq, .rBitlog, .rQuay, .mem, .chk,
    .console, .manApp, .manSys, .power] s (State.writeCrypto s a1 a2 a3) := by
  unfold State.writeCrypto
  exact (by (first | (dsimp only; split) | split); exact (Frame.ite (Frame.ite (Frame.after (State.put_frame F.CRYPTO_SFCFG_KEEP_part rfl) (Frame.after (Frame.mono State.deriveKeep_frame rfl) (Frame.after (State.put_frame F.CRYPTO_SFCFG_AUTO_part rfl) (State.puts_cons_frame F.CRYPTO_SFCFG_EN_part rfl (State.puts_cons_frame F.CRYPTO_SFCFG_SIZE_part rfl (State.puts_cons_frame F.CRYPTO_SFCFG_DIV_part rfl State.puts_nil_frame)))))) (Frame.after (Frame.mono State.refuseExpert_frame rfl) (Frame.after (Frame.mono State.deriveKeep_frame rfl) (Frame.after (State.put_frame F.CRYPTO_SFCFG_AUTO_part rfl) (State.puts_cons_frame F.CRYPTO_SFCFG_EN_part rfl (State.puts_cons_frame F.CRYPTO_SFCFG_SIZE_part rfl (State.puts_cons_frame F.CRYPTO_SFCFG_DIV_part rfl State.puts_nil_frame))))))) (Frame.ite (State.puts_cons_frame F.CRYPTO_SFCFG_EN_part rfl (State.puts_cons_frame F.CRYPTO_SFCFG_SIZE_part rfl (State.puts_cons_frame F.CRYPTO_SFCFG_DIV_part rfl State.puts_nil_frame))) (Frame.after (State.deny_frame rfl) (State.puts_cons_frame F.CRYPTO_SFCFG_EN_part rfl (State.puts_cons_frame F.CRYPTO_SFCFG_SIZE_part rfl (State.puts_cons_frame F.CRYPTO_SFCFG_DIV_part rfl State.puts_nil_frame)))))); exact (Frame.ite (State.put_frame F.CRYPTO_SFBASE_ADDR_part rfl) Frame.refl); exact (Frame.ite (State.put_frame F.CRYPTO_SFTAIL_IDX_part rfl) Frame.refl); exact (Frame.mono State.plainWrite_frame rfl))

theorem State.writeGpio_frame {s a1 a2 a3} : Frame [.rSysctl, .rPwr, .rClk, .rHarv, .rMan, .rEvr, .rMemctl, .rLogs,
    .rTide, .rTp, .rRtc, .rUart, .rI2ct, .rSpi, .rLgt, .rAdc, .rTouch, .rCrypto, .rGpio, .rDma, .rLife, .rTest,
    .rGnss, .rFront, .rPlan, .rLookout, .rBerth, .rSillage, .rMeasq, .rBitlog, .rQuay, .mem, .chk, .console,
    .manApp, .manSys, .power] s (State.writeGpio s a1 a2 a3) := by
  unfold State.writeGpio
  exact (by (first | (dsimp only; split) | split); exact (Frame.mono State.outAlias_frame rfl); exact (Frame.mono State.outAlias_frame rfl); exact (Frame.mono State.outAlias_frame rfl); exact (Frame.mono State.outAlias_frame rfl); exact (Frame.ite (Frame.mono State.plainWrite_frame rfl) (Frame.mono State.plainWrite_frame rfl)))

theorem State.startDma_frame {s a1} : Frame [.rDma, .dma] s (State.startDma s a1) := by
  unfold State.startDma
  exact (Frame.after (State.puts_cons_frame F.DMA_CFG_EN_part rfl (State.puts_cons_frame F.DMA_STAT_LEFT_part rfl
      State.puts_nil_frame)) (Frame.mono State.setDma_frame rfl))

theorem State.writeDma_frame {s a1 a2 a3} : Frame [.rSysctl, .rPwr, .rClk, .rHarv, .rMan, .rEvr, .rMemctl, .rLogs,
    .rTide, .rTp, .rRtc, .rUart, .rI2ct, .rSpi, .rLgt, .rAdc, .rTouch, .rCrypto, .rGpio, .rDma, .rLife, .rTest,
    .rGnss, .rFront, .rPlan, .rLookout, .rBerth, .rSillage, .rMeasq, .rBitlog, .rQuay, .mem, .chk, .console,
    .manApp, .manSys, .power, .dma] s (State.writeDma s a1 a2 a3) := by
  unfold State.writeDma
  exact (Frame.ite (Frame.mono State.plainWrite_frame rfl) (State.byOwner_frame rfl (fun _ => (by (first | (dsimp only; split) | split); exact (Frame.ite (State.deny_frame rfl) (State.writeFields_frame rfl)); exact (Frame.ite (State.deny_frame rfl) (State.writeFields_frame rfl)); exact (Frame.ite (State.deny_frame rfl) (State.writeFields_frame rfl)); exact (Frame.ite (Frame.ite (Frame.ite Frame.refl (State.deny_frame rfl)) (Frame.after (State.put_frame F.DMA_CFG_EN_part rfl) (Frame.ite Frame.refl (State.deny_frame rfl)))) (Frame.ite (Frame.after (Frame.mono State.startDma_frame rfl) (Frame.after (State.put_frame F.DMA_CFG_EN_part rfl) (State.writeFields_frame rfl))) (Frame.after (State.put_frame F.DMA_CFG_EN_part rfl) (State.writeFields_frame rfl)))); exact (State.writeFields_frame rfl)))))

theorem State.writeGnss_frame {s a1 a2 a3} : Frame [.rSysctl, .rPwr, .rClk, .rHarv, .rMan, .rEvr, .rMemctl, .rLogs,
    .rTide, .rTp, .rRtc, .rUart, .rI2ct, .rSpi, .rLgt, .rAdc, .rTouch, .rCrypto, .rGpio, .rDma, .rLife, .rTest,
    .rGnss, .rFront, .rPlan, .rLookout, .rBerth, .rSillage, .rMeasq, .rBitlog, .rQuay, .mem, .chk, .console,
    .manApp, .manSys, .power, .gnss] s (State.writeGnss s a1 a2 a3) := by
  unfold State.writeGnss
  exact (by (first | (dsimp only; split) | split); exact (State.byOwner_frame rfl (fun _ => (Frame.ite Frame.refl (Frame.mono State.writeMode_frame rfl)))); exact (State.byOwner_frame rfl (fun _ => (Frame.after (Frame.mono State.planNext_frame rfl) (Frame.after (Frame.mono State.deriveMode_frame rfl) (State.writeFields_frame rfl))))); exact (State.byOwner_frame rfl (fun _ => (Frame.ite (Frame.after (Frame.mono State.applyRate_frame rfl) (State.writeFields_frame rfl)) (State.writeFields_frame rfl)))); exact (Frame.mono State.plainWrite_frame rfl))

theorem State.writeNotch_frame {s a1 a2 a3} : Frame [.rFront, .gnss] s (State.writeNotch s a1 a2 a3) := by
  unfold State.writeNotch
  exact (State.byOwner_frame rfl (fun _ => (Frame.ite (State.deny_frame rfl) (Frame.ite (Frame.ite
      (State.deny_frame rfl) Frame.refl) (Frame.mono State.withGnss_frame rfl)))))

theorem State.writeFront_frame {s a1 a2 a3} : Frame [.rSysctl, .rPwr, .rClk, .rHarv, .rMan, .rEvr, .rMemctl,
    .rLogs, .rTide, .rTp, .rRtc, .rUart, .rI2ct, .rSpi, .rLgt, .rAdc, .rTouch, .rCrypto, .rGpio, .rDma, .rLife,
    .rTest, .rGnss, .rFront, .rPlan, .rLookout, .rBerth, .rSillage, .rMeasq, .rBitlog, .rQuay, .mem, .chk,
    .console, .manApp, .manSys, .power, .gnss] s (State.writeFront s a1 a2 a3) := by
  unfold State.writeFront
  exact (Frame.ite (State.byOwner_frame rfl (fun _ => (Frame.ite (Frame.after (State.put_frame
      F.FRONT_CFG_BIAS_SHORT_part rfl) (Frame.after (Frame.mono State.frontHeritage_frame rfl)
      (State.writeFields_frame rfl))) (Frame.after (Frame.mono State.frontHeritage_frame rfl)
      (State.writeFields_frame rfl))))) (Frame.ite (Frame.ite (Frame.mono State.writeNotch_frame rfl) (Frame.ite
      (State.byOwner_frame rfl (fun _ => (Frame.ite (State.writeFields_frame rfl) (Frame.after (Frame.foldl (fun _
      _ => (Frame.ite Frame.refl (State.put_frame F.FRONT_NOTCH_STATE_part rfl))) _ _) (State.writeFields_frame
      rfl))))) (Frame.mono State.plainWrite_frame rfl))) (Frame.mono State.plainWrite_frame rfl)))

theorem State.writePlan_frame {s a1 a2 a3} : Frame [.rPwr, .rMan, .rMemctl, .rCrypto, .rPlan, .rLookout, .rBerth,
    .rSillage, .rMeasq, .rQuay, .mem, .chk, .console, .manApp, .manSys, .crypto, .power, .gnss, .mems] s
    (State.writePlan s a1 a2 a3) := by
  unfold State.writePlan
  exact (State.byOwner_frame rfl (fun _ => (Frame.ite (Frame.ite (Frame.after (Frame.mono State.setSlot_frame rfl)
      (State.writeFields_frame rfl)) (Frame.mono State.setEntry_frame rfl)) (Frame.ite (Frame.after (Frame.mono
      State.callReplan_frame rfl) (State.writeFields_frame rfl)) (State.writeFields_frame rfl)))))

theorem State.writeLookout_frame {s a1 a2 a3} : Frame [.rSysctl, .rPwr, .rClk, .rHarv, .rMan, .rEvr, .rMemctl,
    .rLogs, .rTide, .rTp, .rRtc, .rUart, .rI2ct, .rSpi, .rLgt, .rAdc, .rTouch, .rCrypto, .rGpio, .rDma, .rLife,
    .rTest, .rGnss, .rFront, .rPlan, .rLookout, .rBerth, .rSillage, .rMeasq, .rBitlog, .rQuay, .mem, .chk,
    .console, .manApp, .manSys, .power, .gnss] s (State.writeLookout s a1 a2 a3) := by
  unfold State.writeLookout
  exact (Frame.ite (State.byOwner_frame rfl (fun _ => (Frame.ite (State.deny_frame rfl) (Frame.ite (Frame.after
      (Frame.mono State.startCapture_frame rfl) (Frame.ite (Frame.after (State.put_frame F.LOOKOUT_SNAP_VALID_part
      rfl) (State.writeFields_frame rfl)) (State.writeFields_frame rfl))) (Frame.ite (Frame.after (State.put_frame
      F.LOOKOUT_SNAP_VALID_part rfl) (State.writeFields_frame rfl)) (State.writeFields_frame rfl)))))) (Frame.ite
      (State.byOwner_frame rfl (fun _ => (Frame.ite (Frame.ite (Frame.ite (Frame.after (Frame.mono
      State.leaveLane_frame rfl) (Frame.ite Frame.refl (State.deny_frame rfl))) (Frame.ite Frame.refl
      (State.deny_frame rfl))) (Frame.ite (State.writeFields_frame rfl) (Frame.after (Frame.mono
      State.startLane_frame rfl) (State.writeFields_frame rfl)))) (Frame.ite (State.deny_frame rfl)
      (State.writeFields_frame rfl))))) (Frame.mono State.plainWrite_frame rfl)))

theorem State.writeBerthCfg_frame {s a1 a2 a3} : Frame [.rSysctl, .rPwr, .rClk, .rHarv, .rMan, .rEvr, .rMemctl,
    .rLogs, .rTide, .rTp, .rRtc, .rUart, .rI2ct, .rSpi, .rLgt, .rAdc, .rTouch, .rCrypto, .rGpio, .rDma, .rLife,
    .rTest, .rGnss, .rFront, .rPlan, .rLookout, .rBerth, .rSillage, .rMeasq, .rBitlog, .rQuay, .mem, .chk,
    .console, .manApp, .manSys, .crypto, .power, .gnss, .mems] s (State.writeBerthCfg s a1 a2 a3) := by
  unfold State.writeBerthCfg
  exact (Frame.ite (Frame.after (Frame.mono State.enableBerth_frame rfl) (Frame.ite (Frame.after (Frame.mono
      State.modBerth_frame rfl) (Frame.ite (Frame.ite (Frame.after (State.put_frame F.BERTH_CFG_DUMP_EV_part rfl)
      (Frame.after (State.put_frame F.BERTH_CFG_LOSS_EV_part rfl) (Frame.mono State.refuseExpert_frame rfl)))
      (Frame.after (State.put_frame F.BERTH_CFG_LOSS_EV_part rfl) (Frame.mono State.refuseExpert_frame rfl)))
      (Frame.after (Frame.mono State.disableBerth_frame rfl) (Frame.ite (Frame.after (State.put_frame
      F.BERTH_CFG_DUMP_EV_part rfl) (Frame.after (State.put_frame F.BERTH_CFG_LOSS_EV_part rfl) (Frame.mono
      State.refuseExpert_frame rfl))) (Frame.after (State.put_frame F.BERTH_CFG_LOSS_EV_part rfl) (Frame.mono
      State.refuseExpert_frame rfl)))))) (Frame.after (Frame.mono State.setSignal_frame rfl) (Frame.ite (Frame.ite
      (Frame.after (State.put_frame F.BERTH_CFG_DUMP_EV_part rfl) (Frame.after (State.put_frame
      F.BERTH_CFG_LOSS_EV_part rfl) (Frame.mono State.refuseExpert_frame rfl))) (Frame.after (State.put_frame
      F.BERTH_CFG_LOSS_EV_part rfl) (Frame.mono State.refuseExpert_frame rfl))) (Frame.after (Frame.mono
      State.disableBerth_frame rfl) (Frame.ite (Frame.after (State.put_frame F.BERTH_CFG_DUMP_EV_part rfl)
      (Frame.after (State.put_frame F.BERTH_CFG_LOSS_EV_part rfl) (Frame.mono State.refuseExpert_frame rfl)))
      (Frame.after (State.put_frame F.BERTH_CFG_LOSS_EV_part rfl) (Frame.mono State.refuseExpert_frame rfl))))))))
      (Frame.ite (Frame.after (Frame.mono State.modBerth_frame rfl) (Frame.ite (Frame.ite (Frame.after
      (State.put_frame F.BERTH_CFG_DUMP_EV_part rfl) (Frame.after (State.put_frame F.BERTH_CFG_LOSS_EV_part rfl)
      (Frame.mono State.refuseExpert_frame rfl))) (Frame.after (State.put_frame F.BERTH_CFG_LOSS_EV_part rfl)
      (Frame.mono State.refuseExpert_frame rfl))) (Frame.after (Frame.mono State.disableBerth_frame rfl) (Frame.ite
      (Frame.after (State.put_frame F.BERTH_CFG_DUMP_EV_part rfl) (Frame.after (State.put_frame
      F.BERTH_CFG_LOSS_EV_part rfl) (Frame.mono State.refuseExpert_frame rfl))) (Frame.after (State.put_frame
      F.BERTH_CFG_LOSS_EV_part rfl) (Frame.mono State.refuseExpert_frame rfl)))))) (Frame.after (Frame.mono
      State.setSignal_frame rfl) (Frame.ite (Frame.ite (Frame.after (State.put_frame F.BERTH_CFG_DUMP_EV_part rfl)
      (Frame.after (State.put_frame F.BERTH_CFG_LOSS_EV_part rfl) (Frame.mono State.refuseExpert_frame rfl)))
      (Frame.after (State.put_frame F.BERTH_CFG_LOSS_EV_part rfl) (Frame.mono State.refuseExpert_frame rfl)))
      (Frame.after (Frame.mono State.disableBerth_frame rfl) (Frame.ite (Frame.after (State.put_frame
      F.BERTH_CFG_DUMP_EV_part rfl) (Frame.after (State.put_frame F.BERTH_CFG_LOSS_EV_part rfl) (Frame.mono
      State.refuseExpert_frame rfl))) (Frame.after (State.put_frame F.BERTH_CFG_LOSS_EV_part rfl) (Frame.mono
      State.refuseExpert_frame rfl))))))))

theorem State.writeBerth_frame {s a1 a2 a3 a4} : Frame [.rSysctl, .rPwr, .rClk, .rHarv, .rMan, .rEvr, .rMemctl,
    .rLogs, .rTide, .rTp, .rRtc, .rUart, .rI2ct, .rSpi, .rLgt, .rAdc, .rTouch, .rCrypto, .rGpio, .rDma, .rLife,
    .rTest, .rGnss, .rFront, .rPlan, .rLookout, .rBerth, .rSillage, .rMeasq, .rBitlog, .rQuay, .mem, .chk,
    .console, .manApp, .manSys, .crypto, .power, .gnss, .mems] s (State.writeBerth s a1 a2 a3 a4) := by
  unfold State.writeBerth
  exact (State.byOwner_frame (Block.berth_sub rfl) (fun _ => (by (first | (dsimp only; split) | split); exact (Frame.mono State.writeBerthCfg_frame rfl); exact (Frame.ite (Frame.mono State.stageInc_frame rfl) (Frame.mono State.refuseExpert_frame rfl)); exact (Frame.ite (Frame.mono State.stageInc_frame rfl) (Frame.mono State.refuseExpert_frame rfl)); exact (Frame.ite (Frame.ite (Frame.after (Frame.mono State.stageLoad_frame rfl) (Frame.ite (Frame.after (Frame.mono State.stageLoad_frame rfl) (State.writeClears_frame (Block.berth_sub rfl))) (State.writeClears_frame (Block.berth_sub rfl)))) (Frame.ite (Frame.after (Frame.mono State.stageLoad_frame rfl) (State.writeClears_frame (Block.berth_sub rfl))) (State.writeClears_frame (Block.berth_sub rfl)))) (Frame.mono State.refuseExpert_frame rfl)); exact (Frame.ite (State.writeFields_frame (Block.berth_sub rfl)) (Frame.after (State.put_frame F.BERTH_INTEG_COH_part rfl) (State.writeFields_frame (Block.berth_sub rfl)))); exact (State.writeFields_frame (Block.berth_sub rfl)))))

theorem State.writeSillage_frame {s a1 a2 a3} : Frame [.rSysctl, .rPwr, .rClk, .rHarv, .rMan, .rEvr, .rMemctl,
    .rLogs, .rTide, .rTp, .rRtc, .rUart, .rI2ct, .rSpi, .rLgt, .rAdc, .rTouch, .rCrypto, .rGpio, .rDma, .rLife,
    .rTest, .rGnss, .rFront, .rPlan, .rLookout, .rBerth, .rSillage, .rMeasq, .rBitlog, .rQuay, .mem, .chk,
    .console, .manApp, .manSys, .power] s (State.writeSillage s a1 a2 a3) := by
  unfold State.writeSillage
  exact (Frame.ite (State.byOwner_frame rfl (fun _ => (Frame.after (Frame.mono State.showPrediction_frame rfl)
      (State.writeFields_frame rfl)))) (Frame.mono State.plainWrite_frame rfl))

theorem State.writeRing_frame {s a1 a2 a3 a4} : Frame [.rSysctl, .rPwr, .rClk, .rHarv, .rMan, .rEvr, .rMemctl,
    .rLogs, .rTide, .rTp, .rRtc, .rUart, .rI2ct, .rSpi, .rLgt, .rAdc, .rTouch, .rCrypto, .rGpio, .rDma, .rLife,
    .rTest, .rGnss, .rFront, .rPlan, .rLookout, .rBerth, .rSillage, .rMeasq, .rBitlog, .rQuay, .mem, .chk,
    .console, .manApp, .manSys, .power] s (State.writeRing s a1 a2 a3 a4) := by
  unfold State.writeRing
  exact (by (first | (dsimp only; split) | split); exact (Frame.mono State.writeTail_frame rfl); exact (State.byOwner_frame (by split <;> rfl) (fun _ => (Frame.ite (State.writeFields_frame (by split <;> rfl)) Frame.refl))); exact (Frame.mono State.plainWrite_frame rfl))

theorem State.regWrite_frame {s a1 a2 a3 a4 a5} : Frame Part.most s (State.regWrite s a1 a2 a3 a4 a5) := by
  unfold State.regWrite
  exact (Frame.ite (Frame.ite Frame.refl (State.byOwner_frame (Block.sub_all rfl) (fun _ => Frame.refl))) (Frame.ite (Frame.mono State.writeLevel_frame rfl) (by (first | (dsimp only; split) | split); exact (Frame.mono State.writeSysctl_frame rfl); exact (Frame.mono State.writePwr_frame rfl); exact (Frame.mono State.writeClk_frame rfl); exact (Frame.mono State.writeHarv_frame rfl); exact (Frame.mono State.writeMan_frame rfl); exact (Frame.mono State.writeMan_frame rfl); exact (Frame.mono State.writeEvr_frame rfl); exact (Frame.mono State.writeLogs_frame rfl); exact (Frame.mono State.writeTide_frame rfl); exact (Frame.mono State.writeTp_frame rfl); exact (Frame.mono State.writeRtc_frame rfl); exact (Frame.mono State.writeUart_frame rfl); exact (Frame.mono State.writeUart_frame rfl); exact (Frame.mono State.writeUart_frame rfl); exact (Frame.mono State.writeI2ct_frame rfl); exact (Frame.mono State.writeSpi_frame rfl); exact (Frame.mono State.writeSpi_frame rfl); exact (Frame.mono State.writeLgt_frame rfl); exact (Frame.mono State.writeAdc_frame rfl); exact (Frame.mono State.writeTouch_frame rfl); exact (Frame.mono State.writeCrypto_frame rfl); exact (Frame.mono State.writeGpio_frame rfl); exact (Frame.mono State.writeDma_frame rfl); exact (Frame.mono State.writeGnss_frame rfl); exact (Frame.mono State.writeFront_frame rfl); exact (Frame.mono State.writePlan_frame rfl); exact (Frame.mono State.writeLookout_frame rfl); exact (Frame.mono State.writeBerth_frame rfl); exact (Frame.mono State.writeSillage_frame rfl); exact (Frame.mono State.writeRing_frame rfl); exact (Frame.mono State.writeRing_frame rfl); exact (Frame.mono State.plainWrite_frame rfl); exact (Frame.mono State.plainWrite_frame rfl); exact (Frame.mono State.plainWrite_frame rfl))))

end Sys2Proof.Machine
end

