-- ==== Sys2Proof/Laws/FrameBus.lean ====
section
/-! SUPPORT. The frames of the operations and commands of Machine/Bus.lean: what each can change. -/

namespace Sys2Proof.Machine

theorem State.clearRead_frame {e s b ofs side} (hb : Part.sub [b.part] e = true)
    (h0 : Part.sub [.rUart, .uarts] e = true := by rfl) : Frame e s (State.clearRead s b ofs side) := by
  have h1 : Frame e s ((regFields b ofs).foldl (fun t f => if f.acc == .rc then t.put (f.at b ofs) 0 else t) s) := by
    refine frame_fields s fun t f hf => ?_
    by_cases h4 : ofs = 4
    · subst h4
      rw [regFields_four] at hf
      have hn : (f.acc == Acc.rc) = false := by
        simp only [List.mem_cons, List.not_mem_nil, or_false] at hf
        rcases hf with rfl | rfl | rfl | rfl | rfl | rfl <;> rfl
      rw [hn]
      exact Frame.refl
    · exact Frame.ite (State.put_frame (FldSpec.part_at hf h4) hb) Frame.refl
  have h2 : ∀ k g t, Frame e t (t.modUart k g) := fun k g t => Frame.mono State.modUart_frame h0
  unfold State.clearRead
  dsimp only
  split
  · split
    · exact h1.trans (h2 _ _ _)
    · exact h1.trans (h2 _ _ _)
    · exact h1.trans (h2 _ _ _)
    · exact h1
  · exact Frame.refl

/-- What a read can change. -/
def readParts : List Part := .rQuay :: Part.most.take 30 ++ [.free, .mem, .chk, .runs, .wbacks, .busData, .console,
    .manApp, .manSys, .rtc, .logs, .crypto, .power, .lgt, .uarts, .i2ct, .spis, .adc, .mems]
theorem State.rtcWord_frame {s side i} : Frame [.rtc] s (State.rtcWord s side i).2 :=
  Frame.ite State.withRtc_frame Frame.refl
theorem Frame.ifSome {e : List Part} {c : Prop} [Decidable c] {s u t : State} {o : Option State} (h : (if c then
    some u else o) = some t)
    (hu : Frame e s u) (ho : o = some t → Frame e s t) : Frame e s t := by
  split at h
  · obtain rfl := Option.some.inj h; exact hu
  · exact ho h
theorem State.readAction_frame {s side b ofs t} (h : State.readAction s side b ofs = some t) : Frame readParts s t
    := by
  cases b with
  | manApp => exact Frame.ifSome h (Frame.mono State.popRead_frame rfl) nofun
  | manSys => exact Frame.ifSome h (Frame.mono State.popRead_frame rfl) nofun
  | evr => exact Frame.ifSome h (Frame.mono State.capRead_frame rfl) nofun
  | tide => exact Frame.ifSome h (Frame.mono State.captureNow_frame rfl) nofun
  | rtc => exact Frame.ifSome h (Frame.mono State.captureRtc_frame rfl) fun h => Frame.ifSome h (Frame.after
      (Frame.mono State.set_busData_frame rfl)
      (Frame.mono State.rtcWord_frame rfl)) nofun
  | uart0 => exact Frame.ifSome h (Frame.mono State.uartRead_frame rfl) fun h => Frame.ifSome h (Frame.mono
      State.stampRead_frame rfl) nofun
  | uart1 => exact Frame.ifSome h (Frame.mono State.uartRead_frame rfl) fun h => Frame.ifSome h (Frame.mono
      State.stampRead_frame rfl) nofun
  | uart2 => exact Frame.ifSome h (Frame.mono State.uartRead_frame rfl) fun h => Frame.ifSome h (Frame.mono
      State.stampRead_frame rfl) nofun
  | i2ct => exact Frame.ifSome h (Frame.mono State.i2cRead_frame rfl) nofun
  | spi0 => exact Frame.ifSome h (Frame.mono State.spiRead_frame rfl) nofun
  | spi1 => exact Frame.ifSome h (Frame.mono State.spiRead_frame rfl) nofun
  | lgt => exact Frame.ifSome h (Frame.mono State.lgtPop_frame rfl) nofun
  | adc => exact Frame.ifSome h (Frame.mono State.adcPop_frame rfl) nofun
  | lookout => exact Frame.ifSome h (Frame.mono State.readLaneCode_frame rfl) nofun
  | berth n => exact Frame.ifSome h (Frame.mono State.captureDump_frame rfl) nofun
  | measq => exact Frame.ifSome h (Frame.mono State.captureFix_frame rfl) nofun
  | _ => cases h
theorem State.regRead_frame {s m b ofs} : Frame readParts s (State.regRead s m b ofs) := by
  unfold State.regRead
  split
  · rename_i t ht; exact State.readAction_frame ht
  · exact Frame.after (Frame.mono State.set_busData_frame rfl) (Frame.trans (Frame.mono State.freshen_frame rfl)
      (State.clearRead_frame (Part.sub_trans Block.sub_blocks rfl) rfl))

theorem State.badAccess_frame {s a1 a2 a3 a4} : Frame [.rPwr, .rMan, .rMemctl, .rQuay, .mem, .chk, .console,
    .manApp, .manSys, .power] s (State.badAccess s a1 a2 a3 a4).st := by
  unfold State.badAccess
  exact (Frame.mono State.busError_frame rfl)

theorem State.isolated_frame {s a1 a2 a3 a4} : Frame [.rPwr, .rMan, .rMemctl, .rQuay, .mem, .chk, .console,
    .manApp, .manSys, .power] s (State.isolated s a1 a2 a3 a4).st := by
  unfold State.isolated
  exact (Frame.mono State.busError_frame rfl)

theorem State.quayWrite_frame {s a1 a2} : Frame [.rPwr, .rMan, .rMemctl, .rQuay, .mem, .chk, .console, .manApp,
    .manSys, .power, .touch] s (State.quayWrite s a1 a2) := by
  unfold State.quayWrite
  exact (Frame.ite (Frame.ite (Frame.after (Frame.mono State.ctrlC_frame rfl) (Frame.ite (Frame.after
      (State.put_frame F.QUAY_GO_part rfl) (Frame.ite (State.put_frame F.QUAY_OVERRUN_part rfl) Frame.refl))
      (Frame.ite (State.put_frame F.QUAY_OVERRUN_part rfl) Frame.refl))) (Frame.ite (Frame.after (State.put_frame
      F.QUAY_GO_part rfl) (Frame.ite (State.put_frame F.QUAY_OVERRUN_part rfl) Frame.refl)) (Frame.ite
      (State.put_frame F.QUAY_OVERRUN_part rfl) Frame.refl))) (Frame.ite (Frame.ite Frame.refl (State.put_frame
      F.QUAY_LEN_part rfl)) (Frame.ite (Frame.ite (State.put_frame F.QUAY_RTAIL_part rfl) Frame.refl) (Frame.ite
      (Frame.mono State.setBytes_frame rfl) Frame.refl))))

theorem State.badAccess_mono {e s m a n w} (h : Part.sub [.rPwr, .rMan, .rMemctl, .rQuay, .mem, .chk, .console,
    .manApp, .manSys, .power] e = true) :
    Frame e s (State.badAccess s m a n w).st := Frame.mono State.badAccess_frame h
theorem State.inMemory_frame {e s m a n w act} (h0 : Part.sub [.rPwr, .rMan, .rMemctl, .rCrypto, .rQuay, .mem,
    .chk, .console, .manApp,
    .manSys, .crypto, .power, .mems] e = true) (h : ∀ t, Frame e t (act t).st) : Frame e s (State.inMemory s m a n
        w act).st := by
  unfold State.inMemory
  split
  · exact h s
  · split
    · exact h s
    · split
      · exact State.badAccess_mono (Part.sub_trans rfl h0)
      · exact Frame.trans (Frame.mono State.domainOn_frame h0) (h _)
theorem State.busRead_frame {s m a n} : Frame readParts s (State.busRead s m a n).st := by
  unfold State.busRead
  split
  · split
    · exact Frame.refl
    · exact State.badAccess_mono rfl
  · split
    · exact Frame.foldlBy Access.st (fun acc i => State.access_frame rfl fun u => State.regRead_frame) _ ⟨s, [],
        false, false⟩
    · split
      · exact State.badAccess_mono rfl
      · split
        · exact Frame.mono State.isolated_frame rfl
        · exact State.inMemory_frame rfl fun t => Frame.mono State.readMem_frame rfl

theorem State.busWrite_frame {s m a l} : Frame Part.most s (State.busWrite s m a l).st := by
  unfold State.busWrite
  dsimp only
  split
  · split
    · exact Frame.mono State.quayWrite_frame rfl
    · exact State.badAccess_mono rfl
  · split
    · refine Frame.foldlBy Access.st (fun acc i => ?_) _ ⟨s, [], false, false⟩
      have h : Part.sub [.rPwr, .rMan, .rMemctl, .rCrypto, .rQuay, .rLogs, .mem, .chk, .busData, .console, .manApp,
          .manSys, .logs,
        .crypto, .power, .mems] Part.most = true := rfl
      dsimp only
      refine State.access_frame h fun u => ?_
      exact Frame.trans (Frame.mono State.freshen_frame rfl) State.regWrite_frame
    · split
      · exact State.badAccess_mono rfl
      · split
        · exact Frame.mono State.isolated_frame rfl
        · exact State.inMemory_frame rfl fun t => Frame.mono State.writeMem_frame rfl

theorem execRegisterWrite_frame {a0 a1 a2 a3 s t} (h : execRegisterWrite a0 a1 a2 a3 s = .next t) :
    Frame Part.most s t := by
  obtain rfl := Host.Outcome.next.inj h
  exact (Frame.ite Frame.refl (Frame.mono State.busWrite_frame rfl))

theorem execReadClear_frame {a0 a1 s t} (h : execReadClear a0 a1 s = .next t) :
    Frame [.rSysctl, .rPwr, .rClk, .rHarv, .rMan, .rEvr, .rMemctl, .rLogs, .rTide, .rTp, .rRtc, .rUart, .rI2ct,
        .rSpi, .rLgt, .rAdc, .rTouch, .rCrypto, .rGpio, .rDma, .rLife, .rTest, .rGnss, .rFront, .rPlan, .rLookout,
        .rBerth, .rSillage, .rMeasq, .rBitlog, .rQuay, .free, .mem, .chk, .runs, .wbacks, .busData, .console,
        .manApp, .manSys, .rtc, .logs, .crypto, .power, .lgt, .uarts, .i2ct, .spis, .adc, .mems] s t := by
  obtain rfl := Host.Outcome.next.inj h
  exact (Frame.after (Frame.mono State.set_busData_frame rfl) (Frame.mono State.busRead_frame rfl))

end Sys2Proof.Machine
end

