-- ==== Sys2Proof/Laws/FrameConsole.lean ====
section
/-! SUPPORT. The frames of the operations and commands of Machine/Console.lean: what each can change. -/

namespace Sys2Proof.Machine

theorem State.lostLine_frame {s a1 a2} : Frame [.rPwr, .rMan, .rMemctl, .rTide, .rQuay, .mem, .chk, .console,
    .manApp, .manSys, .tt, .power] s (State.lostLine s a1 a2) := by
  unfold State.lostLine
  exact (by (first | (dsimp only; split) | split); exact (Frame.ite (Frame.after (Frame.mono State.ttReject_frame rfl) (Frame.mono State.er_frame rfl)) (Frame.mono State.er_frame rfl)); exact (Frame.mono State.er_frame rfl))

theorem State.takeLine_frame {s a1 a2} : Frame [.console] s (State.takeLine s a1 a2) := by
  unfold State.takeLine
  exact (Frame.after (Frame.mono State.withTag_frame rfl) (Frame.mono State.set_console_frame rfl))

end Sys2Proof.Machine
end

