-- ==== Sys2Proof/Laws/Catalogue.lean ====
section
/-! SUPPORT. Every command that the console's catalogue names answers a next state, in the frame of all parts but the queue. -/

namespace Sys2Proof.Machine

/-- A meaning that always answers a next state and leaves the queue alone. -/
def Act.Good (f : Act) : Prop := ∀ s, ∃ t, f s = .next t ∧ Frame Part.most s t

theorem Act.good_of {f : Act} {e : List Part} (h : ∀ {s t}, f s = .next t → Frame e s t)
    (hn : ∀ s, ∃ t, f s = .next t) (he : Part.sub e Part.most = true) : Act.Good f := fun s =>
  let ⟨t, ht⟩ := hn s
  ⟨t, ht, Frame.mono (h ht) he⟩

theorem Act.good_ite {c : Prop} [Decidable c] {f g : Act} (hf : Act.Good f) (hg : Act.Good g) : Act.Good (if c then f else g) := by
  split
  · exact hf
  · exact hg

/-- An argument list that names good meanings alone. -/
def Arg.Good (a : Arg Act) : Prop := ∀ f, a = .ok f → Act.Good f

def Command.Good (c : Command) : Prop := Arg.Good c.act

def Found.Good : Found → Prop
  | .noObject => True
  | .forms a b => (∀ c, a = some c → Command.Good c) ∧ ∀ c, b = some c → Command.Good c

theorem Found.good_forms {a b : Option Command} (h : ∀ c, a = some c → Command.Good c) (k : ∀ c, b = some c → Command.Good c) :
    Found.Good (.forms a b) := ⟨h, k⟩

theorem Command.good_some {c : Command} (h : Command.Good c) : ∀ d, some c = some d → Command.Good d :=
  fun _ e => Option.some.inj e |>.subst (motive := Command.Good) h

theorem Command.good_none : ∀ d, none = some d → Command.Good d := fun _ e => nomatch e

theorem Command.good_act {c : Command} {i : CmdInfo} {p q : Bool} {k : List String} {u v w : Bool} (h : Command.Good c) :
    Command.Good ⟨i, p, q, k, u, v, w, c.act⟩ := h

theorem setting_good {c q : Command} (h : Command.Good c) (k : Command.Good q) : Found.Good (setting c q) :=
  Found.good_forms (Command.good_some h) (Command.good_some k)

theorem action_good {c : Command} (h : Command.Good c) : Found.Good (action c) :=
  Found.good_forms (Command.good_some h) Command.good_none

theorem queryOnly_good {c : Command} (h : Command.Good c) : Found.Good (queryOnly c) :=
  Found.good_forms Command.good_none (Command.good_some h)

theorem Arg.mapTo_good {α : Type} {f : α → Act} {a : Arg α} (h : ∀ v, Act.Good (f v)) : Arg.Good (a.mapTo f) := by
  intro g hg
  unfold Arg.mapTo at hg
  split at hg
  · cases hg; exact h _
  · cases hg

theorem Arg.ok_good {f : Act} (h : Act.Good f) : Arg.Good (.ok f) :=
  fun _ e => (Except.ok.inj e).subst (motive := Act.Good) h

theorem Arg.error_good {l : List Nat} : Arg.Good (.error l) := fun _ e => nomatch e

theorem command_good {i : CmdInfo} {r : List String} {m n : Nat} {k : List String} {a : Arg Act} (h : Arg.Good a) :
    Command.Good (command i r m n k a) := h

theorem keyCommand_good {i : CmdInfo} {r : List String} {k : List String} {a : Arg Act} (h : Arg.Good a) :
    Command.Good (keyCommand i r k a) := h

theorem execSettingQuery_good {x : Sess} {q : Setting} : Act.Good (execSettingQuery x q) :=
  Act.good_of execSettingQuery_frame (fun _ => ⟨_, rfl⟩) rfl

theorem askFor_good {x : Sess} {q : Setting} {r : List String} {m n : Nat} : Command.Good (askFor x q r m n) :=
  Arg.ok_good execSettingQuery_good

theorem simpleQuery_good {i : CmdInfo} {r : List String} {f : Act} (h : Act.Good f) : Found.Good (simpleQuery i r f) :=
  queryOnly_good (Arg.ok_good h)

theorem execSysVerQuery_good {a0} : Act.Good (execSysVerQuery a0) := Act.good_of execSysVerQuery_frame (fun _ => ⟨_, rfl⟩) rfl
theorem execSysIdQuery_good {a0} : Act.Good (execSysIdQuery a0) := Act.good_of execSysIdQuery_frame (fun _ => ⟨_, rfl⟩) rfl
theorem execSysMode_good {a0 a1} : Act.Good (execSysMode a0 a1) := Act.good_of execSysMode_frame (fun _ => ⟨_, rfl⟩) rfl
theorem execSysCheck_good {a0 a1} : Act.Good (execSysCheck a0 a1) := Act.good_of execSysCheck_frame (fun _ => ⟨_, rfl⟩) rfl
theorem execSysBaud_good {a0 a1} : Act.Good (execSysBaud a0 a1) := Act.good_of execSysBaud_frame (fun _ => ⟨_, rfl⟩) rfl
theorem execSysNotice_good {a0 a1} : Act.Good (execSysNotice a0 a1) := Act.good_of execSysNotice_frame (fun _ => ⟨_, rfl⟩) rfl
theorem execSysStatQuery_good {a0} : Act.Good (execSysStatQuery a0) := Act.good_of execSysStatQuery_frame (fun _ => ⟨_, rfl⟩) rfl
theorem execSysReset_good {a0 a1} : Act.Good (execSysReset a0 a1) := Act.good_of execSysReset_frame (fun _ => ⟨_, rfl⟩) rfl
theorem execOwn_good {a0 a1 a2} : Act.Good (execOwn a0 a1 a2) := Act.good_of execOwn_frame (fun _ => ⟨_, rfl⟩) rfl
theorem execOwnQuery_good {a0 a1} : Act.Good (execOwnQuery a0 a1) := Act.good_of execOwnQuery_frame (fun _ => ⟨_, rfl⟩) rfl
theorem execLevelSession_good {a0 a1} : Act.Good (execLevelSession a0 a1) := Act.good_of execLevelSession_frame (fun _ => ⟨_, rfl⟩) rfl
theorem execLevelBlock_good {a0 a1 a2} : Act.Good (execLevelBlock a0 a1 a2) := Act.good_of execLevelBlock_frame (fun _ => ⟨_, rfl⟩) rfl
theorem execPwrPoint_good {a0 a1} : Act.Good (execPwrPoint a0 a1) := Act.good_of execPwrPoint_frame (fun _ => ⟨_, rfl⟩) rfl
theorem execPwrPath_good {a0 a1} : Act.Good (execPwrPath a0 a1) := Act.good_of execPwrPath_frame (fun _ => ⟨_, rfl⟩) rfl
theorem execPwrReg_good {a0 a1} : Act.Good (execPwrReg a0 a1) := Act.good_of execPwrReg_frame (fun _ => ⟨_, rfl⟩) rfl
theorem execPwrLedgerQuery_good {a0} : Act.Good (execPwrLedgerQuery a0) := Act.good_of execPwrLedgerQuery_frame (fun _ => ⟨_, rfl⟩) rfl
theorem execPwrDomain_good {a0 a1 a2} : Act.Good (execPwrDomain a0 a1 a2) := Act.good_of execPwrDomain_frame (fun _ => ⟨_, rfl⟩) rfl
theorem execPwrBias_good {a0 a1 a2} : Act.Good (execPwrBias a0 a1 a2) := Act.good_of execPwrBias_frame (fun _ => ⟨_, rfl⟩) rfl
theorem execNoteSleep_good {a0 a1} : Act.Good (execNoteSleep a0 a1) := Act.good_of execNoteSleep_frame (fun _ => ⟨_, rfl⟩) rfl
theorem execNoteRetain_good {a0 a1 a2 a3} : Act.Good (execNoteRetain a0 a1 a2 a3) := Act.good_of execNoteRetain_frame (fun _ => ⟨_, rfl⟩) rfl
theorem execNoteWakeQuery_good {a0} : Act.Good (execNoteWakeQuery a0) := Act.good_of execNoteWakeQuery_frame (fun _ => ⟨_, rfl⟩) rfl
theorem execNoteHistQuery_good {a0} : Act.Good (execNoteHistQuery a0) := Act.good_of execNoteHistQuery_frame (fun _ => ⟨_, rfl⟩) rfl
theorem execClkSrc_good {a0 a1 a2} : Act.Good (execClkSrc a0 a1 a2) := Act.good_of execClkSrc_frame (fun _ => ⟨_, rfl⟩) rfl
theorem execClkGate_good {a0 a1 a2 a3} : Act.Good (execClkGate a0 a1 a2 a3) := Act.good_of execClkGate_frame (fun _ => ⟨_, rfl⟩) rfl
theorem execClkMon_good {a0 a1 a2} : Act.Good (execClkMon a0 a1 a2) := Act.good_of execClkMon_frame (fun _ => ⟨_, rfl⟩) rfl
theorem execClkQuery_good {a0 a1} : Act.Good (execClkQuery a0 a1) := Act.good_of execClkQuery_frame (fun _ => ⟨_, rfl⟩) rfl
theorem execHarvMppt_good {a0 a1 a2} : Act.Good (execHarvMppt a0 a1 a2) := Act.good_of execHarvMppt_frame (fun _ => ⟨_, rfl⟩) rfl
theorem execHarvXmit_good {a0 a1} : Act.Good (execHarvXmit a0 a1) := Act.good_of execHarvXmit_frame (fun _ => ⟨_, rfl⟩) rfl
theorem execHarvOvp_good {a0 a1} : Act.Good (execHarvOvp a0 a1) := Act.good_of execHarvOvp_frame (fun _ => ⟨_, rfl⟩) rfl
theorem execHarvPermitQuery_good {a0} : Act.Good (execHarvPermitQuery a0) := Act.good_of execHarvPermitQuery_frame (fun _ => ⟨_, rfl⟩) rfl
theorem execHarvQuery_good {a0} : Act.Good (execHarvQuery a0) := Act.good_of execHarvQuery_frame (fun _ => ⟨_, rfl⟩) rfl
theorem execGnssMode_good {a0 a1} : Act.Good (execGnssMode a0 a1) := Act.good_of execGnssMode_frame (fun _ => ⟨_, rfl⟩) rfl
theorem execGnssBurst_good {a0 a1 a2} : Act.Good (execGnssBurst a0 a1 a2) := Act.good_of execGnssBurst_frame (fun _ => ⟨_, rfl⟩) rfl
theorem execGnssSnap_good {a0 a1} : Act.Good (execGnssSnap a0 a1) := Act.good_of execGnssSnap_frame (fun _ => ⟨_, rfl⟩) rfl
theorem execGnssAid_good {a0 a1} : Act.Good (execGnssAid a0 a1) := Act.good_of execGnssAid_frame (fun _ => ⟨_, rfl⟩) rfl
theorem execGnssRestart_good {a0 a1} : Act.Good (execGnssRestart a0 a1) := Act.good_of execGnssRestart_frame (fun _ => ⟨_, rfl⟩) rfl
theorem execGnssFixQuery_good {a0} : Act.Good (execGnssFixQuery a0) := Act.good_of execGnssFixQuery_frame (fun _ => ⟨_, rfl⟩) rfl
theorem execGnssStatQuery_good {a0} : Act.Good (execGnssStatQuery a0) := Act.good_of execGnssStatQuery_frame (fun _ => ⟨_, rfl⟩) rfl
theorem execPlanSys_good {a0 a1 a2} : Act.Good (execPlanSys a0 a1 a2) := Act.good_of execPlanSys_frame (fun _ => ⟨_, rfl⟩) rfl
theorem execPlanElev_good {a0 a1} : Act.Good (execPlanElev a0 a1) := Act.good_of execPlanElev_frame (fun _ => ⟨_, rfl⟩) rfl
theorem execPlanAssign_good {a0 a1 a2 a3} : Act.Good (execPlanAssign a0 a1 a2 a3) := Act.good_of execPlanAssign_frame (fun _ => ⟨_, rfl⟩) rfl
theorem execPlanQuery_good {a0 a1} : Act.Good (execPlanQuery a0 a1) := Act.good_of execPlanQuery_frame (fun _ => ⟨_, rfl⟩) rfl
theorem execBerthQuery_good {a0 a1} : Act.Good (execBerthQuery a0 a1) := Act.good_of execBerthQuery_frame (fun _ => ⟨_, rfl⟩) rfl
theorem execBerthSpacing_good {a0 a1 a2 a3} : Act.Good (execBerthSpacing a0 a1 a2 a3) := Act.good_of execBerthSpacing_frame (fun _ => ⟨_, rfl⟩) rfl
theorem execBerthLoop_good {a0 a1 a2 a3 a4} : Act.Good (execBerthLoop a0 a1 a2 a3 a4) := Act.good_of execBerthLoop_frame (fun _ => ⟨_, rfl⟩) rfl
theorem execMeasBondQuery_good {a0} : Act.Good (execMeasBondQuery a0) := Act.good_of execMeasBondQuery_frame (fun _ => ⟨_, rfl⟩) rfl
theorem execMeasQuery_good {a0} : Act.Good (execMeasQuery a0) := Act.good_of execMeasQuery_frame (fun _ => ⟨_, rfl⟩) rfl
theorem execBitsQuery_good {a0 a1 a2} : Act.Good (execBitsQuery a0 a1 a2) := Act.good_of execBitsQuery_frame (fun _ => ⟨_, rfl⟩) rfl
theorem execNmeaSet_good {a0 a1} : Act.Good (execNmeaSet a0 a1) := Act.good_of execNmeaSet_frame (fun _ => ⟨_, rfl⟩) rfl
theorem execNmeaRate_good {a0 a1} : Act.Good (execNmeaRate a0 a1) := Act.good_of execNmeaRate_frame (fun _ => ⟨_, rfl⟩) rfl
theorem execNmeaOnOff_good {a0 a1 a2} : Act.Good (execNmeaOnOff a0 a1 a2) := Act.good_of execNmeaOnOff_frame (fun _ => ⟨_, rfl⟩) rfl
theorem execTideQuery_good {a0} : Act.Good (execTideQuery a0) := Act.good_of execTideQuery_frame (fun _ => ⟨_, rfl⟩) rfl
theorem execTideSrc_good {a0 a1} : Act.Good (execTideSrc a0 a1) := Act.good_of execTideSrc_frame (fun _ => ⟨_, rfl⟩) rfl
theorem execTideScale_good {a0 a1} : Act.Good (execTideScale a0 a1) := Act.good_of execTideScale_frame (fun _ => ⟨_, rfl⟩) rfl
theorem execTideLeap_good {a0 a1} : Act.Good (execTideLeap a0 a1) := Act.good_of execTideLeap_frame (fun _ => ⟨_, rfl⟩) rfl
theorem execTideRate_good {a0 a1} : Act.Good (execTideRate a0 a1) := Act.good_of execTideRate_frame (fun _ => ⟨_, rfl⟩) rfl
theorem execTideLoop_good {a0 a1 a2 a3} : Act.Good (execTideLoop a0 a1 a2 a3) := Act.good_of execTideLoop_frame (fun _ => ⟨_, rfl⟩) rfl
theorem execTtSync_good {a0 a1 a2} : Act.Good (execTtSync a0 a1 a2) := Act.good_of execTtSync_frame (fun _ => ⟨_, rfl⟩) rfl
theorem execTtFollow_good {a0 a1 a2 a3} : Act.Good (execTtFollow a0 a1 a2 a3) := Act.good_of execTtFollow_frame (fun _ => ⟨_, rfl⟩) rfl
theorem execTtDresp_good {a0 a1 a2} : Act.Good (execTtDresp a0 a1 a2) := Act.good_of execTtDresp_frame (fun _ => ⟨_, rfl⟩) rfl
theorem execTtOnOff_good {a0 a1 a2} : Act.Good (execTtOnOff a0 a1 a2) := Act.good_of execTtOnOff_frame (fun _ => ⟨_, rfl⟩) rfl
theorem execTtQuery_good {a0} : Act.Good (execTtQuery a0) := Act.good_of execTtQuery_frame (fun _ => ⟨_, rfl⟩) rfl
theorem execTpSet_good {a0 a1 a2 a3 a4} : Act.Good (execTpSet a0 a1 a2 a3 a4) := Act.good_of execTpSet_frame (fun _ => ⟨_, rfl⟩) rfl
theorem execTpDelay_good {a0 a1} : Act.Good (execTpDelay a0 a1) := Act.good_of execTpDelay_frame (fun _ => ⟨_, rfl⟩) rfl
theorem execTpPolicy_good {a0 a1} : Act.Good (execTpPolicy a0 a1) := Act.good_of execTpPolicy_frame (fun _ => ⟨_, rfl⟩) rfl
theorem execTpOnOff_good {a0 a1} : Act.Good (execTpOnOff a0 a1) := Act.good_of execTpOnOff_frame (fun _ => ⟨_, rfl⟩) rfl
theorem execRtcMode_good {a0 a1} : Act.Good (execRtcMode a0 a1) := Act.good_of execRtcMode_frame (fun _ => ⟨_, rfl⟩) rfl
theorem execRtcSet_good {a0 a1 a2 a3} : Act.Good (execRtcSet a0 a1 a2 a3) := Act.good_of execRtcSet_frame (fun _ => ⟨_, rfl⟩) rfl
theorem execRtcShift_good {a0 a1} : Act.Good (execRtcShift a0 a1) := Act.good_of execRtcShift_frame (fun _ => ⟨_, rfl⟩) rfl
theorem execRtcAlarm_good {a0 a1 a2} : Act.Good (execRtcAlarm a0 a1 a2) := Act.good_of execRtcAlarm_frame (fun _ => ⟨_, rfl⟩) rfl
theorem execRtcTrickle_good {a0 a1 a2} : Act.Good (execRtcTrickle a0 a1 a2) := Act.good_of execRtcTrickle_frame (fun _ => ⟨_, rfl⟩) rfl
theorem execRtcOsfClear_good {a0} : Act.Good (execRtcOsfClear a0) := Act.good_of execRtcOsfClear_frame (fun _ => ⟨_, rfl⟩) rfl
theorem execRtcOsfQuery_good {a0} : Act.Good (execRtcOsfQuery a0) := Act.good_of execRtcOsfQuery_frame (fun _ => ⟨_, rfl⟩) rfl
theorem execLogQuery_good {a0} : Act.Good (execLogQuery a0) := Act.good_of execLogQuery_frame (fun _ => ⟨_, rfl⟩) rfl
theorem execLogRead_good {a0 a1 a2} : Act.Good (execLogRead a0 a1 a2) := Act.good_of execLogRead_frame (fun _ => ⟨_, rfl⟩) rfl
theorem execLogWrite_good {a0 a1 a2} : Act.Good (execLogWrite a0 a1 a2) := Act.good_of execLogWrite_frame (fun _ => ⟨_, rfl⟩) rfl
theorem execLogProtect_good {a0 a1} : Act.Good (execLogProtect a0 a1) := Act.good_of execLogProtect_frame (fun _ => ⟨_, rfl⟩) rfl
theorem execLogTallyQuery_good {a0 a1} : Act.Good (execLogTallyQuery a0 a1) := Act.good_of execLogTallyQuery_frame (fun _ => ⟨_, rfl⟩) rfl
theorem execAdcMode_good {a0 a1} : Act.Good (execAdcMode a0 a1) := Act.good_of execAdcMode_frame (fun _ => ⟨_, rfl⟩) rfl
theorem execAdcRef_good {a0 a1 a2} : Act.Good (execAdcRef a0 a1 a2) := Act.good_of execAdcRef_frame (fun _ => ⟨_, rfl⟩) rfl
theorem execAdcReadQuery_good {a0 a1} : Act.Good (execAdcReadQuery a0 a1) := Act.good_of execAdcReadQuery_frame (fun _ => ⟨_, rfl⟩) rfl
theorem execTouchMode_good {a0 a1} : Act.Good (execTouchMode a0 a1) := Act.good_of execTouchMode_frame (fun _ => ⟨_, rfl⟩) rfl
theorem execTouchOntime_good {a0 a1} : Act.Good (execTouchOntime a0 a1) := Act.good_of execTouchOntime_frame (fun _ => ⟨_, rfl⟩) rfl
theorem execTouchTest_good {a0} : Act.Good (execTouchTest a0) := Act.good_of execTouchTest_frame (fun _ => ⟨_, rfl⟩) rfl
theorem execLgtQuery_good {a0 a1} : Act.Good (execLgtQuery a0 a1) := Act.good_of execLgtQuery_frame (fun _ => ⟨_, rfl⟩) rfl
theorem execLgtLoad_good {a0 a1 a2 a3} : Act.Good (execLgtLoad a0 a1 a2 a3) := Act.good_of execLgtLoad_frame (fun _ => ⟨_, rfl⟩) rfl
theorem execLgtRun_good {a0 a1} : Act.Good (execLgtRun a0 a1) := Act.good_of execLgtRun_frame (fun _ => ⟨_, rfl⟩) rfl
theorem execLgtStop_good {a0 a1} : Act.Good (execLgtStop a0 a1) := Act.good_of execLgtStop_frame (fun _ => ⟨_, rfl⟩) rfl
theorem execLgtClrshift_good {a0 a1} : Act.Good (execLgtClrshift a0 a1) := Act.good_of execLgtClrshift_frame (fun _ => ⟨_, rfl⟩) rfl
theorem execLgtDiv_good {a0 a1 a2} : Act.Good (execLgtDiv a0 a1 a2) := Act.good_of execLgtDiv_frame (fun _ => ⟨_, rfl⟩) rfl
theorem execSignAttest_good {a0 a1} : Act.Good (execSignAttest a0 a1) := Act.good_of execSignAttest_frame (fun _ => ⟨_, rfl⟩) rfl
theorem execSignFixNow_good {a0} : Act.Good (execSignFixNow a0) := Act.good_of execSignFixNow_frame (fun _ => ⟨_, rfl⟩) rfl
theorem execSignFix_good {a0 a1} : Act.Good (execSignFix a0 a1) := Act.good_of execSignFix_frame (fun _ => ⟨_, rfl⟩) rfl
theorem execSignKeyQuery_good {a0} : Act.Good (execSignKeyQuery a0) := Act.good_of execSignKeyQuery_frame (fun _ => ⟨_, rfl⟩) rfl
theorem execLifeQuery_good {a0} : Act.Good (execLifeQuery a0) := Act.good_of execLifeQuery_frame (fun _ => ⟨_, rfl⟩) rfl
theorem execLifeGo_good {a0 a1 a2 a3} : Act.Good (execLifeGo a0 a1 a2 a3) := Act.good_of execLifeGo_frame (fun _ => ⟨_, rfl⟩) rfl
theorem execLifeImageLoad_good {a0 a1 a2} : Act.Good (execLifeImageLoad a0 a1 a2) := Act.good_of execLifeImageLoad_frame (fun _ => ⟨_, rfl⟩) rfl
theorem execLifeImageCommit_good {a0} : Act.Good (execLifeImageCommit a0) := Act.good_of execLifeImageCommit_frame (fun _ => ⟨_, rfl⟩) rfl
theorem execLifeImageQuery_good {a0} : Act.Good (execLifeImageQuery a0) := Act.good_of execLifeImageQuery_frame (fun _ => ⟨_, rfl⟩) rfl
theorem execTestMem_good {a0 a1} : Act.Good (execTestMem a0 a1) := Act.good_of execTestMem_frame (fun _ => ⟨_, rfl⟩) rfl
theorem execTestRf_good {a0 a1 a2} : Act.Good (execTestRf a0 a1 a2) := Act.good_of execTestRf_frame (fun _ => ⟨_, rfl⟩) rfl
theorem execTestPin_good {a0 a1 a2} : Act.Good (execTestPin a0 a1 a2) := Act.good_of execTestPin_frame (fun _ => ⟨_, rfl⟩) rfl

theorem sysGroup_good {x p} : Found.Good (sysGroup x p) := by
  unfold sysGroup
  exact (by (first | (dsimp only; split) | split); exact (simpleQuery_good execSysVerQuery_good); exact (simpleQuery_good execSysIdQuery_good); exact (setting_good (command_good (Arg.mapTo_good fun _ => execSysMode_good)) askFor_good); exact (setting_good (command_good (Arg.mapTo_good fun _ => execSysCheck_good)) askFor_good); exact (setting_good (command_good (Arg.mapTo_good fun _ => execSysBaud_good)) askFor_good); exact (setting_good (command_good (Arg.mapTo_good fun _ => execSysNotice_good)) askFor_good); exact (simpleQuery_good execSysStatQuery_good); exact (action_good (command_good (Arg.mapTo_good fun _ => execSysReset_good))); exact trivial)

theorem ownGroup_good {x r} : Found.Good (ownGroup x r) := by
  unfold ownGroup
  exact (Found.good_forms (Command.good_some (command_good (Arg.mapTo_good fun _ => execOwn_good))) (Command.good_some (command_good (Arg.mapTo_good fun _ => execOwnQuery_good))))

theorem levelGroup_good {x r} : Found.Good (levelGroup x r) := by
  unfold levelGroup
  exact (setting_good (by (first | (dsimp only; split) | split); exact (command_good (by (first | (dsimp only; split) | split); exact Arg.error_good; exact (Arg.mapTo_good fun _ => execLevelSession_good))); exact (command_good (Arg.mapTo_good fun _ => execLevelBlock_good))) (command_good (Arg.mapTo_good fun _ => execSettingQuery_good)))

theorem pwrGroup_good {x p} : Found.Good (pwrGroup x p) := by
  unfold pwrGroup
  exact (by (first | (dsimp only; split) | split); exact (setting_good (command_good (Arg.mapTo_good fun _ => execPwrPoint_good)) askFor_good); exact (setting_good (command_good (Arg.mapTo_good fun _ => execPwrPath_good)) askFor_good); exact (setting_good (command_good (Arg.mapTo_good fun _ => execPwrReg_good)) askFor_good); exact (simpleQuery_good execPwrLedgerQuery_good); exact (setting_good (command_good (Arg.mapTo_good fun _ => execPwrDomain_good)) (command_good (Arg.mapTo_good fun _ => execSettingQuery_good))); exact (setting_good (command_good (Arg.mapTo_good fun _ => execPwrBias_good)) (command_good (Arg.mapTo_good fun _ => execSettingQuery_good))); exact trivial)

theorem noteGroup_good {x p} : Found.Good (noteGroup x p) := by
  unfold noteGroup
  exact (by (first | (dsimp only; split) | split); exact (setting_good (command_good (Arg.mapTo_good fun _ => execNoteSleep_good)) askFor_good); exact (setting_good (command_good (Arg.mapTo_good fun _ => execNoteRetain_good)) askFor_good); exact (simpleQuery_good execNoteWakeQuery_good); exact (simpleQuery_good execNoteHistQuery_good); exact trivial)

theorem clkGroup_good {x p a} : Found.Good (clkGroup x p a) := by
  unfold clkGroup
  exact (by (first | (dsimp only; split) | split); exact (setting_good (command_good (Arg.mapTo_good fun _ => execClkSrc_good)) (command_good (Arg.mapTo_good fun _ => execSettingQuery_good))); exact (setting_good (command_good (Arg.mapTo_good fun _ => execClkGate_good)) (command_good (Arg.mapTo_good fun _ => execSettingQuery_good))); exact (setting_good (command_good (Arg.mapTo_good fun _ => execClkMon_good)) (command_good (Arg.mapTo_good fun _ => execSettingQuery_good))); exact (by split; exact trivial; exact (queryOnly_good (command_good (Arg.mapTo_good fun _ => execClkQuery_good)))))

theorem harvGroup_good {x p a} : Found.Good (harvGroup x p a) := by
  unfold harvGroup
  exact (by (first | (dsimp only; split) | split); exact (setting_good (keyCommand_good (by (first | (dsimp only; split) | split); exact (Arg.mapTo_good fun _ => execHarvMppt_good); exact (Arg.mapTo_good fun _ => execHarvMppt_good); exact Arg.error_good; exact Arg.error_good)) askFor_good); exact (setting_good (command_good (Arg.mapTo_good fun _ => execHarvXmit_good)) askFor_good); exact (setting_good (command_good (Arg.mapTo_good fun _ => execHarvOvp_good)) askFor_good); exact (simpleQuery_good execHarvPermitQuery_good); exact (simpleQuery_good execHarvQuery_good); exact trivial)

theorem gnssGroup_good {x p a} : Found.Good (gnssGroup x p a) := by
  unfold gnssGroup
  exact (by (first | (dsimp only; split) | split); exact (setting_good (command_good (Arg.mapTo_good fun _ => execGnssMode_good)) askFor_good); exact (setting_good (keyCommand_good (Arg.mapTo_good fun _ => execGnssBurst_good)) askFor_good); exact (action_good (command_good (Arg.mapTo_good fun _ => execGnssSnap_good))); exact (action_good (keyCommand_good (Arg.mapTo_good fun _ => execGnssAid_good))); exact (action_good (command_good (Arg.mapTo_good fun _ => execGnssRestart_good))); exact (simpleQuery_good execGnssFixQuery_good); exact (simpleQuery_good execGnssStatQuery_good); exact trivial)

theorem planGroup_good {x p a} : Found.Good (planGroup x p a) := by
  unfold planGroup
  exact (by (first | (dsimp only; split) | split); exact (setting_good (command_good (Arg.mapTo_good fun _ => execPlanSys_good)) askFor_good); exact (setting_good (command_good (Arg.mapTo_good fun _ => execPlanElev_good)) askFor_good); exact (action_good (command_good (Arg.mapTo_good fun _ => execPlanAssign_good))); exact (by split; exact trivial; exact (queryOnly_good (command_good (Arg.mapTo_good fun _ => execPlanQuery_good)))))

theorem berthGroup_good {x p a} : Found.Good (berthGroup x p a) := by
  unfold berthGroup
  exact (by (first | (dsimp only; split) | split); exact (queryOnly_good (command_good (Arg.mapTo_good fun _ => execBerthQuery_good))); exact (setting_good (keyCommand_good (Arg.mapTo_good fun _ => execBerthSpacing_good)) (command_good (Arg.mapTo_good fun _ => execSettingQuery_good))); exact (setting_good (by (first | (dsimp only; split) | split); exact (keyCommand_good (Arg.mapTo_good fun _ => execBerthLoop_good)); exact (command_good (by split; exact (Arg.mapTo_good fun _ => execBerthLoop_good); exact Arg.error_good))) (command_good (Arg.mapTo_good fun _ => execSettingQuery_good))); exact trivial)

theorem measGroup_good {x r a} : Found.Good (measGroup x r a) := by
  unfold measGroup
  exact (queryOnly_good (by (first | (dsimp only; split) | split); exact (command_good (Arg.mapTo_good fun _ => execMeasBondQuery_good)); exact (command_good (Arg.ok_good execMeasQuery_good))))

theorem bitsGroup_good {x r} : Found.Good (bitsGroup x r) := by
  unfold bitsGroup
  exact (queryOnly_good (command_good (Arg.mapTo_good fun _ => execBitsQuery_good)))

theorem nmeaGroup_good {x p a} : Found.Good (nmeaGroup x p a) := by
  unfold nmeaGroup
  exact (by (first | (dsimp only; split) | split); exact (setting_good (command_good (Arg.mapTo_good fun _ => execNmeaSet_good)) askFor_good); exact (setting_good (command_good (Arg.mapTo_good fun _ => execNmeaRate_good)) askFor_good); exact (setting_good (command_good (Arg.mapTo_good fun _ => execNmeaOnOff_good)) askFor_good))

theorem tideGroup_good {x p a} : Found.Good (tideGroup x p a) := by
  unfold tideGroup
  exact (by (first | (dsimp only; split) | split); exact (simpleQuery_good execTideQuery_good); exact (setting_good (command_good (Arg.mapTo_good fun _ => execTideSrc_good)) askFor_good); exact (setting_good (command_good (Arg.mapTo_good fun _ => execTideScale_good)) askFor_good); exact (setting_good (command_good (Arg.mapTo_good fun _ => execTideLeap_good)) askFor_good); exact (setting_good (command_good (Arg.mapTo_good fun _ => execTideRate_good)) askFor_good); exact (setting_good (command_good (by split; exact Arg.error_good; exact (Arg.mapTo_good fun _ => execTideLoop_good))) askFor_good); exact trivial)

theorem ttGroup_good {s x p a} : Found.Good (ttGroup s x p a) := by
  unfold ttGroup
  exact (by (first | (dsimp only; split) | split); exact (action_good (Command.good_act (command_good (Arg.mapTo_good fun _ => execTtSync_good)))); exact (action_good (Command.good_act (command_good (Arg.mapTo_good fun _ => execTtFollow_good)))); exact (action_good (Command.good_act (command_good (Arg.mapTo_good fun _ => execTtDresp_good)))); exact (setting_good (command_good (Arg.mapTo_good fun _ => execTtOnOff_good)) (command_good (Arg.ok_good execTtQuery_good))))

theorem tpGroup_good {x p a} : Found.Good (tpGroup x p a) := by
  unfold tpGroup
  exact (by (first | (dsimp only; split) | split); exact (setting_good (keyCommand_good (Arg.mapTo_good fun _ => execTpSet_good)) askFor_good); exact (setting_good (command_good (Arg.mapTo_good fun _ => execTpDelay_good)) askFor_good); exact (setting_good (command_good (Arg.mapTo_good fun _ => execTpPolicy_good)) askFor_good); exact (setting_good (command_good (Arg.mapTo_good fun _ => execTpOnOff_good)) askFor_good))

theorem rtcForms_good {s x p a} : Found.Good (rtcForms s x p a) := by
  unfold rtcForms
  exact (by (first | (dsimp only; split) | split); exact (setting_good (command_good (Arg.mapTo_good fun _ => execRtcMode_good)) askFor_good); exact (setting_good (command_good (Arg.mapTo_good fun _ => execRtcSet_good)) askFor_good); exact (action_good (command_good (Arg.mapTo_good fun _ => execRtcShift_good))); exact (setting_good (command_good (Arg.mapTo_good fun _ => execRtcAlarm_good)) (command_good (Arg.mapTo_good fun _ => execSettingQuery_good))); exact (setting_good (command_good (Arg.mapTo_good fun _ => execRtcTrickle_good)) askFor_good); exact (action_good (command_good (Arg.ok_good execRtcOsfClear_good))); exact (simpleQuery_good execRtcOsfQuery_good); exact trivial)

theorem logGroup_good {x p} : Found.Good (logGroup x p) := by
  unfold logGroup
  exact (by (first | (dsimp only; split) | split); exact (simpleQuery_good execLogQuery_good); exact (action_good (command_good (Arg.mapTo_good fun _ => execLogRead_good))); exact (action_good (command_good (Arg.mapTo_good fun _ => execLogWrite_good))); exact (setting_good (command_good (Arg.mapTo_good fun _ => execLogProtect_good)) askFor_good); exact (queryOnly_good (command_good (Arg.mapTo_good fun _ => execLogTallyQuery_good))); exact trivial)

theorem adcGroup_good {x p} : Found.Good (adcGroup x p) := by
  unfold adcGroup
  exact (by (first | (dsimp only; split) | split); exact (setting_good (command_good (Arg.mapTo_good fun _ => execAdcMode_good)) askFor_good); exact (setting_good (command_good (Arg.mapTo_good fun _ => execAdcRef_good)) askFor_good); exact (queryOnly_good (command_good (Arg.mapTo_good fun _ => execAdcReadQuery_good))); exact trivial)

theorem touchGroup_good {x p} : Found.Good (touchGroup x p) := by
  unfold touchGroup
  exact (by (first | (dsimp only; split) | split); exact (setting_good (command_good (Arg.mapTo_good fun _ => execTouchMode_good)) askFor_good); exact (setting_good (command_good (Arg.mapTo_good fun _ => execTouchOntime_good)) askFor_good); exact (action_good (command_good (Arg.ok_good execTouchTest_good))); exact trivial)

theorem lgtGroup_good {x p} : Found.Good (lgtGroup x p) := by
  unfold lgtGroup
  exact (by (first | (dsimp only; split) | split); exact (queryOnly_good (command_good (Arg.mapTo_good fun _ => execLgtQuery_good))); exact (action_good (command_good (Arg.mapTo_good fun _ => execLgtLoad_good))); exact (action_good (command_good (Arg.mapTo_good fun _ => execLgtRun_good))); exact (action_good (command_good (Arg.mapTo_good fun _ => execLgtStop_good))); exact (action_good (command_good (Arg.mapTo_good fun _ => execLgtClrshift_good))); exact (setting_good (command_good (Arg.mapTo_good fun _ => execLgtDiv_good)) (command_good (Arg.mapTo_good fun _ => execSettingQuery_good))); exact trivial)

theorem signGroup_good {x p a} : Found.Good (signGroup x p a) := by
  unfold signGroup
  exact (by (first | (dsimp only; split) | split); exact (action_good (keyCommand_good (Arg.mapTo_good fun _ => execSignAttest_good))); exact (setting_good (command_good (Arg.mapTo_good fun _ => (by split; exact execSignFixNow_good; exact execSignFix_good))) askFor_good); exact (simpleQuery_good execSignKeyQuery_good); exact trivial)

theorem lifeGroup_good {s x p a} : Found.Good (lifeGroup s x p a) := by
  unfold lifeGroup
  exact (by (first | (dsimp only; split) | split); exact (simpleQuery_good execLifeQuery_good); exact (action_good (Command.good_act (command_good (Arg.mapTo_good fun _ => execLifeGo_good)))); exact (action_good (command_good (Arg.mapTo_good fun _ => execLifeImageLoad_good))); exact (action_good (command_good (Arg.ok_good execLifeImageCommit_good))); exact (simpleQuery_good execLifeImageQuery_good); exact trivial)

theorem testGroup_good {x p} : Found.Good (testGroup x p) := by
  unfold testGroup
  exact (by (first | (dsimp only; split) | split); exact (action_good (command_good (Arg.mapTo_good fun _ => execTestMem_good))); exact (action_good (command_good (Arg.mapTo_good fun _ => execTestRf_good))); exact (action_good (command_good (Arg.mapTo_good fun _ => execTestPin_good))); exact trivial)


/-- An outcome that is a next state in the frame of all parts but the queue. -/
def Answers (s : State) (o : Host.Outcome State Fault Refusal) : Prop := ∃ t, o = .next t ∧ Frame Part.most s t

theorem Answers.next {s t : State} {e : List Part} (h : Frame e s t) (he : Part.sub e Part.most = true) : Answers s (.next t) :=
  ⟨t, rfl, h.mono he⟩

theorem Answers.ite {s : State} {c : Prop} [Decidable c] {a b : Host.Outcome State Fault Refusal} (ha : Answers s a)
    (hb : Answers s b) : Answers s (if c then a else b) := by
  split
  · exact ha
  · exact hb

theorem Answers.trans {s t : State} {o : Host.Outcome State Fault Refusal} {e : List Part} (h : Frame e s t)
    (he : Part.sub e Part.most = true) (k : Answers t o) : Answers s o :=
  let ⟨u, hu, hf⟩ := k
  ⟨u, hu, (h.mono he).trans hf⟩

theorem State.catalogue_good {s x v p a f} (h : State.catalogue s x v p a = some f) : Found.Good f := by
  unfold State.catalogue at h
  split at h
  · cases h
  · split at h
    any_goals obtain rfl := Option.some.inj h
    · exact sysGroup_good
    · exact ownGroup_good
    · exact levelGroup_good
    · exact pwrGroup_good
    · exact noteGroup_good
    · exact clkGroup_good
    · exact harvGroup_good
    · exact gnssGroup_good
    · exact planGroup_good
    · exact berthGroup_good
    · exact measGroup_good
    · exact bitsGroup_good
    · exact nmeaGroup_good
    · exact tideGroup_good
    · exact ttGroup_good
    · exact tpGroup_good
    · exact rtcForms_good
    · exact logGroup_good
    · exact adcGroup_good
    · exact touchGroup_good
    · exact lgtGroup_good
    · exact signGroup_good
    · exact lifeGroup_good
    · exact testGroup_good
    · cases h

theorem State.er_answers {s x n} : Answers s (.next (State.er s x n)) := Answers.next State.er_frame rfl

theorem State.runCommand_answers {s x c a} (h : Command.Good c) : Answers s (State.runCommand s x c a) := by
  have hl : ∀ n, Answers s (.next ((if c.lifeGo then s.newCode else s).er x n)) := fun n =>
    Answers.next (e := Part.most) (Frame.after (Frame.mono State.er_frame rfl)
      (Frame.ite (Frame.mono State.newCode_frame rfl) Frame.refl)) rfl
  unfold State.runCommand
  refine Answers.ite State.er_answers (Answers.ite State.er_answers ?_)
  split
  · exact State.er_answers
  · refine Answers.ite (hl _) ?_
    split
    · exact hl _
    · exact hl _
    · rename_i f hf _
      exact h f hf s

theorem State.runLine_answers {s x a} : Answers s (State.runLine s x a) := by
  unfold State.runLine
  split
  · exact State.er_answers
  · split
    · exact State.er_answers
    · exact State.er_answers
    · rename_i hc
      have hg := State.catalogue_good hc
      split
      · exact State.er_answers
      · rename_i c h
        refine State.runCommand_answers ?_
        split at h
        · exact hg.2 c h
        · exact hg.1 c h

theorem State.line_answers {s x l} : Answers s (State.line s x l) := by
  unfold State.line
  dsimp only
  refine Answers.ite (Answers.next State.lostLine_frame rfl) (Answers.ite ?_ (Answers.ite State.er_answers
    (Answers.ite State.er_answers (Answers.ite State.er_answers (Answers.ite State.er_answers ?_)))))
  · exact Answers.next (Frame.ite State.sendPrompt_frame Frame.refl) rfl
  · split
    · exact State.er_answers
    · exact State.runLine_answers

theorem execCommandExecute_answers {s} : Answers s (execCommandExecute s) := by
  unfold execCommandExecute
  split
  · exact Answers.next (e := []) Frame.refl rfl
  · rename_i x l _
    obtain ⟨t, ht, hf⟩ := State.line_answers (s := s.takeLine x l) (x := x) (l := l)
    have h0 : Frame Part.most s (s.takeLine x l) := Frame.mono State.takeLine_frame rfl
    rw [ht]
    exact ⟨_, rfl, (h0.trans hf).trans (Frame.mono State.withTag_frame rfl)⟩


end Sys2Proof.Machine
end

