-- ==== Sys2Proof/Laws/Conditions.lean ====
section
/-! SUPPORT. What the conditions of the statements give: a command that is accepted runs its body, and an access that is open acts. -/

namespace Sys2Proof

open Sys2Proof.Machine

/-- An accepted command runs its body. -/
theorem run_accepts {s : State} {x : Sess} {i : CmdInfo} (h : accepts s x i = true) (body : State → State) :
    s.run x i body = body s := by
  unfold accepts at h
  rw [Bool.and_eq_true, Option.isNone_iff_eq_none, Bool.not_eq_true'] at h
  unfold State.run
  rw [h.1]
  exact if_neg (fun k => Bool.false_ne_true (h.2.symm.trans k))

/-- An access to a block that is on acts. -/
theorem access_reaches {s : State} {b : Block} (h : reaches s b = true) (ofs m : Nat) (write : Bool) (act : State → State) :
    s.access b ofs m write act = act s := by
  unfold reaches at h
  unfold State.access
  split at h
  · rename_i d hd; rw [hd]; exact if_pos h
  · rename_i hd; rw [hd]

/-- What `opens` says. -/
theorem opens_iff {s : State} {side : Side} {b : Block} {e : Bool} :
    opens s side b e = true ↔ reaches s b = true ∧ side = s.owner b ∧ (e = true → s.expert b = true) := by
  unfold opens
  cases e <;> simp [and_assoc]

/-- An action that is open is taken. -/
theorem guard_opens {s : State} {side : Side} {b : Block} {e : Bool} (h : opens s side b e = true) (ofs : Nat) (act : State → State) :
    s.guard b ofs side e act = act s := by
  obtain ⟨_, h2, h3⟩ := opens_iff.mp h
  unfold State.guard
  rw [if_neg (by simp [h2])]
  refine if_neg ?_
  cases e
  · simp
  · simp [h3 rfl]

/-- An action that is open and not refused by the block's state is taken. -/
theorem guardBusy_opens {s : State} {side : Side} {b : Block} {e : Bool} (h : opens s side b e = true) (ofs : Nat) (act : State → State) :
    s.guardBusy b ofs side e false act = act s := by
  unfold State.guardBusy
  rw [if_neg (by simp [(opens_iff.mp h).2.1]), if_neg Bool.false_ne_true, guard_opens h]

/-- A change that the ledger and the reserve allow is settled. -/
theorem settle_affords {s t : State} (h : affords s t = true) (x : Sess) (b : Block) (ofs : Nat) : s.settle x b ofs t = t.ok x := by
  unfold affords at h
  rw [Bool.and_eq_true, Bool.not_eq_true'] at h
  unfold State.settle
  rw [h.1, h.2]
  rfl

/-- A change that the ledger allows is made. -/
theorem underLedger_grants {s t : State} (h : ledgerGrants s t = true) (b : Block) (ofs : Nat) (side : Side) :
    s.underLedger b ofs side t = t := by
  unfold State.underLedger
  rw [if_pos h]

end Sys2Proof
end

