-- ==== Sys2Proof/Laws/FrameWords.lean ====
section
/-! SUPPORT. The frames of the operations and commands of Machine/Words.lean: what each can change. -/

namespace Sys2Proof.Machine

theorem State.endWord_frame {s a1} : Frame [.free, .app, .sys] s (State.endWord s a1) := by
  unfold State.endWord
  exact (Frame.after (Frame.mono State.spend_frame rfl) (Frame.mono State.setCore_frame rfl))

theorem State.endTransfer_frame {s a1 a2} : Frame [.free, .app, .sys] s (State.endTransfer s a1 a2) := by
  unfold State.endTransfer
  exact (Frame.after (Frame.mono State.spend_frame rfl) (Frame.mono State.setCore_frame rfl))

theorem State.enter_frame {s a1 a2 a3 a4} : Frame [.free, .app, .sys] s (State.enter s a1 a2 a3 a4) := by
  unfold State.enter
  exact (Frame.after (Frame.mono State.spend_frame rfl) (Frame.mono State.setCore_frame rfl))

theorem State.fault_frame {s a1 a2 a3} : Frame [.free, .app, .sys] s (State.fault s a1 a2 a3) := by
  unfold State.fault
  exact (Frame.after (Frame.mono State.enter_frame rfl) (Frame.mono State.setCore_frame rfl))

theorem State.illegal_frame {s a1} : Frame [.free, .app, .sys] s (State.illegal s a1) := by
  unfold State.illegal
  exact (Frame.mono State.fault_frame rfl)

theorem State.misaligned_frame {s a1 a2} : Frame [.free, .app, .sys] s (State.misaligned s a1 a2) := by
  unfold State.misaligned
  exact (Frame.mono State.fault_frame rfl)

theorem State.word_frame {e s c body} (h0 : Part.sub [.free, .app, .sys] e = true) (h : ∀ t, Frame e t (body t)) :
    Frame e s (State.word s c body) := by
  have hs : ∀ {u k}, Frame e u (u.setCore c k) := Frame.mono State.setCore_frame (Part.sub_trans rfl h0)
  unfold State.word
  refine Frame.ite Frame.refl ?_
  refine Frame.trans (t := if (s.core c).pair.isSome then s.endWord c else s)
    (Frame.ite (Frame.mono State.endWord_frame (Part.sub_trans rfl h0)) Frame.refl) ?_
  refine Frame.ite Frame.refl (Frame.ite ?_ ?_)
  · exact Frame.after (Frame.mono State.misaligned_frame (Part.sub_trans rfl h0)) hs
  · exact Frame.after (h _) hs

theorem State.slot_frame {e s c sl body} (h0 : Part.sub [.free, .app, .sys] e = true) (h : ∀ t, Frame e t (body t)) :
    Frame e s (State.slot s c sl body) := by
  have hs : ∀ {u k}, Frame e u (u.setCore c k) := Frame.mono State.setCore_frame (Part.sub_trans rfl h0)
  unfold State.slot
  split
  · exact State.word_frame h0 fun t => Frame.after (h _) hs
  · exact Frame.ite (h s) (State.word_frame h0 fun t => Frame.after (h _) hs)

theorem State.endSlot_frame {s a1 a2} : Frame [.free, .app, .sys] s (State.endSlot s a1 a2) := by
  unfold State.endSlot
  exact (by (first | (dsimp only; split) | split); exact (Frame.mono State.set_free_frame rfl); exact (Frame.after (Frame.mono State.endWord_frame rfl) (Frame.mono State.set_free_frame rfl)))

theorem State.result_frame {s a1 a2 a3 a4 a5 a6} : Frame [.app, .sys] s (State.result s a1 a2 a3 a4 a5 a6) := by
  unfold State.result
  exact (Frame.ite Frame.refl (Frame.mono State.setCore_frame rfl))

theorem State.spoilDivide_frame {s a1} : Frame [.app, .sys] s (State.spoilDivide s a1) := by
  unfold State.spoilDivide
  exact (Frame.mono State.setCore_frame rfl)

theorem State.afterAccess_frame {e s c t rest} (ht : Frame e s t) (h : ∀ u, Frame e u (rest u)) :
    Frame e s (State.afterAccess s c t rest) := ht.trans (Frame.ite (h t) Frame.refl)

theorem execFetchUncorrectable_frame {a0 s t} (h : execFetchUncorrectable a0 s = .next t) :
    Frame [.rSysctl, .rPwr, .rClk, .rHarv, .rMan, .rEvr, .rMemctl, .rLogs, .rTide, .rTp, .rRtc, .rUart, .rI2ct,
        .rSpi, .rLgt, .rAdc, .rTouch, .rCrypto, .rGpio, .rDma, .rLife, .rTest, .rGnss, .rFront, .rPlan, .rLookout,
        .rBerth, .rSillage, .rMeasq, .rBitlog, .rQuay, .free, .mem, .chk, .runs, .wbacks, .busData, .app, .sys,
        .console, .manApp, .manSys, .rtc, .logs, .crypto, .power, .lgt, .uarts, .i2ct, .spis, .adc, .mems] s t := by
  obtain rfl := Host.Outcome.next.inj h
  exact (State.word_frame rfl (fun _ => (Frame.after (Frame.mono State.fault_frame rfl) (Frame.mono
      State.busRead_frame rfl))))

theorem execIllegalWord_frame {a0 s t} (h : execIllegalWord a0 s = .next t) :
    Frame [.free, .app, .sys] s t := by
  obtain rfl := Host.Outcome.next.inj h
  exact (State.word_frame rfl (fun _ => (Frame.mono State.illegal_frame rfl)))

theorem execMneEntry_frame {a0 s t} (h : execMneEntry a0 s = .next t) :
    Frame [.free, .app, .sys] s t := by
  obtain rfl := Host.Outcome.next.inj h
  exact (Frame.ite Frame.refl (Frame.ite (Frame.mono State.enter_frame rfl) (Frame.mono State.setCore_frame rfl)))

theorem execNmiEntry_frame {a0 s t} (h : execNmiEntry a0 s = .next t) :
    Frame [.free, .app, .sys] s t := by
  obtain rfl := Host.Outcome.next.inj h
  exact (Frame.ite Frame.refl (Frame.ite (Frame.mono State.enter_frame rfl) (Frame.mono State.setCore_frame rfl)))

end Sys2Proof.Machine
end

