-- ==== Sys2Proof/Laws/FrameAlu.lean ====
section
/-! SUPPORT. The frames of the operations and commands of Machine/Alu.lean: what each can change. -/

namespace Sys2Proof.Machine

theorem State.alu_frame {s a1 a2 a3 a4 a5} : Frame [.free, .app, .sys] s (State.alu s a1 a2 a3 a4 a5) := by
  unfold State.alu
  exact (State.word_frame rfl (fun _ => (Frame.after (Frame.mono State.endSlot_frame rfl) (Frame.after (Frame.mono
      State.result_frame rfl) (Frame.ite (Frame.mono State.spoilDivide_frame rfl) Frame.refl)))))

theorem State.aluImm_frame {s a1 a2 a3 a4 a5} : Frame [.free, .app, .sys] s (State.aluImm s a1 a2 a3 a4 a5) := by
  unfold State.aluImm
  exact (State.word_frame rfl (fun _ => (Frame.after (Frame.mono State.endSlot_frame rfl) (Frame.mono
      State.result_frame rfl))))

theorem State.shortAlu_frame {s a1 a2 a3 a4 a5} : Frame [.free, .app, .sys] s (State.shortAlu s a1 a2 a3 a4 a5) := by
  unfold State.shortAlu
  exact (State.slot_frame rfl (fun _ => (Frame.after (Frame.mono State.endSlot_frame rfl) (Frame.mono
      State.result_frame rfl))))

theorem State.shortImm_frame {s a1 a2 a3 a4 a5} : Frame [.free, .app, .sys] s (State.shortImm s a1 a2 a3 a4 a5) := by
  unfold State.shortImm
  exact (State.slot_frame rfl (fun _ => (Frame.after (Frame.mono State.endSlot_frame rfl) (Frame.mono
      State.result_frame rfl))))

theorem execAlu_frame {a0 a1 a2 a3 a4 s t} (h : execAlu a0 a1 a2 a3 a4 s = .next t) :
    Frame [.free, .app, .sys] s t := by
  obtain rfl := Host.Outcome.next.inj h
  exact (Frame.ite (State.word_frame rfl (fun _ => (Frame.mono State.illegal_frame rfl))) (Frame.mono
      State.alu_frame rfl))

theorem execAdd_frame {a0 a1 a2 a3 s t} (h : execAdd a0 a1 a2 a3 s = .next t) :
    Frame [.free, .app, .sys] s t := by
  obtain rfl := Host.Outcome.next.inj h
  exact (Frame.mono State.alu_frame rfl)

theorem execSub_frame {a0 a1 a2 a3 s t} (h : execSub a0 a1 a2 a3 s = .next t) :
    Frame [.free, .app, .sys] s t := by
  obtain rfl := Host.Outcome.next.inj h
  exact (Frame.mono State.alu_frame rfl)

theorem execAnd_frame {a0 a1 a2 a3 s t} (h : execAnd a0 a1 a2 a3 s = .next t) :
    Frame [.free, .app, .sys] s t := by
  obtain rfl := Host.Outcome.next.inj h
  exact (Frame.mono State.alu_frame rfl)

theorem execOr_frame {a0 a1 a2 a3 s t} (h : execOr a0 a1 a2 a3 s = .next t) :
    Frame [.free, .app, .sys] s t := by
  obtain rfl := Host.Outcome.next.inj h
  exact (Frame.mono State.alu_frame rfl)

theorem execXor_frame {a0 a1 a2 a3 s t} (h : execXor a0 a1 a2 a3 s = .next t) :
    Frame [.free, .app, .sys] s t := by
  obtain rfl := Host.Outcome.next.inj h
  exact (Frame.mono State.alu_frame rfl)

theorem execNor_frame {a0 a1 a2 a3 s t} (h : execNor a0 a1 a2 a3 s = .next t) :
    Frame [.free, .app, .sys] s t := by
  obtain rfl := Host.Outcome.next.inj h
  exact (Frame.mono State.alu_frame rfl)

theorem execShl_frame {a0 a1 a2 a3 s t} (h : execShl a0 a1 a2 a3 s = .next t) :
    Frame [.free, .app, .sys] s t := by
  obtain rfl := Host.Outcome.next.inj h
  exact (Frame.mono State.alu_frame rfl)

theorem execShr_frame {a0 a1 a2 a3 s t} (h : execShr a0 a1 a2 a3 s = .next t) :
    Frame [.free, .app, .sys] s t := by
  obtain rfl := Host.Outcome.next.inj h
  exact (Frame.mono State.alu_frame rfl)

theorem execSra_frame {a0 a1 a2 a3 s t} (h : execSra a0 a1 a2 a3 s = .next t) :
    Frame [.free, .app, .sys] s t := by
  obtain rfl := Host.Outcome.next.inj h
  exact (Frame.mono State.alu_frame rfl)

theorem execCmplt_frame {a0 a1 a2 a3 s t} (h : execCmplt a0 a1 a2 a3 s = .next t) :
    Frame [.free, .app, .sys] s t := by
  obtain rfl := Host.Outcome.next.inj h
  exact (Frame.mono State.alu_frame rfl)

theorem execCmpltu_frame {a0 a1 a2 a3 s t} (h : execCmpltu a0 a1 a2 a3 s = .next t) :
    Frame [.free, .app, .sys] s t := by
  obtain rfl := Host.Outcome.next.inj h
  exact (Frame.mono State.alu_frame rfl)

theorem execCmpeq_frame {a0 a1 a2 a3 s t} (h : execCmpeq a0 a1 a2 a3 s = .next t) :
    Frame [.free, .app, .sys] s t := by
  obtain rfl := Host.Outcome.next.inj h
  exact (Frame.mono State.alu_frame rfl)

theorem execMin_frame {a0 a1 a2 a3 s t} (h : execMin a0 a1 a2 a3 s = .next t) :
    Frame [.free, .app, .sys] s t := by
  obtain rfl := Host.Outcome.next.inj h
  exact (Frame.mono State.alu_frame rfl)

theorem execMax_frame {a0 a1 a2 a3 s t} (h : execMax a0 a1 a2 a3 s = .next t) :
    Frame [.free, .app, .sys] s t := by
  obtain rfl := Host.Outcome.next.inj h
  exact (Frame.mono State.alu_frame rfl)

theorem execMinu_frame {a0 a1 a2 a3 s t} (h : execMinu a0 a1 a2 a3 s = .next t) :
    Frame [.free, .app, .sys] s t := by
  obtain rfl := Host.Outcome.next.inj h
  exact (Frame.mono State.alu_frame rfl)

theorem execMaxu_frame {a0 a1 a2 a3 s t} (h : execMaxu a0 a1 a2 a3 s = .next t) :
    Frame [.free, .app, .sys] s t := by
  obtain rfl := Host.Outcome.next.inj h
  exact (Frame.mono State.alu_frame rfl)

theorem execClz_frame {a0 a1 a2 s t} (h : execClz a0 a1 a2 s = .next t) :
    Frame [.free, .app, .sys] s t := by
  obtain rfl := Host.Outcome.next.inj h
  exact (Frame.mono State.alu_frame rfl)

theorem execMul_frame {a0 a1 a2 a3 s t} (h : execMul a0 a1 a2 a3 s = .next t) :
    Frame [.free, .app, .sys] s t := by
  obtain rfl := Host.Outcome.next.inj h
  exact (Frame.mono State.alu_frame rfl)

theorem execMulh_frame {a0 a1 a2 a3 s t} (h : execMulh a0 a1 a2 a3 s = .next t) :
    Frame [.free, .app, .sys] s t := by
  obtain rfl := Host.Outcome.next.inj h
  exact (Frame.mono State.alu_frame rfl)

theorem execMulhu_frame {a0 a1 a2 a3 s t} (h : execMulhu a0 a1 a2 a3 s = .next t) :
    Frame [.free, .app, .sys] s t := by
  obtain rfl := Host.Outcome.next.inj h
  exact (Frame.mono State.alu_frame rfl)

theorem execDiv_frame {a0 a1 a2 a3 s t} (h : execDiv a0 a1 a2 a3 s = .next t) :
    Frame [.free, .app, .sys] s t := by
  obtain rfl := Host.Outcome.next.inj h
  exact (Frame.mono State.alu_frame rfl)

theorem execDivu_frame {a0 a1 a2 a3 s t} (h : execDivu a0 a1 a2 a3 s = .next t) :
    Frame [.free, .app, .sys] s t := by
  obtain rfl := Host.Outcome.next.inj h
  exact (Frame.mono State.alu_frame rfl)

theorem execRem_frame {a0 a1 a2 a3 s t} (h : execRem a0 a1 a2 a3 s = .next t) :
    Frame [.free, .app, .sys] s t := by
  obtain rfl := Host.Outcome.next.inj h
  exact (Frame.mono State.alu_frame rfl)

theorem execRemu_frame {a0 a1 a2 a3 s t} (h : execRemu a0 a1 a2 a3 s = .next t) :
    Frame [.free, .app, .sys] s t := by
  obtain rfl := Host.Outcome.next.inj h
  exact (Frame.mono State.alu_frame rfl)

theorem execAddi_frame {a0 a1 a2 a3 s t} (h : execAddi a0 a1 a2 a3 s = .next t) :
    Frame [.free, .app, .sys] s t := by
  obtain rfl := Host.Outcome.next.inj h
  exact (Frame.mono State.aluImm_frame rfl)

theorem execAndi_frame {a0 a1 a2 a3 s t} (h : execAndi a0 a1 a2 a3 s = .next t) :
    Frame [.free, .app, .sys] s t := by
  obtain rfl := Host.Outcome.next.inj h
  exact (Frame.mono State.aluImm_frame rfl)

theorem execOri_frame {a0 a1 a2 a3 s t} (h : execOri a0 a1 a2 a3 s = .next t) :
    Frame [.free, .app, .sys] s t := by
  obtain rfl := Host.Outcome.next.inj h
  exact (Frame.mono State.aluImm_frame rfl)

theorem execXori_frame {a0 a1 a2 a3 s t} (h : execXori a0 a1 a2 a3 s = .next t) :
    Frame [.free, .app, .sys] s t := by
  obtain rfl := Host.Outcome.next.inj h
  exact (Frame.mono State.aluImm_frame rfl)

theorem execCmplti_frame {a0 a1 a2 a3 s t} (h : execCmplti a0 a1 a2 a3 s = .next t) :
    Frame [.free, .app, .sys] s t := by
  obtain rfl := Host.Outcome.next.inj h
  exact (Frame.mono State.aluImm_frame rfl)

theorem execCmpltui_frame {a0 a1 a2 a3 s t} (h : execCmpltui a0 a1 a2 a3 s = .next t) :
    Frame [.free, .app, .sys] s t := by
  obtain rfl := Host.Outcome.next.inj h
  exact (Frame.mono State.aluImm_frame rfl)

theorem execShi_frame {a0 a1 a2 a3 a4 s t} (h : execShi a0 a1 a2 a3 a4 s = .next t) :
    Frame [.free, .app, .sys] s t := by
  obtain rfl := Host.Outcome.next.inj h
  exact (Frame.mono State.aluImm_frame rfl)

theorem execLui_frame {a0 a1 a2 s t} (h : execLui a0 a1 a2 s = .next t) :
    Frame [.free, .app, .sys] s t := by
  obtain rfl := Host.Outcome.next.inj h
  exact (State.word_frame rfl (fun _ => (Frame.after (Frame.mono State.endSlot_frame rfl) (Frame.mono
      State.result_frame rfl))))

theorem execAuipc_frame {a0 a1 a2 s t} (h : execAuipc a0 a1 a2 s = .next t) :
    Frame [.free, .app, .sys] s t := by
  obtain rfl := Host.Outcome.next.inj h
  exact (State.word_frame rfl (fun _ => (Frame.after (Frame.mono State.endSlot_frame rfl) (Frame.mono
      State.result_frame rfl))))

theorem execShortNop_frame {a0 a1 s t} (h : execShortNop a0 a1 s = .next t) :
    Frame [.free, .app, .sys] s t := by
  obtain rfl := Host.Outcome.next.inj h
  exact (State.slot_frame rfl (fun _ => (Frame.mono State.endSlot_frame rfl)))

theorem execShortMov_frame {a0 a1 a2 a3 s t} (h : execShortMov a0 a1 a2 a3 s = .next t) :
    Frame [.free, .app, .sys] s t := by
  obtain rfl := Host.Outcome.next.inj h
  exact (State.slot_frame rfl (fun _ => (Frame.after (Frame.mono State.endSlot_frame rfl) (Frame.mono
      State.result_frame rfl))))

theorem execShortAdd_frame {a0 a1 a2 a3 s t} (h : execShortAdd a0 a1 a2 a3 s = .next t) :
    Frame [.free, .app, .sys] s t := by
  obtain rfl := Host.Outcome.next.inj h
  exact (Frame.mono State.shortAlu_frame rfl)

theorem execShortSub_frame {a0 a1 a2 a3 s t} (h : execShortSub a0 a1 a2 a3 s = .next t) :
    Frame [.free, .app, .sys] s t := by
  obtain rfl := Host.Outcome.next.inj h
  exact (Frame.mono State.shortAlu_frame rfl)

theorem execShortAnd_frame {a0 a1 a2 a3 s t} (h : execShortAnd a0 a1 a2 a3 s = .next t) :
    Frame [.free, .app, .sys] s t := by
  obtain rfl := Host.Outcome.next.inj h
  exact (Frame.mono State.shortAlu_frame rfl)

theorem execShortOr_frame {a0 a1 a2 a3 s t} (h : execShortOr a0 a1 a2 a3 s = .next t) :
    Frame [.free, .app, .sys] s t := by
  obtain rfl := Host.Outcome.next.inj h
  exact (Frame.mono State.shortAlu_frame rfl)

theorem execShortXor_frame {a0 a1 a2 a3 s t} (h : execShortXor a0 a1 a2 a3 s = .next t) :
    Frame [.free, .app, .sys] s t := by
  obtain rfl := Host.Outcome.next.inj h
  exact (Frame.mono State.shortAlu_frame rfl)

theorem execShortShl_frame {a0 a1 a2 a3 s t} (h : execShortShl a0 a1 a2 a3 s = .next t) :
    Frame [.free, .app, .sys] s t := by
  obtain rfl := Host.Outcome.next.inj h
  exact (Frame.mono State.shortAlu_frame rfl)

theorem execShortShr_frame {a0 a1 a2 a3 s t} (h : execShortShr a0 a1 a2 a3 s = .next t) :
    Frame [.free, .app, .sys] s t := by
  obtain rfl := Host.Outcome.next.inj h
  exact (Frame.mono State.shortAlu_frame rfl)

theorem execShortSra_frame {a0 a1 a2 a3 s t} (h : execShortSra a0 a1 a2 a3 s = .next t) :
    Frame [.free, .app, .sys] s t := by
  obtain rfl := Host.Outcome.next.inj h
  exact (Frame.mono State.shortAlu_frame rfl)

theorem execShortMul_frame {a0 a1 a2 a3 s t} (h : execShortMul a0 a1 a2 a3 s = .next t) :
    Frame [.free, .app, .sys] s t := by
  obtain rfl := Host.Outcome.next.inj h
  exact (Frame.mono State.shortAlu_frame rfl)

theorem execShortCmplt_frame {a0 a1 a2 a3 s t} (h : execShortCmplt a0 a1 a2 a3 s = .next t) :
    Frame [.free, .app, .sys] s t := by
  obtain rfl := Host.Outcome.next.inj h
  exact (Frame.mono State.shortAlu_frame rfl)

theorem execShortCmpltu_frame {a0 a1 a2 a3 s t} (h : execShortCmpltu a0 a1 a2 a3 s = .next t) :
    Frame [.free, .app, .sys] s t := by
  obtain rfl := Host.Outcome.next.inj h
  exact (Frame.mono State.shortAlu_frame rfl)

theorem execShortCmpeq_frame {a0 a1 a2 a3 s t} (h : execShortCmpeq a0 a1 a2 a3 s = .next t) :
    Frame [.free, .app, .sys] s t := by
  obtain rfl := Host.Outcome.next.inj h
  exact (Frame.mono State.shortAlu_frame rfl)

theorem execShortMovi_frame {a0 a1 a2 a3 s t} (h : execShortMovi a0 a1 a2 a3 s = .next t) :
    Frame [.free, .app, .sys] s t := by
  obtain rfl := Host.Outcome.next.inj h
  exact (State.slot_frame rfl (fun _ => (Frame.after (Frame.mono State.endSlot_frame rfl) (Frame.mono
      State.result_frame rfl))))

theorem execShortAddi_frame {a0 a1 a2 a3 s t} (h : execShortAddi a0 a1 a2 a3 s = .next t) :
    Frame [.free, .app, .sys] s t := by
  obtain rfl := Host.Outcome.next.inj h
  exact (Frame.mono State.shortImm_frame rfl)

theorem execShortShli_frame {a0 a1 a2 a3 s t} (h : execShortShli a0 a1 a2 a3 s = .next t) :
    Frame [.free, .app, .sys] s t := by
  obtain rfl := Host.Outcome.next.inj h
  exact (Frame.mono State.shortImm_frame rfl)

theorem execShortShri_frame {a0 a1 a2 a3 s t} (h : execShortShri a0 a1 a2 a3 s = .next t) :
    Frame [.free, .app, .sys] s t := by
  obtain rfl := Host.Outcome.next.inj h
  exact (Frame.mono State.shortImm_frame rfl)

theorem execShortSrai_frame {a0 a1 a2 a3 s t} (h : execShortSrai a0 a1 a2 a3 s = .next t) :
    Frame [.free, .app, .sys] s t := by
  obtain rfl := Host.Outcome.next.inj h
  exact (Frame.mono State.shortImm_frame rfl)

theorem execShortAndi_frame {a0 a1 a2 a3 s t} (h : execShortAndi a0 a1 a2 a3 s = .next t) :
    Frame [.free, .app, .sys] s t := by
  obtain rfl := Host.Outcome.next.inj h
  exact (Frame.mono State.shortImm_frame rfl)

end Sys2Proof.Machine
end

