-- ==== Sys2Proof/Laws/FrameLoadStore.lean ====
section
/-! SUPPORT. The frames of the operations and commands of Machine/LoadStore.lean: what each can change. -/

namespace Sys2Proof.Machine

theorem State.updateBase_frame {s a1 a2 a3} : Frame [.app, .sys] s (State.updateBase s a1 a2 a3) := by
  unfold State.updateBase
  exact (by (first | (dsimp only; split) | split); exact (Frame.mono State.result_frame rfl); exact Frame.refl)

theorem State.loadAt_frame {s a1 a2 a3 a4 a5 a6 a7 a8} : Frame [.rSysctl, .rPwr, .rClk, .rHarv, .rMan, .rEvr,
    .rMemctl, .rLogs, .rTide, .rTp, .rRtc, .rUart, .rI2ct, .rSpi, .rLgt, .rAdc, .rTouch, .rCrypto, .rGpio, .rDma,
    .rLife, .rTest, .rGnss, .rFront, .rPlan, .rLookout, .rBerth, .rSillage, .rMeasq, .rBitlog, .rQuay, .free, .mem,
    .chk, .runs, .wbacks, .busData, .app, .sys, .console, .manApp, .manSys, .rtc, .logs, .crypto, .power, .lgt,
    .uarts, .i2ct, .spis, .adc, .mems] s (State.loadAt s a1 a2 a3 a4 a5 a6 a7 a8) := by
  unfold State.loadAt
  exact (Frame.ite (Frame.mono State.misaligned_frame rfl) (State.afterAccess_frame (Frame.mono State.busRead_frame
      rfl) (fun _ => (Frame.after (Frame.mono State.endSlot_frame rfl) (Frame.after (Frame.mono State.result_frame
      rfl) (Frame.mono State.updateBase_frame rfl))))))

theorem State.storeAt_frame {s a1 a2 a3 a4 a5 a6 a7} : Frame Part.most s (State.storeAt s a1 a2 a3 a4 a5 a6 a7) := by
  unfold State.storeAt
  exact (Frame.ite (Frame.mono State.misaligned_frame rfl) (State.afterAccess_frame (Frame.mono
      State.busWrite_frame rfl) (fun _ => (Frame.after (Frame.mono State.endSlot_frame rfl) (Frame.mono
      State.updateBase_frame rfl)))))

theorem State.load_frame {s a1 a2 a3 a4 a5 a6} : Frame [.rSysctl, .rPwr, .rClk, .rHarv, .rMan, .rEvr, .rMemctl,
    .rLogs, .rTide, .rTp, .rRtc, .rUart, .rI2ct, .rSpi, .rLgt, .rAdc, .rTouch, .rCrypto, .rGpio, .rDma, .rLife,
    .rTest, .rGnss, .rFront, .rPlan, .rLookout, .rBerth, .rSillage, .rMeasq, .rBitlog, .rQuay, .free, .mem, .chk,
    .runs, .wbacks, .busData, .app, .sys, .console, .manApp, .manSys, .rtc, .logs, .crypto, .power, .lgt, .uarts,
    .i2ct, .spis, .adc, .mems] s (State.load s a1 a2 a3 a4 a5 a6) := by
  unfold State.load
  exact (State.word_frame rfl (fun _ => (Frame.ite (Frame.mono State.illegal_frame rfl) (Frame.mono
      State.loadAt_frame rfl))))

theorem State.store_frame {s a1 a2 a3 a4 a5} : Frame Part.most s (State.store s a1 a2 a3 a4 a5) := by
  unfold State.store
  exact (State.word_frame rfl (fun _ => (Frame.ite (Frame.mono State.illegal_frame rfl) (Frame.mono
      State.storeAt_frame rfl))))

theorem execLdb_frame {a0 a1 a2 a3 s t} (h : execLdb a0 a1 a2 a3 s = .next t) :
    Frame [.rSysctl, .rPwr, .rClk, .rHarv, .rMan, .rEvr, .rMemctl, .rLogs, .rTide, .rTp, .rRtc, .rUart, .rI2ct,
        .rSpi, .rLgt, .rAdc, .rTouch, .rCrypto, .rGpio, .rDma, .rLife, .rTest, .rGnss, .rFront, .rPlan, .rLookout,
        .rBerth, .rSillage, .rMeasq, .rBitlog, .rQuay, .free, .mem, .chk, .runs, .wbacks, .busData, .app, .sys,
        .console, .manApp, .manSys, .rtc, .logs, .crypto, .power, .lgt, .uarts, .i2ct, .spis, .adc, .mems] s t := by
  obtain rfl := Host.Outcome.next.inj h
  exact (Frame.mono State.load_frame rfl)

theorem execLdbu_frame {a0 a1 a2 a3 s t} (h : execLdbu a0 a1 a2 a3 s = .next t) :
    Frame [.rSysctl, .rPwr, .rClk, .rHarv, .rMan, .rEvr, .rMemctl, .rLogs, .rTide, .rTp, .rRtc, .rUart, .rI2ct,
        .rSpi, .rLgt, .rAdc, .rTouch, .rCrypto, .rGpio, .rDma, .rLife, .rTest, .rGnss, .rFront, .rPlan, .rLookout,
        .rBerth, .rSillage, .rMeasq, .rBitlog, .rQuay, .free, .mem, .chk, .runs, .wbacks, .busData, .app, .sys,
        .console, .manApp, .manSys, .rtc, .logs, .crypto, .power, .lgt, .uarts, .i2ct, .spis, .adc, .mems] s t := by
  obtain rfl := Host.Outcome.next.inj h
  exact (Frame.mono State.load_frame rfl)

theorem execLdh_frame {a0 a1 a2 a3 s t} (h : execLdh a0 a1 a2 a3 s = .next t) :
    Frame [.rSysctl, .rPwr, .rClk, .rHarv, .rMan, .rEvr, .rMemctl, .rLogs, .rTide, .rTp, .rRtc, .rUart, .rI2ct,
        .rSpi, .rLgt, .rAdc, .rTouch, .rCrypto, .rGpio, .rDma, .rLife, .rTest, .rGnss, .rFront, .rPlan, .rLookout,
        .rBerth, .rSillage, .rMeasq, .rBitlog, .rQuay, .free, .mem, .chk, .runs, .wbacks, .busData, .app, .sys,
        .console, .manApp, .manSys, .rtc, .logs, .crypto, .power, .lgt, .uarts, .i2ct, .spis, .adc, .mems] s t := by
  obtain rfl := Host.Outcome.next.inj h
  exact (Frame.mono State.load_frame rfl)

theorem execLdhu_frame {a0 a1 a2 a3 s t} (h : execLdhu a0 a1 a2 a3 s = .next t) :
    Frame [.rSysctl, .rPwr, .rClk, .rHarv, .rMan, .rEvr, .rMemctl, .rLogs, .rTide, .rTp, .rRtc, .rUart, .rI2ct,
        .rSpi, .rLgt, .rAdc, .rTouch, .rCrypto, .rGpio, .rDma, .rLife, .rTest, .rGnss, .rFront, .rPlan, .rLookout,
        .rBerth, .rSillage, .rMeasq, .rBitlog, .rQuay, .free, .mem, .chk, .runs, .wbacks, .busData, .app, .sys,
        .console, .manApp, .manSys, .rtc, .logs, .crypto, .power, .lgt, .uarts, .i2ct, .spis, .adc, .mems] s t := by
  obtain rfl := Host.Outcome.next.inj h
  exact (Frame.mono State.load_frame rfl)

theorem execLdw_frame {a0 a1 a2 a3 s t} (h : execLdw a0 a1 a2 a3 s = .next t) :
    Frame [.rSysctl, .rPwr, .rClk, .rHarv, .rMan, .rEvr, .rMemctl, .rLogs, .rTide, .rTp, .rRtc, .rUart, .rI2ct,
        .rSpi, .rLgt, .rAdc, .rTouch, .rCrypto, .rGpio, .rDma, .rLife, .rTest, .rGnss, .rFront, .rPlan, .rLookout,
        .rBerth, .rSillage, .rMeasq, .rBitlog, .rQuay, .free, .mem, .chk, .runs, .wbacks, .busData, .app, .sys,
        .console, .manApp, .manSys, .rtc, .logs, .crypto, .power, .lgt, .uarts, .i2ct, .spis, .adc, .mems] s t := by
  obtain rfl := Host.Outcome.next.inj h
  exact (Frame.mono State.load_frame rfl)

theorem execStb_frame {a0 a1 a2 a3 s t} (h : execStb a0 a1 a2 a3 s = .next t) :
    Frame Part.most s t := by
  obtain rfl := Host.Outcome.next.inj h
  exact (Frame.mono State.store_frame rfl)

theorem execSth_frame {a0 a1 a2 a3 s t} (h : execSth a0 a1 a2 a3 s = .next t) :
    Frame Part.most s t := by
  obtain rfl := Host.Outcome.next.inj h
  exact (Frame.mono State.store_frame rfl)

theorem execStw_frame {a0 a1 a2 a3 s t} (h : execStw a0 a1 a2 a3 s = .next t) :
    Frame Part.most s t := by
  obtain rfl := Host.Outcome.next.inj h
  exact (Frame.mono State.store_frame rfl)

theorem State.shortLoad_frame {s a1 a2 a3 a4 a5 a6} : Frame [.rSysctl, .rPwr, .rClk, .rHarv, .rMan, .rEvr,
    .rMemctl, .rLogs, .rTide, .rTp, .rRtc, .rUart, .rI2ct, .rSpi, .rLgt, .rAdc, .rTouch, .rCrypto, .rGpio, .rDma,
    .rLife, .rTest, .rGnss, .rFront, .rPlan, .rLookout, .rBerth, .rSillage, .rMeasq, .rBitlog, .rQuay, .free, .mem,
    .chk, .runs, .wbacks, .busData, .app, .sys, .console, .manApp, .manSys, .rtc, .logs, .crypto, .power, .lgt,
    .uarts, .i2ct, .spis, .adc, .mems] s (State.shortLoad s a1 a2 a3 a4 a5 a6) := by
  unfold State.shortLoad
  exact (State.slot_frame rfl (fun _ => (Frame.mono State.loadAt_frame rfl)))

theorem State.shortStore_frame {s a1 a2 a3 a4 a5 a6} : Frame Part.most s (State.shortStore s a1 a2 a3 a4 a5 a6) := by
  unfold State.shortStore
  exact (State.slot_frame rfl (fun _ => (Frame.mono State.storeAt_frame rfl)))

theorem execShortLdw_frame {a0 a1 a2 a3 a4 s t} (h : execShortLdw a0 a1 a2 a3 a4 s = .next t) :
    Frame [.rSysctl, .rPwr, .rClk, .rHarv, .rMan, .rEvr, .rMemctl, .rLogs, .rTide, .rTp, .rRtc, .rUart, .rI2ct,
        .rSpi, .rLgt, .rAdc, .rTouch, .rCrypto, .rGpio, .rDma, .rLife, .rTest, .rGnss, .rFront, .rPlan, .rLookout,
        .rBerth, .rSillage, .rMeasq, .rBitlog, .rQuay, .free, .mem, .chk, .runs, .wbacks, .busData, .app, .sys,
        .console, .manApp, .manSys, .rtc, .logs, .crypto, .power, .lgt, .uarts, .i2ct, .spis, .adc, .mems] s t := by
  obtain rfl := Host.Outcome.next.inj h
  exact (Frame.mono State.shortLoad_frame rfl)

theorem execShortLdbu_frame {a0 a1 a2 a3 a4 s t} (h : execShortLdbu a0 a1 a2 a3 a4 s = .next t) :
    Frame [.rSysctl, .rPwr, .rClk, .rHarv, .rMan, .rEvr, .rMemctl, .rLogs, .rTide, .rTp, .rRtc, .rUart, .rI2ct,
        .rSpi, .rLgt, .rAdc, .rTouch, .rCrypto, .rGpio, .rDma, .rLife, .rTest, .rGnss, .rFront, .rPlan, .rLookout,
        .rBerth, .rSillage, .rMeasq, .rBitlog, .rQuay, .free, .mem, .chk, .runs, .wbacks, .busData, .app, .sys,
        .console, .manApp, .manSys, .rtc, .logs, .crypto, .power, .lgt, .uarts, .i2ct, .spis, .adc, .mems] s t := by
  obtain rfl := Host.Outcome.next.inj h
  exact (Frame.mono State.shortLoad_frame rfl)

theorem execShortStw_frame {a0 a1 a2 a3 a4 s t} (h : execShortStw a0 a1 a2 a3 a4 s = .next t) :
    Frame Part.most s t := by
  obtain rfl := Host.Outcome.next.inj h
  exact (Frame.mono State.shortStore_frame rfl)

theorem execShortStb_frame {a0 a1 a2 a3 a4 s t} (h : execShortStb a0 a1 a2 a3 a4 s = .next t) :
    Frame Part.most s t := by
  obtain rfl := Host.Outcome.next.inj h
  exact (Frame.mono State.shortStore_frame rfl)

theorem execLdwp_frame {a0 a1 a2 a3 s t} (h : execLdwp a0 a1 a2 a3 s = .next t) :
    Frame [.rSysctl, .rPwr, .rClk, .rHarv, .rMan, .rEvr, .rMemctl, .rLogs, .rTide, .rTp, .rRtc, .rUart, .rI2ct,
        .rSpi, .rLgt, .rAdc, .rTouch, .rCrypto, .rGpio, .rDma, .rLife, .rTest, .rGnss, .rFront, .rPlan, .rLookout,
        .rBerth, .rSillage, .rMeasq, .rBitlog, .rQuay, .free, .mem, .chk, .runs, .wbacks, .busData, .app, .sys,
        .console, .manApp, .manSys, .rtc, .logs, .crypto, .power, .lgt, .uarts, .i2ct, .spis, .adc, .mems] s t := by
  obtain rfl := Host.Outcome.next.inj h
  exact (State.slot_frame rfl (fun _ => (Frame.ite (Frame.mono State.illegal_frame rfl) (Frame.mono
      State.loadAt_frame rfl))))

theorem execStwm_frame {a0 a1 a2 a3 s t} (h : execStwm a0 a1 a2 a3 s = .next t) :
    Frame Part.most s t := by
  obtain rfl := Host.Outcome.next.inj h
  exact (State.slot_frame rfl (fun _ => (Frame.ite (Frame.mono State.illegal_frame rfl) (Frame.mono
      State.storeAt_frame rfl))))

end Sys2Proof.Machine
end

