-- ==== Sys2Proof/Laws/FrameControl.lean ====
section
/-! SUPPORT. The frames of the operations and commands of Machine/Control.lean: what each can change. -/

namespace Sys2Proof.Machine

theorem State.transfer_frame {e s c body} (h0 : Part.sub [.free, .app, .sys] e = true) (h : ∀ t, Frame e t (body t)) :
    Frame e s (State.transfer s c body) :=
  Frame.ite (Frame.mono State.illegal_frame (Part.sub_trans rfl h0)) (h s)

theorem State.go_frame {s a1 a2} : Frame [.free, .app, .sys] s (State.go s a1 a2) := by
  unfold State.go
  exact (Frame.after (Frame.mono State.endTransfer_frame rfl) (Frame.mono State.set_free_frame rfl))

theorem State.branch_frame {s a1 a2 a3 a4 a5} : Frame [.free, .app, .sys] s (State.branch s a1 a2 a3 a4 a5) := by
  unfold State.branch
  exact (State.word_frame rfl (fun _ => (State.transfer_frame rfl (fun _ => (Frame.mono State.go_frame rfl)))))

theorem execBeq_frame {a0 a1 a2 a3 s t} (h : execBeq a0 a1 a2 a3 s = .next t) :
    Frame [.free, .app, .sys] s t := by
  obtain rfl := Host.Outcome.next.inj h
  exact (Frame.mono State.branch_frame rfl)

theorem execBne_frame {a0 a1 a2 a3 s t} (h : execBne a0 a1 a2 a3 s = .next t) :
    Frame [.free, .app, .sys] s t := by
  obtain rfl := Host.Outcome.next.inj h
  exact (Frame.mono State.branch_frame rfl)

theorem execBlt_frame {a0 a1 a2 a3 s t} (h : execBlt a0 a1 a2 a3 s = .next t) :
    Frame [.free, .app, .sys] s t := by
  obtain rfl := Host.Outcome.next.inj h
  exact (Frame.mono State.branch_frame rfl)

theorem execBge_frame {a0 a1 a2 a3 s t} (h : execBge a0 a1 a2 a3 s = .next t) :
    Frame [.free, .app, .sys] s t := by
  obtain rfl := Host.Outcome.next.inj h
  exact (Frame.mono State.branch_frame rfl)

theorem execBltu_frame {a0 a1 a2 a3 s t} (h : execBltu a0 a1 a2 a3 s = .next t) :
    Frame [.free, .app, .sys] s t := by
  obtain rfl := Host.Outcome.next.inj h
  exact (Frame.mono State.branch_frame rfl)

theorem execBgeu_frame {a0 a1 a2 a3 s t} (h : execBgeu a0 a1 a2 a3 s = .next t) :
    Frame [.free, .app, .sys] s t := by
  obtain rfl := Host.Outcome.next.inj h
  exact (Frame.mono State.branch_frame rfl)

theorem execJmp_frame {a0 a1 s t} (h : execJmp a0 a1 s = .next t) :
    Frame [.free, .app, .sys] s t := by
  obtain rfl := Host.Outcome.next.inj h
  exact (State.word_frame rfl (fun _ => (State.transfer_frame rfl (fun _ => (Frame.mono State.go_frame rfl)))))

theorem execCall_frame {a0 a1 s t} (h : execCall a0 a1 s = .next t) :
    Frame [.free, .app, .sys] s t := by
  obtain rfl := Host.Outcome.next.inj h
  exact (State.word_frame rfl (fun _ => (State.transfer_frame rfl (fun _ => (Frame.after (Frame.mono State.go_frame
      rfl) (Frame.mono State.result_frame rfl))))))

theorem execJrl_frame {a0 a1 a2 a3 s t} (h : execJrl a0 a1 a2 a3 s = .next t) :
    Frame [.free, .app, .sys] s t := by
  obtain rfl := Host.Outcome.next.inj h
  exact (State.word_frame rfl (fun _ => (State.transfer_frame rfl (fun _ => (Frame.ite (Frame.mono
      State.misaligned_frame rfl) (Frame.after (Frame.mono State.go_frame rfl) (Frame.mono State.result_frame
      rfl)))))))

theorem State.shortTransfer_frame {e s c body} (h0 : Part.sub [.free, .app, .sys] e = true) (h : ∀ t, Frame e t
    (body t)) :
    Frame e s (State.shortTransfer s c body) := State.slot_frame h0 fun _ => State.transfer_frame h0 h

theorem execBr_frame {a0 a1 s t} (h : execBr a0 a1 s = .next t) :
    Frame [.free, .app, .sys] s t := by
  obtain rfl := Host.Outcome.next.inj h
  exact (State.shortTransfer_frame rfl (fun _ => (Frame.mono State.go_frame rfl)))

theorem execBz_frame {a0 a1 a2 s t} (h : execBz a0 a1 a2 s = .next t) :
    Frame [.free, .app, .sys] s t := by
  obtain rfl := Host.Outcome.next.inj h
  exact (State.shortTransfer_frame rfl (fun _ => (Frame.mono State.go_frame rfl)))

theorem execBnz_frame {a0 a1 a2 s t} (h : execBnz a0 a1 a2 s = .next t) :
    Frame [.free, .app, .sys] s t := by
  obtain rfl := Host.Outcome.next.inj h
  exact (State.shortTransfer_frame rfl (fun _ => (Frame.mono State.go_frame rfl)))

theorem execJr_frame {a0 a1 s t} (h : execJr a0 a1 s = .next t) :
    Frame [.free, .app, .sys] s t := by
  obtain rfl := Host.Outcome.next.inj h
  exact (State.shortTransfer_frame rfl (fun _ => (Frame.ite (Frame.mono State.misaligned_frame rfl) (Frame.mono
      State.go_frame rfl))))

theorem execRet_frame {a0 s t} (h : execRet a0 s = .next t) :
    Frame [.free, .app, .sys] s t := by
  obtain rfl := Host.Outcome.next.inj h
  exact (State.shortTransfer_frame rfl (fun _ => (Frame.ite (Frame.mono State.misaligned_frame rfl) (Frame.mono
      State.go_frame rfl))))

theorem execFence_frame {a0 s t} (h : execFence a0 s = .next t) :
    Frame [.free, .app, .sys] s t := by
  obtain rfl := Host.Outcome.next.inj h
  exact (State.word_frame rfl (fun _ => (Frame.mono State.endWord_frame rfl)))

theorem execShortFence_frame {a0 a1 s t} (h : execShortFence a0 a1 s = .next t) :
    Frame [.free, .app, .sys] s t := by
  obtain rfl := Host.Outcome.next.inj h
  exact (State.slot_frame rfl (fun _ => (Frame.mono State.endSlot_frame rfl)))

theorem execWait_frame {a0 s t} (h : execWait a0 s = .next t) :
    Frame [.free, .app, .sys] s t := by
  obtain rfl := Host.Outcome.next.inj h
  exact (State.word_frame rfl (fun _ => (Frame.after (Frame.mono State.setCore_frame rfl) (Frame.after (Frame.mono
      State.endWord_frame rfl) (Frame.mono State.setCore_frame rfl)))))

theorem execEret_frame {a0 s t} (h : execEret a0 s = .next t) :
    Frame [.free, .app, .sys] s t := by
  obtain rfl := Host.Outcome.next.inj h
  exact (State.word_frame rfl (fun _ => (State.transfer_frame rfl (fun _ => (Frame.after (Frame.mono
      State.spend_frame rfl) (Frame.mono State.setCore_frame rfl))))))

theorem execTrap_frame {a0 a1 s t} (h : execTrap a0 a1 s = .next t) :
    Frame [.free, .app, .sys] s t := by
  obtain rfl := Host.Outcome.next.inj h
  exact (State.word_frame rfl (fun _ => (Frame.mono State.enter_frame rfl)))

theorem execMfs_frame {a0 a1 a2 s t} (h : execMfs a0 a1 a2 s = .next t) :
    Frame [.free, .app, .sys] s t := by
  obtain rfl := Host.Outcome.next.inj h
  exact (State.word_frame rfl (fun _ => (Frame.after (Frame.mono State.endSlot_frame rfl) (Frame.after (Frame.mono
      State.result_frame rfl) (Frame.ite (Frame.mono State.setCore_frame rfl) Frame.refl)))))

theorem execMts_frame {a0 a1 a2 s t} (h : execMts a0 a1 a2 s = .next t) :
    Frame [.free, .app, .sys] s t := by
  obtain rfl := Host.Outcome.next.inj h
  exact (State.word_frame rfl (fun _ => (Frame.after (Frame.mono State.endSlot_frame rfl) (Frame.mono
      State.result_frame rfl))))

end Sys2Proof.Machine
end

