-- ==== Sys2Proof/Laws/FrameDma.lean ====
section
/-! SUPPORT. The frames of the operations and commands of Machine/Dma.lean: what each can change. -/

namespace Sys2Proof.Machine

theorem State.endBlock_frame {s a1} : Frame [.rPwr, .rHarv, .rMan, .rEvr, .rMemctl, .rTide, .rSpi, .rAdc, .rTouch,
    .rGpio, .rDma, .rGnss, .rFront, .rLookout, .rQuay, .mem, .chk, .busData, .console, .manApp, .manSys, .rtc,
    .power, .harv, .gnss, .lgt, .spis, .dma, .adc, .touch] s (State.endBlock s a1) := by
  unfold State.endBlock
  exact (Frame.after (Frame.mono State.fire_frame rfl) (Frame.after (Frame.mono State.raise_frame rfl) (Frame.ite
      (Frame.mono State.startDma_frame rfl) (State.put_frame F.DMA_CFG_EN_part rfl))))

theorem State.moveUnit_frame {s a1} : Frame Part.most s (State.moveUnit s a1) := by
  unfold State.moveUnit
  exact (Frame.ite (Frame.mono State.endBlock_frame rfl) (Frame.ite (Frame.after (Frame.mono State.endBlock_frame
      rfl) (Frame.after (State.put_frame F.DMA_STAT_BUSERR_part rfl) (Frame.ite (Frame.after (State.put_frame
      F.DMA_STAT_UE_part rfl) (Frame.mono State.busRead_frame rfl)) (Frame.mono State.busRead_frame rfl))))
      (Frame.ite (Frame.after (Frame.mono State.endBlock_frame rfl) (Frame.after (State.put_frame
      F.DMA_STAT_BUSERR_part rfl) (Frame.after (Frame.mono State.busWrite_frame rfl) (Frame.ite (Frame.after
      (State.put_frame F.DMA_STAT_UE_part rfl) (Frame.mono State.busRead_frame rfl)) (Frame.mono
      State.busRead_frame rfl))))) (Frame.ite (Frame.after (Frame.mono State.busWrite_frame rfl) (Frame.ite
      (Frame.after (State.put_frame F.DMA_STAT_UE_part rfl) (Frame.mono State.busRead_frame rfl)) (Frame.mono
      State.busRead_frame rfl))) (Frame.ite (Frame.after (Frame.mono State.endBlock_frame rfl) (Frame.after
      (State.put_frame F.DMA_STAT_LEFT_part rfl) (Frame.after (Frame.mono State.setDma_frame rfl) (Frame.after
      (Frame.mono State.busWrite_frame rfl) (Frame.ite (Frame.after (State.put_frame F.DMA_STAT_UE_part rfl)
      (Frame.mono State.busRead_frame rfl)) (Frame.mono State.busRead_frame rfl)))))) (Frame.after (State.put_frame
      F.DMA_STAT_LEFT_part rfl) (Frame.after (Frame.mono State.setDma_frame rfl) (Frame.after (Frame.mono
      State.busWrite_frame rfl) (Frame.ite (Frame.after (State.put_frame F.DMA_STAT_UE_part rfl) (Frame.mono
      State.busRead_frame rfl)) (Frame.mono State.busRead_frame rfl))))))))))

theorem execDmaStart_frame {a0 a1 s t} (h : execDmaStart a0 a1 s = .next t) :
    Frame [.rPwr, .rMan, .rMemctl, .rLogs, .rCrypto, .rDma, .rQuay, .mem, .chk, .busData, .console, .manApp,
        .manSys, .logs, .crypto, .power, .dma, .mems] s t := by
  obtain rfl := Host.Outcome.next.inj h
  exact (State.access_frame rfl (fun _ => (State.byOwner_frame rfl (fun _ => (Frame.ite Frame.refl (Frame.mono
      State.startDma_frame rfl))))))

theorem execDmaRequestUnit_frame {a0 s t} (h : execDmaRequestUnit a0 s = .next t) :
    Frame Part.most s t := by
  obtain rfl := Host.Outcome.next.inj h
  exact (Frame.ite (Frame.mono State.moveUnit_frame rfl) Frame.refl)

theorem State.emptyTo_frame {u k n s} : Frame Part.most s (State.emptyTo u k n s) := by
  induction n generalizing s with
  | zero => exact Frame.refl
  | succ n ih => exact Frame.ite (Frame.trans (Frame.mono State.moveUnit_frame rfl) ih) Frame.refl

theorem execUartRxTimeout_frame {a0 s t} (h : execUartRxTimeout a0 s = .next t) :
    Frame Part.most s t := by
  obtain rfl := Host.Outcome.next.inj h
  exact (Frame.ite Frame.refl (by (first | (dsimp only; split) | split); exact (Frame.ite Frame.refl (Frame.mono State.raise0_frame rfl)); exact (Frame.ite Frame.refl (Frame.after (Frame.mono State.raise0_frame rfl) (Frame.ite (Frame.after (Frame.mono State.endBlock_frame rfl) (Frame.after (State.put_frame F.DMA_STAT_FLUSHED_part rfl) (Frame.mono State.emptyTo_frame rfl))) (Frame.mono State.emptyTo_frame rfl))))))

end Sys2Proof.Machine
end

