-- ==== Sys2Proof/Laws/FrameStep.lean ====
section
/-! SUPPORT. The frames of the operations and commands of Machine/Step.lean: what each can change. -/

namespace Sys2Proof.Machine

theorem State.withFetchWord_frame {s a1 a2} : Frame [.pending] s (State.withFetchWord s a1 a2) := by
  unfold State.withFetchWord
  exact (by (first | (dsimp only; split) | split); exact (Frame.mono State.set_pending_frame rfl); exact Frame.refl)

end Sys2Proof.Machine
end

