-- ==== Sys2Proof/WellFormed.lean ====
section
/-! DEFINITION. Well-formed commands: operands that their types do not bound lie in the ranges the spec gives them. A command that
is not well-formed is not refused by the machine: it answers as the spec says of its range (R72), or takes the operand as it is. -/

namespace Sys2Proof

open Sys2Proof.Machine

/-- Whether the operands of a command lie in the ranges the spec gives them (R83, R138, R305 and the tables of the rows). -/
def Instr.wf : Instr → Bool
  | .registerWrite _ addr lanes _ => lanes != 0 && addr.toNat % 4 == 0
  | .readClear _ addr => addr.toNat % 4 == 0
  | .autobaudCharacter _ rate => 0 < rate
  | .sysBaud _ rate => match rate with | some r => 9600 ≤ r && r ≤ 4000000 | none => true
  | .harvMppt _ fixed value => if fixed then 4 ≤ value && value ≤ 360 else 10 ≤ value && value ≤ 90
  | .gnssSnap _ ms => 2 ≤ ms && ms ≤ 125
  | .planElev _ deg => deg ≤ 45
  | .nmeaRate _ n => 1 ≤ n && n ≤ 60
  | .tideLeap _ leap => decide (-64 ≤ leap ∧ leap ≤ 64)
  | .tpDelay _ quarters => decide (-536870912 ≤ quarters ∧ quarters ≤ 536870911)
  | .rtcShift _ count => decide (-32767 ≤ count ∧ count ≤ 32767)
  | .logRead _ addr length => addr < 131072 && 1 ≤ length && length ≤ 64
  | .logWrite _ addr data => addr < 131072 && !data.isEmpty && data.length ≤ 32
  | .touchOntime _ sec => 1 ≤ sec && sec ≤ 300
  | .lgtLoad _ _ _ words => !words.isEmpty && words.length ≤ 8
  | .lgtDiv _ _ ratio => 256 ≤ ratio && ratio ≤ 16777215
  | .signAttest _ nonce => !nonce.isEmpty && nonce.length ≤ 32
  | .lifeImageLoad _ _ length => 4100 ≤ length && length ≤ 2097152
  | .replan view => view.all fun v => decide (-90 ≤ v.el ∧ v.el ≤ 90) && decide (v.az < 360)
  | .bufferRecording ms _ => decide (2 ≤ ms ∧ ms ≤ 125)
  | .snapshotCaptureEnd samples _ => samples.length ≤ 0x80000
  | .partnerStart _ sec => sec < 1800
  | .partnerDwellEnd _ arms => arms.length == 5
  | .epochInstant meas flat => meas.length ≤ 256 && flat.length == 2
  | .fixRecordWrite _ preds => preds.length ≤ 256
  | .notchSpectrum _ gain occ bins post _ => gain.toNat ≤ 140 && occ.toNat ≤ 200 && bins.length == 64 && post.length == 64
  | .checkWriteBack block => block < 0x30000000
  | .touchSegment counts => counts.length ≤ 8
  | .touchTestEnd counts rises => counts.length ≤ 32 && rises.length ≤ 32
  | .sysctlOwnWrite .. | .ownershipChange .. | .levelWrite .. | .levelChange .. | .consoleCharacter .. | .backspace ..
  | .ctrlC .. | .lineTerminator .. | .commandExecute | .outputRoom .. | .baudChange | .modeChange .. | .quayGo | .quayBreak
  | .quayLineCopy | .quayRtailWrite .. | .settingQuery .. | .sysVerQuery .. | .sysIdQuery .. | .sysMode .. | .sysCheck ..
  | .sysNotice .. | .sysStatQuery .. | .sysReset .. | .own .. | .ownQuery .. | .levelSession .. | .levelBlock .. | .pwrPoint ..
  | .pwrPath .. | .pwrReg .. | .pwrLedgerQuery .. | .pwrDomain .. | .pwrBias .. | .noteSleep .. | .noteRetain ..
  | .noteWakeQuery .. | .noteHistQuery .. | .clkQuery .. | .clkSrc .. | .clkGate .. | .clkMon .. | .harvQuery .. | .harvXmit ..
  | .harvOvp .. | .harvPermitQuery .. | .gnssMode .. | .gnssModeRegisterWrite .. | .gnssModeDone | .gnssBurst .. | .gnssAid ..
  | .gnssRestart .. | .restartApply | .gnssFixQuery .. | .gnssStatQuery .. | .planSys .. | .planQuery .. | .planAssign ..
  | .berthQuery .. | .berthSpacing .. | .berthLoop .. | .measQuery .. | .measBondQuery .. | .bitsQuery .. | .nmeaOnOff ..
  | .nmeaSet .. | .tideQuery .. | .tideSrc .. | .tideScale .. | .tideRate .. | .tideLoop .. | .ttOnOff .. | .ttSync ..
  | .ttFollow .. | .ttDresp .. | .ttExchangeTimeout | .ttQuery .. | .tpOnOff .. | .tpSet .. | .tpPolicy .. | .rtcMode ..
  | .rtcSet .. | .rtcAlarm .. | .rtcTrickle .. | .rtcOsfQuery .. | .rtcOsfClear .. | .logQuery .. | .logProtect ..
  | .logTallyQuery .. | .adcMode .. | .adcRef .. | .adcReadQuery .. | .touchMode .. | .touchTest .. | .lgtQuery .. | .lgtRun ..
  | .lgtStop .. | .lgtClrshift .. | .signFix .. | .signFixNow .. | .signKeyQuery .. | .lifeQuery .. | .lifeGo ..
  | .imageDataByte .. | .imageGapTimeout | .lifeImageCommit .. | .lifeImageQuery .. | .testMem .. | .testMemDone | .testRf ..
  | .testPin .. | .antennaShort | .laneAssign .. | .laneStart .. | .laneAbort .. | .laneSearchEnd .. | .laneCodeRead ..
  | .berthHandoff .. | .lookoutSnapGo .. | .lookoutSnapRelease .. | .berthEnable .. | .berthDisable .. | .berthSignalChange ..
  | .berthDump .. | .pdDump .. | .berthIncWrite .. | .berthLoadCode .. | .berthLoadCarr .. | .berthDumpRead ..
  | .sidePeakCheck .. | .lockLoss .. | .burstWake | .burstWindowStart .. | .epochClose | .startCleared .. | .startDeadline ..
  | .measqTailWrite .. | .bitlogTailWrite .. | .ringReconfigure .. | .measqFixRead | .sillagePselWrite .. | .osnmaTagCheck ..
  | .osnmaTagExpiry | .frontOverload .. | .overloadClear .. | .notchRelease .. | .tideNowlRead | .tideCtrlStep ..
  | .tideStepApply | .sourceTimeout .. | .leapApply | .tpinPulse .. | .tpLeadingEdge | .tpTrailingEdge | .tpCtrlApply ..
  | .wakeAlignment .. | .rtcSecondBoundary | .rtcApplyNow .. | .rtcApplySecond .. | .rtcApplyCancel .. | .rtcShiftStart ..
  | .rtcShiftEnd | .rtcBsecRead .. | .rtcSnapshotExpiry .. | .rtcOsfWrite .. | .rtcInterfaceLock .. | .rtcInterfaceUnlock
  | .backupDomainReset | .rtcDiscipline | .vbatQualify | .vbatDisqualify | .vstoreQualify | .vstoreDisqualify | .pathReturn
  | .pwrHoldLow | .pwrBorWarn .. | .graceExpiry | .tallySave | .vbatBorAssert | .vbatBorRelease .. | .coreBrownOut ..
  | .pwrPointWrite .. | .pwrPointDone | .pwrRegWrite .. | .domainSwitchOn .. | .domainSwitchOff .. | .pwrDomfWrite ..
  | .ioBankLoss .. | .sleepEntry | .sleepExit .. | .vocRefresh .. | .ovpTrip | .ovpRecover | .uvpTrip | .storeReconnect
  | .ocpTrip .. | .shortCircuitTrip .. | .reconnectRetry | .harvProtClr .. | .temperatureSample .. | .bandChange ..
  | .storeMeasure .. | .bpreqClassPulse .. | .permitClassWrite .. | .bpreqGapTimeout | .bpreqRequest .. | .bpreqDrop
  | .grantTimeout | .coldStart | .coldStartBoot .. | .clockReady .. | .monitorWindow .. | .edgeDetectorFail .. | .clockRetry
  | .clkCfgRetry .. | .islandSourceRequest .. | .islandClockSwitch .. | .fllCount .. | .syspllReferenceMove ..
  | .clkRfsynUnlock .. | .powerOnReset .. | .nrstReset .. | .sysWatchdogReset .. | .appWatchdogExpiry | .swrstApp ..
  | .swrstAll .. | .debugReset .. | .wdtaServe .. | .wdtaEnable | .alu .. | .add .. | .sub .. | .and .. | .or .. | .xor ..
  | .nor .. | .shl .. | .shr .. | .sra .. | .cmplt .. | .cmpltu .. | .cmpeq .. | .min .. | .max .. | .minu .. | .maxu ..
  | .clz .. | .mul .. | .mulh .. | .mulhu .. | .div .. | .divu .. | .rem .. | .remu .. | .addi .. | .andi .. | .ori ..
  | .xori .. | .cmplti .. | .cmpltui .. | .shi .. | .lui .. | .auipc .. | .ldb .. | .ldbu .. | .ldh .. | .ldhu .. | .ldw ..
  | .stb .. | .sth .. | .stw .. | .beq .. | .bne .. | .blt .. | .bge .. | .bltu .. | .bgeu .. | .jmp .. | .call .. | .jrl ..
  | .fence .. | .wait .. | .eret .. | .trap .. | .mfs .. | .mts .. | .shortNop .. | .shortMov .. | .shortAdd .. | .shortSub ..
  | .shortAnd .. | .shortOr .. | .shortXor .. | .shortShl .. | .shortShr .. | .shortSra .. | .shortMul .. | .shortCmplt ..
  | .shortCmpltu .. | .shortCmpeq .. | .shortMovi .. | .shortAddi .. | .shortShli .. | .shortShri .. | .shortSrai ..
  | .shortAndi .. | .shortLdw .. | .shortStw .. | .ldwp .. | .stwm .. | .shortLdbu .. | .shortStb .. | .br .. | .bz .. | .bnz ..
  | .jr .. | .ret .. | .shortFence .. | .illegalWord .. | .fetchUncorrectable .. | .mneEntry .. | .nmiEntry .. | .dredgerBlock
  | .tamperWipe | .wipeDone | .logsProg .. | .logsTwinWr .. | .logsTwinRd .. | .logsCommandStart | .logsWriteDone
  | .tallyEraseDone | .manifestSourceEvent .. | .manPop0Read .. | .manMaskWrite .. | .manPendWrite .. | .manMaskset ..
  | .manMaskclr .. | .manPendset .. | .manPendclr .. | .manRaiseWrite .. | .manCfgWrite .. | .mneModerationTimeout ..
  | .producerEvent .. | .evrSwtrigWrite .. | .evrCapfRead .. | .aonTick | .lgtNop .. | .lgtXfer .. | .lgtFill .. | .lgtDrain ..
  | .lgtDrive .. | .lgtAwait .. | .lgtAwaitEnd .. | .lgtAwaitTimeout .. | .lgtPause .. | .lgtSet .. | .lgtLoop .. | .lgtJump ..
  | .lgtMove .. | .lgtNote .. | .lgtIllegal .. | .lgtStallEnd .. | .lgtCmdRun .. | .lgtCmdStop .. | .lgtCmdClrshift ..
  | .lgtCmdClrfifo .. | .lgtCmdSetpc .. | .lgtTxfWrite .. | .lgtRxfRead .. | .lgtImemWrite .. | .uartCharacterReceived ..
  | .uartBreak .. | .uartLineFault .. | .uartLineFaultClear .. | .uartStartEdgeWake .. | .uartRxTimeout ..
  | .uartCharacterSent .. | .uartDataRead .. | .uartDataWrite .. | .uartRxstsRead .. | .uartConfigApply ..
  | .i2ctAddressMatch .. | .i2ctByteReceived .. | .i2ctByteSent | .i2ctStretchTimeout | .i2ctStop | .i2ctDataRead ..
  | .i2ctDataWrite .. | .spiStart .. | .spiAbort .. | .spiFrame .. | .spiCsRaise .. | .spiDataRead .. | .spiDataWrite ..
  | .dmaStart .. | .dmaRequestUnit .. | .adcStart .. | .adcStop .. | .adcFlush .. | .adcResult .. | .adcFifoRead ..
  | .adcRefReady | .adcCalOk | .touchScanStart | .touchSegmentDiscard | .touchDqiTimeout | .touchScanEnd | .touchCtrlStart ..
  | .touchCtrlTest .. | .touchCtrlRebase .. | .touchCtrlSaveref .. | .proximitySample .. | .signingStart | .signingDone
  | .keyDerivationDone | .tapExtest .. | .tapSamplePreload .. | .tapIdcode | .tapClamp | .tapHighz | .tapDebug | .tapBypass
  | .trstnReset | .gpioWakeEdge .. | .gpioEventEdge .. | .gpioOutset .. | .gpioOutclr .. | .holdOk | .ioBankReturn ..
  | .logRecoveryDone | .tideErrLimit => true

end Sys2Proof
end

