-- ==== Sys2Proof/Tests/Slice0.lean ====
section
/-! SUPPORT. Tests of the model: the smoke test of the well-formedness checks, the spec's worked cases, and for every statement of
the obligations a concrete state that meets the hypotheses of each of its clauses. -/

namespace Sys2Proof.Tests

open Sys2Proof Sys2Proof.Machine

set_option maxRecDepth 20000
set_option Elab.async false

/-- The state right after reset, with the fields of a list written. -/
def on (l : List (Fld × Nat)) : State := State.reset.puts l

/-- The block owned by the console and in EXPERT, and so is the session of UART0. -/
def ex (b : Block) (s : State) : State :=
  ((s.put (F.OWNLVL_OWNER b) 0).put (F.OWNLVL_LEVEL b) 1).setSess .uart0 { s.sess .uart0 with expert := true }

/-- A core at the start of an aligned word. -/
def core (k : Core) : State := { State.reset with sys := { k with pc := 0x08000000 } }

/-- A general register's value in the registers of a core. -/
def gen (r : Nat) (v : Word) : State := core { State.reset.sys with g := Store.set (fun _ => 0) State.reset.sys.g r v }

/-- The state in a session's receive line. -/
def line (n : Nat) : State :=
  { State.reset with console := { State.reset.console with autobaud := false } }.setSess .uart0
    { State.reset.sess .uart0 with count := n, line := [(Char.ofNat 65, false)] }

/-- The fields of a list written, with every domain on. -/
def up (l : List (Fld × Nat)) : State := on ((F.PWR_DOMS_PG, 0x3FFF) :: l)

/-- A berth of the state with `f` done to it, every domain on. -/
def berth (n : Nat) (l : List (Fld × Nat)) (f : BerthState → BerthState) : State := (up l).modBerth n f

/-- The state's receiver with `f` done to it, every domain on. -/
def gnss (l : List (Fld × Nat)) (f : GnssState → GnssState) : State := (up l).withGnss f

/-- The line names a TIDE command that meets what LineRunsItsCommand asks for. -/
def runsLine (s : State) (l : HostLine) : Bool :=
  match parseArgs l.text with
  | none => false
  | some a =>
    match s.catalogue .uart0 "TIDE" (a.pos.drop 1) a with
    | some (.forms (some c) _) =>
      !c.surplus && !c.missing && c.transport && !(c.needKey && a.keyed.isEmpty) && !(a.keyed.any fun k => !c.keys.contains k.1) &&
        (s.precheck .uart0 c.info).isNone &&
        (match c.act with
          | .ok f => (match f s with | .next _ => true | _ => false)
          | _ => false)
    | _ => false

/-- Lighter 0 in state `st` at word `w` of its slot 0, with further fields written. -/
def lgt (st w : Nat) (l : List (Fld × Nat)) : State := up ((F.LGT_STAT_STATE 0, st) :: (F.LGT_IMEM_WORD 0 0, w) :: l)

/-- A run of a log operation. -/
def logRun (r : LogReq) : LogRun := ⟨r, 3, List.replicate 128 0, 0, false, 0⟩

/-- The state with a log store of the reset, `f` done to it. -/
def withLogs (f : LogStore → LogStore) : State := { State.reset with logs := f State.reset.logs }

/-- A handoff, a prediction, and a dump with nothing in them. -/
def aHandoff : Handoff := ⟨0, 0, 0, 0, 0, 0, 0, 0, 0, 0, false⟩

/-- See above. -/
def aPred (n : Fin 256) : Pred := ⟨n, 0, 0, 0, 0, 0, 0, 0, 0, 0, []⟩

/-- See above. -/
def aDump : DumpData := ⟨[], 0, 0, 0, 0, 0, 0, 0, 0, none⟩

/-- A search for GPS-L1CA. -/
def aSearch : Search := { State.reset.laneSearch 0 with sig := 0 }

/-- The smoke test of the well-formedness checks: for each check an ill-formed term that it refuses. -/
theorem test_wf_refuses_registers : (Instr.registerWrite .debug 4 0 7).wf = false ∧ (Instr.registerWrite .sys 6 15 7).wf = false ∧
    (Instr.readClear .sys 2).wf = false := by decide +kernel

/-- Ill-formed settings of the console. -/
theorem test_wf_refuses_settings : (Instr.autobaudCharacter 65 0).wf = false ∧ (Instr.sysBaud .uart0 (some 4000001)).wf = false ∧
    (Instr.harvMppt .uart0 true 361).wf = false ∧ (Instr.harvMppt .uart0 false 9).wf = false ∧ (Instr.gnssSnap .uart0 126).wf = false ∧
    (Instr.planElev .uart0 46).wf = false ∧ (Instr.nmeaRate .uart0 61).wf = false ∧ (Instr.tideLeap .uart0 65).wf = false ∧
    (Instr.tpDelay .uart0 536870912).wf = false ∧ (Instr.rtcShift .uart0 (-32768)).wf = false ∧ (Instr.touchOntime .uart0 301).wf = false := by
  decide +kernel

/-- Ill-formed data of the console. -/
theorem test_wf_refuses_data : (Instr.logRead .uart0 131072 1).wf = false ∧ (Instr.logRead .uart0 0 65).wf = false ∧
    (Instr.logWrite .uart0 0 []).wf = false ∧ (Instr.logWrite .uart0 0 (List.replicate 33 0)).wf = false ∧
    (Instr.lgtLoad .uart0 7 0 (List.replicate 9 0)).wf = false ∧ (Instr.lgtDiv .uart0 7 255).wf = false ∧
    (Instr.signAttest .uart0 []).wf = false ∧ (Instr.lifeImageLoad .uart0 false 4099).wf = false := by decide +kernel

/-- Ill-formed events of the receiver and of the blocks. -/
theorem test_wf_refuses_events (v : Sv) (m : Meas) (p : Pred) (f : Solution) : (Instr.replan [⟨v, 90, 360, 0⟩]).wf = false ∧
    (Instr.replan [⟨v, 91, 0, 0⟩]).wf = false ∧ (Instr.bufferRecording 1 []).wf = false ∧
    (Instr.partnerStart 255 1800).wf = false ∧
    (Instr.epochInstant (List.replicate 257 m) []).wf = false ∧ (Instr.epochInstant [] []).wf = false ∧
    (Instr.fixRecordWrite f (List.replicate 257 p)).wf = false ∧ (Instr.checkWriteBack 0x30000000).wf = false ∧
    (Instr.touchSegment (List.replicate 9 0)).wf = false ∧ (Instr.touchTestEnd (List.replicate 33 0) []).wf = false := by
  exact ⟨rfl, rfl, rfl, rfl, rfl, rfl, rfl, rfl, rfl, rfl⟩

/-- A capture of more than 512 KB is ill-formed. -/
theorem test_wf_refuses_captures (l : List (BitVec 4 × BitVec 4)) (h : l.length = 0x80001) :
    (Instr.snapshotCaptureEnd l 0).wf = false := by
  show decide (l.length ≤ 0x80000) = false
  simp [h]

/-- The CRC of the chapter "The quay console" over the nine characters of its worked case. -/
theorem test_crc_of_the_worked_case : Text.crc8 "@0001 TP?".toList = 0x50 := by decide +kernel

/-- R159's worked case: GPS-L1CA at +2000 Hz. -/
theorem test_code_inc_of_the_worked_case : codeInc 0 0 2000 1 = 0x80000AA6 := by decide +kernel

/-- The worked case of R287: with ticks 0.780 ns before the ideal edge and 2.345 ns after it, QERR is -858. -/
theorem test_qerr_of_the_worked_case :
    ((up []).withTide fun u => { u with now := (2 ^ 56 - ofQuarters 150 - 56204473).toNat }).qerr (2 ^ 56 - ofQuarters 150) = -858 := by
  decide +kernel

/-- The worked case of R283: OFFSET 2500 ns and DELAY 1200 ns. -/
theorem test_tt_of_the_worked_case :
    (let s := { up [(F.TIDE_TTCFG_EN, 1), (F.TIDE_TTCFG_MAXDLY, 1000000)] with
        tt := { State.reset.tt with open_ := some ⟨41, 15891, some (0, 2233383)⟩ } }
     match execTtDresp (some .uart0) 41 2227800 s with
     | .next t => t.getS F.TIDE_TTOFS_OFFSET == 10000 && t.get F.TIDE_TTDLY_DELAY == 4800
     | _ => false) = true := by decide +kernel

/-- The worked case of R300: a calendar set of 2019-12-31T23:59:00 loads BINARY with 2^40 - 60. -/
theorem test_rtc_set_of_the_worked_case : Cal.toBinary (Cal.count ⟨2019, 12, 31, 23, 59, 0⟩) = 0xFFFFFFFFC4 := by decide +kernel

/-- The worked case of R464: a row bit of 0x34 is 1, of 0x3C it is 0. -/
theorem test_row_checks_of_the_worked_case : parity 0x34 = 1 ∧ parity 0x3C = 0 := by decide +kernel

/-- The registers after a paired word of R435's worked cases. -/
def afterPair (a b : State → Host.Outcome State Fault Refusal) (s : State) (r : Nat) : Option Word :=
  match a s with
  | .next t => (match b t with | .next u => some (u.sys.gen r) | _ => none)
  | _ => none

/-- `MOV g3, g4 | ADD g4, g3` reads what stood before the word, and of two writes slot B's remains. -/
theorem test_pairs_of_the_worked_case :
    (let s := core { State.reset.sys with g := Store.set (fun _ => 0) (gen 3 10).sys.g 4 7 }
     afterPair (execShortMov .sys .a 3 4) (execShortAdd .sys .b 4 3) s 3 = some 7 ∧
     afterPair (execShortMov .sys .a 3 4) (execShortAdd .sys .b 4 3) s 4 = some 17 ∧
     afterPair (execShortMovi .sys .a 2 5) (execShortMovi .sys .b 2 9) s 2 = some 9) := by decide +kernel

/-- The worked case of R541: the words of program A are a legal XFER and a DRAIN with KEEP. -/
theorem test_lighter_words_of_the_worked_case : lgtOp 0x0C80F000 = 1 ∧ lgtIllegal 0x0C80F000 = false ∧ lgtOp 0x18000002 = 3 ∧
    bitOf 0x18000002 1 = true := by decide +kernel

/-- The worked case of R523: a write of PEND2 by value loses the bit that was set meanwhile. -/
theorem test_pend_write_of_the_worked_case :
    (match execManPendWrite .sys .console 2 0 (on [(F.MAN_PEND_PEND 1 2, 0x04000040)]) with
     | .next t => t.get (F.MAN_PEND_PEND 1 2) == 0
     | _ => false) = true := by decide +kernel


/-- Each clause's hypotheses of StepRunsFrontCommand are met. -/
theorem witness_StepRunsFrontCommand :
    State.reset.pending = [] := by
  decide +kernel

/-- Each clause's hypotheses of IdleStepIsATick are met. -/
theorem witness_IdleStepIsATick :
    State.reset.pending = [] := by
  decide +kernel

/-- Each clause's hypotheses of EveryStepKeepsCanonicalForm are met. -/
theorem witness_EveryStepKeepsCanonicalForm :
    (State.reset.Wf) ∧
    ((∃ t : State, step State.reset = .next t)) := by
  refine ⟨?_, ?_⟩
  · unfold State.Wf; decide +kernel
  · exact ⟨_, rfl⟩

/-- Each clause's hypotheses of OwnersChangeOnlyByRequest are met. -/
theorem witness_OwnersChangeOnlyByRequest :
    (changesOwnership .tideNowlRead = false) ∧
    ((∃ t : State, exec .tideNowlRead State.reset = .next t)) := by
  refine ⟨?_, ?_⟩
  · rfl
  · exact ⟨_, rfl⟩

/-- Each clause's hypotheses of SessionInput are met. -/
theorem witness_SessionInput :
    ((let s := line 159; Sess.uart0 ≠ .quay ∧ s.serves .uart0 = true ∧ s.console.autobaud = false ∧ (65 : Byte) ∉ ([3, 8, 10, 13, 0x7F] : List Byte) ∧
      (s.sess .uart0).count < 160)) ∧
    ((let s := line 160; s.serves .uart0 = true ∧ s.console.autobaud = false ∧ 160 ≤ (s.sess .uart0).count)) ∧
    (State.reset.console.autobaud = true ∧ (65 : Byte) ≠ 13) ∧
    ((let s := line 160; s.serves .uart0 = true ∧ s.console.autobaud = false ∧ (s.sess .uart0).count ≠ 0 ∧ (s.sess .uart0).count ≤ 160)) ∧
    ((let s := line 0; s.serves .uart0 = true ∧ s.console.autobaud = false ∧ (s.sess .uart0).count = 0)) ∧
    ((let s := line 1; s.serves .uart0 = true ∧ s.console.autobaud = false ∧ s.waitingOf .uart0 < 3)) ∧
    (State.reset.on F.QUAY_GO = false) ∧
    ((let s := on [(F.QUAY_GO, 1), (F.QUAY_LEN, 160)]; s.on F.QUAY_GO = true ∧ s.waitingOf .quay < 3 ∧
      ∀ c ∈ ([3, 8, 10, 13, 0x7F] : List Byte), c ∉ s.bytes 0x70000100 (min (s.get F.QUAY_LEN) 160))) ∧
    ((let s := { State.reset with console := { State.reset.console with lastCr := some 9600 } }; s.console.autobaud = true ∧ s.console.lastCr = some 9600 ∧
      (max 9600 9888 - min 9600 9888) * 100 ≤ 3 * 9600 ∧ 3 * 9600 < (max 9600 9889 - min 9600 9889) * 100)) ∧
    (State.reset.console.autobaud = true ∧ State.reset.console.lastCr = none) ∧
    ((let s := { State.reset with console := { State.reset.console with pendRate := some (some 9600) } }; s.console.pendRate = some (some 9600))) ∧
    ((let s := { State.reset with console := { State.reset.console with pendRate := some none } }; s.console.pendRate = some none)) ∧
    ((let s := State.reset.setSess .i2c { State.reset.sess .i2c with pendMode := some true }; (s.sess .i2c).pendMode = some true)) ∧
    ((let s := State.reset.setSess .uart0 { State.reset.sess .uart0 with echo := "A" }; let u := s.sess .uart0;
      u.echo ≠ "" ∧ u.stalled = [] ∧ u.lostNmea = 0 ∧ u.lostNotice = 0)) ∧
    ((let o : OutLine := ⟨4, 0, 0, "OK", .nothing⟩; let s := State.reset.setSess .i2c { State.reset.sess .i2c with out := [o] }; let u := s.sess .i2c;
      u.echo = "" ∧ u.typed = false ∧ u.out = [o] ∧ o.after = .nothing ∧ u.stalled = [] ∧ u.lostNmea = 0 ∧ u.lostNotice = 0)) := by
  refine ⟨?_, ?_, ?_, ?_, ?_, ?_, ?_, ?_, ?_, ?_, ?_, ?_, ?_, ?_, ?_⟩ <;> decide +kernel

/-- Each clause's hypotheses of LineRunsItsCommand are met. -/
theorem witness_LineRunsItsCommand :
    ((let l : HostLine := ⟨"TIDE LEAP 18".toList, 12, false, false⟩;
      let s := { State.reset with console := { State.reset.console with waiting := [(.uart0, l)] } };
      s.nextLine = some (.uart0, l) ∧ l.blank = false ∧ s.console.heritage = false ∧ (s.sess .uart0).check = false ∧ l.text.head? ≠ some '@' ∧
      tagOf l.text = none ∧ splitCheck l.text = (l.text, none) ∧ (parseArgs l.text).map (fun b => (b.pos, b.query)) = some (["TIDE", "LEAP", "18"], false) ∧
      runsLine (s.takeLine .uart0 l) l = true)) ∧
    ((let l : HostLine := ⟨"  ".toList, 2, false, false⟩; let s := { State.reset with console := { State.reset.console with waiting := [(.i2c, l)] } }.setSess .i2c { State.reset.sess .i2c with typed := false };
      s.nextLine = some (.i2c, l) ∧ l.lost = false ∧ l.blank = true ∧ (s.sess .i2c).typed = false)) ∧
    ((let l : HostLine := ⟨[], 161, false, false⟩; let s := { State.reset with console := { State.reset.console with waiting := [(.uart0, l)] } };
      s.nextLine = some (.uart0, l) ∧ l.lost = false ∧ 160 < l.count)) ∧
    (State.reset.nextLine = none) := by
  refine ⟨?_, ?_, ?_, ?_⟩ <;> decide +kernel

/-- Each clause's hypotheses of ConsoleErrorLeavesDevice are met. -/
theorem witness_ConsoleErrorLeavesDevice :
    (∃ s : State, s.precheck .uart0 tideCmd = some 210 ∧ IsSettingCommand .uart0 (.tideSrc .uart0 0, tideCmd)) := by
  exact ⟨on [(F.OWNLVL_OWNER .tide, 1)], by decide +kernel, by simp [IsSettingCommand]⟩

/-- Each clause's hypotheses of RegisterReadsAndWrites are met. -/
theorem witness_RegisterReadsAndWrites :
    ((let s := on [(F.MEMCTL_ERR_CE 29, 7), (F.MEMCTL_ERR_UE 29, 9)]; Master.sys.side = s.owner .memctl)) ∧
    (Master.appData.side ≠ State.reset.owner .memctl ∧ 2 ≤ (254 : Fin 255).val) := by
  refine ⟨?_, ?_⟩ <;> decide +kernel

/-- Each clause's hypotheses of OwnersAndLevels are met. -/
theorem witness_OwnersAndLevels :
    (Block.tide.fixed = false ∧ State.reset.quiet .tide = true ∧ Side.app ≠ State.reset.owner .tide ∧ accepts State.reset .uart0 {} = true) ∧
    ((let s := on [(F.TIDE_CTRL_STEP_PEND, 1)]; s.quiet .tide = false ∧ Side.app ≠ s.owner .tide)) ∧
    (Block.uart0.fixed = true) ∧
    ((let s := on [(F.OWNLVL_OWN_PEND .tide, 1)]; s.on (F.OWNLVL_OWN_PEND .tide) = true ∧ s.mayBeQuiet .tide = true)) ∧
    (Block.tide ≠ .sysctl ∧ State.reset.expert .tide = false ∧ accepts State.reset .uart0 { block := some .tide } = true) ∧
    ((let s := on [(F.OWNLVL_LVL_PEND .tide, 1)]; s.on (F.OWNLVL_LVL_PEND .tide) = true ∧ s.mayBeQuiet .tide = true)) ∧
    (accepts State.reset .uart0 { query := true } = true) := by
  refine ⟨?_, ?_, ?_, ?_, ?_, ?_, ?_⟩ <;> decide +kernel

/-- Each clause's hypotheses of SettingsAndTests are met. -/
theorem witness_SettingsAndTests :
    (accepts State.reset .uart0 sysCmd = true ∧ accepts State.reset .uart0 { sysCmd with notQuay := true } = true ∧ accepts State.reset .uart0 { sysCmd with uart0Only := true } = true ∧ 9600 ≤ 9600 ∧ 4000000 < 4000001) ∧
    (accepts State.reset .quay { sysCmd with query := true, scrapOk := true } = true ∧ accepts State.reset .i2c { sysCmd with query := true } = true ∧
      accepts State.reset .uart0 { query := true, sysGroup := true, scrapOk := true, heritage := true } = true) ∧
    (accepts State.reset .uart0 { gnssCmd with query := true } = true ∧ accepts State.reset .uart0 { rtcCmd with query := true } = true) ∧
    (accepts State.reset .uart0 { lifeCmd with query := true, scrapOk := true } = true ∧ accepts State.reset .uart0 Setting.planElev.info = true) ∧
    ((let s := ex .test (on [(F.LIFE_STATE_STATE, 1)]); accepts s .uart0 testCmd = true)) ∧
    ((let s := { State.reset with memTest := some 23 }; s.memTest.isSome = true)) := by
  refine ⟨?_, ?_, ?_, ?_, ?_, ?_⟩ <;> decide +kernel

/-- Each clause's hypotheses of ReceiverModes are met. -/
theorem witness_ReceiverModes :
    (accepts State.reset .uart0 gnssCmd = true ∧ State.reset.on F.GNSS_MODE_STRAP = false ∧ affords State.reset (State.reset.requestMode 1) = true) ∧
    ((let s := on [(F.PWR_REG_ACT, 1)]; accepts s .uart0 gnssCmd = true ∧ s.on F.GNSS_MODE_STRAP = false ∧ ledgerGrants s (s.requestMode 1) = false)) ∧
    ((let s := on [(F.GNSS_MODE_STRAP, 1)]; accepts s .uart0 gnssCmd = true ∧ s.on F.GNSS_MODE_STRAP = true ∧ affords s (s.requestMode 6) = true ∧ (0 : Fin 7).val ≠ 6)) ∧
    ((let s := State.reset; opens s (s.owner .gnss) .gnss false = true ∧ ledgerGrants s (s.requestMode 6) = true ∧ (7 : Fin 8).val = 7)) ∧
    ((let s := on [(F.GNSS_MODE_MODE_PEND, 1), (F.GNSS_MODE_MODE, 6)]; s.on F.GNSS_MODE_MODE_PEND = true ∧ s.receiverRests = true)) ∧
    (¬(1 ≤ 61 ∧ 61 ≤ 60 ∧ 8 ≤ 250 ∧ 250 ≤ 250) ∧ 1 ≤ State.reset.get F.GNSS_BURST_PERIOD ∧ State.reset.get F.GNSS_BURST_PERIOD ≤ 60) ∧
    ((let s := (on [(F.GNSS_TOFS_OFS 4, 9), (F.GNSS_TOFS_NSAT 4, 9)]).withGnss fun g => { g with restart := some .warm }; s.receiverRests = true ∧ s.gnss.restart = some .warm)) ∧
    ((let s := State.reset.withGnss fun g => { g with restart := some .hot }; s.receiverRests = true ∧ s.gnss.restart = some .hot)) ∧
    ((let s := on [(F.FRONT_CFG_BIAS_EN, 1)]; s.on F.FRONT_CFG_BIAS_EN = true ∧ s.on F.FRONT_CFG_BIAS_SHORT = false)) ∧
    (State.reset.on F.FRONT_CFG_BIAS_EN = false ∧ State.reset.on F.GNSS_MODE_MODE_PEND = false ∧ State.reset.gnss.restart = none) := by
  refine ⟨?_, ?_, ?_, ?_, ?_, ?_, ?_, ?_, ?_, ?_⟩ <;> decide +kernel

/-- Each clause's hypotheses of SignalPlan are met. -/
theorem witness_SignalPlan :
    (accepts State.reset .uart0 planCmd = true ∧ State.reset.console.heritage = false ∧ accepts State.reset .uart0 { planCmd with query := true } = true) ∧
    ((let s := { State.reset with console := { State.reset.console with heritage := true } }; accepts s .uart0 planCmd = true ∧ s.console.heritage = true ∧ (2 : Fin 7).val ∉ [0, 1, 4] ∧ (4 : Fin 7).val ∈ [0, 1, 4])) ∧
    (State.reset.slotUsed 127 = false) ∧
    ((let s := ex .plan (on [(F.PLAN_SLOT_SV_SYS 5, Sig.sys 0)]); accepts s .uart0 { planCmd with expert := true } = true ∧ s.slotUsed 5 = true ∧
      Sig.sys 0 = s.get (F.PLAN_SLOT_SV_SYS 5) ∧ s.owner (.berth 255) = .console ∧ s.mode ≠ 6 ∧ (∀ j : Fin 3, s.get (F.PLAN_SLOT_A_SIG 5 j) = 15) ∧
      (∀ j : Fin 3, s.get (F.PLAN_SLOT_A_SIG 5 j) ≠ 0) ∧ s.on (F.BERTH_CFG_EN 255) = false ∧ 256 ≤ s.get (F.PLAN_SLOT_A_BERTH 5 0) ∧ (s.get (F.PLAN_SLOT_A_BERTH 127 2) ≠ 255))) ∧
    ((let s := ex .plan (on [(F.PLAN_SLOT_SV_SYS 5, Sig.sys 0), (F.PLAN_SLOT_A_SIG 5 0, 1), (F.PLAN_SLOT_A_SIG 5 1, 0), (F.PLAN_SLOT_A_BERTH 5 1, 9)]); s.slotUsed 5 = true ∧ s.get (F.PLAN_SLOT_A_SIG 5 1) = 0 ∧
      (∀ k : Fin 3, k < 1 → s.get (F.PLAN_SLOT_A_SIG 5 k) ≠ 0))) ∧
    ((let s := ex .plan (on [(F.PLAN_SLOT_SV_SYS 5, Sig.sys 0), (F.PLAN_SLOT_A_SIG 5 0, 1), (F.PLAN_SLOT_A_SIG 5 1, 1), (F.PLAN_SLOT_A_SIG 5 2, 1)]); s.slotUsed 5 = true ∧
      (∀ j : Fin 3, s.get (F.PLAN_SLOT_A_SIG 5 j) ≠ 15 ∧ s.get (F.PLAN_SLOT_A_SIG 5 j) ≠ 0))) ∧
    ((let s := (on [(F.GNSS_MODE_ACT_MODE, 1), (F.PLAN_SLOT_SV_SYS 127, 0)]); s.expert .plan = false ∧ s.planDue = true)) ∧
    ((ex .plan State.reset).expert .plan = true) := by
  refine ⟨?_, ?_, ?_, ?_, ?_, ?_, ?_, ?_⟩ <;> decide +kernel

/-- Each clause's hypotheses of LookoutSearchesAndSnapshots are met. -/
theorem witness_LookoutSearchesAndSnapshots :
    ((let s := (on [(F.GNSS_MODE_ACT_MODE, 1)]).withGnss fun g => { g with queue := [aSearch] }; s.expert .lookout = false ∧ s.laneRuns 0 = false ∧ 0 < s.get F.LOOKOUT_CFG_LANES ∧
      s.searching = true ∧ s.gnss.window = false ∧ s.ageQueue.gnss.queue.length = 1)) ∧
    ((let s := on [(F.GNSS_MODE_ACT_MODE, 1)]; s.searching = true ∧ s.ageQueue.gnss.queue = [])) ∧
    (State.reset.searching = false) ∧
    ((let s := ex .lookout (up [(F.LOOKOUT_LANE_SIG_SIG 15, 0)]); opens s (s.owner .lookout) .lookout true = true ∧ s.laneRuns 15 = false ∧ s.laneBroken 15 = false ∧
      (s.gnss.lanes.any fun y => y.2.sig == (s.laneSearch 15).sig && y.2.svn == (s.laneSearch 15).svn) = false)) ∧
    ((let s := ex .lookout (up [(F.LOOKOUT_LANE_SIG_SIG 15, 14)]); s.laneRuns 15 = false ∧ s.laneBroken 15 = true ∧ s.gnss.lanes = [])) ∧
    ((let s := (ex .lookout (up [(F.LOOKOUT_LANE_SIG_SIG 15, 0), (F.LOOKOUT_LANE_CMD_STATE 15, 3)])).withGnss fun g => { g with lanes := [(3, (on [(F.LOOKOUT_LANE_SIG_SIG 15, 0)]).laneSearch 15)] }; s.laneRuns 15 = false ∧
      (s.gnss.lanes.any fun y => y.2.sig == (s.laneSearch 15).sig && y.2.svn == (s.laneSearch 15).svn) = true)) ∧
    ((let s := ex .lookout (up [(F.LOOKOUT_LANE_CMD_STATE 15, 1)]); opens s (s.owner .lookout) .lookout true = true ∧ s.laneRuns 15 = true ∧ s.bursts = false ∧ s.gnss.lanes = [] ∧
      s.get (F.LOOKOUT_LANE_PEAK_LTHRESH 15) < 255)) ∧
    ((let s := on [(F.LOOKOUT_LANE_CMD_STATE 15, 2), (F.LOOKOUT_LANE_CODE_PHASE 15, 65535)]; 2 ≤ s.get (F.LOOKOUT_LANE_CMD_STATE 15) ∧ Side.app ≠ s.owner .lookout)) ∧
    ((let s := (on [(F.GNSS_MODE_ACT_MODE, 1), (F.FRONT_CFG_L1_EN, 1)]).withGnss fun g => { g with queue := [{ aSearch with cold := true }] }; s.neededBands ≠ [] ∧ s.bufferSearch = false ∧ s.searching = true ∧ s.bursts = false)) ∧
    ((let s := up [(F.GNSS_MODE_ACT_MODE, 5)]; accepts s .uart0 { block := some .lookout, heritage := true } = true ∧ s.mode = 5 ∧ s.on F.LOOKOUT_SNAP_BUSY = false ∧
      opens s (s.owner .lookout) .lookout false = true)) ∧
    (accepts State.reset .uart0 { block := some .lookout, heritage := true } = true ∧ State.reset.mode ≠ 5 ∧ State.reset.gnss.capture = none) ∧
    ((let s := (on [(F.LOOKOUT_SNAP_BUSY, 1)]).withGnss fun g => { g with capture := some (2, 0, 0) }; s.gnss.capture = some (2, 0, 0))) ∧
    ((let s := State.reset.withGnss fun g => { g with fix := some [] }; accepts s .uart0 gnssCmd = true ∧ s.gnss.fix.isSome = true ∧ State.reset.gnss.fix.isSome = false)) := by
  refine ⟨?_, ?_, ?_, ?_, ?_, ?_, ?_, ?_, ?_, ?_, ?_, ?_, ?_⟩ <;> decide +kernel

/-- Each clause's hypotheses of BerthControl are met. -/
theorem witness_BerthControl :
    ((let s := up []; opens s (s.owner (.berth 255)) (.berth 255) false = true ∧ s.on (F.BERTH_CFG_EN 255) = false)) ∧
    ((let s := up [(F.BERTH_CFG_EN 0, 1), (F.BERTH_STAT_STATE 0, 4)]; opens s (s.owner (.berth 0)) (.berth 0) false = true ∧ s.on (F.BERTH_CFG_EN 0) = true)) ∧
    ((let s := berth 9 [(F.BERTH_CFG_EN 9, 1)] fun b => { b with next := some (13, 255, 0) }; (s.berth 9).next = some (13, 255, 0))) ∧
    ((State.reset.berth 9).next = none ∧ (State.reset.berth 9).leaving = [] ∧ State.reset.predOf 9 = none ∧ (State.reset.berth 9).hand = none ∧ State.reset.placeOf 9 = none ∧ (State.reset.berth 9).dwell = none) ∧
    ((let s := berth 9 [(F.BERTH_CFG_EN 9, 1), (F.BERTH_STAT_STATE 9, 1)] fun b => { b with hand := some aHandoff }; s.bursts = false ∧ (s.berth 9).hand = some aHandoff ∧ s.on (F.BERTH_CFG_EN 9) = true ∧ s.get (F.BERTH_STAT_STATE 9) = 1 ∧
      (s.berth 9).next = none ∧ (s.berth 9).leaving = [])) ∧
    ((let s := (on [(F.LOOKOUT_CNT_DROPPED, 255)]).modBerth 9 fun b => { b with hand := some aHandoff }; s.bursts = false ∧ (s.berth 9).hand = some aHandoff ∧ s.on (F.BERTH_CFG_EN 9) = false)) ∧
    ((let s := (on [(F.GNSS_MODE_ACT_MODE, 3)]).modBerth 9 fun b => { b with hand := some aHandoff }; s.bursts = true)) ∧
    ((let u : NavUnit := ⟨0, .ephemeris, 0, false, 0, 0, 0, 0, 0, 0, 0, none⟩;
      let s := gnss [(F.GNSS_MODE_ACT_MODE, 1), (F.BERTH_CFG_EN 9, 1), (F.BERTH_CFG_SIG 9, 0), (F.BERTH_STAT_STATE 9, 6), (F.BERTH_CFG_SVN 9, 1), (F.SILLAGE_CFG_SEED_EN, 1), (F.SILLAGE_CFG_MAX_AGE, 60), (F.PLAN_SLOT_SV_SYS 0, 0), (F.PLAN_SLOT_A_SIG 0 0, 0), (F.PLAN_SLOT_A_BERTH 0 0, 9), (F.PLAN_SLOT_A_STATE 0 0, 1)] fun g =>
      { g with fix := some [], fixAt := 0, preds := [aPred 9], store := [⟨9, 0, 0, 0, 1, 0, 0, none, 0, u⟩] };
      s.predOf 9 = some (aPred 9) ∧ (s.berth 9).hand = none ∧ s.continuous = true ∧ s.get (F.BERTH_STAT_STATE 9) = 6 ∧ s.predictable 9 = true ∧ s.maySeed (aPred 9) = true)) ∧
    ((let s := berth 2 [(F.BERTH_CFG_EN 1, 1), (F.BERTH_STAT_STATE 1, 1), (F.BERTH_CFG_SIG 1, 1), (F.PLAN_SLOT_SV_SYS 0, 0), (F.PLAN_SLOT_A_SIG 0 0, 0),
      (F.PLAN_SLOT_A_BERTH 0 0, 2), (F.PLAN_SLOT_A_STATE 0 0, 1), (F.PLAN_SLOT_A_SIG 0 1, 1), (F.PLAN_SLOT_A_BERTH 0 1, 1), (F.PLAN_SLOT_A_STATE 0 1, 1),
      (F.BERTH_STAT_SEC_SYNC 2, 1)] fun b => { b with cleared := true };
      s.placeOf 1 = some (0, 1) ∧ Sig.partner (s.get (F.BERTH_CFG_SIG 1)) = some 0 ∧ s.berthOf 0 0 = some 2 ∧ s.consoleBerth 1 = true ∧ (s.berth 1).barred = false ∧
      (s.berth 2).cleared = true ∧ s.get (F.BERTH_STAT_STATE 1) = 1 ∧ s.on (F.BERTH_STAT_SEC_SYNC 2) = true)) ∧
    ((let s := berth 1 [(F.BERTH_STAT_STATE 1, 3), (F.BERTH_CFG_SIG 1, 1), (F.BERTH_CFG_EN 1, 1)] fun b => { b with dwell := some 0, kind := some .partner }; (s.berth 1).dwell = some 0 ∧ s.get (F.BERTH_STAT_STATE 1) = 3 ∧ (s.berth 1).kind.isSome = true)) ∧
    ((let s := ex (.berth 7) (up []); opens s (s.owner (.berth 7)) (.berth 7) true = true)) ∧
    ((let s := berth 3 [(F.BERTH_CFG_EN 3, 1), (F.BERTH_STAT_STATE 3, 4), (F.BERTH_LOCK_LOCK_THR 3, 20), (F.BERTH_CN0_CN0 3, 49), (F.BERTH_LOCK_LOSS_MS 3, 200)] fun b => { b with lowMs := 200 };
      s.get (F.BERTH_STAT_STATE 3) = 4 ∧ 2 * s.get (F.BERTH_CN0_CN0 3) < 5 * s.get (F.BERTH_LOCK_LOCK_THR 3) ∧ s.get (F.BERTH_LOCK_LOSS_MS 3) ≤ (s.berth 3).lowMs)) ∧
    (accepts State.reset .uart0 { query := true } = true ∧ (up [(F.BERTH_CFG_EN 0, 1)]).on (F.BERTH_CFG_EN 0) = true) ∧
    ((let s := ex (.berth 255) State.reset; accepts s .uart0 (berthCmd 255) = true ∧ (loopOk 120 (some (.bw 120)) && loopOk 80 (some .open_) && loopOk 255 none) = true ∧ loopOk 80 (some (.bw 81)) = false ∧ loopOk 255 (some (.bw 0)) = false)) := by
  refine ⟨?_, ?_, ?_, ?_, ?_, ?_, ?_, ?_, ?_, ?_, ?_, ?_, ?_, ?_⟩ <;> decide +kernel

/-- Each clause's hypotheses of BerthDumps are met. -/
theorem witness_BerthDumps :
    ((let s := berth 255 [(F.BERTH_CFG_EN 255, 1), (F.BERTH_STAT_STATE 255, 4), (F.FRONT_CFG_L1_EN, 1), (F.FRONT_CFG_SUB_EN, 1)] fun b => { b with seq := 65535, accs := List.replicate 12 0 }; s.on (F.BERTH_CFG_EN 255) = true ∧ s.get (F.BERTH_STAT_STATE 255) = 4 ∧
      s.bandRuns (Sig.band (s.get (F.BERTH_CFG_SIG 255))) = true ∧ (s.berth 255).next = none ∧ (s.berth 255).leaving = [] ∧ (s.berth 255).accs.length = 12)) ∧
    ((let s := State.reset; s.get (F.BERTH_STAT_STATE 0) = 0 ∧ s.on (F.BERTH_CFG_EN 0) = false)) ∧
    ((let s := berth 0 [(F.BERTH_CFG_BOC 0, 1), (F.BERTH_ARMS_VEVL 0, 32), (F.BERTH_STAT_STATE 0, 4), (F.BERTH_CFG_EN 0, 1)] fun b => { b with kind := some .handoff, sideSums := [6, 10, 6] };
      (s.berth 0).kind.isSome = true ∧ s.on (F.BERTH_CFG_BOC 0) = true ∧ s.on (F.BERTH_STAT_BOC_OK 0) = false ∧ (s.berth 0).move = none ∧ s.get (F.BERTH_ARMS_VEVL 0) = 32 ∧
      s.get (F.BERTH_STAT_STATE 0) = 4 ∧ (s.berth 0).sideSums = [6, 10, 6] ∧ 6 * 10 ≤ 6 * 10)) ∧
    ((let s := berth 0 [(F.BERTH_CFG_BOC 0, 1), (F.BERTH_ARMS_VEVL 0, 32), (F.BERTH_STAT_STATE 0, 4), (F.BERTH_CFG_EN 0, 1), (F.BERTH_STAT_SIDEJ 0, 3)] fun b => { b with kind := some .handoff, sideSums := [15, 10, 15] };
      s.get (F.BERTH_STAT_SIDEJ 0) < 4 ∧ 3 * 10 ≤ 2 * max 15 15 ∧ ¬(10 ≠ 0 ∧ 15 * 10 ≤ 6 * 10))) := by
  refine ⟨?_, ?_, ?_, ?_⟩ <;> decide +kernel

/-- Each clause's hypotheses of BurstsAndSillage are met. -/
theorem witness_BurstsAndSillage :
    ((let s := on [(F.GNSS_MODE_ACT_MODE, 3)]; s.bursts = true ∧ s.get F.PWR_PATH_ACT ≠ 2 ∧ s.expert .front = false)) ∧
    ((let s := on [(F.GNSS_MODE_ACT_MODE, 4), (F.PWR_PATH_ACT, 2), (F.HARV_STAT_BAND, 3)]; s.bursts = true ∧ s.get F.PWR_PATH_ACT = 2 ∧ s.get F.HARV_STAT_BAND < 4)) ∧
    (State.reset.bursts = false) ∧
    ((let s := gnss [(F.GNSS_MODE_ACT_MODE, 3), (F.CLK_STAT_XTALG, 2), (F.CLK_STAT_RFSYN, 2), (F.SILLAGE_NEXTS_SEC, 1)] fun g => { g with settling := true }; s.bursts = true ∧ s.gnss.settling = true ∧
      s.get F.CLK_STAT_XTALG = 2 ∧ s.get F.CLK_STAT_RFSYN = 2)) ∧
    ((let s := gnss [(F.GNSS_MODE_ACT_MODE, 3), (F.CLK_STAT_XTALG, 2), (F.CLK_STAT_RFSYN, 1)] fun g => { g with settling := true }; s.bursts = true ∧ s.gnss.settling = true ∧ s.get F.CLK_STAT_RFSYN ≠ 2)) ∧
    ((let s := berth 255 [(F.BERTH_CFG_EN 255, 1), (F.BERTH_STAT_STATE 255, 4), (F.GNSS_MODE_ACT_MODE, 1)] fun b => { b with kind := some .handoff, refused := 2 };
      (s.berth 255).kind.isSome = true ∧ (s.berth 255).cleared = false ∧ s.get (F.BERTH_STAT_STATE 255) = 4 ∧ s.on (F.BERTH_CFG_BOC 255) = false ∧ s.continuous = true ∧
      s.clearHeld 255 (List.replicate 300 ⟨500, 0, 0⟩) = true)) ∧
    ((let s := berth 0 [(F.GNSS_MODE_ACT_MODE, 6)] fun b => { b with cleared := true }; s.continuous = true ∧ (s.berth 0).cleared = true)) ∧
    ((let s := ex .sillage State.reset; opens s (s.owner .sillage) .sillage true = true ∧ s.predOf 255 = none)) ∧
    ((let p : Pred := { aPred 255 with carr := 0xFFFFFFFF, dop := -1 }; let s := (ex .sillage State.reset).withGnss fun g => { g with preds := [p] }; s.predOf 255 = some p)) ∧
    ((let s := State.reset.withGnss fun g => { g with front5 := { g.front5 with hot := 10, cool := 100 } }; s.on (F.FRONT_AGC_OVLD (bit true)) = false ∧ 10 ≤ (s.band (bit true)).hot ∧ 100 ≤ (s.band (bit true)).cool ∧ (State.reset.band (bit true)).hot < 10 ∧ (State.reset.band (bit true)).cool < 100)) ∧
    ((let s := on [(F.FRONT_NCFG_AUTO 0, 0), (F.FRONT_CFG_L1_EN, 1), (F.FRONT_NOTCH_STATE 0 2, 3), (F.FRONT_NOTCH_STATE 0 1, 2)]; s.rfOn false = true ∧ s.gnss.notches = [] ∧ s.on (F.FRONT_NCFG_AUTO (bit false)) = false)) ∧
    ((let bins := List.replicate 63 0 ++ [255]; let s := on [(F.FRONT_NCFG_AUTO 0, 1), (F.FRONT_CFG_L1_EN, 1), (F.FRONT_NCFG_DET 0, 20)]; s.rfOn false = true ∧ s.on (F.FRONT_NCFG_AUTO (bit false)) = true ∧
      (∀ j : Fin 4, s.get (F.FRONT_NOTCH_STATE (bit false) j) = 0) ∧ s.tonesOf (bit false) bins = [binCentre 0 63])) ∧
    ((let bins := List.replicate 64 0; let s := (on [(F.FRONT_NCFG_AUTO 0, 1), (F.FRONT_CFG_L1_EN, 1), (F.FRONT_NCFG_DET 0, 20), (F.FRONT_NOTCH_STATE 0 3, 1)]).putS (F.FRONT_NOTCH_CENTRE 0 3) (binCentre 0 63);
      (∀ j : Fin 4, s.get (F.FRONT_NOTCH_STATE (bit false) j) ≠ 3) ∧ s.tonesOf (bit false) bins = [] ∧ s.get (F.FRONT_NOTCH_STATE (bit false) 3) = 1 ∧ s.notchSettled (bit false) 3 bins = true ∧ 2 ≤ 200)) ∧
    ((let s := on [(F.FRONT_CFG_L5_EN, 0)]; s.rfOn true = false)) ∧
    ((let s := (on [(F.FRONT_NOTCH_STATE 1 3, 2)]).withGnss fun g => { g with front5 := { g.front5 with calm := [0, 0, 0, 1000] } }; s.get (F.FRONT_NOTCH_STATE (bit true) 3) = 2 ∧ s.bursts = false ∧ 1000 ≤ (s.band (bit true)).calm.getD 3 0)) := by
  refine ⟨?_, ?_, ?_, ?_, ?_, ?_, ?_, ?_, ?_, ?_, ?_, ?_, ?_, ?_, ?_⟩ <;> decide +kernel

/-- Each clause's hypotheses of EpochsFixesAndOutputs are met. -/
theorem witness_EpochsFixesAndOutputs :
    ((let s := on [(F.GNSS_MODE_ACT_MODE, 1)]; s.bursts = false ∧ s.continuous = true ∧ s.gnss.opened = false ∧ s.get F.CLK_STAT_XTALG ≠ 3)) ∧
    ((let s := (on [(F.GNSS_MODE_ACT_MODE, 3)]).withGnss fun g => { g with window := true }; s.bursts = true ∧ s.gnss.window = true ∧ s.gnss.opened = false)) ∧
    ((let s := State.reset.withGnss fun g => { g with opened := true, epoch := some 65535 }; s.gnss.opened = true ∧ s.gnss.epoch = some 65535)) ∧
    ((let s := State.reset; s.gnss.closed = none ∧ s.gnss.solving = false ∧ s.gnss.epoch = none)) ∧
    ((let s := State.reset.withGnss fun g => { g with solving := true, closed := some (5, 0) }; s.gnss.solving = true ∧ s.gnss.closed = some (5, 0))) ∧
    (accepts State.reset .uart0 { query := true, heritage := true } = true ∧ State.reset.gnss.fix = none ∧ State.reset.console.heritage = false ∧ Sig.band 0 ≠ 4) ∧
    ((let s := State.reset.withGnss fun g => { g with fix := some [1, 2] }; s.gnss.fix = some [1, 2] ∧ accepts s .uart0 { query := true, heritage := true } = true)) ∧
    (accepts (ex .gnss State.reset) .uart0 { query := true, expert := true, heritage := true } = true) ∧
    ((let s := { State.reset with console := { State.reset.console with heritage := true } }; accepts s .uart0 { query := true, heritage := true } = true ∧ s.console.heritage = true ∧ (∃ g : Fin 14, Sig.band g = 4))) ∧
    ((2 ^ State.reset.gnss.measq.2 - 1 < 2 ^ State.reset.gnss.measq.2) ∧ 0 < 2 ^ State.reset.gnss.bitlog.2 ∧ 2 ^ State.reset.gnss.measq.2 ≤ 4095) ∧
    ((let s := on [(F.MEASQ_BASE_ADDR, 0x2001000)]; s.gnss.opened = false ∧ s.gnss.solving = false ∧ (s.get F.MEASQ_BASE_ADDR, s.get F.MEASQ_CFG_SIZE) ≠ s.gnss.measq)) ∧
    ((let s := on [(F.BITLOG_BASE_ADDR, 0x2001000)]; s.gnss.opened = false ∧ s.gnss.solving = false ∧ (s.get F.BITLOG_BASE_ADDR, s.get F.BITLOG_CFG_SIZE) ≠ s.gnss.bitlog)) ∧
    (accepts State.reset .uart0 nmeaCmd = true ∧ 1 ≤ 60 ∧ 60 < 61) := by
  refine ⟨?_, ?_, ?_, ?_, ?_, ?_, ?_, ?_, ?_, ?_, ?_, ?_, ?_⟩ <;> decide +kernel

/-- Each clause's hypotheses of RegisterOperations are met. -/
theorem witness_RegisterOperations :
    (atWord State.reset .sys = true) ∧
    ((∃ op, IsRegisterOp op ∧ op.distance = 0)) ∧
    ((∃ op, IsRegisterOp op ∧ op.distance = 18)) ∧
    ((∃ op, IsRegisterOp op ∧ op.fn = .clz)) := by
  refine ⟨?_, ?_, ?_, ?_⟩
  · decide +kernel
  · exact ⟨_, List.mem_cons_self, rfl⟩
  · exact ⟨_, List.mem_of_getElem? (i := 23) rfl, rfl⟩
  · exact ⟨_, List.mem_of_getElem? (i := 16) rfl, rfl⟩

/-- Each clause's hypotheses of ImmediateOperations are met. -/
theorem witness_ImmediateOperations :
    (atWord State.reset .sys = true) ∧
    ((∃ p, IsImmediateOp .sys 31 0 0x4000 31 p)) := by
  refine ⟨?_, ?_⟩
  · decide +kernel
  · exact ⟨_, List.mem_cons_self⟩

/-- Each clause's hypotheses of ShortOperations are met. -/
theorem witness_ShortOperations :
    (atWord State.reset .sys = true) ∧
    ((∃ p, IsShortOp .sys .a 15 0 63 31 p ∧ p.2.2 = 3)) ∧
    ((∃ p, IsShortOp .sys .b 15 0 63 31 p ∧ p.2.2 = 0)) := by
  refine ⟨?_, ?_, ?_⟩
  · decide +kernel
  · exact ⟨_, List.mem_of_getElem? (i := 9) rfl, rfl⟩
  · exact ⟨_, List.mem_cons_self, rfl⟩

/-- Each clause's hypotheses of PairedSlotsReadTheSameState are met. -/
theorem witness_PairedSlotsReadTheSameState :
    (atWord State.reset .sys = true) ∧
    ((∃ t : State, exec (.shortMovi .sys .a 15 63) State.reset = .next t)) := by
  refine ⟨?_, ?_⟩
  · decide +kernel
  · exact ⟨_, rfl⟩

/-- Each clause's hypotheses of BranchesAndJumps are met. -/
theorem witness_BranchesAndJumps :
    (atWord (gen 31 0xFFFFFFFC) .sys = true ∧ ((gen 31 0xFFFFFFFC).core .sys).gen 31 = 0xFFFFFFFC) ∧
    ((((gen 31 0xFFFFFFFC).core .sys).gen 31 + (0x4004 : BitVec 15).signExtend 32).toNat % 4 = 0 ∧ (((gen 31 0xFFFFFFFC).core .sys).gen 31).toNat % 4 = 0) ∧
    ((((gen 15 4).core .sys).gen (15 : SReg)).toNat % 4 = 0) ∧
    ((((gen 15 5).core .sys).gen (15 : SReg)).toNat % 4 ≠ 0 ∧ (((gen 31 6).core .sys).gen 31).toNat % 4 ≠ 0 ∧ atWord (gen 31 6) .sys = true) ∧
    ((∃ p, IsBranchOp .sys 1 2 0x4000 p)) := by
  refine ⟨?_, ?_, ?_, ?_, ?_⟩
  · decide +kernel
  · decide +kernel
  · decide +kernel
  · decide +kernel
  · exact ⟨_, List.mem_cons_self⟩

/-- Each clause's hypotheses of DelaySlotLeadsToTarget are met. -/
theorem witness_DelaySlotLeadsToTarget :
    ((let s := core { State.reset.sys with delay := some 0 }; s.coreRuns .sys = true ∧ (s.core .sys).pair = none ∧ (s.core .sys).flight = [] ∧
      (s.core .sys).doze = false ∧ (s.core .sys).pc.toNat % 4 = 0 ∧ (s.core .sys).delay = some 0)) ∧
    ((∃ p, IsBranchOp .sys 1 2 0x4000 p)) := by
  refine ⟨?_, ?_⟩
  · decide +kernel
  · exact ⟨_, List.mem_cons_self⟩

/-- Each clause's hypotheses of LoadsAndStores are met. -/
theorem witness_LoadsAndStores :
    (atWord (gen 1 0x20000000) .sys = true ∧ ((.postInc 2 : AddrMode).updates = true → (2 : Reg) ≠ 1)) ∧
    ((let s := gen 1 0x20000000; let k := s.core .sys; ((.postInc 2 : AddrMode).address 4 (k.gen 1) (k.gen 0)).toNat % 4 = 0 ∧
      { (s.busRead .sys 0x20000000 4).st.core .sys with nmi := false } = { s.core .sys with nmi := false } ∧
      { (s.busWrite .sys 0x20000000 (leBytes 4 0)).st.core .sys with nmi := false } = { s.core .sys with nmi := false })) ∧
    ((∃ p, IsLoadOp .sys 2 1 (.postInc 2) p ∧ p.2.1 = 4)) ∧
    ((∃ p, IsStoreOp .sys 2 1 (.postInc 2) p ∧ p.2 = 4)) := by
  refine ⟨?_, ?_, ?_, ?_⟩
  · decide +kernel
  · decide +kernel
  · exact ⟨_, List.mem_of_getElem? (i := 4) rfl, rfl⟩
  · exact ⟨_, List.mem_of_getElem? (i := 2) rfl, rfl⟩

/-- Each clause's hypotheses of ShortLoadsAndStores are met. -/
theorem witness_ShortLoadsAndStores :
    ((let s := gen 1 0x20000000; atWord s .sys = true ∧ (2 : SReg) ≠ 1)) ∧
    ((let s := gen 1 0x20000000; let k := s.core .sys; let o := opened .sys s; (k.gen 1 + BitVec.ofNat 32 (4 * 3)).toNat % 4 = 0 ∧ (k.gen 1 - 4).toNat % 4 = 0 ∧
      { (o.busRead .sys 0x2000000C 4).st.core .sys with nmi := false } = { o.core .sys with nmi := false } ∧
      { (o.busWrite .sys 0x2000000C (leBytes 4 0)).st.core .sys with nmi := false } = { o.core .sys with nmi := false } ∧
      { (o.busWrite .sys 0x1FFFFFFC (leBytes 4 0)).st.core .sys with nmi := false } = { o.core .sys with nmi := false })) := by
  refine ⟨?_, ?_⟩ <;> decide +kernel

/-- Each clause's hypotheses of EntriesAndReturns are met. -/
theorem witness_EntriesAndReturns :
    (atWord State.reset .sys = true ∧ (1 : Reg) ≠ 0) ∧
    ((((gen 1 1).core .sys).gen 1 + (0x1000 : BitVec 13).signExtend 32).toNat % 4 ≠ 0 ∧ atWord (gen 1 1) .sys = true) ∧
    ({ (State.reset.busRead (fetcher .sys) 0x08000000 4).st.core .sys with nmi := false } = { State.reset.core .sys with nmi := false }) ∧
    ((let s := { core { State.reset.sys with s := [(0, 1)] } with manSys := { ManQueue.reset with reserve := [⟨0, 0, false, false, 0, 0, 0, 0, 0, 0⟩] } };
      atWord s .sys = true ∧ s.mne CoreId.sys.man = true ∧ (s.core .sys).nmiDue = false ∧ (s.core .sys).special 0 &&& 1 = 1)) ∧
    ((let s := core { State.reset.sys with nmi := true }; atWord s .sys = true ∧ (s.core .sys).nmi = true ∧ (s.core .sys).special 0 &&& 2 = 0)) ∧
    ((5 : Fin 16).val ≠ 6) := by
  refine ⟨?_, ?_, ?_, ?_, ?_, ?_⟩ <;> decide +kernel

/-- Each clause's hypotheses of ResultsLandAfterTheirWindow are met. -/
theorem witness_ResultsLandAfterTheirWindow :
    ((let s := core { State.reset.sys with flight := [⟨31, 7, 18, false⟩] }; s.coreRuns .sys = true ∧ (s.core .sys).pair = none ∧ (s.core .sys).doze = false ∧
      (s.core .sys).pc.toNat % 4 = 0 ∧ (s.core .sys).flight = [⟨31, 7, 18, false⟩])) ∧
    ((let e : InFlight := ⟨31, 7, 0, false⟩; let s := core { State.reset.sys with flight := [e] }; s.coreRuns .sys = true ∧ (s.core .sys).flight = [e] ∧ e.left = 0 ∧ e.dest < 32)) ∧
    ((let e : InFlight := ⟨32, 7, 0, false⟩; let s := core { State.reset.sys with flight := [e] }; s.coreRuns .sys = true ∧ (s.core .sys).flight = [e] ∧ e.left = 0 ∧ 32 ≤ e.dest)) := by
  refine ⟨?_, ?_, ?_⟩ <;> decide +kernel

/-- Each clause's hypotheses of TideTimeAndItsSources are met. -/
theorem witness_TideTimeAndItsSources :
    (accepts State.reset .uart0 { tideCmd with query := true } = true) ∧
    ((let s := State.reset; accepts s .uart0 tideCmd = true ∧ (-64 : Int).natAbs ≤ 64 ∧ 64 < (-65 : Int).natAbs)) ∧
    ((let s := ex .tide (on [(F.TIDE_CFG_LOOP_OPEN, 1)]); accepts s .uart0 { tideCmd with expert := true } = true ∧ s.on F.TIDE_CFG_LOOP_OPEN = true ∧ (-549755814 : Int).natAbs ≤ 549755814 ∧ 549755814 < (549755815 : Int).natAbs)) ∧
    ((let s := ex .tide State.reset; accepts s .uart0 { tideCmd with expert := true } = true ∧ s.on F.TIDE_CFG_LOOP_OPEN = false)) ∧
    ((let s := ex .tide (on [(F.TIDE_ADDF_FRAC, 5)]); opens s (s.owner .tide) .tide true = true)) ∧
    ((let s := State.reset.withTide fun t => { t with step := some (-5) }; s.tide.step = some (-5) ∧ s.receiverRests = true ∧ State.reset.tide.step = none ∧ (s.withGnss fun g => { g with solving := true }).receiverRests = false)) ∧
    ((let s := (on [(F.TIDE_STAT_STATE, 1)]).withTide fun u => { u with valid := 1 }; (s.withTide fun u => { u with valid := withBit u.valid (0 : Fin 3) false }).anyValid = false ∧ s.get F.TIDE_STAT_STATE = 1)) ∧
    ((let s := (on [(F.TIDE_LEAP_PEND, 1)]).putS F.TIDE_LEAP_NEXT 19; s.on F.TIDE_LEAP_PEND = true ∧ State.reset.on F.TIDE_LEAP_PEND = false)) ∧
    ((let s := up []; s.fastRuns = true ∧ s.tide.lastPps = none ∧ (s.withTide fun u => { u with carried := true }).fastRuns = false)) ∧
    ((let c := addTime (5 * 2 ^ 24) (((up []).tide.up : Int) - ((up []).tide.now : Int)); let s := (up []).withTide fun u => { u with lastPps := some c }; s.fastRuns = true ∧ s.tide.lastPps = some c)) ∧
    ((let s := State.reset.withTide fun u => { u with alignDue := true }; s.tide.alignDue = true ∧ State.reset.tide.alignDue = false)) ∧
    ((let s := on [(F.TP_CTRL_EN, 1)]; s.lost = true ∧ s.on F.TP_CTRL_EN = true ∧ s.tp.policy = false)) := by
  refine ⟨?_, ?_, ?_, ?_, ?_, ?_, ?_, ?_, ?_, ?_, ?_, ?_⟩ <;> decide +kernel

/-- Each clause's hypotheses of ExchangesAndPulses are met. -/
theorem witness_ExchangesAndPulses :
    ((let s := on [(F.OWNLVL_OWNER .uart1, 0)]; accepts s .uart0 ttCmd = true ∧ s.owner .uart1 = .console)) ∧
    ((let s := (on [(F.OWNLVL_OWNER .uart1, 1)]).withTt fun u => { u with open_ := some ⟨7, 100, none⟩ }; accepts s .uart0 ttCmd = true ∧ s.owner .uart1 ≠ .console)) ∧
    ((let s := on [(F.OWNLVL_OWNER .uart1, 0), (F.TIDE_TTCFG_EN, 1), (F.TIDE_TTCFG_PORT, 1)]; (s.on F.TIDE_TTCFG_EN && s.on F.TIDE_TTCFG_PORT && s.owner .uart1 == .console) = true ∧ accepts s .uart0 ttCmd = true ∧ s.tt.open_ = none)) ∧
    ((let s := (on [(F.TIDE_TTCFG_EN, 1), (F.TIDE_TTCFG_PORT, 0)]).withTt fun u => { u with open_ := some ⟨7, 100, none⟩ }; accepts s .uart0 ttCmd = true ∧ s.on F.TIDE_TTCFG_EN = true ∧ s.on F.TIDE_TTCFG_PORT = false ∧ s.tt.open_ = some ⟨7, 100, none⟩ ∧ s.ttLate 100 = false)) ∧
    ((let s := (on [(F.TIDE_TTCFG_EN, 1), (F.TIDE_TTCFG_PORT, 0)]).withTt fun u => { u with open_ := some ⟨7, 100, some ((90 : Nat), (110 : Nat))⟩ }; s.tt.open_ = some ⟨7, 100, some ((90 : Nat), (110 : Nat))⟩ ∧ s.ttLate 110 = false ∧ s.tt.delays = [] ∧
      (0 : Int) ≤ 100 - 90 + (120 - 110) ∧ roundDiv ((100 - 90 + (120 - 110)) * 4000000000) (2 ^ 33) ≤ (s.get F.TIDE_TTCFG_MAXDLY * 4 : Nat))) ∧
    ((let s := State.reset; accepts s .uart0 ttCmd = true ∧ s.on F.TIDE_TTCFG_EN = false ∧ accepts s .uart0 { ttCmd with query := true } = true ∧ s.tt.open_ = none)) ∧
    ((let s := State.reset; accepts s .uart0 tpCmd = true ∧ affords s (s.enablePulse true) = true ∧ s.tp.pulse = none ∧ ¬(4295 * 1000000 < 4294967296) ∧ 4294 * 1000000 < 4294967296)) ∧
    ((let s := State.reset.withTp fun p => { p with pulse := some 5 }; opens s (s.owner .tp) .tp false = true ∧ s.tp.pulse = some 5)) ∧
    ((let s := on [(F.TP_PERS_SEC, 0), (F.TP_PERF_FRAC, 4294)]; opens s (s.owner .tp) .tp false = true ∧ s.get F.TP_PERS_SEC = 0 ∧ 0 < s.get F.TP_PERF_FRAC ∧ s.get F.TP_PERF_FRAC < 4295 ∧ s.tp.period < 2 ^ 64 ∧ s.tp.pulse = none)) ∧
    ((let s := on [(F.TP_STAT_ON, 1)]; s.on F.TP_STAT_ON = true ∧ s.tp.pulse = none ∧ State.reset.on F.TP_STAT_ON = false)) := by
  refine ⟨?_, ?_, ?_, ?_, ?_, ?_, ?_, ?_, ?_, ?_⟩ <;> decide +kernel

/-- Each clause's hypotheses of ClockAndItsBackup are met. -/
theorem witness_ClockAndItsBackup :
    ((let s := (State.reset.withRtc fun r => { r with shiftPend := true }).putS F.RTC_SHIFT_COUNT (-3); s.rtc.setPend = false ∧ s.rtc.cal + 1 < Cal.span ∧ s.rtc.shiftPend = true)) ∧
    ((let s := State.reset.withRtc fun r => { r with cal := Cal.span - 1, bin := 2 ^ 40 - 1 }; s.rtc.setPend = false ∧ s.rtc.cal + 1 = Cal.span)) ∧
    ((let s := (on [(F.RTC_CTRL_MODE, 1), (F.RTC_SCAL1_DAY, 1), (F.RTC_SCAL1_MONTH, 1)]).setAtSecond; s.rtc.setPend = true ∧ s.on F.RTC_CTRL_MODE = true ∧ s.stagedDate = some ⟨2020, 1, 1, 0, 0, 0⟩)) ∧
    ((let s := (on [(F.RTC_CTRL_MODE, 1), (F.RTC_SCAL1_MONTH, 13)]).setAtSecond; s.rtc.setPend = true ∧ s.on F.RTC_CTRL_MODE = true ∧ s.stagedDate = none ∧ (on [(F.RTC_CTRL_MODE, 0)]).on F.RTC_CTRL_MODE = false)) ∧
    ((let s := State.reset; accepts s .uart0 rtcCmd = true ∧ s.on F.RTC_STAT_LOCKED = false ∧ s.rtcBusy = false ∧ s.rtc.setPend = false ∧ s.get F.GNSS_MODE_ACT_MODE ≠ 6 ∧ Cal.valid ⟨2024, 2, 29, 23, 59, 59⟩ = true ∧ Cal.valid ⟨2023, 2, 29, 0, 0, 0⟩ = false ∧
      32767 < (32768 : Int).natAbs ∧ (-32767 : Int).natAbs ≤ 32767)) ∧
    ((let s := on [(F.RTC_STAT_LOCKED, 1)]; accepts s .uart0 rtcCmd = true ∧ s.on F.RTC_STAT_LOCKED = true)) ∧
    (State.reset.setAtSecond.rtcBusy = true) ∧
    ((let s := on [(F.GNSS_MODE_ACT_MODE, 6)]; s.get F.GNSS_MODE_ACT_MODE = 6 ∧ accepts s .uart0 rtcCmd = true)) ∧
    ((let s := State.reset; s.on F.RTC_STAT_OSF = true ∧ s.on F.RTC_STAT_TSET = false ∧ accepts s .uart0 { rtcCmd with query := true } = true)) ∧
    ((let s := on [(F.RTC_STAT_TSET, 1)]; opens s (s.owner .rtc) .rtc false = true ∧ s.on F.RTC_STAT_LOCKED = false ∧ s.on F.RTC_STAT_TSET = true)) ∧
    ((State.reset.withRtc fun r => { r with shift := some 3 }).rtc.shift ≠ none ∧ State.reset.rtc.shift = none) ∧
    ((let s := on [(F.RTC_CTRL_DISC_EN, 1), (F.TIDE_STAT_STATE, 1), (F.RTC_STAT_OSF, 1)]; s.owner .rtc = .console ∧ s.on F.RTC_CTRL_DISC_EN = true ∧ s.get F.TIDE_STAT_STATE = 1 ∧ s.on F.RTC_STAT_LOCKED = false ∧ s.rtcBusy = false ∧ s.on F.RTC_STAT_OSF = true)) ∧
    ((let s0 := on [(F.RTC_CTRL_DISC_EN, 1), (F.TIDE_STAT_STATE, 1), (F.RTC_STAT_OSF, 0)]; let s := (s0.withTide fun u => { u with now := 1300000000 * tideOne }).withRtc fun r => { r with cal := 1300000000 - 630720000 - 18 }; s.owner .rtc = .console ∧ s.on F.RTC_STAT_OSF = false ∧ s.utcTicks - s.rtcTicks = 0)) := by
  refine ⟨?_, ?_, ?_, ?_, ?_, ?_, ?_, ?_, ?_, ?_, ?_, ?_, ?_⟩ <;> decide +kernel

/-- Each clause's hypotheses of OperatingPointPathAndDomains are met. -/
theorem witness_OperatingPointPathAndDomains :
    ((let s := State.reset; accepts s .uart0 pwrCmd = true ∧ s.on F.PWR_REG_MODE = false ∧ affords s (s.requestPoint 0) = true ∧ s.get F.PWR_POINT_ACT ≠ 0)) ∧
    ((let s := on [(F.PWR_REG_MODE, 1)]; accepts s .uart0 pwrCmd = true ∧ s.on F.PWR_REG_MODE = true)) ∧
    ((let s := on [(F.PWR_POINT_ACT, 0), (F.PWR_REG_ACT, 1)]; accepts s .uart0 pwrCmd = true ∧ s.on F.PWR_REG_MODE = false ∧ s.pointGranted 2 = false ∧ Side.console = s.owner .pwr)) ∧
    ((let s := on [(F.PWR_POINT_PEND, 1), (F.PWR_POINT_POINT, 2)]; s.on F.PWR_POINT_PEND = true ∧ State.reset.on F.PWR_POINT_PEND = false)) ∧
    ((let s := ex .pwr State.reset; Side.console = s.owner .pwr ∧ s.expert .pwr = true ∧ (0x5A00 : Word).toNat % 4 ≠ 3 ∧ (0x5A00 : Word).toNat % 4 ≠ s.get F.PWR_POINT_POINT ∧ s.pointGranted ((0x5A00 : Word).toNat % 4) = true ∧ bitsOf (0x5A00 : Word).toNat 8 8 ≤ 90)) ∧
    ((let s := State.reset; s.on F.PWR_REG_ACT = false ∧ s.on F.PWR_REG_MODE = false ∧ s.get F.PWR_POINT_ACT ≠ 0 ∧ accepts s .uart0 { pwrCmd with query := true } = true)) ∧
    ((let s := on [(F.PWR_POINT_ACT, 0), (F.CLK_ISL_ACT 0, 1), (F.CLK_ISL_ACT 1, 1), (F.CLK_ISL_ACT 2, 1), (F.PWR_DOMS_PG, 0x1002), (F.CLK_STAT_SYSPLL, 0)];
      accepts s .uart0 pwrCmd = true ∧ s.on F.PWR_REG_ACT = false ∧ s.on F.PWR_REG_MODE = false ∧ s.get F.PWR_POINT_ACT = 0 ∧ s.on F.PWR_POINT_PEND = false ∧ s.ldoGranted = true)) ∧
    ((let s := on [(F.PWR_POINT_ACT, 0), (F.PWR_DOMF_FORCE, 0x3FFF), (F.PWR_DOMS_PG, 0x3FFF), (F.GNSS_MODE_ACT_MODE, 1), (F.CLK_STAT_SYSPLL, 2), (F.CLK_STAT_XTALG, 2), (F.CLK_STAT_RFSYN, 2)];
      s.get F.PWR_POINT_ACT = 0 ∧ s.on F.PWR_POINT_PEND = false ∧ s.ldoGranted = false)) ∧
    ((let s := on [(F.PWR_REG_ACT, 1), (F.PWR_REG_MODE, 1)]; s.on F.PWR_REG_ACT = true ∧ s.on F.PWR_REG_MODE = true ∧ s.reserveRefuses s.toBuck = false)) ∧
    ((let s := ex .pwr State.reset; accepts s .uart0 { pwrCmd with expert := true } = true ∧
      affords s (({ s.put F.PWR_DOMF_FORCE (withBit (s.get F.PWR_DOMF_FORCE) (13 : Fin 14) true) with power := { s.power with offPend := withBit s.power.offPend (13 : Fin 14) false } }).needDomain 13) = true)) ∧
    ((let s := ex .pwr State.reset; affords s (s.put F.PWR_BIAS_BIAS (s.get F.PWR_BIAS_BIAS - bitsOf (s.get F.PWR_BIAS_BIAS) (2 * 13) 2 * 2 ^ (2 * 13) + 2 * 2 ^ (2 * 13))) = true)) ∧
    ((let s := ex .pwr State.reset; Side.console = s.owner .pwr ∧ s.expert .pwr = true ∧ ledgerGrants s (s.forceDomains ((0x2000 : BitVec 14).toNat ||| (s.get F.PWR_DOMF_FORCE &&& 0x1002))) = true)) ∧
    ((let s := State.reset; Side.console = s.owner .pwr ∧ s.expert .pwr = false ∧ (0x2000 : BitVec 14).toNat ||| (s.get F.PWR_DOMF_FORCE &&& 0x1002) ≠ s.get F.PWR_DOMF_FORCE)) ∧
    ((let s := on [(F.PWR_DOMS_PG, 0x3FFF)]; bitOf (s.get F.PWR_DOMF_FORCE) 10 = false ∧ s.ringHolds .app 10 = false ∧ s.ringHolds .sys 10 = false ∧ s.domainBusy 10 = false ∧ s.domainBusy 13 = true)) ∧
    ((on [(F.HARV_STAT_CONN, 1)]).on F.HARV_STAT_CONN = true ∧ (on [(F.HARV_STAT_CONN, 0)]).on F.HARV_STAT_CONN = false) ∧
    ((let s := on [(F.PWR_PATH_POLICY, 1), (F.PWR_PATH_STORE_OK, 1), (F.HARV_STAT_BAND, 5)]; s.on F.PWR_PATH_POLICY = true ∧ s.on F.PWR_PATH_STORE_OK = true ∧ s.get F.HARV_STAT_BAND = 5)) := by
  refine ⟨?_, ?_, ?_, ?_, ?_, ?_, ?_, ?_, ?_, ?_, ?_, ?_, ?_, ?_, ?_, ?_⟩ <;> decide +kernel

/-- Each clause's hypotheses of SleepWakeAndBrownOut are met. -/
theorem witness_SleepWakeAndBrownOut :
    ((let s := State.reset; accepts s .uart0 pwrCmd = true ∧ accepts s .uart0 { pwrCmd with query := true } = true ∧ s.maySleep = false)) ∧
    ((let s := { on [(F.PWR_SLEEP_DEPTH, 1)] with app := { State.reset.app with doze := true }, sys := { State.reset.sys with doze := true } }; s.maySleep = true ∧ min (s.get F.PWR_SLEEP_DEPTH) s.maxDepth = 1)) ∧
    ((let s := { on [(F.PWR_RETAIN_ITCM, 1), (F.PWR_RETAIN_DTCM, 1)] with power := { State.reset.power with depth := 2, latched := 1 } }; s.power.depth = 2 ∧ s.on F.PWR_RETAIN_ITCM = true ∧ s.on F.PWR_RETAIN_DTCM = true ∧ s.power.latched ≠ 0)) ∧
    ((let s := { State.reset with power := { State.reset.power with depth := 3, latched := 1 } }; s.power.depth ≠ 0 ∧ s.power.latched ≠ 0)) ∧
    ((let s := State.reset; BorCause.vsysLow ≠ .noSource ∧ s.power.bor = 0 ∧ s.get F.PWR_PATH_ACT ≠ 0 ∧ s.power.vbor = false)) ∧
    ((let s := { State.reset with power := { State.reset.power with bor := 1, borArmed := true } }; s.power.bor = 1 ∧ s.power.borArmed = true ∧ (2 : Nat) ≠ 1)) ∧
    ((let s := { State.reset with power := { State.reset.power with bor := 2 } }; s.power.bor = 2)) ∧
    ((let s := { State.reset with power := { State.reset.power with vbor := true } }; s.power.vbor = true)) := by
  refine ⟨?_, ?_, ?_, ?_, ?_, ?_, ?_, ?_⟩ <;> decide +kernel

/-- Each clause's hypotheses of HarvesterGuardsTheStore are met. -/
theorem witness_HarvesterGuardsTheStore :
    ((let s := State.reset; accepts s .uart0 { harvCmd with query := true } = true ∧ accepts s .uart0 harvCmd = true ∧ (127 : Nat) < 128)) ∧
    ((let s := on [(F.HARV_MPPT_MODE, 0), (F.HARV_PROT_CHG_EN, 1), (F.HARV_MPPT_FRAC, 100)]; s.on F.HARV_MPPT_MODE = false ∧ (on [(F.HARV_MPPT_MODE, 1)]).on F.HARV_MPPT_MODE = true)) ∧
    ((let s := on [(F.HARV_STAT_CONN, 1), (F.HARV_STAT_BAND, 3)]; s.on F.HARV_STAT_CONN = ((5 : Fin 6).val != 0) ∧ s.on F.HARV_STAT_CONN ≠ ((0 : Fin 6).val != 0) ∧ ((3 : Fin 6) : Nat) = s.get F.HARV_STAT_BAND)) ∧
    ((let s := { on [(F.HARV_STAT_CONN, 1), (F.HARV_STAT_BAND, 3), (F.PWR_PATH_STORE_OK, 1)] with harv := { State.reset.harv with trips := 2 } }; s.on F.HARV_STAT_CONN = true ∧ 3 ≤ s.harv.trips + 1)) ∧
    ((let s := { on [(F.HARV_STAT_CONN, 0)] with harv := { State.reset.harv with off := 3 } }; bitOf s.harv.off 1 = true ∧ s.on F.HARV_STAT_LATCH = false ∧ withBit s.harv.off 0 false ≠ 0)) ∧
    ((let s := { on [(F.HARV_STAT_LATCH, 1), (F.HARV_STAT_CONN, 0)] with harv := { State.reset.harv with off := 2, trips := 3 } }; Side.console = s.owner .harv ∧ s.on F.HARV_STAT_LATCH = true ∧ State.reset.on F.HARV_STAT_LATCH = false)) ∧
    ((let s := State.reset; s.on F.HARV_STAT_TBLK = false ∧ (0 : Int) ≤ 0 ∧ (450 : Int) ≤ 450 ∧ (-1 : Int) < 0 ∧ (450 : Int) < 451)) ∧
    ((let s := on [(F.HARV_STAT_TBLK, 1)]; s.on F.HARV_STAT_TBLK = true ∧ (30 : Int) < 31 ∧ (419 : Int) < 420)) ∧
    ((let s := { State.reset with harv := { State.reset.harv with cold := true } }; State.reset.harv.cold = false ∧ s.harv.cold = true)) := by
  refine ⟨?_, ?_, ?_, ?_, ?_, ?_, ?_, ?_, ?_⟩ <;> decide +kernel

/-- Each clause's hypotheses of PermitsAreAskedAndGranted are met. -/
theorem witness_PermitsAreAskedAndGranted :
    ((let s := on [(F.HARV_PCFG_EN, 1), (F.HARV_PCFG_SRC, 0)]; s.on F.HARV_PCFG_EN = true ∧ s.on F.HARV_PCFG_SRC = false ∧ s.on F.HARV_PSTAT_REQ = false ∧
      ((7 : Fin 8).val + 1) * 100 ≤ 770 + 30 ∧ 830 ≤ ((7 : Fin 8).val + 1) * 100 + 30 ∧ pulseClass 831 = none ∧ pulseClass 69 = none)) ∧
    ((let s := on [(F.HARV_PCFG_EN, 1), (F.HARV_PCFG_SRC, 1)]; s.on F.HARV_PCFG_EN = true ∧ s.on F.HARV_PCFG_SRC = true ∧ (7 : Byte).toNat < 8 ∧ 8 ≤ (8 : Byte).toNat)) ∧
    ((let s := { on [(F.HARV_PCFG_EN, 1), (F.HARV_CLS_E 7, 1), (F.HARV_CELL_K, 100), (F.HARV_STAT_BAND, 5)] with harv := { State.reset.harv with cls := some 7, ready := true } };
      s.harv.cls = some 7 ∧ s.on F.HARV_PCFG_EN = true ∧ s.harv.ready = true ∧ s.on F.HARV_PSTAT_REQ = false ∧ s.get (F.HARV_CLS_E 7) * 10 ≤ s.get F.HARV_CELL_K * 4 * 900 ∧
      s.grantable (s.get (F.HARV_CLS_E 7) * 10) (640 : BitVec 10).toNat = false ∧ s.grantable (s.get (F.HARV_CLS_E 7) * 10) (1000 : BitVec 10).toNat = true)) ∧
    ((let s := { on [(F.HARV_PCFG_EN, 1), (F.HARV_CLS_E 7, 1000), (F.HARV_CELL_K, 1)] with harv := { State.reset.harv with cls := some 7, ready := true } }; s.harv.cls = some 7 ∧ s.on F.HARV_PCFG_EN = true ∧ s.harv.ready = true ∧
      s.get F.HARV_CELL_K * 4 * (if s.on F.HARV_PROT_OVP then 1000 else 900) < s.get (F.HARV_CLS_E 7) * 10)) ∧
    ((let s := on [(F.HARV_PSTAT_GNT, 1), (F.HARV_PSTAT_REQ, 1)]; s.on F.HARV_PSTAT_GNT = true ∧ s.on F.HARV_PSTAT_WAIT = false)) ∧
    ((let s := { on [(F.HARV_PSTAT_WAIT, 1), (F.HARV_PSTAT_REQ, 1), (F.HARV_CELL_K, 100)] with harv := { State.reset.harv with grantE := 10 } }; s.on F.HARV_PSTAT_WAIT = true)) := by
  refine ⟨?_, ?_, ?_, ?_, ?_, ?_⟩ <;> decide +kernel

/-- Each clause's hypotheses of ClocksStartSwitchFailAndReturn are met. -/
theorem witness_ClocksStartSwitchFailAndReturn :
    (accepts State.reset .uart0 { clkCmd with query := true } = true) ∧
    ((let s := ex .clk State.reset; accepts s .uart0 { clkCmd with expert := true } = true ∧ Side.console = s.owner .clk ∧ s.expert .clk = true ∧ s.sourceError 0 5 = some 120 ∧ s.sourceError 0 0 = none ∧ affords s (s.requestSource 0 0) = true ∧
      ledgerGrants s (s.requestSource 0 0) = true ∧ ((0 : Fin 8) : Nat) ≠ s.get (F.CLK_ISL_SEL 0))) ∧
    ((let s := State.reset; Side.console = s.owner .clk ∧ s.expert .clk = false ∧ ((0 : Fin 8) : Nat) ≠ s.get (F.CLK_ISL_SEL 15))) ∧
    ((let s := on [(F.CLK_ISL_PEND 15, 1), (F.CLK_ISL_SEL 15, 0), (F.CLK_STAT_HFO, 2)]; s.on (F.CLK_ISL_PEND 15) = true ∧ s.get (stateOfCode (s.get (F.CLK_ISL_SEL 15))) = 2)) ∧
    ((let s := on [(F.CLK_ISL_PEND 15, 1), (F.CLK_ISL_SEL 15, 4), (F.CLK_STAT_SYSPLL, 1)]; s.get (stateOfCode (s.get (F.CLK_ISL_SEL 15))) ≠ 2 ∧ (on [(F.CLK_ISL_PEND 15, 0)]).on (F.CLK_ISL_PEND 15) = false)) ∧
    (gateFixed (13 : Fin 16) .slp = true ∧ gateFixed (12 : Fin 16) .slp = false ∧ gateFixed (0 : Fin 16) .run = false ∧ (0 : BitVec 16) = 0 ∧ (65535 : BitVec 16) ≠ 0) ∧
    ((let s := on [(F.CLK_STAT_XTALG, 1)]; s.get (stateOfCode ClockSource.xtalG.code) = 1 ∧ (on [(F.CLK_STAT_XTALG, 2)]).get (stateOfCode ClockSource.xtalG.code) = 2 ∧ ClockSource.xtalG ≠ .fll)) ∧
    ((let s := { on [(F.CLK_STAT_XTALG, 3)] with clk := { State.reset.clk with retried := 2 ^ ClockSource.xtalG.code } }; s.get (stateOfCode ClockSource.xtalG.code) = 3 ∧ bitOf s.clk.retried ClockSource.xtalG.code = true)) ∧
    ((let s := on [(F.CLK_CFG_FLL_EN, 1), (F.CLK_STAT_HFO, 2), (F.CLK_STAT_XTALL, 2), (F.CLK_HFO_TRIM, 1023)]; s.fllMay = true ∧ (on [(F.CLK_STAT_XTALL, 1)]).fllMay = false ∧ 125025 < 2 * (62513 : BitVec 24).toNat ∧ 2 * (62512 : BitVec 24).toNat ≤ 125025 ∧ 2 * (62487 : BitVec 24).toNat + 25 < 125000)) ∧
    ((let s := on [(F.CLK_MON_EN 2, 1), (F.CLK_STAT_HFO, 2), (F.CLK_STAT_XTALL, 2), (F.CLK_MON_WINDOW 2, 1), (F.CLK_MON_TOL 2, 10)]; s.on (F.CLK_MON_EN 2) = true ∧ s.get (stateOfCode (monitorOf 2).1) = 2 ∧ s.get (stateOfCode (monitorOf 2).2.1) = 2 ∧
      (1953 : BitVec 24) ≠ 0 ∧ (max (1953 : BitVec 24).toNat (1 * 64000000 / 32768) - min (1953 : BitVec 24).toNat (1 * 64000000 / 32768)) * 1000 ≤ s.get (F.CLK_MON_TOL 2) * (1 * 64000000 / 32768))) ∧
    ((let s := on [(F.CLK_STAT_XTALG, 2), (F.CLK_STAT_XTALL, 3)]; s.get F.CLK_STAT_XTALG ≠ 3 ∧ s.get F.CLK_STAT_XTALG ≠ 0 ∧ s.get F.CLK_STAT_XTALL = 3 ∧ (on [(F.CLK_STAT_XTALG, 0)]).get F.CLK_STAT_XTALG = 0)) ∧
    (State.reset.expert .clk = false ∧ State.reset.power.depth = 0 ∧ (ex .clk State.reset).expert .clk = true) ∧
    ((let s := ex .clk (on [(F.CLK_STAT_XTALL, 3)]); Side.console = s.owner .clk ∧ s.expert .clk = true ∧ s.get F.CLK_STAT_XTALL = 3)) ∧
    ((let s := on [(F.CLK_STAT_HFO, 2), (F.CLK_STAT_XTALG, 2)]; s.get F.CLK_STAT_HFO = 2 ∧ s.get F.CLK_STAT_XTALG = 2 ∧ s.deriveGates.on F.CLK_CFG_PLL_REF = s.deriveGates.on F.CLK_CFG_PLL_REF)) := by
  refine ⟨?_, ?_, ?_, ?_, ?_, ?_, ?_, ?_, ?_, ?_, ?_, ?_, ?_, ?_⟩ <;> decide +kernel

/-- Each clause's hypotheses of ResetsRestartWhatTheyName are met. -/
theorem witness_ResetsRestartWhatTheyName :
    (Master.appData.core = true ∧ (Master.dma 0).core = false) ∧
    ((let s := on [(F.SYSCTL_WDTA_EN, 1)]; State.reset.on F.SYSCTL_WDTA_EN = false ∧ s.on F.SYSCTL_WDTA_EN = true ∧ s.power.depth = 0)) ∧
    ((let s := State.reset; accepts s .uart0 { sysCmd with query := true } = true ∧ accepts s .uart0 { sysGroup := true, heritage := true } = true)) := by
  refine ⟨?_, ?_, ?_⟩ <;> decide +kernel

/-- Each clause's hypotheses of LifecycleMovesAndImagesLoad are met. -/
theorem witness_LifecycleMovesAndImagesLoad :
    ((let s := State.reset; accepts s .uart0 lifeCmd = true ∧ transition s.life.fuses.state LifeState.blank.code = false)) ∧
    ((let s := State.reset; ∃ g ∈ [LifeState.test, .returned, .scrapped], transition s.life.fuses.state g.code = true ∧ (none : Option Nat) ≠ some s.life.code ∧ (BitVec.ofNat 16 s.life.code).toNat = s.life.code ∧ s.life.load = none ∧
      s.transitionError s.life.fuses.state g.code = none)) ∧
    ((let s := { State.reset with life := { State.reset.life with load := some ⟨.uart0, 4100, 4097⟩ } }; s.life.load = some ⟨.uart0, 4100, 4097⟩ ∧ 4097 + 1 ≠ 4100 ∧ (4097 + 1) % 4096 ≠ 0 ∧ 4099 + 1 = 4100)) ∧
    ((let s := State.reset; accepts s .uart0 lifeCmd = true ∧ s.life.next = false ∧ s.life.load = none ∧ Sess.uart0 = (if false then .i2c else .uart0) ∧ s.incomplete s.inactive = none ∧ 4099 < 4100 ∧ 2097152 < 2097153)) ∧
    ((let s := { State.reset with life := { State.reset.life with next := true } }; s.life.next = true)) ∧
    ((let s := { State.reset with life := { State.reset.life with progress := [(State.reset.inactive, 4100, 7)] } }; accepts s .uart0 lifeCmd = true ∧ s.life.load = none ∧ (s.incomplete s.inactive).isSome = true)) ∧
    ((let s := State.reset; accepts s .uart0 { lifeCmd with query := true } = true)) := by
  refine ⟨?_, ?_, ?_, ?_, ?_, ?_, ?_⟩ <;> decide +kernel

/-- Each clause's hypotheses of StoresChangeOnlyTheirBytes are met. -/
theorem witness_StoresChangeOnlyTheirBytes :
    ((let s := { (gen 1 0x20000000).put F.PWR_DOMS_PG 0x3FFF with mems := { State.reset.mems with bad := 0 } }; atWord s .sys = true ∧ ((AddrMode.postInc 2).updates = true → (2 : Reg) ≠ 1) ∧
      let a := ((AddrMode.postInc 2).address 4 ((s.core .sys).gen (1 : Reg)) ((s.core .sys).gen (AddrMode.postInc 2).indexReg)).toNat;
      a % 4 = 0 ∧ 0x20000000 ≤ a ∧ a < 0x20180000 ∧ s.powered (2 + (a - 0x20000000) / 0x80000) = true ∧ s.runs = [] ∧ s.verdict (a / 16) = .clean)) ∧
    ((∃ p, IsStoreOp .sys 2 1 (.postInc 2) p ∧ p.2 = 4)) ∧
    ((let s := { (gen 1 0x2017FFFF).put F.PWR_DOMS_PG 0x3FFF with mems := { State.reset.mems with bad := 0 } }; 0x2017FFFF < 0x20180000 ∧ s.powered (2 + (0x2017FFFF - 0x20000000) / 0x80000) = true ∧ s.verdict (0x2017FFFF / 16) = .clean)) := by
  refine ⟨?_, ?_, ?_⟩
  · decide +kernel
  · exact ⟨_, List.mem_of_getElem? (i := 2) rfl, rfl⟩
  · decide +kernel

/-- Each clause's hypotheses of SecureBankIsTheSystemsAlone are met. -/
theorem witness_SecureBankIsTheSystemsAlone :
    (State.reset.on (F.MAN_CFG_EN 0) = false ∧ State.reset.on (F.MAN_CFG_EN 1) = false ∧ 0x29007FFF < 0x29008000 ∧ Master.appData ≠ Master.sys ∧ 0x08000000 < 0x08400000) ∧
    ((let s := { up [] with power := { State.reset.power with appHeld := false }, app := { State.reset.app with pc := 0x08000000, g := Store.set (fun _ => 0) State.reset.app.g 1 0x29007FFC } }; atWord s .app = true ∧ (2 : Reg) ≠ 0 ∧
      ((s.core .app).gen (1 : Reg) + (0 : BitVec 13).signExtend 32).toNat = 0x29007FFC)) := by
  refine ⟨?_, ?_⟩ <;> decide +kernel

/-- Each clause's hypotheses of ChecksWipesAndTheDredger are met. -/
theorem witness_ChecksWipesAndTheDredger :
    ((let s := { State.reset with wbacks := [5] }; State.reset.wbacks.contains 5 = false ∧ s.wbacks.contains 5 = true ∧ ({ State.reset with mems := { State.reset.mems with bad := 0 } }).verdict 5 = .clean)) ∧
    ((let s := up [(F.MEMCTL_DCFG_EN, 1)]; (on [(F.MEMCTL_DCFG_EN, 0)]).on F.MEMCTL_DCFG_EN = false ∧ s.on F.MEMCTL_DCFG_EN = true ∧ s.power.depth < 2 ∧ ((nextBlock s.dredged s.mems.dpos).or (nextBlock s.dredged 0)).isSome = true)) ∧
    ((let s := on [(F.MEMCTL_WIPE_BUSY, 1)]; State.reset.on F.MEMCTL_WIPE_BUSY = false ∧ s.on F.MEMCTL_WIPE_BUSY = true)) := by
  refine ⟨?_, ?_, ?_⟩ <;> decide +kernel

/-- Each clause's hypotheses of LogsReadProtectAndProgram are met. -/
theorem witness_LogsReadProtectAndProgram :
    ((let s := State.reset; accepts s .uart0 { logCmd with query := true } = true ∧ accepts s .uart0 logCmd = true ∧ 64 < 65 ∧ 131056 + 16 ≤ 131072 ∧ 131072 < 131057 + 16)) ∧
    ((let s := ex .logs State.reset; accepts s .uart0 { logCmd with expert := true } = true ∧ s.protects 959 = false ∧ s.on F.LOGS_STAT_BUSY = false ∧ s.on F.LOGS_STAT_RECOV = false ∧ s.get F.PWR_PATH_ACT ≠ 2 ∧ s.logs.queue = [])) ∧
    ((let s := ex .logs (on [(F.LOGS_STAT_BUSY, 1)]); accepts s .uart0 { logCmd with expert := true } = true ∧ s.protects 959 = false ∧ s.on F.LOGS_STAT_BUSY = true ∧ (withLogs fun g => { g with bp := 3 }).protects 959 = true)) ∧
    ((let s := on [(F.LOGS_STAT_QUEUED, 1)]; Side.console = s.owner .logs ∧ s.on F.LOGS_STAT_QUEUED = true ∧ State.reset.on F.LOGS_STAT_QUEUED = false)) ∧
    (State.reset.get F.LOGS_ADDR_PAGE < 960 ∧ State.reset.protects (State.reset.get F.LOGS_ADDR_PAGE) = false) ∧
    ((let s := withLogs fun g => { g with queue := [.erase] }; s.logs.queue = .erase :: [] ∧ s.on F.LOGS_STAT_BUSY = false ∧ s.on F.LOGS_STAT_RECOV = false)) ∧
    (State.reset.logs.op = none) ∧
    ((let s := withLogs fun g => { g with op := some (logRun .prog) }; s.logs.op = some (logRun .prog) ∧ (logRun .prog).req ≠ .erase ∧ (logRun .prog).bytes.length = 128 ∧ (logRun .prog).page < 960)) ∧
    ((let s := withLogs fun g => { g with op := some (logRun .erase) }; s.logs.op = some (logRun .erase) ∧ (logRun .erase).req = .erase)) ∧
    ((let s := { State.reset with power := { State.reset.power with bor := 2 } }; State.reset.power.bor ≠ 2 ∧ s.power.bor = 2)) := by
  refine ⟨?_, ?_, ?_, ?_, ?_, ?_, ?_, ?_, ?_, ?_⟩ <;> decide +kernel

/-- Each clause's hypotheses of ManifestsQueueMaskAndHand are met. -/
theorem witness_ManifestsQueueMaskAndHand :
    ((let s := on [(F.MAN_MASK_MASK 0 0, 2), (F.MAN_MASK_MASK 1 0, 2)]; (∃ n : Fin 192, Src.reserved n = true) ∧ Src.reserved (1 : Fin 192) = false ∧ s.power.depth < 2 ∧ s.masked .app 1 = true ∧ s.masked .sys 1 = true)) ∧
    ((let s := { State.reset with power := { State.reset.power with depth := 2 } }; 2 ≤ s.power.depth)) ∧
    (Side.console ≠ State.reset.owner Man.app.block ∧ State.reset.owner Man.sys.block = .console ∧ State.reset.manSys.head = none) ∧
    ((let r : Rec := ⟨0, 0, false, false, 0, 0, 0, 0, 0, 0⟩; let s := { State.reset with manApp := { ManQueue.reset with reserve := [r] } }; s.owner Man.app.block = .app ∧ (s.man .app).head = some r ∧ (s.man .app).held ≠ [] ∧ State.reset.manApp.held = [])) ∧
    (State.reset.get F.SYSCTL_RCAUSE_STATE ≠ 1 ∧ State.reset.owner Man.app.block = .app) ∧
    ((let s := on [(F.SYSCTL_RCAUSE_STATE, 1)]; s.get F.SYSCTL_RCAUSE_STATE = 1 ∧ s.owner Man.app.block = .app)) ∧
    (Src.SYSCTL_SW0 ≤ (191 : Word).toNat % 256 ∧ (191 : Word).toNat % 256 < 192 ∧ 192 ≤ (192 : Word).toNat % 256) ∧
    ((let s := on [(F.MAN_CFG_EN 0, 1), (F.MAN_CFG_SIZE 0, 4)]; s.owner Man.app.block = .app ∧ s.on (F.MAN_CFG_EN Man.app.ix) = true ∧ (0xC0 : Word).toNat % 2 = 0 ∧ (0xC1 : Word).toNat % 2 = 1 ∧ bitsOf (0xC1 : Word).toNat 4 4 ≠ s.get (F.MAN_CFG_SIZE Man.app.ix) ∧ bitsOf (0xC1 : Word).toNat 4 4 = 12)) ∧
    ((let s := on [(F.MAN_BASE_ADDR 0, 0x2000000)]; s.owner Man.app.block = .app ∧ s.on (F.MAN_CFG_EN Man.app.ix) = false ∧ (0x41 : Word).toNat % 2 = 1 ∧ bitsOf (0x41 : Word).toNat 4 4 = 4 ∧
      ringInSram (s.get (F.MAN_BASE_ADDR Man.app.ix) * 16) (bitsOf (0x41 : Word).toNat 4 4) = true)) := by
  refine ⟨?_, ?_, ?_, ?_, ?_, ?_, ?_, ?_, ?_⟩ <;> decide +kernel

/-- Each clause's hypotheses of EventsReachTheirConsumers are met. -/
theorem witness_EventsReachTheirConsumers :
    ((∀ c, c < 48 → State.reset.pairOn 3 c = false)) ∧
    ((on [(F.EVR_TICK_EN, 1)]).on F.EVR_TICK_EN = true ∧ (on [(F.EVR_TICK_EN, 0)]).on F.EVR_TICK_EN = false) := by
  refine ⟨?_, ?_⟩ <;> decide +kernel

/-- Each clause's hypotheses of LighterOperations are met. -/
theorem witness_LighterOperations :
    ((∀ op : Fin 12, let s := lgt 1 (op.val * 2 ^ 27) []; s.powered 9 = true ∧ s.lgtState (0 : Fin 8) = 1 ∧ lgtOp (s.lgtWord (0 : Fin 8)) = op ∧ lgtIllegal (s.lgtWord (0 : Fin 8)) = false)) ∧
    ((let s := lgt 1 (2 ^ 27 + 2 ^ 25) []; s.on (F.LGT_CFG_AUTODRAIN (0 : Fin 8)) = false ∧ s.on (F.LGT_CFG_AUTOFILL (0 : Fin 8)) = false ∧ s.lgtDrives (0 : Fin 8) 3 = false ∧ bitsOf (s.lgtWord (0 : Fin 8)) 25 2 = 1)) ∧
    ((let s := (lgt 1 (2 * 2 ^ 27) []).setEngine 0 { Engine.reset with tx := [7] }; AtLighterOp 0 2 s ∧ bitOf (s.lgtWord (0 : Fin 8)) 0 = false ∧ (s.engine (0 : Fin 8)).tx = 7 :: [])) ∧
    (((lgt 1 (2 * 2 ^ 27) []).engine (0 : Fin 8)).tx = []) ∧
    ((let s := (lgt 1 (3 * 2 ^ 27 + 2) []).setEngine 0 { Engine.reset with rx := [0, 1, 2, 3, 4, 5, 6] }; AtLighterOp 0 3 s ∧ bitOf (s.lgtWord (0 : Fin 8)) 0 = false ∧ bitOf (s.lgtWord (0 : Fin 8)) 1 = true ∧ (s.engine (0 : Fin 8)).rx.length < 8)) ∧
    ((let s := (lgt 1 (3 * 2 ^ 27) []).setEngine 0 { Engine.reset with rx := [0, 1, 2, 3, 4, 5, 6, 7] }; AtLighterOp 0 3 s ∧ 8 ≤ (s.engine (0 : Fin 8)).rx.length)) ∧
    ((let s := (lgt 1 (3 * 2 ^ 27 + 2) [(F.LGT_SH_SH 0, 5)]).setEngine 0 { Engine.reset with rx := [0, 1, 2, 3, 4, 5, 6] }; (s.engine (0 : Fin 8)).rx.length < 8)) ∧
    ((let w := 5 * 2 ^ 27; let s := lgt 1 w []; s.lgtAwaited (0 : Fin 8) (s.lgtWord (0 : Fin 8)) = false ∨ s.lgtAwaited (0 : Fin 8) (s.lgtWord (0 : Fin 8)) = true)) ∧
    ((let s := (lgt 1 (5 * 2 ^ 27 + 2 * 2 ^ 25) []); let t := s.setEngine 0 { Engine.reset with latch := true }; AtLighterOp 0 5 s ∧ AtLighterOp 0 5 t ∧ s.lgtAwaited (0 : Fin 8) (s.lgtWord (0 : Fin 8)) = false ∧
      t.lgtAwaited (0 : Fin 8) (t.lgtWord (0 : Fin 8)) = true)) ∧
    ((let s := (lgt 2 (5 * 2 ^ 27 + 2 * 2 ^ 25 + 2 ^ 23) []).setEngine 0 { Engine.reset with latch := true }; s.lgtWaits (0 : Fin 8) = true ∧ s.lgtAwaited (0 : Fin 8) (s.lgtWord (0 : Fin 8)) = true ∧ bitOf (s.lgtWord (0 : Fin 8)) 23 = true)) ∧
    ((let s := lgt 1 (10 * 2 ^ 27 + 2 * 2 ^ 24 + 3 * 2 ^ 21) []; AtLighterOp 0 10 s ∧ bitsOf (s.lgtWord (0 : Fin 8)) 21 3 ≠ 0 ∧ bitsOf (s.lgtWord (0 : Fin 8)) 24 3 = 2)) ∧
    ((let s := lgt 1 (12 * 2 ^ 27) []; s.powered 9 = true ∧ s.lgtState (0 : Fin 8) = 1 ∧ lgtIllegal (s.lgtWord (0 : Fin 8)) = true)) ∧
    ((let s := lgt 3 0 [(F.LGT_STAT_WHY 0, 1)]; s.lgtState (0 : Fin 8) = 3 ∧ s.on (F.LGT_STAT_WHY (0 : Fin 8)) = true ∧ (s.engine (0 : Fin 8)).rx.length < 8)) ∧
    (8 ≤ (((lgt 3 0 [(F.LGT_STAT_WHY 0, 1)]).setEngine 0 { Engine.reset with rx := [0, 1, 2, 3, 4, 5, 6, 7] }).engine (0 : Fin 8)).rx.length) := by
  refine ⟨?_, ?_, ?_, ?_, ?_, ?_, ?_, ?_, ?_, ?_, ?_, ?_, ?_, ?_⟩
  · decide +kernel
  · decide +kernel
  · unfold AtLighterOp; decide +kernel
  · decide +kernel
  · unfold AtLighterOp; decide +kernel
  · unfold AtLighterOp; decide +kernel
  · decide +kernel
  · decide +kernel
  · unfold AtLighterOp; decide +kernel
  · decide +kernel
  · unfold AtLighterOp; decide +kernel
  · decide +kernel
  · decide +kernel
  · decide +kernel

/-- Each clause's hypotheses of LightersAreLoadedRunAndFed are met. -/
theorem witness_LightersAreLoadedRunAndFed :
    (accepts (up []) .uart0 { block := some .lgt, query := true } = true) ∧
    ((let s := ex .lgt (lgt 0 0 []); accepts s .uart0 lgtCmd = true ∧ s.powered 9 = true ∧ s.lgtRuns (0 : Fin 8) = false ∧ s.lgtState (0 : Fin 8) = 0 ∧ affords s (s.lgtTo 0 1) = true ∧ 256 ≤ 256 ∧ 2 ^ 24 - 1 < 2 ^ 24)) ∧
    ((let s := ex .lgt (lgt 1 0 []); accepts s .uart0 lgtCmd = true ∧ s.powered 9 = true ∧ s.lgtRuns (0 : Fin 8) = true ∧ s.lgtState (0 : Fin 8) ≠ 0)) ∧
    ((let s := ex .lgt (lgt 0 0 []); opens s .console .lgt false = true ∧ opens s .console .lgt true = true ∧ s.lgtRuns (0 : Fin 8) = false ∧ s.lgtState (0 : Fin 8) = 0 ∧ s.expert .lgt = true ∧ ledgerGrants s (s.lgtTo 0 1) = true)) ∧
    ((let s := ex .lgt (lgt 1 0 []); opens s .console .lgt true = true ∧ s.lgtRuns (0 : Fin 8) = true)) ∧
    (((lgt 1 0 []).engine (0 : Fin 8)).tx.length < 8 ∧ ((lgt 1 0 []).engine (0 : Fin 8)).rx = []) ∧
    ((let s := (lgt 1 0 []).setEngine 0 ⟨[0, 1, 2, 3, 4, 5, 6, 7], [9], false⟩; 8 ≤ (s.engine (0 : Fin 8)).tx.length ∧ (s.engine (0 : Fin 8)).rx = 9 :: [])) := by
  refine ⟨?_, ?_, ?_, ?_, ?_, ?_, ?_⟩ <;> decide +kernel

/-- Each clause's hypotheses of UartsReceiveSendAndStamp are met. -/
theorem witness_UartsReceiveSendAndStamp :
    ((let s := State.reset; s.on (F.UART_CFG_EN (1 : Fin 3)) = false)) ∧
    ((let s := (up [(F.UART_CFG_EN 1, 1)]).modUart 1 fun v => { v with high := true }; s.on (F.UART_CFG_EN (1 : Fin 3)) = true ∧ s.powered 8 = true ∧ s.consolePort (1 : Fin 3) = false ∧ (s.uart (1 : Fin 3)).rx.length < 16 ∧ (s.uart (1 : Fin 3)).tx = [] ∧
      s.on (F.UART_CFG_SYNC (1 : Fin 3)) = false ∧ s.frameForm (1 : Fin 3) = ⟨8, 0, 1⟩ ∧ (s.uart (1 : Fin 3)).high = true)) ∧
    ((let s := (up [(F.UART_CFG_EN 1, 1), (F.UART_CFG_SYNC 1, 1)]).modUart 1 fun v => { v with high := false }; s.on (F.UART_CFG_SYNC (1 : Fin 3)) = true ∧ s.frameForm (1 : Fin 3) = ⟨8, 0, 1⟩)) ∧
    ((let s := (up [(F.UART_CFG_EN 1, 1), (F.UART_CFG_SYNC 1, 1)]).modUart 1 fun v => { v with rx := List.replicate 16 7, tx := [65] }; s.consolePort (1 : Fin 3) = false ∧ 16 ≤ (s.uart (1 : Fin 3)).rx.length ∧ (s.uart (1 : Fin 3)).tx = 65 :: [])) ∧
    ((let s := up [(F.UART_CFG_EN 0, 1)]; s.on (F.UART_CFG_EN 0) = true ∧ s.powered 8 = true)) ∧
    ((let s := on [(F.UART_STAT_LINE_FAULT 2, 1), (F.UART_STAT_BRK 2, 1)]; s.on (F.UART_STAT_LINE_FAULT (2 : Fin 3)) = true ∧ State.reset.power.depth = 0)) ∧
    ((let s := { on [(F.PWR_WAKEEN_EN, 2 ^ 6)] with power := { State.reset.power with depth := 1 } }; s.power.depth ≠ 0 ∧ s.on (F.UART_STAT_LINE_FAULT (2 : Fin 3)) = false ∧ bitOf (s.get F.PWR_WAKEEN_EN) (4 + (2 : Fin 3)) = true)) ∧
    ((let s := up [(F.UART_CFG_RXDMA 1, 1), (F.UART_TIMING_RXTO 1, 1)]; (1 : Fin 3) ≠ 0 ∧ s.powered 8 = true ∧ s.on (F.UART_CFG_RXDMA (1 : Fin 3)) = true ∧ s.get (F.UART_TIMING_RXTO (1 : Fin 3)) ≠ 0 ∧ (∀ k : Fin 8, s.on (F.DMA_CFG_EN k) = false) ∧ (s.uart (1 : Fin 3)).rx = [])) ∧
    ((let s := up []; s.powered 8 = true ∧ (s.uart (1 : Fin 3)).rx = [] ∧ opens s .app (uartBlock (1 : Fin 3)) false = true ∧ (s.uart (1 : Fin 3)).tx.length < 16)) ∧
    ((let s := (up []).modUart 1 fun v => { v with rx := [7], tx := List.replicate 16 65, rxFrac := 3, txFrac := 4 }; s.powered 8 = true ∧ (s.uart (1 : Fin 3)).rx = 7 :: [] ∧ 16 ≤ (s.uart (1 : Fin 3)).tx.length ∧ opens s .app (uartBlock (1 : Fin 3)) false = true)) ∧
    ((let s := (up [(F.UART_CFG_EN 1, 1)]).modUart 1 fun v => { v with pend := [(0x40004000, 5)] }; s.uartQuiet 1 = true ∧ ((up []).modUart 1 fun v => { v with tx := [65] }).uartQuiet 1 = ((up []).modUart 1 fun v => { v with tx := [65] }).uartQuiet 1)) := by
  refine ⟨?_, ?_, ?_, ?_, ?_, ?_, ?_, ?_, ?_, ?_, ?_⟩ <;> decide +kernel

/-- Each clause's hypotheses of TargetServesAndSpiExchanges are met. -/
theorem witness_TargetServesAndSpiExchanges :
    ((let s := on [(F.I2CT_ADDR_A1, 0x22), (F.I2CT_ADDR_A1_EN, 1)]; s.i2cServes (0x7F : BitVec 7).toNat = none ∧ s.i2cServes (0x22 : BitVec 7).toNat = some (.fifo, 0) ∧ s.power.depth = 0)) ∧
    ((let s := { State.reset with i2ct := { State.reset.i2ct with serve := some .fifo } }; s.on F.I2CT_STAT_RW = false ∧ s.i2ct.serve = some .fifo ∧ s.i2ct.rx.length < 8 ∧ s.i2ct.serve.isSome = true)) ∧
    ((let s := { State.reset with i2ct := { State.reset.i2ct with serve := some .fifo, rx := List.replicate 8 7 } }; s.on F.I2CT_STAT_RW = false ∧ s.i2ct.serve = some .fifo ∧ 8 ≤ s.i2ct.rx.length)) ∧
    ((let s := { on [(F.I2CT_STAT_RW, 1)] with i2ct := { State.reset.i2ct with serve := some .fifo, tx := [7] } }; s.on F.I2CT_STAT_RW = true ∧ s.i2ct.serve = some .fifo ∧ s.i2ct.tx = 7 :: [])) ∧
    ((let s := { up [] with i2ct := { State.reset.i2ct with rx := [7] } }; opens s .app .i2ct false = true ∧ s.i2ct.rx = 7 :: [] ∧ (up []).i2ct.rx = [] ∧ s.i2ct.tx.length < 8)) ∧
    ((let s := up [(F.SPI_CFG_HOST 1, 1), (F.SPI_CFG_EN 1, 1), (F.SPI_CTRL_COUNT 1, 3)]; opens s .app (spiBlock (1 : Fin 2)) false = true ∧ s.on (F.SPI_CFG_HOST (1 : Fin 2)) = true ∧ s.on (F.SPI_CFG_EN (1 : Fin 2)) = true ∧ s.on (F.SPI_STAT_BUSY (1 : Fin 2)) = false)) ∧
    ((let s := up [(F.SPI_CFG_HOST 1, 1), (F.SPI_CFG_EN 1, 1), (F.SPI_STAT_BUSY 1, 1)]; opens s .app (spiBlock (1 : Fin 2)) false = true ∧ s.on (F.SPI_CFG_HOST (1 : Fin 2)) = true ∧ s.on (F.SPI_STAT_BUSY (1 : Fin 2)) = true ∧ s.spiStalls (1 : Fin 2) = true)) ∧
    ((let s := (up [(F.SPI_CFG_HOST 1, 1), (F.SPI_CFG_EN 1, 1), (F.SPI_STAT_BUSY 1, 1)]).setSpi 1 { Spi.reset with tx := [7], left := 2 }; opens s .app (spiBlock (1 : Fin 2)) false = true ∧ s.on (F.SPI_CFG_EN (1 : Fin 2)) = true ∧ s.powered 8 = true ∧
      s.on (F.SPI_CFG_HOST (1 : Fin 2)) = true ∧ s.on (F.SPI_STAT_BUSY (1 : Fin 2)) = true ∧ s.spiStalls (1 : Fin 2) = false ∧ (s.spi (1 : Fin 2)).tx = 7 :: [] ∧ (s.spi (1 : Fin 2)).rx.length < 8 ∧
      1 < (s.spi (1 : Fin 2)).left ∧ (s.spi (1 : Fin 2)).abort = false)) ∧
    ((let s := up [(F.SPI_CFG_EN 1, 1), (F.SPI_CFG_HOST 1, 0)]; s.on (F.SPI_CFG_EN (1 : Fin 2)) = true ∧ s.powered 8 = true ∧ s.on (F.SPI_CFG_HOST (1 : Fin 2)) = false ∧ s.on (F.SPI_STAT_BUSY (1 : Fin 2)) = false ∧
      (s.spi (1 : Fin 2)).tx = [] ∧ (s.spi (1 : Fin 2)).rx = [])) ∧
    ((let s := (up [(F.SPI_CFG_EN 1, 1), (F.SPI_CFG_HOST 1, 0)]).setSpi 1 { Spi.reset with rx := List.replicate 8 7 }; opens s .app (spiBlock (1 : Fin 2)) false = true ∧ s.on (F.SPI_CFG_HOST (1 : Fin 2)) = false ∧ 8 ≤ (s.spi (1 : Fin 2)).rx.length)) := by
  refine ⟨?_, ?_, ?_, ?_, ?_, ?_, ?_, ?_, ?_, ?_⟩ <;> decide +kernel

/-- Each clause's hypotheses of DmaMovesUnitByUnit are met. -/
theorem witness_DmaMovesUnitByUnit :
    ((let s := up [(F.DMA_CNT_CNT 7, 3)]; opens s .app .dma false = true ∧ s.on (F.DMA_CFG_EN (7 : Fin 8)) = false)) ∧
    ((let s := up [(F.DMA_CFG_EN 7, 1)]; opens s .app .dma false = true ∧ s.on (F.DMA_CFG_EN (7 : Fin 8)) = true ∧ (on [(F.PWR_DOMS_PG, 0)]).powered 8 = false)) ∧
    ((let s := (up [(F.DMA_CFG_EN 7, 1), (F.DMA_CFG_SIZE 7, 2)]).setDma 7 ⟨0x20000000, 0x20000010, 2, 0, false⟩; s.powered 8 = true ∧ s.on (F.DMA_CFG_EN (7 : Fin 8)) = true ∧ s.requested (7 : Fin 8) = true ∧
      let t := { s with mems := { s.mems with bad := 0 } }; let r := t.busRead (.dma 7) (0x20000000 / 4 * 4) 4; let w := r.st.busWrite (.dma 7) (0x20000010 / 4 * 4) r.bytes;
      (t.dmaCh (7 : Fin 8)).src = 0x20000000 ∧ t.unitBytes (7 : Fin 8) = 4 ∧ t.requested (7 : Fin 8) = true ∧ r.err = false ∧ r.ue = false ∧ w.err = false ∧ w.st.on (F.DMA_CFG_EN (7 : Fin 8)) = true ∧
      (t.dmaCh (7 : Fin 8)).moved + 1 < (t.dmaCh (7 : Fin 8)).cnt)) := by
  refine ⟨?_, ?_, ?_⟩ <;> decide +kernel

/-- Each clause's hypotheses of ConverterRunsAndFillsItsFifo are met. -/
theorem witness_ConverterRunsAndFillsItsFifo :
    ((let s := ex .adc (up []); accepts s .uart0 adcCmd = true ∧ s.powered 10 = true ∧ affords s (s.put F.ADC_CFG_MODE 3) = true ∧ accepts s .uart0 { adcCmd with query := true } = true ∧
      affords s (refSettled s ((s.flag F.ADC_REF_SEL true).flag F.ADC_REF_EN true)) = true)) ∧
    ((let s := ex .adc (up [(F.ADC_STAT_BUSY, 1)]); accepts s .uart0 { adcCmd with query := true } = true ∧ s.on F.ADC_STAT_BUSY = true ∧ opens s .console .adc false = true)) ∧
    ((let s := ex .adc (up [(F.ADC_CFG_MODE, 3), (F.ADC_CFG_LEN, 2)]); accepts s .uart0 { adcCmd with query := true } = true ∧ s.powered 10 = true ∧ s.on F.ADC_STAT_BUSY = false ∧ s.get F.ADC_CFG_MODE ≠ 0 ∧ opens s .console .adc false = true ∧ s.get F.ADC_CFG_MODE = 3)) ∧
    ((let s := up [(F.ADC_CFG_MODE, 1)]; opens s .app .adc false = true ∧ s.get F.ADC_CFG_MODE ≠ 0 ∧ s.adcChannels.any (24 ≤ ·) = false ∧ State.reset.adc.run = none)) ∧
    ((let r : AdcRun := ⟨1, false, false, 1, [3]⟩; let s := { up [(F.ADC_STAT_READY, 1), (F.ADC_CORR_EN, 1)] with adc := { State.reset.adc with run := some r } }; s.adc.run = some r ∧ s.adc.read = none ∧ r.pack = false ∧
      s.on F.ADC_STAT_READY = true ∧ s.on F.ADC_WINCFG_EN = false ∧ s.adc.fifo.length < 16 ∧ s.on F.ADC_CORR_EN = true ∧ r.mode ≠ 3)) ∧
    ((let s := { up [] with adc := { State.reset.adc with fifo := [7] } }; s.powered 10 = true ∧ Side.console ≠ s.owner .adc ∧ Side.app = s.owner .adc ∧ s.adc.fifo = 7 :: [])) ∧
    ((up [(F.ADC_REF_EN, 1)]).on F.ADC_REF_EN = true ∧ (up [(F.ADC_REF_EN, 0)]).on F.ADC_REF_EN = false ∧ (up [(F.ADC_CORR_EN, 0)]).on F.ADC_CORR_EN = false) := by
  refine ⟨?_, ?_, ?_, ?_, ?_, ?_, ?_⟩ <;> decide +kernel

/-- Each clause's hypotheses of TouchScansTestsAndSenses are met. -/
theorem witness_TouchScansTestsAndSenses :
    ((let s := ex .touch (up []); accepts s .uart0 touchCmd = true ∧ s.powered 10 = true ∧ affords s (s.put F.TOUCH_CFG_MODE 3) = true ∧ s.on F.TOUCH_STAT_TESTING = false ∧ s.touch.test = none ∧ s.on F.TOUCH_STAT_BUSY = false ∧ opens s .console .touch false = true)) ∧
    ((let s := ex .touch (up [(F.TOUCH_STAT_TESTING, 1)]); accepts s .uart0 touchCmd = true ∧ s.on F.TOUCH_STAT_TESTING = true)) ∧
    ((let s := ex .touch (up [(F.TOUCH_STAT_BUSY, 1)]); accepts s .uart0 touchCmd = true ∧ s.on F.TOUCH_STAT_TESTING = false ∧ s.touch.test = none ∧ s.on F.TOUCH_STAT_BUSY = true ∧ opens s .console .touch false = true)) ∧
    ((let s := up [(F.TOUCH_CFG_MODE, 2)]; s.powered 10 = true ∧ s.on F.TOUCH_STAT_BUSY = false ∧ s.on F.TOUCH_STAT_TESTING = false ∧ s.get F.TOUCH_CFG_MODE = 2 ∧ (up [(F.TOUCH_CFG_MODE, 3)]).get F.TOUCH_CFG_MODE = 3)) ∧
    ((let c := (up [(F.TOUCH_CFG_MODE, 2)]).scanSet; let s := { up [] with touch := { State.reset.touch with scan := some c, segs := [0] } }; s.touch.scan = some c ∧ s.touch.segs = 0 :: [])) ∧
    ((let c := (up [(F.TOUCH_CFG_MODE, 2)]).scanSet; let s := { up [] with touch := { State.reset.touch with scan := some c, segs := [] } }; s.touch.scan = some c ∧ s.touch.segs = [] ∧ State.reset.touch.scan = none)) ∧
    ((on [(F.LIFE_STATE_STATE, 2)]).get F.LIFE_STATE_STATE ≤ 2 ∧ 2 < State.reset.get F.LIFE_STATE_STATE) ∧
    ((let s := on [(F.TOUCH_STAT_NOREF, 1), (F.TOUCH_STAT_TESTING, 1)]; s.on F.TOUCH_STAT_NOREF = true ∧ s.on F.TOUCH_STAT_TESTING = true)) ∧
    (State.reset.proxRuns = false ∧ (on [(F.TOUCH_CFG_MODE, 3)]).proxRuns = true ∧ State.reset.touch.proxBase = false) ∧
    ((let s := { on [(F.TOUCH_CFG_MODE, 3), (F.TOUCH_PROXRAW_BASE, 5), (F.TOUCH_PROX_THR, 7)] with touch := { State.reset.touch with proxBase := true, proxHits := 1 } }; s.proxRuns = true ∧ s.touch.proxBase = true ∧
      s.on F.TOUCH_PROX_DET = false ∧ 1 ≤ s.touch.proxHits ∧ s.get F.TOUCH_PROXRAW_BASE + s.get F.TOUCH_PROX_THR ≤ (12 : BitVec 16).toNat)) := by
  refine ⟨?_, ?_, ?_, ?_, ?_, ?_, ?_, ?_, ?_, ?_⟩ <;> decide +kernel

/-- Each clause's hypotheses of SignaturesAreQueuedMadeAndReported are met. -/
theorem witness_SignaturesAreQueuedMadeAndReported :
    ((let s := State.reset; accepts s .uart0 { query := true, sysGroup := true, scrapOk := true, heritage := true } = true ∧ accepts s .uart0 { signCmd with query := true } = true ∧ s.crypto.mirror = none)) ∧
    ((let s := up []; accepts s .uart0 signCmd = true ∧ s.crypto.queue.length < 4 ∧ affords s (s.put F.CRYPTO_KEY_BUSY 1) = true ∧ s.powered 11 = true ∧ s.crypto.mirror = none ∧ s.crypto.queue = [] ∧ (List.replicate 32 (0 : Byte)).length ≤ 32)) ∧
    ((let s := { up [] with crypto := { State.reset.crypto with queue := List.replicate 4 ⟨.auto, 0, [], none⟩ } }; accepts s .uart0 signCmd = true ∧ 4 ≤ s.crypto.queue.length ∧ affords s (s.put F.CRYPTO_KEY_BUSY 1) = true)) ∧
    ((let s := { up [] with crypto := { State.reset.crypto with mirror := some (7, []) } }; accepts s .uart0 signCmd = true ∧ s.crypto.mirror = some (7, []) ∧ s.get F.PWR_PATH_ACT ≠ 2 ∧ s.crypto.queue.length < 4)) ∧
    ((let s := { up [(F.CRYPTO_KEY_READY, 1)] with crypto := { State.reset.crypto with queue := [⟨.attest .uart0 "A" [1], 0, [], none⟩], sseq := 2 ^ 32 - 1 } }; s.crypto.queue = ⟨.attest .uart0 "A" [1], 0, [], none⟩ :: [] ∧
      s.crypto.run = none ∧ s.crypto.deriving_ = false ∧ s.on F.MEMCTL_WIPE_BUSY = false ∧ s.powered 11 = true ∧ s.on F.CRYPTO_KEY_READY = true ∧ ledgerGrants s (s.put F.CRYPTO_KEY_BUSY 1) = true)) ∧
    ((let r : SignReq := ⟨.auto, 0, [], some 1⟩; let s := { up [] with crypto := { State.reset.crypto with run := some r } }; s.crypto.run = some r ∧ s.crypto.run.isSome = true)) ∧
    ((let s := { State.reset with crypto := { State.reset.crypto with deriving_ := true } }; State.reset.crypto.deriving_ = false ∧ s.crypto.deriving_ = true)) ∧
    ((let s := on [(F.GNSS_OSNMA_EN, 1)]; (on [(F.GNSS_OSNMA_EN, 0)]).osnmaOn = false ∧ s.osnmaOn = true ∧ s.timeKnown = false)) ∧
    ((let s := (on [(F.GNSS_OSNMA_EN, 1), (F.TIDE_STAT_STATE, 1)]).withTide fun t => { t with err := 0, disc := true }; s.osnmaOn = true ∧ s.timeKnown = true ∧ s.on F.GNSS_OSNMA_KEY_P521 = false)) := by
  refine ⟨?_, ?_, ?_, ?_, ?_, ?_, ?_, ?_, ?_⟩ <;> decide +kernel

/-- Each clause's hypotheses of TestAccessAndRecovery are met. -/
theorem witness_TestAccessAndRecovery :
    ((let s := { State.reset with pads := { State.reset.pads with seen := some 5 } }; State.reset.pads.seen = none ∧ s.pads.seen = some 5)) ∧
    ((let s := on [(F.LIFE_STATE_STATE, 4)]; State.reset.debugOpen = false ∧ s.debugOpen = true)) ∧
    ((let s := on [(F.LOGS_STAT_RECOV, 1)]; s.on F.LOGS_STAT_RECOV = true ∧ s.on F.LOGS_STAT_BUSY = false ∧ State.reset.on F.LOGS_STAT_RECOV = false)) := by
  refine ⟨?_, ?_, ?_⟩ <;> decide +kernel

/-- Each clause's hypotheses of PadsChangeAndWake are met. -/
theorem witness_PadsChangeAndWake :
    ((let s := { on [(F.PWR_STAT_IO2_OK, 1), (F.GPIO_PIN_WAKE 47, 1), (F.PWR_WAKEEN_EN, 8)] with power := { State.reset.power with depth := 1 } }; State.reset.power.depth = 0 ∧ s.power.depth ≠ 0 ∧ s.pads.seen = none ∧ s.bankOn (47 : Fin 48) = true ∧
      edgeTaken (s.get (F.GPIO_PIN_WAKE (47 : Fin 48))) true = true ∧ bitOf (s.get F.PWR_WAKEEN_EN) 3 = true)) ∧
    ((let s := on [(F.GPIO_ECH_EDGE 5, 0)]; ∀ k : Fin 16, s.get (F.GPIO_ECH_PIN k) ≠ (47 : Fin 48).val ∨ edgeTaken (s.get (F.GPIO_ECH_EDGE k)) true = false)) ∧
    ((let s := on [(F.PWR_STAT_IO2_OK, 1), (F.GPIO_ECH_PIN 15, 47), (F.GPIO_ECH_EDGE 15, 3)]; s.pads.seen = none ∧ s.bankOn (47 : Fin 48) = true ∧
      ∀ j : Fin 16, (s.get (F.GPIO_ECH_PIN j) = (47 : Fin 48).val ∧ edgeTaken (s.get (F.GPIO_ECH_EDGE j)) true = true) ↔ j = 15)) ∧
    ((let s := State.reset; s.owner .gpio = .app)) := by
  refine ⟨?_, ?_, ?_, ?_⟩ <;> decide +kernel

/-- Each clause's hypotheses of EveryBlockIsBasicAfterEveryReset are met. -/
theorem witness_EveryBlockIsBasicAfterEveryReset :
    (({ State.reset with harv := { State.reset.harv with cold := true } }).harv.cold = true ∧ ({ State.reset with power := { State.reset.power with vbor := true } }).power.vbor = true) ∧
    ((on [(F.SYSCTL_WDTA_EN, 1)]).on F.SYSCTL_WDTA_EN = true ∧ State.reset.power.depth = 0 ∧ Master.sys.core = true) ∧
    (accepts State.reset .uart0 { sysGroup := true, heritage := true } = true) ∧
    ((let s := State.reset; accepts s .uart0 lifeCmd = true ∧ ∃ g ∈ [LifeState.test, .returned, .scrapped], transition s.life.fuses.state g.code = true ∧ s.life.code = (BitVec.ofNat 16 s.life.code).toNat ∧
      s.life.load = none ∧ s.transitionError s.life.fuses.state g.code = none)) ∧
    ((on [(F.LIFE_STATE_STATE, 1)]).debugOpen = true) := by
  refine ⟨?_, ?_, ?_, ?_, ?_⟩ <;> decide +kernel

/-- Each clause's hypotheses of BaseUpdatesAreNeverTheTarget are met. -/
theorem witness_BaseUpdatesAreNeverTheTarget :
    (atWord (gen 31 7) .sys = true ∧ (AddrMode.postInc 2).updates = true ∧ (31 : Reg) = 31) ∧
    (((AddrMode.postInc 2).address 4 (((gen 31 7).core .sys).gen (31 : Reg)) (((gen 31 7).core .sys).gen (AddrMode.postInc 2).indexReg)).toNat % 4 ≠ 0 ∧ (30 : Reg) ≠ 31) ∧
    ((∃ p, IsLoadOp .sys 30 31 (.postInc 2) p ∧ p.2.1 = 4)) ∧
    ((∃ p, IsStoreOp .sys 31 31 (.postInc 2) p ∧ p.2 = 4)) := by
  refine ⟨?_, ?_, ?_, ?_⟩
  · decide +kernel
  · decide +kernel
  · exact ⟨_, List.mem_of_getElem? (i := 4) rfl, rfl⟩
  · exact ⟨_, List.mem_of_getElem? (i := 2) rfl, rfl⟩

/-- Each clause's hypotheses of StalledLightersKeepTheirPlace are met. -/
theorem witness_StalledLightersKeepTheirPlace :
    ((let s := lgt 3 0 [(F.LGT_STAT_WHY 0, 1)]; s.lgtState (0 : Fin 8) = 3 ∧ s.powered 9 = true ∧ (s.engine (0 : Fin 8)).rx.length < 8)) ∧
    ((let s := (lgt 3 0 [(F.LGT_STAT_WHY 0, 0)]).setEngine 0 { Engine.reset with tx := [7] }; s.lgtState (0 : Fin 8) = 3 ∧ s.on (F.LGT_STAT_WHY (0 : Fin 8)) = false ∧ (s.engine (0 : Fin 8)).tx ≠ [])) := by
  refine ⟨?_, ?_⟩ <;> decide +kernel

/-- Each clause's hypotheses of InternalChannelsOnlyInEconomy are met. -/
theorem witness_InternalChannelsOnlyInEconomy :
    ((let s := up [(F.ADC_CFG_MODE, 2), (F.ADC_SEQ_CH 3, 24)]; opens s .app .adc false = true ∧ s.on F.ADC_STAT_BUSY = false ∧ s.get F.ADC_CFG_MODE = 2 ∧ s.adcChannels.any (24 ≤ ·) = true ∧ s.adc.run = none)) ∧
    ((let s := up [(F.ADC_CFG_MODE, 3), (F.ADC_CFG_LEN, 1), (F.ADC_SEQ_CH 0, 27)]; match execAdcStart .app s with | .next t => t.adc.run.isSome | _ => false) = true) := by
  refine ⟨?_, ?_⟩ <;> decide +kernel

/-- Each clause's hypotheses of LedgerLimitByRegulator are met. -/
theorem witness_LedgerLimitByRegulator :
    (accepts State.reset .uart0 { pwrCmd with query := true } = true ∧ State.reset.on F.PWR_REG_ACT = false) ∧
    ((let s := on [(F.PWR_REG_ACT, 1)]; accepts s .uart0 { pwrCmd with query := true } = true ∧ s.on F.PWR_REG_ACT = true)) ∧
    (State.reset.ledgerSum < ((up []).put F.ADC_CFG_MODE 3).ledgerSum) := by
  refine ⟨?_, ?_, ?_⟩ <;> decide +kernel

end Sys2Proof.Tests
end

namespace Sys2Proof.Machine

/-! The LEVEL bit of OWNLVL: its address, its reset value, and the operations that leave it alone. -/

/-- No block is in EXPERT (R44). -/
def State.EveryBlockBasic (s : State) : Prop := ∀ b : Block, s.expert b = false

/-- The OWNLVL address of a block lies in the window of that block (R33, R43). -/
theorem blockAt_ownlvl (b : Block) : blockAt (b.base + 4) = some (b, 4) := by
  cases b with
  | berth n =>
    have hlo : (0x50010000 + n.val * 0x100 + 4 - 0x50010000) / 0x100 = n.val := by omega
    have hofs : (0x50010000 + n.val * 0x100 + 4) % 0x100 = 4 := by omega
    unfold blockAt
    rw [dif_pos (by simp only [Block.base]; omega)]
    simp only [Block.base, hlo, hofs]
  | _ => rfl

theorem F.OWNLVL_LEVEL_key (b : Block) :
    (F.OWNLVL_LEVEL b).key / 32 = b.base + 4 ∧ (F.OWNLVL_LEVEL b).key % 32 = 1 := by
  simp only [Fld.key, F.OWNLVL_LEVEL]
  omega

/-- LEVEL resets to BASIC (R33). -/
theorem resetOf_level (b : Block) : resetOf (F.OWNLVL_LEVEL b).key = 0 := by
  obtain ⟨hdiv, hmod⟩ := F.OWNLVL_LEVEL_key b
  simp [resetOf, hdiv, hmod, blockAt_ownlvl]

/-- Dropping registers can only take a block out of EXPERT: a dropped LEVEL reads BASIC. -/
theorem State.expert_filter (s : State) (p : Nat → Bool) (b : Block) :
    ({ s with regs := s.regs.filter fun c => p c.1 } : State).expert b =
      if p (F.OWNLVL_LEVEL b).key then s.expert b else false := by
  have hget := Store.get_filter resetOf s.regs p (F.OWNLVL_LEVEL b).key
  simp only [State.expert, State.on, State.get, hget, resetOf_level]
  split <;> rfl

theorem State.reset_everyBlockBasic : State.reset.EveryBlockBasic := fun b =>
  congrArg (fun v : Nat => v != 0) (resetOf_level b)

/-- An operation whose frame leaves OWNLVL out keeps every block in BASIC. -/
theorem Frame.everyBlockBasic {e : List Part} {s t : State} (h : Frame e s t) (hn : Part.sub [.rOwn] e = false)
    (hs : s.EveryBlockBasic) : t.EveryBlockBasic := fun b =>
  (congrArg (fun v : Nat => v != 0) (h.get F.OWNLVL_LEVEL_part hn)).trans (hs b)

/-! Deriving every block in BASIC (R44, R403), and the boot paths that end with it. -/

theorem State.dropExpert_everyBlockBasic {s : State} (p : Block → Bool) (hs : s.EveryBlockBasic) :
    (s.dropExpert p).EveryBlockBasic := fun b => by
  refine (s.expert_filter (fun k => match blockAt (k / 32) with
    | some (b, ofs) => !(p b && tabledExpert b ofs (k % 32))
    | none => true) b).trans ?_
  rw [hs b, ite_self]

/-- `allBasic` drops the LEVEL of every block. -/
theorem State.allBasic_everyBlockBasic (s : State) : s.allBasic.EveryBlockBasic := by
  have hlevel : State.EveryBlockBasic _ := fun b => (s.expert_filter (fun k =>
    !((blockAt (k / 32)).any fun (b : Block × Nat) => b.2 == 4 && (k % 32 == 1 || k % 32 == 9))) b).trans
      (if_neg (by simp [F.OWNLVL_LEVEL_key b, blockAt_ownlvl]))
  have hderive := (Frame.foldl (fun t b => State.deriveOwn_frame (s := t) (b := b))
    [Block.pwr, .clk, .tide, .gnss, .front, .lgt, .touch, .crypto, .sillage] _).everyBlockBasic rfl
      (State.dropExpert_everyBlockBasic (fun _ => true) hlevel)
  exact (Frame.foldl (fun _ _ => State.deriveBerth_frame) _ _).everyBlockBasic rfl hderive

/-- The cold path derives every block in BASIC, and only releases the application core after that. -/
theorem State.coldPath_everyBlockBasic (s : State) (herit : BitVec 3) : (s.coldPath herit).EveryBlockBasic := by
  unfold State.coldPath
  exact State.release_frame.everyBlockBasic rfl
    (State.set_power_frame.everyBlockBasic rfl (State.allBasic_everyBlockBasic _))

theorem State.resetCold_everyBlockBasic (s : State) (cause arose : Nat) (herit : BitVec 3) :
    (s.resetCold cause arose herit).EveryBlockBasic := State.coldPath_everyBlockBasic _ _

theorem State.appRestart_everyBlockBasic (s : State) (cause arose : Nat) :
    (s.appRestart cause arose).EveryBlockBasic :=
  State.set_app_frame.everyBlockBasic rfl (State.allBasic_everyBlockBasic _)

theorem State.powerOn_everyBlockBasic (s : State) (herit : BitVec 3) (backup cold : Bool) :
    (s.powerOn herit backup cold).EveryBlockBasic := by
  unfold State.powerOn
  split
  · exact State.systemRecord_frame.everyBlockBasic rfl (State.coldPath_everyBlockBasic _ _)
  · exact State.coldPath_everyBlockBasic _ _

/-- Without a matching boot record the warm path is the cold one (R407). -/
theorem State.warmPath_of_record_ne {s : State} (h : s.life.record ≠ some s.bootFacts) (herit : BitVec 3) :
    s.warmPath herit = s.coldPath herit := if_neg h

/-- After a core brown-out every block is in BASIC on both paths (R341, R44): the warm path is followed by `allBasic`, and
without a matching boot record the cold path runs. -/
theorem execCoreBrownOut_everyBlockBasic (herit : BitVec 3) (s : State) :
    ∃ t, execCoreBrownOut herit s = .next t ∧ t.EveryBlockBasic := by
  refine ⟨_, rfl, State.raise0_frame.everyBlockBasic rfl ?_⟩
  split
  · split
    · exact State.logRecoverWarm_frame.everyBlockBasic rfl (State.allBasic_everyBlockBasic _)
    · exact State.logRegs_frame.everyBlockBasic rfl (State.allBasic_everyBlockBasic _)
  · rename_i hrecord
    rw [State.warmPath_of_record_ne hrecord]
    exact State.tideToFast_frame.everyBlockBasic rfl (State.coldPath_everyBlockBasic _ _)

/-- SYS RESET with either reach. -/
theorem execSysReset_everyBlockBasic {x : Sess} {s : State}
    (h : accepts s x { sysGroup := true, heritage := true } = true) (all : Bool) :
    ∃ t, execSysReset x all s = .next t ∧ t.EveryBlockBasic := by
  refine ⟨_, congrArg Host.Outcome.next (run_accepts h _), ?_⟩
  cases all with
  | true => exact State.resetCold_everyBlockBasic _ _ _ _
  | false => exact State.appRestart_everyBlockBasic _ _ _

/-- A lifecycle transition that is accepted ends in its reset (R421, R422). -/
theorem execLifeGo_of_accepted {x : Sess} {g : LifeState} {c : BitVec 16} {s : State} (h : accepts s x lifeCmd = true)
    (hlisted : transition s.life.fuses.state g.code = true) (hcode : s.life.code = c.toNat) (hload : s.life.load = none)
    (hgranted : s.transitionError s.life.fuses.state g.code = none) (herit : BitVec 3) :
    execLifeGo x g (some c) herit s = .next (s.newCode.transit x g.code herit) := by
  unfold execLifeGo
  rw [run_accepts h]
  simp [hlisted, hcode, hload, hgranted]

end Sys2Proof.Machine

namespace Sys2Proof

open Sys2Proof.Machine

/-- Settles O56: every reset ends in the derivation of all blocks in BASIC, and nothing after it touches LEVEL. -/
theorem everyBlockIsBasicAfterEveryReset : Obligations.EveryBlockIsBasicAfterEveryReset := by
  unfold Obligations.EveryBlockIsBasicAfterEveryReset
  refine ⟨State.reset_everyBlockBasic, fun h b s => ?_⟩
  have ofBasic : ∀ {i : Instr}, (∃ t, exec i s = .next t ∧ t.EveryBlockBasic) →
      ∃ t : State, exec i s = .next t ∧ t.expert b = false := fun ⟨t, hnext, ht⟩ => ⟨t, hnext, ht b⟩
  refine ⟨fun k => ?powerOn, fun hcold => ?coldStart, fun hbor => ?batteryBrownOut, ?coreBrownOut, ?nrst, ?sysWatchdog,
    fun hen hdepth => ?appWatchdog, fun m a hm => ⟨?swrstApp, ?swrstAll⟩, fun x a hx => ?sysReset,
    fun x g c hx hlisted hcode hload hgranted => ?lifeGo, fun hopen => ?debugReset⟩
  case powerOn => exact ofBasic ⟨_, rfl, s.powerOn_everyBlockBasic h k false⟩
  case coldStart =>
    exact ofBasic ⟨_, congrArg Host.Outcome.next (if_pos hcold), s.powerOn_everyBlockBasic h false true⟩
  case batteryBrownOut =>
    exact ofBasic ⟨_, congrArg Host.Outcome.next (if_pos hbor), State.coldPath_everyBlockBasic _ h⟩
  case coreBrownOut => exact ofBasic (execCoreBrownOut_everyBlockBasic h s)
  case nrst => exact ofBasic ⟨_, rfl, s.resetCold_everyBlockBasic 3 8 h⟩
  case sysWatchdog => exact ofBasic ⟨_, rfl, s.resetCold_everyBlockBasic 4 16 h⟩
  case appWatchdog =>
    exact ofBasic ⟨_, congrArg Host.Outcome.next (if_pos (by simp [hen, hdepth])), State.appRestart_everyBlockBasic _ 5 32⟩
  case swrstApp => exact ofBasic ⟨_, congrArg Host.Outcome.next (if_pos hm), s.appRestart_everyBlockBasic 7 128⟩
  case swrstAll => exact ofBasic ⟨_, congrArg Host.Outcome.next (if_pos hm), s.resetCold_everyBlockBasic 6 _ h⟩
  case sysReset => exact ofBasic (execSysReset_everyBlockBasic hx a)
  case lifeGo =>
    exact ofBasic ⟨_, execLifeGo_of_accepted hx hlisted hcode hload hgranted h, State.resetCold_everyBlockBasic _ 8 256 h⟩
  case debugReset => exact ofBasic ⟨_, congrArg Host.Outcome.next (if_pos hopen), s.resetCold_everyBlockBasic 9 512 h⟩

end Sys2Proof

namespace Sys2Proof.Machine

/-! The ledger's limit (R36). -/

/-- A change that raises the sum is granted exactly within the limit that holds after it (R37). -/
theorem ledgerGrants_iff_of_lt {s t : State} (h : s.ledgerSum < t.ledgerSum) :
    ledgerGrants s t = true ↔ t.ledgerSum ≤ t.ledgerLimit := by
  simp only [ledgerGrants, Bool.or_eq_true, decide_eq_true_eq]
  omega

theorem State.ledgerLimit_of_ldo {s : State} (h : s.on F.PWR_REG_ACT = true) : s.ledgerLimit = 25 := if_pos h

theorem State.ledgerLimit_of_buck {s : State} (h : s.on F.PWR_REG_ACT = false) : s.ledgerLimit = 8000 :=
  if_neg (by simp [h])

/-- The ledger line of an accepted query, with the limit's text. -/
theorem execPwrLedgerQuery_of_accepts {x : Sess} {s : State} (h : accepts s x { pwrCmd with query := true } = true)
    {l : String} (hl : " LIMIT=" ++ Text.fixed 2 s.ledgerLimit = l) :
    execPwrLedgerQuery x s = .next ((s.reply x ("PWR LEDGER SUM=" ++ Text.fixed 2 s.ledgerSum ++ l)).ok x) := by
  unfold execPwrLedgerQuery
  rw [run_accepts h, ← hl, ← String.append_assoc]

end Sys2Proof.Machine

namespace Sys2Proof

open Sys2Proof.Machine

/-- Settles O60: the text and the comparison both use `State.ledgerLimit`, which PWR_REG.ACT chooses. -/
theorem ledgerLimitByRegulator : Obligations.LedgerLimitByRegulator := by
  unfold Obligations.LedgerLimitByRegulator
  refine fun x s hx => ⟨fun hbuck => ?_, fun hldo => ?_, fun t => ledgerGrants_iff_of_lt⟩
  · exact execPwrLedgerQuery_of_accepts hx (by rw [State.ledgerLimit_of_buck hbuck]; rfl)
  · exact execPwrLedgerQuery_of_accepts hx (by rw [State.ledgerLimit_of_ldo hldo]; rfl)

end Sys2Proof

namespace Sys2Proof.Machine

/-! Stalled lighters (R549): what holds an engine's place, and the operations that keep it. -/

/-- Registers put in order leave every field with another key alone. -/
theorem State.get_puts_other (s : State) (l : List (Fld × Nat)) {g : Fld} (h : ∀ c ∈ l, g.key ≠ c.1.key) :
    (s.puts l).get g = s.get g := by
  induction l generalizing s with
  | nil => rfl
  | cons c r ih =>
    rw [List.forall_mem_cons] at h
    exact (ih (s.put c.1 c.2) h.2).trans (s.get_put_other c.2 h.1)

/-- A write of an instruction word leaves every register below the instruction memories alone. -/
theorem State.get_put_imem (s : State) (n j v : Nat) {g : Fld} (h : g.key < 0x40012800 * 32) :
    (s.put (F.LGT_IMEM_WORD n j) v).get g = s.get g :=
  s.get_put_other v (by simp only [Fld.key, F.LGT_IMEM_WORD] at h ⊢; omega)

/-- An access to a block whose domain is on is its action alone (R346). -/
theorem State.access_of_powered {s : State} {b : Block} {d : Nat} (hb : blockDomain b = some d) (hd : s.powered d = true)
    (ofs m : Nat) (write : Bool) (act : State → State) : s.access b ofs m write act = act s := by
  unfold State.access
  rw [hb]
  exact if_pos hd

/-- The fields that hold an engine's place while it is stalled (R549). -/
def placeFields (n : Nat) : List Fld := [F.LGT_SH_SH n, F.LGT_STAT_SC n, F.LGT_STAT_RC n, F.LGT_STAT_PC n]

/-- `t` has engine `n` at the place where `s` has it. -/
def KeepsPlace (n : Nat) (s t : State) : Prop := ∀ g ∈ placeFields n, t.get g = s.get g

theorem keepsPlace_iff {n : Nat} {s t : State} : KeepsPlace n s t ↔
    t.get (F.LGT_SH_SH n) = s.get (F.LGT_SH_SH n) ∧ t.get (F.LGT_STAT_SC n) = s.get (F.LGT_STAT_SC n) ∧
      t.get (F.LGT_STAT_RC n) = s.get (F.LGT_STAT_RC n) ∧ t.get (F.LGT_STAT_PC n) = s.get (F.LGT_STAT_PC n) := by
  simp [KeepsPlace, placeFields]

theorem placeFields_part {n : Nat} {g : Fld} (hg : g ∈ placeFields n) : g.part = .rLgt := by
  simp only [placeFields, List.mem_cons, List.not_mem_nil, or_false] at hg
  rcases hg with rfl | rfl | rfl | rfl
  · exact F.LGT_SH_SH_part
  · exact F.LGT_STAT_SC_part
  · exact F.LGT_STAT_RC_part
  · exact F.LGT_STAT_PC_part

theorem placeFields_below_imem {n : Nat} {g : Fld} (hg : g ∈ placeFields n) : g.key < 0x40012800 * 32 := by
  simp only [placeFields, List.mem_cons, List.not_mem_nil, or_false] at hg
  rcases hg with rfl | rfl | rfl | rfl <;>
    simp only [Fld.key, F.LGT_SH_SH, F.LGT_STAT_SC, F.LGT_STAT_RC, F.LGT_STAT_PC] <;> omega

/-- That a field is none of those that hold the place of engine `n`: their registers are at STAT and SH of its window. -/
def OffPlace (n : Nat) (f : Fld) : Prop := ∀ g ∈ placeFields n, g.key ≠ f.key

theorem offPlace_iff {n : Nat} {f : Fld} : OffPlace n f ↔
    f.key ≠ (0x40012120 + n % 8 * 64) * 32 ∧ f.key ≠ (0x40012110 + n % 8 * 64) * 32 + 16 ∧
      f.key ≠ (0x40012110 + n % 8 * 64) * 32 + 24 ∧ f.key ≠ (0x40012110 + n % 8 * 64) * 32 + 4 := by
  simp [OffPlace, placeFields, Fld.key, F.LGT_SH_SH, F.LGT_STAT_SC, F.LGT_STAT_RC, F.LGT_STAT_PC, eq_comm]

namespace KeepsPlace

variable {n : Nat} {s t u : State}

theorem trans (h : KeepsPlace n s t) (k : KeepsPlace n t u) : KeepsPlace n s u :=
  fun g hg => (k g hg).trans (h g hg)

/-- An operation whose frame leaves the lighters' registers out keeps every engine's place. -/
theorem of_frame {e : List Part} (h : Frame e s t) (hn : Part.sub [.rLgt] e = false) : KeepsPlace n s t :=
  fun _ hg => h.get (placeFields_part hg) hn

theorem of_puts {l : List (Fld × Nat)} (h : ∀ c ∈ l, OffPlace n c.1) : KeepsPlace n s (s.puts l) :=
  fun g hg => s.get_puts_other l fun c hc => h c hc g hg

theorem of_put {f : Fld} {v : Nat} (h : OffPlace n f) : KeepsPlace n s (s.put f v) :=
  fun g hg => s.get_put_other v (h g hg)

theorem raiseIf {c : Prop} [Decidable c] (h : KeepsPlace n s t) (k : Nat) :
    KeepsPlace n s (if c then t.raise0 k else t) := by
  split
  · exact h.trans (of_frame State.raise0_frame rfl)
  · exact h

end KeepsPlace

theorem State.lgtTo_keepsPlace (s : State) (n st : Nat) : KeepsPlace n s (s.lgtTo n st) :=
  .of_puts (by
    simp only [List.mem_cons, List.not_mem_nil, or_false, forall_eq_or_imp, forall_eq, offPlace_iff, Fld.key,
      F.LGT_STAT_STATE, F.LGT_SUM_RUN, F.LGT_SUM_STALLED]
    omega)

/-- Words that enter or leave the FIFOs, their levels and crossings do not move the engine (R545, R546). -/
theorem State.lgtFifos_keepsPlace (s : State) (n : Nat) (tx rx : List Nat) : KeepsPlace n s (s.lgtFifos n tx rx) := by
  have hlevels : ∀ t : State, KeepsPlace n t
      (t.puts [(F.LGT_FIFO_TXLVL n, tx.length), (F.LGT_FIFO_RXLVL n, rx.length)]) := fun t =>
    .of_puts (by
      simp only [List.mem_cons, List.not_mem_nil, or_false, forall_eq_or_imp, forall_eq, offPlace_iff, Fld.key,
        F.LGT_FIFO_TXLVL, F.LGT_FIFO_RXLVL]
      omega)
  exact (((KeepsPlace.of_frame State.setEngine_frame rfl).trans (hlevels _)).raiseIf _).raiseIf _

theorem State.lgtPush_keepsPlace (s : State) (n v : Nat) : KeepsPlace n s (s.lgtPush n v) := by
  unfold State.lgtPush
  dsimp only
  split
  · exact .of_put (by simp only [offPlace_iff, Fld.key, F.LGT_FIFO_TXOVF]; omega)
  · exact s.lgtFifos_keepsPlace n _ _

theorem State.lgtPop_nil {s : State} {n : Nat} (h : (s.engine n).rx = []) :
    s.lgtPop n = { s.put (F.LGT_FIFO_RXUNF n) 1 with busData := 0 } := by
  simp only [State.lgtPop, h]

theorem State.lgtPop_cons {s : State} {n v : Nat} {r : List Nat} (h : (s.engine n).rx = v :: r) :
    s.lgtPop n = { s.lgtFifos n (s.engine n).tx r with busData := BitVec.ofNat 32 v } := by
  simp only [State.lgtPop, h]

theorem State.lgtPop_keepsPlace (s : State) (n : Nat) : KeepsPlace n s (s.lgtPop n) := by
  cases h : (s.engine n).rx with
  | nil =>
    rw [State.lgtPop_nil h]
    exact KeepsPlace.trans (.of_put (by simp only [offPlace_iff, Fld.key, F.LGT_FIFO_RXUNF]; omega))
      (.of_frame State.set_busData_frame rfl)
  | cons v r =>
    rw [State.lgtPop_cons h]
    exact (s.lgtFifos_keepsPlace n _ _).trans (.of_frame State.set_busData_frame rfl)

/-- A write of an instruction word does not move an engine. -/
theorem State.put_imem_keepsPlace (s : State) (n m j v : Nat) : KeepsPlace n s (s.put (F.LGT_IMEM_WORD m j) v) :=
  fun _ hg => s.get_put_imem m j v (placeFields_below_imem hg)

@[simp] theorem State.lgtState_lgtTo (s : State) (n st : Nat) : (s.lgtTo n st).lgtState n = st % 4 := by
  rw [State.lgtState, State.lgtTo, State.puts, State.get_puts_other, State.get_put_same]
  · rfl
  · simp only [List.mem_cons, List.not_mem_nil, or_false, forall_eq_or_imp, forall_eq, Fld.key, F.LGT_STAT_STATE,
      F.LGT_SUM_RUN, F.LGT_SUM_STALLED]
    omega

theorem State.get_imem_lgtTo (s : State) (n st m j : Nat) :
    (s.lgtTo n st).get (F.LGT_IMEM_WORD m j) = s.get (F.LGT_IMEM_WORD m j) :=
  s.get_puts_other _ (by
    simp only [List.mem_cons, List.not_mem_nil, or_false, forall_eq_or_imp, forall_eq, Fld.key, F.LGT_IMEM_WORD,
      F.LGT_STAT_STATE, F.LGT_SUM_RUN, F.LGT_SUM_STALLED]
    omega)

/-- Only a running engine executes the word at its PC. -/
theorem State.lgtRunOp_of_not_running {s : State} {n : Nat} (h : s.lgtState n ≠ 1) (op : Nat)
    (body : Nat → State → State) : s.lgtRunOp n op body = s := if_neg (by simp [h])

theorem State.lgtWaits_of_not_waiting {s : State} {n : Nat} (h : s.lgtState n ≠ 2) : s.lgtWaits n = false := by
  simp [State.lgtWaits, h]

/-- A stall whose condition has cleared ends: the engine runs (R545). -/
theorem execLgtStallEnd_of_cleared {s : State} {n : Fin 8} (hst : s.lgtState n = 3)
    (hrx : s.on (F.LGT_STAT_WHY n) = true → (s.engine n).rx.length < 8)
    (htx : s.on (F.LGT_STAT_WHY n) = false → (s.engine n).tx ≠ []) :
    execLgtStallEnd n s = .next (s.lgtTo n 1) := by
  refine congrArg Host.Outcome.next (if_pos ?_)
  cases hwhy : s.on (F.LGT_STAT_WHY n) with
  | true => simp [hst, hrx hwhy]
  | false => simp [hst, htx hwhy]

/-- An engine's operations, and the ends of its AWAIT, do nothing while it is stalled. -/
theorem exec_lighterOp_of_stalled {s : State} {n : Fin 8} (hst : s.lgtState n = 3) :
    ∀ i ∈ [Instr.lgtNop n, .lgtXfer n [], .lgtFill n, .lgtDrain n, .lgtDrive n, .lgtAwait n, .lgtAwaitEnd n,
      .lgtAwaitTimeout n, .lgtPause n, .lgtSet n, .lgtLoop n, .lgtJump n, .lgtMove n, .lgtNote n, .lgtIllegal n],
      exec i s = .next s := by
  have run : ∀ op body, Host.Outcome.next (s.lgtRunOp n op body) = (.next s : Host.Outcome State Fault Refusal) :=
    fun op body => congrArg _ (State.lgtRunOp_of_not_running (by omega) op body)
  have waits : s.lgtWaits n = false := State.lgtWaits_of_not_waiting (by omega)
  simp only [List.forall_mem_cons]
  refine ⟨run _ _, run _ _, run _ _, run _ _, run _ _, run _ _, ?awaitEnd, ?awaitTimeout, run _ _, run _ _, run _ _,
    run _ _, run _ _, run _ _, ?illegal, by simp⟩
  case awaitEnd => exact congrArg Host.Outcome.next (if_neg (by simp [waits]))
  case awaitTimeout => exact congrArg Host.Outcome.next (if_neg (by simp [waits]))
  case illegal => exact congrArg Host.Outcome.next (if_neg (by simp [hst]))

/-- The end of a stall after a write of the word at PC: the engine runs at its old place, at the new word. -/
theorem execLgtStallEnd_of_rewritten {s : State} {n : Fin 8} (hst : s.lgtState n = 3) (v : Word)
    (hrx : s.on (F.LGT_STAT_WHY n) = true → (s.engine n).rx.length < 8)
    (htx : s.on (F.LGT_STAT_WHY n) = false → (s.engine n).tx ≠ []) :
    ∃ t : State, execLgtStallEnd n (s.put (F.LGT_IMEM_WORD n (s.get (F.LGT_STAT_PC n))) v.toNat) = .next t ∧
      KeepsPlace n s t ∧ t.lgtState n = 1 ∧ t.lgtWord n = v.toNat := by
  let s' := s.put (F.LGT_IMEM_WORD n (s.get (F.LGT_STAT_PC n))) v.toNat
  have hwhy : s'.on (F.LGT_STAT_WHY n) = s.on (F.LGT_STAT_WHY n) :=
    congrArg (· != 0) (s.get_put_imem _ _ _ (by simp only [Fld.key, F.LGT_STAT_WHY]; omega))
  have hstall : s'.lgtState n = 3 :=
    (s.get_put_imem _ _ _ (by simp only [Fld.key, F.LGT_STAT_STATE]; omega)).trans hst
  have hplace : KeepsPlace n s (s'.lgtTo n 1) := (s.put_imem_keepsPlace n n _ _).trans (s'.lgtTo_keepsPlace n 1)
  obtain ⟨-, -, -, hpc⟩ := keepsPlace_iff.mp hplace
  refine ⟨s'.lgtTo n 1, execLgtStallEnd_of_cleared hstall (hwhy ▸ hrx) (hwhy ▸ htx), hplace, s'.lgtState_lgtTo n 1, ?_⟩
  calc (s'.lgtTo n 1).lgtWord n
      = s'.get (F.LGT_IMEM_WORD n (s.get (F.LGT_STAT_PC n))) := by rw [State.lgtWord, hpc, State.get_imem_lgtTo]
    _ = v.toNat % 2 ^ 32 := s.get_put_same _ _
    _ = v.toNat := Nat.mod_eq_of_lt v.isLt

end Sys2Proof.Machine

namespace Sys2Proof

open Sys2Proof.Machine

/-- Settles O58: only a running engine executes, the FIFOs, their levels and crossings lie beside SH, SC, RC and PC, and the
end of a stall changes STATE and LGT_SUM alone. -/
theorem stalledLightersKeepTheirPlace : Obligations.StalledLightersKeepTheirPlace := by
  unfold Obligations.StalledLightersKeepTheirPlace
  refine fun n s hst => ⟨exec_lighterOp_of_stalled hst, fun l => ?xfer, fun hp => ⟨fun v => ?push, ?pop⟩,
    fun v hrx htx => ?stallEnd⟩
  case xfer => exact congrArg Host.Outcome.next (State.lgtRunOp_of_not_running (by omega) _ _)
  case push =>
    exact ⟨_, congrArg Host.Outcome.next (State.access_of_powered rfl hp _ _ _ _),
      keepsPlace_iff.mp (s.lgtPush_keepsPlace n v.toNat)⟩
  case pop =>
    exact ⟨_, congrArg Host.Outcome.next (State.access_of_powered rfl hp _ _ _ _),
      keepsPlace_iff.mp (s.lgtPop_keepsPlace n)⟩
  case stallEnd =>
    obtain ⟨t, hnext, hplace, hruns, hword⟩ := execLgtStallEnd_of_rewritten hst v hrx htx
    exact ⟨t, hnext, keepsPlace_iff.mp hplace, hruns, hword⟩

end Sys2Proof

namespace Sys2Proof.Machine

/-! Starts of the ADC (R582, R586): what a START of the owner reaches, the refusal of an internal channel, and the run that a
start leaves. -/

theorem State.on_eq_false_iff {s : State} {f : Fld} : s.on f = false ↔ s.get f = 0 := bne_eq_false_iff_eq

/-- An action of the owner that the block's present state refuses is counted in DENIED (R671). -/
theorem State.guardBusy_of_busy {s : State} {side : Side} {b : Block} (h : side = s.owner b) (ofs : Nat) (expert : Bool)
    (act : State → State) : s.guardBusy b ofs side expert true act = s.deny b 3 ofs side := by
  unfold State.guardBusy
  rw [if_neg (not_not_intro h), if_pos rfl]

/-- A START of the owner at an idle ADC starts a sequence; at a busy one it is denied (R586, R671). -/
theorem execAdcStart_of_opens {side : Side} {s : State} (h : opens s side .adc false = true) :
    execAdcStart side s = .next (if s.on F.ADC_STAT_BUSY then s.deny .adc 3 0x14 side else s.adcStart) := by
  unfold execAdcStart
  rw [access_reaches (opens_iff.mp h).1]
  cases hbusy : s.on F.ADC_STAT_BUSY with
  | false => rw [guardBusy_opens h, if_neg Bool.false_ne_true]
  | true => rw [State.guardBusy_of_busy (opens_iff.mp h).2.1, if_pos rfl]

/-- The test of a start finds an internal channel exactly where the sequence names one. -/
theorem State.adcChannels_any_internal {s : State} :
    s.adcChannels.any (24 ≤ ·) = true ↔ ∃ ch ∈ s.adcChannels, 24 ≤ ch := by
  simp only [List.any_eq_true, decide_eq_true_eq]

/-- An idle ADC outside OFF and ECONOMY refuses a sequence that names an internal channel (R582). -/
theorem State.adcStart_of_refused {s : State} (hidle : s.on F.ADC_STAT_BUSY = false) (hoff : s.get F.ADC_CFG_MODE ≠ 0)
    (heco : s.get F.ADC_CFG_MODE ≠ 3) (hint : ∃ ch ∈ s.adcChannels, 24 ≤ ch) :
    s.adcStart = s.put F.ADC_STAT_CFGERR 1 := by
  unfold State.adcStart
  dsimp only
  rw [if_neg (by simpa only [hidle, Bool.false_or, beq_iff_eq] using hoff),
    if_pos ⟨heco, State.adcChannels_any_internal.mpr hint⟩]

/-- The run after a start is the one before it, or a new one of the mode and channels set, which names an internal channel in
ECONOMY alone. -/
theorem State.adcStart_run {s : State} {r : AdcRun} (h : s.adcStart.adc.run = some r) :
    s.adc.run = some r ∨
      r.mode = s.get F.ADC_CFG_MODE ∧ r.seq = s.adcChannels ∧ ((∃ ch ∈ r.seq, 24 ≤ ch) → r.mode = 3) := by
  unfold State.adcStart at h
  dsimp only at h
  split at h
  · exact .inl h
  · split at h
    case isTrue => exact .inl h
    case isFalse hallowed =>
      obtain rfl := Option.some.inj h
      exact .inr ⟨rfl, rfl, fun hint =>
        Decidable.byContradiction fun heco => hallowed ⟨heco, State.adcChannels_any_internal.mpr hint⟩⟩

end Sys2Proof.Machine

namespace Sys2Proof

open Sys2Proof.Machine

/-- Settles O59: the event router's consumer 16 is the start that an owner's START makes, which refuses an internal channel
before a run begins. -/
theorem internalChannelsOnlyInEconomy : Obligations.InternalChannelsOnlyInEconomy := by
  unfold Obligations.InternalChannelsOnlyInEconomy
  refine ⟨fun side s hopen hidle hmode hint => ?refused, fun side r s t hopen hnone hstart hrun hint => ?economy⟩
  case refused =>
    have hrefused : s.adcStart = s.put F.ADC_STAT_CFGERR 1 :=
      State.adcStart_of_refused hidle (by omega) (by omega) hint
    refine ⟨(execAdcStart_of_opens hopen).trans ?_, hrefused, ?_⟩
    · rw [hidle, if_neg Bool.false_ne_true, hrefused]
    · exact (s.get_put_other 1 (by decide)).trans (State.on_eq_false_iff.mp hidle)
  case economy =>
    obtain rfl := Host.Outcome.next.inj ((execAdcStart_of_opens hopen).symm.trans hstart)
    split at hrun
    · have hkept : (s.deny .adc 3 0x14 side).adc = s.adc :=
        (State.deny_frame (e := [Block.adc.part]) rfl).same .adc rfl
      rw [hkept, hnone] at hrun
      cases hrun
    · rcases State.adcStart_run hrun with hold | ⟨-, -, honly⟩
      · cases hnone.symm.trans hold
      · exact honly hint

end Sys2Proof

namespace Sys2Proof
open Sys2Proof.Machine

/-- Every part but the queue of commands and OWNLVL. -/
def besideOwn : List Part := Part.most.take 30 ++ Part.most.drop 31

/-- The command answers a next state, and changes the parts that its kind may: OWNLVL only where it `changesOwnership`. -/
def Instr.Answers (c : Instr) (s : State) : Prop :=
  ∃ t, exec c s = .next t ∧ Frame Part.most s t ∧ (changesOwnership c = false → Frame besideOwn s t)

theorem mem_besideOwn {p : Part} : p ∈ besideOwn ↔ p ∈ Part.most ∧ p ≠ .rOwn := by
  cases p <;> decide

variable {c : Instr} {s : State} {e : List Part}

theorem Instr.Answers.ofFrame (h : ∀ {t}, exec c s = .next t → Frame e s t) (hn : ∃ t, exec c s = .next t)
    (hc : changesOwnership c = true) (he : Part.sub e Part.most = true) : c.Answers s :=
  let ⟨t, ht⟩ := hn
  ⟨t, ht, (h ht).mono he, fun hf => nomatch hf.symm.trans hc⟩

theorem Instr.Answers.besideOwn (h : ∀ {t}, exec c s = .next t → Frame e s t) (hn : ∃ t, exec c s = .next t)
    (he : Part.sub e besideOwn = true) : c.Answers s :=
  let ⟨t, ht⟩ := hn
  ⟨t, ht, (h ht).mono (Part.sub_trans he rfl), fun _ => (h ht).mono he⟩

theorem exec_answers (c : Instr) (s : State) : c.Answers s :=
  match c with
  | .registerWrite .. => .ofFrame execRegisterWrite_frame ⟨_, rfl⟩ rfl rfl
  | .readClear .. => .besideOwn execReadClear_frame ⟨_, rfl⟩ rfl
  | .sysctlOwnWrite .. => .ofFrame execSysctlOwnWrite_frame ⟨_, rfl⟩ rfl rfl
  | .ownershipChange .. => .ofFrame execOwnershipChange_frame ⟨_, rfl⟩ rfl rfl
  | .levelWrite .. => .ofFrame execLevelWrite_frame ⟨_, rfl⟩ rfl rfl
  | .levelChange .. => .ofFrame execLevelChange_frame ⟨_, rfl⟩ rfl rfl
  | .consoleCharacter .. => .besideOwn execConsoleCharacter_frame ⟨_, rfl⟩ rfl
  | .backspace .. => .besideOwn execBackspace_frame ⟨_, rfl⟩ rfl
  | .ctrlC .. => .besideOwn execCtrlC_frame ⟨_, rfl⟩ rfl
  | .lineTerminator .. => .besideOwn execLineTerminator_frame ⟨_, rfl⟩ rfl
  | .commandExecute => have ⟨t, ht, hf⟩ := execCommandExecute_answers
    ⟨t, ht, hf, nofun⟩
  | .outputRoom .. => .besideOwn execOutputRoom_frame ⟨_, rfl⟩ rfl
  | .autobaudCharacter .. => .besideOwn execAutobaudCharacter_frame ⟨_, rfl⟩ rfl
  | .baudChange => .besideOwn execBaudChange_frame ⟨_, rfl⟩ rfl
  | .modeChange .. => .besideOwn execModeChange_frame ⟨_, rfl⟩ rfl
  | .quayGo => .besideOwn execQuayGo_frame ⟨_, rfl⟩ rfl
  | .quayBreak => .besideOwn execQuayBreak_frame ⟨_, rfl⟩ rfl
  | .quayLineCopy => .besideOwn execQuayLineCopy_frame ⟨_, rfl⟩ rfl
  | .quayRtailWrite .. => .besideOwn execQuayRtailWrite_frame ⟨_, rfl⟩ rfl
  | .settingQuery .. => .besideOwn execSettingQuery_frame ⟨_, rfl⟩ rfl
  | .sysVerQuery .. => .besideOwn execSysVerQuery_frame ⟨_, rfl⟩ rfl
  | .sysIdQuery .. => .besideOwn execSysIdQuery_frame ⟨_, rfl⟩ rfl
  | .sysMode .. => .besideOwn execSysMode_frame ⟨_, rfl⟩ rfl
  | .sysCheck .. => .besideOwn execSysCheck_frame ⟨_, rfl⟩ rfl
  | .sysBaud .. => .besideOwn execSysBaud_frame ⟨_, rfl⟩ rfl
  | .sysNotice .. => .besideOwn execSysNotice_frame ⟨_, rfl⟩ rfl
  | .sysStatQuery .. => .besideOwn execSysStatQuery_frame ⟨_, rfl⟩ rfl
  | .sysReset .. => .ofFrame execSysReset_frame ⟨_, rfl⟩ rfl rfl
  | .own .. => .ofFrame execOwn_frame ⟨_, rfl⟩ rfl rfl
  | .ownQuery .. => .besideOwn execOwnQuery_frame ⟨_, rfl⟩ rfl
  | .levelSession .. => .besideOwn execLevelSession_frame ⟨_, rfl⟩ rfl
  | .levelBlock .. => .ofFrame execLevelBlock_frame ⟨_, rfl⟩ rfl rfl
  | .pwrPoint .. => .besideOwn execPwrPoint_frame ⟨_, rfl⟩ rfl
  | .pwrPath .. => .besideOwn execPwrPath_frame ⟨_, rfl⟩ rfl
  | .pwrReg .. => .besideOwn execPwrReg_frame ⟨_, rfl⟩ rfl
  | .pwrLedgerQuery .. => .besideOwn execPwrLedgerQuery_frame ⟨_, rfl⟩ rfl
  | .pwrDomain .. => .besideOwn execPwrDomain_frame ⟨_, rfl⟩ rfl
  | .pwrBias .. => .besideOwn execPwrBias_frame ⟨_, rfl⟩ rfl
  | .noteSleep .. => .besideOwn execNoteSleep_frame ⟨_, rfl⟩ rfl
  | .noteRetain .. => .besideOwn execNoteRetain_frame ⟨_, rfl⟩ rfl
  | .noteWakeQuery .. => .besideOwn execNoteWakeQuery_frame ⟨_, rfl⟩ rfl
  | .noteHistQuery .. => .besideOwn execNoteHistQuery_frame ⟨_, rfl⟩ rfl
  | .clkQuery .. => .besideOwn execClkQuery_frame ⟨_, rfl⟩ rfl
  | .clkSrc .. => .besideOwn execClkSrc_frame ⟨_, rfl⟩ rfl
  | .clkGate .. => .besideOwn execClkGate_frame ⟨_, rfl⟩ rfl
  | .clkMon .. => .besideOwn execClkMon_frame ⟨_, rfl⟩ rfl
  | .harvQuery .. => .besideOwn execHarvQuery_frame ⟨_, rfl⟩ rfl
  | .harvMppt .. => .besideOwn execHarvMppt_frame ⟨_, rfl⟩ rfl
  | .harvXmit .. => .besideOwn execHarvXmit_frame ⟨_, rfl⟩ rfl
  | .harvOvp .. => .besideOwn execHarvOvp_frame ⟨_, rfl⟩ rfl
  | .harvPermitQuery .. => .besideOwn execHarvPermitQuery_frame ⟨_, rfl⟩ rfl
  | .gnssMode .. => .besideOwn execGnssMode_frame ⟨_, rfl⟩ rfl
  | .gnssModeRegisterWrite .. => .besideOwn execGnssModeRegisterWrite_frame ⟨_, rfl⟩ rfl
  | .gnssModeDone => .besideOwn execGnssModeDone_frame ⟨_, rfl⟩ rfl
  | .gnssBurst .. => .besideOwn execGnssBurst_frame ⟨_, rfl⟩ rfl
  | .gnssSnap .. => .besideOwn execGnssSnap_frame ⟨_, rfl⟩ rfl
  | .gnssAid .. => .besideOwn execGnssAid_frame ⟨_, rfl⟩ rfl
  | .gnssRestart .. => .besideOwn execGnssRestart_frame ⟨_, rfl⟩ rfl
  | .restartApply => .besideOwn execRestartApply_frame ⟨_, rfl⟩ rfl
  | .gnssFixQuery .. => .besideOwn execGnssFixQuery_frame ⟨_, rfl⟩ rfl
  | .gnssStatQuery .. => .besideOwn execGnssStatQuery_frame ⟨_, rfl⟩ rfl
  | .planSys .. => .besideOwn execPlanSys_frame ⟨_, rfl⟩ rfl
  | .planElev .. => .besideOwn execPlanElev_frame ⟨_, rfl⟩ rfl
  | .planQuery .. => .besideOwn execPlanQuery_frame ⟨_, rfl⟩ rfl
  | .planAssign .. => .besideOwn execPlanAssign_frame ⟨_, rfl⟩ rfl
  | .berthQuery .. => .besideOwn execBerthQuery_frame ⟨_, rfl⟩ rfl
  | .berthSpacing .. => .besideOwn execBerthSpacing_frame ⟨_, rfl⟩ rfl
  | .berthLoop .. => .besideOwn execBerthLoop_frame ⟨_, rfl⟩ rfl
  | .measQuery .. => .besideOwn execMeasQuery_frame ⟨_, rfl⟩ rfl
  | .measBondQuery .. => .besideOwn execMeasBondQuery_frame ⟨_, rfl⟩ rfl
  | .bitsQuery .. => .besideOwn execBitsQuery_frame ⟨_, rfl⟩ rfl
  | .nmeaOnOff .. => .besideOwn execNmeaOnOff_frame ⟨_, rfl⟩ rfl
  | .nmeaSet .. => .besideOwn execNmeaSet_frame ⟨_, rfl⟩ rfl
  | .nmeaRate .. => .besideOwn execNmeaRate_frame ⟨_, rfl⟩ rfl
  | .tideQuery .. => .besideOwn execTideQuery_frame ⟨_, rfl⟩ rfl
  | .tideSrc .. => .besideOwn execTideSrc_frame ⟨_, rfl⟩ rfl
  | .tideScale .. => .besideOwn execTideScale_frame ⟨_, rfl⟩ rfl
  | .tideLeap .. => .besideOwn execTideLeap_frame ⟨_, rfl⟩ rfl
  | .tideRate .. => .besideOwn execTideRate_frame ⟨_, rfl⟩ rfl
  | .tideLoop .. => .besideOwn execTideLoop_frame ⟨_, rfl⟩ rfl
  | .ttOnOff .. => .besideOwn execTtOnOff_frame ⟨_, rfl⟩ rfl
  | .ttSync .. => .besideOwn execTtSync_frame ⟨_, rfl⟩ rfl
  | .ttFollow .. => .besideOwn execTtFollow_frame ⟨_, rfl⟩ rfl
  | .ttDresp .. => .besideOwn execTtDresp_frame ⟨_, rfl⟩ rfl
  | .ttExchangeTimeout => .besideOwn execTtExchangeTimeout_frame ⟨_, rfl⟩ rfl
  | .ttQuery .. => .besideOwn execTtQuery_frame ⟨_, rfl⟩ rfl
  | .tpOnOff .. => .besideOwn execTpOnOff_frame ⟨_, rfl⟩ rfl
  | .tpSet .. => .besideOwn execTpSet_frame ⟨_, rfl⟩ rfl
  | .tpDelay .. => .besideOwn execTpDelay_frame ⟨_, rfl⟩ rfl
  | .tpPolicy .. => .besideOwn execTpPolicy_frame ⟨_, rfl⟩ rfl
  | .rtcMode .. => .besideOwn execRtcMode_frame ⟨_, rfl⟩ rfl
  | .rtcSet .. => .besideOwn execRtcSet_frame ⟨_, rfl⟩ rfl
  | .rtcShift .. => .besideOwn execRtcShift_frame ⟨_, rfl⟩ rfl
  | .rtcAlarm .. => .besideOwn execRtcAlarm_frame ⟨_, rfl⟩ rfl
  | .rtcTrickle .. => .besideOwn execRtcTrickle_frame ⟨_, rfl⟩ rfl
  | .rtcOsfQuery .. => .besideOwn execRtcOsfQuery_frame ⟨_, rfl⟩ rfl
  | .rtcOsfClear .. => .besideOwn execRtcOsfClear_frame ⟨_, rfl⟩ rfl
  | .logQuery .. => .besideOwn execLogQuery_frame ⟨_, rfl⟩ rfl
  | .logRead .. => .besideOwn execLogRead_frame ⟨_, rfl⟩ rfl
  | .logWrite .. => .besideOwn execLogWrite_frame ⟨_, rfl⟩ rfl
  | .logProtect .. => .besideOwn execLogProtect_frame ⟨_, rfl⟩ rfl
  | .logTallyQuery .. => .besideOwn execLogTallyQuery_frame ⟨_, rfl⟩ rfl
  | .adcMode .. => .besideOwn execAdcMode_frame ⟨_, rfl⟩ rfl
  | .adcRef .. => .besideOwn execAdcRef_frame ⟨_, rfl⟩ rfl
  | .adcReadQuery .. => .besideOwn execAdcReadQuery_frame ⟨_, rfl⟩ rfl
  | .touchMode .. => .besideOwn execTouchMode_frame ⟨_, rfl⟩ rfl
  | .touchOntime .. => .besideOwn execTouchOntime_frame ⟨_, rfl⟩ rfl
  | .touchTest .. => .besideOwn execTouchTest_frame ⟨_, rfl⟩ rfl
  | .lgtQuery .. => .besideOwn execLgtQuery_frame ⟨_, rfl⟩ rfl
  | .lgtLoad .. => .besideOwn execLgtLoad_frame ⟨_, rfl⟩ rfl
  | .lgtRun .. => .besideOwn execLgtRun_frame ⟨_, rfl⟩ rfl
  | .lgtStop .. => .besideOwn execLgtStop_frame ⟨_, rfl⟩ rfl
  | .lgtClrshift .. => .besideOwn execLgtClrshift_frame ⟨_, rfl⟩ rfl
  | .lgtDiv .. => .besideOwn execLgtDiv_frame ⟨_, rfl⟩ rfl
  | .signAttest .. => .besideOwn execSignAttest_frame ⟨_, rfl⟩ rfl
  | .signFix .. => .besideOwn execSignFix_frame ⟨_, rfl⟩ rfl
  | .signFixNow .. => .besideOwn execSignFixNow_frame ⟨_, rfl⟩ rfl
  | .signKeyQuery .. => .besideOwn execSignKeyQuery_frame ⟨_, rfl⟩ rfl
  | .lifeQuery .. => .besideOwn execLifeQuery_frame ⟨_, rfl⟩ rfl
  | .lifeGo .. => .ofFrame execLifeGo_frame ⟨_, rfl⟩ rfl rfl
  | .lifeImageLoad .. => .besideOwn execLifeImageLoad_frame ⟨_, rfl⟩ rfl
  | .imageDataByte .. => .besideOwn execImageDataByte_frame ⟨_, rfl⟩ rfl
  | .imageGapTimeout => .besideOwn execImageGapTimeout_frame ⟨_, rfl⟩ rfl
  | .lifeImageCommit .. => .besideOwn execLifeImageCommit_frame ⟨_, rfl⟩ rfl
  | .lifeImageQuery .. => .besideOwn execLifeImageQuery_frame ⟨_, rfl⟩ rfl
  | .testMem .. => .besideOwn execTestMem_frame ⟨_, rfl⟩ rfl
  | .testMemDone => .besideOwn execTestMemDone_frame ⟨_, rfl⟩ rfl
  | .testRf .. => .besideOwn execTestRf_frame ⟨_, rfl⟩ rfl
  | .testPin .. => .besideOwn execTestPin_frame ⟨_, rfl⟩ rfl
  | .antennaShort => .besideOwn execAntennaShort_frame ⟨_, rfl⟩ rfl
  | .replan .. => .besideOwn execReplan_frame ⟨_, rfl⟩ rfl
  | .laneAssign .. => .besideOwn execLaneAssign_frame ⟨_, rfl⟩ rfl
  | .bufferRecording .. => .besideOwn execBufferRecording_frame ⟨_, rfl⟩ rfl
  | .laneStart .. => .besideOwn execLaneStart_frame ⟨_, rfl⟩ rfl
  | .laneAbort .. => .besideOwn execLaneAbort_frame ⟨_, rfl⟩ rfl
  | .laneSearchEnd .. => .besideOwn execLaneSearchEnd_frame ⟨_, rfl⟩ rfl
  | .laneCodeRead .. => .besideOwn execLaneCodeRead_frame ⟨_, rfl⟩ rfl
  | .berthHandoff .. => .besideOwn execBerthHandoff_frame ⟨_, rfl⟩ rfl
  | .lookoutSnapGo .. => .besideOwn execLookoutSnapGo_frame ⟨_, rfl⟩ rfl
  | .snapshotCaptureEnd .. => .besideOwn execSnapshotCaptureEnd_frame ⟨_, rfl⟩ rfl
  | .lookoutSnapRelease .. => .besideOwn execLookoutSnapRelease_frame ⟨_, rfl⟩ rfl
  | .berthEnable .. => .besideOwn execBerthEnable_frame ⟨_, rfl⟩ rfl
  | .berthDisable .. => .besideOwn execBerthDisable_frame ⟨_, rfl⟩ rfl
  | .berthSignalChange .. => .besideOwn execBerthSignalChange_frame ⟨_, rfl⟩ rfl
  | .berthDump .. => .besideOwn execBerthDump_frame ⟨_, rfl⟩ rfl
  | .pdDump .. => .besideOwn execPdDump_frame ⟨_, rfl⟩ rfl
  | .berthIncWrite .. => .besideOwn execBerthIncWrite_frame ⟨_, rfl⟩ rfl
  | .berthLoadCode .. => .besideOwn execBerthLoadCode_frame ⟨_, rfl⟩ rfl
  | .berthLoadCarr .. => .besideOwn execBerthLoadCarr_frame ⟨_, rfl⟩ rfl
  | .berthDumpRead .. => .besideOwn execBerthDumpRead_frame ⟨_, rfl⟩ rfl
  | .sidePeakCheck .. => .besideOwn execSidePeakCheck_frame ⟨_, rfl⟩ rfl
  | .partnerStart .. => .besideOwn execPartnerStart_frame ⟨_, rfl⟩ rfl
  | .partnerDwellEnd .. => .besideOwn execPartnerDwellEnd_frame ⟨_, rfl⟩ rfl
  | .lockLoss .. => .besideOwn execLockLoss_frame ⟨_, rfl⟩ rfl
  | .burstWake => .besideOwn execBurstWake_frame ⟨_, rfl⟩ rfl
  | .burstWindowStart .. => .besideOwn execBurstWindowStart_frame ⟨_, rfl⟩ rfl
  | .epochInstant .. => .besideOwn execEpochInstant_frame ⟨_, rfl⟩ rfl
  | .epochClose => .besideOwn execEpochClose_frame ⟨_, rfl⟩ rfl
  | .startCleared .. => .besideOwn execStartCleared_frame ⟨_, rfl⟩ rfl
  | .startDeadline .. => .besideOwn execStartDeadline_frame ⟨_, rfl⟩ rfl
  | .fixRecordWrite .. => .besideOwn execFixRecordWrite_frame ⟨_, rfl⟩ rfl
  | .measqTailWrite .. => .besideOwn execMeasqTailWrite_frame ⟨_, rfl⟩ rfl
  | .bitlogTailWrite .. => .besideOwn execBitlogTailWrite_frame ⟨_, rfl⟩ rfl
  | .ringReconfigure .. => .besideOwn execRingReconfigure_frame ⟨_, rfl⟩ rfl
  | .measqFixRead => .besideOwn execMeasqFixRead_frame ⟨_, rfl⟩ rfl
  | .sillagePselWrite .. => .besideOwn execSillagePselWrite_frame ⟨_, rfl⟩ rfl
  | .osnmaTagCheck .. => .besideOwn execOsnmaTagCheck_frame ⟨_, rfl⟩ rfl
  | .osnmaTagExpiry => .besideOwn execOsnmaTagExpiry_frame ⟨_, rfl⟩ rfl
  | .frontOverload .. => .besideOwn execFrontOverload_frame ⟨_, rfl⟩ rfl
  | .overloadClear .. => .besideOwn execOverloadClear_frame ⟨_, rfl⟩ rfl
  | .notchSpectrum .. => .besideOwn execNotchSpectrum_frame ⟨_, rfl⟩ rfl
  | .notchRelease .. => .besideOwn execNotchRelease_frame ⟨_, rfl⟩ rfl
  | .tideNowlRead => .besideOwn execTideNowlRead_frame ⟨_, rfl⟩ rfl
  | .tideCtrlStep .. => .besideOwn execTideCtrlStep_frame ⟨_, rfl⟩ rfl
  | .tideStepApply => .besideOwn execTideStepApply_frame ⟨_, rfl⟩ rfl
  | .sourceTimeout .. => .besideOwn execSourceTimeout_frame ⟨_, rfl⟩ rfl
  | .leapApply => .besideOwn execLeapApply_frame ⟨_, rfl⟩ rfl
  | .tpinPulse .. => .besideOwn execTpinPulse_frame ⟨_, rfl⟩ rfl
  | .tpLeadingEdge => .besideOwn execTpLeadingEdge_frame ⟨_, rfl⟩ rfl
  | .tpTrailingEdge => .besideOwn execTpTrailingEdge_frame ⟨_, rfl⟩ rfl
  | .tpCtrlApply .. => .besideOwn execTpCtrlApply_frame ⟨_, rfl⟩ rfl
  | .wakeAlignment .. => .besideOwn execWakeAlignment_frame ⟨_, rfl⟩ rfl
  | .rtcSecondBoundary => .besideOwn execRtcSecondBoundary_frame ⟨_, rfl⟩ rfl
  | .rtcApplyNow .. => .besideOwn execRtcApplyNow_frame ⟨_, rfl⟩ rfl
  | .rtcApplySecond .. => .besideOwn execRtcApplySecond_frame ⟨_, rfl⟩ rfl
  | .rtcApplyCancel .. => .besideOwn execRtcApplyCancel_frame ⟨_, rfl⟩ rfl
  | .rtcShiftStart .. => .besideOwn execRtcShiftStart_frame ⟨_, rfl⟩ rfl
  | .rtcShiftEnd => .besideOwn execRtcShiftEnd_frame ⟨_, rfl⟩ rfl
  | .rtcBsecRead .. => .besideOwn execRtcBsecRead_frame ⟨_, rfl⟩ rfl
  | .rtcSnapshotExpiry .. => .besideOwn execRtcSnapshotExpiry_frame ⟨_, rfl⟩ rfl
  | .rtcOsfWrite .. => .besideOwn execRtcOsfWrite_frame ⟨_, rfl⟩ rfl
  | .rtcInterfaceLock .. => .besideOwn execRtcInterfaceLock_frame ⟨_, rfl⟩ rfl
  | .rtcInterfaceUnlock => .besideOwn execRtcInterfaceUnlock_frame ⟨_, rfl⟩ rfl
  | .backupDomainReset => .besideOwn execBackupDomainReset_frame ⟨_, rfl⟩ rfl
  | .rtcDiscipline => .besideOwn execRtcDiscipline_frame ⟨_, rfl⟩ rfl
  | .vbatQualify => .besideOwn execVbatQualify_frame ⟨_, rfl⟩ rfl
  | .vbatDisqualify => .besideOwn execVbatDisqualify_frame ⟨_, rfl⟩ rfl
  | .vstoreQualify => .besideOwn execVstoreQualify_frame ⟨_, rfl⟩ rfl
  | .vstoreDisqualify => .besideOwn execVstoreDisqualify_frame ⟨_, rfl⟩ rfl
  | .pathReturn => .besideOwn execPathReturn_frame ⟨_, rfl⟩ rfl
  | .pwrHoldLow => .besideOwn execPwrHoldLow_frame ⟨_, rfl⟩ rfl
  | .pwrBorWarn .. => .besideOwn execPwrBorWarn_frame ⟨_, rfl⟩ rfl
  | .graceExpiry => .besideOwn execGraceExpiry_frame ⟨_, rfl⟩ rfl
  | .tallySave => .besideOwn execTallySave_frame ⟨_, rfl⟩ rfl
  | .vbatBorAssert => .besideOwn execVbatBorAssert_frame ⟨_, rfl⟩ rfl
  | .vbatBorRelease .. => .ofFrame execVbatBorRelease_frame ⟨_, rfl⟩ rfl rfl
  | .coreBrownOut .. => .ofFrame execCoreBrownOut_frame ⟨_, rfl⟩ rfl rfl
  | .pwrPointWrite .. => .besideOwn execPwrPointWrite_frame ⟨_, rfl⟩ rfl
  | .pwrPointDone => .besideOwn execPwrPointDone_frame ⟨_, rfl⟩ rfl
  | .pwrRegWrite .. => .besideOwn execPwrRegWrite_frame ⟨_, rfl⟩ rfl
  | .domainSwitchOn .. => .besideOwn execDomainSwitchOn_frame ⟨_, rfl⟩ rfl
  | .domainSwitchOff .. => .besideOwn execDomainSwitchOff_frame ⟨_, rfl⟩ rfl
  | .pwrDomfWrite .. => .besideOwn execPwrDomfWrite_frame ⟨_, rfl⟩ rfl
  | .ioBankLoss .. => .besideOwn execIoBankLoss_frame ⟨_, rfl⟩ rfl
  | .sleepEntry => .besideOwn execSleepEntry_frame ⟨_, rfl⟩ rfl
  | .sleepExit .. => .ofFrame execSleepExit_frame ⟨_, rfl⟩ rfl rfl
  | .vocRefresh .. => .besideOwn execVocRefresh_frame ⟨_, rfl⟩ rfl
  | .ovpTrip => .besideOwn execOvpTrip_frame ⟨_, rfl⟩ rfl
  | .ovpRecover => .besideOwn execOvpRecover_frame ⟨_, rfl⟩ rfl
  | .uvpTrip => .besideOwn execUvpTrip_frame ⟨_, rfl⟩ rfl
  | .storeReconnect => .besideOwn execStoreReconnect_frame ⟨_, rfl⟩ rfl
  | .ocpTrip .. => .besideOwn execOcpTrip_frame ⟨_, rfl⟩ rfl
  | .shortCircuitTrip .. => .besideOwn execShortCircuitTrip_frame ⟨_, rfl⟩ rfl
  | .reconnectRetry => .besideOwn execReconnectRetry_frame ⟨_, rfl⟩ rfl
  | .harvProtClr .. => .besideOwn execHarvProtClr_frame ⟨_, rfl⟩ rfl
  | .temperatureSample .. => .besideOwn execTemperatureSample_frame ⟨_, rfl⟩ rfl
  | .bandChange .. => .besideOwn execBandChange_frame ⟨_, rfl⟩ rfl
  | .storeMeasure .. => .besideOwn execStoreMeasure_frame ⟨_, rfl⟩ rfl
  | .bpreqClassPulse .. => .besideOwn execBpreqClassPulse_frame ⟨_, rfl⟩ rfl
  | .permitClassWrite .. => .besideOwn execPermitClassWrite_frame ⟨_, rfl⟩ rfl
  | .bpreqGapTimeout => .besideOwn execBpreqGapTimeout_frame ⟨_, rfl⟩ rfl
  | .bpreqRequest .. => .besideOwn execBpreqRequest_frame ⟨_, rfl⟩ rfl
  | .bpreqDrop => .besideOwn execBpreqDrop_frame ⟨_, rfl⟩ rfl
  | .grantTimeout => .besideOwn execGrantTimeout_frame ⟨_, rfl⟩ rfl
  | .coldStart => .besideOwn execColdStart_frame ⟨_, rfl⟩ rfl
  | .coldStartBoot .. => .ofFrame execColdStartBoot_frame ⟨_, rfl⟩ rfl rfl
  | .clockReady .. => .besideOwn execClockReady_frame ⟨_, rfl⟩ rfl
  | .monitorWindow .. => .besideOwn execMonitorWindow_frame ⟨_, rfl⟩ rfl
  | .edgeDetectorFail .. => .besideOwn execEdgeDetectorFail_frame ⟨_, rfl⟩ rfl
  | .clockRetry => .besideOwn execClockRetry_frame ⟨_, rfl⟩ rfl
  | .clkCfgRetry .. => .besideOwn execClkCfgRetry_frame ⟨_, rfl⟩ rfl
  | .islandSourceRequest .. => .besideOwn execIslandSourceRequest_frame ⟨_, rfl⟩ rfl
  | .islandClockSwitch .. => .besideOwn execIslandClockSwitch_frame ⟨_, rfl⟩ rfl
  | .fllCount .. => .besideOwn execFllCount_frame ⟨_, rfl⟩ rfl
  | .syspllReferenceMove .. => .besideOwn execSyspllReferenceMove_frame ⟨_, rfl⟩ rfl
  | .clkRfsynUnlock .. => .besideOwn execClkRfsynUnlock_frame ⟨_, rfl⟩ rfl
  | .powerOnReset .. => .ofFrame execPowerOnReset_frame ⟨_, rfl⟩ rfl rfl
  | .nrstReset .. => .ofFrame execNrstReset_frame ⟨_, rfl⟩ rfl rfl
  | .sysWatchdogReset .. => .ofFrame execSysWatchdogReset_frame ⟨_, rfl⟩ rfl rfl
  | .appWatchdogExpiry => .ofFrame execAppWatchdogExpiry_frame ⟨_, rfl⟩ rfl rfl
  | .swrstApp .. => .ofFrame execSwrstApp_frame ⟨_, rfl⟩ rfl rfl
  | .swrstAll .. => .ofFrame execSwrstAll_frame ⟨_, rfl⟩ rfl rfl
  | .debugReset .. => .ofFrame execDebugReset_frame ⟨_, rfl⟩ rfl rfl
  | .wdtaServe .. => .besideOwn execWdtaServe_frame ⟨_, rfl⟩ rfl
  | .wdtaEnable => .besideOwn execWdtaEnable_frame ⟨_, rfl⟩ rfl
  | .alu .. => .besideOwn execAlu_frame ⟨_, rfl⟩ rfl
  | .add .. => .besideOwn execAdd_frame ⟨_, rfl⟩ rfl
  | .sub .. => .besideOwn execSub_frame ⟨_, rfl⟩ rfl
  | .and .. => .besideOwn execAnd_frame ⟨_, rfl⟩ rfl
  | .or .. => .besideOwn execOr_frame ⟨_, rfl⟩ rfl
  | .xor .. => .besideOwn execXor_frame ⟨_, rfl⟩ rfl
  | .nor .. => .besideOwn execNor_frame ⟨_, rfl⟩ rfl
  | .shl .. => .besideOwn execShl_frame ⟨_, rfl⟩ rfl
  | .shr .. => .besideOwn execShr_frame ⟨_, rfl⟩ rfl
  | .sra .. => .besideOwn execSra_frame ⟨_, rfl⟩ rfl
  | .cmplt .. => .besideOwn execCmplt_frame ⟨_, rfl⟩ rfl
  | .cmpltu .. => .besideOwn execCmpltu_frame ⟨_, rfl⟩ rfl
  | .cmpeq .. => .besideOwn execCmpeq_frame ⟨_, rfl⟩ rfl
  | .min .. => .besideOwn execMin_frame ⟨_, rfl⟩ rfl
  | .max .. => .besideOwn execMax_frame ⟨_, rfl⟩ rfl
  | .minu .. => .besideOwn execMinu_frame ⟨_, rfl⟩ rfl
  | .maxu .. => .besideOwn execMaxu_frame ⟨_, rfl⟩ rfl
  | .clz .. => .besideOwn execClz_frame ⟨_, rfl⟩ rfl
  | .mul .. => .besideOwn execMul_frame ⟨_, rfl⟩ rfl
  | .mulh .. => .besideOwn execMulh_frame ⟨_, rfl⟩ rfl
  | .mulhu .. => .besideOwn execMulhu_frame ⟨_, rfl⟩ rfl
  | .div .. => .besideOwn execDiv_frame ⟨_, rfl⟩ rfl
  | .divu .. => .besideOwn execDivu_frame ⟨_, rfl⟩ rfl
  | .rem .. => .besideOwn execRem_frame ⟨_, rfl⟩ rfl
  | .remu .. => .besideOwn execRemu_frame ⟨_, rfl⟩ rfl
  | .addi .. => .besideOwn execAddi_frame ⟨_, rfl⟩ rfl
  | .andi .. => .besideOwn execAndi_frame ⟨_, rfl⟩ rfl
  | .ori .. => .besideOwn execOri_frame ⟨_, rfl⟩ rfl
  | .xori .. => .besideOwn execXori_frame ⟨_, rfl⟩ rfl
  | .cmplti .. => .besideOwn execCmplti_frame ⟨_, rfl⟩ rfl
  | .cmpltui .. => .besideOwn execCmpltui_frame ⟨_, rfl⟩ rfl
  | .shi .. => .besideOwn execShi_frame ⟨_, rfl⟩ rfl
  | .lui .. => .besideOwn execLui_frame ⟨_, rfl⟩ rfl
  | .auipc .. => .besideOwn execAuipc_frame ⟨_, rfl⟩ rfl
  | .ldb .. => .besideOwn execLdb_frame ⟨_, rfl⟩ rfl
  | .ldbu .. => .besideOwn execLdbu_frame ⟨_, rfl⟩ rfl
  | .ldh .. => .besideOwn execLdh_frame ⟨_, rfl⟩ rfl
  | .ldhu .. => .besideOwn execLdhu_frame ⟨_, rfl⟩ rfl
  | .ldw .. => .besideOwn execLdw_frame ⟨_, rfl⟩ rfl
  | .stb .. => .ofFrame execStb_frame ⟨_, rfl⟩ rfl rfl
  | .sth .. => .ofFrame execSth_frame ⟨_, rfl⟩ rfl rfl
  | .stw .. => .ofFrame execStw_frame ⟨_, rfl⟩ rfl rfl
  | .checkWriteBack .. => .besideOwn execCheckWriteBack_frame ⟨_, rfl⟩ rfl
  | .beq .. => .besideOwn execBeq_frame ⟨_, rfl⟩ rfl
  | .bne .. => .besideOwn execBne_frame ⟨_, rfl⟩ rfl
  | .blt .. => .besideOwn execBlt_frame ⟨_, rfl⟩ rfl
  | .bge .. => .besideOwn execBge_frame ⟨_, rfl⟩ rfl
  | .bltu .. => .besideOwn execBltu_frame ⟨_, rfl⟩ rfl
  | .bgeu .. => .besideOwn execBgeu_frame ⟨_, rfl⟩ rfl
  | .jmp .. => .besideOwn execJmp_frame ⟨_, rfl⟩ rfl
  | .call .. => .besideOwn execCall_frame ⟨_, rfl⟩ rfl
  | .jrl .. => .besideOwn execJrl_frame ⟨_, rfl⟩ rfl
  | .fence .. => .besideOwn execFence_frame ⟨_, rfl⟩ rfl
  | .wait .. => .besideOwn execWait_frame ⟨_, rfl⟩ rfl
  | .eret .. => .besideOwn execEret_frame ⟨_, rfl⟩ rfl
  | .trap .. => .besideOwn execTrap_frame ⟨_, rfl⟩ rfl
  | .mfs .. => .besideOwn execMfs_frame ⟨_, rfl⟩ rfl
  | .mts .. => .besideOwn execMts_frame ⟨_, rfl⟩ rfl
  | .shortNop .. => .besideOwn execShortNop_frame ⟨_, rfl⟩ rfl
  | .shortMov .. => .besideOwn execShortMov_frame ⟨_, rfl⟩ rfl
  | .shortAdd .. => .besideOwn execShortAdd_frame ⟨_, rfl⟩ rfl
  | .shortSub .. => .besideOwn execShortSub_frame ⟨_, rfl⟩ rfl
  | .shortAnd .. => .besideOwn execShortAnd_frame ⟨_, rfl⟩ rfl
  | .shortOr .. => .besideOwn execShortOr_frame ⟨_, rfl⟩ rfl
  | .shortXor .. => .besideOwn execShortXor_frame ⟨_, rfl⟩ rfl
  | .shortShl .. => .besideOwn execShortShl_frame ⟨_, rfl⟩ rfl
  | .shortShr .. => .besideOwn execShortShr_frame ⟨_, rfl⟩ rfl
  | .shortSra .. => .besideOwn execShortSra_frame ⟨_, rfl⟩ rfl
  | .shortMul .. => .besideOwn execShortMul_frame ⟨_, rfl⟩ rfl
  | .shortCmplt .. => .besideOwn execShortCmplt_frame ⟨_, rfl⟩ rfl
  | .shortCmpltu .. => .besideOwn execShortCmpltu_frame ⟨_, rfl⟩ rfl
  | .shortCmpeq .. => .besideOwn execShortCmpeq_frame ⟨_, rfl⟩ rfl
  | .shortMovi .. => .besideOwn execShortMovi_frame ⟨_, rfl⟩ rfl
  | .shortAddi .. => .besideOwn execShortAddi_frame ⟨_, rfl⟩ rfl
  | .shortShli .. => .besideOwn execShortShli_frame ⟨_, rfl⟩ rfl
  | .shortShri .. => .besideOwn execShortShri_frame ⟨_, rfl⟩ rfl
  | .shortSrai .. => .besideOwn execShortSrai_frame ⟨_, rfl⟩ rfl
  | .shortAndi .. => .besideOwn execShortAndi_frame ⟨_, rfl⟩ rfl
  | .shortLdw .. => .besideOwn execShortLdw_frame ⟨_, rfl⟩ rfl
  | .shortStw .. => .ofFrame execShortStw_frame ⟨_, rfl⟩ rfl rfl
  | .ldwp .. => .besideOwn execLdwp_frame ⟨_, rfl⟩ rfl
  | .stwm .. => .ofFrame execStwm_frame ⟨_, rfl⟩ rfl rfl
  | .shortLdbu .. => .besideOwn execShortLdbu_frame ⟨_, rfl⟩ rfl
  | .shortStb .. => .ofFrame execShortStb_frame ⟨_, rfl⟩ rfl rfl
  | .br .. => .besideOwn execBr_frame ⟨_, rfl⟩ rfl
  | .bz .. => .besideOwn execBz_frame ⟨_, rfl⟩ rfl
  | .bnz .. => .besideOwn execBnz_frame ⟨_, rfl⟩ rfl
  | .jr .. => .besideOwn execJr_frame ⟨_, rfl⟩ rfl
  | .ret .. => .besideOwn execRet_frame ⟨_, rfl⟩ rfl
  | .shortFence .. => .besideOwn execShortFence_frame ⟨_, rfl⟩ rfl
  | .illegalWord .. => .besideOwn execIllegalWord_frame ⟨_, rfl⟩ rfl
  | .fetchUncorrectable .. => .besideOwn execFetchUncorrectable_frame ⟨_, rfl⟩ rfl
  | .mneEntry .. => .besideOwn execMneEntry_frame ⟨_, rfl⟩ rfl
  | .nmiEntry .. => .besideOwn execNmiEntry_frame ⟨_, rfl⟩ rfl
  | .dredgerBlock => .besideOwn execDredgerBlock_frame ⟨_, rfl⟩ rfl
  | .tamperWipe => .besideOwn execTamperWipe_frame ⟨_, rfl⟩ rfl
  | .wipeDone => .besideOwn execWipeDone_frame ⟨_, rfl⟩ rfl
  | .logsProg .. => .besideOwn execLogsProg_frame ⟨_, rfl⟩ rfl
  | .logsTwinWr .. => .besideOwn execLogsTwinWr_frame ⟨_, rfl⟩ rfl
  | .logsTwinRd .. => .besideOwn execLogsTwinRd_frame ⟨_, rfl⟩ rfl
  | .logsCommandStart => .besideOwn execLogsCommandStart_frame ⟨_, rfl⟩ rfl
  | .logsWriteDone => .besideOwn execLogsWriteDone_frame ⟨_, rfl⟩ rfl
  | .tallyEraseDone => .besideOwn execTallyEraseDone_frame ⟨_, rfl⟩ rfl
  | .manifestSourceEvent .. => .besideOwn execManifestSourceEvent_frame ⟨_, rfl⟩ rfl
  | .manPop0Read .. => .besideOwn execManPop0Read_frame ⟨_, rfl⟩ rfl
  | .manMaskWrite .. => .besideOwn execManMaskWrite_frame ⟨_, rfl⟩ rfl
  | .manPendWrite .. => .besideOwn execManPendWrite_frame ⟨_, rfl⟩ rfl
  | .manMaskset .. => .besideOwn execManMaskset_frame ⟨_, rfl⟩ rfl
  | .manMaskclr .. => .besideOwn execManMaskclr_frame ⟨_, rfl⟩ rfl
  | .manPendset .. => .besideOwn execManPendset_frame ⟨_, rfl⟩ rfl
  | .manPendclr .. => .besideOwn execManPendclr_frame ⟨_, rfl⟩ rfl
  | .manRaiseWrite .. => .besideOwn execManRaiseWrite_frame ⟨_, rfl⟩ rfl
  | .manCfgWrite .. => .besideOwn execManCfgWrite_frame ⟨_, rfl⟩ rfl
  | .mneModerationTimeout .. => .besideOwn execMneModerationTimeout_frame ⟨_, rfl⟩ rfl
  | .producerEvent .. => .besideOwn execProducerEvent_frame ⟨_, rfl⟩ rfl
  | .evrSwtrigWrite .. => .besideOwn execEvrSwtrigWrite_frame ⟨_, rfl⟩ rfl
  | .evrCapfRead .. => .besideOwn execEvrCapfRead_frame ⟨_, rfl⟩ rfl
  | .aonTick => .besideOwn execAonTick_frame ⟨_, rfl⟩ rfl
  | .lgtNop .. => .besideOwn execLgtNop_frame ⟨_, rfl⟩ rfl
  | .lgtXfer .. => .besideOwn execLgtXfer_frame ⟨_, rfl⟩ rfl
  | .lgtFill .. => .besideOwn execLgtFill_frame ⟨_, rfl⟩ rfl
  | .lgtDrain .. => .besideOwn execLgtDrain_frame ⟨_, rfl⟩ rfl
  | .lgtDrive .. => .besideOwn execLgtDrive_frame ⟨_, rfl⟩ rfl
  | .lgtAwait .. => .besideOwn execLgtAwait_frame ⟨_, rfl⟩ rfl
  | .lgtAwaitEnd .. => .besideOwn execLgtAwaitEnd_frame ⟨_, rfl⟩ rfl
  | .lgtAwaitTimeout .. => .besideOwn execLgtAwaitTimeout_frame ⟨_, rfl⟩ rfl
  | .lgtPause .. => .besideOwn execLgtPause_frame ⟨_, rfl⟩ rfl
  | .lgtSet .. => .besideOwn execLgtSet_frame ⟨_, rfl⟩ rfl
  | .lgtLoop .. => .besideOwn execLgtLoop_frame ⟨_, rfl⟩ rfl
  | .lgtJump .. => .besideOwn execLgtJump_frame ⟨_, rfl⟩ rfl
  | .lgtMove .. => .besideOwn execLgtMove_frame ⟨_, rfl⟩ rfl
  | .lgtNote .. => .besideOwn execLgtNote_frame ⟨_, rfl⟩ rfl
  | .lgtIllegal .. => .besideOwn execLgtIllegal_frame ⟨_, rfl⟩ rfl
  | .lgtStallEnd .. => .besideOwn execLgtStallEnd_frame ⟨_, rfl⟩ rfl
  | .lgtCmdRun .. => .besideOwn execLgtCmdRun_frame ⟨_, rfl⟩ rfl
  | .lgtCmdStop .. => .besideOwn execLgtCmdStop_frame ⟨_, rfl⟩ rfl
  | .lgtCmdClrshift .. => .besideOwn execLgtCmdClrshift_frame ⟨_, rfl⟩ rfl
  | .lgtCmdClrfifo .. => .besideOwn execLgtCmdClrfifo_frame ⟨_, rfl⟩ rfl
  | .lgtCmdSetpc .. => .besideOwn execLgtCmdSetpc_frame ⟨_, rfl⟩ rfl
  | .lgtTxfWrite .. => .besideOwn execLgtTxfWrite_frame ⟨_, rfl⟩ rfl
  | .lgtRxfRead .. => .besideOwn execLgtRxfRead_frame ⟨_, rfl⟩ rfl
  | .lgtImemWrite .. => .besideOwn execLgtImemWrite_frame ⟨_, rfl⟩ rfl
  | .uartCharacterReceived .. => .besideOwn execUartCharacterReceived_frame ⟨_, rfl⟩ rfl
  | .uartBreak .. => .besideOwn execUartBreak_frame ⟨_, rfl⟩ rfl
  | .uartLineFault .. => .besideOwn execUartLineFault_frame ⟨_, rfl⟩ rfl
  | .uartLineFaultClear .. => .besideOwn execUartLineFaultClear_frame ⟨_, rfl⟩ rfl
  | .uartStartEdgeWake .. => .besideOwn execUartStartEdgeWake_frame ⟨_, rfl⟩ rfl
  | .uartRxTimeout .. => .ofFrame execUartRxTimeout_frame ⟨_, rfl⟩ rfl rfl
  | .uartCharacterSent .. => .besideOwn execUartCharacterSent_frame ⟨_, rfl⟩ rfl
  | .uartDataRead .. => .besideOwn execUartDataRead_frame ⟨_, rfl⟩ rfl
  | .uartDataWrite .. => .besideOwn execUartDataWrite_frame ⟨_, rfl⟩ rfl
  | .uartRxstsRead .. => .besideOwn execUartRxstsRead_frame ⟨_, rfl⟩ rfl
  | .uartConfigApply .. => .besideOwn execUartConfigApply_frame ⟨_, rfl⟩ rfl
  | .i2ctAddressMatch .. => .besideOwn execI2ctAddressMatch_frame ⟨_, rfl⟩ rfl
  | .i2ctByteReceived .. => .besideOwn execI2ctByteReceived_frame ⟨_, rfl⟩ rfl
  | .i2ctByteSent => .besideOwn execI2ctByteSent_frame ⟨_, rfl⟩ rfl
  | .i2ctStretchTimeout => .besideOwn execI2ctStretchTimeout_frame ⟨_, rfl⟩ rfl
  | .i2ctStop => .besideOwn execI2ctStop_frame ⟨_, rfl⟩ rfl
  | .i2ctDataRead .. => .besideOwn execI2ctDataRead_frame ⟨_, rfl⟩ rfl
  | .i2ctDataWrite .. => .besideOwn execI2ctDataWrite_frame ⟨_, rfl⟩ rfl
  | .spiStart .. => .besideOwn execSpiStart_frame ⟨_, rfl⟩ rfl
  | .spiAbort .. => .besideOwn execSpiAbort_frame ⟨_, rfl⟩ rfl
  | .spiFrame .. => .besideOwn execSpiFrame_frame ⟨_, rfl⟩ rfl
  | .spiCsRaise .. => .besideOwn execSpiCsRaise_frame ⟨_, rfl⟩ rfl
  | .spiDataRead .. => .besideOwn execSpiDataRead_frame ⟨_, rfl⟩ rfl
  | .spiDataWrite .. => .besideOwn execSpiDataWrite_frame ⟨_, rfl⟩ rfl
  | .dmaStart .. => .besideOwn execDmaStart_frame ⟨_, rfl⟩ rfl
  | .dmaRequestUnit .. => .ofFrame execDmaRequestUnit_frame ⟨_, rfl⟩ rfl rfl
  | .adcStart .. => .besideOwn execAdcStart_frame ⟨_, rfl⟩ rfl
  | .adcStop .. => .besideOwn execAdcStop_frame ⟨_, rfl⟩ rfl
  | .adcFlush .. => .besideOwn execAdcFlush_frame ⟨_, rfl⟩ rfl
  | .adcResult .. => .besideOwn execAdcResult_frame ⟨_, rfl⟩ rfl
  | .adcFifoRead .. => .besideOwn execAdcFifoRead_frame ⟨_, rfl⟩ rfl
  | .adcRefReady => .besideOwn execAdcRefReady_frame ⟨_, rfl⟩ rfl
  | .adcCalOk => .besideOwn execAdcCalOk_frame ⟨_, rfl⟩ rfl
  | .touchScanStart => .besideOwn execTouchScanStart_frame ⟨_, rfl⟩ rfl
  | .touchSegment .. => .besideOwn execTouchSegment_frame ⟨_, rfl⟩ rfl
  | .touchSegmentDiscard => .besideOwn execTouchSegmentDiscard_frame ⟨_, rfl⟩ rfl
  | .touchDqiTimeout => .besideOwn execTouchDqiTimeout_frame ⟨_, rfl⟩ rfl
  | .touchScanEnd => .besideOwn execTouchScanEnd_frame ⟨_, rfl⟩ rfl
  | .touchCtrlStart .. => .besideOwn execTouchCtrlStart_frame ⟨_, rfl⟩ rfl
  | .touchCtrlTest .. => .besideOwn execTouchCtrlTest_frame ⟨_, rfl⟩ rfl
  | .touchCtrlRebase .. => .besideOwn execTouchCtrlRebase_frame ⟨_, rfl⟩ rfl
  | .touchCtrlSaveref .. => .besideOwn execTouchCtrlSaveref_frame ⟨_, rfl⟩ rfl
  | .touchTestEnd .. => .besideOwn execTouchTestEnd_frame ⟨_, rfl⟩ rfl
  | .proximitySample .. => .besideOwn execProximitySample_frame ⟨_, rfl⟩ rfl
  | .signingStart => .besideOwn execSigningStart_frame ⟨_, rfl⟩ rfl
  | .signingDone => .besideOwn execSigningDone_frame ⟨_, rfl⟩ rfl
  | .keyDerivationDone => .besideOwn execKeyDerivationDone_frame ⟨_, rfl⟩ rfl
  | .tapExtest .. => .besideOwn execTapExtest_frame ⟨_, rfl⟩ rfl
  | .tapSamplePreload .. => .besideOwn execTapSamplePreload_frame ⟨_, rfl⟩ rfl
  | .tapIdcode => .besideOwn execTapIdcode_frame ⟨_, rfl⟩ rfl
  | .tapClamp => .besideOwn execTapClamp_frame ⟨_, rfl⟩ rfl
  | .tapHighz => .besideOwn execTapHighz_frame ⟨_, rfl⟩ rfl
  | .tapDebug => .besideOwn execTapDebug_frame ⟨_, rfl⟩ rfl
  | .tapBypass => .besideOwn execTapBypass_frame ⟨_, rfl⟩ rfl
  | .trstnReset => .besideOwn execTrstnReset_frame ⟨_, rfl⟩ rfl
  | .gpioWakeEdge .. => .besideOwn execGpioWakeEdge_frame ⟨_, rfl⟩ rfl
  | .gpioEventEdge .. => .besideOwn execGpioEventEdge_frame ⟨_, rfl⟩ rfl
  | .gpioOutset .. => .besideOwn execGpioOutset_frame ⟨_, rfl⟩ rfl
  | .gpioOutclr .. => .besideOwn execGpioOutclr_frame ⟨_, rfl⟩ rfl
  | .holdOk => .besideOwn execHoldOk_frame ⟨_, rfl⟩ rfl
  | .ioBankReturn .. => .besideOwn execIoBankReturn_frame ⟨_, rfl⟩ rfl
  | .logRecoveryDone => .besideOwn execLogRecoveryDone_frame ⟨_, rfl⟩ rfl
  | .tideErrLimit => .besideOwn execTideErrLimit_frame ⟨_, rfl⟩ rfl

variable {s t : State}

/-- A step on a queue with a command at its front runs the command. -/
theorem step_of_pending {c : Instr} {r : List Instr} (h : s.pending = c :: r) :
    step s = exec c { s with pending := r } := by
  unfold step
  rw [h]

theorem step_of_idle (h : s.pending = []) : step s = .next s.tideTick.logTick := by
  unfold step
  rw [h]

/-- A step that goes on keeps the canonical form: a tick by the frames of its two parts, a command by its own. -/
theorem step_keeps_wf (hs : s.Wf) (h : step s = .next t) : t.Wf := by
  cases hq : s.pending with
  | nil =>
    obtain rfl := Host.Outcome.next.inj ((step_of_idle hq).symm.trans h)
    exact State.logTick_frame.wf (State.tideTick_frame.wf hs)
  | cons c r =>
    obtain ⟨u, hu, hframe, -⟩ := exec_answers c { s with pending := r }
    obtain rfl := Host.Outcome.next.inj (hu.symm.trans ((step_of_pending hq).symm.trans h))
    exact hframe.wf (State.set_pending_frame.wf hs)

theorem goesOn (s : State) : GoesOn s := by
  unfold GoesOn
  cases hq : s.pending with
  | nil => exact ⟨_, step_of_idle hq⟩
  | cons c r =>
    obtain ⟨u, hu, -, -⟩ := exec_answers c { s with pending := r }
    exact ⟨u, (step_of_pending hq).trans hu⟩

/-- What leaves OWNLVL out leaves every owner and every level. -/
theorem Machine.Frame.owner_level {e : List Part} (h : Frame e s t) (hn : Part.sub [.rOwn] e = false) (b : Block) :
    t.owner b = s.owner b ∧ t.expert b = s.expert b := by
  unfold State.owner State.expert State.on
  rw [h.get F.OWNLVL_OWNER_part hn, h.get F.OWNLVL_LEVEL_part hn]
  exact ⟨rfl, rfl⟩

/-- Settles O1: by the equation of a step on a queue that is not empty. -/
theorem stepRunsFrontCommand : Obligations.StepRunsFrontCommand := by
  unfold Obligations.StepRunsFrontCommand
  rintro s c r rfl
  exact step_of_pending rfl

/-- Settles O2. -/
theorem idleStepIsATick : Obligations.IdleStepIsATick := by
  unfold Obligations.IdleStepIsATick
  exact fun _ => step_of_idle

/-- Settles O3: after reset the registers, the memory and the check bits list no key. -/
theorem resetIsCanonical : Obligations.ResetIsCanonical := by
  unfold Obligations.ResetIsCanonical State.Wf Memory.wf
  exact ⟨⟨Store.wf_nil, Store.wf_nil, Store.wf_nil⟩, rfl⟩

/-- Settles O4: the frame of every command carries the canonical form. -/
theorem everyStepKeepsCanonicalForm : Obligations.EveryStepKeepsCanonicalForm := by
  unfold Obligations.EveryStepKeepsCanonicalForm
  exact fun _ _ => step_keeps_wf

/-- Settles O5: the frame of every command leaves the queue out. -/
theorem everyCommandAnswers : Obligations.EveryCommandAnswers := by
  unfold Obligations.EveryCommandAnswers
  refine ⟨fun c s => ?_, goesOn⟩
  obtain ⟨t, ht, hframe, -⟩ := exec_answers c s
  exact ⟨t, ht, hframe.same .pending rfl⟩

/-- Settles O6: the frames of the commands that are not listed leave OWNLVL out. -/
theorem ownersChangeOnlyByRequest : Obligations.OwnersChangeOnlyByRequest := by
  unfold Obligations.OwnersChangeOnlyByRequest
  intro c s t hc ht b
  obtain ⟨u, hu, -, hframe⟩ := exec_answers c s
  obtain rfl := Host.Outcome.next.inj (hu.symm.trans ht)
  exact (hframe hc).owner_level rfl b

end Sys2Proof


namespace Sys2Proof.Machine

/-! Output of the console (R71 to R75): sending lines changes the queues of the sessions, and nothing of what they receive or
how they are set. -/

/-- A session but for its output queue and what was dropped from it. -/
def Session.unsent (c : Session) : Session :=
  { c with out := [], stalled := [], lostNmea := 0, lostNotice := 0, dropEpoch := none }

/-- From `s` to `t` the console has sent lines at most: the sessions differ in their queues alone, and GO reads as before. -/
structure SendsOnly (s t : State) : Prop where
  sess : ∀ y, (t.sess y).unsent = (s.sess y).unsent
  go : t.get F.QUAY_GO = s.get F.QUAY_GO

namespace SendsOnly

variable {s t u : State}

theorem refl : SendsOnly s s := ⟨fun _ => rfl, rfl⟩

theorem trans (h : SendsOnly s t) (k : SendsOnly t u) : SendsOnly s u :=
  ⟨fun y => (k.sess y).trans (h.sess y), k.go.trans h.go⟩

/-- What leaves the console and the mailbox alone sends nothing. -/
theorem of_frame {e : List Part} (h : Frame e s t) (hc : Part.sub [.console] e = false)
    (hq : Part.sub [.rQuay] e = false) : SendsOnly s t := by
  have hcon : t.console = s.console := h.same .console hc
  refine ⟨fun y => ?_, h.get (of_decide_eq_true rfl : F.QUAY_GO.part = .rQuay) hq⟩
  cases y <;> simp only [State.sess, hcon]

theorem of_setSess {x : Sess} {c : Session} (h : c.unsent = (s.sess x).unsent) : SendsOnly s (s.setSess x c) := by
  refine ⟨fun y => ?_, rfl⟩
  by_cases hy : y = x
  · rw [hy, State.sess_setSess_same, h]
  · rw [State.sess_setSess_other s c hy]

theorem ite {c : Prop} [Decidable c] {a b : State} (ha : SendsOnly s a) (hb : SendsOnly s b) :
    SendsOnly s (if c then a else b) := by
  split
  · exact ha
  · exact hb

theorem foldl {β : Type} {f : State → β → State} (h : ∀ t x, SendsOnly t (f t x)) (l : List β) (t : State) :
    SendsOnly t (l.foldl f t) := by
  induction l generalizing t with
  | nil => exact refl
  | cons x r ih => exact (h t x).trans (ih _)

theorem line (h : SendsOnly s t) (y : Sess) : (t.sess y).line = (s.sess y).line := (congrArg Session.line (h.sess y) :)
theorem count (h : SendsOnly s t) (y : Sess) : (t.sess y).count = (s.sess y).count := (congrArg Session.count (h.sess y) :)
theorem bad (h : SendsOnly s t) (y : Sess) : (t.sess y).bad = (s.sess y).bad := (congrArg Session.bad (h.sess y) :)
theorem check (h : SendsOnly s t) (y : Sess) : (t.sess y).check = (s.sess y).check := (congrArg Session.check (h.sess y) :)

end SendsOnly

theorem makeRoom_unsent (f need : Nat) (c : Session) : (makeRoom f need c).unsent = c.unsent := by
  induction f generalizing c with
  | zero => rfl
  | succ f ih =>
    rw [makeRoom]
    split
    · rfl
    · split
      · exact ih _
      · split
        · exact ih _
        · rfl

theorem Session.queue_unsent (c : Session) (l : OutLine) : (c.queue l).unsent = c.unsent := by
  have hroom := makeRoom_unsent (c.out.length + 1) l.text.length c
  unfold Session.queue
  dsimp only
  split
  · rfl
  · split
    · rfl
    · repeat' split
      all_goals exact hroom

theorem State.withTag_sendsOnly (s : State) (t : String) : SendsOnly s (s.withTag t) := ⟨fun y => by cases y <;> rfl, rfl⟩

theorem State.reportLost_sendsOnly (s : State) (x : Sess) : SendsOnly s (s.reportLost x) := by
  unfold State.reportLost
  dsimp only
  refine .ite .refl (.ite ?_ .refl)
  refine SendsOnly.trans (t := s.setSess x _) (.of_setSess ?_) (.of_frame State.source_frame rfl rfl)
  rfl

theorem State.quayLine_sendsOnly (s : State) (t : String) : SendsOnly s (s.quayLine t) := by
  have hput : ∀ (u : State) (f : Fld) (v : Nat), F.QUAY_GO.key ≠ f.key → SendsOnly u (u.put f v) := fun u f v h =>
    ⟨fun y => by cases y <;> rfl, u.get_put_other v h⟩
  unfold State.quayLine
  refine .ite ?_ (hput s _ 1 (by decide))
  exact ((SendsOnly.of_frame State.ringWrite_frame rfl rfl).trans (hput _ _ _ (by decide))).trans
    (.of_frame State.sourceIn_frame rfl rfl)

theorem State.emit_sendsOnly (s : State) (x : Sess) (prio cls epoch : Nat) (t : String) :
    SendsOnly s (s.emit x prio cls epoch .nothing t) := by
  have hqueue : ∀ l, SendsOnly s ((s.setSess x ((s.sess x).queue l)).reportLost x) := fun l =>
    (SendsOnly.of_setSess (Session.queue_unsent _ l)).trans (State.reportLost_sendsOnly _ x)
  unfold State.emit
  split
  · exact s.quayLine_sendsOnly _
  · split
    · exact hqueue _
    · exact .refl

theorem State.sendPrompt_sendsOnly (s : State) (x : Sess) : SendsOnly s (s.sendPrompt x) := by
  cases x with
  | quay => exact .refl
  | uart0 => exact .of_setSess (Session.queue_unsent _ _)
  | i2c => exact .of_setSess (Session.queue_unsent _ _)

theorem State.finish_sendsOnly (s : State) (x : Sess) (t : String) : SendsOnly s (s.finish x .nothing t) := by
  have hemit := s.emit_sendsOnly x 4 0 0 (s.console.tag ++ t)
  exact .ite (hemit.trans (State.sendPrompt_sendsOnly _ x)) hemit

theorem State.ok_sendsOnly (s : State) (x : Sess) : SendsOnly s (s.ok x) := s.finish_sendsOnly x "OK"

theorem State.er_sendsOnly (s : State) (x : Sess) (n : Nat) : SendsOnly s (s.er x n) := s.finish_sendsOnly x _

theorem State.set_waiting_sendsOnly (s : State) (l : List (Sess × HostLine)) :
    SendsOnly s { s with console := { s.console with waiting := l } } := ⟨fun y => by cases y <;> rfl, rfl⟩

/-- A line that arrives waits, or is answered BUSY: its session's partial line is not touched. -/
theorem State.lineArrives_sendsOnly (s : State) (x : Sess) (l : HostLine) : SendsOnly s (s.lineArrives x l) :=
  .ite (((s.withTag_sendsOnly _).trans (State.er_sendsOnly _ x 105)).trans (State.withTag_sendsOnly _ ""))
    (s.set_waiting_sendsOnly _)

theorem State.withdrawTest_sendsOnly (s : State) (x : Sess) : SendsOnly s (s.withdrawTest x) := by
  unfold State.withdrawTest
  split
  · refine .ite ?_ .refl
    exact ((((SendsOnly.of_frame State.set_touch_frame rfl rfl).trans (State.withTag_sendsOnly _ _)).trans
      (State.er_sendsOnly _ x 130)).trans (State.withTag_sendsOnly _ ""))
  · exact .refl

theorem State.withdrawLong_sendsOnly (s : State) (x : Sess) : SendsOnly s (s.withdrawLong x) :=
  (((s.withdrawTest_sendsOnly x).trans (State.set_waiting_sendsOnly _ _)).trans
    (.foldl (fun t _ => (t.withTag_sendsOnly _).trans (State.er_sendsOnly _ x 130)) _ _)).trans (State.withTag_sendsOnly _ "")

end Sys2Proof.Machine


namespace Sys2Proof.Machine

/-! What a session receives (R50 to R57, R62 to R64, R77). -/

variable {s : State} {x : Sess}

@[simp] theorem State.setSess_sess (s : State) (x : Sess) : s.setSess x (s.sess x) = s := by cases x <;> rfl

@[simp] theorem State.setSess_setSess (s : State) (x : Sess) (c d : Session) :
    (s.setSess x c).setSess x d = s.setSess x d := by cases x <;> rfl

/-- A session that serves outside the mailbox and is not discarded by autobaud receives. -/
def State.receives (s : State) (x : Sess) : Prop :=
  x ≠ .quay ∧ s.serves x = true ∧ ¬(x = .uart0 ∧ s.console.autobaud = true)

theorem State.armed_eq_false_iff : s.armed x = false ↔ ¬(x = .uart0 ∧ s.console.autobaud = true) := by
  simp [State.armed]

/-- A received byte that is no control of its own, or is flagged, is kept in its line (R55 to R57). -/
theorem State.hostByte_char (h : s.receives x) {c : Byte} {flagged : Bool}
    (hc : flagged = true ∨ c ∉ ([3, 8, 10, 13, 0x7F] : List Byte)) :
    s.hostByte x c flagged = s.setSess x ((s.sess x).char c flagged) := by
  obtain ⟨hq, hserves, harmed⟩ := h
  have harmed := State.armed_eq_false_iff.mpr harmed
  unfold State.hostByte
  rw [if_neg (by simp [hq, hserves]), if_neg (by simp [harmed])]
  cases flagged with
  | true => exact if_pos rfl
  | false =>
    simp only [Bool.false_eq_true, false_or, List.mem_cons, List.not_mem_nil, or_false, not_or] at hc
    obtain ⟨h3, h8, h10, h13, hdel⟩ := hc
    rw [if_neg Bool.false_ne_true, if_neg h10, if_neg h13, if_neg h3, if_neg (not_or.mpr ⟨h8, hdel⟩)]

/-- A received control character acts as its own command does. -/
theorem State.hostByte_control (h : s.receives x) {c : Byte} :
    s.hostByte x c false = if c = 10 then s else if c = 13 then s.lineEnd x else if c = 3 then s.ctrlC x
      else if c = 8 ∨ c = 0x7F then s.backspace x else s.setSess x ((s.sess x).char c false) := by
  obtain ⟨hq, hserves, harmed⟩ := h
  have harmed := State.armed_eq_false_iff.mpr harmed
  unfold State.hostByte
  rw [if_neg (by simp [hq, hserves]), if_neg (by simp [harmed]), if_neg Bool.false_ne_true]

theorem State.backspace_of_receives (h : s.receives x) : s.backspace x = s.setSess x (s.sess x).back := by
  obtain ⟨hq, hserves, harmed⟩ := h
  unfold State.backspace
  rw [if_neg (by simp [hq, hserves]), if_neg (by simp [State.armed_eq_false_iff.mpr harmed])]

theorem execCtrlC_of_serves (hserves : s.serves x = true) (harmed : ¬(x = .uart0 ∧ s.console.autobaud = true)) :
    execCtrlC x s = .next (s.ctrlC x) := by
  unfold execCtrlC
  rw [if_neg (by simp [hserves]), if_neg (by simp [State.armed_eq_false_iff.mpr harmed])]

theorem Session.char_line_of_room {c : Session} {b : Byte} {flagged : Bool} (h : c.count < 160) :
    (c.char b flagged).line.map (·.1) = c.line.map (·.1) ++ [Char.ofNat b.toNat] := by
  simp [Session.char, h]

theorem Session.char_line_of_full {c : Session} {b : Byte} {flagged : Bool} (h : 160 ≤ c.count) :
    (c.char b flagged).line = c.line := by
  simp [Session.char, Nat.not_lt.mpr h]

theorem Session.back_of_empty {c : Session} (h : c.count = 0) : c.back = c := if_pos h

theorem Session.back_count {c : Session} : c.back.count = c.count - 1 := by
  unfold Session.back
  split
  · omega
  · split <;> rfl

theorem Session.back_line {c : Session} (h : c.count ≠ 0) :
    c.back.line = if c.count ≤ 160 then c.line.dropLast else c.line := by
  unfold Session.back
  rw [if_neg h]
  by_cases h160 : c.count ≤ 160
  · rw [if_neg (by omega), if_pos h160]
  · rw [if_pos (by omega), if_neg h160]

/-- Ctrl-C leaves the session with an empty partial line; the prompt and the withdrawals only send (R62, R64). -/
theorem State.ctrlC_clears (s : State) (x : Sess) :
    ((s.ctrlC x).sess x).line = [] ∧ ((s.ctrlC x).sess x).count = 0 ∧ ((s.ctrlC x).sess x).bad = false := by
  have hclear : ∀ (c : Session) (t : State), c.line = [] → c.count = 0 → c.bad = false → SendsOnly (s.setSess x c) t →
      (t.sess x).line = [] ∧ (t.sess x).count = 0 ∧ (t.sess x).bad = false := fun c t hl hn hb h => by
    rw [h.line, h.count, h.bad, State.sess_setSess_same]
    exact ⟨hl, hn, hb⟩
  unfold State.ctrlC
  dsimp only
  split
  · exact hclear _ _ rfl rfl rfl ((State.sendPrompt_sendsOnly _ x).trans (State.withdrawLong_sendsOnly _ x))
  · exact hclear _ _ rfl rfl rfl (State.withdrawLong_sendsOnly _ x)

theorem State.lineArrives_of_room {l : HostLine} (h : s.waitingOf x < 3) :
    s.lineArrives x l = { s with console := { s.console with waiting := s.console.waiting ++ [(x, l)] } } :=
  if_neg (by omega)

@[simp] theorem State.setSess_waiting (s : State) (x : Sess) (c : Session) :
    (s.setSess x c).console.waiting = s.console.waiting := by cases x <;> rfl

@[simp] theorem State.waitingOf_setSess (s : State) (x y : Sess) (c : Session) :
    (s.setSess x c).waitingOf y = s.waitingOf y := by
  unfold State.waitingOf
  rw [State.setSess_waiting]

/-- A line ends: its text joins the waiting ones while fewer than three wait, and a new line begins (R50, R55). -/
theorem State.lineEnd_of_receives (h : s.receives x) (hroom : s.waitingOf x < 3) :
    ((s.lineEnd x).sess x).line = [] ∧ ((s.lineEnd x).sess x).count = 0 ∧ (s.lineEnd x).console.waiting =
      s.console.waiting ++ [(x, ⟨(s.sess x).line.map (·.1), (s.sess x).count, (s.sess x).bad, (s.sess x).lost⟩)] := by
  obtain ⟨hq, hserves, harmed⟩ := h
  have harmed := State.armed_eq_false_iff.mpr harmed
  unfold State.lineEnd
  rw [if_neg (by simp [hq, hserves, harmed])]
  refine ⟨?line, ?count, ?waiting⟩
  case line => rw [(State.lineArrives_sendsOnly _ x _).line, State.sess_setSess_same]; rfl
  case count => rw [(State.lineArrives_sendsOnly _ x _).count, State.sess_setSess_same]; rfl
  case waiting =>
    rw [State.lineArrives_of_room (by rwa [State.waitingOf_setSess])]
    exact congrArg (· ++ _) (s.setSess_waiting x _)

/-! The mailbox (R52, R57, R672). -/

/-- The bytes of a mailbox line without controls of their own are kept in order, one by one. -/
theorem foldl_mailboxByte_of_plain {l : List Byte} {c : Session}
    (hplain : ∀ b ∈ l, b ∉ ([3, 8, 10, 13, 0x7F] : List Byte)) (hroom : c.count + l.length ≤ 160) :
    (l.foldl Session.mailboxByte c).line.map (·.1) = c.line.map (·.1) ++ l.map (fun b => Char.ofNat b.toNat) ∧
      (l.foldl Session.mailboxByte c).count = c.count + l.length := by
  induction l generalizing c with
  | nil => simp
  | cons b r ih =>
    obtain ⟨hb, hr⟩ := List.forall_mem_cons.mp hplain
    simp only [List.mem_cons, List.not_mem_nil, or_false, not_or] at hb
    obtain ⟨h3, h8, h10, h13, hdel⟩ := hb
    have hbyte : c.mailboxByte b = c.char b false := by
      unfold Session.mailboxByte
      rw [if_neg (not_or.mpr ⟨h8, hdel⟩), if_neg h3, if_neg (not_or.mpr ⟨h10, h13⟩)]
    simp only [List.length_cons] at hroom
    obtain ⟨hline, hcount⟩ := ih (c := c.char b false) hr (by simp only [Session.char]; omega)
    rw [List.foldl_cons, hbyte, hline, hcount, Session.char_line_of_room (by omega)]
    refine ⟨by simp, ?_⟩
    simp only [Session.char, List.length_cons]
    omega

theorem State.bytes_length (s : State) (a n : Nat) : (s.bytes a n).length = n := by simp [State.bytes]

theorem State.put_waitingOf (s : State) (f : Fld) (v : Nat) (x : Sess) : (s.put f v).waitingOf x = s.waitingOf x := rfl

/-- A submitted line clears GO, whatever becomes of it (R672). -/
theorem execQuayLineCopy_clears_go (h : s.on F.QUAY_GO = true) :
    ∃ t : State, execQuayLineCopy s = .next t ∧ t.on F.QUAY_GO = false := by
  refine ⟨_, congrArg Host.Outcome.next (if_pos h), ?_⟩
  have hgo : (s.put F.QUAY_GO 0).get F.QUAY_GO = 0 := s.get_put_same F.QUAY_GO 0
  have hwithdraw : SendsOnly (s.put F.QUAY_GO 0) (if (s.bytes 0x70000100 (min (s.get F.QUAY_LEN) 160)).contains 3
      then (s.put F.QUAY_GO 0).withdrawLong .quay else s.put F.QUAY_GO 0) :=
    .ite (State.withdrawLong_sendsOnly _ .quay) .refl
  exact State.on_eq_false_iff.mpr ((hwithdraw.trans (State.lineArrives_sendsOnly _ .quay _)).go.trans hgo)

/-- A submitted line without controls joins the waiting ones with the copied text and the length of LEN (R672). -/
theorem execQuayLineCopy_of_plain (h : s.on F.QUAY_GO = true) (hroom : s.waitingOf .quay < 3)
    (hplain : ∀ b ∈ s.bytes 0x70000100 (min (s.get F.QUAY_LEN) 160), b ∉ ([3, 8, 10, 13, 0x7F] : List Byte)) :
    ∃ (t : State) (l : HostLine), execQuayLineCopy s = .next t ∧ t.console.waiting = s.console.waiting ++ [(.quay, l)] ∧
      l.count = s.get F.QUAY_LEN ∧
      l.text = (s.bytes 0x70000100 (min (s.get F.QUAY_LEN) 160)).map fun b => Char.ofNat b.toNat := by
  have hlen := s.bytes_length 0x70000100 (min (s.get F.QUAY_LEN) 160)
  have hnoCtrlC : (s.bytes 0x70000100 (min (s.get F.QUAY_LEN) 160)).contains 3 = false := by
    rw [List.contains_eq_mem, decide_eq_false_iff_not]
    exact fun hmem => hplain 3 hmem (by simp)
  obtain ⟨hline, hcount⟩ := foldl_mailboxByte_of_plain (c := Session.reset false) hplain
    (by rw [hlen, show (Session.reset false).count = 0 from rfl]; omega)
  refine ⟨_, ?line, congrArg Host.Outcome.next (if_pos h), ?waiting, ?count, ?text⟩
  case waiting =>
    dsimp only
    rw [hnoCtrlC, if_neg Bool.false_ne_true, State.lineArrives_of_room (s := s.put F.QUAY_GO 0) hroom]
    rfl
  case count =>
    dsimp only
    rw [hcount, hlen, show (Session.reset false).count = 0 from rfl]
    split <;> omega
  case text => exact hline

/-! Output (R63, R75) and autobaud (R77). -/

/-- Room for output, with nothing stalled or lost after what goes out, is its transmission alone. -/
theorem execOutputRoom_of_quiet {c : Session} (hx : x ≠ .quay) (ht : s.transmit x = s.setSess x c) (hst : c.stalled = [])
    (hn : c.lostNmea = 0) (hc : c.lostNotice = 0) : execOutputRoom x s = .next (s.setSess x c) := by
  have hretry : Session.retry (c.stalled.length + 1) c = c := by simp [Session.retry, hst]
  have hquiet : (s.setSess x c).reportLost x = s.setSess x c :=
    if_pos (by rw [State.sess_setSess_same, hn, hc])
  unfold execOutputRoom
  rw [if_neg hx, ht]
  dsimp only
  rw [State.sess_setSess_same, hretry]
  exact congrArg Host.Outcome.next ((congrArg (State.reportLost · x) (s.setSess_setSess x c c)).trans hquiet)

theorem State.transmit_echo (h : (s.sess x).echo ≠ "") :
    s.transmit x = s.setSess x { s.sess x with wire := (s.sess x).echo, echo := "" } := if_pos (by simpa using h)

/-- Outside TYPED mode the first line of the queue goes out. -/
theorem State.transmit_line {o : OutLine} {r : List OutLine} (hecho : (s.sess x).echo = "") (htyped : (s.sess x).typed = false)
    (hout : (s.sess x).out = o :: r) (hafter : o.after = .nothing) :
    s.transmit x = s.setSess x { s.sess x with
      out := r, wire := o.text, atPrompt := o.text == promptText true || o.text == promptText false } := by
  unfold State.transmit
  dsimp only
  rw [if_neg (by simp [hecho]), hout]
  dsimp only
  rw [if_neg (by simp [htyped]), hafter]
  rfl

@[simp] theorem State.sendPrompt_autobaud (s : State) (x : Sess) :
    (s.sendPrompt x).console.autobaud = s.console.autobaud ∧ (s.sendPrompt x).console.rate = s.console.rate ∧
      (s.sendPrompt x).console.lastCr = s.console.lastCr := by
  cases x <;> exact ⟨rfl, rfl, rfl⟩

/-- A second CR within 3 % of the first sets the mean rate and disarms (R77). -/
theorem execAutobaudCharacter_of_near {r rate : Nat} (harmed : s.console.autobaud = true) (hcr : s.console.lastCr = some r)
    (hnear : (max r rate - min r rate) * 100 ≤ 3 * r) :
    ∃ t : State, execAutobaudCharacter 13 rate s = .next t ∧ t.console.autobaud = false ∧ t.console.rate = (r + rate) / 2 ∧
      t.console.lastCr = none := by
  unfold execAutobaudCharacter
  rw [if_neg (by simp [harmed]), if_neg (not_not_intro rfl), hcr]
  dsimp only
  rw [if_pos hnear]
  refine ⟨_, rfl, ?_⟩
  split
  · obtain ⟨h1, h2, h3⟩ := State.sendPrompt_autobaud { s with console :=
      { s.console with autobaud := false, lastCr := none, rate := (r + rate) / 2 } } .uart0
    exact ⟨h1, h2, h3⟩
  · exact ⟨rfl, rfl, rfl⟩

theorem execAutobaudCharacter_keeps {r : Option Nat} {rate : Nat} (harmed : s.console.autobaud = true)
    (hcr : s.console.lastCr = r) (hfar : ∀ k, r = some k → 3 * k < (max k rate - min k rate) * 100) :
    execAutobaudCharacter 13 rate s = .next { s with console := { s.console with lastCr := some rate } } := by
  unfold execAutobaudCharacter
  rw [if_neg (by simp [harmed]), if_neg (not_not_intro rfl), hcr]
  cases r with
  | none => rfl
  | some k => exact congrArg Host.Outcome.next (if_neg (Nat.not_le.mpr (hfar k rfl)))

theorem execAutobaudCharacter_of_other {c : Byte} {rate : Nat} (harmed : s.console.autobaud = true) (hc : c ≠ 13) :
    execAutobaudCharacter c rate s = .next s.newPair := by
  unfold execAutobaudCharacter
  rw [if_neg (by simp [harmed]), if_pos hc]

theorem State.hostByte_of_autobaud {c : Byte} {flagged : Bool} (harmed : s.console.autobaud = true) (hc : c ≠ 13) :
    s.hostByte .uart0 c flagged = s.newPair := by
  unfold State.hostByte
  rw [if_neg (by simp [State.serves]), if_pos (by simp [State.armed, harmed]), if_neg hc]

end Sys2Proof.Machine

namespace Sys2Proof

open Sys2Proof.Machine

/-- Settles O7: the partial line, its count and its marks are outside what sending lines changes. -/
theorem sessionInput : Obligations.SessionInput := by
  unfold Obligations.SessionInput
  refine ⟨fun x c flagged s h hc => ?character, fun x s h => ?controls, fun c flagged s ha hc => ?armed,
    fun x s h => ⟨fun h0 => ?backEmpty, fun h0 => ?back⟩, fun x s hs ha => ?ctrlC, fun s => ?quayBreak,
    fun x s h hroom => ?lineEnd, fun s => rfl, fun s h => ?copyIdle, fun s h => execQuayLineCopy_clears_go h,
    fun s h hroom hplain => ?copy, fun v s => rfl, fun c rate s ha => ⟨fun hc => ?otherChar, fun hcr => ?firstCr⟩,
    fun r rate s ha hcr => ⟨execAutobaudCharacter_of_near ha hcr, fun hfar => ?farCr⟩,
    fun r s h => ?baud, fun s h => ?baudAuto, fun x m s h => ?mode,
    fun x s hx hst hn hc => ⟨fun he => ?echo, fun o r he ht ho hafter => ?line⟩⟩
  case character =>
    refine ⟨_, congrArg Host.Outcome.next (State.hostByte_char h hc), ?_⟩
    rw [State.sess_setSess_same]
    exact ⟨rfl, (Bool.or_assoc _ _ _).symm, Session.char_line_of_room, Session.char_line_of_full⟩
  case controls =>
    have hact := fun c => congrArg (Host.Outcome.next (φ := Fault) (ρ := Refusal)) (State.hostByte_control h (c := c))
    exact ⟨hact 13, (hact 3).trans (execCtrlC_of_serves h.2.1 h.2.2).symm, hact 8, hact 0x7F, hact 10⟩
  case armed =>
    exact ⟨_, congrArg Host.Outcome.next (State.hostByte_of_autobaud ha hc), rfl, rfl⟩
  case backEmpty =>
    exact congrArg Host.Outcome.next ((State.backspace_of_receives h).trans (by rw [Session.back_of_empty h0]))
  case back =>
    refine ⟨_, congrArg Host.Outcome.next (State.backspace_of_receives h), ?_⟩
    rw [State.sess_setSess_same]
    exact ⟨Session.back_count, Session.back_line h0⟩
  case ctrlC => exact ⟨_, execCtrlC_of_serves hs ha, s.ctrlC_clears x⟩
  case quayBreak =>
    obtain ⟨hline, hcount, -⟩ := s.ctrlC_clears .quay
    exact ⟨_, rfl, hline, hcount⟩
  case lineEnd => exact ⟨_, rfl, State.lineEnd_of_receives h hroom⟩
  case copyIdle => exact congrArg Host.Outcome.next (if_neg (by simp [h]))
  case copy => exact execQuayLineCopy_of_plain h hroom fun b hb hctrl => hplain b hctrl hb
  case otherChar => exact ⟨_, execAutobaudCharacter_of_other ha hc, ha, rfl⟩
  case firstCr => exact ⟨_, execAutobaudCharacter_keeps ha hcr nofun, ha, rfl⟩
  case farCr =>
    exact ⟨_, execAutobaudCharacter_keeps ha hcr fun k hk => Option.some.inj hk ▸ hfar, ha, rfl⟩
  case baud => exact ⟨_, congrArg Host.Outcome.next (by rw [h]), rfl, rfl, rfl⟩
  case baudAuto => exact ⟨_, congrArg Host.Outcome.next (by rw [h]), rfl, rfl⟩
  case mode =>
    refine ⟨_, congrArg Host.Outcome.next (by rw [h]), ?_⟩
    rw [State.sess_setSess_same]
    exact ⟨rfl, rfl⟩
  case echo =>
    refine ⟨_, execOutputRoom_of_quiet hx (State.transmit_echo he) hst hn hc, ?_⟩
    rw [State.sess_setSess_same]
    exact ⟨rfl, rfl⟩
  case line =>
    refine ⟨_, execOutputRoom_of_quiet hx (State.transmit_line he ht ho hafter) hst hn hc, ?_⟩
    rw [State.sess_setSess_same]
    exact ⟨rfl, rfl⟩

end Sys2Proof


namespace Sys2Proof.Machine

/-! A console line at its turn (R56, R62, R65 to R68): the checks of the line, then those of the command it names. -/

variable {s : State} {x : Sess}

/-- A command whose arguments, keys and transport are right and that passes the checks before its own runs its meaning. -/
theorem State.runCommand_of_ready {c : Command} {a : Args} {f : Act} (hsurplus : c.surplus = false) (hmissing : c.missing = false)
    (htransport : c.transport = true) (hneed : (c.needKey && a.keyed.isEmpty) = false)
    (hkeys : (a.keyed.any fun k => !c.keys.contains k.1) = false) (hcheck : s.precheck x c.info = none) (hact : c.act = .ok f) :
    s.runCommand x c a = f s := by
  unfold State.runCommand
  dsimp only
  rw [if_neg (by simp [hsurplus]), if_neg (by simp [htransport]), hcheck]
  dsimp only
  rw [if_neg (by simp [hmissing, hneed]), hact, hkeys]
  rfl

/-- A line whose verb and object the catalogue knows runs the form that it asks for. -/
theorem State.runLine_of_catalogue {a : Args} {verb : String} {p : List String} {set query : Option Command} {c : Command}
    (hpos : a.pos = verb :: p) (hcat : s.catalogue x verb p a = some (.forms set query))
    (hform : (if a.query then query else set) = some c) : s.runLine x a = s.runCommand x c a := by
  unfold State.runLine
  rw [hpos]
  dsimp only
  rw [hcat]
  dsimp only
  rw [hform]

/-- The part of a line that its tokens are read from: without its tag and its check suffix. -/
def HostLine.body (l : HostLine) : List Char :=
  if (tagOf l.text).isSome then (splitCheck l.text).1.drop 6 else (splitCheck l.text).1

/-- A line passes the check of its suffix (R67, R68): a suffix is right, and is there where the session asks for it; in the
HERITAGE dialect no line has one (R86). -/
def HostLine.checked (l : HostLine) (s : State) (x : Sess) : Prop :=
  (s.console.heritage = true → (splitCheck l.text).2 = none) ∧
    (s.console.heritage = false → (splitCheck l.text).2 = none → (s.sess x).check = false) ∧
    ∀ v, (splitCheck l.text).2 = some v → v = Text.crc8 (splitCheck l.text).1

/-- In the HERITAGE dialect a line that passes has no suffix, and in the other one it is right or not asked for. -/
theorem HostLine.checked.cases {l : HostLine} (h : l.checked s x) :
    (splitCheck l.text).2 = none ∧ (s.console.heritage = true ∨ (s.sess x).check = false) ∨
      (splitCheck l.text).2 = some (Text.crc8 (splitCheck l.text).1) ∧ s.console.heritage = false := by
  obtain ⟨hheritage, hasked, hright⟩ := h
  cases hsuffix : (splitCheck l.text).2 with
  | some v =>
    refine .inr ⟨congrArg some (hright v hsuffix), Bool.eq_false_iff.mpr fun hh => ?_⟩
    cases hsuffix.symm.trans (hheritage hh)
  | none =>
    cases hh : s.console.heritage with
    | true => exact .inl ⟨rfl, .inl rfl⟩
    | false => exact .inl ⟨rfl, .inr (hasked hh hsuffix)⟩

/-- A line that passes its own checks is run. -/
theorem State.line_of_sound {l : HostLine} {a : Args} (hlost : l.lost = false) (hbad : l.bad = false) (hblank : l.blank = false)
    (hcount : l.count ≤ 160) (htag : l.text.head? = some '@' → (tagOf l.text).isSome = true) (hcheck : l.checked s x)
    (hargs : parseArgs l.body = some a) : s.line x l = s.runLine x a := by
  have htagged : (l.text.head? == some '@' && (tagOf l.text).isNone) = false := by
    cases hh : l.text.head? == some '@' with
    | false => rfl
    | true =>
      have hsome := htag (by simpa using hh)
      cases hopt : tagOf l.text with
      | none => simp [hopt] at hsome
      | some _ => rfl
  unfold State.line
  dsimp only
  rw [if_neg (by simp [hlost]), if_neg (by simp [hblank]), if_neg (by omega), if_neg (Bool.eq_false_iff.mp htagged)]
  unfold HostLine.body at hargs
  rw [hargs]
  rcases hcheck.cases with ⟨hnone, hquiet⟩ | ⟨hsome, hh⟩
  · rw [hnone]
    refine (if_neg ?_).trans (if_neg (by simp [hbad]))
    rcases hquiet with hquiet | hquiet <;> simp [hquiet]
  · rw [hsome]
    exact (if_neg (by simp)).trans (if_neg (by simp [hbad, hh]))

theorem State.takeLine_sess (s : State) (l : HostLine) (y : Sess) : (s.takeLine x l).sess y = s.sess y := by
  cases y <;> rfl

/-- The line whose turn it is goes through its checks with its tag in force. -/
theorem execCommandExecute_of_line {l : HostLine} {t : State} (hnext : s.nextLine = some (x, l))
    (hline : (s.takeLine x l).line x l = .next t) : execCommandExecute s = .next (t.withTag "") := by
  unfold execCommandExecute
  rw [hnext]
  dsimp only
  rw [hline]

end Sys2Proof.Machine

namespace Sys2Proof

open Sys2Proof.Machine

/-- Settles O8: the line's checks, the catalogue and the command's checks in their order (R68). -/
theorem lineRunsItsCommand : Obligations.LineRunsItsCommand := by
  unfold Obligations.LineRunsItsCommand
  refine ⟨fun s t x l a verb p c q r f hnext hlost hbad hblank hcount htag hheritage hasked hright hargs hpos hcat hform
    hsurplus hmissing htransport hneed hkeys hcheck hact hf => ?runs, fun s hnone => ?idle,
    fun s x l hnext hlost => ⟨fun hblank htyped => ?blank, fun hlong => ?long⟩⟩
  case runs =>
    have hsuffix : l.checked (s.takeLine x l) x := ⟨hheritage, by rwa [State.takeLine_sess], hright⟩
    refine execCommandExecute_of_line hnext ?_
    rw [State.line_of_sound hlost hbad hblank hcount htag hsuffix hargs, State.runLine_of_catalogue hpos hcat hform,
      State.runCommand_of_ready hsurplus hmissing htransport hneed hkeys hcheck hact, hf]
  case idle =>
    show execCommandExecute s = .next s
    unfold execCommandExecute
    rw [hnone]
  case blank =>
    refine execCommandExecute_of_line hnext ?_
    unfold State.line
    dsimp only
    rw [if_neg (by simp [hlost]), if_pos hblank, if_neg (by simp [State.takeLine_sess, htyped])]
  case long =>
    have hnotBlank : l.blank = false := by simp [HostLine.blank, Nat.not_le.mpr hlong]
    refine execCommandExecute_of_line hnext ?_
    unfold State.line
    dsimp only
    rw [if_neg (by simp [hlost]), if_neg (by simp [hnotBlank]), if_pos hlong]

end Sys2Proof


namespace Sys2Proof.Machine

/-! What the checks of a console command turn away (R68, R82). -/

variable {s : State} {x : Sess}

theorem State.run_of_refused {i : CmdInfo} {n : Nat} (h : s.precheck x i = some n) (body : State → State) :
    s.run x i body = s.er x n := by
  unfold State.run
  rw [h]

/-- Every setting command runs its body after the checks of its own facts. -/
theorem exec_of_isSettingCommand {p : Instr × CmdInfo} (h : IsSettingCommand x p) (s : State) :
    ∃ body, exec p.1 s = .next (s.run x p.2 body) := by
  unfold IsSettingCommand at h
  rcases h with ⟨_, rfl⟩ | ⟨_, rfl⟩ | ⟨_, rfl⟩ | ⟨_, rfl⟩ | ⟨_, _, rfl⟩ | ⟨_, rfl⟩ | ⟨_, _, rfl⟩ | ⟨_, rfl⟩ | ⟨_, rfl⟩ |
    ⟨_, rfl⟩ | ⟨_, rfl⟩ | ⟨_, rfl⟩ | ⟨_, rfl⟩ | ⟨_, rfl⟩ | ⟨_, rfl⟩ | ⟨_, rfl⟩ | ⟨_, rfl⟩ | ⟨_, _, _, rfl, rfl⟩ <;>
    exact ⟨_, rfl⟩

/-- The window that holds an address is its block's (R43). -/
theorem blockAt_window {a ofs : Nat} {b : Block} (h : blockAt a = some (b, ofs)) : b.base ≤ a ∧ a < b.base + b.size := by
  unfold blockAt at h
  split at h
  next hw =>
    obtain ⟨rfl, -⟩ := Prod.mk.inj (Option.some.inj h)
    simp only [Block.base, Block.size]
    omega
  next hw =>
    obtain ⟨c, hfind, hc⟩ := Option.map_eq_some_iff.mp h
    obtain ⟨rfl, -⟩ := Prod.mk.inj hc
    have hin := List.find?_some hfind
    have hfixed := List.mem_of_find?_eq_some hfind
    simp only [Bool.and_eq_true, decide_eq_true_eq] at hin
    have hsize : c.size = 0x1000 := by
      cases c with
      | berth n => simp [Block.fixedList] at hfixed
      | _ => rfl
    omega

/-- A register of a block lies in the block's part, or in OWNLVL. -/
theorem part_of_blockAt {a lo w ofs : Nat} {b : Block} (h : blockAt a = some (b, ofs)) (hlo : lo < 32) :
    (⟨a, lo, w⟩ : Fld).part = b.part ∨ (⟨a, lo, w⟩ : Fld).part = .rOwn := by
  have hkey : (⟨a, lo, w⟩ : Fld).key / 32 = a := by simp only [Fld.key]; omega
  obtain ⟨hbase, hsize⟩ := blockAt_window h
  unfold Fld.part partOfKey
  rw [hkey]
  by_cases hown : a = b.base + 4
  · exact .inr (Block.own_at hown)
  · exact .inl (Block.part_at hbase hsize hown)

/-- An error reply changes no register outside PWR, the manifests and MEMCTL. -/
theorem State.er_get_of_blockAt {a lo w ofs n : Nat} {b : Block} (h : blockAt a = some (b, ofs)) (hlo : lo < 32)
    (hpwr : b ≠ .pwr) (happ : b ≠ .manApp) (hsys : b ≠ .manSys) (hmem : b ≠ .memctl) :
    (s.er x n).get ⟨a, lo, w⟩ = s.get ⟨a, lo, w⟩ := by
  have hblock : ∀ c : Block, c ≠ .pwr → c ≠ .manApp → c ≠ .manSys → c ≠ .memctl →
      Part.sub [c.part] [.rPwr, .rMan, .rMemctl, .rQuay, .mem, .chk, .console, .manApp, .manSys, .power] = false := by
    intro c h1 h2 h3 h4
    cases c with
    | pwr => exact absurd rfl h1
    | manApp => exact absurd rfl h2
    | manSys => exact absurd rfl h3
    | memctl => exact absurd rfl h4
    | berth _ => exact (rfl : Part.sub [.rBerth] [.rPwr, .rMan, .rMemctl, .rQuay, .mem, .chk, .console, .manApp, .manSys, .power] = false)
    | _ => rfl
  rcases part_of_blockAt (w := w) h hlo with hpart | hpart
  · exact State.er_frame.get hpart (hblock b hpwr happ hsys hmem)
  · exact State.er_frame.get hpart rfl

end Sys2Proof.Machine

namespace Sys2Proof

open Sys2Proof.Machine

/-- Settles O9: a command whose checks fail is its error reply, whose frame leaves the device out. -/
theorem consoleErrorLeavesDevice : Obligations.ConsoleErrorLeavesDevice := by
  unfold Obligations.ConsoleErrorLeavesDevice
  intro x n s p hp hcheck
  obtain ⟨body, hruns⟩ := exec_of_isSettingCommand hp s
  have hframe : Frame _ s (s.er x n) := State.er_frame
  exact ⟨hruns.trans (congrArg Host.Outcome.next (State.run_of_refused hcheck body)),
    fun a lo w ofs b hat hpwr happ hsys hmem hlo => State.er_get_of_blockAt hat hlo hpwr happ hsys hmem,
    hframe.same .tide rfl, hframe.same .gnss rfl, hframe.same .life rfl, hframe.same .crypto rfl, hframe.same .logs rfl,
    hframe.same .app rfl, hframe.same .sys rfl, hframe.same .rtc rfl⟩

end Sys2Proof


namespace Sys2Proof.Machine

/-! Owners and levels (R20 to R34): the fields of OWNLVL through the changes of owner and level. -/

variable {s : State} {b : Block}

/-- The fields of a block's OWNLVL register have one key each. -/
theorem ownlvl_keys (b : Block) :
    (F.OWNLVL_OWNER b).key = (b.base + 4) * 32 ∧ (F.OWNLVL_LEVEL b).key = (b.base + 4) * 32 + 1 ∧
      (F.OWNLVL_OWN_PEND b).key = (b.base + 4) * 32 + 8 ∧ (F.OWNLVL_LVL_PEND b).key = (b.base + 4) * 32 + 9 :=
  ⟨rfl, rfl, rfl, rfl⟩

/-- No field of OWNLVL is an expert field that derivation sets. -/
theorem tabledExpert_ownlvl (b : Block) (lo : Nat) : tabledExpert b 4 lo = false := by
  have hfields : regFields b 4 = [⟨0, 1, .ro, .basic, .val 0, .any⟩, ⟨1, 1, .rw, .basic, .val 0, .any⟩,
      ⟨2, 1, .ro, .basic, .val 0, .any⟩, ⟨8, 1, .ro, .basic, .val 0, .any⟩, ⟨9, 1, .ro, .basic, .val 0, .any⟩,
      ⟨10, 1, .ro, .expert, .val 0, .any⟩] := by
    cases b <;> rfl
  unfold tabledExpert
  simp [hfields]

/-- Derivation drops no field of OWNLVL. -/
theorem State.dropExpert_get_ownlvl (p : Block → Bool) {lo w : Nat} (hlo : lo < 32) :
    (s.dropExpert p).get ⟨b.base + 4, lo, w⟩ = s.get ⟨b.base + 4, lo, w⟩ := by
  have hkey : (⟨b.base + 4, lo, w⟩ : Fld).key / 32 = b.base + 4 := by simp only [Fld.key]; omega
  refine (Store.get_filter resetOf s.regs (fun k => match blockAt (k / 32) with
    | some (b, ofs) => !(p b && tabledExpert b ofs (k % 32))
    | none => true) _).trans (if_pos ?_)
  simp [hkey, blockAt_ownlvl, tabledExpert_ownlvl]

/-- Derivation leaves the fields of OWNLVL alone. -/
theorem State.deriveExpert_get_ownlvl (c : Block) {lo w : Nat} (hlo : lo < 32) :
    (s.deriveExpert c).get ⟨b.base + 4, lo, w⟩ = s.get ⟨b.base + 4, lo, w⟩ := by
  have hpart : (⟨b.base + 4, lo, w⟩ : Fld).part = .rOwn := by
    unfold Fld.part partOfKey
    rw [show (⟨b.base + 4, lo, w⟩ : Fld).key / 32 = b.base + 4 by simp only [Fld.key]; omega]
    exact Block.own_at rfl
  exact (State.deriveOwn_frame.get hpart rfl).trans (State.dropExpert_get_ownlvl _ hlo)

/-- What `t` shows of a block's owner and level and of what is requested of them. -/
structure OwnLvl (b : Block) (owner : Side) (expert pend : Bool) (t : State) : Prop where
  owner : t.owner b = owner
  expert : t.expert b = expert
  pend : t.on (F.OWNLVL_OWN_PEND b) = pend

namespace OwnLvl

variable {o : Side} {e p : Bool} {t u : State}

/-- What leaves OWNLVL out keeps what it shows. -/
theorem of_frame (h : OwnLvl b o e p t) {l : List Part} (hf : Frame l t u) (hn : Part.sub [.rOwn] l = false) : OwnLvl b o e p u := by
  obtain ⟨howner, hlevel⟩ := hf.owner_level hn b
  exact ⟨howner.trans h.owner, hlevel.trans h.expert,
    (congrArg (· != 0) (hf.get F.OWNLVL_OWN_PEND_part hn)).trans h.pend⟩

theorem of_derive (h : OwnLvl b o e p t) (c : Block) : OwnLvl b o e p (t.deriveExpert c) := by
  obtain ⟨howner, hlevel, hpend⟩ := h
  have hget := fun lo w (hlo : lo < 32) => State.deriveExpert_get_ownlvl (s := t) (b := b) (w := w) c hlo
  refine ⟨?_, ?_, ?_⟩
  · rw [← howner]
    unfold State.owner State.on
    rw [show (t.deriveExpert c).get (F.OWNLVL_OWNER b) = _ from hget 0 1 (by omega)]
    rfl
  · exact (congrArg (· != 0) (hget 1 1 (by omega))).trans hlevel
  · exact (congrArg (· != 0) (hget 8 1 (by omega))).trans hpend

end OwnLvl

theorem Side.code_odd (o : Side) : (if (o.code % 2 ^ 1 != 0) = true then Side.app else .console) = o := by
  cases o <;> rfl

/-- A change of owner ends with the new owner in BASIC and no request pending (R29). -/
theorem State.changeOwner_ownLvl (s : State) (b : Block) (o : Side) : OwnLvl b o false false (s.changeOwner b o) := by
  have hset : ∀ t : State, OwnLvl b o false false
      (t.puts [(F.OWNLVL_OWNER b, o.code), (F.OWNLVL_OWN_PEND b, 0), (F.OWNLVL_LEVEL b, 0), (F.OWNLVL_LVL_PEND b, 0)]) := by
    intro t
    obtain ⟨h0, h1, h8, h9⟩ := ownlvl_keys b
    have howner : (t.puts [(F.OWNLVL_OWNER b, o.code), (F.OWNLVL_OWN_PEND b, 0), (F.OWNLVL_LEVEL b, 0),
        (F.OWNLVL_LVL_PEND b, 0)]).get (F.OWNLVL_OWNER b) = o.code % 2 ^ 1 := by
      simp only [State.puts]
      rw [State.get_put_other _ _ (by omega), State.get_put_other _ _ (by omega), State.get_put_other _ _ (by omega)]
      exact State.get_put_same _ _ _
    have hpend : (t.puts [(F.OWNLVL_OWNER b, o.code), (F.OWNLVL_OWN_PEND b, 0), (F.OWNLVL_LEVEL b, 0),
        (F.OWNLVL_LVL_PEND b, 0)]).get (F.OWNLVL_OWN_PEND b) = 0 := by
      simp only [State.puts]
      rw [State.get_put_other _ _ (by omega), State.get_put_other _ _ (by omega)]
      exact State.get_put_same _ _ _
    have hlevel : (t.puts [(F.OWNLVL_OWNER b, o.code), (F.OWNLVL_OWN_PEND b, 0), (F.OWNLVL_LEVEL b, 0),
        (F.OWNLVL_LVL_PEND b, 0)]).get (F.OWNLVL_LEVEL b) = 0 := by
      simp only [State.puts]
      rw [State.get_put_other _ _ (by omega)]
      exact State.get_put_same _ _ _
    refine ⟨?_, congrArg (· != 0) hlevel, congrArg (· != 0) hpend⟩
    unfold State.owner State.on
    rw [howner]
    exact o.code_odd
  unfold State.changeOwner
  dsimp only
  refine OwnLvl.of_frame (OwnLvl.of_derive (OwnLvl.of_frame ?_ State.passOn_frame rfl) b) State.raiseOwn_frame rfl
  split
  · exact (hset _).of_frame State.ownResult_frame rfl
  · exact hset _

/-- The code and the result of an ownership request, as the console's register shows them. -/
theorem State.ownResult_get (t : State) (c r : Nat) :
    (t.ownResult c r).get F.SYSCTL_OWN_STAT_BLOCK = c % 2 ^ 10 ∧ (t.ownResult c r).get F.SYSCTL_OWN_STAT_RESULT = r % 2 ^ 2 := by
  unfold State.ownResult
  simp only [State.puts]
  exact ⟨(State.get_put_other _ _ (by decide)).trans (State.get_put_same _ _ _), State.get_put_same _ _ _⟩

/-- A request that names the other side at the quiet point changes the owner (R26, R28). -/
theorem State.requestOwner_of_quiet {o : Side} (ho : o ≠ s.owner b) (hq : s.quiet b = true) :
    s.requestOwner b o = (s.changeOwner b o).ownResult b.code 0 := by
  unfold State.requestOwner
  rw [if_neg ho, if_pos hq]

theorem State.requestOwner_of_busy {o : Side} (ho : o ≠ s.owner b) (hq : s.quiet b = false) :
    s.requestOwner b o = (s.put (F.OWNLVL_OWN_PEND b) 1).ownResult b.code 1 := by
  unfold State.requestOwner
  rw [if_neg ho, if_neg (by simp [hq])]

/-- A request field that is written leaves the owner and the level. -/
theorem State.put_pend_ownLvl (s : State) (b : Block) (v : Nat) (hv : v < 2) :
    OwnLvl b (s.owner b) (s.expert b) (v != 0) (s.put (F.OWNLVL_OWN_PEND b) v) := by
  obtain ⟨h0, h1, h8, h9⟩ := ownlvl_keys b
  refine ⟨?_, congrArg (· != 0) (s.get_put_other v (by omega)), ?_⟩
  · unfold State.owner State.on
    rw [s.get_put_other v (show (F.OWNLVL_OWNER b).key ≠ (F.OWNLVL_OWN_PEND b).key by omega)]
  · exact congrArg (· != 0) ((s.get_put_same _ v).trans (Nat.mod_eq_of_lt hv))

/-- Naming the present owner leaves no request pending (R28). -/
theorem State.requestOwner_same_ownLvl (s : State) (b : Block) :
    OwnLvl b (s.owner b) (s.expert b) false (s.requestOwner b (s.owner b)) := by
  unfold State.requestOwner
  rw [if_pos rfl]
  exact ((s.put_pend_ownLvl b 0 (by omega)).of_frame State.ownResult_frame rfl).of_frame State.set_console_frame rfl

/-- The code of a block names it (R43). -/
theorem blockOfCode_code (b : Block) : blockOfCode b.code = some b := by
  cases b with
  | berth n =>
    unfold blockOfCode
    rw [dif_pos (by simp only [Block.code]; omega)]
    simp [Block.code]
  | _ => rfl

theorem Block.code_lt (b : Block) : b.code < 1024 := by
  cases b with
  | berth n => simp only [Block.code]; omega
  | _ => decide

/-- A write of SYSCTL_OWN names a block and a side (R25). -/
theorem State.writeOwn_code (s : State) (b : Block) (o : Side) :
    s.writeOwn (BitVec.ofNat 32 (b.code + (if o = .app then 65536 else 0))).toNat =
      if b.fixed then s.ownResult b.code 2 else s.requestOwner b o := by
  have hlt := b.code_lt
  have hv : (BitVec.ofNat 32 (b.code + (if o = .app then 65536 else 0))).toNat = b.code + (if o = .app then 65536 else 0) := by
    rw [BitVec.toNat_ofNat]
    exact Nat.mod_eq_of_lt (by split <;> omega)
  have hcode : bitsOf (b.code + (if o = .app then 65536 else 0)) 0 10 = b.code := by
    unfold bitsOf
    split <;> omega
  have hside : (if bitOf (b.code + (if o = .app then 65536 else 0)) 16 then Side.app else .console) = o := by
    have hdiv : b.code / 65536 = 0 := by omega
    cases o <;> simp [bitOf, hdiv]
  unfold State.writeOwn
  rw [hv]
  dsimp only
  rw [hcode, blockOfCode_code, hside]

/-! Levels (R30, R31). -/

/-- A change of level ends with the level and no request for one; the owner stays (R31). -/
theorem State.changeLevel_shows (s : State) (b : Block) (e : Bool) :
    OwnLvl b (s.owner b) e (s.on (F.OWNLVL_OWN_PEND b)) (s.changeLevel b e) ∧
      (s.changeLevel b e).on (F.OWNLVL_LVL_PEND b) = false := by
  obtain ⟨h0, h1, h8, h9⟩ := ownlvl_keys b
  have hfresh : OwnLvl b (s.owner b) (s.expert b) (s.on (F.OWNLVL_OWN_PEND b)) (s.freshen b) :=
    OwnLvl.of_frame ⟨rfl, rfl, rfl⟩ State.freshen_frame rfl
  have hother : ∀ (t : State) (f : Fld), f.key ≠ (F.OWNLVL_LEVEL b).key → f.key ≠ (F.OWNLVL_LVL_PEND b).key →
      (t.puts [(F.OWNLVL_LEVEL b, bit e), (F.OWNLVL_LVL_PEND b, 0)]).get f = t.get f := fun t f hl hp =>
    (State.get_put_other _ _ hp).trans (State.get_put_other _ _ hl)
  have hset : OwnLvl b (s.owner b) e (s.on (F.OWNLVL_OWN_PEND b))
      ((s.freshen b).puts [(F.OWNLVL_LEVEL b, bit e), (F.OWNLVL_LVL_PEND b, 0)]) := by
    obtain ⟨howner, -, hpend⟩ := hfresh
    refine ⟨?_, ?_, ?_⟩
    · rw [← howner]
      unfold State.owner State.on
      rw [hother _ _ (by omega) (by omega)]
    · have hlevel : ((s.freshen b).puts [(F.OWNLVL_LEVEL b, bit e), (F.OWNLVL_LVL_PEND b, 0)]).get (F.OWNLVL_LEVEL b) =
          bit e % 2 ^ 1 := (State.get_put_other _ _ (by omega)).trans (State.get_put_same _ _ _)
      refine (congrArg (· != 0) hlevel).trans ?_
      cases e <;> rfl
    · exact (congrArg (· != 0) (hother _ _ (by omega) (by omega))).trans hpend
  have hnone : ((s.freshen b).puts [(F.OWNLVL_LEVEL b, bit e), (F.OWNLVL_LVL_PEND b, 0)]).get (F.OWNLVL_LVL_PEND b) = 0 :=
    State.get_put_same _ _ _
  unfold State.changeLevel
  dsimp only
  split
  · exact ⟨hset, congrArg (· != 0) hnone⟩
  · exact ⟨hset.of_derive b, congrArg (· != 0) ((State.deriveExpert_get_ownlvl b (lo := 9) (by omega)).trans hnone)⟩

theorem State.requestLevel_of_quiet {e : Bool} (he : s.expert b ≠ e) (hq : s.quiet b = true) :
    s.requestLevel b e = s.changeLevel b e := by
  unfold State.requestLevel
  rw [if_neg (Ne.symm he), if_pos hq]

theorem State.requestLevel_of_busy {e : Bool} (he : s.expert b ≠ e) (hq : s.quiet b = false) :
    s.requestLevel b e = s.put (F.OWNLVL_LVL_PEND b) 1 := by
  unfold State.requestLevel
  rw [if_neg (Ne.symm he), if_neg (by simp [hq])]

theorem State.requestLevel_same {e : Bool} (he : s.expert b = e) :
    s.requestLevel b e = s.put (F.OWNLVL_LVL_PEND b) 0 := if_pos he.symm

/-- A write of LEVEL by the owner's side is its request. -/
theorem State.writeLevel_of_owner (h : b ≠ .sysctl) (e : Bool) :
    s.writeLevel (s.owner b) b e = s.requestLevel b e := by
  unfold State.writeLevel
  rw [if_neg h, if_neg (not_not_intro rfl)]

theorem Side.other_ne (o : Side) : o.other ≠ o := by cases o <;> decide

/-- LEVEL of an accepted session acts as its request, then OK. -/
theorem execLevelBlock_of_accepts {x : Sess} {e : Bool} (h : b ≠ .sysctl) (hx : accepts s x { block := some b } = true) :
    execLevelBlock x b e s = .next ((s.requestLevel b e).ok x) := by
  unfold execLevelBlock
  rw [run_accepts hx, if_neg h]

/-- OWN of an accepted session on a block that is not fixed and leaves nothing pending answers APPLIED. -/
theorem execOwn_of_applied {x : Sess} {o : Side} (hx : accepts s x {} = true) (hfixed : b.fixed = false)
    (hpend : (s.requestOwner b o).on (F.OWNLVL_OWN_PEND b) = false) :
    execOwn x b o s = .next (((s.requestOwner b o).reply x ("OWN " ++ Name.block b ++ " " ++ Name.owner o ++
      " APPLIED")).ok x) := by
  unfold execOwn
  rw [run_accepts hx, if_neg (by simp [hfixed])]
  exact congrArg Host.Outcome.next (if_neg (by simp [hpend]))

end Sys2Proof.Machine

namespace Sys2Proof

open Sys2Proof.Machine

/-- Settles O11: OWNLVL is written by the changes of owner and level alone, and derivation leaves it out. -/
theorem ownersAndLevels : Obligations.OwnersAndLevels := by
  unfold Obligations.OwnersAndLevels
  dsimp only
  refine ⟨fun b o s hfixed hq ho => ?grant, fun b o s hfixed hq ho => ?wait, fun b s hfixed => ?same,
    fun b o s hfixed => ?fixed, fun b s => ⟨fun hpend hmay => ?change, fun hpend => ?unasked⟩,
    fun b e s hb => ⟨fun he hq => ?level, fun he hq => ?levelWait, fun he => ?levelSame, ?denied⟩,
    fun side e s => rfl, fun b s => ⟨fun hpend hmay => ?levelChange, fun hpend => ?levelUnasked⟩,
    fun x e s hx => ?session, fun x s hx => ⟨fun b hb => ?ask, ?askSysctl, ?askAll⟩⟩
  case grant =>
    have happlied := State.requestOwner_of_quiet ho hq
    have hshows := (s.changeOwner_ownLvl b o).of_frame (State.ownResult_frame (a1 := b.code) (a2 := 0)) rfl
    obtain ⟨hcode, hresult⟩ := (s.changeOwner b o).ownResult_get b.code 0
    refine ⟨⟨_, congrArg Host.Outcome.next (s.writeOwn_code b o), ?_⟩, fun x hx => ⟨s.requestOwner b o, ?_, ?_⟩⟩
    · rw [hfixed, if_neg Bool.false_ne_true, happlied]
      exact ⟨hshows.owner, hshows.expert, hcode.trans (Nat.mod_eq_of_lt b.code_lt), hresult⟩
    · exact execOwn_of_applied hx hfixed (by rw [happlied]; exact hshows.pend)
    · rw [happlied]
      exact ⟨hshows.owner, hshows.expert⟩
  case wait =>
    have hasked := State.requestOwner_of_busy ho hq
    have hshows := (s.put_pend_ownLvl b 1 (by omega)).of_frame (State.ownResult_frame (a1 := b.code) (a2 := 1)) rfl
    refine ⟨⟨_, congrArg Host.Outcome.next (s.writeOwn_code b o), ?_⟩, fun x hx => ?_⟩
    · rw [hfixed, if_neg Bool.false_ne_true, hasked]
      exact ⟨hshows.owner, hshows.pend, (State.ownResult_get _ b.code 1).2⟩
    · let u := (s.put (F.OWNLVL_OWN_PEND b) 1).ownResult b.code 1
      refine ⟨{ u with console := { u.console with awaitOwn := u.console.awaitOwn ++ [(b, x)] } }, ?_, hshows.owner, hshows.pend⟩
      show execOwn x b o s = _
      unfold execOwn
      rw [run_accepts hx, if_neg (by simp [hfixed]), hasked]
      exact congrArg Host.Outcome.next (if_pos hshows.pend)
  case same =>
    have hshows := s.requestOwner_same_ownLvl b
    refine ⟨⟨_, congrArg Host.Outcome.next (s.writeOwn_code b _), ?_⟩,
      fun x hx => ⟨_, execOwn_of_applied hx hfixed hshows.pend, hshows.owner, hshows.pend⟩⟩
    rw [hfixed, if_neg Bool.false_ne_true]
    exact ⟨hshows.owner, hshows.pend⟩
  case fixed =>
    refine ⟨⟨_, congrArg Host.Outcome.next (s.writeOwn_code b o), ?_⟩, fun x hx => ?_⟩
    · rw [hfixed, if_pos rfl]
      have hshows : OwnLvl b (s.owner b) (s.expert b) (s.on (F.OWNLVL_OWN_PEND b)) (s.ownResult b.code 2) :=
        OwnLvl.of_frame ⟨rfl, rfl, rfl⟩ State.ownResult_frame rfl
      exact ⟨hshows.owner, (s.ownResult_get b.code 2).2⟩
    · show execOwn x b o s = _
      unfold execOwn
      rw [run_accepts hx, if_pos hfixed]
  case change =>
    have hshows := s.changeOwner_ownLvl b (s.owner b).other
    exact ⟨_, congrArg Host.Outcome.next (if_pos (by simp [hpend, hmay])), hshows.owner, hshows.expert, hshows.pend⟩
  case unasked => exact congrArg Host.Outcome.next (if_neg (by simp [hpend]))
  case level =>
    obtain ⟨hshows, -⟩ := s.changeLevel_shows b e
    have hreq := State.requestLevel_of_quiet he hq
    exact ⟨⟨_, congrArg Host.Outcome.next ((State.writeLevel_of_owner hb e).trans hreq), hshows.expert, hshows.owner⟩,
      fun x hx => ⟨_, (execLevelBlock_of_accepts hb hx).trans (by rw [hreq]), hshows.expert⟩⟩
  case levelWait =>
    have hreq := State.requestLevel_of_busy he hq
    exact ⟨congrArg Host.Outcome.next ((State.writeLevel_of_owner hb e).trans hreq),
      fun x hx => (execLevelBlock_of_accepts hb hx).trans (by rw [hreq])⟩
  case levelSame =>
    have hreq := State.requestLevel_same he
    exact ⟨congrArg Host.Outcome.next ((State.writeLevel_of_owner hb e).trans hreq),
      fun x hx => (execLevelBlock_of_accepts hb hx).trans (by rw [hreq])⟩
  case denied =>
    exact congrArg Host.Outcome.next ((if_neg hb).trans (if_pos (Side.other_ne _)))
  case levelChange =>
    obtain ⟨hshows, hnone⟩ := s.changeLevel_shows b (!s.expert b)
    exact ⟨_, congrArg Host.Outcome.next (if_pos (by simp [hpend, hmay])), hshows.expert, hnone⟩
  case levelUnasked => exact congrArg Host.Outcome.next (if_neg (by simp [hpend]))
  case session => exact congrArg Host.Outcome.next (run_accepts hx _)
  case ask =>
    refine congrArg Host.Outcome.next ((run_accepts hx _).trans ?_)
    dsimp only
    rw [State.ownLine, if_neg hb]
  case askSysctl => exact congrArg Host.Outcome.next (run_accepts hx _)
  case askAll => exact congrArg Host.Outcome.next (run_accepts hx _)

end Sys2Proof


namespace Sys2Proof.Machine

/-! What reporting can change: a record in the manifests, with the power and the LOST bit of the banks of their rings, and lines
to the sessions and the mailbox (R53, R73, R472, R508, R518). -/

theorem bitOf_eq_testBit (n i : Nat) : bitOf n i = n.testBit i := by
  rw [Nat.testBit_eq_decide_div_mod_eq]
  rfl

/-- A written bit reads as it was written. -/
theorem bitOf_withBit_same (n i : Nat) (b : Bool) : bitOf (withBit n i b) i = b := by
  have hpos := Nat.two_pow_pos i
  unfold withBit
  cases hbit : bitOf n i with
  | true =>
    rw [if_pos rfl]
    cases b with
    | true => exact hbit
    | false =>
      have hodd : n / 2 ^ i % 2 = 1 := by simpa [bitOf] using hbit
      have hsub : (n - 2 ^ i) / 2 ^ i = n / 2 ^ i - 1 := by
        have := Nat.sub_mul_div n (2 ^ i) 1
        rwa [Nat.mul_one] at this
      unfold bitOf
      rw [if_neg Bool.false_ne_true, hsub]
      simp only [beq_eq_false_iff_ne, ne_eq]
      omega
  | false =>
    rw [if_neg Bool.false_ne_true]
    cases b with
    | false => exact hbit
    | true =>
      have heven : n / 2 ^ i % 2 = 0 := by
        have : ¬n / 2 ^ i % 2 = 1 := by simpa [bitOf] using hbit
        omega
      unfold bitOf
      rw [if_pos rfl, Nat.add_div_right _ hpos]
      simp only [beq_iff_eq]
      omega

/-- A field of `w` bits keeps the bits below `w`. -/
theorem bitOf_mod {n w i : Nat} (h : i < w) : bitOf (n % 2 ^ w) i = bitOf n i := by
  simp [bitOf_eq_testBit, Nat.testBit_mod_two_pow, h]

/-- A bit written in a field that holds a bit for each of `w` numbers. -/
theorem State.bitOf_put_withBit {s : State} {f : Fld} {i j : Nat} {b : Bool} (hi : i < f.w) :
    bitOf ((s.put f (withBit (s.get f) j b)).get f) i = if i = j then b else bitOf (s.get f) i := by
  rw [State.get_put_same, bitOf_mod hi]
  by_cases h : i = j
  · rw [if_pos h, h, bitOf_withBit_same]
  · rw [if_neg h, bitOf_withBit h]

/-- The fields outside the manifests' registers that reporting writes. -/
def reportFields : List Fld := [F.PWR_DOMS_PG, F.MEMCTL_LOST_BANK, F.QUAY_RHEAD, F.QUAY_OVERRUN]

/-- The parts that reporting can change whole. -/
def reportParts : List Part := [.rMan, .mem, .chk, .console, .manApp, .manSys, .power]

/-- From `s` to `t` something was reported at most: `t` differs in the manifests, the rings' memory and its power, and in what
waits to be sent. -/
structure Reports (s t : State) : Prop where
  frame : Frame [.rPwr, .rMan, .rMemctl, .rQuay, .mem, .chk, .console, .manApp, .manSys, .power] s t
  get : ∀ f : Fld, Part.sub [f.part] reportParts = false → (∀ g ∈ reportFields, f.key ≠ g.key) → t.get f = s.get f
  powered : ∀ d < 14, s.powered d = true → t.powered d = true
  power : { t.power with heldSrc := [] } = { s.power with heldSrc := [] }
  sends : SendsOnly s t
  rest : { t.console with uart0 := s.console.uart0, i2c := s.console.i2c, quay := s.console.quay } = s.console

namespace Reports

variable {s t u : State}

theorem refl : Reports s s := ⟨Frame.refl, fun _ _ _ => rfl, fun _ _ h => h, rfl, .refl, rfl⟩

theorem trans (h : Reports s t) (k : Reports t u) : Reports s u := by
  refine ⟨h.frame.trans k.frame, fun f hm hf => (k.get f hm hf).trans (h.get f hm hf),
    fun d hd hp => k.powered d hd (h.powered d hd hp), k.power.trans h.power, h.sends.trans k.sends, ?_⟩
  have hk := congrArg (fun c : Console => { c with uart0 := s.console.uart0, i2c := s.console.i2c, quay := s.console.quay }) k.rest
  exact hk.trans h.rest

theorem ite {c : Prop} [Decidable c] {a b : State} (ha : Reports s a) (hb : Reports s b) :
    Reports s (if c then a else b) := by
  split
  · exact ha
  · exact hb

theorem foldl {β : Type} {f : State → β → State} (h : ∀ t x, Reports t (f t x)) (l : List β) (t : State) :
    Reports t (l.foldl f t) := by
  induction l generalizing t with
  | nil => exact refl
  | cons x r ih => exact (h t x).trans (ih _)

theorem powered_of_get (h : t.get F.PWR_DOMS_PG = s.get F.PWR_DOMS_PG) (d : Nat) (_ : d < 14) (hp : s.powered d = true) :
    t.powered d = true := by
  unfold State.powered at hp ⊢
  rwa [h]

/-- What changes the manifests and the memory alone only reports. -/
theorem of_frame {e : List Part} (h : Frame e s t) (he : Part.sub e [.rMan, .mem, .chk, .manApp, .manSys] = true) :
    Reports s t := by
  have hframe : Frame [.rMan, .mem, .chk, .manApp, .manSys] s t := h.mono he
  have hcon : t.console = s.console := hframe.same .console rfl
  have hpower : t.power = s.power := hframe.same .power rfl
  exact ⟨hframe.mono rfl, fun f hm _ => (hframe.mono (e' := reportParts) rfl).get rfl hm,
    powered_of_get (hframe.get (of_decide_eq_true rfl : F.PWR_DOMS_PG.part = .rPwr) rfl), by rw [hpower],
    .of_frame hframe rfl rfl, by rw [hcon]⟩

/-- What changes the sessions by sending alone only reports. -/
theorem of_sends (h : SendsOnly s t) (hf : Frame [.console] s t)
    (hrest : { t.console with uart0 := s.console.uart0, i2c := s.console.i2c, quay := s.console.quay } = s.console) :
    Reports s t := by
  have hpower : t.power = s.power := hf.same .power rfl
  exact ⟨hf.mono rfl, fun f hm _ => (hf.mono (e' := reportParts) rfl).get rfl hm,
    powered_of_get (hf.get (of_decide_eq_true rfl : F.PWR_DOMS_PG.part = .rPwr) rfl), by rw [hpower], h, hrest⟩

/-- A written field of `reportFields` beside the domains' power only reports. -/
theorem of_put {f : Fld} {v : Nat} (hf : f ∈ [F.MEMCTL_LOST_BANK, F.QUAY_RHEAD, F.QUAY_OVERRUN]) : Reports s (s.put f v) := by
  have hmem : f ∈ reportFields := List.mem_cons_of_mem _ hf
  have hkeys : f.key ≠ F.PWR_DOMS_PG.key ∧ f.key ≠ F.QUAY_GO.key ∧
      Part.sub [f.part] [.rPwr, .rMan, .rMemctl, .rQuay, .mem, .chk, .console, .manApp, .manSys, .power] = true := by
    simp only [List.mem_cons, List.not_mem_nil, or_false] at hf
    rcases hf with rfl | rfl | rfl <;> exact ⟨by decide, by decide, rfl⟩
  obtain ⟨hdoms, hgo, hpart⟩ := hkeys
  exact ⟨State.put_frame rfl hpart, fun g _ hg => s.get_put_other v (hg f hmem), powered_of_get (s.get_put_other v (Ne.symm hdoms)),
    rfl, ⟨fun y => by cases y <;> rfl, s.get_put_other v (Ne.symm hgo)⟩, rfl⟩

/-- A domain that is marked powered only reports. -/
theorem of_put_doms {j : Nat} : Reports s (s.put F.PWR_DOMS_PG (withBit (s.get F.PWR_DOMS_PG) j true)) := by
  refine ⟨State.put_frame (of_decide_eq_true rfl : F.PWR_DOMS_PG.part = .rPwr) rfl, fun g _ hg => s.get_put_other _ (hg _ (by simp [reportFields])), fun d hd hp => ?_, rfl,
    ⟨fun y => by cases y <;> rfl, s.get_put_other _ (by decide)⟩, rfl⟩
  unfold State.powered at hp ⊢
  rw [State.bitOf_put_withBit hd, hp, ite_self]

end Reports

variable {s : State}

theorem State.sramOn_reports (s : State) (d : Nat) : Reports s (s.sramOn d) := by
  unfold State.sramOn
  refine .ite .refl (Reports.of_put_doms.trans (.foldl (fun t n => .ite .refl (.of_put ?_)) _ _))
  simp

theorem State.sramFor_reports (s : State) (a : Nat) : Reports s (s.sramFor a) := .ite (s.sramOn_reports _) .refl

theorem State.formRecord_reports (s : State) (m : Man) (late : Bool) (src w2 w3 : Nat) :
    Reports s (s.formRecord m late src w2 w3) := by
  have hseq : ∀ v, Reports s (s.put (F.MAN_SEQ_NEXT m.ix) v) := fun v =>
    .of_frame (State.put_frame F.MAN_SEQ_NEXT_part (e := [.rMan]) rfl) rfl
  have hman : ∀ (t : State) (q : ManQueue), Reports t (t.setMan m q) := fun t q => .of_frame State.setMan_frame rfl
  unfold State.formRecord
  dsimp only
  refine .ite ((hseq _).trans (hman _ _)) (.ite ?_ ?_)
  · exact (((hseq _).trans (State.sramFor_reports _ _)).trans (.of_frame State.writeBlock_frame rfl)).trans (hman _ _)
  · refine ((hseq ((s.newRec m late src w2 w3).seq + 1)).trans (Reports.of_frame (e := [.rMan]) ?_ rfl)).trans (hman _ _)
    split
    · exact State.count_frame F.MAN_LOST_LOST0_part rfl
    · exact State.count_frame F.MAN_LOST_LOST13_part rfl

theorem State.sourceIn_reports (s : State) (m : Man) (src w2 w3 : Nat) : Reports s (s.sourceIn m src w2 w3) := by
  have hpend : Reports s (s.setPend m src true) := .of_frame State.setPend_frame rfl
  exact .ite hpend (hpend.trans (State.formRecord_reports _ _ _ _ _ _))

theorem State.source_reports (s : State) (src w2 w3 : Nat) : Reports s (s.source src w2 w3) := by
  refine .ite ?_ ((s.sourceIn_reports _ _ _ _).trans (State.sourceIn_reports _ _ _ _ _))
  exact ⟨State.set_power_frame.mono rfl, fun _ _ _ => rfl, fun _ _ h => h, rfl, ⟨fun y => by cases y <;> rfl, rfl⟩, rfl⟩

theorem State.setSess_reports {x : Sess} {c : Session} (h : c.unsent = (s.sess x).unsent) : Reports s (s.setSess x c) :=
  .of_sends (.of_setSess h) State.setSess_frame (by cases x <;> rfl)

theorem State.reportLost_reports (s : State) (x : Sess) : Reports s (s.reportLost x) := by
  unfold State.reportLost
  dsimp only
  refine .ite .refl (.ite ?_ .refl)
  refine Reports.trans (t := s.setSess x _) (State.setSess_reports ?_) (State.source_reports _ _ _ _)
  rfl

theorem State.quayLine_reports (s : State) (t : String) : Reports s (s.quayLine t) := by
  unfold State.quayLine
  refine .ite ?_ (.of_put (by simp))
  exact ((Reports.of_frame State.ringWrite_frame rfl).trans (.of_put (by simp))).trans (State.sourceIn_reports _ _ _ _ _)

theorem State.emit_reports (s : State) (x : Sess) (prio cls epoch : Nat) (t : String) :
    Reports s (s.emit x prio cls epoch .nothing t) := by
  unfold State.emit
  split
  · exact s.quayLine_reports _
  · split
    · exact (State.setSess_reports (Session.queue_unsent _ _)).trans (State.reportLost_reports _ _)
    · exact .refl

theorem State.notices_reports (s : State) (l : List Sess) (cls : Nat) (t : String) : Reports s (s.notices l cls t) :=
  .foldl (fun a x => .ite (State.emit_reports a x _ _ _ _) .refl) _ _

theorem State.raiseK_reports (s : State) (src w2 w3 : Nat) (keys : List (String × String)) :
    Reports s (s.raiseK src w2 w3 keys) := (s.source_reports _ _ _).trans (State.notices_reports _ _ _ _)

theorem State.raise_reports (s : State) (src w2 w3 : Nat) : Reports s (s.raise src w2 w3) := s.raiseK_reports _ _ _ _

theorem State.raise0_reports (s : State) (src : Nat) : Reports s (s.raise0 src) := s.raise_reports _ _ _

theorem State.reply_reports (s : State) (x : Sess) (t : String) : Reports s (s.reply x t) := s.emit_reports x _ _ _ _

theorem State.sendPrompt_reports (s : State) (x : Sess) : Reports s (s.sendPrompt x) :=
  .of_sends (s.sendPrompt_sendsOnly x) State.sendPrompt_frame (by cases x <;> rfl)

theorem State.finish_reports (s : State) (x : Sess) (t : String) : Reports s (s.finish x .nothing t) :=
  .ite ((s.emit_reports x 4 0 0 _).trans (State.sendPrompt_reports _ x)) (s.emit_reports x 4 0 0 _)

theorem State.ok_reports (s : State) (x : Sess) : Reports s (s.ok x) := s.finish_reports x "OK"

theorem State.er_reports (s : State) (x : Sess) (n : Nat) : Reports s (s.er x n) := s.finish_reports x _

theorem State.busError_reports (s : State) (a m : Nat) (w : Bool) : Reports s (s.busError a m w) := s.raiseK_reports _ _ _ _

theorem Frame.powered {e : List Part} {s t : State} (h : Frame e s t) (hn : Part.sub [.rPwr] e = false) (d : Nat) :
    t.powered d = s.powered d := by
  unfold State.powered
  rw [h.get (of_decide_eq_true rfl : F.PWR_DOMS_PG.part = .rPwr) hn]

/-- The wipe of the secure bank leaves every domain that is powered. -/
theorem State.beginWipe_powered (s : State) (cause : Nat) (report : Bool) {d : Nat} (hd : d < 14) (h : s.powered d = true) :
    (s.beginWipe cause report).powered d = true := by
  have hwiped : s.signWiped.powered d = true := by
    have hend : ∀ q, (((((s.withCrypto fun c => { c with run := none, deriving_ := false }).setQueue q).put
        F.CRYPTO_KEY_READY 0).put F.CRYPTO_KEY_BUSY 0)).powered d = true := fun q =>
      ((Frame.trans (Frame.trans (Frame.trans (e := [.crypto, .rCrypto]) (Frame.mono State.withCrypto_frame rfl)
        (Frame.mono State.setQueue_frame rfl)) (State.put_frame F.CRYPTO_KEY_READY_part rfl))
        (State.put_frame F.CRYPTO_KEY_BUSY_part rfl)).powered rfl d).trans h
    unfold State.signWiped
    dsimp only
    split
    · exact (State.raise_reports _ _ _ _).powered d hd (hend _)
    · exact hend _
  have hzero : (s.signWiped.zeroMem 27).powered d = true := (State.zeroMem_frame.powered rfl d).trans hwiped
  have hputs : ∀ t : State, (t.puts [(F.MEMCTL_WIPE_BUSY, 1), (F.MEMCTL_WIPE_CAUSE, cause)]).powered d = t.powered d :=
    fun t => Frame.powered (e := [.rMemctl]) (State.puts_cons_frame F.MEMCTL_WIPE_BUSY_part rfl
      (State.puts_cons_frame F.MEMCTL_WIPE_CAUSE_part rfl State.puts_nil_frame)) rfl d
  exact (hputs _).trans hzero

/-- A domain that is needed is powered afterwards (R346, R347). -/
theorem State.domainOn_powered (s : State) {d : Nat} (hd : d < 14) : (s.domainOn d).powered d = true := by
  have hset : ((s.put F.PWR_DOMS_PG (withBit (s.get F.PWR_DOMS_PG) d true))).powered d = true := by
    unfold State.powered
    rw [State.bitOf_put_withBit hd, if_pos rfl]
  unfold State.domainOn
  split
  next h => exact h
  next h =>
    split
    · unfold State.sramOn
      rw [if_neg (by simpa [State.powered] using h)]
      refine Reports.powered (.foldl (fun t n => .ite .refl (.of_put ?_)) _ _) d hd hset
      simp
    · dsimp only
      split
      · exact State.beginWipe_powered _ _ _ hd hset
      · exact hset

end Sys2Proof.Machine


namespace Sys2Proof.Machine

variable {s : State} {x : Sess}

/-! Settings and tests of the SYS and TEST groups (R73, R78, R87, R624). -/

/-- A rate within its range, or AUTO, follows the OK (R78). -/
theorem execSysBaud_of_range {rate : Option Nat} (hx : accepts s x { sysCmd with uart0Only := true } = true)
    (hrate : ∀ r, rate = some r → 9600 ≤ r ∧ r ≤ 4000000) :
    execSysBaud x rate s = .next (s.finish x (.baud rate) "OK") := by
  unfold execSysBaud
  rw [run_accepts hx]
  refine congrArg Host.Outcome.next (if_neg ?_)
  cases rate with
  | none => simp
  | some r =>
    obtain ⟨hlo, hhi⟩ := hrate r rfl
    simp [Nat.not_lt.mpr hlo, Nat.not_lt.mpr hhi]

theorem execSysBaud_of_beyond {r : Nat} (hx : accepts s x { sysCmd with uart0Only := true } = true)
    (hr : r < 9600 ∨ 4000000 < r) : execSysBaud x (some r) s = .next (s.er x 120) := by
  unfold execSysBaud
  rw [run_accepts hx]
  exact congrArg Host.Outcome.next (if_pos (by simpa using hr))

/-- What is put in a session stands in it, and `OK` sends only. -/
theorem execSysCheck_check {on : Bool} (hx : accepts s x sysCmd = true) :
    ∃ t : State, execSysCheck x on s = .next t ∧ (t.sess x).check = on := by
  refine ⟨_, congrArg Host.Outcome.next (run_accepts hx _), ?_⟩
  rw [State.sess_setSess_same]

end Sys2Proof.Machine

namespace Sys2Proof

open Sys2Proof.Machine

/-- Settles O12: an accepted command is its body; a domain that a test needs is powered. -/
theorem settingsAndTests : Obligations.SettingsAndTests := by
  unfold Obligations.SettingsAndTests
  have body := fun {s : State} {x : Sess} {i : CmdInfo} (h : accepts s x i = true) (f : State → State) =>
    congrArg (Host.Outcome.next (φ := Fault) (ρ := Refusal)) (run_accepts h f)
  refine ⟨fun x on s h => execSysCheck_check h, fun x c s h => body h _, fun x typed s h => ⟨_, rfl, body h _⟩,
    fun x rate s h hr => execSysBaud_of_range h hr, fun x r s h hr => execSysBaud_of_beyond h hr, fun x s h => ?version,
    fun x s h => body h _, fun x s h => body h _, fun x s h => body h _, fun x s h => body h _, fun x s h => body h _,
    fun x q s h => body h _, fun x s => ⟨rfl, rfl, rfl⟩, fun x bank s h => ?testMem, fun s h => ?testMemDone,
    fun x l5 stage s h => ?testRf, fun x pin l s h => ?testPin⟩
  case version => exact body h _
  case testMem =>
    exact ⟨_, body h _, rfl, s.domainOn_powered (by omega)⟩
  case testMemDone =>
    refine ⟨_, congrArg Host.Outcome.next (if_pos h), ?_⟩
    exact (State.raise0_frame.same .memTest rfl : _ = _)
  case testRf =>
    exact ⟨(s.needDomain 5).spend, Config.number (s.needDomain 5).free, s.domainOn_powered (by omega), body h _⟩
  case testPin => exact ⟨_, body h _, Store.get_set_same _ _ _ _⟩

end Sys2Proof

/-! PROOF. What the operations of Machine/Words.lean do to a core with no result under way: the layer under the
statements about the instruction set (O20 to O29, O40). -/

namespace Sys2Proof.Machine

@[simp] theorem State.setCore_core (s : State) (c : CoreId) : s.setCore c (s.core c) = s := by cases c <;> rfl

@[simp] theorem State.setCore_setCore (s : State) (c : CoreId) (k l : Core) : (s.setCore c k).setCore c l = s.setCore c l := by
  cases c <;> rfl

theorem State.setCore_setFree (s : State) (c : CoreId) (k : Core) (n : Nat) :
    { s with free := n }.setCore c k = { s.setCore c k with free := n } := by cases c <;> rfl

@[simp] theorem State.core_setFree (s : State) (c : CoreId) (n : Nat) : ({ s with free := n } : State).core c = s.core c := by
  cases c <;> rfl

@[simp] theorem State.core_spend (s : State) (c : CoreId) : s.spend.core c = s.core c := by cases c <;> rfl

/-! The registers of a core. -/

@[simp] theorem Core.putGen_pc (k : Core) (r : Nat) (v : Word) : (k.putGen r v).pc = k.pc := by unfold Core.putGen; split <;> rfl
@[simp] theorem Core.putGen_delay (k : Core) (r : Nat) (v : Word) : (k.putGen r v).delay = k.delay := by unfold Core.putGen; split <;> rfl
@[simp] theorem Core.putGen_flight (k : Core) (r : Nat) (v : Word) : (k.putGen r v).flight = k.flight := by unfold Core.putGen; split <;> rfl
@[simp] theorem Core.putGen_pair (k : Core) (r : Nat) (v : Word) : (k.putGen r v).pair = k.pair := by unfold Core.putGen; split <;> rfl
@[simp] theorem Core.putGen_s (k : Core) (r : Nat) (v : Word) : (k.putGen r v).s = k.s := by unfold Core.putGen; split <;> rfl
@[simp] theorem Core.putGen_cycle (k : Core) (r : Nat) (v : Word) : (k.putGen r v).cycle = k.cycle := by unfold Core.putGen; split <;> rfl

theorem Core.putGen_zero (k : Core) (v : Word) : k.putGen 0 v = k := rfl

/-- A general register reads as it was last written, and g0 as 0 (R426). -/
theorem Core.gen_putGen (k : Core) (rd : Nat) (v : Word) (r : Nat) : (k.putGen rd v).gen r = withReg k.gen rd v r := by
  unfold Core.putGen withReg
  by_cases hd : rd = 0
  · rw [if_pos hd, if_neg fun h => h.2 hd]
  · rw [if_neg hd]
    by_cases hr : r = rd
    · subst hr
      rw [if_pos ⟨rfl, hd⟩, Core.gen, if_neg hd]
      exact Store.get_set_same _ _ _ _
    · rw [if_neg fun h => hr h.1]
      unfold Core.gen
      split
      · rfl
      · exact Store.get_set_other _ _ _ hr

/-! A core with no result under way. -/

/-- No result is under way, and none was as the word began. -/
def Core.Clear (k : Core) : Prop := k.flight = [] ∧ k.window = []

theorem Core.settle_of_clear {k : Core} (h : k.flight = []) : k.settle = k := by
  cases k; cases h; rfl

theorem Core.complete_of_clear {k : Core} (h : k.flight = []) : k.complete = k := by
  cases k; cases h; rfl

theorem Core.window_of_unpaired {k : Core} (h : k.pair = none) : k.window = k.flight := by
  unfold Core.window; rw [h]

theorem Core.before_of_unpaired {k : Core} (h : k.pair = none) : k.before = k := by
  unfold Core.before; rw [h]

theorem Core.window_of_paired {k : Core} {p : Store Word × List InFlight} (h : k.pair = some p) : k.window = p.2 := by
  unfold Core.window; rw [h]

theorem Core.before_of_paired {k : Core} {p : Store Word × List InFlight} (h : k.pair = some p) :
    k.before = { k with g := p.1, flight := p.2 } := by
  unfold Core.before; rw [h]

theorem Core.before_flight (k : Core) : k.before.flight = k.window := by
  unfold Core.before Core.window
  cases k.pair <;> rfl

theorem Core.clear_of_unpaired {k : Core} (hp : k.pair = none) (hf : k.flight = []) : k.Clear :=
  ⟨hf, (Core.window_of_unpaired hp).trans hf⟩

/-- With nothing under way a word reads each register as it stood before the word (R435). -/
theorem State.reg_of_clear {s : State} {c : CoreId} (h : (s.core c).Clear) (r i : Nat) :
    s.reg c r i = (s.core c).before.gen r := by
  unfold State.reg
  dsimp only
  rw [Core.before_flight, h.2]
  unfold Core.gen
  split <;> rfl

theorem Core.before_gen_of_unpaired {k : Core} (h : k.pair = none) : k.before.gen = k.gen := by
  rw [Core.before_of_unpaired h]

/-- With nothing under way a one-cycle result stands in its register at once. -/
theorem State.result_now {s : State} {c : CoreId} (h : (s.core c).Clear) (rd i : Nat) (div : Bool) (v : Word) :
    s.result c rd i 0 div v = s.setCore c ((s.core c).putGen rd v) := by
  obtain ⟨hf, hw⟩ := h
  unfold State.result
  split
  case isTrue hd => rw [hd, Core.putGen_zero, State.setCore_core]
  case isFalse hd =>
    dsimp only
    rw [if_pos rfl, if_pos rfl, hw, hf]
    have hk : { s.core c with flight := ([] : List InFlight).filter (·.dest != rd) } = s.core c := by
      rw [List.filter_nil, ← hf]
    rw [hk]
    rfl

/-- With nothing under way a later result is under way to its destination, if it is not g0. -/
theorem State.result_later {s : State} {c : CoreId} (h : (s.core c).Clear) (rd i d : Nat) (div : Bool) (v : Word) :
    s.result c rd i (d + 1) div v =
      s.setCore c { s.core c with flight := if rd = 0 then [] else [⟨rd, v, d + 2, div⟩] } := by
  obtain ⟨hf, hw⟩ := h
  unfold State.result
  split
  case isTrue hd =>
    have hk : { s.core c with flight := [] } = s.core c := by rw [← hf]
    rw [hk, State.setCore_core]
  case isFalse hd =>
    dsimp only
    rw [if_neg (Nat.succ_ne_zero d), if_neg (Nat.succ_ne_zero d), hw, hf]
    rfl

theorem State.spoilDivide_of_clear {s : State} {c : CoreId} (h : (s.core c).flight = []) : s.spoilDivide c = s := by
  unfold State.spoilDivide
  have hk : { s.core c with flight := ((s.core c).flight.map fun e => if e.div then { e with value := Config.divWord s.free } else e) }
      = s.core c := by
    rw [h, List.map_nil, ← h]
  dsimp only
  rw [hk, State.setCore_core]

/-! The start of a word. -/

/-- What `atWord` says of a core. -/
theorem atWord_iff {s : State} {c : CoreId} : atWord s c = true ↔ s.coreRuns c = true ∧ (s.core c).pair = none ∧
    (s.core c).delay = none ∧ (s.core c).flight = [] ∧ (s.core c).doze = false ∧ (s.core c).pc.toNat % 4 = 0 := by
  simp only [atWord, Bool.and_eq_true, Option.isNone_iff_eq_none, List.isEmpty_iff, Bool.not_eq_true', beq_iff_eq, and_assoc]

/-- A word of a core that runs outside Doze, at an aligned address, begins with the results that are due. -/
theorem State.word_of_runs {s : State} {c : CoreId} (hr : s.coreRuns c = true) (hp : (s.core c).pair = none)
    (hz : (s.core c).doze = false) (ha : (s.core c).pc.toNat % 4 = 0) (body : State → State) :
    s.word c body = body (s.setCore c { (s.core c).settle with doze := false }) := by
  unfold State.word
  have hu : (if (s.core c).pair.isSome then s.endWord c else s) = s := by simp [hp]
  rw [if_neg (by simp [hr]), hu]
  dsimp only
  have hd : ¬ ((s.core c).doze && !(s.core c).nmi && !s.mne c.man) = true := by simp [hz]
  rw [if_neg hd, if_neg (not_not_intro ha)]

/-- With nothing under way the word begins in the state as it is. -/
theorem State.word_of_clear {s : State} {c : CoreId} (hr : s.coreRuns c = true) (hp : (s.core c).pair = none)
    (hf : (s.core c).flight = []) (hz : (s.core c).doze = false) (ha : (s.core c).pc.toNat % 4 = 0) (body : State → State) :
    s.word c body = body s := by
  rw [State.word_of_runs hr hp hz ha, Core.settle_of_clear hf]
  have hk : { s.core c with doze := false } = s.core c := by rw [← hz]
  rw [hk, State.setCore_core]

theorem State.word_of_atWord {s : State} {c : CoreId} (h : atWord s c = true) (body : State → State) :
    s.word c body = body s := by
  obtain ⟨hr, hp, -, hf, hz, ha⟩ := atWord_iff.1 h
  exact State.word_of_clear hr hp hf hz ha body

/-- Either slot alone opens its word. -/
theorem State.slot_of_clear {s : State} {c : CoreId} (hr : s.coreRuns c = true) (hp : (s.core c).pair = none)
    (hf : (s.core c).flight = []) (hz : (s.core c).doze = false) (ha : (s.core c).pc.toNat % 4 = 0) (sl : Slot)
    (body : State → State) : s.slot c sl body = body (opened c s) := by
  cases sl with
  | a =>
    unfold State.slot
    exact State.word_of_clear hr hp hf hz ha _
  | b =>
    unfold State.slot
    dsimp only
    rw [if_neg (by simp [hp])]
    exact State.word_of_clear hr hp hf hz ha _

theorem State.slot_of_atWord {s : State} {c : CoreId} (h : atWord s c = true) (sl : Slot) (body : State → State) :
    s.slot c sl body = body (opened c s) := by
  obtain ⟨hr, hp, -, hf, hz, ha⟩ := atWord_iff.1 h
  exact State.slot_of_clear hr hp hf hz ha sl body

theorem atWord.clear {s : State} {c : CoreId} (h : atWord s c = true) : (s.core c).Clear := by
  obtain ⟨-, hp, -, hf, -, -⟩ := atWord_iff.1 h
  exact Core.clear_of_unpaired hp hf

theorem core_opened (c : CoreId) (s : State) :
    (opened c s).core c = { s.core c with pair := some ((s.core c).g, (s.core c).flight) } := State.core_setCore_same _ _ _

theorem opened_clear {s : State} {c : CoreId} (h : (s.core c).flight = []) : ((opened c s).core c).Clear := by
  rw [core_opened]
  exact ⟨h, h⟩

/-- The registers that stood before an opened word are those that stand in it. -/
theorem opened_before_gen (c : CoreId) (s : State) : ((opened c s).core c).before.gen = (s.core c).gen := by
  rw [core_opened]; rfl

theorem State.reg_of_atWord {s : State} {c : CoreId} (h : atWord s c = true) (r i : Nat) : s.reg c r i = (s.core c).gen r := by
  rw [State.reg_of_clear (atWord.clear h), Core.before_gen_of_unpaired (atWord_iff.1 h).2.1]

theorem State.reg_opened {s : State} {c : CoreId} (h : (s.core c).flight = []) (r i : Nat) :
    (opened c s).reg c r i = (s.core c).gen r := by
  rw [State.reg_of_clear (opened_clear h), opened_before_gen]

/-! The end of a word. -/

theorem State.core_endWord (s : State) (c : CoreId) :
    (s.endWord c).core c = (((s.core c).advance).cycles s.free).at (s.core c).follow := by
  unfold State.endWord
  rw [State.core_spend, State.core_setCore_same]

theorem State.core_endTransfer (s : State) (c : CoreId) (a : Word) :
    (s.endTransfer c a).core c = { (((s.core c).advance).cycles s.free).at ((s.core c).pc + 4) with delay := some a } := by
  unfold State.endTransfer
  rw [State.core_spend, State.core_setCore_same]

end Sys2Proof.Machine

namespace Sys2Proof

open Sys2Proof.Machine

/-! Only a core changes. -/

theorem OnlyCore.refl (c : CoreId) (s : State) : OnlyCore c s s := ⟨s.core c, s.free, by cases c <;> rfl⟩

theorem OnlyCore.setCore {c : CoreId} {s t : State} (h : OnlyCore c s t) (k : Core) : OnlyCore c s (t.setCore c k) := by
  obtain ⟨l, n, rfl⟩ := h
  exact ⟨k, n, by cases c <;> rfl⟩

theorem OnlyCore.setFree {c : CoreId} {s t : State} (h : OnlyCore c s t) (n : Nat) : OnlyCore c s { t with free := n } := by
  obtain ⟨l, m, rfl⟩ := h
  exact ⟨l, n, rfl⟩

theorem OnlyCore.spend {c : CoreId} {s t : State} (h : OnlyCore c s t) : OnlyCore c s t.spend := h.setFree _

theorem OnlyCore.trans {c : CoreId} {s t u : State} (h : OnlyCore c s t) (h' : OnlyCore c t u) : OnlyCore c s u := by
  obtain ⟨k, n, rfl⟩ := h'
  exact (h.setCore k).setFree n

theorem OnlyCore.opened {c : CoreId} {s : State} : OnlyCore c s (opened c s) := (OnlyCore.refl c s).setCore _

theorem OnlyCore.result {c : CoreId} {s t : State} (h : OnlyCore c s t) (d i n : Nat) (div : Bool) (v : Word) :
    OnlyCore c s (t.result c d i n div v) := by
  unfold State.result
  split
  · exact h
  · exact h.setCore _

theorem OnlyCore.endWord {c : CoreId} {s t : State} (h : OnlyCore c s t) : OnlyCore c s (t.endWord c) := (h.setCore _).spend

theorem OnlyCore.endTransfer {c : CoreId} {s t : State} (h : OnlyCore c s t) (a : Word) : OnlyCore c s (t.endTransfer c a) :=
  (h.setCore _).spend

theorem OnlyCore.go {c : CoreId} {s t : State} (h : OnlyCore c s t) (a : Word) : OnlyCore c s (t.go c a) :=
  (h.setFree _).endTransfer a

theorem OnlyCore.enter {c : CoreId} {s t : State} (h : OnlyCore c s t) (cause : Nat) (epc : Word) (e : Option Word) :
    OnlyCore c s (t.enter c cause epc e) := (h.setCore _).spend

/-- What a result under way says of itself a word later. -/
def Machine.InFlight.next (e : InFlight) : Nat × Word × Nat := (e.dest, e.value, e.left - 1)

/-- A state in which only the core has changed, and within it neither its place, its special registers nor its cycles, ends its
word as `WordDone` says. -/
theorem WordDone.of_endWord {c : CoreId} {s u : State} {k : Core} {g : Nat → Word} {l : List (Nat × Word × Nat)} (ho : OnlyCore c s u)
    (hk : u.core c = k) (hpc : k.pc = (s.core c).pc) (hd : k.delay = none) (hs : k.s = (s.core c).s)
    (hc : k.cycle = (s.core c).cycle) (hg : ∀ r, k.gen r = g r) (hl : k.flight.map InFlight.next = l) :
    WordDone c s (u.endWord c) g l := by
  refine ⟨ho.endWord, ?_⟩
  rw [State.core_endWord, hk]
  refine ⟨?_, rfl, rfl, hg, ?_, hs, ?_⟩
  · show k.delay.getD (k.pc + 4) = _
    rw [hd, hpc]; rfl
  · show (k.flight.map fun e => ({ e with left := e.left - 1 } : InFlight)).map _ = l
    rw [List.map_map, ← hl]; rfl
  · show (s.core c).cycle < k.cycle + 1 + Config.stall u.free
    omega

theorem WordDone.of_endSlot {c : CoreId} {s u : State} {k : Core} {g : Nat → Word} {l : List (Nat × Word × Nat)} (ho : OnlyCore c s u)
    (hk : u.core c = k) (hpc : k.pc = (s.core c).pc) (hd : k.delay = none) (hs : k.s = (s.core c).s)
    (hc : k.cycle = (s.core c).cycle) (hg : ∀ r, k.gen r = g r) (hl : k.flight.map InFlight.next = l) :
    WordDone c s (u.endSlot c .b) g l :=
  WordDone.of_endWord (ho.setFree _) ((State.core_setFree _ _ _).trans hk) hpc hd hs hc hg hl

/-- Slot A leaves the word open. -/
theorem SlotOpen.of_endSlot {c : CoreId} {s u : State} {k : Core} {b : Store Word} {g : Nat → Word} {l : List (Nat × Word × Nat)}
    (ho : OnlyCore c s u) (hk : u.core c = k) (hpc : k.pc = (s.core c).pc) (hd : k.delay = none) (hp : k.pair = some (b, []))
    (hs : k.s = (s.core c).s) (hc : k.cycle = (s.core c).cycle) (hg : ∀ r, k.gen r = g r)
    (hl : k.flight.map (fun e => (e.dest, e.value, e.left)) = l) : SlotOpen c s (u.endSlot c .a) b g l := by
  refine ⟨ho.setFree _, ?_⟩
  have hk' : (u.endSlot c .a).core c = k := (State.core_setFree _ _ _).trans hk
  rw [hk']
  exact ⟨hpc, hd, hp, hg, hl, hs, hc⟩

end Sys2Proof

/-! PROOF. The register operations, the operations with an immediate, the short operations and the paired word
(O20 to O23). -/

namespace Sys2Proof

open Sys2Proof.Machine

/-- Each register operation runs `State.alu` with its function, CLZ with g0 as its second register. -/
theorem IsRegisterOp.exec_command {op : RegisterOp} (h : IsRegisterOp op) (c : CoreId) (rd ra rb : Reg) (s : State) :
    exec (op.command c rd ra rb) s = .next (s.alu c op.fn rd ra (if op.fn = .clz then 0 else rb)) := by
  simp only [IsRegisterOp, List.mem_cons, List.not_mem_nil, or_false] at h
  rcases h with rfl | rfl | rfl | rfl | rfl | rfl | rfl | rfl | rfl | rfl | rfl | rfl | rfl | rfl | rfl | rfl | rfl | rfl | rfl |
    rfl | rfl | rfl | rfl | rfl <;> rfl

/-- The function of each register operation has the operation's value and distance (R431). -/
theorem IsRegisterOp.value_distance {op : RegisterOp} (h : IsRegisterOp op) :
    (∀ a b, op.fn.value a b = op.value a b) ∧ op.fn.distance = op.distance ∧
      (op.fn = .clz → ∀ a b b', op.value a b = op.value a b') := by
  simp only [IsRegisterOp, List.mem_cons, List.not_mem_nil, or_false] at h
  rcases h with rfl | rfl | rfl | rfl | rfl | rfl | rfl | rfl | rfl | rfl | rfl | rfl | rfl | rfl | rfl | rfl | rfl | rfl | rfl |
    rfl | rfl | rfl | rfl | rfl <;>
    exact ⟨fun a b => by simp [AluFn.value, truth], rfl, by simp⟩

/-- A result at its distance, written by a core with nothing under way, ends the word as the distance says. -/
theorem WordDone.of_result {c : CoreId} {s u : State} {rd i d : Nat} {div : Bool} {v : Word} {g : Nat → Word} (ho : OnlyCore c s u)
    (hc : (u.core c).Clear) (hpc : (u.core c).pc = (s.core c).pc) (hd : (u.core c).delay = none)
    (hs : (u.core c).s = (s.core c).s) (hy : (u.core c).cycle = (s.core c).cycle) (hg : (u.core c).gen = g) :
    WordDone c s ((u.result c rd i d div v).endSlot c .b) (if d = 0 then withReg g rd v else g)
      (if d = 0 ∨ rd = 0 then [] else [(rd, v, d)]) := by
  cases d with
  | zero =>
    rw [State.result_now hc, if_pos rfl, if_pos (Or.inl rfl)]
    refine WordDone.of_endSlot (ho.setCore _) (State.core_setCore_same _ _ _) (by simpa using hpc) (by simpa using hd)
      (by simpa using hs) (by simpa using hy) (fun r => ?_) (by simp [hc.1])
    rw [Core.gen_putGen, hg]
  | succ d =>
    rw [State.result_later hc, if_neg (Nat.succ_ne_zero d)]
    refine WordDone.of_endSlot (ho.setCore _) (State.core_setCore_same _ _ _) hpc hd hs hy (fun r => congrFun hg r) ?_
    by_cases hr : rd = 0
    · rw [if_pos hr, if_pos (Or.inr hr)]; rfl
    · rw [if_neg hr, if_neg (by simp [hr])]; rfl

/-- The same, in slot A. -/
theorem SlotOpen.of_result {c : CoreId} {s u : State} {b : Store Word} {rd i d : Nat} {div : Bool} {v : Word} {g : Nat → Word} (ho : OnlyCore c s u)
    (hc : (u.core c).Clear) (hpc : (u.core c).pc = (s.core c).pc) (hd : (u.core c).delay = none) (hp : (u.core c).pair = some (b, []))
    (hs : (u.core c).s = (s.core c).s) (hy : (u.core c).cycle = (s.core c).cycle) (hg : (u.core c).gen = g) :
    SlotOpen c s ((u.result c rd i d div v).endSlot c .a) b (if d = 0 then withReg g rd v else g)
      (if d = 0 ∨ rd = 0 then [] else [(rd, v, d + 1)]) := by
  cases d with
  | zero =>
    rw [State.result_now hc, if_pos rfl, if_pos (Or.inl rfl)]
    refine SlotOpen.of_endSlot (ho.setCore _) (State.core_setCore_same _ _ _) (by simpa using hpc) (by simpa using hd)
      (by simpa using hp) (by simpa using hs) (by simpa using hy) (fun r => ?_) (by simp [hc.1])
    rw [Core.gen_putGen, hg]
  | succ d =>
    rw [State.result_later hc, if_neg (Nat.succ_ne_zero d)]
    refine SlotOpen.of_endSlot (ho.setCore _) (State.core_setCore_same _ _ _) hpc hd hp hs hy (fun r => congrFun hg r) ?_
    by_cases hr : rd = 0
    · rw [if_pos hr, if_pos (Or.inr hr)]; rfl
    · rw [if_neg hr, if_neg (by simp [hr])]; rfl

/-- A long word that writes one result at the start of an aligned word. -/
theorem WordDone.of_atWord {c : CoreId} {s : State} (h : atWord s c = true) (rd i d : Nat) (div : Bool) (v : Word) :
    WordDone c s ((s.result c rd i d div v).endSlot c .b) (if d = 0 then withReg (s.core c).gen rd v else (s.core c).gen)
      (if d = 0 ∨ rd = 0 then [] else [(rd, v, d)]) :=
  WordDone.of_result (OnlyCore.refl c s) (atWord.clear h) rfl (atWord_iff.1 h).2.2.1 rfl rfl rfl

/-- `State.alu` at the start of an aligned word: the value of its function is written at its distance. -/
theorem State.alu_wordDone {c : CoreId} {s : State} (h : atWord s c = true) (f : AluFn) (rd ra rb : Reg) :
    WordDone c s (s.alu c f rd ra rb)
      (if f.distance = 0 then withReg (s.core c).gen rd (f.value ((s.core c).gen ra) ((s.core c).gen rb)) else (s.core c).gen)
      (if f.distance = 0 ∨ rd.val = 0 then [] else [(rd.val, f.value ((s.core c).gen ra) ((s.core c).gen rb), f.distance)]) := by
  unfold State.alu
  rw [State.word_of_atWord h]
  dsimp only
  rw [State.reg_of_atWord h, State.reg_of_atWord h, State.spoilDivide_of_clear (atWord.clear h).1, ite_self]
  exact WordDone.of_atWord h _ _ _ _ _

/-- Settles O20: every register operation is `State.alu`, whose word is done with the value of its function. -/
theorem registerOperations : Obligations.RegisterOperations := by
  unfold Obligations.RegisterOperations
  intro c rd ra rb s op h hop
  obtain ⟨hv, hd, hz⟩ := hop.value_distance
  dsimp only
  rw [← hd]
  refine ⟨⟨_, hop.exec_command c rd ra rb s, ?_⟩, fun hb => ⟨_, congrArg Host.Outcome.next (if_neg fun hn => hn.2 (hb hn.1)), ?_⟩⟩
  · have hw := State.alu_wordDone h op.fn rd ra (if op.fn = .clz then 0 else rb)
    rw [hv] at hw
    by_cases hf : op.fn = .clz
    · rw [hz hf _ _ ((s.core c).gen rb)] at hw
      exact hw
    · rw [if_neg hf] at hw ⊢
      exact hw
  · have hw := State.alu_wordDone h op.fn rd ra rb
    rw [hv] at hw
    exact hw

/-- `State.aluImm` at the start of an aligned word, for a function of one cycle. -/
theorem State.aluImm_wordDone {c : CoreId} {s : State} (h : atWord s c = true) (f : AluFn) (rd ra : Reg) (imm : Word) :
    WordDone c s (s.aluImm c f rd ra imm) (withReg (s.core c).gen rd (f.value ((s.core c).gen ra) imm)) [] := by
  unfold State.aluImm
  rw [State.word_of_atWord h, State.reg_of_atWord h]
  exact WordDone.of_atWord h _ 0 0 _ _

/-- Each operation with an immediate runs `State.aluImm` with a function that has its value (R430). -/
theorem IsImmediateOp.exec_eq {c : CoreId} {rd ra : Reg} {imm : BitVec 15} {amt : Fin 32} {p : Instr × (Word → Word)}
    (h : IsImmediateOp c rd ra imm amt p) (s : State) :
    ∃ f v, exec p.1 s = .next (s.aluImm c f rd ra v) ∧ ∀ a, f.value a v = p.2 a := by
  have hn : (BitVec.ofNat 32 amt.val).toNat % 32 = amt.val := by
    rw [BitVec.toNat_ofNat]; omega
  simp only [IsImmediateOp, List.mem_cons, List.not_mem_nil, or_false] at h
  rcases h with rfl | rfl | rfl | rfl | rfl | rfl | rfl | rfl | rfl <;>
    exact ⟨_, _, rfl, fun a => by simp only [AluFn.value, ShiftDir.fn, truth, hn]⟩

/-- Settles O21: the operations with an immediate are `State.aluImm`; LUI and AUIPC write their value in the same way. -/
theorem immediateOperations : Obligations.ImmediateOperations := by
  unfold Obligations.ImmediateOperations
  intro c rd ra imm amt upper s h
  refine ⟨fun p hp => ?imm, ⟨_, congrArg Host.Outcome.next (State.word_of_atWord h _), WordDone.of_atWord h _ 0 0 _ _⟩,
    ⟨_, congrArg Host.Outcome.next (State.word_of_atWord h _), WordDone.of_atWord h _ 0 0 _ _⟩⟩
  case imm =>
    obtain ⟨f, v, he, hv⟩ := hp.exec_eq s
    refine ⟨_, he, ?_⟩
    rw [← hv]
    exact State.aluImm_wordDone h f rd ra v

/-- The state as a slot of a word has read its operands and goes on to write its result. -/
theorem opened_facts {c : CoreId} {s : State} (h : atWord s c = true) : ((opened c s).core c).Clear ∧
    ((opened c s).core c).pc = (s.core c).pc ∧ ((opened c s).core c).delay = none ∧
    ((opened c s).core c).pair = some ((s.core c).g, []) ∧ ((opened c s).core c).s = (s.core c).s ∧
    ((opened c s).core c).cycle = (s.core c).cycle ∧ ((opened c s).core c).gen = (s.core c).gen := by
  obtain ⟨-, -, hd, hf, -, -⟩ := atWord_iff.1 h
  refine ⟨opened_clear hf, ?_⟩
  rw [core_opened, hf]
  exact ⟨rfl, hd, rfl, rfl, rfl, rfl⟩

/-- What a slot of its own leaves of a word: slot A leaves it open, slot B has ended it. -/
def SlotDone (c : CoreId) (sl : Slot) (s t : State) (g : Nat → Word) (rd d : Nat) (v : Word) : Prop :=
  match sl with
  | .a => SlotOpen c s t (s.core c).g g (if d = 0 ∨ rd = 0 then [] else [(rd, v, d + 1)])
  | .b => WordDone c s t g (if d = 0 ∨ rd = 0 then [] else [(rd, v, d)])

/-- A slot that writes one result. -/
theorem SlotDone.of_result {c : CoreId} {s : State} (h : atWord s c = true) (sl : Slot) (rd i d : Nat) (v : Word) :
    SlotDone c sl s (((opened c s).result c rd i d false v).endSlot c sl)
      (if d = 0 then withReg (s.core c).gen rd v else (s.core c).gen) rd d v := by
  obtain ⟨hc, hpc, hd, hp, hs, hy, hg⟩ := opened_facts h
  cases sl with
  | a => exact SlotOpen.of_result OnlyCore.opened hc hpc hd hp hs hy hg
  | b => exact WordDone.of_result OnlyCore.opened hc hpc hd hs hy hg

/-- `State.shortAlu` alone in its word. -/
theorem State.shortAlu_slotDone {c : CoreId} {s : State} (h : atWord s c = true) (sl : Slot) (f : AluFn) (rd rs : SReg) :
    SlotDone c sl s (s.shortAlu c sl f rd rs)
      (if f.distance = 0 then withReg (s.core c).gen rd (f.value ((s.core c).gen rd) ((s.core c).gen rs)) else (s.core c).gen)
      rd f.distance (f.value ((s.core c).gen rd) ((s.core c).gen rs)) := by
  unfold State.shortAlu
  rw [State.slot_of_atWord h]
  dsimp only
  rw [State.reg_opened (atWord.clear h).1, State.reg_opened (atWord.clear h).1]
  exact SlotDone.of_result h sl _ _ _ _

/-- `State.shortImm` alone in its word. -/
theorem State.shortImm_slotDone {c : CoreId} {s : State} (h : atWord s c = true) (sl : Slot) (f : AluFn) (rd : SReg) (imm : Word) :
    SlotDone c sl s (s.shortImm c sl f rd imm) (withReg (s.core c).gen rd (f.value ((s.core c).gen rd) imm))
      rd 0 (f.value ((s.core c).gen rd) imm) := by
  unfold State.shortImm
  rw [State.slot_of_atWord h]
  dsimp only
  rw [State.reg_opened (atWord.clear h).1]
  exact SlotDone.of_result h sl _ _ 0 _

/-- Each short operation, alone in its slot, writes its value at its distance (R432). -/
theorem IsShortOp.slotDone {c : CoreId} {sl : Slot} {rd rs : SReg} {imm : BitVec 6} {amt : Fin 32}
    {p : Instr × (Word → Word → Word) × Nat} (hp : IsShortOp c sl rd rs imm amt p) {s : State} (h : atWord s c = true) :
    ∃ t : State, exec p.1 s = .next t ∧
      let v := p.2.1 ((s.core c).gen rd) ((s.core c).gen rs)
      SlotDone c sl s t (if p.2.2 = 0 then withReg (s.core c).gen rd v else (s.core c).gen) rd p.2.2 v := by
  have hn : (BitVec.ofNat 32 amt.val).toNat % 32 = amt.val := by
    rw [BitVec.toNat_ofNat]; omega
  have reg := fun f => State.shortAlu_slotDone h sl f rd rs
  have imm' := fun f v => State.shortImm_slotDone h sl f rd v
  simp only [IsShortOp, List.mem_cons, List.not_mem_nil, or_false] at hp
  rcases hp with rfl | rfl | rfl | rfl | rfl | rfl | rfl | rfl | rfl | rfl | rfl | rfl | rfl | rfl | rfl | rfl | rfl | rfl | rfl
  · refine ⟨_, congrArg Host.Outcome.next (State.slot_of_atWord h sl _), ?_⟩
    dsimp only
    rw [State.reg_opened (atWord.clear h).1]
    exact SlotDone.of_result h sl _ _ 0 _
  · exact ⟨_, rfl, reg .add⟩
  · exact ⟨_, rfl, reg .sub⟩
  · exact ⟨_, rfl, reg .and⟩
  · exact ⟨_, rfl, reg .or⟩
  · exact ⟨_, rfl, reg .xor⟩
  · exact ⟨_, rfl, reg .shl⟩
  · exact ⟨_, rfl, reg .shr⟩
  · exact ⟨_, rfl, reg .sra⟩
  · exact ⟨_, rfl, reg .mul⟩
  · exact ⟨_, rfl, reg .cmplt⟩
  · exact ⟨_, rfl, reg .cmpltu⟩
  · refine ⟨_, rfl, ?_⟩
    have hw := reg .cmpeq
    simp only [AluFn.value, truth, beq_iff_eq] at hw
    exact hw
  · exact ⟨_, congrArg Host.Outcome.next (State.slot_of_atWord h sl _), SlotDone.of_result h sl _ _ 0 _⟩
  · exact ⟨_, rfl, imm' .add _⟩
  · refine ⟨_, rfl, ?_⟩
    have hw := imm' .shl (BitVec.ofNat 32 amt)
    simp only [AluFn.value, hn] at hw
    exact hw
  · refine ⟨_, rfl, ?_⟩
    have hw := imm' .shr (BitVec.ofNat 32 amt)
    simp only [AluFn.value, hn] at hw
    exact hw
  · refine ⟨_, rfl, ?_⟩
    have hw := imm' .sra (BitVec.ofNat 32 amt)
    simp only [AluFn.value, hn] at hw
    exact hw
  · exact ⟨_, rfl, imm' .and _⟩

/-- A slot that writes nothing: writing g0 is the same. -/
theorem SlotDone.of_endSlot {c : CoreId} {s : State} (h : atWord s c = true) (sl : Slot) :
    SlotDone c sl s ((opened c s).endSlot c sl) (s.core c).gen 0 0 0 := by
  have hd := SlotDone.of_result h sl 0 0 0 0
  rw [State.result_now (opened_facts h).1, Core.putGen_zero, State.setCore_core, if_pos rfl] at hd
  have hg : withReg (s.core c).gen 0 0 = (s.core c).gen := funext fun r => if_neg fun hr => hr.2 rfl
  rwa [hg] at hd

/-- Settles O22: every short operation is one of `State.shortAlu`, `State.shortImm` and a result of its slot; SHORT_NOP and the
fences only end theirs. -/
theorem shortOperations : Obligations.ShortOperations := by
  unfold Obligations.ShortOperations
  intro c rd rs imm amt s h
  refine ⟨fun p hp => hp.slotDone h, fun p hp => hp.slotDone h, fun i hi => ?b, fun i hi => ?a⟩
  case b =>
    simp only [List.mem_cons, List.not_mem_nil, or_false] at hi
    rcases hi with rfl | rfl | rfl
    · exact ⟨_, congrArg Host.Outcome.next (State.slot_of_atWord h .b _), SlotDone.of_endSlot h .b⟩
    · exact ⟨_, congrArg Host.Outcome.next (State.slot_of_atWord h .b _), SlotDone.of_endSlot h .b⟩
    · obtain ⟨-, -, hd, hf, -, -⟩ := atWord_iff.1 h
      exact ⟨_, congrArg Host.Outcome.next (State.word_of_atWord h _),
        WordDone.of_endWord (OnlyCore.refl c s) rfl rfl hd rfl rfl (fun _ => rfl) (by rw [hf]; rfl)⟩
  case a =>
    simp only [List.mem_cons, List.not_mem_nil, or_false] at hi
    rcases hi with rfl | rfl
    · exact ⟨_, congrArg Host.Outcome.next (State.slot_of_atWord h .a _), SlotDone.of_endSlot h .a⟩
    · exact ⟨_, congrArg Host.Outcome.next (State.slot_of_atWord h .a _), SlotDone.of_endSlot h .a⟩

/-- Slot B of an open word runs in the state that slot A left. -/
theorem State.slot_b_of_paired {s : State} {c : CoreId} (hr : s.coreRuns c = true) (hp : (s.core c).pair.isSome = true)
    (body : State → State) : s.slot c .b body = body s := by
  unfold State.slot
  exact if_pos (by rw [hr, hp]; rfl)

/-- Which core runs is not a core's own to say. -/
theorem OnlyCore.coreRuns {c : CoreId} {s t : State} (h : OnlyCore c s t) : t.coreRuns c = s.coreRuns c := by
  obtain ⟨k, n, rfl⟩ := h
  cases c <;> rfl

/-- Settles O23: slot B reads the registers that slot A's word remembers, whatever slot A wrote. -/
theorem pairedSlotsReadTheSameState : Obligations.PairedSlotsReadTheSameState := by
  unfold Obligations.PairedSlotsReadTheSameState
  intro c x rd rs imm s t h ht
  obtain ⟨hr, -, -, hf, -, -⟩ := atWord_iff.1 h
  obtain ⟨u, hu, ho, hpc, hd, hp, hg, hl, hs, hy⟩ :=
    (show IsShortOp c .a x x imm 0 (.shortMovi c .a x imm, fun _ _ => imm.signExtend 32, 0) by simp [IsShortOp]).slotDone h
  obtain rfl := Host.Outcome.next.inj (hu.symm.trans ht)
  have hflight : (u.core c).flight = [] := by simpa using hl
  have hclear : (u.core c).Clear := ⟨hflight, Core.window_of_paired hp⟩
  have hread : ∀ r i, u.reg c r i = (s.core c).gen r := fun r i => by
    rw [State.reg_of_clear hclear, Core.before_of_paired hp]; rfl
  refine ⟨_, congrArg Host.Outcome.next (State.slot_b_of_paired (ho.coreRuns.trans hr) (by rw [hp]; rfl) _), ?_⟩
  dsimp only
  rw [hread, hread]
  show WordDone c s ((u.result c rd 0 0 false ((s.core c).gen rd + (s.core c).gen rs)).endSlot c .b) _ _
  rw [State.result_now hclear]
  refine WordDone.of_endSlot (ho.setCore _) (State.core_setCore_same _ _ _) (by simpa using hpc) (by simpa using hd)
    (by simpa using hs) (by simpa using hy) (fun r => ?_) (by simp [hflight])
  rw [Core.gen_putGen]
  have hgu : (u.core c).gen = withReg (s.core c).gen x (imm.signExtend 32) := funext fun r => (hg r).trans (by rw [if_pos rfl])
  rw [hgu]

end Sys2Proof

/-! PROOF. Transfers of control, entries and returns, the special registers, and results that land (O24, O25, O28, O29). -/

namespace Sys2Proof.Machine

@[simp] theorem Core.putGen_cycleHi (k : Core) (r : Nat) (v : Word) : (k.putGen r v).cycleHi = k.cycleHi := by
  unfold Core.putGen; split <;> rfl

/-- A special register holds what was last put into it. -/
theorem Core.special_putSpecial (k : Core) (r q : Nat) (v : Word) :
    (k.putSpecial r v).special q = if q = r then v else k.special q := by
  unfold Core.special Core.putSpecial
  split
  case isTrue h => rw [h]; exact Store.get_set_same _ _ _ _
  case isFalse h => exact Store.get_set_other _ _ _ h

/-- What an entry makes of a core whose results have completed (R448, R449). -/
def Core.entered (k : Core) (n cause : Nat) (epc : Word) (e : Option Word) : Core :=
  let new := (k.special 0 &&& 0xFFFFFFFE) ||| (if cause = 0 then 0 else if cause = 1 then 2 else 4)
  let k1 := (((k.putSpecial 2 (k.special 0)).putSpecial 1 epc).putSpecial 3 (BitVec.ofNat 32 cause)).putSpecial 0 new
  let k2 := match e with | some a => k1.putSpecial 4 a | none => k1
  { (k2.cycles n).at (k.special 5 + BitVec.ofNat 32 (0x20 * cause)) with doze := false, nmi := k2.nmi && cause != 1 }

theorem State.enter_eq (s : State) (c : CoreId) (cause : Nat) (epc : Word) (e : Option Word) :
    s.enter c cause epc e = (s.setCore c ((s.core c).complete.entered s.free cause epc e)).spend := rfl

/-- The special registers after an entry. -/
theorem Core.entered_special (k : Core) (n cause : Nat) (epc : Word) (e : Option Word) (q : Nat) :
    (k.entered n cause epc e).special q =
      if q = 4 then e.getD (k.special 4)
      else if q = 0 then (k.special 0 &&& 0xFFFFFFFE) ||| (if cause = 0 then 0 else if cause = 1 then 2 else 4)
      else if q = 3 then BitVec.ofNat 32 cause
      else if q = 1 then epc
      else if q = 2 then k.special 0 else k.special q := by
  cases e with
  | none =>
    show Core.special (Core.putSpecial _ 0 _) q = _
    simp only [Core.special_putSpecial]
    by_cases hq : q = 4
    · subst hq; simp
    · rw [if_neg hq]
  | some a =>
    show Core.special (Core.putSpecial _ 4 _) q = _
    simp only [Core.special_putSpecial]
    rfl

theorem Core.entered_pc (k : Core) (n cause : Nat) (epc : Word) (e : Option Word) :
    (k.entered n cause epc e).pc = k.special 5 + BitVec.ofNat 32 (0x20 * cause) := rfl

theorem Core.entered_g (k : Core) (n cause : Nat) (epc : Word) (e : Option Word) : (k.entered n cause epc e).g = k.g := by
  cases e <;> simp only [Core.entered, Core.at, Core.cycles, Core.putSpecial]

theorem Core.entered_nmi (k : Core) (n cause : Nat) (epc : Word) (e : Option Word) :
    (k.entered n cause epc e).nmi = (k.nmi && cause != 1) := by
  cases e <;> rfl

/-- An entry forgets an open pair. -/
theorem Core.entered_unpair (k : Core) (p : Option (Store Word × List InFlight)) (n cause : Nat) (epc : Word) (e : Option Word) :
    ({ k with pair := p } : Core).entered n cause epc e = k.entered n cause epc e := by
  cases e <;> rfl

theorem State.enter_of_clear {s : State} {c : CoreId} (h : (s.core c).flight = []) (cause : Nat) (epc : Word) (e : Option Word) :
    s.enter c cause epc e = (s.setCore c ((s.core c).entered s.free cause epc e)).spend := by
  rw [State.enter_eq, Core.complete_of_clear h]

/-- An entry with nothing under way asks nothing of an open pair. -/
theorem State.enter_of_opened {s : State} {c : CoreId} (h : (s.core c).flight = []) (cause : Nat) (epc : Word) (e : Option Word) :
    (opened c s).enter c cause epc e = s.enter c cause epc e := by
  rw [State.enter_of_clear h, State.enter_of_clear (by rw [core_opened]; exact h), core_opened, Core.entered_unpair]
  unfold opened
  rw [State.setCore_setCore, State.setCore_free]

/-- A fault of a word that is not paired enters in the state as it is. -/
theorem State.fault_of_unpaired {s : State} {c : CoreId} (h : (s.core c).pair = none) (cause : Nat) (e : Option Word) :
    s.fault c cause e = s.enter c cause (s.core c).pc e := by
  unfold State.fault
  dsimp only
  rw [h]
  dsimp only
  rw [State.setCore_core]

/-- A fault of an opened word, too, enters in the state before the word. -/
theorem State.fault_of_opened {s : State} {c : CoreId} (h : (s.core c).flight = []) (cause : Nat) (e : Option Word) :
    (opened c s).fault c cause e = s.enter c cause (s.core c).pc e := by
  rw [← State.enter_of_opened h]
  unfold State.fault
  rw [core_opened]
  dsimp only
  unfold opened
  rw [State.setCore_setCore]

/-- A transfer outside a delay slot does what it does. -/
theorem State.transfer_of_undelayed {s : State} {c : CoreId} (h : (s.core c).delay = none) (body : State → State) :
    s.transfer c body = body s := by
  unfold State.transfer
  exact if_neg (by rw [h]; exact Bool.false_ne_true)

/-- A transfer in a delay slot is illegal (R439). -/
theorem State.transfer_of_delayed {s : State} {c : CoreId} {a : Word} (h : (s.core c).delay = some a) (body : State → State) :
    s.transfer c body = s.illegal c := by
  unfold State.transfer
  exact if_pos (by rw [h]; rfl)

/-- What a special register keeps of a value (R445), register by register. -/
theorem specialKeeps_eq (r : Nat) (old v : Word) : specialKeeps r old v =
    if r = 0 then v &&& 7 else if r = 1 ∨ r = 2 ∨ r = 9 ∨ r = 10 then v else if r = 5 then v &&& 0xFFFFFF00 else old := by
  unfold specialKeeps
  split <;> simp_all

end Sys2Proof.Machine

namespace Sys2Proof

open Sys2Proof.Machine

/-- Each long branch runs `State.branch` on its condition. -/
theorem IsBranchOp.exec_eq {c : CoreId} {ra rb : Reg} {disp : BitVec 15} {p : Instr × (Word → Word → Bool)}
    (h : IsBranchOp c ra rb disp p) (s : State) : exec p.1 s = .next (s.branch c p.2 ra rb disp) := by
  simp only [IsBranchOp, List.mem_cons, List.not_mem_nil, or_false] at h
  rcases h with rfl | rfl | rfl | rfl | rfl | rfl <;> rfl

/-- The core stands at its delay slot, to go on from there to `a`. -/
def Gone (c : CoreId) (s t : State) (a : Word) (g : Nat → Word) : Prop :=
  OnlyCore c s t ∧ (t.core c).pc = (s.core c).pc + 4 ∧ (t.core c).delay = some a ∧
    (t.core c).flight = [] ∧ (t.core c).pair = none ∧ ∀ r, (t.core c).gen r = g r

theorem Gone.of_go {c : CoreId} {s u : State} {k : Core} {a : Word} {g : Nat → Word} (ho : OnlyCore c s u) (hk : u.core c = k)
    (hpc : k.pc = (s.core c).pc) (hf : k.flight = []) (hg : ∀ r, k.gen r = g r) : Gone c s (u.go c a) a g := by
  refine ⟨ho.go a, ?_⟩
  have hc : (u.go c a).core c = { ((k.advance).cycles (u.free + 4)).at (k.pc + 4) with delay := some a } := by
    unfold State.go
    rw [State.core_endTransfer, State.core_setFree, hk]
  rw [hc]
  refine ⟨congrArg (· + 4) hpc, rfl, ?_, rfl, hg⟩
  show k.flight.map _ = []
  rw [hf]; rfl

/-- A transfer that writes no register. -/
theorem Gone.of_atWord {c : CoreId} {s : State} (h : atWord s c = true) (a : Word) : Gone c s (s.go c a) a (s.core c).gen :=
  Gone.of_go (OnlyCore.refl c s) rfl rfl (atWord.clear h).1 fun _ => rfl

/-- A short transfer, which writes no register. -/
theorem Gone.of_opened {c : CoreId} {s : State} (h : atWord s c = true) (a : Word) :
    Gone c s ((opened c s).go c a) a (s.core c).gen :=
  Gone.of_go OnlyCore.opened (core_opened c s) rfl (atWord.clear h).1 fun _ => rfl

/-- A transfer that writes its link. -/
theorem Gone.of_link {c : CoreId} {s : State} (h : atWord s c = true) (rd : Reg) (v a : Word) :
    Gone c s ((s.result c rd 0 0 false v).go c a) a (withReg (s.core c).gen rd v) := by
  rw [State.result_now (atWord.clear h)]
  exact Gone.of_go ((OnlyCore.refl c s).setCore _) (State.core_setCore_same _ _ _) (Core.putGen_pc _ _ _)
    ((Core.putGen_flight _ _ _).trans (atWord.clear h).1) fun r => Core.gen_putGen _ _ _ r

/-- A transfer at the start of an aligned word. -/
theorem State.word_transfer {c : CoreId} {s : State} (h : atWord s c = true) (body : State → State) :
    (s.word c fun t => t.transfer c body) = body s := by
  rw [State.word_of_atWord h, State.transfer_of_undelayed (atWord_iff.1 h).2.2.1]

theorem State.shortTransfer_of_atWord {c : CoreId} {s : State} (h : atWord s c = true) (body : State → State) :
    s.shortTransfer c body = body (opened c s) := by
  unfold State.shortTransfer
  rw [State.slot_of_atWord h, State.transfer_of_undelayed (by rw [core_opened]; exact (atWord_iff.1 h).2.2.1)]

theorem State.target_opened (c : CoreId) (s : State) (w : Nat) (d : BitVec w) :
    (opened c s).target c w d = (s.core c).pc + (d.signExtend 32 <<< 2) := by
  unfold State.target; rw [core_opened]

theorem State.past_opened (c : CoreId) (s : State) : (opened c s).past c = (s.core c).pc + 8 := by
  unfold State.past; rw [core_opened]

/-- JR and RET go to the value of a register, or fault where it is not aligned. -/
theorem State.jump_of_atWord {c : CoreId} {s : State} (h : atWord s c = true) (r : Reg) :
    ((s.core c).gen r).toNat % 4 = 0 ∧
      (s.shortTransfer c fun u => if (u.reg c r 2).toNat % 4 ≠ 0 then u.misaligned c (u.reg c r 2) else u.go c (u.reg c r 2)) =
        (opened c s).go c ((s.core c).gen r) ∨
    ((s.core c).gen r).toNat % 4 ≠ 0 ∧
      (s.shortTransfer c fun u => if (u.reg c r 2).toNat % 4 ≠ 0 then u.misaligned c (u.reg c r 2) else u.go c (u.reg c r 2)) =
        s.enter c 3 (s.core c).pc (some ((s.core c).gen r)) := by
  rw [State.shortTransfer_of_atWord h, State.reg_opened (atWord.clear h).1]
  by_cases ha : ((s.core c).gen r).toNat % 4 = 0
  · exact .inl ⟨ha, if_neg (not_not_intro ha)⟩
  · exact .inr ⟨ha, (if_pos ha).trans (State.fault_of_opened (atWord.clear h).1 3 _)⟩

/-- The same jump, to an aligned address. -/
theorem State.jump_aligned {c : CoreId} {s : State} (h : atWord s c = true) (r : Reg) (ha : ((s.core c).gen r).toNat % 4 = 0) :
    (s.shortTransfer c fun u => if (u.reg c r 2).toNat % 4 ≠ 0 then u.misaligned c (u.reg c r 2) else u.go c (u.reg c r 2)) =
      (opened c s).go c ((s.core c).gen r) :=
  (State.jump_of_atWord h r).elim And.right fun hn => absurd ha hn.1

/-- The same jump, to an address that is not aligned. -/
theorem State.jump_misaligned {c : CoreId} {s : State} (h : atWord s c = true) (r : Reg) (ha : ((s.core c).gen r).toNat % 4 ≠ 0) :
    (s.shortTransfer c fun u => if (u.reg c r 2).toNat % 4 ≠ 0 then u.misaligned c (u.reg c r 2) else u.go c (u.reg c r 2)) =
      s.enter c 3 (s.core c).pc (some ((s.core c).gen r)) :=
  (State.jump_of_atWord h r).elim (fun hn => absurd hn.1 ha) And.right

/-- Settles O24: each transfer ends its word with `State.go` to its target, from the state of the word or of its opened slot. -/
theorem branchesAndJumps : Obligations.BranchesAndJumps := by
  unfold Obligations.BranchesAndJumps
  intro c s h
  have hp := (atWord_iff.1 h).2.1
  have next : ∀ {u t : State}, u = t → Host.Outcome.next (φ := Fault) (ρ := Refusal) u = .next t := congrArg _
  refine ⟨fun ra rb disp p hb => ?branch, fun disp => ⟨_, next (State.word_transfer h _), Gone.of_atWord h _⟩,
    fun disp => ⟨_, next (State.word_transfer h _), Gone.of_link h 31 _ _⟩, fun rd ra imm ha => ?jrl, fun rd ra imm ha => ?jrlBad,
    fun rs ha => next (State.jump_misaligned h ⟨rs, by omega⟩ ha), fun ha => next (State.jump_misaligned h 31 ha),
    fun disp => ?br, fun rs disp => ?bz, fun rs disp => ?bnz,
    fun rs ha => ⟨_, next (State.jump_aligned h ⟨rs, by omega⟩ ha), Gone.of_opened h _⟩,
    fun ha => ⟨_, next (State.jump_aligned h 31 ha), Gone.of_opened h _⟩⟩
  case branch =>
    refine ⟨_, (hb.exec_eq s).trans (next (State.word_transfer h _)), ?_⟩
    rw [State.reg_of_atWord h, State.reg_of_atWord h]
    exact Gone.of_atWord h _
  case jrl =>
    refine ⟨_, next ((State.word_transfer h _).trans ?_), Gone.of_link h rd _ _⟩
    rw [State.reg_of_atWord h]
    exact if_neg (not_not_intro ha)
  case jrlBad =>
    refine next ((State.word_transfer h _).trans ?_)
    rw [State.reg_of_atWord h]
    exact (if_pos ha).trans (State.fault_of_unpaired hp 3 _)
  case br =>
    refine ⟨_, next (State.shortTransfer_of_atWord h _), ?_⟩
    rw [State.target_opened]
    exact Gone.of_opened h _
  case bz =>
    refine ⟨_, next (State.shortTransfer_of_atWord h _), ?_⟩
    rw [State.target_opened, State.past_opened, State.reg_opened (atWord.clear h).1]
    exact Gone.of_opened h _
  case bnz =>
    refine ⟨_, next (State.shortTransfer_of_atWord h _), ?_⟩
    rw [State.target_opened, State.past_opened, State.reg_opened (atWord.clear h).1]
    exact Gone.of_opened h _

/-- Settles O25: the end of the slot follows the delayed target; a transfer there is illegal and enters at the slot's word. -/
theorem delaySlotLeadsToTarget : Obligations.DelaySlotLeadsToTarget := by
  unfold Obligations.DelaySlotLeadsToTarget
  intro c a s hr hp hf hz ha hd
  have next : ∀ {u t : State}, u = t → Host.Outcome.next (φ := Fault) (ρ := Refusal) u = .next t := congrArg _
  have hclear := Core.clear_of_unpaired hp hf
  have long : ∀ body, (s.word c fun t => t.transfer c body) = s.enter c 2 (s.core c).pc none := fun body => by
    rw [State.word_of_clear hr hp hf hz ha, State.transfer_of_delayed hd]
    exact State.fault_of_unpaired hp 2 none
  have short : ∀ body, s.shortTransfer c body = s.enter c 2 (s.core c).pc none := fun body => by
    unfold State.shortTransfer
    rw [State.slot_of_clear hr hp hf hz ha, State.transfer_of_delayed (by rw [core_opened]; exact hd)]
    exact State.fault_of_opened hf 2 none
  refine ⟨fun rd ra rb => ⟨_, next (State.word_of_clear hr hp hf hz ha _), ?_⟩,
    fun ra rb d p hb => (hb.exec_eq s).trans (next (long _)), fun d rd ra imm sh near rs i hi => ?_⟩
  · have hcore : ∀ t : State, (t.endSlot c .b).core c = (((t.core c).advance).cycles (t.free + 4)).at (t.core c).follow := fun t => by
      refine (State.core_endWord _ c).trans ?_
      rw [State.core_setFree]
    rw [hcore, State.reg_of_clear hclear, State.reg_of_clear hclear, Core.before_gen_of_unpaired hp]
    dsimp only [AluFn.distance]
    rw [State.spoilDivide_of_clear hf, ite_self, State.result_now hclear, State.core_setCore_same]
    refine ⟨?_, rfl, fun r => Core.gen_putGen _ _ _ r⟩
    show ((s.core c).putGen _ _).delay.getD _ = a
    rw [Core.putGen_delay, hd]; rfl
  · simp only [List.mem_cons, List.not_mem_nil, or_false] at hi
    rcases hi with rfl | rfl | rfl | rfl | rfl | rfl | rfl | rfl | rfl
    · exact next (long _)
    · exact next (long _)
    · exact next (long _)
    · exact next (short _)
    · exact next (short _)
    · exact next (short _)
    · exact next (short _)
    · exact next (short _)
    · exact next (long _)

end Sys2Proof

/-! PROOF. Entries, returns, the special registers, and results that land (O28, O29). -/

namespace Sys2Proof

open Sys2Proof.Machine

/-- Core `c` of `u` has taken an entry, which `t` shows. -/
def Entered (c : CoreId) (k : Core) (u t : State) (cause : Nat) (epc : Word) (eaddr : Option Word) : Prop :=
  OnlyCore c u t ∧
    (t.core c).special 2 = k.special 0 ∧ (t.core c).special 1 = epc ∧ (t.core c).special 3 = BitVec.ofNat 32 cause ∧
    (t.core c).special 4 = eaddr.getD (k.special 4) ∧
    (t.core c).special 0 = (k.special 0 &&& 0xFFFFFFFE) ||| (if cause = 0 then 0 else if cause = 1 then 2 else 4) ∧
    (t.core c).pc = k.special 5 + BitVec.ofNat 32 (0x20 * cause) ∧ (∀ r, (t.core c).gen r = k.gen r) ∧ (t.core c).doze = false

/-- What `Entered` says of an entry asks of the core before it only its registers, and that nothing is under way. -/
theorem Entered.of_enter {c : CoreId} {k : Core} {u : State} (hf : (u.core c).flight = []) (hs : (u.core c).s = k.s)
    (hg : (u.core c).g = k.g) (cause : Nat) (epc : Word) (e : Option Word) : Entered c k u (u.enter c cause epc e) cause epc e := by
  have hsp : ∀ r, (u.core c).special r = k.special r := fun r => by unfold Core.special; rw [hs]
  have hge : ∀ r, (u.core c).gen r = k.gen r := fun r => by unfold Core.gen; rw [hg]
  refine ⟨(OnlyCore.refl c u).enter cause epc e, ?_⟩
  rw [State.enter_of_clear hf, State.core_spend, State.core_setCore_same]
  have hq : ∀ r, ((u.core c).entered u.free cause epc e).gen r = k.gen r := fun r => by
    rw [← hge]; unfold Core.gen; rw [Core.entered_g]
  simp [Core.entered_special, Core.entered_pc, hsp, hq]
  rfl

/-- An entry at the start of an aligned word. -/
theorem Entered.of_atWord {c : CoreId} {s : State} (h : atWord s c = true) (cause : Nat) (epc : Word) (e : Option Word) :
    Entered c (s.core c) s (s.enter c cause epc e) cause epc e :=
  Entered.of_enter (atWord.clear h).1 rfl rfl cause epc e

/-- A fault at the start of an aligned word enters at the word. -/
theorem Entered.of_fault {c : CoreId} {s : State} (h : atWord s c = true) (cause : Nat) (e : Option Word) :
    Entered c (s.core c) s (s.fault c cause e) cause (s.core c).pc e := by
  rw [State.fault_of_unpaired (atWord_iff.1 h).2.1]
  exact Entered.of_atWord h cause _ e

/-- What an access that leaves its core alone leaves of it. -/
theorem Undisturbed.fields {c : CoreId} {s t : State} (h : Undisturbed c s t) : (t.core c).g = (s.core c).g ∧
    (t.core c).s = (s.core c).s ∧ (t.core c).pc = (s.core c).pc ∧ (t.core c).delay = (s.core c).delay ∧
    (t.core c).flight = (s.core c).flight ∧ (t.core c).pair = (s.core c).pair ∧ (t.core c).cycle = (s.core c).cycle := by
  simp only [Undisturbed, Core.mk.injEq, true_and] at h
  obtain ⟨hg, hpc, hd, hf, hs, hy, -, -, hp⟩ := h
  exact ⟨hg, hs, hpc, hd, hf, hp, hy⟩

/-- FETCH_UNCORRECTABLE at the start of an aligned word faults in the state that the read left. -/
theorem fetchUncorrectable_entered {c : CoreId} {s : State} (h : atWord s c = true) :
    let r := s.busRead (fetcher c) (s.core c).pc.toNat 4
    Undisturbed c s r.st → ∃ t : State, exec (.fetchUncorrectable c) s = .next t ∧
      Entered c (s.core c) r.st t 4 (s.core c).pc (some (s.core c).pc) := by
  intro r hr
  obtain ⟨-, hp, -, hf, -, -⟩ := atWord_iff.1 h
  obtain ⟨hg, hs, hpc, -, hf', hp', -⟩ := hr.fields
  have hx : exec (.fetchUncorrectable c) s = .next (r.st.fault c 4 (some (s.core c).pc)) := by
    refine (congrArg Host.Outcome.next (State.word_of_atWord h _)).trans ?_
    cases c <;> rfl
  refine ⟨_, hx, ?_⟩
  rw [State.fault_of_unpaired (hp'.trans hp), hpc]
  exact Entered.of_enter (hf'.trans hf) hs hg 4 _ _

/-- A core at the start of a word stands at a boundary that permits entry. -/
theorem State.boundary_of_atWord {c : CoreId} {s : State} (h : atWord s c = true) : s.boundary c = true := by
  obtain ⟨hr, hp, hd, -, -, -⟩ := atWord_iff.1 h
  simp [Machine.State.boundary, hr, hp, hd]

/-- ERET at the start of an aligned word. -/
theorem eret_returns {c : CoreId} {s : State} (h : atWord s c = true) : ∃ t : State, exec (.eret c) s = .next t ∧
    OnlyCore c s t ∧ (t.core c).special 0 = (s.core c).special 2 ∧ (t.core c).pc = (s.core c).special 1 ∧
    ∀ r, (t.core c).gen r = (s.core c).gen r := by
  refine ⟨_, congrArg Host.Outcome.next (State.word_transfer h _), ((OnlyCore.refl c s).setCore _).spend, ?_⟩
  rw [State.core_spend, State.core_setCore_same, Core.complete_of_clear (atWord.clear h).1]
  refine ⟨?_, rfl, fun r => rfl⟩
  show Core.special (Core.putSpecial _ 0 _) 0 = _
  rw [Core.special_putSpecial, if_pos rfl]

/-- WAIT at the start of an aligned word. -/
theorem wait_dozes {c : CoreId} {s : State} (h : atWord s c = true) : ∃ t : State, exec (.wait c) s = .next t ∧
    WordDone c s t (s.core c).gen [] ∧ (t.core c).doze = true := by
  obtain ⟨-, hp, hd, hf, -, -⟩ := atWord_iff.1 h
  refine ⟨_, congrArg Host.Outcome.next (State.word_of_atWord h _), ?_⟩
  dsimp only
  rw [Core.complete_of_clear hf, State.setCore_core]
  obtain ⟨ho, hw⟩ : WordDone c s (s.endWord c) (s.core c).gen [] :=
    WordDone.of_endWord (OnlyCore.refl c s) rfl rfl hd rfl rfl (fun _ => rfl) (by rw [hf]; rfl)
  refine ⟨⟨ho.setCore _, ?_⟩, ?_⟩
  · rw [State.core_setCore_same]; exact hw
  · rw [State.core_setCore_same]

/-- MFS of a register other than CYCLE_LO reads it. -/
theorem mfs_reads {c : CoreId} {s : State} (h : atWord s c = true) (rd : Reg) (sr : Fin 32) (hsr : sr.val ≠ 6) :
    ∃ t : State, exec (.mfs c rd sr) s = .next t ∧ WordDone c s t (withReg (s.core c).gen rd ((s.core c).readSpecial c sr)) [] := by
  refine ⟨_, congrArg Host.Outcome.next (State.word_of_atWord h _), ?_⟩
  dsimp only
  rw [(atWord.clear h).1, if_neg hsr]
  exact WordDone.of_atWord h rd 0 0 false _

/-- MFS of CYCLE_LO reads the low word of the count and captures the high one. -/
theorem mfs_captures {c : CoreId} {s : State} (h : atWord s c = true) (rd : Reg) :
    ∃ t : State, exec (.mfs c rd 6) s = .next t ∧ (t.core c).cycleHi = BitVec.ofNat 32 ((s.core c).cycle / 2 ^ 32) ∧
      WordDone c s t (withReg (s.core c).gen rd (BitVec.ofNat 32 (s.core c).cycle)) [] := by
  obtain ⟨-, hp, hd, hf, -, -⟩ := atWord_iff.1 h
  let k := { s.core c with flight := [], cycleHi := BitVec.ofNat 32 ((s.core c).cycle / 2 ^ 32) }
  have hk : (s.setCore c k).core c = k := State.core_setCore_same _ _ _
  have hclear : ((s.setCore c k).core c).Clear := by rw [hk]; exact Core.clear_of_unpaired (k := k) hp rfl
  refine ⟨((s.setCore c k).result c rd 0 0 false (BitVec.ofNat 32 (s.core c).cycle)).endSlot c .b, ?_, ?_, ?_⟩
  · refine (congrArg Host.Outcome.next (State.word_of_atWord h _)).trans ?_
    dsimp only
    rw [hf]
    rfl
  · rw [State.result_now hclear, hk]
    show ((State.endWord _ c).core c).cycleHi = _
    rw [State.core_endWord, State.core_setFree, State.core_setCore_same]
    exact Core.putGen_cycleHi k rd _
  · exact WordDone.of_result (d := 0) ((OnlyCore.refl c s).setCore k) hclear (by rw [hk]) (by rw [hk]; exact hd) (by rw [hk]) (by rw [hk])
      (by rw [hk]; rfl)

/-- MTS has the value under way to its register. -/
theorem mts_underWay {c : CoreId} {s : State} (h : atWord s c = true) (sr : Fin 32) (ra : Reg) :
    ∃ t : State, exec (.mts c sr ra) s = .next t ∧ WordDone c s t (s.core c).gen [(32 + sr.val, (s.core c).gen ra, 2)] := by
  refine ⟨_, congrArg Host.Outcome.next (State.word_of_atWord h _), ?_⟩
  rw [State.reg_of_atWord h]
  have hw := WordDone.of_atWord h (32 + sr.val) 1 2 false ((s.core c).gen ra)
  rwa [if_neg (by decide), if_neg (by omega)] at hw

/-- Settles O28: each entry is `State.enter` with its cause, and ERET, WAIT, MFS and MTS act on the core alone. -/
theorem entriesAndReturns : Obligations.EntriesAndReturns := by
  unfold Obligations.EntriesAndReturns
  intro c s h
  obtain ⟨-, hp, hd, hf, -, -⟩ := atWord_iff.1 h
  have word := fun body => congrArg (Host.Outcome.next (φ := Fault) (ρ := Refusal)) (State.word_of_atWord h body)
  refine ⟨fun code => ?trap, ⟨_, word _, Entered.of_fault h 2 none⟩, fun rd ra rb hb => ?clz, fun rt ra i hi => ?ldw,
    fetchUncorrectable_entered h, fun hm hn hie => ?mne, fun hn ha => ?nmi, eret_returns h, wait_dozes h, mfs_reads h,
    mfs_captures h, mts_underWay h⟩
  case trap =>
    refine ⟨_, word _, ?_⟩
    have hfollow : (s.core c).follow = (s.core c).pc + 4 := by unfold Core.follow; rw [hd]; rfl
    rw [hfollow]
    exact Entered.of_atWord h 5 _ _
  case clz => exact ⟨_, (congrArg Host.Outcome.next (if_pos ⟨rfl, hb⟩)).trans (word _), Entered.of_fault h 2 none⟩
  case ldw =>
    refine ⟨_, (word _).trans (congrArg Host.Outcome.next ?_), Entered.of_fault h 3 _⟩
    rw [State.reg_of_atWord h]
    exact if_pos hi
  case mne =>
    refine ⟨_, congrArg Host.Outcome.next ((if_neg ?_).trans (if_pos (by rw [hie]; rfl))), Entered.of_atWord h 0 _ none⟩
    rw [State.boundary_of_atWord h, hm, hn]
    decide
  case nmi =>
    have hdue : (s.core c).nmiDue = true := by unfold Core.nmiDue; rw [hn, ha]; rfl
    refine ⟨_, congrArg Host.Outcome.next ((if_neg ?_).trans (if_pos hdue)), Entered.of_atWord h 1 _ none, ?_⟩
    · rw [State.boundary_of_atWord h, hn]; decide
    · rw [State.enter_of_clear hf, State.core_spend, State.core_setCore_same, Core.entered_nmi]
      exact Bool.and_false _

/-- The one result under way stays under way until its window has passed. -/
theorem settle_of_left {k : Core} {e : InFlight} (h : k.flight = [e]) (hl : e.left ≠ 0) : k.settle = k := by
  cases k
  cases h
  simp [Core.settle, hl]

/-- Once its window has passed it takes its destination. -/
theorem settle_of_due {k : Core} {e : InFlight} (h : k.flight = [e]) (hl : e.left = 0) :
    k.settle = Core.commit { k with flight := [] } e := by
  cases k
  cases h
  simp [Core.settle, hl]

/-- Settles O29: FENCE settles what is due and advances the rest by a word. -/
theorem resultsLandAfterTheirWindow : Obligations.ResultsLandAfterTheirWindow := by
  unfold Obligations.ResultsLandAfterTheirWindow
  intro c s e q hr hp hz ha hf
  have fence : ∃ t : State, exec (.fence c) s = .next t ∧
      (t.core c).flight = ((s.core c).settle.flight.map fun e => { e with left := e.left - 1 }) ∧
      (t.core c).g = (s.core c).settle.g ∧ (t.core c).s = (s.core c).settle.s := by
    refine ⟨_, congrArg Host.Outcome.next (State.word_of_runs hr hp hz ha _), ?_⟩
    rw [State.core_endWord, State.core_setCore_same]
    exact ⟨rfl, rfl, rfl⟩
  obtain ⟨t, ht, htf, htg, hts⟩ := fence
  refine ⟨fun hl => ⟨t, ht, ?_⟩, fun hl hd => ⟨t, ht, ?_⟩, fun hl hd => ⟨t, ht, ?_⟩⟩
  · rw [settle_of_left hf (by omega)] at htf htg hts
    rw [hf] at htf
    exact ⟨htf, htg, hts⟩
  · have hk : (s.core c).settle = ({ s.core c with flight := [] } : Core).putGen e.dest e.value :=
      (settle_of_due hf hl).trans (if_pos hd)
    rw [hk] at htf htg hts
    rw [Core.putGen_flight] at htf
    rw [Core.putGen_s] at hts
    refine ⟨htf, fun r => ?_, hts⟩
    have hg : (t.core c).gen r = (({ s.core c with flight := [] } : Core).putGen e.dest e.value).gen r := by
      unfold Core.gen; rw [htg]
    rw [hg, Core.gen_putGen]
    rfl
  · have hk : (s.core c).settle = ({ s.core c with flight := [] } : Core).putSpecial (e.dest - 32)
        (specialKeeps (e.dest - 32) ((s.core c).special (e.dest - 32)) e.value) :=
      (settle_of_due hf hl).trans (if_neg (by omega))
    rw [hk] at htf htg hts
    refine ⟨htf, fun r => ?_, htg⟩
    have hs : (t.core c).special r = (({ s.core c with flight := [] } : Core).putSpecial (e.dest - 32)
        (specialKeeps (e.dest - 32) ((s.core c).special (e.dest - 32)) e.value)).special r :=
      congrArg (fun l => Store.get specialReset l r) hts
    rw [hs, Core.special_putSpecial, specialKeeps_eq]
    by_cases hrd : r = e.dest - 32
    · rw [if_pos hrd, if_pos hrd, hrd]
    · rw [if_neg hrd, if_neg hrd]; rfl

end Sys2Proof

/-! PROOF. Loads and stores, long and short (O26, O27). -/

namespace Sys2Proof.Machine

/-- A core with its base register updated, where the mode updates it. -/
def Core.updated (k : Core) (ra : Nat) (b : Option Word) : Core :=
  match b with
  | some v => k.putGen ra v
  | none => k

theorem Core.updated_eq (k : Core) (ra : Nat) (b : Option Word) : ∃ g, k.updated ra b = { k with g := g } := by
  cases b with
  | none => exact ⟨k.g, rfl⟩
  | some v =>
    unfold Core.updated Core.putGen
    dsimp only
    split
    · exact ⟨k.g, rfl⟩
    · exact ⟨_, rfl⟩

theorem Core.gen_updated (k : Core) (ra : Nat) (b : Option Word) : (k.updated ra b).gen = withBase k.gen ra b := by
  cases b with
  | none => rfl
  | some v => exact funext fun r => Core.gen_putGen k ra v r

theorem State.updateBase_of_clear {s : State} {c : CoreId} (h : (s.core c).Clear) (ra : Nat) (b : Option Word) :
    s.updateBase c ra b = s.setCore c ((s.core c).updated ra b) := by
  cases b with
  | none => exact (State.setCore_core s c).symm
  | some v => exact State.result_now h ra 1 false v

/-- An aligned load that leaves its core alone. -/
theorem State.loadAt_of_undisturbed {s : State} {c : CoreId} {size : Nat} {a : Word} (ha : a.toNat % size = 0)
    (hu : Undisturbed c s (s.busRead c.master a.toNat size).st) (sign : Bool) (rt ra : Nat) (base : Option Word) (sl : Slot) :
    s.loadAt c size sign rt ra a base sl =
      (((s.busRead c.master a.toNat size).st.updateBase c ra base).result c rt 0 3 false
        (loaded sign (s.busRead c.master a.toNat size).bytes)).endSlot c sl :=
  (if_neg (not_not_intro ha)).trans (if_pos hu)

/-- An aligned store that leaves its core alone. -/
theorem State.storeAt_of_undisturbed {s : State} {c : CoreId} {size : Nat} {v a : Word} (ha : a.toNat % size = 0)
    (hu : Undisturbed c s (s.busWrite c.master a.toNat (leBytes size v.toNat)).st) (ra : Nat) (base : Option Word) (sl : Slot) :
    s.storeAt c size v ra a base sl =
      ((s.busWrite c.master a.toNat (leBytes size v.toNat)).st.updateBase c ra base).endSlot c sl :=
  (if_neg (not_not_intro ha)).trans (if_pos hu)

end Sys2Proof.Machine

namespace Sys2Proof

open Sys2Proof.Machine

/-- The core is within a word with nothing under way, in slot A with its pair open. -/
structure InSlot (c : CoreId) (sl : Slot) (k : Core) : Prop where
  clear : k.Clear
  delay : k.delay = none
  pair : sl = .a → k.pair = some (k.g, [])

/-- The end of a slot that updates a base and writes a later result. -/
theorem SlotDone.of_load {c : CoreId} {sl : Slot} {u : State} (h : InSlot c sl (u.core c)) (ra : Nat) (base : Option Word)
    (rt : Nat) (v : Word) :
    SlotDone c sl u (((u.updateBase c ra base).result c rt 0 3 false v).endSlot c sl) (withBase (u.core c).gen ra base) rt 3 v := by
  obtain ⟨hc, hd, hp⟩ := h
  obtain ⟨g, hk⟩ := (u.core c).updated_eq ra base
  have hgen := (u.core c).gen_updated ra base
  rw [State.updateBase_of_clear hc]
  rw [hk] at hgen ⊢
  have ho := (OnlyCore.refl c u).setCore { u.core c with g := g }
  have hcore := State.core_setCore_same u c { u.core c with g := g }
  cases sl with
  | a =>
    have hs := SlotOpen.of_result (d := 3) (rd := rt) (i := 0) (div := false) (v := v) ho (by rw [hcore]; exact hc) (by rw [hcore])
      (by rw [hcore]; exact hd) (by rw [hcore]; exact hp rfl) (by rw [hcore]) (by rw [hcore]) (by rw [hcore])
    rw [if_neg (by decide), hgen] at hs
    exact hs
  | b =>
    have hs := WordDone.of_result (d := 3) (rd := rt) (i := 0) (div := false) (v := v) ho (by rw [hcore]; exact hc) (by rw [hcore])
      (by rw [hcore]; exact hd) (by rw [hcore]) (by rw [hcore]) (by rw [hcore])
    rw [if_neg (by decide), hgen] at hs
    exact hs

/-- The end of a slot that updates a base and writes no result. -/
theorem SlotDone.of_store {c : CoreId} {sl : Slot} {u : State} (h : InSlot c sl (u.core c)) (ra : Nat) (base : Option Word) :
    SlotDone c sl u ((u.updateBase c ra base).endSlot c sl) (withBase (u.core c).gen ra base) 0 0 0 := by
  obtain ⟨hc, hd, hp⟩ := h
  obtain ⟨g, hk⟩ := (u.core c).updated_eq ra base
  have hgen := (u.core c).gen_updated ra base
  rw [State.updateBase_of_clear hc]
  rw [hk] at hgen ⊢
  have ho := (OnlyCore.refl c u).setCore { u.core c with g := g }
  have hcore := State.core_setCore_same u c { u.core c with g := g }
  cases sl with
  | a => exact SlotOpen.of_endSlot ho hcore rfl hd (hp rfl) rfl rfl (fun r => congrFun hgen r) (by simp [hc.1])
  | b => exact WordDone.of_endSlot ho hcore rfl hd rfl rfl (fun r => congrFun hgen r) (by simp [hc.1])

/-- An access that leaves its core alone leaves it within its slot. -/
theorem InSlot.of_undisturbed {c : CoreId} {sl : Slot} {s t : State} (h : InSlot c sl (s.core c)) (hu : Undisturbed c s t) :
    InSlot c sl (t.core c) := by
  obtain ⟨⟨hf, hw⟩, hd, hp⟩ := h
  obtain ⟨hg, -, -, hd', hf', hp', -⟩ := hu.fields
  refine ⟨⟨hf'.trans hf, ?_⟩, hd'.trans hd, fun ha => ?_⟩
  · rw [← hw]; unfold Core.window; rw [hp', hf']
  · rw [hp', hp ha, hg]

theorem Undisturbed.gen {c : CoreId} {s t : State} (hu : Undisturbed c s t) : (t.core c).gen = (s.core c).gen := by
  unfold Core.gen; rw [hu.fields.1]

theorem InSlot.of_atWord {c : CoreId} {s : State} (h : atWord s c = true) : InSlot c .b (s.core c) :=
  ⟨atWord.clear h, (atWord_iff.1 h).2.2.1, fun hn => by cases hn⟩

theorem InSlot.of_opened {c : CoreId} {s : State} (h : atWord s c = true) (sl : Slot) : InSlot c sl ((opened c s).core c) := by
  obtain ⟨hc, -, hd, hp, -⟩ := opened_facts h
  refine ⟨hc, hd, fun _ => ?_⟩
  rw [hp, core_opened]

/-- Each long load runs `State.load`. -/
theorem IsLoadOp.exec_eq {c : CoreId} {rt ra : Reg} {am : AddrMode} {p : Instr × Nat × Bool} (h : IsLoadOp c rt ra am p) (s : State) :
    exec p.1 s = .next (s.load c p.2.1 p.2.2 rt ra am) := by
  simp only [IsLoadOp, List.mem_cons, List.not_mem_nil, or_false] at h
  rcases h with rfl | rfl | rfl | rfl | rfl <;> rfl

/-- Each long store runs `State.store`. -/
theorem IsStoreOp.exec_eq {c : CoreId} {rt ra : Reg} {am : AddrMode} {p : Instr × Nat} (h : IsStoreOp c rt ra am p) (s : State) :
    exec p.1 s = .next (s.store c p.2 rt ra am) := by
  simp only [IsStoreOp, List.mem_cons, List.not_mem_nil, or_false] at h
  rcases h with rfl | rfl | rfl <;> rfl

/-- A long load at the start of an aligned word is an access at the address of its mode. -/
theorem State.load_of_atWord {c : CoreId} {s : State} (h : atWord s c = true) {rt ra : Reg} {am : AddrMode}
    (hb : am.updates = true → rt ≠ ra) (size : Nat) (sign : Bool) :
    s.load c size sign rt ra am =
      s.loadAt c size sign rt ra (am.address size ((s.core c).gen ra) ((s.core c).gen am.indexReg)) (am.base size ((s.core c).gen ra)) .b := by
  unfold State.load
  rw [State.word_of_atWord h, State.reg_of_atWord h, State.reg_of_atWord h]
  exact if_neg fun hn => hb (Bool.and_eq_true _ _ ▸ hn).1 (eq_of_beq (Bool.and_eq_true _ _ ▸ hn).2)

theorem State.store_of_atWord {c : CoreId} {s : State} (h : atWord s c = true) {rt ra : Reg} {am : AddrMode}
    (hb : am.updates = true → rt ≠ ra) (size : Nat) :
    s.store c size rt ra am =
      s.storeAt c size ((s.core c).gen rt) ra (am.address size ((s.core c).gen ra) ((s.core c).gen am.indexReg))
        (am.base size ((s.core c).gen ra)) .b := by
  unfold State.store
  rw [State.word_of_atWord h, State.reg_of_atWord h, State.reg_of_atWord h, State.reg_of_atWord h]
  exact if_neg fun hn => hb (Bool.and_eq_true _ _ ▸ hn).1 (eq_of_beq (Bool.and_eq_true _ _ ▸ hn).2)

/-- Settles O26: each long access is `State.loadAt` or `State.storeAt` at the address of its mode. -/
theorem loadsAndStores : Obligations.LoadsAndStores := by
  unfold Obligations.LoadsAndStores
  intro c rt ra am s h hb
  refine ⟨fun p hp ha hu => ?load, fun p hp ha hu => ?store, fun size x y => ⟨fun i => ⟨rfl, rfl⟩, fun rb sc => ⟨rfl, rfl⟩,
    fun f => ⟨rfl, rfl⟩, fun f => ⟨rfl, rfl⟩⟩⟩
  case load =>
    refine ⟨_, (hp.exec_eq s).trans (congrArg Host.Outcome.next
      ((State.load_of_atWord h hb _ _).trans (State.loadAt_of_undisturbed ha hu _ _ _ _ _))), ?_⟩
    have hd := SlotDone.of_load ((InSlot.of_atWord h).of_undisturbed hu) ra (am.base p.2.1 ((s.core c).gen ra)) rt
      (loaded p.2.2 (s.busRead c.master (am.address p.2.1 ((s.core c).gen ra) ((s.core c).gen am.indexReg)).toNat p.2.1).bytes)
    rw [hu.gen] at hd
    simpa [SlotDone] using hd
  case store =>
    refine ⟨_, (hp.exec_eq s).trans (congrArg Host.Outcome.next
      ((State.store_of_atWord h hb _).trans (State.storeAt_of_undisturbed ha hu _ _ _))), ?_⟩
    have hd := SlotDone.of_store ((InSlot.of_atWord h).of_undisturbed hu) ra (am.base p.2 ((s.core c).gen ra))
    rw [hu.gen] at hd
    exact hd

/-- What an access in a slot leaves: the word open or done, with the result, if any, under way to `rt`. -/
def Accessed (c : CoreId) (sl : Slot) (b : Store Word) (u t : State) (g : Nat → Word) (fl : Nat → List (Nat × Word × Nat)) : Prop :=
  match sl with
  | .a => SlotOpen c u t b g (fl 4)
  | .b => WordDone c u t g (fl 3)

theorem Accessed.of_load {c : CoreId} {sl : Slot} {u t : State} {b : Store Word} {g : Nat → Word} {rt : Nat} {v : Word}
    (h : SlotDone c sl u t g rt 3 v) (hb : (u.core c).g = b) :
    Accessed c sl b u t g fun d => if rt = 0 then [] else [(rt, v, d)] := by
  subst hb
  cases sl <;> simpa [SlotDone, Accessed] using h

theorem Accessed.of_store {c : CoreId} {sl : Slot} {u t : State} {b : Store Word} {g : Nat → Word}
    (h : SlotDone c sl u t g 0 0 0) (hb : (u.core c).g = b) : Accessed c sl b u t g fun _ => [] := by
  subst hb
  cases sl <;> simpa [SlotDone, Accessed] using h

/-- A short load in an opened word. -/
theorem Accessed.loadAt {c : CoreId} {s : State} (h : atWord s c = true) (sl : Slot) {size : Nat} (rt ra : Nat) {a : Word}
    (base : Option Word) (ha : a.toNat % size = 0) (hu : Undisturbed c (opened c s) ((opened c s).busRead c.master a.toNat size).st) :
    Accessed c sl (s.core c).g ((opened c s).busRead c.master a.toNat size).st ((opened c s).loadAt c size false rt ra a base sl)
      (withBase (s.core c).gen ra base)
      fun d => if rt = 0 then [] else [(rt, loaded false ((opened c s).busRead c.master a.toNat size).bytes, d)] := by
  have hd := SlotDone.of_load ((InSlot.of_opened h sl).of_undisturbed hu) ra base rt
    (loaded false ((opened c s).busRead c.master a.toNat size).bytes)
  have hg : ((opened c s).core c).g = (s.core c).g := by rw [core_opened]
  have hgen : ((opened c s).core c).gen = (s.core c).gen := by rw [core_opened]; rfl
  rw [hu.gen, hgen] at hd
  rw [State.loadAt_of_undisturbed ha hu]
  exact Accessed.of_load hd (hu.fields.1.trans hg)

/-- A short store in an opened word. -/
theorem Accessed.storeAt {c : CoreId} {s : State} (h : atWord s c = true) (sl : Slot) {size : Nat} (ra : Nat) {a v : Word}
    (base : Option Word) (ha : a.toNat % size = 0)
    (hu : Undisturbed c (opened c s) ((opened c s).busWrite c.master a.toNat (leBytes size v.toNat)).st) :
    Accessed c sl (s.core c).g ((opened c s).busWrite c.master a.toNat (leBytes size v.toNat)).st
      ((opened c s).storeAt c size v ra a base sl) (withBase (s.core c).gen ra base) fun _ => [] := by
  have hd := SlotDone.of_store ((InSlot.of_opened h sl).of_undisturbed hu) ra base
  have hg : ((opened c s).core c).g = (s.core c).g := by rw [core_opened]
  have hgen : ((opened c s).core c).gen = (s.core c).gen := by rw [core_opened]; rfl
  rw [hu.gen, hgen] at hd
  rw [State.storeAt_of_undisturbed ha hu]
  exact Accessed.of_store hd (hu.fields.1.trans hg)

/-- Settles O27: each short access is `State.loadAt` or `State.storeAt` in the word that its slot opens. -/
theorem shortLoadsAndStores : Obligations.ShortLoadsAndStores := by
  unfold Obligations.ShortLoadsAndStores
  intro c rt ra off sl s h
  have slot : ∀ {body t}, body (opened c s) = t → Host.Outcome.next (φ := Fault) (ρ := Refusal) (s.slot c sl body) = .next t :=
    fun hb => congrArg _ ((State.slot_of_atWord h sl _).trans hb)
  have read := fun r i => State.reg_opened (atWord.clear h).1 r i
  have free : ∀ {t : State}, rt ≠ ra → (if (rt == ra) = true then (opened c s).illegal c else t) = t :=
    fun hn => if_neg fun he => hn (eq_of_beq he)
  refine ⟨fun ha hu => ⟨_, slot ?ldw, Accessed.loadAt h sl rt ra none ha hu⟩, fun ha hu => ⟨_, slot ?ldbu, Accessed.loadAt h sl rt ra none ha hu⟩,
    fun ha hu => ⟨_, slot ?stw, Accessed.storeAt h sl ra none ha hu⟩, fun ha hu => ⟨_, slot ?stb, Accessed.storeAt h sl ra none ha hu⟩,
    fun hn ha hu => ⟨_, slot ((free hn).trans ?ldwp), Accessed.loadAt h sl rt ra (some _) ha hu⟩,
    fun hn ha hu => ⟨_, slot ((free hn).trans ?stwm), Accessed.storeAt h sl ra (some _) ha hu⟩⟩
  case ldw => rw [read]
  case ldbu => rw [read, Nat.one_mul]
  case stw => rw [read, read]
  case stb => rw [read, read, Nat.one_mul]
  case ldwp => rw [read]
  case stwm => rw [read, read]

end Sys2Proof

/-! PROOF. Memory: the frame of the stores, the isolation of the secure bank, and its upkeep (O40, O41, O42). -/

namespace Sys2Proof.Machine

/-! Bytes and register words through the operations on memory. -/

theorem State.byte_congr {s t : State} (h : t.mem = s.mem) (a : Nat) : t.byte a = s.byte a := by
  unfold State.byte; rw [h]

@[simp] theorem State.setBytes_regs (s : State) (a : Nat) (l : List Byte) : (s.setBytes a l).regs = s.regs := by
  induction l generalizing s a with
  | nil => rfl
  | cons b r ih => exact ih (s.setByte a b) (a + 1)

@[simp] theorem State.setBytes_wbacks (s : State) (a : Nat) (l : List Byte) : (s.setBytes a l).wbacks = s.wbacks :=
  State.setBytes_frame.same .wbacks rfl

theorem leBytes_length (n v : Nat) : (leBytes n v).length = n := by
  induction n generalizing v with
  | zero => rfl
  | succ n ih => exact congrArg (· + 1) (ih _)

/-- The bytes that were just stored. -/
theorem State.bytes_setBytes (s : State) (a : Nat) (l : List Byte) : (s.setBytes a l).bytes a l.length = l := by
  apply List.ext_getElem
  · simp [State.bytes]
  · intro i hi hl
    simp only [State.bytes, List.getElem_map, List.getElem_range]
    exact State.byte_setBytes l s a i hl

theorem verdictOf_data {x r c : Nat} (h : verdictOf x = .data r c) : r < 16 := by
  unfold verdictOf at h
  split at h
  case h_2 r' c' hr hc =>
    cases h
    have hm : r ∈ (List.range 16).filter (bitOf x) := by rw [hr]; exact List.mem_singleton_self r
    exact List.mem_range.1 (List.mem_filter.1 hm).1
  all_goals cases h

theorem State.verdict_data {s : State} {b r c : Nat} (h : s.verdict b = .data r c) : r < 16 := by
  unfold State.verdict at h
  dsimp only at h
  split at h
  · cases h
  · exact verdictOf_data h

/-- Mending a block changes a byte of that block at most. -/
theorem State.mend_spec (s : State) (b : Nat) : (∀ a, a / 16 ≠ b → (s.mend b).byte a = s.byte a) ∧ (s.mend b).regs = s.regs ∧
    (s.verdict b = .clean → s.mend b = s) := by
  unfold State.mend
  cases hv : s.verdict b with
  | clean => exact ⟨fun _ _ => rfl, rfl, fun _ => rfl⟩
  | check => exact ⟨fun _ _ => rfl, rfl, fun h => nomatch h⟩
  | bad => exact ⟨fun _ _ => rfl, rfl, fun h => nomatch h⟩
  | data r c =>
    have hr := State.verdict_data hv
    exact ⟨fun a ha => s.byte_setByte_other _ (by omega), rfl, fun h => nomatch h⟩

/-! A store to a clean block with no run of word stores open. -/

theorem State.endStores_of_idle {s : State} (h : s.runs = []) (m r : Nat) : s.endStores m r = s := by
  cases s
  cases h
  rfl

theorem State.merge_of_clean {s : State} {a : Nat} (hv : s.verdict (a / 16) = .clean) (l : List Byte) :
    s.merge a l = ((s.setBytes a l).freshCheck (a / 16), 0) := by
  unfold State.merge
  dsimp only
  rw [hv]

theorem State.runAt_of_idle {s : State} (h : s.runs = []) (a m r : Nat) : s.runAt a m r = none := by
  unfold State.runAt; rw [h]; rfl

/-- A store of fewer than 16 bytes to a clean block writes its bytes and check bits, and may open a run. -/
theorem State.writeIn_of_clean {s : State} {a : Nat} {l : List Byte} (hl : l.length < 16) (hs : s.runs = [])
    (hv : s.verdict (a / 16) = .clean) (r m : Nat) :
    ∃ q, s.writeIn r a l m = { (s.setBytes a l).freshCheck (a / 16) with runs := q } := by
  have hruns : ((s.setBytes a l).freshCheck (a / 16)).runs = [] := (State.setBytes_frame.same .runs rfl).trans hs
  have hself : (s.setBytes a l).freshCheck (a / 16) = { (s.setBytes a l).freshCheck (a / 16) with runs := [] } := by rw [← hruns]
  unfold State.writeIn
  dsimp only
  rw [if_neg (by omega), State.endStores_of_idle hs, State.merge_of_clean hv, State.runAt_of_idle hs]
  dsimp only
  split
  · exact ⟨[], hself⟩
  · split
    · exact ⟨_, rfl⟩
    · exact ⟨[], hself⟩

/-- What a store of fewer than 16 bytes to a clean block leaves. -/
theorem State.writeMem_of_clean {s : State} {a r : Nat} {l : List Byte} (hr : regionOf a = some r) (hl : l.length < 16)
    (hs : s.runs = []) (hv : s.verdict (a / 16) = .clean) (m : Nat) :
    (s.writeMem a l m).bytes a l.length = l ∧ (∀ b, b < a ∨ a + l.length ≤ b → (s.writeMem a l m).byte b = s.byte b) ∧
      (s.writeMem a l m).regs = s.regs ∧ (s.writeMem a l m).app = s.app ∧ (s.writeMem a l m).sys = s.sys := by
  have hw : s.writeMem a l m = { s with wbacks := s.wbacks.filter fun x => x != a / 16 }.writeIn r a l m := by
    unfold State.writeMem; rw [hr]
  obtain ⟨q, hq⟩ := State.writeIn_of_clean (s := { s with wbacks := s.wbacks.filter fun x => x != a / 16 }) hl hs hv r m
  rw [hw, hq]
  generalize ht : ({ s with wbacks := s.wbacks.filter fun x => x != a / 16 } : State) = t
  refine ⟨State.bytes_setBytes t a l, fun b hb => (State.byte_setBytes_other l t a b hb).trans ?_, ?_, ?_, ?_⟩
  · rw [← ht]; rfl
  · exact (State.setBytes_regs t a l).trans (by rw [← ht])
  · exact (State.setBytes_frame.same .app rfl : (t.setBytes a l).app = t.app).trans (by rw [← ht])
  · exact (State.setBytes_frame.same .sys rfl : (t.setBytes a l).sys = t.sys).trans (by rw [← ht])

/-! Where the memories lie. -/

/-- No block of registers lies below 0x40000000. -/
theorem blockAt_of_lt {a : Nat} (h : a < 0x40000000) : blockAt a = none := by
  have hbase : ∀ b ∈ Block.fixedList, 0x40000000 ≤ b.base := by decide
  unfold blockAt
  rw [dif_neg (by omega), Option.map_eq_none_iff, List.find?_eq_none]
  intro b hb
  have := hbase b hb
  simp only [Bool.and_eq_true, decide_eq_true_eq]
  omega

/-- A write to a powered bank of the main SRAM. -/
theorem State.busWrite_sram {s : State} {a : Nat} (hlo : 0x20000000 ≤ a) (hhi : a < 0x20180000)
    (hp : s.powered (2 + (a - 0x20000000) / 0x80000) = true) (m : Master) (l : List Byte) :
    (s.busWrite m a l).st = s.writeMem a l m.code := by
  have hmem : memoryAt a = true := by unfold memoryAt; simp; omega
  have hdom : memDomain a = some (2 + (a - 0x20000000) / 0x80000) := by
    unfold memDomain
    rw [if_neg (by omega), if_neg (by omega), if_pos (by omega)]
  unfold State.busWrite
  dsimp only
  rw [if_neg (by omega), blockAt_of_lt (by omega)]
  dsimp only
  rw [if_neg (by rw [hmem]; decide), if_neg (by omega)]
  unfold State.inMemory
  rw [hdom]
  dsimp only
  rw [if_pos hp]

theorem regionOf_sram {a : Nat} (hlo : 0x20000000 ≤ a) (hhi : a < 0x20180000) : regionOf a = some ((a - 0x20000000) / 0x10000) := by
  unfold regionOf
  rw [if_neg (by omega), if_neg (by omega), if_neg (by omega), if_pos (by omega)]

/-! What reporting leaves of the memory while no manifest keeps a ring there. -/

/-- Neither manifest keeps its records in a ring. -/
def State.RingsOff (s : State) : Prop := s.on (F.MAN_CFG_EN 0) = false ∧ s.on (F.MAN_CFG_EN 1) = false

/-- With both rings off, `t` has the memory of `s` below the quay mailbox, its check bits, and both rings off. -/
def KeepsMemory (s t : State) : Prop :=
  s.RingsOff → t.RingsOff ∧ t.chk = s.chk ∧ ∀ b, b < 0x70000000 → t.byte b = s.byte b

namespace KeepsMemory

variable {s t u : State}

theorem refl : KeepsMemory s s := fun h => ⟨h, rfl, fun _ _ => rfl⟩

theorem trans (h : KeepsMemory s t) (k : KeepsMemory t u) : KeepsMemory s u := fun hs => by
  obtain ⟨ht, hc, hb⟩ := h hs
  obtain ⟨hu, hc', hb'⟩ := k ht
  exact ⟨hu, hc'.trans hc, fun b hlt => (hb' b hlt).trans (hb b hlt)⟩

theorem ite {c : Prop} [Decidable c] {a b : State} (ha : KeepsMemory s a) (hb : KeepsMemory s b) :
    KeepsMemory s (if c then a else b) := by
  split
  · exact ha
  · exact hb

theorem foldl {β : Type} {f : State → β → State} (h : ∀ t x, KeepsMemory t (f t x)) (l : List β) (t : State) :
    KeepsMemory t (l.foldl f t) := by
  induction l generalizing t with
  | nil => exact refl
  | cons x r ih => exact (h t x).trans (ih _)

/-- What touches neither the memory nor the manifests' registers. -/
theorem of_frame {e : List Part} (h : Frame e s t) (hr : Part.sub [.rMan] e = false) (hm : Part.sub [.mem] e = false)
    (hc : Part.sub [.chk] e = false) : KeepsMemory s t := fun hs => by
  have hen : ∀ m, t.get (F.MAN_CFG_EN m) = s.get (F.MAN_CFG_EN m) := fun m => h.get F.MAN_CFG_EN_part hr
  refine ⟨?_, h.same .chk hc, fun b _ => State.byte_congr (h.same .mem hm) b⟩
  unfold State.RingsOff State.on at hs ⊢
  rwa [hen, hen]

/-- A field of a manifest other than CFG_EN. -/
theorem of_put {f : Fld} {v : Nat} (h : ∀ m, (F.MAN_CFG_EN m).key ≠ f.key) : KeepsMemory s (s.put f v) := fun hs => by
  refine ⟨?_, rfl, fun _ _ => rfl⟩
  unfold State.RingsOff State.on at hs ⊢
  rwa [State.get_put_other _ _ (h 0), State.get_put_other _ _ (h 1)]

end KeepsMemory

variable {s : State}

/-- With both rings off no record goes to memory. -/
theorem State.formRecord_keepsMemory (s : State) (m : Man) (late : Bool) (src w2 w3 : Nat) :
    KeepsMemory s (s.formRecord m late src w2 w3) := by
  have hseq : ∀ v, KeepsMemory s (s.put (F.MAN_SEQ_NEXT m.ix) v) := fun v =>
    .of_put fun n => by simp only [Fld.key, F.MAN_CFG_EN, F.MAN_SEQ_NEXT]; omega
  have hman : ∀ (t : State) (q : ManQueue), KeepsMemory t (t.setMan m q) := fun t q => .of_frame State.setMan_frame rfl rfl rfl
  intro hs
  have hroom : s.ringRoom m = false := by
    unfold State.ringRoom
    cases m
    · exact Bool.and_eq_false_iff.2 (Or.inl hs.1)
    · exact Bool.and_eq_false_iff.2 (Or.inl hs.2)
  refine (KeepsMemory.ite ((hseq _).trans (hman _ _)) ?_ : KeepsMemory s (s.formRecord m late src w2 w3)) hs
  rw [hroom, if_neg Bool.false_ne_true]
  refine ((hseq _).trans (KeepsMemory.of_put fun n => ?_)).trans (hman _ _)
  split
  · simp only [Fld.key, F.MAN_CFG_EN, F.MAN_LOST_LOST0]; omega
  · simp only [Fld.key, F.MAN_CFG_EN, F.MAN_LOST_LOST13]; omega

theorem State.sourceIn_keepsMemory (s : State) (m : Man) (src w2 w3 : Nat) : KeepsMemory s (s.sourceIn m src w2 w3) := by
  have hpend : KeepsMemory s (s.setPend m src true) :=
    .of_put fun n => by simp only [Fld.key, F.MAN_CFG_EN, F.MAN_PEND_PEND]; omega
  exact .ite hpend (hpend.trans (State.formRecord_keepsMemory _ _ _ _ _ _))

theorem State.source_keepsMemory (s : State) (src w2 w3 : Nat) : KeepsMemory s (s.source src w2 w3) :=
  .ite (.of_frame State.set_power_frame rfl rfl rfl)
    ((s.sourceIn_keepsMemory _ _ _ _).trans (State.sourceIn_keepsMemory _ _ _ _ _))

theorem State.setSess_keepsMemory (s : State) (x : Sess) (c : Session) : KeepsMemory s (s.setSess x c) :=
  .of_frame State.setSess_frame rfl rfl rfl

theorem State.reportLost_keepsMemory (s : State) (x : Sess) : KeepsMemory s (s.reportLost x) := by
  unfold State.reportLost
  exact .ite .refl (.ite ((s.setSess_keepsMemory _ _).trans (State.source_keepsMemory _ _ _ _)) .refl)

/-- The reply ring lies in the quay mailbox. -/
theorem State.ringWrite_keepsMemory (s : State) (i : Nat) (l : List Char) : KeepsMemory s (s.ringWrite i l) := by
  induction l generalizing s i with
  | nil => exact .refl
  | cons c r ih =>
    refine KeepsMemory.trans (t := s.setByte (0x70000200 + i % 3584) (BitVec.ofNat 8 c.toNat)) (fun hs => ⟨hs, rfl, fun b hb => ?_⟩) (ih _ _)
    exact s.byte_setByte_other _ (by omega)

theorem State.quayLine_keepsMemory (s : State) (t : String) : KeepsMemory s (s.quayLine t) := by
  have hput : ∀ (u : State) (f : Fld) (v : Nat), f ∈ [F.QUAY_RHEAD, F.QUAY_OVERRUN] → KeepsMemory u (u.put f v) := fun u f v hf =>
    .of_put fun n => by
      simp only [List.mem_cons, List.not_mem_nil, or_false] at hf
      rcases hf with rfl | rfl <;> simp only [Fld.key, F.MAN_CFG_EN, F.QUAY_RHEAD, F.QUAY_OVERRUN] <;> omega
  unfold State.quayLine
  refine .ite (KeepsMemory.trans ?_ (State.sourceIn_keepsMemory _ _ _ _ _)) (hput _ _ _ (by simp))
  exact (s.ringWrite_keepsMemory _ _).trans (hput _ _ _ (by simp))

theorem State.afterSent_keepsMemory (s : State) (x : Sess) (a : AfterSent) : KeepsMemory s (s.afterSent x a) :=
  .of_frame State.afterSent_frame rfl rfl rfl

theorem State.emit_keepsMemory (s : State) (x : Sess) (prio cls epoch : Nat) (a : AfterSent) (t : String) :
    KeepsMemory s (s.emit x prio cls epoch a t) := by
  unfold State.emit
  split
  · exact (s.quayLine_keepsMemory _).trans (State.afterSent_keepsMemory _ _ _)
  · exact .ite ((s.setSess_keepsMemory _ _).trans (State.reportLost_keepsMemory _ _)) .refl

theorem State.notices_keepsMemory (s : State) (l : List Sess) (cls : Nat) (t : String) : KeepsMemory s (s.notices l cls t) :=
  .foldl (fun a x => .ite (State.emit_keepsMemory a x _ _ _ _ _) .refl) _ _

theorem State.raiseK_keepsMemory (s : State) (src w2 w3 : Nat) (keys : List (String × String)) :
    KeepsMemory s (s.raiseK src w2 w3 keys) := (s.source_keepsMemory _ _ _).trans (State.notices_keepsMemory _ _ _ _)

theorem State.raise_keepsMemory (s : State) (src w2 w3 : Nat) : KeepsMemory s (s.raise src w2 w3) := s.raiseK_keepsMemory _ _ _ _

theorem State.raise0_keepsMemory (s : State) (src : Nat) : KeepsMemory s (s.raise0 src) := s.raise_keepsMemory _ _ _

theorem State.busError_keepsMemory (s : State) (a m : Nat) (w : Bool) : KeepsMemory s (s.busError a m w) :=
  s.raiseK_keepsMemory _ _ _ _

/-! The accesses that the bus isolates. -/

/-- A write to the secure bank by a master that may not, and one to the code store by any, is isolated. -/
theorem State.busWrite_isolated {a : Nat} {m : Master}
    (h : (0x29000000 ≤ a ∧ a < 0x29008000 ∧ m ≠ .sys) ∨ (0x08000000 ≤ a ∧ a < 0x08400000)) (s : State) (l : List Byte) :
    s.busWrite m a l = s.isolated m a l.length true := by
  have hmem : memoryAt a = true := by unfold memoryAt; simp; omega
  unfold State.busWrite
  dsimp only
  rw [if_neg (by omega), blockAt_of_lt (by omega)]
  dsimp only
  rw [if_neg (by rw [hmem]; decide), if_pos (h.elim Or.inl fun h => Or.inr (Or.inl h))]

theorem State.busRead_isolated {a : Nat} {m : Master} (hlo : 0x29000000 ≤ a) (hhi : a < 0x29008000) (hm : m ≠ .sys) (s : State) (n : Nat) :
    s.busRead m a n = s.isolated m a n false := by
  have hmem : memoryAt a = true := by unfold memoryAt; simp; omega
  unfold State.busRead
  rw [if_neg (by omega), blockAt_of_lt (by omega)]
  dsimp only
  rw [if_neg (by rw [hmem]; decide), if_pos ⟨hlo, hhi, hm⟩]

end Sys2Proof.Machine

namespace Sys2Proof

open Sys2Proof.Machine

theorem OnlyCore.mem {c : CoreId} {s t : State} (h : OnlyCore c s t) : t.mem = s.mem := by
  obtain ⟨k, n, rfl⟩ := h
  cases c <;> rfl

theorem OnlyCore.regs {c : CoreId} {s t : State} (h : OnlyCore c s t) : t.regs = s.regs := by
  obtain ⟨k, n, rfl⟩ := h
  cases c <;> rfl

theorem Undisturbed.of_cores {s t : State} (ha : t.app = s.app) (hs : t.sys = s.sys) (c : CoreId) : Undisturbed c s t := by
  have hc : t.core c = s.core c := by cases c <;> assumption
  unfold Undisturbed; rw [hc]

/-- Settles O40: the store is `State.writeMem` of the bytes, which changes them and no register, and the word ends on the core. -/
theorem storesChangeOnlyTheirBytes : Obligations.StoresChangeOnlyTheirBytes := by
  unfold Obligations.StoresChangeOnlyTheirBytes
  intro c rt ra am p s h hp hb k a ha hlo hhi hpow hruns hv
  have hsize : p.2 < 16 := by
    simp only [IsStoreOp, List.mem_cons, List.not_mem_nil, or_false] at hp
    rcases hp with rfl | rfl | rfl <;> (dsimp only; omega)
  have hlen := leBytes_length p.2 (k.gen rt).toNat
  have hw := State.busWrite_sram hlo hhi hpow c.master (leBytes p.2 (k.gen rt).toNat)
  obtain ⟨hbytes, hother, hregs, happ, hsys⟩ :=
    State.writeMem_of_clean (l := leBytes p.2 (k.gen rt).toNat) (regionOf_sram hlo hhi) (by omega) hruns hv c.master.code
  rw [← hw] at hbytes hother hregs happ hsys
  rw [hlen] at hbytes hother
  obtain ⟨t, ht, ho, -, -, -, hgen, -, hspecial, -⟩ := (loadsAndStores c rt ra am s h hb).2.1 p hp ha (Undisturbed.of_cores happ hsys c)
  have hcore := (Undisturbed.of_cores happ hsys c).fields.2.1
  refine ⟨t, ht, ?_, fun b hbo => (State.byte_congr ho.mem b).trans (hother b hbo), ho.regs.trans hregs, hspecial.trans hcore, hgen⟩
  exact (congrArg (List.map · _) (funext fun i => State.byte_congr ho.mem (a + i))).trans hbytes

/-- Settles O41: the bus isolates such an access, which raises its report alone and answers zeros. -/
theorem secureBankIsTheSystemsAlone : Obligations.SecureBankIsTheSystemsAlone := by
  unfold Obligations.SecureBankIsTheSystemsAlone
  refine ⟨fun m a l s he hf h => ?write, fun m a n s u hlo hhi hm => ?read, fun rt ra i s h hrt => ?load⟩
  case write =>
    rw [State.busWrite_isolated h]
    obtain ⟨-, hc, hb⟩ := s.busError_keepsMemory a m.code true ⟨he, hf⟩
    exact ⟨hb, hc, rfl⟩
  case read =>
    rw [State.busRead_isolated hlo hhi hm, State.busRead_isolated hlo hhi hm]
    exact ⟨rfl, rfl⟩
  case load =>
    intro a ha hlo hhi
    have hread := State.busRead_isolated (m := CoreId.app.master) hlo hhi (by decide) s 4
    have hframe := (s.busError_reports a CoreId.app.master.code false).frame
    have hu : Undisturbed .app s (s.busRead CoreId.app.master a 4).st := by
      rw [hread]
      exact Undisturbed.of_cores (hframe.same .app rfl) (hframe.same .sys rfl) .app
    obtain ⟨t, ht, -, hpc, -, -, -, hflight, -⟩ := (loadsAndStores .app rt ra (.imm i) s h (fun hn => nomatch hn)).1
      (.ldw .app rt ra (.imm i), 4, false) (by simp [IsLoadOp]) ha hu
    refine ⟨t, ht, ?_, hpc.trans (congrArg (· + 4) hu.fields.2.2.1)⟩
    have hl := congrArg (List.map fun e : Nat × Word × Nat => (e.1, e.2.1)) hflight
    rw [List.map_map, if_neg (show rt.val ≠ 0 from fun hn => hrt (Fin.ext hn))] at hl
    refine hl.trans ?_
    have hbytes : (s.busRead CoreId.app.master a 4).bytes = List.replicate 4 0 := by rw [hread]; rfl
    have hzero : loaded false (s.busRead CoreId.app.master a 4).bytes = 0 := by rw [hbytes]; rfl
    exact congrArg (fun v => [(rt.val, v)]) hzero

end Sys2Proof

/-! PROOF. Write-backs, the Dredger and the wipe of the secure bank (O42). -/

namespace Sys2Proof.Machine

/-! What the wipe's neighbours keep of the counter of tampers. -/

theorem State.signWiped_tamper (s : State) : s.signWiped.crypto.tamper = s.crypto.tamper ∧ s.signWiped.get F.CRYPTO_KEY_READY = 0 := by
  have hready : ∀ t : State, ((t.put F.CRYPTO_KEY_READY 0).put F.CRYPTO_KEY_BUSY 0).get F.CRYPTO_KEY_READY = 0 := fun t => by
    rw [State.get_put_other _ _ (by decide), State.get_put_same]; rfl
  unfold State.signWiped
  dsimp only
  split
  · refine ⟨(congrArg CryptoState.tamper (State.raise_frame.same .crypto rfl)).trans rfl, ?_⟩
    exact (State.raise_frame.get F.CRYPTO_KEY_READY_part rfl).trans (hready _)
  · exact ⟨rfl, hready _⟩

/-- What the wipe leaves: the secure bank zero, its own marks, the key dropped and the counter of tampers. -/
theorem State.beginWipe_spec (s : State) (cause : Nat) (report : Bool) :
    (∀ a, 0x29000000 ≤ a → a < 0x29008000 → (s.beginWipe cause report).byte a = 0) ∧
    (s.beginWipe cause report).get F.MEMCTL_WIPE_BUSY = 1 ∧ (s.beginWipe cause report).get F.CRYPTO_KEY_READY = 0 ∧
    (s.beginWipe cause report).crypto.tamper = s.crypto.tamper := by
  obtain ⟨htamper, hready⟩ := s.signWiped_tamper
  refine ⟨fun a hlo hhi => ?_, ?_, ?_, ?_⟩
  · show Store.get memDefault (Store.clear 0x29000000 0x29008000 s.signWiped.mem) a = 0
    rw [Store.get_clear, if_pos ⟨hlo, hhi⟩, memDefault, if_neg (by omega)]
  · show (((s.signWiped.zeroMem 27).put F.MEMCTL_WIPE_BUSY 1).put F.MEMCTL_WIPE_CAUSE cause).get F.MEMCTL_WIPE_BUSY = 1
    rw [State.get_put_other _ _ (by decide), State.get_put_same]; rfl
  · show (((s.signWiped.zeroMem 27).put F.MEMCTL_WIPE_BUSY 1).put F.MEMCTL_WIPE_CAUSE cause).get F.CRYPTO_KEY_READY = 0
    rw [State.get_put_other _ _ (by decide), State.get_put_other _ _ (by decide)]
    exact (State.zeroMem_frame.get F.CRYPTO_KEY_READY_part rfl).trans hready
  · exact htamper

theorem State.domainOn_tamper (s : State) (d : Nat) : (s.domainOn d).crypto.tamper = s.crypto.tamper := by
  unfold State.domainOn
  split
  · rfl
  · split
    · exact congrArg CryptoState.tamper (State.sramOn_frame.same .crypto rfl)
    · dsimp only
      split
      · exact (State.beginWipe_spec _ _ _).2.2.2
      · rfl

end Sys2Proof.Machine

namespace Sys2Proof

open Sys2Proof.Machine

/-- The first block of a walk at or after a block that is past every region of an empty list. -/
theorem nextBlock_nil (p : Nat) : nextBlock [] p = none := rfl

/-- A write-back mends its block, and waits no longer. -/
theorem checkWriteBack_spec (b : Nat) (s : State) : (s.wbacks.contains b = false → exec (.checkWriteBack b) s = .next s) ∧
    (s.wbacks.contains b = true → ∃ t : State, exec (.checkWriteBack b) s = .next t ∧ t.wbacks.contains b = false ∧
      (∀ a, a / 16 ≠ b → t.byte a = s.byte a) ∧ (s.verdict b = .clean → t.mem = s.mem) ∧ t.regs = s.regs) := by
  obtain ⟨hbyte, hregs, hclean⟩ := s.mend_spec b
  refine ⟨fun h => congrArg Host.Outcome.next (if_neg (by rw [h]; exact Bool.false_ne_true)), fun h =>
    ⟨_, congrArg Host.Outcome.next (if_pos h), ?_, hbyte, fun hv => (congrArg State.mem (hclean hv) :), hregs⟩⟩
  simp

/-- The Dredger rests, or goes on to the next block of its walk. -/
theorem dredgerBlock_spec (s : State) : (s.on F.MEMCTL_DCFG_EN = false ∨ 2 ≤ s.power.depth ∨ s.dredged = [] → exec .dredgerBlock s = .next s) ∧
    (∀ b, s.on F.MEMCTL_DCFG_EN = true → s.power.depth < 2 → (nextBlock s.dredged s.mems.dpos).or (nextBlock s.dredged 0) = some b →
      ∃ t : State, exec .dredgerBlock s = .next t ∧
        t.mems.dpos = ((nextBlock s.dredged (b + 1)).or (nextBlock s.dredged 0)).getD 0) := by
  refine ⟨fun h => ?_, fun b hen hdeep hb => ?_⟩
  · show execDredgerBlock s = _
    unfold execDredgerBlock
    by_cases hrest : (!s.on F.MEMCTL_DCFG_EN || decide (2 ≤ s.power.depth)) = true
    · exact congrArg _ (if_pos hrest)
    · have hd : s.dredged = [] := by
        rcases h with h | h | h
        · exact absurd (by rw [h]; rfl) hrest
        · exact absurd (by rw [decide_eq_true h, Bool.or_true]) hrest
        · exact h
      refine congrArg _ ((if_neg hrest).trans ?_)
      rw [hd]
      rfl
  · show ∃ t, execDredgerBlock s = _ ∧ _
    unfold execDredgerBlock
    dsimp only
    rw [if_neg (by rw [hen]; simp; omega), hb]
    exact ⟨_, rfl, rfl⟩

/-- A tamper wipes the secure bank and is counted. -/
theorem tamperWipe_spec (s : State) : ∃ t : State, exec .tamperWipe s = .next t ∧
    (∀ a, 0x29000000 ≤ a → a < 0x29008000 → t.byte a = 0) ∧
    t.get F.MEMCTL_WIPE_BUSY = 1 ∧ t.get F.CRYPTO_KEY_READY = 0 ∧ t.crypto.tamper = min 0xFFFF (s.crypto.tamper + 1) := by
  obtain ⟨hbyte, hbusy, hready, htamper⟩ := State.beginWipe_spec
    (((((s.wake 10).fire 61).raise0 Src.LIFE_TAMP).withCrypto fun c => { c with tamper := min 0xFFFF (c.tamper + 1) }).systemRecord.needDomain 11)
    0 true
  refine ⟨_, rfl, hbyte, hbusy, hready, htamper.trans ((State.domainOn_tamper _ 11).trans ?_)⟩
  have hbefore : (((s.wake 10).fire 61).raise0 Src.LIFE_TAMP).crypto = s.crypto :=
    (State.raise0_frame.same .crypto rfl).trans ((State.fire_frame.same .crypto rfl).trans (State.wake_frame.same .crypto rfl))
  have hrecord : ∀ t : State, t.systemRecord.crypto = t.crypto := fun t => State.systemRecord_frame.same .crypto rfl
  rw [hrecord]
  show min 0xFFFF ((((s.wake 10).fire 61).raise0 Src.LIFE_TAMP).crypto.tamper + 1) = _
  rw [hbefore]

/-- The end of a wipe clears its mark. -/
theorem wipeDone_spec (s : State) : (s.on F.MEMCTL_WIPE_BUSY = false → exec .wipeDone s = .next s) ∧ (s.on F.MEMCTL_WIPE_BUSY = true →
    ∃ t : State, exec .wipeDone s = .next t ∧ t.get F.MEMCTL_WIPE_BUSY = 0) := by
  refine ⟨fun h => congrArg Host.Outcome.next (if_neg (by rw [h]; exact Bool.false_ne_true)), fun h =>
    ⟨_, congrArg Host.Outcome.next (if_pos h), (State.deriveKey_frame.get F.MEMCTL_WIPE_BUSY_part rfl).trans ?_⟩⟩
  have hput : (s.put F.MEMCTL_WIPE_BUSY 0).get F.MEMCTL_WIPE_BUSY = 0 := by rw [State.get_put_same]; rfl
  split
  · exact ((State.raise_reports _ _ _ _).get _ (by decide) (by decide)).trans hput
  · exact hput

/-- Settles O42: each clause is the case of its command. -/
theorem checksWipesAndTheDredger : Obligations.ChecksWipesAndTheDredger :=
  ⟨checkWriteBack_spec, dredgerBlock_spec, tamperWipe_spec, wipeDone_spec⟩

end Sys2Proof

/-! PROOF. Fields that an operation leaves alone although it writes others of their part, and the receiver's modes (O13). -/

namespace Sys2Proof.Machine

/-- `t` shows the fields `fs` as `s` does. -/
def Same (fs : List Fld) (s t : State) : Prop := ∀ f ∈ fs, t.get f = s.get f

namespace Same

variable {fs : List Fld} {s t u : State}

theorem refl : Same fs s s := fun _ _ => rfl

theorem trans (h : Same fs s t) (k : Same fs t u) : Same fs s u := fun f hf => (k f hf).trans (h f hf)

theorem ite {c : Prop} [Decidable c] {a b : State} (ha : Same fs s a) (hb : Same fs s b) : Same fs s (if c then a else b) := by
  split
  · exact ha
  · exact hb

theorem foldl {β : Type} {f : State → β → State} (h : ∀ t x, Same fs t (f t x)) (l : List β) (t : State) :
    Same fs t (l.foldl f t) := by
  induction l generalizing t with
  | nil => exact refl
  | cons x r ih => exact (h t x).trans (ih _)

/-- What leaves the parts of the fields out. -/
theorem of_frame {e : List Part} (h : Frame e s t) (hn : ∀ f ∈ fs, Part.sub [f.part] e = false) : Same fs s t :=
  fun f hf => h.get rfl (hn f hf)

/-- A field with another key. -/
theorem of_put {g : Fld} {v : Nat} (h : ∀ f ∈ fs, f.key ≠ g.key) : Same fs s (s.put g v) := fun f hf => s.get_put_other v (h f hf)

theorem of_puts {l : List (Fld × Nat)} (h : ∀ f ∈ fs, ∀ c ∈ l, f.key ≠ c.1.key) : Same fs s (s.puts l) :=
  fun f hf => State.get_puts_other s l (h f hf)

theorem of_reports (h : Reports s t) (hp : ∀ f ∈ fs, Part.sub [f.part] reportParts = false)
    (hf : ∀ f ∈ fs, ∀ g ∈ reportFields, f.key ≠ g.key) : Same fs s t := fun f hm => h.get f (hp f hm) (hf f hm)

end Same

/-- A part left out is left out for a field of the part. -/
theorem Same.of_part {f : Fld} {p : Part} {e : List Part} {s t : State} (hp : f.part = p) (h : Frame e s t)
    (hn : Part.sub [p] e = false) : Same [f] s t :=
  .of_frame h fun g hg => by rw [List.mem_singleton.1 hg, hp]; exact hn

theorem Same.of_put_key {f g : Fld} {s : State} {v : Nat} (h : f.key ≠ g.key) : Same [f] s (s.put g v) :=
  .of_put fun d hd => by rw [List.mem_singleton.1 hd]; exact h

section

variable {f : Fld} (hp : f.part = .rGnss) (hk : f.key ≠ F.GNSS_CONSLIM_PR_LIM.key)
include hp hk

/-- Of the receiver's own registers, the derivation of a mode writes the limit of the pseudorange alone (R97). -/
theorem State.deriveMode_same (s : State) : Same [f] s s.deriveMode := by
  have hputs : ∀ v w x : Nat, Same [f] s (s.puts [(F.FRONT_CFG_L1_EN, v), (F.FRONT_CFG_L5_EN, w), (F.FRONT_CFG_SUB_EN, x)]) :=
    fun v w x => Same.of_part hp (State.puts_cons_frame (e := [.rFront]) F.FRONT_CFG_L1_EN_part rfl
      (State.puts_cons_frame F.FRONT_CFG_L5_EN_part rfl (State.puts_cons_frame F.FRONT_CFG_SUB_EN_part rfl State.puts_nil_frame))) rfl
  have hstart : ∀ {c : Prop} [Decidable c] (v w x : Nat), Same [f] s
      (if c then s else s.puts [(F.FRONT_CFG_L1_EN, v), (F.FRONT_CFG_L5_EN, w), (F.FRONT_CFG_SUB_EN, x)]).frontHeritage :=
    fun v w x => (Same.ite .refl (hputs v w x)).trans (Same.of_part hp State.frontHeritage_frame rfl)
  unfold State.deriveMode
  dsimp only
  refine Same.trans ?_ (Same.of_part hp State.deriveLoop_frame rfl)
  exact Same.ite (hstart _ _ _) ((hstart _ _ _).trans (Same.of_put_key hk))

/-- The entry into a mode writes no other register of the receiver. -/
theorem State.enterMode_same (s : State) : Same [f] s s.enterMode := by
  have keep : ∀ {e : List Part} {t u : State}, Frame e t u → Part.sub [.rGnss] e = false → Same [f] t u := Same.of_part hp
  have need : ∀ (t : State) (d : Nat), Same [f] t (t.needDomain d) := fun t d => keep State.needDomain_frame rfl
  have off : ∀ (t : State) (d : Nat), Same [f] t (t.domainOff d) := fun t d => keep State.domainOff_frame rfl
  have released : ∀ l : List (Nat × Nat), Same [f] s (l.foldl (fun t p => t.releaseBerth (s.get (F.PLAN_SLOT_A_BERTH p.1 p.2))) s) :=
    fun l => Same.foldl (fun t p => keep State.releaseBerth_frame rfl) _ _
  have planned : ∀ t : State, Same [f] t (((((t.withGnss fun g => { g with recording := none }).put F.LOOKOUT_SNAP_VALID 0).planNext).modBerths
      fun b => { b with barred := false }).applyRate.callReplan) := fun t => by
    refine Same.trans ?_ (keep State.callReplan_frame rfl)
    refine Same.trans ?_ (keep State.applyRate_frame rfl)
    refine Same.trans ?_ (keep State.modBerths_frame rfl)
    refine Same.trans ?_ (keep State.planNext_frame rfl)
    refine Same.trans ?_ (keep (State.put_frame (e := [.rLookout]) F.LOOKOUT_SNAP_VALID_part rfl) rfl)
    exact keep State.withGnss_frame rfl
  unfold State.enterMode
  dsimp only
  refine Same.trans ?_ (keep State.rfClocks_frame rfl)
  refine Same.trans ?_ (State.deriveMode_same hp hk _)
  refine Same.trans ?_ (Same.ite (keep State.rtcHeritage_frame rfl) .refl)
  refine Same.ite ?off (Same.ite ?l5 ?l1)
  case off =>
    refine Same.trans ?_ (keep State.gnssOffTide_frame rfl)
    refine Same.trans ?_ (off _ 7)
    refine Same.trans ?_ (off _ 6)
    refine Same.trans ?_ (off _ 5)
    refine Same.trans ?_ (Same.foldl (fun t n => keep State.disableBerth_frame rfl) _ _)
    exact (released _).trans (planned _)
  case l5 =>
    refine Same.trans ?_ (need _ 7)
    refine Same.trans ?_ (need _ 6)
    refine Same.trans ?_ (need _ 5)
    exact (released _).trans (planned _)
  case l1 =>
    refine Same.trans ?_ (need _ 13)
    refine Same.trans ?_ (need _ 6)
    refine Same.trans ?_ (need _ 5)
    exact (released _).trans (planned _)

end

theorem Same.get {f : Fld} {s t : State} (h : Same [f] s t) : t.get f = s.get f := h f (List.mem_singleton_self f)

/-- What a request of a mode leaves (R100). -/
theorem State.requestMode_get (s : State) {m : Nat} (hm : m < 8) :
    (s.requestMode m).get F.GNSS_MODE_MODE = m ∧ (s.requestMode m).on F.GNSS_MODE_MODE_PEND = (m != s.mode) ∧
      (s.requestMode m).mode = s.mode := by
  unfold State.requestMode State.mode
  simp only [State.puts]
  refine ⟨?_, ?_, ?_⟩
  · rw [State.get_put_other _ _ (by decide), State.get_put_same]
    exact Nat.mod_eq_of_lt hm
  · unfold State.on
    rw [State.get_put_same]
    by_cases h : m = s.get F.GNSS_MODE_ACT_MODE <;> simp [h, bit, F.GNSS_MODE_MODE_PEND]
  · rw [State.get_put_other _ _ (by decide), State.get_put_other _ _ (by decide)]

/-- A field whose every write in a list puts 0 reads 0, or as before where the list does not write it. -/
theorem State.get_puts_zero (s : State) (l : List (Fld × Nat)) (g : Fld) (h0 : ∀ c ∈ l, g.key = c.1.key → c = (g, 0))
    (hg : (g, 0) ∈ l) : (s.puts l).get g = 0 := by
  induction l generalizing s with
  | nil => cases hg
  | cons c r ih =>
    have hr : ∀ d ∈ r, g.key = d.1.key → d = (g, 0) := fun d hd => h0 d (List.mem_cons_of_mem _ hd)
    by_cases hin : (g, 0) ∈ r
    · exact ih (s.put c.1 c.2) hr hin
    · have hc : c = (g, 0) := ((List.mem_cons.1 hg).resolve_right hin).symm
      subst hc
      refine (State.get_puts_other (s.put g 0) r fun d hd hk => hin (hr d hd hk ▸ hd)).trans ?_
      rw [State.get_put_same, Nat.zero_mod]

/-- The offsets of a constellation, once cleared. -/
theorem State.clearOffsets_get (s : State) (i : Fin 5) :
    s.clearOffsets.get (F.GNSS_TOFS_OFS i) = 0 ∧ s.clearOffsets.get (F.GNSS_TOFS_NSAT i) = 0 := by
  constructor <;> refine State.get_puts_zero s _ _ ?_ ?_ <;> revert i <;> decide

end Sys2Proof.Machine

namespace Sys2Proof

open Sys2Proof.Machine

section

variable {x : Sess} {s : State}

theorem gnssMode_of_strap {m : Fin 7} (h : accepts s x gnssCmd = true) (hs : s.on F.GNSS_MODE_STRAP = true) (hm : m.val ≠ 6) :
    exec (.gnssMode x m) s = .next (s.er x 230) :=
  (congrArg Host.Outcome.next (run_accepts h _)).trans (congrArg Host.Outcome.next (if_pos (by rw [hs]; simpa using hm)))

/-- A mode that the strap allows is requested where ledger and reserve allow it. -/
theorem gnssMode_of_allowed {m : Fin 7} (h : accepts s x gnssCmd = true) (hs : s.on F.GNSS_MODE_STRAP = true → m.val = 6) :
    exec (.gnssMode x m) s = .next (if !ledgerGrants s (s.requestMode m) then (s.ledgerRefuse .gnss 0x10 .console).er x 312
      else if s.reserveRefuses (s.requestMode m) then s.er x 313
      else (s.requestMode m).finish x (s.dialectAfter m) "OK") := by
  refine (congrArg Host.Outcome.next (run_accepts h _)).trans (congrArg Host.Outcome.next (if_neg ?_))
  cases hb : s.on F.GNSS_MODE_STRAP with
  | false => exact Bool.false_ne_true
  | true => rw [hs hb]; decide

theorem gnssModeRegisterWrite_of_open {side : Side} {m : Fin 8} (h : opens s side .gnss false = true) :
    exec (.gnssModeRegisterWrite side m) s = .next (s.writeMode side m) := congrArg Host.Outcome.next (guard_opens h _ _)

/-- GNSS BURST of a period or a window. -/
theorem gnssBurst_eq {p w : Option Nat} (h : accepts s x gnssCmd = true) (hpw : p ≠ none ∨ w ≠ none) :
    exec (.gnssBurst x p w) s = .next
      (let n := p.getD (s.get F.GNSS_BURST_PERIOD)
       let k := w.getD (s.get F.GNSS_BURST_WINDOW)
       if 1 ≤ n ∧ n ≤ 60 ∧ 8 ≤ k ∧ k ≤ 250 then
         ((s.puts [(F.GNSS_BURST_PERIOD, n), (F.GNSS_BURST_WINDOW, k)]).deriveMode.planNext).ok x
       else s.er x 120) := by
  refine (congrArg Host.Outcome.next (run_accepts h _)).trans (congrArg Host.Outcome.next (if_neg ?_))
  rw [Bool.and_eq_true, Option.isNone_iff_eq_none, Option.isNone_iff_eq_none]
  exact fun hn => hpw.elim (fun hp => hp hn.1) fun hw => hw hn.2

/-- The two fields that GNSS BURST sets keep their values through what follows. -/
theorem burst_fields (s : State) {n k : Nat} (hn : n ≤ 60) (hk : k ≤ 250) :
    ((s.puts [(F.GNSS_BURST_PERIOD, n), (F.GNSS_BURST_WINDOW, k)]).deriveMode.planNext).get F.GNSS_BURST_PERIOD = n ∧
    ((s.puts [(F.GNSS_BURST_PERIOD, n), (F.GNSS_BURST_WINDOW, k)]).deriveMode.planNext).get F.GNSS_BURST_WINDOW = k := by
  have keep : ∀ {f : Fld} (t : State), f.part = .rGnss → f.key ≠ F.GNSS_CONSLIM_PR_LIM.key → t.deriveMode.planNext.get f = t.get f :=
    fun t hp hk => (State.planNext_frame.get hp rfl).trans (State.deriveMode_same hp hk t).get
  refine ⟨(keep _ F.GNSS_BURST_PERIOD_part (by decide)).trans ?_, (keep _ F.GNSS_BURST_WINDOW_part (by decide)).trans ?_⟩
  · refine (State.get_put_other _ _ (by decide)).trans ((State.get_put_same _ _ _).trans (Nat.mod_eq_of_lt ?_))
    exact Nat.lt_of_le_of_lt hn (by decide)
  · refine (State.get_put_same _ _ _).trans (Nat.mod_eq_of_lt ?_)
    exact Nat.lt_of_le_of_lt hk (by decide)

/-- A mode that is pending takes effect while the receiver rests. -/
theorem gnssModeDone_of_pending (hp : s.on F.GNSS_MODE_MODE_PEND = true) (hr : s.receiverRests = true) :
    ∃ t : State, exec .gnssModeDone s = .next t ∧ t.mode = s.get F.GNSS_MODE_MODE % 8 ∧ t.on F.GNSS_MODE_MODE_PEND = false ∧
      t.console.heritage = (s.get F.GNSS_MODE_MODE == 6) := by
  refine ⟨_, congrArg Host.Outcome.next (if_neg (by rw [hp, hr]; decide)), ?_, ?_, rfl⟩
  · refine (State.raiseK_frame.get F.GNSS_MODE_ACT_MODE_part rfl).trans
      ((State.enterMode_same F.GNSS_MODE_ACT_MODE_part (by decide) _).get.trans ?_)
    exact (State.get_put_other _ _ (by decide)).trans (State.get_put_same _ _ _)
  · refine State.on_eq_false_iff.2 ((State.raiseK_frame.get F.GNSS_MODE_MODE_PEND_part rfl).trans
      ((State.enterMode_same F.GNSS_MODE_MODE_PEND_part (by decide) _).get.trans ?_))
    exact (State.get_put_same _ _ _).trans (Nat.zero_mod _)

/-- A restart that waits is applied while the receiver rests. -/
theorem restartApply_of_some {k : Restart} (hr : s.receiverRests = true) (hk : s.gnss.restart = some k) :
    exec .restartApply s = .next ((if k = .hot then (s.withGnss fun g => { g with restart := none }).forget k
      else ((s.withGnss fun g => { g with restart := none }).forget k).clearOffsets).reacquire) := by
  refine (congrArg Host.Outcome.next (if_neg (by rw [hr]; decide))).trans ?_
  rw [hk]

end

/-- Settles O13: a mode is requested in MODE and enters at GNSS_MODE_DONE; a restart is kept for RESTART_APPLY. -/
theorem receiverModes : Obligations.ReceiverModes := by
  unfold Obligations.ReceiverModes
  have body := fun {s : State} {x : Sess} {i : CmdInfo} (h : accepts s x i = true) (f : State → State) =>
    congrArg (Host.Outcome.next (φ := Fault) (ρ := Refusal)) (run_accepts h f)
  refine ⟨fun x m s h => ⟨gnssMode_of_strap h, fun hs => ⟨fun ha => ?mode, fun hl => ?refused⟩⟩,
    fun side m s h => ⟨fun h7 hs hl => ?write, fun hno => ?keep⟩,
    fun s => ⟨gnssModeDone_of_pending, fun hp => congrArg Host.Outcome.next (if_pos (by rw [hp]; rfl))⟩,
    fun x p w s h => ⟨fun hp hw => ?missing, fun hpw => ⟨fun h1 h2 h3 h4 => ?burst, fun hn => ?range⟩⟩,
    fun x k s h => ⟨_, body h _, rfl⟩,
    fun s => ⟨fun h => ?rest, fun k hr hk hne => ?cold, fun hr hk => (restartApply_of_some hr hk).trans (by rw [if_pos rfl]; rfl)⟩,
    fun s => ⟨fun he hs => ?short, fun hn => congrArg Host.Outcome.next (if_neg ?_)⟩, fun s => ⟨_, rfl, rfl⟩⟩
  case mode =>
    obtain ⟨hl, hr⟩ := Bool.and_eq_true _ _ ▸ ha
    refine ⟨_, s.dialectAfter m, (gnssMode_of_allowed h hs).trans (congrArg Host.Outcome.next ?_), s.requestMode_get (by omega)⟩
    rw [if_neg (by rw [hl]; decide), if_neg (by simpa using hr)]
  case refused => exact (gnssMode_of_allowed h hs).trans (congrArg Host.Outcome.next (if_pos (by rw [hl]; rfl)))
  case write =>
    obtain ⟨hmode, -, hact⟩ := s.requestMode_get m.isLt
    refine ⟨_, (gnssModeRegisterWrite_of_open h).trans (congrArg Host.Outcome.next ?_), hmode, hact⟩
    exact (if_neg fun hn => hn.elim h7 fun hb => hb.2 (hs hb.1)).trans (underLedger_grants hl _ _ _)
  case keep => exact (gnssModeRegisterWrite_of_open h).trans (congrArg Host.Outcome.next (if_pos hno))
  case missing => exact (body h _).trans (congrArg Host.Outcome.next (if_pos (by rw [hp, hw]; rfl)))
  case burst => exact ⟨_, (gnssBurst_eq h hpw).trans (congrArg Host.Outcome.next (if_pos ⟨h1, h2, h3, h4⟩)), burst_fields s h2 h4⟩
  case range => exact (gnssBurst_eq h hpw).trans (congrArg Host.Outcome.next (if_neg hn))
  case rest =>
    cases hr : s.receiverRests with
    | false => exact congrArg Host.Outcome.next (if_pos (by rw [hr]; rfl))
    | true =>
      refine (congrArg Host.Outcome.next (if_neg (by rw [hr]; decide))).trans ?_
      rw [h.resolve_left (by rw [hr]; decide)]
  case cold =>
    refine ⟨_, restartApply_of_some hr hk, fun i => ?_⟩
    rw [if_neg hne]
    obtain ⟨hofs, hnsat⟩ := State.clearOffsets_get ((s.withGnss fun g => { g with restart := none }).forget k) i
    exact ⟨(State.reacquire_frame.get F.GNSS_TOFS_OFS_part rfl).trans hofs,
      (State.reacquire_frame.get F.GNSS_TOFS_NSAT_part rfl).trans hnsat⟩
  case short =>
    refine ⟨_, congrArg Host.Outcome.next (if_pos (by rw [he, hs]; rfl)), ?_⟩
    exact (State.raise0_frame.get F.FRONT_CFG_BIAS_SHORT_part rfl).trans ((State.get_put_same _ _ _).trans rfl)
  · rcases hn with hn | hn <;> rw [hn] <;> simp

end Sys2Proof

/-! PROOF. The signal plan (O14). -/

namespace Sys2Proof.Machine

/-! What the release of a berth leaves of the plan. -/

theorem State.planState_same {f : Fld} (hk : ∀ i j, f.key ≠ (F.PLAN_SLOT_A_STATE i j).key) (s : State) (n v : Nat) :
    Same [f] s (s.planState n v) := by
  unfold State.planState
  split
  · exact Same.of_put_key (hk _ _)
  · exact .refl

section

variable {f : Fld} (hp : f.part = .rPlan) (hk : ∀ i j, f.key ≠ (F.PLAN_SLOT_A_STATE i j).key)
include hp hk

theorem State.endStart_same (s : State) (n v : Nat) : Same [f] s (s.endStart n v) := by
  unfold State.endStart
  dsimp only
  have hmod : ∀ g, Same [f] s ((s.modBerth n g).puts [(F.BERTH_STAT_STATE n, v), (F.BERTH_STAT_BOND n, 0), (F.BERTH_STAT_SEC_SYNC n, 0),
      (F.BERTH_STAT_PLOCK n, 0), (F.BERTH_STAT_FLOCK n, 0), (F.BERTH_STAT_CLOCK n, 0)]) := fun g =>
    (Same.of_part hp State.modBerth_frame rfl).trans (Same.of_part hp (State.puts_frame (e := [.rBerth]) fun c hc => by
      simp only [List.mem_cons, List.not_mem_nil, or_false] at hc
      rcases hc with rfl | rfl | rfl | rfl | rfl | rfl
      · rw [F.BERTH_STAT_STATE_part]; rfl
      · rw [F.BERTH_STAT_BOND_part]; rfl
      · rw [F.BERTH_STAT_SEC_SYNC_part]; rfl
      · rw [F.BERTH_STAT_PLOCK_part]; rfl
      · rw [F.BERTH_STAT_FLOCK_part]; rfl
      · rw [F.BERTH_STAT_CLOCK_part]; rfl) rfl)
  exact Same.ite (hmod _) ((hmod _).trans (State.planState_same hk _ _ _))

theorem State.refuseBonded_same (s : State) (n cause v : Nat) : Same [f] s (s.refuseBonded n cause v) := by
  have hretract : ∀ es, Same [f] s (s.retract n es cause) := fun es => Same.of_part hp State.retract_frame rfl
  unfold State.refuseBonded
  dsimp only
  refine Same.ite ?_ ((Same.ite .refl (hretract _)).trans (State.endStart_same hp hk _ _ _))
  refine Same.trans ?_ (Same.of_part hp State.afterRefused_frame rfl)
  refine Same.trans ?_ (State.endStart_same hp hk _ _ _)
  refine Same.trans ?_ (Same.of_part hp (State.count_frame (e := [.rSillage]) F.SILLAGE_CNT_REFUSED_part rfl) rfl)
  exact (hretract _).trans (Same.of_part hp State.settleUnits_frame rfl)

theorem State.leavePlaces_same (s : State) (n : Nat) : Same [f] s (s.leavePlaces n) := by
  unfold State.leavePlaces
  dsimp only
  refine Same.trans ?_ (Same.of_part hp State.modBerth_frame rfl)
  exact Same.foldl (fun t p => Same.ite (Same.of_put_key (hk _ _)) .refl) _ _

theorem State.stopBerth_same (s : State) (n : Nat) : Same [f] s (s.stopBerth n) := by
  unfold State.stopBerth
  refine Same.trans ?_ (Same.of_part hp State.stopLanes_frame rfl)
  refine Same.trans ?_ (Same.of_part hp (State.put_frame (e := [.rBerth]) F.BERTH_CFG_EN_part rfl) rfl)
  refine Same.trans ?_ (Same.of_part hp State.modBerth_frame rfl)
  exact (State.refuseBonded_same hp hk _ _ _ _).trans (State.leavePlaces_same hp hk _ _)

theorem State.giveUp_same (s : State) (n i j : Nat) : Same [f] s (s.giveUp n i j) := by
  unfold State.giveUp
  refine Same.ite ?_ ((Same.of_put_key (hk _ _)).trans (State.stopBerth_same hp hk _ _))
  exact ((Same.of_put_key (hk i j)).trans (Same.of_part hp State.modBerth_frame rfl)).trans (Same.of_part hp State.stopLanes_frame rfl)

theorem State.releaseEntry_same (hb : ∀ i j, f.key ≠ (F.PLAN_SLOT_A_BERTH i j).key) (s : State) (i j : Nat) :
    Same [f] s (s.releaseEntry i j) := by
  unfold State.releaseEntry
  refine Same.trans (Same.ite (State.giveUp_same hp hk _ _ _ _) ?_) (Same.of_put_key (hb _ _))
  exact Same.ite .refl (Same.of_put_key (hk _ _))

end

/-- An emptied slot is unused, and no other slot is used because of it. -/
theorem State.emptySlot_sys (s : State) (i k : Nat) :
    (s.emptySlot i).get (F.PLAN_SLOT_SV_SYS k) = if k % 128 = i % 128 then 7 else s.get (F.PLAN_SLOT_SV_SYS k) := by
  have hstate : ∀ i j, (F.PLAN_SLOT_SV_SYS k).key ≠ (F.PLAN_SLOT_A_STATE i j).key := fun i j => by
    simp only [Fld.key, F.PLAN_SLOT_SV_SYS, F.PLAN_SLOT_A_STATE]; omega
  have hberth : ∀ i j, (F.PLAN_SLOT_SV_SYS k).key ≠ (F.PLAN_SLOT_A_BERTH i j).key := fun i j => by
    simp only [Fld.key, F.PLAN_SLOT_SV_SYS, F.PLAN_SLOT_A_BERTH]; omega
  have hsig : ∀ i j, (F.PLAN_SLOT_SV_SYS k).key ≠ (F.PLAN_SLOT_A_SIG i j).key := fun i j => by
    simp only [Fld.key, F.PLAN_SLOT_SV_SYS, F.PLAN_SLOT_A_SIG]; omega
  have hentries : Same [F.PLAN_SLOT_SV_SYS k] s ([0, 1, 2].foldl (fun t j => (t.releaseEntry i j).put (F.PLAN_SLOT_A_SIG i j) 15) s) :=
    Same.foldl (fun t j => (State.releaseEntry_same F.PLAN_SLOT_SV_SYS_part hstate hberth _ _ _).trans (Same.of_put_key (hsig _ _))) _ _
  have hrest : ∀ t : State, (t.puts [(F.PLAN_SLOT_SV_SVN i, 0), (F.PLAN_SLOT_SV_GLO_K i, 0), (F.PLAN_SLOT_SV_EL i, 0),
      (F.PLAN_SLOT_SV_AZ i, 0)]).get (F.PLAN_SLOT_SV_SYS k) = t.get (F.PLAN_SLOT_SV_SYS k) := fun t =>
    State.get_puts_other _ _ fun c hc => by
      simp only [List.mem_cons, List.not_mem_nil, or_false] at hc
      rcases hc with rfl | rfl | rfl | rfl <;>
        simp only [Fld.key, F.PLAN_SLOT_SV_SYS, F.PLAN_SLOT_SV_SVN, F.PLAN_SLOT_SV_GLO_K, F.PLAN_SLOT_SV_EL, F.PLAN_SLOT_SV_AZ] <;> omega
  refine (hrest _).trans ?_
  split
  case isTrue h =>
    have hf : F.PLAN_SLOT_SV_SYS k = F.PLAN_SLOT_SV_SYS i := by simp only [F.PLAN_SLOT_SV_SYS, h]
    rw [hf, State.get_put_same]; rfl
  case isFalse h =>
    refine (State.get_put_other _ _ ?_).trans hentries.get
    simp only [Fld.key, F.PLAN_SLOT_SV_SYS]
    omega

/-- Emptied slots are unused. -/
theorem State.emptied_unused (s : State) (l : List Nat) (hl : ∀ i ∈ l, i < 128) (k : Nat) (hk : k < 128) :
    (l.foldl State.emptySlot s).slotUsed k = (s.slotUsed k && !l.contains k) := by
  induction l generalizing s with
  | nil => simp
  | cons i r ih =>
    have hi : i < 128 := hl i (List.mem_cons_self ..)
    rw [List.foldl_cons, ih _ fun j hj => hl j (List.mem_cons_of_mem _ hj)]
    unfold State.slotUsed
    rw [State.emptySlot_sys, Nat.mod_eq_of_lt hk, Nat.mod_eq_of_lt hi]
    by_cases h : k = i
    · simp [h]
    · simp [h]

/-- No entry is ranked where no slot is used. -/
theorem State.ranked_of_unused {s : State} (h : ∀ k < 128, s.slotUsed k = false) : s.ranked = [] := by
  have hused : ((List.range 128).filter fun i => s.slotUsed i) = [] := List.filter_eq_nil_iff.2 fun i hi => by
    rw [h i (List.mem_range.1 hi)]; exact Bool.false_ne_true
  unfold State.ranked
  rw [hused]
  rfl

theorem State.slotUsed_of_frame {e : List Part} {s t : State} (h : Frame e s t) (hn : Part.sub [.rPlan] e = false) (k : Nat) :
    t.slotUsed k = s.slotUsed k := by
  unfold State.slotUsed
  rw [h.get F.PLAN_SLOT_SV_SYS_part hn]

/-- Where no slot is used a replan has nothing to bind, to search or to report. -/
theorem State.bindAll_of_unused {s : State} (h : ∀ k < 128, s.slotUsed k = false) :
    (s.bindAll s.ranked.zipIdx).rerank.requeue = s.rerank ∧ s.rerank.ranked = [] := by
  have hrank : s.rerank.ranked = [] := State.ranked_of_unused fun k hk =>
    (State.slotUsed_of_frame State.rerank_frame rfl k).trans (h k hk)
  rw [State.ranked_of_unused h]
  refine ⟨?_, hrank⟩
  show s.rerank.requeue = s.rerank
  unfold State.requeue
  rw [hrank]
  rfl

/-- A replan that is due with nothing in view empties the slots that are used, and has nothing to put in them (R104). -/
theorem State.replan_nil {s : State} (he : s.expert .plan = false) (hd : s.planDue = true) (k : Nat) (hk : k < 128) :
    (s.replan []).slotUsed k = false := by
  have hq : ∀ t : State, t.qualify [] = [] := fun t => by simp [State.qualify, sortBy]
  unfold State.replan
  rw [if_neg (by rw [he, hd]; decide)]
  dsimp only
  rw [hq]
  generalize (s.withGnss fun g => { g with replanDue := false, planAt := some s.tide.up }) = s0
  generalize hu : List.foldl State.emptySlot _ _ = u
  have hun : ∀ k < 128, u.slotUsed k = false := fun k hk => by
    rw [← hu, State.emptied_unused _ _ (fun i hi => List.mem_range.1 (List.mem_filter.1 hi).1) k hk]
    cases hs : s0.slotUsed k with
    | false => rfl
    | true =>
      rw [Bool.true_and, Bool.not_eq_false', List.contains_iff_mem]
      exact List.mem_filter.2 ⟨List.mem_range.2 hk, by rw [hs]; rfl⟩
  obtain ⟨hrequeue, hrank⟩ := State.bindAll_of_unused hun
  rw [List.foldl_nil, hrequeue, hrank, List.filter_nil, List.length_nil, if_pos rfl]
  refine Eq.trans ?_ ((State.slotUsed_of_frame State.rerank_frame rfl k).trans (hun k hk))
  unfold State.slotUsed
  rw [State.get_put_other]
  simp only [Fld.key, F.PLAN_SLOT_SV_SYS, F.PLAN_STAT_DROPPED]
  omega

/-! The assignment of a signal to a berth that is off. -/

/-- The fields that a berth's firmware derives lie outside its CFG register. -/
theorem State.deriveBerth_same (s : State) (n : Nat) : Same [F.BERTH_CFG_EN n, F.BERTH_CFG_SIG n] s (s.deriveBerth n) := by
  unfold State.deriveBerth
  dsimp only
  refine Same.ite .refl (Same.of_puts fun f hf c hc => ?_)
  have haddr : f.addr = 0x50010010 + n % 256 * 0x100 ∧ f.lo < 32 := by
    simp only [List.mem_cons, List.not_mem_nil, or_false] at hf
    rcases hf with rfl | rfl <;> exact ⟨rfl, by simp [F.BERTH_CFG_EN, F.BERTH_CFG_SIG]⟩
  have hother : c.1.addr ≠ 0x50010010 + n % 256 * 0x100 ∧ c.1.lo < 32 := by
    simp only [List.mem_cons, List.not_mem_nil, or_false] at hc
    rcases hc with rfl | rfl | rfl | rfl | rfl | rfl | rfl | rfl | rfl | rfl | rfl | rfl | rfl | rfl | rfl | rfl <;>
      simp [F.BERTH_ARMS_EL, F.BERTH_ARMS_VEVL, F.BERTH_INTEG_COH, F.BERTH_INTEG_WIPE, F.BERTH_INTEG_NWIN,
        F.BERTH_LOOP_PLL_BW, F.BERTH_LOOP_PLL_OPEN, F.BERTH_LOOP_FLL_BW, F.BERTH_LOOP_FLL_OPEN, F.BERTH_LOOP_DLL_BW,
        F.BERTH_LOOP_DLL_OPEN, F.BERTH_LOOP_CAID, F.BERTH_LOOP_PLL_ORD, F.BERTH_LOCK_LOCK_THR, F.BERTH_LOCK_PLOCK_THR,
        F.BERTH_LOCK_LOSS_MS]
  simp only [Fld.key]
  omega

/-- The marks of a berth's signal leave the signal and the berth's enable. -/
theorem State.markSignal_same (s : State) (n : Nat) : Same [F.BERTH_CFG_EN n, F.BERTH_CFG_SIG n] s (s.markSignal n) := by
  have hmark : ∀ a b : Bool, Same [F.BERTH_CFG_EN n, F.BERTH_CFG_SIG n] s ((s.flag (F.BERTH_CFG_PAIR n) a).flag (F.BERTH_CFG_BOC n) b) :=
    fun a b f hf => by
      simp only [List.mem_cons, List.not_mem_nil, or_false] at hf
      unfold State.flag
      rcases hf with rfl | rfl
      · rw [State.get_put_other, State.get_put_other] <;>
          simp only [Fld.key, F.BERTH_CFG_EN, F.BERTH_CFG_PAIR, F.BERTH_CFG_BOC] <;> omega
      · rw [State.get_put_other, State.get_put_other] <;>
          simp only [Fld.key, F.BERTH_CFG_SIG, F.BERTH_CFG_PAIR, F.BERTH_CFG_BOC] <;> omega
  exact (hmark _ _).trans (State.deriveBerth_same _ n)

/-- The enable and the signal of a berth differ in their keys. -/
theorem berth_cfg_keys (n : Nat) : (F.BERTH_CFG_EN n).key ≠ (F.BERTH_CFG_SIG n).key ∧ (F.BERTH_CFG_EN n).key ≠ (F.BERTH_CFG_SVN n).key ∧
    (F.BERTH_CFG_EN n).key ≠ (F.BERTH_CFG_GLO_K n).key ∧ (F.BERTH_CFG_SIG n).key ≠ (F.BERTH_CFG_SVN n).key ∧
    (F.BERTH_CFG_SIG n).key ≠ (F.BERTH_CFG_GLO_K n).key ∧ (F.BERTH_CFG_EN n).key ≠ (F.BERTH_STAT_STATE n).key ∧
    (F.BERTH_CFG_SIG n).key ≠ (F.BERTH_STAT_STATE n).key := by
  simp only [Fld.key, F.BERTH_CFG_EN, F.BERTH_CFG_SIG, F.BERTH_CFG_SVN, F.BERTH_CFG_GLO_K, F.BERTH_STAT_STATE]
  omega

/-- A berth that is off takes a signal at once, and stays off. -/
theorem State.setSignal_of_off {s : State} {n g : Nat} (he : s.on (F.BERTH_CFG_EN n) = false) (hg : g < 14) (svn k : Nat) :
    Frame [.rBerth, .gnss] s (s.setSignal n g svn k) ∧ (s.setSignal n g svn k).get (F.BERTH_CFG_SIG n) = g ∧
      (s.setSignal n g svn k).on (F.BERTH_CFG_EN n) = false := by
  obtain ⟨h1, h2, h3, h4, h5, -, -⟩ := berth_cfg_keys n
  have hmod : ∀ (t : State) (m : Nat) (f : BerthState → BerthState), Frame [.rBerth, .gnss] t (t.modBerth m f) := fun t m f =>
    State.modBerth_frame.mono rfl
  unfold State.setSignal
  dsimp only
  split
  case isTrue h => exact ⟨hmod _ _ _, (Prod.mk.inj h.1).1.symm, he⟩
  case isFalse h =>
    rw [if_pos (by rw [he]; rfl)]
    generalize ht : (s.modBerth n fun b => { b with next := some (g, svn, k), hand := none }) = t
    have hst : Frame [.rBerth, .gnss] s t := ht ▸ hmod _ _ _
    have hen : t.get (F.BERTH_CFG_EN n) = s.get (F.BERTH_CFG_EN n) := by rw [← ht]; rfl
    have hsignal : t.signalOf n = (g, svn, k) := by
      unfold State.signalOf
      rw [← ht, State.modBerth, State.berth_setBerth_same]
      rfl
    have hland : t.landSignal n = (((t.modBerth n fun b => { b with next := none }).puts
        [(F.BERTH_CFG_SIG n, g), (F.BERTH_CFG_SVN n, svn), (F.BERTH_CFG_GLO_K n, k)]).markSignal n) := by
      unfold State.landSignal; rw [hsignal]
    have hmark := State.markSignal_same ((t.modBerth n fun b => { b with next := none }).puts
        [(F.BERTH_CFG_SIG n, g), (F.BERTH_CFG_SVN n, svn), (F.BERTH_CFG_GLO_K n, k)]) n
    have hget : ∀ (u : State) (f : BerthState → BerthState) (d : Fld), (u.modBerth n f).get d = u.get d := fun _ _ _ => rfl
    refine ⟨(hst.trans (State.landSignal_frame.mono rfl)).trans (hmod _ _ _), ?_, State.on_eq_false_iff.2 ?_⟩
    · rw [hget, hland, hmark _ (by simp)]
      refine (State.get_put_other _ _ h5).trans ((State.get_put_other _ _ h4).trans ((State.get_put_same _ _ _).trans ?_))
      exact Nat.mod_eq_of_lt (show g < 16 by omega)
    · rw [hget, hland, hmark _ (by simp)]
      refine (State.get_put_other _ _ h3).trans ((State.get_put_other _ _ h2).trans ((State.get_put_other _ _ h1).trans ?_))
      exact hen.trans (State.on_eq_false_iff.1 he)

/-- A berth that is off is on once it is enabled, with the signal that it has. -/
theorem State.enableBerth_of_off {s : State} {n : Nat} (he : s.on (F.BERTH_CFG_EN n) = false) :
    (s.enableBerth n).on (F.BERTH_CFG_EN n) = true ∧ (s.enableBerth n).get (F.BERTH_CFG_SIG n) = s.get (F.BERTH_CFG_SIG n) := by
  obtain ⟨h1, -, -, -, -, h6, h7⟩ := berth_cfg_keys n
  unfold State.enableBerth
  rw [if_neg (by rw [he]; exact Bool.false_ne_true)]
  generalize ht : State.needDomain _ 6 = t
  have hsig : t.get (F.BERTH_CFG_SIG n) = s.get (F.BERTH_CFG_SIG n) := by
    rw [← ht]
    exact State.needDomain_frame.get F.BERTH_CFG_SIG_part rfl
  have hmark := State.markSignal_same ((t.put (F.BERTH_CFG_EN n) 1).put (F.BERTH_STAT_STATE n) 1) n
  refine ⟨?_, ?_⟩
  · unfold State.on
    rw [hmark _ (by simp), State.get_put_other _ _ h6, State.get_put_same]
    rfl
  · rw [hmark _ (by simp), State.get_put_other _ _ h7, State.get_put_other _ _ (Ne.symm h1), hsig]

/-- What binding an entry to a berth that is off leaves: the entry names the berth, which is on and has the entry's signal. -/
theorem State.bindEntry_of_off {s : State} {i j n : Nat} (he : s.on (F.BERTH_CFG_EN n) = false) (hn : n < 256)
    (hg : s.get (F.PLAN_SLOT_A_SIG i j) < 14) (rank : Nat) :
    (s.bindEntry i j n rank).get (F.PLAN_SLOT_A_SIG i j) = s.get (F.PLAN_SLOT_A_SIG i j) ∧
    (s.bindEntry i j n rank).get (F.PLAN_SLOT_A_BERTH i j) = n ∧ (s.bindEntry i j n rank).on (F.BERTH_CFG_EN n) = true ∧
    (s.bindEntry i j n rank).get (F.BERTH_CFG_SIG n) = s.get (F.PLAN_SLOT_A_SIG i j) := by
  have hkeys : (F.PLAN_SLOT_A_SIG i j).key ≠ (F.PLAN_SLOT_A_BERTH i j).key ∧ (F.PLAN_SLOT_A_SIG i j).key ≠ (F.PLAN_SLOT_A_STATE i j).key ∧
      (F.PLAN_SLOT_A_BERTH i j).key ≠ (F.PLAN_SLOT_A_STATE i j).key := by
    simp only [Fld.key, F.PLAN_SLOT_A_SIG, F.PLAN_SLOT_A_BERTH, F.PLAN_SLOT_A_STATE]; omega
  obtain ⟨k1, k2, k3⟩ := hkeys
  generalize ht : ((s.put (F.PLAN_SLOT_A_BERTH i j) n).put (F.PLAN_SLOT_A_STATE i j) 1) = t
  have hplan : Frame [.rPlan] s t := by
    rw [← ht]
    exact (State.put_frame F.PLAN_SLOT_A_BERTH_part rfl).trans (State.put_frame F.PLAN_SLOT_A_STATE_part rfl)
  have hoff : t.on (F.BERTH_CFG_EN n) = false := by
    unfold State.on; rw [hplan.get F.BERTH_CFG_EN_part rfl]; exact he
  have hsig : t.get (F.PLAN_SLOT_A_SIG i j) = s.get (F.PLAN_SLOT_A_SIG i j) := by
    rw [← ht, State.get_put_other _ _ k2, State.get_put_other _ _ k1]
  have hberth : t.get (F.PLAN_SLOT_A_BERTH i j) = n := by
    rw [← ht, State.get_put_other _ _ k3, State.get_put_same]
    exact Nat.mod_eq_of_lt (by simp only [F.PLAN_SLOT_A_BERTH]; omega)
  obtain ⟨hf, hgs, hen⟩ := State.setSignal_of_off hoff hg (s.get (F.PLAN_SLOT_SV_SVN i)) (s.get (F.PLAN_SLOT_SV_GLO_K i))
  generalize hv : (t.setSignal n (s.get (F.PLAN_SLOT_A_SIG i j)) (s.get (F.PLAN_SLOT_SV_SVN i)) (s.get (F.PLAN_SLOT_SV_GLO_K i))) = v at *
  obtain ⟨hon, hkeep⟩ := State.enableBerth_of_off hen
  have hw : ∃ w, s.bindEntry i j n rank = w ∧ Frame [.rLookout, .gnss] (v.enableBerth n) w := by
    refine ⟨_, rfl, ?_⟩
    unfold State.bindEntry
    dsimp only
    rw [ht, hv]
    exact .ite State.queueSearch_frame .refl
  obtain ⟨w, hbw, hw⟩ := hw
  rw [hbw]
  refine ⟨?_, ?_, ?_, ?_⟩
  · exact (hw.get F.PLAN_SLOT_A_SIG_part rfl).trans ((State.enableBerth_frame.get F.PLAN_SLOT_A_SIG_part rfl).trans
      ((hf.get F.PLAN_SLOT_A_SIG_part rfl).trans hsig))
  · exact (hw.get F.PLAN_SLOT_A_BERTH_part rfl).trans ((State.enableBerth_frame.get F.PLAN_SLOT_A_BERTH_part rfl).trans
      ((hf.get F.PLAN_SLOT_A_BERTH_part rfl).trans hberth))
  · exact (congrArg (· != 0) (hw.get F.BERTH_CFG_EN_part rfl)).trans hon
  · exact (hw.get F.BERTH_CFG_SIG_part rfl).trans (hkeep.trans hgs)

/-- An assignment to the first, empty entry of a slot, of a berth that is off and that no entry names, binds it. -/
theorem State.setEntry_of_off {s : State} {i g n : Nat} (he : s.on (F.BERTH_CFG_EN n) = false) (hn : n < 256) (hg : g < 14)
    (hfree : 256 ≤ s.get (F.PLAN_SLOT_A_BERTH i 0)) (hnone : ∀ p ∈ planPlaces, s.get (F.PLAN_SLOT_A_BERTH p.1 p.2) ≠ n)
    (hmay : s.mayBind i 0 g n = true) :
    (s.setEntry i 0 g n).get (F.PLAN_SLOT_A_SIG i 0) = g ∧ (s.setEntry i 0 g n).get (F.PLAN_SLOT_A_BERTH i 0) = n ∧
    (s.setEntry i 0 g n).on (F.BERTH_CFG_EN n) = true ∧ (s.setEntry i 0 g n).get (F.BERTH_CFG_SIG n) = g := by
  have hbound : s.bound (i, 0) = false := by
    unfold State.bound
    rw [decide_eq_false (by simpa using hfree)]
    rfl
  have hgone : (planPlaces.filter fun p => p != (i, 0) && s.get (F.PLAN_SLOT_A_BERTH p.1 p.2) == n) = [] :=
    List.filter_eq_nil_iff.2 fun p hp => by
      rw [beq_eq_false_iff_ne.2 (hnone p hp), Bool.and_false]
      exact Bool.false_ne_true
  have hset : s.setEntry i 0 g n = (s.puts [(F.PLAN_SLOT_A_SIG i 0, g), (F.PLAN_SLOT_A_BERTH i 0, n)]).bindEntry i 0 n
      ((s.puts [(F.PLAN_SLOT_A_SIG i 0, g), (F.PLAN_SLOT_A_BERTH i 0, n)]).rankOf n) := by
    unfold State.setEntry
    dsimp only
    rw [hbound, hmay, hgone]
    simp [hn]
  rw [hset]
  generalize ht : s.puts [(F.PLAN_SLOT_A_SIG i 0, g), (F.PLAN_SLOT_A_BERTH i 0, n)] = t
  have hplan : Frame [.rPlan] s t := by
    rw [← ht]
    exact State.puts_cons_frame F.PLAN_SLOT_A_SIG_part rfl (State.puts_cons_frame F.PLAN_SLOT_A_BERTH_part rfl State.puts_nil_frame)
  have hoff : t.on (F.BERTH_CFG_EN n) = false := by
    unfold State.on; rw [hplan.get F.BERTH_CFG_EN_part rfl]; exact he
  have hsig : t.get (F.PLAN_SLOT_A_SIG i 0) = g := by
    rw [← ht]
    simp only [State.puts]
    rw [State.get_put_other, State.get_put_same]
    · exact Nat.mod_eq_of_lt (by simp only [F.PLAN_SLOT_A_SIG]; omega)
    · simp only [Fld.key, F.PLAN_SLOT_A_SIG, F.PLAN_SLOT_A_BERTH]; omega
  have hb := State.bindEntry_of_off hoff hn (by rw [hsig]; exact hg) (t.rankOf n) (i := i) (j := 0)
  rwa [hsig] at hb

end Sys2Proof.Machine

namespace Sys2Proof

open Sys2Proof.Machine

/-- The first of the three entries of a slot with a signal. -/
theorem find_entry {s : State} {i g : Nat} (j : Fin 3) (h : s.get (F.PLAN_SLOT_A_SIG i j) = g)
    (hk : ∀ k : Fin 3, k < j → s.get (F.PLAN_SLOT_A_SIG i k) ≠ g) :
    ([0, 1, 2].find? fun j => s.get (F.PLAN_SLOT_A_SIG i j) == g) = some j.val := by
  match j with
  | 0 => simp [show s.get (F.PLAN_SLOT_A_SIG i 0) = g from h]
  | 1 => simp [show s.get (F.PLAN_SLOT_A_SIG i 1) = g from h, show s.get (F.PLAN_SLOT_A_SIG i 0) ≠ g from hk 0 (by decide)]
  | 2 => simp [show s.get (F.PLAN_SLOT_A_SIG i 2) = g from h, show s.get (F.PLAN_SLOT_A_SIG i 0) ≠ g from hk 0 (by decide),
      show s.get (F.PLAN_SLOT_A_SIG i 1) ≠ g from hk 1 (by decide)]

theorem find_entry_none {s : State} {i g : Nat} (h : ∀ k : Fin 3, s.get (F.PLAN_SLOT_A_SIG i k) ≠ g) :
    ([0, 1, 2].find? fun j => s.get (F.PLAN_SLOT_A_SIG i j) == g) = none := by
  simp [show s.get (F.PLAN_SLOT_A_SIG i 0) ≠ g from h 0, show s.get (F.PLAN_SLOT_A_SIG i 1) ≠ g from h 1,
    show s.get (F.PLAN_SLOT_A_SIG i 2) ≠ g from h 2]

section

variable {x : Sess} {i : Fin 128} {sig : Fin 14} {n : Fin 256} {s : State}

theorem planAssign_eq (h : accepts s x { planCmd with expert := true } = true) :
    exec (.planAssign x i sig n) s = .next (
      if !s.slotUsed i then s.er x 230
      else if Sig.sys sig ≠ s.get (F.PLAN_SLOT_SV_SYS i) then s.er x 120
      else if s.owner (.berth n) == .app then s.er x 210
      else
        match ([0, 1, 2].find? fun j => s.get (F.PLAN_SLOT_A_SIG i j) == sig.val).or
          ([0, 1, 2].find? fun j => s.get (F.PLAN_SLOT_A_SIG i j) == 15) with
        | none => s.er x 320
        | some j => (s.setEntry i j sig n).ok x) :=
  congrArg Host.Outcome.next (run_accepts h _)

/-- PLAN ASSIGN of a signal of the slot's system to a berth of the console's. -/
theorem planAssign_of_fit (h : accepts s x { planCmd with expert := true } = true) (hu : s.slotUsed i = true)
    (hs : Sig.sys sig = s.get (F.PLAN_SLOT_SV_SYS i)) (ho : s.owner (.berth n) = .console) {r : Option Nat}
    (hr : ([0, 1, 2].find? fun j => s.get (F.PLAN_SLOT_A_SIG i j) == sig.val).or
      ([0, 1, 2].find? fun j => s.get (F.PLAN_SLOT_A_SIG i j) == 15) = r) :
    exec (.planAssign x i sig n) s = .next (r.elim (s.er x 320) fun j => (s.setEntry i j sig n).ok x) := by
  rw [planAssign_eq h, if_neg (by rw [hu]; decide), if_neg (not_not_intro hs), if_neg (by rw [ho]; decide), hr]
  cases r <;> rfl

/-- Without an entry of the signal's, the first free entry takes it. -/
theorem planAssign_of_free (h : accepts s x { planCmd with expert := true } = true) (hu : s.slotUsed i = true)
    (hs : Sig.sys sig = s.get (F.PLAN_SLOT_SV_SYS i)) (ho : s.owner (.berth n) = .console) {j : Fin 3}
    (hno : ∀ k : Fin 3, s.get (F.PLAN_SLOT_A_SIG i k) ≠ sig) (hj : s.get (F.PLAN_SLOT_A_SIG i j) = 15)
    (hk : ∀ k : Fin 3, k < j → s.get (F.PLAN_SLOT_A_SIG i k) ≠ 15) :
    exec (.planAssign x i sig n) s = .next ((s.setEntry i j sig n).ok x) := by
  refine planAssign_of_fit h hu hs ho (r := some j.val) ?_
  rw [find_entry_none hno, find_entry j hj hk]
  rfl

theorem berthBlock_fin (n : Fin 256) : berthBlock n = .berth n :=
  congrArg Block.berth (Fin.ext (Nat.mod_eq_of_lt n.isLt))

/-- PLAN ASSIGN of a slot without signals and a berth that is off and free binds them. -/
theorem planAssign_binds (h : accepts s x { planCmd with expert := true } = true) (hu : s.slotUsed i = true)
    (hs : Sig.sys sig = s.get (F.PLAN_SLOT_SV_SYS i)) (ho : s.owner (.berth n) = .console) (hm : s.mode ≠ 6)
    (hempty : ∀ j : Fin 3, s.get (F.PLAN_SLOT_A_SIG i j) = 15) (hoff : s.on (F.BERTH_CFG_EN n) = false)
    (hnone : ∀ (l : Fin 128) (j : Fin 3), s.get (F.PLAN_SLOT_A_BERTH l j) ≠ n) (hfree : 256 ≤ s.get (F.PLAN_SLOT_A_BERTH i 0)) :
    ∃ t : State, exec (.planAssign x i sig n) s = .next (t.ok x) ∧ t.get (F.PLAN_SLOT_A_SIG i 0) = sig ∧
      t.get (F.PLAN_SLOT_A_BERTH i 0) = n ∧ t.on (F.BERTH_CFG_EN n) = true ∧ t.get (F.BERTH_CFG_SIG n) = sig := by
  have hmay : s.mayBind i 0 sig n = true := by
    unfold State.mayBind State.consoleOwns State.heritageRoom
    rw [berthBlock_fin, ho, hs]
    simp [hm]
  have hplaces : ∀ p ∈ planPlaces, s.get (F.PLAN_SLOT_A_BERTH p.1 p.2) ≠ n := fun p hp => by
    obtain ⟨l, hl, hp⟩ := List.mem_flatMap.1 hp
    have hl := List.mem_range.1 hl
    simp only [List.mem_cons, List.not_mem_nil, or_false] at hp
    rcases hp with rfl | rfl | rfl
    · exact hnone ⟨l, hl⟩ 0
    · exact hnone ⟨l, hl⟩ 1
    · exact hnone ⟨l, hl⟩ 2
  refine ⟨_, planAssign_of_free h hu hs ho (j := 0) (fun k => ?_) (hempty 0) (fun k hk => absurd hk (by simp)),
    State.setEntry_of_off hoff n.isLt sig.isLt hfree hplaces hmay⟩
  rw [hempty k]
  omega

end

/-- Settles O14: PLAN ASSIGN sets the entry that `find_entry` names; a replan with nothing in view empties every slot. -/
theorem signalPlan : Obligations.SignalPlan := by
  unfold Obligations.SignalPlan
  have body := fun {s : State} {x : Sess} {i : CmdInfo} (h : accepts s x i = true) (f : State → State) =>
    congrArg (Host.Outcome.next (φ := Fault) (ρ := Refusal)) (run_accepts h f)
  refine ⟨fun x sys on s h => ⟨fun hs => ⟨_, (body h _).trans (congrArg Host.Outcome.next (if_neg ?sysOk)), ?sysGet⟩, fun hh hs =>
      (body h _).trans (congrArg Host.Outcome.next (if_pos (by rw [hh]; simpa using hs)))⟩,
    fun x deg s h => ⟨fun hd => ⟨_, (body h _).trans (congrArg Host.Outcome.next (if_pos hd)), ?elev⟩, fun hd =>
      (body h _).trans (congrArg Host.Outcome.next (if_neg (Nat.not_le.2 hd)))⟩,
    fun x s h => ⟨fun i => ⟨body h _, fun hu => if_neg (by rw [hu]; exact Bool.false_ne_true)⟩, body h _⟩,
    fun x i sig n s h => ⟨fun hu => ?empty, fun hu hs => ?system, fun hu hs => ⟨fun ho => ?app, fun ho =>
      ⟨fun hno => ?full, fun j hj hk => ?here, fun j hno hj hk => planAssign_of_free h hu hs ho hno hj hk,
        fun hm he hoff hnone hfree => planAssign_binds h hu hs ho hm he hoff hnone hfree⟩⟩⟩,
    fun s he hd => ⟨_, rfl, fun i => State.replan_nil he hd i i.isLt⟩,
    fun v s hn => congrArg Host.Outcome.next (if_pos ?late)⟩
  case sysOk =>
    cases hh : s.console.heritage with
    | false => exact Bool.false_ne_true
    | true => rw [List.contains_iff_mem.2 (hs hh)]; decide
  case sysGet => exact (State.get_put_same _ _ _).trans rfl
  case elev => exact (State.get_put_same _ _ _).trans (Nat.mod_eq_of_lt (by simp only [F.PLAN_CFG_ELEV]; omega))
  case empty => exact (planAssign_eq h).trans (congrArg Host.Outcome.next (if_pos (by rw [hu]; rfl)))
  case system => exact (planAssign_eq h).trans (congrArg Host.Outcome.next ((if_neg (by rw [hu]; decide)).trans (if_pos hs)))
  case app =>
    exact (planAssign_eq h).trans (congrArg Host.Outcome.next ((if_neg (by rw [hu]; decide)).trans
      ((if_neg (not_not_intro hs)).trans (if_pos (by rw [ho]; rfl)))))
  case full =>
    refine planAssign_of_fit h hu hs ho (r := none) ?_
    rw [find_entry_none fun k => (hno k).2, find_entry_none fun k => (hno k).1]
    rfl
  case here =>
    refine planAssign_of_fit h hu hs ho (r := some j.val) ?_
    rw [find_entry j hj hk]
    rfl
  case late =>
    rcases hn with hn | hn <;> rw [hn] <;> simp

end Sys2Proof

/-! PROOF. The lookout: lanes, recordings, snapshots and aids (O15). -/

namespace Sys2Proof.Machine

/-! The registers of a lane. -/

/-- Another field of the lane's command word, or of another word, than its state. -/
theorem laneState_key (l : Nat) : (F.LOOKOUT_LANE_CMD_STATE l).key = (0x50003110 + l % 16 * 32) * 32 + 13 := rfl

theorem laneErr_key (l : Nat) : (F.LOOKOUT_LANE_CMD_ERR l).key = (0x50003110 + l % 16 * 32) * 32 + 15 := rfl

/-- What is reported of the searches lies outside the lanes. -/
theorem State.reportSearch_get (s : State) {f : Fld} (h : 0x50003015 * 32 ≤ f.key) : s.reportSearch.get f = s.get f := by
  have hq : F.LOOKOUT_STAT_QUEUED.key < 0x50003015 * 32 := by decide
  have hb : F.LOOKOUT_STAT_BUSY.key < 0x50003015 * 32 := by decide
  exact (State.get_put_other _ _ (by omega)).trans (State.get_put_other _ _ (by omega))

@[simp] theorem State.reportSearch_gnss (s : State) : s.reportSearch.gnss = s.gnss := rfl

/-- A search that fails leaves its lane idle with ERR set. -/
theorem State.failLane_spec (s : State) (l : Nat) : (s.failLane l).on (F.LOOKOUT_LANE_CMD_ERR l) = true ∧
    (s.failLane l).laneRuns l = false ∧ (s.failLane l).gnss = s.gnss := by
  have he := laneErr_key l
  have hs := laneState_key l
  refine ⟨?_, ?_, rfl⟩
  · show ((s.put _ 0).put (F.LOOKOUT_LANE_CMD_ERR l) 1).on (F.LOOKOUT_LANE_CMD_ERR l) = true
    unfold State.on
    rw [State.get_put_same]; rfl
  · show (((s.put (F.LOOKOUT_LANE_CMD_STATE l) 0).put (F.LOOKOUT_LANE_CMD_ERR l) 1).get (F.LOOKOUT_LANE_CMD_STATE l) == 1) = false
    rw [State.get_put_other _ _ (by omega), State.get_put_same]; rfl

/-- A search that runs. -/
theorem State.runLane_spec {s : State} {l : Nat} (h : s.laneBroken l = false) (q : Search) :
    (s.runLane l q).laneRuns l = true ∧ (s.runLane l q).on (F.LOOKOUT_LANE_CMD_ERR l) = false ∧
      (s.runLane l q).gnss.queue = s.gnss.queue := by
  have he := laneErr_key l
  have hs := laneState_key l
  have hrun : s.runLane l q = ((s.puts [(F.LOOKOUT_LANE_CMD_STATE l, 1), (F.LOOKOUT_LANE_CMD_ERR l, 0)]).withGnss fun g =>
      { g with lanes := (g.lanes.filter fun x => x.1 != l) ++ [(l, { q with left := s.laneTime l })] }).reportSearch := by
    unfold State.runLane
    exact if_neg (by rw [h]; exact Bool.false_ne_true)
  rw [hrun]
  refine ⟨?_, State.on_eq_false_iff.2 ?_, rfl⟩
  · unfold State.laneRuns
    rw [State.reportSearch_get _ (by omega)]
    show (((s.put (F.LOOKOUT_LANE_CMD_STATE l) 1).put (F.LOOKOUT_LANE_CMD_ERR l) 0).get (F.LOOKOUT_LANE_CMD_STATE l) == 1) = true
    rw [State.get_put_other _ _ (by omega), State.get_put_same]; rfl
  · rw [State.reportSearch_get _ (by omega)]
    show ((s.put (F.LOOKOUT_LANE_CMD_STATE l) 1).put (F.LOOKOUT_LANE_CMD_ERR l) 0).get (F.LOOKOUT_LANE_CMD_ERR l) = 0
    rw [State.get_put_same]; rfl

/-- A search that runs in a receiver whose waiting searches were set to the rest. -/
theorem State.runLane_dequeued {s : State} {l : Nat} (h : s.laneBroken l = false) (q : Search) (r : List Search) :
    ((s.withGnss fun g => { g with queue := r }).runLane l q).laneRuns l = true ∧
      ((s.withGnss fun g => { g with queue := r }).runLane l q).gnss.queue = r := by
  have hb : (s.withGnss fun g => { g with queue := r }).laneBroken l = false := h
  obtain ⟨hrun, -, hqueue⟩ := State.runLane_spec hb q
  exact ⟨hrun, hqueue⟩

/-- A broken search does not run. -/
theorem State.runLane_broken {s : State} {l : Nat} (h : s.laneBroken l = true) (q : Search) : s.runLane l q = s.failLane l := by
  unfold State.runLane
  exact if_pos h

/-- A lane that is left has the state it is left in, and is searched no more. -/
theorem State.leaveLane_spec (s : State) (l : Nat) {v : Nat} (hv : v < 4) :
    (s.leaveLane l v).get (F.LOOKOUT_LANE_CMD_STATE l) = v ∧ (s.leaveLane l v).gnss.lanes = s.gnss.lanes.filter fun x => x.1 != l := by
  have hs := laneState_key l
  refine ⟨?_, rfl⟩
  unfold State.leaveLane
  rw [State.reportSearch_get _ (by omega)]
  show (s.put (F.LOOKOUT_LANE_CMD_STATE l) v).get (F.LOOKOUT_LANE_CMD_STATE l) = v
  rw [State.get_put_same]
  exact Nat.mod_eq_of_lt hv

theorem State.queueSearch_get (s : State) (q : Search) {f : Fld} (h : 0x50003015 * 32 ≤ f.key) : (s.queueSearch q).get f = s.get f := by
  unfold State.queueSearch
  split
  · exact State.reportSearch_get _ h
  · rfl

/-- The handoff of a detection leaves the lane's registers. -/
theorem State.handOff_get (s : State) (l : Nat) (q : Search) (p : Peak) {f : Fld} (h : 0x50003100 * 32 ≤ f.key) :
    (s.handOff l q p).get f = s.get f := by
  have hc : F.LOOKOUT_CNT_DROPPED.key < 0x50003100 * 32 := by decide
  unfold State.handOff
  dsimp only
  split
  · rfl
  · exact State.get_put_other _ _ (by omega)

/-- The registers of a peak that was found. -/
theorem State.foundPeak_spec (s : State) (l seg : Nat) (p : Peak) :
    let t := ((s.leaveLane l 2).puts [(F.LOOKOUT_LANE_CODE_PHASE l, p.phase.toNat), (F.LOOKOUT_LANE_CODE_SEG l, seg),
      (F.LOOKOUT_LANE_PEAK_RATIO l, p.ratio.toNat)]).putS (F.LOOKOUT_LANE_PEAK_DOPPLER l) p.dop
    t.get (F.LOOKOUT_LANE_CMD_STATE l) = 2 ∧ t.get (F.LOOKOUT_LANE_CODE_PHASE l) = p.phase.toNat ∧
      t.get (F.LOOKOUT_LANE_PEAK_RATIO l) = p.ratio.toNat := by
  have keys : (F.LOOKOUT_LANE_CODE_PHASE l).key = (0x50003108 + l % 16 * 32) * 32 + 0 ∧
      (F.LOOKOUT_LANE_CODE_SEG l).key = (0x50003108 + l % 16 * 32) * 32 + 16 ∧
      (F.LOOKOUT_LANE_PEAK_DOPPLER l).key = (0x5000310c + l % 16 * 32) * 32 + 0 ∧
      (F.LOOKOUT_LANE_PEAK_RATIO l).key = (0x5000310c + l % 16 * 32) * 32 + 16 := ⟨rfl, rfl, rfl, rfl⟩
  obtain ⟨k1, k2, k3, k4⟩ := keys
  have hs := laneState_key l
  refine ⟨?_, ?_, ?_⟩
  · refine (State.get_put_other _ _ (by omega)).trans ((State.get_put_other _ _ (by omega)).trans ((State.get_put_other _ _ (by omega)).trans
      ((State.get_put_other _ _ (by omega)).trans (s.leaveLane_spec l (by decide)).1)))
  · refine (State.get_put_other _ _ (by omega)).trans ((State.get_put_other _ _ (by omega)).trans ((State.get_put_other _ _ (by omega)).trans
      ((State.get_put_same _ _ _).trans (Nat.mod_eq_of_lt p.phase.isLt))))
  · refine (State.get_put_other _ _ (by omega)).trans ((State.get_put_same _ _ _).trans (Nat.mod_eq_of_lt p.ratio.isLt))

/-- And after its handoff, where the lane asks for one. -/
theorem State.handedPeak_spec (s : State) (l seg : Nat) (q : Search) (p : Peak) :
    let u := ((s.leaveLane l 2).puts [(F.LOOKOUT_LANE_CODE_PHASE l, p.phase.toNat), (F.LOOKOUT_LANE_CODE_SEG l, seg),
      (F.LOOKOUT_LANE_PEAK_RATIO l, p.ratio.toNat)]).putS (F.LOOKOUT_LANE_PEAK_DOPPLER l) p.dop
    let t := if u.on (F.LOOKOUT_LANE_CMD_HANDOFF l) then u.handOff l q p else u
    t.get (F.LOOKOUT_LANE_CMD_STATE l) = 2 ∧ t.get (F.LOOKOUT_LANE_CODE_PHASE l) = p.phase.toNat ∧
      t.get (F.LOOKOUT_LANE_PEAK_RATIO l) = p.ratio.toNat := by
  obtain ⟨h1, h2, h3⟩ := s.foundPeak_spec l seg p
  dsimp only
  split
  · rw [State.handOff_get _ _ _ _ (by simp only [Fld.key, F.LOOKOUT_LANE_CMD_STATE]; omega),
      State.handOff_get _ _ _ _ (by simp only [Fld.key, F.LOOKOUT_LANE_CODE_PHASE]; omega),
      State.handOff_get _ _ _ _ (by simp only [Fld.key, F.LOOKOUT_LANE_PEAK_RATIO]; omega)]
    exact ⟨h1, h2, h3⟩
  · exact ⟨h1, h2, h3⟩

/-- Writing bytes leaves the receiver's state alone. -/
theorem State.foldl_setBytes_gnss {β : Type} (a : β → Nat) (b : β → List Byte) (l : List β) (s : State) :
    (l.foldl (fun t d => t.setBytes (a d) (b d)) s).gnss = s.gnss := by
  induction l generalizing s with
  | nil => rfl
  | cons d r ih => exact (ih _).trans (State.setBytes_frame.same .gnss rfl)

/-- What the start of a capture leaves. -/
theorem State.startCapture_spec (s : State) : s.startCapture.on F.LOOKOUT_SNAP_BUSY = true ∧ s.startCapture.get F.LOOKOUT_SNAP_VALID = 0 ∧
    s.startCapture.get F.LOOKOUT_SNAP_MS = s.get F.LOOKOUT_SNAP_MS ∧
    s.startCapture.gnss.capture = some (s.get F.LOOKOUT_SNAP_MS, s.tide.now, s.get F.TIDE_STAT_STATE) := by
  have keep : ∀ (t : State) (f : Fld), f.part = .rLookout → t.deriveMode.get f = t.get f := fun t f hf => State.deriveMode_frame.get hf rfl
  unfold State.startCapture
  refine ⟨?_, ?_, ?_, ?_⟩
  · unfold State.on
    rw [keep _ _ F.LOOKOUT_SNAP_BUSY_part]
    refine congrArg (· != 0) ((State.get_put_other _ _ (by decide)).trans (State.get_put_same _ _ _))
  · rw [keep _ _ F.LOOKOUT_SNAP_VALID_part]
    exact (State.get_put_same _ _ _).trans rfl
  · rw [keep _ _ F.LOOKOUT_SNAP_MS_part]
    exact (State.get_put_other _ _ (by decide)).trans (State.get_put_other _ _ (by decide))
  · exact congrArg GnssState.capture (State.deriveMode_frame.same .gnss rfl : _ = _)

end Sys2Proof.Machine

namespace Sys2Proof

open Sys2Proof.Machine

section

variable {lane : Fin 16} {s : State}

/-- A free lane in BASIC takes the first signal that waits, or stays idle with its set-up in error. -/
theorem laneAssign_of_free {dop : Int} {unc : Nat} (he : s.expert .lookout = false) (hr : s.laneRuns lane = false)
    (hl : lane.val < s.get F.LOOKOUT_CFG_LANES) (hs : s.searching = true) (hw : s.gnss.window = false) :
    (∀ q r, s.ageQueue.gnss.queue = q :: r → ∃ t : State, exec (.laneAssign lane dop unc) s = .next t ∧
      ((t.laneRuns lane = true ∧ t.gnss.queue = r) ∨
        (t.on (F.LOOKOUT_LANE_CMD_ERR lane) = true ∧ t.laneRuns lane = false ∧ t.gnss.queue = q :: r))) ∧
    (s.ageQueue.gnss.queue = [] → exec (.laneAssign lane dop unc) s = .next s.ageQueue) := by
  have hgo : ¬ (s.expert .lookout || s.laneRuns lane || decide (s.get F.LOOKOUT_CFG_LANES ≤ lane.val) || !s.searching || s.gnss.window) = true := by
    rw [he, hr, decide_eq_false (Nat.not_le.2 hl), hs, hw]; decide
  refine ⟨fun q r hq => ?_, fun hq => ?_⟩
  · show ∃ t, execLaneAssign lane dop unc s = _ ∧ _
    unfold execLaneAssign
    dsimp only
    rw [if_neg hgo, hq]
    dsimp only
    have hkept : ∀ q' p, (s.ageQueue.writeLane lane q' p).gnss = s.ageQueue.gnss := fun _ _ => rfl
    generalize s.ageQueue.laneSetup q dop unc = p
    split
    case isTrue hb =>
      obtain ⟨herr, hidle, hgnss⟩ := State.failLane_spec (s.ageQueue.writeLane lane _ p) lane
      exact ⟨_, rfl, .inr ⟨herr, hidle, (congrArg GnssState.queue (hgnss.trans (hkept _ p))).trans hq⟩⟩
    case isFalse hb =>
      obtain ⟨hrun, hqueue⟩ := State.runLane_dequeued (Bool.eq_false_iff.2 hb) _ r
      exact ⟨_, rfl, .inl ⟨hrun, hqueue⟩⟩
  · refine congrArg Host.Outcome.next ((if_neg hgo).trans ?_)
    dsimp only
    rw [hq]

theorem laneAssign_of_busy {dop : Int} {unc : Nat} (h : s.expert .lookout = true ∨ s.laneRuns lane = true ∨
    s.get F.LOOKOUT_CFG_LANES ≤ lane.val ∨ s.searching = false ∨ s.gnss.window = true) :
    exec (.laneAssign lane dop unc) s = .next s := by
  refine congrArg Host.Outcome.next (if_pos ?_)
  simp only [Bool.or_eq_true, decide_eq_true_eq, Bool.not_eq_true']
  simpa only [or_assoc] using h

theorem laneStart_of_idle {side : Side} (h : opens s side .lookout true = true) (hr : s.laneRuns lane = false) :
    exec (.laneStart side lane) s = .next (s.startLane lane) := by
  show execLaneStart side lane s = _
  unfold execLaneStart
  rw [hr]
  exact congrArg Host.Outcome.next (guardBusy_opens h _ _)

/-- A lane starts the search that its registers spell, unless another lane has the signal. -/
theorem startLane_of_new (h : (s.gnss.lanes.any fun y => y.2.sig == (s.laneSearch lane).sig && y.2.svn == (s.laneSearch lane).svn) = false) :
    s.startLane lane = s.runLane lane (s.laneSearch lane) := by
  unfold State.startLane
  exact if_neg (by rw [h]; exact Bool.false_ne_true)

/-- The search that a lane is in, as its end sees it. -/
theorem laneEnd_eq {peak : Option Peak} (hr : s.laneRuns lane = true) (hb : s.bursts = false) :
    exec (.laneSearchEnd lane peak) s = .next (
      let q := ((s.gnss.lanes.find? fun x => x.1 == lane.val).map (·.2)).getD (s.laneSearch lane)
      match peak.filter fun p =>
        decide (s.get (F.LOOKOUT_LANE_PEAK_LTHRESH lane) < p.ratio.toNat) && !q.excludes p (s.get (F.LOOKOUT_LANE_DOP_STEP lane)) with
      | some p =>
        let s1 := ((s.leaveLane lane 2).puts [(F.LOOKOUT_LANE_CODE_PHASE lane, p.phase.toNat),
          (F.LOOKOUT_LANE_CODE_SEG lane, if q.sig = 3 then p.seg.val else 0), (F.LOOKOUT_LANE_PEAK_RATIO lane, p.ratio.toNat)]).putS
          (F.LOOKOUT_LANE_PEAK_DOPPLER lane) p.dop
        if s1.on (F.LOOKOUT_LANE_CMD_HANDOFF lane) then s1.handOff lane q p else s1
      | none =>
        let s1 := s.leaveLane lane 3
        if s.expert .lookout then s1 else s1.searchOn lane q) :=
  congrArg Host.Outcome.next (if_neg (by rw [hr, hb]; simp))

/-- What holds of every search of a lane, and of the one its registers spell, holds of the one that ends. -/
theorem laneEnd_search {P : Search → Prop} (h : ∀ y ∈ s.gnss.lanes, y.1 = lane.val → P y.2) (h0 : P (s.laneSearch lane)) :
    P (((s.gnss.lanes.find? fun x => x.1 == lane.val).map (·.2)).getD (s.laneSearch lane)) := by
  cases hf : s.gnss.lanes.find? fun x => x.1 == lane.val with
  | none => exact h0
  | some y => exact h y (List.mem_of_find?_eq_some hf) (beq_iff_eq.1 (List.find?_some hf :))

/-- A peak above the threshold is found. -/
theorem laneEnd_found {p : Peak} (hr : s.laneRuns lane = true) (hb : s.bursts = false)
    (hx : ∀ y ∈ s.gnss.lanes, y.1 = lane.val → y.2.excl = none) (hp : s.get (F.LOOKOUT_LANE_PEAK_LTHRESH lane) < p.ratio.toNat) :
    ∃ t : State, exec (.laneSearchEnd lane (some p)) s = .next t ∧ t.get (F.LOOKOUT_LANE_CMD_STATE lane) = 2 ∧
      t.get (F.LOOKOUT_LANE_CODE_PHASE lane) = p.phase.toNat ∧ t.get (F.LOOKOUT_LANE_PEAK_RATIO lane) = p.ratio.toNat := by
  have hexcl := laneEnd_search (P := fun q => q.excl = none) hx rfl
  have hend := laneEnd_eq (peak := some p) hr hb
  dsimp only at hend
  generalize ((s.gnss.lanes.find? fun x => x.1 == lane.val).map (·.2)).getD (s.laneSearch lane) = q at hexcl hend
  have hok : (some p).filter (fun p => decide (s.get (F.LOOKOUT_LANE_PEAK_LTHRESH lane) < p.ratio.toNat) &&
      !q.excludes p (s.get (F.LOOKOUT_LANE_DOP_STEP lane))) = some p := by
    unfold Search.excludes
    rw [hexcl]
    simp [Option.filter, hp]
  rw [hok] at hend
  exact ⟨_, hend, s.handedPeak_spec lane _ q p⟩

/-- No peak, and no deep search to go on with. -/
theorem laneEnd_notFound (hr : s.laneRuns lane = true) (hb : s.bursts = false)
    (hd : s.expert .lookout = true ∨ ∀ y ∈ s.gnss.lanes, y.1 = lane.val → y.2.deep = none) :
    ∃ t : State, exec (.laneSearchEnd lane none) s = .next t ∧ t.get (F.LOOKOUT_LANE_CMD_STATE lane) = 3 := by
  have hleft := (s.leaveLane_spec lane (v := 3) (by decide)).1
  refine ⟨_, laneEnd_eq hr hb, ?_⟩
  show State.get (if s.expert .lookout = true then s.leaveLane lane 3 else (s.leaveLane lane 3).searchOn lane _) _ = 3
  split
  case isTrue => exact hleft
  case isFalse he =>
    have hdeep := laneEnd_search (P := fun q => q.deep = none) (hd.resolve_left he) rfl
    generalize ((s.gnss.lanes.find? fun x => x.1 == lane.val).map (·.2)).getD (s.laneSearch lane) = q at hdeep ⊢
    unfold State.searchOn
    rw [hdeep]
    dsimp only
    split
    · rw [State.queueSearch_get _ _ (by rw [laneState_key]; omega)]; exact hleft
    · exact hleft

/-- A read of CODE. -/
theorem laneCodeRead_spec (side : Side) (lane : Fin 16) (s : State) :
    ∃ t : State, exec (.laneCodeRead side lane) s = .next t ∧ t.busData = BitVec.ofNat 32 (s.get (F.LOOKOUT_LANE_CODE_PHASE lane) +
      s.get (F.LOOKOUT_LANE_CODE_SEG lane) * 65536) ∧
      (side = s.owner .lookout → 2 ≤ s.get (F.LOOKOUT_LANE_CMD_STATE lane) → t.get (F.LOOKOUT_LANE_CMD_STATE lane) = 0) ∧
      (side ≠ s.owner .lookout ∨ s.get (F.LOOKOUT_LANE_CMD_STATE lane) < 2 →
        t.get (F.LOOKOUT_LANE_CMD_STATE lane) = s.get (F.LOOKOUT_LANE_CMD_STATE lane)) := by
  refine ⟨_, rfl, ?_⟩
  unfold State.readLaneCode
  dsimp only
  split
  case isTrue h =>
    exact ⟨rfl, fun _ _ => (State.get_put_same _ _ _).trans rfl, fun hn => hn.elim (absurd h.1) fun hn => absurd h.2 (by omega)⟩
  case isFalse h => exact ⟨rfl, fun ho h2 => absurd ⟨ho, h2⟩ h, fun _ => rfl⟩

/-- A recording that may start notes its sub-bands. -/
theorem bufferRecording_spec (ms : Nat) (data : List (List (BitVec 4 × BitVec 4))) (s : State) :
    (s.neededBands ≠ [] → s.bufferSearch = false → s.searching = true → (s.bursts = true → s.gnss.window = true) →
      ∃ t : State, exec (.bufferRecording ms data) s = .next t ∧
        t.gnss.recording = some (s.neededBands, s.recordMs s.neededBands.length ms)) ∧
    (s.neededBands = [] ∨ s.bufferSearch = true ∨ s.searching = false ∨ (s.bursts = true ∧ s.gnss.window = false) →
      exec (.bufferRecording ms data) s = .next s) := by
  refine ⟨fun hn hb hs hw => ?_, fun h => congrArg Host.Outcome.next (if_pos ?_)⟩
  · refine ⟨_, congrArg Host.Outcome.next (if_neg ?_), ?_⟩
    · rw [hb, hs]
      simp only [Bool.or_false, Bool.not_true, Bool.or_eq_true, List.isEmpty_iff, Bool.and_eq_true, Bool.not_eq_true', not_or, not_and,
        Bool.not_eq_false]
      exact ⟨hn, hw⟩
    · exact congrArg GnssState.recording (State.foldl_setBytes_gnss _ _ _ _)
  · simp only [Bool.or_eq_true, List.isEmpty_iff, Bool.and_eq_true, Bool.not_eq_true']
    simpa only [or_assoc] using h

section

variable {x : Sess} {ms : Nat} (h : accepts s x { block := some .lookout, heritage := true } = true)
include h

theorem gnssSnap_of_beyond (hm : ms < 2 ∨ 125 < ms) : exec (.gnssSnap x ms) s = .next (s.er x 120) :=
  (congrArg Host.Outcome.next (run_accepts h _)).trans (congrArg Host.Outcome.next (if_pos hm))

theorem gnssSnap_of_range (h2 : 2 ≤ ms) (h125 : ms ≤ 125) : exec (.gnssSnap x ms) s = .next (
    if s.mode ≠ 5 ∨ s.on F.LOOKOUT_SNAP_BUSY then s.er x 230 else ((s.put F.LOOKOUT_SNAP_MS ms).startCapture).ok x) :=
  (congrArg Host.Outcome.next (run_accepts h _)).trans (congrArg Host.Outcome.next (if_neg (by omega)))

/-- A capture of the length that was asked for begins. -/
theorem gnssSnap_captures (h2 : 2 ≤ ms) (h125 : ms ≤ 125) (hm : s.mode = 5) (hb : s.on F.LOOKOUT_SNAP_BUSY = false) :
    ∃ t : State, exec (.gnssSnap x ms) s = .next (t.ok x) ∧ t.get F.LOOKOUT_SNAP_MS = ms ∧ t.on F.LOOKOUT_SNAP_BUSY = true ∧
      t.gnss.capture = some (ms, s.tide.now, s.get F.TIDE_STAT_STATE) := by
  have hput : (s.put F.LOOKOUT_SNAP_MS ms).get F.LOOKOUT_SNAP_MS = ms :=
    (State.get_put_same _ _ _).trans (Nat.mod_eq_of_lt (show ms < 128 by omega))
  have hstate : (s.put F.LOOKOUT_SNAP_MS ms).get F.TIDE_STAT_STATE = s.get F.TIDE_STAT_STATE := State.get_put_other _ _ (by decide)
  obtain ⟨hbusy, -, hms, hcap⟩ := (s.put F.LOOKOUT_SNAP_MS ms).startCapture_spec
  refine ⟨_, (gnssSnap_of_range h h2 h125).trans (congrArg Host.Outcome.next (if_neg (by rw [hb]; simp [hm]))), hms.trans hput, hbusy, ?_⟩
  rw [hcap, hput, hstate]
  rfl

end

/-- The end of a capture. -/
theorem snapshotCaptureEnd_spec (samples : List (BitVec 4 × BitVec 4)) (err : Word) (s : State) :
    (∀ c : Nat × Nat × Nat, s.gnss.capture = some c →
      ∃ t : State, exec (.snapshotCaptureEnd samples err) s = .next t ∧ t.gnss.capture = none ∧ t.get F.LOOKOUT_SNAP_BUSY = 0 ∧
        t.get F.LOOKOUT_SNAP_VALID = 1) ∧
    (s.gnss.capture = none → exec (.snapshotCaptureEnd samples err) s = .next s) := by
  refine ⟨fun c hc => ?_, fun hc => ?_⟩
  · show ∃ t, execSnapshotCaptureEnd samples err s = _ ∧ _
    unfold execSnapshotCaptureEnd
    rw [hc]
    dsimp only
    generalize (State.setBytes _ _ _).setBytes _ _ = u
    have keep : ∀ (t : State) (k a b : Nat) (l : List (String × String)) (f : Fld), f.part = .rLookout →
        (t.deriveMode.raiseK k a b l).get f = t.get f := fun t k a b l f hf =>
      (State.raiseK_frame.get hf rfl).trans (State.deriveMode_frame.get hf rfl)
    refine ⟨_, rfl, ?_, ?_, ?_⟩
    · exact (congrArg GnssState.capture (State.raiseK_frame.same .gnss rfl : _ = _)).trans
        (congrArg GnssState.capture (State.deriveMode_frame.same .gnss rfl : _ = _))
    · rw [keep _ _ _ _ _ _ F.LOOKOUT_SNAP_BUSY_part]
      exact (State.get_put_other _ _ (by decide)).trans ((State.get_put_same _ _ _).trans rfl)
    · rw [keep _ _ _ _ _ _ F.LOOKOUT_SNAP_VALID_part]
      exact (State.get_put_same _ _ _).trans rfl
  · show execSnapshotCaptureEnd samples err s = _
    unfold execSnapshotCaptureEnd
    rw [hc]

end

/-- Settles O15: each clause is the case of its command on lanes, recordings, snapshots and aids. -/
theorem lookoutSearchesAndSnapshots : Obligations.LookoutSearchesAndSnapshots := by
  unfold Obligations.LookoutSearchesAndSnapshots
  have body := fun {s : State} {x : Sess} {i : CmdInfo} (h : accepts s x i = true) (f : State → State) =>
    congrArg (Host.Outcome.next (φ := Fault) (ρ := Refusal)) (run_accepts h f)
  refine ⟨fun lane dop unc s => ⟨fun he hr hl hs hw => laneAssign_of_free he hr hl hs hw, laneAssign_of_busy⟩,
    fun side lane s h hr => ⟨fun hb hn => ?start, fun hb hn => ?broken, fun hs => ?same⟩,
    fun side lane s h => ⟨fun hr => ?abort, fun hr => ?idle⟩,
    fun lane s hr hb => ⟨fun p hx hp => laneEnd_found hr hb hx hp, laneEnd_notFound hr hb⟩,
    fun lane p s hr => congrArg Host.Outcome.next (if_pos (by rw [hr]; rfl)), laneCodeRead_spec, bufferRecording_spec,
    fun x ms s h => ⟨gnssSnap_of_beyond h, fun h2 h125 hn => ?snapMode, fun h2 h125 hm hb => gnssSnap_captures h h2 h125 hm hb⟩,
    fun side s h hm hb => ?go, snapshotCaptureEnd_spec, fun side s h => congrArg Host.Outcome.next (guard_opens h _ _),
    fun x a s h => ⟨fun hn => (body h _).trans (congrArg Host.Outcome.next (if_pos hn)), fun hn => ⟨fun hf => ?fix, fun hf => ?aid⟩⟩⟩
  case start =>
    obtain ⟨hrun, herr, -⟩ := State.runLane_spec hb (s.laneSearch lane)
    exact ⟨_, (laneStart_of_idle h hr).trans (congrArg Host.Outcome.next (startLane_of_new hn)), hrun, herr⟩
  case broken =>
    obtain ⟨herr, hidle, -⟩ := s.failLane_spec lane
    exact ⟨_, (laneStart_of_idle h hr).trans (congrArg Host.Outcome.next ((startLane_of_new hn).trans (State.runLane_broken hb _))), hidle, herr⟩
  case same => exact (laneStart_of_idle h hr).trans (congrArg Host.Outcome.next (if_pos hs))
  case abort =>
    exact ⟨_, (congrArg Host.Outcome.next (guard_opens h _ _)).trans (congrArg Host.Outcome.next (if_pos hr)), s.leaveLane_spec lane (by decide)⟩
  case idle =>
    exact (congrArg Host.Outcome.next (guard_opens h _ _)).trans (congrArg Host.Outcome.next (if_neg (by rw [hr]; exact Bool.false_ne_true)))
  case snapMode => exact (gnssSnap_of_range h h2 h125).trans (congrArg Host.Outcome.next (if_pos hn))
  case go =>
    obtain ⟨hbusy, hvalid, -, -⟩ := s.startCapture_spec
    refine ⟨_, ?_, hbusy, hvalid⟩
    show execLookoutSnapGo side s = _
    unfold execLookoutSnapGo
    have hsb : s.snapBusy = false := by unfold State.snapBusy; rw [hm, hb]; rfl
    rw [hsb]
    exact congrArg Host.Outcome.next (guardBusy_opens h _ _)
  case fix =>
    exact (body h _).trans (congrArg Host.Outcome.next ((if_neg (by rw [hn]; exact Bool.false_ne_true)).trans (if_pos hf)))
  case aid =>
    exact ⟨_, (body h _).trans (congrArg Host.Outcome.next ((if_neg (by rw [hn]; exact Bool.false_ne_true)).trans
      (if_neg (by rw [hf]; exact Bool.false_ne_true)))), rfl⟩

end Sys2Proof

/-! PROOF. The berths: what the operations on one leave of it. -/

namespace Sys2Proof.Machine

/-- `t` holds the berths as `s` does. -/
def KeepsBerths (s t : State) : Prop := t.gnss.berths = s.gnss.berths

namespace KeepsBerths

variable {s t u : State}

theorem refl : KeepsBerths s s := rfl

theorem trans (h : KeepsBerths s t) (k : KeepsBerths t u) : KeepsBerths s u := Eq.trans k h

theorem ite {c : Prop} [Decidable c] {a b : State} (ha : KeepsBerths s a) (hb : KeepsBerths s b) : KeepsBerths s (if c then a else b) := by
  split
  · exact ha
  · exact hb

theorem foldl {β : Type} {f : State → β → State} (h : ∀ t x, KeepsBerths t (f t x)) (l : List β) (t : State) :
    KeepsBerths t (l.foldl f t) := by
  induction l generalizing t with
  | nil => exact refl
  | cons x r ih => exact (h t x).trans (ih _)

/-- What leaves the receiver's state out. -/
theorem of_frame {e : List Part} (h : Frame e s t) (hn : Part.sub [.gnss] e = false) : KeepsBerths s t :=
  congrArg GnssState.berths (h.same .gnss hn)

theorem berth (h : KeepsBerths s t) (n : Nat) : t.berth n = s.berth n :=
  congrArg (fun l => Store.get (fun _ => BerthState.reset) l n) h

end KeepsBerths

theorem State.berth_modBerth_same (s : State) (n : Nat) (f : BerthState → BerthState) : (s.modBerth n f).berth n = f (s.berth n) :=
  State.berth_setBerth_same s n _

theorem State.put_keepsBerths (s : State) (f : Fld) (v : Nat) : KeepsBerths s (s.put f v) := rfl

theorem State.count_keepsBerths (s : State) (f : Fld) : KeepsBerths s (s.count f) := rfl

theorem State.puts_keepsBerths (s : State) (l : List (Fld × Nat)) : KeepsBerths s (s.puts l) := by
  induction l generalizing s with
  | nil => exact .refl
  | cons c r ih => exact KeepsBerths.trans (t := s.put c.1 c.2) rfl (ih _)

theorem State.measPut_keepsBerths (s : State) (e k : Nat) (l : List (List Nat)) : KeepsBerths s (s.measPut e k l) := by
  unfold State.measPut
  refine KeepsBerths.ite .refl (KeepsBerths.ite (.of_frame State.measWrite_frame rfl) ?_)
  exact KeepsBerths.trans (t := (s.countBy F.MEASQ_STAT_DROPPED l.length).withGnss fun g => { g with lost := true }) rfl
    (.of_frame State.raiseK_frame rfl)

theorem State.settleRecord_keepsBerths (s : State) (late : Bool) (n : Nat) (es : List Entry) (cause : Nat) :
    KeepsBerths s (s.settleRecord late n es cause) := by
  unfold State.settleRecord
  refine KeepsBerths.ite .refl ?_
  exact (State.measPut_keepsBerths _ _ _ _).trans (.of_frame State.raiseK_frame rfl)

theorem State.retract_keepsBerths (s : State) (n : Nat) (es : List Entry) (cause : Nat) : KeepsBerths s (s.retract n es cause) :=
  (State.settleRecord_keepsBerths s false n es cause).trans rfl

theorem State.settleUnits_keepsBerths (s : State) (n serial st : Nat) : KeepsBerths s (s.settleUnits n serial st) := by
  unfold State.settleUnits
  dsimp only
  refine KeepsBerths.trans (KeepsBerths.foldl (fun t r => ?_) _ s) rfl
  split
  · exact .of_frame (Frame.trans (State.setBytes_frame.mono rfl) (State.freshCheck_frame.mono rfl) : Frame [.mem, .chk] t _) rfl
  · exact .refl

theorem State.queueSearch_keepsBerths (s : State) (q : Search) : KeepsBerths s (s.queueSearch q) := by
  unfold State.queueSearch
  exact KeepsBerths.ite rfl .refl

/-! The registers of a berth: a key below its ARMS word or from its CODE_INC word on is none that the firmware derives. -/

/-- A field that the derivation of a berth does not write. -/
def Underived (n : Nat) (f : Fld) : Prop :=
  f.key < (0x50010014 + n % 256 * 0x100) * 32 ∨ (0x50010024 + n % 256 * 0x100) * 32 ≤ f.key

theorem State.deriveBerth_get {n : Nat} {f : Fld} (h : Underived n f) (s : State) : (s.deriveBerth n).get f = s.get f := by
  have hsame : Same [f] s (s.deriveBerth n) := by
    unfold State.deriveBerth
    dsimp only
    refine Same.ite .refl (Same.of_puts fun g hg => ?_)
    rw [List.mem_singleton.1 hg]
    unfold Underived at h
    simp only [List.forall_mem_cons, List.not_mem_nil, false_implies, implies_true, and_true, Fld.key, F.BERTH_ARMS_EL, F.BERTH_ARMS_VEVL,
      F.BERTH_INTEG_COH, F.BERTH_INTEG_WIPE, F.BERTH_INTEG_NWIN, F.BERTH_LOOP_PLL_BW, F.BERTH_LOOP_PLL_OPEN, F.BERTH_LOOP_FLL_BW,
      F.BERTH_LOOP_FLL_OPEN, F.BERTH_LOOP_DLL_BW, F.BERTH_LOOP_DLL_OPEN, F.BERTH_LOOP_CAID, F.BERTH_LOOP_PLL_ORD, F.BERTH_LOCK_LOCK_THR,
      F.BERTH_LOCK_PLOCK_THR, F.BERTH_LOCK_LOSS_MS] at h ⊢
    omega
  exact hsame.get

theorem State.markSignal_get {n : Nat} {f : Fld} (h : Underived n f) (hp : f.key ≠ (F.BERTH_CFG_PAIR n).key)
    (hb : f.key ≠ (F.BERTH_CFG_BOC n).key) (s : State) : (s.markSignal n).get f = s.get f :=
  (State.deriveBerth_get h _).trans ((State.get_put_other _ _ hb).trans (State.get_put_other _ _ hp))

theorem underived_state (n : Nat) : Underived n (F.BERTH_STAT_STATE n) := by
  simp only [Underived, Fld.key, F.BERTH_STAT_STATE]; omega

theorem State.markSignal_state (s : State) (n : Nat) : (s.markSignal n).get (F.BERTH_STAT_STATE n) = s.get (F.BERTH_STAT_STATE n) :=
  State.markSignal_get (underived_state n) (by simp only [Fld.key, F.BERTH_STAT_STATE, F.BERTH_CFG_PAIR]; omega)
    (by simp only [Fld.key, F.BERTH_STAT_STATE, F.BERTH_CFG_BOC]; omega) s

/-! The end of a start. -/

theorem State.planState_keepsBerths (s : State) (n v : Nat) : KeepsBerths s (s.planState n v) := .of_frame State.planState_frame rfl

/-- A berth's start ends in a state, with its signal as it is. -/
theorem State.endStart_get (s : State) (n : Nat) {v : Nat} (hv : v < 8) : (s.endStart n v).get (F.BERTH_STAT_STATE n) = v ∧
    ∀ f : Fld, f.part = .rBerth → f.key < (0x50010014 + n % 256 * 0x100) * 32 → (s.endStart n v).get f = s.get f := by
  unfold State.endStart
  dsimp only
  generalize hm : (s.modBerth n _) = m
  have hms : ∀ f, m.get f = s.get f := fun f => by rw [← hm]; rfl
  generalize ht : m.puts _ = t
  have hstate : t.get (F.BERTH_STAT_STATE n) = v := by
    rw [← ht]
    simp only [State.puts]
    iterate 5 rw [State.get_put_other _ _ (by
      simp only [Fld.key, F.BERTH_STAT_STATE, F.BERTH_STAT_BOND, F.BERTH_STAT_SEC_SYNC, F.BERTH_STAT_PLOCK, F.BERTH_STAT_FLOCK, F.BERTH_STAT_CLOCK]
      omega)]
    exact (State.get_put_same _ _ _).trans (Nat.mod_eq_of_lt hv)
  have hlow : ∀ f : Fld, f.key < (0x50010014 + n % 256 * 0x100) * 32 → t.get f = s.get f := fun f hf => by
    rw [← ht, ← hms f]
    refine State.get_puts_other _ _ ?_
    simp only [List.forall_mem_cons, List.not_mem_nil, false_implies, implies_true, and_true, Fld.key, F.BERTH_STAT_STATE, F.BERTH_STAT_BOND,
      F.BERTH_STAT_SEC_SYNC, F.BERTH_STAT_PLOCK, F.BERTH_STAT_FLOCK, F.BERTH_STAT_CLOCK] at hf ⊢
    omega
  split
  · exact ⟨hstate, fun f _ hf => hlow f hf⟩
  · exact ⟨(State.planState_frame.get F.BERTH_STAT_STATE_part rfl).trans hstate,
      fun f hp hf => (State.planState_frame.get hp rfl).trans (hlow f hf)⟩

theorem State.endStart_berth (s : State) (n v : Nat) : (s.endStart n v).berth n =
    { s.berth n with kind := none, cleared := false, dwell := none, fail := 0, predicted := false, move := none } := by
  unfold State.endStart
  dsimp only
  generalize hm : (s.modBerth n _) = m
  have hb : m.berth n = { s.berth n with kind := none, cleared := false, dwell := none, fail := 0, predicted := false, move := none } := by
    rw [← hm]; exact State.berth_modBerth_same _ _ _
  have hputs : ∀ l, KeepsBerths m (m.puts l) := State.puts_keepsBerths m
  split
  · exact hb
  · exact ((State.planState_keepsBerths _ _ _).berth n).trans hb

/-- A field of a berth that a release leaves: in the berth's block, below its ARMS word. -/
def Below (n : Nat) (f : Fld) : Prop := f.part = .rBerth ∧ f.key < (0x50010014 + n % 256 * 0x100) * 32

theorem State.afterRefused_berth (s : State) (n : Nat) (b : BerthState) (again : Bool) :
    (s.afterRefused n b again).berth n = { s.berth n with refused := b.refused + 1 } := by
  have keep : ∀ t : State, KeepsBerths (s.modBerth n fun b' => { b' with refused := b.refused + 1 }) t →
      t.berth n = { s.berth n with refused := b.refused + 1 } := fun t h => (h.berth n).trans (State.berth_modBerth_same _ _ _)
  have queue : ∀ (t : State) (q : Search), KeepsBerths t (t.queueSearch q) := State.queueSearch_keepsBerths
  unfold State.afterRefused
  dsimp only
  refine keep _ ?_
  split
  · refine KeepsBerths.ite ?_ rfl
    split
    · exact KeepsBerths.trans (t := (s.modBerth n fun b' => { b' with refused := b.refused + 1 }).count F.LOOKOUT_CNT_REFUSED) rfl (queue _ _)
    · rfl
  · refine KeepsBerths.ite .refl ?_
    split
    · split
      · exact queue _ _
      · exact .refl
    · exact .refl
  · exact .refl

/-- What is in bond is refused, and the start ends. -/
theorem State.refuseBonded_get (s : State) (n cause : Nat) {v : Nat} (hv : v < 8) :
    (s.refuseBonded n cause v).get (F.BERTH_STAT_STATE n) = v ∧ ∀ f, Below n f → (s.refuseBonded n cause v).get f = s.get f := by
  have hretract : ∀ es, ∀ f, Below n f → (s.retract n es cause).get f = s.get f := fun es f hf => State.retract_frame.get hf.1 rfl
  unfold State.refuseBonded
  dsimp only
  split
  · generalize hm : State.count _ _ = m
    have hms : ∀ f, Below n f → m.get f = s.get f := fun f hf => by
      rw [← hm, (State.count_frame (e := [.rSillage]) F.SILLAGE_CNT_REFUSED_part rfl).get hf.1 rfl, State.settleUnits_frame.get hf.1 rfl]
      exact hretract _ f hf
    obtain ⟨hstate, hlow⟩ := m.endStart_get n hv
    exact ⟨(State.afterRefused_frame.get F.BERTH_STAT_STATE_part rfl).trans hstate,
      fun f hf => (State.afterRefused_frame.get hf.1 rfl).trans ((hlow f hf.1 hf.2).trans (hms f hf))⟩
  · generalize hm : (if (s.bonded n).isEmpty = true then s else s.retract n (s.bonded n) cause) = m
    have hms : ∀ f, Below n f → m.get f = s.get f := fun f hf => by
      rw [← hm]; split
      · rfl
      · exact hretract _ f hf
    obtain ⟨hstate, hlow⟩ := m.endStart_get n hv
    exact ⟨hstate, fun f hf => (hlow f hf.1 hf.2).trans (hms f hf)⟩

/-- The berth that is left: no start, and what waits for its quiet point as it is. -/
theorem State.refuseBonded_berth (s : State) (n cause v : Nat) : ∃ r, (s.refuseBonded n cause v).berth n =
    { s.berth n with kind := none, cleared := false, dwell := none, fail := 0, predicted := false, move := none, refused := r } := by
  unfold State.refuseBonded
  dsimp only
  split
  · refine ⟨(s.berth n).refused + 1, (State.afterRefused_berth _ _ _ _).trans ?_⟩
    have hkept : KeepsBerths s (((s.retract n (s.bonded n) cause).settleUnits n (s.berth n).serial 2).count F.SILLAGE_CNT_REFUSED) :=
      ((State.retract_keepsBerths _ _ _ _).trans (State.settleUnits_keepsBerths _ _ _ _)).trans rfl
    rw [State.endStart_berth, hkept.berth]
  · refine ⟨(s.berth n).refused, (State.endStart_berth _ _ _).trans ?_⟩
    rw [(KeepsBerths.ite .refl (State.retract_keepsBerths _ _ _ _) : KeepsBerths s _).berth]

/-- A start that is refused. -/
theorem State.refuseStart_spec {s : State} {n : Nat} (hk : (s.berth n).kind.isSome = true) (cause : Nat) {v : Nat} (hv : v < 8) :
    (s.refuseStart n cause v).get (F.BERTH_STAT_STATE n) = v ∧ ((s.refuseStart n cause v).berth n).kind = none := by
  unfold State.refuseStart
  dsimp only
  rw [if_neg (by rw [Option.isNone_eq_false_iff.2 hk]; exact Bool.false_ne_true)]
  generalize hm : State.count _ _ = m
  generalize ht : (m.endStart n v).afterRefused n (s.berth n) true = t
  have hstate : t.get (F.BERTH_STAT_STATE n) = v := by
    rw [← ht, State.afterRefused_frame.get F.BERTH_STAT_STATE_part rfl]
    exact (m.endStart_get n hv).1
  have hkind : (t.berth n).kind = none := by rw [← ht, State.afterRefused_berth, State.endStart_berth]
  split
  · refine ⟨(State.raiseLoss_frame.get F.BERTH_STAT_STATE_part rfl).trans hstate, ?_⟩
    rw [(KeepsBerths.of_frame State.raiseLoss_frame rfl).berth]
    exact hkind
  · exact ⟨hstate, by rw [State.berth_modBerth_same]; exact hkind⟩

theorem State.leavePlaces_berth (s : State) (n : Nat) : (s.leavePlaces n).berth n = { s.berth n with leaving := [] } := by
  unfold State.leavePlaces
  dsimp only
  have hplaces : ∀ l : List (Nat × Nat), KeepsBerths s (l.foldl (fun t p => if t.get (F.PLAN_SLOT_A_STATE p.1 p.2) = 3 then
      t.put (F.PLAN_SLOT_A_STATE p.1 p.2) 0 else t) s) := fun l =>
    KeepsBerths.foldl (fun t p => by split <;> rfl) l s
  rw [State.berth_modBerth_same, (hplaces _).berth]

/-! A signal that lands. -/

theorem State.landSignal_berth (s : State) (n : Nat) : (s.landSignal n).berth n = { s.berth n with next := none } := by
  unfold State.landSignal
  dsimp only
  rw [(KeepsBerths.of_frame State.markSignal_frame rfl).berth, (State.puts_keepsBerths _ _).berth, State.berth_modBerth_same]

/-- The signal that lands, with the berth's state and its enable as they are. -/
theorem State.landSignal_get (s : State) (n : Nat) : (s.landSignal n).get (F.BERTH_CFG_SIG n) = (s.signalOf n).1 % 16 ∧
    (s.landSignal n).get (F.BERTH_CFG_SVN n) = (s.signalOf n).2.1 % 256 ∧
    (s.landSignal n).get (F.BERTH_STAT_STATE n) = s.get (F.BERTH_STAT_STATE n) ∧
    (s.landSignal n).get (F.BERTH_CFG_EN n) = s.get (F.BERTH_CFG_EN n) := by
  unfold State.landSignal
  obtain ⟨g, svn, k⟩ := s.signalOf n
  dsimp only [State.puts]
  have keys : ∀ f ∈ [F.BERTH_CFG_SIG n, F.BERTH_CFG_SVN n, F.BERTH_STAT_STATE n, F.BERTH_CFG_EN n],
      Underived n f ∧ f.key ≠ (F.BERTH_CFG_PAIR n).key ∧ f.key ≠ (F.BERTH_CFG_BOC n).key := by
    simp only [List.forall_mem_cons, List.not_mem_nil, false_implies, implies_true, and_true, Underived, Fld.key, F.BERTH_CFG_SIG,
      F.BERTH_CFG_SVN, F.BERTH_STAT_STATE, F.BERTH_CFG_EN, F.BERTH_CFG_PAIR, F.BERTH_CFG_BOC]
    omega
  have mark : ∀ f ∈ [F.BERTH_CFG_SIG n, F.BERTH_CFG_SVN n, F.BERTH_STAT_STATE n, F.BERTH_CFG_EN n], ∀ t : State,
      (t.markSignal n).get f = t.get f := fun f hf => State.markSignal_get (keys f hf).1 (keys f hf).2.1 (keys f hf).2.2
  have hne : ∀ f ∈ [F.BERTH_STAT_STATE n, F.BERTH_CFG_EN n], ∀ g ∈ [F.BERTH_CFG_SIG n, F.BERTH_CFG_SVN n, F.BERTH_CFG_GLO_K n], f.key ≠ g.key := by
    simp only [List.forall_mem_cons, List.not_mem_nil, false_implies, implies_true, and_true, Fld.key, F.BERTH_CFG_SIG, F.BERTH_CFG_SVN,
      F.BERTH_STAT_STATE, F.BERTH_CFG_EN, F.BERTH_CFG_GLO_K]
    omega
  obtain ⟨-, -, -, k4, k5, -, -⟩ := berth_cfg_keys n
  refine ⟨?_, ?_, ?_, ?_⟩
  · rw [mark _ (by simp), State.get_put_other _ _ k5, State.get_put_other _ _ k4, State.get_put_same]; rfl
  · rw [mark _ (by simp), State.get_put_other _ _ (by simp only [Fld.key, F.BERTH_CFG_SVN, F.BERTH_CFG_GLO_K]; omega), State.get_put_same]; rfl
  · rw [mark _ (by simp)]
    iterate 3 rw [State.get_put_other _ _ (hne _ (by simp) _ (by simp))]
    rfl
  · rw [mark _ (by simp)]
    iterate 3 rw [State.get_put_other _ _ (hne _ (by simp) _ (by simp))]
    rfl

/-! A start. -/

/-- A start has its state, its kind and its first dwell. -/
theorem State.startBerth_spec (s : State) (n : Nat) (kind : StartKind) {st : Nat} (hst : st < 8) (sync : Bool) :
    (s.startBerth n kind st sync).get (F.BERTH_STAT_STATE n) = st ∧ ((s.startBerth n kind st sync).berth n).kind = some kind ∧
      ((s.startBerth n kind st sync).berth n).dwell = (if kind == .partner then some 0 else none) ∧
      ((s.startBerth n kind st sync).berth n).hand = (if kind == .handoff then none else (s.berth n).hand) := by
  unfold State.startBerth
  dsimp only
  generalize hm : (s.modBerth n _) = m
  have hb : (m.berth n).kind = some kind ∧ (m.berth n).dwell = (if kind == .partner then some 0 else none) ∧
      (m.berth n).hand = (if kind == .handoff then none else (s.berth n).hand) := by
    rw [← hm, State.berth_modBerth_same]
    exact ⟨rfl, rfl, rfl⟩
  have hkept : ∀ l, ((m.puts l).deriveBerth n).berth n = m.berth n := fun l =>
    ((State.puts_keepsBerths m l).trans (.of_frame State.deriveBerth_frame rfl)).berth n
  rw [hkept, State.deriveBerth_get (underived_state n)]
  refine ⟨?_, hb⟩
  simp only [State.puts]
  iterate 9 rw [State.get_put_other _ _ (by
    simp only [Fld.key, F.BERTH_STAT_STATE, F.BERTH_STAT_BOND, F.BERTH_STAT_SEC_SYNC, F.BERTH_STAT_BOC_OK, F.BERTH_STAT_SIDEJ, F.BERTH_STAT_HALF,
      F.BERTH_STAT_PLOCK, F.BERTH_STAT_FLOCK, F.BERTH_STAT_CLOCK, F.BERTH_CN0_LOCKT]
    omega)]
  exact (State.get_put_same _ _ _).trans (Nat.mod_eq_of_lt hst)

/-- The rates and phases that a start loads leave its state and its kind. -/
theorem State.loadStart_spec (s : State) (n code sec : Nat) (carr : Int) (ic : Nat) (ir : Int) :
    (s.loadStart n code sec carr ic ir).get (F.BERTH_STAT_STATE n) = s.get (F.BERTH_STAT_STATE n) ∧
    ((s.loadStart n code sec carr ic ir).berth n).kind = (s.berth n).kind ∧
    ((s.loadStart n code sec carr ic ir).berth n).dwell = (s.berth n).dwell ∧
    ((s.loadStart n code sec carr ic ir).berth n).hand = (s.berth n).hand := by
  unfold State.loadStart
  dsimp only
  refine ⟨?_, ?_⟩
  · refine (State.get_put_other _ _ ?_).trans ((State.get_put_other _ _ ?_).trans rfl)
    · simp only [Fld.key, F.BERTH_STAT_STATE, F.BERTH_CARR_INC_INC]; omega
    · simp only [Fld.key, F.BERTH_STAT_STATE, F.BERTH_CODE_INC_INC]; omega
  · generalize hm : s.modBerth n _ = m
    have hb : (m.berth n).kind = (s.berth n).kind ∧ (m.berth n).dwell = (s.berth n).dwell ∧ (m.berth n).hand = (s.berth n).hand := by
      rw [← hm, State.berth_modBerth_same]
      exact ⟨rfl, rfl, rfl⟩
    exact hb

end Sys2Proof.Machine

/-! PROOF. The control of a berth (O16). -/

namespace Sys2Proof.Machine

theorem State.get_count (s : State) {f : Fld} (h : f.w ≠ 0) : (s.count f).get f = min (s.get f + 1) (2 ^ f.w - 1) := by
  have hpos : 1 < 2 ^ f.w := Nat.one_lt_two_pow h
  exact (State.get_put_same _ _ _).trans (Nat.mod_eq_of_lt (by omega))

/-! Enabling, disabling and the quiet point. -/

/-- A berth that is off is on, in state 1 and without start or handoff once it is enabled. -/
theorem State.enableBerth_spec {s : State} {n : Nat} (he : s.on (F.BERTH_CFG_EN n) = false) :
    (s.enableBerth n).on (F.BERTH_CFG_EN n) = true ∧ (s.enableBerth n).get (F.BERTH_STAT_STATE n) = 1 ∧
      ((s.enableBerth n).berth n).kind = none ∧ ((s.enableBerth n).berth n).hand = none := by
  refine ⟨(State.enableBerth_of_off he).1, ?_⟩
  unfold State.enableBerth
  rw [if_neg (by rw [he]; exact Bool.false_ne_true)]
  generalize hm : s.modBerth n _ = m
  have hb : (m.berth n).kind = none ∧ (m.berth n).hand = none := by
    rw [← hm, State.berth_modBerth_same]
    exact ⟨rfl, rfl⟩
  have hkept : ∀ v w : Nat, KeepsBerths m ((((m.needDomain 6).put (F.BERTH_CFG_EN n) v).put (F.BERTH_STAT_STATE n) w).markSignal n) := fun v w =>
    (((KeepsBerths.of_frame State.needDomain_frame rfl).trans (State.put_keepsBerths _ _ _)).trans (State.put_keepsBerths _ _ _)).trans
      (.of_frame State.markSignal_frame rfl)
  refine ⟨?_, ?_⟩
  · rw [State.markSignal_state, State.get_put_same]
    rfl
  · dsimp only
    rw [(hkept 1 1).berth n]
    exact hb

/-- A berth that is on is off, in state 0, without start and with nothing waiting once it is disabled. -/
theorem State.disableBerth_spec {s : State} {n : Nat} (he : s.on (F.BERTH_CFG_EN n) = true) :
    (s.disableBerth n).on (F.BERTH_CFG_EN n) = false ∧ (s.disableBerth n).get (F.BERTH_STAT_STATE n) = 0 ∧
      ((s.disableBerth n).berth n).kind = none ∧ ((s.disableBerth n).berth n).next = none := by
  unfold State.disableBerth
  rw [if_pos he]
  obtain ⟨hstate, -⟩ := s.refuseBonded_get n 8 (v := 0) (by decide)
  obtain ⟨r, hb⟩ := s.refuseBonded_berth n 8 0
  generalize s.refuseBonded n 8 0 = t at *
  obtain ⟨-, -, hland, -⟩ := (t.leavePlaces n).landSignal_get n
  have hberth := (t.leavePlaces n).landSignal_berth n
  rw [State.leavePlaces_berth, hb] at hberth
  refine ⟨State.on_eq_false_iff.2 ((State.get_put_same _ _ _).trans rfl), ?_, ?_⟩
  · rw [State.get_put_other _ _ (Ne.symm (berth_cfg_keys n).2.2.2.2.2.1), hland, State.leavePlaces_frame.get F.BERTH_STAT_STATE_part rfl]
    exact hstate
  · rw [(State.put_keepsBerths _ _ _).berth n, hberth]
    exact ⟨rfl, rfl⟩

/-- At the quiet point with nothing waiting nothing happens. -/
theorem State.atQuiet_still {s : State} {n : Nat} (hn : (s.berth n).next = none) (hl : (s.berth n).leaving = []) : s.atQuiet n = s := by
  unfold State.atQuiet
  dsimp only
  rw [hn, hl]
  rfl

/-- At the quiet point a signal that waits lands, in state 1, and the berth is on or off as it was. -/
theorem State.atQuiet_lands {s : State} {n g svn k : Nat} (hn : (s.berth n).next = some (g, svn, k)) (hg : g < 14) (hs : svn < 256) :
    (s.atQuiet n).get (F.BERTH_CFG_SIG n) = g ∧ (s.atQuiet n).get (F.BERTH_CFG_SVN n) = svn ∧ ((s.atQuiet n).berth n).next = none ∧
      (s.atQuiet n).get (F.BERTH_STAT_STATE n) = 1 ∧ (s.atQuiet n).on (F.BERTH_CFG_EN n) = s.on (F.BERTH_CFG_EN n) := by
  unfold State.atQuiet
  dsimp only
  rw [if_pos (by rw [hn]; rfl)]
  obtain ⟨hstate, hlow⟩ := s.refuseBonded_get n 8 (v := 1) (by decide)
  obtain ⟨r, hb⟩ := s.refuseBonded_berth n 8 1
  generalize s.refuseBonded n 8 1 = t at *
  generalize hu : (t.leavePlaces n).modBerth n _ = u
  have hget : ∀ f, f.part = .rBerth → u.get f = t.get f := fun f hf => by
    rw [← hu]; exact (State.leavePlaces_frame.get hf rfl : _ = _)
  have hnext : (u.berth n).next = some (g, svn, k) := by
    rw [← hu, State.berth_modBerth_same, State.leavePlaces_berth, hb]; exact hn
  have hsig : u.signalOf n = (g, svn, k) := by unfold State.signalOf; rw [hnext]; rfl
  obtain ⟨h1, h2, h3, h4⟩ := u.landSignal_get n
  rw [hsig] at h1 h2
  refine ⟨h1.trans (Nat.mod_eq_of_lt (by omega)), h2.trans (Nat.mod_eq_of_lt hs), by rw [State.landSignal_berth], ?_, ?_⟩
  · rw [h3, hget _ F.BERTH_STAT_STATE_part]; exact hstate
  · unfold State.on
    rw [h4, hget _ F.BERTH_CFG_EN_part,
      hlow (F.BERTH_CFG_EN n) ⟨F.BERTH_CFG_EN_part, by simp only [Fld.key, F.BERTH_CFG_EN]; omega⟩]

/-! Handoffs and seeds. -/

/-- A handoff that is taken starts the berth in pull-in. -/
theorem State.takeHandoff_spec (s : State) (n : Nat) (h : Handoff) : (s.takeHandoff n h).get (F.BERTH_STAT_STATE n) = 2 ∧
    ((s.takeHandoff n h).berth n).kind = some .handoff ∧ ((s.takeHandoff n h).berth n).hand = none := by
  unfold State.takeHandoff
  dsimp only
  generalize hl : (s.startBerth n .handoff 2 false).loadStart n _ _ _ _ _ = t
  have ht : t.get (F.BERTH_STAT_STATE n) = 2 ∧ (t.berth n).kind = some .handoff ∧ (t.berth n).hand = none := by
    obtain ⟨h1, h2, -, h3⟩ := s.startBerth_spec n .handoff (st := 2) (by decide) false
    rw [← hl]
    obtain ⟨k1, k2, -, k3⟩ := (s.startBerth n .handoff 2 false).loadStart_spec n _ _ _ _ _
    exact ⟨k1.trans h1, k2.trans h2, k3.trans h3⟩
  obtain ⟨hstate, hkind, hhand⟩ := ht
  generalize hm : t.modBerth n _ = m
  have hkept : ∀ v w k, KeepsBerths m (((m.planState n 2).count F.LOOKOUT_CNT_HANDOFF).raiseK Src.LOOKOUT_HANDOFF v w k) := fun v w k =>
    ((State.planState_keepsBerths _ _ _).trans (State.count_keepsBerths _ _)).trans (.of_frame State.raiseK_frame rfl)
  have hb : (m.berth n).kind = some .handoff ∧ (m.berth n).hand = none := by
    rw [← hm, State.berth_modBerth_same]; exact ⟨hkind, hhand⟩
  refine ⟨?_, ?_⟩
  · rw [State.raiseK_frame.get F.BERTH_STAT_STATE_part rfl,
      (State.count_frame (e := [.rLookout]) F.LOOKOUT_CNT_HANDOFF_part rfl).get F.BERTH_STAT_STATE_part rfl,
      State.planState_frame.get F.BERTH_STAT_STATE_part rfl, ← hm]
    exact hstate
  · rw [(hkept _ _ _).berth n]; exact hb

theorem State.dropHandoff_spec (s : State) (n : Nat) : ((s.dropHandoff n).berth n).hand = none ∧
    (s.dropHandoff n).get F.LOOKOUT_CNT_DROPPED = min (s.get F.LOOKOUT_CNT_DROPPED + 1) 255 := by
  refine ⟨?_, State.get_count _ (by decide)⟩
  show ((s.modBerth n fun b => { b with hand := none }).berth n).hand = none
  rw [State.berth_modBerth_same]

/-- A seed that is taken starts the berth in track. -/
theorem State.takeSeed_spec (s : State) (n : Nat) (p : Pred) : (s.takeSeed n p).get (F.BERTH_STAT_STATE n) = 4 ∧
    ((s.takeSeed n p).berth n).kind = some .seed := by
  unfold State.takeSeed
  dsimp only
  obtain ⟨h1, h2, -, -⟩ := s.startBerth_spec n .seed (st := 4) (by decide) true
  generalize s.startBerth n .seed 4 true = t at *
  generalize hl : t.loadStart n _ _ _ _ _ = u
  have hu : u.get (F.BERTH_STAT_STATE n) = 4 ∧ (u.berth n).kind = some .seed := by
    rw [← hl]
    obtain ⟨k1, k2, -, -⟩ := t.loadStart_spec n _ _ _ _ _
    exact ⟨k1.trans h1, k2.trans h2⟩
  refine ⟨(State.planState_frame.get F.BERTH_STAT_STATE_part rfl).trans hu.1, ?_⟩
  rw [(State.planState_keepsBerths _ _ _).berth n]
  exact hu.2

/-! A prediction made on demand. -/

/-- The state with the prediction that a handoff brings for its berth (R175). -/
def State.withFresh (s : State) (n : Fin 256) (fresh : Option Pred) : State :=
  match fresh with
  | some p => if p.berth = n then s.addPred p else s
  | none => s

/-- What a new prediction leaves of the receiver's state. -/
theorem State.setPreds_gnss (s : State) (l : List Pred) : (s.setPreds l).gnss = { s.gnss with preds := l.filter fun p => s.predictable p.berth } := by
  have hfold : ∀ (m : List Pred) (t : State), (m.foldl (fun t p => t.deriveBerth p.berth) t).gnss = t.gnss := by
    intro m
    induction m with
    | nil => exact fun _ => rfl
    | cons p r ih => exact fun t => (ih _).trans (State.deriveBerth_frame.same .gnss rfl : _ = _)
  unfold State.setPreds
  dsimp only
  rw [hfold]
  rfl

/-- A prediction that may be made is the berth's. -/
theorem State.predOf_addPred {s : State} {p : Pred} (h : s.predictable p.berth = true) : (s.addPred p).predOf p.berth = some p := by
  unfold State.addPred State.predOf
  rw [State.setPreds_gnss]
  dsimp only
  rw [List.filter_append, List.find?_append]
  have hnone : ((s.gnss.preds.filter (·.berth != p.berth)).filter fun q => s.predictable q.berth).find? (fun q => q.berth.val == p.berth.val) = none := by
    refine List.find?_eq_none.2 fun q hq hb => ?_
    have hne := (List.mem_filter.1 (List.mem_filter.1 hq).1).2
    rw [beq_iff_eq] at hb
    rw [Fin.ext hb] at hne
    simp at hne
  rw [hnone, List.filter_cons_of_pos (by exact h)]
  simp

/-- The fields of a berth that no derivation, of it or of another, writes. -/
theorem State.setPreds_get (s : State) (l : List Pred) {f : Fld} (hp : f.part = .rBerth) (hf : ∀ m, Underived m f) :
    (s.setPreds l).get f = s.get f := by
  have hsame : Same [f] s (s.setPreds l) := by
    unfold State.setPreds
    refine Same.trans (Same.of_part hp State.keepPreds_frame rfl) (Same.foldl (fun t p g hg => ?_) _ _)
    rw [List.mem_singleton.1 hg]
    exact State.deriveBerth_get (hf _) t
  exact hsame.get

/-- A prediction on demand leaves whether the berth may be predicted. -/
theorem State.predictable_addPred (s : State) (p : Pred) (n : Nat) : (s.addPred p).predictable n = s.predictable n := by
  have hf : Frame [.rBerth, .rSillage, .gnss] s (s.addPred p) := State.setPreds_frame
  have hg : (s.addPred p).gnss.fix = s.gnss.fix ∧ (s.addPred p).gnss.store = s.gnss.store := by
    unfold State.addPred
    rw [State.setPreds_gnss]
    exact ⟨rfl, rfl⟩
  have hlow : ∀ f ∈ [F.BERTH_CFG_EN n, F.BERTH_CFG_SIG n, F.BERTH_CFG_SVN n], ∀ m, Underived m f := by
    simp only [List.forall_mem_cons, List.not_mem_nil, false_implies, implies_true, and_true, Underived, Fld.key, F.BERTH_CFG_EN,
      F.BERTH_CFG_SIG, F.BERTH_CFG_SVN]
    refine ⟨fun m => ?_, fun m => ?_, fun m => ?_⟩ <;> omega
  have hplace : (s.addPred p).placeOf n = s.placeOf n := by
    unfold State.placeOf State.slotUsed
    have hget : ∀ f : Fld, f.part = .rPlan → (s.addPred p).get f = s.get f := fun f h => hf.get h rfl
    congr 1
    funext q
    rw [hget _ F.PLAN_SLOT_SV_SYS_part, hget _ F.PLAN_SLOT_A_SIG_part, hget _ F.PLAN_SLOT_A_BERTH_part, hget _ F.PLAN_SLOT_A_STATE_part]
  have hown : ∀ f : Fld, f.part = .rOwn → (s.addPred p).get f = s.get f := fun f h => hf.get h rfl
  have hberth : ∀ f ∈ [F.BERTH_CFG_EN n, F.BERTH_CFG_SIG n, F.BERTH_CFG_SVN n], f.part = .rBerth :=
    List.forall_mem_cons.2 ⟨F.BERTH_CFG_EN_part, List.forall_mem_cons.2 ⟨F.BERTH_CFG_SIG_part, fun f hf => by
      rw [List.mem_singleton.1 hf]
      exact F.BERTH_CFG_SVN_part⟩⟩
  have hcfg : ∀ f ∈ [F.BERTH_CFG_EN n, F.BERTH_CFG_SIG n, F.BERTH_CFG_SVN n], (s.addPred p).get f = s.get f := fun f hf =>
    State.setPreds_get s _ (hberth f hf) (hlow f hf)
  unfold State.predictable State.ephemerisHeld State.berthSys State.consoleOwns State.owner State.expert State.on
  rw [hg.1, hg.2, hplace, hown _ F.OWNLVL_OWNER_part, hown _ F.OWNLVL_LEVEL_part,
    hcfg _ (by simp), hcfg _ (by simp), hcfg _ (by simp)]

/-- The showing of a prediction writes none of the limits of a seed. -/
theorem State.setPreds_limits (s : State) (l : List Pred) :
    Same [F.SILLAGE_CFG_SEED_EN, F.SILLAGE_CFG_MAX_AGE, F.SILLAGE_LIM_CODE_LIM, F.SILLAGE_LIM_DOP_LIM] s (s.setPreds l) := by
  have hpart : ∀ f ∈ [F.SILLAGE_CFG_SEED_EN, F.SILLAGE_CFG_MAX_AGE, F.SILLAGE_LIM_CODE_LIM, F.SILLAGE_LIM_DOP_LIM],
      Part.sub [f.part] [.rBerth] = false := by decide
  unfold State.setPreds
  refine Same.trans ?_ (Same.foldl (fun t p => Same.of_frame State.deriveBerth_frame hpart) _ _)
  unfold State.keepPreds
  generalize hu : (s.withGnss _).flag F.SILLAGE_STAT_VALID _ = u
  have hs : Same [F.SILLAGE_CFG_SEED_EN, F.SILLAGE_CFG_MAX_AGE, F.SILLAGE_LIM_CODE_LIM, F.SILLAGE_LIM_DOP_LIM] s u := by
    rw [← hu]
    exact Same.of_put (s := s.withGnss _) (by decide)
  unfold State.showPrediction
  dsimp only
  refine hs.trans (Same.of_puts ?_)
  simp only [List.forall_mem_cons, List.not_mem_nil, false_implies, implies_true, and_true]
  decide

theorem State.maySeed_addPred (s : State) (p q : Pred) : (s.addPred p).maySeed q = s.maySeed q := by
  have hlim := s.setPreds_limits (s.gnss.preds.filter (·.berth != p.berth) ++ [p])
  have hg : (s.addPred p).gnss.fix = s.gnss.fix ∧ (s.addPred p).gnss.fixAt = s.gnss.fixAt := by
    unfold State.addPred
    rw [State.setPreds_gnss]
    exact ⟨rfl, rfl⟩
  have htide : (s.addPred p).tide = s.tide := State.setPreds_frame.same .tide rfl
  unfold State.maySeed State.on
  rw [hg.1, hg.2, htide]
  unfold State.addPred
  rw [hlim _ (by simp), hlim _ (by simp), hlim _ (by simp), hlim _ (by simp)]

/-! Staged writes. -/

theorem State.markStaged_berth (s : State) (n : Nat) (late : Bool) : (s.markStaged n late).berth n = s.berth n := by
  unfold State.markStaged
  exact (KeepsBerths.trans (.ite (State.put_keepsBerths _ _ _) .refl) (.of_frame State.reportLoads_frame rfl)).berth n

/-- The pending flags show what is staged. -/
theorem State.reportLoads_get (s : State) (n : Nat) :
    (s.reportLoads n).get (F.BERTH_LOAD_CODE_PEND n) = bit (s.berth n).loadCode.isSome ∧
    (s.reportLoads n).get (F.BERTH_LOAD_CARR_PEND n) = bit (s.berth n).loadCarr.isSome ∧
    (s.reportLoads n).get (F.BERTH_LOAD_INC_PEND n) = bit ((s.berth n).codeInc.isSome || (s.berth n).carrInc.isSome) := by
  have hkeys : (F.BERTH_LOAD_CODE_PEND n).key ≠ (F.BERTH_LOAD_CARR_PEND n).key ∧ (F.BERTH_LOAD_CODE_PEND n).key ≠ (F.BERTH_LOAD_INC_PEND n).key ∧
      (F.BERTH_LOAD_CARR_PEND n).key ≠ (F.BERTH_LOAD_INC_PEND n).key := by
    simp only [Fld.key, F.BERTH_LOAD_CODE_PEND, F.BERTH_LOAD_CARR_PEND, F.BERTH_LOAD_INC_PEND]; omega
  obtain ⟨k1, k2, k3⟩ := hkeys
  have hbit : ∀ b : Bool, bit b % 2 ^ 1 = bit b := by decide
  unfold State.reportLoads State.flag
  dsimp only
  refine ⟨?_, ?_, ?_⟩
  · rw [State.get_put_other _ _ k2, State.get_put_other _ _ k1, State.get_put_same]; exact hbit _
  · rw [State.get_put_other _ _ k3, State.get_put_same]; exact hbit _
  · rw [State.get_put_same]; exact hbit _

/-- The flags after a write that was staged. -/
theorem State.markStaged_get (s : State) (n : Nat) (late : Bool) :
    (s.markStaged n late).get (F.BERTH_LOAD_CODE_PEND n) = bit (s.berth n).loadCode.isSome ∧
    (s.markStaged n late).get (F.BERTH_LOAD_CARR_PEND n) = bit (s.berth n).loadCarr.isSome ∧
    (s.markStaged n late).get (F.BERTH_LOAD_INC_PEND n) = bit ((s.berth n).codeInc.isSome || (s.berth n).carrInc.isSome) := by
  unfold State.markStaged
  have hb : (if late then s.put (F.BERTH_LOAD_LATE n) 1 else s).berth n = s.berth n :=
    (KeepsBerths.ite (State.put_keepsBerths _ _ _) .refl).berth n
  have h := State.reportLoads_get (if late then s.put (F.BERTH_LOAD_LATE n) 1 else s) n
  rwa [hb] at h

/-- The loss of lock ends the start in state 5. -/
theorem State.loseLock_spec (s : State) (n : Nat) : (s.loseLock n).get (F.BERTH_STAT_STATE n) = 5 ∧ ((s.loseLock n).berth n).kind = none := by
  obtain ⟨hstate, -⟩ := s.refuseBonded_get n 7 (v := 5) (by decide)
  obtain ⟨r, hb⟩ := s.refuseBonded_berth n 7 5
  unfold State.loseLock
  dsimp only
  generalize s.refuseBonded n 7 5 = t at *
  have hloss : (t.raiseLoss n).get (F.BERTH_STAT_STATE n) = 5 := (State.raiseLoss_frame.get F.BERTH_STAT_STATE_part rfl).trans hstate
  have hkind : ((t.raiseLoss n).berth n).kind = none := by rw [(KeepsBerths.of_frame State.raiseLoss_frame rfl).berth, hb]
  split
  · refine ⟨(State.queueSearch_frame.get F.BERTH_STAT_STATE_part rfl).trans hloss, ?_⟩
    rw [(State.queueSearch_keepsBerths _ _).berth]
    exact hkind
  · exact ⟨hloss, hkind⟩

theorem State.afterRefusal_lt (s : State) : s.afterRefusal < 8 := by
  unfold State.afterRefusal
  split <;> decide

end Sys2Proof.Machine

namespace Sys2Proof

open Sys2Proof.Machine

section

variable {n : Fin 256} {s : State}

/-- BERTH_HANDOFF of a berth for which nothing waits, outside the burst modes. -/
theorem berthHandoff_eq {fresh : Option Pred} (hn : (s.berth n).next = none) (hl : (s.berth n).leaving = []) :
    exec (.berthHandoff n fresh) s = .next (
      let st := s.get (F.BERTH_STAT_STATE n)
      if s.bursts then s
      else
        match (s.berth n).hand with
        | some h => if s.on (F.BERTH_CFG_EN n) && (st == 1 || st == 5) then s.takeHandoff n h else s.dropHandoff n
        | none =>
          let u := s.withFresh n fresh
          match u.predOf n with
          | some p =>
            if u.continuous && (st == 1 || st == 5 || st == 6) && u.predictable n && u.maySeed p then
              u.takeSeed n (u.predAt p u.tide.now)
            else u
          | none => u) := by
  show execBerthHandoff n fresh s = _
  unfold execBerthHandoff
  rw [State.atQuiet_still hn hl]
  rfl

/-- A handoff is taken by a berth that is on and in state 1 or 5, and else dropped. -/
theorem berthHandoff_of_hand {fresh : Option Pred} (hn : (s.berth n).next = none) (hl : (s.berth n).leaving = []) (hb : s.bursts = false)
    {h : Handoff} (hh : (s.berth n).hand = some h) :
    exec (.berthHandoff n fresh) s = .next (if s.on (F.BERTH_CFG_EN n) = true ∧
      (s.get (F.BERTH_STAT_STATE n) = 1 ∨ s.get (F.BERTH_STAT_STATE n) = 5) then s.takeHandoff n h else s.dropHandoff n) := by
  rw [berthHandoff_eq hn hl]
  dsimp only
  rw [if_neg (by rw [hb]; exact Bool.false_ne_true), hh]
  simp only [Bool.and_eq_true, Bool.or_eq_true, beq_iff_eq]

/-- A prediction seeds a berth that it may seed. -/
theorem berthHandoff_seeds {fresh : Option Pred} {p : Pred} (hn : (s.berth n).next = none) (hl : (s.berth n).leaving = [])
    (hpred : (fresh = some p ∧ p.berth = n) ∨ (fresh = none ∧ s.predOf n = some p)) (hh : (s.berth n).hand = none)
    (hc : s.continuous = true)
    (hst : s.get (F.BERTH_STAT_STATE n) = 1 ∨ s.get (F.BERTH_STAT_STATE n) = 5 ∨ s.get (F.BERTH_STAT_STATE n) = 6)
    (hp : s.predictable n = true) (hm : s.maySeed p = true) :
    ∃ t : State, exec (.berthHandoff n fresh) s = .next t ∧ t.get (F.BERTH_STAT_STATE n) = 4 ∧ (t.berth n).kind = some .seed := by
  have hb : s.bursts = false := by
    unfold State.continuous at hc
    unfold State.bursts
    change (s.mode == 3 || s.mode == 4) = false
    simp only [Bool.or_eq_true, beq_iff_eq, Bool.or_eq_false_iff, beq_eq_false_iff_ne] at hc ⊢
    omega
  have hu : ∃ u : State, s.withFresh n fresh = u ∧ u.predOf n = some p ∧ u.continuous = true ∧ u.predictable n = true ∧ u.maySeed p = true := by
    rcases hpred with ⟨rfl, rfl⟩ | ⟨rfl, hq⟩
    · have hmode : (s.addPred p).mode = s.mode := State.setPreds_frame.get F.GNSS_MODE_ACT_MODE_part rfl
      refine ⟨_, if_pos rfl, State.predOf_addPred hp, ?_, (State.predictable_addPred _ _ _).trans hp, (State.maySeed_addPred _ _ _).trans hm⟩
      unfold State.continuous at hc ⊢
      rw [hmode]; exact hc
    · exact ⟨s, rfl, hq, hc, hp, hm⟩
  obtain ⟨u, hfresh, hq, hcu, hpu, hmu⟩ := hu
  have hstate : (s.get (F.BERTH_STAT_STATE n) == 1 || s.get (F.BERTH_STAT_STATE n) == 5 || s.get (F.BERTH_STAT_STATE n) == 6) = true := by
    simpa [or_assoc] using hst
  refine ⟨u.takeSeed n (u.predAt p u.tide.now), ?_, State.takeSeed_spec _ _ _⟩
  rw [berthHandoff_eq hn hl]
  dsimp only
  rw [if_neg (by rw [hb]; exact Bool.false_ne_true), hh]
  dsimp only
  rw [hfresh, hq]
  dsimp only
  rw [hcu, hstate, hpu, hmu]
  rfl

theorem berthHandoff_of_none (hn : (s.berth n).next = none) (hl : (s.berth n).leaving = []) (hp : s.predOf n = none)
    (hh : (s.berth n).hand = none) : exec (.berthHandoff n none) s = .next s := by
  rw [berthHandoff_eq hn hl]
  dsimp only
  rw [hh, show s.withFresh n none = s from rfl]
  dsimp only
  rw [hp]
  split <;> rfl

/-! Partner starts. -/

/-- PARTNER_START of a berth with a place whose partner has one. -/
theorem partnerStart_eq {sec i j pg m : Nat} (hplace : s.placeOf n = some (i, j)) (hpg : Sig.partner (s.get (F.BERTH_CFG_SIG n)) = some pg)
    (hm : s.berthOf i pg = some m) : ∃ code a b, exec (.partnerStart n sec) s = .next (
      if s.consoleBerth n && (s.get (F.BERTH_STAT_STATE n) == 1 || s.get (F.BERTH_STAT_STATE n) == 5 || s.get (F.BERTH_STAT_STATE n) == 6) &&
          !(s.berth n).barred && (s.berth m).cleared && s.on (F.BERTH_STAT_SEC_SYNC m) then
        (if s.get (F.BERTH_STAT_STATE n) == 6 && (s.berth n).kind == some .partner && (s.berth n).dwell.isSome then
          s.put (F.BERTH_STAT_STATE n) 3 else s.startBerth n .partner 3 true).loadStart n code sec 0 a b
      else s) := by
  apply Exists.intro
  apply Exists.intro
  apply Exists.intro
  show execPartnerStart n sec s = _
  unfold execPartnerStart
  dsimp only
  rw [hplace, hpg]
  dsimp only
  rw [hm]

/-- A berth in state 1 or 5 begins its sweep. -/
theorem partnerStart_begins {sec i j pg m : Nat} (hplace : s.placeOf n = some (i, j)) (hpg : Sig.partner (s.get (F.BERTH_CFG_SIG n)) = some pg)
    (hm : s.berthOf i pg = some m) (hc : s.consoleBerth n = true) (hb : (s.berth n).barred = false) (hcl : (s.berth m).cleared = true)
    (hsync : s.on (F.BERTH_STAT_SEC_SYNC m) = true) (hst : s.get (F.BERTH_STAT_STATE n) = 1 ∨ s.get (F.BERTH_STAT_STATE n) = 5) :
    ∃ t : State, exec (.partnerStart n sec) s = .next t ∧ t.get (F.BERTH_STAT_STATE n) = 3 ∧
      (t.berth n).kind = some .partner ∧ (t.berth n).dwell = some 0 := by
  obtain ⟨code, a, b, h⟩ := partnerStart_eq (sec := sec) hplace hpg hm
  obtain ⟨h1, h2, h3, -⟩ := s.startBerth_spec n .partner (st := 3) (by decide) true
  obtain ⟨k1, k2, k3, -⟩ := (s.startBerth n .partner 3 true).loadStart_spec n code sec 0 a b
  refine ⟨_, h.trans (congrArg Host.Outcome.next ((if_pos ?_).trans (congrArg (State.loadStart · n code sec 0 a b) (if_neg ?_)))), k1.trans h1,
    k2.trans h2, k3.trans h3⟩
  · rw [hc, hb, hcl, hsync]; rcases hst with hst | hst <;> rw [hst] <;> rfl
  · rcases hst with hst | hst <;> rw [hst] <;> simp

/-- A sweep that was cut short goes on with its dwell. -/
theorem partnerStart_goesOn {sec i j pg m k : Nat} (hplace : s.placeOf n = some (i, j))
    (hpg : Sig.partner (s.get (F.BERTH_CFG_SIG n)) = some pg) (hm : s.berthOf i pg = some m) (hc : s.consoleBerth n = true)
    (hb : (s.berth n).barred = false) (hcl : (s.berth m).cleared = true) (hsync : s.on (F.BERTH_STAT_SEC_SYNC m) = true)
    (hst : s.get (F.BERTH_STAT_STATE n) = 6) (hk : (s.berth n).kind = some .partner) (hd : (s.berth n).dwell = some k) :
    ∃ t : State, exec (.partnerStart n sec) s = .next t ∧ t.get (F.BERTH_STAT_STATE n) = 3 ∧ (t.berth n).dwell = some k := by
  obtain ⟨code, a, b, h⟩ := partnerStart_eq (sec := sec) hplace hpg hm
  obtain ⟨k1, -, k3, -⟩ := (s.put (F.BERTH_STAT_STATE n) 3).loadStart_spec n code sec 0 a b
  refine ⟨_, h.trans (congrArg Host.Outcome.next ((if_pos ?_).trans (congrArg (State.loadStart · n code sec 0 a b) (if_pos ?_)))),
    k1.trans ((State.get_put_same _ _ _).trans rfl), k3.trans ?_⟩
  · rw [hc, hb, hcl, hsync, hst]; rfl
  · rw [hst, hk, hd]; rfl
  · rw [(State.put_keepsBerths _ _ _).berth]; exact hd

theorem partnerStart_refuses {sec i j pg m : Nat} (hplace : s.placeOf n = some (i, j)) (hpg : Sig.partner (s.get (F.BERTH_CFG_SIG n)) = some pg)
    (hm : s.berthOf i pg = some m) (hn : s.consoleBerth n = false ∨ (s.berth n).barred = true ∨ (s.berth m).cleared = false ∨
      s.on (F.BERTH_STAT_SEC_SYNC m) = false) : exec (.partnerStart n sec) s = .next s := by
  obtain ⟨code, a, b, h⟩ := partnerStart_eq (sec := sec) hplace hpg hm
  refine h.trans (congrArg Host.Outcome.next (if_neg ?_))
  rcases hn with hn | hn | hn | hn <;> rw [hn] <;> simp

theorem partnerStart_of_nowhere {sec : Nat} (h : s.placeOf n = none ∨ Sig.partner (s.get (F.BERTH_CFG_SIG n)) = none) :
    exec (.partnerStart n sec) s = .next s := by
  refine congrArg Host.Outcome.next ?_
  dsimp only
  split
  case h_1 i j pg hplace hpg => rcases h with h | h <;> simp_all
  case h_2 => rfl

theorem partnerStart_of_noBerth {sec i j pg : Nat} (hplace : s.placeOf n = some (i, j)) (hpg : Sig.partner (s.get (F.BERTH_CFG_SIG n)) = some pg)
    (hm : s.berthOf i pg = none) : exec (.partnerStart n sec) s = .next s := by
  refine congrArg Host.Outcome.next ?_
  dsimp only
  rw [hplace, hpg]
  dsimp only
  rw [hm]

/-! The dwells of a sweep. -/

section

variable {arms : List Nat} {k : Nat} (hd : (s.berth n).dwell = some k) (hst : s.get (F.BERTH_STAT_STATE n) = 3)
include hd hst

/-- An arm with 25 dB-Hz ends the sweep in pull-in. -/
theorem partnerDwellEnd_found {a : Nat} (ha : a < 5) (hp : 250 ≤ arms.getD a 0) :
    ∃ t : State, exec (.partnerDwellEnd n arms) s = .next t ∧ t.get (F.BERTH_STAT_STATE n) = 2 ∧ (t.berth n).dwell = none := by
  cases hf : (List.range 5).find? fun a => decide (250 ≤ arms.getD a 0) with
  | none => exact absurd hp (by simpa using List.find?_eq_none.1 hf a (List.mem_range.2 ha))
  | some b =>
    show ∃ t, execPartnerDwellEnd n arms s = _ ∧ _
    unfold execPartnerDwellEnd
    dsimp only
    rw [hd]
    dsimp only
    rw [if_neg (not_not_intro hst), hf]
    dsimp only
    generalize hm : s.modBerth n _ = m
    have hb : (m.berth n).dwell = none := by rw [← hm, State.berth_modBerth_same]
    refine ⟨_, rfl, ?_, ?_⟩
    · rw [State.planState_frame.get F.BERTH_STAT_STATE_part rfl, State.get_put_same]; rfl
    · rw [(State.planState_keepsBerths _ _ _).berth, (State.put_keepsBerths _ _ _).berth]; exact hb

/-- With no such arm the sweep goes on, or is refused after its last dwell. -/
theorem partnerDwellEnd_eq (ha : ∀ a, a < 5 → arms.getD a 0 < 250) :
    exec (.partnerDwellEnd n arms) s = .next (if k + 1 < (if Sig.pass (s.get (F.BERTH_CFG_SIG n)) = 3 then 1 else 3) then
      s.modBerth n fun t => { t with dwell := some (k + 1) } else s.refuseStart n 1 s.afterRefusal) := by
  have hf : ((List.range 5).find? fun a => decide (250 ≤ arms.getD a 0)) = none :=
    List.find?_eq_none.2 fun a h => by simpa using ha a (List.mem_range.1 h)
  show execPartnerDwellEnd n arms s = _
  unfold execPartnerDwellEnd
  dsimp only
  rw [hd]
  dsimp only
  rw [if_neg (not_not_intro hst), hf]

end

theorem partnerDwellEnd_of_none {arms : List Nat} (h : (s.berth n).dwell = none ∨ s.get (F.BERTH_STAT_STATE n) ≠ 3) :
    exec (.partnerDwellEnd n arms) s = .next s := by
  refine congrArg Host.Outcome.next ?_
  dsimp only
  split
  case h_1 k hk => exact if_pos (h.resolve_left (by rw [hk]; exact Option.some_ne_none k))
  case h_2 => rfl

end

/-- The spacings that BERTH SPACING takes: each that is given lies within 1 to 64. -/
theorem spacings_fit_iff {el vevl : Option Nat} :
    ([el, vevl].all fun v => match v with | some k => 1 ≤ k && k ≤ 64 | none => true) = true ↔
      ∀ v ∈ [el, vevl], ∀ k, v = some k → 1 ≤ k ∧ k ≤ 64 := by
  rw [List.all_eq_true]
  refine forall₂_congr fun v _ => ?_
  cases v <;> simp

/-- Settles O16: each clause is the case of its command; `atQuiet`, `startBerth` and the ends of a start have their specs above. -/
theorem berthControl : Obligations.BerthControl := by
  unfold Obligations.BerthControl
  have body := fun {s : State} {x : Sess} {i : CmdInfo} (h : accepts s x i = true) (f : State → State) =>
    congrArg (Host.Outcome.next (φ := Fault) (ρ := Refusal)) (run_accepts h f)
  have opened := fun {s : State} {side : Side} {b : Block} {e : Bool} (h : opens s side b e = true) (ofs : Nat) (f : State → State) =>
    congrArg (Host.Outcome.next (φ := Fault) (ρ := Refusal)) (guard_opens h ofs f)
  refine ⟨fun side n s h => ⟨fun he => ⟨⟨_, opened h _ _, State.enableBerth_spec he⟩, ?off⟩,
      fun he => ⟨⟨_, opened h _ _, State.disableBerth_spec he⟩, (opened h _ _).trans (congrArg Host.Outcome.next (if_pos he))⟩⟩,
    fun n s => ⟨fun g svn k hn hg hs => ⟨_, rfl, State.atQuiet_lands hn hg hs⟩,
      fun hstill => congrArg Host.Outcome.next (State.atQuiet_still hstill.1 hstill.2)⟩,
    fun n fresh s hstill => ⟨fun hb => (berthHandoff_eq hstill.1 hstill.2).trans (congrArg Host.Outcome.next (if_pos hb)),
      fun h hb hh => ⟨fun hc => ⟨_, (berthHandoff_of_hand hstill.1 hstill.2 hb hh).trans (congrArg Host.Outcome.next (if_pos hc)),
          s.takeHandoff_spec n h⟩,
        fun hc => ⟨_, (berthHandoff_of_hand hstill.1 hstill.2 hb hh).trans (congrArg Host.Outcome.next (if_neg hc)), s.dropHandoff_spec n⟩⟩,
      fun p hp hh hc hst hmay hseed => berthHandoff_seeds hstill.1 hstill.2 hp hh hc hst hmay hseed,
      fun hf hp hh => hf ▸ berthHandoff_of_none hstill.1 hstill.2 hp hh⟩,
    fun n sec s => ⟨fun i j pg m hplace hpg hm => ⟨fun hc hb hcl hsync =>
        ⟨partnerStart_begins hplace hpg hm hc hb hcl hsync, fun k => partnerStart_goesOn hplace hpg hm hc hb hcl hsync⟩,
        partnerStart_refuses hplace hpg hm⟩,
      fun i j pg hplace hpg hm => partnerStart_of_noBerth hplace hpg hm, partnerStart_of_nowhere⟩,
    fun n arms k s hd hst => ⟨fun a ha hp => partnerDwellEnd_found hd hst ha hp, fun ha => ⟨fun hk =>
        ⟨_, (partnerDwellEnd_eq hd hst ha).trans (congrArg Host.Outcome.next (if_pos hk)), ?dwell⟩,
      fun hk hkind => ⟨_, (partnerDwellEnd_eq hd hst ha).trans (congrArg Host.Outcome.next (if_neg (Nat.not_lt.2 hk))),
        State.refuseStart_spec hkind 1 s.afterRefusal_lt⟩⟩⟩,
    fun n arms s => partnerDwellEnd_of_none,
    fun side n v s h => ⟨⟨_, opened h _ _, ?codeInc⟩, ⟨_, opened h _ _, ?carrInc⟩, ⟨_, opened h _ _, ?code⟩, ⟨_, opened h _ _, ?carr⟩⟩,
    fun n s => ⟨_, rfl, rfl⟩,
    fun n s => ⟨fun hl => ⟨_, congrArg Host.Outcome.next (if_pos ?lost), s.loseLock_spec n⟩,
      fun hl => congrArg Host.Outcome.next (if_neg ?held)⟩,
    fun x n s h => ⟨fun he => ?idle, fun he => ?line⟩,
    fun x n el vevl s h => ⟨fun hn => ?spacing0, fun hn hr => ?spacingOut, fun hn hr => ?spacingIn⟩,
    fun x n pll fll dll s h => ⟨fun hn => (body h _).trans (congrArg Host.Outcome.next (if_pos hn)),
      fun hn hr => (body h _).trans (congrArg Host.Outcome.next ((if_neg (by rw [hn]; exact Bool.false_ne_true)).trans
        (if_neg (by rw [hr]; exact Bool.false_ne_true)))),
      fun hn hr => ⟨_, (body h _).trans (congrArg Host.Outcome.next ((if_neg (by rw [hn]; exact Bool.false_ne_true)).trans
        (if_pos hr))), ?loop⟩⟩⟩
  case off => exact (opened h _ _).trans (congrArg Host.Outcome.next (if_neg (by rw [he]; exact Bool.false_ne_true)))
  case dwell => rw [State.berth_modBerth_same]
  case codeInc =>
    unfold State.stageInc
    refine ⟨?_, (State.markStaged_get _ _ _).2.2.trans ?_⟩
    · rw [State.markStaged_berth, State.berth_modBerth_same]; rfl
    · rw [State.berth_modBerth_same]; rfl
  case carrInc =>
    unfold State.stageInc
    refine ⟨?_, (State.markStaged_get _ _ _).2.2.trans ?_⟩
    · rw [State.markStaged_berth, State.berth_modBerth_same]; rfl
    · rw [State.berth_modBerth_same]
      simp only [if_pos, Option.isSome_some, Bool.or_true]
      rfl
  case code =>
    unfold State.stageLoad
    refine ⟨?_, (State.markStaged_get _ _ _).1.trans ?_⟩
    · rw [State.markStaged_berth, State.berth_modBerth_same]; rfl
    · rw [State.berth_modBerth_same]; rfl
  case carr =>
    unfold State.stageLoad
    refine ⟨?_, (State.markStaged_get _ _ _).2.1.trans ?_⟩
    · rw [State.markStaged_berth, State.berth_modBerth_same]; rfl
    · rw [State.berth_modBerth_same]; rfl
  case lost =>
    simp only [State.weak, Bool.and_eq_true, Bool.or_eq_true, beq_iff_eq, decide_eq_true_eq]
    exact ⟨⟨hl.1, hl.2.1⟩, hl.2.2⟩
  case held =>
    simp only [State.weak, Bool.and_eq_true, Bool.or_eq_true, beq_iff_eq, decide_eq_true_eq]
    exact fun hall => hl ⟨hall.1.1, hall.1.2, hall.2⟩
  case idle =>
    refine (body h _).trans (congrArg Host.Outcome.next ?_)
    exact congrArg (fun l => (s.reply x l).ok x) (if_neg (by rw [he]; exact Bool.false_ne_true))
  case line =>
    refine (body h _).trans (congrArg Host.Outcome.next ?_)
    exact congrArg (fun l => (s.reply x l).ok x) (if_pos he)
  case spacing0 =>
    obtain ⟨rfl, rfl⟩ := hn
    exact body h _
  case spacingOut =>
    exact (body h _).trans (congrArg Host.Outcome.next ((if_neg (by simpa using hn)).trans (if_neg fun hall => hr (spacings_fit_iff.1 hall))))
  case spacingIn =>
    refine ⟨_, (body h _).trans (congrArg Host.Outcome.next ((if_neg (by simpa using hn)).trans (if_pos (spacings_fit_iff.2 hr)))), ?_⟩
    rw [State.markStaged_berth, State.berth_modBerth_same]
  case loop =>
    rw [State.markStaged_berth, State.berth_modBerth_same]

end Sys2Proof

/-! PROOF. The dumps of a berth (O17). -/

namespace Sys2Proof.Machine

/-- `t` holds of berth `n` the accumulators, the number of the dump and what waits for its quiet point as `s` does. -/
structure Carries (n : Nat) (s t : State) : Prop where
  accs : (t.berth n).accs = (s.berth n).accs
  seq : (t.berth n).seq = (s.berth n).seq
  next : (t.berth n).next = (s.berth n).next
  leaving : (t.berth n).leaving = (s.berth n).leaving

namespace Carries

variable {n : Nat} {s t u : State}

theorem refl : Carries n s s := ⟨rfl, rfl, rfl, rfl⟩

theorem trans (h : Carries n s t) (k : Carries n t u) : Carries n s u :=
  ⟨k.accs.trans h.accs, k.seq.trans h.seq, k.next.trans h.next, k.leaving.trans h.leaving⟩

theorem ite {c : Prop} [Decidable c] {a b : State} (ha : Carries n s a) (hb : Carries n s b) : Carries n s (if c then a else b) := by
  split
  · exact ha
  · exact hb

theorem of_keepsBerths (h : KeepsBerths s t) : Carries n s t := by
  have hb := h.berth n
  exact ⟨congrArg _ hb, congrArg _ hb, congrArg _ hb, congrArg _ hb⟩

theorem of_frame {e : List Part} (h : Frame e s t) (hn : Part.sub [.gnss] e = false) : Carries n s t := of_keepsBerths (.of_frame h hn)

/-- A change of the berth's other parts. -/
theorem of_berth {b : BerthState} (h : t.berth n = b) (ha : b.accs = (s.berth n).accs) (hs : b.seq = (s.berth n).seq)
    (hx : b.next = (s.berth n).next) (hl : b.leaving = (s.berth n).leaving) : Carries n s t := by
  subst h
  exact ⟨ha, hs, hx, hl⟩

theorem of_modBerth {f : BerthState → BerthState} (ha : ∀ b, (f b).accs = b.accs := by exact fun _ => rfl)
    (hs : ∀ b, (f b).seq = b.seq := by exact fun _ => rfl) (hx : ∀ b, (f b).next = b.next := by exact fun _ => rfl)
    (hl : ∀ b, (f b).leaving = b.leaving := by exact fun _ => rfl) : Carries n s (s.modBerth n f) :=
  of_berth (State.berth_modBerth_same s n f) (ha _) (hs _) (hx _) (hl _)

theorem put (s : State) (f : Fld) (v : Nat) : Carries n s (s.put f v) := of_keepsBerths (State.put_keepsBerths s f v)

theorem puts (s : State) (l : List (Fld × Nat)) : Carries n s (s.puts l) := of_keepsBerths (State.puts_keepsBerths s l)

end Carries

section

variable (n : Nat)

theorem State.refuseStart_carries (s : State) (cause v : Nat) : Carries n s (s.refuseStart n cause v) := by
  unfold State.refuseStart
  dsimp only
  refine Carries.ite .refl ?_
  generalize hm : State.count _ _ = m
  have hsm : Carries n s m := by
    rw [← hm]
    exact .of_keepsBerths (((State.retract_keepsBerths _ _ _ _).trans (State.settleUnits_keepsBerths _ _ _ _)).trans (State.count_keepsBerths _ _))
  have hend : Carries n m ((m.endStart n v).afterRefused n (s.berth n) true) := by
    refine .of_berth (State.afterRefused_berth _ _ _ _) ?_ ?_ ?_ ?_ <;> rw [State.endStart_berth]
  generalize (m.endStart n v).afterRefused n (s.berth n) true = t at hend ⊢
  refine (hsm.trans hend).trans (Carries.ite (.of_frame State.raiseLoss_frame rfl) ?_)
  exact .of_modBerth

theorem State.symbolFails_carries (s : State) (cause first word k : Nat) : Carries n s (s.symbolFails n cause first word k) := by
  unfold State.symbolFails
  dsimp only
  generalize hm : State.raise0 _ _ = m
  have hsm : Carries n s m := by
    rw [← hm]
    refine Carries.trans ?_ (.of_frame State.raise0_frame rfl)
    exact (Carries.put s F.SILLAGE_CNT_BITFAIL _).trans .of_modBerth
  refine hsm.trans (Carries.ite (State.refuseStart_carries n _ _ _) ?_)
  refine Carries.trans (t := ite _ _ _) ?_ .of_modBerth
  exact .of_keepsBerths (.ite rfl (KeepsBerths.trans (t := m.modEntries _ _) rfl (State.retract_keepsBerths _ _ _ _)))

theorem State.checkSymbol_carries (s : State) (d : Bool) (at_ w : Nat) : Carries n s (s.checkSymbol n d at_ w) := by
  unfold State.checkSymbol
  dsimp only
  split
  · refine Carries.ite .refl ?_
    generalize hm : s.setBerth n _ = m
    have hsm : Carries n s m := by
      rw [← hm]
      exact .of_berth (State.berth_setBerth_same _ _ _) rfl rfl rfl rfl
    exact Carries.ite hsm (hsm.trans (State.symbolFails_carries n _ _ _ _ _))
  · exact .refl

theorem State.logUnit_keepsBerths (s : State) (r : LoggedUnit) : KeepsBerths s (s.logUnit r).1 := by
  unfold State.logUnit
  dsimp only
  generalize (if s.get F.BITLOG_HEAD_IDX + unitBlocks (LoggedUnit.bits r.u.unit) ≤ 2 ^ s.gnss.bitlog.2 then 0
    else 2 ^ s.gnss.bitlog.2 - s.get F.BITLOG_HEAD_IDX) = pad
  split
  · exact .refl
  split
  · generalize hd : s.dropUnits _ _ = d
    have hkept : KeepsBerths s d := by rw [← hd]; rfl
    exact hkept.trans (.of_frame (e := [.rBitlog, .mem, .chk]) (Frame.trans (State.bitPad_frame.mono rfl) (State.bitBlocks_frame.mono rfl)) rfl)
  · exact KeepsBerths.trans (State.count_keepsBerths _ _) (.of_frame State.raiseK_frame rfl)

theorem State.decodeUnit_carries (s : State) (n : Fin 256) (u : NavUnit) : Carries n s (s.decodeUnit n u) := by
  unfold State.decodeUnit
  dsimp only
  refine Carries.ite .refl ?_
  generalize hm : State.modBerth _ _ _ = m
  have hsm : Carries n s m := by
    rw [← hm]
    refine Carries.trans (t := State.withGnss _ _) ?_ .of_modBerth
    exact .of_keepsBerths ((State.logUnit_keepsBerths s _).trans rfl)
  exact Carries.ite (hsm.trans (State.symbolFails_carries n _ _ _ _ _)) hsm

theorem State.findPreamble_carries (s : State) (p framed : Bool) : Carries n s (s.findPreamble n p framed) := by
  unfold State.findPreamble
  dsimp only
  refine Carries.trans (Carries.ite ?_ .refl) .of_modBerth
  unfold State.settlePolarity
  exact Carries.ite .refl ((Carries.put s (F.BERTH_STAT_HALF n) 0).trans .of_modBerth)

end

/-- PD_DUMP keeps of a pair's accumulators those of the arms, and takes the two of the data component. -/
theorem State.pdDump_accs {s : State} {n : Fin 256} (i q : Word) (sym : Option (Bool × Nat × Nat)) (unit : Option NavUnit)
    (pre : Option (Bool × Bool)) (he : s.on (F.BERTH_CFG_EN n) = true)
    (hst : s.get (F.BERTH_STAT_STATE n) = 2 ∨ s.get (F.BERTH_STAT_STATE n) = 4)
    (hr : s.bandRuns (Sig.band (s.get (F.BERTH_CFG_SIG n))) = true) (hlen : (s.berth n).accs.length = 12) :
    ((s.pdDump n i q sym unit pre).berth n).accs = if Sig.pair (s.get (F.BERTH_CFG_SIG n)) then (s.berth n).accs.take 10 ++ [i.toNat, q.toNat]
      else (s.berth n).accs := by
  unfold State.pdDump
  dsimp only
  rw [if_neg (by rw [he, hr]; rcases hst with hst | hst <;> rw [hst] <;> decide)]
  generalize hm : (if Sig.pair (s.get (F.BERTH_CFG_SIG n)) = true then s.modBerth n _ else s) = m
  have hacc : (m.berth n).accs = if Sig.pair (s.get (F.BERTH_CFG_SIG n)) then (s.berth n).accs.take 10 ++ [i.toNat, q.toNat]
      else (s.berth n).accs := by
    rw [← hm]
    split
    · rw [State.berth_modBerth_same, List.take_append_of_le_length (by omega)]
    · rfl
  rw [← hacc]
  refine Carries.accs (Carries.ite .refl ?_)
  have hsym : ∀ (t : State) (d : Bool) (a w : Nat), Carries n t (t.checkSymbol n d a w) := State.checkSymbol_carries n
  have hunit : ∀ (t : State) (u : NavUnit), Carries n t (if (t.berth n).kind.isSome then t.decodeUnit n u else t) := fun t u =>
    Carries.ite (State.decodeUnit_carries t n u) .refl
  have hpre : ∀ t : State, Carries n t (match pre with
      | some (p, framed) => if (t.berth n).kind.isSome then t.findPreamble n p framed else t
      | none => t) := fun t => by
    split
    · exact Carries.ite (State.findPreamble_carries _ _ _ _) .refl
    · exact .refl
  rcases sym with _ | ⟨d, a, w⟩ <;> rcases unit with _ | u
  · exact hpre m
  · exact (hunit m u).trans (hpre _)
  · exact (hsym m d a w).trans (hpre _)
  · exact ((hsym m d a w).trans (hunit _ u)).trans (hpre _)

/-! The steps of BERTH_DUMP. -/

/-- The values that a dump in pull-in or track puts into the berth's registers. -/
def dumpFields (n : Nat) : List Fld := [F.BERTH_CN0_CN0 n, F.BERTH_DISC_CODE n, F.BERTH_DISC_CARR n]

theorem dumpFields_underived {n : Nat} : ∀ f ∈ dumpFields n, Underived n f := by
  unfold dumpFields Underived
  simp only [List.forall_mem_cons, List.not_mem_nil, false_implies, implies_true, and_true, Fld.key, F.BERTH_CN0_CN0, F.BERTH_DISC_CODE,
    F.BERTH_DISC_CARR]
  omega

/-- Fields of other words than CN0 and DISC. -/
theorem dumpFields_key {n : Nat} : ∀ f ∈ dumpFields n, ∀ g ∈ [F.BERTH_CN0_LOCKT n, F.BERTH_STAT_STATE n, F.BERTH_STAT_HALF n,
    F.BERTH_STAT_SIDEJ n, F.BERTH_STAT_BOND n, F.BERTH_CODE_INC_INC n, F.BERTH_CARR_INC_INC n, F.BERTH_LOAD_CODE_PEND n,
    F.BERTH_LOAD_CARR_PEND n, F.BERTH_LOAD_INC_PEND n], f.key ≠ g.key := by
  unfold dumpFields
  simp only [List.forall_mem_cons, List.not_mem_nil, false_implies, implies_true, and_true, Fld.key, F.BERTH_CN0_CN0, F.BERTH_DISC_CODE,
    F.BERTH_DISC_CARR, F.BERTH_CN0_LOCKT, F.BERTH_STAT_STATE, F.BERTH_STAT_HALF, F.BERTH_STAT_SIDEJ, F.BERTH_STAT_BOND, F.BERTH_CODE_INC_INC,
    F.BERTH_CARR_INC_INC, F.BERTH_LOAD_CODE_PEND, F.BERTH_LOAD_CARR_PEND, F.BERTH_LOAD_INC_PEND]
  omega

/-- `t` comes from `s` with the values of the dump and what the berth carries. -/
def Dumped (n : Nat) (s t : State) : Prop := Carries n s t ∧ Same (dumpFields n) s t

namespace Dumped

variable {n : Nat} {s t u : State}

theorem refl : Dumped n s s := ⟨.refl, .refl⟩

theorem trans (h : Dumped n s t) (k : Dumped n t u) : Dumped n s u := ⟨h.1.trans k.1, h.2.trans k.2⟩

theorem ite {c : Prop} [Decidable c] {a b : State} (ha : Dumped n s a) (hb : Dumped n s b) : Dumped n s (if c then a else b) :=
  ⟨.ite ha.1 hb.1, .ite ha.2 hb.2⟩

theorem put {f : Fld} (v : Nat) (h : ∀ g ∈ dumpFields n, g.key ≠ f.key) : Dumped n s (s.put f v) := ⟨.put _ _ _, .of_put h⟩

theorem of_modBerth {f : BerthState → BerthState} (ha : ∀ b, (f b).accs = b.accs := by exact fun _ => rfl)
    (hs : ∀ b, (f b).seq = b.seq := by exact fun _ => rfl) (hx : ∀ b, (f b).next = b.next := by exact fun _ => rfl)
    (hl : ∀ b, (f b).leaving = b.leaving := by exact fun _ => rfl) : Dumped n s (s.modBerth n f) :=
  ⟨.of_modBerth ha hs hx hl, fun _ _ => rfl⟩

theorem derive (s : State) (n : Nat) : Dumped n s (s.deriveBerth n) :=
  ⟨.of_frame State.deriveBerth_frame rfl, fun f hf => State.deriveBerth_get (dumpFields_underived f hf) s⟩

end Dumped

theorem State.reportLoads_dumped (s : State) (n : Nat) : Dumped n s (s.reportLoads n) := by
  unfold State.reportLoads State.flag
  dsimp only
  refine Dumped.trans ?_ (Dumped.put _ fun g hg => dumpFields_key g hg _ (by simp))
  refine Dumped.trans ?_ (Dumped.put _ fun g hg => dumpFields_key g hg _ (by simp))
  exact Dumped.put _ fun g hg => dumpFields_key g hg _ (by simp)

theorem State.timeDump_dumped (s : State) (n ms : Nat) : Dumped n s (s.timeDump n ms) := by
  unfold State.timeDump
  dsimp only
  generalize hm : s.modBerth n _ = m
  have hsm : Dumped n s m := by rw [← hm]; exact .of_modBerth
  refine hsm.trans (Dumped.ite (Dumped.ite ?_ .refl) (Dumped.ite ?_ .refl))
  · refine Dumped.trans ?_ (Dumped.put _ fun g hg => dumpFields_key g hg _ (by simp))
    exact .of_modBerth
  · refine Dumped.trans ?_ .of_modBerth
    exact Dumped.put _ fun g hg => dumpFields_key g hg _ (by simp)

theorem State.putArms_dumped (s : State) (n v : Nat) : Dumped n s (s.putArms n v) := by
  unfold State.putArms
  refine ⟨.puts _ _, .of_puts fun f hf => ?_⟩
  have h := dumpFields_underived f hf
  unfold Underived at h
  simp only [List.forall_mem_cons, List.not_mem_nil, false_implies, implies_true, and_true, Fld.key, F.BERTH_ARMS_EL, F.BERTH_ARMS_VEVL] at h ⊢
  omega

theorem State.putLoop_dumped (s : State) (n v : Nat) : Dumped n s (s.putLoop n v) := by
  unfold State.putLoop
  refine ⟨.puts _ _, .of_puts fun f hf => ?_⟩
  have h := dumpFields_underived f hf
  unfold Underived at h
  simp only [List.forall_mem_cons, List.not_mem_nil, false_implies, implies_true, and_true, Fld.key, F.BERTH_LOOP_PLL_BW, F.BERTH_LOOP_PLL_OPEN,
    F.BERTH_LOOP_FLL_BW, F.BERTH_LOOP_FLL_OPEN, F.BERTH_LOOP_DLL_BW, F.BERTH_LOOP_DLL_OPEN] at h ⊢
  omega

/-- A staged write that applies or not. -/
theorem Dumped.staged {n : Nat} {s : State} {f : State → Nat → State} (h : ∀ t v, Dumped n t (f t v)) (o : Option Staged) :
    Dumped n s (match o with | some ⟨v, false⟩ => f s v | _ => s) := by
  split
  · exact h _ _
  · exact .refl

theorem State.applyLoads_dumped (s : State) (n : Nat) : Dumped n s (s.applyLoads n) := by
  have hput : ∀ (t : State) (g : Fld) (v : Nat), g ∈ [F.BERTH_CN0_LOCKT n, F.BERTH_STAT_STATE n, F.BERTH_STAT_HALF n,
      F.BERTH_STAT_SIDEJ n, F.BERTH_STAT_BOND n, F.BERTH_CODE_INC_INC n, F.BERTH_CARR_INC_INC n, F.BERTH_LOAD_CODE_PEND n,
      F.BERTH_LOAD_CARR_PEND n, F.BERTH_LOAD_INC_PEND n] → Dumped n t (t.put g v) := fun t g v hg =>
    Dumped.put v fun f hf => dumpFields_key f hf g hg
  unfold State.applyLoads
  dsimp only
  refine Dumped.trans ?_ (State.reportLoads_dumped _ _)
  refine Dumped.trans ?_ .of_modBerth
  refine Dumped.trans ?_ (Dumped.staged (f := fun t v => t.putLoop n v) (fun t v => State.putLoop_dumped t n v) _)
  refine Dumped.trans ?_ (Dumped.staged (f := fun t v => t.putArms n v) (fun t v => State.putArms_dumped t n v) _)
  refine Dumped.trans ?_ (Dumped.staged (f := fun t v => t.put (F.BERTH_CARR_INC_INC n) v) (fun t v => hput t _ v (by simp)) _)
  refine Dumped.trans ?_ (Dumped.staged (f := fun t v => t.put (F.BERTH_CODE_INC_INC n) v) (fun t v => hput t _ v (by simp)) _)
  generalize hm : (if (s.berth n).loadCode = some false then s.modBerth n _ else s) = m
  have hsm : Dumped n s m := by rw [← hm]; exact Dumped.ite .of_modBerth .refl
  refine hsm.trans (Dumped.ite ?_ .refl)
  refine Dumped.trans ?_ (hput _ _ _ (by simp))
  refine Dumped.trans ?_ (hput _ _ _ (by simp))
  exact .of_modBerth

theorem State.applyMove_dumped (s : State) (n : Nat) : Dumped n s (s.applyMove n) := by
  unfold State.applyMove
  split
  · exact Dumped.trans .of_modBerth (Dumped.put _ fun g hg => dumpFields_key g hg _ (by simp))
  · exact .refl

theorem State.closeLoops_dumped (s : State) (n : Nat) (d : DumpData) : Dumped n s (s.closeLoops n d) := by
  unfold State.closeLoops
  dsimp only
  have hcode : Dumped n s (if s.on (F.BERTH_LOOP_DLL_OPEN n) then s else s.put (F.BERTH_CODE_INC_INC n) d.codeInc.toNat) :=
    Dumped.ite .refl (Dumped.put _ fun g hg => dumpFields_key g hg _ (by simp))
  exact hcode.trans (Dumped.ite .refl (Dumped.put _ fun g hg => dumpFields_key g hg _ (by simp)))

/-- The discriminators and C/N0 of a dump that is judged. -/
theorem State.judgeDump_spec (s : State) (n : Nat) (d : DumpData) : Carries n s (s.judgeDump n d) ∧
    (s.judgeDump n d).get (F.BERTH_CN0_CN0 n) = d.cn0.toNat ∧ (s.judgeDump n d).get (F.BERTH_DISC_CODE n) = d.code.toNat ∧
    (s.judgeDump n d).get (F.BERTH_DISC_CARR n) = d.carr.toNat := by
  unfold State.judgeDump
  dsimp only
  have hsync : Carries n s (match d.sync with
      | some pos => if s.on (F.BERTH_STAT_SEC_SYNC n) then s else (s.put (F.BERTH_STAT_SEC_SYNC n) 1).modBerth n fun b => { b with sec := pos }
      | none => s) := by
    split
    · exact Carries.ite .refl ((Carries.put s (F.BERTH_STAT_SEC_SYNC n) 1).trans .of_modBerth)
    · exact .refl
  refine ⟨?_, ?_⟩
  · refine Carries.trans ?_ (.of_frame State.spend_frame rfl)
    refine Carries.trans ?_ (.puts _ _)
    refine Carries.trans ?_ .of_modBerth
    exact hsync.trans (Carries.ite (.put _ _ _) .refl)
  · generalize State.modBerth _ n _ = m
    have hfree : ∀ (t : State) (f : Fld), t.spend.get f = t.get f := fun _ _ => rfl
    simp only [hfree, State.puts]
    have hne : ∀ f ∈ [F.BERTH_CN0_CN0 n, F.BERTH_DISC_CODE n, F.BERTH_DISC_CARR n],
        ∀ g ∈ [F.BERTH_STAT_FLOCK n, F.BERTH_STAT_PLOCK n, F.BERTH_STAT_CLOCK n], f.key ≠ g.key := by
      simp only [List.forall_mem_cons, List.not_mem_nil, false_implies, implies_true, and_true, Fld.key, F.BERTH_CN0_CN0, F.BERTH_DISC_CODE,
        F.BERTH_DISC_CARR, F.BERTH_STAT_FLOCK, F.BERTH_STAT_PLOCK, F.BERTH_STAT_CLOCK]
      omega
    have hkeys : (F.BERTH_DISC_CODE n).key ≠ (F.BERTH_CN0_CN0 n).key ∧ (F.BERTH_DISC_CARR n).key ≠ (F.BERTH_CN0_CN0 n).key ∧
        (F.BERTH_DISC_CODE n).key ≠ (F.BERTH_DISC_CARR n).key := by
      simp only [Fld.key, F.BERTH_CN0_CN0, F.BERTH_DISC_CODE, F.BERTH_DISC_CARR]; omega
    obtain ⟨k1, k2, k3⟩ := hkeys
    refine ⟨?_, ?_, ?_⟩
    all_goals iterate 3 rw [State.get_put_other _ _ (hne _ (by simp) _ (by simp))]
    · rw [State.get_put_same]; exact Nat.mod_eq_of_lt d.cn0.isLt
    · rw [State.get_put_other _ _ k1, State.get_put_other _ _ k3, State.get_put_same]; exact Nat.mod_eq_of_lt d.code.isLt
    · rw [State.get_put_other _ _ k2, State.get_put_same]; exact Nat.mod_eq_of_lt d.carr.isLt

/-- What a dump latches. -/
theorem State.latchDump_berth (s : State) (n : Nat) (d : DumpData) : ((s.latchDump n d).berth n).seq = ((s.berth n).seq + 1) % 65536 ∧
    ((s.latchDump n d).berth n).accs = (d.accs.map (·.toNat)).take 10 ++ (s.berth n).accs.drop 10 ∧
    ((s.latchDump n d).berth n).next = (s.berth n).next ∧ ((s.latchDump n d).berth n).leaving = (s.berth n).leaving := by
  have hadv : Carries n s (s.advance n d.before d.after) := by
    unfold State.advance
    exact .of_modBerth
  unfold State.latchDump
  dsimp only
  generalize s.advance n d.before d.after = t at *
  generalize hm : t.modBerth n _ = m
  have hm := congrArg (fun u => u.berth n) hm
  rw [State.berth_modBerth_same] at hm
  rw [← hm, ← hadv.seq, ← hadv.accs, ← hadv.next, ← hadv.leaving]
  exact ⟨rfl, rfl, rfl, rfl⟩

/-- What a dump does after its judgement, up to the quiet point. -/
theorem State.dump_eq {s : State} {n : Nat} {d : DumpData} (he : s.on (F.BERTH_CFG_EN n) = true) (ha : s.berthActive n = true)
    (hr : s.bandRuns (Sig.band (s.get (F.BERTH_CFG_SIG n))) = true) :
    ∃ v u : State, s.dump n d = u.atQuiet n ∧ Carries n (s.latchDump n d) v ∧ Dumped n v u ∧
      (s.get (F.BERTH_STAT_STATE n) = 2 ∨ s.get (F.BERTH_STAT_STATE n) = 4 →
        v.get (F.BERTH_CN0_CN0 n) = d.cn0.toNat ∧ v.get (F.BERTH_DISC_CODE n) = d.code.toNat ∧ v.get (F.BERTH_DISC_CARR n) = d.carr.toNat) := by
  unfold State.dump
  rw [if_neg (by rw [he, ha, hr]; decide)]
  dsimp only
  obtain ⟨ms, lim⟩ := s.interval n (s.berth n).lastAt
  dsimp only
  generalize hs1 : (s.latchDump n d).put (F.BERTH_STAT_COH_LIM n) (bit lim) = s1
  have h1 : Carries n (s.latchDump n d) s1 := by rw [← hs1]; exact .put _ _ _
  generalize hlive : (s.get (F.BERTH_STAT_STATE n) == 2 || s.get (F.BERTH_STAT_STATE n) == 4) = live
  generalize hs2 : (if live = true then (s1.judgeDump n d).timeDump n ms else s1) = s2
  obtain ⟨hcarry, hcn0, hcode, hcarr⟩ := s1.judgeDump_spec n d
  have htime := State.timeDump_dumped (s1.judgeDump n d) n ms
  have h2 : Carries n s1 s2 := by rw [← hs2]; exact .ite (hcarry.trans htime.1) .refl
  refine ⟨s2, _, rfl, h1.trans h2, ?_, fun hst => ?_⟩
  · have hbond : ∀ t : State, Dumped n t (t.showBond n) := fun t => Dumped.put _ fun g hg => dumpFields_key g hg _ (by simp)
    have hraise : ∀ (t : State) (a b c : Nat) (l : List (String × String)), Dumped n t (t.raiseK a b c l) := fun t a b c l =>
      ⟨.of_frame State.raiseK_frame rfl, .of_frame State.raiseK_frame fun f hf => by
        unfold dumpFields at hf
        simp only [List.mem_cons, List.not_mem_nil, or_false] at hf
        rcases hf with rfl | rfl | rfl
        · rw [F.BERTH_CN0_CN0_part]; rfl
        · rw [F.BERTH_DISC_CODE_part]; rfl
        · rw [F.BERTH_DISC_CARR_part]; rfl⟩
    generalize hs3 : (s2.applyLoads n).applyMove n = s3
    have h3 : Dumped n s2 s3 := by rw [← hs3]; exact (State.applyLoads_dumped _ _).trans (State.applyMove_dumped _ _)
    generalize hs4 : s3.modBerth n _ = s4
    have h4 : Dumped n s3 s4 := by rw [← hs4]; exact .of_modBerth
    generalize hs5 : (if live = true then (s4.closeLoops n d).deriveBerth n else s4) = s5
    have h5 : Dumped n s4 s5 := by
      rw [← hs5]; exact .ite ((State.closeLoops_dumped _ _ _).trans (.derive _ _)) .refl
    generalize hs6 : s5.modBerth n _ = s6
    have h6 : Dumped n s5 s6 := by rw [← hs6]; exact .of_modBerth
    exact ((((h3.trans h4).trans h5).trans h6).trans (hbond s6)).trans (.ite (hraise _ _ _ _ _) .refl)
  · have hon : live = true := by rw [← hlive]; simpa using hst
    rw [← hs2, if_pos hon, htime.2 _ (by simp [dumpFields]), htime.2 _ (by simp [dumpFields]), htime.2 _ (by simp [dumpFields])]
    exact ⟨hcn0, hcode, hcarr⟩

/-- A dump of a berth that runs, for which nothing waits. -/
theorem State.dump_spec {s : State} {n : Nat} (d : DumpData) (he : s.on (F.BERTH_CFG_EN n) = true) (ha : s.berthActive n = true)
    (hr : s.bandRuns (Sig.band (s.get (F.BERTH_CFG_SIG n))) = true) (hn : (s.berth n).next = none) (hl : (s.berth n).leaving = []) :
    ((s.dump n d).berth n).seq = ((s.berth n).seq + 1) % 65536 ∧
    ((s.dump n d).berth n).accs = (d.accs.map (·.toNat)).take 10 ++ (s.berth n).accs.drop 10 ∧
    (s.get (F.BERTH_STAT_STATE n) = 2 ∨ s.get (F.BERTH_STAT_STATE n) = 4 →
      (s.dump n d).get (F.BERTH_CN0_CN0 n) = d.cn0.toNat ∧ (s.dump n d).get (F.BERTH_DISC_CODE n) = d.code.toNat ∧
        (s.dump n d).get (F.BERTH_DISC_CARR n) = d.carr.toNat) := by
  obtain ⟨v, u, hdump, hv, hu, hfields⟩ := State.dump_eq (d := d) he ha hr
  obtain ⟨hseq, haccs, hnext, hleaving⟩ := s.latchDump_berth n d
  have hall := hv.trans hu.1
  have hstill : u.atQuiet n = u := State.atQuiet_still ((hall.next.trans hnext).trans hn) ((hall.leaving.trans hleaving).trans hl)
  rw [hdump, hstill]
  refine ⟨hall.seq.trans hseq, hall.accs.trans haccs, fun hst => ?_⟩
  rw [hu.2 _ (by simp [dumpFields]), hu.2 _ (by simp [dumpFields]), hu.2 _ (by simp [dumpFields])]
  exact hfields hst

end Sys2Proof.Machine

namespace Sys2Proof

open Sys2Proof.Machine

section

variable {n : Fin 256} {s : State}

/-- The check of a BOC berth's side peaks, by the three sums. -/
theorem sidePeakCheck_eq {ve p vl : Nat} (hk : (s.berth n).kind.isSome = true) (hb : s.on (F.BERTH_CFG_BOC n) = true)
    (hok : s.on (F.BERTH_STAT_BOC_OK n) = false) (hm : (s.berth n).move = none) (hv : s.get (F.BERTH_ARMS_VEVL n) = 32)
    (hst : s.get (F.BERTH_STAT_STATE n) = 2 ∨ s.get (F.BERTH_STAT_STATE n) = 4) (hsums : (s.berth n).sideSums = [ve, p, vl]) :
    ∃ r : Nat × Nat, exec (.sidePeakCheck n) s = .next (
      let s1 := s.modBerth n fun t => { t with side := r, sideSums := [] }
      if p ≠ 0 ∧ ve * 10 ≤ 6 * p ∧ vl * 10 ≤ 6 * p then s1.put (F.BERTH_STAT_BOC_OK n) 1
      else if 4 ≤ s.get (F.BERTH_STAT_SIDEJ n) then s1.refuseStart n 6 s.afterRefusal
      else if 3 * p ≤ 2 * max ve vl then s1.modBerth n fun t => { t with move := some (decide (ve ≤ vl)) }
      else s1) := by
  refine ⟨(if p = 0 then 0xFFFF else min 0xFFFF (ve * 256 / p), if p = 0 then 0xFFFF else min 0xFFFF (vl * 256 / p)), ?_⟩
  show execSidePeakCheck n s = _
  unfold execSidePeakCheck
  dsimp only
  rw [if_neg (by
    rw [Option.isNone_eq_false_iff.2 hk, hb, hok, hm, hv]
    rcases hst with hst | hst <;> rw [hst] <;> decide), hsums]
  rfl

theorem sidePeakCheck_of_not (h : ¬((s.berth n).kind.isSome = true ∧ s.on (F.BERTH_CFG_BOC n) = true ∧ s.on (F.BERTH_STAT_BOC_OK n) = false ∧
    (s.berth n).move = none ∧ s.get (F.BERTH_ARMS_VEVL n) = 32 ∧
    (s.get (F.BERTH_STAT_STATE n) = 2 ∨ s.get (F.BERTH_STAT_STATE n) = 4))) : exec (.sidePeakCheck n) s = .next s := by
  refine congrArg Host.Outcome.next (if_pos (Classical.byContradiction fun hc => h ?_))
  simp only [Bool.or_eq_true, Bool.and_eq_true, Bool.not_eq_true', bne_iff_ne, not_or, not_and, ne_eq, Decidable.not_not,
    Bool.not_eq_false, Bool.not_eq_true, Option.isNone_eq_false_iff, Option.isSome_eq_false_iff] at hc
  obtain ⟨⟨⟨⟨⟨hk, hb⟩, hok⟩, hm⟩, hv⟩, hst⟩ := hc
  refine ⟨hk, hb, hok, Option.isNone_iff_eq_none.1 hm, hv, ?_⟩
  by_cases h2 : s.get (F.BERTH_STAT_STATE n) = 2
  · exact .inl h2
  · exact .inr (hst h2)

end

/-- Settles O17: `State.dump_spec` and `State.pdDump_accs` follow what the berth carries through the steps of a dump. -/
theorem berthDumps : Obligations.BerthDumps := by
  unfold Obligations.BerthDumps
  refine ⟨fun n d s => ⟨fun hr hn hl => ⟨_, rfl, ?dump⟩, fun hr => congrArg Host.Outcome.next (if_pos ?stands)⟩,
    fun n i q sym unit pre s => ⟨fun hr hlen => ⟨_, rfl, State.pdDump_accs i q sym unit pre hr.1 hr.2.1 hr.2.2 hlen⟩,
      fun hr => congrArg Host.Outcome.next (if_pos ?pdStands)⟩,
    fun n ve p vl s => ⟨fun hg hs => ?peak, sidePeakCheck_of_not⟩⟩
  case dump =>
    obtain ⟨he, h1, h5, hb⟩ := hr
    exact State.dump_spec d he (by unfold State.berthActive; simp [h1, h5]) hb hn hl
  case stands =>
    refine Classical.byContradiction fun hc => hr ?_
    simp only [State.berthActive, Bool.or_eq_true, Bool.not_eq_true', Bool.and_eq_false_iff, decide_eq_false_iff_not, not_or, Decidable.not_not,
      Bool.not_eq_false] at hc
    exact ⟨hc.1.1, hc.1.2.1, hc.1.2.2, hc.2⟩
  case pdStands =>
    refine Classical.byContradiction fun hc => hr ?_
    simp only [Bool.or_eq_true, Bool.and_eq_true, Bool.not_eq_true', bne_iff_ne, not_or, not_and, ne_eq, Decidable.not_not,
      Bool.not_eq_false] at hc
    refine ⟨hc.1.1, ?_, hc.2⟩
    by_cases h2 : s.get (F.BERTH_STAT_STATE n) = 2
    · exact .inl h2
    · exact .inr (hc.1.2 h2)
  case peak =>
    obtain ⟨hk, hb, hok, hm, hv, hst⟩ := hg
    obtain ⟨r, h⟩ := sidePeakCheck_eq hk hb hok hm hv hst hs
    have hside : ((s.modBerth n fun t => { t with side := r, sideSums := [] }).berth n) = { s.berth n with side := r, sideSums := [] } :=
      State.berth_modBerth_same _ _ _
    dsimp only at h
    generalize hs1 : (s.modBerth n fun t => { t with side := r, sideSums := [] }) = s1 at h hside
    refine ⟨fun hp => ⟨_, h.trans (congrArg Host.Outcome.next (if_pos hp)), ?ok, ?okSums⟩, fun hp =>
      ⟨fun h4 => ⟨_, h.trans (congrArg Host.Outcome.next ((if_neg hp).trans (if_pos h4))), ?refused⟩,
        fun h4 hside => ⟨_, h.trans (congrArg Host.Outcome.next ((if_neg hp).trans ((if_neg (Nat.not_le.2 h4)).trans (if_pos hside)))), ?moved⟩,
        fun h4 hside => ⟨_, h.trans (congrArg Host.Outcome.next ((if_neg hp).trans ((if_neg (Nat.not_le.2 h4)).trans
          (if_neg (Nat.not_le.2 hside))))), ?goesOn⟩⟩⟩
    case ok => unfold State.on; rw [State.get_put_same]; rfl
    case okSums => rw [(State.put_keepsBerths _ _ _).berth, hside]
    case refused =>
      obtain ⟨hstate, hkind⟩ := State.refuseStart_spec (s := s1) (n := n) (by rw [hside]; exact hk) 6 s.afterRefusal_lt
      exact ⟨hkind, hstate⟩
    case moved => rw [State.berth_modBerth_same, ‹s1.berth n = _›]; exact ⟨rfl, rfl⟩
    case goesOn =>
      rw [‹s1.berth n = _›]
      exact ⟨hm, rfl, by rw [← hs1]; exact hok⟩

end Sys2Proof

/-! PROOF. Bursts, starts and the front end (O18). -/

namespace Sys2Proof.Machine

/-- The signed number's pattern fits its field. -/
theorem pattern_lt (w : Nat) (v : Int) : pattern w v < 2 ^ w := by
  unfold pattern
  have hpos : (0 : Int) < ((2 ^ w : Nat) : Int) := by exact_mod_cast Nat.two_pow_pos w
  have h := Int.emod_lt_of_pos v hpos
  have h0 := Int.emod_nonneg v (Int.ne_of_gt hpos)
  omega

/-! The window of a burst through an event of the router. -/

/-- `t` has the burst window as `s` does. -/
def SameWindow (s t : State) : Prop := t.gnss.window = s.gnss.window ∧ t.gnss.settling = s.gnss.settling ∧ t.gnss.tw = s.gnss.tw

namespace SameWindow

variable {s t u : State}

theorem refl : SameWindow s s := ⟨rfl, rfl, rfl⟩

theorem trans (h : SameWindow s t) (k : SameWindow t u) : SameWindow s u := ⟨k.1.trans h.1, k.2.1.trans h.2.1, k.2.2.trans h.2.2⟩

theorem ite {c : Prop} [Decidable c] {a b : State} (ha : SameWindow s a) (hb : SameWindow s b) : SameWindow s (if c then a else b) := by
  split
  · exact ha
  · exact hb

theorem foldl {β : Type} {f : State → β → State} (h : ∀ t x, SameWindow t (f t x)) (l : List β) (t : State) :
    SameWindow t (l.foldl f t) := by
  induction l generalizing t with
  | nil => exact refl
  | cons x r ih => exact (h t x).trans (ih _)

theorem of_frame {e : List Part} (h : Frame e s t) (hn : Part.sub [.gnss] e = false) : SameWindow s t := by
  have hg : t.gnss = s.gnss := h.same .gnss hn
  exact ⟨congrArg _ hg, congrArg _ hg, congrArg _ hg⟩

theorem put (s : State) (f : Fld) (v : Nat) : SameWindow s (s.put f v) := ⟨rfl, rfl, rfl⟩

theorem modBerth (s : State) (n : Nat) (f : BerthState → BerthState) : SameWindow s (s.modBerth n f) := ⟨rfl, rfl, rfl⟩

end SameWindow

/-- Of the consumers, the capture alone touches the receiver's state, and not the window. -/
theorem State.consume_sameWindow (s : State) (c : Nat) : SameWindow s (s.consume c) := by
  have hcapture : SameWindow s s.startCapture := by
    unfold State.startCapture
    generalize hm : State.puts _ [(F.LOOKOUT_SNAP_BUSY, 1), (F.LOOKOUT_SNAP_VALID, 0)] = m
    have hsm : SameWindow s m := by rw [← hm]; exact ⟨rfl, rfl, rfl⟩
    exact hsm.trans (.of_frame State.deriveMode_frame rfl)
  unfold State.consume
  refine .ite (.of_frame State.dmaTrigger_frame rfl) (.ite (.of_frame State.setEngine_frame rfl) (.ite (.of_frame State.adcStart_frame rfl)
    (.ite (.of_frame State.touchStart_frame rfl) (.ite (.of_frame State.spiStart_frame rfl) (.ite (.of_frame State.evrCapture_frame rfl)
    (.ite (.of_frame State.wake_frame rfl) (.ite hcapture (.ite (.of_frame State.outEvent_frame rfl)
    (.ite (.of_frame State.cutGrant_frame rfl) (.ite (.of_frame State.captureRtc_frame rfl) ?_))))))))))
  exact .put _ _ _

theorem State.fire_sameWindow (s : State) (p : Nat) : SameWindow s (s.fire p) := by
  unfold State.fire
  refine SameWindow.trans (.of_frame State.watch_frame rfl) (SameWindow.foldl (fun t c => ?_) _ _)
  unfold State.reach
  exact .ite (.of_frame State.overrun_frame rfl) (State.consume_sameWindow t c)

/-- The window opens at its time. -/
theorem State.openWindow_spec (s : State) (tw : Nat) :
    (s.openWindow tw).gnss.window = true ∧ (s.openWindow tw).gnss.settling = false ∧ (s.openWindow tw).gnss.tw = tw := by
  unfold State.openWindow
  dsimp only
  generalize hm : (s.put F.SILLAGE_NEXTS_SEC (s.windowAfter s.plannedStart)).withGnss _ = m
  have hw : m.gnss.window = true ∧ m.gnss.settling = false ∧ m.gnss.tw = tw := by rw [← hm]; exact ⟨rfl, rfl, rfl⟩
  have hberths : SameWindow m (m.modBerths fun b => { b with barred := false }) := by
    unfold State.modBerths
    exact SameWindow.foldl (fun t n => .modBerth t n _) _ _
  have hspend : ∀ t : State, SameWindow t t.spendBudget := fun _ => ⟨rfl, rfl, rfl⟩
  obtain ⟨h1, h2, h3⟩ := ((hberths.trans (hspend _)).trans (.of_frame State.deriveMode_frame rfl)).trans (State.fire_sameWindow _ 21)
  exact ⟨h1.trans hw.1, h2.trans hw.2.1, h3.trans hw.2.2⟩

/-- A burst that is skipped leaves no window and no settling. -/
theorem State.skipBurst_spec (s : State) : s.skipBurst.gnss.window = false ∧ s.skipBurst.gnss.settling = false := by
  unfold State.skipBurst
  generalize hm : (s.withGnss _).put F.SILLAGE_NEXTS_SEC _ = m
  have hw : m.gnss.window = false ∧ m.gnss.settling = false := by rw [← hm]; exact ⟨rfl, rfl⟩
  obtain ⟨h1, h2, -⟩ := ((SameWindow.of_frame (State.deriveMode_frame (s := m)) rfl).trans (.of_frame (State.rfClocks_frame (a1 := false)) rfl)).trans
    (.of_frame (State.raise0_frame (a1 := Src.GNSS_BURST_SKIP)) rfl)
  exact ⟨h1.trans hw.1, h2.trans hw.2⟩

/-- In a burst mode the first input runs while RF settles, where the firmware sets it. -/
theorem State.deriveMode_l1 {s : State} (hb : s.bursts = true) (hs : s.gnss.settling = true) (he : s.expert .front = false) :
    s.deriveMode.get F.FRONT_CFG_L1_EN = 1 := by
  have hmode : s.mode ≠ 6 := by
    intro h6
    unfold State.bursts at hb
    change (s.mode == 3 || s.mode == 4) = true at hb
    rw [h6] at hb
    exact absurd hb (by decide)
  unfold State.deriveMode
  dsimp only
  generalize hm : (if s.expert .front = true then s else s.puts _) = m
  have hl1 : m.get F.FRONT_CFG_L1_EN = 1 := by
    rw [← hm, if_neg (by rw [he]; exact Bool.false_ne_true), hb, hs]
    simp only [State.puts]
    rw [State.get_put_other _ _ (by decide), State.get_put_other _ _ (by decide), State.get_put_same]
    simp [F.FRONT_CFG_L1_EN, bit]
  have hheritage : m.frontHeritage = m := by
    have hmm : m.mode = s.mode := by
      rw [← hm]
      split
      · rfl
      · exact (State.get_put_other _ _ (by decide)).trans ((State.get_put_other _ _ (by decide)).trans (State.get_put_other _ _ (by decide)))
    unfold State.frontHeritage
    exact if_neg (by rw [hmm]; exact hmode)
  rw [hheritage, State.deriveLoop_frame.get F.FRONT_CFG_L1_EN_part rfl]
  split
  · exact hl1
  · exact (State.get_put_other _ _ (by decide)).trans hl1

/-- BURST_WAKE begins RF settling. -/
theorem burstWake_settles {s : State} (hb : s.bursts = true) (hl : ¬(s.get F.PWR_PATH_ACT = 2 ∧ s.get F.HARV_STAT_BAND < 4)) :
    ∃ t : State, exec .burstWake s = .next t ∧ t.gnss.settling = true ∧ (s.expert .front = false → t.get F.FRONT_CFG_L1_EN = 1) := by
  generalize hm : ((((s.wake 11).needDomain 1).needDomain 5).needDomain 6).needDomain 13 = m
  have hdom : ∀ (t : State) (d : Nat), Frame [.rPwr, .rMan, .rMemctl, .rCrypto, .rQuay, .mem, .chk, .console, .manApp, .manSys, .crypto,
      .power, .mems] t (t.needDomain d) := fun t d => State.needDomain_frame
  have hframe : Frame [.rPwr, .rMan, .rMemctl, .rCrypto, .rQuay, .mem, .chk, .console, .manApp, .manSys, .crypto, .power, .mems] s m := by
    rw [← hm]
    exact ((((State.wake_frame.mono rfl).trans (hdom _ 1)).trans (hdom _ 5)).trans (hdom _ 6)).trans (hdom _ 13)
  have hbm : m.bursts = true := by
    unfold State.bursts at hb ⊢
    rw [hframe.get F.GNSS_MODE_ACT_MODE_part rfl]; exact hb
  refine ⟨(m.withGnss fun g => { g with settling := true }).deriveMode.rfClocks true, congrArg Host.Outcome.next ?_, ?_, fun he => ?_⟩
  · refine (if_neg (by rw [hb]; decide)).trans ((if_neg hl).trans ?_)
    rw [← hm]
  · exact (congrArg GnssState.settling (State.rfClocks_frame.same .gnss rfl : _ = _)).trans
      (congrArg GnssState.settling (State.deriveMode_frame.same .gnss rfl : _ = _))
  · rw [State.rfClocks_frame.get F.FRONT_CFG_L1_EN_part rfl]
    refine State.deriveMode_l1 hbm rfl ?_
    unfold State.expert State.on at he ⊢
    exact (congrArg (· != 0) (hframe.get F.OWNLVL_LEVEL_part rfl)).trans he

/-! Starts that are cleared or refused, and the shown prediction. -/

/-- A start that is cleared. -/
theorem State.clearStart_spec {s : State} {n : Nat} {trail : List ClearMs} (hk : (s.berth n).kind.isSome = true) (hc : (s.berth n).cleared = false)
    (hst : s.get (F.BERTH_STAT_STATE n) = 4) (hh : s.clearHeld n trail = true)
    (hboc : s.on (F.BERTH_CFG_BOC n) = true → s.on (F.BERTH_STAT_BOC_OK n) = true) :
    ((s.clearStart n trail).berth n).cleared = true ∧ ((s.clearStart n trail).berth n).refused = 0 := by
  unfold State.clearStart
  dsimp only
  rw [if_neg (by
    rw [Option.isNone_eq_false_iff.2 hk, hc, hst, hh]
    cases hb : s.on (F.BERTH_CFG_BOC n) with
    | false => simp
    | true => rw [hboc hb]; decide)]
  generalize hm : s.modBerth n _ = m
  have hmb : (m.berth n).cleared = true ∧ (m.berth n).refused = 0 := by rw [← hm, State.berth_modBerth_same]; exact ⟨rfl, rfl⟩
  generalize ht : State.settleUnits _ n (s.berth n).serial 0 = t
  have hmt : KeepsBerths m t := by
    rw [← ht]
    exact ((State.count_keepsBerths m F.SILLAGE_CNT_CLEARED).trans (.of_frame State.showBond_frame rfl)).trans
      (State.settleUnits_keepsBerths _ _ _ _)
  generalize (List.filter _ _) = late
  split
  · rw [hmt.berth]; exact hmb
  · generalize hu : State.modEntries _ _ _ = u
    have htu : KeepsBerths t u := by
      rw [← hu]
      exact (State.settleRecord_keepsBerths t true n late 0).trans rfl
    rw [(hmt.trans htu).berth]; exact hmb

theorem clearStart_of_not {s : State} {n : Fin 256} {trail : List ClearMs} (h : ¬((s.berth n).kind.isSome = true ∧ (s.berth n).cleared = false ∧
    s.get (F.BERTH_STAT_STATE n) = 4 ∧ s.clearHeld n trail = true ∧
    (s.on (F.BERTH_CFG_BOC n) = true → s.on (F.BERTH_STAT_BOC_OK n) = true))) : s.clearStart n trail = s := by
  refine if_pos (Classical.byContradiction fun hc => h ?_)
  simp only [Bool.or_eq_true, Bool.and_eq_true, Bool.not_eq_true', bne_iff_ne, not_or, not_and, ne_eq, Decidable.not_not,
    Bool.not_eq_false, Bool.not_eq_true, Option.isNone_eq_false_iff] at hc
  obtain ⟨⟨⟨⟨hk, hcl⟩, hst⟩, hh⟩, hboc⟩ := hc
  exact ⟨hk, hcl, hst, hh, hboc⟩

/-- The values of the shown prediction fit their fields, and the selected berth stays. -/
theorem State.showPrediction_psel (s : State) : s.showPrediction.get F.SILLAGE_PSEL_BERTH = s.get F.SILLAGE_PSEL_BERTH := by
  unfold State.showPrediction
  refine State.get_puts_other _ _ ?_
  simp only [List.forall_mem_cons, List.not_mem_nil, false_implies, implies_true, and_true]
  decide

theorem State.showPrediction_none {s : State} (h : s.predOf (s.get F.SILLAGE_PSEL_BERTH) = none) :
    s.showPrediction.get F.SILLAGE_PCODE_PHASE = 0 ∧ s.showPrediction.get F.SILLAGE_PDOP_DOP = 0 ∧
      s.showPrediction.get F.SILLAGE_PBITS_MASK = 0 := by
  unfold State.showPrediction
  dsimp only
  rw [h]
  simp only [State.puts]
  refine ⟨?_, ?_, ?_⟩
  · iterate 6 rw [State.get_put_other _ _ (by decide)]
    rw [State.get_put_same]; rfl
  · iterate 4 rw [State.get_put_other _ _ (by decide)]
    rw [State.get_put_same]; rfl
  · rw [State.get_put_same]; rfl

theorem State.showPrediction_some {s : State} {p : Pred} (h : s.predOf (s.get F.SILLAGE_PSEL_BERTH) = some p) :
    s.showPrediction.get F.SILLAGE_PCARR_PHASE = p.carr.toNat ∧ s.showPrediction.get F.SILLAGE_PDOP_DOP = pattern 32 p.dop := by
  unfold State.showPrediction
  dsimp only
  rw [h]
  simp only [State.puts]
  refine ⟨?_, ?_⟩
  · iterate 5 rw [State.get_put_other _ _ (by decide)]
    rw [State.get_put_same]; exact Nat.mod_eq_of_lt p.carr.isLt
  · iterate 4 rw [State.get_put_other _ _ (by decide)]
    rw [State.get_put_same]; exact Nat.mod_eq_of_lt (pattern_lt 32 p.dop)

/-! The notches of an input. -/

theorem notchState_key (b : Nat) {j k : Nat} (hj : j < 4) (hk : k < 4) (h : j ≠ k) :
    (F.FRONT_NOTCH_STATE b j).key ≠ (F.FRONT_NOTCH_STATE b k).key := by
  simp only [Fld.key, F.FRONT_NOTCH_STATE]; omega

/-- The fields of the input's AGC and of the notches' configuration are none of a notch. -/
def NotNotch (b : Nat) (f : Fld) : Prop := f.key < (0x50001030 + b % 2 * 32) * 32 ∨ (0x50001040 + b % 2 * 32) * 32 ≤ f.key

theorem notNotch_put {b : Nat} {f : Fld} (h : NotNotch b f) (k : Nat) : f.key ≠ (F.FRONT_NOTCH_STATE b k).key ∧
    f.key ≠ (F.FRONT_NOTCH_WIDTH b k).key ∧ f.key ≠ (F.FRONT_NOTCH_CENTRE b k).key ∧ f.key ≠ (F.FRONT_NOTCH_FIX b k).key := by
  unfold NotNotch at h
  simp only [Fld.key, F.FRONT_NOTCH_STATE, F.FRONT_NOTCH_WIDTH, F.FRONT_NOTCH_CENTRE, F.FRONT_NOTCH_FIX] at h ⊢
  omega

section

variable {b : Nat} {f : Fld} (h : NotNotch b f) (hp : f.part = .rFront)
include h

theorem State.yieldNotches_same (s : State) : Same [f] s (s.yieldNotches b) := by
  unfold State.yieldNotches
  exact Same.foldl (fun t k => Same.ite (Same.of_put_key (notNotch_put h k).1) .refl) _ _

theorem State.applyNotches_same (s : State) : Same [f] s (s.applyNotches b) := by
  have hfold : ∀ l : List (Nat × Nat × Int × Nat × Bool), Same [f] s (l.foldl (fun t n =>
      let (_, k, c, w, fix) := n
      let st := t.get (F.FRONT_NOTCH_STATE b k)
      let st' := if fix then 3 else if st = 3 then 0 else st
      ((t.putS (F.FRONT_NOTCH_CENTRE b k) c).put (F.FRONT_NOTCH_WIDTH b k) w).puts
        [(F.FRONT_NOTCH_FIX b k, bit fix), (F.FRONT_NOTCH_STATE b k, st')]) s) := fun l => by
    refine Same.foldl (fun t n => ?_) _ _
    obtain ⟨-, k, c, w, fix⟩ := n
    obtain ⟨h1, h2, h3, h4⟩ := notNotch_put h k
    dsimp only [State.puts]
    refine Same.trans ?_ (Same.of_put_key h1)
    refine Same.trans ?_ (Same.of_put_key h4)
    refine Same.trans ?_ (Same.of_put_key h2)
    exact Same.of_put_key h3
  exact (hfold _).trans fun _ _ => rfl

include hp in
theorem State.seeTone_same (s : State) (x : Int) : Same [f] s (s.seeTone b x) := by
  unfold State.seeTone
  refine Same.ite .refl ?_
  split
  case h_1 k _ =>
    obtain ⟨h1, h2, h3, -⟩ := notNotch_put h k
    exact (Same.of_put_key h3).trans ((Same.of_put_key h1).trans (Same.of_put_key h2))
  case h_2 =>
    refine Same.ite (fun _ _ => rfl) ?_
    generalize hm : State.withGnss (State.withGnss _ _) _ = m
    have hsm : Same [f] s m := by rw [← hm]; exact fun _ _ => rfl
    exact hsm.trans (Same.of_part hp State.raise0_frame rfl)

theorem State.lockNotch_same (s : State) (k w : Nat) (post : List Nat) : Same [f] s (s.lockNotch b k w post) := by
  unfold State.lockNotch
  obtain ⟨h1, h2, -, -⟩ := notNotch_put h k
  refine Same.ite ?_ .refl
  exact Same.trans ((Same.of_put_key h2).trans (Same.of_put_key h1)) fun _ _ => rfl

end

/-- Where no notch is fixed none yields. -/
theorem State.yieldNotches_of_free {s : State} {b : Nat} (h : ∀ j < 4, s.get (F.FRONT_NOTCH_STATE b j) ≠ 3) : s.yieldNotches b = s := by
  have hany : ∀ k, ((List.range 4).any fun j => s.get (F.FRONT_NOTCH_STATE b j) == 3 && s.notchesMeet b j k) = false := fun k =>
    List.any_eq_false.2 fun j hj => by
      rw [beq_eq_false_iff_ne.2 (h j (List.mem_range.1 hj))]
      exact Bool.false_ne_true
  have hfold : ∀ l : List Nat, l.foldl (fun t k =>
      let st := t.get (F.FRONT_NOTCH_STATE b k)
      if (st == 1 || st == 2) && (List.range 4).any fun j => t.get (F.FRONT_NOTCH_STATE b j) == 3 && t.notchesMeet b j k then
        t.put (F.FRONT_NOTCH_STATE b k) 0 else t) s = s := by
    intro l
    induction l with
    | nil => rfl
    | cons k r ih =>
      rw [List.foldl_cons]
      dsimp only
      rw [hany k, Bool.and_false, if_neg Bool.false_ne_true]
      exact ih
  exact hfold _

/-- What yields was not fixed, and nothing becomes fixed. -/
theorem State.yieldNotches_fixed (s : State) (b : Nat) {k : Nat} (hk : k < 4) :
    (s.yieldNotches b).get (F.FRONT_NOTCH_STATE b k) = 3 ↔ s.get (F.FRONT_NOTCH_STATE b k) = 3 := by
  unfold State.yieldNotches
  have hfold : ∀ (l : List Nat) (t : State), (∀ j ∈ l, j < 4) → ((l.foldl (fun t k =>
      let st := t.get (F.FRONT_NOTCH_STATE b k)
      if (st == 1 || st == 2) && (List.range 4).any fun j => t.get (F.FRONT_NOTCH_STATE b j) == 3 && t.notchesMeet b j k then
        t.put (F.FRONT_NOTCH_STATE b k) 0 else t) t).get (F.FRONT_NOTCH_STATE b k) = 3 ↔ t.get (F.FRONT_NOTCH_STATE b k) = 3) := by
    intro l
    induction l with
    | nil => exact fun _ _ => Iff.rfl
    | cons j r ih =>
      intro t hl
      refine (ih _ fun i hi => hl i (List.mem_cons_of_mem _ hi)).trans ?_
      dsimp only
      split
      case isFalse => rfl
      case isTrue hc =>
        by_cases hjk : k = j
        · subst hjk
          have hst : t.get (F.FRONT_NOTCH_STATE b k) = 1 ∨ t.get (F.FRONT_NOTCH_STATE b k) = 2 := by
            simpa using (Bool.and_eq_true_iff.1 hc).1
          rw [State.get_put_same]
          simp only [Nat.zero_mod]
          omega
        · rw [State.get_put_other _ _ (notchState_key b hk (hl j (List.mem_cons_self ..)) hjk)]
  exact hfold _ s fun j hj => List.mem_range.1 hj

/-- With AUTO off every notch that is not fixed is dropped. -/
theorem State.dropNotches_get (b : Nat) {k : Nat} (hk : k < 4) (l : List Nat) (hl : ∀ j ∈ l, j < 4) (s : State) :
    (l.foldl (fun t k => if t.get (F.FRONT_NOTCH_STATE b k) = 3 then t else t.put (F.FRONT_NOTCH_STATE b k) 0) s).get (F.FRONT_NOTCH_STATE b k) =
      if s.get (F.FRONT_NOTCH_STATE b k) = 3 then 3 else if k ∈ l then 0 else s.get (F.FRONT_NOTCH_STATE b k) := by
  induction l generalizing s with
  | nil => simp only [List.foldl_nil, List.not_mem_nil, if_false]; split <;> omega
  | cons j r ih =>
    rw [List.foldl_cons, ih fun i hi => hl i (List.mem_cons_of_mem _ hi)]
    by_cases hjk : k = j
    · subst hjk
      by_cases h3 : s.get (F.FRONT_NOTCH_STATE b k) = 3
      · simp [h3]
      · rw [if_neg h3, State.get_put_same]
        simp [h3]
    · have hkeep : (if s.get (F.FRONT_NOTCH_STATE b j) = 3 then s else s.put (F.FRONT_NOTCH_STATE b j) 0).get (F.FRONT_NOTCH_STATE b k) =
          s.get (F.FRONT_NOTCH_STATE b k) := by
        split
        · rfl
        · exact State.get_put_other _ _ (notchState_key b hk (hl j (List.mem_cons_self ..)) hjk)
      rw [hkeep]
      simp [hjk]

end Sys2Proof.Machine

namespace Sys2Proof.Machine

/-! A spectrum of an input. -/

theorem notNotch_agc (b : Nat) : NotNotch b (F.FRONT_AGC_GAIN b) ∧ NotNotch b (F.FRONT_AGC_OCC b) ∧ NotNotch b (F.FRONT_NCFG_AUTO b) := by
  simp only [NotNotch, Fld.key, F.FRONT_AGC_GAIN, F.FRONT_AGC_OCC, F.FRONT_NCFG_AUTO]; omega

theorem State.agcReport_get (s : State) (b gain occ : Nat) :
    (s.agcReport b gain occ).get (F.FRONT_AGC_GAIN b) = min 140 gain ∧ (s.agcReport b gain occ).get (F.FRONT_AGC_OCC b) = min 200 occ := by
  refine ⟨(State.get_put_other _ _ ?_).trans ((State.get_put_same _ _ _).trans (Nat.mod_eq_of_lt ?_)),
    (State.get_put_same _ _ _).trans (Nat.mod_eq_of_lt ?_)⟩
  · simp only [Fld.key, F.FRONT_AGC_GAIN, F.FRONT_AGC_OCC]; omega
  · simp only [F.FRONT_AGC_GAIN]; omega
  · simp only [F.FRONT_AGC_OCC]; omega

/-- The other registers as the report of the AGC and a boundary with no write waiting leave them. -/
theorem State.spectrum_get {s : State} (b gain occ : Nat) (hn : s.gnss.notches = []) {f : Fld} (hg : f.key ≠ (F.FRONT_AGC_GAIN b).key)
    (ho : f.key ≠ (F.FRONT_AGC_OCC b).key) : ((s.agcReport b gain occ).applyNotches b).get f = s.get f := by
  have hnone : (s.agcReport b gain occ).gnss.notches = [] := by
    unfold State.agcReport State.modBand
    dsimp only
    refine Eq.trans ?_ hn
    show (if b = 0 then { s.gnss with front1 := _ } else { s.gnss with front5 := _ } : GnssState).notches = s.gnss.notches
    split <;> rfl
  have hap : ((s.agcReport b gain occ).applyNotches b).get f = (s.agcReport b gain occ).get f := by
    unfold State.applyNotches
    rw [hnone]
    rfl
  rw [hap]
  exact (State.get_put_other _ _ ho).trans (State.get_put_other _ _ hg)

/-- The keys of a notch are none of the AGC's. -/
theorem notch_agc_key (b k : Nat) : ∀ f ∈ [F.FRONT_NOTCH_STATE b k, F.FRONT_NOTCH_WIDTH b k, F.FRONT_NOTCH_CENTRE b k, F.FRONT_NCFG_AUTO b,
    F.FRONT_NCFG_DET b], f.key ≠ (F.FRONT_AGC_GAIN b).key ∧ f.key ≠ (F.FRONT_AGC_OCC b).key := by
  simp only [List.forall_mem_cons, List.not_mem_nil, false_implies, implies_true, and_true, Fld.key, F.FRONT_NOTCH_STATE,
    F.FRONT_NOTCH_WIDTH, F.FRONT_NOTCH_CENTRE, F.FRONT_NCFG_AUTO, F.FRONT_NCFG_DET, F.FRONT_AGC_GAIN, F.FRONT_AGC_OCC]
  omega

/-- A settled notch locks at its width. -/
theorem State.lockNotch_get {s : State} {b k w : Nat} {post : List Nat} (hs : s.get (F.FRONT_NOTCH_STATE b k) = 1) (h2 : 2 ≤ w) (h200 : w ≤ 200)
    (hset : s.notchSettled b k post = true) : (s.lockNotch b k w post).get (F.FRONT_NOTCH_STATE b k) = 2 ∧
      (s.lockNotch b k w post).get (F.FRONT_NOTCH_WIDTH b k) = w ∧
      ∀ j < 4, k < 4 → j ≠ k → (s.lockNotch b k w post).get (F.FRONT_NOTCH_STATE b j) = s.get (F.FRONT_NOTCH_STATE b j) := by
  unfold State.lockNotch
  rw [if_pos ⟨hs, h2, h200, hset⟩]
  refine ⟨(State.get_put_same _ _ _).trans rfl, ?_, fun j hj hk hjk => ?_⟩
  · refine (State.get_put_other _ _ ?_).trans ((State.get_put_same _ _ _).trans (Nat.mod_eq_of_lt ?_))
    · simp only [Fld.key, F.FRONT_NOTCH_STATE, F.FRONT_NOTCH_WIDTH]; omega
    · simp only [F.FRONT_NOTCH_WIDTH]; omega
  · refine (State.get_put_other _ _ (notchState_key b hj hk hjk)).trans (State.get_put_other _ _ ?_)
    simp only [Fld.key, F.FRONT_NOTCH_STATE, F.FRONT_NOTCH_WIDTH]; omega

/-- The first tone meets the first notch where all are off. -/
theorem State.seeTone_get {s : State} {b : Nat} (x : Int) (h0 : ∀ j < 4, s.get (F.FRONT_NOTCH_STATE b j) = 0) :
    (s.seeTone b x).get (F.FRONT_NOTCH_STATE b 0) = 1 ∧ (s.seeTone b x).get (F.FRONT_NOTCH_WIDTH b 0) = 2 ∧
      ∀ j < 4, j ≠ 0 → (s.seeTone b x).get (F.FRONT_NOTCH_STATE b j) = 0 := by
  have hany : ((List.range 4).any fun k => s.get (F.FRONT_NOTCH_STATE b k) != 0 && s.inNotch b k x) = false :=
    List.any_eq_false.2 fun j hj => by rw [h0 j (List.mem_range.1 hj)]; exact Bool.false_ne_true
  have hfind : ((List.range 4).find? fun k => s.get (F.FRONT_NOTCH_STATE b k) == 0) = some 0 := by
    show List.find? _ (0 :: _) = _
    exact List.find?_cons_of_pos (by rw [h0 0 (by decide)]; rfl)
  unfold State.seeTone
  rw [hany, if_neg Bool.false_ne_true, hfind]
  have hw : ∀ j, (F.FRONT_NOTCH_STATE b j).key ≠ (F.FRONT_NOTCH_WIDTH b 0).key ∧ (F.FRONT_NOTCH_STATE b j).key ≠ (F.FRONT_NOTCH_CENTRE b 0).key :=
    fun j => by simp only [Fld.key, F.FRONT_NOTCH_STATE, F.FRONT_NOTCH_WIDTH, F.FRONT_NOTCH_CENTRE]; omega
  refine ⟨(State.get_put_other _ _ (hw 0).1).trans ((State.get_put_same _ _ _).trans rfl), (State.get_put_same _ _ _).trans rfl, fun j hj hne => ?_⟩
  exact (State.get_put_other _ _ (hw j).1).trans ((State.get_put_other _ _ (notchState_key b hj (by decide) hne)).trans
    ((State.get_put_other _ _ (hw j).2).trans (h0 j hj)))

end Sys2Proof.Machine

namespace Sys2Proof

open Sys2Proof.Machine

section

variable {b5 : Bool} {gain occ : BitVec 8} {bins post : List Nat} {l : List (Fin 4 × Nat)} {s : State}

/-- What NOTCH_SPECTRUM of an input that is on does after the AGC's report and the boundary. -/
theorem notchSpectrum_eq (hr : s.rfOn b5 = true) : exec (.notchSpectrum b5 gain occ bins post l) s = .next (
    let s1 := ((s.agcReport (bit b5) gain.toNat occ.toNat).applyNotches (bit b5)).yieldNotches (bit b5)
    let s2 := s1.watchNotches (bit b5) (s1.tonesOf (bit b5) bins)
    if s2.on (F.FRONT_NCFG_AUTO (bit b5)) then
      ((s1.tonesOf (bit b5) bins).foldl (fun t x => t.seeTone (bit b5) x)
        (l.foldl (fun t n => t.lockNotch (bit b5) n.1.val n.2 post) s2)).yieldNotches (bit b5)
    else
      (List.range 4).foldl (fun t k => if t.get (F.FRONT_NOTCH_STATE (bit b5) k) = 3 then t else
        t.put (F.FRONT_NOTCH_STATE (bit b5) k) 0) s2) :=
  congrArg Host.Outcome.next (if_neg (by rw [hr]; decide))

/-- A register of the AGC as the report leaves it. -/
theorem notchSpectrum_get {f : Fld} (hf : NotNotch (bit b5) f) (hp : f.part = .rFront) (hr : s.rfOn b5 = true) {t : State}
    (ht : exec (.notchSpectrum b5 gain occ bins post l) s = .next t) :
    t.get f = (s.agcReport (bit b5) gain.toNat occ.toNat).get f := by
  rw [notchSpectrum_eq hr] at ht
  obtain rfl := Host.Outcome.next.inj ht
  dsimp only
  generalize hu : s.agcReport (bit b5) gain.toNat occ.toNat = u
  have h1 : Same [f] u ((u.applyNotches (bit b5)).yieldNotches (bit b5)) :=
    (State.applyNotches_same hf u).trans (State.yieldNotches_same hf _)
  generalize (u.applyNotches (bit b5)).yieldNotches (bit b5) = s1 at h1 ⊢
  have h2 : Same [f] s1 (s1.watchNotches (bit b5) (s1.tonesOf (bit b5) bins)) := fun _ _ => rfl
  generalize s1.watchNotches (bit b5) (s1.tonesOf (bit b5) bins) = s2 at h2 ⊢
  refine ((h1.trans h2).trans (Same.ite ?_ ?_)).get
  · exact ((Same.foldl (fun t n => State.lockNotch_same hf t _ _ _) _ _).trans (Same.foldl (fun t x => State.seeTone_same hf hp t x) _ _)).trans
      (State.yieldNotches_same hf _)
  · exact Same.foldl (fun t k => Same.ite .refl (Same.of_put_key (notNotch_put hf k).1)) _ _

/-- With AUTO off and no write waiting every notch that is not fixed is dropped. -/
theorem notchSpectrum_drops (hr : s.rfOn b5 = true) (hn : s.gnss.notches = []) (ha : s.on (F.FRONT_NCFG_AUTO (bit b5)) = false) {t : State}
    (ht : exec (.notchSpectrum b5 gain occ bins post l) s = .next t) (k : Fin 4) :
    t.get (F.FRONT_NOTCH_STATE (bit b5) k) = if s.get (F.FRONT_NOTCH_STATE (bit b5) k) = 3 then 3 else 0 := by
  have hread : ∀ f ∈ [F.FRONT_NOTCH_STATE (bit b5) k, F.FRONT_NOTCH_WIDTH (bit b5) k, F.FRONT_NOTCH_CENTRE (bit b5) k, F.FRONT_NCFG_AUTO (bit b5),
      F.FRONT_NCFG_DET (bit b5)], ((s.agcReport (bit b5) gain.toNat occ.toNat).applyNotches (bit b5)).get f = s.get f := fun f hf =>
    State.spectrum_get _ _ _ hn (notch_agc_key _ _ f hf).1 (notch_agc_key _ _ f hf).2
  rw [notchSpectrum_eq hr] at ht
  dsimp only at ht
  generalize (s.agcReport (bit b5) gain.toNat occ.toNat).applyNotches (bit b5) = u at hread ht
  have hfix := u.yieldNotches_fixed (bit b5) k.isLt
  have hsame := State.yieldNotches_same (notNotch_agc (bit b5)).2.2 u
  generalize u.yieldNotches (bit b5) = s1 at ht hfix hsame
  have hwatch : ∀ f, (s1.watchNotches (bit b5) (s1.tonesOf (bit b5) bins)).get f = s1.get f := fun _ => rfl
  generalize s1.watchNotches (bit b5) (s1.tonesOf (bit b5) bins) = s2 at ht hwatch
  have hoff : s2.on (F.FRONT_NCFG_AUTO (bit b5)) = false := by
    rw [State.on_eq_false_iff, hwatch, hsame.get, hread _ (by simp)]
    exact State.on_eq_false_iff.1 ha
  rw [if_neg (by rw [hoff]; exact Bool.false_ne_true)] at ht
  obtain rfl := Host.Outcome.next.inj ht
  rw [State.dropNotches_get _ k.isLt _ (fun j hj => List.mem_range.1 hj), hwatch]
  rw [hread _ (by simp)] at hfix
  by_cases h3 : s.get (F.FRONT_NOTCH_STATE (bit b5) k) = 3
  · rw [if_pos (hfix.2 h3), if_pos h3]
  · rw [if_neg fun h => h3 (hfix.1 h), if_neg h3, if_pos (List.mem_range.2 k.isLt)]

/-- With AUTO on, no write waiting and no notch fixed nothing yields before the notches lock and the tones are met. -/
theorem notchSpectrum_auto (hr : s.rfOn b5 = true) (hn : s.gnss.notches = []) (ha : s.on (F.FRONT_NCFG_AUTO (bit b5)) = true)
    (hfix : ∀ j : Fin 4, s.get (F.FRONT_NOTCH_STATE (bit b5) j) ≠ 3) :
    ∃ u : State, (∀ k, ∀ f ∈ [F.FRONT_NOTCH_STATE (bit b5) k, F.FRONT_NOTCH_CENTRE (bit b5) k], u.get f = s.get f) ∧
      exec (.notchSpectrum b5 gain occ bins post l) s = .next (((s.tonesOf (bit b5) bins).foldl (fun t x => t.seeTone (bit b5) x)
        (l.foldl (fun t n => t.lockNotch (bit b5) n.1.val n.2 post) u)).yieldNotches (bit b5)) := by
  have hread : ∀ k, ∀ f ∈ [F.FRONT_NOTCH_STATE (bit b5) k, F.FRONT_NOTCH_WIDTH (bit b5) k, F.FRONT_NOTCH_CENTRE (bit b5) k, F.FRONT_NCFG_AUTO (bit b5),
      F.FRONT_NCFG_DET (bit b5)], ((s.agcReport (bit b5) gain.toNat occ.toNat).applyNotches (bit b5)).get f = s.get f := fun k f hf =>
    State.spectrum_get _ _ _ hn (notch_agc_key _ _ f hf).1 (notch_agc_key _ _ f hf).2
  rw [notchSpectrum_eq hr]
  dsimp only
  generalize (s.agcReport (bit b5) gain.toNat occ.toNat).applyNotches (bit b5) = u at hread ⊢
  rw [State.yieldNotches_of_free fun j hj => by rw [hread j _ (by simp)]; exact hfix ⟨j, hj⟩]
  have htones : u.tonesOf (bit b5) bins = s.tonesOf (bit b5) bins := by
    unfold State.tonesOf
    rw [hread 0 (F.FRONT_NCFG_DET (bit b5)) (by simp)]
  rw [htones]
  have hwatch : ∀ f, (u.watchNotches (bit b5) (s.tonesOf (bit b5) bins)).get f = u.get f := fun _ => rfl
  generalize u.watchNotches (bit b5) (s.tonesOf (bit b5) bins) = s2 at hwatch ⊢
  refine ⟨s2, fun k f hf => ?_, congrArg Host.Outcome.next (if_pos ?_)⟩
  · refine (hwatch f).trans (hread k f ?_)
    rcases List.mem_cons.1 hf with rfl | hf
    · exact List.mem_cons_self
    · rw [List.mem_singleton.1 hf]
      exact List.mem_cons_of_mem _ (List.mem_cons_of_mem _ List.mem_cons_self)
  · unfold State.on
    rw [hwatch, hread 0 (F.FRONT_NCFG_AUTO (bit b5)) (by simp)]
    exact ha

/-- A settled notch locks where no tone stands out. -/
theorem notchSpectrum_locks {k : Fin 4} {w : Nat} (hr : s.rfOn b5 = true) (hn : s.gnss.notches = [])
    (ha : s.on (F.FRONT_NCFG_AUTO (bit b5)) = true) (hfix : ∀ j : Fin 4, s.get (F.FRONT_NOTCH_STATE (bit b5) j) ≠ 3)
    (ht : s.tonesOf (bit b5) bins = []) (hst : s.get (F.FRONT_NOTCH_STATE (bit b5) k) = 1) (h2 : 2 ≤ w) (h200 : w ≤ 200)
    (hset : s.notchSettled (bit b5) k post = true) {t : State} (he : exec (.notchSpectrum b5 gain occ bins post [(k, w)]) s = .next t) :
    t.get (F.FRONT_NOTCH_STATE (bit b5) k) = 2 ∧ t.get (F.FRONT_NOTCH_WIDTH (bit b5) k) = w := by
  obtain ⟨u, hu, h⟩ := notchSpectrum_auto (gain := gain) (occ := occ) (bins := bins) (post := post) (l := [(k, w)]) hr hn ha hfix
  rw [ht] at h
  obtain rfl := Host.Outcome.next.inj (he.symm.trans h)
  have husettled : u.notchSettled (bit b5) k post = true := by
    unfold State.notchSettled State.getS at hset ⊢
    rw [hu k _ (by simp)]; exact hset
  obtain ⟨h3, h4, h5⟩ := State.lockNotch_get ((hu k _ (by simp)).trans hst) h2 h200 husettled
  have hfree : ∀ j < 4, (u.lockNotch (bit b5) k w post).get (F.FRONT_NOTCH_STATE (bit b5) j) ≠ 3 := fun j hj => by
    by_cases hjk : j = k
    · rw [hjk, h3]; decide
    · rw [h5 j hj k.isLt hjk, hu j _ (by simp)]; exact hfix ⟨j, hj⟩
  show ((u.lockNotch (bit b5) k w post).yieldNotches (bit b5)).get _ = 2 ∧ ((u.lockNotch (bit b5) k w post).yieldNotches (bit b5)).get _ = w
  rw [State.yieldNotches_of_free hfree]
  exact ⟨h3, h4⟩

/-- One tone takes the first notch where all are off. -/
theorem notchSpectrum_meets {x : Int} (hr : s.rfOn b5 = true) (hn : s.gnss.notches = []) (ha : s.on (F.FRONT_NCFG_AUTO (bit b5)) = true)
    (ht : s.tonesOf (bit b5) bins = [x]) (h0 : ∀ j : Fin 4, s.get (F.FRONT_NOTCH_STATE (bit b5) j) = 0) {t : State}
    (he : exec (.notchSpectrum b5 gain occ bins post []) s = .next t) :
    t.get (F.FRONT_NOTCH_STATE (bit b5) 0) = 1 ∧ t.get (F.FRONT_NOTCH_WIDTH (bit b5) 0) = 2 := by
  obtain ⟨u, hu, h⟩ := notchSpectrum_auto (gain := gain) (occ := occ) (bins := bins) (post := post) (l := []) hr hn ha
    fun j => by rw [h0 j]; decide
  rw [ht] at h
  obtain rfl := Host.Outcome.next.inj (he.symm.trans h)
  obtain ⟨h1, h2, h3⟩ := State.seeTone_get (s := u) (b := bit b5) x fun j hj => (hu j _ (by simp)).trans (h0 ⟨j, hj⟩)
  have hfree : ∀ j < 4, (u.seeTone (bit b5) x).get (F.FRONT_NOTCH_STATE (bit b5) j) ≠ 3 := fun j hj => by
    by_cases hj0 : j = 0
    · rw [hj0, h1]; decide
    · rw [h3 j hj hj0]; decide
  show ((u.seeTone (bit b5) x).yieldNotches (bit b5)).get _ = 1 ∧ ((u.seeTone (bit b5) x).yieldNotches (bit b5)).get _ = 2
  rw [State.yieldNotches_of_free hfree]
  exact ⟨h1, h2⟩

end

/-- Settles O18: each clause is the case of its command; the window survives the event that its opening fires. -/
theorem burstsAndSillage : Obligations.BurstsAndSillage := by
  unfold Obligations.BurstsAndSillage
  have opened := fun {s : State} {side : Side} {b : Block} {e : Bool} (h : opens s side b e = true) (ofs : Nat) (f : State → State) =>
    congrArg (Host.Outcome.next (φ := Fault) (ρ := Refusal)) (guard_opens h ofs f)
  refine ⟨fun s => ⟨fun hb hl => burstWake_settles hb hl, fun hb hl =>
      ⟨_, congrArg Host.Outcome.next ((if_neg (by rw [hb]; decide)).trans (if_pos hl)), s.skipBurst_spec⟩,
      fun hb => congrArg Host.Outcome.next (if_pos (by rw [hb]; rfl))⟩,
    fun d s => ⟨fun hb hs hr => ⟨(s.openWindow_spec _).1, (s.openWindow_spec _).2.1, (s.openWindow_spec _).2.2, ?opens, ?waits⟩,
      fun hb hs hr => ⟨?unready, ?skips⟩⟩,
    fun d s h => congrArg Host.Outcome.next (if_pos ?window),
    fun n trail s => ⟨fun ⟨hk, hc, hst, hh, hboc⟩ => ⟨_, rfl, State.clearStart_spec hk hc hst hh hboc⟩,
      fun h => congrArg Host.Outcome.next (clearStart_of_not h)⟩,
    fun n s => ⟨fun hc hcl hk => ?deadline, fun h => congrArg Host.Outcome.next (if_neg ?cleared)⟩,
    fun side n s h => ⟨_, opened h _ _, ?psel, fun hp => ?noPred, fun p hp => ?pred⟩,
    fun b s => ⟨fun ho hh => ⟨_, congrArg Host.Outcome.next (if_neg ?hot), ?ovld⟩, fun h => congrArg Host.Outcome.next (if_pos ?cold),
      fun h => congrArg Host.Outcome.next (if_neg (Nat.not_lt.2 h)), fun h => congrArg Host.Outcome.next (if_pos h)⟩,
    fun b gain occ bins post l s => ⟨fun hr => congrArg Host.Outcome.next (if_pos (by rw [hr]; rfl)), fun hr => ?spectrum⟩,
    fun b k s => ⟨fun h => congrArg Host.Outcome.next (if_pos h), fun h => congrArg Host.Outcome.next (if_neg h)⟩⟩
  case opens =>
    exact congrArg Host.Outcome.next ((if_neg (by rw [hb, hs]; decide)).trans (if_neg (not_not_intro hr)))
  case waits => exact congrArg Host.Outcome.next ((if_neg (by rw [hb, hs]; decide)).trans (if_pos hr))
  case unready => exact congrArg Host.Outcome.next ((if_neg (by rw [hb, hs]; decide)).trans (if_pos hr))
  case skips => exact ⟨_, congrArg Host.Outcome.next ((if_neg (by rw [hb, hs]; decide)).trans (if_neg hr)), s.skipBurst_spec⟩
  case window => rcases h with h | h <;> rw [h] <;> simp
  case deadline =>
    refine ⟨_, congrArg Host.Outcome.next (if_pos (by rw [hc, hcl]; rfl)), State.refuseStart_spec ?_ 4 (by decide)⟩
    rw [(KeepsBerths.of_frame State.passTo_frame rfl).berth]
    exact hk
  case cleared => rcases h with h | h <;> rw [h] <;> simp
  case psel =>
    rw [State.showPrediction_psel, State.get_put_same]
    exact Nat.mod_eq_of_lt n.isLt
  case noPred =>
    refine State.showPrediction_none ?_
    rw [State.get_put_same, show n.toNat % 2 ^ F.SILLAGE_PSEL_BERTH.w = n.toNat from Nat.mod_eq_of_lt n.isLt]
    exact hp
  case pred =>
    refine State.showPrediction_some ?_
    rw [State.get_put_same, show n.toNat % 2 ^ F.SILLAGE_PSEL_BERTH.w = n.toNat from Nat.mod_eq_of_lt n.isLt]
    exact hp
  case hot =>
    rw [ho, decide_eq_false (Nat.not_lt.2 hh)]
    decide
  case ovld =>
    unfold State.on
    rw [State.raiseK_frame.get F.FRONT_AGC_OVLD_part rfl, State.get_put_same]
    rfl
  case cold =>
    rcases h with h | h
    · rw [h]; rfl
    · rw [decide_eq_true h]; exact Bool.or_true _
  case spectrum =>
    obtain ⟨hgain, hocc⟩ := s.agcReport_get (bit b) gain.toNat occ.toNat
    have ht := notchSpectrum_eq (gain := gain) (occ := occ) (bins := bins) (post := post) (l := l) hr
    refine ⟨_, ht, (notchSpectrum_get (notNotch_agc _).1 F.FRONT_AGC_GAIN_part hr ht).trans hgain,
      (notchSpectrum_get (notNotch_agc _).2.1 F.FRONT_AGC_OCC_part hr ht).trans hocc,
      fun hn ha k => notchSpectrum_drops hr hn ha ht k, fun hn ha hfix => ⟨fun k w hl htones hst h2 h200 hset => ?_, fun x hl htones h0 => ?_⟩⟩
    · subst hl; exact notchSpectrum_locks hr hn ha hfix htones hst h2 h200 hset ht
    · subst hl; exact notchSpectrum_meets hr hn ha htones h0 ht

end Sys2Proof

/-! PROOF. Epochs, fixes, rings and NMEA (O19). -/

namespace Sys2Proof.Machine

/-- What the receiver holds of the present epoch and of the last fix. -/
def epochPart (g : GnssState) : Bool × Option Nat × Nat × Bool × Option (Nat × Nat) × Nat × Option (List Nat) :=
  (g.opened, g.epoch, g.te, g.solving, g.closed, g.rate, g.fix)

/-- `t` holds the present epoch and the last fix as `s` does. -/
def SameEpoch (s t : State) : Prop := epochPart t.gnss = epochPart s.gnss

namespace SameEpoch

variable {s t u : State}

theorem refl : SameEpoch s s := rfl

theorem trans (h : SameEpoch s t) (k : SameEpoch t u) : SameEpoch s u := Eq.trans k h

theorem ite {c : Prop} [Decidable c] {a b : State} (ha : SameEpoch s a) (hb : SameEpoch s b) : SameEpoch s (if c then a else b) := by
  split
  · exact ha
  · exact hb

theorem foldl {β : Type} {f : State → β → State} (h : ∀ t x, SameEpoch t (f t x)) (l : List β) (t : State) :
    SameEpoch t (l.foldl f t) := by
  induction l generalizing t with
  | nil => exact refl
  | cons x r ih => exact (h t x).trans (ih _)

theorem of_frame {e : List Part} (h : Frame e s t) (hn : Part.sub [.gnss] e = false) : SameEpoch s t :=
  congrArg epochPart (h.same .gnss hn)

theorem put (s : State) (f : Fld) (v : Nat) : SameEpoch s (s.put f v) := rfl

theorem puts (s : State) (l : List (Fld × Nat)) : SameEpoch s (s.puts l) := by
  induction l generalizing s with
  | nil => exact refl
  | cons c r ih => exact (put s c.1 c.2).trans (ih _)

theorem withGnss {f : GnssState → GnssState} (h : ∀ g, epochPart (f g) = epochPart g) : SameEpoch s (s.withGnss f) := h s.gnss

theorem modBerth (s : State) (n : Nat) (f : BerthState → BerthState) : SameEpoch s (s.modBerth n f) := rfl

theorem modBand (s : State) (b : Nat) (f : FrontBand → FrontBand) : SameEpoch s (s.modBand b f) := by
  unfold State.modBand
  refine withGnss fun g => ?_
  split <;> rfl

theorem reportDepth (s : State) : SameEpoch s s.reportDepth := rfl

theorem modEntries (s : State) (p : Entry → Bool) (f : Entry → Entry) : SameEpoch s (s.modEntries p f) := rfl

end SameEpoch

theorem State.measPut_sameEpoch (s : State) (e k : Nat) (l : List (List Nat)) : SameEpoch s (s.measPut e k l) := by
  unfold State.measPut
  refine .ite .refl (.ite (.of_frame State.measWrite_frame rfl) ?_)
  generalize hm : State.withGnss _ _ = m
  have hsm : SameEpoch s m := by rw [← hm]; rfl
  exact hsm.trans (.of_frame State.raiseK_frame rfl)

theorem State.retract_sameEpoch (s : State) (n : Nat) (es : List Entry) (cause : Nat) : SameEpoch s (s.retract n es cause) := by
  have hrecord : SameEpoch s (s.settleRecord false n es cause) := by
    unfold State.settleRecord
    exact .ite .refl ((State.measPut_sameEpoch _ _ _ _).trans (.of_frame State.raiseK_frame rfl))
  unfold State.retract
  refine SameEpoch.trans ?_ (.modEntries _ _ _)
  refine SameEpoch.trans hrecord ?_
  exact .withGnss fun _ => rfl

theorem State.settleUnits_sameEpoch (s : State) (n serial st : Nat) : SameEpoch s (s.settleUnits n serial st) := by
  unfold State.settleUnits
  dsimp only
  refine SameEpoch.trans (SameEpoch.foldl (fun t r => ?_) _ s) rfl
  split
  · exact .of_frame (Frame.trans (State.setBytes_frame.mono rfl) (State.freshCheck_frame.mono rfl) : Frame [.mem, .chk] t _) rfl
  · exact .refl

theorem State.queueSearch_sameEpoch (s : State) (q : Search) : SameEpoch s (s.queueSearch q) := by
  unfold State.queueSearch
  exact .ite rfl .refl

theorem State.endStart_sameEpoch (s : State) (n v : Nat) : SameEpoch s (s.endStart n v) := by
  unfold State.endStart
  dsimp only
  generalize hm : s.modBerth n _ = m
  have hsm : SameEpoch s m := by rw [← hm]; rfl
  refine hsm.trans (.ite (.puts _ _) (SameEpoch.trans (.puts _ _) (.of_frame State.planState_frame rfl)))

theorem State.afterRefused_sameEpoch (s : State) (n : Nat) (b : BerthState) (again : Bool) : SameEpoch s (s.afterRefused n b again) := by
  have queue : ∀ (t : State) (q : Search), SameEpoch t (t.queueSearch q) := State.queueSearch_sameEpoch
  unfold State.afterRefused
  dsimp only
  generalize hm : s.modBerth n _ = m
  have hsm : SameEpoch s m := by rw [← hm]; rfl
  refine hsm.trans ?_
  split
  · refine SameEpoch.trans (.put m F.LOOKOUT_CNT_REFUSED _) (.ite ?_ .refl)
    split
    · exact queue _ _
    · exact .refl
  · refine .ite .refl ?_
    split
    · split
      · exact queue _ _
      · exact .refl
    · exact .refl
  · exact .refl

theorem State.refuseBonded_sameEpoch (s : State) (n cause v : Nat) : SameEpoch s (s.refuseBonded n cause v) := by
  unfold State.refuseBonded
  dsimp only
  refine .ite ?_ (SameEpoch.trans (.ite .refl (State.retract_sameEpoch _ _ _ _)) (State.endStart_sameEpoch _ _ _))
  refine SameEpoch.trans ?_ (State.afterRefused_sameEpoch _ _ _ _)
  refine SameEpoch.trans ?_ (State.endStart_sameEpoch _ _ _)
  refine SameEpoch.trans ?_ (.put _ F.SILLAGE_CNT_REFUSED _)
  exact (State.retract_sameEpoch _ _ _ _).trans (State.settleUnits_sameEpoch _ _ _ _)

theorem State.refuseStart_sameEpoch (s : State) (n cause v : Nat) : SameEpoch s (s.refuseStart n cause v) := by
  unfold State.refuseStart
  dsimp only
  refine .ite .refl ?_
  generalize ht : State.afterRefused _ _ _ _ = t
  have hst : SameEpoch s t := by
    rw [← ht]
    refine SameEpoch.trans ?_ (State.afterRefused_sameEpoch _ _ _ _)
    refine SameEpoch.trans ?_ (State.endStart_sameEpoch _ _ _)
    refine SameEpoch.trans ?_ (.put _ F.SILLAGE_CNT_REFUSED _)
    exact (State.retract_sameEpoch _ _ _ _).trans (State.settleUnits_sameEpoch _ _ _ _)
  exact hst.trans (.ite (.of_frame State.raiseLoss_frame rfl) (.modBerth _ _ _))

theorem State.leavePlaces_sameEpoch (s : State) (n : Nat) : SameEpoch s (s.leavePlaces n) := by
  unfold State.leavePlaces
  dsimp only
  refine SameEpoch.trans (SameEpoch.foldl (fun t p => ?_) _ s) (.modBerth _ _ _)
  exact .ite (.put _ _ _) .refl

theorem State.landSignal_sameEpoch (s : State) (n : Nat) : SameEpoch s (s.landSignal n) := by
  unfold State.landSignal
  dsimp only
  refine SameEpoch.trans (SameEpoch.trans ?_ (.puts _ _)) (.of_frame State.markSignal_frame rfl)
  exact .modBerth _ _ _

theorem State.keepPreds_sameEpoch (s : State) (l : List Pred) : SameEpoch s (s.keepPreds l) := by
  unfold State.keepPreds
  refine SameEpoch.trans ?_ (.of_frame State.showPrediction_frame rfl)
  exact SameEpoch.trans (.withGnss fun _ => rfl) (.put _ F.SILLAGE_STAT_VALID _)

theorem State.stopLanes_sameEpoch (s : State) (n : Nat) : SameEpoch s (s.stopLanes n) := by
  unfold State.stopLanes
  dsimp only
  refine SameEpoch.trans (SameEpoch.trans ?_ (State.keepPreds_sameEpoch _ _)) (.of_frame State.reportSearch_frame rfl)
  refine SameEpoch.trans ?_ (.withGnss fun _ => rfl)
  exact SameEpoch.foldl (fun t l => .put _ _ _) _ s

theorem State.atQuiet_sameEpoch (s : State) (n : Nat) : SameEpoch s (s.atQuiet n) := by
  unfold State.atQuiet
  dsimp only
  refine .ite ?_ (.ite .refl ?_)
  · refine SameEpoch.trans (SameEpoch.trans ?_ (.modBerth _ _ _)) (State.landSignal_sameEpoch _ _)
    exact (State.refuseBonded_sameEpoch _ _ _ _).trans (State.leavePlaces_sameEpoch _ _)
  · unfold State.stopBerth
    refine SameEpoch.trans (SameEpoch.trans (SameEpoch.trans ?_ (.modBerth _ _ _)) (.put _ _ _)) (State.stopLanes_sameEpoch _ _)
    exact (State.refuseBonded_sameEpoch _ _ _ _).trans (State.leavePlaces_sameEpoch _ _)

/-- Of the consumers of an event, the capture alone touches the receiver's state, and not its epoch. -/
theorem State.fire_sameEpoch (s : State) (p : Nat) : SameEpoch s (s.fire p) := by
  have hcapture : ∀ t : State, SameEpoch t t.startCapture := fun t => by
    unfold State.startCapture
    refine SameEpoch.trans (SameEpoch.trans ?_ (.puts _ _)) (.of_frame State.deriveMode_frame rfl)
    exact .withGnss fun _ => rfl
  unfold State.fire
  refine SameEpoch.trans (.of_frame State.watch_frame rfl) (SameEpoch.foldl (fun t c => ?_) _ _)
  unfold State.reach
  refine .ite (.of_frame State.overrun_frame rfl) ?_
  unfold State.consume
  exact .ite (.of_frame State.dmaTrigger_frame rfl) (.ite (.of_frame State.setEngine_frame rfl) (.ite (.of_frame State.adcStart_frame rfl)
    (.ite (.of_frame State.touchStart_frame rfl) (.ite (.of_frame State.spiStart_frame rfl) (.ite (.of_frame State.evrCapture_frame rfl)
    (.ite (.of_frame State.wake_frame rfl) (.ite (hcapture t) (.ite (.of_frame State.outEvent_frame rfl)
    (.ite (.of_frame State.cutGrant_frame rfl) (.ite (.of_frame State.captureRtc_frame rfl) (.put _ _ _)))))))))))

/-! The instant of an epoch. -/

theorem State.jamBand_sameEpoch (s : State) (b flat : Nat) : SameEpoch s (s.jamBand b flat) := by
  have hlearn : ∀ (t : State) (num den : Nat), SameEpoch t (t.learnRef b num den) := fun t num den => by
    unfold State.learnRef
    exact SameEpoch.trans (.put _ _ _) (.modBand _ _ _)
  unfold State.jamBand
  dsimp only
  generalize hm : s.puts _ = m
  have hsm : SameEpoch s m := by rw [← hm]; exact .puts _ _
  have hmu : ∀ c : Bool, SameEpoch m (if c = true then m else if s.bursts = true then m.learnRef b (s.get F.GNSS_BURST_PERIOD) 1
      else m.learnRef b 1 (max 1 s.gnss.rate)) := fun c => .ite .refl (.ite (hlearn _ _ _) (hlearn _ _ _))
  refine (hsm.trans (hmu _)).trans (.ite ?_ .refl)
  exact .of_frame State.raiseK_frame rfl

theorem State.jamming_sameEpoch (s : State) (flat : List Nat) : SameEpoch s (s.jamming flat) := by
  unfold State.jamming
  refine SameEpoch.foldl (fun t b => ?_) _ s
  dsimp only
  exact SameEpoch.trans (.ite (State.jamBand_sameEpoch _ _ _) (.puts _ _)) (.modBand _ _ _)

theorem State.holdBerths_sameEpoch (s : State) : SameEpoch s s.holdBerths := by
  unfold State.holdBerths
  generalize allBerths = l
  dsimp only
  refine SameEpoch.trans ?_ (.of_frame State.rfClocks_frame rfl)
  refine SameEpoch.trans ?_ (.of_frame State.deriveMode_frame rfl)
  refine SameEpoch.trans ?_ (.withGnss fun _ => rfl)
  refine SameEpoch.trans ?_ (SameEpoch.foldl (fun t n => ?_) _ _)
  · exact SameEpoch.foldl (fun t n => .ite (.put _ _ _) .refl) l s
  · exact .ite (State.atQuiet_sameEpoch _ _) .refl

theorem State.endBases_sameEpoch (s : State) (m : List Meas) : SameEpoch s (s.endBases m) := by
  unfold State.endBases
  refine SameEpoch.foldl (fun t n => ?_) _ s
  dsimp only
  exact SameEpoch.trans (.modBerth _ _ _) (.of_frame State.showBond_frame rfl)

/-- An instant that may come opens the next epoch. -/
theorem State.epochInstant_spec {s : State} (h : s.mayInstant = true) (m : List Meas) (fl : List Nat) :
    (s.epochInstant m fl).gnss.opened = true ∧ (s.epochInstant m fl).gnss.epoch = some s.nextEpoch ∧
      (s.epochInstant m fl).gnss.te = s.instant := by
  unfold State.epochInstant
  rw [if_neg (by rw [h]; decide)]
  dsimp only
  generalize (s.passTo s.instant).gather s.nextEpoch s.instant m = list
  generalize hu : ((s.passTo s.instant).spendN 512).withGnss _ = u
  have hpart : u.gnss.opened = true ∧ u.gnss.epoch = some s.nextEpoch ∧ u.gnss.te = s.instant := by rw [← hu]; exact ⟨rfl, rfl, rfl⟩
  generalize hv : (u.endBases m).reportDepth = v
  have huv : SameEpoch u v := by rw [← hv]; exact (State.endBases_sameEpoch _ _).trans (.reportDepth _)
  have hlost : ∀ (c : Bool) (t : State), SameEpoch t (if c = true then t.withGnss fun g => { g with lost := false } else t) := fun c t =>
    .ite (.withGnss fun _ => rfl) .refl
  generalize hw : (if (v.on F.MEASQ_CFG_EN && _) = true then (v.measPut _ _ _).withGnss _ else v.measPut _ _ _) = w
  have hvw : SameEpoch v w := by
    rw [← hw]
    exact (State.measPut_sameEpoch _ _ _ _).trans (hlost _ _)
  have hall : SameEpoch u (if (w.jamming fl).bursts = true then (w.jamming fl).holdBerths else w.jamming fl) :=
    ((huv.trans hvw).trans (State.jamming_sameEpoch _ _)).trans (.ite (State.holdBerths_sameEpoch _) .refl)
  have hparts := Prod.mk.inj hall
  exact ⟨hparts.1.trans hpart.1, (Prod.mk.inj hparts.2).1.trans hpart.2.1, (Prod.mk.inj (Prod.mk.inj hparts.2).2).1.trans hpart.2.2⟩

/-! The close of an epoch. -/

theorem State.closeBerth_sameEpoch (s : State) (e n : Nat) : SameEpoch s (s.closeBerth e n) := by
  unfold State.closeBerth
  dsimp only
  have hrefuse : ∀ (b c d : Bool), SameEpoch s (if b = true then s else if c = true then s.refuseStart n 1 6 else if d = true then
      s.refuseStart n 5 s.afterRefusal else s) := fun b c d =>
    .ite .refl (.ite (State.refuseStart_sameEpoch _ _ _ _) (.ite (State.refuseStart_sameEpoch _ _ _ _) .refl))
  generalize hm : (if (s.berth n).kind.isNone = true then s else _) = m
  have hsm : SameEpoch s m := by
    rw [← hm]
    exact .ite .refl (.ite (State.refuseStart_sameEpoch _ _ _ _) (.ite (State.refuseStart_sameEpoch _ _ _ _) .refl))
  exact hsm.trans (.ite .refl (State.retract_sameEpoch _ _ _ _))

theorem State.holdRecords_sameEpoch (s : State) (e : Nat) : SameEpoch s (s.holdRecords e) := by
  unfold State.holdRecords
  generalize List.range 256 = l
  refine SameEpoch.foldl (fun t n => ?_) l s
  dsimp only
  split
  · exact State.measPut_sameEpoch _ _ _ _
  · exact .refl

/-- The close of an open epoch, whose solution is then to come. -/
theorem State.epochClose_spec {s : State} {e : Nat} (ho : s.gnss.opened = true) (he : s.gnss.epoch = some e) :
    s.epochClose.gnss.opened = false ∧ s.epochClose.gnss.solving = true ∧ s.epochClose.gnss.closed = some (e, s.gnss.te) := by
  unfold State.epochClose
  rw [ho, he]
  generalize List.range 256 = l
  dsimp only
  generalize hm : ((l.foldl (fun t n => t.closeBerth e n) s).clearEntries e).holdRecords e = m
  have hsm : SameEpoch s m := by
    rw [← hm]
    refine SameEpoch.trans ?_ (State.holdRecords_sameEpoch _ _)
    refine SameEpoch.trans ?_ (.modEntries _ _ _)
    exact SameEpoch.foldl (fun t n => State.closeBerth_sameEpoch t e n) l s
  generalize List.filter _ m.gnss.entries = mine
  generalize hv : m.measPut e 0 _ = v
  have hmv : SameEpoch m v := by rw [← hv]; exact State.measPut_sameEpoch _ _ _ _
  generalize hv' : v.put F.MEASQ_STAT_LAST e = v'
  have hput : SameEpoch v v' := by rw [← hv']; exact .put _ _ _
  have hte : v'.gnss.te = s.gnss.te := (Prod.mk.inj (Prod.mk.inj (Prod.mk.inj ((hsm.trans hmv).trans hput)).2).2).1
  generalize hw : v'.withGnss _ = w
  have hparts : w.gnss.opened = false ∧ w.gnss.solving = true ∧ w.gnss.closed = some (e, v'.gnss.te) := by
    rw [← hw]; exact ⟨rfl, rfl, rfl⟩
  generalize hx : (w.raiseK Src.GNSS_EPOCH e _ _).fire 22 = x
  have hwx : SameEpoch w x := by
    rw [← hx]
    exact SameEpoch.trans (.of_frame State.raiseK_frame rfl) (State.fire_sameEpoch _ _)
  obtain ⟨h1, h2⟩ := Prod.mk.inj hwx
  obtain ⟨-, h2⟩ := Prod.mk.inj h2
  obtain ⟨-, h2⟩ := Prod.mk.inj h2
  obtain ⟨h3, h2⟩ := Prod.mk.inj h2
  obtain ⟨h4, -⟩ := Prod.mk.inj h2
  exact ⟨h1.trans hparts.1, h3.trans hparts.2.1, h4.trans (hparts.2.2.trans (by rw [hte]))⟩

/-! The fix record. -/

theorem State.monitor_sameEpoch (s : State) (f : Solution) (e : Nat) : SameEpoch s (s.monitor f e).1 := by
  have hshow : ∀ (t : State) (l : List (Nat × Nat)), SameEpoch t (t.showExcluded l) := fun t l => by
    unfold State.showExcluded
    generalize List.range 8 = r
    dsimp only
    refine SameEpoch.trans ?_ (.put _ _ _)
    refine SameEpoch.trans ?_ (.withGnss fun _ => rfl)
    exact SameEpoch.foldl (fun t k => .put _ _ _) r t
  unfold State.monitor
  dsimp -zeta only
  lift_lets
  extract_lets es cleared tests held stay kept base fails limit bonded new all s1 s2 s3
  split
  · exact hshow _ _
  · have h2 : SameEpoch s s2 := (hshow s all).trans (SameEpoch.foldl (fun t x => .of_frame State.raiseExcluded_frame rfl) new s1)
    exact h2.trans (.ite (.of_frame State.raise0_frame rfl) .refl)

theorem State.setPreds_sameEpoch (s : State) (l : List Pred) : SameEpoch s (s.setPreds l) := by
  unfold SameEpoch
  rw [State.setPreds_gnss]
  rfl

theorem State.checkAid_sameEpoch (s : State) (te : Nat) (f : Solution) : SameEpoch s (s.checkAid te f) := by
  have hreject : ∀ t : State, SameEpoch t t.rejectAid := fun t => by
    unfold State.rejectAid
    dsimp only
    refine SameEpoch.trans ?_ (SameEpoch.foldl (fun t l => State.queueSearch_sameEpoch _ _) _ _)
    refine SameEpoch.trans (.of_frame State.raise0_frame rfl) (SameEpoch.foldl (fun t l => ?_) _ _)
    unfold State.leaveLane
    refine SameEpoch.trans ?_ (.of_frame State.reportSearch_frame rfl)
    exact SameEpoch.trans (.put _ _ _) (.withGnss fun _ => rfl)
  unfold State.checkAid
  split
  · extract_lets _ _ _ m
    have hsm : SameEpoch s m := rfl
    exact .ite (hsm.trans (hreject m)) hsm
  · exact .refl

theorem State.nmeaOut_sameEpoch (s : State) (v : Shown) : SameEpoch s (s.nmeaOut v) := by
  unfold State.nmeaOut
  refine .ite .refl (.ite (.withGnss fun _ => rfl) ?_)
  refine SameEpoch.trans ?_ (.of_frame State.sendSentences_frame rfl)
  exact .withGnss fun _ => rfl

/-- An event of the router leaves the receiver's own registers but the limit of the pseudorange. -/
theorem State.fire_same {f : Fld} (hp : f.part = .rGnss) (hk : f.key ≠ F.GNSS_CONSLIM_PR_LIM.key) (s : State) (p : Nat) :
    Same [f] s (s.fire p) := by
  have hcapture : ∀ t : State, Same [f] t t.startCapture := fun t => by
    unfold State.startCapture
    refine Same.trans ?_ (State.deriveMode_same hp hk _)
    generalize hm : t.withGnss _ = m
    have htm : Same [f] t m := fun _ _ => by rw [← hm]; rfl
    exact htm.trans <| Same.of_part hp (State.puts_cons_frame (e := [.rLookout]) F.LOOKOUT_SNAP_BUSY_part rfl
      (State.puts_cons_frame F.LOOKOUT_SNAP_VALID_part rfl State.puts_nil_frame)) rfl
  have keep : ∀ {e : List Part} {t u : State}, Frame e t u → Part.sub [.rGnss] e = false → Same [f] t u := Same.of_part hp
  unfold State.fire
  refine Same.trans (keep State.watch_frame rfl) (Same.foldl (fun t c => ?_) _ _)
  unfold State.reach
  refine .ite (keep State.overrun_frame rfl) ?_
  unfold State.consume
  exact .ite (keep State.dmaTrigger_frame rfl) (.ite (keep State.setEngine_frame rfl) (.ite (keep State.adcStart_frame rfl)
    (.ite (keep State.touchStart_frame rfl) (.ite (keep State.spiStart_frame rfl) (.ite (keep State.evrCapture_frame rfl)
    (.ite (keep State.wake_frame rfl) (.ite (hcapture t) (.ite (keep State.outEvent_frame rfl)
    (.ite (keep State.cutGrant_frame rfl) (.ite (keep State.captureRtc_frame rfl)
      (keep (State.count_frame (e := [.rEvr]) (F.EVR_CNT_COUNT_part) rfl) rfl)))))))))))

/-- What the record of a fix ends: the wait for the solution, with the rate in force. -/
def Solved (s t : State) : Prop := t.gnss.solving = false ∧ t.gnss.rate = s.get F.GNSS_EPOCHCFG_RATE

theorem Solved.of_sameEpoch {s t u : State} (h : Solved s t) (k : SameEpoch t u) : Solved s u := by
  obtain ⟨-, k⟩ := Prod.mk.inj k
  obtain ⟨-, k⟩ := Prod.mk.inj k
  obtain ⟨-, k⟩ := Prod.mk.inj k
  obtain ⟨k1, k⟩ := Prod.mk.inj k
  obtain ⟨-, k⟩ := Prod.mk.inj k
  exact ⟨k1.trans h.1, (Prod.mk.inj k).1.trans h.2⟩

theorem SameEpoch.fix {s t : State} (h : SameEpoch s t) : t.gnss.fix = s.gnss.fix := congrArg (·.2.2.2.2.2.2) h

/-- A solution that was to come is recorded: its flag stands at 0, or a fix is known. -/
theorem State.writeFix_spec {s : State} {f : Solution} {l : List Pred} {c : Nat × Nat} (hs : s.gnss.solving = true) (hc : s.gnss.closed = some c) :
    Solved s (s.writeFix f l) ∧ ((s.writeFix f l).get F.GNSS_STAT_FIX = 0 ∨ (s.writeFix f l).gnss.fix.isSome = true) := by
  obtain ⟨e, te⟩ := c
  unfold State.writeFix
  rw [hs, hc]
  dsimp -zeta only
  lift_lets
  extract_lets s0 mn s1 m es sats nsv ft gal auth full sbas flags wk week fromFull late gps tow pos w s2 s3 first t v2 t1 t2 t3 sc t4 taken s4 utc v s5
  have h0 : Solved s s0 := by
    generalize hb : (s.withGnss fun g => { g with solving := false }).applyRate = b
    have hbase : Solved s b := by rw [← hb]; exact ⟨rfl, rfl⟩
    refine hbase.of_sameEpoch ?_
    rw [show s0 = (b.broadcastLeap f).spend by rw [← hb]]
    exact SameEpoch.trans (.of_frame State.broadcastLeap_frame rfl) (.of_frame State.spend_frame rfl)
  have h3 : Solved s s3 := h0.of_sameEpoch (((State.monitor_sameEpoch s0 f e).trans (State.measPut_sameEpoch s1 _ _ _)).trans (.put _ _ _))
  have h4 : Solved s s4 ∧ (s4.get F.GNSS_STAT_FIX = 0 ∨ s4.gnss.fix.isSome = true) := by
    by_cases hft : ft = 0
    · rw [show s4 = s3 from if_pos hft]
      refine ⟨h3, .inl ((State.get_put_same _ _ _).trans ?_)⟩
      rw [hft]; rfl
    · have ht : Solved s t := h3.of_sameEpoch <| ((SameEpoch.put s3 F.GNSS_STAT_USED (min 255 nsv)).trans
        (.put _ F.GNSS_OSNMA_NAUTH (min 255 auth.length))).trans (.of_frame State.writeOffsets_frame rfl)
      clear_value t
      have ht1 : Solved s t1 := ht
      have h14 : SameEpoch t1 s4 := by
        rw [show s4 = _ from if_neg hft]
        have h12 : SameEpoch t1 t2 := .ite (State.checkAid_sameEpoch _ _ _) .refl
        have h23 : SameEpoch t2 t3 := .ite (.of_frame State.moveAnchor_frame rfl) .refl
        exact ((h12.trans h23).trans (.of_frame State.autoSign_frame rfl)).trans (.of_frame State.measure_frame rfl)
      refine ⟨ht1.of_sameEpoch h14, .inr ?_⟩
      rw [h14.fix]
      rfl
  have h5 : SameEpoch s4 s5 := SameEpoch.trans (.of_frame State.raiseK_frame rfl) (State.fire_sameEpoch _ _)
  have hpredict : SameEpoch (s5.nmeaOut v) ((s5.nmeaOut v).predict l) := SameEpoch.trans (.put _ _ _) (State.setPreds_sameEpoch _ _)
  have hend := (h5.trans (State.nmeaOut_sameEpoch s5 v)).trans hpredict
  refine ⟨h4.1.of_sameEpoch hend, ?_⟩
  rw [hend.fix, State.predict_frame.get F.GNSS_STAT_FIX_part rfl, State.nmeaOut_frame.get F.GNSS_STAT_FIX_part rfl,
    (State.fire_same F.GNSS_STAT_FIX_part (by decide) _ 23).get, State.raiseK_frame.get F.GNSS_STAT_FIX_part rfl]
  exact h4.2

end Sys2Proof.Machine

namespace Sys2Proof.Machine

/-- Of fields with keys of their own, each reads what a list of writes gives it. -/
theorem State.get_puts_of_mem (l : List (Fld × Nat)) (hl : l.Pairwise fun a b => a.1.key ≠ b.1.key) (s : State) {c : Fld × Nat}
    (hc : c ∈ l) : (s.puts l).get c.1 = c.2 % 2 ^ c.1.w := by
  induction l generalizing s with
  | nil => exact absurd hc List.not_mem_nil
  | cons a r ih =>
    obtain ⟨ha, hr⟩ := List.pairwise_cons.1 hl
    rcases List.mem_cons.1 hc with rfl | hc
    · exact ((s.put c.1 c.2).get_puts_other r ha).trans (State.get_put_same _ _ _)
    · exact ih hr (s.put a.1 a.2) hc

theorem State.writeTail_spec (s : State) (v : BitVec 12) :
    (v.toNat < 2 ^ s.gnss.measq.2 → (s.writeTail false v.toNat).get F.MEASQ_TAIL_IDX = v.toNat) ∧
    (v.toNat < 2 ^ s.gnss.bitlog.2 → (s.writeTail true v.toNat).get F.BITLOG_TAIL_IDX = v.toNat) ∧
    (2 ^ s.gnss.measq.2 ≤ v.toNat → s.writeTail false v.toNat = s) ∧ (2 ^ s.gnss.bitlog.2 ≤ v.toNat → s.writeTail true v.toNat = s) := by
  have kept : v.toNat % 2 ^ 12 = v.toNat := Nat.mod_eq_of_lt v.isLt
  have hmeasq : s.writeTail false v.toNat = if v.toNat < 2 ^ s.gnss.measq.2 then s.put F.MEASQ_TAIL_IDX v.toNat else s := rfl
  have hbitlog : s.writeTail true v.toNat = if v.toNat < 2 ^ s.gnss.bitlog.2 then s.put F.BITLOG_TAIL_IDX v.toNat else s := rfl
  refine ⟨fun h => ?_, fun h => ?_, fun h => ?_, fun h => ?_⟩
  · rw [hmeasq, if_pos h, State.get_put_same]; exact kept
  · rw [hbitlog, if_pos h, State.get_put_same]; exact kept
  · rw [hmeasq, if_neg (Nat.not_lt.2 h)]
  · rw [hbitlog, if_neg (Nat.not_lt.2 h)]

/-- The read of the first fix word captures the other fifteen. -/
theorem State.captureFix_words (s : State) (k : Fin 15) :
    s.captureFix.get (F.MEASQ_FIX_WORD k) = (s.gnss.fix.getD []).getD (k + 1) 0 % 2 ^ 32 := by
  unfold State.captureFix
  dsimp only
  generalize s.gnss.fix.getD [] = w
  generalize s.put F.MEASQ_FIX0_WORD _ = t
  have hw : ((t.puts ((List.range 15).map fun k => (F.MEASQ_FIX_WORD k, w.getD (k + 1) 0))).get (F.MEASQ_FIX_WORD k) : Nat) =
      w.getD (k + 1) 0 % 2 ^ 32 := by
    refine State.get_puts_of_mem _ ?_ t (c := (F.MEASQ_FIX_WORD k, w.getD (k + 1) 0)) ?_
    · refine List.pairwise_map.2 (List.pairwise_lt_range.imp_of_mem fun {a b} ha hb hab => ?_)
      rw [List.mem_range] at ha hb
      simp only [Fld.key, F.MEASQ_FIX_WORD]
      omega
    · exact List.mem_map.2 ⟨k, List.mem_range.2 k.isLt, rfl⟩
  generalize t.puts _ = u at hw ⊢
  exact hw

/-- A moved ring of measurements is empty. -/
theorem State.movedMeasq_spec {s t : State} {r : Nat × Nat} (h : t = ((s.initRing r.1 r.2).withGnss fun g => { g with measq := r }).puts
    [(F.MEASQ_HEAD_IDX, 0), (F.MEASQ_TAIL_IDX, 0)]) :
    t.gnss.measq = r ∧ t.get F.MEASQ_HEAD_IDX = 0 ∧ t.get F.MEASQ_TAIL_IDX = 0 := by
  subst h
  generalize s.initRing r.1 r.2 = u
  refine ⟨rfl, ?_, State.get_put_same _ _ _⟩
  exact (State.get_put_other _ _ (by decide)).trans (State.get_put_same _ _ _)

/-- A moved ring of navigation bits is empty. -/
theorem State.movedBitlog_spec {s t : State} {r : Nat × Nat} (h : t = ((s.initRing r.1 r.2).withGnss fun g =>
      { g with bitlog := r, units := g.units.map fun u => { u with index := none } }).puts
    [(F.BITLOG_HEAD_IDX, 0), (F.BITLOG_TAIL_IDX, 0)]) :
    t.gnss.bitlog = r ∧ t.get F.BITLOG_HEAD_IDX = 0 ∧ t.get F.BITLOG_TAIL_IDX = 0 := by
  subst h
  generalize s.initRing r.1 r.2 = u
  refine ⟨rfl, ?_, State.get_put_same _ _ _⟩
  exact (State.get_put_other _ _ (by decide)).trans (State.get_put_same _ _ _)

theorem State.mayInstant_iff (s : State) : s.mayInstant = true ↔
    (if s.bursts then s.gnss.window = true else s.continuous = true) ∧ s.gnss.opened = false ∧ s.get F.CLK_STAT_XTALG ≠ 3 := by
  unfold State.mayInstant
  cases s.bursts <;> simp [and_assoc]

end Sys2Proof.Machine

namespace Sys2Proof
open Sys2Proof.Machine

/-- Settles O19: an epoch, a fix and a ring each go on only from the state the clause names. -/
theorem epochsFixesAndOutputs : Obligations.EpochsFixesAndOutputs := by
  unfold Obligations.EpochsFixesAndOutputs
  have body := fun {s x i} (h : accepts s x i = true) (f) => congrArg (Host.Outcome.next (φ := Fault) (ρ := Refusal)) (run_accepts h f)
  refine ⟨fun m fl s => ⟨fun h => ?opens, fun h => ?noInstant⟩,
    fun s => ⟨fun e ho he => ⟨_, rfl, State.epochClose_spec ho he⟩, fun h => ?noClose⟩,
    fun f l s => ⟨fun c hs hc => ?fix, fun h => ?noFix⟩,
    fun x s h => ⟨fun w hw => (body h _).trans ?shown, fun hf => (body h _).trans ?unfixed, body h _⟩, fun x s h => body h _,
    fun s all h => by unfold State.measLines; rw [h],
    fun x v sig s h => ⟨fun hh hb => (body h _).trans ?heritage, fun hh => (body h _).trans ?bits⟩,
    fun s => ⟨_, rfl, ?word, s.captureFix_words⟩, fun v s => ?tails,
    fun s ho hs => ⟨fun h => ?measq, fun h => ?bitlog, fun h => ?sameMeasq, fun h => ?sameBitlog⟩, fun bitlog s h => ?busy,
    fun x on p s h => ⟨_, body h _, rfl, rfl⟩, fun x set s h => ⟨_, body h _, rfl⟩,
    fun x n s h => ⟨fun h1 h60 => ⟨_, (body h _).trans (congrArg Host.Outcome.next (if_pos ⟨h1, h60⟩)), rfl⟩,
      fun hn => (body h _).trans (congrArg Host.Outcome.next (if_neg (by omega)))⟩⟩
  case opens => exact ⟨_, rfl, State.epochInstant_spec (s.mayInstant_iff.2 h) m fl⟩
  case noInstant =>
    refine congrArg Host.Outcome.next (if_pos ?_)
    rw [Bool.eq_false_iff.2 (mt s.mayInstant_iff.1 h)]
    rfl
  case noClose =>
    show Host.Outcome.next s.epochClose = _
    unfold State.epochClose
    rcases h with h | h
    · rw [h]
    · rw [h]; cases s.gnss.opened <;> rfl
  case fix =>
    obtain ⟨⟨hs1, hr⟩, hf⟩ := State.writeFix_spec (f := f) (l := l) hs hc
    exact ⟨_, rfl, hs1, hr, hf⟩
  case noFix =>
    show Host.Outcome.next (s.writeFix f l) = _
    unfold State.writeFix
    rcases h with h | h
    · rw [h]
    · rw [h]; cases s.gnss.solving <;> rfl
  case shown => rw [hw]
  case unfixed => rw [hf]
  case heritage =>
    refine congrArg Host.Outcome.next (if_pos ?_)
    rw [hh, hb]; rfl
  case bits =>
    refine congrArg Host.Outcome.next (if_neg ?_)
    rw [Bool.and_eq_true, beq_iff_eq]
    rintro ⟨h1, h2⟩
    rcases hh with hh | hh
    · rw [hh] at h1; exact Bool.noConfusion h1
    · exact hh h2
  case word => rfl
  case tails =>
    obtain ⟨h1, h2, h3, h4⟩ := s.writeTail_spec v
    exact ⟨fun h => ⟨_, rfl, h1 h⟩, fun h => ⟨_, rfl, h2 h⟩, fun h => congrArg Host.Outcome.next (h3 h),
      fun h => congrArg Host.Outcome.next (h4 h)⟩
  case measq => exact ⟨_, congrArg Host.Outcome.next ((if_neg (by rw [ho, hs]; decide)).trans ((if_neg (by decide)).trans (if_neg h))), State.movedMeasq_spec rfl⟩
  case bitlog => exact ⟨_, congrArg Host.Outcome.next ((if_neg (by rw [ho, hs]; decide)).trans ((if_pos rfl).trans (if_neg h))), State.movedBitlog_spec rfl⟩
  case sameMeasq => exact congrArg Host.Outcome.next ((if_neg (by rw [ho, hs]; decide)).trans ((if_neg (by decide)).trans (if_pos h)))
  case sameBitlog => exact congrArg Host.Outcome.next ((if_neg (by rw [ho, hs]; decide)).trans ((if_pos rfl).trans (if_pos h)))
  case busy => exact congrArg Host.Outcome.next (if_pos (Bool.or_eq_true_iff.2 h))

end Sys2Proof

/-! PROOF. The Tide's time and its sources (O30). -/

namespace Sys2Proof.Machine

/-- A signed number within its field's range is what its pattern reads as. -/
theorem signed_pattern {w : Nat} {v : Int} (hw : 0 < w) (hl : -((2 ^ (w - 1) : Nat) : Int) ≤ v) (hu : v < ((2 ^ (w - 1) : Nat) : Int)) :
    signed w (pattern w v) = v := by
  obtain ⟨k, rfl⟩ := Nat.exists_eq_add_of_le' hw
  have hlt := pattern_lt (k + 1) v
  have hdouble : (2 ^ (k + 1) : Nat) = 2 * 2 ^ k := by rw [Nat.pow_succ, Nat.mul_comm]
  have hpat : (pattern (k + 1) v : Int) = v % ((2 ^ (k + 1) : Nat) : Int) :=
    Int.toNat_of_nonneg (Int.emod_nonneg v (by exact_mod_cast Nat.ne_of_gt (Nat.two_pow_pos (k + 1))))
  unfold signed
  rw [Nat.mod_eq_of_lt hlt]
  simp only [Nat.add_sub_cancel] at hl hu ⊢
  generalize (2 ^ k : Nat) = p at *
  rw [hdouble] at hpat ⊢
  generalize pattern (k + 1) v = n at *
  push_cast at *
  rcases Int.lt_or_le v 0 with hv | hv
  · have hmod : v % (2 * (p : Int)) = v + 2 * (p : Int) := by
      rw [← Int.add_emod_right]
      exact Int.emod_eq_of_lt (by omega) (by omega)
    rw [if_neg (by omega)]
    omega
  · have hmod : v % (2 * (p : Int)) = v := Int.emod_eq_of_lt hv (by omega)
    rw [if_pos (by omega)]
    omega

theorem signed_mod (w n : Nat) : signed w (n % 2 ^ w) = signed w n := by
  unfold signed
  rw [Nat.mod_mod]

/-- What a signed field reads lies within its range. -/
theorem signed_range {w : Nat} (hw : 0 < w) (n : Nat) :
    -((2 ^ (w - 1) : Nat) : Int) ≤ signed w n ∧ signed w n < ((2 ^ (w - 1) : Nat) : Int) := by
  obtain ⟨k, rfl⟩ := Nat.exists_eq_add_of_le' hw
  have hlt := Nat.mod_lt n (Nat.two_pow_pos (k + 1))
  have hdouble : (2 ^ (k + 1) : Nat) = 2 * 2 ^ k := by rw [Nat.pow_succ, Nat.mul_comm]
  unfold signed
  dsimp only
  simp only [Nat.add_sub_cancel]
  generalize n % 2 ^ (k + 1) = m at *
  rw [hdouble] at hlt ⊢
  generalize (2 ^ k : Nat) = p at *
  push_cast
  split <;> omega

theorem State.getS_putS {s : State} {f : Fld} {v : Int} (hw : 0 < f.w) (hl : -((2 ^ (f.w - 1) : Nat) : Int) ≤ v)
    (hu : v < ((2 ^ (f.w - 1) : Nat) : Int)) : (s.putS f v).getS f = v := by
  unfold State.getS State.putS
  rw [State.get_put_same, signed_mod, signed_pattern hw hl hu]

theorem State.getS_congr {s t : State} {f : Fld} (h : t.get f = s.get f) : t.getS f = s.getS f := by
  unfold State.getS
  rw [h]

theorem State.on_flag (s : State) {f : Fld} (b : Bool) (hw : f.w = 1) : (s.flag f b).on f = b := by
  unfold State.on State.flag
  rw [State.get_put_same, hw]
  cases b <;> rfl

theorem State.on_congr {s t : State} {f : Fld} (h : t.get f = s.get f) : t.on f = s.on f := by
  unfold State.on
  rw [h]

/-! Settings of the Tide. -/

/-- A field takes a word where one is given. -/
def State.putGiven (s : State) (f : Fld) : Option (BitVec 16) → State
  | some v => s.put f v.toNat
  | none => s

theorem State.putGiven_get (s : State) (p : Option (BitVec 16)) {f : Fld} (hf : f.w = 16) :
    (s.putGiven f p).get f = (p.map (·.toNat)).getD (s.get f) ∧ ∀ g : Fld, g.key ≠ f.key → (s.putGiven f p).get g = s.get g := by
  cases p with
  | none => exact ⟨rfl, fun _ _ => rfl⟩
  | some v => exact ⟨(State.get_put_same _ _ _).trans (by rw [hf]; exact Nat.mod_eq_of_lt v.isLt), fun g h => State.get_put_other _ _ h⟩

/-- A bit is set or cleared where it is told to be. -/
def State.flagGiven (s : State) (f : Fld) : Option Bool → State
  | some b => s.flag f b
  | none => s

theorem State.flagGiven_on (s : State) (o : Option Bool) {f : Fld} (hf : f.w = 1) :
    (s.flagGiven f o).on f = o.getD (s.on f) ∧ ∀ g : Fld, g.key ≠ f.key → (s.flagGiven f o).get g = s.get g := by
  cases o with
  | none => exact ⟨rfl, fun _ _ => rfl⟩
  | some b => exact ⟨State.on_flag _ _ hf, fun g h => State.get_put_other _ _ h⟩

/-- The fall into holdover leaves every field of the Tide but its state and rate. -/
theorem State.checkSources_same {f : Fld} (hp : f.part = .rTide) (h1 : f.key ≠ F.TIDE_STAT_STATE.key) (h2 : f.key ≠ F.TIDE_RATE_ADJ.key)
    (s : State) : Same [f] s s.checkSources := by
  unfold State.checkSources State.holdover
  refine .ite .refl (.ite ?_ .refl)
  have h : ∀ t : State, Same [f] t (t.raise0 Src.TIDE_HOLD).pulsePolicy := fun t =>
    (Same.of_part hp State.raise0_frame rfl).trans (Same.of_part hp State.pulsePolicy_frame rfl)
  refine Same.trans ?_ (h _)
  exact .ite (Same.of_put_key h1) ((Same.of_put_key h1).trans (Same.of_put_key h2))

/-- With no valid source a locked Tide falls into holdover. -/
theorem State.checkSources_holds {s : State} (hv : s.anyValid = false) (hl : s.get F.TIDE_STAT_STATE = 1) :
    s.checkSources.get F.TIDE_STAT_STATE = 2 := by
  unfold State.checkSources State.holdover
  rw [hv, if_neg Bool.false_ne_true, if_pos hl]
  dsimp only
  rw [State.pulsePolicy_frame.get F.TIDE_STAT_STATE_part rfl, State.raise0_frame.get F.TIDE_STAT_STATE_part rfl]
  split
  · exact State.get_put_same _ _ _
  · exact (State.get_put_other _ _ (by decide)).trans (State.get_put_same _ _ _)

theorem State.chooseSource_get (s : State) (v : Fin 4) : (s.chooseSource v).get F.TIDE_CFG_SRC = v := by
  unfold State.chooseSource
  have hderive : ∀ t : State, Same [F.TIDE_CFG_SRC] t t.deriveLoop := fun t => by
    unfold State.deriveLoop
    refine .ite .refl (.of_puts ?_)
    simp only [List.forall_mem_cons, List.not_mem_nil, false_implies, implies_true, and_true]
    decide
  refine ((hderive _).trans (State.checkSources_same F.TIDE_CFG_SRC_part (by decide) (by decide) _)).get.trans ?_
  exact (State.get_put_same _ _ _).trans (Nat.mod_eq_of_lt v.isLt)

/-- A step changes of the Tide's registers the bit of a step that waits. -/
theorem State.applyStep_same {f : Fld} (hp : f.part = .rTide) (hk : f.key ≠ F.TIDE_CTRL_STEP_PEND.key) (s : State) (d : Int) :
    Same [f] s (s.applyStep d) := by
  unfold State.applyStep
  dsimp only
  refine Same.trans ?_ (Same.of_part hp State.pulseStep_frame rfl)
  have hraise : ∀ (t : State) (a b c : Nat), Same [f] t (t.raise a b c) := fun t a b c => Same.of_part hp State.raise_frame rfl
  generalize hm : s.withTide _ = m
  have hsm : Same [f] s m := by rw [← hm]; exact fun _ _ => rfl
  split
  · exact ((hsm.trans (Same.of_put_key hk)).trans (hraise _ _ _ _)).trans (hraise _ _ _ _)
  · exact (hsm.trans (Same.of_put_key hk)).trans (hraise _ _ _ _)

theorem State.requestStep_same {f : Fld} (hp : f.part = .rTide) (hk : f.key ≠ F.TIDE_CTRL_STEP_PEND.key) (s : State) (d : Int) :
    Same [f] s (s.requestStep d) := by
  unfold State.requestStep
  refine .ite (State.applyStep_same hp hk s _) ?_
  generalize hm : s.withTide _ = m
  have hsm : Same [f] s m := by rw [← hm]; exact fun _ _ => rfl
  exact hsm.trans (Same.of_put_key hk)

theorem State.changeScale_get (s : State) (c : Fin 6) : (s.changeScale c).get F.TIDE_CFG_SCALE = c := by
  unfold State.changeScale
  dsimp only
  split
  next h => exact h.symm
  next =>
    refine (State.requestStep_same F.TIDE_CFG_SCALE_part (by decide) _ _).get.trans ?_
    exact (State.get_put_same _ _ _).trans (Nat.mod_eq_of_lt (Nat.lt_trans c.isLt (by decide)))

/-- A leap offset is set as given, with where it comes from. -/
theorem State.setLeap_spec {s : State} {n : Int} (hl : -128 ≤ n) (hu : n < 128) (b : Bool) :
    (s.setLeap n b).getS F.TIDE_LEAP_CUR = n ∧ (s.setLeap n b).get F.TIDE_LEAP_SRC = bit b := by
  have hbase : ((s.putS F.TIDE_LEAP_CUR n).flag F.TIDE_LEAP_SRC b).getS F.TIDE_LEAP_CUR = n ∧
      ((s.putS F.TIDE_LEAP_CUR n).flag F.TIDE_LEAP_SRC b).get F.TIDE_LEAP_SRC = bit b := by
    constructor
    · exact (State.getS_congr (State.get_put_other _ _ (by decide))).trans (State.getS_putS (by decide) hl hu)
    · refine (State.get_put_same _ _ _).trans ?_
      cases b <;> rfl
  unfold State.setLeap
  dsimp only
  split
  · exact ⟨(State.getS_congr (State.pulseAlign_frame.get F.TIDE_LEAP_CUR_part rfl)).trans hbase.1,
      (State.pulseAlign_frame.get F.TIDE_LEAP_SRC_part rfl).trans hbase.2⟩
  · exact hbase

/-! Steps, sources and pulses. -/

/-- A step moves the time and waits no longer. -/
theorem State.applyStep_spec (s : State) (d : Int) : (s.applyStep d).tide.now = addTime s.tide.now d ∧ (s.applyStep d).tide.step = none ∧
    (s.applyStep d).get F.TIDE_CTRL_STEP_PEND = 0 := by
  unfold State.applyStep
  extract_lets f sec frac sc s1 s2 s3
  have hraised : ∀ (t : State) (a b c : Nat), (t.raise a b c).tide = t.tide ∧ (t.raise a b c).get F.TIDE_CTRL_STEP_PEND = t.get F.TIDE_CTRL_STEP_PEND :=
    fun t a b c => ⟨State.raise_frame.same .tide rfl, State.raise_frame.get F.TIDE_CTRL_STEP_PEND_part rfl⟩
  have h2 : s2.tide = s1.tide ∧ s2.get F.TIDE_CTRL_STEP_PEND = 0 :=
    ⟨(hraised _ _ _ _).1, (hraised _ _ _ _).2.trans (State.get_put_same _ _ _)⟩
  have h3 : s3.tide = s2.tide ∧ s3.get F.TIDE_CTRL_STEP_PEND = s2.get F.TIDE_CTRL_STEP_PEND := by
    clear_value sc s2
    cases sc with
    | some p => exact hraised _ _ _ _
    | none => exact ⟨rfl, rfl⟩
  have htide : s3.pulseStep.tide = s1.tide := ((State.pulseStep_frame.same .tide rfl).trans h3.1).trans h2.1
  rw [htide, State.pulseStep_frame.get F.TIDE_CTRL_STEP_PEND_part rfl]
  exact ⟨rfl, rfl, h3.2.trans h2.2⟩

/-- Time that passes leaves the sources' validity and every field of the Tide but its age and error. -/
theorem State.passTo_spec {f : Fld} (h1 : f.key ≠ F.TIDE_STAT_AGE.key) (h2 : f.key ≠ F.TIDE_ERR_ERR.key) (s : State) (n : Nat) :
    (s.passTo n).tide.valid = s.tide.valid ∧ (s.passTo n).get f = s.get f := by
  have hseconds : ∀ (t : State) (n g : Nat), (t.secondsPass n g).tide.valid = t.tide.valid ∧ (t.secondsPass n g).get f = t.get f :=
    fun t n g => by
      unfold State.secondsPass
      split
      · exact ⟨rfl, rfl⟩
      · exact ⟨rfl, (State.get_put_other _ _ h2).trans (State.get_put_other _ _ h1)⟩
  unfold State.passTo
  split
  · unfold State.tideCount
    dsimp only
    generalize hm : ({ s.withTide _ with rtc := _ } : State) = m
    have hmt : m.tide.valid = s.tide.valid ∧ m.get f = s.get f := by rw [← hm]; exact ⟨rfl, rfl⟩
    obtain ⟨hv, hg⟩ := hseconds m ((s.tide.up + (n - s.tide.now)) / tideOne - s.tide.up / tideOne)
      (if s.fastRuns = true then s.get F.TIDE_HOLD_GROW else s.get F.TIDE_HOLD_SLPGROW)
    exact ⟨hv.trans hmt.1, hg.trans hmt.2⟩
  · exact ⟨rfl, rfl⟩

/-- A measurement leaves the last edge of the pulse input. -/
theorem State.measure_lastPps (s : State) (src : Nat) (e : Int) (at_ err : Nat) : (s.measure src e at_ err).tide.lastPps = s.tide.lastPps := by
  have hderive : ∀ t : State, t.deriveLoop.tide.lastPps = t.tide.lastPps := fun t =>
    congrArg TideState.lastPps (State.deriveLoop_frame.same .tide rfl : _ = _)
  have hraise : ∀ (t : State) (a b c : Nat), (t.raise a b c).tide.lastPps = t.tide.lastPps := fun t a b c =>
    congrArg TideState.lastPps (State.raise_frame.same .tide rfl : _ = _)
  have hstep : ∀ (t : State) (d : Int), (t.requestStep d).tide.lastPps = t.tide.lastPps := fun t d => by
    unfold State.requestStep
    dsimp only
    split
    · unfold State.applyStep
      extract_lets f sec frac sc s1 s2 s3
      have h2 : s2.tide.lastPps = t.tide.lastPps := hraise _ _ _ _
      have h3 : s3.tide.lastPps = s2.tide.lastPps := by
        clear_value sc s2
        cases sc with
        | some p => exact hraise _ _ _ _
        | none => rfl
      exact ((congrArg TideState.lastPps (State.pulseStep_frame.same .tide rfl : _ = _)).trans h3).trans h2
    · rfl
  unfold State.measure
  lift_lets
  extract_lets prev s1 same tau s2 s3 far s4 s5 s6
  split
  · rfl
  split
  · rfl
  have h1 : s1.tide.lastPps = s.tide.lastPps := rfl
  have h2 : s2.tide.lastPps = s1.tide.lastPps := hderive (s1.put F.TIDE_STAT_ACT_SRC src)
  clear_value s1 s2
  have h3 : s3.tide.lastPps = s.tide.lastPps := h2.trans h1
  have h4 : s4.tide.lastPps = s3.tide.lastPps := by
    clear_value s3
    simp only [s4]
    split
    · rfl
    split
    · exact hstep _ _
    · rfl
  clear_value s4
  have h6 : s6.tide.lastPps = s4.tide.lastPps := rfl
  have hend : (if s.get F.TIDE_STAT_STATE = 1 then s6 else s6.raise0 Src.TIDE_LOCK).tide.lastPps = s6.tide.lastPps := by
    clear_value s6
    split
    · rfl
    · exact hraise _ _ _ _
  exact (congrArg TideState.lastPps (State.pulsePolicy_frame.same .tide rfl : _ = _)).trans (((hend.trans h6).trans h4).trans h3)

/-- The two bits of the pulse's policy: stopped, or flagged, while discipline is lost. -/
theorem State.pulsePolicy_spec (s : State) :
    s.pulsePolicy.on F.TP_STAT_STOPPED = (s.lost && s.on F.TP_CTRL_EN && !s.tp.policy) ∧
    s.pulsePolicy.on F.TP_STAT_FLAG = (s.lost && s.on F.TP_CTRL_EN && s.tp.policy) := by
  unfold State.pulsePolicy
  extract_lets lost stop flag was changed s1 s2 s3
  have h1 : s1.on F.TP_STAT_STOPPED = stop ∧ s1.on F.TP_STAT_FLAG = flag :=
    ⟨(State.on_congr (State.get_put_other _ _ (by decide))).trans (State.on_flag _ _ rfl), State.on_flag _ _ rfl⟩
  have h2 : ∀ f : Fld, s2.get f = s1.get f := fun f => by
    clear_value s1
    simp only [s2]
    split <;> rfl
  have h3 : s3.get F.TP_STAT_STOPPED = s2.get F.TP_STAT_STOPPED ∧ s3.get F.TP_STAT_FLAG = s2.get F.TP_STAT_FLAG :=
    ⟨State.get_put_other _ _ (by decide), State.get_put_other _ _ (by decide)⟩
  have h4 : ∀ {f : Fld}, f.part = .rTp → (if changed = true then s3.raise0 Src.TP_FLAG else s3).get f = s3.get f := fun {f} hp => by
    clear_value s3
    split
    · exact State.raise0_frame.get hp rfl
    · rfl
  exact ⟨(State.on_congr (((h4 F.TP_STAT_STOPPED_part).trans h3.1).trans (h2 _))).trans h1.1,
    (State.on_congr (((h4 F.TP_STAT_FLAG_part).trans h3.2).trans (h2 _))).trans h1.2⟩

/-- The captured time. -/
theorem State.captureNow_spec (s : State) : s.captureNow.get F.TIDE_NOWL_SEC = s.tideSec % 2 ^ 32 ∧
    s.captureNow.get F.TIDE_NOWF_FRAC = s.tideFrac % 2 ^ 32 ∧ s.captureNow.tide = s.tide := by
  unfold State.captureNow
  dsimp only
  refine ⟨?_, ?_, rfl⟩
  · exact ((State.get_put_other _ _ (by decide)).trans (State.get_put_other _ _ (by decide))).trans (State.get_put_same _ _ _)
  · exact State.get_put_same _ _ _

end Sys2Proof.Machine

namespace Sys2Proof
open Sys2Proof.Machine

/-- TIDE LOOP puts the gains that are given, and opens or closes the loop where it is told to. -/
theorem execTideLoop_accepted (x : Sess) (p q : Option (BitVec 16)) (o : Option Bool) {s : State}
    (h : accepts s x { tideCmd with expert := true } = true) :
    exec (.tideLoop x p q o) s = .next ((((s.putGiven F.TIDE_GAIN_KP p).putGiven F.TIDE_GAIN_KI q).flagGiven F.TIDE_CFG_LOOP_OPEN o).ok x) := by
  refine (congrArg Host.Outcome.next (run_accepts h _) : _ = _).trans ?_
  cases p <;> cases q <;> cases o <;> rfl

theorem execTideLoop_run (x : Sess) (p q : Option (BitVec 16)) (o : Option Bool) {s : State} (h : accepts s x { tideCmd with expert := true } = true) :
    ∃ t : State, exec (.tideLoop x p q o) s = .next (t.ok x) ∧
      t.get F.TIDE_GAIN_KP = (p.map (·.toNat)).getD (s.get F.TIDE_GAIN_KP) ∧
      t.get F.TIDE_GAIN_KI = (q.map (·.toNat)).getD (s.get F.TIDE_GAIN_KI) ∧
      t.on F.TIDE_CFG_LOOP_OPEN = o.getD (s.on F.TIDE_CFG_LOOP_OPEN) := by
  obtain ⟨hp, hpo⟩ := State.putGiven_get s p (f := F.TIDE_GAIN_KP) rfl
  obtain ⟨hq, hqo⟩ := State.putGiven_get (s.putGiven F.TIDE_GAIN_KP p) q (f := F.TIDE_GAIN_KI) rfl
  obtain ⟨ho, hoo⟩ := State.flagGiven_on ((s.putGiven F.TIDE_GAIN_KP p).putGiven F.TIDE_GAIN_KI q) o (f := F.TIDE_CFG_LOOP_OPEN) rfl
  refine ⟨_, execTideLoop_accepted x p q o h, (hoo _ (by decide)).trans ((hqo _ (by decide)).trans hp),
    (hoo _ (by decide)).trans (hq.trans (by rw [hpo _ (by decide)])), ho.trans ?_⟩
  rw [State.on_congr ((hqo F.TIDE_CFG_LOOP_OPEN (by decide)).trans (hpo _ (by decide)))]

/-- A pulse that the Tide takes becomes its last edge, and one it does not take is counted. -/
theorem execTpinPulse_run (n : Nat) (s : State) :
    let c := addTime (n * 2 ^ 24) ((s.tide.up : Int) - (s.tide.now : Int))
    let taken := s.tide.lastPps = none ∨ ∃ p : Nat, s.tide.lastPps = some p ∧
      (2 * (tideOne : Int) < (c : Int) - p ∨ ((c : Int) - p - (tideOne : Int)).natAbs ≤ ofNanos 100000)
    (s.fastRuns = true → taken → ∃ t : State, exec (.tpinPulse n) s = .next t ∧ t.tide.lastPps = some c) ∧
    (s.fastRuns = true → ¬taken → exec (.tpinPulse n) s = .next (s.count F.TIDE_PPSCNT_REJ)) ∧
    (s.fastRuns = false → exec (.tpinPulse n) s = .next s) := by
  intro c taken
  show (_ → _ → ∃ t, execTpinPulse n s = _ ∧ _) ∧ (_ → _ → execTpinPulse n s = _) ∧ (_ → execTpinPulse n s = _)
  unfold execTpinPulse
  lift_lets
  extract_lets t count ok edge e s1 s2
  have hok : ok = true ↔ taken := by
    simp only [ok, taken]
    rcases s.tide.lastPps with _ | p
    · simp
    · simp [c, count, t]
  refine ⟨fun hf ht => ⟨_, congrArg Host.Outcome.next ((if_neg (by rw [hf]; decide)).trans (if_neg (by rw [hok.2 ht]; decide))), ?_⟩,
    fun hf ht => congrArg Host.Outcome.next ((if_neg (by rw [hf]; decide)).trans (if_pos ?_)),
    fun hf => congrArg Host.Outcome.next (if_pos (by rw [hf]; rfl))⟩
  · refine (State.measure_lastPps _ _ _ _ _).trans ?_
    exact (congrArg TideState.lastPps ((State.fire_frame.same .tide rfl).trans (State.raise_frame.same .tide rfl) : s2.tide = s1.tide)).trans rfl
  · rw [Bool.eq_false_iff.2 (mt hok.1 ht)]; rfl

/-- A source that times out is no longer valid, and where none is left a locked Tide holds over. -/
theorem execSourceTimeout_run (src : Fin 3) (s : State) : ∃ t : State, exec (.sourceTimeout src) s = .next t ∧
    t.tide.valid = withBit s.tide.valid src false ∧
    ((s.withTide fun u => { u with valid := withBit u.valid src false }).anyValid = false → s.get F.TIDE_STAT_STATE = 1 →
      t.get F.TIDE_STAT_STATE = 2) := by
  show ∃ t, execSourceTimeout src s = _ ∧ _
  unfold execSourceTimeout
  extract_lets s1
  have h1 : ∀ {f : Fld}, f.key ≠ F.TIDE_STAT_AGE.key → f.key ≠ F.TIDE_ERR_ERR.key → s1.tide.valid = s.tide.valid ∧ s1.get f = s.get f :=
    fun {f} ha he => by
      simp only [s1]
      split
      · split
        · exact State.passTo_spec ha he s _
        · exact ⟨rfl, rfl⟩
      · exact ⟨rfl, rfl⟩
  clear_value s1
  obtain ⟨hv, hsrc⟩ := h1 (f := F.TIDE_CFG_SRC) (by decide) (by decide)
  have hst := (h1 (f := F.TIDE_STAT_STATE) (by decide) (by decide)).2
  have hany : (s1.withTide fun t => { t with valid := withBit t.valid src false }).anyValid =
      (s.withTide fun t => { t with valid := withBit t.valid src false }).anyValid := by
    show (if s1.get F.TIDE_CFG_SRC = 3 then withBit s1.tide.valid src false != 0 else bitOf (withBit s1.tide.valid src false) (s1.get F.TIDE_CFG_SRC)) = _
    rw [hv, hsrc]
    rfl
  refine ⟨_, rfl, ?_, fun hnone hlock => State.checkSources_holds (hany.trans hnone) (hst.trans hlock)⟩
  rw [State.checkSources_frame.same .tide rfl]
  exact congrArg (withBit · src false) hv

/-- Settles O30: the branches of each command of the Tide, with what its steps leave of the field in question. -/
theorem tideTimeAndItsSources : Obligations.TideTimeAndItsSources := by
  unfold Obligations.TideTimeAndItsSources
  have body := fun {s x i} (h : accepts s x i = true) (f) => congrArg (Host.Outcome.next (φ := Fault) (ρ := Refusal)) (run_accepts h f)
  refine ⟨fun x s h => body h _, fun x f c s h => ⟨⟨_, body h _, s.chooseSource_get f⟩, ⟨_, body h _, s.changeScale_get c⟩⟩,
    fun x n s h => ⟨fun hn => ?leap, fun hn => (body h _).trans (congrArg Host.Outcome.next (if_neg (by omega)))⟩,
    fun x n s h => ⟨fun hn ho => ?rate, fun hn ho => ?closed, fun hn => (body h _).trans (congrArg Host.Outcome.next (if_pos hn))⟩,
    fun x p q o s h => execTideLoop_run x p q o h, fun s => ?now,
    fun side s h => congrArg Host.Outcome.next (guard_opens h _ _),
    fun s => ⟨fun d hd hr => ?step, fun h => ?noStep⟩, fun src s => ?source, fun s => ⟨fun h => ?applied, fun h => ?noLeap⟩,
    execTpinPulse_run, fun n s => ⟨fun h => ?aligned, fun h => ?notDue⟩, fun s => ⟨_, rfl, s.pulsePolicy_spec⟩⟩
  case leap =>
    obtain ⟨hcur, hsrc⟩ := State.setLeap_spec (s := s) (n := n) (by omega) (by omega) false
    exact ⟨_, (body h _).trans (congrArg Host.Outcome.next (if_pos hn)), hcur, hsrc⟩
  case rate =>
    refine ⟨_, (body h _).trans (congrArg Host.Outcome.next ((if_neg (by omega)).trans (if_pos ho))), ?_⟩
    have hhalf : 2 ^ (F.TIDE_RATE_ADJ.w - 1) = 2147483648 := rfl
    exact State.getS_putS (by decide) (by rw [hhalf]; omega) (by rw [hhalf]; omega)
  case closed => exact (body h _).trans (congrArg Host.Outcome.next ((if_neg (by omega)).trans (if_neg (by rw [ho]; decide))))
  case now => exact ⟨_, rfl, rfl, s.captureNow_spec⟩
  case step =>
    obtain ⟨hnow, hstep, hpend⟩ := s.applyStep_spec d
    refine ⟨_, ?_, hnow, hstep, hpend⟩
    show Host.Outcome.next (match s.tide.step with | some d => if s.receiverRests then s.applyStep d else s | none => s) = _
    rw [hd]
    exact congrArg Host.Outcome.next (if_pos hr)
  case noStep =>
    show Host.Outcome.next (match s.tide.step with | some d => if s.receiverRests then s.applyStep d else s | none => s) = _
    cases hd : s.tide.step with
    | none => rfl
    | some d => exact congrArg Host.Outcome.next (if_neg (by rw [h.resolve_left (by rw [hd]; exact Option.some_ne_none d)]; decide))
  case source =>
    obtain ⟨t, ht, hv, hs⟩ := execSourceTimeout_run src s
    exact ⟨t, ht, hv, hs⟩
  case applied =>
    obtain ⟨hl, hu⟩ := signed_range (w := 8) (by decide) (s.get F.TIDE_LEAP_NEXT)
    obtain ⟨hcur, hsrc⟩ := State.setLeap_spec (s := s) (n := s.getS F.TIDE_LEAP_NEXT) hl hu true
    refine ⟨_, congrArg Host.Outcome.next (if_pos h), ?_, ?_, ?_⟩
    · refine (State.getS_congr ((State.leapRtc_frame.get F.TIDE_LEAP_CUR_part rfl).trans (State.get_put_other _ _ (by decide)))).trans hcur
    · exact ((State.leapRtc_frame.get F.TIDE_LEAP_SRC_part rfl).trans (State.get_put_other _ _ (by decide))).trans hsrc
    · exact (State.leapRtc_frame.get F.TIDE_LEAP_PEND_part rfl).trans (State.get_put_same _ _ _)
  case noLeap => exact congrArg Host.Outcome.next (if_neg (by rw [h]; decide))
  case aligned =>
    refine ⟨_, congrArg Host.Outcome.next (if_pos h), ?_⟩
    rw [State.raise_frame.same .tide rfl]
    exact ⟨rfl, rfl⟩
  case notDue => exact congrArg Host.Outcome.next (if_neg (by rw [h]; decide))

end Sys2Proof

/-! PROOF. Time transfer and the time pulse (O31). -/

namespace Sys2Proof.Machine

/-! What keeps the settings of the time pulse. -/

/-- The time pulse's state but for the number of the next pulse. -/
def TpState.settings (p : TpState) : TpState := { p with next := 0 }

/-- `t` has the time pulse's settings and pulse of `s`. -/
def SamePulse (s t : State) : Prop := t.tp.settings = s.tp.settings

namespace SamePulse

variable {s t u : State}

theorem refl : SamePulse s s := rfl

theorem trans (h : SamePulse s t) (k : SamePulse t u) : SamePulse s u := Eq.trans k h

theorem of_frame {e : List Part} (h : Frame e s t) (hn : Part.sub [.tp] e = false) : SamePulse s t :=
  congrArg TpState.settings (h.same .tp hn : _ = _)

theorem ite {c : Prop} [Decidable c] {a b : State} (ha : SamePulse s a) (hb : SamePulse s b) : SamePulse s (if c then a else b) := by
  split
  · exact ha
  · exact hb

theorem put (s : State) (f : Fld) (v : Nat) : SamePulse s (s.put f v) := rfl

theorem next (n : TpState → Nat) : SamePulse s (s.withTp fun p => { p with next := n p }) := rfl

theorem fields (h : SamePulse s t) : t.tp.period = s.tp.period ∧ t.tp.width = s.tp.width ∧ t.tp.delay = s.tp.delay ∧ t.tp.pol = s.tp.pol ∧
    t.tp.policy = s.tp.policy ∧ t.tp.scale = s.tp.scale ∧ t.tp.pulse = s.tp.pulse := by
  obtain ⟨h1, h2, h3, h4, h5, h6, -, h8⟩ := TpState.mk.inj h
  exact ⟨h1, h2, h3, h4, h5, h6, h8⟩

end SamePulse

theorem State.pulsePolicy_samePulse (s : State) : SamePulse s s.pulsePolicy := by
  unfold State.pulsePolicy
  extract_lets lost stop flag was changed s1 s2 s3
  have h1 : SamePulse s s1 := rfl
  have h2 : SamePulse s1 s2 := .ite (.next _) .refl
  have h3 : SamePulse s2 s3 := .of_frame State.pulseOn_frame rfl
  exact ((h1.trans h2).trans h3).trans (.ite (.of_frame State.raise0_frame rfl) .refl)

/-- The fields that the pulse's own reports write. -/
def pulseReports : List Fld := [F.TP_QNEXT_SEC, F.TP_QERR_QERR, F.TP_QERR_VALID, F.TP_STAT_STOPPED, F.TP_STAT_FLAG, F.TP_STAT_ON]

section

variable {f : Fld} (hp : f.part = .rTp) (hr : ∀ g ∈ pulseReports, f.key ≠ g.key)
include hp hr

omit hp in
theorem State.reportPulse_same (s : State) : Same [f] s s.reportPulse := by
  have hk : ∀ g ∈ pulseReports, ∀ (t : State) (v : Nat), Same [f] t (t.put g v) := fun g hg t v => Same.of_put_key (hr g hg)
  unfold State.reportPulse
  refine .ite ?_ (hk _ (by simp [pulseReports]) _ _)
  exact ((hk _ (by simp [pulseReports]) _ _).trans (hk _ (by simp [pulseReports]) _ _)).trans (hk _ (by simp [pulseReports]) _ _)

theorem State.pulsePolicy_same (s : State) : Same [f] s s.pulsePolicy := by
  have hk : ∀ g ∈ pulseReports, ∀ (t : State) (v : Nat), Same [f] t (t.put g v) := fun g hg t v => Same.of_put_key (hr g hg)
  unfold State.pulsePolicy
  extract_lets lost stop flag was changed s1 s2 s3
  have h1 : Same [f] s s1 := (hk F.TP_STAT_STOPPED (by simp [pulseReports]) _ _).trans (hk F.TP_STAT_FLAG (by simp [pulseReports]) _ _)
  have h2 : Same [f] s1 s2 := .ite (fun g _ => State.get_withTp s1 _ g) .refl
  have h3 : Same [f] s2 s3 := hk F.TP_STAT_ON (by simp [pulseReports]) _ _
  exact ((h1.trans h2).trans h3).trans (.ite (.of_part hp State.raise0_frame rfl) .refl)

end

/-! Staged settings take effect. -/

/-- The period that is staged. -/
def State.stagedPeriod (s : State) : Nat := s.get F.TP_PERS_SEC * 2 ^ 32 + s.get F.TP_PERF_FRAC

/-- A staged period below a microsecond is not taken. -/
def State.keepsPeriod (s : State) : Prop := s.stagedPeriod ≠ 0 ∧ s.stagedPeriod * 1000000 < 2 ^ 32

/-- The settings in force after the staged ones are taken. -/
structure Applied (s t : State) : Prop where
  pulse : t.tp.pulse = s.tp.pulse
  kept : s.keepsPeriod → t.tp.period = s.tp.period
  taken : ¬s.keepsPeriod → t.tp.period = s.stagedPeriod
  width : t.tp.width = s.get F.TP_WIDTH_TICKS
  delay : t.tp.delay = s.getS F.TP_DELAY_DELAY
  pol : t.tp.pol = s.on F.TP_CTRL_POL
  policy : t.tp.policy = s.on F.TP_CTRL_POLICY
  scale : t.tp.scale = s.get F.TP_CTRL_SCALE
  pend : t.get F.TP_STAT_APPLY_PEND = 0
  same : Same [F.TP_WIDTH_TICKS, F.TP_DELAY_DELAY, F.TP_CTRL_POL, F.TP_CTRL_POLICY, F.TP_CTRL_SCALE] s t
  restored : s.keepsPeriod → t.get F.TP_PERS_SEC = s.tp.period / 2 ^ 32 % 2 ^ 32 ∧ t.get F.TP_PERF_FRAC = s.tp.period % 2 ^ 32

theorem State.applyPulse_applied (s : State) : Applied s s.applyPulse := by
  unfold State.applyPulse
  extract_lets per keep s1 s2 s3 k near s4
  have hkeep : keep ↔ s.keepsPeriod := Iff.rfl
  have h1 : ∀ {f : Fld}, f.key ≠ F.TP_PERS_SEC.key → f.key ≠ F.TP_PERF_FRAC.key → s1.get f = s.get f := fun {f} ha hb => by
    simp only [s1]
    split
    · exact (State.get_put_other _ _ hb).trans (State.get_put_other _ _ ha)
    · rfl
  have h1k : keep → s1.get F.TP_PERS_SEC = s.tp.period / 2 ^ 32 % 2 ^ 32 ∧ s1.get F.TP_PERF_FRAC = s.tp.period % 2 ^ 32 := fun hk => by
    rw [show s1 = _ from if_pos hk]
    refine ⟨(State.get_put_other _ _ (by decide)).trans (State.get_put_same _ _ _), (State.get_put_same _ _ _).trans ?_⟩
    exact Nat.mod_mod _ _
  have h1p : s1.tp = s.tp := by
    simp only [s1]
    split <;> rfl
  clear_value s1
  have htp2 : ∃ n, (keep → n = s1.tp.period) ∧ (¬keep → n = per) ∧ s2.tp =
      { s1.tp with
        period := n
        width := s1.get F.TP_WIDTH_TICKS
        delay := s1.getS F.TP_DELAY_DELAY
        pol := s1.on F.TP_CTRL_POL
        policy := s1.on F.TP_CTRL_POLICY
        scale := s1.get F.TP_CTRL_SCALE } := ⟨_, fun h => if_pos h, fun h => if_neg h, rfl⟩
  have h2 : ∀ f : Fld, s2.get f = s1.get f := fun f => State.get_withTp s1 _ f
  clear_value s2
  obtain ⟨n, hkept, htaken, htp2⟩ := htp2
  have h3 : s3.tp = s2.tp := rfl
  have h3g : ∀ {f : Fld}, f.key ≠ F.TP_STAT_APPLY_PEND.key → s3.get f = s2.get f := fun h => State.get_put_other _ _ h
  have h3p : s3.get F.TP_STAT_APPLY_PEND = 0 := State.get_put_same _ _ _
  clear_value s3
  generalize ht : (if s3.on F.TP_CTRL_EN = true then (if near then s4.put F.TP_STAT_SKIP 1 else s4).reportPulse.pulsePolicy else s3) = t
  have htp : SamePulse s3 t := by
    rw [← ht]
    refine .ite ?_ .refl
    refine SamePulse.trans ?_ (State.pulsePolicy_samePulse _)
    refine SamePulse.trans ?_ (.of_frame State.reportPulse_frame rfl)
    have h34 : SamePulse s3 s4 := .next _
    exact .ite (h34.trans (.put _ _ _)) h34
  have htg : ∀ {f : Fld}, f.part = .rTp → (∀ g ∈ pulseReports, f.key ≠ g.key) → f.key ≠ F.TP_STAT_SKIP.key → t.get f = s3.get f :=
    fun {f} hp hr hs => by
      have h34 : Same [f] s3 s4 := fun g _ => State.get_withTp s3 _ g
      have hst : Same [f] s3 t := by
        rw [← ht]
        refine .ite ?_ .refl
        exact ((h34.trans (.ite (Same.of_put_key hs) .refl)).trans (State.reportPulse_same hr _)).trans (State.pulsePolicy_same hp hr _)
      exact hst.get
  obtain ⟨fperiod, fwidth, fdelay, fpol, fpolicy, fscale, fpulse⟩ := htp.fields
  rw [h3, htp2] at fperiod fwidth fdelay fpol fpolicy fscale fpulse
  have hall : ∀ {f : Fld}, f.part = .rTp → (∀ g ∈ pulseReports, f.key ≠ g.key) → f.key ≠ F.TP_STAT_SKIP.key →
      f.key ≠ F.TP_STAT_APPLY_PEND.key → t.get f = s1.get f := fun hp hr hs ha => ((htg hp hr hs).trans (h3g ha)).trans (h2 _)
  refine ⟨fpulse.trans (by rw [h1p]), fun h => fperiod.trans ((hkept h).trans (by rw [h1p])), fun h => fperiod.trans (htaken h),
    fwidth.trans (h1 (by decide) (by decide)), fdelay.trans (State.getS_congr (h1 (by decide) (by decide))),
    fpol.trans (State.on_congr (h1 (by decide) (by decide))), fpolicy.trans (State.on_congr (h1 (by decide) (by decide))),
    fscale.trans (h1 (by decide) (by decide)), (htg F.TP_STAT_APPLY_PEND_part (by decide) (by decide)).trans h3p, ?_, fun h => ?_⟩
  · intro f hf
    have hparts : f.part = .rTp ∧ (∀ g ∈ pulseReports, f.key ≠ g.key) ∧ f.key ≠ F.TP_STAT_SKIP.key ∧ f.key ≠ F.TP_STAT_APPLY_PEND.key ∧
        f.key ≠ F.TP_PERS_SEC.key ∧ f.key ≠ F.TP_PERF_FRAC.key := by
      revert f
      decide
    obtain ⟨hp, hr, hs, ha, hsec, hfrac⟩ := hparts
    exact (hall hp hr hs ha).trans (h1 hsec hfrac)
  · exact ⟨(hall F.TP_PERS_SEC_part (by decide) (by decide) (by decide)).trans (h1k h).1,
      (hall F.TP_PERF_FRAC_part (by decide) (by decide) (by decide)).trans (h1k h).2⟩

end Sys2Proof.Machine

namespace Sys2Proof.Machine

/-! The staging of settings and the output turned on and off. -/

theorem State.releasePulse_busy {s : State} (h : s.tp.pulse.isSome = true) : s.releasePulse = s.put F.TP_STAT_APPLY_PEND 1 := if_pos h

theorem State.releasePulse_idle {s : State} (h : s.tp.pulse = none) : s.releasePulse = s.applyPulse := if_neg (by rw [h]; exact Bool.false_ne_true)

/-- The release of the staged settings leaves what is staged of the delay and the bits of CTRL. -/
theorem State.releasePulse_same (s : State) :
    Same [F.TP_WIDTH_TICKS, F.TP_DELAY_DELAY, F.TP_CTRL_POL, F.TP_CTRL_POLICY, F.TP_CTRL_SCALE] s s.releasePulse :=
  .ite (.of_put (by decide)) s.applyPulse_applied.same

/-- The output is on as told, and turned off it has no pulse under way. -/
theorem State.enablePulse_spec (s : State) (on : Bool) :
    (s.enablePulse on).on F.TP_CTRL_EN = on ∧ (on = false → (s.enablePulse on).tp.pulse = none) := by
  unfold State.enablePulse
  extract_lets s1
  have h1 : s1.on F.TP_CTRL_EN = on := State.on_flag s on rfl
  clear_value s1
  have hend : ∀ t : State, Same [F.TP_CTRL_EN] t t.pulsePolicy.pulseOn.xtalFollow ∧ SamePulse t t.pulsePolicy.pulseOn.xtalFollow := fun t =>
    ⟨((State.pulsePolicy_same F.TP_CTRL_EN_part (by decide) t).trans (.of_put (by decide))).trans
        (.of_part F.TP_CTRL_EN_part State.xtalFollow_frame rfl),
      (t.pulsePolicy_samePulse.trans (.of_frame State.pulseOn_frame rfl)).trans (.of_frame State.xtalFollow_frame rfl)⟩
  cases on with
  | false =>
    rw [if_neg (by rw [Bool.false_and]; exact Bool.false_ne_true), if_neg Bool.false_ne_true]
    generalize hm : s1.withTp _ = m
    have hm1 : m.get F.TP_CTRL_EN = s1.get F.TP_CTRL_EN := by rw [← hm]; exact State.get_withTp _ _ _
    have hmp : m.tp.pulse = none := by rw [← hm]; rfl
    obtain ⟨hen, hsame⟩ := hend (m.put F.TP_QERR_VALID 0)
    refine ⟨(State.on_congr ((hen.get.trans (State.get_put_other _ _ (by decide))).trans hm1)).trans h1, fun _ => ?_⟩
    obtain ⟨-, -, -, -, -, -, hpulse⟩ := hsame.fields
    exact hpulse.trans hmp
  | true =>
    refine ⟨?_, nofun⟩
    have halign : Same [F.TP_CTRL_EN] s1 s1.pulseAlign := by
      unfold State.pulseAlign
      refine .ite ?_ .refl
      refine Same.trans (fun g _ => State.get_withTp s1 _ g) (State.reportPulse_same (by decide) _)
    have hall : Same [F.TP_CTRL_EN] s1 (if (true && !s.on F.TP_CTRL_EN) = true then s1.pulseAlign.pulsePolicy.pulseOn.xtalFollow
        else if true = true then s1 else ((s1.withTp fun p => { p with pulse := none }).put F.TP_QERR_VALID 0).pulsePolicy.pulseOn.xtalFollow) :=
      .ite (halign.trans (hend _).1) (by rw [if_pos rfl]; exact .refl)
    exact (State.on_congr hall.get).trans h1

/-- A field takes a number where one is given. -/
def State.putNumber (s : State) (f : Fld) : Option Nat → State
  | some v => s.put f v
  | none => s

/-- The staged period takes a number of 2^-32 s where one is given. -/
def State.putPeriod (s : State) : Option Nat → State
  | some p => (s.put F.TP_PERS_SEC (p / 2 ^ 32)).put F.TP_PERF_FRAC p
  | none => s

theorem State.putNumber_get (s : State) (f : Fld) (p : Option Nat) :
    (s.putNumber f p).tp = s.tp ∧ (∀ v, p = some v → (s.putNumber f p).get f = v % 2 ^ f.w) ∧
      ∀ g : Fld, g.key ≠ f.key → (s.putNumber f p).get g = s.get g := by
  cases p with
  | none => exact ⟨rfl, nofun, fun _ _ => rfl⟩
  | some v => exact ⟨rfl, fun _ h => by cases h; exact State.get_put_same _ _ _, fun _ h => State.get_put_other _ _ h⟩

theorem State.putPeriod_get (s : State) (p : Option Nat) :
    (s.putPeriod p).tp = s.tp ∧ (∀ v, p = some v → (s.putPeriod p).get F.TP_PERS_SEC = v / 2 ^ 32 % 2 ^ 32 ∧
      (s.putPeriod p).get F.TP_PERF_FRAC = v % 2 ^ 32) := by
  cases p with
  | none => exact ⟨rfl, nofun⟩
  | some v =>
    exact ⟨rfl, fun _ h => by cases h; exact ⟨(State.get_put_other _ _ (by decide)).trans (State.get_put_same _ _ _), State.get_put_same _ _ _⟩⟩

/-- The settings that TP SET stages. -/
def State.stagePulse (s : State) (p w : Option Nat) (n : Option Bool) (c : Option (Fin 8)) : State :=
  (((s.putPeriod p).putNumber F.TP_WIDTH_TICKS w).flagGiven F.TP_CTRL_POL n).putNumber F.TP_CTRL_SCALE (c.map (·.val))

theorem State.stagePulse_spec (s : State) (p w : Option Nat) (n : Option Bool) (c : Option (Fin 8)) :
    (s.stagePulse p w n c).tp = s.tp ∧ (∀ v, p = some v → (s.stagePulse p w n c).stagedPeriod = v % 2 ^ 64) ∧
    (∀ v, w = some v → (s.stagePulse p w n c).get F.TP_WIDTH_TICKS = v % 2 ^ 32) ∧
    (∀ v, n = some v → (s.stagePulse p w n c).on F.TP_CTRL_POL = v) ∧
    (∀ v, c = some v → (s.stagePulse p w n c).get F.TP_CTRL_SCALE = v.val) := by
  unfold State.stagePulse
  obtain ⟨t1, g1⟩ := s.putPeriod_get p
  generalize s.putPeriod p = a at *
  obtain ⟨t2, g2, o2⟩ := a.putNumber_get F.TP_WIDTH_TICKS w
  generalize a.putNumber F.TP_WIDTH_TICKS w = b at *
  obtain ⟨g3, o3⟩ := b.flagGiven_on n (f := F.TP_CTRL_POL) rfl
  have t3 : (b.flagGiven F.TP_CTRL_POL n).tp = b.tp := by cases n <;> rfl
  generalize b.flagGiven F.TP_CTRL_POL n = d at *
  obtain ⟨t4, g4, o4⟩ := d.putNumber_get F.TP_CTRL_SCALE (c.map (·.val))
  generalize d.putNumber F.TP_CTRL_SCALE (c.map (·.val)) = e at *
  have hkeep : ∀ f : Fld, f.key ≠ F.TP_CTRL_SCALE.key → f.key ≠ F.TP_CTRL_POL.key → e.get f = b.get f := fun f h h' => (o4 f h).trans (o3 f h')
  refine ⟨t4.trans (t3.trans (t2.trans t1)), fun v hv => ?_, fun v hv => (hkeep _ (by decide) (by decide)).trans (g2 v hv),
    fun v hv => (State.on_congr (o4 _ (by decide))).trans (g3.trans (by rw [hv]; rfl)), fun v hv => ?_⟩
  · obtain ⟨hsec, hfrac⟩ := g1 v hv
    unfold State.stagedPeriod
    rw [hkeep _ (by decide) (by decide), hkeep _ (by decide) (by decide), o2 _ (by decide), o2 _ (by decide), hsec, hfrac]
    omega
  · refine (g4 v.val (by rw [hv]; rfl)).trans (Nat.mod_eq_of_lt v.isLt)

end Sys2Proof.Machine

namespace Sys2Proof.Machine

/-! Exchanges of the serial time transfer. -/

/-- The least of a list of numbers is one of them. -/
theorem least_mem {l : List Nat} {m : Nat} (h : least l = some m) : m ∈ l := by
  induction l generalizing m with
  | nil => cases h
  | cons a r ih =>
    unfold least at h
    cases hr : least r with
    | none => rw [hr] at h; cases h; exact List.mem_cons_self
    | some b =>
      rw [hr] at h
      cases h
      rcases Nat.le_total a b with hab | hab
      · rw [Nat.min_eq_left hab]; exact List.mem_cons_self
      · rw [Nat.min_eq_right hab]; exact List.mem_cons_of_mem _ (ih hr)

theorem State.ttReject_tt (s : State) (r n : Nat) : (s.ttReject r n).tt = { s.tt with open_ := none } := by
  unfold State.ttReject
  rw [State.raise_frame.same .tt rfl]
  rfl

/-- With no exchange open a stray line is rejected alone. -/
theorem State.ttStray_none {s : State} (h : s.tt.open_ = none) (n : Nat) : s.ttStray n = s.ttReject 9 n := by
  unfold State.ttStray
  rw [h]

/-- A measurement leaves the number of the last exchange. -/
theorem State.measure_last (s : State) (src : Nat) (e : Int) (at_ err : Nat) : Same [F.TIDE_TTSTAT_LAST] s (s.measure src e at_ err) := by
  have hp := F.TIDE_TTSTAT_LAST_part
  have hderive : ∀ t : State, Same [F.TIDE_TTSTAT_LAST] t t.deriveLoop := fun t => by
    unfold State.deriveLoop
    refine .ite .refl (.of_puts ?_)
    simp only [List.forall_mem_cons, List.not_mem_nil, false_implies, implies_true, and_true]
    decide
  have htide : ∀ (t : State) (f : TideState → TideState), Same [F.TIDE_TTSTAT_LAST] t (t.withTide f) := fun t f _ _ => rfl
  unfold State.measure
  lift_lets
  extract_lets prev s1 same tau s2 s3 far s4 s5 s6
  refine .ite .refl (.ite (htide _ _) ?_)
  have h1 : Same [F.TIDE_TTSTAT_LAST] s s1 := htide _ _
  have h2 : Same [F.TIDE_TTSTAT_LAST] s1 s2 := (Same.of_put (g := F.TIDE_STAT_ACT_SRC) (by decide)).trans (hderive _)
  have h3 : Same [F.TIDE_TTSTAT_LAST] s2 s3 := .of_put (by decide)
  have h4 : Same [F.TIDE_TTSTAT_LAST] s3 s4 := by
    refine .ite .refl (.ite (State.requestStep_same hp (by decide) _ _) ?_)
    unfold State.runLoop
    exact (htide _ _).trans (.of_put (by decide))
  have h5 : Same [F.TIDE_TTSTAT_LAST] s4 s5 := (((htide _ _).trans (.of_put (g := F.TIDE_ERR_ERR) (by decide))).trans
    (.of_put (g := F.TIDE_STAT_AGE) (by decide))).trans (htide _ _)
  have h6 : Same [F.TIDE_TTSTAT_LAST] s5 s6 := .of_put (by decide)
  have h7 : Same [F.TIDE_TTSTAT_LAST] s6 (if s.get F.TIDE_STAT_STATE = 1 then s6 else s6.raise0 Src.TIDE_LOCK) :=
    .ite .refl (.of_part hp State.raise0_frame rfl)
  exact ((((((h1.trans h2).trans h3).trans h4).trans h5).trans h6).trans h7).trans (.of_part hp State.pulsePolicy_frame rfl)

/-- An accepted exchange ends, and its number and delay are kept. -/
theorem State.ttAccept_spec (s : State) (n : BitVec 16) (ofs dly e : Int) : (s.ttAccept n.toNat ofs dly e).tt.open_ = none ∧
    (s.ttAccept n.toNat ofs dly e).get F.TIDE_TTSTAT_LAST = n.toNat ∧
    (s.ttAccept n.toNat ofs dly e).tt.delays = (dly.toNat :: s.tt.delays).take 8 := by
  unfold State.ttAccept
  extract_lets d l excess err s1 s2 s3
  have h1 : s1.tt = ⟨none, l⟩ := rfl
  have h2 : s2.tt = s1.tt ∧ s2.get F.TIDE_TTSTAT_LAST = n.toNat := ⟨rfl, (State.get_put_same _ _ _).trans (Nat.mod_eq_of_lt n.isLt)⟩
  clear_value s2
  have h3 : s3.tt = s2.tt ∧ s3.get F.TIDE_TTSTAT_LAST = s2.get F.TIDE_TTSTAT_LAST :=
    ⟨State.raise_frame.same .tt rfl, (State.raise_frame.get F.TIDE_TTSTAT_LAST_part rfl).trans (State.get_put_other _ _ (by decide))⟩
  have htt : (s3.measure 2 e s3.tide.up err).tt = ⟨none, l⟩ := (State.measure_frame.same .tt rfl : _ = _).trans (h3.1.trans (h2.1.trans h1))
  rw [htt]
  exact ⟨rfl, (State.measure_last _ _ _ _ _).get.trans (h3.2.trans h2.2), rfl⟩

/-- The port in use: UART1 as the console's, or the session of UART0. -/
def State.ttInUse (s : State) : Option Sess → Prop
  | none => (s.on F.TIDE_TTCFG_EN && s.on F.TIDE_TTCFG_PORT && s.owner .uart1 == .console) = true
  | some x => accepts s x ttCmd = true ∧ s.on F.TIDE_TTCFG_EN = true ∧ s.on F.TIDE_TTCFG_PORT = false ∧ x = .uart0

/-- What the line of a session that is accepted comes to. -/
theorem State.ttLine_accepted {s : State} {x : Sess} (ha : accepts s x ttCmd = true) (f : State → State) : s.ttLine (some x) f =
    if !s.on F.TIDE_TTCFG_EN then s.er x 230 else if s.on F.TIDE_TTCFG_PORT || x != .uart0 then s.er x 140 else f s :=
  run_accepts ha fun t => if !t.on F.TIDE_TTCFG_EN then t.er x 230 else if t.on F.TIDE_TTCFG_PORT || x != .uart0 then t.er x 140 else f t

/-- On the port in use a line does what it says. -/
theorem State.ttLine_inUse {s : State} {x : Option Sess} (h : s.ttInUse x) (f : State → State) : s.ttLine x f = f s := by
  cases x with
  | none => exact if_pos h
  | some x =>
    obtain ⟨ha, hen, hport, hx⟩ := h
    rw [State.ttLine_accepted ha, hen, hport, hx]
    rfl

/-- UART1 carries no line while it is not the port in use. -/
theorem State.ttLine_other {s : State} (h : s.on F.TIDE_TTCFG_EN = false ∨ s.on F.TIDE_TTCFG_PORT = false ∨ s.owner .uart1 ≠ .console)
    (f : State → State) : s.ttLine none f = s := by
  refine if_neg ?_
  rw [Bool.and_eq_true, Bool.and_eq_true, beq_iff_eq]
  rintro ⟨⟨h1, h2⟩, h3⟩
  rcases h with h | h | h
  · rw [h] at h1; exact Bool.noConfusion h1
  · rw [h] at h2; exact Bool.noConfusion h2
  · exact h h3

/-- A session's line is refused while the exchange is off. -/
theorem State.ttLine_off {s : State} {x : Sess} (ha : accepts s x ttCmd = true) (h : s.on F.TIDE_TTCFG_EN = false) (f : State → State) :
    s.ttLine (some x) f = s.er x 230 := by
  rw [State.ttLine_accepted ha, h]
  rfl

/-- A session's line is refused where UART1 is the port or the session is not UART0's. -/
theorem State.ttLine_port {s : State} {x : Sess} (ha : accepts s x ttCmd = true) (h : s.on F.TIDE_TTCFG_EN = true)
    (hp : s.on F.TIDE_TTCFG_PORT = true ∨ x ≠ .uart0) (f : State → State) : s.ttLine (some x) f = s.er x 140 := by
  rw [State.ttLine_accepted ha, h, if_neg (by decide), if_pos]
  rw [Bool.or_eq_true, bne_iff_ne]
  exact hp

end Sys2Proof.Machine

namespace Sys2Proof
open Sys2Proof.Machine

/-- A synchronisation line opens its exchange. -/
theorem execTtSync_opens {s : State} {x : Option Sess} (h : s.ttInUse x) (n : BitVec 16) (a : Nat) :
    ∃ t : State, exec (.ttSync x n a) s = .next t ∧ t.tt.open_ = some ⟨n.toNat, a, none⟩ :=
  ⟨_, congrArg Host.Outcome.next (State.ttLine_inUse h _), rfl⟩

/-- A follow-up or a delay response with no exchange open is rejected. -/
theorem execTt_stray {s : State} {x : Option Sess} (h : s.ttInUse x) (ho : s.tt.open_ = none) (n : BitVec 16) (a b d : Nat) :
    exec (.ttFollow x n a b) s = .next (s.ttReject 9 n.toNat) ∧ exec (.ttDresp x n d) s = .next (s.ttReject 9 n.toNat) := by
  constructor
  · refine (congrArg Host.Outcome.next (State.ttLine_inUse h _)).trans ?_
    rw [ho, s.ttStray_none ho]
  · refine (congrArg Host.Outcome.next (State.ttLine_inUse h _)).trans ?_
    rw [ho, s.ttStray_none ho]

/-- A follow-up of the open exchange: late, of another number, or adding its two times. -/
theorem execTtFollow_run {s : State} {x : Option Sess} (h : s.ttInUse x) {m : Nat} {e : Int} (ho : s.tt.open_ = some ⟨m, e, none⟩)
    (n : BitVec 16) (a b : Nat) :
    (s.ttLate e = true → exec (.ttFollow x n a b) s = .next (s.ttReject 1 m)) ∧
    (s.ttLate e = false → m ≠ n.toNat → exec (.ttFollow x n a b) s = .next (s.ttReject 3 m)) ∧
    (s.ttLate e = false → m = n.toNat →
      ∃ t : State, exec (.ttFollow x n a b) s = .next t ∧ t.tt.open_ = some ⟨n.toNat, e, some (a, b)⟩) := by
  have hrun : exec (.ttFollow x n a b) s = .next (if s.ttLate e then s.ttReject 1 m else if m ≠ n.toNat then s.ttReject 3 m
      else (s.withTt fun u => { u with open_ := some ⟨m, e, some (a, b)⟩ }).sendDreq x n.toNat) := by
    refine (congrArg Host.Outcome.next (State.ttLine_inUse h _)).trans ?_
    rw [ho]
    rfl
  refine ⟨fun hl => hrun.trans (by rw [if_pos hl]), fun hl hm => hrun.trans (by rw [if_neg (by rw [hl]; decide), if_pos hm]), fun hl hm => ⟨_, hrun, ?_⟩⟩
  rw [if_neg (by rw [hl]; decide), if_neg (fun k => k hm), State.sendDreq_frame.same .tt rfl, hm]
  rfl

/-- A delay response of the open exchange: late, of another number, out of bounds, or accepted. -/
theorem execTtDresp_run {s : State} {x : Option Sess} (h : s.ttInUse x) {m : Nat} {e u v : Int} (ho : s.tt.open_ = some ⟨m, e, some (u, v)⟩)
    (n : BitVec 16) (d : Nat) :
    let q := fun (v : Int) => roundDiv (v * 4000000000) (2 ^ 33)
    let sum := e - u + ((d : Int) - v)
    (s.ttLate v = true → exec (.ttDresp x n d) s = .next (s.ttReject 2 m)) ∧
    (s.ttLate v = false → m ≠ n.toNat → exec (.ttDresp x n d) s = .next (s.ttReject 3 m)) ∧
    (s.ttLate v = false → m = n.toNat → (sum < 0 ∨ (s.get F.TIDE_TTCFG_MAXDLY * 4 : Nat) < q sum) →
      exec (.ttDresp x n d) s = .next (s.ttReject 4 m)) ∧
    (s.ttLate v = false → m = n.toNat → 0 ≤ sum → q sum ≤ (s.get F.TIDE_TTCFG_MAXDLY * 4 : Nat) →
      (∀ l ∈ s.tt.delays, q sum ≤ (l : Int) + 4000) →
      ∃ t : State, exec (.ttDresp x n d) s = .next t ∧ t.tt.open_ = none ∧ t.get F.TIDE_TTSTAT_LAST = n.toNat ∧
        t.tt.delays = ((q sum).toNat :: s.tt.delays).take 8) := by
  intro q sum
  have hrun : exec (.ttDresp x n d) s = .next (if s.ttLate v then s.ttReject 2 m else if m ≠ n.toNat then s.ttReject 3 m
      else if sum < 0 ∨ (s.get F.TIDE_TTCFG_MAXDLY * 4 : Nat) < q sum then s.ttReject 4 m
      else if (least s.tt.delays).any (fun l => (l : Int) + 4000 < q sum) then s.ttReject 5 m
      else s.ttAccept m (q (e - u - ((d : Int) - v))) (q sum) ((((d : Int) - v) - (e - u)) * (2 ^ 23 : Nat))) := by
    refine (congrArg Host.Outcome.next (State.ttLine_inUse h _)).trans ?_
    rw [ho]
  refine ⟨fun hl => hrun.trans (by rw [if_pos hl]), fun hl hm => hrun.trans (by rw [if_neg (by rw [hl]; decide), if_pos hm]),
    fun hl hm hb => hrun.trans (by rw [if_neg (by rw [hl]; decide), if_neg (fun k => k hm), if_pos hb]), fun hl hm h0 hmax hleast => ⟨_, hrun, ?_⟩⟩
  have hany : (least s.tt.delays).any (fun l => (l : Int) + 4000 < q sum) = false := by
    cases hd : least s.tt.delays with
    | none => rfl
    | some l => exact decide_eq_false (Int.not_lt.2 (hleast l (least_mem hd)))
  rw [if_neg (by rw [hl]; decide), if_neg (fun k => k hm), if_neg (not_or.2 ⟨Int.not_lt.2 h0, Int.not_lt.2 hmax⟩),
    if_neg (by rw [hany]; decide), hm]
  exact s.ttAccept_spec n _ _ _

end Sys2Proof

namespace Sys2Proof
open Sys2Proof.Machine

theorem execTtOnOff_run {s : State} {x : Sess} (h : accepts s x ttCmd = true) (on : Bool) (p : Option Bool) :
    let port := p.getD (s.on F.TIDE_TTCFG_PORT)
    (¬(on = true ∧ port = true ∧ s.owner .uart1 ≠ .console) → ∃ t : State, exec (.ttOnOff x on p) s = .next (t.ok x) ∧
      t.on F.TIDE_TTCFG_EN = on ∧ t.on F.TIDE_TTCFG_PORT = port ∧ (on = false → t.tt.open_ = none)) ∧
    (on = true → port = true → s.owner .uart1 ≠ .console → exec (.ttOnOff x on p) s = .next (s.er x 210)) := by
  intro port
  have hrun := congrArg (Host.Outcome.next (φ := Fault) (ρ := Refusal)) (run_accepts h fun t =>
    let port := p.getD (t.on F.TIDE_TTCFG_PORT)
    if on && port && t.owner .uart1 != .console then t.er x 210
    else
      let ends := !on || port != t.on F.TIDE_TTCFG_PORT
      let t1 := match t.tt.open_ with
        | some e => if ends then t.ttReject 8 e.n else t
        | none => t
      let t2 := (t1.flag F.TIDE_TTCFG_EN on).flag F.TIDE_TTCFG_PORT port
      t2.ok x)
  have hc : (on && port && s.owner .uart1 != .console) = true ↔ on = true ∧ port = true ∧ s.owner .uart1 ≠ .console := by
    rw [Bool.and_eq_true, Bool.and_eq_true, bne_iff_ne, and_assoc]
  refine ⟨fun hn => ⟨_, hrun.trans (congrArg Host.Outcome.next (if_neg (mt hc.1 hn))), ?_, ?_, fun hoff => ?_⟩,
    fun h1 h2 h3 => hrun.trans (congrArg Host.Outcome.next (if_pos (hc.2 ⟨h1, h2, h3⟩)))⟩
  · exact (State.on_congr (State.get_put_other _ _ (by decide))).trans (State.on_flag _ _ rfl)
  · exact State.on_flag _ _ rfl
  · subst hoff
    show (match s.tt.open_ with
      | some e => if (!false || port != s.on F.TIDE_TTCFG_PORT) = true then s.ttReject 8 e.n else s
      | none => s).tt.open_ = none
    cases ho : s.tt.open_ with
    | none => exact ho
    | some e => exact congrArg TtState.open_ (s.ttReject_tt 8 e.n)

/-- The exchange that times out ends, and the last delays stay. -/
theorem execTtExchangeTimeout_run (s : State) : (s.tt.open_ = none → exec .ttExchangeTimeout s = .next s) ∧ (s.tt.open_ ≠ none →
    ∃ t : State, exec .ttExchangeTimeout s = .next t ∧ t.tt.open_ = none ∧ t.tt.delays = s.tt.delays) := by
  show (_ → execTtExchangeTimeout s = _) ∧ (_ → ∃ t, execTtExchangeTimeout s = _ ∧ _)
  unfold execTtExchangeTimeout
  cases s.tt.open_ with
  | none => exact ⟨fun _ => rfl, fun h => absurd rfl h⟩
  | some e =>
    have htt := s.ttReject_tt (if e.sent.isSome then 2 else 1) e.n
    exact ⟨nofun, fun _ => ⟨_, rfl, by rw [htt], by rw [htt]⟩⟩

/-- TP SET with both numbers in range stages what is named and releases it. -/
theorem execTpSet_run {s : State} {x : Sess} (h : accepts s x tpCmd = true) (p w : Option Nat) (n : Option Bool) (c : Option (Fin 8)) :
    let bad := (∃ v, p = some v ∧ (v * 1000000 < 4294967296 ∨ 2 ^ 64 < v)) ∨ (∃ v, w = some v ∧ (v = 0 ∨ 2 ^ 32 ≤ v))
    (bad → exec (.tpSet x p w n c) s = .next (s.er x 120)) ∧
    (¬bad → exec (.tpSet x p w n c) s = .next ((s.stagePulse p w n c).releasePulse.ok x)) := by
  intro bad
  have hrun : exec (.tpSet x p w n c) s = .next (if (p.any (fun p => p * 1000000 < 2 ^ 32 || 2 ^ 64 < p) ||
      w.any (fun w => w == 0 || 2 ^ 32 ≤ w)) = true then s.er x 120 else (s.stagePulse p w n c).releasePulse.ok x) := by
    refine (congrArg Host.Outcome.next (run_accepts h _) : _ = _).trans ?_
    cases p <;> cases w <;> cases n <;> cases c <;> rfl
  have hbad : (p.any (fun p => p * 1000000 < 2 ^ 32 || 2 ^ 64 < p) || w.any (fun w => w == 0 || 2 ^ 32 ≤ w)) = true ↔ bad := by
    simp [bad, Option.any_eq_true]
  exact ⟨fun hb => hrun.trans (by rw [if_pos (hbad.2 hb)]), fun hb => hrun.trans (by rw [if_neg (mt hbad.1 hb)])⟩

/-- A period that TP SET takes is not one below a microsecond. -/
theorem takesPeriod {v : Nat} (h1 : 4294967296 ≤ v * 1000000) (h2 : v ≤ 2 ^ 64) {s : State} (h : s.stagedPeriod = v % 2 ^ 64) : ¬s.keepsPeriod := by
  unfold State.keepsPeriod
  rw [h]
  omega

/-- Settles O31: the lines of an exchange on the port in use, and the time pulse's settings as they are released. -/
theorem exchangesAndPulses : Obligations.ExchangesAndPulses := by
  unfold Obligations.ExchangesAndPulses
  have body := fun {s x i} (h : accepts s x i = true) (f) => congrArg (Host.Outcome.next (φ := Fault) (ρ := Refusal)) (run_accepts h f)
  refine ⟨fun x on p s h => execTtOnOff_run h on p, fun x n a b d s => ?lines,
    fun n a b s h => ⟨congrArg Host.Outcome.next (State.ttLine_other h _), congrArg Host.Outcome.next (State.ttLine_other h _),
      congrArg Host.Outcome.next (State.ttLine_other h _)⟩,
    fun x n a b s h => ⟨fun hoff => ⟨congrArg Host.Outcome.next (State.ttLine_off h hoff _), congrArg Host.Outcome.next (State.ttLine_off h hoff _),
        congrArg Host.Outcome.next (State.ttLine_off h hoff _)⟩,
      fun hon hp => ⟨congrArg Host.Outcome.next (State.ttLine_port h hon hp _), congrArg Host.Outcome.next (State.ttLine_port h hon hp _),
        congrArg Host.Outcome.next (State.ttLine_port h hon hp _)⟩⟩,
    execTtExchangeTimeout_run, fun x s h => body h _, fun x on s h => ⟨fun ha => ?enabled, fun hl => ?ledger, fun hl hr => ?reserve⟩,
    fun x p w n c s h => ⟨(execTpSet_run h p w n c).1, fun hb => ?set⟩,
    fun x q s h => ⟨fun h1 h2 => ?delay, fun hn => (body h _).trans (congrArg Host.Outcome.next (if_neg (by omega)))⟩,
    fun x f s h => ?tpPolicy, fun side s h => ⟨fun n hn => ?waits, fun hn => ?applies⟩, fun s => ⟨fun hon hn => ?edge, fun h => ?noEdge⟩,
    fun s => ?trailing⟩
  case lines =>
    intro inUse q
    have huse : inUse → s.ttInUse x := fun h => by cases x <;> exact h
    exact ⟨fun h => execTtSync_opens (huse h) n a, fun h ho => execTt_stray (huse h) ho n a b d,
      fun m e h ho => execTtFollow_run (huse h) ho n a b, fun m e u v h ho => execTtDresp_run (huse h) ho n d⟩
  case enabled =>
    obtain ⟨hon, hoff⟩ := s.enablePulse_spec on
    exact ⟨_, (body h _).trans (congrArg Host.Outcome.next (settle_affords ha x .tp 0x10)), hon, hoff⟩
  case ledger => exact (body h _).trans (congrArg Host.Outcome.next (if_pos (by rw [hl]; rfl)))
  case reserve => exact (body h _).trans (congrArg Host.Outcome.next ((if_neg (by rw [hl]; decide)).trans (if_pos hr)))
  case set =>
    obtain ⟨htp, hper, hwidth, hpol, hscale⟩ := s.stagePulse_spec p w n c
    refine ⟨_, (execTpSet_run h p w n c).2 hb, fun hs => ?_, fun hs => ?_⟩
    · rw [State.releasePulse_busy (by rw [htp]; exact hs)]
      exact State.get_put_same _ _ _
    · rw [State.releasePulse_idle (by rw [htp]; exact hs)]
      have happ := (s.stagePulse p w n c).applyPulse_applied
      refine ⟨happ.pend, fun v hv => ?_, fun v hv => ?_, fun v hv => happ.pol.trans (hpol v hv), fun v hv => happ.scale.trans (hscale v hv)⟩
      · have hin : ¬(v * 1000000 < 4294967296 ∨ 2 ^ 64 < v) := fun k => hb (.inl ⟨v, hv, k⟩)
        exact (happ.taken (takesPeriod (by omega) (by omega) (hper v hv))).trans (hper v hv)
      · have hin : ¬(v = 0 ∨ 2 ^ 32 ≤ v) := fun k => hb (.inr ⟨v, hv, k⟩)
        exact happ.width.trans ((hwidth v hv).trans (Nat.mod_eq_of_lt (by omega)))
  case delay =>
    have hget : (s.putS F.TP_DELAY_DELAY q).getS F.TP_DELAY_DELAY = q := State.getS_putS (by decide)
      (by show -((2147483648 : Nat) : Int) ≤ q; omega) (by show q < ((2147483648 : Nat) : Int); omega)
    refine ⟨_, (body h _).trans (congrArg Host.Outcome.next (if_pos ⟨h1, h2⟩)), (State.getS_congr (State.releasePulse_same _ _ (by simp))).trans hget,
      fun hs => ?_⟩
    rw [State.releasePulse_idle (s := s.putS F.TP_DELAY_DELAY q) hs]
    exact (State.applyPulse_applied _).delay.trans hget
  case tpPolicy =>
    refine ⟨_, body h _, (State.on_congr (State.releasePulse_same _ _ (by simp))).trans (State.on_flag _ _ rfl), fun hs => ?_⟩
    rw [State.releasePulse_idle (s := s.flag F.TP_CTRL_POLICY f) hs]
    exact (State.applyPulse_applied _).policy.trans (State.on_flag _ _ rfl)
  case waits => exact (congrArg Host.Outcome.next (guard_opens h _ _)).trans (congrArg Host.Outcome.next (State.releasePulse_busy (by rw [hn]; rfl)))
  case applies =>
    have happ := s.applyPulse_applied
    refine ⟨_, (congrArg Host.Outcome.next (guard_opens h _ _)).trans (congrArg Host.Outcome.next (State.releasePulse_idle hn)), happ.width, happ.pend,
      fun hsec h0 hlt hper => ?_⟩
    have hkeep : s.keepsPeriod := by
      unfold State.keepsPeriod State.stagedPeriod
      rw [hsec]
      omega
    obtain ⟨hs, hf⟩ := happ.restored hkeep
    exact ⟨happ.kept hkeep, hf, hs.trans (Nat.mod_eq_of_lt (by omega))⟩
  case edge =>
    refine ⟨_, congrArg Host.Outcome.next (if_pos (by rw [hon, hn]; rfl)), ?_⟩
    dsimp only
    generalize hm : (s.withTp fun p => { p with next := p.next + 1, pulse := some s.pulseWidth }) = m
    have hmtp : m.tp.next = s.tp.next + 1 ∧ m.tp.pulse = some s.pulseWidth := by rw [← hm]; exact ⟨rfl, rfl⟩
    generalize hu : (if m.reportPulse.tp.reports = true then
      m.reportPulse.raise Src.TP_PULSE (m.reportPulse.get F.TP_QNEXT_SEC) (m.reportPulse.get F.TP_QERR_QERR) else m.reportPulse) = u
    have hut : u.tp = m.tp := by
      rw [← hu]
      split
      · exact (State.raise_frame.same .tp rfl).trans (State.reportPulse_frame.same .tp rfl)
      · exact State.reportPulse_frame.same .tp rfl
    have hfire : (u.fire 19).tp = m.tp := (State.fire_frame.same .tp rfl : _ = _).trans hut
    rw [hfire]
    exact hmtp
  case noEdge =>
    refine congrArg Host.Outcome.next (if_neg ?_)
    rw [Bool.and_eq_true]
    rintro ⟨h1, h2⟩
    rcases h with h | h
    · rw [h] at h1; exact Bool.noConfusion h1
    · rw [Option.isNone_iff_eq_none.1 h2] at h; exact Bool.noConfusion h
  case trailing =>
    show ∃ t, execTpTrailingEdge s = _ ∧ _
    unfold execTpTrailingEdge
    extract_lets s1
    have h1 : s1.tp = { s.tp with pulse := none } := rfl
    have hpend : s1.on F.TP_STAT_APPLY_PEND = s.on F.TP_STAT_APPLY_PEND := rfl
    clear_value s1
    refine ⟨_, rfl, ?_⟩
    by_cases hp : s1.on F.TP_STAT_APPLY_PEND = true
    · rw [if_pos hp]
      have happ := s1.applyPulse_applied
      exact ⟨happ.pulse.trans (by rw [h1]), happ.pend, fun hno => by rw [hpend, hno] at hp; exact Bool.noConfusion hp⟩
    · rw [if_neg hp]
      exact ⟨by rw [h1], State.on_eq_false_iff.1 (Bool.eq_false_iff.2 hp), fun _ => h1⟩

end Sys2Proof

/-! PROOF. The calendar: a valid date is the one its count comes back to (R298, R300). -/

namespace Sys2Proof.Machine.Cal

theorem daysBefore_mono {a b : Nat} (h : a ≤ b) : daysBefore a ≤ daysBefore b := by
  induction h with
  | refl => exact Nat.le_refl _
  | step _ ih =>
    refine Nat.le_trans ih ?_
    unfold daysBefore
    omega

/-- A year has 365 days, or 366 if it is a leap year. -/
theorem daysBefore_succ (y : Nat) : daysBefore (y + 1) = daysBefore y + if leap y then 366 else 365 := by
  unfold daysBefore leap
  by_cases h4 : y % 4 = 0
  · by_cases h100 : y % 100 = 0
    · by_cases h400 : y % 400 = 0
      · simp [h4, h400]; omega
      · simp [h4, h100, h400]; omega
    · simp [h4, h100]; omega
  · simp [h4]; omega

/-- The year of a day within it. -/
theorem yearOf_eq {y r : Nat} (hy : y < 400) (hr : daysBefore y + r < daysBefore (y + 1)) : yearOf (daysBefore y + r) = y := by
  generalize hd : daysBefore y + r = d at hr
  have hle : ∀ k, daysBefore k ≤ d ↔ k ≤ y := fun k => by
    constructor
    · intro h
      refine Nat.le_of_not_lt fun hk => ?_
      exact absurd (Nat.le_trans (daysBefore_mono (by omega : y + 1 ≤ k)) h) (by omega)
    · intro h
      exact Nat.le_trans (daysBefore_mono h) (by omega)
  have hupper : d / 366 ≤ y := by
    have h : daysBefore (y + 1) ≤ 366 * (y + 1) := by unfold daysBefore; omega
    omega
  have hlower : y ≤ d / 366 + 2 := by
    have h : 366 * y ≤ daysBefore y + 366 * 2 := by unfold daysBefore; omega
    omega
  unfold yearOf
  simp only [hle]
  split
  · split <;> omega
  · omega

theorem monthsBefore_mono (y : Nat) {a b : Nat} (h : a ≤ b) : monthsBefore y a ≤ monthsBefore y b := by
  induction h with
  | refl => exact Nat.le_refl _
  | step _ ih => exact Nat.le_trans ih (Nat.le_add_right _ _)

/-- The twelve months make the year. -/
theorem monthsBefore_twelve (y : Nat) : monthsBefore y 12 = if leap y then 366 else 365 := by
  simp only [monthsBefore, monthDays]
  cases leap y <;> rfl

/-- The first `m` of twelve numbers. -/
theorem length_filter_lt {m : Nat} (h : m ≤ 12) : ((List.range 12).filter fun k => k < m).length = m := by
  have hall : ∀ m : Fin 13, ((List.range 12).filter fun k => k < m.val).length = m := by decide
  exact hall ⟨m, by omega⟩

/-- The month of a day within it. -/
theorem monthOf_eq {y m r : Nat} (h1 : 1 ≤ m) (h12 : m ≤ 12) (hr : r < monthDays y m) : monthOf y (monthsBefore y (m - 1) + r) = m := by
  obtain ⟨k, rfl⟩ : ∃ k, m = k + 1 := ⟨m - 1, by omega⟩
  rw [Nat.add_sub_cancel]
  have hle : ∀ j, monthsBefore y j ≤ monthsBefore y k + r ↔ j < k + 1 := fun j => by
    constructor
    · intro h
      refine Nat.lt_of_not_le fun hj => ?_
      have hstep : monthsBefore y (k + 1) ≤ monthsBefore y k + r := Nat.le_trans (monthsBefore_mono y (by omega)) h
      exact absurd hstep (Nat.not_le.2 (Nat.add_lt_add_left hr _))
    · intro h
      exact Nat.le_trans (monthsBefore_mono y (by omega)) (Nat.le_add_right _ _)
  unfold monthOf
  simp only [hle]
  exact length_filter_lt h12

/-- The parts of a valid date. -/
theorem valid_iff (d : DateTime) : valid d = true ↔ 2000 ≤ d.year ∧ d.year < 2400 ∧ 1 ≤ d.month ∧ d.month ≤ 12 ∧ 1 ≤ d.day ∧
    d.day ≤ monthDays (d.year - 2000) d.month ∧ d.hour < 24 ∧ d.minute < 60 ∧ d.second < 60 := by
  simp [valid, and_assoc]

/-- The day of the year of a valid date lies within the year. -/
theorem dayOfYear_lt {y m r : Nat} (h1 : 1 ≤ m) (h12 : m ≤ 12) (hr : r < monthDays y m) :
    daysBefore y + (monthsBefore y (m - 1) + r) < daysBefore (y + 1) := by
  obtain ⟨k, rfl⟩ : ∃ k, m = k + 1 := ⟨m - 1, by omega⟩
  rw [Nat.add_sub_cancel, daysBefore_succ, ← monthsBefore_twelve]
  have hstep : monthsBefore y (k + 1) ≤ monthsBefore y 12 := monthsBefore_mono y h12
  have hmonth : monthsBefore y (k + 1) = monthsBefore y k + monthDays y (k + 1) := rfl
  omega

/-- A valid date is the date of its count. -/
theorem dateOf_count {d : DateTime} (h : valid d = true) : dateOf (count d) = d := by
  obtain ⟨hy, hy', hm, hm', hd, hd', hh, hmin, hs⟩ := (valid_iff d).1 h
  obtain ⟨year, month, day, hour, minute, second⟩ := d
  dsimp only at *
  obtain ⟨y, rfl⟩ : ∃ y, year = 2000 + y := ⟨year - 2000, by omega⟩
  obtain ⟨r, rfl⟩ : ∃ r, day = r + 1 := ⟨day - 1, by omega⟩
  rw [Nat.add_sub_cancel_left] at hd'
  have hlt := dayOfYear_lt hm hm' (Nat.lt_of_succ_le hd')
  have hyear := yearOf_eq (by omega) hlt
  have hmonth := monthOf_eq hm hm' (Nat.lt_of_succ_le hd')
  unfold dateOf count
  dsimp only
  rw [Nat.add_sub_cancel_left]
  generalize hdays : daysBefore y + (monthsBefore y (month - 1) + r) = days at *
  have hsum : daysBefore y + monthsBefore y (month - 1) + (r + 1) - 1 = days := by omega
  rw [hsum]
  have hq : (days * 86400 + hour * 3600 + minute * 60 + second) / 86400 = days := by omega
  rw [hq, hyear]
  have hrest : days - daysBefore y = monthsBefore y (month - 1) + r := by omega
  rw [hrest, hmonth]
  clear hdays hlt hyear hmonth hq hrest hsum hd'
  simp only [DateTime.mk.injEq]
  exact ⟨trivial, trivial, by omega, by omega, by omega, by omega⟩

/-- The count of a valid date lies in the calendar's range. -/
theorem count_lt {d : DateTime} (h : valid d = true) : count d < span := by
  obtain ⟨hy, hy', hm, hm', hd, hd', hh, hmin, hs⟩ := (valid_iff d).1 h
  obtain ⟨year, month, day, hour, minute, second⟩ := d
  dsimp only at *
  obtain ⟨y, rfl⟩ : ∃ y, year = 2000 + y := ⟨year - 2000, by omega⟩
  obtain ⟨r, rfl⟩ : ∃ r, day = r + 1 := ⟨day - 1, by omega⟩
  rw [Nat.add_sub_cancel_left] at hd'
  have hlt := dayOfYear_lt hm hm' (Nat.lt_of_succ_le hd')
  have hlast := daysBefore_mono (by omega : y + 1 ≤ 400)
  have hdays : daysBefore 400 = 146097 := rfl
  unfold count span
  dsimp only
  rw [Nat.add_sub_cancel_left]
  omega

/-- The calendar's range comes back from its binary count. -/
theorem ofBinary_toBinary {c : Nat} (h : c < span) : ofBinary (toBinary c) = some c := by
  unfold span at h
  unfold toBinary ofBinary base span
  by_cases hb : 631152000 ≤ c
  · rw [if_pos hb, if_neg (by omega), if_pos (by omega)]
    exact congrArg some (by omega)
  · rw [if_neg hb, if_pos (by omega)]
    exact congrArg some (by omega)

theorem toBinary_lt {c : Nat} (h : c < span) : toBinary c < 2 ^ 40 := by
  unfold span at h
  unfold toBinary base
  split <;> omega

/-- Two digits and back. -/
theorem ofBcd_bcd {n : Nat} (h : n < 100) : ofBcd (bcd n) = some n := by
  unfold ofBcd bcd
  rw [if_pos (by omega)]
  exact congrArg some (by omega)

end Sys2Proof.Machine.Cal

/-! PROOF. The real-time clock (O32). -/

namespace Sys2Proof.Machine

/-- The clock's state but for the snapshots of its readers. -/
def RtcState.counts (r : RtcState) : RtcState := { r with snapApp := none, snapCon := none }

/-- `t` has the clock of `s`, snapshots apart. -/
def SameClock (s t : State) : Prop := t.rtc.counts = s.rtc.counts

namespace SameClock

variable {s t u : State}

theorem refl : SameClock s s := rfl

theorem trans (h : SameClock s t) (k : SameClock t u) : SameClock s u := Eq.trans k h

theorem of_frame {e : List Part} (h : Frame e s t) (hn : Part.sub [.rtc] e = false) : SameClock s t :=
  congrArg RtcState.counts (h.same .rtc hn : _ = _)

theorem ite {c : Prop} [Decidable c] {a b : State} (ha : SameClock s a) (hb : SameClock s b) : SameClock s (if c then a else b) := by
  split
  · exact ha
  · exact hb

theorem foldl {β : Type} {f : State → β → State} (h : ∀ t x, SameClock t (f t x)) (l : List β) (t : State) :
    SameClock t (l.foldl f t) := by
  induction l generalizing t with
  | nil => rfl
  | cons x r ih => exact (h t x).trans (ih (f t x))

theorem put (s : State) (f : Fld) (v : Nat) : SameClock s (s.put f v) := rfl

theorem fields (h : SameClock s t) : t.rtc.bin = s.rtc.bin ∧ t.rtc.cal = s.rtc.cal ∧ t.rtc.pre = s.rtc.pre ∧ t.rtc.setPend = s.rtc.setPend ∧
    t.rtc.shiftPend = s.rtc.shiftPend ∧ t.rtc.shift = s.rtc.shift := by
  obtain ⟨h1, h2, h3, h4, h5, h6, -⟩ := RtcState.mk.inj h
  exact ⟨h1, h2, h3, h4, h5, h6⟩

end SameClock

/-- An event of the router may take a snapshot of the clock and leaves it otherwise. -/
theorem State.fire_clock (s : State) (p : Nat) : SameClock s (s.fire p) := by
  unfold State.fire
  refine SameClock.trans (.of_frame State.watch_frame rfl) (SameClock.foldl (fun t c => ?_) _ _)
  unfold State.reach
  refine .ite (.of_frame State.overrun_frame rfl) ?_
  unfold State.consume
  exact .ite (.of_frame State.dmaTrigger_frame rfl) (.ite (.of_frame State.setEngine_frame rfl) (.ite (.of_frame State.adcStart_frame rfl)
    (.ite (.of_frame State.touchStart_frame rfl) (.ite (.of_frame State.spiStart_frame rfl) (.ite (.of_frame State.evrCapture_frame rfl)
    (.ite (.of_frame State.wake_frame rfl) (.ite (.of_frame State.startCapture_frame rfl) (.ite (.of_frame State.outEvent_frame rfl)
    (.ite (.of_frame State.cutGrant_frame rfl) (.ite rfl (.put _ _ _)))))))))))

/-- The alarms of a boundary leave the clock and, of its registers, all but their two flags. -/
theorem State.alarms_clock (s : State) : SameClock s s.alarms := by
  unfold State.alarms
  refine SameClock.foldl (fun t k => .ite ?_ .refl) _ _
  refine SameClock.trans ?_ (.of_frame State.wake_frame rfl)
  refine SameClock.trans ?_ (State.fire_clock _ _)
  exact SameClock.trans (.put _ _ _) (.of_frame State.raise0_frame rfl)

theorem State.alarms_same {f : Fld} (hp : f.part = .rRtc) (h1 : f.key ≠ F.RTC_STAT_ALM1.key) (h2 : f.key ≠ F.RTC_STAT_ALM2.key) (s : State) :
    Same [f] s s.alarms := by
  have hk : ∀ k, f.key ≠ (alarmFlag k).key := fun k => by
    unfold alarmFlag
    split
    · exact h1
    · exact h2
  unfold State.alarms
  refine Same.foldl (fun t k => .ite ?_ .refl) _ _
  exact (((Same.of_put_key (hk k)).trans (Same.of_part hp State.raise0_frame rfl)).trans (Same.of_part hp State.fire_frame rfl)).trans
    (Same.of_part hp State.wake_frame rfl)

/-! The counts at a boundary. -/

/-- A boundary without a set counts on, and sets OSF where the calendar ends. -/
theorem State.countSecond_spec (s : State) :
    s.countSecond.rtc = { s.rtc with
      bin := (s.rtc.bin + 1) % 2 ^ 40, cal := if s.rtc.cal + 1 = Cal.span then 0 else s.rtc.cal + 1, pre := 0 } ∧
    (s.rtc.cal + 1 = Cal.span → s.countSecond.get F.RTC_STAT_OSF = 1) ∧
    (∀ f : Fld, f.part = .rRtc → f.key ≠ F.RTC_STAT_OSF.key → f.key ≠ F.RTC_STAT_TSET.key → s.countSecond.get f = s.get f) := by
  unfold State.countSecond
  extract_lets b c rolls s1
  have h1 : s1.rtc = { s.rtc with bin := b, cal := if rolls then 0 else c, pre := 0 } := rfl
  have hget : ∀ f : Fld, s1.get f = s.get f := fun f => State.get_withRtc _ _ _
  clear_value s1
  have hrtc : s1.rtcOsf.rtc = s1.rtc := State.raise0_frame.same .rtc rfl
  have hosf : s1.rtcOsf.get F.RTC_STAT_OSF = 1 :=
    (State.raise0_frame.get F.RTC_STAT_OSF_part rfl).trans ((State.get_put_other _ _ (by decide)).trans (State.get_put_same _ _ _))
  have hother : ∀ f : Fld, f.part = .rRtc → f.key ≠ F.RTC_STAT_OSF.key → f.key ≠ F.RTC_STAT_TSET.key → s1.rtcOsf.get f = s1.get f :=
    fun f hp ha hb => (State.raise0_frame.get hp rfl).trans ((State.get_put_other _ _ hb).trans (State.get_put_other _ _ ha))
  split
  next h => exact ⟨hrtc.trans h1, fun _ => hosf, fun f hp ha hb => (hother f hp ha hb).trans (hget f)⟩
  next h => exact ⟨h1, fun hr => absurd (Or.inl hr) h, fun f _ _ _ => hget f⟩

/-- A shift that waits begins at the boundary. -/
theorem State.beginShift_spec (s : State) :
    (∀ f : Fld, s.beginShift.get f = s.get f) ∧ s.beginShift.rtc.bin = s.rtc.bin ∧ s.beginShift.rtc.cal = s.rtc.cal ∧
    s.beginShift.rtc.pre = s.rtc.pre ∧ s.beginShift.rtc.setPend = s.rtc.setPend ∧
    (s.rtc.shiftPend = true → s.beginShift.rtc.shift = some (s.getS F.RTC_SHIFT_COUNT) ∧ s.beginShift.rtc.shiftPend = false) := by
  unfold State.beginShift
  by_cases h : s.rtc.shiftPend = true
  · rw [if_pos h]
    exact ⟨fun f => State.get_withRtc _ _ _, rfl, rfl, rfl, rfl, fun _ => ⟨rfl, rfl⟩⟩
  · rw [if_neg h]
    exact ⟨fun _ => rfl, rfl, rfl, rfl, rfl, fun k => absurd k h⟩

/-- What follows a set leaves the counts and what the set has marked. -/
theorem State.afterSet_spec (s : State) : s.afterSet.rtc.bin = s.rtc.bin ∧ s.afterSet.rtc.cal = s.rtc.cal ∧
    s.afterSet.rtc.setPend = s.rtc.setPend ∧ s.afterSet.get F.RTC_STAT_BADSET = s.get F.RTC_STAT_BADSET := by
  unfold State.afterSet
  extract_lets s1 s2
  have h1 : s1.rtc = s.rtc ∧ s1.get F.RTC_STAT_BADSET = s.get F.RTC_STAT_BADSET := by
    simp only [s1]
    split
    · exact ⟨rfl, State.get_put_other _ _ (by decide)⟩
    · exact ⟨rfl, rfl⟩
  have h2 : s2.rtc = { s1.rtc with clearOsf := false, after := none } ∧ s2.get F.RTC_STAT_BADSET = s1.get F.RTC_STAT_BADSET :=
    ⟨rfl, State.get_withRtc _ _ _⟩
  clear_value s1 s2
  have hs2 : s2.rtc.bin = s.rtc.bin ∧ s2.rtc.cal = s.rtc.cal ∧ s2.rtc.setPend = s.rtc.setPend ∧
      s2.get F.RTC_STAT_BADSET = s.get F.RTC_STAT_BADSET := by
    rw [h2.1, h1.1]
    exact ⟨rfl, rfl, rfl, h2.2.trans h1.2⟩
  have hshift : ∀ c : Int, (s2.startShift c).rtc.bin = s2.rtc.bin ∧ (s2.startShift c).rtc.cal = s2.rtc.cal ∧
      (s2.startShift c).rtc.setPend = s2.rtc.setPend ∧ (s2.startShift c).get F.RTC_STAT_BADSET = s2.get F.RTC_STAT_BADSET := fun c =>
    ⟨rfl, rfl, rfl, (State.get_put_other _ _ (by decide)).trans ((State.get_withRtc _ _ _).trans (State.get_put_other _ _ (by decide)))⟩
  split
  · split
    · exact hs2
    · obtain ⟨g1, g2, g3, g4⟩ := hshift _
      exact ⟨g1.trans hs2.1, g2.trans hs2.2.1, g3.trans hs2.2.2.1, g4.trans hs2.2.2.2⟩
  · exact hs2

/-! A set of the clock. -/

/-- A loaded time is in both counts, with no set waiting. -/
theorem State.loadTime_spec (s : State) (b c : Nat) : (s.loadTime b c).rtc.bin = b ∧ (s.loadTime b c).rtc.cal = c ∧
    (s.loadTime b c).rtc.pre = 0 ∧ (s.loadTime b c).rtc.setPend = false ∧ (s.loadTime b c).rtc.shift = none ∧
    (s.loadTime b c).rtc.shiftPend = s.rtc.shiftPend ∧ (s.loadTime b c).get F.RTC_APPLY_PEND = 0 := by
  unfold State.loadTime
  extract_lets cut s1 s2
  have h1 : s1.rtc = { s.rtc with bin := b, cal := c, pre := 0, setPend := false, shift := none, edges := 0 } := rfl
  clear_value s1
  have h2 : s2.rtc = s1.rtc ∧ s2.get F.RTC_APPLY_PEND = 0 := ⟨rfl, State.get_put_same _ _ _⟩
  clear_value s2
  have h3 : (if cut = true then (s2.put F.RTC_STAT_SHIFT_CUT 1).flag F.RTC_SHIFT_PEND s.rtc.shiftPend else s2).rtc = s2.rtc ∧
      (if cut = true then (s2.put F.RTC_STAT_SHIFT_CUT 1).flag F.RTC_SHIFT_PEND s.rtc.shiftPend else s2).get F.RTC_APPLY_PEND =
        s2.get F.RTC_APPLY_PEND := by
    split
    · exact ⟨rfl, (State.get_put_other _ _ (by decide)).trans (State.get_put_other _ _ (by decide))⟩
    · exact ⟨rfl, rfl⟩
  rw [h3.1, h3.2, h2.1, h2.2, h1]
  exact ⟨rfl, rfl, rfl, rfl, rfl, rfl, rfl⟩

/-- The start of an applied set: none waits any more. -/
def State.beginSet (s : State) : State := (s.withRtc fun r => { r with setPend := false }).put F.RTC_APPLY_PEND 0

/-- A valid staged date is loaded. -/
theorem State.applySet_date {s : State} {d : DateTime} (hm : s.on F.RTC_CTRL_MODE = true) (hd : s.stagedDate = some d) :
    s.applySet = s.beginSet.loadTime (Cal.toBinary (Cal.count d)) (Cal.count d) := by
  unfold State.applySet
  dsimp only
  rw [if_pos hm, hd]
  rfl

/-- A staged date that is not valid is marked bad. -/
theorem State.applySet_bad {s : State} (hm : s.on F.RTC_CTRL_MODE = true) (hd : s.stagedDate = none) :
    s.applySet = s.beginSet.put F.RTC_STAT_BADSET 1 := by
  unfold State.applySet
  dsimp only
  rw [if_pos hm, hd]
  rfl

/-- The staged binary count. -/
def State.stagedBin (s : State) : Nat := s.get F.RTC_SBSEC_SEC + s.get F.RTC_SBHI_SECH * 2 ^ 32

/-- A staged binary count is loaded with its calendar count, where it has one. -/
theorem State.applySet_bin {s : State} (hm : s.on F.RTC_CTRL_MODE = false) :
    ∃ (u : State) (c : Nat), s.applySet = u.loadTime s.stagedBin c ∧ u.rtc = { s.rtc with setPend := false } ∧
      ∀ k, Cal.ofBinary s.stagedBin = some k → c = k := by
  unfold State.applySet
  dsimp only
  rw [if_neg (by rw [hm]; decide)]
  unfold State.stagedBin
  generalize s.get F.RTC_SBSEC_SEC + s.get F.RTC_SBHI_SECH * 2 ^ 32 = b
  cases hc : Cal.ofBinary b with
  | some k => exact ⟨s.beginSet, k, rfl, rfl, fun j hj => Option.some.inj hj⟩
  | none => exact ⟨s.beginSet.spend, _, rfl, rfl, nofun⟩

/-- An applied set waits no longer. -/
theorem State.applySet_spec (s : State) : s.applySet.rtc.setPend = false ∧ s.applySet.rtc.shiftPend = s.rtc.shiftPend ∧
    s.applySet.get F.RTC_APPLY_PEND = 0 := by
  have hload : ∀ (u : State) (b c : Nat), u.rtc.shiftPend = s.rtc.shiftPend → (u.loadTime b c).rtc.setPend = false ∧
      (u.loadTime b c).rtc.shiftPend = s.rtc.shiftPend ∧ (u.loadTime b c).get F.RTC_APPLY_PEND = 0 := fun u b c hu => by
    obtain ⟨-, -, -, hset, -, hshift, hpend⟩ := u.loadTime_spec b c
    exact ⟨hset, hshift.trans hu, hpend⟩
  cases hm : s.on F.RTC_CTRL_MODE with
  | true =>
    cases hd : s.stagedDate with
    | some d => rw [State.applySet_date hm hd]; exact hload _ _ _ rfl
    | none =>
      rw [State.applySet_bad hm hd]
      exact ⟨rfl, rfl, (State.get_put_other _ _ (by decide)).trans (State.get_put_same _ _ _)⟩
  | false =>
    obtain ⟨u, c, hu, hr, -⟩ := State.applySet_bin hm
    rw [hu]
    exact hload u _ _ (by rw [hr])

end Sys2Proof.Machine

namespace Sys2Proof.Machine

/-! What is staged comes back. -/

/-- The staging fields of a date. -/
def dateFields (d : DateTime) : List (Fld × Nat) :=
  [(F.RTC_SCAL0_SEC, Cal.bcd d.second), (F.RTC_SCAL0_MIN, Cal.bcd d.minute), (F.RTC_SCAL0_HOUR, Cal.bcd d.hour),
    (F.RTC_SCAL1_DAY, Cal.bcd d.day), (F.RTC_SCAL1_MONTH, Cal.bcd d.month), (F.RTC_SCAL1_YEAR, Cal.bcd (d.year % 100)),
    (F.RTC_SCAL1_CENT, d.year / 100 - 20)]

theorem dateFields_pairwise (d : DateTime) : (dateFields d).Pairwise fun a b => a.1.key ≠ b.1.key := by
  simp only [dateFields, List.pairwise_cons, List.forall_mem_cons, List.not_mem_nil, false_implies, implies_true, and_true,
    List.Pairwise.nil]
  decide

/-- A valid date that is staged is the staged date. -/
theorem State.stagedDate_puts (s : State) {d : DateTime} (h : Cal.valid d = true) : (s.puts (dateFields d)).stagedDate = some d := by
  obtain ⟨hy, hy', hm, hm', hd, hd', hh, hmin, hs⟩ := (Cal.valid_iff d).1 h
  have hday : d.day ≤ 31 := by
    refine Nat.le_trans hd' ?_
    unfold Cal.monthDays
    split
    · split <;> omega
    · split <;> omega
  have hget : ∀ {f : Fld} {v : Nat}, (f, v) ∈ dateFields d → v < 2 ^ f.w → (s.puts (dateFields d)).get f = v := fun hin hlt =>
    (State.get_puts_of_mem _ (dateFields_pairwise d) s hin).trans (Nat.mod_eq_of_lt hlt)
  have hbcd : ∀ {n w : Nat}, n < 100 → n / 10 * 16 + n % 10 < w → Cal.bcd n < w := fun _ h => h
  have hsec := hget (f := F.RTC_SCAL0_SEC) (v := Cal.bcd d.second) (by simp [dateFields]) (hbcd (by omega) (by show _ < 2 ^ 7; omega))
  have hminute := hget (f := F.RTC_SCAL0_MIN) (v := Cal.bcd d.minute) (by simp [dateFields]) (hbcd (by omega) (by show _ < 2 ^ 7; omega))
  have hhour := hget (f := F.RTC_SCAL0_HOUR) (v := Cal.bcd d.hour) (by simp [dateFields]) (hbcd (by omega) (by show _ < 2 ^ 6; omega))
  have hdays := hget (f := F.RTC_SCAL1_DAY) (v := Cal.bcd d.day) (by simp [dateFields]) (hbcd (by omega) (by show _ < 2 ^ 6; omega))
  have hmonth := hget (f := F.RTC_SCAL1_MONTH) (v := Cal.bcd d.month) (by simp [dateFields]) (hbcd (by omega) (by show _ < 2 ^ 5; omega))
  have hyear := hget (f := F.RTC_SCAL1_YEAR) (v := Cal.bcd (d.year % 100)) (by simp [dateFields]) (hbcd (by omega) (by show _ < 2 ^ 8; omega))
  have hcent := hget (f := F.RTC_SCAL1_CENT) (v := d.year / 100 - 20) (by simp [dateFields]) (by show _ < 2 ^ 2; omega)
  have hsum : 2000 + 100 * (d.year / 100 - 20) + d.year % 100 = d.year := by omega
  unfold State.stagedDate
  rw [hsec, hminute, hhour, hdays, hmonth, hyear, hcent, Cal.ofBcd_bcd (by omega), Cal.ofBcd_bcd (by omega), Cal.ofBcd_bcd (by omega),
    Cal.ofBcd_bcd (by omega), Cal.ofBcd_bcd (by omega), Cal.ofBcd_bcd (by omega)]
  dsimp only
  rw [hsum]
  exact if_pos h

/-- A date that is set at once is the clock's, in both counts. -/
theorem State.setNow_spec {s : State} {d : DateTime} (h : Cal.valid d = true) (hp : s.rtc.setPend = false) :
    (s.stage (Cal.count d)).applySet.rtc.cal = Cal.count d ∧ (s.stage (Cal.count d)).applySet.rtc.bin = Cal.toBinary (Cal.count d) ∧
    (s.stage (Cal.count d)).applySet.rtc.pre = 0 ∧ (s.stage (Cal.count d)).applySet.rtc.shift = none := by
  have hload : ∀ (u t : State), t = u.loadTime (Cal.toBinary (Cal.count d)) (Cal.count d) →
      t.rtc.cal = Cal.count d ∧ t.rtc.bin = Cal.toBinary (Cal.count d) ∧ t.rtc.pre = 0 ∧ t.rtc.shift = none := fun u t ht => by
    obtain ⟨hb, hc, hpre, -, hshift, -⟩ := u.loadTime_spec (Cal.toBinary (Cal.count d)) (Cal.count d)
    rw [ht]
    exact ⟨hc, hb, hpre, hshift⟩
  cases hm : s.on F.RTC_CTRL_MODE with
  | true =>
    have hstage : s.stage (Cal.count d) = s.puts (dateFields d) := by
      unfold State.stage
      rw [if_neg (by rw [hp]; decide), if_pos hm, Cal.dateOf_count h]
      rfl
    have hmode : (s.puts (dateFields d)).on F.RTC_CTRL_MODE = true := by
      refine (State.on_congr (State.get_puts_other _ _ ?_)).trans hm
      simp only [dateFields, List.forall_mem_cons, List.not_mem_nil, false_implies, implies_true, and_true]
      decide
    rw [hstage]
    exact hload _ _ (State.applySet_date hmode (s.stagedDate_puts h))
  | false =>
    have hlt := Cal.toBinary_lt (Cal.count_lt h)
    have hstage : s.stage (Cal.count d) = (s.put F.RTC_SBSEC_SEC (Cal.toBinary (Cal.count d))).put F.RTC_SBHI_SECH (Cal.toBinary (Cal.count d) / 2 ^ 32) := by
      unfold State.stage
      rw [if_neg (by rw [hp]; decide), if_neg (by rw [hm]; decide)]
    rw [hstage]
    generalize ht : (s.put F.RTC_SBSEC_SEC (Cal.toBinary (Cal.count d))).put F.RTC_SBHI_SECH (Cal.toBinary (Cal.count d) / 2 ^ 32) = t
    have hmode : t.on F.RTC_CTRL_MODE = false := by
      rw [← ht]
      exact (State.on_congr ((State.get_put_other _ _ (by decide)).trans (State.get_put_other _ _ (by decide)))).trans hm
    have hbin : t.stagedBin = Cal.toBinary (Cal.count d) := by
      have hlow : t.get F.RTC_SBSEC_SEC = Cal.toBinary (Cal.count d) % 2 ^ 32 := by
        rw [← ht]
        exact (State.get_put_other _ _ (by decide)).trans (State.get_put_same _ _ _)
      have hhigh : t.get F.RTC_SBHI_SECH = Cal.toBinary (Cal.count d) / 2 ^ 32 % 2 ^ 8 := by
        rw [← ht]
        exact State.get_put_same _ _ _
      unfold State.stagedBin
      rw [hlow, hhigh]
      omega
    obtain ⟨u, c, hu, -, hc⟩ := State.applySet_bin hmode
    rw [hbin] at hu hc
    rw [hc _ (Cal.ofBinary_toBinary (Cal.count_lt h))] at hu
    exact hload u _ hu

/-- A shift of the clock waits with its count. -/
theorem State.startShift_spec {s : State} {n : Int} (h : -32768 ≤ n) (h' : n < 32768) : (s.startShift n).rtc.shiftPend = true ∧
    (s.startShift n).getS F.RTC_SHIFT_COUNT = n ∧ (s.startShift n).get F.RTC_SHIFT_PEND = 1 := by
  refine ⟨rfl, ?_, State.get_put_same _ _ _⟩
  refine (State.getS_congr ((State.get_put_other _ _ (by decide)).trans (State.get_withRtc _ _ _))).trans ?_
  exact State.getS_putS (by decide) h h'

/-- The backup domain's reset puts a register of the clock back to its reset value. -/
theorem State.backupReset_get (s : State) {f : Fld} (h : 0x4000B010 * 32 ≤ f.key) (h' : f.key < 0x4000C000 * 32) :
    s.backupReset.get f = resetOf f.key := (Store.get_clear _ _ _ _ _).trans (if_pos ⟨h, h'⟩)

/-- A fraction that is given and not 0 is shifted to, where no shift or set is pending. -/
def State.shiftGiven (s : State) : Option (BitVec 15) → State
  | some f => if f = 0 ∨ s.rtcBusy then s else s.startShift f.toNat
  | none => s

theorem State.shiftGiven_spec (s : State) (f : Option (BitVec 15)) : (s.shiftGiven f).rtc.setPend = s.rtc.setPend ∧
    (s.shiftGiven f).get F.RTC_APPLY_PEND = s.get F.RTC_APPLY_PEND ∧ (s.shiftGiven f).rtc.bin = s.rtc.bin ∧
    (s.shiftGiven f).rtc.cal = s.rtc.cal ∧ (s.shiftGiven f).rtc.pre = s.rtc.pre ∧
    (∀ v, f = some v → v ≠ 0 → s.rtcBusy = false → (s.shiftGiven f).rtc.shiftPend = true ∧
      (s.shiftGiven f).getS F.RTC_SHIFT_COUNT = (v.toNat : Int)) := by
  cases f with
  | none => exact ⟨rfl, rfl, rfl, rfl, rfl, nofun⟩
  | some v =>
    unfold State.shiftGiven
    dsimp only
    split
    next hc =>
      refine ⟨rfl, rfl, rfl, rfl, rfl, fun w hw h0 hb => ?_⟩
      cases hw
      rcases hc with hc | hc
      · exact absurd hc h0
      · rw [hb] at hc; exact Bool.noConfusion hc
    next =>
      have hlt := v.isLt
      obtain ⟨hpend, hcount, -⟩ := State.startShift_spec (s := s) (n := (v.toNat : Int)) (by omega) (by omega)
      refine ⟨rfl, ?_, rfl, rfl, rfl, fun w hw _ _ => ?_⟩
      · exact (State.get_put_other _ _ (by decide)).trans ((State.get_withRtc _ _ _).trans (State.get_put_other _ _ (by decide)))
      · cases hw
        exact ⟨hpend, hcount⟩

end Sys2Proof.Machine

namespace Sys2Proof
open Sys2Proof.Machine

/-- The end of a boundary leaves the clock and what a set has marked. -/
theorem boundaryEnd (t : State) : SameClock t (t.fire 18).alarms ∧
    ∀ {f : Fld}, f.part = .rRtc → f.key ≠ F.RTC_STAT_ALM1.key → f.key ≠ F.RTC_STAT_ALM2.key → (t.fire 18).alarms.get f = t.get f :=
  ⟨(State.fire_clock t 18).trans (State.alarms_clock _),
    fun hp h1 h2 => (State.alarms_same hp h1 h2 _).get.trans (State.fire_frame.get hp rfl)⟩

/-- A boundary with no set waiting. -/
theorem secondBoundary_free {s : State} (h : s.rtc.setPend = false) :
    exec .rtcSecondBoundary s = .next (s.countSecond.beginShift.fire 18).alarms := by
  show execRtcSecondBoundary s = _
  unfold execRtcSecondBoundary
  dsimp only
  rw [h, Bool.false_and, if_neg Bool.false_ne_true, if_neg Bool.false_ne_true, if_neg Bool.false_ne_true]

/-- A boundary at which a set waits that is not refused. -/
theorem secondBoundary_set {s : State} (h : s.rtc.setPend = true) (hr : (s.on F.RTC_CTRL_MODE && s.stagedDate.isNone) = false) :
    exec .rtcSecondBoundary s = .next (s.applySet.beginShift.afterSet.fire 18).alarms := by
  show execRtcSecondBoundary s = _
  unfold execRtcSecondBoundary
  dsimp only
  rw [h, hr, Bool.and_false, if_neg Bool.false_ne_true, if_pos rfl, if_pos rfl]

/-- A boundary at which a bad set waits. -/
theorem secondBoundary_refused {s : State} (h : s.rtc.setPend = true) (hr : (s.on F.RTC_CTRL_MODE && s.stagedDate.isNone) = true) :
    exec .rtcSecondBoundary s = .next (s.applySet.countSecond.beginShift.afterSet.fire 18).alarms := by
  show execRtcSecondBoundary s = _
  unfold execRtcSecondBoundary
  dsimp only
  rw [h, hr, Bool.and_true, if_pos rfl, if_pos rfl]

theorem secondBoundary_counts {s : State} (h : s.rtc.setPend = false) :
    (s.rtc.cal + 1 < Cal.span → ∃ t : State, exec .rtcSecondBoundary s = .next t ∧
      t.rtc.bin = (s.rtc.bin + 1) % 2 ^ 40 ∧ t.rtc.cal = s.rtc.cal + 1 ∧ t.rtc.pre = 0 ∧
      (s.rtc.shiftPend = true → t.rtc.shift = some (s.getS F.RTC_SHIFT_COUNT) ∧ t.rtc.shiftPend = false)) ∧
    (s.rtc.cal + 1 = Cal.span → ∃ t : State, exec .rtcSecondBoundary s = .next t ∧
      t.rtc.bin = (s.rtc.bin + 1) % 2 ^ 40 ∧ t.rtc.cal = 0 ∧ t.get F.RTC_STAT_OSF = 1) := by
  obtain ⟨hrtc, hosf, hsame⟩ := s.countSecond_spec
  obtain ⟨bget, bbin, bcal, bpre, -, bshift⟩ := s.countSecond.beginShift_spec
  obtain ⟨hend, hends⟩ := boundaryEnd s.countSecond.beginShift
  obtain ⟨ebin, ecal, epre, -, epend, eshift⟩ := hend.fields
  rw [hrtc] at bbin bcal bpre bshift
  refine ⟨fun hlt => ⟨_, secondBoundary_free h, ebin.trans bbin, ?_, epre.trans bpre, fun hp => ?_⟩,
    fun heq => ⟨_, secondBoundary_free h, ebin.trans bbin, ?_, ?_⟩⟩
  · exact ecal.trans (bcal.trans (if_neg (Nat.ne_of_lt hlt)))
  · obtain ⟨b1, b2⟩ := bshift hp
    have hcount : s.countSecond.getS F.RTC_SHIFT_COUNT = s.getS F.RTC_SHIFT_COUNT :=
      State.getS_congr (hsame _ F.RTC_SHIFT_COUNT_part (by decide) (by decide))
    exact ⟨eshift.trans (b1.trans (by rw [hcount])), epend.trans b2⟩
  · exact ecal.trans (bcal.trans (if_pos heq))
  · exact (hends F.RTC_STAT_OSF_part (by decide) (by decide)).trans ((bget _).trans (hosf heq))

theorem secondBoundary_sets {s : State} (h : s.rtc.setPend = true) :
    (∀ d, s.on F.RTC_CTRL_MODE = true → s.stagedDate = some d → ∃ t : State, exec .rtcSecondBoundary s = .next t ∧
      t.rtc.cal = Cal.count d ∧ t.rtc.bin = Cal.toBinary (Cal.count d) ∧ t.rtc.setPend = false) ∧
    (s.on F.RTC_CTRL_MODE = true → s.stagedDate = none → ∃ t : State, exec .rtcSecondBoundary s = .next t ∧
      t.rtc.bin = (s.rtc.bin + 1) % 2 ^ 40 ∧ t.rtc.setPend = false ∧ t.get F.RTC_STAT_BADSET = 1) ∧
    (s.on F.RTC_CTRL_MODE = false → ∃ t : State, exec .rtcSecondBoundary s = .next t ∧
      t.rtc.bin = s.get F.RTC_SBSEC_SEC + s.get F.RTC_SBHI_SECH * 2 ^ 32 ∧ t.rtc.setPend = false ∧
      ∀ c, Cal.ofBinary t.rtc.bin = some c → t.rtc.cal = c) := by
  have hkept : ∀ u : State, (u.beginShift.afterSet.fire 18).alarms.rtc.bin = u.rtc.bin ∧ (u.beginShift.afterSet.fire 18).alarms.rtc.cal = u.rtc.cal ∧
      (u.beginShift.afterSet.fire 18).alarms.rtc.setPend = u.rtc.setPend ∧
      (u.beginShift.afterSet.fire 18).alarms.get F.RTC_STAT_BADSET = u.get F.RTC_STAT_BADSET := fun u => by
    obtain ⟨bget, bbin, bcal, -, bset, -⟩ := u.beginShift_spec
    obtain ⟨abin, acal, aset, abad⟩ := u.beginShift.afterSet_spec
    obtain ⟨hend, hends⟩ := boundaryEnd u.beginShift.afterSet
    obtain ⟨ebin, ecal, -, eset, -⟩ := hend.fields
    exact ⟨ebin.trans (abin.trans bbin), ecal.trans (acal.trans bcal), eset.trans (aset.trans bset),
      (hends F.RTC_STAT_BADSET_part (by decide) (by decide)).trans (abad.trans (bget _))⟩
  refine ⟨fun d hm hd => ?_, fun hm hd => ?_, fun hm => ?_⟩
  · obtain ⟨kbin, kcal, kset, -⟩ := hkept s.applySet
    obtain ⟨lbin, lcal, -, lset, -⟩ := s.beginSet.loadTime_spec (Cal.toBinary (Cal.count d)) (Cal.count d)
    rw [← State.applySet_date hm hd] at lbin lcal lset
    exact ⟨_, secondBoundary_set h (by rw [hd]; exact Bool.and_false _), kcal.trans lcal, kbin.trans lbin, kset.trans lset⟩
  · obtain ⟨kbin, -, kset, kbad⟩ := hkept s.applySet.countSecond
    obtain ⟨hrtc, -, hsame⟩ := s.applySet.countSecond_spec
    have hbad := State.applySet_bad hm hd
    have hbin : s.applySet.rtc.bin = s.rtc.bin := by rw [hbad]; rfl
    have hset : s.applySet.rtc.setPend = false := s.applySet_spec.1
    have hone : s.applySet.get F.RTC_STAT_BADSET = 1 := by rw [hbad]; exact State.get_put_same _ _ _
    rw [hrtc] at kbin kset
    refine ⟨_, secondBoundary_refused h (by rw [hm, hd]; rfl), kbin.trans (by rw [hbin]), kset.trans hset, ?_⟩
    exact kbad.trans ((hsame _ F.RTC_STAT_BADSET_part (by decide) (by decide)).trans hone)
  · obtain ⟨kbin, kcal, kset, -⟩ := hkept s.applySet
    obtain ⟨u, c, hu, -, hc⟩ := State.applySet_bin hm
    obtain ⟨lbin, lcal, -, lset, -⟩ := u.loadTime_spec s.stagedBin c
    rw [← hu] at lbin lcal lset
    refine ⟨_, secondBoundary_set h (by rw [hm]; rfl), kbin.trans lbin, kset.trans lset, fun k hk => ?_⟩
    rw [kbin, lbin] at hk
    exact kcal.trans (lcal.trans (hc k hk))

/-- RTC SET loads a valid date at once, with a fraction as a shift, or leaves it for the next boundary. -/
theorem execRtcSet_run {s : State} {x : Sess} (h : accepts s x rtcCmd = true) (d : DateTime) (f : Option (BitVec 15)) (b : Bool) :
    ((Cal.valid d = false ∨ (b = true ∧ f.isSome = true)) → exec (.rtcSet x d f b) s = .next (s.er x 120)) ∧
    (Cal.valid d = true → (b = false ∨ f = none) →
      (s.on F.RTC_STAT_LOCKED = true → exec (.rtcSet x d f b) s = .next (s.ok x)) ∧
      (s.on F.RTC_STAT_LOCKED = false →
        (b = true → ∃ t : State, exec (.rtcSet x d f b) s = .next (t.ok x) ∧ t.rtc.setPend = true ∧ t.get F.RTC_APPLY_PEND = 1) ∧
        (b = false → ∃ t : State, exec (.rtcSet x d f b) s = .next (t.ok x) ∧ t.rtc.setPend = false ∧ t.get F.RTC_APPLY_PEND = 0 ∧
          (s.rtc.setPend = false → t.rtc.cal = Cal.count d ∧ t.rtc.bin = Cal.toBinary (Cal.count d) ∧ t.rtc.pre = 0 ∧
            ∀ v, f = some v → v ≠ 0 → s.rtc.shiftPend = false →
              t.rtc.shiftPend = true ∧ t.getS F.RTC_SHIFT_COUNT = (v.toNat : Int))))) := by
  have hrun : exec (.rtcSet x d f b) s = .next (if (!Cal.valid d || (b && f.isSome)) = true then s.er x 120
      else if s.on F.RTC_STAT_LOCKED = true then s.ok x else if b = true then (s.stage (Cal.count d)).setAtSecond.ok x
      else ((s.stage (Cal.count d)).applySet.shiftGiven f).ok x) := by
    refine (congrArg Host.Outcome.next (run_accepts h _) : _ = _).trans ?_
    cases f <;> rfl
  refine ⟨fun hb => hrun.trans (by rw [if_pos]; simpa using hb), fun hv hb => ?_⟩
  have hgood : ¬(!Cal.valid d || (b && f.isSome)) = true := by
    rw [hv]
    rcases hb with rfl | rfl
    · simp
    · simp
  rw [if_neg hgood] at hrun
  refine ⟨fun hl => hrun.trans (by rw [if_pos hl]), fun hl => ?_⟩
  rw [if_neg (by rw [hl]; decide)] at hrun
  refine ⟨fun hat => ⟨_, hrun.trans (by rw [if_pos hat]), rfl, State.get_put_same _ _ _⟩, fun hat => ?_⟩
  rw [if_neg (by rw [hat]; decide)] at hrun
  have hstage : (s.stage (Cal.count d)).rtc = s.rtc := State.stage_frame.same .rtc rfl
  obtain ⟨hset, hshift, hpend⟩ := (s.stage (Cal.count d)).applySet_spec
  rw [hstage] at hshift
  obtain ⟨gset, gpend, gbin, gcal, gpre, gshift⟩ := (s.stage (Cal.count d)).applySet.shiftGiven_spec f
  refine ⟨_, hrun, gset.trans hset, gpend.trans hpend, fun hp => ?_⟩
  obtain ⟨ncal, nbin, npre, nshift⟩ := State.setNow_spec hv hp
  refine ⟨gcal.trans ncal, gbin.trans nbin, gpre.trans npre, fun v hf hv0 hs => gshift v hf hv0 ?_⟩
  unfold State.rtcBusy
  rw [hset, hshift, hs, nshift]
  rfl

/-- An alarm that is set puts its fields and its enable. -/
theorem execRtcAlarm_open {s : State} {x : Sess} (h : accepts s x rtcCmd = true) (hl : s.on F.RTC_STAT_LOCKED = false) (k : Fin 2) :
    (∀ c m : BitVec 40, exec (.rtcAlarm x k (.binary c m)) s = .next (((s.puts (alarmBinary k c.toNat m.toNat)).put (alarmEnable k) 1).ok x)) ∧
    (∀ c0 c1 : Word, exec (.rtcAlarm x k (.calendar c0 c1)) s = .next (((s.puts (alarmFields k c0.toNat c1.toNat)).put (alarmEnable k) 1).ok x)) :=
  ⟨fun _ _ => (congrArg Host.Outcome.next (run_accepts h _) : _ = _).trans (congrArg Host.Outcome.next (if_neg (by rw [hl]; decide))),
    fun _ _ => (congrArg Host.Outcome.next (run_accepts h _) : _ = _).trans (congrArg Host.Outcome.next (if_neg (by rw [hl]; decide)))⟩

/-- The fields of an alarm are apart from each other and from the enable. -/
theorem alarmFields_nodup (k : Fin 2) (c0 c1 : Nat) : ((alarmEnable k).key :: (alarmFields k c0 c1).map (·.1.key)).Nodup := by
  show ((alarmEnable k).key :: (alarmFields k 0 0).map (·.1.key)).Nodup
  revert k
  decide

theorem alarmBinary_nodup (k : Fin 2) (c m : Nat) : ((alarmEnable k).key :: (alarmBinary k c m).map (·.1.key)).Nodup := by
  show ((alarmEnable k).key :: (alarmBinary k 0 0).map (·.1.key)).Nodup
  revert k
  decide

/-- A field of an alarm reads what it is given once the alarm is enabled. -/
theorem get_alarm {s : State} {e f : Fld} {v : Nat} {l : List (Fld × Nat)} (hl : (e.key :: l.map (·.1.key)).Nodup)
    (hin : (f, v) ∈ l) : ((s.puts l).put e 1).get f = v % 2 ^ f.w := by
  obtain ⟨hout, hnodup⟩ := List.nodup_cons.1 hl
  have hapart : l.Pairwise fun a b => a.1.key ≠ b.1.key := List.pairwise_map.1 hnodup
  have hother : f.key ≠ e.key := fun he => hout (List.mem_map.2 ⟨(f, v), hin, he⟩)
  have hget := State.get_puts_of_mem l hapart s hin
  dsimp only at hget
  rw [State.get_put_other _ _ hother, hget]

theorem alarmEnable_on (s : State) (k : Fin 2) : (s.put (alarmEnable k) 1).on (alarmEnable k) = true := by
  unfold State.on
  rw [State.get_put_same]
  revert k
  decide

theorem execRtcAlarm_run {s : State} {x : Sess} (h : accepts s x rtcCmd = true) (hl : s.on F.RTC_STAT_LOCKED = false) (k : Fin 2) :
    (∀ c m : BitVec 40, ∃ t : State, exec (.rtcAlarm x k (.binary c m)) s = .next (t.ok x) ∧ t.on (alarmEnable k) = true ∧
      t.get (F.RTC_ALM_BCMPL_CMP k) = c.toNat % 2 ^ 32 ∧ t.get (F.RTC_ALM_BCMPH_CMP k) = c.toNat / 2 ^ 32 ∧
      t.get (F.RTC_ALM_BMSKL_MSK k) = m.toNat % 2 ^ 32 ∧ t.get (F.RTC_ALM_BCMPH_MSK k) = m.toNat / 2 ^ 32) ∧
    (∀ c0 c1 : Word, ∃ t : State, exec (.rtcAlarm x k (.calendar c0 c1)) s = .next (t.ok x) ∧ t.on (alarmEnable k) = true ∧
      t.get (F.RTC_ALM_C0_SEC k) = bitsOf c0.toNat 0 7 ∧ t.get (F.RTC_ALM_C0_MIN k) = bitsOf c0.toNat 8 7 ∧
      t.get (F.RTC_ALM_C0_HOUR k) = bitsOf c0.toNat 16 6 ∧ t.get (F.RTC_ALM_C1_YEAR k) = bitsOf c1.toNat 16 8) := by
  obtain ⟨hbinary, hcalendar⟩ := execRtcAlarm_open h hl k
  refine ⟨fun c m => ⟨_, hbinary c m, alarmEnable_on _ k, ?_⟩, fun c0 c1 => ⟨_, hcalendar c0 c1, alarmEnable_on _ k, ?_⟩⟩
  · have hget := fun {f v} (hin : (f, v) ∈ alarmBinary k c.toNat m.toNat) => get_alarm (s := s) (alarmBinary_nodup k c.toNat m.toNat) hin
    have hc := c.isLt
    have hm := m.isLt
    have h1 := hget (f := F.RTC_ALM_BCMPL_CMP k) (v := c.toNat) (by simp [alarmBinary])
    have h2 := hget (f := F.RTC_ALM_BCMPH_CMP k) (v := c.toNat / 2 ^ 32) (by simp [alarmBinary])
    have h3 := hget (f := F.RTC_ALM_BMSKL_MSK k) (v := m.toNat) (by simp [alarmBinary])
    have h4 := hget (f := F.RTC_ALM_BCMPH_MSK k) (v := m.toNat / 2 ^ 32) (by simp [alarmBinary])
    exact ⟨h1, h2.trans (Nat.mod_eq_of_lt (by show _ < 2 ^ 8; omega)), h3, h4.trans (Nat.mod_eq_of_lt (by show _ < 2 ^ 8; omega))⟩
  · have hget := fun {f v} (hin : (f, v) ∈ alarmFields k c0.toNat c1.toNat) => get_alarm (s := s) (alarmFields_nodup k c0.toNat c1.toNat) hin
    have h1 := hget (f := F.RTC_ALM_C0_SEC k) (v := c0.toNat) (by simp [alarmFields])
    have h2 := hget (f := F.RTC_ALM_C0_MIN k) (v := bitsOf c0.toNat 8 7) (by simp [alarmFields])
    have h3 := hget (f := F.RTC_ALM_C0_HOUR k) (v := bitsOf c0.toNat 16 6) (by simp [alarmFields])
    have h4 := hget (f := F.RTC_ALM_C1_YEAR k) (v := bitsOf c1.toNat 16 8) (by simp [alarmFields])
    refine ⟨h1.trans ?_, h2.trans (Nat.mod_mod _ _), h3.trans (Nat.mod_mod _ _), h4.trans (Nat.mod_mod _ _)⟩
    show _ % 2 ^ 7 = c0.toNat / 2 ^ 0 % 2 ^ 7
    rw [Nat.pow_zero, Nat.div_one]

/-- The discipline of the clock: set where OSF is set, else left, shifted or set by how far it is off. -/
theorem execRtcDiscipline_run (s : State) :
    let may := s.owner .rtc = .console ∧ s.on F.RTC_CTRL_DISC_EN = true ∧ s.get F.TIDE_STAT_STATE = 1 ∧
      s.on F.RTC_STAT_LOCKED = false ∧ s.rtcBusy = false
    let d := s.utcTicks - s.rtcTicks
    (may → s.on F.RTC_STAT_OSF = true →
      ∃ t : State, exec .rtcDiscipline s = .next t ∧ t.rtc.setPend = true ∧ t.rtc.clearOsf = true) ∧
    (may → s.on F.RTC_STAT_OSF = false →
      (d = 0 → exec .rtcDiscipline s = .next s) ∧
      (d ≠ 0 → d.natAbs < 32768 →
        ∃ t : State, exec .rtcDiscipline s = .next t ∧ t.rtc.shiftPend = true ∧ t.getS F.RTC_SHIFT_COUNT = d) ∧
      (32768 ≤ d.natAbs → ∃ t : State, exec .rtcDiscipline s = .next t ∧ t.rtc.setPend = true ∧ t.rtc.after.isSome = true)) ∧
    (¬may → exec .rtcDiscipline s = .next s) := by
  intro may d
  have hcond : (s.owner .rtc = .console ∧ s.on F.RTC_CTRL_DISC_EN = true ∧ s.get F.TIDE_STAT_STATE = 1 ∧ (!s.on F.RTC_STAT_LOCKED) = true ∧
      (!s.rtcBusy) = true) ↔ may := by
    rw [Bool.not_eq_true', Bool.not_eq_true']
  refine ⟨fun hm ho => ⟨_, congrArg Host.Outcome.next ((if_pos (hcond.2 hm)).trans (if_pos ho)), rfl, rfl⟩, fun hm ho => ?_,
    fun hm => congrArg Host.Outcome.next (if_neg (mt hcond.1 hm))⟩
  have hno : ¬s.on F.RTC_STAT_OSF = true := by rw [ho]; decide
  refine ⟨fun h0 => congrArg Host.Outcome.next ((if_pos (hcond.2 hm)).trans ((if_neg hno).trans (if_pos h0))), fun h0 hlt => ?_, fun hge => ?_⟩
  · obtain ⟨hpend, hcount, -⟩ := State.startShift_spec (s := s) (n := d) (by omega) (by omega)
    refine ⟨_, congrArg Host.Outcome.next ((if_pos (hcond.2 hm)).trans ((if_neg hno).trans ((if_neg h0).trans (if_pos hlt)))), hpend, ?_⟩
    exact (State.getS_congr (State.get_put_other _ _ (by decide))).trans hcount
  · refine ⟨_, congrArg Host.Outcome.next ((if_pos (hcond.2 hm)).trans ((if_neg hno).trans ((if_neg ?_).trans (if_neg (Nat.not_lt.2 hge))))), rfl, rfl⟩
    intro h0
    rw [show d.natAbs = 0 from by rw [show d = 0 from h0]; rfl] at hge
    exact absurd hge (by decide)

/-- Settles O32: the counts at a boundary, a date that comes back from what is staged, and the lock before every write. -/
theorem clockAndItsBackup : Obligations.ClockAndItsBackup := by
  unfold Obligations.ClockAndItsBackup
  have body := fun {s x i} (h : accepts s x i = true) (f) => congrArg (Host.Outcome.next (φ := Fault) (ρ := Refusal)) (run_accepts h f)
  refine ⟨fun s h => secondBoundary_counts h, fun s h => secondBoundary_sets h, fun x d f b s h => execRtcSet_run h d f b,
    fun x n s h => ?shift, fun x b s h => ⟨fun hb => ?mode, fun hb hh => ?heritage⟩,
    fun x k s h => ⟨fun hl a => (body h _).trans (congrArg Host.Outcome.next (if_pos hl)), fun hl => ?alarm⟩,
    fun x r b s h => ⟨fun hl => (body h _).trans (by rw [if_pos hl]), fun hl => ?trickle⟩,
    fun x s h => ⟨fun ho ht => ?neverSet, fun ho => ?osfClear⟩, fun x s h => body h _, fun side s hl h => ?writes, fun side s hl => ?locked,
    fun side s => ⟨rfl, rfl, rfl, _, rfl, rfl⟩, fun s => ?shiftEnd, fun b s => ?lock, fun s => ?unlock, fun s => ?reset, fun s => ?discipline⟩
  case shift =>
    refine ⟨fun hn => (body h _).trans (congrArg Host.Outcome.next (if_pos hn)), fun hn hb => ?_, fun hn hb hl => ?_, fun hn hb hl => ?_⟩
    · exact (body h _).trans (congrArg Host.Outcome.next ((if_neg (by omega)).trans (if_pos hb)))
    · exact (body h _).trans (congrArg Host.Outcome.next ((if_neg (by omega)).trans ((if_neg (by rw [hb]; decide)).trans (by rw [if_pos hl]))))
    · obtain ⟨hpend, hcount, hfield⟩ := State.startShift_spec (s := s) (n := n) (by omega) (by omega)
      exact ⟨_, (body h _).trans (congrArg Host.Outcome.next ((if_neg (by omega)).trans ((if_neg (by rw [hb]; decide)).trans
        (by rw [if_neg (by rw [hl]; decide)])))), hcount, hpend, hfield⟩
  case mode =>
    refine ⟨_, (body h _).trans (congrArg Host.Outcome.next (if_neg ?_)), ?_⟩
    · rw [Bool.and_eq_true, beq_iff_eq]
      rintro ⟨h1, h2⟩
      rcases hb with hb | hb
      · rw [hb] at h1; exact Bool.noConfusion h1
      · exact hb h2
    · split
      · rfl
      · exact State.on_flag _ _ rfl
  case heritage => exact (body h _).trans (congrArg Host.Outcome.next (if_pos (by rw [hb, hh]; rfl)))
  case alarm => exact execRtcAlarm_run h hl k
  case trickle =>
    refine ⟨_, (body h _).trans (by rw [if_neg (by rw [hl]; decide)]), ?_, State.on_flag _ _ rfl⟩
    exact (State.get_put_other _ _ (by decide)).trans ((State.get_put_same _ _ _).trans (Nat.mod_eq_of_lt r.isLt))
  case neverSet => exact (body h _).trans (congrArg Host.Outcome.next (if_pos (by rw [ho, ht]; rfl)))
  case osfClear =>
    refine (body h _).trans (congrArg Host.Outcome.next (if_neg ?_))
    rcases ho with ho | ho
    · rw [ho, Bool.false_and]; decide
    · rw [ho, Bool.not_true, Bool.and_false]; decide
  case writes =>
    have hno : ¬s.on F.RTC_STAT_LOCKED = true := by rw [hl]; decide
    have hown : ¬side ≠ s.owner .rtc := by
      obtain ⟨-, ho, -⟩ := (opens_iff).1 h
      exact fun k => k ho
    refine ⟨congrArg Host.Outcome.next ((if_neg hno).trans (guard_opens h _ _)), congrArg Host.Outcome.next ((if_neg hno).trans (guard_opens h _ _)),
      ⟨_, congrArg Host.Outcome.next ((if_neg hno).trans (guard_opens h _ _)), rfl, State.get_put_same _ _ _⟩, fun ht => ?_, fun ht => ?_,
      fun hb => ?_, fun hb => ?_⟩
    · refine congrArg Host.Outcome.next ((if_neg hno).trans ?_)
      rw [ht]
      exact guardBusy_opens h _ _
    · refine congrArg Host.Outcome.next ((if_neg hno).trans ((if_neg hown).trans (if_pos ?_)))
      rw [ht]
      rfl
    · refine congrArg Host.Outcome.next ((if_neg hno).trans ?_)
      rw [hb]
      exact guardBusy_opens h _ _
    · exact congrArg Host.Outcome.next ((if_neg hno).trans ((if_neg hown).trans (if_pos hb)))
  case locked =>
    exact ⟨congrArg Host.Outcome.next (if_pos hl), congrArg Host.Outcome.next (if_pos hl), congrArg Host.Outcome.next (if_pos hl),
      congrArg Host.Outcome.next (if_pos hl), congrArg Host.Outcome.next (if_pos hl)⟩
  case shiftEnd =>
    cases hs : s.rtc.shift with
    | none => exact ⟨s, congrArg Host.Outcome.next (if_neg (by rw [hs]; decide)), hs, rfl, fun _ => rfl⟩
    | some n => exact ⟨_, congrArg Host.Outcome.next (if_pos (by rw [hs]; rfl)), rfl, rfl, nofun⟩
  case lock =>
    show ∃ t, execRtcInterfaceLock b s = _ ∧ _
    unfold execRtcInterfaceLock
    extract_lets s1
    have h1 : s1.rtc = s.rtc ∧ s1.get F.RTC_STAT_LOCKED = 1 ∧ s1.on F.RTC_STAT_SRC = b :=
      ⟨rfl, (State.get_put_other _ _ (by decide)).trans (State.get_put_same _ _ _), State.on_flag _ _ rfl⟩
    clear_value s1
    obtain ⟨hrtc, hlock, hsrc⟩ := h1
    have hcancel : ∀ f : Fld, f.key ≠ F.RTC_APPLY_PEND.key → f.key ≠ F.RTC_STAT_STAGE_LOST.key →
        (s1.cancelSet.put F.RTC_STAT_STAGE_LOST 1).get f = s1.get f := fun f ha hb =>
      (State.get_put_other _ _ hb).trans ((State.get_put_other _ _ ha).trans (State.get_withRtc _ _ _))
    refine ⟨_, rfl, ?_⟩
    cases hp : s.rtc.setPend with
    | true =>
      rw [if_pos rfl]
      exact ⟨(hcancel _ (by decide) (by decide)).trans hlock, (State.on_congr (hcancel _ (by decide) (by decide))).trans hsrc, rfl,
        by rw [← hrtc]; rfl⟩
    | false =>
      rw [if_neg Bool.false_ne_true, hrtc]
      exact ⟨hlock, hsrc, hp, rfl⟩
  case unlock => exact ⟨_, rfl, State.get_put_same _ _ _, rfl⟩
  case reset =>
    refine ⟨_, rfl, ?_, ?_, ?_, ?_, ?_⟩
    · exact (State.systemRecord_frame.same .rtc rfl : _ = _).trans (State.raise0_frame.same .rtc rfl)
    · refine (State.systemRecord_frame.get F.RTC_ALMCTL_EN1_part rfl).trans ((State.raise0_frame.get F.RTC_ALMCTL_EN1_part rfl).trans ?_)
      exact (s.backupReset_get (by decide) (by decide)).trans (of_decide_eq_true rfl)
    · exact (State.systemRecord_frame.same .tide rfl : _ = _).trans ((State.raise0_frame.same .tide rfl : _ = _).trans rfl)
    · exact (State.systemRecord_frame.same .app rfl : _ = _).trans ((State.raise0_frame.same .app rfl : _ = _).trans rfl)
    · exact (State.systemRecord_frame.same .sys rfl : _ = _).trans ((State.raise0_frame.same .sys rfl : _ = _).trans rfl)
  case discipline => exact execRtcDiscipline_run s

end Sys2Proof

/-! PROOF. The operating point that takes effect (O33). -/

namespace Sys2Proof.Machine

section

variable {f : Fld} (hp : f.part = .rPwr) (hr : ∀ g ∈ reportFields, f.key ≠ g.key)
include hp hr

/-- A report leaves the power manager's registers but the domains that it powers. -/
theorem Reports.same {s t : State} (h : Reports s t) : Same [f] s t := fun g hg => by
  rw [List.mem_singleton.1 hg]
  exact h.get f (by rw [hp]; rfl) hr

end


/-- What follows a point that takes effect leaves the point in force. -/
theorem State.pointDone_act (t : State) (a b c d : Nat) (cond : Prop) [Decidable cond] :
    ((if cond then t.derivePoint.moveCores a b else t.derivePoint.moveCores c d).raise0 Src.PWR_POINT_DONE).get F.PWR_POINT_ACT =
      t.get F.PWR_POINT_ACT := by
  have hderive : Same [F.PWR_POINT_ACT] t t.derivePoint := .ite .refl ((Same.of_put_key (by decide)).trans (Same.of_put_key (by decide)))
  have hmove : ∀ a b, Same [F.PWR_POINT_ACT] t (t.derivePoint.moveCores a b) := fun a b =>
    hderive.trans (.of_part F.PWR_POINT_ACT_part State.moveCores_frame rfl)
  exact ((Same.ite (hmove a b) (hmove c d)).trans ((State.raise0_reports _ _).same F.PWR_POINT_ACT_part (by decide))).get

/-- The point in force keeps the two bits of its field. -/
theorem execPwrPointDone_act {s : State} (h : s.on F.PWR_POINT_PEND = true) :
    ∃ t : State, exec .pwrPointDone s = .next t ∧ t.get F.PWR_POINT_ACT = s.get F.PWR_POINT_POINT % 4 := by
  refine ⟨_, congrArg Host.Outcome.next (if_pos h), (State.pointDone_act _ _ _ _ _ _).trans ?_⟩
  exact (State.get_put_other _ _ (by decide)).trans (State.get_put_same _ _ _)

/-- A state in which a pending point holds more than the two bits of its field. -/
def widePoint : State := { State.reset with regs := [(F.PWR_POINT_POINT.key, 7), (F.PWR_POINT_PEND.key, 1)] }

end Sys2Proof.Machine

namespace Sys2Proof
open Sys2Proof.Machine

/-- Refutes O33: in a state whose register of the pending point holds 7, more than its two bits, PWR_POINT_DONE puts 3 in
force, and not what the register reads. -/
theorem not_operatingPointPathAndDomains : ¬ Obligations.OperatingPointPathAndDomains := by
  unfold Obligations.OperatingPointPathAndDomains
  rintro ⟨-, hdone, -⟩
  have hpend : widePoint.on F.PWR_POINT_PEND = true := by decide
  obtain ⟨t, ht, hact, -⟩ := (hdone widePoint).2 hpend
  obtain ⟨u, hu, hbits⟩ := execPwrPointDone_act hpend
  obtain rfl : u = t := Host.Outcome.next.inj (hu.symm.trans ht)
  rw [hbits] at hact
  exact absurd hact (by decide)

end Sys2Proof

/-! PROOF. The event router (O45) and the burst permit (O36). -/

namespace Sys2Proof.Machine

/-- Elements that keep the fields keep them together. -/
theorem Same.foldl_mem {fs : List Fld} {β : Type} {f : State → β → State} {l : List β} (h : ∀ t, ∀ x ∈ l, Same fs t (f t x)) (t : State) :
    Same fs t (l.foldl f t) := by
  induction l generalizing t with
  | nil => exact .refl
  | cons x r ih => exact (h t x List.mem_cons_self).trans (ih (fun u y hy => h u y (List.mem_cons_of_mem x hy)) (f t x))

/-- An event of a producer that is not wired to the end of a grant leaves the harvester's registers. -/
theorem State.fire_harv {f : Fld} (hp : f.part = .rHarv) (s : State) {p : Nat} (hwired : (wired 42).contains p = false) :
    Same [f] s (s.fire p) := by
  have keep : ∀ {e : List Part} {t u : State}, Frame e t u → Part.sub [.rHarv] e = false → Same [f] t u := Same.of_part hp
  unfold State.fire
  refine Same.trans (keep State.watch_frame rfl) (Same.foldl_mem (fun t c hc => ?_) _)
  have hne : c ≠ 42 := by
    rintro rfl
    simp only [List.mem_filter, hwired, Bool.false_and] at hc
    exact absurd hc.2 (by decide)
  unfold State.reach
  refine .ite (keep State.overrun_frame rfl) ?_
  unfold State.consume
  rw [if_neg hne]
  exact .ite (keep State.dmaTrigger_frame rfl) (.ite (keep State.setEngine_frame rfl) (.ite (keep State.adcStart_frame rfl)
    (.ite (keep State.touchStart_frame rfl) (.ite (keep State.spiStart_frame rfl) (.ite (keep State.evrCapture_frame rfl)
    (.ite (keep State.wake_frame rfl) (.ite (keep State.startCapture_frame rfl) (.ite (keep State.outEvent_frame rfl)
    (.ite (keep State.captureRtc_frame rfl) (keep (State.count_frame (e := [.rEvr]) F.EVR_CNT_COUNT_part rfl) rfl))))))))))

/-- A producer with no enabled pair is only watched. -/
theorem State.fire_of_no_pair {s : State} {p : Nat} (h : ∀ c, c < 48 → s.pairOn p c = false) : s.fire p = s.watch p := by
  unfold State.fire
  rw [List.filter_eq_nil_iff.2 fun c hc => by simp [h c (List.mem_range.1 hc)]]
  rfl

/-- A software trigger of one bit fires its producer. -/
theorem State.swTrig_bit (s : State) (n : Fin 4) : s.swTrig (2 ^ n.val) = s.fire (56 + n) := by
  have hbits : ∀ m k : Fin 4, bitOf (2 ^ m.val) k = decide (m = k) := by decide
  have hlist : List.range 4 = [(0 : Fin 4).val, (1 : Fin 4).val, (2 : Fin 4).val, (3 : Fin 4).val] := rfl
  unfold State.swTrig
  rw [hlist]
  simp only [List.foldl_cons, List.foldl_nil, hbits, decide_eq_true_eq]
  match n with
  | 0 | 1 | 2 | 3 => rfl

/-- The class of a pulse within 30 microseconds of a whole hundred. -/
theorem pulseClass_of_near {us : Nat} (k : Fin 8) (h1 : (k.val + 1) * 100 ≤ us + 30) (h2 : us ≤ (k.val + 1) * 100 + 30) :
    pulseClass us = some k.val := by
  unfold pulseClass
  refine List.find?_range_eq_some.2 ⟨?_, List.mem_range.2 k.isLt, fun j hj => ?_⟩
  · simp [h1, h2]
  · have : 100 * j + 100 ≤ 100 * k.val := by omega
    have hno : ¬ us ≤ (j + 1) * 100 + 30 := by omega
    simp [hno]

theorem pulseClass_of_far {us : Nat} (h : ∀ k : Fin 8, us + 30 < (k.val + 1) * 100 ∨ (k.val + 1) * 100 + 30 < us) :
    pulseClass us = none := by
  refine List.find?_eq_none.2 fun k hk => ?_
  have := h ⟨k, List.mem_range.1 hk⟩
  simp only [Bool.and_eq_true, decide_eq_true_eq, not_and]
  dsimp only at this
  omega

theorem State.get_withHarv (s : State) (h : Harvester) (f : Fld) : State.get { s with harv := h } f = s.get f := rfl

section
variable (s : State)

/-- A measure of the store leaves the harvester's other registers. -/
theorem State.measureStore_same {f : Fld} (h1 : f.key ≠ F.HARV_STAT_VST.key) (h2 : f.key ≠ F.HARV_EST_E.key) (v : Nat) :
    Same [f] s (s.measureStore v) := (Same.of_put_key h1).trans (Same.of_put_key h2)

theorem State.measureStore_vst (v : BitVec 10) : (s.measureStore v.toNat).get F.HARV_STAT_VST = v.toNat :=
  (State.get_put_other _ _ (by decide)).trans ((State.get_put_same _ _ _).trans (Nat.mod_eq_of_lt v.isLt))

/-- Whether a class is granted depends on the band and the cell alone. -/
theorem State.grantable_congr {t : State} (hband : t.get F.HARV_STAT_BAND = s.get F.HARV_STAT_BAND)
    (hcell : t.get F.HARV_CELL_K = s.get F.HARV_CELL_K) (e v : Nat) : t.grantable e v = s.grantable e v := by
  unfold State.grantable
  rw [hband, hcell]

theorem State.grant_spec : s.grant.get F.HARV_PSTAT_GNT = 1 ∧ s.grant.get F.HARV_PSTAT_WAIT = 0 ∧
    ∀ f : Fld, f.part = .rHarv → f.key ≠ F.HARV_PSTAT_GNT.key → f.key ≠ F.HARV_PSTAT_WAIT.key → s.grant.get f = s.get f := by
  refine ⟨(State.fire_harv F.HARV_PSTAT_GNT_part _ rfl).get.trans (State.get_put_same _ _ _),
    (State.fire_harv F.HARV_PSTAT_WAIT_part _ rfl).get.trans ((State.get_put_other _ _ (by decide)).trans (State.get_put_same _ _ _)),
    fun f hp hg hw => (State.fire_harv hp _ rfl).get.trans ((State.get_put_other _ _ hg).trans (State.get_put_other _ _ hw))⟩

/-- The registers of a request as it is recorded: the measure and the class, with both verdicts cleared. -/
def State.recordRequest (v k : Nat) : State :=
  let s1 := (((s.measureStore v).put F.HARV_PSTAT_CLS k).put F.HARV_PSTAT_NEVER 0).put F.HARV_PSTAT_CUT 0
  { s1 with harv := { s1.harv with grantE := s.get (F.HARV_CLS_E k) * 10, ready := false } }

theorem State.recordRequest_regs (v k : Nat) (f : Fld) : (s.recordRequest v k).get f =
    ((((s.measureStore v).put F.HARV_PSTAT_CLS k).put F.HARV_PSTAT_NEVER 0).put F.HARV_PSTAT_CUT 0).get f := State.get_congr f rfl

theorem State.recordRequest_get {v : BitVec 10} {k : Nat} (hk : k < 8) :
    (s.recordRequest v.toNat k).get F.HARV_STAT_VST = v.toNat ∧ (s.recordRequest v.toNat k).get F.HARV_PSTAT_CLS = k := by
  rw [State.recordRequest_regs, State.recordRequest_regs, State.get_put_other _ _ (by decide), State.get_put_other _ _ (by decide),
    State.get_put_other _ _ (by decide), State.get_put_other _ _ (by decide), State.get_put_other _ _ (by decide), State.get_put_same]
  exact ⟨s.measureStore_vst v, Nat.mod_eq_of_lt hk⟩

theorem State.recordRequest_same {f : Fld} {v k : Nat} (h : f.key ∉ [F.HARV_STAT_VST.key, F.HARV_EST_E.key, F.HARV_PSTAT_CLS.key,
    F.HARV_PSTAT_NEVER.key, F.HARV_PSTAT_CUT.key]) : (s.recordRequest v k).get f = s.get f := by
  simp only [List.mem_cons, List.not_mem_nil, or_false, not_or] at h
  obtain ⟨h1, h2, h3, h4, h5⟩ := h
  rw [State.recordRequest_regs, State.get_put_other _ _ h5, State.get_put_other _ _ h4, State.get_put_other _ _ h3]
  exact (s.measureStore_same h1 h2 v).get

end

/-- A request of a class that is ready is recorded, and then refused for ever, granted or left waiting. -/
theorem execBpreqRequest_of_ready {s : State} {k : Nat} {v : BitVec 10} (hcls : s.harv.cls = some k) (hen : s.on F.HARV_PCFG_EN = true)
    (hready : s.harv.ready = true) (hreq : s.on F.HARV_PSTAT_REQ = false) :
    exec (.bpreqRequest v) s = .next
      (if s.get F.HARV_CELL_K * 4 * (if s.on F.HARV_PROT_OVP then 1000 else 900) < s.get (F.HARV_CLS_E k) * 10 then
        (((s.recordRequest v.toNat k).put F.HARV_PSTAT_NEVER 1).count F.HARV_PCNT_DENIED).raise Src.HARV_PERMIT k 0
      else if (s.recordRequest v.toNat k).grantable (s.get (F.HARV_CLS_E k) * 10) v.toNat then
        ((s.recordRequest v.toNat k).put F.HARV_PSTAT_REQ 1).grant
      else ((s.recordRequest v.toNat k).put F.HARV_PSTAT_REQ 1).put F.HARV_PSTAT_WAIT 1) := by
  show execBpreqRequest v s = _
  unfold execBpreqRequest
  simp only [hcls, hen, hready, hreq, Bool.not_true, Bool.or_self, Bool.false_eq_true, if_false]
  rfl

end Sys2Proof.Machine

namespace Sys2Proof
open Sys2Proof.Machine

/-- Settles O45: the events fork from `State.fire`. -/
theorem eventsReachTheirConsumers : Obligations.EventsReachTheirConsumers := by
  unfold Obligations.EventsReachTheirConsumers
  refine ⟨fun p s => ⟨rfl, fun h => congrArg Host.Outcome.next (State.fire_of_no_pair h)⟩, fun s => rfl, fun n s => ?sw, fun k s => ?read,
    fun s => ⟨fun h => congrArg Host.Outcome.next (if_pos h), fun h => congrArg Host.Outcome.next (if_neg (by simp [h]))⟩⟩
  case sw =>
    have hval : (BitVec.ofNat 4 (2 ^ n.val)).toNat = 2 ^ n.val := by revert n; decide
    exact congrArg Host.Outcome.next ((congrArg s.swTrig hval).trans (s.swTrig_bit n))
  case read =>
    refine ⟨_, rfl, rfl, ?_, ?_⟩
    · exact (State.bitOf_put_withBit (f := F.EVR_CAPSTAT_FULL) (by decide +revert)).trans (if_pos rfl)
    · exact State.get_put_other _ _ (by decide +revert)

/-- Settles O36: the registers of the permit are those of the request as it is recorded, and a grant's event does not reach the
end of a grant. -/
theorem permitsAreAskedAndGranted : Obligations.PermitsAreAskedAndGranted := by
  unfold Obligations.PermitsAreAskedAndGranted
  refine ⟨fun us s => ⟨fun k ⟨hen, hsrc, hreq⟩ h1 h2 => ?near, fun ⟨hen, hsrc, hreq⟩ h => ?far, fun h => ?shut⟩, fun b s => ?byte,
    fun s => ?gap, fun k v s hk hcls hen hready hreq => ?request, fun v s h => ?norequest, fun s => ?drop, fun s => ?timeout,
    fun v s => ?measure⟩
  case near =>
    have hrun : exec (.bpreqClassPulse us) s = .next { s with harv := { s.harv with cls := some k.val, ready := true } } := by
      show execBpreqClassPulse us s = _
      simp only [execBpreqClassPulse, hen, hsrc, hreq, pulseClass_of_near k h1 h2]
      rfl
    exact ⟨_, hrun, rfl, rfl⟩
  case far =>
    have hrun : exec (.bpreqClassPulse us) s = .next
        { s.count F.HARV_PCNT_BADREQ with harv := { (s.count F.HARV_PCNT_BADREQ).harv with cls := none, ready := true } } := by
      show execBpreqClassPulse us s = _
      simp only [execBpreqClassPulse, hen, hsrc, hreq, pulseClass_of_far h]
      rfl
    exact ⟨_, hrun, rfl, rfl⟩
  case shut =>
    refine congrArg Host.Outcome.next (if_pos ?_)
    revert h
    cases s.on F.HARV_PCFG_EN <;> cases s.on F.HARV_PCFG_SRC <;> cases s.on F.HARV_PSTAT_REQ <;> decide
  case byte =>
    refine ⟨fun hen hsrc => ⟨fun hb => ⟨{ s with harv := { s.harv with cls := some b.toNat } }, ?_, rfl⟩, fun hb => ?_⟩, fun h => ?_⟩
    · refine congrArg Host.Outcome.next ?_
      simp only [hen, hsrc, hb]
      rfl
    · refine congrArg Host.Outcome.next ?_
      simp only [hen, hsrc, Nat.not_lt.2 hb]
      rfl
    · refine congrArg Host.Outcome.next (if_pos ?_)
      rcases h with h | h <;> simp [h]
  case gap =>
    cases hsrc : s.on F.HARV_PCFG_SRC with
    | true => exact ⟨s, congrArg Host.Outcome.next (if_neg (by simp [hsrc])), fun h => absurd h (by decide), fun _ => rfl⟩
    | false =>
      cases hcls : s.harv.cls with
      | none => exact ⟨s, congrArg Host.Outcome.next (if_neg (by simp [hcls])), fun _ => hcls, fun h => absurd h (by decide)⟩
      | some k =>
        exact ⟨_, congrArg Host.Outcome.next (if_pos (by simp [hcls, hsrc])), fun _ => rfl, fun h => absurd h (by decide)⟩
  case request =>
    obtain ⟨hvst, hclass⟩ := s.recordRequest_get (v := v) hk
    have hgrantable := s.grantable_congr (t := s.recordRequest v.toNat k) (s.recordRequest_same (by decide)) (s.recordRequest_same (by decide))
    have hrun := execBpreqRequest_of_ready (v := v) hcls hen hready hreq
    intro e top
    by_cases htop : top < e
    · rw [if_pos htop] at hrun
      have hrep := State.raise_reports (((s.recordRequest v.toNat k).put F.HARV_PSTAT_NEVER 1).count F.HARV_PCNT_DENIED) Src.HARV_PERMIT k 0
      have hget : ∀ f : Fld, f.part = .rHarv → f.key ≠ F.HARV_PCNT_DENIED.key → _ = _ := fun f hp h =>
        (hrep.frame.get hp rfl).trans (State.get_put_other _ _ h)
      refine ⟨_, hrun, (hget _ F.HARV_STAT_VST_part (by decide)).trans ((State.get_put_other _ _ (by decide)).trans hvst),
        (hget _ F.HARV_PSTAT_CLS_part (by decide)).trans ((State.get_put_other _ _ (by decide)).trans hclass),
        fun _ => (hget _ F.HARV_PSTAT_NEVER_part (by decide)).trans (State.get_put_same _ _ _), fun h => absurd htop (Nat.not_lt.2 h),
        fun h => absurd htop (Nat.not_lt.2 h)⟩
    · rw [if_neg htop] at hrun
      cases hg : s.grantable e v.toNat with
      | true =>
        rw [if_pos ((hgrantable _ _).trans hg)] at hrun
        obtain ⟨hgnt, -, hrest⟩ := ((s.recordRequest v.toNat k).put F.HARV_PSTAT_REQ 1).grant_spec
        exact ⟨_, hrun, (hrest _ F.HARV_STAT_VST_part (by decide) (by decide)).trans ((State.get_put_other _ _ (by decide)).trans hvst),
          (hrest _ F.HARV_PSTAT_CLS_part (by decide) (by decide)).trans ((State.get_put_other _ _ (by decide)).trans hclass),
          fun h => absurd h htop, fun _ h => absurd h (by decide),
          fun _ _ => ⟨(hrest _ F.HARV_PSTAT_REQ_part (by decide) (by decide)).trans (State.get_put_same _ _ _), .inl hgnt⟩⟩
      | false =>
        rw [if_neg (by rw [hgrantable, hg]; decide)] at hrun
        exact ⟨_, hrun, ((Same.of_put_key (by decide)).trans (Same.of_put_key (by decide))).get.trans hvst,
          ((Same.of_put_key (by decide)).trans (Same.of_put_key (by decide))).get.trans hclass,
          fun h => absurd h htop, fun _ _ => ⟨(State.get_put_other _ _ (by decide)).trans (State.get_put_same _ _ _), State.get_put_same _ _ _⟩,
          fun _ h => absurd h (by decide)⟩
  case norequest =>
    refine congrArg Host.Outcome.next ?_
    cases hcls : s.harv.cls with
    | none => rfl
    | some k =>
      refine if_pos ?_
      rcases h with h | h | h | h
      · exact absurd (hcls.symm.trans h) (by simp)
      all_goals simp [h]
  case drop =>
    generalize hs1 : (if s.on F.HARV_PSTAT_WAIT then s.count F.HARV_PCNT_DENIED else s) = s1
    have hrun : exec .bpreqDrop s = .next { ((s1.put F.HARV_PSTAT_WAIT 0).put F.HARV_PSTAT_GNT 0).put F.HARV_PSTAT_REQ 0 with
        harv := { s1.harv with ready := true, cls := if s.on F.HARV_PCFG_SRC then s.harv.cls else none } } := by
      rw [← hs1]
      rfl
    have hget := State.get_withHarv (((s1.put F.HARV_PSTAT_WAIT 0).put F.HARV_PSTAT_GNT 0).put F.HARV_PSTAT_REQ 0)
    refine ⟨_, hrun, (hget _ _).trans (State.get_put_same _ _ _), (hget _ _).trans ?_, (hget _ _).trans ?_, rfl⟩
    · exact (State.get_put_other _ _ (by decide)).trans (State.get_put_same _ _ _)
    · exact (State.get_put_other _ _ (by decide)).trans ((State.get_put_other _ _ (by decide)).trans (State.get_put_same _ _ _))
  case timeout =>
    cases hg : s.on F.HARV_PSTAT_GNT with
    | true =>
      have hget := State.get_withHarv (((s.put F.HARV_PSTAT_GNT 0).put F.HARV_PSTAT_CUT 1).count F.HARV_PCNT_CUTS)
      refine ⟨_, congrArg Host.Outcome.next (if_pos hg), (hget _ _).trans ?_, fun _ => ⟨(hget _ _).trans ?_, rfl⟩⟩
      · exact (State.get_put_other _ _ (by decide)).trans ((State.get_put_other _ _ (by decide)).trans (State.get_put_same _ _ _))
      · exact (State.get_put_other _ _ (by decide)).trans (State.get_put_same _ _ _)
    | false =>
      exact ⟨s, congrArg Host.Outcome.next (if_neg (by simp [hg])), State.on_eq_false_iff.1 hg, fun h => absurd h (by decide)⟩
  case measure =>
    refine ⟨fun h => congrArg Host.Outcome.next (if_neg (by simp [h])), fun h => ?_⟩
    have hrun : exec (.storeMeasure v) s = .next (if (s.measureStore v.toNat).grantable s.harv.grantE v.toNat then
        (s.measureStore v.toNat).grant else s.measureStore v.toNat) := congrArg Host.Outcome.next (if_pos h)
    have hgrantable := s.grantable_congr (t := s.measureStore v.toNat) (s.measureStore_same (by decide) (by decide) _).get
      (s.measureStore_same (by decide) (by decide) _).get s.harv.grantE v.toNat
    have hwait : (s.measureStore v.toNat).on F.HARV_PSTAT_WAIT = true :=
      (State.on_congr (s.measureStore_same (by decide) (by decide) _).get).trans h
    cases hg : s.grantable s.harv.grantE v.toNat with
    | true =>
      rw [if_pos (hgrantable.trans hg)] at hrun
      obtain ⟨-, hw, hrest⟩ := (s.measureStore v.toNat).grant_spec
      exact ⟨_, hrun, (hrest _ F.HARV_STAT_VST_part (by decide) (by decide)).trans (s.measureStore_vst v), State.on_eq_false_iff.2 hw⟩
    | false =>
      rw [if_neg (by rw [hgrantable, hg]; decide)] at hrun
      exact ⟨_, hrun, s.measureStore_vst v, hwait⟩

end Sys2Proof

/-! PROOF. The pads (O55). -/

namespace Sys2Proof.Machine

/-- A wake source that is enabled is pending in sleep, and nothing but the power manager's own state changes. -/
theorem State.wake_latched {s : State} {code : Nat} (hsleep : s.power.depth ≠ 0) (h : 10 ≤ code ∨ bitOf (s.get F.PWR_WAKEEN_EN) code = true) :
    bitOf (s.wake code).power.latched code = true := by
  have hrun : s.wake code = { s with power := { s.power with latched := withBit s.power.latched code true } } := if_pos ⟨hsleep, h⟩
  rw [hrun]
  exact bitOf_withBit_same _ _ _

/-- The status bit of a pad that wakes, set. -/
def State.markWake (s : State) (p : Fin 48) : State :=
  if p.val < 32 then s.put F.GPIO_WAKESTAT0_WAKE (withBit (s.get F.GPIO_WAKESTAT0_WAKE) p true)
  else s.put F.GPIO_WAKESTAT1_WAKE (withBit (s.get F.GPIO_WAKESTAT1_WAKE) (p - 32) true)

theorem State.markWake_bit (s : State) (p : Fin 48) : (if p.val < 32 then bitOf ((s.markWake p).get F.GPIO_WAKESTAT0_WAKE) p
    else bitOf ((s.markWake p).get F.GPIO_WAKESTAT1_WAKE) (p - 32)) = true := by
  unfold State.markWake
  by_cases hp : p.val < 32
  · rw [if_pos hp, if_pos hp]
    exact (State.bitOf_put_withBit (f := F.GPIO_WAKESTAT0_WAKE) hp).trans (if_pos rfl)
  · have hlt : p.val - 32 < F.GPIO_WAKESTAT1_WAKE.w := by
      show p.val - 32 < 16
      omega
    rw [if_neg hp, if_neg hp]
    exact (State.bitOf_put_withBit hlt).trans (if_pos rfl)

theorem State.markWake_frame {s : State} {p : Fin 48} : Frame [.rGpio] s (s.markWake p) :=
  .ite (State.put_frame F.GPIO_WAKESTAT0_WAKE_part rfl) (State.put_frame F.GPIO_WAKESTAT1_WAKE_part rfl)

/-- An edge that is enabled to wake, on a powered pad that no test instruction holds. -/
theorem execGpioWakeEdge_wakes {p : Fin 48} {r : Bool} {s : State} (hsleep : s.power.depth ≠ 0) (hseen : s.pads.seen = none)
    (hbank : s.bankOn p = true) (hedge : edgeTaken (s.get (F.GPIO_PIN_WAKE p)) r = true) :
    exec (.gpioWakeEdge p r) s = .next (((s.outside p r).markWake p).wake 3) := by
  refine congrArg Host.Outcome.next (if_neg ?_)
  simp [hsleep, hseen, hbank, hedge]

end Sys2Proof.Machine

namespace Sys2Proof
open Sys2Proof.Machine

/-- Settles O55: an edge of a pad is an outside level, and besides it a wake or the events of the channels that watch it. -/
theorem padsChangeAndWake : Obligations.PadsChangeAndWake := by
  unfold Obligations.PadsChangeAndWake
  refine ⟨fun p r s => ⟨?pads, fun h => ?quiet, fun hsleep hseen hbank hedge => ?wakes⟩, fun p r s => ⟨fun h => ?none, fun k hseen hbank h => ?one⟩,
    fun side b v s hside => ⟨?set, ?clear⟩⟩
  case pads =>
    refine ⟨_, rfl, ?_⟩
    split
    · rfl
    · exact ((State.wake_frame (s := (s.outside p r).markWake p)).same .pads rfl : _ = _).trans (State.markWake_frame.same .pads rfl : _ = _)
  case quiet =>
    refine congrArg Host.Outcome.next (if_pos ?_)
    rcases h with h | h <;> simp [h]
  case wakes =>
    have hwake : Frame [.power] ((s.outside p r).markWake p) (((s.outside p r).markWake p).wake 3) := State.wake_frame
    refine ⟨_, execGpioWakeEdge_wakes hsleep hseen hbank hedge, ?_, fun hen => ?_⟩
    · rw [hwake.get F.GPIO_WAKESTAT0_WAKE_part rfl, hwake.get F.GPIO_WAKESTAT1_WAKE_part rfl]
      exact State.markWake_bit _ p
    · have hmark : Frame [.rGpio] (s.outside p r) ((s.outside p r).markWake p) := State.markWake_frame
      refine State.wake_latched ?_ (.inr ?_)
      · rw [(hmark.same .power rfl : _ = _)]
        exact hsleep
      · rw [hmark.get (of_decide_eq_true rfl : F.PWR_WAKEEN_EN.part = .rPwr) rfl]
        exact hen
  case none =>
    refine congrArg Host.Outcome.next ?_
    have hnil : ((List.range 16).filter fun k => s.get (F.GPIO_ECH_PIN k) == p.val && edgeTaken (s.get (F.GPIO_ECH_EDGE k)) r) = [] := by
      refine List.filter_eq_nil_iff.2 fun k hk => ?_
      rcases h ⟨k, List.mem_range.1 hk⟩ with h | h <;> simp [h]
    rw [hnil]
    exact ite_self _
  case one =>
    have hlist : ((List.range 16).filter fun j => s.get (F.GPIO_ECH_PIN j) == p.val && edgeTaken (s.get (F.GPIO_ECH_EDGE j)) r) = [k.val] := by
      have hsame : ((List.range 16).filter fun j => s.get (F.GPIO_ECH_PIN j) == p.val && edgeTaken (s.get (F.GPIO_ECH_EDGE j)) r) =
          (List.range 16).filter fun j => j == k.val := by
        refine List.filter_congr fun j hj => ?_
        have := h ⟨j, List.mem_range.1 hj⟩
        rw [Bool.eq_iff_iff]
        simpa [Fin.ext_iff] using this
      have hone : ∀ k : Fin 16, ((List.range 16).filter fun j => j == k.val) = [k.val] := by decide
      rw [hsame, hone k]
    refine congrArg Host.Outcome.next ((if_neg ?_).trans ?_)
    · simp [hseen, hbank]
    · rw [hlist]
      rfl
  case set =>
    refine congrArg Host.Outcome.next ?_
    unfold State.outAlias State.guard
    rw [if_neg (by simp [hside])]
    cases b <;> rfl
  case clear =>
    refine congrArg Host.Outcome.next ?_
    unfold State.outAlias State.guard
    rw [if_neg (by simp [hside])]
    cases b <;> rfl

end Sys2Proof

/-! PROOF. A source whose domain has no power (O44), and a count wider than its field (O50). -/

namespace Sys2Proof.Machine

/-- An event of a source whose domain has no power does nothing. -/
theorem execManifestSourceEvent_of_unpowered {n : Fin 192} {a b : Word} {s : State} {d : Nat} (hd : Src.domain n = some d)
    (hoff : s.powered d = false) : exec (.manifestSourceEvent n a b) s = .next s := by
  refine congrArg Host.Outcome.next (if_pos ?_)
  simp only [hd, hoff]
  exact Bool.or_true _

/-- A state in which the count of DMA channel 0 holds more than the sixteen bits of its field. -/
def wideCount : State := { State.reset with regs := [((F.DMA_CNT_CNT 0).key, 65536)] }

/-- A start keeps the sixteen bits of the count that is left. -/
theorem execDmaStart_left {s : State} {side : Side} {k : Fin 8} (h : opens s side .dma false = true) (hoff : s.on (F.DMA_CFG_EN k) = false) :
    ∃ t : State, exec (.dmaStart side k) s = .next t ∧ t.get (F.DMA_STAT_LEFT k) = s.get (F.DMA_CNT_CNT k) % 65536 := by
  obtain ⟨hreach, hside, -⟩ := opens_iff.1 h
  refine ⟨s.startDma k, congrArg Host.Outcome.next ?_, State.get_put_same _ _ _⟩
  rw [access_reaches hreach]
  unfold State.byOwner
  rw [if_neg (by simp [hside])]
  exact if_neg (by simp [hoff])

end Sys2Proof.Machine

namespace Sys2Proof
open Sys2Proof.Machine

/-- Refutes O44: after a reset, with the converter's domain off, an event of its source 128, which is not reserved, leaves no
PEND bit set. -/
theorem not_manifestsQueueMaskAndHand : ¬ Obligations.ManifestsQueueMaskAndHand := by
  unfold Obligations.ManifestsQueueMaskAndHand
  rintro ⟨hsource, -⟩
  obtain ⟨t, ht, hpend, -⟩ := (hsource 128 0 0 State.reset).2 (by decide)
  have hstays := execManifestSourceEvent_of_unpowered (n := 128) (a := 0) (b := 0) (s := State.reset) (d := 10) rfl (by decide)
  obtain rfl : State.reset = t := Host.Outcome.next.inj (hstays.symm.trans ht)
  exact absurd (hpend (by decide)).1 (by decide)

/-- Refutes O50: where the count's register holds 65536, more than its sixteen bits, the start leaves 0 units to go, and not what
the register reads. -/
theorem not_dmaMovesUnitByUnit : ¬ Obligations.DmaMovesUnitByUnit := by
  unfold Obligations.DmaMovesUnitByUnit
  rintro ⟨hstart, -⟩
  have hopens : opens wideCount (wideCount.owner .dma) .dma false = true := by decide
  have hoff : wideCount.on (F.DMA_CFG_EN (0 : Fin 8)) = false := by decide
  obtain ⟨t, ht, -, hleft, -⟩ := (hstart _ 0 wideCount hopens).2 hoff
  obtain ⟨u, hu, hbits⟩ := execDmaStart_left hopens hoff
  obtain rfl : u = t := Host.Outcome.next.inj (hu.symm.trans ht)
  rw [hbits] at hleft
  exact absurd hleft (by decide)

end Sys2Proof

/-! PROOF. A trim and a loop count wider than their fields (O37, O46). -/

namespace Sys2Proof.Machine

/-- A state in which the frequency-locked loop may run and HFO's trim holds more than the ten bits of its field. -/
def wideTrim : State :=
  let s := State.reset.puts [(F.CLK_CFG_FLL_EN, 1), (F.CLK_STAT_HFO, 2), (F.CLK_STAT_XTALL, 2)]
  { s with regs := Store.set resetOf s.regs F.CLK_HFO_TRIM.key 2000 }

/-- A trim down keeps the ten bits of its field. -/
theorem execFllCount_down {n : BitVec 24} {s : State} (hmay : s.fllMay = true) (hn : 125025 < 2 * n.toNat) :
    ∃ t : State, exec (.fllCount n) s = .next t ∧ t.get F.CLK_HFO_TRIM = (s.get F.CLK_HFO_TRIM - 1) % 1024 :=
  ⟨_, congrArg Host.Outcome.next ((if_pos hmay).trans (if_pos hn)), (State.get_put_other _ _ (by decide)).trans (State.get_put_same _ _ _)⟩

/-- A state in which lighter 0 stands at a LOOP and its loop counter holds more than the sixteen bits of its field. -/
def wideLoop : State :=
  let s := State.reset.puts [(F.PWR_DOMS_PG, 0x3FFF), (F.LGT_STAT_STATE 0, 1), (F.LGT_IMEM_WORD 0 0, 8 * 2 ^ 27)]
  { s with regs := Store.set resetOf s.regs (F.LGT_LC_LC 0).key 70000 }

/-- A LOOP that goes round keeps the sixteen bits of the count. -/
theorem execLgtLoop_round {n : Fin 8} {s : State} (h : AtLighterOp n 8 s) (hlc : s.get (F.LGT_LC_LC n) ≠ 0) :
    ∃ t : State, exec (.lgtLoop n) s = .next t ∧ t.get (F.LGT_LC_LC n) = (s.get (F.LGT_LC_LC n) - 1) % 65536 := by
  have hkey : ∀ k : Fin 8, (F.LGT_LC_LC k).key ≠ (F.LGT_STAT_PC k).key := by decide
  obtain ⟨hpow, hruns, hop, hlegal⟩ := h
  have hrun : exec (.lgtLoop n) s = .next
      ((s.put (F.LGT_LC_LC n) (s.get (F.LGT_LC_LC n) - 1)).put (F.LGT_STAT_PC n) (bitsOf (s.lgtWord n) 0 5)) :=
    congrArg Host.Outcome.next ((if_pos (by rw [hpow, hruns, hop, hlegal]; rfl)).trans (if_pos hlc))
  exact ⟨_, hrun, (State.get_put_other _ _ (hkey n)).trans (State.get_put_same _ _ _)⟩

end Sys2Proof.Machine

namespace Sys2Proof
open Sys2Proof.Machine

/-- Refutes O37: where HFO's trim reads 2000, more than its ten bits, a count that is too high leaves 975, and not 1999. -/
theorem not_clocksStartSwitchFailAndReturn : ¬ Obligations.ClocksStartSwitchFailAndReturn := by
  unfold Obligations.ClocksStartSwitchFailAndReturn
  rintro ⟨-, -, -, -, -, -, -, -, -, -, -, -, -, hfll, -⟩
  have hmay : wideTrim.fllMay = true := by decide
  have hhigh : 125025 < 2 * (100000 : BitVec 24).toNat := by decide
  obtain ⟨t, ht, -, hdown, -⟩ := (hfll 100000 wideTrim).1 hmay
  obtain ⟨u, hu, hbits⟩ := execFllCount_down hmay hhigh
  obtain rfl : u = t := Host.Outcome.next.inj (hu.symm.trans ht)
  exact absurd ((hdown hhigh).symm.trans hbits) (by decide)

/-- Refutes O46: where a loop counter reads 70000, more than its sixteen bits, a LOOP leaves 4463, and not 69999. -/
theorem not_lighterOperations : ¬ Obligations.LighterOperations := by
  unfold Obligations.LighterOperations
  rintro ⟨-, -, -, -, -, -, -, -, -, hloop, -⟩
  have hat : AtLighterOp (0 : Fin 8) 8 wideLoop := ⟨by decide, by decide, by decide, by decide⟩
  obtain ⟨t, ht, hcount, -⟩ := hloop 0 wideLoop hat
  obtain ⟨u, hu, hbits⟩ := execLgtLoop_round hat (by decide)
  obtain rfl : u = t := Host.Outcome.next.inj (hu.symm.trans ht)
  exact absurd (hcount.symm.trans hbits) (by decide)

end Sys2Proof

/-! PROOF. The converter (O51). -/

namespace Sys2Proof.Machine

section
variable {s t : State} (hget : ∀ g : Fld, g.key ≠ F.ADC_CFG_MODE.key → t.get g = s.get g)
include hget

theorem State.coreWeight_congr (a b c : Nat) {i : Nat} (hi : i < 16) : t.coreWeight a b c i = s.coreWeight a b c i := by
  have hact : ∀ i : Fin 16, (F.CLK_ISL_ACT i).key ≠ F.ADC_CFG_MODE.key := by decide
  have hpend : ∀ i : Fin 16, (F.CLK_ISL_PEND i).key ≠ F.ADC_CFG_MODE.key := by decide
  have hsel : ∀ i : Fin 16, (F.CLK_ISL_SEL i).key ≠ F.ADC_CFG_MODE.key := by decide
  unfold State.coreWeight State.bookedSources State.bookedPoints State.on
  rw [hget _ (hact ⟨i, hi⟩), hget _ (hpend ⟨i, hi⟩), hget _ (hsel ⟨i, hi⟩), hget _ (by decide), hget _ (by decide), hget _ (by decide)]

theorem State.receiverWeight_congr : t.receiverWeight = s.receiverWeight := by
  unfold State.receiverWeight State.powered State.on
  rw [hget _ (by decide), hget _ (by decide), hget _ (by decide), hget _ (by decide)]

/-- Of a converter that has a mode, ECONOMY weighs least. -/
theorem State.ledgerSum_economy (hpower : t.power = s.power) (hmode : s.get F.ADC_CFG_MODE ≠ 0) (heco : t.get F.ADC_CFG_MODE = 3) :
    t.ledgerSum ≤ s.ledgerSum := by
  have hlgt : ∀ n : Fin 8, (F.LGT_STAT_STATE n).key ≠ F.ADC_CFG_MODE.key := by decide
  have hon : ∀ g : Fld, g.key ≠ F.ADC_CFG_MODE.key → t.on g = s.on g := fun g h => State.on_congr (hget g h)
  have hdomains : t.powered = s.powered := funext fun d => congrArg (bitOf · d) (hget _ (by decide))
  have hcore := fun a b c i hi => State.coreWeight_congr hget a b c (i := i) hi
  have hlighters : ((List.range 8).filter fun n => t.get (F.LGT_STAT_STATE n) != 0) = (List.range 8).filter fun n => s.get (F.LGT_STAT_STATE n) != 0 :=
    List.filter_congr fun n hn => by rw [hget _ (hlgt ⟨n, List.mem_range.1 hn⟩)]
  have hconverter : (if s.powered 10 then (40 + if s.on F.ADC_REF_EN then 15 else 0) +
        if s.get F.TOUCH_CFG_MODE = 1 then 80 else if s.get F.TOUCH_CFG_MODE = 2 then 150 else 0 else 0) ≤
      if s.powered 10 then ((if s.get F.ADC_CFG_MODE = 3 then 40 else 250) + if s.on F.ADC_REF_EN then 15 else 0) +
        if s.get F.TOUCH_CFG_MODE = 1 then 80 else if s.get F.TOUCH_CFG_MODE = 2 then 150 else 0 else 0 := by
    have hleast : 40 ≤ if s.get F.ADC_CFG_MODE = 3 then 40 else 250 := by split <;> omega
    split
    · omega
    · exact Nat.le_refl 0
  unfold State.ledgerSum State.expert
  dsimp only
  rw [hlighters, hpower, hdomains, heco, State.receiverWeight_congr hget, hcore 1400 _ _ 0 (by decide), hcore 700 _ _ 1 (by decide),
    hcore 225 _ _ 2 (by decide), hget F.PWR_BIAS_BIAS (by decide), hget F.CLK_STAT_SYSPLL (by decide), hget F.TOUCH_CFG_MODE (by decide),
    hon _ (by decide), hon _ (by decide), hon F.ADC_REF_EN (by decide), hon _ (by decide), hon F.TP_CTRL_EN (by decide), if_neg hmode]
  exact Nat.add_le_add_right (Nat.add_le_add_right (Nat.add_le_add_right (Nat.add_le_add_left hconverter _) _) _) _

end

/-- A domain that has power needs nothing. -/
theorem State.needDomain_of_powered {s : State} {d : Nat} (h : s.powered d = true) : s.needDomain d = s := if_pos h

/-- The settings of the reference as it is set. -/
theorem refSettled_spec (s : State) (e on : Bool) :
    let t := refSettled s ((s.flag F.ADC_REF_SEL e).flag F.ADC_REF_EN on)
    t.on F.ADC_REF_SEL = e ∧ t.on F.ADC_REF_EN = on ∧ (on = false → t.get F.ADC_STAT_READY = 0) := by
  have hen : ((s.flag F.ADC_REF_SEL e).flag F.ADC_REF_EN on).on F.ADC_REF_EN = on := State.on_flag _ _ rfl
  have hsel : ((s.flag F.ADC_REF_SEL e).flag F.ADC_REF_EN on).on F.ADC_REF_SEL = e :=
    (State.on_congr (State.get_put_other _ _ (by decide))).trans (State.on_flag s e rfl)
  unfold refSettled
  generalize (s.flag F.ADC_REF_SEL e).flag F.ADC_REF_EN on = u at hen hsel
  intro t
  by_cases hc : (!u.on F.ADC_REF_EN || u.on F.ADC_REF_SEL != s.on F.ADC_REF_SEL) = true
  · have ht : t = u.put F.ADC_STAT_READY 0 := if_pos hc
    rw [ht]
    exact ⟨(State.on_congr (State.get_put_other _ _ (by decide))).trans hsel, (State.on_congr (State.get_put_other _ _ (by decide))).trans hen,
      fun _ => State.get_put_same _ _ _⟩
  · have ht : t = u := if_neg hc
    rw [ht]
    exact ⟨hsel, hen, fun h => absurd (by rw [hen, h]; rfl) hc⟩

/-- The state in which a single conversion of a channel is about to run. -/
def State.singleRun (s : State) (x : Sess) (ch : Nat) : State :=
  (s.put F.ADC_CFG_MODE 3).withAdc fun a => { a with
    run := some { mode := 3, align := false, pack := false, len := 1, seq := [ch] }
    frames := some 1
    pos := 0
    stop := false
    half := none
    refSeen := false
    read := some (x, s.console.tag, ch, s.get F.ADC_CFG_MODE) }

/-- A single conversion in place of a mode is within the ledger and the reserve. -/
theorem State.singleRun_affords {s : State} (x : Sess) (ch : Nat) (hmode : s.get F.ADC_CFG_MODE ≠ 0) : affords s (s.singleRun x ch) = true := by
  have hsum : (s.singleRun x ch).ledgerSum ≤ s.ledgerSum :=
    State.ledgerSum_economy (fun g h => State.get_put_other s 3 h) rfl hmode (State.get_put_same s F.ADC_CFG_MODE 3)
  unfold affords ledgerGrants State.reserveRefuses
  simp [hsum, Nat.not_lt.2 hsum]

theorem execAdcReadQuery_run {x : Sess} {ch : Fin 28} {s : State} (h : accepts s x { adcCmd with query := true } = true)
    (hpow : s.powered 10 = true) (hbusy : s.on F.ADC_STAT_BUSY = false) (hmode : s.get F.ADC_CFG_MODE ≠ 0) :
    exec (.adcReadQuery x ch) s = .next ((s.singleRun x ch).put F.ADC_STAT_BUSY 1) := by
  have hafford := s.singleRun_affords x ch hmode
  unfold affords at hafford
  rw [Bool.and_eq_true, Bool.not_eq_true'] at hafford
  obtain ⟨hledger, hreserve⟩ := hafford
  refine congrArg Host.Outcome.next ((run_accepts h _).trans ?_)
  dsimp only
  rw [State.needDomain_of_powered hpow, if_neg (by simp [hbusy])]
  refine (if_neg ?_).trans (if_neg ?_)
  · exact fun hno => absurd (hledger.symm.trans (Bool.not_eq_true' _ ▸ hno)) (by decide)
  · exact fun hno => absurd (hreserve.symm.trans hno) (by decide)

/-- A START of an idle converter leaves the run of its mode and channels. -/
theorem State.adcStart_run_of {s : State} (hidle : s.on F.ADC_STAT_BUSY = false) (hmode : s.get F.ADC_CFG_MODE ≠ 0)
    (hchannels : s.get F.ADC_CFG_MODE = 3 ∨ s.adcChannels.any (24 ≤ ·) = false) :
    s.adcStart.get F.ADC_STAT_BUSY = 1 ∧ s.adcStart.adc.run.map (fun r => (r.mode, r.seq)) = some (s.get F.ADC_CFG_MODE, s.adcChannels) := by
  have hgo : ¬(s.get F.ADC_CFG_MODE ≠ 3 ∧ s.adcChannels.any (24 ≤ ·) = true) := by
    rintro ⟨hne, hany⟩
    rcases hchannels with h | h
    · exact hne h
    · exact absurd (hany.symm.trans h) (by decide)
  unfold State.adcStart
  dsimp only
  rw [if_neg (by simpa only [hidle, Bool.false_or, beq_iff_eq] using hmode), if_neg hgo]
  exact ⟨State.get_put_same _ _ _, rfl⟩

/-! What a result and the end of a run leave of the FIFO. -/

/-- `t` has the FIFO of `s`. -/
def SameFifo (s t : State) : Prop := t.adc.fifo = s.adc.fifo

namespace SameFifo

variable {s t u : State}

theorem refl : SameFifo s s := rfl

theorem trans (h : SameFifo s t) (k : SameFifo t u) : SameFifo s u := Eq.trans k h

theorem of_frame {e : List Part} (h : Frame e s t) (hn : Part.sub [.adc] e = false) : SameFifo s t :=
  congrArg AdcState.fifo (h.same .adc hn : _ = _)

theorem ite {c : Prop} [Decidable c] {a b : State} (ha : SameFifo s a) (hb : SameFifo s b) : SameFifo s (if c then a else b) := by
  split
  · exact ha
  · exact hb

theorem foldl {β : Type} {f : State → β → State} (h : ∀ t x, SameFifo t (f t x)) (l : List β) (t : State) : SameFifo t (l.foldl f t) := by
  induction l generalizing t with
  | nil => rfl
  | cons x r ih => exact (h t x).trans (ih (f t x))

end SameFifo

/-- An event of the router may start a run and takes nothing from the FIFO. -/
theorem State.fire_fifo (s : State) (p : Nat) : SameFifo s (s.fire p) := by
  have hstart : ∀ t : State, SameFifo t t.adcStart := fun t => .ite rfl (.ite rfl rfl)
  unfold State.fire
  refine SameFifo.trans (.of_frame State.watch_frame rfl) (SameFifo.foldl (fun t c => ?_) _ _)
  unfold State.reach
  refine .ite (.of_frame State.overrun_frame rfl) ?_
  unfold State.consume
  exact .ite (.of_frame State.dmaTrigger_frame rfl) (.ite (.of_frame State.setEngine_frame rfl) (.ite (hstart t)
    (.ite (.of_frame State.touchStart_frame rfl) (.ite (.of_frame State.spiStart_frame rfl) (.ite (.of_frame State.evrCapture_frame rfl)
    (.ite (.of_frame State.wake_frame rfl) (.ite (.of_frame State.startCapture_frame rfl) (.ite (.of_frame State.outEvent_frame rfl)
    (.ite (.of_frame State.cutGrant_frame rfl) (.ite (.of_frame State.captureRtc_frame rfl) rfl))))))))))

/-- The step to the next place of a run takes nothing from the FIFO. -/
theorem State.adcNext_fifo (s : State) (r : AdcRun) : SameFifo s (s.adcNext r) := by
  have hend : ∀ t : State, SameFifo t t.adcEnd := fun t => by
    unfold State.adcEnd
    refine SameFifo.trans ?_ (State.fire_fifo _ 32)
    refine SameFifo.trans ?_ (.of_frame State.raise0_frame rfl)
    rfl
  unfold State.adcNext
  extract_lets whole pos left t
  have ht : SameFifo s t := rfl
  exact .ite (ht.trans (hend t)) ht

/-- A word enters a FIFO that has room, and no reading waits that did not before. -/
theorem State.adcPush_spec {s : State} (w : Nat) (hroom : s.adc.fifo.length < 16) :
    (s.adcPush w).adc.fifo = s.adc.fifo ++ [w] ∧ (s.adcPush w).adc.read = s.adc.read := by
  unfold State.adcPush
  dsimp only
  rw [if_neg (Nat.not_le.2 hroom)]
  split
  · have hraise : ∀ t : State, (t.raise0 Src.ADC_FIFO).adc = t.adc := fun t => State.raise0_frame.same .adc rfl
    rw [hraise]
    exact ⟨rfl, rfl⟩
  · exact ⟨rfl, rfl⟩

/-- A result of a run that is not packed, without a window, a settling reference or a reading that waits. -/
theorem execAdcResult_of_run {s : State} {r : AdcRun} (hrun : s.adc.run = some r) (hread : s.adc.read = none) (hpack : r.pack = false)
    (hready : s.on F.ADC_STAT_READY = true) (hwin : s.on F.ADC_WINCFG_EN = false) (hroom : s.adc.fifo.length < 16) (v : Int) :
    let ch := r.seq.getD (if r.mode = 1 then 0 else s.adc.pos) 0
    exec (.adcResult v) s = .next ((s.adcPush (resultBits r.align (holdCode ch v) + 2 ^ 16 * ch +
      2 ^ 21 * (if r.mode = 3 then 0 else s.adc.pos) + 2 ^ 23 * 0 + 2 ^ 24 * bit (!s.on F.ADC_STAT_CAL_OK) + 2 ^ 25 * 0)).adcNext r) := by
  intro ch
  refine congrArg Host.Outcome.next ?_
  have hstore : ∀ slice bits, s.adcStore r ch slice bits false =
      s.adcPush (bits + 2 ^ 16 * ch + 2 ^ 21 * slice + 2 ^ 23 * 0 + 2 ^ 24 * bit (!s.on F.ADC_STAT_CAL_OK) + 2 ^ 25 * 0) := fun slice bits => by
    unfold State.adcStore
    rw [if_neg (by simp [hread]), if_neg (by simp [hpack]), hready]
    rfl
  have hreply : ∀ w c, (s.adcPush w).adcReply c = s.adcPush w := fun w c => by
    have hnone := (s.adcPush_spec w hroom).2.trans hread
    unfold State.adcReply
    rw [hnone]
  simp only [hrun, hwin, hready, Bool.false_and, Bool.true_or, if_true]
  rw [hstore]
  simp only [Bool.false_eq_true, if_false]
  rw [hreply]

/-- Calibration of a run that is not in ECONOMY is valid. -/
theorem execAdcCalOk_of_run {s : State} {r : AdcRun} (hen : s.on F.ADC_CORR_EN = true) (hrun : s.adc.run = some r) (hmode : r.mode ≠ 3) :
    ∃ t : State, exec .adcCalOk s = .next t ∧ t.get F.ADC_STAT_CAL_OK = 1 := by
  have hcal : (s.put F.ADC_STAT_CAL_OK 1).get F.ADC_STAT_CAL_OK = 1 := State.get_put_same _ _ _
  have hputs : ∀ (t : State) (j a b c : Nat), Same [F.ADC_STAT_CAL_OK] t
      (t.puts [(F.ADC_COEF_OFS j, a), (F.ADC_COEF_GAIN j, b), (F.ADC_COEF_SKEW j, c)]) := fun t j a b c => by
    refine Same.of_puts fun f hf p hp => ?_
    rw [List.mem_singleton.1 hf]
    simp only [List.mem_cons, List.not_mem_nil, or_false] at hp
    rcases hp with rfl | rfl | rfl <;> (simp only [Fld.key, F.ADC_STAT_CAL_OK, F.ADC_COEF_OFS, F.ADC_COEF_GAIN, F.ADC_COEF_SKEW]; omega)
  have hfree : ∀ (t : State) (j : Nat), Same [F.ADC_STAT_CAL_OK] t ([F.ADC_COEF_OFS j, F.ADC_COEF_GAIN j, F.ADC_COEF_SKEW j].foldl
      (fun v f => v.spend.put f (Config.number v.free)) t) := fun t j => by
    refine Same.foldl_mem (fun v f hf => ?_) t
    refine Same.of_put (s := v.spend) fun g hg => ?_
    rw [List.mem_singleton.1 hg]
    simp only [List.mem_cons, List.not_mem_nil, or_false] at hf
    rcases hf with rfl | rfl | rfl <;> (simp only [Fld.key, F.ADC_STAT_CAL_OK, F.ADC_COEF_OFS, F.ADC_COEF_GAIN, F.ADC_COEF_SKEW]; omega)
  refine ⟨_, congrArg Host.Outcome.next (if_pos ?_), Eq.trans ?_ hcal⟩
  · simp [hen, hrun, hmode]
  · exact (Same.ite (.ite .refl (Same.foldl (fun t j => hputs t j _ _ _) _ _)) (Same.foldl hfree _ _)).get

end Sys2Proof.Machine

namespace Sys2Proof
open Sys2Proof.Machine

/-- Settles O51: the settings pass the ledger and the reserve, and a result goes through `State.adcPush` alone. -/
theorem converterRunsAndFillsItsFifo : Obligations.ConverterRunsAndFillsItsFifo := by
  unfold Obligations.ConverterRunsAndFillsItsFifo
  refine ⟨fun x m s h hpow hafford => ?mode, fun x e on s h hpow hafford => ⟨_, ?ref, refSettled_spec s e on⟩,
    fun x ch s h hpow => ⟨fun hbusy => ?busy, fun hbusy hmode => ⟨_, execAdcReadQuery_run h hpow hbusy hmode, State.get_put_same _ _ _, rfl⟩⟩,
    fun side s h => ⟨fun hidle hmode hch => ⟨_, ?start, State.adcStart_run_of hidle hmode hch⟩, fun hbusy => ?startBusy, fun hbusy => ?stop,
      fun hidle => ?noStop, ?flush⟩,
    fun v s h => congrArg Host.Outcome.next (by rw [h]),
    fun v r s hrun hread hpack hready hwin hroom => ⟨_, execAdcResult_of_run hrun hread hpack hready hwin hroom v, ?result⟩,
    fun side s hpow => ⟨fun hside => ?other, fun h r hside hfifo => ?pop⟩,
    fun s => ⟨fun hen hpow => congrArg Host.Outcome.next (if_pos (by rw [hen, hpow]; rfl)),
      fun hen => congrArg Host.Outcome.next (if_neg (by simp [hen])), fun hen => congrArg Host.Outcome.next (if_neg (by simp [hen]))⟩,
    fun r s hen hrun hmode => execAdcCalOk_of_run hen hrun hmode⟩
  case mode =>
    refine congrArg Host.Outcome.next ((run_accepts h _).trans ?_)
    dsimp only
    rw [State.needDomain_of_powered hpow]
    exact settle_affords hafford _ _ _
  case ref =>
    refine congrArg Host.Outcome.next ((run_accepts h _).trans ?_)
    dsimp only
    rw [State.needDomain_of_powered hpow]
    exact settle_affords hafford _ _ _
  case busy =>
    refine congrArg Host.Outcome.next ((run_accepts h _).trans ?_)
    dsimp only
    rw [State.needDomain_of_powered hpow]
    exact if_pos hbusy
  case start =>
    refine (execAdcStart_of_opens h).trans (congrArg Host.Outcome.next (if_neg ?_))
    simp [hidle]
  case startBusy => exact (execAdcStart_of_opens h).trans (congrArg Host.Outcome.next (if_pos hbusy))
  case stop =>
    refine ⟨s.withAdc fun a => { a with stop := true }, congrArg Host.Outcome.next ?_, rfl, rfl⟩
    rw [access_reaches (opens_iff.1 h).1, guard_opens h]
    exact if_pos hbusy
  case noStop =>
    refine congrArg Host.Outcome.next ?_
    rw [access_reaches (opens_iff.1 h).1, guard_opens h]
    exact if_neg (by simp [hidle])
  case flush =>
    refine ⟨s.adcFlush, congrArg Host.Outcome.next ?_, rfl, State.get_put_same _ _ _, rfl⟩
    rw [access_reaches (opens_iff.1 h).1, guard_opens h]
  case result =>
    exact Eq.trans (State.adcNext_fifo _ r) (State.adcPush_spec _ hroom).1
  case other =>
    refine congrArg Host.Outcome.next ?_
    rw [access_reaches (show reaches s .adc = true from hpow)]
    exact if_pos hside
  case pop =>
    refine ⟨{ (s.withAdc fun a => { a with fifo := r }).put F.ADC_STAT_LVL r.length with busData := BitVec.ofNat 32 h },
      congrArg Host.Outcome.next ?_, rfl, rfl⟩
    rw [access_reaches (show reaches s .adc = true from hpow)]
    unfold State.adcPop
    rw [if_neg (not_not_intro hside), hfifo]

end Sys2Proof

/-! PROOF. The I²C target and the SPI ports (O49). -/

namespace Sys2Proof.Machine

/-! The target. -/

@[simp] theorem State.modI2ct_i2ct (s : State) (f : I2ct → I2ct) : (s.modI2ct f).i2ct = f s.i2ct := rfl

theorem State.raise0_i2ct (s : State) (n : Nat) : (s.raise0 n).i2ct = s.i2ct := State.raise0_frame.same .i2ct rfl

/-- An address that is served, while awake, makes the target busy. -/
theorem execI2ctAddressMatch_of_served {a : BitVec 7} {rd : Bool} {s : State} {v : I2cServe} {n : Nat} (h : s.i2cServes a.toNat = some (v, n))
    (hawake : s.power.depth = 0) : ∃ t : State, exec (.i2ctAddressMatch a rd) s = .next t ∧ t.i2ct.serve = some v ∧
      t.get F.I2CT_STAT_BUSY = 1 ∧ t.on F.I2CT_STAT_RW = rd := by
  generalize hu : (((s.fire 45).wake 7).modI2ct fun p => { p with serve := some v, aidx := n, first := true }).puts
    [(F.I2CT_STAT_BUSY, 1), (F.I2CT_STAT_RW, bit rd)] = u
  have hserve : u.i2ct.serve = some v := by rw [← hu]; rfl
  have hbusy : u.get F.I2CT_STAT_BUSY = 1 := by
    rw [← hu]
    exact (State.get_put_other _ _ (by decide)).trans (State.get_put_same _ _ _)
  have hrw : u.get F.I2CT_STAT_RW = bit rd := by
    rw [← hu]
    refine (State.get_put_same _ _ _).trans ?_
    cases rd <;> rfl
  have hraise : ∀ w2 w3 l, Frame _ u (u.raiseK Src.I2CT_ADDR w2 w3 l) := fun w2 w3 l => State.raiseK_frame
  refine ⟨u.raiseK Src.I2CT_ADDR (n + 2 * bit rd) 0 [("INDEX", Text.dec n), ("RW", Text.dec (bit rd))], congrArg Host.Outcome.next ?_, ?_, ?_, ?_⟩
  · rw [h, ← hu]
    exact if_neg fun hasleep => hasleep.1 hawake
  · exact (congrArg I2ct.serve ((hraise _ _ _).same .i2ct rfl : _ = _)).trans hserve
  · exact ((hraise _ _ _).get F.I2CT_STAT_BUSY_part rfl).trans hbusy
  · refine (State.on_congr ((hraise _ _ _).get F.I2CT_STAT_RW_part rfl)).trans ?_
    unfold State.on
    rw [hrw]
    cases rd <;> rfl

/-- A byte that the host reads leaves the FIFO. -/
theorem execI2ctByteSent_of_fifo {s : State} {h : Nat} {r : List Nat} (hrw : s.on F.I2CT_STAT_RW = true) (hserve : s.i2ct.serve = some .fifo)
    (htx : s.i2ct.tx = h :: r) : ∃ t : State, exec .i2ctByteSent s = .next t ∧ t.busData = BitVec.ofNat 32 h ∧ t.i2ct.tx = r := by
  have hrun : exec .i2ctByteSent s = .next (if r.isEmpty then
      ({ s.modI2ct fun p => { p with tx := r } with busData := BitVec.ofNat 32 h } : State).raise0 Src.I2CT_TX
      else { s.modI2ct fun p => { p with tx := r } with busData := BitVec.ofNat 32 h }) := by
    refine congrArg Host.Outcome.next ?_
    rw [if_neg (by simp [hrw]), hserve]
    dsimp only
    rw [htx]
  refine ⟨_, hrun, ?_⟩
  split
  · exact ⟨(State.raise0_frame.same .busData rfl : _ = _), congrArg I2ct.tx (State.raise0_i2ct _ _)⟩
  · exact ⟨rfl, rfl⟩

/-! The ports. -/

theorem State.modSpi_spi (s : State) (k : Nat) (f : Spi → Spi) : (s.modSpi k f).spi k = f (s.spi k) := State.spi_setSpi_same s k _

/-- A change of a port leaves the fields above its levels. -/
theorem State.modSpi_same {g : Fld} (hg : 8 ≤ g.key % 32) (s : State) (k : Nat) (f : Spi → Spi) : Same [g] s (s.modSpi k f) := by
  refine Same.of_puts (s := s.setSpi k (f (s.spi k))) fun x hx c hc => ?_
  rw [List.mem_singleton.1 hx]
  have hrx : (F.SPI_STAT_RXLVL k).key % 32 = 0 := by simp only [Fld.key, F.SPI_STAT_RXLVL]; omega
  have htx : (F.SPI_STAT_TXLVL k).key % 32 = 4 := by simp only [Fld.key, F.SPI_STAT_TXLVL]; omega
  simp only [List.mem_cons, List.not_mem_nil, or_false] at hc
  intro hkey
  rcases hc with rfl | rfl
  · rw [hkey, hrx] at hg
    omega
  · rw [hkey, htx] at hg
    omega

theorem State.busy_lo (k : Nat) : (F.SPI_STAT_BUSY k).key % 32 = 8 := by simp only [Fld.key, F.SPI_STAT_BUSY]; omega

theorem State.put_busy_same {g : Fld} (hg : 9 ≤ g.key % 32) (s : State) (k v : Nat) : Same [g] s (s.put (F.SPI_STAT_BUSY k) v) :=
  Same.of_put_key fun hkey => by
    rw [hkey, State.busy_lo] at hg
    omega

/-- An event of the router may start a transfer and leaves the ports' flags. -/
theorem State.fire_flags {g : Fld} (hp : g.part = .rSpi) (hg : 9 ≤ g.key % 32) (s : State) (p : Nat) : Same [g] s (s.fire p) := by
  have keep : ∀ {e : List Part} {t u : State}, Frame e t u → Part.sub [.rSpi] e = false → Same [g] t u := Same.of_part hp
  have hstart : ∀ (t : State) (k : Nat), Same [g] t (t.spiStart k) := fun t k =>
    .ite (State.put_busy_same hg (t.setSpi k { t.spi k with left := t.get (F.SPI_CTRL_COUNT k), abort := false }) k 1) .refl
  unfold State.fire
  refine Same.trans (keep State.watch_frame rfl) (Same.foldl (fun t c => ?_) _ _)
  unfold State.reach
  refine .ite (keep State.overrun_frame rfl) ?_
  unfold State.consume
  exact .ite (keep State.dmaTrigger_frame rfl) (.ite (keep State.setEngine_frame rfl) (.ite (keep State.adcStart_frame rfl)
    (.ite (keep State.touchStart_frame rfl) (.ite (hstart t _) (.ite (keep State.evrCapture_frame rfl)
    (.ite (keep State.wake_frame rfl) (.ite (keep State.startCapture_frame rfl) (.ite (keep State.outEvent_frame rfl)
    (.ite (keep State.cutGrant_frame rfl) (.ite (keep State.captureRtc_frame rfl)
      (keep (State.count_frame (e := [.rEvr]) F.EVR_CNT_COUNT_part rfl) rfl)))))))))))

/-- The end of a transfer leaves the ports' flags. -/
theorem State.spiEnd_same {g : Fld} (hp : g.part = .rSpi) (hg : 9 ≤ g.key % 32) (s : State) (k : Nat) : Same [g] s (s.spiEnd k) := by
  unfold State.spiEnd
  refine Same.trans ?_ (State.fire_flags hp hg _ _)
  refine Same.trans ?_ (.of_part hp State.raise0_frame rfl)
  exact (State.modSpi_same (by omega) s k _).trans (State.put_busy_same hg _ k 0)

/-- The frame of a host that goes on. -/
theorem State.hostFrame_of_going {s : State} {k : Nat} {h : Nat} {r : List Nat} (v : Nat) (hbusy : s.on (F.SPI_STAT_BUSY k) = true)
    (htx : (s.spi k).tx = h :: r) (hrx : (s.spi k).rx.length < 8) (hleft : 1 < (s.spi k).left) (habort : (s.spi k).abort = false) :
    s.hostFrame k v = { s.modSpi k fun q => { q with tx := q.tx.drop 1, rx := q.rx ++ [s.lineOrder k v], left := q.left - 1 } with
      busData := BitVec.ofNat 32 (s.lineOrder k h) } := by
  have hstalls : s.spiStalls k = false := by
    unfold State.spiStalls
    simp [htx, hrx]
  unfold State.hostFrame
  rw [if_neg (by simp [hbusy, hstalls])]
  dsimp only
  rw [if_neg (by simp [habort]; omega), htx]
  rfl

/-- What a target sends from its FIFO, or all ones where it is empty. -/
def State.targetSends (s : State) (k : Nat) : State :=
  match (s.spi k).tx with
  | [] => { ((s.put (F.SPI_STAT_BUSY k) 1).put (F.SPI_STAT_UDR k) 1).raise0 (spiErr k) with busData := BitVec.ofNat 32 (s.frameMax k) }
  | h :: r => { (s.put (F.SPI_STAT_BUSY k) 1).modSpi k fun q => { q with tx := r } with busData := BitVec.ofNat 32 (s.lineOrder k h) }

theorem State.targetSends_spec (s : State) (k : Fin 2) : (s.targetSends k).get (F.SPI_STAT_BUSY k) = 1 ∧
    ((s.spi k).tx = [] → (s.targetSends k).get (F.SPI_STAT_UDR k) = 1) ∧ ((s.targetSends k).spi k).rx = (s.spi k).rx := by
  have hbusy : (s.put (F.SPI_STAT_BUSY k) 1).get (F.SPI_STAT_BUSY k) = 1 := State.get_put_same _ _ _
  have hkey : ∀ k : Fin 2, (F.SPI_STAT_BUSY k).key ≠ (F.SPI_STAT_UDR k).key := by decide
  unfold State.targetSends
  cases htx : (s.spi k).tx with
  | nil =>
    have hraise : ∀ t : State, Frame _ t (t.raise0 (spiErr k)) := fun t => State.raise0_frame
    refine ⟨((hraise _).get F.SPI_STAT_BUSY_part rfl).trans ((State.get_put_other _ _ (hkey k)).trans hbusy),
      fun _ => ((hraise _).get F.SPI_STAT_UDR_part rfl).trans (State.get_put_same _ _ _), ?_⟩
    have hspis : (((s.put (F.SPI_STAT_BUSY k) 1).put (F.SPI_STAT_UDR k) 1).raise0 (spiErr k)).spis = s.spis := ((hraise _).same .spis rfl : _ = _)
    exact congrArg (fun l => (Store.get (fun _ => Spi.reset) l k).rx) hspis
  | cons h r =>
    refine ⟨(State.modSpi_same (Nat.le_of_eq (State.busy_lo k).symm) _ k (fun q => { q with tx := r })).get.trans hbusy, fun hno => absurd hno (by simp), ?_⟩
    exact (congrArg Spi.rx (State.modSpi_spi (s.put (F.SPI_STAT_BUSY k) 1) k fun q => { q with tx := r }) :)

/-- A frame of a target, as far as the FIFO that receives has room. -/
theorem State.targetFrame_eq (s : State) (k v : Nat) : s.targetFrame k v = if 8 ≤ (s.spi k).rx.length then
    ((s.targetSends k).put (F.SPI_STAT_OVR k) 1).raise0 (spiErr k)
    else (s.targetSends k).modSpi k fun q => { q with rx := q.rx ++ [s.lineOrder k v] } := rfl

end Sys2Proof.Machine

namespace Sys2Proof
open Sys2Proof.Machine

/-- Settles O49: bytes and frames go through the FIFOs alone, and an event of the router leaves the ports' flags. -/
theorem targetServesAndSpiExchanges : Obligations.TargetServesAndSpiExchanges := by
  unfold Obligations.TargetServesAndSpiExchanges
  have opened := fun {s side b} (h : opens s side b false = true) (ofs m : Nat) (write : Bool) (act : State → State) =>
    (access_reaches (opens_iff.1 h).1 ofs m write fun t => t.guard b ofs side false act).trans (guard_opens h ofs act)
  refine ⟨fun a rd s => ⟨fun h => congrArg Host.Outcome.next (by rw [h]), fun v n h hawake => execI2ctAddressMatch_of_served h hawake⟩,
    fun b s hrw hserve => ⟨fun hroom => ?received, fun hfull => ⟨?stretched, ?timeout⟩⟩,
    fun h r s hrw hserve htx => ⟨execI2ctByteSent_of_fifo hrw hserve htx, ?noTimeout⟩, fun s h => ?stop,
    fun side b s h => ⟨fun hrx => ?emptyRead, fun a r hrx => ?read, fun hroom => ?write⟩,
    fun side k s h hhost => ⟨fun hen hidle => ?start, fun hbusy hstalls => ?abort, fun hbusy hgoes => ?abortLater⟩,
    fun k v h r s hen hpow hhost hbusy htx hrx hleft habort => ?host, fun k v s hen hpow hhost => ?target,
    fun k s hen hpow hhost => ⟨?cut, fun hidle => ?whole⟩, fun side k v s h => ⟨fun a r hrx => ?spiRead, fun hrx => ?spiEmpty, fun hroom => ?spiWrite⟩⟩
  case received =>
    have hrun : exec (.i2ctByteReceived b) s = .next ((s.modI2ct fun p =>
        { p with rx := p.rx ++ [b.toNat + 256 * bit s.i2ct.first + 512 * s.i2ct.aidx], first := false }).raise0 Src.I2CT_RX) := by
      refine congrArg Host.Outcome.next ?_
      rw [if_neg (by simp [hrw]), hserve]
      exact if_neg (Nat.not_le.2 hroom)
    exact ⟨_, hrun, congrArg I2ct.rx (State.raise0_i2ct _ _), congrArg I2ct.first (State.raise0_i2ct _ _)⟩
  case stretched =>
    refine congrArg Host.Outcome.next ?_
    rw [if_neg (by simp [hrw]), hserve]
    exact if_pos hfull
  case timeout =>
    refine ⟨_, congrArg Host.Outcome.next (if_pos ⟨hserve, by simp [hrw, hfull]⟩), ?_⟩
    have hraise : ((s.put F.I2CT_STAT_TMO 1).raise0 Src.I2CT_ERR).get F.I2CT_STAT_TMO = _ := State.raise0_frame.get F.I2CT_STAT_TMO_part rfl
    exact hraise.trans (State.get_put_same _ _ _)
  case noTimeout => exact congrArg Host.Outcome.next (if_neg (by simp [hrw, htx]))
  case stop =>
    refine ⟨_, congrArg Host.Outcome.next (if_pos h), congrArg I2ct.serve (State.raise0_i2ct _ _), ?_, ?_⟩
    · exact (State.raise0_frame.get F.I2CT_STAT_BUSY_part rfl).trans ((State.get_put_other _ _ (by decide)).trans (State.get_put_same _ _ _))
    · exact (State.raise0_frame.get F.I2CT_STAT_RW_part rfl).trans (State.get_put_same _ _ _)
  case emptyRead =>
    refine congrArg Host.Outcome.next ?_
    rw [access_reaches (opens_iff.1 h).1]
    unfold State.i2cRead
    rw [hrx]
  case read =>
    refine ⟨{ s.modI2ct fun p => { p with rx := r } with busData := BitVec.ofNat 32 a }, congrArg Host.Outcome.next ?_, rfl, rfl⟩
    rw [access_reaches (opens_iff.1 h).1]
    unfold State.i2cRead
    rw [hrx]
    dsimp only
    rw [if_pos (opens_iff.1 h).2.1]
  case write =>
    refine ⟨s.modI2ct fun p => { p with tx := p.tx ++ [b.toNat % 256] }, congrArg Host.Outcome.next ?_, ?_⟩
    · exact (opened h _ _ _ _).trans (if_neg (Nat.not_le.2 hroom))
    · exact congrArg (fun n => s.i2ct.tx ++ [n]) (Nat.mod_eq_of_lt b.isLt)
  case start =>
    refine ⟨(s.setSpi k { s.spi k with left := s.get (F.SPI_CTRL_COUNT k), abort := false }).put (F.SPI_STAT_BUSY k) 1,
      congrArg Host.Outcome.next ?_, State.get_put_same _ _ _, congrArg Spi.left (State.spi_setSpi_same s k _)⟩
    exact (opened h _ _ _ _).trans (if_pos (by rw [hen, hhost, hidle]; rfl))
  case abort =>
    refine congrArg Host.Outcome.next ((opened h _ _ _ _).trans ?_)
    exact (if_neg (by simp [hhost, hbusy])).trans (if_pos hstalls)
  case abortLater =>
    have hspi := State.modSpi_spi s k fun p => { p with abort := true }
    refine ⟨s.modSpi k fun p => { p with abort := true }, congrArg Host.Outcome.next ((opened h _ _ _ _).trans ?_),
      congrArg Spi.abort hspi, (congrArg Spi.left hspi :)⟩
    exact (if_neg (by simp [hhost, hbusy])).trans (if_neg (by simp [hgoes]))
  case host =>
    have hspi := State.modSpi_spi s k fun q => { q with tx := q.tx.drop 1, rx := q.rx ++ [s.lineOrder k v.toNat], left := q.left - 1 }
    refine ⟨_, congrArg Host.Outcome.next ((if_neg (by simp [hen, hpow])).trans ((if_pos hhost).trans
      (State.hostFrame_of_going v.toNat hbusy htx hrx hleft habort))), rfl, ?_, congrArg Spi.rx hspi, congrArg Spi.left hspi⟩
    refine (congrArg Spi.tx hspi).trans ?_
    rw [htx]
    rfl
  case target =>
    have hkeys : ∀ k : Fin 2, (F.SPI_STAT_BUSY k).key ≠ (F.SPI_STAT_OVR k).key ∧ (F.SPI_STAT_UDR k).key ≠ (F.SPI_STAT_OVR k).key ∧
        8 ≤ (F.SPI_STAT_BUSY k).key % 32 ∧ 8 ≤ (F.SPI_STAT_UDR k).key % 32 := by decide
    obtain ⟨hovr, hudrOvr, hlo, hudrLo⟩ := hkeys k
    obtain ⟨hbusy, hudr, hrx⟩ := s.targetSends_spec k
    refine ⟨_, congrArg Host.Outcome.next ((if_neg (by simp [hen, hpow])).trans ((if_neg (by simp [hhost])).trans (State.targetFrame_eq s k _))), ?_⟩
    by_cases hfull : 8 ≤ (s.spi k).rx.length
    · rw [if_pos hfull]
      have hraise : ∀ t : State, Frame _ t (t.raise0 (spiErr k)) := fun t => State.raise0_frame
      exact ⟨((hraise _).get F.SPI_STAT_BUSY_part rfl).trans ((State.get_put_other _ _ hovr).trans hbusy),
        fun _ => ((hraise _).get F.SPI_STAT_OVR_part rfl).trans (State.get_put_same _ _ _),
        fun htx => ((hraise _).get F.SPI_STAT_UDR_part rfl).trans ((State.get_put_other _ _ hudrOvr).trans (hudr htx)),
        fun hroom => absurd hroom (Nat.not_lt.2 hfull)⟩
    · rw [if_neg hfull]
      refine ⟨(State.modSpi_same hlo _ _ _).get.trans hbusy, fun hno => absurd hno hfull,
        fun htx => (State.modSpi_same hudrLo _ _ _).get.trans (hudr htx), fun _ => ?_⟩
      exact (congrArg Spi.rx (State.modSpi_spi _ k _)).trans (congrArg (· ++ [s.lineOrder k v.toNat]) hrx)
  case cut =>
    have hlo : ∀ k : Fin 2, 9 ≤ (F.SPI_STAT_CSABORT k).key % 32 := by decide
    refine ⟨_, congrArg Host.Outcome.next (if_pos (by simp [hen, hpow, hhost])), ?_⟩
    refine (State.spiEnd_same F.SPI_STAT_CSABORT_part (hlo k) _ k).get.trans ?_
    exact (State.raise0_frame.get F.SPI_STAT_CSABORT_part rfl).trans (State.get_put_same _ _ _)
  case whole => exact congrArg Host.Outcome.next (if_neg (by simp [hidle]))
  case spiRead =>
    refine ⟨{ s.modSpi k fun p => { p with rx := r } with busData := BitVec.ofNat 32 a }, congrArg Host.Outcome.next ?_, rfl,
      congrArg Spi.rx (State.modSpi_spi s k fun p => { p with rx := r })⟩
    rw [access_reaches (opens_iff.1 h).1]
    unfold State.spiRead
    rw [hrx]
    dsimp only
    rw [if_pos (opens_iff.1 h).2.1]
  case spiEmpty =>
    refine ⟨{ s.spend with busData := BitVec.ofNat 32 (Config.number s.free) }, congrArg Host.Outcome.next ?_, rfl, rfl⟩
    rw [access_reaches (opens_iff.1 h).1]
    unfold State.spiRead
    rw [hrx]
  case spiWrite =>
    refine ⟨s.modSpi k fun p => { p with tx := p.tx ++ [v.toNat &&& s.frameMax k] }, congrArg Host.Outcome.next ?_,
      congrArg Spi.tx (State.modSpi_spi s k _)⟩
    exact (opened h _ _ _ _).trans (if_neg (Nat.not_le.2 hroom))

end Sys2Proof

/-! PROOF. The UARTs (O48). -/

namespace Sys2Proof.Machine

/-! A port and its levels. -/

theorem State.uart_modUart (s : State) (u : Nat) (f : Uart → Uart) : (s.modUart u f).uart u = f (s.uart u) := Store.get_set_same _ _ _ _

theorem State.uart_congr {s t : State} (h : t.uarts = s.uarts) (u : Nat) : t.uart u = s.uart u := congrArg (fun m => Store.get (fun _ => Uart.reset) m u) h

theorem State.raise0_uart (s : State) (n u : Nat) : (s.raise0 n).uart u = s.uart u := State.uart_congr (State.raise0_frame.same .uarts rfl : _ = _) u

/-- The levels alone of a port's registers follow a change of it. -/
theorem State.get_modUart (s : State) (u : Nat) (f : Uart → Uart) {g : Fld} (h : g.key ≠ (F.UART_STAT_RXLVL u).key ∧ g.key ≠ (F.UART_STAT_TXLVL u).key) :
    (s.modUart u f).get g = s.get g := (State.get_put_other _ _ h.2).trans (State.get_put_other _ _ h.1)

theorem reaches_uart {s : State} (hpow : s.powered 8 = true) (u : Fin 3) : reaches s (uartBlock u) = true := by
  match u with
  | 0 | 1 | 2 => exact hpow

theorem State.consolePort_modUart (s : State) (u : Nat) (f : Uart → Uart) (v : Nat) : (s.modUart u f).consolePort v = s.consolePort v := by
  have hget : (s.modUart u f).get (F.OWNLVL_OWNER .uart1) = s.get (F.OWNLVL_OWNER .uart1) := by
    refine State.get_modUart s u f ⟨?_, ?_⟩
    · simp only [Fld.key, F.OWNLVL_OWNER, F.UART_STAT_RXLVL, Block.base]; omega
    · simp only [Fld.key, F.OWNLVL_OWNER, F.UART_STAT_TXLVL, Block.base]; omega
  unfold State.consolePort State.owner
  rw [State.on_congr hget]

theorem State.stampLine_uart (s : State) (u at_ : Nat) (tx : Bool) : ((s.stampLine u at_ tx).uart u).rx = (s.uart u).rx ∧
    ((s.stampLine u at_ tx).uart u).tx = (s.uart u).tx := by
  cases tx with
  | true =>
    have h := State.uart_modUart s u fun p => { p with txFrac := at_ % 2 ^ 56 / 2 ^ 24 }
    exact ⟨(congrArg Uart.rx h :), (congrArg Uart.tx h :)⟩
  | false =>
    have h := State.uart_modUart s u fun p => { p with rxFrac := at_ % 2 ^ 56 / 2 ^ 24 }
    exact ⟨(congrArg Uart.rx h :), (congrArg Uart.tx h :)⟩

/-! A receiver. -/

/-- The sixteen ticks of a data bit. -/
theorem Receiver.run_bit {k : Nat} (h1 : 1 ≤ k) (h8 : k ≤ 8) (high b : Bool) (p7 p8 : Bool) (bits l : List Bool) :
    Receiver.run ⟨8, 0, 1⟩ ⟨high, some k, 0, p7, p8, bits, false⟩ (List.replicate 16 b ++ l) =
      Receiver.run ⟨8, 0, 1⟩ ⟨b, some (k + 1), 0, b, b, bits ++ [b], false⟩ l := by
  have hlast : k ≠ 9 := by omega
  have hfirst : k ≠ 0 := by omega
  cases high <;> cases b <;>
    simp [List.replicate, Receiver.run, Receiver.tick, Receiver.resync, FrameForm.stop, majority, hlast, hfirst]

/-- The sixteen ticks of a start bit. -/
theorem Receiver.run_start (l : List Bool) : Receiver.run ⟨8, 0, 1⟩ ⟨true, none, 0, true, true, [], false⟩ (List.replicate 16 false ++ l) =
    Receiver.run ⟨8, 0, 1⟩ ⟨false, some 1, 0, false, false, [false], false⟩ l := rfl

/-- The ten ticks that decide a stop bit. -/
theorem Receiver.run_stop (high p7 p8 : Bool) (bits : List Bool) :
    Receiver.run ⟨8, 0, 1⟩ ⟨high, some 9, 0, p7, p8, bits, false⟩ (List.replicate 10 true) = .inr ⟨bits ++ [true], false, false, true⟩ := by
  cases high <;> rfl

/-- Eight clean bits between a start and a stop. -/
theorem Receiver.run_frame (b0 b1 b2 b3 b4 b5 b6 b7 : Bool) : Receiver.run ⟨8, 0, 1⟩ ⟨true, none, 0, true, true, [], false⟩
    (([false, b0, b1, b2, b3, b4, b5, b6, b7].map (List.replicate 16)).flatten ++ List.replicate 10 true) =
      .inr ⟨[false, b0, b1, b2, b3, b4, b5, b6, b7, true], false, false, true⟩ := by
  simp only [List.map_cons, List.map_nil, List.flatten_cons, List.flatten_nil, List.append_assoc, List.nil_append]
  rw [Receiver.run_start, Receiver.run_bit (by decide) (by decide), Receiver.run_bit (by decide) (by decide), Receiver.run_bit (by decide) (by decide),
    Receiver.run_bit (by decide) (by decide), Receiver.run_bit (by decide) (by decide), Receiver.run_bit (by decide) (by decide),
    Receiver.run_bit (by decide) (by decide), Receiver.run_bit (by decide) (by decide), Receiver.run_stop]
  rfl

/-- One sample a bit, from the first low one on. -/
theorem syncFrame_clean (b0 b1 b2 b3 b4 b5 b6 b7 : Bool) : syncFrame ⟨8, 0, 1⟩ [true, false, b0, b1, b2, b3, b4, b5, b6, b7, true] =
    .inr ⟨[false, b0, b1, b2, b3, b4, b5, b6, b7, true], false, false, true⟩ := rfl

/-! What comes in. -/

/-- A frame that is no break, of a port that is no console port, goes into a queue with room, and else sets OVR. -/
theorem State.takeChar_spec {s : State} {u : Fin 3} (hport : s.consolePort u = false) (c : Byte) (pe fe noise : Bool) (start : Nat) :
    let t := s.takeChar u c pe fe noise start
    ((s.uart u).rx.length < 16 → (t.uart u).rx = (s.uart u).rx ++ [c.toNat + 256 * bit pe + 512 * bit fe + 1024 * bit noise] ∧
      t.get (F.UART_STAT_RXLVL u) = (s.uart u).rx.length + 1) ∧
    (16 ≤ (s.uart u).rx.length → (t.uart u).rx = (s.uart u).rx ∧ t.get (F.UART_STAT_OVR u) = 1) := by
  have hlevels : ∀ u : Fin 3, (F.UART_STAT_RXLVL u).key ≠ (F.UART_STAT_TXLVL u).key := by decide
  unfold State.takeChar
  extract_lets p s1 s2 bad s3 s4 word s5 s6 t
  have hrx : (s2.uart u).rx = (s.uart u).rx := by
    have h1 : (s1.uart u).rx = (s.uart u).rx := by
      unfold s1
      split
      · exact (s.stampLine_uart u _ false).1
      · rfl
    exact (congrArg Uart.rx (State.uart_modUart s1 u fun q => { q with rxPlace := placeAfter c })).trans h1
  clear_value s1 s2
  have ht : t = if 16 ≤ p.rx.length then (s2.put (F.UART_STAT_OVR u) 1).raise0 (Src.uart u 4)
      else if p.rx.length + 1 = s.get (F.UART_CFG_RXTH u) then s6.raise0 (Src.uart u 0) else s6 := by
    unfold t
    rw [hport, if_neg (by decide)]
  clear_value t
  subst ht
  refine ⟨fun hroom => ?_, fun hfull => ?_⟩
  · rw [if_neg (Nat.not_le.2 hroom)]
    have h5 : (s5.uart u).rx = (s.uart u).rx ++ [word] :=
      (congrArg Uart.rx (State.uart_modUart s2 u fun q => { q with rx := q.rx ++ [word] })).trans (congrArg (· ++ [word]) hrx)
    have hlvl : s5.get (F.UART_STAT_RXLVL u) = (s.uart u).rx.length + 1 := by
      refine (State.get_put_other _ _ (hlevels u)).trans ((State.get_put_same _ _ _).trans ?_)
      show ((s2.uart u).rx ++ [word]).length % 2 ^ 5 = _
      rw [hrx, List.length_append, Nat.mod_eq_of_lt]
      · rfl
      · show (s.uart u).rx.length + 1 < 32
        omega
    clear_value s5
    have h6 : s6.uart u = s5.uart u ∧ s6.get (F.UART_STAT_RXLVL u) = s5.get (F.UART_STAT_RXLVL u) := by
      unfold s6
      split
      · exact ⟨State.raise0_uart _ _ _, State.raise0_frame.get F.UART_STAT_RXLVL_part rfl⟩
      · exact ⟨rfl, rfl⟩
    clear_value s6
    split
    · exact ⟨(congrArg Uart.rx ((State.raise0_uart _ _ _).trans h6.1)).trans h5,
        (State.raise0_frame.get F.UART_STAT_RXLVL_part rfl).trans (h6.2.trans hlvl)⟩
    · exact ⟨(congrArg Uart.rx h6.1).trans h5, h6.2.trans hlvl⟩
  · rw [if_pos hfull]
    exact ⟨(congrArg Uart.rx (State.raise0_uart _ _ _)).trans hrx,
      (State.raise0_frame.get F.UART_STAT_OVR_part rfl).trans (State.get_put_same _ _ _)⟩

theorem State.seeBreak_spec (s : State) (u : Fin 3) : (s.seeBreak u).uart u = s.uart u ∧ (s.seeBreak u).get (F.UART_STAT_BRK u) = 1 :=
  ⟨State.raise0_uart _ _ _, (State.raise0_frame.get F.UART_STAT_BRK_part rfl).trans (State.get_put_same _ _ _)⟩

theorem execUartCharacterReceived_run {u : Fin 3} {s : State} (l : List Bool) (n : Nat) (hen : s.on (F.UART_CFG_EN u) = true)
    (hpow : s.powered 8 = true) : exec (.uartCharacterReceived u l n) s = .next (match s.uartHears u l with
      | .inl h => s.modUart u fun q => { q with high := h }
      | .inr g => if g.isBreak then (s.modUart u fun q => { q with high := g.high }).seeBreak u
        else (s.modUart u fun q => { q with high := g.high }).takeChar u (g.char (s.frameForm u)) (g.parityError (s.frameForm u))
          (g.framingError (s.frameForm u)) g.noise n) := by
  refine congrArg Host.Outcome.next ((if_neg (by simp [hen, hpow])).trans ?_)
  cases s.uartHears u l <;> rfl

/-! What wakes. -/

/-- `t` is as deep in sleep as `s`, with the same wakes enabled. -/
def SameSleep (s t : State) : Prop := t.power.depth = s.power.depth ∧ t.get F.PWR_WAKEEN_EN = s.get F.PWR_WAKEEN_EN

namespace SameSleep

variable {s t u : State}

theorem refl : SameSleep s s := ⟨rfl, rfl⟩

theorem trans (h : SameSleep s t) (k : SameSleep t u) : SameSleep s u := ⟨k.1.trans h.1, k.2.trans h.2⟩

theorem of_frame {e : List Part} (h : Frame e s t) (hpower : Part.sub [.power] e = false) (hn : Part.sub [.rPwr] e = false) : SameSleep s t :=
  ⟨congrArg Power.depth (h.same .power hpower : _ = _), h.get (of_decide_eq_true rfl : F.PWR_WAKEEN_EN.part = .rPwr) hn⟩

theorem of_reports (h : Reports s t) : SameSleep s t :=
  ⟨(congrArg Power.depth h.power :), h.get F.PWR_WAKEEN_EN (of_decide_eq_true rfl) (by decide)⟩

theorem ite {c : Prop} [Decidable c] {a b : State} (ha : SameSleep s a) (hb : SameSleep s b) : SameSleep s (if c then a else b) := by
  split
  · exact ha
  · exact hb

theorem foldl {β : Type} {f : State → β → State} (h : ∀ t x, SameSleep t (f t x)) (l : List β) (t : State) : SameSleep t (l.foldl f t) := by
  induction l generalizing t with
  | nil => exact refl
  | cons x r ih => exact (h t x).trans (ih (f t x))

end SameSleep

theorem State.wake_sleep (s : State) (n : Nat) : SameSleep s (s.wake n) := .ite ⟨rfl, rfl⟩ .refl

/-- An event of the router ends no sleep. -/
theorem State.fire_sleep (s : State) (p : Nat) : SameSleep s (s.fire p) := by
  have hput : ∀ (t : State) (f : Fld) (v : Nat), f.part = .rEvr → SameSleep t (t.put f v) := fun t f v hp =>
    .of_frame (State.put_frame (e := [.rEvr]) hp rfl) rfl rfl
  have hwatch : SameSleep s (s.watch p) := .ite .refl <| .ite (hput s _ _ F.EVR_WFLAG_FLAG_part) <|
    (hput s _ _ F.EVR_WFLAG_FLAG_part).trans (.of_reports (State.raiseK_reports _ _ _ _ _))
  have hover : ∀ (t : State) (c : Nat), SameSleep t (t.overrun c) := fun t c => by
    refine .ite .refl (SameSleep.trans ?_ (.of_reports (State.raiseK_reports _ _ _ _ _)))
    refine hput t _ _ ?_
    split
    · exact F.EVR_OVR_OVR_part
    · exact F.EVR_OVRH_OVR_part
  unfold State.fire
  refine hwatch.trans (SameSleep.foldl (fun t c => ?_) _ _)
  unfold State.reach
  refine .ite (hover t c) ?_
  unfold State.consume
  exact .ite (.of_frame State.dmaTrigger_frame rfl rfl) (.ite (.of_frame State.setEngine_frame rfl rfl) (.ite (.of_frame State.adcStart_frame rfl rfl)
    (.ite (.of_frame State.touchStart_frame rfl rfl) (.ite (.of_frame State.spiStart_frame rfl rfl) (.ite (.of_frame State.evrCapture_frame rfl rfl)
    (.ite (t.wake_sleep 2) (.ite (.of_frame State.startCapture_frame rfl rfl) (.ite (.of_frame State.outEvent_frame rfl rfl)
    (.ite (.of_frame State.cutGrant_frame rfl rfl) (.ite (.of_frame State.captureRtc_frame rfl rfl)
      (.of_frame (State.count_frame (e := [.rEvr]) F.EVR_CNT_COUNT_part rfl) rfl rfl)))))))))))

/-- A start edge that wakes leaves its wake latched. -/
theorem execUartStartEdgeWake_latched {u : Fin 3} {n : Nat} {s : State} (hsleep : s.power.depth ≠ 0)
    (hline : s.on (F.UART_STAT_LINE_FAULT u) = false) (hen : bitOf (s.get F.PWR_WAKEEN_EN) (4 + u) = true) :
    ∃ t : State, exec (.uartStartEdgeWake u n) s = .next t ∧ bitOf t.power.latched (4 + u) = true := by
  have hfire := s.fire_sleep (42 + u)
  have hlatched : bitOf ((s.fire (42 + u)).wake (4 + u)).power.latched (4 + u) = true := by
    refine State.wake_latched ?_ (.inr ?_)
    · rw [hfire.1]
      exact hsleep
    · rw [hfire.2]
      exact hen
  refine ⟨_, congrArg Host.Outcome.next (if_neg (by simp [hsleep, hline])), ?_⟩
  extract_lets s1 p s2 s3
  have h1 : bitOf s1.power.latched (4 + u) = true := hlatched
  clear_value s1
  have h2 : s2.power = s1.power := by
    unfold s2
    split
    · exact State.markLost_frame.same .power rfl
    · rfl
  have h3 : s3.power = s1.power := h2
  clear_value s2 s3
  split
  · exact h1
  · split
    · exact (congrArg (bitOf ·.latched _) h3).trans h1
    · have hraise := (State.raise0_reports (s3.put (F.UART_STAT_WAKE_LOST u) 1) (Src.uart u 6)).power
      have hkept : ((s3.put (F.UART_STAT_WAKE_LOST u) 1).raise0 (Src.uart u 6)).power.latched = s3.power.latched := (congrArg Power.latched hraise :)
      exact (congrArg (bitOf · _) (hkept.trans (congrArg Power.latched h3))).trans h1

/-! What goes out, and the settings that wait. -/

/-- A character of the queue leaves it. -/
theorem execUartCharacterSent_of_queue {u : Fin 3} {n : Nat} {c : Byte} {s : State} {h : Nat} {r : List Nat} (hu : u ≠ 0)
    (hen : s.on (F.UART_CFG_EN u) = true) (hpow : s.powered 8 = true) (hport : s.consolePort u = false) (htx : (s.uart u).tx = h :: r) :
    ∃ t : State, exec (.uartCharacterSent u n c) s = .next t ∧ (t.uart u).tx = r ∧ (t.uart u).rx = (s.uart u).rx := by
  generalize ht : (if r.isEmpty then (s.modUart u fun p => { p with tx := r }).raise0 (Src.uart u 1) else s.modUart u fun p => { p with tx := r }) = t
  have hnext : s.uartNext u c = some (BitVec.ofNat 8 h, t) := by
    have hne : u.val ≠ 0 := fun h0 => hu (Fin.ext h0)
    unfold State.uartNext
    rw [if_neg hne, hport, if_neg (by decide), htx, ← ht]
  have huart : t.uart u = { s.uart u with tx := r } := by
    rw [← ht]
    split
    · exact (State.raise0_uart _ _ _).trans (State.uart_modUart _ _ _)
    · exact State.uart_modUart _ _ _
  generalize hw : (if (t.uart u).txPlace.starts (BitVec.ofNat 8 h) then t.stampLine u n true else t) = w
  have hqueues : (w.uart u).tx = r ∧ (w.uart u).rx = (s.uart u).rx := by
    have hstart : (t.uart u).tx = r ∧ (t.uart u).rx = (s.uart u).rx := ⟨by rw [huart], by rw [huart]⟩
    rw [← hw]
    split
    · exact ⟨(t.stampLine_uart u n true).2.trans hstart.1, (t.stampLine_uart u n true).1.trans hstart.2⟩
    · exact hstart
  refine ⟨w.modUart u fun p => { p with txPlace := placeAfter (BitVec.ofNat 8 h) }, congrArg Host.Outcome.next ?_, ?_, ?_⟩
  · rw [if_neg (by simp [hen, hpow]), hnext]
    dsimp only
    rw [hw]
  · exact (congrArg Uart.tx (State.uart_modUart w u fun p => { p with txPlace := placeAfter (BitVec.ofNat 8 h) }) :).trans hqueues.1
  · exact (congrArg Uart.rx (State.uart_modUart w u fun p => { p with txPlace := placeAfter (BitVec.ofNat 8 h) }) :).trans hqueues.2

/-- A setting that lands leaves what waits. -/
theorem State.uartSet_pend (s : State) (side : Side) (u : Fin 3) (ofs v : Nat) : ((s.uartSet side u ofs v).uart u).pend = (s.uart u).pend := by
  unfold State.uartSet
  extract_lets b v' t
  have ht : t.uart u = s.uart u := by
    have hframe : Frame [.rUart] s t := State.writeFields_frame (congrArg (Part.sub [·] [.rUart]) uartBlock_part)
    exact State.uart_congr (hframe.same .uarts rfl : _ = _) u
  clear_value t
  split
  · rfl
  · split
    · exact (congrArg Uart.pend (State.uart_modUart t u fun p => { p with rxPlace := .first, txPlace := .first }) :).trans (congrArg Uart.pend ht :)
    · exact congrArg Uart.pend ht

theorem execUartConfigApply_pend {u : Fin 3} {s : State} (h : s.uartQuiet u = true) :
    ∃ t : State, exec (.uartConfigApply u) s = .next t ∧ (t.uart u).pend = [] := by
  have hfold : ∀ (l : List (Nat × Nat)) (t : State), ((l.foldl (fun t w => t.uartSet (t.owner (uartBlock u)) u w.1
      (if w.1 = 0x10 then without (t.storedWord (uartBlock u) w.1) frameMask + (w.2 &&& frameMask) else w.2)) t).uart u).pend = (t.uart u).pend := by
    intro l
    induction l with
    | nil => exact fun t => rfl
    | cons w r ih => exact fun t => (ih _).trans (t.uartSet_pend _ u _ _)
  refine ⟨_, congrArg Host.Outcome.next (if_neg (by simp [h])), (hfold _ _).trans ?_⟩
  exact (congrArg Uart.pend (State.uart_modUart s u fun p => { p with pend := [] }) :)

end Sys2Proof.Machine

namespace Sys2Proof
open Sys2Proof.Machine

/-- Settles O48: a frame goes through `State.takeChar`, a clean one bit by bit through `Receiver.run_bit`, and the queues change
through `State.modUart` alone. -/
theorem uartsReceiveSendAndStamp : Obligations.UartsReceiveSendAndStamp := by
  unfold Obligations.UartsReceiveSendAndStamp
  have hbrk : ∀ u : Fin 3, (F.UART_STAT_LINE_FAULT u).key ≠ (F.UART_STAT_BRK u).key := by decide
  refine ⟨fun u l n s => ⟨fun hoff => congrArg Host.Outcome.next (if_pos (by simp [hoff])), fun hen hpow => ⟨fun h hh => ?level, fun g hg hb => ?break_,
      fun g hg hb hport => ?char⟩⟩, fun b0 b1 b2 b3 b4 b5 b6 b7 u s hsync hform hhigh => ?clean, fun b0 b1 b2 b3 b4 b5 b6 b7 u s hsync hform => ?sync,
    fun u s hen hpow => ⟨⟨_, congrArg Host.Outcome.next (if_pos (by rw [hen, hpow]; rfl)), (s.seeBreak_spec u).2⟩,
      ⟨_, congrArg Host.Outcome.next (if_pos (by rw [hen, hpow]; rfl)), ?fault⟩⟩, fun u s => ?clear,
    fun u n s => ⟨fun hawake => congrArg Host.Outcome.next (if_pos (.inl hawake)), fun hsleep hline hen => execUartStartEdgeWake_latched hsleep hline hen⟩,
    fun u s hu hpow hdma hrxto hch => ?timeout,
    fun u n c s hu hen hpow hport => ⟨fun htx => ?nothing, fun h r htx => execUartCharacterSent_of_queue hu hen hpow hport htx⟩,
    fun n c s hen hpow => ?console, fun side u s hpow => ⟨fun hrx => ?emptyRead, fun h r hrx => ?read⟩,
    fun side u b s h => ⟨fun hroom => ?write, fun hfull => ?overflow⟩, fun u s hpow => ⟨⟨s.stampRead u false, ?rxStamp, rfl, State.get_put_same _ _ _⟩,
      ⟨s.stampRead u true, ?txStamp, rfl, State.get_put_same _ _ _⟩⟩,
    fun u s => ⟨fun hbusy => congrArg Host.Outcome.next (if_pos (by simp [hbusy])), fun hquiet => execUartConfigApply_pend hquiet⟩⟩
  case level =>
    have hrun := execUartCharacterReceived_run (u := u) l n hen hpow
    rw [hh] at hrun
    exact ⟨_, hrun, State.uart_modUart _ _ _⟩
  case break_ =>
    have hrun := execUartCharacterReceived_run (u := u) l n hen hpow
    simp only [hg, hb, if_true] at hrun
    obtain ⟨huart, hbit⟩ := (s.modUart u fun q => { q with high := g.high }).seeBreak_spec u
    exact ⟨_, hrun, (congrArg Uart.rx (huart.trans (State.uart_modUart s u fun q => { q with high := g.high })) :), hbit⟩
  case char =>
    have hrun := execUartCharacterReceived_run (u := u) l n hen hpow
    simp only [hg, hb, Bool.false_eq_true, if_false] at hrun
    have hrx : ((s.modUart u fun q => { q with high := g.high }).uart u).rx = (s.uart u).rx :=
      (congrArg Uart.rx (State.uart_modUart s u fun q => { q with high := g.high }) :)
    have hspec := State.takeChar_spec ((s.consolePort_modUart u (fun q => { q with high := g.high }) u).trans hport) (g.char (s.frameForm u)) (g.parityError (s.frameForm u))
      (g.framingError (s.frameForm u)) g.noise n
    rw [hrx] at hspec
    exact ⟨fun hroom => ⟨_, hrun, hspec.1 hroom⟩, fun hfull => ⟨_, hrun, hspec.2 hfull⟩⟩
  case clean =>
    unfold State.uartHears
    rw [if_neg (by simp [hsync]), hform, hhigh]
    exact Receiver.run_frame b0 b1 b2 b3 b4 b5 b6 b7
  case sync =>
    unfold State.uartHears
    rw [if_pos hsync, hform]
    exact syncFrame_clean b0 b1 b2 b3 b4 b5 b6 b7
  case fault => exact (State.raise0_frame.get F.UART_STAT_LINE_FAULT_part rfl).trans (State.get_put_same _ _ _)
  case clear =>
    cases hline : s.on (F.UART_STAT_LINE_FAULT u) with
    | true =>
      exact ⟨_, congrArg Host.Outcome.next (if_pos hline), (State.get_put_other _ _ (hbrk u)).trans (State.get_put_same _ _ _),
        fun _ => State.get_put_same _ _ _⟩
    | false =>
      exact ⟨s, congrArg Host.Outcome.next (if_neg (by simp [hline])), State.on_eq_false_iff.1 hline, fun h => absurd h (by decide)⟩
  case timeout =>
    have hnone : ((List.finRange 8).find? fun (k : Fin 8) => s.on (F.DMA_CFG_EN k) && s.get (F.DMA_CFG_REQ k) == 2 * u.val - 1) = none :=
      List.find?_eq_none.2 fun k _ => by simp [hch k]
    have hrun : exec (.uartRxTimeout u) s = .next (if (s.uart u).rx.isEmpty then s else s.raise0 (Src.uart u 2)) := by
      refine congrArg Host.Outcome.next ((if_neg (by simp [hu, hpow, hdma, hrxto])).trans ?_)
      simp only [hnone]
    exact ⟨fun hrx => hrun.trans (congrArg Host.Outcome.next (if_pos (by simp [hrx]))),
      fun hrx => hrun.trans (congrArg Host.Outcome.next (if_neg (by simp [hrx])))⟩
  case nothing =>
    have hne : u.val ≠ 0 := fun h0 => hu (Fin.ext h0)
    have hnext : s.uartNext u c = none := by
      unfold State.uartNext
      rw [if_neg hne, hport, if_neg (by decide), htx]
    refine congrArg Host.Outcome.next ?_
    rw [if_neg (by simp [hen, hpow]), hnext]
  case console =>
    generalize hw : (if (s.uart 0).txPlace.starts c then s.stampLine 0 n true else s) = w
    have hrun : exec (.uartCharacterSent 0 n c) s = .next (w.modUart 0 fun p => { p with txPlace := placeAfter c }) := by
      refine congrArg Host.Outcome.next ((if_neg ?_).trans (congrArg (fun t : State => t.modUart 0 fun p => { p with txPlace := placeAfter c }) hw))
      rw [show ((0 : Fin 3) : Nat) = 0 from rfl, hen, hpow]
      decide
    have huart := State.uart_modUart w 0 fun p => { p with txPlace := placeAfter c }
    refine ⟨_, hrun, (congrArg Uart.txPlace huart :), ?_, fun hstarts => ?_⟩
    · refine (congrArg Uart.tx huart :).trans ?_
      rw [← hw]
      split
      · exact (s.stampLine_uart 0 n true).2
      · rfl
    · rw [State.get_modUart w 0 _ ⟨by decide, by decide⟩, ← hw, if_pos hstarts]
      refine (State.get_put_other _ _ (by decide)).trans ((State.get_put_other _ _ (by decide)).trans ((State.get_put_same _ _ _).trans ?_))
      exact Nat.mod_mod _ _
  case emptyRead =>
    refine congrArg Host.Outcome.next ?_
    rw [access_reaches (reaches_uart hpow u)]
    unfold State.uartRead
    rw [hrx]
  case read =>
    refine ⟨{ (if side = s.owner (uartBlock u) then s.modUart u fun p => { p with rx := r } else s) with busData := BitVec.ofNat 32 h },
      congrArg Host.Outcome.next ?_, rfl, ?_⟩
    · rw [access_reaches (reaches_uart hpow u)]
      unfold State.uartRead
      rw [hrx]
    · by_cases hside : side = s.owner (uartBlock u)
      · rw [if_pos hside, if_pos hside]
        exact (congrArg Uart.rx (State.uart_modUart s u fun p => { p with rx := r }) :)
      · rw [if_neg hside, if_neg hside]
        exact hrx
  case write =>
    refine ⟨s.modUart u fun p => { p with tx := p.tx ++ [b.toNat % 256] }, congrArg Host.Outcome.next ?_, ?_⟩
    · rw [access_reaches (opens_iff.1 h).1]
      exact (guard_opens h _ _).trans (if_neg (Nat.not_le.2 hroom))
    · refine (congrArg Uart.tx (State.uart_modUart s u fun p => { p with tx := p.tx ++ [b.toNat % 256] }) :).trans ?_
      exact congrArg (fun n => (s.uart u).tx ++ [n]) (Nat.mod_eq_of_lt b.isLt)
  case overflow =>
    refine congrArg Host.Outcome.next ?_
    rw [access_reaches (opens_iff.1 h).1]
    exact (guard_opens h _ _).trans (if_pos hfull)
  case rxStamp => exact congrArg Host.Outcome.next (access_reaches (reaches_uart hpow u) _ _ _ _)
  case txStamp => exact congrArg Host.Outcome.next (access_reaches (reaches_uart hpow u) _ _ _ _)

end Sys2Proof

/-! PROOF. Control of the lighters (O47). -/

namespace Sys2Proof.Machine

/-! Words of the instruction memory. -/

/-- Lighter `n` takes configuration from a side: its owner, in EXPERT, while the lighter does not run. -/
def TakesWords (side : Side) (n : Nat) (s : State) : Prop := side = s.owner .lgt ∧ s.expert .lgt = true ∧ s.lgtRuns n = false

theorem TakesWords.congr {side : Side} {n : Nat} {s t : State} (h : TakesWords side n s)
    (hsame : Same [F.OWNLVL_OWNER .lgt, F.OWNLVL_LEVEL .lgt, F.LGT_STAT_STATE n] s t) : TakesWords side n t := by
  have howner : t.owner .lgt = s.owner .lgt := by
    unfold State.owner
    rw [State.on_congr (hsame _ (by simp))]
  have hlevel : t.expert .lgt = s.expert .lgt := State.on_congr (hsame _ (by simp))
  have hruns : t.lgtRuns n = s.lgtRuns n := by
    unfold State.lgtRuns State.lgtState
    rw [hsame _ (by simp)]
  exact ⟨h.1.trans howner.symm, hlevel.trans h.2.1, hruns.trans h.2.2⟩

/-- The one field at the place of an instruction word. -/
theorem regFields_imem (n : Fin 8) (k : Fin 32) : regFields .lgt (0x800 + n * 0x80 + 4 * k) = [⟨0, 32, .rw, .expert, .val 0, .any⟩] := by
  revert n k
  decide

theorem lgtOf_imem (n : Fin 8) (k : Fin 32) : lgtOf (0x800 + n * 0x80 + 4 * k) = n := by
  revert n k
  decide

theorem State.writeFields_word {s : State} {side : Side} {n : Fin 8} (h : TakesWords side n s) (k : Fin 32) (v : Word) :
    s.writeFields .lgt (0x800 + n * 0x80 + 4 * k) side v.toNat = s.put (F.LGT_IMEM_WORD n k) v.toNat := by
  have hfield : (⟨0, 32, .rw, .expert, .val 0, .any⟩ : FldSpec).at .lgt (0x800 + n * 0x80 + 4 * k) = F.LGT_IMEM_WORD n k := by
    have hn : n.val % 8 = n.val := Nat.mod_eq_of_lt n.isLt
    have hk : k.val % 32 = k.val := Nat.mod_eq_of_lt k.isLt
    simp only [FldSpec.at, F.LGT_IMEM_WORD, Block.base, Fld.mk.injEq, and_true]
    omega
  have hbits : bitsOf v.toNat 0 32 = v.toNat := by
    unfold bitsOf
    rw [Nat.pow_zero, Nat.div_one, Nat.mod_eq_of_lt v.isLt]
  have hofs : (0x800 + n.val * 0x80 + 4 * k.val != 4) = true := by simp only [bne_iff_ne]; omega
  unfold State.writeFields State.writeClears
  rw [h.2.1, Bool.not_true, Bool.and_false, if_neg (by decide), regFields_imem]
  simp only [List.foldl_cons, List.foldl_nil, State.writeField, hfield, hbits, h.2.1, hofs]
  rfl

/-- An instruction word lands at its place; beside it the library's number of a lighter that is stalled is written again. -/
theorem State.lgtConfig_word {s : State} {side : Side} {n : Fin 8} (h : TakesWords side n s) (k : Fin 32) (v : Word) :
    let t := s.put (F.LGT_IMEM_WORD n k) v.toNat
    s.lgtConfig side (0x800 + n * 0x80 + 4 * k) v.toNat = t ∨
      s.lgtConfig side (0x800 + n * 0x80 + 4 * k) v.toNat = t.put (F.LGT_CFG_LIB n) (s.get (F.LGT_CFG_LIB n)) := by
  intro t
  have hlevel : t.expert .lgt = true := (State.on_congr (s.get_put_imem n k _ (by decide))).trans h.2.1
  have hderive : ∀ u : State, u.expert .lgt = true → u.deriveLib n = u := fun u hu => if_pos (by simp [hu])
  have hchoice : ∀ (c : Prop) [Decidable c] (u : State), u.expert .lgt = true → (if c then u else u.deriveLib n) = u := fun c _ u hu => by
    split
    · rfl
    · exact hderive u hu
  have hrun : s.lgtConfig side (0x800 + n * 0x80 + 4 * k) v.toNat =
      if s.lgtState n ≠ 0 then t.put (F.LGT_CFG_LIB n) (s.get (F.LGT_CFG_LIB n)) else t := by
    unfold State.lgtConfig
    rw [lgtOf_imem, if_neg (not_not_intro h.1), h.2.2, if_neg (by decide), State.writeFields_word h]
    refine hchoice _ _ ?_
    split
    · refine (State.on_congr (State.get_put_other _ _ ?_)).trans hlevel
      simp only [Fld.key, F.OWNLVL_LEVEL, F.LGT_CFG_LIB, Block.base]
      omega
    · exact hlevel
  rw [hrun]
  split
  · exact .inr rfl
  · exact .inl rfl

/-- The words of the memory after a write of one, and who may write the next. -/
theorem State.lgtConfig_spec {s : State} {side : Side} {n : Fin 8} (h : TakesWords side n s) (k : Fin 32) (v : Word) :
    let t := s.lgtConfig side (0x800 + n * 0x80 + 4 * k) v.toNat
    TakesWords side n t ∧ t.get (F.LGT_IMEM_WORD n k) = v.toNat ∧
      ∀ j : Nat, j < 32 → j ≠ k.val → t.get (F.LGT_IMEM_WORD n j) = s.get (F.LGT_IMEM_WORD n j) := by
  intro t
  generalize hu : s.put (F.LGT_IMEM_WORD n k) v.toNat = u
  have htakes : TakesWords side n u := by
    refine h.congr fun f hf => ?_
    rw [← hu]
    refine s.get_put_imem n k v.toNat ?_
    simp only [List.mem_cons, List.not_mem_nil, or_false] at hf
    rcases hf with rfl | rfl | rfl
    · decide
    · decide
    · simp only [Fld.key, F.LGT_STAT_STATE]; omega
  have hword : u.get (F.LGT_IMEM_WORD n k) = v.toNat := by
    rw [← hu]
    exact (State.get_put_same _ _ _).trans (Nat.mod_eq_of_lt v.isLt)
  have hrest : ∀ j : Nat, j < 32 → j ≠ k.val → u.get (F.LGT_IMEM_WORD n j) = s.get (F.LGT_IMEM_WORD n j) := fun j hj hne => by
    rw [← hu]
    refine State.get_put_other _ _ ?_
    have hk := k.isLt
    simp only [Fld.key, F.LGT_IMEM_WORD]
    omega
  have hlib : ∀ (w : Nat) (j : Nat), (u.put (F.LGT_CFG_LIB n) w).get (F.LGT_IMEM_WORD n j) = u.get (F.LGT_IMEM_WORD n j) := fun w j => by
    refine State.get_put_other _ _ ?_
    simp only [Fld.key, F.LGT_IMEM_WORD, F.LGT_CFG_LIB]
    omega
  have hkept : ∀ w : Nat, TakesWords side n (u.put (F.LGT_CFG_LIB n) w) := fun w => by
    refine htakes.congr (Same.of_put fun f hf => ?_)
    simp only [List.mem_cons, List.not_mem_nil, or_false] at hf
    rcases hf with rfl | rfl | rfl <;> (simp only [Fld.key, F.OWNLVL_OWNER, F.OWNLVL_LEVEL, F.LGT_STAT_STATE, F.LGT_CFG_LIB, Block.base]; omega)
  have hcases := s.lgtConfig_word h k v
  dsimp only at hcases
  rw [hu] at hcases
  rcases hcases with ht | ht
  · rw [show t = u from ht]
    exact ⟨htakes, hword, hrest⟩
  · rw [show t = u.put (F.LGT_CFG_LIB n) (s.get (F.LGT_CFG_LIB n)) from ht]
    exact ⟨hkept _, (hlib _ _).trans hword, fun j hj hne => (hlib _ _).trans (hrest j hj hne)⟩

/-- The words of a load land one after the other, as far as the memory goes. -/
theorem State.loadWords {side : Side} {n : Fin 8} {a : Nat} (l : List Word) : ∀ (m j : Nat) (s : State), TakesWords side n s → a + j + m ≤ 32 →
    let t := ((l.zipIdx j).take m).foldl (fun (u : State) w => u.lgtConfig side (0x800 + n * 0x80 + 4 * (a + w.2)) w.1.toNat) s
    (∀ i, i < a + j → t.get (F.LGT_IMEM_WORD n i) = s.get (F.LGT_IMEM_WORD n i)) ∧
      ∀ i v, l[i]? = some v → i < m → t.get (F.LGT_IMEM_WORD n (a + j + i)) = v.toNat := by
  induction l with
  | nil => exact fun m j s h hm => by cases m <;> exact ⟨fun i hi => rfl, fun i v hv => absurd hv (by simp)⟩
  | cons w r ih =>
    intro m j s h hm
    cases m with
    | zero => exact ⟨fun i hi => rfl, fun i v hv hi => absurd hi (by omega)⟩
    | succ m =>
      obtain ⟨htakes, hword, hrest⟩ := s.lgtConfig_spec h ⟨a + j, by omega⟩ w
      obtain ⟨hbefore, hafter⟩ := ih m (j + 1) _ htakes (by omega)
      refine ⟨fun i hi => (hbefore i (by omega)).trans (hrest i (by omega) (by dsimp only; omega)), fun i v hv hi => ?_⟩
      cases i with
      | zero =>
        obtain rfl : w = v := Option.some.inj hv
        exact (hbefore (a + j) (by omega)).trans hword
      | succ i =>
        have hat := hafter i v hv (by omega)
        rwa [show a + (j + 1) + i = a + j + (i + 1) by omega] at hat

/-! The FIFOs. -/

theorem State.lgtFifos_engine (s : State) (n : Nat) (tx rx : List Nat) : (s.lgtFifos n tx rx).engine n = { s.engine n with tx := tx, rx := rx } := by
  have hraise : ∀ (t : State) (k : Nat), (t.raise0 k).engine n = t.engine n := fun t k =>
    congrArg (fun m => Store.get (fun _ => Engine.reset) m n) (State.raise0_frame.same .lgt rfl : _ = _)
  unfold State.lgtFifos
  extract_lets e s1 tth rth s2
  have h1 : s1.engine n = { s.engine n with tx := tx, rx := rx } := State.engine_setEngine_same s n _
  clear_value s1
  have h2 : s2.engine n = s1.engine n := by
    unfold s2
    split
    · exact hraise _ _
    · rfl
  clear_value s2
  split
  · exact (hraise _ _).trans (h2.trans h1)
  · exact h2.trans h1

/-- A refused write is counted beside the block's own registers. -/
theorem State.deny_same {f : Fld} {b : Block} (h : f.key / 32 ≠ b.base + 8) (s : State) (why ofs : Nat) (side : Side) :
    Same [f] s (s.deny b why ofs side) := by
  have key : ∀ lo w, lo < 32 → f.key ≠ (⟨b.base + 8, lo, w⟩ : Fld).key := fun lo w hlo hkey => h (by rw [hkey]; simp only [Fld.key]; omega)
  exact (((Same.of_put_key (key 0 16 (by decide))).trans (Same.of_put_key (key 16 12 (by decide)))).trans
    (Same.of_put_key (key 28 2 (by decide)))).trans (Same.of_put_key (key 30 1 (by decide)))

/-- A word written into a lighter that runs is refused and flagged. -/
theorem State.lgtConfig_refused {s : State} {side : Side} {n : Fin 8} (hside : side = s.owner .lgt) (hruns : s.lgtRuns n = true) (k : Fin 32)
    (v : Nat) : let t := s.lgtConfig side (0x800 + n * 0x80 + 4 * k) v
    t.get (F.LGT_IMEM_WORD n k) = s.get (F.LGT_IMEM_WORD n k) ∧ t.get (F.LGT_FIFO_IMWR n) = 1 := by
  intro t
  have ht : t = ((s.put (F.LGT_FIFO_IMWR n) 1).put F.LGT_SUM_IMERR (withBit (s.get F.LGT_SUM_IMERR) n true)).deny .lgt 3
      (0x800 + n * 0x80 + 4 * k) side := by
    show s.lgtConfig side (0x800 + n * 0x80 + 4 * k) v = _
    unfold State.lgtConfig
    rw [lgtOf_imem, if_neg (not_not_intro hside)]
    exact if_pos hruns
  have hsum : (F.LGT_FIFO_IMWR n).key ≠ F.LGT_SUM_IMERR.key := by simp only [Fld.key, F.LGT_FIFO_IMWR, F.LGT_SUM_IMERR]; omega
  have hplaceSum : (F.LGT_IMEM_WORD n k).key ≠ F.LGT_SUM_IMERR.key := by simp only [Fld.key, F.LGT_IMEM_WORD, F.LGT_SUM_IMERR]; omega
  have hplace : (F.LGT_IMEM_WORD n k).key ≠ (F.LGT_FIFO_IMWR n).key := by simp only [Fld.key, F.LGT_IMEM_WORD, F.LGT_FIFO_IMWR]; omega
  rw [ht]
  refine ⟨(State.deny_same ?_ _ _ _ _).get.trans ((State.get_put_other _ _ hplaceSum).trans (State.get_put_other _ _ hplace)),
    (State.deny_same ?_ _ _ _ _).get.trans ((State.get_put_other _ _ hsum).trans (State.get_put_same _ _ _))⟩
  · simp only [Fld.key, F.LGT_IMEM_WORD, Block.base]; omega
  · simp only [Fld.key, F.LGT_FIFO_IMWR, Block.base]; omega

/-! The commands. -/

/-- A check that answers nothing is passed. -/
theorem ite_some_eq_none {c : Prop} [Decidable c] {a : Nat} {o : Option Nat} (h : (if c then some a else o) = none) : ¬ c ∧ o = none := by
  split at h
  next => exact absurd h (by simp)
  next hc => exact ⟨hc, h⟩

/-- A console command that the checks pass finds the lighters owned by the console, in EXPERT. -/
theorem lgtCmd_owner {s : State} {x : Sess} (h : accepts s x lgtCmd = true) : Side.console = s.owner .lgt ∧ s.expert .lgt = true := by
  have hnone : s.precheck x lgtCmd = none := by
    unfold accepts at h
    exact Option.isNone_iff_eq_none.1 (Bool.and_eq_true _ _ ▸ h).1
  unfold State.precheck at hnone
  obtain ⟨-, hport⟩ := ite_some_eq_none hnone
  obtain ⟨-, hgate⟩ := ite_some_eq_none hport
  obtain ⟨-, hlimited⟩ := ite_some_eq_none hgate
  obtain ⟨-, hsession⟩ := ite_some_eq_none hlimited
  obtain ⟨-, hblock⟩ := ite_some_eq_none hsession
  obtain ⟨howner, hlevel⟩ := ite_some_eq_none hblock
  obtain ⟨hexpert, -⟩ := ite_some_eq_none hlevel
  simp only [lgtCmd, Bool.not_false, Bool.true_or, Bool.true_and, bne_iff_ne, ne_eq, Classical.not_not] at howner
  simp only [lgtCmd, Bool.not_false, Bool.true_and, Bool.not_eq_true', Bool.not_eq_false] at hexpert
  exact ⟨howner.symm, hexpert⟩

theorem State.lgtTo_sum (s : State) (n : Fin 8) (st : Nat) : bitOf ((s.lgtTo n st).get F.LGT_SUM_RUN) n = (st == 1 || st == 2) := by
  have hkey : F.LGT_SUM_RUN.key ≠ (F.LGT_STAT_STATE n).key := by simp only [Fld.key, F.LGT_SUM_RUN, F.LGT_STAT_STATE]; omega
  refine (congrArg (bitOf · n) ((State.get_put_other _ _ (by decide)).trans (State.get_put_same _ _ _))).trans ?_
  rw [show F.LGT_SUM_RUN.w = 8 from rfl, bitOf_mod n.isLt, bitOf_withBit_same]

/-- The offset of an instruction word as a write gives it. -/
theorem imemOffset (n : Fin 8) (k : Fin 32) : (BitVec.ofNat 12 (0x800 + 0x80 * n + 4 * k)).toNat / 4 * 4 = 0x800 + n * 0x80 + 4 * k := by
  have hn := n.isLt
  have hk := k.isLt
  rw [BitVec.toNat_ofNat, Nat.mod_eq_of_lt (by omega)]
  omega

/-- The owner's write of an instruction word in EXPERT. -/
theorem execLgtImemWrite_run {s : State} {side : Side} (h : opens s side .lgt true = true) (n : Fin 8) (k : Fin 32) (v : Word) :
    exec (.lgtImemWrite side (BitVec.ofNat 12 (0x800 + 0x80 * n + 4 * k)) v) s =
      .next (s.lgtConfig side (0x800 + n * 0x80 + 4 * k) v.toNat) := by
  refine congrArg Host.Outcome.next ?_
  dsimp only
  rw [imemOffset n k]
  exact (if_pos (.inl (by omega))).trans (access_reaches (opens_iff.1 h).1 _ _ _ _)

theorem State.lgtSetDiv_spec {s : State} {n : Fin 8} {d : Nat} (hlow : 256 ≤ d) (hhigh : d < 2 ^ 24) :
    (s.lgtSetDiv n d).get (F.LGT_DIV_INT n) * 256 + (s.lgtSetDiv n d).get (F.LGT_DIV_FRAC n) = d := by
  have hint : bitsOf d 8 16 = d / 256 := Nat.mod_eq_of_lt (by omega)
  have hfrac : bitsOf d 0 8 = d % 256 := congrArg (· % 256) (Nat.div_one d)
  have hkey : (F.LGT_DIV_FRAC n).key ≠ (F.LGT_DIV_INT n).key := by simp only [Fld.key, F.LGT_DIV_FRAC, F.LGT_DIV_INT]; omega
  unfold State.lgtSetDiv
  rw [if_neg (by omega), hint, hfrac]
  have h1 : (s.puts [(F.LGT_DIV_FRAC n, d % 256), (F.LGT_DIV_INT n, d / 256)]).get (F.LGT_DIV_INT n) = d / 256 % 2 ^ 16 := State.get_put_same _ _ _
  have h2 : (s.puts [(F.LGT_DIV_FRAC n, d % 256), (F.LGT_DIV_INT n, d / 256)]).get (F.LGT_DIV_FRAC n) = d % 256 % 2 ^ 8 :=
    (State.get_put_other _ _ hkey).trans (State.get_put_same _ _ _)
  rw [h1, h2]
  omega

theorem State.lgtClear_spec (s : State) (n : Fin 8) :
    (s.lgtClear n).get (F.LGT_SH_SH n) = 0 ∧ (s.lgtClear n).get (F.LGT_STAT_SC n) = 32 ∧ (s.lgtClear n).get (F.LGT_STAT_RC n) = 0 := by
  have hsh : (F.LGT_SH_SH n).key ≠ (F.LGT_STAT_RC n).key ∧ (F.LGT_SH_SH n).key ≠ (F.LGT_STAT_SC n).key := by
    simp only [Fld.key, F.LGT_SH_SH, F.LGT_STAT_RC, F.LGT_STAT_SC]; omega
  have hrc : (F.LGT_STAT_RC n).key ≠ (F.LGT_STAT_SC n).key := by simp only [Fld.key, F.LGT_STAT_RC, F.LGT_STAT_SC]; omega
  exact ⟨(State.get_put_other _ _ hsh.2).trans ((State.get_put_other _ _ hsh.1).trans (State.get_put_same _ _ _)), State.get_put_same _ _ _,
    (State.get_put_other _ _ hrc).trans (State.get_put_same _ _ _)⟩

end Sys2Proof.Machine

namespace Sys2Proof
open Sys2Proof.Machine

/-- Settles O47: a load is one word after the other (`State.loadWords`), and the FIFOs change through `State.lgtFifos`. -/
theorem lightersAreLoadedRunAndFed : Obligations.LightersAreLoadedRunAndFed := by
  unfold Obligations.LightersAreLoadedRunAndFed
  refine ⟨fun x n s h => congrArg Host.Outcome.next (run_accepts h _), fun x n a l s h hpow => ⟨fun hruns => ?load, fun hruns => ?busy⟩,
    fun x n s h hpow => ⟨fun hstopped haff => ?run, fun hnot => ?runs, ?stop, fun hruns => ?clearBusy, fun hruns => ?clear⟩,
    fun x n d s h hpow hlow hhigh => ?div,
    fun side n s h => ⟨fun hstopped hlib hled => ?cmdRun, ?cmdStop, ?cmdClear⟩,
    fun side n s h hruns => ⟨?clrshift, ?setpc, fun k v => ?word⟩, fun side n k v s h hruns => ?refused,
    fun n v s hpow => ⟨fun hroom => ?push, fun hfull => ?overflow, fun hrx => ?emptyPop, fun a r hrx => ?pop⟩⟩
  case load =>
    obtain ⟨howner, hexpert⟩ := lgtCmd_owner h
    have hrun : exec (.lgtLoad x n a l) s = .next (((l.zipIdx.take (32 - a)).foldl
        (fun (u : State) w => u.lgtConfig .console (0x800 + n * 0x80 + 4 * (a + w.2)) w.1.toNat) s).ok x) := by
      refine congrArg Host.Outcome.next ((run_accepts h _).trans ?_)
      rw [State.needDomain_of_powered hpow]
      exact if_neg (by simp [hruns])
    refine ⟨_, hrun, fun k v hv hk => ?_⟩
    exact (State.loadWords (a := a) l (32 - a) 0 s ⟨howner, hexpert, hruns⟩ (by omega)).2 k v hv (by omega)
  case busy =>
    refine ⟨(l.zipIdx.take (32 - a)).foldl (fun (u : State) w => u.lgtConfig .console (0x800 + n * 0x80 + 4 * (a + w.2)) w.1.toNat) s,
      congrArg Host.Outcome.next ((run_accepts h _).trans ?_)⟩
    rw [State.needDomain_of_powered hpow]
    exact if_pos hruns
  case run =>
    refine ⟨s.lgtTo n 1, congrArg Host.Outcome.next ((run_accepts h _).trans ?_), s.lgtState_lgtTo n 1, s.lgtTo_sum n 1⟩
    rw [State.needDomain_of_powered hpow]
    exact (if_neg (not_not_intro hstopped)).trans (settle_affords haff _ _ _)
  case runs =>
    refine congrArg Host.Outcome.next ((run_accepts h _).trans ?_)
    rw [State.needDomain_of_powered hpow]
    exact if_pos hnot
  case stop =>
    refine ⟨s.lgtTo n 0, congrArg Host.Outcome.next ((run_accepts h _).trans ?_), s.lgtState_lgtTo n 0, s.lgtTo_sum n 0⟩
    rw [State.needDomain_of_powered hpow]
    rfl
  case clearBusy =>
    refine congrArg Host.Outcome.next ((run_accepts h _).trans ?_)
    rw [State.needDomain_of_powered hpow]
    exact if_pos hruns
  case clear =>
    refine ⟨s.lgtClear n, congrArg Host.Outcome.next ((run_accepts h _).trans ?_), s.lgtClear_spec n⟩
    rw [State.needDomain_of_powered hpow]
    exact if_neg (by simp [hruns])
  case div =>
    refine ⟨s.lgtSetDiv n d, congrArg Host.Outcome.next ((run_accepts h _).trans ?_), State.lgtSetDiv_spec hlow hhigh⟩
    rw [State.needDomain_of_powered hpow]
  case cmdRun =>
    have hheld : s.lgtHeld n = false := by
      unfold State.lgtHeld
      rcases hlib with hexpert | hlib
      · simp [hstopped, hexpert]
      · simp [hstopped, hlib]
    refine congrArg Host.Outcome.next ((access_reaches (opens_iff.1 h).1 _ _ _ _).trans ((guard_opens h _ _).trans ?_))
    exact (if_neg (by simp [hheld])).trans (underLedger_grants hled _ _ _)
  case cmdStop => exact congrArg Host.Outcome.next ((access_reaches (opens_iff.1 h).1 _ _ _ _).trans (guard_opens h _ _))
  case cmdClear =>
    have hfifos := s.lgtFifos_engine n [] []
    exact ⟨_, congrArg Host.Outcome.next ((access_reaches (opens_iff.1 h).1 _ _ _ _).trans (guard_opens h _ _)),
      (congrArg Engine.tx hfifos :), (congrArg Engine.rx hfifos :)⟩
  case clrshift =>
    refine congrArg Host.Outcome.next ((access_reaches (opens_iff.1 h).1 _ _ _ _).trans ?_)
    rw [hruns]
    exact guardBusy_opens h _ _
  case setpc =>
    refine congrArg Host.Outcome.next ((access_reaches (opens_iff.1 h).1 _ _ _ _).trans ?_)
    rw [hruns]
    exact guardBusy_opens h _ _
  case word =>
    obtain ⟨-, hside, hexpert⟩ := opens_iff.1 h
    exact ⟨_, execLgtImemWrite_run h n k v, (State.lgtConfig_spec ⟨hside, hexpert rfl, hruns⟩ k v).2.1⟩
  case refused =>
    obtain ⟨-, hside, -⟩ := opens_iff.1 h
    exact ⟨_, execLgtImemWrite_run h n k v, State.lgtConfig_refused hside hruns k v.toNat⟩
  case push =>
    refine ⟨s.lgtFifos n ((s.engine n).tx ++ [v.toNat]) (s.engine n).rx, congrArg Host.Outcome.next ?_,
      (congrArg Engine.tx (s.lgtFifos_engine n _ _) :)⟩
    exact (access_reaches (show reaches s .lgt = true from hpow) _ _ _ _).trans (if_neg (Nat.not_le.2 hroom))
  case overflow =>
    exact congrArg Host.Outcome.next ((access_reaches (show reaches s .lgt = true from hpow) _ _ _ _).trans (if_pos hfull))
  case emptyPop =>
    refine ⟨{ s.put (F.LGT_FIFO_RXUNF n) 1 with busData := 0 }, congrArg Host.Outcome.next
      ((access_reaches (show reaches s .lgt = true from hpow) _ _ _ _).trans ?_), rfl, State.get_put_same _ _ _⟩
    unfold State.lgtPop
    dsimp only
    rw [hrx]
  case pop =>
    refine ⟨{ s.lgtFifos n (s.engine n).tx r with busData := BitVec.ofNat 32 a }, congrArg Host.Outcome.next
      ((access_reaches (show reaches s .lgt = true from hpow) _ _ _ _).trans ?_), rfl, (congrArg Engine.rx (s.lgtFifos_engine n _ _) :)⟩
    unfold State.lgtPop
    dsimp only
    rw [hrx]

end Sys2Proof

/-! PROOF. Signing requests, the engine's operations and the checks of OSNMA tags (O53). -/

namespace Sys2Proof.Machine

/-- A derivation that is wanted leaves the queue and the next sequence number. -/
theorem State.deriveKey_crypto (s : State) : s.deriveKey.crypto.queue = s.crypto.queue ∧ s.deriveKey.crypto.sseq = s.crypto.sseq := by
  unfold State.deriveKey
  split
  · exact ⟨rfl, rfl⟩
  · exact ⟨rfl, rfl⟩

theorem State.deriveKeep_auto (s : State) : Same [F.CRYPTO_SFCFG_AUTO] s s.deriveKeep :=
  .ite .refl (.of_put_key (by decide))

/-- A record written into the ring leaves the engine's own fields. -/
theorem State.signRecord_spec (s : State) (l : List Byte) :
    (s.signRecord l).crypto = s.crypto ∧ Same [F.CRYPTO_KEY_BUSY] s (s.signRecord l) := by
  refine ⟨State.signRecord_frame.same .crypto rfl, .ite (.trans (.foldl (fun t k => ?_) _ _) (.of_put_key (by decide))) .refl⟩
  exact .of_part F.CRYPTO_KEY_BUSY_part State.writeBlock_frame rfl

/-- The end of a fix record's signature `r` with the sequence number `q`, from the state `s` in which the engine is free again. -/
def State.fixSigned (s : State) (r : SignReq) (q : Nat) : State :=
  (((s.signRecord (r.body ++ signature r ++ List.replicate 46 0)).put F.CRYPTO_SFSTAT_LAST r.epoch).withCrypto fun c =>
    { c with last := some (r.epoch, r.body, signature r) }).raise Src.SIGN_FIX r.epoch q

/-- What the end of a signature leaves of the engine. -/
theorem execSigningDone_run {r : SignReq} {s : State} (hrun : s.crypto.run = some r) :
    ∃ t : State, exec .signingDone s = .next t ∧ t.crypto.run = none ∧ t.get F.CRYPTO_KEY_BUSY = 0 ∧ t.crypto.queue = s.crypto.queue := by
  obtain ⟨w, hw⟩ : ∃ w, w = (s.withCrypto fun c => { c with run := none }).put F.CRYPTO_KEY_BUSY 0 := ⟨_, rfl⟩
  have hfree : w.crypto.run = none ∧ w.crypto.queue = s.crypto.queue := by rw [hw]; exact ⟨rfl, rfl⟩
  have hidle : w.get F.CRYPTO_KEY_BUSY = 0 := by rw [hw]; exact State.get_put_same _ _ _
  have hanswer : ∀ t u : State, Frame [.rPwr, .rMan, .rMemctl, .rQuay, .mem, .chk, .console, .manApp, .manSys, .power] t u →
      t.crypto.run = none → t.get F.CRYPTO_KEY_BUSY = 0 → t.crypto.queue = s.crypto.queue →
      u.crypto.run = none ∧ u.get F.CRYPTO_KEY_BUSY = 0 ∧ u.crypto.queue = s.crypto.queue := fun t u hf hr hb hq => by
    have hcrypto : u.crypto = t.crypto := hf.same .crypto rfl
    rw [hcrypto]
    exact ⟨hr, (hf.get F.CRYPTO_KEY_BUSY_part rfl).trans hb, hq⟩
  have hshown : ∀ (x : Sess) (tag : String) (l : List String) (q : Nat),
      let t := (((((w.withTag tag).replies x l).ok x).withTag "").raise Src.SIGN_DONE 0 q)
      t.crypto.run = none ∧ t.get F.CRYPTO_KEY_BUSY = 0 ∧ t.crypto.queue = s.crypto.queue := fun x tag l q =>
    hanswer w _ (((((State.withTag_frame.mono rfl).trans State.replies_frame).trans State.ok_frame).trans
      (State.withTag_frame.mono rfl)).trans State.raise_frame) hfree.1 hidle hfree.2
  have hrecorded : ∀ q, (w.fixSigned r q).crypto.run = none ∧ (w.fixSigned r q).get F.CRYPTO_KEY_BUSY = 0 ∧
      (w.fixSigned r q).crypto.queue = s.crypto.queue := fun q => by
    obtain ⟨hcrypto, hbusy⟩ := w.signRecord_spec (r.body ++ signature r ++ List.replicate 46 0)
    refine hanswer _ _ State.raise_frame ((congrArg CryptoState.run hcrypto :).trans hfree.1) ?_ ((congrArg CryptoState.queue hcrypto :).trans hfree.2)
    exact (State.get_put_other _ _ (by decide)).trans (hbusy.get.trans hidle)
  obtain ⟨who, e, b, n⟩ := r
  cases who with
  | attest x tag nonce => exact ⟨_, congrArg Host.Outcome.next (by rw [hrun, hw]), hshown x tag _ (n.getD 0)⟩
  | now x tag =>
    obtain ⟨hr, hb, hq⟩ := hrecorded (n.getD 0)
    refine ⟨(((w.fixSigned ⟨.now x tag, e, b, n⟩ (n.getD 0)).withTag tag).ok x).withTag "", congrArg Host.Outcome.next ?_,
      hanswer (w.fixSigned ⟨.now x tag, e, b, n⟩ (n.getD 0)) _ ?_ hr hb hq⟩
    · rw [hrun, hw]
      rfl
    · exact ((State.withTag_frame.mono rfl).trans State.ok_frame).trans (State.withTag_frame.mono rfl)
  | auto =>
    refine ⟨w.fixSigned ⟨.auto, e, b, n⟩ (n.getD 0), congrArg Host.Outcome.next ?_, hrecorded (n.getD 0)⟩
    rw [hrun, hw]
    rfl

/-! OSNMA tags. -/

/-- Every state of a data set is one that was held or one of a tag that was checked. -/
theorem State.authenticate_osnma (l : List TagResult) : ∀ s : State, ∀ p ∈ (l.foldl State.authenticate s).gnss.osnma,
    p ∈ s.gnss.osnma ∨ ∃ q ∈ l, q.svn = p.svn ∧ q.adkd = p.adkd ∧ q.iod = p.iod := by
  induction l with
  | nil => exact fun s p hp => .inl hp
  | cons q r ih =>
    intro s p hp
    rcases ih _ p hp with hheld | ⟨q', hq', heq⟩
    · by_cases hkind : [0, 4, 12].contains q.adkd = true
      · rw [State.authenticate, if_pos hkind] at hheld
        rcases List.mem_append.1 hheld with hold | hnew
        · exact .inl ((List.mem_filter.1 hold).1)
        · obtain rfl := List.mem_singleton.1 hnew
          exact .inr ⟨q, List.mem_cons_self, rfl, rfl, rfl⟩
      · rw [State.authenticate, if_neg hkind] at hheld
        exact .inl hheld
    · exact .inr ⟨q', List.mem_cons_of_mem _ hq', heq⟩

/-- The checks of tags write the receiver's data sets alone. -/
theorem State.authenticate_kept (l : List TagResult) : ∀ s : State,
    (l.foldl State.authenticate s).gnss.tags = s.gnss.tags ∧ (l.foldl State.authenticate s).regs = s.regs := by
  induction l with
  | nil => exact fun s => ⟨rfl, rfl⟩
  | cons q r ih =>
    intro s
    have hone : (s.authenticate q).gnss.tags = s.gnss.tags ∧ (s.authenticate q).regs = s.regs := by
      unfold State.authenticate
      split
      · exact ⟨rfl, rfl⟩
      · exact ⟨rfl, rfl⟩
    exact ⟨(ih _).1.trans hone.1, (ih _).2.trans hone.2⟩

/-- What was learned of the public key, as the check of tags takes it in. -/
def State.learnKey (s : State) (key : Option Bool) : State :=
  match key with
  | some true =>
    let t := s.puts [(F.GNSS_OSNMA_KEY_OK, 1), (F.GNSS_OSNMA_KEY_P521, 0)]
    if s.on F.GNSS_OSNMA_KEY_OK then t else t.raise0 Src.GNSS_OSNMA_KEY
  | some false => s.puts [(F.GNSS_OSNMA_KEY_OK, 0), (F.GNSS_OSNMA_KEY_P521, 1)]
  | none => s

/-- It leaves the receiver's state and the time. -/
theorem State.learnKey_kept (s : State) (k : Option Bool) : (s.learnKey k).gnss = s.gnss ∧ (s.learnKey k).timeKnown = s.timeKnown := by
  have hframe : Frame [.rPwr, .rMan, .rMemctl, .rQuay, .mem, .chk, .console, .manApp, .manSys, .power, .rGnss] s (s.learnKey k) := by
    have hput : ∀ a b, Frame [.rPwr, .rMan, .rMemctl, .rQuay, .mem, .chk, .console, .manApp, .manSys, .power, .rGnss] s
        (s.puts [(F.GNSS_OSNMA_KEY_OK, a), (F.GNSS_OSNMA_KEY_P521, b)]) := fun a b =>
      State.puts_cons_frame F.GNSS_OSNMA_KEY_OK_part rfl (State.puts_cons_frame F.GNSS_OSNMA_KEY_P521_part rfl State.puts_nil_frame)
    match k with
    | none => exact .refl
    | some false => exact hput 0 1
    | some true => exact .ite (hput 1 0) ((hput 1 0).trans (State.raise0_frame.mono rfl))
  refine ⟨hframe.same .gnss rfl, ?_⟩
  unfold State.timeKnown
  rw [show (s.learnKey k).tide = s.tide from hframe.same .tide rfl]

/-- A P-256 key that is verified, and a key that is not P-521, let tags be checked. -/
theorem State.learnKey_p256 {s : State} {k : Option Bool} (h : k = some true ∨ (k = none ∧ s.on F.GNSS_OSNMA_KEY_P521 = false)) :
    (s.learnKey k).on F.GNSS_OSNMA_KEY_P521 = false := by
  rcases h with rfl | ⟨rfl, hoff⟩
  · have hput : (s.puts [(F.GNSS_OSNMA_KEY_OK, 1), (F.GNSS_OSNMA_KEY_P521, 0)]).get F.GNSS_OSNMA_KEY_P521 = 0 := State.get_put_same _ _ _
    refine State.on_eq_false_iff.2 ?_
    show (if s.on F.GNSS_OSNMA_KEY_OK = true then _ else _ : State).get _ = 0
    split
    · exact hput
    · exact (State.raise0_frame.get F.GNSS_OSNMA_KEY_P521_part rfl).trans hput
  · exact hoff

/-- A check of tags while OSNMA is on. -/
theorem execOsnmaTagCheck_run {s : State} (hon : s.osnmaOn = true) (l : List TagResult) (v f : BitVec 8) (k : Option Bool) (c : Bool) :
    exec (.osnmaTagCheck l v f k c) s = .next (
      let s1 := s.learnKey k
      if !s1.timeKnown then s1.withGnss fun g => { g with tags := g.tags ++ l }
      else if s1.on F.GNSS_OSNMA_KEY_P521 then s1
      else
        let s3 := (s1.gnss.tags ++ l).foldl State.authenticate ((s1.withGnss fun g => { g with tags := [] }).flag F.GNSS_OSNMA_CHAIN_OK c)
        let s4 := s3.raise Src.CRYPTO_OSNMA (v.toNat % 256 + f.toNat % 256 * 256) 0
        if f.toNat = 0 then s4 else s4.raise0 Src.GNSS_OSNMA_FAIL) :=
  congrArg Host.Outcome.next (if_neg (by simp [hon]))

/-- The tags held and given are all taken when the time is known and the key is no P-521 key. -/
theorem execOsnmaTagCheck_taken {s : State} {l : List TagResult} {v f : BitVec 8} {k : Option Bool} {c : Bool} (hon : s.osnmaOn = true)
    (htime : s.timeKnown = true) (hkey : k = some true ∨ (k = none ∧ s.on F.GNSS_OSNMA_KEY_P521 = false)) :
    ∃ t : State, exec (.osnmaTagCheck l v f k c) s = .next t ∧ t.gnss.tags = [] ∧ t.on F.GNSS_OSNMA_CHAIN_OK = c ∧
      ∀ p ∈ t.gnss.osnma, p ∈ s.gnss.osnma ∨ ∃ q ∈ s.gnss.tags ++ l, q.svn = p.svn ∧ q.adkd = p.adkd ∧ q.iod = p.iod := by
  obtain ⟨hgnss, hknown⟩ := s.learnKey_kept k
  have hrun := execOsnmaTagCheck_run hon l v f k c
  dsimp only at hrun
  rw [if_neg (by simp [hknown, htime]), if_neg (by simp [State.learnKey_p256 hkey]), hgnss] at hrun
  generalize hw : ((s.learnKey k).withGnss fun g => { g with tags := [] }).flag F.GNSS_OSNMA_CHAIN_OK c = w at hrun
  have htags : w.gnss.tags = [] := by rw [← hw]; rfl
  have hosnma : w.gnss.osnma = s.gnss.osnma := by rw [← hw]; exact (congrArg GnssState.osnma hgnss :)
  have hchain : w.on F.GNSS_OSNMA_CHAIN_OK = c := by rw [← hw]; exact State.on_flag _ c rfl
  obtain ⟨hfoldTags, hfoldRegs⟩ := State.authenticate_kept (s.gnss.tags ++ l) w
  have hfold := State.authenticate_osnma (s.gnss.tags ++ l) w
  rw [hosnma] at hfold
  generalize hz : (s.gnss.tags ++ l).foldl State.authenticate w = z at hrun hfoldTags hfoldRegs hfold
  have hlast : Frame [.rPwr, .rMan, .rMemctl, .rQuay, .mem, .chk, .console, .manApp, .manSys, .power] z
      (if f.toNat = 0 then z.raise Src.CRYPTO_OSNMA (v.toNat % 256 + f.toNat % 256 * 256) 0
        else (z.raise Src.CRYPTO_OSNMA (v.toNat % 256 + f.toNat % 256 * 256) 0).raise0 Src.GNSS_OSNMA_FAIL) :=
    .ite State.raise_frame (State.raise_frame.trans State.raise0_frame)
  have hkept : _ = z.gnss := hlast.same .gnss rfl
  refine ⟨_, hrun, ?_, ?_, ?_⟩
  · rw [hkept, hfoldTags, htags]
  · refine (State.on_congr (hlast.get F.GNSS_OSNMA_CHAIN_OK_part rfl)).trans ((State.on_congr ?_).trans hchain)
    exact State.get_congr _ hfoldRegs
  · rw [hkept]
    exact hfold

end Sys2Proof.Machine

namespace Sys2Proof
open Sys2Proof.Machine

/-- Settles O53: the queue changes through `State.setQueue`, the engine's end through its run alone, and the checked tags through
`State.authenticate`. -/
theorem signaturesAreQueuedMadeAndReported : Obligations.SignaturesAreQueuedMadeAndReported := by
  unfold Obligations.SignaturesAreQueuedMadeAndReported
  refine ⟨fun x s h => congrArg Host.Outcome.next (run_accepts h _), fun x s h => congrArg Host.Outcome.next (run_accepts h _),
    fun x l s h => ⟨fun hl => ?badNonce, fun hne hlen hfull haff => ?full, fun hne hlen hroom haff hpow => ?queued⟩,
    fun x b s h => ⟨?auto, fun hm => ?noFix, fun m hm hact hroom => ?fixNow⟩,
    fun s => ⟨fun hc => ?rests, fun x tag nonce e b l hq hr hd hw hpow hready hled => ?starts⟩,
    fun s => ⟨fun hnone => ?noRun, fun r hr => execSigningDone_run hr⟩,
    fun s => ⟨fun hd => congrArg Host.Outcome.next (if_neg (by simp [hd])), fun hd => ?derived⟩,
    fun l v f k c s => ⟨fun hoff => congrArg Host.Outcome.next (if_pos (by simp [hoff])), fun hon htime => ?held, fun hon hk => ?p521,
      fun hon htime hkey => execOsnmaTagCheck_taken hon htime hkey⟩⟩
  case badNonce =>
    refine congrArg Host.Outcome.next ((run_accepts h _).trans (if_pos ?_))
    rcases hl with rfl | hlong
    · exact .inl rfl
    · exact .inr hlong
  case full =>
    obtain ⟨hled, hres⟩ := Bool.and_eq_true_iff.1 haff
    refine congrArg Host.Outcome.next ((run_accepts h _).trans ?_)
    rw [if_neg (by simp [hne, hlen]), if_neg (by simp [hled]), if_neg (by simpa using hres), if_pos hfull]
  case queued =>
    obtain ⟨hled, hres⟩ := Bool.and_eq_true_iff.1 haff
    refine ⟨(s.setQueue (s.crypto.queue ++ [⟨.attest x s.console.tag l, 0, [], none⟩])).deriveKey,
      congrArg Host.Outcome.next ((run_accepts h _).trans ?_), (State.deriveKey_crypto _).1, (State.deriveKey_crypto _).2⟩
    rw [if_neg (by simp [hne, hlen]), if_neg (by simp [hled]), if_neg (by simpa using hres), if_neg (Nat.not_le.2 hroom)]
    have hkept : (s.setQueue (s.crypto.queue ++ [⟨.attest x s.console.tag l, 0, [], none⟩])).get F.PWR_DOMS_PG = s.get F.PWR_DOMS_PG :=
      State.get_put_other _ _ (by decide)
    exact congrArg State.deriveKey (State.needDomain_of_powered ((congrArg (bitOf · 11) hkept).trans hpow))
  case auto =>
    refine ⟨_, congrArg Host.Outcome.next (run_accepts h _), (State.on_congr (State.deriveKeep_auto _).get).trans (State.on_flag s b rfl)⟩
  case noFix =>
    refine congrArg Host.Outcome.next ((run_accepts h _).trans ?_)
    rw [hm]
  case fixNow =>
    refine congrArg Host.Outcome.next ((run_accepts h _).trans ?_)
    rw [hm]
    exact (if_neg fun hc => hact hc.1).trans (if_neg (Nat.not_le.2 hroom))
  case rests =>
    refine congrArg Host.Outcome.next ?_
    cases hqueue : s.crypto.queue with
    | nil => rfl
    | cons r rest =>
      refine if_pos ?_
      rcases hc with hc | hc | hc
      · exact absurd (hqueue.symm.trans hc) (by simp)
      · simp [hc]
      · simp [hc]
  case starts =>
    refine ⟨((s.setQueue l).withCrypto fun p => { p with
      run := some ⟨.attest x tag nonce, e, s.statement s.crypto.sseq nonce, some s.crypto.sseq⟩, sseq := (s.crypto.sseq + 1) % 2 ^ 32 }).put
      F.CRYPTO_KEY_BUSY 1, congrArg Host.Outcome.next ?_, rfl, State.get_put_same _ _ _, rfl, rfl⟩
    rw [hq]
    dsimp only
    rw [if_neg (by simp [hr, hd, hw, hpow]), if_neg (by simp [hready]), if_neg (by simp), if_neg (by simp [hled])]
    rfl
  case noRun =>
    refine congrArg Host.Outcome.next ?_
    rw [hnone]
  case derived =>
    refine ⟨_, congrArg Host.Outcome.next (if_pos hd), ?_, ?_, ?_⟩
    · exact (State.raise0_frame.get F.CRYPTO_KEY_READY_part rfl).trans (State.get_put_same _ _ _)
    · exact (State.raise0_frame.get F.CRYPTO_KEY_BUSY_part rfl).trans ((State.get_put_other _ _ (by decide)).trans (State.get_put_same _ _ _))
    · exact (congrArg CryptoState.deriving_ (State.raise0_frame.same .crypto rfl : _ = _) :)
  case held =>
    obtain ⟨hgnss, hknown⟩ := s.learnKey_kept k
    have hrun := execOsnmaTagCheck_run hon l v f k c
    dsimp only at hrun
    rw [if_pos (by simp [hknown, htime])] at hrun
    exact ⟨_, hrun, (congrArg (fun g => GnssState.tags g ++ l) hgnss :), (congrArg GnssState.osnma hgnss :)⟩
  case p521 =>
    subst hk
    have hrun := execOsnmaTagCheck_run hon l v f (some false) c
    dsimp only at hrun
    have hput : (s.learnKey (some false)).get F.GNSS_OSNMA_KEY_P521 = 1 ∧ (s.learnKey (some false)).get F.GNSS_OSNMA_KEY_OK = 0 :=
      ⟨State.get_put_same _ _ _, (State.get_put_other _ _ (by decide)).trans (State.get_put_same _ _ _)⟩
    cases hknown : (s.learnKey (some false)).timeKnown with
    | true =>
      rw [if_neg (by simp [hknown]), if_pos (by unfold State.on; rw [hput.1]; rfl)] at hrun
      exact ⟨_, hrun, (congrArg GnssState.osnma (s.learnKey_kept (some false)).1 :), hput⟩
    | false =>
      rw [if_pos (by simp [hknown])] at hrun
      exact ⟨_, hrun, (congrArg GnssState.osnma (s.learnKey_kept (some false)).1 :), hput⟩

end Sys2Proof

/-! PROOF. Commands, programs and queries of the log store (O43). -/

namespace Sys2Proof.Machine

/-! What replies and the end of a program leave. -/

theorem KeepsMemory.bytes {s t : State} (h : KeepsMemory s t) (hs : s.RingsOff) {a n : Nat} (hlt : a + n ≤ 0x70000000) : t.bytes a n = s.bytes a n := by
  unfold State.bytes
  refine List.map_congr_left fun i hi => (h hs).2.2 _ ?_
  have := List.mem_range.1 hi
  omega

theorem State.finish_keepsMemory (s : State) (x : Sess) (a : AfterSent) (t : String) : KeepsMemory s (s.finish x a t) := by
  unfold State.finish
  exact .ite ((State.emit_keepsMemory _ _ _ _ _ _ _).trans (.of_frame State.sendPrompt_frame rfl rfl rfl)) (State.emit_keepsMemory _ _ _ _ _ _ _)

theorem State.tagged_keepsMemory (s : State) (x : Sess) (tag : String) : KeepsMemory s (((s.withTag tag).ok x).withTag "") :=
  ((KeepsMemory.of_frame State.withTag_frame rfl rfl rfl).trans (State.finish_keepsMemory _ _ _ _)).trans
    (.of_frame State.withTag_frame rfl rfl rfl)

theorem State.tagged_frame {s : State} {x : Sess} {tag : String} :
    Frame [.rPwr, .rMan, .rMemctl, .rQuay, .mem, .chk, .console, .manApp, .manSys, .power] s (((s.withTag tag).ok x).withTag "") :=
  ((State.withTag_frame.mono rfl).trans State.ok_frame).trans (State.withTag_frame.mono rfl)

/-- What the end of an operation leaves: the operation in progress, BUSY, and memory. -/
theorem State.logEnds_spec (s : State) (r : LogRun) :
    (s.logEnds r).logs.op = s.logs.op ∧ Same [F.LOGS_STAT_BUSY] s (s.logEnds r) ∧ KeepsMemory s (s.logEnds r) := by
  have htagged : ∀ (u : State) (x : Sess) (tag : String), u.logs.op = s.logs.op → Same [F.LOGS_STAT_BUSY] s u → KeepsMemory s u →
      (((u.withTag tag).ok x).withTag "").logs.op = s.logs.op ∧ Same [F.LOGS_STAT_BUSY] s (((u.withTag tag).ok x).withTag "") ∧
        KeepsMemory s (((u.withTag tag).ok x).withTag "") := fun u x tag hop hsame hkeep =>
    ⟨(congrArg LogStore.op (State.tagged_frame.same .logs rfl : _ = _) :).trans hop,
      hsame.trans (.of_part F.LOGS_STAT_BUSY_part State.tagged_frame rfl), hkeep.trans (u.tagged_keepsMemory x tag)⟩
  have hdone : (s.logResult r.result |>.raise Src.LOGS_DONE r.page r.result).logs.op = s.logs.op ∧
      Same [F.LOGS_STAT_BUSY] s (s.logResult r.result |>.raise Src.LOGS_DONE r.page r.result) ∧
        KeepsMemory s (s.logResult r.result |>.raise Src.LOGS_DONE r.page r.result) :=
    ⟨(congrArg LogStore.op (State.raise_frame.same .logs rfl : _ = _) :),
      .trans (.of_put_key (by decide)) (.of_part F.LOGS_STAT_BUSY_part State.raise_frame rfl),
      (KeepsMemory.of_put fun m => by simp only [Fld.key, F.MAN_CFG_EN, F.LOGS_STAT_RESULT]; omega).trans (State.raise_keepsMemory _ _ _ _)⟩
  unfold State.logEnds
  cases r.req with
  | prog => exact hdone
  | twinWr => exact hdone
  | twinRd => exact hdone
  | bytes p o l x tag => exact htagged s x tag rfl .refl .refl
  | protect bp who =>
    have hsame : Same [F.LOGS_STAT_BUSY] s ((s.withLogs fun g => { g with bp := bp }).put F.LOGS_PROT_BP bp) :=
      .trans (fun f _ => State.get_withLogs s _ f) (.of_put_key (by decide))
    have hkeep : KeepsMemory s ((s.withLogs fun g => { g with bp := bp }).put F.LOGS_PROT_BP bp) :=
      (KeepsMemory.of_frame State.withLogs_frame rfl rfl rfl).trans
        (.of_put fun m => by simp only [Fld.key, F.MAN_CFG_EN, F.LOGS_PROT_BP]; omega)
    cases who with
    | none => exact ⟨rfl, hsame, hkeep⟩
    | some w => exact htagged _ w.1 w.2 rfl hsame hkeep
  | entry => exact ⟨rfl, .refl, .refl⟩
  | erase => exact ⟨rfl, .refl, .refl⟩

/-- A program leaves its bytes in the page; with the rings off its report moves no other byte. -/
theorem State.program_spec {s : State} (hrings : s.RingsOff) (p : Nat) (l : List Byte) :
    (s.program p l).RingsOff ∧ (p < 960 → l.length = 128 → (s.program p l).page p = l) := by
  unfold State.program
  extract_lets c s1
  have hrings1 : s1.RingsOff :=
    have hon : ∀ m, s1.on (F.MAN_CFG_EN m) = s.on (F.MAN_CFG_EN m) := fun m =>
      State.on_congr (State.get_congr _ (s.setBytes_regs (logAddr (128 * p)) l))
    ⟨(hon 0).trans hrings.1, (hon 1).trans hrings.2⟩
  have hpage1 : l.length = 128 → s1.page p = l := fun hl => by
    have hset := s.bytes_setBytes (logAddr (128 * p)) l
    rw [hl] at hset
    exact hset
  clear_value s1
  have hraise := s1.raise0_keepsMemory Src.LOGS_WORN
  split
  · refine ⟨(hraise hrings1).1, fun hp hl => (hraise.bytes hrings1 ?_).trans (hpage1 hl)⟩
    unfold logAddr
    omega
  · exact ⟨hrings1, fun _ hl => hpage1 hl⟩

/-- The programs of an operation end with the one of its page. -/
theorem State.finishRun_page {s : State} {r : LogRun} (hrings : s.RingsOff) (hreq : r.req ≠ .erase) :
    (s.finishRun r true).RingsOff ∧ (r.page < 960 → r.bytes.length = 128 → (s.finishRun r true).page r.page = r.bytes) := by
  unfold State.finishRun
  rw [if_neg hreq]
  split
  · exact s.program_spec hrings _ _
  · have hjournal : (s.journal r).RingsOff := (s.program_spec hrings _ _).1
    rw [if_pos rfl]
    exact (s.journal r).program_spec hjournal _ _

theorem execLogsWriteDone_run {r : LogRun} {s : State} (hop : s.logs.op = some r) (hreq : r.req ≠ .erase) :
    exec .logsWriteDone s = .next (((s.finishRun r true).endRun).logEnds r) := by
  refine congrArg Host.Outcome.next ?_
  rw [hop]
  exact if_neg hreq

/-! Requests. -/

/-- A request of an idle log store starts at once. -/
theorem State.logRequest_idle {s : State} (hbusy : s.on F.LOGS_STAT_BUSY = false) (hrec : s.on F.LOGS_STAT_RECOV = false)
    (hqueue : s.logs.queue = []) (r : LogReq) : s.logRequest r = s.startReq r := if_neg (by simp [hbusy, hrec, hqueue])

/-- A request waits while an operation runs. -/
theorem State.logRequest_busy {s : State} (hbusy : s.on F.LOGS_STAT_BUSY = true) (r : LogReq) :
    s.logRequest r = let t := s.withLogs fun g => { g with queue := g.queue ++ [r] }
      if r.owners then t.put F.LOGS_STAT_QUEUED 1 else t := if_pos (by simp [hbusy])

/-- A command of the owner that no band forbids is a request. -/
theorem State.logCommand_owner {s : State} {side : Side} (hside : side = s.owner .logs) (hqueued : s.on F.LOGS_STAT_QUEUED = false)
    (hact : s.get F.PWR_PATH_ACT ≠ 2) (r : LogReq) : s.logCommand side r = s.logRequest r := by
  unfold State.logCommand
  rw [if_neg (not_not_intro hside), if_neg (by simp [hqueued]), if_neg fun h => hact h.2.1]

end Sys2Proof.Machine

namespace Sys2Proof
open Sys2Proof.Machine

/-- Settles O43: requests start by `State.startReq`, and the end of a run leaves its page by `State.program_spec`. -/
theorem logsReadProtectAndProgram : Obligations.LogsReadProtectAndProgram := by
  unfold Obligations.LogsReadProtectAndProgram
  refine ⟨fun x cell s h => ⟨congrArg Host.Outcome.next (run_accepts h _), congrArg Host.Outcome.next (run_accepts h _)⟩,
    fun x a n s h => ⟨fun hout => congrArg Host.Outcome.next ((run_accepts h _).trans (if_pos hout)), fun hlow hhigh hend => ?read⟩,
    fun x a d s h => ⟨fun hout => ?badWrite, fun hne hlen ha hfit => ⟨fun hprot => ?protected_, fun huser hfree => ⟨fun hbusy => ?busy,
      fun hbusy hrec hact hqueue => ?write⟩⟩⟩,
    fun x b s h hact hbusy hrec hqueue => ?protect, fun side s hside hqueued => ?overrun,
    fun side s hside hqueued hact => ⟨?prog, ?twinWr, ?twinRd⟩, fun s hbusy => ?waits, fun s hbusy hrec hqueue hpage hprot => ?starts,
    fun s => ⟨fun hbusy => congrArg Host.Outcome.next (if_pos (by simp [hbusy])), fun l hbusy hrec hqueue => ?next⟩,
    fun s hop => ⟨?noWrite, ?noErase⟩, fun r s hop hreq => ?done, fun r s hop hreq => ?erased,
    fun s => ⟨fun hbor => congrArg Host.Outcome.next (if_neg hbor), fun hbor => congrArg Host.Outcome.next (if_pos hbor)⟩⟩
  case read =>
    refine congrArg Host.Outcome.next ((run_accepts h _).trans ((if_neg (by omega)).trans ?_))
    have hone : (n + 15) / 16 = 1 := by omega
    rw [hone]
    have hmin : min 16 (n - 16 * 0) = n := by omega
    simp only [List.range_one, List.map_cons, List.map_nil, hmin, Nat.mul_zero, Nat.add_zero]
  case badWrite =>
    refine congrArg Host.Outcome.next ((run_accepts h _).trans (if_pos ?_))
    simpa using hout
  case protected_ =>
    refine congrArg Host.Outcome.next ((run_accepts h _).trans ((if_neg ?_).trans (if_pos hprot)))
    simp [hne]
    omega
  case busy =>
    refine congrArg Host.Outcome.next ((run_accepts h _).trans ((if_neg ?_).trans ((if_neg ?_).trans (if_pos (by simp [hbusy])))))
    · simp [hne]
      omega
    · simp [hfree]
      omega
  case write =>
    refine ⟨s.startReq (.bytes (a / 128) (a % 128) (d.map (·.toNat)) x s.console.tag), congrArg Host.Outcome.next ((run_accepts h _).trans
      ((if_neg ?_).trans ((if_neg ?_).trans ((if_neg (by simp [hbusy, hrec])).trans ((if_neg fun hc => hact hc.1).trans
        (s.logRequest_idle hbusy hrec hqueue _)))))), State.get_put_same _ _ _, rfl⟩
    · simp [hne]
      omega
    · simp [hfree]
      omega
  case protect =>
    exact ⟨_, congrArg Host.Outcome.next ((run_accepts h _).trans ((if_neg fun hc => hact hc.1).trans (s.logRequest_idle hbusy hrec hqueue _))), rfl⟩
  case overrun =>
    refine ⟨(s.put F.LOGS_STAT_OVR 1).deny .logs 3 0x14 side, congrArg Host.Outcome.next ((if_neg (not_not_intro hside)).trans (if_pos hqueued)),
      (State.deny_same (by decide) _ _ _ _).get.trans (State.get_put_same _ _ _), rfl⟩
  case prog => exact congrArg Host.Outcome.next (State.logCommand_owner hside hqueued hact _)
  case twinWr => exact congrArg Host.Outcome.next (State.logCommand_owner hside hqueued hact _)
  case twinRd => exact congrArg Host.Outcome.next (State.logCommand_owner hside hqueued hact _)
  case waits =>
    rw [State.logRequest_busy hbusy]
    exact ⟨rfl, State.get_put_same _ _ _⟩
  case starts =>
    rw [State.logRequest_idle hbusy hrec hqueue]
    show s.startProg.logs.op = _
    unfold State.startProg
    dsimp only
    rw [if_neg (by simp [hprot]), if_neg (Nat.not_le.2 hpage)]
    rfl
  case next =>
    refine ⟨((s.withLogs fun g => { g with queue := l }).flag F.LOGS_STAT_QUEUED (l.any LogReq.owners)).startReq .erase,
      congrArg Host.Outcome.next ((if_neg (by simp [hbusy, hrec])).trans ?_), rfl, rfl⟩
    rw [hqueue]
  case noWrite => exact congrArg Host.Outcome.next (by rw [hop])
  case noErase => exact congrArg Host.Outcome.next (by rw [hop])
  case done =>
    obtain ⟨hends, hsame, hkeep⟩ := (s.finishRun r true).endRun.logEnds_spec r
    refine ⟨_, execLogsWriteDone_run hop hreq, hends.trans rfl, hsame.get.trans (State.get_put_same _ _ _), fun happ hsys hlen hpage => ?_⟩
    obtain ⟨hrings, hbytes⟩ := State.finishRun_page (s := s) ⟨happ, hsys⟩ hreq
    have hend : KeepsMemory (s.finishRun r true) (s.finishRun r true).endRun :=
      (KeepsMemory.of_frame State.withLogs_frame rfl rfl rfl).trans
        (.of_put fun m => by simp only [Fld.key, F.MAN_CFG_EN, F.LOGS_STAT_BUSY]; omega)
    refine ((hend.trans hkeep).bytes hrings ?_).trans (hbytes hpage hlen)
    unfold logAddr
    omega
  case erased =>
    refine ⟨s.eraseTally.endRun, congrArg Host.Outcome.next ?_, rfl, State.get_put_same _ _ _⟩
    rw [hop]
    exact if_pos hreq

end Sys2Proof

/-! PROOF. What the boot paths leave: the sleep depth, the application core's Doze and the cause of the reset. -/

namespace Sys2Proof.Machine

/-- What every stage of a boot keeps: the sleep depth, and an application core that does not doze. -/
structure Boots (s t : State) : Prop where
  depth : t.power.depth = s.power.depth
  doze : s.app.doze = false → t.app.doze = false

namespace Boots

variable {s t u : State}

theorem refl : Boots s s := ⟨rfl, id⟩

theorem trans (h : Boots s t) (k : Boots t u) : Boots s u := ⟨k.depth.trans h.depth, fun hs => k.doze (h.doze hs)⟩

theorem of_frame {e : List Part} (h : Frame e s t) (hpower : Part.sub [.power] e = false) (happ : Part.sub [.app] e = false) : Boots s t := by
  have ha : t.app = s.app := h.same .app happ
  exact ⟨congrArg Power.depth (h.same .power hpower : _ = _), fun hs => (congrArg Core.doze ha).trans hs⟩

theorem of_reports (h : Reports s t) : Boots s t := by
  have ha : t.app = s.app := h.frame.same .app rfl
  exact ⟨(congrArg Power.depth h.power :), fun hs => (congrArg Core.doze ha).trans hs⟩

theorem of_put {f : Fld} {v : Nat} : Boots s (s.put f v) := ⟨rfl, id⟩

theorem of_puts {l : List (Fld × Nat)} : Boots s (s.puts l) := by
  induction l generalizing s with
  | nil => exact refl
  | cons c r ih => exact of_put.trans (ih (s := s.put c.1 c.2))

theorem ite {c : Prop} [Decidable c] {a b : State} (ha : Boots s a) (hb : Boots s b) : Boots s (if c then a else b) := by
  split
  · exact ha
  · exact hb

theorem foldl {β : Type} {f : State → β → State} (h : ∀ t x, Boots t (f t x)) (l : List β) (t : State) : Boots t (l.foldl f t) := by
  induction l generalizing t with
  | nil => exact refl
  | cons x r ih => exact (h t x).trans (ih (f t x))

end Boots

variable {s : State}

theorem State.raiseK_boots (s : State) (src w2 w3 : Nat) (keys : List (String × String)) : Boots s (s.raiseK src w2 w3 keys) :=
  .of_reports (s.raiseK_reports _ _ _ _)

theorem State.raise_boots (s : State) (src w2 w3 : Nat) : Boots s (s.raise src w2 w3) := .of_reports (s.raise_reports _ _ _)

theorem State.raise0_boots (s : State) (src : Nat) : Boots s (s.raise0 src) := .of_reports (s.raise0_reports _)

/-! The receiver's mode. -/

theorem State.measPut_boots (s : State) (e p : Nat) (l : List (List Nat)) : Boots s (s.measPut e p l) := by
  unfold State.measPut
  refine .ite .refl (.ite (.of_frame State.measWrite_frame rfl rfl) (.trans ?_ (State.raiseK_boots _ _ _ _ _)))
  exact .trans .of_put (.of_frame State.withGnss_frame rfl rfl)

theorem State.retract_boots (s : State) (n : Nat) (es : List Entry) (c : Nat) : Boots s (s.retract n es c) := by
  have hsettle : Boots s (s.settleRecord false n es c) := by
    unfold State.settleRecord
    exact .ite .refl ((s.measPut_boots _ _ _).trans (State.raiseK_boots _ _ _ _ _))
  exact hsettle.trans (.trans (.of_frame State.withGnss_frame rfl rfl) (.of_frame State.modEntries_frame rfl rfl))

theorem State.refuseBonded_boots (s : State) (n c st : Nat) : Boots s (s.refuseBonded n c st) := by
  have hend : ∀ t : State, Boots t (t.endStart n st) := fun t => .of_frame State.endStart_frame rfl rfl
  unfold State.refuseBonded
  refine .ite ?_ (.trans (.ite .refl (s.retract_boots _ _ _)) (hend _))
  refine .trans (.trans (.trans ?_ .of_put) (hend _)) (.of_frame State.afterRefused_frame rfl rfl)
  exact (s.retract_boots _ _ _).trans (.of_frame State.settleUnits_frame rfl rfl)

theorem State.releaseBerth_boots (s : State) (n : Nat) : Boots s (s.releaseBerth n) := by
  have hstop : ∀ t : State, Boots t (t.stopBerth n) := fun t => by
    refine .trans (.trans ?_ .of_put) (.of_frame State.stopLanes_frame rfl rfl)
    refine .trans (.trans (t.refuseBonded_boots _ _ _) (.of_frame State.leavePlaces_frame rfl rfl)) (.of_frame State.modBerth_frame rfl rfl)
  unfold State.releaseBerth
  refine .trans ?_ (hstop _)
  split
  · exact .trans .of_put .of_put
  · exact .refl

theorem State.disableBerth_boots (s : State) (n : Nat) : Boots s (s.disableBerth n) := by
  have hland : ∀ t : State, Boots t ((t.leavePlaces n).landSignal n) := fun t =>
    .trans (.of_frame State.leavePlaces_frame rfl rfl) (.of_frame State.landSignal_frame rfl rfl)
  exact .ite (((s.refuseBonded_boots n 8 0).trans (hland _)).trans .of_put) .refl

theorem State.domainOff_boots (s : State) (d : Nat) : Boots s (s.domainOff d) := by
  have hloss : Boots s (s.domainLoss d) := .of_frame State.domainLoss_frame rfl rfl
  have hcore : ∀ t : State, Boots s t → Boots s { t with app := Core.reset 0x08000000 } := fun t h => ⟨h.depth, fun _ => rfl⟩
  unfold State.domainOff
  exact .ite (.ite (hcore _ (hloss.trans .of_put)) (hloss.trans .of_put)) .refl

/-- The marks of a wipe that begins. -/
def State.beginMarks (s : State) (cause : Nat) (report : Bool) : State :=
  let t := s.puts [(F.MEMCTL_WIPE_BUSY, 1), (F.MEMCTL_WIPE_CAUSE, cause)]
  { t with mems := { t.mems with wipeReport := report } }

theorem State.beginWipe_boots (s : State) (c : Nat) (b : Bool) : Boots s (s.beginWipe c b) := by
  have hdropped : ∀ q, Boots s ((((s.withCrypto fun c => { c with run := none, deriving_ := false }).setQueue q).put F.CRYPTO_KEY_READY 0).put
      F.CRYPTO_KEY_BUSY 0) := fun q => ⟨rfl, id⟩
  have hwiped : Boots s s.signWiped := .ite ((hdropped _).trans (State.raise_boots _ _ _ _)) (hdropped _)
  have hmarked : ∀ t : State, Boots t (t.beginMarks c b) := fun t => ⟨rfl, id⟩
  exact hwiped.trans (.trans (.of_frame State.zeroMem_frame rfl rfl) (hmarked _))

theorem State.domainOn_boots (s : State) (d : Nat) : Boots s (s.domainOn d) := by
  refine .ite .refl (.ite (.of_reports (s.sramOn_reports d)) (.ite ?_ .of_put))
  exact .trans .of_put (State.beginWipe_boots _ _ _)

theorem State.gnssOffTide_boots (s : State) : Boots s s.gnssOffTide := by
  have hpolicy : ∀ t : State, Boots t t.pulsePolicy := fun t => by
    have hmarked : ∀ a b : Bool, Boots t ((t.flag F.TP_STAT_STOPPED a).flag F.TP_STAT_FLAG b) := fun a b => ⟨rfl, id⟩
    have hlate : ∀ (u : State) (n : Nat), Boots u (u.withTp fun p => { p with next := max p.next n }) := fun u n => ⟨rfl, id⟩
    have hpulse : ∀ u : State, Boots u u.pulseOn := fun u => .of_frame State.pulseOn_frame rfl rfl
    unfold State.pulsePolicy
    dsimp only
    refine .ite (.trans ?_ (State.raise0_boots _ _)) ?_
    · exact (Boots.ite ((hmarked _ _).trans (hlate _ _)) (hmarked _ _)).trans (hpulse _)
    · exact (Boots.ite ((hmarked _ _).trans (hlate _ _)) (hmarked _ _)).trans (hpulse _)
  have hhold : ∀ t : State, Boots t t.holdover := fun t => by
    refine .ite (.trans (.trans ?_ (State.raise0_boots _ _)) (hpolicy _)) .refl
    exact .ite ⟨rfl, id⟩ ⟨rfl, id⟩
  exact .ite (.trans (.of_frame State.withTide_frame rfl rfl) (hhold _)) (.of_frame State.withTide_frame rfl rfl)

theorem State.enterMode_boots (s : State) : Boots s s.enterMode := by
  have released : ∀ l : List (Nat × Nat), Boots s (l.foldl (fun t p => t.releaseBerth (s.get (F.PLAN_SLOT_A_BERTH p.1 p.2))) s) :=
    fun l => .foldl (fun t p => t.releaseBerth_boots _) _ _
  have planned : ∀ t : State, Boots t (((((t.withGnss fun g => { g with recording := none }).put F.LOOKOUT_SNAP_VALID 0).planNext).modBerths
      fun b => { b with barred := false }).applyRate.callReplan) := fun t =>
    .trans (.trans (.trans (.trans (.trans (.of_frame State.withGnss_frame rfl rfl) .of_put) (.of_frame State.planNext_frame rfl rfl)) (.of_frame State.modBerths_frame rfl rfl))
      (.of_frame State.applyRate_frame rfl rfl)) (.of_frame State.callReplan_frame rfl rfl)
  unfold State.enterMode
  dsimp only
  refine .trans ?_ (.of_frame State.rfClocks_frame rfl rfl)
  refine .trans ?_ (.of_frame State.deriveMode_frame rfl rfl)
  refine .trans ?_ (.ite (.of_frame (e := [.rRtc]) State.rtcHeritage_frame rfl rfl) .refl)
  refine .ite ?off (.ite ?l5 ?l1)
  case off =>
    refine .trans ?_ (State.gnssOffTide_boots _)
    refine .trans ?_ (State.domainOff_boots _ 7)
    refine .trans ?_ (State.domainOff_boots _ 6)
    refine .trans ?_ (State.domainOff_boots _ 5)
    refine .trans ?_ (.foldl (fun t n => t.disableBerth_boots n) _ _)
    exact (released _).trans (planned _)
  case l5 =>
    refine .trans ?_ (State.domainOn_boots _ 7)
    refine .trans ?_ (State.domainOn_boots _ 6)
    refine .trans ?_ (State.domainOn_boots _ 5)
    exact (released _).trans (planned _)
  case l1 =>
    refine .trans ?_ (State.domainOn_boots _ 13)
    refine .trans ?_ (State.domainOn_boots _ 6)
    refine .trans ?_ (State.domainOn_boots _ 5)
    exact (released _).trans (planned _)

theorem State.bootMode_boots (s : State) (strap : Bool) : Boots s (s.bootMode strap) := by
  have hmode : ∀ t : State, Boots s t → Boots s { t with console := { t.console with heritage := true } } := fun t h => ⟨h.depth, h.doze⟩
  unfold State.bootMode
  dsimp only
  exact .ite (hmode _ ((Boots.of_put.trans .of_puts).trans (State.enterMode_boots _))) .of_put

/-! The log store and the images. -/

theorem State.program_boots (s : State) (p : Nat) (l : List Byte) : Boots s (s.program p l) := by
  have hset : Boots s (s.setBytes (logAddr (128 * p)) l) := .of_frame State.setBytes_frame rfl rfl
  have hcount : ∀ (t : State) (c : Store Nat), Boots t (t.withLogs fun g => { g with counts := c }) := fun t c => ⟨rfl, id⟩
  exact .ite ((hset.trans (hcount _ _)).trans (State.raise0_boots _ _)) (hset.trans (hcount _ _))

theorem State.logRequest_boots (s : State) {r : LogReq} (h : r = .entry ∨ r = .erase) : Boots s (s.logRequest r) := by
  have hstart : Boots s (s.startReq r) := by
    rcases h with rfl | rfl
    · exact ⟨rfl, id⟩
    · exact ⟨rfl, id⟩
  exact .ite (.ite ⟨rfl, id⟩ ⟨rfl, id⟩) hstart

theorem State.systemRecord_boots (s : State) : Boots s s.systemRecord := s.logRequest_boots (.inl rfl)

theorem State.recover_boots (s : State) : Boots s s.recover := by
  have hjournal : Boots s s.recoverJournal.1 := by
    unfold State.recoverJournal
    split
    · split
      · exact s.program_boots _ _
      · split <;> exact .refl
    · split <;> exact .refl
  have hshown : ∀ (t : State) (a b : Nat), Boots t ((t.put F.LOGS_REC_JRNL a).put F.LOGS_REC_TALLY b) := fun t a b => ⟨rfl, id⟩
  exact hjournal.trans (.ite ((hshown _ _ _).trans (State.raise0_boots _ _)) (hshown _ _ _))

theorem State.logRecover_boots (s : State) : Boots s s.logRecover :=
  .trans (.trans .of_put (State.recover_boots _)) (State.logRequest_boots _ (.inr rfl))

theorem State.resolveIntent_boots (s : State) : Boots s s.resolveIntent := by
  unfold State.resolveIntent
  split
  · exact .refl
  · exact .trans (.trans (.of_frame State.withLife_frame rfl rfl) (State.systemRecord_boots _)) (State.raise_boots _ _ _ _)

theorem State.chooseImage_boots (s : State) : Boots s s.chooseImage.1 := by
  unfold State.chooseImage
  dsimp only
  split
  · exact .refl
  · split
    · exact .trans (.trans (.of_frame State.withLife_frame rfl rfl) (State.systemRecord_boots _)) (State.raise0_boots _ _)
    · exact .refl

theorem State.advanceRollback_boots (s : State) : Boots s s.advanceRollback :=
  .ite (.trans (.of_frame State.withLife_frame rfl rfl) (State.raise0_boots _ _)) .refl

theorem State.initRings_boots (s : State) : Boots s s.initRings := by
  have hring : ∀ (t : State) (b n : Nat), Boots t (t.initRing b n) := fun t b n =>
    .of_frame State.initRing_frame rfl rfl
  exact (hring _ _ _).trans (hring _ _ _)

theorem State.bootKey_boots (s : State) : Boots s s.bootKey :=
  .trans (.trans (.trans (.trans (s.domainOn_boots 11) .of_put) (.of_frame State.withCrypto_frame rfl rfl)) .of_put) (State.raise0_boots _ _)

/-! The cause of the last reset. -/

theorem State.get_filtered (s : State) (p : Nat → Bool) {f : Fld} (h : p f.key = true) :
    ({ s with regs := s.regs.filter fun c => p c.1 } : State).get f = s.get f := by
  have hget := Store.get_filter resetOf s.regs p f.key
  rwa [h, if_pos rfl] at hget

/-- The derived levels leave the cause of the last reset, which no level governs. -/
theorem State.allBasic_cause (s : State) : Same [F.SYSCTL_RCAUSE_LAST] s s.allBasic := by
  have hfield : ∀ f, f ∈ [F.SYSCTL_RCAUSE_LAST] → f.part = .rSysctl ∧
      (!((blockAt (f.key / 32)).any fun (b : Block × Nat) => b.2 == 4 && (f.key % 32 == 1 || f.key % 32 == 9))) = true ∧
      (match blockAt (f.key / 32) with | some (b, ofs) => !tabledExpert b ofs (f.key % 32) | none => true) = true := by
    decide
  intro f hf
  obtain ⟨hpart, hlevel, htable⟩ := hfield f hf
  unfold State.allBasic
  extract_lets s1 s2 s3
  have h1 : s1.get f = s.get f := s.get_filtered (fun k =>
    !((blockAt (k / 32)).any fun (b : Block × Nat) => b.2 == 4 && (k % 32 == 1 || k % 32 == 9))) hlevel
  clear_value s1
  have h2 : s2.get f = s1.get f := s1.get_filtered (fun k => match blockAt (k / 32) with
    | some (b, ofs) => !((fun _ => true) b && tabledExpert b ofs (k % 32))
    | none => true) (by simpa using htable)
  clear_value s2
  have h3 : s3.get f = s2.get f := (Frame.foldl (fun t b => State.deriveOwn_frame (s := t) (b := b)) _ _).get hpart rfl
  clear_value s3
  exact ((Frame.foldl (fun _ _ => State.deriveBerth_frame) _ _).get hpart rfl).trans (h3.trans (h2.trans h1))

/-- What a cold path leaves. -/
structure ColdBoot (s t : State) : Prop where
  cause : Same [F.SYSCTL_RCAUSE_LAST] s t
  depth : t.power.depth = s.power.depth
  vbor : t.power.vbor = false
  doze : t.app.doze = false

theorem State.release_cause (s : State) (b : Bool) (w : Word) : Same [F.SYSCTL_RCAUSE_LAST] s (s.release b w) :=
  .of_put (by decide)

/-- The stages of a cold path before the levels are derived keep the cause too. -/
theorem State.sysctl_kept {e : List Part} {t u : State} (h : Frame e t u) (hn : Part.sub [.rSysctl] e = false) :
    Same [F.SYSCTL_RCAUSE_LAST] t u :=
  .of_part F.SYSCTL_RCAUSE_LAST_part h hn

theorem State.zeroMem_boots (s : State) (r : Nat) : Boots s (s.zeroMem r) := .of_frame State.zeroMem_frame rfl rfl

theorem State.coldPath_boots (s : State) (h : BitVec 3) : ColdBoot s (s.coldPath h) := by
  unfold State.coldPath
  extract_lets s1 s2 c s3 s4 s5 s6 s7 supply s8
  have h1 : Boots s s1 ∧ Same [F.SYSCTL_RCAUSE_LAST] s s1 :=
    ⟨.trans (.trans (.trans (.of_frame State.withGnss_frame rfl rfl) (.of_frame State.withLife_frame rfl rfl))
      (State.resolveIntent_boots _)) (.of_frame State.lifeRegs_frame rfl rfl),
     .trans (.trans (.trans (State.sysctl_kept State.withGnss_frame rfl) (State.sysctl_kept State.withLife_frame rfl))
      (State.sysctl_kept State.resolveIntent_frame rfl)) (State.sysctl_kept State.lifeRegs_frame rfl)⟩
  clear_value s1
  have h2 : Boots s1 s2 ∧ Same [F.SYSCTL_RCAUSE_LAST] s1 s2 :=
    ⟨.trans (.trans (.of_frame State.initAon_frame rfl rfl) (State.logRecover_boots _)) (.of_frame State.takeNext_frame rfl rfl),
     .trans (.trans (State.sysctl_kept State.initAon_frame rfl) (State.sysctl_kept State.logRecover_frame rfl))
      (State.sysctl_kept State.takeNext_frame rfl)⟩
  clear_value s2
  have hc : Boots s2 c.1 ∧ Same [F.SYSCTL_RCAUSE_LAST] s2 c.1 :=
    ⟨s2.chooseImage_boots, State.sysctl_kept State.chooseImage_frame rfl⟩
  clear_value c
  have h3 : Boots c.1 s3 ∧ Same [F.SYSCTL_RCAUSE_LAST] c.1 s3 :=
    ⟨.trans (.trans (.ite (State.advanceRollback_boots _) .refl) (.of_frame State.lifeRegs_frame rfl rfl))
      (.of_frame State.slotRegs_frame rfl rfl),
     .trans (.trans (.ite (State.sysctl_kept State.advanceRollback_frame rfl) .refl) (State.sysctl_kept State.lifeRegs_frame rfl))
      (State.sysctl_kept State.slotRegs_frame rfl)⟩
  clear_value s3
  have h4 : Boots s3 s4 ∧ Same [F.SYSCTL_RCAUSE_LAST] s3 s4 :=
    ⟨.trans (.trans (State.bootKey_boots _) (State.zeroMem_boots _ _)) (State.initRings_boots _),
     .trans (.trans (State.sysctl_kept State.bootKey_frame rfl) (State.sysctl_kept State.zeroMem_frame rfl))
      (State.sysctl_kept State.initRings_frame rfl)⟩
  clear_value s4
  have h5 : Boots s4 s5 ∧ Same [F.SYSCTL_RCAUSE_LAST] s4 s5 :=
    ⟨.trans (.trans (State.zeroMem_boots _ _) (State.zeroMem_boots _ _)) (.of_frame State.tideBoot_frame rfl rfl),
     .trans (.trans (State.sysctl_kept State.zeroMem_frame rfl) (State.sysctl_kept State.zeroMem_frame rfl))
      (State.sysctl_kept State.tideBoot_frame rfl)⟩
  clear_value s5
  have h6 : Boots s5 s6 ∧ Same [F.SYSCTL_RCAUSE_LAST] s5 s6 :=
    ⟨.trans (.of_frame State.withLife_frame rfl rfl) (State.bootMode_boots _ _),
     .trans (State.sysctl_kept State.withLife_frame rfl) (State.sysctl_kept State.bootMode_frame rfl)⟩
  clear_value s6
  have h7 : Boots s6 s7 ∧ Same [F.SYSCTL_RCAUSE_LAST] s6 s7 :=
    ⟨.of_frame State.allBasic_frame rfl rfl, s6.allBasic_cause⟩
  clear_value s7
  have hall : Boots s s7 :=
    h1.1.trans (h2.1.trans (hc.1.trans (h3.1.trans (h4.1.trans (h5.1.trans (h6.1.trans h7.1))))))
  have hcause : Same [F.SYSCTL_RCAUSE_LAST] s s7 :=
    h1.2.trans (h2.2.trans (hc.2.trans (h3.2.trans (h4.2.trans (h5.2.trans (h6.2.trans h7.2))))))
  have h8 : Same [F.SYSCTL_RCAUSE_LAST] s7 s8 := State.sysctl_kept State.set_power_frame rfl
  exact ⟨hcause.trans (h8.trans (State.release_cause _ _ _)), hall.depth, rfl, rfl⟩

end Sys2Proof.Machine

/-! PROOF. A watchdog's enable wider than its field (O38); the test access port, debug and recovery (O54). -/

namespace Sys2Proof.Machine

/-- A state in which the watchdog's enable holds more than the one bit of its field. -/
def wideEnable : State := { State.reset with regs := Store.set resetOf State.reset.regs F.SYSCTL_WDTA_EN.key 2 }

/-! Causes of reset. -/

theorem State.recordCause_last (s : State) {c : Nat} (hc : c < 16) (a : Nat) : (s.recordCause c a).get F.SYSCTL_RCAUSE_LAST = c :=
  (State.get_put_other _ _ (by decide)).trans ((State.get_put_same _ _ _).trans (Nat.mod_eq_of_lt hc))

theorem State.resetCold_cause (s : State) {c : Nat} (hc : c < 16) (a : Nat) (h : BitVec 3) :
    (s.resetCold c a h).get F.SYSCTL_RCAUSE_LAST = c :=
  (State.coldPath_boots _ h).cause.get.trans (State.recordCause_last _ hc a)

/-! The test access port. -/

/-- What the selection of an instruction leaves in the port. -/
theorem State.tapSelect_pads (s : State) (i : TapInstr) (c : Nat) : (s.tapSelect i c).pads = { s.pads with
    tap := i, captured := c,
    seen := if i = .extest ∨ i = .clamp ∨ i = .highz then some (match s.pads.seen with | some v => v | none => s.padInputs) else none } := by
  unfold State.tapSelect
  dsimp only
  split
  · exact State.wake_frame.same .pads rfl
  · rfl

/-! Recovery of the log store. -/

theorem State.recover_busy (s : State) : Same [F.LOGS_STAT_BUSY] s s.recover := by
  have hjournal : Same [F.LOGS_STAT_BUSY] s s.recoverJournal.1 := .of_part F.LOGS_STAT_BUSY_part State.recoverJournal_frame rfl
  have hshown : ∀ (t : State) (a b : Nat), Same [F.LOGS_STAT_BUSY] t ((t.put F.LOGS_REC_JRNL a).put F.LOGS_REC_TALLY b) := fun t a b =>
    .trans (.of_put_key (by decide)) (.of_put_key (by decide))
  have hraised : ∀ t : State, Same [F.LOGS_STAT_BUSY] t (t.raise0 Src.LOGS_RECOVER) := fun t => .of_part F.LOGS_STAT_BUSY_part State.raise0_frame rfl
  exact hjournal.trans (.ite ((hshown _ _ _).trans (hraised _)) (hshown _ _ _))

theorem execLogRecoveryDone_erases {s : State} (hrec : s.on F.LOGS_STAT_RECOV = true) (hbusy : s.on F.LOGS_STAT_BUSY = false) :
    ∃ t : State, exec .logRecoveryDone s = .next t ∧ t.get F.LOGS_STAT_RECOV = 0 ∧ t.get F.LOGS_STAT_BUSY = 1 ∧
      t.logs.op.map (·.req) = some .erase := by
  obtain ⟨u, hu⟩ : ∃ u, u = (s.recover.put F.LOGS_STAT_RECOV 0).withLogs fun g => { g with queue := .erase :: g.queue } := ⟨_, rfl⟩
  have hrun : exec .logRecoveryDone s = .next u.startNext := by rw [hu]; exact congrArg Host.Outcome.next (if_pos hrec)
  have hqueue : u.logs.queue = .erase :: s.recover.logs.queue := by rw [hu]; rfl
  have hfree : u.get F.LOGS_STAT_RECOV = 0 := by
    rw [hu]
    exact (State.get_withLogs _ _ _).trans (State.get_put_same _ _ _)
  have hidle : u.on F.LOGS_STAT_BUSY = false := by
    rw [hu]
    exact (State.on_congr ((State.get_withLogs _ _ _).trans ((State.get_put_other _ _ (by decide)).trans s.recover_busy.get))).trans hbusy
  have hnext : u.startNext = ((u.withLogs fun g => { g with queue := s.recover.logs.queue }).flag F.LOGS_STAT_QUEUED
      (s.recover.logs.queue.any LogReq.owners)).startReq .erase := by
    unfold State.startNext
    rw [hidle, State.on_eq_false_iff.2 hfree, if_neg (by decide), hqueue]
  refine ⟨u.startNext, hrun, ?_, ?_, ?_⟩
  · rw [hnext]
    exact (State.get_put_other _ _ (by decide)).trans ((State.get_put_other _ _ (by decide)).trans hfree)
  · rw [hnext]
    exact State.get_put_same _ _ _
  · rw [hnext]
    rfl

end Sys2Proof.Machine

namespace Sys2Proof
open Sys2Proof.Machine

/-- Refutes O38: where the watchdog's enable reads 2, more than its one bit, it counts as on, and WDTA_ENABLE leaves it 2, and not 1. -/
theorem not_resetsRestartWhatTheyName : ¬ Obligations.ResetsRestartWhatTheyName := by
  unfold Obligations.ResetsRestartWhatTheyName
  rintro ⟨-, -, -, -, henable, -⟩
  have hkept : exec .wdtaEnable wideEnable = .next wideEnable := congrArg Host.Outcome.next (if_pos (by decide))
  obtain ⟨t, ht, hone, -⟩ := henable wideEnable
  obtain rfl : wideEnable = t := Host.Outcome.next.inj (hkept.symm.trans ht)
  exact absurd hone (by decide)

/-- Settles O54: each instruction is `State.tapSelect`, a debug reset a cold one, and the end of the recovery starts the erase that it
puts at the queue's front. -/
theorem testAccessAndRecovery : Obligations.TestAccessAndRecovery := by
  unfold Obligations.TestAccessAndRecovery
  refine ⟨fun v n s => ⟨?extest, ?sample⟩, fun s => ⟨?idcode, rfl, ?clamp, ?highz, ?bypass, ?debug⟩, fun s => rfl,
    fun h s => ⟨fun hshut => congrArg Host.Outcome.next (if_neg (by simp [hshut])), fun hopen => ?reset⟩,
    fun s => ⟨fun hrec => congrArg Host.Outcome.next (if_neg (by simp [hrec])), fun hrec hbusy => execLogRecoveryDone_erases hrec hbusy⟩⟩
  case extest =>
    have hpads := s.tapSelect_pads .extest (s.boundaryCapture 0)
    refine ⟨_, rfl, (congrArg Pads.tap hpads :), rfl, (congrArg Pads.captured hpads :), ?_⟩
    exact (congrArg (fun d => (Pads.seen d).isSome) hpads :).trans rfl
  case sample =>
    have hpads := s.tapSelect_pads .samplePreload (s.boundaryCapture n.toNat)
    exact ⟨_, rfl, (congrArg Pads.tap hpads :), rfl, (congrArg Pads.captured hpads :), (congrArg Pads.seen hpads :), (congrArg Pads.level hpads :)⟩
  case idcode =>
    have hpads := s.tapSelect_pads .idcode idcode
    exact ⟨_, rfl, congrArg Pads.tap hpads, congrArg Pads.captured hpads, rfl⟩
  case clamp =>
    have hpads := s.tapSelect_pads .clamp 0
    refine ⟨_, rfl, congrArg Pads.tap hpads, (congrArg Pads.boundary hpads :), fun v hv => ?_⟩
    rw [hpads]
    dsimp only
    rw [hv]
    rfl
  case highz =>
    have hpads := s.tapSelect_pads .highz 0
    refine ⟨_, rfl, congrArg Pads.tap hpads, fun hv => ?_⟩
    rw [hpads]
    dsimp only
    rw [hv]
    rfl
  case bypass =>
    have hpads := s.tapSelect_pads .bypass 0
    exact ⟨_, rfl, congrArg Pads.tap hpads, congrArg Pads.seen hpads⟩
  case debug =>
    refine ⟨_, rfl, ?_⟩
    have hpads := s.tapSelect_pads (if s.debugOpen then .debug else .bypass) 0
    exact (congrArg Pads.tap (State.raiseK_frame.same .pads rfl : _ = _)).trans (congrArg Pads.tap hpads)
  case reset => exact ⟨_, congrArg Host.Outcome.next (if_pos hopen), s.resetCold_cause (by decide) _ _⟩

end Sys2Proof

/-! PROOF. Transitions of the lifecycle and loads of images (O39). -/

namespace Sys2Proof.Machine

/-- What the registers of the slots and the firmware's record leave of the lifecycle. -/
theorem State.recorded_life (s : State) : s.slotRegs.systemRecord.life = s.life :=
  (State.systemRecord_frame.same .life rfl : _ = _).trans (State.slotRegs_frame.same .life rfl)

theorem State.endLoad_load (s : State) (l : ImageLoad) : (s.endLoad l).life.load = none := by
  unfold State.endLoad
  extract_lets slot done rest s1
  have h1 : s1.life.load = none := congrArg Life.load (State.slotRegs_frame.same .life rfl : _ = _)
  clear_value s1
  refine (congrArg Life.load (State.raiseK_frame.same .life rfl : _ = _)).trans ?_
  exact (congrArg Life.load (State.systemRecord_frame.same .life rfl : _ = _)).trans h1

/-- A byte that is not the load's last one lands, and the load goes on. -/
theorem execImageDataByte_goes {s : State} {l : ImageLoad} (b : Byte) (hl : s.life.load = some l) (hnot : l.at_ + 1 ≠ l.length) :
    ∃ t : State, exec (.imageDataByte b) s = .next t ∧ t.life.load = some { l with at_ := l.at_ + 1 } ∧
      ((l.at_ + 1) % 4096 ≠ 0 → t.mem = (s.setByte (imageAddr s.inactive l.length l.at_) b).mem) := by
  obtain ⟨u, hu⟩ : ∃ u, u = ((s.setByte (imageAddr s.inactive l.length l.at_) b).freshCheck (imageAddr s.inactive l.length l.at_ / 16)).withLife
      fun f => { f with load := some { l with at_ := l.at_ + 1 } } := ⟨_, rfl⟩
  have hload : u.life.load = some { l with at_ := l.at_ + 1 } := by rw [hu]; rfl
  have hmem : u.mem = (s.setByte (imageAddr s.inactive l.length l.at_) b).mem := by
    rw [hu]
    exact (State.withLife_frame.same .mem rfl : _ = _).trans (State.freshCheck_frame.same .mem rfl)
  have hrun : exec (.imageDataByte b) s = .next (if (l.at_ + 1) % 4096 = 0 then
      (u.withLife fun f => { f with progress := (f.progress.filter fun p => p.1 != s.inactive) ++ [(s.inactive, l.length, l.at_ + 1)] }).systemRecord
      else u) := by
    refine congrArg Host.Outcome.next ?_
    rw [hl, hu]
    exact if_neg hnot
  by_cases hsector : (l.at_ + 1) % 4096 = 0
  · refine ⟨_, hrun.trans (congrArg Host.Outcome.next (if_pos hsector)), ?_, fun h => absurd hsector h⟩
    exact (congrArg Life.load (State.systemRecord_frame.same .life rfl : _ = _)).trans hload
  · exact ⟨u, hrun.trans (congrArg Host.Outcome.next (if_neg hsector)), hload, fun _ => hmem⟩

/-- A load that is started. -/
theorem execLifeImageLoad_starts {x : Sess} {p : Bool} {n : Nat} {s : State} (h : accepts s x lifeCmd = true) (hlow : 4100 ≤ n) (hhigh : n ≤ 2097152)
    (hnext : s.life.next = false) (hload : s.life.load = none) (hport : x = (if p then .i2c else .uart0)) :
    ∃ t : State, exec (.lifeImageLoad x p n) s = .next (t.ok x) ∧
      t.life.load = some ⟨x, n, match s.incomplete s.inactive with | some q => if q.1 = n then q.2 else 0 | none => 0⟩ := by
  refine ⟨_, congrArg Host.Outcome.next ((run_accepts h _).trans ((if_neg (by omega)).trans (if_neg ?_))), ?_⟩
  · rw [hnext, hload, hport]
    simp
  · exact (congrArg Life.load (State.recorded_life _)).trans rfl

end Sys2Proof.Machine

namespace Sys2Proof
open Sys2Proof.Machine

/-- Settles O39: a transition that is granted ends in `State.resetCold`, and a load moves by `State.endLoad` and its own record alone. -/
theorem lifecycleMovesAndImagesLoad : Obligations.LifecycleMovesAndImagesLoad := by
  unfold Obligations.LifecycleMovesAndImagesLoad
  refine ⟨fun x g c h s ha => ⟨fun hlist => ?unlisted, fun hlist hc => ?code, fun hlist hc hload => ?loading, fun e hlist hc hload he => ?refused,
      fun hlist hc hload hgrant => ?granted⟩,
    by decide,
    fun x p n s h => ⟨fun hout => ?length, fun hlow hhigh hconf => ?conflict, fun hlow hhigh hnext hload hport =>
      execLifeImageLoad_starts h hlow hhigh hnext hload hport⟩,
    fun b s => ⟨fun hload => ?noByte, fun l hload hnot => execImageDataByte_goes b hload hnot, fun l hload hlast => ?lastByte⟩,
    fun s => ⟨fun hload => ?noGap, ?gap⟩,
    fun x s h => ⟨fun hload => ?running, fun hload hinc => ?partial_, fun hload hinc hvalid => ?invalid, fun hload hinc hvalid => ?commit⟩,
    fun x s h => congrArg Host.Outcome.next (run_accepts h _)⟩
  case unlisted => exact congrArg Host.Outcome.next ((run_accepts ha _).trans (if_pos (by simp [hlist])))
  case code => exact congrArg Host.Outcome.next ((run_accepts ha _).trans ((if_neg (by simp [hlist])).trans (if_pos hc)))
  case loading =>
    exact congrArg Host.Outcome.next ((run_accepts ha _).trans ((if_neg (by simp [hlist])).trans ((if_neg (not_not_intro hc)).trans (if_pos hload))))
  case refused =>
    refine congrArg Host.Outcome.next ((run_accepts ha _).trans ((if_neg (by simp [hlist])).trans ((if_neg (not_not_intro hc)).trans
      ((if_neg (by simp [hload])).trans ?_))))
    rw [he]
  case granted =>
    cases c with
    | none => exact absurd hc (by simp)
    | some v =>
      refine ⟨_, execLifeGo_of_accepted ha hlist (Option.some.inj hc).symm hload hgrant h, ?_⟩
      exact State.resetCold_cause _ (by decide) _ _
  case length => exact congrArg Host.Outcome.next ((run_accepts h _).trans (if_pos hout))
  case conflict => exact congrArg Host.Outcome.next ((run_accepts h _).trans ((if_neg (by omega)).trans (if_pos hconf)))
  case noByte =>
    refine congrArg Host.Outcome.next ?_
    rw [hload]
  case lastByte =>
    refine ⟨((s.setByte (imageAddr s.inactive l.length l.at_) b).freshCheck (imageAddr s.inactive l.length l.at_ / 16)).endLoad
      { l with at_ := l.at_ + 1 }, congrArg Host.Outcome.next ?_, State.endLoad_load _ _⟩
    rw [hload]
    exact if_pos hlast
  case noGap =>
    refine congrArg Host.Outcome.next ?_
    rw [hload]
  case gap =>
    cases hload : s.life.load with
    | none => exact ⟨s, congrArg Host.Outcome.next (by rw [hload]), hload⟩
    | some l => exact ⟨s.endLoad l, congrArg Host.Outcome.next (by rw [hload]), s.endLoad_load l⟩
  case running => exact congrArg Host.Outcome.next ((run_accepts h _).trans (if_pos hload))
  case partial_ => exact congrArg Host.Outcome.next ((run_accepts h _).trans ((if_neg (by simp [hload])).trans (if_pos hinc)))
  case invalid =>
    exact congrArg Host.Outcome.next ((run_accepts h _).trans ((if_neg (by simp [hload])).trans ((if_neg (by simp [hinc])).trans
      (if_pos (by simp [hvalid])))))
  case commit =>
    refine ⟨_, congrArg Host.Outcome.next ((run_accepts h _).trans ((if_neg (by simp [hload])).trans ((if_neg (by simp [hinc])).trans
      (if_neg (by simp [hvalid]))))), ?_⟩
    exact congrArg Life.next (State.recorded_life _)

end Sys2Proof

/-! PROOF. Sleep, wake and brown-out (O34). -/

namespace Sys2Proof.Machine

/-! Domains. -/

section

variable {f : Fld} (hp : f.part = .rPwr) (hr : ∀ g ∈ reportFields, f.key ≠ g.key)
include hp hr

/-- A domain that is powered leaves the power manager's other registers. -/
theorem State.domainOn_same (s : State) (d : Nat) : Same [f] s (s.domainOn d) := by
  have hdoms : f.key ≠ F.PWR_DOMS_PG.key := hr _ (by simp [reportFields])
  have hwiped : ∀ t : State, Same [f] t t.signWiped := fun t => by
    have hend : ∀ q, Same [f] t ((((t.withCrypto fun c => { c with run := none, deriving_ := false }).setQueue q).put
        F.CRYPTO_KEY_READY 0).put F.CRYPTO_KEY_BUSY 0) := fun q =>
      Same.of_part hp (Frame.trans (Frame.trans (Frame.trans (e := [.crypto, .rCrypto]) (Frame.mono State.withCrypto_frame rfl)
        (Frame.mono State.setQueue_frame rfl)) (State.put_frame F.CRYPTO_KEY_READY_part rfl))
        (State.put_frame F.CRYPTO_KEY_BUSY_part rfl)) rfl
    exact .ite ((hend _).trans ((State.raise_reports _ _ _ _).same hp hr)) (hend _)
  have hwipe : ∀ (t : State) (c : Nat) (b : Bool), Same [f] t (t.beginWipe c b) := fun t c b => by
    have hzero : Same [f] t (t.signWiped.zeroMem 27) := (hwiped t).trans (.of_part hp State.zeroMem_frame rfl)
    have hputs : ∀ u : State, Same [f] u (u.puts [(F.MEMCTL_WIPE_BUSY, 1), (F.MEMCTL_WIPE_CAUSE, c)]) := fun u =>
      Same.of_part hp (e := [.rMemctl]) (State.puts_cons_frame F.MEMCTL_WIPE_BUSY_part rfl
        (State.puts_cons_frame F.MEMCTL_WIPE_CAUSE_part rfl State.puts_nil_frame)) rfl
    exact hzero.trans (hputs _)
  have hput : ∀ v, Same [f] s (s.put F.PWR_DOMS_PG v) := fun v => Same.of_put_key hdoms
  exact .ite .refl (.ite ((State.sramOn_reports s d).same hp hr) (.ite ((hput _).trans (hwipe _ _ _)) (hput _)))

end

theorem State.powered_withBit (s : State) (d e : Nat) (hd : d < 14) :
    (s.put F.PWR_DOMS_PG (withBit (s.get F.PWR_DOMS_PG) e false)).powered d = if d = e then false else s.powered d :=
  State.bitOf_put_withBit hd

/-- A domain that is switched off is not powered, and powers no other. -/
theorem State.domainOff_unpowered {s : State} {d e : Nat} (hd : d < 14) (h : d = e ∨ s.powered d = false) : (s.domainOff e).powered d = false := by
  have hloss : (s.domainLoss e).get F.PWR_DOMS_PG = s.get F.PWR_DOMS_PG := State.domainLoss_frame.get F.PWR_DOMS_PG_part rfl
  have hput : ((s.domainLoss e).put F.PWR_DOMS_PG (withBit (s.get F.PWR_DOMS_PG) e false)).powered d = false := by
    rw [← hloss, State.powered_withBit _ _ _ hd]
    split
    · rfl
    next hne => exact (congrArg (bitOf · d) hloss).trans (h.resolve_left hne)
  unfold State.domainOff
  split
  · dsimp only
    split
    · exact hput
    · exact hput
  next hoff =>
    rcases h with rfl | h
    · exact Bool.eq_false_iff.2 hoff
    · exact h

/-- A key that is not ready stays so while domains are switched off. -/
theorem State.domainOff_key {s : State} (h : s.get F.CRYPTO_KEY_READY = 0) (d : Nat) : (s.domainOff d).get F.CRYPTO_KEY_READY = 0 := by
  have keep : ∀ {e : List Part} {t : State}, Frame e s t → Part.sub [.rCrypto] e = false → t.get F.CRYPTO_KEY_READY = 0 := fun hf hn =>
    (hf.get F.CRYPTO_KEY_READY_part hn).trans h
  have hlost : s.signLost.get F.CRYPTO_KEY_READY = 0 := (State.get_put_other _ _ (by decide)).trans (State.get_put_same _ _ _)
  have hclear : ∀ b : Block, Part.sub [b.part] [.rLookout, .rLgt] = true → Frame [.rLookout, .rLgt] s (s.clearBlock b) := fun b hb =>
    State.clearBlock_frame hb
  have hloss : (s.domainLoss d).get F.CRYPTO_KEY_READY = 0 := by
    unfold State.domainLoss
    split
    · exact keep (e := [.mem, .chk, .mems]) (.ite (.ite .refl State.loseMem_frame)
        (Frame.trans (.ite .refl State.loseMem_frame) State.loseMem_frame)) rfl
    · exact keep State.sramOff_frame rfl
    · exact keep State.sramOff_frame rfl
    · exact keep State.sramOff_frame rfl
    · exact keep State.gbbOff_frame rfl
    · exact ((hclear .lookout rfl).get F.CRYPTO_KEY_READY_part rfl).trans h
    · exact keep State.perOff_frame rfl
    · exact ((hclear .lgt rfl).get F.CRYPTO_KEY_READY_part rfl).trans h
    · exact keep State.anaOff_frame rfl
    · exact (State.get_put_other _ _ (by decide)).trans ((State.loseMem_frame.get F.CRYPTO_KEY_READY_part rfl).trans hlost)
    · exact h
  have hput : ∀ v, ((s.domainLoss d).put F.PWR_DOMS_PG v).get F.CRYPTO_KEY_READY = 0 := fun v =>
    (State.get_put_other _ _ (by decide)).trans hloss
  unfold State.domainOff
  split
  · dsimp only
    split
    · exact hput _
    · exact hput _
  · exact h

/-! The power-down. -/

theorem State.domainsOff_key (l : List Nat) : ∀ s : State, s.get F.CRYPTO_KEY_READY = 0 →
    (l.foldl (fun (t : State) d => t.domainOff d) s).get F.CRYPTO_KEY_READY = 0 := by
  induction l with
  | nil => exact fun s h => h
  | cons d r ih => exact fun s h => ih _ (State.domainOff_key h d)

theorem State.domainsOff_unpowered (l : List Nat) {d : Nat} (hd : d < 14) : ∀ s : State, d ∈ l ∨ s.powered d = false →
    (l.foldl (fun (t : State) e => t.domainOff e) s).powered d = false := by
  induction l with
  | nil => exact fun s h => h.resolve_left (by simp)
  | cons e r ih =>
    intro s h
    refine ih _ ?_
    by_cases hde : d = e
    · exact .inr (State.domainOff_unpowered hd (.inl hde))
    · rcases h with hmem | hoff
      · exact .inl ((List.mem_cons.1 hmem).resolve_left hde)
      · exact .inr (State.domainOff_unpowered hd (.inr hoff))

theorem execPwrBorWarn_begins {c : BorCause} {s : State} (hbor : s.power.bor = 0) (hc : c ≠ .noSource ∨ s.get F.PWR_PATH_ACT = 0) :
    ∃ t : State, exec (.pwrBorWarn c) s = .next t ∧ t.power.bor = 1 ∧ t.power.borArmed = s.on F.PWR_STAT_ARMED ∧
      t.get F.CRYPTO_KEY_READY = 0 ∧ t.powered 6 = false := by
  have hgo : ¬ (s.power.bor ≠ 0 ∨ (c = .noSource ∧ s.get F.PWR_PATH_ACT ≠ 0)) := by
    rintro (h | ⟨hno, hact⟩)
    · exact h hbor
    · rcases hc with hc | hc
      · exact hc hno
      · exact hact hc
  obtain ⟨u, hu⟩ : ∃ u, u = ((s.raise0 Src.PWR_BOR_WARN).fire 28).signLost := ⟨_, rfl⟩
  obtain ⟨v, hv⟩ : ∃ v, v = [5, 6, 7, 9, 10, 11, 8].foldl (fun (t : State) d => t.domainOff d) u := ⟨_, rfl⟩
  have hkey : v.get F.CRYPTO_KEY_READY = 0 := by
    rw [hv]
    refine State.domainsOff_key _ _ ?_
    rw [hu]
    exact (State.get_put_other _ _ (by decide)).trans (State.get_put_same _ _ _)
  have hoff : v.powered 6 = false := by
    rw [hv]
    exact State.domainsOff_unpowered _ (by decide) _ (.inl (by decide))
  have hrun : exec (.pwrBorWarn c) s = .next (let w := v.tideToAon.put F.TP_STAT_ON 0
      { w with power := { w.power with bor := 1, borArmed := s.on F.PWR_STAT_ARMED } }) := by
    rw [hv, hu]
    exact congrArg Host.Outcome.next (if_neg hgo)
  refine ⟨_, hrun, rfl, rfl, ?_, ?_⟩
  · show (v.tideToAon.put F.TP_STAT_ON 0).get F.CRYPTO_KEY_READY = 0
    exact (State.get_put_other _ _ (by decide)).trans ((State.tideToAon_frame.get F.CRYPTO_KEY_READY_part rfl).trans hkey)
  · have haon : v.tideToAon.get F.PWR_DOMS_PG = (v.put F.PWR_DOMS_PG (withBit (v.get F.PWR_DOMS_PG) 13 false)).get F.PWR_DOMS_PG :=
      (State.pulseOn_frame.get F.PWR_DOMS_PG_part rfl).trans rfl
    have hoff6 : (v.tideToAon.put F.TP_STAT_ON 0).get F.PWR_DOMS_PG = v.tideToAon.get F.PWR_DOMS_PG := State.get_put_other _ _ (by decide)
    refine (congrArg (bitOf · 6) (hoff6.trans haon)).trans ?_
    exact (v.powered_withBit 6 13 (by decide)).trans hoff

/-- The power manager's own state but the sources that it holds for the wake. -/
def State.supply (s : State) : Power := { s.power with heldSrc := [] }

theorem Frame.supply {e : List Part} {s t : State} (h : Frame e s t) (hn : Part.sub [.power] e = false) : t.supply = s.supply :=
  congrArg (fun p : Power => { p with heldSrc := [] }) (h.same .power hn : _ = _)

theorem State.program_supply (s : State) (p : Nat) (l : List Byte) : (s.program p l).supply = s.supply := by
  have hset : (s.setBytes (logAddr (128 * p)) l).supply = s.supply := State.setBytes_frame.supply rfl
  unfold State.program
  extract_lets c t
  have ht : t.supply = s.supply := hset
  clear_value t
  split
  · exact (t.raise0_reports _).power.trans ht
  · exact ht

/-- So does the program in progress that completes. -/
theorem State.finishProgram_supply (s : State) : s.finishProgram.supply = s.supply := by
  have hrun : ∀ r, (s.finishRun r false).supply = s.supply := fun r => by
    unfold State.finishRun
    split
    · exact State.eraseTally_frame.supply rfl
    · split
      · exact s.program_supply _ _
      · exact s.program_supply _ _
  unfold State.finishProgram
  split
  · exact hrun _
  · rfl

/-! Resets that the supplies bring. -/

theorem State.puts_rtc (s : State) (l : List (Fld × Nat)) : (s.puts l).rtc = s.rtc := by
  induction l generalizing s with
  | nil => rfl
  | cons c r ih => exact ih (s.put c.1 c.2)

theorem State.wipeSwitched_bin (s : State) (b : Bool) : (s.wipeSwitched b).rtc.bin = s.rtc.bin := by
  unfold State.wipeSwitched
  rfl

theorem State.resetSwitched_bin (s : State) (b : Bool) : (s.resetSwitched b).rtc.bin = s.rtc.bin := by
  have htear : ∀ r, (s.tear r).rtc = s.rtc := fun r => State.tear_frame.same .rtc rfl
  unfold State.resetSwitched
  extract_lets t
  have ht : t.rtc = s.rtc := by
    unfold t
    split
    · exact htear _
    · rfl
  clear_value t
  refine (congrArg RtcState.bin (State.newCode_frame.same .rtc rfl : _ = _)).trans ?_
  refine (congrArg RtcState.bin (State.nominal_frame.same .rtc rfl : _ = _)).trans ?_
  exact (congrArg RtcState.bin (State.puts_rtc _ _)).trans ((t.wipeSwitched_bin b).trans (congrArg RtcState.bin ht))

/-- The warm path leaves the cause, the depth and the clock, and an application core that does not doze. -/
theorem State.warmPath_boots (s : State) (h : BitVec 3) :
    Same [F.SYSCTL_RCAUSE_LAST] s (s.warmPath h) ∧ (s.warmPath h).power.depth = s.power.depth ∧ (s.warmPath h).app.doze = false ∧
      (s.warmPath h).rtc = s.rtc := by
  have hrtc : (s.warmPath h).rtc = s.rtc := State.warmPath_frame.same .rtc rfl
  have hcold := s.coldPath_boots h
  by_cases hrec : s.life.record = some s.bootFacts
  · have hw : ∃ u w, s.warmPath h = State.release { u with sys := Core.reset 0x08000000 } true w ∧ Frame [.rLife, .mem, .chk, .mems] s u := by
      refine ⟨_, _, if_pos hrec, ?_⟩
      have hzero : ∀ (t : State) (n : Nat), Frame [.rLife, .mem, .chk, .mems] t (if bitOf t.mems.bad n then t.zeroMem n else t) := fun t n =>
        .ite (State.zeroMem_frame.mono rfl) .refl
      exact (((State.lifeRegs_frame.mono rfl).trans (State.slotRegs_frame.mono rfl)).trans (State.zeroMem_frame.mono rfl)).trans
        ((hzero _ 25).trans (hzero _ 26))
    obtain ⟨u, w, hw, hframe⟩ := hw
    refine ⟨?_, ?_, ?_, hrtc⟩
    · rw [hw]
      exact (State.sysctl_kept hframe rfl).trans (State.release_cause { u with sys := Core.reset 0x08000000 } true w)
    · rw [hw]
      exact (congrArg Power.depth (hframe.same .power rfl : _ = _) :)
    · rw [hw]
      rfl
  · have hw : s.warmPath h = s.coldPath h := if_neg hrec
    rw [hw] at hrtc ⊢
    exact ⟨hcold.cause, hcold.depth, hcold.doze, hrtc⟩

/-- What a core brown-out keeps and leaves. -/
theorem execCoreBrownOut_restarts (h : BitVec 3) (s : State) : ∃ t : State, exec (.coreBrownOut h) s = .next t ∧
    t.get F.SYSCTL_RCAUSE_LAST = 2 ∧ t.rtc.bin = s.rtc.bin ∧ t.app.doze = false := by
  refine ⟨_, rfl, ?_⟩
  extract_lets strap s1 s2 s3 s4
  have h1 : s1.get F.SYSCTL_RCAUSE_LAST = 2 ∧ s1.rtc.bin = s.rtc.bin := by
    refine ⟨State.recordCause_last _ (by decide) _, ?_⟩
    refine (congrArg RtcState.bin (State.recordCause_frame.same .rtc rfl : _ = _)).trans ((State.resetSwitched_bin _ _).trans ?_)
    exact congrArg RtcState.bin (State.tideToAon_frame.same .rtc rfl : _ = _)
  clear_value s1
  have h2 : s2.get F.SYSCTL_RCAUSE_LAST = 2 ∧ s2.rtc.bin = s.rtc.bin := by
    have hframe : Frame [.rPwr, .rMemctl, .mem, .chk, .mems] s1 s2 :=
      (State.count_frame (of_decide_eq_true rfl : F.PWR_STAT_CBOR_CNT.part = .rPwr) rfl).trans State.initRings_frame
    exact ⟨(hframe.get F.SYSCTL_RCAUSE_LAST_part rfl).trans h1.1, (congrArg RtcState.bin (hframe.same .rtc rfl : _ = _)).trans h1.2⟩
  clear_value s2
  have h3 : s3.get F.SYSCTL_RCAUSE_LAST = 2 ∧ s3.rtc.bin = s.rtc.bin ∧ s3.app.doze = false := by
    obtain ⟨hcause, -, hdoze, hrtc⟩ := s2.warmPath_boots h
    refine ⟨(State.tideToFast_frame.get F.SYSCTL_RCAUSE_LAST_part rfl).trans (hcause.get.trans h2.1), ?_, ?_⟩
    · exact (congrArg RtcState.bin (State.tideToFast_frame.same .rtc rfl : _ = _)).trans ((congrArg RtcState.bin hrtc).trans h2.2)
    · exact (congrArg Core.doze (State.tideToFast_frame.same .app rfl : _ = _)).trans hdoze
  clear_value s3
  have h4 : s4.get F.SYSCTL_RCAUSE_LAST = 2 ∧ s4.rtc.bin = s.rtc.bin ∧ s4.app.doze = false := by
    have hbasic : (s3.bootMode strap).allBasic.rtc = (s3.bootMode strap).rtc ∧ (s3.bootMode strap).allBasic.app = (s3.bootMode strap).app :=
      ⟨State.allBasic_frame.same .rtc rfl, State.allBasic_frame.same .app rfl⟩
    have hmode : (s3.bootMode strap).rtc = s3.rtc := State.bootMode_frame.same .rtc rfl
    have h4 : s4 = (s3.bootMode strap).allBasic := rfl
    rw [h4, hbasic.1, hbasic.2, hmode]
    refine ⟨(s3.bootMode strap).allBasic_cause.get.trans ((State.bootMode_frame.get F.SYSCTL_RCAUSE_LAST_part rfl).trans h3.1), h3.2.1,
      (s3.bootMode_boots strap).doze h3.2.2⟩
  clear_value s4
  have hlast : ∀ t : State, t.get F.SYSCTL_RCAUSE_LAST = 2 ∧ t.rtc.bin = s.rtc.bin ∧ t.app.doze = false →
      (t.raise0 Src.PWR_CORE_BOR).get F.SYSCTL_RCAUSE_LAST = 2 ∧ (t.raise0 Src.PWR_CORE_BOR).rtc.bin = s.rtc.bin ∧
        (t.raise0 Src.PWR_CORE_BOR).app.doze = false := fun t ht =>
    ⟨(State.raise0_frame.get F.SYSCTL_RCAUSE_LAST_part rfl).trans ht.1,
      (congrArg RtcState.bin (State.raise0_frame.same .rtc rfl : _ = _)).trans ht.2.1, (t.raise0_boots _).doze ht.2.2⟩
  have hlogs : ∀ {t : State}, Frame [.rLogs] s4 t → t.get F.SYSCTL_RCAUSE_LAST = 2 ∧ t.rtc.bin = s.rtc.bin ∧ t.app.doze = false := fun hf =>
    ⟨(hf.get F.SYSCTL_RCAUSE_LAST_part rfl).trans h4.1, (congrArg RtcState.bin (hf.same .rtc rfl : _ = _)).trans h4.2.1,
      (congrArg Core.doze (hf.same .app rfl : _ = _)).trans h4.2.2⟩
  refine hlast _ ?_
  split
  · split
    · exact hlogs State.logRecoverWarm_frame
    · exact hlogs State.logRegs_frame
  · exact h3

/-! Sleep and wake. -/

section

variable {f : Fld} (hp : f.part = .rPwr) (hr : ∀ g ∈ reportFields, f.key ≠ g.key)
include hp hr

/-- The records of the wake sources leave the depth and the power manager's other registers. -/
theorem State.wakeRecords_kept (s : State) : Boots s s.wakeRecords ∧ Same [f] s s.wakeRecords := by
  have hpend : ∀ (t : State) (m : Man) (n : Nat), Boots t (t.setPend m n true) ∧ Same [f] t (t.setPend m n true) := fun t m n =>
    ⟨.of_frame State.setPend_frame rfl rfl, .of_part hp State.setPend_frame rfl⟩
  have hform : ∀ (t : State) (m : Man) (n w2 : Nat), Boots t (t.formRecord m true n w2 0) ∧ Same [f] t (t.formRecord m true n w2 0) := fun t m n w2 =>
    ⟨.of_reports (t.formRecord_reports _ _ _ _ _), (t.formRecord_reports _ _ _ _ _).same hp hr⟩
  have hstart : Boots s { s with power := { s.power with heldSrc := [] } } := ⟨rfl, id⟩
  unfold State.wakeRecords
  refine ⟨hstart.trans (.foldl (fun t n => .ite (.foldl (fun u m => ?_) _ _) .refl) _ _),
    .trans (fun _ _ => rfl) (.foldl (fun t n => .ite (.foldl (fun u m => ?_) _ _) .refl) _ _)⟩
  · exact .ite (hpend _ _ _).1 ((hpend _ _ _).1.trans (hform _ _ _ _).1)
  · exact .ite (hpend _ _ _).2 ((hpend _ _ _).2.trans (hform _ _ _ _).2)

theorem State.tideToFast_kept (s : State) : Boots s s.tideToFast ∧ Same [f] s s.tideToFast := by
  have hkey : f.key ≠ F.PWR_DOMS_PG.key := hr _ (by simp [reportFields])
  refine ⟨.of_frame State.tideToFast_frame rfl rfl, ?_⟩
  exact .trans (.trans (.of_part hp State.withTide_frame rfl) (.of_put_key hkey)) (.of_part hp State.pulseOn_frame rfl)

end

/-- What the record of a wake shows. -/
theorem State.wakeRecord_spec (s : State) {d : Nat} (hd : d < 8) (m : Nat) :
    (s.wakeRecord d m).get F.PWR_WAKE_SRC_FROM = d ∧ (s.wakeRecord d m).get F.PWR_WAKE_SEC_SEC = s.tideSec % 2 ^ 32 := by
  unfold State.wakeRecord
  extract_lets src i old s1 p s2
  clear_value s2
  refine ⟨?_, ?_⟩
  · refine (State.get_put_other _ _ (by decide)).trans ((State.get_put_other _ _ (by decide)).trans ((State.get_put_other _ _ (by decide)).trans
      ((State.get_put_other _ _ (by decide)).trans ((State.get_put_same _ _ _).trans (Nat.mod_eq_of_lt hd)))))
  · exact (State.get_put_other _ _ (by decide)).trans (State.get_put_same _ _ _)

/-- The state in which a sleep has ended: the wake is recorded and the domains of the cores, the peripherals and the Tide are back. -/
def State.awake (s : State) (n : Nat) : State :=
  let t := (s.tideSlept n).wakeRecord s.power.depth s.power.latched
  let u := [0, 1, 8, 12].foldl State.domainOn { t with power := { t.power with depth := 0, served := t.power.served + (t.tide.up - s.tide.up) } }
  if u.on F.TP_CTRL_EN then u else u.tideToFast

theorem State.awake_depth (s : State) (n : Nat) : (s.awake n).power.depth = 0 := by
  unfold State.awake
  extract_lets t p u
  have hu : u.power.depth = 0 := (Boots.foldl (fun v d => v.domainOn_boots d) _ _).depth.trans rfl
  clear_value u
  split
  · exact hu
  · exact (State.tideToFast_kept F.PWR_WAKE_SRC_FROM_part (by decide) u).1.depth.trans hu

theorem State.awake_same {f : Fld} (hp : f.part = .rPwr) (hr : ∀ g ∈ reportFields, f.key ≠ g.key) (s : State) (n : Nat) :
    Same [f] ((s.tideSlept n).wakeRecord s.power.depth s.power.latched) (s.awake n) := by
  unfold State.awake
  extract_lets t p u
  have hu : Same [f] t u := .trans (.of_part hp State.set_power_frame rfl) (.foldl (fun v d => v.domainOn_same hp hr d) _ _)
  clear_value u
  exact .ite hu (hu.trans (State.tideToFast_kept hp hr u).2)

/-- The state after the cores have gone on or begun again. -/
def State.coresBack (s t : State) (h : BitVec 3) : State :=
  let w := t.warmPath h
  if s.power.depth = 3 ∨ (s.power.depth = 2 ∧ !(s.on F.PWR_RETAIN_ITCM && s.on F.PWR_RETAIN_DTCM)) then
    { w with power := { w.power with served := w.tide.up } }
  else { t with app := { t.app with doze := false }, sys := { t.sys with doze := false } }

theorem execSleepExit_run {n : Nat} {h : BitVec 3} {s : State} (hd : s.power.depth ≠ 0) (hl : s.power.latched ≠ 0) :
    exec (.sleepExit n h) s = .next ((s.coresBack (s.awake n) h).wakeRecords.raise0 Src.PWR_WAKE) :=
  congrArg Host.Outcome.next (if_neg (by simp [hd, hl]))

theorem State.coresBack_depth (s t : State) (h : BitVec 3) : (s.coresBack t h).power.depth = t.power.depth := by
  unfold State.coresBack
  dsimp only
  split
  · exact (t.warmPath_boots h).2.1
  · rfl

/-- A wake after which the cores go on. -/
theorem execSleepExit_goesOn {n : Nat} {h : BitVec 3} {s : State} (hl : s.power.latched ≠ 0)
    (hd : s.power.depth = 1 ∨ (s.power.depth = 2 ∧ s.on F.PWR_RETAIN_ITCM = true ∧ s.on F.PWR_RETAIN_DTCM = true)) :
    ∃ t : State, exec (.sleepExit n h) s = .next t ∧ t.power.depth = 0 ∧ t.app.doze = false ∧ t.sys.doze = false ∧
      t.get F.PWR_WAKE_SRC_FROM = s.power.depth ∧ t.get F.PWR_WAKE_SEC_SEC = (s.tideSlept n).tideSec % 2 ^ 32 := by
  have hasleep : s.power.depth ≠ 0 := by omega
  have hback : s.coresBack (s.awake n) h =
      { s.awake n with app := { (s.awake n).app with doze := false }, sys := { (s.awake n).sys with doze := false } } := by
    refine if_neg ?_
    rcases hd with hd | ⟨hd, hitcm, hdtcm⟩
    · simp [hd]
    · simp [hd, hitcm, hdtcm]
  have hdepth := s.awake_depth n
  have hsame : ∀ f : Fld, f.part = .rPwr → (∀ g ∈ reportFields, f.key ≠ g.key) →
      ((s.coresBack (s.awake n) h).wakeRecords.raise0 Src.PWR_WAKE).get f =
        ((s.tideSlept n).wakeRecord s.power.depth s.power.latched).get f := fun f hp hr => by
    refine (((State.wakeRecords_kept hp hr _).2.trans ((State.raise0_reports _ _).same hp hr)).get).trans ?_
    rw [hback]
    exact (State.awake_same hp hr s n).get
  obtain ⟨hfrom, hsec⟩ := (s.tideSlept n).wakeRecord_spec (show s.power.depth < 8 by omega) s.power.latched
  refine ⟨_, execSleepExit_run hasleep hl, ?_, ?_, ?_, (hsame _ F.PWR_WAKE_SRC_FROM_part (by decide)).trans hfrom,
    (hsame _ (of_decide_eq_true rfl) (by decide)).trans hsec⟩
  · refine (State.raise0_boots _ _).depth.trans ((State.wakeRecords_kept F.PWR_WAKE_SRC_FROM_part (by decide) _).1.depth.trans ?_)
    exact (State.coresBack_depth _ _ _).trans hdepth
  · refine (State.raise0_boots _ _).doze ((State.wakeRecords_kept F.PWR_WAKE_SRC_FROM_part (by decide) _).1.doze ?_)
    rw [hback]
  · refine (congrArg Core.doze (State.raise0_frame.same .sys rfl : _ = _)).trans ((congrArg Core.doze (State.wakeRecords_frame.same .sys rfl : _ = _)).trans ?_)
    rw [hback]

theorem execSleepExit_depth {n : Nat} {h : BitVec 3} {s : State} (hd : s.power.depth ≠ 0) (hl : s.power.latched ≠ 0) :
    ∃ t : State, exec (.sleepExit n h) s = .next t ∧ t.power.depth = 0 := by
  refine ⟨_, execSleepExit_run hd hl, ?_⟩
  refine (State.raise0_boots _ _).depth.trans ((State.wakeRecords_kept F.PWR_WAKE_SRC_FROM_part (by decide) _).1.depth.trans ?_)
  exact (State.coresBack_depth _ _ _).trans (s.awake_depth n)

/-- The entry into a sleep; Top-note leaves memory and both cores as they are. -/
theorem execSleepEntry_enters {s : State} (hmay : s.maySleep = true) (hd : min (s.get F.PWR_SLEEP_DEPTH) s.maxDepth ≠ 0) :
    ∃ t : State, exec .sleepEntry s = .next t ∧ t.power.depth = min (s.get F.PWR_SLEEP_DEPTH) s.maxDepth ∧ t.power.latched = 0 ∧
      (min (s.get F.PWR_SLEEP_DEPTH) s.maxDepth = 1 → t.mem = s.mem ∧ t.app = s.app ∧ t.sys = s.sys) := by
  refine ⟨_, congrArg Host.Outcome.next (if_pos ⟨hmay, hd⟩), rfl, rfl, fun hone => ?_⟩
  have hframe : Frame [.rClk, .rPwr, .rTp, .tide] s
      ((if s.on F.TP_CTRL_EN then s.deriveGates else s.deriveGates.tideToAon).flag F.PWR_REG_SLP_LDO
        ((if s.on F.TP_CTRL_EN then s.deriveGates else s.deriveGates.tideToAon).heldWeights ≤ 25)) :=
    (Frame.ite (State.deriveGates_frame.mono rfl) ((State.deriveGates_frame.mono rfl).trans (State.tideToAon_frame.mono rfl))).trans
      (State.flag_frame (of_decide_eq_true rfl : F.PWR_REG_SLP_LDO.part = .rPwr) rfl)
  simp only [hone, if_neg (show ¬ 2 ≤ 1 by decide)]
  exact ⟨hframe.same .mem rfl, hframe.same .app rfl, hframe.same .sys rfl⟩

end Sys2Proof.Machine

namespace Sys2Proof
open Sys2Proof.Machine

/-- Settles O34: a wake goes through `State.awake`, the power-down switches its domains off one after the other, and the resets keep
what `State.coldPath_boots` says. -/
theorem sleepWakeAndBrownOut : Obligations.SleepWakeAndBrownOut := by
  unfold Obligations.SleepWakeAndBrownOut
  refine ⟨fun x d w a b s h => ⟨congrArg Host.Outcome.next (run_accepts h _), ?retain⟩,
    fun x s h => ⟨congrArg Host.Outcome.next (run_accepts h _), congrArg Host.Outcome.next (run_accepts h _)⟩,
    fun s => ⟨fun hno => ?stays, fun hmay hd => execSleepEntry_enters hmay hd⟩,
    fun n h s => ⟨fun hno => congrArg Host.Outcome.next (if_pos hno), fun hd hl => execSleepExit_depth hd hl, fun hd hl => execSleepExit_goesOn hl hd⟩,
    fun s => ⟨?holdOk, ?holdLow⟩,
    fun c s => ⟨fun hbor hc => execPwrBorWarn_begins hbor hc, fun hno => congrArg Host.Outcome.next (if_pos hno)⟩,
    fun s => ⟨fun hbor => congrArg Host.Outcome.next (if_neg hbor), fun hbor => ⟨_, congrArg Host.Outcome.next (if_pos hbor), rfl, rfl⟩⟩,
    fun s => ⟨fun hbor => congrArg Host.Outcome.next (if_neg hbor), fun hbor => ?grace⟩,
    fun s => ⟨_, rfl, rfl, rfl⟩,
    fun h s => ⟨fun hvbor => congrArg Host.Outcome.next (if_neg (by simp [hvbor])), fun hvbor => ?released⟩,
    fun h s => execCoreBrownOut_restarts h s⟩
  case retain =>
    refine ⟨_, congrArg Host.Outcome.next (run_accepts h _), ?_, ?_, State.on_flag _ b rfl⟩
    · refine (State.get_put_other _ _ (by decide)).trans ((State.get_put_other _ _ (by decide)).trans ((State.get_put_same _ _ _).trans ?_))
      exact Nat.mod_eq_of_lt w.isLt
    · exact (State.on_congr (State.get_put_other _ _ (by decide))).trans (State.on_flag _ a rfl)
  case stays =>
    refine congrArg Host.Outcome.next (if_neg ?_)
    rcases hno with hmay | hd
    · simp [hmay]
    · exact fun hc => hc.2 hd
  case holdOk =>
    have hsave : (s.put F.PWR_STAT_HOLD_OK 1).on F.PWR_BOR_SAVE_EN = s.on F.PWR_BOR_SAVE_EN := State.on_congr (State.get_put_other _ _ (by decide))
    have hok : (s.put F.PWR_STAT_HOLD_OK 1).get F.PWR_STAT_HOLD_OK = 1 := State.get_put_same _ _ _
    have hon : (s.put F.PWR_STAT_HOLD_OK 1).on F.PWR_STAT_HOLD_OK = true := by
      unfold State.on
      rw [hok]
      rfl
    refine ⟨_, rfl, (State.get_put_other _ _ (by decide)).trans hok, (State.on_flag _ _ rfl).trans ?_⟩
    rw [hon, hsave, Bool.true_and]
  case holdLow =>
    have hlow : (s.put F.PWR_STAT_HOLD_OK 0).get F.PWR_STAT_HOLD_OK = 0 := State.get_put_same _ _ _
    have hrearm : (s.put F.PWR_STAT_HOLD_OK 0).rearm.get F.PWR_STAT_HOLD_OK = 0 ∧ (s.put F.PWR_STAT_HOLD_OK 0).rearm.get F.PWR_STAT_ARMED = 0 := by
      refine ⟨(State.get_put_other _ _ (by decide)).trans hlow, State.on_eq_false_iff.1 ((State.on_flag _ _ rfl).trans ?_)⟩
      rw [State.on_eq_false_iff.2 hlow, Bool.false_and]
    have hsame : ∀ f : Fld, f.part = .rPwr → (∀ g ∈ reportFields, f.key ≠ g.key) → Same [f] (s.put F.PWR_STAT_HOLD_OK 0).rearm
        (if s.on F.PWR_PATH_VBAT_OK || s.on F.PWR_PATH_STORE_OK then (s.put F.PWR_STAT_HOLD_OK 0).rearm.raise0 Src.PWR_HOLD_LOW
          else (s.put F.PWR_STAT_HOLD_OK 0).rearm) := fun f hp hr => .ite ((State.raise0_reports _ _).same hp hr) .refl
    exact ⟨_, rfl, (hsame _ (of_decide_eq_true rfl) (by decide)).get.trans hrearm.1, (hsame _ (of_decide_eq_true rfl) (by decide)).get.trans hrearm.2⟩
  case grace =>
    cases harmed : s.power.borArmed with
    | false =>
      exact ⟨_, congrArg Host.Outcome.next ((if_pos hbor).trans (if_neg (by simp [harmed]))), rfl, fun _ => rfl, fun h => absurd h (by simp)⟩
    | true =>
      have hsupply := State.finishProgram_supply { s with power := { s.power with bor := 2, appHeld := true } }
      exact ⟨_, congrArg Host.Outcome.next ((if_pos hbor).trans (if_pos harmed)), (congrArg Power.appHeld hsupply :), fun h => absurd h (by simp),
        fun _ => (congrArg Power.bor hsupply :)⟩
  case released =>
    refine ⟨_, congrArg Host.Outcome.next (if_pos hvbor), (State.coldPath_boots _ h).vbor, ?_⟩
    exact (State.coldPath_boots _ h).cause.get.trans (State.recordCause_last _ (by decide) _)

end Sys2Proof
